-- ==== Sys2Proof/Word.lean ====
section
/-!
DEFINITION. The word types of the LN-6416 and its plainest arithmetic: 32-bit register words (R10), bytes,
the eight ports and sixteen engines (Table 0.7), fields of a number, two's complement.
-/

namespace Sys2Proof

/-- A register word (R10). -/
abbrev Word := BitVec 32

/-- A byte of a store, a frame or a record. -/
abbrev Byte := BitVec 8

/-- Ports PT0-PT7. -/
abbrev Port := Fin 8

/-- Engines E0-E15. -/
abbrev Engine := Fin 16

/-- Bits `[lo+w-1:lo]` of a number. -/
def bitsOf (v lo w : Nat) : Nat := (v / 2 ^ lo) % 2 ^ w

/-- `v` with bits `[lo+w-1:lo]` replaced by the low `w` bits of `x`. -/
def setBits (v lo w x : Nat) : Nat :=
  (v / 2 ^ (lo + w)) * 2 ^ (lo + w) + (x % 2 ^ w) * 2 ^ lo + v % 2 ^ lo

/-- Bit `i` of a number. -/
def bitAt (v i : Nat) : Bool := (v / 2 ^ i) % 2 == 1

/-- The value of the low `w` bits read as two's complement. -/
def signed (w v : Nat) : Int :=
  if v % 2 ^ w < 2 ^ (w - 1) then (v % 2 ^ w : Nat) else (v % 2 ^ w : Nat) - (2 ^ w : Nat)

/-- The `w`-bit two's complement code of an integer. -/
def unsigned (w : Nat) (x : Int) : Nat := (x % (2 ^ w : Nat)).toNat

end Sys2Proof
end

