-- ==== Sys2Proof/Syntax.lean ====
section
/-!
DEFINITION. The commands of the LN-6416, one constructor per row of spec/opcode_table.json, with what each carries from outside.
-/

namespace Sys2Proof

/-- K-codes of an ordered set, as the physical layer sees them (R182). -/
inductive KCode where
  | sync1 | sync2 | sync3 | rst1 | rst2 | other
deriving DecidableEq, Repr

/-- A PD frame on the active CC pin (R184): its ordered set, whether every symbol is a 4b5b data symbol, whether the CRC-32
checks, its bytes from the header on, and whether a record written for it in the store would verify (R20). -/
structure PdFrame where
  set : List KCode
  symbolsOk : Bool
  crcOk : Bool
  storeOk : Bool
  bytes : List Byte
deriving DecidableEq, Repr

/-- What the measurement block samples on a port in one tick (R287): VBUS and VIN in mV and the shunt voltage in µV, six samples each,
the mean FET temperature the B-parameter equation gives with `NTC_CFG`, in 0.125 °C, whether offset calibration succeeded, and the offset in µV. -/
structure PortSamples where
  vbus : List Nat
  vin : List Nat
  ibus : List Int
  temp : Int
  calOk : Bool
  offset : Int
deriving DecidableEq, Repr

/-- Result of the self-test of one comparator copy (R284-R286): passed, failed twice at a check, or a level read-back failure
of the test unit. -/
inductive TestResult where
  | pass
  | fail (check : Fin 8)
  | machine
deriving DecidableEq, Repr

/-- An error in a host transaction (Table 16.3), as the wires show it: a start or stop within a byte, Sr where an acknowledge was due, P or Sr before
the count is complete, a byte beyond count and PEC, a NACK before the last data byte of a read, an acknowledge of a read's PEC, Sr with W
where R was due. -/
inductive BusErr where
  | startInByte | srAtAck | stopInByte | early | extra | nack | ackPec | srWrite
deriving DecidableEq, Repr

/-- How a device loses a bus it drives (R419): on an address bit, on a data bit, or to a start or stop not its own. -/
inductive ArbHow where
  | address | data | stop
deriving DecidableEq, Repr

/-- What comes from outside at a cold boot: levels of the supplies in mV, the level of `TESTEN` (R54), three samples of each strap (R56;
`none`: left open), an external clock on `XIN` (Table 6.2), time from reset release to firmware entry in µs. -/
structure BootIn where
  vsys : Nat
  vddio : Nat
  vconn : Nat
  vbus : Vector Nat 8
  testen : Bool
  role0 : Option (BitVec 3)
  role1 : Option (BitVec 3)
  ad0 : Option (BitVec 3)
  ad1 : Option (BitVec 3)
  refExt : Bool
  us : BitVec 24
deriving DecidableEq, Repr

/-- What comes from outside at a tick boundary: samples of each port (R287), the self-test results of the two copies under test, the level of `MOTN`, how
long after the boundary the TICK frame's start symbol leaves (R328). -/
structure TickIn where
  ports : Vector PortSamples 8
  ra : TestResult
  rb : TestResult
  motn : Bool
  off : BitVec 16
deriving DecidableEq, Repr


/-- Who accesses a register (R44): the host bus, the Hedgerow proxy, an engine. -/
inductive Req where
  | host | hedgerow
  | eng (k : Engine)
deriving DecidableEq, Repr

/-- What comes from outside when an engine executes a bundle: cycles since the tick boundary, stall cycles, the element before which an overrun
stops a repeat, a parity error in the cache line fetched, in a scratch word read, in a word of the central store read. -/
structure BundleIn where
  phase : Fin 5000
  stall : Nat
  stop : Option Nat
  cacheBad : Bool
  scratchBad : Bool
  storeBad : Bool
deriving DecidableEq, Repr

/-- The commands, one constructor per row of the table of commands. An operand that is not the row's own register field is a fact from outside
the device: a level, a measurement, what the wires carried, a check's outcome. -/
inductive Instr where
  /-- POR (R70). -/
  | por
  /-- NRST_LOW (R92). -/
  | nrstLow
  /-- BROWN_OUT (R72). -/
  | brownOut (mv : Nat)
  /-- COLD_BOOT (R93). -/
  | coldBoot (x : BootIn)
  /-- WARM_RESET (R100). -/
  | warmReset (us : BitVec 24)
  /-- RST_REQ (R92). -/
  | rstReq (key : BitVec 16)
  /-- PORT_RST (R160). -/
  | portRst (ports : BitVec 8) (key : BitVec 16)
  /-- PORT_RESET_VBUS_LOW (R160). -/
  | portResetVbusLow (n : Port) (mv : Nat)
  /-- BLOCK_RESET (R46). -/
  | blockReset (pg : BitVec 8)
  /-- BLOCK_RESET_DONE (R46). -/
  | blockResetDone (pg : BitVec 8)
  /-- FREEZE (R38). -/
  | freeze (pg : BitVec 8) (on : Bool)
  /-- PG_EVT_SET (R37). -/
  | pgEvtSet (pg : BitVec 8) (v : Word)
  /-- PG_EVT_CLEAR (R37). -/
  | pgEvtClear (pg : BitVec 8) (v hw : Word)
  /-- PG_LOCK_WRITE (R45). -/
  | pgLockWrite (pg : BitVec 8) (v : Word)
  /-- REGISTER_WRITE (R43). -/
  | registerWrite (rq : Req) (pg off : BitVec 8) (v : Word)
  /-- LOW_WORD_READ (R44). -/
  | lowWordRead (rq : Req) (pg off : BitVec 8)
  /-- READ_CLEAR_FIELD (R11). -/
  | readClearField (rq : Req) (pg off : BitVec 8)
  /-- EVT_FRAME_SEND (R50). -/
  | evtFrameSend
  /-- EVT_FRAME_RECEIVE (R50). -/
  | evtFrameReceive
  /-- TICK_BOUNDARY (R118). -/
  | tickBoundary (x : TickIn)
  /-- DISPATCH_POINT (R126). -/
  | dispatchPoint (testOk : Bool)
  /-- REF_LOSS (R121). -/
  | refLoss
  /-- REF_LOSS_TIMEOUT (R121). -/
  | refLossTimeout
  /-- REF_BACK (R121). -/
  | refBack
  /-- PLCR_POST (R124). -/
  | plcrPost (slot : BitVec 11)
  /-- OVERRUN (R130). -/
  | overrun (k : Engine)
  /-- OVER_BUDGET (R131). -/
  | overBudget (k : Engine)
  /-- TICK_WDOG (R133). -/
  | tickWdog
  /-- OVERRUN_STORM (R134). -/
  | overrunStorm
  /-- ENG_RETIRE (R137). -/
  | engRetire (k : Engine) (key : BitVec 16)
  /-- SCRUB_CHECK (R145). -/
  | scrubCheck (wrong : BitVec 4)
  /-- REWRITE_TEST (R145). -/
  | rewriteTest (same : Bool)
  /-- MIGRATE_DONE (R146). -/
  | migrateDone
  /-- BANK_CMD_RETIRE (R149). -/
  | bankCmdRetire (bank : Fin 16) (key : BitVec 16)
  /-- EXECUTE_BUNDLE (R432). -/
  | executeBundle (k : Engine) (x : BundleIn)
  /-- VDDIO_CHANGE (R68). -/
  | vddioChange (mv : Nat)
  /-- VCONN_IN_LOST (R69). -/
  | vconnInLost (mv : Nat)
  /-- SRC_SWITCH_VSYS (R70). -/
  | srcSwitchVsys (mv : Nat)
  /-- NV_INHIBIT_ASSERT (R73). -/
  | nvInhibitAssert (mv : Nat)
  /-- NV_INHIBIT_CLEAR (R72). -/
  | nvInhibitClear (mv : Nat)
  /-- NV_STABLE (R74). -/
  | nvStable (mv : Nat)
  /-- VSYS_WARN (R72). -/
  | vsysWarn (mv : Nat)
  /-- MODE_REQ_RUN (R76). -/
  | modeReqRun (key : BitVec 16)
  /-- MODE_REQ_DOZE (R76). -/
  | modeReqDoze (key : BitVec 16)
  /-- MODE_REQ_STANDBY (R76). -/
  | modeReqStandby (key : BitVec 16)
  /-- MODE_REQ_SHIP (R81). -/
  | modeReqShip (key : BitVec 16)
  /-- MODE_REQ_ZERO (R88). -/
  | modeReqZero (key : BitVec 16)
  /-- MODE_ENTRY (R77). -/
  | modeEntry
  /-- MODE_ENTRY_BUSY (R77). -/
  | modeEntryBusy
  /-- WAKE (R78). -/
  | wake (src : Fin 6) (n : Port)
  /-- WAKE_TIMER (R25). -/
  | wakeTimer
  /-- ATTACH_WATCH_SAMPLE (R79). -/
  | attachWatchSample (cc : List (Port × Nat × Nat))
  /-- HOST_ADDRESS_WAKE (R80). -/
  | hostAddressWake
  /-- SHIP_WAKE (R81). -/
  | shipWake (src : Fin 7) (n : Port)
  /-- HV_RISE (R82). -/
  | hvRise
  /-- LINE_CYCLE_END (R84). -/
  | lineCycleEnd (rms peak freq : BitVec 16) (dc : Bool)
  /-- MAINS_LOSS (R84). -/
  | mainsLoss
  /-- MAINS_WRITE_SYNC (R86). -/
  | mainsWriteSync
  /-- BARRIER_LINK_LOSS (R87). -/
  | barrierLinkLoss
  /-- BARRIER_CONFIRM (R88). -/
  | barrierConfirm
  /-- BARRIER_TIMEOUT (R88). -/
  | barrierTimeout
  /-- ZERO_WAKE (R89). -/
  | zeroWake (src : Fin 6) (n : Port)
  /-- ZERO_VSYS_VALID (R89). -/
  | zeroVsysValid (mv : Nat)
  /-- CONV_FAIL (R89). -/
  | convFail
  /-- AOS_DATA_ACCESS (R218). -/
  | aosDataAccess (v : Option Word)
  /-- OTP_PROGRAM (R107). -/
  | otpProgram (key : BitVec 16)
  /-- OTP_LOCK (R108). -/
  | otpLock (region : BitVec 3) (key : BitVec 16)
  /-- OTP_CMD_DONE (R107). -/
  | otpCmdDone (weak : Word)
  /-- LOCK_STICKY_SET (R110). -/
  | lockStickySet (v : Word)
  /-- NVD_WRITE (R111). -/
  | nvdWrite (area : Fin 16) (format : BitVec 4) (key : BitVec 16)
  /-- NVD_READ (R111). -/
  | nvdRead (area : Fin 16) (key : BitVec 16)
  /-- NVD_INVALIDATE (R112). -/
  | nvdInvalidate (area : Fin 16) (key : BitVec 16)
  /-- NVD_CMD_DONE (R111). -/
  | nvdCmdDone (verifyOk : Bool)
  /-- DBG_NEW_CHALLENGE (R115). -/
  | dbgNewChallenge (v : BitVec 64) (key : BitVec 16)
  /-- DBG_SUBMIT (R115). -/
  | dbgSubmit (key : BitVec 16)
  /-- DBG_TOKEN_CHECKED (R115). -/
  | dbgTokenChecked
  /-- DBG_ERASE_DONE (R116). -/
  | dbgEraseDone
  /-- GPIO_OUT_SET (R58). -/
  | gpioOutSet (v : BitVec 8)
  /-- GPIO_OUT_CLR (R58). -/
  | gpioOutClr (v : BitVec 8)
  /-- PIN_CFG_WRITE (R60). -/
  | pinCfgWrite (i : Fin 8) (v : Word)
  /-- GPIO_EDGE (R58); `none`: the board stops driving the pad. -/
  | gpioEdge (i : Fin 8) (level : Option Bool)
  /-- CC_LINE_CHANGE (R151). -/
  | ccLineChange (n : Port) (mv1 mv2 : Nat)
  /-- CC_DEBOUNCE (R155). -/
  | ccDebounce (n : Port)
  /-- PD_DEBOUNCE (R155). -/
  | pdDebounce (n : Port)
  /-- DRP_TOGGLE (R155). -/
  | drpToggle (n : Port)
  /-- ERROR_RECOVERY_TIMEOUT (R171). -/
  | errorRecoveryTimeout (n : Port)
  /-- TRY_TIMER (R153). -/
  | tryTimer (n : Port)
  /-- TRYWAIT_TIMEOUT (R153). -/
  | trywaitTimeout (n : Port)
  /-- TRY_SRC_TIMEOUT (R153). -/
  | trySrcTimeout (n : Port)
  /-- SOURCE_DETACH (R166). -/
  | sourceDetach (n : Port) (load : Option Nat)
  /-- SINK_DETACH (R168). -/
  | sinkDetach (n : Port) (mv : Nat)
  /-- DEBUG_ACCESSORY_EXIT (R153). -/
  | debugAccessoryExit (n : Port) (mv : Nat)
  /-- HR_SINK_HOLD_END (R169). -/
  | hrSinkHoldEnd (n : Port)
  /-- VCONN_AUTO_ON (R162). -/
  | vconnAutoOn (n : Port)
  /-- VCONN_RA_PROBE (R162). -/
  | vconnRaProbe (n : Port) (mv : Nat)
  /-- CC_CMD_ERR_REC (R154). -/
  | ccCmdErrRec (n : Port) (key : BitVec 16)
  /-- CC_CMD_VCONN_ON (R162). -/
  | ccCmdVconnOn (n : Port) (key : BitVec 16)
  /-- CC_CMD_VCONN_OFF (R162). -/
  | ccCmdVconnOff (n : Port) (key : BitVec 16)
  /-- VCONN_OVERCURRENT (R163). -/
  | vconnOvercurrent (n : Port)
  /-- VCONN_DISCHARGE_END (R164). -/
  | vconnDischargeEnd (n : Port)
  /-- CC_OVERVOLTAGE (R170). -/
  | ccOvervoltage (n : Port)
  /-- RP_LOST (R174). -/
  | rpLost (n : Port)
  /-- PARTNER_GONE (R174). -/
  | partnerGone (n : Port)
  /-- OWNER_CHECK (R176). -/
  | ownerCheck (n : Port) (mv : Nat)
  /-- RECEIVE_FRAME (R185). -/
  | receiveFrame (n : Port) (f : PdFrame)
  /-- SEND_GOODCRC (R186). -/
  | sendGoodcrc (n : Port)
  /-- AUTO_ANSWER (R208). -/
  | autoAnswer (n : Port)
  /-- TX_REQ (R187). -/
  | txReq (n : Port) (i : Fin 16)
  /-- TX_HEAD_CHECK (R188). -/
  | txHeadCheck (n : Port)
  /-- COLLISION_HOLD_END (R193). -/
  | collisionHoldEnd (n : Port)
  /-- TRANSMIT_FRAME (R183). -/
  | transmitFrame (n : Port)
  /-- GOODCRC_TIMEOUT (R190). -/
  | goodcrcTimeout (n : Port)
  /-- CHUNK_REQUEST_SEND (R197). -/
  | chunkRequestSend (n : Port)
  /-- CHUNK_WAIT_TIMEOUT (R198). -/
  | chunkWaitTimeout (n : Port)
  /-- PDL_CMD_HARD_RESET (R200). -/
  | pdlCmdHardReset (n : Port) (key : BitVec 16)
  /-- HARD_RESET_SENT (R200). -/
  | hardResetSent (n : Port)
  /-- HARD_RESET_RECEIVED (R201). -/
  | hardResetReceived (n : Port)
  /-- PDL_CMD_CABLE_RESET (R203). -/
  | pdlCmdCableReset (n : Port) (key : BitVec 16)
  /-- PDL_CMD_AMS_END (R193). -/
  | pdlCmdAmsEnd (n : Port) (key : BitVec 16)
  /-- PDL_CMD_HR_COMPLETE (R202). -/
  | pdlCmdHrComplete (n : Port) (key : BitVec 16)
  /-- PDL_CMD_CANCEL (R194). -/
  | pdlCmdCancel (n : Port) (key : BitVec 16)
  /-- PDL_CMD_CLEAR_STATS (R217). -/
  | pdlCmdClearStats (n : Port) (key : BitVec 16)
  /-- MSGID_LOAD (R206). -/
  | msgidLoad (n : Port) (v : Word)
  /-- PDL_ENABLE_WRITE (R205). -/
  | pdlEnableWrite (n : Port) (on : Bool)
  /-- XBUF_REL (R214). -/
  | xbufRel (n : Port) (m : BitVec 4)
  /-- RX_RD_WRITE (R215). -/
  | rxRdWrite (n : Port) (i : BitVec 6)
  /-- BIST_CARRIER_END (R209). -/
  | bistCarrierEnd (n : Port)
  /-- CON_COMMIT (R219). -/
  | conCommit (n : Port) (gen : BitVec 8)
  /-- CON_CLEAR (R219). -/
  | conClear (n : Port) (gen : BitVec 8)
  /-- TRANS_GO (R232). -/
  | transGo (n : Port) (vNew : BitVec 12) (gen : BitVec 8)
  /-- TRANSITION_START (R232). -/
  | transitionStart (n : Port)
  /-- TRANS_DONE (R232). -/
  | transDone (n : Port)
  /-- TRANS_FAIL (R232). -/
  | transFail (n : Port)
  /-- ROLE_CMD (R239). -/
  | roleCmd (n : Port) (dfp : Bool) (gen : BitVec 8)
  /-- HR_WAIT_EXPIRY (R235). -/
  | hrWaitExpiry (n : Port)
  /-- HR_VSAFE0 (R235). -/
  | hrVsafe0 (n : Port) (mv : Nat)
  /-- HR_RECOVER_EXPIRY (R235). -/
  | hrRecoverExpiry (n : Port)
  /-- SOURCE_CAPS_SEND (R223). -/
  | sourceCapsSend (n : Port)
  /-- SOURCE_REQUEST_TIMEOUT (R223). -/
  | sourceRequestTimeout (n : Port)
  /-- SINK_CAPS_TIMEOUT (R224). -/
  | sinkCapsTimeout (n : Port)
  /-- REQUEST_EVALUATION (R230). -/
  | requestEvaluation (n : Port) (i : Fin 64)
  /-- SINK_REQUEST (R231). -/
  | sinkRequest (n : Port) (rec : Option (Fin 64))
  /-- PS_RDY_TIMEOUT (R231). -/
  | psRdyTimeout (n : Port)
  /-- PPS_REQUEST_TIMEOUT (R230). -/
  | ppsRequestTimeout (n : Port)
  /-- DR_SWAP_RESPONSE (R238). -/
  | drSwapResponse (n : Port) (rec : Option (Fin 64))
  /-- BATTERY_ANSWER (R242). -/
  | batteryAnswer (n : Port) (i : Fin 64)
  /-- DISCOVERY (R244). -/
  | discovery (n : Port) (rec : Option (Fin 64)) (cable : Bool)
  /-- VDM_RESPONSE_TIMEOUT (R246). -/
  | vdmResponseTimeout (n : Port) (cable : Bool)
  /-- MODE_ENTRY_AUTO (R247). -/
  | modeEntryAuto (n : Port)
  /-- VDM_CMD_REDISCOVER (R255). -/
  | vdmCmdRediscover (n : Port) (key : BitVec 16)
  /-- VDM_CMD_ENTER (R247). -/
  | vdmCmdEnter (n : Port) (key : BitVec 16)
  /-- VDM_CMD_EXIT (R253). -/
  | vdmCmdExit (n : Port) (key : BitVec 16)
  /-- MODE_END_AT_RESET (R253). -/
  | modeEndAtReset (n : Port)
  /-- HPD_LEVEL_WRITE (R249). -/
  | hpdLevelWrite (n : Port) (level : Bool)
  /-- HPD_IRQ (R249). -/
  | hpdIrq (n : Port) (early : Bool)
  /-- HPD_IRQ_END (R249). -/
  | hpdIrqEnd (n : Port)
  /-- UFP_HPD_SAMPLE (R250). -/
  | ufpHpdSample (n : Port)
  /-- HOST_VDM_PASS (R251). -/
  | hostVdmPass (n : Port) (i : Fin 64)
  /-- HOST_TX_GO (R252). -/
  | hostTxGo (n : Port) (count : BitVec 3) (sop : BitVec 2)
  /-- MUXB_GO (R256). -/
  | muxbGo (key : BitVec 16)
  /-- MUXB_ABORT (R257). -/
  | muxbAbort (key : BitVec 16) (bytes : BitVec 5)
  /-- MUXB_DONE (R256). -/
  | muxbDone (result : Fin 8) (acked : BitVec 5) (bytes : List Byte) (pec : Byte)
  /-- MUXB_TIMEOUT (R257). -/
  | muxbTimeout (acked : BitVec 5)
  /-- MINT_EDGE (R256). -/
  | mintEdge (level : Bool)
  /-- FOLDBACK (R263). -/
  | foldback (n : Port) (active : Bool)
  /-- SOA_TIMEOUT (R264). -/
  | soaTimeout (n : Port)
  /-- RAMP_COMPLETE (R265). -/
  | rampComplete (n : Port) (vbusMv vinMv gateMv : Nat)
  /-- RAMP_FAIL (R265). -/
  | rampFail (n : Port)
  /-- TWIN_JOIN (R266). -/
  | twinJoin (n : Port)
  /-- FAST_TRIP (R268). -/
  | fastTrip (n : Port) (sc ovp rcp : Bool)
  /-- UVP_TRIP (R267). -/
  | uvpTrip (n : Port)
  /-- LIMIT_ENTRY (R271). -/
  | limitEntry (n : Port)
  /-- LIMIT_EXIT (R261). -/
  | limitExit (n : Port)
  /-- TRIPPED_VBUS_LOW (R261). -/
  | trippedVbusLow (n : Port) (mv : Nat)
  /-- BACKOFF_EXPIRY (R275). -/
  | backoffExpiry (n : Port)
  /-- BACKOFF_STEP_RESET (R275). -/
  | backoffStepReset (n : Port)
  /-- SHORT_FET (R277). -/
  | shortFet (n : Port) (how : Fin 3)
  /-- DSCH_END (R278). -/
  | dschEnd (n : Port) (mv : Nat) (timeout : Bool)
  /-- DSCH_REST (R279). -/
  | dschRest (n : Port)
  /-- DSCH_REST_END (R279). -/
  | dschRestEnd (n : Port)
  /-- SINK_BLOCK (R280). -/
  | sinkBlock (n : Port)
  /-- SINK_RECLOSE (R280). -/
  | sinkReclose (n : Port) (mv : Nat)
  /-- GUARD_CMD_SNK_CLOSE (R261). -/
  | guardCmdSnkClose (n : Port) (key : BitVec 16)
  /-- GUARD_CMD_SNK_OPEN (R261). -/
  | guardCmdSnkOpen (n : Port) (key : BitVec 16)
  /-- GUARD_CMD_UNRETIRE (R281). -/
  | guardCmdUnretire (n : Port) (key : BitVec 16)
  /-- GUARD_CMD_RETIRE (R276). -/
  | guardCmdRetire (n : Port) (key : BitVec 16)
  /-- CMPT_RETEST (R293). -/
  | cmptRetest (ports : BitVec 8) (key : BitVec 16)
  /-- SHARE_REGULATION (R302). -/
  | shareRegulation (n : Port) (held : Bool)
  /-- DIODE_REGULATION (R297). -/
  | diodeRegulation (n : Port) (held : Bool)
  /-- SHARE_RELEASE (R303). -/
  | shareRelease (n : Port)
  /-- NO_FREE_MEMBER (R303). -/
  | noFreeMember
  /-- SHARE_CMD_RELEASE (R303). -/
  | shareCmdRelease (key : BitVec 16)
  /-- SHARE_CMD_TRIM_CLEAR (R312). -/
  | shareCmdTrimClear (key : BitVec 16)
  /-- TRIM_REQUEST (R306). -/
  | trimRequest (n : Port)
  /-- MEMBER_BLOCK_END (R298). -/
  | memberBlockEnd (n : Port)
  /-- HEDGEROW_FRAME_ARRIVE (R319). -/
  | hedgerowFrameArrive (l : Fin 3) (bytes : List Byte) (aborted : Bool) (codeErrs : Nat) (storeOk : Bool)
  /-- LINK_WORD_RECEIVE (R322). -/
  | linkWordReceive (l : Fin 3) (b1 b2 b3 : BitVec 8)
  /-- ARQ_TIMEOUT (R322). -/
  | arqTimeout (l : Fin 3)
  /-- LOSS_OF_LOCK (R324). -/
  | lossOfLock (l : Fin 3) (fault : Bool)
  /-- LOCK_REGAINED (R324). -/
  | lockRegained (l : Fin 3)
  /-- TRAINING_COMPLETE (R325). -/
  | trainingComplete (l : Fin 3) (delay : BitVec 16)
  /-- LINK_RETIRE_TIMEOUT (R324). -/
  | linkRetireTimeout (l : Fin 3)
  /-- LINK_ERROR_LIMIT (R324). -/
  | linkErrorLimit (l : Fin 3) (more : Nat)
  /-- REPROBE_TIMER (R324). -/
  | reprobeTimer (l : Fin 3)
  /-- PROBING_RESULT (R324). -/
  | probingResult (l : Fin 3) (clean : Bool)
  /-- HG_CMD_RETIRE (R337). -/
  | hgCmdRetire (l : Fin 3) (key : BitVec 16)
  /-- HG_CMD_REPROBE (R337). -/
  | hgCmdReprobe (l : Fin 3) (key : BitVec 16)
  /-- HG_CMD_CLEAR_STATS (R337). -/
  | hgCmdClearStats (l : Fin 3) (key : BitVec 16)
  /-- FLEET_CMD_ENUMERATE (R326). -/
  | fleetCmdEnumerate (key : BitVec 16)
  /-- ENUM_ASSIGN (R326). -/
  | enumAssign
  /-- ENUM_CAL (R326). -/
  | enumCal
  /-- ENUM_DONE (R326). -/
  | enumDone
  /-- ENUM_JOIN_REQ (R327). -/
  | enumJoinReq
  /-- TICK_FRAME_RECEIVE (R328). -/
  | tickFrameReceive (err : Int)
  /-- REG_ACCESS_FRAME (R330). -/
  | regAccessFrame (storeOk : Bool)
  /-- REG_RSP_RECEIVE (R330). -/
  | regRspReceive
  /-- REG_TIMEOUT (R332). -/
  | regTimeout
  /-- WRAP_FRAME_RECEIVE (R324). -/
  | wrapFrameReceive
  /-- ENGINE_FRAME_DELIVER (R333). -/
  | engineFrameDeliver
  /-- FLEET_TX_REQ (R333). -/
  | fleetTxReq (slot : Fin 64)
  /-- STANDBY_TAKEOVER (R334). -/
  | standbyTakeover
  /-- TAKEOVER_RECEIVE (R335). -/
  | takeoverReceive
  /-- ENUM_RETURN (R335). -/
  | enumReturn
  /-- HANDBACK (R335). -/
  | handback
  /-- FLEET_CMD_TAKEOVER (R334). -/
  | fleetCmdTakeover (key : BitVec 16)
  /-- FLEET_CMD_HANDBACK (R335). -/
  | fleetCmdHandback (key : BitVec 16)
  /-- PLACE_CMD_RUN (R343). -/
  | placeCmdRun (key : BitVec 16)
  /-- PLACEMENT_RUN (R344). -/
  | placementRun
  /-- GRANT_RECEIVE (R352). -/
  | grantReceive
  /-- GRANT_APPLY (R346). -/
  | grantApply (entry : Option (Fin 64))
  /-- DEC_CONFIRM_TIMEOUT (R346). -/
  | decConfirmTimeout (n : Port)
  /-- CONTRACT_SEND (R350). -/
  | contractSend (periodic : Bool)
  /-- CONTRACT_RECEIVE (R345). -/
  | contractReceive (entry : Fin 64)
  /-- DEMAND_COMPUTE (R341). -/
  | demandCompute (soc : List (Fin 8 × Nat))
  /-- TELEM_SEND (R351). -/
  | telemSend
  /-- TELEM_RECEIVE (R371). -/
  | telemReceive (entry : Fin 64)
  /-- LEASE_RENEWING (R353). -/
  | leaseRenewing
  /-- LEASE_EXPIRE (R353). -/
  | leaseExpire
  /-- ORPHAN_DECAY (R354). -/
  | orphanDecay
  /-- PLACE_CMD_FLOOR_DONE (R354). -/
  | placeCmdFloorDone (key : BitVec 16)
  /-- NODE_ORPHANED (R355). -/
  | nodeOrphaned (node : Fin 64)
  /-- NODE_COMMIT_RELEASE (R355). -/
  | nodeCommitRelease (node : Fin 64)
  /-- LEDGER_MIRROR_SEND (R356). -/
  | ledgerMirrorSend
  /-- LEDGER_RECEIVE (R356). -/
  | ledgerReceive (entry : Fin 64)
  /-- LEDGER_REBUILD (R358). -/
  | ledgerRebuild (rec : Fin 512) (cfg : Option (BitVec 32 × BitVec 32))
  /-- PORT_SEL_WRITE (R372). -/
  | portSelWrite (node : BitVec 7) (port : BitVec 3)
  /-- POOL_SEL_WRITE (R372). -/
  | poolSelWrite (pool : BitVec 4)
  /-- PLACE_WINDOW_WRITE (R372). -/
  | placeWindowWrite (reg : Fin 5) (v : BitVec 32)
  /-- TWIN_FRAME_SEND (R361). -/
  | twinFrameSend
  /-- TWIN_FRAME_RECEIVE (R361). -/
  | twinFrameReceive (entry : Fin 64)
  /-- MIR_WRITE (R361). -/
  | mirWrite (w7 : BitVec 32)
  /-- TWIN_TAKEOVER (R363). -/
  | twinTakeover (n : Port)
  /-- TWIN_CMD_TAKEOVER (R362). -/
  | twinCmdTakeover (ports : BitVec 8) (key : BitVec 16)
  /-- TAKEOVER_TASK (R364). -/
  | takeoverTask
  /-- TWIN_ROLE_CHOICE (R360). -/
  | twinRoleChoice (n : Port)
  /-- TWIN_CLAIM_YIELD (R360). -/
  | twinClaimYield (n : Port)
  /-- PAIR_LEDGER (R366). -/
  | pairLedger
  /-- ENERGY_CONVERSION (R370). -/
  | energyConversion
  /-- ENGY_CMD_CLEAR (R374). -/
  | engyCmdClear (ports : BitVec 8) (key : BitVec 16)
  /-- CC_CONVERSION (R376). -/
  | ccConversion (shorted : Bool) (code : BitVec 16)
  /-- GAUGE_MEASURE (R378). -/
  | gaugeMeasure (mv : Nat) (tsBid : Option (Int × Nat))
  /-- CELL_MISMATCH (R379). -/
  | cellMismatch
  /-- GAUGE_RUN (R382). -/
  | gaugeRun
  /-- GAUGE_WRITE_BACK (R393). -/
  | gaugeWriteBack (verifyOk : Bool)
  /-- PACK_INSERT (R394). -/
  | packInsert
  /-- PACK_REMOVE (R394). -/
  | packRemove
  /-- AON_PRESENCE_SAMPLE (R394). -/
  | aonPresenceSample (bid : Nat) (temp : Int)
  /-- BATID_CLEAR_SWAP (R400). -/
  | batidClearSwap (key : BitVec 16)
  /-- LEARN_CMD_ABORT (R391). -/
  | learnCmdAbort (key : BitVec 16)
  /-- LEARN_CMD_FORGET (R397). -/
  | learnCmdForget (key : BitVec 16)
  /-- SET_WINDOW_WRITE (R405). -/
  | setWindowWrite (node page off : BitVec 8) (pec : Option (BitVec 8)) (e : Option BusErr)
  /-- SET_WINDOW_READ (R403). -/
  | setWindowRead (pec : Bool) (e : Option (BusErr × Nat))
  /-- READ_BLOCK (R406). -/
  | readBlock (n : BitVec 8) (pec : Bool) (e : Option (BusErr × Nat))
  /-- WRITE_BLOCK (R406). -/
  | writeBlock (n : BitVec 8) (data : List (BitVec 8)) (pec : Option (BitVec 8)) (e : Option BusErr)
  /-- READ_WORD (R406). -/
  | readWord (pec : Bool) (e : Option (BusErr × Nat))
  /-- WRITE_WORD (R406). -/
  | writeWord (v : BitVec 32) (pec : Option (BitVec 8)) (e : Option BusErr)
  /-- EVENT_SUMMARY (R413). -/
  | eventSummary (pec : Bool) (e : Option (BusErr × Nat))
  /-- STORE_WINDOW_WRITE (R414). -/
  | storeWindowWrite (n : BitVec 8) (badSub : Bool) (off : BitVec 24) (data : List (BitVec 8)) (pec : Option (BitVec 8)) (e : Option BusErr)
  /-- STORE_WINDOW_READ (R414). -/
  | storeWindowRead (n : BitVec 8) (off : BitVec 24) (l : BitVec 8) (pec : Bool) (e : Option (BusErr × Nat)) (spoil : Option Nat)
  /-- UPD_BLOCK (R408). -/
  | updBlock (n : BitVec 8) (off : BitVec 32) (data : List (BitVec 8)) (crc : BitVec 16) (pec : Option (BitVec 8)) (e : Option BusErr)
  /-- UPD_COMMIT (R464). -/
  | updCommit (pec : Option (BitVec 8)) (e : Option BusErr)
  /-- STATUS (R412). -/
  | status (pec : Bool) (e : Option (BusErr × Nat))
  /-- READ_WITHOUT_COMMAND (R403). -/
  | readWithoutCommand (pec : Bool) (e : Option (BusErr × Nat))
  /-- QUICK_COMMAND (R401). -/
  | quickCommand (rd : Bool)
  /-- STRETCH_END (R410). -/
  | stretchEnd (us : BitVec 16)
  /-- HELD_DATA_EXPIRE (R411). -/
  | heldDataExpire
  /-- SCL_TIMEOUT (R416). -/
  | sclTimeout (cmd : Option (BitVec 8))
  /-- SDA_STUCK (R416). -/
  | sdaStuck
  /-- HOST_NOTIFY (R417). -/
  | hostNotify (done : Option Bool)
  /-- NOTIFY_HOLD_END (R417). -/
  | notifyHoldEnd
  /-- ARBITRATION_LOST (R419). -/
  | arbitrationLost (how : ArbHow)
  /-- NOTIFY_RETRY (R420). -/
  | notifyRetry (done : Option Bool)
  /-- HOST_CMD_CLEAR_STATS (R425). -/
  | hostCmdClearStats (key : BitVec 16)
  /-- HOST_CMD_NOTIFY_NOW (R425). -/
  | hostCmdNotifyNow (key : BitVec 16)
  /-- UPD_BLOCK_WRITE (R460). -/
  | updBlockWrite (bad : Option (Fin 64 × Bool))
  /-- SESSION_TIMEOUT (R461). -/
  | sessionTimeout
  /-- UPD_CMD_ABORT (R461). -/
  | updCmdAbort (key : BitVec 16)
  /-- UPD_CMD_ACTIVATE (R465). -/
  | updCmdActivate (key : BitVec 16)
  /-- UPD_CMD_CONFIRM (R468). -/
  | updCmdConfirm (switch : Bool) (key : BitVec 16)
  /-- UPD_CMD_DISTRIBUTE (R472). -/
  | updCmdDistribute (key : BitVec 16)
  /-- UPD_CMD_OWNER_LOCK (R463). -/
  | updCmdOwnerLock (key : BitVec 16)
  /-- UPD_CMD_NEW_CHALLENGE (R463). -/
  | updCmdNewChallenge (v : BitVec 64) (key : BitVec 16)
  /-- UPD_CMD_UNLOCK (R463). -/
  | updCmdUnlock (key : BitVec 16)
  /-- TRIAL_TIMER (R466). -/
  | trialTimer
  /-- FIRMWARE_CONFIRM (R469). -/
  | firmwareConfirm
  /-- IMG_START (R470). -/
  | imgStart (entry : Fin 64)
  /-- IMG_SECTION (R470). -/
  | imgSection (entry : Fin 64)
  /-- IMG_DATA (R470). -/
  | imgData (entry : Fin 64) (bad : Option (Fin 64 × Bool))
  /-- IMG_END (R471). -/
  | imgEnd (entry : Fin 64)
  /-- IMG_COMMIT (R470). -/
  | imgCommit (entry : Fin 64)
  /-- IMG_ACTIVATE (R470). -/
  | imgActivate (entry : Fin 64)
  /-- IMG_ABORT (R470). -/
  | imgAbort (entry : Fin 64)
  /-- UPDATE_REPORT (R471). -/
  | updateReport
  /-- DISTRIBUTION_TASK (R472). -/
  | distributionTask (entry : Option (Fin 64)) (late : Bool)
  /-- FLASH_PROGRAM (R474). -/
  | flashProgram (key : BitVec 16)
  /-- FLASH_ERASE (R474). -/
  | flashErase (key : BitVec 16)
  /-- FLASH_CMD_DONE (R474). -/
  | flashCmdDone (verifyOk : Bool)
  /-- FLASH_RD_DATA (R474). -/
  | flashRdData
  /-- VBUS_LEVEL_CHANGE (R153). -/
  | vbusLevelChange (n : Port) (mv : Nat)
  /-- NV_STABLE_CLEAR (R74). -/
  | nvStableClear (mv : Nat)
  /-- BARRIER_LINK_RECOVERY (R87). -/
  | barrierLinkRecovery
  /-- MOTN_ASSERTED (R462). -/
  | motnAsserted
  /-- DEBUG_HALT (R126). -/
  | debugHalt (k : Engine)
  /-- DEBUG_RESUME (R133). -/
  | debugResume (k : Engine)
deriving DecidableEq, Repr

end Sys2Proof
end

