-- ==== Sys2Proof/Decode.lean ====
section
/-!
DEFINITION. The command a word of the table's bits spells. No row of spec/opcode_table.json gives bits: the commands are register accesses, bus transactions and
events, not words, so no word spells one.
-/

namespace Sys2Proof

/-- The command that a word spells by the table's bits: none, as the table gives no row any bits. -/
def decodeTableWord (_nbits _w : Nat) : Option Instr := none

end Sys2Proof
end

