-- ==== Sys2Proof/Config.lean ====
section
/-!
DEFINITION. What the spec leaves open: constants with no body. Nothing can evaluate them, so whatever is proved
holds for every value they might have.
-/

namespace Sys2Proof

/-- A battery profile (Table 15.2): identity window, pack, thresholds, temperature breakpoints with their tables, thermistor. -/
structure Profile where
  bidMin : Nat
  bidMax : Nat
  cells : Nat
  design : Nat
  nominal : Nat
  vid : Nat
  pid : Nat
  edv2 : Nat
  edv1 : Nat
  edv0 : Nat
  eoc : Nat
  taper : Nat
  tau : Nat
  temps : List Int
  ocv : List (List (Int × Int))
  res : List (List Int)
  ntc : Nat
  beta : Nat
deriving DecidableEq, Repr

/-- The profile that the payload of NVD area 4 + s holds (R380): the image's own layout, not given by the spec. -/
opaque Config.profileOf : List Byte → Option Profile

/-- Free values (log entry 1). The argument is the counter `State.fresh`, which every use advances. -/
opaque Config.freeValue : Nat → Word

/-- The design-centre trim of an OTP `TRIM` word (R104): the design's, not given by the spec (log entry 98). -/
opaque Config.trimCentre : Nat → Word

/-- The class `CC[n].LINE` shows of a pin that presents neither Rp nor Rd, from its voltage in mV: Table 7.2 gives none (log entry 108). -/
opaque Config.unseenClass : Nat → BitVec 2

/-- Whether a frame is arriving on a port, by tick and port, as `PDL[n].PG_STAT.RX_BUSY` shows it: a frame is a command only at its end (log entry 114). -/
opaque Config.frameArriving : Nat → Nat → BitVec 1

/-- Further SVIDs of the image's table, in table order (R244, R247): the image's own, not given by the spec. -/
opaque Config.imageSvids : List Nat

/-- Identity objects the image answers Discover Identity with as UFP (R245): ID Header, Cert Stat, Product and product type VDOs. -/
opaque Config.imageIdentity : List Word

/-- The data block of Source_Capabilities_Extended the image holds, but for the present power rating (R493). -/
opaque Config.imageSrcExt : List Byte

/-- Objects of Sink_Capabilities the image holds; the spec states no content. -/
opaque Config.imageSinkCaps : List Word

/-- The data block of Sink_Capabilities_Extended the image holds; the spec states no content. -/
opaque Config.imageSinkExt : List Byte

/-- Largest current, in 10 mA, that the fitted VBUS capacitance of a cold-twinned port allows at a voltage in 50 mV (R365): the board's. -/
opaque Config.coldTwinCap : Nat → Nat

/-- Mode VDOs the image answers Discover Modes with, by SVID (R245). -/
opaque Config.imageModes : Nat → List Word

end Sys2Proof
end

