-- ==== Sys2Proof/Machine/RegTable.lean ====
section
/-!
DEFINITION. The register map: every page of Table 2.9, every register of the pages' tables with the bits that
each access code of Table 0.8 lets a write reach, its reset value, and a name for every field.
The field names are the spec's own, PAGE.REGISTER_FIELD (R9).
-/

namespace Sys2Proof.Machine

/-- A field of a page's register (R9): byte offset of its word in the page, lowest bit, width. -/
structure Fld where
  off : Nat
  lo : Nat
  w : Nat
deriving DecidableEq, Repr

/-- The same field of the word `i` words further on: register `R[i]` of an indexed register. -/
def Fld.at (f : Fld) (i : Nat) : Fld := { f with off := f.off + 4 * i }

/-- One register word of a page: the bits a write replaces (RW; RWL until the page is locked), clears by 1 (W1C) or
sets by 1 (W1S), the bits a read clears (RC), and the reset value (R11, Table 0.8). Bits in none of these masks are
RO, WO or reserved: a write changes nothing stored there. -/
structure RegRow where
  off : Nat
  rw : Nat
  rwl : Nat
  w1c : Nat
  w1s : Nat
  rc : Nat
  rst : Nat
deriving DecidableEq, Repr

/-- `n` registers of one shape at consecutive words. -/
def RegRow.rep (n : Nat) (r : RegRow) : List RegRow :=
  (List.range n).map fun i => { r with off := r.off + 4 * i }

/-- The kinds of register page of Table 2.9. -/
inductive PageKind where
  | id | sys | clk | sup | boot | evt | aon | gpio | cc | pdl | guard | meas | pol | vdm | share | gauge | learn | batid | cmpt | host | muxb | hg | fleet | place | twin | engy | plcr | eng | store | bank | flash | upd | nvd | otp | lock | dbg | mains | test
deriving DecidableEq, Repr

/-- One row of Table 2.9: first page, number of pages, TYPE code, `PG_CAPS`, reset of `PG_CTRL`, whether a write
reaches `PG_CTRL.ENABLE` (its chapter gives the bit a meaning), the `PG_EVT` bits the page defines, its registers. -/
structure PageRow where
  kind : PageKind
  base : Nat
  count : Nat
  type : Nat
  caps : Nat
  ctrl : Nat
  enableRw : Bool
  evt : Nat
  rows : List RegRow
deriving DecidableEq, Repr

namespace ID
def DEVICE_PART : Fld := ⟨0x20, 16, 16⟩
def DEVICE_VARIANT : Fld := ⟨0x20, 8, 8⟩
def DEVICE_GRADE : Fld := ⟨0x20, 0, 8⟩
def SILICON_MASK : Fld := ⟨0x24, 8, 8⟩
def SILICON_STEP : Fld := ⟨0x24, 0, 8⟩
def LOT_LOT : Fld := ⟨0x28, 0, 24⟩
def WAFER_DIE_WAFER : Fld := ⟨0x2c, 24, 8⟩
def WAFER_DIE_DIE_X : Fld := ⟨0x2c, 8, 8⟩
def WAFER_DIE_DIE_Y : Fld := ⟨0x2c, 0, 8⟩
def TEST_DATE_DATE : Fld := ⟨0x30, 0, 24⟩
def UID_LO_UID : Fld := ⟨0x34, 0, 32⟩
def UID_HI_UID : Fld := ⟨0x38, 0, 32⟩
def IDENT_STAT_VALID : Fld := ⟨0x3c, 0, 1⟩
def IDENT_STAT_MARGINAL : Fld := ⟨0x3c, 1, 1⟩
def NODE_INDEX : Fld := ⟨0x40, 0, 7⟩
def NODE_ASSIGNED : Fld := ⟨0x40, 7, 1⟩
def RESOURCES_MAINS : Fld := ⟨0x44, 0, 1⟩
def RESOURCES_PORTS : Fld := ⟨0x44, 8, 8⟩
def RESOURCES_ENGINES : Fld := ⟨0x44, 16, 8⟩
end ID

namespace SYS
def PG_STAT_ROLE : Fld := ⟨0xc, 0, 2⟩
def PG_STAT_ACTING : Fld := ⟨0xc, 2, 2⟩
def PG_STAT_VERDICT_REUSED : Fld := ⟨0xc, 4, 1⟩
def PG_EVT_RESET_DONE : Fld := ⟨0x10, 0, 1⟩
def PG_EVT_MOTN : Fld := ⟨0x10, 1, 1⟩
def RST_REQ_KEY : Fld := ⟨0x20, 16, 16⟩
def RST_REQ_WARM : Fld := ⟨0x20, 0, 1⟩
def PORT_RST_KEY : Fld := ⟨0x24, 16, 16⟩
def PORT_RST_PORT : Fld := ⟨0x24, 0, 8⟩
def RST_CAUSE_POR : Fld := ⟨0x28, 0, 1⟩
def RST_CAUSE_NRST : Fld := ⟨0x28, 1, 1⟩
def RST_CAUSE_BROWNOUT : Fld := ⟨0x28, 2, 1⟩
def RST_CAUSE_SW_WARM : Fld := ⟨0x28, 3, 1⟩
def RST_CAUSE_TICK_WDOG : Fld := ⟨0x28, 4, 1⟩
def RST_CAUSE_OVERRUN : Fld := ⟨0x28, 5, 1⟩
def MOTION_SET : Fld := ⟨0x2c, 0, 1⟩
def MOTION_PIN : Fld := ⟨0x2c, 1, 1⟩
def MOTION_RECENT : Fld := ⟨0x2c, 2, 1⟩
end SYS

namespace CLK
def PG_STAT_PLL_LOCK : Fld := ⟨0xc, 0, 1⟩
def PG_STAT_REF_OK : Fld := ⟨0xc, 1, 1⟩
def PG_STAT_REF_EXT : Fld := ⟨0xc, 2, 1⟩
def PG_STAT_RUNNING : Fld := ⟨0xc, 3, 1⟩
def PG_EVT_REF_LOSS : Fld := ⟨0x10, 0, 1⟩
def PG_EVT_REF_BACK : Fld := ⟨0x10, 1, 1⟩
def PG_EVT_MATCH : Fld := ⟨0x10, 2, 1⟩
def TICK_LO_TICK : Fld := ⟨0x20, 0, 32⟩
def TICK_HI_TICK : Fld := ⟨0x24, 0, 16⟩
def PHASE_CYCLE : Fld := ⟨0x28, 0, 13⟩
def PHASE_LENGTH : Fld := ⟨0x28, 16, 13⟩
def TICK_ADJ_ADJ : Fld := ⟨0x2c, 0, 8⟩
def TICK_ADJ_COUNT : Fld := ⟨0x2c, 16, 16⟩
def MATCH_TICK : Fld := ⟨0x30, 0, 32⟩
end CLK

namespace SUP
def PG_STAT_SRC : Fld := ⟨0xc, 0, 2⟩
def PG_STAT_VBUS_PORT : Fld := ⟨0xc, 4, 3⟩
def PG_STAT_WARN : Fld := ⟨0xc, 8, 1⟩
def PG_STAT_NV_INHIBIT : Fld := ⟨0xc, 9, 1⟩
def PG_STAT_NV_STABLE : Fld := ⟨0xc, 10, 1⟩
def PG_STAT_VDDIO_OK : Fld := ⟨0xc, 11, 1⟩
def PG_STAT_VDDIO_HI : Fld := ⟨0xc, 12, 1⟩
def PG_STAT_VCONN_OK : Fld := ⟨0xc, 13, 1⟩
def PG_EVT_WARN : Fld := ⟨0x10, 0, 1⟩
def PG_EVT_NV_INH : Fld := ⟨0x10, 1, 1⟩
def PG_EVT_ERASE_ABORT : Fld := ⟨0x10, 2, 1⟩
def PG_EVT_VDDIO_LOST : Fld := ⟨0x10, 3, 1⟩
def PG_EVT_VCONN_LOST : Fld := ⟨0x10, 4, 1⟩
def PG_EVT_SRC_CHANGE : Fld := ⟨0x10, 5, 1⟩
def THR_CFG_NV_INH : Fld := ⟨0x20, 0, 8⟩
def THR_CFG_WARN : Fld := ⟨0x20, 8, 8⟩
def THR_CFG_NV_HYST : Fld := ⟨0x20, 16, 4⟩
end SUP

namespace BOOT
def PG_STAT_RECOVERY : Fld := ⟨0xc, 0, 1⟩
def PG_STAT_RAMP_OK : Fld := ⟨0xc, 1, 1⟩
def PG_STAT_WARM_ENTRY : Fld := ⟨0xc, 2, 1⟩
def PG_EVT_ROLLBACK : Fld := ⟨0x10, 0, 1⟩
def PG_EVT_STAGED_BAD : Fld := ⟨0x10, 1, 1⟩
def PG_EVT_TRIAL_WDOG : Fld := ⟨0x10, 2, 1⟩
def BANK_STAT_ACTIVE : Fld := ⟨0x20, 0, 1⟩
def BANK_STAT_A_STATE : Fld := ⟨0x20, 4, 3⟩
def BANK_STAT_B_STATE : Fld := ⟨0x20, 8, 3⟩
def BANK_STAT_TRIALS : Fld := ⟨0x20, 12, 2⟩
def BANK_STAT_CODE_DIRTY : Fld := ⟨0x20, 16, 1⟩
def VERIFY_OK : Fld := ⟨0x24, 0, 1⟩
def VERIFY_KEY : Fld := ⟨0x24, 4, 3⟩
def VERIFY_FAIL : Fld := ⟨0x24, 8, 4⟩
def BOOT_TIME_US_TIME : Fld := ⟨0x28, 0, 24⟩
def FW_VERSION_VERSION : Fld := ⟨0x2c, 0, 32⟩
end BOOT

namespace EVT
def PEND_PAGE : Fld := ⟨0x20, 0, 32⟩
def ATTN_EN_PAGE : Fld := ⟨0x40, 0, 32⟩
def FAULT_EN_PAGE : Fld := ⟨0x60, 0, 32⟩
def NODE_SUM_ANY : Fld := ⟨0x80, 0, 1⟩
def NODE_SUM_ATTN : Fld := ⟨0x80, 1, 1⟩
def NODE_SUM_FAULT : Fld := ⟨0x80, 2, 1⟩
def NODE_SUM_FIRST : Fld := ⟨0x80, 8, 8⟩
end EVT

namespace AON
def MODE_REQ_KEY : Fld := ⟨0x20, 16, 16⟩
def MODE_REQ_MODE : Fld := ⟨0x20, 0, 3⟩
def MODE_STAT_MODE : Fld := ⟨0x24, 0, 3⟩
def MODE_STAT_RESULT : Fld := ⟨0x24, 8, 3⟩
def PG_EVT_MODE_DONE : Fld := ⟨0x10, 0, 1⟩
def WAKE_EN_SRC : Fld := ⟨0x28, 0, 6⟩
def LAST_WAKE_SRC : Fld := ⟨0x2c, 0, 7⟩
def LAST_WAKE_FROM_SHIP : Fld := ⟨0x2c, 7, 1⟩
def LAST_WAKE_PORT : Fld := ⟨0x2c, 16, 3⟩
def WATCH_CFG_PORTS : Fld := ⟨0x30, 0, 8⟩
def WAKE_TIMER_MS_PERIOD : Fld := ⟨0x34, 0, 24⟩
def DOZE_CFG_AUTO : Fld := ⟨0x38, 0, 1⟩
def AOS_ADDR_WORD : Fld := ⟨0x3c, 2, 12⟩
def AOS_DATA_DATA : Fld := ⟨0x40, 0, 32⟩
end AON

namespace GPIO
def PG_CAPS_PINS : Fld := ⟨0x4, 0, 8⟩
def PG_CTRL_ENABLE : Fld := ⟨0x8, 0, 1⟩
def PG_STAT_HELD : Fld := ⟨0xc, 0, 8⟩
def PG_EVT_EDGE : Fld := ⟨0x10, 0, 8⟩
def PIN_CFG_FUNC : Fld := ⟨0x20, 0, 4⟩
def PIN_CFG_PORT : Fld := ⟨0x20, 4, 3⟩
def PIN_CFG_PULL : Fld := ⟨0x20, 8, 2⟩
def PIN_CFG_EDGE : Fld := ⟨0x20, 10, 2⟩
def PIN_CFG_INV : Fld := ⟨0x20, 12, 1⟩
def OUT_LEVEL : Fld := ⟨0x40, 0, 8⟩
def OUT_SET_SET : Fld := ⟨0x44, 0, 8⟩
def OUT_CLR_CLR : Fld := ⟨0x48, 0, 8⟩
def IN_LEVEL : Fld := ⟨0x4c, 0, 8⟩
end GPIO

namespace CC
def PG_CAPS_RP_VALUES : Fld := ⟨0x4, 0, 3⟩
def PG_CAPS_VCONN : Fld := ⟨0x4, 3, 1⟩
def PG_CAPS_ACC : Fld := ⟨0x4, 4, 1⟩
def PG_CAPS_TWIN : Fld := ⟨0x4, 5, 1⟩
def PG_CTRL_ENABLE : Fld := ⟨0x8, 0, 1⟩
def PG_STAT_STATE : Fld := ⟨0xc, 0, 5⟩
def PG_STAT_ATTACHED : Fld := ⟨0xc, 5, 1⟩
def PG_STAT_SOURCE : Fld := ⟨0xc, 6, 1⟩
def PG_STAT_POLARITY : Fld := ⟨0xc, 7, 1⟩
def PG_STAT_RP_ADV : Fld := ⟨0xc, 8, 2⟩
def PG_STAT_ACC : Fld := ⟨0xc, 10, 2⟩
def PG_STAT_VCONN_ON : Fld := ⟨0xc, 12, 1⟩
def PG_STAT_CLAMP : Fld := ⟨0xc, 13, 1⟩
def PG_STAT_TWIN_MODE : Fld := ⟨0xc, 14, 2⟩
def PG_STAT_GEN : Fld := ⟨0xc, 16, 8⟩
def PG_EVT_ATTACH : Fld := ⟨0x10, 0, 1⟩
def PG_EVT_DETACH : Fld := ⟨0x10, 1, 1⟩
def PG_EVT_RP_CHANGE : Fld := ⟨0x10, 2, 1⟩
def PG_EVT_ACCESSORY : Fld := ⟨0x10, 3, 1⟩
def PG_EVT_VCONN_OC : Fld := ⟨0x10, 4, 1⟩
def PG_EVT_VCONN_DENIED : Fld := ⟨0x10, 5, 1⟩
def PG_EVT_CC_OVP : Fld := ⟨0x10, 6, 1⟩
def PG_EVT_RP_LOST : Fld := ⟨0x10, 7, 1⟩
def PG_EVT_PARTNER_GONE : Fld := ⟨0x10, 8, 1⟩
def PG_EVT_CLAMP_SUSPECT : Fld := ⟨0x10, 9, 1⟩
def PG_EVT_HR_TIMEOUT : Fld := ⟨0x10, 10, 1⟩
def PG_EVT_RETIRED : Fld := ⟨0x10, 11, 1⟩
def CFG_ROLE : Fld := ⟨0x20, 0, 2⟩
def CFG_RP : Fld := ⟨0x20, 2, 2⟩
def CFG_TRY : Fld := ⟨0x20, 4, 2⟩
def CFG_ACC_EN : Fld := ⟨0x20, 6, 1⟩
def CFG_VCONN_EN : Fld := ⟨0x20, 7, 1⟩
def CFG_DB_CLAMP : Fld := ⟨0x20, 8, 1⟩
def CFG_TWIN : Fld := ⟨0x20, 9, 2⟩
def TDEB_CC_DEB_MS : Fld := ⟨0x24, 0, 8⟩
def TDEB_PD_DEB_MS : Fld := ⟨0x24, 8, 8⟩
def TDEB_ERR_REC_MS : Fld := ⟨0x24, 16, 8⟩
def TDRP_DRP_MS : Fld := ⟨0x28, 0, 8⟩
def TDRP_DUTY : Fld := ⟨0x28, 8, 8⟩
def TDRP_TRY_MS : Fld := ⟨0x28, 16, 8⟩
def TTRY_TRYWAIT_MS : Fld := ⟨0x2c, 0, 10⟩
def TTRY_TRY_TO_MS : Fld := ⟨0x2c, 16, 11⟩
def SNK_DISC_LEVEL : Fld := ⟨0x30, 0, 10⟩
def SNK_DISC_PCT : Fld := ⟨0x30, 16, 8⟩
def VCONN_CFG_ILIM : Fld := ⟨0x34, 0, 6⟩
def VCONN_CFG_PLIM : Fld := ⟨0x34, 8, 8⟩
def LINE_CC1_V : Fld := ⟨0x38, 0, 11⟩
def LINE_CC1_CLS : Fld := ⟨0x38, 12, 2⟩
def LINE_CC2_V : Fld := ⟨0x38, 16, 11⟩
def LINE_CC2_CLS : Fld := ⟨0x38, 28, 2⟩
def VCONN_STAT_I : Fld := ⟨0x3c, 0, 8⟩
def VCONN_STAT_P_AVG : Fld := ⟨0x3c, 16, 8⟩
def VCONN_STAT_LIMITING : Fld := ⟨0x3c, 24, 1⟩
def CMD_KEY : Fld := ⟨0x40, 16, 16⟩
def CMD_ERR_REC : Fld := ⟨0x40, 0, 1⟩
def CMD_VCONN_ON : Fld := ⟨0x40, 1, 1⟩
def CMD_VCONN_OFF : Fld := ⟨0x40, 2, 1⟩
def SHADOW_WATCH_ACTIVE : Fld := ⟨0x44, 0, 1⟩
def SHADOW_WATCH_OWNER_RP : Fld := ⟨0x44, 1, 1⟩
def SHADOW_WATCH_PARTNER : Fld := ⟨0x44, 2, 1⟩
def SHADOW_WATCH_MIRRORED : Fld := ⟨0x44, 3, 1⟩
def SHADOW_WATCH_RP_VAL : Fld := ⟨0x44, 4, 2⟩
def TASK_CC_ENTRY : Fld := ⟨0x48, 0, 18⟩
def TASK_CC_BUDGET : Fld := ⟨0x48, 20, 8⟩
def TASK_CC_DL_TK : Fld := ⟨0x48, 28, 4⟩
end CC

namespace PDL
def PG_CAPS_SOP_TYPES : Fld := ⟨0x4, 0, 3⟩
def PG_CAPS_CHUNKED : Fld := ⟨0x4, 3, 1⟩
def PG_CAPS_UNCHUNKED : Fld := ⟨0x4, 4, 1⟩
def PG_CTRL_ENABLE : Fld := ⟨0x8, 0, 1⟩
def PG_CTRL_BLOCK_RESET : Fld := ⟨0x8, 1, 1⟩
def PG_STAT_HELD : Fld := ⟨0xc, 0, 1⟩
def PG_STAT_HR_PENDING : Fld := ⟨0xc, 1, 1⟩
def PG_STAT_RX_BUSY : Fld := ⟨0xc, 2, 1⟩
def PG_STAT_TX_BUSY : Fld := ⟨0xc, 3, 1⟩
def PG_STAT_AMS : Fld := ⟨0xc, 4, 1⟩
def PG_STAT_BIST : Fld := ⟨0xc, 5, 1⟩
def PG_STAT_CHUNK_RX : Fld := ⟨0xc, 6, 1⟩
def PG_STAT_CHUNK_TX : Fld := ⟨0xc, 7, 1⟩
def PG_EVT_RX : Fld := ⟨0x10, 0, 1⟩
def PG_EVT_TX_DONE : Fld := ⟨0x10, 1, 1⟩
def PG_EVT_TX_FAIL : Fld := ⟨0x10, 2, 1⟩
def PG_EVT_HR_RCVD : Fld := ⟨0x10, 3, 1⟩
def PG_EVT_HR_SENT : Fld := ⟨0x10, 4, 1⟩
def PG_EVT_CR_SENT : Fld := ⟨0x10, 5, 1⟩
def PG_EVT_RX_FULL : Fld := ⟨0x10, 6, 1⟩
def PG_EVT_STORE_ERR : Fld := ⟨0x10, 7, 1⟩
def PG_EVT_GEN_DISCARD : Fld := ⟨0x10, 8, 1⟩
def PG_EVT_CHUNK_ERR : Fld := ⟨0x10, 9, 1⟩
def PG_EVT_AUTO_NS : Fld := ⟨0x10, 10, 1⟩
def PG_EVT_BIST : Fld := ⟨0x10, 11, 1⟩
def PG_EVT_SOFT_RESET : Fld := ⟨0x10, 12, 1⟩
def PG_EVT_CMD_REFUSED : Fld := ⟨0x10, 13, 1⟩
def CFG_REV : Fld := ⟨0x20, 0, 2⟩
def CFG_REV_CBL : Fld := ⟨0x20, 2, 2⟩
def CFG_DATA_ROLE : Fld := ⟨0x20, 4, 1⟩
def CFG_SOP1_EN : Fld := ⟨0x20, 5, 1⟩
def CFG_SOP2_EN : Fld := ⟨0x20, 6, 1⟩
def CFG_BIST_EN : Fld := ⟨0x20, 7, 1⟩
def TIMING_SINKTX_MS : Fld := ⟨0x24, 0, 8⟩
def TIMING_CHUNK_TO_MS : Fld := ⟨0x24, 8, 8⟩
def AUTO_NS_ENTER_USB : Fld := ⟨0x28, 0, 1⟩
def AUTO_NS_DATA_RESET : Fld := ⟨0x28, 1, 1⟩
def AUTO_NS_SECURITY : Fld := ⟨0x28, 2, 1⟩
def AUTO_NS_FW_UPDATE : Fld := ⟨0x28, 3, 1⟩
def AUTO_NS_COUNTRY : Fld := ⟨0x28, 4, 1⟩
def TASK_RX_ENTRY : Fld := ⟨0x2c, 0, 18⟩
def TASK_TX_ENTRY : Fld := ⟨0x30, 0, 18⟩
def TASK_HR_ENTRY : Fld := ⟨0x34, 0, 18⟩
def TASK_ERR_ENTRY : Fld := ⟨0x38, 0, 18⟩
def TASK_RX_BUDGET : Fld := ⟨0x2c, 20, 8⟩
def TASK_TX_BUDGET : Fld := ⟨0x30, 20, 8⟩
def TASK_HR_BUDGET : Fld := ⟨0x34, 20, 8⟩
def TASK_ERR_BUDGET : Fld := ⟨0x38, 20, 8⟩
def TASK_RX_DL_TK : Fld := ⟨0x2c, 28, 4⟩
def TASK_TX_DL_TK : Fld := ⟨0x30, 28, 4⟩
def TASK_HR_DL_TK : Fld := ⟨0x34, 28, 4⟩
def TASK_ERR_DL_TK : Fld := ⟨0x38, 28, 4⟩
def TX_REQ_SLOT : Fld := ⟨0x3c, 0, 4⟩
def TX_STAT_DEPTH : Fld := ⟨0x40, 0, 3⟩
def TX_STAT_HEAD : Fld := ⟨0x40, 4, 4⟩
def TX_STAT_LAST : Fld := ⟨0x40, 16, 4⟩
def TX_STAT_LAST_STATUS : Fld := ⟨0x40, 24, 4⟩
def RX_WR_INDEX : Fld := ⟨0x44, 0, 6⟩
def RX_WR_SEQ : Fld := ⟨0x44, 16, 16⟩
def RX_RD_INDEX : Fld := ⟨0x48, 0, 6⟩
def XBUF_STAT_RX_BUSY : Fld := ⟨0x4c, 0, 4⟩
def XBUF_STAT_RX_READY : Fld := ⟨0x4c, 4, 4⟩
def XBUF_STAT_TX_BUSY : Fld := ⟨0x4c, 8, 4⟩
def XBUF_REL_REL : Fld := ⟨0x50, 0, 4⟩
def CMD_KEY : Fld := ⟨0x54, 16, 16⟩
def CMD_HARD_RESET : Fld := ⟨0x54, 0, 1⟩
def CMD_CABLE_RESET : Fld := ⟨0x54, 1, 1⟩
def CMD_AMS_END : Fld := ⟨0x54, 2, 1⟩
def CMD_HR_COMPLETE : Fld := ⟨0x54, 3, 1⟩
def CMD_CANCEL : Fld := ⟨0x54, 4, 1⟩
def CMD_CLEAR_STATS : Fld := ⟨0x54, 5, 1⟩
def MSGID_TX_SOP : Fld := ⟨0x58, 0, 3⟩
def MSGID_TX_SOP1 : Fld := ⟨0x58, 4, 3⟩
def MSGID_TX_SOP2 : Fld := ⟨0x58, 8, 3⟩
def MSGID_RX_SOP : Fld := ⟨0x58, 16, 3⟩
def MSGID_RX_SOP1 : Fld := ⟨0x58, 20, 3⟩
def MSGID_RX_SOP2 : Fld := ⟨0x58, 24, 3⟩
def MSGID_RX_V : Fld := ⟨0x58, 19, 1⟩
def MSGID_RX1_V : Fld := ⟨0x58, 23, 1⟩
def MSGID_RX2_V : Fld := ⟨0x58, 27, 1⟩
def MSGID_LOAD_VALUES : Fld := ⟨0x5c, 0, 28⟩
def STAT_RX_GOOD : Fld := ⟨0x60, 0, 16⟩
def STAT_RX_CRC_ERR : Fld := ⟨0x60, 16, 16⟩
def STAT_ERR_DUP : Fld := ⟨0x64, 0, 16⟩
def STAT_ERR_DROP : Fld := ⟨0x64, 16, 16⟩
def STAT_TX_SENT : Fld := ⟨0x68, 0, 16⟩
def STAT_TX_FAIL : Fld := ⟨0x68, 16, 16⟩
def STAT_DISC_GEN : Fld := ⟨0x6c, 0, 16⟩
def STAT_DISC_DISCARDED : Fld := ⟨0x6c, 16, 16⟩
end PDL

namespace GUARD
def PG_CAPS_SRC_PATH : Fld := ⟨0x4, 0, 1⟩
def PG_CAPS_SNK_PATH : Fld := ⟨0x4, 1, 1⟩
def PG_CAPS_DIODE : Fld := ⟨0x4, 2, 1⟩
def PG_CTRL_ENABLE : Fld := ⟨0x8, 0, 1⟩
def PG_CTRL_BLOCK_RESET : Fld := ⟨0x8, 1, 1⟩
def PG_STAT_STATE : Fld := ⟨0xc, 0, 3⟩
def PG_STAT_PATH : Fld := ⟨0xc, 3, 2⟩
def PG_STAT_FB_ACTIVE : Fld := ⟨0xc, 5, 1⟩
def PG_STAT_SNK_BLOCKED : Fld := ⟨0xc, 6, 1⟩
def PG_STAT_SNK_REQ : Fld := ⟨0xc, 7, 1⟩
def PG_STAT_THERM : Fld := ⟨0xc, 8, 2⟩
def PG_STAT_DEGRADED : Fld := ⟨0xc, 10, 1⟩
def PG_STAT_JOIN : Fld := ⟨0xc, 11, 1⟩
def PG_STAT_HOLD : Fld := ⟨0xc, 12, 4⟩
def PG_STAT_DSCH_REST : Fld := ⟨0xc, 16, 1⟩
def PG_EVT_TRIP : Fld := ⟨0x10, 0, 1⟩
def PG_EVT_RAMP_DONE : Fld := ⟨0x10, 1, 1⟩
def PG_EVT_RAMP_FAIL : Fld := ⟨0x10, 2, 1⟩
def PG_EVT_SOA : Fld := ⟨0x10, 3, 1⟩
def PG_EVT_LIMIT : Fld := ⟨0x10, 4, 1⟩
def PG_EVT_RETIRED : Fld := ⟨0x10, 5, 1⟩
def PG_EVT_SHORT_FET : Fld := ⟨0x10, 6, 1⟩
def PG_EVT_THERM_WARN : Fld := ⟨0x10, 7, 1⟩
def PG_EVT_SNK_BLOCK : Fld := ⟨0x10, 8, 1⟩
def PG_EVT_RETRY : Fld := ⟨0x10, 9, 1⟩
def PG_EVT_UNRETIRED : Fld := ⟨0x10, 10, 1⟩
def PG_EVT_CMD_REFUSED : Fld := ⟨0x10, 11, 1⟩
def PG_EVT_DSCH_TO : Fld := ⟨0x10, 12, 1⟩
def CFG_SRC_EN : Fld := ⟨0x20, 0, 1⟩
def CFG_SNK_EN : Fld := ⟨0x20, 1, 1⟩
def OVP_CFG_LEVEL : Fld := ⟨0x24, 0, 10⟩
def OVP_CFG_AUTO : Fld := ⟨0x24, 16, 1⟩
def OVP_CFG_PCT : Fld := ⟨0x24, 20, 4⟩
def UVP_CFG_LEVEL : Fld := ⟨0x28, 0, 10⟩
def UVP_CFG_AUTO : Fld := ⟨0x28, 16, 1⟩
def UVP_CFG_PCT : Fld := ⟨0x28, 20, 4⟩
def ILIM_LIMIT : Fld := ⟨0x2c, 0, 10⟩
def ILIM_AUTO_DEF : Fld := ⟨0x2c, 16, 1⟩
def SC_CFG_LEVEL : Fld := ⟨0x30, 0, 10⟩
def SC_CFG_RAMP_LEVEL : Fld := ⟨0x30, 16, 10⟩
def RCP_CFG_LEVEL : Fld := ⟨0x34, 0, 10⟩
def OCP_CFG_LEVEL : Fld := ⟨0x38, 0, 12⟩
def OCP_CFG_TK : Fld := ⟨0x38, 16, 8⟩
def RAMP_CFG_GATE_UA : Fld := ⟨0x3c, 0, 6⟩
def RAMP_CFG_FB_ILIM : Fld := ⟨0x3c, 8, 10⟩
def SOA_CFG_SOA_US : Fld := ⟨0x40, 0, 10⟩
def SOA_CFG_FB_P : Fld := ⟨0x40, 16, 16⟩
def RAMP_EXP_EXP_US : Fld := ⟨0x44, 0, 16⟩
def THERM_CFG_WARN : Fld := ⟨0x48, 0, 16⟩
def THERM_CFG_TRIP : Fld := ⟨0x48, 16, 16⟩
def BLANK_BLANK_TK : Fld := ⟨0x4c, 0, 8⟩
def BLANK_UVP_US : Fld := ⟨0x4c, 8, 8⟩
def CMD_KEY : Fld := ⟨0x50, 16, 16⟩
def CMD_SNK_CLOSE : Fld := ⟨0x50, 0, 1⟩
def CMD_SNK_OPEN : Fld := ⟨0x50, 1, 1⟩
def CMD_UNRETIRE : Fld := ⟨0x50, 2, 1⟩
def CMD_RETIRE : Fld := ⟨0x50, 3, 1⟩
def TRIP_CAUSE : Fld := ⟨0x54, 0, 4⟩
def TRIP_BO_STEP : Fld := ⟨0x54, 4, 3⟩
def TRIP_CAUSES : Fld := ⟨0x54, 8, 12⟩
def TRIP_TICK_TICK : Fld := ⟨0x58, 0, 32⟩
def HIST_RECENT : Fld := ⟨0x5c, 0, 3⟩
def HIST_TOTAL : Fld := ⟨0x5c, 16, 16⟩
def LEVELS_OVP : Fld := ⟨0x60, 0, 10⟩
def LEVELS_UVP : Fld := ⟨0x60, 16, 10⟩
def LIMITS_ILIM : Fld := ⟨0x64, 0, 10⟩
def LIMITS_SC : Fld := ⟨0x64, 16, 10⟩
def TASK_TRIP_ENTRY : Fld := ⟨0x68, 0, 18⟩
def TASK_TRIP_BUDGET : Fld := ⟨0x68, 20, 8⟩
def TASK_TRIP_DL_TK : Fld := ⟨0x68, 28, 4⟩
end GUARD

namespace MEAS
def PG_CTRL_ENABLE : Fld := ⟨0x8, 0, 1⟩
def PG_STAT_CAL_OK : Fld := ⟨0xc, 0, 1⟩
def PG_STAT_CAL_FAIL : Fld := ⟨0xc, 1, 1⟩
def PG_STAT_NTC_OPEN : Fld := ⟨0xc, 2, 1⟩
def PG_STAT_NTC_SHORT : Fld := ⟨0xc, 3, 1⟩
def PG_EVT_CAL_FAIL : Fld := ⟨0x10, 0, 1⟩
def PG_EVT_NTC_FAULT : Fld := ⟨0x10, 1, 1⟩
def CFG_SHUNT_UOHM : Fld := ⟨0x20, 0, 16⟩
def CFG_NTC_EN : Fld := ⟨0x20, 16, 1⟩
def NTC_CFG_NOMINAL : Fld := ⟨0x24, 0, 12⟩
def NTC_CFG_BETA : Fld := ⟨0x24, 16, 12⟩
def VBUS_AVG : Fld := ⟨0x28, 0, 16⟩
def VIN_AVG : Fld := ⟨0x2c, 0, 16⟩
def VBUS_LAST : Fld := ⟨0x28, 16, 16⟩
def VIN_LAST : Fld := ⟨0x2c, 16, 16⟩
def IBUS_AVG : Fld := ⟨0x30, 0, 16⟩
def IBUS_PEAK : Fld := ⟨0x30, 16, 16⟩
def TFET_AVG : Fld := ⟨0x34, 0, 16⟩
def VBUS_MM_MIN : Fld := ⟨0x38, 0, 16⟩
def VBUS_MM_MAX : Fld := ⟨0x38, 16, 16⟩
def IBUS_MM_MIN : Fld := ⟨0x3c, 0, 16⟩
def IBUS_MM_MAX : Fld := ⟨0x3c, 16, 16⟩
def CAL_I_OFS : Fld := ⟨0x40, 0, 16⟩
end MEAS

namespace POL
def PG_CAPS_PPS : Fld := ⟨0x4, 0, 1⟩
def PG_CAPS_EPR : Fld := ⟨0x4, 1, 1⟩
def PG_CAPS_AVS : Fld := ⟨0x4, 2, 1⟩
def PG_CAPS_BAT_MSG : Fld := ⟨0x4, 3, 1⟩
def PG_CAPS_CONV : Fld := ⟨0x4, 4, 1⟩
def PG_CTRL_ENABLE : Fld := ⟨0x8, 0, 1⟩
def PG_STAT_CONTRACT : Fld := ⟨0xc, 0, 2⟩
def PG_STAT_SNAP_VALID : Fld := ⟨0xc, 2, 1⟩
def PG_STAT_EPR_MODE : Fld := ⟨0xc, 3, 1⟩
def PG_STAT_HR_SEQ : Fld := ⟨0xc, 4, 3⟩
def PG_STAT_HR_OWED : Fld := ⟨0xc, 7, 1⟩
def PG_STAT_CEN : Fld := ⟨0xc, 8, 1⟩
def PG_STAT_DSCH_ASSIST : Fld := ⟨0xc, 9, 1⟩
def PG_EVT_TRANS_DONE : Fld := ⟨0x10, 0, 1⟩
def PG_EVT_TRANS_FAIL : Fld := ⟨0x10, 1, 1⟩
def PG_EVT_TRANS_ABANDON : Fld := ⟨0x10, 2, 1⟩
def PG_EVT_COMMIT_DONE : Fld := ⟨0x10, 3, 1⟩
def PG_EVT_GEN_REFUSED : Fld := ⟨0x10, 4, 1⟩
def PG_EVT_ROLE_DONE : Fld := ⟨0x10, 5, 1⟩
def PG_EVT_HR_VSAFE0 : Fld := ⟨0x10, 6, 1⟩
def PG_EVT_HR_DONE : Fld := ⟨0x10, 7, 1⟩
def PG_EVT_SNAP_BAD : Fld := ⟨0x10, 8, 1⟩
def PG_EVT_CONV_SAT : Fld := ⟨0x10, 9, 1⟩
def CFG_DR_POLICY : Fld := ⟨0x20, 0, 2⟩
def CFG_PPS_EN : Fld := ⟨0x20, 2, 1⟩
def CFG_EPR_EN : Fld := ⟨0x20, 3, 1⟩
def CFG_BAT_MSG : Fld := ⟨0x20, 4, 1⟩
def CFG_DSCH_ASSIST : Fld := ⟨0x20, 5, 1⟩
def CONV_CFG_V0 : Fld := ⟨0x24, 0, 12⟩
def CONV_CFG_RT_KOHM : Fld := ⟨0x24, 12, 10⟩
def CONV_CFG_SLEW : Fld := ⟨0x24, 24, 8⟩
def CEN_CTRL_MODE : Fld := ⟨0x28, 0, 2⟩
def CONV_STAT_I_CODE : Fld := ⟨0x2c, 0, 16⟩
def CONV_STAT_V_SET : Fld := ⟨0x2c, 16, 12⟩
def CONV_STAT_SAT : Fld := ⟨0x2c, 28, 1⟩
def TRANS_CMD_V_NEW : Fld := ⟨0x30, 0, 12⟩
def TRANS_CMD_GEN : Fld := ⟨0x30, 16, 8⟩
def TRANS_CMD_GO : Fld := ⟨0x30, 24, 1⟩
def TRANS_STAT_V_OLD : Fld := ⟨0x34, 0, 12⟩
def TRANS_STAT_V_NEW : Fld := ⟨0x34, 16, 12⟩
def TRANS_STAT_STATE : Fld := ⟨0x34, 28, 3⟩
def TRANS_LIMIT_LIMIT_MS : Fld := ⟨0x38, 0, 10⟩
def TIMING_SRC_TRANS_MS : Fld := ⟨0x3c, 0, 8⟩
def TIMING_HR_WAIT_MS : Fld := ⟨0x3c, 8, 8⟩
def TIMING_HR_RECOVER_MS : Fld := ⟨0x3c, 16, 10⟩
def WINDOW_FIX_PCT : Fld := ⟨0x40, 0, 4⟩
def WINDOW_APDO_MIN : Fld := ⟨0x40, 8, 8⟩
def CON_PDO_OBJ : Fld := ⟨0x44, 0, 32⟩
def CON_RDO_OBJ : Fld := ⟨0x48, 0, 32⟩
def CON_VI_V : Fld := ⟨0x4c, 0, 12⟩
def CON_VI_I : Fld := ⟨0x4c, 16, 12⟩
def CON_PMAX_PMAX : Fld := ⟨0x50, 0, 16⟩
def CON_FLAGS_FLAGS : Fld := ⟨0x54, 0, 10⟩
def CON_CMD_GEN : Fld := ⟨0x58, 0, 8⟩
def CON_CMD_COMMIT : Fld := ⟨0x58, 8, 1⟩
def CON_CMD_CLEAR : Fld := ⟨0x58, 9, 1⟩
def ROLE_CMD_DATA_ROLE : Fld := ⟨0x5c, 0, 1⟩
def ROLE_CMD_GEN : Fld := ⟨0x5c, 8, 8⟩
def ROLE_CMD_GO : Fld := ⟨0x5c, 16, 1⟩
def SNAP_WORD : Fld := ⟨0x60, 0, 32⟩
def PDO_TEMPLATE : Fld := ⟨0x7c, 0, 32⟩
def SNK_V_V_MIN : Fld := ⟨0xac, 0, 12⟩
def SNK_V_V_MAX : Fld := ⟨0xac, 16, 12⟩
def SNK_P_P_MIN : Fld := ⟨0xb0, 0, 16⟩
def SNK_P_P_OP : Fld := ⟨0xb0, 16, 16⟩
def COUNT_TRANS : Fld := ⟨0xb4, 0, 16⟩
def COUNT_TRANS_FAIL : Fld := ⟨0xb4, 16, 8⟩
def COUNT_HR : Fld := ⟨0xb4, 24, 8⟩
def TASK_POL_ENTRY : Fld := ⟨0xb8, 0, 18⟩
def TASK_POL_BUDGET : Fld := ⟨0xb8, 20, 8⟩
def TASK_POL_DL_TK : Fld := ⟨0xb8, 28, 4⟩
end POL

namespace VDM
def PG_STAT_HPD_PIN : Fld := ⟨0xc, 0, 1⟩
def PG_STAT_IRQ_BUSY : Fld := ⟨0xc, 1, 1⟩
def PG_STAT_IRQ_WAIT : Fld := ⟨0xc, 2, 1⟩
def PG_EVT_DISC_DONE : Fld := ⟨0x10, 0, 1⟩
def PG_EVT_MODE_ENTERED : Fld := ⟨0x10, 1, 1⟩
def PG_EVT_MODE_EXITED : Fld := ⟨0x10, 2, 1⟩
def PG_EVT_HPD_CHANGE : Fld := ⟨0x10, 3, 1⟩
def PG_EVT_HOST_Q : Fld := ⟨0x10, 4, 1⟩
def PG_EVT_HOST_OVF : Fld := ⟨0x10, 5, 1⟩
def PG_EVT_HOST_TX_DONE : Fld := ⟨0x10, 6, 1⟩
def PG_EVT_DISC_FAIL : Fld := ⟨0x10, 7, 1⟩
def PG_EVT_ALL : Fld := ⟨0x10, 0, 8⟩
def PG_EVT_IRQ_DROPPED : Fld := ⟨0x10, 8, 1⟩
def CFG_DISC_EN : Fld := ⟨0x20, 0, 1⟩
def CFG_CBL_DISC : Fld := ⟨0x20, 1, 1⟩
def CFG_DP_EN : Fld := ⟨0x20, 2, 1⟩
def CFG_HOST_PASS : Fld := ⟨0x20, 3, 1⟩
def CFG_ENTER_AUTO : Fld := ⟨0x20, 4, 1⟩
def TIMING_RSP_TO_MS : Fld := ⟨0x24, 0, 8⟩
def TIMING_MODE_TO_MS : Fld := ⟨0x24, 8, 8⟩
def TIMING_BUSY_MS : Fld := ⟨0x24, 16, 8⟩
def DP_CFG_PIN_MASK : Fld := ⟨0x28, 0, 6⟩
def DP_CFG_PREFER_USB : Fld := ⟨0x28, 8, 1⟩
def DP_CFG_HPD_SRC : Fld := ⟨0x28, 12, 3⟩
def ENTER_SEL_SVID : Fld := ⟨0x2c, 0, 16⟩
def ENTER_SEL_POS : Fld := ⟨0x2c, 16, 3⟩
def CMD_KEY : Fld := ⟨0x30, 16, 16⟩
def CMD_REDISCOVER : Fld := ⟨0x30, 0, 1⟩
def CMD_ENTER : Fld := ⟨0x30, 1, 1⟩
def CMD_EXIT : Fld := ⟨0x30, 2, 1⟩
def HPD_LEVEL : Fld := ⟨0x34, 0, 1⟩
def HPD_IRQ_IRQ : Fld := ⟨0x38, 0, 1⟩
def HOST_Q_WR : Fld := ⟨0x3c, 0, 3⟩
def HOST_Q_RD : Fld := ⟨0x3c, 8, 3⟩
def HOST_TX_CTL_COUNT : Fld := ⟨0x40, 0, 3⟩
def HOST_TX_CTL_SOP : Fld := ⟨0x40, 4, 2⟩
def HOST_TX_CTL_GO : Fld := ⟨0x40, 8, 1⟩
def HOST_TX_CTL_STATUS : Fld := ⟨0x40, 16, 4⟩
def HOST_TX_OBJ : Fld := ⟨0x44, 0, 32⟩
def DISC_STAT_DISC : Fld := ⟨0x60, 0, 3⟩
def DISC_STAT_CBL_KNOWN : Fld := ⟨0x60, 3, 1⟩
def DISC_STAT_ACTIVE_CBL : Fld := ⟨0x60, 4, 1⟩
def DISC_STAT_CMD_ERR : Fld := ⟨0x60, 5, 1⟩
def DISC_STAT_SVID_CNT : Fld := ⟨0x60, 8, 4⟩
def DISC_STAT_SVID_MORE : Fld := ⟨0x60, 12, 1⟩
def DISC_STAT_DP_STATE : Fld := ⟨0x60, 13, 2⟩
def SVID_LO : Fld := ⟨0x7c, 0, 16⟩
def SVID_HI : Fld := ⟨0x7c, 16, 16⟩
def MODE_SVID : Fld := ⟨0x8c, 0, 16⟩
def MODE_POS : Fld := ⟨0x8c, 16, 3⟩
def MODE_VALID : Fld := ⟨0x8c, 31, 1⟩
def DP_CAPS_VDO : Fld := ⟨0x90, 0, 32⟩
def DP_STATUS_VDO : Fld := ⟨0x94, 0, 32⟩
def DP_CONFIG_VDO : Fld := ⟨0x98, 0, 32⟩
def ID_HDR_VDO : Fld := ⟨0x64, 0, 32⟩
def ID_CERT_VDO : Fld := ⟨0x68, 0, 32⟩
def ID_PROD_VDO : Fld := ⟨0x6c, 0, 32⟩
def ID_TYPE_VDO : Fld := ⟨0x70, 0, 32⟩
def CBL_HDR_VDO : Fld := ⟨0x74, 0, 32⟩
def CBL_VDO_VDO : Fld := ⟨0x78, 0, 32⟩
end VDM

namespace SHARE
def PG_CAPS_MEMBERS_MAX : Fld := ⟨0x4, 0, 4⟩
def PG_CTRL_ENABLE : Fld := ⟨0x8, 0, 1⟩
def PG_CTRL_BLOCK_RESET : Fld := ⟨0x8, 1, 1⟩
def PG_STAT_ACTIVE : Fld := ⟨0xc, 0, 1⟩
def PG_STAT_RAIL_OK : Fld := ⟨0xc, 1, 1⟩
def PG_STAT_RELEASE : Fld := ⟨0xc, 2, 1⟩
def PG_STAT_OVERLOAD : Fld := ⟨0xc, 3, 1⟩
def PG_EVT_TRIM : Fld := ⟨0x10, 0, 1⟩
def PG_EVT_RELEASE : Fld := ⟨0x10, 1, 1⟩
def PG_EVT_OVERLOAD : Fld := ⟨0x10, 2, 1⟩
def PG_EVT_EXCLUDED : Fld := ⟨0x10, 3, 1⟩
def PG_EVT_BUDGET : Fld := ⟨0x10, 4, 1⟩
def PG_EVT_MEMBER_DROP : Fld := ⟨0x10, 5, 1⟩
def PG_EVT_RAIL_FAULT : Fld := ⟨0x10, 6, 1⟩
def PG_EVT_TWIN_LIMIT : Fld := ⟨0x10, 7, 1⟩
def CFG_RAIL_PORT : Fld := ⟨0x20, 0, 3⟩
def CFG_HEAD_PCT : Fld := ⟨0x20, 8, 6⟩
def CFG_DB_PCT : Fld := ⟨0x20, 16, 6⟩
def CFG_DIODE_MV : Fld := ⟨0x20, 24, 8⟩
def MEMBERS_PORTS : Fld := ⟨0x24, 0, 8⟩
def RAIL_RAIL_V : Fld := ⟨0x28, 0, 12⟩
def RAIL_V_TOL : Fld := ⟨0x28, 16, 12⟩
def TRIM_CFG_TRIM_MAX : Fld := ⟨0x2c, 0, 10⟩
def LIMITS_JOIN_I : Fld := ⟨0x30, 0, 8⟩
def LIMITS_PD_MAX : Fld := ⟨0x30, 16, 16⟩
def TWIN_CFG_SPLIT : Fld := ⟨0x34, 0, 7⟩
def TWIN_CFG_TWIN_TRIM : Fld := ⟨0x34, 8, 8⟩
def TASK_SHARE_ENTRY : Fld := ⟨0x38, 0, 18⟩
def TASK_SHARE_BUDGET : Fld := ⟨0x38, 20, 8⟩
def TASK_SHARE_DL_TK : Fld := ⟨0x38, 28, 4⟩
def CMD_KEY : Fld := ⟨0x3c, 16, 16⟩
def CMD_RELEASE : Fld := ⟨0x3c, 0, 1⟩
def CMD_TRIM_CLEAR : Fld := ⟨0x3c, 1, 1⟩
def TOTAL_I_TOTAL : Fld := ⟨0x40, 0, 16⟩
def TOTAL_RAIL : Fld := ⟨0x40, 16, 12⟩
def WEIGHT_W : Fld := ⟨0x60, 0, 16⟩
def PORT_STAT_TARGET : Fld := ⟨0x80, 0, 10⟩
def PORT_STAT_LIMIT : Fld := ⟨0x80, 16, 10⟩
def PORT_STAT_BUDGET : Fld := ⟨0x80, 26, 1⟩
def PORT_STAT_STATE : Fld := ⟨0x80, 28, 3⟩
def PORT_STAT_HELD : Fld := ⟨0x80, 31, 1⟩
def TRIM_V_REQ : Fld := ⟨0xa0, 0, 12⟩
def TRIM_TRIM : Fld := ⟨0xa0, 16, 11⟩
def TRIM_PENDING : Fld := ⟨0xa0, 28, 1⟩
def TRIM_DOWN : Fld := ⟨0xa0, 29, 1⟩
end SHARE

namespace GAUGE
def PG_CAPS_MAX_CELLS : Fld := ⟨0x4, 0, 3⟩
def PG_CAPS_TS : Fld := ⟨0x4, 4, 1⟩
def PG_CAPS_BID : Fld := ⟨0x4, 5, 1⟩
def PG_CTRL_ENABLE : Fld := ⟨0x8, 0, 1⟩
def PG_STAT_CC_RUN : Fld := ⟨0xc, 0, 1⟩
def PG_STAT_OVERRANGE : Fld := ⟨0xc, 1, 1⟩
def PG_STAT_TS_OPEN : Fld := ⟨0xc, 2, 1⟩
def PG_STAT_TS_SHORT : Fld := ⟨0xc, 3, 1⟩
def PG_EVT_SOC_VALID : Fld := ⟨0x10, 0, 1⟩
def PG_EVT_FULL : Fld := ⟨0x10, 1, 1⟩
def PG_EVT_EDV2 : Fld := ⟨0x10, 2, 1⟩
def PG_EVT_EDV1 : Fld := ⟨0x10, 3, 1⟩
def PG_EVT_EDV0 : Fld := ⟨0x10, 4, 1⟩
def PG_EVT_DEFICIT_ADJ : Fld := ⟨0x10, 5, 1⟩
def PG_EVT_CELL_MISMATCH : Fld := ⟨0x10, 6, 1⟩
def PG_EVT_RESTORED : Fld := ⟨0x10, 7, 1⟩
def PG_EVT_ALL : Fld := ⟨0x10, 0, 8⟩
def PG_EVT_OVERRANGE : Fld := ⟨0x10, 8, 1⟩
def PG_EVT_TS_FAULT : Fld := ⟨0x10, 9, 1⟩
def CFG_CELLS : Fld := ⟨0x20, 0, 3⟩
def CFG_CC_EN : Fld := ⟨0x20, 4, 1⟩
def SHUNT_SHUNT_UOHM : Fld := ⟨0x24, 0, 16⟩
def DESIGN_CAP : Fld := ⟨0x28, 0, 24⟩
def TS_CFG_NOMINAL : Fld := ⟨0x2c, 0, 12⟩
def TS_CFG_BETA : Fld := ⟨0x2c, 16, 12⟩
def EDV21_EDV2 : Fld := ⟨0x30, 0, 16⟩
def EDV21_EDV1 : Fld := ⟨0x30, 16, 16⟩
def EDV0_EOC_EDV0 : Fld := ⟨0x34, 0, 16⟩
def EDV0_EOC_EOC_V : Fld := ⟨0x34, 16, 16⟩
def CHG_CFG_TAPER_DIV : Fld := ⟨0x38, 0, 8⟩
def CHG_CFG_EOC_S : Fld := ⟨0x38, 8, 8⟩
def OCV_CFG_WAIT_S : Fld := ⟨0x3c, 0, 8⟩
def OCV_CFG_REST_MIN : Fld := ⟨0x3c, 8, 8⟩
def OCV_CFG_TAU_S : Fld := ⟨0x3c, 16, 16⟩
def ACC_LO_ACC : Fld := ⟨0x40, 0, 32⟩
def ACC_HI_ACC : Fld := ⟨0x44, 0, 16⟩
def I_AVG1_I : Fld := ⟨0x48, 0, 24⟩
def I_AVG60_I : Fld := ⟨0x4c, 0, 24⟩
def VPACK_V : Fld := ⟨0x50, 0, 16⟩
def TEMP_T : Fld := ⟨0x54, 0, 16⟩
def FCC_Q : Fld := ⟨0x58, 0, 24⟩
def RM_Q : Fld := ⟨0x5c, 0, 24⟩
def DEFICIT_Q : Fld := ⟨0x60, 0, 24⟩
def STATE_SOC : Fld := ⟨0x64, 0, 8⟩
def STATE_SOC_CALC : Fld := ⟨0x64, 8, 8⟩
def STATE_SOC_VALID : Fld := ⟨0x64, 16, 1⟩
def STATE_FULL : Fld := ⟨0x64, 17, 1⟩
def STATE_FLOOR : Fld := ⟨0x64, 18, 1⟩
def STATE_DIR : Fld := ⟨0x64, 19, 2⟩
def STATE_EDV : Fld := ⟨0x64, 21, 2⟩
def STATE_STALE : Fld := ⟨0x64, 23, 1⟩
def STATE_CELL_MISMATCH : Fld := ⟨0x64, 24, 1⟩
def VCOMP_V : Fld := ⟨0x68, 0, 16⟩
def TIME_TTE : Fld := ⟨0x6c, 0, 16⟩
def TIME_TTF : Fld := ⟨0x6c, 16, 16⟩
def TASK_GAUGE_ENTRY : Fld := ⟨0x70, 0, 18⟩
def TASK_GAUGE_BUDGET : Fld := ⟨0x70, 20, 8⟩
def TASK_GAUGE_DL_TK : Fld := ⟨0x70, 28, 4⟩
end GAUGE

namespace LEARN
def PG_EVT_STARTED : Fld := ⟨0x10, 0, 1⟩
def PG_EVT_LEARNED : Fld := ⟨0x10, 1, 1⟩
def PG_EVT_DISQUALIFIED : Fld := ⟨0x10, 2, 1⟩
def PG_EVT_WRITTEN : Fld := ⟨0x10, 3, 1⟩
def PG_EVT_WRITE_FAIL : Fld := ⟨0x10, 4, 1⟩
def PG_EVT_ALL : Fld := ⟨0x10, 0, 5⟩
def PG_EVT_WRITE_DUE : Fld := ⟨0x10, 8, 1⟩
def CFG_T_MIN : Fld := ⟨0x20, 0, 16⟩
def CFG_T_MAX : Fld := ⟨0x20, 16, 16⟩
def RATE_MIN_DIV : Fld := ⟨0x24, 0, 8⟩
def RATE_MAX_DIV : Fld := ⟨0x24, 8, 8⟩
def RATE_START_MIN : Fld := ⟨0x24, 16, 8⟩
def LIMITS_STEP_PCT : Fld := ⟨0x28, 0, 8⟩
def LIMITS_CHG_PCT : Fld := ⟨0x28, 8, 8⟩
def LIMITS_MAX_H : Fld := ⟨0x28, 16, 8⟩
def STAT_STATE : Fld := ⟨0x2c, 0, 3⟩
def STAT_REASON : Fld := ⟨0x2c, 8, 4⟩
def STAT_CLAMPED : Fld := ⟨0x2c, 12, 1⟩
def SOC_START_SOC : Fld := ⟨0x30, 0, 14⟩
def QDIS_Q : Fld := ⟨0x34, 0, 24⟩
def QIN_Q : Fld := ⟨0x38, 0, 24⟩
def START_TICK_TICK : Fld := ⟨0x3c, 0, 32⟩
def LAST_FCC_Q : Fld := ⟨0x40, 0, 24⟩
def COUNT_LEARNED : Fld := ⟨0x44, 0, 16⟩
def COUNT_DISQ : Fld := ⟨0x44, 16, 16⟩
def PENDING_PEND : Fld := ⟨0x48, 0, 1⟩
def PENDING_FCC : Fld := ⟨0x48, 8, 24⟩
def TASK_WRITE_ENTRY : Fld := ⟨0x4c, 0, 18⟩
def TASK_WRITE_BUDGET : Fld := ⟨0x4c, 20, 8⟩
def TASK_WRITE_DL_TK : Fld := ⟨0x4c, 28, 4⟩
def CMD_KEY : Fld := ⟨0x50, 16, 16⟩
def CMD_ABORT : Fld := ⟨0x50, 0, 1⟩
def CMD_FORGET : Fld := ⟨0x50, 1, 1⟩
end LEARN

namespace BATID
def PG_CAPS_SLOTS : Fld := ⟨0x4, 0, 3⟩
def PG_EVT_INSERTED : Fld := ⟨0x10, 0, 1⟩
def PG_EVT_REMOVED : Fld := ⟨0x10, 1, 1⟩
def PG_EVT_UNKNOWN : Fld := ⟨0x10, 2, 1⟩
def CFG_DETECT : Fld := ⟨0x20, 0, 2⟩
def CFG_FALLBACK : Fld := ⟨0x20, 4, 2⟩
def BID_OHM : Fld := ⟨0x24, 0, 16⟩
def STAT_PRESENT : Fld := ⟨0x28, 0, 1⟩
def STAT_KNOWN : Fld := ⟨0x28, 1, 1⟩
def STAT_SLOT : Fld := ⟨0x28, 4, 2⟩
def STAT_SWAP_SEEN : Fld := ⟨0x28, 8, 1⟩
def SLOT_WIN_MIN : Fld := ⟨0x2c, 0, 16⟩
def SLOT_WIN_MAX : Fld := ⟨0x2c, 16, 16⟩
def CMD_KEY : Fld := ⟨0x3c, 16, 16⟩
def CMD_CLEAR_SWAP : Fld := ⟨0x3c, 0, 1⟩
end BATID

namespace CMPT
def PG_CAPS_COMPARATORS : Fld := ⟨0x4, 0, 4⟩
def PG_CTRL_ENABLE : Fld := ⟨0x8, 0, 1⟩
def PG_CTRL_BLOCK_RESET : Fld := ⟨0x8, 1, 1⟩
def PG_STAT_FIRST_PASS : Fld := ⟨0xc, 0, 1⟩
def PG_STAT_MACHINE_FAIL : Fld := ⟨0xc, 1, 1⟩
def PG_STAT_DEGRADED : Fld := ⟨0xc, 8, 8⟩
def PG_EVT_COPY_FAIL : Fld := ⟨0x10, 0, 1⟩
def PG_EVT_BOTH_FAIL : Fld := ⟨0x10, 1, 1⟩
def PG_EVT_FIRST_PASS : Fld := ⟨0x10, 2, 1⟩
def PG_EVT_MACHINE_FAIL : Fld := ⟨0x10, 3, 1⟩
def PG_EVT_CYCLE_DONE : Fld := ⟨0x10, 4, 1⟩
def PORT_STAT_FAILED : Fld := ⟨0x20, 0, 12⟩
def PORT_STAT_PASSED : Fld := ⟨0x20, 16, 12⟩
def CYCLES_COUNT : Fld := ⟨0x40, 0, 32⟩
def LAST_FAIL_PORT : Fld := ⟨0x44, 0, 3⟩
def LAST_FAIL_COMP : Fld := ⟨0x44, 4, 3⟩
def LAST_FAIL_COPY : Fld := ⟨0x44, 7, 1⟩
def LAST_FAIL_CHECK : Fld := ⟨0x44, 8, 4⟩
def LAST_FAIL_TICK : Fld := ⟨0x44, 16, 16⟩
def CMD_KEY : Fld := ⟨0x48, 16, 16⟩
def CMD_RETEST : Fld := ⟨0x48, 0, 8⟩
end CMPT

namespace HOST
def PG_CAPS_PEC : Fld := ⟨0x4, 0, 1⟩
def PG_CAPS_NOTIFY : Fld := ⟨0x4, 1, 1⟩
def PG_CAPS_LEGACY : Fld := ⟨0x4, 2, 1⟩
def PG_CAPS_FMPLUS : Fld := ⟨0x4, 3, 1⟩
def PG_CTRL_ENABLE : Fld := ⟨0x8, 0, 1⟩
def PG_CTRL_BLOCK_RESET : Fld := ⟨0x8, 1, 1⟩
def PG_STAT_BUSY : Fld := ⟨0xc, 0, 1⟩
def PG_STAT_PENDING : Fld := ⟨0xc, 1, 1⟩
def PG_STAT_HINT : Fld := ⟨0xc, 2, 1⟩
def PG_STAT_NOTIFYING : Fld := ⟨0xc, 3, 1⟩
def PG_STAT_FALLBACK : Fld := ⟨0xc, 4, 1⟩
def PG_EVT_MALFORMED : Fld := ⟨0x10, 0, 1⟩
def PG_EVT_PEC_ERR : Fld := ⟨0x10, 1, 1⟩
def PG_EVT_SCL_TIMEOUT : Fld := ⟨0x10, 2, 1⟩
def PG_EVT_SDA_STUCK : Fld := ⟨0x10, 3, 1⟩
def PG_EVT_ARB_LOST : Fld := ⟨0x10, 4, 1⟩
def PG_EVT_ARB_STOP : Fld := ⟨0x10, 5, 1⟩
def PG_EVT_NOTIFY_FAIL : Fld := ⟨0x10, 6, 1⟩
def PG_EVT_NOTIFY_SENT : Fld := ⟨0x10, 7, 1⟩
def PG_EVT_STRETCH_LIMIT : Fld := ⟨0x10, 8, 1⟩
def PG_EVT_BAD_CMD : Fld := ⟨0x10, 9, 1⟩
def CFG_PEC_REQ : Fld := ⟨0x20, 0, 1⟩
def CFG_NOTIFY_EN : Fld := ⟨0x20, 1, 1⟩
def CFG_HINT_MODE : Fld := ⟨0x20, 2, 2⟩
def CFG_STRETCH_EN : Fld := ⟨0x20, 4, 1⟩
def CFG_STORE_WR : Fld := ⟨0x20, 5, 1⟩
def CFG_FILTER : Fld := ⟨0x20, 6, 2⟩
def CFG_NOTIFY_HOLD_MS : Fld := ⟨0x20, 8, 8⟩
def TIMING_SDA_HOLD : Fld := ⟨0x24, 0, 8⟩
def TIMING_SCL_LOW : Fld := ⟨0x24, 16, 8⟩
def TIMING_SCL_HIGH : Fld := ⟨0x24, 24, 8⟩
def ADDR_ADDR : Fld := ⟨0x28, 0, 7⟩
def WINDOW_NODE : Fld := ⟨0x2c, 0, 7⟩
def WINDOW_PAGE : Fld := ⟨0x2c, 8, 8⟩
def WINDOW_OFFSET : Fld := ⟨0x2c, 16, 8⟩
def LAST_CODE : Fld := ⟨0x30, 0, 8⟩
def LAST_CMD : Fld := ⟨0x30, 8, 8⟩
def LAST_DETAIL : Fld := ⟨0x30, 16, 8⟩
def LAST_PENDING : Fld := ⟨0x30, 24, 1⟩
def LAST_HELD : Fld := ⟨0x30, 25, 1⟩
def ERR_CNT_MALFORMED : Fld := ⟨0x34, 0, 8⟩
def ERR_CNT_PEC : Fld := ⟨0x34, 8, 8⟩
def ERR_CNT_TIMEOUT : Fld := ⟨0x34, 16, 8⟩
def ERR_CNT_ARB : Fld := ⟨0x34, 24, 8⟩
def NOTIFY_STAT_TRIES : Fld := ⟨0x38, 0, 4⟩
def NOTIFY_STAT_DATA : Fld := ⟨0x38, 16, 16⟩
def STRETCH_MAX_US : Fld := ⟨0x3c, 0, 16⟩
def STRETCH_LAST_TOTAL_US : Fld := ⟨0x3c, 16, 16⟩
def CMD_KEY : Fld := ⟨0x40, 16, 16⟩
def CMD_CLEAR_STATS : Fld := ⟨0x40, 0, 1⟩
def CMD_NOTIFY_NOW : Fld := ⟨0x40, 1, 1⟩
end HOST

namespace MUXB
def PG_EVT_DONE : Fld := ⟨0x10, 0, 1⟩
def PG_EVT_ERR : Fld := ⟨0x10, 1, 1⟩
def PG_EVT_MINT : Fld := ⟨0x10, 2, 1⟩
def CFG_SPEED : Fld := ⟨0x20, 0, 2⟩
def CFG_MINT_EDGE : Fld := ⟨0x20, 8, 2⟩
def TXN_ADDR : Fld := ⟨0x24, 0, 7⟩
def TXN_WCNT : Fld := ⟨0x24, 8, 5⟩
def TXN_RCNT : Fld := ⟨0x24, 16, 5⟩
def TXN_PEC : Fld := ⟨0x24, 24, 1⟩
def TXN_BLOCK : Fld := ⟨0x24, 25, 1⟩
def WDATA_BYTES : Fld := ⟨0x28, 0, 32⟩
def RDATA_BYTES : Fld := ⟨0x38, 0, 32⟩
def GO_KEY : Fld := ⟨0x48, 16, 16⟩
def GO_GO : Fld := ⟨0x48, 0, 1⟩
def GO_ABORT : Fld := ⟨0x48, 1, 1⟩
def STAT_BUSY : Fld := ⟨0x4c, 0, 1⟩
def STAT_RESULT : Fld := ⟨0x4c, 4, 4⟩
def STAT_DONE_BYTES : Fld := ⟨0x4c, 8, 5⟩
def STAT_MINT : Fld := ⟨0x4c, 16, 1⟩
end MUXB

namespace HG
def PG_CAPS_RING : Fld := ⟨0x4, 0, 1⟩
def PG_CTRL_ENABLE : Fld := ⟨0x8, 0, 1⟩
def PG_STAT_STATE : Fld := ⟨0xc, 0, 3⟩
def PG_STAT_LOCK : Fld := ⟨0xc, 3, 1⟩
def PG_STAT_WRAP : Fld := ⟨0xc, 4, 1⟩
def PG_STAT_FAULT_RX : Fld := ⟨0xc, 5, 1⟩
def PG_STAT_SILENT_TK : Fld := ⟨0xc, 8, 8⟩
def PG_EVT_UP : Fld := ⟨0x10, 0, 1⟩
def PG_EVT_DOWN : Fld := ⟨0x10, 1, 1⟩
def PG_EVT_RETIRED : Fld := ⟨0x10, 2, 1⟩
def PG_EVT_WRAP : Fld := ⟨0x10, 3, 1⟩
def PG_EVT_UNWRAP : Fld := ⟨0x10, 4, 1⟩
def PG_EVT_RETX : Fld := ⟨0x10, 5, 1⟩
def PG_EVT_SILENT : Fld := ⟨0x10, 6, 1⟩
def CFG_TX_SWING : Fld := ⟨0x20, 0, 3⟩
def CFG_TX_DEEMPH : Fld := ⟨0x20, 4, 3⟩
def CFG_RX_EQ : Fld := ⟨0x20, 8, 3⟩
def CFG_TX_INV : Fld := ⟨0x20, 12, 1⟩
def CFG_RX_INV : Fld := ⟨0x20, 13, 1⟩
def CFG_ERR_LIMIT : Fld := ⟨0x20, 16, 5⟩
def DELAY_LINK_DELAY : Fld := ⟨0x24, 0, 16⟩
def ERR_CNT_FRAME : Fld := ⟨0x28, 0, 16⟩
def ERR_CNT_CODE : Fld := ⟨0x28, 16, 16⟩
def ARQ_RETX : Fld := ⟨0x2c, 0, 16⟩
def ARQ_NAK : Fld := ⟨0x2c, 16, 16⟩
def WINDOW_TX_NEXT : Fld := ⟨0x30, 0, 4⟩
def WINDOW_TX_OLDEST : Fld := ⟨0x30, 4, 4⟩
def WINDOW_OUTSTANDING : Fld := ⟨0x30, 8, 4⟩
def WINDOW_RX_EXPECT : Fld := ⟨0x30, 12, 4⟩
def TX_FRAMES_COUNT : Fld := ⟨0x34, 0, 32⟩
def RX_FRAMES_COUNT : Fld := ⟨0x38, 0, 32⟩
def RETIRE_INFO_CAUSE : Fld := ⟨0x3c, 0, 2⟩
def RETIRE_INFO_WIN_ERRS : Fld := ⟨0x3c, 8, 5⟩
def RETIRE_INFO_PROBES : Fld := ⟨0x3c, 24, 8⟩
def CMD_KEY : Fld := ⟨0x40, 16, 16⟩
def CMD_RETIRE : Fld := ⟨0x40, 0, 1⟩
def CMD_REPROBE : Fld := ⟨0x40, 1, 1⟩
def CMD_CLEAR_STATS : Fld := ⟨0x40, 2, 1⟩
end HG

namespace FLEET
def PG_STAT_TICK_ALIGNED : Fld := ⟨0xc, 0, 1⟩
def PG_STAT_ENUM_DONE : Fld := ⟨0xc, 1, 1⟩
def PG_STAT_RING_WRAPPED : Fld := ⟨0xc, 2, 1⟩
def PG_STAT_ACTING_MGR : Fld := ⟨0xc, 3, 1⟩
def PG_STAT_DEFERRED : Fld := ⟨0xc, 4, 1⟩
def PG_STAT_IDX_CONFLICT : Fld := ⟨0xc, 5, 1⟩
def PG_EVT_ALIGNED : Fld := ⟨0x10, 0, 1⟩
def PG_EVT_ALIGN_LOST : Fld := ⟨0x10, 1, 1⟩
def PG_EVT_ENUM_DONE : Fld := ⟨0x10, 2, 1⟩
def PG_EVT_NODE_LOST : Fld := ⟨0x10, 3, 1⟩
def PG_EVT_NODE_SEEN : Fld := ⟨0x10, 4, 1⟩
def PG_EVT_RING_WRAP : Fld := ⟨0x10, 5, 1⟩
def PG_EVT_RING_WHOLE : Fld := ⟨0x10, 6, 1⟩
def PG_EVT_TAKEOVER : Fld := ⟨0x10, 7, 1⟩
def PG_EVT_HANDBACK : Fld := ⟨0x10, 8, 1⟩
def PG_EVT_IDX_CONFLICT : Fld := ⟨0x10, 9, 1⟩
def PG_EVT_REG_TIMEOUT : Fld := ⟨0x10, 10, 1⟩
def PG_EVT_RXQ_FULL : Fld := ⟨0x10, 11, 1⟩
def PG_EVT_TX_DONE : Fld := ⟨0x10, 12, 1⟩
def CFG_INDEX_MODE : Fld := ⟨0x20, 0, 1⟩
def CFG_FIXED_IDX : Fld := ⟨0x20, 8, 7⟩
def CFG_JOIN : Fld := ⟨0x20, 16, 1⟩
def CFG_HANDBACK : Fld := ⟨0x20, 17, 1⟩
def CFG_REG_TO_MS : Fld := ⟨0x20, 24, 8⟩
def NODES_COUNT : Fld := ⟨0x24, 0, 7⟩
def NODES_MGR : Fld := ⟨0x24, 8, 7⟩
def NODES_STBY : Fld := ⟨0x24, 16, 7⟩
def NODES_SEGMENT : Fld := ⟨0x24, 24, 7⟩
def DELAY_P_DELAY : Fld := ⟨0x28, 0, 20⟩
def DELAY_S_DELAY : Fld := ⟨0x2c, 0, 20⟩
def DELAY_P_VALID : Fld := ⟨0x28, 31, 1⟩
def DELAY_S_VALID : Fld := ⟨0x2c, 31, 1⟩
def LOOP_P_LOOP : Fld := ⟨0x30, 0, 20⟩
def LOOP_S_LOOP : Fld := ⟨0x34, 0, 20⟩
def PHASE_ERROR : Fld := ⟨0x38, 0, 16⟩
def PHASE_VIA : Fld := ⟨0x38, 16, 1⟩
def PHASE_MISSED : Fld := ⟨0x38, 24, 8⟩
def STBY_STAT_SILENT : Fld := ⟨0x3c, 0, 8⟩
def STBY_STAT_READY : Fld := ⟨0x3c, 16, 1⟩
def ENUM_MAP_NODES : Fld := ⟨0x40, 0, 32⟩
def REACH_NODES : Fld := ⟨0x48, 0, 32⟩
def EVT_SUM_NODES : Fld := ⟨0x50, 0, 32⟩
def CMD_KEY : Fld := ⟨0x58, 16, 16⟩
def CMD_ENUMERATE : Fld := ⟨0x58, 0, 1⟩
def CMD_TAKEOVER : Fld := ⟨0x58, 1, 1⟩
def CMD_HANDBACK : Fld := ⟨0x58, 2, 1⟩
def TX_REQ_SLOT : Fld := ⟨0x5c, 0, 6⟩
def RXQ_WR_INDEX : Fld := ⟨0x60, 0, 6⟩
def RXQ_RD_INDEX : Fld := ⟨0x64, 0, 6⟩
def STATS_RXQ_DROP : Fld := ⟨0x68, 0, 16⟩
def STATS_NO_DEST : Fld := ⟨0x68, 16, 8⟩
def STATS_REG_TO : Fld := ⟨0x68, 24, 8⟩
def TASK_TELEM_ENTRY : Fld := ⟨0x6c, 0, 18⟩
def TASK_TELEM_BUDGET : Fld := ⟨0x6c, 20, 8⟩
def TASK_TELEM_DL_TK : Fld := ⟨0x6c, 28, 4⟩
def TASK_GRANT_ENTRY : Fld := ⟨0x70, 0, 18⟩
def TASK_GRANT_BUDGET : Fld := ⟨0x70, 20, 8⟩
def TASK_GRANT_DL_TK : Fld := ⟨0x70, 28, 4⟩
def TASK_CONTRACT_ENTRY : Fld := ⟨0x74, 0, 18⟩
def TASK_CONTRACT_BUDGET : Fld := ⟨0x74, 20, 8⟩
def TASK_CONTRACT_DL_TK : Fld := ⟨0x74, 28, 4⟩
def TASK_STORE_ENTRY : Fld := ⟨0x78, 0, 18⟩
def TASK_STORE_BUDGET : Fld := ⟨0x78, 20, 8⟩
def TASK_STORE_DL_TK : Fld := ⟨0x78, 28, 4⟩
def TASK_IMG_ENTRY : Fld := ⟨0x7c, 0, 18⟩
def TASK_IMG_BUDGET : Fld := ⟨0x7c, 20, 8⟩
def TASK_IMG_DL_TK : Fld := ⟨0x7c, 28, 4⟩
def TASK_TWIN_ENTRY : Fld := ⟨0x80, 0, 18⟩
def TASK_TWIN_BUDGET : Fld := ⟨0x80, 20, 8⟩
def TASK_TWIN_DL_TK : Fld := ⟨0x80, 28, 4⟩
def TASK_LEDGER_ENTRY : Fld := ⟨0x84, 0, 18⟩
def TASK_LEDGER_BUDGET : Fld := ⟨0x84, 20, 8⟩
def TASK_LEDGER_DL_TK : Fld := ⟨0x84, 28, 4⟩
end FLEET

namespace PLACE
def PG_CAPS_POOLS : Fld := ⟨0x4, 0, 5⟩
def PG_STAT_PLACING : Fld := ⟨0xc, 0, 1⟩
def PG_EVT_PERIOD : Fld := ⟨0x10, 8, 1⟩
def PG_EVT_LEASE_EXPIRED : Fld := ⟨0x10, 9, 1⟩
def PG_EVT_LEASE_RESTORED : Fld := ⟨0x10, 10, 1⟩
def PG_EVT_RECORD_BAD : Fld := ⟨0x10, 11, 1⟩
def CFG_RUN_EN : Fld := ⟨0x20, 0, 1⟩
def CFG_HOLD : Fld := ⟨0x20, 1, 1⟩
def CFG_RENEG_TK : Fld := ⟨0x20, 8, 8⟩
def CFG_DEM_HEAD : Fld := ⟨0x20, 16, 8⟩
def CFG_LOWBAT_PCT : Fld := ⟨0x20, 24, 8⟩
def LEASE_LEASE_TK : Fld := ⟨0x24, 0, 16⟩
def LEASE_CONFIRM_TK : Fld := ⟨0x24, 16, 16⟩
def LEASE_STAT_STATE : Fld := ⟨0x28, 0, 2⟩
def LEASE_STAT_SEQ : Fld := ⟨0x28, 8, 8⟩
def LEASE_STAT_LEFT_TK : Fld := ⟨0x28, 16, 16⟩
def RUN_STAT_RUN_TICK : Fld := ⟨0x2c, 0, 16⟩
def RUN_STAT_KIND : Fld := ⟨0x2c, 16, 2⟩
def RUN_STAT_CHANGED : Fld := ⟨0x2c, 20, 10⟩
def POOL_SEL_POOL : Fld := ⟨0x30, 0, 4⟩
def POOL_BUDGET_BUDGET : Fld := ⟨0x34, 0, 20⟩
def POOL_RESERVE_RESERVE : Fld := ⟨0x38, 0, 20⟩
def POOL_DERATE_DERATE : Fld := ⟨0x3c, 0, 20⟩
def POOL_STAT_COMMITTED : Fld := ⟨0x40, 0, 20⟩
def POOL_STAT_SHORT : Fld := ⟨0x40, 24, 1⟩
def POOL_STAT_DEC_PEND : Fld := ⟨0x40, 25, 1⟩
def POOL_STAT_MAINS : Fld := ⟨0x40, 26, 1⟩
def POOL_STAT_CUT : Fld := ⟨0x40, 27, 1⟩
def POOL_EFF_E : Fld := ⟨0x44, 0, 20⟩
def PORT_SEL_NODE : Fld := ⟨0x48, 0, 7⟩
def PORT_SEL_PORT : Fld := ⟨0x48, 8, 3⟩
def PORT_LIMITS_FLOOR : Fld := ⟨0x4c, 0, 16⟩
def PORT_LIMITS_CEIL : Fld := ⟨0x4c, 16, 16⟩
def PORT_CLASS_PRIO : Fld := ⟨0x50, 0, 3⟩
def PORT_CLASS_POOL : Fld := ⟨0x50, 8, 4⟩
def PORT_CLASS_ENABLE : Fld := ⟨0x50, 16, 1⟩
def PORT_STAT_GRANT : Fld := ⟨0x54, 0, 16⟩
def PORT_STAT_COMMIT : Fld := ⟨0x54, 16, 16⟩
def PORT_INFO_DEMAND : Fld := ⟨0x58, 0, 16⟩
def PORT_INFO_STATE : Fld := ⟨0x58, 16, 3⟩
def PORT_INFO_AGE : Fld := ⟨0x58, 24, 8⟩
def CMD_KEY : Fld := ⟨0x5c, 16, 16⟩
def CMD_RUN : Fld := ⟨0x5c, 0, 1⟩
def CMD_FLOOR_DONE : Fld := ⟨0x5c, 1, 1⟩
def TASK_RUN_ENTRY : Fld := ⟨0x60, 0, 18⟩
def TASK_LEASE_ENTRY : Fld := ⟨0x64, 0, 18⟩
def TASK_RUN_BUDGET : Fld := ⟨0x60, 20, 8⟩
def TASK_LEASE_BUDGET : Fld := ⟨0x64, 20, 8⟩
def TASK_RUN_DL_TK : Fld := ⟨0x60, 28, 4⟩
def TASK_LEASE_DL_TK : Fld := ⟨0x64, 28, 4⟩
def ORPHANS_NODES : Fld := ⟨0x68, 0, 32⟩
def PG_EVT_RUN_DONE : Fld := ⟨0x10, 0, 1⟩
def PG_EVT_CUT : Fld := ⟨0x10, 1, 1⟩
def PG_EVT_SHED : Fld := ⟨0x10, 2, 1⟩
def PG_EVT_NODE_ORPHANED : Fld := ⟨0x10, 3, 1⟩
def PG_EVT_NODE_BACK : Fld := ⟨0x10, 4, 1⟩
def PG_EVT_LEDGER_REBUILT : Fld := ⟨0x10, 5, 1⟩
end PLACE

namespace TWIN
def PG_EVT_TAKEOVER : Fld := ⟨0x10, 0, 1⟩
def PG_EVT_PARTNER_LOST : Fld := ⟨0x10, 1, 1⟩
def PG_EVT_PARTNER_BACK : Fld := ⟨0x10, 2, 1⟩
def PG_EVT_CONFLICT : Fld := ⟨0x10, 3, 1⟩
def PG_EVT_ASSUMED : Fld := ⟨0x10, 4, 1⟩
def PG_EVT_MIRROR_LATE : Fld := ⟨0x10, 5, 1⟩
def CFG_HOT : Fld := ⟨0x20, 0, 1⟩
def CFG_PREF_OWNER : Fld := ⟨0x20, 1, 1⟩
def CFG_PORTS : Fld := ⟨0x20, 8, 8⟩
def STAT_PARTNER : Fld := ⟨0x28, 0, 1⟩
def STAT_CONFLICT : Fld := ⟨0x28, 1, 1⟩
def STAT_OWNING : Fld := ⟨0x28, 8, 8⟩
def STAT_SHADOWING : Fld := ⟨0x28, 16, 8⟩
def LAST_TKO_PORT : Fld := ⟨0x38, 0, 3⟩
def LAST_TKO_CAUSE : Fld := ⟨0x38, 4, 3⟩
def LAST_TKO_STALE : Fld := ⟨0x38, 7, 1⟩
def LAST_TKO_TICK : Fld := ⟨0x38, 16, 16⟩
def CMD_KEY : Fld := ⟨0x3c, 16, 16⟩
def CMD_TAKEOVER : Fld := ⟨0x3c, 0, 8⟩
def MIR_SEL_PORT : Fld := ⟨0x40, 0, 3⟩
def MIR_WORD : Fld := ⟨0x44, 0, 32⟩
def TASK_BUILD_ENTRY : Fld := ⟨0x64, 0, 18⟩
def TASK_TKO_ENTRY : Fld := ⟨0x68, 0, 18⟩
def TASK_BUILD_BUDGET : Fld := ⟨0x64, 20, 8⟩
def TASK_BUILD_DL_TK : Fld := ⟨0x64, 28, 4⟩
def TASK_TKO_BUDGET : Fld := ⟨0x68, 20, 8⟩
def TASK_TKO_DL_TK : Fld := ⟨0x68, 28, 4⟩
def COUNT_TAKEOVERS : Fld := ⟨0x6c, 0, 16⟩
def COUNT_STALE : Fld := ⟨0x6c, 16, 16⟩
def MAP_PEER : Fld := ⟨0x24, 0, 24⟩
def AGE_AGE : Fld := ⟨0x2c, 0, 32⟩
def POLSTATE_STATE : Fld := ⟨0x30, 0, 32⟩
end TWIN

namespace ENGY
def PG_EVT_CLEARED : Fld := ⟨0x10, 0, 1⟩
def PG_EVT_CONV_DUE : Fld := ⟨0x10, 1, 1⟩
def PG_EVT_DEC_OVF : Fld := ⟨0x10, 8, 1⟩
def CFG_CONV_TK : Fld := ⟨0x20, 0, 16⟩
def TASK_CONV_ENTRY : Fld := ⟨0x24, 0, 18⟩
def TASK_CONV_BUDGET : Fld := ⟨0x24, 20, 8⟩
def TASK_CONV_DL_TK : Fld := ⟨0x24, 28, 4⟩
def CONV_STAT_TICK : Fld := ⟨0x28, 0, 32⟩
def CMD_KEY : Fld := ⟨0x2c, 16, 16⟩
def CMD_CLEAR : Fld := ⟨0x2c, 0, 8⟩
def ACC_OUT_LO_ACC : Fld := ⟨0x40, 0, 32⟩
def ACC_IN_LO_ACC : Fld := ⟨0x48, 0, 32⟩
def ACC_OUT_HI_ACC : Fld := ⟨0x44, 0, 32⟩
def ACC_IN_HI_ACC : Fld := ⟨0x4c, 0, 32⟩
def DEC_LO_DIGITS : Fld := ⟨0xc0, 0, 32⟩
def DEC_HI_DIGITS : Fld := ⟨0xc4, 0, 8⟩
end ENGY

namespace PLCR
def PG_CAPS_ENGINES : Fld := ⟨0x4, 0, 5⟩
def PG_EVT_SHED_UP : Fld := ⟨0x10, 0, 1⟩
def PG_EVT_SHED_DOWN : Fld := ⟨0x10, 1, 1⟩
def PG_EVT_DEADLINE_MISS : Fld := ⟨0x10, 2, 1⟩
def PG_EVT_OVERRUN : Fld := ⟨0x10, 3, 1⟩
def PG_EVT_DESC_LOST : Fld := ⟨0x10, 4, 1⟩
def PG_EVT_GEN_DISCARD : Fld := ⟨0x10, 5, 1⟩
def PG_EVT_ENG_RETIRED : Fld := ⟨0x10, 6, 1⟩
def PG_EVT_ENG_CRIT : Fld := ⟨0x10, 7, 1⟩
def CFG_FLASH_ENG : Fld := ⟨0x20, 0, 4⟩
def CFG_STORM_CNT : Fld := ⟨0x20, 8, 6⟩
def POST_SLOT : Fld := ⟨0x24, 0, 11⟩
def SHED_LEVEL : Fld := ⟨0x28, 0, 3⟩
def SHED_LOAD : Fld := ⟨0x28, 8, 8⟩
def CAPACITY_HEALTHY : Fld := ⟨0x2c, 0, 5⟩
def WDOG_C0_MISS : Fld := ⟨0x30, 0, 4⟩
def WDOG_STORM : Fld := ⟨0x30, 8, 6⟩
def DISCARDS_GEN : Fld := ⟨0x34, 0, 16⟩
def DISCARDS_LOST : Fld := ⟨0x34, 16, 16⟩
def MISSES_COUNT : Fld := ⟨0x38, 0, 16⟩
def MISSES_CLASS : Fld := ⟨0x38, 16, 3⟩
def OVERRUNS_COUNT : Fld := ⟨0x3c, 0, 16⟩
def QSTAT_COUNT : Fld := ⟨0x40, 0, 12⟩
def QSTAT_WORK : Fld := ⟨0x40, 16, 16⟩
end PLCR

namespace ENG
def PG_CTRL_ENABLE : Fld := ⟨0x8, 0, 1⟩
def PG_STAT_STATE : Fld := ⟨0xc, 0, 3⟩
def PG_EVT_OVERRUN : Fld := ⟨0x10, 0, 1⟩
def PG_EVT_OVER_BUDGET : Fld := ⟨0x10, 1, 1⟩
def PG_EVT_FAULT : Fld := ⟨0x10, 2, 1⟩
def PG_EVT_RETIRED : Fld := ⟨0x10, 3, 1⟩
def TASK_SLOT : Fld := ⟨0x20, 0, 11⟩
def TASK_CLASS : Fld := ⟨0x20, 16, 3⟩
def TASK_VALID : Fld := ⟨0x20, 31, 1⟩
def AFFINITY_TAG : Fld := ⟨0x24, 0, 16⟩
def USED_CYCLES : Fld := ⟨0x28, 0, 13⟩
def RUNS_COUNT : Fld := ⟨0x2c, 0, 32⟩
def FAULT_COUNT : Fld := ⟨0x30, 0, 2⟩
def FAULT_KIND : Fld := ⟨0x30, 4, 4⟩
def FAULT_ADDR : Fld := ⟨0x30, 16, 16⟩
def RETIRE_KEY : Fld := ⟨0x34, 16, 16⟩
def RETIRE_GO : Fld := ⟨0x34, 0, 1⟩
end ENG

namespace STORE
def PG_STAT_MIGRATING : Fld := ⟨0xc, 0, 1⟩
def PG_STAT_BANK_CRIT : Fld := ⟨0xc, 1, 1⟩
def PG_STAT_RETIRED : Fld := ⟨0xc, 8, 4⟩
def PG_EVT_PARITY : Fld := ⟨0x10, 0, 1⟩
def PG_EVT_FAULTY : Fld := ⟨0x10, 1, 1⟩
def PG_EVT_WATCH_OVF : Fld := ⟨0x10, 2, 1⟩
def PG_EVT_SCRUB_DONE : Fld := ⟨0x10, 3, 1⟩
def PG_EVT_MIGRATE_DONE : Fld := ⟨0x10, 4, 1⟩
def PG_EVT_BANK_CRIT : Fld := ⟨0x10, 5, 1⟩
def SCRUB_CFG_PERIOD_MS : Fld := ⟨0x20, 0, 10⟩
def SCRUB_STAT_CYCLES : Fld := ⟨0x24, 0, 16⟩
def SCRUB_STAT_PROGRESS : Fld := ⟨0x24, 16, 7⟩
def ERR_CNT_READER : Fld := ⟨0x28, 0, 16⟩
def ERR_CNT_SCRUB : Fld := ⟨0x28, 16, 16⟩
def LAST_ERR_WORD : Fld := ⟨0x2c, 2, 18⟩
def LAST_ERR_REQ : Fld := ⟨0x2c, 24, 4⟩
def WATCH_USED : Fld := ⟨0x30, 0, 5⟩
end STORE

namespace BANK
def RETIRED_BANKS : Fld := ⟨0x20, 0, 16⟩
def FAULTY_BANKS : Fld := ⟨0x24, 0, 16⟩
def CMD_KEY : Fld := ⟨0x28, 16, 16⟩
def CMD_BANK : Fld := ⟨0x28, 0, 4⟩
def CMD_RETIRE : Fld := ⟨0x28, 8, 1⟩
def CMD_STAT_BUSY : Fld := ⟨0x2c, 0, 1⟩
def CMD_STAT_RESULT : Fld := ⟨0x2c, 4, 4⟩
def ERRS_PARITY : Fld := ⟨0x40, 0, 16⟩
def ERRS_WATCH : Fld := ⟨0x40, 16, 8⟩
def SPARE_SEG : Fld := ⟨0x80, 0, 32⟩
end BANK

namespace FLASH
def PG_STAT_BUSY : Fld := ⟨0xc, 0, 1⟩
def PG_EVT_CMD_DONE : Fld := ⟨0x10, 0, 1⟩
def PG_EVT_ERASE_ABORT : Fld := ⟨0x10, 1, 1⟩
def GEOM_SECTOR : Fld := ⟨0x20, 0, 16⟩
def GEOM_SECTORS : Fld := ⟨0x20, 16, 8⟩
def ADDR_WORD : Fld := ⟨0x24, 2, 18⟩
def DATA_DATA : Fld := ⟨0x28, 0, 32⟩
def CMD_KEY : Fld := ⟨0x2c, 16, 16⟩
def CMD_OP : Fld := ⟨0x2c, 0, 2⟩
def CMD_STAT_BUSY : Fld := ⟨0x30, 0, 1⟩
def CMD_STAT_RESULT : Fld := ⟨0x30, 4, 4⟩
def RD_ADDR_WORD : Fld := ⟨0x34, 2, 18⟩
def RD_DATA_DATA : Fld := ⟨0x38, 0, 32⟩
def LAST_ABORT_SECTOR : Fld := ⟨0x3c, 12, 8⟩
def LAST_ABORT_VALID : Fld := ⟨0x3c, 31, 1⟩
end FLASH

namespace UPD
def PG_EVT_RESULT : Fld := ⟨0x10, 0, 1⟩
def PG_EVT_STAGED : Fld := ⟨0x10, 1, 1⟩
def PG_EVT_DIST_DONE : Fld := ⟨0x10, 2, 1⟩
def PG_EVT_TRIAL_EXPIRED : Fld := ⟨0x10, 3, 1⟩
def CFG_MIN_SOC : Fld := ⟨0x20, 0, 8⟩
def CFG_TRIAL_S : Fld := ⟨0x20, 16, 16⟩
def STAT_SESSION : Fld := ⟨0x24, 0, 2⟩
def STAT_ACTIVATED : Fld := ⟨0x24, 2, 1⟩
def STAT_UNLOCKED : Fld := ⟨0x24, 3, 1⟩
def STAT_CFG_AREA : Fld := ⟨0x24, 4, 1⟩
def STAT_NV_LOCK : Fld := ⟨0x24, 5, 1⟩
def STAT_REFUSE : Fld := ⟨0x24, 8, 6⟩
def STAT_RESULT : Fld := ⟨0x24, 16, 4⟩
def STAT_TOKEN_CODE : Fld := ⟨0x24, 20, 4⟩
def IMG_LEN_LENGTH : Fld := ⟨0x28, 0, 20⟩
def PAGES_ARRIVED : Fld := ⟨0x2c, 0, 12⟩
def PAGES_REQUIRED : Fld := ⟨0x2c, 16, 12⟩
def MAP_SEL_GROUP : Fld := ⟨0x30, 0, 6⟩
def MAP_PAGES : Fld := ⟨0x34, 0, 32⟩
def CMD_KEY : Fld := ⟨0x38, 16, 16⟩
def CMD_ABORT : Fld := ⟨0x38, 0, 1⟩
def CMD_ACTIVATE : Fld := ⟨0x38, 1, 1⟩
def CMD_CONFIRM : Fld := ⟨0x38, 2, 1⟩
def CMD_CFG_SWITCH : Fld := ⟨0x38, 3, 1⟩
def CMD_DISTRIBUTE : Fld := ⟨0x38, 4, 1⟩
def CMD_OWNER_LOCK : Fld := ⟨0x38, 5, 1⟩
def CMD_NEW_CHALLENGE : Fld := ⟨0x38, 6, 1⟩
def CMD_UNLOCK : Fld := ⟨0x38, 7, 1⟩
def TRIAL_LEFT_SECONDS : Fld := ⟨0x3c, 0, 16⟩
def DIST_CFG_GROUP : Fld := ⟨0x40, 0, 4⟩
def DIST_CFG_ROUNDS : Fld := ⟨0x40, 4, 4⟩
def DIST_CFG_SELF : Fld := ⟨0x40, 8, 1⟩
def DIST_CFG_SRC_ACTIVE : Fld := ⟨0x40, 9, 1⟩
def DIST_CFG_PAGE_US : Fld := ⟨0x40, 16, 16⟩
def DIST_MAP_NODES : Fld := ⟨0x44, 0, 32⟩
def DIST_STAT_STATE : Fld := ⟨0x4c, 0, 3⟩
def DIST_STAT_ROUND : Fld := ⟨0x4c, 4, 4⟩
def DIST_STAT_NODES_FAILED : Fld := ⟨0x4c, 8, 7⟩
def DIST_STAT_NODES_DONE : Fld := ⟨0x4c, 16, 7⟩
def FAILED_NODES : Fld := ⟨0x50, 0, 32⟩
def CHAL_LO_CHALLENGE : Fld := ⟨0x58, 0, 32⟩
def CHAL_HI_CHALLENGE : Fld := ⟨0x5c, 0, 32⟩
def TOKEN_BYTES : Fld := ⟨0x60, 0, 32⟩
def TASK_UPD_ENTRY : Fld := ⟨0xb8, 0, 18⟩
def TASK_DIST_ENTRY : Fld := ⟨0xbc, 0, 18⟩
def TASK_UPD_BUDGET : Fld := ⟨0xb8, 20, 8⟩
def TASK_UPD_DL_TK : Fld := ⟨0xb8, 28, 4⟩
def TASK_DIST_BUDGET : Fld := ⟨0xbc, 20, 8⟩
def TASK_DIST_DL_TK : Fld := ⟨0xbc, 28, 4⟩
end UPD

namespace NVD
def PG_CTRL_BLOCK_RESET : Fld := ⟨0x8, 1, 1⟩
def PG_EVT_CMD_DONE : Fld := ⟨0x10, 0, 1⟩
def CMD_KEY : Fld := ⟨0x20, 16, 16⟩
def CMD_OP : Fld := ⟨0x20, 0, 2⟩
def CMD_AREA : Fld := ⟨0x20, 8, 4⟩
def CMD_FORMAT : Fld := ⟨0x20, 12, 4⟩
def BUF_ADDR_WORD : Fld := ⟨0x24, 2, 18⟩
def LEN_BYTES : Fld := ⟨0x28, 0, 11⟩
def CMD_STAT_BUSY : Fld := ⟨0x2c, 0, 1⟩
def CMD_STAT_RESULT : Fld := ⟨0x2c, 4, 4⟩
def AREA_VALID_AREAS : Fld := ⟨0x30, 0, 16⟩
def DIRTY_PAGES : Fld := ⟨0x34, 0, 32⟩
def AREA_SEL_AREA : Fld := ⟨0x38, 0, 4⟩
def AREA_INFO_SEQ : Fld := ⟨0x3c, 0, 16⟩
def AREA_INFO_FORMAT : Fld := ⟨0x3c, 16, 8⟩
def AREA_INFO_SLOT : Fld := ⟨0x3c, 24, 1⟩
def AREA_INFO_BOTH : Fld := ⟨0x3c, 25, 1⟩
end NVD

namespace OTP
def PG_STAT_DEGRADED : Fld := ⟨0xc, 0, 1⟩
def PG_EVT_CMD_DONE : Fld := ⟨0x10, 0, 1⟩
def MARGIN_CNT_WORDS : Fld := ⟨0x24, 0, 9⟩
def RD_ADDR_WORD : Fld := ⟨0x28, 0, 8⟩
def RD_ADDR_MARGIN : Fld := ⟨0x28, 8, 1⟩
def RD_DATA_DATA : Fld := ⟨0x2c, 0, 32⟩
def PROG_ADDR_WORD : Fld := ⟨0x30, 0, 8⟩
def PROG_DATA_DATA : Fld := ⟨0x34, 0, 32⟩
def CMD_KEY : Fld := ⟨0x38, 16, 16⟩
def CMD_OP : Fld := ⟨0x38, 0, 2⟩
def CMD_REGION : Fld := ⟨0x38, 4, 3⟩
def CMD_STAT_BUSY : Fld := ⟨0x3c, 0, 1⟩
def CMD_STAT_RESULT : Fld := ⟨0x3c, 4, 4⟩
def REGION_STAT_ALL : Fld := ⟨0x20, 0, 28⟩
end OTP

namespace LOCK
def STICKY_OTP_PROG : Fld := ⟨0x20, 0, 1⟩
def STICKY_DBG_REQ : Fld := ⟨0x20, 1, 1⟩
def STICKY_OWNER_FLAG : Fld := ⟨0x20, 2, 1⟩
def STICKY_UPD : Fld := ⟨0x20, 3, 1⟩
def STICKY_SECRET : Fld := ⟨0x20, 4, 1⟩
def STICKY_FLASH_ACTIVE : Fld := ⟨0x20, 5, 1⟩
end LOCK

namespace DBG
def PG_EVT_OPENED : Fld := ⟨0x10, 0, 1⟩
def PG_EVT_REFUSED : Fld := ⟨0x10, 1, 1⟩
def STATE_STATE : Fld := ⟨0x20, 0, 2⟩
def STATE_FAILS : Fld := ⟨0x20, 4, 3⟩
def CHAL_LO_CHALLENGE : Fld := ⟨0x24, 0, 32⟩
def CHAL_HI_CHALLENGE : Fld := ⟨0x28, 0, 32⟩
def REQ_KEY : Fld := ⟨0x2c, 16, 16⟩
def REQ_NEW_CHALLENGE : Fld := ⟨0x2c, 0, 1⟩
def REQ_SUBMIT : Fld := ⟨0x2c, 1, 1⟩
def RESULT_CODE : Fld := ⟨0x30, 0, 4⟩
def TOKEN_BYTES : Fld := ⟨0x40, 0, 32⟩
end DBG

namespace MAINS
def PG_STAT_CONV_EN : Fld := ⟨0xc, 0, 1⟩
def PG_STAT_LINK_OK : Fld := ⟨0xc, 1, 1⟩
def PG_STAT_SYNC_PEND : Fld := ⟨0xc, 2, 1⟩
def PG_STAT_BARRIER_PWR : Fld := ⟨0xc, 3, 1⟩
def PG_EVT_STATE_CHG : Fld := ⟨0x10, 0, 1⟩
def PG_EVT_SAG : Fld := ⟨0x10, 1, 1⟩
def PG_EVT_LOSS : Fld := ⟨0x10, 2, 1⟩
def PG_EVT_RESTORE : Fld := ⟨0x10, 3, 1⟩
def PG_EVT_CONV_FAIL : Fld := ⟨0x10, 4, 1⟩
def PG_EVT_LINK_ERR : Fld := ⟨0x10, 5, 1⟩
def LINE_V_RMS : Fld := ⟨0x20, 0, 16⟩
def LINE_V_PEAK : Fld := ⟨0x20, 16, 16⟩
def LINE_F_FREQ : Fld := ⟨0x24, 0, 16⟩
def LINE_F_DC : Fld := ⟨0x24, 16, 1⟩
def STATE_LINE : Fld := ⟨0x28, 0, 2⟩
def STATE_SAG_COUNT : Fld := ⟨0x28, 8, 8⟩
def LOW_V_LEVEL : Fld := ⟨0x2c, 0, 16⟩
def SAG_V_LEVEL : Fld := ⟨0x30, 0, 16⟩
def SAG_TIME_SAG_CYC : Fld := ⟨0x34, 0, 8⟩
def SAG_TIME_LOSS_MS : Fld := ⟨0x34, 8, 8⟩
def POOL_CFG_POOL : Fld := ⟨0x38, 0, 4⟩
def POOL_CFG_ENABLE : Fld := ⟨0x38, 4, 1⟩
def BUD_LOW_POWER : Fld := ⟨0x3c, 0, 16⟩
def BUD_SAG_POWER : Fld := ⟨0x40, 0, 16⟩
def BUD_LOSS_POWER : Fld := ⟨0x44, 0, 16⟩
def BUDGET_POWER : Fld := ⟨0x48, 0, 16⟩
def CONV_CFG_CONV_TO_MS : Fld := ⟨0x4c, 0, 16⟩
end MAINS

/-- The registers of a `ID` page at offsets 0x20 and above. -/
def ID.rows : List RegRow :=
  [⟨0x20, 0, 0, 0, 0, 0, 0⟩] ++
  [⟨0x24, 0, 0, 0, 0, 0, 0x101⟩] ++
  RegRow.rep 7 ⟨0x28, 0, 0, 0, 0, 0, 0⟩ ++
  [⟨0x44, 0, 0, 0, 0, 0, 0x100800⟩]

/-- The registers of a `SYS` page at offsets 0x20 and above. -/
def SYS.rows : List RegRow :=
  RegRow.rep 2 ⟨0x20, 0, 0, 0, 0, 0, 0⟩ ++
  [⟨0x28, 0, 0, 0x3f, 0, 0, 0⟩] ++
  [⟨0x2c, 1, 0, 0, 0, 0, 0⟩]

/-- The registers of a `CLK` page at offsets 0x20 and above. -/
def CLK.rows : List RegRow :=
  RegRow.rep 2 ⟨0x20, 0, 0, 0, 0, 0, 0⟩ ++
  [⟨0x28, 0, 0, 0, 0, 0, 0x13880000⟩] ++
  [⟨0x2c, 0, 0, 0, 0, 0, 0⟩] ++
  [⟨0x30, 0xffffffff, 0, 0, 0, 0, 0⟩]

/-- The registers of a `SUP` page at offsets 0x20 and above. -/
def SUP.rows : List RegRow :=
  [⟨0x20, 0, 0xfffff, 0, 0, 0, 0xf140f⟩]

/-- The registers of a `BOOT` page at offsets 0x20 and above. -/
def BOOT.rows : List RegRow :=
  RegRow.rep 4 ⟨0x20, 0, 0, 0, 0, 0, 0⟩

/-- The registers of a `EVT` page at offsets 0x20 and above. -/
def EVT.rows : List RegRow :=
  RegRow.rep 8 ⟨0x20, 0, 0, 0, 0, 0, 0⟩ ++
  RegRow.rep 16 ⟨0x40, 0xffffffff, 0, 0, 0, 0, 0⟩ ++
  [⟨0x80, 0, 0, 0, 0, 0, 0⟩]

/-- The registers of a `AON` page at offsets 0x20 and above. -/
def AON.rows : List RegRow :=
  RegRow.rep 2 ⟨0x20, 0, 0, 0, 0, 0, 0⟩ ++
  [⟨0x28, 0, 0x3f, 0, 0, 0, 7⟩] ++
  [⟨0x2c, 0, 0, 0x700ff, 0, 0, 0⟩] ++
  [⟨0x30, 0, 0xff, 0, 0, 0, 0xff⟩] ++
  [⟨0x34, 0xffffff, 0, 0, 0, 0, 0⟩] ++
  [⟨0x38, 1, 0, 0, 0, 0, 0⟩] ++
  [⟨0x3c, 0x3ffc, 0, 0, 0, 0, 0⟩] ++
  [⟨0x40, 0xffffffff, 0, 0, 0, 0, 0⟩]

/-- The registers of a `GPIO` page at offsets 0x20 and above. -/
def GPIO.rows : List RegRow :=
  RegRow.rep 8 ⟨0x20, 0, 0x1f7f, 0, 0, 0, 0x100⟩ ++
  [⟨0x40, 0xff, 0, 0, 0, 0, 0⟩] ++
  [⟨0x44, 0, 0, 0, 0xff, 0, 0⟩] ++
  RegRow.rep 2 ⟨0x48, 0, 0, 0, 0, 0, 0⟩

/-- The registers of a `CC` page at offsets 0x20 and above. -/
def CC.rows : List RegRow :=
  [⟨0x20, 0, 0x7ff, 0, 0, 0, 0x100⟩] ++
  [⟨0x24, 0, 0xffffff, 0, 0, 0, 0x1e0f96⟩] ++
  [⟨0x28, 0, 0xffffff, 0, 0, 0, 0x643250⟩] ++
  [⟨0x2c, 0, 0x7ff03ff, 0, 0, 0, 0x3200258⟩] ++
  [⟨0x30, 0, 0xff03ff, 0, 0, 0, 0x4b00b7⟩] ++
  [⟨0x34, 0, 0xff3f, 0, 0, 0, 0x6428⟩] ++
  RegRow.rep 4 ⟨0x38, 0, 0, 0, 0, 0, 0⟩ ++
  [⟨0x48, 0, 0xfff3ffff, 0, 0, 0, 0x12000000⟩]

/-- The registers of a `PDL` page at offsets 0x20 and above. -/
def PDL.rows : List RegRow :=
  [⟨0x20, 0xff, 0, 0, 0, 0, 0xaa⟩] ++
  [⟨0x24, 0, 0xffff, 0, 0, 0, 0x1b10⟩] ++
  [⟨0x28, 0, 0x1f, 0, 0, 0, 0x1f⟩] ++
  RegRow.rep 2 ⟨0x2c, 0, 0xfff3ffff, 0, 0, 0, 0x22000000⟩ ++
  [⟨0x34, 0, 0xfff3ffff, 0, 0, 0, 0x12000000⟩] ++
  [⟨0x38, 0, 0xfff3ffff, 0, 0, 0, 0x22000000⟩] ++
  RegRow.rep 3 ⟨0x3c, 0, 0, 0, 0, 0, 0⟩ ++
  [⟨0x48, 0x3f, 0, 0, 0, 0, 0⟩] ++
  RegRow.rep 9 ⟨0x4c, 0, 0, 0, 0, 0, 0⟩

/-- The registers of a `GUARD` page at offsets 0x20 and above. -/
def GUARD.rows : List RegRow :=
  [⟨0x20, 0, 3, 0, 0, 0, 3⟩] ++
  [⟨0x24, 0xf103ff, 0, 0, 0, 0, 0xa1005e⟩] ++
  [⟨0x28, 0xf103ff, 0, 0, 0, 0, 0xf10040⟩] ++
  [⟨0x2c, 0x103ff, 0, 0, 0, 0, 0x103ff⟩] ++
  [⟨0x30, 0x3ff03ff, 0, 0, 0, 0, 0x960190⟩] ++
  [⟨0x34, 0x3ff, 0, 0, 0, 0, 5⟩] ++
  [⟨0x38, 0xff0fff, 0, 0, 0, 0, 0x280fff⟩] ++
  [⟨0x3c, 0, 0x3ff3f, 0, 0, 0, 0x960a⟩] ++
  [⟨0x40, 0, 0xffff03ff, 0, 0, 0, 0x1f403e8⟩] ++
  [⟨0x44, 0, 0xffff, 0, 0, 0, 0xfa0⟩] ++
  [⟨0x48, 0, 0xffffffff, 0, 0, 0, 0x3e80320⟩] ++
  [⟨0x4c, 0, 0xffff, 0, 0, 0, 0x1404⟩] ++
  RegRow.rep 6 ⟨0x50, 0, 0, 0, 0, 0, 0⟩ ++
  [⟨0x68, 0, 0xfff3ffff, 0, 0, 0, 0x12000000⟩]

/-- The registers of a `MEAS` page at offsets 0x20 and above. -/
def MEAS.rows : List RegRow :=
  [⟨0x20, 0, 0x1ffff, 0, 0, 0, 0x11388⟩] ++
  [⟨0x24, 0, 0xfff0fff, 0, 0, 0, 0xd340064⟩] ++
  RegRow.rep 4 ⟨0x28, 0, 0, 0, 0, 0, 0⟩ ++
  RegRow.rep 2 ⟨0x38, 0, 0, 0, 0, 0xffffffff, 0⟩ ++
  [⟨0x40, 0, 0, 0, 0, 0, 0⟩]

/-- The registers of a `POL` page at offsets 0x20 and above. -/
def POL.rows : List RegRow :=
  [⟨0x20, 0, 0x3f, 0, 0, 0, 0x35⟩] ++
  [⟨0x24, 0, 0xff3fffff, 0, 0, 0, 0xa0c80fa⟩] ++
  [⟨0x28, 3, 0, 0, 0, 0, 0⟩] ++
  RegRow.rep 3 ⟨0x2c, 0, 0, 0, 0, 0, 0⟩ ++
  [⟨0x38, 0, 0x3ff, 0, 0, 0, 0x12c⟩] ++
  [⟨0x3c, 0, 0x3ffffff, 0, 0, 0, 0x2ee1e1a⟩] ++
  [⟨0x40, 0, 0xff0f, 0, 0, 0, 0x505⟩] ++
  RegRow.rep 2 ⟨0x44, 0xffffffff, 0, 0, 0, 0, 0⟩ ++
  [⟨0x4c, 0xfff0fff, 0, 0, 0, 0, 0⟩] ++
  [⟨0x50, 0xffff, 0, 0, 0, 0, 0⟩] ++
  [⟨0x54, 0x3ff, 0, 0, 0, 0, 0⟩] ++
  RegRow.rep 10 ⟨0x58, 0, 0, 0, 0, 0, 0⟩ ++
  RegRow.rep 11 ⟨0x80, 0xffffffff, 0, 0, 0, 0, 0⟩ ++
  [⟨0xac, 0xfff0fff, 0, 0, 0, 0, 0x3e800fa⟩] ++
  [⟨0xb0, 0xffffffff, 0, 0, 0, 0, 0x177000fa⟩] ++
  [⟨0xb4, 0, 0, 0, 0, 0, 0⟩] ++
  [⟨0xb8, 0, 0xfff3ffff, 0, 0, 0, 0x22000000⟩]

/-- The registers of a `VDM` page at offsets 0x20 and above. -/
def VDM.rows : List RegRow :=
  [⟨0x20, 0, 0x1f, 0, 0, 0, 0x13⟩] ++
  [⟨0x24, 0, 0xffffff, 0, 0, 0, 0x322d1b⟩] ++
  [⟨0x28, 0, 0x713f, 0, 0, 0, 0xc⟩] ++
  [⟨0x2c, 0x7ffff, 0, 0, 0, 0, 0⟩] ++
  [⟨0x30, 0, 0, 0, 0, 0, 0⟩] ++
  [⟨0x34, 1, 0, 0, 0, 0, 0⟩] ++
  [⟨0x38, 0, 0, 0, 0, 0, 0⟩] ++
  [⟨0x3c, 0x707, 0, 0, 0, 0, 0⟩] ++
  [⟨0x40, 0xf0137, 0, 0, 0, 0, 0⟩] ++
  RegRow.rep 7 ⟨0x44, 0xffffffff, 0, 0, 0, 0, 0⟩ ++
  [⟨0x60, 0x7f3f, 0, 0, 0, 0, 0⟩] ++
  RegRow.rep 10 ⟨0x64, 0xffffffff, 0, 0, 0, 0, 0⟩ ++
  [⟨0x8c, 0x8007ffff, 0, 0, 0, 0, 0⟩] ++
  RegRow.rep 3 ⟨0x90, 0xffffffff, 0, 0, 0, 0, 0⟩

/-- The registers of a `SHARE` page at offsets 0x20 and above. -/
def SHARE.rows : List RegRow :=
  [⟨0x20, 0, 0xff3f3f07, 0, 0, 0, 0x140a0a00⟩] ++
  [⟨0x24, 0, 0xff, 0, 0, 0, 0⟩] ++
  [⟨0x28, 0, 0xfff0fff, 0, 0, 0, 0x3203e8⟩] ++
  [⟨0x2c, 0, 0x3ff, 0, 0, 0, 0x32⟩] ++
  [⟨0x30, 0, 0xffff00ff, 0, 0, 0, 0x96000f⟩] ++
  [⟨0x34, 0, 0xff7f, 0, 0, 0, 0xa32⟩] ++
  [⟨0x38, 0, 0xfff3ffff, 0, 0, 0, 0x22000000⟩] ++
  RegRow.rep 2 ⟨0x3c, 0, 0, 0, 0, 0, 0⟩ ++
  RegRow.rep 8 ⟨0x60, 0xffff, 0, 0, 0, 0, 0xffff⟩ ++
  RegRow.rep 16 ⟨0x80, 0, 0, 0, 0, 0, 0⟩

/-- The registers of a `GAUGE` page at offsets 0x20 and above. -/
def GAUGE.rows : List RegRow :=
  [⟨0x20, 0, 0x17, 0, 0, 0, 0⟩] ++
  [⟨0x24, 0, 0xffff, 0, 0, 0, 0x1388⟩] ++
  [⟨0x28, 0xffffff, 0, 0, 0, 0, 0⟩] ++
  [⟨0x2c, 0xfff0fff, 0, 0, 0, 0, 0xd340064⟩] ++
  [⟨0x30, 0xffffffff, 0, 0, 0, 0, 0xce40d7a⟩] ++
  [⟨0x34, 0xffffffff, 0, 0, 0, 0, 0x10360bb8⟩] ++
  [⟨0x38, 0xffff, 0, 0, 0, 0, 0x2814⟩] ++
  [⟨0x3c, 0xffffffff, 0, 0, 0, 0, 0x3c1e02⟩] ++
  RegRow.rep 6 ⟨0x40, 0, 0, 0, 0, 0, 0⟩ ++
  RegRow.rep 3 ⟨0x58, 0xffffff, 0, 0, 0, 0, 0⟩ ++
  [⟨0x64, 0x1ffffff, 0, 0, 0, 0, 0⟩] ++
  [⟨0x68, 0xffff, 0, 0, 0, 0, 0⟩] ++
  [⟨0x6c, 0xffffffff, 0, 0, 0, 0, 0xffffffff⟩] ++
  [⟨0x70, 0, 0xfff3ffff, 0, 0, 0, 0x42000000⟩]

/-- The registers of a `LEARN` page at offsets 0x20 and above. -/
def LEARN.rows : List RegRow :=
  [⟨0x20, 0, 0xffffffff, 0, 0, 0, 0x1680050⟩] ++
  [⟨0x24, 0, 0xffffff, 0, 0, 0, 0x5a0214⟩] ++
  [⟨0x28, 0, 0xffffff, 0, 0, 0, 0x48020a⟩] ++
  [⟨0x2c, 0x1f07, 0, 0, 0, 0, 0⟩] ++
  [⟨0x30, 0x3fff, 0, 0, 0, 0, 0⟩] ++
  RegRow.rep 2 ⟨0x34, 0xffffff, 0, 0, 0, 0, 0⟩ ++
  [⟨0x3c, 0xffffffff, 0, 0, 0, 0, 0⟩] ++
  [⟨0x40, 0xffffff, 0, 0, 0, 0, 0⟩] ++
  [⟨0x44, 0xffffffff, 0, 0, 0, 0, 0⟩] ++
  [⟨0x48, 0xffffff01, 0, 0, 0, 0, 0⟩] ++
  [⟨0x4c, 0, 0xfff3ffff, 0, 0, 0, 0xf2000000⟩] ++
  [⟨0x50, 0, 0, 0, 0, 0, 0⟩]

/-- The registers of a `BATID` page at offsets 0x20 and above. -/
def BATID.rows : List RegRow :=
  [⟨0x20, 0, 0x33, 0, 0, 0, 3⟩] ++
  [⟨0x24, 0, 0, 0, 0, 0, 0xffff⟩] ++
  [⟨0x28, 0, 0, 0, 0, 0, 0x100⟩] ++
  RegRow.rep 4 ⟨0x2c, 0xffffffff, 0, 0, 0, 0, 0⟩ ++
  [⟨0x3c, 0, 0, 0, 0, 0, 0⟩]

/-- The registers of a `CMPT` page at offsets 0x20 and above. -/
def CMPT.rows : List RegRow :=
  RegRow.rep 11 ⟨0x20, 0, 0, 0, 0, 0, 0⟩

/-- The registers of a `HOST` page at offsets 0x20 and above. -/
def HOST.rows : List RegRow :=
  [⟨0x20, 0, 0xffff, 0, 0, 0, 0xa14⟩] ++
  [⟨0x24, 0, 0xffff00ff, 0, 0, 0, 0xfafa001e⟩] ++
  RegRow.rep 7 ⟨0x28, 0, 0, 0, 0, 0, 0⟩

/-- The registers of a `MUXB` page at offsets 0x20 and above. -/
def MUXB.rows : List RegRow :=
  [⟨0x20, 0, 0x303, 0, 0, 0, 0x101⟩] ++
  [⟨0x24, 0x31f1f7f, 0, 0, 0, 0, 0⟩] ++
  RegRow.rep 4 ⟨0x28, 0xffffffff, 0, 0, 0, 0, 0⟩ ++
  RegRow.rep 6 ⟨0x38, 0, 0, 0, 0, 0, 0⟩

/-- The registers of a `HG` page at offsets 0x20 and above. -/
def HG.rows : List RegRow :=
  [⟨0x20, 0, 0x1f3777, 0, 0, 0, 0x100232⟩] ++
  RegRow.rep 8 ⟨0x24, 0, 0, 0, 0, 0, 0⟩

/-- The registers of a `FLEET` page at offsets 0x20 and above. -/
def FLEET.rows : List RegRow :=
  [⟨0x20, 0, 0xff037f01, 0, 0, 0, 0x4020000⟩] ++
  [⟨0x24, 0, 0, 0, 0, 0, 0x7f0000⟩] ++
  RegRow.rep 15 ⟨0x28, 0, 0, 0, 0, 0, 0⟩ ++
  [⟨0x64, 0x3f, 0, 0, 0, 0, 0⟩] ++
  [⟨0x68, 0, 0, 0, 0, 0, 0⟩] ++
  [⟨0x6c, 0, 0xfff3ffff, 0, 0, 0, 0x82000000⟩] ++
  RegRow.rep 2 ⟨0x70, 0, 0xfff3ffff, 0, 0, 0, 0x22000000⟩ ++
  RegRow.rep 2 ⟨0x78, 0, 0xfff3ffff, 0, 0, 0, 0xf2000000⟩ ++
  [⟨0x80, 0, 0xfff3ffff, 0, 0, 0, 0x12000000⟩] ++
  [⟨0x84, 0, 0xfff3ffff, 0, 0, 0, 0x42000000⟩]

/-- The registers of a `PLACE` page at offsets 0x20 and above. -/
def PLACE.rows : List RegRow :=
  [⟨0x20, 0, 0xffffff03, 0, 0, 0, 0x140a1001⟩] ++
  [⟨0x24, 0, 0xffffffff, 0, 0, 0, 0xfa01388⟩] ++
  [⟨0x28, 0, 0, 0, 0, 0, 0⟩] ++
  [⟨0x2c, 0x3ff3ffff, 0, 0, 0, 0, 0⟩] ++
  [⟨0x30, 0xf, 0, 0, 0, 0, 0⟩] ++
  RegRow.rep 3 ⟨0x34, 0xfffff, 0, 0, 0, 0, 0⟩ ++
  RegRow.rep 2 ⟨0x40, 0, 0, 0, 0, 0, 0⟩ ++
  [⟨0x48, 0x77f, 0, 0, 0, 0, 0⟩] ++
  [⟨0x4c, 0xffffffff, 0, 0, 0, 0, 0⟩] ++
  [⟨0x50, 0x10f07, 0, 0, 0, 0, 0⟩] ++
  RegRow.rep 3 ⟨0x54, 0, 0, 0, 0, 0, 0⟩ ++
  [⟨0x60, 0, 0xfff3ffff, 0, 0, 0, 0xf2000000⟩] ++
  [⟨0x64, 0, 0xfff3ffff, 0, 0, 0, 0x12000000⟩] ++
  RegRow.rep 2 ⟨0x68, 0xffffffff, 0, 0, 0, 0, 0⟩

/-- The registers of a `TWIN` page at offsets 0x20 and above. -/
def TWIN.rows : List RegRow :=
  [⟨0x20, 0, 0xff03, 0, 0, 0, 0⟩] ++
  [⟨0x24, 0, 0xffffff, 0, 0, 0, 0xfac688⟩] ++
  [⟨0x28, 0, 0, 0, 0, 0, 0⟩] ++
  [⟨0x2c, 0, 0, 0, 0, 0, 0xffffffff⟩] ++
  RegRow.rep 2 ⟨0x30, 0xffffffff, 0, 0, 0, 0, 0⟩ ++
  RegRow.rep 2 ⟨0x38, 0, 0, 0, 0, 0, 0⟩ ++
  [⟨0x40, 7, 0, 0, 0, 0, 0⟩] ++
  RegRow.rep 8 ⟨0x44, 0xffffffff, 0, 0, 0, 0, 0⟩ ++
  RegRow.rep 2 ⟨0x64, 0, 0xfff3ffff, 0, 0, 0, 0x12000000⟩ ++
  [⟨0x6c, 0, 0, 0, 0, 0, 0⟩]

/-- The registers of a `ENGY` page at offsets 0x20 and above. -/
def ENGY.rows : List RegRow :=
  [⟨0x20, 0, 0xffff, 0, 0, 0, 0xc8⟩] ++
  [⟨0x24, 0, 0xfff3ffff, 0, 0, 0, 0x42000000⟩] ++
  [⟨0x28, 0xffffffff, 0, 0, 0, 0, 0⟩] ++
  [⟨0x2c, 0, 0, 0, 0, 0, 0⟩] ++
  RegRow.rep 32 ⟨0x40, 0, 0, 0, 0, 0, 0⟩ ++
  [⟨0xc0, 0xffffffff, 0, 0, 0, 0, 0⟩] ++
  [⟨0xc4, 0xff, 0, 0, 0, 0, 0⟩] ++
  [⟨0xc8, 0xffffffff, 0, 0, 0, 0, 0⟩] ++
  [⟨0xcc, 0xff, 0, 0, 0, 0, 0⟩] ++
  [⟨0xd0, 0xffffffff, 0, 0, 0, 0, 0⟩] ++
  [⟨0xd4, 0xff, 0, 0, 0, 0, 0⟩] ++
  [⟨0xd8, 0xffffffff, 0, 0, 0, 0, 0⟩] ++
  [⟨0xdc, 0xff, 0, 0, 0, 0, 0⟩] ++
  [⟨0xe0, 0xffffffff, 0, 0, 0, 0, 0⟩] ++
  [⟨0xe4, 0xff, 0, 0, 0, 0, 0⟩] ++
  [⟨0xe8, 0xffffffff, 0, 0, 0, 0, 0⟩] ++
  [⟨0xec, 0xff, 0, 0, 0, 0, 0⟩] ++
  [⟨0xf0, 0xffffffff, 0, 0, 0, 0, 0⟩] ++
  [⟨0xf4, 0xff, 0, 0, 0, 0, 0⟩] ++
  [⟨0xf8, 0xffffffff, 0, 0, 0, 0, 0⟩] ++
  [⟨0xfc, 0xff, 0, 0, 0, 0, 0⟩]

/-- The registers of a `PLCR` page at offsets 0x20 and above. -/
def PLCR.rows : List RegRow :=
  [⟨0x20, 0, 0x3f0f, 0, 0, 0, 0x80f⟩] ++
  RegRow.rep 2 ⟨0x24, 0, 0, 0, 0, 0, 0⟩ ++
  [⟨0x2c, 0, 0, 0, 0, 0, 0x10⟩] ++
  RegRow.rep 10 ⟨0x30, 0, 0, 0, 0, 0, 0⟩

/-- The registers of a `ENG` page at offsets 0x20 and above. -/
def ENG.rows : List RegRow :=
  [⟨0x20, 0, 0, 0, 0, 0, 0⟩] ++
  [⟨0x24, 0, 0, 0, 0, 0, 0xffff⟩] ++
  RegRow.rep 4 ⟨0x28, 0, 0, 0, 0, 0, 0⟩

/-- The registers of a `STORE` page at offsets 0x20 and above. -/
def STORE.rows : List RegRow :=
  [⟨0x20, 0, 0x3ff, 0, 0, 0, 0x64⟩] ++
  RegRow.rep 4 ⟨0x24, 0, 0, 0, 0, 0, 0⟩

/-- The registers of a `BANK` page at offsets 0x20 and above. -/
def BANK.rows : List RegRow :=
  RegRow.rep 4 ⟨0x20, 0, 0, 0, 0, 0, 0⟩ ++
  RegRow.rep 16 ⟨0x40, 0, 0, 0, 0, 0, 0⟩ ++
  RegRow.rep 8 ⟨0x80, 0, 0, 0, 0, 0, 0xffffffff⟩

/-- The registers of a `FLASH` page at offsets 0x20 and above. -/
def FLASH.rows : List RegRow :=
  [⟨0x20, 0, 0, 0, 0, 0, 0x801000⟩] ++
  [⟨0x24, 0xffffc, 0, 0, 0, 0, 0⟩] ++
  [⟨0x28, 0xffffffff, 0, 0, 0, 0, 0⟩] ++
  RegRow.rep 2 ⟨0x2c, 0, 0, 0, 0, 0, 0⟩ ++
  [⟨0x34, 0xffffc, 0, 0, 0, 0, 0⟩] ++
  RegRow.rep 2 ⟨0x38, 0, 0, 0, 0, 0, 0⟩

/-- The registers of a `UPD` page at offsets 0x20 and above. -/
def UPD.rows : List RegRow :=
  [⟨0x20, 0, 0xffff00ff, 0, 0, 0, 0x12c001e⟩] ++
  RegRow.rep 3 ⟨0x24, 0, 0, 0, 0, 0, 0⟩ ++
  [⟨0x30, 0x3f, 0, 0, 0, 0, 0⟩] ++
  RegRow.rep 3 ⟨0x34, 0, 0, 0, 0, 0, 0⟩ ++
  [⟨0x40, 0, 0xffff03ff, 0, 0, 0, 0xbb80138⟩] ++
  RegRow.rep 2 ⟨0x44, 0xffffffff, 0, 0, 0, 0, 0⟩ ++
  RegRow.rep 27 ⟨0x4c, 0, 0, 0, 0, 0, 0⟩ ++
  RegRow.rep 2 ⟨0xb8, 0, 0xfff3ffff, 0, 0, 0, 0xf2000000⟩

/-- The registers of a `NVD` page at offsets 0x20 and above. -/
def NVD.rows : List RegRow :=
  [⟨0x20, 0, 0, 0, 0, 0, 0⟩] ++
  [⟨0x24, 0xffffc, 0, 0, 0, 0, 0⟩] ++
  [⟨0x28, 0x7ff, 0, 0, 0, 0, 0⟩] ++
  RegRow.rep 3 ⟨0x2c, 0, 0, 0, 0, 0, 0⟩ ++
  [⟨0x38, 0xf, 0, 0, 0, 0, 0⟩] ++
  [⟨0x3c, 0, 0, 0, 0, 0, 0⟩]

/-- The registers of a `OTP` page at offsets 0x20 and above. -/
def OTP.rows : List RegRow :=
  RegRow.rep 2 ⟨0x20, 0, 0, 0, 0, 0, 0⟩ ++
  [⟨0x28, 0x1ff, 0, 0, 0, 0, 0⟩] ++
  [⟨0x2c, 0, 0, 0, 0, 0, 0⟩] ++
  [⟨0x30, 0xff, 0, 0, 0, 0, 0⟩] ++
  [⟨0x34, 0xffffffff, 0, 0, 0, 0, 0⟩] ++
  RegRow.rep 2 ⟨0x38, 0, 0, 0, 0, 0, 0⟩

/-- The registers of a `LOCK` page at offsets 0x20 and above. -/
def LOCK.rows : List RegRow :=
  [⟨0x20, 0, 0, 0, 0x3f, 0, 0⟩]

/-- The registers of a `DBG` page at offsets 0x20 and above. -/
def DBG.rows : List RegRow :=
  RegRow.rep 5 ⟨0x20, 0, 0, 0, 0, 0, 0⟩ ++
  RegRow.rep 22 ⟨0x40, 0, 0, 0, 0, 0, 0⟩

/-- The registers of a `MAINS` page at offsets 0x20 and above. -/
def MAINS.rows : List RegRow :=
  RegRow.rep 2 ⟨0x20, 0, 0, 0, 0, 0, 0⟩ ++
  [⟨0x28, 0, 0, 0, 0, 0xff00, 0⟩] ++
  [⟨0x2c, 0, 0xffff, 0, 0, 0, 0x1194⟩] ++
  [⟨0x30, 0, 0xffff, 0, 0, 0, 0xea6⟩] ++
  [⟨0x34, 0, 0xffff, 0, 0, 0, 0x1902⟩] ++
  [⟨0x38, 0, 0x1f, 0, 0, 0, 0⟩] ++
  RegRow.rep 2 ⟨0x3c, 0, 0xffff, 0, 0, 0, 0xffff⟩ ++
  [⟨0x44, 0, 0xffff, 0, 0, 0, 0⟩] ++
  [⟨0x48, 0, 0, 0, 0, 0, 0xffff⟩] ++
  [⟨0x4c, 0, 0xffff, 0, 0, 0, 0x12c⟩]

/-- The registers of a `TEST` page at offsets 0x20 and above. -/
def TEST.rows : List RegRow :=
  []

/-- Table 2.9, the page map. `ENGY` has `PG_CAPS` 0xC000_0000, as its own table gives it, although a mixed page is said to read `AON` = 0 (log entry 92). -/
def pageMap : List PageRow :=
  [⟨.id, 0x0, 1, 0x1, 0x0, 1, false, 0x0, ID.rows⟩,
   ⟨.sys, 0x1, 1, 0x2, 0x0, 1, false, 0x3, SYS.rows⟩,
   ⟨.clk, 0x2, 1, 0x3, 0x40000000, 1, false, 0x7, CLK.rows⟩,
   ⟨.sup, 0x3, 1, 0x4, 0xc0000000, 1, false, 0x3f, SUP.rows⟩,
   ⟨.boot, 0x4, 1, 0x5, 0x0, 1, false, 0x7, BOOT.rows⟩,
   ⟨.evt, 0x5, 1, 0x6, 0x0, 1, false, 0x0, EVT.rows⟩,
   ⟨.aon, 0x6, 1, 0x7, 0xc0000000, 1, false, 0x1, AON.rows⟩,
   ⟨.gpio, 0x7, 1, 0x8, 0x800000ff, 1, true, 0xff, GPIO.rows⟩,
   ⟨.cc, 0x8, 8, 0x10, 0xc000003f, 1, true, 0xfff, CC.rows⟩,
   ⟨.pdl, 0x10, 8, 0x11, 0x8000000f, 0, true, 0x3fff, PDL.rows⟩,
   ⟨.guard, 0x18, 8, 0x12, 0xc0000007, 1, true, 0x1fff, GUARD.rows⟩,
   ⟨.meas, 0x20, 8, 0x13, 0x80000000, 1, true, 0x3, MEAS.rows⟩,
   ⟨.pol, 0x28, 8, 0x14, 0x8000001f, 1, true, 0x3ff, POL.rows⟩] ++
  [⟨.vdm, 0x30, 8, 0x15, 0x80000000, 1, false, 0x1ff, VDM.rows⟩,
   ⟨.share, 0x38, 1, 0x18, 0x80000008, 1, true, 0xff, SHARE.rows⟩,
   ⟨.gauge, 0x40, 1, 0x20, 0x80000035, 1, true, 0x3ff, GAUGE.rows⟩,
   ⟨.learn, 0x41, 1, 0x21, 0x80000000, 1, false, 0x11f, LEARN.rows⟩,
   ⟨.batid, 0x42, 1, 0x22, 0x80000004, 1, false, 0x7, BATID.rows⟩,
   ⟨.cmpt, 0x44, 1, 0x24, 0x40000006, 1, false, 0x1f, CMPT.rows⟩,
   ⟨.host, 0x50, 1, 0x28, 0x8000000f, 1, false, 0x3ff, HOST.rows⟩,
   ⟨.muxb, 0x51, 1, 0x29, 0x80000000, 1, false, 0x7, MUXB.rows⟩,
   ⟨.hg, 0x58, 3, 0x30, 0x80000001, 1, true, 0x7f, HG.rows⟩,
   ⟨.fleet, 0x5b, 1, 0x31, 0x80000000, 1, false, 0x1fff, FLEET.rows⟩,
   ⟨.place, 0x5c, 1, 0x32, 0x80000010, 1, false, 0xf3f, PLACE.rows⟩,
   ⟨.twin, 0x5d, 1, 0x33, 0x80000000, 1, false, 0x3f, TWIN.rows⟩,
   ⟨.engy, 0x5e, 1, 0x34, 0xc0000000, 1, false, 0x103, ENGY.rows⟩] ++
  [⟨.plcr, 0x60, 1, 0x38, 0x80000010, 1, false, 0xff, PLCR.rows⟩,
   ⟨.eng, 0x61, 16, 0x39, 0x0, 1, true, 0xf, ENG.rows⟩,
   ⟨.store, 0x78, 1, 0x3c, 0x80000000, 1, false, 0x3f, STORE.rows⟩,
   ⟨.bank, 0x79, 1, 0x3d, 0x0, 1, false, 0x0, BANK.rows⟩,
   ⟨.flash, 0x80, 1, 0x40, 0x0, 1, false, 0x3, FLASH.rows⟩,
   ⟨.upd, 0x81, 1, 0x41, 0x80000000, 1, false, 0xf, UPD.rows⟩,
   ⟨.nvd, 0x82, 1, 0x42, 0x0, 1, false, 0x1, NVD.rows⟩,
   ⟨.otp, 0x88, 1, 0x44, 0x0, 1, false, 0x1, OTP.rows⟩,
   ⟨.lock, 0x89, 1, 0x45, 0x40000000, 1, false, 0x0, LOCK.rows⟩,
   ⟨.dbg, 0x8a, 1, 0x46, 0x0, 1, false, 0x3, DBG.rows⟩,
   ⟨.mains, 0x90, 1, 0x48, 0xc0000000, 1, false, 0x3f, MAINS.rows⟩,
   ⟨.test, 0xf0, 1, 0xf0, 0x0, 1, false, 0x0, TEST.rows⟩]

end Sys2Proof.Machine
end

