-- ==== Sys2Proof/Machine/Sparse.lean ====
section
/-!
DEFINITION. Sparse tables: a list of (key, value) pairs in one canonical form, with every key that is not listed
reading as a default. They hold the register file, the stores and the flash arrays.
-/

namespace Sys2Proof.Machine

/-- The value at key `k`; an unlisted key reads as `d k`. -/
def Sparse.get {α : Type} (d : Nat → α) : List (Nat × α) → Nat → α
  | [], k => d k
  | (j, v) :: m, k => if j = k then v else Sparse.get d m k

/-- The table with `v` at `k`, in rising order of keys. -/
def Sparse.insert {α : Type} : List (Nat × α) → Nat → α → List (Nat × α)
  | [], k, v => [(k, v)]
  | (j, u) :: m, k, v =>
    if k < j then (k, v) :: (j, u) :: m
    else if k = j then (k, v) :: m
    else (j, u) :: Sparse.insert m k v

/-- The table without `k`. -/
def Sparse.erase {α : Type} (m : List (Nat × α)) (k : Nat) : List (Nat × α) :=
  m.filter fun c => c.1 != k

/-- Write `v` at `k`, keeping the canonical form: a value equal to the default leaves no entry. -/
def Sparse.set {α : Type} [DecidableEq α] (d : Nat → α) (m : List (Nat × α)) (k : Nat) (v : α) : List (Nat × α) :=
  if v = d k then Sparse.erase m k else Sparse.insert m k v

/-- The canonical form: keys strictly rising and no entry equal to the default. -/
def Sparse.wf {α : Type} [DecidableEq α] (d : Nat → α) : List (Nat × α) → Bool
  | [] => true
  | (k, v) :: m => decide (v ≠ d k) && m.all (fun c => decide (k < c.1)) && Sparse.wf d m

/-- Write the bytes `bs` at `a` and the addresses that follow. -/
def Sparse.setList {α : Type} [DecidableEq α] (d : Nat → α) : List (Nat × α) → Nat → List α → List (Nat × α)
  | m, _, [] => m
  | m, a, b :: bs => Sparse.setList d (Sparse.set d m a b) (a + 1) bs

/-- The `n` values at `a` and the keys that follow. -/
def Sparse.getList {α : Type} (d : Nat → α) (m : List (Nat × α)) (a : Nat) : Nat → List α
  | 0 => []
  | n + 1 => Sparse.get d m a :: Sparse.getList d m (a + 1) n

/-- Little-endian number of a list of bytes (R42: least significant byte first). -/
def leNat : List Byte → Nat
  | [] => 0
  | b :: bs => b.toNat + 256 * leNat bs

/-- The `n` bytes of a number, least significant first. -/
def leBytes : Nat → Nat → List Byte
  | 0, _ => []
  | n + 1, v => BitVec.ofNat 8 v :: leBytes n (v / 256)

/-- One bit step of a CRC register of `w` bits, most significant bit first. -/
def crcStep (w poly c : Nat) (b : Bool) : Nat :=
  let top := bitAt c (w - 1) != b
  let c2 := (c * 2) % 2 ^ w
  if top then c2 ^^^ poly else c2

/-- CRC-16/CCITT-FALSE over bytes (R143): polynomial 0x1021, most significant bit first, no final XOR. -/
def crc16From (c : Nat) (bs : List Byte) : Nat :=
  bs.foldl (fun c b => [7, 6, 5, 4, 3, 2, 1, 0].foldl (fun c i => crcStep 16 0x1021 c (b.getLsbD i)) c) c

/-- CRC-16 of a record (R143): initial value 0xFFFF. -/
def crc16 (bs : List Byte) : Nat := crc16From 0xFFFF bs

/-- CRC-8 of `HCHK` and of link words, and PEC (R256): polynomial 0x07, initial value 0 (R317). -/
def crc8 (bs : List Byte) : Nat :=
  bs.foldl (fun c b => [7, 6, 5, 4, 3, 2, 1, 0].foldl (fun c i => crcStep 8 0x07 c (b.getLsbD i)) c) 0

/-- One bit step of the reflected CRC-32 of IEEE 802.3. -/
def crc32Step (c : Nat) (b : Bool) : Nat :=
  if (bitAt c 0 != b) then (c / 2) ^^^ 0xEDB88320 else c / 2

/-- The CRC-32 register after bytes, before the final complement. -/
def crc32From (c : Nat) (bs : List Byte) : Nat :=
  bs.foldl (fun c b => [0, 1, 2, 3, 4, 5, 6, 7].foldl (fun c i => crc32Step c (b.getLsbD i)) c) c

/-- CRC-32 as used by IEEE 802.3 (R102). -/
def crc32 (bs : List Byte) : Nat := (crc32From 0xFFFFFFFF bs) ^^^ 0xFFFFFFFF

end Sys2Proof.Machine
end

