-- ==== Sys2Proof/Machine/State.lean ====
section
/-!
DEFINITION. The state of the LN-6416 as plain data: the register file, the stores, and what the blocks hold beside them; the reasons
a step can stop; the state right after a power-on reset.
-/

namespace Sys2Proof.Machine

/-- Where the device stands in its life (R26, R76, R81, R92): a POR or COLD reset is in force until COLD_BOOT releases
it; a WARM reset is in progress; CORE runs (RUN or DOZE); CORE is off in STANDBY or ZERO; only the SHIP detectors live. -/
inductive Phase where
  | reset | warm | run | sleep | ship
deriving DecidableEq, Repr

/-- The part: variant and grade (Table 0.1, Table 0.2). No command changes it. -/
structure Part where
  x : Bool
  gradeE : Bool
deriving DecidableEq, Repr

/-- Levels at shared pins and supplies, as last reported by a command (Table 3.3, Table 4.1); `gpioOpen`: the GPIO pads the board does not drive; `muxOut`: the bytes MUXB has put on its bus in its present or last transaction (R256). -/
structure Pins where
  vsysMv : Nat
  vddioMv : Nat
  vconnMv : Nat
  nrstLow : Bool
  testen : Bool
  motn : Bool
  mint : Bool
  gpio : BitVec 8
  gpioOpen : BitVec 8
  muxOut : List (BitVec 8)
deriving DecidableEq, Repr

/-- Reset causes merged into the reset in progress, held in AON until RST_CAUSE is loaded (R29, R41); BLOCK and PORT resets in progress: page and the
tick in which they began (R46); the source in use when a COLD reset began was VBUS (R70). -/
structure RstSt where
  causes : BitVec 6
  browned : Bool
  shipWake : Option (BitVec 32)
  blocks : List (Nat × Nat)
  onVbus : Bool
deriving DecidableEq, Repr

/-- States of a code bank (R97). -/
inductive BankState where
  | empty | staged | trial | confirmed | rejected
deriving DecidableEq, Repr

/-- A code bank's entry in the boot record. -/
structure BankRec where
  state : BankState
  trials : Nat
deriving DecidableEq, Repr

/-- The boot record of journal area 0 (R97, R116, R467, R468). `recent` names the bank confirmed most recently (false: A), `cfgB` says that area 3
holds the configuration of the confirmed image (else area 2). -/
structure BootRec where
  a : BankRec
  b : BankRec
  recent : Option Bool
  erasePending : Bool
  cfgB : Bool
deriving DecidableEq, Repr

/-- Boot state outside the registers: the journaled record, the record as decided in this boot, trial counts included (R97, R101), OTP words as
resolved at boot (R104), key slots found unusable then (bit 4: owner), whether OWNER failed its check. -/
structure BootSt where
  journal : BootRec
  now : BootRec
  otpEff : List (Nat × BitVec 32)
  keyBad : BitVec 5
  ownerFail : Bool
deriving DecidableEq, Repr

/-- A running OTP command (R107, R108). -/
inductive OtpOp where
  | program (word : Nat) (data : BitVec 32)
  | lock (region : Nat)
deriving DecidableEq, Repr

/-- A running NVD command (R111, R112). -/
inductive NvdOp where
  | write (area format : Nat)
  | read (area : Nat)
  | invalidate (area : Nat)
deriving DecidableEq, Repr

/-- A running FLASH command (R474): a word program, or a sector erase. -/
inductive FlashOp where
  | program (addr : Nat) (data : BitVec 32)
  | erase (addr : Nat)
deriving DecidableEq, Repr

/-- AON state outside the registers: the mode entry in progress and the tick boundaries it has passed (R77), barrier power asked for (R88), wake
sources that have fired, the tick of the last assertion of `MOTN`, DOZE left within the present tick (R75). -/
structure AonSt where
  entry : Option (Nat × Nat)
  zeroAsked : Bool
  wakes : BitVec 6
  motnAt : Option Nat
  dozed : Bool
deriving DecidableEq, Repr

/-- The mains companion (R82-R89, Table 4.6): `HV` has reached 100 V, level of `CONV_EN`, data channel up, barrier power on, consecutive cycles
below and at or above the two thresholds, a failed start still to be reported, a wake chain running in ZERO. The companion's own line state, thresholds
and budgets, which a write reaches when it is carried over (R86), and what it measured last: `sagNew` are cycles below `SAG_V` not yet shown. -/
structure MainsSt where
  hvSeen : Bool
  conv : Bool
  link : Bool
  barrier : Bool
  below : Nat
  belowSag : Nat
  atLow : Nat
  atSag : Nat
  convFail : Bool
  chain : Bool
  line : Nat
  lowV : Nat
  sagV : Nat
  cyc : Nat
  budLow : Nat
  budSag : Nat
  budLoss : Nat
  rms : Nat
  peak : Nat
  freq : Nat
  dc : Bool
  sagNew : Nat
deriving DecidableEq, Repr

/-- `DBG.STATE` (Table 5.10). -/
inductive DbgState where
  | closed | erasing | opened
deriving DecidableEq, Repr

/-- Debug access (R114-R117): the AON latch and the tokens refused, the challenge issued, whether it stands unused, whether a token is under check, and the
challenge it is checked against (none: it was used up before). -/
structure DbgSt where
  state : DbgState
  fails : Nat
  challenge : BitVec 64
  issued : Bool
  checking : Bool
  against : Option (BitVec 64)
deriving DecidableEq, Repr

/-- Pads held through WARM reset or wake (R60), their `PIN_CFG` and driven levels; pads that gave a TICK_OUT pulse at the last boundary (R59);
`IN` as edges were last judged on it. -/
structure GpioSt where
  heldCfg : Vector Nat 8
  heldOut : BitVec 8
  pulse : BitVec 8
  seen : BitVec 8
deriving DecidableEq, Repr

/-- A queue entry of the Placer (R125, R126): slot, the deadline in force, whether an engine fault put it at the head
of its class (R136), whether it waits for the next boundary whatever its number (R128). -/
structure QEnt where
  slot : Nat
  deadline : BitVec 32
  head : Bool
  again : Bool
deriving DecidableEq, Repr

/-- The Placer outside its registers and the descriptors (R124-R137). -/
structure PlcrSt where
  posts : List Nat
  queue : List QEnt
  hwDesc : List (Nat × List (BitVec 8))
  repost : List Nat
  above : Nat
  below : Nat
  nextLevel : Nat
  overTicks : List Nat
  c0Ready : Bool
  c0Yield : Bool
  started : List Nat
  cand : List Nat
deriving DecidableEq, Repr

/-- A watch-list entry of the store (R145, R146): the word, the tick of its entry, rewrite test done, written by a requester since. Words are
numbered by store offset / 4; a word of a spare segment that holds no segment by 0x40000 + its physical word number. -/
structure WatchEnt where
  word : Nat
  since : Nat
  tested : Bool
  written : Bool
deriving DecidableEq, Repr

/-- Store machinery (R140-R149): bytes with wrong parity (byte `i` of word `w` is 4 × w + i), the watch list, oldest entry first, the physical word the scrub checks next, the period of
the present scrub cycle in ms, the bank in migration. -/
structure StoreSt where
  bad : List Nat
  watch : List WatchEnt
  scrubPos : Nat
  scrubMs : Nat
  migrating : Option Nat
deriving DecidableEq, Repr

/-- What an engine does with a task (R126, R130). -/
inductive EngRun where
  | idle | running | preempted
deriving DecidableEq, Repr

/-- A Skink engine (Tables 17.1, 17.11): registers, CSRs, scratch, and the run in progress. -/
structure EngSt where
  d : Vector (BitVec 32) 16
  a : Vector (BitVec 24) 8
  acc : Vector (BitVec 72) 4
  p : BitVec 8
  pc : BitVec 18
  flg : BitVec 32
  mode : BitVec 32
  fhnd : BitVec 32
  fpc : BitVec 32
  fcause : BitVec 32
  faddr : BitVec 32
  seaddr : BitVec 32
  stklim : BitVec 32
  budleft : Int
  scratch : List Host.Cell
  used : Nat
  overMark : Bool
  faultTicks : List Nat
  run : EngRun
  halted : Bool
  retired : Bool
deriving DecidableEq, Repr

/-- Timers of the Type-C block (Table 7.4); the DRP period as its two shares. -/
inductive CcTimer where
  | ccDeb | pdDeb | errRec | snkShare | srcShare | tryMs | tryWait | tryTo
deriving DecidableEq, Repr

/-- Type-C state of a port outside its page (chapter 7). Pin voltages are the last reported, in mV. -/
structure CcSt where
  cc1Mv : Nat
  cc2Mv : Nat
  debDone : Bool        -- the debounce has ended and the state waits for VBUS or the owner check
  tryDone : Bool        -- TRY_MS has elapsed (Table 7.3)
  ownerOk : Bool        -- the owner check of R176 passed
  raLatch : Bool        -- R162
  raKnown : Bool
  autoDone : Bool       -- VCONN was switched on automatically in this attach
  vconnDsch : Bool      -- 1 kΩ on the VCONN pin (R164)
  hrHold : Bool         -- R168 suspended after a Hard Reset (R169)
  hrDipped : Bool       -- VBUS was below 4.0 V since the Hard Reset
  errRec : Bool         -- CMD.ERR_REC pending
  rstHold : Bool        -- held in Disabled after a PORT reset until VBUS < 0.8 V (R160)
  takenOver : Bool      -- a takeover ended the shadow presentation (R175)
  taskDue : Bool        -- slot 88 + n is posted at the next boundary (R180)
  watch : Nat           -- successive attach-watch samples that differ from open (R79)
  clampGone : Bool      -- the clamp was removed at the last boundary; Rd is read from the next (R151)
  raProbe : Option Bool -- VCONN waits for the probe of the other pin; true: firmware asked (R162)
  takenRp : Option (Nat × Nat) -- the mirrored Rp a takeover asserts, and CFG.RP as it stood then (R175)
  timers : List (CcTimer × Nat) -- timers of the state, with their lengths in µs (R155)
  vconnAt : Option Nat  -- the last boundary at which VCONN was on (R163)
deriving DecidableEq, Repr

/-- Where the record at the head of a port's transmit queue stands (R187-R199): not checked yet, held for `SINKTX_MS`
(R193), waiting for SinkTxOK (R194), ready for the line, awaiting its GoodCRC, awaiting a Chunk Request. -/
inductive TxPhase where
  | idle | hold | waitOk | ready | waitGcrc | waitChunk
deriving DecidableEq, Repr

/-- A frame the protocol layer builds itself: an automatic answer (R208) or a Chunk Request (R197); `hdr`: the header it went out with (R190). -/
structure LayerTx where
  answer : Bool
  sop : Nat
  typ : Nat
  body : List (BitVec 8)
  sent : Bool
  waiting : Bool
  tries : Nat
  hdr : Option Nat
deriving DecidableEq, Repr

/-- A reassembly in progress (R197): SOP*, buffer, Data Size, bytes received, chunks received, the header of chunk 0, a
Chunk Request owed, and the wait for the next chunk. -/
structure Reasm where
  sop : Nat
  buf : Nat
  size : Nat
  got : Nat
  chunks : Nat
  reqDue : Bool
  waiting : Bool
deriving DecidableEq, Repr

/-- Protocol-layer state of a port outside its page (chapter 8). `wired`: the head's frame has been on the line, with header `hdr`. `line` is the last thing the layer sent: an ordered set (0
SOP, 1 SOP′, 2 SOP″, 3 Hard Reset, 4 Cable Reset) and its bytes, `wire` the same as bits in the order sent, with the CC pin (R181). `holdUs` and `chunkUs` are the
lengths in µs of the hold and of the chunk wait last begun (R210). -/
structure PdlSt where
  queue : List Nat
  phase : TxPhase
  tries : Nat
  chunk : Nat
  wired : Bool
  hdr : Option Nat
  layer : List LayerTx
  reasm : List Reasm
  gcrc : Option (Nat × Nat)
  ng : Bool
  bistData : Bool
  bistCarrier : Bool
  hrSend : Bool
  line : Option (Nat × List (BitVec 8))
  wire : Option (Nat × List Bool)
  holdUs : Nat
  chunkUs : Nat
deriving DecidableEq, Repr

/-- A command of a `POL[n]` page that waits for a tick boundary (R219, R232, R239). -/
inductive PolCmd where
  | commit (gen : Nat)
  | clear (gen : Nat)
  | trans (vNew gen : Nat)
  | role (dataRole : Bool) (gen : Nat)
deriving DecidableEq, Repr

/-- Contract state of a port outside its page and snapshot (chapter 9). `target` counts 5 mV (0: default); window bounds
count 0.2 mV. `cenOff`: `CEN_PTn` is held low since a detach (R227); `moving`: the target still slews to `V_NEW`; `timerUs`: length in µs of the timer
of Table 9.4 begun last. -/
structure PolSt where
  cmds : List PolCmd
  target : Nat
  slew : Nat
  inWin : Nat
  winLo : Nat
  winHi : Nat
  oldLo : Nat
  oldHi : Nat
  held : Bool
  snapBad : Bool
  twinTrim : Int
  cenOff : Bool
  moving : Bool
  timerUs : Nat
deriving DecidableEq, Repr

/-- A VDM request that awaits its response (R244-R248): SOP*, header, whether it was repeated already, whether the partner answered BUSY, the length of
the wait in µs (R246). -/
structure VdmReq where
  sop : Nat
  hdr : BitVec 32
  body : List (BitVec 32)
  again : Bool
  busy : Bool
  waitUs : Nat
deriving DecidableEq, Repr

/-- What firmware does when a message it composed has its outcome: after an Accept of a Request it commits and starts the transition (R232); after PS_RDY it commits
or sends Hard Reset (R232); after the Accept of a DR_Swap it writes `ROLE_CMD` (R239); the host is told of its VDM (R252). `reply` marks the response to a VDM request (R245). -/
inductive FwGoal where
  | plain
  | accept (vNew gen : Nat)
  | psRdy (gen : Nat)
  | role (dfp : Bool) (gen : Nat)
  | reply
  | host
deriving DecidableEq, Repr

/-- A message that firmware composes: SOP*, `AMS_START`, header and objects, data of a transmit buffer, and what its outcome leads to. -/
structure FwMsg where
  sop : Nat
  ams : Bool
  msg : List (BitVec 8)
  ext : Option (List (BitVec 8))
  goal : FwGoal
deriving DecidableEq, Repr

/-- What the partner has still to answer Accept, Reject or Wait to (R231, R238). -/
inductive FwAsked where
  | nothing | request | drSwap
deriving DecidableEq, Repr

/-- What the standard policy firmware remembers of a port (R223, R224, R230, R238, R244-R253): `caps` are the objects last advertised, with
their positions; `modes` the modes discovered (SVID, position, VDO); `mux` the setting last ordered (0 safe, 1 USB, 2 C, 3 D, 4 E);
`drGen` the generation in which DR_Swap was sent; `softDue` a Soft_Reset owed when the layer is released (R27); `todo` the SVIDs whose modes are still to be asked for. `outbox` are messages that wait for a place in
the queue, `built` the messages behind the records queued (R21); `asked` what waits for an answer; `alert` the trips Alert has not told of (R242); `keepAt` the tick of the last EPR KeepAlive sent;
`eprAsked` the generation in which EPR mode was asked for (R231); `cbl` the cable request that awaits its response, `cbl2` whether SOP″ was asked; `svids` every SVID the partner listed; `svidOff` how many SVIDs the last responses listed; `hostReq` SOP* and header of the host's last VDM (R251). -/
structure FwSt where
  vdm : Option VdmReq
  todo : List Nat
  modes : List (Nat × Nat × BitVec 32)
  mux : Nat
  hostTx : Option Nat
  drGen : Option Nat
  hpdIn : Bool
  hpdLow : Nat
  mism : Bool
  tripped : Nat
  capsSends : Nat
  capsResets : Nat
  sinkResets : Nat
  caps : List (Nat × BitVec 32)
  epr : Bool
  srcCaps : List (BitVec 32)
  accepted : Bool
  cblTries : Nat
  discGen : Option Nat
  softDue : Bool
  outbox : List FwMsg
  built : List (Nat × FwMsg)
  asked : FwAsked
  alert : Nat
  keepAt : Nat
  eprAsked : Option Nat
  cbl : Option VdmReq
  cbl2 : Bool
  svids : List Nat
  svidOff : Nat
  hostReq : Option (Nat × BitVec 32)
deriving DecidableEq, Repr

/-- Path-guard state of a port outside its page (chapter 11). Times are tick numbers. `disabled`: `ENABLE` = 0 has taken effect; `waitHr`: the backoff is over and the
guard waits for the Hard Reset sequence to reach RAMP (Table 11.3); `gateUa`: the ramp current sourced now in µA; `soaUs`, `progUs`, `doneUs`, `uvpUs`, `backUs`: the
SOA limit, the two bounds of R265 or the one of R266, the UVP filter and the backoff time that were begun last, in µs. -/
structure GuardSt where
  trips : List Nat
  step : Nat
  tripSrc : Bool
  joined : Bool
  blank : Nat
  ocp : Nat
  otp : Nat
  preTests : Nat
  vinRamp : Nat
  blocks : List Nat
  dsch : Bool
  dschTrip : Bool
  dschWant : Bool
  assist : Bool
  mirWin : Option (Nat × Nat)
  disabled : Bool
  waitHr : Bool
  gateUa : Nat
  soaUs : Nat
  progUs : Nat
  doneUs : Nat
  uvpUs : Nat
  backUs : Nat
deriving DecidableEq, Repr

/-- Measurement state of a port outside its page: whether its channels are converted (Table 11.9), and whether a mean has
entered each MIN/MAX pair since its last read. -/
structure MeasSt where
  on : Bool
  vSeen : Bool
  iSeen : Bool
deriving DecidableEq, Repr

/-- Share-loop state of a port (chapter 12): membership and place in the sharing set as of the last boundary, its ceiling, whether
share or diode regulation holds its gate, and the counts of the coarse period. -/
structure ShareSt where
  member : Bool
  inSet : Bool
  ceil : Nat
  diode : Bool
  setTicks : Nat
  heldTicks : Nat
  sumI : Nat
  sumT : Nat
deriving DecidableEq, Repr

/-- Share-loop state of the device: boundaries until a release ends, membership held after a reset (R308), a trim clear asked for, a release in which
a member in RAMP keeps its joining limit (Table 12.2). -/
structure ShareGl where
  left : Nat
  hold : Bool
  trimClear : Bool
  keepJoin : Bool
deriving DecidableEq, Repr

/-- Everything a port holds outside the register file. -/
structure PortSt where
  vbusMv : Nat
  vinMv : Nat
  cc : CcSt
  pdl : PdlSt
  pol : PolSt
  fw : FwSt
  guard : GuardSt
  meas : MeasSt
  share : ShareSt
  irqOn : Bool
  irqWait : Bool
deriving DecidableEq, Repr

/-- Self-test machinery of the comparators (R284-R286): the copy under test in the running cycle (0-47), a periodic start
waiting, a read-back failure in the cycle, tests owed after a reset or wake per port (bit per copy), and whether the first
pass is still owed. -/
structure CmptSt where
  pos : Option Nat
  due : Bool
  bad : Bool
  seen : List Nat
deriving DecidableEq, Repr

/-- A Hedgerow frame waiting or unacknowledged at a transmitter: its header and payload, the transmit record it came from (R322,
R333), and whether it is in transit through this node (R319). -/
structure TxF where
  bytes : List (BitVec 8)
  slot : Option Nat
  transit : Bool
deriving DecidableEq, Repr

/-- A Hedgerow link outside its page (R319, R322, R324): unacknowledged frames, oldest first, with the link sequence set; frames waiting
for the window; errors in the window of 200 ticks; the last link word sent (acknowledged sequence, NAK, FAULT). -/
structure LinkSt where
  win : List TxF
  queue : List TxF
  errs : Nat
  word : Option (Nat × Bool × Bool)
  line : Option (List (BitVec 8))
  phy : BitVec 32
deriving DecidableEq, Repr

/-- A frame delivered to this node (R320) whose handling has not run: ring it came by (0 primary, 1 secondary, 2 TIE), header and payload,
tick of its end symbol. -/
structure RxF where
  via : Nat
  bytes : List (BitVec 8)
  tick : Nat
deriving DecidableEq, Repr

/-- A proxied register access the manager waits for (R330, R332): tag, node, page, offset, words to write, number of words, tick sent. -/
structure Proxy where
  tag : Nat
  node : Nat
  page : Nat
  off : Nat
  write : Bool
  data : List (BitVec 32)
  count : Nat
  since : Nat
deriving DecidableEq, Repr

/-- Fleet state outside its page (R321-R335). `lastTag`: last broadcast tag delivered by source; `heard`: tick of the last frame by source;
`wraps`: (node, link) pairs reported wrapping; `good`, `late`: consecutive TICK frames inside and outside 250 ns; `taken`: number of the last
TICK taken and whether it came by the primary ring; `entryLeft`: boundaries left of the eight after entry; `probeOk`: the probe before the last
one sent returned in time; `returned`: the deferred manager; `handback`: tick at which the hand-back began; `mgrDelay`: the strapped
manager's calibrated delays seen from here; `nextAdj`: correction of the next tick in cycles (R119); `attnAcked`: `NODE_SUM.ATTN` as last acknowledged, `attnMgr`: the manager it was sent to. -/
structure FleetSt where
  inbox : List RxF
  seq : Nat
  reqTag : Nat
  lastTag : List (Nat × Nat)
  heard : List (Nat × Nat)
  wraps : List (Nat × Nat)
  good : Nat
  late : Nat
  taken : Option (Nat × Bool)
  mgrSeen : Option Nat
  entryLeft : Nat
  stopTick : Bool
  probeBack : Bool
  probeOk : Bool
  forceTko : Bool
  returned : Option Nat
  handback : Option Nat
  mgrDelay : Nat × Nat
  nextAdj : Int
  attnAcked : Bool
  attnMgr : Option Nat
  proxy : Option Proxy
deriving DecidableEq, Repr

/-- What a worker holds of its port's grant (R345-R349): the grant, floor, start tick [15:0], sequence and kind received; a renegotiation owed at
the start tick; a decrease not confirmed; whether a limit follows the grant, for which contract it was written, and whether it is in
force; the value and sequence last confirmed; whether the port is held out of the source states, and was a DRP before; whether VBUS has been low since the grant. -/
structure OwnGrant where
  grant : Nat
  floor : Nat
  start : Nat
  seq : Nat
  kind : Nat
  todo : Bool
  pend : Bool
  limited : Bool
  limId : Nat
  limitSet : Bool
  ack : Nat
  ackSeq : Nat
  held : Bool
  wasDrp : Bool
  lowSeen : Bool
deriving DecidableEq, Repr

/-- What the placing device knows of a port beside its record (R341, R344): record index 8 × node + port, attached, low battery, thermal state,
a decrease not confirmed, the kind of the last grant, the grant last sent, its start tick, a record being rebuilt (R358), twin role as far as `CONTRACT` shows it (0 not
twinned, 1 attached: owner, 2 shadow). -/
structure Led where
  idx : Nat
  attached : Bool
  lowBat : Bool
  therm : Nat
  pend : Bool
  kind : Nat
  sent : Nat
  start : Nat
  rebuild : Bool
  twin : Nat
deriving DecidableEq, Repr

/-- What the placing device knows of a node (R339, R355): tick of the last GRANT sent, HOLD as reported, tick its lease was taken as expired,
no increase in the next run, mains bound (pool, budget). -/
structure NodeLed where
  node : Nat
  last : Nat
  hold : Bool
  orphanAt : Option Nat
  released : Bool
  noInc : Bool
  bound : Option (Nat × Nat)
deriving DecidableEq, Repr

/-- Placement outside its page and records (chapter 14). -/
structure PlaceSt where
  leds : List Led
  nodes : List NodeLed
  seq : Nat
  runs : Nat
  cmdRun : Bool
  cutPools : List Nat
  due : Option Nat
  noIncAll : Bool
  lastA : List (Nat × Nat)
  own : Vector OwnGrant 8
  since : Nat
  leaseOn : Bool
  expiredAt : Nat
  contract : List (BitVec 8)
  demand : Vector Nat 8
  soc : Vector Nat 8
  lastOut : Vector Nat 8
  dirty : List Nat
  mirRun : Nat
  mirMask : Nat
  mirDone : Nat
  mirTick : Nat
  engyClear : Nat
deriving DecidableEq, Repr

/-- Twin state of a port (R360-R363): the mirror entry held, the tick of this device's claim of the pair, a yield that still has to write `ENABLE` = 1. -/
structure TwinPort where
  mir : Option (List (BitVec 8))
  claim : Option Nat
  yields : Bool
deriving DecidableEq, Repr

/-- Twin state: the ports, and the tick of the last valid TWIN frame. -/
structure TwinSt where
  ports : Vector TwinPort 8
  last : Option Nat
deriving DecidableEq, Repr


/-- The gauge outside its pages (chapter 15): `ACC` up to which charge has been counted and the fraction of 0.1 mAh left over; `ACC` at the samples
of the last 60 s, newest first; the counter's offset and last code, tick of the last full-scale code; runs below each EDV threshold and
the thresholds confirmed (bit 0 EDV2, 1 EDV1, 2 EDV0); since when end-of-charge conditions have held; the rest in progress, its current, whether
its long reading was made; since when the cell voltage has been in range; tick of the last step of `SOC`; FCC and tick at the start of the
learning cycle, whether its conditions have held so far; the profile loaded; successive present and absent samples; the gauge has just booted or
woken; a FORGET that slot 113 still has to carry out. -/
structure GaugeSt where
  lastAcc : Int
  frac : Int
  hist : List (Nat × Int)
  ccOff : Int
  ccPrev : Int
  overTick : Option Nat
  edvRuns : Vector Nat 3
  edvDone : Nat
  eocSince : Option Nat
  eocDone : Bool
  idleSince : Option Nat
  iPre : Int
  ocvDone : Bool
  inRange : Option Nat
  socTick : Nat
  fccStart : Nat
  startTick : Nat
  qual : Bool
  qPlus : Nat
  bidAt : Nat
  prof : Option Profile
  present : Nat
  absent : Nat
  wake : Bool
  forget : Bool
deriving DecidableEq, Repr

/-- What the device has posted for the host (R408): a remote write, a block of `n` bytes in the block buffer, a commit. -/
inductive PostOp where
  | remote
  | block (n : Nat)
  | commit
deriving DecidableEq, Repr

/-- A host command whose transaction is stretched, as its row carries it. -/
inductive HostCmd where
  | readBlock (n : Nat) (pec : Bool) (e : Option (BusErr × Nat))
  | writeBlock (n : Nat) (data : List (BitVec 8)) (pec : Option (BitVec 8)) (e : Option BusErr)
  | readWord (pec : Bool) (e : Option (BusErr × Nat))
  | writeWord (v : BitVec 32) (pec : Option (BitVec 8)) (e : Option BusErr)
  | storeWrite (n : Nat) (badSub : Bool) (off : Nat) (data : List (BitVec 8)) (pec : Option (BitVec 8)) (e : Option BusErr)
  | storeRead (n off l : Nat) (pec : Bool) (e : Option (BusErr × Nat)) (spoil : Option Nat)
  | updBlock (n : Nat) (off : BitVec 32) (data : List (BitVec 8)) (crc : BitVec 16) (pec : Option (BitVec 8)) (e : Option BusErr)
  | updCommit (pec : Option (BitVec 8)) (e : Option BusErr)
deriving DecidableEq, Repr

/-- Why a transaction is stretched (R410): a posted operation is outstanding, or a remote read awaits its response. -/
inductive HostWait where
  | posted (c : HostCmd)
  | data (c : HostCmd)
deriving DecidableEq, Repr

/-- A remote read: node, page, offset, number of words, words received and when. -/
structure RRead where
  node : Nat
  page : Nat
  off : Nat
  count : Nat
  status : Nat
  words : List (BitVec 32)
  tick : Nat
deriving DecidableEq, Repr

/-- The host bus outside its page (chapter 16): the posted operation and whether the status still shows it, the remote read outstanding, held data,
the stretched transaction and how long it has been stretched in µs, the bytes the device sent last; summary bits already seen 1, a bit that
rose during the hold, the hold, a notify on the bus, SDA found stuck. -/
structure HostSt where
  posted : Option PostOp
  own : Bool
  read : Option RRead
  held : Option RRead
  wait : Option HostWait
  total : Nat
  sent : List (BitVec 8)
  seen : Nat
  rose : Bool
  holding : Bool
  onBus : Bool
  stuck : Bool
deriving DecidableEq, Repr

/-- A fleet session on a worker (R470): session number, `LENGTH`, the last SECTION, tick of the last `IMG` frame. -/
structure ImgSess where
  num : Nat
  len : Nat
  sect : Nat
  last : Nat
deriving DecidableEq, Repr

/-- Where the distribution task stands (R472): stage (0 START, 1 sections, 2 END, 3 END reports awaited, 4 COMMIT, 5 COMMIT reports awaited, 6
ACTIVATE, 7 RUNNING reports awaited, 8 self), session number, length, targets left in node order, sections to send, next page of the section being
sent, missing sections by node, nodes whose report is awaited, targets activated, repair rounds made. -/
structure Dist where
  stage : Nat
  num : Nat
  len : Nat
  ver : Nat
  targets : List Nat
  todo : List Nat
  page : Option Nat
  missing : List (Nat × Nat)
  waiting : List Nat
  active : List Nat
  round : Nat
deriving DecidableEq, Repr

/-- Update machinery outside its page and the store (chapter 18): the fleet session, whether START named this node, when the trial timer elapses,
an activation reset in progress with the bank it is to start, the reports owed to the manager, the last session number sent, the unlock challenge and
whether it stands unused, the tick of the last firmware entry, the distribution. -/
structure UpdSt where
  img : Option ImgSess
  named : Bool
  trialEnd : Option Nat
  activate : Option Bool
  reports : List Nat
  sessNum : Nat
  challenge : BitVec 64
  issued : Bool
  entryTick : Nat
  dist : Option Dist
deriving DecidableEq, Repr


/-- The machine. `tick` is the tick counter (R17), `sticky` the sticky locks (R110); `regs` is the register file (key page × 64 + word), `inForce` the values of AON fields as the last tick boundary applied
them (R15), `shadow` the high words latched by low-word reads (R44), `snaps` the copies frozen by PG_CTRL.FREEZE (R38); the stores are
sparse bytes. `fresh` is the model's own: it numbers free values (log entry 1). -/
structure State where
  pending : List Instr
  tick : Nat
  sticky : BitVec 6
  regs : List (Nat × BitVec 32)
  inForce : List (Nat × BitVec 32)
  snaps : List (Nat × BitVec 32)
  shadow : List (Nat × BitVec 32)
  readData : BitVec 32
  store : List Host.Cell
  aos : List Host.Cell
  nvd : List Host.Cell
  code : List Host.Cell
  iram : List Host.Cell
  otp : List (Nat × BitVec 32)
  otpMargin : List (Nat × BitVec 32)
  part : Part
  pins : Pins
  phase : Phase
  rst : RstSt
  boot : BootSt
  aon : AonSt
  mains : MainsSt
  dbg : DbgSt
  gpio : GpioSt
  plcr : PlcrSt
  st : StoreSt
  engs : Vector EngSt 16
  ports : Vector PortSt 8
  cmpt : CmptSt
  share : ShareGl
  links : Vector LinkSt 3
  fleet : FleetSt
  place : PlaceSt
  twin : TwinSt
  gauge : GaugeSt
  host : HostSt
  upd : UpdSt
  flashOp : Option FlashOp
  nvdOp : Option NvdOp
  otpOp : Option OtpOp
  fresh : Nat
deriving DecidableEq, Repr

/-- Faults. There are none: the spec names no event on which the device stops for good. -/
inductive Fault where
deriving DecidableEq, Repr

/-- Refusals. -/
inductive Refusal where
  /-- Raised by `exec` for a command that has no meaning yet. Safe: the step stops. -/
  | notModelled (mnemonic : String)
deriving DecidableEq, Repr

/-! ### The state right after a power-on reset

What the spec gives a value is at that value: the register file lists nothing, so every register reads as its reset value. Log entry 2 names what the spec
gives none. -/

def EngSt.init : EngSt :=
  { d := Vector.replicate 16 0, a := Vector.replicate 8 0, acc := Vector.replicate 4 0, p := 1, pc := 0, flg := 0, mode := 0, fhnd := 0, fpc := 0,
    fcause := 0, faddr := 0, seaddr := 0, stklim := 0, budleft := 0, scratch := [], used := 0, overMark := false, faultTicks := [], run := .idle,
    halted := false, retired := false }

def CcSt.init : CcSt :=
  { cc1Mv := 0, cc2Mv := 0, debDone := false, tryDone := false, ownerOk := false, raLatch := false, raKnown := false, autoDone := false,
    vconnDsch := false, hrHold := false, hrDipped := false, errRec := false, rstHold := false, takenOver := false, taskDue := false, watch := 0,
    clampGone := false, raProbe := none, takenRp := none, timers := [], vconnAt := none }

def PdlSt.init : PdlSt :=
  { queue := [], phase := .idle, tries := 0, chunk := 0, wired := false, hdr := none, layer := [], reasm := [], gcrc := none, ng := false,
    bistData := false, bistCarrier := false, hrSend := false, line := none, wire := none, holdUs := 0, chunkUs := 0 }

def PolSt.init : PolSt :=
  { cmds := [], target := 0, slew := 0, inWin := 0, winLo := 0, winHi := 0, oldLo := 0, oldHi := 0, held := false, snapBad := false, twinTrim := 0,
    cenOff := false, moving := false, timerUs := 0 }

def FwSt.init : FwSt :=
  { vdm := none, todo := [], modes := [], mux := 0, hostTx := none, drGen := none, hpdIn := false, hpdLow := 0, mism := false, tripped := 0,
    capsSends := 0, capsResets := 0, sinkResets := 0, caps := [], epr := false, srcCaps := [], accepted := false, cblTries := 0, discGen := none, softDue := false,
    outbox := [], built := [], asked := .nothing, alert := 0, keepAt := 0, eprAsked := none, cbl := none, cbl2 := false, svids := [], svidOff := 0, hostReq := none }

def GuardSt.init : GuardSt :=
  { trips := [], step := 0, tripSrc := false, joined := false, blank := 0, ocp := 0, otp := 0, preTests := 0, vinRamp := 0, blocks := [],
    dsch := false, dschTrip := false, dschWant := false, assist := false, mirWin := none, disabled := false, waitHr := false,
    gateUa := 0, soaUs := 0, progUs := 0, doneUs := 0, uvpUs := 0, backUs := 0 }

def MeasSt.init : MeasSt := { on := false, vSeen := false, iSeen := false }

def ShareSt.init : ShareSt := { member := false, inSet := false, ceil := 0, diode := false, setTicks := 0, heldTicks := 0, sumI := 0, sumT := 0 }

/-- A port's hidden state; `VBUS` and `VIN` at 0 mV. -/
def PortSt.init : PortSt :=
  { vbusMv := 0, vinMv := 0, cc := .init, pdl := .init, pol := .init, fw := .init, guard := .init, meas := .init, share := .init, irqOn := false,
    irqWait := false }

def LinkSt.init : LinkSt := { win := [], queue := [], errs := 0, word := none, line := none, phy := 0x0232 }

def FleetSt.init : FleetSt :=
  { inbox := [], seq := 0, reqTag := 0, lastTag := [], heard := [], wraps := [], good := 0, late := 0, taken := none, mgrSeen := none,
    entryLeft := 0, stopTick := false, probeBack := false, probeOk := false, forceTko := false, returned := none, handback := none,
    mgrDelay := (0, 0), nextAdj := 0, attnAcked := false, attnMgr := none, proxy := none }

def OwnGrant.init : OwnGrant :=
  { grant := 0, floor := 0, start := 0, seq := 0, kind := 0, todo := false, pend := false, limited := false, limId := 0, limitSet := false, ack := 0,
    ackSeq := 0, held := false, wasDrp := false, lowSeen := false }

def PlaceSt.init : PlaceSt :=
  { leds := [], nodes := [], seq := 0, runs := 0, cmdRun := false, cutPools := [], due := none, noIncAll := false, lastA := [],
    own := Vector.replicate 8 .init, since := 0, leaseOn := false, expiredAt := 0, contract := [], demand := Vector.replicate 8 0,
    soc := Vector.replicate 8 0, lastOut := Vector.replicate 8 0, dirty := [], mirRun := 0, mirMask := 0, mirDone := 0, mirTick := 0, engyClear := 0 }

def TwinSt.init : TwinSt := { ports := Vector.replicate 8 { mir := none, claim := none, yields := false }, last := none }

def GaugeSt.init : GaugeSt :=
  { lastAcc := 0, frac := 0, hist := [], ccOff := 0, ccPrev := 0, overTick := none, edvRuns := #v[0, 0, 0], edvDone := 0, eocSince := none,
    eocDone := false, qPlus := 0, bidAt := 0, idleSince := none, iPre := 0, ocvDone := false, inRange := none, socTick := 0, fccStart := 0, startTick := 0, qual := false, prof := none,
    present := 0, absent := 0, wake := true, forget := false }

def HostSt.init : HostSt :=
  { posted := none, own := false, read := none, held := none, wait := none, total := 0, sent := [], seen := 0, rose := false, holding := false,
    onBus := false, stuck := false }

def UpdSt.init : UpdSt :=
  { img := none, named := false, trialEnd := none, activate := none, reports := [], sessNum := 0, challenge := 0, issued := false, entryTick := 0,
    dist := none }

def PlcrSt.init : PlcrSt :=
  { posts := [], queue := [], hwDesc := [], repost := [], above := 0, below := 0, nextLevel := 0, overTicks := [], c0Ready := false, c0Yield := false,
    started := [], cand := [] }

def StoreSt.init : StoreSt := { bad := [], watch := [], scrubPos := 0, scrubMs := 100, migrating := none }

def GpioSt.init : GpioSt := { heldCfg := Vector.replicate 8 0, heldOut := 0, pulse := 0, seen := 0 }

def AonSt.init : AonSt := { entry := none, zeroAsked := false, wakes := 0, motnAt := none, dozed := false }

/-- The companion at reset: its fields at the reset values of Table 4.12. -/
def MainsSt.init : MainsSt :=
  { hvSeen := false, conv := false, link := false, barrier := false, below := 0, belowSag := 0, atLow := 0, atSag := 0, convFail := false, chain := false,
    line := 0, lowV := 0x1194, sagV := 0x0EA6, cyc := 2, budLow := 0xFFFF, budSag := 0xFFFF, budLoss := 0, rms := 0, peak := 0, freq := 0, dc := false,
    sagNew := 0 }

/-- The boot record of a device as delivered (log entry 2): an image confirmed in each bank. -/
def BootRec.init : BootRec := { a := ⟨.confirmed, 0⟩, b := ⟨.confirmed, 0⟩, recent := none, erasePending := false, cfgB := false }

/-- Data flash of a device as delivered: slot 0 of area 0 holds `BootRec.init` as a record with sequence number 0 (log entries 2, 86, 99). -/
def factoryNvd : List Host.Cell :=
  [(0, 8), (1, 0), (2, 0), (3, 0), (4, 0), (5, 0), (8, 3), (9, 0), (10, 3), (11, 0), (12, 0), (13, 0), (14, 0), (15, 0)] ++
    [(2040, 0x08), (2041, 0x7A), (2042, 0xBB), (2043, 0x3F), (2044, 0xA5), (2045, 0xA5), (2046, 0x5A), (2047, 0x5A)]

/-- The machine right after a power-on reset has begun: no command waits, every register holds its reset value (Table 2.2 and the pages' tables), the
memories list nothing but the boot record in data flash, and COLD_BOOT is still to come (log entry 2). -/
def State.reset : State :=
  { pending := [], tick := 0, sticky := 0, regs := [], inForce := [], snaps := [], shadow := [], readData := 0, store := [], aos := [], nvd := factoryNvd, code := [], iram := [],
    otp := [], otpMargin := [], part := { x := true, gradeE := false },
    pins := { vsysMv := 0, vddioMv := 0, vconnMv := 0, nrstLow := false, testen := false, motn := false, mint := false, gpio := 0, gpioOpen := 0xFF, muxOut := [] },
    phase := .reset, rst := { causes := 1, browned := false, shipWake := none, blocks := [], onVbus := false },
    boot := { journal := .init, now := .init, otpEff := [], keyBad := 0, ownerFail := false }, aon := .init,
    mains := .init,
    dbg := { state := .closed, fails := 0, challenge := 0, issued := false, checking := false, against := none }, gpio := .init, plcr := .init, st := .init, engs := Vector.replicate 16 .init,
    ports := Vector.replicate 8 .init, cmpt := { pos := none, due := true, bad := false, seen := [] }, share := { left := 0, hold := false, trimClear := false, keepJoin := false },
    links := Vector.replicate 3 .init, fleet := .init, place := .init, twin := .init, gauge := .init, host := .init, upd := .init, flashOp := none,
    nvdOp := none, otpOp := none, fresh := 0 }

end Sys2Proof.Machine
end

