-- ==== Sys2Proof/Machine/Ops.lean ====
section
/-!
DEFINITION. The named operations every meaning is written with: reading and writing a register word or field, raising
an event, the central store, always-on SRAM, and the hidden state of one port, engine or link.
-/

namespace Sys2Proof.Machine

/-! ### The register file -/

/-- The row of Table 2.9 that holds a page number. -/
def pageRow (pg : Nat) : Option PageRow := pageMap.find? fun r => decide (r.base ≤ pg) && decide (pg < r.base + r.count)

/-- The register at a byte offset of a page. -/
def PageRow.reg (r : PageRow) (off : Nat) : Option RegRow := r.rows.find? fun x => x.off == off

/-- The key of a register word in the register file: page × 64 + word. -/
def regKey (pg off : Nat) : Nat := pg * 64 + off / 4

/-- The reset value of a register word (Table 2.2 and the pages' tables). A Type-C block starts in Unattached.SNK on the clamp (Table 7.8). -/
def resetWord (k : Nat) : Word :=
  match pageRow (k / 64) with
  | none => 0
  | some r =>
    let off := 4 * (k % 64)
    if off = 8 then BitVec.ofNat 32 r.ctrl
    else if off = 12 then (if r.kind = .cc then 0x2002 else 0)
    else if off < 0x20 then 0
    else match r.reg off with
      | none => 0
      | some x => BitVec.ofNat 32 x.rst

/-- The stored word of a register. -/
def State.rd (s : State) (pg off : Nat) : Word := Sparse.get resetWord s.regs (regKey pg off)

/-- Store a word in the register file. -/
def State.wr (s : State) (pg off : Nat) (v : Word) : State :=
  { s with regs := Sparse.set resetWord s.regs (regKey pg off) v }

/-- The value of a field. -/
def State.fld (s : State) (pg : Nat) (f : Fld) : Nat := bitsOf (s.rd pg f.off).toNat f.lo f.w

/-- Whether a field is not 0; for one-bit fields, the bit. -/
def State.flag (s : State) (pg : Nat) (f : Fld) : Bool := s.fld pg f != 0

/-- Set a field; a value too wide for it is cut to its low bits. -/
def State.put (s : State) (pg : Nat) (f : Fld) (v : Nat) : State :=
  s.wr pg f.off (BitVec.ofNat 32 (setBits (s.rd pg f.off).toNat f.lo f.w v))

/-- Set a one-bit field. -/
def State.putB (s : State) (pg : Nat) (f : Fld) (b : Bool) : State := s.put pg f b.toNat

/-- Add to a field that saturates at its greatest value. -/
def State.bump (s : State) (pg : Nat) (f : Fld) (n : Nat) : State :=
  s.put pg f (min (s.fld pg f + n) (2 ^ f.w - 1))

/-- Add one to a field that wraps. -/
def State.incr (s : State) (pg : Nat) (f : Fld) : State := s.put pg f (s.fld pg f + 1)

/-- The value in force of an AON field of a port (R15): the value at the last tick boundary that applied it. -/
def State.inf (s : State) (pg : Nat) (f : Fld) : Nat :=
  bitsOf (Sparse.get resetWord s.inForce (regKey pg f.off)).toNat f.lo f.w

/-- Put a value of an AON field in force. -/
def State.putInf (s : State) (pg : Nat) (f : Fld) (v : Nat) : State :=
  let k := regKey pg f.off
  let w := (Sparse.get resetWord s.inForce k).toNat
  { s with inForce := Sparse.set resetWord s.inForce k (BitVec.ofNat 32 (setBits w f.lo f.w v)) }

/-- One step on when a free value has been taken (log entry 1). -/
def State.freshen (s : State) : State := { s with fresh := s.fresh + 1 }

/-- The free value a step may use. -/
def State.free (s : State) : Word := Config.freeValue s.fresh

/-! ### Pages -/

def pID : Nat := 0x00
def pSYS : Nat := 0x01
def pCLK : Nat := 0x02
def pSUP : Nat := 0x03
def pBOOT : Nat := 0x04
def pEVT : Nat := 0x05
def pAON : Nat := 0x06
def pGPIO : Nat := 0x07
def pCC (n : Port) : Nat := 0x08 + n.val
def pPDL (n : Port) : Nat := 0x10 + n.val
def pGUARD (n : Port) : Nat := 0x18 + n.val
def pMEAS (n : Port) : Nat := 0x20 + n.val
def pPOL (n : Port) : Nat := 0x28 + n.val
def pVDM (n : Port) : Nat := 0x30 + n.val
def pSHARE : Nat := 0x38
def pGAUGE : Nat := 0x40
def pLEARN : Nat := 0x41
def pBATID : Nat := 0x42
def pCMPT : Nat := 0x44
def pHOST : Nat := 0x50
def pMUXB : Nat := 0x51
def pHG (l : Fin 3) : Nat := 0x58 + l.val
def pFLEET : Nat := 0x5B
def pPLACE : Nat := 0x5C
def pTWIN : Nat := 0x5D
def pENGY : Nat := 0x5E
def pPLCR : Nat := 0x60
def pENG (k : Engine) : Nat := 0x61 + k.val
def pSTORE : Nat := 0x78
def pBANK : Nat := 0x79
def pFLASH : Nat := 0x80
def pUPD : Nat := 0x81
def pNVD : Nat := 0x82
def pOTP : Nat := 0x88
def pLOCK : Nat := 0x89
def pDBG : Nat := 0x8A
def pMAINS : Nat := 0x90
def pTEST : Nat := 0xF0

/- The common registers (Tables 2.2 to 2.8). -/
namespace PG
def CTRL_ENABLE : Fld := ⟨0x08, 0, 1⟩
def CTRL_BLOCK_RESET : Fld := ⟨0x08, 1, 1⟩
def CTRL_FREEZE : Fld := ⟨0x08, 2, 1⟩
def STAT : Fld := ⟨0x0C, 0, 29⟩
def EVT : Fld := ⟨0x10, 0, 32⟩
def EVT_REPEAT : Fld := ⟨0x10, 31, 1⟩
def EVT_LOCKED_WRITE : Fld := ⟨0x10, 30, 1⟩
def EVT_EN : Fld := ⟨0x14, 0, 32⟩
def LOCK_LOCK : Fld := ⟨0x1C, 0, 1⟩
end PG

/-- Whether the page's block is enabled. -/
def State.enabled (s : State) (pg : Nat) : Bool := s.flag pg PG.CTRL_ENABLE

/-- Whether the page is locked (Table 2.8). -/
def State.locked (s : State) (pg : Nat) : Bool := s.flag pg PG.LOCK_LOCK

/-- Whether a BLOCK or PORT reset of the page is in progress (R46). -/
def State.resetting (s : State) (pg : Nat) : Bool := s.flag pg PG.CTRL_BLOCK_RESET

/-! ### Events -/

/-- Set bits of `PG_EVT` as the device does (R37); REPEAT is set too when one of them was already 1 (Table 2.7). -/
def State.raiseBits (s : State) (pg : Nat) (m : Nat) : State :=
  let old := (s.rd pg 0x10).toNat
  let new := old ||| m
  s.wr pg 0x10 (BitVec.ofNat 32 (if old &&& m = 0 then new else new ||| 2 ^ 31))

/-- Raise one event of a page. -/
def State.raise (s : State) (pg : Nat) (f : Fld) : State := s.raiseBits pg (2 ^ f.lo)

/-- Raise an event when a condition holds. -/
def State.raiseIf (s : State) (b : Bool) (pg : Nat) (f : Fld) : State := if b then s.raise pg f else s

/-- Apply an update when a condition holds. -/
def State.when (s : State) (b : Bool) (f : State → State) : State := if b then f s else s

/-- LOCKED_WRITE of a page (Table 2.7, R45): a write was ignored. -/
def State.lockedWrite (s : State) (pg : Nat) : State := s.raise pg PG.EVT_LOCKED_WRITE

/-! ### The stores -/

/-- What a byte of always-on SRAM that nothing has written reads as (log entry 3). -/
def ramDflt (_ : Nat) : Byte := 0

/-- What a byte of the central store that nothing has written reads as: the port and pool records as the device initialises them
(chapter 14, Register pages), with their CRC-16 (0xac9f, 0x5b9d), and 0 elsewhere (log entry 3). -/
def storeDflt (a : Nat) : Byte :=
  if 0x60000 ≤ a ∧ a < 0x64000 then
    (match a % 32 with
    | 28 => 0x9f
    | 29 => 0xac
    | _ => 0)
  else if 0x64000 ≤ a ∧ a < 0x64200 then
    (match a % 32 with
    | 8 => 0xFF
    | 9 => 0xFF
    | 10 => 0x0F
    | 28 => 0x9d
    | 29 => 0x5b
    | _ => 0)
  else 0

/-- What an erased byte of flash, and a byte of instruction RAM before it is loaded, reads as (log entry 4). -/
def flashDflt (_ : Nat) : Byte := 0xFF

/-- The addressable part of the central store (R140, Table 6.12). -/
def storeTop : Nat := 0xE0000

/-- `n` bytes of the central store at a store offset. -/
def State.stRead (s : State) (a n : Nat) : List Byte := Sparse.getList storeDflt s.store a n

/-- Whether one of `n` bytes at a store offset carries a parity error (R143). -/
def State.stBadIn (s : State) (a n : Nat) : Bool := s.st.bad.any fun b => decide (a ≤ b) && decide (b < a + n)

/-- Write bytes into the central store. Offsets that are not addressable are left alone (R140). The write leaves correct
parity in every byte it covers (R143); watched words are marked as written (R146). -/
def State.stWrite (s : State) (a : Nat) (bs : List Byte) : State :=
  let bs := bs.take (storeTop - a)
  let covered := fun b => decide (a ≤ b) && decide (b < a + bs.length)
  let touched := fun w => decide (a < 4 * w + 4) && decide (4 * w < a + bs.length)
  { s with
    store := Sparse.setList storeDflt s.store a bs
    st := { s.st with
      bad := s.st.bad.filter fun b => !covered b
      watch := s.st.watch.map fun e => if touched e.word then { e with written := true } else e } }

/-- A little-endian number of `n` bytes of the store. -/
def State.stNat (s : State) (a n : Nat) : Nat := leNat (s.stRead a n)

/-- Write a number as `n` little-endian bytes. -/
def State.stPut (s : State) (a n v : Nat) : State := s.stWrite a (leBytes n v)

/-- Write a record of `n - 2` bytes with its CRC-16 in the last two (R143). -/
def State.stRecord (s : State) (a : Nat) (body : List Byte) : State :=
  s.stWrite a (body ++ leBytes 2 (crc16 body))

/-- Whether a record of `n` bytes checks: no parity error and the CRC-16 of all but the last two bytes matches (R144). -/
def State.stChecks (s : State) (a n : Nat) : Bool :=
  !s.stBadIn a n && crc16 (s.stRead a (n - 2)) == s.stNat (a + n - 2) 2

/-- `n` bytes of always-on SRAM. -/
def State.aosRead (s : State) (a n : Nat) : List Byte := Sparse.getList ramDflt s.aos a n

/-- Always-on SRAM from here on holds nothing the spec lays out: firmware's own data, secrets among them (R116, log entry 100). -/
def aosFree : Nat := 0x1C0

/-- A number in always-on SRAM. -/
def State.aosNat (s : State) (a n : Nat) : Nat := leNat (s.aosRead a n)

/-- Write bytes into always-on SRAM. -/
def State.aosWrite (s : State) (a : Nat) (bs : List Byte) : State :=
  { s with aos := Sparse.setList ramDflt s.aos a bs }

/-- Write a number into always-on SRAM. -/
def State.aosPut (s : State) (a n v : Nat) : State := s.aosWrite a (leBytes n v)

/-! ### Roles, ticks, ports -/

/-- The device role (Table 0.3). -/
inductive Role where
  | solo | worker | standby | manager
deriving DecidableEq, Repr

/-- A role from its strap code (R4). -/
def Role.ofCode (n : Nat) : Role :=
  match n % 4 with
  | 0 => .solo
  | 1 => .worker
  | 2 => .standby
  | _ => .manager

/-- The strapped role (R3). -/
def State.role (s : State) : Role := Role.ofCode (s.fld pSYS SYS.PG_STAT_ROLE)

/-- The role in force (`SYS.PG_STAT.ACTING`). -/
def State.acting (s : State) : Role := Role.ofCode (s.fld pSYS SYS.PG_STAT_ACTING)

/-- The device that places power: the acting manager, or a SOLO device (R30). -/
def State.places (s : State) : Bool := s.acting == .manager || s.role == .solo

/-- Load the 48-bit tick counter (R17). -/
def State.setTick (s : State) (t : Nat) : State := { s with tick := t % 2 ^ 48 }

/-- A sticky lock bit of `LOCK.STICKY` (R110). -/
def State.lockBit (s : State) (f : Fld) : Bool := s.sticky.getLsbD f.lo

/-- Set bits of `LOCK.STICKY`: they can only be set (R110). -/
def State.stickySet (s : State) (v : Nat) : State := { s with sticky := s.sticky ||| BitVec.ofNat 6 v }

/-- Whether CORE runs: registers can be reached and the blocks act (R26, R77). -/
def State.live (s : State) : Bool := s.phase == .run

/-- Whether Tadpole is in recovery (R99). -/
def State.recovery (s : State) : Bool := s.flag pBOOT BOOT.PG_STAT_RECOVERY

/-- Whether firmware runs. -/
def State.fw (s : State) : Bool := s.live && !s.recovery

/-- The hidden state of a port. -/
def State.port (s : State) (n : Port) : PortSt := s.ports.get n

/-- Change the hidden state of a port. -/
def State.modPort (s : State) (n : Port) (f : PortSt → PortSt) : State :=
  { s with ports := s.ports.set n.val (f (s.ports.get n)) n.isLt }

/-- An engine's state. -/
def State.eng (s : State) (k : Engine) : EngSt := s.engs.get k

/-- Change an engine's state. -/
def State.modEng (s : State) (k : Engine) (f : EngSt → EngSt) : State :=
  { s with engs := s.engs.set k.val (f (s.engs.get k)) k.isLt }

/-- All ports in ascending order. -/
def allPorts : List Port := [0, 1, 2, 3, 4, 5, 6, 7]

/-- All engines in ascending order. -/
def allEngines : List Engine := [0, 1, 2, 3, 4, 5, 6, 7, 8, 9, 10, 11, 12, 13, 14, 15]

/-- The port with the highest `VBUS_PTn`, the lowest of several (Table 4.9). -/
def State.bestVbus (s : State) : Port := allPorts.foldl (fun m n => if (s.port m).vbusMv < (s.port n).vbusMv then n else m) 0

/-- Do the same for each port in ascending order. -/
def State.forPorts (s : State) (f : State → Port → State) : State := allPorts.foldl f s

/-- Do the same for each engine in ascending order. -/
def State.forEngines (s : State) (f : State → Engine → State) : State := allEngines.foldl f s

/-- Whether a keyed write acts; with another key the write changes nothing and sets the page's LOCKED_WRITE. -/
def State.keyed (s : State) (pg key want : Nat) (f : State → State) : State :=
  if key = want then f s else s.lockedWrite pg

/-- A register command of a page: it acts while CORE runs and no reset of the page is in progress (R46). -/
def State.cmd (s : State) (pg : Nat) (f : State → State) : State :=
  if s.live && !s.resetting pg then f s else s

/-- A keyed register command of a page. -/
def State.keyCmd (s : State) (pg key want : Nat) (f : State → State) : State :=
  s.cmd pg fun s => s.keyed pg key want f

end Sys2Proof.Machine
end

