-- ==== Sys2Proof/Machine/StoreOps.lean ====
section
/-!
DEFINITION. Errors of the central store (R140-R149): where a word lies, what a parity error leaves behind, the watch list, faulty and
retired banks and their migration.
-/

namespace Sys2Proof.Machine

/-- `SPARE`: the logical segment a spare holds; 0xFF: free. Spares are numbered from 0 (physical segment 224). -/
def State.spare (s : State) (j : Nat) : Nat := bitsOf (s.rd pBANK (0x80 + 4 * (j / 4))).toNat (8 * (j % 4)) 8

/-- Write a spare's entry. -/
def State.setSpare (s : State) (j seg : Nat) : State := s.put pBANK ⟨0x80 + 4 * (j % 32 / 4), 8 * (j % 4), 8⟩ seg

/-- The physical segment of a logical segment (R141). -/
def State.segPhys (s : State) (seg : Nat) : Nat :=
  match (List.range 32).find? fun j => s.spare j == seg with
  | some j => 224 + j
  | none => seg

/-- The logical segment a physical segment holds. -/
def State.segHeld (s : State) (p : Nat) : Option Nat :=
  if p < 224 then (if s.segPhys p = p then some p else none)
  else
    let l := s.spare (p - 224)
    if l = 0xFF then none else some l

/-- The number a word goes by, from its physical word number. -/
def State.wordName (s : State) (pw : Nat) : Nat :=
  match s.segHeld (pw / 1024) with
  | some l => 1024 * l + pw % 1024
  | none => 0x40000 + pw

/-- The physical word number of a word. -/
def State.wordPhys (s : State) (w : Nat) : Nat := if w < 0x40000 then 1024 * s.segPhys (w / 1024) + w % 1024 else w - 0x40000

/-- The bank a word lies in. -/
def State.wordBank (s : State) (w : Nat) : Nat := s.wordPhys w / 1024 % 16

/-- Whether a bank is retired. -/
def State.bankRetired (s : State) (b : Nat) : Bool := bitAt (s.fld pBANK BANK.RETIRED_BANKS) b

/-- Retire a bank (R146): its migration begins. -/
def State.bankRetire (s : State) (b : Nat) : State :=
  let s := s.put pBANK BANK.RETIRED_BANKS (setBits (s.fld pBANK BANK.RETIRED_BANKS) b 1 1)
  let s := (s.incr pSTORE STORE.PG_STAT_RETIRED).put pSTORE STORE.PG_STAT_MIGRATING 1
  let s := s.put pBANK BANK.CMD_STAT_BUSY 1
  { s with st := { s.st with migrating := some b } }

/-- A bank becomes faulty (R146, R147). While another bank migrates, its retirement waits for that migration (log entry 74). -/
def State.bankFaulty (s : State) (b : Nat) : State :=
  if bitAt (s.fld pBANK BANK.FAULTY_BANKS) b then s
  else
    let s := (s.put pBANK BANK.FAULTY_BANKS (setBits (s.fld pBANK BANK.FAULTY_BANKS) b 1 1)).raise pSTORE STORE.PG_EVT_FAULTY
    if s.bankRetired b then s
    else if 2 ≤ s.fld pSTORE STORE.PG_STAT_RETIRED then
      (s.put pSTORE STORE.PG_STAT_BANK_CRIT 1).raise pSTORE STORE.PG_EVT_BANK_CRIT
    else if s.st.migrating.isSome then s
    else s.bankRetire b

/-- The scrub period in ms, between 20 and 1,000 (Table 6.15). -/
def State.scrubMs (s : State) : Nat := max 20 (min 1000 (s.fld pSTORE STORE.SCRUB_CFG_PERIOD_MS))

/-- Whether a watch entry was made within one scrub period. -/
def State.watchFresh (s : State) (e : WatchEnt) : Bool := decide (s.tick ≤ e.since + 20 * s.st.scrubMs)

/-- A word that failed a parity check enters the watch list; at 16 entries the oldest makes room (R145). -/
def State.watchAdd (s : State) (w : Nat) : State :=
  let full := decide (16 ≤ s.st.watch.length)
  let l := if full then s.st.watch.drop 1 else s.st.watch
  let s := { s with st := { s.st with watch := l ++ [WatchEnt.mk w s.tick false false] } }
  let s := (s.raiseIf full pSTORE STORE.PG_EVT_WATCH_OVF).bump pBANK (BANK.ERRS_WATCH.at (s.wordBank w)) 1
  s.put pSTORE STORE.WATCH_USED s.st.watch.length

/-- A requester, numbered as R142 orders them, finds a parity error in a word (R143, R145, R146). A word whose entry is older than a scrub period
enters the list anew (log entry 74). -/
def State.storeParity (s : State) (req w : Nat) : State :=
  let s := s.raise pSTORE STORE.PG_EVT_PARITY
  let s := s.bump pSTORE (if req = 8 then STORE.ERR_CNT_SCRUB else STORE.ERR_CNT_READER) 1
  let s := (s.put pSTORE STORE.LAST_ERR_WORD (s.wordPhys w)).put pSTORE STORE.LAST_ERR_REQ req
  let s := s.bump pBANK (BANK.ERRS_PARITY.at (s.wordBank w)) 1
  match s.st.watch.find? fun e => e.word == w with
  | none => s.watchAdd w
  | some e =>
    if !s.watchFresh e then ({ s with st := { s.st with watch := s.st.watch.filter fun e => e.word != w } }).watchAdd w
    else if e.written then s.bankFaulty (s.wordBank w)
    else s

/-- Add a number to a list that does not hold it. -/
def addNew (l : List Nat) (w : Nat) : List Nat := if l.contains w then l else l ++ [w]

/-- A requester reads `n` bytes: every word with wrong parity in a byte among them is found. -/
def State.stNote (s : State) (req a n : Nat) : State :=
  let words := (s.st.bad.filter fun b => decide (a ≤ b) && decide (b < a + n)).foldl (fun l b => addNew l (b / 4)) []
  words.foldl (fun s w => s.storeParity req w) s

/-- A byte of the array comes to hold wrong parity. -/
def State.stSpoil (s : State) (b : Nat) : State :=
  if s.st.bad.contains b then s else { s with st := { s.st with bad := b :: s.st.bad } }

/-- The segments a bank holds, each with the physical segment it lies in. -/
def State.segsIn (s : State) (b : Nat) : List (Nat × Nat) :=
  ((List.range 256).filter fun p => p % 16 == b).filterMap fun p => (s.segHeld p).map fun l => (p, l)

/-- A segment's copy is complete, and the map switches to the lowest free spare outside retired banks (R146); its data are as before. -/
def State.segMove (s : State) (c : Nat × Nat) : State :=
  match (List.range 32).find? fun j => s.spare j == 0xFF && !s.bankRetired (j % 16) with
  | none => s
  | some j =>
    let s := if 224 ≤ c.1 then s.setSpare (c.1 - 224) 0xFF else s
    s.setSpare j c.2

/-- A tick boundary while a bank migrates: the spec gives no time for a segment's copy, so a free number of its segments, but not all, have been copied by now (log entry 74). -/
def State.migrateTick (s : State) : State :=
  match s.st.migrating with
  | none => s
  | some b =>
    let segs := s.segsIn b
    ((segs.take (s.free.toNat % max 1 segs.length)).foldl State.segMove s).freshen

/-- The segments still in a bank move, and its migration is complete (R146). -/
def State.migrate (s : State) (b : Nat) : State :=
  let s := (s.segsIn b).foldl State.segMove s
  let s := (s.put pSTORE STORE.PG_STAT_MIGRATING 0).raise pSTORE STORE.PG_EVT_MIGRATE_DONE
  { s.put pBANK BANK.CMD_STAT_BUSY 0 with st := { s.st with migrating := none } }

/-- A keyed `BANK.CMD` with RETIRE (Table 6.17). -/
def State.bankCmd (s : State) (b : Nat) : State :=
  if s.st.migrating.isSome then s.put pBANK BANK.CMD_STAT_RESULT 3
  else if s.bankRetired b then s.put pBANK BANK.CMD_STAT_RESULT 2
  else if 2 ≤ s.fld pSTORE STORE.PG_STAT_RETIRED then s.put pBANK BANK.CMD_STAT_RESULT 1
  else (s.bankRetire b).put pBANK BANK.CMD_STAT_RESULT 0

/-- The first physical segment from `p` on that the scrub walks: its bank is not retired. -/
def State.scrubSeg (s : State) (p : Nat) : Option Nat := (List.range 256).find? fun q => decide (p ≤ q) && !s.bankRetired (q % 16)

end Sys2Proof.Machine
end

