-- ==== Sys2Proof/Machine/Tasks.lean ====
section
/-!
DEFINITION. Tasks and the Placer (chapter 6): descriptors in the store, posting a slot, the queue, the dispatch point,
the ways a run ends, engine faults and retirement.
-/

namespace Sys2Proof.Machine

/-! ### Descriptors (Table 6.3) -/

/-- Store offset of a descriptor slot. -/
def descAt (slot : Nat) : Nat := 0xC0000 + 32 * (slot % 2048)

/-- A task as its poster describes it (bytes 0-19). -/
structure Desc where
  cls : Nat
  port : Port
  valid : Bool
  flash : Bool
  gen : Nat
  budget : Nat
  deadline : Nat
  entry : Nat
  arg : Nat
  affinity : Nat
deriving DecidableEq, Repr

/-- Bytes 0-19 of a descriptor. -/
def Desc.bytes (d : Desc) : List Byte :=
  let w0 := d.cls % 8 + 8 * d.port.val + 64 * d.valid.toNat +
    128 * d.flash.toNat + 256 * (d.gen % 256) + 65536 * (d.budget % 65536)
  leBytes 4 w0 ++ leBytes 4 d.deadline ++ leBytes 4 (d.entry % 2 ^ 18) ++ leBytes 4 d.arg ++ leBytes 4 (d.affinity % 65536)

/-- The attach generation of a port (R16). -/
def State.gen (s : State) (n : Port) : Nat := s.fld (pCC n) CC.PG_STAT_GEN

/-- A word of a descriptor. -/
def State.descWord (s : State) (slot i : Nat) : Nat := s.stNat (descAt slot + 4 * i) 4

/-- Work class; 6 and 7 act as 5. -/
def State.descClass (s : State) (slot : Nat) : Nat := min (bitsOf (s.descWord slot 0) 0 3) 5

/-- BUDGET; above 4,800 it acts as 4,800 (R123). -/
def State.descBudget (s : State) (slot : Nat) : Nat := min (bitsOf (s.descWord slot 0) 16 16) 4800

/-- FLASH: the task may run only on the flash engine. -/
def State.descFlash (s : State) (slot : Nat) : Bool := bitAt (s.descWord slot 0) 7

/-- Whether a descriptor belongs to a port and carries a generation other than the port's (R16, R129). -/
def State.descStale (s : State) (slot : Nat) : Bool :=
  bitAt (s.descWord slot 0) 6 &&
    bitsOf (s.descWord slot 0) 8 8 != s.gen (Fin.ofNat 8 (bitsOf (s.descWord slot 0) 3 3))

/-- The descriptor's state word (bytes 20-23). -/
def State.descState (s : State) (slot : Nat) : Nat := bitsOf (s.descWord slot 5) 0 4

/-- Write the Placer's state code, keeping the other bits of bytes 20-23. -/
def State.setDescState (s : State) (slot code : Nat) : State :=
  s.stPut (descAt slot + 20) 4 (setBits (s.descWord slot 5) 0 4 code)

/-- Set or clear REPOST (bit 4) or RETRIED (bit 5). -/
def State.setDescBit (s : State) (slot bit : Nat) (b : Bool) : State :=
  s.stPut (descAt slot + 20) 4 (setBits (s.descWord slot 5) bit 1 b.toNat)

/-- A descriptor checks: no parity error in its bytes, and its CRC-16 over bytes 0-19 matches (R144). -/
def State.descOk (s : State) (slot : Nat) : Bool :=
  !s.stBadIn (descAt slot) 32 && crc16 (s.stRead (descAt slot) 20) == s.stNat (descAt slot + 28) 2

/-- Of two deadlines, `a` is the earlier (R120). -/
def earlier (a b : Word) : Bool :=
  let d := (b - a).toNat
  decide (1 ≤ d) && decide (d ≤ 2 ^ 31 - 1)

/-- Deadline `d` has passed at tick `t` (R120). -/
def passed (t d : Word) : Bool := earlier d t

/-! ### Posting -/

/-- Write a descriptor with its CRC and post its slot; the Placer sees the post at the next tick boundary (R124). -/
def State.post (s : State) (slot : Nat) (d : Desc) : State :=
  let bs := d.bytes
  let s := (s.stWrite (descAt slot) bs).stPut (descAt slot + 28) 4 (crc16 bs)
  { s with plcr := { s.plcr with
      posts := s.plcr.posts ++ [slot]
      hwDesc := (slot, bs) :: s.plcr.hwDesc.filter (fun c => c.1 != slot) } }

/-- Post a hardware slot with the task its `TASK_*` word names: ENTRY [17:0], BUDGET [27:20] in units of 32 cycles (0
acts as 1), DL_TK [31:28] ticks after posting. ENTRY 0: not posted. -/
def State.postTask (s : State) (slot cls : Nat) (port : Port) (valid flash : Bool) (task arg affinity : Nat) : State :=
  if bitsOf task 0 18 = 0 then s
  else s.post slot
    { cls := cls, port := port, valid := valid, flash := flash
      gen := if valid then s.gen port else 0
      budget := 32 * max 1 (bitsOf task 20 8)
      deadline := (s.tick + bitsOf task 28 4) % 2 ^ 32
      entry := bitsOf task 0 18, arg := arg, affinity := affinity }

/-- Post a slot that serves no port. -/
def State.postGlobal (s : State) (slot cls : Nat) (flash : Bool) (task arg : Nat) : State :=
  s.postTask slot cls 0 false flash task arg 0xFFFF

/-- Post a slot of a port with `PORT_VALID` = 1 and its affinity (R126). -/
def State.postPort (s : State) (slot cls : Nat) (n : Port) (task arg : Nat) : State :=
  s.postTask slot cls n true false task arg n.val

/-- Post a slot of a port with `PORT_VALID` = 0, so that a change of generation does not discard it. -/
def State.postKept (s : State) (slot cls : Nat) (n : Port) (task arg : Nat) : State :=
  s.postTask slot cls n false false task arg n.val

/-! ### Engines and their health -/

/-- Engines that are not retired. -/
def State.healthy (s : State) : List Engine := allEngines.filter fun k => !(s.eng k).retired

/-- An engine the Placer may give work to: idle, not retired, parked or halted (R126). -/
def State.engIdle (s : State) (k : Engine) : Bool :=
  (s.eng k).run == .idle && !(s.eng k).retired && !(s.eng k).halted && s.enabled (pENG k)

/-- The flash engine (R129): `PLCR.CFG.FLASH_ENG`, or the highest-index healthy engine when that one is retired. -/
def State.flashEng (s : State) : Option Engine :=
  let k : Engine := Fin.ofNat 16 (s.fld pPLCR PLCR.CFG_FLASH_ENG)
  if (s.eng k).retired then s.healthy.getLast? else some k

/-- `ENG[k].PG_STAT.STATE` (Table 6.11). -/
def State.engState (s : State) (k : Engine) : Nat :=
  let e := s.eng k
  if e.retired then 4
  else if e.halted then 3
  else match e.run with
    | .running => 1
    | .preempted => 2
    | .idle => if s.enabled (pENG k) then 0 else 5

/-- The slot an engine runs or holds. -/
def State.engSlot (s : State) (k : Engine) : Nat := s.fld (pENG k) ENG.TASK_SLOT

/-! ### The queue -/

/-- Put a slot in the queue as READY with a deadline, or renew the entry it has: the earlier deadline stands (R125). -/
def State.enqueue (s : State) (slot : Nat) (dl : Word) (head : Bool) : State :=
  let q := s.plcr.queue
  let q' := if q.any fun e => e.slot == slot then
      q.map fun e => if e.slot = slot then { e with deadline := if earlier dl e.deadline then dl else e.deadline } else e
    else q ++ [{ slot := slot, deadline := dl, head := head, again := false }]
  ({ s with plcr := { s.plcr with queue := q' } }).setDescState slot 1

/-- Take a slot out of the queue. -/
def State.dequeue (s : State) (slot : Nat) : State :=
  { s with plcr := { s.plcr with queue := s.plcr.queue.filter fun e => e.slot != slot } }

/-- A post becomes visible (R125). -/
def State.postVisible (s : State) (slot : Nat) : State :=
  let dl := BitVec.ofNat 32 (s.descWord slot 1)
  if s.descState slot = 3 ∨ s.descState slot = 4 then s.setDescBit slot 4 true
  else s.enqueue slot dl false

/-- WAITING slots whose tick has come, or that wait for the next boundary, become READY (R128). A tick number that was loaded past a slot's counts as come. -/
def State.wakeWaiting (s : State) : State :=
  s.plcr.queue.foldl (init := s) fun s e =>
    let late := (s.tick + 65536 - bitsOf (s.descWord e.slot 5) 16 16) % 65536
    if s.descState e.slot = 2 && (e.again || decide (late < 32768)) then s.setDescState e.slot 1 else s

/-- The Placer's side of a tick boundary: producers rewrite descriptors that were lost (R144), posts become visible
(R124), waiting slots wake (R128), the tick watchdog counts (R133), per-tick marks are cleared. -/
def State.placerTick (s : State) : State :=
  let s := s.plcr.repost.foldl (init := s) fun s slot =>
    match s.plcr.hwDesc.find? fun c => c.1 == slot with
    | none => s
    | some c => ((s.stWrite (descAt slot) c.2).stPut (descAt slot + 28) 4 (crc16 c.2)).postVisible slot
  let s := s.plcr.posts.foldl (init := s) fun s slot => s.postVisible slot
  let s := { s with plcr := { s.plcr with posts := [], repost := [] } }
  let s := s.wakeWaiting
  let halted := allEngines.any fun k => (s.eng k).halted
  let miss := s.plcr.c0Ready && !s.plcr.c0Yield
  let s := if !miss then s.put pPLCR PLCR.WDOG_C0_MISS 0
    else if halted then s else s.bump pPLCR PLCR.WDOG_C0_MISS 1
  let overNow := s.plcr.overTicks.filter fun t => decide (s.tick < t + 64)
  let s := { s with plcr := { s.plcr with overTicks := overNow, c0Ready := false, c0Yield := false, started := [], cand := [] } }
  let s := s.put pPLCR PLCR.WDOG_STORM overNow.length
  s.forEngines fun s k =>
    (s.put (pENG k) ENG.USED_CYCLES (min (s.eng k).used 8191)).modEng k fun e => { e with used := 0 }

/-! ### Ending and starting runs -/

/-- The engine holds no task any more. -/
def State.engFree (s : State) (k : Engine) : State :=
  (s.modEng k fun e => { e with run := .idle }).put (pENG k) ENG.TASK_VALID 0

/-- Count a descriptor discarded by R16. -/
def State.genDiscard (s : State) (slot : Nat) : State :=
  ((((s.dequeue slot).setDescState slot 0).setDescBit slot 4 false).bump pPLCR PLCR.DISCARDS_GEN 1).raise pPLCR PLCR.PG_EVT_GEN_DISCARD

/-- Count a descriptor discarded by R136 or R144; a hardware producer writes and posts its slot again (R144). -/
def State.descLost (s : State) (slot : Nat) (again : Bool) : State :=
  let s := ((((s.dequeue slot).setDescState slot 0).setDescBit slot 4 false).bump pPLCR PLCR.DISCARDS_LOST 1).raise pPLCR PLCR.PG_EVT_DESC_LOST
  if again && decide (slot < 256) then { s with plcr := { s.plcr with repost := s.plcr.repost ++ [slot] } } else s

/-- A fresh start of a task on an engine (R452, Table 17.12); a start after the deadline is a miss (R132). -/
def State.taskStart (s : State) (k : Engine) (e : QEnt) : State :=
  let slot := e.slot
  let cls := s.descClass slot
  let budget := s.descBudget slot
  let now := BitVec.ofNat 32 s.tick
  let s := if passed now e.deadline then
      ((s.raise pPLCR PLCR.PG_EVT_DEADLINE_MISS).bump pPLCR PLCR.MISSES_COUNT 1).put pPLCR PLCR.MISSES_CLASS cls
    else s
  let w0 := s.descWord slot 0
  let entry := s.descWord slot 2
  let arg := s.descWord slot 3
  let s := (s.dequeue slot).setDescState slot 3
  let s := { s with plcr := { s.plcr with started := slot :: s.plcr.started } }
  let s := (((s.put (pENG k) ENG.TASK_SLOT slot).put (pENG k) ENG.TASK_CLASS cls).put (pENG k) ENG.TASK_VALID 1).put
    (pENG k) ENG.AFFINITY_TAG (bitsOf (s.descWord slot 4) 0 16)
  s.modEng k fun g => { g with
    run := .running
    overMark := false
    budleft := budget
    pc := BitVec.ofNat 18 (entry % 2 ^ 18 / 4 * 4)
    d := ((g.d.set 0 (BitVec.ofNat 32 arg)).set 1 (BitVec.ofNat 32 w0)).set 2 now
    a := (g.a.set 6 (BitVec.ofNat 24 (0x1C0000 + 32 * slot))).set 7 0x002000
    flg := 0
    mode := 0 }

/-- The run ends: a task that was posted again while it ran becomes READY once more (R125); otherwise the yield decides.
`kind`: 0 DONE, 1 AGAIN, 2 AT with the tick `at`; `dl` replaces the deadline for AGAIN and AT (R128, R453). -/
def State.endRun (s : State) (k : Engine) (kind readyAt : Nat) (dl : Option Word) : State :=
  let slot := s.engSlot k
  let cls := s.fld (pENG k) ENG.TASK_CLASS
  let s := (s.engFree k).incr (pENG k) ENG.RUNS_COUNT
  let s := if cls = 0 then { s with plcr := { s.plcr with c0Yield := true } } else s
  let s := match dl with
    | some d => if kind = 0 then s else
        let s := s.stPut (descAt slot + 4) 4 d.toNat
        s.stPut (descAt slot + 28) 2 (crc16 (s.stRead (descAt slot) 20))
    | none => s
  let s := s.setDescBit slot 5 false
  let wait := fun (s : State) (t : Nat) (again : Bool) =>
    let s := s.enqueue slot (BitVec.ofNat 32 (s.descWord slot 1)) false
    let q := s.plcr.queue.map fun (e : QEnt) => if e.slot = slot then { e with again := again } else e
    let s := { s with plcr := { s.plcr with queue := q } }
    (s.setDescState slot 2).stPut (descAt slot + 22) 2 t
  if bitAt (s.descWord slot 5) 4 then
    (s.setDescBit slot 4 false).enqueue slot (BitVec.ofNat 32 (s.descWord slot 1)) false
  else match kind with
    | 0 => s.setDescState slot 0
    | 1 => wait s ((s.tick + 1) % 65536) true
    | _ =>
      let ahead := (readyAt + 65536 - s.tick % 65536) % 65536
      if 1 ≤ ahead ∧ ahead ≤ 32767 then wait s readyAt false else wait s ((s.tick + 1) % 65536) true

/-- A task ended by an engine fault: READY at the head of its class with RETRIED, or discarded when it was already
retried (R136). -/
def State.endFaulted (s : State) (k : Engine) : State :=
  let slot := s.engSlot k
  if (s.eng k).run = .idle then s
  else
    let s := s.engFree k
    if bitAt (s.descWord slot 5) 5 then s.descLost slot false
    else (s.setDescBit slot 5 true).enqueue slot (BitVec.ofNat 32 (s.descWord slot 1)) true

/-- Retire an engine unless four or fewer healthy engines would remain (R137). -/
def State.retireEngine (s : State) (k : Engine) : State :=
  if (s.eng k).retired then s
  else if s.healthy.length ≤ 5 then s.raise pPLCR PLCR.PG_EVT_ENG_CRIT
  else
    let s := s.endFaulted k
    let s := s.modEng k fun e => { e with retired := true }
    (s.raise pPLCR PLCR.PG_EVT_ENG_RETIRED).raise (pENG k) ENG.PG_EVT_RETIRED

/-- Record an engine fault (R136): kind 1 known-answer, 2 scratch parity, 3 cache parity; a second fault within 1 s
(20,000 ticks) retires the engine. -/
def State.engineFault (s : State) (k : Engine) (kind addr : Nat) : State :=
  let recent := (s.eng k).faultTicks.filter fun t => decide (s.tick < t + 20000)
  let now := s.tick :: recent
  let s := s.modEng k fun e => { e with faultTicks := now }
  let s := ((s.put (pENG k) ENG.FAULT_COUNT (min now.length 3)).put (pENG k) ENG.FAULT_KIND kind).raise (pENG k) ENG.PG_EVT_FAULT
  let s := if kind = 1 then s else s.put (pENG k) ENG.FAULT_ADDR addr
  let s := if kind = 2 then s.endFaulted k else s
  if 2 ≤ now.length then s.retireEngine k else s

/-! ### The dispatch point (R126, R132, R135) -/

/-- Whether the shedding level lets a class run in a tick (Table 6.6). -/
def shedAllows (level cls tick : Nat) : Bool :=
  if cls ≤ 3 then true
  else if cls = 4 then
    match level with
    | 0 => true
    | 1 => true
    | 2 => tick % 2 == 0
    | 3 => tick % 4 == 0
    | _ => tick % 8 == 0
  else level == 0

/-- The order in which READY descriptors are taken (R126, R136). -/
def State.before (s : State) (a b : QEnt) : Bool :=
  let ca := s.descClass a.slot
  let cb := s.descClass b.slot
  decide (ca < cb) || (ca == cb && ((a.head && !b.head) || (a.head == b.head && earlier a.deadline b.deadline)))

/-- Insert an entry in order, behind entries it does not precede. -/
def insertEnt (lt : QEnt → QEnt → Bool) (e : QEnt) : List QEnt → List QEnt
  | [] => [e]
  | x :: xs => if lt e x then e :: x :: xs else x :: insertEnt lt e xs

/-- READY entries in the order of R126. -/
def State.readyOrder (s : State) : List QEnt :=
  (s.plcr.queue.filter fun e => s.descState e.slot == 1).foldl (fun l e => insertEnt s.before e l) []

/-- A FLASH task is READY, so that the flash engine takes no other (R129). -/
def State.flashReady (s : State) : Bool := s.plcr.queue.any fun e => s.descState e.slot == 1 && s.descFlash e.slot

/-- The engine a task goes to: the flash engine for FLASH; else an idle engine with the task's affinity tag, else the
lowest idle one, the flash engine only while no FLASH task is READY (R126, R129). -/
def State.chooseEngine (s : State) (slot : Nat) : Option Engine :=
  let idle := allEngines.filter fun k => s.engIdle k && !(s.flashReady && s.flashEng == some k)
  if s.descFlash slot then
    match s.flashEng with
    | some k => if s.engIdle k then some k else none
    | none => none
  else
    let aff := bitsOf (s.descWord slot 4) 0 16
    match idle.find? fun k => aff != 0xFFFF && s.fld (pENG k) ENG.AFFINITY_TAG == aff with
    | some k => some k
    | none => idle.head?

/-- Try to assign one READY entry: a descriptor that fails its check is discarded (R144), a stale one too (R16).
The Placer counts as requester 5, which R142 does not number (log entry 74). -/
def State.assign (s : State) (e : QEnt) : State :=
  if s.descOk e.slot = false then (s.stNote 5 (descAt e.slot) 32).descLost e.slot true
  else if s.descStale e.slot then s.genDiscard e.slot
  else match s.chooseEngine e.slot with
    | none => s
    | some k => s.taskStart k e

/-- Resume a PREEMPTED task on the engine that holds it, with a fresh budget (R130). -/
def State.resume (s : State) (k : Engine) : State :=
  if (s.eng k).run != .preempted || (s.eng k).halted then s
  else
    let slot := s.engSlot k
    if s.descStale slot then (s.genDiscard slot).engFree k
    else
      let b : Int := s.descBudget slot
      let s := { s with plcr := { s.plcr with started := slot :: s.plcr.started } }
      (s.setDescState slot 3).modEng k fun e => { e with run := .running, budleft := b, overMark := false }

/-- The whole dispatch point. `testOk`: the known-answer test of this tick matched. `noStart`: the Placer starts no task, but resumes those preempted (R77, R130). -/
def State.dispatch (s : State) (testOk noStart : Bool) : State :=
  let tick := s.tick
  let s := if s.fld pPLCR PLCR.SHED_LEVEL < s.plcr.nextLevel then s.raise pPLCR PLCR.PG_EVT_SHED_UP
    else s.raiseIf (decide (s.plcr.nextLevel < s.fld pPLCR PLCR.SHED_LEVEL)) pPLCR PLCR.PG_EVT_SHED_DOWN
  let level := s.plcr.nextLevel
  let s := s.put pPLCR PLCR.SHED_LEVEL level
  let resumed := (allEngines.filter fun k => (s.eng k).run == .preempted && !(s.eng k).halted && !s.descStale (s.engSlot k)).map
    fun k => s.descBudget (s.engSlot k)
  let ready := s.readyOrder
  let allowed := ready.filter fun e => shedAllows level (s.descClass e.slot) tick
  let load := resumed.foldl (· + ·) 0 + (allowed.map fun e => s.descBudget e.slot).foldl (· + ·) 0
  let j : Engine := Fin.ofNat 16 (tick / 1250)
  let test := tick % 1250 == 0 && !(s.eng j).retired && !(s.eng j).halted && s.enabled (pENG j) && (s.eng j).run != .preempted
  let cap := 4800 * (s.healthy.filter fun k => s.enabled (pENG k)).length - (if test then 400 else 0)
  let s := s.put pPLCR PLCR.SHED_LOAD (if cap = 0 then 255 else min 255 (load * 100 / cap))
  let s := [0, 1, 2, 3, 4, 5].foldl (init := s) fun s c =>
    let es := ready.filter fun e => s.descClass e.slot == c
    let w := (es.map fun e => s.descBudget e.slot).foldl (· + ·) 0
    (s.put pPLCR (PLCR.QSTAT_COUNT.at c) (min es.length 4095)).put pPLCR (PLCR.QSTAT_WORK.at c) (min (w / 16) 65535)
  let above := if cap * 9 < load * 10 then s.plcr.above + 1 else 0
  let below := if load * 4 < cap * 3 then s.plcr.below + 1 else 0
  let rise := decide (4 ≤ above) && decide (level < 4)
  let fall := decide (16 ≤ below) && decide (0 < level)
  let s := { s with plcr := { s.plcr with
    above := if rise || fall then 0 else above
    below := if rise || fall then 0 else below
    nextLevel := if rise then level + 1 else if fall then level - 1 else level
    c0Ready := ready.any fun (e : QEnt) => s.descClass e.slot == 0
    cand := ready.map fun (e : QEnt) => e.slot } }
  let s := (if test && !testOk then s.engineFault j 1 0 else s).forEngines State.resume
  if noStart then s
  else allowed.foldl (init := s) fun s e => if (allEngines.any s.engIdle) then s.assign e else s

/-- The Placer starts no further task: a mode entry has passed its first boundary (R77). -/
def State.entryStops (s : State) : Bool :=
  match s.aon.entry with
  | some (_, c) => decide (1 ≤ c)
  | none => false

/-- After a yield before the boundary, the idle engine takes the first READY task that has not started in this tick, was
READY at the dispatch point and fits in the cycles left (R127); none during a mode entry (R77). -/
def State.idleReassign (s : State) (k : Engine) (left : Nat) : State :=
  let es := s.readyOrder.filter fun e =>
    s.plcr.cand.contains e.slot && !s.plcr.started.contains e.slot &&
      shedAllows (s.fld pPLCR PLCR.SHED_LEVEL) (s.descClass e.slot) s.tick
  es.foldl (init := s) fun s e =>
    if !s.engIdle k || s.entryStops then s
    else if s.descOk e.slot = false then (s.stNote 5 (descAt e.slot) 32).descLost e.slot true
    else if s.descStale e.slot then s.genDiscard e.slot
    else if left < s.descBudget e.slot || (s.descFlash e.slot && s.flashEng != some k) ||
      (!s.descFlash e.slot && s.flashReady && s.flashEng == some k) then s
    else s.taskStart k e

/-- An overrun (R130): the engine stops, the descriptor is PREEMPTED, the register state stays. -/
def State.overrun (s : State) (k : Engine) : State :=
  let s := (s.setDescState (s.engSlot k) 4).modEng k fun e => { e with run := .preempted }
  let s := (s.raise (pENG k) ENG.PG_EVT_OVERRUN).raise pPLCR PLCR.PG_EVT_OVERRUN
  let s := s.bump pPLCR PLCR.OVERRUNS_COUNT 1
  let ts := s.tick :: s.plcr.overTicks.filter fun t => decide (s.tick < t + 64)
  ({ s with plcr := { s.plcr with overTicks := ts } }).put pPLCR PLCR.WDOG_STORM ts.length

/-- Every descriptor reads FREE and the queue is empty (R124, after a WARM reset). -/
def State.dropTasks (s : State) : State :=
  let s := { s with plcr := { s.plcr with posts := [], queue := [], repost := [], above := 0, below := 0, nextLevel := 0, started := [], cand := [], c0Ready := false, c0Yield := false, overTicks := [] } }
  { s with store := s.store.filter fun c => !(decide (0xC0000 ≤ c.1) && decide (c.1 < 0xD0000) && decide (20 ≤ c.1 % 32) && decide (c.1 % 32 < 24)) }

end Sys2Proof.Machine
end

