-- ==== Sys2Proof/Machine/Nv.lean ====
section
/-!
DEFINITION. Non-volatile memory (chapters 4, 5 and 18): what supplies allow (R73), code flash and the FLASH page, the
data-flash journal and the NVD page, OTP and its boot resolution, the sticky locks.
-/

namespace Sys2Proof.Machine

/-! ### What the supplies allow (R72-R74) -/

/-- NV inhibit threshold in mV: 2.80 V + code × 10 mV, codes above 50 act as 50 (Table 4.9). -/
def State.nvInhMv (s : State) : Nat := 2800 + 10 * min 50 (s.inf pSUP SUP.THR_CFG_NV_INH)

/-- NV hysteresis in mV. -/
def State.nvHystMv (s : State) : Nat := 10 * s.inf pSUP SUP.THR_CFG_NV_HYST

/-- A program or erase may start: `NV_INHIBIT` = 0 and `SRC` = VSYS (R73). -/
def State.nvOk (s : State) : Bool := !s.flag pSUP SUP.PG_STAT_NV_INHIBIT && s.fld pSUP SUP.PG_STAT_SRC == 0

/-- An erase may start: also `VSYS` ≥ `NV_INH` + `NV_HYST` (R73). -/
def State.eraseOk (s : State) : Bool := s.nvOk && decide (s.nvInhMv + s.nvHystMv ≤ s.pins.vsysMv)

/-! ### Code flash -/

/-- A word of code flash. -/
def State.codeWord (s : State) (a : Nat) : Nat := leNat (Sparse.getList flashDflt s.code a 4)

/-- Program a word: a program only turns 1 bits into 0. -/
def State.codeProgram (s : State) (a : Nat) (v : Word) : State :=
  let old := BitVec.ofNat 32 (s.codeWord a)
  { s with code := Sparse.setList flashDflt s.code a (leBytes 4 (old &&& v).toNat) }

/-- Erase the 4 KiB sector that holds an address. -/
def State.codeErase (s : State) (a : Nat) : State :=
  { s with code := s.code.filter fun c => c.1 / 4096 != a / 4096 }

/-- Base address of a bank in code flash: bit 19 selects bank B. -/
def bankBase (b : Bool) : Nat := if b then 0x80000 else 0

/-- The running bank (`BOOT.BANK_STAT.ACTIVE`). -/
def State.activeBank (s : State) : Bool := s.flag pBOOT BOOT.BANK_STAT_ACTIVE

/-- Write a FLASH command's outcome (Table 18.8). -/
def State.flashDone (s : State) (result : Nat) : State :=
  let s := (s.put pFLASH FLASH.CMD_STAT_RESULT result).put pFLASH FLASH.CMD_STAT_BUSY 0
  ({ s with flashOp := none }).raise pFLASH FLASH.PG_EVT_CMD_DONE

/-- Start a FLASH command, or refuse it: ACTIVE_BANK under the sticky lock, SUPPLY under R73, NOT_ERASED for a program of a
word that is not blank, BUSY. Every program or erase sets `CODE_DIRTY` (R474). -/
def State.flashStart (s : State) (op : FlashOp) : State :=
  let a := match op with
    | .program a _ => a
    | .erase a => a
  let erase := match op with
    | .program _ _ => false
    | .erase _ => true
  if s.flashOp.isSome then s.put pFLASH FLASH.CMD_STAT_RESULT 6
  else if s.lockBit LOCK.STICKY_FLASH_ACTIVE && decide (0x80000 ≤ a) == s.activeBank then s.flashDone 1
  else if !(if erase then s.eraseOk else s.nvOk) then s.flashDone 2
  else if !erase && s.codeWord a != 0xFFFFFFFF then s.flashDone 5
  else ({ s with flashOp := some op }).put pFLASH FLASH.CMD_STAT_BUSY 1 |>.put pBOOT BOOT.BANK_STAT_CODE_DIRTY 1

/-- A FLASH command ends (R474); a program reads back, and a mismatch is VERIFY_FAIL. -/
def State.flashFinish (s : State) (verifyOk : Bool) : State :=
  match s.flashOp with
  | none => s
  | some (.program a v) => (s.codeProgram a v).flashDone (if verifyOk then 0 else 4)
  | some (.erase a) => (s.codeErase a).flashDone (if verifyOk then 0 else 4)

/-! ### Data flash journal (R111, Table 5.6) -/

/-- Base of a slot of an area. -/
def slotAt (area slot : Nat) : Nat := (2 * area + slot) * 2048

/-- Bytes of data flash. -/
def State.nvdBytes (s : State) (a n : Nat) : List Byte := Sparse.getList flashDflt s.nvd a n

/-- A number in data flash. -/
def State.nvdNat (s : State) (a n : Nat) : Nat := leNat (s.nvdBytes a n)

/-- Payload length a slot's header states. -/
def State.slotLen (s : State) (area slot : Nat) : Nat := s.nvdNat (slotAt area slot) 2

/-- Sequence number of a slot. -/
def State.slotSeq (s : State) (area slot : Nat) : Nat := s.nvdNat (slotAt area slot + 4) 2

/-- A slot is valid (R111). -/
def State.slotValid (s : State) (area slot : Nat) : Bool :=
  let b := slotAt area slot
  let len := s.slotLen area slot
  s.nvdNat (b + 0x7FC) 4 == 0x5A5AA5A5 && s.slotSeq area slot + s.nvdNat (b + 6) 2 == 0xFFFF &&
    s.nvdNat (b + 3) 1 == area && decide (len ≤ 2032) && s.nvdNat (b + 0x7F8) 4 == crc32 (s.nvdBytes b (8 + len))

/-- The newest valid slot of an area: of two, the one whose sequence exceeds the other's by 1-32,767 (R111). -/
def State.newest (s : State) (area : Nat) : Option Nat :=
  match s.slotValid area 0, s.slotValid area 1 with
  | false, false => none
  | true, false => some 0
  | false, true => some 1
  | true, true =>
    let d := (s.slotSeq area 1 + 65536 - s.slotSeq area 0) % 65536
    if 1 ≤ d ∧ d ≤ 32767 then some 1 else some 0

/-- Erase a page of data flash; its DIRTY bit clears (Table 5.13). -/
def State.nvdErasePage (s : State) (p : Nat) : State :=
  ({ s with nvd := s.nvd.filter fun c => c.1 / 2048 != p }).put pNVD NVD.DIRTY_PAGES
    (setBits (s.fld pNVD NVD.DIRTY_PAGES) p 1 0)

/-- Whether a page need not be erased before it is written; one whose erase was abandoned holds no valid slot and needs it (log entry 11). -/
def State.nvdBlank (s : State) (p : Nat) : Bool :=
  (s.nvd.all fun c => c.1 / 2048 != p) && !bitAt (s.fld pNVD NVD.DIRTY_PAGES) p

/-- The slot a WRITE goes to: the other than the newest, slot 0 when there is none. -/
def State.writeSlot (s : State) (area : Nat) : Nat :=
  match s.newest area with
  | some 0 => 1
  | _ => 0

/-- The bytes of a slot (Table 5.6). -/
def slotBytes (area format seq : Nat) (payload : List Byte) : List Byte :=
  let head := leBytes 4 (payload.length + 65536 * format + 16777216 * area) ++ leBytes 4 (seq + 65536 * (65535 - seq))
  head ++ payload ++ List.replicate (2032 - payload.length) 0xFF ++ leBytes 4 (crc32 (head ++ payload)) ++ leBytes 4 0x5A5AA5A5

/-- Write a record into the other slot of an area (R111). The first record of an area with no valid slot takes sequence number 0 (log entry 86). -/
def State.nvdCommit (s : State) (area format : Nat) (payload : List Byte) : State :=
  let slot := s.writeSlot area
  let seq := match s.newest area with
    | some k => (s.slotSeq area k + 1) % 65536
    | none => 0
  let s := s.nvdErasePage (2 * area + slot)
  { s with nvd := Sparse.setList flashDflt s.nvd (slotAt area slot) (slotBytes area format seq payload) }

/-- Payload of the newest valid slot of an area. -/
def State.nvdRecord (s : State) (area : Nat) : Option (List Byte) :=
  (s.newest area).map fun k => s.nvdBytes (slotAt area k + 8) (s.slotLen area k)

/-- Write an NVD command's outcome (Table 5.13). -/
def State.nvdDone (s : State) (result : Nat) : State :=
  let s := (s.put pNVD NVD.CMD_STAT_RESULT result).put pNVD NVD.CMD_STAT_BUSY 0
  ({ s with nvdOp := none }).raise pNVD NVD.PG_EVT_CMD_DONE

/-- Whether NVD refuses an area as PROTECTED (Table 5.13): area 0 from firmware; areas 1 and 15 under `LOCK.STICKY`; a READ
of area 15. -/
def State.nvdProtected (s : State) (area : Nat) (read : Bool) : Bool :=
  if read then area == 15
  else area == 0 || (area == 1 && s.lockBit LOCK.STICKY_OWNER_FLAG) || (area == 15 && s.lockBit LOCK.STICKY_SECRET)

/-- Start an NVD command or refuse it; a command written while one runs is ignored (log entry 12). The slot a WRITE goes to
is erased first if it is not blank. -/
def State.nvdStart (s : State) (op : NvdOp) : State :=
  if s.nvdOp.isSome then s
  else match op with
    | .read area =>
      if s.nvdProtected area true then s.nvdDone 5
      else ({ s with nvdOp := some op }).put pNVD NVD.CMD_STAT_BUSY 1
    | .invalidate area =>
      if s.nvdProtected area false then s.nvdDone 5
      else if !s.eraseOk then s.nvdDone 1
      else ({ s with nvdOp := some op }).put pNVD NVD.CMD_STAT_BUSY 1
    | .write area _ =>
      let p := 2 * area + s.writeSlot area
      if s.nvdProtected area false then s.nvdDone 5
      else if 2032 < s.fld pNVD NVD.LEN_BYTES then s.nvdDone 6
      else if s.nvdBlank p then
        if s.nvOk then ({ s with nvdOp := some op }).put pNVD NVD.CMD_STAT_BUSY 1 else s.nvdDone 1
      else if s.eraseOk then ({ s with nvdOp := some op }).put pNVD NVD.CMD_STAT_BUSY 1
      else s.nvdDone 1

/-- An NVD command ends. A WRITE reads its buffer from the store (STORE_ERR on a parity error), programs the slot and
verifies it; a READ loads the buffer and LEN, with STORE_ERR when the buffer passes the end of the store, where nothing is written (R140; log entry 11); an INVALIDATE leaves both slots blank. -/
def State.nvdFinish (s : State) (verifyOk : Bool) : State :=
  let buf := 4 * s.fld pNVD NVD.BUF_ADDR_WORD
  match s.nvdOp with
  | none => s
  | some (.write area format) =>
    let len := s.fld pNVD NVD.LEN_BYTES
    if s.stBadIn buf len then ((s.stNote 7 buf len).nvdErasePage (2 * area + s.writeSlot area)).nvdDone 7
    else if verifyOk then (s.nvdCommit area format (s.stRead buf len)).nvdDone 0
    else (s.nvdErasePage (2 * area + s.writeSlot area)).nvdDone 3
  | some (.read area) =>
    match s.nvdRecord area with
    | none => s.nvdDone 4
    | some p => ((s.stWrite buf p).put pNVD NVD.LEN_BYTES p.length).nvdDone (if buf + p.length ≤ storeTop then 0 else 7)
  | some (.invalidate area) => ((s.nvdErasePage (2 * area)).nvdErasePage (2 * area + 1)).nvdDone 0

/-- The page of data flash whose erase is running, if one is. -/
def State.nvdErasing (s : State) : Option Nat :=
  match s.nvdOp with
  | some (.write area _) =>
    let p := 2 * area + s.writeSlot area
    if s.nvdBlank p then none else some p
  | some (.invalidate area) => some (2 * area)
  | _ => none

/-- An erase of a code-flash sector is abandoned (R73): the events, and the sector marked in the page that started it (Table 18.8). -/
def State.eraseAbort (s : State) (sector : Nat) : State :=
  let s := (s.put pFLASH FLASH.LAST_ABORT_SECTOR sector).put pFLASH FLASH.LAST_ABORT_VALID 1
  (s.raise pSUP SUP.PG_EVT_ERASE_ABORT).raise pFLASH FLASH.PG_EVT_ERASE_ABORT

/-- The NV inhibit asserts while a command runs (R73): a running erase is abandoned, its page marked dirty, SUP.ERASE_ABORT
set and the operation failed in the page that started it; a word program in progress ends and the rest is not started. -/
def State.nvInhibit (s : State) : State :=
  let s := match s.flashOp with
    | some (.erase a) => (s.eraseAbort (a / 4096)).flashDone 3
    | _ => s
  match s.nvdErasing with
  | some p =>
    let s := s.nvdErasePage p
    ((s.put pNVD NVD.DIRTY_PAGES (setBits (s.fld pNVD NVD.DIRTY_PAGES) p 1 1)).raise pSUP SUP.PG_EVT_ERASE_ABORT).nvdDone 2
  | none => match s.nvdOp with
    | some (.write _ _) => s.nvdDone 1
    | _ => s

/-- The erasure of the secrets is abandoned too (R73, R116): its page is marked dirty, and the device stays in ERASING. -/
def State.secretInhibit (s : State) : State :=
  if s.dbg.state = .erasing then
    (s.put pNVD NVD.DIRTY_PAGES (setBits (s.fld pNVD NVD.DIRTY_PAGES) 30 1 1)).raise pSUP SUP.PG_EVT_ERASE_ABORT
  else s

/-! ### OTP (R102-R109) -/

/-- A word at the normal reference. -/
def State.otpWord (s : State) (i : Nat) : Word := Sparse.get (fun _ => 0) s.otp i

/-- A word at the margin reference. -/
def State.otpMarginWord (s : State) (i : Nat) : Word := Sparse.get (fun _ => 0) s.otpMargin i

/-- A marginal word: its two reads differ (R104). -/
def State.otpMarginal (s : State) (i : Nat) : Bool := s.otpWord i != s.otpMarginWord i

/-- First word and number of words of the regions of Table 5.4, by index. -/
def otpRegion : Nat → Nat × Nat
  | 0 => (0x00, 24)
  | 1 => (0x18, 24)
  | 2 => (0x30, 8)
  | 3 => (0x38, 33)
  | 4 => (0x59, 1)
  | 5 => (0x60, 32)
  | 6 => (0x80, 112)
  | _ => (0xF0, 16)

/-- Words whose differing bits read as blown: KEYS, REVOKE, OWN_CFG and LOCKW (R104). -/
def otpOrWord (i : Nat) : Bool := (decide (0x38 ≤ i) && decide (i ≤ 0x59)) || i == 0x60 || decide (0xF0 ≤ i)

/-- A `TRIM` word taken from `TRIM_COPY`; the design centre when the copy is marginal too (R104, log entry 98). -/
def State.otpCopy (s : State) (i : Nat) : Word := if s.otpMarginal (i + 24) then Config.trimCentre i else s.otpWord (i + 24)

/-- A word after the treatment of marginal words (R104), before the regions' integrity is judged. -/
def State.otpRead (s : State) (i : Nat) : Word :=
  if otpOrWord i then s.otpWord i ||| s.otpMarginWord i
  else if i < 24 then (if s.otpMarginal i then s.otpCopy i else s.otpWord i)
  else s.otpWord i

/-- Whether a region is locked: bit r of word 0xF0, a marginal bit counting as blown. -/
def State.otpLocked (s : State) (r : Nat) : Bool := (s.otpWord 0xF0 ||| s.otpMarginWord 0xF0).getLsbD r

/-- The last word of a region is the CRC-32 over its other words (R102); REVOKE has none. -/
def State.otpCrcOk (s : State) (r : Nat) : Bool :=
  let (b, n) := otpRegion r
  if r = 4 then true
  else
    let words := (List.range (n - 1)).map fun i => s.otpRead (b + i)
    (s.otpRead (b + n - 1)).toNat == crc32 (words.flatMap fun w => leBytes 4 w.toNat)

/-- Whether a region fails its integrity check: locked, and its CRC word does not match (R104). -/
def State.otpFails (s : State) (r : Nat) : Bool := s.otpLocked r && !s.otpCrcOk r

/-- A word as the device resolves it at boot (R104, Table 5.4): a failed `TRIM` region is replaced by its copy, word by word, and where the copy
cannot be used either the design centre stands. -/
def State.otpResolve (s : State) (i : Nat) : Word :=
  if i < 24 ∧ (s.otpMarginal i || s.otpFails 0) then (if s.otpFails 1 then Config.trimCentre i else s.otpCopy i) else s.otpRead i

/-- Whether a region has a marginal word. -/
def State.otpRegionMarginal (s : State) (r : Nat) : Bool :=
  let (b, n) := otpRegion r
  (List.range n).any fun i => s.otpMarginal (b + i)

/-- `OWN_CFG` in force (R103): factory behaviour while OWNER is not locked; once it is locked the word as read, all zero when the region failed its check at
boot. DBG_MODE [1:0], UPD_PERMIT 2, OWNER_IMG 3. -/
def State.ownCfg (s : State) : Nat :=
  if !s.otpLocked 5 then 0b0110
  else if s.boot.ownerFail then 0
  else (s.otpRead 0x60).toNat % 16

/-- Key slots revoked (bits 0-3 vendor, 4 owner), as resolved at boot. -/
def State.revoked (s : State) (slot : Nat) : Bool := (Sparse.get (fun _ => 0) s.boot.otpEff 0x59 : Word).getLsbD slot

/-- Whether OTP may be programmed (R107): result code, 0 when it may. -/
def State.otpGate (s : State) : Nat :=
  if s.lockBit LOCK.STICKY_OTP_PROG then 2 else if s.nvOk then 0 else 3

/-- Write an OTP command's outcome (Table 5.12). -/
def State.otpDone (s : State) (result : Nat) : State :=
  let s := (s.put pOTP OTP.CMD_STAT_RESULT result).put pOTP OTP.CMD_STAT_BUSY 0
  ({ s with otpOp := none }).raise pOTP OTP.PG_EVT_CMD_DONE

/-- The region an OTP word lies in. -/
def otpRegionOf (i : Nat) : Nat :=
  if i < 0x18 then 0 else if i < 0x30 then 1 else if i < 0x38 then 2 else if i < 0x59 then 3
  else if i < 0x60 then 4 else if i < 0x80 then 5 else if i < 0xF0 then 6 else 7

/-- Vendor-reserved words (Table 5.4): 0x5A-0x5F and 0xF1-0xFF. -/
def otpReserved (i : Nat) : Bool := (decide (0x5A ≤ i) && decide (i ≤ 0x5F)) || decide (0xF1 ≤ i)

/-- PROGRAM (R107). -/
def State.otpProgram (s : State) : State :=
  let w := s.fld pOTP OTP.PROG_ADDR_WORD
  if s.otpOp.isSome then s.put pOTP OTP.CMD_STAT_RESULT 7
  else if s.otpGate ≠ 0 then s.otpDone s.otpGate
  else if otpReserved w || otpRegionOf w == 7 then s.otpDone 6
  else if s.otpLocked (otpRegionOf w) then s.otpDone 1
  else ({ s with otpOp := some (.program w (s.rd pOTP 0x34)) }).put pOTP OTP.CMD_STAT_BUSY 1

/-- LOCK (R108): only OWNER and OWNER_DATA, another region is BAD_ADDR (log entry 88); CRC_MISMATCH when a word is marginal or the CRC word does not match. -/
def State.otpLock (s : State) (r : Nat) : State :=
  if s.otpOp.isSome then s.put pOTP OTP.CMD_STAT_RESULT 7
  else if s.otpGate ≠ 0 then s.otpDone s.otpGate
  else if r ≠ 5 ∧ r ≠ 6 then s.otpDone 6
  else if s.otpLocked r then s.otpDone 1
  else if s.otpRegionMarginal r || !s.otpCrcOk r then s.otpDone 4
  else ({ s with otpOp := some (.lock r) }).put pOTP OTP.CMD_STAT_BUSY 1

/-- Blow bits of a word. `weak`: bits that still read 0 at the margin reference after four pulses. -/
def State.otpBlow (s : State) (i : Nat) (bits weak : Word) : State :=
  { s with
    otp := Sparse.set (fun _ => 0) s.otp i (s.otpWord i ||| bits)
    otpMargin := Sparse.set (fun _ => 0) s.otpMargin i (s.otpMarginWord i ||| (bits &&& ~~~weak)) }

/-- An OTP command finishes (R107, R108). -/
def State.otpFinish (s : State) (weak : Word) : State :=
  match s.otpOp with
  | none => s
  | some (.program w v) => (s.otpBlow w v weak).otpDone (if v &&& weak = 0 then 0 else 5)
  | some (.lock r) =>
    let b := BitVec.ofNat 32 (2 ^ r)
    (s.otpBlow 0xF0 b weak).otpDone (if b &&& weak = 0 then 0 else 5)

/-- A reset interrupts a PROGRAM or LOCK (R109): which of its bits are blown, and which of those read at the margin reference, is open (log entry 1), but a
word left partly blown is marginal: at least one of its new bits does not. -/
def State.otpDrop (s : State) : State :=
  let cut := fun (w : Nat) (v : Word) =>
    let want := v &&& ~~~s.otpWord w
    let new := want &&& Config.freeValue s.fresh
    let weak := Config.freeValue (s.fresh + 1)
    let part := new != 0 && new != want && new &&& weak == 0
    ((s.otpBlow w new (if part then new else weak)).freshen).freshen
  let s := match s.otpOp with
    | some (.program w v) => cut w v
    | some (.lock r) => cut 0xF0 (BitVec.ofNat 32 (2 ^ r))
    | none => s
  { s with otpOp := none }

end Sys2Proof.Machine
end

