-- ==== Sys2Proof/Machine/Events.lean ====
section
/-!
DEFINITION. The event summary of chapter 2: PEND, NODE_SUM and the fleet summary, read live.
-/

namespace Sys2Proof.Machine

/-- All pages of Table 2.9 the device has, by number. -/
def allPages : List Nat := pageMap.flatMap fun r => (List.range r.count).map (r.base + ·)

/-- Whether a page's bit of `EVT.PEND` is 1: an enabled event of the page is set (Table 2.15). -/
def State.pendBit (s : State) (pg : Nat) : Bool := (s.rd pg 0x10 &&& s.rd pg 0x14) != 0

/-- Word `w` of `EVT.PEND`. -/
def State.pendWord (s : State) (w : Nat) : Nat :=
  (allPages.filter fun pg => pg / 32 == w && s.pendBit pg).foldl (fun m pg => m ||| 2 ^ (pg % 32)) 0

/-- `EVT.NODE_SUM.ATTN`: `PEND` and `ATTN_EN` share a 1. -/
def State.attn (s : State) : Bool :=
  allPages.any fun pg => s.pendBit pg && bitAt (s.fld pEVT (EVT.ATTN_EN_PAGE.at (pg / 32))) (pg % 32)

/-- `EVT.NODE_SUM.FAULT` (R49). -/
def State.faultSum (s : State) : Bool :=
  allPages.any fun pg => s.pendBit pg && bitAt (s.fld pEVT (EVT.FAULT_EN_PAGE.at (pg / 32))) (pg % 32)

/-- The `FAULT` pin is driven active (R49); it is released while `VDDIO` is absent (R68). -/
def State.faultPin (s : State) : Bool := s.faultSum && s.flag pSUP SUP.PG_STAT_VDDIO_OK

/-- `EVT.NODE_SUM` (Table 2.15). -/
def State.nodeSum (s : State) : Nat :=
  let set := allPages.filter s.pendBit
  (!set.isEmpty).toNat + 2 * s.attn.toNat + 4 * s.faultSum.toNat + 256 * (set.foldl min 0xFF % (if set.isEmpty then 1 else 256))

/-- This device's node index; 0 on a SOLO device (R31). -/
def State.node (s : State) : Nat := if s.role == .solo then 0 else s.fld pID ID.NODE_INDEX

/-- Whether the device holds a node index. -/
def State.assigned (s : State) : Bool := s.role == .solo || s.flag pID ID.NODE_ASSIGNED

/-- A bit of a map of 64 nodes kept in two words. -/
def State.mapBit (s : State) (pg : Nat) (f : Fld) (node : Nat) : Bool := bitAt (s.fld pg (f.at (node / 32))) (node % 32)

/-- Set a bit of a map of 64 nodes. -/
def State.setMapBit (s : State) (pg : Nat) (f : Fld) (node : Nat) (b : Bool) : State :=
  let g := f.at (node % 64 / 32)
  s.put pg g (setBits (s.fld pg g) (node % 32) 1 b.toNat)

/-- Word `w` of the fleet summary: the device's own bit follows its own ATTN (R50). -/
def State.evtSum (s : State) (w : Nat) : Nat :=
  let v := s.fld pFLEET (FLEET.EVT_SUM_NODES.at w)
  if s.places && s.node / 32 == w then setBits v (s.node % 32) 1 s.attn.toNat else v

end Sys2Proof.Machine
end

