-- ==== Sys2Proof/Machine/Hedgerow.lean ====
section
/-!
DEFINITION. The Hedgerow links (chapter 13): frames, go-back-N retransmission, link states and wrapping, removal and forwarding, with the
commands of a link page.
-/

namespace Sys2Proof.Machine

/-- A link: 0 EAST, 1 WEST, 2 TIE. -/
abbrev Link := Fin 3

/-- The hidden state of a link. -/
def State.link (s : State) (l : Link) : LinkSt := s.links.get l

/-- Change the hidden state of a link. -/
def State.modLink (s : State) (l : Link) (f : LinkSt → LinkSt) : State :=
  { s with links := s.links.set l.val (f (s.links.get l)) l.isLt }

/-- Change the hidden state of the fleet. -/
def State.modFleet (s : State) (f : FleetSt → FleetSt) : State := { s with fleet := f s.fleet }

/-- Link state (Table 13.4): 0 OFF, 1 TRAINING, 2 UP, 3 DOWN, 4 RETIRED, 5 PROBING. -/
def State.linkState (s : State) (l : Link) : Nat := s.fld (pHG l) HG.PG_STAT_STATE

/-- The link is UP. -/
def State.linkUp (s : State) (l : Link) : Bool := s.linkState l == 2

/-! ### Frames (Table 13.2) -/

/-- Byte `i` of a frame. -/
def byteAt (bs : List Byte) (i : Nat) : Nat := (bs.getD i 0).toNat

/-- A little-endian number inside a frame or payload. -/
def numAt (bs : List Byte) (i n : Nat) : Nat := leNat ((bs.drop i).take n)

/-- TYPE. -/
def frType (b : List Byte) : Nat := bitsOf (byteAt b 0) 0 4
/-- BCAST. -/
def frBcast (b : List Byte) : Bool := bitAt (byteAt b 0) 4
/-- DEST. -/
def frDest (b : List Byte) : Nat := bitsOf (byteAt b 1) 0 7
/-- SRC. -/
def frSrc (b : List Byte) : Nat := bitsOf (byteAt b 2) 0 7
/-- LEN. -/
def frLen (b : List Byte) : Nat := bitsOf (numAt b 3 2) 0 9
/-- TAG. -/
def frTag (b : List Byte) : Nat := bitsOf (numAt b 3 2) 9 7
/-- HOPS. -/
def frHops (b : List Byte) : Nat := bitsOf (byteAt b 5) 0 7
/-- WRAPPED. -/
def frWrapped (b : List Byte) : Bool := bitAt (byteAt b 5) 7
/-- LSEQ. -/
def frSeq (b : List Byte) : Nat := bitsOf (byteAt b 6) 0 4
/-- The payload. -/
def frPayload (b : List Byte) : List Byte := b.drop 8

/-- A frame as its originator builds it; bytes 5-7 are written at each hop. The originator's `HOPS` counts the first link (DEDUCED from
Table 13.6, step 7, log entry 40). -/
def mkFrame (typ : Nat) (bcast : Bool) (dest src tag : Nat) (payload : List Byte) : List Byte :=
  leBytes 1 (typ % 16 + 16 * bcast.toNat) ++ leBytes 1 (dest % 128) ++ leBytes 1 (src % 128) ++
    leBytes 2 (payload.length % 512 + 512 * (tag % 128)) ++ leBytes 1 1 ++ leBytes 1 0 ++ leBytes 1 0 ++ payload

/-- A frame with bytes 5 and 6 set for a hop: `HOPS`, `WRAPPED`, `RING`. -/
def hopFrame (b : List Byte) (hops : Nat) (wrapped : Bool) (ring : Nat) : List Byte :=
  b.take 5 ++ leBytes 1 (hops % 128 + 128 * wrapped.toNat) ++ leBytes 1 (16 * (ring % 2)) ++ b.drop 7

/-- The frame with its link sequence and `HCHK`. -/
def seqFrame (b : List Byte) (seq : Nat) : List Byte :=
  let h := b.take 6 ++ leBytes 1 (byteAt b 6 / 16 * 16 + seq % 16)
  h ++ leBytes 1 (crc8 h) ++ b.drop 8

/-- The CRC-32 of a frame: bytes 0-4 and the payload (R316). -/
def frCrc (b : List Byte) : Nat := crc32 (b.take 5 ++ frPayload b)

/-- Place in the order in which a node inserts its own frames (R319); retransmissions and link words are not queued. -/
def framePrio (typ : Nat) : Nat :=
  match typ with
  | 0 => 0
  | 2 => 1
  | 1 => 2
  | 9 => 3
  | 3 => 4
  | 4 => 4
  | 5 => 4
  | 7 => 5
  | 8 => 6
  | 0xC => 7
  | 0xD => 7
  | 6 => 8
  | 0xA => 9
  | _ => 10

/-- A transit frame always has the transmitter; a node's own frames follow in their order (R319). -/
def waitPrio (f : TxF) : Nat := if f.transit then 0 else 1 + framePrio (frType f.bytes)

/-- Insert a waiting frame behind those it does not precede. -/
def insertFrame (f : TxF) : List TxF → List TxF
  | [] => [f]
  | x :: xs => if waitPrio f < waitPrio x then f :: x :: xs else x :: insertFrame f xs

/-- Whether a frame type may travel on a link (Table 13.3): ring types on EAST and WEST; `STORE_XFER`, `TWIN` and `LEDGER` on TIE. -/
def typeOn (l : Link) (typ : Nat) : Bool :=
  if l = 2 then typ == 0xA || typ == 0xC || typ == 0xD else typ ≤ 0xB || typ == 0xD

/-! ### Sending -/

/-- A frame as it goes on the line, start and end symbols apart: header, payload, CRC-32 least significant byte first (R316). -/
def onLine (b : List Byte) : List Byte := b ++ leBytes 4 (frCrc b)

/-- Put a frame on the line with the next link sequence; it stays in the window until it is acknowledged (R322). -/
def State.transmit (s : State) (l : Link) (f : TxF) : State :=
  let pg := pHG l
  let seq := s.fld pg HG.WINDOW_TX_NEXT
  let b := seqFrame f.bytes seq
  let s := s.modLink l fun k => { k with win := k.win ++ [{ f with bytes := b }], line := some (onLine b) }
  ((s.put pg HG.WINDOW_TX_NEXT (seq + 1)).put pg HG.WINDOW_OUTSTANDING (s.link l).win.length).incr pg HG.TX_FRAMES_COUNT

/-- Send waiting frames while the window of 8 has room. -/
def State.drain (s : State) (l : Link) : State :=
  (List.range 8).foldl (init := s) fun s _ =>
    match (s.link l).queue with
    | [] => s
    | f :: fs => if (s.link l).win.length < 8 then (s.modLink l fun k => { k with queue := fs }).transmit l f else s

/-- Hand a frame to a link's transmitter. -/
def State.linkSend (s : State) (l : Link) (f : TxF) : State :=
  (s.modLink l fun k => { k with queue := insertFrame f k.queue }).drain l

/-- The other ring port. -/
def otherRing (l : Link) : Link := if l = 0 then 1 else 0

/-- A ring link carries frames: it is UP and the node does not wrap at it. -/
def State.ringOpen (s : State) (l : Link) : Bool := s.linkUp l && !s.flag (pHG l) HG.PG_STAT_WRAP

/-- Send a frame on a ring: out of EAST for the primary ring, out of WEST for the secondary. A broadcast or TICK is never turned (R321);
another frame at a wrapped link leaves on the other ring with `WRAPPED` = 1 (R324). -/
def State.ringSend (s : State) (l : Link) (b : List Byte) (hops : Nat) (wrapped : Bool) (slot : Option Nat) : State :=
  if s.ringOpen l then s.linkSend l ⟨hopFrame b hops wrapped l.val, slot, decide (1 < hops)⟩
  else if frBcast b || frType b == 0 then s
  else if s.ringOpen (otherRing l) then s.linkSend (otherRing l) ⟨hopFrame b hops true (otherRing l).val, slot, decide (1 < hops)⟩
  else s

/-- This node as SRC: 0x7F while it holds no index. -/
def State.srcNode (s : State) : Nat := if s.assigned then s.node else 0x7F

/-- Send a unicast frame on the primary ring. -/
def State.sendTo (s : State) (typ dest tag : Nat) (payload : List Byte) : State :=
  s.ringSend 0 (mkFrame typ false dest s.srcNode tag payload) 1 false none

/-- Send a broadcast on both rings with the next broadcast number (R321). -/
def State.broadcast (s : State) (typ : Nat) (payload : List Byte) : State :=
  let b := mkFrame typ true 0 s.srcNode s.fleet.seq payload
  let s := (s.ringSend 0 b 1 false none).ringSend 1 b 1 false none
  s.modFleet fun f => { f with seq := (f.seq + 1) % 128 }

/-! ### Transmit records (R333) -/

/-- Store offset of a transmit record. -/
def txfAt (slot : Nat) : Nat := 0xB8000 + 512 * (slot % 64)

/-- Write `STATUS` of a transmit record, and its CRC-16 (Table 13.5). -/
def State.txfStatus (s : State) (slot status : Nat) : State :=
  let s := s.stPut (txfAt slot + 269) 1 status
  s.stPut (txfAt slot + 510) 2 (crc16 (s.stRead (txfAt slot) 510))

/-- A transmit record reaches an outcome: 2 SENT, 3 CORRUPT, 4 REFUSED. -/
def State.txfEnd (s : State) (slot status : Nat) : State := (s.txfStatus slot status).raise pFLEET FLEET.PG_EVT_TX_DONE

/-! ### Link words and the window (R322) -/

/-- Link sequence last accepted on a link. -/
def State.lastSeq (s : State) (l : Link) : Nat := (s.fld (pHG l) HG.WINDOW_RX_EXPECT + 15) % 16

/-- Send an acknowledgement, or a NAK. -/
def State.linkWord (s : State) (l : Link) (nak : Bool) : State :=
  let s := s.when nak fun s => s.bump (pHG l) HG.ARQ_NAK 1
  s.modLink l fun k => { k with word := some (s.lastSeq l, nak, false) }

/-- Errors of a link in its present window (Table 13.4). -/
def State.linkErr (s : State) (l : Link) (f : Fld) (n : Nat) : State :=
  let s := (s.bump (pHG l) f n).modLink l fun k => { k with errs := k.errs + n }
  s.put (pHG l) HG.RETIRE_INFO_WIN_ERRS (min 31 (s.link l).errs)

/-- A frame of the window is acknowledged: its transmit record is SENT, with the header it went out with (R333); the ATTN of an `EVT` frame of this node counts as known to the manager it went to (R50, R323; log entry 93). -/
def State.acked (s : State) (f : TxF) : State :=
  let s := if frType f.bytes = 9 ∧ frSrc f.bytes = s.srcNode then
      s.modFleet fun t => { t with attnAcked := bitAt (byteAt f.bytes 8) 1, attnMgr := some (frDest f.bytes) } else s
  match f.slot with
  | some r => (s.stWrite (txfAt r) (f.bytes.take 8)).txfEnd r 2
  | none => s

/-- A cumulative acknowledgement of a sequence: every frame up to it leaves the window. -/
def State.takeAck (s : State) (l : Link) (ack : Nat) : State :=
  let win := (s.link l).win
  match win.findIdx? fun f => frSeq f.bytes == ack % 16 with
  | none => s
  | some i =>
    let s := (win.take (i + 1)).foldl State.acked s
    let s := s.modLink l fun k => { k with win := win.drop (i + 1) }
    let s := (s.put (pHG l) HG.WINDOW_TX_OLDEST (ack + 1)).put (pHG l) HG.WINDOW_OUTSTANDING (win.length - (i + 1))
    s.drain l

/-- Go back: every unacknowledged frame is sent again, oldest first. -/
def State.goBack (s : State) (l : Link) : State :=
  let n := (s.link l).win.length
  let s := s.modLink l fun k => { k with line := (k.win.getLast?.map fun (f : TxF) => onLine f.bytes).or k.line }
  if n = 0 then s else (s.bump (pHG l) HG.ARQ_RETX n).raise (pHG l) HG.PG_EVT_RETX

/-! ### Link states (Table 13.4) -/

/-- A ring node starts or ends wrapping at a link and broadcasts a WRAP frame (R324). -/
def State.setWrap (s : State) (l : Link) (b : Bool) : State :=
  if l = 2 ∨ s.role = .solo ∨ s.flag (pHG l) HG.PG_STAT_WRAP = b then s
  else
    let s := (s.putB (pHG l) HG.PG_STAT_WRAP b).raise (pHG l) (if b then HG.PG_EVT_WRAP else HG.PG_EVT_UNWRAP)
    let was := s.fleet.wraps
    let now := if b then (s.srcNode, l.val) :: was else was.filter (· != (s.srcNode, l.val))
    let s := s.modFleet fun f => { f with wraps := now }
    let s := s.putB pFLEET FLEET.PG_STAT_RING_WRAPPED (!now.isEmpty)
    let s := (s.raiseIf (was.isEmpty && !now.isEmpty) pFLEET FLEET.PG_EVT_RING_WRAP).raiseIf (!was.isEmpty && now.isEmpty)
      pFLEET FLEET.PG_EVT_RING_WHOLE
    s.broadcast 2 (leBytes 4 (s.srcNode % 128 + 256 * l.val + 512 * b.toNat))

/-- Unacknowledged and waiting frames are discarded when a link leaves UP (R323); their transmit records end REFUSED (DEDUCED, log entry
41). -/
def State.dropWindow (s : State) (l : Link) : State :=
  let k := s.link l
  let s := s.modLink l fun k => { k with win := [], queue := [] }
  let s := (s.put (pHG l) HG.WINDOW_OUTSTANDING 0).put (pHG l) HG.WINDOW_TX_OLDEST (s.fld (pHG l) HG.WINDOW_TX_NEXT)
  (k.win ++ k.queue).foldl (init := s) fun s f => match f.slot with
    | some r => s.txfEnd r 4
    | none => s

/-- A link enters a state other than UP. -/
def State.linkTo (s : State) (l : Link) (st : Nat) : State :=
  let up := s.linkUp l
  let s := s.put (pHG l) HG.PG_STAT_STATE st
  let s := if up then (s.dropWindow l).setWrap l true else s
  let s := if st = 1 then s else s.put (pHG l) HG.PG_STAT_LOCK 0
  if st = 3 then s.raise (pHG l) HG.PG_EVT_DOWN else if st = 4 then s.raise (pHG l) HG.PG_EVT_RETIRED else s

/-- Retire a link: cause 1 ERRORS, 2 LOCK, 3 FIRMWARE. -/
def State.linkRetire (s : State) (l : Link) (cause : Nat) : State :=
  ((s.linkTo l 4).put (pHG l) HG.RETIRE_INFO_CAUSE cause).put (pHG l) HG.RETIRE_INFO_PROBES 0

/-- A link whose window has seen more errors than `ERR_LIMIT` is retired (Table 13.4). -/
def State.errLimit (s : State) (l : Link) : State :=
  if s.linkUp l ∧ max 1 (s.fld (pHG l) HG.CFG_ERR_LIMIT) < (s.link l).errs then s.linkRetire l 1 else s

/-- A link loses its partner: it goes DOWN and, when lock is lost, sends FAULT on the same port (R324). -/
def State.linkLost (s : State) (l : Link) (locked : Bool) : State :=
  let s := if s.linkUp l then s.linkTo l 3 else s
  if locked then s
  else (s.put (pHG l) HG.PG_STAT_LOCK 0).modLink l fun k => { k with word := some (s.lastSeq l, false, true) }

/-- A link at a tick boundary: `ENABLE` (Table 13.4), the end or start of a wrap, the silence count, the error window. -/
def State.linkTick (s : State) (l : Link) : State :=
  let pg := pHG l
  let st := s.linkState l
  let s := if s.role = .solo then s
    else if s.enabled pg && st == 0 then (s.put pg HG.PG_STAT_STATE 1)
    else if !s.enabled pg && st != 0 then s.linkTo l 0
    else s
  let s := s.setWrap l (!s.linkUp l)
  let k := s.fld pg HG.PG_STAT_SILENT_TK
  let s := s.put pg HG.PG_STAT_SILENT_TK (min 255 (k + 1))
  let s := s.raiseIf (l = 2 && k == 2 && s.role != .solo) pg HG.PG_EVT_SILENT
  if s.tick % 200 = 0 then (s.modLink l fun k => { k with errs := 0 }).put pg HG.RETIRE_INFO_WIN_ERRS 0 else s

/-! ### Receiving (R319-R322) -/

/-- A frame is delivered to this node for the command that handles its type. -/
def State.deliver (s : State) (via : Nat) (b : List Byte) : State :=
  s.modFleet fun f => { f with inbox := f.inbox ++ [⟨via, b, s.tick⟩] }

/-- A broadcast is delivered when its TAG lies 1-63 ahead of the last one delivered from its source, or none was (R321). -/
def State.bcastNew (s : State) (b : List Byte) : Bool :=
  match s.fleet.lastTag.find? fun c => c.1 == frSrc b with
  | none => true
  | some c =>
    let d := (frTag b + 128 - c.2 % 128) % 128
    decide (1 ≤ d) && decide (d ≤ 63)

/-- Remember the TAG of a delivered broadcast. -/
def State.bcastSeen (s : State) (b : List Byte) : State :=
  s.modFleet fun f => { f with lastTag := (frSrc b, frTag b) :: f.lastTag.filter fun c => c.1 != frSrc b }

/-- The manager remembers which nodes it heard and when. -/
def State.hear (s : State) (src : Nat) : State :=
  s.modFleet fun f => { f with heard := (src, s.tick) :: f.heard.filter fun c => c.1 != src }

/-- A probe comes back: the segment has HOPS nodes, or HOPS / 2 + 1 when it was turned (R334). -/
def State.probeReturns (s : State) (b : List Byte) : State :=
  let n := if frWrapped b then frHops b / 2 + 1 else frHops b
  (s.put pFLEET FLEET.NODES_SEGMENT n).modFleet fun f => { f with probeBack := true }

/-- A frame of this node that came in on link `l` is back on the ring it was sent on, `ring`, or would be turned onto it here (R320). -/
def State.backOn (s : State) (l : Link) (ring : Link) : Bool :=
  let on : Link := if l = 1 then 0 else 1
  on == ring || !s.ringOpen on

/-- An accepted ring frame that came in on link `l`: removed, delivered, forwarded (R319-R321). EAST receives the secondary ring. -/
def State.ringTake (s : State) (l : Link) (b : List Byte) : State :=
  let ring : Nat := if l = 1 then 0 else 1
  let out : Link := if l = 1 then 0 else 1
  let s := s.hear (frSrc b)
  let own := s.assigned && frSrc b == s.node
  let onward := fun (s : State) =>
    if frHops b + 1 ≥ 127 then s else s.ringSend out b (frHops b + 1) (frWrapped b) none
  if typeOn l (frType b) = false then s.bump pFLEET FLEET.STATS_RXQ_DROP 1
  else if frType b = 0 then
    if own then s else onward (s.deliver ring b)
  else if frBcast b then
    if own then s
    else
      let s := if s.bcastNew b then (s.bcastSeen b).deliver ring b else s
      onward s
  else if frType b = 1 ∧ byteAt b 8 = 3 ∧ own then (if s.backOn l 0 then s.probeReturns b else onward s)
  else if frType b = 1 ∧ byteAt b 8 ≤ 1 then s.deliver ring b
  else if s.assigned && frDest b == s.node then s.deliver ring b
  else if own && s.backOn l 0 then s.bump pFLEET FLEET.STATS_NO_DEST 1
  else onward s

/-- HEDGEROW_FRAME_ARRIVE: a frame at the receiver of a link: header, payload and CRC-32 as they arrived, whether the end symbol aborts it,
the number of code or disparity errors in it, and whether its payload checked in the store: one that fails there is not acknowledged (R144). -/
def execHedgerowFrameArrive (l : Fin 3) (bytes : List Byte) (aborted : Bool) (codeErrs : Nat) (storeOk : Bool) (s : State) :
    Host.Outcome State Fault Refusal :=
  let pg := pHG l
  let n := bytes.length - 4
  let b := bytes.take n
  if s.phase ≠ .run ∧ s.phase ≠ .warm then .next s
  else if s.linkUp l = false ∨ aborted then .next s
  else if 0 < codeErrs then .next (((s.linkErr l HG.ERR_CNT_CODE codeErrs).linkWord l true).errLimit l)
  else if bytes.length < 12 ∨ crc8 (b.take 7) ≠ byteAt b 7 ∨ frLen b ≠ n - 8 ∨ 256 < frLen b ∨ frCrc b ≠ numAt bytes n 4 then
    .next (((s.linkErr l HG.ERR_CNT_FRAME 1).linkWord l true).errLimit l)
  else if frSeq b ≠ s.fld pg HG.WINDOW_RX_EXPECT then .next (s.linkWord l true)
  else if !storeOk then .next s
  else
    let s := ((s.put pg HG.WINDOW_RX_EXPECT (frSeq b + 1)).incr pg HG.RX_FRAMES_COUNT).put pg HG.PG_STAT_SILENT_TK 0
    let s := s.linkWord l false
    if l = 2 then
      .next (if typeOn 2 (frType b) then s.deliver 2 b else s.bump pFLEET FLEET.STATS_RXQ_DROP 1)
    else .next (s.ringTake l b)

/-- LINK_WORD_RECEIVE: the three data bytes of a link word (R316, R322, R324). -/
def execLinkWordReceive (l : Fin 3) (b1 b2 b3 : BitVec 8) (s : State) : Host.Outcome State Fault Refusal :=
  if s.phase ≠ .run ∧ s.phase ≠ .warm ∨ s.linkState l = 0 then .next s
  else if crc8 [b1, b2] ≠ b3.toNat then .next (if s.linkUp l then (s.linkErr l HG.ERR_CNT_FRAME 1).errLimit l else s)
  else
    let fault := b2.getLsbD 0
    let s := s.putB (pHG l) HG.PG_STAT_FAULT_RX fault
    if fault then .next (s.linkLost l true)
    else if s.linkUp l then
      let s := s.takeAck l (b1.toNat % 16)
      .next (if b1.getLsbD 4 then s.goBack l else s)
    else .next s

/-- ARQ_TIMEOUT: 4 µs without an acknowledgement (R322). -/
def execArqTimeout (l : Fin 3) (s : State) : Host.Outcome State Fault Refusal :=
  .next (if s.linkUp l then s.goBack l else s)

/-- LOSS_OF_LOCK: the receive pair loses lock, or (`fault`) FAULT arrives (R324). -/
def execLossOfLock (l : Fin 3) (fault : Bool) (s : State) : Host.Outcome State Fault Refusal :=
  if s.linkState l = 0 then .next s
  else .next ((if fault then s.put (pHG l) HG.PG_STAT_FAULT_RX 1 else s).linkLost l fault)

/-- LOCK_REGAINED (Table 13.4). -/
def execLockRegained (l : Fin 3) (s : State) : Host.Outcome State Fault Refusal :=
  .next (if s.linkState l = 3 then (s.linkTo l 1).put (pHG l) HG.PG_STAT_LOCK 1 else s)

/-- TRAINING_COMPLETE: the link is UP with its delay measured, 0.8 ns per LSB (R325); the wrap ends at the next tick boundary. The link
sequences start again at 0 (log entry 42). -/
def execTrainingComplete (l : Fin 3) (delay : BitVec 16) (s : State) : Host.Outcome State Fault Refusal :=
  let pg := pHG l
  if s.linkState l ≠ 1 then .next s
  else
    let s := ((s.put pg HG.PG_STAT_STATE 2).put pg HG.PG_STAT_LOCK 1).put pg HG.PG_STAT_FAULT_RX 0
    let s := (s.put pg HG.DELAY_LINK_DELAY delay.toNat).put pg ⟨0x30, 0, 16⟩ 0
    .next ((s.modLink l fun k => { k with win := [], queue := [], errs := 0, word := none, line := none }).raise pg HG.PG_EVT_UP)

/-- LINK_RETIRE_TIMEOUT: DOWN and TRAINING have lasted 1 ms together (Table 13.4). -/
def execLinkRetireTimeout (l : Fin 3) (s : State) : Host.Outcome State Fault Refusal :=
  .next (if s.linkState l = 1 ∨ s.linkState l = 3 then s.linkRetire l 2 else s)

/-- LINK_ERROR_LIMIT: `more` code errors outside frames have come; the link is retired when the window's errors exceed `ERR_LIMIT`. -/
def execLinkErrorLimit (l : Fin 3) (more : Nat) (s : State) : Host.Outcome State Fault Refusal :=
  if s.linkUp l then
    .next ((s.linkErr l HG.ERR_CNT_CODE more).errLimit l)
  else .next s

/-- A RETIRED link enters PROBING. -/
def State.probeLink (s : State) (l : Link) : State :=
  if s.linkState l = 4 then (s.linkTo l 5).bump (pHG l) HG.RETIRE_INFO_PROBES 1 else s

/-- REPROBE_TIMER: 1 s after retirement, and every 1 s after that (Table 13.4). -/
def execReprobeTimer (l : Fin 3) (s : State) : Host.Outcome State Fault Refusal := .next (s.probeLink l)

/-- PROBING_RESULT: lock and 10 ms without error, or 20 ms without that. -/
def execProbingResult (l : Fin 3) (clean : Bool) (s : State) : Host.Outcome State Fault Refusal :=
  .next (if s.linkState l = 5 then
      (if clean then (s.linkTo l 1).put (pHG l) HG.PG_STAT_LOCK 1 else s.linkTo l 4)
    else s)

/-- `HGx.CMD.RETIRE`. -/
def State.hgRetire (s : State) (l : Link) : State := if s.linkState l = 0 then s else s.linkRetire l 3

/-- `HGx.CMD.CLEAR_STATS`. -/
def State.hgClear (s : State) (l : Link) : State :=
  (((s.wr (pHG l) 0x28 0).wr (pHG l) 0x2C 0).wr (pHG l) 0x34 0).wr (pHG l) 0x38 0

/-- HG_CMD_RETIRE. -/
def execHgCmdRetire (l : Fin 3) (key : BitVec 16) (s : State) : Host.Outcome State Fault Refusal :=
  .next (s.keyCmd (pHG l) key.toNat 0x48E7 fun s => s.hgRetire l)

/-- HG_CMD_REPROBE. -/
def execHgCmdReprobe (l : Fin 3) (key : BitVec 16) (s : State) : Host.Outcome State Fault Refusal :=
  .next (s.keyCmd (pHG l) key.toNat 0x48E7 fun s => s.probeLink l)

/-- HG_CMD_CLEAR_STATS. -/
def execHgCmdClearStats (l : Fin 3) (key : BitVec 16) (s : State) : Host.Outcome State Fault Refusal :=
  .next (s.keyCmd (pHG l) key.toNat 0x48E7 fun s => s.hgClear l)

end Sys2Proof.Machine
end

