-- ==== Sys2Proof/Machine/Fleet.lean ====
section
/-!
DEFINITION. The fleet (chapter 13): enumeration, tick alignment, event frames, frames for engines, the standby manager and the hand-back, with
the commands of `FLEET` that need no other block.
-/

namespace Sys2Proof.Machine

/-- The first delivered frame that a test selects, and the state without it. -/
def State.takeFrame (s : State) (p : RxF → Bool) : Option (RxF × State) :=
  match s.fleet.inbox.find? p with
  | none => none
  | some f => some (f, s.modFleet fun t => { t with inbox := t.inbox.eraseP p })

/-- An `ENUM` frame of a kind (R326). -/
def isEnum (kind : Nat) (f : RxF) : Bool := frType f.bytes == 1 && byteAt f.bytes 8 == kind

/-- Use a delivered frame; with none waiting the command changes nothing. -/
def State.withFrame (s : State) (p : RxF → Bool) (f : RxF → State → State) : State :=
  match s.takeFrame p with
  | none => s
  | some (r, s) => f r s

/-! ### Enumeration (R326, R327) -/

/-- The index a node asks for in FIXED mode; above 0x3F it acts as 0x3F. -/
def State.fixedIdx (s : State) : Nat := min (s.fld pFLEET FLEET.CFG_FIXED_IDX) 0x3F

/-- The lowest index clear in a map of 64. -/
def lowestClear (map : Nat) : Option Nat := (List.range 64).find? fun i => !bitAt map i

/-- The node takes an index: the first broadcast after that is always delivered (R321). -/
def State.takeIndex (s : State) (i : Nat) : State :=
  (((s.put pID ID.NODE_INDEX i).put pID ID.NODE_ASSIGNED 1).put pFLEET FLEET.PG_STAT_IDX_CONFLICT 0).modFleet fun f => { f with lastTag := [] }

/-- Index taken from a map, and the map with it set. -/
def State.claimIndex (s : State) (map : Nat) : State × Nat :=
  if s.assigned then (s, setBits map s.node 1 1)
  else if s.flag pFLEET FLEET.CFG_INDEX_MODE then
    if bitAt map s.fixedIdx then ((s.put pFLEET FLEET.PG_STAT_IDX_CONFLICT 1).raise pFLEET FLEET.PG_EVT_IDX_CONFLICT, map)
    else (s.takeIndex s.fixedIdx, setBits map s.fixedIdx 1 1)
  else match lowestClear map with
    | some i => (s.takeIndex i, setBits map i 1 1)
    | none => (s, map)

/-- Payload of ASSIGN and CAL: kind, standby index gathered on the way (log entry 43), cumulative delay, map. -/
def enumPayload (kind stby cum map : Nat) : List Byte :=
  leBytes 1 kind ++ leBytes 1 stby ++ leBytes 2 0 ++ leBytes 4 cum ++ leBytes 8 map

/-- The manager starts an enumeration (R326, step 1). -/
def State.enumerate (s : State) : State :=
  let s := if s.assigned then s
    else s.takeIndex (if s.flag pFLEET FLEET.CFG_INDEX_MODE then s.fixedIdx else 0)
  s.ringSend 0 (mkFrame 1 false s.node s.node 0 (enumPayload 0 0x7F 0 (2 ^ s.node))) 1 false none

/-- The manager enumerates only while it is the acting manager of a fleet. -/
def State.mayEnumerate (s : State) : Bool := s.acting == .manager && s.role != .solo

/-- Receiving link of a frame by the ring it came on. -/
def viaLink (via : Nat) : Link := if via = 0 then 1 else if via = 1 then 0 else 2

/-- Delay of the receiving link (R325). -/
def State.viaDelay (s : State) (via : Nat) : Nat := s.fld (pHG (viaLink via)) HG.DELAY_LINK_DELAY

/-- Regenerate an `ENUM` frame on the path it came by. -/
def State.regenerate (s : State) (f : RxF) (payload : List Byte) : State :=
  let out : Link := if f.via = 0 then 0 else 1
  let b := f.bytes.take 8 ++ payload
  if frHops f.bytes + 1 ≥ 127 then s else s.ringSend out b (frHops f.bytes + 1) (frWrapped f.bytes) none

/-- Take DONE: loop delays, count, standby, map, manager (R326, step 5). -/
def State.takeDone (s : State) (src : Nat) (p : List Byte) : State :=
  let s := (s.put pFLEET FLEET.LOOP_P_LOOP (numAt p 4 4)).put pFLEET FLEET.LOOP_S_LOOP (numAt p 8 4)
  let s := ((s.put pFLEET FLEET.NODES_COUNT (byteAt p 12)).put pFLEET FLEET.NODES_STBY (byteAt p 13)).put pFLEET FLEET.NODES_MGR src
  let s := (s.put pFLEET (FLEET.ENUM_MAP_NODES.at 0) (numAt p 16 4)).put pFLEET (FLEET.ENUM_MAP_NODES.at 1) (numAt p 20 4)
  if s.assigned then (s.put pFLEET FLEET.PG_STAT_ENUM_DONE 1).raise pFLEET FLEET.PG_EVT_ENUM_DONE else s

/-- `TICK_ALIGNED` is set or cleared (R329). -/
def State.setAligned (s : State) (b : Bool) : State :=
  if s.flag pFLEET FLEET.PG_STAT_TICK_ALIGNED = b then s
  else
    let s := (s.putB pFLEET FLEET.PG_STAT_TICK_ALIGNED b).raise pFLEET (if b then FLEET.PG_EVT_ALIGNED else FLEET.PG_EVT_ALIGN_LOST)
    (if b then s.put pCLK CLK.TICK_ADJ_COUNT 0 else s).modFleet fun f => { f with good := 0, late := 0 }

/-- Number of nodes in a map. -/
def countBits (map : Nat) : Nat := ((List.range 64).filter fun i => bitAt map i).length

/-- ASSIGN at a node, or back at the manager on its WEST receiver (R326, steps 2-4); on its way along a chain it passes the manager once more. -/
def State.onAssign (s : State) (f : RxF) : State :=
  let p := frPayload f.bytes
  let cum := numAt p 4 4 + s.viaDelay f.via
  let map := numAt p 8 8
  if s.assigned && frSrc f.bytes == s.node && s.backOn (viaLink f.via) 0 then
    let s := s.put pFLEET FLEET.LOOP_P_LOOP cum
    s.ringSend 1 (mkFrame 1 false s.node s.node 0 (enumPayload 1 (byteAt p 1) 0 map)) 1 false none
  else if !s.flag pFLEET FLEET.CFG_JOIN then s.regenerate f p
  else
    let (s, map) := s.claimIndex map
    if !s.assigned then s.regenerate f (enumPayload 0 (byteAt p 1) (cum + 130) map)
    else
      let s := if f.via = 0 ∧ frWrapped f.bytes = false then
          (s.put pFLEET FLEET.DELAY_P_DELAY cum).put pFLEET FLEET.DELAY_P_VALID 1
        else s
      s.regenerate f (enumPayload 0 (if s.role = .standby then s.node else byteAt p 1) (cum + 130) map)

/-- CAL at a node, or back at the manager, which broadcasts DONE (R326, steps 4-5); the manager's enumeration ends, so that it is aligned
(R329). -/
def State.onCal (s : State) (f : RxF) : State :=
  let p := frPayload f.bytes
  let cum := numAt p 4 4 + s.viaDelay f.via
  let map := numAt p 8 8
  if s.assigned && frSrc f.bytes == s.node && s.backOn (viaLink f.via) 1 then
    let s := s.put pFLEET FLEET.LOOP_S_LOOP cum
    let done := leBytes 4 2 ++ leBytes 4 (s.fld pFLEET FLEET.LOOP_P_LOOP) ++ leBytes 4 cum ++ leBytes 1 (countBits map) ++
      leBytes 1 (byteAt p 1) ++ leBytes 2 0 ++ leBytes 8 map
    ((s.broadcast 1 done).takeDone s.node done).setAligned true
  else if !s.flag pFLEET FLEET.CFG_JOIN then s.regenerate f p
  else
    let s := if s.assigned ∧ f.via = 1 ∧ frWrapped f.bytes = false then
        (s.put pFLEET FLEET.DELAY_S_DELAY cum).put pFLEET FLEET.DELAY_S_VALID 1
      else s
    s.regenerate f (enumPayload 1 (byteAt p 1) (cum + 130) map)

/-- `FLEET.CMD.ENUMERATE`: the acting manager runs R326; ignored elsewhere. -/
def State.enumerateCmd (s : State) : State := if s.mayEnumerate then s.enumerate else s

/-- FLEET_CMD_ENUMERATE. -/
def execFleetCmdEnumerate (key : BitVec 16) (s : State) : Host.Outcome State Fault Refusal :=
  .next (s.keyCmd pFLEET key.toNat 0x8B2F State.enumerateCmd)

/-- ENUM_ASSIGN: the waiting ASSIGN frame. -/
def execEnumAssign (s : State) : Host.Outcome State Fault Refusal :=
  .next (s.withFrame (isEnum 0) fun f s => s.onAssign f)

/-- ENUM_CAL: the waiting CAL frame. -/
def execEnumCal (s : State) : Host.Outcome State Fault Refusal :=
  .next (s.withFrame (isEnum 1) fun f s => s.onCal f)

/-- ENUM_DONE: the waiting DONE frame. -/
def execEnumDone (s : State) : Host.Outcome State Fault Refusal :=
  .next (s.withFrame (isEnum 2) fun f s => s.takeDone (frSrc f.bytes) (frPayload f.bytes))

/-- ENUM_JOIN_REQ: the acting manager enumerates on a JOIN_REQ it received; a node that has set `JOIN` and hears TICK frames sends one. -/
def execEnumJoinReq (s : State) : Host.Outcome State Fault Refusal :=
  if s.mayEnumerate then .next (s.withFrame (isEnum 6) fun _ s => s.enumerate)
  else match s.fleet.mgrSeen with
    | some m => .next (if s.flag pFLEET FLEET.CFG_JOIN && s.role != .solo then s.sendTo 1 m 0 (leBytes 4 6) else s)
    | none => .next s

/-! ### Tick alignment (R328, R329) -/

/-- A running distribution ends FAILED (Table 18.6). -/
def State.distFail (s : State) : State :=
  match s.upd.dist with
  | none => s
  | some _ => ({ s with upd := { s.upd with dist := none } }).put pUPD UPD.DIST_STAT_STATE 6 |>.raise pUPD UPD.PG_EVT_DIST_DONE

/-- Stop acting as manager: back to STANDBY, no TICK any more (R335); a distribution ends. -/
def State.standDown (s : State) : State :=
  let s := s.distFail
  ((s.put pSYS SYS.PG_STAT_ACTING 2).put pFLEET FLEET.PG_STAT_ACTING_MGR 0).modFleet fun f => { f with
    stopTick := false, handback := none, returned := none, forceTko := false }

/-- A node takes a TICK frame: `err`, the arrival's distance from the expected boundary in 0.8 ns (R328). Before alignment the tick number is
loaded; four frames in a row within 250 ns align the node, two outside it lose the alignment (R329). The primary frame of a number
replaces the secondary one without being counted again. -/
def State.takeTick (s : State) (f : RxF) (err : Int) : State :=
  let num := numAt (frPayload f.bytes) 0 6
  let prim := f.via == 0 && !frWrapped f.bytes
  let again : Option Bool := match s.fleet.taken with
    | some (n, p) => if n = num then some p else none
    | none => none
  let s := (s.put pFLEET FLEET.PHASE_MISSED 0).put pFLEET FLEET.STBY_STAT_SILENT 0
  let s := s.modFleet fun t => { t with mgrSeen := some (frSrc f.bytes), probeBack := false }
  if again = some true ∨ (again = some false ∧ !prim) then s
  else
    let s := (s.put pFLEET FLEET.PHASE_ERROR (unsigned 16 err)).putB pFLEET FLEET.PHASE_VIA (!prim)
    let s := s.modFleet fun t => { t with taken := some (num, prim) }
    if again.isSome ∨ !s.flag pFLEET FLEET.PG_STAT_ENUM_DONE then s
    else
      let close := decide (err.natAbs * 8 ≤ 2500)
      let s := s.modFleet fun t => { t with good := if close then t.good + 1 else 0, late := if close then 0 else t.late + 1 }
      if s.flag pFLEET FLEET.PG_STAT_TICK_ALIGNED then
        let adj := max (-25) (min 25 ((if 0 ≤ err then 2 * err + 12 else 2 * err - 12).tdiv 25))
        let s := if adj = 0 then s else (s.put pCLK CLK.TICK_ADJ_ADJ (unsigned 8 adj)).bump pCLK CLK.TICK_ADJ_COUNT 1
        let s := s.modFleet fun t => { t with nextAdj := adj }
        if 2 ≤ s.fleet.late then s.setAligned false else s
      else
        let s := s.setTick num
        if 4 ≤ s.fleet.good then s.setAligned true else s

/-- TICK_FRAME_RECEIVE: the waiting TICK frame. Two acting managers that hear each other resolve it by their straps, and a MANAGER that hears
another within eight boundaries of its entry defers to it (R335). -/
def execTickFrameReceive (err : Int) (s : State) : Host.Outcome State Fault Refusal :=
  .next (s.withFrame (fun f => frType f.bytes == 0) fun f s =>
    let src := frSrc f.bytes
    if s.acting == .manager then
      if s.role = .manager then
        if 0 < s.fleet.entryLeft then
          let s := (s.standDown.put pFLEET FLEET.PG_STAT_DEFERRED 1).put pFLEET FLEET.NODES_MGR src
          s.takeTick f err
        else s
      else s.modFleet fun t => { t with stopTick := true, mgrSeen := some src }
    else if s.flag pFLEET FLEET.PG_STAT_ENUM_DONE && s.fld pFLEET FLEET.NODES_MGR != src then s
    else s.takeTick f err)

/-- The payload of a TICK frame: the tick that begins, and the offset of the frame after its boundary in 0.8 ns (Table 13.3). -/
def tickPayload (tick off : Nat) : List Byte := leBytes 6 tick ++ leBytes 2 off

/-- The acting manager sends TICK on both rings (R328). -/
def State.sendTick (s : State) (off : Nat) : State :=
  let b := mkFrame 0 true 0 s.srcNode 0 (tickPayload s.tick off)
  (s.ringSend 0 b 1 false none).ringSend 1 b 1 false none

/-- `REACH` of the acting manager: nodes heard within the last 16 ticks. -/
def State.reachTick (s : State) : State :=
  if !s.mayEnumerate then s
  else
    let now := fun i => i == s.node || s.fleet.heard.any fun c => c.1 == i && decide (s.tick ≤ c.2 + 16)
    let was := fun i => s.mapBit pFLEET FLEET.REACH_NODES i
    let nodes := (List.range 64).filter fun i => s.mapBit pFLEET FLEET.ENUM_MAP_NODES i
    let s1 := nodes.foldl (init := s) fun t i => t.setMapBit pFLEET FLEET.REACH_NODES i (now i)
    (s1.raiseIf (nodes.any fun i => was i && !now i) pFLEET FLEET.PG_EVT_NODE_LOST).raiseIf
      (nodes.any fun i => !was i && now i) pFLEET FLEET.PG_EVT_NODE_SEEN

/-- The acting standby hands back at this boundary (R335): `LEDGER` has gone to the deferred manager for a placement period. -/
def State.handbackDue (s : State) : Bool :=
  match s.fleet.handback, s.fleet.returned with
  | some t0, some _ => s.acting == .manager && s.role != .manager && s.tick % 200 == 0 && decide (t0 + 200 ≤ s.tick)
  | _, _ => false

/-- The fleet at a tick boundary: links, missed TICK frames (R329), the standby's silence count and probes (R334), the manager's TICK. `off`:
offset at which the TICK frame leaves. -/
def State.fleetTick (s : State) (off : Nat) : State :=
  let s := ([0, 1, 2] : List Link).foldl State.linkTick s
  let s := (s.put pCLK CLK.PHASE_LENGTH (5000 + s.fleet.nextAdj).toNat).modFleet fun f => { f with nextAdj := 0 }
  if s.role = .solo then s.put pFLEET FLEET.PG_STAT_TICK_ALIGNED 1
  else
    let s := if s.fleet.stopTick then s.standDown else s
    let s := s.modFleet fun f => { f with entryLeft := f.entryLeft - 1 }
    if s.acting == .manager then
      let s := s.put pFLEET FLEET.PG_STAT_ACTING_MGR 1
      (if s.handbackDue then s else s.sendTick off).reachTick
    else
      let s := s.bump pFLEET FLEET.PHASE_MISSED 1
      let s := if s.fld pFLEET FLEET.PHASE_MISSED = 10 then s.setAligned false else s
      if s.acting == .standby then
        let s := s.bump pFLEET FLEET.STBY_STAT_SILENT 1
        let s := s.modFleet fun f => { f with probeOk := f.probeBack, probeBack := false }
        if 6 ≤ s.fld pFLEET FLEET.STBY_STAT_SILENT then
          s.ringSend 0 (mkFrame 1 false s.srcNode s.srcNode 0 (leBytes 4 3)) 1 false none
        else s
      else s

/-! ### Wrap reports -/

/-- WRAP_FRAME_RECEIVE: the waiting WRAP frame; the manager enumerates when a link is whole again (R324, R326). -/
def execWrapFrameReceive (s : State) : Host.Outcome State Fault Refusal :=
  .next (s.withFrame (fun f => frType f.bytes == 2) fun f s =>
    let p := numAt (frPayload f.bytes) 0 4
    let e := (bitsOf p 0 7, bitsOf p 8 1)
    let on := bitAt p 9
    let was := s.fleet.wraps
    let now := if on then e :: was.filter (· != e) else was.filter (· != e)
    let s := s.modFleet fun t => { t with wraps := now }
    let s := s.putB pFLEET FLEET.PG_STAT_RING_WRAPPED (!now.isEmpty)
    let s := (s.raiseIf (was.isEmpty && !now.isEmpty) pFLEET FLEET.PG_EVT_RING_WRAP).raiseIf (!was.isEmpty && now.isEmpty)
      pFLEET FLEET.PG_EVT_RING_WHOLE
    if !on && s.mayEnumerate then s.enumerate else s)

/-! ### Event frames (R50, R323) -/

/-- An `EVT` frame of this node is on its way. -/
def State.evtInFlight (s : State) : Bool :=
  ([0, 1] : List Link).any fun l => ((s.link l).win ++ (s.link l).queue).any fun f =>
    frType f.bytes == 9 && frSrc f.bytes == s.srcNode && frDest f.bytes == s.fld pFLEET FLEET.NODES_MGR && bitAt (byteAt f.bytes 8) 1 == s.attn

/-- What this node has to tell of ATTN (R50): it differs from what was last acknowledged, or another manager acknowledged it (log entry 93). -/
def State.attnOwed (s : State) : Bool :=
  s.attn != s.fleet.attnAcked || (s.fleet.attnMgr.any fun m => m != s.fld pFLEET FLEET.NODES_MGR)

/-- EVT_FRAME_SEND: a WORKER or STANDBY that has to tell of ATTN sends `NODE_SUM` (R50). -/
def execEvtFrameSend (s : State) : Host.Outcome State Fault Refusal :=
  if s.live && s.assigned && (s.acting == .worker || s.acting == .standby) && s.attnOwed && !s.evtInFlight then
    .next (s.sendTo 9 (s.fld pFLEET FLEET.NODES_MGR) 0 (leBytes 4 s.nodeSum))
  else .next s

/-! ### Frames for engines (R333) -/

/-- Slot, class and task register of an engine frame type (Table 13.3). -/
def engineFrame (typ : Nat) : Option (Nat × Nat × Nat) :=
  match typ with
  | 0x6 => some (96, 4, 0x6C)
  | 0x7 => some (97, 2, 0x70)
  | 0x8 => some (98, 2, 0x74)
  | 0xA => some (99, 5, 0x78)
  | 0xB => some (100, 5, 0x7C)
  | 0xC => some (101, 2, 0x80)
  | 0xD => some (102, 2, 0x84)
  | _ => none

/-- Store offset of a receive entry. -/
def rxfAt (i : Nat) : Nat := 0xB0000 + 512 * (i % 64)

/-- Bytes of a list, filled with zeros to a length. -/
def padTo (n : Nat) (bs : List Byte) : List Byte := bs.take n ++ List.replicate (n - bs.length) 0

/-- A receive entry (Table 13.5) without its CRC. -/
def rxEntry (f : RxF) : List Byte :=
  padTo 8 f.bytes ++ padTo 256 (frPayload f.bytes) ++ leBytes 4 f.tick ++ leBytes 1 f.via ++ leBytes 1 0 ++ List.replicate 240 0

/-- An engine frame goes into the receive queue and its slot is posted with `ARG` = `RXQ_WR`, which has advanced (R333; log entry 44); into a full queue it is
dropped. -/
def State.rxqPut (s : State) (f : RxF) (slot cls task : Nat) : State :=
  let w := s.fld pFLEET FLEET.RXQ_WR_INDEX
  if (w + 1) % 64 = s.fld pFLEET FLEET.RXQ_RD_INDEX then
    (s.bump pFLEET FLEET.STATS_RXQ_DROP 1).raise pFLEET FLEET.PG_EVT_RXQ_FULL
  else
    let s := (s.stRecord (rxfAt w) (rxEntry f)).put pFLEET FLEET.RXQ_WR_INDEX (w + 1)
    s.postGlobal slot cls false (s.rd pFLEET task).toNat ((w + 1) % 64)

/-- ENGINE_FRAME_DELIVER: the waiting engine frame goes into the receive queue; a GRANT has its own row, which renews the lease as well. -/
def execEngineFrameDeliver (s : State) : Host.Outcome State Fault Refusal :=
  .next (s.withFrame (fun f => (engineFrame (frType f.bytes)).isSome && frType f.bytes != 7) fun f s =>
    match engineFrame (frType f.bytes) with
    | none => s
    | some (slot, cls, task) => s.rxqPut f slot cls task)

/-- The payload of a receive entry. -/
def State.rxPayload (s : State) (i : Nat) : List Byte :=
  s.stRead (rxfAt i + 8) (min 256 (bitsOf (s.stNat (rxfAt i + 3) 2) 0 9))

/-- The source of a receive entry. -/
def State.rxSrc (s : State) (i : Nat) : Nat := bitsOf (s.stNat (rxfAt i + 2) 1) 0 7

/-- The type of a receive entry. -/
def State.rxType (s : State) (i : Nat) : Nat := bitsOf (s.stNat (rxfAt i) 1) 0 4

/-- The port a receive entry came by: 0 primary, 1 secondary, 2 TIE. -/
def State.rxVia (s : State) (i : Nat) : Nat := s.stNat (rxfAt i + 268) 1

/-- Firmware has used the receive entry and releases it. -/
def State.rxRelease (s : State) (i : Nat) : State :=
  if s.fld pFLEET FLEET.RXQ_RD_INDEX = i % 64 then s.put pFLEET FLEET.RXQ_RD_INDEX (i + 1) else s

/-- Queue a transmit record (R333): checked, refused, or sent on its port. -/
def State.txfReq (s : State) (slot : Nat) : State :=
  let a := txfAt slot
  let b := s.stRead a 8
  let via := s.stNat (a + 268) 1
  let typ := frType b
  let okType := (via == 0 && typeOn 0 typ || via == 2 && typeOn 2 typ) && (engineFrame typ).isSome
  let up := if via = 2 then s.linkUp 2 else s.ringOpen 0 || s.ringOpen 1
  if s.stNat (a + 269) 1 ≠ 0 then s
  else if !s.stChecks a 512 then (s.stNote 3 a 512).txfEnd slot 3
  else if !okType || !up || decide (256 < frLen b) then s.txfEnd slot 4
  else
    let s := ((s.stPut (a + 2) 1 (s.srcNode % 128)).stPut (a + 5) 1 1).txfStatus slot 1
    let f := mkFrame typ (frBcast b) (if via = 2 then 0x7F else frDest b) s.srcNode (frTag b) (s.stRead (a + 8) (frLen b))
    if via = 2 then s.linkSend 2 ⟨hopFrame f 1 false 0, some slot, false⟩
    else if frBcast b then
      let s := s.modFleet fun t => { t with seq := (frTag b + 1) % 128 }
      if s.ringOpen 0 then (s.ringSend 0 f 1 false (some slot)).ringSend 1 f 1 false none
      else s.ringSend 1 f 1 false (some slot)
    else s.ringSend 0 f 1 false (some slot)

/-- FLEET_TX_REQ: a write of `FLEET.TX_REQ`. -/
def execFleetTxReq (slot : Fin 64) (s : State) : Host.Outcome State Fault Refusal :=
  .next (s.cmd pFLEET fun s => s.txfReq slot.val)

/-- Firmware fills a transmit record and queues it. -/
def State.sendEngine (s : State) (slot typ : Nat) (bcast : Bool) (dest via tag : Nat) (payload : List Byte) : State :=
  let body := padTo 8 (mkFrame typ bcast dest 0 tag payload) ++ padTo 256 payload ++ leBytes 4 0 ++ leBytes 1 via ++ leBytes 1 0 ++
    List.replicate 240 0
  (s.stRecord (txfAt slot) body).txfReq slot

/-! ### The standby manager (R334, R335) -/

/-- D − D0 modulo a loop delay. -/
def loopSub (d d0 loop : Nat) : Nat := if loop = 0 then d - d0 else (d + loop - d0 % loop) % loop

/-- Payload of TAKEOVER: kind, index, two delays, first tick of the named node (layout: log entry 45). -/
def tkoPayload (idx dp ds tick : Nat) : List Byte :=
  leBytes 1 4 ++ leBytes 1 idx ++ leBytes 2 0 ++ leBytes 4 dp ++ leBytes 4 ds ++ leBytes 6 tick

/-- The node adopts a manager: its calibrated delays become delays from that node (R335). -/
def State.adopt (s : State) (mgr dp ds : Nat) : State :=
  let s := s.put pFLEET FLEET.NODES_MGR mgr
  let s := s.put pFLEET FLEET.DELAY_P_DELAY (loopSub (s.fld pFLEET FLEET.DELAY_P_DELAY) dp (s.fld pFLEET FLEET.LOOP_P_LOOP))
  s.put pFLEET FLEET.DELAY_S_DELAY (loopSub (s.fld pFLEET FLEET.DELAY_S_DELAY) ds (s.fld pFLEET FLEET.LOOP_S_LOOP))

/-- The standby may take over: eight silent boundaries, and its last probe shows a majority or the fleet has at most two nodes; or it was
ordered to (R334). -/
def State.mayTakeOver (s : State) : Bool :=
  s.acting == .standby && (s.fleet.forceTko ||
    (decide (8 ≤ s.fld pFLEET FLEET.STBY_STAT_SILENT) &&
      ((s.fleet.probeOk && decide (s.fld pFLEET FLEET.NODES_COUNT < 2 * s.fld pFLEET FLEET.NODES_SEGMENT)) ||
        decide (s.fld pFLEET FLEET.NODES_COUNT ≤ 2))))

/-- Take over (R334): `ACTING` MANAGER, TAKEOVER on both rings with its index and delays, TICK from this boundary on. -/
def State.takeOver (s : State) : State :=
  let dp := s.fld pFLEET FLEET.DELAY_P_DELAY
  let ds := s.fld pFLEET FLEET.DELAY_S_DELAY
  let s := (s.put pSYS SYS.PG_STAT_ACTING 3).raise pFLEET FLEET.PG_EVT_TAKEOVER
  let s := s.broadcast 1 (tkoPayload s.node dp ds s.tick)
  let s := s.modFleet fun f => { f with forceTko := false, stopTick := false, mgrDelay :=
    (loopSub 0 dp (s.fld pFLEET FLEET.LOOP_P_LOOP), loopSub 0 ds (s.fld pFLEET FLEET.LOOP_S_LOOP)) }
  (((s.adopt s.node dp ds).put pFLEET FLEET.PG_STAT_ACTING_MGR 1).put pFLEET FLEET.PG_STAT_DEFERRED 0).sendTick 0

/-- TAKEOVER_RECEIVE: the waiting TAKEOVER frame. A deferred manager that it names sends TICK again (R335). -/
def execTakeoverReceive (s : State) : Host.Outcome State Fault Refusal :=
  .next (s.withFrame (isEnum 4) fun f s =>
    let p := frPayload f.bytes
    let m := byteAt p 1
    let s := s.adopt m (numAt p 4 4) (numAt p 8 4)
    if s.assigned && m == s.node then
      (((s.put pSYS SYS.PG_STAT_ACTING 3).put pFLEET FLEET.PG_STAT_DEFERRED 0).put pFLEET FLEET.PG_STAT_ACTING_MGR 1).sendTick 0
    else if s.acting == .manager && s.role != .manager then s.modFleet fun t => { t with stopTick := true }
    else s)

/-- ENUM_RETURN: the deferred manager sends RETURN to the acting manager; the acting standby that receives one begins the hand-back when
`CFG.HANDBACK` = 1 (R335). -/
def execEnumReturn (s : State) : Host.Outcome State Fault Refusal :=
  if s.flag pFLEET FLEET.PG_STAT_DEFERRED then
    match s.fleet.mgrSeen with
    | some m => .next (s.sendTo 1 m 0 (leBytes 4 5))
    | none => .next s
  else .next (s.withFrame (isEnum 5) fun f s =>
    let go := s.flag pFLEET FLEET.CFG_HANDBACK && s.role != .manager
    s.modFleet fun t => { t with
      returned := some (frSrc f.bytes)
      handback := if go then some (t.handback.getD s.tick) else t.handback })

/-- HANDBACK: at a multiple of 200 ticks, after one full placement period of LEDGER to the deferred manager (R335). -/
def execHandback (s : State) : Host.Outcome State Fault Refusal :=
  match s.fleet.returned with
  | some m =>
    if s.handbackDue then
      let d := s.fleet.mgrDelay
      let s := s.broadcast 1 (tkoPayload m d.1 d.2 s.tick)
      .next (((s.adopt m d.1 d.2).standDown).raise pFLEET FLEET.PG_EVT_HANDBACK)
    else .next s
  | none => .next s

/-- `FLEET.CMD.TAKEOVER`: a standby takes over at the next boundary, whatever `SILENT` reads. -/
def State.tkoCmd (s : State) : State :=
  if s.acting == .standby then s.modFleet fun f => { f with forceTko := true } else s

/-- `FLEET.CMD.HANDBACK`: the acting standby begins the hand-back. -/
def State.handbackCmd (s : State) : State :=
  if s.acting == .manager && s.role != .manager && s.fleet.returned.isSome then
    s.modFleet fun f => { f with handback := some (f.handback.getD s.tick) }
  else s

/-- FLEET_CMD_TAKEOVER. -/
def execFleetCmdTakeover (key : BitVec 16) (s : State) : Host.Outcome State Fault Refusal :=
  .next (s.keyCmd pFLEET key.toNat 0x8B2F State.tkoCmd)

/-- FLEET_CMD_HANDBACK. -/
def execFleetCmdHandback (key : BitVec 16) (s : State) : Host.Outcome State Fault Refusal :=
  .next (s.keyCmd pFLEET key.toNat 0x8B2F State.handbackCmd)

end Sys2Proof.Machine
end

