-- ==== Sys2Proof/Machine/PortOps.lean ====
section
/-!
DEFINITION. What several blocks do to a port together: the contract snapshot, the converter target, the discharge sink,
the protocol layer's records, a detach, a Hard Reset, a guard trip, a power restart, retirement.
-/

namespace Sys2Proof.Machine

/-- Type-C states (Table 7.8, `PG_STAT.STATE`). -/
inductive CcState where
  | disabled | errorRecovery | unattachedSnk | attachWaitSnk | attachedSnk | unattachedSrc | attachWaitSrc
  | attachedSrc | trySrc | tryWaitSnk | trySnk | tryWaitSrc | audioAccessory | debugSrc | debugSnk | retired
deriving DecidableEq, Repr

def CcState.code : CcState → Nat
  | .disabled => 0
  | .errorRecovery => 1
  | .unattachedSnk => 2
  | .attachWaitSnk => 3
  | .attachedSnk => 4
  | .unattachedSrc => 5
  | .attachWaitSrc => 6
  | .attachedSrc => 7
  | .trySrc => 8
  | .tryWaitSnk => 9
  | .trySnk => 10
  | .tryWaitSrc => 11
  | .audioAccessory => 12
  | .debugSrc => 13
  | .debugSnk => 14
  | .retired => 15

def CcState.ofCode (k : Nat) : CcState :=
  match k % 16 with
  | 0 => .disabled
  | 1 => .errorRecovery
  | 2 => .unattachedSnk
  | 3 => .attachWaitSnk
  | 4 => .attachedSnk
  | 5 => .unattachedSrc
  | 6 => .attachWaitSrc
  | 7 => .attachedSrc
  | 8 => .trySrc
  | 9 => .tryWaitSnk
  | 10 => .trySnk
  | 11 => .tryWaitSrc
  | 12 => .audioAccessory
  | 13 => .debugSrc
  | 14 => .debugSnk
  | _ => .retired

/-- Attached states: Attached.SNK, Attached.SRC and the accessory states (R154). -/
def CcState.attached : CcState → Bool
  | .attachedSnk | .attachedSrc | .audioAccessory | .debugSrc | .debugSnk => true
  | _ => false

/-- The Type-C state of a port. -/
def State.ccState (s : State) (n : Port) : CcState := CcState.ofCode (s.fld (pCC n) CC.PG_STAT_STATE)

/-- Attached.SRC or Attached.SNK: the states in which the port speaks PD (Table 8.2, step 1). -/
def State.pdAttached (s : State) (n : Port) : Bool := s.ccState n == .attachedSrc || s.ccState n == .attachedSnk

/-- Change the Type-C state outside the page. -/
def State.modCc (s : State) (n : Port) (f : CcSt → CcSt) : State := s.modPort n fun p => { p with cc := f p.cc }

/-- Change the protocol-layer state. -/
def State.modPdl (s : State) (n : Port) (f : PdlSt → PdlSt) : State := s.modPort n fun p => { p with pdl := f p.pdl }

/-- Change the contract state. -/
def State.modPol (s : State) (n : Port) (f : PolSt → PolSt) : State := s.modPort n fun p => { p with pol := f p.pol }

/-- Change the guard state. -/
def State.modGuard (s : State) (n : Port) (f : GuardSt → GuardSt) : State := s.modPort n fun p => { p with guard := f p.guard }

/-- Change what policy firmware remembers. -/
def State.modFw (s : State) (n : Port) (f : FwSt → FwSt) : State := s.modPort n fun p => { p with fw := f p.fw }

/-- The attach generation rises by 1, wrapping (R16). -/
def State.genUp (s : State) (n : Port) : State := s.incr (pCC n) CC.PG_STAT_GEN

/-- Whether the port is in shadow presentation (R173). -/
def State.shadowing (s : State) (n : Port) : Bool := s.fld (pCC n) CC.PG_STAT_TWIN_MODE == 2

/-! ### The contract snapshot (R218-R222) -/

/-- Address of the snapshot of a port in always-on SRAM. -/
def snapAt (n : Port) : Nat := 32 * n.val

/-- Word `w` of the snapshot. -/
def State.snapWord (s : State) (n : Port) (w : Nat) : Nat := s.aosNat (snapAt n + 4 * w) 4

/-- The snapshot has `VALID` = 1. -/
def State.snapMarked (s : State) (n : Port) : Bool := bitAt (s.snapWord n 0) 31

/-- The snapshot's CRC checks (R221). -/
def State.snapCrcOk (s : State) (n : Port) : Bool := crc16 (s.aosRead (snapAt n) 28) == s.aosNat (snapAt n + 28) 2

/-- The snapshot holds a contract: `VALID` = 1 and the CRC checks (R221). -/
def State.snapValid (s : State) (n : Port) : Bool := s.snapMarked n && s.snapCrcOk n

/-- `TYPE`; 5-7 read as none. -/
def State.snapType (s : State) (n : Port) : Nat :=
  if bitsOf (s.snapWord n 0) 0 3 ≤ 4 then bitsOf (s.snapWord n 0) 0 3 else 0

/-- `STEP` = TRANSITION. -/
def State.snapTrans (s : State) (n : Port) : Bool := bitsOf (s.snapWord n 0) 8 2 == 1

/-- Contract voltage, 20 mV per LSB. -/
def State.snapV (s : State) (n : Port) : Nat := bitsOf (s.snapWord n 3) 0 12

/-- Contract current, 10 mA per LSB. -/
def State.snapI (s : State) (n : Port) : Nat := bitsOf (s.snapWord n 3) 16 12

/-- `V_OLD`. -/
def State.snapVOld (s : State) (n : Port) : Nat := bitsOf (s.snapWord n 4) 0 12

/-- Committed maximum power, 10 mW per LSB. -/
def State.snapPmax (s : State) (n : Port) : Nat := bitsOf (s.snapWord n 4) 16 16

/-- An explicit contract stands (`POL[n].PG_STAT.CONTRACT` = EXPLICIT). -/
def State.explicit (s : State) (n : Port) : Bool := s.fld (pPOL n) POL.PG_STAT_CONTRACT == 2

/-- Write `VALID` = 0 (R220). While the port stays attached `CONTRACT` reads DEFAULT (R222). -/
def State.snapClear (s : State) (n : Port) : State :=
  let s := s.aosPut (snapAt n) 4 (setBits (s.snapWord n 0) 31 1 0)
  let s := s.put (pPOL n) POL.PG_STAT_CONTRACT (if s.pdAttached n then 1 else 0)
  let s := (s.put (pPOL n) POL.PG_STAT_SNAP_VALID 0).put (pPOL n) POL.PG_STAT_EPR_MODE 0
  s.modPol n fun p => { p with snapBad := false, held := true }

/-- An event of `POL[n]` that posts `TASK_POL` in slot 64 + n (Table 9.12). -/
def State.polEvt (s : State) (n : Port) (f : Fld) : State :=
  let s := s.raise (pPOL n) f
  s.postKept (64 + n.val) 1 n (s.rd (pPOL n) POL.TASK_POL_ENTRY.off).toNat (s.fld (pPOL n) ⟨0x10, 0, 16⟩)

/-- The Hard Reset sequence of a port ends (Table 9.6 step 5, R236). -/
def State.hrDone (s : State) (n : Port) : State :=
  (s.put (pPOL n) POL.PG_STAT_HR_SEQ 0).polEvt n POL.PG_EVT_HR_DONE

/-! ### Converter and discharge (R226, R227, R278) -/

/-- Rounded quotient of integers, ties away from zero. -/
def roundDiv (a b : Int) : Int :=
  if b ≤ 0 then 0 else if 0 ≤ a then (2 * a + b) / (2 * b) else -((2 * (-a) + b) / (2 * b))

/-- Drive a converter target in units of 5 mV; 0 is default: no current (R226). The twin trim is added (R310). -/
def State.setTarget (s : State) (n : Port) (t : Nat) : State :=
  let pg := pPOL n
  let s := s.modPol n fun p => { p with target := t, moving := p.moving && t != 0 }
  let trimmed : Int := if t = 0 then 0 else max 0 ((t : Int) + 4 * (s.port n).pol.twinTrim)
  let v0 : Int := s.inf pg POL.CONV_CFG_V0
  let rt : Int := max 10 (s.inf pg POL.CONV_CFG_RT_KOHM)
  let code := if t = 0 then 0 else roundDiv (640 * (trimmed - 4 * v0)) rt
  let sat := decide (32767 < code) || decide (code < -32767)
  let code := max (-32767) (min 32767 code)
  let s := s.raiseIf (sat && !s.flag pg POL.CONV_STAT_SAT) pg POL.PG_EVT_CONV_SAT
  let s := (s.put pg POL.CONV_STAT_I_CODE (unsigned 16 code)).put pg POL.CONV_STAT_V_SET (trimmed.toNat / 4)
  s.putB pg POL.CONV_STAT_SAT sat

/-- The level `CEN_CTRL.MODE` gives `CEN_PTn` while AUTO would drive it to `auto`; a forced level does not apply between a detach and the next entry to
Attached.SRC (R227). -/
def State.cenLevel (s : State) (n : Port) (auto : Bool) : State :=
  let m := s.inf (pPOL n) POL.CEN_CTRL_MODE
  let off := (s.port n).pol.cenOff
  s.putB (pPOL n) POL.PG_STAT_CEN (if m = 1 && !off then false else if m = 2 && !off then true else auto)

/-- A forced level of `CEN_PTn` applies again, since Attached.SRC is entered or taken over, and the pin takes it (R227). -/
def State.cenOn (s : State) (n : Port) : State := (s.modPol n fun p => { p with cenOff := false }).cenLevel n true

/-- Turn `DSCH_PTn` on for a case of R278; never in a sink state; held off while it rests (R279). -/
def State.dschOn (s : State) (n : Port) (trip assist : Bool) : State :=
  let st := s.ccState n
  if st = .attachedSnk ∨ st = .debugSnk then s
  else
    let rest := s.flag (pGUARD n) GUARD.PG_STAT_DSCH_REST
    s.modGuard n fun g => { g with
      dsch := !rest
      dschWant := true
      dschTrip := trip || (g.dschTrip && g.dschWant)
      assist := if g.dschWant then g.assist && assist else assist }

/-- The discharge ends. -/
def State.dschOff (s : State) (n : Port) : State :=
  let s := s.put (pPOL n) POL.PG_STAT_DSCH_ASSIST 0
  s.modGuard n fun g => { g with dsch := false, dschWant := false, dschTrip := false, assist := false }

/-- The transition assist of R233 ends: the sink goes off when nothing else asked for it. -/
def State.assistEnd (s : State) (n : Port) : State :=
  let s := s.put (pPOL n) POL.PG_STAT_DSCH_ASSIST 0
  if (s.port n).guard.assist then s.dschOff n else s

/-- Blanking ticks of R269. -/
def State.blankTk (s : State) (n : Port) : Nat := max 1 (min 50 (s.inf (pGUARD n) GUARD.BLANK_BLANK_TK))

/-- Whether a transition of the port runs (Table 9.12, `TRANS_STAT.STATE` DELAY, RAMP or WAIT_WINDOW). -/
def State.transRuns (s : State) (n : Port) : Bool :=
  let st := s.fld (pPOL n) POL.TRANS_STAT_STATE
  decide (1 ≤ st) && decide (st ≤ 3)

/-- A running transition is abandoned (R234). -/
def State.transAbandon (s : State) (n : Port) : State :=
  if s.transRuns n then
    let s := (s.put (pPOL n) POL.TRANS_STAT_STATE 6).assistEnd n
    let s := s.modGuard n fun g => { g with blank := s.blankTk n }
    s.polEvt n POL.PG_EVT_TRANS_ABANDON
  else s

/-- Put a command in the queue of `POL[n]` for the next boundary. -/
def State.polQueue (s : State) (n : Port) (c : PolCmd) : State := s.modPol n fun p => { p with cmds := p.cmds ++ [c] }

/-- A time of a field in ms, between bounds, in µs: a value outside its range acts as the nearest bound (Tables 8.4, 9.4, 10.1). -/
def boundUs (v lo hi : Nat) : Nat := 1000 * max lo (min hi v)

/-! ### VCONN and HPD -/

/-- VCONN goes off and its pin discharges (R164). -/
def State.vconnOff (s : State) (n : Port) : State :=
  if s.flag (pCC n) CC.PG_STAT_VCONN_ON then
    (s.put (pCC n) CC.PG_STAT_VCONN_ON 0).modCc n fun c => { c with vconnDsch := true }
  else s

/-- The HPD level falls and IRQ pulses are cancelled (R249). -/
def State.hpdClear (s : State) (n : Port) : State :=
  (s.put (pVDM n) VDM.HPD_LEVEL 0).modPort n fun p => { p with irqOn := false, irqWait := false }

/-! ### The share page (R303, R306) -/

/-- An event of `SHARE` that posts slot 80 (Table 12.6). -/
def State.shareEvt (s : State) (f : Fld) : State :=
  let s := s.raise pSHARE f
  s.postGlobal 80 1 false (s.rd pSHARE SHARE.TASK_SHARE_ENTRY.off).toNat (s.fld pSHARE ⟨0x10, 0, 16⟩)

/-- Whether a port is in the sharing set of the last tick boundary (R300). -/
def State.inShareSet (s : State) (n : Port) : Bool := (s.port n).share.inSet

/-- Change the share-loop state of a port. -/
def State.modShare (s : State) (n : Port) (f : ShareSt → ShareSt) : State := s.modPort n fun p => { p with share := f p.share }

/-- A release (R303): every closed member's fine limit rises to its ceiling, until the second tick boundary. `drop`: a member left, and a member in RAMP keeps its joining
limit (Table 12.2). -/
def State.shareRelease (s : State) (drop : Bool) : State :=
  let s := s.put pSHARE SHARE.PG_STAT_RELEASE 1
  let s := s.forPorts fun s k =>
    let st := s.fld pSHARE (SHARE.PORT_STAT_STATE.at k.val)
    if 2 ≤ st ∧ !(drop && st == 2) then
      let s := (s.put pSHARE (SHARE.PORT_STAT_STATE.at k.val) 6).put pSHARE (SHARE.PORT_STAT_HELD.at k.val) 0
      (s.put pSHARE (SHARE.PORT_STAT_BUDGET.at k.val) 0).put pSHARE (SHARE.PORT_STAT_LIMIT.at k.val) (min 1023 (s.port k).share.ceil)
    else s
  let s := { s with share := { s.share with left := 2, keepJoin := drop } }
  let s := s.shareEvt SHARE.PG_EVT_RELEASE
  if drop then s.shareEvt SHARE.PG_EVT_MEMBER_DROP else s

/-- A port leaves the sharing set, with a release when it was in it (R303). -/
def State.shareLeave (s : State) (n : Port) : State :=
  if s.inShareSet n then
    let s := (s.put pSHARE (SHARE.PORT_STAT_STATE.at n.val) 1).put pSHARE (SHARE.PORT_STAT_HELD.at n.val) 0
    (s.modShare n fun h => { h with inSet := false }).shareRelease true
  else s

/-- A Reject answers an outstanding trim Request: the trim takes the value of the contract in force (R306). -/
def State.trimReject (s : State) (n : Port) : State :=
  if s.flag pSHARE (SHARE.TRIM_PENDING.at n.val) then
    let t : Int := (s.snapV n : Int) - s.fld pSHARE SHARE.RAIL_RAIL_V
    (s.put pSHARE (SHARE.TRIM_PENDING.at n.val) 0).put pSHARE (SHARE.TRIM_TRIM.at n.val) (unsigned 11 t)
  else s

/-! ### Protocol-layer records (R187-R216) -/

/-- Store offset of transmit record `i` of a port (Table 8.5). -/
def txAt (n : Port) (i : Nat) : Nat := 0x4000 * n.val + 0x1000 + 64 * (i % 16)

/-- `STATUS` of a transmit record. -/
def State.txStatus (s : State) (n : Port) (i : Nat) : Nat := s.stNat (txAt n i + 12) 1

/-- SOP* of a transmit record. -/
def State.txSop (s : State) (n : Port) (i : Nat) : Nat := s.stNat (txAt n i + 2) 1 % 4

/-- `EXT` of a transmit record. -/
def State.txExt (s : State) (n : Port) (i : Nat) : Bool := bitAt (s.stNat (txAt n i + 10) 1) 0

/-- `AMS_START` of a transmit record. -/
def State.txAms (s : State) (n : Port) (i : Nat) : Bool := bitAt (s.stNat (txAt n i + 10) 1) 1

/-- The transmit counter of a SOP* (0-2). -/
def State.txCtr (s : State) (n : Port) (k : Nat) : Nat := bitsOf (s.rd (pPDL n) PDL.MSGID_TX_SOP.off).toNat (4 * k) 3

/-- Set bits of `MSGID`. -/
def State.msgidPut (s : State) (n : Port) (lo w v : Nat) : State := s.put (pPDL n) ⟨PDL.MSGID_TX_SOP.off, lo, w⟩ v

/-- Add 1 to a transmit counter, wrapping at 8. -/
def State.txCtrUp (s : State) (n : Port) (k : Nat) : State := s.msgidPut n (4 * k) 3 (s.txCtr n k + 1)

/-- Set the transmit counter of a SOP* to 0 and mark its stored MessageID invalid (Soft_Reset, R189). -/
def State.sopReset (s : State) (n : Port) (k : Nat) : State := (s.msgidPut n (4 * k) 3 0).msgidPut n (19 + 4 * k) 1 0

/-- Write a record's outcome fields and its CRC-16 (R192). -/
def State.txWrite (s : State) (n : Port) (i status : Nat) : State :=
  let a := txAt n i
  let p := (s.port n).pdl
  let head := p.queue.head? == some i
  let s := match p.hdr with
    | some h => if head then s.stPut (a + 16) 2 h else s
    | none => s
  let s := ((s.stPut (a + 4) 4 s.tick).stPut (a + 12) 1 status).stPut (a + 13) 1 (if head then p.tries else 0)
  let s := s.stPut (a + 14) 1 (if head then p.chunk else 0)
  s.stPut (a + 62) 2 (crc16 (s.stRead a 62))

/-- Take a record out of the queue; the next head is not checked yet. -/
def State.txPop (s : State) (n : Port) (i : Nat) : State :=
  s.modPdl n fun p =>
    if p.queue.head? = some i then
      { p with queue := p.queue.tail, phase := .idle, tries := 0, chunk := 0, wired := false, hdr := none }
    else { p with queue := p.queue.filter fun j => j != i }

/-- Firmware reports the outcome of the host's VDM (R252). -/
def State.hostDone (s : State) (n : Port) (status : Nat) : State :=
  let s := (s.put (pVDM n) VDM.HOST_TX_CTL_STATUS status).put (pVDM n) VDM.HOST_TX_CTL_GO 0
  s.raise (pVDM n) VDM.PG_EVT_HOST_TX_DONE

/-- The outcome of a record (R192): fields, events, statistics, the TX slot. A frame that has been on the line takes its
MessageID (R190). Firmware reports the outcome of the host's VDM (R252) and forgets the message. -/
def State.txEnd (s : State) (n : Port) (i status : Nat) : State :=
  let pg := pPDL n
  let p := (s.port n).pdl
  let s := if p.queue.head? == some i && p.wired then s.txCtrUp n (s.txSop n i) else s
  let s := (s.txWrite n i status).txPop n i
  let s := if (s.port n).fw.hostTx = some i && status != 7 then (s.hostDone n status).modFw n fun f => { f with hostTx := none } else s
  let s := s.modFw n fun f => { f with built := f.built.filter fun b => b.1 != i }
  let s := (s.put pg PDL.TX_STAT_LAST i).put pg PDL.TX_STAT_LAST_STATUS status
  let s := match status with
    | 3 => (s.raise pg PDL.PG_EVT_TX_DONE).bump pg PDL.STAT_TX_SENT 1
    | 6 => (s.raise pg PDL.PG_EVT_GEN_DISCARD).bump pg PDL.STAT_DISC_GEN 1
    | 5 => (s.raise pg PDL.PG_EVT_TX_FAIL).bump pg PDL.STAT_DISC_DISCARDED 1
    | 4 => (s.raise pg PDL.PG_EVT_TX_FAIL).bump pg PDL.STAT_TX_FAIL 1
    | 10 => (s.raise pg PDL.PG_EVT_TX_FAIL).bump pg PDL.STAT_TX_FAIL 1
    | _ => s.raise pg PDL.PG_EVT_TX_FAIL
  let s := s.postPort (32 + 4 * n.val + 1) 1 n (s.rd pg PDL.TASK_TX_ENTRY.off).toNat (i + 256 * status)
  if status = 7 then
    s.postPort (32 + 4 * n.val + 3) 1 n (s.rd pg PDL.TASK_ERR_ENTRY.off).toNat (s.fld pg ⟨0x10, 0, 16⟩)
  else s

/-- End every queued record that a test picks with one status. -/
def State.txEndAll (s : State) (n : Port) (pick : State → Nat → Bool) (status : Nat) : State :=
  (s.port n).pdl.queue.foldl (fun s i => if pick s i then s.txEnd n i status else s) s

/-- Abandon every reassembly and free its buffer, with no error record (R198). -/
def State.reasmDrop (s : State) (n : Port) : State :=
  let s := (s.port n).pdl.reasm.foldl (fun s r => s.put (pPDL n) ⟨PDL.XBUF_STAT_RX_BUSY.off, r.buf, 1⟩ 0) s
  s.modPdl n fun p => { p with reasm := [] }

/-- The level of `VBUS_PTn` changes; a dip below 4.0 V after a Hard Reset is noted (R169). -/
def State.setVbus (s : State) (n : Port) (mv : Nat) : State :=
  s.modPort n fun p => { p with
    vbusMv := mv
    cc := { p.cc with hrDipped := p.cc.hrDipped || (p.cc.hrHold && decide (mv < 4000)) } }

/-- The Rp value the protocol layer imposes (R193): SinkTxNG during a sequence, SinkTxOK otherwise, while collision avoidance
applies. -/
def State.rpOver (s : State) (n : Port) : Option Nat :=
  if (s.port n).pdl.ng then some 1
  else if s.ccState n = .attachedSrc ∧ s.fld (pPDL n) PDL.CFG_REV ≠ 1 ∧ s.explicit n then some 2
  else none

/-- What the layer does at a detach (R204), at a power restart (R273) and at retirement. -/
def State.pdlCleanup (s : State) (n : Port) : State :=
  let s := s.txEndAll n (fun _ _ => true) 6
  let s := s.reasmDrop n
  let s := (s.wr (pPDL n) PDL.MSGID_TX_SOP.off 0).put (pPDL n) PDL.PG_STAT_HR_PENDING 0
  s.modPdl n fun p => { p with layer := [], gcrc := none, ng := false, bistData := false, bistCarrier := false, hrSend := false }

/-! ### The guard -/

/-- The guard's state code (Table 11.1). -/
def State.guardState (s : State) (n : Port) : Nat := s.fld (pGUARD n) GUARD.PG_STAT_STATE

/-- The path the guard serves (R258, R266): 0 none, 1 source, 2 sink. -/
def State.guardPath (s : State) (n : Port) : Nat :=
  if s.ccState n = .attachedSrc ∨ (s.port n).guard.joined then 1 else if s.ccState n = .attachedSnk then 2 else 0

/-- A path is served with its gate driven: RAMP, ON or LIMIT. -/
def State.guardDrives (s : State) (n : Port) : Bool :=
  let st := s.guardState n
  decide (2 ≤ st) && decide (st ≤ 4)

/-- Level on `GSRC_PTn`: the source gate is driven. -/
def State.gsrcOn (s : State) (n : Port) : Bool := s.guardDrives n && s.guardPath n == 1

/-- Level on `GSNK_PTn`: the sink gate is driven. -/
def State.gsnkOn (s : State) (n : Port) : Bool :=
  s.guardDrives n && s.guardPath n == 2 && !s.flag (pGUARD n) GUARD.PG_STAT_SNK_BLOCKED

/-- The limit of the SOA timer in µs (R264): 0 acts as 1, above 1,000 as 1,000. -/
def State.soaUs (s : State) (n : Port) : Nat := max 1 (min 1000 (s.inf (pGUARD n) GUARD.SOA_CFG_SOA_US))

/-- The expected ramp time in µs (R265), between 200 and 16,000. -/
def State.expUs (s : State) (n : Port) : Nat := max 200 (min 16000 (s.inf (pGUARD n) GUARD.RAMP_EXP_EXP_US))

/-- The ramp current in µA (R260), between 1 and 60. -/
def State.rampUa (s : State) (n : Port) : Nat := max 1 (min 60 (s.inf (pGUARD n) GUARD.RAMP_CFG_GATE_UA))

/-- Set the guard's state, with the reports that belong to a state cleared. -/
def State.guardTo (s : State) (n : Port) (st : Nat) : State :=
  let pg := pGUARD n
  let s := (s.put pg GUARD.PG_STAT_STATE st).put pg GUARD.PG_STAT_HOLD 0
  let s := s.put pg GUARD.PG_STAT_FB_ACTIVE 0
  let s := if st = 3 ∨ st = 4 then s else s.put pg GUARD.PG_STAT_SNK_BLOCKED 0
  let s := if st = 2 then s else s.put pg GUARD.PG_STAT_JOIN 0
  s.modGuard n fun g => { g with
    joined := g.joined && decide (2 ≤ st) && decide (st ≤ 4)
    ocp := if decide (2 ≤ st) && decide (st ≤ 4) then g.ocp else 0
    otp := if decide (2 ≤ st) && decide (st ≤ 4) then g.otp else 0
    preTests := if st = 1 then 0 else g.preTests
    waitHr := g.waitHr && st == 6
    gateUa := if st = 2 then s.rampUa n else 0
    soaUs := if st = 2 ∨ st = 4 then s.soaUs n else g.soaUs
    progUs := if st = 2 then 2 * s.expUs n else g.progUs
    doneUs := if st = 2 then 4 * s.expUs n else g.doneUs
    uvpUs := if 2 ≤ st ∧ st ≤ 4 then max 1 (s.inf pg GUARD.BLANK_UVP_US) else g.uvpUs }

/-- The guard leaves PRECHECK, RAMP, ON or LIMIT for OFF with no trip (R261). -/
def State.guardOff (s : State) (n : Port) : State :=
  let st := s.guardState n
  if 1 ≤ st ∧ st ≤ 4 then s.guardTo n 0 else s

/-- An event of `GUARD[n]` that posts the trip slot 72 + n (Table 11.7). -/
def State.guardEvt (s : State) (n : Port) (f : Fld) : State :=
  let s := s.raise (pGUARD n) f
  s.postKept (72 + n.val) 0 n (s.rd (pGUARD n) GUARD.TASK_TRIP_ENTRY.off).toNat (s.fld (pGUARD n) ⟨0x10, 0, 16⟩)

/-- The window of vSafe5V, 4.75-5.50 V in units of 0.2 mV. -/
def win5 : Nat × Nat := (23750, 27500)

/-- Set the window in force. -/
def State.setWin (s : State) (n : Port) (w : Nat × Nat) (held : Bool) : State :=
  s.modPol n fun p => { p with winLo := w.1, winHi := w.2, held := held }

/-! ### Events that several blocks share -/

/-- Firmware starts a generation with nothing asked, answered or discovered: what it composed for the old one is dropped, and the cable counts as unknown again (R244). The
host's VDM ends with `status` when it had no record yet (R252). -/
def State.fwGeneration (s : State) (n : Port) (status : Nat) : State :=
  let s := if (s.port n).fw.outbox.any fun m => m.goal == .host then s.hostDone n status else s
  let s := if s.fw then
      let v := pVDM n
      ((s.put v VDM.DISC_STAT_CBL_KNOWN 0).put v VDM.DISC_STAT_ACTIVE_CBL 0).put v VDM.DISC_STAT_DISC 0
    else s
  s.modFw n fun f => { f with
    capsSends := 0, caps := [], srcCaps := [], epr := false, accepted := false, cblTries := 0, mism := false, vdm := none, todo := [], modes := [],
    outbox := [], built := [], asked := .nothing, cbl := none, cbl2 := false, svids := [], svidOff := 0, hostReq := none }

/-- What every block does at a detach (R154, R164, R167, R168, R204, R220, R222, R227, R234, R249, R278, R306, Table 7.6). -/
def State.detach (s : State) (n : Port) (asSource : Bool) : State :=
  let s := (s.genUp n).raise (pCC n) CC.PG_EVT_DETACH
  let s := s.modCc n fun c => { c with taskDue := true, raLatch := false, raKnown := false, autoDone := false, hrHold := false, hrDipped := false, raProbe := none, takenRp := none }
  let s := s.pdlCleanup n
  let s := (s.snapClear n).put (pPOL n) POL.PG_STAT_CONTRACT 0
  let s := s.transAbandon n
  let s := (s.put (pPOL n) POL.PG_STAT_HR_SEQ 0).put (pPOL n) POL.PG_STAT_HR_OWED 0
  let s := ((s.setTarget n 0).put (pPOL n) POL.PG_STAT_CEN 0).modPol n fun p => { p with cenOff := true }
  let s := (s.guardOff n).put (pGUARD n) GUARD.PG_STAT_SNK_REQ 0
  let s := s.setWin n win5 false
  let s := (s.vconnOff n).hpdClear n
  let s := s.shareLeave n
  let s := (s.put pSHARE (SHARE.TRIM_TRIM.at n.val) 0).put pSHARE (SHARE.TRIM_PENDING.at n.val) 0
  let s := (s.fwGeneration n 6).modFw n fun f => { f with capsResets := 0, sinkResets := 0 }
  let s := if s.fw then { s with place := { s.place with soc := s.place.soc.set n.val 255 n.isLt } } else s
  if asSource then
    s.modGuard n fun g =>
      let rest := s.flag (pGUARD n) GUARD.PG_STAT_DSCH_REST
      { g with dsch := !rest, dschWant := true, dschTrip := g.dschTrip && g.dschWant, assist := false }
  else s

/-- What every block does at entry to an attached state (R222, R227, Table 8.11); firmware closes the sink path (R224). -/
def State.attachActions (s : State) (n : Port) (st : CcState) : State :=
  match st with
  | .attachedSrc =>
    let s := (s.put (pPDL n) PDL.CFG_DATA_ROLE 1).put (pPOL n) POL.PG_STAT_CONTRACT 1
    (s.setWin n win5 false).cenOn n
  | .attachedSnk =>
    let s := (s.put (pPDL n) PDL.CFG_DATA_ROLE 0).put (pPOL n) POL.PG_STAT_CONTRACT 1
    let s := s.setWin n win5 false
    if s.fw && s.flag (pGUARD n) GUARD.CFG_SNK_EN then s.put (pGUARD n) GUARD.PG_STAT_SNK_REQ 1 else s
  | _ => s

/-- What every block does at the end of a Hard Reset ordered set, sent or received (R200 step 3, R201, R220, R222, R234-R236,
R240, R249, R306, R307). -/
def State.hardReset (s : State) (n : Port) (sent : Bool) : State :=
  let pg := pPDL n
  let src := s.ccState n == .attachedSrc
  let again := s.flag pg PDL.PG_STAT_HR_PENDING && !sent
  let s := s.genUp n
  let s := (s.txEndAll n (fun _ _ => true) 5).reasmDrop n
  let s := (s.wr pg PDL.MSGID_TX_SOP.off 0).put pg PDL.PG_STAT_HR_PENDING 1
  let s := s.modPdl n fun p => { p with layer := [], gcrc := none, ng := false, bistData := false, bistCarrier := false, hrSend := p.hrSend && !sent }
  let s := s.putB pg PDL.CFG_DATA_ROLE src
  let s := s.raise pg (if sent then PDL.PG_EVT_HR_SENT else PDL.PG_EVT_HR_RCVD)
  let s := if again then s.raise pg PG.EVT_REPEAT else s
  let s := s.postPort (32 + 4 * n.val + 2) 0 n (s.rd pg PDL.TASK_HR_ENTRY.off).toNat (if sent then 2 else 1)
  let s := (s.snapClear n).transAbandon n
  let s := s.hpdClear n
  let s := s.shareLeave n
  let s := s.modCc n fun c => { c with takenRp := none }
  let s := s.put pSHARE (SHARE.TRIM_PENDING.at n.val) 0
  let s := s.fwGeneration n 5
  if src then
    if s.fld (pPOL n) POL.PG_STAT_HR_SEQ = 0 then
      let wait := boundUs (s.inf (pPOL n) POL.TIMING_HR_WAIT_MS) 25 35
      ((s.put (pPOL n) POL.PG_STAT_HR_SEQ 1).bump (pPOL n) POL.COUNT_HR 1).modPol n fun p => { p with timerUs := wait }
    else s
  else
    let s := if s.fld (pPOL n) POL.PG_STAT_HR_SEQ = 0 then s.bump (pPOL n) POL.COUNT_HR 1 else s
    let s := s.put (pPOL n) POL.PG_STAT_HR_SEQ 5
    s.modCc n fun c => { c with hrHold := true, hrDipped := decide ((s.port n).vbusMv < 4000) }

/-- A Hard Reset is ordered on an attached port (R200 step 1): records, chunking and the frame being sent are dropped and the
ordered set is to be sent. -/
def State.hardResetStart (s : State) (n : Port) : State :=
  if s.pdAttached n then
    let s := (s.txEndAll n (fun _ _ => true) 5).reasmDrop n
    let s := s.modPdl n fun p => { p with layer := [], gcrc := none, hrSend := true }
    (s.modFw n fun f => { f with outbox := [], asked := .nothing }).put (pPDL n) PDL.PG_STAT_HR_PENDING 1
  else s

/-- The guard enters RETIRED, and the CC block with it (R276, R177). `cause`: what `TRIP.CAUSE` takes, if anything. -/
def State.retire (s : State) (n : Port) (cause : Option Nat) : State :=
  if s.guardState n = 7 then s
  else
    let st := s.ccState n
    let s := match cause with
      | some c => (s.put (pGUARD n) GUARD.TRIP_CAUSE c)
      | none => s
    let src := st == .attachedSrc || st == .debugSrc
    let s := if st.attached then s.detach n src else s.snapClear n
    let s := (s.guardTo n 7).put (pGUARD n) GUARD.PG_STAT_SNK_REQ 0
    let s := s.vconnOff n
    let cc := pCC n
    let s := s.put cc CC.PG_STAT_STATE 15
    let s := (s.put cc CC.PG_STAT_ATTACHED 0).put cc CC.PG_STAT_SOURCE 0
    let s := ((s.put cc CC.PG_STAT_CLAMP 0).put cc CC.PG_STAT_ACC 0).put cc CC.PG_STAT_RP_ADV 0
    let s := s.raise cc CC.PG_EVT_RETIRED
    let s := s.modCc n fun c => { c with taskDue := true, debDone := false, tryDone := false, errRec := false, rstHold := false, timers := [] }
    s.guardEvt n GUARD.PG_EVT_RETIRED

/-- A power restart (R273). -/
def State.powerRestart (s : State) (n : Port) : State :=
  let s := (s.genUp n).snapClear n
  let s := (s.pdlCleanup n).put (pPDL n) PDL.CFG_DATA_ROLE 1
  let s := (s.hpdClear n).vconnOff n
  (s.fwGeneration n 6).modCc n fun c => { c with autoDone := false }

/-- A trip (R272): `causes` has bit c − 1 for each cause code c recognised; `src`: on the source path. The fourth trip within 10 s (200,000 ticks)
retires the guard (R276). -/
def State.trip (s : State) (n : Port) (causes : Nat) (src : Bool) : State :=
  let pg := pGUARD n
  let sinkServed := s.guardPath n == 2
  let first := ((List.range 9).find? fun i => bitAt causes i).getD 0 + 1
  let g := (s.port n).guard
  let recent := s.tick :: g.trips.filter fun t => decide (s.tick < t + 200000)
  let s := s.guardTo n 5
  let s := (s.put pg GUARD.TRIP_CAUSE first).put pg GUARD.TRIP_CAUSES causes
  let s := (s.put pg GUARD.TRIP_BO_STEP g.step).put pg GUARD.TRIP_TICK_TICK s.tick
  let s := (s.put pg GUARD.HIST_RECENT (min 4 recent.length)).bump pg GUARD.HIST_TOTAL 1
  let s := s.modGuard n fun g => { g with trips := recent, step := min 4 (g.step + 1), tripSrc := src, backUs := 100000 * 2 ^ min 4 g.step }
  let s := (s.raiseIf (bitAt causes 6) pg GUARD.PG_EVT_SOA).raiseIf (bitAt causes 7) pg GUARD.PG_EVT_RAMP_FAIL
  let s := s.guardEvt n GUARD.PG_EVT_TRIP
  let s := if bitAt causes 5 then s.put pg GUARD.PG_STAT_THERM 2 else s
  let s := s.modFw n fun f => { f with tripped := f.tripped ||| causes, alert := f.alert ||| causes }
  let s := if src then ((s.transAbandon n).dschOn n true false).setTarget n 0 else s
  let s := if s.ccState n = .attachedSrc && !s.shadowing n then s.powerRestart n else s
  let s := if sinkServed then s.shareLeave n else s
  if 4 ≤ recent.length then s.retire n none
  else if src then (if (s.port n).vbusMv < 800 then s.put pg GUARD.PG_STAT_STATE 6 else s)
  else s.put pg GUARD.PG_STAT_STATE 6

/-- Both paths of a port are turned off with no trip because its block is disabled or reset (R172, R278): discharge while VBUS
is above 0.8 V. -/
def State.guardHalt (s : State) (n : Port) : State :=
  let s := s.guardOff n
  if 800 < (s.port n).vbusMv then s.dschOn n false false else s

/-- A shadow's guard that joined the owner's path turns off, since its Type-C block enters Disabled or ErrorRecovery (R171, R172). -/
def State.joinedOff (s : State) (n : Port) : State := if (s.port n).guard.joined then s.guardHalt n else s

end Sys2Proof.Machine
end

