-- ==== Sys2Proof/Machine/TypeC.lean ====
section
/-!
DEFINITION. The Type-C block (chapter 7): classification of the CC pins, the state machine of Table 7.3, VCONN, the work
of a tick boundary.
-/

namespace Sys2Proof.Machine

/-- What a CC pin shows (R151), coded as `LINE.CC1_CLS`. -/
inductive CcClass where
  | open | ra | rd | rp
deriving DecidableEq, Repr

def CcClass.code : CcClass → Nat
  | .open => 0
  | .ra => 1
  | .rd => 2
  | .rp => 3

/-- The role in force: SNK while the clamp is applied; 0 SNK, 1 SRC, 2 DRP; 3 acts as SNK (R158, Table 7.8). -/
def State.ccRole (s : State) (n : Port) : Nat :=
  if s.inf (pCC n) CC.CFG_DB_CLAMP = 1 then 0
  else if s.inf (pCC n) CC.CFG_ROLE = 3 then 0 else s.inf (pCC n) CC.CFG_ROLE

/-- Whether the port is DRP. -/
def State.ccDrp (s : State) (n : Port) : Bool := s.ccRole n == 2

/-- TRY in force: 0 none, 1 Try.SRC, 2 Try.SNK; 3 acts as none; used only by a DRP port. -/
def State.ccTry (s : State) (n : Port) : Nat :=
  if s.ccDrp n then (if s.inf (pCC n) CC.CFG_TRY = 3 then 0 else s.inf (pCC n) CC.CFG_TRY) else 0

/-- Whether this device may own twinned ports: a manager owns none, and a standby none while it is on standby (R5). -/
def State.mayOwn (s : State) : Bool := s.acting != .manager && s.acting != .standby

/-- TWIN in force: 0 none, 1 OWNER, 2 SHADOW; 3 acts as none. OWNER acts as SHADOW on a device that may own no twinned port (R5, DEDUCED, log entry 104). -/
def State.ccTwin (s : State) (n : Port) : Nat :=
  let t := s.inf (pCC n) CC.CFG_TWIN
  if t = 3 then 0 else if t = 1 && !s.mayOwn then 2 else t

/-- The Rp value presented: SinkTxNG during a sequence; the mirrored value a takeover asserted (R175); the protocol layer's while it overrides (R193);
else `CFG.RP`; 0 Default, 1 1.5 A, 2 3.0 A. -/
def State.ccRp (s : State) (n : Port) : Nat :=
  if (s.port n).pdl.ng then 1
  else match (s.port n).cc.takenRp with
  | some v => min v.1 2
  | none => match s.rpOver n with
    | some v => v
    | none => min (s.inf (pCC n) CC.CFG_RP) 2

/-- Class of a pin that presents Rp of a value, from its voltage in mV (Table 7.2). -/
def classRp (rp mv : Nat) : CcClass :=
  let ra := if rp = 0 then 200 else if rp = 1 then 400 else 800
  let top := if rp = 2 then 2600 else 1600
  if mv < ra then .ra else if mv ≤ top then .rd else .open

/-- Class of a pin that presents Rd or the clamp (Table 7.2). -/
def classRd (mv : Nat) : CcClass := if mv < 200 then .open else .rp

/-- Rp value seen through Rd, coded as `PG_STAT.RP_ADV`: 1 Default, 2 1.5 A, 3 3.0 A; the clamp sees Default (R151). Exactly 0.66 V, named by two bands of
Table 7.2, is 1.5 A (DESIGN CHOICE, log entry 107). -/
def rpSeen (clamp : Bool) (mv : Nat) : Nat :=
  if mv < 200 then 0 else if clamp || mv < 660 then 1 else if mv ≤ 1230 then 2 else 3

/-- Voltage of a pin: pin 0 is CC1, 1 CC2. -/
def State.ccMv (s : State) (n : Port) (pin : Nat) : Nat :=
  if pin = 0 then (s.port n).cc.cc1Mv else (s.port n).cc.cc2Mv

/-- Whether a state presents Rp on its pins (Table 7.3). -/
def ccPresentsRp (st : CcState) : Bool :=
  match st with
  | .unattachedSrc | .attachWaitSrc | .attachedSrc | .trySrc | .tryWaitSrc | .audioAccessory | .debugSrc => true
  | _ => false

/-- What a CC pin presents (Table 7.1). -/
inductive CcTerm where
  | open | rp (v : Nat) | rd | clamp | vconn
deriving DecidableEq, Repr

/-- The active pin (R157). -/
def State.activePin (s : State) (n : Port) : Nat := s.fld (pCC n) CC.PG_STAT_POLARITY

/-- The termination on a CC pin (R150): as the column *CC presentation* of Table 7.3. In Attached.SRC the pin other than the active pin carries no Rp
(R162). -/
def State.ccTerm (s : State) (n : Port) (pin : Nat) : CcTerm :=
  match s.ccState n with
  | .disabled | .errorRecovery | .retired => .open
  | .attachedSrc =>
    if pin = s.activePin n then .rp (s.ccRp n) else if s.flag (pCC n) CC.PG_STAT_VCONN_ON then .vconn else .open
  | .tryWaitSnk | .trySnk => .rd
  | .unattachedSnk | .attachWaitSnk | .attachedSnk | .debugSnk => if s.flag (pCC n) CC.PG_STAT_CLAMP then .clamp else .rd
  | _ => .rp (s.ccRp n)

/-- Class of a pin under its termination (R151). A shadow classifies against the mirrored Rp (R173); a pin that presents nothing shows nothing. -/
def State.ccClass (s : State) (n : Port) (pin : Nat) : CcClass :=
  match s.ccTerm n pin with
  | .rp v => classRp v (s.ccMv n pin)
  | .rd | .clamp => classRd (s.ccMv n pin)
  | _ => if s.ccState n = .disabled && s.ccTwin n == 2 then classRp (min 2 (s.fld (pCC n) CC.SHADOW_WATCH_RP_VAL)) (s.ccMv n pin) else .open

/-- The class `LINE` shows of a pin. Table 7.2 gives none for a pin with neither Rp nor Rd, but for a shadow's: a free value (log entry 108). -/
def State.ccShown (s : State) (n : Port) (pin : Nat) : Nat :=
  match s.ccTerm n pin with
  | .open => if s.ccState n = .disabled && s.ccTwin n == 2 then (s.ccClass n pin).code else (Config.unseenClass (s.ccMv n pin)).toNat
  | .vconn => (Config.unseenClass (s.ccMv n pin)).toNat
  | _ => (s.ccClass n pin).code

/-- `LINE` takes the pins' voltages and classes (R179). -/
def State.lineShow (s : State) (n : Port) : State :=
  let pg := pCC n
  let s := (s.put pg CC.LINE_CC1_V (s.ccMv n 0 / 20)).put pg CC.LINE_CC1_CLS (s.ccShown n 0)
  (s.put pg CC.LINE_CC2_V (s.ccMv n 1 / 20)).put pg CC.LINE_CC2_CLS (s.ccShown n 1)

/-- A value outside a range acts as the nearest bound. -/
def nearest (lo hi v : Nat) : Nat := max lo (min hi v)

/-- The length of a timer in µs from the fields in force, each taken to its range (Table 7.4, R155). -/
def State.timerUs (s : State) (n : Port) (t : CcTimer) : Nat :=
  let v := fun (f : Fld) => s.inf (pCC n) f
  let drp := nearest 50 100 (v CC.TDRP_DRP_MS)
  let duty := nearest 30 70 (v CC.TDRP_DUTY)
  match t with
  | .ccDeb => 1000 * nearest 100 200 (v CC.TDEB_CC_DEB_MS)
  | .pdDeb => 1000 * nearest 10 20 (v CC.TDEB_PD_DEB_MS)
  | .errRec => 1000 * nearest 25 255 (v CC.TDEB_ERR_REC_MS)
  | .snkShare => 10 * drp * (100 - duty)
  | .srcShare => 10 * drp * duty
  | .tryMs => 1000 * nearest 75 150 (v CC.TDRP_TRY_MS)
  | .tryWait => 1000 * nearest 400 800 (v CC.TTRY_TRYWAIT_MS)
  | .tryTo => 1000 * nearest 550 1100 (v CC.TTRY_TRY_TO_MS)

/-- The timers a state runs (Table 7.3); a debounce also starts again with each change on the pins. -/
def ccTimers (st : CcState) : List CcTimer :=
  match st with
  | .errorRecovery => [.errRec]
  | .unattachedSnk => [.snkShare]
  | .unattachedSrc => [.srcShare]
  | .attachWaitSnk | .attachWaitSrc => [.ccDeb, .pdDeb]
  | .trySrc => [.tryMs, .tryTo, .pdDeb]
  | .tryWaitSnk => [.ccDeb, .pdDeb, .tryWait]
  | .trySnk => [.tryMs, .pdDeb]
  | .tryWaitSrc => [.pdDeb, .tryWait]
  | .attachedSnk | .audioAccessory | .debugSrc | .debugSnk => [.pdDeb]
  | _ => []

/-- Whether the port's state runs a timer. -/
def State.ccTimes (s : State) (n : Port) (t : CcTimer) : Bool := (ccTimers (s.ccState n)).contains t

/-- The pin that shows a class while the other is OPEN, or for RD RA (R153, *exactly one*). -/
def State.exactlyOne (s : State) (n : Port) (c : CcClass) : Option Nat :=
  let a := s.ccClass n 0
  let b := s.ccClass n 1
  let other := fun (x : CcClass) => x == .open || (c == .rd && x == .ra)
  if a = c && other b then some 0 else if b = c && other a then some 1 else none

/-- Both pins show a class. -/
def State.bothPins (s : State) (n : Port) (c : CcClass) : Bool := s.ccClass n 0 == c && s.ccClass n 1 == c

/-- Either pin shows a class. -/
def State.eitherPin (s : State) (n : Port) (c : CcClass) : Bool := s.ccClass n 0 == c || s.ccClass n 1 == c

/-- VBUS is at or above 4.0 V. -/
def State.vbus4 (s : State) (n : Port) : Bool := decide (4000 ≤ (s.port n).vbusMv)

/-- VBUS is at or below 0.8 V. -/
def State.vbusLow (s : State) (n : Port) : Bool := decide ((s.port n).vbusMv ≤ 800)

/-- Change the Type-C state. Leaving an attached state is a detach, with what the other blocks do at it (R154, R204, R220,
R234); entering one sets ATTACH, and an accessory state ACCESSORY. -/
def State.ccEnter (s : State) (n : Port) (st : CcState) : State :=
  let old := s.ccState n
  let s := if old.attached && !st.attached then s.detach n (old == .attachedSrc) else s
  let pg := pCC n
  let s := s.put pg CC.PG_STAT_STATE st.code
  let s := s.putB pg CC.PG_STAT_ATTACHED st.attached
  let s := s.putB pg CC.PG_STAT_SOURCE (ccPresentsRp st)
  let clamp := s.inf pg CC.CFG_DB_CLAMP == 1 &&
    (st == .unattachedSnk || st == .attachWaitSnk || st == .attachedSnk || st == .debugSnk)
  let s := s.putB pg CC.PG_STAT_CLAMP clamp
  let s := if st = .disabled || st = .errorRecovery then (s.joinedOff n).vconnOff n else s
  let s := s.put pg CC.PG_STAT_ACC
    (match st with | .audioAccessory => 1 | .debugSrc => 2 | .debugSnk => 3 | _ => 0)
  let acc := st == .audioAccessory || st == .debugSrc || st == .debugSnk
  let s := if acc then s.put pg CC.PG_STAT_POLARITY 0 else s
  let s := s.modPort n fun p => { p with cc := { p.cc with
    debDone := false, tryDone := false, ownerOk := false, clampGone := false
    timers := (ccTimers st).map fun t => (t, s.timerUs n t)
    takenOver := if st = .disabled then false else p.cc.takenOver } }
  let seen := rpSeen clamp (s.ccMv n (s.fld pg CC.PG_STAT_POLARITY))
  let s := s.put pg CC.PG_STAT_RP_ADV (if st = .attachedSnk || st = .debugSnk then seen else 0)
  if st.attached && !old.attached then
    let s := (s.raise pg CC.PG_EVT_ATTACH).raiseIf acc pg CC.PG_EVT_ACCESSORY
    (s.modPort n fun p => { p with cc := { p.cc with taskDue := true } }).attachActions n st
  else s

/-- The Unattached state a port's role selects (Table 7.3, Disabled). -/
def State.unattachedFor (s : State) (n : Port) : CcState := if s.ccRole n = 1 then .unattachedSrc else .unattachedSnk

/-- What a source-side wait or accessory state falls back to. -/
def State.srcBack (s : State) (n : Port) : CcState := if s.ccDrp n then .unattachedSnk else .unattachedSrc

/-- The port leaves Disabled or ErrorRecovery: to its Unattached state, or to Disabled while it is disabled, in shadow
presentation, or held after a PORT reset. -/
def State.ccResume (s : State) (n : Port) : State :=
  let shadow := s.ccTwin n == 2 && !(s.port n).cc.takenOver
  if s.inf (pCC n) PG.CTRL_ENABLE = 0 || shadow || (s.port n).cc.rstHold then
    (if s.ccState n = .disabled then s else s.ccEnter n .disabled)
  else s.ccEnter n (s.unattachedFor n)

/-- Enter AttachWait and fix the orientation (R157). -/
def State.attachWait (s : State) (n : Port) (st : CcState) (c : CcClass) : State :=
  let pol := if s.ccClass n 0 == c then 0 else if s.ccClass n 1 == c then 1 else 0
  (s.put (pCC n) CC.PG_STAT_POLARITY pol).ccEnter n st

/-- Enter Attached.SNK or Attached.SRC with the orientation fixed at AttachWait (R157); the latch of R162 takes what the pin other than `pin` shows. -/
def State.attachOn (s : State) (n : Port) (pin : Nat) (st : CcState) : State :=
  let ra := s.ccClass n (1 - pin) == .ra
  let s := s.ccEnter n st
  if st = .attachedSrc then
    s.modPort n fun p => { p with cc := { p.cc with raLatch := ra, raKnown := true, autoDone := false } }
  else s

/-- Whether the owner check of R176 stands in the way of Attached.SRC. -/
def State.ownerBlocks (s : State) (n : Port) : Bool :=
  (s.ccTwin n == 1 || (s.port n).cc.takenOver) && !s.flag pTWIN TWIN.STAT_PARTNER && !(s.port n).cc.ownerOk

/-- Note that the debounce has ended while VBUS or the owner check is still awaited. -/
def State.debWait (s : State) (n : Port) : State :=
  s.modPort n fun p => { p with cc := { p.cc with debDone := true } }

/-- What follows a completed debounce, now or when the VBUS level it waited for comes (Table 7.3). -/
def State.debounced (s : State) (n : Port) : State :=
  match s.ccState n with
  | .attachWaitSnk =>
    match s.exactlyOne n .rp with
    | some pin =>
      if s.ccTry n = 1 then s.ccEnter n .trySrc
      else if s.vbus4 n then s.attachOn n pin .attachedSnk else s.debWait n
    | none =>
      if s.bothPins n .rp && s.inf (pCC n) CC.CFG_ACC_EN == 1 then
        (if s.vbus4 n then s.ccEnter n .debugSnk else s.debWait n)
      else s
  | .attachWaitSrc =>
    match s.exactlyOne n .rd with
    | some pin =>
      if !s.vbusLow n || s.ownerBlocks n then s.debWait n
      else if s.ccTry n = 2 then s.ccEnter n .trySnk
      else s.attachOn n pin .attachedSrc
    | none =>
      if s.inf (pCC n) CC.CFG_ACC_EN = 1 then
        (if s.bothPins n .ra then s.ccEnter n .audioAccessory
        else if s.bothPins n .rd then s.ccEnter n .debugSrc else s)
      else s
  | .tryWaitSnk =>
    match s.exactlyOne n .rp with
    | some pin => if s.vbus4 n then s.attachOn n pin .attachedSnk else s.debWait n
    | none => s
  | .trySnk =>
    match s.exactlyOne n .rp with
    | some pin => if s.vbus4 n then s.attachOn n pin .attachedSnk else s.debWait n
    | none => s
  | .tryWaitSrc =>
    match s.exactlyOne n .rd with
    | some pin => if s.vbusLow n then s.attachOn n pin .attachedSrc else s.debWait n
    | none => s
  | _ => s

/-- `RP_ADV` takes the Rp value seen on the active pin, as Default while the clamp is read (R151); `RP_CHANGE` when it changes while attached as sink. -/
def State.rpRead (s : State) (n : Port) : State :=
  let pg := pCC n
  let seen := rpSeen (s.flag pg CC.PG_STAT_CLAMP || (s.port n).cc.clampGone) (s.ccMv n (s.activePin n))
  let st := s.ccState n
  if seen = s.fld pg CC.PG_STAT_RP_ADV then s
  else (s.raiseIf (st == .attachedSnk || st == .debugSnk) pg CC.PG_EVT_RP_CHANGE).put pg CC.PG_STAT_RP_ADV seen

/-- PD_DEB_MS elapses (Table 7.3). -/
def State.pdDebounced (s : State) (n : Port) : State :=
  match s.ccState n with
  | .attachWaitSnk =>
    if s.bothPins n .open then s.ccEnter n (if s.ccDrp n then .unattachedSrc else .unattachedSnk) else s.rpRead n
  | .attachWaitSrc => if s.bothPins n .open then s.ccEnter n (s.srcBack n) else s
  | .trySrc =>
    match s.exactlyOne n .rd with
    | some pin => s.attachOn n pin .attachedSrc
    | none => s
  | .tryWaitSnk => if s.bothPins n .open then s.ccEnter n .unattachedSnk else s.rpRead n
  | .trySnk =>
    if (s.port n).cc.tryDone then
      (if s.eitherPin n .rp then s.debounced n else s.ccEnter n .tryWaitSrc)
    else s.rpRead n
  | .tryWaitSrc => s.debounced n
  | .audioAccessory => if s.bothPins n .open then s.ccEnter n (s.srcBack n) else s
  | .debugSrc => if s.eitherPin n .open then s.ccEnter n (s.srcBack n) else s
  | .debugSnk => if s.bothPins n .open then s.ccEnter n .unattachedSnk else s.rpRead n
  | .attachedSnk =>
    if (s.port n).cc.hrHold && s.bothPins n .open then s.ccEnter n .unattachedSnk else s.rpRead n
  | _ => s

/-- What a shadow sees on the shared pins (R173, Table 7.8): the mirrored active pin, or either pin before the first mirror. `OWNER_RP` goes to 0 only after
the 20 µs of R174, unless another pin is watched now (`anew`). -/
def State.shadowWatch (s : State) (n : Port) (anew : Bool) : State :=
  let pg := pCC n
  let pins := if s.flag pg CC.SHADOW_WATCH_MIRRORED then [s.fld pg CC.SHADOW_WATCH_ACTIVE] else [0, 1]
  let rp := pins.any fun p => decide (150 ≤ s.ccMv n p)
  if s.shadowing n then
    (s.putB pg CC.SHADOW_WATCH_OWNER_RP (rp || (!anew && s.flag pg CC.SHADOW_WATCH_OWNER_RP))).putB pg CC.SHADOW_WATCH_PARTNER
      (pins.any fun p => s.ccClass n p == .rd)
  else s

/-- The state machine reacts to what the pins show (R153). -/
def State.ccJudge (s : State) (n : Port) : State :=
  match s.ccState n with
  | .unattachedSnk => if s.eitherPin n .rp then s.attachWait n .attachWaitSnk .rp else s
  | .unattachedSrc =>
    if s.eitherPin n .rd then s.attachWait n .attachWaitSrc .rd
    else if s.inf (pCC n) CC.CFG_ACC_EN == 1 && s.bothPins n .ra then s.attachWait n .attachWaitSrc .ra
    else s
  | .trySrc => if (s.port n).cc.tryDone && (s.exactlyOne n .rd).isNone then s.ccEnter n .tryWaitSnk else s
  | .disabled => s.shadowWatch n false
  | _ => s

/-- Pin voltages are stored, and a debounce that ran starts again. -/
def State.ccStore (s : State) (n : Port) (mv1 mv2 : Nat) : State :=
  let deb := fun (x : CcTimer × Nat) => if x.1 = .ccDeb || x.1 = .pdDeb then (x.1, s.timerUs n x.1) else x
  s.modCc n fun c => { c with cc1Mv := mv1, cc2Mv := mv2, debDone := false, timers := c.timers.map deb }

/-- New pin voltages: the classification changes and the state machine reacts (R151, R153). In STANDBY and ZERO attach-watch alone looks at the pins
(R79), and without supply or in reset nothing does. -/
def State.ccLine (s : State) (n : Port) (mv1 mv2 : Nat) : State :=
  let s := s.ccStore n mv1 mv2
  if s.phase = .run || s.phase = .warm then s.ccJudge n else s

/-- VCONN goes on (R162). -/
def State.vconnOn (s : State) (n : Port) : State :=
  (s.putB (pCC n) CC.PG_STAT_VCONN_ON true).modPort n fun p => { p with cc := { p.cc with vconnDsch := false } }

/-- The conditions for switching VCONN on other than the latch of R162. -/
def State.vconnReady (s : State) (n : Port) : Bool :=
  s.ccState n == .attachedSrc && s.inf (pCC n) CC.CFG_VCONN_EN == 1 && s.flag pSUP SUP.PG_STAT_VCONN_OK

/-- Whether the conditions for switching VCONN on hold (R162). -/
def State.vconnMay (s : State) (n : Port) : Bool := s.vconnReady n && (s.port n).cc.raLatch

/-- `VCONN_STAT` at a boundary (R163, Table 7.8): while VCONN is on the current is a free value up to the limit, at most 400 mA; the mean power over the last
100 ms (2,000 ticks) one up to the bound, at most 1 W, beyond which VCONN_OVERCURRENT would have switched it off (log entry 1). -/
def State.vconnTick (s : State) (n : Port) : State :=
  let pg := pCC n
  let on := s.flag pg CC.PG_STAT_VCONN_ON
  let s := if on then s.modCc n fun c => { c with vconnAt := some s.tick } else s
  let late := match (s.port n).cc.vconnAt with
    | some t => decide (s.tick ≤ t + 2000)
    | none => false
  let w := s.free.toNat
  let i := if on then bitsOf w 0 8 % (min 40 (s.inf pg CC.VCONN_CFG_ILIM) + 1) else 0
  let p := if late then bitsOf w 8 8 % (min 100 (s.inf pg CC.VCONN_CFG_PLIM) + 1) else 0
  let s := (s.put pg CC.VCONN_STAT_I i).put pg CC.VCONN_STAT_P_AVG p
  let s := s.putB pg CC.VCONN_STAT_LIMITING (on && bitAt w 16)
  if late then s.freshen else s

/-! ### The tick boundary -/

/-- The CFG word in force after a boundary (R152): ROLE and TRY only in Disabled, ErrorRecovery or Unattached; RP only
without an explicit contract; TWIN only in Disabled or Unattached and not after a takeover; the clamps stay in place in recovery (R94, R159). -/
def State.ccCfgApply (s : State) (n : Port) : State :=
  let pg := pCC n
  let st := s.ccState n
  let rest := st = .disabled || st = .errorRecovery || st = .unattachedSnk || st = .unattachedSrc
  let new := (s.rd pg CC.CFG_ROLE.off).toNat
  let old := (Sparse.get resetWord s.inForce (regKey pg CC.CFG_ROLE.off)).toNat
  let keep := fun (w : Nat) (f : Fld) (b : Bool) => if b then w else setBits w f.lo f.w (bitsOf old f.lo f.w)
  let w := keep new CC.CFG_ROLE rest
  let w := keep w CC.CFG_TRY rest
  let w := keep w CC.CFG_RP (!s.explicit n)
  let w := keep w CC.CFG_TWIN (rest && st != .errorRecovery && !(s.port n).cc.takenOver)
  let w := keep w CC.CFG_DB_CLAMP (!s.recovery)
  let s := [0x08, 0x24, 0x28, 0x2C, 0x30, 0x34].foldl (init := s) fun s off =>
    { s with inForce := Sparse.set resetWord s.inForce (regKey pg off) (s.rd pg off) }
  { s with inForce := Sparse.set resetWord s.inForce (regKey pg CC.CFG_ROLE.off) (BitVec.ofNat 32 w) }

/-- The boundary after a removal: Rd is read (R151). -/
def State.clampRead (s : State) (n : Port) : State :=
  if (s.port n).cc.clampGone then
    let s := s.modCc n fun c => { c with clampGone := false }
    if s.fld (pCC n) CC.PG_STAT_RP_ADV = 0 then s else s.rpRead n
  else s

/-- The mirrored Rp holds until a change of `CFG.RP` takes effect (R152, R175). -/
def State.takenRpTick (s : State) (n : Port) : State :=
  match (s.port n).cc.takenRp with
  | some v => if !s.explicit n && s.fld (pCC n) CC.CFG_RP != v.2 then s.modCc n fun c => { c with takenRp := none } else s
  | none => s

/-- What the order of R154 enters at a boundary: ErrorRecovery by `ERR_REC`, else Disabled when `ENABLE` = 0 takes effect. -/
def State.ccOrders (s : State) (n : Port) : State :=
  let rec_ := (s.port n).cc.errRec
  let off := s.inf (pCC n) PG.CTRL_ENABLE == 1 && !s.enabled (pCC n)
  let s := s.modCc n fun c => { c with errRec := false }
  if s.ccState n = .retired then s
  else if rec_ then s.ccEnter n .errorRecovery
  else if off then (if s.ccState n = .disabled then s.joinedOff n else (s.guardHalt n).ccEnter n .disabled)
  else s

/-- The clamp's removal takes effect (R159). `was`: the clamp was in force before the boundary. -/
def State.clampRemoval (s : State) (n : Port) (was : Bool) : State :=
  if was && s.inf (pCC n) CC.CFG_DB_CLAMP == 0 then
    let role := s.fld (pCC n) CC.CFG_ROLE
    match s.ccState n with
    | .attachedSnk | .attachWaitSnk | .debugSnk =>
      if role = 1 then s.ccEnter n .errorRecovery
      else (s.putB (pCC n) CC.PG_STAT_CLAMP false).modCc n fun c => { c with clampGone := true }
    | .unattachedSnk => s.ccEnter n (s.unattachedFor n)
    | _ => s
  else s

/-- Type-C work of a boundary for one port: orders taken in the sequence of R154, the settings applied (R152), the clamp
removed (R159), an Unattached or Disabled port moved on, the pins judged under the present termination, LINE updated (R179), a VBUS return after a Hard Reset (R169), the
C0 slot posted (R180). -/
def State.ccTick (s : State) (n : Port) : State :=
  let pg := pCC n
  let was := s.inf pg CC.CFG_DB_CLAMP == 1
  let role := s.ccRole n
  let s := (s.ccOrders n).clampRead n
  let s := (s.ccCfgApply n).takenRpTick n
  let s := s.clampRemoval n was
  let shadow := s.ccTwin n == 2 && !(s.port n).cc.takenOver
  let s := s.put pg CC.PG_STAT_TWIN_MODE (if shadow then 2 else if s.ccTwin n = 1 || (s.port n).cc.takenOver then 1 else 0)
  let rests := s.ccState n == .unattachedSnk || s.ccState n == .unattachedSrc
  let s := if rests && shadow then s.ccEnter n .disabled
    else if rests && s.ccRole n != role && s.ccRole n != 2 then s.ccEnter n (s.unattachedFor n)
    else s
  let s := if s.ccState n = .disabled then s.ccResume n else s
  let s := s.ccJudge n
  let s := if (s.port n).cc.debDone then s.debounced n else s
  let s := (s.lineShow n).vconnTick n
  let c := (s.port n).cc
  let s := if c.hrHold then
      (if s.vbus4 n then
        (if c.hrDipped then (s.modPort n fun p => { p with cc := { p.cc with hrHold := false } }).hrDone n else s)
      else s.modPort n fun p => { p with cc := { p.cc with hrDipped := true } })
    else s
  if (s.port n).cc.taskDue && s.phase == .run then
    (s.modPort n fun p => { p with cc := { p.cc with taskDue := false } }).postKept (88 + n.val) 0 n
      (s.rd pg CC.TASK_CC_ENTRY.off).toNat (s.fld pg ⟨0x10, 0, 16⟩)
  else s

end Sys2Proof.Machine
end

