-- ==== Sys2Proof/Machine/Pdl.lean ====
section
/-!
DEFINITION. The PD physical and protocol layer of a port (chapter 8): receiving a frame, the transmit queue, GoodCRC, chunking,
Hard Reset and the commands of `PDL[n]`. Message type codes are those of USB PD 3.1 (log entry 20).
-/

namespace Sys2Proof.Machine

/-! ### Ordered sets (R182, Table 8.1) -/

/-- What an ordered set announces. -/
inductive OrdSet where
  | sop (k : Nat) | debug | hardReset | cableReset
deriving DecidableEq, Repr

/-- Table 8.1. -/
def ordSets : List (OrdSet × List KCode) := [
  (.sop 0, [.sync1, .sync1, .sync1, .sync2]),
  (.sop 1, [.sync1, .sync1, .sync3, .sync3]),
  (.sop 2, [.sync1, .sync3, .sync1, .sync3]),
  (.debug, [.sync1, .rst2, .rst2, .sync3]),
  (.debug, [.sync1, .rst2, .sync3, .sync2]),
  (.hardReset, [.rst1, .rst1, .rst1, .rst2]),
  (.cableReset, [.rst1, .sync1, .rst1, .sync3])]

/-- K-codes that appear in their positions. -/
def kMatches (a b : List KCode) : Nat := ((a.zip b).filter fun p => p.1 == p.2).length

/-- Recognise an ordered set: all four K-codes, else the first row with three in place (log entry 21). -/
def recognise (ks : List KCode) : Option OrdSet :=
  match ordSets.find? fun r => kMatches ks r.2 == 4 with
  | some r => some r.1
  | none => (ordSets.find? fun r => kMatches ks r.2 == 3).map fun r => r.1

/-! ### Headers -/

/-- Message type. -/
def hdrType (h : Nat) : Nat := bitsOf h 0 5

/-- MessageID. -/
def hdrId (h : Nat) : Nat := bitsOf h 9 3

/-- Number of Data Objects. -/
def hdrNdo (h : Nat) : Nat := bitsOf h 12 3

/-- Extended. -/
def hdrExt (h : Nat) : Bool := bitAt h 15

/-- A control message of a type. -/
def isControl (h t : Nat) : Bool := !hdrExt h && hdrNdo h == 0 && hdrType h == t

/-- A data message of a type. -/
def isData (h t : Nat) : Bool := !hdrExt h && hdrNdo h != 0 && hdrType h == t

/-- Whether the layer itself answers a message Not_Supported (Table 8.3). `groups`: `AUTO_NS`. -/
def answered (h groups : Nat) : Bool :=
  let t := hdrType h
  if hdrExt h then
    if t = 8 ∨ t = 9 then bitAt groups 2
    else if t = 10 ∨ t = 11 then bitAt groups 3
    else if t = 13 ∨ t = 14 then bitAt groups 4
    else !([1, 2, 3, 4, 5, 6, 7, 12, 15, 16, 17, 18, 30].contains t)
  else if hdrNdo h = 0 then
    if t = 14 ∨ t = 15 then bitAt groups 1
    else if t = 21 then bitAt groups 4
    else !([1, 3, 4, 5, 6, 7, 8, 9, 12, 13, 16, 17, 18, 20, 22, 23, 24].contains t)
  else
    if t = 8 then bitAt groups 0
    else if t = 7 then bitAt groups 4
    else !([1, 2, 3, 4, 5, 6, 9, 10, 11, 12, 15].contains t)

/-- The revision of a SOP* is 2.0 (Table 8.11). -/
def State.rev2 (s : State) (n : Port) (k : Nat) : Bool :=
  s.fld (pPDL n) (if k = 0 then PDL.CFG_REV else PDL.CFG_REV_CBL) == 1

/-- The cable rule (R195). -/
def State.cableOk (s : State) (n : Port) (k : Nat) : Bool :=
  s.ccState n == .attachedSrc && s.flag (pCC n) CC.PG_STAT_VCONN_ON &&
    s.flag (pPDL n) (if k = 1 then PDL.CFG_SOP1_EN else PDL.CFG_SOP2_EN)

/-- The header fields the layer writes into every frame it sends (R186). -/
def State.hdrOut (s : State) (n : Port) (k h id : Nat) : Nat :=
  let h := setBits (setBits h 9 3 id) 6 2 (if s.rev2 n k then 1 else 2)
  let h := setBits h 8 1 (if k = 0 then s.fld (pCC n) CC.PG_STAT_SOURCE else 0)
  setBits h 5 1 (if k = 0 then s.fld (pPDL n) PDL.CFG_DATA_ROLE else 0)

/-! ### Symbols (R181): the codes of USB PD 3.1, bit 0 sent first (log entry 20) -/

/-- The 5-bit symbol of a nibble. -/
def sym4b5b (d : Nat) : Nat :=
  [0b11110, 0b01001, 0b10100, 0b10101, 0b01010, 0b01011, 0b01110, 0b01111, 0b10010, 0b10011, 0b10110, 0b10111, 0b11010, 0b11011, 0b11100, 0b11101].getD (d % 16) 0

/-- The symbol of a K-code. -/
def kSym : KCode → Nat
  | .sync1 => 0b11000
  | .sync2 => 0b10001
  | .sync3 => 0b00110
  | .rst1 => 0b00111
  | .rst2 => 0b11001
  | .other => 0

/-- EOP. -/
def symEop : Nat := 0b01101

/-- The bits of a symbol in the order sent. -/
def symBits (k : Nat) : List Bool := [0, 1, 2, 3, 4].map fun i => k.testBit i

/-- The bits of a byte: the symbol of the low nibble, then of the high. -/
def byteBits (b : Byte) : List Bool := symBits (sym4b5b (b.toNat % 16)) ++ symBits (sym4b5b (b.toNat / 16))

/-- The ordered set that the layer sends under a number (0 SOP, 1 SOP′, 2 SOP″, 3 Hard Reset, 4 Cable Reset). -/
def sentSet (k : Nat) : List KCode :=
  match k with
  | 0 => [.sync1, .sync1, .sync1, .sync2]
  | 1 => [.sync1, .sync1, .sync3, .sync3]
  | 2 => [.sync1, .sync3, .sync1, .sync3]
  | 3 => [.rst1, .rst1, .rst1, .rst2]
  | _ => [.rst1, .sync1, .rst1, .sync3]

/-- The 64 bits of the preamble: 0 and 1 in turn. -/
def preamble : List Bool := (List.range 64).map fun i => i % 2 == 1

/-- What goes on the line (R181): the preamble, the ordered set and, for a frame, header and data, their CRC-32 and EOP. -/
def wireBits (k : Nat) (bs : List Byte) : List Bool :=
  preamble ++ (sentSet k).flatMap (fun c => symBits (kSym c)) ++
    (if bs.isEmpty then [] else (bs ++ leBytes 4 (crc32 bs)).flatMap byteBits ++ symBits symEop)

/-- The layer puts something on the active pin (R157, R181). -/
def State.lineOut (s : State) (n : Port) (k : Nat) (bs : List Byte) : State :=
  let pin := s.fld (pCC n) CC.PG_STAT_POLARITY
  s.modPdl n fun p => { p with line := some (k, bs), wire := some (pin, wireBits k bs) }

/-! ### Receive records (R211-R215) -/

/-- The ring is full (R215). -/
def State.ringFull (s : State) (n : Port) : Bool :=
  (s.fld (pPDL n) PDL.RX_WR_INDEX + 1) % 64 == s.fld (pPDL n) PDL.RX_RD_INDEX

/-- Write a receive record and advance `RX_WR` (Table 8.6). -/
def State.ringWrite (s : State) (n : Port) (sop flags xbuf status chunks : Nat) (msg : List Byte) : State :=
  let pg := pPDL n
  let i := s.fld pg PDL.RX_WR_INDEX
  let body := leBytes 2 (s.fld pg PDL.RX_WR_SEQ) ++ leBytes 1 sop ++ leBytes 1 (s.gen n) ++ leBytes 4 s.tick ++
    leBytes 2 msg.length ++ leBytes 1 flags ++ leBytes 1 xbuf ++ leBytes 1 status ++ [0] ++ leBytes 1 chunks ++ [0] ++
    msg ++ List.replicate (46 - msg.length) 0
  let s := s.stRecord (0x4000 * n.val + 64 * (i % 64)) (body.take 62)
  (s.put pg PDL.RX_WR_INDEX (i + 1)).incr pg PDL.RX_WR_SEQ

/-- The slot posted for errors (Table 8.8, j = 3). -/
def State.pdlErrPost (s : State) (n : Port) : State :=
  s.postPort (32 + 4 * n.val + 3) 1 n (s.rd (pPDL n) PDL.TASK_ERR_ENTRY.off).toNat (s.fld (pPDL n) ⟨0x10, 0, 16⟩)

/-- An error record, with `CHUNK_ERR` and the ERR slot (R197, R198); not written while the ring is full (R215). -/
def State.chunkErr (s : State) (n : Port) (sop code chunks : Nat) : State :=
  let s := if s.ringFull n then s.bump (pPDL n) PDL.STAT_ERR_DROP 1 else s.ringWrite n sop 0x10 0 code chunks []
  (s.raise (pPDL n) PDL.PG_EVT_CHUNK_ERR).pdlErrPost n

/-- Store offset of receive buffer `i` (Table 8.5). -/
def rxBufAt (n : Port) (i : Nat) : Nat := 0x4000 * n.val + 0x1400 + 512 * (i % 4)

/-- Store offset of transmit buffer `i`. -/
def txBufAt (n : Port) (i : Nat) : Nat := 0x4000 * n.val + 0x1C00 + 512 * (i % 4)

/-- Bit `i` of `XBUF_STAT.RX_BUSY`. -/
def rxBusyBit (i : Nat) : Fld := ⟨PDL.XBUF_STAT_RX_BUSY.off, i, 1⟩

/-- Bit `i` of `XBUF_STAT.RX_READY`. -/
def rxReadyBit (i : Nat) : Fld := ⟨PDL.XBUF_STAT_RX_BUSY.off, 4 + i, 1⟩

/-- The reassembly of a SOP*. -/
def State.reasmOf (s : State) (n : Port) (k : Nat) : Option Reasm := (s.port n).pdl.reasm.find? fun r => r.sop == k

/-- Forget the reassembly of a SOP*. -/
def State.reasmDel (s : State) (n : Port) (k : Nat) : State := s.modPdl n fun p => { p with reasm := p.reasm.filter fun r => r.sop != k }

/-- Replace the reassembly of a SOP*. -/
def State.reasmSet (s : State) (n : Port) (r : Reasm) : State :=
  s.modPdl n fun p => { p with reasm := r :: p.reasm.filter fun q => q.sop != r.sop }

/-- Abandon the reassembly of a SOP* with an error record (R198). -/
def State.reasmAbort (s : State) (n : Port) (k code : Nat) : State :=
  match s.reasmOf n k with
  | none => s
  | some r => ((s.reasmDel n k).put (pPDL n) (rxBusyBit r.buf) 0).chunkErr n k code r.chunks

/-- GoodCRC is owed for a MessageID (R186), and the stored MessageID takes it. -/
def State.ackStore (s : State) (n : Port) (k id : Nat) : State :=
  let s := (s.msgidPut n (16 + 4 * k) 3 id).msgidPut n (19 + 4 * k) 1 1
  s.modPdl n fun p => { p with gcrc := some (k, id) }

/-- A message goes unacknowledged for want of ring space or a buffer (Table 8.2, step 6). -/
def State.rxFull (s : State) (n : Port) : State :=
  ((s.raise (pPDL n) PDL.PG_EVT_RX_FULL).bump (pPDL n) PDL.STAT_ERR_DROP 1).pdlErrPost n

/-- A record write or its verification failed (Table 8.2, step 6). -/
def State.rxStoreErr (s : State) (n : Port) : State :=
  ((s.raise (pPDL n) PDL.PG_EVT_STORE_ERR).bump (pPDL n) PDL.STAT_ERR_DROP 1).pdlErrPost n

/-! ### Messages that firmware composes -/

/-- A write to `TX_REQ` (R187). -/
def State.txReq (s : State) (n : Port) (i : Nat) : State :=
  let st := s.txStatus n i
  if 4 ≤ (s.port n).pdl.queue.length ∨ st = 1 ∨ st = 2 then s.lockedWrite (pPDL n)
  else (s.stPut (txAt n i + 12) 1 1).modPdl n fun p => { p with queue := p.queue ++ [i] }

/-- The header of a message as firmware composes it: type, number of objects, Extended; the layer writes the rest (R186). -/
def fwHdr (typ ndo : Nat) (ext : Bool) : Nat := typ % 32 + 4096 * (ndo % 8) + 32768 * ext.toNat

/-- The lowest transmit record that is neither QUEUED nor ACTIVE. -/
def State.freeTx (s : State) (n : Port) : Nat :=
  ((List.range 16).find? fun i => !(s.port n).pdl.queue.contains i).getD 15

/-- The lowest transmit buffer that no queued record names. -/
def State.freeTxBuf (s : State) (n : Port) : Nat :=
  ((List.range 4).find? fun b => !(s.port n).pdl.queue.any fun i => s.txExt n i && s.stNat (txAt n i + 11) 1 % 4 == b).getD 3

/-- Firmware composes a transmit record (R212). -/
def State.fwRecord (s : State) (n : Port) (i sop flags xbuf : Nat) (msg : List Byte) : State :=
  let body := leBytes 2 0 ++ leBytes 1 sop ++ leBytes 1 (s.gen n) ++ leBytes 4 0 ++ leBytes 2 msg.length ++ leBytes 1 flags ++
    leBytes 1 xbuf ++ leBytes 4 0 ++ msg ++ List.replicate (46 - msg.length) 0
  s.stRecord (txAt n i) (body.take 62)

/-- Firmware composes a message in the lowest free record, with the lowest free transmit buffer for extended data (R214), and queues it (R187). -/
def State.fwCompose (s : State) (n : Port) (m : FwMsg) : State :=
  let i := s.freeTx n
  let s := match m.ext with
    | none => s.fwRecord n i m.sop (2 * m.ams.toNat) 0 m.msg
    | some d =>
      let b := s.freeTxBuf n
      let buf := m.msg.take 2 ++ leBytes 2 d.length ++ d ++ List.replicate (506 - d.length) 0
      (s.stRecord (txBufAt n b) (buf.take 510)).fwRecord n i m.sop (1 + 2 * m.ams.toNat) b m.msg
  let s := s.modFw n fun f => { f with
    built := (i, m) :: f.built.filter fun b => b.1 != i
    hostTx := if m.goal = .host then some i else f.hostTx }
  s.txReq n i

/-- Messages that wait are composed while the queue has room. -/
def State.fwFlushGo (s : State) (n : Port) : List FwMsg → State
  | [] => s.modFw n fun f => { f with outbox := [] }
  | m :: rest =>
    if (s.port n).pdl.queue.length < 4 then (s.fwCompose n m).fwFlushGo n rest
    else s.modFw n fun f => { f with outbox := m :: rest }

/-- The messages that wait for room in the queue go into it. -/
def State.fwFlush (s : State) (n : Port) : State := s.fwFlushGo n (s.port n).fw.outbox

/-- Firmware has a message to send: after those that wait, and none while the layer is held, so that after a reset the Soft_Reset of R27 and R28 goes first (log
entry 112). -/
def State.fwPut (s : State) (n : Port) (m : FwMsg) : State :=
  if s.enabled (pPDL n) then (s.modFw n fun f => { f with outbox := f.outbox ++ [m] }).fwFlush n else s

/-- Send a control or data message, with what its outcome leads to. -/
def State.fwSendFor (s : State) (n : Port) (sop typ : Nat) (objs : List Word) (ams : Bool) (goal : FwGoal) : State :=
  s.fwPut n { sop := sop, ams := ams, msg := leBytes 2 (fwHdr typ objs.length false) ++ (objs.flatMap fun o => leBytes 4 o.toNat), ext := none, goal := goal }

/-- Send a control or data message. -/
def State.fwSend (s : State) (n : Port) (sop typ : Nat) (objs : List Word) (ams : Bool) : State := s.fwSendFor n sop typ objs ams .plain

/-- Send an extended message through a transmit buffer (R214). -/
def State.fwSendExt (s : State) (n : Port) (typ : Nat) (data : List Byte) : State :=
  s.fwPut n { sop := 0, ams := false, msg := leBytes 2 (fwHdr typ 0 true), ext := some data, goal := .plain }

/-- Firmware commits what the `CON_*` registers hold with `STEP` = IN_FORCE (R231, R232). -/
def State.commitInForce (s : State) (n : Port) (gen : Nat) : State :=
  (s.put (pPOL n) ⟨POL.CON_FLAGS_FLAGS.off, 8, 2⟩ 0).polQueue n (.commit gen)

/-- What firmware does at the outcome of a message it composed: a CORRUPT one is composed again (R21); an Accept that ends SENT is followed by the commit in TRANSITION and
`TRANS_CMD`, PS_RDY by the commit in force, or by Hard Reset when it ends otherwise (R232); the Accept of a DR_Swap by `ROLE_CMD` (R239). -/
def State.fwAfter (s : State) (n : Port) (m : FwMsg) (status : Nat) : State :=
  if status = 7 then s.fwPut n m
  else match m.goal with
    | .accept v gen => if status = 3 then (s.polQueue n (.commit gen)).polQueue n (.trans v gen) else s
    | .psRdy gen => if status = 3 then s.commitInForce n gen else s.hardResetStart n
    | .role dfp gen => if status = 3 then s.polQueue n (.role dfp gen) else s
    | .host => s
    | .reply => s
    | .plain => s

/-- The message behind a record. -/
def State.builtMsg (s : State) (n : Port) (i : Nat) : Option FwMsg := ((s.port n).fw.built.find? fun b => b.1 == i).map fun b => b.2

/-- The outcome of one record, and what firmware does on it. -/
def State.txOver (s : State) (n : Port) (i status : Nat) : State :=
  let m := s.builtMsg n i
  let s := s.txEnd n i status
  if s.fw then
    (match m with
      | some m => s.fwAfter n m status
      | none => s).fwFlush n
  else s

/-- The outcome, other than SENT and CORRUPT, of every queued record that a test picks, and what firmware does on it: a PS_RDY among them leads to Hard Reset. -/
def State.txOverAll (s : State) (n : Port) (pick : State → Nat → Bool) (status : Nat) : State :=
  let lost := (s.port n).pdl.queue.any fun i => pick s i && (match s.builtMsg n i with
    | some m => (match m.goal with
      | .psRdy _ => true
      | _ => false)
    | none => false)
  let s := s.txEndAll n pick status
  if !s.fw then s else if lost then s.hardResetStart n else s.fwFlush n

/-- What firmware does at once on a message recorded on SOP. As source, during a transition that the device runs, Hard Reset (R234). Otherwise Accept, Reject and Wait answer what
was asked: a Request accepted is committed in TRANSITION (R231), a DR_Swap accepted leads to `ROLE_CMD` (R239); PS_RDY puts the contract in force (R231). -/
def State.fwRecorded (s : State) (n : Port) (k h : Nat) (bytes : List Byte) : State :=
  if !s.fw || k != 0 then s
  else if s.ccState n == .attachedSrc && s.transRuns n then s.hardResetStart n
  else if isControl h 3 then
    match (s.port n).fw.asked with
    | .nothing => s
    | .request => (s.modFw n fun f => { f with asked := .nothing, accepted := true }).polQueue n (.commit (s.gen n))
    | .drSwap => (s.modFw n fun f => { f with asked := .nothing }).polQueue n (.role (!s.flag (pPDL n) PDL.CFG_DATA_ROLE) (s.gen n))
  else if isControl h 4 || isControl h 12 then s.modFw n fun f => { f with asked := .nothing }
  else if isControl h 6 && s.ccState n == .attachedSnk && (s.port n).fw.accepted then
    (s.modFw n fun f => { f with accepted := false }).commitInForce n (s.gen n)
  else if isData h 10 && s.ccState n == .attachedSnk && leNat ((bytes.drop 5).take 1) == 3 then s.modFw n fun f => { f with epr := true }
  else s

/-! ### Receiving -/

/-- Records of a SOP* that are queued, held or waiting become DISCARDED (R191). -/
def State.rxDiscard (s : State) (n : Port) (k : Nat) : State := s.txOverAll n (fun s i => s.txSop n i == k) 5

/-- Queue an automatic answer: Not_Supported, or Reject at revision 2.0 (R208). -/
def State.answerQueue (s : State) (n : Port) (k : Nat) : State :=
  let t := if s.rev2 n k then 4 else 16
  s.modPdl n fun p => { p with layer := p.layer ++
    [{ answer := true, sop := k, typ := t, body := [], sent := false, waiting := false, tries := 0, hdr := none }] }

/-- BIST (R209): whether the message is to be answered Not_Supported, and the mode entered. -/
def State.bistHandle (s : State) (n : Port) (k mode : Nat) : Bool × State :=
  let ok := k == 0 && s.flag (pPDL n) PDL.CFG_BIST_EN && s.snapValid n && s.snapType n == 1 && s.snapV n == 250
  let s := s.raise (pPDL n) PDL.PG_EVT_BIST
  if ok && mode == 5 then (false, s.modPdl n fun p => { p with bistCarrier := true })
  else if ok && mode == 8 then (false, s.modPdl n fun p => { p with bistData := true })
  else (true, s)

/-- Step 7 of Table 8.2 for a message whose record is stored. `write` writes the ring record with its flags; `chunked`: the last chunk of a
reassembly; `unchunked`: an extended message in one piece, whose answer is policy (R196). -/
def State.rxRecorded (s : State) (n : Port) (k h : Nat) (bytes : List Byte) (write : State → Nat → State) (chunked unchunked : Bool) : State :=
  let pg := pPDL n
  let bist := isData h 3
  let (bistNs, s) := if bist then s.bistHandle n k (leNat ((bytes.drop 5).take 1) / 16) else (false, s)
  let ans := if bist then bistNs else !unchunked && answered h (s.rd pg PDL.AUTO_NS_ENTER_USB.off).toNat
  let s := write s (if ans then 8 else 0)
  let s := s.ackStore n k (hdrId h)
  let s := s.rxDiscard n k
  let s := (s.raise pg PDL.PG_EVT_RX).bump pg PDL.STAT_RX_GOOD 1
  let s := s.postPort (32 + 4 * n.val) 1 n (s.rd pg PDL.TASK_RX_ENTRY.off).toNat (s.rd pg PDL.RX_WR_INDEX.off).toNat
  let s := if chunked then s else s.reasmAbort n k 5
  let s := if k = 0 && isControl h 4 then s.trimReject n else s
  let s := if ans then s.answerQueue n k else s
  s.fwRecorded n k h bytes

/-- An ordinary message: recorded whole. -/
def State.rxMessage (s : State) (n : Port) (k h : Nat) (f : PdFrame) (flags : Nat) : State :=
  if s.ringFull n then s.rxFull n
  else if !f.storeOk then s.rxStoreErr n
  else s.rxRecorded n k h f.bytes (fun s a => s.ringWrite n k (flags + a) 0 0 0 f.bytes) false (flags == 4)

/-- A chunk continues or completes a reassembly (R197). -/
def State.rxChunkData (s : State) (n : Port) (k h : Nat) (f : PdFrame) (r : Reasm) : State :=
  let data := (f.bytes.drop 4).take (min 26 (r.size - r.got))
  let a := rxBufAt n r.buf
  let got := r.got + data.length
  let last := decide (r.size ≤ got) || data.isEmpty
  if last && s.ringFull n then s.rxFull n
  else if !f.storeOk then s.rxStoreErr n
  else
    let s := s.stWrite (a + 4 + r.got % 512) data
    let r := { r with got := got, chunks := r.chunks + 1, waiting := false, reqDue := !last }
    if last then
      let s := s.stPut (a + 510) 2 (crc16 (s.stRead a 510))
      let s := (s.reasmDel n k).put (pPDL n) (rxReadyBit r.buf) 1
      s.rxRecorded n k h f.bytes (fun s an => s.ringWrite n k (1 + an) r.buf 0 r.chunks f.bytes) true false
    else (s.reasmSet n r).ackStore n k (hdrId h)

/-- Chunk 0 opens a reassembly in the lowest free receive buffer, or is refused for its size (R197). -/
def State.rxChunkFirst (s : State) (n : Port) (k h : Nat) (f : PdFrame) (size : Nat) : State :=
  if 260 < size then (s.ackStore n k (hdrId h)).chunkErr n k 3 0
  else match [0, 1, 2, 3].find? fun i => !s.flag (pPDL n) (rxBusyBit i) with
    | none => s.rxFull n
    | some i =>
      if !f.storeOk then s.rxStoreErr n
      else if decide (size ≤ 26) && s.ringFull n then s.rxFull n
      else
        let s := s.stWrite (rxBufAt n i) (f.bytes.take 4 ++ List.replicate 506 0)
        let s := s.put (pPDL n) (rxBusyBit i) 1
        let r : Reasm := { sop := k, buf := i, size := size, got := 0, chunks := 0, reqDue := false, waiting := false }
        (s.reasmSet n r).rxChunkData n k h f r

/-- A chunk of an extended message (R197, R198). -/
def State.rxChunk (s : State) (n : Port) (k h : Nat) (f : PdFrame) (size num : Nat) : State :=
  match s.reasmOf n k with
  | none => if num = 0 then s.rxChunkFirst n k h f size else s.ackStore n k (hdrId h)
  | some r =>
    if hdrType h ≠ hdrType (s.stNat (rxBufAt n r.buf) 2) then
      let s := s.reasmAbort n k 5
      if num = 0 then s.rxChunkFirst n k h f size else s.ackStore n k (hdrId h)
    else if num ≠ r.chunks then
      let s := s.reasmAbort n k 2
      if num = 0 then s.rxChunkFirst n k h f size else s.ackStore n k (hdrId h)
    else if size ≠ r.size then (s.reasmAbort n k 4).ackStore n k (hdrId h)
    else s.rxChunkData n k h f r

/-- The chunks of the transmission at the head of the queue: Data Size of its buffer. -/
def State.txSize (s : State) (n : Port) (i : Nat) : Nat :=
  bitsOf (s.stNat (txBufAt n (s.stNat (txAt n i + 11) 1 % 4) + 2) 2) 0 9

/-- A Chunk Request (R199): it sends the next chunk of the transmission that waits for it, or is recorded with `CHUNK_REQ`. -/
def State.rxChunkReq (s : State) (n : Port) (k h : Nat) (f : PdFrame) (num : Nat) : State :=
  let p := (s.port n).pdl
  match p.queue.head? with
  | some i =>
    if p.phase = .waitChunk ∧ s.txSop n i = k ∧ num = p.chunk then
      (s.ackStore n k (hdrId h)).modPdl n fun p => { p with phase := .ready }
    else s.rxMessage n k h f 0x20
  | none => s.rxMessage n k h f 0x20

/-- Split off the first entry of a list that a test picks. -/
def pickFirst {α : Type} (f : α → Bool) : List α → Option (α × List α)
  | [] => none
  | x :: xs => if f x then some (x, xs) else (pickFirst f xs).map fun r => (r.1, x :: r.2)

/-- Begin the wait for a chunk or a Chunk Request (R210). -/
def State.chunkWait (s : State) (n : Port) : State :=
  let us := boundUs (s.fld (pPDL n) PDL.TIMING_CHUNK_TO_MS) 24 30
  s.modPdl n fun p => { p with chunkUs := us }

/-- A GoodCRC matches the transmission that waits on its SOP* with its MessageID (R190), or is dropped. -/
def State.goodCrc (s : State) (n : Port) (k id : Nat) : State :=
  let pg := pPDL n
  let p := (s.port n).pdl
  let drop := s.bump pg PDL.STAT_ERR_DROP 1
  match pickFirst (fun l => l.waiting && l.sop == k && l.hdr.any fun h => hdrId h == id) p.layer with
  | some (l, rest) =>
    let s := (s.modPdl n fun p => { p with layer := rest }).txCtrUp n k
    if l.answer then (s.raise pg PDL.PG_EVT_AUTO_NS).bump pg PDL.STAT_TX_SENT 1
    else match s.reasmOf n k with
      | some r => (s.reasmSet n { r with waiting := true }).chunkWait n
      | none => s
  | none => match p.queue with
    | i :: _ =>
      if p.phase == .waitGcrc && s.txSop n i == k && (p.hdr.any fun h => hdrId h == id) then
        if s.txExt n i && decide (26 * (p.chunk + 1) < s.txSize n i) then
          ((s.txCtrUp n k).modPdl n fun p => { p with phase := .waitChunk, chunk := p.chunk + 1, wired := false }).chunkWait n
        else
          let s := if s.txExt n i then s.modPdl n fun p => { p with chunk := p.chunk + 1 } else s
          s.txOver n i 3
      else drop
    | [] => drop

/-- A transmission awaits its GoodCRC. -/
def State.txWaits (s : State) (n : Port) : Bool :=
  let p := (s.port n).pdl
  p.phase == .waitGcrc || p.layer.any fun l => l.waiting

/-- A valid frame goes through the steps of Table 8.2. -/
def State.rxValid (s : State) (n : Port) (k : Nat) (f : PdFrame) : State :=
  let pg := pPDL n
  let h := leNat (f.bytes.take 2)
  let good := isControl h 1
  let id := hdrId h
  let p := (s.port n).pdl
  let held := !s.enabled pg
  if !s.pdAttached n || s.flag pg PDL.PG_STAT_HR_PENDING || (held && !(good && s.txWaits n)) then s
  else if p.bistData then
    (if k = 0 && !good then s.modPdl n fun p => { p with gcrc := some (0, id) } else s)
  else if k ≠ 0 && !s.cableOk n k then s.bump pg PDL.STAT_ERR_DROP 1
  else if good then s.goodCrc n k id
  else
    let soft := isControl h 13
    let s := if soft then (s.sopReset n k).raise pg PDL.PG_EVT_SOFT_RESET else s
    let msgid := (s.rd pg PDL.MSGID_TX_SOP.off).toNat
    if bitAt msgid (19 + 4 * k) && bitsOf msgid (16 + 4 * k) 3 == id then
      (s.modPdl n fun p => { p with gcrc := some (k, id) }).bump pg PDL.STAT_ERR_DUP 1
    else if hdrExt h then
      let e := leNat ((f.bytes.drop 2).take 2)
      if !bitAt e 15 then s.rxMessage n k h f 4
      else if bitAt e 10 then s.rxChunkReq n k h f (bitsOf e 11 4)
      else s.rxChunk n k h f (bitsOf e 0 9) (bitsOf e 11 4)
    else s.rxMessage n k h f 0

/-- A frame arrives on the active pin (R182, R184, R185). -/
def State.rxFrame (s : State) (n : Port) (f : PdFrame) : State :=
  let pg := pPDL n
  if (s.port n).pdl.bistCarrier then s
  else
    let s := s.modPdl n fun p => { p with gcrc := none }
    match recognise f.set with
    | none => s.bump pg PDL.STAT_ERR_DROP 1
    | some .debug => s.bump pg PDL.STAT_ERR_DROP 1
    | some .cableReset => s
    | some .hardReset => if s.pdAttached n then s.hardReset n false else s
    | some (.sop k) =>
      let h := leNat (f.bytes.take 2)
      if !f.symbolsOk || f.bytes.length != 2 + 4 * hdrNdo h || decide (30 < f.bytes.length) then s.bump pg PDL.STAT_ERR_DROP 1
      else if !f.crcOk then s.bump pg PDL.STAT_RX_CRC_ERR 1
      else s.rxValid n k f

/-! ### Transmitting -/

/-- Whether the record, with the buffer it names, passes its integrity check (R188 step 2). The record's CRC-16 is the one firmware
wrote with `STATUS` = IDLE (log entry 22). -/
def State.txIntact (s : State) (n : Port) (i : Nat) : Bool :=
  let a := txAt n i
  let bs := s.stRead a 12 ++ [0] ++ s.stRead (a + 13) 49
  !s.stBadIn a 64 && crc16 bs == s.stNat (a + 62) 2 &&
    (!s.txExt n i || s.stChecks (txBufAt n (s.stNat (a + 11) 1 % 4)) 512)

/-- Whether check 3 of R188 refuses a record. -/
def State.txRefused (s : State) (n : Port) (i : Nat) : Bool :=
  let k := s.txSop n i
  !s.pdAttached n || !s.enabled (pPDL n) || s.flag (pPDL n) PDL.PG_STAT_HR_PENDING || k == 3 ||
    (k != 0 && !s.cableOk n k) || (s.txExt n i && (s.rev2 n k || decide (260 < s.txSize n i)))

/-- Collision avoidance applies to a SOP* (R193). -/
def State.avoids (s : State) (n : Port) (k : Nat) : Bool := !s.rev2 n k && s.explicit n

/-- SinkTxOK as the sink sees it: Rp of 3.0 A (R194). -/
def State.sinkTxOk (s : State) (n : Port) : Bool := s.fld (pCC n) CC.PG_STAT_RP_ADV == 3

/-- The record at the head of the queue is checked (R188) and then held or made ready (R193, R194). -/
def State.txCheck (s : State) (n : Port) : State :=
  let p := (s.port n).pdl
  match p.queue with
  | [] => s
  | i :: _ =>
    if p.phase ≠ .idle then s
    else if s.stNat (txAt n i + 3) 1 ≠ s.gen n then s.txOver n i 6
    else if !s.txIntact n i then (s.stNote 1 (txAt n i) 64).txOver n i 7
    else if s.txRefused n i then s.txOver n i 8
    else
      let k := s.txSop n i
      let s := s.stPut (txAt n i + 12) 1 2
      let ams := s.txAms n i && s.avoids n k
      if ams && s.ccState n == .attachedSrc then
        if (s.port n).pdl.ng then s.modPdl n fun p => { p with phase := .ready }
        else
          let us := boundUs (s.fld (pPDL n) PDL.TIMING_SINKTX_MS) 16 20
          (s.modPdl n fun p => { p with phase := .hold, ng := true, holdUs := us }).modCc n fun c => { c with takenRp := none }
      else if ams && !s.sinkTxOk n then s.modPdl n fun p => { p with phase := .waitOk }
      else s.modPdl n fun p => { p with phase := .ready }

/-- The frame of a record as it goes out (R189, R199). -/
def State.txFrame (s : State) (n : Port) (i k : Nat) : Nat × List Byte :=
  let a := txAt n i
  let h := s.hdrOut n k (s.stNat (a + 16) 2) (s.txCtr n k)
  if s.txExt n i then
    let b := txBufAt n (s.stNat (a + 11) 1 % 4)
    let size := s.txSize n i
    let c := (s.port n).pdl.chunk
    let m := min 26 (size - 26 * c)
    let ndo := (2 + m + 3) / 4
    let h := setBits (setBits h 12 3 ndo) 15 1 1
    let e := size % 512 + 2048 * (c % 16) + 32768
    let data := s.stRead (b + 4 + 26 * c) m
    (h, leBytes 2 h ++ leBytes 2 e ++ data ++ List.replicate (4 * ndo - 2 - m) 0)
  else (h, leBytes 2 h ++ s.stRead (a + 18) (s.stNat (a + 8) 2 - 2))

/-- The record at the head of the queue goes on the line, when SinkTxOK lets it (R183, R189, R194); one for a cable that may no longer be spoken to becomes REFUSED
(R195; log entry 109). `tries` counts the retries of the frame (R212). -/
def State.txSend (s : State) (n : Port) : State :=
  let p := (s.port n).pdl
  match p.queue with
  | [] => s
  | i :: _ =>
    let k := s.txSop n i
    if p.phase ≠ .ready ∧ p.phase ≠ .waitOk then s
    else if k ≠ 0 && !s.cableOk n k then s.txOver n i 8
    else if s.txAms n i && s.avoids n k && s.ccState n == .attachedSnk && !p.wired && !s.sinkTxOk n then
      s.modPdl n fun p => { p with phase := .waitOk }
    else
      let fresh := !p.wired
      let s := if fresh && isControl (s.stNat (txAt n i + 16) 2) 13 then s.sopReset n k else s
      let f := s.txFrame n i k
      let h := if fresh then f.1 else p.hdr.getD f.1
      (s.lineOut n k (leBytes 2 h ++ f.2.drop 2)).modPdl n fun p => { p with phase := .waitGcrc, wired := true, hdr := some h, tries := if fresh then 0 else p.tries + 1 }

/-- The layer may start a frame other than GoodCRC: it awaits nothing and has no ordered set to send. -/
def State.lineFree (s : State) (n : Port) : Bool :=
  let p := (s.port n).pdl
  !s.txWaits n && p.gcrc.isNone && !p.bistCarrier && !p.hrSend && s.pdAttached n

/-- A frame of the layer's own fails: an automatic answer is counted, a Chunk Request abandons its reassembly (R190, R198, R208). -/
def State.layerFail (s : State) (n : Port) (l : LayerTx) (rest : List LayerTx) : State :=
  let s := s.modPdl n fun p => { p with layer := rest }
  let s := if l.sent then s.txCtrUp n l.sop else s
  if l.answer then (s.raise (pPDL n) PDL.PG_EVT_AUTO_NS).bump (pPDL n) PDL.STAT_TX_FAIL 1 else s.reasmAbort n l.sop 1

/-- Send a frame the layer builds itself, or send the same frame again (R190); for a cable only under the cable rule (R195). -/
def State.layerSend (s : State) (n : Port) (l : LayerTx) (rest : List LayerTx) : State :=
  if l.sop ≠ 0 && !s.cableOk n l.sop then s.layerFail n l rest
  else
    let ndo := l.body.length / 4
    let h := l.hdr.getD (s.hdrOut n l.sop (l.typ + 4096 * ndo + (if l.answer then 0 else 32768)) (s.txCtr n l.sop))
    (s.lineOut n l.sop (leBytes 2 h ++ l.body)).modPdl n fun p =>
      { p with layer := { l with sent := true, waiting := true, hdr := some h, tries := if l.sent then l.tries + 1 else 0 } :: rest }

/-- TRANSMIT_FRAME: a retry of the layer's own frame goes first, then the record at the head of the queue (R183). -/
def State.txNext (s : State) (n : Port) : State :=
  if !s.lineFree n then s
  else match pickFirst (fun l => l.sent) (s.port n).pdl.layer with
    | some (l, rest) => s.layerSend n l rest
    | none => if (s.port n).pdl.layer.isEmpty then s.txSend n else s

/-- Retries allowed on a SOP* (R190). -/
def State.maxRetries (s : State) (n : Port) (k : Nat) : Nat := if s.rev2 n k then 3 else 2

/-- 1.0 ms pass with no matching GoodCRC (R190). -/
def State.gcrcTimeout (s : State) (n : Port) : State :=
  let p := (s.port n).pdl
  match pickFirst (fun l => l.waiting) p.layer with
  | some (l, rest) =>
    if l.tries < s.maxRetries n l.sop then
      s.modPdl n fun p => { p with layer := { l with waiting := false } :: rest }
    else s.layerFail n l rest
  | none =>
    if p.phase ≠ .waitGcrc then s
    else match p.queue with
      | [] => s
      | i :: _ =>
        if p.tries < s.maxRetries n (s.txSop n i) then s.modPdl n fun p => { p with phase := .ready }
        else s.txOver n i 4

/-! ### The commands -/

/-- RECEIVE_FRAME (R185). -/
def execReceiveFrame (n : Port) (f : PdFrame) (s : State) : Host.Outcome State Fault Refusal :=
  .next (s.cmd (pPDL n) fun s => s.rxFrame n f)

/-- SEND_GOODCRC (R186): the GoodCRC owed goes on the line, while the layer is not held (R205) and the cable rule allows its SOP* (R195). -/
def execSendGoodcrc (n : Port) (s : State) : Host.Outcome State Fault Refusal :=
  .next (s.cmd (pPDL n) fun s =>
    match (s.port n).pdl.gcrc with
    | none => s
    | some (k, id) =>
      let h := s.hdrOut n k 1 id
      (if s.enabled (pPDL n) && (k == 0 || s.cableOk n k) then s.lineOut n k (leBytes 2 h) else s).modPdl n fun p => { p with gcrc := none })

/-- AUTO_ANSWER (R208): a queued automatic answer goes on the line ahead of the queue, while the layer is not held (R205). -/
def execAutoAnswer (n : Port) (s : State) : Host.Outcome State Fault Refusal :=
  .next (s.cmd (pPDL n) fun s =>
    if !s.lineFree n || !s.enabled (pPDL n) then s
    else match pickFirst (fun l => l.answer && !l.sent) (s.port n).pdl.layer with
      | some (l, rest) => s.layerSend n l rest
      | none => s)

/-- TX_REQ (R187). -/
def execTxReq (n : Port) (i : Fin 16) (s : State) : Host.Outcome State Fault Refusal :=
  .next (s.cmd (pPDL n) fun s => s.txReq n i.val)

/-- TX_HEAD_CHECK (R188). -/
def execTxHeadCheck (n : Port) (s : State) : Host.Outcome State Fault Refusal := .next (s.cmd (pPDL n) fun s => s.txCheck n)

/-- COLLISION_HOLD_END (R193): the held record is sent. -/
def execCollisionHoldEnd (n : Port) (s : State) : Host.Outcome State Fault Refusal :=
  .next (s.cmd (pPDL n) fun s =>
    if (s.port n).pdl.phase = .hold then
      let s := s.modPdl n fun p => { p with phase := .ready }
      if s.lineFree n && (s.port n).pdl.layer.isEmpty then s.txSend n else s
    else s)

/-- TRANSMIT_FRAME (R183). -/
def execTransmitFrame (n : Port) (s : State) : Host.Outcome State Fault Refusal := .next (s.cmd (pPDL n) fun s => s.txNext n)

/-- GOODCRC_TIMEOUT (R190). -/
def execGoodcrcTimeout (n : Port) (s : State) : Host.Outcome State Fault Refusal := .next (s.cmd (pPDL n) fun s => s.gcrcTimeout n)

/-- CHUNK_REQUEST_SEND (R197): the Chunk Request for the next chunk goes on the line, while the layer is not held (R205). -/
def execChunkRequestSend (n : Port) (s : State) : Host.Outcome State Fault Refusal :=
  .next (s.cmd (pPDL n) fun s =>
    if !s.lineFree n || !s.enabled (pPDL n) then s
    else match (s.port n).pdl.reasm.find? fun r => r.reqDue with
      | none => s
      | some r =>
        let typ := hdrType (s.stNat (rxBufAt n r.buf) 2)
        let e := r.size % 512 + 1024 + 2048 * (r.chunks % 16) + 32768
        let l : LayerTx := { answer := false, sop := r.sop, typ := typ, body := leBytes 2 e ++ [0, 0], sent := false, waiting := false, tries := 0, hdr := none }
        (s.reasmSet n { r with reqDue := false }).layerSend n l (s.port n).pdl.layer)

/-- CHUNK_WAIT_TIMEOUT (R198, R199). -/
def execChunkWaitTimeout (n : Port) (s : State) : Host.Outcome State Fault Refusal :=
  .next (s.cmd (pPDL n) fun s =>
    match (s.port n).pdl.reasm.find? fun r => r.waiting with
    | some r => s.reasmAbort n r.sop 1
    | none =>
      match (s.port n).pdl.queue with
      | i :: _ => if (s.port n).pdl.phase = .waitChunk then s.txOver n i 10 else s
      | [] => s)

/-- PDL_CMD_HARD_RESET (R200). -/
def execPdlCmdHardReset (n : Port) (key : BitVec 16) (s : State) : Host.Outcome State Fault Refusal :=
  .next (s.keyCmd (pPDL n) key.toNat 0x4B9D fun s => s.hardResetStart n)

/-- HARD_RESET_SENT (R200 step 3). -/
def execHardResetSent (n : Port) (s : State) : Host.Outcome State Fault Refusal :=
  .next (s.cmd (pPDL n) fun s => if (s.port n).pdl.hrSend then (s.lineOut n 3 []).hardReset n true else s)

/-- HARD_RESET_RECEIVED (R201). -/
def execHardResetReceived (n : Port) (s : State) : Host.Outcome State Fault Refusal :=
  .next (s.cmd (pPDL n) fun s => if s.pdAttached n then s.hardReset n false else s)

/-- Cable Reset (R203). -/
def State.cableReset (s : State) (n : Port) : State :=
  if !s.cableOk n 1 then s.raise (pPDL n) PDL.PG_EVT_CMD_REFUSED
  else
    let s := s.txOverAll n (fun s i => s.txSop n i == 1 || s.txSop n i == 2) 5
    let s := (s.sopReset n 1).sopReset n 2
    (s.lineOut n 4 []).raise (pPDL n) PDL.PG_EVT_CR_SENT

/-- PDL_CMD_CABLE_RESET (R203). -/
def execPdlCmdCableReset (n : Port) (key : BitVec 16) (s : State) : Host.Outcome State Fault Refusal :=
  .next (s.keyCmd (pPDL n) key.toNat 0x4B9D fun s => s.cableReset n)

/-- AMS_END (R193): ignored as sink or while `AMS` = 0. -/
def State.amsEnd (s : State) (n : Port) : State :=
  if s.ccState n = .attachedSrc then s.modPdl n fun p => { p with ng := false } else s

/-- PDL_CMD_AMS_END (R193). -/
def execPdlCmdAmsEnd (n : Port) (key : BitVec 16) (s : State) : Host.Outcome State Fault Refusal :=
  .next (s.keyCmd (pPDL n) key.toNat 0x4B9D fun s => s.amsEnd n)

/-- PDL_CMD_HR_COMPLETE (R202). -/
def execPdlCmdHrComplete (n : Port) (key : BitVec 16) (s : State) : Host.Outcome State Fault Refusal :=
  .next (s.keyCmd (pPDL n) key.toNat 0x4B9D fun s => s.put (pPDL n) PDL.PG_STAT_HR_PENDING 0)

/-- CANCEL: queued records and a held one become CANCELLED (Table 8.11). -/
def State.txCancel (s : State) (n : Port) : State :=
  let ph := (s.port n).pdl.phase
  let held := ph == .idle || ph == .hold || ph == .waitOk
  let head := (s.port n).pdl.queue.head?
  s.txOverAll n (fun _ i => held || head != some i) 9

/-- PDL_CMD_CANCEL (R194). -/
def execPdlCmdCancel (n : Port) (key : BitVec 16) (s : State) : Host.Outcome State Fault Refusal :=
  .next (s.keyCmd (pPDL n) key.toNat 0x4B9D fun s => s.txCancel n)

/-- Clear the protocol statistics (Table 8.11). -/
def State.pdlClearStats (s : State) (n : Port) : State :=
  (((s.wr (pPDL n) 0x60 0).wr (pPDL n) 0x64 0).wr (pPDL n) 0x68 0).wr (pPDL n) 0x6C 0

/-- PDL_CMD_CLEAR_STATS (R217). -/
def execPdlCmdClearStats (n : Port) (key : BitVec 16) (s : State) : Host.Outcome State Fault Refusal :=
  .next (s.keyCmd (pPDL n) key.toNat 0x4B9D fun s => s.pdlClearStats n)

/-- A write to `MSGID_LOAD` (R206). -/
def State.msgidLoad (s : State) (n : Port) (v : Nat) : State :=
  if s.enabled (pPDL n) then s.lockedWrite (pPDL n)
  else s.wr (pPDL n) PDL.MSGID_TX_SOP.off (BitVec.ofNat 32 (v &&& 0x0FFF0777))

/-- MSGID_LOAD (R206). -/
def execMsgidLoad (n : Port) (v : Word) (s : State) : Host.Outcome State Fault Refusal :=
  .next (s.cmd (pPDL n) fun s => s.msgidLoad n v.toNat)

/-- A write to `PDL[n].PG_CTRL.ENABLE` (R205, R234). After a WARM reset, or a BLOCK reset of the page, firmware sends Soft_Reset before anything else on a port
whose snapshot holds a contract (R27, R28). -/
def State.pdlEnable (s : State) (n : Port) (b : Bool) : State :=
  let s := s.putB (pPDL n) PDL.PG_CTRL_ENABLE b
  if b then
    if s.flag (pPOL n) POL.PG_STAT_HR_OWED then (s.put (pPOL n) POL.PG_STAT_HR_OWED 0).hardResetStart n
    else if s.fw && (s.port n).fw.softDue then
      let s := s.modPort n fun p => { p with fw := { p.fw with softDue := false } }
      if s.snapValid n then s.fwSend n 0 13 [] false else s
    else s
  else
    let p := (s.port n).pdl
    let s := s.modPdl n fun p => { p with gcrc := none, layer := p.layer.filter fun l => l.sent, reasm := p.reasm.map fun r => { r with reqDue := false } }
    s.txOverAll n (fun _ i => !(p.wired && p.queue.head? == some i)) 8

/-- PDL_ENABLE_WRITE (R205). -/
def execPdlEnableWrite (n : Port) (on : Bool) (s : State) : Host.Outcome State Fault Refusal :=
  .next (s.cmd (pPDL n) fun s => s.pdlEnable n on)

/-- A write to `XBUF_REL` (R214): buffers being filled are left alone. -/
def State.xbufRel (s : State) (n : Port) (m : Nat) : State :=
  [0, 1, 2, 3].foldl (init := s) fun s i =>
    if bitAt m i && !((s.port n).pdl.reasm.any fun r => r.buf == i) then
      (s.put (pPDL n) (rxBusyBit i) 0).put (pPDL n) (rxReadyBit i) 0
    else s

/-- XBUF_REL (R214). -/
def execXbufRel (n : Port) (m : BitVec 4) (s : State) : Host.Outcome State Fault Refusal :=
  .next (s.cmd (pPDL n) fun s => s.xbufRel n m.toNat)

/-- RX_RD_WRITE (R215). -/
def execRxRdWrite (n : Port) (i : BitVec 6) (s : State) : Host.Outcome State Fault Refusal :=
  .next (s.cmd (pPDL n) fun s => s.put (pPDL n) PDL.RX_RD_INDEX i.toNat)

/-- BIST_CARRIER_END (R209). -/
def execBistCarrierEnd (n : Port) (s : State) : Host.Outcome State Fault Refusal :=
  .next (s.cmd (pPDL n) fun s => s.modPdl n fun p => { p with bistCarrier := false })

end Sys2Proof.Machine
end

