-- ==== Sys2Proof/Machine/Pol.lean ====
section
/-!
DEFINITION. Contracts in hardware (chapter 9): committing and clearing the snapshot, windows, voltage transitions, role
commands and the Hard Reset sequence as source, with the commands of `POL[n]`.
-/

namespace Sys2Proof.Machine

/-- Current a sink may draw for the Rp it sees, 10 mA per LSB (R8, R300). -/
def rpCurrent (adv : Nat) : Nat := if adv = 3 then 300 else if adv = 2 then 150 else 50

/-! ### Windows (R233, R270), in units of 0.2 mV -/

/-- `WINDOW.FIX_PCT` as it acts: 3-8. -/
def State.fixPct (s : State) (n : Port) : Nat := max 3 (min 8 (s.inf (pPOL n) POL.WINDOW_FIX_PCT))

/-- The window of a contract of a type, with its PDO and voltage (20 mV per LSB) (R233). Battery bounds are 50 mV per LSB in
bits [29:20] and [19:10] of the PDO (log entry 20). -/
def State.windowOf (s : State) (n : Port) (ty pdo v : Nat) : Nat × Nat :=
  let pct := s.fixPct n
  match ty with
  | 1 => if v = 250 then win5 else (v * (100 - pct), v * (100 + pct))
  | 2 => (250 * bitsOf pdo 10 10, 250 * bitsOf pdo 20 10)
  | _ =>
    let h := max (v * pct) (100 * s.inf (pPOL n) POL.WINDOW_APDO_MIN)
    (v * 100 - h, v * 100 + h)

/-- The window a running transition is to enter (R233): that of its type about `TRANS_STAT.V_NEW`. -/
def State.transWindow (s : State) (n : Port) : Nat × Nat :=
  s.windowOf n (s.snapType n) (s.snapWord n 1) (s.fld (pPOL n) POL.TRANS_STAT_V_NEW)

/-- The window of the contract the snapshot holds. -/
def State.snapWindow (s : State) (n : Port) : Nat × Nat := s.windowOf n (s.snapType n) (s.snapWord n 1) (s.snapV n)

/-- The span of two windows. -/
def span (a b : Nat × Nat) : Nat × Nat := (min a.1 b.1, max a.2 b.2)

/-- The window in force at a tick boundary (R270). `calm`: every VBUS sample of the tick lay in 4.75-5.50 V. -/
def State.windowTick (s : State) (n : Port) (calm : Bool) : State :=
  let old := ((s.port n).pol.oldLo, (s.port n).pol.oldHi)
  if s.snapValid n then
    if s.snapTrans n then
      let st := s.fld (pPOL n) POL.TRANS_STAT_STATE
      if s.ccState n = .attachedSnk then s.setWin n (span old (s.snapWindow n)) false
      else if st = 2 ∨ st = 3 then s.setWin n (span old (s.snapWindow n)) false
      else if st = 4 then s.setWin n (s.snapWindow n) false
      else s.setWin n old false
    else s.setWin n (s.snapWindow n) false
  else
    let held := (s.port n).pol.held || s.snapMarked n
    let ends := if s.ccState n = .attachedSnk then calm else !s.guardDrives n
    if held && !ends then s.modPol n fun p => { p with held := true } else s.setWin n win5 false

/-- OVP level in force, 64 mV per LSB (R270). -/
def State.ovpLevel (s : State) (n : Port) : Nat :=
  let pg := pGUARD n
  if s.inf pg GUARD.OVP_CFG_AUTO = 1 then
    min 1023 ((s.port n).pol.winHi * (100 + max 5 (s.inf pg GUARD.OVP_CFG_PCT)) / 32000)
  else s.inf pg GUARD.OVP_CFG_LEVEL

/-- UVP level in force. -/
def State.uvpLevel (s : State) (n : Port) : Nat :=
  let pg := pGUARD n
  if s.inf pg GUARD.UVP_CFG_AUTO = 1 then
    min 1023 (((s.port n).pol.winLo * (100 - s.inf pg GUARD.UVP_CFG_PCT) + 31999) / 32000)
  else s.inf pg GUARD.UVP_CFG_LEVEL

/-! ### Commit, clear, transition and role commands (R219, R232, R239) -/

/-- A generation check of `POL[n]` commands. -/
def State.polGen (s : State) (n : Port) (gen : Nat) : Bool := gen == s.gen n && s.enabled (pPOL n)

/-- GEN_REFUSED (Table 9.12). -/
def State.genRefused (s : State) (n : Port) : State := s.raise (pPOL n) POL.PG_EVT_GEN_REFUSED

/-- A COMMIT takes effect: the whole snapshot is written with `VALID` = 1 and a fresh CRC (R219, Table 9.1). -/
def State.commit (s : State) (n : Port) : State :=
  let pg := pPOL n
  let flags := s.fld pg POL.CON_FLAGS_FLAGS
  let trans := bitsOf flags 8 2 == 1
  let was := s.snapValid n
  let v := s.fld pg POL.CON_VI_V
  let pmax := s.fld pg POL.CON_PMAX_PMAX
  let vOld := if !trans then v else if was then s.snapV n else 250
  let pm := if trans && was then max pmax (s.snapPmax n) else pmax
  let oldWin := if was then s.snapWindow n else win5
  let body := leBytes 4 (flags % 1024 + 65536 * s.gen n + 2 ^ 31) ++ leBytes 4 (s.rd pg POL.CON_PDO_OBJ.off).toNat ++
    leBytes 4 (s.rd pg POL.CON_RDO_OBJ.off).toNat ++ leBytes 4 (v + 65536 * s.fld pg POL.CON_VI_I) ++
    leBytes 4 (vOld + 65536 * pm) ++ leBytes 4 s.tick ++ leBytes 4 0
  let s := s.aosWrite (snapAt n) (body ++ leBytes 4 (crc16 body))
  let s := s.modPol n fun p => { p with snapBad := false, held := false, oldLo := oldWin.1, oldHi := oldWin.2 }
  let s := if s.pdAttached n then s.put pg POL.PG_STAT_CONTRACT 2 else s
  let s := if !trans && s.fld pSHARE (SHARE.TRIM_V_REQ.at n.val) == v then s.put pSHARE (SHARE.TRIM_PENDING.at n.val) 0 else s
  s.raise pg POL.PG_EVT_COMMIT_DONE

/-- A `TRANS_CMD` takes effect: the transition waits `SRC_TRANS_MS`, or is refused (R232 step 1). -/
def State.transBegin (s : State) (n : Port) (vNew gen : Nat) : State :=
  let pg := pPOL n
  if !s.polGen n gen || s.transRuns n || !s.snapValid n || !s.snapTrans n then s.genRefused n
  else
    let s := ((s.put pg POL.TRANS_STAT_V_OLD (s.snapVOld n)).put pg POL.TRANS_STAT_V_NEW vNew).put pg POL.TRANS_STAT_STATE 1
    let s := s.modPol n fun p => { p with
      slew := max 1 (min 250 (s.fld pg POL.CONV_CFG_SLEW)), inWin := 0, timerUs := boundUs (s.inf pg POL.TIMING_SRC_TRANS_MS) 25 30 }
    s.bump pg POL.COUNT_TRANS 1

/-- A frame of the port is on the line as far as the commands show it: it awaits its GoodCRC, a GoodCRC is owed, or the BIST carrier runs (log entry 110). -/
def State.frameOn (s : State) (n : Port) : Bool := s.txWaits n || (s.port n).pdl.gcrc.isSome || (s.port n).pdl.bistCarrier

/-- A waiting command takes effect at a boundary; `ROLE_CMD` waits on while a frame is on the line (R239). -/
def State.polCmd (s : State) (n : Port) (c : PolCmd) : State :=
  match c with
  | .commit gen => if s.polGen n gen then s.commit n else s.genRefused n
  | .clear gen => if s.polGen n gen then s.snapClear n else s.genRefused n
  | .trans v gen => s.transBegin n v gen
  | .role r gen =>
    if s.frameOn n then s.polQueue n (.role r gen)
    else if s.polGen n gen && !s.flag (pPDL n) PDL.PG_STAT_HR_PENDING then
      (s.putB (pPDL n) PDL.CFG_DATA_ROLE r).raise (pPOL n) POL.PG_EVT_ROLE_DONE
    else s.genRefused n

/-- The snapshot's CRC check of a boundary, and firmware's answer to `SNAP_BAD`: Soft_Reset as source, Hard Reset as sink (R221; log entry 83). -/
def State.snapCheck (s : State) (n : Port) : State :=
  let pg := pPOL n
  if s.snapMarked n then
    if s.snapCrcOk n then
      let s := (s.put pg POL.PG_STAT_SNAP_VALID 1).putB pg POL.PG_STAT_EPR_MODE (bitAt (s.snapWord n 0) 3)
      s.modPol n fun p => { p with snapBad := false }
    else
      let s := (s.put pg POL.PG_STAT_SNAP_VALID 0).put pg POL.PG_STAT_EPR_MODE 0
      if (s.port n).pol.snapBad then s
      else
        let s := (s.modPol n fun p => { p with snapBad := true }).polEvt n POL.PG_EVT_SNAP_BAD
        if !s.fw || !s.enabled (pPDL n) then s
        else if s.ccState n = .attachedSrc then s.fwSend n 0 13 [] false
        else if s.ccState n = .attachedSnk then s.hardResetStart n
        else s
  else (s.put pg POL.PG_STAT_SNAP_VALID 0).put pg POL.PG_STAT_EPR_MODE 0

/-- The converter target moves one step until it reaches `V_NEW`, and the ticks that VBUS has lain in the new window are counted (R232 steps 2 and 4). The
discharge assist ends when samples show VBUS below the window's upper bound (R233). `vbus`: the tick's samples in mV. -/
def State.transStep (s : State) (n : Port) (vbus : List Nat) : State :=
  let pg := pPOL n
  let st := s.fld pg POL.TRANS_STAT_STATE
  let s := if st = 2 ∨ st = 3 then
    let w := s.transWindow n
    let inside := !vbus.isEmpty && vbus.all fun v => decide (w.1 ≤ 5 * v) && decide (5 * v ≤ w.2)
    let s := s.modPol n fun p => { p with inWin := if inside then p.inWin + 1 else 0 }
    if !vbus.isEmpty && vbus.all fun v => decide (5 * v < w.2) then s.assistEnd n else s
    else s
  if (s.port n).pol.moving && (st == 2 || st == 4) then
    let goal := 4 * s.fld pg POL.TRANS_STAT_V_NEW
    let p := (s.port n).pol
    let t := if p.target + p.slew ≤ goal then p.target + p.slew
      else if goal + p.slew ≤ p.target then p.target - p.slew else goal
    let s := s.setTarget n t
    if t = goal then (s.modPol n fun p => { p with moving := false }).put pg POL.TRANS_STAT_STATE (if st = 2 then 3 else 4) else s
  else s

/-- The contract work of a boundary for one port: waiting commands in order, the CRC check, the DAC for the target held under the `CONV_CFG` in force (R226), the level of
`CEN` (R227). -/
def State.polTick (s : State) (n : Port) : State :=
  let cmds := (s.port n).pol.cmds
  let s := s.modPol n fun p => { p with cmds := [] }
  let s := cmds.foldl (fun s c => s.polCmd n c) s
  let s := s.snapCheck n
  let s := s.setTarget n (s.port n).pol.target
  if s.shadowing n then s else s.cenLevel n (s.ccState n == .attachedSrc)

/-- A transition fails (R232 step 5): the snapshot is cleared and a Hard Reset issued, or owed while the layer is held. -/
def State.transFail (s : State) (n : Port) : State :=
  let pg := pPOL n
  let s := ((s.put pg POL.TRANS_STAT_STATE 5).bump pg POL.COUNT_TRANS_FAIL 1).assistEnd n
  let s := (s.snapClear n).polEvt n POL.PG_EVT_TRANS_FAIL
  if s.enabled (pPDL n) then s.hardResetStart n else s.put pg POL.PG_STAT_HR_OWED 1

/-! ### The commands -/

/-- CON_COMMIT (R219). -/
def execConCommit (n : Port) (gen : BitVec 8) (s : State) : Host.Outcome State Fault Refusal :=
  .next (s.cmd (pPOL n) fun s => s.polQueue n (.commit gen.toNat))

/-- CON_CLEAR (R219). -/
def execConClear (n : Port) (gen : BitVec 8) (s : State) : Host.Outcome State Fault Refusal :=
  .next (s.cmd (pPOL n) fun s => s.polQueue n (.clear gen.toNat))

/-- TRANS_GO (R232). -/
def execTransGo (n : Port) (vNew : BitVec 12) (gen : BitVec 8) (s : State) : Host.Outcome State Fault Refusal :=
  .next (s.cmd (pPOL n) fun s => s.polQueue n (.trans vNew.toNat gen.toNat))

/-- TRANSITION_START (R232 step 2): the target begins to slew, the guard references widen, the discharge assist goes on. -/
def execTransitionStart (n : Port) (s : State) : Host.Outcome State Fault Refusal :=
  .next (if s.fld (pPOL n) POL.TRANS_STAT_STATE = 1 then
      let pg := pPOL n
      let vo := s.fld pg POL.TRANS_STAT_V_OLD
      let limit := boundUs (s.inf pg POL.TRANS_LIMIT_LIMIT_MS) 10 500
      let s := (s.put pg POL.TRANS_STAT_STATE 2).modPol n fun p => { p with twinTrim := 0, inWin := 0, moving := true, timerUs := limit }
      let s := (s.setTarget n (4 * vo)).windowTick n false
      if s.inf pg POL.CFG_DSCH_ASSIST = 1 && decide (s.fld pg POL.TRANS_STAT_V_NEW < vo) then
        (s.put pg POL.PG_STAT_DSCH_ASSIST 1).dschOn n false true
      else s
    else s)

/-- TRANS_DONE (R232 step 4): the target goes on to `V_NEW` at the slew rate, and firmware sends PS_RDY. -/
def execTransDone (n : Port) (s : State) : Host.Outcome State Fault Refusal :=
  .next (
    let pg := pPOL n
    let st := s.fld pg POL.TRANS_STAT_STATE
    if (st = 2 ∨ st = 3) ∧ 2 ≤ (s.port n).pol.inWin then
      let s := (s.put pg POL.TRANS_STAT_STATE 4).assistEnd n
      let s := s.windowTick n false
      let s := s.modGuard n fun g => { g with blank := s.blankTk n }
      let s := s.polEvt n POL.PG_EVT_TRANS_DONE
      if s.fw then s.fwSendFor n 0 6 [] false (.psRdy (s.gen n)) else s
    else s)

/-- TRANS_FAIL (R232 step 5). -/
def execTransFail (n : Port) (s : State) : Host.Outcome State Fault Refusal :=
  .next (
    let st := s.fld (pPOL n) POL.TRANS_STAT_STATE
    if (st = 2 ∨ st = 3) ∧ (s.port n).pol.inWin < 2 then s.transFail n else s)

/-- ROLE_CMD (R239). -/
def execRoleCmd (n : Port) (dfp : Bool) (gen : BitVec 8) (s : State) : Host.Outcome State Fault Refusal :=
  .next (s.cmd (pPOL n) fun s => s.polQueue n (.role dfp gen.toNat))

/-- HR_WAIT_EXPIRY (Table 9.6, step 2). -/
def execHrWaitExpiry (n : Port) (s : State) : Host.Outcome State Fault Refusal :=
  .next (if s.fld (pPOL n) POL.PG_STAT_HR_SEQ = 1 then
      let s := ((s.guardOff n).dschOn n false false).setTarget n 0
      let s := (s.setWin n win5 false).vconnOff n
      s.put (pPOL n) POL.PG_STAT_HR_SEQ 2
    else s)

/-- HR_VSAFE0 (Table 9.6, step 3). -/
def execHrVsafe0 (n : Port) (mv : Nat) (s : State) : Host.Outcome State Fault Refusal :=
  .next (
    let s := s.setVbus n mv
    if s.fld (pPOL n) POL.PG_STAT_HR_SEQ = 2 ∧ mv < 800 then
      let us := boundUs (s.inf (pPOL n) POL.TIMING_HR_RECOVER_MS) 660 1000
      (((s.dschOff n).put (pPOL n) POL.PG_STAT_HR_SEQ 3).modPol n fun p => { p with timerUs := us }).polEvt n POL.PG_EVT_HR_VSAFE0
    else s)

/-- HR_RECOVER_EXPIRY (Table 9.6, step 4): the guard may go through PRECHECK, and VCONN follows R162. -/
def execHrRecoverExpiry (n : Port) (s : State) : Host.Outcome State Fault Refusal :=
  .next (if s.fld (pPOL n) POL.PG_STAT_HR_SEQ = 3 then
      (s.put (pPOL n) POL.PG_STAT_HR_SEQ 4).modCc n fun c => { c with autoDone := false }
    else s)

end Sys2Proof.Machine
end

