-- ==== Sys2Proof/Machine/Guard.lean ====
section
/-!
DEFINITION. The path guard of a port (chapter 11): its state machine, limits, trips, retirement, the comparator self-test
and the measurement block, with the commands of `GUARD[n]` and `CMPT`.
-/

namespace Sys2Proof.Machine

/-! ### Limits in force -/

/-- The current limit in force, 10 mA per LSB (R271); as sink without an explicit contract at most what the Rp seen allows (R8; log entry 113). -/
def State.limitInForce (s : State) (n : Port) : Nat :=
  let pg := pGUARD n
  let l := s.inf pg GUARD.ILIM_LIMIT
  if s.guardPath n = 1 ∧ s.inf pg GUARD.ILIM_AUTO_DEF = 1 ∧ !s.explicit n then
    min l (match s.ccRp n with | 0 => 100 | 1 => 175 | _ => 350)
  else if s.guardPath n = 2 ∧ !s.explicit n then min l (rpCurrent (s.fld (pCC n) CC.PG_STAT_RP_ADV))
  else l

/-- The short-circuit threshold in force, 20 mA per LSB (R263). -/
def State.scInForce (s : State) (n : Port) : Nat :=
  if s.guardState n = 2 then s.inf (pGUARD n) GUARD.SC_CFG_RAMP_LEVEL else s.inf (pGUARD n) GUARD.SC_CFG_LEVEL

/-- I_CEIL of R263, 10 mA per LSB. -/
def State.iCeil (s : State) (n : Port) : Nat := min (s.inf (pGUARD n) GUARD.RAMP_CFG_FB_ILIM) (s.limitInForce n)

/-- I_FB of R263, 10 mA per LSB: FB_P is 10 mW per LSB, `vds` in mV. -/
def State.iFb (s : State) (n : Port) (vds : Nat) : Nat :=
  let c := s.iCeil n
  max (c / 8) (if vds = 0 then c else min c (s.inf (pGUARD n) GUARD.SOA_CFG_FB_P * 1000 / vds))

/-- UVP and OCP are blanked (R269). -/
def State.blanked (s : State) (n : Port) : Bool :=
  let st := s.guardState n
  let tr := s.fld (pPOL n) POL.TRANS_STAT_STATE
  st == 2 || st == 4 || decide (0 < (s.port n).guard.blank) || tr == 2 || tr == 3

/-! ### OFF, PRECHECK and RAMP (R261, R262) -/

/-- OFF's condition for PRECHECK (Table 11.1). -/
def State.mayServe (s : State) (n : Port) : Bool :=
  let pg := pGUARD n
  let hr := s.fld (pPOL n) POL.PG_STAT_HR_SEQ
  s.enabled pg && !s.recovery &&
    ((s.ccState n == .attachedSrc && s.inf pg GUARD.CFG_SRC_EN == 1 && (hr == 0 || hr == 4)) ||
      (s.ccState n == .attachedSnk && s.inf pg GUARD.CFG_SNK_EN == 1 && s.flag pg GUARD.PG_STAT_SNK_REQ))

/-- OFF may be left for PRECHECK: its condition holds, and `RAMP_OK` = 1 (R95). -/
def State.mayLeave (s : State) (n : Port) : Bool := s.mayServe n && s.flag pBOOT BOOT.PG_STAT_RAMP_OK

/-- The FAILED mask of a port's comparator copies. -/
def State.failedMask (s : State) (n : Port) : Nat := s.fld pCMPT (CMPT.PORT_STAT_FAILED.at n.val)

/-- Check 3 of R262: no comparator has both copies FAILED, and a survivor has passed a test since PRECHECK was entered. -/
def State.copiesReady (s : State) (n : Port) : Bool :=
  let m := s.failedMask n
  let p := (s.port n).guard.preTests
  [0, 1, 2, 3, 4, 5].all fun c =>
    let a := bitAt m (2 * c)
    let b := bitAt m (2 * c + 1)
    !(a && b) && (!a || bitAt p (2 * c + 1)) && (!b || bitAt p (2 * c))

/-- The first PRECHECK test that fails, coded as `HOLD`; 0 when none does (R262). -/
def State.preHold (s : State) (n : Port) : Nat :=
  let mg := pMEAS n
  let p := s.port n
  if !s.flag pBOOT BOOT.PG_STAT_RAMP_OK then 1
  else if !p.meas.on || !s.flag mg MEAS.PG_STAT_CAL_OK then 2
  else if !s.copiesReady n then 3
  else if s.fld mg MEAS.CFG_NTC_EN == 1 && (s.flag mg MEAS.PG_STAT_NTC_OPEN || s.flag mg MEAS.PG_STAT_NTC_SHORT ||
      decide ((s.inf (pGUARD n) GUARD.THERM_CFG_WARN : Int) ≤ signed 16 (s.fld mg MEAS.TFET_AVG))) then 4
  else if s.ccState n = .attachedSrc then
    if 800 < p.vbusMv then 5 else if p.vinMv < 4750 then 6 else if 5500 < p.vinMv then 7 else 0
  else if p.vbusMv < 4000 ∨ 64 * s.ovpLevel n ≤ p.vbusMv then 5 else 0

/-- PRECHECK is judged: back to OFF when what led to it no longer holds, RAMP when every check holds, else `HOLD` (R262). -/
def State.preEval (s : State) (n : Port) : State :=
  if !s.mayServe n then s.guardTo n 0
  else
    let h := s.preHold n
    if h = 0 then (s.guardTo n 2).modGuard n fun g => { g with vinRamp := (s.port n).vinMv }
    else s.put (pGUARD n) GUARD.PG_STAT_HOLD h

/-- Only a Hard Reset sequence that has not reached RAMP keeps the source path from being served (Tables 11.1 and 11.3). -/
def State.hrHolds (s : State) (n : Port) : Bool :=
  let hr := s.fld (pPOL n) POL.PG_STAT_HR_SEQ
  s.enabled (pGUARD n) && !s.recovery && s.ccState n == .attachedSrc && s.inf (pGUARD n) GUARD.CFG_SRC_EN == 1 && !(hr == 0 || hr == 4)

/-- A guard whose backoff time is over leaves BACKOFF (Table 11.1); a Hard Reset sequence holds it until it has reached RAMP (Table 11.3). -/
def State.backoffLeave (s : State) (n : Port) : State :=
  if s.mayServe n then ((s.guardTo n 1).raise (pGUARD n) GUARD.PG_EVT_RETRY).preEval n
  else if s.hrHolds n then s.modGuard n fun g => { g with waitHr := true }
  else s.guardTo n 0

/-- OFF and PRECHECK at a tick boundary, and `ENABLE` = 0 (R261, R262, R278). A guard that leaves OFF is judged at the same boundary
(Table 7.5, step 7). -/
def State.guardTick (s : State) (n : Port) : State :=
  let st := s.guardState n
  let was := (s.port n).guard.disabled
  let s := s.modGuard n fun g => { g with disabled := !s.enabled (pGUARD n) }
  if !s.enabled (pGUARD n) then
    let s := if (1 ≤ st ∧ st ≤ 4) ∨ !was then s.guardHalt n else s
    if st = 6 then s.guardTo n 0 else s
  else match st with
    | 6 => if (s.port n).guard.waitHr then s.backoffLeave n else s
    | 0 => if s.mayLeave n then (s.guardTo n 1).preEval n else s
    | 1 => s.preEval n
    | _ =>
      let steady := s.fld (pPOL n) POL.TRANS_STAT_STATE != 2 && s.fld (pPOL n) POL.TRANS_STAT_STATE != 3
      s.modGuard n fun g => { g with blank := if st == 3 && steady then g.blank - 1 else g.blank }

/-- OCP and OTP at a tick boundary (R267): `mean`: magnitude of the tick's mean current in 10 mA; `hot`: the temperature
exceeds `TRIP` or the thermistor has failed. -/
def State.slowTrips (s : State) (n : Port) (mean : Nat) (hot : Bool) : State :=
  let pg := pGUARD n
  if !s.guardDrives n then s
  else
    let overNow := !s.blanked n && decide (s.inf pg GUARD.OCP_CFG_LEVEL < mean)
    let s := s.modGuard n fun g => { g with ocp := if overNow then g.ocp + 1 else 0, otp := if hot then g.otp + 1 else 0 }
    let g := (s.port n).guard
    let c := (if max 1 (s.inf pg GUARD.OCP_CFG_TK) ≤ g.ocp then 16 else 0) + (if 2 ≤ g.otp then 32 else 0)
    if c = 0 then s else s.trip n c (s.guardPath n == 1)

/-- `THERM` at a tick boundary (R290); `t` in 0.125 °C. -/
def State.thermTick (s : State) (n : Port) (t : Int) : State :=
  let pg := pGUARD n
  let warn : Int := s.inf pg GUARD.THERM_CFG_WARN
  match s.fld pg GUARD.PG_STAT_THERM with
  | 0 => if warn ≤ t then (s.put pg GUARD.PG_STAT_THERM 1).raise pg GUARD.PG_EVT_THERM_WARN else s
  | 1 => if t < warn - 40 then s.put pg GUARD.PG_STAT_THERM 0 else s
  | _ => if t < warn - 40 then s.put pg GUARD.PG_STAT_THERM 0 else if t < warn then s.put pg GUARD.PG_STAT_THERM 1 else s

/-! ### Measurement (R287-R290) -/

/-- Mean of samples, rounded down. -/
def meanNat (l : List Nat) : Nat := if l.isEmpty then 0 else l.foldl (· + ·) 0 / l.length

/-- Mean of signed samples, rounded down. -/
def meanInt (l : List Int) : Int := if l.isEmpty then 0 else l.foldl (· + ·) 0 / (l.length : Int)

/-- Update a MIN/MAX pair with a tick mean; `seen`: a mean has entered it since its last read. -/
def State.minMax (s : State) (pg : Nat) (lo hi : Fld) (seen isSigned : Bool) (v : Int) : State :=
  let rdv := fun (f : Fld) => if isSigned then signed 16 (s.fld pg f) else (s.fld pg f : Int)
  let a := if seen then min (rdv lo) v else v
  let b := if seen then max (rdv hi) v else v
  (s.put pg lo (unsigned 16 a)).put pg hi (unsigned 16 b)

/-- The result of an offset calibration (Table 11.9). -/
def State.calTick (s : State) (n : Port) (p : PortSamples) : State :=
  let pg := pMEAS n
  if p.calOk then ((s.put pg MEAS.PG_STAT_CAL_OK 1).put pg MEAS.PG_STAT_CAL_FAIL 0).put pg MEAS.CAL_I_OFS (unsigned 16 p.offset)
  else (s.raiseIf (!s.flag pg MEAS.PG_STAT_CAL_FAIL) pg MEAS.PG_EVT_CAL_FAIL).put pg MEAS.PG_STAT_CAL_FAIL 1

/-- The measured values of a port at a tick boundary (Table 11.9), currents by `SHUNT_UOHM` (R289), and whether its channels are converted from here on. `doze`: only the calibration
ran in the tick (R75). -/
def State.measTick (s : State) (n : Port) (p : PortSamples) (doze : Bool) : State :=
  let pg := pMEAS n
  let st := s.guardState n
  let want := s.enabled pg
  let free := st == 0 || st == 6 || st == 7
  let s := s.modPort n fun q => { q with meas := { q.meas with on := if want == q.meas.on then q.meas.on else if want || free then want else q.meas.on } }
  if !(s.port n).meas.on then s
  else if doze then s.calTick n p
  else
    let v := meanNat p.vbus / 20
    let w := meanNat p.vin / 20
    let uohm := max 1000 (s.fld pg MEAS.CFG_SHUNT_UOHM)
    let i := meanInt p.ibus * 100 / (uohm : Int)
    let peak := (p.ibus.map fun x => x.natAbs).foldl max 0 * 100 / uohm
    let ntc := s.fld pg MEAS.CFG_NTC_EN == 1
    let s := (s.setVbus n (p.vbus.getLast?.getD (s.port n).vbusMv)).modPort n fun q => { q with vinMv := p.vin.getLast?.getD q.vinMv }
    let s := (s.put pg MEAS.VBUS_AVG v).put pg MEAS.VBUS_LAST (p.vbus.getLast?.getD 0 / 20)
    let s := (s.put pg MEAS.VIN_AVG w).put pg MEAS.VIN_LAST (p.vin.getLast?.getD 0 / 20)
    let s := (s.put pg MEAS.IBUS_AVG (unsigned 16 i)).put pg MEAS.IBUS_PEAK peak
    let s := s.put pg MEAS.TFET_AVG (if ntc then unsigned 16 p.temp else 0x8000)
    let m := (s.port n).meas
    let s := s.minMax pg MEAS.VBUS_MM_MIN MEAS.VBUS_MM_MAX m.vSeen false v
    let s := s.minMax pg MEAS.IBUS_MM_MIN MEAS.IBUS_MM_MAX m.iSeen true i
    let s := s.modPort n fun q => { q with meas := { q.meas with vSeen := true, iSeen := true } }
    let was := s.flag pg MEAS.PG_STAT_NTC_OPEN || s.flag pg MEAS.PG_STAT_NTC_SHORT
    let opn := ntc && decide (p.temp < -440)
    let sht := ntc && decide (1400 < p.temp)
    let s := (s.putB pg MEAS.PG_STAT_NTC_OPEN opn).putB pg MEAS.PG_STAT_NTC_SHORT sht
    let s := s.raiseIf (!was && (opn || sht)) pg MEAS.PG_EVT_NTC_FAULT
    let s := s.calTick n p
    if ntc then s.thermTick n p.temp else s

/-- The thermistor fails or the mean temperature exceeds `TRIP` (R267, R289). -/
def State.tooHot (s : State) (n : Port) : Bool :=
  let pg := pMEAS n
  s.fld pg MEAS.CFG_NTC_EN == 1 && (s.flag pg MEAS.PG_STAT_NTC_OPEN || s.flag pg MEAS.PG_STAT_NTC_SHORT ||
    decide ((s.inf (pGUARD n) GUARD.THERM_CFG_TRIP : Int) < signed 16 (s.fld pg MEAS.TFET_AVG)))

/-! ### Comparator self-test (R284-R286) -/

/-- Set the FAILED mask of a port, with the bits that report it. -/
def State.setFailed (s : State) (n : Port) (m : Nat) : State :=
  let s := s.put pCMPT (CMPT.PORT_STAT_FAILED.at n.val) m
  let s := s.putB (pGUARD n) GUARD.PG_STAT_DEGRADED (m != 0)
  s.put pCMPT CMPT.PG_STAT_DEGRADED (setBits (s.fld pCMPT CMPT.PG_STAT_DEGRADED) n.val 1 (m != 0).toNat)

/-- A copy may be taken out of service: its sibling is in service, or no gate of the port is on (R285). -/
def State.testable (s : State) (n : Port) (c : Nat) : Bool :=
  let m := s.failedMask n
  let sib := if c % 2 = 0 then c + 1 else c - 1
  !bitAt m c && (!bitAt m sib || !s.guardDrives n)

/-- A failed test is recorded in `LAST_FAIL` (Table 11.11). -/
def State.noteFail (s : State) (n : Port) (c check : Nat) : State :=
  let s := ((s.put pCMPT CMPT.LAST_FAIL_PORT n.val).put pCMPT CMPT.LAST_FAIL_COMP (c / 2)).put pCMPT CMPT.LAST_FAIL_COPY (c % 2)
  (s.put pCMPT CMPT.LAST_FAIL_CHECK check).put pCMPT CMPT.LAST_FAIL_TICK s.tick

/-- The result of testing copy `c` of port `n` (R284-R286). -/
def State.copyTested (s : State) (n : Port) (c : Nat) (r : TestResult) : State :=
  let passed := s.fld pCMPT (CMPT.PORT_STAT_PASSED.at n.val)
  match r with
  | .pass =>
    let s := s.put pCMPT (CMPT.PORT_STAT_PASSED.at n.val) (passed ||| 2 ^ c)
    let s := { s with cmpt := { s.cmpt with seen := (12 * n.val + c) :: s.cmpt.seen.filter fun x => x != 12 * n.val + c } }
    if s.guardState n = 1 then s.modGuard n fun g => { g with preTests := g.preTests ||| 2 ^ c } else s
  | .machine =>
    let s := ((s.put pCMPT CMPT.PG_STAT_MACHINE_FAIL 1).raise pCMPT CMPT.PG_EVT_MACHINE_FAIL).noteFail n c 6
    { s with cmpt := { s.cmpt with bad := true } }
  | .fail check =>
    let s := s.put pCMPT (CMPT.PORT_STAT_PASSED.at n.val) (setBits passed c 1 0)
    let s := s.setFailed n (s.failedMask n ||| 2 ^ c)
    let s := (s.raise pCMPT CMPT.PG_EVT_COPY_FAIL).noteFail n c check.val
    let m := s.failedMask n
    if bitAt m (c / 2 * 2) && bitAt m (c / 2 * 2 + 1) then (s.raise pCMPT CMPT.PG_EVT_BOTH_FAIL).retire n (some 11) else s

/-- Every copy of every port has passed or is FAILED since the last reset or wake (R286). -/
def State.passComplete (s : State) : Bool :=
  allPorts.all fun n => (List.range 12).all fun c =>
    bitAt (s.failedMask n) c || s.cmpt.seen.contains (12 * n.val + c) ||
      (!s.testable n c && bitAt (s.fld pCMPT (CMPT.PORT_STAT_PASSED.at n.val)) c)

/-- The first pass completes (R286): every copy has passed or is FAILED, and the last cycle had no level read-back failure. -/
def State.firstPass (s : State) : State :=
  if !s.flag pCMPT CMPT.PG_STAT_FIRST_PASS && !s.cmpt.bad && s.passComplete then
    (s.put pCMPT CMPT.PG_STAT_FIRST_PASS 1).raise pCMPT CMPT.PG_EVT_FIRST_PASS
  else s

/-- Outside a cycle a test unit tests a surviving copy of a port in PRECHECK (R285). -/
def State.idleTest (s : State) (ports : List Port) (r : TestResult) : State :=
  match ports.find? fun n => s.guardState n == 1 && !s.copiesReady n with
  | none => s
  | some n =>
    match (List.range 12).find? fun c => s.testable n c && bitAt (s.failedMask n) (if c % 2 = 0 then c + 1 else c - 1) &&
        !bitAt (s.port n).guard.preTests c with
    | some c => s.copyTested n c r
    | none => s

/-- The self-test of one tick: each of the two test units tests one copy (R284). -/
def State.cmptTick (s : State) (ra rb : TestResult) : State :=
  let periodic := s.tick % 2000 == 0
  let s := match s.cmpt.pos with
    | none => if periodic || s.cmpt.due then { s with cmpt := { s.cmpt with pos := some 0, due := false, bad := false } } else s
    | some _ => if periodic then { s with cmpt := { s.cmpt with due := true } } else s
  match s.cmpt.pos with
  | none => ((s.idleTest [0, 1, 2, 3] ra).idleTest [4, 5, 6, 7] rb).firstPass
  | some p =>
    let test := fun (s : State) (n : Port) (r : TestResult) => if s.testable n (p % 12) then s.copyTested n (p % 12) r else s
    let s := test s (Fin.ofNat 8 (p / 12)) ra
    let s := test s (Fin.ofNat 8 (4 + p / 12)) rb
    if p < 47 then { s with cmpt := { s.cmpt with pos := some (p + 1) } }
    else
      let s := { s with cmpt := { s.cmpt with pos := none } }
      let s := (s.incr pCMPT CMPT.CYCLES_COUNT).raise pCMPT CMPT.PG_EVT_CYCLE_DONE
      (s.putB pCMPT CMPT.PG_STAT_MACHINE_FAIL s.cmpt.bad).firstPass

/-- Start a first pass at a reset or a wake (R95). -/
def State.cmptRestart (s : State) : State :=
  ({ s with cmpt := { pos := none, due := true, bad := false, seen := [] } }).put pCMPT CMPT.PG_STAT_FIRST_PASS 0

/-! ### The commands -/

/-- FOLDBACK (R263): the fold-back loop begins or stops regulating in RAMP. -/
def execFoldback (n : Port) (active : Bool) (s : State) : Host.Outcome State Fault Refusal :=
  .next (if s.guardState n = 2 then s.putB (pGUARD n) GUARD.PG_STAT_FB_ACTIVE active else s)

/-- SOA_TIMEOUT (R264). -/
def execSoaTimeout (n : Port) (s : State) : Host.Outcome State Fault Refusal :=
  .next (if (s.guardState n = 2 ∨ s.guardState n = 4) ∧ s.flag (pGUARD n) GUARD.PG_STAT_FB_ACTIVE then
      s.trip n 64 (s.guardPath n == 1) else s)

/-- The guard enters ON from RAMP (R265); a Hard Reset sequence that waited for it is done (Table 9.6). -/
def State.rampDone (s : State) (n : Port) : State :=
  let s := (s.guardTo n 3).raise (pGUARD n) GUARD.PG_EVT_RAMP_DONE
  let s := s.modGuard n fun g => { g with blank := s.blankTk n }
  if s.fld (pPOL n) POL.PG_STAT_HR_SEQ = 4 then s.hrDone n else s

/-- RAMP_COMPLETE (R265): VBUS within 0.5 V of `VIN_PTn` on the source path, the gate 8 V above VBUS on the sink path, with
`FB_ACTIVE` = 0. -/
def execRampComplete (n : Port) (vbusMv vinMv gateMv : Nat) (s : State) : Host.Outcome State Fault Refusal :=
  .next (
    let s := (s.setVbus n vbusMv).modPort n fun p => { p with vinMv := vinMv }
    let ok := if s.guardPath n = 2 then decide (8000 ≤ gateMv)
      else decide (vbusMv ≤ vinMv + 500) && decide (vinMv ≤ vbusMv + 500)
    if s.guardState n = 2 ∧ !s.flag (pGUARD n) GUARD.PG_STAT_FB_ACTIVE ∧ ok then s.rampDone n else s)

/-- RAMP_FAIL (R265, R266). -/
def execRampFail (n : Port) (s : State) : Host.Outcome State Fault Refusal :=
  .next (if s.guardState n = 2 then s.trip n 128 (s.guardPath n == 1) else s)

/-- A join is ordered on a shadow port (R266): the guard goes from OFF to RAMP with `JOIN` = 1. -/
def State.joinGuard (s : State) (n : Port) : State :=
  if s.guardState n = 0 ∧ s.enabled (pGUARD n) then
    let s := s.modGuard n fun g => { g with
      joined := true
      vinRamp := (s.port n).vinMv
      gateUa := 60
      soaUs := s.soaUs n
      progUs := 100
      doneUs := 100
      uvpUs := max 1 (s.inf (pGUARD n) GUARD.BLANK_UVP_US) }
    let s := (s.put (pGUARD n) GUARD.PG_STAT_STATE 2).put (pGUARD n) GUARD.PG_STAT_JOIN 1
    s.put (pGUARD n) GUARD.PG_STAT_HOLD 0
  else s

/-- FAST_TRIP (R268): a trip only while a path is served; RCP trips the source path only. -/
def execFastTrip (n : Port) (sc ovp rcp : Bool) (s : State) : Host.Outcome State Fault Refusal :=
  .next (
    let src := s.guardPath n == 1
    let c := sc.toNat + 2 * ovp.toNat + 4 * (rcp && src).toNat
    if s.guardDrives n ∧ c ≠ 0 then s.trip n c src else s)

/-- UVP_TRIP (R267, R269). -/
def execUvpTrip (n : Port) (s : State) : Host.Outcome State Fault Refusal :=
  .next (if s.guardDrives n ∧ s.guardPath n = 1 ∧ !s.blanked n then s.trip n 8 true else s)

/-- LIMIT_ENTRY (R271). -/
def execLimitEntry (n : Port) (s : State) : Host.Outcome State Fault Refusal :=
  .next (if s.guardState n = 3 then
      ((s.guardTo n 4).put (pGUARD n) GUARD.PG_STAT_FB_ACTIVE 1).raise (pGUARD n) GUARD.PG_EVT_LIMIT
    else s)

/-- LIMIT_EXIT (R261, R269). -/
def execLimitExit (n : Port) (s : State) : Host.Outcome State Fault Refusal :=
  .next (if s.guardState n = 4 then (s.guardTo n 3).modGuard n fun g => { g with blank := s.blankTk n } else s)

/-- TRIPPED_VBUS_LOW (R261). -/
def execTrippedVbusLow (n : Port) (mv : Nat) (s : State) : Host.Outcome State Fault Refusal :=
  .next (
    let s := s.setVbus n mv
    if s.guardState n = 5 ∧ mv < 800 then s.guardTo n 6 else s)

/-- BACKOFF_EXPIRY (R275). -/
def execBackoffExpiry (n : Port) (s : State) : Host.Outcome State Fault Refusal :=
  .next (if s.guardState n = 6 then s.backoffLeave n else s)

/-- BACKOFF_STEP_RESET (R275). -/
def execBackoffStepReset (n : Port) (s : State) : Host.Outcome State Fault Refusal :=
  .next (if s.guardState n = 3 then s.modGuard n fun g => { g with step := 0 } else s)

/-- The conditions of R277: 0 in PRECHECK with a live input, 1 current with both gates off, 2 VBUS high after a trip's discharge. -/
def State.shortFound (s : State) (n : Port) (how : Nat) : Bool :=
  let p := s.port n
  match how with
  | 0 => s.guardState n == 1 && s.guardPath n == 1 && decide (4750 ≤ p.vinMv) && decide (3000 < p.vbusMv) &&
      s.fld (pCC n) CC.PG_STAT_TWIN_MODE == 0
  | 1 => !s.guardDrives n && s.guardState n != 7
  | _ => p.guard.dschTrip && decide (3000 < p.vbusMv)

/-- SHORT_FET (R277, R276). -/
def execShortFet (n : Port) (how : Fin 3) (s : State) : Host.Outcome State Fault Refusal :=
  .next (if s.shortFound n how.val then (s.guardEvt n GUARD.PG_EVT_SHORT_FET).retire n (some 10) else s)

/-- DSCH_END (R278): VBUS below 0.8 V, 500 ms of on-time, or the end of the assist. A discharge that includes a trip and leaves VBUS above 3.0 V finds a shorted
FET (R277). -/
def execDschEnd (n : Port) (mv : Nat) (timeout : Bool) (s : State) : Host.Outcome State Fault Refusal :=
  .next (
    let s := s.setVbus n mv
    if !(s.port n).guard.dschWant then s
    else if mv < 800 then s.dschOff n
    else if timeout then
      let short := s.shortFound n 2 && s.guardState n != 7
      let s := (s.dschOff n).raise (pGUARD n) GUARD.PG_EVT_DSCH_TO
      if short then (s.guardEvt n GUARD.PG_EVT_SHORT_FET).retire n (some 10) else s
    else s.assistEnd n)

/-- DSCH_REST (R279). -/
def execDschRest (n : Port) (s : State) : Host.Outcome State Fault Refusal :=
  .next (if (s.port n).guard.dsch then
      let s := s.modGuard n fun g => { g with dsch := false }
      (s.put (pGUARD n) GUARD.PG_STAT_DSCH_REST 1).raise (pGUARD n) GUARD.PG_EVT_DSCH_TO
    else s)

/-- DSCH_REST_END (R279). -/
def execDschRestEnd (n : Port) (s : State) : Host.Outcome State Fault Refusal :=
  .next (if s.flag (pGUARD n) GUARD.PG_STAT_DSCH_REST then
      (s.put (pGUARD n) GUARD.PG_STAT_DSCH_REST 0).modGuard n fun g => { g with dsch := g.dschWant }
    else s)

/-- Whether a port is a member of the share page (R294), as held at the last boundary. -/
def State.isMember (s : State) (n : Port) : Bool := (s.port n).share.member

/-- SINK_BLOCK (R280, R298, R303): the eighth block within 100 ms (2,000 ticks) opens the path. -/
def execSinkBlock (n : Port) (s : State) : Host.Outcome State Fault Refusal :=
  .next (if s.guardDrives n ∧ s.guardPath n = 2 then
      let pg := pGUARD n
      let s := (s.put pg GUARD.PG_STAT_SNK_BLOCKED 1).raise pg GUARD.PG_EVT_SNK_BLOCK
      let bs := s.tick :: (s.port n).guard.blocks.filter fun t => decide (s.tick < t + 2000)
      let s := s.modGuard n fun g => { g with blocks := bs }
      let s := if s.inShareSet n then s.shareRelease false else s
      if 8 ≤ bs.length then
        let s := ((s.put pg GUARD.PG_STAT_SNK_REQ 0).guardOff n).modGuard n fun g => { g with blocks := [] }
        if s.isMember n then s.shareEvt SHARE.PG_EVT_MEMBER_DROP else s
      else s
    else s)

/-- SINK_RECLOSE (R280): a port that is not a member, with VBUS within the contract window. -/
def execSinkReclose (n : Port) (mv : Nat) (s : State) : Host.Outcome State Fault Refusal :=
  .next (
    let s := s.setVbus n mv
    let p := (s.port n).pol
    if s.flag (pGUARD n) GUARD.PG_STAT_SNK_BLOCKED ∧ !s.isMember n ∧ p.winLo ≤ 5 * mv ∧ 5 * mv ≤ p.winHi then
      s.put (pGUARD n) GUARD.PG_STAT_SNK_BLOCKED 0
    else s)

/-- CMD_REFUSED of `GUARD[n]`. -/
def State.guardRefused (s : State) (n : Port) : State := s.raise (pGUARD n) GUARD.PG_EVT_CMD_REFUSED

/-- `SNK_CLOSE` (Table 11.7). -/
def State.snkClose (s : State) (n : Port) : State :=
  if s.ccState n = .attachedSnk ∧ s.inf (pGUARD n) GUARD.CFG_SNK_EN = 1 then s.put (pGUARD n) GUARD.PG_STAT_SNK_REQ 1
  else s.guardRefused n

/-- `SNK_OPEN` (Table 11.7). -/
def State.snkOpen (s : State) (n : Port) : State :=
  let s := s.put (pGUARD n) GUARD.PG_STAT_SNK_REQ 0
  if s.guardPath n = 2 then (s.guardOff n).shareLeave n else s

/-- The guard leaves RETIRED (R281): history, backoff step and FAILED marks are cleared, and CC passes through ErrorRecovery. -/
def State.unretire (s : State) (n : Port) : State :=
  let s := s.guardTo n 0
  let s := (s.modGuard n fun g => { g with trips := [], step := 0, blocks := [] }).put (pGUARD n) GUARD.HIST_RECENT 0
  let s := s.setFailed n 0
  let s := s.put pCMPT (CMPT.PORT_STAT_PASSED.at n.val) 0
  (s.ccEnter n .errorRecovery).guardEvt n GUARD.PG_EVT_UNRETIRED

/-- `UNRETIRE` (R281). -/
def State.unretireCmd (s : State) (n : Port) : State :=
  if s.guardState n = 7 ∧ (s.port n).vbusMv ≤ 800 then s.unretire n else s.guardRefused n

/-- GUARD_CMD_SNK_CLOSE (R261). -/
def execGuardCmdSnkClose (n : Port) (key : BitVec 16) (s : State) : Host.Outcome State Fault Refusal :=
  .next (s.keyCmd (pGUARD n) key.toNat 0x6A91 fun s => s.snkClose n)

/-- GUARD_CMD_SNK_OPEN (R261). -/
def execGuardCmdSnkOpen (n : Port) (key : BitVec 16) (s : State) : Host.Outcome State Fault Refusal :=
  .next (s.keyCmd (pGUARD n) key.toNat 0x6A91 fun s => s.snkOpen n)

/-- GUARD_CMD_UNRETIRE (R281). -/
def execGuardCmdUnretire (n : Port) (key : BitVec 16) (s : State) : Host.Outcome State Fault Refusal :=
  .next (s.keyCmd (pGUARD n) key.toNat 0x6A91 fun s => s.unretireCmd n)

/-- GUARD_CMD_RETIRE (R276). -/
def execGuardCmdRetire (n : Port) (key : BitVec 16) (s : State) : Host.Outcome State Fault Refusal :=
  .next (s.keyCmd (pGUARD n) key.toNat 0x6A91 fun s => s.retire n (some 12))

/-- `CMPT.CMD.RETEST` for one port (Table 11.11): its FAILED marks are cleared and those copies are tested in the next cycle, which
starts at once. -/
def State.retestPort (s : State) (n : Port) : State :=
  let st := s.guardState n
  if st = 0 ∨ st = 6 ∨ st = 7 then
    let m := s.failedMask n
    let s := s.put pCMPT (CMPT.PORT_STAT_PASSED.at n.val) (s.fld pCMPT (CMPT.PORT_STAT_PASSED.at n.val) &&& (4095 - m % 4096))
    let s := s.setFailed n 0
    { s with cmpt := { s.cmpt with due := true, seen := s.cmpt.seen.filter fun x => !(x / 12 == n.val && bitAt m (x % 12)) } }
  else s.guardRefused n

/-- `CMPT.CMD.RETEST`. -/
def State.retest (s : State) (ports : Nat) : State :=
  s.forPorts fun s n => if bitAt ports n.val then s.retestPort n else s

/-- CMPT_RETEST (R293). -/
def execCmptRetest (ports : BitVec 8) (key : BitVec 16) (s : State) : Host.Outcome State Fault Refusal :=
  .next (s.keyCmd pCMPT key.toNat 0x1C5E fun s => s.retest ports.toNat)

end Sys2Proof.Machine
end

