-- ==== Sys2Proof/Machine/CcCmds.lean ====
section
/-!
DEFINITION. The commands of the Type-C block (chapter 7): line changes and timers of Table 7.3, detaches, VCONN, CC
overvoltage, what a shadow sees, the owner check.
-/

namespace Sys2Proof.Machine

/-- The sink disconnect threshold in mV (R168). -/
def State.sinkDiscMv (s : State) (n : Port) : Nat :=
  let pg := pCC n
  if !s.snapValid n || (s.snapType n == 1 && s.snapV n == 250 && !s.snapTrans n) then 20 * s.inf pg CC.SNK_DISC_LEVEL
  else
    let v := if s.snapTrans n then min (s.snapV n) (s.snapVOld n) else s.snapV n
    20 * v * max 50 (min 90 (s.inf pg CC.SNK_DISC_PCT)) / 100

/-- CC_LINE_CHANGE (R151, R153): new voltages on the CC pins, in mV. -/
def execCcLineChange (n : Port) (mv1 mv2 : Nat) (s : State) : Host.Outcome State Fault Refusal := .next (s.ccLine n mv1 mv2)

/-- CC_DEBOUNCE (R155): `CC_DEB_MS` elapses. -/
def execCcDebounce (n : Port) (s : State) : Host.Outcome State Fault Refusal :=
  .next (if s.ccTimes n .ccDeb then s.debounced n else s)

/-- PD_DEBOUNCE (R155): `PD_DEB_MS` elapses. -/
def execPdDebounce (n : Port) (s : State) : Host.Outcome State Fault Refusal := .next (s.pdDebounced n)

/-- DRP_TOGGLE (R155). -/
def execDrpToggle (n : Port) (s : State) : Host.Outcome State Fault Refusal :=
  .next (match s.ccState n with
    | .unattachedSnk => if s.ccDrp n && s.inf (pCC n) CC.CFG_DB_CLAMP == 0 then s.ccEnter n .unattachedSrc else s
    | .unattachedSrc => if s.ccDrp n then s.ccEnter n .unattachedSnk else s
    | _ => s)

/-- ERROR_RECOVERY_TIMEOUT (R171). -/
def execErrorRecoveryTimeout (n : Port) (s : State) : Host.Outcome State Fault Refusal :=
  .next (if s.ccState n = .errorRecovery then s.ccResume n else s)

/-- TRY_TIMER (R153): `TRY_MS` elapses in Try.SRC or Try.SNK. -/
def execTryTimer (n : Port) (s : State) : Host.Outcome State Fault Refusal :=
  .next (match s.ccState n with
    | .trySrc =>
      if (s.exactlyOne n .rd).isNone then s.ccEnter n .tryWaitSnk else s.modCc n fun c => { c with tryDone := true }
    | .trySnk => s.modCc n fun c => { c with tryDone := true }
    | _ => s)

/-- TRYWAIT_TIMEOUT (R153). -/
def execTrywaitTimeout (n : Port) (s : State) : Host.Outcome State Fault Refusal :=
  .next (match s.ccState n with
    | .tryWaitSnk => s.ccEnter n .unattachedSnk
    | .tryWaitSrc => s.ccEnter n .unattachedSnk
    | _ => s)

/-- TRY_SRC_TIMEOUT (R153). -/
def execTrySrcTimeout (n : Port) (s : State) : Host.Outcome State Fault Refusal :=
  .next (if s.ccState n = .trySrc then s.ccEnter n .tryWaitSnk else s)

/-- OPEN as R166 judges it: by the pin's class, or while the port transmits by the load current of the BMC driver at the high level, in µA. -/
def State.openSeen (s : State) (n : Port) (load : Option Nat) : Bool :=
  match load with
  | some ua => decide (ua < 60)
  | none => s.ccClass n (s.activePin n) == .open

/-- SOURCE_DETACH (R166, R167): the active pin has shown OPEN for 50 µs; `load`: the driver's load current when the port transmits. -/
def execSourceDetach (n : Port) (load : Option Nat) (s : State) : Host.Outcome State Fault Refusal :=
  .next (if s.ccState n = .attachedSrc ∧ s.openSeen n load then s.ccEnter n (s.srcBack n) else s)

/-- SINK_DETACH (R168): VBUS, now at `mv`, has stayed below the threshold for 20 µs. -/
def execSinkDetach (n : Port) (mv : Nat) (s : State) : Host.Outcome State Fault Refusal :=
  .next (
    let s := s.setVbus n mv
    if s.ccState n = .attachedSnk ∧ !(s.port n).cc.hrHold ∧ mv < s.sinkDiscMv n then s.ccEnter n .unattachedSnk else s)

/-- DEBUG_ACCESSORY_EXIT (R153): VBUS below 3.66 V for 20 µs. -/
def execDebugAccessoryExit (n : Port) (mv : Nat) (s : State) : Host.Outcome State Fault Refusal :=
  .next (
    let s := s.setVbus n mv
    if s.ccState n = .debugSnk ∧ mv < 3660 then s.ccEnter n .unattachedSnk else s)

/-- HR_SINK_HOLD_END (R169): 1,700 ms pass without a return. -/
def execHrSinkHoldEnd (n : Port) (s : State) : Host.Outcome State Fault Refusal :=
  .next (
    let c := (s.port n).cc
    if !c.hrHold then s
    else if s.vbus4 n then
      (if c.hrDipped then s else (s.modCc n fun c => { c with hrHold := false }).hrDone n)
    else (s.ccEnter n .unattachedSnk).raise (pCC n) CC.PG_EVT_HR_TIMEOUT)

/-- VCONN_AUTO_ON (R162): within 2 ms of entering Attached.SRC, or of ON after a power restart. With nothing latched, after a takeover, the pin is probed
first. -/
def execVconnAutoOn (n : Port) (s : State) : Host.Outcome State Fault Refusal :=
  .next (if (s.port n).cc.autoDone then s
    else if s.vconnReady n && !(s.port n).cc.raKnown then s.modCc n fun c => { c with raProbe := some ((c.raProbe).getD false) }
    else if s.vconnMay n then (s.vconnOn n).modCc n fun c => { c with autoDone := true } else s)

/-- VCONN_RA_PROBE (R162): after a takeover, the other pin read `mv` under Rp Default; what waited for the reading is judged from it. -/
def execVconnRaProbe (n : Port) (mv : Nat) (s : State) : Host.Outcome State Fault Refusal :=
  .next (if s.ccState n = .attachedSrc ∧ !(s.port n).cc.raKnown then
      let asked := (s.port n).cc.raProbe
      let s := s.modCc n fun c => { c with raKnown := true, raLatch := classRp 0 mv == .ra, raProbe := none }
      match asked with
      | some cmd =>
        if s.vconnMay n then (s.vconnOn n).modCc n fun c => { c with autoDone := c.autoDone || !cmd }
        else s.raiseIf cmd (pCC n) CC.PG_EVT_VCONN_DENIED
      | none => s
    else s)

/-- CC_CMD_ERR_REC (R154): ErrorRecovery at the next boundary. -/
def execCcCmdErrRec (n : Port) (key : BitVec 16) (s : State) : Host.Outcome State Fault Refusal :=
  .next (s.keyCmd (pCC n) key.toNat 0x3C71 fun s => s.modCc n fun c => { c with errRec := true })

/-- `VCONN_ON` (R162): after a takeover with nothing latched yet, the pin is probed first. -/
def State.vconnOnCmd (s : State) (n : Port) : State :=
  if s.flag (pCC n) CC.PG_STAT_VCONN_ON then s
  else if s.vconnReady n && !(s.port n).cc.raKnown then s.modCc n fun c => { c with raProbe := some true }
  else if s.vconnMay n then s.vconnOn n else s.raise (pCC n) CC.PG_EVT_VCONN_DENIED

/-- CC_CMD_VCONN_ON (R162). -/
def execCcCmdVconnOn (n : Port) (key : BitVec 16) (s : State) : Host.Outcome State Fault Refusal :=
  .next (s.keyCmd (pCC n) key.toNat 0x3C71 fun s => s.vconnOnCmd n)

/-- CC_CMD_VCONN_OFF (R162, R164). -/
def execCcCmdVconnOff (n : Port) (key : BitVec 16) (s : State) : Host.Outcome State Fault Refusal :=
  .next (s.keyCmd (pCC n) key.toNat 0x3C71 fun s => s.vconnOff n)

/-- VCONN_OVERCURRENT (R163). -/
def execVconnOvercurrent (n : Port) (s : State) : Host.Outcome State Fault Refusal :=
  .next (if s.flag (pCC n) CC.PG_STAT_VCONN_ON then (s.vconnOff n).raise (pCC n) CC.PG_EVT_VCONN_OC else s)

/-- VCONN_DISCHARGE_END (R164). -/
def execVconnDischargeEnd (n : Port) (s : State) : Host.Outcome State Fault Refusal :=
  .next (s.modCc n fun c => { c with vconnDsch := false })

/-- CC_OVERVOLTAGE (R170, Table 11.3): ErrorRecovery, and a guard trip with cause CC_OVP in whatever guard state but RETIRED. -/
def execCcOvervoltage (n : Port) (s : State) : Host.Outcome State Fault Refusal :=
  .next (
    let src := s.guardPath n == 1
    let s := (s.vconnOff n).raise (pCC n) CC.PG_EVT_CC_OVP
    let s := s.modCc n fun c => { c with taskDue := true }
    if s.ccState n = .retired then s
    else (s.ccEnter n .errorRecovery).trip n 256 src)

/-- RP_LOST on CC (R174): the shadow no longer sees the owner's Rp. -/
def State.rpLost (s : State) (n : Port) : State :=
  (s.raise (pCC n) CC.PG_EVT_RP_LOST).put (pCC n) CC.SHADOW_WATCH_OWNER_RP 0

/-- PARTNER_GONE (R174). -/
def execPartnerGone (n : Port) (s : State) : Host.Outcome State Fault Refusal :=
  .next (if s.shadowing n then
      (s.raise (pCC n) CC.PG_EVT_PARTNER_GONE).put (pCC n) CC.SHADOW_WATCH_PARTNER 0
    else s)

/-- OWNER_CHECK (R176): the active pin read `mv` under Rp Default. -/
def execOwnerCheck (n : Port) (mv : Nat) (s : State) : Host.Outcome State Fault Refusal :=
  .next (if s.ccState n = .attachWaitSrc ∧ s.ownerBlocks n then
      if mv ≤ 650 then
        let s := s.modCc n fun c => { c with ownerOk := true }
        if (s.port n).cc.debDone then s.debounced n else s
      else s.raise (pCC n) CC.PG_EVT_CLAMP_SUSPECT
    else s)

/-- VBUS_LEVEL_CHANGE (R153): VBUS has a new level; a state that waited for it goes on. A port held after a PORT reset is
released below 0.8 V (R160). -/
def execVbusLevelChange (n : Port) (mv : Nat) (s : State) : Host.Outcome State Fault Refusal :=
  .next (
    let s := s.setVbus n mv
    if (s.port n).cc.debDone then s.debounced n else s)

end Sys2Proof.Machine
end

