-- ==== Sys2Proof/Machine/Share.lean ====
section
/-!
DEFINITION. Combining adapters on one sink rail (chapter 12): membership, share targets and fine limits, the coarse loop,
with the commands of `SHARE`.
-/

namespace Sys2Proof.Machine

/-- `RAIL_OK` follows its conditions; when it falls, RAIL_FAULT is set (R294). -/
def State.railUpdate (s : State) : State :=
  let r : Port := Fin.ofNat 8 (s.fld pSHARE SHARE.CFG_RAIL_PORT)
  let ok := s.inf (pGUARD r) GUARD.CFG_SRC_EN == 0 && s.enabled (pMEAS r)
  let was := s.flag pSHARE SHARE.PG_STAT_RAIL_OK
  let s := s.putB pSHARE SHARE.PG_STAT_RAIL_OK ok
  if was && !ok then
    let s := s.forPorts fun s n => s.modShare n fun h => { h with member := false, inSet := false }
    s.shareEvt SHARE.PG_EVT_RAIL_FAULT
  else s

/-- The four conditions of membership (R294). -/
def State.memberNow (s : State) (n : Port) : Bool :=
  bitAt (s.fld pSHARE SHARE.MEMBERS_PORTS) n.val && s.enabled pSHARE && s.flag pSHARE SHARE.PG_STAT_RAIL_OK &&
    s.inf (pGUARD n) GUARD.CFG_SNK_EN == 1

/-- A closed member: its sink path is driven. -/
def State.sinkClosed (s : State) (n : Port) : Bool := s.guardDrives n && s.guardPath n == 2

/-- The sharing set (R300). -/
def State.setNow (s : State) (n : Port) : Bool :=
  let rail := s.fld pSHARE SHARE.RAIL_RAIL_V
  let tol := s.fld pSHARE SHARE.RAIL_V_TOL
  (s.port n).share.member && s.guardPath n == 2 && (s.guardState n == 3 || s.guardState n == 4) && s.snapValid n &&
    decide (rail ≤ s.snapV n + tol) && decide (s.snapV n ≤ rail + tol)

/-- The ceiling C of a member (R300). -/
def State.ceiling (s : State) (n : Port) : Nat :=
  if s.snapValid n then min (s.snapI n) (95 * s.limitInForce n / 100) else rpCurrent (s.fld (pCC n) CC.PG_STAT_RP_ADV)

/-- Magnitude of the tick-mean current. -/
def State.iMean (s : State) (n : Port) : Nat := (signed 16 (s.fld (pMEAS n) MEAS.IBUS_AVG)).natAbs

/-- The weight W of a member (R300). -/
def State.weight (s : State) (n : Port) : Nat :=
  let w := s.fld pSHARE (SHARE.WEIGHT_W.at n.val)
  if w = 0xFFFF then s.snapPmax n else w

/-- Sum over a list of ports. -/
def sumPorts (l : List Port) (f : Port → Nat) : Nat := (l.map f).foldl (· + ·) 0

/-- The targets, limits and states of a boundary (R300, R301, R304). -/
def State.shareTargets (s : State) : State :=
  let set := allPorts.filter s.setNow
  let r : Port := Fin.ofNat 8 (s.fld pSHARE SHARE.CFG_RAIL_PORT)
  let rail := s.fld (pMEAS r) MEAS.VIN_AVG
  let total := sumPorts set s.iMean
  let sumW := sumPorts set s.weight
  let sumC := sumPorts set s.ceiling
  let head := 100 + max 5 (min 50 (s.fld pSHARE SHARE.CFG_HEAD_PCT))
  let overNow := !set.isEmpty && decide (95 * sumC ≤ 100 * total)
  let released := s.flag pSHARE SHARE.PG_STAT_RELEASE
  let s := (s.put pSHARE SHARE.TOTAL_I_TOTAL (min total 65535)).put pSHARE SHARE.TOTAL_RAIL rail
  let s := s.putB pSHARE SHARE.PG_STAT_ACTIVE (decide (2 ≤ set.length))
  let s := if overNow && !s.flag pSHARE SHARE.PG_STAT_OVERLOAD then s.shareEvt SHARE.PG_EVT_OVERLOAD else s
  let s := s.putB pSHARE SHARE.PG_STAT_OVERLOAD overNow
  let closed := allPorts.filter fun n => (s.port n).share.member && s.sinkClosed n
  s.forPorts fun s n =>
    let inSet := set.contains n
    let c := s.ceiling n
    let t := if sumW = 0 then total / max 1 set.length else total * s.weight n / sumW
    let vds := max 50 (20 * (s.fld (pMEAS n) MEAS.VBUS_AVG - rail))
    let pd := s.fld pSHARE SHARE.LIMITS_PD_MAX / (if s.fld (pGUARD n) GUARD.PG_STAT_THERM = 1 then 2 else 1)
    let b := pd * 1000 / vds
    let l0 := min c (t * head / 100)
    let join := min (max 1 (s.fld pSHARE SHARE.LIMITS_JOIN_I)) (90 * s.iFb n (s.port n).vbusMv / 100)
    let isClosed := closed.contains n
    let st := if !(s.port n).share.member then 0
      else if !isClosed then 1
      else if overNow || released && !(s.share.keepJoin && s.guardState n == 2 && closed.length != 1) then 6
      else if closed.length = 1 then 4
      else if s.guardState n = 2 then 2
      else if inSet then 3 else 5
    let lim := match st with
      | 6 => c
      | 4 => c
      | 2 => join
      | 3 => min l0 b
      | _ => 0
    let budget := st == 3 && decide (b < l0)
    let k := n.val
    let s := if st = 5 && s.fld pSHARE (SHARE.PORT_STAT_STATE.at k) != 5 then s.shareEvt SHARE.PG_EVT_EXCLUDED else s
    let s := s.raiseIf (budget && !s.flag pSHARE (SHARE.PORT_STAT_BUDGET.at k)) pSHARE SHARE.PG_EVT_BUDGET
    let s := (s.put pSHARE (SHARE.PORT_STAT_TARGET.at k) (if inSet then min t 1023 else 0)).put pSHARE (SHARE.PORT_STAT_LIMIT.at k) (min lim 1023)
    let s := (s.putB pSHARE (SHARE.PORT_STAT_BUDGET.at k) budget).put pSHARE (SHARE.PORT_STAT_STATE.at k) st
    let held := s.flag pSHARE (SHARE.PORT_STAT_HELD.at k) && isClosed
    let s := s.putB pSHARE (SHARE.PORT_STAT_HELD.at k) (held && st != 6)
    let i := s.iMean n
    s.modShare n fun h => { h with
      inSet := inSet, ceil := c
      setTicks := if inSet then h.setTicks + 1 else 0
      heldTicks := if held && st != 6 then h.heldTicks + 1 else h.heldTicks
      sumI := h.sumI + i
      sumT := h.sumT + (if inSet then t else 0) }

/-- Bounds of the requested voltage: the object's range and `POL[n].SNK_V` (R305), 20 mV per LSB. PPS objects state 100 mV per LSB in
[24:17] and [15:8], AVS objects in [25:17] and [15:8] (log entry 20). -/
def State.trimBounds (s : State) (n : Port) : Nat × Nat :=
  let pdo := s.snapWord n 1
  let hi := 5 * (if s.snapType n = 4 then bitsOf pdo 17 9 else bitsOf pdo 17 8)
  (max (5 * bitsOf pdo 8 8) (s.fld (pPOL n) POL.SNK_V_V_MIN), min hi (s.fld (pPOL n) POL.SNK_V_V_MAX))

/-- A trim as an integer. -/
def State.trimOf (s : State) (n : Port) : Int := signed 11 (s.fld pSHARE (SHARE.TRIM_TRIM.at n.val))

/-- Set a trim within its bounds, and ask for the voltage it gives when that differs from the contract's (R305). -/
def State.trimSet (s : State) (n : Port) (t : Int) : State :=
  let m : Int := s.fld pSHARE SHARE.TRIM_CFG_TRIM_MAX
  let rail : Int := s.fld pSHARE SHARE.RAIL_RAIL_V
  let (lo, hi) := s.trimBounds n
  let t := max (-m) (min m t)
  let t := max ((lo : Int) - rail) (min ((hi : Int) - rail) t)
  let v := (rail + t).toNat
  let v := if s.snapType n = 4 then (v + 2) / 5 * 5 else v
  let k := n.val
  let down := if t < s.trimOf n then 1 else if s.trimOf n < t then 0 else s.fld pSHARE (SHARE.TRIM_DOWN.at k)
  let s := s.put pSHARE (SHARE.TRIM_DOWN.at k) down
  let s := (s.put pSHARE (SHARE.TRIM_TRIM.at k) (unsigned 11 t)).put pSHARE (SHARE.TRIM_V_REQ.at k) v
  if v ≠ s.snapV n then (s.put pSHARE (SHARE.TRIM_PENDING.at k) 1).shareEvt SHARE.PG_EVT_TRIM else s

/-- The coarse loop (R305): at most one step per member, and what each then asks for; `TRIM_CLEAR` sets every trim to 0 in place of a step. -/
def State.coarse (s : State) : State :=
  let part := allPorts.filter fun n =>
    decide (200 ≤ (s.port n).share.setTicks) && (s.snapType n == 3 || s.snapType n == 4) && !s.snapTrans n &&
      !s.flag pSHARE (SHARE.TRIM_PENDING.at n.val)
  let falls := part.filter fun n => decide (100 < (s.port n).share.heldTicks)
  let db := max 2 (min 30 (s.fld pSHARE SHARE.CFG_DB_PCT))
  let short := fun (n : Port) =>
    let h := (s.port n).share
    decide (db * h.sumT < 100 * (h.sumT - h.sumI)) && decide (h.sumI < h.sumT)
  let s := if s.share.trimClear then
      let s := { (s.forPorts fun s n => s.put pSHARE (SHARE.TRIM_TRIM.at n.val) 0) with share := { s.share with trimClear := false } }
      part.foldl (fun s n => s.trimSet n 0) s
    else
      let t := falls.foldl (fun s n => s.trimSet n (s.trimOf n - 1)) s
      let fell := falls.any fun n => t.trimOf n != s.trimOf n
      (part.filter fun n => !falls.contains n).foldl (fun s n => s.trimSet n (if !fell && short n then s.trimOf n + 1 else s.trimOf n)) t
  s.forPorts fun s n => s.modShare n fun h => { h with setTicks := 0, heldTicks := 0, sumI := 0, sumT := 0 }

/-- The share loop at a tick boundary (R294, R299-R305). While a reset of the page holds the loop, the members keep their ceilings
(R308). -/
def State.shareTick (s : State) : State :=
  let s := s.railUpdate
  if s.share.hold then
    s.forPorts fun s n =>
      if s.isMember n && s.sinkClosed n && !s.resetting pSHARE then
        s.put pSHARE (SHARE.PORT_STAT_LIMIT.at n.val) (min 1023 (s.port n).share.ceil)
      else s
  else
    let s := s.forPorts fun s n => s.modShare n fun h => { h with member := s.memberNow n, diode := h.diode && s.memberNow n }
    let s := if s.share.left = 0 then s
      else
        let s := { s with share := { s.share with left := s.share.left - 1 } }
        if s.share.left = 0 then s.put pSHARE SHARE.PG_STAT_RELEASE 0 else s
    let s := s.forPorts fun s n =>
      if s.isMember n && s.guardState n == 2 && s.guardPath n == 2 && !s.flag (pGUARD n) GUARD.PG_STAT_FB_ACTIVE &&
          ((s.port n).share.diode || s.flag pSHARE (SHARE.PORT_STAT_HELD.at n.val)) then s.rampDone n else s
    let s := s.shareTargets
    if s.tick % 200 = 0 then s.coarse else s

/-- A reset of the `SHARE` page stops both loops: every closed member takes its ceiling, and membership is kept until `MEMBERS` is
written (R308). -/
def State.shareReset (s : State) : State := { s with share := { left := 0, hold := true, trimClear := false, keepJoin := false } }

/-- A write of `MEMBERS` after such a reset: each trim is taken as the contract voltage less `RAIL_V`, and sharing resumes. -/
def State.shareResume (s : State) : State :=
  if s.share.hold then
    let s := s.forPorts fun s n =>
      if s.snapValid n then
        s.put pSHARE (SHARE.TRIM_TRIM.at n.val) (unsigned 11 ((s.snapV n : Int) - s.fld pSHARE SHARE.RAIL_RAIL_V))
      else s
    { s with share := { s.share with hold := false } }
  else s

/-! ### The commands -/

/-- SHARE_REGULATION (R302): the gate of a closed member begins or stops being held at its fine limit. -/
def execShareRegulation (n : Port) (held : Bool) (s : State) : Host.Outcome State Fault Refusal :=
  .next (if s.isMember n ∧ s.sinkClosed n then s.putB pSHARE (SHARE.PORT_STAT_HELD.at n.val) held else s)

/-- DIODE_REGULATION (R297): diode regulation begins or stops holding a member's gate. -/
def execDiodeRegulation (n : Port) (held : Bool) (s : State) : Host.Outcome State Fault Refusal :=
  .next (if s.isMember n ∧ s.sinkClosed n then s.modShare n fun h => { h with diode := held } else s)

/-- SHARE_RELEASE (R303): a member leaves the sharing set. -/
def execShareRelease (n : Port) (s : State) : Host.Outcome State Fault Refusal := .next (s.shareLeave n)

/-- NO_FREE_MEMBER (R303, R309): a member is held and none has been free for 20 µs. -/
def execNoFreeMember (s : State) : Host.Outcome State Fault Refusal :=
  .next (
    let held := allPorts.any fun n => s.isMember n && s.sinkClosed n && s.flag pSHARE (SHARE.PORT_STAT_HELD.at n.val)
    if held then s.shareRelease false else s)

/-- SHARE_CMD_RELEASE (R303). -/
def execShareCmdRelease (key : BitVec 16) (s : State) : Host.Outcome State Fault Refusal :=
  .next (s.keyCmd pSHARE key.toNat 0x5C83 fun s => s.shareRelease false)

/-- `TRIM_CLEAR` (Table 12.6). -/
def State.trimClearCmd (s : State) : State := { s with share := { s.share with trimClear := true } }

/-- SHARE_CMD_TRIM_CLEAR (R312). -/
def execShareCmdTrimClear (key : BitVec 16) (s : State) : Host.Outcome State Fault Refusal :=
  .next (s.keyCmd pSHARE key.toNat 0x5C83 fun s => s.trimClearCmd)

/-- MEMBER_BLOCK_END (R298): 100 µs after a block on a member, diode regulation drives the gate again. -/
def execMemberBlockEnd (n : Port) (s : State) : Host.Outcome State Fault Refusal :=
  .next (if s.isMember n ∧ s.flag (pGUARD n) GUARD.PG_STAT_SNK_BLOCKED then
      (s.put (pGUARD n) GUARD.PG_STAT_SNK_BLOCKED 0).modShare n fun h => { h with diode := true }
    else s)

end Sys2Proof.Machine
end

