-- ==== Sys2Proof/Machine/Mux.lean ====
section
/-!
DEFINITION. HPD pins and the mux bus (chapter 10): the hardware of `VDM[n]` and the `MUXB` controller, with their commands.
-/

namespace Sys2Proof.Machine

/-- Levels of HPD as the pins of a port drive it (R249): low during an IRQ pulse. -/
def State.hpdPin (s : State) (n : Port) : Bool := s.flag (pVDM n) VDM.HPD_LEVEL && !(s.port n).irqOn

/-- A write of `HPD.LEVEL` (R249): 0 cancels a waiting pulse. A rising level lets a pulse start no sooner than 1 ms later. -/
def State.hpdWrite (s : State) (n : Port) (level : Bool) : State :=
  let s := s.putB (pVDM n) VDM.HPD_LEVEL level
  if level then s else s.modPort n fun p => { p with irqWait := false }

/-- HPD_LEVEL_WRITE (R249). -/
def execHpdLevelWrite (n : Port) (level : Bool) (s : State) : Host.Outcome State Fault Refusal :=
  .next (s.cmd (pVDM n) fun s => s.hpdWrite n level)

/-- A write of `HPD_IRQ` (R249). `early`: less than 1 ms has passed since the last rising edge, so that the pulse waits. -/
def State.hpdIrq (s : State) (n : Port) (early : Bool) : State :=
  if !s.flag (pVDM n) VDM.HPD_LEVEL then s
  else if (s.port n).irqWait then s.raise (pVDM n) VDM.PG_EVT_IRQ_DROPPED
  else if (s.port n).irqOn || early then s.modPort n fun p => { p with irqWait := true }
  else s.modPort n fun p => { p with irqOn := true }

/-- HPD_IRQ (R249). -/
def execHpdIrq (n : Port) (early : Bool) (s : State) : Host.Outcome State Fault Refusal :=
  .next (s.cmd (pVDM n) fun s => s.hpdIrq n early)

/-- HPD_IRQ_END (R249): a running pulse ends; otherwise the 1 ms gap ends and a waiting pulse starts. -/
def execHpdIrqEnd (n : Port) (s : State) : Host.Outcome State Fault Refusal :=
  .next (s.cmd (pVDM n) fun s => s.modPort n fun p =>
    if p.irqOn then { p with irqOn := false } else { p with irqOn := p.irqWait, irqWait := false })

/-- End the mux-bus transaction with a result (Table 10.6). -/
def State.muxEnd (s : State) (result bytes : Nat) : State :=
  let s := ((s.put pMUXB MUXB.STAT_BUSY 0).put pMUXB MUXB.STAT_RESULT result).put pMUXB MUXB.STAT_DONE_BYTES bytes
  s.raise pMUXB (if result = 0 then MUXB.PG_EVT_DONE else MUXB.PG_EVT_ERR)

/-- `GO` (R256): a bad count ends at once with nothing sent. -/
def State.muxGo (s : State) : State :=
  if s.flag pMUXB MUXB.STAT_BUSY then s.lockedWrite pMUXB
  else
    let w := s.fld pMUXB MUXB.TXN_WCNT
    let r := s.fld pMUXB MUXB.TXN_RCNT
    if (w = 0 ∧ r = 0) ∨ 16 < w ∨ 16 < r then s.muxEnd 6 0 else s.put pMUXB MUXB.STAT_BUSY 1

/-- MUXB_GO (R256). -/
def execMuxbGo (key : BitVec 16) (s : State) : Host.Outcome State Fault Refusal :=
  .next (s.keyCmd pMUXB key.toNat 0x2E5B fun s => s.muxGo)

/-- `ABORT`: the bytes acknowledged so far are what the bus reached. -/
def State.muxAbort (s : State) (bytes : Nat) : State := if s.flag pMUXB MUXB.STAT_BUSY then s.muxEnd 7 bytes else s

/-- MUXB_ABORT (R257). -/
def execMuxbAbort (key : BitVec 16) (bytes : BitVec 5) (s : State) : Host.Outcome State Fault Refusal :=
  .next (s.keyCmd pMUXB key.toNat 0x2E5B fun s => s.muxAbort bytes.toNat)

/-- Load received bytes into `RDATA`, least significant first. -/
def State.muxRdata (s : State) (bs : List Byte) : State :=
  [0, 1, 2, 3].foldl (init := s) fun s w =>
    let part := (bs.drop (4 * w)).take 4
    if part.isEmpty then s else s.put pMUXB (MUXB.RDATA_BYTES.at w) (leNat part)

/-- Bytes of a read that the controller takes (R256): with `BLOCK`, the first byte gives the count that follows, bounded by `RCNT`. -/
def State.muxTaken (s : State) (bs : List Byte) : List Byte :=
  let r := s.fld pMUXB MUXB.TXN_RCNT
  if s.flag pMUXB MUXB.TXN_BLOCK then
    match bs with
    | [] => []
    | c :: rest => c :: rest.take (min c.toNat r)
  else bs.take r

/-- The bytes the controller puts on the bus in a whole transaction (R256): the write address, `WCNT` bytes of `WDATA`, with `PEC` and no read the PEC byte; for a read the read address. -/
def State.muxBytes (s : State) : List Byte :=
  let a := 2 * s.fld pMUXB MUXB.TXN_ADDR
  let r := s.fld pMUXB MUXB.TXN_RCNT
  let data := ([0, 1, 2, 3].flatMap fun w => leBytes 4 (s.fld pMUXB (MUXB.WDATA_BYTES.at w))).take (s.fld pMUXB MUXB.TXN_WCNT)
  let w := leBytes 1 a ++ data
  if r = 0 then (if s.flag pMUXB MUXB.TXN_PEC then w ++ leBytes 1 (crc8 w) else w) else w ++ leBytes 1 (a + 1)

/-- MUXB_DONE (R256, R257; none while `VDDIO` is absent, when the lines are released, R68): the transaction ends with a result (0 OK, 1 ADDR_NACK, 2 DATA_NACK, 4 BUS_STUCK, 5 PEC_ERR), the bytes
acknowledged, the bytes read and the PEC byte after them, which is checked against every byte of the transaction. A NACK is the last byte sent; on a stuck bus none is. -/
def execMuxbDone (result : Fin 8) (acked : BitVec 5) (bytes : List Byte) (pec : Byte) (s : State) : Host.Outcome State Fault Refusal :=
  .next (s.cmd pMUXB fun s =>
    if s.flag pMUXB MUXB.STAT_BUSY && s.flag pSUP SUP.PG_STAT_VDDIO_OK then
      let all := s.muxBytes
      let taken := s.muxTaken bytes
      let out := if result.val = 1 ∨ result.val = 2 then all.take (acked.toNat + 1) else if result.val = 4 then [] else all
      let bad := s.flag pMUXB MUXB.TXN_PEC && decide (0 < s.fld pMUXB MUXB.TXN_RCNT) && crc8 (all ++ taken) != pec.toNat
      let s := { s with pins := { s.pins with muxOut := out } }
      (s.muxRdata (taken.take 16)).muxEnd (if result.val = 0 ∧ bad then 5 else result.val) acked.toNat
    else s)

/-- MUXB_TIMEOUT (R257). -/
def execMuxbTimeout (acked : BitVec 5) (s : State) : Host.Outcome State Fault Refusal :=
  .next (s.cmd pMUXB fun s => if s.flag pMUXB MUXB.STAT_BUSY then s.muxEnd 3 acked.toNat else s)

/-- MINT_EDGE (R256): `MINT` changes; the edge `CFG.MINT_EDGE` selects raises the event. -/
def execMintEdge (level : Bool) (s : State) : Host.Outcome State Fault Refusal :=
  .next (
    let was := s.pins.mint
    let s := { s with pins := { s.pins with mint := level } }
    if !s.live then s
    else
      let e := s.fld pMUXB MUXB.CFG_MINT_EDGE
      let fall := was && !level && bitAt e 0
      let rise := !was && level && bitAt e 1
      s.raiseIf (fall || rise) pMUXB MUXB.PG_EVT_MINT)

end Sys2Proof.Machine
end

