-- ==== Sys2Proof/Machine/PolicyOps.lean ====
section
/-!
DEFINITION. The standard policy firmware's building blocks (chapters 9 and 10): composing messages, reading receive records, the grant in force,
the capabilities that R229 yields. Message, PDO and RDO layouts are those of USB PD 3.1 (log entry 20).
-/

namespace Sys2Proof.Machine

/-! ### Messages -/

/-- Store offset of receive record `i`. -/
def rxRecAt (n : Port) (i : Nat) : Nat := 0x4000 * n.val + 64 * (i % 64)

/-- The header in a receive record. -/
def State.rxHdr (s : State) (n : Port) (i : Nat) : Nat := s.stNat (rxRecAt n i + 16) 2

/-- Data object `k` of a receive record. -/
def State.rxObj (s : State) (n : Port) (i k : Nat) : Word := BitVec.ofNat 32 (s.stNat (rxRecAt n i + 18 + 4 * k) 4)

/-- The data objects of a receive record. -/
def State.rxObjs (s : State) (n : Port) (i : Nat) : List Word := (List.range (hdrNdo (s.rxHdr n i))).map fun k => s.rxObj n i k

/-- A receive record that firmware may use: no error, of this generation, intact (R21). -/
def State.rxUsable (s : State) (n : Port) (i : Nat) : Bool :=
  !bitAt (s.stNat (rxRecAt n i + 10) 1) 4 && s.stNat (rxRecAt n i + 3) 1 == s.gen n && s.stChecks (rxRecAt n i) 64

/-- The header in the receive buffer that a receive record names (R214). -/
def State.rxExtAt (s : State) (n : Port) (i : Nat) : Nat := rxBufAt n (s.stNat (rxRecAt n i + 11) 1)

/-- The objects in the receive buffer that a receive record names, whose integrity checks (R214). -/
def State.rxExtObjs (s : State) (n : Port) (i : Nat) : List Word :=
  let b := s.rxExtAt n i
  if bitAt (s.stNat (rxRecAt n i + 10) 1) 0 && s.stChecks b 512 then
    (List.range (bitsOf (s.stNat (b + 2) 2) 0 9 / 4)).map fun k => BitVec.ofNat 32 (s.stNat (b + 4 + 4 * k) 4)
  else []

/-- EPR mode: a contract of it stands, or Enter Succeeded was sent or received since. -/
def State.inEpr (s : State) (n : Port) : Bool := s.flag (pPOL n) POL.PG_STAT_EPR_MODE || (s.port n).fw.epr

/-- Policy firmware acts: CORE runs an image. -/
def State.policy (s : State) (f : State → State) : State := if s.fw then f s else s

/-! ### The grant and the capabilities (R229, R340, R359) -/

/-- What this device holds of a port's grant. -/
def State.own (s : State) (n : Port) : OwnGrant := s.place.own.get n

/-- Change what this device holds of a port's grant. -/
def State.modOwn (s : State) (n : Port) (f : OwnGrant → OwnGrant) : State :=
  { s with place := { s.place with own := s.place.own.set n.val (f (s.place.own.get n)) n.isLt } }

/-- The twin state of a port. -/
def State.tw (s : State) (n : Port) : TwinPort := s.twin.ports.get n

/-- Change the twin state of a port. -/
def State.modTw (s : State) (n : Port) (f : TwinPort → TwinPort) : State :=
  { s with twin := { s.twin with ports := s.twin.ports.set n.val (f (s.twin.ports.get n)) n.isLt } }

/-- A port is twinned (`TWIN.CFG.PORTS`). -/
def State.twinned (s : State) (n : Port) : Bool := bitAt (s.fld pTWIN TWIN.CFG_PORTS) n.val

/-- A number in the mirror entry of a port. -/
def State.mirNat (s : State) (n : Port) (i k : Nat) : Nat :=
  match (s.tw n).mir with
  | some b => numAt b i k
  | none => 0

/-- Age of a mirror (R361): the present tick less its TICK, modulo 65,536; none held: 65,535. -/
def State.mirAge (s : State) (n : Port) : Nat :=
  match (s.tw n).mir with
  | some b => (s.tick + 65536 - numAt b 30 2) % 65536
  | none => 65535

/-- The grant a port advertises from: its own, and on a twin the lower of it and the shadow's grant not older than 2 ticks (R359). -/
def State.grantOf (s : State) (n : Port) : Nat :=
  let g := (s.own n).grant
  if s.twinned n && (s.tw n).mir.isSome && decide (s.mirAge n ≤ 2) then min g (s.mirNat n 28 2) else g

/-- The cable reports 5 A (R229). -/
def State.cable5A (s : State) (n : Port) : Bool :=
  s.flag (pVDM n) VDM.DISC_STAT_CBL_KNOWN && bitsOf (s.fld (pVDM n) VDM.CBL_VDO_VDO) 5 2 == 2

/-- The cable is EPR-capable. -/
def State.cableEpr (s : State) (n : Port) : Bool :=
  s.flag (pVDM n) VDM.DISC_STAT_CBL_KNOWN && bitAt (s.fld (pVDM n) VDM.CBL_VDO_VDO) 17

/-- Current cap of a cold-twinned port (R365). -/
def State.twinCap (s : State) (n : Port) (v50 : Nat) : Nat :=
  if s.twinned n && !s.flag pTWIN TWIN.CFG_HOT then Config.coldTwinCap v50 else 1023

/-- Objects the device supports by their position (Table 0.6): fixed, battery and PPS of 3.3-21 V among the SPR positions 1-7, fixed 28, 36 and 48 V and AVS of 15-48 V up to
240 W among the EPR positions 8-11. Variable supplies are not among them. -/
def objSupported (pos : Nat) (o : Nat) : Bool :=
  match bitsOf o 30 2 with
  | 0 =>
    let v := bitsOf o 10 10
    if pos ≤ 7 then decide (v ≤ 400) else v == 560 || v == 720 || v == 960
  | 1 => decide (pos ≤ 7)
  | 2 => false
  | _ =>
    if bitsOf o 28 2 = 0 then decide (pos ≤ 7) && decide (33 ≤ bitsOf o 8 8) && decide (bitsOf o 17 8 ≤ 210)
    else if bitsOf o 28 2 = 1 then decide (8 ≤ pos) && decide (150 ≤ bitsOf o 8 8) && decide (bitsOf o 17 9 ≤ 480) && decide (bitsOf o 0 8 ≤ 240)
    else false

/-- The object a template yields under the grant (R229), and whether its limited current reaches 1 A. Kinds by PDO bits [31:28]: 4-7 battery, 12 PPS, 13 EPR AVS, other objects
fixed; `objSupported` has left out what the device does not offer. -/
def State.capObj (s : State) (n : Port) (t : Word) : Option (Word × Bool) :=
  let v := t.toNat
  let g := s.grantOf n
  let cable := if s.cable5A n then 500 else 300
  match bitsOf v 30 2 with
  | 1 =>
    let p := min (bitsOf v 0 10) (g / 25)
    some (BitVec.ofNat 32 (setBits v 0 10 p), decide (bitsOf v 20 10 ≤ 5 * p))
  | 3 =>
    match bitsOf v 28 2 with
    | 0 =>
      let vm := bitsOf v 17 8
      let i := min (min (bitsOf v 0 7) (if vm = 0 then 0 else 2 * g / vm)) (min (cable / 5) (s.twinCap n (2 * vm) / 5))
      some (BitVec.ofNat 32 (setBits v 0 7 i), decide (20 ≤ i))
    | 1 =>
      let p := min (bitsOf v 0 8) (g / 100)
      some (BitVec.ofNat 32 (setBits v 0 8 p), decide (bitsOf v 17 9 ≤ 10 * p))
    | _ => none
  | _ =>
    let vm := bitsOf v 10 10
    let i := min (min (bitsOf v 0 10) (if vm = 0 then 0 else 20 * g / vm)) (min cable (s.twinCap n vm))
    some (BitVec.ofNat 32 (setBits v 0 10 i), decide (100 ≤ i))

/-- The template of a position 1-11. -/
def State.template (s : State) (n : Port) (pos : Nat) : Word := s.rd (pPOL n) (0x7C + 4 * pos)

/-- The 5 V fixed object of position 1: from `PDO[1]` when that is one, else from a 3 A template with every flag 0. -/
def State.firstObj (s : State) (n : Port) : Word :=
  let t := s.template n 1
  let base : Word := if bitsOf t.toNat 30 2 = 0 ∧ bitsOf t.toNat 10 10 = 100 then t else BitVec.ofNat 32 (100 * 1024 + 300)
  match s.capObj n base with
  | some (o, _) => o
  | none => base

/-- The objects advertised, with the position a Request names them by: SPR objects are numbered as they follow each other, EPR objects keep
positions 8-11 (R229). -/
def State.buildCaps (s : State) (n : Port) : List (Nat × Word) :=
  let keep := fun (pos : Nat) =>
    let t := s.template n pos
    if t = 0 ∨ !objSupported pos t.toNat ∨ (bitsOf t.toNat 30 2 = 3 ∧ !s.flag (pPOL n) POL.CFG_PPS_EN) then none
    else match s.capObj n t with
      | some (o, true) => some o
      | _ => none
  let spr := s.firstObj n :: ([2, 3, 4, 5, 6, 7].filterMap keep)
  let epr := if s.flag (pPOL n) POL.CFG_EPR_EN && s.cableEpr n then
      [8, 9, 10, 11].filterMap fun p => (keep p).map fun o => (p, o)
    else []
  (List.range spr.length).zip spr |>.map (fun c => (c.1 + 1, c.2)) |>.append epr

/-- The objects of the next capabilities message: the SPR objects, with the EPR objects in EPR mode. -/
def State.capsNow (s : State) (n : Port) : List (Nat × Word) :=
  let caps := s.buildCaps n
  if s.inEpr n then caps else caps.filter fun c => c.1 ≤ 7

/-- Send the capabilities that R229 yields: Source_Capabilities, or EPR_Source_Capabilities in EPR mode. -/
def State.advertise (s : State) (n : Port) : State :=
  let caps := s.capsNow n
  let s := s.modFw n fun f => { f with caps := caps }
  if s.inEpr n then
    let obj := fun p => match caps.find? fun c => c.1 == p with
      | some c => leBytes 4 c.2.toNat
      | none => leBytes 4 0
    s.fwSendExt n 17 (((List.range 11).map (· + 1)).flatMap obj)
  else s.fwSend n 0 1 (caps.map fun c => c.2) (s.explicit n)

/-! ### VDM requests (R244-R248) -/

/-- A structured VDM header: SVID, object position, command type (0 request, 1 ACK, 2 NAK, 3 BUSY), command. -/
def vdmHdr (svid pos ctype cmd : Nat) : Word :=
  BitVec.ofNat 32 (svid % 65536 * 65536 + 0x8000 + 0x2000 + 256 * (pos % 8) + 64 * (ctype % 4) + cmd % 32)

/-- Command of a VDM header. -/
def vdmCmd (h : Word) : Nat := bitsOf h.toNat 0 5

/-- How long firmware waits for the response to a request (Table 10.1): Enter and Exit Mode have a time of their own. -/
def State.vdmWaitUs (s : State) (n : Port) (h : Word) : Nat :=
  if vdmCmd h = 4 ∨ vdmCmd h = 5 then boundUs (s.fld (pVDM n) VDM.TIMING_MODE_TO_MS) 40 50
  else boundUs (s.fld (pVDM n) VDM.TIMING_RSP_TO_MS) 24 30

/-- Send a VDM request and wait for its response; a cable's request is kept apart from the partner's. -/
def State.vdmAsk (s : State) (n : Port) (sop : Nat) (h : Word) (body : List Word) (ams : Bool) : State :=
  let q : VdmReq := { sop := sop, hdr := h, body := body, again := false, busy := false, waitUs := s.vdmWaitUs n h }
  (s.fwSend n sop 15 (h :: body) ams).modFw n fun f => if sop = 0 then { f with vdm := some q } else { f with cbl := some q }

/-- Discover Identity goes to the cable on SOP′, while it is allowed, unanswered and fewer than 20 attempts were made in the generation (R244). -/
def State.cableAsk (s : State) (n : Port) : State :=
  let pg := pVDM n
  if s.flag pg VDM.CFG_CBL_DISC && s.enabled (pPDL n) && s.cableOk n 1 && !s.flag pg VDM.DISC_STAT_CBL_KNOWN && decide ((s.port n).fw.cblTries < 20) then
    let s := if s.fld pg VDM.DISC_STAT_DISC = 0 then s.put pg VDM.DISC_STAT_DISC 1 else s
    (s.modFw n fun f => { f with cblTries := f.cblTries + 1 }).vdmAsk n 1 (vdmHdr 0xFF00 0 0 1) [] (s.explicit n)
  else s

/-! ### Limits that follow the grant (R346) -/

/-- `ILIM` for a grant at a voltage in 20 mV: grant ÷ voltage, rounded down to 10 mA, at most 10.23 A. -/
def ilimFor (grant v : Nat) : Nat := min 1023 (if v = 0 then 1023 else 50 * grant / v)

/-- The contract a limit was written for: 0 without an explicit contract, else the tick of its commit + 1; with the generation. -/
def State.limKey (s : State) (n : Port) : Nat :=
  256 * (if s.explicit n && s.snapValid n then s.snapWord n 5 + 1 else 0) + s.gen n

/-- Write `GUARD[n].ILIM` for the grant and the contract in force: during a transition the limit in force stays. -/
def State.writeIlim (s : State) (n : Port) : State :=
  let v := if s.explicit n && s.snapValid n then s.snapV n else 250
  let s := s.put (pGUARD n) GUARD.ILIM_LIMIT (ilimFor (s.own n).grant v)
  s.modOwn n fun o => { o with limId := s.limKey n, limited := true }

/-- The limit follows the grant at an IN_FORCE commit, a detach, a Hard Reset and a power restart (R346). -/
def State.followLimit (s : State) (n : Port) : State :=
  if (s.own n).limited && s.limKey n != (s.own n).limId && !s.snapTrans n then s.writeIlim n else s

end Sys2Proof.Machine
end

