-- ==== Sys2Proof/Machine/GaugeOps.lean ====
section
/-!
DEFINITION. The battery gauge's building blocks (chapter 15): tables and their interpolation, measured values, the learning cycle, the gauge
record, loading a profile.
-/

namespace Sys2Proof.Machine

/-! ### Tables (R380, R381) -/

/-- Interpolation by a fraction of 2^16 as the table instruction computes it, rounded half-up as the gauge's tasks select (R444; log entry 60). -/
def mixHalfUp (y0 y1 f : Int) : Int := y0 + ((y1 - y0) * f + 32768) / 65536

/-- Interpolation between two points of a breakpoint axis: the fraction is truncated (R381, R444). -/
def lerp (x0 y0 x1 y1 x : Int) : Int := if x1 ≤ x0 then y0 else mixHalfUp y0 y1 ((x - x0) * 65536 / (x1 - x0))

/-- The value of a table of (x, y) points, x ascending, at x; the end values beyond its ends. -/
def tableAt (x : Int) : List (Int × Int) → Int
  | [] => 0
  | [(_, y)] => y
  | (x0, y0) :: (x1, y1) :: l => if x < x0 then y0 else if x < x1 then lerp x0 y0 x1 y1 x else tableAt x ((x1, y1) :: l)

/-- A row of 16 resistances at a state of charge in 0.01 %: a uniform axis with INV = 25,166 (the example of R444). -/
def resAt (x : Int) (l : List Int) : Int :=
  let p := x * 25166
  let y := fun (k : Nat) => l.getD k 0
  let k := (p / 2 ^ 24).toNat
  if p < 0 then y 0 else if 15 ≤ k then y 15 else mixHalfUp (y k) (y (k + 1)) (p / 256 % 65536)

/-- Strictly ascending. -/
def ascending : List Int → Bool
  | a :: b :: l => decide (a < b) && ascending (b :: l)
  | _ => true

/-- A profile is bad (R380). -/
def profBad (p : Profile) : Bool := !ascending p.temps || p.ocv.any fun l => !ascending (l.map fun c => c.1)

/-- State of charge, 0.01 %, of a resting cell voltage in mV at a temperature (R381). -/
def profOcv (p : Profile) (mv temp : Int) : Int := tableAt temp (p.temps.zip (p.ocv.map (tableAt mv)))

/-- Cell resistance, 0.1 mΩ, at a state of charge in % and a temperature (R381). -/
def profRes (p : Profile) (soc temp : Int) : Int := tableAt temp (p.temps.zip (p.res.map (resAt (100 * soc))))

/-- The profile of a slot, from NVD area 4 + s. -/
def State.profile (s : State) (slot : Nat) : Option Profile :=
  match s.nvdRecord (4 + slot) with
  | none => none
  | some b => match Config.profileOf b with
    | none => none
    | some p => if profBad p then none else some p

/-- e^(−a/b) in units of 2^−48, by halving the argument and squaring back. -/
def expNeg : Nat → Nat → Nat → Nat
  | 0, a, b =>
    let one := 2 ^ 48
    let x := a * one / b
    let t := (List.range 10).foldr (fun (k : Nat) (acc : Int) => (one : Int) - (x : Int) * acc / (one * (k + 1))) (one : Int)
    t.toNat
  | fuel + 1, a, b => if a ≤ b then expNeg 0 a b else let r := expNeg fuel a (2 * b); r * r / 2 ^ 48

/-! ### Registers -/

/-- Change the gauge's state. -/
def State.modGauge (s : State) (f : GaugeSt → GaugeSt) : State := { s with gauge := f s.gauge }

/-- `GAUGE.ACC`, signed. -/
def State.acc (s : State) : Int := signed 48 (s.fld pGAUGE GAUGE.ACC_LO_ACC + 2 ^ 32 * s.fld pGAUGE GAUGE.ACC_HI_ACC)

/-- Write `GAUGE.ACC`. -/
def State.setAcc (s : State) (v : Int) : State :=
  let u := unsigned 48 v
  (s.put pGAUGE GAUGE.ACC_LO_ACC u).put pGAUGE GAUGE.ACC_HI_ACC (u / 2 ^ 32)

/-- `SHUNT_UOHM` as it acts. -/
def State.shunt (s : State) : Nat := max 1000 (s.fld pGAUGE GAUGE.SHUNT_SHUNT_UOHM)

/-- Cells in series; 0 with no pack fitted. -/
def State.cells (s : State) : Nat := let c := s.fld pGAUGE GAUGE.CFG_CELLS; if 1 ≤ c ∧ c ≤ 5 then c else 0

def State.iAvg1 (s : State) : Int := signed 24 (s.fld pGAUGE GAUGE.I_AVG1_I)
def State.iAvg60 (s : State) : Int := signed 24 (s.fld pGAUGE GAUGE.I_AVG60_I)
def State.gFcc (s : State) : Nat := s.fld pGAUGE GAUGE.FCC_Q
def State.gRm (s : State) : Nat := s.fld pGAUGE GAUGE.RM_Q
def State.gDeficit (s : State) : Int := signed 24 (s.fld pGAUGE GAUGE.DEFICIT_Q)
def State.gTemp (s : State) : Int := signed 16 (s.fld pGAUGE GAUGE.TEMP_T)
def State.soc (s : State) : Nat := s.fld pGAUGE GAUGE.STATE_SOC
def State.socCalc (s : State) : Nat := s.fld pGAUGE GAUGE.STATE_SOC_CALC
def State.socValid (s : State) : Bool := s.flag pGAUGE GAUGE.STATE_SOC_VALID

/-- A thermistor fault stands. -/
def State.tsFault (s : State) : Bool := s.flag pGAUGE GAUGE.PG_STAT_TS_OPEN || s.flag pGAUGE GAUGE.PG_STAT_TS_SHORT

/-- The cell voltage in mV (R379). -/
def State.cellMv (s : State) : Nat := if s.cells = 0 then 0 else s.fld pGAUGE GAUGE.VPACK_V / s.cells

/-- ⌊100 × RM / FCC⌋. -/
def State.socOfRm (s : State) : Nat := if s.gFcc = 0 then 0 else min 255 (100 * s.gRm / s.gFcc)

/-- Set RM, held at or below 99 % of FCC until end of charge (R382), and `SOC_CALC` with it. -/
def State.setRm (s : State) (rm : Nat) : State :=
  let cap := if s.flag pGAUGE GAUGE.STATE_FULL then s.gFcc else 99 * s.gFcc / 100
  let s := s.put pGAUGE GAUGE.RM_Q (min rm cap)
  s.put pGAUGE GAUGE.STATE_SOC_CALC s.socOfRm

/-- `STATE.FULL` stands from end of charge until RM falls below 99 % of FCC (R382, R383). -/
def State.fullCheck (s : State) : State := if 100 * s.gRm < 99 * s.gFcc then s.put pGAUGE GAUGE.STATE_FULL 0 else s

/-- A code at full scale within the last 1 s (`PG_STAT.OVERRANGE`). -/
def State.overRecent (s : State) : Bool := s.gauge.overTick.any fun t => decide (s.tick < t + 20000)

/-- The direction of the current (chapter 15): 0 idle, 1 charging, 2 discharging. -/
def State.gDir (s : State) : Nat :=
  let c : Int := s.gFcc
  if 50 * s.iAvg1 < -c then 2 else if c < 50 * s.iAvg1 then 1 else 0

/-- Cell resistance at `SOC_CALC` and `TEMP`, 0.1 mΩ; 0 with no profile. -/
def State.rNow (s : State) : Int :=
  match s.gauge.prof with
  | some p => profRes p s.socCalc s.gTemp
  | none => 0

/-- A voltage drop in mV of a current (0.1 mA) over a resistance (0.1 mΩ). -/
def dropMv (i r : Int) : Int := roundDiv (i * r) 100000

/-- `SOC_VALID` is set. -/
def State.setValid (s : State) : State :=
  (s.raiseIf (!s.socValid) pGAUGE GAUGE.PG_EVT_SOC_VALID).put pGAUGE GAUGE.STATE_SOC_VALID 1

/-! ### The learning cycle (R390-R392) -/

/-- `LEARN.STAT.STATE`. -/
def State.learnState (s : State) : Nat := s.fld pLEARN LEARN.STAT_STATE

/-- A RUNNING cycle is disqualified (R391); a cycle that has LEARNED no longer qualifies an EDV0 adjustment. -/
def State.disqualify (s : State) (reason : Nat) : State :=
  let s := s.modGauge fun g => { g with qual := false }
  if s.learnState = 1 then
    let s := ((s.put pLEARN LEARN.STAT_STATE 3).put pLEARN LEARN.STAT_REASON reason).bump pLEARN LEARN.COUNT_DISQ 1
    s.raise pLEARN LEARN.PG_EVT_DISQUALIFIED
  else s

/-- `TEMP` within `T_MIN`-`T_MAX`. -/
def State.tempOk (s : State) : Bool :=
  decide (signed 16 (s.fld pLEARN LEARN.CFG_T_MIN) ≤ s.gTemp) && decide (s.gTemp ≤ signed 16 (s.fld pLEARN LEARN.CFG_T_MAX))

/-- A start point of a learning cycle (R390), with SOC_START in 0.01 %. -/
def State.learnStart (s : State) (soc : Nat) : State :=
  if s.socValid && s.flag pBATID BATID.STAT_KNOWN then
    let s := ((s.put pLEARN LEARN.QDIS_Q 0).put pLEARN LEARN.QIN_Q 0).put pLEARN LEARN.SOC_START_SOC soc
    let s := (s.put pLEARN LEARN.START_TICK_TICK s.tick).put pLEARN LEARN.STAT_STATE 1
    let s := s.modGauge fun g => { g with fccStart := s.gFcc, startTick := s.tick, qual := true, qPlus := 0 }
    let s := s.raise pLEARN LEARN.PG_EVT_STARTED
    if s.tempOk then s else s.disqualify 1
  else s

/-- The conditions of Table 15.3 that are tested at every run: the reason that fails. -/
def State.learnFails (s : State) : Option Nat :=
  let hours := max 1 (s.fld pLEARN LEARN.LIMITS_MAX_H)
  if s.gTemp < signed 16 (s.fld pLEARN LEARN.CFG_T_MIN) - 40 then some 1
  else if s.fld pLEARN LEARN.LIMITS_CHG_PCT * s.gFcc < 100 * s.fld pLEARN LEARN.QIN_Q then some 3
  else if hours * 72000000 ≤ s.tick - s.gauge.startTick then some 4
  else none

/-- The conditions tested at EDV2 but for the result: the reason that fails. -/
def State.edv2Fails (s : State) : Option Nat :=
  let c : Int := s.gauge.fccStart
  let i := s.iAvg60
  let lo : Int := max 1 (s.fld pLEARN LEARN.RATE_MIN_DIV)
  let hi : Int := max 1 (s.fld pLEARN LEARN.RATE_MAX_DIV)
  if !s.tempOk then some 1
  else if i * lo ≤ -c ∧ -c ≤ i * hi then none
  else some 2

/-- The change from the previous FCC is limited to ±`STEP_PCT` % (R392 step 2). -/
def State.clampFcc (s : State) (new : Nat) : Nat × Bool :=
  let pct := s.fld pLEARN LEARN.LIMITS_STEP_PCT
  let lo := s.gFcc - s.gFcc * pct / 100
  let hi := s.gFcc + s.gFcc * pct / 100
  let v := max lo (min hi new)
  (v, v != new)

/-- Charge counts in a RUNNING cycle (R390): `QDIS` is the net discharge; net charge beyond it is held aside, so that the net stays exact. -/
def State.netCount (s : State) (q : Int) : State :=
  let net : Int := (s.fld pLEARN LEARN.QDIS_Q : Int) - s.gauge.qPlus - q
  (s.put pLEARN LEARN.QDIS_Q net.toNat).modGauge fun g => { g with qPlus := (-net).toNat }

/-- The result lies within 50-120 % of the design capacity (Table 15.3, RANGE). -/
def State.fccFits (s : State) (new : Nat) : Bool :=
  let cap := s.fld pGAUGE GAUGE.DESIGN_CAP
  decide (cap ≤ 2 * new) && decide (100 * new ≤ 120 * cap)

/-- A learned FCC is taken (R392 steps 2-5), with `rm` % of it left. -/
def State.learnTake (s : State) (new : Nat × Bool) (rm : Nat) : State :=
  let s := (s.putB pLEARN LEARN.STAT_CLAMPED new.2).put pGAUGE GAUGE.FCC_Q new.1
  let s := (s.put pGAUGE GAUGE.DEFICIT_Q 0).put pGAUGE GAUGE.STATE_FLOOR 0
  let s := (s.setRm (rm * new.1 / 100)).put pGAUGE GAUGE.STATE_STALE 0
  let s := (s.bump pLEARN LEARN.COUNT_LEARNED 1).put pLEARN LEARN.LAST_FCC_Q new.1
  let s := (s.put pLEARN LEARN.STAT_STATE 2).raise pLEARN LEARN.PG_EVT_LEARNED
  let s := s.modGauge fun g => { g with bidAt := s.fld pBATID BATID.BID_OHM }
  (s.put pLEARN LEARN.PENDING_FCC new.1).put pLEARN LEARN.PENDING_PEND 1

/-! ### The gauge record (R393) -/

/-- Bytes 0-61 of the gauge record (log entry 61). -/
def State.gaugeBytes (s : State) : List Byte :=
  let w := fun (pg off : Nat) => leBytes 4 (s.rd pg off).toNat
  w pGAUGE 0x58 ++ w pGAUGE 0x5C ++ w pGAUGE 0x60 ++ w pGAUGE 0x64 ++ w pLEARN 0x2C ++ leBytes 2 (s.fld pLEARN LEARN.SOC_START_SOC) ++ leBytes 2 s.gauge.bidAt ++ w pLEARN 0x34 ++ w pLEARN 0x38 ++
    w pLEARN 0x40 ++ w pLEARN 0x44 ++ w pLEARN 0x48 ++ leBytes 6 (unsigned 48 s.gauge.lastAcc) ++ leBytes 6 s.gauge.startTick ++
    leBytes 4 (s.gauge.fccStart + 2 ^ 24 * s.gauge.qual.toNat + 2 ^ 25 * s.gauge.edvDone) ++ leBytes 2 (min 65535 s.gauge.qPlus)

/-- Rewrite the gauge record. -/
def State.gaugeSave (s : State) : State :=
  let b := s.gaugeBytes
  s.aosWrite 0x180 (b ++ leBytes 2 (crc16 b))

/-- No profile, no rest, no counts: the gauge's own variables as firmware starts with them. -/
def gaugeNew : GaugeSt := .init

/-- `CMD.CLEAR_SWAP`. -/
def State.clearSwap (s : State) : State := s.put pBATID BATID.STAT_SWAP_SEEN 0

/-- The gauge loads a profile into its configuration registers (R380). -/
def State.profLoad (s : State) (p : Option Profile) : State :=
  let s := s.modGauge fun g => { g with prof := p }
  match p with
  | none => s
  | some p =>
    let s := (s.put pGAUGE GAUGE.CFG_CELLS p.cells).put pGAUGE GAUGE.DESIGN_CAP p.design
    let s := (s.put pGAUGE GAUGE.TS_CFG_NOMINAL p.ntc).put pGAUGE GAUGE.TS_CFG_BETA p.beta
    let s := (s.put pGAUGE GAUGE.EDV21_EDV2 p.edv2).put pGAUGE GAUGE.EDV21_EDV1 p.edv1
    let s := (s.put pGAUGE GAUGE.EDV0_EOC_EDV0 p.edv0).put pGAUGE GAUGE.EDV0_EOC_EOC_V p.eoc
    (s.put pGAUGE GAUGE.CHG_CFG_TAPER_DIV p.taper).put pGAUGE GAUGE.OCV_CFG_TAU_S p.tau

/-- The profile slot in use (R395). -/
def State.slotInUse (s : State) : Nat :=
  if s.flag pBATID BATID.STAT_KNOWN then s.fld pBATID BATID.STAT_SLOT else s.fld pBATID BATID.CFG_FALLBACK

/-- FCC of a learned record whose `BID` lies within 2 % of the present one (R395). Layout: FCC 4 bytes, `COUNT.LEARNED` 2, `BID` 2 (log entry 61). -/
def State.learnedFcc (s : State) (slot : Nat) : Option Nat :=
  match s.nvdRecord (8 + slot) with
  | none => none
  | some b =>
    let bid := s.fld pBATID BATID.BID_OHM
    let was := numAt b 6 2
    if 50 * was ≤ 51 * bid ∧ 49 * bid ≤ 50 * was then some (numAt b 0 4 % 2 ^ 24) else none

/-- The gauge starts on a pack (R389, R395). -/
def State.packLoad (s : State) : State :=
  let slot := s.slotInUse
  let s := s.profLoad (s.profile slot)
  let s := match s.learnedFcc slot with
    | some v => (s.put pGAUGE GAUGE.FCC_Q v).put pGAUGE GAUGE.STATE_STALE 1
    | none => s.put pGAUGE GAUGE.FCC_Q (s.fld pGAUGE GAUGE.DESIGN_CAP)
  let s := (s.put pGAUGE GAUGE.DEFICIT_Q 0).put pGAUGE GAUGE.STATE_FLOOR 0
  let s := (s.put pGAUGE GAUGE.STATE_FULL 0).put pGAUGE GAUGE.STATE_SOC_VALID 0
  let s := (s.setRm s.gRm).put pLEARN LEARN.STAT_STATE 0
  let s := s.modGauge fun g => { g with edvRuns := #v[0, 0, 0], edvDone := 0, eocSince := none, eocDone := false, idleSince := none, ocvDone := false, qual := false, wake := false }
  (s.put pGAUGE GAUGE.STATE_EDV 0).clearSwap

/-- The image copies each profile's identity window into `SLOT_WIN` (R380). -/
def State.winLoad (s : State) : State :=
  [0, 1, 2, 3].foldl (init := s) fun s k =>
    match s.profile k with
    | some p => (s.put pBATID (BATID.SLOT_WIN_MIN.at k) p.bidMin).put pBATID (BATID.SLOT_WIN_MAX.at k) p.bidMax
    | none => s.wr pBATID (0x2C + 4 * k) 0

/-- The gauge at firmware entry after a POR or COLD reset (R389; a cycle ends with reason RESET, Table 15.3). -/
def State.gaugeCold (s : State) : State :=
  let b := s.aosRead 0x180 62
  let ran := crc16 b == s.aosNat 0x1BE 2 && numAt b 16 1 % 8 == 1
  let s := { s with gauge := { gaugeNew with wake := false } }
  let s := if ran then
      let s := ((s.put pLEARN LEARN.STAT_STATE 3).put pLEARN LEARN.STAT_REASON 6).bump pLEARN LEARN.COUNT_DISQ 1
      s.raise pLEARN LEARN.PG_EVT_DISQUALIFIED
    else s
  let s := s.winLoad
  if s.flag pBATID BATID.STAT_PRESENT then s.packLoad else s

/-- The gauge at warm entry, on wake, and after a BLOCK reset of its pages (R393): from the gauge record when its CRC checks, else as after a
POR. -/
def State.gaugeRestore (s : State) : State :=
  let b := s.aosRead 0x180 62
  if crc16 b = s.aosNat 0x1BE 2 then
    let w := fun (s : State) (pg off i : Nat) => s.wr pg off (BitVec.ofNat 32 (numAt b i 4))
    let s := w (w (w (w s pGAUGE 0x58 0) pGAUGE 0x5C 4) pGAUGE 0x60 8) pGAUGE 0x64 12
    let s := (w (w (w s pLEARN 0x2C 16) pLEARN 0x34 24) pLEARN 0x38 28).put pLEARN LEARN.SOC_START_SOC (numAt b 20 2)
    let s := w (w (w s pLEARN 0x40 32) pLEARN 0x44 36) pLEARN 0x48 40
    let t := numAt b 50 6
    let s := s.put pLEARN LEARN.START_TICK_TICK t
    let x := numAt b 56 4
    let keep := s.gauge
    let s := { s with gauge := { gaugeNew with
      lastAcc := signed 48 (numAt b 44 6), startTick := t, fccStart := bitsOf x 0 24, qual := bitAt x 24, qPlus := numAt b 60 2, bidAt := numAt b 22 2, edvDone := bitsOf x 25 3,
      ccOff := keep.ccOff, ccPrev := keep.ccPrev, hist := keep.hist, prof := keep.prof, forget := keep.forget } }
    (s.profLoad keep.prof).winLoad.raise pGAUGE GAUGE.PG_EVT_RESTORED
  else s.gaugeCold

end Sys2Proof.Machine
end

