-- ==== Sys2Proof/Machine/Gauge.lean ====
section
/-!
DEFINITION. The battery gauge (chapter 15): the coulomb counter, the gauge converter, the run of slot 112, learning, writing back, packs that come
and go.
-/

namespace Sys2Proof.Machine

/-! ### Measuring (R376, R378) -/

/-- The coulomb counter runs (R376): `CC_EN`, but not in SHIP or in reset. -/
def State.ccRuns (s : State) : Bool := s.flag pGAUGE GAUGE.CFG_CC_EN && s.phase != .ship && s.phase != .reset

/-- CC_CONVERSION (R376): one conversion gave `code`, 2.5 µV each; `shorted`: the input was shorted, so the code is the offset and the
conversion counts as the one before it. -/
def execCcConversion (shorted : Bool) (code : BitVec 16) (s : State) : Host.Outcome State Fault Refusal :=
  .next (if !s.ccRuns then s
    else
      let c := code.toInt
      let v := if shorted then s.gauge.ccPrev else c - s.gauge.ccOff
      let s := s.modGauge fun g => { g with ccOff := if shorted then c else g.ccOff, ccPrev := v }
      let s := (s.setAcc (s.acc + v)).put pGAUGE GAUGE.PG_STAT_CC_RUN 1
      if code = 0x7FFF ∨ code = 0x8000 then
        let s := (s.put pGAUGE GAUGE.PG_STAT_OVERRANGE 1).raise pGAUGE GAUGE.PG_EVT_OVERRANGE
        let s := s.modGauge fun g => { g with overTick := some s.tick, idleSince := none }
        if s.fw then s.disqualify 8 else s
      else s)

/-- Mean current since an earlier sample, 0.1 mA: Δ counts of 2.5 µV over 1/1,024 s. -/
def State.meanSince (s : State) (c : Nat × Int) : Int :=
  let d := signed 48 (unsigned 48 (s.acc - c.2))
  let dt := s.tick - c.1
  if dt = 0 then 0 else roundDiv (d * 500000000) (1024 * (dt * s.shunt : Nat))

/-- Mean current over the last `ticks`, from the newest sample at least that old, or from the oldest. -/
def State.meanOver (s : State) (ticks : Nat) : Int :=
  match s.gauge.hist.find? fun c => decide (c.1 + ticks ≤ s.tick) with
  | some c => s.meanSince c
  | none => match s.gauge.hist.getLast? with
    | some c => s.meanSince c
    | none => 0

/-- Presence in a sample of `TS` and `BID` (R394). -/
def State.packSeen (s : State) (bid : Nat) (tsOpen : Bool) : Bool :=
  let b := decide (bid < 15000)
  match s.fld pBATID BATID.CFG_DETECT with
  | 0 => b
  | 1 => !tsOpen
  | 2 => b && !tsOpen
  | _ => b || !tsOpen

/-- A sample of `TS` (0.125 °C) and `BID` (10 Ω). -/
def State.tsBid (s : State) (temp : Int) (bid : Nat) : State :=
  let tsOpen := decide (temp < -440)
  let tsShort := decide (1400 < temp)
  let was := fun (f : Fld) => s.flag pGAUGE f
  let new := (tsOpen && !was GAUGE.PG_STAT_TS_OPEN) || (tsShort && !was GAUGE.PG_STAT_TS_SHORT)
  let s := (s.putB pGAUGE GAUGE.PG_STAT_TS_OPEN tsOpen).putB pGAUGE GAUGE.PG_STAT_TS_SHORT tsShort
  let s := s.put pGAUGE GAUGE.TEMP_T (if tsOpen || tsShort then 0x8000 else unsigned 16 temp)
  let s := if new then
      let s := s.raise pGAUGE GAUGE.PG_EVT_TS_FAULT
      let s := s.modGauge fun g => { g with idleSince := none }
      if s.fw then s.disqualify 9 else s
    else s
  let s := s.put pBATID BATID.BID_OHM (if 15000 < bid then 0xFFFF else bid)
  let seen := s.packSeen bid tsOpen
  s.modGauge fun g => { g with present := if seen then min 3 (g.present + 1) else 0, absent := if seen then 0 else min 2 (g.absent + 1) }

/-- GAUGE_MEASURE (R378): a sample of the pack voltage in mV, with the means of the current, and every 50 ms of `TS` and `BID`. -/
def execGaugeMeasure (mv : Nat) (tsBid : Option (Int × Nat)) (s : State) : Host.Outcome State Fault Refusal :=
  .next (if !s.live || !s.enabled pGAUGE || s.cells == 0 then s
    else
      let s := s.put pGAUGE GAUGE.VPACK_V (min mv 65535)
      let s := s.put pGAUGE GAUGE.I_AVG1_I (unsigned 24 (s.meanOver 20000))
      let s := s.put pGAUGE GAUGE.I_AVG60_I (unsigned 24 (s.meanOver 1200000))
      let s := s.modGauge fun g =>
        { g with hist := (s.tick, s.acc) :: g.hist.filter fun c => decide (s.tick ≤ c.1 + 1200000 + 200) }
      match tsBid with
      | some (t, b) => s.tsBid t b
      | none => s)

/-- The cell voltage lies in 2.0-4.8 V. -/
def State.cellOk (s : State) : Bool := decide (2000 ≤ s.cellMv) && decide (s.cellMv ≤ 4800)

/-- CELL_MISMATCH (R379): the cell voltage has been out of range for 1 s. -/
def execCellMismatch (s : State) : Host.Outcome State Fault Refusal :=
  .next (s.policy fun s =>
    if s.cells = 0 ∨ s.cellOk then s
    else
      let s := s.raiseIf (!s.flag pGAUGE GAUGE.STATE_CELL_MISMATCH) pGAUGE GAUGE.PG_EVT_CELL_MISMATCH
      let s := (s.put pGAUGE GAUGE.STATE_CELL_MISMATCH 1).put pGAUGE GAUGE.STATE_SOC_VALID 0
      s.modGauge fun g => { g with inRange := none })

/-! ### The run of slot 112 (R382-R392) -/

/-- Charge counted since the last run, 0.1 mAh. -/
def State.chargeStep (s : State) : State × Int :=
  let d := signed 48 (unsigned 48 (s.acc - s.gauge.lastAcc))
  let den : Int := 147456 * s.shunt
  let num := d * 1000 + s.gauge.frac
  (s.modGauge fun g => { g with lastAcc := s.acc, frac := num % den }, num / den)

/-- Charge enters RM, the deficit and the learning counters (R382, R385, R390). -/
def State.chargeTake (s : State) (q : Int) : State :=
  let s := if s.learnState = 1 ∨ s.learnState = 2 then
      let s := if s.learnState = 1 then s.netCount q else s
      s.put pLEARN LEARN.QIN_Q (s.fld pLEARN LEARN.QIN_Q + q.toNat)
    else s
  let pay : Int := if 0 < q then min q (max 0 (-s.gDeficit)) else 0
  let s := if pay = 0 then s else s.put pGAUGE GAUGE.DEFICIT_Q (unsigned 24 (s.gDeficit + pay))
  let rm : Int := (s.gRm : Int) + (q - pay)
  let hold := s.socValid && !bitAt s.gauge.edvDone 2
  if rm ≤ 0 ∧ hold ∧ (q < 0 ∨ s.flag pGAUGE GAUGE.STATE_FLOOR) then
    let s := (s.put pGAUGE GAUGE.DEFICIT_Q (unsigned 24 (s.gDeficit + rm))).put pGAUGE GAUGE.STATE_FLOOR 1
    s.setRm 0
  else
    let s := if 0 < rm then s.put pGAUGE GAUGE.STATE_FLOOR 0 else s
    s.setRm rm.toNat

/-- The threshold of EDV2, EDV1 or EDV0 (k = 0, 1, 2) in mV, and the state of charge it stands for. -/
def State.edvLevel (s : State) (k : Fin 3) : Nat × Nat :=
  match k with
  | 0 => (s.fld pGAUGE GAUGE.EDV21_EDV2, 7)
  | 1 => (s.fld pGAUGE GAUGE.EDV21_EDV1, 3)
  | 2 => (s.fld pGAUGE GAUGE.EDV0_EOC_EDV0, 0)

/-- R386: RM falls to L × FCC when `SOC_CALC` stands above L. -/
def State.edvCorrect (s : State) (l : Nat) : State := if l < s.socCalc then s.setRm (l * s.gFcc / 100) else s

/-- EDV2 is confirmed: a qualified RUNNING cycle yields a new FCC (R392), else R386. -/
def State.edv2Confirm (s : State) : State :=
  if s.learnState ≠ 1 then s.edvCorrect 7
  else match s.edv2Fails with
    | some r => (s.disqualify r).edvCorrect 7
    | none =>
      let start := s.fld pLEARN LEARN.SOC_START_SOC
      let raw := if start ≤ 700 then 0 else s.fld pLEARN LEARN.QDIS_Q * 10000 / (start - 700)
      let new := s.clampFcc raw
      if decide (700 < start) && s.fccFits new.1 then s.learnTake new 7
      else (s.disqualify 7).edvCorrect 7

/-- EDV0 is confirmed (R385, R386). -/
def State.edv0Confirm (s : State) : State :=
  if s.flag pGAUGE GAUGE.STATE_FLOOR then
    let cap := s.fld pGAUGE GAUGE.DESIGN_CAP
    let fcc := min ((s.gFcc : Int) - s.gDeficit).toNat (120 * cap / 100)
    let new := s.clampFcc fcc
    let learn := (s.learnState == 1 || s.learnState == 2) && s.gauge.qual && s.fccFits new.1
    let s := (s.setRm 0).put pGAUGE GAUGE.STATE_SOC 0
    let s := if learn then s.learnTake new 0
      else ((s.put pGAUGE GAUGE.FCC_Q fcc).put pGAUGE GAUGE.DEFICIT_Q 0).put pGAUGE GAUGE.STATE_FLOOR 0
    s.raise pGAUGE GAUGE.PG_EVT_DEFICIT_ADJ
  else s.edvCorrect 0

/-- One threshold at a run (R384): armed again 100 mV above while charging, confirmed after four runs below while discharging. -/
def State.edvRun (s : State) (vcomp : Int) (k : Fin 3) : State :=
  let (mv, _) := s.edvLevel k
  let dir := s.gDir
  let s := if dir = 1 ∧ (mv : Int) + 100 ≤ vcomp then
      s.modGauge fun g => { g with edvDone := setBits g.edvDone k.val 1 0 } else s
  let below := dir == 2 && decide (vcomp < (mv : Int)) && !bitAt s.gauge.edvDone k.val
  let n := if below then s.gauge.edvRuns.get k + 1 else 0
  let s := s.modGauge fun g => { g with edvRuns := g.edvRuns.set k.val n k.isLt }
  if n < 4 then s
  else
    let s := s.modGauge fun g => { g with edvDone := setBits g.edvDone k.val 1 1, edvRuns := g.edvRuns.set k.val 0 k.isLt }
    let s := s.raiseBits pGAUGE (2 ^ (2 + k.val))
    match k with
    | 0 => s.edv2Confirm
    | 1 => s.edvCorrect 3
    | 2 => s.edv0Confirm

/-- `STATE.EDV`: the deepest threshold confirmed. -/
def deepest (done : Nat) : Nat := if bitAt done 2 then 3 else if bitAt done 1 then 2 else if bitAt done 0 then 1 else 0

/-- End of charge is declared (R387); a learning cycle starts (R390). -/
def State.endOfCharge (s : State) : State :=
  let s := (s.put pGAUGE GAUGE.STATE_FULL 1).raise pGAUGE GAUGE.PG_EVT_FULL
  let s := if s.flag pGAUGE GAUGE.STATE_CELL_MISMATCH then s else s.setValid
  let s := s.modGauge fun g => { g with edvDone := 0, eocDone := true }
  (s.setRm s.gFcc).learnStart 10000

/-- End-of-charge conditions at a run (R387). The second result: end of charge was declared. -/
def State.eocRun (s : State) (vcomp : Int) : State × Bool :=
  let eoc := s.fld pGAUGE GAUGE.EDV0_EOC_EOC_V
  let c : Int := s.gFcc
  let i := s.iAvg1
  let div : Int := max 5 (s.fld pGAUGE GAUGE.CHG_CFG_TAPER_DIV)
  let now := decide (c ≤ 100 * i) && decide (div * i ≤ c) && decide ((eoc : Int) ≤ vcomp)
  let held := match s.gauge.eocSince with
    | some t => s.tick - t
    | none => 0
  let want := 20000 * max 10 (s.fld pGAUGE GAUGE.CHG_CFG_EOC_S)
  let may := !s.gauge.eocDone
  if s.gFcc = 0 then (s, false)
  else if now then
    let s := if s.gauge.eocSince.isNone then s.modGauge fun g => { g with eocSince := some s.tick } else s
    if may ∧ want ≤ held then (s.endOfCharge, true) else (s, false)
  else if may ∧ 200000 ≤ held ∧ 100 * i < c ∧ eoc ≤ s.cellMv then (s.endOfCharge.modGauge fun g => { g with eocSince := none, eocDone := false }, true)
  else (s.modGauge fun g => { g with eocSince := none, eocDone := false }, false)

/-- The rest and its open-circuit reading (R388, R390). `eoc`: end of charge was declared in this run and wins (R397). -/
def State.ocvRun (s : State) (eoc : Bool) : State :=
  if s.gDir ≠ 0 ∨ s.tsFault ∨ s.overRecent then s.modGauge fun g => { g with idleSince := none, ocvDone := false }
  else
    let s := if s.gauge.idleSince.isNone then
        s.modGauge fun g => { g with idleSince := some s.tick, iPre := s.iAvg60, ocvDone := false } else s
    let t := s.tick - s.gauge.idleSince.getD s.tick
    let want := if s.socValid then 1200000 * max 1 (s.fld pGAUGE GAUGE.OCV_CFG_REST_MIN) else 20000 * max 1 (s.fld pGAUGE GAUGE.OCV_CFG_WAIT_S)
    match s.gauge.prof with
    | none => s
    | some p =>
      if t < want ∨ eoc ∨ s.flag pGAUGE GAUGE.STATE_CELL_MISMATCH ∨ (s.socValid ∧ s.gauge.ocvDone) then s
      else
        let tau := 20000 * max 1 (s.fld pGAUGE GAUGE.OCV_CFG_TAU_S)
        let drop := roundDiv (s.gauge.iPre * s.rNow * (expNeg 24 t tau : Nat)) (100000 * 2 ^ 48)
        let ocv := max 0 (min 10000 (profOcv p ((s.cellMv : Int) - drop) s.gTemp))
        let first := !s.socValid
        let far := decide (200 < (ocv - 100 * (s.socCalc : Int)).natAbs)
        let s := if first || far then s.setRm ((ocv * s.gFcc / 10000).toNat) else s
        let s := if first then (s.put pGAUGE GAUGE.STATE_SOC s.socCalc).setValid else s
        let s := s.modGauge fun g => { g with ocvDone := !first }
        if 100 * (s.fld pLEARN LEARN.RATE_START_MIN : Int) ≤ ocv then s.learnStart ocv.toNat else s

/-- The reported state of charge (R383). -/
def State.socRun (s : State) : State :=
  if !s.socValid then s
  else
    let full := s.flag pGAUGE GAUGE.STATE_FULL
    let zero := bitAt s.gauge.edvDone 2
    let old := s.soc
    let goal := s.socCalc
    let near := decide (goal ≤ old + 1) && decide (old ≤ goal + 1)
    let due := decide (s.gauge.socTick + 200000 ≤ s.tick)
    let new := if near then goal else if !due then old else if goal < old then old - 1 else old + 1
    let new := match s.gDir with
      | 2 => min new old
      | 1 => max new old
      | _ => new
    let new := if full then min new 100 else min new 99
    let new := if zero then new else max new 1
    let s := if near || due then s.modGauge fun g => { g with socTick := s.tick } else s
    s.put pGAUGE GAUGE.STATE_SOC new

/-- Minutes of 60 × q / i, 0xFFFF when the value does not apply or exceeds 65,534 (R396). -/
def minutes (q : Nat) (i : Int) (applies : Bool) : Nat :=
  if !applies || i ≤ 0 then 0xFFFF
  else let m := (60 * (q : Int) / i).toNat; if 65534 < m then 0xFFFF else m

/-- The whole run of slot 112. -/
def State.gaugeRun (s : State) : State :=
  let c := s.chargeStep
  let s := c.1
  let s := if s.cellOk then
      let since := s.gauge.inRange.getD s.tick
      let s := s.modGauge fun g => { g with inRange := some since }
      if since + 20000 ≤ s.tick then s.put pGAUGE GAUGE.STATE_CELL_MISMATCH 0 else s
    else s.modGauge fun g => { g with inRange := none }
  let s := s.chargeTake c.2
  let s := s.fullCheck
  let s := (s.setRm s.gRm).put pGAUGE GAUGE.STATE_DIR s.gDir
  let s := if s.learnState = 1 ∨ s.learnState = 2 then
      (match s.learnFails with
      | some r => s.disqualify r
      | none => s)
    else s
  let vcomp := (s.cellMv : Int) - dropMv s.iAvg1 s.rNow
  let s := s.put pGAUGE GAUGE.VCOMP_V vcomp.toNat
  let s := ([0, 1, 2] : List (Fin 3)).foldl (fun s k => s.edvRun vcomp k) s
  let r := s.eocRun vcomp
  let s := r.1.ocvRun r.2
  let s := s.put pGAUGE GAUGE.STATE_EDV (deepest s.gauge.edvDone)
  let s := s.fullCheck.socRun
  let s := s.put pGAUGE GAUGE.TIME_TTE (minutes s.gRm (-s.iAvg60) (s.gDir == 2))
  let s := s.put pGAUGE GAUGE.TIME_TTF (minutes (s.gFcc - s.gRm) s.iAvg60 (s.gDir == 1))
  s.gaugeSave

/-- GAUGE_RUN (R382). -/
def execGaugeRun (s : State) : Host.Outcome State Fault Refusal :=
  .next (s.policy fun s => if s.enabled pGAUGE then s.gaugeRun else s)

/-! ### Writing back (R393) -/

/-- Firmware runs an NVD command to its end (log entry 62: buffer at store offset 0x9_8000); the second result: it ended OK. -/
def State.nvdRun (s : State) (op : NvdOp) (verifyOk : Bool) : State × Bool :=
  if s.nvdOp.isSome then (s, false)
  else
    let s := s.nvdStart op
    let s := if s.nvdOp.isSome then s.nvdFinish verifyOk else s
    (s, s.fld pNVD NVD.CMD_STAT_RESULT == 0)

/-- GAUGE_WRITE_BACK: the task of slot 113 carries out a FORGET by NVD INVALIDATE, then writes the pending value, none of it before `NV_STABLE` = 1 (R74). `verifyOk`: the
slot read back. -/
def execGaugeWriteBack (verifyOk : Bool) (s : State) : Host.Outcome State Fault Refusal :=
  .next (s.policy fun s => if !s.flag pSUP SUP.PG_STAT_NV_STABLE then s else
    let slot := s.slotInUse
    let s := if s.gauge.forget then
        let (s, ok) := s.nvdRun (.invalidate (8 + slot)) verifyOk
        if ok then s.modGauge fun g => { g with forget := false } else s
      else s
    if s.flag pLEARN LEARN.PENDING_PEND then
      let body := leBytes 4 (s.fld pLEARN LEARN.PENDING_FCC) ++ leBytes 2 (s.fld pLEARN LEARN.COUNT_LEARNED) ++
        leBytes 2 s.gauge.bidAt
      let s := if s.nvdOp.isSome then s
        else ((s.stWrite 0x98000 body).put pNVD NVD.BUF_ADDR_WORD (0x98000 / 4)).put pNVD NVD.LEN_BYTES body.length
      let (s, ok) := s.nvdRun (.write (8 + slot) 1) verifyOk
      if ok then (s.put pLEARN LEARN.PENDING_PEND 0).raise pLEARN LEARN.PG_EVT_WRITTEN
      else s.raise pLEARN LEARN.PG_EVT_WRITE_FAIL
    else s)

/-! ### Packs (R394, R395) -/

/-- Slot 112 is posted on a `BATID` event (Table 15.7). -/
def State.gaugePost (s : State) : State :=
  if s.enabled pGAUGE then
    s.postGlobal 112 4 false (s.rd pGAUGE GAUGE.TASK_GAUGE_ENTRY.off).toNat (s.fld pGAUGE ⟨0x10, 0, 16⟩)
  else s

/-- The lowest slot whose window contains a `BID` value. -/
def State.slotOf (s : State) (bid : Nat) : Option Nat :=
  [0, 1, 2, 3].find? fun k =>
    let lo := s.fld pBATID (BATID.SLOT_WIN_MIN.at k)
    let hi := s.fld pBATID (BATID.SLOT_WIN_MAX.at k)
    hi != 0 && decide (lo ≤ hi) && decide (lo ≤ bid) && decide (bid ≤ hi)

/-- PACK_INSERT (R394, R395): three consecutive present samples. After a wake or warm entry that saw no swap the gauge resumes instead. -/
def execPackInsert (s : State) : Host.Outcome State Fault Refusal :=
  .next (if !s.live || s.flag pBATID BATID.STAT_PRESENT || decide (s.gauge.present < 3) then s
    else
      let m := s.slotOf (s.fld pBATID BATID.BID_OHM)
      let s := (s.put pBATID BATID.STAT_PRESENT 1).putB pBATID BATID.STAT_KNOWN m.isSome
      let s := s.put pBATID BATID.STAT_SLOT (m.getD 0)
      let s := (s.raise pBATID BATID.PG_EVT_INSERTED).raiseIf m.isNone pBATID BATID.PG_EVT_UNKNOWN
      let s := s.gaugePost
      let resume := s.gauge.wake && !s.flag pBATID BATID.STAT_SWAP_SEEN
      let s := if !s.fw then s else if resume then s.profLoad (s.profile s.slotInUse) else s.packLoad
      s.modGauge fun g => { g with wake := false })

/-- PACK_REMOVE (R394): two consecutive absent samples. -/
def execPackRemove (s : State) : Host.Outcome State Fault Refusal :=
  .next (if !s.live || !s.flag pBATID BATID.STAT_PRESENT || decide (s.gauge.absent < 2) then s
    else
      let s := (s.put pBATID BATID.STAT_PRESENT 0).raise pBATID BATID.PG_EVT_REMOVED
      let s := s.gaugePost
      let s := s.modGauge fun g => { g with wake := false }
      if s.fw then (s.put pGAUGE GAUGE.STATE_SOC_VALID 0).disqualify 5 else s)

/-- AON_PRESENCE_SAMPLE (R394): in STANDBY or ZERO an absence is latched. -/
def execAonPresenceSample (bid : Nat) (temp : Int) (s : State) : Host.Outcome State Fault Refusal :=
  .next (if s.phase = .sleep ∧ !s.packSeen bid (decide (temp < -440)) then s.put pBATID BATID.STAT_SWAP_SEEN 1 else s)

/-- BATID_CLEAR_SWAP (R400). -/
def execBatidClearSwap (key : BitVec 16) (s : State) : Host.Outcome State Fault Refusal :=
  .next (s.keyCmd pBATID key.toNat 0x1F93 fun s => s.clearSwap)

/-! ### Learning commands (Table 15.9) -/

/-- `CMD.ABORT`. -/
def State.learnAbort (s : State) : State := if s.learnState = 1 then s.disqualify 10 else s

/-- LEARN_CMD_ABORT (R391). -/
def execLearnCmdAbort (key : BitVec 16) (s : State) : Host.Outcome State Fault Refusal :=
  .next (s.keyCmd pLEARN key.toNat 0xC47A fun s => s.learnAbort)

/-- `CMD.FORGET`; a value that waits to be written is dropped with the record (DEDUCED, log entry 115). -/
def State.learnForget (s : State) : State :=
  let s := if s.learnState = 1 then s.disqualify 10 else s
  let s := (s.put pGAUGE GAUGE.FCC_Q (s.fld pGAUGE GAUGE.DESIGN_CAP)).put pGAUGE GAUGE.STATE_STALE 1
  ((s.setRm s.gRm).put pLEARN LEARN.PENDING_PEND 0).modGauge fun g => { g with forget := true }

/-- LEARN_CMD_FORGET (R397). -/
def execLearnCmdForget (key : BitVec 16) (s : State) : Host.Outcome State Fault Refusal :=
  .next (s.keyCmd pLEARN key.toNat 0xC47A fun s => s.learnForget)

/-! ### The tick boundary -/

/-- The gauge at a tick boundary: slot 112 every 2,000 ticks (Table 15.7), slot 113 every 20,000 while a value waits and the supply is stable (R393). -/
def State.gaugeTick (s : State) : State :=
  let s := if s.tick % 2000 = 0 then s.gaugePost else s
  if s.tick % 20000 = 0 ∧ (s.flag pLEARN LEARN.PENDING_PEND ∨ s.gauge.forget) ∧ s.flag pSUP SUP.PG_STAT_NV_STABLE then
    let s := s.raiseIf (s.fld pLEARN LEARN.TASK_WRITE_ENTRY != 0) pLEARN LEARN.PG_EVT_WRITE_DUE
    s.postGlobal 113 5 true (s.rd pLEARN LEARN.TASK_WRITE_ENTRY.off).toNat (s.fld pLEARN ⟨0x10, 0, 16⟩)
  else s

end Sys2Proof.Machine
end

