-- ==== Sys2Proof/Machine/Policy.lean ====
section
/-!
DEFINITION. Policy firmware as source and as sink, and data-role swap (chapter 9): the commands that standard firmware carries out.
-/

namespace Sys2Proof.Machine

/-! ### As source (R223, R230) -/

/-- Firmware takes a Hard Reset as complete before it speaks again (R202, R235). -/
def State.fwHrComplete (s : State) (n : Port) : State :=
  if s.fld (pPOL n) POL.PG_STAT_HR_SEQ = 0 then s.put (pPDL n) PDL.PG_STAT_HR_PENDING 0 else s

/-- SOURCE_CAPS_SEND (R223, R230): up to 50 sends before a contract, none after two Hard Resets for want of a Request; under a contract
only when the set that R229 yields has changed. The cable is asked before the first of a generation (R244). -/
def execSourceCapsSend (n : Port) (s : State) : Host.Outcome State Fault Refusal :=
  .next (s.policy fun s =>
    let s := s.followLimit n
    if s.ccState n ≠ .attachedSrc ∨ s.guardState n ≠ 3 ∨ !s.enabled (pPDL n) then s
    else if s.explicit n then
      if s.transRuns n || s.snapTrans n || s.capsNow n == (s.port n).fw.caps then s else s.advertise n
    else if (s.port n).fw.capsSends < 50 ∧ (s.port n).fw.capsResets < 2 then
      let s := s.fwHrComplete n
      let s := if (s.port n).fw.capsSends = 0 then s.cableAsk n else s
      (s.advertise n).modFw n fun f => { f with capsSends := f.capsSends + 1 }
    else s)

/-- SOURCE_REQUEST_TIMEOUT (R223): capabilities were acknowledged and no Request came; at most two Hard Resets in one attach. -/
def execSourceRequestTimeout (n : Port) (s : State) : Host.Outcome State Fault Refusal :=
  .next (s.policy fun s =>
    if s.ccState n = .attachedSrc ∧ !s.explicit n ∧ 0 < (s.port n).fw.capsSends ∧ (s.port n).fw.capsResets < 2 then
      (s.modFw n fun f => { f with capsResets := f.capsResets + 1 }).hardResetStart n
    else s)

/-- What a Request asks for: contract type, voltage (20 mV), current (10 mA), power (10 mW), the same power exactly (10 µW), and whether it lies in the object's range. -/
structure ReqAsk where
  typ : Nat
  v : Nat
  i : Nat
  p : Nat
  exact : Nat
  ok : Bool

/-- Read a Request against the object it names. -/
def readRequest (obj rdo : Nat) : ReqAsk :=
  let op := bitsOf rdo 10 10
  match bitsOf obj 30 2 with
  | 1 =>
    let v := bitsOf obj 10 10 * 5 / 2
    ⟨2, v, if v = 0 then 0 else (25 * op * 50 + v - 1) / v, 25 * op, 25000 * op, decide (op ≤ bitsOf obj 0 10)⟩
  | 3 =>
    if bitsOf obj 28 2 = 0 then
      let v := bitsOf rdo 9 12
      let i := 5 * bitsOf rdo 0 7
      ⟨3, v, i, v * i / 50, 20 * v * i, decide (bitsOf rdo 0 7 ≤ bitsOf obj 0 7) && decide (5 * bitsOf obj 8 8 ≤ v) && decide (v ≤ 5 * bitsOf obj 17 8)⟩
    else
      let mv := 25 * bitsOf rdo 9 12
      let i := 5 * bitsOf rdo 0 7
      ⟨4, mv / 20, i, mv * i / 1000, mv * i, decide (mv * i ≤ 100000 * bitsOf obj 0 8) && decide (100 * bitsOf obj 8 8 ≤ mv) &&
        decide (mv ≤ 100 * bitsOf obj 17 9)⟩
  | _ =>
    let v := bitsOf obj 10 10 * 5 / 2
    ⟨1, v, op, v * op / 50, 50 * bitsOf obj 10 10 * op, decide (op ≤ bitsOf obj 0 10)⟩

/-- Firmware stages the `CON_*` registers of a commit (R219): a contract in TRANSITION. -/
def State.stageCon (s : State) (n : Port) (obj rdo : Word) (a : ReqAsk) (epr source : Bool) : State :=
  let pg := pPOL n
  let s := (s.wr pg 0x44 obj).wr pg 0x48 rdo
  let s := ((s.put pg POL.CON_VI_V a.v).put pg POL.CON_VI_I a.i).put pg POL.CON_PMAX_PMAX a.p
  s.put pg POL.CON_FLAGS_FLAGS (a.typ + 8 * epr.toNat + 16 * source.toNat + 256)

/-- The answer to a Request (Table 9.3). -/
def State.evalRequest (s : State) (n : Port) (i : Nat) : State :=
  let h := s.rxHdr n i
  let rdo := s.rxObj n i 0
  let pos := bitsOf rdo.toNat 28 4
  let eprReq := isData h 9
  let epr := s.inEpr n
  if s.transRuns n || s.snapTrans n then s.hardResetStart n
  else match (s.port n).fw.caps.find? fun c => c.1 == pos with
    | none => s.fwSend n 0 4 [] false
    | some (_, obj) =>
      let a := readRequest obj.toNat rdo.toNat
      if !a.ok then s.fwSend n 0 4 [] false
      else if 1000 * s.grantOf n < a.exact then (s.fwSend n 0 4 [] false).advertise n
      else if (8 ≤ pos && !epr) || (decide (pos ≤ 7) && eprReq && s.rxObj n i 1 != obj) then s.hardResetStart n
      else
        let s := s.stageCon n obj rdo a epr true
        let s := s.modFw n fun f => { f with mism := bitAt rdo.toNat 26 }
        s.fwSendFor n 0 3 [] false (.accept a.v (s.gen n))

/-- EPR_Mode as source (R230): entered only with `EPR_EN`, an EPR-capable cable and an SPR contract in force, and followed by EPR_Source_Capabilities; else Enter Failed. Actions of the object's
top byte: 1 Enter, 2 Enter Acknowledged, 3 Enter Succeeded, 4 Enter Failed, 5 Exit. -/
def State.eprMode (s : State) (n : Port) (action : Nat) : State :=
  let act := fun (a : Nat) => BitVec.ofNat 32 (a * 2 ^ 24)
  match action with
  | 1 =>
    if s.inf (pPOL n) POL.CFG_EPR_EN = 1 ∧ s.cableEpr n ∧ s.snapValid n ∧ !s.snapTrans n ∧ !s.flag (pPOL n) POL.PG_STAT_EPR_MODE then
      (((s.fwSend n 0 10 [act 2] false).fwSend n 0 10 [act 3] false).modFw n fun f => { f with epr := true }).advertise n
    else s.fwSend n 0 10 [act 4] false
  | 5 => s.modFw n fun f => { f with epr := false }
  | _ => s

/-- REQUEST_EVALUATION (R230): the Request, EPR_Request or EPR_Mode in a receive record. -/
def execRequestEvaluation (n : Port) (i : Fin 64) (s : State) : Host.Outcome State Fault Refusal :=
  .next (s.policy fun s =>
    let h := s.rxHdr n i.val
    if s.ccState n ≠ .attachedSrc ∨ !s.rxUsable n i.val then s
    else if isData h 2 || isData h 9 then s.evalRequest n i.val
    else if isData h 10 then s.eprMode n (bitsOf (s.rxObj n i.val 0).toNat 24 8)
    else s)

/-- PPS_REQUEST_TIMEOUT (R230): no Request for 15 s under PPS, or no EPR KeepAlive for 1 s under an EPR contract. -/
def execPpsRequestTimeout (n : Port) (s : State) : Host.Outcome State Fault Refusal :=
  .next (s.policy fun s =>
    if s.ccState n = .attachedSrc ∧ s.snapValid n ∧ (s.snapType n = 3 ∨ s.flag (pPOL n) POL.PG_STAT_EPR_MODE) then s.hardResetStart n else s)

/-! ### As sink (R224, R231, R296) -/

/-- SINK_CAPS_TIMEOUT (R224): at most twice in one attach. -/
def execSinkCapsTimeout (n : Port) (s : State) : Host.Outcome State Fault Refusal :=
  .next (s.policy fun s =>
    if s.ccState n = .attachedSnk ∧ (s.port n).fw.srcCaps = [] ∧ (s.port n).fw.sinkResets < 2 then
      (s.modFw n fun f => { f with sinkResets := f.sinkResets + 1 }).hardResetStart n
    else s)

/-- An object a sink may ask for: position, object, type, voltage requested (20 mV), current (10 mA; battery: power in 10 mW), most power (10
mW), whether it is a fixed supply. -/
structure SnkOpt where
  pos : Nat
  obj : Word
  typ : Nat
  v : Nat
  i : Nat
  p : Nat
  fixed : Bool

/-- Voltage range of an object in 20 mV: least, most. -/
def objRange (o : Nat) : Nat × Nat :=
  match bitsOf o 30 2 with
  | 0 => (bitsOf o 10 10 * 5 / 2, bitsOf o 10 10 * 5 / 2)
  | 1 => (bitsOf o 10 10 * 5 / 2, bitsOf o 20 10 * 5 / 2)
  | _ => if bitsOf o 28 2 = 0 then (5 * bitsOf o 8 8, 5 * bitsOf o 17 8) else (5 * bitsOf o 8 8, 5 * bitsOf o 17 9)

/-- An object asked for at a voltage (20 mV). -/
def mkOpt (pos : Nat) (o : Word) (v : Nat) : SnkOpt :=
  let b := o.toNat
  match bitsOf b 30 2 with
  | 0 => ⟨pos, o, 1, v, bitsOf b 0 10, v * bitsOf b 0 10 / 50, true⟩
  | 1 => ⟨pos, o, 2, (objRange b).1, 25 * bitsOf b 0 10, 25 * bitsOf b 0 10, false⟩
  | _ =>
    if bitsOf b 28 2 = 0 then ⟨pos, o, 3, v, 5 * bitsOf b 0 7, v * (5 * bitsOf b 0 7) / 50, false⟩
    else
      let i := if v = 0 then 0 else min 500 (5 * (bitsOf b 0 8 * 1000 / v))
      ⟨pos, o, 4, v, i, v * i / 50, false⟩

/-- Objects step 1 of R231 lets through, of those the device supports (Table 0.6), with their positions. -/
def State.snkObjs (s : State) (n : Port) : List (Nat × Word) :=
  let pg := pPOL n
  let caps := (s.port n).fw.srcCaps
  ((List.range caps.length).zip caps).filterMap fun c =>
    let o := c.2.toNat
    let r := objRange o
    let apdo := bitsOf o 30 2 == 3
    let fits := decide (s.fld pg POL.SNK_V_V_MIN ≤ r.1) && decide (r.2 ≤ s.fld pg POL.SNK_V_V_MAX)
    if c.2 = 0 ∨ !fits ∨ !objSupported (c.1 + 1) o ∨ (apdo ∧ !s.flag pg POL.CFG_PPS_EN) ∨ (7 ≤ c.1 ∧ !s.inEpr n) then none
    else some (c.1 + 1, c.2)

/-- The better of two choices up to a power: more power, then the lower voltage, then a fixed object. -/
def betterOpt (cap : Nat) (a b : SnkOpt) : Bool :=
  let pa := min a.p cap
  let pb := min b.p cap
  decide (pb < pa) || (pa == pb && (decide (a.v < b.v) || (a.v == b.v && a.fixed && !b.fixed)))

/-- The best of a list. -/
def bestOpt (cap : Nat) : List SnkOpt → Option SnkOpt
  | [] => none
  | x :: xs => match bestOpt cap xs with
    | none => some x
    | some y => some (if betterOpt cap y x then y else x)

/-- The choice of a member of the sharing page (R296): an APDO at `RAIL_V` plus the trim, else a fixed object near `RAIL_V`. -/
def State.memberOpt (s : State) (n : Port) : Option SnkOpt :=
  let rail := s.fld pSHARE SHARE.RAIL_RAIL_V
  let tol := s.fld pSHARE SHARE.RAIL_V_TOL
  let v := ((rail : Int) + signed 11 (s.fld pSHARE (SHARE.TRIM_TRIM.at n.val))).toNat
  let objs := s.snkObjs n
  let ap := objs.filterMap fun c =>
    let r := objRange c.2.toNat
    if bitsOf c.2.toNat 30 2 = 3 ∧ r.1 ≤ v ∧ v ≤ r.2 then some (mkOpt c.1 c.2 v) else none
  match bestOpt 65535 ap with
  | some o => some o
  | none => bestOpt 65535 (objs.filterMap fun c =>
      let r := objRange c.2.toNat
      if bitsOf c.2.toNat 30 2 = 0 ∧ rail ≤ r.1 + tol ∧ r.1 ≤ rail + tol then some (mkOpt c.1 c.2 r.1) else none)

/-- The RDO of a choice: full current under a mismatch or as a member, else the current that `P_OP` needs. `mism`: Capability Mismatch. -/
def rdoOf (o : SnkOpt) (i : Nat) (mism : Bool) : Word :=
  let top := o.pos * 2 ^ 28 + (if mism then 2 ^ 26 else 0)
  BitVec.ofNat 32 (match o.typ with
    | 1 => top + 1024 * min i 1023 + min i 1023
    | 2 => top + 1024 * min (i / 25) 1023 + min (i / 25) 1023
    | 3 => top + 512 * (o.v % 4096) + min (i / 5) 127
    | _ => top + 512 * (o.v * 4 / 5 / 4 * 4 % 4096) + min (i / 5) 127)

/-- Current a sink asks for up to a power: for a battery object the power itself. -/
def askFor (o : SnkOpt) (cap : Nat) : Nat :=
  if o.typ = 2 then min o.i cap else if o.v = 0 then o.i else min o.i ((50 * cap + o.v - 1) / o.v)

/-- Send a Request and stage the commit: `CON_PMAX` is voltage × current. -/
def State.sendRequest (s : State) (n : Port) (o : SnkOpt) (i : Nat) (mism : Bool) : State :=
  let rdo := rdoOf o i mism
  let epr := s.inEpr n
  let amps := if o.typ = 2 then (if o.v = 0 then 0 else (50 * i + o.v - 1) / o.v) else i
  let power := if o.typ = 2 then i else o.v * i / 50
  let s := s.stageCon n o.obj rdo ⟨o.typ, o.v, amps, power, 0, true⟩ epr false
  let s := s.modFw n fun f => { f with accepted := false, mism := mism, asked := .request }
  if epr then s.fwSend n 0 9 [rdo, o.obj] false else s.fwSend n 0 2 [rdo] false

/-- The whole choice of a sink (R231, R296). A member without a fitting object is excluded and chooses as any sink. -/
def State.sinkChoose (s : State) (n : Port) : State :=
  let pg := pPOL n
  let cap := s.fld pg POL.SNK_P_P_OP
  match (if (s.port n).share.member then s.memberOpt n else none) with
  | some o => s.sendRequest n o o.i false
  | none =>
    let opts := (s.snkObjs n).map fun c =>
      let r := objRange c.2.toNat
      mkOpt c.1 c.2 (if bitsOf c.2.toNat 30 2 = 3 then r.2 else r.1)
    let first := (s.port n).fw.srcCaps.head?.getD 0
    let fall := s.sendRequest n (mkOpt 1 first 250) (rpCurrent (s.fld (pCC n) CC.PG_STAT_RP_ADV)) true
    match bestOpt cap opts with
    | none => fall
    | some o => if o.p < s.fld pg POL.SNK_P_P_MIN then fall else s.sendRequest n o (askFor o cap) (decide (o.p < cap))

/-- SINK_REQUEST (R231): on Source_Capabilities or EPR_Source_Capabilities in a receive record; with none, again from the capabilities held (after Wait, and under PPS). -/
def execSinkRequest (n : Port) (rec : Option (Fin 64)) (s : State) : Host.Outcome State Fault Refusal :=
  .next (s.policy fun s =>
    if s.ccState n ≠ .attachedSnk then s
    else
      let s := s.fwHrComplete n
      match rec with
      | some i =>
        if s.rxUsable n i.val ∧ isData (s.rxHdr n i.val) 1 then
          (s.modFw n fun f => { f with srcCaps := s.rxObjs n i.val }).sinkChoose n
        else if s.rxUsable n i.val && hdrExt (s.rxHdr n i.val) && hdrType (s.rxHdr n i.val) == 17 && !(s.rxExtObjs n i.val).isEmpty then
          (s.modFw n fun f => { f with srcCaps := s.rxExtObjs n i.val }).sinkChoose n
        else s
      | none => if (s.port n).fw.srcCaps = [] then s else s.sinkChoose n)

/-- PS_RDY_TIMEOUT (R231): a contract is accepted and not in force. -/
def execPsRdyTimeout (n : Port) (s : State) : Host.Outcome State Fault Refusal :=
  .next (s.policy fun s =>
    if s.ccState n = .attachedSnk ∧ s.snapValid n ∧ s.snapTrans n then s.hardResetStart n else s)

/-- TRIM_REQUEST (R306): the same object position at `V_REQ` and full current. -/
def execTrimRequest (n : Port) (s : State) : Host.Outcome State Fault Refusal :=
  .next (s.policy fun s =>
    if s.ccState n = .attachedSnk ∧ s.snapValid n ∧ s.flag pSHARE (SHARE.TRIM_PENDING.at n.val) then
      let pos := bitsOf (s.snapWord n 2) 28 4
      let o := mkOpt pos (BitVec.ofNat 32 (s.snapWord n 1)) (s.fld pSHARE (SHARE.TRIM_V_REQ.at n.val))
      s.sendRequest n o o.i false
    else s)

/-- What firmware does at a tick boundary of its own accord. As sink in force: EPR mode is asked for once per generation when `EPR_EN` = 1 and the source is capable of it, and KeepAlive goes
out every 400 ms in EPR mode (R231). As source with a contract in force: Alert tells of the trips since the last (R242). The limit that a grant set follows the contract (R346). The sink's PDP in EPR_Mode is `SNK_P.P_OP` in W (log entry 20). -/
def State.policyTick (s : State) (n : Port) : State :=
  let s := if s.fw then s.followLimit n else s
  if !s.fw || !s.enabled (pPDL n) || !s.explicit n || !s.snapValid n || s.snapTrans n then s
  else
    let f := (s.port n).fw
    if s.ccState n = .attachedSnk then
      if s.inEpr n then
        if f.keepAt + 8000 ≤ s.tick then
          (s.modFw n fun f => { f with keepAt := s.tick }).fwSendExt n 16 [3, 0]
        else s
      else if s.inf (pPOL n) POL.CFG_EPR_EN = 1 ∧ bitAt (f.srcCaps.head?.getD 0).toNat 23 ∧ f.eprAsked ≠ some (s.gen n) then
        (s.modFw n fun f => { f with eprAsked := some (s.gen n) }).fwSend n 0 10
          [BitVec.ofNat 32 (2 ^ 24 + 2 ^ 16 * min 255 (s.fld (pPOL n) POL.SNK_P_P_OP / 100))] true
      else s
    else if s.ccState n = .attachedSrc then
      let a := 4 * (bitAt f.alert 4).toNat + 8 * (bitAt f.alert 5).toNat + 64 * (bitAt f.alert 1).toNat
      let s := if f.alert = 0 then s else s.modFw n fun f => { f with alert := 0 }
      if a = 0 then s else s.fwSend n 0 6 [BitVec.ofNat 32 (2 ^ 24 * a)] true
    else s

/-! ### Data-role swap (R238) -/

/-- The answer to a DR_Swap. -/
def State.drAnswer (s : State) (n : Port) : State :=
  if s.flag (pVDM n) VDM.MODE_VALID || s.transRuns n || (s.snapValid n && s.snapTrans n) then s.hardResetStart n
  else if !s.explicit n then s.fwSend n 0 13 [] false
  else
    let dfp := s.flag (pPDL n) PDL.CFG_DATA_ROLE
    let yes := match s.inf (pPOL n) POL.CFG_DR_POLICY with
      | 0 => false
      | 1 => true
      | 2 => !dfp
      | _ => dfp
    if yes then s.fwSendFor n 0 3 [] false (.role (!dfp) (s.gen n)) else s.fwSend n 0 4 [] false

/-- With INITIATE_DFP or INITIATE_UFP, DR_Swap is sent under a contract in force while the role is not the preferred one, once per generation. -/
def State.drInitiate (s : State) (n : Port) : State :=
  let pol := s.inf (pPOL n) POL.CFG_DR_POLICY
  let dfp := s.flag (pPDL n) PDL.CFG_DATA_ROLE
  if 2 ≤ pol ∧ (pol = 2) ≠ dfp ∧ s.explicit n ∧ !s.snapTrans n ∧ !s.flag (pVDM n) VDM.MODE_VALID ∧ (s.port n).fw.drGen ≠ some (s.gen n) then
    (s.modFw n fun f => { f with drGen := some (s.gen n), asked := .drSwap }).fwSend n 0 9 [] true
  else s

/-- DR_SWAP_RESPONSE (R238): the DR_Swap in a receive record is answered; a Wait lets this port's own DR_Swap go out again; with no record
firmware looks whether it is to send one. -/
def execDrSwapResponse (n : Port) (rec : Option (Fin 64)) (s : State) : Host.Outcome State Fault Refusal :=
  .next (s.policy fun s => match rec with
    | none => s.drInitiate n
    | some i =>
      if !s.rxUsable n i.val then s
      else if isControl (s.rxHdr n i.val) 9 then s.drAnswer n
      else if isControl (s.rxHdr n i.val) 12 then s.modFw n fun f => { f with drGen := none }
      else s)

end Sys2Proof.Machine
end

