-- ==== Sys2Proof/Machine/Answers.lean ====
section
/-!
DEFINITION. What policy firmware answers beside contracts and modes (chapter 9: R241, R242, R493): battery and status messages, and the messages
answered Not_Supported.
-/

namespace Sys2Proof.Machine

/-- Energy of a charge (0.1 mAh) at the profile's nominal pack voltage, in 0.1 Wh, rounded down. -/
def State.energyOf (s : State) (q : Nat) : Nat :=
  match s.gauge.prof with
  | some p => min 0xFFFE (q * p.nominal / 1000000)
  | none => 0

/-- A pack is present. -/
def State.packPresent (s : State) : Bool := s.flag pBATID BATID.STAT_PRESENT

/-- Not_Supported while a contract stands, Soft_Reset without one (R241). -/
def State.notSupported (s : State) (n : Port) : State := s.fwSend n 0 (if s.explicit n then 16 else 13) [] false

/-- Get_Battery_Cap (Table 9.10). -/
def State.batteryCaps (s : State) (n : Port) (ref : Nat) : State :=
  let vid := match s.gauge.prof with
    | some p => p.vid + 65536 * p.pid
    | none => 0
  let design := s.energyOf (s.fld pGAUGE GAUGE.DESIGN_CAP)
  let full := s.energyOf s.gFcc
  let body := if ref ≠ 0 then leBytes 4 vid ++ leBytes 2 0xFFFF ++ leBytes 2 0xFFFF ++ leBytes 1 1
    else if s.packPresent then leBytes 4 vid ++ leBytes 2 design ++ leBytes 2 full ++ leBytes 1 0
    else leBytes 4 vid ++ leBytes 2 0 ++ leBytes 2 0 ++ leBytes 1 0
  s.fwSendExt n 5 body

/-- Get_Battery_Status (Table 9.10). -/
def State.batteryStatus (s : State) (n : Port) (ref : Nat) : State :=
  let obj := if ref ≠ 0 then 0xFFFF * 65536 + 256
    else
      let rm := if s.socValid then s.energyOf s.gRm else 0xFFFF
      let dir := match s.gDir with
        | 1 => 0
        | 2 => 1
        | _ => 2
      rm * 65536 + 256 * (2 * s.packPresent.toNat + 4 * dir)
  s.fwSend n 0 5 [BitVec.ofNat 32 obj] false

/-- A sink port of the device holds a contract. -/
def State.sinkPowered (s : State) : Bool := allPorts.any fun m => s.ccState m == .attachedSnk && s.snapValid m

/-- Get_Status (Table 9.10); the trips reported are forgotten. -/
def State.status (s : State) (n : Port) : State :=
  let t := signed 16 (s.fld (pMEAS n) MEAS.TFET_AVG)
  let temp := (max 2 (min 255 (t / 8))).toNat
  let tr := (s.port n).fw.tripped
  let ev := 2 * (bitAt tr 4).toNat + 4 * (bitAt tr 5).toNat + 8 * (bitAt tr 1).toNat
  let therm := min 3 (s.fld (pGUARD n) GUARD.PG_STAT_THERM + 1)
  let body := leBytes 1 temp ++ leBytes 1 (2 * s.sinkPowered.toNat) ++ leBytes 1 s.packPresent.toNat ++ leBytes 1 ev ++
    leBytes 1 (2 * therm) ++ leBytes 2 0
  (s.fwSendExt n 2 body).modFw n fun f => { f with tripped := 0 }

/-- Get_PPS_Status (R493). -/
def State.ppsStatus (s : State) (n : Port) : State :=
  let pps := s.snapValid n && s.snapType n == 3
  let v := if pps then s.fld (pMEAS n) MEAS.VBUS_AVG else 0xFFFF
  let i := if pps then min 254 (((signed 16 (s.fld (pMEAS n) MEAS.IBUS_AVG)).toNat + 2) / 5) else 0xFF
  s.fwSendExt n 12 (leBytes 2 v ++ leBytes 1 i ++ leBytes 1 (2 * min 3 (s.fld (pGUARD n) GUARD.PG_STAT_THERM + 1)))

/-- Get_Source_Cap_Extended (R493): the present power rating, in W, from the grant. -/
def State.srcCapExt (s : State) (n : Port) : State :=
  s.fwSendExt n 1 (Config.imageSrcExt.set 23 (BitVec.ofNat 8 (s.grantOf n / 100)))

/-- The answer to a message by its header; `ref`: its first data byte. Extended_Control subtypes: 1 Get_EPR_Source_Cap, 3 EPR KeepAlive, 4 its Ack. What R207 passes to policy and the image does not
implement is answered Not_Supported: unchunked extended messages (R196), and the groups whose `AUTO_NS` bit is 0. -/
def State.answer (s : State) (n : Port) (h ref : Nat) (unchunked : Bool) : State :=
  let role := s.inf (pCC n) CC.CFG_ROLE
  let bat := s.inf (pPOL n) POL.CFG_BAT_MSG == 1
  let snk := role != 1 && role != 2
  let isExt := fun (t : Nat) => hdrExt h && hdrType h == t
  if unchunked then s.notSupported n
  else if isExt 3 then (if bat then s.batteryCaps n ref else s.notSupported n)
  else if isExt 4 then (if bat then s.batteryStatus n ref else s.notSupported n)
  else if isControl h 18 then (if !bat && s.ccState n == .attachedSnk then s.notSupported n else s.status n)
  else if isControl h 17 then (if snk then s.notSupported n else s.srcCapExt n)
  else if isControl h 20 then (if snk then s.notSupported n else s.ppsStatus n)
  else if isControl h 7 then (if snk then s.notSupported n else s.advertise n)
  else if isControl h 8 then (if role = 1 then s.notSupported n else s.fwSend n 0 4 Config.imageSinkCaps false)
  else if isControl h 22 then (if role = 1 then s.notSupported n else s.fwSendExt n 15 Config.imageSinkExt)
  else if isControl h 13 then s.fwSend n 0 3 [] false
  else if isExt 16 && ref == 3 && s.ccState n == .attachedSrc && s.inEpr n then s.fwSendExt n 16 [4, 0]
  else if isExt 16 && ref == 4 then s
  else if isExt 16 && ref == 1 && s.ccState n == .attachedSrc && s.inEpr n then s.advertise n
  else if isControl h 14 || isControl h 15 || isControl h 21 || isControl h 23 || isControl h 24 then s.notSupported n
  else if isData h 7 || isData h 8 then s.notSupported n
  else if [6, 8, 9, 10, 11, 13, 14, 16, 30].any isExt then s.notSupported n
  else s

/-- BATTERY_ANSWER (R241, R242, R493): the request in a receive record is answered. A layer that answered the message itself is left alone. -/
def execBatteryAnswer (n : Port) (i : Fin 64) (s : State) : Host.Outcome State Fault Refusal :=
  .next (s.policy fun s =>
    if s.pdAttached n ∧ s.rxUsable n i.val ∧ !bitAt (s.stNat (rxRecAt n i.val + 10) 1) 3 then s.answer n (s.rxHdr n i.val) (s.stNat (rxRecAt n i.val + 20) 1) (bitAt (s.stNat (rxRecAt n i.val + 10) 1) 2) else s)

end Sys2Proof.Machine
end

