-- ==== Sys2Proof/Machine/Vdm.lean ====
section
/-!
DEFINITION. Discovery and alternate modes in standard firmware (chapter 10), with the commands of `VDM[n]` that firmware carries out. VDM
layouts are those of USB PD 3.1 and of DisplayPort Alternate Mode (log entry 20).
-/

namespace Sys2Proof.Machine

/-- SVID of a VDM header. -/
def vdmSvid (h : Word) : Nat := bitsOf h.toNat 16 16
/-- Structured. -/
def vdmStruct (h : Word) : Bool := bitAt h.toNat 15
/-- Object position. -/
def vdmPos (h : Word) : Nat := bitsOf h.toNat 8 3
/-- Command type. -/
def vdmType (h : Word) : Nat := bitsOf h.toNat 6 2
/-- Firmware raises events of its page through `PG_EVT_SET`. -/
def State.vdmEvt (s : State) (n : Port) (f : Fld) : State := s.raise (pVDM n) f

/-- SVIDs this image handles: DisplayPort while `DP_EN` = 1, and the table's. -/
def State.svidHandled (s : State) (n : Port) (svid : Nat) : Bool :=
  (svid == 0xFF01 && s.flag (pVDM n) VDM.CFG_DP_EN) || Config.imageSvids.contains svid

/-! ### Discovery (R244) -/

/-- The port is DFP. -/
def State.isDfp (s : State) (n : Port) : Bool := s.flag (pPDL n) PDL.CFG_DATA_ROLE

/-- Discovery on SOP starts: Discover Identity with `AMS_START`. -/
def State.discStart (s : State) (n : Port) : State :=
  let s := (s.put (pVDM n) VDM.DISC_STAT_DISC 2).modFw n fun f => { f with discGen := some (s.gen n), modes := [], todo := [], svids := [] }
  s.vdmAsk n 0 (vdmHdr 0xFF00 0 0 1) [] true

/-- Firmware ends its sequence, as source, when no request of it is outstanding (R193, R245). -/
def State.amsDone (s : State) (n : Port) : State :=
  if (s.port n).fw.vdm.isNone && (s.port n).fw.cbl.isNone then s.amsEnd n else s

/-- Pin assignments both sides offer, of C, D and E (bits 2-4). The partner's receptacle or plug field is bits [15:8] and [23:16] of its mode
VDO. -/
def State.dpShared (s : State) (n : Port) (vdo : Word) : Nat :=
  (s.fld (pVDM n) VDM.DP_CFG_PIN_MASK &&& (bitsOf vdo.toNat 8 8 ||| bitsOf vdo.toNat 16 8)) &&& 0x1C

/-- DisplayPort may be entered: the partner offers UFP_D, a pin assignment is shared, the cable is not active. -/
def State.dpMay (s : State) (n : Port) (vdo : Word) : Bool :=
  s.flag (pVDM n) VDM.CFG_DP_EN && bitAt vdo.toNat 0 && s.dpShared n vdo != 0 && !s.flag (pVDM n) VDM.DISC_STAT_ACTIVE_CBL

/-- The modes discovered that firmware may enter by itself, in order: DisplayPort, then the table's (R247). -/
def State.autoMode (s : State) (n : Port) : Option (Nat × Nat) :=
  let ms := (s.port n).fw.modes
  match ms.find? fun m => m.1 == 0xFF01 && s.dpMay n m.2.2 with
  | some m => some (m.1, m.2.1)
  | none => match Config.imageSvids.find? fun v => ms.any fun m => m.1 == v with
    | some v => (ms.find? fun m => m.1 == v).map fun m => (m.1, m.2.1)
    | none => none

/-- Firmware will enter a mode by itself now (R247). -/
def State.autoNow (s : State) (n : Port) : Option (Nat × Nat) :=
  let pg := pVDM n
  if s.flag pg VDM.CFG_ENTER_AUTO && s.isDfp n && s.fld pg VDM.DISC_STAT_DISC == 5 && !s.flag pg VDM.MODE_VALID && (s.port n).fw.vdm.isNone then s.autoMode n
  else none

/-- Discovery on SOP ends. The sequence goes on when DisplayPort is to be entered (R245). -/
def State.discEnd (s : State) (n : Port) (ok : Bool) : State :=
  let s := (s.put (pVDM n) VDM.DISC_STAT_DISC (if ok then 5 else 6)).modFw n fun f => { f with vdm := none, todo := [] }
  let s := s.vdmEvt n (if ok then VDM.PG_EVT_DISC_DONE else VDM.PG_EVT_DISC_FAIL)
  if (s.autoNow n).any fun m => m.1 == 0xFF01 then s else s.amsDone n

/-- The next Discover Modes, or the end. -/
def State.discNext (s : State) (n : Port) : State :=
  match (s.port n).fw.todo with
  | [] => s.discEnd n true
  | v :: vs => ((s.put (pVDM n) VDM.DISC_STAT_DISC 4).modFw n fun f => { f with todo := vs }).vdmAsk n 0 (vdmHdr v 0 0 3) [] false

/-- Store SVID number `i` (0-7). -/
def State.svidPut (s : State) (n : Port) (i v : Nat) : State :=
  s.put (pVDM n) ((if i % 2 = 0 then VDM.SVID_LO else VDM.SVID_HI).at (i % 8 / 2)) v

/-- SVID number `i`. -/
def State.svidGet (s : State) (n : Port) (i : Nat) : Nat :=
  s.fld (pVDM n) ((if i % 2 = 0 then VDM.SVID_LO else VDM.SVID_HI).at (i / 2))

/-- The SVIDs of a Discover SVIDs response, up to its terminating 0. -/
def svidList (objs : List Word) : List Nat :=
  (objs.flatMap fun o => [bitsOf o.toNat 16 16, bitsOf o.toNat 0 16]).takeWhile fun v => v != 0

/-- A Discover SVIDs ACK: the first 8 are stored; a response that holds 12 asks again; the modes of every SVID listed that the image handles are asked for. -/
def State.discSvids (s : State) (n : Port) (objs : List Word) : State :=
  let pg := pVDM n
  let have_ := s.fld pg VDM.DISC_STAT_SVID_CNT
  let l := svidList objs
  let all := (List.range have_).map (s.svidGet n) ++ l
  let s := ((List.range (min 8 all.length)).zip (all.take 8)).foldl (init := s) fun s c => s.svidPut n c.1 c.2
  let s := (s.put pg VDM.DISC_STAT_SVID_CNT (min 8 all.length)).putB pg VDM.DISC_STAT_SVID_MORE
    (s.flag pg VDM.DISC_STAT_SVID_MORE || decide (8 < all.length))
  let s := s.modFw n fun f => { f with svids := f.svids ++ l }
  if l.length = 12 then s.vdmAsk n 0 (vdmHdr 0xFF00 0 0 2) [] false
  else
    let want := (0xFF01 :: Config.imageSvids).filter fun v => (s.port n).fw.svids.contains v
    (s.modFw n fun f => { f with todo := want }).discNext n

/-! ### Mode entry (R247, R248) -/

/-- The pin assignment chosen: C, D when USB is preferred, E only when neither is shared. 2, 3, 4 stand for C, D, E. -/
def State.dpPick (s : State) (n : Port) (vdo : Word) : Nat :=
  let m := s.dpShared n vdo
  let usb := s.flag (pVDM n) VDM.DP_CFG_PREFER_USB
  if usb && bitAt m 3 then 3 else if !usb && bitAt m 2 then 2 else if bitAt m 2 then 2 else if bitAt m 3 then 3 else 4

/-- Enter a mode: the mux goes to the safe state, then Enter Mode is sent on SOP. `ams`: it starts a sequence. -/
def State.enterMode (s : State) (n : Port) (svid pos : Nat) (ams : Bool) : State :=
  (s.modFw n fun f => { f with mux := 0 }).vdmAsk n 0 (vdmHdr svid pos 0 4) [] ams

/-- The mode ends: the mux goes to a setting, `MODE` and its VDOs read 0. -/
def State.modeClear (s : State) (n : Port) (mux : Nat) : State :=
  let pg := pVDM n
  let s := ((s.wr pg 0x8C 0).wr pg 0x94 0).wr pg 0x98 0
  (s.put pg VDM.DISC_STAT_DP_STATE 0).modFw n fun f => { f with mux := mux, vdm := none }

/-- The mode record of always-on SRAM (R254): `MODE`, `DP_CONFIG`, `HPD`, CRC-16 in the last two of its 16 bytes. -/
def State.modeRecord (s : State) (n : Port) : State :=
  let body := leBytes 4 (s.rd (pVDM n) 0x8C).toNat ++ leBytes 4 (s.rd (pVDM n) 0x98).toNat ++ leBytes 4 (s.rd (pVDM n) 0x34).toNat ++ leBytes 2 0
  s.aosWrite (0x100 + 0x10 * n.val) (body ++ leBytes 2 (crc16 body))

/-- As DFP_D, the HPD State of a DisplayPort Status is copied into `LEVEL`; IRQ_HPD requests a pulse after it, which waits for 1 ms after a rising edge: certainly one of `LEVEL` just now,
else by a free value (R249). -/
def State.dpStatus (s : State) (n : Port) (vdo : Word) : State :=
  let s := s.wr (pVDM n) 0x94 vdo
  let level := bitAt vdo.toNat 7
  let s := s.raiseIf (s.flag (pVDM n) VDM.HPD_LEVEL != level) (pVDM n) VDM.PG_EVT_HPD_CHANGE
  let rose := level && !s.flag (pVDM n) VDM.HPD_LEVEL
  let s := s.hpdWrite n level
  let early := rose || s.free.getLsbD 0
  (if bitAt vdo.toNat 8 then (s.hpdIrq n early).freshen else s).modeRecord n

/-- The response to an Enter Mode, Status, Configure or Exit request. -/
def State.modeResponse (s : State) (n : Port) (q : VdmReq) (h : Word) (objs : List Word) : State :=
  let pg := pVDM n
  let ack := vdmType h == 1
  let svid := vdmSvid q.hdr
  match vdmCmd q.hdr with
  | 4 =>
    if ack then
      let s := ((s.put pg VDM.MODE_SVID svid).put pg VDM.MODE_POS (vdmPos q.hdr)).put pg VDM.MODE_VALID 1
      let s := s.vdmEvt n VDM.PG_EVT_MODE_ENTERED
      if svid = 0xFF01 then (s.put pg VDM.DISC_STAT_DP_STATE 1).vdmAsk n 0 (vdmHdr svid (vdmPos q.hdr) 0 0x10) [1] false
      else (s.modeRecord n).amsDone n
    else (s.modFw n fun f => { f with mux := 1 }).amsDone n
  | 5 => (((s.modeClear n 0).vdmEvt n VDM.PG_EVT_MODE_EXITED).modeRecord n).amsDone n
  | 0x10 =>
    if ack then
      let s := s.dpStatus n (objs.getD 0 0)
      let pick := s.dpPick n (s.rd pg 0x90)
      let s := s.modFw n fun f => { f with mux := pick }
      s.vdmAsk n 0 (vdmHdr svid (vdmPos q.hdr) 0 0x11) [BitVec.ofNat 32 (2 + 4 + 256 * 2 ^ pick)] false
    else s.amsDone n
  | 0x11 =>
    if ack then
      let s := (s.wr pg 0x98 (q.body.getD 0 0)).put pg VDM.DISC_STAT_DP_STATE 2
      (s.modeRecord n).amsDone n
    else (s.modFw n fun f => { f with mux := 0 }).vdmAsk n 0 (vdmHdr svid (vdmPos q.hdr) 0 5) [] false
  | _ => s

/-- The cable's response (R244): on SOP′ its identity is stored, and an active cable is then asked on SOP″ where the cable rule allows it (log entry 111); SOP″'s identity has no
register. -/
def State.cableResponse (s : State) (n : Port) (q : VdmReq) (ack : Bool) (objs : List Word) : State :=
  let pg := pVDM n
  let s := s.modFw n fun f => { f with cbl := none }
  if q.sop = 1 && ack then
    let active := bitsOf (objs.getD 0 0).toNat 27 3 == 4
    let s := (s.wr pg 0x74 (objs.getD 0 0)).wr pg 0x78 (objs.getD 3 0)
    let s := (s.put pg VDM.DISC_STAT_CBL_KNOWN 1).putB pg VDM.DISC_STAT_ACTIVE_CBL active
    if active && s.cableOk n 2 && !(s.port n).fw.cbl2 then
      (s.modFw n fun f => { f with cbl2 := true }).vdmAsk n 2 (vdmHdr 0xFF00 0 0 1) [] (s.explicit n)
    else s.amsDone n
  else s.amsDone n

/-- A response to the request that waits, the partner's or the cable's. BUSY lets it wait for `BUSY_MS` (R246). -/
def State.vdmResponse (s : State) (n : Port) (i : Nat) : State :=
  let sop := s.stNat (rxRecAt n i + 2) 1 % 4
  match (if sop = 0 then (s.port n).fw.vdm else (s.port n).fw.cbl) with
  | none => s
  | some q =>
    let h := s.rxObj n i 0
    let objs := (s.rxObjs n i).drop 1
    let pg := pVDM n
    let ack := vdmType h == 1
    if !vdmStruct h || vdmType h == 0 || vdmCmd h != vdmCmd q.hdr || vdmSvid h != vdmSvid q.hdr || sop != q.sop then s
    else if vdmType h = 3 then
      let q := { q with busy := true, waitUs := boundUs (s.fld pg VDM.TIMING_BUSY_MS) 50 100 }
      s.modFw n fun f => if sop = 0 then { f with vdm := some q } else { f with cbl := some q }
    else if q.sop ≠ 0 then s.cableResponse n q ack objs
    else
      let s := s.modFw n fun f => { f with vdm := none }
      match vdmCmd q.hdr with
        | 1 =>
          if ack then
            let s := (((s.wr pg 0x64 (objs.getD 0 0)).wr pg 0x68 (objs.getD 1 0)).wr pg 0x6C (objs.getD 2 0)).wr pg 0x70 (objs.getD 3 0)
            let s := (s.put pg VDM.DISC_STAT_DISC 3).put pg VDM.DISC_STAT_SVID_CNT 0
            (s.put pg VDM.DISC_STAT_SVID_MORE 0).vdmAsk n 0 (vdmHdr 0xFF00 0 0 2) [] false
          else s.discEnd n false
        | 2 => if ack then s.discSvids n objs else s.discEnd n false
        | 3 =>
          if ack then
            let svid := vdmSvid q.hdr
            let found := ((List.range objs.length).zip objs).map fun c => (svid, c.1 + 1, c.2)
            let s := s.modFw n fun f => { f with modes := f.modes ++ found }
            let s := if svid = 0xFF01 then s.wr pg 0x90 (objs.getD 0 0) else s
            s.discNext n
          else s.discEnd n false
        | _ => s.modeResponse n q h objs

/-- Send a response on SOP. -/
def State.vdmReply (s : State) (n : Port) (q : Word) (ctype : Nat) (objs : List Word) : State :=
  s.fwSendFor n 0 15 (vdmHdr (vdmSvid q) (vdmPos q) ctype (vdmCmd q) :: objs) false .reply

/-- A response to an earlier request is still queued (R245). -/
def State.replyQueued (s : State) (n : Port) : Bool :=
  ((s.port n).fw.outbox.any fun m => m.goal == .reply) || ((s.port n).pdl.queue.any fun i => (s.builtMsg n i).any fun m => m.goal == .reply)

/-- The SVIDs of the next Discover SVIDs response, 12 at most, two to an object; a list that ends in it ends in 0 (R244, R245). -/
def svidObjs (l : List Nat) : List Word :=
  let l := if l.length < 12 then l ++ [0] else l
  ((List.range 6).filter fun k => decide (2 * k < l.length)).map fun k => BitVec.ofNat 32 (65536 * l.getD (2 * k) 0 + l.getD (2 * k + 1) 0)

/-- The mode of an SVID is the one entered. -/
def State.modeIs (s : State) (n : Port) (svid : Nat) : Bool := s.flag (pVDM n) VDM.MODE_VALID && s.fld (pVDM n) VDM.MODE_SVID == svid

/-- The pin assignment of a DisplayPort Configure as a mux setting: 2, 3, 4 for C, D, E; 1 (USB) for no assignment. -/
def dpConfigured (vdo : Nat) : Nat :=
  if bitAt vdo 10 then 2 else if bitAt vdo 11 then 3 else if bitAt vdo 12 then 4 else 1

/-- As UFP, firmware answers a structured request from the image's configuration (R245): BUSY while its previous response is still queued; Attention
carries the partner's DisplayPort Status (R249). Enter Mode is accepted for a mode the image lists; a Configure sets the mux (R248). -/
def State.vdmRequest (s : State) (n : Port) (i : Nat) : State :=
  let h := s.rxObj n i 0
  let objs := (s.rxObjs n i).drop 1
  let svid := vdmSvid h
  let known := s.svidHandled n svid
  if vdmCmd h = 6 then if svid = 0xFF01 then s.dpStatus n (objs.getD 0 0) else s
  else if s.isDfp n then s.vdmReply n h 2 []
  else if s.replyQueued n then s.vdmReply n h 3 []
  else match vdmCmd h with
    | 1 =>
      if svid = 0xFF00 then (s.modFw n fun f => { f with svidOff := 0 }).vdmReply n h 1 (Config.imageIdentity.take 6)
      else s.vdmReply n h 2 []
    | 2 =>
      let l := (((if s.flag (pVDM n) VDM.CFG_DP_EN then [0xFF01] else []) ++ Config.imageSvids).drop (s.port n).fw.svidOff).take 12
      if svid = 0xFF00 then
        (s.modFw n fun f => { f with svidOff := if l.length = 12 then f.svidOff + 12 else 0 }).vdmReply n h 1 (svidObjs l)
      else s.vdmReply n h 2 []
    | 3 => if known then s.vdmReply n h 1 ((Config.imageModes svid).take 6) else s.vdmReply n h 2 []
    | 4 =>
      if known && !s.flag (pVDM n) VDM.MODE_VALID && decide (1 ≤ vdmPos h) && decide (vdmPos h ≤ (Config.imageModes svid).length) then
        let s := ((s.put (pVDM n) VDM.MODE_SVID svid).put (pVDM n) VDM.MODE_POS (vdmPos h)).put (pVDM n) VDM.MODE_VALID 1
        let s := if svid = 0xFF01 then s.put (pVDM n) VDM.DISC_STAT_DP_STATE 1 else s
        ((s.vdmEvt n VDM.PG_EVT_MODE_ENTERED).modeRecord n).vdmReply n h 1 []
      else s.vdmReply n h 2 []
    | 5 =>
      if s.modeIs n svid then
        (((s.modeClear n 1).vdmEvt n VDM.PG_EVT_MODE_EXITED).modeRecord n).vdmReply n h 1 []
      else s.vdmReply n h 2 []
    | 0x10 =>
      if svid = 0xFF01 && s.modeIs n svid then (s.wr (pVDM n) 0x94 (objs.getD 0 0)).vdmReply n h 1 [BitVec.ofNat 32 (1 + 128 * (s.port n).fw.hpdIn.toNat)]
      else s.vdmReply n h 2 []
    | 0x11 =>
      if svid = 0xFF01 && s.modeIs n svid then
        let s := ((s.wr (pVDM n) 0x98 (objs.getD 0 0)).put (pVDM n) VDM.DISC_STAT_DP_STATE 2).modeRecord n
        (s.modFw n fun f => { f with mux := dpConfigured (objs.getD 0 0).toNat }).vdmReply n h 1 []
      else s.vdmReply n h 2 []
    | _ => s.vdmReply n h 2 []

/-- DISCOVERY (R244, R245): with a receive record, the response or request it holds; with none, a cable attempt (`cable`), or the start of discovery on SOP. -/
def execDiscovery (n : Port) (rec : Option (Fin 64)) (cable : Bool) (s : State) : Host.Outcome State Fault Refusal :=
  .next (s.policy fun s =>
    match rec with
    | some i =>
      let h := s.rxObj n i.val 0
      if !s.rxUsable n i.val || !isData (s.rxHdr n i.val) 15 then s
      else if vdmStruct h && vdmType h == 0 then (if s.svidHandled n (vdmSvid h) || vdmSvid h == 0xFF00 || vdmSvid h == 0xFF01 then s.vdmRequest n i.val else s)
      else s.vdmResponse n i.val
    | none =>
      if cable then (if (s.port n).fw.cbl.isNone then s.cableAsk n else s)
      else if s.isDfp n ∧ s.explicit n ∧ !s.snapTrans n ∧ s.flag (pVDM n) VDM.CFG_DISC_EN ∧ s.enabled (pPDL n) ∧ (s.port n).fw.discGen ≠ some (s.gen n) then s.discStart n
      else s)

/-- The wait for the response to a request on SOP elapses (R246): after BUSY the request goes out again; a discovery request is repeated once, and without an answer discovery fails; Enter or
Exit Mode ends. -/
def State.vdmTimeout (s : State) (n : Port) (q : VdmReq) : State :=
  let us := s.vdmWaitUs n q.hdr
  let repeat_ := fun (again : Bool) =>
    (s.fwSend n 0 15 (q.hdr :: q.body) false).modFw n fun f => { f with vdm := some { q with again := again, busy := false, waitUs := us } }
  if q.busy then repeat_ false
  else if vdmCmd q.hdr = 5 then (((s.modeClear n 0).vdmEvt n VDM.PG_EVT_MODE_EXITED).modeRecord n).amsDone n
  else if vdmCmd q.hdr ≤ 3 then if q.again then s.discEnd n false else repeat_ true
  else (s.modFw n fun f => { f with vdm := none, mux := if vdmCmd q.hdr = 4 then 1 else f.mux }).amsDone n

/-- The wait for the cable's response elapses: after BUSY the request goes out again, else the attempt has failed (R244). -/
def State.cableTimeout (s : State) (n : Port) (q : VdmReq) : State :=
  if q.busy then
    (s.fwSend n q.sop 15 (q.hdr :: q.body) false).modFw n fun f => { f with cbl := some { q with busy := false, waitUs := s.vdmWaitUs n q.hdr } }
  else (s.modFw n fun f => { f with cbl := none }).amsDone n

/-- VDM_RESPONSE_TIMEOUT (R246): the wait of the partner's request, or of the cable's (`cable`), elapses. -/
def execVdmResponseTimeout (n : Port) (cable : Bool) (s : State) : Host.Outcome State Fault Refusal :=
  .next (s.policy fun s =>
    match (if cable then (s.port n).fw.cbl else (s.port n).fw.vdm) with
    | none => s
    | some q => if cable then s.cableTimeout n q else s.vdmTimeout n q)

/-- MODE_ENTRY_AUTO (R247): after discovery with `ENTER_AUTO` = 1. -/
def execModeEntryAuto (n : Port) (s : State) : Host.Outcome State Fault Refusal :=
  .next (s.policy fun s =>
    match s.autoNow n with
    | some (v, p) => s.enterMode n v p (v != 0xFF01)
    | none => s)

/-- `VDM[n].CMD.REDISCOVER`. -/
def State.vdmRediscover (s : State) (n : Port) : State :=
  if s.isDfp n && s.explicit n then s.discStart n else s

/-- `VDM[n].CMD.ENTER`: the mode named in `ENTER_SEL`; with a mode entered, or for one not discovered, CMD_ERR. -/
def State.vdmEnter (s : State) (n : Port) : State :=
  let pg := pVDM n
  let v := s.fld pg VDM.ENTER_SEL_SVID
  let p := s.fld pg VDM.ENTER_SEL_POS
  if s.flag pg VDM.MODE_VALID || !(s.port n).fw.modes.any (fun m => m.1 == v && m.2.1 == p) then s.put pg VDM.DISC_STAT_CMD_ERR 1
  else if s.isDfp n then s.enterMode n v p true else s

/-- `VDM[n].CMD.EXIT` (R253): Exit Mode is sent. -/
def State.vdmExit (s : State) (n : Port) : State :=
  let pg := pVDM n
  if s.flag pg VDM.MODE_VALID then s.vdmAsk n 0 (vdmHdr (s.fld pg VDM.MODE_SVID) (s.fld pg VDM.MODE_POS) 0 5) [] true else s

/-- VDM_CMD_REDISCOVER (R255). -/
def execVdmCmdRediscover (n : Port) (key : BitVec 16) (s : State) : Host.Outcome State Fault Refusal :=
  .next (s.keyCmd (pVDM n) key.toNat 0x7D1E fun s => s.policy fun s => s.vdmRediscover n)

/-- VDM_CMD_ENTER (R247). -/
def execVdmCmdEnter (n : Port) (key : BitVec 16) (s : State) : Host.Outcome State Fault Refusal :=
  .next (s.keyCmd (pVDM n) key.toNat 0x7D1E fun s => s.policy fun s => s.vdmEnter n)

/-- VDM_CMD_EXIT (R253). -/
def execVdmCmdExit (n : Port) (key : BitVec 16) (s : State) : Host.Outcome State Fault Refusal :=
  .next (s.keyCmd (pVDM n) key.toNat 0x7D1E fun s => s.policy fun s => s.vdmExit n)

/-- MODE_END_AT_RESET (R253): the task of slot 88 + n after a detach, or of the HR slot after a Hard Reset; attached, the mux then goes to USB. -/
def execModeEndAtReset (n : Port) (s : State) : Host.Outcome State Fault Refusal :=
  .next (s.policy fun s =>
    let entered := s.flag (pVDM n) VDM.MODE_VALID
    let s := s.modeClear n (if s.pdAttached n then 1 else 0)
    (if entered then s.vdmEvt n VDM.PG_EVT_MODE_EXITED else s).modeRecord n)

/-! ### UFP_D (R250) -/

/-- UFP_HPD_SAMPLE: the `GPIO` input named in `HPD_SRC`, after its inversion, sampled in a tick; a low pulse of 500-1,000 µs (10-20 ticks) sends IRQ_HPD. -/
def execUfpHpdSample (n : Port) (s : State) : Host.Outcome State Fault Refusal :=
  .next (s.policy fun s =>
    let pg := pVDM n
    if s.isDfp n ∨ !s.flag pg VDM.MODE_VALID ∨ s.fld pg VDM.MODE_SVID ≠ 0xFF01 then s
    else
      let k := s.fld pg VDM.DP_CFG_HPD_SRC
      let level := s.enabled pGPIO && (s.pins.gpio.getLsbD k != bitAt (s.rd pGPIO (0x20 + 4 * k)).toNat 12)
      let f := (s.port n).fw
      let irq := level && !f.hpdIn && decide (10 ≤ f.hpdLow) && decide (f.hpdLow ≤ 20)
      let s := s.modFw n fun f => { f with hpdIn := level, hpdLow := if level then 0 else f.hpdLow + 1 }
      if level = f.hpdIn then s
      else s.fwSend n 0 15 [vdmHdr 0xFF01 (s.fld pg VDM.MODE_POS) 0 6, BitVec.ofNat 32 (1 + 128 * level.toNat + 256 * irq.toNat)] false)

/-! ### The host's VDMs (R251, R252) -/

/-- A response or Attention that belongs to the VDM the host sent last: of its SVID, and of its command unless it is Attention (R251). -/
def State.hostBelongs (s : State) (n : Port) (sop : Nat) (h : Word) : Bool :=
  (s.port n).fw.hostReq.any fun r =>
    r.1 == sop && vdmSvid r.2 == vdmSvid h && vdmStruct h && ((vdmType h != 0 && vdmCmd h == vdmCmd r.2) || (vdmType h == 0 && vdmCmd h == 6))

/-- A VDM that goes to the host: unstructured, naming an SVID that firmware does not handle, or belonging to the VDM the host sent. -/
def State.hostVdm (s : State) (n : Port) (sop : Nat) (h : Word) : Bool :=
  !vdmStruct h || (vdmSvid h != 0xFF01 && !Config.imageSvids.contains (vdmSvid h) && vdmSvid h != 0xFF00) || s.hostBelongs n sop h

/-- HOST_VDM_PASS: the VDM in a receive record (R251, R245). -/
def execHostVdmPass (n : Port) (i : Fin 64) (s : State) : Host.Outcome State Fault Refusal :=
  .next (s.policy fun s =>
    let pg := pVDM n
    let h := s.rxObj n i.val 0
    if !s.rxUsable n i.val || !isData (s.rxHdr n i.val) 15 || !s.hostVdm n (s.stNat (rxRecAt n i.val + 2) 1 % 4) h then s
    else if s.flag pg VDM.CFG_HOST_PASS then
      let w := s.fld pg VDM.HOST_Q_WR
      let s :=
        if (w + 1) % 8 = s.fld pg VDM.HOST_Q_RD then s.vdmEvt n VDM.PG_EVT_HOST_OVF
        else
          let s := s.stWrite (0x4000 * n.val + 0x2400 + 64 * w) (s.stRead (rxRecAt n i.val) 64)
          (s.put pg VDM.HOST_Q_WR (w + 1)).vdmEvt n VDM.PG_EVT_HOST_Q
      if vdmStruct h && vdmType h == 0 && vdmCmd h != 6 then s.fwSend n 0 15 [vdmHdr (vdmSvid h) (vdmPos h) 2 (vdmCmd h)] false else s
    else if vdmStruct h then
      if vdmType h == 0 && vdmCmd h != 6 then s.fwSend n 0 15 [vdmHdr (vdmSvid h) (vdmPos h) 2 (vdmCmd h)] false else s
    else s.fwSend n 0 16 [] false)

/-- The host's VDM is sent, or refused; while the layer is held it is refused as every record would be (R188, R205, R252). -/
def State.hostTxGo (s : State) (n : Port) : State :=
  let pg := pVDM n
  let h := s.rd pg 0x44
  let cnt := max 1 (s.fld pg VDM.HOST_TX_CTL_COUNT)
  let own := vdmStruct h && (vdmSvid h == 0xFF01 || Config.imageSvids.contains (vdmSvid h))
  let entry := vdmStruct h && (vdmCmd h == 4 || vdmCmd h == 5) && s.flag pg VDM.MODE_VALID
  if own || entry || !s.pdAttached n || !s.enabled (pPDL n) then s.hostDone n 8
  else
    let sop := s.fld pg VDM.HOST_TX_CTL_SOP
    let objs := (List.range cnt).map fun k => s.rd pg (0x44 + 4 * k)
    (s.modFw n fun f => { f with hostReq := some (sop, h) }).fwSendFor n sop 15 objs true .host

/-- A write of `HOST_TX_CTL` with `GO` = 1; ignored while one is in progress. -/
def State.hostTxWrite (s : State) (n : Port) (count sop : Nat) : State :=
  let pg := pVDM n
  if s.flag pg VDM.HOST_TX_CTL_GO then s
  else (((s.put pg VDM.HOST_TX_CTL_COUNT count).put pg VDM.HOST_TX_CTL_SOP sop).put pg VDM.HOST_TX_CTL_GO 1).policy fun s => s.hostTxGo n

/-- HOST_TX_GO (R252). -/
def execHostTxGo (n : Port) (count : BitVec 3) (sop : BitVec 2) (s : State) : Host.Outcome State Fault Refusal :=
  .next (s.cmd (pVDM n) fun s => s.hostTxWrite n count.toNat sop.toNat)

end Sys2Proof.Machine
end

