-- ==== Sys2Proof/Machine/PlaceOps.lean ====
section
/-!
DEFINITION. Placement's building blocks (chapter 14): port and pool records, the placing device's ledger, and the placement algorithm of R344.
-/

namespace Sys2Proof.Machine

/-! ### Records -/

/-- Store offset of the record of port `i` = 8 × node + port. -/
def recAt (i : Nat) : Nat := 0x60000 + 32 * (i % 512)

/-- Store offset of the record of pool `p`. -/
def poolAt (p : Nat) : Nat := 0x64000 + 32 * (p % 16)

/-- Word `w` of a record. -/
def State.recWord (s : State) (a w : Nat) : Nat := s.stNat (a + 4 * w) 4

/-- A record checks: no parity error and the CRC-16 over words 0-6 stands in word 7. -/
def State.recOk (s : State) (a : Nat) : Bool := !s.stBadIn a 32 && crc16 (s.stRead a 28) == s.stNat (a + 28) 2

/-- Write a word of a record with a fresh CRC. -/
def State.recPut (s : State) (a w v : Nat) : State :=
  let s := s.stPut (a + 4 * w) 4 v
  let s := s.stPut (a + 28) 4 (crc16 (s.stRead a 28))
  { s with place := { s.place with dirty := if s.place.dirty.contains a then s.place.dirty else a :: s.place.dirty } }

/-- Set a field of a record. -/
def State.recSet (s : State) (a w lo n v : Nat) : State := s.recPut a w (setBits (s.recWord a w) lo n v)

def State.recFloor (s : State) (i : Nat) : Nat := bitsOf (s.recWord (recAt i) 0) 0 16
def State.recCeil (s : State) (i : Nat) : Nat := bitsOf (s.recWord (recAt i) 0) 16 16
def State.recPrio (s : State) (i : Nat) : Nat := bitsOf (s.recWord (recAt i) 1) 0 3
def State.recPool (s : State) (i : Nat) : Nat := bitsOf (s.recWord (recAt i) 1) 8 4
def State.recPlaced (s : State) (i : Nat) : Bool := bitAt (s.recWord (recAt i) 1) 16
def State.recGrant (s : State) (i : Nat) : Nat := bitsOf (s.recWord (recAt i) 2) 0 16
def State.recCommit (s : State) (i : Nat) : Nat := bitsOf (s.recWord (recAt i) 2) 16 16
def State.recDemand (s : State) (i : Nat) : Nat := bitsOf (s.recWord (recAt i) 3) 0 16

/-- The ports that take part in placement: `ENABLE` = 1. -/
def State.placed (s : State) : List Nat := (List.range 512).filter s.recPlaced

/-! ### What the placing device knows -/

/-- Change placement state. -/
def State.modPlace (s : State) (f : PlaceSt → PlaceSt) : State := { s with place := f s.place }

/-- Nothing known of a port yet. -/
def ledNone (i : Nat) : Led := ⟨i, false, false, 0, false, 0, 0, 0, false, 0⟩

/-- What is known of a port. -/
def State.led (s : State) (i : Nat) : Led := (s.place.leds.find? fun l => l.idx == i).getD (ledNone i)

/-- Change what is known of a port. -/
def State.modLed (s : State) (i : Nat) (f : Led → Led) : State :=
  s.modPlace fun p => { p with leds := f (s.led i) :: p.leds.filter fun l => l.idx != i }

/-- What is known of a node. -/
def State.nodeLed (s : State) (k : Nat) : NodeLed :=
  (s.place.nodes.find? fun l => l.node == k).getD ⟨k, 0, false, none, false, false, none⟩

/-- Change what is known of a node. -/
def State.modNode (s : State) (k : Nat) (f : NodeLed → NodeLed) : State :=
  s.modPlace fun p => { p with nodes := f (s.nodeLed k) :: p.nodes.filter fun l => l.node != k }

/-- Default power for an Rp code (Table 14.1), 10 mW per LSB. -/
def rpPower (rp : Nat) : Nat := if rp = 0 then 450 else if rp = 1 then 750 else 1500

/-- Default power of an own port. -/
def State.ownD (s : State) (n : Port) : Nat := rpPower (s.fld (pCC n) CC.CFG_RP)

/-- Default power D of a port: its own register on this device; else what the firmware keeps in word 4 of its record (log entry 50), 3.0 A's
while it knows none. -/
def State.portD (s : State) (i : Nat) : Nat :=
  if i / 8 = s.node then s.ownD (Fin.ofNat 8 i)
  else
    let w := bitsOf (s.recWord (recAt i) 4) 0 16
    if w = 0 then 1500 else w

/-- The port is attached, for placement: an own port as source. -/
def State.portAttached (s : State) (i : Nat) : Bool :=
  if i / 8 = s.node then s.ccState (Fin.ofNat 8 i) == .attachedSrc else (s.led i).attached

/-- Thermal state of a port. -/
def State.portTherm (s : State) (i : Nat) : Nat :=
  if i / 8 = s.node then s.fld (pGUARD (Fin.ofNat 8 i)) GUARD.PG_STAT_THERM else (s.led i).therm

/-- The sink's battery is low (R341). -/
def State.portLow (s : State) (i : Nat) : Bool :=
  if i / 8 = s.node then decide (s.place.soc.get (Fin.ofNat 8 i) < s.fld pPLACE PLACE.CFG_LOWBAT_PCT) else (s.led i).lowBat

/-- Demand of a port. -/
def State.portDemand (s : State) (i : Nat) : Nat :=
  if i / 8 = s.node then s.place.demand.get (Fin.ofNat 8 i) else s.recDemand i

/-- Mains bounds offered for a pool: by nodes through CONTRACT, and by this device's own mains page (R85, R339). The value 0xFFFF imposes no bound. -/
def State.bounds (s : State) (p : Nat) : List Nat :=
  let own := if s.part.x && s.flag pMAINS MAINS.POOL_CFG_ENABLE && s.fld pMAINS MAINS.POOL_CFG_POOL == p then [s.fld pMAINS MAINS.BUDGET_POWER] else []
  let all := own ++ s.place.nodes.filterMap fun l => match l.bound with
    | some (q, b) => if q = p then some b else none
    | none => none
  all.filter fun b => b != 0xFFFF

/-- The effective budget of a pool (R339). -/
def State.effBudget (s : State) (p : Nat) : Nat :=
  (s.bounds p).foldl min (min (bitsOf (s.recWord (poolAt p) 0) 0 20) (bitsOf (s.recWord (poolAt p) 2) 0 20))

/-- The available power of a pool. -/
def State.avail (s : State) (p : Nat) : Nat := s.effBudget p - bitsOf (s.recWord (poolAt p) 1) 0 20

/-- The ports of a pool. -/
def State.poolPorts (s : State) (p : Nat) : List Nat := s.placed.filter fun i => s.recPool i == p

/-- Sum of COMMIT over a pool. -/
def State.committed (s : State) (p : Nat) : Nat := ((s.poolPorts p).map s.recCommit).foldl (· + ·) 0

/-- The ledger holds for a pool (R342). -/
def State.ledgerHolds (s : State) (p : Nat) : Bool := decide (s.committed p ≤ s.avail p)

/-! ### The algorithm of R344 -/

/-- A port in a run: index, priority in force, COMMIT, attached, default power, top, want, base, target; marked SHED or OFF; a record that does
not check (R358). -/
structure PlP where
  i : Nat
  pr : Nat
  commit : Nat
  attached : Bool
  d : Nat
  top : Nat
  want : Nat
  base : Nat
  t : Nat
  shed : Bool
  off : Bool
  bad : Bool
deriving DecidableEq, Repr

/-- Insert by an order, behind equals. -/
def insertBy {α : Type} (lt : α → α → Bool) (x : α) : List α → List α
  | [] => [x]
  | y :: ys => if lt x y then x :: y :: ys else y :: insertBy lt x ys

/-- Sort by an order, keeping equals as they stand. -/
def sortBy {α : Type} (lt : α → α → Bool) (l : List α) : List α := l.foldl (fun acc x => insertBy lt x acc) []

/-- Sum of a quantity over the ports of a run. -/
def sumPl (l : List PlP) (f : PlP → Nat) : Nat := (l.map f).foldl (· + ·) 0

/-- The first figures of a port in a run. -/
def State.plStart (s : State) (i : Nat) : PlP :=
  let floor := s.recFloor i
  let ceil := s.recCeil i
  let d := s.portD i
  let bad := !s.recOk (recAt i) || (s.led i).rebuild
  if bad then ⟨i, 0, s.recCommit i, s.portAttached i, d, s.recCommit i, s.recCommit i, s.recCommit i, 0, false, false, true⟩
  else if s.portAttached i then
    let pr := if s.portLow i then min (s.recPrio i + 1) 7 else s.recPrio i
    let th := s.portTherm i
    let top := max (if th = 1 then ceil / 2 else if th = 2 then floor else ceil) floor
    ⟨i, pr, s.recCommit i, true, d, top, min (max (s.portDemand i) floor) top, floor, 0, false, false, false⟩
  else ⟨i, s.recPrio i, s.recCommit i, false, d, d, d, d, 0, false, false, false⟩

/-- The order in which ports give way: priority ascending, COMMIT descending, node, port. -/
def plOrder (a b : PlP) : Bool :=
  decide (a.pr < b.pr) || (a.pr == b.pr && (decide (b.commit < a.commit) || (a.commit == b.commit && decide (a.i < b.i))))

/-- Shed attached ports to their default power, in order, while the bases exceed the available power. -/
def shedPass (avail : Nat) (order : List PlP) : List PlP :=
  order.foldl (init := order) fun l x =>
    if avail < sumPl l (·.base) && x.attached && !x.bad && decide (x.d < x.base) then
      l.map fun y => if y.i = x.i then { y with base := y.d, want := y.d, top := y.d, shed := true } else y
    else l

/-- Then switch ports off, in order. -/
def offPass (avail : Nat) (order : List PlP) : List PlP :=
  order.foldl (init := order) fun l x =>
    if avail < sumPl l (·.base) && !x.bad then
      l.map fun y => if y.i = x.i then { y with base := 0, want := 0, top := 0, off := true } else y
    else l

/-- `fill`: raise the targets of the ports a test picks toward a level in equal steps of 10 mW; when fewer steps remain than ports, one each in
node and port order. Each round raises the picked ports that are below their level by as many whole steps as all of them can take. -/
def fill (pick : PlP → Bool) (level : PlP → Nat) : Nat → List PlP → Nat → List PlP × Nat
  | 0, l, left => (l, left)
  | fuel + 1, l, left =>
    let act := l.filter fun x => pick x && decide (x.t < level x)
    if act.isEmpty || left == 0 then (l, left)
    else
      let k := act.length
      let gap := (act.map fun x => level x - x.t).foldl min left
      let step := min gap (left / k)
      if step = 0 then
        let first := ((sortBy (fun a b => decide (a.i < b.i)) act).take left).map (·.i)
        (l.map fun x => if first.contains x.i then { x with t := x.t + 1 } else x, 0)
      else
        fill pick level fuel (l.map fun x => if pick x && decide (x.t < level x) then { x with t := x.t + step } else x) (left - k * step)

/-- Targets of the ports of a pool. -/
def targets (avail : Nat) (ports : List PlP) : List PlP :=
  let order := sortBy plOrder ports
  let l := offPass avail (shedPass avail order)
  let l := l.map fun x => { x with t := x.base }
  let left := avail - sumPl l (·.t)
  let fuel := 4 * l.length + 8
  let pass := fun (level : PlP → Nat) (st : List PlP × Nat) =>
    [7, 6, 5, 4, 3, 2, 1, 0].foldl (init := st) fun st r => fill (fun x => x.pr == r && !x.bad) level fuel st.1 st.2
  (pass (·.top) (pass (·.want) (l, left))).1

/-- Write GRANT and COMMIT of a port record, and its STATE code. -/
def State.recLedger (s : State) (i grant commit st : Nat) : State :=
  let a := recAt i
  let s := s.stPut (a + 8) 4 (grant % 65536 + 65536 * (commit % 65536))
  s.recSet a 3 16 3 st

/-- The ledger step for one pool: decreases first; increases only while no port of the pool has an unconfirmed decrease. `none`: no increase
in this run. Kinds: 0 NONE, 1 INC, 2 DEC, 3 CUT, 4 SHED, 5 OFF. -/
def State.ledgerStep (s : State) (p : Nat) (noInc : Nat → Bool) : State :=
  let avail := s.avail p
  let cut := decide (avail < s.committed p)
  let ports := s.poolPorts p
  let ts := sortBy (fun a b => decide (a.i < b.i)) (targets avail (ports.map s.plStart))
  let mark := fun (x : PlP) (k : Nat) => if x.off then 5 else if x.shed then 4 else k
  let stCode := fun (x : PlP) (k : Nat) => if x.off then 6 else if x.shed then 5 else k
  let s := ts.foldl (init := s) fun s x =>
    if x.bad then s.modLed x.i fun l => { l with kind := 0 }
    else if x.t < x.commit then
      (s.recLedger x.i x.t x.commit (stCode x 3)).modLed x.i fun l => { l with pend := true, kind := mark x (if cut then 3 else 2) }
    else if x.t = x.commit then
      (s.recLedger x.i x.t x.commit (stCode x (if x.attached then 2 else 1))).modLed x.i fun l => { l with pend := false, kind := mark x 0 }
    else s
  let pending := ts.any fun x => x.bad || (s.led x.i).pend
  let ups := sortBy (fun (a b : PlP) => decide (b.pr < a.pr) || (a.pr == b.pr && decide (a.i < b.i)))
    (ts.filter fun x => !x.bad && decide (x.commit < x.t))
  let s := ups.foldl (init := s) fun s x =>
    if !pending && !noInc x.i && decide (s.committed p + x.t - x.commit ≤ avail) then
      (s.recLedger x.i x.t x.t (stCode x (if x.attached then 2 else 1))).modLed x.i fun l => { l with pend := false, kind := mark x 1 }
    else (s.recLedger x.i x.commit x.commit (stCode x 4)).modLed x.i fun l => { l with pend := false, kind := mark x 0 }
  let a := poolAt p
  let short := ts.any fun x => x.shed || x.off
  let st := s.committed p % 2 ^ 20 + 2 ^ 24 * short.toNat + 2 ^ 25 * (ts.any fun x => (s.led x.i).pend).toNat +
    2 ^ 26 * (!(s.bounds p).isEmpty).toNat + 2 ^ 27 * cut.toNat
  let s := (s.recPut a 3 st).recPut a 4 (s.effBudget p)
  s.modPlace fun q => { q with lastA := (p, avail) :: q.lastA.filter fun c => c.1 != p }

/-- A pool's available power fell below its committed sum since its last run: firmware writes `CMD.RUN` for a cut run (R343). -/
def State.cutCheck (s : State) : State :=
  if !s.places then s
  else
    let cut := (List.range 16).filter fun p =>
      decide (s.avail p < s.committed p) && (match s.place.lastA.find? fun c => c.1 == p with
        | some c => decide (s.avail p < c.2)
        | none => true)
    if cut.isEmpty then s else s.modPlace fun q => { q with cmdRun := true, cutPools := cut }

/-- Tick number [15:0] `t` has come. -/
def State.tkCome (s : State) (t : Nat) : Bool := decide ((s.tick + 65536 - t % 65536) % 65536 < 32768)

/-- `CONFIRM_TK` as it acts: 1,000-10,000. -/
def State.confirmTk (s : State) : Nat := max 1000 (min 10000 (s.fld pPLACE PLACE.LEASE_CONFIRM_TK))

/-- `LEASE_TK` as it acts: 1,000-20,000. -/
def State.leaseTk (s : State) : Nat := max 1000 (min 20000 (s.fld pPLACE PLACE.LEASE_LEASE_TK))

/-- A PLACE event that posts slot 105 (R353). -/
def State.leaseEvt (s : State) (f : Fld) : State :=
  let s := s.raise pPLACE f
  s.postGlobal 105 2 false (s.rd pPLACE PLACE.TASK_LEASE_ENTRY.off).toNat (s.fld pPLACE ⟨0x10, 0, 16⟩)

/-! ### The worker's side (R345-R347) -/

/-- The highest Rp value whose default power a grant covers (R347). -/
def rpFor (grant : Nat) : Nat := if 1500 ≤ grant then 2 else if 750 ≤ grant then 1 else 0

/-- Firmware keeps an unplaced port that has a source path out of the source states, and gives them back when it is placed again (R340, R347). -/
def State.holdPort (s : State) (n : Port) (hold : Bool) : State :=
  let pg := pCC n
  if hold && s.inf (pGUARD n) GUARD.CFG_SRC_EN == 1 then
    if s.fld pg CC.CFG_ROLE = 2 ∨ (s.own n).wasDrp then
      if (s.own n).held then s
      else (s.put pg CC.CFG_ROLE 0).modOwn n fun o => { o with held := true, wasDrp := true }
    else if s.fld pg CC.CFG_ROLE = 1 then (s.put pg PG.CTRL_ENABLE 0).modOwn n fun o => { o with held := true }
    else s
  else if (s.own n).held then
    let s := if (s.own n).wasDrp then s.put pg CC.CFG_ROLE 2 else s.put pg PG.CTRL_ENABLE 1
    s.modOwn n fun o => { o with held := false, wasDrp := false }
  else s

/-- A grant reaches an own port (R345-R347): a CUT, SHED or OFF sets the limit at once, SHED lowers Rp, OFF disables the port; the renegotiation waits
for the start tick. -/
def State.takeGrant (s : State) (n : Port) (grant floor start kind seq : Nat) (changed : Bool) : State :=
  let o := s.own n
  let cut := decide (3 ≤ kind)
  let fresh := changed || kind != o.kind
  let dec := decide (2 ≤ kind) && fresh
  let s := s.modOwn n fun o => { o with
    grant := grant, floor := floor, start := start, kind := kind, seq := seq
    todo := fresh && decide (1 ≤ kind) || (o.todo && !fresh)
    pend := dec || (o.pend && kind != 1 && !(kind == 0 && fresh))
    limitSet := o.limitSet && !(cut && fresh)
    lowSeen := o.lowSeen && !dec }
  let s := if cut && fresh then s.writeIlim n else s
  let s := if kind = 4 ∧ fresh then s.put (pCC n) CC.CFG_RP (rpFor grant) else s
  if kind = 5 then (if fresh then (s.put (pCC n) PG.CTRL_ENABLE 0).modOwn n fun o => { o with held := true } else s)
  else s.holdPort n (grant == 0 && kind == 0)

/-- The renegotiation that a start tick allows (R346, R347, R349). -/
def State.startGrant (s : State) (n : Port) : State :=
  let o := s.own n
  let s := s.followLimit n
  if !o.todo || !s.tkCome o.start then s
  else
    let s := s.modOwn n fun o => { o with todo := false }
    match o.kind with
    | 5 => s
    | 4 => if s.ccState n = .attachedSrc then s.hardResetStart n else s
    | _ =>
      let s := s.modOwn n fun o => { o with limited := true }
      if s.ccState n = .attachedSrc ∧ s.guardState n = 3 ∧ !s.transRuns n ∧ !s.snapTrans n then s.advertise n
      else s.modOwn n fun o => { o with todo := s.ccState n == .attachedSrc }

/-- The grant of an own port counts as confirmed (R345). -/
def State.confirmed (s : State) (n : Port) : Bool :=
  let o := s.own n
  if !o.pend then true
  else match o.kind with
    | 5 => s.ccState n == .disabled && s.vbusLow n
    | 4 => o.limitSet
    | 3 => o.limitSet
    | _ => (s.snapValid n && !s.snapTrans n && decide (s.snapPmax n ≤ o.grant)) || ((o.lowSeen || s.vbusLow n) && decide (s.ownD n ≤ o.grant))

/-- Firmware takes note of a confirmation. -/
def State.ackOwn (s : State) (n : Port) : State :=
  if s.confirmed n then s.modOwn n fun o => { o with ack := o.grant, ackSeq := o.seq, pend := false } else s

/-- Limits written before a tick boundary are in force after it (R346, R15); a VBUS at or below 0.8 V since the grant is noted (R345). -/
def State.limitTick (s : State) : State :=
  s.forPorts fun s n =>
    let s := if s.vbusLow n then s.modOwn n fun o => { o with lowSeen := true } else s
    if (s.own n).limited && s.inf (pGUARD n) GUARD.ILIM_LIMIT == s.fld (pGUARD n) GUARD.ILIM_LIMIT then
    s.modOwn n fun o => { o with limitSet := true } else s

/-- The placing device takes a confirmation, or a port's idle state, into its ledger (R342, R345). A COMMIT below D rises only at a run, which sees that the ledger
holds. -/
def State.ledgerConfirm (s : State) (i ack ackSeq : Nat) (attached low : Bool) : State :=
  if !attached && low then
    let d := s.portD i
    let c := if (s.led i).kind = 5 then s.recGrant i else d
    let s := if s.recCommit i < c ∨ (s.recCommit i = c ∧ s.recGrant i = c) then s else s.recLedger i c c 1
    s.modLed i fun l => { l with pend := false }
  else if ack = s.recGrant i ∧ ackSeq = s.place.seq % 256 ∧ (s.led i).pend then
    (s.recLedger i ack ack (if attached then 2 else 1)).modLed i fun l => { l with pend := false }
  else s

/-- The lease timer is reloaded by a GRANT from the acting manager (R352, R353). -/
def State.leaseReload (s : State) (seq : Nat) : State :=
  let was := s.fld pPLACE PLACE.LEASE_STAT_STATE
  let s := ((s.put pPLACE PLACE.LEASE_STAT_LEFT_TK s.leaseTk).put pPLACE PLACE.LEASE_STAT_SEQ seq).put pPLACE PLACE.LEASE_STAT_STATE 0
  let s := s.modPlace fun p => { p with since := 0, leaseOn := true }
  if 2 ≤ was then s.leaseEvt PLACE.PG_EVT_LEASE_RESTORED else s

/-- The lease timer of a WORKER or STANDBY device counts a tick (R352). -/
def State.leaseTick (s : State) : State :=
  if s.places then s
  else
    let left := s.fld pPLACE PLACE.LEASE_STAT_LEFT_TK
    (s.put pPLACE PLACE.LEASE_STAT_LEFT_TK (left - 1)).modPlace fun p => { p with since := p.since + 1 }

/-- Placement at a tick boundary: the lease timer (R352), READY of the standby's mirror (R334), the run slot (R343). -/
def State.placeTick (s : State) : State :=
  let s := s.limitTick
  let s := s.putB pPLACE PLACE.PG_STAT_PLACING s.places
  let s := s.leaseTick
  let s := if s.fld pFLEET FLEET.STBY_STAT_READY = 1 ∧ s.place.mirTick + 400 < s.tick then s.put pFLEET FLEET.STBY_STAT_READY 0 else s
  let periodic := s.tick % 200 == 0 && s.flag pPLACE PLACE.CFG_RUN_EN
  if s.places && (periodic || s.place.cmdRun) then
    let kind := if periodic then 1 else if s.place.cutPools.isEmpty then 3 else 2
    let s := s.modPlace fun p => { p with cmdRun := false, due := some kind }
    let s := s.raiseIf (s.fld pPLACE PLACE.TASK_RUN_ENTRY != 0) pPLACE PLACE.PG_EVT_PERIOD
    s.postGlobal 104 3 false (s.rd pPLACE PLACE.TASK_RUN_ENTRY.off).toNat (s.fld pPLACE ⟨0x10, 0, 16⟩)
  else s

/-- A takeover of the fleet: each mirrored COMMIT counts as COMMIT and GRANT, nothing is pending, and the first run grants no increase (R357). -/
def State.placeTakeover (s : State) : State :=
  let s := s.placed.foldl (init := s) fun s i => s.recLedger i (s.recCommit i) (s.recCommit i) 2
  (s.put pPLACE PLACE.LEASE_STAT_STATE 0).modPlace fun p => { p with leds := p.leds.map fun l => { l with pend := false }, noIncAll := true }

end Sys2Proof.Machine
end

