-- ==== Sys2Proof/Machine/Place.lean ====
section
/-!
DEFINITION. Placement, leases and the ledger (chapter 14): the run, grants and contracts, demand and telemetry, lease states, the standby's
mirror, the record windows, energy accounts.
-/

namespace Sys2Proof.Machine

/-! ### Runs (R343-R349) -/

/-- `PLACE.CMD.RUN`. -/
def State.placeRun (s : State) : State := if s.places then s.modPlace fun p => { p with cmdRun := true } else s

/-- PLACE_CMD_RUN. -/
def execPlaceCmdRun (key : BitVec 16) (s : State) : Host.Outcome State Fault Refusal :=
  .next (s.keyCmd pPLACE key.toNat 0x91D4 State.placeRun)

/-- Group of a changed port in the numbering of R349: OFF and SHED, CUT, DEC, INC. -/
def renegGroup (kind : Nat) : Nat := if 4 ≤ kind then 0 else if kind = 3 then 1 else if kind = 2 then 2 else 3

/-- Order of changed ports (R349). -/
def State.renegBefore (s : State) (a b : Nat) : Bool :=
  let ga := renegGroup (s.led a).kind
  let gb := renegGroup (s.led b).kind
  let pa := s.recPrio a
  let pb := s.recPrio b
  decide (ga < gb) || (ga == gb && ((if ga = 0 then decide (pa < pb) else decide (pb < pa)) || (pa == pb && decide (a < b))))

/-- `RENEG_TK` as it acts: 1-16. -/
def State.renegTk (s : State) : Nat := max 1 (min 16 (s.fld pPLACE PLACE.CFG_RENEG_TK))

/-- The ports whose grant changed in this run, in the order of R349, get their start ticks. -/
def State.numberChanged (s : State) : State × List Nat :=
  let changed := s.placed.filter fun i => s.recGrant i != (s.led i).sent
  let order := sortBy s.renegBefore changed
  let s' := ((List.range order.length).zip order).foldl (init := s) fun t c =>
    t.modLed c.2 fun l => { l with start := (s.tick + 4 + c.1 / s.renegTk) % 65536 }
  (s', order)

/-- The GRANT entry of a port (Table 14.2). -/
def State.grantEntry (s : State) (i : Nat) (changed : Bool) : List Byte :=
  if s.recPlaced i then
    leBytes 2 (s.recGrant i) ++ leBytes 2 (s.recFloor i) ++ leBytes 2 (s.led i).start ++
      leBytes 1 ((s.led i).kind + 8 * changed.toNat) ++ leBytes 1 s.place.seq
  else leBytes 7 0 ++ leBytes 1 s.place.seq

/-- Nodes of a map, without this one. -/
def State.otherNodes (s : State) : List Nat := (List.range 64).filter fun k => k != s.node && s.mapBit pFLEET FLEET.ENUM_MAP_NODES k

/-- PLACEMENT_RUN (R344): targets, the ledger step, GRANT frames to every other node, the own ports' grants. A cut run works on the affected
pools only. -/
def execPlacementRun (s : State) : Host.Outcome State Fault Refusal :=
  match s.place.due with
  | none => .next s
  | some kind =>
    if !s.fw || !s.places then .next s
    else
      let pools := if kind = 2 then s.place.cutPools else List.range 16
      let s := s.modPlace fun p => { p with seq := (p.seq + 1) % 256, runs := p.runs + 1 }
      let back := fun (p : Nat) => (s.placed.filter fun i => s.recPool i == p).any fun i => (s.nodeLed (i / 8)).noInc
      let rebuilt := pools.any fun p => (s.poolPorts p).any fun i => !s.recOk (recAt i)
      let s := pools.foldl (init := s) fun t p => t.ledgerStep p fun _ => s.place.noIncAll || back p
      let cut := pools.any fun p => bitAt (s.recWord (poolAt p) 3) 27
      let shed := s.placed.any fun i => 4 ≤ (s.led i).kind
      let r := s.numberChanged
      let changed := r.2
      let s := r.1
      let ent := fun (t : State) (k n : Nat) => t.grantEntry (8 * k + n) (changed.contains (8 * k + n))
      let nodes := s.otherNodes
      let s := ((List.range nodes.length).zip nodes).foldl (init := s) fun t c =>
        let t := t.sendEngine c.1 7 false c.2 0 0 ((List.range 8).flatMap (ent t c.2))
        t.modNode c.2 fun l => { l with last := t.tick, noInc := false }
      let s := s.forPorts fun t n =>
        let i := 8 * t.node + n.val
        if t.recPlaced i then
          t.takeGrant n (t.recGrant i) (t.recFloor i) (t.led i).start (t.led i).kind t.place.seq (changed.contains i)
        else t.takeGrant n 0 0 0 0 t.place.seq false
      let s := changed.foldl (init := s) fun t i => t.modLed i fun l => { l with sent := t.recGrant i }
      let s := if kind = 1 then s.placed.foldl (init := s) fun t i =>
          t.recSet (recAt i) 3 24 8 (if i / 8 = t.node then 0 else min 255 (bitsOf (t.recWord (recAt i) 3) 24 8 + 1)) else s
      let s := ((s.put pPLACE PLACE.RUN_STAT_RUN_TICK s.tick).put pPLACE PLACE.RUN_STAT_KIND kind).put pPLACE PLACE.RUN_STAT_CHANGED changed.length
      let s := s.modPlace fun p => { p with due := none, cutPools := [], noIncAll := p.noIncAll && kind == 2 }
      let s := s.raise pPLACE PLACE.PG_EVT_RUN_DONE
      let s := (s.raiseIf cut pPLACE PLACE.PG_EVT_CUT).raiseIf shed pPLACE PLACE.PG_EVT_SHED
      .next (s.raiseIf rebuilt pPLACE PLACE.PG_EVT_LEDGER_REBUILT)

/-! ### Grants at the worker (R345-R347, R352-R354) -/

/-- A GRANT frame goes into the receive queue and its slot is posted (R333); from the acting manager it renews the lease (R352). -/
def execGrantReceive (s : State) : Host.Outcome State Fault Refusal :=
  .next (s.withFrame (fun f => frType f.bytes == 7) fun f s =>
    let s := if frSrc f.bytes = s.fld pFLEET FLEET.NODES_MGR && !s.places then s.leaseReload (byteAt (frPayload f.bytes) 7) else s
    s.rxqPut f 97 2 0x70)

/-- The entries of a GRANT payload reach the own ports. -/
def State.takeGrants (s : State) (p : List Byte) : State :=
  s.forPorts fun s n =>
    let b := 8 * n.val
    s.takeGrant n (numAt p b 2) (numAt p (b + 2) 2) (numAt p (b + 4) 2) (bitsOf (byteAt p (b + 6)) 0 3) (byteAt p (b + 7)) (bitAt (byteAt p (b + 6)) 3)

/-- GRANT_APPLY: with a receive entry, the GRANT it holds is taken (R346, R347); in every case the renegotiations whose start tick has come
are started. -/
def execGrantApply (entry : Option (Fin 64)) (s : State) : Host.Outcome State Fault Refusal :=
  .next (s.policy fun s =>
    let s := match entry with
      | some i =>
        let s := s.stNote 5 (rxfAt i.val) 512
        if s.rxType i.val = 7 ∧ s.stChecks (rxfAt i.val) 512 ∧ !s.places then (s.takeGrants (s.rxPayload i.val)).rxRelease i.val else s
      | none => s
    s.forPorts State.startGrant)

/-- DEC_CONFIRM_TIMEOUT (R346): `CONFIRM_TK` after the start tick the decrease is not confirmed. -/
def execDecConfirmTimeout (n : Port) (s : State) : Host.Outcome State Fault Refusal :=
  .next (s.policy fun s =>
    let o := s.own n
    if o.pend ∧ o.kind = 2 ∧ !s.confirmed n ∧ s.tkCome (o.start + s.confirmTk) then s.hardResetStart n else s)

/-- The CONTRACT entry of a port (Table 14.3). -/
def State.contractEntry (s : State) (n : Port) : List Byte :=
  let o := s.own n
  let att := s.flag (pCC n) CC.PG_STAT_ATTACHED
  let pmax := if s.snapValid n then s.snapPmax n else if att then s.ownD n else 0
  let flags := att.toNat + 2 * (s.explicit n).toNat + 4 * (s.snapValid n && s.snapTrans n).toNat + 8 * o.limitSet.toNat +
    16 * (s.vbusLow n).toNat + 32 * (s.port n).fw.mism.toNat + 64 * s.fld pPLACE PLACE.CFG_HOLD + 128 * (s.twinned n).toNat
  leBytes 2 pmax ++ leBytes 2 o.ack ++ leBytes 1 o.ackSeq ++ leBytes 1 flags

/-- The CONTRACT payload (R350). -/
def State.contractPayload (s : State) : List Byte :=
  allPorts.flatMap s.contractEntry ++
    leBytes 4 (if s.part.x then s.fld pMAINS MAINS.BUDGET_POWER + 65536 * s.fld pMAINS MAINS.POOL_CFG_POOL + 2 ^ 20 * s.fld pMAINS MAINS.POOL_CFG_ENABLE else 0)

/-- CONTRACT_SEND (R350): firmware notes its confirmations; a worker sends CONTRACT when its period has come (`periodic`) or a field has
changed, a placing device enters its own ports' confirmations in its ledger. -/
def execContractSend (periodic : Bool) (s : State) : Host.Outcome State Fault Refusal :=
  .next (s.policy fun s =>
    let s := s.forPorts State.ackOwn
    if s.places then
      s.forPorts fun s n =>
        let i := 8 * s.node + n.val
        if s.recPlaced i then s.ledgerConfirm i (s.own n).ack (s.own n).ackSeq (s.portAttached i) (s.vbusLow n) else s
    else
      let p := s.contractPayload
      if periodic || p != s.place.contract then
        (s.sendEngine 62 8 false (s.fld pFLEET FLEET.NODES_MGR) 0 0 p).modPlace fun q => { q with contract := p }
      else s)

/-- A CONTRACT entry at the placing device. -/
def State.contractTake (s : State) (i : Nat) (p : List Byte) (back : Bool) : State :=
  let pmax := numAt p 0 2
  let ack := numAt p 2 2
  let fl := byteAt p 5
  let att := bitAt fl 0
  let s := s.modLed i fun l => { l with attached := att, twin := if !bitAt fl 7 then 0 else if att then 1 else 2 }
  let s := if att && !bitAt fl 1 then s.recSet (recAt i) 4 0 16 pmax else s
  let s := s.recSet (recAt i) 3 24 8 0
  if !s.recPlaced i then s
  else if (s.led i).rebuild then
    (s.recLedger i (s.recGrant i) (max (max ack pmax) (s.portD i)) 2).modLed i fun l => { l with rebuild := false }
  else if back then s.recLedger i (s.recGrant i) (max (max ack pmax) (s.recCommit i)) 2
  else s.ledgerConfirm i ack (byteAt p 4) att (bitAt fl 4)

/-- CONTRACT_RECEIVE (R345, R355): the CONTRACT in a receive entry; a pool whose bound fell gets a cut run (R343). -/
def execContractReceive (entry : Fin 64) (s : State) : Host.Outcome State Fault Refusal :=
  .next (s.policy fun s =>
    let s := s.stNote 5 (rxfAt entry.val) 512
    if s.rxType entry.val ≠ 8 ∨ !s.stChecks (rxfAt entry.val) 512 ∨ !s.places then s
    else
      let k := s.rxSrc entry.val
      let p := s.rxPayload entry.val
      let back := (s.nodeLed k).orphanAt.isSome
      let s := if back then
          let s := (s.raise pPLACE PLACE.PG_EVT_NODE_BACK).setMapBit pPLACE PLACE.ORPHANS_NODES k false
          s.modNode k fun l => { l with orphanAt := none, released := false, noInc := true }
        else s
      let m := numAt p 48 4
      let s := s.modNode k fun l => { l with
        hold := bitAt (byteAt p 5) 6
        bound := if bitAt m 20 then some (bitsOf m 16 4, bitsOf m 0 16) else none }
      let s := (List.range 8).foldl (init := s) fun s n => s.contractTake (8 * k + n) ((p.drop (6 * n)).take 6) back
      s.cutCheck.rxRelease entry.val)

/-! ### Demand and telemetry (R341, R351, R371) -/

/-- Store offset of the telemetry record of tick `t` and port `n` (R22). -/
def telAt (t : Nat) (n : Port) : Nat := 0x20000 + 16 * (8 * (t % 2048) + n.val)

/-- A fresh record of tick `t` that checks. -/
def State.telFresh (s : State) (t : Nat) (n : Port) : Bool :=
  s.stNat (telAt t n) 2 == t % 65536 && s.stChecks (telAt t n) 16

/-- The ticks whose records stand for the last `k` ticks, newest first (R23): a record that fails its checks gives way to the next tick's, and a slot that was not written in its tick stands for none. -/
def State.telTicks (s : State) (n : Port) (k : Nat) : List Nat :=
  ((List.range k).map fun j => s.tick - 1 - j).filterMap fun t =>
    if s.telFresh t n then some t
    else if !s.stChecks (telAt t n) 16 && decide (t + 1 < s.tick) && s.telFresh (t + 1) n then some (t + 1)
    else none

/-- An engine has read a port's records of the last `k` ticks; parity errors among them are found (R23, R146). -/
def State.telNote (s : State) (n : Port) (k : Nat) : State :=
  (List.range k).foldl (fun s j => s.stNote 5 (telAt (s.tick - 1 - j) n) 16) s

/-- Power of a telemetry record, 10 mW per LSB. -/
def State.telPower (s : State) (t : Nat) (n : Port) : Nat := (s.stNat (telAt t n + 2) 2 * (max 0 (signed 16 (s.stNat (telAt t n + 6) 2))).toNat) / 50

/-- Demand of a source port (R341): the last Request's operating power, the ceiling after Capability Mismatch, and at least the largest
tick-mean power of the last 50 ticks with its headroom. -/
def State.demandOf (s : State) (n : Port) (ceil : Nat) : Nat :=
  if s.ccState n ≠ .attachedSrc then 0
  else
    let base := if (s.port n).fw.mism then ceil else if s.snapValid n then s.snapV n * s.snapI n / 50 else s.ownD n
    let ts := (s.telTicks n 50).filter fun t => s.stNat (telAt t n + 13) 1 == s.gen n
    let top := (ts.map fun t => s.telPower t n).foldl max 0
    if 50 ≤ ts.length then max base (top * (100 + s.fld pPLACE PLACE.CFG_DEM_HEAD) / 100) else base

/-- DEMAND_COMPUTE (R341). `soc`: state of charge as a port's sink answered Get_Battery_Status in this round, in percent. A worker does not
hold its ports' ceilings: it takes the power of the largest object it advertised (log entry 51). -/
def execDemandCompute (soc : List (Fin 8 × Nat)) (s : State) : Host.Outcome State Fault Refusal :=
  .next (s.policy fun s =>
    let s := soc.foldl (init := s) fun s c => s.modPlace fun p => { p with soc := p.soc.set c.1.val (min c.2 255) c.1.isLt }
    s.forPorts fun s n =>
      let i := 8 * s.node + n.val
      let ceil := if s.places then s.recCeil i else
        ((s.port n).fw.caps.map fun c => (mkOpt c.1 c.2 (objRange c.2.toNat).2).p).foldl max (s.ownD n)
      let d := min 65535 (s.demandOf n ceil)
      let s := s.telNote n 50
      let s := s.modPlace fun p => { p with demand := p.demand.set n.val d n.isLt }
      if s.places && s.recPlaced i then s.recSet (recAt i) 3 0 16 d else s)

/-- The TELEM entry of a port (Table 14.4), over the 8 ticks before this one. -/
def State.telemEntry (s : State) (n : Port) : List Byte :=
  let ts := s.telTicks n 8
  let w := fun (t o : Nat) => s.stNat (telAt t n + o) 2
  let mean := (ts.map fun t => signed 16 (w t 6)).foldl (· + ·) 0
  let k := max 1 ts.length
  let tf := (ts.map fun t => signed 16 (w t 10)).foldl max (-32768)
  let acc := s.fld pENGY (ENGY.ACC_OUT_LO_ACC.at (4 * n.val)) + 2 ^ 32 * s.fld pENGY (ENGY.ACC_OUT_HI_ACC.at (4 * n.val))
  leBytes 2 ((ts.map fun t => w t 2).foldl (· + ·) 0 / k) ++ leBytes 2 (unsigned 16 (mean / (k : Int))) ++
    leBytes 2 ((ts.map fun t => w t 8).foldl max 0) ++ leBytes 2 (unsigned 16 tf) ++ leBytes 2 (s.place.demand.get n) ++
    leBytes 1 (s.guardState n + 8 * s.fld (pGUARD n) GUARD.PG_STAT_THERM + 32 * s.fld (pCC n) CC.PG_STAT_ATTACHED +
      64 * s.fld (pCC n) CC.PG_STAT_SOURCE + 128 * (s.port n).fw.mism.toNat) ++
    leBytes 1 (s.place.soc.get n) ++ leBytes 4 (acc - s.place.lastOut.get n)

/-- TELEM_SEND (R351): at the end of a group of 8 ticks. -/
def execTelemSend (s : State) : Host.Outcome State Fault Refusal :=
  .next (s.policy fun s =>
    if s.places || !s.assigned || s.flag pFLEET FLEET.PG_STAT_IDX_CONFLICT then s
    else
      let s := s.sendEngine 63 6 false (s.fld pFLEET FLEET.NODES_MGR) 0 0 (allPorts.flatMap s.telemEntry)
      let s := s.forPorts fun s n => s.telNote n 8
      s.forPorts fun s n =>
        let acc := s.fld pENGY (ENGY.ACC_OUT_LO_ACC.at (4 * n.val)) + 2 ^ 32 * s.fld pENGY (ENGY.ACC_OUT_HI_ACC.at (4 * n.val))
        s.modPlace fun p => { p with lastOut := p.lastOut.set n.val acc n.isLt })

/-- Packed decimal: one digit per 4 bits, `k` digits. -/
def packedDec : Nat → Nat → Nat
  | 0, _ => 0
  | k + 1, v => v % 10 + 16 * packedDec k (v / 10)

/-- Energy in 0.0001 Wh of an accumulator of 10 nJ (R370), at most ten digits. -/
def energyDigits (acc : Nat) : Nat := min (acc / 36000000) 9999999999

/-- Add to an entry of the fleet energy table (R371). -/
def State.energyAdd (s : State) (i e : Nat) : State :=
  let a := 0x90000 + 16 * (i % 512)
  let sum := (s.stNat a 8 + e) % 2 ^ 64
  s.stRecord a (leBytes 8 sum ++ leBytes 5 (packedDec 10 (energyDigits sum)) ++ leBytes 1 0)

/-- TELEM_RECEIVE: the TELEM in a receive entry; its demands and states enter the records, its energies the fleet table (R371). -/
def execTelemReceive (entry : Fin 64) (s : State) : Host.Outcome State Fault Refusal :=
  .next (s.policy fun s =>
    let s := s.stNote 5 (rxfAt entry.val) 512
    if s.rxType entry.val ≠ 6 ∨ !s.stChecks (rxfAt entry.val) 512 ∨ !s.places then s
    else
      let k := s.rxSrc entry.val
      let p := s.rxPayload entry.val
      let s := (List.range 8).foldl (init := s) fun s n =>
        let i := 8 * k + n
        let b := 16 * n
        let soc := byteAt p (b + 11)
        let s := s.modLed i fun l => { l with
          therm := bitsOf (byteAt p (b + 10)) 3 2
          lowBat := decide (soc < s.fld pPLACE PLACE.CFG_LOWBAT_PCT) }
        let s := if s.recPlaced i then s.recSet (recAt i) 3 0 16 (numAt p (b + 8) 2) else s
        s.energyAdd i (numAt p (b + 12) 4)
      s.rxRelease entry.val)

/-! ### Lease states (R353-R355) -/

/-- No tick counts the slow clock here: the engine clock is stopped while AON runs (R25). -/
def State.slowOnly (s : State) : Bool := !s.flag pCLK CLK.PG_STAT_RUNNING && (s.live || s.phase == .warm)

/-- LEASE_RENEWING: no GRANT for 220 ticks. -/
def execLeaseRenewing (s : State) : Host.Outcome State Fault Refusal :=
  .next (if s.fld pPLACE PLACE.LEASE_STAT_STATE = 0 ∧ s.place.leaseOn ∧ (220 ≤ s.place.since ∨ s.slowOnly) ∧ !s.places then
      s.put pPLACE PLACE.LEASE_STAT_STATE 1 else s)

/-- LEASE_EXPIRE: the timer, which runs from the slow clock (R25, R352), has reached 0. While the engine clock is stopped the command tells it. -/
def execLeaseExpire (s : State) : Host.Outcome State Fault Refusal :=
  .next (if s.fld pPLACE PLACE.LEASE_STAT_STATE ≤ 1 ∧ s.place.leaseOn ∧ (s.fld pPLACE PLACE.LEASE_STAT_LEFT_TK = 0 ∨ s.slowOnly) ∧ !s.places then
      (((s.put pPLACE PLACE.LEASE_STAT_STATE 2).put pPLACE PLACE.LEASE_STAT_LEFT_TK 0).modPlace fun p => { p with leaseOn := false, expiredAt := s.tick }).leaseEvt PLACE.PG_EVT_LEASE_EXPIRED
    else s)

/-- `PLACE.CMD.FLOOR_DONE`: ORPHAN to FLOOR; ignored in other states. -/
def State.floorDone (s : State) : State :=
  if s.fld pPLACE PLACE.LEASE_STAT_STATE = 2 then s.put pPLACE PLACE.LEASE_STAT_STATE 3 else s

/-- ORPHAN_DECAY (R354): in ORPHAN without `HOLD`, each port above its floor takes a DEC grant to it, port n from the tick of expiry + n; when
every port is at its floor and confirmed, firmware writes FLOOR_DONE. -/
def execOrphanDecay (s : State) : Host.Outcome State Fault Refusal :=
  .next (s.policy fun s =>
    if s.fld pPLACE PLACE.LEASE_STAT_STATE ≠ 2 ∨ s.flag pPLACE PLACE.CFG_HOLD then s
    else
      let over_ := allPorts.any fun n => (s.own n).floor < (s.own n).grant
      let s := s.forPorts fun s n =>
        let o := s.own n
        if o.floor < o.grant then s.takeGrant n o.floor o.floor ((s.place.expiredAt + n.val) % 65536) 2 o.seq true else s
      if !over_ && !(allPorts.any fun n => (s.own n).pend && !s.confirmed n) then s.floorDone else s)

/-- PLACE_CMD_FLOOR_DONE. -/
def execPlaceCmdFloorDone (key : BitVec 16) (s : State) : Host.Outcome State Fault Refusal :=
  .next (s.keyCmd pPLACE key.toNat 0x91D4 State.floorDone)

/-- NODE_ORPHANED (R355): the lease of a node counts as expired `LEASE_TK` + 2 ticks after the last GRANT sent to it. -/
def execNodeOrphaned (node : Fin 64) (s : State) : Host.Outcome State Fault Refusal :=
  .next (s.policy fun s =>
    let l := s.nodeLed node.val
    if s.places ∧ l.orphanAt.isNone ∧ 0 < l.last ∧ l.last + s.leaseTk + 2 ≤ s.tick then
      let s := s.modNode node.val fun l => { l with orphanAt := some s.tick }
      (s.raise pPLACE PLACE.PG_EVT_NODE_ORPHANED).setMapBit pPLACE PLACE.ORPHANS_NODES node.val true
    else s)

/-- NODE_COMMIT_RELEASE (R355): without `HOLD`, `CONFIRM_TK` + 3,000 ticks after expiry, each COMMIT becomes the port's floor, or D when
unattached. -/
def execNodeCommitRelease (node : Fin 64) (s : State) : Host.Outcome State Fault Refusal :=
  .next (s.policy fun s =>
    let l := s.nodeLed node.val
    match l.orphanAt with
    | none => s
    | some t =>
      if l.hold || l.released || decide (s.tick < t + s.confirmTk + 3000) then s
      else
        let s := s.modNode node.val fun l => { l with released := true }
        (List.range 8).foldl (init := s) fun s n =>
          let i := 8 * node.val + n
          if s.recPlaced i then
            (s.recLedger i (s.recGrant i) (if s.portAttached i then s.recFloor i else s.portD i) 7).modLed i fun l => { l with pend := false }
          else s)

/-! ### The standby and the ledger (R356-R358) -/

/-- The node that receives the mirror: the deferred manager during a hand-back, else the standby. -/
def State.mirrorTo (s : State) : Option Nat :=
  match s.fleet.handback, s.fleet.returned with
  | some _, some m => some m
  | _, _ => if s.fld pFLEET FLEET.NODES_STBY = 0x7F then none else some (s.fld pFLEET FLEET.NODES_STBY)

/-- LEDGER_MIRROR_SEND (R356): eight MIRROR frames, and each record written since in a STORE_XFER frame (its store offset, then its 32 bytes:
log entry 52). -/
def execLedgerMirrorSend (s : State) : Host.Outcome State Fault Refusal :=
  .next (s.policy fun s =>
    if s.acting != .manager || s.role = .solo then s
    else match s.mirrorTo with
      | none => s
      | some m =>
        let s := (List.range 8).foldl (init := s) fun s q =>
          s.sendEngine (40 + q) 0xD false m 0 0 (leBytes 1 0 ++ leBytes 1 q ++ leBytes 2 0 ++ leBytes 4 s.place.runs ++
            ((List.range 64).flatMap fun k => leBytes 2 (s.recCommit (64 * q + k))))
        let s := s.place.dirty.foldl (init := s) fun s a => s.sendEngine 48 0xA false m 0 0 (leBytes 4 a ++ s.stRead a 32)
        s.modPlace fun p => { p with dirty := [] })

/-- LEDGER_RECEIVE (R356, R366): the LEDGER in a receive entry: MIRROR parts set the records' COMMIT and READY; a PAIR frame from TIE is
kept at store offset 0x6_8000 for the host (log entry 53). -/
def execLedgerReceive (entry : Fin 64) (s : State) : Host.Outcome State Fault Refusal :=
  .next (s.policy fun s =>
    let s := s.stNote 5 (rxfAt entry.val) 512
    if s.rxType entry.val = 0xA ∧ s.stChecks (rxfAt entry.val) 512 ∧ s.rxVia entry.val ≠ 2 then
      let p := s.rxPayload entry.val
      let a := numAt p 0 4
      (if 0x60000 ≤ a ∧ a < 0x64200 ∧ a % 32 = 0 then s.stWrite a ((p.drop 4).take 32) else s).rxRelease entry.val
    else if s.rxType entry.val ≠ 0xD ∨ !s.stChecks (rxfAt entry.val) 512 then s
    else
      let p := s.rxPayload entry.val
      let s :=
        if byteAt p 0 = 1 then s.stWrite 0x68000 (leBytes 2 p.length ++ leBytes 2 0 ++ p)
        else if s.places then s
        else
          let q := byteAt p 1 % 8
          let run := numAt p 4 4
          let s := (List.range 64).foldl (init := s) fun s k =>
            let i := 64 * q + k
            let c := numAt p (8 + 2 * k) 2
            if s.recCommit i = c then s else s.recSet (recAt i) 2 16 16 c
          let pl := s.place
          let fresh := run != pl.mirRun
          let mask := (if fresh then 0 else pl.mirMask) ||| 2 ^ q
          let done := if fresh then (if pl.mirMask = 255 then pl.mirDone else 0) else pl.mirDone
          let done := if mask = 255 ∧ (fresh ∨ pl.mirMask ≠ 255) then done + 1 else done
          let s := s.modPlace fun p => { p with mirRun := run, mirMask := mask, mirDone := done, mirTick := s.tick }
          s.putB pFLEET FLEET.STBY_STAT_READY (decide (2 ≤ done))
      s.rxRelease entry.val)

/-- LEDGER_REBUILD (R358): a port record that fails its check. `cfg`: the record's configuration words 0 and 1 from the image's configuration
copy, when there is one. A SOLO device takes COMMIT from the port's own state; a manager waits for the node's CONTRACT. -/
def execLedgerRebuild (rec : Fin 512) (cfg : Option (BitVec 32 × BitVec 32)) (s : State) : Host.Outcome State Fault Refusal :=
  .next (s.policy fun s =>
    let i := rec.val
    let a := recAt i
    if s.recOk a ∨ !s.places then s
    else
      let s := (s.stNote 5 a 32).raise pPLACE PLACE.PG_EVT_LEDGER_REBUILT
      match cfg with
      | none => s
      | some (w0, w1) =>
        let n : Port := Fin.ofNat 8 i
        let own := i / 8 == s.node
        let commit := if own then max (max (if s.snapValid n then s.snapPmax n else 0) (s.own n).grant) (s.ownD n) else bitsOf (s.recWord a 2) 16 16
        let grant := if own then (s.own n).grant else bitsOf (s.recWord a 2) 0 16
        let s := s.stWrite a (leBytes 4 w0.toNat ++ leBytes 4 w1.toNat ++ leBytes 4 (grant + 65536 * commit) ++ leBytes 16 0)
        let s := s.recPut a 6 0
        if own then s else s.modLed i fun l => { l with rebuild := true })

/-! ### The record windows (R372) -/

/-- Load the port window from the record `PORT_SEL` names: 0x7F this device; 0x40-0x7E no record. -/
def State.portLoad (s : State) : State :=
  let k := s.fld pPLACE PLACE.PORT_SEL_NODE
  let node := if k = 0x7F then s.node else k
  let a := recAt (8 * node + s.fld pPLACE PLACE.PORT_SEL_PORT)
  let show_ := decide (node < 0x40)
  let ok := s.recOk a
  let s := if show_ then s.stNote 5 a 32 else s
  let s := s.raiseIf (show_ && !ok) pPLACE PLACE.PG_EVT_RECORD_BAD
  (List.range 4).foldl (init := s) fun t w => t.wr pPLACE (0x4C + 4 * w) (if show_ && ok then BitVec.ofNat 32 (s.recWord a w) else 0)

/-- Load the pool window; `POOL_EFF` is word 4 of the record (log entry 54). -/
def State.poolLoad (s : State) : State :=
  let a := poolAt (s.fld pPLACE PLACE.POOL_SEL_POOL)
  let ok := s.recOk a
  let s := s.stNote 5 a 32
  let s := s.raiseIf (!ok) pPLACE PLACE.PG_EVT_RECORD_BAD
  (List.range 5).foldl (init := s) fun t w => t.wr pPLACE (0x34 + 4 * w) (if ok then BitVec.ofNat 32 (s.recWord a w) else 0)

/-- A write to a window register goes through to its record with a fresh CRC. -/
def State.windowWrite (s : State) (off : Nat) (v : Word) : State :=
  if 0x34 ≤ off ∧ off ≤ 0x3C then
    let w := v.toNat % 2 ^ 20
    let s := s.wr pPLACE off (BitVec.ofNat 32 w)
    (s.recPut (poolAt (s.fld pPLACE PLACE.POOL_SEL_POOL)) ((off - 0x34) / 4) w).cutCheck
  else if off = 0x4C ∨ off = 0x50 then
    let k := s.fld pPLACE PLACE.PORT_SEL_NODE
    let node := if k = 0x7F then s.node else k
    if 0x40 ≤ node then s
    else
      let w := if off = 0x50 then v.toNat &&& 0x10F07 else v.toNat
      (s.wr pPLACE off (BitVec.ofNat 32 w)).recPut (recAt (8 * node + s.fld pPLACE PLACE.PORT_SEL_PORT)) ((off - 0x4C) / 4) w
  else s

/-- PORT_SEL_WRITE. -/
def execPortSelWrite (node : BitVec 7) (port : BitVec 3) (s : State) : Host.Outcome State Fault Refusal :=
  .next (s.cmd pPLACE fun s => ((s.put pPLACE PLACE.PORT_SEL_NODE node.toNat).put pPLACE PLACE.PORT_SEL_PORT port.toNat).portLoad)

/-- POOL_SEL_WRITE. -/
def execPoolSelWrite (pool : BitVec 4) (s : State) : Host.Outcome State Fault Refusal :=
  .next (s.cmd pPLACE fun s => (s.put pPLACE PLACE.POOL_SEL_POOL pool.toNat).poolLoad)

/-- PLACE_WINDOW_WRITE: a write of `POOL_BUDGET`, `POOL_RESERVE`, `POOL_DERATE`, `PORT_LIMITS` or `PORT_CLASS` (0-4). -/
def execPlaceWindowWrite (reg : Fin 5) (v : BitVec 32) (s : State) : Host.Outcome State Fault Refusal :=
  .next (s.cmd pPLACE fun s => s.windowWrite (if reg.val < 3 then 0x34 + 4 * reg.val else 0x4C + 4 * (reg.val - 3)) v)

/-! ### Energy accounts (R369, R370, R374) -/

/-- An energy accumulator. -/
def State.energyAcc (s : State) (n : Port) (lo : Fld) : Nat :=
  s.fld pENGY (lo.at (4 * n.val)) + 2 ^ 32 * s.fld pENGY ({ lo with off := lo.off + 4 }.at (4 * n.val))

/-- Set an energy accumulator, modulo 2^64. -/
def State.energyPut (s : State) (n : Port) (lo : Fld) (v : Nat) : State :=
  (s.put pENGY (lo.at (4 * n.val)) v).put pENGY ({ lo with off := lo.off + 4 }.at (4 * n.val)) (v / 2 ^ 32)

/-- Accumulators that a CLEAR asked for (R374). -/
def State.energyZero (s : State) : State :=
  if s.place.engyClear = 0 then s
  else
    let m := s.place.engyClear
    let s := s.forPorts fun s n =>
      if bitAt m n.val then (s.energyPut n ENGY.ACC_OUT_LO_ACC 0).energyPut n ENGY.ACC_IN_LO_ACC 0 else s
    (s.modPlace fun p => { p with engyClear := 0 }).raise pENGY ENGY.PG_EVT_CLEARED

/-- The energy of a tick (R369). A tick in which the measurement block is reset adds nothing. -/
def State.energyTick (s : State) : State :=
  s.forPorts fun s n =>
    if s.enabled (pMEAS n) && (s.port n).meas.on && !s.resetting (pMEAS n) then
      let p : Int := (s.fld (pMEAS n) MEAS.VBUS_AVG : Int) * signed 16 (s.fld (pMEAS n) MEAS.IBUS_AVG)
      if 0 < p then s.energyPut n ENGY.ACC_OUT_LO_ACC (s.energyAcc n ENGY.ACC_OUT_LO_ACC + p.natAbs)
      else if p < 0 then s.energyPut n ENGY.ACC_IN_LO_ACC (s.energyAcc n ENGY.ACC_IN_LO_ACC + p.natAbs)
      else s
    else s

/-- The conversion slot is posted every `CONV_TK` ticks (R370). -/
def State.energyPost (s : State) : State :=
  let k := max 20 (min 20000 (s.fld pENGY ENGY.CFG_CONV_TK))
  if s.tick % k = 0 then
    let s := s.raiseIf (s.fld pENGY ENGY.TASK_CONV_ENTRY != 0) pENGY ENGY.PG_EVT_CONV_DUE
    s.postGlobal 108 4 false (s.rd pENGY ENGY.TASK_CONV_ENTRY.off).toNat (s.fld pENGY ⟨0x10, 0, 16⟩)
  else s

/-- ENERGY_CONVERSION (R370): ⌊`ACC_OUT` / 36,000,000⌋ as ten packed-decimal digits, saturating. -/
def execEnergyConversion (s : State) : Host.Outcome State Fault Refusal :=
  .next (s.policy fun s =>
    let s := s.forPorts fun s n =>
      let acc := s.energyAcc n ENGY.ACC_OUT_LO_ACC
      let d := packedDec 10 (energyDigits acc)
      let s := s.raiseIf (decide (9999999999 < acc / 36000000)) pENGY ENGY.PG_EVT_DEC_OVF
      (s.put pENGY (ENGY.DEC_LO_DIGITS.at (2 * n.val)) d).put pENGY (ENGY.DEC_HI_DIGITS.at (2 * n.val)) (d / 2 ^ 32)
    s.put pENGY ENGY.CONV_STAT_TICK s.tick)

/-- `ENGY.CMD.CLEAR`. -/
def State.engyClearCmd (s : State) (ports : Nat) : State := s.modPlace fun p => { p with engyClear := p.engyClear ||| ports % 256 }

/-- ENGY_CMD_CLEAR. -/
def execEngyCmdClear (ports : BitVec 8) (key : BitVec 16) (s : State) : Host.Outcome State Fault Refusal :=
  .next (s.keyCmd pENGY key.toNat 0xE6A3 fun s => s.engyClearCmd ports.toNat)

end Sys2Proof.Machine
end

