-- ==== Sys2Proof/Machine/Twin.lean ====
section
/-!
DEFINITION. Twinned ports (chapter 14, R359-R366; R266, R310, R311): the frame between twins, the mirror, takeover, the choice of roles.
-/

namespace Sys2Proof.Machine

/-! ### The mirror (R361, Table 14.8) -/

/-- The mirrored contract is valid (byte 0 bit 3). -/
def State.mirValid (s : State) (n : Port) : Bool := bitAt (s.mirNat n 0 1) 3

/-- The partner's entry claims the pair (byte 1 bit 6). -/
def State.mirOwner (s : State) (n : Port) : Bool := bitAt (s.mirNat n 1 1) 6

/-- This device owns the pair. -/
def State.owning (s : State) (n : Port) : Bool := s.fld (pCC n) CC.PG_STAT_TWIN_MODE == 1

/-- `TWIN.MAP.PEER` of an own port. -/
def State.twinPeer (s : State) (n : Port) : Nat := bitsOf (s.fld pTWIN TWIN.MAP_PEER) (3 * n.val) 3

/-- The age of this device's claim of a pair (R360), saturating at 255. -/
def State.claimAge (s : State) (n : Port) : Nat :=
  match (s.tw n).claim with
  | some t => min 255 (s.tick - t)
  | none => 255

/-- The entry this device sends for a port (Table 14.8). A claim shows from the tick after its order (R363). -/
def State.twinEntry (s : State) (n : Port) : List Byte :=
  let owner := s.owning n && (s.tw n).claim != some s.tick
  let rp := s.ccRp n
  let info := n.val + 8 * (s.snapValid n).toNat + 16 * rp + 64 * s.fld (pCC n) CC.PG_STAT_POLARITY +
    128 * s.fld (pCC n) CC.PG_STAT_ATTACHED
  let guard := s.guardState n + 8 * s.fld (pGUARD n) GUARD.PG_STAT_THERM + 32 * s.fld (pPDL n) PDL.CFG_DATA_ROLE +
    64 * owner.toNat + 128 * s.fld pTWIN TWIN.CFG_HOT
  leBytes 1 info ++ leBytes 1 guard ++
    leBytes 1 (bitsOf (s.fld pTWIN (TWIN.POLSTATE_STATE.at (n.val / 4))) (8 * (n.val % 4)) 8) ++ leBytes 1 (s.claimAge n) ++
    leBytes 4 (s.rd (pPDL n) PDL.MSGID_TX_SOP.off).toNat ++
    leBytes 4 (s.snapWord n 1) ++ leBytes 4 (s.snapWord n 2) ++ leBytes 4 (s.snapWord n 0) ++ leBytes 4 (s.snapWord n 3) ++
    leBytes 2 (s.fld (pPOL n) POL.CONV_STAT_V_SET) ++ leBytes 2 (s.fld (pMEAS n) MEAS.IBUS_AVG) ++ leBytes 2 (s.own n).grant ++
    leBytes 2 s.tick

/-- TWIN_FRAME_SEND (R361): the slot-106 task sends one frame with an entry for each twinned port. -/
def execTwinFrameSend (s : State) : Host.Outcome State Fault Refusal :=
  .next (s.policy fun s =>
    if s.fld pTWIN TWIN.CFG_PORTS = 0 ∨ !s.linkUp 2 then s
    else s.sendEngine 61 0xC false 0x7F 2 0 ((allPorts.filter s.twinned).flatMap s.twinEntry))

/-- The block takes a mirror entry as a whole (R361); an entry older than 2 ticks is reported (Table 14.15). -/
def State.takeMir (s : State) (n : Port) (e : List Byte) : State :=
  let s := s.modTw n fun t => { t with mir := some e }
  let s := s.raiseIf (decide (2 < s.mirAge n)) pTWIN TWIN.PG_EVT_MIRROR_LATE
  let cc := pCC n
  let anew := !s.flag cc CC.SHADOW_WATCH_MIRRORED || s.fld cc CC.SHADOW_WATCH_ACTIVE != bitsOf (byteAt e 0) 6 1
  let s := (s.put cc CC.SHADOW_WATCH_ACTIVE (bitsOf (byteAt e 0) 6 1)).put cc CC.SHADOW_WATCH_RP_VAL (bitsOf (byteAt e 0) 4 2)
  (s.put cc CC.SHADOW_WATCH_MIRRORED 1).shadowWatch n anew

/-- The bytes of `TWIN.MIR`. -/
def State.mirWords (s : State) : List Byte := (List.range 8).flatMap fun w => leBytes 4 (s.fld pTWIN (TWIN.MIR_WORD.at w))

/-- The port `MIR_SEL` names. -/
def State.mirSel (s : State) : Port := Fin.ofNat 8 (s.fld pTWIN TWIN.MIR_SEL_PORT)

/-- `MIR_SEL` is written: the window shows that port's mirror, zeros when none is held. -/
def State.mirShow (s : State) (n : Port) : State :=
  let e := ((s.tw n).mir).getD []
  (List.range 8).foldl (init := s.put pTWIN TWIN.MIR_SEL_PORT n.val) fun s w => s.put pTWIN (TWIN.MIR_WORD.at w) (numAt e (4 * w) 4)

/-- `MIR[7]` is written. -/
def State.mirWrite (s : State) (w7 : Word) : State :=
  let s := s.put pTWIN (TWIN.MIR_WORD.at 7) w7.toNat
  s.takeMir s.mirSel s.mirWords

/-- MIR_WRITE (R361): a write of `MIR[7]`. -/
def execMirWrite (w7 : BitVec 32) (s : State) : Host.Outcome State Fault Refusal := .next (s.cmd pTWIN fun s => s.mirWrite w7)

/-- One entry of a received frame goes to the own port mapped to the sender's. -/
def State.twinEntryTake (s : State) (e : List Byte) : State :=
  match allPorts.find? fun n => s.twinned n && s.twinPeer n == bitsOf (byteAt e 0) 0 3 with
  | none => s
  | some n =>
    let s := (List.range 8).foldl (init := s.put pTWIN TWIN.MIR_SEL_PORT n.val) fun s w =>
      s.put pTWIN (TWIN.MIR_WORD.at w) (numAt e (4 * w) 4)
    s.takeMir n s.mirWords

/-- TWIN_FRAME_RECEIVE (R361): the slot-101 task takes the TWIN frame of a receive entry. -/
def execTwinFrameReceive (entry : Fin 64) (s : State) : Host.Outcome State Fault Refusal :=
  .next (s.policy fun s =>
    let s := s.stNote 5 (rxfAt entry.val) 512
    if s.rxType entry.val ≠ 0xC ∨ !s.stChecks (rxfAt entry.val) 512 ∨ s.rxVia entry.val ≠ 2 then s
    else
      let p := s.rxPayload entry.val
      let s := { s with twin := { s.twin with last := some s.tick } }
      let s := (List.range (p.length / 32)).foldl (init := s) fun s k => s.twinEntryTake ((p.drop (32 * k)).take 32)
      s.rxRelease entry.val)

/-! ### Takeover (R362-R364) -/

/-- The mirrored transmit counters + 1 modulo 8 and the mirrored stored MessageIDs, in the layout of `MSGID` (R363). -/
def msgidAfter (m : Nat) : Nat :=
  [0, 1, 2].foldl (fun v k => setBits v (4 * k) 3 (bitsOf v (4 * k) 3 + 1)) m

/-- Record a takeover or an assumption in `LAST_TKO`. -/
def State.tkoRecord (s : State) (n : Port) (cause : Nat) (stale : Bool) : State :=
  let s := (s.put pTWIN TWIN.LAST_TKO_PORT n.val).put pTWIN TWIN.LAST_TKO_CAUSE cause
  (s.putB pTWIN TWIN.LAST_TKO_STALE stale).put pTWIN TWIN.LAST_TKO_TICK s.tick

/-- The claim of a pair is dated now (R360). -/
def State.claimNow (s : State) (n : Port) : State := s.modTw n fun t => { t with claim := some s.tick }

/-- The snapshot written from the mirror (R363): `GEN` of this port, `PMAX` = V × I. -/
def State.snapFromMir (s : State) (n : Port) : State :=
  let w0 := setBits (s.mirNat n 16 4) 16 8 (s.gen n)
  let vi := s.mirNat n 20 4
  let v := bitsOf vi 0 12
  let i := bitsOf vi 16 12
  let body := leBytes 4 w0 ++ leBytes 4 (s.mirNat n 8 4) ++ leBytes 4 (s.mirNat n 12 4) ++ leBytes 4 vi ++
    leBytes 4 (v + 65536 * (v * i / 50)) ++ leBytes 4 s.tick ++ leBytes 4 0
  let s := s.aosWrite (snapAt n) (body ++ leBytes 4 (crc16 body))
  let s := (s.put (pPOL n) POL.PG_STAT_CONTRACT 2).put (pPOL n) POL.PG_STAT_SNAP_VALID 1
  let s := s.putB (pPOL n) POL.PG_STAT_EPR_MODE (bitAt w0 3)
  let w := s.snapWindow n
  (s.modPol n fun p => { p with snapBad := false, held := false, oldLo := w.1, oldHi := w.2 }).setWin n w false

/-- A takeover of a shadow port is ordered (R363); `cause` as `LAST_TKO.CAUSE`. -/
def State.twinTake (s : State) (n : Port) (cause : Nat) : State :=
  let cc := pCC n
  let age := s.mirAge n
  let rp := s.mirNat n 0 1
  let s := (s.modCc n fun c => { c with
    takenOver := true, raKnown := false, raLatch := false, autoDone := false, raProbe := none
    takenRp := some (bitsOf rp 4 2, s.fld cc CC.CFG_RP) }).put cc CC.PG_STAT_POLARITY (bitsOf rp 6 1)
  let s := (s.put cc CC.PG_STAT_TWIN_MODE 1).ccEnter n .attachedSrc
  let load := msgidAfter (s.mirNat n 4 4)
  let s := (s.wr (pPDL n) PDL.MSGID_TX_SOP.off (BitVec.ofNat 32 load)).put (pPDL n) PG.CTRL_ENABLE 1
  let s := if s.mirValid n then (s.snapFromMir n).setTarget n (4 * s.mirNat n 24 2) else s
  let s := s.put (pPDL n) PDL.CFG_DATA_ROLE (bitsOf (s.mirNat n 1 1) 5 1)
  let s := if s.flag pTWIN TWIN.CFG_HOT then s else s.joinGuard n
  let s := (s.tkoRecord n cause (decide (2 < age))).bump pTWIN TWIN.COUNT_TAKEOVERS 1
  let s := (s.raise pTWIN TWIN.PG_EVT_TAKEOVER).claimNow n
  s.postGlobal 107 0 false (s.rd pTWIN TWIN.TASK_TKO_ENTRY.off).toNat age

/-- Ownership is assumed with no mirror held (R362): Unattached.SRC, attaching under R176. -/
def State.twinAssume (s : State) (n : Port) : State :=
  let s := (s.modCc n fun c => { c with takenOver := true }).put (pCC n) CC.PG_STAT_TWIN_MODE 1
  let s := (s.ccEnter n .unattachedSrc).tkoRecord n 4 true
  (s.raise pTWIN TWIN.PG_EVT_ASSUMED).claimNow n

/-- An order to take a shadow port over (R362): with no mirror held, ownership is assumed. A device that may own no twinned port takes none over (R5), and a
port on the clamp enters no source state (R158; DEDUCED, log entry 104). -/
def State.twinOrder (s : State) (n : Port) (cause : Nat) : State :=
  if !s.shadowing n || !s.mayOwn || s.inf (pCC n) CC.CFG_DB_CLAMP == 1 then s else if (s.tw n).mir.isSome then s.twinTake n cause else s.twinAssume n

/-- RP_LOST (R174, R362): the mirrored active pin has stayed below 0.15 V for 20 µs. -/
def execRpLost (n : Port) (s : State) : Host.Outcome State Fault Refusal :=
  .next (if s.shadowing n then (s.rpLost n).twinOrder n 1 else s)

/-- The port's VBUS tick mean lies outside the window of the mirrored contract (R233, R362). -/
def State.mirOut (s : State) (n : Port) : Bool :=
  let ty := bitsOf (s.mirNat n 16 4) 0 3
  let w := s.windowOf n (if ty ≤ 4 then ty else 0) (s.mirNat n 8 4) (bitsOf (s.mirNat n 20 4) 0 12)
  let v := 100 * s.fld (pMEAS n) MEAS.VBUS_AVG
  decide (v < w.1) || decide (w.2 < v)

/-- Silence on TIE for three ticks with a mirrored contract and VBUS outside its window (R362). -/
def State.silenceOrders (s : State) (n : Port) : Bool :=
  s.shadowing n && decide (3 ≤ s.fld (pHG 2) HG.PG_STAT_SILENT_TK) && s.mirValid n && s.mirOut n

/-- TWIN_TAKEOVER (R362, R363): the block orders a takeover at a tick boundary, because TIE is silent and VBUS lies outside the window. -/
def execTwinTakeover (n : Port) (s : State) : Host.Outcome State Fault Refusal :=
  .next (if s.silenceOrders n then s.twinOrder n 2 else s)

/-- `TWIN.CMD.TAKEOVER`: bit n for shadow port n. -/
def State.twinCmd (s : State) (ports : BitVec 8) : State :=
  s.forPorts fun s n => if ports.getLsbD n.val then s.twinOrder n 3 else s

/-- TWIN_CMD_TAKEOVER (R362). -/
def execTwinCmdTakeover (ports : BitVec 8) (key : BitVec 16) (s : State) : Host.Outcome State Fault Refusal :=
  .next (s.keyCmd pTWIN key.toNat 0x7A4C fun s => s.twinCmd ports)

/-- TAKEOVER_TASK (R364): the slot-107 task for the port of the last takeover. -/
def execTakeoverTask (s : State) : Host.Outcome State Fault Refusal :=
  .next (s.policy fun s =>
    let n : Port := Fin.ofNat 8 (s.fld pTWIN TWIN.LAST_TKO_PORT)
    if s.ccState n ≠ .attachedSrc ∨ s.fld pTWIN TWIN.LAST_TKO_CAUSE = 0 then s
    else
      let s := if s.flag pTWIN TWIN.LAST_TKO_STALE then
          (s.fwSend n 0 13 [] false).bump pTWIN TWIN.COUNT_STALE 1 else s
      if s.snapValid n && s.snapTrans n then s.hardResetStart n else s.writeIlim n)

/-- TWIN_JOIN (R266): in hot twin mode the shadow's guard ramps its source path once the mirrored contract is in force. A port that is disabled, or in
ErrorRecovery, keeps its path off (R171, R172). -/
def execTwinJoin (n : Port) (s : State) : Host.Outcome State Fault Refusal :=
  .next (if s.shadowing n ∧ s.ccState n = .disabled ∧ s.inf (pCC n) PG.CTRL_ENABLE = 1 ∧ s.flag pTWIN TWIN.CFG_HOT ∧ s.mirValid n then
      s.joinGuard n
    else s)

/-! ### Roles (R360) -/

/-- TWIN_ROLE_CHOICE (R360): TIE is UP or 100 ms have passed since firmware entry; firmware writes `CFG.TWIN`. -/
def execTwinRoleChoice (n : Port) (s : State) : Host.Outcome State Fault Refusal :=
  .next (s.policy fun s =>
    if !s.twinned n then s
    else if s.locked (pCC n) then s.lockedWrite (pCC n)
    else if (s.tw n).mir.isSome && s.mirOwner n then s.put (pCC n) CC.CFG_TWIN 2
    else if s.flag pTWIN TWIN.CFG_PREF_OWNER && s.mayOwn then (s.put (pCC n) CC.CFG_TWIN 1).claimNow n
    else s.put (pCC n) CC.CFG_TWIN 2)

/-- Both devices claim a pair. -/
def State.twinConflict (s : State) (n : Port) : Bool := s.twinned n && s.owning n && (s.tw n).mir.isSome && s.mirOwner n

/-- The device whose claim is the younger one yields; of two equal ages the one with `PREF_OWNER` = 0 (R360). -/
def State.mustYield (s : State) (n : Port) : Bool :=
  let own := s.claimAge n
  let his := s.mirNat n 3 1
  s.twinConflict n && (decide (own < his) || (own == his && !s.flag pTWIN TWIN.CFG_PREF_OWNER))

/-- TWIN_CLAIM_YIELD (R360): firmware writes `ENABLE` = 0 and `CFG.TWIN` = SHADOW, which act at the next boundary (R152): the port passes through Disabled
into shadow presentation. `ENABLE` = 1 follows once the first write has taken effect. -/
def execTwinClaimYield (n : Port) (s : State) : Host.Outcome State Fault Refusal :=
  .next (s.policy fun s =>
    if s.mustYield n then
      let cc := pCC n
      let s := s.put cc PG.CTRL_ENABLE 0
      let s := if s.locked cc then s.lockedWrite cc else s.put cc CC.CFG_TWIN 2
      s.modTw n fun t => { t with claim := none, yields := true }
    else s)

/-- The last write of a yield, after the boundary at which `ENABLE` = 0 took effect. -/
def State.yieldTick (s : State) (n : Port) : State :=
  if (s.tw n).yields && s.inf (pCC n) PG.CTRL_ENABLE == 0 then
    (s.put (pCC n) PG.CTRL_ENABLE 1).modTw n fun t => { t with yields := false }
  else s

/-! ### Paired managers (R366) -/

/-- The twin role of a port of the fleet: 0 not twinned, 1 owner, 2 shadow. -/
def State.pairRole (s : State) (i : Nat) : Nat :=
  if i / 8 = s.node then
    let n : Port := Fin.ofNat 8 i
    if !s.twinned n then 0 else if s.owning n then 1 else 2
  else (s.led i).twin

/-- PAIR_LEDGER (R366): one LEDGER frame of kind PAIR on TIE (log entry 55). -/
def execPairLedger (s : State) : Host.Outcome State Fault Refusal :=
  .next (s.policy fun s =>
    if !s.places || !s.linkUp 2 then s
    else
      let ports := ((List.range 512).filter fun i => s.pairRole i != 0).take 31
      let entry := fun (i : Nat) => leBytes 1 (i / 8) ++ leBytes 1 (i % 8) ++ leBytes 1 (s.pairRole i - 1) ++ leBytes 1 0 ++
        leBytes 2 (s.recGrant i) ++ leBytes 2 (s.recCommit i)
      s.sendEngine 60 0xD false 0x7F 2 0 (leBytes 1 1 ++ leBytes 3 0 ++ leBytes 4 s.place.runs ++ ports.flatMap entry))

/-! ### The tick boundary -/

/-- The twin trim of a boundary (R310), in units of 20 mV. `owner`: this device owns the pair. -/
def State.twinTrimStep (s : State) (n : Port) : State :=
  let owner := s.owning n
  let force := if owner then s.explicit n && s.snapValid n && !s.snapTrans n else s.mirValid n && !bitAt (s.mirNat n 16 4) 8
  if !(s.flag pTWIN TWIN.CFG_HOT && s.twinned n && (owner || s.shadowing n) && force) || s.transRuns n || decide (2 < s.mirAge n) then s
  else
    let split : Int := max 10 (min 90 (s.fld pSHARE SHARE.TWIN_CFG_SPLIT))
    let mine := signed 16 (s.fld (pMEAS n) MEAS.IBUS_AVG)
    let share := (mine + signed 16 (s.mirNat n 26 2)) * (if owner then split else 100 - split)
    let db : Int := max 2 (min 30 (s.fld pSHARE SHARE.CFG_DB_PCT))
    let old := (s.port n).pol.twinTrim
    let step : Int := if share * (100 + db) < 10000 * mine then -1 else if 10000 * mine < share * (100 - db) then 1 else 0
    let w := if owner then s.snapWindow n
      else s.windowOf n (bitsOf (s.mirNat n 16 4) 0 3) (s.mirNat n 8 4) (bitsOf (s.mirNat n 20 4) 0 12)
    let t : Int := (s.port n).pol.target / 4
    let bound : Int := s.fld pSHARE SHARE.TWIN_CFG_TWIN_TRIM
    let lo : Int := max (-bound) ((w.1 : Int) / 100 - t)
    let hi : Int := min bound ((w.2 : Int) / 100 - t)
    let new := max lo (min hi (old + step))
    let hit := step ≠ 0 && (new == lo || new == hi)
    let s := s.raiseIf hit pSHARE SHARE.PG_EVT_TWIN_LIMIT
    let s := s.modPol n fun p => { p with twinTrim := new }
    s.setTarget n (s.port n).pol.target

/-- The TWIN block at a tick boundary: reports, the shadows' converters (R311, R361), the trim (R310), orders for silence (R362), slot 106. -/
def State.twinTick (s : State) : State :=
  let was := s.flag pTWIN TWIN.STAT_PARTNER
  let now := match s.twin.last with
    | some t => decide (s.tick ≤ t + 2)
    | none => false
  let s := s.putB pTWIN TWIN.STAT_PARTNER now
  let s := (s.raiseIf (was && !now) pTWIN TWIN.PG_EVT_PARTNER_LOST).raiseIf (!was && now) pTWIN TWIN.PG_EVT_PARTNER_BACK
  let s := s.forPorts fun s n =>
    let s := s.yieldTick n
    let s := if now && (s.port n).cc.debDone then s.debounced n else s
    let a := TWIN.AGE_AGE
    let s := s.put pTWIN a (setBits (s.fld pTWIN a) (4 * n.val) 4 (min 15 (s.mirAge n)))
    let s := s.put pTWIN TWIN.STAT_OWNING (setBits (s.fld pTWIN TWIN.STAT_OWNING) n.val 1 (s.twinned n && s.owning n).toNat)
    let s := s.put pTWIN TWIN.STAT_SHADOWING (setBits (s.fld pTWIN TWIN.STAT_SHADOWING) n.val 1 (s.twinned n && s.shadowing n).toNat)
    if s.silenceOrders n then s.twinOrder n 2
    else if s.shadowing n && s.mirValid n then
      let s := if bitsOf (s.mirNat n 16 4) 8 2 = 1 then s.modPol n fun p => { p with twinTrim := 0 } else s
      let s := (s.cenLevel n true).setTarget n (4 * s.mirNat n 24 2)
      s.twinTrimStep n
    else (if s.shadowing n then s.cenLevel n false else s).twinTrimStep n
  let conf := allPorts.any s.twinConflict
  let s := s.raiseIf (conf && !s.flag pTWIN TWIN.STAT_CONFLICT) pTWIN TWIN.PG_EVT_CONFLICT
  let s := s.putB pTWIN TWIN.STAT_CONFLICT conf
  if s.fld pTWIN TWIN.CFG_PORTS ≠ 0 ∧ s.linkUp 2 then
    s.postGlobal 106 2 false (s.rd pTWIN TWIN.TASK_BUILD_ENTRY.off).toNat (s.fld pTWIN ⟨0x10, 0, 16⟩)
  else s

end Sys2Proof.Machine
end

