-- ==== Sys2Proof/Machine/Crypto.lean ====
section
/-!
DEFINITION. The published standards the boot and the tokens rest on (Table 0.6, R98, R105, R114, R457): SHA-256 and ECDSA P-256.
-/

namespace Sys2Proof.Machine

/-! ### SHA-256 -/

/-- The 64 round constants of SHA-256. -/
def shaK : List Nat :=
  [0x428a2f98, 0x71374491, 0xb5c0fbcf, 0xe9b5dba5, 0x3956c25b, 0x59f111f1, 0x923f82a4, 0xab1c5ed5, 0xd807aa98, 0x12835b01, 0x243185be, 0x550c7dc3,
    0x72be5d74, 0x80deb1fe, 0x9bdc06a7, 0xc19bf174] ++
  [0xe49b69c1, 0xefbe4786, 0x0fc19dc6, 0x240ca1cc, 0x2de92c6f, 0x4a7484aa, 0x5cb0a9dc, 0x76f988da, 0x983e5152, 0xa831c66d, 0xb00327c8, 0xbf597fc7,
    0xc6e00bf3, 0xd5a79147, 0x06ca6351, 0x14292967] ++
  [0x27b70a85, 0x2e1b2138, 0x4d2c6dfc, 0x53380d13, 0x650a7354, 0x766a0abb, 0x81c2c92e, 0x92722c85, 0xa2bfe8a1, 0xa81a664b, 0xc24b8b70, 0xc76c51a3,
    0xd192e819, 0xd6990624, 0xf40e3585, 0x106aa070] ++
  [0x19a4c116, 0x1e376c08, 0x2748774c, 0x34b0bcb5, 0x391c0cb3, 0x4ed8aa4a, 0x5b9cca4f, 0x682e6ff3, 0x748f82ee, 0x78a5636f, 0x84c87814, 0x8cc70208,
    0x90befffa, 0xa4506ceb, 0xbef9a3f7, 0xc67178f2]

/-- The initial hash value. -/
def shaH : List Word :=
  [0x6a09e667, 0xbb67ae85, 0x3c6ef372, 0xa54ff53a, 0x510e527f, 0x9b05688c, 0x1f83d9ab, 0x5be0cd19]

/-- A number from bytes, most significant first. -/
def beNat (bs : List Byte) : Nat := bs.foldl (fun n b => 256 * n + b.toNat) 0

/-- The `n` bytes of a number, most significant first. -/
def beBytes (n v : Nat) : List Byte := (leBytes n v).reverse

/-- A message padded to whole blocks of 64 bytes. -/
def shaPad (m : List Byte) : List Byte := m ++ (0x80 :: List.replicate ((119 - m.length % 64) % 64) 0) ++ beBytes 8 (8 * m.length)

/-- The 16 words of a block. -/
def shaWords (b : List Byte) : List Word := (List.range 16).map fun i => BitVec.ofNat 32 (beNat ((b.drop (4 * i)).take 4))

/-- The message schedule, newest word first: `n` further words after the 16 of the block. -/
def shaSched : Nat → List Word → List Word
  | 0, w => w
  | n + 1, w =>
    let x := w.getD 14 0
    let y := w.getD 1 0
    let s0 := x.rotateRight 7 ^^^ x.rotateRight 18 ^^^ (x >>> 3)
    let s1 := y.rotateRight 17 ^^^ y.rotateRight 19 ^^^ (y >>> 10)
    shaSched n ((w.getD 15 0 + s0 + w.getD 6 0 + s1) :: w)

/-- One round on the working variables a-h. -/
def shaRound (v : List Word) (k : Nat) (w : Word) : List Word :=
  match v with
  | [a, b, c, d, e, f, g, h] =>
    let t1 := h + (e.rotateRight 6 ^^^ e.rotateRight 11 ^^^ e.rotateRight 25) + ((e &&& f) ^^^ (~~~e &&& g)) + BitVec.ofNat 32 k + w
    let t2 := (a.rotateRight 2 ^^^ a.rotateRight 13 ^^^ a.rotateRight 22) + ((a &&& b) ^^^ (a &&& c) ^^^ (b &&& c))
    [t1 + t2, a, b, c, d + t1, e, f, g]
  | _ => v

/-- One block taken into the hash value. -/
def shaBlock (h : List Word) (b : List Byte) : List Word :=
  let w := (shaSched 48 (shaWords b).reverse).reverse
  let v := (shaK.zip w).foldl (fun v c => shaRound v c.1 c.2) h
  h.zipWith (· + ·) v

/-- SHA-256 of a message, 32 bytes. -/
def sha256 (m : List Byte) : List Byte :=
  let p := shaPad m
  let h := (List.range (p.length / 64)).foldl (fun h i => shaBlock h ((p.drop (64 * i)).take 64)) shaH
  h.flatMap fun w => beBytes 4 w.toNat

/-! ### ECDSA on P-256 -/

def p256P : Nat := 0xFFFFFFFF00000001000000000000000000000000FFFFFFFFFFFFFFFFFFFFFFFF
def p256N : Nat := 0xFFFFFFFF00000000FFFFFFFFFFFFFFFFBCE6FAADA7179E84F3B9CAC2FC632551
def p256B : Nat := 0x5AC635D8AA3A93E7B3EBBD55769886BC651D06B0CC53B0F63BCE3C3E27D2604B
def p256Gx : Nat := 0x6B17D1F2E12C4247F8BCE6E563A440F277037D812DEB33A0F4A13945D898C296
def p256Gy : Nat := 0x4FE342E2FE1A7F9B8EE7EB4A7C0F9E162BCE33576B315ECECBB6406837BF51F5

/-- Bits of a number below 2^256, most significant first. -/
def bits256 (e : Nat) : List Bool := (List.range 256).reverse.map fun i => bitAt e i

/-- `b` to the power `e` modulo `m`. -/
def powMod (m b e : Nat) : Nat := (bits256 e).foldl (fun x bit => if bit then x * x % m * b % m else x * x % m) 1

/-- The inverse modulo a prime. -/
def invMod (m a : Nat) : Nat := powMod m (a % m) (m - 2)

/-- The point at infinity is `none`. -/
abbrev EcPoint := Option (Nat × Nat)

/-- The sum of two points of P-256. -/
def ecAdd (a b : EcPoint) : EcPoint :=
  match a, b with
  | none, q => q
  | q, none => q
  | some (x1, y1), some (x2, y2) =>
    if x1 = x2 ∧ (y1 + y2) % p256P = 0 then none
    else
      let l := if x1 = x2 then (3 * x1 * x1 + (p256P - 3)) * invMod p256P (2 * y1) % p256P
        else (y2 + p256P - y1) * invMod p256P (x2 + p256P - x1) % p256P
      let x3 := (l * l + 2 * p256P - x1 - x2) % p256P
      some (x3, (l * (x1 + p256P - x3) + p256P - y1) % p256P)

/-- A multiple of a point. -/
def ecMul (k : Nat) (q : EcPoint) : EcPoint :=
  (bits256 k).foldl (fun r bit => if bit then ecAdd (ecAdd r r) q else ecAdd r r) none

/-- The right side of the curve's equation. -/
def ecRhs (x : Nat) : Nat := (x * x % p256P * x + (p256P - 3) * x + p256B) % p256P

/-- A pair of numbers is a point of the curve. -/
def ecOn (x y : Nat) : Bool := decide (x < p256P) && decide (y < p256P) && y * y % p256P == ecRhs x

/-- A signature's numbers lie in their range. -/
def sigRange (r s : Nat) : Bool := decide (0 < r) && decide (r < p256N) && decide (0 < s) && decide (s < p256N)

/-- ECDSA P-256 verification of a digest `e` with the public key (x, y). -/
def ecdsaOk (x y r s e : Nat) : Bool :=
  let w := invMod p256N s
  sigRange r s && ecOn x y &&
    (match ecAdd (ecMul (e * w % p256N) (some (p256Gx, p256Gy))) (ecMul (r * w % p256N) (some (x, y))) with
    | none => false
    | some (px, _) => px % p256N == r)

/-- The public keys under which a signature of a digest checks: a point with x coordinate r or r + n, of either sign, leads to each. -/
def ecdsaKeys (r s e : Nat) : List (Nat × Nat) :=
  if !sigRange r s then []
  else
    let pts := [r, r + p256N].flatMap fun x =>
      let y := powMod p256P (ecRhs x) ((p256P + 1) / 4)
      if ecOn x y then [(x, y), (x, p256P - y)] else []
    let w := invMod p256N r
    let neg := ecMul ((p256N - e % p256N) * w % p256N) (some (p256Gx, p256Gy))
    pts.filterMap fun q => ecAdd (ecMul (s * w % p256N) (some q)) neg

/-- A public key as 64 bytes: X, then Y (Table 18.1). -/
def keyBytes (q : Nat × Nat) : List Byte := beBytes 32 q.1 ++ beBytes 32 q.2

end Sys2Proof.Machine
end

