-- ==== Sys2Proof/Machine/UpdOps.lean ====
section
/-!
DEFINITION. Update machinery (chapter 18): the boot record, image headers, the word mask and erased marks, what a block and a commit do, refusals,
tokens, resets an update starts.
-/

namespace Sys2Proof.Machine

/-! ### The boot record (R97, R468) -/

/-- A bank's entry; `true` is bank B. -/
def BootRec.bank (r : BootRec) (b : Bool) : BankRec := if b then r.b else r.a

/-- Replace a bank's entry. -/
def BootRec.setBank (r : BootRec) (b : Bool) (x : BankRec) : BootRec := if b then { r with b := x } else { r with a := x }

/-- The code of a bank state (Table 5.9). -/
def BankState.code : BankState → Nat
  | .empty => 0
  | .staged => 1
  | .trial => 2
  | .confirmed => 3
  | .rejected => 4

/-- State of a bank as this boot decided it. -/
def State.bankState (s : State) (b : Bool) : BankState := (s.boot.now.bank b).state

/-- The bank that does not run. -/
def State.idleBank (s : State) : Bool := !s.activeBank

/-- Load `BOOT.BANK_STAT` and `UPD.STAT.CFG_AREA` from the boot record. -/
def State.bootShow (s : State) : State :=
  let r := s.boot.now
  let trials := if r.a.state = .trial then r.a.trials else if r.b.state = .trial then r.b.trials else 0
  let s := (s.put pBOOT BOOT.BANK_STAT_A_STATE r.a.state.code).put pBOOT BOOT.BANK_STAT_B_STATE r.b.state.code
  (s.put pBOOT BOOT.BANK_STAT_TRIALS trials).putB pUPD UPD.STAT_CFG_AREA r.cfgB

/-- The payload of the boot record in area 0 (log entry 99). -/
def BootRec.bytes (r : BootRec) : List Byte :=
  let recent := match r.recent with
    | none => 0
    | some false => 1
    | some true => 2
  [r.a.state.code, r.a.trials, r.b.state.code, r.b.trials, recent, r.erasePending.toNat, r.cfgB.toNat, 0].map fun n => BitVec.ofNat 8 n

/-- Change the boot record and journal it in area 0 (R97, R111). -/
def State.bootWrite (s : State) (f : BootRec → BootRec) : State :=
  let j := f s.boot.journal
  (({ s with boot := { s.boot with now := f s.boot.now, journal := j } }).nvdCommit 0 0 j.bytes).bootShow

/-- The journal can take a record now (R73, R97): writes are allowed, and so is the erase of a slot that is not blank. -/
def State.bootMay (s : State) : Bool := if s.nvdBlank (s.writeSlot 0) then s.nvOk else s.eraseOk

/-- Change the record; a change decided while the journal takes none stands for this boot only (R97). -/
def State.bootDecide (s : State) (f : BootRec → BootRec) : State :=
  if s.bootMay then s.bootWrite f else ({ s with boot := { s.boot with now := f s.boot.now } }).bootShow

/-- The result when data flash takes no write now (Tables 18.2, 18.3): SUPPLY under the conditions of Table 18.2, else a write that fails. -/
def State.writeWhy (s : State) : Nat := if s.nvOk then 10 else 5

/-! ### Headers (Table 18.1, R457) -/

/-- A number in a bank. -/
def State.hdrNat (s : State) (b : Bool) (off n : Nat) : Nat := leNat (Sparse.getList flashDflt s.code (bankBase b + off) n)

/-- Whether the header of a bank is well formed (R457). -/
def State.hdrOk (s : State) (b : Bool) : Bool :=
  let len := s.hdrNat b 8 4
  let iram := s.hdrNat b 24 4
  s.hdrNat b 0 4 == 0x4C594D49 && s.hdrNat b 4 2 == 1 && s.hdrNat b 6 2 == 256 && len % 256 == 0 && decide (512 ≤ len) && decide (len ≤ 524288) &&
    iram % 4 == 0 && decide (4 ≤ iram) && decide (iram ≤ 262144) && decide (iram ≤ len - 256) && decide (s.hdrNat b 16 4 < iram) &&
    decide (s.hdrNat b 20 4 < iram) && s.hdrNat b 30 2 == 0 && s.hdrNat b 192 64 == 0

/-- `VERSION` of a bank's header. -/
def State.hdrVersion (s : State) (b : Bool) : Nat := s.hdrNat b 12 4

/-! ### Word mask and erased marks (R459) -/

/-- Zero bytes of the store. -/
def State.stZero (s : State) (a n : Nat) : State :=
  let covered := fun k => decide (a ≤ k) && decide (k < a + n)
  { s with
    store := s.store.filter fun c => !covered c.1
    st := { s.st with bad := s.st.bad.filter fun b => !covered b } }

/-- Whether bit `i` of a bit map at a store offset is 1. -/
def State.mapGet (s : State) (a i : Nat) : Bool := bitAt (s.stNat (a + i % 2 ^ 17 / 8) 1) (i % 8)

/-- Write a bit of a bit map in the store. -/
def State.mapPut (s : State) (a i : Nat) (b : Bool) : State := s.stPut (a + i % 2 ^ 17 / 8) 1 (setBits (s.stNat (a + i % 2 ^ 17 / 8) 1) (i % 8) 1 b.toNat)

def maskAt : Nat := 0xDC000
def marksAt : Nat := 0xDB100
def blockAt : Nat := 0xDB000

/-- Clear a sector's mask bits (1,024 words, 128 bytes) and its mark. -/
def State.sectorClear (s : State) (k : Nat) : State := (s.stZero (maskAt + 128 * (k % 128)) 128).mapPut marksAt k false

/-- A page of 256 bytes has arrived: its 64 mask bits are set. -/
def State.pageHere (s : State) (p : Nat) : Bool := s.stNat (maskAt + 8 * p) 8 == 2 ^ 64 - 1

/-- `IMG_LEN`: `LENGTH` of the header in the idle bank, 0 until page 0 has arrived. -/
def State.imgLen (s : State) : Nat := if s.pageHere 0 then s.hdrNat s.idleBank 8 4 else 0

/-- Pages arrived. -/
def State.pagesHere (s : State) : Nat := ((List.range 2048).filter s.pageHere).length

/-! ### Refusals (Table 18.2) -/

/-- `SYS.MOTION.RECENT`: `MOTN` is or was asserted within 10 s. -/
def State.motionRecent (s : State) : Bool :=
  s.pins.motn || (match s.aon.motnAt with
    | some t => decide (s.tick < t + 200000)
    | none => false)

/-- The conditions of Table 18.2 that hold, in order. -/
def State.updConds (s : State) : List Bool :=
  let low := decide (1 ≤ s.cells) && (!s.socValid || decide (s.soc < s.fld pUPD UPD.CFG_MIN_SOC)) && !s.recovery &&
    !(allPorts.any fun n => s.snapValid n && !bitAt (s.snapWord n 0) 4 && s.explicit n && decide (1500 ≤ s.snapPmax n))
  [s.flag pSYS SYS.MOTION_SET || s.motionRecent, low, !s.flag pUPD UPD.STAT_UNLOCKED && (!bitAt s.ownCfg 2 || s.flag pUPD UPD.STAT_NV_LOCK),
    s.lockBit LOCK.STICKY_UPD, !s.nvOk, s.bankState s.activeBank == .trial]

/-- The code of the first condition that holds; 0: none. -/
def State.updRefuse (s : State) : Nat :=
  match s.updConds.findIdx? id with
  | some i => i + 1
  | none => 0

/-- `STAT.REFUSE`. -/
def State.updRefuseBits (s : State) : Nat := ((List.range 6).map fun i => if s.updConds.getD i false then 2 ^ i else 0).foldl (· + ·) 0

/-- A result is written. -/
def State.updResult (s : State) (code : Nat) : State := (s.put pUPD UPD.STAT_RESULT code).raise pUPD UPD.PG_EVT_RESULT

/-- Post the slot-114 task. -/
def State.updPost (s : State) : State := if s.fw then s.postGlobal 114 5 true (s.rd pUPD 0xB8).toNat 0 else s

/-! ### Sessions (R458, R461) -/

/-- The session ends; the idle bank stays as it is. -/
def State.sessEnd (s : State) : State := { s.put pUPD UPD.STAT_SESSION 0 with upd := { s.upd with img := none } }

/-- Open a session: the idle bank is journaled EMPTY, the configuration area `CFG_AREA` does not name is invalidated, mask and marks are cleared.
`none` when the area cannot be erased under R73. -/
def State.sessOpen (s : State) (src : Nat) : Option State :=
  let b := s.idleBank
  let s := if s.bankState b = .empty then s else s.bootDecide fun r => r.setBank b ⟨.empty, 0⟩
  let area := if s.boot.now.cfgB then 2 else 3
  if s.eraseOk then
    let s := (s.nvdErasePage (2 * area)).nvdErasePage (2 * area + 1)
    some (((s.stZero maskAt 0x4000).stZero marksAt 16).put pUPD UPD.STAT_SESSION src)
  else none

/-- One word of a block (R460): the state and the result, 0 to go on. `bad`: the device's program or erase of it fails; `true` when it is an erase
abandoned under R73, which is reported and marks the sector (Table 18.8). The contents a failed program or an abandoned erase leaves are open (log entry
75). -/
def State.updWord (s : State) (b : Bool) (w : Nat) (v : Word) (bad : Option Bool) : State × Nat :=
  let a := bankBase b + 4 * w
  let sec := w / 1024
  let s := if s.stBadIn (maskAt + w / 8) 1 then (s.stNote 5 (maskAt + w / 8) 1).sectorClear sec else s
  if s.mapGet maskAt w then (if s.codeWord a = v.toNat then (s, 0) else (s, 9))
  else
    let s := s.put pBOOT BOOT.BANK_STAT_CODE_DIRTY 1
    let er := if s.mapGet marksAt sec then (s, true)
      else if !s.eraseOk then (s, false)
      else if bad = some true then ((s.sectorClear sec).eraseAbort (a / 4096), false)
      else ((s.codeErase a).mapPut marksAt sec true, true)
    let s := er.1
    if !er.2 || !s.nvOk then (s, 10)
    else if bad.isSome then ((s.codeProgram a (v ||| s.free)).freshen, 10)
    else ((s.codeProgram a v).mapPut maskAt w true, 0)

/-- Words in ascending order until one ends the block. `bad` names the word whose program or erase fails. -/
def State.updWords (s : State) (b : Bool) (bad : Option (Nat × Bool)) : Nat → Nat → List Word → State × Nat
  | _, _, [] => (s, 0)
  | i, w, v :: l =>
    let r := s.updWord b w v (match bad with
      | some (k, ab) => if k = i then some ab else none
      | none => none)
    if r.2 = 0 then r.1.updWords b bad (i + 1) (w + 1) l else r

/-- Words of a list of bytes. -/
def toWords : List Byte → List Word
  | a :: b :: c :: d :: l => BitVec.ofNat 32 (leNat [a, b, c, d]) :: toWords l
  | _ => []

/-- Handle a block from a source (1 host, 2 fleet): Table 18.2, the session, RANGE, the words (R458, R460). -/
def State.updBlock (s : State) (src off : Nat) (data : List Byte) (bad : Option (Nat × Bool)) : State × Nat :=
  let ses := s.fld pUPD UPD.STAT_SESSION
  if s.updRefuse ≠ 0 then (s, s.updRefuse)
  else if ses ≠ 0 ∧ ses ≠ src then (s, 7)
  else if off % 4 ≠ 0 ∨ data.length % 4 ≠ 0 ∨ 524288 < off + data.length then (s, 8)
  else
    match (if ses = 0 then s.sessOpen src else some s) with
    | none => (s, 10)
    | some s => s.updWords s.idleBank bad 0 (off / 4) (toWords data)

/-- The update machinery goes over the word mask: a word with wrong parity clears its sector's mask bits and mark (R459). -/
def State.maskCheck (s : State) : State :=
  (List.range 128).foldl (fun s k => if s.stBadIn (maskAt + 128 * k) 128 then (s.stNote 5 (maskAt + 128 * k) 128).sectorClear k else s) s

/-- A commit from a source (R464). A journal that cannot be written now is a boot-record write that fails (Table 18.3; log entry 105). -/
def State.updCommit (s : State) (src : Nat) : State × Nat :=
  if s.updRefuse ≠ 0 then (s, s.updRefuse)
  else if s.fld pUPD UPD.STAT_SESSION ≠ src then (s, 7)
  else
    let s := s.maskCheck
    let b := s.idleBank
    if !s.pageHere 0 || !s.hdrOk b then (s, 12)
    else if !((List.range (s.hdrNat b 8 4 / 256)).all s.pageHere) then (s, 11)
    else if !s.bootMay then (s, 10)
    else (((s.bootWrite fun r => r.setBank b ⟨.staged, 0⟩).sessEnd).raise pUPD UPD.PG_EVT_STAGED, 0)

/-! ### Resets an update starts (R465, R466) -/

/-- A cause of a WARM reset: it is merged into the reset, which WARM_RESET carries out (R29, R41). -/
def State.warmCause (s : State) (bit : Nat) : State :=
  { s with rst := { s.rst with causes := s.rst.causes ||| BitVec.ofNat 6 (2 ^ bit) }, phase := .warm }

/-- An activation reset (R465). -/
def State.activationReset (s : State) (b : Bool) : State := { s.warmCause 3 with upd := { s.upd with activate := some b } }

/-- `ACTIVATE` (R465). -/
def State.updActivate (s : State) : State :=
  if s.updRefuse ≠ 0 then s.updResult s.updRefuse
  else if s.bankState s.idleBank ≠ .staged then s.updResult 7
  else (s.updResult 0).activationReset s.idleBank

/-- `CONFIRM` (R468). -/
def State.updConfirm (s : State) (switch : Bool) : State :=
  let b := s.activeBank
  if s.bankState b ≠ .trial then s.updResult 7
  else if !s.bootMay then s.updResult s.writeWhy
  else
    let s := s.bootWrite fun r => { r.setBank b ⟨.confirmed, 0⟩ with recent := some b, cfgB := r.cfgB != switch }
    ({ s with upd := { s.upd with trialEnd := none } }).updResult 0

/-! ### The owner flag (R463) -/

/-- Write the NV owner flag into area 1 and load it. -/
def State.ownerFlag (s : State) (b : Bool) : State :=
  let p := (s.nvdRecord 1).getD (List.replicate 4 0)
  let w := setBits (leNat (p.take 4)) 0 1 b.toNat
  let fmt := match s.newest 1 with
    | some k => s.nvdNat (slotAt 1 k + 2) 1
    | none => 0
  (s.nvdCommit 1 fmt (leBytes 4 w ++ p.drop 4)).putB pUPD UPD.STAT_NV_LOCK b

/-- The flag as area 1 holds it. -/
def State.ownerFlagNv (s : State) : Bool :=
  match s.nvdRecord 1 with
  | some p => bitAt (leNat (p.take 4)) 0
  | none => false

/-- `OWNER_LOCK`. -/
def State.updOwnerLock (s : State) : State :=
  if s.lockBit LOCK.STICKY_OWNER_FLAG then s.updResult 4
  else if !s.eraseOk then s.updResult s.writeWhy
  else (s.ownerFlag true).updResult 0

/-! ### Tokens (R114, R115, R463) -/

/-- Byte `i` of the token in the 22 words at an offset of a page. -/
def State.tokByte (s : State) (pg off i : Nat) : Nat := bitsOf (s.rd pg (off + i / 4 * 4)).toNat (8 * (i % 4)) 8

/-- A number of `n` bytes of a token. -/
def State.tokNat (s : State) (pg off i n : Nat) : Nat := leNat ((List.range n).map fun k => BitVec.ofNat 8 (s.tokByte pg off (i + k)))

/-- Tokens that failed since the last POR or COLD reset. -/
def State.tokFails (s : State) : Nat := s.dbg.fails

/-- The unique ID (R105). -/
def State.uid (s : State) : Nat := (s.rd pID 0x34).toNat + 2 ^ 32 * (s.rd pID 0x38).toNat

/-- Whether the owner key may be used: `OWNER` locked and usable, not revoked; one with a marginal word is not (log entry 87). -/
def State.ownerKeyOk (s : State) : Bool :=
  s.otpLocked 5 && !s.boot.ownerFail && !s.revoked 4 && !s.boot.keyBad.getLsbD 4

/-- The hash of a public key as OTP holds it: vendor slots 0-3, 4 the owner's (Table 5.4); words in ascending order, each least significant byte first (log
entry 97). -/
def State.keyHash (s : State) (slot : Nat) : List Byte :=
  (List.range 8).flatMap fun j => leBytes 4 (if slot = 4 then s.otpRead (0x61 + j) else Sparse.get (fun _ => 0) s.boot.otpEff (0x38 + 8 * slot + j)).toNat

/-- The token's signature over its first 24 bytes checks under the signer's key, which OTP holds as a hash (R114, log entry 97). -/
def State.tokSigOk (s : State) (pg off : Nat) : Bool :=
  let w0 := s.tokNat pg off 0 4
  let slot := if bitsOf w0 8 2 = 1 then 4 else bitsOf w0 10 2
  let bytes := fun (i n : Nat) => (List.range n).map fun k => (BitVec.ofNat 8 (s.tokByte pg off (i + k)) : Byte)
  (ecdsaKeys (beNat (bytes 24 32)) (beNat (bytes 56 32)) (beNat (sha256 (bytes 0 24)))).any fun q => sha256 (keyBytes q) == s.keyHash slot

/-- Check a token (R115): the first failing code of Table 5.10. `fmt`: the format wanted; `policy`: the signer is allowed; a token whose format or
zero bytes are not as Table 5.7 has them is refused as POLICY (log entry 76). -/
def State.tokCheck (s : State) (pg off fmt : Nat) (policy : Bool → Bool) (chal : BitVec 64) (issued : Bool) : Nat :=
  let w0 := s.tokNat pg off 0 4
  let owner := bitsOf w0 8 2 == 1
  let slot := bitsOf w0 10 2
  let shape := bitsOf w0 0 8 == fmt && decide (bitsOf w0 8 2 ≤ 1) && bitsOf w0 12 20 == 0 && s.tokNat pg off 20 4 == 0
  let keyOk := if owner then s.ownerKeyOk else decide (2 ≤ slot) && !s.revoked slot && !s.boot.keyBad.getLsbD slot
  if s.lockBit LOCK.STICKY_DBG_REQ then 1
  else if 4 ≤ s.tokFails then 2
  else if !s.flag pID ID.IDENT_STAT_VALID then 3
  else if !shape || !policy owner then 4
  else if !keyOk then 5
  else if s.tokNat pg off 4 8 ≠ s.uid then 6
  else if !issued || s.tokNat pg off 12 8 ≠ chal.toNat then 7
  else if !s.tokSigOk pg off then 8
  else if !s.nvOk then 9
  else 0

/-- Count a refused token. -/
def State.tokFail (s : State) : State := { s with dbg := { s.dbg with fails := min 4 (s.dbg.fails + 1) } }

/-- Issue a challenge, a random number, for unlocking (R463). -/
def State.updChallenge (s : State) (v : BitVec 64) : State :=
  let s := { s with upd := { s.upd with challenge := v, issued := true } }
  (s.put pUPD UPD.CHAL_LO_CHALLENGE v.toNat).put pUPD UPD.CHAL_HI_CHALLENGE (v.toNat / 2 ^ 32)

/-- `UNLOCK`. -/
def State.updUnlock (s : State) : State :=
  let code := s.tokCheck pUPD 0x60 2 (fun owner => owner) s.upd.challenge s.upd.issued
  let s := { s with upd := { s.upd with issued := false } }
  let s := ((s.put pUPD UPD.CHAL_LO_CHALLENGE 0).put pUPD UPD.CHAL_HI_CHALLENGE 0).put pUPD UPD.STAT_TOKEN_CODE code
  if code ≠ 0 then s.tokFail.updResult 13
  else if !s.eraseOk then s.updResult s.writeWhy
  else ((s.ownerFlag false).put pUPD UPD.STAT_UNLOCKED 1).updResult 0

/-! ### Distribution (R472) -/

/-- The nodes `DIST_MAP` names, or every enumerated node but this one. -/
def State.distTargets (s : State) : List Nat :=
  let named := (List.range 64).filter fun k => s.mapBit pUPD UPD.DIST_MAP_NODES k
  let all := if named.isEmpty then (List.range 64).filter fun k => s.mapBit pFLEET FLEET.ENUM_MAP_NODES k else named
  all.filter fun k => k != s.node

/-- The bank distributed. -/
def State.distBank (s : State) : Bool := if s.flag pUPD UPD.DIST_CFG_SRC_ACTIVE then s.activeBank else s.idleBank

/-- Post the slot-115 task. -/
def State.distPost (s : State) : State := s.postGlobal 115 5 true (s.rd pUPD 0xBC).toNat 0

/-- `DISTRIBUTE`: acts on the acting manager only. -/
def State.updDistribute (s : State) : State :=
  if s.acting ≠ .manager ∨ s.role = .solo then s
  else
    let num := s.upd.sessNum + 1
    let d : Dist := { stage := 0, num := num, len := s.hdrNat s.distBank 8 4, ver := s.hdrVersion s.distBank, targets := s.distTargets, todo := [], page := none, missing := [], waiting := [], active := [], round := 0 }
    let s := { s with upd := { s.upd with sessNum := num, dist := some d } }
    ((((s.put pUPD UPD.DIST_STAT_STATE 1).put pUPD UPD.DIST_STAT_ROUND 0).put pUPD UPD.DIST_STAT_NODES_FAILED 0).put pUPD UPD.DIST_STAT_NODES_DONE 0
      |>.wr pUPD 0x50 0 |>.wr pUPD 0x54 0).distPost

/-- `ABORT`. -/
def State.updAbort (s : State) : State := s.sessEnd.updResult 0

end Sys2Proof.Machine
end

