-- ==== Sys2Proof/Machine/ResetOps.lean ====
section
/-!
DEFINITION. Resets and boots: which bits of the register file each reset class keeps (Table 1.7), PORT and BLOCK resets, POR and COLD resets, what R97 starts,
firmware entry, WARM resets and wakes.
-/

namespace Sys2Proof.Machine

/-! ### What the register file keeps -/

def allBits : Nat := 2 ^ 32 - 1

/-- Return every register to its reset value but for the bits a mask gives its key; snapshots of `drop` pages are released. -/
def State.maskRegs (s : State) (keep : Nat → Nat) (drop : Nat → Bool) : State :=
  let f := fun m (c : Nat × Word) =>
    let k := BitVec.ofNat 32 (keep c.1)
    Sparse.set resetWord m c.1 ((c.2 &&& k) ||| (resetWord c.1 &&& ~~~k))
  { s with
    regs := s.regs.foldl f []
    snaps := s.snaps.filter fun c => !drop (c.1 / 64) }

/-- Every register of the page is in the AON domain (`PG_CAPS.AON`, Table 2.4). -/
def aonPage (pg : Nat) : Bool :=
  match pageRow pg with
  | some r => bitAt r.caps 30
  | none => false

/-- Bits a WARM reset keeps, and leaving STANDBY or ZERO (Table 1.7, R78): AON pages, but for a BLOCK or PORT reset that completes with it (R29); the AON fields
of mixed pages (R243, R398), the reset cause (R41), what boot found (R93, R97), retirement (R137, R149), what R327 keeps, the lease timer (R352). -/
def warmMask (k : Nat) : Nat :=
  let off := 4 * (k % 64)
  match pageRow (k / 64) with
  | none => 0
  | some r =>
    let only := fun (l : List Nat) => if l.contains off then allBits else 0
    if bitAt r.caps 30 then (if off = 8 then allBits - 2 else allBits)
    else match r.kind with
    | .id => if 0x20 ≤ off then allBits else 0
    | .sys => if off = 0x0C then 0xF else if off = 0x28 then allBits else 0
    | .boot => if 0x20 ≤ off then allBits else 0
    | .pol => if off = 0x0C ∨ (0x20 ≤ off ∧ off ≤ 0x40) then allBits else 0
    | .gauge => only [0x20, 0x24, 0x40, 0x44]
    | .batid => if off = 0x28 then 0x100 else 0
    | .eng => only [0x30]
    | .store => only [0x0C]
    | .bank => if off = 0x20 ∨ off = 0x24 ∨ 0x40 ≤ off then allBits else if off = 0x2C then 1 else 0
    | .otp => only [0x0C, 0x20, 0x24]
    | .dbg => only [0x20]
    | .host => only [0x28]
    | .hg => only [0x0C, 0x24, 0x30, 0x3C]
    | .fleet => if off = 0x0C ∨ (0x24 ≤ off ∧ off ≤ 0x54) then allBits else 0
    | .place => only [0x28]
    | .upd => if off = 0x24 then 0x3C else 0
    | _ => 0

/-- Bits a BLOCK reset of their page keeps (Table 1.7, R86, R149, R243, R369, R376): what is live, the tick counter, energy accumulators, retirement, the
AON fields of mixed pages, the task an engine holds. -/
def blockMask (kind : PageKind) (off : Nat) : Nat :=
  let only := fun (l : List Nat) => if l.contains off then allBits else 0
  match kind with
  | .clk => only [0x0C, 0x20, 0x24, 0x28]
  | .sup => only [0x0C]
  | .aon => if off = 0x24 then 7 else 0
  | .pol => if off = 0x0C ∨ (0x20 ≤ off ∧ off ≤ 0x40) then allBits else 0
  | .gauge => only [0x20, 0x24, 0x40, 0x44]
  | .batid => if off = 0x28 then 0x100 else 0
  | .engy => if 0x40 ≤ off then allBits else 0
  | .eng => only [0x20]
  | .store => only [0x0C]
  | .bank => if off = 0x20 ∨ off = 0x24 ∨ 0x80 ≤ off then allBits else if off = 0x2C then 1 else 0
  | .flash => if off = 0x30 then 1 else 0
  | .nvd => only [0x34]
  | .host => only [0x28]
  | .upd => if off = 0x24 then 0x3C else 0
  | .mains => if off = 0x0C ∨ 0x20 ≤ off then allBits else 0
  | .cmpt => if off = 0x0C then allBits else if 0x20 ≤ off ∧ off ≤ 0x3C then 0xFFF else 0
  | _ => 0

/-! ### PORT reset (R28, R160, R281) -/

/-- The pages of a port. -/
def portPages (n : Port) : List Nat := [pCC n, pPDL n, pGUARD n, pMEAS n, pPOL n, pVDM n]

/-- A reset of pages begins: their registers are at reset, and `RESETTING` reads 1 until the first tick boundary (R46). -/
def State.pagesReset (s : State) (pages : List Nat) (keep : Nat → Nat) : State :=
  let s := s.maskRegs (fun k => if pages.contains (k / 64) then keep k else allBits) pages.contains
  let s := { s with inForce := s.inForce.filter fun c => !pages.contains (c.1 / 64) || keep c.1 != 0 }
  pages.foldl (init := s) fun s pg =>
    let s := s.put pg PG.CTRL_BLOCK_RESET 1
    { s with rst := { s.rst with blocks := (pg, s.tick) :: s.rst.blocks.filter fun c => c.1 != pg } }

/-- Records of a port that are QUEUED or ACTIVE end REFUSED, with no TX slot (chapter 8). -/
def State.pdlRefuse (s : State) (n : Port) : State :=
  let s := ((s.wr (pPDL n) PDL.TASK_TX_ENTRY.off 0).wr (pPDL n) PDL.TASK_ERR_ENTRY.off 0).txEndAll n (fun _ _ => true) 8
  (s.reasmDrop n).modPdl n fun p => { PdlSt.init with line := p.line, wire := p.wire }

/-- A PORT reset that ends a retirement: UNRETIRED, and CC passes through ErrorRecovery (R177, R281). -/
def State.retiredOut (s : State) (n : Port) (was : Bool) : State :=
  if was then (s.ccEnter n .errorRecovery).guardEvt n GUARD.PG_EVT_UNRETIRED else s

/-- The copy marks of a port after its PORT reset: kept, with the report of them, unless the port was RETIRED (R281, R286). -/
def State.copiesKept (s : State) (n : Port) (retired : Bool) : State :=
  if retired then ((s.setFailed n 0).put pCMPT (CMPT.PORT_STAT_PASSED.at n.val) 0).retestPort n
  else s.putB (pGUARD n) GUARD.PG_STAT_DEGRADED (s.failedMask n != 0)

/-- A PORT reset: the paths go off, an attached port detaches, the pages return to reset but for the generation, which has gone up by 1, and the port
stays in Disabled until its `VBUS` is below 0.8 V (R160). -/
def State.portReset (s : State) (n : Port) : State :=
  let st := s.ccState n
  let s := (s.guardHalt n).pdlRefuse n
  let s := if st.attached then s.detach n (st == .attachedSrc || st == .debugSrc)
    else ((s.genUp n).snapClear n).transAbandon n
  let s := (s.vconnOff n).hpdClear n
  let retired := s.guardState n == 7
  let s := s.pagesReset (portPages n) fun k =>
    if k = regKey (pCC n) 0x0C then 0x00FF0000 else if k = regKey (pGUARD n) 0x5C then 0xFFFF0000 else 0
  let s := ((s.put (pCC n) CC.PG_STAT_STATE 0).put (pCC n) CC.PG_STAT_CLAMP 0).retiredOut n retired
  let s := s.copiesKept n retired
  s.modPort n fun p => { p with
    cc := { CcSt.init with cc1Mv := p.cc.cc1Mv, cc2Mv := p.cc.cc2Mv, vconnDsch := p.cc.vconnDsch, rstHold := true, timers := p.cc.timers }
    pol := { PolSt.init with twinTrim := p.pol.twinTrim, cenOff := p.pol.cenOff }
    fw := FwSt.init
    guard := { GuardSt.init with dsch := p.guard.dsch, dschWant := p.guard.dschWant, dschTrip := p.guard.dschTrip }
    meas := { MeasSt.init with on := p.meas.on }
    irqOn := false
    irqWait := false }

/-- A PORT reset is asked for by a write to page `pg`: refused while one of the port's pages is locked (R45). -/
def State.portResetAsk (s : State) (pg : Nat) (n : Port) : State :=
  if (portPages n).any s.locked then s.lockedWrite pg else s.portReset n

/-! ### BLOCK reset (R28, R45, R46) -/

/-- Pages whose `BLOCK_RESET` bit does nothing (Table 2.5). -/
def noBlockReset (k : PageKind) : Bool :=
  match k with
  | .id | .sys | .evt | .boot | .otp | .lock | .dbg => true
  | _ => false

/-- The running NVD command fails with the reset of its page; the slot being written or erased holds no valid record (R112). -/
def State.nvdDrop (s : State) : State :=
  let s := match s.nvdOp with
    | some (.write area _) => s.nvdErasePage (2 * area + s.writeSlot area)
    | some (.invalidate area) => s.nvdErasePage (2 * area)
    | _ => s
  { s with nvdOp := none }

/-- What a BLOCK reset does beside the page's registers. -/
def State.blockHidden (s : State) (kind : PageKind) (i : Nat) : State :=
  let n : Port := Fin.ofNat 8 i
  let l : Link := Fin.ofNat 3 i
  match kind with
  | .pdl => (s.pdlRefuse n).modPort n fun p => { p with fw := { p.fw with softDue := s.snapValid n, outbox := [], asked := .nothing } }
  | .meas => s.modPort n fun p => { p with meas := { MeasSt.init with on := p.meas.on } }
  | .pol => s.modPol n fun p => { p with cmds := [] }
  | .vdm => (s.hpdClear n).modPort n fun p => { p with irqOn := false, irqWait := false }
  | .share => s.shareReset
  | .cmpt => { s with cmpt := { pos := none, due := true, bad := false, seen := [] } }
  | .host => { s with host := { HostSt.init with seen := s.host.seen, stuck := s.host.stuck } }
  | .hg => (if s.linkUp l then s.linkTo l 0 else s).modLink l fun _ => .init
  | .fleet => { s with fleet := .init }
  | .twin => { s with twin := .init }
  | .gpio => { s with gpio := { GpioSt.init with seen := s.gpio.seen } }
  | .nvd => s.nvdDrop
  | .upd => s.sessEnd
  | .eng => s.modEng (Fin.ofNat 16 i) fun e => { e with faultTicks := [] }
  | _ => s

/-- Links are off on a SOLO device: `HGx.PG_CTRL.ENABLE` reads 0. -/
def State.hgSolo (s : State) : State :=
  if s.role = .solo then ((s.put (pHG 0) HG.PG_CTRL_ENABLE 0).put (pHG 1) HG.PG_CTRL_ENABLE 0).put (pHG 2) HG.PG_CTRL_ENABLE 0 else s

/-- What follows once the registers are at reset. -/
def State.blockAfter (s : State) (kind : PageKind) : State :=
  match kind with
  | .gauge | .learn => s.gaugeRestore
  | .batid => s.winLoad
  | .hg => s.hgSolo
  | _ => s

/-- A write of 1 to `PG_CTRL.BLOCK_RESET`. -/
def State.blockReset (s : State) (pg : Nat) : State :=
  match pageRow pg with
  | none => s
  | some r =>
    let i := pg - r.base
    if noBlockReset r.kind || s.resetting pg then s
    else if r.kind = .cc ∨ r.kind = .guard then s.portResetAsk pg (Fin.ofNat 8 i)
    else if s.locked pg then s.lockedWrite pg
    else ((s.blockHidden r.kind i).pagesReset [pg] fun k => blockMask r.kind (4 * (k % 64))).blockAfter r.kind

/-- The reset of a page's registers completes at a boundary after the write (R46). -/
def State.blockDone (s : State) (pg : Nat) : State :=
  if s.rst.blocks.any fun c => c.1 == pg && decide (c.2 < s.tick) then
    let s := s.put pg PG.CTRL_BLOCK_RESET 0
    { s with rst := { s.rst with blocks := s.rst.blocks.filter fun c => c.1 != pg } }
  else s

/-! ### POR and COLD resets -/

/-- A reset interrupts a flash command: a word program ends, an erase leaves the sector erased (log entry 75). -/
def State.flashDrop (s : State) : State :=
  let s := match s.flashOp with
    | some (.program a v) => s.codeProgram a v
    | some (.erase a) => s.codeErase a
    | none => s
  { s with flashOp := none }

/-- A POR or COLD reset: every state returns to its reset value but for the flash arrays and OTP, levels at pins, the boot record, and the causes merged so
far (R26, R29, R41), and the AON source in use (R70). The reset holds until COLD_BOOT. -/
def State.coldReset (s : State) (cause : Nat) : State :=
  let s := s.flashDrop.nvdDrop.otpDrop
  { State.reset with
    pending := s.pending, nvd := s.nvd, code := s.code, otp := s.otp, otpMargin := s.otpMargin, part := s.part, pins := s.pins
    rst := { s.rst with
      causes := s.rst.causes ||| BitVec.ofNat 6 (2 ^ cause), blocks := []
      onVbus := if s.phase = .reset then s.rst.onVbus else s.fld pSUP SUP.PG_STAT_SRC == 1 }
    boot := { State.reset.boot with journal := s.boot.journal, now := s.boot.journal }
    mains := { MainsSt.init with hvSeen := s.mains.hvSeen, conv := s.mains.hvSeen, link := s.mains.link }
    ports := s.ports.map fun p => { PortSt.init with
      vbusMv := p.vbusMv, vinMv := p.vinMv, cc := { CcSt.init with cc1Mv := p.cc.cc1Mv, cc2Mv := p.cc.cc2Mv } }
    fresh := s.fresh }

/-! ### Verification and choice of the bank (R97, R98) -/

/-- Bytes of a bank. -/
def State.imgBytes (s : State) (b : Bool) (off n : Nat) : List Byte := Sparse.getList flashDflt s.code (bankBase b + off) n

/-- `BODY_SHA` is the SHA-256 of the body (R457). -/
def State.imgDigestOk (s : State) (b : Bool) : Bool := sha256 (s.imgBytes b 256 (s.hdrNat b 8 4 - 256)) == s.imgBytes b 96 32

/-- The slot whose hash `PUBKEY` has: vendor image keys 0 and 1, 4 the owner's (Table 5.4). -/
def State.imgKey (s : State) (b : Bool) : Option Nat :=
  let h := sha256 (s.imgBytes b 32 64)
  [0, 1, 4].find? fun k => s.keyHash k == h

/-- The signature over header bytes 0-127 checks under `PUBKEY` (R457). -/
def State.imgSigOk (s : State) (b : Bool) : Bool :=
  let n := fun (off : Nat) => beNat (s.imgBytes b off 32)
  ecdsaOk (n 32) (n 64) (n 128) (n 160) (beNat (sha256 (s.imgBytes b 0 128)))

/-- The first failing check of R98, as `VERIFY.FAIL` codes it; 0: the bank is good. -/
def State.verifyBank (s : State) (b : Bool) : Nat :=
  if !s.hdrOk b then 1
  else if !s.imgDigestOk b then 2
  else match s.imgKey b with
  | none => 5
  | some slot =>
    if slot = 4 ∧ bitAt s.ownCfg 3 = false then 6
    else if s.revoked slot then 4
    else if s.boot.keyBad.getLsbD slot then 5
    else if !s.imgSigOk b then 3
    else 0

/-- A verification has run: `CODE_DIRTY` clears, and a failure is reported. -/
def State.verified (s : State) (code : Nat) : State :=
  let s := s.put pBOOT BOOT.BANK_STAT_CODE_DIRTY 0
  if code = 0 then s else s.put pBOOT BOOT.VERIFY_FAIL code

/-- The most recently confirmed bank that verifies. -/
def State.pickConfirmed (s : State) : State × Option Bool :=
  let order := if s.boot.now.recent = some true then [true, false] else [false, true]
  let rec go : State → List Bool → State × Option Bool
    | s, [] => (s, none)
    | s, k :: l =>
      if s.bankState k ≠ .confirmed then go s l
      else
        let code := s.verifyBank k
        if code = 0 then (s.verified 0, some k) else go (s.verified code) l
  go s order

/-- R97: the bank to start, `none` for recovery. -/
def State.chooseBank (s : State) : State × Option Bool :=
  let ok := s.nvOk
  let s := [false, true].foldl (init := s) fun s k =>
    if s.bankState k = .staged ∧ ok then
      let code := s.verifyBank k
      let s := s.verified code
      if code = 0 then s.bootDecide fun r => r.setBank k ⟨.trial, 0⟩
      else (s.bootDecide fun r => r.setBank k ⟨.rejected, 0⟩).raise pBOOT BOOT.PG_EVT_STAGED_BAD
    else s
  let s := [false, true].foldl (init := s) fun s k =>
    if s.bankState k = .trial ∧ 3 ≤ (s.boot.now.bank k).trials then
      (s.bootDecide fun r => r.setBank k ⟨.rejected, 0⟩).raise pBOOT BOOT.PG_EVT_ROLLBACK
    else s
  match [false, true].find? fun k => ok && s.bankState k == .trial with
  | none => s.pickConfirmed
  | some t =>
    let n := (s.boot.now.bank t).trials
    let s := s.bootDecide fun r => r.setBank t ⟨.trial, n + 1⟩
    let code := s.verifyBank t
    let s := s.verified code
    if code = 0 then (s, some t)
    else ((s.bootDecide fun r => r.setBank t ⟨.rejected, 0⟩).raise pBOOT BOOT.PG_EVT_ROLLBACK).pickConfirmed

/-! ### Firmware entry (R454) -/

/-- The trial timer runs from the entry (R466); `TRIAL_S` below 30 acts as 30. -/
def State.trialStart (s : State) : State :=
  let t := if s.bankState s.activeBank = .trial then some (s.upd.entryTick + 20000 * max 30 (s.fld pUPD UPD.CFG_TRIAL_S)) else none
  { s with upd := { s.upd with trialEnd := t } }

/-- The standard image's boot task removes the clamp of every source-only port and of every other port that is enabled (R94). -/
def State.clampTask (s : State) (n : Port) : State :=
  let cc := pCC n
  if s.fld cc CC.CFG_DB_CLAMP = 0 || !(s.enabled cc || s.fld cc CC.CFG_ROLE == 1) then s
  else if s.locked cc then s.lockedWrite cc
  else s.put cc CC.CFG_DB_CLAMP 0

/-- Tadpole enters firmware in the active bank: instruction RAM loaded from the body that follows the header, scratch cleared, fault handler and stack limit
set, the NV owner flag loaded (R463), the boot task posted, whose removal of the clamps (R94) and whose holding of unplaced ports (R340) take place here. `arg`: 0 cold, 1 warm, 2 wake. -/
def State.fwEntry (s : State) (arg : Nat) : State :=
  let b := s.activeBank
  let body := Sparse.getList flashDflt s.code (bankBase b + 256) (min (s.hdrNat b 24 4) 262144)
  let s := { s with iram := Sparse.setList flashDflt [] 0 body, phase := .run, upd := { s.upd with entryTick := s.tick } }
  let s := s.forEngines fun s k =>
    if (s.eng k).retired then s
    else s.modEng k fun e => { e with scratch := [], fhnd := BitVec.ofNat 32 (s.hdrNat b 20 4), stklim := 0x1800 }
  let s := ((s.stickySet 32).put pBOOT BOOT.FW_VERSION_VERSION (s.hdrVersion b)).trialStart
  let s := if s.flag pBATID BATID.STAT_PRESENT && s.flag pBATID BATID.STAT_SWAP_SEEN then s.packLoad else s
  let s := ((s.putB pUPD UPD.STAT_NV_LOCK s.ownerFlagNv).forPorts State.clampTask).forPorts fun s n => s.holdPort n ((s.own n).grant == 0)
  s.post 256
    { cls := 0, port := 0, valid := false, flash := false, gen := 0, budget := 4800, deadline := (s.tick + 100) % 2 ^ 32, entry := s.hdrNat b 16 4
      arg := arg, affinity := 0xFFFF }

/-- Recovery begins (R99): every guard is OFF; a clamp that stands stays, one removed before a WARM reset is not restored (R159, log entry 101). -/
def State.recoverEnter (s : State) : State :=
  ((({ s with phase := .run }).put pBOOT BOOT.PG_STAT_RECOVERY 1).put pBOOT BOOT.VERIFY_OK 0).forPorts State.guardHalt

/-- A bank starts, or recovery begins (R97, R99). -/
def State.startBank (s : State) (k : Option Bool) (arg : Nat) : State :=
  match k with
  | none => s.recoverEnter
  | some t =>
    let s := ((s.put pBOOT BOOT.PG_STAT_RECOVERY 0).putB pBOOT BOOT.BANK_STAT_ACTIVE t).put pBOOT BOOT.VERIFY_OK 1
    (s.put pBOOT BOOT.VERIFY_KEY ((s.imgKey t).getD 0)).fwEntry arg

/-- R97, and what it chooses starts. -/
def State.chooseStart (s : State) (arg : Nat) : State :=
  let r := s.chooseBank
  r.1.startBank r.2 arg

/-- A commit in recovery runs R97 again; recovery ends when it finds a bank. -/
def State.recoverStart (s : State) : State :=
  let c := s.chooseBank
  if c.2.isSome then c.1.startBank c.2 0 else c.1

/-- The end of a reset (R41): `RST_CAUSE` takes every cause merged into it, `RESET_DONE` is set. -/
def State.resetEnd (s : State) (us : BitVec 24) : State :=
  let s := ((s.wr pSYS 0x28 (s.rst.causes.setWidth 32)).raise pSYS SYS.PG_EVT_RESET_DONE).put pBOOT BOOT.BOOT_TIME_US_TIME us.toNat
  { s with rst := { causes := 0, browned := false, shipWake := none, blocks := [], onVbus := false } }

/-! ### Pads held through a WARM reset or a wake (R60) -/

/-- `PIN_CFG[i]`. -/
def State.pinWord (s : State) (i : Fin 8) : Nat := (s.rd pGPIO (0x20 + 4 * i.val)).toNat

/-- The configuration a pad's function and pull follow: the one it was held with, or `PIN_CFG`. A pad held while the page was off is an input without a
pull (log entry 94). -/
def State.padCfg (s : State) (i : Fin 8) : Nat :=
  if bitAt (s.fld pGPIO GPIO.PG_STAT_HELD) i.val then s.gpio.heldCfg.get i else s.pinWord i

/-- The level a pad drives, if it drives one: function OUTPUT, OUTPUT_OD (low only), HPD (Table 3.5); a held pad keeps its level. `TICK_OUT` is low between
its pulses (R59). In SHIP every pad is high impedance (R60). -/
def State.padDrive (s : State) (i : Fin 8) : Option Bool :=
  let c := s.padCfg i
  let func := bitsOf c 0 4
  let held := bitAt (s.fld pGPIO GPIO.PG_STAT_HELD) i.val
  let kept := s.gpio.heldOut.getLsbD i.val
  let out := bitAt (s.fld pGPIO GPIO.OUT_LEVEL) i.val != bitAt c 12
  if !s.enabled pGPIO || s.phase == .ship then none
  else match func with
  | 1 => some (if held then kept else out)
  | 2 => if (if held then kept else out) then none else some false
  | 3 => some (if held then kept else s.hpdPin (Fin.ofNat 8 (bitsOf c 4 3)))
  | 4 => some false
  | _ => none

/-- What a pad shows that nobody drives: its pull, in INPUT and in a released OUTPUT_OD (Table 3.5); without one the level is open (log entry 1). -/
def State.padPull (s : State) (i : Fin 8) : Bool :=
  let c := s.padCfg i
  match bitsOf c 8 2 with
  | 1 => false
  | 2 => true
  | _ => s.free.getLsbD i.val

/-- The level at a pad: what it drives, else what the board gives it, else its pull. -/
def State.padLevel (s : State) (i : Fin 8) : Bool :=
  (s.padDrive i).getD (if s.pins.gpioOpen.getLsbD i.val then s.padPull i else s.pins.gpio.getLsbD i.val)

/-- `IN`: the level after inversion; HPD and TICK_OUT are not inverted; 0 with the input buffers off. `INV` is that of `PIN_CFG`, for a held pad too (log
entry 94). -/
def State.gpioIn (s : State) : Nat :=
  if s.enabled pGPIO then
    ((List.finRange 8).filter fun i =>
      let f := bitsOf (s.padCfg i) 0 4
      s.padLevel i != (bitAt (s.pinWord i) 12 && f != 3 && f != 4)).foldl (fun m i => m + 2 ^ i.val) 0
  else 0

/-- Pads whose level, after inversion, went from `was` to its present one with an edge that `PIN_CFG[i].EDGE` selects (R58). -/
def State.edgeBits (s : State) (was : Nat) : Nat :=
  let now := s.gpioIn
  ((List.finRange 8).filter fun i =>
    let sel := bitsOf (s.pinWord i) 10 2
    (bitAt now i.val && !bitAt was i.val && bitAt sel 0) || (!bitAt now i.val && bitAt was i.val && bitAt sel 1)).foldl (fun m i => m + 2 ^ i.val) 0

/-- `IN` is taken as it is, with no edge judged. -/
def State.gpioSync (s : State) : State := { s with gpio := { s.gpio with seen := BitVec.ofNat 8 s.gpioIn } }

/-- Each edge selected since the last look sets its event, while the page operates (R58, Table 3.5). -/
def State.gpioWatch (s : State) : State :=
  if s.live && s.enabled pGPIO && !s.resetting pGPIO then
    let m := s.edgeBits s.gpio.seen.toNat
    (if m = 0 then s else s.raiseBits pGPIO m).gpioSync
  else s

/-- Do something that may move pads. Edges of other causes are judged at the tick boundary. -/
def State.withEdges (s : State) (f : State → State) : State := (f s.gpioWatch).gpioWatch

/-- What the pads are to keep. -/
def State.padHold (s : State) : GpioSt :=
  { heldCfg := Vector.ofFn fun i => if s.enabled pGPIO then s.padCfg i else 0
    heldOut := BitVec.ofNat 8 (((List.finRange 8).filter fun i => (s.padDrive i).getD (bitsOf (s.padCfg i) 0 4 == 2)).foldl (fun m i => m + 2 ^ i.val) 0)
    pulse := 0
    seen := s.gpio.seen }

/-! ### WARM reset and wake -/

/-- CORE returns to reset (Table 1.7, R78): registers, engines but for retirement, queues, the protocol layers, the host bus, sessions, what firmware held in
memory. `pads` is what the GPIO pads keep. -/
def State.coreClear (s : State) : State :=
  let pads := s.padHold
  let conv := s.flashDrop.nvdDrop.otpDrop
  let s := (conv.maskRegs warmMask fun pg => !aonPage pg).hgSolo
  let s := { s with shadow := [], iram := [], gpio := pads, host := { HostSt.init with stuck := s.host.stuck } }
  let s := (s.put pGPIO GPIO.PG_STAT_HELD 0xFF).gpioSync.dropTasks
  let s := { s with plcr := { s.plcr with hwDesc := [] }, st := { s.st with watch := [], scrubPos := 0, scrubMs := 100 } }
  let s := s.forEngines fun s k => s.modEng k fun e => { EngSt.init with retired := e.retired, faultTicks := e.faultTicks }
  let s := s.forPorts fun s n => s.modPort n fun p => { p with
    pdl := { PdlSt.init with line := p.pdl.line, wire := p.pdl.wire }
    pol := { p.pol with cmds := [] }
    fw := FwSt.init
    meas := { MeasSt.init with on := p.meas.on }
    irqOn := false
    irqWait := false }
  let s := s.shareReset.sessEnd.cmptRestart
  let s := { s with
    twin := { s.twin with ports := s.twin.ports.map fun (t : TwinPort) => ({ t with mir := none } : TwinPort) }
    upd := { s.upd with named := false, activate := none, reports := [], issued := false, trialEnd := none, dist := none }
    dbg := { s.dbg with issued := false, checking := false, against := none }
    aon := { s.aon with entry := none }
    fleet := { s.fleet with inbox := s.fleet.inbox.filter fun f => frType f.bytes == 3 || frType f.bytes == 4, proxy := none, entryLeft := 8 }
    rst := { s.rst with blocks := [] } }
  s.gaugeRestore

/-- Producers whose event is still pending post their slots again (R124): the CC slot, the trip slot and the energy conversion, whose tasks are AON registers. -/
def State.repostPending (s : State) : State :=
  let s := if s.flag pENGY ENGY.PG_EVT_CONV_DUE then
      s.postGlobal 108 4 false (s.rd pENGY ENGY.TASK_CONV_ENTRY.off).toNat (s.fld pENGY ⟨0x10, 0, 16⟩) else s
  s.forPorts fun s n =>
    let s := if (s.rd (pCC n) 0x10) &&& 0xC4B != 0 then s.modCc n fun c => { c with taskDue := true } else s
    if (s.rd (pGUARD n) 0x10) &&& 0x461 != 0 then
      s.postKept (72 + n.val) 0 n (s.rd (pGUARD n) GUARD.TASK_TRIP_ENTRY.off).toNat (s.fld (pGUARD n) ⟨0x10, 0, 16⟩)
    else s

/-- Firmware restores a port's `VDM` page from its mode record (R254); a record that fails its CRC leads to Hard Reset. A record of zeros was never written
(log entry 77). -/
def State.modeRestore (s : State) (n : Port) : State :=
  let a := 0x100 + 0x10 * n.val
  let b := s.aosRead a 14
  if b.all (· == 0) then s
  else if crc16 b = s.aosNat (a + 14) 2 then
    let w := fun i => BitVec.ofNat 32 (numAt b i 4)
    let pg := pVDM n
    ((s.wr pg 0x8C (w 0)).wr pg 0x98 (w 4)).hpdWrite n (bitAt (w 8).toNat VDM.HPD_LEVEL.lo)
  else s.hardResetStart n

/-- What the standard image does at its warm entry: modes restored, the ledger noted as rebuilt on a placing device (R358). -/
def State.warmFw (s : State) : State :=
  if s.fw then
    let s := s.forPorts fun s n => (s.modPort n fun p => { p with fw := { p.fw with softDue := s.snapValid n } }).modeRestore n
    s.raiseIf (s.places && s.role != .solo) pPLACE PLACE.PG_EVT_LEDGER_REBUILT
  else s

/-- WARM reset (R100, R101, R465). In recovery R97 runs again (log entry 89). -/
def State.warmBoot (s : State) (us : BitVec 24) : State :=
  let act := s.activeBank
  let rec_ := s.recovery
  let order := s.upd.activate
  let dirty := s.flag pBOOT BOOT.BANK_STAT_CODE_DIRTY
  let wd := (s.rst.causes &&& 0x30 != 0) && s.bankState act == .trial && !rec_
  let n := (s.boot.now.bank act).trials
  let s := s.coreClear.put pBOOT BOOT.PG_STAT_WARM_ENTRY 1
  let s := if wd && decide (n < 3) then
      (s.bootDecide fun r => r.setBank act ⟨.trial, n + 1⟩).raise pBOOT BOOT.PG_EVT_TRIAL_WDOG
    else s
  let full := order.isSome || rec_ || (wd && decide (3 ≤ n))
  let code := s.verifyBank act
  let s := if full then s.chooseStart 1
    else if dirty then
      let s := s.verified code
      if code = 0 then s.startBank (some act) 1
      else s.chooseStart 1
    else (s.put pSYS SYS.PG_STAT_VERDICT_REUSED 1).fwEntry 1
  let s := match order with
    | none => s
    | some t =>
      let runs := !s.recovery && s.activeBank == t
      { s.put pUPD UPD.STAT_ACTIVATED 1 with upd := { s.upd with reports := [if runs then 3 else 4] } }
  ((s.resetEnd us).repostPending).warmFw

/-- CORE wakes from STANDBY or ZERO (R78): no reset; the store is initialised, the verdict reused, firmware entered at its wake entry. `src` and `n`: what
`LAST_WAKE` shows. -/
def State.wakeCore (s : State) (srcs : Nat) (n : Port) : State :=
  let s := s.coreClear
  let s := { s with store := [], st := { s.st with bad := [] }, aon := { s.aon with entry := none, zeroAsked := false, wakes := 0 } }
  let s := (s.wr pAON 0x2C (BitVec.ofNat 32 (srcs + (if bitsOf srcs 0 2 ≠ 0 then 65536 * n.val else 0)))).put pAON AON.MODE_STAT_MODE 0
  let s := (s.put pCLK CLK.PG_STAT_RUNNING 1).put pCLK CLK.PG_STAT_PLL_LOCK 1
  (s.put pSYS SYS.PG_STAT_VERDICT_REUSED 1).fwEntry 2

end Sys2Proof.Machine
end

