-- ==== Sys2Proof/Machine/HostOps.lean ====
section
/-!
DEFINITION. The host bus beside its transactions (chapter 16): the summary, Host Notify and `HINT`, status, posted operations; register commands of `AON`, `DBG` and
`GPIO`.
-/

namespace Sys2Proof.Machine

/-! ### Status (R412) -/

/-- Change the host-bus state. -/
def State.modHost (s : State) (f : HostSt → HostSt) : State := { s with host := f s.host }

/-- Load the status of Table 16.2. -/
def State.hostLoad (s : State) (code cmd detail : Nat) : State :=
  let s := ((s.put pHOST HOST.LAST_CODE code).put pHOST HOST.LAST_CMD cmd).put pHOST HOST.LAST_DETAIL detail
  s.modHost fun h => { h with own := false }

/-- An error of Table 16.3: the status with its event and its count. -/
def State.hostErr (s : State) (code cmd : Nat) : State :=
  let s := match code with
    | 7 => (s.raise pHOST HOST.PG_EVT_PEC_ERR).bump pHOST HOST.ERR_CNT_PEC 1
    | 8 => (s.raise pHOST HOST.PG_EVT_MALFORMED).bump pHOST HOST.ERR_CNT_MALFORMED 1
    | 10 => s.raise pHOST HOST.PG_EVT_BAD_CMD
    | _ => s
  s.hostLoad code cmd 0

/-- The device posts an operation (R408): the status is PENDING until its outcome. -/
def State.hostPost (s : State) (op : PostOp) (cmd : Nat) : State :=
  (s.hostLoad 1 cmd 0).modHost fun h => { h with posted := some op, own := true }

/-- The posted operation ends: its outcome replaces PENDING while no later command has loaded the status. -/
def State.hostPostDone (s : State) (code detail : Nat) : State :=
  let s := if s.host.own then (s.put pHOST HOST.LAST_CODE code).put pHOST HOST.LAST_DETAIL detail else s
  s.modHost fun h => { h with posted := none, own := false }

/-- `HOST.LAST` with its flags. -/
def State.hostLast (s : State) : Nat :=
  setBits (setBits (s.rd pHOST 0x30).toNat 24 1 s.host.posted.isSome.toNat) 25 1 s.host.held.isSome.toNat

/-- Whether the target answers its address (R401), which it does not during a reset of its page (Table 16.4). -/
def State.hostOn (s : State) : Bool := s.live && s.role != .worker && s.flag pSUP SUP.PG_STAT_VDDIO_OK && !s.resetting pHOST

/-! ### The summary, Host Notify and HINT (R413, R417-R420) -/

/-- The 64 bits `EVENT_SUMMARY` returns (R413). -/
def State.hostSum (s : State) : Nat :=
  if s.places && s.role != .solo then s.evtSum 0 + 2 ^ 32 * s.evtSum 1
  else if s.attn then 2 ^ (s.node % 64) else 0

/-- Bits of the summary that have risen since they were last seen at 0. -/
def State.hostRisen (s : State) : Bool := (List.range 64).any fun i => bitAt s.hostSum i && !bitAt s.host.seen i

/-- Follow the summary: bits that fell may rise again, a bit that rises in the hold is remembered, one that rises while `NOTIFY_EN` = 0 starts no notify (R417), a
fallback ends when the summary is zero. -/
def State.hostWatch (s : State) : State :=
  let sum := s.hostSum
  let rise := s.hostRisen && s.host.holding
  let s := s.modHost fun h => { h with seen := if rise || !s.flag pHOST HOST.CFG_NOTIFY_EN then sum else h.seen &&& sum, rose := h.rose || rise }
  if sum = 0 then s.put pHOST HOST.PG_STAT_FALLBACK 0 else s

/-- `HINT` is driven low (R418); it is released while `VDDIO` is absent (R68). -/
def State.hint (s : State) : Bool :=
  let fb := s.flag pHOST HOST.PG_STAT_FALLBACK
  s.flag pSUP SUP.PG_STAT_VDDIO_OK &&
    match s.fld pHOST HOST.CFG_HINT_MODE with
    | 0 => false
    | 2 => fb
    | _ => fb || s.hostSum != 0

/-- A notify ends: the hold begins, and covers a bit that rose while the notify was on the bus (Table 16.4). -/
def State.notifyOver (s : State) : State :=
  (s.put pHOST HOST.PG_STAT_NOTIFYING 0).modHost fun h => { h with onBus := false, holding := true, rose := s.hostRisen, seen := s.hostSum }

/-- An attempt begins: its data are taken from the summary. -/
def State.notifyBegin (s : State) : State :=
  let sum := s.hostSum
  let low := ((List.range 64).find? fun i => bitAt sum i).getD 0
  let cnt := ((List.range 64).filter fun i => bitAt sum i).length
  ((s.put pHOST HOST.NOTIFY_STAT_DATA (low + 256 * cnt)).put pHOST HOST.PG_STAT_NOTIFYING 1).modHost fun h => { h with onBus := true, seen := sum }

/-- An attempt fails (R420): the ninth failure ends the notify and begins the fallback. -/
def State.notifyFail (s : State) : State :=
  let s := (s.bump pHOST HOST.ERR_CNT_ARB 1).put pHOST HOST.NOTIFY_STAT_TRIES (min 9 (s.fld pHOST HOST.NOTIFY_STAT_TRIES + 1))
  let s := s.modHost fun h => { h with onBus := false }
  if s.fld pHOST HOST.NOTIFY_STAT_TRIES < 9 then s
  else ((s.raise pHOST HOST.PG_EVT_NOTIFY_FAIL).put pHOST HOST.PG_STAT_FALLBACK 1).notifyOver

/-- How an attempt on the bus ends: acknowledged, NACKed, or not yet. -/
def State.notifyResult (s : State) (done : Option Bool) : State :=
  match done with
  | none => s
  | some true => (s.raise pHOST HOST.PG_EVT_NOTIFY_SENT).notifyOver
  | some false => s.notifyFail

/-- The device that notifies: acting as manager, or SOLO, with `VDDIO` present and SDA not stuck. -/
def State.notifier (s : State) : Bool := s.hostOn && s.places && !s.host.stuck

/-- A notify starts afresh. -/
def State.notifyFresh (s : State) : State := (s.put pHOST HOST.NOTIFY_STAT_TRIES 0).notifyBegin

/-- `CMD.NOTIFY_NOW`. -/
def State.notifyNow (s : State) : State := if s.notifier && s.hostSum != 0 && !s.host.onBus then s.notifyFresh else s

/-- `CMD.CLEAR_STATS`. -/
def State.hostClear (s : State) : State := (s.wr pHOST 0x34 0).wr pHOST 0x3C 0

/-! ### Power modes (R76) -/

/-- A mode request finishes with a result. -/
def State.modeEnd (s : State) (r : Nat) : State := (s.put pAON AON.MODE_STAT_RESULT r).raise pAON AON.PG_EVT_MODE_DONE

/-- A port that forbids a low mode: enabled, and not Unattached or with `VBUS` at 0.8 V or more (R76). -/
def State.portActive (s : State) (n : Port) : Bool :=
  s.enabled (pCC n) && ((s.ccState n != .unattachedSnk && s.ccState n != .unattachedSrc) || decide (800 ≤ (s.port n).vbusMv))

/-- A wake source enabled for mode `m` is active already (R76). For SHIP `WAKE_EN` is disregarded and the `VBUS` detector is armed (R81). -/
def State.wakeActive (s : State) (m : Nat) : Bool :=
  let en := if m = 3 then 2 else s.fld pAON AON.WAKE_EN_SRC
  (bitAt en 1 && allPorts.any fun n => decide (4000 ≤ (s.port n).vbusMv)) || (bitAt en 3 && s.pins.motn)

/-- A request for a mode (0 RUN, 1 DOZE, 2 STANDBY, 3 SHIP, 4 ZERO). While an entry is in progress a request reports BUSY (log entry 78). -/
def State.modeReq (s : State) (m : Nat) : State :=
  if 4 < m then s.modeEnd 7
  else if s.aon.entry.isSome then s.modeEnd 5
  else if m ≤ 1 then
    let dozed := s.aon.dozed || s.fld pAON AON.MODE_STAT_MODE == 1
    ({ s with aon := { s.aon with dozed := dozed } }.put pAON AON.MODE_STAT_MODE m).modeEnd 0
  else if s.role ≠ .solo then s.modeEnd 1
  else if m = 4 ∧ s.part.x = false then s.modeEnd 2
  else if allPorts.any s.portActive then s.modeEnd 3
  else if s.wakeActive m then s.modeEnd 4
  else if s.flashOp.isSome || s.nvdOp.isSome || s.dbg.state == .erasing then s.modeEnd 5
  else { s.put pAON AON.MODE_STAT_RESULT 0 with aon := { s.aon with entry := some (m, 0) } }

/-- A wake event abandons an entry in progress (R77). -/
def State.entryWake (s : State) : State :=
  match s.aon.entry with
  | none => s
  | some _ => { s.modeEnd 4 with aon := { s.aon with entry := none } }

/-- One access to `AOS_DATA`: the word, or the write of it; the contract snapshots below 0x100 take no write (R218). The address advances and wraps. -/
def State.aosAccess (s : State) (v : Option Word) : State × Word :=
  let a := 4 * s.fld pAON AON.AOS_ADDR_WORD
  let w := BitVec.ofNat 32 (s.aosNat a 4)
  let s := match v with
    | none => s
    | some v => if a < 0x100 then s.lockedWrite pAON else s.aosPut a 4 v.toNat
  (s.incr pAON AON.AOS_ADDR_WORD, w)

/-! ### Debug access (R114-R116) -/

/-- The code of a debug state (Table 5.10). -/
def DbgState.code : DbgState → Nat
  | .closed => 0
  | .erasing => 1
  | .opened => 2

/-- Debug is OPEN. -/
def State.dbgOpen (s : State) : Bool := s.dbg.state == .opened

/-- `REQ.NEW_CHALLENGE`. -/
def State.dbgChallenge (s : State) (v : BitVec 64) : State :=
  let s := { s with dbg := { s.dbg with challenge := v, issued := true } }
  (s.put pDBG DBG.CHAL_LO_CHALLENGE v.toNat).put pDBG DBG.CHAL_HI_CHALLENGE (v.toNat / 2 ^ 32)

/-- `REQ.SUBMIT`: the check begins and uses up the challenge. Ignored outside CLOSED, and while a check runs (log entry 82). -/
def State.dbgSubmit (s : State) : State :=
  if s.dbg.state != .closed || s.dbg.checking then s
  else
    let s := { s with dbg := { s.dbg with checking := true, issued := false, against := if s.dbg.issued then some s.dbg.challenge else none } }
    ((s.put pDBG DBG.RESULT_CODE 15).put pDBG DBG.CHAL_LO_CHALLENGE 0).put pDBG DBG.CHAL_HI_CHALLENGE 0

/-! ### GPIO (R58-R60) -/

/-- `OUT_SET`, `OUT_CLR`. -/
def State.gpioOut (s : State) (set clr : Nat) : State :=
  s.withEdges fun s =>
    let old := s.fld pGPIO GPIO.OUT_LEVEL
    s.put pGPIO GPIO.OUT_LEVEL ((old ||| set) &&& (255 - clr % 256))

/-- A write of `PIN_CFG[i]`: the pad is no longer held (R60); a locked page takes no write (R45). -/
def State.pinCfg (s : State) (i : Fin 8) (v : Word) : State :=
  if s.locked pGPIO then s.lockedWrite pGPIO
  else s.withEdges fun s => (s.wr pGPIO (0x20 + 4 * i.val) (v &&& 0x1F7F)).put pGPIO ⟨0x0C, i.val, 1⟩ 0


end Sys2Proof.Machine
end

