-- ==== Sys2Proof/Machine/Supply.lean ====
section
/-!
DEFINITION. Supplies (R67-R74): levels at `VSYS`, `VDDIO` and `VCONN_IN`, the AON source, the NV inhibit, brown-out and power-on resets.
-/

namespace Sys2Proof.Machine

/-- The AON domain runs. -/
def State.aonOn (s : State) : Bool := s.phase == .run || s.phase == .warm || s.phase == .sleep

/-- A level of `VSYS` is reported; `f`: what the supply monitor does while AON runs. -/
def State.vsys (s : State) (mv : Nat) (f : State → State) : State :=
  let s := { s with pins := { s.pins with vsysMv := mv } }
  if s.aonOn then f s else s

/-- Warning threshold in mV (Table 4.3, Table 4.9). -/
def State.warnMv (s : State) : Nat := 2800 + 10 * min 50 (s.inf pSUP SUP.THR_CFG_WARN)

/-- The AON source changes. -/
def State.setSrc (s : State) (src : Nat) : State := (s.put pSUP SUP.PG_STAT_SRC src).raise pSUP SUP.PG_EVT_SRC_CHANGE

/-- VDDIO_CHANGE (R68). -/
def execVddioChange (mv : Nat) (s : State) : Host.Outcome State Fault Refusal :=
  let was := s.flag pSUP SUP.PG_STAT_VDDIO_OK
  let ok := decide (1500 < mv)
  let s := { s with pins := { s.pins with vddioMv := mv } }
  if s.aonOn then
    .next (((s.putB pSUP SUP.PG_STAT_VDDIO_OK ok).putB pSUP SUP.PG_STAT_VDDIO_HI (decide (2500 < mv))).raiseIf (was && !ok) pSUP SUP.PG_EVT_VDDIO_LOST)
  else .next s

/-- VCONN_IN_LOST (R69): every VCONN switch that is on opens. -/
def execVconnInLost (mv : Nat) (s : State) : Host.Outcome State Fault Refusal :=
  let s := { s with pins := { s.pins with vconnMv := mv } }
  if !s.aonOn then .next s
  else if 4600 ≤ mv then .next (s.put pSUP SUP.PG_STAT_VCONN_OK 1)
  else
    let any := allPorts.any fun n => s.flag (pCC n) CC.PG_STAT_VCONN_ON
    .next (((s.put pSUP SUP.PG_STAT_VCONN_OK 0).forPorts State.vconnOff).raiseIf any pSUP SUP.PG_EVT_VCONN_LOST)

/-- SRC_SWITCH_VSYS (R70): on VBUS, `VSYS` has stayed at or above 3.0 V for 1 ms. -/
def execSrcSwitchVsys (mv : Nat) (s : State) : Host.Outcome State Fault Refusal :=
  .next (s.vsys mv fun s => if s.fld pSUP SUP.PG_STAT_SRC = 1 ∧ 3000 ≤ mv then s.setSrc 0 else s)

/-- NV_INHIBIT_ASSERT (R73). -/
def execNvInhibitAssert (mv : Nat) (s : State) : Host.Outcome State Fault Refusal :=
  .next (s.vsys mv fun s =>
    if s.nvInhMv ≤ mv ∨ s.flag pSUP SUP.PG_STAT_NV_INHIBIT then s
    else (((s.put pSUP SUP.PG_STAT_NV_INHIBIT 1).put pSUP SUP.PG_STAT_NV_STABLE 0).raise pSUP SUP.PG_EVT_NV_INH).nvInhibit.secretInhibit)

/-- NV_INHIBIT_CLEAR (R72). -/
def execNvInhibitClear (mv : Nat) (s : State) : Host.Outcome State Fault Refusal :=
  .next (s.vsys mv fun s => if s.nvInhMv + s.nvHystMv ≤ mv then s.put pSUP SUP.PG_STAT_NV_INHIBIT 0 else s)

/-- NV_STABLE (R74): the level has stood for 1 s. -/
def execNvStable (mv : Nat) (s : State) : Host.Outcome State Fault Refusal :=
  .next (s.vsys mv fun s => if s.nvInhMv + s.nvHystMv ≤ mv then s.put pSUP SUP.PG_STAT_NV_STABLE 1 else s)

/-- NV_STABLE_CLEAR (R74). -/
def execNvStableClear (mv : Nat) (s : State) : Host.Outcome State Fault Refusal :=
  .next (s.vsys mv fun s => if mv < s.nvInhMv + s.nvHystMv then s.put pSUP SUP.PG_STAT_NV_STABLE 0 else s)

/-- VSYS_WARN: below `WARN`, or back at `WARN` + 50 mV (Table 4.3). -/
def execVsysWarn (mv : Nat) (s : State) : Host.Outcome State Fault Refusal :=
  .next (s.vsys mv fun s =>
    if s.flag pSUP SUP.PG_STAT_WARN then (if s.warnMv + 50 ≤ mv then s.put pSUP SUP.PG_STAT_WARN 0 else s)
    else if mv < s.warnMv then (s.put pSUP SUP.PG_STAT_WARN 1).raise pSUP SUP.PG_EVT_WARN
    else s)

/-! ### Resets that hold until COLD_BOOT (R26, R70, R72, R92) -/

/-- A power-on reset: causes held in AON are lost with it. -/
def State.powerOn (s : State) (wake : Option (BitVec 32)) : State :=
  { s.coldReset 0 with rst := { causes := 1, browned := false, shipWake := wake, blocks := [], onVbus := false } }

/-- POR: the source in use is lost and no other is in use; with `SRC` = VSYS, `VSYS` has gone. -/
def execPor (s : State) : Host.Outcome State Fault Refusal :=
  let s := if s.fld pSUP SUP.PG_STAT_SRC = 0 then { s with pins := { s.pins with vsysMv := 0 } } else s
  .next (s.powerOn none)

/-- NRST_LOW (R92). In SHIP only the wake detectors live (Table 4.4). -/
def execNrstLow (s : State) : Host.Outcome State Fault Refusal :=
  let s := { s with pins := { s.pins with nrstLow := true } }
  .next (if s.phase = .ship then s else s.coldReset 1)

/-- A brown-out reset: held until `VSYS` is back at 2.85 V (R72). -/
def State.brownReset (s : State) : State :=
  let s := s.coldReset 2
  { s with rst := { s.rst with browned := true } }

/-- BROWN_OUT: `VSYS` below 2.75 V while it is the source (R72). -/
def execBrownOut (mv : Nat) (s : State) : Host.Outcome State Fault Refusal :=
  .next (s.vsys mv fun s =>
    if mv < 2750 ∧ s.fld pSUP SUP.PG_STAT_SRC = 0 then s.brownReset else s)

end Sys2Proof.Machine
end

