-- ==== Sys2Proof/Machine/Debug.lean ====
section
/-!
DEFINITION. OTP and NVD commands that finish (R107-R112), the debug token and the erasure of secrets (R114-R117), the probe's hold on engines (R126, R133).
-/

namespace Sys2Proof.Machine

/-- OTP_CMD_DONE: `weak` are the bits that still read 0 at the margin reference after four pulses. -/
def execOtpCmdDone (weak : Word) (s : State) : Host.Outcome State Fault Refusal := .next (s.otpFinish weak)

/-- NVD_CMD_DONE: a record written to area 1 brings its owner flag into force (R463). -/
def execNvdCmdDone (verifyOk : Bool) (s : State) : Host.Outcome State Fault Refusal :=
  let t := s.nvdFinish verifyOk
  .next (match s.nvdOp with
    | some (.write 1 _) => t.putB pUPD UPD.STAT_NV_LOCK t.ownerFlagNv
    | some (.invalidate 1) => t.putB pUPD UPD.STAT_NV_LOCK t.ownerFlagNv
    | _ => t)

/-! ### Debug access -/

/-- Both pages of area 15 are erased, and secrets in always-on SRAM and in key registers are cleared (R116): the SRAM above what the spec lays out, and the
token words of `DBG` and `UPD` (log entry 100). -/
def State.eraseSecrets (s : State) : State :=
  let s := (s.nvdErasePage 30).nvdErasePage 31
  let s := { s with aos := s.aos.filter fun c => decide (c.1 < aosFree) }
  (List.range 22).foldl (fun s i => (s.wr pDBG (0x40 + 4 * i) 0).wr pUPD (0x60 + 4 * i) 0) s

/-- `DBG_MODE` allows a signer (Table 5.5): bit 0 the owner, bit 1 the vendor. -/
def State.dbgMode (s : State) (owner : Bool) : Bool := bitAt s.ownCfg (if owner then 0 else 1)

/-- The debug latch moves. -/
def State.dbgTo (s : State) (d : DbgState) : State := { s with dbg := { s.dbg with state := d } }

/-- A check has ended with a code of Table 5.10. -/
def State.dbgChecked (s : State) (code : Nat) : State :=
  ({ s with dbg := { s.dbg with checking := false, against := none } }).put pDBG DBG.RESULT_CODE code

/-- A token refused is counted; one accepted leads to ERASING, with the mark in the boot record (R116). -/
def State.dbgVerdict (s : State) (code : Nat) : State :=
  if code ≠ 0 then (s.dbgChecked code).tokFail.raise pDBG DBG.PG_EVT_REFUSED
  else ((s.dbgChecked code).bootDecide fun r => { r with erasePending := true }).dbgTo .erasing

/-- The end of the erasure: the pages are blank, the mark is cleared, OPEN is entered. -/
def State.dbgErased (s : State) : State :=
  ((s.eraseSecrets.bootWrite fun r => { r with erasePending := false }).raise pDBG DBG.PG_EVT_OPENED).dbgTo .opened

/-- DBG_TOKEN_CHECKED (R115). -/
def execDbgTokenChecked (s : State) : Host.Outcome State Fault Refusal :=
  .next (if s.live && s.dbg.checking && s.dbg.state == .closed then
      s.dbgVerdict (s.tokCheck pDBG 0x40 1 s.dbgMode (s.dbg.against.getD 0) s.dbg.against.isSome)
    else s)

/-- DBG_ERASE_DONE (R116). While R73 allows no erase the device stays in ERASING. -/
def execDbgEraseDone (s : State) : Host.Outcome State Fault Refusal :=
  .next (if s.aonOn && s.dbg.state == .erasing && s.eraseOk then s.dbgErased else s)

/-- DEBUG_HALT: the probe halts an engine, in OPEN only; a halted engine is never idle (R126). -/
def execDebugHalt (k : Engine) (s : State) : Host.Outcome State Fault Refusal :=
  .next (if s.live && s.dbgOpen && !(s.eng k).retired then s.modEng k fun e => { e with halted := true } else s)

/-- DEBUG_RESUME: the probe releases an engine. -/
def execDebugResume (k : Engine) (s : State) : Host.Outcome State Fault Refusal :=
  .next (if s.live && s.dbgOpen then s.modEng k fun e => { e with halted := false } else s)

end Sys2Proof.Machine
end

