-- ==== Sys2Proof/Machine/Boot.lean ====
section
/-!
DEFINITION. The cold boot of Table 5.2, WARM resets carried out, and the end of a PORT reset.
-/

namespace Sys2Proof.Machine

/-! ### What a cold boot finds -/

/-- The samples of a strap: the pull-down holds one left open at 0 (R56). -/
def strapOf (x : Option (BitVec 3)) : BitVec 3 := x.getD 0

/-- Majority of three samples (R56). -/
def majority (x : BitVec 3) : Bool := (x.getLsbD 0 && x.getLsbD 1) || (x.getLsbD 0 && x.getLsbD 2) || (x.getLsbD 1 && x.getLsbD 2)

/-- The source a boot runs on (R70, Table 4.2). At POR: VSYS (0) when it is valid, else VBUS (1); none valid: no boot. A COLD reset on VBUS changes no source: VBUS
stays in use until SRC_SWITCH_VSYS, while it is not lost. -/
def State.bootSrc (s : State) : Option Nat :=
  let v := (s.port s.bestVbus).vbusMv
  if s.rst.onVbus && s.rst.causes.getLsbD 0 == false && decide (3000 ≤ v) then some 1
  else if 2600 ≤ s.pins.vsysMv then some 0
  else if 4000 ≤ v then some 1
  else none

/-- What the supply monitor and the clock show when the reset is released. The conditions of `NV_INHIBIT` and `WARN` at the release are those under which they
would clear (log entry 84). -/
def State.bootSupply (s : State) (src : Nat) (ext : Bool) : State :=
  let s := s.put pSUP SUP.PG_STAT_SRC src
  let s := s.putB pSUP SUP.PG_STAT_NV_INHIBIT (decide (s.pins.vsysMv < s.nvInhMv + s.nvHystMv))
  let s := s.putB pSUP SUP.PG_STAT_WARN (decide (s.pins.vsysMv < s.warnMv + 50))
  let s := (s.putB pSUP SUP.PG_STAT_VDDIO_OK (decide (1500 < s.pins.vddioMv))).putB pSUP SUP.PG_STAT_VDDIO_HI (decide (2500 < s.pins.vddioMv))
  let s := s.putB pSUP SUP.PG_STAT_VCONN_OK (decide (4600 ≤ s.pins.vconnMv))
  let s := (s.put pCLK CLK.PG_STAT_PLL_LOCK 1).put pCLK CLK.PG_STAT_REF_OK 1
  (s.putB pCLK CLK.PG_STAT_REF_EXT ext).put pCLK CLK.PG_STAT_RUNNING 1

/-- Straps (R3, R4, R56, R57). -/
def State.bootStraps (s : State) (role ad : Nat) : State :=
  let s := ((s.put pSYS SYS.PG_STAT_ROLE role).put pSYS SYS.PG_STAT_ACTING role).put pHOST HOST.ADDR_ADDR (0x28 + ad)
  (s.putB pID ID.NODE_ASSIGNED (role == 0)).hgSolo

/-- A trim word that cannot be used: marginal, or its region fails (R104, Table 5.4). -/
def State.trimLost (s : State) (i : Nat) : Bool := (s.otpMarginal i || s.otpFails 0) && (s.otpMarginal (i + 24) || s.otpFails 1)

/-- OTP as read at the boot (R103, R104). A marginal word makes its key slot unusable, the owner key's too (log entry 87). -/
def State.bootOtp (s : State) : State :=
  let all := List.range 256
  let slotBad := fun k => s.otpFails 3 || (List.range 8).any fun j => s.otpMarginal (0x38 + 8 * k + j)
  let ownBad := (List.range 8).any fun j => s.otpMarginal (0x61 + j)
  let bad := ([0, 1, 2, 3].filter slotBad).foldl (fun m k => m + 2 ^ k) 0 + 16 * ownBad.toNat
  let region := fun r => (s.otpLocked r).toNat + 2 * (s.otpCrcOk r).toNat + 4 * (s.otpRegionMarginal r).toNat + 8 * (s.otpFails r).toNat
  let stat := (List.range 7).foldl (fun m r => m + 16 ^ r * region r) 0
  let eff := (all.filter fun i => s.otpResolve i != 0).map fun i => (i, s.otpResolve i)
  let s := { s with boot := { s.boot with otpEff := eff, keyBad := BitVec.ofNat 5 bad, ownerFail := s.otpFails 5 } }
  let s := (s.put pOTP OTP.REGION_STAT_ALL stat).put pOTP OTP.MARGIN_CNT_WORDS (all.filter s.otpMarginal).length
  s.putB pOTP OTP.PG_STAT_DEGRADED ((List.range 24).any s.trimLost)

/-- The unique ID (R105): 48 bits and their CRC-16, most significant byte first. -/
def uidOf (part : Part) (lot wafer x y : Nat) : Nat :=
  let hi := lot * 2 ^ 24 + (wafer % 32) * 2 ^ 19 + x * 2 ^ 11 + y * 2 ^ 3 + part.x.toNat * 4 + part.gradeE.toNat * 2
  hi * 65536 + crc16 (leBytes 6 hi).reverse

/-- The `ID` page (Table 2.11, R104, R105). Words 0x30-0x32 are laid out as `LOT`, `WAFER_DIE` and `TEST_DATE` are; variant and grade are the part's (log entry
85). -/
def State.bootIdent (s : State) : State :=
  let ok := !s.otpFails 2
  let w := fun i => (s.otpResolve (0x30 + i)).toNat
  let lot := bitsOf (w 0) 0 24
  let (wafer, x, y) := (bitsOf (w 1) 24 8, bitsOf (w 1) 8 8, bitsOf (w 1) 0 8)
  let only := fun v => if ok then v else 0
  let uid := only (uidOf s.part lot wafer x y)
  let s := (s.put pID ID.DEVICE_PART 0x6416).put pID ID.DEVICE_VARIANT (only (if s.part.x then 0x58 else 0x53))
  let s := (s.put pID ID.DEVICE_GRADE (only (if s.part.gradeE then 0x45 else 0x43))).put pID ID.LOT_LOT (only lot)
  let s := ((s.put pID ID.WAFER_DIE_WAFER (only wafer)).put pID ID.WAFER_DIE_DIE_X (only x)).put pID ID.WAFER_DIE_DIE_Y (only y)
  let s := (s.put pID ID.TEST_DATE_DATE (only (bitsOf (w 2) 0 24))).put pID ID.UID_LO_UID uid
  let s := (s.put pID ID.UID_HI_UID (uid / 2 ^ 32)).putB pID ID.IDENT_STAT_VALID ok
  (s.putB pID ID.IDENT_STAT_MARGINAL (s.otpRegionMarginal 2)).putB pID ID.RESOURCES_MAINS s.part.x

/-- An erasure that a reset interrupted is completed, and the device stays CLOSED (R117). While R73 allows no erase the mark stays. -/
def State.bootErase (s : State) : State :=
  if s.boot.now.erasePending && s.eraseOk then s.eraseSecrets.bootWrite fun r => { r with erasePending := false } else s

/-- COLD_BOOT (R93): the reset is released, unless the levels hold it (R70, R72) or `TESTEN` is high (R54), and Table 5.2 runs to firmware entry or recovery. -/
def execColdBoot (x : BootIn) (s : State) : Host.Outcome State Fault Refusal :=
  let t := { s with pins := { s.pins with vsysMv := x.vsys, vddioMv := x.vddio, vconnMv := x.vconn, testen := x.testen } }
  let t := t.forPorts fun t n => t.modPort n fun p => { p with vbusMv := x.vbus.get n }
  if s.phase ≠ .reset then .next s
  else if x.testen || (s.rst.browned && decide (x.vsys < 2850)) then .next t
  else match t.bootSrc with
  | none => .next t
  | some src =>
    let role := (majority (strapOf x.role1)).toNat * 2 + (majority (strapOf x.role0)).toNat
    let ad := (majority (strapOf x.ad1)).toNat * 2 + (majority (strapOf x.ad0)).toNat
    let s := { t with pins := { t.pins with nrstLow := false } }
    let s := ((s.bootSupply src x.refExt).bootStraps role ad).bootOtp.bootIdent
    let s := s.bootErase.bootShow
    let s := s.putB pUPD UPD.STAT_NV_LOCK s.ownerFlagNv
    let s := match s.rst.shipWake with
      | some w => s.wr pAON 0x2C w
      | none => s
    let s := s.forPorts fun s n => (s.ccResume n).ccJudge n
    let s := s.cmptRestart.gaugeCold
    .next ((s.chooseStart 0).resetEnd x.us)

/-! ### WARM reset -/

/-- WARM_RESET (R100): carried out once its cause has been recognised; it waits while the reference is lost (R121). -/
def execWarmReset (us : BitVec 24) (s : State) : Host.Outcome State Fault Refusal :=
  .next (if s.phase = .warm ∧ s.flag pCLK CLK.PG_STAT_RUNNING then s.warmBoot us else s)

/-- PORT_RESET_VBUS_LOW (R160): after a PORT reset the port leaves Disabled once its `VBUS` is below 0.8 V. -/
def execPortResetVbusLow (n : Port) (mv : Nat) (s : State) : Host.Outcome State Fault Refusal :=
  let s := s.setVbus n mv
  .next (if s.aonOn && (s.port n).cc.rstHold && decide (mv < 800) then
      (s.modCc n fun c => { c with rstHold := false }).ccResume n
    else s)

end Sys2Proof.Machine
end

