-- ==== Sys2Proof/Machine/Gpio.lean ====
section
/-!
DEFINITION. Edges at GPIO inputs (R58) and the motion pin (Table 2.13).
-/

namespace Sys2Proof.Machine

/-- The board drives pad `i` to a level, or lets it go. -/
def State.boardPad (s : State) (i : Fin 8) (level : Option Bool) : State :=
  { s with pins := { s.pins with
    gpio := BitVec.ofNat 8 (setBits s.pins.gpio.toNat i.val 1 (level.getD false).toNat)
    gpioOpen := BitVec.ofNat 8 (setBits s.pins.gpioOpen.toNat i.val 1 level.isNone.toNat) } }

/-- GPIO_EDGE: the board's level at pad `i` changes; the edge is judged on the level at the pad, after inversion (Table 3.5). -/
def execGpioEdge (i : Fin 8) (level : Option Bool) (s : State) : Host.Outcome State Fault Refusal :=
  .next (s.withEdges fun s => s.boardPad i level)

/-- MOTN_ASSERTED: the pin is high, the event is set, and `MOTION.RECENT` reads 1 for 10 s. -/
def execMotnAsserted (s : State) : Host.Outcome State Fault Refusal :=
  if s.live then
    .next ({ s with aon := { s.aon with motnAt := some s.tick }, pins := { s.pins with motn := true } }.raise pSYS SYS.PG_EVT_MOTN)
  else .next s

end Sys2Proof.Machine
end

