-- ==== Sys2Proof/Machine/RegAccess.lean ====
section
/-!
DEFINITION. Register accesses (chapter 2): the word a register shows, reads with their latches and clears, writes with the access codes of Table 0.8, locks, and
the commands of every page.
-/

namespace Sys2Proof.Machine

/-! ### What a register shows -/

/-- The variant lacks the page (R1, R91): it reads 0 and takes no write. -/
def State.pageAbsent (s : State) (r : PageRow) : Bool := r.kind == .mains && !s.part.x

/-- The page takes no write: the variant lacks it, or it is `TEST` while debug is not OPEN (R40). -/
def State.pageShut (s : State) (r : PageRow) : Bool := s.pageAbsent r || (r.kind == .test && !s.dbgOpen)

/-- The block-specific bits of `PG_STAT`: those that follow other state, and the stored ones. -/
def State.statWord (s : State) (r : PageRow) (pg : Nat) : Nat :=
  let i := pg - r.base
  let n : Port := Fin.ofNat 8 i
  let w := (s.rd pg 0x0C).toNat % 2 ^ 29
  let pd := (s.port n).pdl
  let bit := fun (w j : Nat) (b : Bool) => setBits w j 1 b.toNat
  match r.kind with
  | .guard => setBits w 3 2 (s.guardPath n)
  | .sup => setBits w 4 3 s.bestVbus.val
  | .pdl =>
    let w := bit w 0 (!s.enabled pg)
    let w := bit w 2 (s.pdAttached n && Config.frameArriving s.tick n.val == 1)
    let w := bit w 3 (pd.phase == .waitGcrc || pd.layer.any fun l => l.waiting)
    let w := bit w 4 (if s.ccState n = .attachedSrc then pd.ng else pd.phase == .waitOk)
    let w := bit w 5 (pd.bistData || pd.bistCarrier)
    let w := bit w 6 (!pd.reasm.isEmpty)
    bit w 7 (pd.phase != .idle && pd.queue.head?.any fun i => s.txExt n i)
  | .vdm => bit (bit (bit w 0 (s.hpdPin n)) 1 (s.port n).irqOn) 2 (s.port n).irqWait
  | .host => bit (bit (bit w 0 s.host.wait.isSome) 1 s.host.posted.isSome) 2 s.hint
  | .eng => s.engState (Fin.ofNat 16 i)
  | .gauge => bit (bit w 0 (s.flag pGAUGE GAUGE.CFG_CC_EN)) 1 s.overRecent
  | .place => bit w 0 s.places
  | .flash => bit w 0 s.flashOp.isSome
  | .mains => bit (bit (bit w 0 s.mains.conv) 1 s.mains.link) 3 s.mains.barrier
  | _ => w

/-- `NVD.AREA_INFO` for `AREA_SEL`. -/
def State.areaInfo (s : State) : Nat :=
  let a := s.fld pNVD NVD.AREA_SEL_AREA
  match s.newest a with
  | none => 0
  | some k => s.slotSeq a k + 65536 * s.nvdNat (slotAt a k + 2) 1 + 2 ^ 24 * k + 2 ^ 25 * (s.slotValid a 0 && s.slotValid a 1).toNat

/-- Seconds left on the trial timer. -/
def State.trialLeft (s : State) : Nat :=
  match s.upd.trialEnd with
  | some t => min 65535 ((t - s.tick) / 20000)
  | none => 0

/-- Bit map of list positions for which a test holds. -/
def bitMap (n : Nat) (f : Nat → Bool) : Nat := ((List.range n).filter f).foldl (fun m i => m + 2 ^ i) 0

/-- The word at `RD_ADDR`; 0 while its sector is being erased (Table 18.8). -/
def State.flashWord (s : State) : Nat :=
  let a := 4 * s.fld pFLASH FLASH.RD_ADDR_WORD
  match s.flashOp with
  | some (.erase e) => if e / 4096 = a / 4096 then 0 else s.codeWord a
  | _ => s.codeWord a

/-- The word of a register at offset 0x20 or above that other state determines; `none`: the stored word. -/
def State.liveReg (s : State) (kind : PageKind) (i off : Nat) : Option Nat :=
  let n : Port := Fin.ofNat 8 i
  match kind with
  | .sys => if off = 0x2C then some (s.fld pSYS SYS.MOTION_SET + 2 * s.pins.motn.toNat + 4 * s.motionRecent.toNat) else none
  | .evt => if off < 0x40 then some (s.pendWord ((off - 0x20) / 4)) else if off = 0x80 then some s.nodeSum else none
  | .gpio => if off = 0x4C then some s.gpioIn else none
  | .guard =>
    if off = 0x5C then
      some (setBits (s.rd (pGUARD n) 0x5C).toNat 0 3 (min 4 ((s.port n).guard.trips.filter fun t => decide (s.tick < t + 200000)).length))
    else if off = 0x60 then some (s.ovpLevel n + 65536 * s.uvpLevel n)
    else if off = 0x64 then some (min 1023 (s.limitInForce n) + 65536 * s.scInForce n) else none
  | .pdl =>
    let q := (s.port n).pdl.queue
    if off = 0x40 then
      some (setBits (setBits (s.rd (pPDL n) 0x40).toNat 0 3 q.length) 4 4 (q.head?.getD 0))
    else if off = 0x4C then
      some (setBits (s.rd (pPDL n) 0x4C).toNat 8 4 (bitMap 4 fun b => q.any fun r => s.txExt n r && s.stNat (txAt n r + 11) 1 % 4 == b))
    else none
  | .pol => if 0x60 ≤ off ∧ off ≤ 0x7C then some (s.snapWord n ((off - 0x60) / 4)) else none
  | .muxb => if off = 0x4C then some (setBits (s.rd pMUXB 0x4C).toNat 16 1 s.pins.mint.toNat) else none
  | .host => if off = 0x30 then some s.hostLast else none
  | .plcr => if off = 0x2C then some (s.healthy.filter fun k => s.enabled (pENG k)).length else none
  | .eng =>
    if off = 0x30 then
      some (setBits (s.rd (pENG (Fin.ofNat 16 i)) 0x30).toNat 0 2 (min 3 ((s.eng (Fin.ofNat 16 i)).faultTicks.filter fun t => decide (s.tick < t + 20000)).length))
    else none
  | .fleet => if off = 0x50 ∨ off = 0x54 then some (s.evtSum ((off - 0x50) / 4)) else none
  | .nvd => if off = 0x30 then some (bitMap 16 fun a => (s.newest a).isSome) else if off = 0x3C then some s.areaInfo else none
  | .upd =>
    if off = 0x24 then some (setBits (s.rd pUPD 0x24).toNat 8 6 s.updRefuseBits)
    else if off = 0x28 then some s.imgLen
    else if off = 0x2C then some (s.pagesHere + 65536 * (s.imgLen / 256))
    else if off = 0x34 then some (bitMap 32 fun b => s.pageHere (32 * s.fld pUPD UPD.MAP_SEL_GROUP + b))
    else if off = 0x3C then some s.trialLeft
    else if 0x60 ≤ off ∧ off ≤ 0xB4 then some 0
    else none
  | .clk => if off = 0x20 then some (s.tick % 2 ^ 32) else if off = 0x24 then some (s.tick / 2 ^ 32) else none
  | .lock => if off = 0x20 then some s.sticky.toNat else none
  | .dbg => if off = 0x20 then some (s.dbg.state.code + 16 * s.dbg.fails) else if 0x40 ≤ off then some 0 else none
  | .otp =>
    if off = 0x2C then
      some (if s.flag pOTP OTP.RD_ADDR_MARGIN then s.otpMarginWord (s.fld pOTP OTP.RD_ADDR_WORD) else s.otpWord (s.fld pOTP OTP.RD_ADDR_WORD)).toNat
    else none
  | .flash => if off = 0x38 then some s.flashWord else none
  | .aon => if off = 0x40 then some (s.aosNat (4 * s.fld pAON AON.AOS_ADDR_WORD) 4) else none
  | _ => none

/-- The present value of a register, snapshots apart. -/
def State.shown (s : State) (r : PageRow) (pg off : Nat) : Word :=
  if off = 0 then BitVec.ofNat 32 (2 ^ 24 * r.type + 65536 * (pg - r.base) + 0x100)
  else if off = 4 then BitVec.ofNat 32 (if pg = 0x5A then 0x80000000 else r.caps)
  else if off = 0x0C then
    BitVec.ofNat 32 (s.statWord r pg + 2 ^ 29 * (s.locked pg).toNat + 2 ^ 30 * (s.resetting pg).toNat + 2 ^ 31 * (s.flag pg PG.CTRL_FREEZE).toNat)
  else if off = 0x18 then 0
  else if off < 0x20 then s.rd pg off
  else match s.liveReg r.kind (pg - r.base) off with
  | some w => BitVec.ofNat 32 w
  | none => s.rd pg off

/-! ### Snapshots (R38) -/

/-- The RO and RC bits of a register, which a snapshot captures. -/
def capMask (r : PageRow) (off : Nat) : Word :=
  if off = 0x0C then 0x1FFFFFFF
  else if off < 0x20 then 0
  else match r.reg off with
  | none => 0
  | some x => ~~~(BitVec.ofNat 32 (x.rw ||| x.rwl ||| x.w1c ||| x.w1s))

/-- A write of 1 to `PG_CTRL.FREEZE`. -/
def State.freezeOn (s : State) (pg : Nat) : State :=
  match pageRow pg with
  | none => s
  | some r =>
    let snaps := (0x0C :: r.rows.map fun x => x.off).foldl (init := s.snaps) fun m off => Sparse.set resetWord m (regKey pg off) (s.shown r pg off)
    ({ s with snaps := snaps }).put pg PG.CTRL_FREEZE 1

/-- A write of 0. -/
def State.freezeOff (s : State) (pg : Nat) : State :=
  ({ s with snaps := s.snaps.filter fun c => c.1 / 64 != pg }).put pg PG.CTRL_FREEZE 0

/-- The value a read of the page returns for a register: captured bits from the snapshot. -/
def State.view (s : State) (r : PageRow) (pg off : Nat) : Word :=
  let live := s.shown r pg off
  if s.flag pg PG.CTRL_FREEZE then
    let m := capMask r off
    (Sparse.get resetWord s.snaps (regKey pg off) &&& m) ||| (live &&& ~~~m)
  else live

/-! ### Reads -/

/-- Lowest words of values wider than 32 bits (R44). -/
def lowWord (kind : PageKind) (off : Nat) : Bool :=
  match kind with
  | .id => off == 0x34
  | .clk => off == 0x20
  | .engy => decide (0x40 ≤ off) && off % 8 == 0
  | .gauge => off == 0x40
  | .dbg => off == 0x24
  | .upd => off == 0x58
  | _ => false

/-- A requester's number. -/
def reqNo : Req → Nat
  | .hedgerow => 0
  | .host => 1
  | .eng k => 2 + k.val

/-- A read of a register by a requester: the word, with what the read does: a latched high word (R44; a requester that has latched none yet reads the present
high word, log entry 90), a cleared RC field (R11), an advancing window. Reads of
a page in reset return 0 (R46; log entry 79), reads of absent pages too (R39, R40, R91). -/
def State.regRead (s : State) (rq : Req) (pg off : Nat) : State × Word :=
  let off := off % 256 / 4 * 4
  match pageRow pg with
  | none => (s, 0)
  | some r =>
    if !s.live || s.pageAbsent r then (s, 0)
    else if r.kind = .test ∧ off ≠ 0 ∧ s.dbgOpen = false then (s, 0)
    else if s.resetting pg && off != 0 && off != 0x0C then (s, if off = 8 then 2 else 0)
    else
      let key := fun o => 65536 * reqNo rq + regKey pg o
      let frozen := s.flag pg PG.CTRL_FREEZE
      if 0x20 ≤ off && lowWord r.kind (off - 4) then
        (s, match s.shadow.find? fun c => c.1 == key off with
          | some c => c.2
          | none => s.view r pg off)
      else
        let w := s.view r pg off
        let s := if lowWord r.kind off then
            { s with shadow := Sparse.insert (s.shadow.filter fun c => c.1 != key (off + 4)) (key (off + 4)) (s.view r pg (off + 4)) }
          else s
        let rc := match r.reg off with
          | some x => x.rc
          | none => 0
        let s := if frozen || rc == 0 then s
          else
            let s := s.wr pg off (s.rd pg off &&& ~~~(BitVec.ofNat 32 rc))
            if r.kind = .meas then
              s.modPort (Fin.ofNat 8 (pg - r.base)) fun p =>
                { p with meas := if off = 0x38 then { p.meas with vSeen := false } else { p.meas with iSeen := false } }
            else s
        if r.kind = .aon ∧ off = 0x40 then ((s.aosAccess none).1, w)
        else if r.kind = .flash ∧ off = 0x38 then (s.incr pFLASH FLASH.RD_ADDR_WORD, w)
        else (s, w)

/-! ### Writes -/

/-- A write with the access codes of Table 0.8: RW bits, RWL bits while the page is not locked, W1C and W1S bits. An RWL field of a locked page keeps its value
with LOCKED_WRITE (R45). -/
def State.plainWrite (s : State) (pg : Nat) (x : RegRow) (v : Word) : State :=
  let lk := s.locked pg
  let m := BitVec.ofNat 32 (if lk then x.rw else x.rw ||| x.rwl)
  let old := s.rd pg x.off
  let w := (old &&& ~~~m) ||| (v &&& m)
  let w := (w &&& ~~~(v &&& BitVec.ofNat 32 x.w1c)) ||| (v &&& BitVec.ofNat 32 x.w1s)
  let s := s.wr pg x.off w
  if lk && x.rwl != 0 then s.lockedWrite pg else s

/-- `PG_EVT`: the page's own events, REPEAT and LOCKED_WRITE (Table 2.7). -/
def evtMask (r : PageRow) : Word := BitVec.ofNat 32 (r.evt ||| 0xC0000000)

/-- A write of `PG_EVT`: 1 clears, unless hardware sets the bit in the same cycle (R37). -/
def State.evtClear (s : State) (pg : Nat) (v hw : Word) : State :=
  match pageRow pg with
  | none => s
  | some r =>
    let h := hw &&& evtMask r
    let s := if h = 0 then s else s.raiseBits pg h.toNat
    s.wr pg 0x10 (s.rd pg 0x10 &&& ~~~(v &&& ~~~h))

/-- A write of `PG_EVT_SET` (R37). -/
def State.evtSet (s : State) (pg : Nat) (v : Word) : State :=
  match pageRow pg with
  | none => s
  | some r => s.wr pg 0x10 (s.rd pg 0x10 ||| (v &&& evtMask r))

/-- A write of `PG_LOCK` (Table 2.8). A write of 0 has no effect and sets no event, before and after the single write (log entry 91). -/
def State.lockWrite (s : State) (pg : Nat) (v : Word) : State :=
  if v.getLsbD 0 then (if s.locked pg then s.lockedWrite pg else s.put pg PG.LOCK_LOCK 1) else s

/-- A write of `PG_CTRL` (Table 2.5). -/
def State.ctrlWrite (s : State) (r : PageRow) (pg : Nat) (v : Word) : State :=
  let n : Port := Fin.ofNat 8 (pg - r.base)
  let on := v.getLsbD 0
  let s := if !r.enableRw || (r.kind == .hg && s.role == .solo) then s
    else if r.kind = .pdl then s.pdlEnable n on
    else if r.kind = .gpio then (s.gpioWatch.putB pg PG.CTRL_ENABLE on).gpioSync
    else s.putB pg PG.CTRL_ENABLE on
  let s := if v.getLsbD 2 then s.freezeOn pg else s.freezeOff pg
  if v.getLsbD 1 then s.blockReset pg else s

/-- Do `f` when bit `i` of a written word is 1. -/
def State.onBit (s : State) (v : Word) (i : Nat) (f : State → State) : State := if v.getLsbD i then f s else s

/-- The key field of a written word. -/
def keyOf (v : Word) : Nat := v.toNat / 65536

/-- `FLASH.CMD`: only the flash engine, or E0 in recovery, may write it (Table 18.8). -/
def State.flashCmd (s : State) (rq : Req) (v : Word) : State :=
  let may := match rq with
    | .eng k => (s.recovery && k == 0) || s.flashEng == some k
    | _ => false
  let a := 4 * s.fld pFLASH FLASH.ADDR_WORD
  if !may then s.lockedWrite pFLASH
  else s.keyed pFLASH (keyOf v) 0x3E91 fun s =>
    match bitsOf v.toNat 0 2 with
    | 1 => s.flashStart (.program a (s.rd pFLASH 0x28))
    | 2 => s.flashStart (.erase a)
    | _ => s

/-- `UPD.CMD`: the slot-114 task is posted and each order carried out. The random challenge is a free value here. -/
def State.updCmd (s : State) (v : Word) : State :=
  s.keyed pUPD (keyOf v) 0xA17E fun s =>
    let s := s.updPost
    let s := s.onBit v 0 fun s => s.sessEnd.updResult 0
    let s := s.onBit v 1 State.updActivate
    let s := s.onBit v 2 fun s => s.updConfirm (v.getLsbD 3)
    let s := s.onBit v 4 State.updDistribute
    let s := s.onBit v 5 State.updOwnerLock
    let s := s.onBit v 6 fun s => (s.updChallenge ((Config.freeValue s.fresh).append (Config.freeValue (s.fresh + 1)))).freshen.freshen
    s.onBit v 7 State.updUnlock

/-- `DBG.REQ`: the random challenge is a free value here. -/
def State.dbgReq (s : State) (v : Word) : State :=
  s.keyed pDBG (keyOf v) 0xD3B6 fun s =>
    let s := s.onBit v 0 fun s => (s.dbgChallenge ((Config.freeValue s.fresh).append (Config.freeValue (s.fresh + 1)))).freshen.freshen
    s.onBit v 1 State.dbgSubmit

/-- `NVD.CMD`. -/
def State.nvdCmd (s : State) (op area format : Nat) : State :=
  match op with
  | 1 => s.nvdStart (.write area format)
  | 2 => s.nvdStart (.read area)
  | 3 => s.nvdStart (.invalidate area)
  | _ => s

/-- A keyed write of `RST_REQ` with WARM. -/
def State.rstReq (s : State) : State := s.warmCause 3

/-- `SYS.PORT_RST`. -/
def State.portRst (s : State) (ports : Nat) : State := s.forPorts fun s n => if bitAt ports n.val then s.portResetAsk pSYS n else s

/-- A firmware post of a slot (R124). -/
def State.plcrPost (s : State) (slot : Nat) : State :=
  if slot < 256 then s.lockedWrite pPLCR else { s with plcr := { s.plcr with posts := s.plcr.posts ++ [slot] } }

/-- A write to a `MAINS` field reaches the companion later (R86). While the data channel is down `BUDGET` equals `BUD_SAG` (R87). -/
def State.mainsSync (s : State) : State :=
  let s := s.put pMAINS MAINS.PG_STAT_SYNC_PEND 1
  if s.mains.link then s else s.put pMAINS MAINS.BUDGET_POWER (s.fld pMAINS MAINS.BUD_SAG_POWER)

/-- A keyed command register of a port page: it always takes the write. -/
def State.portKey (s : State) (pg : Nat) (v : Word) (want : Nat) (f : State → State) : Option State := some (s.keyed pg (keyOf v) want f)

/-- Commands of the pages of a port. -/
def State.portCmd (s : State) (kind : PageKind) (n : Port) (off : Nat) (v : Word) : Option State :=
  match kind with
  | .cc =>
    if off = 0x40 then
      s.portKey (pCC n) v 0x3C71 fun s =>
        let s := s.onBit v 0 fun s => s.modCc n fun c => { c with errRec := true }
        if v.getLsbD 2 then s.vconnOff n else s.onBit v 1 fun s => s.vconnOnCmd n
    else none
  | .pdl =>
    match off with
    | 0x3C => some (s.txReq n (bitsOf v.toNat 0 4))
    | 0x50 => some (s.xbufRel n (bitsOf v.toNat 0 4))
    | 0x54 =>
      s.portKey (pPDL n) v 0x4B9D fun s =>
        if v.getLsbD 0 then s.hardResetStart n
        else
          let s := (s.onBit v 1 fun s => s.cableReset n).onBit v 2 fun s => s.amsEnd n
          let s := (s.onBit v 3 fun s => s.put (pPDL n) PDL.PG_STAT_HR_PENDING 0).onBit v 4 fun s => s.txCancel n
          s.onBit v 5 fun s => s.pdlClearStats n
    | 0x5C => some (s.msgidLoad n v.toNat)
    | _ => none
  | .guard =>
    if off = 0x50 then
      s.portKey (pGUARD n) v 0x6A91 fun s =>
        let s := if v.getLsbD 1 then s.snkOpen n else s.onBit v 0 fun s => s.snkClose n
        (s.onBit v 2 fun s => s.unretireCmd n).onBit v 3 fun s => s.retire n (some 12)
    else none
  | .pol =>
    match off with
    | 0x30 => some (s.onBit v 24 fun s => s.polQueue n (.trans (bitsOf v.toNat 0 12) (bitsOf v.toNat 16 8)))
    | 0x58 =>
      some (if v.getLsbD 9 then s.polQueue n (.clear (bitsOf v.toNat 0 8)) else s.onBit v 8 fun s => s.polQueue n (.commit (bitsOf v.toNat 0 8)))
    | 0x5C => some (s.onBit v 16 fun s => s.polQueue n (.role (v.getLsbD 0) (bitsOf v.toNat 8 8)))
    | _ => none
  | .vdm =>
    match off with
    | 0x30 =>
      s.portKey (pVDM n) v 0x7D1E fun s =>
        let s := (s.onBit v 0 fun s => s.policy fun s => s.vdmRediscover n).onBit v 1 fun s => s.policy fun s => s.vdmEnter n
        s.onBit v 2 fun s => s.policy fun s => s.vdmExit n
    | 0x34 => some (s.hpdWrite n (v.getLsbD 0))
    | 0x38 => some (s.onBit v 0 fun s => (s.hpdIrq n (s.free.getLsbD 0)).freshen)
    | 0x40 => if v.getLsbD 8 then some (s.hostTxWrite n (bitsOf v.toNat 0 3) (bitsOf v.toNat 4 2)) else none
    | _ => none
  | _ => none

/-- Commands of the fleet pages. -/
def State.fleetCmd (s : State) (kind : PageKind) (i off : Nat) (v : Word) : Option State :=
  let l : Link := Fin.ofNat 3 i
  match kind with
  | .hg =>
    if off = 0x40 then
      some (s.keyed (pHG l) (keyOf v) 0x48E7 fun s =>
        ((s.onBit v 0 fun s => s.hgRetire l).onBit v 1 fun s => s.probeLink l).onBit v 2 fun s => s.hgClear l)
    else none
  | .fleet =>
    match off with
    | 0x58 =>
      some (s.keyed pFLEET (keyOf v) 0x8B2F fun s =>
        ((s.onBit v 0 State.enumerateCmd).onBit v 1 State.tkoCmd).onBit v 2 State.handbackCmd)
    | 0x5C => some (s.txfReq (bitsOf v.toNat 0 6))
    | _ => none
  | .place =>
    match off with
    | 0x30 => some ((s.put pPLACE PLACE.POOL_SEL_POOL v.toNat).poolLoad)
    | 0x48 => some (((s.put pPLACE PLACE.PORT_SEL_NODE v.toNat).put pPLACE PLACE.PORT_SEL_PORT (bitsOf v.toNat 8 3)).portLoad)
    | 0x5C => some (s.keyed pPLACE (keyOf v) 0x91D4 fun s => (s.onBit v 0 State.placeRun).onBit v 1 State.floorDone)
    | _ => if (0x34 ≤ off ∧ off ≤ 0x3C) ∨ off = 0x4C ∨ off = 0x50 then some (s.windowWrite off v) else none
  | .twin =>
    match off with
    | 0x3C => some (s.keyed pTWIN (keyOf v) 0x7A4C fun s => s.twinCmd (v.setWidth 8))
    | 0x40 => some (s.mirShow (Fin.ofNat 8 v.toNat))
    | 0x60 => some (s.mirWrite v)
    | _ => none
  | .engy => if off = 0x2C then some (s.keyed pENGY (keyOf v) 0xE6A3 fun s => s.engyClearCmd (bitsOf v.toNat 0 8)) else none
  | _ => none

/-- Commands of the other pages. -/
def State.pageCmd (s : State) (rq : Req) (kind : PageKind) (i off : Nat) (v : Word) : Option State :=
  let w := v.toNat
  match kind with
  | .sys =>
    match off with
    | 0x20 => some (s.keyed pSYS (keyOf v) 0xA5C3 fun s => s.onBit v 0 State.rstReq)
    | 0x24 => some (s.keyed pSYS (keyOf v) 0xA5C3 fun s => s.portRst (bitsOf w 0 8))
    | _ => none
  | .aon =>
    match off with
    | 0x20 => some (s.keyed pAON (keyOf v) 0x5A3C fun s => s.modeReq (bitsOf w 0 3))
    | 0x40 => some (s.aosAccess (some v)).1
    | _ => none
  | .gpio =>
    match off with
    | 0x44 => some (s.gpioOut (bitsOf w 0 8) 0)
    | 0x48 => some (s.gpioOut 0 (bitsOf w 0 8))
    | _ => if 0x20 ≤ off ∧ off < 0x40 then some (s.pinCfg (Fin.ofNat 8 ((off - 0x20) / 4)) v) else none
  | .share =>
    if off = 0x3C then
      some (s.keyed pSHARE (keyOf v) 0x5C83 fun s => (s.onBit v 0 fun s => s.shareRelease false).onBit v 1 State.trimClearCmd)
    else none
  | .learn => if off = 0x50 then some (s.keyed pLEARN (keyOf v) 0xC47A fun s => (s.onBit v 0 State.learnAbort).onBit v 1 State.learnForget) else none
  | .batid => if off = 0x3C then some (s.keyed pBATID (keyOf v) 0x1F93 fun s => s.onBit v 0 State.clearSwap) else none
  | .cmpt => if off = 0x48 then some (s.keyed pCMPT (keyOf v) 0x1C5E fun s => s.retest (bitsOf w 0 8)) else none
  | .host => if off = 0x40 then some (s.keyed pHOST (keyOf v) 0x5B17 fun s => (s.onBit v 0 State.hostClear).onBit v 1 State.notifyNow) else none
  | .muxb =>
    if off = 0x48 then
      some (s.keyed pMUXB (keyOf v) 0x2E5B fun s =>
        (s.onBit v 0 State.muxGo).onBit v 1 fun s => (s.muxAbort (bitsOf s.free.toNat 0 5)).freshen)
    else none
  | .plcr => if off = 0x24 then some (s.plcrPost (bitsOf w 0 11)) else none
  | .eng => if off = 0x34 then some (s.keyed (pENG (Fin.ofNat 16 i)) (keyOf v) 0x7E71 fun s => s.onBit v 0 fun s => s.retireEngine (Fin.ofNat 16 i)) else none
  | .bank => if off = 0x28 then some (s.keyed pBANK (keyOf v) 0xB4A7 fun s => s.onBit v 8 fun s => s.bankCmd (bitsOf w 0 4)) else none
  | .flash => if off = 0x2C then some (s.flashCmd rq v) else none
  | .upd => if off = 0x38 then some (s.updCmd v) else if 0x60 ≤ off ∧ off ≤ 0xB4 then some (s.wr pUPD off v) else none
  | .nvd => if off = 0x20 then some (s.keyed pNVD (keyOf v) 0x6E1D fun s => s.nvdCmd (bitsOf w 0 2) (bitsOf w 8 4) (bitsOf w 12 4)) else none
  | .otp =>
    if off = 0x38 then
      some (s.keyed pOTP (keyOf v) 0x0A7C fun s =>
        match bitsOf w 0 2 with
        | 1 => s.otpProgram
        | 2 => s.otpLock (bitsOf w 4 3)
        | _ => s)
    else none
  | .lock => if off = 0x20 then some (s.stickySet w) else none
  | .dbg => if off = 0x2C then some (s.dbgReq v) else if 0x40 ≤ off ∧ off ≤ 0x94 then some (s.wr pDBG off v) else none
  | _ => none

/-- What a write of stored fields does beside storing them. -/
def State.afterWrite (s : State) (kind : PageKind) (i off : Nat) (old : Word) : State :=
  let n : Port := Fin.ofNat 8 i
  let l : Link := Fin.ofNat 3 i
  match kind with
  | .sup => if off = 0x20 then s.put pSUP SUP.PG_STAT_NV_STABLE 0 else s
  | .host => if off = 0x20 ∧ old.getLsbD 1 = false then s.modHost fun h => { h with seen := s.hostSum } else s
  | .cc => if off = 0x20 ∧ s.fld (pCC n) CC.CFG_TWIN = 1 ∧ bitsOf old.toNat 9 2 ≠ 1 then s.claimNow n else s
  | .share => if off = 0x24 then s.shareResume else s
  | .gpio => if off = 0x40 then s.gpioWatch else s
  | .hg =>
    let phy := s.rd (pHG l) 0x20 &&& 0x3777
    if off = 0x20 ∧ phy ≠ (s.link l).phy then
      (if s.linkState l ≠ 0 ∧ s.linkState l < 4 then s.linkTo l 1 else s).modLink l fun k => { k with phy := phy }
    else s
  | .fleet =>
    if off = 0x20 ∧ s.flag pFLEET FLEET.CFG_JOIN ∧ old.getLsbD 16 = false ∧ s.acting = .manager ∧ s.role ≠ .solo ∧ s.mayEnumerate then s.enumerate else s
  | .gauge => if off = 0x20 then s.putB pGAUGE GAUGE.PG_STAT_CC_RUN (s.flag pGAUGE GAUGE.CFG_CC_EN) else s
  | .upd => if off = 0x20 ∧ s.upd.trialEnd.isSome then s.trialStart else s
  | .mains => s.mainsSync
  | _ => s

/-- Whether a write of the register changes any field: one whose fields are read only, or locked, is ignored (R45). -/
def takes (lk : Bool) (x : RegRow) : Bool := (x.rw ||| x.w1c ||| x.w1s ||| (if lk then 0 else x.rwl)) != 0

/-- `CC[n].CFG.DB_CLAMP`: a write of 1 is ignored (Table 7.8). -/
def clampBit : Word := BitVec.ofNat 32 (2 ^ CC.CFG_DB_CLAMP.lo)

/-- A write of a register by a requester. -/
def State.regWrite (s : State) (rq : Req) (pg off : Nat) (v : Word) : State :=
  let off := off % 256 / 4 * 4
  match pageRow pg with
  | none => s
  | some r =>
    let i := pg - r.base
    if !s.live || s.pageShut r then s
    else if s.resetting pg && off != 0x1C then s
    else match off with
    | 0x08 => s.ctrlWrite r pg v
    | 0x10 => s.evtClear pg v 0
    | 0x14 => s.wr pg 0x14 (v &&& evtMask r)
    | 0x18 => s.evtSet pg v
    | 0x1C => s.lockWrite pg v
    | _ =>
      if off < 0x20 then s
      else match ((s.portCmd r.kind (Fin.ofNat 8 i) off v).or (s.fleetCmd r.kind i off v)).or (s.pageCmd rq r.kind i off v) with
      | some t => t
      | none =>
        match r.reg off with
        | none => s
        | some x =>
          let old := s.rd pg off
          let v := if r.kind = .cc ∧ off = 0x20 then v &&& (old ||| ~~~clampBit) else v
          let t := s.plainWrite pg x v
          if takes (s.locked pg) x then t.afterWrite r.kind i off old else t

end Sys2Proof.Machine
end

