-- ==== Sys2Proof/Machine/HostBus.lean ====
section
/-!
DEFINITION. Host-bus transactions, register access across the fleet and event frames (chapter 16; R50, R330-R332).
-/

namespace Sys2Proof.Machine

/-! ### Bytes and PEC (R404) -/

/-- The address byte with the write bit. -/
def State.addrW (s : State) : Byte := BitVec.ofNat 8 (2 * s.fld pHOST HOST.ADDR_ADDR)

/-- The address byte with the read bit. -/
def State.addrR (s : State) : Byte := BitVec.ofNat 8 (2 * s.fld pHOST HOST.ADDR_ADDR + 1)

/-- `PEC_REQ`. -/
def State.pecReq (s : State) : Bool := s.flag pHOST HOST.CFG_PEC_REQ

/-- A byte of a count or a code. -/
def byteOf (n : Nat) : Byte := BitVec.ofNat 8 n

/-- How a read ends: data bytes begun, complete (R404), without an error of Table 16.3. A NACK or a condition in the optional PEC byte ends the read as
complete. -/
def rdEnd (req pec : Bool) (e : Option (BusErr × Nat)) (total : Nat) : Nat × Bool × Bool :=
  match e with
  | none => (total, pec || !req, pec || !req)
  | some (.ackPec, _) => (total, true, false)
  | some (.srWrite, _) => (0, false, false)
  | some (.nack, k) => if total ≤ k ∧ !req then (total, true, true) else (min k total, false, false)
  | some (_, k) => if total < k ∧ !req then (total, true, true) else (min k total, false, false)

/-- Words begun by a number of bytes: each is read when its first byte is about to be sent (R406). -/
def wordsBegun (k : Nat) : Nat := (k + 3) / 4

/-! ### The window (R405, R407) -/

def State.winNode (s : State) : Nat := s.fld pHOST HOST.WINDOW_NODE
def State.winPage (s : State) : Nat := s.fld pHOST HOST.WINDOW_PAGE
def State.winOff (s : State) : Nat := s.fld pHOST HOST.WINDOW_OFFSET

/-- The offset advances by 4 for each word and stays in the page (R48). -/
def State.winStep (s : State) (words : Nat) : State := s.put pHOST HOST.WINDOW_OFFSET (s.winOff + 4 * words)

/-- The window names this device. -/
def State.winLocal (s : State) : Bool := s.winNode == 0x7F || (s.assigned && s.winNode == s.node)

/-- The window names a node this device reaches (R407). -/
def State.winRemote (s : State) : Bool := s.acting == .manager && s.role != .solo && decide (s.winNode < 64) && s.mapBit pFLEET FLEET.ENUM_MAP_NODES s.winNode

/-- Read words of a page from an offset on (R48). -/
def State.readWords (s : State) (rq : Req) (pg : Nat) : Nat → Nat → State × List Word
  | 0, _ => (s, [])
  | n + 1, off =>
    let r := s.regRead rq pg off
    let t := r.1.readWords rq pg n ((off + 4) % 256)
    (t.1, r.2 :: t.2)

/-- Write words of a page from an offset on. -/
def State.writeWords (s : State) (rq : Req) (pg : Nat) : List Word → Nat → State
  | [], _ => s
  | v :: l, off => (s.regWrite rq pg off v).writeWords rq pg l ((off + 4) % 256)

/-- Bytes of words. -/
def wordBytes (l : List Word) : List Byte := l.flatMap fun w => leBytes 4 w.toNat

/-! ### Ends of transactions -/

/-- A read ends. `pre`: the bytes the host sent after its address byte; `none`: a read without command. `head`: the count the device sends. `load`: the status
is loaded. `adv`: words the window advances when the read is complete. -/
def State.readFinish (s : State) (cmd : Nat) (pre : Option (List Byte)) (head data : List Byte) (pec : Bool) (e : Option (BusErr × Nat)) (load : Bool)
    (code detail adv : Nat) : State :=
  let r := rdEnd s.pecReq pec e data.length
  let opened := match pre with
    | some l => s.addrW :: l
    | none => []
  let tail := if r.2.1 ∧ (pec ∨ r.2.2 = false) then [byteOf (crc8 (opened ++ [s.addrR] ++ head ++ data))] else []
  let s := s.modHost fun h => { h with sent := head ++ data.take r.1 ++ tail }
  let s := if r.2.1 ∧ (code = 0 ∨ code = 5) then s.winStep adv else s
  if !r.2.2 then s.hostErr 8 cmd else if load then s.hostLoad code cmd detail else s

/-- A write-type command takes effect at its end (R406), unless an error of Table 16.3 or its PEC discards it. -/
def State.writeEnd (s : State) (cmd : Nat) (bytes : List Byte) (pec : Option (BitVec 8)) (e : Option BusErr) (f : State → State) : State :=
  if e.isSome then s.hostErr 8 cmd
  else match pec with
    | none => if s.pecReq then s.hostErr 7 cmd else f s
    | some p => if p.toNat = crc8 (s.addrW :: byteOf cmd :: bytes) then f s else s.hostErr 7 cmd

/-- A write was performed: its status, and the window's advance, unless it reset the host page or the device (Table 16.4). -/
def State.writeDone (s : State) (cmd words : Nat) : State := if s.hostOn then (s.hostLoad 0 cmd 0).winStep words else s

/-! ### Access to other nodes (R330, R408) -/

/-- The payload of a `REG_RD` or `REG_WR`. -/
def regPayload (pg off count : Nat) (words : List Word) : List Byte := [byteOf pg, byteOf off, byteOf count, 0] ++ wordBytes words

/-- Send a `REG_RD` or `REG_WR` for the window with a fresh tag. -/
def State.regSend (s : State) (words : List Word) (count : Nat) : State :=
  let w := !words.isEmpty
  let p : Proxy := { tag := s.fleet.reqTag, node := s.winNode, page := s.winPage, off := s.winOff, write := w, data := words, count := count, since := s.tick }
  let s := s.sendTo (if w then 4 else 3) p.node p.tag (regPayload p.page p.off count words)
  s.modFleet fun f => { f with reqTag := (f.reqTag + 1) % 128, proxy := some p }

/-- A read of the window for a number of words. -/
def State.rread (s : State) (count : Nat) : RRead :=
  { node := s.winNode, page := s.winPage, off := s.winOff, count := count, status := 0, words := [], tick := s.tick }

/-- Two reads of the same window and count. -/
def RRead.same (a b : RRead) : Bool := a.node == b.node && a.page == b.page && a.off == b.off && a.count == b.count

/-- Held data is discarded. -/
def State.heldDrop (s : State) : State := s.modHost fun h => { h with held := none }

/-! ### Commands that wait for a posted operation -/

/-- The code of a command. -/
def HostCmd.code : HostCmd → Nat
  | .readBlock _ _ _ => 0x02
  | .writeBlock _ _ _ _ => 0x03
  | .readWord _ _ => 0x04
  | .writeWord _ _ _ => 0x05
  | .storeWrite _ _ _ _ _ _ => 0x20
  | .storeRead _ _ _ _ _ _ => 0x20
  | .updBlock _ _ _ _ _ _ => 0x30
  | .updCommit _ _ => 0x31

/-- Store offset of a transfer (R414). -/
def storeOff (off : Nat) : Nat := off % 2 ^ 20 / 4 * 4

/-- A read of words: command, bytes sent by the host, count byte sent by the device, PEC, error; `none` for other commands. -/
def HostCmd.read? : HostCmd → Option (List Byte × List Byte × Nat × Bool × Option (BusErr × Nat))
  | .readBlock n pec e => some ([0x02, byteOf n], [byteOf n], n, pec, e)
  | .readWord pec e => some ([0x04], [], 4, pec, e)
  | _ => none

/-- A read of registers ends with the words it has. -/
def State.wordsFinish (s : State) (c : HostCmd) (words : List Word) (code detail : Nat) : State :=
  match c.read? with
  | none => s
  | some (pre, head, n, pec, e) =>
    let data := (wordBytes words ++ List.replicate n 0).take n
    s.readFinish c.code (some pre) head data pec e true code detail (n / 4)

/-- A count outside its limits (Table 16.1). -/
def badCount (n : Nat) : Bool := decide (n < 4) || decide (252 < n) || n % 4 != 0

/-- The status with which a read-type command is refused at its count, length or offset (Table 16.3). -/
def HostCmd.refused? : HostCmd → Option Nat
  | .readBlock n _ _ => if badCount n then some 6 else none
  | .storeRead n off l _ _ _ => if n != 5 || badCount l then some 6 else if storeTop < storeOff off + l then some 12 else none
  | _ => none

/-- A read of registers (R406, R408, R411). -/
def State.hostRead (s : State) (c : HostCmd) : State :=
  match c.read? with
  | none => s
  | some (_, _, n, pec, e) =>
    if badCount n then s.heldDrop.hostLoad 6 c.code 0
    else if s.winLocal then
      let r := s.heldDrop.readWords .host s.winPage (wordsBegun (rdEnd s.pecReq pec e n).1) s.winOff
      r.1.wordsFinish c r.2 0 0
    else if !s.winRemote then s.heldDrop.wordsFinish c [] 3 0
    else
      let ask := s.rread (n / 4)
      match s.host.held.filter fun h => h.same ask with
      | some h => s.heldDrop.wordsFinish c h.words (if h.status = 0 then 0 else 5) h.status
      | none =>
        let s := (s.heldDrop.regSend [] (n / 4)).modHost fun h => { h with read := some ask }
        match e with
        | some (.srWrite, _) => (s.modHost fun h => { h with read := none }).wordsFinish c [] 0 0
        | _ =>
          if s.flag pHOST HOST.CFG_STRETCH_EN then s.modHost fun h => { h with wait := some (.data c) }
          else s.wordsFinish c [] 2 0

/-- A write of registers, with the count byte sent. -/
def State.hostWrite (s : State) (cmd : Nat) (head data : List Byte) (pec : Option (BitVec 8)) (e : Option BusErr) : State :=
  s.writeEnd cmd (head ++ data) pec e fun s =>
    let words := toWords data
    if s.winLocal then (s.writeWords .host s.winPage words s.winOff).writeDone cmd words.length
    else if s.winRemote then ((s.regSend words words.length).hostPost .remote cmd).winStep words.length
    else s.hostLoad 3 cmd 0

/-- A command runs with no posted operation outstanding. -/
def State.hostRun (s : State) (c : HostCmd) : State :=
  match c with
  | .readBlock _ _ _ | .readWord _ _ => s.hostRead c
  | .writeBlock n data pec e =>
    if badCount n then s.heldDrop.hostLoad 6 3 0 else s.heldDrop.hostWrite 3 [byteOf n] data pec e
  | .writeWord v pec e => s.heldDrop.hostWrite 5 [] (leBytes 4 v.toNat) pec e
  | .storeWrite n badSub off data pec e =>
    let s := s.heldDrop
    let a := storeOff off
    if n ≠ 5 ∧ (n < 8 ∨ 252 < n ∨ n % 4 ≠ 0) then s.hostLoad 6 0x20 0
    else if badSub then s.hostErr 10 0x20
    else if n = 5 then s.hostLoad 6 0x20 0
    else if storeTop < a + (n - 4) then s.hostLoad 12 0x20 0
    else
      s.writeEnd 0x20 ([byteOf n, 1] ++ leBytes 3 off ++ data) pec e fun s =>
        if s.flag pHOST HOST.CFG_STORE_WR then (s.stWrite a data).hostLoad 0 0x20 0 else s.hostLoad 11 0x20 0
  | .storeRead _ off l pec e spoil =>
    let s := s.heldDrop
    let a := storeOff off
    match c.refused? with
    | some code => s.hostLoad code 0x20 0
    | none =>
      let k := 4 * wordsBegun (rdEnd s.pecReq pec e l).1
      let s := match spoil with
        | some i => if i < k then s.stSpoil (a + i) else s
        | none => s
      let bad := s.stBadIn a k
      let data := s.stRead a l
      (s.stNote 6 a k).readFinish 0x20 (some ([0x20, 5, 2] ++ leBytes 3 off ++ [byteOf l])) [byteOf l] data pec e true (if bad then 5 else 0) 0 0
  | .updBlock n off data crc pec e =>
    let s := s.heldDrop
    let body := leBytes 4 off.toNat ++ data
    if n < 7 ∨ 246 < n then s.hostLoad 6 0x30 0
    else
      s.writeEnd 0x30 ([byteOf n] ++ body ++ leBytes 2 crc.toNat) pec e fun s =>
        if crc16 body ≠ crc.toNat then s.hostLoad 13 0x30 0
        else ((s.stWrite blockAt body).hostPost (.block data.length) 0x30).updPost
  | .updCommit pec e =>
    s.heldDrop.writeEnd 0x31 [] pec e fun s =>
      let s := (s.hostPost .commit 0x31).updPost
      let r := s.updCommit 1
      let s := (r.1.updResult r.2).hostPostDone (if r.2 = 0 then 0 else 11) r.2
      if r.2 = 0 ∧ s.recovery then s.recoverStart else s

/-- The command ends with BUSY after its stretch (R409). -/
def State.hostBusy (s : State) (c : HostCmd) : State :=
  match c.refused?, c with
  | some code, _ => s.hostLoad code c.code 0
  | none, .readBlock _ _ _ | none, .readWord _ _ => s.wordsFinish c [] 9 0
  | none, .storeRead _ off l pec e _ =>
    s.readFinish 0x20 (some ([0x20, 5, 2] ++ leBytes 3 off ++ [byteOf l])) [byteOf l] (List.replicate l 0) pec e true 9 0 0
  | none, _ => s.hostLoad 9 c.code 0

/-- A command of the class that waits for a posted operation by stretching (R409, R410). -/
def State.hostCmd (s : State) (c : HostCmd) : State :=
  if !s.hostOn || s.host.wait.isSome then s
  else
    let s := (s.modHost fun h => { h with total := 0, sent := [], stuck := false }).put pHOST HOST.STRETCH_LAST_TOTAL_US 0
    if s.host.posted.isNone then s.hostRun c
    else if s.flag pHOST HOST.CFG_STRETCH_EN then s.modHost fun h => { h with wait := some (.posted c) }
    else s.heldDrop.hostBusy c

/-- A command that waits for nothing. `keep`: it leaves held data alone. -/
def State.hostPlain (s : State) (keep : Bool) (f : State → State) : State :=
  if !s.hostOn || s.host.wait.isSome then s
  else
    let s := (s.modHost fun h => { h with total := 0, sent := [], stuck := false }).put pHOST HOST.STRETCH_LAST_TOTAL_US 0
    f (if keep then s else s.heldDrop)

/-- A stretch of `us` µs has ended (R410): it counts in `STRETCH`. -/
def State.stretched (s : State) (us : Nat) : State :=
  let total := s.host.total + us
  let s := s.put pHOST HOST.STRETCH_MAX_US (max us (s.fld pHOST HOST.STRETCH_MAX_US))
  (s.put pHOST HOST.STRETCH_LAST_TOTAL_US (min 65535 total)).modHost fun h => { h with wait := none, total := total }

/-- A stretch ends because what it waited for has come: its length, at most 500 µs, is a free value. -/
def State.stretchMet (s : State) : State := (s.stretched (s.free.toNat % 501)).freshen

/-- A posted operation has ended: the transaction stretched for it goes on. -/
def State.hostResume (s : State) : State :=
  match s.host.wait with
  | some (.posted c) => s.stretchMet.hostRun c
  | _ => s

/-! ### Commands of Table 16.1 -/

/-- SET_WINDOW_WRITE (R405): the window takes node, page and offset. -/
def execSetWindowWrite (node page off : BitVec 8) (pec : Option (BitVec 8)) (e : Option BusErr) (s : State) : Host.Outcome State Fault Refusal :=
  .next (s.hostPlain false fun s =>
    if 128 ≤ node.toNat then s.hostErr 8 1
    else s.writeEnd 1 [node, page, off] pec e fun s =>
      (((s.put pHOST HOST.WINDOW_NODE node.toNat).put pHOST HOST.WINDOW_PAGE page.toNat).put pHOST HOST.WINDOW_OFFSET (off.toNat / 4 * 4)).hostLoad 0 1 0)

/-- SET_WINDOW_READ (R403). -/
def execSetWindowRead (pec : Bool) (e : Option (BusErr × Nat)) (s : State) : Host.Outcome State Fault Refusal :=
  .next (s.hostPlain false fun s =>
    s.readFinish 1 (some [0x01]) [] [byteOf s.winNode, byteOf s.winPage, byteOf s.winOff] pec e true 0 0 0)

/-- READ_BLOCK (R406, R408, R411). -/
def execReadBlock (n : BitVec 8) (pec : Bool) (e : Option (BusErr × Nat)) (s : State) : Host.Outcome State Fault Refusal :=
  .next (s.hostCmd (.readBlock n.toNat pec e))

/-- WRITE_BLOCK (R406, R408). -/
def execWriteBlock (n : BitVec 8) (data : List (BitVec 8)) (pec : Option (BitVec 8)) (e : Option BusErr) (s : State) : Host.Outcome State Fault Refusal :=
  .next (s.hostCmd (.writeBlock n.toNat data pec e))

/-- READ_WORD (R406, R408, R411). -/
def execReadWord (pec : Bool) (e : Option (BusErr × Nat)) (s : State) : Host.Outcome State Fault Refusal := .next (s.hostCmd (.readWord pec e))

/-- WRITE_WORD (R406, R408). -/
def execWriteWord (v : BitVec 32) (pec : Option (BitVec 8)) (e : Option BusErr) (s : State) : Host.Outcome State Fault Refusal :=
  .next (s.hostCmd (.writeWord v pec e))

/-- EVENT_SUMMARY (R413). -/
def execEventSummary (pec : Bool) (e : Option (BusErr × Nat)) (s : State) : Host.Outcome State Fault Refusal :=
  .next (s.hostPlain false fun s => s.readFinish 0x10 (some [0x10]) [] (leBytes 8 s.hostSum) pec e true 0 0 0)

/-- STORE_WINDOW_WRITE (R414). -/
def execStoreWindowWrite (n : BitVec 8) (badSub : Bool) (off : BitVec 24) (data : List (BitVec 8)) (pec : Option (BitVec 8)) (e : Option BusErr)
    (s : State) : Host.Outcome State Fault Refusal :=
  .next (s.hostCmd (.storeWrite n.toNat badSub off.toNat data pec e))

/-- STORE_WINDOW_READ (R414). -/
def execStoreWindowRead (n : BitVec 8) (off : BitVec 24) (l : BitVec 8) (pec : Bool) (e : Option (BusErr × Nat)) (spoil : Option Nat)
    (s : State) : Host.Outcome State Fault Refusal :=
  .next (s.hostCmd (.storeRead n.toNat off.toNat l.toNat pec e spoil))

/-- UPD_BLOCK (R408, R460): the block goes into the block buffer and the slot-114 task is posted. -/
def execUpdBlock (n : BitVec 8) (off : BitVec 32) (data : List (BitVec 8)) (crc : BitVec 16) (pec : Option (BitVec 8)) (e : Option BusErr)
    (s : State) : Host.Outcome State Fault Refusal :=
  .next (s.hostCmd (.updBlock n.toNat off data crc pec e))

/-- UPD_COMMIT (R464), with its outcome; in recovery a staged bank is tried at once (R99). -/
def execUpdCommit (pec : Option (BitVec 8)) (e : Option BusErr) (s : State) : Host.Outcome State Fault Refusal :=
  .next (s.hostCmd (.updCommit pec e))

/-- The four bytes of `STATUS` (R412). -/
def State.statusBytes (s : State) : List Byte := setBits s.hostLast 24 8 (s.host.posted.isSome.toNat + 2 * s.host.held.isSome.toNat) |> leBytes 4

/-- STATUS (R412). -/
def execStatus (pec : Bool) (e : Option (BusErr × Nat)) (s : State) : Host.Outcome State Fault Refusal :=
  .next (s.hostPlain true fun s => s.readFinish 0x3F (some [0x3F]) [] s.statusBytes pec e false 0 0 0)

/-- READ_WITHOUT_COMMAND (R403). -/
def execReadWithoutCommand (pec : Bool) (e : Option (BusErr × Nat)) (s : State) : Host.Outcome State Fault Refusal :=
  .next (s.hostPlain true fun s => s.readFinish 0 none [] s.statusBytes pec e false 0 0 0)

/-- QUICK_COMMAND: acknowledged, without effect (R401). -/
def execQuickCommand (_rd : Bool) (s : State) : Host.Outcome State Fault Refusal := .next s

/-! ### Stretches, held data, timeouts (R410, R411, R416) -/

/-- STRETCH_END: a stretch of `us` µs ends at its limit and the command proceeds. -/
def execStretchEnd (us : BitVec 16) (s : State) : Host.Outcome State Fault Refusal :=
  match s.host.wait with
  | none => .next s
  | some w =>
    let s := (s.stretched us.toNat).raise pHOST HOST.PG_EVT_STRETCH_LIMIT
    .next (match w with
      | .posted c => s.heldDrop.hostBusy c
      | .data c => s.wordsFinish c [] 2 0)

/-- HELD_DATA_EXPIRE: 100 ms after its arrival. -/
def execHeldDataExpire (s : State) : Host.Outcome State Fault Refusal :=
  match s.host.held with
  | some h => .next (if h.tick + 2000 ≤ s.tick then s.heldDrop else s)
  | none => .next s

/-- SCL_TIMEOUT: `cmd` is the command of the transaction in progress, if there was one. A failed notify attempt counts (R420). -/
def execSclTimeout (cmd : Option (BitVec 8)) (s : State) : Host.Outcome State Fault Refusal :=
  if !s.live || s.host.wait.isSome then .next s
  else
    let s := match cmd with
      | some c => if s.hostOn then s.hostLoad 8 c.toNat 0 else s
      | none => s
    let s := (s.raise pHOST HOST.PG_EVT_SCL_TIMEOUT).bump pHOST HOST.ERR_CNT_TIMEOUT 1
    .next (if s.host.onBus then s.notifyFail else s)

/-- SDA_STUCK (R416). -/
def execSdaStuck (s : State) : Host.Outcome State Fault Refusal :=
  if s.live then .next ((s.raise pHOST HOST.PG_EVT_SDA_STUCK).modHost fun h => { h with stuck := true, wait := none }) else .next s

/-! ### Host Notify (R417-R420) -/

/-- Whether a notify may start. -/
def State.notifyMay (s : State) : Bool := s.flag pHOST HOST.CFG_NOTIFY_EN && s.notifier && s.hostSum != 0

/-- HOST_NOTIFY: a risen bit starts a notify; `done` says how the attempt on the bus ends. -/
def execHostNotify (done : Option Bool) (s : State) : Host.Outcome State Fault Refusal :=
  if !s.live then .next s
  else if s.host.onBus then .next (s.notifyResult done)
  else if s.notifyMay && !s.host.holding && !s.flag pHOST HOST.PG_STAT_NOTIFYING && s.hostRisen then
    .next (s.notifyFresh.notifyResult done)
  else .next s

/-- NOTIFY_HOLD_END. -/
def execNotifyHoldEnd (s : State) : Host.Outcome State Fault Refusal :=
  if !s.live || !s.host.holding then .next s
  else
    let again := s.host.rose && s.notifyMay
    let s := s.modHost fun h => { h with holding := false, rose := false }
    .next (if again then s.notifyFresh else s)

/-- ARBITRATION_LOST (R419, R420). -/
def execArbitrationLost (how : ArbHow) (s : State) : Host.Outcome State Fault Refusal :=
  if !s.live || !s.host.onBus then .next s
  else
    let s := match how with
      | .address => s
      | .data => s.raise pHOST HOST.PG_EVT_ARB_LOST
      | .stop => s.raise pHOST HOST.PG_EVT_ARB_STOP
    .next s.notifyFail

/-- NOTIFY_RETRY (R420): with a summary of zero no attempt is made and the retries end. -/
def execNotifyRetry (done : Option Bool) (s : State) : Host.Outcome State Fault Refusal :=
  if !s.notifier || s.host.onBus || !s.flag pHOST HOST.PG_STAT_NOTIFYING || s.fld pHOST HOST.NOTIFY_STAT_TRIES == 0 then .next s
  else if s.hostSum = 0 then .next (s.put pHOST HOST.PG_STAT_NOTIFYING 0)
  else .next (s.notifyBegin.notifyResult done)

/-! ### Register access frames (R330-R332) and event frames (R50) -/

/-- REG_ACCESS_FRAME: a target performs the words in order and answers; frames from others than `NODES.MGR`, and counts outside 1-63, are discarded. A payload that fails in the store (`storeOk` false)
is not performed, and the answer is STORE_ERR (R144, R330). -/
def execRegAccessFrame (storeOk : Bool) (s : State) : Host.Outcome State Fault Refusal :=
  if !s.live then .next s
  else .next (s.withFrame (fun f => frType f.bytes == 3 || frType f.bytes == 4) fun f s =>
    let p := frPayload f.bytes
    let n := byteAt p 2
    let from_ := frSrc f.bytes
    let words := toWords (p.drop 4)
    if from_ ≠ s.fld pFLEET FLEET.NODES_MGR ∨ n = 0 ∨ 63 < n then s
    else if !storeOk then s.sendTo 5 from_ (frTag f.bytes) [1, 0, byteOf n, 0]
    else if frType f.bytes = 3 then
      let r := s.readWords .hedgerow (byteAt p 0) n (byteAt p 1)
      r.1.sendTo 5 from_ (frTag f.bytes) ([0, 0, byteOf n, 0] ++ wordBytes r.2)
    else (s.writeWords .hedgerow (byteAt p 0) (words.take n) (byteAt p 1)).sendTo 5 from_ (frTag f.bytes) [0, 0, byteOf n, 0])

/-- The access the manager waits for has ended: with a status and words, or by the timeout. -/
def State.proxyEnd (s : State) (p : Proxy) (status : Option Nat) (words : List Word) : State :=
  let s := s.modFleet fun f => { f with proxy := none }
  let code := match status with
    | some 0 => 0
    | some _ => 5
    | none => 4
  let detail := status.getD 0
  if p.write then (s.hostPostDone code detail).hostResume
  else
    let ask := s.host.read
    let s := s.modHost fun h => { h with read := none }
    match s.host.wait, ask with
    | some (.data c), _ => s.stretchMet.wordsFinish c words code detail
    | _, some r => if status.isSome then s.modHost fun h => { h with held := some { r with status := detail, words := words, tick := s.tick } } else s
    | _, none => s

/-- REG_RSP_RECEIVE: the answer with the tag and from the node the manager waits for. -/
def execRegRspReceive (s : State) : Host.Outcome State Fault Refusal :=
  if !s.live then .next s
  else .next (s.withFrame (fun f => frType f.bytes == 5) fun f s =>
    match s.fleet.proxy with
    | some p => if p.tag = frTag f.bytes ∧ p.node = frSrc f.bytes then
        s.proxyEnd p (some (byteAt (frPayload f.bytes) 0)) (toWords ((frPayload f.bytes).drop 4)) else s
    | none => s)

/-- REG_TIMEOUT: `REG_TO_MS` after the request; 0 acts as 1. -/
def execRegTimeout (s : State) : Host.Outcome State Fault Refusal :=
  match s.fleet.proxy with
  | some p =>
    if s.live ∧ p.since + 20 * max 1 (s.fld pFLEET FLEET.CFG_REG_TO_MS) ≤ s.tick then
      .next (((s.raise pFLEET FLEET.PG_EVT_REG_TIMEOUT).bump pFLEET FLEET.STATS_REG_TO 1).proxyEnd p none [])
    else .next s
  | none => .next s

/-- EVT_FRAME_RECEIVE: the acting manager's fleet summary follows a node's `NODE_SUM.ATTN`. -/
def execEvtFrameReceive (s : State) : Host.Outcome State Fault Refusal :=
  if !s.live then .next s
  else .next (s.withFrame (fun f => frType f.bytes == 9) fun f s =>
    if s.acting = .manager then (s.setMapBit pFLEET FLEET.EVT_SUM_NODES (frSrc f.bytes) (bitAt (byteAt f.bytes 8) 1)).hostWatch else s)

end Sys2Proof.Machine
end

