-- ==== Sys2Proof/Machine/Mains.lean ====
section
/-!
DEFINITION. The mains companion (R82-R87, Table 4.6) and its link, on the LN-6416X.
-/

namespace Sys2Proof.Machine

/-- Change the companion's state. -/
def State.modMains (s : State) (f : MainsSt → MainsSt) : State := { s with mains := f s.mains }

/-- `BUDGET` follows the line state, with the budgets the companion holds; `BUD_SAG` while the data channel is down (Table 4.6, R86, R87). -/
def State.mainsBudget (s : State) : State :=
  let b := if !s.mains.link then s.fld pMAINS MAINS.BUD_SAG_POWER
    else match s.mains.line with
      | 0 => 0xFFFF
      | 1 => s.mains.budLow
      | 2 => s.mains.budSag
      | _ => s.mains.budLoss
  s.put pMAINS MAINS.BUDGET_POWER b

/-- The page shows a line state: a change raises its events (R84). -/
def State.mainsLine (s : State) (st : Nat) : State :=
  if s.fld pMAINS MAINS.STATE_LINE = st then s.mainsBudget
  else
    let s := (s.put pMAINS MAINS.STATE_LINE st).raise pMAINS MAINS.PG_EVT_STATE_CHG
    let s := match st with
      | 0 => s.raise pMAINS MAINS.PG_EVT_RESTORE
      | 2 => s.raise pMAINS MAINS.PG_EVT_SAG
      | 3 => s.raise pMAINS MAINS.PG_EVT_LOSS
      | _ => s
    s.mainsBudget

/-- The companion works for a main die whose AON domain runs. -/
def State.mainsOn (s : State) : Bool := s.part.x && s.aonOn

/-- Its page can be reached: the data channel carries frames. -/
def State.mainsUp (s : State) : Bool := s.mainsOn && s.mains.link

/-- The copy takes what the companion holds (R86); while the data channel is down it waits for the recovery, and shows the state in force then (log entry
102). -/
def State.mainsShow (s : State) : State :=
  if !s.mainsUp then s
  else
    let m := s.mains
    let s := ((s.put pMAINS MAINS.LINE_V_RMS m.rms).put pMAINS MAINS.LINE_V_PEAK m.peak).put pMAINS MAINS.LINE_F_FREQ m.freq
    let s := (s.putB pMAINS MAINS.LINE_F_DC m.dc).bump pMAINS MAINS.STATE_SAG_COUNT m.sagNew
    (s.modMains fun m => { m with sagNew := 0 }).mainsLine m.line

/-- The line state a completed cycle leads to (Table 4.6). -/
def MainsSt.next (m : MainsSt) (v : Nat) : Nat :=
  let cyc := max 1 m.cyc
  match m.line with
  | 0 => if cyc ≤ m.belowSag then 2 else if cyc ≤ m.below then 1 else 0
  | 1 => if cyc ≤ m.belowSag then 2 else if 10 ≤ m.atLow then 0 else 1
  | 2 => if 10 ≤ m.atSag then 1 else 2
  | _ => if m.sagV ≤ v then 2 else 3

/-- HV_RISE: `CONV_EN` goes high (R82). -/
def execHvRise (s : State) : Host.Outcome State Fault Refusal :=
  .next (if s.part.x ∧ s.mains.hvSeen = false then s.modMains fun m => { m with hvSeen := true, conv := true } else s)

/-- LINE_CYCLE_END (R83, R84). The counts of consecutive cycles run on through changes of state (log entry 96). -/
def execLineCycleEnd (rms peak freq : BitVec 16) (dc : Bool) (s : State) : Host.Outcome State Fault Refusal :=
  if !s.mainsOn then .next s
  else
    let v := rms.toNat
    let s := s.modMains fun m =>
      let low := decide (v < m.lowV)
      let sag := decide (v < m.sagV)
      { m with
        below := if low then m.below + 1 else 0, belowSag := if sag then m.belowSag + 1 else 0, atLow := if low then 0 else m.atLow + 1
        atSag := if sag then 0 else m.atSag + 1, rms := v, peak := peak.toNat, freq := if dc then 0 else freq.toNat, dc := dc
        sagNew := m.sagNew + sag.toNat }
    .next (s.modMains fun m => { m with line := m.next v }).mainsShow

/-- MAINS_LOSS: `HV` below 60 V for `LOSS_MS`. -/
def execMainsLoss (s : State) : Host.Outcome State Fault Refusal :=
  .next (if s.mainsOn then (s.modMains fun m => { m with line := 3 }).mainsShow else s)

/-- MAINS_WRITE_SYNC: fields written take effect in the companion (R86). -/
def execMainsWriteSync (s : State) : Host.Outcome State Fault Refusal :=
  .next (if s.mainsUp then
      let low := s.fld pMAINS MAINS.LOW_V_LEVEL
      let sag := s.fld pMAINS MAINS.SAG_V_LEVEL
      let cyc := s.fld pMAINS MAINS.SAG_TIME_SAG_CYC
      let (a, b, c) := (s.fld pMAINS MAINS.BUD_LOW_POWER, s.fld pMAINS MAINS.BUD_SAG_POWER, s.fld pMAINS MAINS.BUD_LOSS_POWER)
      ((s.put pMAINS MAINS.PG_STAT_SYNC_PEND 0).modMains fun m =>
        { m with lowV := low, sagV := sag, cyc := cyc, budLow := a, budSag := b, budLoss := c }).mainsBudget
    else s)

/-- BARRIER_LINK_LOSS (R87): the companion drives `CONV_EN` high, and so leaves ZERO. -/
def execBarrierLinkLoss (s : State) : Host.Outcome State Fault Refusal :=
  if s.part.x ∧ s.mains.link then
    let s := s.modMains fun m => { m with link := false, conv := true }
    .next (if s.aonOn then (s.raise pMAINS MAINS.PG_EVT_LINK_ERR).mainsBudget else s)
  else .next s

/-- BARRIER_LINK_RECOVERY (R87): a failed start still to be reported is reported (Table 4.13). -/
def execBarrierLinkRecovery (s : State) : Host.Outcome State Fault Refusal :=
  if s.part.x then
    let s := s.modMains fun m => { m with link := true }
    if s.aonOn then
      let s := s.raiseIf s.mains.convFail pMAINS MAINS.PG_EVT_CONV_FAIL
      .next (s.modMains fun m => { m with convFail := false }).mainsShow
    else .next s
  else .next s

end Sys2Proof.Machine
end

