-- ==== Sys2Proof/Machine/Modes.lean ====
section
/-!
DEFINITION. Power modes (R75-R81, R88, R89): requests, entry, wakes, attach-watch, DOZE.
-/

namespace Sys2Proof.Machine

/-! ### Requests (R76) -/

/-- A keyed write of `MODE_REQ`. -/
def State.modeKey (s : State) (key : BitVec 16) (m : Nat) : State := s.keyCmd pAON key.toNat 0x5A3C fun s => s.modeReq m

/-- MODE_REQ_RUN. -/
def execModeReqRun (key : BitVec 16) (s : State) : Host.Outcome State Fault Refusal := .next (s.modeKey key 0)

/-- MODE_REQ_DOZE. -/
def execModeReqDoze (key : BitVec 16) (s : State) : Host.Outcome State Fault Refusal := .next (s.modeKey key 1)

/-- MODE_REQ_STANDBY. -/
def execModeReqStandby (key : BitVec 16) (s : State) : Host.Outcome State Fault Refusal := .next (s.modeKey key 2)

/-- MODE_REQ_SHIP. -/
def execModeReqShip (key : BitVec 16) (s : State) : Host.Outcome State Fault Refusal := .next (s.modeKey key 3)

/-- MODE_REQ_ZERO. -/
def execModeReqZero (key : BitVec 16) (s : State) : Host.Outcome State Fault Refusal := .next (s.modeKey key 4)

/-! ### Entry (R77) -/

/-- Every engine has yielded. -/
def State.engsIdle (s : State) : Bool := allEngines.all fun k => (s.eng k).run == .idle

/-- MODE_ENTRY: after the boundary that follows the request, with every engine idle. ZERO is entered through STANDBY (R88); its request finishes with the
companion's answer. -/
def execModeEntry (s : State) : Host.Outcome State Fault Refusal :=
  match s.aon.entry with
  | some (m, c) =>
    if s.live && decide (1 ≤ c) && s.engsIdle then
      let ship := m == 3
      let s := (s.put pAON AON.MODE_STAT_MODE (if m = 4 then 2 else m)).put pCLK CLK.PG_STAT_RUNNING 0 |>.put pCLK CLK.PG_STAT_PLL_LOCK 0
      let s := if m = 4 then s else s.modeEnd 0
      let s := s.forPorts fun s n => s.modCc n fun c => { c with watch := 0 }
      .next { s with
        phase := if ship then .ship else .sleep
        gpio := s.padHold
        host := { HostSt.init with stuck := s.host.stuck }
        aon := { s.aon with entry := none, zeroAsked := m == 4, wakes := 0 } }
    else .next s
  | none => .next s

/-- MODE_ENTRY_BUSY: an engine is still busy 2 ticks after the first boundary. -/
def execModeEntryBusy (s : State) : Host.Outcome State Fault Refusal :=
  match s.aon.entry with
  | some (_, c) =>
    if s.live && decide (3 ≤ c) && !s.engsIdle then .next { s.modeEnd 5 with aon := { s.aon with entry := none } } else .next s
  | none => .next s

/-! ### Wakes (R78, R80, R81, R89) -/

/-- A wake source is enabled; MAINS on the LN-6416X only. -/
def State.wakeOn (s : State) (src : Nat) : Bool := bitAt (s.fld pAON AON.WAKE_EN_SRC) src && (src != 5 || s.part.x)

/-- Mode in force. -/
def State.mode (s : State) : Nat := s.fld pAON AON.MODE_STAT_MODE

/-- The wake chain of ZERO starts: the companion raises `CONV_EN` (R89). `LAST_WAKE` keeps the lowest port of the ATTACH and VBUS wakes until CORE wakes. -/
def State.zeroChain (s : State) (src : Nat) (n : Port) : State :=
  let first := s.aon.wakes &&& 3 == 0
  let s := if src ≤ 1 then s.put pAON AON.LAST_WAKE_PORT (if first then n.val else min n.val (s.fld pAON AON.LAST_WAKE_PORT)) else s
  { s with
    aon := { s.aon with wakes := s.aon.wakes ||| BitVec.ofNat 6 (2 ^ src) }
    mains := { s.mains with conv := true, chain := true } }

/-- SHIP is being entered: `WAKE_EN` is disregarded, and only the `VBUS` and `SHIP` detectors count (R81). -/
def State.shipEntry (s : State) : Bool :=
  match s.aon.entry with
  | some (m, _) => m == 3
  | none => false

/-- A wake source fires: in STANDBY CORE wakes, in ZERO the chain starts, during an entry the entry is abandoned (R77). A request for ZERO whose barrier power is
not confirmed yet is still being entered. -/
def State.wakeBy (s : State) (src : Nat) (n : Port) : State :=
  match s.phase with
  | .sleep =>
    if !s.wakeOn src then s
    else if s.mode = 4 then s.zeroChain src n
    else (if s.aon.zeroAsked then s.modeEnd 4 else s).wakeCore (2 ^ src) n
  | .run => if (if s.shipEntry then src == 1 else s.wakeOn src) then s.entryWake else s
  | _ => s

/-- WAKE (Table 4.5). -/
def execWake (src : Fin 6) (n : Port) (s : State) : Host.Outcome State Fault Refusal := .next (s.wakeBy src.val n)

/-- ZERO_WAKE: the same in ZERO only. -/
def execZeroWake (src : Fin 6) (n : Port) (s : State) : Host.Outcome State Fault Refusal :=
  .next (if s.phase = .sleep ∧ s.mode = 4 ∧ s.wakeOn src.val then s.zeroChain src.val n else s)

/-- WAKE_TIMER (R25): counts from the entry; a period of 0 disables it. -/
def execWakeTimer (s : State) : Host.Outcome State Fault Refusal :=
  .next (if s.phase = .sleep ∧ s.fld pAON AON.WAKE_TIMER_MS_PERIOD ≠ 0 then s.wakeBy 4 0 else s)

/-- HOST_ADDRESS_WAKE: in STANDBY the device NACKs its address and wakes (R80). -/
def execHostAddressWake (s : State) : Host.Outcome State Fault Refusal :=
  .next (if s.phase = .sleep ∧ s.mode = 2 ∧ s.flag pSUP SUP.PG_STAT_VDDIO_OK then s.wakeBy 2 0 else s)

/-- One attach-watch sample of a port (R79): its pins' voltages; whether two successive samples of a pin differ from open. -/
def State.watchSample (s : State) (n : Port) (mv1 mv2 : Nat) : State × Bool :=
  let old := (s.port n).cc.watch
  let s := (s.ccStore n mv1 mv2).lineShow n
  let now := (s.ccClass n 0 != .open).toNat + 2 * (s.ccClass n 1 != .open).toNat
  (s.modCc n fun c => { c with watch := now }, old &&& now != 0)

/-- The CC state is Unattached, where attach-watch looks for an attach. -/
def State.ccRests (s : State) (n : Port) : Bool := s.ccState n == .unattachedSnk || s.ccState n == .unattachedSrc

/-- Samples of ports whose CC state machine rests; those that report a partner. -/
def State.watchAll (s : State) : List (Port × Nat × Nat) → State × List (Port × Nat × Nat)
  | [] => (s, [])
  | c :: l =>
    let t := s.watchSample c.1 c.2.1 c.2.2
    let r := t.1.watchAll l
    (r.1, if t.2 then c :: r.2 else r.2)

/-- A sample of a port that waits for its debounce (R156): OPEN on the active pin returns it to Unattached. -/
def State.watchWait (s : State) (n : Port) (mv1 mv2 : Nat) : State :=
  let old := (s.ccMv n 0, s.ccMv n 1)
  let s := (if old = (mv1, mv2) then s else s.ccStore n mv1 mv2).lineShow n
  if s.ccClass n (s.activePin n) = .open then
    match s.ccState n with
    | .attachWaitSnk => (s.ccEnter n .unattachedSnk).modCc n fun c => { c with watch := 0 }
    | .attachWaitSrc => (s.ccEnter n .unattachedSrc).modCc n fun c => { c with watch := 0 }
    | _ => s
  else s

/-- ATTACH_WATCH_SAMPLE: the watched ports. A port seen enters AttachWait and fires ATTACH, the lowest of several in `LAST_WAKE`; sampling goes on through the
debounce, where OPEN returns the port to Unattached (R156). -/
def execAttachWatchSample (cc : List (Port × Nat × Nat)) (s : State) : Host.Outcome State Fault Refusal :=
  if s.phase ≠ .sleep then .next s
  else
    let watched := cc.filter fun c => bitAt (s.fld pAON AON.WATCH_CFG_PORTS) c.1.val
    let waiting := watched.filter fun c => !s.ccRests c.1
    let r := s.watchAll (watched.filter fun c => s.ccRests c.1)
    let s := r.2.foldl (fun s c => s.ccJudge c.1) (waiting.foldl (fun s c => s.watchWait c.1 c.2.1 c.2.2) r.1)
    match allPorts.find? fun n => r.2.any fun c => c.1 == n with
    | some n => .next (s.wakeBy 0 n)
    | none => .next s

/-- SHIP_WAKE: the VBUS detector (1) or the `SHIP` pin (6); a POR with `LAST_WAKE` loaded (R81). During the entry it abandons the entry (R77). -/
def execShipWake (src : Fin 7) (n : Port) (s : State) : Host.Outcome State Fault Refusal :=
  if s.phase = .run ∧ s.shipEntry ∧ (src = 1 ∨ src = 6) then .next s.entryWake
  else if s.phase = .ship ∧ (src = 1 ∨ src = 6) then
    .next (s.powerOn (some (BitVec.ofNat 32 (2 ^ src.val + 128 + (if src = 1 then 65536 * n.val else 0)))))
  else .next s

/-! ### Barrier power (R88, R89) -/

/-- BARRIER_CONFIRM: the source becomes BARRIER, `CONV_EN` goes low, ZERO is in force. -/
def execBarrierConfirm (s : State) : Host.Outcome State Fault Refusal :=
  if s.phase = .sleep ∧ s.aon.zeroAsked then
    let s := ((s.put pAON AON.MODE_STAT_MODE 4).setSrc 2).modeEnd 0
    .next { s with aon := { s.aon with zeroAsked := false }, mains := { s.mains with barrier := true, conv := false, chain := false } }
  else .next s

/-- BARRIER_TIMEOUT: the device stays in STANDBY. -/
def execBarrierTimeout (s : State) : Host.Outcome State Fault Refusal :=
  if s.phase = .sleep ∧ s.aon.zeroAsked then .next { s.modeEnd 6 with aon := { s.aon with zeroAsked := false } } else .next s

/-- ZERO_VSYS_VALID: the source returns to VSYS, barrier power ends and CORE wakes; without a wake chain (R87) the device is then in STANDBY. -/
def execZeroVsysValid (mv : Nat) (s : State) : Host.Outcome State Fault Refusal :=
  .next (s.vsys mv fun s =>
    if s.phase = .sleep ∧ s.mode = 4 ∧ s.mains.conv ∧ 3000 ≤ mv then
      let chain := s.mains.chain
      let s := s.setSrc 0
      let s := { s with mains := { s.mains with barrier := false, chain := false } }
      if chain then s.wakeCore s.aon.wakes.toNat (Fin.ofNat 8 (s.fld pAON AON.LAST_WAKE_PORT)) else s.put pAON AON.MODE_STAT_MODE 2
    else s)

/-- CONV_FAIL: the converter did not bring up `VSYS` in `CONV_TO_MS`; `CONV_EN` goes low and the device stays in ZERO. With the data channel down `CONV_EN` stays
high (R87), and the failure is recorded (log entry 103). -/
def execConvFail (s : State) : Host.Outcome State Fault Refusal :=
  if s.phase = .sleep ∧ s.mode = 4 ∧ s.mains.chain then
    let up := s.mains.link
    let s := s.raiseIf up pMAINS MAINS.PG_EVT_CONV_FAIL
    .next { s with mains := { s.mains with conv := !up, chain := false, convFail := !up }, aon := { s.aon with wakes := 0 } }
  else .next s

/-! ### DOZE (R75, Table 4.4) -/

/-- A port is in an Unattached state, or not enabled. -/
def State.portRests (s : State) (n : Port) : Bool := !s.enabled (pCC n) || s.ccState n == .unattachedSnk || s.ccState n == .unattachedSrc

/-- Entry to DOZE at a boundary with `AUTO`, and the return to RUN when a port leaves its Unattached state. DOZE asked for while a port is not Unattached ends at
the next boundary too (log entry 95). -/
def State.dozeTick (s : State) : State :=
  let rest := allPorts.all s.portRests
  if s.mode = 1 then (if rest then s else s.put pAON AON.MODE_STAT_MODE 0)
  else if s.mode = 0 ∧ s.flag pAON AON.DOZE_CFG_AUTO ∧ rest ∧ s.aon.entry = none then s.put pAON AON.MODE_STAT_MODE 1
  else s

end Sys2Proof.Machine
end

