-- ==== Sys2Proof/Machine/RegCmds.lean ====
section
/-!
DEFINITION. The register commands with a row of their own (chapters 2, 4, 5, 6, 16, 18): each writes or reads one register of one page. A command acts while CORE
runs and no reset of its page is in progress (R46).
-/

namespace Sys2Proof.Machine

/-! ### Resets asked for by a write -/

/-- RST_REQ: a WARM reset with cause `SW_WARM` begins (R92). -/
def execRstReq (key : BitVec 16) (s : State) : Host.Outcome State Fault Refusal :=
  .next (s.keyCmd pSYS key.toNat 0xA5C3 State.rstReq)

/-- PORT_RST: each port named is reset unless one of its pages is locked (R45, R160). -/
def execPortRst (ports : BitVec 8) (key : BitVec 16) (s : State) : Host.Outcome State Fault Refusal :=
  .next (s.keyCmd pSYS key.toNat 0xA5C3 fun s => s.portRst ports.toNat)

/-- BLOCK_RESET (R45, R46): pages whose block the part lacks take no write. -/
def execBlockReset (pg : BitVec 8) (s : State) : Host.Outcome State Fault Refusal :=
  .next (s.cmd pg.toNat fun s =>
    match pageRow pg.toNat with
    | none => s
    | some r => if s.pageShut r then s else s.blockReset pg.toNat)

/-- BLOCK_RESET_DONE: the first tick boundary after the write (R46). -/
def execBlockResetDone (pg : BitVec 8) (s : State) : Host.Outcome State Fault Refusal :=
  .next (if s.live then s.blockDone pg.toNat else s)

/-! ### The common registers -/

/-- FREEZE: captures or releases the page's snapshot (R38). -/
def execFreeze (pg : BitVec 8) (on : Bool) (s : State) : Host.Outcome State Fault Refusal :=
  .next (s.cmd pg.toNat fun s =>
    match pageRow pg.toNat with
    | none => s
    | some r => if s.pageShut r then s else if on then s.freezeOn pg.toNat else s.freezeOff pg.toNat)

/-- PG_EVT_SET (R37). -/
def execPgEvtSet (pg : BitVec 8) (v : Word) (s : State) : Host.Outcome State Fault Refusal :=
  .next (s.regWrite .host pg.toNat 0x18 v)

/-- PG_EVT_CLEAR (R37): `hw` holds the bits that hardware sets in the same cycle. -/
def execPgEvtClear (pg : BitVec 8) (v hw : Word) (s : State) : Host.Outcome State Fault Refusal :=
  .next (s.cmd pg.toNat fun s =>
    match pageRow pg.toNat with
    | none => s
    | some r => if s.pageShut r then s else s.evtClear pg.toNat v hw)

/-- PG_LOCK_WRITE (R45). -/
def execPgLockWrite (pg : BitVec 8) (v : Word) (s : State) : Host.Outcome State Fault Refusal :=
  .next (s.regWrite .host pg.toNat 0x1C v)

/-- REGISTER_WRITE (R43, R45). -/
def execRegisterWrite (rq : Req) (pg off : BitVec 8) (v : Word) (s : State) : Host.Outcome State Fault Refusal :=
  .next (s.regWrite rq pg.toNat off.toNat v)

/-- A read by a requester: the word read stands in `readData`. -/
def State.readInto (s : State) (rq : Req) (pg off : Nat) : State :=
  let r := s.regRead rq pg off
  { r.1 with readData := r.2 }

/-- LOW_WORD_READ (R44). -/
def execLowWordRead (rq : Req) (pg off : BitVec 8) (s : State) : Host.Outcome State Fault Refusal :=
  .next (s.readInto rq pg.toNat off.toNat)

/-- READ_CLEAR_FIELD (R11). -/
def execReadClearField (rq : Req) (pg off : BitVec 8) (s : State) : Host.Outcome State Fault Refusal :=
  .next (s.readInto rq pg.toNat off.toNat)

/-! ### Placer, engines -/

/-- PLCR_POST (R124). -/
def execPlcrPost (slot : BitVec 11) (s : State) : Host.Outcome State Fault Refusal :=
  .next (s.cmd pPLCR fun s => s.plcrPost slot.toNat)

/-- ENG_RETIRE (R137). -/
def execEngRetire (k : Engine) (key : BitVec 16) (s : State) : Host.Outcome State Fault Refusal :=
  .next (s.keyCmd (pENG k) key.toNat 0x7E71 fun s => s.retireEngine k)

/-! ### Always-on SRAM, OTP, locks, data flash -/

/-- AOS_DATA_ACCESS: a read (its word in `readData`) or a write (R218). -/
def execAosDataAccess (v : Option Word) (s : State) : Host.Outcome State Fault Refusal :=
  .next (s.cmd pAON fun s =>
    let r := s.aosAccess v
    if v.isSome then r.1 else { r.1 with readData := r.2 })

/-- OTP_PROGRAM (R107). -/
def execOtpProgram (key : BitVec 16) (s : State) : Host.Outcome State Fault Refusal :=
  .next (s.keyCmd pOTP key.toNat 0x0A7C State.otpProgram)

/-- OTP_LOCK (R108). -/
def execOtpLock (region : BitVec 3) (key : BitVec 16) (s : State) : Host.Outcome State Fault Refusal :=
  .next (s.keyCmd pOTP key.toNat 0x0A7C fun s => s.otpLock region.toNat)

/-- LOCK_STICKY_SET (R110). -/
def execLockStickySet (v : Word) (s : State) : Host.Outcome State Fault Refusal :=
  .next (s.cmd pLOCK fun s => s.stickySet v.toNat)

/-- NVD_WRITE (R111). -/
def execNvdWrite (area : Fin 16) (format : BitVec 4) (key : BitVec 16) (s : State) : Host.Outcome State Fault Refusal :=
  .next (s.keyCmd pNVD key.toNat 0x6E1D fun s => s.nvdStart (.write area.val format.toNat))

/-- NVD_READ (R111). -/
def execNvdRead (area : Fin 16) (key : BitVec 16) (s : State) : Host.Outcome State Fault Refusal :=
  .next (s.keyCmd pNVD key.toNat 0x6E1D fun s => s.nvdStart (.read area.val))

/-- NVD_INVALIDATE (R112). -/
def execNvdInvalidate (area : Fin 16) (key : BitVec 16) (s : State) : Host.Outcome State Fault Refusal :=
  .next (s.keyCmd pNVD key.toNat 0x6E1D fun s => s.nvdStart (.invalidate area.val))

/-! ### Debug, GPIO -/

/-- DBG_NEW_CHALLENGE: `v` is the random number issued (R115). -/
def execDbgNewChallenge (v : BitVec 64) (key : BitVec 16) (s : State) : Host.Outcome State Fault Refusal :=
  .next (s.keyCmd pDBG key.toNat 0xD3B6 fun s => s.dbgChallenge v)

/-- DBG_SUBMIT (R115). -/
def execDbgSubmit (key : BitVec 16) (s : State) : Host.Outcome State Fault Refusal :=
  .next (s.keyCmd pDBG key.toNat 0xD3B6 State.dbgSubmit)

/-- GPIO_OUT_SET (R58). -/
def execGpioOutSet (v : BitVec 8) (s : State) : Host.Outcome State Fault Refusal :=
  .next (s.cmd pGPIO fun s => s.gpioOut v.toNat 0)

/-- GPIO_OUT_CLR (R58). -/
def execGpioOutClr (v : BitVec 8) (s : State) : Host.Outcome State Fault Refusal :=
  .next (s.cmd pGPIO fun s => s.gpioOut 0 v.toNat)

/-- PIN_CFG_WRITE (R60). -/
def execPinCfgWrite (i : Fin 8) (v : Word) (s : State) : Host.Outcome State Fault Refusal :=
  .next (s.cmd pGPIO fun s => s.pinCfg i v)

/-! ### Host page, flash -/

/-- HOST_CMD_CLEAR_STATS (Table 16.6). -/
def execHostCmdClearStats (key : BitVec 16) (s : State) : Host.Outcome State Fault Refusal :=
  .next (s.keyCmd pHOST key.toNat 0x5B17 State.hostClear)

/-- HOST_CMD_NOTIFY_NOW (Table 16.6). -/
def execHostCmdNotifyNow (key : BitVec 16) (s : State) : Host.Outcome State Fault Refusal :=
  .next (s.keyCmd pHOST key.toNat 0x5B17 State.notifyNow)

/-- The engine that may write `FLASH.CMD`: the flash engine, or E0 in recovery (Table 18.8). -/
def State.flashReq (s : State) : Req := .eng (if s.recovery then 0 else s.flashEng.getD 0)

/-- FLASH_PROGRAM (R474). -/
def execFlashProgram (key : BitVec 16) (s : State) : Host.Outcome State Fault Refusal :=
  .next (s.cmd pFLASH fun s => s.flashCmd s.flashReq (BitVec.ofNat 32 (65536 * key.toNat + 1)))

/-- FLASH_ERASE (R474). -/
def execFlashErase (key : BitVec 16) (s : State) : Host.Outcome State Fault Refusal :=
  .next (s.cmd pFLASH fun s => s.flashCmd s.flashReq (BitVec.ofNat 32 (65536 * key.toNat + 2)))

/-- FLASH_RD_DATA: the word at `RD_ADDR`, which advances (Table 18.8). -/
def execFlashRdData (s : State) : Host.Outcome State Fault Refusal :=
  .next (s.readInto .host pFLASH 0x38)

end Sys2Proof.Machine
end

