-- ==== Sys2Proof/Machine/Skink.lean ====
section
/-!
DEFINITION. The Skink instruction set (chapter 17) but for memory and control: the fields of a word, the structure of a bundle, the X and M slots,
packed decimal, rounding, control registers.
-/

namespace Sys2Proof.Machine

/-! ### Words (Tables 17.3, 17.4) -/

/-- A word of a bundle with its address. -/
structure SkW where
  addr : Nat
  w : Nat
deriving DecidableEq, Repr

def SkW.stop (x : SkW) : Bool := bitAt x.w 31
/-- 0 A, 1 X, 2 M, 3 C. -/
def SkW.slot (x : SkW) : Nat := bitsOf x.w 29 2
def SkW.pred (x : SkW) : Nat := bitsOf x.w 26 3
def SkW.pneg (x : SkW) : Bool := bitAt x.w 25
def SkW.op (x : SkW) : Nat := bitsOf x.w 19 6
/-- d [18:15]. -/
def SkW.d (x : SkW) : Fin 16 := Fin.ofNat 16 (bitsOf x.w 15 4)
/-- s [14:11]. -/
def SkW.s (x : SkW) : Fin 16 := Fin.ofNat 16 (bitsOf x.w 11 4)
/-- t [10:7]. -/
def SkW.t (x : SkW) : Fin 16 := Fin.ofNat 16 (bitsOf x.w 7 4)
/-- Address register [14:12] (AM, DA, JR). -/
def SkW.a (x : SkW) : Fin 8 := Fin.ofNat 8 (bitsOf x.w 12 3)
/-- ad [18:16]. -/
def SkW.ad (x : SkW) : Fin 8 := Fin.ofNat 8 (bitsOf x.w 16 3)
/-- as [15:13]. -/
def SkW.as_ (x : SkW) : Fin 8 := Fin.ofNat 8 (bitsOf x.w 13 3)
/-- Pd [17:15]. -/
def SkW.pd (x : SkW) : Nat := bitsOf x.w 15 3
/-- acc [18:17]. -/
def SkW.acc (x : SkW) : Fin 4 := Fin.ofNat 4 (bitsOf x.w 17 2)
/-- A signed immediate of `n` low bits. -/
def SkW.imm (x : SkW) (n : Nat) : Int := signed n x.w

/-- The words of a bundle up to the first with STOP; `none` when four words have none. -/
def takeBundle : Nat → List SkW → Option (List SkW)
  | 0, _ => none
  | _, [] => none
  | n + 1, x :: l => if x.stop then some [x] else (takeBundle n l).map (x :: ·)

/-- The word of a slot. -/
def slotWord (b : List SkW) (k : Nat) : Option SkW := b.find? fun x => x.slot == k

/-- String instructions (Table 17.6). -/
def isString (x : SkW) : Bool := x.slot == 0 && decide (0x20 ≤ x.op) && decide (x.op ≤ 0x24)

/-- RPT. -/
def isRpt (x : SkW) : Bool := x.slot == 3 && x.op == 7

/-- The first word whose slot does not follow its predecessor's. -/
def badOrder : List SkW → Option SkW
  | a :: b :: l => if a.slot < b.slot then badOrder (b :: l) else some b
  | _ => none

/-- The word that makes a bundle illegal by R431 and R432. -/
def badBundle (b : List SkW) : Option SkW :=
  match badOrder b with
  | some x => some x
  | none =>
    match slotWord b 0, slotWord b 3 with
    | some a, some c =>
      if (a.op == 0x10 || a.op == 0x11) && (c.op == 2 || c.op == 4 || c.op == 5) then some c else none
    | _, _ => none

/-- Opcodes the tables list, by slot. -/
def opListed (slot op : Nat) : Bool :=
  match slot with
  | 0 => decide (op ≤ 0x0A) || (decide (0x0C ≤ op) && decide (op ≤ 0x11)) || op == 0x18 || (decide (0x20 ≤ op) && decide (op ≤ 0x24))
  | 1 => decide (op ≤ 0x0E) || (decide (0x10 ≤ op) && decide (op ≤ 0x1C)) || (decide (0x20 ≤ op) && decide (op ≤ 0x22)) ||
      (decide (0x28 ≤ op) && decide (op ≤ 0x2D)) || op == 0x30 || decide (0x3C ≤ op)
  | 2 => decide (op ≤ 8) || (decide (0x10 ≤ op) && decide (op ≤ 0x14))
  | _ => decide (op ≤ 0x0B) || op == 0x0F

/-- A word that is illegal by itself (Table 17.10): an opcode not listed, LDP or STP with odd d, YIELD with kind 0b11. -/
def wordIllegal (x : SkW) : Bool :=
  !opListed x.slot x.op || (x.slot == 0 && (x.op == 9 || x.op == 0x0A) && x.d.val % 2 == 1) ||
    (x.slot == 3 && x.op == 6 && bitsOf x.w 17 2 == 3)

/-- Whether a word executes (R433). -/
def SkW.runs (x : SkW) (p : BitVec 8) : Bool := (x.pred == 0 || p.getLsbD x.pred) != x.pneg

/-! ### Flags and control registers (Table 17.11) -/

def flgC (e : EngSt) : Bool := e.flg.getLsbD 0

/-- Set a bit of FLG. -/
def EngSt.setFlg (e : EngSt) (i : Nat) (b : Bool) : EngSt := { e with flg := BitVec.ofNat 32 (setBits e.flg.toNat i 1 b.toNat) }

/-- Set a sticky bit of FLG when a condition holds. -/
def EngSt.stick (e : EngSt) (i : Nat) (b : Bool) : EngSt := if b then e.setFlg i true else e

/-- Write a data register. -/
def EngSt.setD (e : EngSt) (i : Fin 16) (v : Nat) : EngSt := { e with d := e.d.set i.val (BitVec.ofNat 32 v) i.isLt }

/-- Write an address register. -/
def EngSt.setA (e : EngSt) (i : Fin 8) (v : Nat) : EngSt := { e with a := e.a.set i.val (BitVec.ofNat 24 v) i.isLt }

/-- Write a predicate; P0 always reads 1. -/
def EngSt.setP (e : EngSt) (i : Nat) (b : Bool) : EngSt :=
  if i = 0 then e else { e with p := BitVec.ofNat 8 (setBits e.p.toNat i 1 b.toNat) }

/-- A predicate as words read it. -/
def EngSt.getP (e : EngSt) (i : Nat) : Bool := i == 0 || e.p.getLsbD i

/-- Write an accumulator, wrapping modulo 2^72. -/
def EngSt.setAcc (e : EngSt) (i : Fin 4) (v : Int) : EngSt := { e with acc := e.acc.set i.val (BitVec.ofInt 72 v) i.isLt }

/-- A CSR as it stood before the bundle. -/
def State.csr (s : State) (k : Engine) (n : Nat) : Nat :=
  let e := s.eng k
  match n with
  | 0x01 => e.flg.toNat
  | 0x02 => e.mode.toNat
  | 0x03 => e.fhnd.toNat
  | 0x04 => e.fpc.toNat
  | 0x05 => e.fcause.toNat
  | 0x06 => e.faddr.toNat
  | 0x07 => e.seaddr.toNat
  | 0x08 => e.stklim.toNat
  | 0x10 => 0x00001F01
  | 0x11 => 0x00840808
  | 0x12 => k.val
  | 0x13 => s.engSlot k
  | 0x14 => unsigned 32 e.budleft
  | 0x15 => s.fld pCLK CLK.PHASE_CYCLE
  | 0x16 => s.tick % 2 ^ 32
  | _ => 0

/-- Write a CSR; RO ones and those not listed ignore writes. -/
def EngSt.csrWrite (e : EngSt) (n v : Nat) : EngSt :=
  match n with
  | 0x01 => { e with flg := BitVec.ofNat 32 (v &&& 0x1703) }
  | 0x02 => { e with mode := BitVec.ofNat 32 (v % 4) }
  | 0x03 => { e with fhnd := BitVec.ofNat 32 (v % 2 ^ 18) }
  | 0x08 => { e with stklim := BitVec.ofNat 32 (v % 2 ^ 24) }
  | _ => e

/-! ### Rounding and limits (R441) -/

/-- `v ÷ 2^n` rounded by MODE.RND. -/
def roundShift (mode n : Nat) (v : Int) : Int :=
  if n = 0 then v
  else
    let q := v / (2 ^ n : Nat)
    let r := v % (2 ^ n : Nat)
    let half : Int := (2 ^ (n - 1) : Nat)
    match mode % 4 with
    | 0 => q
    | 1 => if half ≤ r then q + 1 else q
    | _ => if half < r ∨ (r = half ∧ q % 2 = 1) then q + 1 else q

/-- Clamp to the signed range of `n` bits; the second result says whether the clamp acted. -/
def clampS (n : Nat) (v : Int) : Int × Bool :=
  let hi : Int := (2 ^ (n - 1) : Nat) - 1
  let lo : Int := -(2 ^ (n - 1) : Nat)
  if hi < v then (hi, true) else if v < lo then (lo, true) else (v, false)

/-! ### Packed decimal (R443) -/

/-- Digits 0-7 folded upward: each digit's sum gives its remainder by 10 and carries the quotient (log entry 64). -/
def decFold (f : Nat → Int) (c : Int) : Nat × Int :=
  (List.range 8).foldl (init := (0, c)) fun acc i =>
    let v := f i + acc.2
    (acc.1 + (v % 10).toNat * 16 ^ i, v / 10)

/-- A nibble. -/
def nib (v i : Nat) : Int := (bitsOf v (4 * i) 4 : Nat)

/-- A nibble above 9 among the eight. -/
def badDigit (v : Nat) : Bool := (List.range 8).any fun i => decide (9 < bitsOf v (4 * i) 4)

/-! ### The X slot (Table 17.7) -/

/-- A comparison. -/
def skCond (c s t : Nat) : Bool :=
  match c with
  | 0 => s == t
  | 1 => s != t
  | 2 => decide (signed 32 s < signed 32 t)
  | 3 => decide (signed 32 t ≤ signed 32 s)
  | 4 => decide (s < t)
  | 5 => decide (t ≤ s)
  | 6 => s &&& t != 0
  | _ => s &&& t == 0

/-- A sum of 32-bit values and a carry: result, carry, signed overflow. -/
def addC (s t c : Nat) : Nat × Bool × Bool :=
  let r := s + t + c
  (r % 2 ^ 32, decide (2 ^ 32 ≤ r), (clampS 32 (signed 32 s + signed 32 t + c)).2)

/-- A difference with a borrow in: result, borrow, signed overflow. -/
def subC (s t c : Nat) : Nat × Bool × Bool :=
  (unsigned 32 ((s : Int) - t - c), decide (s < t + c), (clampS 32 (signed 32 s - signed 32 t - c)).2)

/-- Write a result with C and V. -/
def EngSt.setCV (n : EngSt) (d : Fin 16) (r : Nat × Bool × Bool) : EngSt := ((n.setD d r.1).setFlg 0 r.2.1).setFlg 1 r.2.2

/-- Write a saturated result. -/
def EngSt.setSat (n : EngSt) (d : Fin 16) (v : Int) : EngSt :=
  let c := clampS 32 v
  (n.setD d (unsigned 32 c.1)).stick 8 c.2

/-- Write a decimal result with C and DERR. -/
def EngSt.setDec (n : EngSt) (d : Fin 16) (r : Nat × Int) (err : Bool) : EngSt :=
  ((n.setD d r.1).setFlg 0 (r.2 != 0)).stick 10 err

/-- Leading zero bits of a 32-bit value. -/
def clz (v : Nat) : Nat := ((List.range 32).find? fun i => bitAt v (31 - i)).getD 32

/-- An X-slot word: reads `e`, writes `n`. -/
def execX (e n : EngSt) (x : SkW) : EngSt :=
  let sv := (e.d.get x.s).toNat
  let tv := (e.d.get x.t).toNat
  let dv := (e.d.get x.d).toNat
  let c := (flgC e).toNat
  let sh := if bitAt x.w 6 then bitsOf x.w 0 5 else tv % 32
  let im := unsigned 32 (x.imm 11)
  let pos := bitsOf x.w 6 5
  let len := min (bitsOf x.w 1 5 + 1) (32 - pos)
  match x.op with
  | 0x01 => n.setCV x.d (addC sv tv 0)
  | 0x02 => n.setCV x.d (subC sv tv 0)
  | 0x03 => n.setCV x.d (addC sv tv c)
  | 0x04 => n.setCV x.d (subC sv tv c)
  | 0x05 => n.setSat x.d (signed 32 sv + signed 32 tv)
  | 0x06 => n.setSat x.d (signed 32 sv - signed 32 tv)
  | 0x07 => n.setCV x.d (addC sv im 0)
  | 0x08 => n.setD x.d (sv &&& tv)
  | 0x09 => n.setD x.d (sv ||| tv)
  | 0x0A => n.setD x.d (sv ^^^ tv)
  | 0x0B => n.setD x.d (sv &&& (2 ^ 32 - 1 - tv))
  | 0x0C => n.setD x.d (sv &&& im)
  | 0x0D => n.setD x.d (sv ||| im)
  | 0x0E => n.setD x.d (sv ^^^ im)
  | 0x10 => n.setD x.d (sv * 2 ^ sh)
  | 0x11 => n.setD x.d (sv / 2 ^ sh)
  | 0x12 => n.setD x.d (unsigned 32 (signed 32 sv / (2 ^ sh : Nat)))
  | 0x13 => n.setD x.d (sv / 2 ^ sh + sv * 2 ^ (32 - sh))
  | 0x14 => (n.setD x.d (2 * sv + c)).setFlg 0 (bitAt sv 31)
  | 0x15 => n.setD x.d (if signed 32 sv ≤ signed 32 tv then sv else tv)
  | 0x16 => n.setD x.d (if signed 32 sv ≤ signed 32 tv then tv else sv)
  | 0x17 => n.setSat x.d (signed 32 sv).natAbs
  | 0x18 => n.setD x.d (clz sv)
  | 0x19 => n.setD x.d (bitsOf sv pos len)
  | 0x1A => n.setD x.d (unsigned 32 (signed len (bitsOf sv pos len)))
  | 0x1B => n.setD x.d (setBits dv pos len sv)
  | 0x1C => n.setD x.d sv
  | 0x20 => n.setP x.pd (skCond (bitsOf x.w 4 3) sv tv)
  | 0x21 => n.setP x.pd (skCond (bitsOf x.w 8 3) sv (unsigned 32 (x.imm 8)))
  | 0x22 =>
    let a := e.getP (bitsOf x.w 12 3)
    let b := e.getP (bitsOf x.w 9 3)
    let r := match bitsOf x.w 7 2 with
      | 0 => a && b
      | 1 => a || b
      | 2 => a != b
      | _ => a && !b
    n.setP x.pd (r != bitAt x.w 6)
  | 0x28 => n.setDec x.d (decFold (fun i => nib sv i + nib tv i) 0) (badDigit sv || badDigit tv)
  | 0x29 => n.setDec x.d (decFold (fun i => nib sv i + nib tv i) c) (badDigit sv || badDigit tv)
  | 0x2A => n.setDec x.d (decFold (fun i => nib sv i - nib tv i) 0) (badDigit sv || badDigit tv)
  | 0x2B => n.setDec x.d (decFold (fun i => nib sv i - nib tv i) (-(c : Int))) (badDigit sv || badDigit tv)
  | 0x2C => n.setDec x.d (decFold (fun i => nib sv i) 0) (badDigit sv)
  | 0x2D => n.setDec x.d (decFold (fun i => 2 * nib sv i) c) (badDigit sv)
  | 0x30 => n.setD x.d (setBits dv 17 15 (bitsOf x.w 0 15))
  | 0x3C => n.setD x.d (unsigned 32 (signed 17 (bitsOf x.w 0 15)))
  | 0x3D => n.setD x.d (unsigned 32 (signed 17 (bitsOf x.w 0 15 + 2 ^ 15)))
  | 0x3E => n.setD x.d (unsigned 32 (signed 17 (bitsOf x.w 0 15 + 2 ^ 16)))
  | 0x3F => n.setD x.d (unsigned 32 (signed 17 (bitsOf x.w 0 15 + 3 * 2 ^ 15)))
  | _ => n

/-! ### The M slot (Table 17.8) -/

/-- Write an accumulator, clamped to 64 bits when S = 1. -/
def EngSt.putAcc (n : EngSt) (i : Fin 4) (sat : Bool) (v : Int) : EngSt :=
  if sat then
    let c := clampS 64 v
    (n.setAcc i c.1).stick 8 c.2
  else n.setAcc i v

/-- An M-slot word. In MVA and ASR bit 6 is both S and part of n [10:5], as Table 17.4 has them (log entry 116). -/
def execM (e n : EngSt) (x : SkW) : EngSt :=
  let sv := (e.d.get x.s).toNat
  let tv := (e.d.get x.t).toNat
  let ss := signed 32 sv
  let ts := signed 32 tv
  let sat := bitAt x.w 6
  let neg := fun (v : Int) => if bitAt x.w 5 then -v else v
  let old := (e.acc.get x.acc).toInt
  let dual := (signed 16 (sv / 65536) * signed 16 (tv / 65536) + signed 16 sv * signed 16 tv) * (2 ^ 33 : Nat)
  let mode := e.mode.toNat
  match x.op with
  | 0x01 => n.putAcc x.acc sat (neg (ss * ts))
  | 0x02 => n.putAcc x.acc sat (neg ((sv : Int) * tv))
  | 0x03 => n.putAcc x.acc sat (old + neg (ss * ts))
  | 0x08 => n.putAcc x.acc sat (old + neg ((sv : Int) * tv))
  | 0x04 => n.putAcc x.acc sat (neg (ss * ts * 2))
  | 0x05 => n.putAcc x.acc sat (old + neg (ss * ts * 2))
  | 0x06 => n.putAcc x.acc sat (neg dual)
  | 0x07 => n.putAcc x.acc sat (old + neg dual)
  | 0x10 =>
    let a := (e.acc.get (Fin.ofNat 4 (bitsOf x.w 13 2))).toInt
    let v := roundShift mode (bitsOf x.w 7 6) a
    let h := bitAt x.w 5
    let bits := if h then 16 else 32
    if sat then
      let c := clampS bits v
      (n.setD x.d (unsigned 32 c.1)).stick 8 c.2
    else n.setD x.d (unsigned 32 (signed bits (unsigned bits v)))
  | 0x11 => n.putAcc x.acc sat (ss * (2 ^ bitsOf x.w 5 6 : Nat))
  | 0x12 => n.putAcc x.acc sat (roundShift mode (bitsOf x.w 5 6) old)
  | 0x13 => n.putAcc x.acc sat (old + (e.acc.get (Fin.ofNat 4 (bitsOf x.w 15 2))).toInt)
  | 0x14 => n.setAcc x.acc 0
  | _ => n

end Sys2Proof.Machine
end

