-- ==== Sys2Proof/Machine/SkinkExec.lean ====
section
/-!
DEFINITION. Skink memory, strings, table lookup, control and the execution of one bundle (chapter 17).
-/

namespace Sys2Proof.Machine

/-! ### The engine address space (R427, R428, Table 17.2) -/

/-- Whether an access of `n` bytes is allowed. -/
def skAccOk (a n : Nat) (write : Bool) : Bool :=
  a % n == 0 &&
    (decide (a < 0x2000) || (decide (0x100000 ≤ a) && decide (a < 0x1E0000)) || (decide (0x200000 ≤ a) && decide (a < 0x210000) && n == 4) ||
      (decide (0x300000 ≤ a) && decide (a < 0x340000) && !write))

/-- Whether an address lies in the central store. -/
def skInStore (a : Nat) : Bool := decide (0x100000 ≤ a) && decide (a < 0x1E0000)

/-- Bytes of an engine's scratch. -/
def EngSt.scNat (e : EngSt) (a n : Nat) : Nat := leNat (Sparse.getList ramDflt e.scratch a n)

/-- A load through the register window. -/
def State.regLoad (s : State) (rq : Req) (pg off : Nat) : State × Nat × Bool :=
  let r := s.regRead rq pg off
  (r.1, r.2.toNat, false)

/-- A load: the value, and whether a store word it covers has wrong parity (R430). -/
def State.skLoad (s : State) (k : Engine) (a n : Nat) : State × Nat × Bool :=
  if a < 0x2000 then (s, (s.eng k).scNat a n, false)
  else if skInStore a then
    let o := a - 0x100000
    (s.stNote 5 o n, s.stNat o n, s.stBadIn o n)
  else if a < 0x300000 then s.regLoad (.eng k) ((a - 0x200000) / 256) (a % 256)
  else (s, leNat (Sparse.getList flashDflt s.iram (a - 0x300000) n), false)

/-- A store. -/
def State.skStore (s : State) (k : Engine) (a n v : Nat) : State :=
  if a < 0x2000 then s.modEng k fun e => { e with scratch := Sparse.setList ramDflt e.scratch a (leBytes n v) }
  else if skInStore a then s.stPut (a - 0x100000) n v
  else if a < 0x300000 then s.regWrite (.eng k) ((a - 0x200000) / 256) (a % 256) (BitVec.ofNat 32 v)
  else s

/-- `SERR` and `SEADDR` after a load (R430). -/
def EngSt.serr (e : EngSt) (a : Nat) (bad : Bool) : EngSt :=
  if bad then
    let e := if e.flg.getLsbD 9 then e else { e with seaddr := BitVec.ofNat 32 a }
    e.setFlg 9 true
  else e

/-- An address modulo 2^24. -/
def addr24 (v : Int) : Nat := (v % 2 ^ 24).toNat

/-! ### The A slot (Table 17.6) -/

/-- Access size of a format-AM opcode. -/
def amSize (op : Nat) : Nat :=
  match op with
  | 1 | 6 => 4
  | 2 | 3 | 7 => 2
  | 4 | 5 | 8 => 1
  | _ => 8

/-- Effective address and the new value of the address register (R436). -/
def amEa (e : EngSt) (x : SkW) : Nat × Nat :=
  let a : Int := (e.a.get x.a).toNat
  let sz : Int := amSize x.op
  let step := a + x.imm 10 * sz
  match bitsOf x.w 10 2 with
  | 0 => (addr24 step, addr24 a)
  | 1 => (addr24 a, addr24 step)
  | 2 => (addr24 step, addr24 step)
  | _ => (addr24 (a + (e.d.get (Fin.ofNat 16 (bitsOf x.w 0 4))).toNat * sz), addr24 a)

/-- The stack pointer less 4. -/
def EngSt.push (e : EngSt) : Nat := addr24 ((e.a.get 7).toNat - 4)

/-- Which of A4 and A5 a string element uses. -/
def strUses (op : Nat) : Bool × Bool :=
  match op with
  | 0x20 | 0x22 => (true, true)
  | 0x21 => (false, true)
  | _ => (true, false)

/-- Size of the element a string word performs (R446). -/
def EngSt.elemSize (e : EngSt) (op : Nat) : Nat :=
  let u := strUses op
  let al := fun (i : Fin 8) => (e.a.get i).toNat % 4 == 0
  if 4 ≤ (e.d.get 14).toNat ∧ (!u.1 || al 4) ∧ (!u.2 || al 5) then 4 else 1

/-- Accesses of an A-slot word, in order: address, size, write. TLI is apart. -/
def aAccesses (e : EngSt) (x : SkW) : List (Nat × Nat × Bool) :=
  let ea := (amEa e x).1
  let u := strUses x.op
  let n := e.elemSize x.op
  match x.op with
  | 1 | 2 | 3 | 4 | 5 => [(ea, amSize x.op, false)]
  | 6 | 7 | 8 => [(ea, amSize x.op, true)]
  | 9 => [(ea, 4, false), (addr24 (ea + 4), 4, false)]
  | 0x0A => [(ea, 4, true), (addr24 (ea + 4), 4, true)]
  | 0x10 => [(e.push, 4, true)]
  | 0x11 => [((e.a.get 7).toNat, 4, false)]
  | 0x20 | 0x21 | 0x22 | 0x23 | 0x24 =>
    (if u.1 then [((e.a.get 4).toNat, n, false)] else []) ++ (if u.2 then [((e.a.get 5).toNat, n, x.op == 0x20 || x.op == 0x21)] else [])
  | _ => []

/-! ### Table lookup (R444) -/

/-- A TLI descriptor: table address, entry size, breakpoint axis, points, x0, INV. -/
structure Tli where
  base : Nat
  size : Nat
  ax : Bool
  n : Nat
  x0 : Int
  inv : Nat
deriving DecidableEq, Repr

/-- The descriptor at an address of the scratch. -/
def EngSt.tli (e : EngSt) (a : Nat) : Tli :=
  let w := e.scNat a 4
  { base := bitsOf w 0 24, size := if bitAt w 24 then 4 else 2, ax := bitAt w 25, n := max 2 (min 256 (bitsOf (e.scNat (a + 4) 4) 0 9))
    x0 := signed 32 (e.scNat (a + 8) 4), inv := e.scNat (a + 12) 4 }

/-- The address TLI faults on: descriptor and table must lie in the scratch, aligned. -/
def EngSt.tliBad (e : EngSt) (a : Nat) : Option Nat :=
  if a % 4 ≠ 0 ∨ 0x2000 < a + 16 then some a
  else
    let t := e.tli a
    if t.base % t.size ≠ 0 ∨ 0x2000 < t.base + t.n * t.size * (if t.ax then 2 else 1) then some t.base else none

/-- The breakpoint interval that holds `x`. -/
def tliFind (xs : Nat → Int) (x : Int) : Nat → Nat → Nat → Nat
  | 0, lo, _ => lo
  | fuel + 1, lo, hi =>
    if hi - lo ≤ 1 then lo
    else
      let mid := (lo + hi) / 2
      if xs mid ≤ x then tliFind xs x fuel mid hi else tliFind xs x fuel lo mid

/-- The interpolated value. -/
def EngSt.tliValue (e : EngSt) (t : Tli) (x : Int) : Int :=
  let ent := fun i => signed (8 * t.size) (e.scNat (t.base + i * t.size) t.size)
  let ys := fun i => if t.ax then ent (2 * i + 1) else ent i
  let xs := fun i => ent (2 * i)
  let mix := fun i (f : Int) => ys i + roundShift e.mode.toNat 16 ((ys (i + 1) - ys i) * f)
  if t.ax then
    if x < xs 0 then ys 0
    else if xs (t.n - 1) ≤ x then ys (t.n - 1)
    else
      let i := tliFind xs x 9 0 (t.n - 1)
      mix i (if xs (i + 1) ≤ xs i then 0 else Int.tdiv ((x - xs i) * 65536) (xs (i + 1) - xs i))
  else
    let p := signed 64 (unsigned 64 ((x - t.x0) * t.inv))
    if p < 0 then ys 0
    else
      let i := (p / 2 ^ 24).toNat
      if t.n - 1 ≤ i then ys (t.n - 1) else mix i (p / 256 % 65536)

/-- ⌈log2 n⌉ for n up to 256. -/
def log2Up (n : Nat) : Nat := ((List.range 9).find? fun k => decide (n ≤ 2 ^ k)).getD 8

/-! ### String elements (R446) -/

/-- One element: reads and writes as the registers of `e` name them; the registers after it; whether SCMP found a difference. -/
def State.strElem (s : State) (k : Engine) (op : Nat) (e : EngSt) : State × EngSt × Bool :=
  let u := strUses op
  let n := e.elemSize op
  let a4 := (e.a.get 4).toNat
  let a5 := (e.a.get 5).toNat
  let d13 := (e.d.get 13).toNat
  let src := if u.1 then s.skLoad k a4 n else (s, d13 / 2 ^ (if n = 4 then 0 else 8 * (a5 % 4)) % 2 ^ (8 * n), false)
  let e := e.serr a4 src.2.2
  let s := src.1
  let dst := if op = 0x22 then s.skLoad k a5 n else (s, src.2.1, false)
  let e := e.serr a5 dst.2.2
  let s := dst.1
  if op = 0x22 ∧ src.2.1 ≠ dst.2.1 then (s, e, true)
  else
    let s := if op = 0x20 ∨ op = 0x21 then s.skStore k a5 n src.2.1 else s
    let bs := leBytes n src.2.1
    let e := match op with
      | 0x23 => e.setD 13 (crc16From (d13 % 65536) bs)
      | 0x24 => e.setD 13 (crc32From d13 bs)
      | _ => e
    let e := if u.1 then e.setA 4 (a4 + n) else e
    let e := if u.2 then e.setA 5 (a5 + n) else e
    (s, e.setD 14 (unsigned 32 ((e.d.get 14).toNat - (n : Int))), false)

/-- SCMP writes its predicate when the compare ends. -/
def EngSt.cmpEnd (e : EngSt) (x : SkW) (diff : Bool) : EngSt :=
  if x.op = 0x22 ∧ (diff ∨ e.d.get 14 = 0) then e.setP x.pd (!diff) else e

/-- How a repeat ends. -/
inductive RptEnd where
  | done | stopped
  | fault (addr : Nat)
deriving DecidableEq, Repr

/-- RPT (R447, R448): elements until the count is 0, a difference, a fault, or the element before which an overrun stops it. The last result counts the
elements. -/
def State.rptLoop (s : State) (k : Engine) (x : SkW) (stop : Option Nat) : Nat → Nat → EngSt → State × EngSt × RptEnd × Nat
  | 0, i, e => (s, e.cmpEnd x false, .done, i)
  | fuel + 1, i, e =>
    if e.d.get 14 = 0 then (s, e.cmpEnd x false, .done, i)
    else if stop = some i then (s, e, .stopped, i)
    else match (aAccesses e x).find? fun c => !skAccOk c.1 c.2.1 c.2.2 with
      | some c => (s, e, .fault c.1, i)
      | none =>
        let r := s.strElem k x.op e
        if r.2.2 then (r.1, r.2.1.cmpEnd x true, .done, i + 1) else r.1.rptLoop k x stop fuel (i + 1) r.2.1

/-- The new address register of a format-AM word (R436). -/
def EngSt.amBack (e : EngSt) (x : SkW) (ea : Nat × Nat) : EngSt := if bitsOf x.w 10 2 = 1 ∨ bitsOf x.w 10 2 = 2 then e.setA x.a ea.2 else e

/-- A load of one register; `f` extends the value. -/
def State.amLoad (s : State) (k : Engine) (e : EngSt) (x : SkW) (f : Nat → Nat) : State × EngSt :=
  let ea := amEa e x
  let r := s.skLoad k ea.1 (amSize x.op)
  (r.1, ((e.serr ea.1 r.2.2).amBack x ea).setD x.d (f r.2.1))

/-- An A-slot word, but for RPT: reads `e`. -/
def State.skA (s : State) (k : Engine) (e : EngSt) (x : SkW) : State × EngSt :=
  let ea := amEa e x
  let n := amSize x.op
  let dv := (e.d.get x.d).toNat
  match x.op with
  | 1 | 3 | 5 => s.amLoad k e x id
  | 2 => s.amLoad k e x fun v => unsigned 32 (signed 16 v)
  | 4 => s.amLoad k e x fun v => unsigned 32 (signed 8 v)
  | 6 | 7 | 8 => (s.skStore k ea.1 n (dv % 2 ^ (8 * n)), e.amBack x ea)
  | 9 =>
    let r := s.skLoad k ea.1 4
    let b := addr24 (ea.1 + 4)
    let q := r.1.skLoad k b 4
    (q.1, ((((e.serr ea.1 r.2.2).serr b q.2.2).amBack x ea).setD x.d r.2.1).setD (x.d + 1) q.2.1)
  | 0x0A => ((s.skStore k ea.1 4 dv).skStore k (addr24 (ea.1 + 4)) 4 (e.d.get (x.d + 1)).toNat, e.amBack x ea)
  | 0x0C => (s, e.setA x.ad (addr24 ((e.a.get x.as_).toNat + x.imm 13)))
  | 0x0D => (s, e.setA x.ad (e.d.get x.s).toNat)
  | 0x0E => (s, e.setD x.d (e.a.get x.a).toNat)
  | 0x0F => (s, e.setA x.ad ((e.a.get x.as_).toNat + (e.d.get x.t).toNat))
  | 0x10 => (s.skStore k e.push 4 dv, e.setA 7 e.push)
  | 0x11 =>
    let a := (e.a.get 7).toNat
    let r := s.skLoad k a 4
    (r.1, ((e.serr a r.2.2).setA 7 (a + 4)).setD x.d r.2.1)
  | 0x18 =>
    let a := (e.a.get (Fin.ofNat 8 (bitsOf x.w 8 3))).toNat
    (s, e.setD x.d (unsigned 32 (e.tliValue (e.tli a) (signed 32 (e.d.get x.s).toNat))))
  | 0x20 | 0x21 | 0x22 | 0x23 | 0x24 =>
    let r := s.strElem k x.op e
    (r.1, r.2.1.cmpEnd x r.2.2)
  | _ => (s, e)

/-! ### Faults (R449, R450) -/

/-- The fault of an executing word, and its `FADDR`: illegal, then stack, then access. -/
def State.wordFault (s : State) (e : EngSt) (x : SkW) : Option (Nat × Nat) :=
  let call := x.slot == 3 && (x.op == 2 || x.op == 4)
  let low := (call || (x.slot == 0 && x.op == 0x10)) && decide (e.push < e.stklim.toNat % 2 ^ 24)
  let acc := if x.slot = 0 then aAccesses e x
    else if call then [(e.push, 4, true)]
    else if x.slot = 3 ∧ x.op = 5 then [((e.a.get 7).toNat, 4, false)]
    else []
  if wordIllegal x then some (2, x.addr)
  else if low then some (3, (e.a.get 7).toNat)
  else if x.slot = 3 ∧ x.op = 0x0F ∧ s.dbgOpen = false then some (4, x.addr)
  else match (if x.slot = 0 ∧ x.op = 0x18 then e.tliBad (e.a.get (Fin.ofNat 8 (bitsOf x.w 8 3))).toNat else none) with
    | some a => some (1, a)
    | none => (acc.find? fun c => !skAccOk c.1 c.2.1 c.2.2).map fun c => (1, c.1)

/-- Cycles a bundle takes count against the budget (R131, R435). -/
def State.skSpend (s : State) (k : Engine) (n : Nat) : State := s.modEng k fun e => { e with budleft := e.budleft - n, used := e.used + n }

/-- Take over the registers a bundle has written; what an access changed elsewhere in the engine stays. P0 is hard-wired to 1 (Table 17.1). -/
def State.skApply (s : State) (k : Engine) (n : EngSt) : State :=
  s.modEng k fun e => { e with
    d := n.d, a := n.a, acc := n.acc, p := n.p ||| 1, pc := n.pc, flg := n.flg, mode := n.mode, fhnd := n.fhnd, stklim := n.stklim, seaddr := n.seaddr }

/-- The run ends with a yield; the idle engine may take another task in the cycles left (R127). -/
def State.skYield (s : State) (k : Engine) (kind readyAt : Nat) (dl : Option Word) (phase : Nat) : State :=
  if (s.eng k).run = .running ∧ s.live then (s.endRun k kind readyAt dl).idleReassign k (s.fld pCLK CLK.PHASE_LENGTH - phase) else s

/-- A fault (R450): the same task goes on at `FHND`, or ends as DONE with the fault CSRs as they are. -/
def State.skFault (s : State) (k : Engine) (f : Nat × Nat) (phase : Nat) : State :=
  let e := s.eng k
  if e.fhnd = 0 ∨ e.flg.getLsbD 12 then s.skYield k 0 0 none phase
  else
    s.modEng k fun e => { e.setFlg 12 true with
      fpc := e.pc.setWidth 32, fcause := BitVec.ofNat 32 f.1, faddr := BitVec.ofNat 32 f.2
      pc := BitVec.ofNat 18 (e.fhnd.toNat % 2 ^ 18 / 4 * 4) }

/-! ### The bundle -/

/-- The word at a byte address of instruction RAM. -/
def State.skWord (s : State) (a : Nat) : SkW := let b := a % 2 ^ 18; ⟨b, leNat (Sparse.getList flashDflt s.iram b 4)⟩

/-- The first structural fault of the four words at the PC (R431, R432, R447), or the words of the bundle. RPT is judged when it executes. -/
def State.skFetch (s : State) (e : EngSt) : List SkW × Option Nat :=
  let pc := e.pc.toNat
  let four := [s.skWord pc, s.skWord (pc + 4), s.skWord (pc + 8), s.skWord (pc + 12)]
  match takeBundle 4 four with
  | none => ([], some (match badOrder four with
    | some x => x.addr
    | none => (pc + 16) % 2 ^ 18))
  | some b =>
    let rpt := match slotWord b 3 with
      | some c =>
        if isRpt c && c.runs e.p then
          (match b with
          | [x, _] => if isString x then none else some x.addr
          | _ => some c.addr)
        else none
      | none => none
    (b, match badBundle b with
      | some x => some x.addr
      | none => rpt)

/-- The executing word of a slot. -/
def skRun (b : List SkW) (p : BitVec 8) (slot : Nat) : Option SkW := (slotWord b slot).filter fun x => x.runs p

/-- Addresses a bundle reads first in the scratch and in the store, for parity errors. -/
def skReads (e : EngSt) (a c : Option SkW) : List Nat :=
  let ra := match a with
    | some x => if x.op = 0x18 then [(e.a.get (Fin.ofNat 8 (bitsOf x.w 8 3))).toNat] else ((aAccesses e x).filter fun t => !t.2.2).map fun t => t.1
    | none => []
  let rc := match c with
    | some x => if x.op = 5 then [(e.a.get 7).toNat] else []
    | none => []
  ra ++ rc

/-- A C-slot word but for YIELD, RPT and BRK: reads `e`, writes `n`; the new PC when a branch is taken. `next`: the address after the bundle. -/
def State.skC (s : State) (k : Engine) (e n : EngSt) (x : SkW) (next : Nat) : State × EngSt × Option Nat :=
  let target := ((e.pc.toNat + 4 * x.imm 19 : Int) % 2 ^ 18).toNat
  let reg := (e.a.get x.a).toNat % 2 ^ 18
  let csr := bitsOf x.w 0 8
  let old := s.csr k csr
  let sv := (e.d.get x.s).toNat
  match x.op with
  | 1 => (s, n, some target)
  | 2 => (s.skStore k e.push 4 next, n.setA 7 e.push, some target)
  | 3 => (s, n, some reg)
  | 4 => (s.skStore k e.push 4 next, n.setA 7 e.push, some reg)
  | 5 =>
    let a := (e.a.get 7).toNat
    let r := s.skLoad k a 4
    (r.1, (n.serr a r.2.2).setA 7 (a + 4), some (r.2.1 % 2 ^ 18))
  | 8 => (s, n.setD x.d old, none)
  | 9 => (s, n.csrWrite csr sv, none)
  | 0x0A => (s, n.csrWrite csr (old ||| sv), none)
  | 0x0B => (s, n.csrWrite csr (old &&& (2 ^ 32 - 1 - sv)), none)
  | _ => (s, n, none)

/-- Cycles of a bundle without stalls (Table 17.5). -/
def skCycles (e : EngSt) (a : Option SkW) (taken : Bool) : Nat :=
  let base := match a with
    | some x =>
      if x.op = 0x18 then
        let t := e.tli (e.a.get (Fin.ofNat 8 (bitsOf x.w 8 3))).toNat
        if t.ax then 8 + 2 * log2Up t.n else 4
      else 1
    | none => 1
  base + taken.toNat

/-- A bundle without RPT and BRK: the words in slot order, then its end. -/
def State.skPlain (s : State) (k : Engine) (b : List SkW) (a c : Option SkW) (next : Nat) (x : BundleIn) : State :=
  let e := s.eng k
  let r := match a with
    | some w => s.skA k e w
    | none => (s, e)
  let n := match skRun b e.p 1 with
    | some w => execX e r.2 w
    | none => r.2
  let n := match skRun b e.p 2 with
    | some w => execM e n w
    | none => n
  let q := match c with
    | some w => r.1.skC k e n w next
    | none => (r.1, n, none)
  let pc := q.2.2.getD next / 4 * 4
  let s := (q.1.skApply k { q.2.1 with pc := BitVec.ofNat 18 pc }).skSpend k (skCycles e a q.2.2.isSome + x.stall)
  match c with
  | some w =>
    if w.op = 6 then
      s.skYield k (bitsOf w.w 17 2) ((e.d.get w.s).toNat % 65536) (if bitAt w.w 16 then some (e.d.get w.t) else none) x.phase.val
    else s
  | none => s

/-- The words of a legal bundle, all checks passed. -/
def State.skBody (s : State) (k : Engine) (b : List SkW) (x : BundleIn) : State :=
  let e := s.eng k
  let a := skRun b e.p 0
  let c := skRun b e.p 3
  let next := (e.pc.toNat + 4 * b.length) % 2 ^ 18
  match c with
  | some w =>
    if isRpt w then
      match a with
      | none => (s.skApply k { e with pc := BitVec.ofNat 18 next }).skSpend k (1 + x.stall)
      | some aw =>
        let r := s.rptLoop k aw x.stop (e.d.get 14).toNat 0 e
        let s := r.1.skSpend k (max 1 r.2.2.2 + x.stall)
        match r.2.2.1 with
        | .done => s.skApply k { r.2.1 with pc := BitVec.ofNat 18 next }
        | .stopped => s.skApply k r.2.1
        | .fault f => (s.skApply k r.2.1).skFault k (1, f) x.phase.val
    else if w.op = 0x0F then (s.modEng k fun e => { e with halted := true }).skSpend k (1 + x.stall)
    else s.skPlain k b a c next x
  | none => s.skPlain k b a c next x

/-- One bundle (R431-R455): the fetch, the checks of every word, the accesses and writes. -/
def State.skStep (s : State) (k : Engine) (x : BundleIn) : State :=
  let s := s.put pCLK CLK.PHASE_CYCLE x.phase.val
  let s := if x.cacheBad then s.engineFault k 3 ((s.eng k).pc.toNat / 4) else s
  let e := s.eng k
  if e.run ≠ .running then s
  else
    let f := s.skFetch e
    let run := f.1.filter fun w => w.runs e.p
    let bad := match f.2 with
      | some a => some (2, a)
      | none => run.findSome? fun w => if isString w && (slotWord run 3).any isRpt then none else s.wordFault e w
    match bad with
    | some b => (s.skSpend k (1 + x.stall)).skFault k b x.phase.val
    | none =>
      let reads := skReads e (skRun f.1 e.p 0) (skRun f.1 e.p 3)
      match (if x.scratchBad then reads.find? fun a => decide (a < 0x2000) else none) with
      | some a => (s.skSpend k (1 + x.stall)).engineFault k 2 (a / 4)
      | none =>
        let s := match (if x.storeBad then reads.find? skInStore else none) with
          | some a => s.stSpoil (a - 0x100000)
          | none => s
        s.skBody k f.1 x

/-- EXECUTE_BUNDLE (R432): an engine that runs a task and is not halted. -/
def execExecuteBundle (k : Engine) (x : BundleIn) (s : State) : Host.Outcome State Fault Refusal :=
  .next (if s.live && (s.eng k).run == .running && !(s.eng k).halted then s.skStep k x else s)

end Sys2Proof.Machine
end

