-- ==== Sys2Proof/Machine/Store.lean ====
section
/-!
DEFINITION. Commands of the central store: the scrub, its rewrite test, bank retirement (chapter 6).
-/

namespace Sys2Proof.Machine

/-- SCRUB_CHECK (R145): the scrub checks the next word; `wrong`: its bytes whose parity has come to be wrong. At the end of its walk the cycle is counted and
the next begins with the period then programmed. -/
def State.scrubCheck (s : State) (wrong : BitVec 4) : State :=
  let pw := s.st.scrubPos
  match s.scrubSeg (pw / 1024) with
  | none => s
  | some seg =>
    let pw := if seg = pw / 1024 then pw else 1024 * seg
    let w := s.wordName pw
    let s := [0, 1, 2, 3].foldl (fun s i => if wrong.getLsbD i then s.stSpoil (4 * w + i) else s) s
    let s := if s.st.bad.any fun b => b / 4 == w then s.storeParity 8 w else s
    let nxt := pw + 1
    let s := { s with st := { s.st with scrubPos := nxt } }
    if (s.scrubSeg (nxt / 1024)).isSome then s.put pSTORE STORE.SCRUB_STAT_PROGRESS (100 * nxt / 262144)
    else
      let s := { s with st := { s.st with scrubPos := 0, scrubMs := s.scrubMs } }
      ((s.put pSTORE STORE.SCRUB_STAT_PROGRESS 0).incr pSTORE STORE.SCRUB_STAT_CYCLES).raise pSTORE STORE.PG_EVT_SCRUB_DONE

/-- SCRUB_CHECK. -/
def execScrubCheck (wrong : BitVec 4) (s : State) : Host.Outcome State Fault Refusal :=
  .next (if s.live then s.scrubCheck wrong else s)

/-- The rewrite test of the oldest watch entry not tested yet (R145, R146). -/
def State.rewriteTest (s : State) (same : Bool) : State :=
  match s.st.watch.find? fun e => !e.tested with
  | none => s
  | some e =>
    let s := { s with st := { s.st with watch := s.st.watch.map fun x => if x.word = e.word then { x with tested := true } else x } }
    if same then s else s.bankFaulty (s.wordBank e.word)

/-- REWRITE_TEST. `same`: both read-backs gave what was written. -/
def execRewriteTest (same : Bool) (s : State) : Host.Outcome State Fault Refusal :=
  .next (if s.live then s.rewriteTest same else s)

/-- MIGRATE_DONE (R146): the migration completes; a faulty bank whose retirement waited is retired now, or is the third and stays in service (R147). -/
def execMigrateDone (s : State) : Host.Outcome State Fault Refusal :=
  match s.st.migrating with
  | none => .next s
  | some b =>
    if !s.live then .next s
    else
      let s := s.migrate b
      .next (match (List.range 16).find? fun c => bitAt (s.fld pBANK BANK.FAULTY_BANKS) c && !s.bankRetired c with
        | none => s
        | some c =>
          if s.fld pSTORE STORE.PG_STAT_RETIRED < 2 then s.bankRetire c
          else if s.flag pSTORE STORE.PG_STAT_BANK_CRIT then s
          else (s.put pSTORE STORE.PG_STAT_BANK_CRIT 1).raise pSTORE STORE.PG_EVT_BANK_CRIT)

/-- BANK_CMD_RETIRE (R149). -/
def execBankCmdRetire (bank : Fin 16) (key : BitVec 16) (s : State) : Host.Outcome State Fault Refusal :=
  .next (s.keyCmd pBANK key.toNat 0xB4A7 fun s => s.bankCmd bank.val)

end Sys2Proof.Machine
end

