-- ==== Sys2Proof/Machine/Tick.lean ====
section
/-!
DEFINITION. The tick boundary and the dispatch point (R118, R126), the reference clock (R121), overruns, budgets and watchdogs (R130-R134), the standby's
takeover (R334).
-/

namespace Sys2Proof.Machine

/-! ### Steps of a boundary -/

/-- The AON fields of a port's `GUARD` and `POL` pages, and those of `SUP`, take effect together (R15). Those of `CC` follow in `ccTick` (R152). -/
def State.aonApply (s : State) : State :=
  let take := fun (s : State) (pg off : Nat) => { s with inForce := Sparse.set resetWord s.inForce (regKey pg off) (s.rd pg off) }
  let s := take s pSUP 0x20
  s.forPorts fun s n =>
    let s := [0x20, 0x24, 0x28, 0x2C, 0x30, 0x34, 0x38, 0x3C, 0x40, 0x44, 0x48, 0x4C].foldl (fun s off => take s (pGUARD n) off) s
    [0x20, 0x24, 0x28, 0x38, 0x3C, 0x40].foldl (fun s off => take s (pPOL n) off) s

/-- Bytes 0-13 of a telemetry record (Table 1.4). -/
def State.telemBytes (s : State) (n : Port) (tick : Nat) : List Byte :=
  let m := pMEAS n
  leBytes 2 tick ++ leBytes 2 (s.fld m MEAS.VBUS_AVG) ++ leBytes 2 (s.fld m MEAS.VIN_AVG) ++ leBytes 2 (s.fld m MEAS.IBUS_AVG) ++
    leBytes 2 (s.fld m MEAS.IBUS_PEAK) ++ leBytes 2 (s.fld m MEAS.TFET_AVG) ++ leBytes 1 n.val ++ leBytes 1 (s.gen n)

/-- One record per enabled port into the telemetry ring (R22); `tick`: the tick that ends. -/
def State.telemetry (s : State) (tick : Nat) : State :=
  s.forPorts fun s n =>
    if (s.port n).meas.on then s.stRecord (0x20000 + 16 * (8 * (tick % 2048) + n.val)) (s.telemBytes n tick) else s

/-- `RAMP_OK` (R95): the offset calibration of every enabled measurement channel and the first self-test pass have completed. -/
def State.rampOkTick (s : State) : State :=
  let cal := allPorts.all fun n => !s.enabled (pMEAS n) || s.flag (pMEAS n) MEAS.PG_STAT_CAL_OK
  if cal && s.flag pCMPT CMPT.PG_STAT_FIRST_PASS then s.put pBOOT BOOT.PG_STAT_RAMP_OK 1 else s

/-- Pads with `FUNC` TICK_OUT give a pulse at the boundary (R59), which shows either edge; other pads' edges are judged (R58). -/
def State.tickOut (s : State) : State :=
  let map := fun (l : List (Fin 8)) => l.foldl (fun m i => m + 2 ^ i.val) 0
  let l := if s.enabled pGPIO then (List.finRange 8).filter fun i => bitsOf (s.padCfg i) 0 4 == 4 else []
  let m := map (l.filter fun i => bitsOf (s.pinWord i) 10 2 != 0)
  let s := { s with gpio := { s.gpio with pulse := BitVec.ofNat 8 (map l) } }
  (if m = 0 || s.resetting pGPIO then s else s.raiseBits pGPIO m).gpioWatch

/-- The AON part of a boundary, which goes on through a WARM reset: slow trips judged against what is in force, AON fields applied, the CC logic, contracts,
guards. `v`: VBUS samples of a port, none in DOZE; a running transition is judged on them in a WARM reset too (R234). -/
def State.portsTick (s : State) (v : Port → List Nat) (trips : Bool) : State :=
  let s := if trips then s.forPorts fun s n =>
      if (s.port n).meas.on then s.slowTrips n (signed 16 (s.fld (pMEAS n) MEAS.IBUS_AVG)).natAbs (s.tooHot n) else s
    else s
  let s := s.aonApply
  s.forPorts fun s n =>
    let l := v n
    let s := ((s.ccTick n).polTick n).transStep n l
    let calm := !l.isEmpty && l.all fun x => decide (4750 ≤ x) && decide (x ≤ 5500)
    (s.windowTick n calm).guardTick n

/-- The level of `MOTN` is followed (Table 2.13). -/
def State.motnTick (s : State) (high : Bool) : State :=
  { s with
    pins := { s.pins with motn := high }
    aon := { s.aon with motnAt := if high then some s.tick else s.aon.motnAt } }

/-- The tick counter (R17) and `CLK.MATCH` (R122). -/
def State.countTick (s : State) : State :=
  let s := (s.setTick ((s.tick + 1) % 2 ^ 48)).put pCLK CLK.PHASE_CYCLE 0
  s.raiseIf (s.fld pCLK CLK.MATCH_TICK == s.tick % 2 ^ 32) pCLK CLK.PG_EVT_MATCH

/-- Resets of pages that complete at this boundary (R46). -/
def State.blocksDone (s : State) : State := (s.rst.blocks.map fun c => c.1).foldl State.blockDone s

/-- A boundary while CORE runs. -/
def State.boundary (s : State) (x : TickIn) : State :=
  let old := s.tick
  let doze := s.mode == 1 || s.aon.dozed
  let v := fun (n : Port) => if !doze && (s.port n).meas.on then (x.ports.get n).vbus else []
  let s := s.forPorts fun s n => s.measTick n (x.ports.get n) doze
  let s := if doze then s else s.telemetry old
  let s := (s.countTick.motnTick x.motn).tickOut
  let s := s.placerTick
  let s := s.portsTick v (!doze)
  let s := (s.cmptTick x.ra x.rb).rampOkTick
  let s := s.shareTick.twinTick
  let s := s.fleetTick x.off.toNat
  let s := s.energyZero
  let s := if doze then s else s.energyTick
  let s := s.placeTick.energyPost.gaugeTick
  let s := s.forPorts fun s n => s.policyTick n
  let s := if s.fw && s.part.x && s.flag pMAINS MAINS.POOL_CFG_ENABLE then s.cutCheck else s
  let s := s.migrateTick.blocksDone.dozeTick
  let s := { s with aon := { s.aon with entry := s.aon.entry.map fun (e : Nat × Nat) => (e.1, e.2 + 1), dozed := false } }
  s.hostWatch

/-- TICK_BOUNDARY (R118). While a WARM reset is in progress only what is always on acts; without an engine clock there is no boundary (R25). -/
def execTickBoundary (x : TickIn) (s : State) : Host.Outcome State Fault Refusal :=
  .next (if s.flag pCLK CLK.PG_STAT_RUNNING = false then s
    else match s.phase with
    | .run => s.boundary x
    | .warm => ((s.countTick.motnTick x.motn).portsTick (fun n => (x.ports.get n).vbus) false).leaseTick.blocksDone
    | _ => s)

/-- DISPATCH_POINT (R126), cycle 200 of the tick (R118). During an entry to a low mode the Placer starts no task from the first boundary on (R77); `testOk`: the known-answer test matched. -/
def execDispatchPoint (testOk : Bool) (s : State) : Host.Outcome State Fault Refusal :=
  .next (
    let s := if s.live then s.put pCLK CLK.PHASE_CYCLE 200 else s
    if s.fw then s.dispatch testOk s.entryStops else s)

/-! ### The reference clock (R121) -/

/-- REF_LOSS: the PLL holds its last frequency, and ticks go on. -/
def execRefLoss (s : State) : Host.Outcome State Fault Refusal :=
  .next (if (s.live || s.phase == .warm) && s.flag pCLK CLK.PG_STAT_REF_OK then
      ((s.put pCLK CLK.PG_STAT_REF_OK 0).put pCLK CLK.PG_STAT_PLL_LOCK 0).raise pCLK CLK.PG_EVT_REF_LOSS
    else s)

/-- REF_LOSS_TIMEOUT: 1 ms without the reference; the engine clock stops, and a WARM reset follows. -/
def execRefLossTimeout (s : State) : Host.Outcome State Fault Refusal :=
  .next (if (s.live || s.phase == .warm) && !s.flag pCLK CLK.PG_STAT_REF_OK then (((s.put pCLK CLK.PG_STAT_RUNNING 0).when (s.role != .solo) fun s => s.setAligned false)).warmCause 4 else s)

/-- REF_BACK: the reference has returned and the PLL is locked. -/
def execRefBack (s : State) : Host.Outcome State Fault Refusal :=
  .next (if (s.live || s.phase == .warm) && !s.flag pCLK CLK.PG_STAT_REF_OK then
      (((s.put pCLK CLK.PG_STAT_REF_OK 1).put pCLK CLK.PG_STAT_PLL_LOCK 1).put pCLK CLK.PG_STAT_RUNNING 1).raise pCLK CLK.PG_EVT_REF_BACK
    else s)

/-! ### Overruns, budgets, watchdogs -/

/-- OVERRUN (R130): a task that ran at the boundary still runs 500 cycles later. -/
def execOverrun (k : Engine) (s : State) : Host.Outcome State Fault Refusal :=
  .next (if s.live && (s.eng k).run == .running && !(s.eng k).halted && !s.plcr.started.contains (s.engSlot k) then (s.put pCLK CLK.PHASE_CYCLE 500).overrun k else s)

/-- OVER_BUDGET (R131): once in a run; the task goes on. -/
def execOverBudget (k : Engine) (s : State) : Host.Outcome State Fault Refusal :=
  .next (if s.live && (s.eng k).run == .running && decide ((s.eng k).budleft ≤ 0) && !(s.eng k).overMark then
      (s.modEng k fun e => { e with overMark := true }).raise (pENG k) ENG.PG_EVT_OVER_BUDGET
    else s)

/-- TICK_WDOG (R133). -/
def execTickWdog (s : State) : Host.Outcome State Fault Refusal :=
  .next (if s.live && decide (8 ≤ s.fld pPLCR PLCR.WDOG_C0_MISS) then s.warmCause 4 else s)

/-- OVERRUN_STORM (R134): `STORM_CNT` below 4 acts as 4, above 32 as 32. -/
def execOverrunStorm (s : State) : Host.Outcome State Fault Refusal :=
  .next (if s.live && decide (max 4 (min 32 (s.fld pPLCR PLCR.CFG_STORM_CNT)) ≤ s.fld pPLCR PLCR.WDOG_STORM) then s.warmCause 5 else s)

/-! ### The standby takes over -/

/-- STANDBY_TAKEOVER (R334, R357). -/
def execStandbyTakeover (s : State) : Host.Outcome State Fault Refusal :=
  .next (if s.live && s.mayTakeOver then s.takeOver.placeTakeover else s)

end Sys2Proof.Machine
end

