-- ==== Sys2Proof/Machine/Update.lean ====
section
/-!
DEFINITION. Commands of chapter 18: update blocks, sessions, `UPD.CMD`, the trial timer and confirmation, fleet sessions, reports, distribution, the end of a flash
command.
-/

namespace Sys2Proof.Machine

/-! ### Host sessions (R460) -/

/-- UPD_BLOCK_WRITE: the block in the block buffer is handled and its outcome replaces PENDING; a command that waited for it goes on. -/
def execUpdBlockWrite (bad : Option (Fin 64 × Bool)) (s : State) : Host.Outcome State Fault Refusal :=
  match s.host.posted with
  | some (.block n) =>
    if !s.live then .next s
    else
      let r := s.updBlock 1 (s.stNat blockAt 4) (s.stRead (blockAt + 4) n) (bad.map fun c => (c.1.val, c.2))
      .next (((r.1.updResult r.2).hostPostDone (if r.2 = 0 then 0 else 11) r.2).hostResume)
  | _ => .next s

/-- SESSION_TIMEOUT (R461): 10 s without an `IMG` frame. -/
def execSessionTimeout (s : State) : Host.Outcome State Fault Refusal :=
  match s.upd.img with
  | some m => .next (if s.live ∧ m.last + 200000 ≤ s.tick then s.sessEnd else s)
  | none => .next s

/-! ### `UPD.CMD` -/

/-- A keyed write of `UPD.CMD`, which posts the slot-114 task. -/
def State.updKey (s : State) (key : BitVec 16) (f : State → State) : State := s.keyCmd pUPD key.toNat 0xA17E fun s => f s.updPost

/-- UPD_CMD_ABORT (R461). -/
def execUpdCmdAbort (key : BitVec 16) (s : State) : Host.Outcome State Fault Refusal := .next (s.updKey key State.updAbort)

/-- UPD_CMD_ACTIVATE (R465). -/
def execUpdCmdActivate (key : BitVec 16) (s : State) : Host.Outcome State Fault Refusal := .next (s.updKey key State.updActivate)

/-- UPD_CMD_CONFIRM (R468). -/
def execUpdCmdConfirm (switch : Bool) (key : BitVec 16) (s : State) : Host.Outcome State Fault Refusal :=
  .next (s.updKey key fun s => s.updConfirm switch)

/-- UPD_CMD_DISTRIBUTE (R472). -/
def execUpdCmdDistribute (key : BitVec 16) (s : State) : Host.Outcome State Fault Refusal := .next (s.updKey key State.updDistribute)

/-- UPD_CMD_OWNER_LOCK (R463). -/
def execUpdCmdOwnerLock (key : BitVec 16) (s : State) : Host.Outcome State Fault Refusal := .next (s.updKey key State.updOwnerLock)

/-- UPD_CMD_NEW_CHALLENGE: `v` is the random challenge (R463). -/
def execUpdCmdNewChallenge (v : BitVec 64) (key : BitVec 16) (s : State) : Host.Outcome State Fault Refusal :=
  .next (s.updKey key fun s => s.updChallenge v)

/-- UPD_CMD_UNLOCK (R463). -/
def execUpdCmdUnlock (key : BitVec 16) (s : State) : Host.Outcome State Fault Refusal :=
  .next (s.updKey key fun s => s.updUnlock)

/-! ### Trial and confirmation (R466-R469) -/

/-- TRIAL_TIMER: an activation reset, counted as a trial boot. -/
def execTrialTimer (s : State) : Host.Outcome State Fault Refusal :=
  match s.upd.trialEnd with
  | some t =>
    if s.live ∧ t ≤ s.tick then
      .next ((({ s with upd := { s.upd with trialEnd := none } }).raise pUPD UPD.PG_EVT_TRIAL_EXPIRED).activationReset s.activeBank)
    else .next s
  | none => .next s

/-- An area's newest record begins with the running image's completion marker (R467). -/
def State.cfgMarked (s : State) (area : Nat) : Bool :=
  match s.nvdRecord area with
  | some p => decide (8 ≤ p.length) && numAt p 0 2 == s.hdrNat s.activeBank 28 2 && numAt p 4 4 == s.hdrVersion s.activeBank
  | none => false

/-- FIRMWARE_CONFIRM (R469): with `CFG_SWITCH` when the image migrated its configuration into the other area. -/
def execFirmwareConfirm (s : State) : Host.Outcome State Fault Refusal :=
  let other := if s.boot.now.cfgB then 2 else 3
  let switch := s.cfgMarked other
  let worker := s.role = .worker → s.flag pFLEET FLEET.PG_STAT_TICK_ALIGNED ∧ s.place.leaseOn
  if s.fw ∧ s.bankState s.activeBank = .trial ∧ s.upd.entryTick + 200000 ≤ s.tick ∧ (switch ∨ s.cfgMarked (5 - other)) ∧ worker then
    .next (s.cmd pUPD fun s => s.updPost.updConfirm switch)
  else .next s

/-! ### Fleet sessions (R470) -/

/-- Handle an `IMG` frame in a receive entry: a record that checks, of the length and kind wanted (`none`: DATA); then the entry is released. -/
def State.imgFrame (s : State) (i : Nat) (kind : Option Nat) (len : Nat) (f : State → List Byte → State) : State :=
  if !s.live then s
  else
    let p := s.rxPayload i
    let mine := match kind with
      | some k => p.length == len && byteAt p 0 == k
      | none => p.length == 256 && bitAt (s.stNat (rxfAt i) 1) 4
    if s.rxType i ≠ 0xB ∨ !mine then s
    else if !s.stChecks (rxfAt i) 512 then (s.stNote 5 (rxfAt i) 512).rxRelease i
    else (f s p).rxRelease i

/-- A frame of the fleet session, on a node that START named. -/
def State.imgOn (s : State) (f : State → State) : State :=
  if s.upd.named then
    f { s with upd := { s.upd with img := s.upd.img.map fun m => { m with last := s.tick } } }
  else s

/-- Owe the manager a report. -/
def State.reportOwe (s : State) (event : Nat) : State := { s with upd := { s.upd with reports := s.upd.reports ++ [event] } }

/-- START: names the targets; on a target it is refused or opens a session (R458, R462). -/
def State.imgStart (s : State) (p : List Byte) : State :=
  let named := s.assigned && bitAt (numAt p 16 8) s.node
  let num := numAt p 12 4
  let s := { s with upd := { s.upd with named := named } }
  if !named then s
  else
    let s := { s with upd := { s.upd with sessNum := num } }
    let open_ := fun (s : State) => { s with upd := { s.upd with img := some (ImgSess.mk num (numAt p 4 4) 0 s.tick) } }
    match s.fld pUPD UPD.STAT_SESSION with
    | 0 =>
      if s.updRefuse ≠ 0 then s.updResult s.updRefuse
      else match s.sessOpen 2 with
        | some s => (open_ s).updResult 0
        | none => s.updResult 10
    | 2 => if s.updRefuse ≠ 0 then s.updResult s.updRefuse else (open_ s).updResult 0
    | _ => s.updResult (if s.updRefuse ≠ 0 then s.updRefuse else 7)

/-- IMG_START. -/
def execImgStart (entry : Fin 64) (s : State) : Host.Outcome State Fault Refusal :=
  .next (s.imgFrame entry.val (some 1) 24 fun s p => s.imgStart p)

/-- IMG_SECTION. -/
def execImgSection (entry : Fin 64) (s : State) : Host.Outcome State Fault Refusal :=
  .next (s.imgFrame entry.val (some 2) 8 fun s p => s.imgOn fun s =>
    { s with upd := { s.upd with img := s.upd.img.map fun m => { m with sect := numAt p 4 2 } } })

/-- IMG_DATA: image page 64 × section + `DEST`. -/
def execImgData (entry : Fin 64) (bad : Option (Fin 64 × Bool)) (s : State) : Host.Outcome State Fault Refusal :=
  .next (s.imgFrame entry.val none 256 fun s p => s.imgOn fun s =>
    match s.upd.img with
    | none => s
    | some m =>
      let r := s.updBlock 2 (256 * (64 * m.sect + bitsOf (s.stNat (rxfAt entry.val + 1) 1) 0 6)) p (bad.map fun c => (c.1.val, c.2))
      r.1.updResult r.2)

/-- IMG_END: an END report is owed. -/
def execImgEnd (entry : Fin 64) (s : State) : Host.Outcome State Fault Refusal :=
  .next (s.imgFrame entry.val (some 3) 4 fun s _ => s.imgOn fun s => s.maskCheck.reportOwe 1)

/-- IMG_COMMIT (R464); in recovery a staged bank is tried at once (R99). -/
def execImgCommit (entry : Fin 64) (s : State) : Host.Outcome State Fault Refusal :=
  .next (s.imgFrame entry.val (some 4) 4 fun s _ => s.imgOn fun s =>
    let r := s.updCommit 2
    let s := (r.1.updResult r.2).reportOwe 2
    if r.2 = 0 ∧ s.recovery then s.recoverStart else s)

/-- IMG_ACTIVATE (R465). -/
def execImgActivate (entry : Fin 64) (s : State) : Host.Outcome State Fault Refusal :=
  .next (s.imgFrame entry.val (some 5) 4 fun s _ => s.imgOn State.updActivate)

/-- IMG_ABORT (R461). -/
def execImgAbort (entry : Fin 64) (s : State) : Host.Outcome State Fault Refusal :=
  .next (s.imgFrame entry.val (some 6) 4 fun s _ => s.imgOn fun s => if s.fld pUPD UPD.STAT_SESSION = 2 then s.sessEnd else s)

/-! ### Reports (R471) -/

/-- Sections of an image of a length with a page missing. -/
def State.sectMissing (s : State) (len : Nat) : Nat :=
  let pages := len / 256
  bitMap 32 fun k => (List.range 64).any fun p => decide (64 * k + p < pages) && !s.pageHere (64 * k + p)

/-- The payload of a report. -/
def State.reportBytes (s : State) (event : Nat) : List Byte :=
  let fleet := s.fld pUPD UPD.STAT_SESSION == 2
  let result := if 3 ≤ event ∨ (event = 1 ∧ fleet) then 0 else s.fld pUPD UPD.STAT_RESULT
  let len := match s.upd.img with
    | some m => m.len
    | none => s.imgLen
  [0xE1, byteOf result, byteOf event, byteOf (s.bankState s.idleBank).code] ++ leBytes 4 (s.sectMissing len) ++
    leBytes 4 (s.fld pBOOT BOOT.FW_VERSION_VERSION) ++ leBytes 4 s.upd.sessNum

/-- UPDATE_REPORT: the first report owed goes to the acting manager. -/
def execUpdateReport (s : State) : Host.Outcome State Fault Refusal :=
  match s.upd.reports with
  | e :: l =>
    if s.live && s.role != .solo && s.acting != .manager then
      let p := s.reportBytes e
      .next (({ s with upd := { s.upd with reports := l } }).sendEngine 48 0xA false (s.fld pFLEET FLEET.NODES_MGR) 0 0 p)
    else .next s
  | [] => .next s

/-! ### Distribution (R472) -/

/-- Change the distribution. -/
def State.modDist (s : State) (f : Dist → Dist) : State := { s with upd := { s.upd with dist := s.upd.dist.map f } }

/-- Send an `IMG` control frame. -/
def State.imgSend (s : State) (bcast : Bool) (dest : Nat) (payload : List Byte) : State := s.sendEngine 49 0xB bcast dest 0 (if bcast then s.fleet.seq else 0) payload

/-- A target has FAILED. -/
def State.distNodeFail (s : State) (k : Nat) : State :=
  if s.mapBit pUPD UPD.FAILED_NODES k then s
  else
    let s := (s.setMapBit pUPD UPD.FAILED_NODES k true).incr pUPD UPD.DIST_STAT_NODES_FAILED
    s.modDist fun d => { d with targets := d.targets.filter (· != k), waiting := d.waiting.filter (· != k), missing := d.missing.filter fun c => c.1 != k }

/-- Take a report of a node. -/
def State.distReport (s : State) (d : Dist) (k : Nat) (p : List Byte) : State :=
  let result := byteAt p 1
  let event := byteAt p 2
  let off := fun (s : State) => s.modDist fun d => { d with waiting := d.waiting.filter (· != k) }
  if byteAt p 0 ≠ 0xE1 ∨ numAt p 12 4 ≠ d.num ∨ !d.waiting.contains k then s
  else match d.stage, event with
    | 1, 1 | 3, 1 =>
      if result ≠ 0 then s.distNodeFail k
      else (off s).modDist fun d => { d with missing := (k, numAt p 4 4) :: d.missing.filter fun c => c.1 != k }
    | 5, 2 => if result ≠ 0 then s.distNodeFail k else off s
    | 7, 3 => (off s).incr pUPD UPD.DIST_STAT_NODES_DONE
    | 7, 4 => s.distNodeFail k
    | _, _ => s

/-- Pages of a section of an image. -/
def sectPages (len sec : Nat) : Nat := min 64 (len / 256 - 64 * sec)

/-- The task goes on with `x`. -/
def State.setDist (s : State) (x : Dist) : State := { s with upd := { s.upd with dist := some x } }

/-- The pages that are due: a section's announcement, then its pages in order. -/
def State.distPages (s : State) (d : Dist) : State :=
  match d.todo, d.page with
  | [], _ => s.setDist { d with stage := if d.round = 0 then 2 else 3 }
  | sec :: _, none => (s.imgSend true 0 (leBytes 4 2 ++ leBytes 2 sec ++ leBytes 1 (sectPages d.len sec) ++ leBytes 1 0)).setDist { d with page := some 0 }
  | sec :: rest, some p =>
    let data := Sparse.getList flashDflt s.code (bankBase s.distBank + 256 * (64 * sec + p)) 256
    let more := decide (p + 1 < sectPages d.len sec)
    (s.imgSend true p data).setDist { d with page := if more then some (p + 1) else none, todo := if more then d.todo else rest }

/-- Every report of a round is in: another round for the sections missing, or the nodes that miss one fail. -/
def State.distRound (s : State) (d : Dist) : State :=
  if !d.waiting.isEmpty then s
  else
    let union := d.missing.foldl (fun m c => m ||| c.2) 0
    if union ≠ 0 ∧ d.round < max 1 (s.fld pUPD UPD.DIST_CFG_ROUNDS) then
      let s := ((s.put pUPD UPD.DIST_STAT_STATE 2).put pUPD UPD.DIST_STAT_ROUND (d.round + 1)).imgSend true 0 (leBytes 4 3)
      s.setDist { d with stage := 1, round := d.round + 1, waiting := d.targets, page := none, todo := (List.range 32).filter fun k => bitAt union k }
    else
      let bad := (d.missing.filter fun c => c.2 != 0).map fun c => c.1
      (bad.foldl State.distNodeFail s).modDist fun d => { d with stage := 4 }

/-- ACTIVATE to the next group. -/
def State.distGroup (s : State) (d : Dist) : State :=
  let group := max 1 (s.fld pUPD UPD.DIST_CFG_GROUP)
  let now := d.targets.take group
  if now.isEmpty then s.setDist { d with stage := 8 }
  else (now.foldl (fun s k => s.imgSend false k (leBytes 4 5)) s).setDist { d with stage := 7, waiting := now, active := now, targets := d.targets.drop group }

/-- Nodes that have not reported 1 s after their ACTIVATE fail. -/
def State.distLate (s : State) (d : Dist) (late : Bool) : State :=
  let s := if late then d.waiting.foldl State.distNodeFail s else s
  s.modDist fun d => if d.waiting.isEmpty then { d with stage := 6 } else d

/-- The task ends. -/
def State.distEnd (s : State) : State :=
  let s := (({ s with upd := { s.upd with dist := none } }).put pUPD UPD.DIST_STAT_STATE 5).raise pUPD UPD.PG_EVT_DIST_DONE
  if s.flag pUPD UPD.DIST_CFG_SELF ∧ s.bankState s.idleBank = .staged then s.activationReset s.idleBank else s

/-- The next action of the task. `late`: 1 s has passed since ACTIVATE. -/
def State.distStep (s : State) (d : Dist) (late : Bool) : State :=
  match d.stage with
  | 0 =>
    let map := d.targets.foldl (fun m k => m + 2 ^ k) 0
    (s.imgSend true 0 (leBytes 4 1 ++ leBytes 4 d.len ++ leBytes 4 d.ver ++ leBytes 4 d.num ++ leBytes 8 map)).setDist
      { d with stage := 1, todo := List.range ((d.len + 16383) / 16384) }
  | 1 => s.distPages d
  | 2 => (s.imgSend true 0 (leBytes 4 3)).setDist { d with stage := 3, waiting := d.targets }
  | 3 => s.distRound d
  | 4 => ((s.put pUPD UPD.DIST_STAT_STATE 3).imgSend true 0 (leBytes 4 4)).setDist { d with stage := 5, waiting := d.targets }
  | 5 => if d.waiting.isEmpty then (s.put pUPD UPD.DIST_STAT_STATE 4).setDist { d with stage := 6 } else s
  | 6 => s.distGroup d
  | 7 => s.distLate d late
  | _ => s.distEnd

/-- DISTRIBUTION_TASK: takes the report in a receive entry, or carries out the next action. -/
def execDistributionTask (entry : Option (Fin 64)) (late : Bool) (s : State) : Host.Outcome State Fault Refusal :=
  match s.upd.dist with
  | none => .next s
  | some d =>
    if !s.fw || s.acting != .manager then .next s
    else match entry with
      | none => .next (s.distStep d late)
      | some i =>
        if s.rxType i.val ≠ 0xA ∨ byteAt (s.rxPayload i.val) 0 ≠ 0xE1 then .next s
        else if !s.stChecks (rxfAt i.val) 512 then .next ((s.stNote 5 (rxfAt i.val) 512).rxRelease i.val)
        else .next ((s.distReport d (s.rxSrc i.val) (s.rxPayload i.val)).rxRelease i.val)

/-- FLASH_CMD_DONE (R474). -/
def execFlashCmdDone (verifyOk : Bool) (s : State) : Host.Outcome State Fault Refusal := .next (if s.live then s.flashFinish verifyOk else s)

end Sys2Proof.Machine
end

