-- ==== Sys2Proof/Machine/Dispatch.lean ====
section
/-!
DEFINITION. What each command does to everything but the queue: one arm per constructor of `Instr`.
-/

namespace Sys2Proof.Machine

/-- The effect of a command. -/
def exec (i : Instr) (s : State) : Host.Outcome State Fault Refusal :=
  match i with
  | .por => Sys2Proof.Machine.execPor s
  | .nrstLow => Sys2Proof.Machine.execNrstLow s
  | .brownOut mv => Sys2Proof.Machine.execBrownOut mv s
  | .coldBoot x => Sys2Proof.Machine.execColdBoot x s
  | .warmReset us => Sys2Proof.Machine.execWarmReset us s
  | .rstReq key => Sys2Proof.Machine.execRstReq key s
  | .portRst ports key => Sys2Proof.Machine.execPortRst ports key s
  | .portResetVbusLow n mv => Sys2Proof.Machine.execPortResetVbusLow n mv s
  | .blockReset pg => Sys2Proof.Machine.execBlockReset pg s
  | .blockResetDone pg => Sys2Proof.Machine.execBlockResetDone pg s
  | .freeze pg on => Sys2Proof.Machine.execFreeze pg on s
  | .pgEvtSet pg v => Sys2Proof.Machine.execPgEvtSet pg v s
  | .pgEvtClear pg v hw => Sys2Proof.Machine.execPgEvtClear pg v hw s
  | .pgLockWrite pg v => Sys2Proof.Machine.execPgLockWrite pg v s
  | .registerWrite rq pg off v => Sys2Proof.Machine.execRegisterWrite rq pg off v s
  | .lowWordRead rq pg off => Sys2Proof.Machine.execLowWordRead rq pg off s
  | .readClearField rq pg off => Sys2Proof.Machine.execReadClearField rq pg off s
  | .evtFrameSend => Sys2Proof.Machine.execEvtFrameSend s
  | .evtFrameReceive => Sys2Proof.Machine.execEvtFrameReceive s
  | .tickBoundary x => Sys2Proof.Machine.execTickBoundary x s
  | .dispatchPoint testOk => Sys2Proof.Machine.execDispatchPoint testOk s
  | .refLoss => Sys2Proof.Machine.execRefLoss s
  | .refLossTimeout => Sys2Proof.Machine.execRefLossTimeout s
  | .refBack => Sys2Proof.Machine.execRefBack s
  | .plcrPost slot => Sys2Proof.Machine.execPlcrPost slot s
  | .overrun k => Sys2Proof.Machine.execOverrun k s
  | .overBudget k => Sys2Proof.Machine.execOverBudget k s
  | .tickWdog => Sys2Proof.Machine.execTickWdog s
  | .overrunStorm => Sys2Proof.Machine.execOverrunStorm s
  | .engRetire k key => Sys2Proof.Machine.execEngRetire k key s
  | .scrubCheck wrong => Sys2Proof.Machine.execScrubCheck wrong s
  | .rewriteTest same => Sys2Proof.Machine.execRewriteTest same s
  | .migrateDone => Sys2Proof.Machine.execMigrateDone s
  | .bankCmdRetire bank key => Sys2Proof.Machine.execBankCmdRetire bank key s
  | .executeBundle k x => Sys2Proof.Machine.execExecuteBundle k x s
  | .vddioChange mv => Sys2Proof.Machine.execVddioChange mv s
  | .vconnInLost mv => Sys2Proof.Machine.execVconnInLost mv s
  | .srcSwitchVsys mv => Sys2Proof.Machine.execSrcSwitchVsys mv s
  | .nvInhibitAssert mv => Sys2Proof.Machine.execNvInhibitAssert mv s
  | .nvInhibitClear mv => Sys2Proof.Machine.execNvInhibitClear mv s
  | .nvStable mv => Sys2Proof.Machine.execNvStable mv s
  | .vsysWarn mv => Sys2Proof.Machine.execVsysWarn mv s
  | .modeReqRun key => Sys2Proof.Machine.execModeReqRun key s
  | .modeReqDoze key => Sys2Proof.Machine.execModeReqDoze key s
  | .modeReqStandby key => Sys2Proof.Machine.execModeReqStandby key s
  | .modeReqShip key => Sys2Proof.Machine.execModeReqShip key s
  | .modeReqZero key => Sys2Proof.Machine.execModeReqZero key s
  | .modeEntry => Sys2Proof.Machine.execModeEntry s
  | .modeEntryBusy => Sys2Proof.Machine.execModeEntryBusy s
  | .wake src n => Sys2Proof.Machine.execWake src n s
  | .wakeTimer => Sys2Proof.Machine.execWakeTimer s
  | .attachWatchSample cc => Sys2Proof.Machine.execAttachWatchSample cc s
  | .hostAddressWake => Sys2Proof.Machine.execHostAddressWake s
  | .shipWake src n => Sys2Proof.Machine.execShipWake src n s
  | .hvRise => Sys2Proof.Machine.execHvRise s
  | .lineCycleEnd rms peak freq dc => Sys2Proof.Machine.execLineCycleEnd rms peak freq dc s
  | .mainsLoss => Sys2Proof.Machine.execMainsLoss s
  | .mainsWriteSync => Sys2Proof.Machine.execMainsWriteSync s
  | .barrierLinkLoss => Sys2Proof.Machine.execBarrierLinkLoss s
  | .barrierConfirm => Sys2Proof.Machine.execBarrierConfirm s
  | .barrierTimeout => Sys2Proof.Machine.execBarrierTimeout s
  | .zeroWake src n => Sys2Proof.Machine.execZeroWake src n s
  | .zeroVsysValid mv => Sys2Proof.Machine.execZeroVsysValid mv s
  | .convFail => Sys2Proof.Machine.execConvFail s
  | .aosDataAccess v => Sys2Proof.Machine.execAosDataAccess v s
  | .otpProgram key => Sys2Proof.Machine.execOtpProgram key s
  | .otpLock region key => Sys2Proof.Machine.execOtpLock region key s
  | .otpCmdDone weak => Sys2Proof.Machine.execOtpCmdDone weak s
  | .lockStickySet v => Sys2Proof.Machine.execLockStickySet v s
  | .nvdWrite area format key => Sys2Proof.Machine.execNvdWrite area format key s
  | .nvdRead area key => Sys2Proof.Machine.execNvdRead area key s
  | .nvdInvalidate area key => Sys2Proof.Machine.execNvdInvalidate area key s
  | .nvdCmdDone verifyOk => Sys2Proof.Machine.execNvdCmdDone verifyOk s
  | .dbgNewChallenge v key => Sys2Proof.Machine.execDbgNewChallenge v key s
  | .dbgSubmit key => Sys2Proof.Machine.execDbgSubmit key s
  | .dbgTokenChecked => Sys2Proof.Machine.execDbgTokenChecked s
  | .dbgEraseDone => Sys2Proof.Machine.execDbgEraseDone s
  | .gpioOutSet v => Sys2Proof.Machine.execGpioOutSet v s
  | .gpioOutClr v => Sys2Proof.Machine.execGpioOutClr v s
  | .pinCfgWrite k v => Sys2Proof.Machine.execPinCfgWrite k v s
  | .gpioEdge k level => Sys2Proof.Machine.execGpioEdge k level s
  | .ccLineChange n mv1 mv2 => Sys2Proof.Machine.execCcLineChange n mv1 mv2 s
  | .ccDebounce n => Sys2Proof.Machine.execCcDebounce n s
  | .pdDebounce n => Sys2Proof.Machine.execPdDebounce n s
  | .drpToggle n => Sys2Proof.Machine.execDrpToggle n s
  | .errorRecoveryTimeout n => Sys2Proof.Machine.execErrorRecoveryTimeout n s
  | .tryTimer n => Sys2Proof.Machine.execTryTimer n s
  | .trywaitTimeout n => Sys2Proof.Machine.execTrywaitTimeout n s
  | .trySrcTimeout n => Sys2Proof.Machine.execTrySrcTimeout n s
  | .sourceDetach n load => Sys2Proof.Machine.execSourceDetach n load s
  | .sinkDetach n mv => Sys2Proof.Machine.execSinkDetach n mv s
  | .debugAccessoryExit n mv => Sys2Proof.Machine.execDebugAccessoryExit n mv s
  | .hrSinkHoldEnd n => Sys2Proof.Machine.execHrSinkHoldEnd n s
  | .vconnAutoOn n => Sys2Proof.Machine.execVconnAutoOn n s
  | .vconnRaProbe n mv => Sys2Proof.Machine.execVconnRaProbe n mv s
  | .ccCmdErrRec n key => Sys2Proof.Machine.execCcCmdErrRec n key s
  | .ccCmdVconnOn n key => Sys2Proof.Machine.execCcCmdVconnOn n key s
  | .ccCmdVconnOff n key => Sys2Proof.Machine.execCcCmdVconnOff n key s
  | .vconnOvercurrent n => Sys2Proof.Machine.execVconnOvercurrent n s
  | .vconnDischargeEnd n => Sys2Proof.Machine.execVconnDischargeEnd n s
  | .ccOvervoltage n => Sys2Proof.Machine.execCcOvervoltage n s
  | .rpLost n => Sys2Proof.Machine.execRpLost n s
  | .partnerGone n => Sys2Proof.Machine.execPartnerGone n s
  | .ownerCheck n mv => Sys2Proof.Machine.execOwnerCheck n mv s
  | .receiveFrame n f => Sys2Proof.Machine.execReceiveFrame n f s
  | .sendGoodcrc n => Sys2Proof.Machine.execSendGoodcrc n s
  | .autoAnswer n => Sys2Proof.Machine.execAutoAnswer n s
  | .txReq n k => Sys2Proof.Machine.execTxReq n k s
  | .txHeadCheck n => Sys2Proof.Machine.execTxHeadCheck n s
  | .collisionHoldEnd n => Sys2Proof.Machine.execCollisionHoldEnd n s
  | .transmitFrame n => Sys2Proof.Machine.execTransmitFrame n s
  | .goodcrcTimeout n => Sys2Proof.Machine.execGoodcrcTimeout n s
  | .chunkRequestSend n => Sys2Proof.Machine.execChunkRequestSend n s
  | .chunkWaitTimeout n => Sys2Proof.Machine.execChunkWaitTimeout n s
  | .pdlCmdHardReset n key => Sys2Proof.Machine.execPdlCmdHardReset n key s
  | .hardResetSent n => Sys2Proof.Machine.execHardResetSent n s
  | .hardResetReceived n => Sys2Proof.Machine.execHardResetReceived n s
  | .pdlCmdCableReset n key => Sys2Proof.Machine.execPdlCmdCableReset n key s
  | .pdlCmdAmsEnd n key => Sys2Proof.Machine.execPdlCmdAmsEnd n key s
  | .pdlCmdHrComplete n key => Sys2Proof.Machine.execPdlCmdHrComplete n key s
  | .pdlCmdCancel n key => Sys2Proof.Machine.execPdlCmdCancel n key s
  | .pdlCmdClearStats n key => Sys2Proof.Machine.execPdlCmdClearStats n key s
  | .msgidLoad n v => Sys2Proof.Machine.execMsgidLoad n v s
  | .pdlEnableWrite n on => Sys2Proof.Machine.execPdlEnableWrite n on s
  | .xbufRel n m => Sys2Proof.Machine.execXbufRel n m s
  | .rxRdWrite n k => Sys2Proof.Machine.execRxRdWrite n k s
  | .bistCarrierEnd n => Sys2Proof.Machine.execBistCarrierEnd n s
  | .conCommit n gen => Sys2Proof.Machine.execConCommit n gen s
  | .conClear n gen => Sys2Proof.Machine.execConClear n gen s
  | .transGo n vNew gen => Sys2Proof.Machine.execTransGo n vNew gen s
  | .transitionStart n => Sys2Proof.Machine.execTransitionStart n s
  | .transDone n => Sys2Proof.Machine.execTransDone n s
  | .transFail n => Sys2Proof.Machine.execTransFail n s
  | .roleCmd n dfp gen => Sys2Proof.Machine.execRoleCmd n dfp gen s
  | .hrWaitExpiry n => Sys2Proof.Machine.execHrWaitExpiry n s
  | .hrVsafe0 n mv => Sys2Proof.Machine.execHrVsafe0 n mv s
  | .hrRecoverExpiry n => Sys2Proof.Machine.execHrRecoverExpiry n s
  | .sourceCapsSend n => Sys2Proof.Machine.execSourceCapsSend n s
  | .sourceRequestTimeout n => Sys2Proof.Machine.execSourceRequestTimeout n s
  | .sinkCapsTimeout n => Sys2Proof.Machine.execSinkCapsTimeout n s
  | .requestEvaluation n k => Sys2Proof.Machine.execRequestEvaluation n k s
  | .sinkRequest n rec => Sys2Proof.Machine.execSinkRequest n rec s
  | .psRdyTimeout n => Sys2Proof.Machine.execPsRdyTimeout n s
  | .ppsRequestTimeout n => Sys2Proof.Machine.execPpsRequestTimeout n s
  | .drSwapResponse n rec => Sys2Proof.Machine.execDrSwapResponse n rec s
  | .batteryAnswer n k => Sys2Proof.Machine.execBatteryAnswer n k s
  | .discovery n rec cable => Sys2Proof.Machine.execDiscovery n rec cable s
  | .vdmResponseTimeout n cable => Sys2Proof.Machine.execVdmResponseTimeout n cable s
  | .modeEntryAuto n => Sys2Proof.Machine.execModeEntryAuto n s
  | .vdmCmdRediscover n key => Sys2Proof.Machine.execVdmCmdRediscover n key s
  | .vdmCmdEnter n key => Sys2Proof.Machine.execVdmCmdEnter n key s
  | .vdmCmdExit n key => Sys2Proof.Machine.execVdmCmdExit n key s
  | .modeEndAtReset n => Sys2Proof.Machine.execModeEndAtReset n s
  | .hpdLevelWrite n level => Sys2Proof.Machine.execHpdLevelWrite n level s
  | .hpdIrq n early => Sys2Proof.Machine.execHpdIrq n early s
  | .hpdIrqEnd n => Sys2Proof.Machine.execHpdIrqEnd n s
  | .ufpHpdSample n => Sys2Proof.Machine.execUfpHpdSample n s
  | .hostVdmPass n k => Sys2Proof.Machine.execHostVdmPass n k s
  | .hostTxGo n count sop => Sys2Proof.Machine.execHostTxGo n count sop s
  | .muxbGo key => Sys2Proof.Machine.execMuxbGo key s
  | .muxbAbort key bytes => Sys2Proof.Machine.execMuxbAbort key bytes s
  | .muxbDone result acked bytes pec => Sys2Proof.Machine.execMuxbDone result acked bytes pec s
  | .muxbTimeout acked => Sys2Proof.Machine.execMuxbTimeout acked s
  | .mintEdge level => Sys2Proof.Machine.execMintEdge level s
  | .foldback n active => Sys2Proof.Machine.execFoldback n active s
  | .soaTimeout n => Sys2Proof.Machine.execSoaTimeout n s
  | .rampComplete n vbusMv vinMv gateMv => Sys2Proof.Machine.execRampComplete n vbusMv vinMv gateMv s
  | .rampFail n => Sys2Proof.Machine.execRampFail n s
  | .twinJoin n => Sys2Proof.Machine.execTwinJoin n s
  | .fastTrip n sc ovp rcp => Sys2Proof.Machine.execFastTrip n sc ovp rcp s
  | .uvpTrip n => Sys2Proof.Machine.execUvpTrip n s
  | .limitEntry n => Sys2Proof.Machine.execLimitEntry n s
  | .limitExit n => Sys2Proof.Machine.execLimitExit n s
  | .trippedVbusLow n mv => Sys2Proof.Machine.execTrippedVbusLow n mv s
  | .backoffExpiry n => Sys2Proof.Machine.execBackoffExpiry n s
  | .backoffStepReset n => Sys2Proof.Machine.execBackoffStepReset n s
  | .shortFet n how => Sys2Proof.Machine.execShortFet n how s
  | .dschEnd n mv timeout => Sys2Proof.Machine.execDschEnd n mv timeout s
  | .dschRest n => Sys2Proof.Machine.execDschRest n s
  | .dschRestEnd n => Sys2Proof.Machine.execDschRestEnd n s
  | .sinkBlock n => Sys2Proof.Machine.execSinkBlock n s
  | .sinkReclose n mv => Sys2Proof.Machine.execSinkReclose n mv s
  | .guardCmdSnkClose n key => Sys2Proof.Machine.execGuardCmdSnkClose n key s
  | .guardCmdSnkOpen n key => Sys2Proof.Machine.execGuardCmdSnkOpen n key s
  | .guardCmdUnretire n key => Sys2Proof.Machine.execGuardCmdUnretire n key s
  | .guardCmdRetire n key => Sys2Proof.Machine.execGuardCmdRetire n key s
  | .cmptRetest ports key => Sys2Proof.Machine.execCmptRetest ports key s
  | .shareRegulation n held => Sys2Proof.Machine.execShareRegulation n held s
  | .diodeRegulation n held => Sys2Proof.Machine.execDiodeRegulation n held s
  | .shareRelease n => Sys2Proof.Machine.execShareRelease n s
  | .noFreeMember => Sys2Proof.Machine.execNoFreeMember s
  | .shareCmdRelease key => Sys2Proof.Machine.execShareCmdRelease key s
  | .shareCmdTrimClear key => Sys2Proof.Machine.execShareCmdTrimClear key s
  | .trimRequest n => Sys2Proof.Machine.execTrimRequest n s
  | .memberBlockEnd n => Sys2Proof.Machine.execMemberBlockEnd n s
  | .hedgerowFrameArrive l bytes aborted codeErrs storeOk => Sys2Proof.Machine.execHedgerowFrameArrive l bytes aborted codeErrs storeOk s
  | .linkWordReceive l b1 b2 b3 => Sys2Proof.Machine.execLinkWordReceive l b1 b2 b3 s
  | .arqTimeout l => Sys2Proof.Machine.execArqTimeout l s
  | .lossOfLock l fault => Sys2Proof.Machine.execLossOfLock l fault s
  | .lockRegained l => Sys2Proof.Machine.execLockRegained l s
  | .trainingComplete l delay => Sys2Proof.Machine.execTrainingComplete l delay s
  | .linkRetireTimeout l => Sys2Proof.Machine.execLinkRetireTimeout l s
  | .linkErrorLimit l more => Sys2Proof.Machine.execLinkErrorLimit l more s
  | .reprobeTimer l => Sys2Proof.Machine.execReprobeTimer l s
  | .probingResult l clean => Sys2Proof.Machine.execProbingResult l clean s
  | .hgCmdRetire l key => Sys2Proof.Machine.execHgCmdRetire l key s
  | .hgCmdReprobe l key => Sys2Proof.Machine.execHgCmdReprobe l key s
  | .hgCmdClearStats l key => Sys2Proof.Machine.execHgCmdClearStats l key s
  | .fleetCmdEnumerate key => Sys2Proof.Machine.execFleetCmdEnumerate key s
  | .enumAssign => Sys2Proof.Machine.execEnumAssign s
  | .enumCal => Sys2Proof.Machine.execEnumCal s
  | .enumDone => Sys2Proof.Machine.execEnumDone s
  | .enumJoinReq => Sys2Proof.Machine.execEnumJoinReq s
  | .tickFrameReceive err => Sys2Proof.Machine.execTickFrameReceive err s
  | .regAccessFrame storeOk => Sys2Proof.Machine.execRegAccessFrame storeOk s
  | .regRspReceive => Sys2Proof.Machine.execRegRspReceive s
  | .regTimeout => Sys2Proof.Machine.execRegTimeout s
  | .wrapFrameReceive => Sys2Proof.Machine.execWrapFrameReceive s
  | .engineFrameDeliver => Sys2Proof.Machine.execEngineFrameDeliver s
  | .fleetTxReq slot => Sys2Proof.Machine.execFleetTxReq slot s
  | .standbyTakeover => Sys2Proof.Machine.execStandbyTakeover s
  | .takeoverReceive => Sys2Proof.Machine.execTakeoverReceive s
  | .enumReturn => Sys2Proof.Machine.execEnumReturn s
  | .handback => Sys2Proof.Machine.execHandback s
  | .fleetCmdTakeover key => Sys2Proof.Machine.execFleetCmdTakeover key s
  | .fleetCmdHandback key => Sys2Proof.Machine.execFleetCmdHandback key s
  | .placeCmdRun key => Sys2Proof.Machine.execPlaceCmdRun key s
  | .placementRun => Sys2Proof.Machine.execPlacementRun s
  | .grantReceive => Sys2Proof.Machine.execGrantReceive s
  | .grantApply entry => Sys2Proof.Machine.execGrantApply entry s
  | .decConfirmTimeout n => Sys2Proof.Machine.execDecConfirmTimeout n s
  | .contractSend periodic => Sys2Proof.Machine.execContractSend periodic s
  | .contractReceive entry => Sys2Proof.Machine.execContractReceive entry s
  | .demandCompute soc => Sys2Proof.Machine.execDemandCompute soc s
  | .telemSend => Sys2Proof.Machine.execTelemSend s
  | .telemReceive entry => Sys2Proof.Machine.execTelemReceive entry s
  | .leaseRenewing => Sys2Proof.Machine.execLeaseRenewing s
  | .leaseExpire => Sys2Proof.Machine.execLeaseExpire s
  | .orphanDecay => Sys2Proof.Machine.execOrphanDecay s
  | .placeCmdFloorDone key => Sys2Proof.Machine.execPlaceCmdFloorDone key s
  | .nodeOrphaned node => Sys2Proof.Machine.execNodeOrphaned node s
  | .nodeCommitRelease node => Sys2Proof.Machine.execNodeCommitRelease node s
  | .ledgerMirrorSend => Sys2Proof.Machine.execLedgerMirrorSend s
  | .ledgerReceive entry => Sys2Proof.Machine.execLedgerReceive entry s
  | .ledgerRebuild rec cfg => Sys2Proof.Machine.execLedgerRebuild rec cfg s
  | .portSelWrite node port => Sys2Proof.Machine.execPortSelWrite node port s
  | .poolSelWrite pool => Sys2Proof.Machine.execPoolSelWrite pool s
  | .placeWindowWrite reg v => Sys2Proof.Machine.execPlaceWindowWrite reg v s
  | .twinFrameSend => Sys2Proof.Machine.execTwinFrameSend s
  | .twinFrameReceive entry => Sys2Proof.Machine.execTwinFrameReceive entry s
  | .mirWrite w7 => Sys2Proof.Machine.execMirWrite w7 s
  | .twinTakeover n => Sys2Proof.Machine.execTwinTakeover n s
  | .twinCmdTakeover ports key => Sys2Proof.Machine.execTwinCmdTakeover ports key s
  | .takeoverTask => Sys2Proof.Machine.execTakeoverTask s
  | .twinRoleChoice n => Sys2Proof.Machine.execTwinRoleChoice n s
  | .twinClaimYield n => Sys2Proof.Machine.execTwinClaimYield n s
  | .pairLedger => Sys2Proof.Machine.execPairLedger s
  | .energyConversion => Sys2Proof.Machine.execEnergyConversion s
  | .engyCmdClear ports key => Sys2Proof.Machine.execEngyCmdClear ports key s
  | .ccConversion shorted code => Sys2Proof.Machine.execCcConversion shorted code s
  | .gaugeMeasure mv tsBid => Sys2Proof.Machine.execGaugeMeasure mv tsBid s
  | .cellMismatch => Sys2Proof.Machine.execCellMismatch s
  | .gaugeRun => Sys2Proof.Machine.execGaugeRun s
  | .gaugeWriteBack verifyOk => Sys2Proof.Machine.execGaugeWriteBack verifyOk s
  | .packInsert => Sys2Proof.Machine.execPackInsert s
  | .packRemove => Sys2Proof.Machine.execPackRemove s
  | .aonPresenceSample bid temp => Sys2Proof.Machine.execAonPresenceSample bid temp s
  | .batidClearSwap key => Sys2Proof.Machine.execBatidClearSwap key s
  | .learnCmdAbort key => Sys2Proof.Machine.execLearnCmdAbort key s
  | .learnCmdForget key => Sys2Proof.Machine.execLearnCmdForget key s
  | .setWindowWrite node page off pec e => Sys2Proof.Machine.execSetWindowWrite node page off pec e s
  | .setWindowRead pec e => Sys2Proof.Machine.execSetWindowRead pec e s
  | .readBlock n pec e => Sys2Proof.Machine.execReadBlock n pec e s
  | .writeBlock n data pec e => Sys2Proof.Machine.execWriteBlock n data pec e s
  | .readWord pec e => Sys2Proof.Machine.execReadWord pec e s
  | .writeWord v pec e => Sys2Proof.Machine.execWriteWord v pec e s
  | .eventSummary pec e => Sys2Proof.Machine.execEventSummary pec e s
  | .storeWindowWrite n badSub off data pec e => Sys2Proof.Machine.execStoreWindowWrite n badSub off data pec e s
  | .storeWindowRead n off l pec e spoil => Sys2Proof.Machine.execStoreWindowRead n off l pec e spoil s
  | .updBlock n off data crc pec e => Sys2Proof.Machine.execUpdBlock n off data crc pec e s
  | .updCommit pec e => Sys2Proof.Machine.execUpdCommit pec e s
  | .status pec e => Sys2Proof.Machine.execStatus pec e s
  | .readWithoutCommand pec e => Sys2Proof.Machine.execReadWithoutCommand pec e s
  | .quickCommand rd => Sys2Proof.Machine.execQuickCommand rd s
  | .stretchEnd us => Sys2Proof.Machine.execStretchEnd us s
  | .heldDataExpire => Sys2Proof.Machine.execHeldDataExpire s
  | .sclTimeout cmd => Sys2Proof.Machine.execSclTimeout cmd s
  | .sdaStuck => Sys2Proof.Machine.execSdaStuck s
  | .hostNotify done => Sys2Proof.Machine.execHostNotify done s
  | .notifyHoldEnd => Sys2Proof.Machine.execNotifyHoldEnd s
  | .arbitrationLost how => Sys2Proof.Machine.execArbitrationLost how s
  | .notifyRetry done => Sys2Proof.Machine.execNotifyRetry done s
  | .hostCmdClearStats key => Sys2Proof.Machine.execHostCmdClearStats key s
  | .hostCmdNotifyNow key => Sys2Proof.Machine.execHostCmdNotifyNow key s
  | .updBlockWrite bad => Sys2Proof.Machine.execUpdBlockWrite bad s
  | .sessionTimeout => Sys2Proof.Machine.execSessionTimeout s
  | .updCmdAbort key => Sys2Proof.Machine.execUpdCmdAbort key s
  | .updCmdActivate key => Sys2Proof.Machine.execUpdCmdActivate key s
  | .updCmdConfirm switch key => Sys2Proof.Machine.execUpdCmdConfirm switch key s
  | .updCmdDistribute key => Sys2Proof.Machine.execUpdCmdDistribute key s
  | .updCmdOwnerLock key => Sys2Proof.Machine.execUpdCmdOwnerLock key s
  | .updCmdNewChallenge v key => Sys2Proof.Machine.execUpdCmdNewChallenge v key s
  | .updCmdUnlock key => Sys2Proof.Machine.execUpdCmdUnlock key s
  | .trialTimer => Sys2Proof.Machine.execTrialTimer s
  | .firmwareConfirm => Sys2Proof.Machine.execFirmwareConfirm s
  | .imgStart entry => Sys2Proof.Machine.execImgStart entry s
  | .imgSection entry => Sys2Proof.Machine.execImgSection entry s
  | .imgData entry bad => Sys2Proof.Machine.execImgData entry bad s
  | .imgEnd entry => Sys2Proof.Machine.execImgEnd entry s
  | .imgCommit entry => Sys2Proof.Machine.execImgCommit entry s
  | .imgActivate entry => Sys2Proof.Machine.execImgActivate entry s
  | .imgAbort entry => Sys2Proof.Machine.execImgAbort entry s
  | .updateReport => Sys2Proof.Machine.execUpdateReport s
  | .distributionTask entry late => Sys2Proof.Machine.execDistributionTask entry late s
  | .flashProgram key => Sys2Proof.Machine.execFlashProgram key s
  | .flashErase key => Sys2Proof.Machine.execFlashErase key s
  | .flashCmdDone verifyOk => Sys2Proof.Machine.execFlashCmdDone verifyOk s
  | .flashRdData => Sys2Proof.Machine.execFlashRdData s
  | .vbusLevelChange n mv => Sys2Proof.Machine.execVbusLevelChange n mv s
  | .nvStableClear mv => Sys2Proof.Machine.execNvStableClear mv s
  | .barrierLinkRecovery => Sys2Proof.Machine.execBarrierLinkRecovery s
  | .motnAsserted => Sys2Proof.Machine.execMotnAsserted s
  | .debugHalt k => Sys2Proof.Machine.execDebugHalt k s
  | .debugResume k => Sys2Proof.Machine.execDebugResume k s

end Sys2Proof.Machine
end

