-- ==== Sys2Proof/Safety.lean ====
section
/-!
DEFINITION. What claims are stated with: the canonical form of the memories, what every command keeps, the part of the state a command leaves alone.
-/

namespace Sys2Proof.Machine

/-- OTP reads 0 where nothing was blown. -/
def otpDflt (_ : Nat) : Word := 0

/-- Every sparse table of the state is in canonical form: keys strictly rising, no entry equal to what an unlisted key reads as. -/
def State.memWf (s : State) : Bool :=
  Sparse.wf resetWord s.regs && Sparse.wf resetWord s.inForce && Sparse.wf resetWord s.snaps && Sparse.wf storeDflt s.store &&
    Sparse.wf ramDflt s.aos && Sparse.wf flashDflt s.nvd && Sparse.wf flashDflt s.code && Sparse.wf flashDflt s.iram &&
    Sparse.wf otpDflt s.otp && Sparse.wf otpDflt s.otpMargin

/-- Predicate P0 of every engine reads 1 (Table 17.1). -/
def State.p0 (s : State) : Prop := ∀ k, (s.eng k).p.getLsbD 0 = true

/-- What holds of the machine after any command. -/
def State.Inv (s : State) : Prop := s.memWf = true ∧ s.p0 ∧ s.tick < 2 ^ 48

/-- Parts of the state that may be claimed to stay as they are: the tick counter; OTP, code flash and data flash; instruction RAM; always-on SRAM; the bytes of the
central store; the power phase; what boot found and the boot record; the engines; links and fleet; pins and mains; gauge; placement and twins; update; host bus; the
hidden state of the ports. -/
structure Hold where
  tick : Bool
  nv : Bool
  iram : Bool
  aos : Bool
  store : Bool
  phase : Bool
  boot : Bool
  engs : Bool
  net : Bool
  pins : Bool
  gauge : Bool
  place : Bool
  upd : Bool
  host : Bool
  ports : Bool
deriving DecidableEq, Repr

/-- Everything a `Hold` names. -/
def Hold.all : Hold := ⟨true, true, true, true, true, true, true, true, true, true, true, true, true, true, true⟩

/-- `t` follows from `s` without a reset of the POR or COLD class: the memories stay canonical, P0 stays 1, the tick counter stays a 48-bit number (R17), sticky
locks stay set (R110), blown OTP bits stay blown (R107), retired engines stay retired (R137), the debug latch and the part are as before, no waiting command is
touched; and the parts `k` names are as before. -/
structure Keeps (k : Hold) (s t : State) : Prop where
  mem : s.memWf = true → t.memWf = true
  p0 : s.p0 → t.p0
  bound : s.tick < 2 ^ 48 → t.tick < 2 ^ 48
  sticky : s.sticky &&& ~~~t.sticky = 0
  blown : ∀ i, s.otpWord i &&& ~~~t.otpWord i = 0
  retired : ∀ e, (s.eng e).retired = true → (t.eng e).retired = true
  dbg : t.dbg.state = s.dbg.state
  part : t.part = s.part
  pending : t.pending = s.pending
  tick : k.tick = true → t.tick = s.tick
  otp : k.nv = true → t.otp = s.otp
  otpMargin : k.nv = true → t.otpMargin = s.otpMargin
  code : k.nv = true → t.code = s.code
  nvd : k.nv = true → t.nvd = s.nvd
  iram : k.iram = true → t.iram = s.iram
  aos : k.aos = true → t.aos = s.aos
  store : k.store = true → t.store = s.store
  phase : k.phase = true → t.phase = s.phase
  boot : k.boot = true → t.boot = s.boot
  engs : k.engs = true → t.engs = s.engs
  links : k.net = true → t.links = s.links
  fleet : k.net = true → t.fleet = s.fleet
  pins : k.pins = true → t.pins = s.pins
  mains : k.pins = true → t.mains = s.mains
  gauge : k.gauge = true → t.gauge = s.gauge
  place : k.place = true → t.place = s.place
  twin : k.place = true → t.twin = s.twin
  upd : k.upd = true → t.upd = s.upd
  host : k.host = true → t.host = s.host
  ports : k.ports = true → t.ports = s.ports

/-- `t` follows from `s` by a reset of the POR class or a cold reset: the memories are canonical, P0 is 1, the tick counter is 0, no sticky lock is set, the debug latch
is closed; blown OTP bits stay blown, the part and the waiting commands are as before. -/
structure Restarts (s t : State) : Prop where
  mem : s.memWf = true → t.memWf = true
  p0 : t.p0
  sticky : t.sticky = 0
  otp : ∀ i, s.otpWord i &&& ~~~t.otpWord i = 0
  dbg : t.dbg.state = .closed
  part : t.part = s.part
  pending : t.pending = s.pending
  tick : t.tick = 0

/-- A command's outcome is a next state, and that state follows from `r` as `Keeps` says. -/
def Answers (k : Hold) (r : State) (o : Host.Outcome State Fault Refusal) : Prop := ∃ t, o = .next t ∧ Keeps k r t

/-- The same of an operation that may answer nothing. -/
def KeepsO (k : Hold) (r : State) (o : Option State) : Prop := ∀ t, o = some t → Keeps k r t

/-! ### What a command leaves alone -/

/-- Every register reads as before, but those of `pages` and those of `regs` (page and offset). -/
def State.RegsBut (s t : State) (pages : List Nat) (regs : List (Nat × Nat)) : Prop :=
  ∀ pg off, off < 256 → pg ∉ pages → (∀ x ∈ regs, regKey x.1 x.2 ≠ regKey pg off) → t.rd pg off = s.rd pg off

/-- A byte of the central store. -/
def State.stByte (s : State) (a : Nat) : Byte := Sparse.get storeDflt s.store a

/-- A byte of always-on SRAM. -/
def State.aosByte (s : State) (a : Nat) : Byte := Sparse.get ramDflt s.aos a

/-- A byte of data flash. -/
def State.nvdByte (s : State) (a : Nat) : Byte := Sparse.get flashDflt s.nvd a

/-- A byte of code flash. -/
def State.codeByte (s : State) (a : Nat) : Byte := Sparse.get flashDflt s.code a

/-- Every byte of the central store reads as before, but those of `ranges` (first byte, one past the last). -/
def State.StoreBut (s t : State) (ranges : List (Nat × Nat)) : Prop :=
  ∀ a, a < storeTop → (∀ r ∈ ranges, a < r.1 ∨ r.2 ≤ a) → t.stByte a = s.stByte a

/-- Every byte of always-on SRAM reads as before, but those of `ranges`. -/
def State.AosBut (s t : State) (ranges : List (Nat × Nat)) : Prop := ∀ a, (∀ r ∈ ranges, a < r.1 ∨ r.2 ≤ a) → t.aosByte a = s.aosByte a

/-- Instruction RAM, code flash, data flash and OTP are as before. -/
def State.FlashSame (s t : State) : Prop :=
  t.iram = s.iram ∧ t.code = s.code ∧ t.nvd = s.nvd ∧ t.otp = s.otp ∧ t.otpMargin = s.otpMargin

/-- The frame of a command: the registers of `pages` and `regs`, the bytes of the central store in `store` and of always-on SRAM in `aos` aside, every register and
every byte of memory is as before. -/
structure State.Frame (s t : State) (pages : List Nat) (regs store aos : List (Nat × Nat)) : Prop where
  regs : s.RegsBut t pages regs
  store : s.StoreBut t store
  aos : s.AosBut t aos
  flash : s.FlashSame t

/-- A page of every port. -/
def everyPort (pg : Port → Nat) : List Nat := allPorts.map pg

/-- A register of every port. -/
def everyPortReg (pg : Port → Nat) (off : Nat) : List (Nat × Nat) := allPorts.map fun m => (pg m, off)

/-- The same of every Hedgerow port. -/
def everyLinkReg (off : Nat) : List (Nat × Nat) := [(pHG 0, off), (pHG 1, off), (pHG 2, off)]

/-- The same of every engine. -/
def everyEngineReg (off : Nat) : List (Nat × Nat) := allEngines.map fun k => (pENG k, off)

/-- The pages of the engines. -/
def everyEngine : List Nat := allEngines.map pENG

/-- Message records and buffers of a port (Table 8.4). -/
def portBytes (n : Port) : Nat × Nat := (0x4000 * n.val, 0x4000 * n.val + 0x4000)

/-- Task descriptors (Table 6.5). -/
def descBytes : Nat × Nat := (0xC0000, 0xD0000)

/-- Port and pool records (chapter 14). -/
def recordBytes : Nat × Nat := (0x60000, 0x64200)

/-- The fleet energy table (R371). -/
def energyBytes : Nat × Nat := (0x90000, 0x92000)

/-- Receive and transmit records of the fleet (chapter 13). -/
def rxBytes : Nat × Nat := (0xB0000, 0xB8000)

def txBytes : Nat × Nat := (0xB8000, 0xC0000)

/-- Block buffer, erased marks and word mask of an update (R459). -/
def updBytes : Nat × Nat := (0xDB000, 0xE0000)

/-- The contract snapshot of a port in always-on SRAM (Table 9.1). -/
def snapBytes (n : Port) : Nat × Nat := (32 * n.val, 32 * n.val + 32)

/-- The mode record of a port in always-on SRAM (R254). -/
def modeBytes (n : Port) : Nat × Nat := (0x100 + 16 * n.val, 0x110 + 16 * n.val)

/-- The gauge record in always-on SRAM (R393). -/
def gaugeRecBytes : Nat × Nat := (0x180, 0x1C0)

/-- CORE runs and no reset of the page is in progress: the page takes commands (R46). -/
abbrev State.Takes (s : State) (pg : Nat) : Prop := s.live = true ∧ s.resetting pg = false

/-- A message of firmware may be queued at once: the layer is not held, fewer than four records wait (R187) and no earlier message of firmware waits for room. -/
abbrev State.MaySend (s : State) (n : Port) : Prop := s.enabled (pPDL n) = true ∧ (s.port n).pdl.queue.length < 4 ∧ (s.port n).fw.outbox = []

/-- Firmware's message stands in the transmit record it took (Table 8.5): ordered set, attach generation, header and data objects; and the record is queued (R187). -/
abbrev State.Sent (s t : State) (n : Port) (sop typ : Nat) (objs : List Word) : Prop :=
  t.stRead (txAt n (s.freeTx n) + 2) 2 = leBytes 1 sop ++ leBytes 1 (s.gen n) ∧
    t.stRead (txAt n (s.freeTx n) + 16) (2 + 4 * objs.length) = leBytes 2 (fwHdr typ objs.length false) ++ (objs.flatMap fun o => leBytes 4 o.toNat) ∧
    (t.port n).pdl.queue = (s.port n).pdl.queue ++ [s.freeTx n]

/-- A frame of a type, for a node, with a payload, waits or stands unacknowledged at the transmitter of a link (R322). -/
abbrev State.Carries (t : State) (l : Link) (typ dest : Nat) (payload : List Byte) : Prop :=
  (((t.link l).win ++ (t.link l).queue).any fun f => frType f.bytes == typ && frDest f.bytes == dest && frPayload f.bytes == payload) = true

/-- An outcome is a next state of which `q` holds. -/
def Leads (o : Host.Outcome State Fault Refusal) (q : State → Prop) : Prop := ∃ t, o = .next t ∧ q t

/-- The state after a number of steps. -/
def State.runs : Nat → State → Option State
  | 0, s => some s
  | n + 1, s => match step s with
    | .next t => t.runs n
    | _ => none

end Sys2Proof.Machine
end

