-- ==== Sys2Proof/Certificates/Slice0/Obligations.lean ====
section
/-!
DEFINITION. What is claimed of the model: statements for the provers.
-/

open Sys2Proof Sys2Proof.Machine

/-- A step runs the command at the front of the queue with the rest of the queue left waiting. With no command waiting the block idles: that clause is the model's choice (log entry 5). -/
def Obligations.StepTakesTheFrontCommand : Prop :=
  (∀ (c : Instr) (rest : List Instr) (s : State), s.pending = c :: rest → step s = exec c { s with pending := rest }) ∧
    (∀ s : State, s.pending = [] → step s = .next s)

/-- Every command completes on every state, whatever its operands: no command faults or refuses. The commands that wait and the part (variant and grade) are as before. -/
def Obligations.EveryCommandAnswers : Prop :=
  ∀ (c : Instr) (s : State), Leads (exec c s) fun t => t.pending = s.pending ∧ t.part = s.part

/-- The state after reset has every sparse memory in canonical form, reads P0 of every engine as 1, and counts ticks below 2^48. -/
def Obligations.ResetMeetsTheInvariant : Prop :=
  State.reset.Inv

/-- From every state that meets the invariant, whatever commands wait, a step leads to a state that meets it: registers, store, always-on SRAM, flash, instruction RAM and OTP list no byte twice and none at its unlisted value, P0 of every engine reads 1 (Table 17.1), and the tick count stays below 2^48 (R17). -/
def Obligations.EveryStepKeepsTheInvariant : Prop :=
  ∀ s t : State, s.Inv → step s = .next t → t.Inv

/-- Over any number of steps, from any state and whatever commands wait: the invariant is kept, a blown OTP bit stays blown (R109), the part is the same, and the queue left is the rest of the queue at the start. -/
def Obligations.WholeRunsKeepWhatOnlyGrows : Prop :=
  ∀ (n : Nat) (s : State), ∃ t, s.runs n = some t ∧ (s.Inv → t.Inv) ∧ (∀ i, s.otpWord i &&& ~~~t.otpWord i = 0) ∧ t.part = s.part ∧
    t.pending = s.pending.drop n

/-- Whatever the command, a bit of an OTP word that reads 1 before reads 1 after: a reset that interrupts a PROGRAM or LOCK leaves the bits already blown blown (R109). -/
def Obligations.OtpBitsStayBlown : Prop :=
  ∀ (c : Instr) (s : State), Leads (exec c s) fun t => ∀ i, s.otpWord i &&& ~~~t.otpWord i = 0

/-- The bits of LOCK.STICKY are only set (first sentences of R110). POR, NRST_LOW, BROWN_OUT and SHIP_WAKE are the commands of a reset of class POR or COLD: each keeps the bits, or clears all of them and leaves the device in reset with the tick count at zero. -/
def Obligations.StickyLocksOnlyGain : Prop :=
  ∀ (c : Instr) (s : State), Leads (exec c s) fun t => s.sticky &&& ~~~t.sticky = 0 ∨
    ((match c with | .por | .nrstLow | .brownOut _ | .shipWake _ _ => True | _ => False) ∧ t.sticky = 0 ∧ t.tick = 0)

/-- The debug latch goes from CLOSED to ERASING only by DBG_TOKEN_CHECKED with a token that R115 accepts (R116), from ERASING to OPEN only by DBG_ERASE_DONE, and back to CLOSED only by POR, NRST_LOW, BROWN_OUT or SHIP_WAKE, with the tick count at zero (R117). Every other command leaves it. -/
def Obligations.DebugLatchMoves : Prop :=
  ∀ (c : Instr) (s : State), Leads (exec c s) fun t => t.dbg.state = s.dbg.state ∨
    (c = .dbgTokenChecked ∧ s.tokCheck pDBG 0x40 1 s.dbgMode (s.dbg.against.getD 0) s.dbg.against.isSome = 0 ∧ s.dbg.state = .closed ∧ t.dbg.state = .erasing) ∨
    (c = .dbgEraseDone ∧ s.dbg.state = .erasing ∧ t.dbg.state = .opened) ∨
    ((match c with | .por | .nrstLow | .brownOut _ | .shipWake _ _ => True | _ => False) ∧ t.dbg.state = .closed ∧ t.tick = 0)

/-- Every command keeps a retired engine retired, but POR, NRST_LOW, BROWN_OUT and SHIP_WAKE, which may reset the device with the tick count at zero (R137). -/
def Obligations.RetiredEnginesStayRetired : Prop :=
  ∀ (c : Instr) (s : State), Leads (exec c s) fun t => (∀ k, (s.eng k).retired = true → (t.eng k).retired = true) ∨
    ((match c with | .por | .nrstLow | .brownOut _ | .shipWake _ _ => True | _ => False) ∧ t.tick = 0)

/-- The tick counter (R17): a tick boundary keeps it or adds 1 modulo 2^48; TICK_FRAME_RECEIVE may load it with a 48-bit number; the commands of a reset of class POR or COLD keep it or clear it; every other command leaves it. -/
def Obligations.TickCountMoves : Prop :=
  ∀ (c : Instr) (s : State), Leads (exec c s) fun t =>
    match c with
    | .tickBoundary _ => t.tick = s.tick ∨ t.tick = (s.tick + 1) % 2 ^ 48
    | .tickFrameReceive _ => t.tick = s.tick ∨ t.tick < 2 ^ 48
    | .por | .nrstLow | .brownOut _ | .shipWake _ _ => t.tick = s.tick ∨ t.tick = 0
    | _ => t.tick = s.tick

/-- Code flash, data flash and OTP are as they were after every command but those listed: the ends of an operation, resets and wakes that abandon one, firmware's writes of a record (a checked debug token, a confirmation of an image among them), the blocks of an update, and accesses to a register or by the host, which may order one. -/
def Obligations.NonvolatileMemoryChangesOnlyBy : Prop :=
  ∀ (c : Instr) (s : State), Leads (exec c s) fun t =>
    match c with
    | .por | .nrstLow | .brownOut _ | .coldBoot _ | .warmReset _ | .blockReset _ | .pgEvtSet _ _ | .pgLockWrite _ _ | .registerWrite _ _ _ _
    | .executeBundle _ _ | .nvInhibitAssert _ | .wake _ _ | .wakeTimer | .attachWatchSample _ | .hostAddressWake | .shipWake _ _ | .zeroVsysValid _
    | .otpCmdDone _ | .nvdCmdDone _ | .dbgTokenChecked | .dbgEraseDone | .regAccessFrame _ | .regRspReceive | .regTimeout | .gaugeWriteBack _
    | .readBlock _ _ _ | .writeBlock _ _ _ _ | .readWord _ _ | .writeWord _ _ _ | .storeWindowWrite _ _ _ _ _ _ | .storeWindowRead _ _ _ _ _ _
    | .updBlock _ _ _ _ _ _ | .updCommit _ _ | .updBlockWrite _ | .updCmdConfirm _ _ | .updCmdOwnerLock _ | .updCmdUnlock _ | .firmwareConfirm
    | .imgStart _ | .imgData _ _ | .imgCommit _ | .flashCmdDone _ => True
    | _ => t.otp = s.otp ∧ t.otpMargin = s.otpMargin ∧ t.code = s.code ∧ t.nvd = s.nvd

/-- Instruction RAM is as it was after every command but those at which an image may start: cold boot, WARM reset, the wakes, a commit in recovery, and what may run such a commit on the way (R97, R99, R428). In particular no bundle writes it. -/
def Obligations.InstructionRamChangesOnlyBy : Prop :=
  ∀ (c : Instr) (s : State), Leads (exec c s) fun t =>
    match c with
    | .coldBoot _ | .warmReset _ | .wake _ _ | .wakeTimer | .attachWatchSample _ | .hostAddressWake | .zeroVsysValid _ | .regRspReceive
    | .regTimeout | .readBlock _ _ _ | .writeBlock _ _ _ _ | .readWord _ _ | .writeWord _ _ _ | .storeWindowWrite _ _ _ _ _ _
    | .storeWindowRead _ _ _ _ _ _ | .updBlock _ _ _ _ _ _ | .updCommit _ _ | .updBlockWrite _ | .imgCommit _ => True
    | _ => t.iram = s.iram

/-- R120. A deadline d has passed at tick t exactly when (t − d) modulo 2^32 lies in 1 to 2^31 − 1, and a is earlier than b exactly when (b − a) modulo 2^32 does. Ticks and deadlines are 32-bit words. -/
def Obligations.DeadlinesCompareModulo : Prop :=
  (∀ t d : Word, passed t d = true ↔ 1 ≤ (t - d).toNat ∧ (t - d).toNat ≤ 2 ^ 31 - 1) ∧
    (∀ a b : Word, earlier a b = true ↔ 1 ≤ (b - a).toNat ∧ (b - a).toNat ≤ 2 ^ 31 - 1)

/-- R40. While the debug latch is not OPEN: a read of the TEST page by any requester, at any offset whose word is not PG_ID, returns 0 and changes nothing; PG_ID reads its type code; and a write by any requester, at any offset and of any word, changes nothing. -/
def Obligations.TestPageReadsZeroUnlessOpen : Prop :=
  ∀ s : State, s.dbg.state ≠ .opened → ∀ (rq : Req) (off : Nat) (v : Word),
    (4 ≤ off % 256 → s.regRead rq 0xF0 off = (s, 0)) ∧ (s.live = true → off % 256 < 4 → (s.regRead rq 0xF0 off).2 = 0xF0000100) ∧ s.regWrite rq 0xF0 off v = s

/-- R39. On a device that runs, PG_ID of every page of Table 2.9 reads the table's type code with the instance below it (on an LN-6416X, which has the MAINS page); every page number of the list of absent pages, from any requester, reads 0 at every offset, and a write there changes nothing. Every page number below 256 is in the table or in that list. -/
def Obligations.PageMapIsTable29 : Prop :=
  let table : List (Nat × Nat × Nat) := [(0x00, 1, 0x01), (0x01, 1, 0x02), (0x02, 1, 0x03), (0x03, 1, 0x04), (0x04, 1, 0x05), (0x05, 1, 0x06), (0x06, 1, 0x07),
    (0x07, 1, 0x08), (0x08, 8, 0x10), (0x10, 8, 0x11), (0x18, 8, 0x12), (0x20, 8, 0x13), (0x28, 8, 0x14), (0x30, 8, 0x15), (0x38, 1, 0x18), (0x40, 1, 0x20),
    (0x41, 1, 0x21), (0x42, 1, 0x22), (0x44, 1, 0x24), (0x50, 1, 0x28), (0x51, 1, 0x29), (0x58, 3, 0x30), (0x5B, 1, 0x31), (0x5C, 1, 0x32), (0x5D, 1, 0x33),
    (0x5E, 1, 0x34), (0x60, 1, 0x38), (0x61, 16, 0x39), (0x78, 1, 0x3C), (0x79, 1, 0x3D), (0x80, 1, 0x40), (0x81, 1, 0x41), (0x82, 1, 0x42), (0x88, 1, 0x44),
    (0x89, 1, 0x45), (0x8A, 1, 0x46), (0x90, 1, 0x48), (0xF0, 1, 0xF0)]
  let absent : List (Nat × Nat) := [(0x39, 0x3F), (0x43, 0x43), (0x45, 0x4F), (0x52, 0x57), (0x5F, 0x5F), (0x71, 0x77), (0x7A, 0x7F), (0x83, 0x87), (0x8B, 0x8F),
    (0x91, 0xEF), (0xF1, 0xFF)]
  (∀ (s : State) (rq : Req), s.live = true → s.part.x = true → ∀ r ∈ table, ∀ i < r.2.1, (s.regRead rq (r.1 + i) 0).2.toNat = 2 ^ 24 * r.2.2 + 2 ^ 16 * i + 0x100) ∧
    (∀ (s : State) (rq : Req) (off : Nat) (v : Word), ∀ r ∈ absent, ∀ pg, r.1 ≤ pg → pg ≤ r.2 → s.regRead rq pg off = (s, 0) ∧ s.regWrite rq pg off v = s) ∧
    (∀ pg < 256, (∃ r ∈ table, r.1 ≤ pg ∧ pg < r.1 + r.2.1) ∨ ∃ r ∈ absent, r.1 ≤ pg ∧ pg ≤ r.2)

/-- R48. A command that reads n words of a page from an offset on reads, in order, the words at offset + 4i modulo 256 of that page, each read seeing what the reads before it left; one that writes words writes them likewise. READ_BLOCK and WRITE_BLOCK through a window on this device are accesses of this kind, and advance the window's offset by 4 for each word, modulo 256. -/
def Obligations.BurstsStayInThePage : Prop :=
  (∀ (s : State) (rq : Req) (pg n off : Nat), off < 256 →
      s.readWords rq pg n off = ((List.range n).map fun i => (off + 4 * i) % 256).foldl
        (fun x o => ((x.1.regRead rq pg o).1, x.2 ++ [(x.1.regRead rq pg o).2])) (s, [])) ∧
    (∀ (s : State) (rq : Req) (pg : Nat) (l : List Word) (off : Nat), off < 256 →
      s.writeWords rq pg l off = (((List.range l.length).map fun i => (off + 4 * i) % 256).zip l).foldl (fun u x => u.regWrite rq pg x.1 x.2) s) ∧
    (∀ (s : State) (n : BitVec 8), s.hostOn = true → s.host.wait = none → s.host.posted = none → s.winLocal = true → 4 ≤ n.toNat → n.toNat ≤ 252 → n.toNat % 4 = 0 →
      let u := ((s.modHost fun h => { h with total := 0, sent := [], stuck := false }).put pHOST HOST.STRETCH_LAST_TOTAL_US 0).heldDrop
      Leads (exec (.readBlock n true none) s) fun t =>
        t.host.sent.take (n.toNat + 1) = n :: wordBytes (u.readWords .host s.winPage (n.toNat / 4) s.winOff).2 ∧ t.winOff = (s.winOff + n.toNat) % 256) ∧
    (∀ (s : State) (n : BitVec 8) (data : List Byte), s.hostOn = true → s.host.wait = none → s.host.posted = none → s.winLocal = true → s.pecReq = false →
      data.length = n.toNat → 4 ≤ n.toNat → n.toNat ≤ 252 → n.toNat % 4 = 0 →
      let u := ((s.modHost fun h => { h with total := 0, sent := [], stuck := false }).put pHOST HOST.STRETCH_LAST_TOTAL_US 0).heldDrop
      exec (.writeBlock n data none none) s = .next ((u.writeWords .host s.winPage (toWords data) s.winOff).writeDone 3 (n.toNat / 4)))

/-- R413. The eight bytes that EVENT_SUMMARY sends: on the acting manager of a fleet byte k, bit b is the fleet summary's bit for node 8k + b, its own bit being its own ATTN (R50); on a SOLO device and on a device that does not act as manager the bit of its own index is its ATTN and every other bit is 0. -/
def Obligations.EventSummaryReturnsTheFleet : Prop :=
  ∀ (s : State) (pec : Bool), s.hostOn = true → s.host.wait = none → s.node < 64 → Leads (exec (.eventSummary pec none) s) fun t =>
    ∀ k b, k < 8 → b < 8 → (t.host.sent.getD k 0).getLsbD b =
      if s.acting = .manager ∧ s.role ≠ .solo ∧ 8 * k + b ≠ s.node then s.mapBit pFLEET FLEET.EVT_SUM_NODES (8 * k + b)
      else decide (8 * k + b = s.node) && s.attn

/-- A record written with its CRC-16 (R143) inside the store: its bytes read back, its parity and CRC check (R144), and every other byte of the store reads as before. A record whose bytes are read back unchanged with another stored CRC does not check. -/
def Obligations.StoreRecordsCheck : Prop :=
  (∀ (s : State) (a : Nat) (body : List Byte), a + (body.length + 2) ≤ storeTop →
      (s.stRecord a body).stRead a body.length = body ∧ (s.stRecord a body).stChecks a (body.length + 2) = true ∧
        s.StoreBut (s.stRecord a body) [(a, a + (body.length + 2))]) ∧
    (∀ (s : State) (a n crc : Nat), a + n + 2 ≤ storeTop → crc < 2 ^ 16 → crc ≠ crc16 (s.stRead a n) → (s.stPut (a + n) 2 crc).stChecks a (n + 2) = false)

/-- A COMMIT that takes effect (R219, Table 9.1): the port's snapshot holds a contract (VALID = 1, CRC matches), with the staged voltage, the port's attach generation and the low bits of the tick; bytes outside the port's 32 are as before in always-on SRAM, and no byte of the store changes. -/
def Obligations.CommitWritesAValidSnapshot : Prop :=
  ∀ (s : State) (n : Port), (s.commit n).snapValid n = true ∧ (s.commit n).snapV n = s.fld (pPOL n) POL.CON_VI_V ∧
    bitsOf ((s.commit n).snapWord n 0) 16 8 = s.gen n ∧ (s.commit n).snapWord n 5 = s.tick % 2 ^ 32 ∧ s.AosBut (s.commit n) [snapBytes n] ∧ (s.commit n).store = s.store

/-- The converter target t in steps of 5 mV, without a twin trim: the code c nearest to 2,560 × (V_SET − V0) / RT_KOHM, a tie going away from zero, is driven where it lies within ±32,767, and the limit of its sign else, with SAT; V_SET is reported rounded down to 20 mV; a target of 0 drives no current (R226). A code held at its limit where none was before sets CONV_SAT; that the event is not set again while the limit lasts is the model's reading. -/
def Obligations.ConverterCodeRounds : Prop :=
  ∀ (s : State) (n : Port) (t : Nat), (s.port n).pol.twinTrim = 0 → t < 2 ^ 14 →
    let v0 : Int := s.inf (pPOL n) POL.CONV_CFG_V0
    let rt : Nat := max 10 (s.inf (pPOL n) POL.CONV_CFG_RT_KOHM)
    let u := s.setTarget n t
    ∃ c : Int, (0 < t → 2 * (640 * (t - 4 * v0) - c * rt).natAbs ≤ rt ∧ (2 * (640 * (t - 4 * v0) - c * rt).natAbs = rt → (640 * (t - 4 * v0)).natAbs < (c * rt).natAbs)) ∧ (t = 0 → c = 0) ∧
      signed 16 (u.fld (pPOL n) POL.CONV_STAT_I_CODE) = max (-32767) (min 32767 c) ∧ u.flag (pPOL n) POL.CONV_STAT_SAT = decide (32767 < c.natAbs) ∧
      u.fld (pPOL n) POL.CONV_STAT_V_SET = t / 4 ∧
      (32767 < c.natAbs → s.flag (pPOL n) POL.CONV_STAT_SAT = false → u.flag (pPOL n) POL.PG_EVT_CONV_SAT = true)

/-- Words of the X slot and the M slot against bit-vector arithmetic, for every engine state and every operand: sums and differences with their carry, borrow and signed overflow; saturation; logic; shifts and rotation by a register; minimum, maximum and absolute value; products into the accumulators with negation, accumulation and saturation. `e` is the engine before the bundle, `n` the engine as the words before it left it. -/
def Obligations.SkinkWordsComputeTheirTables : Prop :=
  ∀ (e n : EngSt) (x : SkW),
    let a := e.d.get x.s
    let b := e.d.get x.t
    let r := (execX e n x).d.get x.d
    let cf := (execX e n x).flg.getLsbD 0
    let vf := (execX e n x).flg.getLsbD 1
    let sh := if bitAt x.w 6 then x.w % 32 else b.toNat % 32
    let p : Int := if bitAt x.w 5 then -(a.toInt * b.toInt) else a.toInt * b.toInt
    (x.op = 0x01 → r = a + b ∧ cf = decide (2 ^ 32 ≤ a.toNat + b.toNat) ∧ vf = decide ((a + b).toInt ≠ a.toInt + b.toInt)) ∧
    (x.op = 0x02 → r = a - b ∧ cf = decide (a.toNat < b.toNat) ∧ vf = decide ((a - b).toInt ≠ a.toInt - b.toInt)) ∧
    (x.op = 0x05 → r.toInt = max (-2 ^ 31) (min (2 ^ 31 - 1) (a.toInt + b.toInt))) ∧
    (x.op = 0x06 → r.toInt = max (-2 ^ 31) (min (2 ^ 31 - 1) (a.toInt - b.toInt))) ∧
    (x.op = 0x08 → r = a &&& b) ∧ (x.op = 0x09 → r = a ||| b) ∧ (x.op = 0x0A → r = a ^^^ b) ∧ (x.op = 0x0B → r = a &&& ~~~b) ∧
    (x.op = 0x10 → r = a <<< sh) ∧ (x.op = 0x11 → r = a >>> sh) ∧ (x.op = 0x12 → r = a.sshiftRight sh) ∧ (x.op = 0x13 → r = a.rotateRight sh) ∧
    (x.op = 0x15 → r.toInt = min a.toInt b.toInt) ∧ (x.op = 0x16 → r.toInt = max a.toInt b.toInt) ∧ (x.op = 0x17 → r.toInt = min (2 ^ 31 - 1) a.toInt.natAbs) ∧
    (x.op = 0x18 → (a = 0 → r = 32) ∧ ∀ i < 32, r.toNat = i ↔ a.getMsbD i = true ∧ ∀ j < i, a.getMsbD j = false) ∧
    (x.op = 0x01 → bitAt x.w 6 = false → ((execM e n x).acc.get x.acc).toInt = p) ∧
    (x.op = 0x03 → bitAt x.w 6 = false → (execM e n x).acc.get x.acc = e.acc.get x.acc + BitVec.ofInt 72 p) ∧
    (x.op = 0x03 → bitAt x.w 6 = true → ((execM e n x).acc.get x.acc).toInt = max (-2 ^ 63) (min (2 ^ 63 - 1) ((e.acc.get x.acc).toInt + p)))

/-- The flags after a word of the X or M slot (R438): SAT (bit 8), SERR (bit 9) and DERR (bit 10) that were set stay set; C and V change only by ADD, SUB, ADDC, SUBC and ADDI, and C also by SHLC and the packed-decimal words; every other bit is as before. -/
def Obligations.StickyFlagsOnlySet : Prop :=
  (∀ (e n : EngSt) (x : SkW) (i : Nat), 8 ≤ i → i ≤ 10 → n.flg.getLsbD i = true → (execX e n x).flg.getLsbD i = true ∧ (execM e n x).flg.getLsbD i = true) ∧
    (∀ (e n : EngSt) (x : SkW), x.op ∉ [0x01, 0x02, 0x03, 0x04, 0x07, 0x14, 0x28, 0x29, 0x2A, 0x2B, 0x2C, 0x2D] → (execX e n x).flg.getLsbD 0 = n.flg.getLsbD 0) ∧
    (∀ (e n : EngSt) (x : SkW), x.op ∉ [0x01, 0x02, 0x03, 0x04, 0x07] → (execX e n x).flg.getLsbD 1 = n.flg.getLsbD 1) ∧
    (∀ (e n : EngSt) (x : SkW) (i : Nat), i ≠ 8 → (execM e n x).flg.getLsbD i = n.flg.getLsbD i) ∧
    (∀ (e n : EngSt) (x : SkW) (i : Nat), i ∉ [0, 1, 8, 10] → (execX e n x).flg.getLsbD i = n.flg.getLsbD i)

/-- Commands on the registers that every page has (chapter 2), in the states and forms that each clause's hypotheses name: a write of PG_EVT_EN, of a register without side effect, of a field that a locked page keeps; of PG_EVT_SET, of PG_EVT (a bit that hardware sets in the same cycle stays), of PG_LOCK (that a write of 0 sets no event is the model's choice, log entry 91); FREEZE set and cleared; the end of a block reset; the read of a low word, which latches its high word for the requester; and the read of a field that a read clears, frozen or not. -/
def Obligations.RegisterPageCommandsComplete : Prop :=
  (∀ (s : State) (rq : Req) (pg : BitVec 8) (v : Word) (r : PageRow), s.Takes pg.toNat → pageRow pg.toNat = some r → s.pageShut r = false → 
      Leads (exec (.registerWrite rq pg 0x14 v) s) fun t => t.rd pg.toNat 0x14 = (v &&& evtMask r) ∧ s.Frame t [] [(pg.toNat, 0x14)] [] []) ∧
  (∀ (s : State) (rq : Req) (i : Fin 16) (v : Word), s.Takes pEVT → 
      Leads (exec (.registerWrite rq (BitVec.ofNat 8 pEVT) (BitVec.ofNat 8 (0x40 + 4 * i.val)) v) s) fun t => t.rd pEVT (0x40 + 4 * i.val) = v ∧ s.Frame t [] [(pEVT, 0x40 + 4 * i.val)] [] []) ∧
  (∀ (s : State) (rq : Req) (n : Port) (v : Word), s.Takes (pCC n) → s.locked (pCC n) = true → 
      Leads (exec (.registerWrite rq (BitVec.ofNat 8 (pCC n)) 0x20 v) s) fun t => t.rd (pCC n) 0x20 = s.rd (pCC n) 0x20 ∧ t.flag (pCC n) PG.EVT_LOCKED_WRITE = true ∧ s.Frame t [] [(pCC n, 0x10), (pCC n, 0x20)] [] []) ∧
  (∀ (s : State) (pg : BitVec 8) (v hw : Word) (r : PageRow), s.Takes pg.toNat → pageRow pg.toNat = some r → s.pageShut r = false → hw &&& evtMask r = 0 → 
      Leads (exec (.pgEvtClear pg v hw) s) fun t => t.rd pg.toNat 0x10 = (s.rd pg.toNat 0x10 &&& ~~~v) ∧ s.Frame t [] [(pg.toNat, 0x10)] [] []) ∧
  (∀ (s : State) (pg : BitVec 8) (v hw : Word) (r : PageRow) (i : Nat), s.Takes pg.toNat → pageRow pg.toNat = some r → s.pageShut r = false → i < 32 → (hw &&& evtMask r).getLsbD i = true → 
      Leads (exec (.pgEvtClear pg v hw) s) fun t => (t.rd pg.toNat 0x10).getLsbD i = true ∧ s.Frame t [] [(pg.toNat, 0x10)] [] []) ∧
  (∀ (s : State) (pg : BitVec 8) (v : Word) (r : PageRow), s.Takes pg.toNat → pageRow pg.toNat = some r → s.pageShut r = false → 
      Leads (exec (.pgEvtSet pg v) s) fun t => t.rd pg.toNat 0x10 = (s.rd pg.toNat 0x10 ||| (v &&& evtMask r)) ∧ s.Frame t [] [(pg.toNat, 0x10)] [] []) ∧
  (∀ (s : State) (pg : BitVec 8) (v : Word) (r : PageRow), s.live = true → pageRow pg.toNat = some r → s.pageShut r = false → s.locked pg.toNat = false → v.getLsbD 0 = true → 
      Leads (exec (.pgLockWrite pg v) s) fun t => t.locked pg.toNat = true ∧ s.Frame t [] [(pg.toNat, 0x1C)] [] []) ∧
  (∀ (s : State) (pg : BitVec 8) (v : Word) (r : PageRow), s.live = true → pageRow pg.toNat = some r → s.pageShut r = false → s.locked pg.toNat = true → v.getLsbD 0 = true → 
      Leads (exec (.pgLockWrite pg v) s) fun t => t.locked pg.toNat = true ∧ t.flag pg.toNat PG.EVT_LOCKED_WRITE = true ∧ s.Frame t [] [(pg.toNat, 0x10)] [] []) ∧
  (∀ (s : State) (pg : BitVec 8) (v : Word), v.getLsbD 0 = false → 
      Leads (exec (.pgLockWrite pg v) s) fun t => t = s) ∧
  (∀ (s : State) (pg : BitVec 8) (r : PageRow), s.Takes pg.toNat → pageRow pg.toNat = some r → s.pageShut r = false → 
      Leads (exec (.freeze pg true) s) fun t => t.flag pg.toNat PG.CTRL_FREEZE = true ∧ (∀ off ∈ 0x0C :: r.rows.map (fun x => x.off), Sparse.get resetWord t.snaps (regKey pg.toNat off) = s.shown r pg.toNat off) ∧ s.Frame t [] [(pg.toNat, 0x08)] [] []) ∧
  (∀ (s : State) (pg : BitVec 8) (r : PageRow), s.Takes pg.toNat → pageRow pg.toNat = some r → s.pageShut r = false → 
      Leads (exec (.freeze pg false) s) fun t => t.flag pg.toNat PG.CTRL_FREEZE = false ∧ (∀ c ∈ t.snaps, c.1 / 64 ≠ pg.toNat) ∧ s.Frame t [] [(pg.toNat, 0x08)] [] []) ∧
  (∀ (s : State) (pg : BitVec 8), s.live = true → s.rst.blocks.any (fun c => c.1 == pg.toNat && decide (c.2 < s.tick)) = true → 
      Leads (exec (.blockResetDone pg) s) fun t => t.resetting pg.toNat = false ∧ t.rst.blocks = s.rst.blocks.filter (fun c => c.1 != pg.toNat) ∧ s.Frame t [] [(pg.toNat, 0x08)] [] []) ∧
  (∀ (s : State) (rq : Req) (pg off : BitVec 8) (r : PageRow), s.Takes pg.toNat → pageRow pg.toNat = some r → s.pageShut r = false → lowWord r.kind off.toNat = true → (r.reg off.toNat).all (fun x => x.rc == 0) = true → off.toNat % 4 = 0 → (0x20 ≤ off.toNat && lowWord r.kind (off.toNat - 4)) = false → 
      Leads (exec (.lowWordRead rq pg off) s) fun t => t.readData = s.view r pg.toNat off.toNat ∧ (65536 * reqNo rq + regKey pg.toNat (off.toNat + 4), s.view r pg.toNat (off.toNat + 4)) ∈ t.shadow ∧ s.Frame t [] [] [] []) ∧
  (∀ (s : State) (rq : Req) (n : Port) (off : BitVec 8) (r : PageRow) (x : RegRow), s.Takes (pMEAS n) → pageRow (pMEAS n) = some r → r.reg off.toNat = some x → 0x20 ≤ off.toNat → off.toNat % 4 = 0 → x.rc ≠ 0 → s.flag (pMEAS n) PG.CTRL_FREEZE = false → 
      Leads (exec (.readClearField rq (BitVec.ofNat 8 (pMEAS n)) off) s) fun t => t.readData = s.view r (pMEAS n) off.toNat ∧ t.rd (pMEAS n) off.toNat = (s.rd (pMEAS n) off.toNat &&& ~~~(BitVec.ofNat 32 x.rc)) ∧ s.Frame t [] [(pMEAS n, off.toNat)] [] []) ∧
  (∀ (s : State) (rq : Req) (r : PageRow), s.Takes pHOST → pageRow pHOST = some r → s.flag pHOST PG.CTRL_FREEZE = false → 
      Leads (exec (.readClearField rq (BitVec.ofNat 8 pHOST) 0x28) s) fun t => t.readData = s.view r pHOST 0x28 ∧ t.rd pHOST 0x28 = (s.rd pHOST 0x28 &&& ~~~(BitVec.ofNat 32 (((r.reg 0x28).map fun x => x.rc).getD 0))) ∧ s.Frame t [] [(pHOST, 0x28)] [] []) ∧
  (∀ (s : State) (rq : Req) (pg off : BitVec 8) (r : PageRow) (x : RegRow), s.Takes pg.toNat → pageRow pg.toNat = some r → s.pageShut r = false → r.reg off.toNat = some x → x.rc ≠ 0 → off.toNat % 4 = 0 → (0x20 ≤ off.toNat && lowWord r.kind (off.toNat - 4)) = false → lowWord r.kind off.toNat = false → s.flag pg.toNat PG.CTRL_FREEZE = true → 0x20 ≤ off.toNat → 
      Leads (exec (.readClearField rq pg off) s) fun t => t.readData = s.view r pg.toNat off.toNat ∧ t.rd pg.toNat off.toNat = s.rd pg.toNat off.toNat)

/-- Reset requests and the other commands of the always-on pages, in the states and forms that each clause's hypotheses name: a keyed RST_REQ starts a WARM reset, and one with another key sets LOCKED_WRITE alone; a BLOCK_RESET puts its page into reset until a later tick boundary (on a CC or GUARD page all pages of the port, which stays in Disabled), is refused while its page is locked, and does nothing on the pages that Table 2.5 names; a PORT_RST does the same for every port it names, unless one of the port's pages is locked; AOS_DATA reads or writes the addressed word and advances the address, and a write to the contract snapshots is refused; LOCK.STICKY only gains bits. -/
def Obligations.ResetRequestsComplete : Prop :=
  (∀ (s : State) (key : BitVec 16), s.Takes pSYS → key.toNat = 0xA5C3 → 
      Leads (exec (.rstReq key) s) fun t => s.Frame t [] [(pSYS, 0x10)] [] [] ∧ t.phase = .warm ∧ t.rst.causes = (s.rst.causes ||| 8)) ∧
  (∀ (s : State) (key : BitVec 16), s.Takes pSYS → key.toNat ≠ 0xA5C3 → 
      Leads (exec (.rstReq key) s) fun t => s.Frame t [] [(pSYS, 0x10)] [] [] ∧ t.phase = s.phase ∧ t.rst = s.rst ∧ t.flag pSYS PG.EVT_LOCKED_WRITE = true) ∧
  (∀ (s : State) (pg : BitVec 8) (r : PageRow), s.Takes pg.toNat → pageRow pg.toNat = some r → s.pageShut r = false → noBlockReset r.kind = false → r.kind ≠ .cc → r.kind ≠ .guard → s.locked pg.toNat = false → 
      Leads (exec (.blockReset pg) s) fun t => t.resetting pg.toNat = true ∧ (pg.toNat, s.tick) ∈ t.rst.blocks ∧ t.tick = s.tick) ∧
  (∀ (s : State), s.Takes pCLK → s.locked pCLK = false → 
      Leads (exec (.blockReset 0x02) s) fun t => t.resetting pCLK = true ∧ ∀ pg off, pg ≠ pCLK → off < 256 → t.rd pg off = s.rd pg off) ∧
  (∀ (s : State) (n : Port), s.Takes (pMEAS n) → s.locked (pMEAS n) = false → 
      Leads (exec (.blockReset (BitVec.ofNat 8 (pMEAS n))) s) fun t => (∀ off, 0x0C ≤ off → off < 256 → t.rd (pMEAS n) off = resetWord (regKey (pMEAS n) off)) ∧ (∀ pg off, pg ≠ pMEAS n → off < 256 → t.rd pg off = s.rd pg off)) ∧
  (∀ (s : State) (pg : BitVec 8) (n : Port), s.Takes pg.toNat → (pg.toNat = pCC n ∨ pg.toNat = pGUARD n) → (∀ q ∈ portPages n, s.locked q = false) → 
      Leads (exec (.blockReset pg) s) fun t => (∀ q ∈ portPages n, t.resetting q = true) ∧ (t.port n).cc.rstHold = true ∧ (s.guardState n ≠ 7 → t.fld (pCC n) CC.PG_STAT_STATE = 0) ∧ s.FlashSame t ∧ s.StoreBut t [portBytes n, descBytes] ∧ s.AosBut t [snapBytes n]) ∧
  (∀ (s : State) (pg : BitVec 8) (r : PageRow), s.Takes pg.toNat → pageRow pg.toNat = some r → s.pageShut r = false → noBlockReset r.kind = false → r.kind ≠ .cc → r.kind ≠ .guard → s.locked pg.toNat = true → 
      Leads (exec (.blockReset pg) s) fun t => t.resetting pg.toNat = false ∧ t.flag pg.toNat PG.EVT_LOCKED_WRITE = true ∧ s.Frame t [] [(pg.toNat, 0x10)] [] []) ∧
  (∀ (s : State) (pg : BitVec 8) (r : PageRow), pageRow pg.toNat = some r → noBlockReset r.kind = true → 
      Leads (exec (.blockReset pg) s) fun t => t = s) ∧
  (∀ (s : State) (ports : BitVec 8) (key : BitVec 16), s.Takes pSYS → key.toNat = 0xA5C3 → 
      Leads (exec (.portRst ports key) s) fun t => (∀ n : Port, ports.getLsbD n.val = true → (∀ q ∈ portPages n, s.locked q = false) → (∀ q ∈ portPages n, t.resetting q = true) ∧ (t.port n).cc.rstHold = true ∧ (s.guardState n ≠ 7 → t.fld (pCC n) CC.PG_STAT_STATE = 0)) ∧ (∀ n : Port, ports.getLsbD n.val = true → (∃ q ∈ portPages n, s.locked q = true) → t.flag pSYS PG.EVT_LOCKED_WRITE = true) ∧ s.FlashSame t ∧ t.tick = s.tick) ∧
  (∀ (s : State), s.Takes pAON → 
      Leads (exec (.aosDataAccess none) s) fun t => t.readData = BitVec.ofNat 32 (s.aosNat (4 * s.fld pAON AON.AOS_ADDR_WORD) 4) ∧ t.fld pAON AON.AOS_ADDR_WORD = (s.fld pAON AON.AOS_ADDR_WORD + 1) % 2 ^ AON.AOS_ADDR_WORD.w ∧ s.Frame t [] [(pAON, AON.AOS_ADDR_WORD.off)] [] []) ∧
  (∀ (s : State) (v : Word), s.Takes pAON → 0x100 ≤ 4 * s.fld pAON AON.AOS_ADDR_WORD → 
      Leads (exec (.aosDataAccess (some v)) s) fun t => t.aosNat (4 * s.fld pAON AON.AOS_ADDR_WORD) 4 = v.toNat ∧ t.fld pAON AON.AOS_ADDR_WORD = (s.fld pAON AON.AOS_ADDR_WORD + 1) % 2 ^ AON.AOS_ADDR_WORD.w ∧ s.Frame t [] [(pAON, AON.AOS_ADDR_WORD.off)] [] [(4 * s.fld pAON AON.AOS_ADDR_WORD, 4 * s.fld pAON AON.AOS_ADDR_WORD + 4)]) ∧
  (∀ (s : State) (v : Word), s.Takes pAON → 4 * s.fld pAON AON.AOS_ADDR_WORD < 0x100 → 
      Leads (exec (.aosDataAccess (some v)) s) fun t => t.aos = s.aos ∧ t.flag pAON PG.EVT_LOCKED_WRITE = true ∧ t.fld pAON AON.AOS_ADDR_WORD = (s.fld pAON AON.AOS_ADDR_WORD + 1) % 2 ^ AON.AOS_ADDR_WORD.w ∧ s.Frame t [] [(pAON, 0x10), (pAON, AON.AOS_ADDR_WORD.off)] [] []) ∧
  (∀ (s : State) (v : Word), s.Takes pLOCK → 
      Leads (exec (.lockStickySet v) s) fun t => s.Frame t [] [] [] [] ∧ t.sticky = (s.sticky ||| BitVec.ofNat 6 v.toNat))

/-- Commands of OTP, data flash, code flash and the debug latch, in the states and forms that each clause's hypotheses name. An accepted command holds its operation and reads BUSY; its end blows the bits, writes or erases the record and reports; the debug challenge, its check and the erasure move the latch. -/
def Obligations.NonvolatileCommandsComplete : Prop :=
  (∀ (s : State) (key : BitVec 16), s.Takes pOTP → key.toNat = 0x0A7C → s.otpOp = none → s.otpGate = 0 → (otpReserved (s.fld pOTP OTP.PROG_ADDR_WORD) || otpRegionOf (s.fld pOTP OTP.PROG_ADDR_WORD) == 7) = false → s.otpLocked (otpRegionOf (s.fld pOTP OTP.PROG_ADDR_WORD)) = false → 
      Leads (exec (.otpProgram key) s) fun t => s.Frame t [] [(pOTP, 0x10), (pOTP, 0x3C)] [] [] ∧ t.otpOp = some (.program (s.fld pOTP OTP.PROG_ADDR_WORD) (s.rd pOTP 0x34)) ∧ t.flag pOTP OTP.CMD_STAT_BUSY = true) ∧
  (∀ (s : State) (region : BitVec 3) (key : BitVec 16), s.Takes pOTP → key.toNat = 0x0A7C → s.otpOp = none → s.otpGate = 0 → (region.toNat = 5 ∨ region.toNat = 6) → s.otpLocked region.toNat = false → s.otpRegionMarginal region.toNat = false → s.otpCrcOk region.toNat = true → 
      Leads (exec (.otpLock region key) s) fun t => s.Frame t [] [(pOTP, 0x10), (pOTP, 0x3C)] [] [] ∧ t.otpOp = some (.lock region.toNat) ∧ t.flag pOTP OTP.CMD_STAT_BUSY = true) ∧
  (∀ (s : State) (w : Nat) (v weak : Word), s.otpOp = some (.program w v) → 
      Leads (exec (.otpCmdDone weak) s) fun t => (∀ i, t.otpWord i = if i = w then s.otpWord i ||| v else s.otpWord i) ∧ t.otpOp = none ∧ t.flag pOTP OTP.PG_EVT_CMD_DONE = true ∧ t.fld pOTP OTP.CMD_STAT_RESULT = (if v &&& weak = 0 then 0 else 5) ∧ s.RegsBut t [] [(pOTP, 0x10), (pOTP, 0x3C)] ∧ t.store = s.store ∧ t.aos = s.aos ∧ t.nvd = s.nvd ∧ t.code = s.code) ∧
  (∀ (s : State) (area : Fin 16) (format : BitVec 4) (key : BitVec 16), s.Takes pNVD → key.toNat = 0x6E1D → s.nvdOp = none → s.nvdProtected area.val false = false → s.fld pNVD NVD.LEN_BYTES ≤ 2032 → s.eraseOk = true → s.nvOk = true → 
      Leads (exec (.nvdWrite area format key) s) fun t => s.Frame t [] [(pNVD, 0x10), (pNVD, 0x2C)] [] [] ∧ t.nvdOp = some (.write area.val format.toNat) ∧ t.flag pNVD NVD.CMD_STAT_BUSY = true) ∧
  (∀ (s : State) (area : Fin 16) (key : BitVec 16), s.Takes pNVD → key.toNat = 0x6E1D → s.nvdOp = none → s.nvdProtected area.val true = false → 
      Leads (exec (.nvdRead area key) s) fun t => s.Frame t [] [(pNVD, 0x10), (pNVD, 0x2C)] [] [] ∧ t.nvdOp = some (.read area.val) ∧ t.flag pNVD NVD.CMD_STAT_BUSY = true) ∧
  (∀ (s : State) (area : Fin 16) (key : BitVec 16), s.Takes pNVD → key.toNat = 0x6E1D → s.nvdOp = none → s.nvdProtected area.val false = false → s.eraseOk = true → 
      Leads (exec (.nvdInvalidate area key) s) fun t => s.Frame t [] [(pNVD, 0x10), (pNVD, 0x2C)] [] [] ∧ t.nvdOp = some (.invalidate area.val) ∧ t.flag pNVD NVD.CMD_STAT_BUSY = true) ∧
  (∀ (s : State) (area : Nat) (ok : Bool), s.nvdOp = some (.invalidate area) → area ≠ 1 → 
      Leads (exec (.nvdCmdDone ok) s) fun t => (∀ a, t.nvdByte a = if a / 2048 = 2 * area ∨ a / 2048 = 2 * area + 1 then 0xFF else s.nvdByte a) ∧ t.nvdOp = none ∧ t.flag pNVD NVD.PG_EVT_CMD_DONE = true ∧ t.fld pNVD NVD.CMD_STAT_RESULT = 0 ∧ s.RegsBut t [] [(pNVD, 0x10), (pNVD, NVD.CMD_STAT_BUSY.off), (pNVD, NVD.DIRTY_PAGES.off)] ∧ t.store = s.store ∧ t.code = s.code) ∧
  (∀ (s : State) (key : BitVec 16), s.Takes pFLASH → key.toNat = 0x3E91 → (s.recovery = true ∨ s.flashEng ≠ none) → s.flashOp = none → (s.lockBit LOCK.STICKY_FLASH_ACTIVE && decide (0x80000 ≤ 4 * s.fld pFLASH FLASH.ADDR_WORD) == s.activeBank) = false → s.nvOk = true → s.codeWord (4 * s.fld pFLASH FLASH.ADDR_WORD) = 0xFFFFFFFF → 
      Leads (exec (.flashProgram key) s) fun t => s.Frame t [] [(pFLASH, 0x10), (pFLASH, 0x30), (pBOOT, 0x20)] [] [] ∧ t.flashOp = some (.program (4 * s.fld pFLASH FLASH.ADDR_WORD) (s.rd pFLASH 0x28)) ∧ t.flag pFLASH FLASH.CMD_STAT_BUSY = true ∧ t.flag pBOOT BOOT.BANK_STAT_CODE_DIRTY = true) ∧
  (∀ (s : State) (key : BitVec 16), s.Takes pFLASH → key.toNat = 0x3E91 → (s.recovery = true ∨ s.flashEng ≠ none) → s.flashOp = none → (s.lockBit LOCK.STICKY_FLASH_ACTIVE && decide (0x80000 ≤ 4 * s.fld pFLASH FLASH.ADDR_WORD) == s.activeBank) = false → s.eraseOk = true → 
      Leads (exec (.flashErase key) s) fun t => s.Frame t [] [(pFLASH, 0x10), (pFLASH, 0x30), (pBOOT, 0x20)] [] [] ∧ t.flashOp = some (.erase (4 * s.fld pFLASH FLASH.ADDR_WORD)) ∧ t.flag pFLASH FLASH.CMD_STAT_BUSY = true ∧ t.flag pBOOT BOOT.BANK_STAT_CODE_DIRTY = true) ∧
  (∀ (s : State) (v : BitVec 64) (key : BitVec 16), s.Takes pDBG → key.toNat = 0xD3B6 → 
      Leads (exec (.dbgNewChallenge v key) s) fun t => s.Frame t [] [(pDBG, 0x10), (pDBG, 0x28), (pDBG, 0x24)] [] [] ∧ t.dbg.challenge = v ∧ t.dbg.issued = true ∧ t.fld pDBG DBG.CHAL_LO_CHALLENGE = v.toNat % 2 ^ 32 ∧ t.fld pDBG DBG.CHAL_HI_CHALLENGE = v.toNat / 2 ^ 32) ∧
  (∀ (s : State) (key : BitVec 16), s.Takes pDBG → key.toNat = 0xD3B6 → s.dbg.state = .closed → s.dbg.checking = false → 
      Leads (exec (.dbgSubmit key) s) fun t => s.Frame t [] [(pDBG, 0x10), (pDBG, 0x28), (pDBG, 0x24), (pDBG, 0x30)] [] [] ∧ t.dbg.checking = true ∧ t.dbg.issued = false ∧ t.dbg.against = (if s.dbg.issued then some s.dbg.challenge else none) ∧ t.fld pDBG DBG.RESULT_CODE = 15) ∧
  (∀ (s : State) (code : Nat), s.live = true → s.dbg.checking = true → s.dbg.state = .closed → code = s.tokCheck pDBG 0x40 1 s.dbgMode (s.dbg.against.getD 0) s.dbg.against.isSome → 
      Leads (exec (.dbgTokenChecked) s) fun t => t.dbg.checking = false ∧ t.fld pDBG DBG.RESULT_CODE = code ∧ (code = 0 → t.dbg.state = .erasing ∧ t.boot.now.erasePending = true) ∧ (code ≠ 0 → t.dbg.state = .closed ∧ t.flag pDBG DBG.PG_EVT_REFUSED = true ∧ t.nvd = s.nvd) ∧ t.store = s.store ∧ t.aos = s.aos ∧ t.code = s.code ∧ t.otp = s.otp ∧ t.iram = s.iram) ∧
  (∀ (s : State), s.aonOn = true → s.dbg.state = .erasing → s.eraseOk = true → 
      Leads (exec (.dbgEraseDone) s) fun t => t.dbg.state = .opened ∧ t.flag pDBG DBG.PG_EVT_OPENED = true ∧ (∀ i, i < 22 → t.rd pDBG (0x40 + 4 * i) = 0 ∧ t.rd pUPD (0x60 + 4 * i) = 0) ∧ (∀ a, a / 2048 = 30 ∨ a / 2048 = 31 → t.nvdByte a = 0xFF) ∧ (∀ a, 4096 ≤ a → a / 2048 ≠ 30 → a / 2048 ≠ 31 → t.nvdByte a = s.nvdByte a) ∧ (∀ a, t.aosByte a = if a < 0x1C0 then s.aosByte a else 0) ∧ t.store = s.store ∧ t.code = s.code) ∧
  (∀ (s : State) (k : Engine), s.live = true → s.dbgOpen = true → (s.eng k).retired = false → 
      Leads (exec (.debugHalt k) s) fun t => s.Frame t [] [] [] [] ∧ (t.eng k).halted = true ∧ ∀ j, j ≠ k → t.eng j = s.eng j) ∧
  (∀ (s : State) (k : Engine), s.live = true → s.dbgOpen = true → 
      Leads (exec (.debugResume k) s) fun t => s.Frame t [] [] [] [] ∧ (t.eng k).halted = false ∧ ∀ j, j ≠ k → t.eng j = s.eng j) ∧
  (∀ (s : State) (a : Nat) (v : Word) (ok : Bool), s.live = true → s.flashOp = some (.program a v) → 
      Leads (exec (.flashCmdDone ok) s) fun t => t.code = (s.codeProgram a v).code ∧ t.flashOp = none ∧ t.fld pFLASH FLASH.CMD_STAT_RESULT = (if ok then 0 else 4) ∧ t.flag pFLASH FLASH.PG_EVT_CMD_DONE = true ∧ s.RegsBut t [] [(pFLASH, 0x10), (pFLASH, FLASH.CMD_STAT_BUSY.off)] ∧ t.store = s.store ∧ t.aos = s.aos ∧ t.nvd = s.nvd ∧ t.otp = s.otp) ∧
  (∀ (s : State) (a : Nat) (ok : Bool), s.live = true → s.flashOp = some (.erase a) → 
      Leads (exec (.flashCmdDone ok) s) fun t => t.code = (s.codeErase a).code ∧ t.flashOp = none ∧ t.fld pFLASH FLASH.CMD_STAT_RESULT = (if ok then 0 else 4) ∧ t.flag pFLASH FLASH.PG_EVT_CMD_DONE = true ∧ s.RegsBut t [] [(pFLASH, 0x10), (pFLASH, FLASH.CMD_STAT_BUSY.off)] ∧ t.store = s.store ∧ t.aos = s.aos ∧ t.nvd = s.nvd ∧ t.otp = s.otp)

/-- Commands that report a supply level (chapter 4). With AON running, VDDIO_CHANGE, VCONN_IN_LOST, SRC_SWITCH_VSYS, NV_INHIBIT_ASSERT, NV_INHIBIT_CLEAR, NV_STABLE, NV_STABLE_CLEAR and VSYS_WARN set or clear the status bit of their threshold, and record the event. Where AON does not run, VDDIO_CHANGE and VCONN_IN_LOST change no register. Each clause holds in the states and for the operands that its hypotheses name. -/
def Obligations.SupplyCommandsComplete : Prop :=
  (∀ (s : State) (mv : Nat), s.aonOn = true → 
      Leads (exec (.vddioChange mv) s) fun t => s.Frame t [] [(pSUP, 0x10), (pSUP, 0x0C)] [] [] ∧ t.flag pSUP SUP.PG_STAT_VDDIO_OK = decide (1500 < mv) ∧ t.flag pSUP SUP.PG_STAT_VDDIO_HI = decide (2500 < mv) ∧ (s.flag pSUP SUP.PG_STAT_VDDIO_OK = true → mv ≤ 1500 → t.flag pSUP SUP.PG_EVT_VDDIO_LOST = true) ∧ t.pins = { s.pins with vddioMv := mv }) ∧
  (∀ (s : State) (mv : Nat), s.aonOn = false → 
      Leads (exec (.vddioChange mv) s) fun t => s.Frame t [] [(pSUP, 0x10), (pSUP, 0x0C)] [] [] ∧ t.regs = s.regs ∧ t.pins = { s.pins with vddioMv := mv }) ∧
  (∀ (s : State) (mv : Nat), s.aonOn = true → mv < 4600 → 
      Leads (exec (.vconnInLost mv) s) fun t => s.Frame t [] ([(pSUP, 0x0C), (pSUP, 0x10)] ++ everyPortReg pCC 0x0C) [] [] ∧ t.flag pSUP SUP.PG_STAT_VCONN_OK = false ∧ ((∃ n, s.flag (pCC n) CC.PG_STAT_VCONN_ON = true) → t.flag pSUP SUP.PG_EVT_VCONN_LOST = true) ∧ ∀ n, t.flag (pCC n) CC.PG_STAT_VCONN_ON = false) ∧
  (∀ (s : State) (mv : Nat), s.aonOn = true → 4600 ≤ mv → 
      Leads (exec (.vconnInLost mv) s) fun t => s.Frame t [] ([(pSUP, 0x0C), (pSUP, 0x10)] ++ everyPortReg pCC 0x0C) [] [] ∧ t.flag pSUP SUP.PG_STAT_VCONN_OK = true ∧ s.RegsBut t [] [(pSUP, 0x0C)]) ∧
  (∀ (s : State) (mv : Nat), s.aonOn = true → s.fld pSUP SUP.PG_STAT_SRC = 1 → 3000 ≤ mv → 
      Leads (exec (.srcSwitchVsys mv) s) fun t => s.Frame t [] [(pSUP, 0x10), (pSUP, 0x0C)] [] [] ∧ t.fld pSUP SUP.PG_STAT_SRC = 0 ∧ t.flag pSUP SUP.PG_EVT_SRC_CHANGE = true ∧ t.pins = { s.pins with vsysMv := mv }) ∧
  (∀ (s : State) (mv : Nat), s.aonOn = true → mv < s.nvInhMv → s.flag pSUP SUP.PG_STAT_NV_INHIBIT = false → 
      Leads (exec (.nvInhibitAssert mv) s) fun t => t.flag pSUP SUP.PG_STAT_NV_INHIBIT = true ∧ t.flag pSUP SUP.PG_STAT_NV_STABLE = false ∧ t.flag pSUP SUP.PG_EVT_NV_INH = true ∧ t.otp = s.otp ∧ t.code = s.code ∧ t.store = s.store ∧ t.aos = s.aos) ∧
  (∀ (s : State) (mv : Nat), s.aonOn = true → s.nvInhMv + s.nvHystMv ≤ mv → 
      Leads (exec (.nvInhibitClear mv) s) fun t => s.Frame t [] [(pSUP, 0x0C)] [] [] ∧ t.flag pSUP SUP.PG_STAT_NV_INHIBIT = false) ∧
  (∀ (s : State) (mv : Nat), s.aonOn = true → s.nvInhMv + s.nvHystMv ≤ mv → 
      Leads (exec (.nvStable mv) s) fun t => s.Frame t [] [(pSUP, 0x0C)] [] [] ∧ t.flag pSUP SUP.PG_STAT_NV_STABLE = true) ∧
  (∀ (s : State) (mv : Nat), s.aonOn = true → mv < s.nvInhMv + s.nvHystMv → 
      Leads (exec (.nvStableClear mv) s) fun t => s.Frame t [] [(pSUP, 0x0C)] [] [] ∧ t.flag pSUP SUP.PG_STAT_NV_STABLE = false) ∧
  (∀ (s : State) (mv : Nat), s.aonOn = true → s.flag pSUP SUP.PG_STAT_WARN = false → mv < s.warnMv → 
      Leads (exec (.vsysWarn mv) s) fun t => s.Frame t [] [(pSUP, 0x0C), (pSUP, 0x10)] [] [] ∧ t.flag pSUP SUP.PG_STAT_WARN = true ∧ t.flag pSUP SUP.PG_EVT_WARN = true) ∧
  (∀ (s : State) (mv : Nat), s.aonOn = true → s.flag pSUP SUP.PG_STAT_WARN = true → s.warnMv + 50 ≤ mv → 
      Leads (exec (.vsysWarn mv) s) fun t => s.Frame t [] [(pSUP, 0x0C), (pSUP, 0x10)] [] [] ∧ t.flag pSUP SUP.PG_STAT_WARN = false ∧ t.flag pSUP SUP.PG_EVT_WARN = s.flag pSUP SUP.PG_EVT_WARN)

/-- Resets of the whole device (R16, R26, R70, R72, R81, R92). Each leaves the device in cold reset with the tick count at zero, and keeps OTP, code flash and data flash; the cause is held for the boot that follows. Each clause holds in the states and for the operands that its hypotheses name. -/
def Obligations.PowerResetsComplete : Prop :=
  (∀ (s : State), 
      Leads (exec (.por) s) fun t => t.phase = .reset ∧ t.tick = 0 ∧ t.sticky = 0 ∧ t.rst.causes = 1 ∧ (s.otpOp = none → t.otp = s.otp) ∧ (s.flashOp = none → t.code = s.code) ∧ (s.nvdOp = none → t.nvd = s.nvd) ∧ t.dbg.state = .closed) ∧
  (∀ (s : State), s.phase ≠ .ship → 
      Leads (exec (.nrstLow) s) fun t => t.phase = .reset ∧ t.tick = 0 ∧ t.sticky = 0 ∧ t.rst.causes.getLsbD 1 = true ∧ t.pins.nrstLow = true ∧ (s.otpOp = none → t.otp = s.otp) ∧ (s.flashOp = none → t.code = s.code) ∧ (s.nvdOp = none → t.nvd = s.nvd) ∧ t.dbg.state = .closed) ∧
  (∀ (s : State) (mv : Nat), s.aonOn = true → mv < 2750 → s.fld pSUP SUP.PG_STAT_SRC = 0 → 
      Leads (exec (.brownOut mv) s) fun t => t.phase = .reset ∧ t.tick = 0 ∧ t.sticky = 0 ∧ t.rst.causes.getLsbD 2 = true ∧ t.rst.browned = true ∧ (s.otpOp = none → t.otp = s.otp) ∧ (s.flashOp = none → t.code = s.code) ∧ (s.nvdOp = none → t.nvd = s.nvd)) ∧
  (∀ (s : State) (n : Port), s.phase = .ship → 
      Leads (exec (.shipWake 1 n) s) fun t => t.phase = .reset ∧ t.tick = 0 ∧ t.rst.causes = 1 ∧ t.rst.shipWake = some (BitVec.ofNat 32 (2 + 128 + 65536 * n.val)) ∧ (s.otpOp = none → t.otp = s.otp) ∧ (s.flashOp = none → t.code = s.code) ∧ (s.nvdOp = none → t.nvd = s.nvd)) ∧
  (∀ (s : State) (n : Port), s.phase = .ship → 
      Leads (exec (.shipWake 6 n) s) fun t => t.phase = .reset ∧ t.tick = 0 ∧ t.rst.causes = 1 ∧ t.rst.shipWake = some 192 ∧ (s.otpOp = none → t.otp = s.otp) ∧ (s.flashOp = none → t.code = s.code) ∧ (s.nvdOp = none → t.nvd = s.nvd)) ∧
  (∀ (s : State) (n : Port), s.phase = .run → s.shipEntry = true → 
      Leads (exec (.shipWake 1 n) s) fun t => t.phase = .run ∧ t.aon.entry = none ∧ t.fld pAON AON.MODE_STAT_RESULT = 4 ∧ t.flag pAON AON.PG_EVT_MODE_DONE = true)

/-- The mains companion of the LN-6416X (R82 to R87). HV_RISE raises CONV_EN once; a line cycle is measured and counted towards its state; MAINS_LOSS is entered at once; a completed write clears SYNC_PEND and puts the thresholds and budgets written in force in the companion; the loss of the barrier link raises CONV_EN and LINK_ERR and sets the sag budget; its recovery shows the budget of the line state again. Each clause holds in the states and for the operands that its hypotheses name. -/
def Obligations.MainsCommandsComplete : Prop :=
  (∀ (s : State), s.part.x = true → s.mains.hvSeen = false → 
      Leads (exec (.hvRise) s) fun t => s.Frame t [] [] [] [] ∧ t.mains = { s.mains with hvSeen := true, conv := true } ∧ t.regs = s.regs) ∧
  (∀ (s : State) (rms peak freq : BitVec 16) (dc : Bool), s.part.x = true → s.aonOn = true → s.mains.link = true → s.mains.lowV ≤ rms.toNat → s.mains.sagV ≤ rms.toNat → s.mains.line = 0 → s.fld pMAINS MAINS.STATE_LINE = 0 → 
      Leads (exec (.lineCycleEnd rms peak freq dc) s) fun t => s.Frame t [] [(pMAINS, 0x24), (pMAINS, 0x20), (pMAINS, 0x28), (pMAINS, 0x48), (pMAINS, 0x10)] [] [] ∧ t.fld pMAINS MAINS.LINE_V_RMS = rms.toNat ∧ t.fld pMAINS MAINS.LINE_V_PEAK = peak.toNat ∧ t.fld pMAINS MAINS.LINE_F_FREQ = (if dc then 0 else freq.toNat) % 2 ^ MAINS.LINE_F_FREQ.w ∧ t.flag pMAINS MAINS.LINE_F_DC = dc ∧ t.fld pMAINS MAINS.STATE_LINE = 0 ∧ t.mains.below = 0) ∧
  (∀ (s : State) (rms peak freq : BitVec 16) (dc : Bool), s.part.x = true → s.aonOn = true → s.mains.link = true → rms.toNat < s.mains.lowV → s.mains.sagV ≤ rms.toNat → s.mains.line = 0 → s.fld pMAINS MAINS.STATE_LINE = 0 → max 1 s.mains.cyc ≤ s.mains.below + 1 → 
      Leads (exec (.lineCycleEnd rms peak freq dc) s) fun t => s.Frame t [] [(pMAINS, 0x24), (pMAINS, 0x20), (pMAINS, 0x28), (pMAINS, 0x48), (pMAINS, 0x10)] [] [] ∧ t.fld pMAINS MAINS.STATE_LINE = 1 ∧ t.flag pMAINS MAINS.PG_EVT_STATE_CHG = true ∧ t.fld pMAINS MAINS.BUDGET_POWER = s.mains.budLow % 2 ^ MAINS.BUDGET_POWER.w) ∧
  (∀ (s : State), s.part.x = true → s.aonOn = true → s.mains.link = true → s.fld pMAINS MAINS.STATE_LINE ≠ 3 → 
      Leads (exec (.mainsLoss) s) fun t => s.Frame t [] [(pMAINS, 0x24), (pMAINS, 0x20), (pMAINS, 0x28), (pMAINS, 0x48), (pMAINS, 0x10)] [] [] ∧ t.mains.line = 3 ∧ t.fld pMAINS MAINS.STATE_LINE = 3 ∧ t.flag pMAINS MAINS.PG_EVT_STATE_CHG = true ∧ t.flag pMAINS MAINS.PG_EVT_LOSS = true ∧ t.fld pMAINS MAINS.BUDGET_POWER = s.mains.budLoss % 2 ^ MAINS.BUDGET_POWER.w) ∧
  (∀ (s : State), s.part.x = true → s.aonOn = true → s.mains.link = true → 
      Leads (exec (.mainsWriteSync) s) fun t => s.Frame t [] [(pMAINS, 0x48), (pMAINS, 0x0C)] [] [] ∧ t.flag pMAINS MAINS.PG_STAT_SYNC_PEND = false ∧ t.mains.lowV = s.fld pMAINS MAINS.LOW_V_LEVEL ∧ t.mains.sagV = s.fld pMAINS MAINS.SAG_V_LEVEL ∧ t.mains.cyc = s.fld pMAINS MAINS.SAG_TIME_SAG_CYC ∧ t.mains.budLow = s.fld pMAINS MAINS.BUD_LOW_POWER ∧ t.mains.budSag = s.fld pMAINS MAINS.BUD_SAG_POWER ∧ t.mains.budLoss = s.fld pMAINS MAINS.BUD_LOSS_POWER ∧ t.fld pMAINS MAINS.STATE_LINE = s.fld pMAINS MAINS.STATE_LINE) ∧
  (∀ (s : State), s.part.x = true → s.aonOn = true → s.mains.link = true → 
      Leads (exec (.barrierLinkLoss) s) fun t => s.Frame t [] [(pMAINS, 0x48), (pMAINS, 0x10)] [] [] ∧ t.mains.link = false ∧ t.mains.conv = true ∧ t.flag pMAINS MAINS.PG_EVT_LINK_ERR = true ∧ t.fld pMAINS MAINS.BUDGET_POWER = s.fld pMAINS MAINS.BUD_SAG_POWER) ∧
  (∀ (s : State), s.part.x = true → s.aonOn = true → s.mains.line = 1 → 
      Leads (exec (.barrierLinkRecovery) s) fun t => s.Frame t [] [(pMAINS, 0x10), (pMAINS, 0x24), (pMAINS, 0x20), (pMAINS, 0x28), (pMAINS, 0x48)] [] [] ∧ t.mains.link = true ∧ t.mains.convFail = false ∧ t.fld pMAINS MAINS.BUDGET_POWER = s.mains.budLow % 2 ^ MAINS.BUDGET_POWER.w ∧ (s.mains.convFail = true → t.flag pMAINS MAINS.PG_EVT_CONV_FAIL = true))

/-- Mode requests and entries (R76, R77, R88, R89). RUN and DOZE take effect at the write; STANDBY, SHIP and ZERO are held until the engines are idle after the next boundary, and then CORE sleeps; an engine still busy ends the request with BUSY; the companion's answer or its absence decides ZERO. Each clause holds in the states and for the operands that its hypotheses name. -/
def Obligations.ModeRequestsComplete : Prop :=
  (∀ (s : State) (key : BitVec 16), s.Takes pAON → key.toNat = 0x5A3C → s.aon.entry = none → 
      Leads (exec (.modeReqRun key) s) fun t => s.Frame t [] [(pAON, 0x10), (pAON, 0x24)] [] [] ∧ t.fld pAON AON.MODE_STAT_MODE = 0 ∧ t.phase = .run) ∧
  (∀ (s : State) (key : BitVec 16), s.Takes pAON → key.toNat = 0x5A3C → s.aon.entry = none → 
      Leads (exec (.modeReqDoze key) s) fun t => s.Frame t [] [(pAON, 0x10), (pAON, 0x24)] [] [] ∧ t.fld pAON AON.MODE_STAT_MODE = 1) ∧
  (∀ (s : State) (key : BitVec 16), s.Takes pAON → key.toNat = 0x5A3C → s.aon.entry = none → s.role = .solo → allPorts.any s.portActive = false → s.wakeActive 2 = false → s.dbg.state ≠ .erasing → s.flashOp = none → s.nvdOp = none → 
      Leads (exec (.modeReqStandby key) s) fun t => s.Frame t [] [(pAON, 0x10), (pAON, 0x24)] [] [] ∧ t.aon.entry = some (2, 0)) ∧
  (∀ (s : State) (key : BitVec 16), s.Takes pAON → key.toNat = 0x5A3C → s.aon.entry = none → s.role = .solo → allPorts.any s.portActive = false → s.wakeActive 3 = false → s.dbg.state ≠ .erasing → s.flashOp = none → s.nvdOp = none → 
      Leads (exec (.modeReqShip key) s) fun t => s.Frame t [] [(pAON, 0x10), (pAON, 0x24)] [] [] ∧ t.aon.entry = some (3, 0)) ∧
  (∀ (s : State) (key : BitVec 16), s.Takes pAON → key.toNat = 0x5A3C → s.aon.entry = none → s.part.x = true → s.role = .solo → allPorts.any s.portActive = false → s.wakeActive 4 = false → s.dbg.state ≠ .erasing → s.flashOp = none → s.nvdOp = none → 
      Leads (exec (.modeReqZero key) s) fun t => s.Frame t [] [(pAON, 0x10), (pAON, 0x24)] [] [] ∧ t.aon.entry = some (4, 0)) ∧
  (∀ (s : State) (c : Nat), s.aon.entry = some (2, c) → s.live = true → 1 ≤ c → s.engsIdle = true → 
      Leads (exec (.modeEntry) s) fun t => s.Frame t [] [(pCLK, 0x0C), (pAON, 0x24), (pAON, 0x10)] [] [] ∧ t.phase = .sleep ∧ t.fld pAON AON.MODE_STAT_MODE = 2 ∧ t.aon.entry = none ∧ t.flag pAON AON.PG_EVT_MODE_DONE = true ∧ t.flag pCLK CLK.PG_STAT_RUNNING = false) ∧
  (∀ (s : State) (m c : Nat), s.aon.entry = some (m, c) → s.live = true → 3 ≤ c → s.engsIdle = false → 
      Leads (exec (.modeEntryBusy) s) fun t => s.Frame t [] [(pAON, 0x10), (pAON, 0x24)] [] [] ∧ t.phase = .run ∧ t.aon.entry = none ∧ t.fld pAON AON.MODE_STAT_RESULT = 5 ∧ t.flag pAON AON.PG_EVT_MODE_DONE = true) ∧
  (∀ (s : State), s.phase = .sleep → s.aon.zeroAsked = true → 
      Leads (exec (.barrierConfirm) s) fun t => s.Frame t [] [(pAON, 0x10), (pAON, 0x24), (pSUP, 0x10), (pSUP, 0x0C)] [] [] ∧ t.fld pAON AON.MODE_STAT_MODE = 4 ∧ t.fld pSUP SUP.PG_STAT_SRC = 2 ∧ t.flag pSUP SUP.PG_EVT_SRC_CHANGE = true ∧ t.mains.barrier = true ∧ t.mains.conv = false ∧ t.phase = .sleep ∧ t.aon.zeroAsked = false) ∧
  (∀ (s : State), s.phase = .sleep → s.aon.zeroAsked = true → 
      Leads (exec (.barrierTimeout) s) fun t => s.Frame t [] [(pAON, 0x10), (pAON, 0x24)] [] [] ∧ t.fld pAON AON.MODE_STAT_MODE = s.fld pAON AON.MODE_STAT_MODE ∧ t.fld pAON AON.MODE_STAT_RESULT = 6 ∧ t.flag pAON AON.PG_EVT_MODE_DONE = true ∧ t.phase = .sleep ∧ t.aon.zeroAsked = false) ∧
  (∀ (s : State) (mv : Nat), s.phase = .sleep → s.mode = 4 → s.mains.conv = true → s.mains.chain = false → 3000 ≤ mv → 
      Leads (exec (.zeroVsysValid mv) s) fun t => t.fld pAON AON.MODE_STAT_MODE = 2 ∧ t.fld pSUP SUP.PG_STAT_SRC = 0 ∧ t.phase = .sleep ∧ t.mains.barrier = false) ∧
  (∀ (s : State) (mv : Nat), s.phase = .sleep → s.mode = 4 → s.mains.conv = true → s.mains.chain = true → 3000 ≤ mv → 
      Leads (exec (.zeroVsysValid mv) s) fun t => t.fld pSUP SUP.PG_STAT_SRC = 0 ∧ t.phase = .run ∧ t.fld pAON AON.MODE_STAT_MODE = 0 ∧ t.mains.barrier = false ∧ t.mains.chain = false) ∧
  (∀ (s : State), s.phase = .sleep → s.mode = 4 → s.mains.chain = true → s.mains.link = true → 
      Leads (exec (.convFail) s) fun t => s.Frame t [] [(pMAINS, 0x10)] [] [] ∧ t.mains.conv = false ∧ t.mains.chain = false ∧ t.flag pMAINS MAINS.PG_EVT_CONV_FAIL = true ∧ t.phase = .sleep ∧ t.mode = 4)

/-- Wakes (R78 to R80, R89). In STANDBY an enabled source wakes CORE, which is seen in LAST_WAKE; in ZERO it starts the converter and the device stays asleep; the wake timer and the host's address are sources of their own, and an attach-watch sample that sees no partner changes the port's pin levels and LINE. Each clause holds in the states and for the operands that its hypotheses name. -/
def Obligations.WakesComplete : Prop :=
  (∀ (s : State) (src : Fin 6) (n : Port), s.phase = .sleep → s.mode = 2 → s.wakeOn src.val = true → 
      Leads (exec (.wake src n) s) fun t => t.phase = .run ∧ t.fld pAON AON.MODE_STAT_MODE = 0 ∧ t.fld pAON AON.LAST_WAKE_SRC = 2 ^ src.val ∧ t.fld pAON AON.LAST_WAKE_PORT = (if src.val ≤ 1 then n.val else 0) ∧ t.tick = s.tick) ∧
  (∀ (s : State) (src : Fin 6) (n : Port), s.phase = .sleep → s.mode = 4 → s.wakeOn src.val = true → s.aon.wakes = 0 → 
      Leads (exec (.zeroWake src n) s) fun t => s.Frame t [] [(pAON, 0x2C)] [] [] ∧ t.phase = .sleep ∧ t.mode = 4 ∧ t.mains.conv = true ∧ t.mains.chain = true ∧ t.aon.wakes = BitVec.ofNat 6 (2 ^ src.val) ∧ t.fld pAON AON.LAST_WAKE_PORT = (if src.val ≤ 1 then n.val else s.fld pAON AON.LAST_WAKE_PORT)) ∧
  (∀ (s : State), s.phase = .sleep → s.mode = 2 → s.fld pAON AON.WAKE_TIMER_MS_PERIOD ≠ 0 → s.wakeOn 4 = true → 
      Leads (exec (.wakeTimer) s) fun t => t.phase = .run ∧ t.fld pAON AON.MODE_STAT_MODE = 0 ∧ t.fld pAON AON.LAST_WAKE_SRC = 16 ∧ t.tick = s.tick) ∧
  (∀ (s : State), s.phase = .sleep → s.mode = 2 → s.flag pSUP SUP.PG_STAT_VDDIO_OK = true → s.wakeOn 2 = true → 
      Leads (exec (.hostAddressWake) s) fun t => t.phase = .run ∧ t.fld pAON AON.MODE_STAT_MODE = 0 ∧ t.fld pAON AON.LAST_WAKE_SRC = 4 ∧ t.tick = s.tick) ∧
  (∀ (s : State) (n : Port) (mv1 mv2 : Nat), s.phase = .sleep → bitAt (s.fld pAON AON.WATCH_CFG_PORTS) n.val = true → s.ccRests n = true → (s.port n).cc.watch = 0 → 
      Leads (exec (.attachWatchSample [(n, mv1, mv2)]) s) fun t => s.RegsBut t [] [(pCC n, CC.LINE_CC1_V.off)] ∧ t.fld (pCC n) CC.LINE_CC1_V = mv1 / 20 % 2048 ∧ t.store = s.store ∧ t.aos = s.aos ∧ s.FlashSame t ∧ (t.port n).cc.cc1Mv = mv1 ∧ (t.port n).cc.cc2Mv = mv2 ∧ t.phase = .sleep ∧ ∀ m, m ≠ n → t.port m = s.port m)

/-- Cold boot (Table 5.2), WARM reset and the end of a PORT reset. With a valid VSYS, or else a valid VBUS, and TESTEN low a held reset is released: CORE runs, the source, the straps and the causes are shown and RESET_DONE is set, and OTP is as it was. Without a valid source, with TESTEN high, or below 2.85 V after a brown-out, it goes on holding. A WARM reset ends once the clock runs, with its causes, RESET_DONE, WARM_ENTRY and BOOT_TIME_US shown; until then it waits. A port held after a PORT reset leaves Disabled below 0.8 V. Each clause holds in the states and for the operands that its hypotheses name. -/
def Obligations.BootCommandsComplete : Prop :=
  (∀ (s : State) (x : BootIn), s.phase = .reset → x.testen = false → (s.rst.browned = true → 2850 ≤ x.vsys) → s.rst.onVbus = false → 2600 ≤ x.vsys → 
      Leads (exec (.coldBoot x) s) fun t => t.phase = .run ∧ t.fld pSUP SUP.PG_STAT_SRC = 0 ∧ t.fld pSYS SYS.PG_STAT_ROLE = (majority (strapOf x.role1)).toNat * 2 + (majority (strapOf x.role0)).toNat ∧ t.fld pHOST HOST.ADDR_ADDR = 0x28 + ((majority (strapOf x.ad1)).toNat * 2 + (majority (strapOf x.ad0)).toNat) ∧ t.rd pSYS 0x28 = s.rst.causes.setWidth 32 ∧ t.flag pSYS SYS.PG_EVT_RESET_DONE = true ∧ t.rst.causes = 0 ∧ t.otp = s.otp ∧ t.otpMargin = s.otpMargin ∧ t.code = s.code) ∧
  (∀ (s : State) (x : BootIn), s.phase = .reset → x.testen = false → s.rst.browned = false → s.rst.onVbus = false → x.vsys < 2600 → (∃ n, 4000 ≤ x.vbus.get n) → 
      Leads (exec (.coldBoot x) s) fun t => t.phase = .run ∧ t.fld pSUP SUP.PG_STAT_SRC = 1 ∧ t.rd pSYS 0x28 = s.rst.causes.setWidth 32 ∧ t.flag pSYS SYS.PG_EVT_RESET_DONE = true ∧ t.rst.causes = 0) ∧
  (∀ (s : State) (x : BootIn), s.phase = .reset → x.testen = false → s.rst.onVbus = false → x.vsys < 2600 → (∀ n, x.vbus.get n < 4000) → 
      Leads (exec (.coldBoot x) s) fun t => t.phase = .reset ∧ t.regs = s.regs ∧ t.pins.vsysMv = x.vsys) ∧
  (∀ (s : State) (x : BootIn), s.phase = .reset → s.rst.browned = true → x.vsys < 2850 → 
      Leads (exec (.coldBoot x) s) fun t => t.phase = .reset ∧ t.regs = s.regs ∧ t.rst = s.rst) ∧
  (∀ (s : State) (x : BootIn), s.phase = .reset → x.testen = true → 
      Leads (exec (.coldBoot x) s) fun t => t.phase = .reset ∧ t.regs = s.regs ∧ t.pins.testen = true) ∧
  (∀ (s : State) (us : BitVec 24), s.phase = .warm → s.flag pCLK CLK.PG_STAT_RUNNING = true → 
      Leads (exec (.warmReset us) s) fun t => t.phase = .run ∧ t.rd pSYS 0x28 = s.rst.causes.setWidth 32 ∧ t.flag pSYS SYS.PG_EVT_RESET_DONE = true ∧ t.rst.causes = 0 ∧ s.sticky &&& ~~~t.sticky = 0 ∧ t.otp = s.otp ∧ t.code = s.code ∧ t.tick = s.tick ∧ t.flag pBOOT BOOT.PG_STAT_WARM_ENTRY = true ∧ t.fld pBOOT BOOT.BOOT_TIME_US_TIME = us.toNat) ∧
  (∀ (s : State) (us : BitVec 24), s.phase = .warm → s.flag pCLK CLK.PG_STAT_RUNNING = false → 
      Leads (exec (.warmReset us) s) fun t => t = s) ∧
  (∀ (s : State) (n : Port) (mv : Nat), s.aonOn = true → (s.port n).cc.rstHold = true → mv < 800 → 
      Leads (exec (.portResetVbusLow n mv) s) fun t => s.Frame t [pPDL n, pSHARE] [(pCC n, 0x10), (pCC n, 0x0C), (pVDM n, 0x40), (pVDM n, 0x10), (pVDM n, 0x34), (pVDM n, 0x60), (pPOL n, 0x0C), (pPOL n, 0x34), (pPOL n, 0x10), (pPOL n, 0x2C), (pGUARD n, 0x0C)] [portBytes n, descBytes] [snapBytes n] ∧ (t.port n).cc.rstHold = false ∧ (t.port n).vbusMv = mv ∧ (s.ccState n = .disabled → s.inf (pCC n) PG.CTRL_ENABLE = 1 → s.ccTwin n ≠ 2 → t.ccState n = s.unattachedFor n) ∧ ∀ m, m ≠ n → t.port m = s.port m)

/-- GPIO and the motion pin (R58, R60). An edge that the pad's configuration selects sets the pad's event; OUT_SET and OUT_CLR change only the bits written as 1; a write of PIN_CFG ends the hold of its pad; MOTN sets its event. That a held pad follows the INV and EDGE of PIN_CFG is the model's choice (log entry 94). Each clause holds in the states and for the operands that its hypotheses name. -/
def Obligations.PinCommandsComplete : Prop :=
  (∀ (s : State) (i : Fin 8) (level : Option Bool), s.Takes pGPIO → s.enabled pGPIO = true → bitAt s.gpioIn i.val = false → bitAt (s.boardPad i level).gpioIn i.val = true → bitAt (s.pinWord i) 10 = true → 
      Leads (exec (.gpioEdge i level) s) fun t => s.Frame t [] [(pGPIO, 0x10)] [] [] ∧ (t.rd pGPIO 0x10).getLsbD i.val = true ∧ t.pins = (s.boardPad i level).pins) ∧
  (∀ (s : State) (i : Fin 8) (level : Option Bool), s.Takes pGPIO → s.enabled pGPIO = true → bitAt s.gpioIn i.val = true → bitAt (s.boardPad i level).gpioIn i.val = false → bitAt (s.pinWord i) 11 = true → 
      Leads (exec (.gpioEdge i level) s) fun t => s.Frame t [] [(pGPIO, 0x10)] [] [] ∧ (t.rd pGPIO 0x10).getLsbD i.val = true ∧ t.pins = (s.boardPad i level).pins) ∧
  (∀ (s : State) (v : BitVec 8), s.Takes pGPIO → 
      Leads (exec (.gpioOutSet v) s) fun t => s.Frame t [] [(pGPIO, 0x10), (pGPIO, 0x40)] [] [] ∧ t.fld pGPIO GPIO.OUT_LEVEL = (s.fld pGPIO GPIO.OUT_LEVEL ||| v.toNat)) ∧
  (∀ (s : State) (v : BitVec 8), s.Takes pGPIO → 
      Leads (exec (.gpioOutClr v) s) fun t => s.Frame t [] [(pGPIO, 0x10), (pGPIO, 0x40)] [] [] ∧ t.fld pGPIO GPIO.OUT_LEVEL = (s.fld pGPIO GPIO.OUT_LEVEL &&& (255 - v.toNat))) ∧
  (∀ (s : State) (i : Fin 8) (v : Word), s.Takes pGPIO → s.locked pGPIO = false → 
      Leads (exec (.pinCfgWrite i v) s) fun t => s.Frame t [pGPIO] [] [] [] ∧ t.rd pGPIO (0x20 + 4 * i.val) = (v &&& 0x1F7F) ∧ bitAt (t.fld pGPIO GPIO.PG_STAT_HELD) i.val = false) ∧
  (∀ (s : State), s.live = true → 
      Leads (exec (.motnAsserted) s) fun t => s.Frame t [] [(pSYS, 0x10)] [] [] ∧ t.flag pSYS SYS.PG_EVT_MOTN = true ∧ t.pins = { s.pins with motn := true } ∧ t.aon.motnAt = some s.tick)

/-- The central store's scrub and banks (R145 to R149). A check of a sound word moves on to the next, and at the end of the walk to the next cycle, with the period then programmed; a byte of wrong parity is recorded with requester 8; a rewrite test that fails makes the bank faulty; a migration that ends frees the BUSY bit; a RETIRE command retires its bank and starts the migration. None of them changes a byte of the store as it is read. Each clause holds in the states and for the operands that its hypotheses name. -/
def Obligations.StoreCommandsComplete : Prop :=
  (∀ (s : State) (p : Nat), s.live = true → s.st.scrubPos = p → s.scrubSeg (p / 1024) = some (p / 1024) → (s.scrubSeg ((p + 1) / 1024)).isSome = true → s.st.bad = [] → 
      Leads (exec (.scrubCheck 0) s) fun t => s.Frame t [pBANK] [(pSTORE, 0x10), (pSTORE, 0x28), (pSTORE, 0x2C), (pSTORE, 0x30), (pSTORE, 0x0C), (pSTORE, 0x24)] [] [] ∧ t.st.scrubPos = p + 1 ∧ t.st.bad = [] ∧ t.flag pSTORE STORE.PG_EVT_PARITY = s.flag pSTORE STORE.PG_EVT_PARITY) ∧
  (∀ (s : State) (p : Nat) (wrong : BitVec 4), s.live = true → s.st.scrubPos = p → s.scrubSeg (p / 1024) = some (p / 1024) → wrong ≠ 0 → 
      Leads (exec (.scrubCheck wrong) s) fun t => s.Frame t [pBANK] [(pSTORE, 0x10), (pSTORE, 0x28), (pSTORE, 0x2C), (pSTORE, 0x30), (pSTORE, 0x0C), (pSTORE, 0x24)] [] [] ∧ t.flag pSTORE STORE.PG_EVT_PARITY = true ∧ t.fld pSTORE STORE.LAST_ERR_REQ = 8 ∧ (∀ i : Fin 4, wrong.getLsbD i.val = true → 4 * s.wordName p + i.val ∈ t.st.bad)) ∧
  (∀ (s : State) (p : Nat), s.live = true → s.st.scrubPos = p → s.scrubSeg (p / 1024) = some (p / 1024) → s.scrubSeg ((p + 1) / 1024) = none → s.st.bad = [] → 
      Leads (exec (.scrubCheck 0) s) fun t => s.Frame t [pBANK] [(pSTORE, 0x10), (pSTORE, 0x28), (pSTORE, 0x2C), (pSTORE, 0x30), (pSTORE, 0x0C), (pSTORE, 0x24)] [] [] ∧ t.st.scrubPos = 0 ∧ t.st.scrubMs = s.scrubMs ∧ t.flag pSTORE STORE.PG_EVT_SCRUB_DONE = true) ∧
  (∀ (s : State) (e : WatchEnt) (l : List WatchEnt), s.live = true → s.st.watch = e :: l → e.tested = false → bitAt (s.fld pBANK BANK.FAULTY_BANKS) (s.wordBank e.word) = false → s.wordBank e.word < 16 → 
      Leads (exec (.rewriteTest false) s) fun t => s.Frame t [] [(pSTORE, 0x10), (pSTORE, 0x0C), (pBANK, 0x24), (pBANK, 0x20), (pBANK, 0x2C)] [] [] ∧ bitAt (t.fld pBANK BANK.FAULTY_BANKS) (s.wordBank e.word) = true ∧ t.flag pSTORE STORE.PG_EVT_FAULTY = true) ∧
  (∀ (s : State), s.live = true → 
      Leads (exec (.rewriteTest true) s) fun t => s.Frame t [] [(pSTORE, 0x10), (pSTORE, 0x0C), (pBANK, 0x24), (pBANK, 0x20), (pBANK, 0x2C)] [] [] ∧ t.regs = s.regs) ∧
  (∀ (s : State) (b : Nat), s.live = true → s.st.migrating = some b → s.fld pBANK BANK.FAULTY_BANKS = 0 → 
      Leads (exec (.migrateDone) s) fun t => s.Frame t [pBANK] [(pSTORE, 0x10), (pSTORE, 0x0C)] [] [] ∧ t.flag pSTORE STORE.PG_STAT_MIGRATING = false ∧ t.flag pSTORE STORE.PG_EVT_MIGRATE_DONE = true ∧ t.flag pBANK BANK.CMD_STAT_BUSY = false ∧ t.st.migrating = none) ∧
  (∀ (s : State) (bank : Fin 16) (key : BitVec 16), s.Takes pBANK → key.toNat = 0xB4A7 → s.st.migrating = none → s.bankRetired bank.val = false → s.fld pSTORE STORE.PG_STAT_RETIRED < 2 → 
      Leads (exec (.bankCmdRetire bank key) s) fun t => s.Frame t [] [(pBANK, 0x10), (pBANK, 0x2C), (pBANK, 0x20), (pSTORE, 0x0C)] [] [] ∧ t.bankRetired bank.val = true ∧ t.st.migrating = some bank.val ∧ t.flag pBANK BANK.CMD_STAT_BUSY = true ∧ t.fld pBANK BANK.CMD_STAT_RESULT = 0 ∧ t.fld pSTORE STORE.PG_STAT_RETIRED = s.fld pSTORE STORE.PG_STAT_RETIRED + 1)

/-- The tick (chapter 6). A boundary counts one tick modulo 2^48 in RUN and during a WARM reset; the dispatch point puts the shedding level of the last boundary in force; loss and return of the reference set their bits, and 1 ms without it ends in a WARM reset; an overrun preempts the task of its engine alone; the watchdogs order WARM resets; a firmware post joins the posts. Each clause holds in the states and for the operands that its hypotheses name. -/
def Obligations.TickAndClockComplete : Prop :=
  (∀ (s : State) (x : TickIn), s.phase = .run → s.flag pCLK CLK.PG_STAT_RUNNING = true → 
      Leads (exec (.tickBoundary x) s) fun t => t.tick = (s.tick + 1) % 2 ^ 48 ∧ t.pins.motn = x.motn ∧ t.aon.entry = s.aon.entry.map (fun e => (e.1, e.2 + 1))) ∧
  (∀ (s : State) (x : TickIn), s.phase = .warm → s.flag pCLK CLK.PG_STAT_RUNNING = true → 
      Leads (exec (.tickBoundary x) s) fun t => t.tick = (s.tick + 1) % 2 ^ 48 ∧ t.phase = .warm ∧ t.engs = s.engs ∧ t.store = s.store) ∧
  (∀ (s : State) (testOk : Bool), s.fw = true → s.plcr.nextLevel ≤ 4 → 
      Leads (exec (.dispatchPoint testOk) s) fun t => s.Frame t [pPLCR, pBANK] ([(pCLK, 0x28), (pSTORE, 0x10), (pSTORE, 0x28), (pSTORE, 0x2C), (pSTORE, 0x30), (pSTORE, 0x0C)] ++ everyEngineReg 0x10 ++ everyEngineReg 0x30 ++ everyEngineReg 0x20 ++ everyEngineReg 0x24) [descBytes] [] ∧ t.fld pPLCR PLCR.SHED_LEVEL = s.plcr.nextLevel ∧ t.tick = s.tick) ∧
  (∀ (s : State), s.live = true → s.flag pCLK CLK.PG_STAT_REF_OK = true → 
      Leads (exec (.refLoss) s) fun t => s.Frame t [] [(pCLK, 0x10), (pCLK, 0x0C)] [] [] ∧ t.flag pCLK CLK.PG_STAT_REF_OK = false ∧ t.flag pCLK CLK.PG_STAT_PLL_LOCK = false ∧ t.flag pCLK CLK.PG_EVT_REF_LOSS = true ∧ t.phase = .run) ∧
  (∀ (s : State), s.live = true → s.flag pCLK CLK.PG_STAT_REF_OK = false → 
      Leads (exec (.refLossTimeout) s) fun t => s.Frame t [] [(pCLK, 0x0C), (pCLK, 0x2C), (pFLEET, 0x10), (pFLEET, 0x0C)] [] [] ∧ t.flag pCLK CLK.PG_STAT_RUNNING = false ∧ t.phase = .warm ∧ t.rst.causes.getLsbD 4 = true) ∧
  (∀ (s : State), s.live = true → s.flag pCLK CLK.PG_STAT_REF_OK = false → 
      Leads (exec (.refBack) s) fun t => s.Frame t [] [(pCLK, 0x10), (pCLK, 0x0C)] [] [] ∧ t.flag pCLK CLK.PG_STAT_REF_OK = true ∧ t.flag pCLK CLK.PG_STAT_PLL_LOCK = true ∧ t.flag pCLK CLK.PG_STAT_RUNNING = true ∧ t.flag pCLK CLK.PG_EVT_REF_BACK = true) ∧
  (∀ (s : State) (k : Engine), s.live = true → (s.eng k).run = .running → (s.eng k).halted = false → s.plcr.started.contains (s.engSlot k) = false → s.engSlot k < 2048 → 
      Leads (exec (.overrun k) s) fun t => s.Frame t [] [(pPLCR, 0x10), (pPLCR, 0x3C), (pPLCR, 0x30), (pENG k, 0x10), (pCLK, 0x28)] [descBytes] [] ∧ (t.eng k).run = .preempted ∧ t.descState (s.engSlot k) = 4 ∧ t.flag (pENG k) ENG.PG_EVT_OVERRUN = true ∧ t.flag pPLCR PLCR.PG_EVT_OVERRUN = true ∧ ∀ j, j ≠ k → t.eng j = s.eng j) ∧
  (∀ (s : State) (k : Engine), s.live = true → (s.eng k).run = .running → (s.eng k).budleft ≤ 0 → (s.eng k).overMark = false → 
      Leads (exec (.overBudget k) s) fun t => s.Frame t [] [(pENG k, 0x10)] [] [] ∧ t.eng k = { s.eng k with overMark := true } ∧ t.flag (pENG k) ENG.PG_EVT_OVER_BUDGET = true ∧ ∀ j, j ≠ k → t.eng j = s.eng j) ∧
  (∀ (s : State), s.live = true → 8 ≤ s.fld pPLCR PLCR.WDOG_C0_MISS → 
      Leads (exec (.tickWdog) s) fun t => s.Frame t [] [] [] [] ∧ t.phase = .warm ∧ t.rst.causes = (s.rst.causes ||| 16) ∧ t.regs = s.regs) ∧
  (∀ (s : State), s.live = true → max 4 (min 32 (s.fld pPLCR PLCR.CFG_STORM_CNT)) ≤ s.fld pPLCR PLCR.WDOG_STORM → 
      Leads (exec (.overrunStorm) s) fun t => s.Frame t [] [] [] [] ∧ t.phase = .warm ∧ t.rst.causes = (s.rst.causes ||| 32) ∧ t.regs = s.regs) ∧
  (∀ (s : State), s.live = true → s.mayTakeOver = true → 
      Leads (exec (.standbyTakeover) s) fun t => s.Frame t [] ([(pPLACE, 0x28), (pFLEET, 0x10), (pFLEET, 0x0C), (pFLEET, 0x24), (pFLEET, 0x28), (pFLEET, 0x2C), (pSYS, 0x0C)] ++ everyLinkReg 0x34 ++ everyLinkReg 0x30) [recordBytes] [] ∧ t.fld pSYS SYS.PG_STAT_ACTING = 3 ∧ t.flag pFLEET FLEET.PG_EVT_TAKEOVER = true ∧ t.flag pFLEET FLEET.PG_STAT_ACTING_MGR = true) ∧
  (∀ (s : State) (slot : BitVec 11), s.Takes pPLCR → 256 ≤ slot.toNat → 
      Leads (exec (.plcrPost slot) s) fun t => s.Frame t [] [(pPLCR, 0x10)] [] [] ∧ t.plcr = { s.plcr with posts := s.plcr.posts ++ [slot.toNat] } ∧ t.regs = s.regs) ∧
  (∀ (s : State) (k : Engine) (key : BitVec 16), s.Takes (pENG k) → key.toNat = 0x7E71 → (s.eng k).retired = false → 6 ≤ s.healthy.length → 
      Leads (exec (.engRetire k key) s) fun t => s.Frame t [] [(pENG k, 0x10), (pENG k, 0x20), (pPLCR, 0x10), (pPLCR, 0x34)] [descBytes] [] ∧ (t.eng k).retired = true ∧ t.flag pPLCR PLCR.PG_EVT_ENG_RETIRED = true ∧ t.flag (pENG k) ENG.PG_EVT_RETIRED = true ∧ ∀ j, j ≠ k → t.eng j = s.eng j)

/-- EXECUTE_BUNDLE on an engine that runs a task, for single-word bundles written out from the encodings of chapter 17 (STOP, slot, predicate 0, opcode, operands): ADD writes the sum with C and V; SMUL-type multiplies write the accumulator; a store word and a load word move a scratch word; B branches relative to its own address; a predicate that reads 0 leaves the registers alone; an unlisted opcode enters the fault handler with FCAUSE 2. The other engines and every byte of the store are as before. Each clause holds in the states and for the operands that its hypotheses name. -/
def Obligations.SkinkBundlesComplete : Prop :=
  (∀ (s : State) (k : Engine) (x : BundleIn) (d a b : Fin 16), s.live = true → (s.eng k).run = .running → (s.eng k).halted = false → x.cacheBad = false → x.scratchBad = false → x.storeBad = false → (s.eng k).pc.toNat % 4 = 0 → (s.skWord (s.eng k).pc.toNat).w = 0xA0080000 + 32768 * d.val + 2048 * a.val + 128 * b.val → 
      Leads (exec (.executeBundle k x) s) fun t => (t.eng k).d = (s.eng k).d.set d.val ((s.eng k).d.get a + (s.eng k).d.get b) ∧ (t.eng k).flg.getLsbD 0 = decide (2 ^ 32 ≤ ((s.eng k).d.get a).toNat + ((s.eng k).d.get b).toNat) ∧ (t.eng k).pc = (s.eng k).pc + 4 ∧ (t.eng k).a = (s.eng k).a ∧ (t.eng k).acc = (s.eng k).acc ∧ (t.eng k).scratch = (s.eng k).scratch ∧ (∀ j, j ≠ k → t.eng j = s.eng j) ∧ t.store = s.store ∧ t.aos = s.aos ∧ s.FlashSame t ∧ s.RegsBut t [] [(pCLK, CLK.PHASE_CYCLE.off)]) ∧
  (∀ (s : State) (k : Engine) (x : BundleIn) (a b : Fin 16) (acc : Fin 4), s.live = true → (s.eng k).run = .running → (s.eng k).halted = false → x.cacheBad = false → x.scratchBad = false → x.storeBad = false → (s.eng k).pc.toNat % 4 = 0 → (s.skWord (s.eng k).pc.toNat).w = 0xC0080000 + 131072 * acc.val + 2048 * a.val + 128 * b.val → 
      Leads (exec (.executeBundle k x) s) fun t => (t.eng k).acc = (s.eng k).acc.set acc.val (BitVec.ofInt 72 (((s.eng k).d.get a).toInt * ((s.eng k).d.get b).toInt)) ∧ (t.eng k).d = (s.eng k).d ∧ (t.eng k).flg = (s.eng k).flg ∧ (t.eng k).pc = (s.eng k).pc + 4 ∧ (∀ j, j ≠ k → t.eng j = s.eng j) ∧ t.store = s.store ∧ t.aos = s.aos ∧ s.FlashSame t ∧ s.RegsBut t [] [(pCLK, CLK.PHASE_CYCLE.off)]) ∧
  (∀ (s : State) (k : Engine) (x : BundleIn) (d : Fin 16) (a : Fin 8) (i : Fin 512), s.live = true → (s.eng k).run = .running → (s.eng k).halted = false → x.cacheBad = false → x.scratchBad = false → x.storeBad = false → (s.eng k).pc.toNat % 4 = 0 → (s.skWord (s.eng k).pc.toNat).w = 0x80300000 + 32768 * d.val + 4096 * a.val + i.val → ((s.eng k).a.get a).toNat % 4 = 0 → ((s.eng k).a.get a).toNat + 4 * i.val < 0x2000 → 
      Leads (exec (.executeBundle k x) s) fun t => (t.eng k).scNat (((s.eng k).a.get a).toNat + 4 * i.val) 4 = ((s.eng k).d.get d).toNat ∧ (∀ b, b < ((s.eng k).a.get a).toNat + 4 * i.val ∨ ((s.eng k).a.get a).toNat + 4 * i.val + 4 ≤ b → Sparse.get ramDflt (t.eng k).scratch b = Sparse.get ramDflt (s.eng k).scratch b) ∧ (t.eng k).d = (s.eng k).d ∧ (t.eng k).a = (s.eng k).a ∧ (t.eng k).pc = (s.eng k).pc + 4 ∧ (∀ j, j ≠ k → t.eng j = s.eng j) ∧ t.store = s.store ∧ t.aos = s.aos ∧ s.FlashSame t ∧ s.RegsBut t [] [(pCLK, CLK.PHASE_CYCLE.off)]) ∧
  (∀ (s : State) (k : Engine) (x : BundleIn) (d : Fin 16) (a : Fin 8) (i : Fin 512), s.live = true → (s.eng k).run = .running → (s.eng k).halted = false → x.cacheBad = false → x.scratchBad = false → x.storeBad = false → (s.eng k).pc.toNat % 4 = 0 → (s.skWord (s.eng k).pc.toNat).w = 0x80080000 + 32768 * d.val + 4096 * a.val + i.val → ((s.eng k).a.get a).toNat % 4 = 0 → ((s.eng k).a.get a).toNat + 4 * i.val < 0x2000 → 
      Leads (exec (.executeBundle k x) s) fun t => (t.eng k).d = (s.eng k).d.set d.val (BitVec.ofNat 32 ((s.eng k).scNat (((s.eng k).a.get a).toNat + 4 * i.val) 4)) ∧ (t.eng k).scratch = (s.eng k).scratch ∧ (t.eng k).a = (s.eng k).a ∧ (t.eng k).pc = (s.eng k).pc + 4 ∧ (∀ j, j ≠ k → t.eng j = s.eng j) ∧ t.store = s.store ∧ t.aos = s.aos ∧ s.FlashSame t ∧ s.RegsBut t [] [(pCLK, CLK.PHASE_CYCLE.off)]) ∧
  (∀ (s : State) (k : Engine) (x : BundleIn) (i : Fin 262144), s.live = true → (s.eng k).run = .running → (s.eng k).halted = false → x.cacheBad = false → x.scratchBad = false → x.storeBad = false → (s.eng k).pc.toNat % 4 = 0 → (s.skWord (s.eng k).pc.toNat).w = 0xE0080000 + i.val → 
      Leads (exec (.executeBundle k x) s) fun t => (t.eng k).pc = (s.eng k).pc + BitVec.ofNat 18 (4 * i.val) ∧ (t.eng k).d = (s.eng k).d ∧ (t.eng k).a = (s.eng k).a ∧ (t.eng k).budleft = (s.eng k).budleft - (2 + x.stall : Nat) ∧ (∀ j, j ≠ k → t.eng j = s.eng j) ∧ t.store = s.store ∧ t.aos = s.aos ∧ s.FlashSame t ∧ s.RegsBut t [] [(pCLK, CLK.PHASE_CYCLE.off)]) ∧
  (∀ (s : State) (k : Engine) (x : BundleIn) (pr : Fin 8) (i : Fin 0x2000000), s.live = true → (s.eng k).run = .running → (s.eng k).halted = false → x.cacheBad = false → x.scratchBad = false → x.storeBad = false → (s.eng k).pc.toNat % 4 = 0 → (s.eng k).p.getLsbD 0 = true → pr.val ≠ 0 → (s.eng k).p.getLsbD pr.val = false → (s.skWord (s.eng k).pc.toNat).w = 0xA0000000 + 67108864 * pr.val + i.val → 
      Leads (exec (.executeBundle k x) s) fun t => (t.eng k).d = (s.eng k).d ∧ (t.eng k).a = (s.eng k).a ∧ (t.eng k).acc = (s.eng k).acc ∧ (t.eng k).p = (s.eng k).p ∧ (t.eng k).flg = (s.eng k).flg ∧ (t.eng k).pc = (s.eng k).pc + 4 ∧ (∀ j, j ≠ k → t.eng j = s.eng j) ∧ t.store = s.store ∧ t.aos = s.aos ∧ s.FlashSame t ∧ s.RegsBut t [] [(pCLK, CLK.PHASE_CYCLE.off)]) ∧
  (∀ (s : State) (k : Engine) (x : BundleIn), s.live = true → (s.eng k).run = .running → (s.eng k).halted = false → x.cacheBad = false → x.scratchBad = false → x.storeBad = false → (s.eng k).pc.toNat % 4 = 0 → (s.eng k).fhnd ≠ 0 → (s.eng k).flg.getLsbD 12 = false → (s.skWord (s.eng k).pc.toNat).w = 0xA0780000 → 
      Leads (exec (.executeBundle k x) s) fun t => (t.eng k).fcause = 2 ∧ (t.eng k).fpc = (s.eng k).pc.setWidth 32 ∧ (t.eng k).faddr = (s.eng k).pc.setWidth 32 ∧ (t.eng k).flg.getLsbD 12 = true ∧ (t.eng k).pc.toNat = (s.eng k).fhnd.toNat % 2 ^ 18 / 4 * 4 ∧ (t.eng k).d = (s.eng k).d ∧ (∀ j, j ≠ k → t.eng j = s.eng j) ∧ t.store = s.store ∧ t.aos = s.aos ∧ s.FlashSame t ∧ s.RegsBut t [] [(pCLK, CLK.PHASE_CYCLE.off)])

/-- The Type-C state machine (chapter 7): line changes, debounces, the toggle of a DRP port, the timers of ErrorRecovery, Try and TryWait, detaches of source and sink, the end of the hold after a Hard Reset, a VBUS level that a state waits for. An attach sets ATTACH; leaving an attached state sets DETACH, adds 1 to the generation and opens VCONN. Each clause holds in the states and for the operands that its hypotheses name. -/
def Obligations.TypeCStatesComplete : Prop :=
  (∀ (s : State) (n : Port) (mv1 mv2 : Nat), s.ccState n = .unattachedSnk → 200 ≤ mv1 → 
      Leads (exec (.ccLineChange n mv1 mv2) s) fun t => s.Frame t [pPDL n, pSHARE] [(pCC n, 0x10), (pCC n, 0x0C), (pCC n, 0x44), (pVDM n, 0x40), (pVDM n, 0x10), (pVDM n, 0x34), (pVDM n, 0x60), (pPOL n, 0x0C), (pPOL n, 0x34), (pPOL n, 0x10), (pPOL n, 0x2C), (pGUARD n, 0x0C)] [portBytes n, descBytes] [snapBytes n] ∧ t.ccState n = .attachWaitSnk ∧ t.fld (pCC n) CC.PG_STAT_POLARITY = 0 ∧ (t.port n).cc.cc1Mv = mv1 ∧ (t.port n).cc.cc2Mv = mv2 ∧ t.fld (pCC n) CC.PG_STAT_GEN = s.fld (pCC n) CC.PG_STAT_GEN) ∧
  (∀ (s : State) (n : Port) (mv1 mv2 : Nat), s.ccState n = .unattachedSnk → mv1 < 200 → mv2 < 200 → 
      Leads (exec (.ccLineChange n mv1 mv2) s) fun t => s.Frame t [pPDL n, pSHARE] [(pCC n, 0x10), (pCC n, 0x0C), (pCC n, 0x44), (pVDM n, 0x40), (pVDM n, 0x10), (pVDM n, 0x34), (pVDM n, 0x60), (pPOL n, 0x0C), (pPOL n, 0x34), (pPOL n, 0x10), (pPOL n, 0x2C), (pGUARD n, 0x0C)] [portBytes n, descBytes] [snapBytes n] ∧ t.regs = s.regs ∧ (t.port n).cc.cc1Mv = mv1 ∧ (t.port n).cc.cc2Mv = mv2 ∧ t.store = s.store) ∧
  (∀ (s : State) (n : Port) (pin : Nat), s.ccState n = .attachWaitSnk → s.exactlyOne n .rp = some pin → s.ccTry n ≠ 1 → s.vbus4 n = true → 
      Leads (exec (.ccDebounce n) s) fun t => s.Frame t [pPDL n, pSHARE] [(pCC n, 0x10), (pCC n, 0x0C), (pVDM n, 0x40), (pVDM n, 0x10), (pVDM n, 0x34), (pVDM n, 0x60), (pPOL n, 0x0C), (pPOL n, 0x34), (pPOL n, 0x10), (pPOL n, 0x2C), (pGUARD n, 0x0C)] [portBytes n, descBytes] [snapBytes n] ∧ t.ccState n = .attachedSnk ∧ t.flag (pCC n) CC.PG_STAT_ATTACHED = true ∧ t.fld (pCC n) CC.PG_STAT_POLARITY = pin ∧ t.flag (pCC n) CC.PG_EVT_ATTACH = true) ∧
  (∀ (s : State) (n : Port), s.ccState n = .attachWaitSnk → s.bothPins n .open = true → s.ccDrp n = false → 
      Leads (exec (.pdDebounce n) s) fun t => s.Frame t [pPDL n, pSHARE] [(pCC n, 0x10), (pCC n, 0x0C), (pVDM n, 0x40), (pVDM n, 0x10), (pVDM n, 0x34), (pVDM n, 0x60), (pPOL n, 0x0C), (pPOL n, 0x34), (pPOL n, 0x10), (pPOL n, 0x2C), (pGUARD n, 0x0C)] [portBytes n, descBytes] [snapBytes n] ∧ t.ccState n = .unattachedSnk ∧ t.fld (pCC n) CC.PG_STAT_GEN = s.fld (pCC n) CC.PG_STAT_GEN) ∧
  (∀ (s : State) (n : Port), s.ccState n = .unattachedSnk → s.ccDrp n = true → s.inf (pCC n) CC.CFG_DB_CLAMP = 0 → 
      Leads (exec (.drpToggle n) s) fun t => s.Frame t [pPDL n, pSHARE] [(pCC n, 0x10), (pCC n, 0x0C), (pVDM n, 0x40), (pVDM n, 0x10), (pVDM n, 0x34), (pVDM n, 0x60), (pPOL n, 0x0C), (pPOL n, 0x34), (pPOL n, 0x10), (pPOL n, 0x2C), (pGUARD n, 0x0C)] [portBytes n, descBytes] [snapBytes n] ∧ t.ccState n = .unattachedSrc) ∧
  (∀ (s : State) (n : Port), s.ccState n = .unattachedSrc → s.ccDrp n = true → 
      Leads (exec (.drpToggle n) s) fun t => s.Frame t [pPDL n, pSHARE] [(pCC n, 0x10), (pCC n, 0x0C), (pVDM n, 0x40), (pVDM n, 0x10), (pVDM n, 0x34), (pVDM n, 0x60), (pPOL n, 0x0C), (pPOL n, 0x34), (pPOL n, 0x10), (pPOL n, 0x2C), (pGUARD n, 0x0C)] [portBytes n, descBytes] [snapBytes n] ∧ t.ccState n = .unattachedSnk) ∧
  (∀ (s : State) (n : Port), s.ccState n = .errorRecovery → s.enabled (pCC n) = true → s.ccTwin n ≠ 2 → (s.port n).cc.rstHold = false → 
      Leads (exec (.errorRecoveryTimeout n) s) fun t => s.Frame t [pPDL n, pSHARE] [(pCC n, 0x10), (pCC n, 0x0C), (pVDM n, 0x40), (pVDM n, 0x10), (pVDM n, 0x34), (pVDM n, 0x60), (pPOL n, 0x0C), (pPOL n, 0x34), (pPOL n, 0x10), (pPOL n, 0x2C), (pGUARD n, 0x0C)] [portBytes n, descBytes] [snapBytes n] ∧ t.ccState n = (if s.ccRole n = 1 then .unattachedSrc else .unattachedSnk)) ∧
  (∀ (s : State) (n : Port), s.ccState n = .trySrc → s.exactlyOne n .rd = none → 
      Leads (exec (.tryTimer n) s) fun t => s.Frame t [pPDL n, pSHARE] [(pCC n, 0x10), (pCC n, 0x0C), (pVDM n, 0x40), (pVDM n, 0x10), (pVDM n, 0x34), (pVDM n, 0x60), (pPOL n, 0x0C), (pPOL n, 0x34), (pPOL n, 0x10), (pPOL n, 0x2C), (pGUARD n, 0x0C)] [portBytes n, descBytes] [snapBytes n] ∧ t.ccState n = .tryWaitSnk) ∧
  (∀ (s : State) (n : Port), s.ccState n = .trySnk → 
      Leads (exec (.tryTimer n) s) fun t => s.Frame t [pPDL n, pSHARE] [(pCC n, 0x10), (pCC n, 0x0C), (pVDM n, 0x40), (pVDM n, 0x10), (pVDM n, 0x34), (pVDM n, 0x60), (pPOL n, 0x0C), (pPOL n, 0x34), (pPOL n, 0x10), (pPOL n, 0x2C), (pGUARD n, 0x0C)] [portBytes n, descBytes] [snapBytes n] ∧ (t.port n).cc = { (s.port n).cc with tryDone := true } ∧ t.regs = s.regs ∧ ∀ m, m ≠ n → t.port m = s.port m) ∧
  (∀ (s : State) (n : Port), (s.ccState n = .tryWaitSnk ∨ s.ccState n = .tryWaitSrc) → 
      Leads (exec (.trywaitTimeout n) s) fun t => s.Frame t [pPDL n, pSHARE] [(pCC n, 0x10), (pCC n, 0x0C), (pVDM n, 0x40), (pVDM n, 0x10), (pVDM n, 0x34), (pVDM n, 0x60), (pPOL n, 0x0C), (pPOL n, 0x34), (pPOL n, 0x10), (pPOL n, 0x2C), (pGUARD n, 0x0C)] [portBytes n, descBytes] [snapBytes n] ∧ t.ccState n = .unattachedSnk) ∧
  (∀ (s : State) (n : Port), s.ccState n = .trySrc → 
      Leads (exec (.trySrcTimeout n) s) fun t => s.Frame t [pPDL n, pSHARE] [(pCC n, 0x10), (pCC n, 0x0C), (pVDM n, 0x40), (pVDM n, 0x10), (pVDM n, 0x34), (pVDM n, 0x60), (pPOL n, 0x0C), (pPOL n, 0x34), (pPOL n, 0x10), (pPOL n, 0x2C), (pGUARD n, 0x0C)] [portBytes n, descBytes] [snapBytes n] ∧ t.ccState n = .tryWaitSnk) ∧
  (∀ (s : State) (n : Port) (load : Option Nat), s.ccState n = .attachedSrc → s.openSeen n load = true → s.ccDrp n = false → 
      Leads (exec (.sourceDetach n load) s) fun t => s.Frame t [pPDL n, pSHARE] [(pCC n, 0x10), (pCC n, 0x0C), (pVDM n, 0x40), (pVDM n, 0x10), (pVDM n, 0x34), (pVDM n, 0x60), (pPOL n, 0x0C), (pPOL n, 0x34), (pPOL n, 0x10), (pPOL n, 0x2C), (pGUARD n, 0x0C)] [portBytes n, descBytes] [snapBytes n] ∧ t.ccState n = .unattachedSrc ∧ t.flag (pCC n) CC.PG_STAT_ATTACHED = false ∧ t.flag (pCC n) CC.PG_EVT_DETACH = true ∧ t.fld (pCC n) CC.PG_STAT_GEN = (s.fld (pCC n) CC.PG_STAT_GEN + 1) % 256 ∧ t.flag (pCC n) CC.PG_STAT_VCONN_ON = false ∧ t.fld (pPOL n) POL.PG_STAT_CONTRACT = 0) ∧
  (∀ (s : State) (n : Port) (mv : Nat), s.ccState n = .attachedSnk → (s.port n).cc.hrHold = false → mv < s.sinkDiscMv n → 
      Leads (exec (.sinkDetach n mv) s) fun t => s.Frame t [pPDL n, pSHARE] [(pCC n, 0x10), (pCC n, 0x0C), (pVDM n, 0x40), (pVDM n, 0x10), (pVDM n, 0x34), (pVDM n, 0x60), (pPOL n, 0x0C), (pPOL n, 0x34), (pPOL n, 0x10), (pPOL n, 0x2C), (pGUARD n, 0x0C)] [portBytes n, descBytes] [snapBytes n] ∧ t.ccState n = .unattachedSnk ∧ t.flag (pCC n) CC.PG_STAT_ATTACHED = false ∧ t.flag (pCC n) CC.PG_EVT_DETACH = true ∧ t.fld (pCC n) CC.PG_STAT_GEN = (s.fld (pCC n) CC.PG_STAT_GEN + 1) % 256 ∧ t.fld (pPOL n) POL.PG_STAT_CONTRACT = 0 ∧ (t.port n).vbusMv = mv) ∧
  (∀ (s : State) (n : Port) (mv : Nat), s.ccState n = .debugSnk → mv < 3660 → 
      Leads (exec (.debugAccessoryExit n mv) s) fun t => s.Frame t [pPDL n, pSHARE] [(pCC n, 0x10), (pCC n, 0x0C), (pVDM n, 0x40), (pVDM n, 0x10), (pVDM n, 0x34), (pVDM n, 0x60), (pPOL n, 0x0C), (pPOL n, 0x34), (pPOL n, 0x10), (pPOL n, 0x2C), (pGUARD n, 0x0C)] [portBytes n, descBytes] [snapBytes n] ∧ t.ccState n = .unattachedSnk ∧ t.flag (pCC n) CC.PG_EVT_DETACH = true ∧ (t.port n).vbusMv = mv) ∧
  (∀ (s : State) (n : Port), s.ccState n = .attachedSnk → (s.port n).cc.hrHold = true → s.vbus4 n = false → 
      Leads (exec (.hrSinkHoldEnd n) s) fun t => s.Frame t [pPDL n, pSHARE] [(pPOL n, 0x10), (pPOL n, 0x0C), (pPOL n, 0x34), (pPOL n, 0x2C), (pCC n, 0x10), (pCC n, 0x0C), (pVDM n, 0x40), (pVDM n, 0x10), (pVDM n, 0x34), (pVDM n, 0x60), (pGUARD n, 0x0C)] [descBytes, portBytes n] [snapBytes n] ∧ t.ccState n = .unattachedSnk ∧ t.flag (pCC n) CC.PG_EVT_HR_TIMEOUT = true ∧ (t.port n).cc.hrHold = false) ∧
  (∀ (s : State) (n : Port), (s.port n).cc.hrHold = true → s.vbus4 n = true → (s.port n).cc.hrDipped = false → 
      Leads (exec (.hrSinkHoldEnd n) s) fun t => s.Frame t [pPDL n, pSHARE] [(pPOL n, 0x10), (pPOL n, 0x0C), (pPOL n, 0x34), (pPOL n, 0x2C), (pCC n, 0x10), (pCC n, 0x0C), (pVDM n, 0x40), (pVDM n, 0x10), (pVDM n, 0x34), (pVDM n, 0x60), (pGUARD n, 0x0C)] [descBytes, portBytes n] [snapBytes n] ∧ t.ccState n = s.ccState n ∧ (t.port n).cc.hrHold = false ∧ t.flag (pPOL n) POL.PG_EVT_HR_DONE = true) ∧
  (∀ (s : State) (n : Port) (mv : Nat), (s.port n).cc.debDone = false → 
      Leads (exec (.vbusLevelChange n mv) s) fun t => s.Frame t [pPDL n, pSHARE] [(pCC n, 0x10), (pCC n, 0x0C), (pVDM n, 0x40), (pVDM n, 0x10), (pVDM n, 0x34), (pVDM n, 0x60), (pPOL n, 0x0C), (pPOL n, 0x34), (pPOL n, 0x10), (pPOL n, 0x2C), (pGUARD n, 0x0C)] [portBytes n, descBytes] [snapBytes n] ∧ t.port n = { s.port n with vbusMv := mv } ∧ t.regs = s.regs ∧ ∀ m, m ≠ n → t.port m = s.port m) ∧
  (∀ (s : State) (n : Port) (mv pin : Nat), (s.port n).cc.debDone = true → s.ccState n = .attachWaitSnk → s.exactlyOne n .rp = some pin → s.ccTry n ≠ 1 → 4000 ≤ mv → 
      Leads (exec (.vbusLevelChange n mv) s) fun t => s.Frame t [pPDL n, pSHARE] [(pCC n, 0x10), (pCC n, 0x0C), (pVDM n, 0x40), (pVDM n, 0x10), (pVDM n, 0x34), (pVDM n, 0x60), (pPOL n, 0x0C), (pPOL n, 0x34), (pPOL n, 0x10), (pPOL n, 0x2C), (pGUARD n, 0x0C)] [portBytes n, descBytes] [snapBytes n] ∧ t.ccState n = .attachedSnk ∧ t.flag (pCC n) CC.PG_EVT_ATTACH = true ∧ (t.port n).vbusMv = mv)

/-- VCONN switches on by itself or by command while R162 allows it, and a command it does not allow sets VCONN_DENIED; it goes off by command or overcurrent, with a discharge. An overvoltage on CC leads to ErrorRecovery; a shadow notes that its partner has gone; the owner check either clears the way or sets CLAMP_SUSPECT. Each clause holds in the states and for the operands that its hypotheses name. -/
def Obligations.VconnAndCcGuardsComplete : Prop :=
  (∀ (s : State) (n : Port), s.vconnMay n = true → (s.port n).cc.autoDone = false → 
      Leads (exec (.vconnAutoOn n) s) fun t => s.Frame t [] [(pCC n, 0x0C)] [] [] ∧ t.flag (pCC n) CC.PG_STAT_VCONN_ON = true ∧ (t.port n).cc.autoDone = true ∧ (t.port n).cc.vconnDsch = false) ∧
  (∀ (s : State) (n : Port) (mv : Nat), s.ccState n = .attachedSrc → (s.port n).cc.raKnown = false → 
      Leads (exec (.vconnRaProbe n mv) s) fun t => s.Frame t [] [(pCC n, 0x0C), (pCC n, 0x10)] [] [] ∧ (t.port n).cc = { (s.port n).cc with raKnown := true, raLatch := decide (mv < 200) } ∧ t.regs = s.regs) ∧
  (∀ (s : State) (n : Port) (key : BitVec 16), s.Takes (pCC n) → key.toNat = 0x3C71 → 
      Leads (exec (.ccCmdErrRec n key) s) fun t => s.Frame t [] [(pCC n, 0x10)] [] [] ∧ (t.port n).cc = { (s.port n).cc with errRec := true } ∧ t.regs = s.regs) ∧
  (∀ (s : State) (n : Port) (key : BitVec 16), s.Takes (pCC n) → key.toNat = 0x3C71 → s.flag (pCC n) CC.PG_STAT_VCONN_ON = false → s.vconnMay n = true → 
      Leads (exec (.ccCmdVconnOn n key) s) fun t => s.Frame t [] [(pCC n, 0x10), (pCC n, 0x0C)] [] [] ∧ t.flag (pCC n) CC.PG_STAT_VCONN_ON = true ∧ (t.port n).cc.vconnDsch = false) ∧
  (∀ (s : State) (n : Port) (key : BitVec 16), s.Takes (pCC n) → key.toNat = 0x3C71 → s.flag (pCC n) CC.PG_STAT_VCONN_ON = false → s.vconnMay n = false → 
      Leads (exec (.ccCmdVconnOn n key) s) fun t => s.Frame t [] [(pCC n, 0x10), (pCC n, 0x0C)] [] [] ∧ t.flag (pCC n) CC.PG_STAT_VCONN_ON = false ∧ t.flag (pCC n) CC.PG_EVT_VCONN_DENIED = true) ∧
  (∀ (s : State) (n : Port) (key : BitVec 16), s.Takes (pCC n) → key.toNat = 0x3C71 → s.flag (pCC n) CC.PG_STAT_VCONN_ON = true → 
      Leads (exec (.ccCmdVconnOff n key) s) fun t => s.Frame t [] [(pCC n, 0x10), (pCC n, 0x0C)] [] [] ∧ t.flag (pCC n) CC.PG_STAT_VCONN_ON = false ∧ (t.port n).cc.vconnDsch = true) ∧
  (∀ (s : State) (n : Port), s.flag (pCC n) CC.PG_STAT_VCONN_ON = true → 
      Leads (exec (.vconnOvercurrent n) s) fun t => s.Frame t [] [(pCC n, 0x10), (pCC n, 0x0C)] [] [] ∧ t.flag (pCC n) CC.PG_STAT_VCONN_ON = false ∧ t.flag (pCC n) CC.PG_EVT_VCONN_OC = true ∧ (t.port n).cc.vconnDsch = true) ∧
  (∀ (s : State) (n : Port), 
      Leads (exec (.vconnDischargeEnd n) s) fun t => s.Frame t [] [] [] [] ∧ (t.port n).cc = { (s.port n).cc with vconnDsch := false } ∧ t.regs = s.regs) ∧
  (∀ (s : State) (n : Port), s.ccState n ≠ .retired → s.guardState n ≠ 7 → 
      Leads (exec (.ccOvervoltage n) s) fun t => s.Frame t [pPDL n, pSHARE] [(pCC n, 0x10), (pCC n, 0x0C), (pGUARD n, 0x0C), (pGUARD n, 0x54), (pGUARD n, 0x58), (pGUARD n, 0x5C), (pGUARD n, 0x10), (pPOL n, 0x10), (pPOL n, 0x2C), (pPOL n, 0x0C), (pPOL n, 0x34), (pVDM n, 0x40), (pVDM n, 0x10), (pVDM n, 0x34), (pVDM n, 0x60)] [descBytes, portBytes n] [snapBytes n] ∧ t.ccState n = .errorRecovery ∧ t.flag (pCC n) CC.PG_EVT_CC_OVP = true ∧ t.flag (pCC n) CC.PG_STAT_VCONN_ON = false) ∧
  (∀ (s : State) (n : Port), s.shadowing n = true → 
      Leads (exec (.partnerGone n) s) fun t => s.Frame t [] [(pCC n, 0x44), (pCC n, 0x10)] [] [] ∧ t.flag (pCC n) CC.PG_EVT_PARTNER_GONE = true ∧ t.flag (pCC n) CC.SHADOW_WATCH_PARTNER = false) ∧
  (∀ (s : State) (n : Port) (mv : Nat), s.ccState n = .attachWaitSrc → s.ownerBlocks n = true → 650 < mv → 
      Leads (exec (.ownerCheck n mv) s) fun t => s.Frame t [pPDL n, pSHARE] [(pCC n, 0x10), (pCC n, 0x0C), (pVDM n, 0x40), (pVDM n, 0x10), (pVDM n, 0x34), (pVDM n, 0x60), (pPOL n, 0x0C), (pPOL n, 0x34), (pPOL n, 0x10), (pPOL n, 0x2C), (pGUARD n, 0x0C)] [portBytes n, descBytes] [snapBytes n] ∧ t.flag (pCC n) CC.PG_EVT_CLAMP_SUSPECT = true ∧ t.ccState n = .attachWaitSrc ∧ t.ports = s.ports) ∧
  (∀ (s : State) (n : Port) (mv : Nat), s.ccState n = .attachWaitSrc → s.ownerBlocks n = true → (s.port n).cc.debDone = false → mv ≤ 650 → 
      Leads (exec (.ownerCheck n mv) s) fun t => s.Frame t [pPDL n, pSHARE] [(pCC n, 0x10), (pCC n, 0x0C), (pVDM n, 0x40), (pVDM n, 0x10), (pVDM n, 0x34), (pVDM n, 0x60), (pPOL n, 0x0C), (pPOL n, 0x34), (pPOL n, 0x10), (pPOL n, 0x2C), (pGUARD n, 0x0C)] [portBytes n, descBytes] [snapBytes n] ∧ (t.port n).cc = { (s.port n).cc with ownerOk := true } ∧ t.regs = s.regs)

/-- Receiving (chapter 8). A valid control message that is not a duplicate is recorded in the ring, its GoodCRC is owed with its MessageID and RX is set; one whose CRC fails leaves the ring alone. A GoodCRC owed, a queued answer and a Chunk Request go on the line as they are due; a chunk that does not come ends the reassembly. Each clause holds in the states and for the operands that its hypotheses name. -/
def Obligations.ReceivingCompletes : Prop :=
  (∀ (s : State) (n : Port) (f : PdFrame) (h : Nat), s.Takes (pPDL n) → s.pdAttached n = true → s.enabled (pPDL n) = true → s.flag (pPDL n) PDL.PG_STAT_HR_PENDING = false → (s.port n).pdl.bistCarrier = false → (s.port n).pdl.bistData = false → (s.port n).pdl.queue = [] → (s.port n).pdl.reasm = [] → f.set = [.sync1, .sync1, .sync1, .sync2] → f.symbolsOk = true → f.crcOk = true → f.storeOk = true → f.bytes = leBytes 2 h → h < 65536 → isControl h 7 = true → bitAt (s.rd (pPDL n) PDL.MSGID_TX_SOP.off).toNat 19 = false → s.ringFull n = false → 
      Leads (exec (.receiveFrame n f) s) fun t => s.Frame t [pPDL n, pPOL n, pSHARE] [(pCC n, 0x0C), (pVDM n, 0x40), (pVDM n, 0x10), (pVDM n, 0x34), (pVDM n, 0x60)] [portBytes n, descBytes] [snapBytes n] ∧ (t.port n).pdl.gcrc = some (0, hdrId h) ∧ t.flag (pPDL n) PDL.PG_EVT_RX = true ∧ t.fld (pPDL n) PDL.RX_WR_INDEX = (s.fld (pPDL n) PDL.RX_WR_INDEX + 1) % 64 ∧ t.stNat (0x4000 * n.val + 64 * s.fld (pPDL n) PDL.RX_WR_INDEX + 16) 2 = h ∧ t.stNat (0x4000 * n.val + 64 * s.fld (pPDL n) PDL.RX_WR_INDEX + 3) 1 = s.gen n ∧ (t.port n).pdl.line = (s.port n).pdl.line) ∧
  (∀ (s : State) (n : Port) (f : PdFrame) (h : Nat), s.Takes (pPDL n) → (s.port n).pdl.bistCarrier = false → f.set = [.sync1, .sync1, .sync1, .sync2] → f.symbolsOk = true → f.crcOk = false → f.bytes = leBytes 2 h → h < 65536 → hdrNdo h = 0 → 
      Leads (exec (.receiveFrame n f) s) fun t => s.Frame t [pPDL n, pPOL n, pSHARE] [(pCC n, 0x0C), (pVDM n, 0x40), (pVDM n, 0x10), (pVDM n, 0x34), (pVDM n, 0x60)] [portBytes n, descBytes] [snapBytes n] ∧ (t.port n).pdl = { (s.port n).pdl with gcrc := none } ∧ t.store = s.store ∧ t.fld (pPDL n) PDL.RX_WR_INDEX = s.fld (pPDL n) PDL.RX_WR_INDEX ∧ t.flag (pPDL n) PDL.PG_EVT_RX = s.flag (pPDL n) PDL.PG_EVT_RX) ∧
  (∀ (s : State) (n : Port) (k id : Nat), s.Takes (pPDL n) → s.enabled (pPDL n) = true → (k = 0 ∨ s.cableOk n k = true) → (s.port n).pdl.gcrc = some (k, id) → 
      Leads (exec (.sendGoodcrc n) s) fun t => s.Frame t [] [] [] [] ∧ (t.port n).pdl = { (s.port n).pdl with gcrc := none, line := some (k, leBytes 2 (s.hdrOut n k 1 id)), wire := some (s.fld (pCC n) CC.PG_STAT_POLARITY, wireBits k (leBytes 2 (s.hdrOut n k 1 id))) } ∧ t.regs = s.regs ∧ t.store = s.store) ∧
  (∀ (s : State) (n : Port) (l : LayerTx), s.Takes (pPDL n) → s.enabled (pPDL n) = true → s.lineFree n = true → (s.port n).pdl.layer = [l] → l.answer = true → l.sent = false → l.hdr = none → (l.sop = 0 ∨ s.cableOk n l.sop = true) → 
      Leads (exec (.autoAnswer n) s) fun t => s.Frame t [pPDL n] [] [portBytes n, descBytes] [] ∧ (t.port n).pdl.layer = [{ l with sent := true, waiting := true, tries := 0, hdr := some (s.hdrOut n l.sop (l.typ + 4096 * (l.body.length / 4)) (s.txCtr n l.sop)) }] ∧ (t.port n).pdl.line = some (l.sop, leBytes 2 (s.hdrOut n l.sop (l.typ + 4096 * (l.body.length / 4)) (s.txCtr n l.sop)) ++ l.body) ∧ t.regs = s.regs) ∧
  (∀ (s : State) (n : Port) (r : Reasm), s.Takes (pPDL n) → s.lineFree n = true → (s.port n).pdl.reasm = [r] → r.reqDue = true → 
      Leads (exec (.chunkRequestSend n) s) fun t => s.Frame t [pPDL n] [] [portBytes n, descBytes] [] ∧ (t.port n).pdl.reasm = [{ r with reqDue := false }] ∧ (t.port n).pdl.line.map (fun x => (x.1, x.2.drop 2)) = some (r.sop, leBytes 2 (r.size % 512 + 1024 + 2048 * (r.chunks % 16) + 32768) ++ [0, 0]) ∧ t.regs = s.regs) ∧
  (∀ (s : State) (n : Port) (r : Reasm), s.Takes (pPDL n) → (s.port n).pdl.reasm = [r] → r.waiting = true → r.buf < 4 → 
      Leads (exec (.chunkWaitTimeout n) s) fun t => s.Frame t [pPDL n, pPOL n] [(pVDM n, 0x40), (pVDM n, 0x10)] [portBytes n, descBytes] [] ∧ (t.port n).pdl.reasm = [] ∧ t.flag (pPDL n) (rxBusyBit r.buf) = false ∧ t.flag (pPDL n) PDL.PG_EVT_CHUNK_ERR = true) ∧
  (∀ (s : State) (n : Port) (m : BitVec 4), s.Takes (pPDL n) → (s.port n).pdl.reasm = [] → 
      Leads (exec (.xbufRel n m) s) fun t => s.Frame t [pPDL n] [] [] [] ∧ ∀ b : Fin 4, m.getLsbD b.val = true → t.flag (pPDL n) (rxBusyBit b.val) = false ∧ t.flag (pPDL n) (rxReadyBit b.val) = false) ∧
  (∀ (s : State) (n : Port) (i : BitVec 6), s.Takes (pPDL n) → 
      Leads (exec (.rxRdWrite n i) s) fun t => s.Frame t [] [(pPDL n, 0x48)] [] [] ∧ t.fld (pPDL n) PDL.RX_RD_INDEX = i.toNat ∧ t.fld (pPDL n) PDL.RX_WR_INDEX = s.fld (pPDL n) PDL.RX_WR_INDEX) ∧
  (∀ (s : State) (n : Port), s.Takes (pPDL n) → 
      Leads (exec (.bistCarrierEnd n) s) fun t => s.Frame t [] [] [] [] ∧ (t.port n).pdl = { (s.port n).pdl with bistCarrier := false } ∧ t.regs = s.regs)

/-- Transmitting (R183 to R194). TX_REQ queues a record while fewer than four wait; the head is checked and made ready, or ends GEN_DISCARD with a generation of another attach; it goes on the line and awaits its GoodCRC; a timeout leads to a retry, or to FAILED when the retries are used up; CANCEL ends what is not on the line. Each clause holds in the states and for the operands that its hypotheses name. -/
def Obligations.TransmittingCompletes : Prop :=
  (∀ (s : State) (n : Port) (i : Fin 16), s.Takes (pPDL n) → (s.port n).pdl.queue.length < 4 → s.txStatus n i.val ≠ 1 → s.txStatus n i.val ≠ 2 → 
      Leads (exec (.txReq n i) s) fun t => s.Frame t [] [(pPDL n, 0x10)] [portBytes n] [] ∧ (t.port n).pdl = { (s.port n).pdl with queue := (s.port n).pdl.queue ++ [i.val] } ∧ t.txStatus n i.val = 1 ∧ t.regs = s.regs) ∧
  (∀ (s : State) (n : Port) (i : Fin 16), s.Takes (pPDL n) → 4 ≤ (s.port n).pdl.queue.length → 
      Leads (exec (.txReq n i) s) fun t => s.Frame t [] [(pPDL n, 0x10)] [portBytes n] [] ∧ (t.port n).pdl = (s.port n).pdl ∧ t.flag (pPDL n) PG.EVT_LOCKED_WRITE = true ∧ t.store = s.store) ∧
  (∀ (s : State) (n : Port) (i : Nat) (l : List Nat), s.Takes (pPDL n) → (s.port n).pdl.queue = i :: l → (s.port n).pdl.phase = .idle → s.stNat (txAt n i + 3) 1 = s.gen n → s.txIntact n i = true → s.txRefused n i = false → s.txAms n i = false → 
      Leads (exec (.txHeadCheck n) s) fun t => s.Frame t [pPDL n, pPOL n, pBANK] [(pVDM n, 0x40), (pVDM n, 0x10), (pSTORE, 0x10), (pSTORE, 0x28), (pSTORE, 0x2C), (pSTORE, 0x30), (pSTORE, 0x0C)] [portBytes n, descBytes] [] ∧ (t.port n).pdl = { (s.port n).pdl with phase := .ready } ∧ t.txStatus n i = 2 ∧ t.regs = s.regs) ∧
  (∀ (s : State) (n : Port) (i : Nat) (l : List Nat), s.Takes (pPDL n) → (s.port n).pdl.queue = i :: l → i < 16 → (s.port n).pdl.phase = .idle → s.stNat (txAt n i + 3) 1 ≠ s.gen n → 
      Leads (exec (.txHeadCheck n) s) fun t => s.Frame t [pPDL n, pPOL n, pBANK] [(pVDM n, 0x40), (pVDM n, 0x10), (pSTORE, 0x10), (pSTORE, 0x28), (pSTORE, 0x2C), (pSTORE, 0x30), (pSTORE, 0x0C)] [portBytes n, descBytes] [] ∧ (t.port n).pdl.queue = l ∧ t.txStatus n i = 6 ∧ t.flag (pPDL n) PDL.PG_EVT_GEN_DISCARD = true) ∧
  (∀ (s : State) (n : Port) (i : Nat) (l : List Nat), s.Takes (pPDL n) → (s.port n).pdl.phase = .hold → s.lineFree n = true → (s.port n).pdl.layer = [] → (s.port n).pdl.queue = i :: l → s.ccState n = .attachedSrc → 
      Leads (exec (.collisionHoldEnd n) s) fun t => s.Frame t [pPDL n, pPOL n] [(pVDM n, 0x40), (pVDM n, 0x10)] [portBytes n, descBytes] [] ∧ (t.port n).pdl.phase = .waitGcrc ∧ (t.port n).pdl.wired = true ∧ (t.port n).pdl.queue = i :: l ∧ (t.port n).pdl.line.isSome = true) ∧
  (∀ (s : State) (n : Port) (i : Nat) (l : List Nat), s.Takes (pPDL n) → (s.port n).pdl.phase = .ready → s.lineFree n = true → (s.port n).pdl.layer = [] → (s.port n).pdl.queue = i :: l → s.ccState n = .attachedSrc → (s.port n).pdl.wired = false → (s.txSop n i = 0 ∨ s.cableOk n (s.txSop n i) = true) → isControl (s.stNat (txAt n i + 16) 2) 13 = false → 
      Leads (exec (.transmitFrame n) s) fun t => s.Frame t [pPDL n, pPOL n] [(pVDM n, 0x40), (pVDM n, 0x10)] [portBytes n, descBytes] [] ∧ (t.port n).pdl = { (s.port n).pdl with phase := .waitGcrc, wired := true, tries := 0, hdr := some (s.txFrame n i (s.txSop n i)).1, line := some (s.txSop n i, leBytes 2 (s.txFrame n i (s.txSop n i)).1 ++ (s.txFrame n i (s.txSop n i)).2.drop 2), wire := some (s.fld (pCC n) CC.PG_STAT_POLARITY, wireBits (s.txSop n i) (leBytes 2 (s.txFrame n i (s.txSop n i)).1 ++ (s.txFrame n i (s.txSop n i)).2.drop 2)) } ∧ t.regs = s.regs ∧ t.store = s.store) ∧
  (∀ (s : State) (n : Port) (i : Nat) (l : List Nat), s.Takes (pPDL n) → (s.port n).pdl.phase = .waitGcrc → (s.port n).pdl.layer = [] → (s.port n).pdl.queue = i :: l → (s.port n).pdl.tries < s.maxRetries n (s.txSop n i) → 
      Leads (exec (.goodcrcTimeout n) s) fun t => s.Frame t [pPDL n, pPOL n] [(pVDM n, 0x40), (pVDM n, 0x10)] [portBytes n, descBytes] [] ∧ (t.port n).pdl = { (s.port n).pdl with phase := .ready } ∧ t.regs = s.regs ∧ t.store = s.store) ∧
  (∀ (s : State) (n : Port) (i : Nat) (l : List Nat), s.Takes (pPDL n) → (s.port n).pdl.phase = .waitGcrc → (s.port n).pdl.layer = [] → (s.port n).pdl.queue = i :: l → i < 16 → s.maxRetries n (s.txSop n i) ≤ (s.port n).pdl.tries → 
      Leads (exec (.goodcrcTimeout n) s) fun t => s.Frame t [pPDL n, pPOL n] [(pVDM n, 0x40), (pVDM n, 0x10)] [portBytes n, descBytes] [] ∧ (t.port n).pdl.queue = l ∧ t.txStatus n i = 4 ∧ t.flag (pPDL n) PDL.PG_EVT_TX_FAIL = true) ∧
  (∀ (s : State) (n : Port) (key : BitVec 16) (i : Nat), s.Takes (pPDL n) → key.toNat = 0x4B9D → (s.port n).pdl.queue = [i] → i < 16 → (s.port n).pdl.phase = .idle → 
      Leads (exec (.pdlCmdCancel n key) s) fun t => s.Frame t [pPDL n] [(pVDM n, 0x40), (pVDM n, 0x10)] [portBytes n, descBytes] [] ∧ (t.port n).pdl.queue = [] ∧ t.txStatus n i = 9 ∧ t.flag (pPDL n) PDL.PG_EVT_TX_FAIL = true)

/-- Hard Resets (R200 to R202), Cable Reset (R203) and the commands of PDL[n]. A Hard Reset, sent or received, adds 1 to the generation, clears every MessageID counter, invalidates the contract snapshot and leaves HR_PENDING set until HR_COMPLETE. MSGID_LOAD is refused while the layer is enabled. Each clause holds in the states and for the operands that its hypotheses name. -/
def Obligations.HardResetAndLayerCommandsComplete : Prop :=
  (∀ (s : State) (n : Port) (key : BitVec 16), s.Takes (pPDL n) → key.toNat = 0x4B9D → s.pdAttached n = true → (s.port n).pdl.queue = [] → 
      Leads (exec (.pdlCmdHardReset n key) s) fun t => s.Frame t [pPDL n] [(pVDM n, 0x40), (pVDM n, 0x10)] [portBytes n, descBytes] [] ∧ (t.port n).pdl.hrSend = true ∧ (t.port n).pdl.layer = [] ∧ t.flag (pPDL n) PDL.PG_STAT_HR_PENDING = true ∧ t.fld (pCC n) CC.PG_STAT_GEN = s.fld (pCC n) CC.PG_STAT_GEN) ∧
  (∀ (s : State) (n : Port), s.Takes (pPDL n) → (s.port n).pdl.hrSend = true → 
      Leads (exec (.hardResetSent n) s) fun t => s.Frame t [pPDL n, pSHARE] [(pCC n, 0x0C), (pVDM n, 0x40), (pVDM n, 0x10), (pVDM n, 0x34), (pVDM n, 0x60), (pPOL n, 0x0C), (pPOL n, 0x34), (pPOL n, 0x10), (pPOL n, 0xB4)] [portBytes n, descBytes] [snapBytes n] ∧ t.flag (pPDL n) PDL.PG_EVT_HR_SENT = true ∧ t.flag (pPDL n) PDL.PG_STAT_HR_PENDING = true ∧ t.rd (pPDL n) PDL.MSGID_TX_SOP.off = 0 ∧ t.fld (pCC n) CC.PG_STAT_GEN = (s.fld (pCC n) CC.PG_STAT_GEN + 1) % 256 ∧ t.snapMarked n = false ∧ (t.port n).pdl.hrSend = false ∧ (t.port n).pdl.line = some (3, [])) ∧
  (∀ (s : State) (n : Port), s.Takes (pPDL n) → s.pdAttached n = true → 
      Leads (exec (.hardResetReceived n) s) fun t => s.Frame t [pPDL n, pSHARE] [(pCC n, 0x0C), (pVDM n, 0x40), (pVDM n, 0x10), (pVDM n, 0x34), (pVDM n, 0x60), (pPOL n, 0x0C), (pPOL n, 0x34), (pPOL n, 0x10), (pPOL n, 0xB4)] [portBytes n, descBytes] [snapBytes n] ∧ t.flag (pPDL n) PDL.PG_EVT_HR_RCVD = true ∧ t.flag (pPDL n) PDL.PG_STAT_HR_PENDING = true ∧ t.rd (pPDL n) PDL.MSGID_TX_SOP.off = 0 ∧ t.fld (pCC n) CC.PG_STAT_GEN = (s.fld (pCC n) CC.PG_STAT_GEN + 1) % 256 ∧ t.snapMarked n = false) ∧
  (∀ (s : State) (n : Port) (key : BitVec 16), s.Takes (pPDL n) → key.toNat = 0x4B9D → s.cableOk n 1 = true → (s.port n).pdl.queue = [] → 
      Leads (exec (.pdlCmdCableReset n key) s) fun t => s.Frame t [pPDL n] [(pVDM n, 0x40), (pVDM n, 0x10)] [portBytes n, descBytes] [] ∧ (t.port n).pdl.line = some (4, []) ∧ t.flag (pPDL n) PDL.PG_EVT_CR_SENT = true ∧ t.txCtr n 1 = 0 ∧ t.txCtr n 2 = 0) ∧
  (∀ (s : State) (n : Port) (key : BitVec 16), s.Takes (pPDL n) → key.toNat = 0x4B9D → s.cableOk n 1 = false → 
      Leads (exec (.pdlCmdCableReset n key) s) fun t => s.Frame t [pPDL n] [(pVDM n, 0x40), (pVDM n, 0x10)] [portBytes n, descBytes] [] ∧ t.flag (pPDL n) PDL.PG_EVT_CMD_REFUSED = true ∧ t.ports = s.ports ∧ t.store = s.store) ∧
  (∀ (s : State) (n : Port) (key : BitVec 16), s.Takes (pPDL n) → key.toNat = 0x4B9D → s.ccState n = .attachedSrc → 
      Leads (exec (.pdlCmdAmsEnd n key) s) fun t => s.Frame t [] [(pPDL n, 0x10)] [] [] ∧ (t.port n).pdl = { (s.port n).pdl with ng := false } ∧ t.regs = s.regs) ∧
  (∀ (s : State) (n : Port) (key : BitVec 16), s.Takes (pPDL n) → key.toNat = 0x4B9D → 
      Leads (exec (.pdlCmdHrComplete n key) s) fun t => s.Frame t [] [(pPDL n, 0x10), (pPDL n, 0x0C)] [] [] ∧ t.flag (pPDL n) PDL.PG_STAT_HR_PENDING = false ∧ t.ports = s.ports) ∧
  (∀ (s : State) (n : Port) (key : BitVec 16), s.Takes (pPDL n) → key.toNat = 0x4B9D → 
      Leads (exec (.pdlCmdClearStats n key) s) fun t => s.Frame t [] [(pPDL n, 0x10), (pPDL n, 0x6C), (pPDL n, 0x68), (pPDL n, 0x64), (pPDL n, 0x60)] [] [] ∧ t.rd (pPDL n) 0x60 = 0 ∧ t.rd (pPDL n) 0x64 = 0 ∧ t.rd (pPDL n) 0x68 = 0 ∧ t.rd (pPDL n) 0x6C = 0 ∧ t.ports = s.ports) ∧
  (∀ (s : State) (n : Port) (v : Word), s.Takes (pPDL n) → s.enabled (pPDL n) = false → 
      Leads (exec (.msgidLoad n v) s) fun t => s.Frame t [] [(pPDL n, 0x10), (pPDL n, 0x58)] [] [] ∧ t.rd (pPDL n) PDL.MSGID_TX_SOP.off = (v &&& 0x0FFF0777)) ∧
  (∀ (s : State) (n : Port) (v : Word), s.Takes (pPDL n) → s.enabled (pPDL n) = true → 
      Leads (exec (.msgidLoad n v) s) fun t => s.Frame t [] [(pPDL n, 0x10), (pPDL n, 0x58)] [] [] ∧ t.rd (pPDL n) PDL.MSGID_TX_SOP.off = s.rd (pPDL n) PDL.MSGID_TX_SOP.off ∧ t.flag (pPDL n) PG.EVT_LOCKED_WRITE = true) ∧
  (∀ (s : State) (n : Port), s.Takes (pPDL n) → s.flag (pPOL n) POL.PG_STAT_HR_OWED = false → (s.port n).fw.softDue = false → 
      Leads (exec (.pdlEnableWrite n true) s) fun t => s.Frame t [pPDL n] [(pVDM n, 0x40), (pVDM n, 0x10), (pPOL n, 0x0C)] [portBytes n, descBytes] [] ∧ t.enabled (pPDL n) = true ∧ t.ports = s.ports ∧ t.store = s.store) ∧
  (∀ (s : State) (n : Port), s.Takes (pPDL n) → (s.port n).pdl.queue = [] → 
      Leads (exec (.pdlEnableWrite n false) s) fun t => s.Frame t [pPDL n] [(pVDM n, 0x40), (pVDM n, 0x10), (pPOL n, 0x0C)] [portBytes n, descBytes] [] ∧ t.enabled (pPDL n) = false ∧ t.ports = s.ports ∧ t.store = s.store)

/-- The commands of POL[n] (R219, R232, R239) and the steps of Table 9.6. COMMIT, CLEAR, TRANS_CMD and ROLE_CMD wait, in order, for the next tick boundary and change no register before it. A transition leaves DELAY for RAMP, ends DONE with VBUS inside its window, or FAILED with the snapshot cleared; the Hard Reset sequence as source turns power off, sees vSafe0V and recovers. Each clause holds in the states and for the operands that its hypotheses name. -/
def Obligations.ContractCommandsComplete : Prop :=
  (∀ (s : State) (n : Port) (gen : BitVec 8), s.Takes (pPOL n) → 
      Leads (exec (.conCommit n gen) s) fun t => s.Frame t [] [] [] [] ∧ (t.port n).pol = { (s.port n).pol with cmds := (s.port n).pol.cmds ++ [.commit gen.toNat] } ∧ t.regs = s.regs ∧ t.aos = s.aos) ∧
  (∀ (s : State) (n : Port) (gen : BitVec 8), s.Takes (pPOL n) → 
      Leads (exec (.conClear n gen) s) fun t => s.Frame t [] [] [] [] ∧ (t.port n).pol = { (s.port n).pol with cmds := (s.port n).pol.cmds ++ [.clear gen.toNat] } ∧ t.regs = s.regs ∧ t.aos = s.aos) ∧
  (∀ (s : State) (n : Port) (v : BitVec 12) (gen : BitVec 8), s.Takes (pPOL n) → 
      Leads (exec (.transGo n v gen) s) fun t => s.Frame t [] [] [] [] ∧ (t.port n).pol = { (s.port n).pol with cmds := (s.port n).pol.cmds ++ [.trans v.toNat gen.toNat] } ∧ t.regs = s.regs) ∧
  (∀ (s : State) (n : Port) (dfp : Bool) (gen : BitVec 8), s.Takes (pPOL n) → 
      Leads (exec (.roleCmd n dfp gen) s) fun t => s.Frame t [] [] [] [] ∧ (t.port n).pol = { (s.port n).pol with cmds := (s.port n).pol.cmds ++ [.role dfp gen.toNat] } ∧ t.regs = s.regs) ∧
  (∀ (s : State) (n : Port), s.fld (pPOL n) POL.TRANS_STAT_STATE = 1 → 
      Leads (exec (.transitionStart n) s) fun t => s.Frame t [] [(pPOL n, 0x34), (pPOL n, 0x10), (pPOL n, 0x2C), (pPOL n, 0x0C)] [] [] ∧ t.fld (pPOL n) POL.TRANS_STAT_STATE = 2 ∧ (t.port n).pol.target = 4 * s.fld (pPOL n) POL.TRANS_STAT_V_OLD ∧ (t.port n).pol.inWin = 0 ∧ (t.port n).pol.twinTrim = 0) ∧
  (∀ (s : State) (n : Port), s.fld (pPOL n) POL.TRANS_STAT_STATE = 3 → 2 ≤ (s.port n).pol.inWin → 
      Leads (exec (.transDone n) s) fun t => s.Frame t [] [(pPOL n, 0x0C), (pPOL n, 0x34), (pPOL n, 0x10), (pPDL n, 0x10)] [descBytes, portBytes n] [] ∧ t.fld (pPOL n) POL.TRANS_STAT_STATE = 4 ∧ (t.port n).pol.target = 4 * s.fld (pPOL n) POL.TRANS_STAT_V_NEW ∧ t.flag (pPOL n) POL.PG_EVT_TRANS_DONE = true ∧ (t.port n).guard.blank = s.blankTk n) ∧
  (∀ (s : State) (n : Port), s.fld (pPOL n) POL.TRANS_STAT_STATE = 3 → (s.port n).pol.inWin < 2 → s.enabled (pPDL n) = false → 
      Leads (exec (.transFail n) s) fun t => s.Frame t [pPDL n] [(pPOL n, 0x0C), (pPOL n, 0xB4), (pPOL n, 0x34), (pPOL n, 0x10), (pVDM n, 0x40), (pVDM n, 0x10)] [descBytes, portBytes n] [snapBytes n] ∧ t.fld (pPOL n) POL.TRANS_STAT_STATE = 5 ∧ t.flag (pPOL n) POL.PG_EVT_TRANS_FAIL = true ∧ t.snapMarked n = false ∧ t.flag (pPOL n) POL.PG_STAT_HR_OWED = true) ∧
  (∀ (s : State) (n : Port), s.fld (pPOL n) POL.PG_STAT_HR_SEQ = 1 → 
      Leads (exec (.hrWaitExpiry n) s) fun t => s.Frame t [] [(pPOL n, 0x10), (pPOL n, 0x2C), (pPOL n, 0x0C), (pGUARD n, 0x0C), (pCC n, 0x0C)] [] [] ∧ t.fld (pPOL n) POL.PG_STAT_HR_SEQ = 2 ∧ (t.port n).pol.target = 0 ∧ t.flag (pCC n) CC.PG_STAT_VCONN_ON = false ∧ ((t.port n).pol.winLo, (t.port n).pol.winHi) = win5) ∧
  (∀ (s : State) (n : Port) (mv : Nat), s.fld (pPOL n) POL.PG_STAT_HR_SEQ = 2 → mv < 800 → 
      Leads (exec (.hrVsafe0 n mv) s) fun t => s.Frame t [] [(pPOL n, 0x10), (pPOL n, 0x0C)] [descBytes] [] ∧ t.fld (pPOL n) POL.PG_STAT_HR_SEQ = 3 ∧ t.flag (pPOL n) POL.PG_EVT_HR_VSAFE0 = true ∧ (t.port n).vbusMv = mv ∧ (t.port n).guard.dsch = false) ∧
  (∀ (s : State) (n : Port), s.fld (pPOL n) POL.PG_STAT_HR_SEQ = 3 → 
      Leads (exec (.hrRecoverExpiry n) s) fun t => s.Frame t [] [(pPOL n, 0x0C)] [] [] ∧ t.fld (pPOL n) POL.PG_STAT_HR_SEQ = 4 ∧ (t.port n).cc.autoDone = false)

/-- The path guard's states (Table 11.1). A ramp completes into ON or trips; the current limit enters and leaves LIMIT; a trip on the source path records its cause and tick, opens the path, adds 1 to the generation and sets TRIP; the guard waits in BACKOFF once VBUS is below 0.8 V and then tries again or rests in OFF. Each clause holds in the states and for the operands that its hypotheses name. -/
def Obligations.GuardRampAndLimitComplete : Prop :=
  (∀ (s : State) (n : Port) (active : Bool), s.guardState n = 2 → 
      Leads (exec (.foldback n active) s) fun t => s.Frame t [] [(pGUARD n, 0x0C)] [] [] ∧ t.flag (pGUARD n) GUARD.PG_STAT_FB_ACTIVE = active ∧ t.guardState n = 2) ∧
  (∀ (s : State) (n : Port), s.guardState n = 2 → s.flag (pGUARD n) GUARD.PG_STAT_FB_ACTIVE = true → s.ccState n = .attachedSrc → s.shadowing n = false → (s.port n).guard.trips = [] → 800 ≤ (s.port n).vbusMv → 
      Leads (exec (.soaTimeout n) s) fun t => s.Frame t [pPDL n, pSHARE] [(pGUARD n, 0x0C), (pGUARD n, 0x54), (pGUARD n, 0x58), (pGUARD n, 0x5C), (pGUARD n, 0x10), (pPOL n, 0x10), (pPOL n, 0x2C), (pPOL n, 0x0C), (pPOL n, 0x34), (pCC n, 0x0C), (pCC n, 0x10), (pVDM n, 0x40), (pVDM n, 0x10), (pVDM n, 0x34), (pVDM n, 0x60)] [descBytes, portBytes n] [snapBytes n] ∧ t.guardState n = 5 ∧ t.gsrcOn n = false ∧ t.fld (pGUARD n) GUARD.TRIP_CAUSE = 7 ∧ t.flag (pGUARD n) GUARD.PG_EVT_SOA = true ∧ t.flag (pGUARD n) GUARD.PG_EVT_TRIP = true ∧ (t.port n).guard.trips = [s.tick] ∧ t.fld (pCC n) CC.PG_STAT_GEN = (s.fld (pCC n) CC.PG_STAT_GEN + 1) % 256) ∧
  (∀ (s : State) (n : Port) (vbus vin gate : Nat), s.guardState n = 2 → s.flag (pGUARD n) GUARD.PG_STAT_FB_ACTIVE = false → s.guardPath n = 1 → vbus ≤ vin + 500 → vin ≤ vbus + 500 → 
      Leads (exec (.rampComplete n vbus vin gate) s) fun t => s.Frame t [] [(pGUARD n, 0x10), (pGUARD n, 0x0C), (pPOL n, 0x10), (pPOL n, 0x0C)] [descBytes] [] ∧ t.guardState n = 3 ∧ t.flag (pGUARD n) GUARD.PG_EVT_RAMP_DONE = true ∧ (t.port n).guard.blank = s.blankTk n ∧ (t.port n).vbusMv = vbus) ∧
  (∀ (s : State) (n : Port), s.guardState n = 2 → s.ccState n = .attachedSrc → s.shadowing n = false → (s.port n).guard.trips = [] → 800 ≤ (s.port n).vbusMv → 
      Leads (exec (.rampFail n) s) fun t => s.Frame t [pPDL n, pSHARE] [(pGUARD n, 0x0C), (pGUARD n, 0x54), (pGUARD n, 0x58), (pGUARD n, 0x5C), (pGUARD n, 0x10), (pPOL n, 0x10), (pPOL n, 0x2C), (pPOL n, 0x0C), (pPOL n, 0x34), (pCC n, 0x0C), (pCC n, 0x10), (pVDM n, 0x40), (pVDM n, 0x10), (pVDM n, 0x34), (pVDM n, 0x60)] [descBytes, portBytes n] [snapBytes n] ∧ t.guardState n = 5 ∧ t.gsrcOn n = false ∧ t.fld (pGUARD n) GUARD.TRIP_CAUSE = 8 ∧ t.flag (pGUARD n) GUARD.PG_EVT_RAMP_FAIL = true ∧ t.flag (pGUARD n) GUARD.PG_EVT_TRIP = true ∧ (t.port n).guard.trips = [s.tick]) ∧
  (∀ (s : State) (n : Port) (sc ovp rcp : Bool), s.guardDrives n = true → s.ccState n = .attachedSrc → s.shadowing n = false → (s.port n).guard.trips = [] → 800 ≤ (s.port n).vbusMv → (sc || ovp || rcp) = true → 
      Leads (exec (.fastTrip n sc ovp rcp) s) fun t => s.Frame t [pPDL n, pSHARE] [(pGUARD n, 0x0C), (pGUARD n, 0x54), (pGUARD n, 0x58), (pGUARD n, 0x5C), (pGUARD n, 0x10), (pPOL n, 0x10), (pPOL n, 0x2C), (pPOL n, 0x0C), (pPOL n, 0x34), (pCC n, 0x0C), (pCC n, 0x10), (pVDM n, 0x40), (pVDM n, 0x10), (pVDM n, 0x34), (pVDM n, 0x60)] [descBytes, portBytes n] [snapBytes n] ∧ t.guardState n = 5 ∧ t.gsrcOn n = false ∧ t.fld (pGUARD n) GUARD.TRIP_CAUSES = sc.toNat + 2 * ovp.toNat + 4 * rcp.toNat ∧ t.fld (pGUARD n) GUARD.TRIP_CAUSE = (if sc then 1 else if ovp then 2 else 3) ∧ t.flag (pGUARD n) GUARD.PG_EVT_TRIP = true ∧ (t.port n).guard.trips = [s.tick]) ∧
  (∀ (s : State) (n : Port), s.guardDrives n = true → s.ccState n = .attachedSrc → s.blanked n = false → s.shadowing n = false → (s.port n).guard.trips = [] → 800 ≤ (s.port n).vbusMv → 
      Leads (exec (.uvpTrip n) s) fun t => s.Frame t [pPDL n, pSHARE] [(pGUARD n, 0x0C), (pGUARD n, 0x54), (pGUARD n, 0x58), (pGUARD n, 0x5C), (pGUARD n, 0x10), (pPOL n, 0x10), (pPOL n, 0x2C), (pPOL n, 0x0C), (pPOL n, 0x34), (pCC n, 0x0C), (pCC n, 0x10), (pVDM n, 0x40), (pVDM n, 0x10), (pVDM n, 0x34), (pVDM n, 0x60)] [descBytes, portBytes n] [snapBytes n] ∧ t.guardState n = 5 ∧ t.gsrcOn n = false ∧ t.fld (pGUARD n) GUARD.TRIP_CAUSE = 4 ∧ t.flag (pGUARD n) GUARD.PG_EVT_TRIP = true) ∧
  (∀ (s : State) (n : Port), s.guardState n = 3 → 
      Leads (exec (.limitEntry n) s) fun t => s.Frame t [] [(pGUARD n, 0x10), (pGUARD n, 0x0C)] [] [] ∧ t.guardState n = 4 ∧ t.flag (pGUARD n) GUARD.PG_STAT_FB_ACTIVE = true ∧ t.flag (pGUARD n) GUARD.PG_EVT_LIMIT = true) ∧
  (∀ (s : State) (n : Port), s.guardState n = 4 → 
      Leads (exec (.limitExit n) s) fun t => s.Frame t [] [(pGUARD n, 0x0C)] [] [] ∧ t.guardState n = 3 ∧ t.flag (pGUARD n) GUARD.PG_STAT_FB_ACTIVE = false ∧ (t.port n).guard.blank = s.blankTk n) ∧
  (∀ (s : State) (n : Port) (mv : Nat), s.guardState n = 5 → mv < 800 → 
      Leads (exec (.trippedVbusLow n mv) s) fun t => s.Frame t [] [(pGUARD n, 0x0C)] [] [] ∧ t.guardState n = 6 ∧ (t.port n).vbusMv = mv) ∧
  (∀ (s : State) (n : Port), s.guardState n = 6 → s.mayServe n = false → 
      Leads (exec (.backoffExpiry n) s) fun t => s.Frame t [] [(pGUARD n, 0x0C), (pGUARD n, 0x10)] [] [] ∧ t.guardState n = 0 ∧ t.flag (pGUARD n) GUARD.PG_EVT_RETRY = s.flag (pGUARD n) GUARD.PG_EVT_RETRY) ∧
  (∀ (s : State) (n : Port), s.guardState n = 6 → s.mayServe n = true → 
      Leads (exec (.backoffExpiry n) s) fun t => s.Frame t [] [(pGUARD n, 0x0C), (pGUARD n, 0x10)] [] [] ∧ t.flag (pGUARD n) GUARD.PG_EVT_RETRY = true ∧ (t.guardState n = 1 ∨ t.guardState n = 2)) ∧
  (∀ (s : State) (n : Port), s.guardState n = 3 → 
      Leads (exec (.backoffStepReset n) s) fun t => s.Frame t [] [] [] [] ∧ (t.port n).guard = { (s.port n).guard with step := 0 } ∧ t.regs = s.regs)

/-- Retirement (R276, R277, R281), the discharge sink (R278, R279), blocks of the sink path (R280) and the commands of GUARD[n] and CMPT. A shorted FET or the command retires port and Type-C state together; UNRETIRE at vSafe0V leads through ErrorRecovery; a discharge ends below 0.8 V or by its limits; RETEST clears the FAILED marks of a port at rest. Each clause holds in the states and for the operands that its hypotheses name. -/
def Obligations.GuardRetireSinkAndDischargeComplete : Prop :=
  (∀ (s : State) (n : Port), s.guardDrives n = false → s.guardState n ≠ 7 → 
      Leads (exec (.shortFet n 1) s) fun t => s.Frame t [pPDL n, pSHARE] [(pGUARD n, 0x54), (pGUARD n, 0x0C), (pGUARD n, 0x10), (pCC n, 0x10), (pCC n, 0x0C), (pVDM n, 0x40), (pVDM n, 0x10), (pVDM n, 0x34), (pVDM n, 0x60), (pPOL n, 0x0C), (pPOL n, 0x34), (pPOL n, 0x10), (pPOL n, 0x2C)] [portBytes n, descBytes] [snapBytes n] ∧ t.guardState n = 7 ∧ t.ccState n = .retired ∧ t.flag (pGUARD n) GUARD.PG_EVT_SHORT_FET = true ∧ t.fld (pGUARD n) GUARD.TRIP_CAUSE = 10 ∧ t.gsrcOn n = false ∧ t.gsnkOn n = false) ∧
  (∀ (s : State) (n : Port) (mv : Nat) (timeout : Bool), (s.port n).guard.dschWant = true → mv < 800 → 
      Leads (exec (.dschEnd n mv timeout) s) fun t => s.Frame t [pPDL n, pSHARE] [(pPOL n, 0x0C), (pPOL n, 0x34), (pPOL n, 0x10), (pPOL n, 0x2C), (pGUARD n, 0x10), (pGUARD n, 0x54), (pGUARD n, 0x0C), (pCC n, 0x10), (pCC n, 0x0C), (pVDM n, 0x40), (pVDM n, 0x10), (pVDM n, 0x34), (pVDM n, 0x60)] [portBytes n, descBytes] [snapBytes n] ∧ (t.port n).guard.dsch = false ∧ (t.port n).guard.dschWant = false ∧ (t.port n).vbusMv = mv) ∧
  (∀ (s : State) (n : Port) (mv : Nat), (s.port n).guard.dschWant = true → 800 ≤ mv → 
      Leads (exec (.dschEnd n mv true) s) fun t => s.Frame t [pPDL n, pSHARE] [(pPOL n, 0x0C), (pPOL n, 0x34), (pPOL n, 0x10), (pPOL n, 0x2C), (pGUARD n, 0x10), (pGUARD n, 0x54), (pGUARD n, 0x0C), (pCC n, 0x10), (pCC n, 0x0C), (pVDM n, 0x40), (pVDM n, 0x10), (pVDM n, 0x34), (pVDM n, 0x60)] [portBytes n, descBytes] [snapBytes n] ∧ (t.port n).guard.dsch = false ∧ (t.port n).guard.dschWant = false ∧ t.flag (pGUARD n) GUARD.PG_EVT_DSCH_TO = true) ∧
  (∀ (s : State) (n : Port), (s.port n).guard.dsch = true → 
      Leads (exec (.dschRest n) s) fun t => s.Frame t [] [(pGUARD n, 0x10), (pGUARD n, 0x0C)] [] [] ∧ (t.port n).guard = { (s.port n).guard with dsch := false } ∧ t.flag (pGUARD n) GUARD.PG_STAT_DSCH_REST = true ∧ t.flag (pGUARD n) GUARD.PG_EVT_DSCH_TO = true) ∧
  (∀ (s : State) (n : Port), s.flag (pGUARD n) GUARD.PG_STAT_DSCH_REST = true → 
      Leads (exec (.dschRestEnd n) s) fun t => s.Frame t [] [(pGUARD n, 0x0C)] [] [] ∧ t.flag (pGUARD n) GUARD.PG_STAT_DSCH_REST = false ∧ (t.port n).guard = { (s.port n).guard with dsch := (s.port n).guard.dschWant }) ∧
  (∀ (s : State) (n : Port), s.guardDrives n = true → s.guardPath n = 2 → (s.port n).guard.blocks = [] → s.inShareSet n = false → 
      Leads (exec (.sinkBlock n) s) fun t => s.Frame t [pSHARE] [(pGUARD n, 0x10), (pGUARD n, 0x0C)] [descBytes] [] ∧ t.flag (pGUARD n) GUARD.PG_STAT_SNK_BLOCKED = true ∧ t.flag (pGUARD n) GUARD.PG_EVT_SNK_BLOCK = true ∧ (t.port n).guard.blocks = [s.tick] ∧ t.gsnkOn n = false ∧ t.guardState n = s.guardState n) ∧
  (∀ (s : State) (n : Port) (mv : Nat), s.flag (pGUARD n) GUARD.PG_STAT_SNK_BLOCKED = true → s.isMember n = false → (s.port n).pol.winLo ≤ 5 * mv → 5 * mv ≤ (s.port n).pol.winHi → 
      Leads (exec (.sinkReclose n mv) s) fun t => s.Frame t [] [(pGUARD n, 0x0C)] [] [] ∧ t.flag (pGUARD n) GUARD.PG_STAT_SNK_BLOCKED = false ∧ (t.port n).vbusMv = mv) ∧
  (∀ (s : State) (n : Port) (key : BitVec 16), s.Takes (pGUARD n) → key.toNat = 0x6A91 → s.ccState n = .attachedSnk → s.inf (pGUARD n) GUARD.CFG_SNK_EN = 1 → 
      Leads (exec (.guardCmdSnkClose n key) s) fun t => s.Frame t [] [(pGUARD n, 0x10), (pGUARD n, 0x0C)] [] [] ∧ t.flag (pGUARD n) GUARD.PG_STAT_SNK_REQ = true ∧ t.flag (pGUARD n) GUARD.PG_EVT_CMD_REFUSED = s.flag (pGUARD n) GUARD.PG_EVT_CMD_REFUSED) ∧
  (∀ (s : State) (n : Port) (key : BitVec 16), s.Takes (pGUARD n) → key.toNat = 0x6A91 → s.ccState n ≠ .attachedSnk → 
      Leads (exec (.guardCmdSnkClose n key) s) fun t => s.Frame t [] [(pGUARD n, 0x10), (pGUARD n, 0x0C)] [] [] ∧ t.flag (pGUARD n) GUARD.PG_EVT_CMD_REFUSED = true ∧ t.flag (pGUARD n) GUARD.PG_STAT_SNK_REQ = s.flag (pGUARD n) GUARD.PG_STAT_SNK_REQ) ∧
  (∀ (s : State) (n : Port) (key : BitVec 16), s.Takes (pGUARD n) → key.toNat = 0x6A91 → s.guardPath n = 2 → s.guardState n = 3 → s.inShareSet n = false → 
      Leads (exec (.guardCmdSnkOpen n key) s) fun t => s.Frame t [pSHARE] [(pGUARD n, 0x10), (pGUARD n, 0x0C)] [descBytes] [] ∧ t.flag (pGUARD n) GUARD.PG_STAT_SNK_REQ = false ∧ t.guardState n = 0 ∧ t.gsnkOn n = false) ∧
  (∀ (s : State) (n : Port) (key : BitVec 16), s.Takes (pGUARD n) → key.toNat = 0x6A91 → s.guardState n = 7 → (s.port n).vbusMv ≤ 800 → 
      Leads (exec (.guardCmdUnretire n key) s) fun t => s.Frame t [pCMPT, pPDL n, pSHARE] [(pGUARD n, 0x10), (pGUARD n, 0x0C), (pGUARD n, 0x5C), (pCC n, 0x10), (pCC n, 0x0C), (pVDM n, 0x40), (pVDM n, 0x10), (pVDM n, 0x34), (pVDM n, 0x60), (pPOL n, 0x0C), (pPOL n, 0x34), (pPOL n, 0x10), (pPOL n, 0x2C)] [descBytes, portBytes n] [snapBytes n] ∧ t.guardState n = 0 ∧ t.ccState n = .errorRecovery ∧ t.failedMask n = 0 ∧ t.flag (pGUARD n) GUARD.PG_EVT_UNRETIRED = true ∧ (t.port n).guard.trips = []) ∧
  (∀ (s : State) (n : Port) (key : BitVec 16), s.Takes (pGUARD n) → key.toNat = 0x6A91 → s.guardState n ≠ 7 → 
      Leads (exec (.guardCmdRetire n key) s) fun t => s.Frame t [pPDL n, pSHARE] [(pGUARD n, 0x10), (pGUARD n, 0x54), (pGUARD n, 0x0C), (pCC n, 0x10), (pCC n, 0x0C), (pVDM n, 0x40), (pVDM n, 0x10), (pVDM n, 0x34), (pVDM n, 0x60), (pPOL n, 0x0C), (pPOL n, 0x34), (pPOL n, 0x10), (pPOL n, 0x2C)] [portBytes n, descBytes] [snapBytes n] ∧ t.guardState n = 7 ∧ t.ccState n = .retired ∧ t.fld (pGUARD n) GUARD.TRIP_CAUSE = 12 ∧ t.gsrcOn n = false ∧ t.gsnkOn n = false ∧ t.flag (pCC n) CC.PG_STAT_VCONN_ON = false) ∧
  (∀ (s : State) (n : Port) (key : BitVec 16), s.Takes pCMPT → key.toNat = 0x1C5E → s.guardState n = 0 → 
      Leads (exec (.cmptRetest (BitVec.ofNat 8 (2 ^ n.val)) key) s) fun t => s.Frame t [pCMPT] (everyPortReg pGUARD 0x0C ++ everyPortReg pGUARD 0x10) [] [] ∧ t.failedMask n = 0 ∧ t.cmpt.due = true ∧ ∀ m, m ≠ n → t.failedMask m = s.failedMask m)

/-- The share page (chapter 12). Regulation and diode regulation note whether a closed member's gate is held; a release raises every closed member's limit to its ceiling and sets RELEASE; a port that leaves the sharing set leaves it with a release; the trim is cleared at the next coarse step. Each clause holds in the states and for the operands that its hypotheses name. -/
def Obligations.ShareCommandsComplete : Prop :=
  (∀ (s : State) (n : Port) (held : Bool), s.isMember n = true → s.sinkClosed n = true → 
      Leads (exec (.shareRegulation n held) s) fun t => s.Frame t [pSHARE] [] [] [] ∧ t.flag pSHARE (SHARE.PORT_STAT_HELD.at n.val) = held ∧ t.ports = s.ports) ∧
  (∀ (s : State) (n : Port) (held : Bool), s.isMember n = true → s.sinkClosed n = true → 
      Leads (exec (.diodeRegulation n held) s) fun t => s.Frame t [] [] [] [] ∧ (t.port n).share = { (s.port n).share with diode := held } ∧ t.regs = s.regs) ∧
  (∀ (s : State) (n : Port), s.inShareSet n = true → 
      Leads (exec (.shareRelease n) s) fun t => s.Frame t [pSHARE] [] [descBytes] [] ∧ t.inShareSet n = false ∧ t.flag pSHARE SHARE.PG_STAT_RELEASE = true ∧ t.flag pSHARE SHARE.PG_EVT_RELEASE = true ∧ t.flag pSHARE SHARE.PG_EVT_MEMBER_DROP = true ∧ t.share.left = 2) ∧
  (∀ (s : State) (n : Port), s.isMember n = true → s.sinkClosed n = true → s.flag pSHARE (SHARE.PORT_STAT_HELD.at n.val) = true → 
      Leads (exec (.noFreeMember) s) fun t => s.Frame t [pSHARE] [] [descBytes] [] ∧ t.flag pSHARE SHARE.PG_STAT_RELEASE = true ∧ t.flag pSHARE SHARE.PG_EVT_RELEASE = true ∧ t.share.left = 2) ∧
  (∀ (s : State) (key : BitVec 16) (n : Port), s.Takes pSHARE → key.toNat = 0x5C83 → 2 ≤ s.fld pSHARE (SHARE.PORT_STAT_STATE.at n.val) → 
      Leads (exec (.shareCmdRelease key) s) fun t => s.Frame t [pSHARE] [] [descBytes] [] ∧ t.flag pSHARE SHARE.PG_STAT_RELEASE = true ∧ t.flag pSHARE SHARE.PG_EVT_RELEASE = true ∧ t.fld pSHARE (SHARE.PORT_STAT_STATE.at n.val) = 6 ∧ t.fld pSHARE (SHARE.PORT_STAT_LIMIT.at n.val) = min 1023 (s.port n).share.ceil) ∧
  (∀ (s : State) (key : BitVec 16), s.Takes pSHARE → key.toNat = 0x5C83 → 
      Leads (exec (.shareCmdTrimClear key) s) fun t => s.Frame t [] [(pSHARE, 0x10)] [] [] ∧ t.share = { s.share with trimClear := true } ∧ t.regs = s.regs) ∧
  (∀ (s : State) (n : Port), s.isMember n = true → s.flag (pGUARD n) GUARD.PG_STAT_SNK_BLOCKED = true → 
      Leads (exec (.memberBlockEnd n) s) fun t => s.Frame t [] [(pGUARD n, 0x0C)] [] [] ∧ t.flag (pGUARD n) GUARD.PG_STAT_SNK_BLOCKED = false ∧ (t.port n).share = { (s.port n).share with diode := true })

/-- HPD (R249) and the mux bus (R256, R257). A level is written, a pulse waits or starts, and ends; a transaction starts with BUSY set, and ends, is aborted or times out with BUSY clear, its RESULT and DONE_BYTES; an edge of MINT that CFG selects sets its event. Each clause holds in the states and for the operands that its hypotheses name. -/
def Obligations.HpdAndMuxBusComplete : Prop :=
  (∀ (s : State) (n : Port) (level : Bool), s.Takes (pVDM n) → 
      Leads (exec (.hpdLevelWrite n level) s) fun t => s.Frame t [] [(pVDM n, 0x34)] [] [] ∧ t.flag (pVDM n) VDM.HPD_LEVEL = level ∧ (level = false → (t.port n).irqWait = false)) ∧
  (∀ (s : State) (n : Port), s.Takes (pVDM n) → s.flag (pVDM n) VDM.HPD_LEVEL = true → (s.port n).irqWait = false → (s.port n).irqOn = false → 
      Leads (exec (.hpdIrq n false) s) fun t => s.Frame t [] [(pVDM n, 0x10)] [] [] ∧ (t.port n).irqOn = true ∧ t.hpdPin n = false ∧ t.regs = s.regs) ∧
  (∀ (s : State) (n : Port) (early : Bool), s.Takes (pVDM n) → s.flag (pVDM n) VDM.HPD_LEVEL = true → (s.port n).irqWait = true → 
      Leads (exec (.hpdIrq n early) s) fun t => s.Frame t [] [(pVDM n, 0x10)] [] [] ∧ t.flag (pVDM n) VDM.PG_EVT_IRQ_DROPPED = true ∧ t.ports = s.ports) ∧
  (∀ (s : State) (n : Port), s.Takes (pVDM n) → (s.port n).irqOn = true → 
      Leads (exec (.hpdIrqEnd n) s) fun t => s.Frame t [] [] [] [] ∧ (t.port n).irqOn = false ∧ (t.port n).irqWait = (s.port n).irqWait ∧ t.regs = s.regs) ∧
  (∀ (s : State) (key : BitVec 16), s.Takes pMUXB → key.toNat = 0x2E5B → s.flag pMUXB MUXB.STAT_BUSY = false → 1 ≤ s.fld pMUXB MUXB.TXN_WCNT → s.fld pMUXB MUXB.TXN_WCNT ≤ 16 → s.fld pMUXB MUXB.TXN_RCNT ≤ 16 → 
      Leads (exec (.muxbGo key) s) fun t => s.Frame t [] [(pMUXB, 0x10), (pMUXB, 0x4C)] [] [] ∧ t.flag pMUXB MUXB.STAT_BUSY = true ∧ t.flag pMUXB MUXB.PG_EVT_ERR = s.flag pMUXB MUXB.PG_EVT_ERR) ∧
  (∀ (s : State) (key : BitVec 16), s.Takes pMUXB → key.toNat = 0x2E5B → s.flag pMUXB MUXB.STAT_BUSY = false → 16 < s.fld pMUXB MUXB.TXN_WCNT → 
      Leads (exec (.muxbGo key) s) fun t => s.Frame t [] [(pMUXB, 0x10), (pMUXB, 0x4C)] [] [] ∧ t.flag pMUXB MUXB.STAT_BUSY = false ∧ t.fld pMUXB MUXB.STAT_RESULT = 6 ∧ t.fld pMUXB MUXB.STAT_DONE_BYTES = 0 ∧ t.flag pMUXB MUXB.PG_EVT_ERR = true) ∧
  (∀ (s : State) (key : BitVec 16) (bytes : BitVec 5), s.Takes pMUXB → key.toNat = 0x2E5B → s.flag pMUXB MUXB.STAT_BUSY = true → 
      Leads (exec (.muxbAbort key bytes) s) fun t => s.Frame t [] [(pMUXB, 0x10), (pMUXB, 0x4C)] [] [] ∧ t.flag pMUXB MUXB.STAT_BUSY = false ∧ t.fld pMUXB MUXB.STAT_RESULT = 7 ∧ t.fld pMUXB MUXB.STAT_DONE_BYTES = bytes.toNat ∧ t.flag pMUXB MUXB.PG_EVT_ERR = true) ∧
  (∀ (s : State) (acked : BitVec 5) (pec : Byte), s.Takes pMUXB → s.flag pSUP SUP.PG_STAT_VDDIO_OK = true → s.flag pMUXB MUXB.STAT_BUSY = true → s.flag pMUXB MUXB.TXN_BLOCK = false → s.flag pMUXB MUXB.TXN_PEC = false → s.fld pMUXB MUXB.TXN_RCNT = 2 → 
      Leads (exec (.muxbDone 0 acked [0x34, 0x12] pec) s) fun t => s.Frame t [pMUXB] [] [] [] ∧ t.flag pMUXB MUXB.STAT_BUSY = false ∧ t.fld pMUXB MUXB.STAT_RESULT = 0 ∧ t.fld pMUXB MUXB.STAT_DONE_BYTES = acked.toNat ∧ t.flag pMUXB MUXB.PG_EVT_DONE = true ∧ t.fld pMUXB (MUXB.RDATA_BYTES.at 0) = 0x1234) ∧
  (∀ (s : State) (acked : BitVec 5), s.Takes pMUXB → s.flag pMUXB MUXB.STAT_BUSY = true → 
      Leads (exec (.muxbTimeout acked) s) fun t => s.Frame t [] [(pMUXB, 0x4C), (pMUXB, 0x10)] [] [] ∧ t.flag pMUXB MUXB.STAT_BUSY = false ∧ t.fld pMUXB MUXB.STAT_RESULT = 3 ∧ t.flag pMUXB MUXB.PG_EVT_ERR = true) ∧
  (∀ (s : State), s.live = true → s.pins.mint = true → bitAt (s.fld pMUXB MUXB.CFG_MINT_EDGE) 0 = true → 
      Leads (exec (.mintEdge false) s) fun t => s.Frame t [] [(pMUXB, 0x10)] [] [] ∧ t.flag pMUXB MUXB.PG_EVT_MINT = true ∧ t.pins = { s.pins with mint := false })

/-- Contract firmware (chapter 9). As source it advertises what R229 yields, answers a Request with Reject or with Accept and the staged contract, and orders a Hard Reset when no Request comes; as sink it remembers the capabilities received and sends the Request that R231 chooses; time-outs under a contract order a Hard Reset; a member trims by a Request; DR_Swap is accepted or rejected by policy. `Sent` says which message stands in which transmit record. Each clause holds in the states and for the operands that its hypotheses name. -/
def Obligations.PolicyCommandsComplete : Prop :=
  (∀ (s : State) (n : Port), s.fw = true → s.ccState n = .attachedSrc → s.guardState n = 3 → s.explicit n = false → (s.port n).fw.capsSends < 50 → (s.port n).fw.capsResets < 2 → s.flag (pPOL n) POL.PG_STAT_EPR_MODE = false → s.MaySend n → 
      Leads (exec (.sourceCapsSend n) s) fun t => s.Frame t [] [(pGUARD n, 0x2C), (pPDL n, 0x10), (pPDL n, 0x0C), (pVDM n, 0x60)] [portBytes n] [] ∧ (t.port n).fw.caps = s.buildCaps n ∧ (t.port n).fw.capsSends = (s.port n).fw.capsSends + 1 ∧ s.Sent t n 0 1 (((s.buildCaps n).filter fun c => c.1 ≤ 7).map fun c => c.2)) ∧
  (∀ (s : State) (n : Port), s.fw = true → s.ccState n = .attachedSrc → s.explicit n = false → 0 < (s.port n).fw.capsSends → (s.port n).fw.capsResets < 2 → 
      Leads (exec (.sourceRequestTimeout n) s) fun t => s.Frame t [pPDL n] [(pVDM n, 0x40), (pVDM n, 0x10)] [portBytes n, descBytes] [] ∧ (t.port n).fw.capsResets = (s.port n).fw.capsResets + 1 ∧ (t.port n).pdl.hrSend = true ∧ (t.port n).pdl.queue = [] ∧ t.flag (pPDL n) PDL.PG_STAT_HR_PENDING = true) ∧
  (∀ (s : State) (n : Port) (i : Fin 64), s.fw = true → s.ccState n = .attachedSrc → s.rxUsable n i.val = true → isData (s.rxHdr n i.val) 2 = true → s.transRuns n = false → s.snapTrans n = false → ((s.port n).fw.caps.any fun c => c.1 == bitsOf (s.rxObj n i.val 0).toNat 28 4) = false → s.MaySend n → 
      Leads (exec (.requestEvaluation n i) s) fun t => s.Frame t [pPDL n] [(pVDM n, 0x40), (pVDM n, 0x10), (pPOL n, 0x48), (pPOL n, 0x44), (pPOL n, 0x50), (pPOL n, 0x4C), (pPOL n, 0x54)] [portBytes n, descBytes] [] ∧ s.Sent t n 0 4 [] ∧ t.regs = s.regs ∧ t.aos = s.aos) ∧
  (∀ (s : State) (n : Port) (i : Fin 64) (p : Nat) (obj : Word), s.fw = true → s.ccState n = .attachedSrc → s.rxUsable n i.val = true → isData (s.rxHdr n i.val) 2 = true → s.transRuns n = false → s.snapTrans n = false → (s.port n).fw.caps.find? (fun c => c.1 == bitsOf (s.rxObj n i.val 0).toNat 28 4) = some (p, obj) → p ≤ 7 → (readRequest obj.toNat (s.rxObj n i.val 0).toNat).ok = true → (readRequest obj.toNat (s.rxObj n i.val 0).toNat).exact ≤ 1000 * s.grantOf n → s.MaySend n → 
      Leads (exec (.requestEvaluation n i) s) fun t => s.Frame t [pPDL n] [(pVDM n, 0x40), (pVDM n, 0x10), (pPOL n, 0x48), (pPOL n, 0x44), (pPOL n, 0x50), (pPOL n, 0x4C), (pPOL n, 0x54)] [portBytes n, descBytes] [] ∧ s.Sent t n 0 3 [] ∧ t.rd (pPOL n) 0x44 = obj ∧ t.rd (pPOL n) 0x48 = s.rxObj n i.val 0 ∧ t.fld (pPOL n) POL.CON_VI_V = (readRequest obj.toNat (s.rxObj n i.val 0).toNat).v % 4096 ∧ (t.builtMsg n (s.freeTx n)).map (fun m => m.goal) = some (.accept (readRequest obj.toNat (s.rxObj n i.val 0).toNat).v (s.gen n))) ∧
  (∀ (s : State) (n : Port), s.fw = true → s.ccState n = .attachedSrc → s.snapValid n = true → s.snapType n = 3 → 
      Leads (exec (.ppsRequestTimeout n) s) fun t => s.Frame t [pPDL n] [(pVDM n, 0x40), (pVDM n, 0x10)] [portBytes n, descBytes] [] ∧ (t.port n).pdl.hrSend = true ∧ (t.port n).pdl.queue = [] ∧ t.flag (pPDL n) PDL.PG_STAT_HR_PENDING = true) ∧
  (∀ (s : State) (n : Port), s.fw = true → s.ccState n = .attachedSnk → (s.port n).fw.srcCaps = [] → (s.port n).fw.sinkResets < 2 → 
      Leads (exec (.sinkCapsTimeout n) s) fun t => s.Frame t [pPDL n] [(pVDM n, 0x40), (pVDM n, 0x10)] [portBytes n, descBytes] [] ∧ (t.port n).fw.sinkResets = (s.port n).fw.sinkResets + 1 ∧ (t.port n).pdl.hrSend = true ∧ t.flag (pPDL n) PDL.PG_STAT_HR_PENDING = true) ∧
  (∀ (s : State) (n : Port) (i : Fin 64), s.fw = true → s.ccState n = .attachedSnk → s.rxUsable n i.val = true → isData (s.rxHdr n i.val) 1 = true → 
      Leads (exec (.sinkRequest n (some i)) s) fun t => s.Frame t [] [(pPDL n, 0x0C), (pPDL n, 0x10), (pPOL n, 0x48), (pPOL n, 0x44), (pPOL n, 0x50), (pPOL n, 0x4C), (pPOL n, 0x54)] [portBytes n] [] ∧ (t.port n).fw.srcCaps = s.rxObjs n i.val ∧ (t.port n).fw.accepted = false) ∧
  (∀ (s : State) (n : Port) (p : Nat) (obj : Word), s.fw = true → s.ccState n = .attachedSnk → (s.port n).fw.srcCaps ≠ [] → (s.port n).share.member = false → s.flag (pPOL n) POL.PG_STAT_EPR_MODE = false → s.snkObjs n = [(p, obj)] → bitsOf obj.toNat 30 2 = 0 → s.fld (pPOL n) POL.SNK_P_P_MIN ≤ (mkOpt p obj (objRange obj.toNat).1).p → s.fld (pPOL n) POL.SNK_P_P_OP ≤ (mkOpt p obj (objRange obj.toNat).1).p → s.MaySend n → 
      Leads (exec (.sinkRequest n none) s) fun t => s.Frame t [] [(pPDL n, 0x0C), (pPDL n, 0x10), (pPOL n, 0x48), (pPOL n, 0x44), (pPOL n, 0x50), (pPOL n, 0x4C), (pPOL n, 0x54)] [portBytes n] [] ∧ s.Sent t n 0 2 [rdoOf (mkOpt p obj (objRange obj.toNat).1) (askFor (mkOpt p obj (objRange obj.toNat).1) (s.fld (pPOL n) POL.SNK_P_P_OP)) false] ∧ t.rd (pPOL n) 0x44 = obj ∧ (t.port n).fw.mism = false) ∧
  (∀ (s : State) (n : Port), s.fw = true → s.ccState n = .attachedSnk → (s.port n).fw.srcCaps ≠ [] → (s.port n).share.member = false → s.flag (pPOL n) POL.PG_STAT_EPR_MODE = false → s.snkObjs n = [] → s.MaySend n → 
      Leads (exec (.sinkRequest n none) s) fun t => s.Frame t [] [(pPDL n, 0x0C), (pPDL n, 0x10), (pPOL n, 0x48), (pPOL n, 0x44), (pPOL n, 0x50), (pPOL n, 0x4C), (pPOL n, 0x54)] [portBytes n] [] ∧ s.Sent t n 0 2 [rdoOf (mkOpt 1 ((s.port n).fw.srcCaps.head?.getD 0) 250) (rpCurrent (s.fld (pCC n) CC.PG_STAT_RP_ADV)) true] ∧ (t.port n).fw.mism = true) ∧
  (∀ (s : State) (n : Port), s.fw = true → s.ccState n = .attachedSnk → s.snapValid n = true → s.snapTrans n = true → 
      Leads (exec (.psRdyTimeout n) s) fun t => s.Frame t [pPDL n] [(pVDM n, 0x40), (pVDM n, 0x10)] [portBytes n, descBytes] [] ∧ (t.port n).pdl.hrSend = true ∧ (t.port n).pdl.queue = [] ∧ t.flag (pPDL n) PDL.PG_STAT_HR_PENDING = true) ∧
  (∀ (s : State) (n : Port), s.fw = true → s.ccState n = .attachedSnk → s.snapValid n = true → s.flag pSHARE (SHARE.TRIM_PENDING.at n.val) = true → s.flag (pPOL n) POL.PG_STAT_EPR_MODE = false → bitsOf (s.snapWord n 1) 28 4 = 12 → 
      Leads (exec (.trimRequest n) s) fun t => s.Frame t [] [(pPOL n, 0x48), (pPOL n, 0x44), (pPOL n, 0x50), (pPOL n, 0x4C), (pPOL n, 0x54), (pPDL n, 0x10)] [portBytes n] [] ∧ t.fld (pPOL n) POL.CON_VI_V = s.fld pSHARE (SHARE.TRIM_V_REQ.at n.val) ∧ t.fld (pPOL n) POL.CON_VI_I = 5 * bitsOf (s.snapWord n 1) 0 7 ∧ t.rd (pPOL n) 0x44 = BitVec.ofNat 32 (s.snapWord n 1) ∧ (t.port n).fw.mism = false) ∧
  (∀ (s : State) (n : Port) (i : Fin 64), s.fw = true → s.rxUsable n i.val = true → isControl (s.rxHdr n i.val) 9 = true → s.flag (pVDM n) VDM.MODE_VALID = false → s.transRuns n = false → s.snapValid n = false → s.explicit n = true → s.inf (pPOL n) POL.CFG_DR_POLICY = 1 → s.MaySend n → 
      Leads (exec (.drSwapResponse n (some i)) s) fun t => s.Frame t [pPDL n] [(pVDM n, 0x40), (pVDM n, 0x10)] [portBytes n, descBytes] [] ∧ s.Sent t n 0 3 [] ∧ t.regs = s.regs ∧ t.aos = s.aos) ∧
  (∀ (s : State) (n : Port) (i : Fin 64), s.fw = true → s.rxUsable n i.val = true → isControl (s.rxHdr n i.val) 9 = true → s.flag (pVDM n) VDM.MODE_VALID = false → s.transRuns n = false → s.snapValid n = false → s.explicit n = true → s.inf (pPOL n) POL.CFG_DR_POLICY = 0 → s.MaySend n → 
      Leads (exec (.drSwapResponse n (some i)) s) fun t => s.Frame t [pPDL n] [(pVDM n, 0x40), (pVDM n, 0x10)] [portBytes n, descBytes] [] ∧ s.Sent t n 0 4 [] ∧ t.regs = s.regs ∧ t.aos = s.aos) ∧
  (∀ (s : State) (n : Port) (i : Fin 64), s.fw = true → s.pdAttached n = true → s.rxUsable n i.val = true → bitAt (s.stNat (rxRecAt n i.val + 10) 1) 3 = false → hdrExt (s.rxHdr n i.val) = true → hdrType (s.rxHdr n i.val) = 4 → s.inf (pPOL n) POL.CFG_BAT_MSG = 1 → s.stNat (rxRecAt n i.val + 20) 1 ≠ 0 → s.MaySend n → 
      Leads (exec (.batteryAnswer n i) s) fun t => s.Frame t [] [(pPDL n, 0x10)] [portBytes n] [] ∧ s.Sent t n 0 5 [0xFFFF0100] ∧ t.regs = s.regs ∧ t.aos = s.aos)

/-- Alternate-mode firmware (chapter 10): discovery starts with Discover Identity on SOP or on SOP′ for a cable, takes identities from acknowledgements, repeats an unanswered request once and then fails, sends it again after BUSY, and leaves Enter Mode; Enter and Exit Mode go out for the commands of VDM[n] and for automatic entry; a Hard Reset or detach ends a mode; the UFP reports its HPD input; the host's VDMs pass both ways. Each clause holds in the states and for the operands that its hypotheses name. -/
def Obligations.VdmCommandsComplete : Prop :=
  (∀ (s : State) (n : Port), s.fw = true → s.isDfp n = true → s.explicit n = true → s.snapTrans n = false → s.flag (pVDM n) VDM.CFG_DISC_EN = true → (s.port n).fw.discGen ≠ some (s.gen n) → s.MaySend n → 
      Leads (exec (.discovery n none false) s) fun t => s.Frame t [pVDM n] [(pPDL n, 0x10)] [portBytes n] [modeBytes n] ∧ s.Sent t n 0 15 [vdmHdr 0xFF00 0 0 1] ∧ t.fld (pVDM n) VDM.DISC_STAT_DISC = 2 ∧ (t.port n).fw.vdm.map (fun q => (q.sop, q.hdr, q.body, q.again, q.busy)) = some (0, vdmHdr 0xFF00 0 0 1, [], false, false) ∧ (t.port n).fw.discGen = some (s.gen n) ∧ (t.port n).fw.modes = [] ∧ (t.port n).fw.todo = []) ∧
  (∀ (s : State) (n : Port), s.fw = true → s.flag (pVDM n) VDM.CFG_CBL_DISC = true → s.cableOk n 1 = true → s.flag (pVDM n) VDM.DISC_STAT_CBL_KNOWN = false → (s.port n).fw.cblTries < 20 → (s.port n).fw.cbl = none → s.MaySend n → 
      Leads (exec (.discovery n none true) s) fun t => s.Frame t [pVDM n] [(pPDL n, 0x10)] [portBytes n] [modeBytes n] ∧ s.Sent t n 1 15 [vdmHdr 0xFF00 0 0 1] ∧ (t.port n).fw.cblTries = (s.port n).fw.cblTries + 1 ∧ (t.port n).fw.cbl.map (fun q => (q.sop, q.hdr, q.body)) = some (1, vdmHdr 0xFF00 0 0 1, []) ∧ (t.port n).fw.vdm = (s.port n).fw.vdm ∧ 1 ≤ t.fld (pVDM n) VDM.DISC_STAT_DISC) ∧
  (∀ (s : State) (n : Port) (i : Fin 64) (q : VdmReq), s.fw = true → s.rxUsable n i.val = true → isData (s.rxHdr n i.val) 15 = true → (s.port n).fw.vdm = some q → q.sop = 0 → s.stNat (rxRecAt n i.val + 2) 1 % 4 = 0 → vdmCmd q.hdr = 1 → vdmSvid q.hdr = 0xFF00 → s.rxObj n i.val 0 = vdmHdr 0xFF00 0 1 1 → s.MaySend n → 
      Leads (exec (.discovery n (some i) false) s) fun t => s.Frame t [pVDM n] [(pPDL n, 0x10)] [portBytes n] [modeBytes n] ∧ t.rd (pVDM n) 0x64 = (s.rxObjs n i.val).getD 1 0 ∧ t.fld (pVDM n) VDM.DISC_STAT_DISC = 3 ∧ s.Sent t n 0 15 [vdmHdr 0xFF00 0 0 2]) ∧
  (∀ (s : State) (n : Port) (q : VdmReq), s.fw = true → (s.port n).fw.vdm = some q → q.sop = 0 → vdmCmd q.hdr ≤ 3 → q.again = false → q.busy = false → q.body = [] → s.MaySend n → 
      Leads (exec (.vdmResponseTimeout n false) s) fun t => s.Frame t [] [(pPDL n, 0x10), (pVDM n, 0x10), (pVDM n, 0x98), (pVDM n, 0x94), (pVDM n, 0x8C), (pVDM n, 0x60)] [portBytes n] [modeBytes n] ∧ s.Sent t n 0 15 [q.hdr] ∧ (t.port n).fw.vdm = some { q with again := true, waitUs := s.vdmWaitUs n q.hdr } ∧ t.regs = s.regs) ∧
  (∀ (s : State) (n : Port) (q : VdmReq), s.fw = true → (s.port n).fw.vdm = some q → q.sop = 0 → vdmCmd q.hdr ≤ 3 → q.again = true → q.busy = false → 
      Leads (exec (.vdmResponseTimeout n false) s) fun t => s.Frame t [] [(pPDL n, 0x10), (pVDM n, 0x10), (pVDM n, 0x98), (pVDM n, 0x94), (pVDM n, 0x8C), (pVDM n, 0x60)] [portBytes n] [modeBytes n] ∧ t.fld (pVDM n) VDM.DISC_STAT_DISC = 6 ∧ t.flag (pVDM n) VDM.PG_EVT_DISC_FAIL = true ∧ (t.port n).fw.vdm = none) ∧
  (∀ (s : State) (n : Port) (q : VdmReq), s.fw = true → (s.port n).fw.vdm = some q → q.sop = 0 → q.busy = true → q.body = [] → s.MaySend n → 
      Leads (exec (.vdmResponseTimeout n false) s) fun t => s.Frame t [] [(pPDL n, 0x10), (pVDM n, 0x10), (pVDM n, 0x98), (pVDM n, 0x94), (pVDM n, 0x8C), (pVDM n, 0x60)] [portBytes n] [modeBytes n] ∧ s.Sent t n 0 15 [q.hdr] ∧ (t.port n).fw.vdm = some { q with again := false, busy := false, waitUs := s.vdmWaitUs n q.hdr } ∧ t.regs = s.regs) ∧
  (∀ (s : State) (n : Port) (q : VdmReq), s.fw = true → (s.port n).fw.vdm = some q → q.busy = false → vdmCmd q.hdr = 4 → 
      Leads (exec (.vdmResponseTimeout n false) s) fun t => s.Frame t [] [(pPDL n, 0x10), (pVDM n, 0x10), (pVDM n, 0x98), (pVDM n, 0x94), (pVDM n, 0x8C), (pVDM n, 0x60)] [portBytes n] [modeBytes n] ∧ (t.port n).fw.vdm = none ∧ (t.port n).fw.mux = 1 ∧ t.store = s.store) ∧
  (∀ (s : State) (n : Port) (q : VdmReq), s.fw = true → (s.port n).fw.cbl = some q → q.busy = false → 
      Leads (exec (.vdmResponseTimeout n true) s) fun t => s.Frame t [] [(pPDL n, 0x10), (pVDM n, 0x10), (pVDM n, 0x98), (pVDM n, 0x94), (pVDM n, 0x8C), (pVDM n, 0x60)] [portBytes n] [modeBytes n] ∧ (t.port n).fw.cbl = none ∧ (t.port n).fw.vdm = (s.port n).fw.vdm ∧ t.regs = s.regs ∧ t.store = s.store) ∧
  (∀ (s : State) (n : Port) (v p : Nat), s.fw = true → s.flag (pVDM n) VDM.CFG_ENTER_AUTO = true → s.isDfp n = true → s.fld (pVDM n) VDM.DISC_STAT_DISC = 5 → s.flag (pVDM n) VDM.MODE_VALID = false → (s.port n).fw.vdm = none → s.autoMode n = some (v, p) → s.MaySend n → 
      Leads (exec (.modeEntryAuto n) s) fun t => s.Frame t [] [(pPDL n, 0x10)] [portBytes n] [] ∧ s.Sent t n 0 15 [vdmHdr v p 0 4] ∧ (t.port n).fw.mux = 0 ∧ (t.port n).fw.vdm.map (fun q => (q.sop, q.hdr, q.body)) = some (0, vdmHdr v p 0 4, []) ∧ t.regs = s.regs) ∧
  (∀ (s : State) (n : Port) (key : BitVec 16), s.Takes (pVDM n) → s.fw = true → key.toNat = 0x7D1E → s.isDfp n = true → s.explicit n = true → s.MaySend n → 
      Leads (exec (.vdmCmdRediscover n key) s) fun t => s.Frame t [] [(pVDM n, 0x10), (pVDM n, 0x60), (pPDL n, 0x10)] [portBytes n] [] ∧ s.Sent t n 0 15 [vdmHdr 0xFF00 0 0 1] ∧ t.fld (pVDM n) VDM.DISC_STAT_DISC = 2 ∧ (t.port n).fw.modes = []) ∧
  (∀ (s : State) (n : Port) (key : BitVec 16) (vdo : Word), s.Takes (pVDM n) → s.fw = true → key.toNat = 0x7D1E → s.isDfp n = true → s.flag (pVDM n) VDM.MODE_VALID = false → (s.fld (pVDM n) VDM.ENTER_SEL_SVID, s.fld (pVDM n) VDM.ENTER_SEL_POS, vdo) ∈ (s.port n).fw.modes → s.MaySend n → 
      Leads (exec (.vdmCmdEnter n key) s) fun t => s.Frame t [] [(pVDM n, 0x10), (pVDM n, 0x60), (pPDL n, 0x10)] [portBytes n] [] ∧ s.Sent t n 0 15 [vdmHdr (s.fld (pVDM n) VDM.ENTER_SEL_SVID) (s.fld (pVDM n) VDM.ENTER_SEL_POS) 0 4] ∧ (t.port n).fw.mux = 0 ∧ t.regs = s.regs) ∧
  (∀ (s : State) (n : Port) (key : BitVec 16), s.Takes (pVDM n) → s.fw = true → key.toNat = 0x7D1E → s.flag (pVDM n) VDM.MODE_VALID = true → 
      Leads (exec (.vdmCmdEnter n key) s) fun t => s.Frame t [] [(pVDM n, 0x10), (pVDM n, 0x60), (pPDL n, 0x10)] [portBytes n] [] ∧ t.flag (pVDM n) VDM.DISC_STAT_CMD_ERR = true ∧ t.ports = s.ports ∧ t.store = s.store) ∧
  (∀ (s : State) (n : Port) (key : BitVec 16), s.Takes (pVDM n) → s.fw = true → key.toNat = 0x7D1E → s.flag (pVDM n) VDM.MODE_VALID = true → s.MaySend n → 
      Leads (exec (.vdmCmdExit n key) s) fun t => s.Frame t [] [(pVDM n, 0x10), (pPDL n, 0x10)] [portBytes n] [] ∧ s.Sent t n 0 15 [vdmHdr (s.fld (pVDM n) VDM.MODE_SVID) (s.fld (pVDM n) VDM.MODE_POS) 0 5] ∧ t.regs = s.regs ∧ t.flag (pVDM n) VDM.MODE_VALID = true) ∧
  (∀ (s : State) (n : Port), s.fw = true → s.flag (pVDM n) VDM.MODE_VALID = true → 
      Leads (exec (.modeEndAtReset n) s) fun t => s.Frame t [] [(pVDM n, 0x98), (pVDM n, 0x94), (pVDM n, 0x8C), (pVDM n, 0x60), (pVDM n, 0x10)] [] [modeBytes n] ∧ t.flag (pVDM n) VDM.MODE_VALID = false ∧ t.flag (pVDM n) VDM.PG_EVT_MODE_EXITED = true ∧ (t.port n).fw.mux = (s.pdAttached n).toNat ∧ t.fld (pVDM n) VDM.DISC_STAT_DP_STATE = 0 ∧ t.aosRead (0x100 + 16 * n.val) 8 = List.replicate 8 0) ∧
  (∀ (s : State) (n : Port), s.fw = true → s.isDfp n = false → s.flag (pVDM n) VDM.MODE_VALID = true → s.fld (pVDM n) VDM.MODE_SVID = 0xFF01 → s.enabled pGPIO = true → (s.pins.gpio.getLsbD (s.fld (pVDM n) VDM.DP_CFG_HPD_SRC) != bitAt (s.rd pGPIO (0x20 + 4 * s.fld (pVDM n) VDM.DP_CFG_HPD_SRC)).toNat 12) = true → (s.port n).fw.hpdIn = false → (s.port n).fw.hpdLow < 10 → s.MaySend n → 
      Leads (exec (.ufpHpdSample n) s) fun t => s.Frame t [] [(pPDL n, 0x10)] [portBytes n] [] ∧ s.Sent t n 0 15 [vdmHdr 0xFF01 (s.fld (pVDM n) VDM.MODE_POS) 0 6, 129] ∧ (t.port n).fw.hpdIn = true ∧ (t.port n).fw.hpdLow = 0 ∧ t.regs = s.regs) ∧
  (∀ (s : State) (n : Port) (i : Fin 64), s.fw = true → s.rxUsable n i.val = true → isData (s.rxHdr n i.val) 15 = true → vdmStruct (s.rxObj n i.val 0) = false → s.flag (pVDM n) VDM.CFG_HOST_PASS = true → (s.fld (pVDM n) VDM.HOST_Q_WR + 1) % 8 ≠ s.fld (pVDM n) VDM.HOST_Q_RD → 
      Leads (exec (.hostVdmPass n i) s) fun t => s.Frame t [] [(pVDM n, 0x10), (pVDM n, 0x3C), (pPDL n, 0x10)] [portBytes n] [] ∧ t.fld (pVDM n) VDM.HOST_Q_WR = (s.fld (pVDM n) VDM.HOST_Q_WR + 1) % 8 ∧ t.flag (pVDM n) VDM.PG_EVT_HOST_Q = true ∧ t.stRead (0x4000 * n.val + 0x2400 + 64 * s.fld (pVDM n) VDM.HOST_Q_WR) 64 = s.stRead (rxRecAt n i.val) 64) ∧
  (∀ (s : State) (n : Port) (count : BitVec 3) (sop : BitVec 2), s.Takes (pVDM n) → s.fw = true → s.flag (pVDM n) VDM.HOST_TX_CTL_GO = false → s.pdAttached n = true → vdmStruct (s.rd (pVDM n) 0x44) = false → count = 2 → sop = 1 → s.MaySend n → 
      Leads (exec (.hostTxGo n count sop) s) fun t => s.Frame t [] [(pVDM n, 0x40), (pVDM n, 0x10), (pPDL n, 0x10)] [portBytes n] [] ∧ s.Sent t n 1 15 [s.rd (pVDM n) 0x44, s.rd (pVDM n) 0x48] ∧ t.flag (pVDM n) VDM.HOST_TX_CTL_GO = true ∧ (t.port n).fw.hostTx = some (s.freeTx n)) ∧
  (∀ (s : State) (n : Port) (count : BitVec 3) (sop : BitVec 2), s.Takes (pVDM n) → s.fw = true → s.flag (pVDM n) VDM.HOST_TX_CTL_GO = false → s.pdAttached n = false → 
      Leads (exec (.hostTxGo n count sop) s) fun t => s.Frame t [] [(pVDM n, 0x40), (pVDM n, 0x10), (pPDL n, 0x10)] [portBytes n] [] ∧ t.fld (pVDM n) VDM.HOST_TX_CTL_STATUS = 8 ∧ t.flag (pVDM n) VDM.HOST_TX_CTL_GO = false ∧ t.flag (pVDM n) VDM.PG_EVT_HOST_TX_DONE = true ∧ t.store = s.store)

/-- One Hedgerow link (chapter 13). A frame that checks and carries the expected sequence is accepted and delivered; one with a code error is answered with a NAK and leaves the sequence; a link word acknowledges the window cumulatively; lost lock takes the link DOWN and sends FAULT; training brings it UP with its delay; too many errors, too long a loss or the command retire it; a probe every second may bring it back to training. Each clause holds in the states and for the operands that its hypotheses name. -/
def Obligations.LinkCommandsComplete : Prop :=
  (∀ (s : State) (l : Fin 3) (b : List Byte), s.phase = .run → s.linkUp l = true → 8 ≤ b.length → crc8 (b.take 7) = byteAt b 7 → frLen b = b.length - 8 → b.length ≤ 264 → frSeq b = s.fld (pHG l) HG.WINDOW_RX_EXPECT → l.val = 1 → frType b = 0 → (s.assigned && frSrc b == s.node) = false → 
      Leads (exec (.hedgerowFrameArrive l (b ++ leBytes 4 (frCrc b)) false 0 true) s) fun t => s.Frame t [pHG 0, pHG 1, pHG 2] [(pFLEET, 0x0C), (pFLEET, 0x10), (pFLEET, 0x68), (pFLEET, 0x24)] [txBytes] [] ∧ t.fld (pHG l) HG.WINDOW_RX_EXPECT = (s.fld (pHG l) HG.WINDOW_RX_EXPECT + 1) % 16 ∧ t.fld (pHG l) HG.RX_FRAMES_COUNT = (s.fld (pHG l) HG.RX_FRAMES_COUNT + 1) % 2 ^ 32 ∧ t.fleet.inbox = s.fleet.inbox ++ [⟨0, b, s.tick⟩] ∧ (t.link l).word = some (s.fld (pHG l) HG.WINDOW_RX_EXPECT, false, false)) ∧
  (∀ (s : State) (l : Fin 3) (bytes : List Byte) (codeErrs : Nat), s.phase = .run → s.linkUp l = true → 0 < codeErrs → (s.link l).errs + codeErrs ≤ max 1 (s.fld (pHG l) HG.CFG_ERR_LIMIT) → 
      Leads (exec (.hedgerowFrameArrive l bytes false codeErrs true) s) fun t => s.Frame t [pHG 0, pHG 1, pHG 2] [(pFLEET, 0x0C), (pFLEET, 0x10), (pFLEET, 0x68), (pFLEET, 0x24)] [txBytes] [] ∧ t.fld (pHG l) HG.ERR_CNT_CODE = min (s.fld (pHG l) HG.ERR_CNT_CODE + codeErrs) 0xFFFF ∧ (t.link l).errs = (s.link l).errs + codeErrs ∧ (t.link l).word = some (s.lastSeq l, true, false) ∧ t.fld (pHG l) HG.WINDOW_RX_EXPECT = s.fld (pHG l) HG.WINDOW_RX_EXPECT ∧ t.fleet = s.fleet ∧ t.fld (pHG l) HG.ARQ_NAK = min (s.fld (pHG l) HG.ARQ_NAK + 1) 0xFFFF) ∧
  (∀ (s : State) (l : Fin 3) (f : TxF) (b1 b2 b3 : BitVec 8), s.phase = .run → s.linkUp l = true → (s.link l).win = [f] → (s.link l).queue = [] → f.slot = none → frType f.bytes ≠ 9 → frSeq f.bytes = b1.toNat % 16 → b1.getLsbD 4 = false → b2.getLsbD 0 = false → crc8 [b1, b2] = b3.toNat → 
      Leads (exec (.linkWordReceive l b1 b2 b3) s) fun t => s.Frame t [pHG 0, pHG 1, pHG 2] [(pFLEET, 0x0C), (pFLEET, 0x10)] [txBytes] [] ∧ (t.link l).win = [] ∧ t.fld (pHG l) HG.WINDOW_OUTSTANDING = 0 ∧ t.fld (pHG l) HG.WINDOW_TX_OLDEST = (b1.toNat % 16 + 1) % 16 ∧ t.flag (pHG l) HG.PG_STAT_FAULT_RX = false ∧ t.linkUp l = true) ∧
  (∀ (s : State) (l : Fin 3), s.linkUp l = true → (s.link l).win ≠ [] → 
      Leads (exec (.arqTimeout l) s) fun t => s.Frame t [] [(pHG l, 0x10), (pHG l, 0x2C)] [] [] ∧ t.fld (pHG l) HG.ARQ_RETX = min (s.fld (pHG l) HG.ARQ_RETX + (s.link l).win.length) 0xFFFF ∧ t.flag (pHG l) HG.PG_EVT_RETX = true ∧ (t.link l).win = (s.link l).win ∧ (t.link l).queue = (s.link l).queue ∧ (t.link l).word = (s.link l).word ∧ (t.link l).line = ((s.link l).win.getLast?.map fun (f : TxF) => onLine f.bytes).or (s.link l).line ∧ ∀ m, m ≠ l → t.link m = s.link m) ∧
  (∀ (s : State) (l : Fin 3), s.linkUp l = true → 
      Leads (exec (.lossOfLock l false) s) fun t => s.Frame t [] ([(pFLEET, 0x0C), (pFLEET, 0x10)] ++ everyLinkReg 0x0C ++ everyLinkReg 0x10 ++ everyLinkReg 0x34 ++ everyLinkReg 0x30) [txBytes] [] ∧ t.linkState l = 3 ∧ t.flag (pHG l) HG.PG_STAT_LOCK = false ∧ t.flag (pHG l) HG.PG_EVT_DOWN = true ∧ (t.link l).win = [] ∧ (t.link l).word = some (s.lastSeq l, false, true)) ∧
  (∀ (s : State) (l : Fin 3), s.linkState l = 3 → 
      Leads (exec (.lockRegained l) s) fun t => s.Frame t [] ([(pFLEET, 0x0C), (pFLEET, 0x10)] ++ everyLinkReg 0x0C ++ everyLinkReg 0x10 ++ everyLinkReg 0x34 ++ everyLinkReg 0x30) [txBytes] [] ∧ t.linkState l = 1 ∧ t.flag (pHG l) HG.PG_STAT_LOCK = true ∧ t.links = s.links) ∧
  (∀ (s : State) (l : Fin 3) (delay : BitVec 16), s.linkState l = 1 → 
      Leads (exec (.trainingComplete l delay) s) fun t => s.Frame t [pHG l] [] [] [] ∧ t.linkState l = 2 ∧ t.flag (pHG l) HG.PG_EVT_UP = true ∧ t.fld (pHG l) HG.DELAY_LINK_DELAY = delay.toNat ∧ t.fld (pHG l) HG.WINDOW_RX_EXPECT = 0 ∧ (t.link l).win = [] ∧ (t.link l).queue = [] ∧ (t.link l).errs = 0) ∧
  (∀ (s : State) (l : Fin 3), s.linkState l = 3 → 
      Leads (exec (.linkRetireTimeout l) s) fun t => s.Frame t [] ([(pFLEET, 0x0C), (pFLEET, 0x10)] ++ everyLinkReg 0x3C ++ everyLinkReg 0x0C ++ everyLinkReg 0x10 ++ everyLinkReg 0x34 ++ everyLinkReg 0x30) [txBytes] [] ∧ t.linkState l = 4 ∧ t.fld (pHG l) HG.RETIRE_INFO_CAUSE = 2 ∧ t.fld (pHG l) HG.RETIRE_INFO_PROBES = 0 ∧ t.flag (pHG l) HG.PG_EVT_RETIRED = true) ∧
  (∀ (s : State) (l : Fin 3) (more : Nat), s.linkUp l = true → max 1 (s.fld (pHG l) HG.CFG_ERR_LIMIT) < (s.link l).errs + more → 
      Leads (exec (.linkErrorLimit l more) s) fun t => s.Frame t [] ([(pFLEET, 0x0C), (pFLEET, 0x10)] ++ everyLinkReg 0x3C ++ everyLinkReg 0x0C ++ everyLinkReg 0x10 ++ everyLinkReg 0x34 ++ everyLinkReg 0x30 ++ everyLinkReg 0x28) [txBytes] [] ∧ t.linkState l = 4 ∧ t.fld (pHG l) HG.RETIRE_INFO_CAUSE = 1 ∧ t.flag (pHG l) HG.PG_EVT_RETIRED = true ∧ t.fld (pHG l) HG.ERR_CNT_CODE = min (s.fld (pHG l) HG.ERR_CNT_CODE + more) 0xFFFF) ∧
  (∀ (s : State) (l : Fin 3) (more : Nat), s.linkUp l = true → (s.link l).errs + more ≤ max 1 (s.fld (pHG l) HG.CFG_ERR_LIMIT) → 
      Leads (exec (.linkErrorLimit l more) s) fun t => s.Frame t [] ([(pFLEET, 0x0C), (pFLEET, 0x10)] ++ everyLinkReg 0x3C ++ everyLinkReg 0x0C ++ everyLinkReg 0x10 ++ everyLinkReg 0x34 ++ everyLinkReg 0x30 ++ everyLinkReg 0x28) [txBytes] [] ∧ t.linkState l = 2 ∧ (t.link l).errs = (s.link l).errs + more) ∧
  (∀ (s : State) (l : Fin 3), s.linkState l = 4 → 
      Leads (exec (.reprobeTimer l) s) fun t => s.Frame t [] ([(pFLEET, 0x0C), (pFLEET, 0x10)] ++ everyLinkReg 0x3C ++ everyLinkReg 0x0C ++ everyLinkReg 0x10 ++ everyLinkReg 0x34 ++ everyLinkReg 0x30) [txBytes] [] ∧ t.linkState l = 5 ∧ t.fld (pHG l) HG.RETIRE_INFO_PROBES = min (s.fld (pHG l) HG.RETIRE_INFO_PROBES + 1) 0xFF) ∧
  (∀ (s : State) (l : Fin 3), s.linkState l = 5 → 
      Leads (exec (.probingResult l true) s) fun t => s.Frame t [] ([(pFLEET, 0x0C), (pFLEET, 0x10)] ++ everyLinkReg 0x0C ++ everyLinkReg 0x10 ++ everyLinkReg 0x34 ++ everyLinkReg 0x30) [txBytes] [] ∧ t.linkState l = 1 ∧ t.flag (pHG l) HG.PG_STAT_LOCK = true) ∧
  (∀ (s : State) (l : Fin 3), s.linkState l = 5 → 
      Leads (exec (.probingResult l false) s) fun t => s.Frame t [] ([(pFLEET, 0x0C), (pFLEET, 0x10)] ++ everyLinkReg 0x0C ++ everyLinkReg 0x10 ++ everyLinkReg 0x34 ++ everyLinkReg 0x30) [txBytes] [] ∧ t.linkState l = 4 ∧ t.flag (pHG l) HG.PG_EVT_RETIRED = true) ∧
  (∀ (s : State) (l : Fin 3) (key : BitVec 16), s.Takes (pHG l) → key.toNat = 0x48E7 → s.linkState l ≠ 0 → 
      Leads (exec (.hgCmdRetire l key) s) fun t => s.Frame t [] ([(pFLEET, 0x0C), (pFLEET, 0x10)] ++ everyLinkReg 0x10 ++ everyLinkReg 0x3C ++ everyLinkReg 0x0C ++ everyLinkReg 0x34 ++ everyLinkReg 0x30) [txBytes] [] ∧ t.linkState l = 4 ∧ t.fld (pHG l) HG.RETIRE_INFO_CAUSE = 3 ∧ t.flag (pHG l) HG.PG_EVT_RETIRED = true) ∧
  (∀ (s : State) (l : Fin 3) (key : BitVec 16), s.Takes (pHG l) → key.toNat = 0x48E7 → s.linkState l = 4 → 
      Leads (exec (.hgCmdReprobe l key) s) fun t => s.Frame t [] ([(pFLEET, 0x0C), (pFLEET, 0x10)] ++ everyLinkReg 0x10 ++ everyLinkReg 0x3C ++ everyLinkReg 0x0C ++ everyLinkReg 0x34 ++ everyLinkReg 0x30) [txBytes] [] ∧ t.linkState l = 5 ∧ t.fld (pHG l) HG.RETIRE_INFO_PROBES = min (s.fld (pHG l) HG.RETIRE_INFO_PROBES + 1) 0xFF) ∧
  (∀ (s : State) (l : Fin 3) (key : BitVec 16), s.Takes (pHG l) → key.toNat = 0x48E7 → 
      Leads (exec (.hgCmdClearStats l key) s) fun t => s.Frame t [] [(pHG l, 0x10), (pHG l, 0x38), (pHG l, 0x34), (pHG l, 0x2C), (pHG l, 0x28)] [] [] ∧ t.rd (pHG l) 0x28 = 0 ∧ t.rd (pHG l) 0x2C = 0 ∧ t.rd (pHG l) 0x34 = 0 ∧ t.rd (pHG l) 0x38 = 0 ∧ t.links = s.links)

/-- The fleet's own traffic (chapter 13): the manager sends ASSIGN and, when it comes back, CAL and DONE; a node takes the lowest free index with the delay gathered on the way; every node takes DONE; TICK frames carry number, phase and manager; takeover, return and hand-back move the manager's role. `Carries` says that a frame stands at a link's transmitter. Each clause holds in the states and for the operands that its hypotheses name. -/
def Obligations.FleetNumberingCompletes : Prop :=
  (∀ (s : State) (key : BitVec 16), s.Takes pFLEET → key.toNat = 0x8B2F → s.mayEnumerate = true → s.assigned = true → s.ringOpen 0 = true → 
      Leads (exec (.fleetCmdEnumerate key) s) fun t => s.Frame t [] ([(pFLEET, 0x10), (pFLEET, 0x0C), (pID, 0x40)] ++ everyLinkReg 0x34 ++ everyLinkReg 0x30) [] [] ∧ t.Carries 0 1 (s.node % 128) (enumPayload 0 0x7F 0 (2 ^ s.node)) ∧ t.fleet = s.fleet) ∧
  (∀ (s : State) (f : RxF), s.fleet.inbox.find? (isEnum 0) = some f → s.assigned = true → frSrc f.bytes = s.node → s.ringOpen 1 = true → 
      Leads (exec (.enumAssign) s) fun t => s.Frame t [] ([(pFLEET, 0x30), (pFLEET, 0x10), (pFLEET, 0x0C), (pFLEET, 0x28), (pID, 0x40)] ++ everyLinkReg 0x34 ++ everyLinkReg 0x30) [] [] ∧ t.fld pFLEET FLEET.LOOP_P_LOOP = (numAt (frPayload f.bytes) 4 4 + s.viaDelay f.via) % 2 ^ 20 ∧ t.fleet.inbox = s.fleet.inbox.eraseP (isEnum 0) ∧ t.Carries 1 1 (s.node % 128) (enumPayload 1 (byteAt (frPayload f.bytes) 1) 0 (numAt (frPayload f.bytes) 8 8))) ∧
  (∀ (s : State) (f : RxF) (i : Nat), s.fleet.inbox.find? (isEnum 0) = some f → s.assigned = false → s.flag pFLEET FLEET.CFG_JOIN = true → s.flag pFLEET FLEET.CFG_INDEX_MODE = false → lowestClear (numAt (frPayload f.bytes) 8 8) = some i → f.via = 0 → frWrapped f.bytes = false → 
      Leads (exec (.enumAssign) s) fun t => s.Frame t [] ([(pFLEET, 0x30), (pFLEET, 0x10), (pFLEET, 0x0C), (pFLEET, 0x28), (pID, 0x40)] ++ everyLinkReg 0x34 ++ everyLinkReg 0x30) [] [] ∧ t.fld pID ID.NODE_INDEX = i ∧ t.flag pID ID.NODE_ASSIGNED = true ∧ t.fleet.lastTag = [] ∧ t.fld pFLEET FLEET.DELAY_P_DELAY = (numAt (frPayload f.bytes) 4 4 + s.viaDelay 0) % 2 ^ 20 ∧ t.flag pFLEET FLEET.DELAY_P_VALID = true) ∧
  (∀ (s : State) (f : RxF), s.fleet.inbox.find? (isEnum 1) = some f → s.assigned = true → frSrc f.bytes = s.node → s.backOn (viaLink f.via) 1 = true → 
      Leads (exec (.enumCal) s) fun t => s.Frame t [pFLEET] ([(pCLK, 0x2C)] ++ everyLinkReg 0x34 ++ everyLinkReg 0x30) [] [] ∧ t.fld pFLEET FLEET.LOOP_S_LOOP = (numAt (frPayload f.bytes) 4 4 + s.viaDelay f.via) % 2 ^ 20 ∧ t.flag pFLEET FLEET.PG_STAT_ENUM_DONE = true ∧ t.flag pFLEET FLEET.PG_STAT_TICK_ALIGNED = true ∧ t.flag pFLEET FLEET.PG_EVT_ENUM_DONE = true ∧ t.fld pFLEET FLEET.NODES_MGR = s.node % 128 ∧ t.fld pFLEET FLEET.NODES_COUNT = countBits (numAt (frPayload f.bytes) 8 8) ∧ t.fleet.inbox = s.fleet.inbox.eraseP (isEnum 1)) ∧
  (∀ (s : State) (f : RxF), s.fleet.inbox.find? (isEnum 2) = some f → s.assigned = true → 
      Leads (exec (.enumDone) s) fun t => s.Frame t [pFLEET] [] [] [] ∧ t.flag pFLEET FLEET.PG_STAT_ENUM_DONE = true ∧ t.flag pFLEET FLEET.PG_EVT_ENUM_DONE = true ∧ t.fld pFLEET FLEET.NODES_MGR = frSrc f.bytes ∧ t.fld pFLEET FLEET.NODES_COUNT = byteAt (frPayload f.bytes) 12 % 128 ∧ t.fld pFLEET FLEET.LOOP_P_LOOP = numAt (frPayload f.bytes) 4 4 % 2 ^ 20 ∧ t.fleet.inbox = s.fleet.inbox.eraseP (isEnum 2)) ∧
  (∀ (s : State) (m : Nat), s.mayEnumerate = false → s.fleet.mgrSeen = some m → m < 128 → s.flag pFLEET FLEET.CFG_JOIN = true → s.role = .worker → s.ringOpen 0 = true → 
      Leads (exec (.enumJoinReq) s) fun t => s.Frame t [] ([(pFLEET, 0x0C), (pID, 0x40)] ++ everyLinkReg 0x34 ++ everyLinkReg 0x30) [] [] ∧ t.Carries 0 1 m (leBytes 4 6) ∧ t.fleet = s.fleet) ∧
  (∀ (s : State) (f : RxF) (err : Int), s.fleet.inbox.find? (fun f => frType f.bytes == 0) = some f → s.acting ≠ .manager → s.flag pFLEET FLEET.PG_STAT_ENUM_DONE = false → s.fleet.taken = none → 
      Leads (exec (.tickFrameReceive err) s) fun t => s.Frame t [] [(pFLEET, 0x24), (pFLEET, 0x0C), (pFLEET, 0x3C), (pFLEET, 0x38), (pFLEET, 0x10), (pUPD, 0x10), (pUPD, 0x4C), (pSYS, 0x0C), (pCLK, 0x2C)] [] [] ∧ t.fleet.mgrSeen = some (frSrc f.bytes) ∧ t.fld pFLEET FLEET.PHASE_MISSED = 0 ∧ t.fld pFLEET FLEET.PHASE_ERROR = unsigned 16 err ∧ t.tick = s.tick ∧ t.fleet.taken = some (numAt (frPayload f.bytes) 0 6, f.via == 0 && !frWrapped f.bytes)) ∧
  (∀ (s : State) (f : RxF) (err : Int), s.fleet.inbox.find? (fun f => frType f.bytes == 0) = some f → s.acting ≠ .manager → s.flag pFLEET FLEET.PG_STAT_ENUM_DONE = true → s.flag pFLEET FLEET.PG_STAT_TICK_ALIGNED = false → s.fld pFLEET FLEET.NODES_MGR = frSrc f.bytes → s.fleet.taken = none → 
      Leads (exec (.tickFrameReceive err) s) fun t => s.Frame t [] [(pFLEET, 0x24), (pFLEET, 0x0C), (pFLEET, 0x3C), (pFLEET, 0x38), (pFLEET, 0x10), (pUPD, 0x10), (pUPD, 0x4C), (pSYS, 0x0C), (pCLK, 0x2C)] [] [] ∧ t.tick = numAt (frPayload f.bytes) 0 6 ∧ (t.flag pFLEET FLEET.PG_STAT_TICK_ALIGNED = decide (err.natAbs ≤ 312 ∧ 3 ≤ s.fleet.good))) ∧
  (∀ (s : State) (f : RxF), s.fleet.inbox.find? (isEnum 4) = some f → s.assigned = true → byteAt (frPayload f.bytes) 1 = s.node → s.node < 128 → 
      Leads (exec (.takeoverReceive) s) fun t => s.Frame t [] ([(pFLEET, 0x24), (pFLEET, 0x28), (pFLEET, 0x2C), (pFLEET, 0x0C), (pSYS, 0x0C)] ++ everyLinkReg 0x34 ++ everyLinkReg 0x30) [] [] ∧ t.acting = .manager ∧ t.flag pFLEET FLEET.PG_STAT_DEFERRED = false ∧ t.flag pFLEET FLEET.PG_STAT_ACTING_MGR = true ∧ t.fld pFLEET FLEET.NODES_MGR = s.node ∧ t.fleet.inbox = s.fleet.inbox.eraseP (isEnum 4)) ∧
  (∀ (s : State) (m : Nat), s.flag pFLEET FLEET.PG_STAT_DEFERRED = true → s.fleet.mgrSeen = some m → m < 128 → s.ringOpen 0 = true → 
      Leads (exec (.enumReturn) s) fun t => s.Frame t [] (everyLinkReg 0x34 ++ everyLinkReg 0x30) [] [] ∧ t.Carries 0 1 m (leBytes 4 5) ∧ t.fleet = s.fleet) ∧
  (∀ (s : State) (f : RxF), s.flag pFLEET FLEET.PG_STAT_DEFERRED = false → s.fleet.inbox.find? (isEnum 5) = some f → s.flag pFLEET FLEET.CFG_HANDBACK = true → s.role = .standby → s.fleet.handback = none → 
      Leads (exec (.enumReturn) s) fun t => s.Frame t [] (everyLinkReg 0x34 ++ everyLinkReg 0x30) [] [] ∧ t.fleet.returned = some (frSrc f.bytes) ∧ t.fleet.handback = some s.tick ∧ t.regs = s.regs ∧ t.links = s.links) ∧
  (∀ (s : State) (t0 m : Nat), s.fleet.handback = some t0 → s.fleet.returned = some m → m < 128 → s.acting = .manager → s.role = .standby → s.tick % 200 = 0 → t0 + 200 ≤ s.tick → s.ringOpen 0 = true → 
      Leads (exec (.handback) s) fun t => s.Frame t [] ([(pFLEET, 0x10), (pFLEET, 0x0C), (pFLEET, 0x24), (pFLEET, 0x28), (pFLEET, 0x2C), (pUPD, 0x10), (pUPD, 0x4C), (pSYS, 0x0C)] ++ everyLinkReg 0x34 ++ everyLinkReg 0x30) [] [] ∧ t.acting = .standby ∧ t.flag pFLEET FLEET.PG_STAT_ACTING_MGR = false ∧ t.flag pFLEET FLEET.PG_EVT_HANDBACK = true ∧ t.fld pFLEET FLEET.NODES_MGR = m ∧ t.fleet.handback = none ∧ t.fleet.returned = none ∧ t.Carries 0 1 0 (tkoPayload m s.fleet.mgrDelay.1 s.fleet.mgrDelay.2 s.tick)) ∧
  (∀ (s : State) (key : BitVec 16), s.Takes pFLEET → key.toNat = 0x8B2F → s.acting = .standby → 
      Leads (exec (.fleetCmdTakeover key) s) fun t => s.Frame t [] [(pFLEET, 0x10)] [] [] ∧ t.fleet = { s.fleet with forceTko := true } ∧ t.regs = s.regs) ∧
  (∀ (s : State) (key : BitVec 16), s.Takes pFLEET → key.toNat = 0x8B2F → s.acting = .manager → s.role = .standby → s.fleet.returned.isSome = true → s.fleet.handback = none → 
      Leads (exec (.fleetCmdHandback key) s) fun t => s.Frame t [] [(pFLEET, 0x10)] [] [] ∧ t.fleet = { s.fleet with handback := some s.tick } ∧ t.regs = s.regs)

/-- Frames that carry state through the fleet: WRAP frames keep the set of wrapping links; a node whose ATTN has changed reports NODE_SUM to the manager; engine frames enter the receive queue and count as dropped when it is full; a transmit record is checked, refused or sent. Each clause holds in the states and for the operands that its hypotheses name. -/
def Obligations.FleetFramesComplete : Prop :=
  (∀ (s : State) (f : RxF), s.fleet.inbox.find? (fun f => frType f.bytes == 2) = some f → bitAt (numAt (frPayload f.bytes) 0 4) 9 = true → s.fleet.wraps = [] → 
      Leads (exec (.wrapFrameReceive) s) fun t => s.Frame t [] ([(pFLEET, 0x0C), (pFLEET, 0x10), (pID, 0x40)] ++ everyLinkReg 0x34 ++ everyLinkReg 0x30) [] [] ∧ t.fleet.wraps = [(bitsOf (numAt (frPayload f.bytes) 0 4) 0 7, bitsOf (numAt (frPayload f.bytes) 0 4) 8 1)] ∧ t.flag pFLEET FLEET.PG_STAT_RING_WRAPPED = true ∧ t.flag pFLEET FLEET.PG_EVT_RING_WRAP = true) ∧
  (∀ (s : State) (f : RxF), s.fleet.inbox.find? (fun f => frType f.bytes == 2) = some f → bitAt (numAt (frPayload f.bytes) 0 4) 9 = false → s.mayEnumerate = false → s.fleet.wraps = [(bitsOf (numAt (frPayload f.bytes) 0 4) 0 7, bitsOf (numAt (frPayload f.bytes) 0 4) 8 1)] → 
      Leads (exec (.wrapFrameReceive) s) fun t => s.Frame t [] ([(pFLEET, 0x0C), (pFLEET, 0x10), (pID, 0x40)] ++ everyLinkReg 0x34 ++ everyLinkReg 0x30) [] [] ∧ t.fleet.wraps = [] ∧ t.flag pFLEET FLEET.PG_STAT_RING_WRAPPED = false ∧ t.flag pFLEET FLEET.PG_EVT_RING_WHOLE = true) ∧
  (∀ (s : State), s.live = true → s.assigned = true → s.acting = .worker → s.attn ≠ s.fleet.attnAcked → s.evtInFlight = false → s.ringOpen 0 = true → 
      Leads (exec (.evtFrameSend) s) fun t => s.Frame t [] (everyLinkReg 0x34 ++ everyLinkReg 0x30) [] [] ∧ t.Carries 0 9 (s.fld pFLEET FLEET.NODES_MGR) (leBytes 4 s.nodeSum) ∧ t.fleet = s.fleet) ∧
  (∀ (s : State) (f : RxF) (slot cls task : Nat), s.fleet.inbox.find? (fun f => (engineFrame (frType f.bytes)).isSome) = some f → engineFrame (frType f.bytes) = some (slot, cls, task) → (s.fld pFLEET FLEET.RXQ_WR_INDEX + 1) % 64 ≠ s.fld pFLEET FLEET.RXQ_RD_INDEX → 
      Leads (exec (.engineFrameDeliver) s) fun t => s.Frame t [] [(pFLEET, 0x10), (pFLEET, 0x68), (pFLEET, 0x60)] [rxBytes, descBytes] [] ∧ t.fld pFLEET FLEET.RXQ_WR_INDEX = (s.fld pFLEET FLEET.RXQ_WR_INDEX + 1) % 64 ∧ t.fleet.inbox = s.fleet.inbox.eraseP (fun f => (engineFrame (frType f.bytes)).isSome) ∧ t.stRead (rxfAt (s.fld pFLEET FLEET.RXQ_WR_INDEX)) 264 = padTo 8 f.bytes ++ padTo 256 (frPayload f.bytes)) ∧
  (∀ (s : State) (f : RxF), s.fleet.inbox.find? (fun f => (engineFrame (frType f.bytes)).isSome) = some f → (s.fld pFLEET FLEET.RXQ_WR_INDEX + 1) % 64 = s.fld pFLEET FLEET.RXQ_RD_INDEX → 
      Leads (exec (.engineFrameDeliver) s) fun t => s.Frame t [] [(pFLEET, 0x10), (pFLEET, 0x68), (pFLEET, 0x60)] [rxBytes, descBytes] [] ∧ t.flag pFLEET FLEET.PG_EVT_RXQ_FULL = true ∧ t.fld pFLEET FLEET.STATS_RXQ_DROP = min (s.fld pFLEET FLEET.STATS_RXQ_DROP + 1) 0xFFFF ∧ t.store = s.store) ∧
  (∀ (s : State) (slot : Fin 64), s.Takes pFLEET → s.stNat (txfAt slot.val + 269) 1 = 0 → s.stChecks (txfAt slot.val) 512 = false → 
      Leads (exec (.fleetTxReq slot) s) fun t => s.Frame t [pBANK] ([(pFLEET, 0x10), (pSTORE, 0x10), (pSTORE, 0x28), (pSTORE, 0x2C), (pSTORE, 0x30), (pSTORE, 0x0C)] ++ everyLinkReg 0x34 ++ everyLinkReg 0x30) [txBytes] [] ∧ t.stNat (txfAt slot.val + 269) 1 = 3 ∧ t.flag pFLEET FLEET.PG_EVT_TX_DONE = true) ∧
  (∀ (s : State) (slot : Fin 64), s.Takes pFLEET → s.stNat (txfAt slot.val + 269) 1 = 0 → s.stNat (txfAt slot.val + 268) 1 = 0 → s.stChecks (txfAt slot.val) 512 = true → frType (s.stRead (txfAt slot.val) 8) = 7 → frBcast (s.stRead (txfAt slot.val) 8) = false → frLen (s.stRead (txfAt slot.val) 8) ≤ 256 → s.ringOpen 0 = true → 
      Leads (exec (.fleetTxReq slot) s) fun t => s.Frame t [pBANK] ([(pFLEET, 0x10), (pSTORE, 0x10), (pSTORE, 0x28), (pSTORE, 0x2C), (pSTORE, 0x30), (pSTORE, 0x0C)] ++ everyLinkReg 0x34 ++ everyLinkReg 0x30) [txBytes] [] ∧ t.stNat (txfAt slot.val + 269) 1 = 1 ∧ t.Carries 0 7 (frDest (s.stRead (txfAt slot.val) 8)) (s.stRead (txfAt slot.val + 8) (frLen (s.stRead (txfAt slot.val) 8))))

/-- The placing device (chapter 14): a run is asked for and made, with its number, kind and tick recorded and every own port's grant numbered; CONTRACT and TELEM frames enter the ledger; a node whose lease has expired is marked and its commitments released after CONFIRM_TK + 3,000 ticks; the ledger is mirrored; a record that fails its check is rebuilt from its configuration. Each clause holds in the states and for the operands that its hypotheses name. -/
def Obligations.PlacementOnTheManagerCompletes : Prop :=
  (∀ (s : State) (key : BitVec 16), s.Takes pPLACE → key.toNat = 0x91D4 → s.places = true → 
      Leads (exec (.placeCmdRun key) s) fun t => s.Frame t [] [(pPLACE, 0x10)] [] [] ∧ t.place = { s.place with cmdRun := true } ∧ t.regs = s.regs) ∧
  (∀ (s : State) (kind : Nat) (n : Port), s.place.due = some kind → kind < 4 → s.fw = true → s.places = true → 
      Leads (exec (.placementRun) s) fun t => s.Frame t [pBANK] ([(pFLEET, 0x10), (pSTORE, 0x10), (pSTORE, 0x28), (pSTORE, 0x2C), (pSTORE, 0x30), (pSTORE, 0x0C), (pPLACE, 0x2C), (pPLACE, 0x10)] ++ everyLinkReg 0x34 ++ everyLinkReg 0x30 ++ everyPortReg pGUARD 0x2C ++ everyPortReg pCC 0x20 ++ everyPortReg pCC 0x08) [recordBytes, txBytes] [] ∧ t.place.due = none ∧ t.place.seq = (s.place.seq + 1) % 256 ∧ t.place.runs = s.place.runs + 1 ∧ t.fld pPLACE PLACE.RUN_STAT_KIND = kind ∧ t.fld pPLACE PLACE.RUN_STAT_RUN_TICK = s.tick % 2 ^ 16 ∧ t.flag pPLACE PLACE.PG_EVT_RUN_DONE = true ∧ (t.own n).seq = (s.place.seq + 1) % 256 ∧ t.place.cutPools = []) ∧
  (∀ (s : State) (entry : Fin 64), s.fw = true → s.rxType entry.val = 8 → s.stChecks (rxfAt entry.val) 512 = true → s.places = true → s.rxSrc entry.val < 64 → 
      Leads (exec (.contractReceive entry) s) fun t => s.Frame t [pBANK, pPLACE] [(pSTORE, 0x10), (pSTORE, 0x28), (pSTORE, 0x2C), (pSTORE, 0x30), (pSTORE, 0x0C), (pFLEET, 0x64)] [recordBytes] [] ∧ (t.nodeLed (s.rxSrc entry.val)).hold = bitAt (byteAt (s.rxPayload entry.val) 5) 6 ∧ (t.nodeLed (s.rxSrc entry.val)).orphanAt = none ∧ (t.led (8 * s.rxSrc entry.val)).attached = bitAt (byteAt (s.rxPayload entry.val) 5) 0) ∧
  (∀ (s : State) (entry : Fin 64), s.fw = true → s.rxType entry.val = 6 → s.stChecks (rxfAt entry.val) 512 = true → s.places = true → s.rxSrc entry.val < 64 → s.fld pFLEET FLEET.RXQ_RD_INDEX = entry.val → 
      Leads (exec (.telemReceive entry) s) fun t => s.Frame t [pBANK] [(pSTORE, 0x10), (pSTORE, 0x28), (pSTORE, 0x2C), (pSTORE, 0x30), (pSTORE, 0x0C), (pFLEET, 0x64)] [recordBytes, energyBytes] [] ∧ t.fld pFLEET FLEET.RXQ_RD_INDEX = (entry.val + 1) % 64 ∧ (t.led (8 * s.rxSrc entry.val)).therm = bitsOf (byteAt (s.rxPayload entry.val) 10) 3 2 ∧ t.stNat (0x90000 + 128 * s.rxSrc entry.val) 8 = (s.stNat (0x90000 + 128 * s.rxSrc entry.val) 8 + numAt (s.rxPayload entry.val) 12 4) % 2 ^ 64) ∧
  (∀ (s : State) (soc : Nat) (n : Port), s.fw = true → s.ccState n ≠ .attachedSrc → 
      Leads (exec (.demandCompute [(n, soc)]) s) fun t => s.Frame t [pBANK] [(pSTORE, 0x10), (pSTORE, 0x28), (pSTORE, 0x2C), (pSTORE, 0x30), (pSTORE, 0x0C)] [recordBytes] [] ∧ t.place.soc.get n = min soc 255 ∧ t.place.demand.get n = 0) ∧
  (∀ (s : State) (n : Port), s.fw = true → s.ccState n = .attachedSrc → (s.port n).fw.mism = false → s.snapValid n = false → 
      Leads (exec (.demandCompute []) s) fun t => s.Frame t [pBANK] [(pSTORE, 0x10), (pSTORE, 0x28), (pSTORE, 0x2C), (pSTORE, 0x30), (pSTORE, 0x0C)] [recordBytes] [] ∧ s.ownD n ≤ t.place.demand.get n ∧ t.place.demand.get n ≤ 65535) ∧
  (∀ (s : State) (node : Fin 64), s.fw = true → s.places = true → (s.nodeLed node.val).orphanAt = none → 0 < (s.nodeLed node.val).last → (s.nodeLed node.val).last + s.leaseTk + 2 ≤ s.tick → 
      Leads (exec (.nodeOrphaned node) s) fun t => s.Frame t [pPLACE] [] [] [] ∧ (t.nodeLed node.val).orphanAt = some s.tick ∧ t.mapBit pPLACE PLACE.ORPHANS_NODES node.val = true ∧ t.flag pPLACE PLACE.PG_EVT_NODE_ORPHANED = true) ∧
  (∀ (s : State) (node : Fin 64) (t0 : Nat), s.fw = true → (s.nodeLed node.val).orphanAt = some t0 → (s.nodeLed node.val).hold = false → (s.nodeLed node.val).released = false → t0 + s.confirmTk + 3000 ≤ s.tick → s.recPlaced (8 * node.val) = true → 
      Leads (exec (.nodeCommitRelease node) s) fun t => s.Frame t [] [] [recordBytes] [] ∧ (t.nodeLed node.val).released = true ∧ t.recCommit (8 * node.val) = (if s.portAttached (8 * node.val) then s.recFloor (8 * node.val) else s.portD (8 * node.val)) ∧ t.recGrant (8 * node.val) = s.recGrant (8 * node.val) ∧ (t.led (8 * node.val)).pend = false) ∧
  (∀ (s : State) (m : Nat), s.fw = true → s.acting = .manager → s.role ≠ .solo → s.mirrorTo = some m → m < 128 → s.stNat (txfAt 40 + 269) 1 ≠ 1 → 
      Leads (exec (.ledgerMirrorSend) s) fun t => s.Frame t [pBANK] ([(pFLEET, 0x10), (pSTORE, 0x10), (pSTORE, 0x28), (pSTORE, 0x2C), (pSTORE, 0x30), (pSTORE, 0x0C)] ++ everyLinkReg 0x34 ++ everyLinkReg 0x30) [txBytes] [] ∧ t.place.dirty = [] ∧ frType (t.stRead (txfAt 40) 8) = 0xD ∧ frDest (t.stRead (txfAt 40) 8) = m ∧ t.stNat (txfAt 40 + 12) 4 = s.place.runs % 2 ^ 32) ∧
  (∀ (s : State) (entry : Fin 64) (k : Fin 64), s.fw = true → s.rxType entry.val = 0xD → s.stChecks (rxfAt entry.val) 512 = true → s.places = false → byteAt (s.rxPayload entry.val) 0 = 0 → 
      Leads (exec (.ledgerReceive entry) s) fun t => s.Frame t [pBANK] [(pSTORE, 0x10), (pSTORE, 0x28), (pSTORE, 0x2C), (pSTORE, 0x30), (pSTORE, 0x0C), (pFLEET, 0x64), (pFLEET, 0x3C)] [recordBytes, (0x68000, 0x68200)] [] ∧ t.recCommit (64 * (byteAt (s.rxPayload entry.val) 1 % 8) + k.val) = numAt (s.rxPayload entry.val) (8 + 2 * k.val) 2 ∧ t.place.mirRun = numAt (s.rxPayload entry.val) 4 4 ∧ t.place.mirTick = s.tick ∧ bitAt t.place.mirMask (byteAt (s.rxPayload entry.val) 1 % 8) = true) ∧
  (∀ (s : State) (rec : Fin 512) (w0 w1 : Word), s.fw = true → s.places = true → s.stBadIn (recAt rec.val) 32 = true → rec.val / 8 = s.node → s.snapValid (Fin.ofNat 8 rec.val) = false → (s.own (Fin.ofNat 8 rec.val)).grant < 65536 → 
      Leads (exec (.ledgerRebuild rec (some (w0, w1))) s) fun t => s.Frame t [pBANK] [(pPLACE, 0x10), (pSTORE, 0x10), (pSTORE, 0x28), (pSTORE, 0x2C), (pSTORE, 0x30), (pSTORE, 0x0C)] [recordBytes] [] ∧ t.recWord (recAt rec.val) 0 = w0.toNat ∧ t.recWord (recAt rec.val) 1 = w1.toNat ∧ t.recGrant rec.val = (s.own (Fin.ofNat 8 rec.val)).grant ∧ t.flag pPLACE PLACE.PG_EVT_LEDGER_REBUILT = true ∧ t.recOk (recAt rec.val) = true)

/-- A node's side (chapter 14): a GRANT from the acting manager renews the lease and enters the receive queue; firmware takes the entries of its ports and starts what is due; an unconfirmed decrease ends in a Hard Reset; the lease runs out through RENEWING to ORPHAN, where ports decay to their floors; CONTRACT and TELEM go to the manager; the windows show and change the records; energy is converted and cleared. Each clause holds in the states and for the operands that its hypotheses name. -/
def Obligations.PlacementOnTheNodeCompletes : Prop :=
  (∀ (s : State) (f : RxF), s.fleet.inbox.find? (fun f => frType f.bytes == 7) = some f → frSrc f.bytes = s.fld pFLEET FLEET.NODES_MGR → s.places = false → s.fld pPLACE PLACE.LEASE_STAT_STATE ≤ 1 → (s.fld pFLEET FLEET.RXQ_WR_INDEX + 1) % 64 ≠ s.fld pFLEET FLEET.RXQ_RD_INDEX → 
      Leads (exec (.grantReceive) s) fun t => s.Frame t [] [(pPLACE, 0x28), (pPLACE, 0x10), (pFLEET, 0x10), (pFLEET, 0x68), (pFLEET, 0x60)] [rxBytes, descBytes] [] ∧ t.fld pPLACE PLACE.LEASE_STAT_LEFT_TK = s.leaseTk ∧ t.fld pPLACE PLACE.LEASE_STAT_SEQ = byteAt (frPayload f.bytes) 7 ∧ t.fld pPLACE PLACE.LEASE_STAT_STATE = 0 ∧ t.fld pFLEET FLEET.RXQ_WR_INDEX = (s.fld pFLEET FLEET.RXQ_WR_INDEX + 1) % 64 ∧ t.place = { s.place with since := 0, leaseOn := true } ∧ t.stRead (rxfAt (s.fld pFLEET FLEET.RXQ_WR_INDEX)) 8 = padTo 8 f.bytes) ∧
  (∀ (s : State) (entry : Fin 64) (n : Port), s.fw = true → s.rxType entry.val = 7 → s.stChecks (rxfAt entry.val) 512 = true → s.places = false → 
      Leads (exec (.grantApply (some entry)) s) fun t => s.Frame t ([pBANK] ++ everyPort pPDL) ([(pSTORE, 0x10), (pSTORE, 0x28), (pSTORE, 0x2C), (pSTORE, 0x30), (pSTORE, 0x0C), (pFLEET, 0x64)] ++ everyPortReg pGUARD 0x2C ++ everyPortReg pCC 0x20 ++ everyPortReg pCC 0x08 ++ everyPortReg pVDM 0x40 ++ everyPortReg pVDM 0x10) [(0, 0x20000), descBytes] [] ∧ (t.own n).grant = numAt (s.rxPayload entry.val) (8 * n.val) 2 ∧ (t.own n).floor = numAt (s.rxPayload entry.val) (8 * n.val + 2) 2 ∧ (t.own n).start = numAt (s.rxPayload entry.val) (8 * n.val + 4) 2 ∧ (t.own n).seq = byteAt (s.rxPayload entry.val) (8 * n.val + 7) ∧ (t.own n).kind = bitsOf (byteAt (s.rxPayload entry.val) (8 * n.val + 6)) 0 3) ∧
  (∀ (s : State) (n : Port), s.fw = true → (s.own n).todo = true → s.tkCome (s.own n).start = true → (s.own n).kind = 1 → s.ccState n = .attachedSrc → s.guardState n = 3 → s.transRuns n = false → s.snapTrans n = false → s.flag (pPOL n) POL.PG_STAT_EPR_MODE = false → s.MaySend n → 
      Leads (exec (.grantApply none) s) fun t => s.Frame t ([pBANK] ++ everyPort pPDL) ([(pSTORE, 0x10), (pSTORE, 0x28), (pSTORE, 0x2C), (pSTORE, 0x30), (pSTORE, 0x0C), (pFLEET, 0x64)] ++ everyPortReg pGUARD 0x2C ++ everyPortReg pCC 0x20 ++ everyPortReg pCC 0x08 ++ everyPortReg pVDM 0x40 ++ everyPortReg pVDM 0x10) [(0, 0x20000), descBytes] [] ∧ (t.own n).todo = false ∧ (t.own n).limited = true ∧ (t.port n).fw.caps = s.buildCaps n ∧ s.Sent t n 0 1 (((s.buildCaps n).filter fun c => c.1 ≤ 7).map fun c => c.2)) ∧
  (∀ (s : State) (n : Port), s.fw = true → (s.own n).pend = true → (s.own n).kind = 2 → s.confirmed n = false → s.tkCome ((s.own n).start + s.confirmTk) = true → s.pdAttached n = true → 
      Leads (exec (.decConfirmTimeout n) s) fun t => s.Frame t [pPDL n] [(pVDM n, 0x40), (pVDM n, 0x10)] [portBytes n, descBytes] [] ∧ (t.port n).pdl.hrSend = true ∧ (t.port n).pdl.queue = [] ∧ t.flag (pPDL n) PDL.PG_STAT_HR_PENDING = true) ∧
  (∀ (s : State) (n : Port), s.fw = true → s.confirmed n = true → s.places = false → s.stNat (txfAt 62 + 269) 1 ≠ 1 → 
      Leads (exec (.contractSend true) s) fun t => s.Frame t [pBANK] ([(pFLEET, 0x10), (pSTORE, 0x10), (pSTORE, 0x28), (pSTORE, 0x2C), (pSTORE, 0x30), (pSTORE, 0x0C)] ++ everyLinkReg 0x34 ++ everyLinkReg 0x30) [recordBytes, txBytes] [] ∧ (t.own n).ack = (s.own n).grant ∧ (t.own n).ackSeq = (s.own n).seq ∧ (t.own n).pend = false ∧ frType (t.stRead (txfAt 62) 8) = 8 ∧ frDest (t.stRead (txfAt 62) 8) = s.fld pFLEET FLEET.NODES_MGR ∧ t.stRead (txfAt 62 + 8) 52 = t.place.contract) ∧
  (∀ (s : State) (n : Port), s.fw = true → s.places = false → s.assigned = true → s.flag pFLEET FLEET.PG_STAT_IDX_CONFLICT = false → s.stNat (txfAt 63 + 269) 1 ≠ 1 → 
      Leads (exec (.telemSend) s) fun t => s.Frame t [pBANK] ([(pFLEET, 0x10), (pSTORE, 0x10), (pSTORE, 0x28), (pSTORE, 0x2C), (pSTORE, 0x30), (pSTORE, 0x0C)] ++ everyLinkReg 0x34 ++ everyLinkReg 0x30) [txBytes] [] ∧ frType (t.stRead (txfAt 63) 8) = 6 ∧ frDest (t.stRead (txfAt 63) 8) = s.fld pFLEET FLEET.NODES_MGR ∧ t.stRead (txfAt 63 + 8 + 16 * n.val) 16 = s.telemEntry n ∧ t.place.lastOut.get n = s.energyAcc n ENGY.ACC_OUT_LO_ACC) ∧
  (∀ (s : State), s.fld pPLACE PLACE.LEASE_STAT_STATE = 0 → s.place.leaseOn = true → 220 ≤ s.place.since → s.places = false → 
      Leads (exec (.leaseRenewing) s) fun t => s.Frame t [] [(pPLACE, 0x28)] [] [] ∧ t.fld pPLACE PLACE.LEASE_STAT_STATE = 1 ∧ t.place = s.place) ∧
  (∀ (s : State), s.fld pPLACE PLACE.LEASE_STAT_STATE ≤ 1 → s.place.leaseOn = true → s.fld pPLACE PLACE.LEASE_STAT_LEFT_TK = 0 → s.places = false → 
      Leads (exec (.leaseExpire) s) fun t => s.Frame t [] [(pPLACE, 0x10), (pPLACE, 0x28)] [descBytes] [] ∧ t.fld pPLACE PLACE.LEASE_STAT_STATE = 2 ∧ t.flag pPLACE PLACE.PG_EVT_LEASE_EXPIRED = true ∧ t.place = { s.place with leaseOn := false, expiredAt := s.tick }) ∧
  (∀ (s : State) (n : Port), s.fw = true → s.fld pPLACE PLACE.LEASE_STAT_STATE = 2 → s.flag pPLACE PLACE.CFG_HOLD = false → (s.own n).floor < (s.own n).grant → 
      Leads (exec (.orphanDecay) s) fun t => s.Frame t [] ([(pPLACE, 0x28)] ++ everyPortReg pGUARD 0x2C ++ everyPortReg pCC 0x20 ++ everyPortReg pCC 0x08) [] [] ∧ (t.own n).grant = (s.own n).floor ∧ (t.own n).kind = 2 ∧ (t.own n).start = (s.place.expiredAt + n.val) % 65536 ∧ (t.own n).pend = true ∧ t.fld pPLACE PLACE.LEASE_STAT_STATE = 2) ∧
  (∀ (s : State), s.fw = true → s.fld pPLACE PLACE.LEASE_STAT_STATE = 2 → s.flag pPLACE PLACE.CFG_HOLD = false → (∀ n, (s.own n).grant ≤ (s.own n).floor ∧ (s.own n).pend = false) → 
      Leads (exec (.orphanDecay) s) fun t => s.Frame t [] ([(pPLACE, 0x28)] ++ everyPortReg pGUARD 0x2C ++ everyPortReg pCC 0x20 ++ everyPortReg pCC 0x08) [] [] ∧ t.fld pPLACE PLACE.LEASE_STAT_STATE = 3 ∧ t.place = s.place) ∧
  (∀ (s : State) (key : BitVec 16), s.Takes pPLACE → key.toNat = 0x91D4 → s.fld pPLACE PLACE.LEASE_STAT_STATE = 2 → 
      Leads (exec (.placeCmdFloorDone key) s) fun t => s.Frame t [] [(pPLACE, 0x10), (pPLACE, 0x28)] [] [] ∧ t.fld pPLACE PLACE.LEASE_STAT_STATE = 3) ∧
  (∀ (s : State) (node : BitVec 7) (port : BitVec 3) (w : Fin 4), s.Takes pPLACE → node.toNat < 64 → s.recOk (recAt (8 * node.toNat + port.toNat)) = true → 
      Leads (exec (.portSelWrite node port) s) fun t => s.Frame t [pBANK, pPLACE] [(pSTORE, 0x10), (pSTORE, 0x28), (pSTORE, 0x2C), (pSTORE, 0x30), (pSTORE, 0x0C)] [] [] ∧ t.fld pPLACE PLACE.PORT_SEL_NODE = node.toNat ∧ t.fld pPLACE PLACE.PORT_SEL_PORT = port.toNat ∧ (t.rd pPLACE (0x4C + 4 * w.val)).toNat = s.recWord (recAt (8 * node.toNat + port.toNat)) w.val) ∧
  (∀ (s : State) (node : BitVec 7) (port : BitVec 3) (w : Fin 4), s.Takes pPLACE → node.toNat < 64 → s.stBadIn (recAt (8 * node.toNat + port.toNat)) 32 = true → 
      Leads (exec (.portSelWrite node port) s) fun t => s.Frame t [pBANK, pPLACE] [(pSTORE, 0x10), (pSTORE, 0x28), (pSTORE, 0x2C), (pSTORE, 0x30), (pSTORE, 0x0C)] [] [] ∧ t.rd pPLACE (0x4C + 4 * w.val) = 0 ∧ t.flag pPLACE PLACE.PG_EVT_RECORD_BAD = true) ∧
  (∀ (s : State) (pool : BitVec 4) (w : Fin 4), s.Takes pPLACE → s.recOk (poolAt pool.toNat) = true → 
      Leads (exec (.poolSelWrite pool) s) fun t => s.Frame t [pBANK, pPLACE] [(pSTORE, 0x10), (pSTORE, 0x28), (pSTORE, 0x2C), (pSTORE, 0x30), (pSTORE, 0x0C)] [] [] ∧ t.fld pPLACE PLACE.POOL_SEL_POOL = pool.toNat ∧ (t.rd pPLACE (0x34 + 4 * w.val)).toNat = s.recWord (poolAt pool.toNat) w.val) ∧
  (∀ (s : State) (v : Word), s.Takes pPLACE → s.fld pPLACE PLACE.PORT_SEL_NODE < 64 → 
      Leads (exec (.placeWindowWrite 3 v) s) fun t => s.Frame t [pPLACE] [] [recordBytes] [] ∧ t.recWord (recAt (8 * s.fld pPLACE PLACE.PORT_SEL_NODE + s.fld pPLACE PLACE.PORT_SEL_PORT)) 0 = v.toNat ∧ t.rd pPLACE 0x4C = v ∧ t.stNat (recAt (8 * s.fld pPLACE PLACE.PORT_SEL_NODE + s.fld pPLACE PLACE.PORT_SEL_PORT) + 28) 4 = crc16 (t.stRead (recAt (8 * s.fld pPLACE PLACE.PORT_SEL_NODE + s.fld pPLACE PLACE.PORT_SEL_PORT)) 28)) ∧
  (∀ (s : State) (n : Port), s.fw = true → 
      Leads (exec (.energyConversion) s) fun t => s.Frame t [pENGY] [] [] [] ∧ t.fld pENGY (ENGY.DEC_LO_DIGITS.at (2 * n.val)) = packedDec 10 (min (s.energyAcc n ENGY.ACC_OUT_LO_ACC / 36000000) 9999999999) % 2 ^ 32 ∧ t.fld pENGY ENGY.CONV_STAT_TICK = s.tick % 2 ^ 32) ∧
  (∀ (s : State) (ports : BitVec 8) (key : BitVec 16), s.Takes pENGY → key.toNat = 0xE6A3 → 
      Leads (exec (.engyCmdClear ports key) s) fun t => s.Frame t [] [(pENGY, 0x10)] [] [] ∧ t.place = { s.place with engyClear := s.place.engyClear ||| ports.toNat } ∧ t.regs = s.regs)

/-- Twin pairs (chapter 14): the mirror of a port is taken as a whole, from a frame on TIE or through MIR; lost Rp, silence on TIE or the command orders a takeover, which makes this device the owner with cause and tick recorded; the takeover task sends Soft_Reset after a stale mirror; a hot shadow joins; firmware chooses the role, yields a younger claim, and sends the pairs' ledger. Each clause holds in the states and for the operands that its hypotheses name. -/
def Obligations.TwinCommandsComplete : Prop :=
  (∀ (s : State), s.fw = true → s.fld pTWIN TWIN.CFG_PORTS ≠ 0 → s.linkUp 2 = true → s.stNat (txfAt 61 + 269) 1 ≠ 1 → 
      Leads (exec (.twinFrameSend) s) fun t => s.Frame t [pBANK] ([(pFLEET, 0x10), (pSTORE, 0x10), (pSTORE, 0x28), (pSTORE, 0x2C), (pSTORE, 0x30), (pSTORE, 0x0C)] ++ everyLinkReg 0x34 ++ everyLinkReg 0x30) [txBytes] [] ∧ frType (t.stRead (txfAt 61) 8) = 0xC ∧ t.stNat (txfAt 61 + 268) 1 = 2 ∧ frLen (t.stRead (txfAt 61) 8) = 32 * (allPorts.filter s.twinned).length ∧ t.stRead (txfAt 61 + 8) (32 * (allPorts.filter s.twinned).length) = (allPorts.filter s.twinned).flatMap s.twinEntry) ∧
  (∀ (s : State) (w7 : Word), s.Takes pTWIN → 
      Leads (exec (.mirWrite w7) s) fun t => s.Frame t [pTWIN] (everyPortReg pCC 0x44) [] [] ∧ (t.tw s.mirSel).mir = some (((List.range 7).flatMap fun w => leBytes 4 (s.fld pTWIN (TWIN.MIR_WORD.at w))) ++ leBytes 4 w7.toNat) ∧ t.flag (pCC s.mirSel) CC.SHADOW_WATCH_MIRRORED = true) ∧
  (∀ (s : State) (entry : Fin 64), s.fw = true → s.rxType entry.val = 0xC → s.stChecks (rxfAt entry.val) 512 = true → s.rxVia entry.val = 2 → s.fld pFLEET FLEET.RXQ_RD_INDEX = entry.val → 
      Leads (exec (.twinFrameReceive entry) s) fun t => s.Frame t [pBANK, pTWIN] ([(pSTORE, 0x10), (pSTORE, 0x28), (pSTORE, 0x2C), (pSTORE, 0x30), (pSTORE, 0x0C), (pFLEET, 0x64)] ++ everyPortReg pCC 0x44) [] [] ∧ t.twin.last = some s.tick ∧ t.fld pFLEET FLEET.RXQ_RD_INDEX = (entry.val + 1) % 64) ∧
  (∀ (s : State) (n : Port), s.shadowing n = true → s.mayOwn = true → s.inf (pCC n) CC.CFG_DB_CLAMP = 0 → (s.tw n).mir.isSome = true → 
      Leads (exec (.rpLost n) s) fun t => s.Frame t [pPDL n, pSHARE] [(pCC n, 0x0C), (pCC n, 0x10), (pCC n, 0x44), (pVDM n, 0x40), (pVDM n, 0x10), (pVDM n, 0x34), (pVDM n, 0x60), (pPOL n, 0x0C), (pPOL n, 0x34), (pPOL n, 0x10), (pPOL n, 0x2C), (pGUARD n, 0x0C), (pTWIN, 0x6C), (pTWIN, 0x38), (pTWIN, 0x10)] [portBytes n, descBytes] [snapBytes n] ∧ t.flag (pCC n) CC.PG_EVT_RP_LOST = true ∧ t.ccState n = .attachedSrc ∧ t.owning n = true ∧ t.fld pTWIN TWIN.LAST_TKO_CAUSE = 1 ∧ t.fld pTWIN TWIN.LAST_TKO_PORT = n.val ∧ (t.tw n).claim = some s.tick ∧ t.flag pTWIN TWIN.PG_EVT_TAKEOVER = true) ∧
  (∀ (s : State) (n : Port), s.shadowing n = true → s.mayOwn = true → s.inf (pCC n) CC.CFG_DB_CLAMP = 0 → (s.tw n).mir = none → 
      Leads (exec (.rpLost n) s) fun t => s.Frame t [pPDL n, pSHARE] [(pCC n, 0x0C), (pCC n, 0x10), (pCC n, 0x44), (pVDM n, 0x40), (pVDM n, 0x10), (pVDM n, 0x34), (pVDM n, 0x60), (pPOL n, 0x0C), (pPOL n, 0x34), (pPOL n, 0x10), (pPOL n, 0x2C), (pGUARD n, 0x0C), (pTWIN, 0x6C), (pTWIN, 0x38), (pTWIN, 0x10)] [portBytes n, descBytes] [snapBytes n] ∧ t.flag (pCC n) CC.PG_EVT_RP_LOST = true ∧ t.ccState n = .unattachedSrc ∧ t.owning n = true ∧ t.fld pTWIN TWIN.LAST_TKO_CAUSE = 4 ∧ t.flag pTWIN TWIN.PG_EVT_ASSUMED = true) ∧
  (∀ (s : State) (n : Port), s.silenceOrders n = true → s.mayOwn = true → s.inf (pCC n) CC.CFG_DB_CLAMP = 0 → (s.tw n).mir.isSome = true → 
      Leads (exec (.twinTakeover n) s) fun t => s.Frame t [pPDL n, pSHARE] [(pCC n, 0x0C), (pCC n, 0x10), (pVDM n, 0x40), (pVDM n, 0x10), (pVDM n, 0x34), (pVDM n, 0x60), (pPOL n, 0x0C), (pPOL n, 0x34), (pPOL n, 0x10), (pPOL n, 0x2C), (pGUARD n, 0x0C), (pTWIN, 0x6C), (pTWIN, 0x38), (pTWIN, 0x10)] [portBytes n, descBytes] [snapBytes n] ∧ t.ccState n = .attachedSrc ∧ t.owning n = true ∧ t.fld pTWIN TWIN.LAST_TKO_CAUSE = 2 ∧ t.fld pTWIN TWIN.COUNT_TAKEOVERS = min (s.fld pTWIN TWIN.COUNT_TAKEOVERS + 1) 0xFFFF ∧ t.flag pTWIN TWIN.PG_EVT_TAKEOVER = true) ∧
  (∀ (s : State) (n : Port) (key : BitVec 16), s.Takes pTWIN → key.toNat = 0x7A4C → s.shadowing n = true → s.mayOwn = true → s.inf (pCC n) CC.CFG_DB_CLAMP = 0 → (s.tw n).mir.isSome = true → 
      Leads (exec (.twinCmdTakeover (BitVec.ofNat 8 (2 ^ n.val)) key) s) fun t => s.Frame t ([pSHARE] ++ everyPort pPDL) ([(pTWIN, 0x10), (pTWIN, 0x6C), (pTWIN, 0x38)] ++ everyPortReg pCC 0x0C ++ everyPortReg pCC 0x10 ++ everyPortReg pVDM 0x40 ++ everyPortReg pVDM 0x10 ++ everyPortReg pVDM 0x34 ++ everyPortReg pVDM 0x60 ++ everyPortReg pPOL 0x0C ++ everyPortReg pPOL 0x34 ++ everyPortReg pPOL 0x10 ++ everyPortReg pPOL 0x2C ++ everyPortReg pGUARD 0x0C) [(0, 0x20000), descBytes] [(0, 0x100)] ∧ t.ccState n = .attachedSrc ∧ t.owning n = true ∧ t.fld pTWIN TWIN.LAST_TKO_CAUSE = 3 ∧ t.fld pTWIN TWIN.LAST_TKO_PORT = n.val) ∧
  (∀ (s : State) (n : Port), s.fw = true → s.fld pTWIN TWIN.LAST_TKO_PORT = n.val → s.ccState n = .attachedSrc → s.fld pTWIN TWIN.LAST_TKO_CAUSE = 3 → s.flag pTWIN TWIN.LAST_TKO_STALE = true → s.snapValid n = false → s.MaySend n → 
      Leads (exec (.takeoverTask) s) fun t => s.Frame t (everyPort pPDL) ([(pTWIN, 0x6C)] ++ everyPortReg pVDM 0x40 ++ everyPortReg pVDM 0x10 ++ everyPortReg pGUARD 0x2C) [(0, 0x20000), descBytes] [] ∧ s.Sent t n 0 13 [] ∧ t.fld pTWIN TWIN.COUNT_STALE = min (s.fld pTWIN TWIN.COUNT_STALE + 1) 0xFFFF ∧ (t.own n).limited = true) ∧
  (∀ (s : State) (n : Port), s.shadowing n = true → s.ccState n = .disabled → s.inf (pCC n) PG.CTRL_ENABLE = 1 → s.flag pTWIN TWIN.CFG_HOT = true → s.mirValid n = true → s.guardState n = 0 → s.enabled (pGUARD n) = true → 
      Leads (exec (.twinJoin n) s) fun t => s.Frame t [] [(pGUARD n, 0x0C)] [] [] ∧ t.guardState n = 2 ∧ t.flag (pGUARD n) GUARD.PG_STAT_JOIN = true ∧ (t.port n).guard.joined = true) ∧
  (∀ (s : State) (n : Port), s.fw = true → s.twinned n = true → s.locked (pCC n) = false → (s.tw n).mir = none → s.mayOwn = true → s.flag pTWIN TWIN.CFG_PREF_OWNER = true → 
      Leads (exec (.twinRoleChoice n) s) fun t => s.Frame t [] [(pCC n, 0x10), (pCC n, 0x20)] [] [] ∧ t.fld (pCC n) CC.CFG_TWIN = 1 ∧ (t.tw n).claim = some s.tick) ∧
  (∀ (s : State) (n : Port), s.fw = true → s.twinned n = true → s.locked (pCC n) = false → s.flag pTWIN TWIN.CFG_PREF_OWNER = false → 
      Leads (exec (.twinRoleChoice n) s) fun t => s.Frame t [] [(pCC n, 0x10), (pCC n, 0x20)] [] [] ∧ t.fld (pCC n) CC.CFG_TWIN = 2 ∧ t.twin = s.twin) ∧
  (∀ (s : State) (n : Port), s.fw = true → s.mustYield n = true → s.locked (pCC n) = false → 
      Leads (exec (.twinClaimYield n) s) fun t => s.Frame t [] [(pCC n, 0x08), (pCC n, 0x10), (pCC n, 0x20)] [] [] ∧ t.fld (pCC n) PG.CTRL_ENABLE = 0 ∧ t.fld (pCC n) CC.CFG_TWIN = 2 ∧ t.fld (pCC n) CC.PG_STAT_TWIN_MODE = s.fld (pCC n) CC.PG_STAT_TWIN_MODE ∧ (t.tw n).claim = none ∧ (t.tw n).yields = true) ∧
  (∀ (s : State), s.fw = true → s.places = true → s.linkUp 2 = true → s.stNat (txfAt 60 + 269) 1 ≠ 1 → 
      Leads (exec (.pairLedger) s) fun t => s.Frame t [pBANK] ([(pFLEET, 0x10), (pSTORE, 0x10), (pSTORE, 0x28), (pSTORE, 0x2C), (pSTORE, 0x30), (pSTORE, 0x0C)] ++ everyLinkReg 0x34 ++ everyLinkReg 0x30) [txBytes] [] ∧ frType (t.stRead (txfAt 60) 8) = 0xD ∧ t.stNat (txfAt 60 + 8) 1 = 1 ∧ t.stNat (txfAt 60 + 12) 4 = s.place.runs % 2 ^ 32 ∧ t.stNat (txfAt 60 + 268) 1 = 2)

/-- The gauge (chapter 15): a conversion adds its code less the offset to ACC; a shorted one measures the offset and repeats the last; measurements of the pack; CELL_MISMATCH clears SOC_VALID; the gauge's run; the write-back of what was learned; insertion and removal of a pack by its BID; FORGET, ABORT and CLEAR_SWAP. Each clause holds in the states and for the operands that its hypotheses name. -/
def Obligations.GaugeCommandsComplete : Prop :=
  (∀ (s : State) (code : BitVec 16), s.ccRuns = true → code ≠ 0x7FFF → code ≠ 0x8000 → 
      Leads (exec (.ccConversion false code) s) fun t => s.Frame t [] [(pGAUGE, 0x0C), (pGAUGE, 0x44), (pGAUGE, 0x40), (pGAUGE, 0x10), (pLEARN, 0x44), (pLEARN, 0x2C), (pLEARN, 0x10)] [] [] ∧ t.acc = signed 48 (unsigned 48 (s.acc + (code.toInt - s.gauge.ccOff))) ∧ t.gauge = { s.gauge with ccPrev := code.toInt - s.gauge.ccOff } ∧ t.flag pGAUGE GAUGE.PG_STAT_CC_RUN = true) ∧
  (∀ (s : State) (code : BitVec 16), s.ccRuns = true → code ≠ 0x7FFF → code ≠ 0x8000 → 
      Leads (exec (.ccConversion true code) s) fun t => s.Frame t [] [(pGAUGE, 0x0C), (pGAUGE, 0x44), (pGAUGE, 0x40), (pGAUGE, 0x10), (pLEARN, 0x44), (pLEARN, 0x2C), (pLEARN, 0x10)] [] [] ∧ t.acc = signed 48 (unsigned 48 (s.acc + s.gauge.ccPrev)) ∧ t.gauge.ccOff = code.toInt ∧ t.gauge.ccPrev = s.gauge.ccPrev) ∧
  (∀ (s : State) (code : BitVec 16), s.ccRuns = true → code = 0x7FFF → 
      Leads (exec (.ccConversion false code) s) fun t => s.Frame t [] [(pGAUGE, 0x0C), (pGAUGE, 0x44), (pGAUGE, 0x40), (pGAUGE, 0x10), (pLEARN, 0x44), (pLEARN, 0x2C), (pLEARN, 0x10)] [] [] ∧ t.flag pGAUGE GAUGE.PG_STAT_OVERRANGE = true ∧ t.flag pGAUGE GAUGE.PG_EVT_OVERRANGE = true ∧ t.gauge.overTick = some s.tick ∧ t.gauge.idleSince = none) ∧
  (∀ (s : State) (mv : Nat), s.live = true → s.enabled pGAUGE = true → s.cells ≠ 0 → s.gauge.overTick = none → 
      Leads (exec (.gaugeMeasure mv none) s) fun t => s.Frame t [] [(pGAUGE, 0x50), (pGAUGE, 0x48), (pGAUGE, 0x4C), (pGAUGE, 0x0C), (pGAUGE, 0x54), (pGAUGE, 0x10), (pLEARN, 0x44), (pLEARN, 0x2C), (pLEARN, 0x10), (pBATID, 0x24)] [] [] ∧ t.fld pGAUGE GAUGE.VPACK_V = min mv 65535 ∧ t.fld pGAUGE GAUGE.I_AVG1_I = unsigned 24 (s.meanOver 20000) ∧ t.fld pGAUGE GAUGE.I_AVG60_I = unsigned 24 (s.meanOver 1200000) ∧ t.gauge.hist.head? = some (s.tick, s.acc)) ∧
  (∀ (s : State) (mv bid : Nat) (temp : Int), s.live = true → s.enabled pGAUGE = true → s.cells ≠ 0 → -440 ≤ temp → temp ≤ 1400 → bid < 15000 → s.fld pBATID BATID.CFG_DETECT = 0 → s.gauge.present = 2 → 
      Leads (exec (.gaugeMeasure mv (some (temp, bid))) s) fun t => s.Frame t [] [(pGAUGE, 0x50), (pGAUGE, 0x48), (pGAUGE, 0x4C), (pGAUGE, 0x0C), (pGAUGE, 0x54), (pGAUGE, 0x10), (pLEARN, 0x44), (pLEARN, 0x2C), (pLEARN, 0x10), (pBATID, 0x24)] [] [] ∧ t.fld pGAUGE GAUGE.TEMP_T = unsigned 16 temp ∧ t.fld pBATID BATID.BID_OHM = bid ∧ t.gauge.present = 3 ∧ t.gauge.absent = 0 ∧ t.flag pGAUGE GAUGE.PG_STAT_TS_OPEN = false) ∧
  (∀ (s : State), s.fw = true → s.cells ≠ 0 → s.cellOk = false → 
      Leads (exec (.cellMismatch) s) fun t => s.Frame t [] [(pGAUGE, 0x10), (pGAUGE, 0x64)] [] [] ∧ t.flag pGAUGE GAUGE.STATE_CELL_MISMATCH = true ∧ t.flag pGAUGE GAUGE.STATE_SOC_VALID = false ∧ t.gauge = { s.gauge with inRange := none }) ∧
  (∀ (s : State), s.fw = true → s.enabled pGAUGE = true → s.cellOk = false → 
      Leads (exec (.gaugeRun) s) fun t => s.Frame t [pGAUGE, pLEARN] [] [] [gaugeRecBytes] ∧ t.gauge.inRange = none ∧ t.fld pGAUGE GAUGE.STATE_DIR = t.gDir) ∧
  (∀ (s : State), s.fw = true → s.flag pSUP SUP.PG_STAT_NV_STABLE = true → s.gauge.forget = false → s.flag pLEARN LEARN.PENDING_PEND = true → s.nvdOp.isSome = true → 
      Leads (exec (.gaugeWriteBack true) s) fun t => t.flag pLEARN LEARN.PG_EVT_WRITE_FAIL = true ∧ t.flag pLEARN LEARN.PENDING_PEND = true ∧ t.gauge = s.gauge ∧ t.store = s.store) ∧
  (∀ (s : State), s.fw = true → s.flag pSUP SUP.PG_STAT_NV_STABLE = true → s.gauge.forget = false → s.flag pLEARN LEARN.PENDING_PEND = true → s.nvdOp = none → s.nvdProtected (8 + s.slotInUse) false = false → s.eraseOk = true → 
      Leads (exec (.gaugeWriteBack true) s) fun t => t.flag pLEARN LEARN.PG_EVT_WRITTEN = true ∧ t.flag pLEARN LEARN.PENDING_PEND = false ∧ t.nvdOp = none) ∧
  (∀ (s : State) (k : Nat), s.live = true → s.flag pBATID BATID.STAT_PRESENT = false → 3 ≤ s.gauge.present → s.slotOf (s.fld pBATID BATID.BID_OHM) = some k → s.fw = true → s.gauge.wake = false → 
      Leads (exec (.packInsert) s) fun t => s.Frame t [pGAUGE] [(pBATID, 0x28), (pBATID, 0x10), (pLEARN, 0x2C)] [descBytes] [] ∧ t.flag pBATID BATID.STAT_PRESENT = true ∧ t.flag pBATID BATID.STAT_KNOWN = true ∧ t.fld pBATID BATID.STAT_SLOT = k ∧ t.flag pBATID BATID.PG_EVT_INSERTED = true ∧ t.fld pLEARN LEARN.STAT_STATE = 0) ∧
  (∀ (s : State), s.live = true → s.flag pBATID BATID.STAT_PRESENT = false → 3 ≤ s.gauge.present → s.slotOf (s.fld pBATID BATID.BID_OHM) = none → s.fw = true → s.gauge.wake = false → 
      Leads (exec (.packInsert) s) fun t => s.Frame t [pGAUGE] [(pBATID, 0x28), (pBATID, 0x10), (pLEARN, 0x2C)] [descBytes] [] ∧ t.flag pBATID BATID.STAT_PRESENT = true ∧ t.flag pBATID BATID.STAT_KNOWN = false ∧ t.flag pBATID BATID.PG_EVT_UNKNOWN = true ∧ t.flag pGAUGE GAUGE.STATE_SOC_VALID = false ∧ t.flag pBATID BATID.STAT_SWAP_SEEN = false ∧ t.fld pLEARN LEARN.STAT_STATE = 0 ∧ t.gauge.edvDone = 0) ∧
  (∀ (s : State), s.fw = true → s.flag pBATID BATID.STAT_PRESENT = true → 2 ≤ s.gauge.absent → 
      Leads (exec (.packRemove) s) fun t => s.Frame t [] [(pBATID, 0x10), (pBATID, 0x28), (pLEARN, 0x44), (pLEARN, 0x2C), (pLEARN, 0x10), (pGAUGE, 0x64)] [descBytes] [] ∧ t.flag pBATID BATID.STAT_PRESENT = false ∧ t.flag pBATID BATID.PG_EVT_REMOVED = true ∧ t.flag pGAUGE GAUGE.STATE_SOC_VALID = false ∧ t.gauge = { s.gauge with wake := false, qual := false }) ∧
  (∀ (s : State) (bid : Nat) (temp : Int), s.phase = .sleep → 15000 ≤ bid → temp < -440 → 
      Leads (exec (.aonPresenceSample bid temp) s) fun t => s.Frame t [] [(pBATID, 0x28)] [] [] ∧ t.flag pBATID BATID.STAT_SWAP_SEEN = true) ∧
  (∀ (s : State) (key : BitVec 16), s.Takes pBATID → key.toNat = 0x1F93 → 
      Leads (exec (.batidClearSwap key) s) fun t => s.Frame t [] [(pBATID, 0x10), (pBATID, 0x28)] [] [] ∧ t.flag pBATID BATID.STAT_SWAP_SEEN = false) ∧
  (∀ (s : State) (key : BitVec 16), s.Takes pLEARN → key.toNat = 0xC47A → s.fld pLEARN LEARN.STAT_STATE = 1 → 
      Leads (exec (.learnCmdAbort key) s) fun t => s.Frame t [] [(pLEARN, 0x10), (pLEARN, 0x44), (pLEARN, 0x2C)] [] [] ∧ t.fld pLEARN LEARN.STAT_STATE = 3 ∧ t.fld pLEARN LEARN.STAT_REASON = 10 ∧ t.flag pLEARN LEARN.PG_EVT_DISQUALIFIED = true ∧ t.fld pLEARN LEARN.COUNT_DISQ = min (s.fld pLEARN LEARN.COUNT_DISQ + 1) 0xFFFF ∧ t.gauge = { s.gauge with qual := false }) ∧
  (∀ (s : State) (key : BitVec 16), s.Takes pLEARN → key.toNat = 0xC47A → s.fld pLEARN LEARN.STAT_STATE ≠ 1 → 
      Leads (exec (.learnCmdForget key) s) fun t => s.Frame t [] [(pLEARN, 0x10), (pLEARN, 0x44), (pLEARN, 0x2C), (pLEARN, 0x48), (pGAUGE, 0x64), (pGAUGE, 0x58), (pGAUGE, 0x5C)] [] [] ∧ t.gFcc = s.fld pGAUGE GAUGE.DESIGN_CAP ∧ t.flag pGAUGE GAUGE.STATE_STALE = true ∧ t.gauge = { s.gauge with forget := true })

/-- Transactions of Table 16.1 that the device answers at once: the window is set and read, words of a local page are read and written and the window advances, a node that cannot be reached answers NO_NODE, the store window reads and (with STORE_WR) writes, the summary and the status are read, an update block is posted and a commit refused; a wrong or missing PEC discards a write. Each clause holds in the states and for the operands that its hypotheses name. -/
def Obligations.HostReadsAndWritesComplete : Prop :=
  (∀ (s : State) (node page off : BitVec 8), s.hostOn = true → s.host.wait = none → s.pecReq = false → node.toNat < 128 → 
      Leads (exec (.setWindowWrite node page off none none) s) fun t => s.Frame t [] [(pHOST, 0x3C), (pHOST, 0x34), (pHOST, 0x10), (pHOST, 0x30), (pHOST, 0x2C)] [] [] ∧ t.winNode = node.toNat ∧ t.winPage = page.toNat ∧ t.winOff = off.toNat / 4 * 4 ∧ t.fld pHOST HOST.LAST_CODE = 0 ∧ t.fld pHOST HOST.LAST_CMD = 1 ∧ t.host.held = none) ∧
  (∀ (s : State) (node page off : BitVec 8), s.hostOn = true → s.host.wait = none → s.pecReq = true → node.toNat < 128 → 
      Leads (exec (.setWindowWrite node page off none none) s) fun t => s.Frame t [] [(pHOST, 0x3C), (pHOST, 0x34), (pHOST, 0x10), (pHOST, 0x30), (pHOST, 0x2C)] [] [] ∧ t.fld pHOST HOST.LAST_CODE = 7 ∧ t.flag pHOST HOST.PG_EVT_PEC_ERR = true ∧ t.winNode = s.winNode ∧ t.winPage = s.winPage ∧ t.winOff = s.winOff ∧ t.fld pHOST HOST.ERR_CNT_PEC = min (s.fld pHOST HOST.ERR_CNT_PEC + 1) 0xFF) ∧
  (∀ (s : State) (node page off : BitVec 8), s.hostOn = true → s.host.wait = none → 128 ≤ node.toNat → 
      Leads (exec (.setWindowWrite node page off none none) s) fun t => s.Frame t [] [(pHOST, 0x3C), (pHOST, 0x34), (pHOST, 0x10), (pHOST, 0x30), (pHOST, 0x2C)] [] [] ∧ t.fld pHOST HOST.LAST_CODE = 8 ∧ t.flag pHOST HOST.PG_EVT_MALFORMED = true ∧ t.winNode = s.winNode) ∧
  (∀ (s : State), s.hostOn = true → s.host.wait = none → 
      Leads (exec (.setWindowRead true none) s) fun t => s.Frame t [] [(pHOST, 0x3C), (pHOST, 0x2C), (pHOST, 0x34), (pHOST, 0x10), (pHOST, 0x30)] [] [] ∧ t.host.sent = [byteOf s.winNode, byteOf s.winPage, byteOf s.winOff, byteOf (crc8 [s.addrW, 1, s.addrR, byteOf s.winNode, byteOf s.winPage, byteOf s.winOff])] ∧ t.fld pHOST HOST.LAST_CODE = 0 ∧ t.winOff = s.winOff) ∧
  (∀ (s : State) (n : BitVec 8), s.hostOn = true → s.host.wait = none → s.host.posted = none → s.winLocal = true → 4 ≤ n.toNat → n.toNat ≤ 252 → n.toNat % 4 = 0 → 
      Leads (exec (.readBlock n true none) s) fun t => t.host.sent.length = n.toNat + 2 ∧ t.host.sent.head? = some n ∧ t.fld pHOST HOST.LAST_CODE = 0 ∧ t.winOff = (s.winOff + n.toNat) % 256) ∧
  (∀ (s : State) (n : BitVec 8), s.hostOn = true → s.host.wait = none → s.host.posted = none → s.winLocal = false → s.winRemote = false → 4 ≤ n.toNat → n.toNat ≤ 252 → n.toNat % 4 = 0 → 
      Leads (exec (.readBlock n false none) s) fun t => t.host.sent.take (n.toNat + 1) = n :: List.replicate n.toNat 0 ∧ t.fld pHOST HOST.LAST_CODE = 3 ∧ t.winOff = s.winOff) ∧
  (∀ (s : State), s.hostOn = true → s.host.wait = none → s.host.posted = none → s.winLocal = true → s.winPage = 0 → s.winOff = 0 → 
      Leads (exec (.readWord true none) s) fun t => t.host.sent.take 4 = leBytes 4 0x01000100 ∧ t.host.sent.length = 5 ∧ t.fld pHOST HOST.LAST_CODE = 0 ∧ t.fld pHOST HOST.LAST_CMD = 4 ∧ t.winOff = 4) ∧
  (∀ (s : State) (v : Word), s.hostOn = true → s.host.wait = none → s.host.posted = none → s.winLocal = true → s.winPage = pGPIO → s.winOff = GPIO.OUT_LEVEL.off → s.pecReq = false → s.locked pGPIO = false → s.resetting pGPIO = false → 
      Leads (exec (.writeWord v none none) s) fun t => t.fld pGPIO GPIO.OUT_LEVEL = v.toNat % 256 ∧ t.fld pHOST HOST.LAST_CODE = 0 ∧ t.fld pHOST HOST.LAST_CMD = 5 ∧ t.winOff = (s.winOff + 4) % 256) ∧
  (∀ (s : State) (b0 b1 b2 b3 : BitVec 8), s.hostOn = true → s.host.wait = none → s.host.posted = none → s.winLocal = true → s.winPage = pGPIO → s.winOff = GPIO.OUT_LEVEL.off → s.pecReq = false → s.locked pGPIO = false → s.resetting pGPIO = false → 
      Leads (exec (.writeBlock 4 [b0, b1, b2, b3] none none) s) fun t => t.fld pGPIO GPIO.OUT_LEVEL = b0.toNat ∧ t.fld pHOST HOST.LAST_CODE = 0 ∧ t.fld pHOST HOST.LAST_CMD = 3 ∧ t.winOff = (s.winOff + 4) % 256) ∧
  (∀ (s : State) (n : BitVec 8) (data : List (BitVec 8)), s.hostOn = true → s.host.wait = none → s.host.posted = none → n.toNat % 4 ≠ 0 → 
      Leads (exec (.writeBlock n data none none) s) fun t => t.fld pHOST HOST.LAST_CODE = 6 ∧ t.winOff = s.winOff ∧ t.store = s.store) ∧
  (∀ (s : State), s.hostOn = true → s.host.wait = none → 
      Leads (exec (.eventSummary true none) s) fun t => s.Frame t [] [(pHOST, 0x3C), (pHOST, 0x2C), (pHOST, 0x34), (pHOST, 0x10), (pHOST, 0x30)] [] [] ∧ t.host.sent.take 8 = leBytes 8 s.hostSum ∧ t.host.sent.length = 9 ∧ t.fld pHOST HOST.LAST_CODE = 0) ∧
  (∀ (s : State) (off : BitVec 24) (b0 b1 b2 b3 : BitVec 8), s.hostOn = true → s.host.wait = none → s.host.posted = none → s.pecReq = false → s.flag pHOST HOST.CFG_STORE_WR = true → storeOff off.toNat + 4 ≤ storeTop → 
      Leads (exec (.storeWindowWrite 8 false off [b0, b1, b2, b3] none none) s) fun t => t.stRead (storeOff off.toNat) 4 = [b0, b1, b2, b3] ∧ t.fld pHOST HOST.LAST_CODE = 0 ∧ s.StoreBut t [(storeOff off.toNat, storeOff off.toNat + 4)]) ∧
  (∀ (s : State) (off : BitVec 24) (b0 b1 b2 b3 : BitVec 8), s.hostOn = true → s.host.wait = none → s.host.posted = none → s.pecReq = false → s.flag pHOST HOST.CFG_STORE_WR = false → storeOff off.toNat + 4 ≤ storeTop → 
      Leads (exec (.storeWindowWrite 8 false off [b0, b1, b2, b3] none none) s) fun t => t.store = s.store ∧ t.fld pHOST HOST.LAST_CODE = 11) ∧
  (∀ (s : State) (off : BitVec 24) (l : BitVec 8), s.hostOn = true → s.host.wait = none → s.host.posted = none → 4 ≤ l.toNat → l.toNat ≤ 252 → l.toNat % 4 = 0 → storeOff off.toNat + l.toNat ≤ storeTop → s.stBadIn (storeOff off.toNat) l.toNat = false → 
      Leads (exec (.storeWindowRead 5 off l true none none) s) fun t => t.host.sent.take (l.toNat + 1) = l :: s.stRead (storeOff off.toNat) l.toNat ∧ t.fld pHOST HOST.LAST_CODE = 0 ∧ t.store = s.store) ∧
  (∀ (s : State) (off : BitVec 32) (data : List (BitVec 8)), s.hostOn = true → s.host.wait = none → s.host.posted = none → s.pecReq = false → 1 ≤ data.length → data.length ≤ 240 → 
      Leads (exec (.updBlock (BitVec.ofNat 8 (data.length + 6)) off data (BitVec.ofNat 16 (crc16 (leBytes 4 off.toNat ++ data))) none none) s) fun t => t.fld pHOST HOST.LAST_CODE = 1 ∧ t.host.posted = some (.block data.length) ∧ t.stRead 0xDB000 (4 + data.length) = leBytes 4 off.toNat ++ data) ∧
  (∀ (s : State), s.hostOn = true → s.host.wait = none → s.host.posted = none → s.pecReq = false → s.updRefuse ≠ 0 → 
      Leads (exec (.updCommit none none) s) fun t => t.fld pHOST HOST.LAST_CODE = 11 ∧ t.fld pHOST HOST.LAST_DETAIL = s.updRefuse ∧ t.fld pUPD UPD.STAT_RESULT = s.updRefuse ∧ t.host.posted = none ∧ t.boot = s.boot ∧ t.flag pUPD UPD.PG_EVT_RESULT = true) ∧
  (∀ (s : State), s.hostOn = true → s.host.wait = none → s.pecReq = false → 
      Leads (exec (.status true none) s) fun t => s.Frame t [] [(pHOST, 0x3C), (pHOST, 0x2C), (pHOST, 0x34), (pHOST, 0x10), (pHOST, 0x30)] [] [] ∧ t.host.sent.take 4 = s.statusBytes ∧ t.host.sent.length = 5 ∧ t.host.held = s.host.held ∧ t.fld pHOST HOST.LAST_CODE = s.fld pHOST HOST.LAST_CODE) ∧
  (∀ (s : State), s.hostOn = true → s.host.wait = none → s.pecReq = false → 
      Leads (exec (.readWithoutCommand false none) s) fun t => s.Frame t [] [(pHOST, 0x3C), (pHOST, 0x2C), (pHOST, 0x34), (pHOST, 0x10), (pHOST, 0x30)] [] [] ∧ t.host.sent = s.statusBytes ∧ t.host.held = s.host.held ∧ t.fld pHOST HOST.LAST_CODE = s.fld pHOST HOST.LAST_CODE) ∧
  (∀ (s : State) (rd : Bool), 
      Leads (exec (.quickCommand rd) s) fun t => s.Frame t [] [] [] [] ∧ t = s)

/-- A stretch that reaches its limit ends its command with BUSY; held data expires after 100 ms; time-outs and a stuck SDA raise their events; a risen summary bit starts a notify, whose outcomes are kept (R417-R420); REG frames are performed for the manager and answered, their answers and time-outs end the access; EVT frames set the fleet summary; the commands of HOST and the read of FLASH.RD_DATA. Each clause holds in the states and for the operands that its hypotheses name. -/
def Obligations.HostWaitsNotifiesAndProxiesComplete : Prop :=
  (∀ (s : State) (us : BitVec 16), s.host.wait = some (.posted (.readWord false none)) → s.pecReq = false → 
      Leads (exec (.stretchEnd us) s) fun t => s.Frame t [] [(pHOST, 0x10), (pHOST, 0x3C), (pHOST, 0x30), (pHOST, 0x2C), (pHOST, 0x34)] [] [] ∧ t.host.wait = none ∧ t.fld pHOST HOST.LAST_CODE = 9 ∧ t.flag pHOST HOST.PG_EVT_STRETCH_LIMIT = true ∧ t.fld pHOST HOST.STRETCH_MAX_US = max us.toNat (s.fld pHOST HOST.STRETCH_MAX_US) ∧ t.fld pHOST HOST.STRETCH_LAST_TOTAL_US = min 65535 (s.host.total + us.toNat) ∧ t.host.held = none) ∧
  (∀ (s : State) (r : RRead), s.host.held = some r → r.tick + 2000 ≤ s.tick → 
      Leads (exec (.heldDataExpire) s) fun t => s.Frame t [] [] [] [] ∧ t.host = { s.host with held := none } ∧ t.regs = s.regs) ∧
  (∀ (s : State), s.live = true → s.host.wait = none → s.host.onBus = false → 
      Leads (exec (.sclTimeout none) s) fun t => s.Frame t [] [(pHOST, 0x30), (pHOST, 0x34), (pHOST, 0x10), (pHOST, 0x38), (pHOST, 0x0C)] [] [] ∧ t.flag pHOST HOST.PG_EVT_SCL_TIMEOUT = true ∧ t.fld pHOST HOST.ERR_CNT_TIMEOUT = min (s.fld pHOST HOST.ERR_CNT_TIMEOUT + 1) 0xFF ∧ t.host = s.host) ∧
  (∀ (s : State), s.live = true → 
      Leads (exec (.sdaStuck) s) fun t => s.Frame t [] [(pHOST, 0x10)] [] [] ∧ t.flag pHOST HOST.PG_EVT_SDA_STUCK = true ∧ t.host = { s.host with stuck := true, wait := none }) ∧
  (∀ (s : State), s.live = true → s.host.onBus = false → s.notifyMay = true → s.host.holding = false → s.flag pHOST HOST.PG_STAT_NOTIFYING = false → s.flag pHOST HOST.PG_STAT_FALLBACK = false → s.hostRisen = true → 
      Leads (exec (.hostNotify none) s) fun t => s.Frame t [] [(pHOST, 0x0C), (pHOST, 0x10), (pHOST, 0x38), (pHOST, 0x34)] [] [] ∧ t.flag pHOST HOST.PG_STAT_NOTIFYING = true ∧ t.host.onBus = true ∧ t.fld pHOST HOST.NOTIFY_STAT_TRIES = 0 ∧ t.host.seen = s.hostSum) ∧
  (∀ (s : State), s.live = true → s.host.onBus = true → 
      Leads (exec (.hostNotify (some true)) s) fun t => s.Frame t [] [(pHOST, 0x0C), (pHOST, 0x10), (pHOST, 0x38), (pHOST, 0x34)] [] [] ∧ t.flag pHOST HOST.PG_STAT_NOTIFYING = false ∧ t.flag pHOST HOST.PG_EVT_NOTIFY_SENT = true ∧ t.host.onBus = false ∧ t.host.holding = true) ∧
  (∀ (s : State), s.live = true → s.host.holding = true → s.host.rose = false → 
      Leads (exec (.notifyHoldEnd) s) fun t => s.Frame t [] [(pHOST, 0x0C), (pHOST, 0x38)] [] [] ∧ t.host = { s.host with holding := false } ∧ t.regs = s.regs) ∧
  (∀ (s : State), s.live = true → s.host.onBus = true → s.fld pHOST HOST.NOTIFY_STAT_TRIES < 8 → 
      Leads (exec (.arbitrationLost .data) s) fun t => s.Frame t [] [(pHOST, 0x10), (pHOST, 0x38), (pHOST, 0x34), (pHOST, 0x0C)] [] [] ∧ t.flag pHOST HOST.PG_EVT_ARB_LOST = true ∧ t.host = { s.host with onBus := false } ∧ t.fld pHOST HOST.NOTIFY_STAT_TRIES = s.fld pHOST HOST.NOTIFY_STAT_TRIES + 1) ∧
  (∀ (s : State), s.live = true → s.host.onBus = true → s.fld pHOST HOST.NOTIFY_STAT_TRIES = 8 → 
      Leads (exec (.arbitrationLost .data) s) fun t => s.Frame t [] [(pHOST, 0x10), (pHOST, 0x38), (pHOST, 0x34), (pHOST, 0x0C)] [] [] ∧ t.flag pHOST HOST.PG_EVT_NOTIFY_FAIL = true ∧ t.flag pHOST HOST.PG_STAT_FALLBACK = true ∧ t.flag pHOST HOST.PG_STAT_NOTIFYING = false ∧ t.fld pHOST HOST.NOTIFY_STAT_TRIES = 9) ∧
  (∀ (s : State), s.live = true → s.notifier = true → s.host.onBus = false → s.flag pHOST HOST.PG_STAT_NOTIFYING = true → s.fld pHOST HOST.NOTIFY_STAT_TRIES ≠ 0 → s.hostSum ≠ 0 → 
      Leads (exec (.notifyRetry none) s) fun t => s.Frame t [] [(pHOST, 0x0C), (pHOST, 0x10), (pHOST, 0x38), (pHOST, 0x34)] [] [] ∧ t.host.onBus = true ∧ t.flag pHOST HOST.PG_STAT_NOTIFYING = true ∧ t.fld pHOST HOST.NOTIFY_STAT_TRIES = s.fld pHOST HOST.NOTIFY_STAT_TRIES) ∧
  (∀ (s : State), s.live = true → s.notifier = true → s.host.onBus = false → s.flag pHOST HOST.PG_STAT_NOTIFYING = true → s.fld pHOST HOST.NOTIFY_STAT_TRIES ≠ 0 → s.hostSum = 0 → 
      Leads (exec (.notifyRetry none) s) fun t => s.Frame t [] [(pHOST, 0x0C), (pHOST, 0x10), (pHOST, 0x38), (pHOST, 0x34)] [] [] ∧ t.flag pHOST HOST.PG_STAT_NOTIFYING = false ∧ t.host = s.host) ∧
  (∀ (s : State) (f : RxF), s.live = true → s.fleet.inbox.find? (fun f => frType f.bytes == 3 || frType f.bytes == 4) = some f → frType f.bytes = 3 → frSrc f.bytes = s.fld pFLEET FLEET.NODES_MGR → (frPayload f.bytes).take 3 = [0, 0, 1] → s.ringOpen 0 = true → 
      Leads (exec (.regAccessFrame true) s) fun t => t.Carries 0 5 (frSrc f.bytes) ([0, 0, 1, 0] ++ leBytes 4 0x01000100)) ∧
  (∀ (s : State) (f : RxF) (p : Proxy) (r : RRead), s.live = true → s.fleet.inbox.find? (fun f => frType f.bytes == 5) = some f → s.fleet.proxy = some p → p.tag = frTag f.bytes → p.node = frSrc f.bytes → p.write = false → s.host.read = some r → s.host.wait = none → 
      Leads (exec (.regRspReceive) s) fun t => t.fleet.proxy = none ∧ t.host.held = some { r with status := byteAt (frPayload f.bytes) 0, words := toWords ((frPayload f.bytes).drop 4), tick := s.tick } ∧ t.host.read = none) ∧
  (∀ (s : State) (p : Proxy), s.live = true → s.fleet.proxy = some p → p.write = true → p.since + 20 * max 1 (s.fld pFLEET FLEET.CFG_REG_TO_MS) ≤ s.tick → s.host.own = true → s.host.wait = none → 
      Leads (exec (.regTimeout) s) fun t => t.fleet.proxy = none ∧ t.flag pFLEET FLEET.PG_EVT_REG_TIMEOUT = true ∧ t.fld pFLEET FLEET.STATS_REG_TO = min (s.fld pFLEET FLEET.STATS_REG_TO + 1) 0xFF ∧ t.fld pHOST HOST.LAST_CODE = 4 ∧ t.host.posted = none) ∧
  (∀ (s : State) (f : RxF), s.live = true → s.fleet.inbox.find? (fun f => frType f.bytes == 9) = some f → s.acting = .manager → frSrc f.bytes < 64 → 
      Leads (exec (.evtFrameReceive) s) fun t => s.Frame t [pFLEET] [(pHOST, 0x0C)] [] [] ∧ t.mapBit pFLEET FLEET.EVT_SUM_NODES (frSrc f.bytes) = bitAt (byteAt f.bytes 8) 1) ∧
  (∀ (s : State) (key : BitVec 16), s.Takes pHOST → key.toNat = 0x5B17 → 
      Leads (exec (.hostCmdClearStats key) s) fun t => s.Frame t [] [(pHOST, 0x10), (pHOST, 0x3C), (pHOST, 0x34)] [] [] ∧ t.rd pHOST 0x34 = 0 ∧ t.rd pHOST 0x3C = 0 ∧ t.host = s.host) ∧
  (∀ (s : State) (key : BitVec 16), s.Takes pHOST → key.toNat = 0x5B17 → s.notifier = true → s.hostSum ≠ 0 → s.host.onBus = false → 
      Leads (exec (.hostCmdNotifyNow key) s) fun t => s.Frame t [] [(pHOST, 0x10), (pHOST, 0x0C), (pHOST, 0x38)] [] [] ∧ t.flag pHOST HOST.PG_STAT_NOTIFYING = true ∧ t.host = { s.host with onBus := true, seen := s.hostSum } ∧ t.fld pHOST HOST.NOTIFY_STAT_TRIES = 0) ∧
  (∀ (s : State), s.Takes pFLASH → 
      Leads (exec (.flashRdData) s) fun t => t.fld pFLASH FLASH.RD_ADDR_WORD = (s.fld pFLASH FLASH.RD_ADDR_WORD + 1) % 2 ^ FLASH.RD_ADDR_WORD.w ∧ t.code = s.code)

/-- Update on this device (chapter 18): a block is erased, programmed and reported; a session ends by time-out or ABORT; ACTIVATE of a staged bank and an expired trial begin an activation reset; CONFIRM makes the trial bank CONFIRMED; the owner's lock, challenge and token; the manager starts a distribution and its task sends START. Each clause holds in the states and for the operands that its hypotheses name. -/
def Obligations.HostUpdateCommandsComplete : Prop :=
  (∀ (s : State) (v : Word) (w : Nat), s.live = true → s.host.posted = some (.block 4) → s.host.own = true → s.host.wait = none → s.updRefuse = 0 → s.eraseOk = true → s.fld pUPD UPD.STAT_SESSION = 1 → w < 131072 → s.stNat 0xDB000 4 = 4 * w → s.stRead 0xDB004 4 = leBytes 4 v.toNat → s.mapGet maskAt w = false → s.mapGet marksAt (w / 1024) = false → s.st.bad = [] → 
      Leads (exec (.updBlockWrite none) s) fun t => t.codeWord (bankBase s.idleBank + 4 * w) = v.toNat ∧ t.mapGet maskAt w = true ∧ t.mapGet marksAt (w / 1024) = true ∧ t.fld pUPD UPD.STAT_RESULT = 0 ∧ t.fld pHOST HOST.LAST_CODE = 0 ∧ t.host.posted = none ∧ t.flag pUPD UPD.PG_EVT_RESULT = true) ∧
  (∀ (s : State) (n : Nat), s.live = true → s.host.posted = some (.block n) → s.host.own = true → s.host.wait = none → s.updRefuse ≠ 0 → 
      Leads (exec (.updBlockWrite none) s) fun t => t.fld pUPD UPD.STAT_RESULT = s.updRefuse ∧ t.fld pHOST HOST.LAST_CODE = 11 ∧ t.fld pHOST HOST.LAST_DETAIL = s.updRefuse ∧ t.code = s.code ∧ t.host.posted = none) ∧
  (∀ (s : State) (m : ImgSess), s.upd.img = some m → s.live = true → m.last + 200000 ≤ s.tick → 
      Leads (exec (.sessionTimeout) s) fun t => s.Frame t [] [(pUPD, 0x24)] [] [] ∧ t.fld pUPD UPD.STAT_SESSION = 0 ∧ t.upd = { s.upd with img := none } ∧ t.code = s.code) ∧
  (∀ (s : State) (key : BitVec 16), s.Takes pUPD → key.toNat = 0xA17E → 
      Leads (exec (.updCmdAbort key) s) fun t => s.Frame t [] [(pUPD, 0x10), (pUPD, 0x24)] [descBytes] [] ∧ t.fld pUPD UPD.STAT_SESSION = 0 ∧ t.fld pUPD UPD.STAT_RESULT = 0 ∧ t.flag pUPD UPD.PG_EVT_RESULT = true ∧ t.upd = { s.upd with img := none } ∧ t.code = s.code) ∧
  (∀ (s : State) (key : BitVec 16), s.Takes pUPD → key.toNat = 0xA17E → s.updRefuse = 0 → s.bankState s.idleBank = .staged → 
      Leads (exec (.updCmdActivate key) s) fun t => s.Frame t [] [(pUPD, 0x10), (pUPD, 0x24)] [descBytes] [] ∧ t.phase = .warm ∧ t.rst.causes = s.rst.causes ||| 8 ∧ t.upd = { s.upd with activate := some s.idleBank } ∧ t.fld pUPD UPD.STAT_RESULT = 0 ∧ t.boot = s.boot) ∧
  (∀ (s : State) (key : BitVec 16), s.Takes pUPD → key.toNat = 0xA17E → s.updRefuse = 0 → s.bankState s.idleBank ≠ .staged → 
      Leads (exec (.updCmdActivate key) s) fun t => s.Frame t [] [(pUPD, 0x10), (pUPD, 0x24)] [descBytes] [] ∧ t.phase = .run ∧ t.fld pUPD UPD.STAT_RESULT = 7 ∧ t.upd = s.upd) ∧
  (∀ (s : State) (switch : Bool) (key : BitVec 16), s.Takes pUPD → key.toNat = 0xA17E → s.nvOk = true → s.bankState s.activeBank = .trial → 
      Leads (exec (.updCmdConfirm switch key) s) fun t => t.bankState s.activeBank = .confirmed ∧ t.boot.now.recent = some s.activeBank ∧ t.boot.now.cfgB = (s.boot.now.cfgB != switch) ∧ t.upd = { s.upd with trialEnd := none } ∧ t.fld pUPD UPD.STAT_RESULT = 0) ∧
  (∀ (s : State) (key : BitVec 16), s.Takes pUPD → key.toNat = 0xA17E → s.acting = .manager → s.role ≠ .solo → 
      Leads (exec (.updCmdDistribute key) s) fun t => s.Frame t [] [(pUPD, 0x10), (pUPD, 0x54), (pUPD, 0x50), (pUPD, 0x4C)] [descBytes] [] ∧ t.fld pUPD UPD.DIST_STAT_STATE = 1 ∧ t.fld pUPD UPD.DIST_STAT_NODES_DONE = 0 ∧ t.upd.sessNum = s.upd.sessNum + 1 ∧ t.upd.dist.map (fun d => (d.stage, d.num, d.targets)) = some (0, s.upd.sessNum + 1, s.distTargets)) ∧
  (∀ (s : State) (key : BitVec 16), s.Takes pUPD → key.toNat = 0xA17E → s.lockBit LOCK.STICKY_OWNER_FLAG = false → s.eraseOk = true → 
      Leads (exec (.updCmdOwnerLock key) s) fun t => t.flag pUPD UPD.STAT_NV_LOCK = true ∧ t.fld pUPD UPD.STAT_RESULT = 0 ∧ t.flag pUPD UPD.PG_EVT_RESULT = true) ∧
  (∀ (s : State) (v : BitVec 64) (key : BitVec 16), s.Takes pUPD → key.toNat = 0xA17E → 
      Leads (exec (.updCmdNewChallenge v key) s) fun t => s.Frame t [] [(pUPD, 0x10), (pUPD, 0x5C), (pUPD, 0x58)] [descBytes] [] ∧ t.upd = { s.upd with challenge := v, issued := true } ∧ t.fld pUPD UPD.CHAL_LO_CHALLENGE = v.toNat % 2 ^ 32 ∧ t.fld pUPD UPD.CHAL_HI_CHALLENGE = v.toNat / 2 ^ 32) ∧
  (∀ (s : State) (key : BitVec 16) (code : Nat), s.Takes pUPD → key.toNat = 0xA17E → s.eraseOk = true → code = s.tokCheck pUPD 0x60 2 (fun owner => owner) s.upd.challenge s.upd.issued → 
      Leads (exec (.updCmdUnlock key) s) fun t => t.fld pUPD UPD.STAT_TOKEN_CODE = code ∧ t.upd = { s.upd with issued := false } ∧ (code = 0 → t.flag pUPD UPD.STAT_UNLOCKED = true ∧ t.flag pUPD UPD.STAT_NV_LOCK = false ∧ t.fld pUPD UPD.STAT_RESULT = 0 ∧ t.dbg = s.dbg) ∧ (code ≠ 0 → t.fld pUPD UPD.STAT_RESULT = 13 ∧ t.flag pUPD UPD.STAT_UNLOCKED = s.flag pUPD UPD.STAT_UNLOCKED ∧ t.dbg = { s.dbg with fails := min 4 (s.dbg.fails + 1) } ∧ t.nvd = s.nvd)) ∧
  (∀ (s : State) (key : BitVec 16), s.Takes pUPD → key.toNat = 0xA17E → s.lockBit LOCK.STICKY_DBG_REQ = false → s.dbg.fails < 4 → s.flag pID ID.IDENT_STAT_VALID = false → 
      Leads (exec (.updCmdUnlock key) s) fun t => t.fld pUPD UPD.STAT_TOKEN_CODE = 3 ∧ t.fld pUPD UPD.STAT_RESULT = 13 ∧ t.dbg = { s.dbg with fails := s.dbg.fails + 1 } ∧ t.flag pUPD UPD.STAT_UNLOCKED = s.flag pUPD UPD.STAT_UNLOCKED) ∧
  (∀ (s : State) (t0 : Nat), s.upd.trialEnd = some t0 → s.live = true → t0 ≤ s.tick → 
      Leads (exec (.trialTimer) s) fun t => s.Frame t [] [(pUPD, 0x10)] [] [] ∧ t.phase = .warm ∧ t.rst.causes = s.rst.causes ||| 8 ∧ t.flag pUPD UPD.PG_EVT_TRIAL_EXPIRED = true ∧ t.upd = { s.upd with trialEnd := none, activate := some s.activeBank }) ∧
  (∀ (s : State), s.fw = true → s.Takes pUPD → s.bankState s.activeBank = .trial → s.upd.entryTick + 200000 ≤ s.tick → s.nvOk = true → s.role = .solo → s.boot.now.cfgB = false → s.cfgMarked 3 = false → s.cfgMarked 2 = true → 
      Leads (exec (.firmwareConfirm) s) fun t => t.bankState s.activeBank = .confirmed ∧ t.boot.now.recent = some s.activeBank ∧ t.boot.now.cfgB = false ∧ t.upd = { s.upd with trialEnd := none } ∧ t.fld pUPD UPD.STAT_RESULT = 0) ∧
  (∀ (s : State) (d : Dist), s.upd.dist = some d → d.stage = 0 → s.fw = true → s.acting = .manager → s.stNat (txfAt 49 + 269) 1 ≠ 1 → 
      Leads (exec (.distributionTask none false) s) fun t => s.Frame t [pBANK, pUPD] ([(pFLEET, 0x10), (pFLEET, 0x64), (pSTORE, 0x10), (pSTORE, 0x28), (pSTORE, 0x2C), (pSTORE, 0x30), (pSTORE, 0x0C)] ++ everyLinkReg 0x34 ++ everyLinkReg 0x30) [txBytes] [] ∧ t.upd.dist.map (fun e => (e.stage, e.num, e.targets)) = some (1, d.num, d.targets) ∧ frType (t.stRead (txfAt 49) 8) = 0xB ∧ frBcast (t.stRead (txfAt 49) 8) = true ∧ t.stNat (txfAt 49 + 8) 4 = 1 ∧ t.stNat (txfAt 49 + 20) 4 = d.num % 2 ^ 32)

/-- The IMG frames of a receive entry on a node that START named: START opens a session or is refused with its code; SECTION and DATA place a page of 64 words; END and COMMIT owe a report, COMMIT stages a complete image; ACTIVATE begins the activation reset; ABORT ends the session; the first report owed goes to the manager. Each clause holds in the states and for the operands that its hypotheses name. -/
def Obligations.FleetUpdateCommandsComplete : Prop :=
  (∀ (s : State) (entry : Fin 64), s.live = true → s.rxType entry.val = 0xB → (s.rxPayload entry.val).length = 24 → byteAt (s.rxPayload entry.val) 0 = 1 → s.stChecks (rxfAt entry.val) 512 = true → s.assigned = true → bitAt (numAt (s.rxPayload entry.val) 16 8) s.node = true → s.fld pUPD UPD.STAT_SESSION = 0 → s.updRefuse = 0 → s.eraseOk = true → 
      Leads (exec (.imgStart entry) s) fun t => t.fld pUPD UPD.STAT_SESSION = 2 ∧ t.fld pUPD UPD.STAT_RESULT = 0 ∧ t.upd.named = true ∧ t.upd.sessNum = numAt (s.rxPayload entry.val) 12 4 ∧ t.upd.img = some ⟨numAt (s.rxPayload entry.val) 12 4, numAt (s.rxPayload entry.val) 4 4, 0, s.tick⟩ ∧ t.bankState s.idleBank = .empty) ∧
  (∀ (s : State) (entry : Fin 64), s.live = true → s.rxType entry.val = 0xB → (s.rxPayload entry.val).length = 24 → byteAt (s.rxPayload entry.val) 0 = 1 → s.stChecks (rxfAt entry.val) 512 = true → s.assigned = true → bitAt (numAt (s.rxPayload entry.val) 16 8) s.node = true → s.updRefuse ≠ 0 → s.fld pUPD UPD.STAT_SESSION ≤ 2 → 
      Leads (exec (.imgStart entry) s) fun t => t.fld pUPD UPD.STAT_RESULT = s.updRefuse ∧ t.fld pUPD UPD.STAT_SESSION = s.fld pUPD UPD.STAT_SESSION ∧ t.upd.named = true ∧ t.boot = s.boot) ∧
  (∀ (s : State) (entry : Fin 64) (m : ImgSess), s.live = true → s.rxType entry.val = 0xB → (s.rxPayload entry.val).length = 8 → byteAt (s.rxPayload entry.val) 0 = 2 → s.stChecks (rxfAt entry.val) 512 = true → s.upd.named = true → s.upd.img = some m → 
      Leads (exec (.imgSection entry) s) fun t => s.Frame t [pBANK] [(pFLEET, 0x64), (pSTORE, 0x10), (pSTORE, 0x28), (pSTORE, 0x2C), (pSTORE, 0x30), (pSTORE, 0x0C)] [] [] ∧ t.upd = { s.upd with img := some { m with sect := numAt (s.rxPayload entry.val) 4 2, last := s.tick } } ∧ t.code = s.code) ∧
  (∀ (s : State) (entry : Fin 64) (m : ImgSess) (k : Fin 64), s.live = true → s.rxType entry.val = 0xB → (s.rxPayload entry.val).length = 256 → bitAt (s.stNat (rxfAt entry.val) 1) 4 = true → s.stChecks (rxfAt entry.val) 512 = true → s.upd.named = true → s.upd.img = some m → s.updRefuse = 0 → s.fld pUPD UPD.STAT_SESSION = 2 → s.eraseOk = true → s.st.bad = [] → m.sect < 32 → s.stNat (maskAt + 8 * (64 * m.sect + bitsOf (s.stNat (rxfAt entry.val + 1) 1) 0 6)) 8 = 0 → s.mapGet marksAt ((64 * m.sect + bitsOf (s.stNat (rxfAt entry.val + 1) 1) 0 6) / 16) = false → 
      Leads (exec (.imgData entry none) s) fun t => t.codeWord (bankBase s.idleBank + 256 * (64 * m.sect + bitsOf (s.stNat (rxfAt entry.val + 1) 1) 0 6) + 4 * k.val) = numAt (s.rxPayload entry.val) (4 * k.val) 4 ∧ t.pageHere (64 * m.sect + bitsOf (s.stNat (rxfAt entry.val + 1) 1) 0 6) = true ∧ t.fld pUPD UPD.STAT_RESULT = 0 ∧ t.upd = { s.upd with img := some { m with last := s.tick } } ∧ t.flag pUPD UPD.PG_EVT_RESULT = true) ∧
  (∀ (s : State) (entry : Fin 64), s.live = true → s.rxType entry.val = 0xB → (s.rxPayload entry.val).length = 4 → byteAt (s.rxPayload entry.val) 0 = 3 → s.stChecks (rxfAt entry.val) 512 = true → s.upd.named = true → s.upd.img = none → 
      Leads (exec (.imgEnd entry) s) fun t => s.Frame t [pBANK] [(pFLEET, 0x64), (pSTORE, 0x10), (pSTORE, 0x28), (pSTORE, 0x2C), (pSTORE, 0x30), (pSTORE, 0x0C)] [updBytes] [] ∧ t.upd = { s.upd with reports := s.upd.reports ++ [1] } ∧ t.code = s.code) ∧
  (∀ (s : State) (entry : Fin 64), s.live = true → s.rxType entry.val = 0xB → (s.rxPayload entry.val).length = 4 → byteAt (s.rxPayload entry.val) 0 = 4 → s.stChecks (rxfAt entry.val) 512 = true → s.upd.named = true → s.upd.img = none → s.updRefuse ≠ 0 → 
      Leads (exec (.imgCommit entry) s) fun t => t.fld pUPD UPD.STAT_RESULT = s.updRefuse ∧ t.upd = { s.upd with reports := s.upd.reports ++ [2] } ∧ t.boot = s.boot ∧ t.code = s.code) ∧
  (∀ (s : State) (entry : Fin 64), s.fw = true → s.rxType entry.val = 0xB → (s.rxPayload entry.val).length = 4 → byteAt (s.rxPayload entry.val) 0 = 4 → s.stChecks (rxfAt entry.val) 512 = true → s.upd.named = true → s.updRefuse = 0 → s.fld pUPD UPD.STAT_SESSION = 2 → s.pageHere 0 = true → s.pageHere 1 = true → s.hdrOk s.idleBank = true → s.hdrNat s.idleBank 8 4 = 512 → 
      Leads (exec (.imgCommit entry) s) fun t => t.fld pUPD UPD.STAT_RESULT = 0 ∧ t.bankState s.idleBank = .staged ∧ t.flag pUPD UPD.PG_EVT_STAGED = true ∧ t.fld pUPD UPD.STAT_SESSION = 0 ∧ t.upd = { s.upd with img := none, reports := s.upd.reports ++ [2] }) ∧
  (∀ (s : State) (entry : Fin 64), s.live = true → s.rxType entry.val = 0xB → (s.rxPayload entry.val).length = 4 → byteAt (s.rxPayload entry.val) 0 = 5 → s.stChecks (rxfAt entry.val) 512 = true → s.upd.named = true → s.updRefuse = 0 → s.bankState s.idleBank = .staged → 
      Leads (exec (.imgActivate entry) s) fun t => s.Frame t [pBANK] [(pFLEET, 0x64), (pSTORE, 0x10), (pSTORE, 0x28), (pSTORE, 0x2C), (pSTORE, 0x30), (pSTORE, 0x0C), (pUPD, 0x10), (pUPD, 0x24)] [] [] ∧ t.phase = .warm ∧ t.rst.causes = s.rst.causes ||| 8 ∧ t.upd.activate = some s.idleBank ∧ t.fld pUPD UPD.STAT_RESULT = 0) ∧
  (∀ (s : State) (entry : Fin 64), s.live = true → s.rxType entry.val = 0xB → (s.rxPayload entry.val).length = 4 → byteAt (s.rxPayload entry.val) 0 = 6 → s.stChecks (rxfAt entry.val) 512 = true → s.upd.named = true → s.fld pUPD UPD.STAT_SESSION = 2 → 
      Leads (exec (.imgAbort entry) s) fun t => s.Frame t [pBANK] [(pFLEET, 0x64), (pSTORE, 0x10), (pSTORE, 0x28), (pSTORE, 0x2C), (pSTORE, 0x30), (pSTORE, 0x0C), (pUPD, 0x24)] [] [] ∧ t.fld pUPD UPD.STAT_SESSION = 0 ∧ t.upd = { s.upd with img := none } ∧ t.code = s.code) ∧
  (∀ (s : State) (e : Nat) (l : List Nat), s.upd.reports = e :: l → s.live = true → s.role = .worker → s.acting = .worker → s.stNat (txfAt 48 + 269) 1 ≠ 1 → 
      Leads (exec (.updateReport) s) fun t => s.Frame t [pBANK] ([(pFLEET, 0x10), (pSTORE, 0x10), (pSTORE, 0x28), (pSTORE, 0x2C), (pSTORE, 0x30), (pSTORE, 0x0C)] ++ everyLinkReg 0x34 ++ everyLinkReg 0x30) [txBytes] [] ∧ t.upd = { s.upd with reports := l } ∧ frType (t.stRead (txfAt 48) 8) = 0xA ∧ frDest (t.stRead (txfAt 48) 8) = s.fld pFLEET FLEET.NODES_MGR ∧ t.stRead (txfAt 48 + 8) 16 = s.reportBytes e)
end

