-- ==== Sys2Proof/Laws/Bits.lean ====
section
/-!
SUPPORT. Fields of numbers: reading a field after writing it, or another one that shares no bit with it.
-/

set_option Elab.async false

namespace Sys2Proof

/-- Division by a smaller power of two, then by the rest. -/
theorem div_pow_split (v a b : Nat) : v / 2 ^ (a + b) = v / 2 ^ a / 2 ^ b := by rw [Nat.pow_add, Nat.div_div_eq_div_mul]

theorem setBits_low (v lo w x : Nat) : setBits v lo w x % 2 ^ lo = v % 2 ^ lo := by
  have h : setBits v lo w x = v % 2 ^ lo + 2 ^ lo * ((v / 2 ^ (lo + w)) * 2 ^ w + x % 2 ^ w) := by unfold setBits; ring
  rw [h, Nat.add_mul_mod_self_left, Nat.mod_mod]

theorem setBits_div (v lo w x : Nat) : setBits v lo w x / 2 ^ lo = (v / 2 ^ (lo + w)) * 2 ^ w + x % 2 ^ w := by
  have h : setBits v lo w x = v % 2 ^ lo + 2 ^ lo * ((v / 2 ^ (lo + w)) * 2 ^ w + x % 2 ^ w) := by unfold setBits; ring
  rw [h, Nat.add_mul_div_left _ _ (by positivity), Nat.div_eq_of_lt (Nat.mod_lt _ (by positivity)), Nat.zero_add]

theorem setBits_high (v lo w x : Nat) : setBits v lo w x / 2 ^ (lo + w) = v / 2 ^ (lo + w) := by
  rw [div_pow_split, setBits_div, Nat.add_comm, Nat.add_mul_div_right _ _ (by positivity), Nat.div_eq_of_lt (Nat.mod_lt _ (by positivity)), Nat.zero_add]

/-- A field reads back what was written to it, cut to its width. -/
@[simp] theorem bitsOf_setBits (v lo w x : Nat) : bitsOf (setBits v lo w x) lo w = x % 2 ^ w := by
  unfold bitsOf
  rw [setBits_div, Nat.add_comm, Nat.add_mul_mod_self_right, Nat.mod_mod]

/-- A field below the one written keeps its value. -/
theorem bitsOf_setBits_below (v lo w x : Nat) {lo' w' : Nat} (h : lo' + w' ≤ lo) : bitsOf (setBits v lo w x) lo' w' = bitsOf v lo' w' := by
  have key : ∀ u, bitsOf u lo' w' = u % 2 ^ lo / 2 ^ lo' % 2 ^ w' := by
    intro u
    unfold bitsOf
    obtain ⟨d, rfl⟩ := Nat.le.dest h
    rw [Nat.add_assoc, Nat.pow_add, Nat.mod_mul_right_div_self, Nat.pow_add, Nat.mod_mul_right_mod]
  rw [key, key, setBits_low]

/-- A field above the one written keeps its value. -/
theorem bitsOf_setBits_above (v lo w x : Nat) {lo' w' : Nat} (h : lo + w ≤ lo') : bitsOf (setBits v lo w x) lo' w' = bitsOf v lo' w' := by
  obtain ⟨d, rfl⟩ := Nat.le.dest h
  unfold bitsOf
  rw [div_pow_split, div_pow_split v, setBits_high]

/-- A write into the low 32 bits leaves a 32-bit number. -/
theorem setBits_lt {v lo w x : Nat} (hv : v < 2 ^ 32) (hw : lo + w ≤ 32) : setBits v lo w x < 2 ^ 32 := by
  have h1 : v / 2 ^ (lo + w) < 2 ^ (32 - (lo + w)) := by
    apply Nat.div_lt_of_lt_mul
    rw [← Nat.pow_add]
    simpa [Nat.add_sub_cancel' hw] using hv
  have h2 : setBits v lo w x / 2 ^ (lo + w) < 2 ^ (32 - (lo + w)) := by rwa [setBits_high]
  have h3 := (Nat.div_lt_iff_lt_mul (by positivity)).1 h2
  rwa [← Nat.pow_add, Nat.sub_add_cancel hw] at h3

end Sys2Proof
end

