-- ==== Sys2Proof/Laws/Sparse.lean ====
section
/-!
SUPPORT. Sparse tables: what a write reads back as, and that every operation keeps the canonical form.
-/

set_option Elab.async false

namespace Sys2Proof.Machine

variable {α : Type}

theorem Sparse.get_insert_same (d : Nat → α) (m : List (Nat × α)) (k : Nat) (v : α) : Sparse.get d (Sparse.insert m k v) k = v := by
  induction m with
  | nil => simp [Sparse.insert, Sparse.get]
  | cons c m ih =>
    obtain ⟨j, u⟩ := c
    unfold Sparse.insert
    split
    · simp [Sparse.get]
    · split
      · simp [Sparse.get]
      · rename_i h
        simp only [Sparse.get, if_neg (fun e : j = k => h e.symm), ih]

theorem Sparse.get_insert_ne (d : Nat → α) (m : List (Nat × α)) {k i : Nat} (v : α) (h : i ≠ k) :
    Sparse.get d (Sparse.insert m k v) i = Sparse.get d m i := by
  induction m with
  | nil => simp [Sparse.insert, Sparse.get, Ne.symm h]
  | cons c m ih =>
    obtain ⟨j, u⟩ := c
    unfold Sparse.insert
    split
    · simp [Sparse.get, Ne.symm h]
    · split
      · rename_i e
        subst e
        simp [Sparse.get, Ne.symm h]
      · simp only [Sparse.get, ih]

theorem Sparse.get_erase_same (d : Nat → α) (m : List (Nat × α)) (k : Nat) : Sparse.get d (Sparse.erase m k) k = d k := by
  induction m with
  | nil => rfl
  | cons c m ih =>
    unfold Sparse.erase at ih ⊢
    by_cases h : c.1 = k
    · simp [h, ih]
    · rw [List.filter_cons_of_pos (by simp [h])]
      simp only [Sparse.get, if_neg h, ih]

theorem Sparse.get_filter (d : Nat → α) (m : List (Nat × α)) (p : Nat → Bool) (i : Nat) (h : p i = true) :
    Sparse.get d (m.filter fun c => p c.1) i = Sparse.get d m i := by
  induction m with
  | nil => rfl
  | cons c m ih =>
    by_cases hp : p c.1 = true
    · rw [List.filter_cons_of_pos (by simpa using hp)]
      simp only [Sparse.get, ih]
    · rw [List.filter_cons_of_neg (by simpa using hp), ih]
      have : c.1 ≠ i := fun e => hp (e ▸ h)
      simp only [Sparse.get, if_neg this]

variable [DecidableEq α]

/-- A written key reads as what was written. -/
theorem Sparse.get_set_same (d : Nat → α) (m : List (Nat × α)) (k : Nat) (v : α) : Sparse.get d (Sparse.set d m k v) k = v := by
  unfold Sparse.set
  split
  · rename_i h; rw [Sparse.get_erase_same, h]
  · exact Sparse.get_insert_same d m k v

/-- A write leaves every other key alone. -/
theorem Sparse.get_set_ne (d : Nat → α) (m : List (Nat × α)) {k i : Nat} (v : α) (h : i ≠ k) : Sparse.get d (Sparse.set d m k v) i = Sparse.get d m i := by
  unfold Sparse.set
  split
  · exact Sparse.get_filter d m (fun j => j != k) i (by simpa using h)
  · exact Sparse.get_insert_ne d m v h

theorem Sparse.wf_cons (d : Nat → α) (k : Nat) (v : α) (m : List (Nat × α)) :
    Sparse.wf d ((k, v) :: m) = true ↔ v ≠ d k ∧ (∀ c ∈ m, k < c.1) ∧ Sparse.wf d m = true := by
  simp [Sparse.wf, Bool.and_eq_true, and_assoc]

/-- A filter keeps the canonical form. -/
theorem Sparse.wf_filter (d : Nat → α) (m : List (Nat × α)) (p : Nat × α → Bool) (h : Sparse.wf d m = true) : Sparse.wf d (m.filter p) = true := by
  induction m with
  | nil => rfl
  | cons c m ih =>
    obtain ⟨k, v⟩ := c
    obtain ⟨h1, h2, h3⟩ := (Sparse.wf_cons d k v m).1 h
    by_cases hp : p (k, v) = true
    · rw [List.filter_cons_of_pos hp]
      exact (Sparse.wf_cons d k v _).2 ⟨h1, fun c hc => h2 c (List.mem_of_mem_filter hc), ih h3⟩
    · rw [List.filter_cons_of_neg hp]
      exact ih h3

theorem Sparse.mem_insert {m : List (Nat × α)} {k : Nat} {v : α} {c : Nat × α} (h : c ∈ Sparse.insert m k v) : c = (k, v) ∨ c ∈ m := by
  induction m with
  | nil => simpa [Sparse.insert] using h
  | cons e m ih =>
    obtain ⟨j, u⟩ := e
    unfold Sparse.insert at h
    split at h
    · simpa using h
    · split at h
      · simp only [List.mem_cons] at h ⊢
        tauto
      · simp only [List.mem_cons] at h ⊢
        rcases h with h | h
        · exact .inr (.inl h)
        · rcases ih h with h | h
          · exact .inl h
          · exact .inr (.inr h)

theorem Sparse.wf_insert (d : Nat → α) (m : List (Nat × α)) (k : Nat) (v : α) (hv : v ≠ d k) (h : Sparse.wf d m = true) :
    Sparse.wf d (Sparse.insert m k v) = true := by
  induction m with
  | nil => simp [Sparse.insert, Sparse.wf, hv]
  | cons c m ih =>
    obtain ⟨j, u⟩ := c
    have hm := (Sparse.wf_cons d j u m).1 h
    unfold Sparse.insert
    split
    · rename_i hk
      refine (Sparse.wf_cons d k v _).2 ⟨hv, fun c hc => ?_, h⟩
      rcases List.mem_cons.1 hc with rfl | hc
      · exact hk
      · exact hk.trans (hm.2.1 c hc)
    · split
      · rename_i e
        subst e
        exact (Sparse.wf_cons d k v _).2 ⟨hv, hm.2.1, hm.2.2⟩
      · refine (Sparse.wf_cons d j u _).2 ⟨hm.1, fun c hc => ?_, ih hm.2.2⟩
        rcases Sparse.mem_insert hc with rfl | hc
        · show j < k
          omega
        · exact hm.2.1 c hc

/-- A write keeps the canonical form. -/
theorem Sparse.wf_set (d : Nat → α) (m : List (Nat × α)) (k : Nat) (v : α) (h : Sparse.wf d m = true) : Sparse.wf d (Sparse.set d m k v) = true := by
  unfold Sparse.set
  split
  · exact Sparse.wf_filter d m _ h
  · exact Sparse.wf_insert d m k v ‹_› h

/-- Writing a list leaves the keys outside it alone. -/
theorem Sparse.get_setList_out (d : Nat → α) (m : List (Nat × α)) (a : Nat) (l : List α) (i : Nat) (h : i < a ∨ a + l.length ≤ i) :
    Sparse.get d (Sparse.setList d m a l) i = Sparse.get d m i := by
  induction l generalizing m a with
  | nil => rfl
  | cons b l ih =>
    simp only [List.length_cons] at h
    rw [Sparse.setList, ih _ _ (by omega), Sparse.get_set_ne _ _ _ (by omega)]

/-- So does a write of a run of keys. -/
theorem Sparse.wf_setList (d : Nat → α) (l : List α) (m : List (Nat × α)) (a : Nat) (h : Sparse.wf d m = true) : Sparse.wf d (Sparse.setList d m a l) = true := by
  induction l generalizing m a with
  | nil => exact h
  | cons b l ih => exact ih _ _ (Sparse.wf_set d m a b h)

end Sys2Proof.Machine
end

