-- ==== Sys2Proof/Laws/Keeps.lean ====
section
/-!
SUPPORT. `Keeps` over the named operations: every update of the state that the meanings are written with keeps what `Keeps` lists.
-/

set_option Elab.async false

namespace Sys2Proof.Machine

variable {H : Hold} {H1 H2 H3 H4 H5 H6 H7 H8 H9 H10 H11 H12 H13 H14 H15 : Bool} {s0 s t : State}

/-- The canonical form of the state's tables, one by one. -/
theorem State.memWf_iff (s : State) : s.memWf = true ↔ Sparse.wf resetWord s.regs = true ∧ Sparse.wf resetWord s.inForce = true ∧
    Sparse.wf resetWord s.snaps = true ∧ Sparse.wf storeDflt s.store = true ∧ Sparse.wf ramDflt s.aos = true ∧ Sparse.wf flashDflt s.nvd = true ∧
    Sparse.wf flashDflt s.code = true ∧ Sparse.wf flashDflt s.iram = true ∧ Sparse.wf otpDflt s.otp = true ∧ Sparse.wf otpDflt s.otpMargin = true := by
  simp [State.memWf, and_assoc]

/-- Bits lost from `a` to `b` and from `b` to `c` are none: none are lost from `a` to `c`. -/
theorem lost_trans {w : Nat} {a b c : BitVec w} (h : a &&& ~~~b = 0) (k : b &&& ~~~c = 0) : a &&& ~~~c = 0 := by
  apply BitVec.eq_of_getLsbD_eq
  intro i hi
  have h1 := congrArg (fun x => x.getLsbD i) h
  have H1 := congrArg (fun x => x.getLsbD i) k
  simp at h1 H1 ⊢
  grind

theorem lost_refl {w : Nat} (a : BitVec w) : a &&& ~~~a = 0 := by simp

theorem Keeps.refl (k : Hold) (s : State) : Keeps k s s :=
  ⟨id, id, id, lost_refl _, fun _ => lost_refl _, fun _ => id, rfl, rfl, rfl, fun _ => rfl, fun _ => rfl, fun _ => rfl, fun _ => rfl, fun _ => rfl, fun _ => rfl, fun _ => rfl, fun _ => rfl, fun _ => rfl, fun _ => rfl, fun _ => rfl, fun _ => rfl, fun _ => rfl, fun _ => rfl, fun _ => rfl, fun _ => rfl, fun _ => rfl, fun _ => rfl, fun _ => rfl, fun _ => rfl, fun _ => rfl⟩

theorem Keeps.trans (h : Keeps H s0 s) (g : Keeps H s t) : Keeps H s0 t :=
  ⟨g.mem ∘ h.mem, g.p0 ∘ h.p0, g.bound ∘ h.bound, lost_trans h.sticky g.sticky, fun i => lost_trans (h.blown i) (g.blown i), fun i => g.retired i ∘ h.retired i,
    g.dbg.trans h.dbg, g.part.trans h.part, g.pending.trans h.pending,
    fun e => (g.tick e).trans (h.tick e), fun e => (g.otp e).trans (h.otp e), fun e => (g.otpMargin e).trans (h.otpMargin e), fun e => (g.code e).trans (h.code e),
    fun e => (g.nvd e).trans (h.nvd e), fun e => (g.iram e).trans (h.iram e), fun e => (g.aos e).trans (h.aos e), fun e => (g.store e).trans (h.store e),
    fun e => (g.phase e).trans (h.phase e), fun e => (g.boot e).trans (h.boot e), fun e => (g.engs e).trans (h.engs e), fun e => (g.links e).trans (h.links e),
    fun e => (g.fleet e).trans (h.fleet e), fun e => (g.pins e).trans (h.pins e), fun e => (g.mains e).trans (h.mains e), fun e => (g.gauge e).trans (h.gauge e),
    fun e => (g.place e).trans (h.place e), fun e => (g.twin e).trans (h.twin e), fun e => (g.upd e).trans (h.upd e), fun e => (g.host e).trans (h.host e),
    fun e => (g.ports e).trans (h.ports e)⟩

/-- Less may be claimed. -/
theorem Keeps.weaken (h : Keeps .all s0 s) : Keeps H s0 s :=
  ⟨h.mem, h.p0, h.bound, h.sticky, h.blown, h.retired, h.dbg, h.part, h.pending,
    fun _ => h.tick rfl, fun _ => h.otp rfl, fun _ => h.otpMargin rfl, fun _ => h.code rfl, fun _ => h.nvd rfl, fun _ => h.iram rfl, fun _ => h.aos rfl, fun _ => h.store rfl, fun _ => h.phase rfl, fun _ => h.boot rfl, fun _ => h.engs rfl, fun _ => h.links rfl, fun _ => h.fleet rfl, fun _ => h.pins rfl, fun _ => h.mains rfl, fun _ => h.gauge rfl, fun _ => h.place rfl, fun _ => h.twin rfl, fun _ => h.upd rfl, fun _ => h.host rfl, fun _ => h.ports rfl⟩

/-- An update of some of the tables and of hidden state, but not of engines, sticky locks, the debug latch's state, the part, the queue. -/
theorem Keeps.ofTables (h : Keeps H s0 s) (hm : s.memWf = true → t.memWf = true) (e1 : t.engs = s.engs := by rfl) (e2 : t.sticky = s.sticky := by rfl)
    (e3 : t.otp = s.otp := by rfl) (e4 : t.dbg.state = s.dbg.state := by rfl) (e5 : t.part = s.part := by rfl) (e6 : t.pending = s.pending := by rfl)
    (e7 : t.tick = s.tick := by rfl)
    (h_otpMargin : H.nv = true → t.otpMargin = s.otpMargin := by first | exact fun e => Bool.noConfusion e | exact fun _ => rfl)
    (h_code : H.nv = true → t.code = s.code := by first | exact fun e => Bool.noConfusion e | exact fun _ => rfl)
    (h_nvd : H.nv = true → t.nvd = s.nvd := by first | exact fun e => Bool.noConfusion e | exact fun _ => rfl)
    (h_iram : H.iram = true → t.iram = s.iram := by first | exact fun e => Bool.noConfusion e | exact fun _ => rfl)
    (h_aos : H.aos = true → t.aos = s.aos := by first | exact fun e => Bool.noConfusion e | exact fun _ => rfl)
    (h_store : H.store = true → t.store = s.store := by first | exact fun e => Bool.noConfusion e | exact fun _ => rfl)
    (h_phase : H.phase = true → t.phase = s.phase := by first | exact fun e => Bool.noConfusion e | exact fun _ => rfl)
    (h_boot : H.boot = true → t.boot = s.boot := by first | exact fun e => Bool.noConfusion e | exact fun _ => rfl)
    (h_links : H.net = true → t.links = s.links := by first | exact fun e => Bool.noConfusion e | exact fun _ => rfl)
    (h_fleet : H.net = true → t.fleet = s.fleet := by first | exact fun e => Bool.noConfusion e | exact fun _ => rfl)
    (h_pins : H.pins = true → t.pins = s.pins := by first | exact fun e => Bool.noConfusion e | exact fun _ => rfl)
    (h_mains : H.pins = true → t.mains = s.mains := by first | exact fun e => Bool.noConfusion e | exact fun _ => rfl)
    (h_gauge : H.gauge = true → t.gauge = s.gauge := by first | exact fun e => Bool.noConfusion e | exact fun _ => rfl)
    (h_place : H.place = true → t.place = s.place := by first | exact fun e => Bool.noConfusion e | exact fun _ => rfl)
    (h_twin : H.place = true → t.twin = s.twin := by first | exact fun e => Bool.noConfusion e | exact fun _ => rfl)
    (h_upd : H.upd = true → t.upd = s.upd := by first | exact fun e => Bool.noConfusion e | exact fun _ => rfl)
    (h_host : H.host = true → t.host = s.host := by first | exact fun e => Bool.noConfusion e | exact fun _ => rfl)
    (h_ports : H.ports = true → t.ports = s.ports := by first | exact fun e => Bool.noConfusion e | exact fun _ => rfl)
    : Keeps H s0 t := by
  refine h.trans ⟨hm, ?_, fun b => by rw [e7]; exact b, ?_, ?_, ?_, e4, e5, e6,
    fun _ => e7, fun _ => e3, h_otpMargin, h_code, h_nvd, h_iram, h_aos, h_store, h_phase, h_boot, fun _ => e1, h_links, h_fleet, h_pins, h_mains, h_gauge, h_place, h_twin, h_upd, h_host, h_ports⟩
  · intro hp k; have := hp k; simpa [State.eng, e1] using this
  · simp [e2]
  · intro i; simp [State.otpWord, e3]
  · intro k hk; simpa [State.eng, e1] using hk

/-- An update of hidden state that `Keeps` looks at only where `k` names it; of the debug latch, all but its state. -/
theorem Keeps.mk' (h : Keeps H s0 s) {shadow rd pins phase rst boot aon mains dbg gpio plcr st ports cmpt share links fleet place twin gauge host upd fo no oo
    fresh} (hd : dbg.state = s.dbg.state := by rfl)
    (h_phase : H.phase = true → phase = s.phase := by first | exact fun e => Bool.noConfusion e | exact fun _ => rfl)
    (h_boot : H.boot = true → boot = s.boot := by first | exact fun e => Bool.noConfusion e | exact fun _ => rfl)
    (h_links : H.net = true → links = s.links := by first | exact fun e => Bool.noConfusion e | exact fun _ => rfl)
    (h_fleet : H.net = true → fleet = s.fleet := by first | exact fun e => Bool.noConfusion e | exact fun _ => rfl)
    (h_pins : H.pins = true → pins = s.pins := by first | exact fun e => Bool.noConfusion e | exact fun _ => rfl)
    (h_mains : H.pins = true → mains = s.mains := by first | exact fun e => Bool.noConfusion e | exact fun _ => rfl)
    (h_gauge : H.gauge = true → gauge = s.gauge := by first | exact fun e => Bool.noConfusion e | exact fun _ => rfl)
    (h_place : H.place = true → place = s.place := by first | exact fun e => Bool.noConfusion e | exact fun _ => rfl)
    (h_twin : H.place = true → twin = s.twin := by first | exact fun e => Bool.noConfusion e | exact fun _ => rfl)
    (h_upd : H.upd = true → upd = s.upd := by first | exact fun e => Bool.noConfusion e | exact fun _ => rfl)
    (h_host : H.host = true → host = s.host := by first | exact fun e => Bool.noConfusion e | exact fun _ => rfl)
    (h_ports : H.ports = true → ports = s.ports := by first | exact fun e => Bool.noConfusion e | exact fun _ => rfl)
    : Keeps H s0 (State.mk s.pending s.tick s.sticky s.regs s.inForce s.snaps shadow rd s.store s.aos s.nvd s.code s.iram s.otp s.otpMargin s.part pins
      phase rst boot aon mains dbg gpio plcr st s.engs ports cmpt share links fleet place twin gauge host upd fo no oo fresh) :=
  h.ofTables (t := State.mk s.pending s.tick s.sticky s.regs s.inForce s.snaps shadow rd s.store s.aos s.nvd s.code s.iram s.otp s.otpMargin s.part pins
      phase rst boot aon mains dbg gpio plcr st s.engs ports cmpt share links fleet place twin gauge host upd fo no oo fresh) id (e4 := hd)
    (h_phase := h_phase) (h_boot := h_boot) (h_links := h_links) (h_fleet := h_fleet) (h_pins := h_pins) (h_mains := h_mains) (h_gauge := h_gauge) (h_place := h_place) (h_twin := h_twin) (h_upd := h_upd) (h_host := h_host) (h_ports := h_ports)

theorem Answers.next (h : Keeps H s0 s) : Answers H s0 (.next s) := ⟨s, rfl, h⟩

theorem Answers.weaken {o : Host.Outcome State Fault Refusal} (h : Answers .all s0 o) : Answers H s0 o :=
  match h with | ⟨t, e, g⟩ => ⟨t, e, g.weaken⟩

/-! ### The register file -/

theorem State.wr_keeps (pg off : Nat) (v : Word) (h : Keeps H s0 s) : Keeps H s0 (s.wr pg off v) :=
  h.ofTables (by simp only [State.memWf_iff, State.wr]; exact fun ⟨a, b⟩ => ⟨Sparse.wf_set _ _ _ _ a, b⟩)

theorem State.put_keeps (pg : Nat) (f : Fld) (v : Nat) (h : Keeps H s0 s) : Keeps H s0 (s.put pg f v) := State.wr_keeps _ _ _ h

theorem State.putInf_keeps (pg : Nat) (f : Fld) (v : Nat) (h : Keeps H s0 s) : Keeps H s0 (s.putInf pg f v) :=
  h.ofTables (by simp only [State.memWf_iff, State.putInf]; exact fun ⟨a, b, c⟩ => ⟨a, Sparse.wf_set _ _ _ _ b, c⟩)

/-! ### The stores -/

theorem State.stWrite_keeps (a : Nat) (bs : List Byte) (h : Keeps ⟨H1, H2, H3, H4, false, H6, H7, H8, H9, H10, H11, H12, H13, H14, H15⟩ s0 s) : Keeps ⟨H1, H2, H3, H4, false, H6, H7, H8, H9, H10, H11, H12, H13, H14, H15⟩ s0 (s.stWrite a bs) := by
  unfold State.stWrite
  exact h.ofTables (by simp only [State.memWf_iff]; exact fun ⟨a, b, c, d, e⟩ => ⟨a, b, c, Sparse.wf_setList _ _ _ _ d, e⟩)

theorem State.aosWrite_keeps (a : Nat) (bs : List Byte) (h : Keeps ⟨H1, H2, H3, false, H5, H6, H7, H8, H9, H10, H11, H12, H13, H14, H15⟩ s0 s) : Keeps ⟨H1, H2, H3, false, H5, H6, H7, H8, H9, H10, H11, H12, H13, H14, H15⟩ s0 (s.aosWrite a bs) :=
  h.ofTables (by simp only [State.memWf_iff, State.aosWrite]; exact fun ⟨a, b, c, d, e, f⟩ => ⟨a, b, c, d, Sparse.wf_setList _ _ _ _ e, f⟩)

/-! ### Engines and sticky locks -/

theorem State.modEng_eng (s : State) (k i : Engine) (f : EngSt → EngSt) : (s.modEng k f).eng i = if i = k then f (s.eng k) else s.eng i := by
  unfold State.modEng State.eng
  by_cases e : i = k
  · subst e; simp [Vector.get_eq_getElem]
  · rw [if_neg e]; simp only [Vector.get_eq_getElem, Vector.getElem_set]
    rw [if_neg]; intro h; exact e (Fin.ext h.symm)

/-- An update of an engine that leaves P0 and retirement as they are. -/
theorem State.modEng_keeps (k : Engine) (f : EngSt → EngSt) (h : Keeps ⟨H1, H2, H3, H4, H5, H6, H7, false, H9, H10, H11, H12, H13, H14, H15⟩ s0 s)
    (hp : (s.eng k).p.getLsbD 0 = true → (f (s.eng k)).p.getLsbD 0 = true := by first | exact fun e => e | exact fun _ => rfl)
    (hr : (s.eng k).retired = true → (f (s.eng k)).retired = true := by first | exact fun e => e | exact fun _ => rfl) :
    Keeps ⟨H1, H2, H3, H4, H5, H6, H7, false, H9, H10, H11, H12, H13, H14, H15⟩ s0 (s.modEng k f) := by
  refine h.trans ⟨id, ?_, id, lost_refl _, fun _ => lost_refl _, ?_, rfl, rfl, rfl, fun _ => rfl, fun _ => rfl, fun _ => rfl, fun _ => rfl, fun _ => rfl, fun _ => rfl, fun _ => rfl, fun _ => rfl, fun _ => rfl, fun _ => rfl, fun e => Bool.noConfusion e, fun _ => rfl, fun _ => rfl, fun _ => rfl, fun _ => rfl, fun _ => rfl, fun _ => rfl, fun _ => rfl, fun _ => rfl, fun _ => rfl, fun _ => rfl⟩
  · intro p i; rw [State.modEng_eng]; split
    · exact hp (p k)
    · exact p i
  · intro i hi; rw [State.modEng_eng]; split
    · rename_i e; subst e; exact hr hi
    · exact hi

theorem State.stickySet_keeps (v : Nat) (h : Keeps H s0 s) : Keeps H s0 (s.stickySet v) :=
  h.trans ⟨id, id, id, by unfold State.stickySet; ext i; simp; intro a b; simp [a] at b, fun _ => lost_refl _, fun _ => id, rfl, rfl, rfl, fun _ => rfl, fun _ => rfl, fun _ => rfl, fun _ => rfl, fun _ => rfl, fun _ => rfl, fun _ => rfl, fun _ => rfl, fun _ => rfl, fun _ => rfl, fun _ => rfl, fun _ => rfl, fun _ => rfl, fun _ => rfl, fun _ => rfl, fun _ => rfl, fun _ => rfl, fun _ => rfl, fun _ => rfl, fun _ => rfl, fun _ => rfl⟩

/-- The tick counter may be loaded where the tick is not claimed to stay. -/
theorem State.setTick_keeps (v : Nat) (h : Keeps ⟨false, H2, H3, H4, H5, H6, H7, H8, H9, H10, H11, H12, H13, H14, H15⟩ s0 s) : Keeps ⟨false, H2, H3, H4, H5, H6, H7, H8, H9, H10, H11, H12, H13, H14, H15⟩ s0 (s.setTick v) :=
  h.trans ⟨id, id, fun _ => Nat.mod_lt _ (by decide), lost_refl _, fun _ => lost_refl _, fun _ => id, rfl, rfl, rfl, fun e => Bool.noConfusion e, fun _ => rfl, fun _ => rfl, fun _ => rfl, fun _ => rfl, fun _ => rfl, fun _ => rfl, fun _ => rfl, fun _ => rfl, fun _ => rfl, fun _ => rfl, fun _ => rfl, fun _ => rfl, fun _ => rfl, fun _ => rfl, fun _ => rfl, fun _ => rfl, fun _ => rfl, fun _ => rfl, fun _ => rfl, fun _ => rfl⟩

/-! ### Ways of running an update -/

theorem Keeps.ite {c : Prop} [Decidable c] {a b : State} (ha : c → Keeps H s0 a) (hb : ¬c → Keeps H s0 b) : Keeps H s0 (if c then a else b) := by
  split
  · exact ha ‹_›
  · exact hb ‹_›

theorem Keeps.dite {c : Prop} [Decidable c] {a : c → State} {b : ¬c → State} (ha : ∀ x, Keeps H s0 (a x)) (hb : ∀ x, Keeps H s0 (b x)) :
    Keeps H s0 (if x : c then a x else b x) := by
  split
  · exact ha ‹_›
  · exact hb ‹_›

theorem Keeps.iteFst {α : Type} {c : Prop} [Decidable c] {a b : State × α} (ha : c → Keeps H s0 a.1) (hb : ¬c → Keeps H s0 b.1) :
    Keeps H s0 (if c then a else b).1 := by
  split
  · exact ha ‹_›
  · exact hb ‹_›

theorem Keeps.iteSnd {α : Type} {c : Prop} [Decidable c] {a b : α × State} (ha : c → Keeps H s0 a.2) (hb : ¬c → Keeps H s0 b.2) :
    Keeps H s0 (if c then a else b).2 := by
  split
  · exact ha ‹_›
  · exact hb ‹_›

theorem Keeps.mkFst {α : Type} {a : α} (h : Keeps H s0 s) : Keeps H s0 (s, a).1 := h

theorem Keeps.mkSnd {α : Type} {a : α} (h : Keeps H s0 s) : Keeps H s0 (a, s).2 := h

theorem Keeps.ofEq {α : Type} {p q : State × α} (e : p = q) (h : Keeps H s0 q.1) : Keeps H s0 p.1 := e ▸ h

theorem Keeps.fst {α : Type} {p : State × α} {a : α} (e : p = (s, a)) (h : Keeps H s0 p.1) : Keeps H s0 s := by
  rw [e] at h; exact h

theorem Keeps.snd {α : Type} {p : α × State} {a : α} (e : p = (a, s)) (h : Keeps H s0 p.2) : Keeps H s0 s := by
  rw [e] at h; exact h

theorem KeepsO.none : KeepsO H s0 none := fun _ e => nomatch e

theorem KeepsO.some (h : Keeps H s0 s) : KeepsO H s0 (some s) := fun _ e => Option.some.inj e ▸ h

theorem KeepsO.get {o : Option State} (h : KeepsO H s0 o) (e : o = Option.some s) : Keeps H s0 s := h s e

theorem KeepsO.ite {c : Prop} [Decidable c] {a b : Option State} (ha : c → KeepsO H s0 a) (hb : ¬c → KeepsO H s0 b) :
    KeepsO H s0 (if c then a else b) := by
  split
  · exact ha ‹_›
  · exact hb ‹_›

theorem Answers.ite {c : Prop} [Decidable c] {a b : Host.Outcome State Fault Refusal} (ha : c → Answers H s0 a) (hb : ¬c → Answers H s0 b) :
    Answers H s0 (if c then a else b) := by
  split
  · exact ha ‹_›
  · exact hb ‹_›

theorem State.when_keeps (b : Bool) {f : State → State} (h : Keeps H s0 s) (hf : ∀ s, Keeps H s0 s → Keeps H s0 (f s)) : Keeps H s0 (s.when b f) := by
  unfold State.when; split
  · exact hf s h
  · exact h

theorem foldl_keeps {α : Type} {f : State → α → State} (l : List α) (h : Keeps H s0 s) (hf : ∀ s x, Keeps H s0 s → Keeps H s0 (f s x)) :
    Keeps H s0 (l.foldl f s) := by
  induction l generalizing s with
  | nil => exact h
  | cons a l ih => exact ih (hf s a h)

theorem State.forPorts_keeps {f : State → Port → State} (h : Keeps H s0 s) (hf : ∀ s x, Keeps H s0 s → Keeps H s0 (f s x)) :
    Keeps H s0 (s.forPorts f) := foldl_keeps _ h hf

theorem State.forEngines_keeps {f : State → Engine → State} (h : Keeps H s0 s) (hf : ∀ s x, Keeps H s0 s → Keeps H s0 (f s x)) :
    Keeps H s0 (s.forEngines f) := foldl_keeps _ h hf

theorem KeepsO.or {a b : Option State} (ha : KeepsO H s0 a) (hb : KeepsO H s0 b) : KeepsO H s0 (a.or b) := by
  cases a with
  | none => exact hb
  | some t => exact ha

/-! ### Flash and OTP -/

theorem State.codeProgram_keeps (a : Nat) (v : Word) (h : Keeps ⟨H1, false, H3, H4, H5, H6, H7, H8, H9, H10, H11, H12, H13, H14, H15⟩ s0 s) : Keeps ⟨H1, false, H3, H4, H5, H6, H7, H8, H9, H10, H11, H12, H13, H14, H15⟩ s0 (s.codeProgram a v) :=
  h.ofTables (by
    simp only [State.memWf_iff, State.codeProgram]; exact fun ⟨a, b, c, d, e, f, g, i⟩ => ⟨a, b, c, d, e, f, Sparse.wf_setList _ _ _ _ g, i⟩)

theorem State.codeErase_keeps (a : Nat) (h : Keeps ⟨H1, false, H3, H4, H5, H6, H7, H8, H9, H10, H11, H12, H13, H14, H15⟩ s0 s) : Keeps ⟨H1, false, H3, H4, H5, H6, H7, H8, H9, H10, H11, H12, H13, H14, H15⟩ s0 (s.codeErase a) :=
  h.ofTables (by
    simp only [State.memWf_iff, State.codeErase]; exact fun ⟨a, b, c, d, e, f, g, i⟩ => ⟨a, b, c, d, e, f, Sparse.wf_filter _ _ _ g, i⟩)

theorem State.nvdErasePage_keeps (p : Nat) (h : Keeps ⟨H1, false, H3, H4, H5, H6, H7, H8, H9, H10, H11, H12, H13, H14, H15⟩ s0 s) : Keeps ⟨H1, false, H3, H4, H5, H6, H7, H8, H9, H10, H11, H12, H13, H14, H15⟩ s0 (s.nvdErasePage p) := by
  unfold State.nvdErasePage
  refine State.put_keeps _ _ _ (h.ofTables ?_)
  simp only [State.memWf_iff]; exact fun ⟨a, b, c, d, e, f, g⟩ => ⟨a, b, c, d, e, Sparse.wf_filter _ _ _ f, g⟩

theorem Keeps.nvdSet (h : Keeps ⟨H1, false, H3, H4, H5, H6, H7, H8, H9, H10, H11, H12, H13, H14, H15⟩ s0 s) (a : Nat) (l : List Byte) : Keeps ⟨H1, false, H3, H4, H5, H6, H7, H8, H9, H10, H11, H12, H13, H14, H15⟩ s0 { s with nvd := Sparse.setList flashDflt s.nvd a l } :=
  h.ofTables (by simp only [State.memWf_iff]; exact fun ⟨a, b, c, d, e, f, g⟩ => ⟨a, b, c, d, e, Sparse.wf_setList _ _ _ _ f, g⟩)

theorem Keeps.inForceSet (h : Keeps H s0 s) (k : Nat) (v : Word) : Keeps H s0 { s with inForce := Sparse.set resetWord s.inForce k v } :=
  h.ofTables (by simp only [State.memWf_iff]; exact fun ⟨a, b, c⟩ => ⟨a, Sparse.wf_set _ _ _ _ b, c⟩)

theorem Keeps.inForceFilter (h : Keeps H s0 s) (p : Nat × Word → Bool) : Keeps H s0 { s with inForce := s.inForce.filter p } :=
  h.ofTables (by simp only [State.memWf_iff]; exact fun ⟨a, b, c⟩ => ⟨a, Sparse.wf_filter _ _ _ b, c⟩)

theorem Keeps.storeFilter (h : Keeps ⟨H1, H2, H3, H4, false, H6, H7, H8, H9, H10, H11, H12, H13, H14, H15⟩ s0 s) (p : Host.Cell → Bool) : Keeps ⟨H1, H2, H3, H4, false, H6, H7, H8, H9, H10, H11, H12, H13, H14, H15⟩ s0 { s with store := s.store.filter p } :=
  h.ofTables (by simp only [State.memWf_iff]; exact fun ⟨a, b, c, d, e⟩ => ⟨a, b, c, Sparse.wf_filter _ _ _ d, e⟩)

theorem Keeps.aosFilter (h : Keeps ⟨H1, H2, H3, false, H5, H6, H7, H8, H9, H10, H11, H12, H13, H14, H15⟩ s0 s) (p : Host.Cell → Bool) : Keeps ⟨H1, H2, H3, false, H5, H6, H7, H8, H9, H10, H11, H12, H13, H14, H15⟩ s0 { s with aos := s.aos.filter p } :=
  h.ofTables (by simp only [State.memWf_iff]; exact fun ⟨a, b, c, d, e, f⟩ => ⟨a, b, c, d, Sparse.wf_filter _ _ _ e, f⟩)

theorem State.stZero_keeps (a n : Nat) (h : Keeps ⟨H1, H2, H3, H4, false, H6, H7, H8, H9, H10, H11, H12, H13, H14, H15⟩ s0 s) : Keeps ⟨H1, H2, H3, H4, false, H6, H7, H8, H9, H10, H11, H12, H13, H14, H15⟩ s0 (s.stZero a n) :=
  h.ofTables (by simp only [State.memWf_iff, State.stZero]; exact fun ⟨a, b, c, d, e⟩ => ⟨a, b, c, Sparse.wf_filter _ _ _ d, e⟩)

/-- A fold of writes keeps the canonical form. -/
theorem Sparse.wf_foldl {α β : Type} [DecidableEq α] (d : Nat → α) (key : β → Nat) (val : β → α) (l : List β) (m : List (Nat × α))
    (h : Sparse.wf d m = true) : Sparse.wf d (l.foldl (fun m x => Sparse.set d m (key x) (val x)) m) = true := by
  induction l generalizing m with
  | nil => exact h
  | cons x l ih => exact ih _ (Sparse.wf_set _ _ _ _ h)

theorem State.maskRegs_keeps (keep : Nat → Nat) (drop : Nat → Bool) (h : Keeps H s0 s) : Keeps H s0 (s.maskRegs keep drop) :=
  h.ofTables (by
    simp only [State.memWf_iff, State.maskRegs]
    exact fun ⟨_, b, c, d⟩ => ⟨Sparse.wf_foldl resetWord (fun c : Nat × Word => c.1) _ _ [] rfl, b, Sparse.wf_filter _ _ _ c, d⟩)

theorem Keeps.snapsSet (h : Keeps H s0 s) (key : Nat → Nat) (val : Nat → Word) (l : List Nat) :
    Keeps H s0 { s with snaps := l.foldl (fun m x => Sparse.set resetWord m (key x) (val x)) s.snaps } :=
  h.ofTables (by simp only [State.memWf_iff]; exact fun ⟨a, b, c, d⟩ => ⟨a, b, Sparse.wf_foldl _ _ _ _ _ c, d⟩)

theorem Keeps.snapsFilter (h : Keeps H s0 s) (p : Nat × Word → Bool) : Keeps H s0 { s with snaps := s.snaps.filter p } :=
  h.ofTables (by simp only [State.memWf_iff]; exact fun ⟨a, b, c, d⟩ => ⟨a, b, Sparse.wf_filter _ _ _ c, d⟩)

/-- Instruction RAM may be loaded anew. -/
theorem Keeps.iramSet (h : Keeps H s0 s) {i phase shadow gpio host upd} (hi : Sparse.wf flashDflt i = true) (hI : H.iram = false := by rfl)
    (h_phase : H.phase = true → phase = s.phase := by first | exact fun e => Bool.noConfusion e | exact fun _ => rfl)
    (h_host : H.host = true → host = s.host := by first | exact fun e => Bool.noConfusion e | exact fun _ => rfl)
    (h_upd : H.upd = true → upd = s.upd := by first | exact fun e => Bool.noConfusion e | exact fun _ => rfl)
    : Keeps H s0 { s with iram := i, phase := phase, shadow := shadow, gpio := gpio, host := host, upd := upd } :=
  h.ofTables (by simp only [State.memWf_iff]; exact fun ⟨a, b, c, d, e, f, g, _, j⟩ => ⟨a, b, c, d, e, f, g, hi, j⟩)
    (h_iram := fun e => by rw [hI] at e; exact Bool.noConfusion e) (h_phase := h_phase) (h_host := h_host) (h_upd := h_upd)

/-- The central store may be cleared. -/
theorem Keeps.storeClear (h : Keeps ⟨H1, H2, H3, H4, false, H6, H7, H8, H9, H10, H11, H12, H13, H14, H15⟩ s0 s) {st aon} : Keeps ⟨H1, H2, H3, H4, false, H6, H7, H8, H9, H10, H11, H12, H13, H14, H15⟩ s0 { s with store := [], st := st, aon := aon } :=
  h.ofTables (by simp only [State.memWf_iff]; exact fun ⟨a, b, c, _, e⟩ => ⟨a, b, c, rfl, e⟩)

/-- Every word of a table of OTP after a write that only adds bits. -/
theorem otpSet_grows (m : List (Nat × Word)) (i j : Nat) (v : Word) :
    Sparse.get (fun _ => 0) m j &&& ~~~Sparse.get (fun _ => 0) (Sparse.set (fun _ => 0) m i (Sparse.get (fun _ => 0) m i ||| v)) j = 0 := by
  by_cases h : j = i
  · subst h; rw [Sparse.get_set_same]; ext k; simp; intro a b; simp [a] at b
  · rw [Sparse.get_set_ne _ _ _ h]; exact lost_refl _

theorem State.otpBlow_keeps (i : Nat) (bits weak : Word) (h : Keeps ⟨H1, false, H3, H4, H5, H6, H7, H8, H9, H10, H11, H12, H13, H14, H15⟩ s0 s) : Keeps ⟨H1, false, H3, H4, H5, H6, H7, H8, H9, H10, H11, H12, H13, H14, H15⟩ s0 (s.otpBlow i bits weak) := by
  refine h.trans ⟨?_, id, id, lost_refl _, fun j => otpSet_grows _ _ _ _, fun _ => id, rfl, rfl, rfl, fun _ => rfl, fun e => Bool.noConfusion e, fun e => Bool.noConfusion e, fun e => Bool.noConfusion e, fun e => Bool.noConfusion e, fun _ => rfl, fun _ => rfl, fun _ => rfl, fun _ => rfl, fun _ => rfl, fun _ => rfl, fun _ => rfl, fun _ => rfl, fun _ => rfl, fun _ => rfl, fun _ => rfl, fun _ => rfl, fun _ => rfl, fun _ => rfl, fun _ => rfl, fun _ => rfl⟩
  simp only [State.memWf_iff, State.otpBlow]
  exact fun ⟨a, b, c, d, e, f, g, i, j, k⟩ => ⟨a, b, c, d, e, f, g, i, Sparse.wf_set _ _ _ _ j, Sparse.wf_set _ _ _ _ k⟩

end Sys2Proof.Machine
end

