-- ==== Sys2Proof/Laws/KeepsStores.lean ====
section
/-!
SUPPORT. `Keeps` over the operations of the central store and its tasks, flash, OTP, events: one lemma per operation.
-/

set_option Elab.async false

namespace Sys2Proof.Machine

variable {H : Hold} {H1 H2 H3 H4 H5 H6 H7 H8 H9 H10 H11 H12 H13 H14 H15 : Bool} {s0 s : State}

theorem State.putB_keeps (pg : ℕ) (f : Fld) (b : Bool) (hk : Keeps H s0 s) : Keeps H s0 (State.putB s pg f b) := by
  unfold State.putB
  exact State.put_keeps _ _ _ hk

theorem State.bump_keeps (pg : ℕ) (f : Fld) (n : ℕ) (hk : Keeps H s0 s) : Keeps H s0 (State.bump s pg f n) := by
  unfold State.bump
  exact State.put_keeps _ _ _ hk

theorem State.incr_keeps (pg : ℕ) (f : Fld) (hk : Keeps H s0 s) : Keeps H s0 (State.incr s pg f) := by
  unfold State.incr
  exact State.put_keeps _ _ _ hk

theorem State.freshen_keeps (hk : Keeps H s0 s) : Keeps H s0 (State.freshen s) := by
  unfold State.freshen
  exact Keeps.mk' hk

theorem State.raiseBits_keeps (pg : ℕ) (m : ℕ) (hk : Keeps H s0 s) : Keeps H s0 (State.raiseBits s pg m) := by
  unfold State.raiseBits
  extract_lets -merge -underBinder +onlyGivenNames x0 x1
  exact State.wr_keeps _ _ _ hk

theorem State.raise_keeps (pg : ℕ) (f : Fld) (hk : Keeps H s0 s) : Keeps H s0 (State.raise s pg f) := by
  unfold State.raise
  exact State.raiseBits_keeps _ _ hk

theorem State.raiseIf_keeps (b : Bool) (pg : ℕ) (f : Fld) (hk : Keeps H s0 s) : Keeps H s0 (State.raiseIf s b pg f) := by
  unfold State.raiseIf
  exact Keeps.ite (fun _ => State.raise_keeps _ _ hk) (fun _ => hk)

theorem State.lockedWrite_keeps (pg : ℕ) (hk : Keeps H s0 s) : Keeps H s0 (State.lockedWrite s pg) := by
  unfold State.lockedWrite
  exact State.raise_keeps _ _ hk

theorem State.stPut_keeps (a : ℕ) (n : ℕ) (v : ℕ) (hk : Keeps ⟨H1, H2, H3, H4, false, H6, H7, H8, H9, H10, H11, H12, H13, H14, H15⟩ s0 s) : Keeps ⟨H1, H2, H3, H4, false, H6, H7, H8, H9, H10, H11, H12, H13, H14, H15⟩ s0 (State.stPut s a n v) := by
  unfold State.stPut
  exact State.stWrite_keeps _ _ hk

theorem State.stRecord_keeps (a : ℕ) (body : List Byte) (hk : Keeps ⟨H1, H2, H3, H4, false, H6, H7, H8, H9, H10, H11, H12, H13, H14, H15⟩ s0 s) : Keeps ⟨H1, H2, H3, H4, false, H6, H7, H8, H9, H10, H11, H12, H13, H14, H15⟩ s0 (State.stRecord s a body) := by
  unfold State.stRecord
  exact State.stWrite_keeps _ _ hk

theorem State.aosPut_keeps (a : ℕ) (n : ℕ) (v : ℕ) (hk : Keeps ⟨H1, H2, H3, false, H5, H6, H7, H8, H9, H10, H11, H12, H13, H14, H15⟩ s0 s) : Keeps ⟨H1, H2, H3, false, H5, H6, H7, H8, H9, H10, H11, H12, H13, H14, H15⟩ s0 (State.aosPut s a n v) := by
  unfold State.aosPut
  exact State.aosWrite_keeps _ _ hk

theorem State.modPort_keeps (n : Port) (f : PortSt → PortSt) (hk : Keeps ⟨H1, H2, H3, H4, H5, H6, H7, H8, H9, H10, H11, H12, H13, H14, false⟩ s0 s) : Keeps ⟨H1, H2, H3, H4, H5, H6, H7, H8, H9, H10, H11, H12, H13, H14, false⟩ s0 (State.modPort s n f) := by
  unfold State.modPort
  exact Keeps.mk' hk

theorem State.keyed_keeps (pg : ℕ) (key : ℕ) (want : ℕ) {f : State → State} (hk : Keeps H s0 s) (hf : ∀ a0, Keeps H s0 a0 → Keeps H s0 (f a0)) : Keeps H s0 (State.keyed s pg key want f) := by
  unfold State.keyed
  refine Keeps.ite (fun _ => ?_) (fun _ => ?_)
  · refine hf _ ?_
    exact hk
  · exact State.lockedWrite_keeps _ hk

theorem State.cmd_keeps (pg : ℕ) {f : State → State} (hk : Keeps H s0 s) (hf : ∀ a0, Keeps H s0 a0 → Keeps H s0 (f a0)) : Keeps H s0 (State.cmd s pg f) := by
  unfold State.cmd
  refine Keeps.ite (fun _ => ?_) (fun _ => ?_)
  · refine hf _ ?_
    exact hk
  · exact hk

theorem State.keyCmd_keeps (pg : ℕ) (key : ℕ) (want : ℕ) {f : State → State} (hk : Keeps H s0 s) (hf : ∀ a0, Keeps H s0 a0 → Keeps H s0 (f a0)) : Keeps H s0 (State.keyCmd s pg key want f) := by
  unfold State.keyCmd
  refine State.cmd_keeps _ ?_ ?_
  · exact hk
  · intro s0_0 hs0_1
    refine State.keyed_keeps _ _ _ ?_ ?_
    · exact hs0_1
    · intro s1_0 hs1_1
      refine hf _ ?_
      exact hs1_1

theorem State.setSpare_keeps (j : ℕ) (seg : ℕ) (hk : Keeps H s0 s) : Keeps H s0 (State.setSpare s j seg) := by
  unfold State.setSpare
  exact State.put_keeps _ _ _ hk

theorem State.bankRetire_keeps (b : ℕ) (hk : Keeps H s0 s) : Keeps H s0 (State.bankRetire s b) := by
  unfold State.bankRetire
  extract_lets -merge -underBinder +onlyGivenNames x0
  have hx0 : Keeps H s0 x0 := State.put_keeps _ _ _ hk
  try clear_value x0
  extract_lets -merge -underBinder +onlyGivenNames x1
  have hx1 : Keeps H s0 x1 := State.put_keeps _ _ _ (State.incr_keeps _ _ hx0)
  try clear_value x1
  extract_lets -merge -underBinder +onlyGivenNames x2
  have hx2 : Keeps H s0 x2 := State.put_keeps _ _ _ hx1
  try clear_value x2
  exact Keeps.mk' hx2

theorem State.bankFaulty_keeps (b : ℕ) (hk : Keeps H s0 s) : Keeps H s0 (State.bankFaulty s b) := by
  unfold State.bankFaulty
  extract_lets -merge -underBinder +onlyGivenNames x0
  have hx0 : Keeps H s0 x0 := State.raise_keeps _ _ (State.put_keeps _ _ _ hk)
  try clear_value x0
  exact Keeps.ite (fun _ => hk) (fun _ => Keeps.ite (fun _ => hx0) (fun _ => Keeps.ite (fun _ => State.raise_keeps _ _ (State.put_keeps _ _ _ hx0)) (fun _ => Keeps.ite (fun _ => hx0) (fun _ => State.bankRetire_keeps _ hx0))))

theorem State.watchAdd_keeps (w : ℕ) (hk : Keeps H s0 s) : Keeps H s0 (State.watchAdd s w) := by
  unfold State.watchAdd
  extract_lets -merge -underBinder +onlyGivenNames x0 x1 x2 x3
  have hx3 : Keeps H s0 x3 := Keeps.mk' hk
  try clear_value x3
  extract_lets -merge -underBinder +onlyGivenNames x4
  have hx4 : Keeps H s0 x4 := State.bump_keeps _ _ _ (State.raiseIf_keeps _ _ _ hx3)
  try clear_value x4
  exact State.put_keeps _ _ _ hx4

theorem State.storeParity_keeps (req : ℕ) (w : ℕ) (hk : Keeps H s0 s) : Keeps H s0 (State.storeParity s req w) := by
  unfold State.storeParity
  extract_lets -merge -underBinder +onlyGivenNames x0
  have hx0 : Keeps H s0 x0 := State.raise_keeps _ _ hk
  try clear_value x0
  extract_lets -merge -underBinder +onlyGivenNames x1
  have hx1 : Keeps H s0 x1 := State.bump_keeps _ _ _ hx0
  try clear_value x1
  extract_lets -merge -underBinder +onlyGivenNames x2
  have hx2 : Keeps H s0 x2 := State.put_keeps _ _ _ (State.put_keeps _ _ _ hx1)
  try clear_value x2
  extract_lets -merge -underBinder +onlyGivenNames x3
  have hx3 : Keeps H s0 x3 := State.bump_keeps _ _ _ hx2
  try clear_value x3
  split
  · exact State.watchAdd_keeps _ hx3
  · exact Keeps.ite (fun _ => State.watchAdd_keeps _ (Keeps.mk' hx3)) (fun _ => Keeps.ite (fun _ => State.bankFaulty_keeps _ hx3) (fun _ => hx3))

theorem State.stNote_keeps (req : ℕ) (a : ℕ) (n : ℕ) (hk : Keeps H s0 s) : Keeps H s0 (State.stNote s req a n) := by
  unfold State.stNote
  extract_lets -merge -underBinder +onlyGivenNames x0
  exact foldl_keeps _ hk (fun _ _ h1 => State.storeParity_keeps _ _ h1)

theorem State.stSpoil_keeps (b : ℕ) (hk : Keeps H s0 s) : Keeps H s0 (State.stSpoil s b) := by
  unfold State.stSpoil
  exact Keeps.ite (fun _ => hk) (fun _ => Keeps.mk' hk)

theorem State.segMove_keeps (c : ℕ × ℕ) (hk : Keeps H s0 s) : Keeps H s0 (State.segMove s c) := by
  unfold State.segMove
  split
  · exact hk
  · extract_lets -merge -underBinder +onlyGivenNames x0
    have hx0 : Keeps H s0 x0 := Keeps.ite (fun _ => State.setSpare_keeps _ _ hk) (fun _ => hk)
    try clear_value x0
    exact State.setSpare_keeps _ _ hx0

theorem State.migrateTick_keeps (hk : Keeps H s0 s) : Keeps H s0 (State.migrateTick s) := by
  unfold State.migrateTick
  split
  · exact hk
  · extract_lets -merge -underBinder +onlyGivenNames x0
    exact State.freshen_keeps (foldl_keeps _ hk (fun _ _ h1 => State.segMove_keeps _ h1))

theorem State.migrate_keeps (b : ℕ) (hk : Keeps H s0 s) : Keeps H s0 (State.migrate s b) := by
  unfold State.migrate
  extract_lets -merge -underBinder +onlyGivenNames x0
  have hx0 : Keeps H s0 x0 := foldl_keeps _ hk (fun _ _ h1 => State.segMove_keeps _ h1)
  try clear_value x0
  extract_lets -merge -underBinder +onlyGivenNames x2
  have hx2 : Keeps H s0 x2 := State.raise_keeps _ _ (State.put_keeps _ _ _ hx0)
  try clear_value x2
  extract_lets -merge -underBinder +onlyGivenNames x3
  have hx3 : Keeps H s0 x3 := State.put_keeps _ _ _ hx2
  try clear_value x3
  exact Keeps.mk' hx3

theorem State.bankCmd_keeps (b : ℕ) (hk : Keeps H s0 s) : Keeps H s0 (State.bankCmd s b) := by
  unfold State.bankCmd
  exact Keeps.ite (fun _ => State.put_keeps _ _ _ hk) (fun _ => Keeps.ite (fun _ => State.put_keeps _ _ _ hk) (fun _ => Keeps.ite (fun _ => State.put_keeps _ _ _ hk) (fun _ => State.put_keeps _ _ _ (State.bankRetire_keeps _ hk))))

theorem State.setDescState_keeps (slot : ℕ) (code : ℕ) (hk : Keeps ⟨H1, H2, H3, H4, false, H6, H7, H8, H9, H10, H11, H12, H13, H14, H15⟩ s0 s) : Keeps ⟨H1, H2, H3, H4, false, H6, H7, H8, H9, H10, H11, H12, H13, H14, H15⟩ s0 (State.setDescState s slot code) := by
  unfold State.setDescState
  exact State.stPut_keeps _ _ _ hk

theorem State.setDescBit_keeps (slot : ℕ) (bit : ℕ) (b : Bool) (hk : Keeps ⟨H1, H2, H3, H4, false, H6, H7, H8, H9, H10, H11, H12, H13, H14, H15⟩ s0 s) : Keeps ⟨H1, H2, H3, H4, false, H6, H7, H8, H9, H10, H11, H12, H13, H14, H15⟩ s0 (State.setDescBit s slot bit b) := by
  unfold State.setDescBit
  exact State.stPut_keeps _ _ _ hk

theorem State.post_keeps (slot : ℕ) (d : Desc) (hk : Keeps ⟨H1, H2, H3, H4, false, H6, H7, H8, H9, H10, H11, H12, H13, H14, H15⟩ s0 s) : Keeps ⟨H1, H2, H3, H4, false, H6, H7, H8, H9, H10, H11, H12, H13, H14, H15⟩ s0 (State.post s slot d) := by
  unfold State.post
  extract_lets -merge -underBinder +onlyGivenNames x0 x1
  have hx1 : Keeps ⟨H1, H2, H3, H4, false, H6, H7, H8, H9, H10, H11, H12, H13, H14, H15⟩ s0 x1 := State.stPut_keeps _ _ _ (State.stWrite_keeps _ _ hk)
  try clear_value x1
  exact Keeps.mk' hx1

theorem State.postTask_keeps (slot : ℕ) (cls : ℕ) (port : Port) (valid : Bool) (flash : Bool) (task : ℕ) (arg : ℕ) (affinity : ℕ) (hk : Keeps ⟨H1, H2, H3, H4, false, H6, H7, H8, H9, H10, H11, H12, H13, H14, H15⟩ s0 s) : Keeps ⟨H1, H2, H3, H4, false, H6, H7, H8, H9, H10, H11, H12, H13, H14, H15⟩ s0 (State.postTask s slot cls port valid flash task arg affinity) := by
  unfold State.postTask
  exact Keeps.ite (fun _ => hk) (fun _ => State.post_keeps _ _ hk)

theorem State.postGlobal_keeps (slot : ℕ) (cls : ℕ) (flash : Bool) (task : ℕ) (arg : ℕ) (hk : Keeps ⟨H1, H2, H3, H4, false, H6, H7, H8, H9, H10, H11, H12, H13, H14, H15⟩ s0 s) : Keeps ⟨H1, H2, H3, H4, false, H6, H7, H8, H9, H10, H11, H12, H13, H14, H15⟩ s0 (State.postGlobal s slot cls flash task arg) := by
  unfold State.postGlobal
  exact State.postTask_keeps _ _ _ _ _ _ _ _ hk

theorem State.postPort_keeps (slot : ℕ) (cls : ℕ) (n : Port) (task : ℕ) (arg : ℕ) (hk : Keeps ⟨H1, H2, H3, H4, false, H6, H7, H8, H9, H10, H11, H12, H13, H14, H15⟩ s0 s) : Keeps ⟨H1, H2, H3, H4, false, H6, H7, H8, H9, H10, H11, H12, H13, H14, H15⟩ s0 (State.postPort s slot cls n task arg) := by
  unfold State.postPort
  exact State.postTask_keeps _ _ _ _ _ _ _ _ hk

theorem State.postKept_keeps (slot : ℕ) (cls : ℕ) (n : Port) (task : ℕ) (arg : ℕ) (hk : Keeps ⟨H1, H2, H3, H4, false, H6, H7, H8, H9, H10, H11, H12, H13, H14, H15⟩ s0 s) : Keeps ⟨H1, H2, H3, H4, false, H6, H7, H8, H9, H10, H11, H12, H13, H14, H15⟩ s0 (State.postKept s slot cls n task arg) := by
  unfold State.postKept
  exact State.postTask_keeps _ _ _ _ _ _ _ _ hk

theorem State.enqueue_keeps (slot : ℕ) (dl : Word) (head : Bool) (hk : Keeps ⟨H1, H2, H3, H4, false, H6, H7, H8, H9, H10, H11, H12, H13, H14, H15⟩ s0 s) : Keeps ⟨H1, H2, H3, H4, false, H6, H7, H8, H9, H10, H11, H12, H13, H14, H15⟩ s0 (State.enqueue s slot dl head) := by
  unfold State.enqueue
  extract_lets -merge -underBinder +onlyGivenNames x0 x1
  exact State.setDescState_keeps _ _ (Keeps.mk' hk)

theorem State.dequeue_keeps (slot : ℕ) (hk : Keeps H s0 s) : Keeps H s0 (State.dequeue s slot) := by
  unfold State.dequeue
  exact Keeps.mk' hk

theorem State.postVisible_keeps (slot : ℕ) (hk : Keeps ⟨H1, H2, H3, H4, false, H6, H7, H8, H9, H10, H11, H12, H13, H14, H15⟩ s0 s) : Keeps ⟨H1, H2, H3, H4, false, H6, H7, H8, H9, H10, H11, H12, H13, H14, H15⟩ s0 (State.postVisible s slot) := by
  unfold State.postVisible
  extract_lets -merge -underBinder +onlyGivenNames x0
  exact Keeps.ite (fun _ => State.setDescBit_keeps _ _ _ hk) (fun _ => State.enqueue_keeps _ _ _ hk)

theorem State.wakeWaiting_keeps (hk : Keeps ⟨H1, H2, H3, H4, false, H6, H7, H8, H9, H10, H11, H12, H13, H14, H15⟩ s0 s) : Keeps ⟨H1, H2, H3, H4, false, H6, H7, H8, H9, H10, H11, H12, H13, H14, H15⟩ s0 (State.wakeWaiting s) := by
  unfold State.wakeWaiting
  refine foldl_keeps _ ?_ ?_
  · exact hk
  · intro s0_0 s0_1 hs0_1
    extract_lets -merge -underBinder +onlyGivenNames x1
    exact Keeps.ite (fun _ => State.setDescState_keeps _ _ hs0_1) (fun _ => hs0_1)

theorem State.placerTick_keeps (hk : Keeps ⟨H1, H2, H3, H4, false, H6, H7, false, H9, H10, H11, H12, H13, H14, H15⟩ s0 s) : Keeps ⟨H1, H2, H3, H4, false, H6, H7, false, H9, H10, H11, H12, H13, H14, H15⟩ s0 (State.placerTick s) := by
  unfold State.placerTick
  extract_lets -merge -underBinder +onlyGivenNames x0
  have hx0 : Keeps ⟨H1, H2, H3, H4, false, H6, H7, false, H9, H10, H11, H12, H13, H14, H15⟩ s0 x0 := by
    unfold x0
    refine foldl_keeps _ ?_ ?_
    · exact hk
    · intro s1_0 s1_1 hs1_1
      split
      · exact hs1_1
      · exact State.postVisible_keeps _ (State.stPut_keeps _ _ _ (State.stWrite_keeps _ _ hs1_1))
  try clear_value x0
  extract_lets -merge -underBinder +onlyGivenNames x2
  have hx2 : Keeps ⟨H1, H2, H3, H4, false, H6, H7, false, H9, H10, H11, H12, H13, H14, H15⟩ s0 x2 := foldl_keeps _ hx0 (fun _ _ h3 => State.postVisible_keeps _ h3)
  try clear_value x2
  extract_lets -merge -underBinder +onlyGivenNames x4 x5
  have hx5 : Keeps ⟨H1, H2, H3, H4, false, H6, H7, false, H9, H10, H11, H12, H13, H14, H15⟩ s0 x5 := Keeps.mk' hx2
  try clear_value x5
  extract_lets -merge -underBinder +onlyGivenNames x6
  have hx6 : Keeps ⟨H1, H2, H3, H4, false, H6, H7, false, H9, H10, H11, H12, H13, H14, H15⟩ s0 x6 := State.wakeWaiting_keeps hx5
  try clear_value x6
  extract_lets -merge -underBinder +onlyGivenNames x7 x8 x9
  have hx9 : Keeps ⟨H1, H2, H3, H4, false, H6, H7, false, H9, H10, H11, H12, H13, H14, H15⟩ s0 x9 := Keeps.ite (fun _ => State.put_keeps _ _ _ hx6) (fun _ => Keeps.ite (fun _ => hx6) (fun _ => State.bump_keeps _ _ _ hx6))
  try clear_value x9
  extract_lets -merge -underBinder +onlyGivenNames x10 x11 x12
  have hx12 : Keeps ⟨H1, H2, H3, H4, false, H6, H7, false, H9, H10, H11, H12, H13, H14, H15⟩ s0 x12 := Keeps.mk' hx9
  try clear_value x12
  extract_lets -merge -underBinder +onlyGivenNames x13
  have hx13 : Keeps ⟨H1, H2, H3, H4, false, H6, H7, false, H9, H10, H11, H12, H13, H14, H15⟩ s0 x13 := State.put_keeps _ _ _ hx12
  try clear_value x13
  exact State.forEngines_keeps hx13 (fun _ _ h14 => State.modEng_keeps _ _ (State.put_keeps _ _ _ h14))

theorem State.engFree_keeps (k : Engine) (hk : Keeps ⟨H1, H2, H3, H4, H5, H6, H7, false, H9, H10, H11, H12, H13, H14, H15⟩ s0 s) : Keeps ⟨H1, H2, H3, H4, H5, H6, H7, false, H9, H10, H11, H12, H13, H14, H15⟩ s0 (State.engFree s k) := by
  unfold State.engFree
  exact State.put_keeps _ _ _ (State.modEng_keeps _ _ hk)

theorem State.genDiscard_keeps (slot : ℕ) (hk : Keeps ⟨H1, H2, H3, H4, false, H6, H7, H8, H9, H10, H11, H12, H13, H14, H15⟩ s0 s) : Keeps ⟨H1, H2, H3, H4, false, H6, H7, H8, H9, H10, H11, H12, H13, H14, H15⟩ s0 (State.genDiscard s slot) := by
  unfold State.genDiscard
  exact State.raise_keeps _ _ (State.bump_keeps _ _ _ (State.setDescBit_keeps _ _ _ (State.setDescState_keeps _ _ (State.dequeue_keeps _ hk))))

theorem State.descLost_keeps (slot : ℕ) (again : Bool) (hk : Keeps ⟨H1, H2, H3, H4, false, H6, H7, H8, H9, H10, H11, H12, H13, H14, H15⟩ s0 s) : Keeps ⟨H1, H2, H3, H4, false, H6, H7, H8, H9, H10, H11, H12, H13, H14, H15⟩ s0 (State.descLost s slot again) := by
  unfold State.descLost
  extract_lets -merge -underBinder +onlyGivenNames x0
  have hx0 : Keeps ⟨H1, H2, H3, H4, false, H6, H7, H8, H9, H10, H11, H12, H13, H14, H15⟩ s0 x0 := State.raise_keeps _ _ (State.bump_keeps _ _ _ (State.setDescBit_keeps _ _ _ (State.setDescState_keeps _ _ (State.dequeue_keeps _ hk))))
  try clear_value x0
  exact Keeps.ite (fun _ => Keeps.mk' hx0) (fun _ => hx0)

theorem State.taskStart_keeps (k : Engine) (e : QEnt) (hk : Keeps ⟨H1, H2, H3, H4, false, H6, H7, false, H9, H10, H11, H12, H13, H14, H15⟩ s0 s) : Keeps ⟨H1, H2, H3, H4, false, H6, H7, false, H9, H10, H11, H12, H13, H14, H15⟩ s0 (State.taskStart s k e) := by
  unfold State.taskStart
  extract_lets -merge -underBinder +onlyGivenNames x0 x1 x2 x3 x4
  have hx4 : Keeps ⟨H1, H2, H3, H4, false, H6, H7, false, H9, H10, H11, H12, H13, H14, H15⟩ s0 x4 := Keeps.ite (fun _ => State.put_keeps _ _ _ (State.bump_keeps _ _ _ (State.raise_keeps _ _ hk))) (fun _ => hk)
  try clear_value x4
  extract_lets -merge -underBinder +onlyGivenNames x5 x6 x7 x8
  have hx8 : Keeps ⟨H1, H2, H3, H4, false, H6, H7, false, H9, H10, H11, H12, H13, H14, H15⟩ s0 x8 := State.setDescState_keeps _ _ (State.dequeue_keeps _ hx4)
  try clear_value x8
  extract_lets -merge -underBinder +onlyGivenNames x9 x10
  have hx10 : Keeps ⟨H1, H2, H3, H4, false, H6, H7, false, H9, H10, H11, H12, H13, H14, H15⟩ s0 x10 := Keeps.mk' hx8
  try clear_value x10
  extract_lets -merge -underBinder +onlyGivenNames x11
  have hx11 : Keeps ⟨H1, H2, H3, H4, false, H6, H7, false, H9, H10, H11, H12, H13, H14, H15⟩ s0 x11 := State.put_keeps _ _ _ (State.put_keeps _ _ _ (State.put_keeps _ _ _ (State.put_keeps _ _ _ hx10)))
  try clear_value x11
  exact State.modEng_keeps _ _ hx11

theorem State.endRun_keeps (k : Engine) (kind : ℕ) (readyAt : ℕ) (dl : Option Word) (hk : Keeps ⟨H1, H2, H3, H4, false, H6, H7, false, H9, H10, H11, H12, H13, H14, H15⟩ s0 s) : Keeps ⟨H1, H2, H3, H4, false, H6, H7, false, H9, H10, H11, H12, H13, H14, H15⟩ s0 (State.endRun s k kind readyAt dl) := by
  unfold State.endRun
  extract_lets -merge -underBinder +onlyGivenNames x0 x1 x2
  have hx2 : Keeps ⟨H1, H2, H3, H4, false, H6, H7, false, H9, H10, H11, H12, H13, H14, H15⟩ s0 x2 := State.incr_keeps _ _ (State.engFree_keeps _ hk)
  try clear_value x2
  extract_lets -merge -underBinder +onlyGivenNames x3 x4
  have hx4 : Keeps ⟨H1, H2, H3, H4, false, H6, H7, false, H9, H10, H11, H12, H13, H14, H15⟩ s0 x4 := Keeps.ite (fun _ => Keeps.mk' hx2) (fun _ => hx2)
  try clear_value x4
  extract_lets -merge -underBinder +onlyGivenNames x5
  have hx5 : Keeps ⟨H1, H2, H3, H4, false, H6, H7, false, H9, H10, H11, H12, H13, H14, H15⟩ s0 x5 := by
    unfold x5
    split
    · extract_lets -merge -underBinder +onlyGivenNames x6
      have hx6 : Keeps ⟨H1, H2, H3, H4, false, H6, H7, false, H9, H10, H11, H12, H13, H14, H15⟩ s0 x6 := State.stPut_keeps _ _ _ hx4
      try clear_value x6
      exact Keeps.ite (fun _ => hx4) (fun _ => State.stPut_keeps _ _ _ hx6)
    · exact hx4
  try clear_value x5
  extract_lets -merge -underBinder +onlyGivenNames x7
  have hx7 : Keeps ⟨H1, H2, H3, H4, false, H6, H7, false, H9, H10, H11, H12, H13, H14, H15⟩ s0 x7 := State.setDescBit_keeps _ _ _ hx5
  try clear_value x7
  extract_lets -merge -underBinder +onlyGivenNames x8
  have hx8 : ∀ a0 a1 a2, Keeps ⟨H1, H2, H3, H4, false, H6, H7, false, H9, H10, H11, H12, H13, H14, H15⟩ s0 a0 → Keeps ⟨H1, H2, H3, H4, false, H6, H7, false, H9, H10, H11, H12, H13, H14, H15⟩ s0 (x8 a0 a1 a2) := by
    intro s9_0 s9_1 s9_2 hs9_1
    unfold x8
    beta_reduce
    extract_lets -merge -underBinder +onlyGivenNames x10
    have hx10 : Keeps ⟨H1, H2, H3, H4, false, H6, H7, false, H9, H10, H11, H12, H13, H14, H15⟩ s0 x10 := State.enqueue_keeps _ _ _ hs9_1
    try clear_value x10
    extract_lets -merge -underBinder +onlyGivenNames x11 x12 x13
    have hx13 : Keeps ⟨H1, H2, H3, H4, false, H6, H7, false, H9, H10, H11, H12, H13, H14, H15⟩ s0 x13 := Keeps.mk' hx10
    try clear_value x13
    exact State.stPut_keeps _ _ _ (State.setDescState_keeps _ _ hx13)
  try clear_value x8
  refine Keeps.ite (fun _ => ?_) (fun _ => ?_)
  · exact State.enqueue_keeps _ _ _ (State.setDescBit_keeps _ _ _ hx7)
  · split
    · exact State.setDescState_keeps _ _ hx7
    · refine hx8 _ _ _ ?_
      exact hx7
    · extract_lets -merge -underBinder +onlyGivenNames x14
      refine Keeps.ite (fun _ => ?_) (fun _ => ?_)
      · refine hx8 _ _ _ ?_
        exact hx7
      · refine hx8 _ _ _ ?_
        exact hx7

theorem State.endFaulted_keeps (k : Engine) (hk : Keeps ⟨H1, H2, H3, H4, false, H6, H7, false, H9, H10, H11, H12, H13, H14, H15⟩ s0 s) : Keeps ⟨H1, H2, H3, H4, false, H6, H7, false, H9, H10, H11, H12, H13, H14, H15⟩ s0 (State.endFaulted s k) := by
  unfold State.endFaulted
  extract_lets -merge -underBinder +onlyGivenNames x0 x1
  have hx1 : Keeps ⟨H1, H2, H3, H4, false, H6, H7, false, H9, H10, H11, H12, H13, H14, H15⟩ s0 x1 := State.engFree_keeps _ hk
  try clear_value x1
  exact Keeps.ite (fun _ => hk) (fun _ => Keeps.ite (fun _ => State.descLost_keeps _ _ hx1) (fun _ => State.enqueue_keeps _ _ _ (State.setDescBit_keeps _ _ _ hx1)))

theorem State.retireEngine_keeps (k : Engine) (hk : Keeps ⟨H1, H2, H3, H4, false, H6, H7, false, H9, H10, H11, H12, H13, H14, H15⟩ s0 s) : Keeps ⟨H1, H2, H3, H4, false, H6, H7, false, H9, H10, H11, H12, H13, H14, H15⟩ s0 (State.retireEngine s k) := by
  unfold State.retireEngine
  extract_lets -merge -underBinder +onlyGivenNames x0
  have hx0 : Keeps ⟨H1, H2, H3, H4, false, H6, H7, false, H9, H10, H11, H12, H13, H14, H15⟩ s0 x0 := State.endFaulted_keeps _ hk
  try clear_value x0
  extract_lets -merge -underBinder +onlyGivenNames x1
  have hx1 : Keeps ⟨H1, H2, H3, H4, false, H6, H7, false, H9, H10, H11, H12, H13, H14, H15⟩ s0 x1 := State.modEng_keeps _ _ hx0
  try clear_value x1
  exact Keeps.ite (fun _ => hk) (fun _ => Keeps.ite (fun _ => State.raise_keeps _ _ hk) (fun _ => State.raise_keeps _ _ (State.raise_keeps _ _ hx1)))

theorem State.engineFault_keeps (k : Engine) (kind : ℕ) (addr : ℕ) (hk : Keeps ⟨H1, H2, H3, H4, false, H6, H7, false, H9, H10, H11, H12, H13, H14, H15⟩ s0 s) : Keeps ⟨H1, H2, H3, H4, false, H6, H7, false, H9, H10, H11, H12, H13, H14, H15⟩ s0 (State.engineFault s k kind addr) := by
  unfold State.engineFault
  extract_lets -merge -underBinder +onlyGivenNames x0 x1 x2
  have hx2 : Keeps ⟨H1, H2, H3, H4, false, H6, H7, false, H9, H10, H11, H12, H13, H14, H15⟩ s0 x2 := State.modEng_keeps _ _ hk
  try clear_value x2
  extract_lets -merge -underBinder +onlyGivenNames x3
  have hx3 : Keeps ⟨H1, H2, H3, H4, false, H6, H7, false, H9, H10, H11, H12, H13, H14, H15⟩ s0 x3 := State.raise_keeps _ _ (State.put_keeps _ _ _ (State.put_keeps _ _ _ hx2))
  try clear_value x3
  extract_lets -merge -underBinder +onlyGivenNames x4
  have hx4 : Keeps ⟨H1, H2, H3, H4, false, H6, H7, false, H9, H10, H11, H12, H13, H14, H15⟩ s0 x4 := Keeps.ite (fun _ => hx3) (fun _ => State.put_keeps _ _ _ hx3)
  try clear_value x4
  extract_lets -merge -underBinder +onlyGivenNames x5
  have hx5 : Keeps ⟨H1, H2, H3, H4, false, H6, H7, false, H9, H10, H11, H12, H13, H14, H15⟩ s0 x5 := Keeps.ite (fun _ => State.endFaulted_keeps _ hx4) (fun _ => hx4)
  try clear_value x5
  exact Keeps.ite (fun _ => State.retireEngine_keeps _ hx5) (fun _ => hx5)

theorem State.assign_keeps (e : QEnt) (hk : Keeps ⟨H1, H2, H3, H4, false, H6, H7, false, H9, H10, H11, H12, H13, H14, H15⟩ s0 s) : Keeps ⟨H1, H2, H3, H4, false, H6, H7, false, H9, H10, H11, H12, H13, H14, H15⟩ s0 (State.assign s e) := by
  unfold State.assign
  refine Keeps.ite (fun _ => ?_) (fun _ => ?_)
  · exact State.descLost_keeps _ _ (State.stNote_keeps _ _ _ hk)
  · refine Keeps.ite (fun _ => ?_) (fun _ => ?_)
    · exact State.genDiscard_keeps _ hk
    · split
      · exact hk
      · exact State.taskStart_keeps _ _ hk

theorem State.resume_keeps (k : Engine) (hk : Keeps ⟨H1, H2, H3, H4, false, H6, H7, false, H9, H10, H11, H12, H13, H14, H15⟩ s0 s) : Keeps ⟨H1, H2, H3, H4, false, H6, H7, false, H9, H10, H11, H12, H13, H14, H15⟩ s0 (State.resume s k) := by
  unfold State.resume
  extract_lets -merge -underBinder +onlyGivenNames x0 x1 x2 x3
  have hx3 : Keeps ⟨H1, H2, H3, H4, false, H6, H7, false, H9, H10, H11, H12, H13, H14, H15⟩ s0 x3 := Keeps.mk' hk
  try clear_value x3
  exact Keeps.ite (fun _ => hk) (fun _ => Keeps.ite (fun _ => State.engFree_keeps _ (State.genDiscard_keeps _ hk)) (fun _ => State.modEng_keeps _ _ (State.setDescState_keeps _ _ hx3)))

theorem State.dispatch_keeps (testOk : Bool) (noStart : Bool) (hk : Keeps ⟨H1, H2, H3, H4, false, H6, H7, false, H9, H10, H11, H12, H13, H14, H15⟩ s0 s) : Keeps ⟨H1, H2, H3, H4, false, H6, H7, false, H9, H10, H11, H12, H13, H14, H15⟩ s0 (State.dispatch s testOk noStart) := by
  unfold State.dispatch
  extract_lets -merge -underBinder +onlyGivenNames x0 x1
  have hx1 : Keeps ⟨H1, H2, H3, H4, false, H6, H7, false, H9, H10, H11, H12, H13, H14, H15⟩ s0 x1 := Keeps.ite (fun _ => State.raise_keeps _ _ hk) (fun _ => State.raiseIf_keeps _ _ _ hk)
  try clear_value x1
  extract_lets -merge -underBinder +onlyGivenNames x2 x3
  have hx3 : Keeps ⟨H1, H2, H3, H4, false, H6, H7, false, H9, H10, H11, H12, H13, H14, H15⟩ s0 x3 := State.put_keeps _ _ _ hx1
  try clear_value x3
  extract_lets -merge -underBinder +onlyGivenNames x4 x5 x6 x7 x8 x9 x10 x11
  have hx11 : Keeps ⟨H1, H2, H3, H4, false, H6, H7, false, H9, H10, H11, H12, H13, H14, H15⟩ s0 x11 := State.put_keeps _ _ _ hx3
  try clear_value x11
  extract_lets -merge -underBinder +onlyGivenNames x12
  have hx12 : Keeps ⟨H1, H2, H3, H4, false, H6, H7, false, H9, H10, H11, H12, H13, H14, H15⟩ s0 x12 := by
    unfold x12
    refine foldl_keeps _ ?_ ?_
    · exact hx11
    · intro s13_0 s13_1 hs13_1
      extract_lets -merge -underBinder +onlyGivenNames x14 x15
      exact State.put_keeps _ _ _ (State.put_keeps _ _ _ hs13_1)
  try clear_value x12
  extract_lets -merge -underBinder +onlyGivenNames x16 x17 x18 x19 x20 x21
  have hx21 : Keeps ⟨H1, H2, H3, H4, false, H6, H7, false, H9, H10, H11, H12, H13, H14, H15⟩ s0 x21 := Keeps.mk' hx12
  try clear_value x21
  extract_lets -merge -underBinder +onlyGivenNames x22
  have hx22 : Keeps ⟨H1, H2, H3, H4, false, H6, H7, false, H9, H10, H11, H12, H13, H14, H15⟩ s0 x22 := State.forEngines_keeps (Keeps.ite (fun _ => State.engineFault_keeps _ _ _ hx21) (fun _ => hx21)) (fun _ _ h23 => State.resume_keeps _ h23)
  try clear_value x22
  exact Keeps.ite (fun _ => hx22) (fun _ => foldl_keeps _ hx22 (fun _ _ h24 => Keeps.ite (fun _ => State.assign_keeps _ h24) (fun _ => h24)))

theorem State.idleReassign_keeps (k : Engine) (left : ℕ) (hk : Keeps ⟨H1, H2, H3, H4, false, H6, H7, false, H9, H10, H11, H12, H13, H14, H15⟩ s0 s) : Keeps ⟨H1, H2, H3, H4, false, H6, H7, false, H9, H10, H11, H12, H13, H14, H15⟩ s0 (State.idleReassign s k left) := by
  unfold State.idleReassign
  extract_lets -merge -underBinder +onlyGivenNames x0
  exact foldl_keeps _ hk (fun _ _ h1 => Keeps.ite (fun _ => h1) (fun _ => Keeps.ite (fun _ => State.descLost_keeps _ _ (State.stNote_keeps _ _ _ h1)) (fun _ => Keeps.ite (fun _ => State.genDiscard_keeps _ h1) (fun _ => Keeps.ite (fun _ => h1) (fun _ => State.taskStart_keeps _ _ h1)))))

theorem State.overrun_keeps (k : Engine) (hk : Keeps ⟨H1, H2, H3, H4, false, H6, H7, false, H9, H10, H11, H12, H13, H14, H15⟩ s0 s) : Keeps ⟨H1, H2, H3, H4, false, H6, H7, false, H9, H10, H11, H12, H13, H14, H15⟩ s0 (State.overrun s k) := by
  unfold State.overrun
  extract_lets -merge -underBinder +onlyGivenNames x0
  have hx0 : Keeps ⟨H1, H2, H3, H4, false, H6, H7, false, H9, H10, H11, H12, H13, H14, H15⟩ s0 x0 := State.modEng_keeps _ _ (State.setDescState_keeps _ _ hk)
  try clear_value x0
  extract_lets -merge -underBinder +onlyGivenNames x1
  have hx1 : Keeps ⟨H1, H2, H3, H4, false, H6, H7, false, H9, H10, H11, H12, H13, H14, H15⟩ s0 x1 := State.raise_keeps _ _ (State.raise_keeps _ _ hx0)
  try clear_value x1
  extract_lets -merge -underBinder +onlyGivenNames x2
  have hx2 : Keeps ⟨H1, H2, H3, H4, false, H6, H7, false, H9, H10, H11, H12, H13, H14, H15⟩ s0 x2 := State.bump_keeps _ _ _ hx1
  try clear_value x2
  extract_lets -merge -underBinder +onlyGivenNames x3
  exact State.put_keeps _ _ _ (Keeps.mk' hx2)

theorem State.dropTasks_keeps (hk : Keeps ⟨H1, H2, H3, H4, false, H6, H7, H8, H9, H10, H11, H12, H13, H14, H15⟩ s0 s) : Keeps ⟨H1, H2, H3, H4, false, H6, H7, H8, H9, H10, H11, H12, H13, H14, H15⟩ s0 (State.dropTasks s) := by
  unfold State.dropTasks
  extract_lets -merge -underBinder +onlyGivenNames x0 x1
  have hx1 : Keeps ⟨H1, H2, H3, H4, false, H6, H7, H8, H9, H10, H11, H12, H13, H14, H15⟩ s0 x1 := Keeps.mk' hk
  try clear_value x1
  exact hx1.storeFilter _

theorem State.flashDone_keeps (result : ℕ) (hk : Keeps H s0 s) : Keeps H s0 (State.flashDone s result) := by
  unfold State.flashDone
  extract_lets -merge -underBinder +onlyGivenNames x0
  have hx0 : Keeps H s0 x0 := State.put_keeps _ _ _ (State.put_keeps _ _ _ hk)
  try clear_value x0
  exact State.raise_keeps _ _ (Keeps.mk' hx0)

theorem State.flashStart_keeps (op : FlashOp) (hk : Keeps H s0 s) : Keeps H s0 (State.flashStart s op) := by
  unfold State.flashStart
  extract_lets -merge -underBinder +onlyGivenNames x0 x1
  exact Keeps.ite (fun _ => State.put_keeps _ _ _ hk) (fun _ => Keeps.ite (fun _ => State.flashDone_keeps _ hk) (fun _ => Keeps.ite (fun _ => State.flashDone_keeps _ hk) (fun _ => Keeps.ite (fun _ => State.flashDone_keeps _ hk) (fun _ => State.put_keeps _ _ _ (State.put_keeps _ _ _ (Keeps.mk' hk))))))

theorem State.flashFinish_keeps (verifyOk : Bool) (hk : Keeps ⟨H1, false, H3, H4, H5, H6, H7, H8, H9, H10, H11, H12, H13, H14, H15⟩ s0 s) : Keeps ⟨H1, false, H3, H4, H5, H6, H7, H8, H9, H10, H11, H12, H13, H14, H15⟩ s0 (State.flashFinish s verifyOk) := by
  unfold State.flashFinish
  split
  · exact hk
  · exact State.flashDone_keeps _ (State.codeProgram_keeps _ _ hk)
  · exact State.flashDone_keeps _ (State.codeErase_keeps _ hk)

theorem State.nvdCommit_keeps (area : ℕ) (format : ℕ) (payload : List Byte) (hk : Keeps ⟨H1, false, H3, H4, H5, H6, H7, H8, H9, H10, H11, H12, H13, H14, H15⟩ s0 s) : Keeps ⟨H1, false, H3, H4, H5, H6, H7, H8, H9, H10, H11, H12, H13, H14, H15⟩ s0 (State.nvdCommit s area format payload) := by
  unfold State.nvdCommit
  extract_lets -merge -underBinder +onlyGivenNames x0 x1 x2
  have hx2 : Keeps ⟨H1, false, H3, H4, H5, H6, H7, H8, H9, H10, H11, H12, H13, H14, H15⟩ s0 x2 := State.nvdErasePage_keeps _ hk
  try clear_value x2
  exact hx2.nvdSet _ _

theorem State.nvdDone_keeps (result : ℕ) (hk : Keeps H s0 s) : Keeps H s0 (State.nvdDone s result) := by
  unfold State.nvdDone
  extract_lets -merge -underBinder +onlyGivenNames x0
  have hx0 : Keeps H s0 x0 := State.put_keeps _ _ _ (State.put_keeps _ _ _ hk)
  try clear_value x0
  exact State.raise_keeps _ _ (Keeps.mk' hx0)

theorem State.nvdStart_keeps (op : NvdOp) (hk : Keeps H s0 s) : Keeps H s0 (State.nvdStart s op) := by
  unfold State.nvdStart
  refine Keeps.ite (fun _ => ?_) (fun _ => ?_)
  · exact hk
  · split
    · exact Keeps.ite (fun _ => State.nvdDone_keeps _ hk) (fun _ => State.put_keeps _ _ _ (Keeps.mk' hk))
    · exact Keeps.ite (fun _ => State.nvdDone_keeps _ hk) (fun _ => Keeps.ite (fun _ => State.nvdDone_keeps _ hk) (fun _ => State.put_keeps _ _ _ (Keeps.mk' hk)))
    · extract_lets -merge -underBinder +onlyGivenNames x0
      exact Keeps.ite (fun _ => State.nvdDone_keeps _ hk) (fun _ => Keeps.ite (fun _ => State.nvdDone_keeps _ hk) (fun _ => Keeps.ite (fun _ => Keeps.ite (fun _ => State.put_keeps _ _ _ (Keeps.mk' hk)) (fun _ => State.nvdDone_keeps _ hk)) (fun _ => Keeps.ite (fun _ => State.put_keeps _ _ _ (Keeps.mk' hk)) (fun _ => State.nvdDone_keeps _ hk))))

theorem State.nvdFinish_keeps (verifyOk : Bool) (hk : Keeps ⟨H1, false, H3, H4, false, H6, H7, H8, H9, H10, H11, H12, H13, H14, H15⟩ s0 s) : Keeps ⟨H1, false, H3, H4, false, H6, H7, H8, H9, H10, H11, H12, H13, H14, H15⟩ s0 (State.nvdFinish s verifyOk) := by
  unfold State.nvdFinish
  extract_lets -merge -underBinder +onlyGivenNames x0
  split
  · exact hk
  · extract_lets -merge -underBinder +onlyGivenNames x1
    exact Keeps.ite (fun _ => State.nvdDone_keeps _ (State.nvdErasePage_keeps _ (State.stNote_keeps _ _ _ hk))) (fun _ => Keeps.ite (fun _ => State.nvdDone_keeps _ (State.nvdCommit_keeps _ _ _ hk)) (fun _ => State.nvdDone_keeps _ (State.nvdErasePage_keeps _ hk)))
  · split
    · exact State.nvdDone_keeps _ hk
    · exact State.nvdDone_keeps _ (State.put_keeps _ _ _ (State.stWrite_keeps _ _ hk))
  · exact State.nvdDone_keeps _ (State.nvdErasePage_keeps _ (State.nvdErasePage_keeps _ hk))

theorem State.eraseAbort_keeps (sector : ℕ) (hk : Keeps H s0 s) : Keeps H s0 (State.eraseAbort s sector) := by
  unfold State.eraseAbort
  extract_lets -merge -underBinder +onlyGivenNames x0
  have hx0 : Keeps H s0 x0 := State.put_keeps _ _ _ (State.put_keeps _ _ _ hk)
  try clear_value x0
  exact State.raise_keeps _ _ (State.raise_keeps _ _ hx0)

theorem State.nvInhibit_keeps (hk : Keeps ⟨H1, false, H3, H4, H5, H6, H7, H8, H9, H10, H11, H12, H13, H14, H15⟩ s0 s) : Keeps ⟨H1, false, H3, H4, H5, H6, H7, H8, H9, H10, H11, H12, H13, H14, H15⟩ s0 (State.nvInhibit s) := by
  unfold State.nvInhibit
  extract_lets -merge -underBinder +onlyGivenNames x0
  have hx0 : Keeps ⟨H1, false, H3, H4, H5, H6, H7, H8, H9, H10, H11, H12, H13, H14, H15⟩ s0 x0 := by
    unfold x0
    split
    · exact State.flashDone_keeps _ (State.eraseAbort_keeps _ hk)
    · exact hk
  try clear_value x0
  split
  · extract_lets -merge -underBinder +onlyGivenNames x1
    have hx1 : Keeps ⟨H1, false, H3, H4, H5, H6, H7, H8, H9, H10, H11, H12, H13, H14, H15⟩ s0 x1 := State.nvdErasePage_keeps _ hx0
    try clear_value x1
    exact State.nvdDone_keeps _ (State.raise_keeps _ _ (State.put_keeps _ _ _ hx1))
  · split
    · exact State.nvdDone_keeps _ hx0
    · exact hx0

theorem State.secretInhibit_keeps (hk : Keeps H s0 s) : Keeps H s0 (State.secretInhibit s) := by
  unfold State.secretInhibit
  exact Keeps.ite (fun _ => State.raise_keeps _ _ (State.put_keeps _ _ _ hk)) (fun _ => hk)

theorem State.otpDone_keeps (result : ℕ) (hk : Keeps H s0 s) : Keeps H s0 (State.otpDone s result) := by
  unfold State.otpDone
  extract_lets -merge -underBinder +onlyGivenNames x0
  have hx0 : Keeps H s0 x0 := State.put_keeps _ _ _ (State.put_keeps _ _ _ hk)
  try clear_value x0
  exact State.raise_keeps _ _ (Keeps.mk' hx0)

theorem State.otpProgram_keeps (hk : Keeps H s0 s) : Keeps H s0 (State.otpProgram s) := by
  unfold State.otpProgram
  extract_lets -merge -underBinder +onlyGivenNames x0
  exact Keeps.ite (fun _ => State.put_keeps _ _ _ hk) (fun _ => Keeps.ite (fun _ => State.otpDone_keeps _ hk) (fun _ => Keeps.ite (fun _ => State.otpDone_keeps _ hk) (fun _ => Keeps.ite (fun _ => State.otpDone_keeps _ hk) (fun _ => State.put_keeps _ _ _ (Keeps.mk' hk)))))

theorem State.otpLock_keeps (r : ℕ) (hk : Keeps H s0 s) : Keeps H s0 (State.otpLock s r) := by
  unfold State.otpLock
  exact Keeps.ite (fun _ => State.put_keeps _ _ _ hk) (fun _ => Keeps.ite (fun _ => State.otpDone_keeps _ hk) (fun _ => Keeps.ite (fun _ => State.otpDone_keeps _ hk) (fun _ => Keeps.ite (fun _ => State.otpDone_keeps _ hk) (fun _ => Keeps.ite (fun _ => State.otpDone_keeps _ hk) (fun _ => State.put_keeps _ _ _ (Keeps.mk' hk))))))

theorem State.otpFinish_keeps (weak : Word) (hk : Keeps ⟨H1, false, H3, H4, H5, H6, H7, H8, H9, H10, H11, H12, H13, H14, H15⟩ s0 s) : Keeps ⟨H1, false, H3, H4, H5, H6, H7, H8, H9, H10, H11, H12, H13, H14, H15⟩ s0 (State.otpFinish s weak) := by
  unfold State.otpFinish
  split
  · exact hk
  · exact State.otpDone_keeps _ (State.otpBlow_keeps _ _ _ hk)
  · extract_lets -merge -underBinder +onlyGivenNames x0
    exact State.otpDone_keeps _ (State.otpBlow_keeps _ _ _ hk)

theorem State.otpDrop_keeps (hk : Keeps ⟨H1, false, H3, H4, H5, H6, H7, H8, H9, H10, H11, H12, H13, H14, H15⟩ s0 s) : Keeps ⟨H1, false, H3, H4, H5, H6, H7, H8, H9, H10, H11, H12, H13, H14, H15⟩ s0 (State.otpDrop s) := by
  unfold State.otpDrop
  extract_lets -merge -underBinder +onlyGivenNames x0
  have hx0 : ∀ a0 a1, Keeps ⟨H1, false, H3, H4, H5, H6, H7, H8, H9, H10, H11, H12, H13, H14, H15⟩ s0 (x0 a0 a1) := by
    intro s1_0 s1_1
    unfold x0
    beta_reduce
    extract_lets -merge -underBinder +onlyGivenNames x2 x3 x4 x5
    exact State.freshen_keeps (State.freshen_keeps (State.otpBlow_keeps _ _ _ hk))
  try clear_value x0
  extract_lets -merge -underBinder +onlyGivenNames x6
  have hx6 : Keeps ⟨H1, false, H3, H4, H5, H6, H7, H8, H9, H10, H11, H12, H13, H14, H15⟩ s0 x6 := by
    unfold x6
    split
    · refine hx0 _ _
    · refine hx0 _ _
    · exact hk
  try clear_value x6
  exact Keeps.mk' hx6

theorem State.setMapBit_keeps (pg : ℕ) (f : Fld) (node : ℕ) (b : Bool) (hk : Keeps H s0 s) : Keeps H s0 (State.setMapBit s pg f node b) := by
  unfold State.setMapBit
  extract_lets -merge -underBinder +onlyGivenNames x0
  exact State.put_keeps _ _ _ hk

end Sys2Proof.Machine
end

