-- ==== Sys2Proof/Laws/KeepsPorts.lean ====
section
/-!
SUPPORT. `Keeps` over the operations of CC, PDL, POL and GUARD of the ports, sharing, the mux bridge: one lemma per operation.
-/

set_option Elab.async false

namespace Sys2Proof.Machine

variable {H : Hold} {H1 H2 H3 H4 H5 H6 H7 H8 H9 H10 H11 H12 H13 H14 H15 : Bool} {s0 s : State}

theorem State.modCc_keeps (n : Port) (f : CcSt → CcSt) (hk : Keeps ⟨H1, H2, H3, H4, H5, H6, H7, H8, H9, H10, H11, H12, H13, H14, false⟩ s0 s) : Keeps ⟨H1, H2, H3, H4, H5, H6, H7, H8, H9, H10, H11, H12, H13, H14, false⟩ s0 (State.modCc s n f) := by
  unfold State.modCc
  exact State.modPort_keeps _ _ hk

theorem State.modPdl_keeps (n : Port) (f : PdlSt → PdlSt) (hk : Keeps ⟨H1, H2, H3, H4, H5, H6, H7, H8, H9, H10, H11, H12, H13, H14, false⟩ s0 s) : Keeps ⟨H1, H2, H3, H4, H5, H6, H7, H8, H9, H10, H11, H12, H13, H14, false⟩ s0 (State.modPdl s n f) := by
  unfold State.modPdl
  exact State.modPort_keeps _ _ hk

theorem State.modPol_keeps (n : Port) (f : PolSt → PolSt) (hk : Keeps ⟨H1, H2, H3, H4, H5, H6, H7, H8, H9, H10, H11, H12, H13, H14, false⟩ s0 s) : Keeps ⟨H1, H2, H3, H4, H5, H6, H7, H8, H9, H10, H11, H12, H13, H14, false⟩ s0 (State.modPol s n f) := by
  unfold State.modPol
  exact State.modPort_keeps _ _ hk

theorem State.modGuard_keeps (n : Port) (f : GuardSt → GuardSt) (hk : Keeps ⟨H1, H2, H3, H4, H5, H6, H7, H8, H9, H10, H11, H12, H13, H14, false⟩ s0 s) : Keeps ⟨H1, H2, H3, H4, H5, H6, H7, H8, H9, H10, H11, H12, H13, H14, false⟩ s0 (State.modGuard s n f) := by
  unfold State.modGuard
  exact State.modPort_keeps _ _ hk

theorem State.modFw_keeps (n : Port) (f : FwSt → FwSt) (hk : Keeps ⟨H1, H2, H3, H4, H5, H6, H7, H8, H9, H10, H11, H12, H13, H14, false⟩ s0 s) : Keeps ⟨H1, H2, H3, H4, H5, H6, H7, H8, H9, H10, H11, H12, H13, H14, false⟩ s0 (State.modFw s n f) := by
  unfold State.modFw
  exact State.modPort_keeps _ _ hk

theorem State.genUp_keeps (n : Port) (hk : Keeps H s0 s) : Keeps H s0 (State.genUp s n) := by
  unfold State.genUp
  exact State.incr_keeps _ _ hk

theorem State.snapClear_keeps (n : Port) (hk : Keeps ⟨H1, H2, H3, false, H5, H6, H7, H8, H9, H10, H11, H12, H13, H14, false⟩ s0 s) : Keeps ⟨H1, H2, H3, false, H5, H6, H7, H8, H9, H10, H11, H12, H13, H14, false⟩ s0 (State.snapClear s n) := by
  unfold State.snapClear
  extract_lets -merge -underBinder +onlyGivenNames x0
  have hx0 : Keeps ⟨H1, H2, H3, false, H5, H6, H7, H8, H9, H10, H11, H12, H13, H14, false⟩ s0 x0 := State.aosPut_keeps _ _ _ hk
  try clear_value x0
  extract_lets -merge -underBinder +onlyGivenNames x1
  have hx1 : Keeps ⟨H1, H2, H3, false, H5, H6, H7, H8, H9, H10, H11, H12, H13, H14, false⟩ s0 x1 := State.put_keeps _ _ _ hx0
  try clear_value x1
  extract_lets -merge -underBinder +onlyGivenNames x2
  have hx2 : Keeps ⟨H1, H2, H3, false, H5, H6, H7, H8, H9, H10, H11, H12, H13, H14, false⟩ s0 x2 := State.put_keeps _ _ _ (State.put_keeps _ _ _ hx1)
  try clear_value x2
  exact State.modPol_keeps _ _ hx2

theorem State.polEvt_keeps (n : Port) (f : Fld) (hk : Keeps ⟨H1, H2, H3, H4, false, H6, H7, H8, H9, H10, H11, H12, H13, H14, H15⟩ s0 s) : Keeps ⟨H1, H2, H3, H4, false, H6, H7, H8, H9, H10, H11, H12, H13, H14, H15⟩ s0 (State.polEvt s n f) := by
  unfold State.polEvt
  extract_lets -merge -underBinder +onlyGivenNames x0
  have hx0 : Keeps ⟨H1, H2, H3, H4, false, H6, H7, H8, H9, H10, H11, H12, H13, H14, H15⟩ s0 x0 := State.raise_keeps _ _ hk
  try clear_value x0
  exact State.postKept_keeps _ _ _ _ _ hx0

theorem State.hrDone_keeps (n : Port) (hk : Keeps ⟨H1, H2, H3, H4, false, H6, H7, H8, H9, H10, H11, H12, H13, H14, H15⟩ s0 s) : Keeps ⟨H1, H2, H3, H4, false, H6, H7, H8, H9, H10, H11, H12, H13, H14, H15⟩ s0 (State.hrDone s n) := by
  unfold State.hrDone
  exact State.polEvt_keeps _ _ (State.put_keeps _ _ _ hk)

theorem State.setTarget_keeps (n : Port) (t : ℕ) (hk : Keeps ⟨H1, H2, H3, H4, H5, H6, H7, H8, H9, H10, H11, H12, H13, H14, false⟩ s0 s) : Keeps ⟨H1, H2, H3, H4, H5, H6, H7, H8, H9, H10, H11, H12, H13, H14, false⟩ s0 (State.setTarget s n t) := by
  unfold State.setTarget
  extract_lets -merge -underBinder +onlyGivenNames x0 x1
  have hx1 : Keeps ⟨H1, H2, H3, H4, H5, H6, H7, H8, H9, H10, H11, H12, H13, H14, false⟩ s0 x1 := State.modPol_keeps _ _ hk
  try clear_value x1
  extract_lets -merge -underBinder +onlyGivenNames x2 x3 x4 x5 x6 x7 x8
  have hx8 : Keeps ⟨H1, H2, H3, H4, H5, H6, H7, H8, H9, H10, H11, H12, H13, H14, false⟩ s0 x8 := State.raiseIf_keeps _ _ _ hx1
  try clear_value x8
  extract_lets -merge -underBinder +onlyGivenNames x9
  have hx9 : Keeps ⟨H1, H2, H3, H4, H5, H6, H7, H8, H9, H10, H11, H12, H13, H14, false⟩ s0 x9 := State.put_keeps _ _ _ (State.put_keeps _ _ _ hx8)
  try clear_value x9
  exact State.putB_keeps _ _ _ hx9

theorem State.cenLevel_keeps (n : Port) (auto : Bool) (hk : Keeps H s0 s) : Keeps H s0 (State.cenLevel s n auto) := by
  unfold State.cenLevel
  extract_lets -merge -underBinder +onlyGivenNames x0 x1
  exact State.putB_keeps _ _ _ hk

theorem State.cenOn_keeps (n : Port) (hk : Keeps ⟨H1, H2, H3, H4, H5, H6, H7, H8, H9, H10, H11, H12, H13, H14, false⟩ s0 s) : Keeps ⟨H1, H2, H3, H4, H5, H6, H7, H8, H9, H10, H11, H12, H13, H14, false⟩ s0 (State.cenOn s n) := by
  unfold State.cenOn
  exact State.cenLevel_keeps _ _ (State.modPol_keeps _ _ hk)

theorem State.dschOn_keeps (n : Port) (trip : Bool) (assist : Bool) (hk : Keeps ⟨H1, H2, H3, H4, H5, H6, H7, H8, H9, H10, H11, H12, H13, H14, false⟩ s0 s) : Keeps ⟨H1, H2, H3, H4, H5, H6, H7, H8, H9, H10, H11, H12, H13, H14, false⟩ s0 (State.dschOn s n trip assist) := by
  unfold State.dschOn
  extract_lets -merge -underBinder +onlyGivenNames x0 x1
  exact Keeps.ite (fun _ => hk) (fun _ => State.modGuard_keeps _ _ hk)

theorem State.dschOff_keeps (n : Port) (hk : Keeps ⟨H1, H2, H3, H4, H5, H6, H7, H8, H9, H10, H11, H12, H13, H14, false⟩ s0 s) : Keeps ⟨H1, H2, H3, H4, H5, H6, H7, H8, H9, H10, H11, H12, H13, H14, false⟩ s0 (State.dschOff s n) := by
  unfold State.dschOff
  extract_lets -merge -underBinder +onlyGivenNames x0
  have hx0 : Keeps ⟨H1, H2, H3, H4, H5, H6, H7, H8, H9, H10, H11, H12, H13, H14, false⟩ s0 x0 := State.put_keeps _ _ _ hk
  try clear_value x0
  exact State.modGuard_keeps _ _ hx0

theorem State.assistEnd_keeps (n : Port) (hk : Keeps ⟨H1, H2, H3, H4, H5, H6, H7, H8, H9, H10, H11, H12, H13, H14, false⟩ s0 s) : Keeps ⟨H1, H2, H3, H4, H5, H6, H7, H8, H9, H10, H11, H12, H13, H14, false⟩ s0 (State.assistEnd s n) := by
  unfold State.assistEnd
  extract_lets -merge -underBinder +onlyGivenNames x0
  have hx0 : Keeps ⟨H1, H2, H3, H4, H5, H6, H7, H8, H9, H10, H11, H12, H13, H14, false⟩ s0 x0 := State.put_keeps _ _ _ hk
  try clear_value x0
  exact Keeps.ite (fun _ => State.dschOff_keeps _ hx0) (fun _ => hx0)

theorem State.transAbandon_keeps (n : Port) (hk : Keeps ⟨H1, H2, H3, H4, false, H6, H7, H8, H9, H10, H11, H12, H13, H14, false⟩ s0 s) : Keeps ⟨H1, H2, H3, H4, false, H6, H7, H8, H9, H10, H11, H12, H13, H14, false⟩ s0 (State.transAbandon s n) := by
  unfold State.transAbandon
  extract_lets -merge -underBinder +onlyGivenNames x0
  have hx0 : Keeps ⟨H1, H2, H3, H4, false, H6, H7, H8, H9, H10, H11, H12, H13, H14, false⟩ s0 x0 := State.assistEnd_keeps _ (State.put_keeps _ _ _ hk)
  try clear_value x0
  extract_lets -merge -underBinder +onlyGivenNames x1
  have hx1 : Keeps ⟨H1, H2, H3, H4, false, H6, H7, H8, H9, H10, H11, H12, H13, H14, false⟩ s0 x1 := State.modGuard_keeps _ _ hx0
  try clear_value x1
  exact Keeps.ite (fun _ => State.polEvt_keeps _ _ hx1) (fun _ => hk)

theorem State.polQueue_keeps (n : Port) (c : PolCmd) (hk : Keeps ⟨H1, H2, H3, H4, H5, H6, H7, H8, H9, H10, H11, H12, H13, H14, false⟩ s0 s) : Keeps ⟨H1, H2, H3, H4, H5, H6, H7, H8, H9, H10, H11, H12, H13, H14, false⟩ s0 (State.polQueue s n c) := by
  unfold State.polQueue
  exact State.modPol_keeps _ _ hk

theorem State.vconnOff_keeps (n : Port) (hk : Keeps ⟨H1, H2, H3, H4, H5, H6, H7, H8, H9, H10, H11, H12, H13, H14, false⟩ s0 s) : Keeps ⟨H1, H2, H3, H4, H5, H6, H7, H8, H9, H10, H11, H12, H13, H14, false⟩ s0 (State.vconnOff s n) := by
  unfold State.vconnOff
  exact Keeps.ite (fun _ => State.modCc_keeps _ _ (State.put_keeps _ _ _ hk)) (fun _ => hk)

theorem State.hpdClear_keeps (n : Port) (hk : Keeps ⟨H1, H2, H3, H4, H5, H6, H7, H8, H9, H10, H11, H12, H13, H14, false⟩ s0 s) : Keeps ⟨H1, H2, H3, H4, H5, H6, H7, H8, H9, H10, H11, H12, H13, H14, false⟩ s0 (State.hpdClear s n) := by
  unfold State.hpdClear
  exact State.modPort_keeps _ _ (State.put_keeps _ _ _ hk)

theorem State.shareEvt_keeps (f : Fld) (hk : Keeps ⟨H1, H2, H3, H4, false, H6, H7, H8, H9, H10, H11, H12, H13, H14, H15⟩ s0 s) : Keeps ⟨H1, H2, H3, H4, false, H6, H7, H8, H9, H10, H11, H12, H13, H14, H15⟩ s0 (State.shareEvt s f) := by
  unfold State.shareEvt
  extract_lets -merge -underBinder +onlyGivenNames x0
  have hx0 : Keeps ⟨H1, H2, H3, H4, false, H6, H7, H8, H9, H10, H11, H12, H13, H14, H15⟩ s0 x0 := State.raise_keeps _ _ hk
  try clear_value x0
  exact State.postGlobal_keeps _ _ _ _ _ hx0

theorem State.modShare_keeps (n : Port) (f : ShareSt → ShareSt) (hk : Keeps ⟨H1, H2, H3, H4, H5, H6, H7, H8, H9, H10, H11, H12, H13, H14, false⟩ s0 s) : Keeps ⟨H1, H2, H3, H4, H5, H6, H7, H8, H9, H10, H11, H12, H13, H14, false⟩ s0 (State.modShare s n f) := by
  unfold State.modShare
  exact State.modPort_keeps _ _ hk

theorem State.shareRelease_keeps (drop : Bool) (hk : Keeps ⟨H1, H2, H3, H4, false, H6, H7, H8, H9, H10, H11, H12, H13, H14, H15⟩ s0 s) : Keeps ⟨H1, H2, H3, H4, false, H6, H7, H8, H9, H10, H11, H12, H13, H14, H15⟩ s0 (State.shareRelease s drop) := by
  unfold State.shareRelease
  extract_lets -merge -underBinder +onlyGivenNames x0
  have hx0 : Keeps ⟨H1, H2, H3, H4, false, H6, H7, H8, H9, H10, H11, H12, H13, H14, H15⟩ s0 x0 := State.put_keeps _ _ _ hk
  try clear_value x0
  extract_lets -merge -underBinder +onlyGivenNames x1
  have hx1 : Keeps ⟨H1, H2, H3, H4, false, H6, H7, H8, H9, H10, H11, H12, H13, H14, H15⟩ s0 x1 := by
    unfold x1
    refine State.forPorts_keeps ?_ ?_
    · exact hx0
    · intro s2_0 s2_1 hs2_1
      extract_lets -merge -underBinder +onlyGivenNames x3 x4
      have hx4 : Keeps ⟨H1, H2, H3, H4, false, H6, H7, H8, H9, H10, H11, H12, H13, H14, H15⟩ s0 x4 := State.put_keeps _ _ _ (State.put_keeps _ _ _ hs2_1)
      try clear_value x4
      exact Keeps.ite (fun _ => State.put_keeps _ _ _ (State.put_keeps _ _ _ hx4)) (fun _ => hs2_1)
  try clear_value x1
  extract_lets -merge -underBinder +onlyGivenNames x5 x6
  have hx6 : Keeps ⟨H1, H2, H3, H4, false, H6, H7, H8, H9, H10, H11, H12, H13, H14, H15⟩ s0 x6 := Keeps.mk' hx1
  try clear_value x6
  extract_lets -merge -underBinder +onlyGivenNames x7
  have hx7 : Keeps ⟨H1, H2, H3, H4, false, H6, H7, H8, H9, H10, H11, H12, H13, H14, H15⟩ s0 x7 := State.shareEvt_keeps _ hx6
  try clear_value x7
  exact Keeps.ite (fun _ => State.shareEvt_keeps _ hx7) (fun _ => hx7)

theorem State.shareLeave_keeps (n : Port) (hk : Keeps ⟨H1, H2, H3, H4, false, H6, H7, H8, H9, H10, H11, H12, H13, H14, false⟩ s0 s) : Keeps ⟨H1, H2, H3, H4, false, H6, H7, H8, H9, H10, H11, H12, H13, H14, false⟩ s0 (State.shareLeave s n) := by
  unfold State.shareLeave
  extract_lets -merge -underBinder +onlyGivenNames x0
  have hx0 : Keeps ⟨H1, H2, H3, H4, false, H6, H7, H8, H9, H10, H11, H12, H13, H14, false⟩ s0 x0 := State.put_keeps _ _ _ (State.put_keeps _ _ _ hk)
  try clear_value x0
  exact Keeps.ite (fun _ => State.shareRelease_keeps _ (State.modShare_keeps _ _ hx0)) (fun _ => hk)

theorem State.trimReject_keeps (n : Port) (hk : Keeps H s0 s) : Keeps H s0 (State.trimReject s n) := by
  unfold State.trimReject
  extract_lets -merge -underBinder +onlyGivenNames x0
  exact Keeps.ite (fun _ => State.put_keeps _ _ _ (State.put_keeps _ _ _ hk)) (fun _ => hk)

theorem State.msgidPut_keeps (n : Port) (lo : ℕ) (w : ℕ) (v : ℕ) (hk : Keeps H s0 s) : Keeps H s0 (State.msgidPut s n lo w v) := by
  unfold State.msgidPut
  exact State.put_keeps _ _ _ hk

theorem State.txCtrUp_keeps (n : Port) (k : ℕ) (hk : Keeps H s0 s) : Keeps H s0 (State.txCtrUp s n k) := by
  unfold State.txCtrUp
  exact State.msgidPut_keeps _ _ _ _ hk

theorem State.sopReset_keeps (n : Port) (k : ℕ) (hk : Keeps H s0 s) : Keeps H s0 (State.sopReset s n k) := by
  unfold State.sopReset
  exact State.msgidPut_keeps _ _ _ _ (State.msgidPut_keeps _ _ _ _ hk)

theorem State.txWrite_keeps (n : Port) (i : ℕ) (status : ℕ) (hk : Keeps ⟨H1, H2, H3, H4, false, H6, H7, H8, H9, H10, H11, H12, H13, H14, H15⟩ s0 s) : Keeps ⟨H1, H2, H3, H4, false, H6, H7, H8, H9, H10, H11, H12, H13, H14, H15⟩ s0 (State.txWrite s n i status) := by
  unfold State.txWrite
  extract_lets -merge -underBinder +onlyGivenNames x0 x1 x2 x3
  have hx3 : Keeps ⟨H1, H2, H3, H4, false, H6, H7, H8, H9, H10, H11, H12, H13, H14, H15⟩ s0 x3 := by
    unfold x3
    split
    · exact Keeps.ite (fun _ => State.stPut_keeps _ _ _ hk) (fun _ => hk)
    · exact hk
  try clear_value x3
  extract_lets -merge -underBinder +onlyGivenNames x4
  have hx4 : Keeps ⟨H1, H2, H3, H4, false, H6, H7, H8, H9, H10, H11, H12, H13, H14, H15⟩ s0 x4 := State.stPut_keeps _ _ _ (State.stPut_keeps _ _ _ (State.stPut_keeps _ _ _ hx3))
  try clear_value x4
  extract_lets -merge -underBinder +onlyGivenNames x5
  have hx5 : Keeps ⟨H1, H2, H3, H4, false, H6, H7, H8, H9, H10, H11, H12, H13, H14, H15⟩ s0 x5 := State.stPut_keeps _ _ _ hx4
  try clear_value x5
  exact State.stPut_keeps _ _ _ hx5

theorem State.txPop_keeps (n : Port) (i : ℕ) (hk : Keeps ⟨H1, H2, H3, H4, H5, H6, H7, H8, H9, H10, H11, H12, H13, H14, false⟩ s0 s) : Keeps ⟨H1, H2, H3, H4, H5, H6, H7, H8, H9, H10, H11, H12, H13, H14, false⟩ s0 (State.txPop s n i) := by
  unfold State.txPop
  exact State.modPdl_keeps _ _ hk

theorem State.hostDone_keeps (n : Port) (status : ℕ) (hk : Keeps H s0 s) : Keeps H s0 (State.hostDone s n status) := by
  unfold State.hostDone
  extract_lets -merge -underBinder +onlyGivenNames x0
  have hx0 : Keeps H s0 x0 := State.put_keeps _ _ _ (State.put_keeps _ _ _ hk)
  try clear_value x0
  exact State.raise_keeps _ _ hx0

theorem State.txEnd_keeps (n : Port) (i : ℕ) (status : ℕ) (hk : Keeps ⟨H1, H2, H3, H4, false, H6, H7, H8, H9, H10, H11, H12, H13, H14, false⟩ s0 s) : Keeps ⟨H1, H2, H3, H4, false, H6, H7, H8, H9, H10, H11, H12, H13, H14, false⟩ s0 (State.txEnd s n i status) := by
  unfold State.txEnd
  extract_lets -merge -underBinder +onlyGivenNames x0 x1 x2
  have hx2 : Keeps ⟨H1, H2, H3, H4, false, H6, H7, H8, H9, H10, H11, H12, H13, H14, false⟩ s0 x2 := Keeps.ite (fun _ => State.txCtrUp_keeps _ _ hk) (fun _ => hk)
  try clear_value x2
  extract_lets -merge -underBinder +onlyGivenNames x3
  have hx3 : Keeps ⟨H1, H2, H3, H4, false, H6, H7, H8, H9, H10, H11, H12, H13, H14, false⟩ s0 x3 := State.txPop_keeps _ _ (State.txWrite_keeps _ _ _ hx2)
  try clear_value x3
  extract_lets -merge -underBinder +onlyGivenNames x4
  have hx4 : Keeps ⟨H1, H2, H3, H4, false, H6, H7, H8, H9, H10, H11, H12, H13, H14, false⟩ s0 x4 := Keeps.ite (fun _ => State.modFw_keeps _ _ (State.hostDone_keeps _ _ hx3)) (fun _ => hx3)
  try clear_value x4
  extract_lets -merge -underBinder +onlyGivenNames x5
  have hx5 : Keeps ⟨H1, H2, H3, H4, false, H6, H7, H8, H9, H10, H11, H12, H13, H14, false⟩ s0 x5 := State.modFw_keeps _ _ hx4
  try clear_value x5
  extract_lets -merge -underBinder +onlyGivenNames x6
  have hx6 : Keeps ⟨H1, H2, H3, H4, false, H6, H7, H8, H9, H10, H11, H12, H13, H14, false⟩ s0 x6 := State.put_keeps _ _ _ (State.put_keeps _ _ _ hx5)
  try clear_value x6
  extract_lets -merge -underBinder +onlyGivenNames x7
  have hx7 : Keeps ⟨H1, H2, H3, H4, false, H6, H7, H8, H9, H10, H11, H12, H13, H14, false⟩ s0 x7 := by
    unfold x7
    split
    · exact State.bump_keeps _ _ _ (State.raise_keeps _ _ hx6)
    · exact State.bump_keeps _ _ _ (State.raise_keeps _ _ hx6)
    · exact State.bump_keeps _ _ _ (State.raise_keeps _ _ hx6)
    · exact State.bump_keeps _ _ _ (State.raise_keeps _ _ hx6)
    · exact State.bump_keeps _ _ _ (State.raise_keeps _ _ hx6)
    · exact State.raise_keeps _ _ hx6
  try clear_value x7
  extract_lets -merge -underBinder +onlyGivenNames x8
  have hx8 : Keeps ⟨H1, H2, H3, H4, false, H6, H7, H8, H9, H10, H11, H12, H13, H14, false⟩ s0 x8 := State.postPort_keeps _ _ _ _ _ hx7
  try clear_value x8
  exact Keeps.ite (fun _ => State.postPort_keeps _ _ _ _ _ hx8) (fun _ => hx8)

theorem State.txEndAll_keeps (n : Port) (pick : State → ℕ → Bool) (status : ℕ) (hk : Keeps ⟨H1, H2, H3, H4, false, H6, H7, H8, H9, H10, H11, H12, H13, H14, false⟩ s0 s) : Keeps ⟨H1, H2, H3, H4, false, H6, H7, H8, H9, H10, H11, H12, H13, H14, false⟩ s0 (State.txEndAll s n pick status) := by
  unfold State.txEndAll
  exact foldl_keeps _ hk (fun _ _ h0 => Keeps.ite (fun _ => State.txEnd_keeps _ _ _ h0) (fun _ => h0))

theorem State.reasmDrop_keeps (n : Port) (hk : Keeps ⟨H1, H2, H3, H4, H5, H6, H7, H8, H9, H10, H11, H12, H13, H14, false⟩ s0 s) : Keeps ⟨H1, H2, H3, H4, H5, H6, H7, H8, H9, H10, H11, H12, H13, H14, false⟩ s0 (State.reasmDrop s n) := by
  unfold State.reasmDrop
  extract_lets -merge -underBinder +onlyGivenNames x0
  have hx0 : Keeps ⟨H1, H2, H3, H4, H5, H6, H7, H8, H9, H10, H11, H12, H13, H14, false⟩ s0 x0 := foldl_keeps _ hk (fun _ _ h1 => State.put_keeps _ _ _ h1)
  try clear_value x0
  exact State.modPdl_keeps _ _ hx0

theorem State.setVbus_keeps (n : Port) (mv : ℕ) (hk : Keeps ⟨H1, H2, H3, H4, H5, H6, H7, H8, H9, H10, H11, H12, H13, H14, false⟩ s0 s) : Keeps ⟨H1, H2, H3, H4, H5, H6, H7, H8, H9, H10, H11, H12, H13, H14, false⟩ s0 (State.setVbus s n mv) := by
  unfold State.setVbus
  exact State.modPort_keeps _ _ hk

theorem State.pdlCleanup_keeps (n : Port) (hk : Keeps ⟨H1, H2, H3, H4, false, H6, H7, H8, H9, H10, H11, H12, H13, H14, false⟩ s0 s) : Keeps ⟨H1, H2, H3, H4, false, H6, H7, H8, H9, H10, H11, H12, H13, H14, false⟩ s0 (State.pdlCleanup s n) := by
  unfold State.pdlCleanup
  extract_lets -merge -underBinder +onlyGivenNames x0
  have hx0 : Keeps ⟨H1, H2, H3, H4, false, H6, H7, H8, H9, H10, H11, H12, H13, H14, false⟩ s0 x0 := State.txEndAll_keeps _ _ _ hk
  try clear_value x0
  extract_lets -merge -underBinder +onlyGivenNames x1
  have hx1 : Keeps ⟨H1, H2, H3, H4, false, H6, H7, H8, H9, H10, H11, H12, H13, H14, false⟩ s0 x1 := State.reasmDrop_keeps _ hx0
  try clear_value x1
  extract_lets -merge -underBinder +onlyGivenNames x2
  have hx2 : Keeps ⟨H1, H2, H3, H4, false, H6, H7, H8, H9, H10, H11, H12, H13, H14, false⟩ s0 x2 := State.put_keeps _ _ _ (State.wr_keeps _ _ _ hx1)
  try clear_value x2
  exact State.modPdl_keeps _ _ hx2

theorem State.guardTo_keeps (n : Port) (st : ℕ) (hk : Keeps ⟨H1, H2, H3, H4, H5, H6, H7, H8, H9, H10, H11, H12, H13, H14, false⟩ s0 s) : Keeps ⟨H1, H2, H3, H4, H5, H6, H7, H8, H9, H10, H11, H12, H13, H14, false⟩ s0 (State.guardTo s n st) := by
  unfold State.guardTo
  extract_lets -merge -underBinder +onlyGivenNames x0 x1
  have hx1 : Keeps ⟨H1, H2, H3, H4, H5, H6, H7, H8, H9, H10, H11, H12, H13, H14, false⟩ s0 x1 := State.put_keeps _ _ _ (State.put_keeps _ _ _ hk)
  try clear_value x1
  extract_lets -merge -underBinder +onlyGivenNames x2
  have hx2 : Keeps ⟨H1, H2, H3, H4, H5, H6, H7, H8, H9, H10, H11, H12, H13, H14, false⟩ s0 x2 := State.put_keeps _ _ _ hx1
  try clear_value x2
  extract_lets -merge -underBinder +onlyGivenNames x3
  have hx3 : Keeps ⟨H1, H2, H3, H4, H5, H6, H7, H8, H9, H10, H11, H12, H13, H14, false⟩ s0 x3 := Keeps.ite (fun _ => hx2) (fun _ => State.put_keeps _ _ _ hx2)
  try clear_value x3
  extract_lets -merge -underBinder +onlyGivenNames x4
  have hx4 : Keeps ⟨H1, H2, H3, H4, H5, H6, H7, H8, H9, H10, H11, H12, H13, H14, false⟩ s0 x4 := Keeps.ite (fun _ => hx3) (fun _ => State.put_keeps _ _ _ hx3)
  try clear_value x4
  exact State.modGuard_keeps _ _ hx4

theorem State.guardOff_keeps (n : Port) (hk : Keeps ⟨H1, H2, H3, H4, H5, H6, H7, H8, H9, H10, H11, H12, H13, H14, false⟩ s0 s) : Keeps ⟨H1, H2, H3, H4, H5, H6, H7, H8, H9, H10, H11, H12, H13, H14, false⟩ s0 (State.guardOff s n) := by
  unfold State.guardOff
  extract_lets -merge -underBinder +onlyGivenNames x0
  exact Keeps.ite (fun _ => State.guardTo_keeps _ _ hk) (fun _ => hk)

theorem State.guardEvt_keeps (n : Port) (f : Fld) (hk : Keeps ⟨H1, H2, H3, H4, false, H6, H7, H8, H9, H10, H11, H12, H13, H14, H15⟩ s0 s) : Keeps ⟨H1, H2, H3, H4, false, H6, H7, H8, H9, H10, H11, H12, H13, H14, H15⟩ s0 (State.guardEvt s n f) := by
  unfold State.guardEvt
  extract_lets -merge -underBinder +onlyGivenNames x0
  have hx0 : Keeps ⟨H1, H2, H3, H4, false, H6, H7, H8, H9, H10, H11, H12, H13, H14, H15⟩ s0 x0 := State.raise_keeps _ _ hk
  try clear_value x0
  exact State.postKept_keeps _ _ _ _ _ hx0

theorem State.setWin_keeps (n : Port) (w : ℕ × ℕ) (held : Bool) (hk : Keeps ⟨H1, H2, H3, H4, H5, H6, H7, H8, H9, H10, H11, H12, H13, H14, false⟩ s0 s) : Keeps ⟨H1, H2, H3, H4, H5, H6, H7, H8, H9, H10, H11, H12, H13, H14, false⟩ s0 (State.setWin s n w held) := by
  unfold State.setWin
  exact State.modPol_keeps _ _ hk

theorem State.fwGeneration_keeps (n : Port) (status : ℕ) (hk : Keeps ⟨H1, H2, H3, H4, H5, H6, H7, H8, H9, H10, H11, H12, H13, H14, false⟩ s0 s) : Keeps ⟨H1, H2, H3, H4, H5, H6, H7, H8, H9, H10, H11, H12, H13, H14, false⟩ s0 (State.fwGeneration s n status) := by
  unfold State.fwGeneration
  extract_lets -merge -underBinder +onlyGivenNames x0
  have hx0 : Keeps ⟨H1, H2, H3, H4, H5, H6, H7, H8, H9, H10, H11, H12, H13, H14, false⟩ s0 x0 := Keeps.ite (fun _ => State.hostDone_keeps _ _ hk) (fun _ => hk)
  try clear_value x0
  extract_lets -merge -underBinder +onlyGivenNames x1 x2
  have hx2 : Keeps ⟨H1, H2, H3, H4, H5, H6, H7, H8, H9, H10, H11, H12, H13, H14, false⟩ s0 x2 := Keeps.ite (fun _ => State.put_keeps _ _ _ (State.put_keeps _ _ _ (State.put_keeps _ _ _ hx0))) (fun _ => hx0)
  try clear_value x2
  exact State.modFw_keeps _ _ hx2

theorem State.detach_keeps (n : Port) (asSource : Bool) (hk : Keeps ⟨H1, H2, H3, false, false, H6, H7, H8, H9, H10, H11, false, H13, H14, false⟩ s0 s) : Keeps ⟨H1, H2, H3, false, false, H6, H7, H8, H9, H10, H11, false, H13, H14, false⟩ s0 (State.detach s n asSource) := by
  unfold State.detach
  extract_lets -merge -underBinder +onlyGivenNames x0
  have hx0 : Keeps ⟨H1, H2, H3, false, false, H6, H7, H8, H9, H10, H11, false, H13, H14, false⟩ s0 x0 := State.raise_keeps _ _ (State.genUp_keeps _ hk)
  try clear_value x0
  extract_lets -merge -underBinder +onlyGivenNames x1
  have hx1 : Keeps ⟨H1, H2, H3, false, false, H6, H7, H8, H9, H10, H11, false, H13, H14, false⟩ s0 x1 := State.modCc_keeps _ _ hx0
  try clear_value x1
  extract_lets -merge -underBinder +onlyGivenNames x2
  have hx2 : Keeps ⟨H1, H2, H3, false, false, H6, H7, H8, H9, H10, H11, false, H13, H14, false⟩ s0 x2 := State.pdlCleanup_keeps _ hx1
  try clear_value x2
  extract_lets -merge -underBinder +onlyGivenNames x3
  have hx3 : Keeps ⟨H1, H2, H3, false, false, H6, H7, H8, H9, H10, H11, false, H13, H14, false⟩ s0 x3 := State.put_keeps _ _ _ (State.snapClear_keeps _ hx2)
  try clear_value x3
  extract_lets -merge -underBinder +onlyGivenNames x4
  have hx4 : Keeps ⟨H1, H2, H3, false, false, H6, H7, H8, H9, H10, H11, false, H13, H14, false⟩ s0 x4 := State.transAbandon_keeps _ hx3
  try clear_value x4
  extract_lets -merge -underBinder +onlyGivenNames x5
  have hx5 : Keeps ⟨H1, H2, H3, false, false, H6, H7, H8, H9, H10, H11, false, H13, H14, false⟩ s0 x5 := State.put_keeps _ _ _ (State.put_keeps _ _ _ hx4)
  try clear_value x5
  extract_lets -merge -underBinder +onlyGivenNames x6
  have hx6 : Keeps ⟨H1, H2, H3, false, false, H6, H7, H8, H9, H10, H11, false, H13, H14, false⟩ s0 x6 := State.modPol_keeps _ _ (State.put_keeps _ _ _ (State.setTarget_keeps _ _ hx5))
  try clear_value x6
  extract_lets -merge -underBinder +onlyGivenNames x7
  have hx7 : Keeps ⟨H1, H2, H3, false, false, H6, H7, H8, H9, H10, H11, false, H13, H14, false⟩ s0 x7 := State.put_keeps _ _ _ (State.guardOff_keeps _ hx6)
  try clear_value x7
  extract_lets -merge -underBinder +onlyGivenNames x8
  have hx8 : Keeps ⟨H1, H2, H3, false, false, H6, H7, H8, H9, H10, H11, false, H13, H14, false⟩ s0 x8 := State.setWin_keeps _ _ _ hx7
  try clear_value x8
  extract_lets -merge -underBinder +onlyGivenNames x9
  have hx9 : Keeps ⟨H1, H2, H3, false, false, H6, H7, H8, H9, H10, H11, false, H13, H14, false⟩ s0 x9 := State.hpdClear_keeps _ (State.vconnOff_keeps _ hx8)
  try clear_value x9
  extract_lets -merge -underBinder +onlyGivenNames x10
  have hx10 : Keeps ⟨H1, H2, H3, false, false, H6, H7, H8, H9, H10, H11, false, H13, H14, false⟩ s0 x10 := State.shareLeave_keeps _ hx9
  try clear_value x10
  extract_lets -merge -underBinder +onlyGivenNames x11
  have hx11 : Keeps ⟨H1, H2, H3, false, false, H6, H7, H8, H9, H10, H11, false, H13, H14, false⟩ s0 x11 := State.put_keeps _ _ _ (State.put_keeps _ _ _ hx10)
  try clear_value x11
  extract_lets -merge -underBinder +onlyGivenNames x12
  have hx12 : Keeps ⟨H1, H2, H3, false, false, H6, H7, H8, H9, H10, H11, false, H13, H14, false⟩ s0 x12 := State.modFw_keeps _ _ (State.fwGeneration_keeps _ _ hx11)
  try clear_value x12
  extract_lets -merge -underBinder +onlyGivenNames x13 x14
  have hx14 : Keeps ⟨H1, H2, H3, false, false, H6, H7, H8, H9, H10, H11, false, H13, H14, false⟩ s0 x14 := Keeps.ite (fun _ => Keeps.mk' hx12) (fun _ => hx12)
  try clear_value x14
  exact Keeps.ite (fun _ => State.modGuard_keeps _ _ hx14) (fun _ => hx14)

theorem State.attachActions_keeps (n : Port) (st : CcState) (hk : Keeps ⟨H1, H2, H3, H4, H5, H6, H7, H8, H9, H10, H11, H12, H13, H14, false⟩ s0 s) : Keeps ⟨H1, H2, H3, H4, H5, H6, H7, H8, H9, H10, H11, H12, H13, H14, false⟩ s0 (State.attachActions s n st) := by
  unfold State.attachActions
  split
  · extract_lets -merge -underBinder +onlyGivenNames x0
    have hx0 : Keeps ⟨H1, H2, H3, H4, H5, H6, H7, H8, H9, H10, H11, H12, H13, H14, false⟩ s0 x0 := State.put_keeps _ _ _ (State.put_keeps _ _ _ hk)
    try clear_value x0
    exact State.cenOn_keeps _ (State.setWin_keeps _ _ _ hx0)
  · extract_lets -merge -underBinder +onlyGivenNames x1
    have hx1 : Keeps ⟨H1, H2, H3, H4, H5, H6, H7, H8, H9, H10, H11, H12, H13, H14, false⟩ s0 x1 := State.put_keeps _ _ _ (State.put_keeps _ _ _ hk)
    try clear_value x1
    extract_lets -merge -underBinder +onlyGivenNames x2
    have hx2 : Keeps ⟨H1, H2, H3, H4, H5, H6, H7, H8, H9, H10, H11, H12, H13, H14, false⟩ s0 x2 := State.setWin_keeps _ _ _ hx1
    try clear_value x2
    exact Keeps.ite (fun _ => State.put_keeps _ _ _ hx2) (fun _ => hx2)
  · exact hk

theorem State.hardReset_keeps (n : Port) (sent : Bool) (hk : Keeps ⟨H1, H2, H3, false, false, H6, H7, H8, H9, H10, H11, H12, H13, H14, false⟩ s0 s) : Keeps ⟨H1, H2, H3, false, false, H6, H7, H8, H9, H10, H11, H12, H13, H14, false⟩ s0 (State.hardReset s n sent) := by
  unfold State.hardReset
  extract_lets -merge -underBinder +onlyGivenNames x0 x1 x2 x3
  have hx3 : Keeps ⟨H1, H2, H3, false, false, H6, H7, H8, H9, H10, H11, H12, H13, H14, false⟩ s0 x3 := State.genUp_keeps _ hk
  try clear_value x3
  extract_lets -merge -underBinder +onlyGivenNames x4
  have hx4 : Keeps ⟨H1, H2, H3, false, false, H6, H7, H8, H9, H10, H11, H12, H13, H14, false⟩ s0 x4 := State.reasmDrop_keeps _ (State.txEndAll_keeps _ _ _ hx3)
  try clear_value x4
  extract_lets -merge -underBinder +onlyGivenNames x5
  have hx5 : Keeps ⟨H1, H2, H3, false, false, H6, H7, H8, H9, H10, H11, H12, H13, H14, false⟩ s0 x5 := State.put_keeps _ _ _ (State.wr_keeps _ _ _ hx4)
  try clear_value x5
  extract_lets -merge -underBinder +onlyGivenNames x6
  have hx6 : Keeps ⟨H1, H2, H3, false, false, H6, H7, H8, H9, H10, H11, H12, H13, H14, false⟩ s0 x6 := State.modPdl_keeps _ _ hx5
  try clear_value x6
  extract_lets -merge -underBinder +onlyGivenNames x7
  have hx7 : Keeps ⟨H1, H2, H3, false, false, H6, H7, H8, H9, H10, H11, H12, H13, H14, false⟩ s0 x7 := State.putB_keeps _ _ _ hx6
  try clear_value x7
  extract_lets -merge -underBinder +onlyGivenNames x8
  have hx8 : Keeps ⟨H1, H2, H3, false, false, H6, H7, H8, H9, H10, H11, H12, H13, H14, false⟩ s0 x8 := State.raise_keeps _ _ hx7
  try clear_value x8
  extract_lets -merge -underBinder +onlyGivenNames x9
  have hx9 : Keeps ⟨H1, H2, H3, false, false, H6, H7, H8, H9, H10, H11, H12, H13, H14, false⟩ s0 x9 := Keeps.ite (fun _ => State.raise_keeps _ _ hx8) (fun _ => hx8)
  try clear_value x9
  extract_lets -merge -underBinder +onlyGivenNames x10
  have hx10 : Keeps ⟨H1, H2, H3, false, false, H6, H7, H8, H9, H10, H11, H12, H13, H14, false⟩ s0 x10 := State.postPort_keeps _ _ _ _ _ hx9
  try clear_value x10
  extract_lets -merge -underBinder +onlyGivenNames x11
  have hx11 : Keeps ⟨H1, H2, H3, false, false, H6, H7, H8, H9, H10, H11, H12, H13, H14, false⟩ s0 x11 := State.transAbandon_keeps _ (State.snapClear_keeps _ hx10)
  try clear_value x11
  extract_lets -merge -underBinder +onlyGivenNames x12
  have hx12 : Keeps ⟨H1, H2, H3, false, false, H6, H7, H8, H9, H10, H11, H12, H13, H14, false⟩ s0 x12 := State.hpdClear_keeps _ hx11
  try clear_value x12
  extract_lets -merge -underBinder +onlyGivenNames x13
  have hx13 : Keeps ⟨H1, H2, H3, false, false, H6, H7, H8, H9, H10, H11, H12, H13, H14, false⟩ s0 x13 := State.shareLeave_keeps _ hx12
  try clear_value x13
  extract_lets -merge -underBinder +onlyGivenNames x14
  have hx14 : Keeps ⟨H1, H2, H3, false, false, H6, H7, H8, H9, H10, H11, H12, H13, H14, false⟩ s0 x14 := State.modCc_keeps _ _ hx13
  try clear_value x14
  extract_lets -merge -underBinder +onlyGivenNames x15
  have hx15 : Keeps ⟨H1, H2, H3, false, false, H6, H7, H8, H9, H10, H11, H12, H13, H14, false⟩ s0 x15 := State.put_keeps _ _ _ hx14
  try clear_value x15
  extract_lets -merge -underBinder +onlyGivenNames x16
  have hx16 : Keeps ⟨H1, H2, H3, false, false, H6, H7, H8, H9, H10, H11, H12, H13, H14, false⟩ s0 x16 := State.fwGeneration_keeps _ _ hx15
  try clear_value x16
  extract_lets -merge -underBinder +onlyGivenNames x17 x18
  have hx18 : Keeps ⟨H1, H2, H3, false, false, H6, H7, H8, H9, H10, H11, H12, H13, H14, false⟩ s0 x18 := Keeps.ite (fun _ => State.bump_keeps _ _ _ hx16) (fun _ => hx16)
  try clear_value x18
  extract_lets -merge -underBinder +onlyGivenNames x19
  have hx19 : Keeps ⟨H1, H2, H3, false, false, H6, H7, H8, H9, H10, H11, H12, H13, H14, false⟩ s0 x19 := State.put_keeps _ _ _ hx18
  try clear_value x19
  exact Keeps.ite (fun _ => Keeps.ite (fun _ => State.modPol_keeps _ _ (State.bump_keeps _ _ _ (State.put_keeps _ _ _ hx16))) (fun _ => hx16)) (fun _ => State.modCc_keeps _ _ hx19)

theorem State.hardResetStart_keeps (n : Port) (hk : Keeps ⟨H1, H2, H3, H4, false, H6, H7, H8, H9, H10, H11, H12, H13, H14, false⟩ s0 s) : Keeps ⟨H1, H2, H3, H4, false, H6, H7, H8, H9, H10, H11, H12, H13, H14, false⟩ s0 (State.hardResetStart s n) := by
  unfold State.hardResetStart
  extract_lets -merge -underBinder +onlyGivenNames x0
  have hx0 : Keeps ⟨H1, H2, H3, H4, false, H6, H7, H8, H9, H10, H11, H12, H13, H14, false⟩ s0 x0 := State.reasmDrop_keeps _ (State.txEndAll_keeps _ _ _ hk)
  try clear_value x0
  extract_lets -merge -underBinder +onlyGivenNames x1
  have hx1 : Keeps ⟨H1, H2, H3, H4, false, H6, H7, H8, H9, H10, H11, H12, H13, H14, false⟩ s0 x1 := State.modPdl_keeps _ _ hx0
  try clear_value x1
  exact Keeps.ite (fun _ => State.put_keeps _ _ _ (State.modFw_keeps _ _ hx1)) (fun _ => hk)

theorem State.retire_keeps (n : Port) (cause : Option ℕ) (hk : Keeps ⟨H1, H2, H3, false, false, H6, H7, H8, H9, H10, H11, false, H13, H14, false⟩ s0 s) : Keeps ⟨H1, H2, H3, false, false, H6, H7, H8, H9, H10, H11, false, H13, H14, false⟩ s0 (State.retire s n cause) := by
  unfold State.retire
  extract_lets -merge -underBinder +onlyGivenNames x0 x1
  have hx1 : Keeps ⟨H1, H2, H3, false, false, H6, H7, H8, H9, H10, H11, false, H13, H14, false⟩ s0 x1 := by
    unfold x1
    split
    · exact State.put_keeps _ _ _ hk
    · exact hk
  try clear_value x1
  extract_lets -merge -underBinder +onlyGivenNames x2 x3
  have hx3 : Keeps ⟨H1, H2, H3, false, false, H6, H7, H8, H9, H10, H11, false, H13, H14, false⟩ s0 x3 := Keeps.ite (fun _ => State.detach_keeps _ _ hx1) (fun _ => State.snapClear_keeps _ hx1)
  try clear_value x3
  extract_lets -merge -underBinder +onlyGivenNames x4
  have hx4 : Keeps ⟨H1, H2, H3, false, false, H6, H7, H8, H9, H10, H11, false, H13, H14, false⟩ s0 x4 := State.put_keeps _ _ _ (State.guardTo_keeps _ _ hx3)
  try clear_value x4
  extract_lets -merge -underBinder +onlyGivenNames x5
  have hx5 : Keeps ⟨H1, H2, H3, false, false, H6, H7, H8, H9, H10, H11, false, H13, H14, false⟩ s0 x5 := State.vconnOff_keeps _ hx4
  try clear_value x5
  extract_lets -merge -underBinder +onlyGivenNames x6 x7
  have hx7 : Keeps ⟨H1, H2, H3, false, false, H6, H7, H8, H9, H10, H11, false, H13, H14, false⟩ s0 x7 := State.put_keeps _ _ _ hx5
  try clear_value x7
  extract_lets -merge -underBinder +onlyGivenNames x8
  have hx8 : Keeps ⟨H1, H2, H3, false, false, H6, H7, H8, H9, H10, H11, false, H13, H14, false⟩ s0 x8 := State.put_keeps _ _ _ (State.put_keeps _ _ _ hx7)
  try clear_value x8
  extract_lets -merge -underBinder +onlyGivenNames x9
  have hx9 : Keeps ⟨H1, H2, H3, false, false, H6, H7, H8, H9, H10, H11, false, H13, H14, false⟩ s0 x9 := State.put_keeps _ _ _ (State.put_keeps _ _ _ (State.put_keeps _ _ _ hx8))
  try clear_value x9
  extract_lets -merge -underBinder +onlyGivenNames x10
  have hx10 : Keeps ⟨H1, H2, H3, false, false, H6, H7, H8, H9, H10, H11, false, H13, H14, false⟩ s0 x10 := State.raise_keeps _ _ hx9
  try clear_value x10
  extract_lets -merge -underBinder +onlyGivenNames x11
  have hx11 : Keeps ⟨H1, H2, H3, false, false, H6, H7, H8, H9, H10, H11, false, H13, H14, false⟩ s0 x11 := State.modCc_keeps _ _ hx10
  try clear_value x11
  exact Keeps.ite (fun _ => hk) (fun _ => State.guardEvt_keeps _ _ hx11)

theorem State.powerRestart_keeps (n : Port) (hk : Keeps ⟨H1, H2, H3, false, false, H6, H7, H8, H9, H10, H11, H12, H13, H14, false⟩ s0 s) : Keeps ⟨H1, H2, H3, false, false, H6, H7, H8, H9, H10, H11, H12, H13, H14, false⟩ s0 (State.powerRestart s n) := by
  unfold State.powerRestart
  extract_lets -merge -underBinder +onlyGivenNames x0
  have hx0 : Keeps ⟨H1, H2, H3, false, false, H6, H7, H8, H9, H10, H11, H12, H13, H14, false⟩ s0 x0 := State.snapClear_keeps _ (State.genUp_keeps _ hk)
  try clear_value x0
  extract_lets -merge -underBinder +onlyGivenNames x1
  have hx1 : Keeps ⟨H1, H2, H3, false, false, H6, H7, H8, H9, H10, H11, H12, H13, H14, false⟩ s0 x1 := State.put_keeps _ _ _ (State.pdlCleanup_keeps _ hx0)
  try clear_value x1
  extract_lets -merge -underBinder +onlyGivenNames x2
  have hx2 : Keeps ⟨H1, H2, H3, false, false, H6, H7, H8, H9, H10, H11, H12, H13, H14, false⟩ s0 x2 := State.vconnOff_keeps _ (State.hpdClear_keeps _ hx1)
  try clear_value x2
  exact State.modCc_keeps _ _ (State.fwGeneration_keeps _ _ hx2)

theorem State.trip_keeps (n : Port) (causes : ℕ) (src : Bool) (hk : Keeps ⟨H1, H2, H3, false, false, H6, H7, H8, H9, H10, H11, false, H13, H14, false⟩ s0 s) : Keeps ⟨H1, H2, H3, false, false, H6, H7, H8, H9, H10, H11, false, H13, H14, false⟩ s0 (State.trip s n causes src) := by
  unfold State.trip
  extract_lets -merge -underBinder +onlyGivenNames x0 x1 x2 x3 x4 x5
  have hx5 : Keeps ⟨H1, H2, H3, false, false, H6, H7, H8, H9, H10, H11, false, H13, H14, false⟩ s0 x5 := State.guardTo_keeps _ _ hk
  try clear_value x5
  extract_lets -merge -underBinder +onlyGivenNames x6
  have hx6 : Keeps ⟨H1, H2, H3, false, false, H6, H7, H8, H9, H10, H11, false, H13, H14, false⟩ s0 x6 := State.put_keeps _ _ _ (State.put_keeps _ _ _ hx5)
  try clear_value x6
  extract_lets -merge -underBinder +onlyGivenNames x7
  have hx7 : Keeps ⟨H1, H2, H3, false, false, H6, H7, H8, H9, H10, H11, false, H13, H14, false⟩ s0 x7 := State.put_keeps _ _ _ (State.put_keeps _ _ _ hx6)
  try clear_value x7
  extract_lets -merge -underBinder +onlyGivenNames x8
  have hx8 : Keeps ⟨H1, H2, H3, false, false, H6, H7, H8, H9, H10, H11, false, H13, H14, false⟩ s0 x8 := State.bump_keeps _ _ _ (State.put_keeps _ _ _ hx7)
  try clear_value x8
  extract_lets -merge -underBinder +onlyGivenNames x9
  have hx9 : Keeps ⟨H1, H2, H3, false, false, H6, H7, H8, H9, H10, H11, false, H13, H14, false⟩ s0 x9 := State.modGuard_keeps _ _ hx8
  try clear_value x9
  extract_lets -merge -underBinder +onlyGivenNames x10
  have hx10 : Keeps ⟨H1, H2, H3, false, false, H6, H7, H8, H9, H10, H11, false, H13, H14, false⟩ s0 x10 := State.raiseIf_keeps _ _ _ (State.raiseIf_keeps _ _ _ hx9)
  try clear_value x10
  extract_lets -merge -underBinder +onlyGivenNames x11
  have hx11 : Keeps ⟨H1, H2, H3, false, false, H6, H7, H8, H9, H10, H11, false, H13, H14, false⟩ s0 x11 := State.guardEvt_keeps _ _ hx10
  try clear_value x11
  extract_lets -merge -underBinder +onlyGivenNames x12
  have hx12 : Keeps ⟨H1, H2, H3, false, false, H6, H7, H8, H9, H10, H11, false, H13, H14, false⟩ s0 x12 := Keeps.ite (fun _ => State.put_keeps _ _ _ hx11) (fun _ => hx11)
  try clear_value x12
  extract_lets -merge -underBinder +onlyGivenNames x13
  have hx13 : Keeps ⟨H1, H2, H3, false, false, H6, H7, H8, H9, H10, H11, false, H13, H14, false⟩ s0 x13 := State.modFw_keeps _ _ hx12
  try clear_value x13
  extract_lets -merge -underBinder +onlyGivenNames x14
  have hx14 : Keeps ⟨H1, H2, H3, false, false, H6, H7, H8, H9, H10, H11, false, H13, H14, false⟩ s0 x14 := Keeps.ite (fun _ => State.setTarget_keeps _ _ (State.dschOn_keeps _ _ _ (State.transAbandon_keeps _ hx13))) (fun _ => hx13)
  try clear_value x14
  extract_lets -merge -underBinder +onlyGivenNames x15
  have hx15 : Keeps ⟨H1, H2, H3, false, false, H6, H7, H8, H9, H10, H11, false, H13, H14, false⟩ s0 x15 := Keeps.ite (fun _ => State.powerRestart_keeps _ hx14) (fun _ => hx14)
  try clear_value x15
  extract_lets -merge -underBinder +onlyGivenNames x16
  have hx16 : Keeps ⟨H1, H2, H3, false, false, H6, H7, H8, H9, H10, H11, false, H13, H14, false⟩ s0 x16 := Keeps.ite (fun _ => State.shareLeave_keeps _ hx15) (fun _ => hx15)
  try clear_value x16
  exact Keeps.ite (fun _ => State.retire_keeps _ _ hx16) (fun _ => Keeps.ite (fun _ => Keeps.ite (fun _ => State.put_keeps _ _ _ hx16) (fun _ => hx16)) (fun _ => State.put_keeps _ _ _ hx16))

theorem State.guardHalt_keeps (n : Port) (hk : Keeps ⟨H1, H2, H3, H4, H5, H6, H7, H8, H9, H10, H11, H12, H13, H14, false⟩ s0 s) : Keeps ⟨H1, H2, H3, H4, H5, H6, H7, H8, H9, H10, H11, H12, H13, H14, false⟩ s0 (State.guardHalt s n) := by
  unfold State.guardHalt
  extract_lets -merge -underBinder +onlyGivenNames x0
  have hx0 : Keeps ⟨H1, H2, H3, H4, H5, H6, H7, H8, H9, H10, H11, H12, H13, H14, false⟩ s0 x0 := State.guardOff_keeps _ hk
  try clear_value x0
  exact Keeps.ite (fun _ => State.dschOn_keeps _ _ _ hx0) (fun _ => hx0)

theorem State.joinedOff_keeps (n : Port) (hk : Keeps ⟨H1, H2, H3, H4, H5, H6, H7, H8, H9, H10, H11, H12, H13, H14, false⟩ s0 s) : Keeps ⟨H1, H2, H3, H4, H5, H6, H7, H8, H9, H10, H11, H12, H13, H14, false⟩ s0 (State.joinedOff s n) := by
  unfold State.joinedOff
  exact Keeps.ite (fun _ => State.guardHalt_keeps _ hk) (fun _ => hk)

theorem State.lineShow_keeps (n : Port) (hk : Keeps H s0 s) : Keeps H s0 (State.lineShow s n) := by
  unfold State.lineShow
  extract_lets -merge -underBinder +onlyGivenNames x0 x1
  have hx1 : Keeps H s0 x1 := State.put_keeps _ _ _ (State.put_keeps _ _ _ hk)
  try clear_value x1
  exact State.put_keeps _ _ _ (State.put_keeps _ _ _ hx1)

theorem State.ccEnter_keeps (n : Port) (st : CcState) (hk : Keeps ⟨H1, H2, H3, false, false, H6, H7, H8, H9, H10, H11, false, H13, H14, false⟩ s0 s) : Keeps ⟨H1, H2, H3, false, false, H6, H7, H8, H9, H10, H11, false, H13, H14, false⟩ s0 (State.ccEnter s n st) := by
  unfold State.ccEnter
  extract_lets -merge -underBinder +onlyGivenNames x0 x1
  have hx1 : Keeps ⟨H1, H2, H3, false, false, H6, H7, H8, H9, H10, H11, false, H13, H14, false⟩ s0 x1 := Keeps.ite (fun _ => State.detach_keeps _ _ hk) (fun _ => hk)
  try clear_value x1
  extract_lets -merge -underBinder +onlyGivenNames x2 x3
  have hx3 : Keeps ⟨H1, H2, H3, false, false, H6, H7, H8, H9, H10, H11, false, H13, H14, false⟩ s0 x3 := State.put_keeps _ _ _ hx1
  try clear_value x3
  extract_lets -merge -underBinder +onlyGivenNames x4
  have hx4 : Keeps ⟨H1, H2, H3, false, false, H6, H7, H8, H9, H10, H11, false, H13, H14, false⟩ s0 x4 := State.putB_keeps _ _ _ hx3
  try clear_value x4
  extract_lets -merge -underBinder +onlyGivenNames x5
  have hx5 : Keeps ⟨H1, H2, H3, false, false, H6, H7, H8, H9, H10, H11, false, H13, H14, false⟩ s0 x5 := State.putB_keeps _ _ _ hx4
  try clear_value x5
  extract_lets -merge -underBinder +onlyGivenNames x6 x7
  have hx7 : Keeps ⟨H1, H2, H3, false, false, H6, H7, H8, H9, H10, H11, false, H13, H14, false⟩ s0 x7 := State.putB_keeps _ _ _ hx5
  try clear_value x7
  extract_lets -merge -underBinder +onlyGivenNames x8
  have hx8 : Keeps ⟨H1, H2, H3, false, false, H6, H7, H8, H9, H10, H11, false, H13, H14, false⟩ s0 x8 := Keeps.ite (fun _ => State.vconnOff_keeps _ (State.joinedOff_keeps _ hx7)) (fun _ => hx7)
  try clear_value x8
  extract_lets -merge -underBinder +onlyGivenNames x9
  have hx9 : Keeps ⟨H1, H2, H3, false, false, H6, H7, H8, H9, H10, H11, false, H13, H14, false⟩ s0 x9 := State.put_keeps _ _ _ hx8
  try clear_value x9
  extract_lets -merge -underBinder +onlyGivenNames x10 x11
  have hx11 : Keeps ⟨H1, H2, H3, false, false, H6, H7, H8, H9, H10, H11, false, H13, H14, false⟩ s0 x11 := Keeps.ite (fun _ => State.put_keeps _ _ _ hx9) (fun _ => hx9)
  try clear_value x11
  extract_lets -merge -underBinder +onlyGivenNames x12
  have hx12 : Keeps ⟨H1, H2, H3, false, false, H6, H7, H8, H9, H10, H11, false, H13, H14, false⟩ s0 x12 := State.modPort_keeps _ _ hx11
  try clear_value x12
  extract_lets -merge -underBinder +onlyGivenNames x13 x14
  have hx14 : Keeps ⟨H1, H2, H3, false, false, H6, H7, H8, H9, H10, H11, false, H13, H14, false⟩ s0 x14 := State.put_keeps _ _ _ hx12
  try clear_value x14
  extract_lets -merge -underBinder +onlyGivenNames x15
  have hx15 : Keeps ⟨H1, H2, H3, false, false, H6, H7, H8, H9, H10, H11, false, H13, H14, false⟩ s0 x15 := State.raiseIf_keeps _ _ _ (State.raise_keeps _ _ hx14)
  try clear_value x15
  exact Keeps.ite (fun _ => State.attachActions_keeps _ _ (State.modPort_keeps _ _ hx15)) (fun _ => hx14)

theorem State.ccResume_keeps (n : Port) (hk : Keeps ⟨H1, H2, H3, false, false, H6, H7, H8, H9, H10, H11, false, H13, H14, false⟩ s0 s) : Keeps ⟨H1, H2, H3, false, false, H6, H7, H8, H9, H10, H11, false, H13, H14, false⟩ s0 (State.ccResume s n) := by
  unfold State.ccResume
  extract_lets -merge -underBinder +onlyGivenNames x0
  exact Keeps.ite (fun _ => Keeps.ite (fun _ => hk) (fun _ => State.ccEnter_keeps _ _ hk)) (fun _ => State.ccEnter_keeps _ _ hk)

theorem State.attachWait_keeps (n : Port) (st : CcState) (c : CcClass) (hk : Keeps ⟨H1, H2, H3, false, false, H6, H7, H8, H9, H10, H11, false, H13, H14, false⟩ s0 s) : Keeps ⟨H1, H2, H3, false, false, H6, H7, H8, H9, H10, H11, false, H13, H14, false⟩ s0 (State.attachWait s n st c) := by
  unfold State.attachWait
  extract_lets -merge -underBinder +onlyGivenNames x0
  exact State.ccEnter_keeps _ _ (State.put_keeps _ _ _ hk)

theorem State.attachOn_keeps (n : Port) (pin : ℕ) (st : CcState) (hk : Keeps ⟨H1, H2, H3, false, false, H6, H7, H8, H9, H10, H11, false, H13, H14, false⟩ s0 s) : Keeps ⟨H1, H2, H3, false, false, H6, H7, H8, H9, H10, H11, false, H13, H14, false⟩ s0 (State.attachOn s n pin st) := by
  unfold State.attachOn
  extract_lets -merge -underBinder +onlyGivenNames x0 x1
  have hx1 : Keeps ⟨H1, H2, H3, false, false, H6, H7, H8, H9, H10, H11, false, H13, H14, false⟩ s0 x1 := State.ccEnter_keeps _ _ hk
  try clear_value x1
  exact Keeps.ite (fun _ => State.modPort_keeps _ _ hx1) (fun _ => hx1)

theorem State.debWait_keeps (n : Port) (hk : Keeps ⟨H1, H2, H3, H4, H5, H6, H7, H8, H9, H10, H11, H12, H13, H14, false⟩ s0 s) : Keeps ⟨H1, H2, H3, H4, H5, H6, H7, H8, H9, H10, H11, H12, H13, H14, false⟩ s0 (State.debWait s n) := by
  unfold State.debWait
  exact State.modPort_keeps _ _ hk

theorem State.debounced_keeps (n : Port) (hk : Keeps ⟨H1, H2, H3, false, false, H6, H7, H8, H9, H10, H11, false, H13, H14, false⟩ s0 s) : Keeps ⟨H1, H2, H3, false, false, H6, H7, H8, H9, H10, H11, false, H13, H14, false⟩ s0 (State.debounced s n) := by
  unfold State.debounced
  split
  · split
    · exact Keeps.ite (fun _ => State.ccEnter_keeps _ _ hk) (fun _ => Keeps.ite (fun _ => State.attachOn_keeps _ _ _ hk) (fun _ => State.debWait_keeps _ hk))
    · exact Keeps.ite (fun _ => Keeps.ite (fun _ => State.ccEnter_keeps _ _ hk) (fun _ => State.debWait_keeps _ hk)) (fun _ => hk)
  · split
    · exact Keeps.ite (fun _ => State.debWait_keeps _ hk) (fun _ => Keeps.ite (fun _ => State.ccEnter_keeps _ _ hk) (fun _ => State.attachOn_keeps _ _ _ hk))
    · exact Keeps.ite (fun _ => Keeps.ite (fun _ => State.ccEnter_keeps _ _ hk) (fun _ => Keeps.ite (fun _ => State.ccEnter_keeps _ _ hk) (fun _ => hk))) (fun _ => hk)
  · split
    · exact Keeps.ite (fun _ => State.attachOn_keeps _ _ _ hk) (fun _ => State.debWait_keeps _ hk)
    · exact hk
  · split
    · exact Keeps.ite (fun _ => State.attachOn_keeps _ _ _ hk) (fun _ => State.debWait_keeps _ hk)
    · exact hk
  · split
    · exact Keeps.ite (fun _ => State.attachOn_keeps _ _ _ hk) (fun _ => State.debWait_keeps _ hk)
    · exact hk
  · exact hk

theorem State.rpRead_keeps (n : Port) (hk : Keeps H s0 s) : Keeps H s0 (State.rpRead s n) := by
  unfold State.rpRead
  extract_lets -merge -underBinder +onlyGivenNames x0 x1 x2
  exact Keeps.ite (fun _ => hk) (fun _ => State.put_keeps _ _ _ (State.raiseIf_keeps _ _ _ hk))

theorem State.pdDebounced_keeps (n : Port) (hk : Keeps ⟨H1, H2, H3, false, false, H6, H7, H8, H9, H10, H11, false, H13, H14, false⟩ s0 s) : Keeps ⟨H1, H2, H3, false, false, H6, H7, H8, H9, H10, H11, false, H13, H14, false⟩ s0 (State.pdDebounced s n) := by
  unfold State.pdDebounced
  split
  · exact Keeps.ite (fun _ => State.ccEnter_keeps _ _ hk) (fun _ => State.rpRead_keeps _ hk)
  · exact Keeps.ite (fun _ => State.ccEnter_keeps _ _ hk) (fun _ => hk)
  · split
    · exact State.attachOn_keeps _ _ _ hk
    · exact hk
  · exact Keeps.ite (fun _ => State.ccEnter_keeps _ _ hk) (fun _ => State.rpRead_keeps _ hk)
  · exact Keeps.ite (fun _ => Keeps.ite (fun _ => State.debounced_keeps _ hk) (fun _ => State.ccEnter_keeps _ _ hk)) (fun _ => State.rpRead_keeps _ hk)
  · exact State.debounced_keeps _ hk
  · exact Keeps.ite (fun _ => State.ccEnter_keeps _ _ hk) (fun _ => hk)
  · exact Keeps.ite (fun _ => State.ccEnter_keeps _ _ hk) (fun _ => hk)
  · exact Keeps.ite (fun _ => State.ccEnter_keeps _ _ hk) (fun _ => State.rpRead_keeps _ hk)
  · exact Keeps.ite (fun _ => State.ccEnter_keeps _ _ hk) (fun _ => State.rpRead_keeps _ hk)
  · exact hk

theorem State.shadowWatch_keeps (n : Port) (anew : Bool) (hk : Keeps H s0 s) : Keeps H s0 (State.shadowWatch s n anew) := by
  unfold State.shadowWatch
  extract_lets -merge -underBinder +onlyGivenNames x0 x1 x2
  exact Keeps.ite (fun _ => State.putB_keeps _ _ _ (State.putB_keeps _ _ _ hk)) (fun _ => hk)

theorem State.ccJudge_keeps (n : Port) (hk : Keeps ⟨H1, H2, H3, false, false, H6, H7, H8, H9, H10, H11, false, H13, H14, false⟩ s0 s) : Keeps ⟨H1, H2, H3, false, false, H6, H7, H8, H9, H10, H11, false, H13, H14, false⟩ s0 (State.ccJudge s n) := by
  unfold State.ccJudge
  split
  · exact Keeps.ite (fun _ => State.attachWait_keeps _ _ _ hk) (fun _ => hk)
  · exact Keeps.ite (fun _ => State.attachWait_keeps _ _ _ hk) (fun _ => Keeps.ite (fun _ => State.attachWait_keeps _ _ _ hk) (fun _ => hk))
  · exact Keeps.ite (fun _ => State.ccEnter_keeps _ _ hk) (fun _ => hk)
  · exact State.shadowWatch_keeps _ _ hk
  · exact hk

theorem State.ccStore_keeps (n : Port) (mv1 : ℕ) (mv2 : ℕ) (hk : Keeps ⟨H1, H2, H3, H4, H5, H6, H7, H8, H9, H10, H11, H12, H13, H14, false⟩ s0 s) : Keeps ⟨H1, H2, H3, H4, H5, H6, H7, H8, H9, H10, H11, H12, H13, H14, false⟩ s0 (State.ccStore s n mv1 mv2) := by
  unfold State.ccStore
  extract_lets -merge -underBinder +onlyGivenNames x0
  exact State.modCc_keeps _ _ hk

theorem State.ccLine_keeps (n : Port) (mv1 : ℕ) (mv2 : ℕ) (hk : Keeps ⟨H1, H2, H3, false, false, H6, H7, H8, H9, H10, H11, false, H13, H14, false⟩ s0 s) : Keeps ⟨H1, H2, H3, false, false, H6, H7, H8, H9, H10, H11, false, H13, H14, false⟩ s0 (State.ccLine s n mv1 mv2) := by
  unfold State.ccLine
  extract_lets -merge -underBinder +onlyGivenNames x0
  have hx0 : Keeps ⟨H1, H2, H3, false, false, H6, H7, H8, H9, H10, H11, false, H13, H14, false⟩ s0 x0 := State.ccStore_keeps _ _ _ hk
  try clear_value x0
  exact Keeps.ite (fun _ => State.ccJudge_keeps _ hx0) (fun _ => hx0)

theorem State.vconnOn_keeps (n : Port) (hk : Keeps ⟨H1, H2, H3, H4, H5, H6, H7, H8, H9, H10, H11, H12, H13, H14, false⟩ s0 s) : Keeps ⟨H1, H2, H3, H4, H5, H6, H7, H8, H9, H10, H11, H12, H13, H14, false⟩ s0 (State.vconnOn s n) := by
  unfold State.vconnOn
  exact State.modPort_keeps _ _ (State.putB_keeps _ _ _ hk)

theorem State.vconnTick_keeps (n : Port) (hk : Keeps ⟨H1, H2, H3, H4, H5, H6, H7, H8, H9, H10, H11, H12, H13, H14, false⟩ s0 s) : Keeps ⟨H1, H2, H3, H4, H5, H6, H7, H8, H9, H10, H11, H12, H13, H14, false⟩ s0 (State.vconnTick s n) := by
  unfold State.vconnTick
  extract_lets -merge -underBinder +onlyGivenNames x0 x1 x2
  have hx2 : Keeps ⟨H1, H2, H3, H4, H5, H6, H7, H8, H9, H10, H11, H12, H13, H14, false⟩ s0 x2 := Keeps.ite (fun _ => State.modCc_keeps _ _ hk) (fun _ => hk)
  try clear_value x2
  extract_lets -merge -underBinder +onlyGivenNames x3 x4 x5 x6 x7
  have hx7 : Keeps ⟨H1, H2, H3, H4, H5, H6, H7, H8, H9, H10, H11, H12, H13, H14, false⟩ s0 x7 := State.put_keeps _ _ _ (State.put_keeps _ _ _ hx2)
  try clear_value x7
  extract_lets -merge -underBinder +onlyGivenNames x8
  have hx8 : Keeps ⟨H1, H2, H3, H4, H5, H6, H7, H8, H9, H10, H11, H12, H13, H14, false⟩ s0 x8 := State.putB_keeps _ _ _ hx7
  try clear_value x8
  exact Keeps.ite (fun _ => State.freshen_keeps hx8) (fun _ => hx8)

theorem State.ccCfgApply_keeps (n : Port) (hk : Keeps H s0 s) : Keeps H s0 (State.ccCfgApply s n) := by
  unfold State.ccCfgApply
  extract_lets -merge -underBinder +onlyGivenNames x0 x1 x2 x3 x4 x5 x6 x7 x8 x9 x10 x11
  have hx11 : Keeps H s0 x11 := foldl_keeps _ hk (fun _ _ h => h.inForceSet _ _)
  try clear_value x11
  exact hx11.inForceSet _ _

theorem State.clampRead_keeps (n : Port) (hk : Keeps ⟨H1, H2, H3, H4, H5, H6, H7, H8, H9, H10, H11, H12, H13, H14, false⟩ s0 s) : Keeps ⟨H1, H2, H3, H4, H5, H6, H7, H8, H9, H10, H11, H12, H13, H14, false⟩ s0 (State.clampRead s n) := by
  unfold State.clampRead
  extract_lets -merge -underBinder +onlyGivenNames x0
  have hx0 : Keeps ⟨H1, H2, H3, H4, H5, H6, H7, H8, H9, H10, H11, H12, H13, H14, false⟩ s0 x0 := State.modCc_keeps _ _ hk
  try clear_value x0
  exact Keeps.ite (fun _ => Keeps.ite (fun _ => hx0) (fun _ => State.rpRead_keeps _ hx0)) (fun _ => hk)

theorem State.takenRpTick_keeps (n : Port) (hk : Keeps ⟨H1, H2, H3, H4, H5, H6, H7, H8, H9, H10, H11, H12, H13, H14, false⟩ s0 s) : Keeps ⟨H1, H2, H3, H4, H5, H6, H7, H8, H9, H10, H11, H12, H13, H14, false⟩ s0 (State.takenRpTick s n) := by
  unfold State.takenRpTick
  split
  · exact Keeps.ite (fun _ => State.modCc_keeps _ _ hk) (fun _ => hk)
  · exact hk

theorem State.ccOrders_keeps (n : Port) (hk : Keeps ⟨H1, H2, H3, false, false, H6, H7, H8, H9, H10, H11, false, H13, H14, false⟩ s0 s) : Keeps ⟨H1, H2, H3, false, false, H6, H7, H8, H9, H10, H11, false, H13, H14, false⟩ s0 (State.ccOrders s n) := by
  unfold State.ccOrders
  extract_lets -merge -underBinder +onlyGivenNames x0 x1 x2
  have hx2 : Keeps ⟨H1, H2, H3, false, false, H6, H7, H8, H9, H10, H11, false, H13, H14, false⟩ s0 x2 := State.modCc_keeps _ _ hk
  try clear_value x2
  exact Keeps.ite (fun _ => hx2) (fun _ => Keeps.ite (fun _ => State.ccEnter_keeps _ _ hx2) (fun _ => Keeps.ite (fun _ => Keeps.ite (fun _ => State.joinedOff_keeps _ hx2) (fun _ => State.ccEnter_keeps _ _ (State.guardHalt_keeps _ hx2))) (fun _ => hx2)))

theorem State.clampRemoval_keeps (n : Port) (was : Bool) (hk : Keeps ⟨H1, H2, H3, false, false, H6, H7, H8, H9, H10, H11, false, H13, H14, false⟩ s0 s) : Keeps ⟨H1, H2, H3, false, false, H6, H7, H8, H9, H10, H11, false, H13, H14, false⟩ s0 (State.clampRemoval s n was) := by
  unfold State.clampRemoval
  extract_lets -merge -underBinder +onlyGivenNames x0
  refine Keeps.ite (fun _ => ?_) (fun _ => ?_)
  · split
    · exact Keeps.ite (fun _ => State.ccEnter_keeps _ _ hk) (fun _ => State.modCc_keeps _ _ (State.putB_keeps _ _ _ hk))
    · exact Keeps.ite (fun _ => State.ccEnter_keeps _ _ hk) (fun _ => State.modCc_keeps _ _ (State.putB_keeps _ _ _ hk))
    · exact Keeps.ite (fun _ => State.ccEnter_keeps _ _ hk) (fun _ => State.modCc_keeps _ _ (State.putB_keeps _ _ _ hk))
    · exact State.ccEnter_keeps _ _ hk
    · exact hk
  · exact hk

theorem State.ccTick_keeps (n : Port) (hk : Keeps ⟨H1, H2, H3, false, false, H6, H7, H8, H9, H10, H11, false, H13, H14, false⟩ s0 s) : Keeps ⟨H1, H2, H3, false, false, H6, H7, H8, H9, H10, H11, false, H13, H14, false⟩ s0 (State.ccTick s n) := by
  unfold State.ccTick
  extract_lets -merge -underBinder +onlyGivenNames x0 x1 x2 x3
  have hx3 : Keeps ⟨H1, H2, H3, false, false, H6, H7, H8, H9, H10, H11, false, H13, H14, false⟩ s0 x3 := State.clampRead_keeps _ (State.ccOrders_keeps _ hk)
  try clear_value x3
  extract_lets -merge -underBinder +onlyGivenNames x4
  have hx4 : Keeps ⟨H1, H2, H3, false, false, H6, H7, H8, H9, H10, H11, false, H13, H14, false⟩ s0 x4 := State.takenRpTick_keeps _ (State.ccCfgApply_keeps _ hx3)
  try clear_value x4
  extract_lets -merge -underBinder +onlyGivenNames x5
  have hx5 : Keeps ⟨H1, H2, H3, false, false, H6, H7, H8, H9, H10, H11, false, H13, H14, false⟩ s0 x5 := State.clampRemoval_keeps _ _ hx4
  try clear_value x5
  extract_lets -merge -underBinder +onlyGivenNames x6 x7
  have hx7 : Keeps ⟨H1, H2, H3, false, false, H6, H7, H8, H9, H10, H11, false, H13, H14, false⟩ s0 x7 := State.put_keeps _ _ _ hx5
  try clear_value x7
  extract_lets -merge -underBinder +onlyGivenNames x8 x9
  have hx9 : Keeps ⟨H1, H2, H3, false, false, H6, H7, H8, H9, H10, H11, false, H13, H14, false⟩ s0 x9 := Keeps.ite (fun _ => State.ccEnter_keeps _ _ hx7) (fun _ => Keeps.ite (fun _ => State.ccEnter_keeps _ _ hx7) (fun _ => hx7))
  try clear_value x9
  extract_lets -merge -underBinder +onlyGivenNames x10
  have hx10 : Keeps ⟨H1, H2, H3, false, false, H6, H7, H8, H9, H10, H11, false, H13, H14, false⟩ s0 x10 := Keeps.ite (fun _ => State.ccResume_keeps _ hx9) (fun _ => hx9)
  try clear_value x10
  extract_lets -merge -underBinder +onlyGivenNames x11
  have hx11 : Keeps ⟨H1, H2, H3, false, false, H6, H7, H8, H9, H10, H11, false, H13, H14, false⟩ s0 x11 := State.ccJudge_keeps _ hx10
  try clear_value x11
  extract_lets -merge -underBinder +onlyGivenNames x12
  have hx12 : Keeps ⟨H1, H2, H3, false, false, H6, H7, H8, H9, H10, H11, false, H13, H14, false⟩ s0 x12 := Keeps.ite (fun _ => State.debounced_keeps _ hx11) (fun _ => hx11)
  try clear_value x12
  extract_lets -merge -underBinder +onlyGivenNames x13
  have hx13 : Keeps ⟨H1, H2, H3, false, false, H6, H7, H8, H9, H10, H11, false, H13, H14, false⟩ s0 x13 := State.vconnTick_keeps _ (State.lineShow_keeps _ hx12)
  try clear_value x13
  extract_lets -merge -underBinder +onlyGivenNames x14 x15
  have hx15 : Keeps ⟨H1, H2, H3, false, false, H6, H7, H8, H9, H10, H11, false, H13, H14, false⟩ s0 x15 := Keeps.ite (fun _ => Keeps.ite (fun _ => Keeps.ite (fun _ => State.hrDone_keeps _ (State.modPort_keeps _ _ hx13)) (fun _ => hx13)) (fun _ => State.modPort_keeps _ _ hx13)) (fun _ => hx13)
  try clear_value x15
  exact Keeps.ite (fun _ => State.postKept_keeps _ _ _ _ _ (State.modPort_keeps _ _ hx15)) (fun _ => hx15)

theorem State.lineOut_keeps (n : Port) (k : ℕ) (bs : List Byte) (hk : Keeps ⟨H1, H2, H3, H4, H5, H6, H7, H8, H9, H10, H11, H12, H13, H14, false⟩ s0 s) : Keeps ⟨H1, H2, H3, H4, H5, H6, H7, H8, H9, H10, H11, H12, H13, H14, false⟩ s0 (State.lineOut s n k bs) := by
  unfold State.lineOut
  extract_lets -merge -underBinder +onlyGivenNames x0
  exact State.modPdl_keeps _ _ hk

theorem State.ringWrite_keeps (n : Port) (sop : ℕ) (flags : ℕ) (xbuf : ℕ) (status : ℕ) (chunks : ℕ) (msg : List Byte) (hk : Keeps ⟨H1, H2, H3, H4, false, H6, H7, H8, H9, H10, H11, H12, H13, H14, H15⟩ s0 s) : Keeps ⟨H1, H2, H3, H4, false, H6, H7, H8, H9, H10, H11, H12, H13, H14, H15⟩ s0 (State.ringWrite s n sop flags xbuf status chunks msg) := by
  unfold State.ringWrite
  extract_lets -merge -underBinder +onlyGivenNames x0 x1 x2 x3
  have hx3 : Keeps ⟨H1, H2, H3, H4, false, H6, H7, H8, H9, H10, H11, H12, H13, H14, H15⟩ s0 x3 := State.stRecord_keeps _ _ hk
  try clear_value x3
  exact State.incr_keeps _ _ (State.put_keeps _ _ _ hx3)

theorem State.pdlErrPost_keeps (n : Port) (hk : Keeps ⟨H1, H2, H3, H4, false, H6, H7, H8, H9, H10, H11, H12, H13, H14, H15⟩ s0 s) : Keeps ⟨H1, H2, H3, H4, false, H6, H7, H8, H9, H10, H11, H12, H13, H14, H15⟩ s0 (State.pdlErrPost s n) := by
  unfold State.pdlErrPost
  exact State.postPort_keeps _ _ _ _ _ hk

theorem State.chunkErr_keeps (n : Port) (sop : ℕ) (code : ℕ) (chunks : ℕ) (hk : Keeps ⟨H1, H2, H3, H4, false, H6, H7, H8, H9, H10, H11, H12, H13, H14, H15⟩ s0 s) : Keeps ⟨H1, H2, H3, H4, false, H6, H7, H8, H9, H10, H11, H12, H13, H14, H15⟩ s0 (State.chunkErr s n sop code chunks) := by
  unfold State.chunkErr
  extract_lets -merge -underBinder +onlyGivenNames x0
  have hx0 : Keeps ⟨H1, H2, H3, H4, false, H6, H7, H8, H9, H10, H11, H12, H13, H14, H15⟩ s0 x0 := Keeps.ite (fun _ => State.bump_keeps _ _ _ hk) (fun _ => State.ringWrite_keeps _ _ _ _ _ _ _ hk)
  try clear_value x0
  exact State.pdlErrPost_keeps _ (State.raise_keeps _ _ hx0)

theorem State.reasmDel_keeps (n : Port) (k : ℕ) (hk : Keeps ⟨H1, H2, H3, H4, H5, H6, H7, H8, H9, H10, H11, H12, H13, H14, false⟩ s0 s) : Keeps ⟨H1, H2, H3, H4, H5, H6, H7, H8, H9, H10, H11, H12, H13, H14, false⟩ s0 (State.reasmDel s n k) := by
  unfold State.reasmDel
  exact State.modPdl_keeps _ _ hk

theorem State.reasmSet_keeps (n : Port) (r : Reasm) (hk : Keeps ⟨H1, H2, H3, H4, H5, H6, H7, H8, H9, H10, H11, H12, H13, H14, false⟩ s0 s) : Keeps ⟨H1, H2, H3, H4, H5, H6, H7, H8, H9, H10, H11, H12, H13, H14, false⟩ s0 (State.reasmSet s n r) := by
  unfold State.reasmSet
  exact State.modPdl_keeps _ _ hk

theorem State.reasmAbort_keeps (n : Port) (k : ℕ) (code : ℕ) (hk : Keeps ⟨H1, H2, H3, H4, false, H6, H7, H8, H9, H10, H11, H12, H13, H14, false⟩ s0 s) : Keeps ⟨H1, H2, H3, H4, false, H6, H7, H8, H9, H10, H11, H12, H13, H14, false⟩ s0 (State.reasmAbort s n k code) := by
  unfold State.reasmAbort
  split
  · exact hk
  · exact State.chunkErr_keeps _ _ _ _ (State.put_keeps _ _ _ (State.reasmDel_keeps _ _ hk))

theorem State.ackStore_keeps (n : Port) (k : ℕ) (id : ℕ) (hk : Keeps ⟨H1, H2, H3, H4, H5, H6, H7, H8, H9, H10, H11, H12, H13, H14, false⟩ s0 s) : Keeps ⟨H1, H2, H3, H4, H5, H6, H7, H8, H9, H10, H11, H12, H13, H14, false⟩ s0 (State.ackStore s n k id) := by
  unfold State.ackStore
  extract_lets -merge -underBinder +onlyGivenNames x0
  have hx0 : Keeps ⟨H1, H2, H3, H4, H5, H6, H7, H8, H9, H10, H11, H12, H13, H14, false⟩ s0 x0 := State.msgidPut_keeps _ _ _ _ (State.msgidPut_keeps _ _ _ _ hk)
  try clear_value x0
  exact State.modPdl_keeps _ _ hx0

theorem State.rxFull_keeps (n : Port) (hk : Keeps ⟨H1, H2, H3, H4, false, H6, H7, H8, H9, H10, H11, H12, H13, H14, H15⟩ s0 s) : Keeps ⟨H1, H2, H3, H4, false, H6, H7, H8, H9, H10, H11, H12, H13, H14, H15⟩ s0 (State.rxFull s n) := by
  unfold State.rxFull
  exact State.pdlErrPost_keeps _ (State.bump_keeps _ _ _ (State.raise_keeps _ _ hk))

theorem State.rxStoreErr_keeps (n : Port) (hk : Keeps ⟨H1, H2, H3, H4, false, H6, H7, H8, H9, H10, H11, H12, H13, H14, H15⟩ s0 s) : Keeps ⟨H1, H2, H3, H4, false, H6, H7, H8, H9, H10, H11, H12, H13, H14, H15⟩ s0 (State.rxStoreErr s n) := by
  unfold State.rxStoreErr
  exact State.pdlErrPost_keeps _ (State.bump_keeps _ _ _ (State.raise_keeps _ _ hk))

theorem State.txReq_keeps (n : Port) (i : ℕ) (hk : Keeps ⟨H1, H2, H3, H4, false, H6, H7, H8, H9, H10, H11, H12, H13, H14, false⟩ s0 s) : Keeps ⟨H1, H2, H3, H4, false, H6, H7, H8, H9, H10, H11, H12, H13, H14, false⟩ s0 (State.txReq s n i) := by
  unfold State.txReq
  extract_lets -merge -underBinder +onlyGivenNames x0
  exact Keeps.ite (fun _ => State.lockedWrite_keeps _ hk) (fun _ => State.modPdl_keeps _ _ (State.stPut_keeps _ _ _ hk))

theorem State.fwRecord_keeps (n : Port) (i : ℕ) (sop : ℕ) (flags : ℕ) (xbuf : ℕ) (msg : List Byte) (hk : Keeps ⟨H1, H2, H3, H4, false, H6, H7, H8, H9, H10, H11, H12, H13, H14, H15⟩ s0 s) : Keeps ⟨H1, H2, H3, H4, false, H6, H7, H8, H9, H10, H11, H12, H13, H14, H15⟩ s0 (State.fwRecord s n i sop flags xbuf msg) := by
  unfold State.fwRecord
  extract_lets -merge -underBinder +onlyGivenNames x0
  exact State.stRecord_keeps _ _ hk

theorem State.fwCompose_keeps (n : Port) (m : FwMsg) (hk : Keeps ⟨H1, H2, H3, H4, false, H6, H7, H8, H9, H10, H11, H12, H13, H14, false⟩ s0 s) : Keeps ⟨H1, H2, H3, H4, false, H6, H7, H8, H9, H10, H11, H12, H13, H14, false⟩ s0 (State.fwCompose s n m) := by
  unfold State.fwCompose
  extract_lets -merge -underBinder +onlyGivenNames x0 x1
  have hx1 : Keeps ⟨H1, H2, H3, H4, false, H6, H7, H8, H9, H10, H11, H12, H13, H14, false⟩ s0 x1 := by
    unfold x1
    split
    · exact State.fwRecord_keeps _ _ _ _ _ _ hk
    · extract_lets -merge -underBinder +onlyGivenNames x2
      extract_lets -merge -underBinder +onlyGivenNames x3
      exact State.fwRecord_keeps _ _ _ _ _ _ (State.stRecord_keeps _ _ hk)
  try clear_value x1
  extract_lets -merge -underBinder +onlyGivenNames x4
  have hx4 : Keeps ⟨H1, H2, H3, H4, false, H6, H7, H8, H9, H10, H11, H12, H13, H14, false⟩ s0 x4 := State.modFw_keeps _ _ hx1
  try clear_value x4
  exact State.txReq_keeps _ _ hx4

theorem State.fwFlushGo_keeps (n : Port) (l : List FwMsg) (hk : Keeps ⟨H1, H2, H3, H4, false, H6, H7, H8, H9, H10, H11, H12, H13, H14, false⟩ s0 s) : Keeps ⟨H1, H2, H3, H4, false, H6, H7, H8, H9, H10, H11, H12, H13, H14, false⟩ s0 (State.fwFlushGo s n l) := by
  induction l generalizing s with
  | nil => exact State.modFw_keeps _ _ hk
  | cons m l ih => exact Keeps.ite (fun _ => ih (State.fwCompose_keeps _ _ hk)) (fun _ => State.modFw_keeps _ _ hk)

theorem State.fwFlush_keeps (n : Port) (hk : Keeps ⟨H1, H2, H3, H4, false, H6, H7, H8, H9, H10, H11, H12, H13, H14, false⟩ s0 s) : Keeps ⟨H1, H2, H3, H4, false, H6, H7, H8, H9, H10, H11, H12, H13, H14, false⟩ s0 (State.fwFlush s n) := by
  unfold State.fwFlush
  exact State.fwFlushGo_keeps _ _ hk

theorem State.fwPut_keeps (n : Port) (m : FwMsg) (hk : Keeps ⟨H1, H2, H3, H4, false, H6, H7, H8, H9, H10, H11, H12, H13, H14, false⟩ s0 s) : Keeps ⟨H1, H2, H3, H4, false, H6, H7, H8, H9, H10, H11, H12, H13, H14, false⟩ s0 (State.fwPut s n m) := by
  unfold State.fwPut
  exact Keeps.ite (fun _ => State.fwFlush_keeps _ (State.modFw_keeps _ _ hk)) (fun _ => hk)

theorem State.fwSendFor_keeps (n : Port) (sop : ℕ) (typ : ℕ) (objs : List Word) (ams : Bool) (goal : FwGoal) (hk : Keeps ⟨H1, H2, H3, H4, false, H6, H7, H8, H9, H10, H11, H12, H13, H14, false⟩ s0 s) : Keeps ⟨H1, H2, H3, H4, false, H6, H7, H8, H9, H10, H11, H12, H13, H14, false⟩ s0 (State.fwSendFor s n sop typ objs ams goal) := by
  unfold State.fwSendFor
  exact State.fwPut_keeps _ _ hk

theorem State.fwSend_keeps (n : Port) (sop : ℕ) (typ : ℕ) (objs : List Word) (ams : Bool) (hk : Keeps ⟨H1, H2, H3, H4, false, H6, H7, H8, H9, H10, H11, H12, H13, H14, false⟩ s0 s) : Keeps ⟨H1, H2, H3, H4, false, H6, H7, H8, H9, H10, H11, H12, H13, H14, false⟩ s0 (State.fwSend s n sop typ objs ams) := by
  unfold State.fwSend
  exact State.fwSendFor_keeps _ _ _ _ _ _ hk

theorem State.fwSendExt_keeps (n : Port) (typ : ℕ) (data : List Byte) (hk : Keeps ⟨H1, H2, H3, H4, false, H6, H7, H8, H9, H10, H11, H12, H13, H14, false⟩ s0 s) : Keeps ⟨H1, H2, H3, H4, false, H6, H7, H8, H9, H10, H11, H12, H13, H14, false⟩ s0 (State.fwSendExt s n typ data) := by
  unfold State.fwSendExt
  exact State.fwPut_keeps _ _ hk

theorem State.commitInForce_keeps (n : Port) (gen : ℕ) (hk : Keeps ⟨H1, H2, H3, H4, H5, H6, H7, H8, H9, H10, H11, H12, H13, H14, false⟩ s0 s) : Keeps ⟨H1, H2, H3, H4, H5, H6, H7, H8, H9, H10, H11, H12, H13, H14, false⟩ s0 (State.commitInForce s n gen) := by
  unfold State.commitInForce
  exact State.polQueue_keeps _ _ (State.put_keeps _ _ _ hk)

theorem State.fwAfter_keeps (n : Port) (m : FwMsg) (status : ℕ) (hk : Keeps ⟨H1, H2, H3, H4, false, H6, H7, H8, H9, H10, H11, H12, H13, H14, false⟩ s0 s) : Keeps ⟨H1, H2, H3, H4, false, H6, H7, H8, H9, H10, H11, H12, H13, H14, false⟩ s0 (State.fwAfter s n m status) := by
  unfold State.fwAfter
  refine Keeps.ite (fun _ => ?_) (fun _ => ?_)
  · exact State.fwPut_keeps _ _ hk
  · split
    · exact Keeps.ite (fun _ => State.polQueue_keeps _ _ (State.polQueue_keeps _ _ hk)) (fun _ => hk)
    · exact Keeps.ite (fun _ => State.commitInForce_keeps _ _ hk) (fun _ => State.hardResetStart_keeps _ hk)
    · exact Keeps.ite (fun _ => State.polQueue_keeps _ _ hk) (fun _ => hk)
    · exact hk
    · exact hk
    · exact hk

theorem State.txOver_keeps (n : Port) (i : ℕ) (status : ℕ) (hk : Keeps ⟨H1, H2, H3, H4, false, H6, H7, H8, H9, H10, H11, H12, H13, H14, false⟩ s0 s) : Keeps ⟨H1, H2, H3, H4, false, H6, H7, H8, H9, H10, H11, H12, H13, H14, false⟩ s0 (State.txOver s n i status) := by
  unfold State.txOver
  extract_lets -merge -underBinder +onlyGivenNames x0
  clear_value x0
  extract_lets -merge -underBinder +onlyGivenNames x1
  have hx1 : Keeps ⟨H1, H2, H3, H4, false, H6, H7, H8, H9, H10, H11, H12, H13, H14, false⟩ s0 x1 := State.txEnd_keeps _ _ _ hk
  try clear_value x1
  refine Keeps.ite (fun _ => ?_) (fun _ => ?_)
  · refine State.fwFlush_keeps _ ?_
    split
    · exact State.fwAfter_keeps _ _ _ hx1
    · exact hx1
  · exact hx1

theorem State.txOverAll_keeps (n : Port) (pick : State → ℕ → Bool) (status : ℕ) (hk : Keeps ⟨H1, H2, H3, H4, false, H6, H7, H8, H9, H10, H11, H12, H13, H14, false⟩ s0 s) : Keeps ⟨H1, H2, H3, H4, false, H6, H7, H8, H9, H10, H11, H12, H13, H14, false⟩ s0 (State.txOverAll s n pick status) := by
  unfold State.txOverAll
  extract_lets -merge -underBinder +onlyGivenNames x0 x1
  have hx1 : Keeps ⟨H1, H2, H3, H4, false, H6, H7, H8, H9, H10, H11, H12, H13, H14, false⟩ s0 x1 := State.txEndAll_keeps _ _ _ hk
  try clear_value x1
  exact Keeps.ite (fun _ => hx1) (fun _ => Keeps.ite (fun _ => State.hardResetStart_keeps _ hx1) (fun _ => State.fwFlush_keeps _ hx1))

theorem State.fwRecorded_keeps (n : Port) (k : ℕ) (h : ℕ) (bytes : List Byte) (hk : Keeps ⟨H1, H2, H3, H4, false, H6, H7, H8, H9, H10, H11, H12, H13, H14, false⟩ s0 s) : Keeps ⟨H1, H2, H3, H4, false, H6, H7, H8, H9, H10, H11, H12, H13, H14, false⟩ s0 (State.fwRecorded s n k h bytes) := by
  unfold State.fwRecorded
  refine Keeps.ite (fun _ => ?_) (fun _ => ?_)
  · exact hk
  · refine Keeps.ite (fun _ => ?_) (fun _ => ?_)
    · exact State.hardResetStart_keeps _ hk
    · refine Keeps.ite (fun _ => ?_) (fun _ => ?_)
      · split
        · exact hk
        · exact State.polQueue_keeps _ _ (State.modFw_keeps _ _ hk)
        · exact State.polQueue_keeps _ _ (State.modFw_keeps _ _ hk)
      · exact Keeps.ite (fun _ => State.modFw_keeps _ _ hk) (fun _ => Keeps.ite (fun _ => State.commitInForce_keeps _ _ (State.modFw_keeps _ _ hk)) (fun _ => Keeps.ite (fun _ => State.modFw_keeps _ _ hk) (fun _ => hk)))

theorem State.rxDiscard_keeps (n : Port) (k : ℕ) (hk : Keeps ⟨H1, H2, H3, H4, false, H6, H7, H8, H9, H10, H11, H12, H13, H14, false⟩ s0 s) : Keeps ⟨H1, H2, H3, H4, false, H6, H7, H8, H9, H10, H11, H12, H13, H14, false⟩ s0 (State.rxDiscard s n k) := by
  unfold State.rxDiscard
  exact State.txOverAll_keeps _ _ _ hk

theorem State.answerQueue_keeps (n : Port) (k : ℕ) (hk : Keeps ⟨H1, H2, H3, H4, H5, H6, H7, H8, H9, H10, H11, H12, H13, H14, false⟩ s0 s) : Keeps ⟨H1, H2, H3, H4, H5, H6, H7, H8, H9, H10, H11, H12, H13, H14, false⟩ s0 (State.answerQueue s n k) := by
  unfold State.answerQueue
  extract_lets -merge -underBinder +onlyGivenNames x0
  exact State.modPdl_keeps _ _ hk

theorem State.bistHandle_keeps (n : Port) (k : ℕ) (mode : ℕ) (hk : Keeps ⟨H1, H2, H3, H4, H5, H6, H7, H8, H9, H10, H11, H12, H13, H14, false⟩ s0 s) : Keeps ⟨H1, H2, H3, H4, H5, H6, H7, H8, H9, H10, H11, H12, H13, H14, false⟩ s0 (State.bistHandle s n k mode).2 := by
  unfold State.bistHandle
  extract_lets -merge -underBinder +onlyGivenNames x0 x1
  have hx1 : Keeps ⟨H1, H2, H3, H4, H5, H6, H7, H8, H9, H10, H11, H12, H13, H14, false⟩ s0 x1 := State.raise_keeps _ _ hk
  try clear_value x1
  refine Keeps.iteSnd (fun _ => ?_) (fun _ => ?_)
  · refine Keeps.mkSnd ?_
    exact State.modPdl_keeps _ _ hx1
  · refine Keeps.iteSnd (fun _ => ?_) (fun _ => ?_)
    · refine Keeps.mkSnd ?_
      exact State.modPdl_keeps _ _ hx1
    · refine Keeps.mkSnd ?_
      exact hx1

theorem State.rxRecorded_keeps (n : Port) (k : ℕ) (h : ℕ) (bytes : List Byte) {write : State → ℕ → State} (chunked : Bool) (unchunked : Bool) (hk : Keeps ⟨H1, H2, H3, H4, false, H6, H7, H8, H9, H10, H11, H12, H13, H14, false⟩ s0 s) (hwrite : ∀ a0 a1, Keeps ⟨H1, H2, H3, H4, false, H6, H7, H8, H9, H10, H11, H12, H13, H14, false⟩ s0 a0 → Keeps ⟨H1, H2, H3, H4, false, H6, H7, H8, H9, H10, H11, H12, H13, H14, false⟩ s0 (write a0 a1)) : Keeps ⟨H1, H2, H3, H4, false, H6, H7, H8, H9, H10, H11, H12, H13, H14, false⟩ s0 (State.rxRecorded s n k h bytes write chunked unchunked) := by
  unfold State.rxRecorded
  extract_lets -merge -underBinder +onlyGivenNames x0 x1
  split
  · rename_i _ y2 e2
    have hy2 : Keeps ⟨H1, H2, H3, H4, false, H6, H7, H8, H9, H10, H11, H12, H13, H14, false⟩ s0 y2 := by
      refine Keeps.snd e2 ?_
      refine Keeps.iteSnd (fun _ => ?_) (fun _ => ?_)
      · refine State.bistHandle_keeps _ _ _ ?_
        exact hk
      · refine Keeps.mkSnd ?_
        exact hk
    extract_lets -merge -underBinder +onlyGivenNames x3 x4
    have hx4 : Keeps ⟨H1, H2, H3, H4, false, H6, H7, H8, H9, H10, H11, H12, H13, H14, false⟩ s0 x4 := by
      unfold x4
      refine hwrite _ _ ?_
      exact hy2
    try clear_value x4
    extract_lets -merge -underBinder +onlyGivenNames x5
    have hx5 : Keeps ⟨H1, H2, H3, H4, false, H6, H7, H8, H9, H10, H11, H12, H13, H14, false⟩ s0 x5 := State.ackStore_keeps _ _ _ hx4
    try clear_value x5
    extract_lets -merge -underBinder +onlyGivenNames x6
    have hx6 : Keeps ⟨H1, H2, H3, H4, false, H6, H7, H8, H9, H10, H11, H12, H13, H14, false⟩ s0 x6 := State.rxDiscard_keeps _ _ hx5
    try clear_value x6
    extract_lets -merge -underBinder +onlyGivenNames x7
    have hx7 : Keeps ⟨H1, H2, H3, H4, false, H6, H7, H8, H9, H10, H11, H12, H13, H14, false⟩ s0 x7 := State.bump_keeps _ _ _ (State.raise_keeps _ _ hx6)
    try clear_value x7
    extract_lets -merge -underBinder +onlyGivenNames x8
    have hx8 : Keeps ⟨H1, H2, H3, H4, false, H6, H7, H8, H9, H10, H11, H12, H13, H14, false⟩ s0 x8 := State.postPort_keeps _ _ _ _ _ hx7
    try clear_value x8
    extract_lets -merge -underBinder +onlyGivenNames x9
    have hx9 : Keeps ⟨H1, H2, H3, H4, false, H6, H7, H8, H9, H10, H11, H12, H13, H14, false⟩ s0 x9 := Keeps.ite (fun _ => hx8) (fun _ => State.reasmAbort_keeps _ _ _ hx8)
    try clear_value x9
    extract_lets -merge -underBinder +onlyGivenNames x10
    have hx10 : Keeps ⟨H1, H2, H3, H4, false, H6, H7, H8, H9, H10, H11, H12, H13, H14, false⟩ s0 x10 := Keeps.ite (fun _ => State.trimReject_keeps _ hx9) (fun _ => hx9)
    try clear_value x10
    extract_lets -merge -underBinder +onlyGivenNames x11
    have hx11 : Keeps ⟨H1, H2, H3, H4, false, H6, H7, H8, H9, H10, H11, H12, H13, H14, false⟩ s0 x11 := Keeps.ite (fun _ => State.answerQueue_keeps _ _ hx10) (fun _ => hx10)
    try clear_value x11
    exact State.fwRecorded_keeps _ _ _ _ hx11

theorem State.rxMessage_keeps (n : Port) (k : ℕ) (h : ℕ) (f : PdFrame) (flags : ℕ) (hk : Keeps ⟨H1, H2, H3, H4, false, H6, H7, H8, H9, H10, H11, H12, H13, H14, false⟩ s0 s) : Keeps ⟨H1, H2, H3, H4, false, H6, H7, H8, H9, H10, H11, H12, H13, H14, false⟩ s0 (State.rxMessage s n k h f flags) := by
  unfold State.rxMessage
  exact Keeps.ite (fun _ => State.rxFull_keeps _ hk) (fun _ => Keeps.ite (fun _ => State.rxStoreErr_keeps _ hk) (fun _ => State.rxRecorded_keeps _ _ _ _ _ _ hk (fun _ _ h0 => State.ringWrite_keeps _ _ _ _ _ _ _ h0)))

theorem State.rxChunkData_keeps (n : Port) (k : ℕ) (h : ℕ) (f : PdFrame) (r : Reasm) (hk : Keeps ⟨H1, H2, H3, H4, false, H6, H7, H8, H9, H10, H11, H12, H13, H14, false⟩ s0 s) : Keeps ⟨H1, H2, H3, H4, false, H6, H7, H8, H9, H10, H11, H12, H13, H14, false⟩ s0 (State.rxChunkData s n k h f r) := by
  unfold State.rxChunkData
  extract_lets -merge -underBinder +onlyGivenNames x0 x1 x2 x3 x4
  have hx4 : Keeps ⟨H1, H2, H3, H4, false, H6, H7, H8, H9, H10, H11, H12, H13, H14, false⟩ s0 x4 := State.stWrite_keeps _ _ hk
  try clear_value x4
  extract_lets -merge -underBinder +onlyGivenNames x5 x6
  have hx6 : Keeps ⟨H1, H2, H3, H4, false, H6, H7, H8, H9, H10, H11, H12, H13, H14, false⟩ s0 x6 := State.stPut_keeps _ _ _ hx4
  try clear_value x6
  extract_lets -merge -underBinder +onlyGivenNames x7
  have hx7 : Keeps ⟨H1, H2, H3, H4, false, H6, H7, H8, H9, H10, H11, H12, H13, H14, false⟩ s0 x7 := State.put_keeps _ _ _ (State.reasmDel_keeps _ _ hx6)
  try clear_value x7
  exact Keeps.ite (fun _ => State.rxFull_keeps _ hk) (fun _ => Keeps.ite (fun _ => State.rxStoreErr_keeps _ hk) (fun _ => Keeps.ite (fun _ => State.rxRecorded_keeps _ _ _ _ _ _ hx7 (fun _ _ h8 => State.ringWrite_keeps _ _ _ _ _ _ _ h8)) (fun _ => State.ackStore_keeps _ _ _ (State.reasmSet_keeps _ _ hx4))))

theorem State.rxChunkFirst_keeps (n : Port) (k : ℕ) (h : ℕ) (f : PdFrame) (size : ℕ) (hk : Keeps ⟨H1, H2, H3, H4, false, H6, H7, H8, H9, H10, H11, H12, H13, H14, false⟩ s0 s) : Keeps ⟨H1, H2, H3, H4, false, H6, H7, H8, H9, H10, H11, H12, H13, H14, false⟩ s0 (State.rxChunkFirst s n k h f size) := by
  unfold State.rxChunkFirst
  refine Keeps.ite (fun _ => ?_) (fun _ => ?_)
  · exact State.chunkErr_keeps _ _ _ _ (State.ackStore_keeps _ _ _ hk)
  · split
    · exact State.rxFull_keeps _ hk
    · extract_lets -merge -underBinder +onlyGivenNames x0
      have hx0 : Keeps ⟨H1, H2, H3, H4, false, H6, H7, H8, H9, H10, H11, H12, H13, H14, false⟩ s0 x0 := State.stWrite_keeps _ _ hk
      try clear_value x0
      extract_lets -merge -underBinder +onlyGivenNames x1
      have hx1 : Keeps ⟨H1, H2, H3, H4, false, H6, H7, H8, H9, H10, H11, H12, H13, H14, false⟩ s0 x1 := State.put_keeps _ _ _ hx0
      try clear_value x1
      extract_lets -merge -underBinder +onlyGivenNames x2
      exact Keeps.ite (fun _ => State.rxStoreErr_keeps _ hk) (fun _ => Keeps.ite (fun _ => State.rxFull_keeps _ hk) (fun _ => State.rxChunkData_keeps _ _ _ _ _ (State.reasmSet_keeps _ _ hx1)))

theorem State.rxChunk_keeps (n : Port) (k : ℕ) (h : ℕ) (f : PdFrame) (size : ℕ) (num : ℕ) (hk : Keeps ⟨H1, H2, H3, H4, false, H6, H7, H8, H9, H10, H11, H12, H13, H14, false⟩ s0 s) : Keeps ⟨H1, H2, H3, H4, false, H6, H7, H8, H9, H10, H11, H12, H13, H14, false⟩ s0 (State.rxChunk s n k h f size num) := by
  unfold State.rxChunk
  split
  · exact Keeps.ite (fun _ => State.rxChunkFirst_keeps _ _ _ _ _ hk) (fun _ => State.ackStore_keeps _ _ _ hk)
  · extract_lets -merge -underBinder +onlyGivenNames x0
    have hx0 : Keeps ⟨H1, H2, H3, H4, false, H6, H7, H8, H9, H10, H11, H12, H13, H14, false⟩ s0 x0 := State.reasmAbort_keeps _ _ _ hk
    try clear_value x0
    extract_lets -merge -underBinder +onlyGivenNames x1
    have hx1 : Keeps ⟨H1, H2, H3, H4, false, H6, H7, H8, H9, H10, H11, H12, H13, H14, false⟩ s0 x1 := State.reasmAbort_keeps _ _ _ hk
    try clear_value x1
    exact Keeps.ite (fun _ => Keeps.ite (fun _ => State.rxChunkFirst_keeps _ _ _ _ _ hx0) (fun _ => State.ackStore_keeps _ _ _ hx0)) (fun _ => Keeps.ite (fun _ => Keeps.ite (fun _ => State.rxChunkFirst_keeps _ _ _ _ _ hx1) (fun _ => State.ackStore_keeps _ _ _ hx1)) (fun _ => Keeps.ite (fun _ => State.ackStore_keeps _ _ _ (State.reasmAbort_keeps _ _ _ hk)) (fun _ => State.rxChunkData_keeps _ _ _ _ _ hk)))

theorem State.rxChunkReq_keeps (n : Port) (k : ℕ) (h : ℕ) (f : PdFrame) (num : ℕ) (hk : Keeps ⟨H1, H2, H3, H4, false, H6, H7, H8, H9, H10, H11, H12, H13, H14, false⟩ s0 s) : Keeps ⟨H1, H2, H3, H4, false, H6, H7, H8, H9, H10, H11, H12, H13, H14, false⟩ s0 (State.rxChunkReq s n k h f num) := by
  unfold State.rxChunkReq
  extract_lets -merge -underBinder +onlyGivenNames x0
  split
  · exact Keeps.ite (fun _ => State.modPdl_keeps _ _ (State.ackStore_keeps _ _ _ hk)) (fun _ => State.rxMessage_keeps _ _ _ _ _ hk)
  · exact State.rxMessage_keeps _ _ _ _ _ hk

theorem State.chunkWait_keeps (n : Port) (hk : Keeps ⟨H1, H2, H3, H4, H5, H6, H7, H8, H9, H10, H11, H12, H13, H14, false⟩ s0 s) : Keeps ⟨H1, H2, H3, H4, H5, H6, H7, H8, H9, H10, H11, H12, H13, H14, false⟩ s0 (State.chunkWait s n) := by
  unfold State.chunkWait
  extract_lets -merge -underBinder +onlyGivenNames x0
  exact State.modPdl_keeps _ _ hk

theorem State.goodCrc_keeps (n : Port) (k : ℕ) (id : ℕ) (hk : Keeps ⟨H1, H2, H3, H4, false, H6, H7, H8, H9, H10, H11, H12, H13, H14, false⟩ s0 s) : Keeps ⟨H1, H2, H3, H4, false, H6, H7, H8, H9, H10, H11, H12, H13, H14, false⟩ s0 (State.goodCrc s n k id) := by
  unfold State.goodCrc
  extract_lets -merge -underBinder +onlyGivenNames x0 x1 x2
  have hx2 : Keeps ⟨H1, H2, H3, H4, false, H6, H7, H8, H9, H10, H11, H12, H13, H14, false⟩ s0 x2 := State.bump_keeps _ _ _ hk
  try clear_value x2
  split
  · extract_lets -merge -underBinder +onlyGivenNames x3
    have hx3 : Keeps ⟨H1, H2, H3, H4, false, H6, H7, H8, H9, H10, H11, H12, H13, H14, false⟩ s0 x3 := State.txCtrUp_keeps _ _ (State.modPdl_keeps _ _ hk)
    try clear_value x3
    refine Keeps.ite (fun _ => ?_) (fun _ => ?_)
    · exact State.bump_keeps _ _ _ (State.raise_keeps _ _ hx3)
    · split
      · exact State.chunkWait_keeps _ (State.reasmSet_keeps _ _ hx3)
      · exact hx3
  · split
    · extract_lets -merge -underBinder +onlyGivenNames x4
      have hx4 : Keeps ⟨H1, H2, H3, H4, false, H6, H7, H8, H9, H10, H11, H12, H13, H14, false⟩ s0 x4 := Keeps.ite (fun _ => State.modPdl_keeps _ _ hk) (fun _ => hk)
      try clear_value x4
      exact Keeps.ite (fun _ => Keeps.ite (fun _ => State.chunkWait_keeps _ (State.modPdl_keeps _ _ (State.txCtrUp_keeps _ _ hk))) (fun _ => State.txOver_keeps _ _ _ hx4)) (fun _ => hx2)
    · exact hx2

theorem State.rxValid_keeps (n : Port) (k : ℕ) (f : PdFrame) (hk : Keeps ⟨H1, H2, H3, H4, false, H6, H7, H8, H9, H10, H11, H12, H13, H14, false⟩ s0 s) : Keeps ⟨H1, H2, H3, H4, false, H6, H7, H8, H9, H10, H11, H12, H13, H14, false⟩ s0 (State.rxValid s n k f) := by
  unfold State.rxValid
  extract_lets -merge -underBinder +onlyGivenNames x0 x1 x2 x3 x4 x5 x6 x7
  have hx7 : Keeps ⟨H1, H2, H3, H4, false, H6, H7, H8, H9, H10, H11, H12, H13, H14, false⟩ s0 x7 := Keeps.ite (fun _ => State.raise_keeps _ _ (State.sopReset_keeps _ _ hk)) (fun _ => hk)
  try clear_value x7
  extract_lets -merge -underBinder +onlyGivenNames x8 x9
  exact Keeps.ite (fun _ => hk) (fun _ => Keeps.ite (fun _ => Keeps.ite (fun _ => State.modPdl_keeps _ _ hk) (fun _ => hk)) (fun _ => Keeps.ite (fun _ => State.bump_keeps _ _ _ hk) (fun _ => Keeps.ite (fun _ => State.goodCrc_keeps _ _ _ hk) (fun _ => Keeps.ite (fun _ => State.bump_keeps _ _ _ (State.modPdl_keeps _ _ hx7)) (fun _ => Keeps.ite (fun _ => Keeps.ite (fun _ => State.rxMessage_keeps _ _ _ _ _ hx7) (fun _ => Keeps.ite (fun _ => State.rxChunkReq_keeps _ _ _ _ _ hx7) (fun _ => State.rxChunk_keeps _ _ _ _ _ _ hx7))) (fun _ => State.rxMessage_keeps _ _ _ _ _ hx7))))))

theorem State.rxFrame_keeps (n : Port) (f : PdFrame) (hk : Keeps ⟨H1, H2, H3, false, false, H6, H7, H8, H9, H10, H11, H12, H13, H14, false⟩ s0 s) : Keeps ⟨H1, H2, H3, false, false, H6, H7, H8, H9, H10, H11, H12, H13, H14, false⟩ s0 (State.rxFrame s n f) := by
  unfold State.rxFrame
  extract_lets -merge -underBinder +onlyGivenNames x0 x1
  have hx1 : Keeps ⟨H1, H2, H3, false, false, H6, H7, H8, H9, H10, H11, H12, H13, H14, false⟩ s0 x1 := State.modPdl_keeps _ _ hk
  try clear_value x1
  refine Keeps.ite (fun _ => ?_) (fun _ => ?_)
  · exact hk
  · split
    · exact State.bump_keeps _ _ _ hx1
    · exact State.bump_keeps _ _ _ hx1
    · exact hx1
    · exact Keeps.ite (fun _ => State.hardReset_keeps _ _ hx1) (fun _ => hx1)
    · extract_lets -merge -underBinder +onlyGivenNames x2
      exact Keeps.ite (fun _ => State.bump_keeps _ _ _ hx1) (fun _ => Keeps.ite (fun _ => State.bump_keeps _ _ _ hx1) (fun _ => State.rxValid_keeps _ _ _ hx1))

theorem State.txCheck_keeps (n : Port) (hk : Keeps ⟨H1, H2, H3, H4, false, H6, H7, H8, H9, H10, H11, H12, H13, H14, false⟩ s0 s) : Keeps ⟨H1, H2, H3, H4, false, H6, H7, H8, H9, H10, H11, H12, H13, H14, false⟩ s0 (State.txCheck s n) := by
  unfold State.txCheck
  extract_lets -merge -underBinder +onlyGivenNames x0
  split
  · exact hk
  · extract_lets -merge -underBinder +onlyGivenNames x1
    extract_lets -merge -underBinder +onlyGivenNames x2
    have hx2 : Keeps ⟨H1, H2, H3, H4, false, H6, H7, H8, H9, H10, H11, H12, H13, H14, false⟩ s0 x2 := State.stPut_keeps _ _ _ hk
    try clear_value x2
    extract_lets -merge -underBinder +onlyGivenNames x3 x4
    exact Keeps.ite (fun _ => hk) (fun _ => Keeps.ite (fun _ => State.txOver_keeps _ _ _ hk) (fun _ => Keeps.ite (fun _ => State.txOver_keeps _ _ _ (State.stNote_keeps _ _ _ hk)) (fun _ => Keeps.ite (fun _ => State.txOver_keeps _ _ _ hk) (fun _ => Keeps.ite (fun _ => Keeps.ite (fun _ => State.modPdl_keeps _ _ hx2) (fun _ => State.modCc_keeps _ _ (State.modPdl_keeps _ _ hx2))) (fun _ => Keeps.ite (fun _ => State.modPdl_keeps _ _ hx2) (fun _ => State.modPdl_keeps _ _ hx2))))))

theorem State.txSend_keeps (n : Port) (hk : Keeps ⟨H1, H2, H3, H4, false, H6, H7, H8, H9, H10, H11, H12, H13, H14, false⟩ s0 s) : Keeps ⟨H1, H2, H3, H4, false, H6, H7, H8, H9, H10, H11, H12, H13, H14, false⟩ s0 (State.txSend s n) := by
  unfold State.txSend
  extract_lets -merge -underBinder +onlyGivenNames x0
  split
  · exact hk
  · extract_lets -merge -underBinder +onlyGivenNames x1
    extract_lets -merge -underBinder +onlyGivenNames x2 x3
    have hx3 : Keeps ⟨H1, H2, H3, H4, false, H6, H7, H8, H9, H10, H11, H12, H13, H14, false⟩ s0 x3 := Keeps.ite (fun _ => State.sopReset_keeps _ _ hk) (fun _ => hk)
    try clear_value x3
    extract_lets -merge -underBinder +onlyGivenNames x4 x5
    exact Keeps.ite (fun _ => hk) (fun _ => Keeps.ite (fun _ => State.txOver_keeps _ _ _ hk) (fun _ => Keeps.ite (fun _ => State.modPdl_keeps _ _ hk) (fun _ => State.modPdl_keeps _ _ (State.lineOut_keeps _ _ _ hx3))))

theorem State.layerFail_keeps (n : Port) (l : LayerTx) (rest : List LayerTx) (hk : Keeps ⟨H1, H2, H3, H4, false, H6, H7, H8, H9, H10, H11, H12, H13, H14, false⟩ s0 s) : Keeps ⟨H1, H2, H3, H4, false, H6, H7, H8, H9, H10, H11, H12, H13, H14, false⟩ s0 (State.layerFail s n l rest) := by
  unfold State.layerFail
  extract_lets -merge -underBinder +onlyGivenNames x0
  have hx0 : Keeps ⟨H1, H2, H3, H4, false, H6, H7, H8, H9, H10, H11, H12, H13, H14, false⟩ s0 x0 := State.modPdl_keeps _ _ hk
  try clear_value x0
  extract_lets -merge -underBinder +onlyGivenNames x1
  have hx1 : Keeps ⟨H1, H2, H3, H4, false, H6, H7, H8, H9, H10, H11, H12, H13, H14, false⟩ s0 x1 := Keeps.ite (fun _ => State.txCtrUp_keeps _ _ hx0) (fun _ => hx0)
  try clear_value x1
  exact Keeps.ite (fun _ => State.bump_keeps _ _ _ (State.raise_keeps _ _ hx1)) (fun _ => State.reasmAbort_keeps _ _ _ hx1)

theorem State.layerSend_keeps (n : Port) (l : LayerTx) (rest : List LayerTx) (hk : Keeps ⟨H1, H2, H3, H4, false, H6, H7, H8, H9, H10, H11, H12, H13, H14, false⟩ s0 s) : Keeps ⟨H1, H2, H3, H4, false, H6, H7, H8, H9, H10, H11, H12, H13, H14, false⟩ s0 (State.layerSend s n l rest) := by
  unfold State.layerSend
  extract_lets -merge -underBinder +onlyGivenNames x0 x1
  exact Keeps.ite (fun _ => State.layerFail_keeps _ _ _ hk) (fun _ => State.modPdl_keeps _ _ (State.lineOut_keeps _ _ _ hk))

theorem State.txNext_keeps (n : Port) (hk : Keeps ⟨H1, H2, H3, H4, false, H6, H7, H8, H9, H10, H11, H12, H13, H14, false⟩ s0 s) : Keeps ⟨H1, H2, H3, H4, false, H6, H7, H8, H9, H10, H11, H12, H13, H14, false⟩ s0 (State.txNext s n) := by
  unfold State.txNext
  refine Keeps.ite (fun _ => ?_) (fun _ => ?_)
  · exact hk
  · split
    · exact State.layerSend_keeps _ _ _ hk
    · exact Keeps.ite (fun _ => State.txSend_keeps _ hk) (fun _ => hk)

theorem State.gcrcTimeout_keeps (n : Port) (hk : Keeps ⟨H1, H2, H3, H4, false, H6, H7, H8, H9, H10, H11, H12, H13, H14, false⟩ s0 s) : Keeps ⟨H1, H2, H3, H4, false, H6, H7, H8, H9, H10, H11, H12, H13, H14, false⟩ s0 (State.gcrcTimeout s n) := by
  unfold State.gcrcTimeout
  extract_lets -merge -underBinder +onlyGivenNames x0
  split
  · exact Keeps.ite (fun _ => State.modPdl_keeps _ _ hk) (fun _ => State.layerFail_keeps _ _ _ hk)
  · refine Keeps.ite (fun _ => ?_) (fun _ => ?_)
    · exact hk
    · split
      · exact hk
      · exact Keeps.ite (fun _ => State.modPdl_keeps _ _ hk) (fun _ => State.txOver_keeps _ _ _ hk)

theorem State.cableReset_keeps (n : Port) (hk : Keeps ⟨H1, H2, H3, H4, false, H6, H7, H8, H9, H10, H11, H12, H13, H14, false⟩ s0 s) : Keeps ⟨H1, H2, H3, H4, false, H6, H7, H8, H9, H10, H11, H12, H13, H14, false⟩ s0 (State.cableReset s n) := by
  unfold State.cableReset
  extract_lets -merge -underBinder +onlyGivenNames x0
  have hx0 : Keeps ⟨H1, H2, H3, H4, false, H6, H7, H8, H9, H10, H11, H12, H13, H14, false⟩ s0 x0 := State.txOverAll_keeps _ _ _ hk
  try clear_value x0
  extract_lets -merge -underBinder +onlyGivenNames x1
  have hx1 : Keeps ⟨H1, H2, H3, H4, false, H6, H7, H8, H9, H10, H11, H12, H13, H14, false⟩ s0 x1 := State.sopReset_keeps _ _ (State.sopReset_keeps _ _ hx0)
  try clear_value x1
  exact Keeps.ite (fun _ => State.raise_keeps _ _ hk) (fun _ => State.raise_keeps _ _ (State.lineOut_keeps _ _ _ hx1))

theorem State.amsEnd_keeps (n : Port) (hk : Keeps ⟨H1, H2, H3, H4, H5, H6, H7, H8, H9, H10, H11, H12, H13, H14, false⟩ s0 s) : Keeps ⟨H1, H2, H3, H4, H5, H6, H7, H8, H9, H10, H11, H12, H13, H14, false⟩ s0 (State.amsEnd s n) := by
  unfold State.amsEnd
  exact Keeps.ite (fun _ => State.modPdl_keeps _ _ hk) (fun _ => hk)

theorem State.txCancel_keeps (n : Port) (hk : Keeps ⟨H1, H2, H3, H4, false, H6, H7, H8, H9, H10, H11, H12, H13, H14, false⟩ s0 s) : Keeps ⟨H1, H2, H3, H4, false, H6, H7, H8, H9, H10, H11, H12, H13, H14, false⟩ s0 (State.txCancel s n) := by
  unfold State.txCancel
  extract_lets -merge -underBinder +onlyGivenNames x0 x1 x2
  exact State.txOverAll_keeps _ _ _ hk

theorem State.pdlClearStats_keeps (n : Port) (hk : Keeps H s0 s) : Keeps H s0 (State.pdlClearStats s n) := by
  unfold State.pdlClearStats
  exact State.wr_keeps _ _ _ (State.wr_keeps _ _ _ (State.wr_keeps _ _ _ (State.wr_keeps _ _ _ hk)))

theorem State.msgidLoad_keeps (n : Port) (v : ℕ) (hk : Keeps H s0 s) : Keeps H s0 (State.msgidLoad s n v) := by
  unfold State.msgidLoad
  exact Keeps.ite (fun _ => State.lockedWrite_keeps _ hk) (fun _ => State.wr_keeps _ _ _ hk)

theorem State.pdlEnable_keeps (n : Port) (b : Bool) (hk : Keeps ⟨H1, H2, H3, H4, false, H6, H7, H8, H9, H10, H11, H12, H13, H14, false⟩ s0 s) : Keeps ⟨H1, H2, H3, H4, false, H6, H7, H8, H9, H10, H11, H12, H13, H14, false⟩ s0 (State.pdlEnable s n b) := by
  unfold State.pdlEnable
  extract_lets -merge -underBinder +onlyGivenNames x0
  have hx0 : Keeps ⟨H1, H2, H3, H4, false, H6, H7, H8, H9, H10, H11, H12, H13, H14, false⟩ s0 x0 := State.putB_keeps _ _ _ hk
  try clear_value x0
  extract_lets -merge -underBinder +onlyGivenNames x1
  have hx1 : Keeps ⟨H1, H2, H3, H4, false, H6, H7, H8, H9, H10, H11, H12, H13, H14, false⟩ s0 x1 := State.modPort_keeps _ _ hx0
  try clear_value x1
  extract_lets -merge -underBinder +onlyGivenNames x2 x3
  have hx3 : Keeps ⟨H1, H2, H3, H4, false, H6, H7, H8, H9, H10, H11, H12, H13, H14, false⟩ s0 x3 := State.modPdl_keeps _ _ hx0
  try clear_value x3
  exact Keeps.ite (fun _ => Keeps.ite (fun _ => State.hardResetStart_keeps _ (State.put_keeps _ _ _ hx0)) (fun _ => Keeps.ite (fun _ => Keeps.ite (fun _ => State.fwSend_keeps _ _ _ _ _ hx1) (fun _ => hx1)) (fun _ => hx0))) (fun _ => State.txOverAll_keeps _ _ _ hx3)

theorem State.xbufRel_keeps (n : Port) (m : ℕ) (hk : Keeps H s0 s) : Keeps H s0 (State.xbufRel s n m) := by
  unfold State.xbufRel
  exact foldl_keeps _ hk (fun _ _ h0 => Keeps.ite (fun _ => State.put_keeps _ _ _ (State.put_keeps _ _ _ h0)) (fun _ => h0))

theorem State.windowTick_keeps (n : Port) (calm : Bool) (hk : Keeps ⟨H1, H2, H3, H4, H5, H6, H7, H8, H9, H10, H11, H12, H13, H14, false⟩ s0 s) : Keeps ⟨H1, H2, H3, H4, H5, H6, H7, H8, H9, H10, H11, H12, H13, H14, false⟩ s0 (State.windowTick s n calm) := by
  unfold State.windowTick
  extract_lets -merge -underBinder +onlyGivenNames x0 x1 x2 x3
  exact Keeps.ite (fun _ => Keeps.ite (fun _ => Keeps.ite (fun _ => State.setWin_keeps _ _ _ hk) (fun _ => Keeps.ite (fun _ => State.setWin_keeps _ _ _ hk) (fun _ => Keeps.ite (fun _ => State.setWin_keeps _ _ _ hk) (fun _ => State.setWin_keeps _ _ _ hk)))) (fun _ => State.setWin_keeps _ _ _ hk)) (fun _ => Keeps.ite (fun _ => State.modPol_keeps _ _ hk) (fun _ => State.setWin_keeps _ _ _ hk))

theorem State.genRefused_keeps (n : Port) (hk : Keeps H s0 s) : Keeps H s0 (State.genRefused s n) := by
  unfold State.genRefused
  exact State.raise_keeps _ _ hk

theorem State.commit_keeps (n : Port) (hk : Keeps ⟨H1, H2, H3, false, H5, H6, H7, H8, H9, H10, H11, H12, H13, H14, false⟩ s0 s) : Keeps ⟨H1, H2, H3, false, H5, H6, H7, H8, H9, H10, H11, H12, H13, H14, false⟩ s0 (State.commit s n) := by
  unfold State.commit
  extract_lets -merge -underBinder +onlyGivenNames x0 x1 x2 x3 x4 x5 x6 x7 x8 x9 x10
  have hx10 : Keeps ⟨H1, H2, H3, false, H5, H6, H7, H8, H9, H10, H11, H12, H13, H14, false⟩ s0 x10 := State.aosWrite_keeps _ _ hk
  try clear_value x10
  extract_lets -merge -underBinder +onlyGivenNames x11
  have hx11 : Keeps ⟨H1, H2, H3, false, H5, H6, H7, H8, H9, H10, H11, H12, H13, H14, false⟩ s0 x11 := State.modPol_keeps _ _ hx10
  try clear_value x11
  extract_lets -merge -underBinder +onlyGivenNames x12
  have hx12 : Keeps ⟨H1, H2, H3, false, H5, H6, H7, H8, H9, H10, H11, H12, H13, H14, false⟩ s0 x12 := Keeps.ite (fun _ => State.put_keeps _ _ _ hx11) (fun _ => hx11)
  try clear_value x12
  extract_lets -merge -underBinder +onlyGivenNames x13
  have hx13 : Keeps ⟨H1, H2, H3, false, H5, H6, H7, H8, H9, H10, H11, H12, H13, H14, false⟩ s0 x13 := Keeps.ite (fun _ => State.put_keeps _ _ _ hx12) (fun _ => hx12)
  try clear_value x13
  exact State.raise_keeps _ _ hx13

theorem State.transBegin_keeps (n : Port) (vNew : ℕ) (gen : ℕ) (hk : Keeps ⟨H1, H2, H3, H4, H5, H6, H7, H8, H9, H10, H11, H12, H13, H14, false⟩ s0 s) : Keeps ⟨H1, H2, H3, H4, H5, H6, H7, H8, H9, H10, H11, H12, H13, H14, false⟩ s0 (State.transBegin s n vNew gen) := by
  unfold State.transBegin
  extract_lets -merge -underBinder +onlyGivenNames x0 x1
  have hx1 : Keeps ⟨H1, H2, H3, H4, H5, H6, H7, H8, H9, H10, H11, H12, H13, H14, false⟩ s0 x1 := State.put_keeps _ _ _ (State.put_keeps _ _ _ (State.put_keeps _ _ _ hk))
  try clear_value x1
  extract_lets -merge -underBinder +onlyGivenNames x2
  have hx2 : Keeps ⟨H1, H2, H3, H4, H5, H6, H7, H8, H9, H10, H11, H12, H13, H14, false⟩ s0 x2 := State.modPol_keeps _ _ hx1
  try clear_value x2
  exact Keeps.ite (fun _ => State.genRefused_keeps _ hk) (fun _ => State.bump_keeps _ _ _ hx2)

theorem State.polCmd_keeps (n : Port) (c : PolCmd) (hk : Keeps ⟨H1, H2, H3, false, H5, H6, H7, H8, H9, H10, H11, H12, H13, H14, false⟩ s0 s) : Keeps ⟨H1, H2, H3, false, H5, H6, H7, H8, H9, H10, H11, H12, H13, H14, false⟩ s0 (State.polCmd s n c) := by
  unfold State.polCmd
  split
  · exact Keeps.ite (fun _ => State.commit_keeps _ hk) (fun _ => State.genRefused_keeps _ hk)
  · exact Keeps.ite (fun _ => State.snapClear_keeps _ hk) (fun _ => State.genRefused_keeps _ hk)
  · exact State.transBegin_keeps _ _ _ hk
  · exact Keeps.ite (fun _ => State.polQueue_keeps _ _ hk) (fun _ => Keeps.ite (fun _ => State.raise_keeps _ _ (State.putB_keeps _ _ _ hk)) (fun _ => State.genRefused_keeps _ hk))

theorem State.snapCheck_keeps (n : Port) (hk : Keeps ⟨H1, H2, H3, H4, false, H6, H7, H8, H9, H10, H11, H12, H13, H14, false⟩ s0 s) : Keeps ⟨H1, H2, H3, H4, false, H6, H7, H8, H9, H10, H11, H12, H13, H14, false⟩ s0 (State.snapCheck s n) := by
  unfold State.snapCheck
  extract_lets -merge -underBinder +onlyGivenNames x0 x1
  have hx1 : Keeps ⟨H1, H2, H3, H4, false, H6, H7, H8, H9, H10, H11, H12, H13, H14, false⟩ s0 x1 := State.putB_keeps _ _ _ (State.put_keeps _ _ _ hk)
  try clear_value x1
  extract_lets -merge -underBinder +onlyGivenNames x2
  have hx2 : Keeps ⟨H1, H2, H3, H4, false, H6, H7, H8, H9, H10, H11, H12, H13, H14, false⟩ s0 x2 := State.put_keeps _ _ _ (State.put_keeps _ _ _ hk)
  try clear_value x2
  extract_lets -merge -underBinder +onlyGivenNames x3
  have hx3 : Keeps ⟨H1, H2, H3, H4, false, H6, H7, H8, H9, H10, H11, H12, H13, H14, false⟩ s0 x3 := State.polEvt_keeps _ _ (State.modPol_keeps _ _ hx2)
  try clear_value x3
  exact Keeps.ite (fun _ => Keeps.ite (fun _ => State.modPol_keeps _ _ hx1) (fun _ => Keeps.ite (fun _ => hx2) (fun _ => Keeps.ite (fun _ => hx3) (fun _ => Keeps.ite (fun _ => State.fwSend_keeps _ _ _ _ _ hx3) (fun _ => Keeps.ite (fun _ => State.hardResetStart_keeps _ hx3) (fun _ => hx3)))))) (fun _ => State.put_keeps _ _ _ (State.put_keeps _ _ _ hk))

theorem State.transStep_keeps (n : Port) (vbus : List ℕ) (hk : Keeps ⟨H1, H2, H3, H4, H5, H6, H7, H8, H9, H10, H11, H12, H13, H14, false⟩ s0 s) : Keeps ⟨H1, H2, H3, H4, H5, H6, H7, H8, H9, H10, H11, H12, H13, H14, false⟩ s0 (State.transStep s n vbus) := by
  unfold State.transStep
  extract_lets -merge -underBinder +onlyGivenNames x0 x1 x2 x3 x4
  have hx4 : Keeps ⟨H1, H2, H3, H4, H5, H6, H7, H8, H9, H10, H11, H12, H13, H14, false⟩ s0 x4 := State.modPol_keeps _ _ hk
  try clear_value x4
  extract_lets -merge -underBinder +onlyGivenNames x5
  have hx5 : Keeps ⟨H1, H2, H3, H4, H5, H6, H7, H8, H9, H10, H11, H12, H13, H14, false⟩ s0 x5 := Keeps.ite (fun _ => Keeps.ite (fun _ => State.assistEnd_keeps _ hx4) (fun _ => hx4)) (fun _ => hk)
  try clear_value x5
  extract_lets -merge -underBinder +onlyGivenNames x6 x7 x8 x9
  have hx9 : Keeps ⟨H1, H2, H3, H4, H5, H6, H7, H8, H9, H10, H11, H12, H13, H14, false⟩ s0 x9 := State.setTarget_keeps _ _ hx5
  try clear_value x9
  exact Keeps.ite (fun _ => Keeps.ite (fun _ => State.put_keeps _ _ _ (State.modPol_keeps _ _ hx9)) (fun _ => hx9)) (fun _ => hx5)

theorem State.polTick_keeps (n : Port) (hk : Keeps ⟨H1, H2, H3, false, false, H6, H7, H8, H9, H10, H11, H12, H13, H14, false⟩ s0 s) : Keeps ⟨H1, H2, H3, false, false, H6, H7, H8, H9, H10, H11, H12, H13, H14, false⟩ s0 (State.polTick s n) := by
  unfold State.polTick
  extract_lets -merge -underBinder +onlyGivenNames x0 x1
  have hx1 : Keeps ⟨H1, H2, H3, false, false, H6, H7, H8, H9, H10, H11, H12, H13, H14, false⟩ s0 x1 := State.modPol_keeps _ _ hk
  try clear_value x1
  extract_lets -merge -underBinder +onlyGivenNames x2
  have hx2 : Keeps ⟨H1, H2, H3, false, false, H6, H7, H8, H9, H10, H11, H12, H13, H14, false⟩ s0 x2 := foldl_keeps _ hx1 (fun _ _ h3 => State.polCmd_keeps _ _ h3)
  try clear_value x2
  extract_lets -merge -underBinder +onlyGivenNames x4
  have hx4 : Keeps ⟨H1, H2, H3, false, false, H6, H7, H8, H9, H10, H11, H12, H13, H14, false⟩ s0 x4 := State.snapCheck_keeps _ hx2
  try clear_value x4
  extract_lets -merge -underBinder +onlyGivenNames x5
  have hx5 : Keeps ⟨H1, H2, H3, false, false, H6, H7, H8, H9, H10, H11, H12, H13, H14, false⟩ s0 x5 := State.setTarget_keeps _ _ hx4
  try clear_value x5
  exact Keeps.ite (fun _ => hx5) (fun _ => State.cenLevel_keeps _ _ hx5)

theorem State.transFail_keeps (n : Port) (hk : Keeps ⟨H1, H2, H3, false, false, H6, H7, H8, H9, H10, H11, H12, H13, H14, false⟩ s0 s) : Keeps ⟨H1, H2, H3, false, false, H6, H7, H8, H9, H10, H11, H12, H13, H14, false⟩ s0 (State.transFail s n) := by
  unfold State.transFail
  extract_lets -merge -underBinder +onlyGivenNames x0 x1
  have hx1 : Keeps ⟨H1, H2, H3, false, false, H6, H7, H8, H9, H10, H11, H12, H13, H14, false⟩ s0 x1 := State.assistEnd_keeps _ (State.bump_keeps _ _ _ (State.put_keeps _ _ _ hk))
  try clear_value x1
  extract_lets -merge -underBinder +onlyGivenNames x2
  have hx2 : Keeps ⟨H1, H2, H3, false, false, H6, H7, H8, H9, H10, H11, H12, H13, H14, false⟩ s0 x2 := State.polEvt_keeps _ _ (State.snapClear_keeps _ hx1)
  try clear_value x2
  exact Keeps.ite (fun _ => State.hardResetStart_keeps _ hx2) (fun _ => State.put_keeps _ _ _ hx2)

theorem State.preEval_keeps (n : Port) (hk : Keeps ⟨H1, H2, H3, H4, H5, H6, H7, H8, H9, H10, H11, H12, H13, H14, false⟩ s0 s) : Keeps ⟨H1, H2, H3, H4, H5, H6, H7, H8, H9, H10, H11, H12, H13, H14, false⟩ s0 (State.preEval s n) := by
  unfold State.preEval
  extract_lets -merge -underBinder +onlyGivenNames x0
  exact Keeps.ite (fun _ => State.guardTo_keeps _ _ hk) (fun _ => Keeps.ite (fun _ => State.modGuard_keeps _ _ (State.guardTo_keeps _ _ hk)) (fun _ => State.put_keeps _ _ _ hk))

theorem State.backoffLeave_keeps (n : Port) (hk : Keeps ⟨H1, H2, H3, H4, H5, H6, H7, H8, H9, H10, H11, H12, H13, H14, false⟩ s0 s) : Keeps ⟨H1, H2, H3, H4, H5, H6, H7, H8, H9, H10, H11, H12, H13, H14, false⟩ s0 (State.backoffLeave s n) := by
  unfold State.backoffLeave
  exact Keeps.ite (fun _ => State.preEval_keeps _ (State.raise_keeps _ _ (State.guardTo_keeps _ _ hk))) (fun _ => Keeps.ite (fun _ => State.modGuard_keeps _ _ hk) (fun _ => State.guardTo_keeps _ _ hk))

theorem State.guardTick_keeps (n : Port) (hk : Keeps ⟨H1, H2, H3, H4, H5, H6, H7, H8, H9, H10, H11, H12, H13, H14, false⟩ s0 s) : Keeps ⟨H1, H2, H3, H4, H5, H6, H7, H8, H9, H10, H11, H12, H13, H14, false⟩ s0 (State.guardTick s n) := by
  unfold State.guardTick
  extract_lets -merge -underBinder +onlyGivenNames x0
  clear_value x0
  extract_lets -merge -underBinder +onlyGivenNames x1 x2
  have hx2 : Keeps ⟨H1, H2, H3, H4, H5, H6, H7, H8, H9, H10, H11, H12, H13, H14, false⟩ s0 x2 := State.modGuard_keeps _ _ hk
  try clear_value x2
  extract_lets -merge -underBinder +onlyGivenNames x3
  have hx3 : Keeps ⟨H1, H2, H3, H4, H5, H6, H7, H8, H9, H10, H11, H12, H13, H14, false⟩ s0 x3 := Keeps.ite (fun _ => State.guardHalt_keeps _ hx2) (fun _ => hx2)
  try clear_value x3
  refine Keeps.ite (fun _ => ?_) (fun _ => ?_)
  · exact Keeps.ite (fun _ => State.guardTo_keeps _ _ hx3) (fun _ => hx3)
  · split
    · exact Keeps.ite (fun _ => State.backoffLeave_keeps _ hx2) (fun _ => hx2)
    · exact Keeps.ite (fun _ => State.preEval_keeps _ (State.guardTo_keeps _ _ hx2)) (fun _ => hx2)
    · exact State.preEval_keeps _ hx2
    · extract_lets -merge -underBinder +onlyGivenNames x4
      exact State.modGuard_keeps _ _ hx2

theorem State.slowTrips_keeps (n : Port) (mean : ℕ) (hot : Bool) (hk : Keeps ⟨H1, H2, H3, false, false, H6, H7, H8, H9, H10, H11, false, H13, H14, false⟩ s0 s) : Keeps ⟨H1, H2, H3, false, false, H6, H7, H8, H9, H10, H11, false, H13, H14, false⟩ s0 (State.slowTrips s n mean hot) := by
  unfold State.slowTrips
  extract_lets -merge -underBinder +onlyGivenNames x0 x1 x2
  have hx2 : Keeps ⟨H1, H2, H3, false, false, H6, H7, H8, H9, H10, H11, false, H13, H14, false⟩ s0 x2 := State.modGuard_keeps _ _ hk
  try clear_value x2
  extract_lets -merge -underBinder +onlyGivenNames x3 x4
  exact Keeps.ite (fun _ => hk) (fun _ => Keeps.ite (fun _ => hx2) (fun _ => State.trip_keeps _ _ _ hx2))

theorem State.thermTick_keeps (n : Port) (t : ℤ) (hk : Keeps H s0 s) : Keeps H s0 (State.thermTick s n t) := by
  unfold State.thermTick
  extract_lets -merge -underBinder +onlyGivenNames x0 x1
  split
  · exact Keeps.ite (fun _ => State.raise_keeps _ _ (State.put_keeps _ _ _ hk)) (fun _ => hk)
  · exact Keeps.ite (fun _ => State.put_keeps _ _ _ hk) (fun _ => hk)
  · exact Keeps.ite (fun _ => State.put_keeps _ _ _ hk) (fun _ => Keeps.ite (fun _ => State.put_keeps _ _ _ hk) (fun _ => hk))

theorem State.minMax_keeps (pg : ℕ) (lo : Fld) (hi : Fld) (seen : Bool) (isSigned : Bool) (v : ℤ) (hk : Keeps H s0 s) : Keeps H s0 (State.minMax s pg lo hi seen isSigned v) := by
  unfold State.minMax
  extract_lets -merge -underBinder +onlyGivenNames x0 x1 x2
  exact State.put_keeps _ _ _ (State.put_keeps _ _ _ hk)

theorem State.calTick_keeps (n : Port) (p : PortSamples) (hk : Keeps H s0 s) : Keeps H s0 (State.calTick s n p) := by
  unfold State.calTick
  extract_lets -merge -underBinder +onlyGivenNames x0
  exact Keeps.ite (fun _ => State.put_keeps _ _ _ (State.put_keeps _ _ _ (State.put_keeps _ _ _ hk))) (fun _ => State.put_keeps _ _ _ (State.raiseIf_keeps _ _ _ hk))

theorem State.measTick_keeps (n : Port) (p : PortSamples) (doze : Bool) (hk : Keeps ⟨H1, H2, H3, H4, H5, H6, H7, H8, H9, H10, H11, H12, H13, H14, false⟩ s0 s) : Keeps ⟨H1, H2, H3, H4, H5, H6, H7, H8, H9, H10, H11, H12, H13, H14, false⟩ s0 (State.measTick s n p doze) := by
  unfold State.measTick
  extract_lets -merge -underBinder +onlyGivenNames x0 x1 x2 x3 x4
  have hx4 : Keeps ⟨H1, H2, H3, H4, H5, H6, H7, H8, H9, H10, H11, H12, H13, H14, false⟩ s0 x4 := State.modPort_keeps _ _ hk
  try clear_value x4
  extract_lets -merge -underBinder +onlyGivenNames x5 x6 x7 x8 x9 x10 x11
  have hx11 : Keeps ⟨H1, H2, H3, H4, H5, H6, H7, H8, H9, H10, H11, H12, H13, H14, false⟩ s0 x11 := State.modPort_keeps _ _ (State.setVbus_keeps _ _ hx4)
  try clear_value x11
  extract_lets -merge -underBinder +onlyGivenNames x12
  have hx12 : Keeps ⟨H1, H2, H3, H4, H5, H6, H7, H8, H9, H10, H11, H12, H13, H14, false⟩ s0 x12 := State.put_keeps _ _ _ (State.put_keeps _ _ _ hx11)
  try clear_value x12
  extract_lets -merge -underBinder +onlyGivenNames x13
  have hx13 : Keeps ⟨H1, H2, H3, H4, H5, H6, H7, H8, H9, H10, H11, H12, H13, H14, false⟩ s0 x13 := State.put_keeps _ _ _ (State.put_keeps _ _ _ hx12)
  try clear_value x13
  extract_lets -merge -underBinder +onlyGivenNames x14
  have hx14 : Keeps ⟨H1, H2, H3, H4, H5, H6, H7, H8, H9, H10, H11, H12, H13, H14, false⟩ s0 x14 := State.put_keeps _ _ _ (State.put_keeps _ _ _ hx13)
  try clear_value x14
  extract_lets -merge -underBinder +onlyGivenNames x15
  have hx15 : Keeps ⟨H1, H2, H3, H4, H5, H6, H7, H8, H9, H10, H11, H12, H13, H14, false⟩ s0 x15 := State.put_keeps _ _ _ hx14
  try clear_value x15
  extract_lets -merge -underBinder +onlyGivenNames x16 x17
  have hx17 : Keeps ⟨H1, H2, H3, H4, H5, H6, H7, H8, H9, H10, H11, H12, H13, H14, false⟩ s0 x17 := State.minMax_keeps _ _ _ _ _ _ hx15
  try clear_value x17
  extract_lets -merge -underBinder +onlyGivenNames x18
  have hx18 : Keeps ⟨H1, H2, H3, H4, H5, H6, H7, H8, H9, H10, H11, H12, H13, H14, false⟩ s0 x18 := State.minMax_keeps _ _ _ _ _ _ hx17
  try clear_value x18
  extract_lets -merge -underBinder +onlyGivenNames x19
  have hx19 : Keeps ⟨H1, H2, H3, H4, H5, H6, H7, H8, H9, H10, H11, H12, H13, H14, false⟩ s0 x19 := State.modPort_keeps _ _ hx18
  try clear_value x19
  extract_lets -merge -underBinder +onlyGivenNames x20 x21 x22 x23
  have hx23 : Keeps ⟨H1, H2, H3, H4, H5, H6, H7, H8, H9, H10, H11, H12, H13, H14, false⟩ s0 x23 := State.putB_keeps _ _ _ (State.putB_keeps _ _ _ hx19)
  try clear_value x23
  extract_lets -merge -underBinder +onlyGivenNames x24
  have hx24 : Keeps ⟨H1, H2, H3, H4, H5, H6, H7, H8, H9, H10, H11, H12, H13, H14, false⟩ s0 x24 := State.raiseIf_keeps _ _ _ hx23
  try clear_value x24
  extract_lets -merge -underBinder +onlyGivenNames x25
  have hx25 : Keeps ⟨H1, H2, H3, H4, H5, H6, H7, H8, H9, H10, H11, H12, H13, H14, false⟩ s0 x25 := State.calTick_keeps _ _ hx24
  try clear_value x25
  exact Keeps.ite (fun _ => hx4) (fun _ => Keeps.ite (fun _ => State.calTick_keeps _ _ hx4) (fun _ => Keeps.ite (fun _ => State.thermTick_keeps _ _ hx25) (fun _ => hx25)))

theorem State.setFailed_keeps (n : Port) (m : ℕ) (hk : Keeps H s0 s) : Keeps H s0 (State.setFailed s n m) := by
  unfold State.setFailed
  extract_lets -merge -underBinder +onlyGivenNames x0
  have hx0 : Keeps H s0 x0 := State.put_keeps _ _ _ hk
  try clear_value x0
  extract_lets -merge -underBinder +onlyGivenNames x1
  have hx1 : Keeps H s0 x1 := State.putB_keeps _ _ _ hx0
  try clear_value x1
  exact State.put_keeps _ _ _ hx1

theorem State.noteFail_keeps (n : Port) (c : ℕ) (check : ℕ) (hk : Keeps H s0 s) : Keeps H s0 (State.noteFail s n c check) := by
  unfold State.noteFail
  extract_lets -merge -underBinder +onlyGivenNames x0
  have hx0 : Keeps H s0 x0 := State.put_keeps _ _ _ (State.put_keeps _ _ _ (State.put_keeps _ _ _ hk))
  try clear_value x0
  exact State.put_keeps _ _ _ (State.put_keeps _ _ _ hx0)

theorem State.copyTested_keeps (n : Port) (c : ℕ) (r : TestResult) (hk : Keeps ⟨H1, H2, H3, false, false, H6, H7, H8, H9, H10, H11, false, H13, H14, false⟩ s0 s) : Keeps ⟨H1, H2, H3, false, false, H6, H7, H8, H9, H10, H11, false, H13, H14, false⟩ s0 (State.copyTested s n c r) := by
  unfold State.copyTested
  extract_lets -merge -underBinder +onlyGivenNames x0
  clear_value x0
  split
  · extract_lets -merge -underBinder +onlyGivenNames x1
    have hx1 : Keeps ⟨H1, H2, H3, false, false, H6, H7, H8, H9, H10, H11, false, H13, H14, false⟩ s0 x1 := State.put_keeps _ _ _ hk
    try clear_value x1
    extract_lets -merge -underBinder +onlyGivenNames x2
    clear_value x2
    extract_lets -merge -underBinder +onlyGivenNames x3
    have hx3 : Keeps ⟨H1, H2, H3, false, false, H6, H7, H8, H9, H10, H11, false, H13, H14, false⟩ s0 x3 := Keeps.mk' hx1
    try clear_value x3
    exact Keeps.ite (fun _ => State.modGuard_keeps _ _ hx3) (fun _ => hx3)
  · extract_lets -merge -underBinder +onlyGivenNames x4
    have hx4 : Keeps ⟨H1, H2, H3, false, false, H6, H7, H8, H9, H10, H11, false, H13, H14, false⟩ s0 x4 := State.noteFail_keeps _ _ _ (State.raise_keeps _ _ (State.put_keeps _ _ _ hk))
    try clear_value x4
    exact Keeps.mk' hx4
  · extract_lets -merge -underBinder +onlyGivenNames x5
    have hx5 : Keeps ⟨H1, H2, H3, false, false, H6, H7, H8, H9, H10, H11, false, H13, H14, false⟩ s0 x5 := State.put_keeps _ _ _ hk
    try clear_value x5
    extract_lets -merge -underBinder +onlyGivenNames x6
    have hx6 : Keeps ⟨H1, H2, H3, false, false, H6, H7, H8, H9, H10, H11, false, H13, H14, false⟩ s0 x6 := State.setFailed_keeps _ _ hx5
    try clear_value x6
    extract_lets -merge -underBinder +onlyGivenNames x7
    have hx7 : Keeps ⟨H1, H2, H3, false, false, H6, H7, H8, H9, H10, H11, false, H13, H14, false⟩ s0 x7 := State.noteFail_keeps _ _ _ (State.raise_keeps _ _ hx6)
    try clear_value x7
    extract_lets -merge -underBinder +onlyGivenNames x8
    exact Keeps.ite (fun _ => State.retire_keeps _ _ (State.raise_keeps _ _ hx7)) (fun _ => hx7)

theorem State.firstPass_keeps (hk : Keeps H s0 s) : Keeps H s0 (State.firstPass s) := by
  unfold State.firstPass
  exact Keeps.ite (fun _ => State.raise_keeps _ _ (State.put_keeps _ _ _ hk)) (fun _ => hk)

theorem State.idleTest_keeps (ports : List Port) (r : TestResult) (hk : Keeps ⟨H1, H2, H3, false, false, H6, H7, H8, H9, H10, H11, false, H13, H14, false⟩ s0 s) : Keeps ⟨H1, H2, H3, false, false, H6, H7, H8, H9, H10, H11, false, H13, H14, false⟩ s0 (State.idleTest s ports r) := by
  unfold State.idleTest
  split
  · exact hk
  · split
    · exact State.copyTested_keeps _ _ _ hk
    · exact hk

theorem State.cmptTick_keeps (ra : TestResult) (rb : TestResult) (hk : Keeps ⟨H1, H2, H3, false, false, H6, H7, H8, H9, H10, H11, false, H13, H14, false⟩ s0 s) : Keeps ⟨H1, H2, H3, false, false, H6, H7, H8, H9, H10, H11, false, H13, H14, false⟩ s0 (State.cmptTick s ra rb) := by
  unfold State.cmptTick
  extract_lets -merge -underBinder +onlyGivenNames x0 x1
  have hx1 : Keeps ⟨H1, H2, H3, false, false, H6, H7, H8, H9, H10, H11, false, H13, H14, false⟩ s0 x1 := by
    unfold x1
    split
    · exact Keeps.ite (fun _ => Keeps.mk' hk) (fun _ => hk)
    · exact Keeps.ite (fun _ => Keeps.mk' hk) (fun _ => hk)
  try clear_value x1
  split
  · exact State.firstPass_keeps (State.idleTest_keeps _ _ (State.idleTest_keeps _ _ hx1))
  · extract_lets -merge -underBinder +onlyGivenNames x2
    have hx2 : ∀ a0 a1 a2, Keeps ⟨H1, H2, H3, false, false, H6, H7, H8, H9, H10, H11, false, H13, H14, false⟩ s0 a0 → Keeps ⟨H1, H2, H3, false, false, H6, H7, H8, H9, H10, H11, false, H13, H14, false⟩ s0 (x2 a0 a1 a2) := by
      intro s3_0 s3_1 s3_2 hs3_1
      unfold x2
      beta_reduce
      exact Keeps.ite (fun _ => State.copyTested_keeps _ _ _ hs3_1) (fun _ => hs3_1)
    try clear_value x2
    extract_lets -merge -underBinder +onlyGivenNames x4
    have hx4 : Keeps ⟨H1, H2, H3, false, false, H6, H7, H8, H9, H10, H11, false, H13, H14, false⟩ s0 x4 := by
      unfold x4
      refine hx2 _ _ _ ?_
      exact hx1
    try clear_value x4
    extract_lets -merge -underBinder +onlyGivenNames x5
    have hx5 : Keeps ⟨H1, H2, H3, false, false, H6, H7, H8, H9, H10, H11, false, H13, H14, false⟩ s0 x5 := by
      unfold x5
      refine hx2 _ _ _ ?_
      exact hx4
    try clear_value x5
    extract_lets -merge -underBinder +onlyGivenNames x6 x7 x8
    have hx8 : Keeps ⟨H1, H2, H3, false, false, H6, H7, H8, H9, H10, H11, false, H13, H14, false⟩ s0 x8 := Keeps.mk' hx5
    try clear_value x8
    extract_lets -merge -underBinder +onlyGivenNames x9
    have hx9 : Keeps ⟨H1, H2, H3, false, false, H6, H7, H8, H9, H10, H11, false, H13, H14, false⟩ s0 x9 := State.raise_keeps _ _ (State.incr_keeps _ _ hx8)
    try clear_value x9
    exact Keeps.ite (fun _ => Keeps.mk' hx5) (fun _ => State.firstPass_keeps (State.putB_keeps _ _ _ hx9))

theorem State.cmptRestart_keeps (hk : Keeps H s0 s) : Keeps H s0 (State.cmptRestart s) := by
  unfold State.cmptRestart
  exact State.put_keeps _ _ _ (Keeps.mk' hk)

theorem State.rampDone_keeps (n : Port) (hk : Keeps ⟨H1, H2, H3, H4, false, H6, H7, H8, H9, H10, H11, H12, H13, H14, false⟩ s0 s) : Keeps ⟨H1, H2, H3, H4, false, H6, H7, H8, H9, H10, H11, H12, H13, H14, false⟩ s0 (State.rampDone s n) := by
  unfold State.rampDone
  extract_lets -merge -underBinder +onlyGivenNames x0
  have hx0 : Keeps ⟨H1, H2, H3, H4, false, H6, H7, H8, H9, H10, H11, H12, H13, H14, false⟩ s0 x0 := State.raise_keeps _ _ (State.guardTo_keeps _ _ hk)
  try clear_value x0
  extract_lets -merge -underBinder +onlyGivenNames x1
  have hx1 : Keeps ⟨H1, H2, H3, H4, false, H6, H7, H8, H9, H10, H11, H12, H13, H14, false⟩ s0 x1 := State.modGuard_keeps _ _ hx0
  try clear_value x1
  exact Keeps.ite (fun _ => State.hrDone_keeps _ hx1) (fun _ => hx1)

theorem State.joinGuard_keeps (n : Port) (hk : Keeps ⟨H1, H2, H3, H4, H5, H6, H7, H8, H9, H10, H11, H12, H13, H14, false⟩ s0 s) : Keeps ⟨H1, H2, H3, H4, H5, H6, H7, H8, H9, H10, H11, H12, H13, H14, false⟩ s0 (State.joinGuard s n) := by
  unfold State.joinGuard
  extract_lets -merge -underBinder +onlyGivenNames x0
  have hx0 : Keeps ⟨H1, H2, H3, H4, H5, H6, H7, H8, H9, H10, H11, H12, H13, H14, false⟩ s0 x0 := State.modGuard_keeps _ _ hk
  try clear_value x0
  extract_lets -merge -underBinder +onlyGivenNames x1
  have hx1 : Keeps ⟨H1, H2, H3, H4, H5, H6, H7, H8, H9, H10, H11, H12, H13, H14, false⟩ s0 x1 := State.put_keeps _ _ _ (State.put_keeps _ _ _ hx0)
  try clear_value x1
  exact Keeps.ite (fun _ => State.put_keeps _ _ _ hx1) (fun _ => hk)

theorem State.guardRefused_keeps (n : Port) (hk : Keeps H s0 s) : Keeps H s0 (State.guardRefused s n) := by
  unfold State.guardRefused
  exact State.raise_keeps _ _ hk

theorem State.snkClose_keeps (n : Port) (hk : Keeps H s0 s) : Keeps H s0 (State.snkClose s n) := by
  unfold State.snkClose
  exact Keeps.ite (fun _ => State.put_keeps _ _ _ hk) (fun _ => State.guardRefused_keeps _ hk)

theorem State.snkOpen_keeps (n : Port) (hk : Keeps ⟨H1, H2, H3, H4, false, H6, H7, H8, H9, H10, H11, H12, H13, H14, false⟩ s0 s) : Keeps ⟨H1, H2, H3, H4, false, H6, H7, H8, H9, H10, H11, H12, H13, H14, false⟩ s0 (State.snkOpen s n) := by
  unfold State.snkOpen
  extract_lets -merge -underBinder +onlyGivenNames x0
  have hx0 : Keeps ⟨H1, H2, H3, H4, false, H6, H7, H8, H9, H10, H11, H12, H13, H14, false⟩ s0 x0 := State.put_keeps _ _ _ hk
  try clear_value x0
  exact Keeps.ite (fun _ => State.shareLeave_keeps _ (State.guardOff_keeps _ hx0)) (fun _ => hx0)

theorem State.unretire_keeps (n : Port) (hk : Keeps ⟨H1, H2, H3, false, false, H6, H7, H8, H9, H10, H11, false, H13, H14, false⟩ s0 s) : Keeps ⟨H1, H2, H3, false, false, H6, H7, H8, H9, H10, H11, false, H13, H14, false⟩ s0 (State.unretire s n) := by
  unfold State.unretire
  extract_lets -merge -underBinder +onlyGivenNames x0
  have hx0 : Keeps ⟨H1, H2, H3, false, false, H6, H7, H8, H9, H10, H11, false, H13, H14, false⟩ s0 x0 := State.guardTo_keeps _ _ hk
  try clear_value x0
  extract_lets -merge -underBinder +onlyGivenNames x1
  have hx1 : Keeps ⟨H1, H2, H3, false, false, H6, H7, H8, H9, H10, H11, false, H13, H14, false⟩ s0 x1 := State.put_keeps _ _ _ (State.modGuard_keeps _ _ hx0)
  try clear_value x1
  extract_lets -merge -underBinder +onlyGivenNames x2
  have hx2 : Keeps ⟨H1, H2, H3, false, false, H6, H7, H8, H9, H10, H11, false, H13, H14, false⟩ s0 x2 := State.setFailed_keeps _ _ hx1
  try clear_value x2
  extract_lets -merge -underBinder +onlyGivenNames x3
  have hx3 : Keeps ⟨H1, H2, H3, false, false, H6, H7, H8, H9, H10, H11, false, H13, H14, false⟩ s0 x3 := State.put_keeps _ _ _ hx2
  try clear_value x3
  exact State.guardEvt_keeps _ _ (State.ccEnter_keeps _ _ hx3)

theorem State.unretireCmd_keeps (n : Port) (hk : Keeps ⟨H1, H2, H3, false, false, H6, H7, H8, H9, H10, H11, false, H13, H14, false⟩ s0 s) : Keeps ⟨H1, H2, H3, false, false, H6, H7, H8, H9, H10, H11, false, H13, H14, false⟩ s0 (State.unretireCmd s n) := by
  unfold State.unretireCmd
  exact Keeps.ite (fun _ => State.unretire_keeps _ hk) (fun _ => State.guardRefused_keeps _ hk)

theorem State.retestPort_keeps (n : Port) (hk : Keeps H s0 s) : Keeps H s0 (State.retestPort s n) := by
  unfold State.retestPort
  extract_lets -merge -underBinder +onlyGivenNames x0 x1 x2
  have hx2 : Keeps H s0 x2 := State.put_keeps _ _ _ hk
  try clear_value x2
  extract_lets -merge -underBinder +onlyGivenNames x3
  have hx3 : Keeps H s0 x3 := State.setFailed_keeps _ _ hx2
  try clear_value x3
  exact Keeps.ite (fun _ => Keeps.mk' hx3) (fun _ => State.guardRefused_keeps _ hk)

theorem State.retest_keeps (ports : ℕ) (hk : Keeps H s0 s) : Keeps H s0 (State.retest s ports) := by
  unfold State.retest
  exact State.forPorts_keeps hk (fun _ _ h0 => Keeps.ite (fun _ => State.retestPort_keeps _ h0) (fun _ => h0))

theorem State.vconnOnCmd_keeps (n : Port) (hk : Keeps ⟨H1, H2, H3, H4, H5, H6, H7, H8, H9, H10, H11, H12, H13, H14, false⟩ s0 s) : Keeps ⟨H1, H2, H3, H4, H5, H6, H7, H8, H9, H10, H11, H12, H13, H14, false⟩ s0 (State.vconnOnCmd s n) := by
  unfold State.vconnOnCmd
  exact Keeps.ite (fun _ => hk) (fun _ => Keeps.ite (fun _ => State.modCc_keeps _ _ hk) (fun _ => Keeps.ite (fun _ => State.vconnOn_keeps _ hk) (fun _ => State.raise_keeps _ _ hk)))

theorem State.rpLost_keeps (n : Port) (hk : Keeps H s0 s) : Keeps H s0 (State.rpLost s n) := by
  unfold State.rpLost
  exact State.put_keeps _ _ _ (State.raise_keeps _ _ hk)

theorem State.railUpdate_keeps (hk : Keeps ⟨H1, H2, H3, H4, false, H6, H7, H8, H9, H10, H11, H12, H13, H14, false⟩ s0 s) : Keeps ⟨H1, H2, H3, H4, false, H6, H7, H8, H9, H10, H11, H12, H13, H14, false⟩ s0 (State.railUpdate s) := by
  unfold State.railUpdate
  extract_lets -merge -underBinder +onlyGivenNames x0 x1 x2 x3
  have hx3 : Keeps ⟨H1, H2, H3, H4, false, H6, H7, H8, H9, H10, H11, H12, H13, H14, false⟩ s0 x3 := State.putB_keeps _ _ _ hk
  try clear_value x3
  extract_lets -merge -underBinder +onlyGivenNames x4
  have hx4 : Keeps ⟨H1, H2, H3, H4, false, H6, H7, H8, H9, H10, H11, H12, H13, H14, false⟩ s0 x4 := State.forPorts_keeps hx3 (fun _ _ h5 => State.modShare_keeps _ _ h5)
  try clear_value x4
  exact Keeps.ite (fun _ => State.shareEvt_keeps _ hx4) (fun _ => hx3)

theorem State.shareTargets_keeps (hk : Keeps ⟨H1, H2, H3, H4, false, H6, H7, H8, H9, H10, H11, H12, H13, H14, false⟩ s0 s) : Keeps ⟨H1, H2, H3, H4, false, H6, H7, H8, H9, H10, H11, H12, H13, H14, false⟩ s0 (State.shareTargets s) := by
  unfold State.shareTargets
  extract_lets -merge -underBinder +onlyGivenNames x0 x1 x2 x3 x4 x5 x6 x7 x8 x9
  have hx9 : Keeps ⟨H1, H2, H3, H4, false, H6, H7, H8, H9, H10, H11, H12, H13, H14, false⟩ s0 x9 := State.put_keeps _ _ _ (State.put_keeps _ _ _ hk)
  try clear_value x9
  extract_lets -merge -underBinder +onlyGivenNames x10
  have hx10 : Keeps ⟨H1, H2, H3, H4, false, H6, H7, H8, H9, H10, H11, H12, H13, H14, false⟩ s0 x10 := State.putB_keeps _ _ _ hx9
  try clear_value x10
  extract_lets -merge -underBinder +onlyGivenNames x11
  have hx11 : Keeps ⟨H1, H2, H3, H4, false, H6, H7, H8, H9, H10, H11, H12, H13, H14, false⟩ s0 x11 := Keeps.ite (fun _ => State.shareEvt_keeps _ hx10) (fun _ => hx10)
  try clear_value x11
  extract_lets -merge -underBinder +onlyGivenNames x12
  have hx12 : Keeps ⟨H1, H2, H3, H4, false, H6, H7, H8, H9, H10, H11, H12, H13, H14, false⟩ s0 x12 := State.putB_keeps _ _ _ hx11
  try clear_value x12
  extract_lets -merge -underBinder +onlyGivenNames x13
  refine State.forPorts_keeps ?_ ?_
  · exact hx12
  · intro s14_0 s14_1 hs14_1
    extract_lets -merge -underBinder +onlyGivenNames x15 x16 x17 x18 x19 x20 x21 x22 x23 x24
    clear_value x24
    extract_lets -merge -underBinder +onlyGivenNames x25 x26 x27 x28
    have hx28 : Keeps ⟨H1, H2, H3, H4, false, H6, H7, H8, H9, H10, H11, H12, H13, H14, false⟩ s0 x28 := Keeps.ite (fun _ => State.shareEvt_keeps _ hs14_1) (fun _ => hs14_1)
    try clear_value x28
    extract_lets -merge -underBinder +onlyGivenNames x29
    have hx29 : Keeps ⟨H1, H2, H3, H4, false, H6, H7, H8, H9, H10, H11, H12, H13, H14, false⟩ s0 x29 := State.raiseIf_keeps _ _ _ hx28
    try clear_value x29
    extract_lets -merge -underBinder +onlyGivenNames x30
    have hx30 : Keeps ⟨H1, H2, H3, H4, false, H6, H7, H8, H9, H10, H11, H12, H13, H14, false⟩ s0 x30 := State.put_keeps _ _ _ (State.put_keeps _ _ _ hx29)
    try clear_value x30
    extract_lets -merge -underBinder +onlyGivenNames x31
    have hx31 : Keeps ⟨H1, H2, H3, H4, false, H6, H7, H8, H9, H10, H11, H12, H13, H14, false⟩ s0 x31 := State.put_keeps _ _ _ (State.putB_keeps _ _ _ hx30)
    try clear_value x31
    extract_lets -merge -underBinder +onlyGivenNames x32 x33
    have hx33 : Keeps ⟨H1, H2, H3, H4, false, H6, H7, H8, H9, H10, H11, H12, H13, H14, false⟩ s0 x33 := State.putB_keeps _ _ _ hx31
    try clear_value x33
    extract_lets -merge -underBinder +onlyGivenNames x34
    exact State.modShare_keeps _ _ hx33

theorem State.trimSet_keeps (n : Port) (t : ℤ) (hk : Keeps ⟨H1, H2, H3, H4, false, H6, H7, H8, H9, H10, H11, H12, H13, H14, H15⟩ s0 s) : Keeps ⟨H1, H2, H3, H4, false, H6, H7, H8, H9, H10, H11, H12, H13, H14, H15⟩ s0 (State.trimSet s n t) := by
  unfold State.trimSet
  extract_lets -merge -underBinder +onlyGivenNames x0 x1
  split
  · extract_lets -merge -underBinder +onlyGivenNames x2
    extract_lets -merge -underBinder +onlyGivenNames x3 x4 x5 x6 x7 x8
    have hx8 : Keeps ⟨H1, H2, H3, H4, false, H6, H7, H8, H9, H10, H11, H12, H13, H14, H15⟩ s0 x8 := State.put_keeps _ _ _ hk
    try clear_value x8
    extract_lets -merge -underBinder +onlyGivenNames x9
    have hx9 : Keeps ⟨H1, H2, H3, H4, false, H6, H7, H8, H9, H10, H11, H12, H13, H14, H15⟩ s0 x9 := State.put_keeps _ _ _ (State.put_keeps _ _ _ hx8)
    try clear_value x9
    exact Keeps.ite (fun _ => State.shareEvt_keeps _ (State.put_keeps _ _ _ hx9)) (fun _ => hx9)

theorem State.coarse_keeps (hk : Keeps ⟨H1, H2, H3, H4, false, H6, H7, H8, H9, H10, H11, H12, H13, H14, false⟩ s0 s) : Keeps ⟨H1, H2, H3, H4, false, H6, H7, H8, H9, H10, H11, H12, H13, H14, false⟩ s0 (State.coarse s) := by
  unfold State.coarse
  extract_lets -merge -underBinder +onlyGivenNames x0 x1 x2 x3 x4
  have hx4 : Keeps ⟨H1, H2, H3, H4, false, H6, H7, H8, H9, H10, H11, H12, H13, H14, false⟩ s0 x4 := State.forPorts_keeps hk (fun _ _ h5 => State.put_keeps _ _ _ h5)
  try clear_value x4
  extract_lets -merge -underBinder +onlyGivenNames x6 x7
  have hx7 : Keeps ⟨H1, H2, H3, H4, false, H6, H7, H8, H9, H10, H11, H12, H13, H14, false⟩ s0 x7 := Keeps.mk' hx4
  try clear_value x7
  extract_lets -merge -underBinder +onlyGivenNames x8
  have hx8 : Keeps ⟨H1, H2, H3, H4, false, H6, H7, H8, H9, H10, H11, H12, H13, H14, false⟩ s0 x8 := foldl_keeps _ hk (fun _ _ h9 => State.trimSet_keeps _ _ h9)
  try clear_value x8
  extract_lets -merge -underBinder +onlyGivenNames x10 x11
  have hx11 : Keeps ⟨H1, H2, H3, H4, false, H6, H7, H8, H9, H10, H11, H12, H13, H14, false⟩ s0 x11 := Keeps.ite (fun _ => foldl_keeps _ hx7 (fun _ _ h12 => State.trimSet_keeps _ _ h12)) (fun _ => foldl_keeps _ hx8 (fun _ _ h13 => State.trimSet_keeps _ _ h13))
  try clear_value x11
  exact State.forPorts_keeps hx11 (fun _ _ h14 => State.modShare_keeps _ _ h14)

theorem State.shareTick_keeps (hk : Keeps ⟨H1, H2, H3, H4, false, H6, H7, H8, H9, H10, H11, H12, H13, H14, false⟩ s0 s) : Keeps ⟨H1, H2, H3, H4, false, H6, H7, H8, H9, H10, H11, H12, H13, H14, false⟩ s0 (State.shareTick s) := by
  unfold State.shareTick
  extract_lets -merge -underBinder +onlyGivenNames x0
  have hx0 : Keeps ⟨H1, H2, H3, H4, false, H6, H7, H8, H9, H10, H11, H12, H13, H14, false⟩ s0 x0 := State.railUpdate_keeps hk
  try clear_value x0
  extract_lets -merge -underBinder +onlyGivenNames x1
  have hx1 : Keeps ⟨H1, H2, H3, H4, false, H6, H7, H8, H9, H10, H11, H12, H13, H14, false⟩ s0 x1 := State.forPorts_keeps hx0 (fun _ _ h2 => State.modShare_keeps _ _ h2)
  try clear_value x1
  extract_lets -merge -underBinder +onlyGivenNames x3 x4
  have hx4 : Keeps ⟨H1, H2, H3, H4, false, H6, H7, H8, H9, H10, H11, H12, H13, H14, false⟩ s0 x4 := Keeps.mk' hx1
  try clear_value x4
  extract_lets -merge -underBinder +onlyGivenNames x5
  have hx5 : Keeps ⟨H1, H2, H3, H4, false, H6, H7, H8, H9, H10, H11, H12, H13, H14, false⟩ s0 x5 := Keeps.ite (fun _ => hx1) (fun _ => Keeps.ite (fun _ => State.put_keeps _ _ _ hx4) (fun _ => hx4))
  try clear_value x5
  extract_lets -merge -underBinder +onlyGivenNames x6
  have hx6 : Keeps ⟨H1, H2, H3, H4, false, H6, H7, H8, H9, H10, H11, H12, H13, H14, false⟩ s0 x6 := State.forPorts_keeps hx5 (fun _ _ h7 => Keeps.ite (fun _ => State.rampDone_keeps _ h7) (fun _ => h7))
  try clear_value x6
  extract_lets -merge -underBinder +onlyGivenNames x8
  have hx8 : Keeps ⟨H1, H2, H3, H4, false, H6, H7, H8, H9, H10, H11, H12, H13, H14, false⟩ s0 x8 := State.shareTargets_keeps hx6
  try clear_value x8
  exact Keeps.ite (fun _ => State.forPorts_keeps hx0 (fun _ _ h9 => Keeps.ite (fun _ => State.put_keeps _ _ _ h9) (fun _ => h9))) (fun _ => Keeps.ite (fun _ => State.coarse_keeps hx8) (fun _ => hx8))

theorem State.shareReset_keeps (hk : Keeps H s0 s) : Keeps H s0 (State.shareReset s) := by
  unfold State.shareReset
  exact Keeps.mk' hk

theorem State.shareResume_keeps (hk : Keeps H s0 s) : Keeps H s0 (State.shareResume s) := by
  unfold State.shareResume
  extract_lets -merge -underBinder +onlyGivenNames x0
  have hx0 : Keeps H s0 x0 := State.forPorts_keeps hk (fun _ _ h1 => Keeps.ite (fun _ => State.put_keeps _ _ _ h1) (fun _ => h1))
  try clear_value x0
  exact Keeps.ite (fun _ => Keeps.mk' hx0) (fun _ => hk)

theorem State.trimClearCmd_keeps (hk : Keeps H s0 s) : Keeps H s0 (State.trimClearCmd s) := by
  unfold State.trimClearCmd
  exact Keeps.mk' hk

theorem State.hpdWrite_keeps (n : Port) (level : Bool) (hk : Keeps ⟨H1, H2, H3, H4, H5, H6, H7, H8, H9, H10, H11, H12, H13, H14, false⟩ s0 s) : Keeps ⟨H1, H2, H3, H4, H5, H6, H7, H8, H9, H10, H11, H12, H13, H14, false⟩ s0 (State.hpdWrite s n level) := by
  unfold State.hpdWrite
  extract_lets -merge -underBinder +onlyGivenNames x0
  have hx0 : Keeps ⟨H1, H2, H3, H4, H5, H6, H7, H8, H9, H10, H11, H12, H13, H14, false⟩ s0 x0 := State.putB_keeps _ _ _ hk
  try clear_value x0
  exact Keeps.ite (fun _ => hx0) (fun _ => State.modPort_keeps _ _ hx0)

theorem State.hpdIrq_keeps (n : Port) (early : Bool) (hk : Keeps ⟨H1, H2, H3, H4, H5, H6, H7, H8, H9, H10, H11, H12, H13, H14, false⟩ s0 s) : Keeps ⟨H1, H2, H3, H4, H5, H6, H7, H8, H9, H10, H11, H12, H13, H14, false⟩ s0 (State.hpdIrq s n early) := by
  unfold State.hpdIrq
  exact Keeps.ite (fun _ => hk) (fun _ => Keeps.ite (fun _ => State.raise_keeps _ _ hk) (fun _ => Keeps.ite (fun _ => State.modPort_keeps _ _ hk) (fun _ => State.modPort_keeps _ _ hk)))

theorem State.muxEnd_keeps (result : ℕ) (bytes : ℕ) (hk : Keeps H s0 s) : Keeps H s0 (State.muxEnd s result bytes) := by
  unfold State.muxEnd
  extract_lets -merge -underBinder +onlyGivenNames x0
  have hx0 : Keeps H s0 x0 := State.put_keeps _ _ _ (State.put_keeps _ _ _ (State.put_keeps _ _ _ hk))
  try clear_value x0
  exact State.raise_keeps _ _ hx0

theorem State.muxGo_keeps (hk : Keeps H s0 s) : Keeps H s0 (State.muxGo s) := by
  unfold State.muxGo
  extract_lets -merge -underBinder +onlyGivenNames x0 x1
  exact Keeps.ite (fun _ => State.lockedWrite_keeps _ hk) (fun _ => Keeps.ite (fun _ => State.muxEnd_keeps _ _ hk) (fun _ => State.put_keeps _ _ _ hk))

theorem State.muxAbort_keeps (bytes : ℕ) (hk : Keeps H s0 s) : Keeps H s0 (State.muxAbort s bytes) := by
  unfold State.muxAbort
  exact Keeps.ite (fun _ => State.muxEnd_keeps _ _ hk) (fun _ => hk)

theorem State.muxRdata_keeps (bs : List Byte) (hk : Keeps H s0 s) : Keeps H s0 (State.muxRdata s bs) := by
  unfold State.muxRdata
  refine foldl_keeps _ ?_ ?_
  · exact hk
  · intro s0_0 s0_1 hs0_1
    extract_lets -merge -underBinder +onlyGivenNames x1
    exact Keeps.ite (fun _ => hs0_1) (fun _ => State.put_keeps _ _ _ hs0_1)

end Sys2Proof.Machine
end

