-- ==== Sys2Proof/Laws/KeepsFleet.lean ====
section
/-!
SUPPORT. `Keeps` over the operations of links, fleet, port policy, VDM, placement, twins: one lemma per operation.
-/

set_option Elab.async false

namespace Sys2Proof.Machine

variable {H : Hold} {H1 H2 H3 H4 H5 H6 H7 H8 H9 H10 H11 H12 H13 H14 H15 : Bool} {s0 s : State}

theorem State.modLink_keeps (l : Link) (f : LinkSt → LinkSt) (hk : Keeps ⟨H1, H2, H3, H4, H5, H6, H7, H8, false, H10, H11, H12, H13, H14, H15⟩ s0 s) : Keeps ⟨H1, H2, H3, H4, H5, H6, H7, H8, false, H10, H11, H12, H13, H14, H15⟩ s0 (State.modLink s l f) := by
  unfold State.modLink
  exact Keeps.mk' hk

theorem State.modFleet_keeps (f : FleetSt → FleetSt) (hk : Keeps ⟨H1, H2, H3, H4, H5, H6, H7, H8, false, H10, H11, H12, H13, H14, H15⟩ s0 s) : Keeps ⟨H1, H2, H3, H4, H5, H6, H7, H8, false, H10, H11, H12, H13, H14, H15⟩ s0 (State.modFleet s f) := by
  unfold State.modFleet
  exact Keeps.mk' hk

theorem State.transmit_keeps (l : Link) (f : TxF) (hk : Keeps ⟨H1, H2, H3, H4, H5, H6, H7, H8, false, H10, H11, H12, H13, H14, H15⟩ s0 s) : Keeps ⟨H1, H2, H3, H4, H5, H6, H7, H8, false, H10, H11, H12, H13, H14, H15⟩ s0 (State.transmit s l f) := by
  unfold State.transmit
  extract_lets -merge -underBinder +onlyGivenNames x0 x1 x2 x3
  have hx3 : Keeps ⟨H1, H2, H3, H4, H5, H6, H7, H8, false, H10, H11, H12, H13, H14, H15⟩ s0 x3 := State.modLink_keeps _ _ hk
  try clear_value x3
  exact State.incr_keeps _ _ (State.put_keeps _ _ _ (State.put_keeps _ _ _ hx3))

theorem State.drain_keeps (l : Link) (hk : Keeps ⟨H1, H2, H3, H4, H5, H6, H7, H8, false, H10, H11, H12, H13, H14, H15⟩ s0 s) : Keeps ⟨H1, H2, H3, H4, H5, H6, H7, H8, false, H10, H11, H12, H13, H14, H15⟩ s0 (State.drain s l) := by
  unfold State.drain
  refine foldl_keeps _ ?_ ?_
  · exact hk
  · intro s0_0 s0_1 hs0_1
    split
    · exact hs0_1
    · exact Keeps.ite (fun _ => State.transmit_keeps _ _ (State.modLink_keeps _ _ hs0_1)) (fun _ => hs0_1)

theorem State.linkSend_keeps (l : Link) (f : TxF) (hk : Keeps ⟨H1, H2, H3, H4, H5, H6, H7, H8, false, H10, H11, H12, H13, H14, H15⟩ s0 s) : Keeps ⟨H1, H2, H3, H4, H5, H6, H7, H8, false, H10, H11, H12, H13, H14, H15⟩ s0 (State.linkSend s l f) := by
  unfold State.linkSend
  exact State.drain_keeps _ (State.modLink_keeps _ _ hk)

theorem State.ringSend_keeps (l : Link) (b : List Byte) (hops : ℕ) (wrapped : Bool) (slot : Option ℕ) (hk : Keeps ⟨H1, H2, H3, H4, H5, H6, H7, H8, false, H10, H11, H12, H13, H14, H15⟩ s0 s) : Keeps ⟨H1, H2, H3, H4, H5, H6, H7, H8, false, H10, H11, H12, H13, H14, H15⟩ s0 (State.ringSend s l b hops wrapped slot) := by
  unfold State.ringSend
  exact Keeps.ite (fun _ => State.linkSend_keeps _ _ hk) (fun _ => Keeps.ite (fun _ => hk) (fun _ => Keeps.ite (fun _ => State.linkSend_keeps _ _ hk) (fun _ => hk)))

theorem State.sendTo_keeps (typ : ℕ) (dest : ℕ) (tag : ℕ) (payload : List Byte) (hk : Keeps ⟨H1, H2, H3, H4, H5, H6, H7, H8, false, H10, H11, H12, H13, H14, H15⟩ s0 s) : Keeps ⟨H1, H2, H3, H4, H5, H6, H7, H8, false, H10, H11, H12, H13, H14, H15⟩ s0 (State.sendTo s typ dest tag payload) := by
  unfold State.sendTo
  exact State.ringSend_keeps _ _ _ _ _ hk

theorem State.broadcast_keeps (typ : ℕ) (payload : List Byte) (hk : Keeps ⟨H1, H2, H3, H4, H5, H6, H7, H8, false, H10, H11, H12, H13, H14, H15⟩ s0 s) : Keeps ⟨H1, H2, H3, H4, H5, H6, H7, H8, false, H10, H11, H12, H13, H14, H15⟩ s0 (State.broadcast s typ payload) := by
  unfold State.broadcast
  extract_lets -merge -underBinder +onlyGivenNames x0 x1
  have hx1 : Keeps ⟨H1, H2, H3, H4, H5, H6, H7, H8, false, H10, H11, H12, H13, H14, H15⟩ s0 x1 := State.ringSend_keeps _ _ _ _ _ (State.ringSend_keeps _ _ _ _ _ hk)
  try clear_value x1
  exact State.modFleet_keeps _ hx1

theorem State.txfStatus_keeps (slot : ℕ) (status : ℕ) (hk : Keeps ⟨H1, H2, H3, H4, false, H6, H7, H8, H9, H10, H11, H12, H13, H14, H15⟩ s0 s) : Keeps ⟨H1, H2, H3, H4, false, H6, H7, H8, H9, H10, H11, H12, H13, H14, H15⟩ s0 (State.txfStatus s slot status) := by
  unfold State.txfStatus
  extract_lets -merge -underBinder +onlyGivenNames x0
  have hx0 : Keeps ⟨H1, H2, H3, H4, false, H6, H7, H8, H9, H10, H11, H12, H13, H14, H15⟩ s0 x0 := State.stPut_keeps _ _ _ hk
  try clear_value x0
  exact State.stPut_keeps _ _ _ hx0

theorem State.txfEnd_keeps (slot : ℕ) (status : ℕ) (hk : Keeps ⟨H1, H2, H3, H4, false, H6, H7, H8, H9, H10, H11, H12, H13, H14, H15⟩ s0 s) : Keeps ⟨H1, H2, H3, H4, false, H6, H7, H8, H9, H10, H11, H12, H13, H14, H15⟩ s0 (State.txfEnd s slot status) := by
  unfold State.txfEnd
  exact State.raise_keeps _ _ (State.txfStatus_keeps _ _ hk)

theorem State.linkWord_keeps (l : Link) (nak : Bool) (hk : Keeps ⟨H1, H2, H3, H4, H5, H6, H7, H8, false, H10, H11, H12, H13, H14, H15⟩ s0 s) : Keeps ⟨H1, H2, H3, H4, H5, H6, H7, H8, false, H10, H11, H12, H13, H14, H15⟩ s0 (State.linkWord s l nak) := by
  unfold State.linkWord
  extract_lets -merge -underBinder +onlyGivenNames x0
  have hx0 : Keeps ⟨H1, H2, H3, H4, H5, H6, H7, H8, false, H10, H11, H12, H13, H14, H15⟩ s0 x0 := State.when_keeps _ hk (fun _ h1 => State.bump_keeps _ _ _ h1)
  try clear_value x0
  exact State.modLink_keeps _ _ hx0

theorem State.linkErr_keeps (l : Link) (f : Fld) (n : ℕ) (hk : Keeps ⟨H1, H2, H3, H4, H5, H6, H7, H8, false, H10, H11, H12, H13, H14, H15⟩ s0 s) : Keeps ⟨H1, H2, H3, H4, H5, H6, H7, H8, false, H10, H11, H12, H13, H14, H15⟩ s0 (State.linkErr s l f n) := by
  unfold State.linkErr
  extract_lets -merge -underBinder +onlyGivenNames x0
  have hx0 : Keeps ⟨H1, H2, H3, H4, H5, H6, H7, H8, false, H10, H11, H12, H13, H14, H15⟩ s0 x0 := State.modLink_keeps _ _ (State.bump_keeps _ _ _ hk)
  try clear_value x0
  exact State.put_keeps _ _ _ hx0

theorem State.acked_keeps (f : TxF) (hk : Keeps ⟨H1, H2, H3, H4, false, H6, H7, H8, false, H10, H11, H12, H13, H14, H15⟩ s0 s) : Keeps ⟨H1, H2, H3, H4, false, H6, H7, H8, false, H10, H11, H12, H13, H14, H15⟩ s0 (State.acked s f) := by
  unfold State.acked
  extract_lets -merge -underBinder +onlyGivenNames x0
  have hx0 : Keeps ⟨H1, H2, H3, H4, false, H6, H7, H8, false, H10, H11, H12, H13, H14, H15⟩ s0 x0 := Keeps.ite (fun _ => State.modFleet_keeps _ hk) (fun _ => hk)
  try clear_value x0
  split
  · exact State.txfEnd_keeps _ _ (State.stWrite_keeps _ _ hx0)
  · exact hx0

theorem State.takeAck_keeps (l : Link) (ack : ℕ) (hk : Keeps ⟨H1, H2, H3, H4, false, H6, H7, H8, false, H10, H11, H12, H13, H14, H15⟩ s0 s) : Keeps ⟨H1, H2, H3, H4, false, H6, H7, H8, false, H10, H11, H12, H13, H14, H15⟩ s0 (State.takeAck s l ack) := by
  unfold State.takeAck
  extract_lets -merge -underBinder +onlyGivenNames x0
  split
  · exact hk
  · extract_lets -merge -underBinder +onlyGivenNames x1
    have hx1 : Keeps ⟨H1, H2, H3, H4, false, H6, H7, H8, false, H10, H11, H12, H13, H14, H15⟩ s0 x1 := foldl_keeps _ hk (fun _ _ h2 => State.acked_keeps _ h2)
    try clear_value x1
    extract_lets -merge -underBinder +onlyGivenNames x3
    have hx3 : Keeps ⟨H1, H2, H3, H4, false, H6, H7, H8, false, H10, H11, H12, H13, H14, H15⟩ s0 x3 := State.modLink_keeps _ _ hx1
    try clear_value x3
    extract_lets -merge -underBinder +onlyGivenNames x4
    have hx4 : Keeps ⟨H1, H2, H3, H4, false, H6, H7, H8, false, H10, H11, H12, H13, H14, H15⟩ s0 x4 := State.put_keeps _ _ _ (State.put_keeps _ _ _ hx3)
    try clear_value x4
    exact State.drain_keeps _ hx4

theorem State.goBack_keeps (l : Link) (hk : Keeps ⟨H1, H2, H3, H4, H5, H6, H7, H8, false, H10, H11, H12, H13, H14, H15⟩ s0 s) : Keeps ⟨H1, H2, H3, H4, H5, H6, H7, H8, false, H10, H11, H12, H13, H14, H15⟩ s0 (State.goBack s l) := by
  unfold State.goBack
  extract_lets -merge -underBinder +onlyGivenNames x0 x1
  have hx1 : Keeps ⟨H1, H2, H3, H4, H5, H6, H7, H8, false, H10, H11, H12, H13, H14, H15⟩ s0 x1 := State.modLink_keeps _ _ hk
  try clear_value x1
  exact Keeps.ite (fun _ => hx1) (fun _ => State.raise_keeps _ _ (State.bump_keeps _ _ _ hx1))

theorem State.setWrap_keeps (l : Link) (b : Bool) (hk : Keeps ⟨H1, H2, H3, H4, H5, H6, H7, H8, false, H10, H11, H12, H13, H14, H15⟩ s0 s) : Keeps ⟨H1, H2, H3, H4, H5, H6, H7, H8, false, H10, H11, H12, H13, H14, H15⟩ s0 (State.setWrap s l b) := by
  unfold State.setWrap
  extract_lets -merge -underBinder +onlyGivenNames x0
  have hx0 : Keeps ⟨H1, H2, H3, H4, H5, H6, H7, H8, false, H10, H11, H12, H13, H14, H15⟩ s0 x0 := State.raise_keeps _ _ (State.putB_keeps _ _ _ hk)
  try clear_value x0
  extract_lets -merge -underBinder +onlyGivenNames x1 x2 x3
  have hx3 : Keeps ⟨H1, H2, H3, H4, H5, H6, H7, H8, false, H10, H11, H12, H13, H14, H15⟩ s0 x3 := State.modFleet_keeps _ hx0
  try clear_value x3
  extract_lets -merge -underBinder +onlyGivenNames x4
  have hx4 : Keeps ⟨H1, H2, H3, H4, H5, H6, H7, H8, false, H10, H11, H12, H13, H14, H15⟩ s0 x4 := State.putB_keeps _ _ _ hx3
  try clear_value x4
  extract_lets -merge -underBinder +onlyGivenNames x5
  have hx5 : Keeps ⟨H1, H2, H3, H4, H5, H6, H7, H8, false, H10, H11, H12, H13, H14, H15⟩ s0 x5 := State.raiseIf_keeps _ _ _ (State.raiseIf_keeps _ _ _ hx4)
  try clear_value x5
  exact Keeps.ite (fun _ => hk) (fun _ => State.broadcast_keeps _ _ hx5)

theorem State.dropWindow_keeps (l : Link) (hk : Keeps ⟨H1, H2, H3, H4, false, H6, H7, H8, false, H10, H11, H12, H13, H14, H15⟩ s0 s) : Keeps ⟨H1, H2, H3, H4, false, H6, H7, H8, false, H10, H11, H12, H13, H14, H15⟩ s0 (State.dropWindow s l) := by
  unfold State.dropWindow
  extract_lets -merge -underBinder +onlyGivenNames x0 x1
  have hx1 : Keeps ⟨H1, H2, H3, H4, false, H6, H7, H8, false, H10, H11, H12, H13, H14, H15⟩ s0 x1 := State.modLink_keeps _ _ hk
  try clear_value x1
  extract_lets -merge -underBinder +onlyGivenNames x2
  have hx2 : Keeps ⟨H1, H2, H3, H4, false, H6, H7, H8, false, H10, H11, H12, H13, H14, H15⟩ s0 x2 := State.put_keeps _ _ _ (State.put_keeps _ _ _ hx1)
  try clear_value x2
  refine foldl_keeps _ ?_ ?_
  · exact hx2
  · intro s3_0 s3_1 hs3_1
    split
    · exact State.txfEnd_keeps _ _ hs3_1
    · exact hs3_1

theorem State.linkTo_keeps (l : Link) (st : ℕ) (hk : Keeps ⟨H1, H2, H3, H4, false, H6, H7, H8, false, H10, H11, H12, H13, H14, H15⟩ s0 s) : Keeps ⟨H1, H2, H3, H4, false, H6, H7, H8, false, H10, H11, H12, H13, H14, H15⟩ s0 (State.linkTo s l st) := by
  unfold State.linkTo
  extract_lets -merge -underBinder +onlyGivenNames x0 x1
  have hx1 : Keeps ⟨H1, H2, H3, H4, false, H6, H7, H8, false, H10, H11, H12, H13, H14, H15⟩ s0 x1 := State.put_keeps _ _ _ hk
  try clear_value x1
  extract_lets -merge -underBinder +onlyGivenNames x2
  have hx2 : Keeps ⟨H1, H2, H3, H4, false, H6, H7, H8, false, H10, H11, H12, H13, H14, H15⟩ s0 x2 := Keeps.ite (fun _ => State.setWrap_keeps _ _ (State.dropWindow_keeps _ hx1)) (fun _ => hx1)
  try clear_value x2
  extract_lets -merge -underBinder +onlyGivenNames x3
  have hx3 : Keeps ⟨H1, H2, H3, H4, false, H6, H7, H8, false, H10, H11, H12, H13, H14, H15⟩ s0 x3 := Keeps.ite (fun _ => hx2) (fun _ => State.put_keeps _ _ _ hx2)
  try clear_value x3
  exact Keeps.ite (fun _ => State.raise_keeps _ _ hx3) (fun _ => Keeps.ite (fun _ => State.raise_keeps _ _ hx3) (fun _ => hx3))

theorem State.linkRetire_keeps (l : Link) (cause : ℕ) (hk : Keeps ⟨H1, H2, H3, H4, false, H6, H7, H8, false, H10, H11, H12, H13, H14, H15⟩ s0 s) : Keeps ⟨H1, H2, H3, H4, false, H6, H7, H8, false, H10, H11, H12, H13, H14, H15⟩ s0 (State.linkRetire s l cause) := by
  unfold State.linkRetire
  exact State.put_keeps _ _ _ (State.put_keeps _ _ _ (State.linkTo_keeps _ _ hk))

theorem State.errLimit_keeps (l : Link) (hk : Keeps ⟨H1, H2, H3, H4, false, H6, H7, H8, false, H10, H11, H12, H13, H14, H15⟩ s0 s) : Keeps ⟨H1, H2, H3, H4, false, H6, H7, H8, false, H10, H11, H12, H13, H14, H15⟩ s0 (State.errLimit s l) := by
  unfold State.errLimit
  exact Keeps.ite (fun _ => State.linkRetire_keeps _ _ hk) (fun _ => hk)

theorem State.linkLost_keeps (l : Link) (locked : Bool) (hk : Keeps ⟨H1, H2, H3, H4, false, H6, H7, H8, false, H10, H11, H12, H13, H14, H15⟩ s0 s) : Keeps ⟨H1, H2, H3, H4, false, H6, H7, H8, false, H10, H11, H12, H13, H14, H15⟩ s0 (State.linkLost s l locked) := by
  unfold State.linkLost
  extract_lets -merge -underBinder +onlyGivenNames x0
  have hx0 : Keeps ⟨H1, H2, H3, H4, false, H6, H7, H8, false, H10, H11, H12, H13, H14, H15⟩ s0 x0 := Keeps.ite (fun _ => State.linkTo_keeps _ _ hk) (fun _ => hk)
  try clear_value x0
  exact Keeps.ite (fun _ => hx0) (fun _ => State.modLink_keeps _ _ (State.put_keeps _ _ _ hx0))

theorem State.linkTick_keeps (l : Link) (hk : Keeps ⟨H1, H2, H3, H4, false, H6, H7, H8, false, H10, H11, H12, H13, H14, H15⟩ s0 s) : Keeps ⟨H1, H2, H3, H4, false, H6, H7, H8, false, H10, H11, H12, H13, H14, H15⟩ s0 (State.linkTick s l) := by
  unfold State.linkTick
  extract_lets -merge -underBinder +onlyGivenNames x0 x1 x2
  have hx2 : Keeps ⟨H1, H2, H3, H4, false, H6, H7, H8, false, H10, H11, H12, H13, H14, H15⟩ s0 x2 := Keeps.ite (fun _ => hk) (fun _ => Keeps.ite (fun _ => State.put_keeps _ _ _ hk) (fun _ => Keeps.ite (fun _ => State.linkTo_keeps _ _ hk) (fun _ => hk)))
  try clear_value x2
  extract_lets -merge -underBinder +onlyGivenNames x3
  have hx3 : Keeps ⟨H1, H2, H3, H4, false, H6, H7, H8, false, H10, H11, H12, H13, H14, H15⟩ s0 x3 := State.setWrap_keeps _ _ hx2
  try clear_value x3
  extract_lets -merge -underBinder +onlyGivenNames x4 x5
  have hx5 : Keeps ⟨H1, H2, H3, H4, false, H6, H7, H8, false, H10, H11, H12, H13, H14, H15⟩ s0 x5 := State.put_keeps _ _ _ hx3
  try clear_value x5
  extract_lets -merge -underBinder +onlyGivenNames x6
  have hx6 : Keeps ⟨H1, H2, H3, H4, false, H6, H7, H8, false, H10, H11, H12, H13, H14, H15⟩ s0 x6 := State.raiseIf_keeps _ _ _ hx5
  try clear_value x6
  exact Keeps.ite (fun _ => State.put_keeps _ _ _ (State.modLink_keeps _ _ hx6)) (fun _ => hx6)

theorem State.deliver_keeps (via : ℕ) (b : List Byte) (hk : Keeps ⟨H1, H2, H3, H4, H5, H6, H7, H8, false, H10, H11, H12, H13, H14, H15⟩ s0 s) : Keeps ⟨H1, H2, H3, H4, H5, H6, H7, H8, false, H10, H11, H12, H13, H14, H15⟩ s0 (State.deliver s via b) := by
  unfold State.deliver
  exact State.modFleet_keeps _ hk

theorem State.bcastSeen_keeps (b : List Byte) (hk : Keeps ⟨H1, H2, H3, H4, H5, H6, H7, H8, false, H10, H11, H12, H13, H14, H15⟩ s0 s) : Keeps ⟨H1, H2, H3, H4, H5, H6, H7, H8, false, H10, H11, H12, H13, H14, H15⟩ s0 (State.bcastSeen s b) := by
  unfold State.bcastSeen
  exact State.modFleet_keeps _ hk

theorem State.hear_keeps (src : ℕ) (hk : Keeps ⟨H1, H2, H3, H4, H5, H6, H7, H8, false, H10, H11, H12, H13, H14, H15⟩ s0 s) : Keeps ⟨H1, H2, H3, H4, H5, H6, H7, H8, false, H10, H11, H12, H13, H14, H15⟩ s0 (State.hear s src) := by
  unfold State.hear
  exact State.modFleet_keeps _ hk

theorem State.probeReturns_keeps (b : List Byte) (hk : Keeps ⟨H1, H2, H3, H4, H5, H6, H7, H8, false, H10, H11, H12, H13, H14, H15⟩ s0 s) : Keeps ⟨H1, H2, H3, H4, H5, H6, H7, H8, false, H10, H11, H12, H13, H14, H15⟩ s0 (State.probeReturns s b) := by
  unfold State.probeReturns
  extract_lets -merge -underBinder +onlyGivenNames x0
  exact State.modFleet_keeps _ (State.put_keeps _ _ _ hk)

theorem State.ringTake_keeps (l : Link) (b : List Byte) (hk : Keeps ⟨H1, H2, H3, H4, H5, H6, H7, H8, false, H10, H11, H12, H13, H14, H15⟩ s0 s) : Keeps ⟨H1, H2, H3, H4, H5, H6, H7, H8, false, H10, H11, H12, H13, H14, H15⟩ s0 (State.ringTake s l b) := by
  unfold State.ringTake
  extract_lets -merge -underBinder +onlyGivenNames x0 x1 x2
  have hx2 : Keeps ⟨H1, H2, H3, H4, H5, H6, H7, H8, false, H10, H11, H12, H13, H14, H15⟩ s0 x2 := State.hear_keeps _ hk
  try clear_value x2
  extract_lets -merge -underBinder +onlyGivenNames x3 x4
  have hx4 : ∀ a0, Keeps ⟨H1, H2, H3, H4, H5, H6, H7, H8, false, H10, H11, H12, H13, H14, H15⟩ s0 a0 → Keeps ⟨H1, H2, H3, H4, H5, H6, H7, H8, false, H10, H11, H12, H13, H14, H15⟩ s0 (x4 a0) := by
    intro s5_0 hs5_1
    unfold x4
    beta_reduce
    exact Keeps.ite (fun _ => hs5_1) (fun _ => State.ringSend_keeps _ _ _ _ _ hs5_1)
  try clear_value x4
  extract_lets -merge -underBinder +onlyGivenNames x6
  have hx6 : Keeps ⟨H1, H2, H3, H4, H5, H6, H7, H8, false, H10, H11, H12, H13, H14, H15⟩ s0 x6 := Keeps.ite (fun _ => State.deliver_keeps _ _ (State.bcastSeen_keeps _ hx2)) (fun _ => hx2)
  try clear_value x6
  refine Keeps.ite (fun _ => ?_) (fun _ => ?_)
  · exact State.bump_keeps _ _ _ hx2
  · refine Keeps.ite (fun _ => ?_) (fun _ => ?_)
    · refine Keeps.ite (fun _ => ?_) (fun _ => ?_)
      · exact hx2
      · refine hx4 _ ?_
        exact State.deliver_keeps _ _ hx2
    · refine Keeps.ite (fun _ => ?_) (fun _ => ?_)
      · refine Keeps.ite (fun _ => ?_) (fun _ => ?_)
        · exact hx2
        · refine hx4 _ ?_
          exact hx6
      · refine Keeps.ite (fun _ => ?_) (fun _ => ?_)
        · refine Keeps.ite (fun _ => ?_) (fun _ => ?_)
          · exact State.probeReturns_keeps _ hx2
          · refine hx4 _ ?_
            exact hx2
        · refine Keeps.ite (fun _ => ?_) (fun _ => ?_)
          · exact State.deliver_keeps _ _ hx2
          · refine Keeps.ite (fun _ => ?_) (fun _ => ?_)
            · exact State.deliver_keeps _ _ hx2
            · refine Keeps.ite (fun _ => ?_) (fun _ => ?_)
              · exact State.bump_keeps _ _ _ hx2
              · refine hx4 _ ?_
                exact hx2

theorem State.probeLink_keeps (l : Link) (hk : Keeps ⟨H1, H2, H3, H4, false, H6, H7, H8, false, H10, H11, H12, H13, H14, H15⟩ s0 s) : Keeps ⟨H1, H2, H3, H4, false, H6, H7, H8, false, H10, H11, H12, H13, H14, H15⟩ s0 (State.probeLink s l) := by
  unfold State.probeLink
  exact Keeps.ite (fun _ => State.bump_keeps _ _ _ (State.linkTo_keeps _ _ hk)) (fun _ => hk)

theorem State.hgRetire_keeps (l : Link) (hk : Keeps ⟨H1, H2, H3, H4, false, H6, H7, H8, false, H10, H11, H12, H13, H14, H15⟩ s0 s) : Keeps ⟨H1, H2, H3, H4, false, H6, H7, H8, false, H10, H11, H12, H13, H14, H15⟩ s0 (State.hgRetire s l) := by
  unfold State.hgRetire
  exact Keeps.ite (fun _ => hk) (fun _ => State.linkRetire_keeps _ _ hk)

theorem State.hgClear_keeps (l : Link) (hk : Keeps H s0 s) : Keeps H s0 (State.hgClear s l) := by
  unfold State.hgClear
  exact State.wr_keeps _ _ _ (State.wr_keeps _ _ _ (State.wr_keeps _ _ _ (State.wr_keeps _ _ _ hk)))

theorem State.takeFrame_keeps (p : RxF → Bool) (hk : Keeps ⟨H1, H2, H3, H4, H5, H6, H7, H8, false, H10, H11, H12, H13, H14, H15⟩ s0 s) {f : RxF} {t : State} (e : State.takeFrame s p = some (f, t)) : Keeps ⟨H1, H2, H3, H4, H5, H6, H7, H8, false, H10, H11, H12, H13, H14, H15⟩ s0 t := by
  unfold State.takeFrame at e
  split at e
  · exact nomatch e
  · cases e; exact State.modFleet_keeps _ hk

theorem State.withFrame_keeps (p : RxF → Bool) {f : RxF → State → State} (hk : Keeps ⟨H1, H2, H3, H4, H5, H6, H7, H8, false, H10, H11, H12, H13, H14, H15⟩ s0 s) (hf : ∀ a0 a1, Keeps ⟨H1, H2, H3, H4, H5, H6, H7, H8, false, H10, H11, H12, H13, H14, H15⟩ s0 a1 → Keeps ⟨H1, H2, H3, H4, H5, H6, H7, H8, false, H10, H11, H12, H13, H14, H15⟩ s0 (f a0 a1)) :
    Keeps ⟨H1, H2, H3, H4, H5, H6, H7, H8, false, H10, H11, H12, H13, H14, H15⟩ s0 (State.withFrame s p f) := by
  unfold State.withFrame
  split
  · exact hk
  · rename_i t e
    exact hf _ _ (State.takeFrame_keeps _ hk e)

theorem State.takeIndex_keeps (i : ℕ) (hk : Keeps ⟨H1, H2, H3, H4, H5, H6, H7, H8, false, H10, H11, H12, H13, H14, H15⟩ s0 s) : Keeps ⟨H1, H2, H3, H4, H5, H6, H7, H8, false, H10, H11, H12, H13, H14, H15⟩ s0 (State.takeIndex s i) := by
  unfold State.takeIndex
  exact State.modFleet_keeps _ (State.put_keeps _ _ _ (State.put_keeps _ _ _ (State.put_keeps _ _ _ hk)))

theorem State.claimIndex_keeps (map : ℕ) (hk : Keeps ⟨H1, H2, H3, H4, H5, H6, H7, H8, false, H10, H11, H12, H13, H14, H15⟩ s0 s) : Keeps ⟨H1, H2, H3, H4, H5, H6, H7, H8, false, H10, H11, H12, H13, H14, H15⟩ s0 (State.claimIndex s map).1 := by
  unfold State.claimIndex
  refine Keeps.iteFst (fun _ => ?_) (fun _ => ?_)
  · refine Keeps.mkFst ?_
    exact hk
  · refine Keeps.iteFst (fun _ => ?_) (fun _ => ?_)
    · refine Keeps.iteFst (fun _ => ?_) (fun _ => ?_)
      · refine Keeps.mkFst ?_
        exact State.raise_keeps _ _ (State.put_keeps _ _ _ hk)
      · refine Keeps.mkFst ?_
        exact State.takeIndex_keeps _ hk
    · split
      · refine Keeps.mkFst ?_
        exact State.takeIndex_keeps _ hk
      · refine Keeps.mkFst ?_
        exact hk

theorem State.enumerate_keeps (hk : Keeps ⟨H1, H2, H3, H4, H5, H6, H7, H8, false, H10, H11, H12, H13, H14, H15⟩ s0 s) : Keeps ⟨H1, H2, H3, H4, H5, H6, H7, H8, false, H10, H11, H12, H13, H14, H15⟩ s0 (State.enumerate s) := by
  unfold State.enumerate
  extract_lets -merge -underBinder +onlyGivenNames x0
  have hx0 : Keeps ⟨H1, H2, H3, H4, H5, H6, H7, H8, false, H10, H11, H12, H13, H14, H15⟩ s0 x0 := Keeps.ite (fun _ => hk) (fun _ => State.takeIndex_keeps _ hk)
  try clear_value x0
  exact State.ringSend_keeps _ _ _ _ _ hx0

theorem State.regenerate_keeps (f : RxF) (payload : List Byte) (hk : Keeps ⟨H1, H2, H3, H4, H5, H6, H7, H8, false, H10, H11, H12, H13, H14, H15⟩ s0 s) : Keeps ⟨H1, H2, H3, H4, H5, H6, H7, H8, false, H10, H11, H12, H13, H14, H15⟩ s0 (State.regenerate s f payload) := by
  unfold State.regenerate
  extract_lets -merge -underBinder +onlyGivenNames x0 x1
  exact Keeps.ite (fun _ => hk) (fun _ => State.ringSend_keeps _ _ _ _ _ hk)

theorem State.takeDone_keeps (src : ℕ) (p : List Byte) (hk : Keeps H s0 s) : Keeps H s0 (State.takeDone s src p) := by
  unfold State.takeDone
  extract_lets -merge -underBinder +onlyGivenNames x0
  have hx0 : Keeps H s0 x0 := State.put_keeps _ _ _ (State.put_keeps _ _ _ hk)
  try clear_value x0
  extract_lets -merge -underBinder +onlyGivenNames x1
  have hx1 : Keeps H s0 x1 := State.put_keeps _ _ _ (State.put_keeps _ _ _ (State.put_keeps _ _ _ hx0))
  try clear_value x1
  extract_lets -merge -underBinder +onlyGivenNames x2
  have hx2 : Keeps H s0 x2 := State.put_keeps _ _ _ (State.put_keeps _ _ _ hx1)
  try clear_value x2
  exact Keeps.ite (fun _ => State.raise_keeps _ _ (State.put_keeps _ _ _ hx2)) (fun _ => hx2)

theorem State.setAligned_keeps (b : Bool) (hk : Keeps ⟨H1, H2, H3, H4, H5, H6, H7, H8, false, H10, H11, H12, H13, H14, H15⟩ s0 s) : Keeps ⟨H1, H2, H3, H4, H5, H6, H7, H8, false, H10, H11, H12, H13, H14, H15⟩ s0 (State.setAligned s b) := by
  unfold State.setAligned
  extract_lets -merge -underBinder +onlyGivenNames x0
  have hx0 : Keeps ⟨H1, H2, H3, H4, H5, H6, H7, H8, false, H10, H11, H12, H13, H14, H15⟩ s0 x0 := State.raise_keeps _ _ (State.putB_keeps _ _ _ hk)
  try clear_value x0
  exact Keeps.ite (fun _ => hk) (fun _ => State.modFleet_keeps _ (Keeps.ite (fun _ => State.put_keeps _ _ _ hx0) (fun _ => hx0)))

theorem State.onAssign_keeps (f : RxF) (hk : Keeps ⟨H1, H2, H3, H4, H5, H6, H7, H8, false, H10, H11, H12, H13, H14, H15⟩ s0 s) : Keeps ⟨H1, H2, H3, H4, H5, H6, H7, H8, false, H10, H11, H12, H13, H14, H15⟩ s0 (State.onAssign s f) := by
  unfold State.onAssign
  extract_lets -merge -underBinder +onlyGivenNames x0 x1 x2 x3
  have hx3 : Keeps ⟨H1, H2, H3, H4, H5, H6, H7, H8, false, H10, H11, H12, H13, H14, H15⟩ s0 x3 := State.put_keeps _ _ _ hk
  try clear_value x3
  refine Keeps.ite (fun _ => ?_) (fun _ => ?_)
  · exact State.ringSend_keeps _ _ _ _ _ hx3
  · refine Keeps.ite (fun _ => ?_) (fun _ => ?_)
    · exact State.regenerate_keeps _ _ hk
    · split
      · rename_i y4 _ e4
        have hy4 : Keeps ⟨H1, H2, H3, H4, H5, H6, H7, H8, false, H10, H11, H12, H13, H14, H15⟩ s0 y4 := by
          refine Keeps.fst e4 ?_
          refine State.claimIndex_keeps _ ?_
          exact hk
        extract_lets -merge -underBinder +onlyGivenNames x5
        have hx5 : Keeps ⟨H1, H2, H3, H4, H5, H6, H7, H8, false, H10, H11, H12, H13, H14, H15⟩ s0 x5 := Keeps.ite (fun _ => State.put_keeps _ _ _ (State.put_keeps _ _ _ hy4)) (fun _ => hy4)
        try clear_value x5
        exact Keeps.ite (fun _ => State.regenerate_keeps _ _ hy4) (fun _ => State.regenerate_keeps _ _ hx5)

theorem State.onCal_keeps (f : RxF) (hk : Keeps ⟨H1, H2, H3, H4, H5, H6, H7, H8, false, H10, H11, H12, H13, H14, H15⟩ s0 s) : Keeps ⟨H1, H2, H3, H4, H5, H6, H7, H8, false, H10, H11, H12, H13, H14, H15⟩ s0 (State.onCal s f) := by
  unfold State.onCal
  extract_lets -merge -underBinder +onlyGivenNames x0 x1 x2 x3
  have hx3 : Keeps ⟨H1, H2, H3, H4, H5, H6, H7, H8, false, H10, H11, H12, H13, H14, H15⟩ s0 x3 := State.put_keeps _ _ _ hk
  try clear_value x3
  extract_lets -merge -underBinder +onlyGivenNames x4 x5
  have hx5 : Keeps ⟨H1, H2, H3, H4, H5, H6, H7, H8, false, H10, H11, H12, H13, H14, H15⟩ s0 x5 := Keeps.ite (fun _ => State.put_keeps _ _ _ (State.put_keeps _ _ _ hk)) (fun _ => hk)
  try clear_value x5
  exact Keeps.ite (fun _ => State.setAligned_keeps _ (State.takeDone_keeps _ _ (State.broadcast_keeps _ _ hx3))) (fun _ => Keeps.ite (fun _ => State.regenerate_keeps _ _ hk) (fun _ => State.regenerate_keeps _ _ hx5))

theorem State.enumerateCmd_keeps (hk : Keeps ⟨H1, H2, H3, H4, H5, H6, H7, H8, false, H10, H11, H12, H13, H14, H15⟩ s0 s) : Keeps ⟨H1, H2, H3, H4, H5, H6, H7, H8, false, H10, H11, H12, H13, H14, H15⟩ s0 (State.enumerateCmd s) := by
  unfold State.enumerateCmd
  exact Keeps.ite (fun _ => State.enumerate_keeps hk) (fun _ => hk)

theorem State.distFail_keeps (hk : Keeps ⟨H1, H2, H3, H4, H5, H6, H7, H8, H9, H10, H11, H12, false, H14, H15⟩ s0 s) : Keeps ⟨H1, H2, H3, H4, H5, H6, H7, H8, H9, H10, H11, H12, false, H14, H15⟩ s0 (State.distFail s) := by
  unfold State.distFail
  split
  · exact hk
  · exact State.raise_keeps _ _ (State.put_keeps _ _ _ (Keeps.mk' hk))

theorem State.standDown_keeps (hk : Keeps ⟨H1, H2, H3, H4, H5, H6, H7, H8, false, H10, H11, H12, false, H14, H15⟩ s0 s) : Keeps ⟨H1, H2, H3, H4, H5, H6, H7, H8, false, H10, H11, H12, false, H14, H15⟩ s0 (State.standDown s) := by
  unfold State.standDown
  extract_lets -merge -underBinder +onlyGivenNames x0
  have hx0 : Keeps ⟨H1, H2, H3, H4, H5, H6, H7, H8, false, H10, H11, H12, false, H14, H15⟩ s0 x0 := State.distFail_keeps hk
  try clear_value x0
  exact State.modFleet_keeps _ (State.put_keeps _ _ _ (State.put_keeps _ _ _ hx0))

theorem State.takeTick_keeps (f : RxF) (err : ℤ) (hk : Keeps ⟨false, H2, H3, H4, H5, H6, H7, H8, false, H10, H11, H12, H13, H14, H15⟩ s0 s) : Keeps ⟨false, H2, H3, H4, H5, H6, H7, H8, false, H10, H11, H12, H13, H14, H15⟩ s0 (State.takeTick s f err) := by
  unfold State.takeTick
  extract_lets -merge -underBinder +onlyGivenNames x0 x1 x2 x3
  have hx3 : Keeps ⟨false, H2, H3, H4, H5, H6, H7, H8, false, H10, H11, H12, H13, H14, H15⟩ s0 x3 := State.put_keeps _ _ _ (State.put_keeps _ _ _ hk)
  try clear_value x3
  extract_lets -merge -underBinder +onlyGivenNames x4
  have hx4 : Keeps ⟨false, H2, H3, H4, H5, H6, H7, H8, false, H10, H11, H12, H13, H14, H15⟩ s0 x4 := State.modFleet_keeps _ hx3
  try clear_value x4
  extract_lets -merge -underBinder +onlyGivenNames x5
  have hx5 : Keeps ⟨false, H2, H3, H4, H5, H6, H7, H8, false, H10, H11, H12, H13, H14, H15⟩ s0 x5 := State.putB_keeps _ _ _ (State.put_keeps _ _ _ hx4)
  try clear_value x5
  extract_lets -merge -underBinder +onlyGivenNames x6
  have hx6 : Keeps ⟨false, H2, H3, H4, H5, H6, H7, H8, false, H10, H11, H12, H13, H14, H15⟩ s0 x6 := State.modFleet_keeps _ hx5
  try clear_value x6
  extract_lets -merge -underBinder +onlyGivenNames x7 x8
  have hx8 : Keeps ⟨false, H2, H3, H4, H5, H6, H7, H8, false, H10, H11, H12, H13, H14, H15⟩ s0 x8 := State.modFleet_keeps _ hx6
  try clear_value x8
  extract_lets -merge -underBinder +onlyGivenNames x9 x10
  have hx10 : Keeps ⟨false, H2, H3, H4, H5, H6, H7, H8, false, H10, H11, H12, H13, H14, H15⟩ s0 x10 := Keeps.ite (fun _ => hx8) (fun _ => State.bump_keeps _ _ _ (State.put_keeps _ _ _ hx8))
  try clear_value x10
  extract_lets -merge -underBinder +onlyGivenNames x11
  have hx11 : Keeps ⟨false, H2, H3, H4, H5, H6, H7, H8, false, H10, H11, H12, H13, H14, H15⟩ s0 x11 := State.modFleet_keeps _ hx10
  try clear_value x11
  extract_lets -merge -underBinder +onlyGivenNames x12
  have hx12 : Keeps ⟨false, H2, H3, H4, H5, H6, H7, H8, false, H10, H11, H12, H13, H14, H15⟩ s0 x12 := State.setTick_keeps _ hx8
  try clear_value x12
  exact Keeps.ite (fun _ => hx4) (fun _ => Keeps.ite (fun _ => hx6) (fun _ => Keeps.ite (fun _ => Keeps.ite (fun _ => State.setAligned_keeps _ hx11) (fun _ => hx11)) (fun _ => Keeps.ite (fun _ => State.setAligned_keeps _ hx12) (fun _ => hx12))))

theorem State.sendTick_keeps (off : ℕ) (hk : Keeps ⟨H1, H2, H3, H4, H5, H6, H7, H8, false, H10, H11, H12, H13, H14, H15⟩ s0 s) : Keeps ⟨H1, H2, H3, H4, H5, H6, H7, H8, false, H10, H11, H12, H13, H14, H15⟩ s0 (State.sendTick s off) := by
  unfold State.sendTick
  extract_lets -merge -underBinder +onlyGivenNames x0
  exact State.ringSend_keeps _ _ _ _ _ (State.ringSend_keeps _ _ _ _ _ hk)

theorem State.reachTick_keeps (hk : Keeps H s0 s) : Keeps H s0 (State.reachTick s) := by
  unfold State.reachTick
  extract_lets -merge -underBinder +onlyGivenNames x0 x1 x2 x3
  have hx3 : Keeps H s0 x3 := foldl_keeps _ hk (fun _ _ h4 => State.setMapBit_keeps _ _ _ _ h4)
  try clear_value x3
  exact Keeps.ite (fun _ => hk) (fun _ => State.raiseIf_keeps _ _ _ (State.raiseIf_keeps _ _ _ hx3))

theorem State.fleetTick_keeps (off : ℕ) (hk : Keeps ⟨H1, H2, H3, H4, false, H6, H7, H8, false, H10, H11, H12, false, H14, H15⟩ s0 s) : Keeps ⟨H1, H2, H3, H4, false, H6, H7, H8, false, H10, H11, H12, false, H14, H15⟩ s0 (State.fleetTick s off) := by
  unfold State.fleetTick
  extract_lets -merge -underBinder +onlyGivenNames x0
  have hx0 : Keeps ⟨H1, H2, H3, H4, false, H6, H7, H8, false, H10, H11, H12, false, H14, H15⟩ s0 x0 := foldl_keeps _ hk (fun _ _ h1 => State.linkTick_keeps _ h1)
  try clear_value x0
  extract_lets -merge -underBinder +onlyGivenNames x2
  have hx2 : Keeps ⟨H1, H2, H3, H4, false, H6, H7, H8, false, H10, H11, H12, false, H14, H15⟩ s0 x2 := State.modFleet_keeps _ (State.put_keeps _ _ _ hx0)
  try clear_value x2
  extract_lets -merge -underBinder +onlyGivenNames x3
  have hx3 : Keeps ⟨H1, H2, H3, H4, false, H6, H7, H8, false, H10, H11, H12, false, H14, H15⟩ s0 x3 := Keeps.ite (fun _ => State.standDown_keeps hx2) (fun _ => hx2)
  try clear_value x3
  extract_lets -merge -underBinder +onlyGivenNames x4
  have hx4 : Keeps ⟨H1, H2, H3, H4, false, H6, H7, H8, false, H10, H11, H12, false, H14, H15⟩ s0 x4 := State.modFleet_keeps _ hx3
  try clear_value x4
  extract_lets -merge -underBinder +onlyGivenNames x5
  have hx5 : Keeps ⟨H1, H2, H3, H4, false, H6, H7, H8, false, H10, H11, H12, false, H14, H15⟩ s0 x5 := State.put_keeps _ _ _ hx4
  try clear_value x5
  extract_lets -merge -underBinder +onlyGivenNames x6
  have hx6 : Keeps ⟨H1, H2, H3, H4, false, H6, H7, H8, false, H10, H11, H12, false, H14, H15⟩ s0 x6 := State.bump_keeps _ _ _ hx4
  try clear_value x6
  extract_lets -merge -underBinder +onlyGivenNames x7
  have hx7 : Keeps ⟨H1, H2, H3, H4, false, H6, H7, H8, false, H10, H11, H12, false, H14, H15⟩ s0 x7 := Keeps.ite (fun _ => State.setAligned_keeps _ hx6) (fun _ => hx6)
  try clear_value x7
  extract_lets -merge -underBinder +onlyGivenNames x8
  have hx8 : Keeps ⟨H1, H2, H3, H4, false, H6, H7, H8, false, H10, H11, H12, false, H14, H15⟩ s0 x8 := State.bump_keeps _ _ _ hx7
  try clear_value x8
  extract_lets -merge -underBinder +onlyGivenNames x9
  have hx9 : Keeps ⟨H1, H2, H3, H4, false, H6, H7, H8, false, H10, H11, H12, false, H14, H15⟩ s0 x9 := State.modFleet_keeps _ hx8
  try clear_value x9
  exact Keeps.ite (fun _ => State.put_keeps _ _ _ hx2) (fun _ => Keeps.ite (fun _ => State.reachTick_keeps (Keeps.ite (fun _ => hx5) (fun _ => State.sendTick_keeps _ hx5))) (fun _ => Keeps.ite (fun _ => Keeps.ite (fun _ => State.ringSend_keeps _ _ _ _ _ hx9) (fun _ => hx9)) (fun _ => hx7)))

theorem State.rxqPut_keeps (f : RxF) (slot : ℕ) (cls : ℕ) (task : ℕ) (hk : Keeps ⟨H1, H2, H3, H4, false, H6, H7, H8, H9, H10, H11, H12, H13, H14, H15⟩ s0 s) : Keeps ⟨H1, H2, H3, H4, false, H6, H7, H8, H9, H10, H11, H12, H13, H14, H15⟩ s0 (State.rxqPut s f slot cls task) := by
  unfold State.rxqPut
  extract_lets -merge -underBinder +onlyGivenNames x0 x1
  have hx1 : Keeps ⟨H1, H2, H3, H4, false, H6, H7, H8, H9, H10, H11, H12, H13, H14, H15⟩ s0 x1 := State.put_keeps _ _ _ (State.stRecord_keeps _ _ hk)
  try clear_value x1
  exact Keeps.ite (fun _ => State.raise_keeps _ _ (State.bump_keeps _ _ _ hk)) (fun _ => State.postGlobal_keeps _ _ _ _ _ hx1)

theorem State.rxRelease_keeps (i : ℕ) (hk : Keeps H s0 s) : Keeps H s0 (State.rxRelease s i) := by
  unfold State.rxRelease
  exact Keeps.ite (fun _ => State.put_keeps _ _ _ hk) (fun _ => hk)

theorem State.txfReq_keeps (slot : ℕ) (hk : Keeps ⟨H1, H2, H3, H4, false, H6, H7, H8, false, H10, H11, H12, H13, H14, H15⟩ s0 s) : Keeps ⟨H1, H2, H3, H4, false, H6, H7, H8, false, H10, H11, H12, H13, H14, H15⟩ s0 (State.txfReq s slot) := by
  unfold State.txfReq
  extract_lets -merge -underBinder +onlyGivenNames x0 x1 x2 x3 x4 x5 x6
  have hx6 : Keeps ⟨H1, H2, H3, H4, false, H6, H7, H8, false, H10, H11, H12, H13, H14, H15⟩ s0 x6 := State.txfStatus_keeps _ _ (State.stPut_keeps _ _ _ (State.stPut_keeps _ _ _ hk))
  try clear_value x6
  extract_lets -merge -underBinder +onlyGivenNames x7 x8
  have hx8 : Keeps ⟨H1, H2, H3, H4, false, H6, H7, H8, false, H10, H11, H12, H13, H14, H15⟩ s0 x8 := State.modFleet_keeps _ hx6
  try clear_value x8
  exact Keeps.ite (fun _ => hk) (fun _ => Keeps.ite (fun _ => State.txfEnd_keeps _ _ (State.stNote_keeps _ _ _ hk)) (fun _ => Keeps.ite (fun _ => State.txfEnd_keeps _ _ hk) (fun _ => Keeps.ite (fun _ => State.linkSend_keeps _ _ hx6) (fun _ => Keeps.ite (fun _ => Keeps.ite (fun _ => State.ringSend_keeps _ _ _ _ _ (State.ringSend_keeps _ _ _ _ _ hx8)) (fun _ => State.ringSend_keeps _ _ _ _ _ hx8)) (fun _ => State.ringSend_keeps _ _ _ _ _ hx6)))))

theorem State.sendEngine_keeps (slot : ℕ) (typ : ℕ) (bcast : Bool) (dest : ℕ) (via : ℕ) (tag : ℕ) (payload : List Byte) (hk : Keeps ⟨H1, H2, H3, H4, false, H6, H7, H8, false, H10, H11, H12, H13, H14, H15⟩ s0 s) : Keeps ⟨H1, H2, H3, H4, false, H6, H7, H8, false, H10, H11, H12, H13, H14, H15⟩ s0 (State.sendEngine s slot typ bcast dest via tag payload) := by
  unfold State.sendEngine
  extract_lets -merge -underBinder +onlyGivenNames x0
  exact State.txfReq_keeps _ (State.stRecord_keeps _ _ hk)

theorem State.adopt_keeps (mgr : ℕ) (dp : ℕ) (ds : ℕ) (hk : Keeps H s0 s) : Keeps H s0 (State.adopt s mgr dp ds) := by
  unfold State.adopt
  extract_lets -merge -underBinder +onlyGivenNames x0
  have hx0 : Keeps H s0 x0 := State.put_keeps _ _ _ hk
  try clear_value x0
  extract_lets -merge -underBinder +onlyGivenNames x1
  have hx1 : Keeps H s0 x1 := State.put_keeps _ _ _ hx0
  try clear_value x1
  exact State.put_keeps _ _ _ hx1

theorem State.takeOver_keeps (hk : Keeps ⟨H1, H2, H3, H4, H5, H6, H7, H8, false, H10, H11, H12, H13, H14, H15⟩ s0 s) : Keeps ⟨H1, H2, H3, H4, H5, H6, H7, H8, false, H10, H11, H12, H13, H14, H15⟩ s0 (State.takeOver s) := by
  unfold State.takeOver
  extract_lets -merge -underBinder +onlyGivenNames x0 x1 x2
  have hx2 : Keeps ⟨H1, H2, H3, H4, H5, H6, H7, H8, false, H10, H11, H12, H13, H14, H15⟩ s0 x2 := State.raise_keeps _ _ (State.put_keeps _ _ _ hk)
  try clear_value x2
  extract_lets -merge -underBinder +onlyGivenNames x3
  have hx3 : Keeps ⟨H1, H2, H3, H4, H5, H6, H7, H8, false, H10, H11, H12, H13, H14, H15⟩ s0 x3 := State.broadcast_keeps _ _ hx2
  try clear_value x3
  extract_lets -merge -underBinder +onlyGivenNames x4
  have hx4 : Keeps ⟨H1, H2, H3, H4, H5, H6, H7, H8, false, H10, H11, H12, H13, H14, H15⟩ s0 x4 := State.modFleet_keeps _ hx3
  try clear_value x4
  exact State.sendTick_keeps _ (State.put_keeps _ _ _ (State.put_keeps _ _ _ (State.adopt_keeps _ _ _ hx4)))

theorem State.tkoCmd_keeps (hk : Keeps ⟨H1, H2, H3, H4, H5, H6, H7, H8, false, H10, H11, H12, H13, H14, H15⟩ s0 s) : Keeps ⟨H1, H2, H3, H4, H5, H6, H7, H8, false, H10, H11, H12, H13, H14, H15⟩ s0 (State.tkoCmd s) := by
  unfold State.tkoCmd
  exact Keeps.ite (fun _ => State.modFleet_keeps _ hk) (fun _ => hk)

theorem State.handbackCmd_keeps (hk : Keeps ⟨H1, H2, H3, H4, H5, H6, H7, H8, false, H10, H11, H12, H13, H14, H15⟩ s0 s) : Keeps ⟨H1, H2, H3, H4, H5, H6, H7, H8, false, H10, H11, H12, H13, H14, H15⟩ s0 (State.handbackCmd s) := by
  unfold State.handbackCmd
  exact Keeps.ite (fun _ => State.modFleet_keeps _ hk) (fun _ => hk)

theorem State.policy_keeps {f : State → State} (hk : Keeps H s0 s) (hf : ∀ a0, Keeps H s0 a0 → Keeps H s0 (f a0)) : Keeps H s0 (State.policy s f) := by
  unfold State.policy
  refine Keeps.ite (fun _ => ?_) (fun _ => ?_)
  · refine hf _ ?_
    exact hk
  · exact hk

theorem State.modOwn_keeps (n : Port) (f : OwnGrant → OwnGrant) (hk : Keeps ⟨H1, H2, H3, H4, H5, H6, H7, H8, H9, H10, H11, false, H13, H14, H15⟩ s0 s) : Keeps ⟨H1, H2, H3, H4, H5, H6, H7, H8, H9, H10, H11, false, H13, H14, H15⟩ s0 (State.modOwn s n f) := by
  unfold State.modOwn
  exact Keeps.mk' hk

theorem State.modTw_keeps (n : Port) (f : TwinPort → TwinPort) (hk : Keeps ⟨H1, H2, H3, H4, H5, H6, H7, H8, H9, H10, H11, false, H13, H14, H15⟩ s0 s) : Keeps ⟨H1, H2, H3, H4, H5, H6, H7, H8, H9, H10, H11, false, H13, H14, H15⟩ s0 (State.modTw s n f) := by
  unfold State.modTw
  exact Keeps.mk' hk

theorem State.advertise_keeps (n : Port) (hk : Keeps ⟨H1, H2, H3, H4, false, H6, H7, H8, H9, H10, H11, H12, H13, H14, false⟩ s0 s) : Keeps ⟨H1, H2, H3, H4, false, H6, H7, H8, H9, H10, H11, H12, H13, H14, false⟩ s0 (State.advertise s n) := by
  unfold State.advertise
  extract_lets -merge -underBinder +onlyGivenNames x0 x1
  have hx1 : Keeps ⟨H1, H2, H3, H4, false, H6, H7, H8, H9, H10, H11, H12, H13, H14, false⟩ s0 x1 := State.modFw_keeps _ _ hk
  try clear_value x1
  extract_lets -merge -underBinder +onlyGivenNames x2
  exact Keeps.ite (fun _ => State.fwSendExt_keeps _ _ _ hx1) (fun _ => State.fwSend_keeps _ _ _ _ _ hx1)

theorem State.vdmAsk_keeps (n : Port) (sop : ℕ) (h : Word) (body : List Word) (ams : Bool) (hk : Keeps ⟨H1, H2, H3, H4, false, H6, H7, H8, H9, H10, H11, H12, H13, H14, false⟩ s0 s) : Keeps ⟨H1, H2, H3, H4, false, H6, H7, H8, H9, H10, H11, H12, H13, H14, false⟩ s0 (State.vdmAsk s n sop h body ams) := by
  unfold State.vdmAsk
  extract_lets -merge -underBinder +onlyGivenNames x0
  exact State.modFw_keeps _ _ (State.fwSend_keeps _ _ _ _ _ hk)

theorem State.cableAsk_keeps (n : Port) (hk : Keeps ⟨H1, H2, H3, H4, false, H6, H7, H8, H9, H10, H11, H12, H13, H14, false⟩ s0 s) : Keeps ⟨H1, H2, H3, H4, false, H6, H7, H8, H9, H10, H11, H12, H13, H14, false⟩ s0 (State.cableAsk s n) := by
  unfold State.cableAsk
  extract_lets -merge -underBinder +onlyGivenNames x0 x1
  have hx1 : Keeps ⟨H1, H2, H3, H4, false, H6, H7, H8, H9, H10, H11, H12, H13, H14, false⟩ s0 x1 := Keeps.ite (fun _ => State.put_keeps _ _ _ hk) (fun _ => hk)
  try clear_value x1
  exact Keeps.ite (fun _ => State.vdmAsk_keeps _ _ _ _ _ (State.modFw_keeps _ _ hx1)) (fun _ => hk)

theorem State.writeIlim_keeps (n : Port) (hk : Keeps ⟨H1, H2, H3, H4, H5, H6, H7, H8, H9, H10, H11, false, H13, H14, H15⟩ s0 s) : Keeps ⟨H1, H2, H3, H4, H5, H6, H7, H8, H9, H10, H11, false, H13, H14, H15⟩ s0 (State.writeIlim s n) := by
  unfold State.writeIlim
  extract_lets -merge -underBinder +onlyGivenNames x0 x1
  have hx1 : Keeps ⟨H1, H2, H3, H4, H5, H6, H7, H8, H9, H10, H11, false, H13, H14, H15⟩ s0 x1 := State.put_keeps _ _ _ hk
  try clear_value x1
  exact State.modOwn_keeps _ _ hx1

theorem State.followLimit_keeps (n : Port) (hk : Keeps ⟨H1, H2, H3, H4, H5, H6, H7, H8, H9, H10, H11, false, H13, H14, H15⟩ s0 s) : Keeps ⟨H1, H2, H3, H4, H5, H6, H7, H8, H9, H10, H11, false, H13, H14, H15⟩ s0 (State.followLimit s n) := by
  unfold State.followLimit
  exact Keeps.ite (fun _ => State.writeIlim_keeps _ hk) (fun _ => hk)

theorem State.fwHrComplete_keeps (n : Port) (hk : Keeps H s0 s) : Keeps H s0 (State.fwHrComplete s n) := by
  unfold State.fwHrComplete
  exact Keeps.ite (fun _ => State.put_keeps _ _ _ hk) (fun _ => hk)

theorem State.stageCon_keeps (n : Port) (obj : Word) (rdo : Word) (a : ReqAsk) (epr : Bool) (source : Bool) (hk : Keeps H s0 s) : Keeps H s0 (State.stageCon s n obj rdo a epr source) := by
  unfold State.stageCon
  extract_lets -merge -underBinder +onlyGivenNames x0 x1
  have hx1 : Keeps H s0 x1 := State.wr_keeps _ _ _ (State.wr_keeps _ _ _ hk)
  try clear_value x1
  extract_lets -merge -underBinder +onlyGivenNames x2
  have hx2 : Keeps H s0 x2 := State.put_keeps _ _ _ (State.put_keeps _ _ _ (State.put_keeps _ _ _ hx1))
  try clear_value x2
  exact State.put_keeps _ _ _ hx2

theorem State.evalRequest_keeps (n : Port) (i : ℕ) (hk : Keeps ⟨H1, H2, H3, H4, false, H6, H7, H8, H9, H10, H11, H12, H13, H14, false⟩ s0 s) : Keeps ⟨H1, H2, H3, H4, false, H6, H7, H8, H9, H10, H11, H12, H13, H14, false⟩ s0 (State.evalRequest s n i) := by
  unfold State.evalRequest
  extract_lets -merge -underBinder +onlyGivenNames x0 x1 x2 x3 x4
  refine Keeps.ite (fun _ => ?_) (fun _ => ?_)
  · exact State.hardResetStart_keeps _ hk
  · split
    · exact State.fwSend_keeps _ _ _ _ _ hk
    · extract_lets -merge -underBinder +onlyGivenNames x5
      extract_lets -merge -underBinder +onlyGivenNames x6
      have hx6 : Keeps ⟨H1, H2, H3, H4, false, H6, H7, H8, H9, H10, H11, H12, H13, H14, false⟩ s0 x6 := State.stageCon_keeps _ _ _ _ _ _ hk
      try clear_value x6
      extract_lets -merge -underBinder +onlyGivenNames x7
      have hx7 : Keeps ⟨H1, H2, H3, H4, false, H6, H7, H8, H9, H10, H11, H12, H13, H14, false⟩ s0 x7 := State.modFw_keeps _ _ hx6
      try clear_value x7
      exact Keeps.ite (fun _ => State.fwSend_keeps _ _ _ _ _ hk) (fun _ => Keeps.ite (fun _ => State.advertise_keeps _ (State.fwSend_keeps _ _ _ _ _ hk)) (fun _ => Keeps.ite (fun _ => State.hardResetStart_keeps _ hk) (fun _ => State.fwSendFor_keeps _ _ _ _ _ _ hx7)))

theorem State.eprMode_keeps (n : Port) (action : ℕ) (hk : Keeps ⟨H1, H2, H3, H4, false, H6, H7, H8, H9, H10, H11, H12, H13, H14, false⟩ s0 s) : Keeps ⟨H1, H2, H3, H4, false, H6, H7, H8, H9, H10, H11, H12, H13, H14, false⟩ s0 (State.eprMode s n action) := by
  unfold State.eprMode
  extract_lets -merge -underBinder +onlyGivenNames x0
  split
  · exact Keeps.ite (fun _ => State.advertise_keeps _ (State.modFw_keeps _ _ (State.fwSend_keeps _ _ _ _ _ (State.fwSend_keeps _ _ _ _ _ hk)))) (fun _ => State.fwSend_keeps _ _ _ _ _ hk)
  · exact State.modFw_keeps _ _ hk
  · exact hk

theorem State.sendRequest_keeps (n : Port) (o : SnkOpt) (i : ℕ) (mism : Bool) (hk : Keeps ⟨H1, H2, H3, H4, false, H6, H7, H8, H9, H10, H11, H12, H13, H14, false⟩ s0 s) : Keeps ⟨H1, H2, H3, H4, false, H6, H7, H8, H9, H10, H11, H12, H13, H14, false⟩ s0 (State.sendRequest s n o i mism) := by
  unfold State.sendRequest
  extract_lets -merge -underBinder +onlyGivenNames x0 x1 x2 x3 x4
  have hx4 : Keeps ⟨H1, H2, H3, H4, false, H6, H7, H8, H9, H10, H11, H12, H13, H14, false⟩ s0 x4 := State.stageCon_keeps _ _ _ _ _ _ hk
  try clear_value x4
  extract_lets -merge -underBinder +onlyGivenNames x5
  have hx5 : Keeps ⟨H1, H2, H3, H4, false, H6, H7, H8, H9, H10, H11, H12, H13, H14, false⟩ s0 x5 := State.modFw_keeps _ _ hx4
  try clear_value x5
  exact Keeps.ite (fun _ => State.fwSend_keeps _ _ _ _ _ hx5) (fun _ => State.fwSend_keeps _ _ _ _ _ hx5)

theorem State.sinkChoose_keeps (n : Port) (hk : Keeps ⟨H1, H2, H3, H4, false, H6, H7, H8, H9, H10, H11, H12, H13, H14, false⟩ s0 s) : Keeps ⟨H1, H2, H3, H4, false, H6, H7, H8, H9, H10, H11, H12, H13, H14, false⟩ s0 (State.sinkChoose s n) := by
  unfold State.sinkChoose
  extract_lets -merge -underBinder +onlyGivenNames x0 x1
  split
  · exact State.sendRequest_keeps _ _ _ _ hk
  · extract_lets -merge -underBinder +onlyGivenNames x2
    extract_lets -merge -underBinder +onlyGivenNames x3 x4
    have hx4 : Keeps ⟨H1, H2, H3, H4, false, H6, H7, H8, H9, H10, H11, H12, H13, H14, false⟩ s0 x4 := State.sendRequest_keeps _ _ _ _ hk
    try clear_value x4
    split
    · exact hx4
    · exact Keeps.ite (fun _ => hx4) (fun _ => State.sendRequest_keeps _ _ _ _ hk)

theorem State.policyTick_keeps (n : Port) (hk : Keeps ⟨H1, H2, H3, H4, false, H6, H7, H8, H9, H10, H11, false, H13, H14, false⟩ s0 s) : Keeps ⟨H1, H2, H3, H4, false, H6, H7, H8, H9, H10, H11, false, H13, H14, false⟩ s0 (State.policyTick s n) := by
  unfold State.policyTick
  extract_lets -merge -underBinder +onlyGivenNames x0
  have hx0 : Keeps ⟨H1, H2, H3, H4, false, H6, H7, H8, H9, H10, H11, false, H13, H14, false⟩ s0 x0 := Keeps.ite (fun _ => State.followLimit_keeps _ hk) (fun _ => hk)
  try clear_value x0
  extract_lets -merge -underBinder +onlyGivenNames x1 x2 x3
  have hx3 : Keeps ⟨H1, H2, H3, H4, false, H6, H7, H8, H9, H10, H11, false, H13, H14, false⟩ s0 x3 := Keeps.ite (fun _ => hx0) (fun _ => State.modFw_keeps _ _ hx0)
  try clear_value x3
  exact Keeps.ite (fun _ => hx0) (fun _ => Keeps.ite (fun _ => Keeps.ite (fun _ => Keeps.ite (fun _ => State.fwSendExt_keeps _ _ _ (State.modFw_keeps _ _ hx0)) (fun _ => hx0)) (fun _ => Keeps.ite (fun _ => State.fwSend_keeps _ _ _ _ _ (State.modFw_keeps _ _ hx0)) (fun _ => hx0))) (fun _ => Keeps.ite (fun _ => Keeps.ite (fun _ => hx3) (fun _ => State.fwSend_keeps _ _ _ _ _ hx3)) (fun _ => hx0)))

theorem State.drAnswer_keeps (n : Port) (hk : Keeps ⟨H1, H2, H3, H4, false, H6, H7, H8, H9, H10, H11, H12, H13, H14, false⟩ s0 s) : Keeps ⟨H1, H2, H3, H4, false, H6, H7, H8, H9, H10, H11, H12, H13, H14, false⟩ s0 (State.drAnswer s n) := by
  unfold State.drAnswer
  extract_lets -merge -underBinder +onlyGivenNames x0 x1
  exact Keeps.ite (fun _ => State.hardResetStart_keeps _ hk) (fun _ => Keeps.ite (fun _ => State.fwSend_keeps _ _ _ _ _ hk) (fun _ => Keeps.ite (fun _ => State.fwSendFor_keeps _ _ _ _ _ _ hk) (fun _ => State.fwSend_keeps _ _ _ _ _ hk)))

theorem State.drInitiate_keeps (n : Port) (hk : Keeps ⟨H1, H2, H3, H4, false, H6, H7, H8, H9, H10, H11, H12, H13, H14, false⟩ s0 s) : Keeps ⟨H1, H2, H3, H4, false, H6, H7, H8, H9, H10, H11, H12, H13, H14, false⟩ s0 (State.drInitiate s n) := by
  unfold State.drInitiate
  extract_lets -merge -underBinder +onlyGivenNames x0 x1
  exact Keeps.ite (fun _ => State.fwSend_keeps _ _ _ _ _ (State.modFw_keeps _ _ hk)) (fun _ => hk)

theorem State.vdmEvt_keeps (n : Port) (f : Fld) (hk : Keeps H s0 s) : Keeps H s0 (State.vdmEvt s n f) := by
  unfold State.vdmEvt
  exact State.raise_keeps _ _ hk

theorem State.discStart_keeps (n : Port) (hk : Keeps ⟨H1, H2, H3, H4, false, H6, H7, H8, H9, H10, H11, H12, H13, H14, false⟩ s0 s) : Keeps ⟨H1, H2, H3, H4, false, H6, H7, H8, H9, H10, H11, H12, H13, H14, false⟩ s0 (State.discStart s n) := by
  unfold State.discStart
  extract_lets -merge -underBinder +onlyGivenNames x0
  have hx0 : Keeps ⟨H1, H2, H3, H4, false, H6, H7, H8, H9, H10, H11, H12, H13, H14, false⟩ s0 x0 := State.modFw_keeps _ _ (State.put_keeps _ _ _ hk)
  try clear_value x0
  exact State.vdmAsk_keeps _ _ _ _ _ hx0

theorem State.amsDone_keeps (n : Port) (hk : Keeps ⟨H1, H2, H3, H4, H5, H6, H7, H8, H9, H10, H11, H12, H13, H14, false⟩ s0 s) : Keeps ⟨H1, H2, H3, H4, H5, H6, H7, H8, H9, H10, H11, H12, H13, H14, false⟩ s0 (State.amsDone s n) := by
  unfold State.amsDone
  exact Keeps.ite (fun _ => State.amsEnd_keeps _ hk) (fun _ => hk)

theorem State.discEnd_keeps (n : Port) (ok : Bool) (hk : Keeps ⟨H1, H2, H3, H4, H5, H6, H7, H8, H9, H10, H11, H12, H13, H14, false⟩ s0 s) : Keeps ⟨H1, H2, H3, H4, H5, H6, H7, H8, H9, H10, H11, H12, H13, H14, false⟩ s0 (State.discEnd s n ok) := by
  unfold State.discEnd
  extract_lets -merge -underBinder +onlyGivenNames x0
  have hx0 : Keeps ⟨H1, H2, H3, H4, H5, H6, H7, H8, H9, H10, H11, H12, H13, H14, false⟩ s0 x0 := State.modFw_keeps _ _ (State.put_keeps _ _ _ hk)
  try clear_value x0
  extract_lets -merge -underBinder +onlyGivenNames x1
  have hx1 : Keeps ⟨H1, H2, H3, H4, H5, H6, H7, H8, H9, H10, H11, H12, H13, H14, false⟩ s0 x1 := State.vdmEvt_keeps _ _ hx0
  try clear_value x1
  exact Keeps.ite (fun _ => hx1) (fun _ => State.amsDone_keeps _ hx1)

theorem State.discNext_keeps (n : Port) (hk : Keeps ⟨H1, H2, H3, H4, false, H6, H7, H8, H9, H10, H11, H12, H13, H14, false⟩ s0 s) : Keeps ⟨H1, H2, H3, H4, false, H6, H7, H8, H9, H10, H11, H12, H13, H14, false⟩ s0 (State.discNext s n) := by
  unfold State.discNext
  split
  · exact State.discEnd_keeps _ _ hk
  · exact State.vdmAsk_keeps _ _ _ _ _ (State.modFw_keeps _ _ (State.put_keeps _ _ _ hk))

theorem State.svidPut_keeps (n : Port) (i : ℕ) (v : ℕ) (hk : Keeps H s0 s) : Keeps H s0 (State.svidPut s n i v) := by
  unfold State.svidPut
  exact State.put_keeps _ _ _ hk

theorem State.discSvids_keeps (n : Port) (objs : List Word) (hk : Keeps ⟨H1, H2, H3, H4, false, H6, H7, H8, H9, H10, H11, H12, H13, H14, false⟩ s0 s) : Keeps ⟨H1, H2, H3, H4, false, H6, H7, H8, H9, H10, H11, H12, H13, H14, false⟩ s0 (State.discSvids s n objs) := by
  unfold State.discSvids
  extract_lets -merge -underBinder +onlyGivenNames x0 x1 x2 x3 x4
  have hx4 : Keeps ⟨H1, H2, H3, H4, false, H6, H7, H8, H9, H10, H11, H12, H13, H14, false⟩ s0 x4 := foldl_keeps _ hk (fun _ _ h5 => State.svidPut_keeps _ _ _ h5)
  try clear_value x4
  extract_lets -merge -underBinder +onlyGivenNames x6
  have hx6 : Keeps ⟨H1, H2, H3, H4, false, H6, H7, H8, H9, H10, H11, H12, H13, H14, false⟩ s0 x6 := State.putB_keeps _ _ _ (State.put_keeps _ _ _ hx4)
  try clear_value x6
  extract_lets -merge -underBinder +onlyGivenNames x7
  have hx7 : Keeps ⟨H1, H2, H3, H4, false, H6, H7, H8, H9, H10, H11, H12, H13, H14, false⟩ s0 x7 := State.modFw_keeps _ _ hx6
  try clear_value x7
  extract_lets -merge -underBinder +onlyGivenNames x8
  exact Keeps.ite (fun _ => State.vdmAsk_keeps _ _ _ _ _ hx7) (fun _ => State.discNext_keeps _ (State.modFw_keeps _ _ hx7))

theorem State.enterMode_keeps (n : Port) (svid : ℕ) (pos : ℕ) (ams : Bool) (hk : Keeps ⟨H1, H2, H3, H4, false, H6, H7, H8, H9, H10, H11, H12, H13, H14, false⟩ s0 s) : Keeps ⟨H1, H2, H3, H4, false, H6, H7, H8, H9, H10, H11, H12, H13, H14, false⟩ s0 (State.enterMode s n svid pos ams) := by
  unfold State.enterMode
  exact State.vdmAsk_keeps _ _ _ _ _ (State.modFw_keeps _ _ hk)

theorem State.modeClear_keeps (n : Port) (mux : ℕ) (hk : Keeps ⟨H1, H2, H3, H4, H5, H6, H7, H8, H9, H10, H11, H12, H13, H14, false⟩ s0 s) : Keeps ⟨H1, H2, H3, H4, H5, H6, H7, H8, H9, H10, H11, H12, H13, H14, false⟩ s0 (State.modeClear s n mux) := by
  unfold State.modeClear
  extract_lets -merge -underBinder +onlyGivenNames x0 x1
  have hx1 : Keeps ⟨H1, H2, H3, H4, H5, H6, H7, H8, H9, H10, H11, H12, H13, H14, false⟩ s0 x1 := State.wr_keeps _ _ _ (State.wr_keeps _ _ _ (State.wr_keeps _ _ _ hk))
  try clear_value x1
  exact State.modFw_keeps _ _ (State.put_keeps _ _ _ hx1)

theorem State.modeRecord_keeps (n : Port) (hk : Keeps ⟨H1, H2, H3, false, H5, H6, H7, H8, H9, H10, H11, H12, H13, H14, H15⟩ s0 s) : Keeps ⟨H1, H2, H3, false, H5, H6, H7, H8, H9, H10, H11, H12, H13, H14, H15⟩ s0 (State.modeRecord s n) := by
  unfold State.modeRecord
  extract_lets -merge -underBinder +onlyGivenNames x0
  exact State.aosWrite_keeps _ _ hk

theorem State.dpStatus_keeps (n : Port) (vdo : Word) (hk : Keeps ⟨H1, H2, H3, false, H5, H6, H7, H8, H9, H10, H11, H12, H13, H14, false⟩ s0 s) : Keeps ⟨H1, H2, H3, false, H5, H6, H7, H8, H9, H10, H11, H12, H13, H14, false⟩ s0 (State.dpStatus s n vdo) := by
  unfold State.dpStatus
  extract_lets -merge -underBinder +onlyGivenNames x0
  have hx0 : Keeps ⟨H1, H2, H3, false, H5, H6, H7, H8, H9, H10, H11, H12, H13, H14, false⟩ s0 x0 := State.wr_keeps _ _ _ hk
  try clear_value x0
  extract_lets -merge -underBinder +onlyGivenNames x1 x2
  have hx2 : Keeps ⟨H1, H2, H3, false, H5, H6, H7, H8, H9, H10, H11, H12, H13, H14, false⟩ s0 x2 := State.raiseIf_keeps _ _ _ hx0
  try clear_value x2
  extract_lets -merge -underBinder +onlyGivenNames x3 x4
  have hx4 : Keeps ⟨H1, H2, H3, false, H5, H6, H7, H8, H9, H10, H11, H12, H13, H14, false⟩ s0 x4 := State.hpdWrite_keeps _ _ hx2
  try clear_value x4
  extract_lets -merge -underBinder +onlyGivenNames x5
  exact State.modeRecord_keeps _ (Keeps.ite (fun _ => State.freshen_keeps (State.hpdIrq_keeps _ _ hx4)) (fun _ => hx4))

theorem State.modeResponse_keeps (n : Port) (q : VdmReq) (h : Word) (objs : List Word) (hk : Keeps ⟨H1, H2, H3, false, false, H6, H7, H8, H9, H10, H11, H12, H13, H14, false⟩ s0 s) : Keeps ⟨H1, H2, H3, false, false, H6, H7, H8, H9, H10, H11, H12, H13, H14, false⟩ s0 (State.modeResponse s n q h objs) := by
  unfold State.modeResponse
  extract_lets -merge -underBinder +onlyGivenNames x0 x1 x2
  split
  · extract_lets -merge -underBinder +onlyGivenNames x3
    have hx3 : Keeps ⟨H1, H2, H3, false, false, H6, H7, H8, H9, H10, H11, H12, H13, H14, false⟩ s0 x3 := State.put_keeps _ _ _ (State.put_keeps _ _ _ (State.put_keeps _ _ _ hk))
    try clear_value x3
    extract_lets -merge -underBinder +onlyGivenNames x4
    have hx4 : Keeps ⟨H1, H2, H3, false, false, H6, H7, H8, H9, H10, H11, H12, H13, H14, false⟩ s0 x4 := State.vdmEvt_keeps _ _ hx3
    try clear_value x4
    exact Keeps.ite (fun _ => Keeps.ite (fun _ => State.vdmAsk_keeps _ _ _ _ _ (State.put_keeps _ _ _ hx4)) (fun _ => State.amsDone_keeps _ (State.modeRecord_keeps _ hx4))) (fun _ => State.amsDone_keeps _ (State.modFw_keeps _ _ hk))
  · exact State.amsDone_keeps _ (State.modeRecord_keeps _ (State.vdmEvt_keeps _ _ (State.modeClear_keeps _ _ hk)))
  · extract_lets -merge -underBinder +onlyGivenNames x5
    have hx5 : Keeps ⟨H1, H2, H3, false, false, H6, H7, H8, H9, H10, H11, H12, H13, H14, false⟩ s0 x5 := State.dpStatus_keeps _ _ hk
    try clear_value x5
    extract_lets -merge -underBinder +onlyGivenNames x6 x7
    have hx7 : Keeps ⟨H1, H2, H3, false, false, H6, H7, H8, H9, H10, H11, H12, H13, H14, false⟩ s0 x7 := State.modFw_keeps _ _ hx5
    try clear_value x7
    exact Keeps.ite (fun _ => State.vdmAsk_keeps _ _ _ _ _ hx7) (fun _ => State.amsDone_keeps _ hk)
  · extract_lets -merge -underBinder +onlyGivenNames x8
    have hx8 : Keeps ⟨H1, H2, H3, false, false, H6, H7, H8, H9, H10, H11, H12, H13, H14, false⟩ s0 x8 := State.put_keeps _ _ _ (State.wr_keeps _ _ _ hk)
    try clear_value x8
    exact Keeps.ite (fun _ => State.amsDone_keeps _ (State.modeRecord_keeps _ hx8)) (fun _ => State.vdmAsk_keeps _ _ _ _ _ (State.modFw_keeps _ _ hk))
  · exact hk

theorem State.cableResponse_keeps (n : Port) (q : VdmReq) (ack : Bool) (objs : List Word) (hk : Keeps ⟨H1, H2, H3, H4, false, H6, H7, H8, H9, H10, H11, H12, H13, H14, false⟩ s0 s) : Keeps ⟨H1, H2, H3, H4, false, H6, H7, H8, H9, H10, H11, H12, H13, H14, false⟩ s0 (State.cableResponse s n q ack objs) := by
  unfold State.cableResponse
  extract_lets -merge -underBinder +onlyGivenNames x0 x1
  have hx1 : Keeps ⟨H1, H2, H3, H4, false, H6, H7, H8, H9, H10, H11, H12, H13, H14, false⟩ s0 x1 := State.modFw_keeps _ _ hk
  try clear_value x1
  extract_lets -merge -underBinder +onlyGivenNames x2 x3
  have hx3 : Keeps ⟨H1, H2, H3, H4, false, H6, H7, H8, H9, H10, H11, H12, H13, H14, false⟩ s0 x3 := State.wr_keeps _ _ _ (State.wr_keeps _ _ _ hx1)
  try clear_value x3
  extract_lets -merge -underBinder +onlyGivenNames x4
  have hx4 : Keeps ⟨H1, H2, H3, H4, false, H6, H7, H8, H9, H10, H11, H12, H13, H14, false⟩ s0 x4 := State.putB_keeps _ _ _ (State.put_keeps _ _ _ hx3)
  try clear_value x4
  exact Keeps.ite (fun _ => Keeps.ite (fun _ => State.vdmAsk_keeps _ _ _ _ _ (State.modFw_keeps _ _ hx4)) (fun _ => State.amsDone_keeps _ hx4)) (fun _ => State.amsDone_keeps _ hx1)

theorem State.vdmResponse_keeps (n : Port) (i : ℕ) (hk : Keeps ⟨H1, H2, H3, false, false, H6, H7, H8, H9, H10, H11, H12, H13, H14, false⟩ s0 s) : Keeps ⟨H1, H2, H3, false, false, H6, H7, H8, H9, H10, H11, H12, H13, H14, false⟩ s0 (State.vdmResponse s n i) := by
  unfold State.vdmResponse
  extract_lets -merge -underBinder +onlyGivenNames x0
  split
  · exact hk
  · extract_lets -merge -underBinder +onlyGivenNames x1
    extract_lets -merge -underBinder +onlyGivenNames x2 x3 x4 x5 x6
    have hx6 : Keeps ⟨H1, H2, H3, false, false, H6, H7, H8, H9, H10, H11, H12, H13, H14, false⟩ s0 x6 := State.modFw_keeps _ _ hk
    try clear_value x6
    refine Keeps.ite (fun _ => ?_) (fun _ => ?_)
    · exact hk
    · refine Keeps.ite (fun _ => ?_) (fun _ => ?_)
      · exact State.modFw_keeps _ _ hk
      · refine Keeps.ite (fun _ => ?_) (fun _ => ?_)
        · exact State.cableResponse_keeps _ _ _ _ hk
        · split
          · extract_lets -merge -underBinder +onlyGivenNames x7
            have hx7 : Keeps ⟨H1, H2, H3, false, false, H6, H7, H8, H9, H10, H11, H12, H13, H14, false⟩ s0 x7 := State.wr_keeps _ _ _ (State.wr_keeps _ _ _ (State.wr_keeps _ _ _ (State.wr_keeps _ _ _ hx6)))
            try clear_value x7
            extract_lets -merge -underBinder +onlyGivenNames x8
            have hx8 : Keeps ⟨H1, H2, H3, false, false, H6, H7, H8, H9, H10, H11, H12, H13, H14, false⟩ s0 x8 := State.put_keeps _ _ _ (State.put_keeps _ _ _ hx7)
            try clear_value x8
            exact Keeps.ite (fun _ => State.vdmAsk_keeps _ _ _ _ _ (State.put_keeps _ _ _ hx8)) (fun _ => State.discEnd_keeps _ _ hx6)
          · exact Keeps.ite (fun _ => State.discSvids_keeps _ _ hx6) (fun _ => State.discEnd_keeps _ _ hx6)
          · extract_lets -merge -underBinder +onlyGivenNames x9
            extract_lets -merge -underBinder +onlyGivenNames x10 x11
            have hx11 : Keeps ⟨H1, H2, H3, false, false, H6, H7, H8, H9, H10, H11, H12, H13, H14, false⟩ s0 x11 := State.modFw_keeps _ _ hx6
            try clear_value x11
            extract_lets -merge -underBinder +onlyGivenNames x12
            have hx12 : Keeps ⟨H1, H2, H3, false, false, H6, H7, H8, H9, H10, H11, H12, H13, H14, false⟩ s0 x12 := Keeps.ite (fun _ => State.wr_keeps _ _ _ hx11) (fun _ => hx11)
            try clear_value x12
            exact Keeps.ite (fun _ => State.discNext_keeps _ hx12) (fun _ => State.discEnd_keeps _ _ hx6)
          · exact State.modeResponse_keeps _ _ _ _ hx6

theorem State.vdmReply_keeps (n : Port) (q : Word) (ctype : ℕ) (objs : List Word) (hk : Keeps ⟨H1, H2, H3, H4, false, H6, H7, H8, H9, H10, H11, H12, H13, H14, false⟩ s0 s) : Keeps ⟨H1, H2, H3, H4, false, H6, H7, H8, H9, H10, H11, H12, H13, H14, false⟩ s0 (State.vdmReply s n q ctype objs) := by
  unfold State.vdmReply
  exact State.fwSendFor_keeps _ _ _ _ _ _ hk

theorem State.vdmRequest_keeps (n : Port) (i : ℕ) (hk : Keeps ⟨H1, H2, H3, false, false, H6, H7, H8, H9, H10, H11, H12, H13, H14, false⟩ s0 s) : Keeps ⟨H1, H2, H3, false, false, H6, H7, H8, H9, H10, H11, H12, H13, H14, false⟩ s0 (State.vdmRequest s n i) := by
  unfold State.vdmRequest
  extract_lets -merge -underBinder +onlyGivenNames x0 x1 x2 x3
  refine Keeps.ite (fun _ => ?_) (fun _ => ?_)
  · exact Keeps.ite (fun _ => State.dpStatus_keeps _ _ hk) (fun _ => hk)
  · refine Keeps.ite (fun _ => ?_) (fun _ => ?_)
    · exact State.vdmReply_keeps _ _ _ _ hk
    · refine Keeps.ite (fun _ => ?_) (fun _ => ?_)
      · exact State.vdmReply_keeps _ _ _ _ hk
      · split
        · exact Keeps.ite (fun _ => State.vdmReply_keeps _ _ _ _ (State.modFw_keeps _ _ hk)) (fun _ => State.vdmReply_keeps _ _ _ _ hk)
        · extract_lets -merge -underBinder +onlyGivenNames x4
          exact Keeps.ite (fun _ => State.vdmReply_keeps _ _ _ _ (State.modFw_keeps _ _ hk)) (fun _ => State.vdmReply_keeps _ _ _ _ hk)
        · exact Keeps.ite (fun _ => State.vdmReply_keeps _ _ _ _ hk) (fun _ => State.vdmReply_keeps _ _ _ _ hk)
        · extract_lets -merge -underBinder +onlyGivenNames x5
          have hx5 : Keeps ⟨H1, H2, H3, false, false, H6, H7, H8, H9, H10, H11, H12, H13, H14, false⟩ s0 x5 := State.put_keeps _ _ _ (State.put_keeps _ _ _ (State.put_keeps _ _ _ hk))
          try clear_value x5
          extract_lets -merge -underBinder +onlyGivenNames x6
          have hx6 : Keeps ⟨H1, H2, H3, false, false, H6, H7, H8, H9, H10, H11, H12, H13, H14, false⟩ s0 x6 := Keeps.ite (fun _ => State.put_keeps _ _ _ hx5) (fun _ => hx5)
          try clear_value x6
          exact Keeps.ite (fun _ => State.vdmReply_keeps _ _ _ _ (State.modeRecord_keeps _ (State.vdmEvt_keeps _ _ hx6))) (fun _ => State.vdmReply_keeps _ _ _ _ hk)
        · exact Keeps.ite (fun _ => State.vdmReply_keeps _ _ _ _ (State.modeRecord_keeps _ (State.vdmEvt_keeps _ _ (State.modeClear_keeps _ _ hk)))) (fun _ => State.vdmReply_keeps _ _ _ _ hk)
        · exact Keeps.ite (fun _ => State.vdmReply_keeps _ _ _ _ (State.wr_keeps _ _ _ hk)) (fun _ => State.vdmReply_keeps _ _ _ _ hk)
        · extract_lets -merge -underBinder +onlyGivenNames x7
          have hx7 : Keeps ⟨H1, H2, H3, false, false, H6, H7, H8, H9, H10, H11, H12, H13, H14, false⟩ s0 x7 := State.modeRecord_keeps _ (State.put_keeps _ _ _ (State.wr_keeps _ _ _ hk))
          try clear_value x7
          exact Keeps.ite (fun _ => State.vdmReply_keeps _ _ _ _ (State.modFw_keeps _ _ hx7)) (fun _ => State.vdmReply_keeps _ _ _ _ hk)
        · exact State.vdmReply_keeps _ _ _ _ hk

theorem State.vdmTimeout_keeps (n : Port) (q : VdmReq) (hk : Keeps ⟨H1, H2, H3, false, false, H6, H7, H8, H9, H10, H11, H12, H13, H14, false⟩ s0 s) : Keeps ⟨H1, H2, H3, false, false, H6, H7, H8, H9, H10, H11, H12, H13, H14, false⟩ s0 (State.vdmTimeout s n q) := by
  unfold State.vdmTimeout
  extract_lets -merge -underBinder +onlyGivenNames x0 x1
  have hx1 : ∀ a0, Keeps ⟨H1, H2, H3, false, false, H6, H7, H8, H9, H10, H11, H12, H13, H14, false⟩ s0 (x1 a0) := by
    intro s2_0
    unfold x1
    beta_reduce
    exact State.modFw_keeps _ _ (State.fwSend_keeps _ _ _ _ _ hk)
  try clear_value x1
  refine Keeps.ite (fun _ => ?_) (fun _ => ?_)
  · refine hx1 _
  · refine Keeps.ite (fun _ => ?_) (fun _ => ?_)
    · exact State.amsDone_keeps _ (State.modeRecord_keeps _ (State.vdmEvt_keeps _ _ (State.modeClear_keeps _ _ hk)))
    · refine Keeps.ite (fun _ => ?_) (fun _ => ?_)
      · refine Keeps.ite (fun _ => ?_) (fun _ => ?_)
        · exact State.discEnd_keeps _ _ hk
        · refine hx1 _
      · exact State.amsDone_keeps _ (State.modFw_keeps _ _ hk)

theorem State.cableTimeout_keeps (n : Port) (q : VdmReq) (hk : Keeps ⟨H1, H2, H3, H4, false, H6, H7, H8, H9, H10, H11, H12, H13, H14, false⟩ s0 s) : Keeps ⟨H1, H2, H3, H4, false, H6, H7, H8, H9, H10, H11, H12, H13, H14, false⟩ s0 (State.cableTimeout s n q) := by
  unfold State.cableTimeout
  exact Keeps.ite (fun _ => State.modFw_keeps _ _ (State.fwSend_keeps _ _ _ _ _ hk)) (fun _ => State.amsDone_keeps _ (State.modFw_keeps _ _ hk))

theorem State.vdmRediscover_keeps (n : Port) (hk : Keeps ⟨H1, H2, H3, H4, false, H6, H7, H8, H9, H10, H11, H12, H13, H14, false⟩ s0 s) : Keeps ⟨H1, H2, H3, H4, false, H6, H7, H8, H9, H10, H11, H12, H13, H14, false⟩ s0 (State.vdmRediscover s n) := by
  unfold State.vdmRediscover
  exact Keeps.ite (fun _ => State.discStart_keeps _ hk) (fun _ => hk)

theorem State.vdmEnter_keeps (n : Port) (hk : Keeps ⟨H1, H2, H3, H4, false, H6, H7, H8, H9, H10, H11, H12, H13, H14, false⟩ s0 s) : Keeps ⟨H1, H2, H3, H4, false, H6, H7, H8, H9, H10, H11, H12, H13, H14, false⟩ s0 (State.vdmEnter s n) := by
  unfold State.vdmEnter
  extract_lets -merge -underBinder +onlyGivenNames x0 x1 x2
  exact Keeps.ite (fun _ => State.put_keeps _ _ _ hk) (fun _ => Keeps.ite (fun _ => State.enterMode_keeps _ _ _ _ hk) (fun _ => hk))

theorem State.vdmExit_keeps (n : Port) (hk : Keeps ⟨H1, H2, H3, H4, false, H6, H7, H8, H9, H10, H11, H12, H13, H14, false⟩ s0 s) : Keeps ⟨H1, H2, H3, H4, false, H6, H7, H8, H9, H10, H11, H12, H13, H14, false⟩ s0 (State.vdmExit s n) := by
  unfold State.vdmExit
  extract_lets -merge -underBinder +onlyGivenNames x0
  exact Keeps.ite (fun _ => State.vdmAsk_keeps _ _ _ _ _ hk) (fun _ => hk)

theorem State.hostTxGo_keeps (n : Port) (hk : Keeps ⟨H1, H2, H3, H4, false, H6, H7, H8, H9, H10, H11, H12, H13, H14, false⟩ s0 s) : Keeps ⟨H1, H2, H3, H4, false, H6, H7, H8, H9, H10, H11, H12, H13, H14, false⟩ s0 (State.hostTxGo s n) := by
  unfold State.hostTxGo
  extract_lets -merge -underBinder +onlyGivenNames x0 x1 x2 x3 x4 x5 x6
  exact Keeps.ite (fun _ => State.hostDone_keeps _ _ hk) (fun _ => State.fwSendFor_keeps _ _ _ _ _ _ (State.modFw_keeps _ _ hk))

theorem State.hostTxWrite_keeps (n : Port) (count : ℕ) (sop : ℕ) (hk : Keeps ⟨H1, H2, H3, H4, false, H6, H7, H8, H9, H10, H11, H12, H13, H14, false⟩ s0 s) : Keeps ⟨H1, H2, H3, H4, false, H6, H7, H8, H9, H10, H11, H12, H13, H14, false⟩ s0 (State.hostTxWrite s n count sop) := by
  unfold State.hostTxWrite
  extract_lets -merge -underBinder +onlyGivenNames x0
  exact Keeps.ite (fun _ => hk) (fun _ => State.policy_keeps (State.put_keeps _ _ _ (State.put_keeps _ _ _ (State.put_keeps _ _ _ hk))) (fun _ h1 => State.hostTxGo_keeps _ h1))

theorem State.recPut_keeps (a : ℕ) (w : ℕ) (v : ℕ) (hk : Keeps ⟨H1, H2, H3, H4, false, H6, H7, H8, H9, H10, H11, false, H13, H14, H15⟩ s0 s) : Keeps ⟨H1, H2, H3, H4, false, H6, H7, H8, H9, H10, H11, false, H13, H14, H15⟩ s0 (State.recPut s a w v) := by
  unfold State.recPut
  extract_lets -merge -underBinder +onlyGivenNames x0
  have hx0 : Keeps ⟨H1, H2, H3, H4, false, H6, H7, H8, H9, H10, H11, false, H13, H14, H15⟩ s0 x0 := State.stPut_keeps _ _ _ hk
  try clear_value x0
  extract_lets -merge -underBinder +onlyGivenNames x1
  have hx1 : Keeps ⟨H1, H2, H3, H4, false, H6, H7, H8, H9, H10, H11, false, H13, H14, H15⟩ s0 x1 := State.stPut_keeps _ _ _ hx0
  try clear_value x1
  exact Keeps.mk' hx1

theorem State.recSet_keeps (a : ℕ) (w : ℕ) (lo : ℕ) (n : ℕ) (v : ℕ) (hk : Keeps ⟨H1, H2, H3, H4, false, H6, H7, H8, H9, H10, H11, false, H13, H14, H15⟩ s0 s) : Keeps ⟨H1, H2, H3, H4, false, H6, H7, H8, H9, H10, H11, false, H13, H14, H15⟩ s0 (State.recSet s a w lo n v) := by
  unfold State.recSet
  exact State.recPut_keeps _ _ _ hk

theorem State.modPlace_keeps (f : PlaceSt → PlaceSt) (hk : Keeps ⟨H1, H2, H3, H4, H5, H6, H7, H8, H9, H10, H11, false, H13, H14, H15⟩ s0 s) : Keeps ⟨H1, H2, H3, H4, H5, H6, H7, H8, H9, H10, H11, false, H13, H14, H15⟩ s0 (State.modPlace s f) := by
  unfold State.modPlace
  exact Keeps.mk' hk

theorem State.modLed_keeps (i : ℕ) (f : Led → Led) (hk : Keeps ⟨H1, H2, H3, H4, H5, H6, H7, H8, H9, H10, H11, false, H13, H14, H15⟩ s0 s) : Keeps ⟨H1, H2, H3, H4, H5, H6, H7, H8, H9, H10, H11, false, H13, H14, H15⟩ s0 (State.modLed s i f) := by
  unfold State.modLed
  exact State.modPlace_keeps _ hk

theorem State.modNode_keeps (k : ℕ) (f : NodeLed → NodeLed) (hk : Keeps ⟨H1, H2, H3, H4, H5, H6, H7, H8, H9, H10, H11, false, H13, H14, H15⟩ s0 s) : Keeps ⟨H1, H2, H3, H4, H5, H6, H7, H8, H9, H10, H11, false, H13, H14, H15⟩ s0 (State.modNode s k f) := by
  unfold State.modNode
  exact State.modPlace_keeps _ hk

theorem State.recLedger_keeps (i : ℕ) (grant : ℕ) (commit : ℕ) (st : ℕ) (hk : Keeps ⟨H1, H2, H3, H4, false, H6, H7, H8, H9, H10, H11, false, H13, H14, H15⟩ s0 s) : Keeps ⟨H1, H2, H3, H4, false, H6, H7, H8, H9, H10, H11, false, H13, H14, H15⟩ s0 (State.recLedger s i grant commit st) := by
  unfold State.recLedger
  extract_lets -merge -underBinder +onlyGivenNames x0 x1
  have hx1 : Keeps ⟨H1, H2, H3, H4, false, H6, H7, H8, H9, H10, H11, false, H13, H14, H15⟩ s0 x1 := State.stPut_keeps _ _ _ hk
  try clear_value x1
  exact State.recSet_keeps _ _ _ _ _ hx1

theorem State.ledgerStep_keeps (p : ℕ) (noInc : ℕ → Bool) (hk : Keeps ⟨H1, H2, H3, H4, false, H6, H7, H8, H9, H10, H11, false, H13, H14, H15⟩ s0 s) : Keeps ⟨H1, H2, H3, H4, false, H6, H7, H8, H9, H10, H11, false, H13, H14, H15⟩ s0 (State.ledgerStep s p noInc) := by
  unfold State.ledgerStep
  extract_lets -merge -underBinder +onlyGivenNames x0 x1 x2 x3 x4 x5 x6
  have hx6 : Keeps ⟨H1, H2, H3, H4, false, H6, H7, H8, H9, H10, H11, false, H13, H14, H15⟩ s0 x6 := foldl_keeps _ hk (fun _ _ h7 => Keeps.ite (fun _ => State.modLed_keeps _ _ h7) (fun _ => Keeps.ite (fun _ => State.modLed_keeps _ _ (State.recLedger_keeps _ _ _ _ h7)) (fun _ => Keeps.ite (fun _ => State.modLed_keeps _ _ (State.recLedger_keeps _ _ _ _ h7)) (fun _ => h7))))
  try clear_value x6
  extract_lets -merge -underBinder +onlyGivenNames x8 x9 x10
  have hx10 : Keeps ⟨H1, H2, H3, H4, false, H6, H7, H8, H9, H10, H11, false, H13, H14, H15⟩ s0 x10 := foldl_keeps _ hx6 (fun _ _ h11 => Keeps.ite (fun _ => State.modLed_keeps _ _ (State.recLedger_keeps _ _ _ _ h11)) (fun _ => State.modLed_keeps _ _ (State.recLedger_keeps _ _ _ _ h11)))
  try clear_value x10
  extract_lets -merge -underBinder +onlyGivenNames x12 x13 x14 x15
  have hx15 : Keeps ⟨H1, H2, H3, H4, false, H6, H7, H8, H9, H10, H11, false, H13, H14, H15⟩ s0 x15 := State.recPut_keeps _ _ _ (State.recPut_keeps _ _ _ hx10)
  try clear_value x15
  exact State.modPlace_keeps _ hx15

theorem State.cutCheck_keeps (hk : Keeps ⟨H1, H2, H3, H4, H5, H6, H7, H8, H9, H10, H11, false, H13, H14, H15⟩ s0 s) : Keeps ⟨H1, H2, H3, H4, H5, H6, H7, H8, H9, H10, H11, false, H13, H14, H15⟩ s0 (State.cutCheck s) := by
  unfold State.cutCheck
  extract_lets -merge -underBinder +onlyGivenNames x0
  exact Keeps.ite (fun _ => hk) (fun _ => Keeps.ite (fun _ => hk) (fun _ => State.modPlace_keeps _ hk))

theorem State.leaseEvt_keeps (f : Fld) (hk : Keeps ⟨H1, H2, H3, H4, false, H6, H7, H8, H9, H10, H11, H12, H13, H14, H15⟩ s0 s) : Keeps ⟨H1, H2, H3, H4, false, H6, H7, H8, H9, H10, H11, H12, H13, H14, H15⟩ s0 (State.leaseEvt s f) := by
  unfold State.leaseEvt
  extract_lets -merge -underBinder +onlyGivenNames x0
  have hx0 : Keeps ⟨H1, H2, H3, H4, false, H6, H7, H8, H9, H10, H11, H12, H13, H14, H15⟩ s0 x0 := State.raise_keeps _ _ hk
  try clear_value x0
  exact State.postGlobal_keeps _ _ _ _ _ hx0

theorem State.holdPort_keeps (n : Port) (hold : Bool) (hk : Keeps ⟨H1, H2, H3, H4, H5, H6, H7, H8, H9, H10, H11, false, H13, H14, H15⟩ s0 s) : Keeps ⟨H1, H2, H3, H4, H5, H6, H7, H8, H9, H10, H11, false, H13, H14, H15⟩ s0 (State.holdPort s n hold) := by
  unfold State.holdPort
  extract_lets -merge -underBinder +onlyGivenNames x0 x1
  have hx1 : Keeps ⟨H1, H2, H3, H4, H5, H6, H7, H8, H9, H10, H11, false, H13, H14, H15⟩ s0 x1 := Keeps.ite (fun _ => State.put_keeps _ _ _ hk) (fun _ => State.put_keeps _ _ _ hk)
  try clear_value x1
  exact Keeps.ite (fun _ => Keeps.ite (fun _ => Keeps.ite (fun _ => hk) (fun _ => State.modOwn_keeps _ _ (State.put_keeps _ _ _ hk))) (fun _ => Keeps.ite (fun _ => State.modOwn_keeps _ _ (State.put_keeps _ _ _ hk)) (fun _ => hk))) (fun _ => Keeps.ite (fun _ => State.modOwn_keeps _ _ hx1) (fun _ => hk))

theorem State.takeGrant_keeps (n : Port) (grant : ℕ) (floor : ℕ) (start : ℕ) (kind : ℕ) (seq : ℕ) (changed : Bool) (hk : Keeps ⟨H1, H2, H3, H4, H5, H6, H7, H8, H9, H10, H11, false, H13, H14, H15⟩ s0 s) : Keeps ⟨H1, H2, H3, H4, H5, H6, H7, H8, H9, H10, H11, false, H13, H14, H15⟩ s0 (State.takeGrant s n grant floor start kind seq changed) := by
  unfold State.takeGrant
  extract_lets -merge -underBinder +onlyGivenNames x0 x1 x2 x3 x4
  have hx4 : Keeps ⟨H1, H2, H3, H4, H5, H6, H7, H8, H9, H10, H11, false, H13, H14, H15⟩ s0 x4 := State.modOwn_keeps _ _ hk
  try clear_value x4
  extract_lets -merge -underBinder +onlyGivenNames x5
  have hx5 : Keeps ⟨H1, H2, H3, H4, H5, H6, H7, H8, H9, H10, H11, false, H13, H14, H15⟩ s0 x5 := Keeps.ite (fun _ => State.writeIlim_keeps _ hx4) (fun _ => hx4)
  try clear_value x5
  extract_lets -merge -underBinder +onlyGivenNames x6
  have hx6 : Keeps ⟨H1, H2, H3, H4, H5, H6, H7, H8, H9, H10, H11, false, H13, H14, H15⟩ s0 x6 := Keeps.ite (fun _ => State.put_keeps _ _ _ hx5) (fun _ => hx5)
  try clear_value x6
  exact Keeps.ite (fun _ => Keeps.ite (fun _ => State.modOwn_keeps _ _ (State.put_keeps _ _ _ hx6)) (fun _ => hx6)) (fun _ => State.holdPort_keeps _ _ hx6)

theorem State.startGrant_keeps (n : Port) (hk : Keeps ⟨H1, H2, H3, H4, false, H6, H7, H8, H9, H10, H11, false, H13, H14, false⟩ s0 s) : Keeps ⟨H1, H2, H3, H4, false, H6, H7, H8, H9, H10, H11, false, H13, H14, false⟩ s0 (State.startGrant s n) := by
  unfold State.startGrant
  extract_lets -merge -underBinder +onlyGivenNames x0 x1
  have hx1 : Keeps ⟨H1, H2, H3, H4, false, H6, H7, H8, H9, H10, H11, false, H13, H14, false⟩ s0 x1 := State.followLimit_keeps _ hk
  try clear_value x1
  extract_lets -merge -underBinder +onlyGivenNames x2
  have hx2 : Keeps ⟨H1, H2, H3, H4, false, H6, H7, H8, H9, H10, H11, false, H13, H14, false⟩ s0 x2 := State.modOwn_keeps _ _ hx1
  try clear_value x2
  refine Keeps.ite (fun _ => ?_) (fun _ => ?_)
  · exact hx1
  · split
    · exact hx2
    · exact Keeps.ite (fun _ => State.hardResetStart_keeps _ hx2) (fun _ => hx2)
    · extract_lets -merge -underBinder +onlyGivenNames x3
      have hx3 : Keeps ⟨H1, H2, H3, H4, false, H6, H7, H8, H9, H10, H11, false, H13, H14, false⟩ s0 x3 := State.modOwn_keeps _ _ hx2
      try clear_value x3
      exact Keeps.ite (fun _ => State.advertise_keeps _ hx3) (fun _ => State.modOwn_keeps _ _ hx3)

theorem State.ackOwn_keeps (n : Port) (hk : Keeps ⟨H1, H2, H3, H4, H5, H6, H7, H8, H9, H10, H11, false, H13, H14, H15⟩ s0 s) : Keeps ⟨H1, H2, H3, H4, H5, H6, H7, H8, H9, H10, H11, false, H13, H14, H15⟩ s0 (State.ackOwn s n) := by
  unfold State.ackOwn
  exact Keeps.ite (fun _ => State.modOwn_keeps _ _ hk) (fun _ => hk)

theorem State.limitTick_keeps (hk : Keeps ⟨H1, H2, H3, H4, H5, H6, H7, H8, H9, H10, H11, false, H13, H14, H15⟩ s0 s) : Keeps ⟨H1, H2, H3, H4, H5, H6, H7, H8, H9, H10, H11, false, H13, H14, H15⟩ s0 (State.limitTick s) := by
  unfold State.limitTick
  refine State.forPorts_keeps ?_ ?_
  · exact hk
  · intro s0_0 s0_1 hs0_1
    extract_lets -merge -underBinder +onlyGivenNames x1
    have hx1 : Keeps ⟨H1, H2, H3, H4, H5, H6, H7, H8, H9, H10, H11, false, H13, H14, H15⟩ s0 x1 := Keeps.ite (fun _ => State.modOwn_keeps _ _ hs0_1) (fun _ => hs0_1)
    try clear_value x1
    exact Keeps.ite (fun _ => State.modOwn_keeps _ _ hx1) (fun _ => hx1)

theorem State.ledgerConfirm_keeps (i : ℕ) (ack : ℕ) (ackSeq : ℕ) (attached : Bool) (low : Bool) (hk : Keeps ⟨H1, H2, H3, H4, false, H6, H7, H8, H9, H10, H11, false, H13, H14, H15⟩ s0 s) : Keeps ⟨H1, H2, H3, H4, false, H6, H7, H8, H9, H10, H11, false, H13, H14, H15⟩ s0 (State.ledgerConfirm s i ack ackSeq attached low) := by
  unfold State.ledgerConfirm
  extract_lets -merge -underBinder +onlyGivenNames x0 x1 x2
  have hx2 : Keeps ⟨H1, H2, H3, H4, false, H6, H7, H8, H9, H10, H11, false, H13, H14, H15⟩ s0 x2 := Keeps.ite (fun _ => hk) (fun _ => State.recLedger_keeps _ _ _ _ hk)
  try clear_value x2
  exact Keeps.ite (fun _ => State.modLed_keeps _ _ hx2) (fun _ => Keeps.ite (fun _ => State.modLed_keeps _ _ (State.recLedger_keeps _ _ _ _ hk)) (fun _ => hk))

theorem State.leaseReload_keeps (seq : ℕ) (hk : Keeps ⟨H1, H2, H3, H4, false, H6, H7, H8, H9, H10, H11, false, H13, H14, H15⟩ s0 s) : Keeps ⟨H1, H2, H3, H4, false, H6, H7, H8, H9, H10, H11, false, H13, H14, H15⟩ s0 (State.leaseReload s seq) := by
  unfold State.leaseReload
  extract_lets -merge -underBinder +onlyGivenNames x0 x1
  have hx1 : Keeps ⟨H1, H2, H3, H4, false, H6, H7, H8, H9, H10, H11, false, H13, H14, H15⟩ s0 x1 := State.put_keeps _ _ _ (State.put_keeps _ _ _ (State.put_keeps _ _ _ hk))
  try clear_value x1
  extract_lets -merge -underBinder +onlyGivenNames x2
  have hx2 : Keeps ⟨H1, H2, H3, H4, false, H6, H7, H8, H9, H10, H11, false, H13, H14, H15⟩ s0 x2 := State.modPlace_keeps _ hx1
  try clear_value x2
  exact Keeps.ite (fun _ => State.leaseEvt_keeps _ hx2) (fun _ => hx2)

theorem State.leaseTick_keeps (hk : Keeps ⟨H1, H2, H3, H4, H5, H6, H7, H8, H9, H10, H11, false, H13, H14, H15⟩ s0 s) : Keeps ⟨H1, H2, H3, H4, H5, H6, H7, H8, H9, H10, H11, false, H13, H14, H15⟩ s0 (State.leaseTick s) := by
  unfold State.leaseTick
  extract_lets -merge -underBinder +onlyGivenNames x0
  exact Keeps.ite (fun _ => hk) (fun _ => State.modPlace_keeps _ (State.put_keeps _ _ _ hk))

theorem State.placeTick_keeps (hk : Keeps ⟨H1, H2, H3, H4, false, H6, H7, H8, H9, H10, H11, false, H13, H14, H15⟩ s0 s) : Keeps ⟨H1, H2, H3, H4, false, H6, H7, H8, H9, H10, H11, false, H13, H14, H15⟩ s0 (State.placeTick s) := by
  unfold State.placeTick
  extract_lets -merge -underBinder +onlyGivenNames x0
  have hx0 : Keeps ⟨H1, H2, H3, H4, false, H6, H7, H8, H9, H10, H11, false, H13, H14, H15⟩ s0 x0 := State.limitTick_keeps hk
  try clear_value x0
  extract_lets -merge -underBinder +onlyGivenNames x1
  have hx1 : Keeps ⟨H1, H2, H3, H4, false, H6, H7, H8, H9, H10, H11, false, H13, H14, H15⟩ s0 x1 := State.putB_keeps _ _ _ hx0
  try clear_value x1
  extract_lets -merge -underBinder +onlyGivenNames x2
  have hx2 : Keeps ⟨H1, H2, H3, H4, false, H6, H7, H8, H9, H10, H11, false, H13, H14, H15⟩ s0 x2 := State.leaseTick_keeps hx1
  try clear_value x2
  extract_lets -merge -underBinder +onlyGivenNames x3
  have hx3 : Keeps ⟨H1, H2, H3, H4, false, H6, H7, H8, H9, H10, H11, false, H13, H14, H15⟩ s0 x3 := Keeps.ite (fun _ => State.put_keeps _ _ _ hx2) (fun _ => hx2)
  try clear_value x3
  extract_lets -merge -underBinder +onlyGivenNames x4 x5 x6
  have hx6 : Keeps ⟨H1, H2, H3, H4, false, H6, H7, H8, H9, H10, H11, false, H13, H14, H15⟩ s0 x6 := State.modPlace_keeps _ hx3
  try clear_value x6
  extract_lets -merge -underBinder +onlyGivenNames x7
  have hx7 : Keeps ⟨H1, H2, H3, H4, false, H6, H7, H8, H9, H10, H11, false, H13, H14, H15⟩ s0 x7 := State.raiseIf_keeps _ _ _ hx6
  try clear_value x7
  exact Keeps.ite (fun _ => State.postGlobal_keeps _ _ _ _ _ hx7) (fun _ => hx3)

theorem State.placeTakeover_keeps (hk : Keeps ⟨H1, H2, H3, H4, false, H6, H7, H8, H9, H10, H11, false, H13, H14, H15⟩ s0 s) : Keeps ⟨H1, H2, H3, H4, false, H6, H7, H8, H9, H10, H11, false, H13, H14, H15⟩ s0 (State.placeTakeover s) := by
  unfold State.placeTakeover
  extract_lets -merge -underBinder +onlyGivenNames x0
  have hx0 : Keeps ⟨H1, H2, H3, H4, false, H6, H7, H8, H9, H10, H11, false, H13, H14, H15⟩ s0 x0 := foldl_keeps _ hk (fun _ _ h1 => State.recLedger_keeps _ _ _ _ h1)
  try clear_value x0
  exact State.modPlace_keeps _ (State.put_keeps _ _ _ hx0)

theorem State.placeRun_keeps (hk : Keeps ⟨H1, H2, H3, H4, H5, H6, H7, H8, H9, H10, H11, false, H13, H14, H15⟩ s0 s) : Keeps ⟨H1, H2, H3, H4, H5, H6, H7, H8, H9, H10, H11, false, H13, H14, H15⟩ s0 (State.placeRun s) := by
  unfold State.placeRun
  exact Keeps.ite (fun _ => State.modPlace_keeps _ hk) (fun _ => hk)

theorem State.numberChanged_keeps (hk : Keeps ⟨H1, H2, H3, H4, H5, H6, H7, H8, H9, H10, H11, false, H13, H14, H15⟩ s0 s) : Keeps ⟨H1, H2, H3, H4, H5, H6, H7, H8, H9, H10, H11, false, H13, H14, H15⟩ s0 (State.numberChanged s).1 := by
  unfold State.numberChanged
  extract_lets -merge -underBinder +onlyGivenNames x0 x1 x2
  have hx2 : Keeps ⟨H1, H2, H3, H4, H5, H6, H7, H8, H9, H10, H11, false, H13, H14, H15⟩ s0 x2 := foldl_keeps _ hk (fun _ _ h3 => State.modLed_keeps _ _ h3)
  try clear_value x2
  refine Keeps.mkFst ?_
  exact hx2

theorem State.takeGrants_keeps (p : List Byte) (hk : Keeps ⟨H1, H2, H3, H4, H5, H6, H7, H8, H9, H10, H11, false, H13, H14, H15⟩ s0 s) : Keeps ⟨H1, H2, H3, H4, H5, H6, H7, H8, H9, H10, H11, false, H13, H14, H15⟩ s0 (State.takeGrants s p) := by
  unfold State.takeGrants
  refine State.forPorts_keeps ?_ ?_
  · exact hk
  · intro s0_0 s0_1 hs0_1
    extract_lets -merge -underBinder +onlyGivenNames x1
    exact State.takeGrant_keeps _ _ _ _ _ _ _ hs0_1

theorem State.contractTake_keeps (i : ℕ) (p : List Byte) (back : Bool) (hk : Keeps ⟨H1, H2, H3, H4, false, H6, H7, H8, H9, H10, H11, false, H13, H14, H15⟩ s0 s) : Keeps ⟨H1, H2, H3, H4, false, H6, H7, H8, H9, H10, H11, false, H13, H14, H15⟩ s0 (State.contractTake s i p back) := by
  unfold State.contractTake
  extract_lets -merge -underBinder +onlyGivenNames x0 x1 x2 x3 x4
  have hx4 : Keeps ⟨H1, H2, H3, H4, false, H6, H7, H8, H9, H10, H11, false, H13, H14, H15⟩ s0 x4 := State.modLed_keeps _ _ hk
  try clear_value x4
  extract_lets -merge -underBinder +onlyGivenNames x5
  have hx5 : Keeps ⟨H1, H2, H3, H4, false, H6, H7, H8, H9, H10, H11, false, H13, H14, H15⟩ s0 x5 := Keeps.ite (fun _ => State.recSet_keeps _ _ _ _ _ hx4) (fun _ => hx4)
  try clear_value x5
  extract_lets -merge -underBinder +onlyGivenNames x6
  have hx6 : Keeps ⟨H1, H2, H3, H4, false, H6, H7, H8, H9, H10, H11, false, H13, H14, H15⟩ s0 x6 := State.recSet_keeps _ _ _ _ _ hx5
  try clear_value x6
  exact Keeps.ite (fun _ => hx6) (fun _ => Keeps.ite (fun _ => State.modLed_keeps _ _ (State.recLedger_keeps _ _ _ _ hx6)) (fun _ => Keeps.ite (fun _ => State.recLedger_keeps _ _ _ _ hx6) (fun _ => State.ledgerConfirm_keeps _ _ _ _ _ hx6)))

theorem State.telNote_keeps (n : Port) (k : ℕ) (hk : Keeps H s0 s) : Keeps H s0 (State.telNote s n k) := by
  unfold State.telNote
  exact foldl_keeps _ hk (fun _ _ h0 => State.stNote_keeps _ _ _ h0)

theorem State.energyAdd_keeps (i : ℕ) (e : ℕ) (hk : Keeps ⟨H1, H2, H3, H4, false, H6, H7, H8, H9, H10, H11, H12, H13, H14, H15⟩ s0 s) : Keeps ⟨H1, H2, H3, H4, false, H6, H7, H8, H9, H10, H11, H12, H13, H14, H15⟩ s0 (State.energyAdd s i e) := by
  unfold State.energyAdd
  extract_lets -merge -underBinder +onlyGivenNames x0 x1
  exact State.stRecord_keeps _ _ hk

theorem State.floorDone_keeps (hk : Keeps H s0 s) : Keeps H s0 (State.floorDone s) := by
  unfold State.floorDone
  exact Keeps.ite (fun _ => State.put_keeps _ _ _ hk) (fun _ => hk)

theorem State.portLoad_keeps (hk : Keeps H s0 s) : Keeps H s0 (State.portLoad s) := by
  unfold State.portLoad
  extract_lets -merge -underBinder +onlyGivenNames x0 x1 x2 x3 x4 x5
  have hx5 : Keeps H s0 x5 := Keeps.ite (fun _ => State.stNote_keeps _ _ _ hk) (fun _ => hk)
  try clear_value x5
  extract_lets -merge -underBinder +onlyGivenNames x6
  have hx6 : Keeps H s0 x6 := State.raiseIf_keeps _ _ _ hx5
  try clear_value x6
  exact foldl_keeps _ hx6 (fun _ _ h7 => State.wr_keeps _ _ _ h7)

theorem State.poolLoad_keeps (hk : Keeps H s0 s) : Keeps H s0 (State.poolLoad s) := by
  unfold State.poolLoad
  extract_lets -merge -underBinder +onlyGivenNames x0 x1 x2
  have hx2 : Keeps H s0 x2 := State.stNote_keeps _ _ _ hk
  try clear_value x2
  extract_lets -merge -underBinder +onlyGivenNames x3
  have hx3 : Keeps H s0 x3 := State.raiseIf_keeps _ _ _ hx2
  try clear_value x3
  exact foldl_keeps _ hx3 (fun _ _ h4 => State.wr_keeps _ _ _ h4)

theorem State.windowWrite_keeps (off : ℕ) (v : Word) (hk : Keeps ⟨H1, H2, H3, H4, false, H6, H7, H8, H9, H10, H11, false, H13, H14, H15⟩ s0 s) : Keeps ⟨H1, H2, H3, H4, false, H6, H7, H8, H9, H10, H11, false, H13, H14, H15⟩ s0 (State.windowWrite s off v) := by
  unfold State.windowWrite
  extract_lets -merge -underBinder +onlyGivenNames x0 x1
  have hx1 : Keeps ⟨H1, H2, H3, H4, false, H6, H7, H8, H9, H10, H11, false, H13, H14, H15⟩ s0 x1 := State.wr_keeps _ _ _ hk
  try clear_value x1
  extract_lets -merge -underBinder +onlyGivenNames x2 x3 x4
  exact Keeps.ite (fun _ => State.cutCheck_keeps (State.recPut_keeps _ _ _ hx1)) (fun _ => Keeps.ite (fun _ => Keeps.ite (fun _ => hk) (fun _ => State.recPut_keeps _ _ _ (State.wr_keeps _ _ _ hk))) (fun _ => hk))

theorem State.energyPut_keeps (n : Port) (lo : Fld) (v : ℕ) (hk : Keeps H s0 s) : Keeps H s0 (State.energyPut s n lo v) := by
  unfold State.energyPut
  exact State.put_keeps _ _ _ (State.put_keeps _ _ _ hk)

theorem State.energyZero_keeps (hk : Keeps ⟨H1, H2, H3, H4, H5, H6, H7, H8, H9, H10, H11, false, H13, H14, H15⟩ s0 s) : Keeps ⟨H1, H2, H3, H4, H5, H6, H7, H8, H9, H10, H11, false, H13, H14, H15⟩ s0 (State.energyZero s) := by
  unfold State.energyZero
  extract_lets -merge -underBinder +onlyGivenNames x0 x1
  have hx1 : Keeps ⟨H1, H2, H3, H4, H5, H6, H7, H8, H9, H10, H11, false, H13, H14, H15⟩ s0 x1 := State.forPorts_keeps hk (fun _ _ h2 => Keeps.ite (fun _ => State.energyPut_keeps _ _ _ (State.energyPut_keeps _ _ _ h2)) (fun _ => h2))
  try clear_value x1
  exact Keeps.ite (fun _ => hk) (fun _ => State.raise_keeps _ _ (State.modPlace_keeps _ hx1))

theorem State.energyTick_keeps (hk : Keeps H s0 s) : Keeps H s0 (State.energyTick s) := by
  unfold State.energyTick
  refine State.forPorts_keeps ?_ ?_
  · exact hk
  · intro s0_0 s0_1 hs0_1
    extract_lets -merge -underBinder +onlyGivenNames x1
    exact Keeps.ite (fun _ => Keeps.ite (fun _ => State.energyPut_keeps _ _ _ hs0_1) (fun _ => Keeps.ite (fun _ => State.energyPut_keeps _ _ _ hs0_1) (fun _ => hs0_1))) (fun _ => hs0_1)

theorem State.energyPost_keeps (hk : Keeps ⟨H1, H2, H3, H4, false, H6, H7, H8, H9, H10, H11, H12, H13, H14, H15⟩ s0 s) : Keeps ⟨H1, H2, H3, H4, false, H6, H7, H8, H9, H10, H11, H12, H13, H14, H15⟩ s0 (State.energyPost s) := by
  unfold State.energyPost
  extract_lets -merge -underBinder +onlyGivenNames x0 x1
  have hx1 : Keeps ⟨H1, H2, H3, H4, false, H6, H7, H8, H9, H10, H11, H12, H13, H14, H15⟩ s0 x1 := State.raiseIf_keeps _ _ _ hk
  try clear_value x1
  exact Keeps.ite (fun _ => State.postGlobal_keeps _ _ _ _ _ hx1) (fun _ => hk)

theorem State.engyClearCmd_keeps (ports : ℕ) (hk : Keeps ⟨H1, H2, H3, H4, H5, H6, H7, H8, H9, H10, H11, false, H13, H14, H15⟩ s0 s) : Keeps ⟨H1, H2, H3, H4, H5, H6, H7, H8, H9, H10, H11, false, H13, H14, H15⟩ s0 (State.engyClearCmd s ports) := by
  unfold State.engyClearCmd
  exact State.modPlace_keeps _ hk

theorem State.takeMir_keeps (n : Port) (e : List Byte) (hk : Keeps ⟨H1, H2, H3, H4, H5, H6, H7, H8, H9, H10, H11, false, H13, H14, H15⟩ s0 s) : Keeps ⟨H1, H2, H3, H4, H5, H6, H7, H8, H9, H10, H11, false, H13, H14, H15⟩ s0 (State.takeMir s n e) := by
  unfold State.takeMir
  extract_lets -merge -underBinder +onlyGivenNames x0
  have hx0 : Keeps ⟨H1, H2, H3, H4, H5, H6, H7, H8, H9, H10, H11, false, H13, H14, H15⟩ s0 x0 := State.modTw_keeps _ _ hk
  try clear_value x0
  extract_lets -merge -underBinder +onlyGivenNames x1
  have hx1 : Keeps ⟨H1, H2, H3, H4, H5, H6, H7, H8, H9, H10, H11, false, H13, H14, H15⟩ s0 x1 := State.raiseIf_keeps _ _ _ hx0
  try clear_value x1
  extract_lets -merge -underBinder +onlyGivenNames x2 x3 x4
  have hx4 : Keeps ⟨H1, H2, H3, H4, H5, H6, H7, H8, H9, H10, H11, false, H13, H14, H15⟩ s0 x4 := State.put_keeps _ _ _ (State.put_keeps _ _ _ hx1)
  try clear_value x4
  exact State.shadowWatch_keeps _ _ (State.put_keeps _ _ _ hx4)

theorem State.mirShow_keeps (n : Port) (hk : Keeps H s0 s) : Keeps H s0 (State.mirShow s n) := by
  unfold State.mirShow
  extract_lets -merge -underBinder +onlyGivenNames x0
  exact foldl_keeps _ (State.put_keeps _ _ _ hk) (fun _ _ h1 => State.put_keeps _ _ _ h1)

theorem State.mirWrite_keeps (w7 : Word) (hk : Keeps ⟨H1, H2, H3, H4, H5, H6, H7, H8, H9, H10, H11, false, H13, H14, H15⟩ s0 s) : Keeps ⟨H1, H2, H3, H4, H5, H6, H7, H8, H9, H10, H11, false, H13, H14, H15⟩ s0 (State.mirWrite s w7) := by
  unfold State.mirWrite
  extract_lets -merge -underBinder +onlyGivenNames x0
  have hx0 : Keeps ⟨H1, H2, H3, H4, H5, H6, H7, H8, H9, H10, H11, false, H13, H14, H15⟩ s0 x0 := State.put_keeps _ _ _ hk
  try clear_value x0
  exact State.takeMir_keeps _ _ hx0

theorem State.twinEntryTake_keeps (e : List Byte) (hk : Keeps ⟨H1, H2, H3, H4, H5, H6, H7, H8, H9, H10, H11, false, H13, H14, H15⟩ s0 s) : Keeps ⟨H1, H2, H3, H4, H5, H6, H7, H8, H9, H10, H11, false, H13, H14, H15⟩ s0 (State.twinEntryTake s e) := by
  unfold State.twinEntryTake
  split
  · exact hk
  · extract_lets -merge -underBinder +onlyGivenNames x0
    have hx0 : Keeps ⟨H1, H2, H3, H4, H5, H6, H7, H8, H9, H10, H11, false, H13, H14, H15⟩ s0 x0 := foldl_keeps _ (State.put_keeps _ _ _ hk) (fun _ _ h1 => State.put_keeps _ _ _ h1)
    try clear_value x0
    exact State.takeMir_keeps _ _ hx0

theorem State.tkoRecord_keeps (n : Port) (cause : ℕ) (stale : Bool) (hk : Keeps H s0 s) : Keeps H s0 (State.tkoRecord s n cause stale) := by
  unfold State.tkoRecord
  extract_lets -merge -underBinder +onlyGivenNames x0
  have hx0 : Keeps H s0 x0 := State.put_keeps _ _ _ (State.put_keeps _ _ _ hk)
  try clear_value x0
  exact State.put_keeps _ _ _ (State.putB_keeps _ _ _ hx0)

theorem State.claimNow_keeps (n : Port) (hk : Keeps ⟨H1, H2, H3, H4, H5, H6, H7, H8, H9, H10, H11, false, H13, H14, H15⟩ s0 s) : Keeps ⟨H1, H2, H3, H4, H5, H6, H7, H8, H9, H10, H11, false, H13, H14, H15⟩ s0 (State.claimNow s n) := by
  unfold State.claimNow
  exact State.modTw_keeps _ _ hk

theorem State.snapFromMir_keeps (n : Port) (hk : Keeps ⟨H1, H2, H3, false, H5, H6, H7, H8, H9, H10, H11, H12, H13, H14, false⟩ s0 s) : Keeps ⟨H1, H2, H3, false, H5, H6, H7, H8, H9, H10, H11, H12, H13, H14, false⟩ s0 (State.snapFromMir s n) := by
  unfold State.snapFromMir
  extract_lets -merge -underBinder +onlyGivenNames x0 x1 x2 x3 x4 x5
  have hx5 : Keeps ⟨H1, H2, H3, false, H5, H6, H7, H8, H9, H10, H11, H12, H13, H14, false⟩ s0 x5 := State.aosWrite_keeps _ _ hk
  try clear_value x5
  extract_lets -merge -underBinder +onlyGivenNames x6
  have hx6 : Keeps ⟨H1, H2, H3, false, H5, H6, H7, H8, H9, H10, H11, H12, H13, H14, false⟩ s0 x6 := State.put_keeps _ _ _ (State.put_keeps _ _ _ hx5)
  try clear_value x6
  extract_lets -merge -underBinder +onlyGivenNames x7
  have hx7 : Keeps ⟨H1, H2, H3, false, H5, H6, H7, H8, H9, H10, H11, H12, H13, H14, false⟩ s0 x7 := State.putB_keeps _ _ _ hx6
  try clear_value x7
  extract_lets -merge -underBinder +onlyGivenNames x8
  exact State.setWin_keeps _ _ _ (State.modPol_keeps _ _ hx7)

theorem State.twinTake_keeps (n : Port) (cause : ℕ) (hk : Keeps ⟨H1, H2, H3, false, false, H6, H7, H8, H9, H10, H11, false, H13, H14, false⟩ s0 s) : Keeps ⟨H1, H2, H3, false, false, H6, H7, H8, H9, H10, H11, false, H13, H14, false⟩ s0 (State.twinTake s n cause) := by
  unfold State.twinTake
  extract_lets -merge -underBinder +onlyGivenNames x0 x1 x2 x3
  have hx3 : Keeps ⟨H1, H2, H3, false, false, H6, H7, H8, H9, H10, H11, false, H13, H14, false⟩ s0 x3 := State.put_keeps _ _ _ (State.modCc_keeps _ _ hk)
  try clear_value x3
  extract_lets -merge -underBinder +onlyGivenNames x4
  have hx4 : Keeps ⟨H1, H2, H3, false, false, H6, H7, H8, H9, H10, H11, false, H13, H14, false⟩ s0 x4 := State.ccEnter_keeps _ _ (State.put_keeps _ _ _ hx3)
  try clear_value x4
  extract_lets -merge -underBinder +onlyGivenNames x5 x6
  have hx6 : Keeps ⟨H1, H2, H3, false, false, H6, H7, H8, H9, H10, H11, false, H13, H14, false⟩ s0 x6 := State.put_keeps _ _ _ (State.wr_keeps _ _ _ hx4)
  try clear_value x6
  extract_lets -merge -underBinder +onlyGivenNames x7
  have hx7 : Keeps ⟨H1, H2, H3, false, false, H6, H7, H8, H9, H10, H11, false, H13, H14, false⟩ s0 x7 := Keeps.ite (fun _ => State.setTarget_keeps _ _ (State.snapFromMir_keeps _ hx6)) (fun _ => hx6)
  try clear_value x7
  extract_lets -merge -underBinder +onlyGivenNames x8
  have hx8 : Keeps ⟨H1, H2, H3, false, false, H6, H7, H8, H9, H10, H11, false, H13, H14, false⟩ s0 x8 := State.put_keeps _ _ _ hx7
  try clear_value x8
  extract_lets -merge -underBinder +onlyGivenNames x9
  have hx9 : Keeps ⟨H1, H2, H3, false, false, H6, H7, H8, H9, H10, H11, false, H13, H14, false⟩ s0 x9 := Keeps.ite (fun _ => hx8) (fun _ => State.joinGuard_keeps _ hx8)
  try clear_value x9
  extract_lets -merge -underBinder +onlyGivenNames x10
  have hx10 : Keeps ⟨H1, H2, H3, false, false, H6, H7, H8, H9, H10, H11, false, H13, H14, false⟩ s0 x10 := State.bump_keeps _ _ _ (State.tkoRecord_keeps _ _ _ hx9)
  try clear_value x10
  extract_lets -merge -underBinder +onlyGivenNames x11
  have hx11 : Keeps ⟨H1, H2, H3, false, false, H6, H7, H8, H9, H10, H11, false, H13, H14, false⟩ s0 x11 := State.claimNow_keeps _ (State.raise_keeps _ _ hx10)
  try clear_value x11
  exact State.postGlobal_keeps _ _ _ _ _ hx11

theorem State.twinAssume_keeps (n : Port) (hk : Keeps ⟨H1, H2, H3, false, false, H6, H7, H8, H9, H10, H11, false, H13, H14, false⟩ s0 s) : Keeps ⟨H1, H2, H3, false, false, H6, H7, H8, H9, H10, H11, false, H13, H14, false⟩ s0 (State.twinAssume s n) := by
  unfold State.twinAssume
  extract_lets -merge -underBinder +onlyGivenNames x0
  have hx0 : Keeps ⟨H1, H2, H3, false, false, H6, H7, H8, H9, H10, H11, false, H13, H14, false⟩ s0 x0 := State.put_keeps _ _ _ (State.modCc_keeps _ _ hk)
  try clear_value x0
  extract_lets -merge -underBinder +onlyGivenNames x1
  have hx1 : Keeps ⟨H1, H2, H3, false, false, H6, H7, H8, H9, H10, H11, false, H13, H14, false⟩ s0 x1 := State.tkoRecord_keeps _ _ _ (State.ccEnter_keeps _ _ hx0)
  try clear_value x1
  exact State.claimNow_keeps _ (State.raise_keeps _ _ hx1)

theorem State.twinOrder_keeps (n : Port) (cause : ℕ) (hk : Keeps ⟨H1, H2, H3, false, false, H6, H7, H8, H9, H10, H11, false, H13, H14, false⟩ s0 s) : Keeps ⟨H1, H2, H3, false, false, H6, H7, H8, H9, H10, H11, false, H13, H14, false⟩ s0 (State.twinOrder s n cause) := by
  unfold State.twinOrder
  exact Keeps.ite (fun _ => hk) (fun _ => Keeps.ite (fun _ => State.twinTake_keeps _ _ hk) (fun _ => State.twinAssume_keeps _ hk))

theorem State.twinCmd_keeps (ports : BitVec 8) (hk : Keeps ⟨H1, H2, H3, false, false, H6, H7, H8, H9, H10, H11, false, H13, H14, false⟩ s0 s) : Keeps ⟨H1, H2, H3, false, false, H6, H7, H8, H9, H10, H11, false, H13, H14, false⟩ s0 (State.twinCmd s ports) := by
  unfold State.twinCmd
  exact State.forPorts_keeps hk (fun _ _ h0 => Keeps.ite (fun _ => State.twinOrder_keeps _ _ h0) (fun _ => h0))

theorem State.yieldTick_keeps (n : Port) (hk : Keeps ⟨H1, H2, H3, H4, H5, H6, H7, H8, H9, H10, H11, false, H13, H14, H15⟩ s0 s) : Keeps ⟨H1, H2, H3, H4, H5, H6, H7, H8, H9, H10, H11, false, H13, H14, H15⟩ s0 (State.yieldTick s n) := by
  unfold State.yieldTick
  exact Keeps.ite (fun _ => State.modTw_keeps _ _ (State.put_keeps _ _ _ hk)) (fun _ => hk)

theorem State.twinTrimStep_keeps (n : Port) (hk : Keeps ⟨H1, H2, H3, H4, H5, H6, H7, H8, H9, H10, H11, H12, H13, H14, false⟩ s0 s) : Keeps ⟨H1, H2, H3, H4, H5, H6, H7, H8, H9, H10, H11, H12, H13, H14, false⟩ s0 (State.twinTrimStep s n) := by
  unfold State.twinTrimStep
  extract_lets -merge -underBinder +onlyGivenNames x0 x1 x2 x3 x4 x5 x6 x7 x8 x9 x10 x11 x12 x13 x14 x15
  have hx15 : Keeps ⟨H1, H2, H3, H4, H5, H6, H7, H8, H9, H10, H11, H12, H13, H14, false⟩ s0 x15 := State.raiseIf_keeps _ _ _ hk
  try clear_value x15
  extract_lets -merge -underBinder +onlyGivenNames x16
  have hx16 : Keeps ⟨H1, H2, H3, H4, H5, H6, H7, H8, H9, H10, H11, H12, H13, H14, false⟩ s0 x16 := State.modPol_keeps _ _ hx15
  try clear_value x16
  exact Keeps.ite (fun _ => hk) (fun _ => State.setTarget_keeps _ _ hx16)

theorem State.twinTick_keeps (hk : Keeps ⟨H1, H2, H3, false, false, H6, H7, H8, H9, H10, H11, false, H13, H14, false⟩ s0 s) : Keeps ⟨H1, H2, H3, false, false, H6, H7, H8, H9, H10, H11, false, H13, H14, false⟩ s0 (State.twinTick s) := by
  unfold State.twinTick
  extract_lets -merge -underBinder +onlyGivenNames x0 x1 x2
  have hx2 : Keeps ⟨H1, H2, H3, false, false, H6, H7, H8, H9, H10, H11, false, H13, H14, false⟩ s0 x2 := State.putB_keeps _ _ _ hk
  try clear_value x2
  extract_lets -merge -underBinder +onlyGivenNames x3
  have hx3 : Keeps ⟨H1, H2, H3, false, false, H6, H7, H8, H9, H10, H11, false, H13, H14, false⟩ s0 x3 := State.raiseIf_keeps _ _ _ (State.raiseIf_keeps _ _ _ hx2)
  try clear_value x3
  extract_lets -merge -underBinder +onlyGivenNames x4
  have hx4 : Keeps ⟨H1, H2, H3, false, false, H6, H7, H8, H9, H10, H11, false, H13, H14, false⟩ s0 x4 := by
    unfold x4
    refine State.forPorts_keeps ?_ ?_
    · exact hx3
    · intro s5_0 s5_1 hs5_1
      extract_lets -merge -underBinder +onlyGivenNames x6
      have hx6 : Keeps ⟨H1, H2, H3, false, false, H6, H7, H8, H9, H10, H11, false, H13, H14, false⟩ s0 x6 := State.yieldTick_keeps _ hs5_1
      try clear_value x6
      extract_lets -merge -underBinder +onlyGivenNames x7
      have hx7 : Keeps ⟨H1, H2, H3, false, false, H6, H7, H8, H9, H10, H11, false, H13, H14, false⟩ s0 x7 := Keeps.ite (fun _ => State.debounced_keeps _ hx6) (fun _ => hx6)
      try clear_value x7
      extract_lets -merge -underBinder +onlyGivenNames x8 x9
      have hx9 : Keeps ⟨H1, H2, H3, false, false, H6, H7, H8, H9, H10, H11, false, H13, H14, false⟩ s0 x9 := State.put_keeps _ _ _ hx7
      try clear_value x9
      extract_lets -merge -underBinder +onlyGivenNames x10
      have hx10 : Keeps ⟨H1, H2, H3, false, false, H6, H7, H8, H9, H10, H11, false, H13, H14, false⟩ s0 x10 := State.put_keeps _ _ _ hx9
      try clear_value x10
      extract_lets -merge -underBinder +onlyGivenNames x11
      have hx11 : Keeps ⟨H1, H2, H3, false, false, H6, H7, H8, H9, H10, H11, false, H13, H14, false⟩ s0 x11 := State.put_keeps _ _ _ hx10
      try clear_value x11
      extract_lets -merge -underBinder +onlyGivenNames x12
      have hx12 : Keeps ⟨H1, H2, H3, false, false, H6, H7, H8, H9, H10, H11, false, H13, H14, false⟩ s0 x12 := Keeps.ite (fun _ => State.modPol_keeps _ _ hx11) (fun _ => hx11)
      try clear_value x12
      extract_lets -merge -underBinder +onlyGivenNames x13
      have hx13 : Keeps ⟨H1, H2, H3, false, false, H6, H7, H8, H9, H10, H11, false, H13, H14, false⟩ s0 x13 := State.setTarget_keeps _ _ (State.cenLevel_keeps _ _ hx12)
      try clear_value x13
      exact Keeps.ite (fun _ => State.twinOrder_keeps _ _ hx11) (fun _ => Keeps.ite (fun _ => State.twinTrimStep_keeps _ hx13) (fun _ => State.twinTrimStep_keeps _ (Keeps.ite (fun _ => State.cenLevel_keeps _ _ hx11) (fun _ => hx11))))
  try clear_value x4
  extract_lets -merge -underBinder +onlyGivenNames x14 x15
  have hx15 : Keeps ⟨H1, H2, H3, false, false, H6, H7, H8, H9, H10, H11, false, H13, H14, false⟩ s0 x15 := State.raiseIf_keeps _ _ _ hx4
  try clear_value x15
  extract_lets -merge -underBinder +onlyGivenNames x16
  have hx16 : Keeps ⟨H1, H2, H3, false, false, H6, H7, H8, H9, H10, H11, false, H13, H14, false⟩ s0 x16 := State.putB_keeps _ _ _ hx15
  try clear_value x16
  exact Keeps.ite (fun _ => State.postGlobal_keeps _ _ _ _ _ hx16) (fun _ => hx16)

end Sys2Proof.Machine
end

