-- ==== Sys2Proof/Laws/KeepsSystem.lean ====
section
/-!
SUPPORT. `Keeps` over the operations of gauge, update, resets, register access, Skink, host bus, supply, modes, boot, tick: one lemma per operation.
-/

set_option Elab.async false

namespace Sys2Proof.Machine

variable {H : Hold} {H1 H2 H3 H4 H5 H6 H7 H8 H9 H10 H11 H12 H13 H14 H15 : Bool} {s0 s : State}

theorem State.modGauge_keeps (f : GaugeSt → GaugeSt) (hk : Keeps ⟨H1, H2, H3, H4, H5, H6, H7, H8, H9, H10, false, H12, H13, H14, H15⟩ s0 s) : Keeps ⟨H1, H2, H3, H4, H5, H6, H7, H8, H9, H10, false, H12, H13, H14, H15⟩ s0 (State.modGauge s f) := by
  unfold State.modGauge
  exact Keeps.mk' hk

theorem State.setAcc_keeps (v : ℤ) (hk : Keeps H s0 s) : Keeps H s0 (State.setAcc s v) := by
  unfold State.setAcc
  extract_lets -merge -underBinder +onlyGivenNames x0
  exact State.put_keeps _ _ _ (State.put_keeps _ _ _ hk)

theorem State.setRm_keeps (rm : ℕ) (hk : Keeps H s0 s) : Keeps H s0 (State.setRm s rm) := by
  unfold State.setRm
  extract_lets -merge -underBinder +onlyGivenNames x0 x1
  have hx1 : Keeps H s0 x1 := State.put_keeps _ _ _ hk
  try clear_value x1
  exact State.put_keeps _ _ _ hx1

theorem State.fullCheck_keeps (hk : Keeps H s0 s) : Keeps H s0 (State.fullCheck s) := by
  unfold State.fullCheck
  exact Keeps.ite (fun _ => State.put_keeps _ _ _ hk) (fun _ => hk)

theorem State.setValid_keeps (hk : Keeps H s0 s) : Keeps H s0 (State.setValid s) := by
  unfold State.setValid
  exact State.put_keeps _ _ _ (State.raiseIf_keeps _ _ _ hk)

theorem State.disqualify_keeps (reason : ℕ) (hk : Keeps ⟨H1, H2, H3, H4, H5, H6, H7, H8, H9, H10, false, H12, H13, H14, H15⟩ s0 s) : Keeps ⟨H1, H2, H3, H4, H5, H6, H7, H8, H9, H10, false, H12, H13, H14, H15⟩ s0 (State.disqualify s reason) := by
  unfold State.disqualify
  extract_lets -merge -underBinder +onlyGivenNames x0
  have hx0 : Keeps ⟨H1, H2, H3, H4, H5, H6, H7, H8, H9, H10, false, H12, H13, H14, H15⟩ s0 x0 := State.modGauge_keeps _ hk
  try clear_value x0
  extract_lets -merge -underBinder +onlyGivenNames x1
  have hx1 : Keeps ⟨H1, H2, H3, H4, H5, H6, H7, H8, H9, H10, false, H12, H13, H14, H15⟩ s0 x1 := State.bump_keeps _ _ _ (State.put_keeps _ _ _ (State.put_keeps _ _ _ hx0))
  try clear_value x1
  exact Keeps.ite (fun _ => State.raise_keeps _ _ hx1) (fun _ => hx0)

theorem State.learnStart_keeps (soc : ℕ) (hk : Keeps ⟨H1, H2, H3, H4, H5, H6, H7, H8, H9, H10, false, H12, H13, H14, H15⟩ s0 s) : Keeps ⟨H1, H2, H3, H4, H5, H6, H7, H8, H9, H10, false, H12, H13, H14, H15⟩ s0 (State.learnStart s soc) := by
  unfold State.learnStart
  extract_lets -merge -underBinder +onlyGivenNames x0
  have hx0 : Keeps ⟨H1, H2, H3, H4, H5, H6, H7, H8, H9, H10, false, H12, H13, H14, H15⟩ s0 x0 := State.put_keeps _ _ _ (State.put_keeps _ _ _ (State.put_keeps _ _ _ hk))
  try clear_value x0
  extract_lets -merge -underBinder +onlyGivenNames x1
  have hx1 : Keeps ⟨H1, H2, H3, H4, H5, H6, H7, H8, H9, H10, false, H12, H13, H14, H15⟩ s0 x1 := State.put_keeps _ _ _ (State.put_keeps _ _ _ hx0)
  try clear_value x1
  extract_lets -merge -underBinder +onlyGivenNames x2
  have hx2 : Keeps ⟨H1, H2, H3, H4, H5, H6, H7, H8, H9, H10, false, H12, H13, H14, H15⟩ s0 x2 := State.modGauge_keeps _ hx1
  try clear_value x2
  extract_lets -merge -underBinder +onlyGivenNames x3
  have hx3 : Keeps ⟨H1, H2, H3, H4, H5, H6, H7, H8, H9, H10, false, H12, H13, H14, H15⟩ s0 x3 := State.raise_keeps _ _ hx2
  try clear_value x3
  exact Keeps.ite (fun _ => Keeps.ite (fun _ => hx3) (fun _ => State.disqualify_keeps _ hx3)) (fun _ => hk)

theorem State.netCount_keeps (q : ℤ) (hk : Keeps ⟨H1, H2, H3, H4, H5, H6, H7, H8, H9, H10, false, H12, H13, H14, H15⟩ s0 s) : Keeps ⟨H1, H2, H3, H4, H5, H6, H7, H8, H9, H10, false, H12, H13, H14, H15⟩ s0 (State.netCount s q) := by
  unfold State.netCount
  extract_lets -merge -underBinder +onlyGivenNames x0
  exact State.modGauge_keeps _ (State.put_keeps _ _ _ hk)

theorem State.learnTake_keeps (new : ℕ × Bool) (rm : ℕ) (hk : Keeps ⟨H1, H2, H3, H4, H5, H6, H7, H8, H9, H10, false, H12, H13, H14, H15⟩ s0 s) : Keeps ⟨H1, H2, H3, H4, H5, H6, H7, H8, H9, H10, false, H12, H13, H14, H15⟩ s0 (State.learnTake s new rm) := by
  unfold State.learnTake
  extract_lets -merge -underBinder +onlyGivenNames x0
  have hx0 : Keeps ⟨H1, H2, H3, H4, H5, H6, H7, H8, H9, H10, false, H12, H13, H14, H15⟩ s0 x0 := State.put_keeps _ _ _ (State.putB_keeps _ _ _ hk)
  try clear_value x0
  extract_lets -merge -underBinder +onlyGivenNames x1
  have hx1 : Keeps ⟨H1, H2, H3, H4, H5, H6, H7, H8, H9, H10, false, H12, H13, H14, H15⟩ s0 x1 := State.put_keeps _ _ _ (State.put_keeps _ _ _ hx0)
  try clear_value x1
  extract_lets -merge -underBinder +onlyGivenNames x2
  have hx2 : Keeps ⟨H1, H2, H3, H4, H5, H6, H7, H8, H9, H10, false, H12, H13, H14, H15⟩ s0 x2 := State.put_keeps _ _ _ (State.setRm_keeps _ hx1)
  try clear_value x2
  extract_lets -merge -underBinder +onlyGivenNames x3
  have hx3 : Keeps ⟨H1, H2, H3, H4, H5, H6, H7, H8, H9, H10, false, H12, H13, H14, H15⟩ s0 x3 := State.put_keeps _ _ _ (State.bump_keeps _ _ _ hx2)
  try clear_value x3
  extract_lets -merge -underBinder +onlyGivenNames x4
  have hx4 : Keeps ⟨H1, H2, H3, H4, H5, H6, H7, H8, H9, H10, false, H12, H13, H14, H15⟩ s0 x4 := State.raise_keeps _ _ (State.put_keeps _ _ _ hx3)
  try clear_value x4
  extract_lets -merge -underBinder +onlyGivenNames x5
  have hx5 : Keeps ⟨H1, H2, H3, H4, H5, H6, H7, H8, H9, H10, false, H12, H13, H14, H15⟩ s0 x5 := State.modGauge_keeps _ hx4
  try clear_value x5
  exact State.put_keeps _ _ _ (State.put_keeps _ _ _ hx5)

theorem State.gaugeSave_keeps (hk : Keeps ⟨H1, H2, H3, false, H5, H6, H7, H8, H9, H10, H11, H12, H13, H14, H15⟩ s0 s) : Keeps ⟨H1, H2, H3, false, H5, H6, H7, H8, H9, H10, H11, H12, H13, H14, H15⟩ s0 (State.gaugeSave s) := by
  unfold State.gaugeSave
  extract_lets -merge -underBinder +onlyGivenNames x0
  exact State.aosWrite_keeps _ _ hk

theorem State.clearSwap_keeps (hk : Keeps H s0 s) : Keeps H s0 (State.clearSwap s) := by
  unfold State.clearSwap
  exact State.put_keeps _ _ _ hk

theorem State.profLoad_keeps (p : Option Profile) (hk : Keeps ⟨H1, H2, H3, H4, H5, H6, H7, H8, H9, H10, false, H12, H13, H14, H15⟩ s0 s) : Keeps ⟨H1, H2, H3, H4, H5, H6, H7, H8, H9, H10, false, H12, H13, H14, H15⟩ s0 (State.profLoad s p) := by
  unfold State.profLoad
  extract_lets -merge -underBinder +onlyGivenNames x0
  have hx0 : Keeps ⟨H1, H2, H3, H4, H5, H6, H7, H8, H9, H10, false, H12, H13, H14, H15⟩ s0 x0 := State.modGauge_keeps _ hk
  try clear_value x0
  split
  · exact hx0
  · extract_lets -merge -underBinder +onlyGivenNames x1
    have hx1 : Keeps ⟨H1, H2, H3, H4, H5, H6, H7, H8, H9, H10, false, H12, H13, H14, H15⟩ s0 x1 := State.put_keeps _ _ _ (State.put_keeps _ _ _ hx0)
    try clear_value x1
    extract_lets -merge -underBinder +onlyGivenNames x2
    have hx2 : Keeps ⟨H1, H2, H3, H4, H5, H6, H7, H8, H9, H10, false, H12, H13, H14, H15⟩ s0 x2 := State.put_keeps _ _ _ (State.put_keeps _ _ _ hx1)
    try clear_value x2
    extract_lets -merge -underBinder +onlyGivenNames x3
    have hx3 : Keeps ⟨H1, H2, H3, H4, H5, H6, H7, H8, H9, H10, false, H12, H13, H14, H15⟩ s0 x3 := State.put_keeps _ _ _ (State.put_keeps _ _ _ hx2)
    try clear_value x3
    extract_lets -merge -underBinder +onlyGivenNames x4
    have hx4 : Keeps ⟨H1, H2, H3, H4, H5, H6, H7, H8, H9, H10, false, H12, H13, H14, H15⟩ s0 x4 := State.put_keeps _ _ _ (State.put_keeps _ _ _ hx3)
    try clear_value x4
    exact State.put_keeps _ _ _ (State.put_keeps _ _ _ hx4)

theorem State.packLoad_keeps (hk : Keeps ⟨H1, H2, H3, H4, H5, H6, H7, H8, H9, H10, false, H12, H13, H14, H15⟩ s0 s) : Keeps ⟨H1, H2, H3, H4, H5, H6, H7, H8, H9, H10, false, H12, H13, H14, H15⟩ s0 (State.packLoad s) := by
  unfold State.packLoad
  extract_lets -merge -underBinder +onlyGivenNames x0 x1
  have hx1 : Keeps ⟨H1, H2, H3, H4, H5, H6, H7, H8, H9, H10, false, H12, H13, H14, H15⟩ s0 x1 := State.profLoad_keeps _ hk
  try clear_value x1
  extract_lets -merge -underBinder +onlyGivenNames x2
  have hx2 : Keeps ⟨H1, H2, H3, H4, H5, H6, H7, H8, H9, H10, false, H12, H13, H14, H15⟩ s0 x2 := by
    unfold x2
    split
    · exact State.put_keeps _ _ _ (State.put_keeps _ _ _ hx1)
    · exact State.put_keeps _ _ _ hx1
  try clear_value x2
  extract_lets -merge -underBinder +onlyGivenNames x3
  have hx3 : Keeps ⟨H1, H2, H3, H4, H5, H6, H7, H8, H9, H10, false, H12, H13, H14, H15⟩ s0 x3 := State.put_keeps _ _ _ (State.put_keeps _ _ _ hx2)
  try clear_value x3
  extract_lets -merge -underBinder +onlyGivenNames x4
  have hx4 : Keeps ⟨H1, H2, H3, H4, H5, H6, H7, H8, H9, H10, false, H12, H13, H14, H15⟩ s0 x4 := State.put_keeps _ _ _ (State.put_keeps _ _ _ hx3)
  try clear_value x4
  extract_lets -merge -underBinder +onlyGivenNames x5
  have hx5 : Keeps ⟨H1, H2, H3, H4, H5, H6, H7, H8, H9, H10, false, H12, H13, H14, H15⟩ s0 x5 := State.put_keeps _ _ _ (State.setRm_keeps _ hx4)
  try clear_value x5
  extract_lets -merge -underBinder +onlyGivenNames x6
  have hx6 : Keeps ⟨H1, H2, H3, H4, H5, H6, H7, H8, H9, H10, false, H12, H13, H14, H15⟩ s0 x6 := State.modGauge_keeps _ hx5
  try clear_value x6
  exact State.clearSwap_keeps (State.put_keeps _ _ _ hx6)

theorem State.winLoad_keeps (hk : Keeps H s0 s) : Keeps H s0 (State.winLoad s) := by
  unfold State.winLoad
  refine foldl_keeps _ ?_ ?_
  · exact hk
  · intro s0_0 s0_1 hs0_1
    split
    · exact State.put_keeps _ _ _ (State.put_keeps _ _ _ hs0_1)
    · exact State.wr_keeps _ _ _ hs0_1

theorem State.gaugeCold_keeps (hk : Keeps ⟨H1, H2, H3, H4, H5, H6, H7, H8, H9, H10, false, H12, H13, H14, H15⟩ s0 s) : Keeps ⟨H1, H2, H3, H4, H5, H6, H7, H8, H9, H10, false, H12, H13, H14, H15⟩ s0 (State.gaugeCold s) := by
  unfold State.gaugeCold
  extract_lets -merge -underBinder +onlyGivenNames x0 x1 x2 x3
  have hx3 : Keeps ⟨H1, H2, H3, H4, H5, H6, H7, H8, H9, H10, false, H12, H13, H14, H15⟩ s0 x3 := Keeps.mk' hk
  try clear_value x3
  extract_lets -merge -underBinder +onlyGivenNames x4
  have hx4 : Keeps ⟨H1, H2, H3, H4, H5, H6, H7, H8, H9, H10, false, H12, H13, H14, H15⟩ s0 x4 := State.bump_keeps _ _ _ (State.put_keeps _ _ _ (State.put_keeps _ _ _ hx3))
  try clear_value x4
  extract_lets -merge -underBinder +onlyGivenNames x5
  have hx5 : Keeps ⟨H1, H2, H3, H4, H5, H6, H7, H8, H9, H10, false, H12, H13, H14, H15⟩ s0 x5 := Keeps.ite (fun _ => State.raise_keeps _ _ hx4) (fun _ => hx3)
  try clear_value x5
  extract_lets -merge -underBinder +onlyGivenNames x6
  have hx6 : Keeps ⟨H1, H2, H3, H4, H5, H6, H7, H8, H9, H10, false, H12, H13, H14, H15⟩ s0 x6 := State.winLoad_keeps hx5
  try clear_value x6
  exact Keeps.ite (fun _ => State.packLoad_keeps hx6) (fun _ => hx6)

theorem State.gaugeRestore_keeps (hk : Keeps ⟨H1, H2, H3, H4, H5, H6, H7, H8, H9, H10, false, H12, H13, H14, H15⟩ s0 s) : Keeps ⟨H1, H2, H3, H4, H5, H6, H7, H8, H9, H10, false, H12, H13, H14, H15⟩ s0 (State.gaugeRestore s) := by
  unfold State.gaugeRestore
  extract_lets -merge -underBinder +onlyGivenNames x0 x1
  have hx1 : ∀ a0 a1 a2 a3, Keeps ⟨H1, H2, H3, H4, H5, H6, H7, H8, H9, H10, false, H12, H13, H14, H15⟩ s0 a0 → Keeps ⟨H1, H2, H3, H4, H5, H6, H7, H8, H9, H10, false, H12, H13, H14, H15⟩ s0 (x1 a0 a1 a2 a3) := by
    intro s2_0 s2_1 s2_2 s2_3 hs2_1
    unfold x1
    beta_reduce
    exact State.wr_keeps _ _ _ hs2_1
  try clear_value x1
  extract_lets -merge -underBinder +onlyGivenNames x3
  have hx3 : Keeps ⟨H1, H2, H3, H4, H5, H6, H7, H8, H9, H10, false, H12, H13, H14, H15⟩ s0 x3 := by
    unfold x3
    refine hx1 _ _ _ _ ?_
    refine hx1 _ _ _ _ ?_
    refine hx1 _ _ _ _ ?_
    refine hx1 _ _ _ _ ?_
    exact hk
  try clear_value x3
  extract_lets -merge -underBinder +onlyGivenNames x4
  have hx4 : Keeps ⟨H1, H2, H3, H4, H5, H6, H7, H8, H9, H10, false, H12, H13, H14, H15⟩ s0 x4 := by
    unfold x4
    refine State.put_keeps _ _ _ ?_
    refine hx1 _ _ _ _ ?_
    refine hx1 _ _ _ _ ?_
    refine hx1 _ _ _ _ ?_
    exact hx3
  try clear_value x4
  extract_lets -merge -underBinder +onlyGivenNames x5
  have hx5 : Keeps ⟨H1, H2, H3, H4, H5, H6, H7, H8, H9, H10, false, H12, H13, H14, H15⟩ s0 x5 := by
    unfold x5
    refine hx1 _ _ _ _ ?_
    refine hx1 _ _ _ _ ?_
    refine hx1 _ _ _ _ ?_
    exact hx4
  try clear_value x5
  extract_lets -merge -underBinder +onlyGivenNames x6 x7
  have hx7 : Keeps ⟨H1, H2, H3, H4, H5, H6, H7, H8, H9, H10, false, H12, H13, H14, H15⟩ s0 x7 := State.put_keeps _ _ _ hx5
  try clear_value x7
  extract_lets -merge -underBinder +onlyGivenNames x8 x9 x10 x11
  have hx11 : Keeps ⟨H1, H2, H3, H4, H5, H6, H7, H8, H9, H10, false, H12, H13, H14, H15⟩ s0 x11 := Keeps.mk' hx7
  try clear_value x11
  exact Keeps.ite (fun _ => State.raise_keeps _ _ (State.winLoad_keeps (State.profLoad_keeps _ hx11))) (fun _ => State.gaugeCold_keeps hk)

theorem State.tsBid_keeps (temp : ℤ) (bid : ℕ) (hk : Keeps ⟨H1, H2, H3, H4, H5, H6, H7, H8, H9, H10, false, H12, H13, H14, H15⟩ s0 s) : Keeps ⟨H1, H2, H3, H4, H5, H6, H7, H8, H9, H10, false, H12, H13, H14, H15⟩ s0 (State.tsBid s temp bid) := by
  unfold State.tsBid
  extract_lets -merge -underBinder +onlyGivenNames x0 x1 x2 x3 x4
  have hx4 : Keeps ⟨H1, H2, H3, H4, H5, H6, H7, H8, H9, H10, false, H12, H13, H14, H15⟩ s0 x4 := State.putB_keeps _ _ _ (State.putB_keeps _ _ _ hk)
  try clear_value x4
  extract_lets -merge -underBinder +onlyGivenNames x5
  have hx5 : Keeps ⟨H1, H2, H3, H4, H5, H6, H7, H8, H9, H10, false, H12, H13, H14, H15⟩ s0 x5 := State.put_keeps _ _ _ hx4
  try clear_value x5
  extract_lets -merge -underBinder +onlyGivenNames x6
  have hx6 : Keeps ⟨H1, H2, H3, H4, H5, H6, H7, H8, H9, H10, false, H12, H13, H14, H15⟩ s0 x6 := State.raise_keeps _ _ hx5
  try clear_value x6
  extract_lets -merge -underBinder +onlyGivenNames x7
  have hx7 : Keeps ⟨H1, H2, H3, H4, H5, H6, H7, H8, H9, H10, false, H12, H13, H14, H15⟩ s0 x7 := State.modGauge_keeps _ hx6
  try clear_value x7
  extract_lets -merge -underBinder +onlyGivenNames x8
  have hx8 : Keeps ⟨H1, H2, H3, H4, H5, H6, H7, H8, H9, H10, false, H12, H13, H14, H15⟩ s0 x8 := Keeps.ite (fun _ => Keeps.ite (fun _ => State.disqualify_keeps _ hx7) (fun _ => hx7)) (fun _ => hx5)
  try clear_value x8
  extract_lets -merge -underBinder +onlyGivenNames x9
  have hx9 : Keeps ⟨H1, H2, H3, H4, H5, H6, H7, H8, H9, H10, false, H12, H13, H14, H15⟩ s0 x9 := State.put_keeps _ _ _ hx8
  try clear_value x9
  extract_lets -merge -underBinder +onlyGivenNames x10
  exact State.modGauge_keeps _ hx9

theorem State.chargeStep_keeps (hk : Keeps ⟨H1, H2, H3, H4, H5, H6, H7, H8, H9, H10, false, H12, H13, H14, H15⟩ s0 s) : Keeps ⟨H1, H2, H3, H4, H5, H6, H7, H8, H9, H10, false, H12, H13, H14, H15⟩ s0 (State.chargeStep s).1 := by
  unfold State.chargeStep
  extract_lets -merge -underBinder +onlyGivenNames x0 x1 x2
  refine Keeps.mkFst ?_
  exact State.modGauge_keeps _ hk

theorem State.chargeTake_keeps (q : ℤ) (hk : Keeps ⟨H1, H2, H3, H4, H5, H6, H7, H8, H9, H10, false, H12, H13, H14, H15⟩ s0 s) : Keeps ⟨H1, H2, H3, H4, H5, H6, H7, H8, H9, H10, false, H12, H13, H14, H15⟩ s0 (State.chargeTake s q) := by
  unfold State.chargeTake
  extract_lets -merge -underBinder +onlyGivenNames x0
  have hx0 : Keeps ⟨H1, H2, H3, H4, H5, H6, H7, H8, H9, H10, false, H12, H13, H14, H15⟩ s0 x0 := Keeps.ite (fun _ => State.netCount_keeps _ hk) (fun _ => hk)
  try clear_value x0
  extract_lets -merge -underBinder +onlyGivenNames x1
  have hx1 : Keeps ⟨H1, H2, H3, H4, H5, H6, H7, H8, H9, H10, false, H12, H13, H14, H15⟩ s0 x1 := Keeps.ite (fun _ => State.put_keeps _ _ _ hx0) (fun _ => hk)
  try clear_value x1
  extract_lets -merge -underBinder +onlyGivenNames x2 x3
  have hx3 : Keeps ⟨H1, H2, H3, H4, H5, H6, H7, H8, H9, H10, false, H12, H13, H14, H15⟩ s0 x3 := Keeps.ite (fun _ => hx1) (fun _ => State.put_keeps _ _ _ hx1)
  try clear_value x3
  extract_lets -merge -underBinder +onlyGivenNames x4 x5 x6
  have hx6 : Keeps ⟨H1, H2, H3, H4, H5, H6, H7, H8, H9, H10, false, H12, H13, H14, H15⟩ s0 x6 := State.put_keeps _ _ _ (State.put_keeps _ _ _ hx3)
  try clear_value x6
  extract_lets -merge -underBinder +onlyGivenNames x7
  have hx7 : Keeps ⟨H1, H2, H3, H4, H5, H6, H7, H8, H9, H10, false, H12, H13, H14, H15⟩ s0 x7 := Keeps.ite (fun _ => State.put_keeps _ _ _ hx3) (fun _ => hx3)
  try clear_value x7
  exact Keeps.ite (fun _ => State.setRm_keeps _ hx6) (fun _ => State.setRm_keeps _ hx7)

theorem State.edvCorrect_keeps (l : ℕ) (hk : Keeps H s0 s) : Keeps H s0 (State.edvCorrect s l) := by
  unfold State.edvCorrect
  exact Keeps.ite (fun _ => State.setRm_keeps _ hk) (fun _ => hk)

theorem State.edv2Confirm_keeps (hk : Keeps ⟨H1, H2, H3, H4, H5, H6, H7, H8, H9, H10, false, H12, H13, H14, H15⟩ s0 s) : Keeps ⟨H1, H2, H3, H4, H5, H6, H7, H8, H9, H10, false, H12, H13, H14, H15⟩ s0 (State.edv2Confirm s) := by
  unfold State.edv2Confirm
  refine Keeps.ite (fun _ => ?_) (fun _ => ?_)
  · exact State.edvCorrect_keeps _ hk
  · split
    · exact State.edvCorrect_keeps _ (State.disqualify_keeps _ hk)
    · extract_lets -merge -underBinder +onlyGivenNames x0
      extract_lets -merge -underBinder +onlyGivenNames x1 x2
      exact Keeps.ite (fun _ => State.learnTake_keeps _ _ hk) (fun _ => State.edvCorrect_keeps _ (State.disqualify_keeps _ hk))

theorem State.edv0Confirm_keeps (hk : Keeps ⟨H1, H2, H3, H4, H5, H6, H7, H8, H9, H10, false, H12, H13, H14, H15⟩ s0 s) : Keeps ⟨H1, H2, H3, H4, H5, H6, H7, H8, H9, H10, false, H12, H13, H14, H15⟩ s0 (State.edv0Confirm s) := by
  unfold State.edv0Confirm
  extract_lets -merge -underBinder +onlyGivenNames x0 x1 x2 x3 x4
  have hx4 : Keeps ⟨H1, H2, H3, H4, H5, H6, H7, H8, H9, H10, false, H12, H13, H14, H15⟩ s0 x4 := State.put_keeps _ _ _ (State.setRm_keeps _ hk)
  try clear_value x4
  extract_lets -merge -underBinder +onlyGivenNames x5
  have hx5 : Keeps ⟨H1, H2, H3, H4, H5, H6, H7, H8, H9, H10, false, H12, H13, H14, H15⟩ s0 x5 := Keeps.ite (fun _ => State.learnTake_keeps _ _ hx4) (fun _ => State.put_keeps _ _ _ (State.put_keeps _ _ _ (State.put_keeps _ _ _ hx4)))
  try clear_value x5
  exact Keeps.ite (fun _ => State.raise_keeps _ _ hx5) (fun _ => State.edvCorrect_keeps _ hk)

theorem State.edvRun_keeps (vcomp : ℤ) (k : Fin 3) (hk : Keeps ⟨H1, H2, H3, H4, H5, H6, H7, H8, H9, H10, false, H12, H13, H14, H15⟩ s0 s) : Keeps ⟨H1, H2, H3, H4, H5, H6, H7, H8, H9, H10, false, H12, H13, H14, H15⟩ s0 (State.edvRun s vcomp k) := by
  unfold State.edvRun
  split
  · extract_lets -merge -underBinder +onlyGivenNames x0
    extract_lets -merge -underBinder +onlyGivenNames x1
    have hx1 : Keeps ⟨H1, H2, H3, H4, H5, H6, H7, H8, H9, H10, false, H12, H13, H14, H15⟩ s0 x1 := Keeps.ite (fun _ => State.modGauge_keeps _ hk) (fun _ => hk)
    try clear_value x1
    extract_lets -merge -underBinder +onlyGivenNames x2 x3 x4
    have hx4 : Keeps ⟨H1, H2, H3, H4, H5, H6, H7, H8, H9, H10, false, H12, H13, H14, H15⟩ s0 x4 := State.modGauge_keeps _ hx1
    try clear_value x4
    extract_lets -merge -underBinder +onlyGivenNames x5
    have hx5 : Keeps ⟨H1, H2, H3, H4, H5, H6, H7, H8, H9, H10, false, H12, H13, H14, H15⟩ s0 x5 := State.modGauge_keeps _ hx4
    try clear_value x5
    extract_lets -merge -underBinder +onlyGivenNames x6
    have hx6 : Keeps ⟨H1, H2, H3, H4, H5, H6, H7, H8, H9, H10, false, H12, H13, H14, H15⟩ s0 x6 := State.raiseBits_keeps _ _ hx5
    try clear_value x6
    refine Keeps.ite (fun _ => ?_) (fun _ => ?_)
    · exact hx4
    · split
      · exact State.edv2Confirm_keeps hx6
      · exact State.edvCorrect_keeps _ hx6
      · exact State.edv0Confirm_keeps hx6

theorem State.endOfCharge_keeps (hk : Keeps ⟨H1, H2, H3, H4, H5, H6, H7, H8, H9, H10, false, H12, H13, H14, H15⟩ s0 s) : Keeps ⟨H1, H2, H3, H4, H5, H6, H7, H8, H9, H10, false, H12, H13, H14, H15⟩ s0 (State.endOfCharge s) := by
  unfold State.endOfCharge
  extract_lets -merge -underBinder +onlyGivenNames x0
  have hx0 : Keeps ⟨H1, H2, H3, H4, H5, H6, H7, H8, H9, H10, false, H12, H13, H14, H15⟩ s0 x0 := State.raise_keeps _ _ (State.put_keeps _ _ _ hk)
  try clear_value x0
  extract_lets -merge -underBinder +onlyGivenNames x1
  have hx1 : Keeps ⟨H1, H2, H3, H4, H5, H6, H7, H8, H9, H10, false, H12, H13, H14, H15⟩ s0 x1 := Keeps.ite (fun _ => hx0) (fun _ => State.setValid_keeps hx0)
  try clear_value x1
  extract_lets -merge -underBinder +onlyGivenNames x2
  have hx2 : Keeps ⟨H1, H2, H3, H4, H5, H6, H7, H8, H9, H10, false, H12, H13, H14, H15⟩ s0 x2 := State.modGauge_keeps _ hx1
  try clear_value x2
  exact State.learnStart_keeps _ (State.setRm_keeps _ hx2)

theorem State.eocRun_keeps (vcomp : ℤ) (hk : Keeps ⟨H1, H2, H3, H4, H5, H6, H7, H8, H9, H10, false, H12, H13, H14, H15⟩ s0 s) : Keeps ⟨H1, H2, H3, H4, H5, H6, H7, H8, H9, H10, false, H12, H13, H14, H15⟩ s0 (State.eocRun s vcomp).1 := by
  unfold State.eocRun
  extract_lets -merge -underBinder +onlyGivenNames x0 x1 x2 x3 x4 x5 x6 x7 x8
  have hx8 : Keeps ⟨H1, H2, H3, H4, H5, H6, H7, H8, H9, H10, false, H12, H13, H14, H15⟩ s0 x8 := Keeps.ite (fun _ => State.modGauge_keeps _ hk) (fun _ => hk)
  try clear_value x8
  refine Keeps.iteFst (fun _ => ?_) (fun _ => ?_)
  · refine Keeps.mkFst ?_
    exact hk
  · refine Keeps.iteFst (fun _ => ?_) (fun _ => ?_)
    · refine Keeps.iteFst (fun _ => ?_) (fun _ => ?_)
      · refine Keeps.mkFst ?_
        exact State.endOfCharge_keeps hx8
      · refine Keeps.mkFst ?_
        exact hx8
    · refine Keeps.iteFst (fun _ => ?_) (fun _ => ?_)
      · refine Keeps.mkFst ?_
        exact State.modGauge_keeps _ (State.endOfCharge_keeps hk)
      · refine Keeps.mkFst ?_
        exact State.modGauge_keeps _ hk

theorem State.ocvRun_keeps (eoc : Bool) (hk : Keeps ⟨H1, H2, H3, H4, H5, H6, H7, H8, H9, H10, false, H12, H13, H14, H15⟩ s0 s) : Keeps ⟨H1, H2, H3, H4, H5, H6, H7, H8, H9, H10, false, H12, H13, H14, H15⟩ s0 (State.ocvRun s eoc) := by
  unfold State.ocvRun
  extract_lets -merge -underBinder +onlyGivenNames x0
  have hx0 : Keeps ⟨H1, H2, H3, H4, H5, H6, H7, H8, H9, H10, false, H12, H13, H14, H15⟩ s0 x0 := Keeps.ite (fun _ => State.modGauge_keeps _ hk) (fun _ => hk)
  try clear_value x0
  extract_lets -merge -underBinder +onlyGivenNames x1 x2
  refine Keeps.ite (fun _ => ?_) (fun _ => ?_)
  · exact State.modGauge_keeps _ hk
  · split
    · exact hx0
    · extract_lets -merge -underBinder +onlyGivenNames x3
      extract_lets -merge -underBinder +onlyGivenNames x4 x5 x6 x7 x8
      have hx8 : Keeps ⟨H1, H2, H3, H4, H5, H6, H7, H8, H9, H10, false, H12, H13, H14, H15⟩ s0 x8 := Keeps.ite (fun _ => State.setRm_keeps _ hx0) (fun _ => hx0)
      try clear_value x8
      extract_lets -merge -underBinder +onlyGivenNames x9
      have hx9 : Keeps ⟨H1, H2, H3, H4, H5, H6, H7, H8, H9, H10, false, H12, H13, H14, H15⟩ s0 x9 := Keeps.ite (fun _ => State.setValid_keeps (State.put_keeps _ _ _ hx8)) (fun _ => hx8)
      try clear_value x9
      extract_lets -merge -underBinder +onlyGivenNames x10
      have hx10 : Keeps ⟨H1, H2, H3, H4, H5, H6, H7, H8, H9, H10, false, H12, H13, H14, H15⟩ s0 x10 := State.modGauge_keeps _ hx9
      try clear_value x10
      exact Keeps.ite (fun _ => hx0) (fun _ => Keeps.ite (fun _ => State.learnStart_keeps _ hx10) (fun _ => hx10))

theorem State.socRun_keeps (hk : Keeps ⟨H1, H2, H3, H4, H5, H6, H7, H8, H9, H10, false, H12, H13, H14, H15⟩ s0 s) : Keeps ⟨H1, H2, H3, H4, H5, H6, H7, H8, H9, H10, false, H12, H13, H14, H15⟩ s0 (State.socRun s) := by
  unfold State.socRun
  extract_lets -merge -underBinder +onlyGivenNames x0 x1 x2 x3 x4 x5 x6 x7 x8 x9 x10
  have hx10 : Keeps ⟨H1, H2, H3, H4, H5, H6, H7, H8, H9, H10, false, H12, H13, H14, H15⟩ s0 x10 := Keeps.ite (fun _ => State.modGauge_keeps _ hk) (fun _ => hk)
  try clear_value x10
  exact Keeps.ite (fun _ => hk) (fun _ => State.put_keeps _ _ _ hx10)

theorem State.gaugeRun_keeps (hk : Keeps ⟨H1, H2, H3, false, H5, H6, H7, H8, H9, H10, false, H12, H13, H14, H15⟩ s0 s) : Keeps ⟨H1, H2, H3, false, H5, H6, H7, H8, H9, H10, false, H12, H13, H14, H15⟩ s0 (State.gaugeRun s) := by
  unfold State.gaugeRun
  extract_lets -merge -underBinder +onlyGivenNames x0
  have hx0 : Keeps ⟨H1, H2, H3, false, H5, H6, H7, H8, H9, H10, false, H12, H13, H14, H15⟩ s0 x0.1 := by
    refine Keeps.ofEq ?_ (State.chargeStep_keeps hk)
    exact rfl
  try clear_value x0
  extract_lets -merge -underBinder +onlyGivenNames x1
  have hx1 : Keeps ⟨H1, H2, H3, false, H5, H6, H7, H8, H9, H10, false, H12, H13, H14, H15⟩ s0 x1 := hx0
  try clear_value x1
  extract_lets -merge -underBinder +onlyGivenNames x2 x3
  have hx3 : Keeps ⟨H1, H2, H3, false, H5, H6, H7, H8, H9, H10, false, H12, H13, H14, H15⟩ s0 x3 := State.modGauge_keeps _ hx1
  try clear_value x3
  extract_lets -merge -underBinder +onlyGivenNames x4
  have hx4 : Keeps ⟨H1, H2, H3, false, H5, H6, H7, H8, H9, H10, false, H12, H13, H14, H15⟩ s0 x4 := Keeps.ite (fun _ => Keeps.ite (fun _ => State.put_keeps _ _ _ hx3) (fun _ => hx3)) (fun _ => State.modGauge_keeps _ hx1)
  try clear_value x4
  extract_lets -merge -underBinder +onlyGivenNames x5
  have hx5 : Keeps ⟨H1, H2, H3, false, H5, H6, H7, H8, H9, H10, false, H12, H13, H14, H15⟩ s0 x5 := State.chargeTake_keeps _ hx4
  try clear_value x5
  extract_lets -merge -underBinder +onlyGivenNames x6
  have hx6 : Keeps ⟨H1, H2, H3, false, H5, H6, H7, H8, H9, H10, false, H12, H13, H14, H15⟩ s0 x6 := State.fullCheck_keeps hx5
  try clear_value x6
  extract_lets -merge -underBinder +onlyGivenNames x7
  have hx7 : Keeps ⟨H1, H2, H3, false, H5, H6, H7, H8, H9, H10, false, H12, H13, H14, H15⟩ s0 x7 := State.put_keeps _ _ _ (State.setRm_keeps _ hx6)
  try clear_value x7
  extract_lets -merge -underBinder +onlyGivenNames x8
  have hx8 : Keeps ⟨H1, H2, H3, false, H5, H6, H7, H8, H9, H10, false, H12, H13, H14, H15⟩ s0 x8 := by
    unfold x8
    refine Keeps.ite (fun _ => ?_) (fun _ => ?_)
    · split
      · exact State.disqualify_keeps _ hx7
      · exact hx7
    · exact hx7
  try clear_value x8
  extract_lets -merge -underBinder +onlyGivenNames x9 x10
  have hx10 : Keeps ⟨H1, H2, H3, false, H5, H6, H7, H8, H9, H10, false, H12, H13, H14, H15⟩ s0 x10 := State.put_keeps _ _ _ hx8
  try clear_value x10
  extract_lets -merge -underBinder +onlyGivenNames x11
  have hx11 : Keeps ⟨H1, H2, H3, false, H5, H6, H7, H8, H9, H10, false, H12, H13, H14, H15⟩ s0 x11 := foldl_keeps _ hx10 (fun _ _ h12 => State.edvRun_keeps _ _ h12)
  try clear_value x11
  extract_lets -merge -underBinder +onlyGivenNames x13
  have hx13 : Keeps ⟨H1, H2, H3, false, H5, H6, H7, H8, H9, H10, false, H12, H13, H14, H15⟩ s0 x13.1 := by
    refine Keeps.ofEq ?_ (State.eocRun_keeps ?_ hx11)
    exact rfl
  try clear_value x13
  extract_lets -merge -underBinder +onlyGivenNames x14
  have hx14 : Keeps ⟨H1, H2, H3, false, H5, H6, H7, H8, H9, H10, false, H12, H13, H14, H15⟩ s0 x14 := State.ocvRun_keeps _ hx13
  try clear_value x14
  extract_lets -merge -underBinder +onlyGivenNames x15
  have hx15 : Keeps ⟨H1, H2, H3, false, H5, H6, H7, H8, H9, H10, false, H12, H13, H14, H15⟩ s0 x15 := State.put_keeps _ _ _ hx14
  try clear_value x15
  extract_lets -merge -underBinder +onlyGivenNames x16
  have hx16 : Keeps ⟨H1, H2, H3, false, H5, H6, H7, H8, H9, H10, false, H12, H13, H14, H15⟩ s0 x16 := State.socRun_keeps (State.fullCheck_keeps hx15)
  try clear_value x16
  extract_lets -merge -underBinder +onlyGivenNames x17
  have hx17 : Keeps ⟨H1, H2, H3, false, H5, H6, H7, H8, H9, H10, false, H12, H13, H14, H15⟩ s0 x17 := State.put_keeps _ _ _ hx16
  try clear_value x17
  extract_lets -merge -underBinder +onlyGivenNames x18
  have hx18 : Keeps ⟨H1, H2, H3, false, H5, H6, H7, H8, H9, H10, false, H12, H13, H14, H15⟩ s0 x18 := State.put_keeps _ _ _ hx17
  try clear_value x18
  exact State.gaugeSave_keeps hx18

theorem State.nvdRun_keeps (op : NvdOp) (verifyOk : Bool) (hk : Keeps ⟨H1, false, H3, H4, false, H6, H7, H8, H9, H10, H11, H12, H13, H14, H15⟩ s0 s) : Keeps ⟨H1, false, H3, H4, false, H6, H7, H8, H9, H10, H11, H12, H13, H14, H15⟩ s0 (State.nvdRun s op verifyOk).1 := by
  unfold State.nvdRun
  extract_lets -merge -underBinder +onlyGivenNames x0
  have hx0 : Keeps ⟨H1, false, H3, H4, false, H6, H7, H8, H9, H10, H11, H12, H13, H14, H15⟩ s0 x0 := State.nvdStart_keeps _ hk
  try clear_value x0
  extract_lets -merge -underBinder +onlyGivenNames x1
  have hx1 : Keeps ⟨H1, false, H3, H4, false, H6, H7, H8, H9, H10, H11, H12, H13, H14, H15⟩ s0 x1 := Keeps.ite (fun _ => State.nvdFinish_keeps _ hx0) (fun _ => hx0)
  try clear_value x1
  refine Keeps.iteFst (fun _ => ?_) (fun _ => ?_)
  · refine Keeps.mkFst ?_
    exact hk
  · refine Keeps.mkFst ?_
    exact hx1

theorem State.gaugePost_keeps (hk : Keeps ⟨H1, H2, H3, H4, false, H6, H7, H8, H9, H10, H11, H12, H13, H14, H15⟩ s0 s) : Keeps ⟨H1, H2, H3, H4, false, H6, H7, H8, H9, H10, H11, H12, H13, H14, H15⟩ s0 (State.gaugePost s) := by
  unfold State.gaugePost
  exact Keeps.ite (fun _ => State.postGlobal_keeps _ _ _ _ _ hk) (fun _ => hk)

theorem State.learnAbort_keeps (hk : Keeps ⟨H1, H2, H3, H4, H5, H6, H7, H8, H9, H10, false, H12, H13, H14, H15⟩ s0 s) : Keeps ⟨H1, H2, H3, H4, H5, H6, H7, H8, H9, H10, false, H12, H13, H14, H15⟩ s0 (State.learnAbort s) := by
  unfold State.learnAbort
  exact Keeps.ite (fun _ => State.disqualify_keeps _ hk) (fun _ => hk)

theorem State.learnForget_keeps (hk : Keeps ⟨H1, H2, H3, H4, H5, H6, H7, H8, H9, H10, false, H12, H13, H14, H15⟩ s0 s) : Keeps ⟨H1, H2, H3, H4, H5, H6, H7, H8, H9, H10, false, H12, H13, H14, H15⟩ s0 (State.learnForget s) := by
  unfold State.learnForget
  extract_lets -merge -underBinder +onlyGivenNames x0
  have hx0 : Keeps ⟨H1, H2, H3, H4, H5, H6, H7, H8, H9, H10, false, H12, H13, H14, H15⟩ s0 x0 := Keeps.ite (fun _ => State.disqualify_keeps _ hk) (fun _ => hk)
  try clear_value x0
  extract_lets -merge -underBinder +onlyGivenNames x1
  have hx1 : Keeps ⟨H1, H2, H3, H4, H5, H6, H7, H8, H9, H10, false, H12, H13, H14, H15⟩ s0 x1 := State.put_keeps _ _ _ (State.put_keeps _ _ _ hx0)
  try clear_value x1
  exact State.modGauge_keeps _ (State.put_keeps _ _ _ (State.setRm_keeps _ hx1))

theorem State.gaugeTick_keeps (hk : Keeps ⟨H1, H2, H3, H4, false, H6, H7, H8, H9, H10, H11, H12, H13, H14, H15⟩ s0 s) : Keeps ⟨H1, H2, H3, H4, false, H6, H7, H8, H9, H10, H11, H12, H13, H14, H15⟩ s0 (State.gaugeTick s) := by
  unfold State.gaugeTick
  extract_lets -merge -underBinder +onlyGivenNames x0
  have hx0 : Keeps ⟨H1, H2, H3, H4, false, H6, H7, H8, H9, H10, H11, H12, H13, H14, H15⟩ s0 x0 := Keeps.ite (fun _ => State.gaugePost_keeps hk) (fun _ => hk)
  try clear_value x0
  extract_lets -merge -underBinder +onlyGivenNames x1
  have hx1 : Keeps ⟨H1, H2, H3, H4, false, H6, H7, H8, H9, H10, H11, H12, H13, H14, H15⟩ s0 x1 := State.raiseIf_keeps _ _ _ hx0
  try clear_value x1
  exact Keeps.ite (fun _ => State.postGlobal_keeps _ _ _ _ _ hx1) (fun _ => hx0)

theorem State.notSupported_keeps (n : Port) (hk : Keeps ⟨H1, H2, H3, H4, false, H6, H7, H8, H9, H10, H11, H12, H13, H14, false⟩ s0 s) : Keeps ⟨H1, H2, H3, H4, false, H6, H7, H8, H9, H10, H11, H12, H13, H14, false⟩ s0 (State.notSupported s n) := by
  unfold State.notSupported
  exact State.fwSend_keeps _ _ _ _ _ hk

theorem State.batteryCaps_keeps (n : Port) (ref : ℕ) (hk : Keeps ⟨H1, H2, H3, H4, false, H6, H7, H8, H9, H10, H11, H12, H13, H14, false⟩ s0 s) : Keeps ⟨H1, H2, H3, H4, false, H6, H7, H8, H9, H10, H11, H12, H13, H14, false⟩ s0 (State.batteryCaps s n ref) := by
  unfold State.batteryCaps
  extract_lets -merge -underBinder +onlyGivenNames x0 x1 x2 x3
  exact State.fwSendExt_keeps _ _ _ hk

theorem State.batteryStatus_keeps (n : Port) (ref : ℕ) (hk : Keeps ⟨H1, H2, H3, H4, false, H6, H7, H8, H9, H10, H11, H12, H13, H14, false⟩ s0 s) : Keeps ⟨H1, H2, H3, H4, false, H6, H7, H8, H9, H10, H11, H12, H13, H14, false⟩ s0 (State.batteryStatus s n ref) := by
  unfold State.batteryStatus
  extract_lets -merge -underBinder +onlyGivenNames x0 x1 x2
  exact State.fwSend_keeps _ _ _ _ _ hk

theorem State.status_keeps (n : Port) (hk : Keeps ⟨H1, H2, H3, H4, false, H6, H7, H8, H9, H10, H11, H12, H13, H14, false⟩ s0 s) : Keeps ⟨H1, H2, H3, H4, false, H6, H7, H8, H9, H10, H11, H12, H13, H14, false⟩ s0 (State.status s n) := by
  unfold State.status
  extract_lets -merge -underBinder +onlyGivenNames x0 x1 x2 x3 x4 x5
  exact State.modFw_keeps _ _ (State.fwSendExt_keeps _ _ _ hk)

theorem State.ppsStatus_keeps (n : Port) (hk : Keeps ⟨H1, H2, H3, H4, false, H6, H7, H8, H9, H10, H11, H12, H13, H14, false⟩ s0 s) : Keeps ⟨H1, H2, H3, H4, false, H6, H7, H8, H9, H10, H11, H12, H13, H14, false⟩ s0 (State.ppsStatus s n) := by
  unfold State.ppsStatus
  extract_lets -merge -underBinder +onlyGivenNames x0 x1 x2
  exact State.fwSendExt_keeps _ _ _ hk

theorem State.srcCapExt_keeps (n : Port) (hk : Keeps ⟨H1, H2, H3, H4, false, H6, H7, H8, H9, H10, H11, H12, H13, H14, false⟩ s0 s) : Keeps ⟨H1, H2, H3, H4, false, H6, H7, H8, H9, H10, H11, H12, H13, H14, false⟩ s0 (State.srcCapExt s n) := by
  unfold State.srcCapExt
  exact State.fwSendExt_keeps _ _ _ hk

theorem State.answer_keeps (n : Port) (h : ℕ) (ref : ℕ) (unchunked : Bool) (hk : Keeps ⟨H1, H2, H3, H4, false, H6, H7, H8, H9, H10, H11, H12, H13, H14, false⟩ s0 s) : Keeps ⟨H1, H2, H3, H4, false, H6, H7, H8, H9, H10, H11, H12, H13, H14, false⟩ s0 (State.answer s n h ref unchunked) := by
  unfold State.answer
  extract_lets -merge -underBinder +onlyGivenNames x0 x1 x2 x3
  exact Keeps.ite (fun _ => State.notSupported_keeps _ hk) (fun _ => Keeps.ite (fun _ => Keeps.ite (fun _ => State.batteryCaps_keeps _ _ hk) (fun _ => State.notSupported_keeps _ hk)) (fun _ => Keeps.ite (fun _ => Keeps.ite (fun _ => State.batteryStatus_keeps _ _ hk) (fun _ => State.notSupported_keeps _ hk)) (fun _ => Keeps.ite (fun _ => Keeps.ite (fun _ => State.notSupported_keeps _ hk) (fun _ => State.status_keeps _ hk)) (fun _ => Keeps.ite (fun _ => Keeps.ite (fun _ => State.notSupported_keeps _ hk) (fun _ => State.srcCapExt_keeps _ hk)) (fun _ => Keeps.ite (fun _ => Keeps.ite (fun _ => State.notSupported_keeps _ hk) (fun _ => State.ppsStatus_keeps _ hk)) (fun _ => Keeps.ite (fun _ => Keeps.ite (fun _ => State.notSupported_keeps _ hk) (fun _ => State.advertise_keeps _ hk)) (fun _ => Keeps.ite (fun _ => Keeps.ite (fun _ => State.notSupported_keeps _ hk) (fun _ => State.fwSend_keeps _ _ _ _ _ hk)) (fun _ => Keeps.ite (fun _ => Keeps.ite (fun _ => State.notSupported_keeps _ hk) (fun _ => State.fwSendExt_keeps _ _ _ hk)) (fun _ => Keeps.ite (fun _ => State.fwSend_keeps _ _ _ _ _ hk) (fun _ => Keeps.ite (fun _ => State.fwSendExt_keeps _ _ _ hk) (fun _ => Keeps.ite (fun _ => hk) (fun _ => Keeps.ite (fun _ => State.advertise_keeps _ hk) (fun _ => Keeps.ite (fun _ => State.notSupported_keeps _ hk) (fun _ => Keeps.ite (fun _ => State.notSupported_keeps _ hk) (fun _ => Keeps.ite (fun _ => State.notSupported_keeps _ hk) (fun _ => hk))))))))))))))))

theorem State.bootShow_keeps (hk : Keeps H s0 s) : Keeps H s0 (State.bootShow s) := by
  unfold State.bootShow
  extract_lets -merge -underBinder +onlyGivenNames x0 x1 x2
  have hx2 : Keeps H s0 x2 := State.put_keeps _ _ _ (State.put_keeps _ _ _ hk)
  try clear_value x2
  exact State.putB_keeps _ _ _ (State.put_keeps _ _ _ hx2)

theorem State.bootWrite_keeps (f : BootRec → BootRec) (hk : Keeps ⟨H1, false, H3, H4, H5, H6, false, H8, H9, H10, H11, H12, H13, H14, H15⟩ s0 s) : Keeps ⟨H1, false, H3, H4, H5, H6, false, H8, H9, H10, H11, H12, H13, H14, H15⟩ s0 (State.bootWrite s f) := by
  unfold State.bootWrite
  extract_lets -merge -underBinder +onlyGivenNames x0
  exact State.bootShow_keeps (State.nvdCommit_keeps _ _ _ (Keeps.mk' hk))

theorem State.bootDecide_keeps (f : BootRec → BootRec) (hk : Keeps ⟨H1, false, H3, H4, H5, H6, false, H8, H9, H10, H11, H12, H13, H14, H15⟩ s0 s) : Keeps ⟨H1, false, H3, H4, H5, H6, false, H8, H9, H10, H11, H12, H13, H14, H15⟩ s0 (State.bootDecide s f) := by
  unfold State.bootDecide
  exact Keeps.ite (fun _ => State.bootWrite_keeps _ hk) (fun _ => State.bootShow_keeps (Keeps.mk' hk))

theorem State.mapPut_keeps (a : ℕ) (i : ℕ) (b : Bool) (hk : Keeps ⟨H1, H2, H3, H4, false, H6, H7, H8, H9, H10, H11, H12, H13, H14, H15⟩ s0 s) : Keeps ⟨H1, H2, H3, H4, false, H6, H7, H8, H9, H10, H11, H12, H13, H14, H15⟩ s0 (State.mapPut s a i b) := by
  unfold State.mapPut
  exact State.stPut_keeps _ _ _ hk

theorem State.sectorClear_keeps (k : ℕ) (hk : Keeps ⟨H1, H2, H3, H4, false, H6, H7, H8, H9, H10, H11, H12, H13, H14, H15⟩ s0 s) : Keeps ⟨H1, H2, H3, H4, false, H6, H7, H8, H9, H10, H11, H12, H13, H14, H15⟩ s0 (State.sectorClear s k) := by
  unfold State.sectorClear
  exact State.mapPut_keeps _ _ _ (State.stZero_keeps _ _ hk)

theorem State.updResult_keeps (code : ℕ) (hk : Keeps H s0 s) : Keeps H s0 (State.updResult s code) := by
  unfold State.updResult
  exact State.raise_keeps _ _ (State.put_keeps _ _ _ hk)

theorem State.updPost_keeps (hk : Keeps ⟨H1, H2, H3, H4, false, H6, H7, H8, H9, H10, H11, H12, H13, H14, H15⟩ s0 s) : Keeps ⟨H1, H2, H3, H4, false, H6, H7, H8, H9, H10, H11, H12, H13, H14, H15⟩ s0 (State.updPost s) := by
  unfold State.updPost
  exact Keeps.ite (fun _ => State.postGlobal_keeps _ _ _ _ _ hk) (fun _ => hk)

theorem State.sessEnd_keeps (hk : Keeps ⟨H1, H2, H3, H4, H5, H6, H7, H8, H9, H10, H11, H12, false, H14, H15⟩ s0 s) : Keeps ⟨H1, H2, H3, H4, H5, H6, H7, H8, H9, H10, H11, H12, false, H14, H15⟩ s0 (State.sessEnd s) := by
  unfold State.sessEnd
  extract_lets -merge -underBinder +onlyGivenNames x0
  have hx0 : Keeps ⟨H1, H2, H3, H4, H5, H6, H7, H8, H9, H10, H11, H12, false, H14, H15⟩ s0 x0 := State.put_keeps _ _ _ hk
  try clear_value x0
  exact Keeps.mk' hx0

theorem State.sessOpen_keeps (src : ℕ) (hk : Keeps ⟨H1, false, H3, H4, false, H6, false, H8, H9, H10, H11, H12, H13, H14, H15⟩ s0 s) : KeepsO ⟨H1, false, H3, H4, false, H6, false, H8, H9, H10, H11, H12, H13, H14, H15⟩ s0 (State.sessOpen s src) := by
  unfold State.sessOpen
  extract_lets -merge -underBinder +onlyGivenNames x0 x1
  have hx1 : Keeps ⟨H1, false, H3, H4, false, H6, false, H8, H9, H10, H11, H12, H13, H14, H15⟩ s0 x1 := Keeps.ite (fun _ => hk) (fun _ => State.bootDecide_keeps _ hk)
  try clear_value x1
  extract_lets -merge -underBinder +onlyGivenNames x2 x3
  have hx3 : Keeps ⟨H1, false, H3, H4, false, H6, false, H8, H9, H10, H11, H12, H13, H14, H15⟩ s0 x3 := State.nvdErasePage_keeps _ (State.nvdErasePage_keeps _ hx1)
  try clear_value x3
  refine KeepsO.ite (fun _ => ?_) (fun _ => ?_)
  · refine KeepsO.some ?_
    exact State.put_keeps _ _ _ (State.stZero_keeps _ _ (State.stZero_keeps _ _ hx3))
  · exact KeepsO.none

theorem State.updWord_keeps (b : Bool) (w : ℕ) (v : Word) (bad : Option Bool) (hk : Keeps ⟨H1, false, H3, H4, false, H6, H7, H8, H9, H10, H11, H12, H13, H14, H15⟩ s0 s) : Keeps ⟨H1, false, H3, H4, false, H6, H7, H8, H9, H10, H11, H12, H13, H14, H15⟩ s0 (State.updWord s b w v bad).1 := by
  unfold State.updWord
  extract_lets -merge -underBinder +onlyGivenNames x0 x1 x2
  have hx2 : Keeps ⟨H1, false, H3, H4, false, H6, H7, H8, H9, H10, H11, H12, H13, H14, H15⟩ s0 x2 := Keeps.ite (fun _ => State.sectorClear_keeps _ (State.stNote_keeps _ _ _ hk)) (fun _ => hk)
  try clear_value x2
  extract_lets -merge -underBinder +onlyGivenNames x3
  have hx3 : Keeps ⟨H1, false, H3, H4, false, H6, H7, H8, H9, H10, H11, H12, H13, H14, H15⟩ s0 x3 := State.put_keeps _ _ _ hx2
  try clear_value x3
  extract_lets -merge -underBinder +onlyGivenNames x4
  have hx4 : Keeps ⟨H1, false, H3, H4, false, H6, H7, H8, H9, H10, H11, H12, H13, H14, H15⟩ s0 x4.1 := by
    unfold x4
    refine Keeps.iteFst (fun _ => ?_) (fun _ => ?_)
    · refine Keeps.mkFst ?_
      exact hx3
    · refine Keeps.iteFst (fun _ => ?_) (fun _ => ?_)
      · refine Keeps.mkFst ?_
        exact hx3
      · refine Keeps.iteFst (fun _ => ?_) (fun _ => ?_)
        · refine Keeps.mkFst ?_
          exact State.eraseAbort_keeps _ (State.sectorClear_keeps _ hx3)
        · refine Keeps.mkFst ?_
          exact State.mapPut_keeps _ _ _ (State.codeErase_keeps _ hx3)
  try clear_value x4
  extract_lets -merge -underBinder +onlyGivenNames x5
  have hx5 : Keeps ⟨H1, false, H3, H4, false, H6, H7, H8, H9, H10, H11, H12, H13, H14, H15⟩ s0 x5 := hx4
  try clear_value x5
  refine Keeps.iteFst (fun _ => ?_) (fun _ => ?_)
  · refine Keeps.iteFst (fun _ => ?_) (fun _ => ?_)
    · refine Keeps.mkFst ?_
      exact hx2
    · refine Keeps.mkFst ?_
      exact hx2
  · refine Keeps.iteFst (fun _ => ?_) (fun _ => ?_)
    · refine Keeps.mkFst ?_
      exact hx5
    · refine Keeps.iteFst (fun _ => ?_) (fun _ => ?_)
      · refine Keeps.mkFst ?_
        exact State.freshen_keeps (State.codeProgram_keeps _ _ hx5)
      · refine Keeps.mkFst ?_
        exact State.mapPut_keeps _ _ _ (State.codeProgram_keeps _ _ hx5)

theorem State.updWords_keeps (b : Bool) (bad : Option (ℕ × Bool)) (i w : ℕ) (l : List Word) (hk : Keeps ⟨H1, false, H3, H4, false, H6, H7, H8, H9, H10, H11, H12, H13, H14, H15⟩ s0 s) :
    Keeps ⟨H1, false, H3, H4, false, H6, H7, H8, H9, H10, H11, H12, H13, H14, H15⟩ s0 (State.updWords s b bad i w l).1 := by
  induction l generalizing s i w with
  | nil => exact hk
  | cons v l ih =>
    unfold State.updWords
    extract_lets -merge -underBinder +onlyGivenNames x0
    split
    · exact ih _ _ (State.updWord_keeps _ _ _ _ hk)
    · exact State.updWord_keeps _ _ _ _ hk

theorem State.updBlock_keeps (src : ℕ) (off : ℕ) (data : List Byte) (bad : Option (ℕ × Bool)) (hk : Keeps ⟨H1, false, H3, H4, false, H6, false, H8, H9, H10, H11, H12, H13, H14, H15⟩ s0 s) : Keeps ⟨H1, false, H3, H4, false, H6, false, H8, H9, H10, H11, H12, H13, H14, H15⟩ s0 (State.updBlock s src off data bad).1 := by
  unfold State.updBlock
  extract_lets -merge -underBinder +onlyGivenNames x0
  refine Keeps.iteFst (fun _ => ?_) (fun _ => ?_)
  · refine Keeps.mkFst ?_
    exact hk
  · refine Keeps.iteFst (fun _ => ?_) (fun _ => ?_)
    · refine Keeps.mkFst ?_
      exact hk
    · refine Keeps.iteFst (fun _ => ?_) (fun _ => ?_)
      · refine Keeps.mkFst ?_
        exact hk
      · split
        · refine Keeps.mkFst ?_
          exact hk
        · rename_i y1 e1
          have hy1 : Keeps ⟨H1, false, H3, H4, false, H6, false, H8, H9, H10, H11, H12, H13, H14, H15⟩ s0 y1 := by
            refine KeepsO.get ?_ e1
            refine KeepsO.ite (fun _ => ?_) (fun _ => ?_)
            · refine State.sessOpen_keeps _ ?_
              exact hk
            · refine KeepsO.some ?_
              exact hk
          refine State.updWords_keeps _ _ _ _ _ ?_
          exact hy1

theorem State.maskCheck_keeps (hk : Keeps ⟨H1, H2, H3, H4, false, H6, H7, H8, H9, H10, H11, H12, H13, H14, H15⟩ s0 s) : Keeps ⟨H1, H2, H3, H4, false, H6, H7, H8, H9, H10, H11, H12, H13, H14, H15⟩ s0 (State.maskCheck s) := by
  unfold State.maskCheck
  exact foldl_keeps _ hk (fun _ _ h0 => Keeps.ite (fun _ => State.sectorClear_keeps _ (State.stNote_keeps _ _ _ h0)) (fun _ => h0))

theorem State.updCommit_keeps (src : ℕ) (hk : Keeps ⟨H1, false, H3, H4, false, H6, false, H8, H9, H10, H11, H12, false, H14, H15⟩ s0 s) : Keeps ⟨H1, false, H3, H4, false, H6, false, H8, H9, H10, H11, H12, false, H14, H15⟩ s0 (State.updCommit s src).1 := by
  unfold State.updCommit
  extract_lets -merge -underBinder +onlyGivenNames x0
  have hx0 : Keeps ⟨H1, false, H3, H4, false, H6, false, H8, H9, H10, H11, H12, false, H14, H15⟩ s0 x0 := State.maskCheck_keeps hk
  try clear_value x0
  extract_lets -merge -underBinder +onlyGivenNames x1
  refine Keeps.iteFst (fun _ => ?_) (fun _ => ?_)
  · refine Keeps.mkFst ?_
    exact hk
  · refine Keeps.iteFst (fun _ => ?_) (fun _ => ?_)
    · refine Keeps.mkFst ?_
      exact hk
    · refine Keeps.iteFst (fun _ => ?_) (fun _ => ?_)
      · refine Keeps.mkFst ?_
        exact hx0
      · refine Keeps.iteFst (fun _ => ?_) (fun _ => ?_)
        · refine Keeps.mkFst ?_
          exact hx0
        · refine Keeps.iteFst (fun _ => ?_) (fun _ => ?_)
          · refine Keeps.mkFst ?_
            exact hx0
          · refine Keeps.mkFst ?_
            exact State.raise_keeps _ _ (State.sessEnd_keeps (State.bootWrite_keeps _ hx0))

theorem State.warmCause_keeps (bit : ℕ) (hk : Keeps ⟨H1, H2, H3, H4, H5, false, H7, H8, H9, H10, H11, H12, H13, H14, H15⟩ s0 s) : Keeps ⟨H1, H2, H3, H4, H5, false, H7, H8, H9, H10, H11, H12, H13, H14, H15⟩ s0 (State.warmCause s bit) := by
  unfold State.warmCause
  exact Keeps.mk' hk

theorem State.activationReset_keeps (b : Bool) (hk : Keeps ⟨H1, H2, H3, H4, H5, false, H7, H8, H9, H10, H11, H12, false, H14, H15⟩ s0 s) : Keeps ⟨H1, H2, H3, H4, H5, false, H7, H8, H9, H10, H11, H12, false, H14, H15⟩ s0 (State.activationReset s b) := by
  unfold State.activationReset
  extract_lets -merge -underBinder +onlyGivenNames x0
  have hx0 : Keeps ⟨H1, H2, H3, H4, H5, false, H7, H8, H9, H10, H11, H12, false, H14, H15⟩ s0 x0 := State.warmCause_keeps _ hk
  try clear_value x0
  exact Keeps.mk' hx0

theorem State.updActivate_keeps (hk : Keeps ⟨H1, H2, H3, H4, H5, false, H7, H8, H9, H10, H11, H12, false, H14, H15⟩ s0 s) : Keeps ⟨H1, H2, H3, H4, H5, false, H7, H8, H9, H10, H11, H12, false, H14, H15⟩ s0 (State.updActivate s) := by
  unfold State.updActivate
  exact Keeps.ite (fun _ => State.updResult_keeps _ hk) (fun _ => Keeps.ite (fun _ => State.updResult_keeps _ hk) (fun _ => State.activationReset_keeps _ (State.updResult_keeps _ hk)))

theorem State.updConfirm_keeps (switch : Bool) (hk : Keeps ⟨H1, false, H3, H4, H5, H6, false, H8, H9, H10, H11, H12, false, H14, H15⟩ s0 s) : Keeps ⟨H1, false, H3, H4, H5, H6, false, H8, H9, H10, H11, H12, false, H14, H15⟩ s0 (State.updConfirm s switch) := by
  unfold State.updConfirm
  extract_lets -merge -underBinder +onlyGivenNames x0 x1
  have hx1 : Keeps ⟨H1, false, H3, H4, H5, H6, false, H8, H9, H10, H11, H12, false, H14, H15⟩ s0 x1 := State.bootWrite_keeps _ hk
  try clear_value x1
  exact Keeps.ite (fun _ => State.updResult_keeps _ hk) (fun _ => Keeps.ite (fun _ => State.updResult_keeps _ hk) (fun _ => State.updResult_keeps _ (Keeps.mk' hx1)))

theorem State.ownerFlag_keeps (b : Bool) (hk : Keeps ⟨H1, false, H3, H4, H5, H6, H7, H8, H9, H10, H11, H12, H13, H14, H15⟩ s0 s) : Keeps ⟨H1, false, H3, H4, H5, H6, H7, H8, H9, H10, H11, H12, H13, H14, H15⟩ s0 (State.ownerFlag s b) := by
  unfold State.ownerFlag
  extract_lets -merge -underBinder +onlyGivenNames x0 x1 x2
  exact State.putB_keeps _ _ _ (State.nvdCommit_keeps _ _ _ hk)

theorem State.updOwnerLock_keeps (hk : Keeps ⟨H1, false, H3, H4, H5, H6, H7, H8, H9, H10, H11, H12, H13, H14, H15⟩ s0 s) : Keeps ⟨H1, false, H3, H4, H5, H6, H7, H8, H9, H10, H11, H12, H13, H14, H15⟩ s0 (State.updOwnerLock s) := by
  unfold State.updOwnerLock
  exact Keeps.ite (fun _ => State.updResult_keeps _ hk) (fun _ => Keeps.ite (fun _ => State.updResult_keeps _ hk) (fun _ => State.updResult_keeps _ (State.ownerFlag_keeps _ hk)))

theorem State.tokFail_keeps (hk : Keeps H s0 s) : Keeps H s0 (State.tokFail s) := by
  unfold State.tokFail
  exact Keeps.mk' hk

theorem State.updChallenge_keeps (v : BitVec 64) (hk : Keeps ⟨H1, H2, H3, H4, H5, H6, H7, H8, H9, H10, H11, H12, false, H14, H15⟩ s0 s) : Keeps ⟨H1, H2, H3, H4, H5, H6, H7, H8, H9, H10, H11, H12, false, H14, H15⟩ s0 (State.updChallenge s v) := by
  unfold State.updChallenge
  extract_lets -merge -underBinder +onlyGivenNames x0 x1
  have hx1 : Keeps ⟨H1, H2, H3, H4, H5, H6, H7, H8, H9, H10, H11, H12, false, H14, H15⟩ s0 x1 := Keeps.mk' hk
  try clear_value x1
  exact State.put_keeps _ _ _ (State.put_keeps _ _ _ hx1)

theorem State.updUnlock_keeps (hk : Keeps ⟨H1, false, H3, H4, H5, H6, H7, H8, H9, H10, H11, H12, false, H14, H15⟩ s0 s) : Keeps ⟨H1, false, H3, H4, H5, H6, H7, H8, H9, H10, H11, H12, false, H14, H15⟩ s0 (State.updUnlock s) := by
  unfold State.updUnlock
  extract_lets -merge -underBinder +onlyGivenNames x0 x1 x2
  have hx2 : Keeps ⟨H1, false, H3, H4, H5, H6, H7, H8, H9, H10, H11, H12, false, H14, H15⟩ s0 x2 := Keeps.mk' hk
  try clear_value x2
  extract_lets -merge -underBinder +onlyGivenNames x3
  have hx3 : Keeps ⟨H1, false, H3, H4, H5, H6, H7, H8, H9, H10, H11, H12, false, H14, H15⟩ s0 x3 := State.put_keeps _ _ _ (State.put_keeps _ _ _ (State.put_keeps _ _ _ hx2))
  try clear_value x3
  exact Keeps.ite (fun _ => State.updResult_keeps _ (State.tokFail_keeps hx3)) (fun _ => Keeps.ite (fun _ => State.updResult_keeps _ hx3) (fun _ => State.updResult_keeps _ (State.put_keeps _ _ _ (State.ownerFlag_keeps _ hx3))))

theorem State.distPost_keeps (hk : Keeps ⟨H1, H2, H3, H4, false, H6, H7, H8, H9, H10, H11, H12, H13, H14, H15⟩ s0 s) : Keeps ⟨H1, H2, H3, H4, false, H6, H7, H8, H9, H10, H11, H12, H13, H14, H15⟩ s0 (State.distPost s) := by
  unfold State.distPost
  exact State.postGlobal_keeps _ _ _ _ _ hk

theorem State.updDistribute_keeps (hk : Keeps ⟨H1, H2, H3, H4, false, H6, H7, H8, H9, H10, H11, H12, false, H14, H15⟩ s0 s) : Keeps ⟨H1, H2, H3, H4, false, H6, H7, H8, H9, H10, H11, H12, false, H14, H15⟩ s0 (State.updDistribute s) := by
  unfold State.updDistribute
  extract_lets -merge -underBinder +onlyGivenNames x0 x1 x2 x3
  have hx3 : Keeps ⟨H1, H2, H3, H4, false, H6, H7, H8, H9, H10, H11, H12, false, H14, H15⟩ s0 x3 := Keeps.mk' hk
  try clear_value x3
  exact Keeps.ite (fun _ => hk) (fun _ => State.distPost_keeps (State.wr_keeps _ _ _ (State.wr_keeps _ _ _ (State.put_keeps _ _ _ (State.put_keeps _ _ _ (State.put_keeps _ _ _ (State.put_keeps _ _ _ hx3)))))))

theorem State.updAbort_keeps (hk : Keeps ⟨H1, H2, H3, H4, H5, H6, H7, H8, H9, H10, H11, H12, false, H14, H15⟩ s0 s) : Keeps ⟨H1, H2, H3, H4, H5, H6, H7, H8, H9, H10, H11, H12, false, H14, H15⟩ s0 (State.updAbort s) := by
  unfold State.updAbort
  exact State.updResult_keeps _ (State.sessEnd_keeps hk)

theorem State.pagesReset_keeps (pages : List ℕ) (keep : ℕ → ℕ) (hk : Keeps H s0 s) : Keeps H s0 (State.pagesReset s pages keep) := by
  unfold State.pagesReset
  extract_lets -merge -underBinder +onlyGivenNames x0
  have hx0 : Keeps H s0 x0 := State.maskRegs_keeps _ _ hk
  try clear_value x0
  extract_lets -merge -underBinder +onlyGivenNames x1
  have hx1 : Keeps H s0 x1 := hx0.inForceFilter _
  try clear_value x1
  refine foldl_keeps _ ?_ ?_
  · exact hx1
  · intro s2_0 s2_1 hs2_1
    extract_lets -merge -underBinder +onlyGivenNames x3
    have hx3 : Keeps H s0 x3 := State.put_keeps _ _ _ hs2_1
    try clear_value x3
    exact Keeps.mk' hx3

theorem State.pdlRefuse_keeps (n : Port) (hk : Keeps ⟨H1, H2, H3, H4, false, H6, H7, H8, H9, H10, H11, H12, H13, H14, false⟩ s0 s) : Keeps ⟨H1, H2, H3, H4, false, H6, H7, H8, H9, H10, H11, H12, H13, H14, false⟩ s0 (State.pdlRefuse s n) := by
  unfold State.pdlRefuse
  extract_lets -merge -underBinder +onlyGivenNames x0
  have hx0 : Keeps ⟨H1, H2, H3, H4, false, H6, H7, H8, H9, H10, H11, H12, H13, H14, false⟩ s0 x0 := State.txEndAll_keeps _ _ _ (State.wr_keeps _ _ _ (State.wr_keeps _ _ _ hk))
  try clear_value x0
  exact State.modPdl_keeps _ _ (State.reasmDrop_keeps _ hx0)

theorem State.retiredOut_keeps (n : Port) (was : Bool) (hk : Keeps ⟨H1, H2, H3, false, false, H6, H7, H8, H9, H10, H11, false, H13, H14, false⟩ s0 s) : Keeps ⟨H1, H2, H3, false, false, H6, H7, H8, H9, H10, H11, false, H13, H14, false⟩ s0 (State.retiredOut s n was) := by
  unfold State.retiredOut
  exact Keeps.ite (fun _ => State.guardEvt_keeps _ _ (State.ccEnter_keeps _ _ hk)) (fun _ => hk)

theorem State.copiesKept_keeps (n : Port) (retired : Bool) (hk : Keeps H s0 s) : Keeps H s0 (State.copiesKept s n retired) := by
  unfold State.copiesKept
  exact Keeps.ite (fun _ => State.retestPort_keeps _ (State.put_keeps _ _ _ (State.setFailed_keeps _ _ hk))) (fun _ => State.putB_keeps _ _ _ hk)

theorem State.portReset_keeps (n : Port) (hk : Keeps ⟨H1, H2, H3, false, false, H6, H7, H8, H9, H10, H11, false, H13, H14, false⟩ s0 s) : Keeps ⟨H1, H2, H3, false, false, H6, H7, H8, H9, H10, H11, false, H13, H14, false⟩ s0 (State.portReset s n) := by
  unfold State.portReset
  extract_lets -merge -underBinder +onlyGivenNames x0 x1
  have hx1 : Keeps ⟨H1, H2, H3, false, false, H6, H7, H8, H9, H10, H11, false, H13, H14, false⟩ s0 x1 := State.pdlRefuse_keeps _ (State.guardHalt_keeps _ hk)
  try clear_value x1
  extract_lets -merge -underBinder +onlyGivenNames x2
  have hx2 : Keeps ⟨H1, H2, H3, false, false, H6, H7, H8, H9, H10, H11, false, H13, H14, false⟩ s0 x2 := Keeps.ite (fun _ => State.detach_keeps _ _ hx1) (fun _ => State.transAbandon_keeps _ (State.snapClear_keeps _ (State.genUp_keeps _ hx1)))
  try clear_value x2
  extract_lets -merge -underBinder +onlyGivenNames x3
  have hx3 : Keeps ⟨H1, H2, H3, false, false, H6, H7, H8, H9, H10, H11, false, H13, H14, false⟩ s0 x3 := State.hpdClear_keeps _ (State.vconnOff_keeps _ hx2)
  try clear_value x3
  extract_lets -merge -underBinder +onlyGivenNames x4 x5
  have hx5 : Keeps ⟨H1, H2, H3, false, false, H6, H7, H8, H9, H10, H11, false, H13, H14, false⟩ s0 x5 := State.pagesReset_keeps _ _ hx3
  try clear_value x5
  extract_lets -merge -underBinder +onlyGivenNames x6
  have hx6 : Keeps ⟨H1, H2, H3, false, false, H6, H7, H8, H9, H10, H11, false, H13, H14, false⟩ s0 x6 := State.retiredOut_keeps _ _ (State.put_keeps _ _ _ (State.put_keeps _ _ _ hx5))
  try clear_value x6
  extract_lets -merge -underBinder +onlyGivenNames x7
  have hx7 : Keeps ⟨H1, H2, H3, false, false, H6, H7, H8, H9, H10, H11, false, H13, H14, false⟩ s0 x7 := State.copiesKept_keeps _ _ hx6
  try clear_value x7
  exact State.modPort_keeps _ _ hx7

theorem State.portResetAsk_keeps (pg : ℕ) (n : Port) (hk : Keeps ⟨H1, H2, H3, false, false, H6, H7, H8, H9, H10, H11, false, H13, H14, false⟩ s0 s) : Keeps ⟨H1, H2, H3, false, false, H6, H7, H8, H9, H10, H11, false, H13, H14, false⟩ s0 (State.portResetAsk s pg n) := by
  unfold State.portResetAsk
  exact Keeps.ite (fun _ => State.lockedWrite_keeps _ hk) (fun _ => State.portReset_keeps _ hk)

theorem State.nvdDrop_keeps (hk : Keeps ⟨H1, false, H3, H4, H5, H6, H7, H8, H9, H10, H11, H12, H13, H14, H15⟩ s0 s) : Keeps ⟨H1, false, H3, H4, H5, H6, H7, H8, H9, H10, H11, H12, H13, H14, H15⟩ s0 (State.nvdDrop s) := by
  unfold State.nvdDrop
  extract_lets -merge -underBinder +onlyGivenNames x0
  have hx0 : Keeps ⟨H1, false, H3, H4, H5, H6, H7, H8, H9, H10, H11, H12, H13, H14, H15⟩ s0 x0 := by
    unfold x0
    split
    · exact State.nvdErasePage_keeps _ hk
    · exact State.nvdErasePage_keeps _ hk
    · exact hk
  try clear_value x0
  exact Keeps.mk' hx0

theorem State.blockHidden_keeps (kind : PageKind) (i : ℕ) (hk : Keeps ⟨H1, false, H3, H4, false, H6, H7, false, false, H10, H11, false, false, false, false⟩ s0 s) : Keeps ⟨H1, false, H3, H4, false, H6, H7, false, false, H10, H11, false, false, false, false⟩ s0 (State.blockHidden s kind i) := by
  unfold State.blockHidden
  extract_lets -merge -underBinder +onlyGivenNames x0 x1
  split
  · exact State.modPort_keeps _ _ (State.pdlRefuse_keeps _ hk)
  · exact State.modPort_keeps _ _ hk
  · exact State.modPol_keeps _ _ hk
  · exact State.modPort_keeps _ _ (State.hpdClear_keeps _ hk)
  · exact State.shareReset_keeps hk
  · exact Keeps.mk' hk
  · exact Keeps.mk' hk
  · exact State.modLink_keeps _ _ (Keeps.ite (fun _ => State.linkTo_keeps _ _ hk) (fun _ => hk))
  · exact Keeps.mk' hk
  · exact Keeps.mk' hk
  · exact Keeps.mk' hk
  · exact State.nvdDrop_keeps hk
  · exact State.sessEnd_keeps hk
  · exact State.modEng_keeps _ _ hk
  · exact hk

theorem State.hgSolo_keeps (hk : Keeps H s0 s) : Keeps H s0 (State.hgSolo s) := by
  unfold State.hgSolo
  exact Keeps.ite (fun _ => State.put_keeps _ _ _ (State.put_keeps _ _ _ (State.put_keeps _ _ _ hk))) (fun _ => hk)

theorem State.blockAfter_keeps (kind : PageKind) (hk : Keeps ⟨H1, H2, H3, H4, H5, H6, H7, H8, H9, H10, false, H12, H13, H14, H15⟩ s0 s) : Keeps ⟨H1, H2, H3, H4, H5, H6, H7, H8, H9, H10, false, H12, H13, H14, H15⟩ s0 (State.blockAfter s kind) := by
  unfold State.blockAfter
  split
  · exact State.gaugeRestore_keeps hk
  · exact State.gaugeRestore_keeps hk
  · exact State.winLoad_keeps hk
  · exact State.hgSolo_keeps hk
  · exact hk

theorem State.blockReset_keeps (pg : ℕ) (hk : Keeps ⟨H1, false, H3, false, false, H6, H7, false, false, H10, false, false, false, false, false⟩ s0 s) : Keeps ⟨H1, false, H3, false, false, H6, H7, false, false, H10, false, false, false, false, false⟩ s0 (State.blockReset s pg) := by
  unfold State.blockReset
  split
  · exact hk
  · extract_lets -merge -underBinder +onlyGivenNames x0
    exact Keeps.ite (fun _ => hk) (fun _ => Keeps.ite (fun _ => State.portResetAsk_keeps _ _ hk) (fun _ => Keeps.ite (fun _ => State.lockedWrite_keeps _ hk) (fun _ => State.blockAfter_keeps _ (State.pagesReset_keeps _ _ (State.blockHidden_keeps _ _ hk)))))

theorem State.blockDone_keeps (pg : ℕ) (hk : Keeps H s0 s) : Keeps H s0 (State.blockDone s pg) := by
  unfold State.blockDone
  extract_lets -merge -underBinder +onlyGivenNames x0
  have hx0 : Keeps H s0 x0 := State.put_keeps _ _ _ hk
  try clear_value x0
  exact Keeps.ite (fun _ => Keeps.mk' hx0) (fun _ => hk)

theorem State.flashDrop_keeps (hk : Keeps ⟨H1, false, H3, H4, H5, H6, H7, H8, H9, H10, H11, H12, H13, H14, H15⟩ s0 s) : Keeps ⟨H1, false, H3, H4, H5, H6, H7, H8, H9, H10, H11, H12, H13, H14, H15⟩ s0 (State.flashDrop s) := by
  unfold State.flashDrop
  extract_lets -merge -underBinder +onlyGivenNames x0
  have hx0 : Keeps ⟨H1, false, H3, H4, H5, H6, H7, H8, H9, H10, H11, H12, H13, H14, H15⟩ s0 x0 := by
    unfold x0
    split
    · exact State.codeProgram_keeps _ _ hk
    · exact State.codeErase_keeps _ hk
    · exact hk
  try clear_value x0
  exact Keeps.mk' hx0

theorem State.verified_keeps (code : ℕ) (hk : Keeps H s0 s) : Keeps H s0 (State.verified s code) := by
  unfold State.verified
  extract_lets -merge -underBinder +onlyGivenNames x0
  have hx0 : Keeps H s0 x0 := State.put_keeps _ _ _ hk
  try clear_value x0
  exact Keeps.ite (fun _ => hx0) (fun _ => State.put_keeps _ _ _ hx0)

theorem State.pickConfirmed_go_keeps (l : List Bool) (hk : Keeps H s0 s) : Keeps H s0 (State.pickConfirmed.go s l).1 := by
  induction l generalizing s with
  | nil => exact hk
  | cons k l ih =>
    unfold State.pickConfirmed.go
    split
    · exact ih hk
    · extract_lets -merge -underBinder +onlyGivenNames x0
      split
      · exact Keeps.mkFst (State.verified_keeps _ hk)
      · exact ih (State.verified_keeps _ hk)

theorem State.pickConfirmed_keeps (hk : Keeps H s0 s) : Keeps H s0 (State.pickConfirmed s).1 :=
  State.pickConfirmed_go_keeps _ hk

theorem State.chooseBank_keeps (hk : Keeps ⟨H1, false, H3, H4, H5, H6, false, H8, H9, H10, H11, H12, H13, H14, H15⟩ s0 s) : Keeps ⟨H1, false, H3, H4, H5, H6, false, H8, H9, H10, H11, H12, H13, H14, H15⟩ s0 (State.chooseBank s).1 := by
  unfold State.chooseBank
  extract_lets -merge -underBinder +onlyGivenNames x0 x1
  have hx1 : Keeps ⟨H1, false, H3, H4, H5, H6, false, H8, H9, H10, H11, H12, H13, H14, H15⟩ s0 x1 := by
    unfold x1
    refine foldl_keeps _ ?_ ?_
    · exact hk
    · intro s2_0 s2_1 hs2_1
      extract_lets -merge -underBinder +onlyGivenNames x3 x4
      have hx4 : Keeps ⟨H1, false, H3, H4, H5, H6, false, H8, H9, H10, H11, H12, H13, H14, H15⟩ s0 x4 := State.verified_keeps _ hs2_1
      try clear_value x4
      exact Keeps.ite (fun _ => Keeps.ite (fun _ => State.bootDecide_keeps _ hx4) (fun _ => State.raise_keeps _ _ (State.bootDecide_keeps _ hx4))) (fun _ => hs2_1)
  try clear_value x1
  extract_lets -merge -underBinder +onlyGivenNames x5
  have hx5 : Keeps ⟨H1, false, H3, H4, H5, H6, false, H8, H9, H10, H11, H12, H13, H14, H15⟩ s0 x5 := foldl_keeps _ hx1 (fun _ _ h6 => Keeps.ite (fun _ => State.raise_keeps _ _ (State.bootDecide_keeps _ h6)) (fun _ => h6))
  try clear_value x5
  split
  · refine State.pickConfirmed_keeps ?_
    exact hx5
  · extract_lets -merge -underBinder +onlyGivenNames x7
    extract_lets -merge -underBinder +onlyGivenNames x8
    have hx8 : Keeps ⟨H1, false, H3, H4, H5, H6, false, H8, H9, H10, H11, H12, H13, H14, H15⟩ s0 x8 := State.bootDecide_keeps _ hx5
    try clear_value x8
    extract_lets -merge -underBinder +onlyGivenNames x9 x10
    have hx10 : Keeps ⟨H1, false, H3, H4, H5, H6, false, H8, H9, H10, H11, H12, H13, H14, H15⟩ s0 x10 := State.verified_keeps _ hx8
    try clear_value x10
    refine Keeps.iteFst (fun _ => ?_) (fun _ => ?_)
    · refine Keeps.mkFst ?_
      exact hx10
    · refine State.pickConfirmed_keeps ?_
      exact State.raise_keeps _ _ (State.bootDecide_keeps _ hx10)

theorem State.trialStart_keeps (hk : Keeps ⟨H1, H2, H3, H4, H5, H6, H7, H8, H9, H10, H11, H12, false, H14, H15⟩ s0 s) : Keeps ⟨H1, H2, H3, H4, H5, H6, H7, H8, H9, H10, H11, H12, false, H14, H15⟩ s0 (State.trialStart s) := by
  unfold State.trialStart
  extract_lets -merge -underBinder +onlyGivenNames x0
  exact Keeps.mk' hk

theorem State.clampTask_keeps (n : Port) (hk : Keeps H s0 s) : Keeps H s0 (State.clampTask s n) := by
  unfold State.clampTask
  extract_lets -merge -underBinder +onlyGivenNames x0
  exact Keeps.ite (fun _ => hk) (fun _ => Keeps.ite (fun _ => State.lockedWrite_keeps _ hk) (fun _ => State.put_keeps _ _ _ hk))

theorem State.fwEntry_keeps (arg : ℕ) (hk : Keeps ⟨H1, H2, false, H4, false, false, H7, false, H9, H10, false, false, false, H14, H15⟩ s0 s) : Keeps ⟨H1, H2, false, H4, false, false, H7, false, H9, H10, false, false, false, H14, H15⟩ s0 (State.fwEntry s arg) := by
  unfold State.fwEntry
  extract_lets -merge -underBinder +onlyGivenNames x0 x1 x2 x3
  have hx3 : Keeps ⟨H1, H2, false, H4, false, false, H7, false, H9, H10, false, false, false, H14, H15⟩ s0 x3 := hk.iramSet (Sparse.wf_setList _ _ _ _ rfl)
  try clear_value x3
  extract_lets -merge -underBinder +onlyGivenNames x4
  have hx4 : Keeps ⟨H1, H2, false, H4, false, false, H7, false, H9, H10, false, false, false, H14, H15⟩ s0 x4 := State.forEngines_keeps hx3 (fun _ _ h5 => Keeps.ite (fun _ => h5) (fun _ => State.modEng_keeps _ _ h5))
  try clear_value x4
  extract_lets -merge -underBinder +onlyGivenNames x6
  have hx6 : Keeps ⟨H1, H2, false, H4, false, false, H7, false, H9, H10, false, false, false, H14, H15⟩ s0 x6 := State.trialStart_keeps (State.put_keeps _ _ _ (State.stickySet_keeps _ hx4))
  try clear_value x6
  extract_lets -merge -underBinder +onlyGivenNames x7
  have hx7 : Keeps ⟨H1, H2, false, H4, false, false, H7, false, H9, H10, false, false, false, H14, H15⟩ s0 x7 := Keeps.ite (fun _ => State.packLoad_keeps hx6) (fun _ => hx6)
  try clear_value x7
  extract_lets -merge -underBinder +onlyGivenNames x8
  have hx8 : Keeps ⟨H1, H2, false, H4, false, false, H7, false, H9, H10, false, false, false, H14, H15⟩ s0 x8 := State.forPorts_keeps (State.forPorts_keeps (State.putB_keeps _ _ _ hx7) (fun _ _ h9 => State.clampTask_keeps _ h9)) (fun _ _ h10 => State.holdPort_keeps _ _ h10)
  try clear_value x8
  exact State.post_keeps _ _ hx8

theorem State.recoverEnter_keeps (hk : Keeps ⟨H1, H2, H3, H4, H5, false, H7, H8, H9, H10, H11, H12, H13, H14, false⟩ s0 s) : Keeps ⟨H1, H2, H3, H4, H5, false, H7, H8, H9, H10, H11, H12, H13, H14, false⟩ s0 (State.recoverEnter s) := by
  unfold State.recoverEnter
  exact State.forPorts_keeps (State.put_keeps _ _ _ (State.put_keeps _ _ _ (Keeps.mk' hk))) (fun _ _ h0 => State.guardHalt_keeps _ h0)

theorem State.startBank_keeps (k : Option Bool) (arg : ℕ) (hk : Keeps ⟨H1, H2, false, H4, false, false, H7, false, H9, H10, false, false, false, H14, false⟩ s0 s) : Keeps ⟨H1, H2, false, H4, false, false, H7, false, H9, H10, false, false, false, H14, false⟩ s0 (State.startBank s k arg) := by
  unfold State.startBank
  split
  · exact State.recoverEnter_keeps hk
  · extract_lets -merge -underBinder +onlyGivenNames x0
    have hx0 : Keeps ⟨H1, H2, false, H4, false, false, H7, false, H9, H10, false, false, false, H14, false⟩ s0 x0 := State.put_keeps _ _ _ (State.putB_keeps _ _ _ (State.put_keeps _ _ _ hk))
    try clear_value x0
    exact State.fwEntry_keeps _ (State.put_keeps _ _ _ hx0)

theorem State.chooseStart_keeps (arg : ℕ) (hk : Keeps ⟨H1, false, false, H4, false, false, false, false, H9, H10, false, false, false, H14, false⟩ s0 s) : Keeps ⟨H1, false, false, H4, false, false, false, false, H9, H10, false, false, false, H14, false⟩ s0 (State.chooseStart s arg) :=
  State.startBank_keeps _ arg (State.chooseBank_keeps hk)

theorem State.recoverStart_keeps (hk : Keeps ⟨H1, false, false, H4, false, false, false, false, H9, H10, false, false, false, H14, false⟩ s0 s) : Keeps ⟨H1, false, false, H4, false, false, false, false, H9, H10, false, false, false, H14, false⟩ s0 (State.recoverStart s) :=
  Keeps.ite (fun _ => State.startBank_keeps _ 0 (State.chooseBank_keeps hk)) (fun _ => State.chooseBank_keeps hk)

theorem State.resetEnd_keeps (us : BitVec 24) (hk : Keeps H s0 s) : Keeps H s0 (State.resetEnd s us) := by
  unfold State.resetEnd
  extract_lets -merge -underBinder +onlyGivenNames x0
  have hx0 : Keeps H s0 x0 := State.put_keeps _ _ _ (State.raise_keeps _ _ (State.wr_keeps _ _ _ hk))
  try clear_value x0
  exact Keeps.mk' hx0

theorem State.gpioSync_keeps (hk : Keeps H s0 s) : Keeps H s0 (State.gpioSync s) := by
  unfold State.gpioSync
  exact Keeps.mk' hk

theorem State.gpioWatch_keeps (hk : Keeps H s0 s) : Keeps H s0 (State.gpioWatch s) := by
  unfold State.gpioWatch
  extract_lets -merge -underBinder +onlyGivenNames x0
  exact Keeps.ite (fun _ => State.gpioSync_keeps (Keeps.ite (fun _ => hk) (fun _ => State.raiseBits_keeps _ _ hk))) (fun _ => hk)

theorem State.withEdges_keeps {f : State → State} (hk : Keeps H s0 s) (hf : ∀ a0, Keeps H s0 a0 → Keeps H s0 (f a0)) : Keeps H s0 (State.withEdges s f) := by
  unfold State.withEdges
  refine State.gpioWatch_keeps ?_
  refine hf _ ?_
  exact State.gpioWatch_keeps hk

theorem State.coreClear_keeps (hk : Keeps ⟨H1, false, false, H4, false, H6, H7, false, false, H10, false, false, false, false, false⟩ s0 s) : Keeps ⟨H1, false, false, H4, false, H6, H7, false, false, H10, false, false, false, false, false⟩ s0 (State.coreClear s) := by
  unfold State.coreClear
  extract_lets -merge -underBinder +onlyGivenNames x0 x1
  have hx1 : Keeps ⟨H1, false, false, H4, false, H6, H7, false, false, H10, false, false, false, false, false⟩ s0 x1 := State.otpDrop_keeps (State.nvdDrop_keeps (State.flashDrop_keeps hk))
  try clear_value x1
  extract_lets -merge -underBinder +onlyGivenNames x2
  have hx2 : Keeps ⟨H1, false, false, H4, false, H6, H7, false, false, H10, false, false, false, false, false⟩ s0 x2 := State.hgSolo_keeps (State.maskRegs_keeps _ _ hx1)
  try clear_value x2
  extract_lets -merge -underBinder +onlyGivenNames x3 x4
  have hx4 : Keeps ⟨H1, false, false, H4, false, H6, H7, false, false, H10, false, false, false, false, false⟩ s0 x4 := hx2.iramSet rfl
  try clear_value x4
  extract_lets -merge -underBinder +onlyGivenNames x5
  have hx5 : Keeps ⟨H1, false, false, H4, false, H6, H7, false, false, H10, false, false, false, false, false⟩ s0 x5 := State.dropTasks_keeps (State.gpioSync_keeps (State.put_keeps _ _ _ hx4))
  try clear_value x5
  extract_lets -merge -underBinder +onlyGivenNames x6 x7 x8
  have hx8 : Keeps ⟨H1, false, false, H4, false, H6, H7, false, false, H10, false, false, false, false, false⟩ s0 x8 := Keeps.mk' hx5
  try clear_value x8
  extract_lets -merge -underBinder +onlyGivenNames x9
  have hx9 : Keeps ⟨H1, false, false, H4, false, H6, H7, false, false, H10, false, false, false, false, false⟩ s0 x9 := State.forEngines_keeps hx8 (fun _ _ h10 => State.modEng_keeps _ _ h10 (by simp [EngSt.init]))
  try clear_value x9
  extract_lets -merge -underBinder +onlyGivenNames x11
  have hx11 : Keeps ⟨H1, false, false, H4, false, H6, H7, false, false, H10, false, false, false, false, false⟩ s0 x11 := State.forPorts_keeps hx9 (fun _ _ h12 => State.modPort_keeps _ _ h12)
  try clear_value x11
  extract_lets -merge -underBinder +onlyGivenNames x13
  have hx13 : Keeps ⟨H1, false, false, H4, false, H6, H7, false, false, H10, false, false, false, false, false⟩ s0 x13 := State.cmptRestart_keeps (State.sessEnd_keeps (State.shareReset_keeps hx11))
  try clear_value x13
  extract_lets -merge -underBinder +onlyGivenNames x14 x15 x16 x17 x18 x19 x20
  have hx20 : Keeps ⟨H1, false, false, H4, false, H6, H7, false, false, H10, false, false, false, false, false⟩ s0 x20 := Keeps.mk' hx13
  try clear_value x20
  exact State.gaugeRestore_keeps hx20

theorem State.repostPending_keeps (hk : Keeps ⟨H1, H2, H3, H4, false, H6, H7, H8, H9, H10, H11, H12, H13, H14, false⟩ s0 s) : Keeps ⟨H1, H2, H3, H4, false, H6, H7, H8, H9, H10, H11, H12, H13, H14, false⟩ s0 (State.repostPending s) := by
  unfold State.repostPending
  extract_lets -merge -underBinder +onlyGivenNames x0
  have hx0 : Keeps ⟨H1, H2, H3, H4, false, H6, H7, H8, H9, H10, H11, H12, H13, H14, false⟩ s0 x0 := Keeps.ite (fun _ => State.postGlobal_keeps _ _ _ _ _ hk) (fun _ => hk)
  try clear_value x0
  refine State.forPorts_keeps ?_ ?_
  · exact hx0
  · intro s1_0 s1_1 hs1_1
    extract_lets -merge -underBinder +onlyGivenNames x2
    have hx2 : Keeps ⟨H1, H2, H3, H4, false, H6, H7, H8, H9, H10, H11, H12, H13, H14, false⟩ s0 x2 := Keeps.ite (fun _ => State.modCc_keeps _ _ hs1_1) (fun _ => hs1_1)
    try clear_value x2
    exact Keeps.ite (fun _ => State.postKept_keeps _ _ _ _ _ hx2) (fun _ => hx2)

theorem State.modeRestore_keeps (n : Port) (hk : Keeps ⟨H1, H2, H3, H4, false, H6, H7, H8, H9, H10, H11, H12, H13, H14, false⟩ s0 s) : Keeps ⟨H1, H2, H3, H4, false, H6, H7, H8, H9, H10, H11, H12, H13, H14, false⟩ s0 (State.modeRestore s n) := by
  unfold State.modeRestore
  extract_lets -merge -underBinder +onlyGivenNames x0 x1 x2 x3
  exact Keeps.ite (fun _ => hk) (fun _ => Keeps.ite (fun _ => State.hpdWrite_keeps _ _ (State.wr_keeps _ _ _ (State.wr_keeps _ _ _ hk))) (fun _ => State.hardResetStart_keeps _ hk))

theorem State.warmFw_keeps (hk : Keeps ⟨H1, H2, H3, H4, false, H6, H7, H8, H9, H10, H11, H12, H13, H14, false⟩ s0 s) : Keeps ⟨H1, H2, H3, H4, false, H6, H7, H8, H9, H10, H11, H12, H13, H14, false⟩ s0 (State.warmFw s) := by
  unfold State.warmFw
  extract_lets -merge -underBinder +onlyGivenNames x0
  have hx0 : Keeps ⟨H1, H2, H3, H4, false, H6, H7, H8, H9, H10, H11, H12, H13, H14, false⟩ s0 x0 := State.forPorts_keeps hk (fun _ _ h1 => State.modeRestore_keeps _ (State.modPort_keeps _ _ h1))
  try clear_value x0
  exact Keeps.ite (fun _ => State.raiseIf_keeps _ _ _ hx0) (fun _ => hk)

theorem State.warmBoot_keeps (us : BitVec 24) (hk : Keeps ⟨H1, false, false, H4, false, false, false, false, false, H10, false, false, false, false, false⟩ s0 s) : Keeps ⟨H1, false, false, H4, false, false, false, false, false, H10, false, false, false, false, false⟩ s0 (State.warmBoot s us) := by
  unfold State.warmBoot
  extract_lets -merge -underBinder +onlyGivenNames x0 x1 x2
  clear_value x2
  extract_lets -merge -underBinder +onlyGivenNames x3 x4 x5 x6
  have hx6 : Keeps ⟨H1, false, false, H4, false, false, false, false, false, H10, false, false, false, false, false⟩ s0 x6 := State.put_keeps _ _ _ (State.coreClear_keeps hk)
  try clear_value x6
  extract_lets -merge -underBinder +onlyGivenNames x7
  have hx7 : Keeps ⟨H1, false, false, H4, false, false, false, false, false, H10, false, false, false, false, false⟩ s0 x7 := Keeps.ite (fun _ => State.raise_keeps _ _ (State.bootDecide_keeps _ hx6)) (fun _ => hx6)
  try clear_value x7
  extract_lets -merge -underBinder +onlyGivenNames x8 x9 x10
  have hx10 : Keeps ⟨H1, false, false, H4, false, false, false, false, false, H10, false, false, false, false, false⟩ s0 x10 := State.verified_keeps _ hx7
  try clear_value x10
  extract_lets -merge -underBinder +onlyGivenNames x11
  have hx11 : Keeps ⟨H1, false, false, H4, false, false, false, false, false, H10, false, false, false, false, false⟩ s0 x11 := Keeps.ite (fun _ => State.chooseStart_keeps _ hx7) (fun _ => Keeps.ite (fun _ => Keeps.ite (fun _ => State.startBank_keeps _ _ hx10) (fun _ => State.chooseStart_keeps _ hx10)) (fun _ => State.fwEntry_keeps _ (State.put_keeps _ _ _ hx7)))
  try clear_value x11
  extract_lets -merge -underBinder +onlyGivenNames x12
  have hx12 : Keeps ⟨H1, false, false, H4, false, false, false, false, false, H10, false, false, false, false, false⟩ s0 x12 := by
    unfold x12
    split
    · exact hx11
    · extract_lets -merge -underBinder +onlyGivenNames x13
      extract_lets -merge -underBinder +onlyGivenNames x14
      have hx14 : Keeps ⟨H1, false, false, H4, false, false, false, false, false, H10, false, false, false, false, false⟩ s0 x14 := State.put_keeps _ _ _ hx11
      try clear_value x14
      exact Keeps.mk' hx14
  try clear_value x12
  exact State.warmFw_keeps (State.repostPending_keeps (State.resetEnd_keeps _ hx12))

theorem State.wakeCore_keeps (srcs : ℕ) (n : Port) (hk : Keeps ⟨H1, false, false, H4, false, false, H7, false, false, H10, false, false, false, false, false⟩ s0 s) : Keeps ⟨H1, false, false, H4, false, false, H7, false, false, H10, false, false, false, false, false⟩ s0 (State.wakeCore s srcs n) := by
  unfold State.wakeCore
  extract_lets -merge -underBinder +onlyGivenNames x0
  have hx0 : Keeps ⟨H1, false, false, H4, false, false, H7, false, false, H10, false, false, false, false, false⟩ s0 x0 := State.coreClear_keeps hk
  try clear_value x0
  extract_lets -merge -underBinder +onlyGivenNames x1 x2 x3
  have hx3 : Keeps ⟨H1, false, false, H4, false, false, H7, false, false, H10, false, false, false, false, false⟩ s0 x3 := hx0.storeClear
  try clear_value x3
  extract_lets -merge -underBinder +onlyGivenNames x4
  have hx4 : Keeps ⟨H1, false, false, H4, false, false, H7, false, false, H10, false, false, false, false, false⟩ s0 x4 := State.put_keeps _ _ _ (State.wr_keeps _ _ _ hx3)
  try clear_value x4
  extract_lets -merge -underBinder +onlyGivenNames x5
  have hx5 : Keeps ⟨H1, false, false, H4, false, false, H7, false, false, H10, false, false, false, false, false⟩ s0 x5 := State.put_keeps _ _ _ (State.put_keeps _ _ _ hx4)
  try clear_value x5
  exact State.fwEntry_keeps _ (State.put_keeps _ _ _ hx5)

theorem State.modHost_keeps (f : HostSt → HostSt) (hk : Keeps ⟨H1, H2, H3, H4, H5, H6, H7, H8, H9, H10, H11, H12, H13, false, H15⟩ s0 s) : Keeps ⟨H1, H2, H3, H4, H5, H6, H7, H8, H9, H10, H11, H12, H13, false, H15⟩ s0 (State.modHost s f) := by
  unfold State.modHost
  exact Keeps.mk' hk

theorem State.hostLoad_keeps (code : ℕ) (cmd : ℕ) (detail : ℕ) (hk : Keeps ⟨H1, H2, H3, H4, H5, H6, H7, H8, H9, H10, H11, H12, H13, false, H15⟩ s0 s) : Keeps ⟨H1, H2, H3, H4, H5, H6, H7, H8, H9, H10, H11, H12, H13, false, H15⟩ s0 (State.hostLoad s code cmd detail) := by
  unfold State.hostLoad
  extract_lets -merge -underBinder +onlyGivenNames x0
  have hx0 : Keeps ⟨H1, H2, H3, H4, H5, H6, H7, H8, H9, H10, H11, H12, H13, false, H15⟩ s0 x0 := State.put_keeps _ _ _ (State.put_keeps _ _ _ (State.put_keeps _ _ _ hk))
  try clear_value x0
  exact State.modHost_keeps _ hx0

theorem State.hostErr_keeps (code : ℕ) (cmd : ℕ) (hk : Keeps ⟨H1, H2, H3, H4, H5, H6, H7, H8, H9, H10, H11, H12, H13, false, H15⟩ s0 s) : Keeps ⟨H1, H2, H3, H4, H5, H6, H7, H8, H9, H10, H11, H12, H13, false, H15⟩ s0 (State.hostErr s code cmd) := by
  unfold State.hostErr
  extract_lets -merge -underBinder +onlyGivenNames x0
  have hx0 : Keeps ⟨H1, H2, H3, H4, H5, H6, H7, H8, H9, H10, H11, H12, H13, false, H15⟩ s0 x0 := by
    unfold x0
    split
    · exact State.bump_keeps _ _ _ (State.raise_keeps _ _ hk)
    · exact State.bump_keeps _ _ _ (State.raise_keeps _ _ hk)
    · exact State.raise_keeps _ _ hk
    · exact hk
  try clear_value x0
  exact State.hostLoad_keeps _ _ _ hx0

theorem State.hostPost_keeps (op : PostOp) (cmd : ℕ) (hk : Keeps ⟨H1, H2, H3, H4, H5, H6, H7, H8, H9, H10, H11, H12, H13, false, H15⟩ s0 s) : Keeps ⟨H1, H2, H3, H4, H5, H6, H7, H8, H9, H10, H11, H12, H13, false, H15⟩ s0 (State.hostPost s op cmd) := by
  unfold State.hostPost
  exact State.modHost_keeps _ (State.hostLoad_keeps _ _ _ hk)

theorem State.hostPostDone_keeps (code : ℕ) (detail : ℕ) (hk : Keeps ⟨H1, H2, H3, H4, H5, H6, H7, H8, H9, H10, H11, H12, H13, false, H15⟩ s0 s) : Keeps ⟨H1, H2, H3, H4, H5, H6, H7, H8, H9, H10, H11, H12, H13, false, H15⟩ s0 (State.hostPostDone s code detail) := by
  unfold State.hostPostDone
  extract_lets -merge -underBinder +onlyGivenNames x0
  have hx0 : Keeps ⟨H1, H2, H3, H4, H5, H6, H7, H8, H9, H10, H11, H12, H13, false, H15⟩ s0 x0 := Keeps.ite (fun _ => State.put_keeps _ _ _ (State.put_keeps _ _ _ hk)) (fun _ => hk)
  try clear_value x0
  exact State.modHost_keeps _ hx0

theorem State.hostWatch_keeps (hk : Keeps ⟨H1, H2, H3, H4, H5, H6, H7, H8, H9, H10, H11, H12, H13, false, H15⟩ s0 s) : Keeps ⟨H1, H2, H3, H4, H5, H6, H7, H8, H9, H10, H11, H12, H13, false, H15⟩ s0 (State.hostWatch s) := by
  unfold State.hostWatch
  extract_lets -merge -underBinder +onlyGivenNames x0 x1 x2
  have hx2 : Keeps ⟨H1, H2, H3, H4, H5, H6, H7, H8, H9, H10, H11, H12, H13, false, H15⟩ s0 x2 := State.modHost_keeps _ hk
  try clear_value x2
  exact Keeps.ite (fun _ => State.put_keeps _ _ _ hx2) (fun _ => hx2)

theorem State.notifyOver_keeps (hk : Keeps ⟨H1, H2, H3, H4, H5, H6, H7, H8, H9, H10, H11, H12, H13, false, H15⟩ s0 s) : Keeps ⟨H1, H2, H3, H4, H5, H6, H7, H8, H9, H10, H11, H12, H13, false, H15⟩ s0 (State.notifyOver s) := by
  unfold State.notifyOver
  exact State.modHost_keeps _ (State.put_keeps _ _ _ hk)

theorem State.notifyBegin_keeps (hk : Keeps ⟨H1, H2, H3, H4, H5, H6, H7, H8, H9, H10, H11, H12, H13, false, H15⟩ s0 s) : Keeps ⟨H1, H2, H3, H4, H5, H6, H7, H8, H9, H10, H11, H12, H13, false, H15⟩ s0 (State.notifyBegin s) := by
  unfold State.notifyBegin
  extract_lets -merge -underBinder +onlyGivenNames x0 x1 x2
  exact State.modHost_keeps _ (State.put_keeps _ _ _ (State.put_keeps _ _ _ hk))

theorem State.notifyFail_keeps (hk : Keeps ⟨H1, H2, H3, H4, H5, H6, H7, H8, H9, H10, H11, H12, H13, false, H15⟩ s0 s) : Keeps ⟨H1, H2, H3, H4, H5, H6, H7, H8, H9, H10, H11, H12, H13, false, H15⟩ s0 (State.notifyFail s) := by
  unfold State.notifyFail
  extract_lets -merge -underBinder +onlyGivenNames x0
  have hx0 : Keeps ⟨H1, H2, H3, H4, H5, H6, H7, H8, H9, H10, H11, H12, H13, false, H15⟩ s0 x0 := State.put_keeps _ _ _ (State.bump_keeps _ _ _ hk)
  try clear_value x0
  extract_lets -merge -underBinder +onlyGivenNames x1
  have hx1 : Keeps ⟨H1, H2, H3, H4, H5, H6, H7, H8, H9, H10, H11, H12, H13, false, H15⟩ s0 x1 := State.modHost_keeps _ hx0
  try clear_value x1
  exact Keeps.ite (fun _ => hx1) (fun _ => State.notifyOver_keeps (State.put_keeps _ _ _ (State.raise_keeps _ _ hx1)))

theorem State.notifyResult_keeps (done : Option Bool) (hk : Keeps ⟨H1, H2, H3, H4, H5, H6, H7, H8, H9, H10, H11, H12, H13, false, H15⟩ s0 s) : Keeps ⟨H1, H2, H3, H4, H5, H6, H7, H8, H9, H10, H11, H12, H13, false, H15⟩ s0 (State.notifyResult s done) := by
  unfold State.notifyResult
  split
  · exact hk
  · exact State.notifyOver_keeps (State.raise_keeps _ _ hk)
  · exact State.notifyFail_keeps hk

theorem State.notifyFresh_keeps (hk : Keeps ⟨H1, H2, H3, H4, H5, H6, H7, H8, H9, H10, H11, H12, H13, false, H15⟩ s0 s) : Keeps ⟨H1, H2, H3, H4, H5, H6, H7, H8, H9, H10, H11, H12, H13, false, H15⟩ s0 (State.notifyFresh s) := by
  unfold State.notifyFresh
  exact State.notifyBegin_keeps (State.put_keeps _ _ _ hk)

theorem State.notifyNow_keeps (hk : Keeps ⟨H1, H2, H3, H4, H5, H6, H7, H8, H9, H10, H11, H12, H13, false, H15⟩ s0 s) : Keeps ⟨H1, H2, H3, H4, H5, H6, H7, H8, H9, H10, H11, H12, H13, false, H15⟩ s0 (State.notifyNow s) := by
  unfold State.notifyNow
  exact Keeps.ite (fun _ => State.notifyFresh_keeps hk) (fun _ => hk)

theorem State.hostClear_keeps (hk : Keeps H s0 s) : Keeps H s0 (State.hostClear s) := by
  unfold State.hostClear
  exact State.wr_keeps _ _ _ (State.wr_keeps _ _ _ hk)

theorem State.modeEnd_keeps (r : ℕ) (hk : Keeps H s0 s) : Keeps H s0 (State.modeEnd s r) := by
  unfold State.modeEnd
  exact State.raise_keeps _ _ (State.put_keeps _ _ _ hk)

theorem State.modeReq_keeps (m : ℕ) (hk : Keeps H s0 s) : Keeps H s0 (State.modeReq s m) := by
  unfold State.modeReq
  extract_lets -merge -underBinder +onlyGivenNames x0 x1 x2
  have hx2 : Keeps H s0 x2 := State.put_keeps _ _ _ hk
  try clear_value x2
  exact Keeps.ite (fun _ => State.modeEnd_keeps _ hk) (fun _ => Keeps.ite (fun _ => State.modeEnd_keeps _ hk) (fun _ => Keeps.ite (fun _ => State.modeEnd_keeps _ (State.put_keeps _ _ _ (Keeps.mk' hk))) (fun _ => Keeps.ite (fun _ => State.modeEnd_keeps _ hk) (fun _ => Keeps.ite (fun _ => State.modeEnd_keeps _ hk) (fun _ => Keeps.ite (fun _ => State.modeEnd_keeps _ hk) (fun _ => Keeps.ite (fun _ => State.modeEnd_keeps _ hk) (fun _ => Keeps.ite (fun _ => State.modeEnd_keeps _ hk) (fun _ => Keeps.mk' hx2))))))))

theorem State.entryWake_keeps (hk : Keeps H s0 s) : Keeps H s0 (State.entryWake s) := by
  unfold State.entryWake
  split
  · exact hk
  · extract_lets -merge -underBinder +onlyGivenNames x0
    have hx0 : Keeps H s0 x0 := State.modeEnd_keeps _ hk
    try clear_value x0
    exact Keeps.mk' hx0

theorem State.aosAccess_keeps (v : Option Word) (hk : Keeps ⟨H1, H2, H3, false, H5, H6, H7, H8, H9, H10, H11, H12, H13, H14, H15⟩ s0 s) : Keeps ⟨H1, H2, H3, false, H5, H6, H7, H8, H9, H10, H11, H12, H13, H14, H15⟩ s0 (State.aosAccess s v).1 := by
  unfold State.aosAccess
  extract_lets -merge -underBinder +onlyGivenNames x0 x1 x2
  have hx2 : Keeps ⟨H1, H2, H3, false, H5, H6, H7, H8, H9, H10, H11, H12, H13, H14, H15⟩ s0 x2 := by
    unfold x2
    split
    · exact hk
    · exact Keeps.ite (fun _ => State.lockedWrite_keeps _ hk) (fun _ => State.aosPut_keeps _ _ _ hk)
  try clear_value x2
  refine Keeps.mkFst ?_
  exact State.incr_keeps _ _ hx2

theorem State.dbgChallenge_keeps (v : BitVec 64) (hk : Keeps H s0 s) : Keeps H s0 (State.dbgChallenge s v) := by
  unfold State.dbgChallenge
  extract_lets -merge -underBinder +onlyGivenNames x0 x1
  have hx1 : Keeps H s0 x1 := Keeps.mk' hk
  try clear_value x1
  exact State.put_keeps _ _ _ (State.put_keeps _ _ _ hx1)

theorem State.dbgSubmit_keeps (hk : Keeps H s0 s) : Keeps H s0 (State.dbgSubmit s) := by
  unfold State.dbgSubmit
  extract_lets -merge -underBinder +onlyGivenNames x0 x1
  have hx1 : Keeps H s0 x1 := Keeps.mk' hk
  try clear_value x1
  exact Keeps.ite (fun _ => hk) (fun _ => State.put_keeps _ _ _ (State.put_keeps _ _ _ (State.put_keeps _ _ _ hx1)))

theorem State.gpioOut_keeps (set : ℕ) (clr : ℕ) (hk : Keeps H s0 s) : Keeps H s0 (State.gpioOut s set clr) := by
  unfold State.gpioOut
  refine State.withEdges_keeps ?_ ?_
  · exact hk
  · intro s0_0 hs0_1
    extract_lets -merge -underBinder +onlyGivenNames x1
    exact State.put_keeps _ _ _ hs0_1

theorem State.pinCfg_keeps (i : Fin 8) (v : Word) (hk : Keeps H s0 s) : Keeps H s0 (State.pinCfg s i v) := by
  unfold State.pinCfg
  exact Keeps.ite (fun _ => State.lockedWrite_keeps _ hk) (fun _ => State.withEdges_keeps hk (fun _ h0 => State.put_keeps _ _ _ (State.wr_keeps _ _ _ h0)))

theorem State.freezeOn_keeps (pg : ℕ) (hk : Keeps H s0 s) : Keeps H s0 (State.freezeOn s pg) := by
  unfold State.freezeOn
  split
  · exact hk
  · extract_lets -merge -underBinder +onlyGivenNames x0
    unfold x0
    exact State.put_keeps _ _ _ (hk.snapsSet _ _ _)

theorem State.freezeOff_keeps (pg : ℕ) (hk : Keeps H s0 s) : Keeps H s0 (State.freezeOff s pg) := by
  unfold State.freezeOff
  exact State.put_keeps _ _ _ (hk.snapsFilter _)

theorem State.regRead_keeps (rq : Req) (pg : ℕ) (off : ℕ) (hk : Keeps ⟨H1, H2, H3, false, H5, H6, H7, H8, H9, H10, H11, H12, H13, H14, false⟩ s0 s) : Keeps ⟨H1, H2, H3, false, H5, H6, H7, H8, H9, H10, H11, H12, H13, H14, false⟩ s0 (State.regRead s rq pg off).1 := by
  unfold State.regRead
  extract_lets -merge -underBinder +onlyGivenNames x0
  split
  · refine Keeps.mkFst ?_
    exact hk
  · extract_lets -merge -underBinder +onlyGivenNames x1
    extract_lets -merge -underBinder +onlyGivenNames x2 x3 x4
    have hx4 : Keeps ⟨H1, H2, H3, false, H5, H6, H7, H8, H9, H10, H11, H12, H13, H14, false⟩ s0 x4 := Keeps.ite (fun _ => Keeps.mk' hk) (fun _ => hk)
    try clear_value x4
    extract_lets -merge -underBinder +onlyGivenNames x5 x6
    have hx6 : Keeps ⟨H1, H2, H3, false, H5, H6, H7, H8, H9, H10, H11, H12, H13, H14, false⟩ s0 x6 := State.wr_keeps _ _ _ hx4
    try clear_value x6
    extract_lets -merge -underBinder +onlyGivenNames x7
    have hx7 : Keeps ⟨H1, H2, H3, false, H5, H6, H7, H8, H9, H10, H11, H12, H13, H14, false⟩ s0 x7 := Keeps.ite (fun _ => hx4) (fun _ => Keeps.ite (fun _ => State.modPort_keeps _ _ hx6) (fun _ => hx6))
    try clear_value x7
    refine Keeps.iteFst (fun _ => ?_) (fun _ => ?_)
    · refine Keeps.mkFst ?_
      exact hk
    · refine Keeps.iteFst (fun _ => ?_) (fun _ => ?_)
      · refine Keeps.mkFst ?_
        exact hk
      · refine Keeps.iteFst (fun _ => ?_) (fun _ => ?_)
        · refine Keeps.mkFst ?_
          exact hk
        · refine Keeps.iteFst (fun _ => ?_) (fun _ => ?_)
          · refine Keeps.mkFst ?_
            exact hk
          · refine Keeps.iteFst (fun _ => ?_) (fun _ => ?_)
            · refine Keeps.mkFst ?_
              refine State.aosAccess_keeps _ ?_
              exact hx7
            · refine Keeps.iteFst (fun _ => ?_) (fun _ => ?_)
              · refine Keeps.mkFst ?_
                exact State.incr_keeps _ _ hx7
              · refine Keeps.mkFst ?_
                exact hx7

theorem State.plainWrite_keeps (pg : ℕ) (x : RegRow) (v : Word) (hk : Keeps H s0 s) : Keeps H s0 (State.plainWrite s pg x v) := by
  unfold State.plainWrite
  extract_lets -merge -underBinder +onlyGivenNames x0 x1 x2 x3 x4 x5
  have hx5 : Keeps H s0 x5 := State.wr_keeps _ _ _ hk
  try clear_value x5
  exact Keeps.ite (fun _ => State.lockedWrite_keeps _ hx5) (fun _ => hx5)

theorem State.evtClear_keeps (pg : ℕ) (v : Word) (hw : Word) (hk : Keeps H s0 s) : Keeps H s0 (State.evtClear s pg v hw) := by
  unfold State.evtClear
  split
  · exact hk
  · extract_lets -merge -underBinder +onlyGivenNames x0
    extract_lets -merge -underBinder +onlyGivenNames x1
    have hx1 : Keeps H s0 x1 := Keeps.ite (fun _ => hk) (fun _ => State.raiseBits_keeps _ _ hk)
    try clear_value x1
    exact State.wr_keeps _ _ _ hx1

theorem State.evtSet_keeps (pg : ℕ) (v : Word) (hk : Keeps H s0 s) : Keeps H s0 (State.evtSet s pg v) := by
  unfold State.evtSet
  split
  · exact hk
  · exact State.wr_keeps _ _ _ hk

theorem State.lockWrite_keeps (pg : ℕ) (v : Word) (hk : Keeps H s0 s) : Keeps H s0 (State.lockWrite s pg v) := by
  unfold State.lockWrite
  exact Keeps.ite (fun _ => Keeps.ite (fun _ => State.lockedWrite_keeps _ hk) (fun _ => State.put_keeps _ _ _ hk)) (fun _ => hk)

theorem State.ctrlWrite_keeps (r : PageRow) (pg : ℕ) (v : Word) (hk : Keeps ⟨H1, false, H3, false, false, H6, H7, false, false, H10, false, false, false, false, false⟩ s0 s) : Keeps ⟨H1, false, H3, false, false, H6, H7, false, false, H10, false, false, false, false, false⟩ s0 (State.ctrlWrite s r pg v) := by
  unfold State.ctrlWrite
  extract_lets -merge -underBinder +onlyGivenNames x0 x1 x2
  have hx2 : Keeps ⟨H1, false, H3, false, false, H6, H7, false, false, H10, false, false, false, false, false⟩ s0 x2 := Keeps.ite (fun _ => hk) (fun _ => Keeps.ite (fun _ => State.pdlEnable_keeps _ _ hk) (fun _ => Keeps.ite (fun _ => State.gpioSync_keeps (State.putB_keeps _ _ _ (State.gpioWatch_keeps hk))) (fun _ => State.putB_keeps _ _ _ hk)))
  try clear_value x2
  extract_lets -merge -underBinder +onlyGivenNames x3
  have hx3 : Keeps ⟨H1, false, H3, false, false, H6, H7, false, false, H10, false, false, false, false, false⟩ s0 x3 := Keeps.ite (fun _ => State.freezeOn_keeps _ hx2) (fun _ => State.freezeOff_keeps _ hx2)
  try clear_value x3
  exact Keeps.ite (fun _ => State.blockReset_keeps _ hx3) (fun _ => hx3)

theorem State.onBit_keeps (v : Word) (i : ℕ) {f : State → State} (hk : Keeps H s0 s) (hf : ∀ a0, Keeps H s0 a0 → Keeps H s0 (f a0)) : Keeps H s0 (State.onBit s v i f) := by
  unfold State.onBit
  refine Keeps.ite (fun _ => ?_) (fun _ => ?_)
  · refine hf _ ?_
    exact hk
  · exact hk

theorem State.flashCmd_keeps (rq : Req) (v : Word) (hk : Keeps H s0 s) : Keeps H s0 (State.flashCmd s rq v) := by
  unfold State.flashCmd
  extract_lets -merge -underBinder +onlyGivenNames x0 x1
  refine Keeps.ite (fun _ => ?_) (fun _ => ?_)
  · exact State.lockedWrite_keeps _ hk
  · refine State.keyed_keeps _ _ _ ?_ ?_
    · exact hk
    · intro s2_0 hs2_1
      split
      · exact State.flashStart_keeps _ hs2_1
      · exact State.flashStart_keeps _ hs2_1
      · exact hs2_1

theorem State.updCmd_keeps (v : Word) (hk : Keeps ⟨H1, false, H3, H4, false, false, false, H8, H9, H10, H11, H12, false, H14, H15⟩ s0 s) : Keeps ⟨H1, false, H3, H4, false, false, false, H8, H9, H10, H11, H12, false, H14, H15⟩ s0 (State.updCmd s v) := by
  unfold State.updCmd
  refine State.keyed_keeps _ _ _ ?_ ?_
  · exact hk
  · intro s0_0 hs0_1
    extract_lets -merge -underBinder +onlyGivenNames x1
    have hx1 : Keeps ⟨H1, false, H3, H4, false, false, false, H8, H9, H10, H11, H12, false, H14, H15⟩ s0 x1 := State.updPost_keeps hs0_1
    try clear_value x1
    extract_lets -merge -underBinder +onlyGivenNames x2
    have hx2 : Keeps ⟨H1, false, H3, H4, false, false, false, H8, H9, H10, H11, H12, false, H14, H15⟩ s0 x2 := State.onBit_keeps _ _ hx1 (fun _ h3 => State.updResult_keeps _ (State.sessEnd_keeps h3))
    try clear_value x2
    extract_lets -merge -underBinder +onlyGivenNames x4
    have hx4 : Keeps ⟨H1, false, H3, H4, false, false, false, H8, H9, H10, H11, H12, false, H14, H15⟩ s0 x4 := State.onBit_keeps _ _ hx2 (fun _ h5 => State.updActivate_keeps h5)
    try clear_value x4
    extract_lets -merge -underBinder +onlyGivenNames x6
    have hx6 : Keeps ⟨H1, false, H3, H4, false, false, false, H8, H9, H10, H11, H12, false, H14, H15⟩ s0 x6 := State.onBit_keeps _ _ hx4 (fun _ h7 => State.updConfirm_keeps _ h7)
    try clear_value x6
    extract_lets -merge -underBinder +onlyGivenNames x8
    have hx8 : Keeps ⟨H1, false, H3, H4, false, false, false, H8, H9, H10, H11, H12, false, H14, H15⟩ s0 x8 := State.onBit_keeps _ _ hx6 (fun _ h9 => State.updDistribute_keeps h9)
    try clear_value x8
    extract_lets -merge -underBinder +onlyGivenNames x10
    have hx10 : Keeps ⟨H1, false, H3, H4, false, false, false, H8, H9, H10, H11, H12, false, H14, H15⟩ s0 x10 := State.onBit_keeps _ _ hx8 (fun _ h11 => State.updOwnerLock_keeps h11)
    try clear_value x10
    extract_lets -merge -underBinder +onlyGivenNames x12
    have hx12 : Keeps ⟨H1, false, H3, H4, false, false, false, H8, H9, H10, H11, H12, false, H14, H15⟩ s0 x12 := State.onBit_keeps _ _ hx10 (fun _ h13 => State.freshen_keeps (State.freshen_keeps (State.updChallenge_keeps _ h13)))
    try clear_value x12
    exact State.onBit_keeps _ _ hx12 (fun _ h14 => State.updUnlock_keeps h14)

theorem State.dbgReq_keeps (v : Word) (hk : Keeps H s0 s) : Keeps H s0 (State.dbgReq s v) := by
  unfold State.dbgReq
  refine State.keyed_keeps _ _ _ ?_ ?_
  · exact hk
  · intro s0_0 hs0_1
    extract_lets -merge -underBinder +onlyGivenNames x1
    have hx1 : Keeps H s0 x1 := State.onBit_keeps _ _ hs0_1 (fun _ h2 => State.freshen_keeps (State.freshen_keeps (State.dbgChallenge_keeps _ h2)))
    try clear_value x1
    exact State.onBit_keeps _ _ hx1 (fun _ h3 => State.dbgSubmit_keeps h3)

theorem State.nvdCmd_keeps (op : ℕ) (area : ℕ) (format : ℕ) (hk : Keeps H s0 s) : Keeps H s0 (State.nvdCmd s op area format) := by
  unfold State.nvdCmd
  split
  · exact State.nvdStart_keeps _ hk
  · exact State.nvdStart_keeps _ hk
  · exact State.nvdStart_keeps _ hk
  · exact hk

theorem State.rstReq_keeps (hk : Keeps ⟨H1, H2, H3, H4, H5, false, H7, H8, H9, H10, H11, H12, H13, H14, H15⟩ s0 s) : Keeps ⟨H1, H2, H3, H4, H5, false, H7, H8, H9, H10, H11, H12, H13, H14, H15⟩ s0 (State.rstReq s) := by
  unfold State.rstReq
  exact State.warmCause_keeps _ hk

theorem State.portRst_keeps (ports : ℕ) (hk : Keeps ⟨H1, H2, H3, false, false, H6, H7, H8, H9, H10, H11, false, H13, H14, false⟩ s0 s) : Keeps ⟨H1, H2, H3, false, false, H6, H7, H8, H9, H10, H11, false, H13, H14, false⟩ s0 (State.portRst s ports) := by
  unfold State.portRst
  exact State.forPorts_keeps hk (fun _ _ h0 => Keeps.ite (fun _ => State.portResetAsk_keeps _ _ h0) (fun _ => h0))

theorem State.plcrPost_keeps (slot : ℕ) (hk : Keeps H s0 s) : Keeps H s0 (State.plcrPost s slot) := by
  unfold State.plcrPost
  exact Keeps.ite (fun _ => State.lockedWrite_keeps _ hk) (fun _ => Keeps.mk' hk)

theorem State.mainsSync_keeps (hk : Keeps H s0 s) : Keeps H s0 (State.mainsSync s) := by
  unfold State.mainsSync
  extract_lets -merge -underBinder +onlyGivenNames x0
  have hx0 : Keeps H s0 x0 := State.put_keeps _ _ _ hk
  try clear_value x0
  exact Keeps.ite (fun _ => hx0) (fun _ => State.put_keeps _ _ _ hx0)

theorem State.portKey_keeps (pg : ℕ) (v : Word) (want : ℕ) {f : State → State} (hk : Keeps H s0 s) (hf : ∀ a0, Keeps H s0 a0 → Keeps H s0 (f a0)) : KeepsO H s0 (State.portKey s pg v want f) := by
  unfold State.portKey
  refine KeepsO.some ?_
  refine State.keyed_keeps _ _ _ ?_ ?_
  · exact hk
  · intro s0_0 hs0_1
    refine hf _ ?_
    exact hs0_1

theorem State.portCmd_keeps (kind : PageKind) (n : Port) (off : ℕ) (v : Word) (hk : Keeps ⟨H1, H2, H3, false, false, H6, H7, H8, H9, H10, H11, false, H13, H14, false⟩ s0 s) : KeepsO ⟨H1, H2, H3, false, false, H6, H7, H8, H9, H10, H11, false, H13, H14, false⟩ s0 (State.portCmd s kind n off v) := by
  unfold State.portCmd
  split
  · refine KeepsO.ite (fun _ => ?_) (fun _ => ?_)
    · refine State.portKey_keeps _ _ _ ?_ ?_
      · exact hk
      · intro s0_0 hs0_1
        extract_lets -merge -underBinder +onlyGivenNames x1
        have hx1 : Keeps ⟨H1, H2, H3, false, false, H6, H7, H8, H9, H10, H11, false, H13, H14, false⟩ s0 x1 := State.onBit_keeps _ _ hs0_1 (fun _ h2 => State.modCc_keeps _ _ h2)
        try clear_value x1
        exact Keeps.ite (fun _ => State.vconnOff_keeps _ hx1) (fun _ => State.onBit_keeps _ _ hx1 (fun _ h3 => State.vconnOnCmd_keeps _ h3))
    · exact KeepsO.none
  · split
    · refine KeepsO.some ?_
      exact State.txReq_keeps _ _ hk
    · refine KeepsO.some ?_
      exact State.xbufRel_keeps _ _ hk
    · refine State.portKey_keeps _ _ _ ?_ ?_
      · exact hk
      · intro s4_0 hs4_1
        extract_lets -merge -underBinder +onlyGivenNames x5
        have hx5 : Keeps ⟨H1, H2, H3, false, false, H6, H7, H8, H9, H10, H11, false, H13, H14, false⟩ s0 x5 := State.onBit_keeps _ _ (State.onBit_keeps _ _ hs4_1 (fun _ h6 => State.cableReset_keeps _ h6)) (fun _ h7 => State.amsEnd_keeps _ h7)
        try clear_value x5
        extract_lets -merge -underBinder +onlyGivenNames x8
        have hx8 : Keeps ⟨H1, H2, H3, false, false, H6, H7, H8, H9, H10, H11, false, H13, H14, false⟩ s0 x8 := State.onBit_keeps _ _ (State.onBit_keeps _ _ hx5 (fun _ h9 => State.put_keeps _ _ _ h9)) (fun _ h10 => State.txCancel_keeps _ h10)
        try clear_value x8
        exact Keeps.ite (fun _ => State.hardResetStart_keeps _ hs4_1) (fun _ => State.onBit_keeps _ _ hx8 (fun _ h11 => State.pdlClearStats_keeps _ h11))
    · refine KeepsO.some ?_
      exact State.msgidLoad_keeps _ _ hk
    · exact KeepsO.none
  · refine KeepsO.ite (fun _ => ?_) (fun _ => ?_)
    · refine State.portKey_keeps _ _ _ ?_ ?_
      · exact hk
      · intro s12_0 hs12_1
        extract_lets -merge -underBinder +onlyGivenNames x13
        have hx13 : Keeps ⟨H1, H2, H3, false, false, H6, H7, H8, H9, H10, H11, false, H13, H14, false⟩ s0 x13 := Keeps.ite (fun _ => State.snkOpen_keeps _ hs12_1) (fun _ => State.onBit_keeps _ _ hs12_1 (fun _ h14 => State.snkClose_keeps _ h14))
        try clear_value x13
        exact State.onBit_keeps _ _ (State.onBit_keeps _ _ hx13 (fun _ h15 => State.unretireCmd_keeps _ h15)) (fun _ h16 => State.retire_keeps _ _ h16)
    · exact KeepsO.none
  · split
    · refine KeepsO.some ?_
      exact State.onBit_keeps _ _ hk (fun _ h17 => State.polQueue_keeps _ _ h17)
    · refine KeepsO.some ?_
      exact Keeps.ite (fun _ => State.polQueue_keeps _ _ hk) (fun _ => State.onBit_keeps _ _ hk (fun _ h18 => State.polQueue_keeps _ _ h18))
    · refine KeepsO.some ?_
      exact State.onBit_keeps _ _ hk (fun _ h19 => State.polQueue_keeps _ _ h19)
    · exact KeepsO.none
  · split
    · refine State.portKey_keeps _ _ _ ?_ ?_
      · exact hk
      · intro s20_0 hs20_1
        extract_lets -merge -underBinder +onlyGivenNames x21
        have hx21 : Keeps ⟨H1, H2, H3, false, false, H6, H7, H8, H9, H10, H11, false, H13, H14, false⟩ s0 x21 := State.onBit_keeps _ _ (State.onBit_keeps _ _ hs20_1 (fun _ h22 => State.policy_keeps h22 (fun _ h23 => State.vdmRediscover_keeps _ h23))) (fun _ h24 => State.policy_keeps h24 (fun _ h25 => State.vdmEnter_keeps _ h25))
        try clear_value x21
        exact State.onBit_keeps _ _ hx21 (fun _ h26 => State.policy_keeps h26 (fun _ h27 => State.vdmExit_keeps _ h27))
    · refine KeepsO.some ?_
      exact State.hpdWrite_keeps _ _ hk
    · refine KeepsO.some ?_
      exact State.onBit_keeps _ _ hk (fun _ h28 => State.freshen_keeps (State.hpdIrq_keeps _ _ h28))
    · refine KeepsO.ite (fun _ => ?_) (fun _ => ?_)
      · refine KeepsO.some ?_
        exact State.hostTxWrite_keeps _ _ _ hk
      · exact KeepsO.none
    · exact KeepsO.none
  · exact KeepsO.none

theorem State.fleetCmd_keeps (kind : PageKind) (i : ℕ) (off : ℕ) (v : Word) (hk : Keeps ⟨H1, H2, H3, false, false, H6, H7, H8, false, H10, H11, false, H13, H14, false⟩ s0 s) : KeepsO ⟨H1, H2, H3, false, false, H6, H7, H8, false, H10, H11, false, H13, H14, false⟩ s0 (State.fleetCmd s kind i off v) := by
  unfold State.fleetCmd
  extract_lets -merge -underBinder +onlyGivenNames x0
  split
  · refine KeepsO.ite (fun _ => ?_) (fun _ => ?_)
    · refine KeepsO.some ?_
      exact State.keyed_keeps _ _ _ hk (fun _ h1 => State.onBit_keeps _ _ (State.onBit_keeps _ _ (State.onBit_keeps _ _ h1 (fun _ h2 => State.hgRetire_keeps _ h2)) (fun _ h3 => State.probeLink_keeps _ h3)) (fun _ h4 => State.hgClear_keeps _ h4))
    · exact KeepsO.none
  · split
    · refine KeepsO.some ?_
      exact State.keyed_keeps _ _ _ hk (fun _ h5 => State.onBit_keeps _ _ (State.onBit_keeps _ _ (State.onBit_keeps _ _ h5 (fun _ h6 => State.enumerateCmd_keeps h6)) (fun _ h7 => State.tkoCmd_keeps h7)) (fun _ h8 => State.handbackCmd_keeps h8))
    · refine KeepsO.some ?_
      exact State.txfReq_keeps _ hk
    · exact KeepsO.none
  · split
    · refine KeepsO.some ?_
      exact State.poolLoad_keeps (State.put_keeps _ _ _ hk)
    · refine KeepsO.some ?_
      exact State.portLoad_keeps (State.put_keeps _ _ _ (State.put_keeps _ _ _ hk))
    · refine KeepsO.some ?_
      exact State.keyed_keeps _ _ _ hk (fun _ h9 => State.onBit_keeps _ _ (State.onBit_keeps _ _ h9 (fun _ h10 => State.placeRun_keeps h10)) (fun _ h11 => State.floorDone_keeps h11))
    · refine KeepsO.ite (fun _ => ?_) (fun _ => ?_)
      · refine KeepsO.some ?_
        exact State.windowWrite_keeps _ _ hk
      · exact KeepsO.none
  · split
    · refine KeepsO.some ?_
      exact State.keyed_keeps _ _ _ hk (fun _ h12 => State.twinCmd_keeps _ h12)
    · refine KeepsO.some ?_
      exact State.mirShow_keeps _ hk
    · refine KeepsO.some ?_
      exact State.mirWrite_keeps _ hk
    · exact KeepsO.none
  · refine KeepsO.ite (fun _ => ?_) (fun _ => ?_)
    · refine KeepsO.some ?_
      exact State.keyed_keeps _ _ _ hk (fun _ h13 => State.engyClearCmd_keeps _ h13)
    · exact KeepsO.none
  · exact KeepsO.none

theorem State.pageCmd_keeps (rq : Req) (kind : PageKind) (i : ℕ) (off : ℕ) (v : Word) (hk : Keeps ⟨H1, false, H3, false, false, false, false, false, H9, H10, false, false, false, false, false⟩ s0 s) : KeepsO ⟨H1, false, H3, false, false, false, false, false, H9, H10, false, false, false, false, false⟩ s0 (State.pageCmd s rq kind i off v) := by
  unfold State.pageCmd
  extract_lets -merge -underBinder +onlyGivenNames x0
  split
  · split
    · refine KeepsO.some ?_
      exact State.keyed_keeps _ _ _ hk (fun _ h1 => State.onBit_keeps _ _ h1 (fun _ h2 => State.rstReq_keeps h2))
    · refine KeepsO.some ?_
      exact State.keyed_keeps _ _ _ hk (fun _ h3 => State.portRst_keeps _ h3)
    · exact KeepsO.none
  · split
    · refine KeepsO.some ?_
      exact State.keyed_keeps _ _ _ hk (fun _ h4 => State.modeReq_keeps _ h4)
    · refine KeepsO.some ?_
      refine State.aosAccess_keeps _ ?_
      exact hk
    · exact KeepsO.none
  · split
    · refine KeepsO.some ?_
      exact State.gpioOut_keeps _ _ hk
    · refine KeepsO.some ?_
      exact State.gpioOut_keeps _ _ hk
    · refine KeepsO.ite (fun _ => ?_) (fun _ => ?_)
      · refine KeepsO.some ?_
        exact State.pinCfg_keeps _ _ hk
      · exact KeepsO.none
  · refine KeepsO.ite (fun _ => ?_) (fun _ => ?_)
    · refine KeepsO.some ?_
      exact State.keyed_keeps _ _ _ hk (fun _ h5 => State.onBit_keeps _ _ (State.onBit_keeps _ _ h5 (fun _ h6 => State.shareRelease_keeps _ h6)) (fun _ h7 => State.trimClearCmd_keeps h7))
    · exact KeepsO.none
  · refine KeepsO.ite (fun _ => ?_) (fun _ => ?_)
    · refine KeepsO.some ?_
      exact State.keyed_keeps _ _ _ hk (fun _ h8 => State.onBit_keeps _ _ (State.onBit_keeps _ _ h8 (fun _ h9 => State.learnAbort_keeps h9)) (fun _ h10 => State.learnForget_keeps h10))
    · exact KeepsO.none
  · refine KeepsO.ite (fun _ => ?_) (fun _ => ?_)
    · refine KeepsO.some ?_
      exact State.keyed_keeps _ _ _ hk (fun _ h11 => State.onBit_keeps _ _ h11 (fun _ h12 => State.clearSwap_keeps h12))
    · exact KeepsO.none
  · refine KeepsO.ite (fun _ => ?_) (fun _ => ?_)
    · refine KeepsO.some ?_
      exact State.keyed_keeps _ _ _ hk (fun _ h13 => State.retest_keeps _ h13)
    · exact KeepsO.none
  · refine KeepsO.ite (fun _ => ?_) (fun _ => ?_)
    · refine KeepsO.some ?_
      exact State.keyed_keeps _ _ _ hk (fun _ h14 => State.onBit_keeps _ _ (State.onBit_keeps _ _ h14 (fun _ h15 => State.hostClear_keeps h15)) (fun _ h16 => State.notifyNow_keeps h16))
    · exact KeepsO.none
  · refine KeepsO.ite (fun _ => ?_) (fun _ => ?_)
    · refine KeepsO.some ?_
      exact State.keyed_keeps _ _ _ hk (fun _ h17 => State.onBit_keeps _ _ (State.onBit_keeps _ _ h17 (fun _ h18 => State.muxGo_keeps h18)) (fun _ h19 => State.freshen_keeps (State.muxAbort_keeps _ h19)))
    · exact KeepsO.none
  · refine KeepsO.ite (fun _ => ?_) (fun _ => ?_)
    · refine KeepsO.some ?_
      exact State.plcrPost_keeps _ hk
    · exact KeepsO.none
  · refine KeepsO.ite (fun _ => ?_) (fun _ => ?_)
    · refine KeepsO.some ?_
      exact State.keyed_keeps _ _ _ hk (fun _ h20 => State.onBit_keeps _ _ h20 (fun _ h21 => State.retireEngine_keeps _ h21))
    · exact KeepsO.none
  · refine KeepsO.ite (fun _ => ?_) (fun _ => ?_)
    · refine KeepsO.some ?_
      exact State.keyed_keeps _ _ _ hk (fun _ h22 => State.onBit_keeps _ _ h22 (fun _ h23 => State.bankCmd_keeps _ h23))
    · exact KeepsO.none
  · refine KeepsO.ite (fun _ => ?_) (fun _ => ?_)
    · refine KeepsO.some ?_
      exact State.flashCmd_keeps _ _ hk
    · exact KeepsO.none
  · refine KeepsO.ite (fun _ => ?_) (fun _ => ?_)
    · refine KeepsO.some ?_
      exact State.updCmd_keeps _ hk
    · refine KeepsO.ite (fun _ => ?_) (fun _ => ?_)
      · refine KeepsO.some ?_
        exact State.wr_keeps _ _ _ hk
      · exact KeepsO.none
  · refine KeepsO.ite (fun _ => ?_) (fun _ => ?_)
    · refine KeepsO.some ?_
      exact State.keyed_keeps _ _ _ hk (fun _ h24 => State.nvdCmd_keeps _ _ _ h24)
    · exact KeepsO.none
  · refine KeepsO.ite (fun _ => ?_) (fun _ => ?_)
    · refine KeepsO.some ?_
      refine State.keyed_keeps _ _ _ ?_ ?_
      · exact hk
      · intro s25_0 hs25_1
        split
        · exact State.otpProgram_keeps hs25_1
        · exact State.otpLock_keeps _ hs25_1
        · exact hs25_1
    · exact KeepsO.none
  · refine KeepsO.ite (fun _ => ?_) (fun _ => ?_)
    · refine KeepsO.some ?_
      exact State.stickySet_keeps _ hk
    · exact KeepsO.none
  · refine KeepsO.ite (fun _ => ?_) (fun _ => ?_)
    · refine KeepsO.some ?_
      exact State.dbgReq_keeps _ hk
    · refine KeepsO.ite (fun _ => ?_) (fun _ => ?_)
      · refine KeepsO.some ?_
        exact State.wr_keeps _ _ _ hk
      · exact KeepsO.none
  · exact KeepsO.none

theorem State.afterWrite_keeps (kind : PageKind) (i : ℕ) (off : ℕ) (old : Word) (hk : Keeps ⟨H1, H2, H3, H4, false, H6, H7, H8, false, H10, H11, false, false, false, H15⟩ s0 s) : Keeps ⟨H1, H2, H3, H4, false, H6, H7, H8, false, H10, H11, false, false, false, H15⟩ s0 (State.afterWrite s kind i off old) := by
  unfold State.afterWrite
  extract_lets -merge -underBinder +onlyGivenNames x0 x1
  split
  · exact Keeps.ite (fun _ => State.put_keeps _ _ _ hk) (fun _ => hk)
  · exact Keeps.ite (fun _ => State.modHost_keeps _ hk) (fun _ => hk)
  · exact Keeps.ite (fun _ => State.claimNow_keeps _ hk) (fun _ => hk)
  · exact Keeps.ite (fun _ => State.shareResume_keeps hk) (fun _ => hk)
  · exact Keeps.ite (fun _ => State.gpioWatch_keeps hk) (fun _ => hk)
  · extract_lets -merge -underBinder +onlyGivenNames x2
    exact Keeps.ite (fun _ => State.modLink_keeps _ _ (Keeps.ite (fun _ => State.linkTo_keeps _ _ hk) (fun _ => hk))) (fun _ => hk)
  · exact Keeps.ite (fun _ => State.enumerate_keeps hk) (fun _ => hk)
  · exact Keeps.ite (fun _ => State.putB_keeps _ _ _ hk) (fun _ => hk)
  · exact Keeps.ite (fun _ => State.trialStart_keeps hk) (fun _ => hk)
  · exact State.mainsSync_keeps hk
  · exact hk

theorem State.regWrite_keeps (rq : Req) (pg : ℕ) (off : ℕ) (v : Word) (hk : Keeps ⟨H1, false, H3, false, false, false, false, false, false, H10, false, false, false, false, false⟩ s0 s) : Keeps ⟨H1, false, H3, false, false, false, false, false, false, H10, false, false, false, false, false⟩ s0 (State.regWrite s rq pg off v) := by
  unfold State.regWrite
  extract_lets -merge -underBinder +onlyGivenNames x0
  clear_value x0
  split
  · exact hk
  · extract_lets -merge -underBinder +onlyGivenNames x1
    refine Keeps.ite (fun _ => ?_) (fun _ => ?_)
    · exact hk
    · refine Keeps.ite (fun _ => ?_) (fun _ => ?_)
      · exact hk
      · split
        · exact State.ctrlWrite_keeps _ _ _ hk
        · exact State.evtClear_keeps _ _ _ hk
        · exact State.wr_keeps _ _ _ hk
        · exact State.evtSet_keeps _ _ hk
        · exact State.lockWrite_keeps _ _ hk
        · refine Keeps.ite (fun _ => ?_) (fun _ => ?_)
          · exact hk
          · split
            · rename_i y2 e2
              have hy2 : Keeps ⟨H1, false, H3, false, false, false, false, false, false, H10, false, false, false, false, false⟩ s0 y2 := by
                refine KeepsO.get ?_ e2
                refine KeepsO.or ?_ ?_
                · refine KeepsO.or ?_ ?_
                  · refine State.portCmd_keeps _ _ _ _ ?_
                    exact hk
                  · refine State.fleetCmd_keeps _ _ _ _ ?_
                    exact hk
                · refine State.pageCmd_keeps _ _ _ _ _ ?_
                  exact hk
              exact hy2
            · split
              · exact hk
              · extract_lets -merge -underBinder +onlyGivenNames x3
                extract_lets -merge -underBinder +onlyGivenNames x4 x5
                have hx5 : Keeps ⟨H1, false, H3, false, false, false, false, false, false, H10, false, false, false, false, false⟩ s0 x5 := State.plainWrite_keeps _ _ _ hk
                try clear_value x5
                exact Keeps.ite (fun _ => State.afterWrite_keeps _ _ _ _ hx5) (fun _ => hx5)

theorem State.readInto_keeps (rq : Req) (pg : ℕ) (off : ℕ) (hk : Keeps ⟨H1, H2, H3, false, H5, H6, H7, H8, H9, H10, H11, H12, H13, H14, false⟩ s0 s) : Keeps ⟨H1, H2, H3, false, H5, H6, H7, H8, H9, H10, H11, H12, H13, H14, false⟩ s0 (State.readInto s rq pg off) := by
  unfold State.readInto
  extract_lets -merge -underBinder +onlyGivenNames x0
  have hx0 : Keeps ⟨H1, H2, H3, false, H5, H6, H7, H8, H9, H10, H11, H12, H13, H14, false⟩ s0 x0.1 := by
    refine Keeps.ofEq ?_ (State.regRead_keeps ?_ ?_ ?_ hk)
    exact rfl
  try clear_value x0
  extract_lets -merge -underBinder +onlyGivenNames x1
  have hx1 : Keeps ⟨H1, H2, H3, false, H5, H6, H7, H8, H9, H10, H11, H12, H13, H14, false⟩ s0 x1 := hx0
  try clear_value x1
  exact Keeps.mk' hx1

theorem State.regLoad_keeps (rq : Req) (pg : ℕ) (off : ℕ) (hk : Keeps ⟨H1, H2, H3, false, H5, H6, H7, H8, H9, H10, H11, H12, H13, H14, false⟩ s0 s) : Keeps ⟨H1, H2, H3, false, H5, H6, H7, H8, H9, H10, H11, H12, H13, H14, false⟩ s0 (State.regLoad s rq pg off).1 := by
  unfold State.regLoad
  extract_lets -merge -underBinder +onlyGivenNames x0
  have hx0 : Keeps ⟨H1, H2, H3, false, H5, H6, H7, H8, H9, H10, H11, H12, H13, H14, false⟩ s0 x0.1 := by
    refine Keeps.ofEq ?_ (State.regRead_keeps ?_ ?_ ?_ hk)
    exact rfl
  try clear_value x0
  refine Keeps.mkFst ?_
  exact hx0

theorem State.skLoad_keeps (k : Engine) (a : ℕ) (n : ℕ) (hk : Keeps ⟨H1, H2, H3, false, H5, H6, H7, H8, H9, H10, H11, H12, H13, H14, false⟩ s0 s) : Keeps ⟨H1, H2, H3, false, H5, H6, H7, H8, H9, H10, H11, H12, H13, H14, false⟩ s0 (State.skLoad s k a n).1 := by
  unfold State.skLoad
  extract_lets -merge -underBinder +onlyGivenNames x0
  refine Keeps.iteFst (fun _ => ?_) (fun _ => ?_)
  · refine Keeps.mkFst ?_
    exact hk
  · refine Keeps.iteFst (fun _ => ?_) (fun _ => ?_)
    · refine Keeps.mkFst ?_
      exact State.stNote_keeps _ _ _ hk
    · refine Keeps.iteFst (fun _ => ?_) (fun _ => ?_)
      · refine State.regLoad_keeps _ _ _ ?_
        exact hk
      · refine Keeps.mkFst ?_
        exact hk

theorem State.skStore_keeps (k : Engine) (a : ℕ) (n : ℕ) (v : ℕ) (hk : Keeps ⟨H1, false, H3, false, false, false, false, false, false, H10, false, false, false, false, false⟩ s0 s) : Keeps ⟨H1, false, H3, false, false, false, false, false, false, H10, false, false, false, false, false⟩ s0 (State.skStore s k a n v) := by
  unfold State.skStore
  exact Keeps.ite (fun _ => State.modEng_keeps _ _ hk) (fun _ => Keeps.ite (fun _ => State.stPut_keeps _ _ _ hk) (fun _ => Keeps.ite (fun _ => State.regWrite_keeps _ _ _ _ hk) (fun _ => hk)))

theorem State.strElem_keeps (k : Engine) (op : ℕ) (e : EngSt) (hk : Keeps ⟨H1, false, H3, false, false, false, false, false, false, H10, false, false, false, false, false⟩ s0 s) : Keeps ⟨H1, false, H3, false, false, false, false, false, false, H10, false, false, false, false, false⟩ s0 (State.strElem s k op e).1 := by
  unfold State.strElem
  extract_lets -merge -underBinder +onlyGivenNames x0 x1 x2 x3 x4 x5
  have hx5 : Keeps ⟨H1, false, H3, false, false, false, false, false, false, H10, false, false, false, false, false⟩ s0 x5.1 := by
    unfold x5
    refine Keeps.iteFst (fun _ => ?_) (fun _ => ?_)
    · refine State.skLoad_keeps _ _ _ ?_
      exact hk
    · refine Keeps.mkFst ?_
      exact hk
  try clear_value x5
  extract_lets -merge -underBinder +onlyGivenNames x6 x7
  have hx7 : Keeps ⟨H1, false, H3, false, false, false, false, false, false, H10, false, false, false, false, false⟩ s0 x7 := hx5
  try clear_value x7
  extract_lets -merge -underBinder +onlyGivenNames x8
  have hx8 : Keeps ⟨H1, false, H3, false, false, false, false, false, false, H10, false, false, false, false, false⟩ s0 x8.1 := by
    unfold x8
    refine Keeps.iteFst (fun _ => ?_) (fun _ => ?_)
    · refine State.skLoad_keeps _ _ _ ?_
      exact hx7
    · refine Keeps.mkFst ?_
      exact hx7
  try clear_value x8
  extract_lets -merge -underBinder +onlyGivenNames x9 x10
  have hx10 : Keeps ⟨H1, false, H3, false, false, false, false, false, false, H10, false, false, false, false, false⟩ s0 x10 := hx8
  try clear_value x10
  extract_lets -merge -underBinder +onlyGivenNames x11
  have hx11 : Keeps ⟨H1, false, H3, false, false, false, false, false, false, H10, false, false, false, false, false⟩ s0 x11 := Keeps.ite (fun _ => State.skStore_keeps _ _ _ _ hx10) (fun _ => hx10)
  try clear_value x11
  extract_lets -merge -underBinder +onlyGivenNames x12 x13 x14 x15
  refine Keeps.iteFst (fun _ => ?_) (fun _ => ?_)
  · refine Keeps.mkFst ?_
    exact hx10
  · refine Keeps.mkFst ?_
    exact hx11

theorem State.rptLoop_keeps (k : Engine) (x : SkW) (stop : Option ℕ) (n i : ℕ) (e : EngSt) (hk : Keeps ⟨H1, false, H3, false, false, false, false, false, false, H10, false, false, false, false, false⟩ s0 s) :
    Keeps ⟨H1, false, H3, false, false, false, false, false, false, H10, false, false, false, false, false⟩ s0 (State.rptLoop s k x stop n i e).1 := by
  induction n generalizing s i e with
  | zero => exact hk
  | succ n ih =>
    unfold State.rptLoop
    split
    · exact hk
    · split
      · exact hk
      · split
        · exact hk
        · extract_lets -merge -underBinder +onlyGivenNames x0
          split
          · exact State.strElem_keeps _ _ _ hk
          · exact ih _ _ (State.strElem_keeps _ _ _ hk)

theorem State.amLoad_keeps (k : Engine) (e : EngSt) (x : SkW) (f : ℕ → ℕ) (hk : Keeps ⟨H1, H2, H3, false, H5, H6, H7, H8, H9, H10, H11, H12, H13, H14, false⟩ s0 s) : Keeps ⟨H1, H2, H3, false, H5, H6, H7, H8, H9, H10, H11, H12, H13, H14, false⟩ s0 (State.amLoad s k e x f).1 := by
  unfold State.amLoad
  extract_lets -merge -underBinder +onlyGivenNames x0 x1
  have hx1 : Keeps ⟨H1, H2, H3, false, H5, H6, H7, H8, H9, H10, H11, H12, H13, H14, false⟩ s0 x1.1 := by
    refine Keeps.ofEq ?_ (State.skLoad_keeps ?_ ?_ ?_ hk)
    exact rfl
  try clear_value x1
  refine Keeps.mkFst ?_
  exact hx1

theorem State.skA_keeps (k : Engine) (e : EngSt) (x : SkW) (hk : Keeps ⟨H1, false, H3, false, false, false, false, false, false, H10, false, false, false, false, false⟩ s0 s) : Keeps ⟨H1, false, H3, false, false, false, false, false, false, H10, false, false, false, false, false⟩ s0 (State.skA s k e x).1 := by
  unfold State.skA
  extract_lets -merge -underBinder +onlyGivenNames x0 x1 x2
  split
  · refine State.amLoad_keeps _ _ _ _ ?_
    exact hk
  · refine State.amLoad_keeps _ _ _ _ ?_
    exact hk
  · refine State.amLoad_keeps _ _ _ _ ?_
    exact hk
  · refine State.amLoad_keeps _ _ _ _ ?_
    exact hk
  · refine State.amLoad_keeps _ _ _ _ ?_
    exact hk
  · refine Keeps.mkFst ?_
    exact State.skStore_keeps _ _ _ _ hk
  · refine Keeps.mkFst ?_
    exact State.skStore_keeps _ _ _ _ hk
  · refine Keeps.mkFst ?_
    exact State.skStore_keeps _ _ _ _ hk
  · extract_lets -merge -underBinder +onlyGivenNames x3
    have hx3 : Keeps ⟨H1, false, H3, false, false, false, false, false, false, H10, false, false, false, false, false⟩ s0 x3.1 := by
      refine Keeps.ofEq ?_ (State.skLoad_keeps ?_ ?_ ?_ hk)
      exact rfl
    try clear_value x3
    extract_lets -merge -underBinder +onlyGivenNames x4 x5
    have hx5 : Keeps ⟨H1, false, H3, false, false, false, false, false, false, H10, false, false, false, false, false⟩ s0 x5.1 := by
      refine Keeps.ofEq ?_ (State.skLoad_keeps ?_ ?_ ?_ hx3)
      exact rfl
    try clear_value x5
    refine Keeps.mkFst ?_
    exact hx5
  · refine Keeps.mkFst ?_
    exact State.skStore_keeps _ _ _ _ (State.skStore_keeps _ _ _ _ hk)
  · refine Keeps.mkFst ?_
    exact hk
  · refine Keeps.mkFst ?_
    exact hk
  · refine Keeps.mkFst ?_
    exact hk
  · refine Keeps.mkFst ?_
    exact hk
  · refine Keeps.mkFst ?_
    exact State.skStore_keeps _ _ _ _ hk
  · extract_lets -merge -underBinder +onlyGivenNames x6
    extract_lets -merge -underBinder +onlyGivenNames x7
    have hx7 : Keeps ⟨H1, false, H3, false, false, false, false, false, false, H10, false, false, false, false, false⟩ s0 x7.1 := by
      refine Keeps.ofEq ?_ (State.skLoad_keeps ?_ ?_ ?_ hk)
      exact rfl
    try clear_value x7
    refine Keeps.mkFst ?_
    exact hx7
  · extract_lets -merge -underBinder +onlyGivenNames x8
    refine Keeps.mkFst ?_
    exact hk
  · extract_lets -merge -underBinder +onlyGivenNames x9
    have hx9 : Keeps ⟨H1, false, H3, false, false, false, false, false, false, H10, false, false, false, false, false⟩ s0 x9.1 := by
      refine Keeps.ofEq ?_ (State.strElem_keeps ?_ ?_ ?_ hk)
      exact rfl
    try clear_value x9
    refine Keeps.mkFst ?_
    exact hx9
  · extract_lets -merge -underBinder +onlyGivenNames x10
    have hx10 : Keeps ⟨H1, false, H3, false, false, false, false, false, false, H10, false, false, false, false, false⟩ s0 x10.1 := by
      refine Keeps.ofEq ?_ (State.strElem_keeps ?_ ?_ ?_ hk)
      exact rfl
    try clear_value x10
    refine Keeps.mkFst ?_
    exact hx10
  · extract_lets -merge -underBinder +onlyGivenNames x11
    have hx11 : Keeps ⟨H1, false, H3, false, false, false, false, false, false, H10, false, false, false, false, false⟩ s0 x11.1 := by
      refine Keeps.ofEq ?_ (State.strElem_keeps ?_ ?_ ?_ hk)
      exact rfl
    try clear_value x11
    refine Keeps.mkFst ?_
    exact hx11
  · extract_lets -merge -underBinder +onlyGivenNames x12
    have hx12 : Keeps ⟨H1, false, H3, false, false, false, false, false, false, H10, false, false, false, false, false⟩ s0 x12.1 := by
      refine Keeps.ofEq ?_ (State.strElem_keeps ?_ ?_ ?_ hk)
      exact rfl
    try clear_value x12
    refine Keeps.mkFst ?_
    exact hx12
  · extract_lets -merge -underBinder +onlyGivenNames x13
    have hx13 : Keeps ⟨H1, false, H3, false, false, false, false, false, false, H10, false, false, false, false, false⟩ s0 x13.1 := by
      refine Keeps.ofEq ?_ (State.strElem_keeps ?_ ?_ ?_ hk)
      exact rfl
    try clear_value x13
    refine Keeps.mkFst ?_
    exact hx13
  · refine Keeps.mkFst ?_
    exact hk

theorem State.skSpend_keeps (k : Engine) (n : ℕ) (hk : Keeps ⟨H1, H2, H3, H4, H5, H6, H7, false, H9, H10, H11, H12, H13, H14, H15⟩ s0 s) : Keeps ⟨H1, H2, H3, H4, H5, H6, H7, false, H9, H10, H11, H12, H13, H14, H15⟩ s0 (State.skSpend s k n) := by
  unfold State.skSpend
  exact State.modEng_keeps _ _ hk

theorem State.skApply_keeps (k : Engine) (n : EngSt) (hk : Keeps ⟨H1, H2, H3, H4, H5, H6, H7, false, H9, H10, H11, H12, H13, H14, H15⟩ s0 s) : Keeps ⟨H1, H2, H3, H4, H5, H6, H7, false, H9, H10, H11, H12, H13, H14, H15⟩ s0 (State.skApply s k n) :=
  State.modEng_keeps _ _ hk (fun _ => by simp)

theorem State.skYield_keeps (k : Engine) (kind : ℕ) (readyAt : ℕ) (dl : Option Word) (phase : ℕ) (hk : Keeps ⟨H1, H2, H3, H4, false, H6, H7, false, H9, H10, H11, H12, H13, H14, H15⟩ s0 s) : Keeps ⟨H1, H2, H3, H4, false, H6, H7, false, H9, H10, H11, H12, H13, H14, H15⟩ s0 (State.skYield s k kind readyAt dl phase) := by
  unfold State.skYield
  exact Keeps.ite (fun _ => State.idleReassign_keeps _ _ (State.endRun_keeps _ _ _ _ hk)) (fun _ => hk)

theorem State.skFault_keeps (k : Engine) (f : ℕ × ℕ) (phase : ℕ) (hk : Keeps ⟨H1, H2, H3, H4, false, H6, H7, false, H9, H10, H11, H12, H13, H14, H15⟩ s0 s) : Keeps ⟨H1, H2, H3, H4, false, H6, H7, false, H9, H10, H11, H12, H13, H14, H15⟩ s0 (State.skFault s k f phase) := by
  unfold State.skFault
  extract_lets -merge -underBinder +onlyGivenNames x0
  exact Keeps.ite (fun _ => State.skYield_keeps _ _ _ _ _ hk) (fun _ => State.modEng_keeps _ _ hk)

theorem State.skC_keeps (k : Engine) (e : EngSt) (n : EngSt) (x : SkW) (next : ℕ) (hk : Keeps ⟨H1, false, H3, false, false, false, false, false, false, H10, false, false, false, false, false⟩ s0 s) : Keeps ⟨H1, false, H3, false, false, false, false, false, false, H10, false, false, false, false, false⟩ s0 (State.skC s k e n x next).1 := by
  unfold State.skC
  extract_lets -merge -underBinder +onlyGivenNames x0 x1 x2 x3 x4
  split
  · refine Keeps.mkFst ?_
    exact hk
  · refine Keeps.mkFst ?_
    exact State.skStore_keeps _ _ _ _ hk
  · refine Keeps.mkFst ?_
    exact hk
  · refine Keeps.mkFst ?_
    exact State.skStore_keeps _ _ _ _ hk
  · extract_lets -merge -underBinder +onlyGivenNames x5
    extract_lets -merge -underBinder +onlyGivenNames x6
    have hx6 : Keeps ⟨H1, false, H3, false, false, false, false, false, false, H10, false, false, false, false, false⟩ s0 x6.1 := by
      refine Keeps.ofEq ?_ (State.skLoad_keeps ?_ ?_ ?_ hk)
      exact rfl
    try clear_value x6
    refine Keeps.mkFst ?_
    exact hx6
  · refine Keeps.mkFst ?_
    exact hk
  · refine Keeps.mkFst ?_
    exact hk
  · refine Keeps.mkFst ?_
    exact hk
  · refine Keeps.mkFst ?_
    exact hk
  · refine Keeps.mkFst ?_
    exact hk

theorem State.skPlain_keeps (k : Engine) (b : List SkW) (a : Option SkW) (c : Option SkW) (next : ℕ) (x : BundleIn) (hk : Keeps ⟨H1, false, H3, false, false, false, false, false, false, H10, false, false, false, false, false⟩ s0 s) : Keeps ⟨H1, false, H3, false, false, false, false, false, false, H10, false, false, false, false, false⟩ s0 (State.skPlain s k b a c next x) := by
  unfold State.skPlain
  extract_lets -merge -underBinder +onlyGivenNames x0 x1
  have hx1 : Keeps ⟨H1, false, H3, false, false, false, false, false, false, H10, false, false, false, false, false⟩ s0 x1.1 := by
    unfold x1
    split
    · refine State.skA_keeps _ _ _ ?_
      exact hk
    · refine Keeps.mkFst ?_
      exact hk
  try clear_value x1
  extract_lets -merge -underBinder +onlyGivenNames x2 x3 x4
  have hx4 : Keeps ⟨H1, false, H3, false, false, false, false, false, false, H10, false, false, false, false, false⟩ s0 x4.1 := by
    unfold x4
    split
    · refine State.skC_keeps _ _ _ _ _ ?_
      exact hx1
    · refine Keeps.mkFst ?_
      exact hx1
  try clear_value x4
  extract_lets -merge -underBinder +onlyGivenNames x5 x6 x7
  have hx7 : Keeps ⟨H1, false, H3, false, false, false, false, false, false, H10, false, false, false, false, false⟩ s0 x7 := State.skSpend_keeps _ _ (State.skApply_keeps _ _ hx4)
  try clear_value x7
  split
  · exact Keeps.ite (fun _ => State.skYield_keeps _ _ _ _ _ hx7) (fun _ => hx7)
  · exact hx7

theorem State.skBody_keeps (k : Engine) (b : List SkW) (x : BundleIn) (hk : Keeps ⟨H1, false, H3, false, false, false, false, false, false, H10, false, false, false, false, false⟩ s0 s) : Keeps ⟨H1, false, H3, false, false, false, false, false, false, H10, false, false, false, false, false⟩ s0 (State.skBody s k b x) := by
  unfold State.skBody
  extract_lets -merge -underBinder +onlyGivenNames x0 x1
  clear_value x1
  extract_lets -merge -underBinder +onlyGivenNames x2
  clear_value x2
  extract_lets -merge -underBinder +onlyGivenNames x3
  split
  · refine Keeps.ite (fun _ => ?_) (fun _ => ?_)
    · split
      · exact State.skSpend_keeps _ _ (State.skApply_keeps _ _ hk)
      · extract_lets -merge -underBinder +onlyGivenNames x4
        have hx4 : Keeps ⟨H1, false, H3, false, false, false, false, false, false, H10, false, false, false, false, false⟩ s0 x4.1 := by
          refine Keeps.ofEq ?_ (State.rptLoop_keeps ?_ ?_ ?_ ?_ ?_ ?_ hk)
          exact rfl
        try clear_value x4
        extract_lets -merge -underBinder +onlyGivenNames x5
        have hx5 : Keeps ⟨H1, false, H3, false, false, false, false, false, false, H10, false, false, false, false, false⟩ s0 x5 := State.skSpend_keeps _ _ hx4
        try clear_value x5
        split
        · exact State.skApply_keeps _ _ hx5
        · exact State.skApply_keeps _ _ hx5
        · exact State.skFault_keeps _ _ _ (State.skApply_keeps _ _ hx5)
    · exact Keeps.ite (fun _ => State.skSpend_keeps _ _ (State.modEng_keeps _ _ hk)) (fun _ => State.skPlain_keeps _ _ _ _ _ _ hk)
  · exact State.skPlain_keeps _ _ _ _ _ _ hk

theorem State.skStep_keeps (k : Engine) (x : BundleIn) (hk : Keeps ⟨H1, false, H3, false, false, false, false, false, false, H10, false, false, false, false, false⟩ s0 s) : Keeps ⟨H1, false, H3, false, false, false, false, false, false, H10, false, false, false, false, false⟩ s0 (State.skStep s k x) := by
  unfold State.skStep
  extract_lets -merge -underBinder +onlyGivenNames x0
  have hx0 : Keeps ⟨H1, false, H3, false, false, false, false, false, false, H10, false, false, false, false, false⟩ s0 x0 := State.put_keeps _ _ _ hk
  try clear_value x0
  extract_lets -merge -underBinder +onlyGivenNames x1
  have hx1 : Keeps ⟨H1, false, H3, false, false, false, false, false, false, H10, false, false, false, false, false⟩ s0 x1 := Keeps.ite (fun _ => State.engineFault_keeps _ _ _ hx0) (fun _ => hx0)
  try clear_value x1
  extract_lets -merge -underBinder +onlyGivenNames x2 x3 x4 x5
  clear_value x5
  refine Keeps.ite (fun _ => ?_) (fun _ => ?_)
  · exact hx1
  · split
    · exact State.skFault_keeps _ _ _ (State.skSpend_keeps _ _ hx1)
    · extract_lets -merge -underBinder +onlyGivenNames x6
      split
      · exact State.engineFault_keeps _ _ _ (State.skSpend_keeps _ _ hx1)
      · extract_lets -merge -underBinder +onlyGivenNames x7
        have hx7 : Keeps ⟨H1, false, H3, false, false, false, false, false, false, H10, false, false, false, false, false⟩ s0 x7 := by
          unfold x7
          split
          · exact State.stSpoil_keeps _ hx1
          · exact hx1
        try clear_value x7
        exact State.skBody_keeps _ _ _ hx7

theorem State.winStep_keeps (words : ℕ) (hk : Keeps H s0 s) : Keeps H s0 (State.winStep s words) := by
  unfold State.winStep
  exact State.put_keeps _ _ _ hk

theorem State.readWords_keeps (rq : Req) (pg n off : ℕ) (hk : Keeps ⟨H1, H2, H3, false, H5, H6, H7, H8, H9, H10, H11, H12, H13, H14, false⟩ s0 s) : Keeps ⟨H1, H2, H3, false, H5, H6, H7, H8, H9, H10, H11, H12, H13, H14, false⟩ s0 (State.readWords s rq pg n off).1 := by
  induction n generalizing s off with
  | zero => exact hk
  | succ n ih => exact ih _ (State.regRead_keeps _ _ _ hk)

theorem State.writeWords_keeps (rq : Req) (pg : ℕ) (l : List Word) (off : ℕ) (hk : Keeps ⟨H1, false, H3, false, false, false, false, false, false, H10, false, false, false, false, false⟩ s0 s) : Keeps ⟨H1, false, H3, false, false, false, false, false, false, H10, false, false, false, false, false⟩ s0 (State.writeWords s rq pg l off) := by
  induction l generalizing s off with
  | nil => exact hk
  | cons v l ih => exact ih _ (State.regWrite_keeps _ _ _ _ hk)

theorem State.readFinish_keeps (cmd : ℕ) (pre : Option (List Byte)) (head : List Byte) (data : List Byte) (pec : Bool) (e : Option (BusErr × ℕ)) (load : Bool) (code : ℕ) (detail : ℕ) (adv : ℕ) (hk : Keeps ⟨H1, H2, H3, H4, H5, H6, H7, H8, H9, H10, H11, H12, H13, false, H15⟩ s0 s) : Keeps ⟨H1, H2, H3, H4, H5, H6, H7, H8, H9, H10, H11, H12, H13, false, H15⟩ s0 (State.readFinish s cmd pre head data pec e load code detail adv) := by
  unfold State.readFinish
  extract_lets -merge -underBinder +onlyGivenNames x0 x1 x2 x3
  have hx3 : Keeps ⟨H1, H2, H3, H4, H5, H6, H7, H8, H9, H10, H11, H12, H13, false, H15⟩ s0 x3 := State.modHost_keeps _ hk
  try clear_value x3
  extract_lets -merge -underBinder +onlyGivenNames x4
  have hx4 : Keeps ⟨H1, H2, H3, H4, H5, H6, H7, H8, H9, H10, H11, H12, H13, false, H15⟩ s0 x4 := Keeps.ite (fun _ => State.winStep_keeps _ hx3) (fun _ => hx3)
  try clear_value x4
  exact Keeps.ite (fun _ => State.hostErr_keeps _ _ hx4) (fun _ => Keeps.ite (fun _ => State.hostLoad_keeps _ _ _ hx4) (fun _ => hx4))

theorem State.writeEnd_keeps (cmd : ℕ) (bytes : List Byte) (pec : Option (BitVec 8)) (e : Option BusErr) {f : State → State} (hk : Keeps ⟨H1, H2, H3, H4, H5, H6, H7, H8, H9, H10, H11, H12, H13, false, H15⟩ s0 s) (hf : ∀ a0, Keeps ⟨H1, H2, H3, H4, H5, H6, H7, H8, H9, H10, H11, H12, H13, false, H15⟩ s0 a0 → Keeps ⟨H1, H2, H3, H4, H5, H6, H7, H8, H9, H10, H11, H12, H13, false, H15⟩ s0 (f a0)) : Keeps ⟨H1, H2, H3, H4, H5, H6, H7, H8, H9, H10, H11, H12, H13, false, H15⟩ s0 (State.writeEnd s cmd bytes pec e f) := by
  unfold State.writeEnd
  refine Keeps.ite (fun _ => ?_) (fun _ => ?_)
  · exact State.hostErr_keeps _ _ hk
  · split
    · refine Keeps.ite (fun _ => ?_) (fun _ => ?_)
      · exact State.hostErr_keeps _ _ hk
      · refine hf _ ?_
        exact hk
    · refine Keeps.ite (fun _ => ?_) (fun _ => ?_)
      · refine hf _ ?_
        exact hk
      · exact State.hostErr_keeps _ _ hk

theorem State.writeDone_keeps (cmd : ℕ) (words : ℕ) (hk : Keeps ⟨H1, H2, H3, H4, H5, H6, H7, H8, H9, H10, H11, H12, H13, false, H15⟩ s0 s) : Keeps ⟨H1, H2, H3, H4, H5, H6, H7, H8, H9, H10, H11, H12, H13, false, H15⟩ s0 (State.writeDone s cmd words) := by
  unfold State.writeDone
  exact Keeps.ite (fun _ => State.winStep_keeps _ (State.hostLoad_keeps _ _ _ hk)) (fun _ => hk)

theorem State.regSend_keeps (words : List Word) (count : ℕ) (hk : Keeps ⟨H1, H2, H3, H4, H5, H6, H7, H8, false, H10, H11, H12, H13, H14, H15⟩ s0 s) : Keeps ⟨H1, H2, H3, H4, H5, H6, H7, H8, false, H10, H11, H12, H13, H14, H15⟩ s0 (State.regSend s words count) := by
  unfold State.regSend
  extract_lets -merge -underBinder +onlyGivenNames x0 x1 x2
  have hx2 : Keeps ⟨H1, H2, H3, H4, H5, H6, H7, H8, false, H10, H11, H12, H13, H14, H15⟩ s0 x2 := State.sendTo_keeps _ _ _ _ hk
  try clear_value x2
  exact State.modFleet_keeps _ hx2

theorem State.heldDrop_keeps (hk : Keeps ⟨H1, H2, H3, H4, H5, H6, H7, H8, H9, H10, H11, H12, H13, false, H15⟩ s0 s) : Keeps ⟨H1, H2, H3, H4, H5, H6, H7, H8, H9, H10, H11, H12, H13, false, H15⟩ s0 (State.heldDrop s) := by
  unfold State.heldDrop
  exact State.modHost_keeps _ hk

theorem State.wordsFinish_keeps (c : HostCmd) (words : List Word) (code : ℕ) (detail : ℕ) (hk : Keeps ⟨H1, H2, H3, H4, H5, H6, H7, H8, H9, H10, H11, H12, H13, false, H15⟩ s0 s) : Keeps ⟨H1, H2, H3, H4, H5, H6, H7, H8, H9, H10, H11, H12, H13, false, H15⟩ s0 (State.wordsFinish s c words code detail) := by
  unfold State.wordsFinish
  split
  · exact hk
  · extract_lets -merge -underBinder +onlyGivenNames x0
    exact State.readFinish_keeps _ _ _ _ _ _ _ _ _ _ hk

theorem State.hostRead_keeps (c : HostCmd) (hk : Keeps ⟨H1, H2, H3, false, H5, H6, H7, H8, false, H10, H11, H12, H13, false, false⟩ s0 s) : Keeps ⟨H1, H2, H3, false, H5, H6, H7, H8, false, H10, H11, H12, H13, false, false⟩ s0 (State.hostRead s c) := by
  unfold State.hostRead
  split
  · exact hk
  · extract_lets -merge -underBinder +onlyGivenNames x0
    have hx0 : Keeps ⟨H1, H2, H3, false, H5, H6, H7, H8, false, H10, H11, H12, H13, false, false⟩ s0 x0.1 := by
      refine Keeps.ofEq ?_ (State.readWords_keeps ?_ ?_ ?_ ?_ (State.heldDrop_keeps hk))
      exact rfl
    try clear_value x0
    extract_lets -merge -underBinder +onlyGivenNames x1
    refine Keeps.ite (fun _ => ?_) (fun _ => ?_)
    · exact State.hostLoad_keeps _ _ _ (State.heldDrop_keeps hk)
    · refine Keeps.ite (fun _ => ?_) (fun _ => ?_)
      · exact State.wordsFinish_keeps _ _ _ _ hx0
      · refine Keeps.ite (fun _ => ?_) (fun _ => ?_)
        · exact State.wordsFinish_keeps _ _ _ _ (State.heldDrop_keeps hk)
        · split
          · exact State.wordsFinish_keeps _ _ _ _ (State.heldDrop_keeps hk)
          · extract_lets -merge -underBinder +onlyGivenNames x2
            have hx2 : Keeps ⟨H1, H2, H3, false, H5, H6, H7, H8, false, H10, H11, H12, H13, false, false⟩ s0 x2 := State.modHost_keeps _ (State.regSend_keeps _ _ (State.heldDrop_keeps hk))
            try clear_value x2
            split
            · exact State.wordsFinish_keeps _ _ _ _ (State.modHost_keeps _ hx2)
            · exact Keeps.ite (fun _ => State.modHost_keeps _ hx2) (fun _ => State.wordsFinish_keeps _ _ _ _ hx2)

theorem State.hostWrite_keeps (cmd : ℕ) (head : List Byte) (data : List Byte) (pec : Option (BitVec 8)) (e : Option BusErr) (hk : Keeps ⟨H1, false, H3, false, false, false, false, false, false, H10, false, false, false, false, false⟩ s0 s) : Keeps ⟨H1, false, H3, false, false, false, false, false, false, H10, false, false, false, false, false⟩ s0 (State.hostWrite s cmd head data pec e) := by
  unfold State.hostWrite
  refine State.writeEnd_keeps _ _ _ _ ?_ ?_
  · exact hk
  · intro s0_0 hs0_1
    extract_lets -merge -underBinder +onlyGivenNames x1
    exact Keeps.ite (fun _ => State.writeDone_keeps _ _ (State.writeWords_keeps _ _ _ _ hs0_1)) (fun _ => Keeps.ite (fun _ => State.winStep_keeps _ (State.hostPost_keeps _ _ (State.regSend_keeps _ _ hs0_1))) (fun _ => State.hostLoad_keeps _ _ _ hs0_1))

theorem State.hostRun_keeps (c : HostCmd) (hk : Keeps ⟨H1, false, false, false, false, false, false, false, false, H10, false, false, false, false, false⟩ s0 s) : Keeps ⟨H1, false, false, false, false, false, false, false, false, H10, false, false, false, false, false⟩ s0 (State.hostRun s c) := by
  unfold State.hostRun
  split
  · exact State.hostRead_keeps _ hk
  · exact State.hostRead_keeps _ hk
  · exact Keeps.ite (fun _ => State.hostLoad_keeps _ _ _ (State.heldDrop_keeps hk)) (fun _ => State.hostWrite_keeps _ _ _ _ _ (State.heldDrop_keeps hk))
  · exact State.hostWrite_keeps _ _ _ _ _ (State.heldDrop_keeps hk)
  · extract_lets -merge -underBinder +onlyGivenNames x0
    have hx0 : Keeps ⟨H1, false, false, false, false, false, false, false, false, H10, false, false, false, false, false⟩ s0 x0 := State.heldDrop_keeps hk
    try clear_value x0
    extract_lets -merge -underBinder +onlyGivenNames x1
    exact Keeps.ite (fun _ => State.hostLoad_keeps _ _ _ hx0) (fun _ => Keeps.ite (fun _ => State.hostErr_keeps _ _ hx0) (fun _ => Keeps.ite (fun _ => State.hostLoad_keeps _ _ _ hx0) (fun _ => Keeps.ite (fun _ => State.hostLoad_keeps _ _ _ hx0) (fun _ => State.writeEnd_keeps _ _ _ _ hx0 (fun _ h2 => Keeps.ite (fun _ => State.hostLoad_keeps _ _ _ (State.stWrite_keeps _ _ h2)) (fun _ => State.hostLoad_keeps _ _ _ h2))))))
  · extract_lets -merge -underBinder +onlyGivenNames x3
    have hx3 : Keeps ⟨H1, false, false, false, false, false, false, false, false, H10, false, false, false, false, false⟩ s0 x3 := State.heldDrop_keeps hk
    try clear_value x3
    extract_lets -merge -underBinder +onlyGivenNames x4
    split
    · exact State.hostLoad_keeps _ _ _ hx3
    · extract_lets -merge -underBinder +onlyGivenNames x5
      extract_lets -merge -underBinder +onlyGivenNames x6
      have hx6 : Keeps ⟨H1, false, false, false, false, false, false, false, false, H10, false, false, false, false, false⟩ s0 x6 := by
        unfold x6
        split
        · exact Keeps.ite (fun _ => State.stSpoil_keeps _ hx3) (fun _ => hx3)
        · exact hx3
      try clear_value x6
      extract_lets -merge -underBinder +onlyGivenNames x7 x8
      exact State.readFinish_keeps _ _ _ _ _ _ _ _ _ _ (State.stNote_keeps _ _ _ hx6)
  · extract_lets -merge -underBinder +onlyGivenNames x9
    have hx9 : Keeps ⟨H1, false, false, false, false, false, false, false, false, H10, false, false, false, false, false⟩ s0 x9 := State.heldDrop_keeps hk
    try clear_value x9
    extract_lets -merge -underBinder +onlyGivenNames x10
    exact Keeps.ite (fun _ => State.hostLoad_keeps _ _ _ hx9) (fun _ => State.writeEnd_keeps _ _ _ _ hx9 (fun _ h11 => Keeps.ite (fun _ => State.hostLoad_keeps _ _ _ h11) (fun _ => State.updPost_keeps (State.hostPost_keeps _ _ (State.stWrite_keeps _ _ h11)))))
  · refine State.writeEnd_keeps _ _ _ _ ?_ ?_
    · exact State.heldDrop_keeps hk
    · intro s12_0 hs12_1
      extract_lets -merge -underBinder +onlyGivenNames x13
      have hx13 : Keeps ⟨H1, false, false, false, false, false, false, false, false, H10, false, false, false, false, false⟩ s0 x13 := State.updPost_keeps (State.hostPost_keeps _ _ hs12_1)
      try clear_value x13
      extract_lets -merge -underBinder +onlyGivenNames x14
      have hx14 : Keeps ⟨H1, false, false, false, false, false, false, false, false, H10, false, false, false, false, false⟩ s0 x14.1 := by
        refine Keeps.ofEq ?_ (State.updCommit_keeps ?_ hx13)
        exact rfl
      try clear_value x14
      extract_lets -merge -underBinder +onlyGivenNames x15
      have hx15 : Keeps ⟨H1, false, false, false, false, false, false, false, false, H10, false, false, false, false, false⟩ s0 x15 := State.hostPostDone_keeps _ _ (State.updResult_keeps _ hx14)
      try clear_value x15
      exact Keeps.ite (fun _ => State.recoverStart_keeps hx15) (fun _ => hx15)

theorem State.hostBusy_keeps (c : HostCmd) (hk : Keeps ⟨H1, H2, H3, H4, H5, H6, H7, H8, H9, H10, H11, H12, H13, false, H15⟩ s0 s) : Keeps ⟨H1, H2, H3, H4, H5, H6, H7, H8, H9, H10, H11, H12, H13, false, H15⟩ s0 (State.hostBusy s c) := by
  unfold State.hostBusy
  split
  · exact State.hostLoad_keeps _ _ _ hk
  · exact State.wordsFinish_keeps _ _ _ _ hk
  · exact State.wordsFinish_keeps _ _ _ _ hk
  · exact State.readFinish_keeps _ _ _ _ _ _ _ _ _ _ hk
  · exact State.hostLoad_keeps _ _ _ hk

theorem State.hostCmd_keeps (c : HostCmd) (hk : Keeps ⟨H1, false, false, false, false, false, false, false, false, H10, false, false, false, false, false⟩ s0 s) : Keeps ⟨H1, false, false, false, false, false, false, false, false, H10, false, false, false, false, false⟩ s0 (State.hostCmd s c) := by
  unfold State.hostCmd
  extract_lets -merge -underBinder +onlyGivenNames x0
  have hx0 : Keeps ⟨H1, false, false, false, false, false, false, false, false, H10, false, false, false, false, false⟩ s0 x0 := State.put_keeps _ _ _ (State.modHost_keeps _ hk)
  try clear_value x0
  exact Keeps.ite (fun _ => hk) (fun _ => Keeps.ite (fun _ => State.hostRun_keeps _ hx0) (fun _ => Keeps.ite (fun _ => State.modHost_keeps _ hx0) (fun _ => State.hostBusy_keeps _ (State.heldDrop_keeps hx0))))

theorem State.hostPlain_keeps (keep : Bool) {f : State → State} (hk : Keeps ⟨H1, H2, H3, H4, H5, H6, H7, H8, H9, H10, H11, H12, H13, false, H15⟩ s0 s) (hf : ∀ a0, Keeps ⟨H1, H2, H3, H4, H5, H6, H7, H8, H9, H10, H11, H12, H13, false, H15⟩ s0 a0 → Keeps ⟨H1, H2, H3, H4, H5, H6, H7, H8, H9, H10, H11, H12, H13, false, H15⟩ s0 (f a0)) : Keeps ⟨H1, H2, H3, H4, H5, H6, H7, H8, H9, H10, H11, H12, H13, false, H15⟩ s0 (State.hostPlain s keep f) := by
  unfold State.hostPlain
  extract_lets -merge -underBinder +onlyGivenNames x0
  have hx0 : Keeps ⟨H1, H2, H3, H4, H5, H6, H7, H8, H9, H10, H11, H12, H13, false, H15⟩ s0 x0 := State.put_keeps _ _ _ (State.modHost_keeps _ hk)
  try clear_value x0
  refine Keeps.ite (fun _ => ?_) (fun _ => ?_)
  · exact hk
  · refine hf _ ?_
    exact Keeps.ite (fun _ => hx0) (fun _ => State.heldDrop_keeps hx0)

theorem State.stretched_keeps (us : ℕ) (hk : Keeps ⟨H1, H2, H3, H4, H5, H6, H7, H8, H9, H10, H11, H12, H13, false, H15⟩ s0 s) : Keeps ⟨H1, H2, H3, H4, H5, H6, H7, H8, H9, H10, H11, H12, H13, false, H15⟩ s0 (State.stretched s us) := by
  unfold State.stretched
  extract_lets -merge -underBinder +onlyGivenNames x0 x1
  have hx1 : Keeps ⟨H1, H2, H3, H4, H5, H6, H7, H8, H9, H10, H11, H12, H13, false, H15⟩ s0 x1 := State.put_keeps _ _ _ hk
  try clear_value x1
  exact State.modHost_keeps _ (State.put_keeps _ _ _ hx1)

theorem State.stretchMet_keeps (hk : Keeps ⟨H1, H2, H3, H4, H5, H6, H7, H8, H9, H10, H11, H12, H13, false, H15⟩ s0 s) : Keeps ⟨H1, H2, H3, H4, H5, H6, H7, H8, H9, H10, H11, H12, H13, false, H15⟩ s0 (State.stretchMet s) := by
  unfold State.stretchMet
  exact State.freshen_keeps (State.stretched_keeps _ hk)

theorem State.hostResume_keeps (hk : Keeps ⟨H1, false, false, false, false, false, false, false, false, H10, false, false, false, false, false⟩ s0 s) : Keeps ⟨H1, false, false, false, false, false, false, false, false, H10, false, false, false, false, false⟩ s0 (State.hostResume s) := by
  unfold State.hostResume
  split
  · exact State.hostRun_keeps _ (State.stretchMet_keeps hk)
  · exact hk

theorem State.proxyEnd_keeps (p : Proxy) (status : Option ℕ) (words : List Word) (hk : Keeps ⟨H1, false, false, false, false, false, false, false, false, H10, false, false, false, false, false⟩ s0 s) : Keeps ⟨H1, false, false, false, false, false, false, false, false, H10, false, false, false, false, false⟩ s0 (State.proxyEnd s p status words) := by
  unfold State.proxyEnd
  extract_lets -merge -underBinder +onlyGivenNames x0
  have hx0 : Keeps ⟨H1, false, false, false, false, false, false, false, false, H10, false, false, false, false, false⟩ s0 x0 := State.modFleet_keeps _ hk
  try clear_value x0
  extract_lets -merge -underBinder +onlyGivenNames x1 x2 x3
  clear_value x3
  extract_lets -merge -underBinder +onlyGivenNames x4
  have hx4 : Keeps ⟨H1, false, false, false, false, false, false, false, false, H10, false, false, false, false, false⟩ s0 x4 := State.modHost_keeps _ hx0
  try clear_value x4
  refine Keeps.ite (fun _ => ?_) (fun _ => ?_)
  · exact State.hostResume_keeps (State.hostPostDone_keeps _ _ hx0)
  · split
    · exact State.wordsFinish_keeps _ _ _ _ (State.stretchMet_keeps hx4)
    · exact Keeps.ite (fun _ => State.modHost_keeps _ hx4) (fun _ => hx4)
    · exact hx4

theorem State.updKey_keeps (key : BitVec 16) {f : State → State} (hk : Keeps ⟨H1, H2, H3, H4, false, H6, H7, H8, H9, H10, H11, H12, H13, H14, H15⟩ s0 s) (hf : ∀ a0, Keeps ⟨H1, H2, H3, H4, false, H6, H7, H8, H9, H10, H11, H12, H13, H14, H15⟩ s0 a0 → Keeps ⟨H1, H2, H3, H4, false, H6, H7, H8, H9, H10, H11, H12, H13, H14, H15⟩ s0 (f a0)) : Keeps ⟨H1, H2, H3, H4, false, H6, H7, H8, H9, H10, H11, H12, H13, H14, H15⟩ s0 (State.updKey s key f) := by
  unfold State.updKey
  refine State.keyCmd_keeps _ _ _ ?_ ?_
  · exact hk
  · intro s0_0 hs0_1
    refine hf _ ?_
    exact State.updPost_keeps hs0_1

theorem State.imgFrame_keeps (i : ℕ) (kind : Option ℕ) (len : ℕ) {f : State → List Byte → State} (hk : Keeps H s0 s) (hf : ∀ a0 a1, Keeps H s0 a0 → Keeps H s0 (f a0 a1)) : Keeps H s0 (State.imgFrame s i kind len f) := by
  unfold State.imgFrame
  extract_lets -merge -underBinder +onlyGivenNames x0 x1
  refine Keeps.ite (fun _ => ?_) (fun _ => ?_)
  · exact hk
  · refine Keeps.ite (fun _ => ?_) (fun _ => ?_)
    · exact hk
    · refine Keeps.ite (fun _ => ?_) (fun _ => ?_)
      · exact State.rxRelease_keeps _ (State.stNote_keeps _ _ _ hk)
      · refine State.rxRelease_keeps _ ?_
        refine hf _ _ ?_
        exact hk

theorem State.imgOn_keeps {f : State → State} (hk : Keeps ⟨H1, H2, H3, H4, H5, H6, H7, H8, H9, H10, H11, H12, false, H14, H15⟩ s0 s) (hf : ∀ a0, Keeps ⟨H1, H2, H3, H4, H5, H6, H7, H8, H9, H10, H11, H12, false, H14, H15⟩ s0 a0 → Keeps ⟨H1, H2, H3, H4, H5, H6, H7, H8, H9, H10, H11, H12, false, H14, H15⟩ s0 (f a0)) : Keeps ⟨H1, H2, H3, H4, H5, H6, H7, H8, H9, H10, H11, H12, false, H14, H15⟩ s0 (State.imgOn s f) := by
  unfold State.imgOn
  extract_lets -merge -underBinder +onlyGivenNames x0
  refine Keeps.ite (fun _ => ?_) (fun _ => ?_)
  · refine hf _ ?_
    exact Keeps.mk' hk
  · exact hk

theorem State.reportOwe_keeps (event : ℕ) (hk : Keeps ⟨H1, H2, H3, H4, H5, H6, H7, H8, H9, H10, H11, H12, false, H14, H15⟩ s0 s) : Keeps ⟨H1, H2, H3, H4, H5, H6, H7, H8, H9, H10, H11, H12, false, H14, H15⟩ s0 (State.reportOwe s event) := by
  unfold State.reportOwe
  exact Keeps.mk' hk

theorem State.imgStart_keeps (p : List Byte) (hk : Keeps ⟨H1, false, H3, H4, false, H6, false, H8, H9, H10, H11, H12, false, H14, H15⟩ s0 s) : Keeps ⟨H1, false, H3, H4, false, H6, false, H8, H9, H10, H11, H12, false, H14, H15⟩ s0 (State.imgStart s p) := by
  unfold State.imgStart
  extract_lets -merge -underBinder +onlyGivenNames x0 x1 x2 x3
  have hx3 : Keeps ⟨H1, false, H3, H4, false, H6, false, H8, H9, H10, H11, H12, false, H14, H15⟩ s0 x3 := Keeps.mk' hk
  try clear_value x3
  extract_lets -merge -underBinder +onlyGivenNames x4 x5
  have hx5 : Keeps ⟨H1, false, H3, H4, false, H6, false, H8, H9, H10, H11, H12, false, H14, H15⟩ s0 x5 := Keeps.mk' hx3
  try clear_value x5
  extract_lets -merge -underBinder +onlyGivenNames x6
  have hx6 : ∀ a0, Keeps ⟨H1, false, H3, H4, false, H6, false, H8, H9, H10, H11, H12, false, H14, H15⟩ s0 a0 → Keeps ⟨H1, false, H3, H4, false, H6, false, H8, H9, H10, H11, H12, false, H14, H15⟩ s0 (x6 a0) := by
    intro s7_0 hs7_1
    unfold x6
    beta_reduce
    exact Keeps.mk' hs7_1
  try clear_value x6
  refine Keeps.ite (fun _ => ?_) (fun _ => ?_)
  · exact hx3
  · split
    · refine Keeps.ite (fun _ => ?_) (fun _ => ?_)
      · exact State.updResult_keeps _ hx5
      · split
        · rename_i y8 e8
          have hy8 : Keeps ⟨H1, false, H3, H4, false, H6, false, H8, H9, H10, H11, H12, false, H14, H15⟩ s0 y8 := by
            refine KeepsO.get ?_ e8
            refine State.sessOpen_keeps _ ?_
            exact hx5
          refine State.updResult_keeps _ ?_
          refine hx6 _ ?_
          exact hy8
        · exact State.updResult_keeps _ hx5
    · refine Keeps.ite (fun _ => ?_) (fun _ => ?_)
      · exact State.updResult_keeps _ hx5
      · refine State.updResult_keeps _ ?_
        refine hx6 _ ?_
        exact hx5
    · exact State.updResult_keeps _ hx5

theorem State.modDist_keeps (f : Dist → Dist) (hk : Keeps ⟨H1, H2, H3, H4, H5, H6, H7, H8, H9, H10, H11, H12, false, H14, H15⟩ s0 s) : Keeps ⟨H1, H2, H3, H4, H5, H6, H7, H8, H9, H10, H11, H12, false, H14, H15⟩ s0 (State.modDist s f) := by
  unfold State.modDist
  exact Keeps.mk' hk

theorem State.imgSend_keeps (bcast : Bool) (dest : ℕ) (payload : List Byte) (hk : Keeps ⟨H1, H2, H3, H4, false, H6, H7, H8, false, H10, H11, H12, H13, H14, H15⟩ s0 s) : Keeps ⟨H1, H2, H3, H4, false, H6, H7, H8, false, H10, H11, H12, H13, H14, H15⟩ s0 (State.imgSend s bcast dest payload) := by
  unfold State.imgSend
  exact State.sendEngine_keeps _ _ _ _ _ _ _ hk

theorem State.distNodeFail_keeps (k : ℕ) (hk : Keeps ⟨H1, H2, H3, H4, H5, H6, H7, H8, H9, H10, H11, H12, false, H14, H15⟩ s0 s) : Keeps ⟨H1, H2, H3, H4, H5, H6, H7, H8, H9, H10, H11, H12, false, H14, H15⟩ s0 (State.distNodeFail s k) := by
  unfold State.distNodeFail
  extract_lets -merge -underBinder +onlyGivenNames x0
  have hx0 : Keeps ⟨H1, H2, H3, H4, H5, H6, H7, H8, H9, H10, H11, H12, false, H14, H15⟩ s0 x0 := State.incr_keeps _ _ (State.setMapBit_keeps _ _ _ _ hk)
  try clear_value x0
  exact Keeps.ite (fun _ => hk) (fun _ => State.modDist_keeps _ hx0)

theorem State.distReport_keeps (d : Dist) (k : ℕ) (p : List Byte) (hk : Keeps ⟨H1, H2, H3, H4, H5, H6, H7, H8, H9, H10, H11, H12, false, H14, H15⟩ s0 s) : Keeps ⟨H1, H2, H3, H4, H5, H6, H7, H8, H9, H10, H11, H12, false, H14, H15⟩ s0 (State.distReport s d k p) := by
  unfold State.distReport
  extract_lets -merge -underBinder +onlyGivenNames x0 x1
  clear_value x1
  extract_lets -merge -underBinder +onlyGivenNames x2
  have hx2 : ∀ a0, Keeps ⟨H1, H2, H3, H4, H5, H6, H7, H8, H9, H10, H11, H12, false, H14, H15⟩ s0 a0 → Keeps ⟨H1, H2, H3, H4, H5, H6, H7, H8, H9, H10, H11, H12, false, H14, H15⟩ s0 (x2 a0) := by
    intro s3_0 hs3_1
    unfold x2
    beta_reduce
    exact State.modDist_keeps _ hs3_1
  try clear_value x2
  refine Keeps.ite (fun _ => ?_) (fun _ => ?_)
  · exact hk
  · split
    · refine Keeps.ite (fun _ => ?_) (fun _ => ?_)
      · exact State.distNodeFail_keeps _ hk
      · refine State.modDist_keeps _ ?_
        refine hx2 _ ?_
        exact hk
    · refine Keeps.ite (fun _ => ?_) (fun _ => ?_)
      · exact State.distNodeFail_keeps _ hk
      · refine State.modDist_keeps _ ?_
        refine hx2 _ ?_
        exact hk
    · refine Keeps.ite (fun _ => ?_) (fun _ => ?_)
      · exact State.distNodeFail_keeps _ hk
      · refine hx2 _ ?_
        exact hk
    · refine State.incr_keeps _ _ ?_
      refine hx2 _ ?_
      exact hk
    · exact State.distNodeFail_keeps _ hk
    · exact hk

theorem State.setDist_keeps (x : Dist) (hk : Keeps ⟨H1, H2, H3, H4, H5, H6, H7, H8, H9, H10, H11, H12, false, H14, H15⟩ s0 s) : Keeps ⟨H1, H2, H3, H4, H5, H6, H7, H8, H9, H10, H11, H12, false, H14, H15⟩ s0 (State.setDist s x) := by
  unfold State.setDist
  exact Keeps.mk' hk

theorem State.distPages_keeps (d : Dist) (hk : Keeps ⟨H1, H2, H3, H4, false, H6, H7, H8, false, H10, H11, H12, false, H14, H15⟩ s0 s) : Keeps ⟨H1, H2, H3, H4, false, H6, H7, H8, false, H10, H11, H12, false, H14, H15⟩ s0 (State.distPages s d) := by
  unfold State.distPages
  split
  · exact State.setDist_keeps _ hk
  · exact State.setDist_keeps _ (State.imgSend_keeps _ _ _ hk)
  · extract_lets -merge -underBinder +onlyGivenNames x0
    extract_lets -merge -underBinder +onlyGivenNames x1
    exact State.setDist_keeps _ (State.imgSend_keeps _ _ _ hk)

theorem State.distRound_keeps (d : Dist) (hk : Keeps ⟨H1, H2, H3, H4, false, H6, H7, H8, false, H10, H11, H12, false, H14, H15⟩ s0 s) : Keeps ⟨H1, H2, H3, H4, false, H6, H7, H8, false, H10, H11, H12, false, H14, H15⟩ s0 (State.distRound s d) := by
  unfold State.distRound
  extract_lets -merge -underBinder +onlyGivenNames x0 x1
  have hx1 : Keeps ⟨H1, H2, H3, H4, false, H6, H7, H8, false, H10, H11, H12, false, H14, H15⟩ s0 x1 := State.imgSend_keeps _ _ _ (State.put_keeps _ _ _ (State.put_keeps _ _ _ hk))
  try clear_value x1
  extract_lets -merge -underBinder +onlyGivenNames x2
  exact Keeps.ite (fun _ => hk) (fun _ => Keeps.ite (fun _ => State.setDist_keeps _ hx1) (fun _ => State.modDist_keeps _ (foldl_keeps _ hk (fun _ _ h3 => State.distNodeFail_keeps _ h3))))

theorem State.distGroup_keeps (d : Dist) (hk : Keeps ⟨H1, H2, H3, H4, false, H6, H7, H8, false, H10, H11, H12, false, H14, H15⟩ s0 s) : Keeps ⟨H1, H2, H3, H4, false, H6, H7, H8, false, H10, H11, H12, false, H14, H15⟩ s0 (State.distGroup s d) := by
  unfold State.distGroup
  extract_lets -merge -underBinder +onlyGivenNames x0 x1
  exact Keeps.ite (fun _ => State.setDist_keeps _ hk) (fun _ => State.setDist_keeps _ (foldl_keeps _ hk (fun _ _ h2 => State.imgSend_keeps _ _ _ h2)))

theorem State.distLate_keeps (d : Dist) (late : Bool) (hk : Keeps ⟨H1, H2, H3, H4, H5, H6, H7, H8, H9, H10, H11, H12, false, H14, H15⟩ s0 s) : Keeps ⟨H1, H2, H3, H4, H5, H6, H7, H8, H9, H10, H11, H12, false, H14, H15⟩ s0 (State.distLate s d late) := by
  unfold State.distLate
  extract_lets -merge -underBinder +onlyGivenNames x0
  have hx0 : Keeps ⟨H1, H2, H3, H4, H5, H6, H7, H8, H9, H10, H11, H12, false, H14, H15⟩ s0 x0 := Keeps.ite (fun _ => foldl_keeps _ hk (fun _ _ h1 => State.distNodeFail_keeps _ h1)) (fun _ => hk)
  try clear_value x0
  exact State.modDist_keeps _ hx0

theorem State.distEnd_keeps (hk : Keeps ⟨H1, H2, H3, H4, H5, false, H7, H8, H9, H10, H11, H12, false, H14, H15⟩ s0 s) : Keeps ⟨H1, H2, H3, H4, H5, false, H7, H8, H9, H10, H11, H12, false, H14, H15⟩ s0 (State.distEnd s) := by
  unfold State.distEnd
  extract_lets -merge -underBinder +onlyGivenNames x0 x1
  have hx1 : Keeps ⟨H1, H2, H3, H4, H5, false, H7, H8, H9, H10, H11, H12, false, H14, H15⟩ s0 x1 := State.raise_keeps _ _ (State.put_keeps _ _ _ (Keeps.mk' hk))

  exact Keeps.ite (fun _ => State.activationReset_keeps _ hx1) (fun _ => hx1)

theorem State.distStep_keeps (d : Dist) (late : Bool) (hk : Keeps ⟨H1, H2, H3, H4, false, false, H7, H8, false, H10, H11, H12, false, H14, H15⟩ s0 s) : Keeps ⟨H1, H2, H3, H4, false, false, H7, H8, false, H10, H11, H12, false, H14, H15⟩ s0 (State.distStep s d late) := by
  unfold State.distStep
  split
  · extract_lets -merge -underBinder +onlyGivenNames x0
    exact State.setDist_keeps _ (State.imgSend_keeps _ _ _ hk)
  · exact State.distPages_keeps _ hk
  · exact State.setDist_keeps _ (State.imgSend_keeps _ _ _ hk)
  · exact State.distRound_keeps _ hk
  · exact State.setDist_keeps _ (State.imgSend_keeps _ _ _ (State.put_keeps _ _ _ hk))
  · exact Keeps.ite (fun _ => State.setDist_keeps _ (State.put_keeps _ _ _ hk)) (fun _ => hk)
  · exact State.distGroup_keeps _ hk
  · exact State.distLate_keeps _ _ hk
  · exact State.distEnd_keeps hk

theorem State.vsys_keeps (mv : ℕ) {f : State → State} (hk : Keeps ⟨H1, H2, H3, H4, H5, H6, H7, H8, H9, false, H11, H12, H13, H14, H15⟩ s0 s) (hf : ∀ a0, Keeps ⟨H1, H2, H3, H4, H5, H6, H7, H8, H9, false, H11, H12, H13, H14, H15⟩ s0 a0 → Keeps ⟨H1, H2, H3, H4, H5, H6, H7, H8, H9, false, H11, H12, H13, H14, H15⟩ s0 (f a0)) : Keeps ⟨H1, H2, H3, H4, H5, H6, H7, H8, H9, false, H11, H12, H13, H14, H15⟩ s0 (State.vsys s mv f) := by
  unfold State.vsys
  extract_lets -merge -underBinder +onlyGivenNames x0 x1
  have hx1 : Keeps ⟨H1, H2, H3, H4, H5, H6, H7, H8, H9, false, H11, H12, H13, H14, H15⟩ s0 x1 := Keeps.mk' hk
  try clear_value x1
  refine Keeps.ite (fun _ => ?_) (fun _ => ?_)
  · refine hf _ ?_
    exact hx1
  · exact hx1

theorem State.setSrc_keeps (src : ℕ) (hk : Keeps H s0 s) : Keeps H s0 (State.setSrc s src) := by
  unfold State.setSrc
  exact State.raise_keeps _ _ (State.put_keeps _ _ _ hk)

theorem State.modeKey_keeps (key : BitVec 16) (m : ℕ) (hk : Keeps H s0 s) : Keeps H s0 (State.modeKey s key m) := by
  unfold State.modeKey
  exact State.keyCmd_keeps _ _ _ hk (fun _ h0 => State.modeReq_keeps _ h0)

theorem State.zeroChain_keeps (src : ℕ) (n : Port) (hk : Keeps ⟨H1, H2, H3, H4, H5, H6, H7, H8, H9, false, H11, H12, H13, H14, H15⟩ s0 s) : Keeps ⟨H1, H2, H3, H4, H5, H6, H7, H8, H9, false, H11, H12, H13, H14, H15⟩ s0 (State.zeroChain s src n) := by
  unfold State.zeroChain
  extract_lets -merge -underBinder +onlyGivenNames x0 x1
  have hx1 : Keeps ⟨H1, H2, H3, H4, H5, H6, H7, H8, H9, false, H11, H12, H13, H14, H15⟩ s0 x1 := Keeps.ite (fun _ => State.put_keeps _ _ _ hk) (fun _ => hk)
  try clear_value x1
  exact Keeps.mk' hx1

theorem State.wakeBy_keeps (src : ℕ) (n : Port) (hk : Keeps ⟨H1, false, false, H4, false, false, H7, false, false, false, false, false, false, false, false⟩ s0 s) : Keeps ⟨H1, false, false, H4, false, false, H7, false, false, false, false, false, false, false, false⟩ s0 (State.wakeBy s src n) := by
  unfold State.wakeBy
  split
  · exact Keeps.ite (fun _ => hk) (fun _ => Keeps.ite (fun _ => State.zeroChain_keeps _ _ hk) (fun _ => State.wakeCore_keeps _ _ (Keeps.ite (fun _ => State.modeEnd_keeps _ hk) (fun _ => hk))))
  · exact Keeps.ite (fun _ => State.entryWake_keeps hk) (fun _ => hk)
  · exact hk

theorem State.watchSample_keeps (n : Port) (mv1 : ℕ) (mv2 : ℕ) (hk : Keeps ⟨H1, H2, H3, H4, H5, H6, H7, H8, H9, H10, H11, H12, H13, H14, false⟩ s0 s) : Keeps ⟨H1, H2, H3, H4, H5, H6, H7, H8, H9, H10, H11, H12, H13, H14, false⟩ s0 (State.watchSample s n mv1 mv2).1 := by
  unfold State.watchSample
  extract_lets -merge -underBinder +onlyGivenNames x0 x1
  have hx1 : Keeps ⟨H1, H2, H3, H4, H5, H6, H7, H8, H9, H10, H11, H12, H13, H14, false⟩ s0 x1 := State.lineShow_keeps _ (State.ccStore_keeps _ _ _ hk)
  try clear_value x1
  extract_lets -merge -underBinder +onlyGivenNames x2
  refine Keeps.mkFst ?_
  exact State.modCc_keeps _ _ hx1

theorem State.watchAll_keeps (l : List (Port × ℕ × ℕ)) (hk : Keeps ⟨H1, H2, H3, H4, H5, H6, H7, H8, H9, H10, H11, H12, H13, H14, false⟩ s0 s) : Keeps ⟨H1, H2, H3, H4, H5, H6, H7, H8, H9, H10, H11, H12, H13, H14, false⟩ s0 (State.watchAll s l).1 := by
  induction l generalizing s with
  | nil => exact hk
  | cons c l ih =>
    simp only [State.watchAll]
    exact ih (State.watchSample_keeps _ _ _ hk)

theorem State.watchWait_keeps (n : Port) (mv1 : ℕ) (mv2 : ℕ) (hk : Keeps ⟨H1, H2, H3, false, false, H6, H7, H8, H9, H10, H11, false, H13, H14, false⟩ s0 s) : Keeps ⟨H1, H2, H3, false, false, H6, H7, H8, H9, H10, H11, false, H13, H14, false⟩ s0 (State.watchWait s n mv1 mv2) := by
  unfold State.watchWait
  extract_lets -merge -underBinder +onlyGivenNames x0 x1
  have hx1 : Keeps ⟨H1, H2, H3, false, false, H6, H7, H8, H9, H10, H11, false, H13, H14, false⟩ s0 x1 := State.lineShow_keeps _ (Keeps.ite (fun _ => hk) (fun _ => State.ccStore_keeps _ _ _ hk))
  try clear_value x1
  refine Keeps.ite (fun _ => ?_) (fun _ => ?_)
  · split
    · exact State.modCc_keeps _ _ (State.ccEnter_keeps _ _ hx1)
    · exact State.modCc_keeps _ _ (State.ccEnter_keeps _ _ hx1)
    · exact hx1
  · exact hx1

theorem State.dozeTick_keeps (hk : Keeps H s0 s) : Keeps H s0 (State.dozeTick s) := by
  unfold State.dozeTick
  extract_lets -merge -underBinder +onlyGivenNames x0
  exact Keeps.ite (fun _ => Keeps.ite (fun _ => hk) (fun _ => State.put_keeps _ _ _ hk)) (fun _ => Keeps.ite (fun _ => State.put_keeps _ _ _ hk) (fun _ => hk))

theorem State.modMains_keeps (f : MainsSt → MainsSt) (hk : Keeps ⟨H1, H2, H3, H4, H5, H6, H7, H8, H9, false, H11, H12, H13, H14, H15⟩ s0 s) : Keeps ⟨H1, H2, H3, H4, H5, H6, H7, H8, H9, false, H11, H12, H13, H14, H15⟩ s0 (State.modMains s f) := by
  unfold State.modMains
  exact Keeps.mk' hk

theorem State.mainsBudget_keeps (hk : Keeps H s0 s) : Keeps H s0 (State.mainsBudget s) := by
  unfold State.mainsBudget
  extract_lets -merge -underBinder +onlyGivenNames x0
  exact State.put_keeps _ _ _ hk

theorem State.mainsLine_keeps (st : ℕ) (hk : Keeps H s0 s) : Keeps H s0 (State.mainsLine s st) := by
  unfold State.mainsLine
  extract_lets -merge -underBinder +onlyGivenNames x0
  have hx0 : Keeps H s0 x0 := State.raise_keeps _ _ (State.put_keeps _ _ _ hk)
  try clear_value x0
  extract_lets -merge -underBinder +onlyGivenNames x1
  have hx1 : Keeps H s0 x1 := by
    unfold x1
    split
    · exact State.raise_keeps _ _ hx0
    · exact State.raise_keeps _ _ hx0
    · exact State.raise_keeps _ _ hx0
    · exact hx0
  try clear_value x1
  exact Keeps.ite (fun _ => State.mainsBudget_keeps hk) (fun _ => State.mainsBudget_keeps hx1)

theorem State.mainsShow_keeps (hk : Keeps ⟨H1, H2, H3, H4, H5, H6, H7, H8, H9, false, H11, H12, H13, H14, H15⟩ s0 s) : Keeps ⟨H1, H2, H3, H4, H5, H6, H7, H8, H9, false, H11, H12, H13, H14, H15⟩ s0 (State.mainsShow s) := by
  unfold State.mainsShow
  extract_lets -merge -underBinder +onlyGivenNames x0 x1
  have hx1 : Keeps ⟨H1, H2, H3, H4, H5, H6, H7, H8, H9, false, H11, H12, H13, H14, H15⟩ s0 x1 := State.put_keeps _ _ _ (State.put_keeps _ _ _ (State.put_keeps _ _ _ hk))
  try clear_value x1
  extract_lets -merge -underBinder +onlyGivenNames x2
  have hx2 : Keeps ⟨H1, H2, H3, H4, H5, H6, H7, H8, H9, false, H11, H12, H13, H14, H15⟩ s0 x2 := State.bump_keeps _ _ _ (State.putB_keeps _ _ _ hx1)
  try clear_value x2
  exact Keeps.ite (fun _ => hk) (fun _ => State.mainsLine_keeps _ (State.modMains_keeps _ hx2))

theorem State.scrubCheck_keeps (wrong : BitVec 4) (hk : Keeps H s0 s) : Keeps H s0 (State.scrubCheck s wrong) := by
  unfold State.scrubCheck
  extract_lets -merge -underBinder +onlyGivenNames x0
  split
  · exact hk
  · extract_lets -merge -underBinder +onlyGivenNames x1
    extract_lets -merge -underBinder +onlyGivenNames x2 x3
    have hx3 : Keeps H s0 x3 := foldl_keeps _ hk (fun _ _ h4 => Keeps.ite (fun _ => State.stSpoil_keeps _ h4) (fun _ => h4))
    try clear_value x3
    extract_lets -merge -underBinder +onlyGivenNames x5
    have hx5 : Keeps H s0 x5 := Keeps.ite (fun _ => State.storeParity_keeps _ _ hx3) (fun _ => hx3)
    try clear_value x5
    extract_lets -merge -underBinder +onlyGivenNames x6 x7 x8
    have hx8 : Keeps H s0 x8 := Keeps.mk' hx5
    try clear_value x8
    extract_lets -merge -underBinder +onlyGivenNames x9 x10
    have hx10 : Keeps H s0 x10 := Keeps.mk' hx8
    try clear_value x10
    exact Keeps.ite (fun _ => State.put_keeps _ _ _ hx8) (fun _ => State.raise_keeps _ _ (State.incr_keeps _ _ (State.put_keeps _ _ _ hx10)))

theorem State.rewriteTest_keeps (same : Bool) (hk : Keeps H s0 s) : Keeps H s0 (State.rewriteTest s same) := by
  unfold State.rewriteTest
  split
  · exact hk
  · extract_lets -merge -underBinder +onlyGivenNames x0
    extract_lets -merge -underBinder +onlyGivenNames x1
    have hx1 : Keeps H s0 x1 := Keeps.mk' hk
    try clear_value x1
    exact Keeps.ite (fun _ => hx1) (fun _ => State.bankFaulty_keeps _ hx1)

theorem State.eraseSecrets_keeps (hk : Keeps ⟨H1, false, H3, false, H5, H6, H7, H8, H9, H10, H11, H12, H13, H14, H15⟩ s0 s) : Keeps ⟨H1, false, H3, false, H5, H6, H7, H8, H9, H10, H11, H12, H13, H14, H15⟩ s0 (State.eraseSecrets s) := by
  unfold State.eraseSecrets
  extract_lets -merge -underBinder +onlyGivenNames x0
  have hx0 : Keeps ⟨H1, false, H3, false, H5, H6, H7, H8, H9, H10, H11, H12, H13, H14, H15⟩ s0 x0 := State.nvdErasePage_keeps _ (State.nvdErasePage_keeps _ hk)
  try clear_value x0
  extract_lets -merge -underBinder +onlyGivenNames x1
  have hx1 : Keeps ⟨H1, false, H3, false, H5, H6, H7, H8, H9, H10, H11, H12, H13, H14, H15⟩ s0 x1 := hx0.aosFilter _
  try clear_value x1
  exact foldl_keeps _ hx1 (fun _ _ h2 => State.wr_keeps _ _ _ (State.wr_keeps _ _ _ h2))

theorem State.boardPad_keeps (i : Fin 8) (level : Option Bool) (hk : Keeps ⟨H1, H2, H3, H4, H5, H6, H7, H8, H9, false, H11, H12, H13, H14, H15⟩ s0 s) : Keeps ⟨H1, H2, H3, H4, H5, H6, H7, H8, H9, false, H11, H12, H13, H14, H15⟩ s0 (State.boardPad s i level) := by
  unfold State.boardPad
  exact Keeps.mk' hk

theorem State.bootSupply_keeps (src : ℕ) (ext : Bool) (hk : Keeps H s0 s) : Keeps H s0 (State.bootSupply s src ext) := by
  unfold State.bootSupply
  extract_lets -merge -underBinder +onlyGivenNames x0
  have hx0 : Keeps H s0 x0 := State.put_keeps _ _ _ hk
  try clear_value x0
  extract_lets -merge -underBinder +onlyGivenNames x1
  have hx1 : Keeps H s0 x1 := State.putB_keeps _ _ _ hx0
  try clear_value x1
  extract_lets -merge -underBinder +onlyGivenNames x2
  have hx2 : Keeps H s0 x2 := State.putB_keeps _ _ _ hx1
  try clear_value x2
  extract_lets -merge -underBinder +onlyGivenNames x3
  have hx3 : Keeps H s0 x3 := State.putB_keeps _ _ _ (State.putB_keeps _ _ _ hx2)
  try clear_value x3
  extract_lets -merge -underBinder +onlyGivenNames x4
  have hx4 : Keeps H s0 x4 := State.putB_keeps _ _ _ hx3
  try clear_value x4
  extract_lets -merge -underBinder +onlyGivenNames x5
  have hx5 : Keeps H s0 x5 := State.put_keeps _ _ _ (State.put_keeps _ _ _ hx4)
  try clear_value x5
  exact State.put_keeps _ _ _ (State.putB_keeps _ _ _ hx5)

theorem State.bootStraps_keeps (role : ℕ) (ad : ℕ) (hk : Keeps H s0 s) : Keeps H s0 (State.bootStraps s role ad) := by
  unfold State.bootStraps
  extract_lets -merge -underBinder +onlyGivenNames x0
  have hx0 : Keeps H s0 x0 := State.put_keeps _ _ _ (State.put_keeps _ _ _ (State.put_keeps _ _ _ hk))
  try clear_value x0
  exact State.hgSolo_keeps (State.putB_keeps _ _ _ hx0)

theorem State.bootOtp_keeps (hk : Keeps ⟨H1, H2, H3, H4, H5, H6, false, H8, H9, H10, H11, H12, H13, H14, H15⟩ s0 s) : Keeps ⟨H1, H2, H3, H4, H5, H6, false, H8, H9, H10, H11, H12, H13, H14, H15⟩ s0 (State.bootOtp s) := by
  unfold State.bootOtp
  extract_lets -merge -underBinder +onlyGivenNames x0 x1 x2 x3 x4 x5 x6 x7 x8
  have hx8 : Keeps ⟨H1, H2, H3, H4, H5, H6, false, H8, H9, H10, H11, H12, H13, H14, H15⟩ s0 x8 := Keeps.mk' hk
  try clear_value x8
  extract_lets -merge -underBinder +onlyGivenNames x9
  have hx9 : Keeps ⟨H1, H2, H3, H4, H5, H6, false, H8, H9, H10, H11, H12, H13, H14, H15⟩ s0 x9 := State.put_keeps _ _ _ (State.put_keeps _ _ _ hx8)
  try clear_value x9
  exact State.putB_keeps _ _ _ hx9

theorem State.bootIdent_keeps (hk : Keeps H s0 s) : Keeps H s0 (State.bootIdent s) := by
  unfold State.bootIdent
  extract_lets -merge -underBinder +onlyGivenNames x0 x1 x2
  split
  · extract_lets -merge -underBinder +onlyGivenNames x3
    extract_lets -merge -underBinder +onlyGivenNames x4 x5
    have hx5 : Keeps H s0 x5 := State.put_keeps _ _ _ (State.put_keeps _ _ _ hk)
    try clear_value x5
    extract_lets -merge -underBinder +onlyGivenNames x6
    have hx6 : Keeps H s0 x6 := State.put_keeps _ _ _ (State.put_keeps _ _ _ hx5)
    try clear_value x6
    extract_lets -merge -underBinder +onlyGivenNames x7
    have hx7 : Keeps H s0 x7 := State.put_keeps _ _ _ (State.put_keeps _ _ _ (State.put_keeps _ _ _ hx6))
    try clear_value x7
    extract_lets -merge -underBinder +onlyGivenNames x8
    have hx8 : Keeps H s0 x8 := State.put_keeps _ _ _ (State.put_keeps _ _ _ hx7)
    try clear_value x8
    extract_lets -merge -underBinder +onlyGivenNames x9
    have hx9 : Keeps H s0 x9 := State.putB_keeps _ _ _ (State.put_keeps _ _ _ hx8)
    try clear_value x9
    exact State.putB_keeps _ _ _ (State.putB_keeps _ _ _ hx9)

theorem State.bootErase_keeps (hk : Keeps ⟨H1, false, H3, false, H5, H6, false, H8, H9, H10, H11, H12, H13, H14, H15⟩ s0 s) : Keeps ⟨H1, false, H3, false, H5, H6, false, H8, H9, H10, H11, H12, H13, H14, H15⟩ s0 (State.bootErase s) := by
  unfold State.bootErase
  exact Keeps.ite (fun _ => State.bootWrite_keeps _ (State.eraseSecrets_keeps hk)) (fun _ => hk)

theorem State.aonApply_keeps (hk : Keeps H s0 s) : Keeps H s0 (State.aonApply s) := by
  unfold State.aonApply
  extract_lets -merge -underBinder +onlyGivenNames x0
  have hx0 : ∀ a0 a1 a2, Keeps H s0 a0 → Keeps H s0 (x0 a0 a1 a2) := by
    intro s1_0 s1_1 s1_2 hs1_1
    unfold x0
    beta_reduce
    exact hs1_1.inForceSet _ _
  try clear_value x0
  extract_lets -merge -underBinder +onlyGivenNames x2
  have hx2 : Keeps H s0 x2 := by
    unfold x2
    refine hx0 _ _ _ ?_
    exact hk
  try clear_value x2
  refine State.forPorts_keeps ?_ ?_
  · exact hx2
  · intro s3_0 s3_1 hs3_1
    extract_lets -merge -underBinder +onlyGivenNames x4
    have hx4 : Keeps H s0 x4 := by
      unfold x4
      refine foldl_keeps _ ?_ ?_
      · exact hs3_1
      · intro s5_0 s5_1 hs5_1
        refine hx0 _ _ _ ?_
        exact hs5_1
    try clear_value x4
    refine foldl_keeps _ ?_ ?_
    · exact hx4
    · intro s6_0 s6_1 hs6_1
      refine hx0 _ _ _ ?_
      exact hs6_1

theorem State.telemetry_keeps (tick : ℕ) (hk : Keeps ⟨H1, H2, H3, H4, false, H6, H7, H8, H9, H10, H11, H12, H13, H14, H15⟩ s0 s) : Keeps ⟨H1, H2, H3, H4, false, H6, H7, H8, H9, H10, H11, H12, H13, H14, H15⟩ s0 (State.telemetry s tick) := by
  unfold State.telemetry
  exact State.forPorts_keeps hk (fun _ _ h0 => Keeps.ite (fun _ => State.stRecord_keeps _ _ h0) (fun _ => h0))

theorem State.rampOkTick_keeps (hk : Keeps H s0 s) : Keeps H s0 (State.rampOkTick s) := by
  unfold State.rampOkTick
  extract_lets -merge -underBinder +onlyGivenNames x0
  exact Keeps.ite (fun _ => State.put_keeps _ _ _ hk) (fun _ => hk)

theorem State.tickOut_keeps (hk : Keeps H s0 s) : Keeps H s0 (State.tickOut s) := by
  unfold State.tickOut
  extract_lets -merge -underBinder +onlyGivenNames x0 x1 x2 x3 x4
  have hx4 : Keeps H s0 x4 := Keeps.mk' hk
  try clear_value x4
  exact State.gpioWatch_keeps (Keeps.ite (fun _ => hx4) (fun _ => State.raiseBits_keeps _ _ hx4))

theorem State.portsTick_keeps (v : Port → List ℕ) (trips : Bool) (hk : Keeps ⟨H1, H2, H3, false, false, H6, H7, H8, H9, H10, H11, false, H13, H14, false⟩ s0 s) : Keeps ⟨H1, H2, H3, false, false, H6, H7, H8, H9, H10, H11, false, H13, H14, false⟩ s0 (State.portsTick s v trips) := by
  unfold State.portsTick
  extract_lets -merge -underBinder +onlyGivenNames x0
  have hx0 : Keeps ⟨H1, H2, H3, false, false, H6, H7, H8, H9, H10, H11, false, H13, H14, false⟩ s0 x0 := Keeps.ite (fun _ => State.forPorts_keeps hk (fun _ _ h1 => Keeps.ite (fun _ => State.slowTrips_keeps _ _ _ h1) (fun _ => h1))) (fun _ => hk)
  try clear_value x0
  extract_lets -merge -underBinder +onlyGivenNames x2
  have hx2 : Keeps ⟨H1, H2, H3, false, false, H6, H7, H8, H9, H10, H11, false, H13, H14, false⟩ s0 x2 := State.aonApply_keeps hx0
  try clear_value x2
  refine State.forPorts_keeps ?_ ?_
  · exact hx2
  · intro s3_0 s3_1 hs3_1
    extract_lets -merge -underBinder +onlyGivenNames x4 x5
    have hx5 : Keeps ⟨H1, H2, H3, false, false, H6, H7, H8, H9, H10, H11, false, H13, H14, false⟩ s0 x5 := State.transStep_keeps _ _ (State.polTick_keeps _ (State.ccTick_keeps _ hs3_1))
    try clear_value x5
    extract_lets -merge -underBinder +onlyGivenNames x6
    exact State.guardTick_keeps _ (State.windowTick_keeps _ _ hx5)

theorem State.motnTick_keeps (high : Bool) (hk : Keeps ⟨H1, H2, H3, H4, H5, H6, H7, H8, H9, false, H11, H12, H13, H14, H15⟩ s0 s) : Keeps ⟨H1, H2, H3, H4, H5, H6, H7, H8, H9, false, H11, H12, H13, H14, H15⟩ s0 (State.motnTick s high) := by
  unfold State.motnTick
  exact Keeps.mk' hk

theorem State.countTick_keeps (hk : Keeps ⟨false, H2, H3, H4, H5, H6, H7, H8, H9, H10, H11, H12, H13, H14, H15⟩ s0 s) : Keeps ⟨false, H2, H3, H4, H5, H6, H7, H8, H9, H10, H11, H12, H13, H14, H15⟩ s0 (State.countTick s) := by
  unfold State.countTick
  extract_lets -merge -underBinder +onlyGivenNames x0
  have hx0 : Keeps ⟨false, H2, H3, H4, H5, H6, H7, H8, H9, H10, H11, H12, H13, H14, H15⟩ s0 x0 := State.put_keeps _ _ _ (State.setTick_keeps _ hk)
  try clear_value x0
  exact State.raiseIf_keeps _ _ _ hx0

theorem State.blocksDone_keeps (hk : Keeps H s0 s) : Keeps H s0 (State.blocksDone s) := by
  unfold State.blocksDone
  exact foldl_keeps _ hk (fun _ _ h0 => State.blockDone_keeps _ h0)

theorem State.boundary_keeps (x : TickIn) (hk : Keeps ⟨false, H2, H3, false, false, H6, H7, false, false, false, H11, false, false, false, false⟩ s0 s) : Keeps ⟨false, H2, H3, false, false, H6, H7, false, false, false, H11, false, false, false, false⟩ s0 (State.boundary s x) := by
  unfold State.boundary
  extract_lets -merge -underBinder +onlyGivenNames x0 x1 x2 x3
  have hx3 : Keeps ⟨false, H2, H3, false, false, H6, H7, false, false, false, H11, false, false, false, false⟩ s0 x3 := State.forPorts_keeps hk (fun _ _ h4 => State.measTick_keeps _ _ _ h4)
  try clear_value x3
  extract_lets -merge -underBinder +onlyGivenNames x5
  have hx5 : Keeps ⟨false, H2, H3, false, false, H6, H7, false, false, false, H11, false, false, false, false⟩ s0 x5 := Keeps.ite (fun _ => hx3) (fun _ => State.telemetry_keeps _ hx3)
  try clear_value x5
  extract_lets -merge -underBinder +onlyGivenNames x6
  have hx6 : Keeps ⟨false, H2, H3, false, false, H6, H7, false, false, false, H11, false, false, false, false⟩ s0 x6 := State.tickOut_keeps (State.motnTick_keeps _ (State.countTick_keeps hx5))
  try clear_value x6
  extract_lets -merge -underBinder +onlyGivenNames x7
  have hx7 : Keeps ⟨false, H2, H3, false, false, H6, H7, false, false, false, H11, false, false, false, false⟩ s0 x7 := State.placerTick_keeps hx6
  try clear_value x7
  extract_lets -merge -underBinder +onlyGivenNames x8
  have hx8 : Keeps ⟨false, H2, H3, false, false, H6, H7, false, false, false, H11, false, false, false, false⟩ s0 x8 := State.portsTick_keeps _ _ hx7
  try clear_value x8
  extract_lets -merge -underBinder +onlyGivenNames x9
  have hx9 : Keeps ⟨false, H2, H3, false, false, H6, H7, false, false, false, H11, false, false, false, false⟩ s0 x9 := State.rampOkTick_keeps (State.cmptTick_keeps _ _ hx8)
  try clear_value x9
  extract_lets -merge -underBinder +onlyGivenNames x10
  have hx10 : Keeps ⟨false, H2, H3, false, false, H6, H7, false, false, false, H11, false, false, false, false⟩ s0 x10 := State.twinTick_keeps (State.shareTick_keeps hx9)
  try clear_value x10
  extract_lets -merge -underBinder +onlyGivenNames x11
  have hx11 : Keeps ⟨false, H2, H3, false, false, H6, H7, false, false, false, H11, false, false, false, false⟩ s0 x11 := State.fleetTick_keeps _ hx10
  try clear_value x11
  extract_lets -merge -underBinder +onlyGivenNames x12
  have hx12 : Keeps ⟨false, H2, H3, false, false, H6, H7, false, false, false, H11, false, false, false, false⟩ s0 x12 := State.energyZero_keeps hx11
  try clear_value x12
  extract_lets -merge -underBinder +onlyGivenNames x13
  have hx13 : Keeps ⟨false, H2, H3, false, false, H6, H7, false, false, false, H11, false, false, false, false⟩ s0 x13 := Keeps.ite (fun _ => hx12) (fun _ => State.energyTick_keeps hx12)
  try clear_value x13
  extract_lets -merge -underBinder +onlyGivenNames x14
  have hx14 : Keeps ⟨false, H2, H3, false, false, H6, H7, false, false, false, H11, false, false, false, false⟩ s0 x14 := State.gaugeTick_keeps (State.energyPost_keeps (State.placeTick_keeps hx13))
  try clear_value x14
  extract_lets -merge -underBinder +onlyGivenNames x15
  have hx15 : Keeps ⟨false, H2, H3, false, false, H6, H7, false, false, false, H11, false, false, false, false⟩ s0 x15 := State.forPorts_keeps hx14 (fun _ _ h16 => State.policyTick_keeps _ h16)
  try clear_value x15
  extract_lets -merge -underBinder +onlyGivenNames x17
  have hx17 : Keeps ⟨false, H2, H3, false, false, H6, H7, false, false, false, H11, false, false, false, false⟩ s0 x17 := Keeps.ite (fun _ => State.cutCheck_keeps hx15) (fun _ => hx15)
  try clear_value x17
  extract_lets -merge -underBinder +onlyGivenNames x18
  have hx18 : Keeps ⟨false, H2, H3, false, false, H6, H7, false, false, false, H11, false, false, false, false⟩ s0 x18 := State.dozeTick_keeps (State.blocksDone_keeps (State.migrateTick_keeps hx17))
  try clear_value x18
  extract_lets -merge -underBinder +onlyGivenNames x19 x20
  have hx20 : Keeps ⟨false, H2, H3, false, false, H6, H7, false, false, false, H11, false, false, false, false⟩ s0 x20 := Keeps.mk' hx18
  try clear_value x20
  exact State.hostWatch_keeps hx20

end Sys2Proof.Machine
end

