-- ==== Sys2Proof/Laws/KeepsCmds.lean ====
section
/-!
SUPPORT. Every meaning but the six of a reset of the POR class, a cold reset or the debug latch answers a next state that keeps what `Keeps` lists.
-/

set_option Elab.async false

namespace Sys2Proof.Machine

variable {s : State}

theorem execReceiveFrame_answers (n : Port) (f : PdFrame) : Answers ⟨true, true, true, false, false, true, true, true, true, true, true, true, true, true, false⟩ s (execReceiveFrame n f s) := by
  have hk : Keeps ⟨true, true, true, false, false, true, true, true, true, true, true, true, true, true, false⟩ s s := Keeps.refl _ _
  unfold execReceiveFrame
  refine Answers.next ?_
  exact State.cmd_keeps _ hk (fun _ h0 => State.rxFrame_keeps _ _ h0)

theorem execSendGoodcrc_answers (n : Port) : Answers ⟨true, true, true, true, true, true, true, true, true, true, true, true, true, true, false⟩ s (execSendGoodcrc n s) := by
  have hk : Keeps ⟨true, true, true, true, true, true, true, true, true, true, true, true, true, true, false⟩ s s := Keeps.refl _ _
  unfold execSendGoodcrc
  refine Answers.next ?_
  refine State.cmd_keeps _ ?_ ?_
  · exact hk
  · intro s0_0 hs0_1
    split
    · exact hs0_1
    · extract_lets -merge -underBinder +onlyGivenNames x1
      exact State.modPdl_keeps _ _ (Keeps.ite (fun _ => State.lineOut_keeps _ _ _ hs0_1) (fun _ => hs0_1))

theorem execAutoAnswer_answers (n : Port) : Answers ⟨true, true, true, true, false, true, true, true, true, true, true, true, true, true, false⟩ s (execAutoAnswer n s) := by
  have hk : Keeps ⟨true, true, true, true, false, true, true, true, true, true, true, true, true, true, false⟩ s s := Keeps.refl _ _
  unfold execAutoAnswer
  refine Answers.next ?_
  refine State.cmd_keeps _ ?_ ?_
  · exact hk
  · intro s0_0 hs0_1
    refine Keeps.ite (fun _ => ?_) (fun _ => ?_)
    · exact hs0_1
    · split
      · exact State.layerSend_keeps _ _ _ hs0_1
      · exact hs0_1

theorem execTxReq_answers (n : Port) (i : Fin 16) : Answers ⟨true, true, true, true, false, true, true, true, true, true, true, true, true, true, false⟩ s (execTxReq n i s) := by
  have hk : Keeps ⟨true, true, true, true, false, true, true, true, true, true, true, true, true, true, false⟩ s s := Keeps.refl _ _
  unfold execTxReq
  refine Answers.next ?_
  exact State.cmd_keeps _ hk (fun _ h0 => State.txReq_keeps _ _ h0)

theorem execTxHeadCheck_answers (n : Port) : Answers ⟨true, true, true, true, false, true, true, true, true, true, true, true, true, true, false⟩ s (execTxHeadCheck n s) := by
  have hk : Keeps ⟨true, true, true, true, false, true, true, true, true, true, true, true, true, true, false⟩ s s := Keeps.refl _ _
  unfold execTxHeadCheck
  refine Answers.next ?_
  exact State.cmd_keeps _ hk (fun _ h0 => State.txCheck_keeps _ h0)

theorem execCollisionHoldEnd_answers (n : Port) : Answers ⟨true, true, true, true, false, true, true, true, true, true, true, true, true, true, false⟩ s (execCollisionHoldEnd n s) := by
  have hk : Keeps ⟨true, true, true, true, false, true, true, true, true, true, true, true, true, true, false⟩ s s := Keeps.refl _ _
  unfold execCollisionHoldEnd
  refine Answers.next ?_
  refine State.cmd_keeps _ ?_ ?_
  · exact hk
  · intro s0_0 hs0_1
    extract_lets -merge -underBinder +onlyGivenNames x1
    have hx1 : Keeps ⟨true, true, true, true, false, true, true, true, true, true, true, true, true, true, false⟩ s x1 := State.modPdl_keeps _ _ hs0_1
    try clear_value x1
    exact Keeps.ite (fun _ => Keeps.ite (fun _ => State.txSend_keeps _ hx1) (fun _ => hx1)) (fun _ => hs0_1)

theorem execTransmitFrame_answers (n : Port) : Answers ⟨true, true, true, true, false, true, true, true, true, true, true, true, true, true, false⟩ s (execTransmitFrame n s) := by
  have hk : Keeps ⟨true, true, true, true, false, true, true, true, true, true, true, true, true, true, false⟩ s s := Keeps.refl _ _
  unfold execTransmitFrame
  refine Answers.next ?_
  exact State.cmd_keeps _ hk (fun _ h0 => State.txNext_keeps _ h0)

theorem execGoodcrcTimeout_answers (n : Port) : Answers ⟨true, true, true, true, false, true, true, true, true, true, true, true, true, true, false⟩ s (execGoodcrcTimeout n s) := by
  have hk : Keeps ⟨true, true, true, true, false, true, true, true, true, true, true, true, true, true, false⟩ s s := Keeps.refl _ _
  unfold execGoodcrcTimeout
  refine Answers.next ?_
  exact State.cmd_keeps _ hk (fun _ h0 => State.gcrcTimeout_keeps _ h0)

theorem execChunkRequestSend_answers (n : Port) : Answers ⟨true, true, true, true, false, true, true, true, true, true, true, true, true, true, false⟩ s (execChunkRequestSend n s) := by
  have hk : Keeps ⟨true, true, true, true, false, true, true, true, true, true, true, true, true, true, false⟩ s s := Keeps.refl _ _
  unfold execChunkRequestSend
  refine Answers.next ?_
  refine State.cmd_keeps _ ?_ ?_
  · exact hk
  · intro s0_0 hs0_1
    refine Keeps.ite (fun _ => ?_) (fun _ => ?_)
    · exact hs0_1
    · split
      · exact hs0_1
      · extract_lets -merge -underBinder +onlyGivenNames x1
        extract_lets -merge -underBinder +onlyGivenNames x2 x3
        exact State.layerSend_keeps _ _ _ (State.reasmSet_keeps _ _ hs0_1)

theorem execChunkWaitTimeout_answers (n : Port) : Answers ⟨true, true, true, true, false, true, true, true, true, true, true, true, true, true, false⟩ s (execChunkWaitTimeout n s) := by
  have hk : Keeps ⟨true, true, true, true, false, true, true, true, true, true, true, true, true, true, false⟩ s s := Keeps.refl _ _
  unfold execChunkWaitTimeout
  refine Answers.next ?_
  refine State.cmd_keeps _ ?_ ?_
  · exact hk
  · intro s0_0 hs0_1
    split
    · exact State.reasmAbort_keeps _ _ _ hs0_1
    · split
      · exact Keeps.ite (fun _ => State.txOver_keeps _ _ _ hs0_1) (fun _ => hs0_1)
      · exact hs0_1

theorem execPdlCmdHardReset_answers (n : Port) (key : BitVec 16) : Answers ⟨true, true, true, true, false, true, true, true, true, true, true, true, true, true, false⟩ s (execPdlCmdHardReset n key s) := by
  have hk : Keeps ⟨true, true, true, true, false, true, true, true, true, true, true, true, true, true, false⟩ s s := Keeps.refl _ _
  unfold execPdlCmdHardReset
  refine Answers.next ?_
  exact State.keyCmd_keeps _ _ _ hk (fun _ h0 => State.hardResetStart_keeps _ h0)

theorem execHardResetSent_answers (n : Port) : Answers ⟨true, true, true, false, false, true, true, true, true, true, true, true, true, true, false⟩ s (execHardResetSent n s) := by
  have hk : Keeps ⟨true, true, true, false, false, true, true, true, true, true, true, true, true, true, false⟩ s s := Keeps.refl _ _
  unfold execHardResetSent
  refine Answers.next ?_
  exact State.cmd_keeps _ hk (fun _ h0 => Keeps.ite (fun _ => State.hardReset_keeps _ _ (State.lineOut_keeps _ _ _ h0)) (fun _ => h0))

theorem execHardResetReceived_answers (n : Port) : Answers ⟨true, true, true, false, false, true, true, true, true, true, true, true, true, true, false⟩ s (execHardResetReceived n s) := by
  have hk : Keeps ⟨true, true, true, false, false, true, true, true, true, true, true, true, true, true, false⟩ s s := Keeps.refl _ _
  unfold execHardResetReceived
  refine Answers.next ?_
  exact State.cmd_keeps _ hk (fun _ h0 => Keeps.ite (fun _ => State.hardReset_keeps _ _ h0) (fun _ => h0))

theorem execPdlCmdCableReset_answers (n : Port) (key : BitVec 16) : Answers ⟨true, true, true, true, false, true, true, true, true, true, true, true, true, true, false⟩ s (execPdlCmdCableReset n key s) := by
  have hk : Keeps ⟨true, true, true, true, false, true, true, true, true, true, true, true, true, true, false⟩ s s := Keeps.refl _ _
  unfold execPdlCmdCableReset
  refine Answers.next ?_
  exact State.keyCmd_keeps _ _ _ hk (fun _ h0 => State.cableReset_keeps _ h0)

theorem execPdlCmdAmsEnd_answers (n : Port) (key : BitVec 16) : Answers ⟨true, true, true, true, true, true, true, true, true, true, true, true, true, true, false⟩ s (execPdlCmdAmsEnd n key s) := by
  have hk : Keeps ⟨true, true, true, true, true, true, true, true, true, true, true, true, true, true, false⟩ s s := Keeps.refl _ _
  unfold execPdlCmdAmsEnd
  refine Answers.next ?_
  exact State.keyCmd_keeps _ _ _ hk (fun _ h0 => State.amsEnd_keeps _ h0)

theorem execPdlCmdHrComplete_answers (n : Port) (key : BitVec 16) : Answers .all s (execPdlCmdHrComplete n key s) := by
  have hk : Keeps .all s s := Keeps.refl _ _
  unfold execPdlCmdHrComplete
  refine Answers.next ?_
  exact State.keyCmd_keeps _ _ _ hk (fun _ h0 => State.put_keeps _ _ _ h0)

theorem execPdlCmdCancel_answers (n : Port) (key : BitVec 16) : Answers ⟨true, true, true, true, false, true, true, true, true, true, true, true, true, true, false⟩ s (execPdlCmdCancel n key s) := by
  have hk : Keeps ⟨true, true, true, true, false, true, true, true, true, true, true, true, true, true, false⟩ s s := Keeps.refl _ _
  unfold execPdlCmdCancel
  refine Answers.next ?_
  exact State.keyCmd_keeps _ _ _ hk (fun _ h0 => State.txCancel_keeps _ h0)

theorem execPdlCmdClearStats_answers (n : Port) (key : BitVec 16) : Answers .all s (execPdlCmdClearStats n key s) := by
  have hk : Keeps .all s s := Keeps.refl _ _
  unfold execPdlCmdClearStats
  refine Answers.next ?_
  exact State.keyCmd_keeps _ _ _ hk (fun _ h0 => State.pdlClearStats_keeps _ h0)

theorem execMsgidLoad_answers (n : Port) (v : Word) : Answers .all s (execMsgidLoad n v s) := by
  have hk : Keeps .all s s := Keeps.refl _ _
  unfold execMsgidLoad
  refine Answers.next ?_
  exact State.cmd_keeps _ hk (fun _ h0 => State.msgidLoad_keeps _ _ h0)

theorem execPdlEnableWrite_answers (n : Port) (on : Bool) : Answers ⟨true, true, true, true, false, true, true, true, true, true, true, true, true, true, false⟩ s (execPdlEnableWrite n on s) := by
  have hk : Keeps ⟨true, true, true, true, false, true, true, true, true, true, true, true, true, true, false⟩ s s := Keeps.refl _ _
  unfold execPdlEnableWrite
  refine Answers.next ?_
  exact State.cmd_keeps _ hk (fun _ h0 => State.pdlEnable_keeps _ _ h0)

theorem execXbufRel_answers (n : Port) (m : BitVec 4) : Answers .all s (execXbufRel n m s) := by
  have hk : Keeps .all s s := Keeps.refl _ _
  unfold execXbufRel
  refine Answers.next ?_
  exact State.cmd_keeps _ hk (fun _ h0 => State.xbufRel_keeps _ _ h0)

theorem execRxRdWrite_answers (n : Port) (i : BitVec 6) : Answers .all s (execRxRdWrite n i s) := by
  have hk : Keeps .all s s := Keeps.refl _ _
  unfold execRxRdWrite
  refine Answers.next ?_
  exact State.cmd_keeps _ hk (fun _ h0 => State.put_keeps _ _ _ h0)

theorem execBistCarrierEnd_answers (n : Port) : Answers ⟨true, true, true, true, true, true, true, true, true, true, true, true, true, true, false⟩ s (execBistCarrierEnd n s) := by
  have hk : Keeps ⟨true, true, true, true, true, true, true, true, true, true, true, true, true, true, false⟩ s s := Keeps.refl _ _
  unfold execBistCarrierEnd
  refine Answers.next ?_
  exact State.cmd_keeps _ hk (fun _ h0 => State.modPdl_keeps _ _ h0)

theorem execConCommit_answers (n : Port) (gen : BitVec 8) : Answers ⟨true, true, true, true, true, true, true, true, true, true, true, true, true, true, false⟩ s (execConCommit n gen s) := by
  have hk : Keeps ⟨true, true, true, true, true, true, true, true, true, true, true, true, true, true, false⟩ s s := Keeps.refl _ _
  unfold execConCommit
  refine Answers.next ?_
  exact State.cmd_keeps _ hk (fun _ h0 => State.polQueue_keeps _ _ h0)

theorem execConClear_answers (n : Port) (gen : BitVec 8) : Answers ⟨true, true, true, true, true, true, true, true, true, true, true, true, true, true, false⟩ s (execConClear n gen s) := by
  have hk : Keeps ⟨true, true, true, true, true, true, true, true, true, true, true, true, true, true, false⟩ s s := Keeps.refl _ _
  unfold execConClear
  refine Answers.next ?_
  exact State.cmd_keeps _ hk (fun _ h0 => State.polQueue_keeps _ _ h0)

theorem execTransGo_answers (n : Port) (vNew : BitVec 12) (gen : BitVec 8) : Answers ⟨true, true, true, true, true, true, true, true, true, true, true, true, true, true, false⟩ s (execTransGo n vNew gen s) := by
  have hk : Keeps ⟨true, true, true, true, true, true, true, true, true, true, true, true, true, true, false⟩ s s := Keeps.refl _ _
  unfold execTransGo
  refine Answers.next ?_
  exact State.cmd_keeps _ hk (fun _ h0 => State.polQueue_keeps _ _ h0)

theorem execTransitionStart_answers (n : Port) : Answers ⟨true, true, true, true, true, true, true, true, true, true, true, true, true, true, false⟩ s (execTransitionStart n s) := by
  have hk : Keeps ⟨true, true, true, true, true, true, true, true, true, true, true, true, true, true, false⟩ s s := Keeps.refl _ _
  unfold execTransitionStart
  refine Answers.next ?_
  extract_lets -merge -underBinder +onlyGivenNames x0 x1 x2 x3
  have hx3 : Keeps ⟨true, true, true, true, true, true, true, true, true, true, true, true, true, true, false⟩ s x3 := State.modPol_keeps _ _ (State.put_keeps _ _ _ hk)
  try clear_value x3
  extract_lets -merge -underBinder +onlyGivenNames x4
  have hx4 : Keeps ⟨true, true, true, true, true, true, true, true, true, true, true, true, true, true, false⟩ s x4 := State.windowTick_keeps _ _ (State.setTarget_keeps _ _ hx3)
  try clear_value x4
  exact Keeps.ite (fun _ => Keeps.ite (fun _ => State.dschOn_keeps _ _ _ (State.put_keeps _ _ _ hx4)) (fun _ => hx4)) (fun _ => hk)

theorem execTransDone_answers (n : Port) : Answers ⟨true, true, true, true, false, true, true, true, true, true, true, true, true, true, false⟩ s (execTransDone n s) := by
  have hk : Keeps ⟨true, true, true, true, false, true, true, true, true, true, true, true, true, true, false⟩ s s := Keeps.refl _ _
  unfold execTransDone
  refine Answers.next ?_
  extract_lets -merge -underBinder +onlyGivenNames x0 x1 x2
  have hx2 : Keeps ⟨true, true, true, true, false, true, true, true, true, true, true, true, true, true, false⟩ s x2 := State.assistEnd_keeps _ (State.put_keeps _ _ _ hk)
  try clear_value x2
  extract_lets -merge -underBinder +onlyGivenNames x3
  have hx3 : Keeps ⟨true, true, true, true, false, true, true, true, true, true, true, true, true, true, false⟩ s x3 := State.windowTick_keeps _ _ hx2
  try clear_value x3
  extract_lets -merge -underBinder +onlyGivenNames x4
  have hx4 : Keeps ⟨true, true, true, true, false, true, true, true, true, true, true, true, true, true, false⟩ s x4 := State.modGuard_keeps _ _ hx3
  try clear_value x4
  extract_lets -merge -underBinder +onlyGivenNames x5
  have hx5 : Keeps ⟨true, true, true, true, false, true, true, true, true, true, true, true, true, true, false⟩ s x5 := State.polEvt_keeps _ _ hx4
  try clear_value x5
  exact Keeps.ite (fun _ => Keeps.ite (fun _ => State.fwSendFor_keeps _ _ _ _ _ _ hx5) (fun _ => hx5)) (fun _ => hk)

theorem execTransFail_answers (n : Port) : Answers ⟨true, true, true, false, false, true, true, true, true, true, true, true, true, true, false⟩ s (execTransFail n s) := by
  have hk : Keeps ⟨true, true, true, false, false, true, true, true, true, true, true, true, true, true, false⟩ s s := Keeps.refl _ _
  unfold execTransFail
  refine Answers.next ?_
  extract_lets -merge -underBinder +onlyGivenNames x0
  exact Keeps.ite (fun _ => State.transFail_keeps _ hk) (fun _ => hk)

theorem execRoleCmd_answers (n : Port) (dfp : Bool) (gen : BitVec 8) : Answers ⟨true, true, true, true, true, true, true, true, true, true, true, true, true, true, false⟩ s (execRoleCmd n dfp gen s) := by
  have hk : Keeps ⟨true, true, true, true, true, true, true, true, true, true, true, true, true, true, false⟩ s s := Keeps.refl _ _
  unfold execRoleCmd
  refine Answers.next ?_
  exact State.cmd_keeps _ hk (fun _ h0 => State.polQueue_keeps _ _ h0)

theorem execHrWaitExpiry_answers (n : Port) : Answers ⟨true, true, true, true, true, true, true, true, true, true, true, true, true, true, false⟩ s (execHrWaitExpiry n s) := by
  have hk : Keeps ⟨true, true, true, true, true, true, true, true, true, true, true, true, true, true, false⟩ s s := Keeps.refl _ _
  unfold execHrWaitExpiry
  refine Answers.next ?_
  extract_lets -merge -underBinder +onlyGivenNames x0
  have hx0 : Keeps ⟨true, true, true, true, true, true, true, true, true, true, true, true, true, true, false⟩ s x0 := State.setTarget_keeps _ _ (State.dschOn_keeps _ _ _ (State.guardOff_keeps _ hk))
  try clear_value x0
  extract_lets -merge -underBinder +onlyGivenNames x1
  have hx1 : Keeps ⟨true, true, true, true, true, true, true, true, true, true, true, true, true, true, false⟩ s x1 := State.vconnOff_keeps _ (State.setWin_keeps _ _ _ hx0)
  try clear_value x1
  exact Keeps.ite (fun _ => State.put_keeps _ _ _ hx1) (fun _ => hk)

theorem execHrVsafe0_answers (n : Port) (mv : ℕ) : Answers ⟨true, true, true, true, false, true, true, true, true, true, true, true, true, true, false⟩ s (execHrVsafe0 n mv s) := by
  have hk : Keeps ⟨true, true, true, true, false, true, true, true, true, true, true, true, true, true, false⟩ s s := Keeps.refl _ _
  unfold execHrVsafe0
  refine Answers.next ?_
  extract_lets -merge -underBinder +onlyGivenNames x0
  have hx0 : Keeps ⟨true, true, true, true, false, true, true, true, true, true, true, true, true, true, false⟩ s x0 := State.setVbus_keeps _ _ hk
  try clear_value x0
  extract_lets -merge -underBinder +onlyGivenNames x1
  exact Keeps.ite (fun _ => State.polEvt_keeps _ _ (State.modPol_keeps _ _ (State.put_keeps _ _ _ (State.dschOff_keeps _ hx0)))) (fun _ => hx0)

theorem execHrRecoverExpiry_answers (n : Port) : Answers ⟨true, true, true, true, true, true, true, true, true, true, true, true, true, true, false⟩ s (execHrRecoverExpiry n s) := by
  have hk : Keeps ⟨true, true, true, true, true, true, true, true, true, true, true, true, true, true, false⟩ s s := Keeps.refl _ _
  unfold execHrRecoverExpiry
  refine Answers.next ?_
  exact Keeps.ite (fun _ => State.modCc_keeps _ _ (State.put_keeps _ _ _ hk)) (fun _ => hk)

theorem execFoldback_answers (n : Port) (active : Bool) : Answers .all s (execFoldback n active s) := by
  have hk : Keeps .all s s := Keeps.refl _ _
  unfold execFoldback
  refine Answers.next ?_
  exact Keeps.ite (fun _ => State.putB_keeps _ _ _ hk) (fun _ => hk)

theorem execSoaTimeout_answers (n : Port) : Answers ⟨true, true, true, false, false, true, true, true, true, true, true, false, true, true, false⟩ s (execSoaTimeout n s) := by
  have hk : Keeps ⟨true, true, true, false, false, true, true, true, true, true, true, false, true, true, false⟩ s s := Keeps.refl _ _
  unfold execSoaTimeout
  refine Answers.next ?_
  exact Keeps.ite (fun _ => State.trip_keeps _ _ _ hk) (fun _ => hk)

theorem execRampComplete_answers (n : Port) (vbusMv : ℕ) (vinMv : ℕ) (gateMv : ℕ) : Answers ⟨true, true, true, true, false, true, true, true, true, true, true, true, true, true, false⟩ s (execRampComplete n vbusMv vinMv gateMv s) := by
  have hk : Keeps ⟨true, true, true, true, false, true, true, true, true, true, true, true, true, true, false⟩ s s := Keeps.refl _ _
  unfold execRampComplete
  refine Answers.next ?_
  extract_lets -merge -underBinder +onlyGivenNames x0
  have hx0 : Keeps ⟨true, true, true, true, false, true, true, true, true, true, true, true, true, true, false⟩ s x0 := State.modPort_keeps _ _ (State.setVbus_keeps _ _ hk)
  try clear_value x0
  extract_lets -merge -underBinder +onlyGivenNames x1
  exact Keeps.ite (fun _ => State.rampDone_keeps _ hx0) (fun _ => hx0)

theorem execRampFail_answers (n : Port) : Answers ⟨true, true, true, false, false, true, true, true, true, true, true, false, true, true, false⟩ s (execRampFail n s) := by
  have hk : Keeps ⟨true, true, true, false, false, true, true, true, true, true, true, false, true, true, false⟩ s s := Keeps.refl _ _
  unfold execRampFail
  refine Answers.next ?_
  exact Keeps.ite (fun _ => State.trip_keeps _ _ _ hk) (fun _ => hk)

theorem execFastTrip_answers (n : Port) (sc : Bool) (ovp : Bool) (rcp : Bool) : Answers ⟨true, true, true, false, false, true, true, true, true, true, true, false, true, true, false⟩ s (execFastTrip n sc ovp rcp s) := by
  have hk : Keeps ⟨true, true, true, false, false, true, true, true, true, true, true, false, true, true, false⟩ s s := Keeps.refl _ _
  unfold execFastTrip
  refine Answers.next ?_
  extract_lets -merge -underBinder +onlyGivenNames x0 x1
  exact Keeps.ite (fun _ => State.trip_keeps _ _ _ hk) (fun _ => hk)

theorem execUvpTrip_answers (n : Port) : Answers ⟨true, true, true, false, false, true, true, true, true, true, true, false, true, true, false⟩ s (execUvpTrip n s) := by
  have hk : Keeps ⟨true, true, true, false, false, true, true, true, true, true, true, false, true, true, false⟩ s s := Keeps.refl _ _
  unfold execUvpTrip
  refine Answers.next ?_
  exact Keeps.ite (fun _ => State.trip_keeps _ _ _ hk) (fun _ => hk)

theorem execLimitEntry_answers (n : Port) : Answers ⟨true, true, true, true, true, true, true, true, true, true, true, true, true, true, false⟩ s (execLimitEntry n s) := by
  have hk : Keeps ⟨true, true, true, true, true, true, true, true, true, true, true, true, true, true, false⟩ s s := Keeps.refl _ _
  unfold execLimitEntry
  refine Answers.next ?_
  exact Keeps.ite (fun _ => State.raise_keeps _ _ (State.put_keeps _ _ _ (State.guardTo_keeps _ _ hk))) (fun _ => hk)

theorem execLimitExit_answers (n : Port) : Answers ⟨true, true, true, true, true, true, true, true, true, true, true, true, true, true, false⟩ s (execLimitExit n s) := by
  have hk : Keeps ⟨true, true, true, true, true, true, true, true, true, true, true, true, true, true, false⟩ s s := Keeps.refl _ _
  unfold execLimitExit
  refine Answers.next ?_
  exact Keeps.ite (fun _ => State.modGuard_keeps _ _ (State.guardTo_keeps _ _ hk)) (fun _ => hk)

theorem execTrippedVbusLow_answers (n : Port) (mv : ℕ) : Answers ⟨true, true, true, true, true, true, true, true, true, true, true, true, true, true, false⟩ s (execTrippedVbusLow n mv s) := by
  have hk : Keeps ⟨true, true, true, true, true, true, true, true, true, true, true, true, true, true, false⟩ s s := Keeps.refl _ _
  unfold execTrippedVbusLow
  refine Answers.next ?_
  extract_lets -merge -underBinder +onlyGivenNames x0
  have hx0 : Keeps ⟨true, true, true, true, true, true, true, true, true, true, true, true, true, true, false⟩ s x0 := State.setVbus_keeps _ _ hk
  try clear_value x0
  exact Keeps.ite (fun _ => State.guardTo_keeps _ _ hx0) (fun _ => hx0)

theorem execBackoffExpiry_answers (n : Port) : Answers ⟨true, true, true, true, true, true, true, true, true, true, true, true, true, true, false⟩ s (execBackoffExpiry n s) := by
  have hk : Keeps ⟨true, true, true, true, true, true, true, true, true, true, true, true, true, true, false⟩ s s := Keeps.refl _ _
  unfold execBackoffExpiry
  refine Answers.next ?_
  exact Keeps.ite (fun _ => State.backoffLeave_keeps _ hk) (fun _ => hk)

theorem execBackoffStepReset_answers (n : Port) : Answers ⟨true, true, true, true, true, true, true, true, true, true, true, true, true, true, false⟩ s (execBackoffStepReset n s) := by
  have hk : Keeps ⟨true, true, true, true, true, true, true, true, true, true, true, true, true, true, false⟩ s s := Keeps.refl _ _
  unfold execBackoffStepReset
  refine Answers.next ?_
  exact Keeps.ite (fun _ => State.modGuard_keeps _ _ hk) (fun _ => hk)

theorem execShortFet_answers (n : Port) (how : Fin 3) : Answers ⟨true, true, true, false, false, true, true, true, true, true, true, false, true, true, false⟩ s (execShortFet n how s) := by
  have hk : Keeps ⟨true, true, true, false, false, true, true, true, true, true, true, false, true, true, false⟩ s s := Keeps.refl _ _
  unfold execShortFet
  refine Answers.next ?_
  exact Keeps.ite (fun _ => State.retire_keeps _ _ (State.guardEvt_keeps _ _ hk)) (fun _ => hk)

theorem execDschEnd_answers (n : Port) (mv : ℕ) (timeout : Bool) : Answers ⟨true, true, true, false, false, true, true, true, true, true, true, false, true, true, false⟩ s (execDschEnd n mv timeout s) := by
  have hk : Keeps ⟨true, true, true, false, false, true, true, true, true, true, true, false, true, true, false⟩ s s := Keeps.refl _ _
  unfold execDschEnd
  refine Answers.next ?_
  extract_lets -merge -underBinder +onlyGivenNames x0
  have hx0 : Keeps ⟨true, true, true, false, false, true, true, true, true, true, true, false, true, true, false⟩ s x0 := State.setVbus_keeps _ _ hk
  try clear_value x0
  extract_lets -merge -underBinder +onlyGivenNames x1 x2
  have hx2 : Keeps ⟨true, true, true, false, false, true, true, true, true, true, true, false, true, true, false⟩ s x2 := State.raise_keeps _ _ (State.dschOff_keeps _ hx0)
  try clear_value x2
  exact Keeps.ite (fun _ => hx0) (fun _ => Keeps.ite (fun _ => State.dschOff_keeps _ hx0) (fun _ => Keeps.ite (fun _ => Keeps.ite (fun _ => State.retire_keeps _ _ (State.guardEvt_keeps _ _ hx2)) (fun _ => hx2)) (fun _ => State.assistEnd_keeps _ hx0)))

theorem execDschRest_answers (n : Port) : Answers ⟨true, true, true, true, true, true, true, true, true, true, true, true, true, true, false⟩ s (execDschRest n s) := by
  have hk : Keeps ⟨true, true, true, true, true, true, true, true, true, true, true, true, true, true, false⟩ s s := Keeps.refl _ _
  unfold execDschRest
  refine Answers.next ?_
  extract_lets -merge -underBinder +onlyGivenNames x0
  have hx0 : Keeps ⟨true, true, true, true, true, true, true, true, true, true, true, true, true, true, false⟩ s x0 := State.modGuard_keeps _ _ hk
  try clear_value x0
  exact Keeps.ite (fun _ => State.raise_keeps _ _ (State.put_keeps _ _ _ hx0)) (fun _ => hk)

theorem execDschRestEnd_answers (n : Port) : Answers ⟨true, true, true, true, true, true, true, true, true, true, true, true, true, true, false⟩ s (execDschRestEnd n s) := by
  have hk : Keeps ⟨true, true, true, true, true, true, true, true, true, true, true, true, true, true, false⟩ s s := Keeps.refl _ _
  unfold execDschRestEnd
  refine Answers.next ?_
  exact Keeps.ite (fun _ => State.modGuard_keeps _ _ (State.put_keeps _ _ _ hk)) (fun _ => hk)

theorem execSinkBlock_answers (n : Port) : Answers ⟨true, true, true, true, false, true, true, true, true, true, true, true, true, true, false⟩ s (execSinkBlock n s) := by
  have hk : Keeps ⟨true, true, true, true, false, true, true, true, true, true, true, true, true, true, false⟩ s s := Keeps.refl _ _
  unfold execSinkBlock
  refine Answers.next ?_
  extract_lets -merge -underBinder +onlyGivenNames x0 x1
  have hx1 : Keeps ⟨true, true, true, true, false, true, true, true, true, true, true, true, true, true, false⟩ s x1 := State.raise_keeps _ _ (State.put_keeps _ _ _ hk)
  try clear_value x1
  extract_lets -merge -underBinder +onlyGivenNames x2 x3
  have hx3 : Keeps ⟨true, true, true, true, false, true, true, true, true, true, true, true, true, true, false⟩ s x3 := State.modGuard_keeps _ _ hx1
  try clear_value x3
  extract_lets -merge -underBinder +onlyGivenNames x4
  have hx4 : Keeps ⟨true, true, true, true, false, true, true, true, true, true, true, true, true, true, false⟩ s x4 := Keeps.ite (fun _ => State.shareRelease_keeps _ hx3) (fun _ => hx3)
  try clear_value x4
  extract_lets -merge -underBinder +onlyGivenNames x5
  have hx5 : Keeps ⟨true, true, true, true, false, true, true, true, true, true, true, true, true, true, false⟩ s x5 := State.modGuard_keeps _ _ (State.guardOff_keeps _ (State.put_keeps _ _ _ hx4))
  try clear_value x5
  exact Keeps.ite (fun _ => Keeps.ite (fun _ => Keeps.ite (fun _ => State.shareEvt_keeps _ hx5) (fun _ => hx5)) (fun _ => hx4)) (fun _ => hk)

theorem execSinkReclose_answers (n : Port) (mv : ℕ) : Answers ⟨true, true, true, true, true, true, true, true, true, true, true, true, true, true, false⟩ s (execSinkReclose n mv s) := by
  have hk : Keeps ⟨true, true, true, true, true, true, true, true, true, true, true, true, true, true, false⟩ s s := Keeps.refl _ _
  unfold execSinkReclose
  refine Answers.next ?_
  extract_lets -merge -underBinder +onlyGivenNames x0
  have hx0 : Keeps ⟨true, true, true, true, true, true, true, true, true, true, true, true, true, true, false⟩ s x0 := State.setVbus_keeps _ _ hk
  try clear_value x0
  extract_lets -merge -underBinder +onlyGivenNames x1
  exact Keeps.ite (fun _ => State.put_keeps _ _ _ hx0) (fun _ => hx0)

theorem execGuardCmdSnkClose_answers (n : Port) (key : BitVec 16) : Answers .all s (execGuardCmdSnkClose n key s) := by
  have hk : Keeps .all s s := Keeps.refl _ _
  unfold execGuardCmdSnkClose
  refine Answers.next ?_
  exact State.keyCmd_keeps _ _ _ hk (fun _ h0 => State.snkClose_keeps _ h0)

theorem execGuardCmdSnkOpen_answers (n : Port) (key : BitVec 16) : Answers ⟨true, true, true, true, false, true, true, true, true, true, true, true, true, true, false⟩ s (execGuardCmdSnkOpen n key s) := by
  have hk : Keeps ⟨true, true, true, true, false, true, true, true, true, true, true, true, true, true, false⟩ s s := Keeps.refl _ _
  unfold execGuardCmdSnkOpen
  refine Answers.next ?_
  exact State.keyCmd_keeps _ _ _ hk (fun _ h0 => State.snkOpen_keeps _ h0)

theorem execGuardCmdUnretire_answers (n : Port) (key : BitVec 16) : Answers ⟨true, true, true, false, false, true, true, true, true, true, true, false, true, true, false⟩ s (execGuardCmdUnretire n key s) := by
  have hk : Keeps ⟨true, true, true, false, false, true, true, true, true, true, true, false, true, true, false⟩ s s := Keeps.refl _ _
  unfold execGuardCmdUnretire
  refine Answers.next ?_
  exact State.keyCmd_keeps _ _ _ hk (fun _ h0 => State.unretireCmd_keeps _ h0)

theorem execGuardCmdRetire_answers (n : Port) (key : BitVec 16) : Answers ⟨true, true, true, false, false, true, true, true, true, true, true, false, true, true, false⟩ s (execGuardCmdRetire n key s) := by
  have hk : Keeps ⟨true, true, true, false, false, true, true, true, true, true, true, false, true, true, false⟩ s s := Keeps.refl _ _
  unfold execGuardCmdRetire
  refine Answers.next ?_
  exact State.keyCmd_keeps _ _ _ hk (fun _ h0 => State.retire_keeps _ _ h0)

theorem execCmptRetest_answers (ports : BitVec 8) (key : BitVec 16) : Answers .all s (execCmptRetest ports key s) := by
  have hk : Keeps .all s s := Keeps.refl _ _
  unfold execCmptRetest
  refine Answers.next ?_
  exact State.keyCmd_keeps _ _ _ hk (fun _ h0 => State.retest_keeps _ h0)

theorem execCcLineChange_answers (n : Port) (mv1 : ℕ) (mv2 : ℕ) : Answers ⟨true, true, true, false, false, true, true, true, true, true, true, false, true, true, false⟩ s (execCcLineChange n mv1 mv2 s) := by
  have hk : Keeps ⟨true, true, true, false, false, true, true, true, true, true, true, false, true, true, false⟩ s s := Keeps.refl _ _
  unfold execCcLineChange
  refine Answers.next ?_
  exact State.ccLine_keeps _ _ _ hk

theorem execCcDebounce_answers (n : Port) : Answers ⟨true, true, true, false, false, true, true, true, true, true, true, false, true, true, false⟩ s (execCcDebounce n s) := by
  have hk : Keeps ⟨true, true, true, false, false, true, true, true, true, true, true, false, true, true, false⟩ s s := Keeps.refl _ _
  unfold execCcDebounce
  refine Answers.next ?_
  exact Keeps.ite (fun _ => State.debounced_keeps _ hk) (fun _ => hk)

theorem execPdDebounce_answers (n : Port) : Answers ⟨true, true, true, false, false, true, true, true, true, true, true, false, true, true, false⟩ s (execPdDebounce n s) := by
  have hk : Keeps ⟨true, true, true, false, false, true, true, true, true, true, true, false, true, true, false⟩ s s := Keeps.refl _ _
  unfold execPdDebounce
  refine Answers.next ?_
  exact State.pdDebounced_keeps _ hk

theorem execDrpToggle_answers (n : Port) : Answers ⟨true, true, true, false, false, true, true, true, true, true, true, false, true, true, false⟩ s (execDrpToggle n s) := by
  have hk : Keeps ⟨true, true, true, false, false, true, true, true, true, true, true, false, true, true, false⟩ s s := Keeps.refl _ _
  unfold execDrpToggle
  refine Answers.next ?_
  split
  · exact Keeps.ite (fun _ => State.ccEnter_keeps _ _ hk) (fun _ => hk)
  · exact Keeps.ite (fun _ => State.ccEnter_keeps _ _ hk) (fun _ => hk)
  · exact hk

theorem execErrorRecoveryTimeout_answers (n : Port) : Answers ⟨true, true, true, false, false, true, true, true, true, true, true, false, true, true, false⟩ s (execErrorRecoveryTimeout n s) := by
  have hk : Keeps ⟨true, true, true, false, false, true, true, true, true, true, true, false, true, true, false⟩ s s := Keeps.refl _ _
  unfold execErrorRecoveryTimeout
  refine Answers.next ?_
  exact Keeps.ite (fun _ => State.ccResume_keeps _ hk) (fun _ => hk)

theorem execTryTimer_answers (n : Port) : Answers ⟨true, true, true, false, false, true, true, true, true, true, true, false, true, true, false⟩ s (execTryTimer n s) := by
  have hk : Keeps ⟨true, true, true, false, false, true, true, true, true, true, true, false, true, true, false⟩ s s := Keeps.refl _ _
  unfold execTryTimer
  refine Answers.next ?_
  split
  · exact Keeps.ite (fun _ => State.ccEnter_keeps _ _ hk) (fun _ => State.modCc_keeps _ _ hk)
  · exact State.modCc_keeps _ _ hk
  · exact hk

theorem execTrywaitTimeout_answers (n : Port) : Answers ⟨true, true, true, false, false, true, true, true, true, true, true, false, true, true, false⟩ s (execTrywaitTimeout n s) := by
  have hk : Keeps ⟨true, true, true, false, false, true, true, true, true, true, true, false, true, true, false⟩ s s := Keeps.refl _ _
  unfold execTrywaitTimeout
  refine Answers.next ?_
  split
  · exact State.ccEnter_keeps _ _ hk
  · exact State.ccEnter_keeps _ _ hk
  · exact hk

theorem execTrySrcTimeout_answers (n : Port) : Answers ⟨true, true, true, false, false, true, true, true, true, true, true, false, true, true, false⟩ s (execTrySrcTimeout n s) := by
  have hk : Keeps ⟨true, true, true, false, false, true, true, true, true, true, true, false, true, true, false⟩ s s := Keeps.refl _ _
  unfold execTrySrcTimeout
  refine Answers.next ?_
  exact Keeps.ite (fun _ => State.ccEnter_keeps _ _ hk) (fun _ => hk)

theorem execSourceDetach_answers (n : Port) (load : Option ℕ) : Answers ⟨true, true, true, false, false, true, true, true, true, true, true, false, true, true, false⟩ s (execSourceDetach n load s) := by
  have hk : Keeps ⟨true, true, true, false, false, true, true, true, true, true, true, false, true, true, false⟩ s s := Keeps.refl _ _
  unfold execSourceDetach
  refine Answers.next ?_
  exact Keeps.ite (fun _ => State.ccEnter_keeps _ _ hk) (fun _ => hk)

theorem execSinkDetach_answers (n : Port) (mv : ℕ) : Answers ⟨true, true, true, false, false, true, true, true, true, true, true, false, true, true, false⟩ s (execSinkDetach n mv s) := by
  have hk : Keeps ⟨true, true, true, false, false, true, true, true, true, true, true, false, true, true, false⟩ s s := Keeps.refl _ _
  unfold execSinkDetach
  refine Answers.next ?_
  extract_lets -merge -underBinder +onlyGivenNames x0
  have hx0 : Keeps ⟨true, true, true, false, false, true, true, true, true, true, true, false, true, true, false⟩ s x0 := State.setVbus_keeps _ _ hk
  try clear_value x0
  exact Keeps.ite (fun _ => State.ccEnter_keeps _ _ hx0) (fun _ => hx0)

theorem execDebugAccessoryExit_answers (n : Port) (mv : ℕ) : Answers ⟨true, true, true, false, false, true, true, true, true, true, true, false, true, true, false⟩ s (execDebugAccessoryExit n mv s) := by
  have hk : Keeps ⟨true, true, true, false, false, true, true, true, true, true, true, false, true, true, false⟩ s s := Keeps.refl _ _
  unfold execDebugAccessoryExit
  refine Answers.next ?_
  extract_lets -merge -underBinder +onlyGivenNames x0
  have hx0 : Keeps ⟨true, true, true, false, false, true, true, true, true, true, true, false, true, true, false⟩ s x0 := State.setVbus_keeps _ _ hk
  try clear_value x0
  exact Keeps.ite (fun _ => State.ccEnter_keeps _ _ hx0) (fun _ => hx0)

theorem execHrSinkHoldEnd_answers (n : Port) : Answers ⟨true, true, true, false, false, true, true, true, true, true, true, false, true, true, false⟩ s (execHrSinkHoldEnd n s) := by
  have hk : Keeps ⟨true, true, true, false, false, true, true, true, true, true, true, false, true, true, false⟩ s s := Keeps.refl _ _
  unfold execHrSinkHoldEnd
  refine Answers.next ?_
  extract_lets -merge -underBinder +onlyGivenNames x0
  exact Keeps.ite (fun _ => hk) (fun _ => Keeps.ite (fun _ => Keeps.ite (fun _ => hk) (fun _ => State.hrDone_keeps _ (State.modCc_keeps _ _ hk))) (fun _ => State.raise_keeps _ _ (State.ccEnter_keeps _ _ hk)))

theorem execVconnAutoOn_answers (n : Port) : Answers ⟨true, true, true, true, true, true, true, true, true, true, true, true, true, true, false⟩ s (execVconnAutoOn n s) := by
  have hk : Keeps ⟨true, true, true, true, true, true, true, true, true, true, true, true, true, true, false⟩ s s := Keeps.refl _ _
  unfold execVconnAutoOn
  refine Answers.next ?_
  exact Keeps.ite (fun _ => hk) (fun _ => Keeps.ite (fun _ => State.modCc_keeps _ _ hk) (fun _ => Keeps.ite (fun _ => State.modCc_keeps _ _ (State.vconnOn_keeps _ hk)) (fun _ => hk)))

theorem execVconnRaProbe_answers (n : Port) (mv : ℕ) : Answers ⟨true, true, true, true, true, true, true, true, true, true, true, true, true, true, false⟩ s (execVconnRaProbe n mv s) := by
  have hk : Keeps ⟨true, true, true, true, true, true, true, true, true, true, true, true, true, true, false⟩ s s := Keeps.refl _ _
  unfold execVconnRaProbe
  refine Answers.next ?_
  extract_lets -merge -underBinder +onlyGivenNames x0
  clear_value x0
  extract_lets -merge -underBinder +onlyGivenNames x1
  have hx1 : Keeps ⟨true, true, true, true, true, true, true, true, true, true, true, true, true, true, false⟩ s x1 := State.modCc_keeps _ _ hk
  try clear_value x1
  refine Keeps.ite (fun _ => ?_) (fun _ => ?_)
  · split
    · exact Keeps.ite (fun _ => State.modCc_keeps _ _ (State.vconnOn_keeps _ hx1)) (fun _ => State.raiseIf_keeps _ _ _ hx1)
    · exact hx1
  · exact hk

theorem execCcCmdErrRec_answers (n : Port) (key : BitVec 16) : Answers ⟨true, true, true, true, true, true, true, true, true, true, true, true, true, true, false⟩ s (execCcCmdErrRec n key s) := by
  have hk : Keeps ⟨true, true, true, true, true, true, true, true, true, true, true, true, true, true, false⟩ s s := Keeps.refl _ _
  unfold execCcCmdErrRec
  refine Answers.next ?_
  exact State.keyCmd_keeps _ _ _ hk (fun _ h0 => State.modCc_keeps _ _ h0)

theorem execCcCmdVconnOn_answers (n : Port) (key : BitVec 16) : Answers ⟨true, true, true, true, true, true, true, true, true, true, true, true, true, true, false⟩ s (execCcCmdVconnOn n key s) := by
  have hk : Keeps ⟨true, true, true, true, true, true, true, true, true, true, true, true, true, true, false⟩ s s := Keeps.refl _ _
  unfold execCcCmdVconnOn
  refine Answers.next ?_
  exact State.keyCmd_keeps _ _ _ hk (fun _ h0 => State.vconnOnCmd_keeps _ h0)

theorem execCcCmdVconnOff_answers (n : Port) (key : BitVec 16) : Answers ⟨true, true, true, true, true, true, true, true, true, true, true, true, true, true, false⟩ s (execCcCmdVconnOff n key s) := by
  have hk : Keeps ⟨true, true, true, true, true, true, true, true, true, true, true, true, true, true, false⟩ s s := Keeps.refl _ _
  unfold execCcCmdVconnOff
  refine Answers.next ?_
  exact State.keyCmd_keeps _ _ _ hk (fun _ h0 => State.vconnOff_keeps _ h0)

theorem execVconnOvercurrent_answers (n : Port) : Answers ⟨true, true, true, true, true, true, true, true, true, true, true, true, true, true, false⟩ s (execVconnOvercurrent n s) := by
  have hk : Keeps ⟨true, true, true, true, true, true, true, true, true, true, true, true, true, true, false⟩ s s := Keeps.refl _ _
  unfold execVconnOvercurrent
  refine Answers.next ?_
  exact Keeps.ite (fun _ => State.raise_keeps _ _ (State.vconnOff_keeps _ hk)) (fun _ => hk)

theorem execVconnDischargeEnd_answers (n : Port) : Answers ⟨true, true, true, true, true, true, true, true, true, true, true, true, true, true, false⟩ s (execVconnDischargeEnd n s) := by
  have hk : Keeps ⟨true, true, true, true, true, true, true, true, true, true, true, true, true, true, false⟩ s s := Keeps.refl _ _
  unfold execVconnDischargeEnd
  refine Answers.next ?_
  exact State.modCc_keeps _ _ hk

theorem execCcOvervoltage_answers (n : Port) : Answers ⟨true, true, true, false, false, true, true, true, true, true, true, false, true, true, false⟩ s (execCcOvervoltage n s) := by
  have hk : Keeps ⟨true, true, true, false, false, true, true, true, true, true, true, false, true, true, false⟩ s s := Keeps.refl _ _
  unfold execCcOvervoltage
  refine Answers.next ?_
  extract_lets -merge -underBinder +onlyGivenNames x0 x1
  have hx1 : Keeps ⟨true, true, true, false, false, true, true, true, true, true, true, false, true, true, false⟩ s x1 := State.raise_keeps _ _ (State.vconnOff_keeps _ hk)
  try clear_value x1
  extract_lets -merge -underBinder +onlyGivenNames x2
  have hx2 : Keeps ⟨true, true, true, false, false, true, true, true, true, true, true, false, true, true, false⟩ s x2 := State.modCc_keeps _ _ hx1
  try clear_value x2
  exact Keeps.ite (fun _ => hx2) (fun _ => State.trip_keeps _ _ _ (State.ccEnter_keeps _ _ hx2))

theorem execPartnerGone_answers (n : Port) : Answers .all s (execPartnerGone n s) := by
  have hk : Keeps .all s s := Keeps.refl _ _
  unfold execPartnerGone
  refine Answers.next ?_
  exact Keeps.ite (fun _ => State.put_keeps _ _ _ (State.raise_keeps _ _ hk)) (fun _ => hk)

theorem execOwnerCheck_answers (n : Port) (mv : ℕ) : Answers ⟨true, true, true, false, false, true, true, true, true, true, true, false, true, true, false⟩ s (execOwnerCheck n mv s) := by
  have hk : Keeps ⟨true, true, true, false, false, true, true, true, true, true, true, false, true, true, false⟩ s s := Keeps.refl _ _
  unfold execOwnerCheck
  refine Answers.next ?_
  extract_lets -merge -underBinder +onlyGivenNames x0
  have hx0 : Keeps ⟨true, true, true, false, false, true, true, true, true, true, true, false, true, true, false⟩ s x0 := State.modCc_keeps _ _ hk
  try clear_value x0
  exact Keeps.ite (fun _ => Keeps.ite (fun _ => Keeps.ite (fun _ => State.debounced_keeps _ hx0) (fun _ => hx0)) (fun _ => State.raise_keeps _ _ hk)) (fun _ => hk)

theorem execVbusLevelChange_answers (n : Port) (mv : ℕ) : Answers ⟨true, true, true, false, false, true, true, true, true, true, true, false, true, true, false⟩ s (execVbusLevelChange n mv s) := by
  have hk : Keeps ⟨true, true, true, false, false, true, true, true, true, true, true, false, true, true, false⟩ s s := Keeps.refl _ _
  unfold execVbusLevelChange
  refine Answers.next ?_
  extract_lets -merge -underBinder +onlyGivenNames x0
  have hx0 : Keeps ⟨true, true, true, false, false, true, true, true, true, true, true, false, true, true, false⟩ s x0 := State.setVbus_keeps _ _ hk
  try clear_value x0
  exact Keeps.ite (fun _ => State.debounced_keeps _ hx0) (fun _ => hx0)

theorem execShareRegulation_answers (n : Port) (held : Bool) : Answers .all s (execShareRegulation n held s) := by
  have hk : Keeps .all s s := Keeps.refl _ _
  unfold execShareRegulation
  refine Answers.next ?_
  exact Keeps.ite (fun _ => State.putB_keeps _ _ _ hk) (fun _ => hk)

theorem execDiodeRegulation_answers (n : Port) (held : Bool) : Answers ⟨true, true, true, true, true, true, true, true, true, true, true, true, true, true, false⟩ s (execDiodeRegulation n held s) := by
  have hk : Keeps ⟨true, true, true, true, true, true, true, true, true, true, true, true, true, true, false⟩ s s := Keeps.refl _ _
  unfold execDiodeRegulation
  refine Answers.next ?_
  exact Keeps.ite (fun _ => State.modShare_keeps _ _ hk) (fun _ => hk)

theorem execShareRelease_answers (n : Port) : Answers ⟨true, true, true, true, false, true, true, true, true, true, true, true, true, true, false⟩ s (execShareRelease n s) := by
  have hk : Keeps ⟨true, true, true, true, false, true, true, true, true, true, true, true, true, true, false⟩ s s := Keeps.refl _ _
  unfold execShareRelease
  refine Answers.next ?_
  exact State.shareLeave_keeps _ hk

theorem execNoFreeMember_answers : Answers ⟨true, true, true, true, false, true, true, true, true, true, true, true, true, true, true⟩ s (execNoFreeMember s) := by
  have hk : Keeps ⟨true, true, true, true, false, true, true, true, true, true, true, true, true, true, true⟩ s s := Keeps.refl _ _
  unfold execNoFreeMember
  refine Answers.next ?_
  extract_lets -merge -underBinder +onlyGivenNames x0
  exact Keeps.ite (fun _ => State.shareRelease_keeps _ hk) (fun _ => hk)

theorem execShareCmdRelease_answers (key : BitVec 16) : Answers ⟨true, true, true, true, false, true, true, true, true, true, true, true, true, true, true⟩ s (execShareCmdRelease key s) := by
  have hk : Keeps ⟨true, true, true, true, false, true, true, true, true, true, true, true, true, true, true⟩ s s := Keeps.refl _ _
  unfold execShareCmdRelease
  refine Answers.next ?_
  exact State.keyCmd_keeps _ _ _ hk (fun _ h0 => State.shareRelease_keeps _ h0)

theorem execShareCmdTrimClear_answers (key : BitVec 16) : Answers .all s (execShareCmdTrimClear key s) := by
  have hk : Keeps .all s s := Keeps.refl _ _
  unfold execShareCmdTrimClear
  refine Answers.next ?_
  exact State.keyCmd_keeps _ _ _ hk (fun _ h0 => State.trimClearCmd_keeps h0)

theorem execMemberBlockEnd_answers (n : Port) : Answers ⟨true, true, true, true, true, true, true, true, true, true, true, true, true, true, false⟩ s (execMemberBlockEnd n s) := by
  have hk : Keeps ⟨true, true, true, true, true, true, true, true, true, true, true, true, true, true, false⟩ s s := Keeps.refl _ _
  unfold execMemberBlockEnd
  refine Answers.next ?_
  exact Keeps.ite (fun _ => State.modShare_keeps _ _ (State.put_keeps _ _ _ hk)) (fun _ => hk)

theorem execHpdLevelWrite_answers (n : Port) (level : Bool) : Answers ⟨true, true, true, true, true, true, true, true, true, true, true, true, true, true, false⟩ s (execHpdLevelWrite n level s) := by
  have hk : Keeps ⟨true, true, true, true, true, true, true, true, true, true, true, true, true, true, false⟩ s s := Keeps.refl _ _
  unfold execHpdLevelWrite
  refine Answers.next ?_
  exact State.cmd_keeps _ hk (fun _ h0 => State.hpdWrite_keeps _ _ h0)

theorem execHpdIrq_answers (n : Port) (early : Bool) : Answers ⟨true, true, true, true, true, true, true, true, true, true, true, true, true, true, false⟩ s (execHpdIrq n early s) := by
  have hk : Keeps ⟨true, true, true, true, true, true, true, true, true, true, true, true, true, true, false⟩ s s := Keeps.refl _ _
  unfold execHpdIrq
  refine Answers.next ?_
  exact State.cmd_keeps _ hk (fun _ h0 => State.hpdIrq_keeps _ _ h0)

theorem execHpdIrqEnd_answers (n : Port) : Answers ⟨true, true, true, true, true, true, true, true, true, true, true, true, true, true, false⟩ s (execHpdIrqEnd n s) := by
  have hk : Keeps ⟨true, true, true, true, true, true, true, true, true, true, true, true, true, true, false⟩ s s := Keeps.refl _ _
  unfold execHpdIrqEnd
  refine Answers.next ?_
  exact State.cmd_keeps _ hk (fun _ h0 => State.modPort_keeps _ _ h0)

theorem execMuxbGo_answers (key : BitVec 16) : Answers .all s (execMuxbGo key s) := by
  have hk : Keeps .all s s := Keeps.refl _ _
  unfold execMuxbGo
  refine Answers.next ?_
  exact State.keyCmd_keeps _ _ _ hk (fun _ h0 => State.muxGo_keeps h0)

theorem execMuxbAbort_answers (key : BitVec 16) (bytes : BitVec 5) : Answers .all s (execMuxbAbort key bytes s) := by
  have hk : Keeps .all s s := Keeps.refl _ _
  unfold execMuxbAbort
  refine Answers.next ?_
  exact State.keyCmd_keeps _ _ _ hk (fun _ h0 => State.muxAbort_keeps _ h0)

theorem execMuxbDone_answers (result : Fin 8) (acked : BitVec 5) (bytes : List Byte) (pec : Byte) : Answers ⟨true, true, true, true, true, true, true, true, true, false, true, true, true, true, true⟩ s (execMuxbDone result acked bytes pec s) := by
  have hk : Keeps ⟨true, true, true, true, true, true, true, true, true, false, true, true, true, true, true⟩ s s := Keeps.refl _ _
  unfold execMuxbDone
  refine Answers.next ?_
  refine State.cmd_keeps _ ?_ ?_
  · exact hk
  · intro s0_0 hs0_1
    extract_lets -merge -underBinder +onlyGivenNames x1 x2 x3 x4 x5 x6
    have hx6 : Keeps ⟨true, true, true, true, true, true, true, true, true, false, true, true, true, true, true⟩ s x6 := Keeps.mk' hs0_1
    try clear_value x6
    exact Keeps.ite (fun _ => State.muxEnd_keeps _ _ (State.muxRdata_keeps _ hx6)) (fun _ => hs0_1)

theorem execMuxbTimeout_answers (acked : BitVec 5) : Answers .all s (execMuxbTimeout acked s) := by
  have hk : Keeps .all s s := Keeps.refl _ _
  unfold execMuxbTimeout
  refine Answers.next ?_
  exact State.cmd_keeps _ hk (fun _ h0 => Keeps.ite (fun _ => State.muxEnd_keeps _ _ h0) (fun _ => h0))

theorem execMintEdge_answers (level : Bool) : Answers ⟨true, true, true, true, true, true, true, true, true, false, true, true, true, true, true⟩ s (execMintEdge level s) := by
  have hk : Keeps ⟨true, true, true, true, true, true, true, true, true, false, true, true, true, true, true⟩ s s := Keeps.refl _ _
  unfold execMintEdge
  refine Answers.next ?_
  extract_lets -merge -underBinder +onlyGivenNames x0 x1 x2
  have hx2 : Keeps ⟨true, true, true, true, true, true, true, true, true, false, true, true, true, true, true⟩ s x2 := Keeps.mk' hk
  try clear_value x2
  extract_lets -merge -underBinder +onlyGivenNames x3 x4 x5
  exact Keeps.ite (fun _ => hx2) (fun _ => State.raiseIf_keeps _ _ _ hx2)

theorem execHedgerowFrameArrive_answers (l : Fin 3) (bytes : List Byte) (aborted : Bool) (codeErrs : ℕ) (storeOk : Bool) : Answers ⟨true, true, true, true, false, true, true, true, false, true, true, true, true, true, true⟩ s (execHedgerowFrameArrive l bytes aborted codeErrs storeOk s) := by
  have hk : Keeps ⟨true, true, true, true, false, true, true, true, false, true, true, true, true, true, true⟩ s s := Keeps.refl _ _
  unfold execHedgerowFrameArrive
  extract_lets -merge -underBinder +onlyGivenNames x0 x1 x2 x3
  have hx3 : Keeps ⟨true, true, true, true, false, true, true, true, false, true, true, true, true, true, true⟩ s x3 := State.put_keeps _ _ _ (State.incr_keeps _ _ (State.put_keeps _ _ _ hk))
  try clear_value x3
  extract_lets -merge -underBinder +onlyGivenNames x4
  have hx4 : Keeps ⟨true, true, true, true, false, true, true, true, false, true, true, true, true, true, true⟩ s x4 := State.linkWord_keeps _ _ hx3
  try clear_value x4
  refine Answers.ite (fun _ => ?_) (fun _ => ?_)
  · refine Answers.next ?_
    exact hk
  · refine Answers.ite (fun _ => ?_) (fun _ => ?_)
    · refine Answers.next ?_
      exact hk
    · refine Answers.ite (fun _ => ?_) (fun _ => ?_)
      · refine Answers.next ?_
        exact State.errLimit_keeps _ (State.linkWord_keeps _ _ (State.linkErr_keeps _ _ _ hk))
      · refine Answers.ite (fun _ => ?_) (fun _ => ?_)
        · refine Answers.next ?_
          exact State.errLimit_keeps _ (State.linkWord_keeps _ _ (State.linkErr_keeps _ _ _ hk))
        · refine Answers.ite (fun _ => ?_) (fun _ => ?_)
          · refine Answers.next ?_
            exact State.linkWord_keeps _ _ hk
          · refine Answers.ite (fun _ => ?_) (fun _ => ?_)
            · refine Answers.next ?_
              exact hk
            · refine Answers.ite (fun _ => ?_) (fun _ => ?_)
              · refine Answers.next ?_
                exact Keeps.ite (fun _ => State.deliver_keeps _ _ hx4) (fun _ => State.bump_keeps _ _ _ hx4)
              · refine Answers.next ?_
                exact State.ringTake_keeps _ _ hx4

theorem execLinkWordReceive_answers (l : Fin 3) (b1 : BitVec 8) (b2 : BitVec 8) (b3 : BitVec 8) : Answers ⟨true, true, true, true, false, true, true, true, false, true, true, true, true, true, true⟩ s (execLinkWordReceive l b1 b2 b3 s) := by
  have hk : Keeps ⟨true, true, true, true, false, true, true, true, false, true, true, true, true, true, true⟩ s s := Keeps.refl _ _
  unfold execLinkWordReceive
  extract_lets -merge -underBinder +onlyGivenNames x0 x1
  have hx1 : Keeps ⟨true, true, true, true, false, true, true, true, false, true, true, true, true, true, true⟩ s x1 := State.putB_keeps _ _ _ hk
  try clear_value x1
  extract_lets -merge -underBinder +onlyGivenNames x2
  have hx2 : Keeps ⟨true, true, true, true, false, true, true, true, false, true, true, true, true, true, true⟩ s x2 := State.takeAck_keeps _ _ hx1
  try clear_value x2
  refine Answers.ite (fun _ => ?_) (fun _ => ?_)
  · refine Answers.next ?_
    exact hk
  · refine Answers.ite (fun _ => ?_) (fun _ => ?_)
    · refine Answers.next ?_
      exact Keeps.ite (fun _ => State.errLimit_keeps _ (State.linkErr_keeps _ _ _ hk)) (fun _ => hk)
    · refine Answers.ite (fun _ => ?_) (fun _ => ?_)
      · refine Answers.next ?_
        exact State.linkLost_keeps _ _ hx1
      · refine Answers.ite (fun _ => ?_) (fun _ => ?_)
        · refine Answers.next ?_
          exact Keeps.ite (fun _ => State.goBack_keeps _ hx2) (fun _ => hx2)
        · refine Answers.next ?_
          exact hx1

theorem execArqTimeout_answers (l : Fin 3) : Answers ⟨true, true, true, true, true, true, true, true, false, true, true, true, true, true, true⟩ s (execArqTimeout l s) := by
  have hk : Keeps ⟨true, true, true, true, true, true, true, true, false, true, true, true, true, true, true⟩ s s := Keeps.refl _ _
  unfold execArqTimeout
  refine Answers.next ?_
  exact Keeps.ite (fun _ => State.goBack_keeps _ hk) (fun _ => hk)

theorem execLossOfLock_answers (l : Fin 3) (fault : Bool) : Answers ⟨true, true, true, true, false, true, true, true, false, true, true, true, true, true, true⟩ s (execLossOfLock l fault s) := by
  have hk : Keeps ⟨true, true, true, true, false, true, true, true, false, true, true, true, true, true, true⟩ s s := Keeps.refl _ _
  unfold execLossOfLock
  refine Answers.ite (fun _ => ?_) (fun _ => ?_)
  · refine Answers.next ?_
    exact hk
  · refine Answers.next ?_
    exact State.linkLost_keeps _ _ (Keeps.ite (fun _ => State.put_keeps _ _ _ hk) (fun _ => hk))

theorem execLockRegained_answers (l : Fin 3) : Answers ⟨true, true, true, true, false, true, true, true, false, true, true, true, true, true, true⟩ s (execLockRegained l s) := by
  have hk : Keeps ⟨true, true, true, true, false, true, true, true, false, true, true, true, true, true, true⟩ s s := Keeps.refl _ _
  unfold execLockRegained
  refine Answers.next ?_
  exact Keeps.ite (fun _ => State.put_keeps _ _ _ (State.linkTo_keeps _ _ hk)) (fun _ => hk)

theorem execTrainingComplete_answers (l : Fin 3) (delay : BitVec 16) : Answers ⟨true, true, true, true, true, true, true, true, false, true, true, true, true, true, true⟩ s (execTrainingComplete l delay s) := by
  have hk : Keeps ⟨true, true, true, true, true, true, true, true, false, true, true, true, true, true, true⟩ s s := Keeps.refl _ _
  unfold execTrainingComplete
  extract_lets -merge -underBinder +onlyGivenNames x0 x1
  have hx1 : Keeps ⟨true, true, true, true, true, true, true, true, false, true, true, true, true, true, true⟩ s x1 := State.put_keeps _ _ _ (State.put_keeps _ _ _ (State.put_keeps _ _ _ hk))
  try clear_value x1
  extract_lets -merge -underBinder +onlyGivenNames x2
  have hx2 : Keeps ⟨true, true, true, true, true, true, true, true, false, true, true, true, true, true, true⟩ s x2 := State.put_keeps _ _ _ (State.put_keeps _ _ _ hx1)
  try clear_value x2
  refine Answers.ite (fun _ => ?_) (fun _ => ?_)
  · refine Answers.next ?_
    exact hk
  · refine Answers.next ?_
    exact State.raise_keeps _ _ (State.modLink_keeps _ _ hx2)

theorem execLinkRetireTimeout_answers (l : Fin 3) : Answers ⟨true, true, true, true, false, true, true, true, false, true, true, true, true, true, true⟩ s (execLinkRetireTimeout l s) := by
  have hk : Keeps ⟨true, true, true, true, false, true, true, true, false, true, true, true, true, true, true⟩ s s := Keeps.refl _ _
  unfold execLinkRetireTimeout
  refine Answers.next ?_
  exact Keeps.ite (fun _ => State.linkRetire_keeps _ _ hk) (fun _ => hk)

theorem execLinkErrorLimit_answers (l : Fin 3) (more : ℕ) : Answers ⟨true, true, true, true, false, true, true, true, false, true, true, true, true, true, true⟩ s (execLinkErrorLimit l more s) := by
  have hk : Keeps ⟨true, true, true, true, false, true, true, true, false, true, true, true, true, true, true⟩ s s := Keeps.refl _ _
  unfold execLinkErrorLimit
  refine Answers.ite (fun _ => ?_) (fun _ => ?_)
  · refine Answers.next ?_
    exact State.errLimit_keeps _ (State.linkErr_keeps _ _ _ hk)
  · refine Answers.next ?_
    exact hk

theorem execReprobeTimer_answers (l : Fin 3) : Answers ⟨true, true, true, true, false, true, true, true, false, true, true, true, true, true, true⟩ s (execReprobeTimer l s) := by
  have hk : Keeps ⟨true, true, true, true, false, true, true, true, false, true, true, true, true, true, true⟩ s s := Keeps.refl _ _
  unfold execReprobeTimer
  refine Answers.next ?_
  exact State.probeLink_keeps _ hk

theorem execProbingResult_answers (l : Fin 3) (clean : Bool) : Answers ⟨true, true, true, true, false, true, true, true, false, true, true, true, true, true, true⟩ s (execProbingResult l clean s) := by
  have hk : Keeps ⟨true, true, true, true, false, true, true, true, false, true, true, true, true, true, true⟩ s s := Keeps.refl _ _
  unfold execProbingResult
  refine Answers.next ?_
  exact Keeps.ite (fun _ => Keeps.ite (fun _ => State.put_keeps _ _ _ (State.linkTo_keeps _ _ hk)) (fun _ => State.linkTo_keeps _ _ hk)) (fun _ => hk)

theorem execHgCmdRetire_answers (l : Fin 3) (key : BitVec 16) : Answers ⟨true, true, true, true, false, true, true, true, false, true, true, true, true, true, true⟩ s (execHgCmdRetire l key s) := by
  have hk : Keeps ⟨true, true, true, true, false, true, true, true, false, true, true, true, true, true, true⟩ s s := Keeps.refl _ _
  unfold execHgCmdRetire
  refine Answers.next ?_
  exact State.keyCmd_keeps _ _ _ hk (fun _ h0 => State.hgRetire_keeps _ h0)

theorem execHgCmdReprobe_answers (l : Fin 3) (key : BitVec 16) : Answers ⟨true, true, true, true, false, true, true, true, false, true, true, true, true, true, true⟩ s (execHgCmdReprobe l key s) := by
  have hk : Keeps ⟨true, true, true, true, false, true, true, true, false, true, true, true, true, true, true⟩ s s := Keeps.refl _ _
  unfold execHgCmdReprobe
  refine Answers.next ?_
  exact State.keyCmd_keeps _ _ _ hk (fun _ h0 => State.probeLink_keeps _ h0)

theorem execHgCmdClearStats_answers (l : Fin 3) (key : BitVec 16) : Answers .all s (execHgCmdClearStats l key s) := by
  have hk : Keeps .all s s := Keeps.refl _ _
  unfold execHgCmdClearStats
  refine Answers.next ?_
  exact State.keyCmd_keeps _ _ _ hk (fun _ h0 => State.hgClear_keeps _ h0)

theorem execFleetCmdEnumerate_answers (key : BitVec 16) : Answers ⟨true, true, true, true, true, true, true, true, false, true, true, true, true, true, true⟩ s (execFleetCmdEnumerate key s) := by
  have hk : Keeps ⟨true, true, true, true, true, true, true, true, false, true, true, true, true, true, true⟩ s s := Keeps.refl _ _
  unfold execFleetCmdEnumerate
  refine Answers.next ?_
  exact State.keyCmd_keeps _ _ _ hk (fun _ h0 => State.enumerateCmd_keeps h0)

theorem execEnumAssign_answers : Answers ⟨true, true, true, true, true, true, true, true, false, true, true, true, true, true, true⟩ s (execEnumAssign s) := by
  have hk : Keeps ⟨true, true, true, true, true, true, true, true, false, true, true, true, true, true, true⟩ s s := Keeps.refl _ _
  unfold execEnumAssign
  refine Answers.next ?_
  exact State.withFrame_keeps _ hk (fun _ _ h0 => State.onAssign_keeps _ h0)

theorem execEnumCal_answers : Answers ⟨true, true, true, true, true, true, true, true, false, true, true, true, true, true, true⟩ s (execEnumCal s) := by
  have hk : Keeps ⟨true, true, true, true, true, true, true, true, false, true, true, true, true, true, true⟩ s s := Keeps.refl _ _
  unfold execEnumCal
  refine Answers.next ?_
  exact State.withFrame_keeps _ hk (fun _ _ h0 => State.onCal_keeps _ h0)

theorem execEnumDone_answers : Answers ⟨true, true, true, true, true, true, true, true, false, true, true, true, true, true, true⟩ s (execEnumDone s) := by
  have hk : Keeps ⟨true, true, true, true, true, true, true, true, false, true, true, true, true, true, true⟩ s s := Keeps.refl _ _
  unfold execEnumDone
  refine Answers.next ?_
  exact State.withFrame_keeps _ hk (fun _ _ h0 => State.takeDone_keeps _ _ h0)

theorem execEnumJoinReq_answers : Answers ⟨true, true, true, true, true, true, true, true, false, true, true, true, true, true, true⟩ s (execEnumJoinReq s) := by
  have hk : Keeps ⟨true, true, true, true, true, true, true, true, false, true, true, true, true, true, true⟩ s s := Keeps.refl _ _
  unfold execEnumJoinReq
  refine Answers.ite (fun _ => ?_) (fun _ => ?_)
  · refine Answers.next ?_
    exact State.withFrame_keeps _ hk (fun _ _ h0 => State.enumerate_keeps h0)
  · split
    · refine Answers.next ?_
      exact Keeps.ite (fun _ => State.sendTo_keeps _ _ _ _ hk) (fun _ => hk)
    · refine Answers.next ?_
      exact hk

theorem execTickFrameReceive_answers (err : ℤ) : Answers ⟨false, true, true, true, true, true, true, true, false, true, true, true, false, true, true⟩ s (execTickFrameReceive err s) := by
  have hk : Keeps ⟨false, true, true, true, true, true, true, true, false, true, true, true, false, true, true⟩ s s := Keeps.refl _ _
  unfold execTickFrameReceive
  refine Answers.next ?_
  refine State.withFrame_keeps _ ?_ ?_
  · exact hk
  · intro s0_0 s0_1 hs0_2
    extract_lets -merge -underBinder +onlyGivenNames x1 x2
    have hx2 : Keeps ⟨false, true, true, true, true, true, true, true, false, true, true, true, false, true, true⟩ s x2 := State.put_keeps _ _ _ (State.put_keeps _ _ _ (State.standDown_keeps hs0_2))
    try clear_value x2
    exact Keeps.ite (fun _ => Keeps.ite (fun _ => Keeps.ite (fun _ => State.takeTick_keeps _ _ hx2) (fun _ => hs0_2)) (fun _ => State.modFleet_keeps _ hs0_2)) (fun _ => Keeps.ite (fun _ => hs0_2) (fun _ => State.takeTick_keeps _ _ hs0_2))

theorem execWrapFrameReceive_answers : Answers ⟨true, true, true, true, true, true, true, true, false, true, true, true, true, true, true⟩ s (execWrapFrameReceive s) := by
  have hk : Keeps ⟨true, true, true, true, true, true, true, true, false, true, true, true, true, true, true⟩ s s := Keeps.refl _ _
  unfold execWrapFrameReceive
  refine Answers.next ?_
  refine State.withFrame_keeps _ ?_ ?_
  · exact hk
  · intro s0_0 s0_1 hs0_2
    extract_lets -merge -underBinder +onlyGivenNames x1 x2 x3 x4 x5 x6
    have hx6 : Keeps ⟨true, true, true, true, true, true, true, true, false, true, true, true, true, true, true⟩ s x6 := State.modFleet_keeps _ hs0_2
    try clear_value x6
    extract_lets -merge -underBinder +onlyGivenNames x7
    have hx7 : Keeps ⟨true, true, true, true, true, true, true, true, false, true, true, true, true, true, true⟩ s x7 := State.putB_keeps _ _ _ hx6
    try clear_value x7
    extract_lets -merge -underBinder +onlyGivenNames x8
    have hx8 : Keeps ⟨true, true, true, true, true, true, true, true, false, true, true, true, true, true, true⟩ s x8 := State.raiseIf_keeps _ _ _ (State.raiseIf_keeps _ _ _ hx7)
    try clear_value x8
    exact Keeps.ite (fun _ => State.enumerate_keeps hx8) (fun _ => hx8)

theorem execEvtFrameSend_answers : Answers ⟨true, true, true, true, true, true, true, true, false, true, true, true, true, true, true⟩ s (execEvtFrameSend s) := by
  have hk : Keeps ⟨true, true, true, true, true, true, true, true, false, true, true, true, true, true, true⟩ s s := Keeps.refl _ _
  unfold execEvtFrameSend
  refine Answers.ite (fun _ => ?_) (fun _ => ?_)
  · refine Answers.next ?_
    exact State.sendTo_keeps _ _ _ _ hk
  · refine Answers.next ?_
    exact hk

theorem execEngineFrameDeliver_answers : Answers ⟨true, true, true, true, false, true, true, true, false, true, true, true, true, true, true⟩ s (execEngineFrameDeliver s) := by
  have hk : Keeps ⟨true, true, true, true, false, true, true, true, false, true, true, true, true, true, true⟩ s s := Keeps.refl _ _
  unfold execEngineFrameDeliver
  refine Answers.next ?_
  refine State.withFrame_keeps _ ?_ ?_
  · exact hk
  · intro s0_0 s0_1 hs0_2
    split
    · exact hs0_2
    · exact State.rxqPut_keeps _ _ _ _ hs0_2

theorem execFleetTxReq_answers (slot : Fin 64) : Answers ⟨true, true, true, true, false, true, true, true, false, true, true, true, true, true, true⟩ s (execFleetTxReq slot s) := by
  have hk : Keeps ⟨true, true, true, true, false, true, true, true, false, true, true, true, true, true, true⟩ s s := Keeps.refl _ _
  unfold execFleetTxReq
  refine Answers.next ?_
  exact State.cmd_keeps _ hk (fun _ h0 => State.txfReq_keeps _ h0)

theorem execTakeoverReceive_answers : Answers ⟨true, true, true, true, true, true, true, true, false, true, true, true, true, true, true⟩ s (execTakeoverReceive s) := by
  have hk : Keeps ⟨true, true, true, true, true, true, true, true, false, true, true, true, true, true, true⟩ s s := Keeps.refl _ _
  unfold execTakeoverReceive
  refine Answers.next ?_
  refine State.withFrame_keeps _ ?_ ?_
  · exact hk
  · intro s0_0 s0_1 hs0_2
    extract_lets -merge -underBinder +onlyGivenNames x1 x2 x3
    have hx3 : Keeps ⟨true, true, true, true, true, true, true, true, false, true, true, true, true, true, true⟩ s x3 := State.adopt_keeps _ _ _ hs0_2
    try clear_value x3
    exact Keeps.ite (fun _ => State.sendTick_keeps _ (State.put_keeps _ _ _ (State.put_keeps _ _ _ (State.put_keeps _ _ _ hx3)))) (fun _ => Keeps.ite (fun _ => State.modFleet_keeps _ hx3) (fun _ => hx3))

theorem execEnumReturn_answers : Answers ⟨true, true, true, true, true, true, true, true, false, true, true, true, true, true, true⟩ s (execEnumReturn s) := by
  have hk : Keeps ⟨true, true, true, true, true, true, true, true, false, true, true, true, true, true, true⟩ s s := Keeps.refl _ _
  unfold execEnumReturn
  refine Answers.ite (fun _ => ?_) (fun _ => ?_)
  · split
    · refine Answers.next ?_
      exact State.sendTo_keeps _ _ _ _ hk
    · refine Answers.next ?_
      exact hk
  · refine Answers.next ?_
    refine State.withFrame_keeps _ ?_ ?_
    · exact hk
    · intro s0_0 s0_1 hs0_2
      extract_lets -merge -underBinder +onlyGivenNames x1
      exact State.modFleet_keeps _ hs0_2

theorem execHandback_answers : Answers ⟨true, true, true, true, true, true, true, true, false, true, true, true, false, true, true⟩ s (execHandback s) := by
  have hk : Keeps ⟨true, true, true, true, true, true, true, true, false, true, true, true, false, true, true⟩ s s := Keeps.refl _ _
  unfold execHandback
  split
  · extract_lets -merge -underBinder +onlyGivenNames x0
    extract_lets -merge -underBinder +onlyGivenNames x1
    have hx1 : Keeps ⟨true, true, true, true, true, true, true, true, false, true, true, true, false, true, true⟩ s x1 := State.broadcast_keeps _ _ hk
    try clear_value x1
    refine Answers.ite (fun _ => ?_) (fun _ => ?_)
    · refine Answers.next ?_
      exact State.raise_keeps _ _ (State.standDown_keeps (State.adopt_keeps _ _ _ hx1))
    · refine Answers.next ?_
      exact hk
  · refine Answers.next ?_
    exact hk

theorem execFleetCmdTakeover_answers (key : BitVec 16) : Answers ⟨true, true, true, true, true, true, true, true, false, true, true, true, true, true, true⟩ s (execFleetCmdTakeover key s) := by
  have hk : Keeps ⟨true, true, true, true, true, true, true, true, false, true, true, true, true, true, true⟩ s s := Keeps.refl _ _
  unfold execFleetCmdTakeover
  refine Answers.next ?_
  exact State.keyCmd_keeps _ _ _ hk (fun _ h0 => State.tkoCmd_keeps h0)

theorem execFleetCmdHandback_answers (key : BitVec 16) : Answers ⟨true, true, true, true, true, true, true, true, false, true, true, true, true, true, true⟩ s (execFleetCmdHandback key s) := by
  have hk : Keeps ⟨true, true, true, true, true, true, true, true, false, true, true, true, true, true, true⟩ s s := Keeps.refl _ _
  unfold execFleetCmdHandback
  refine Answers.next ?_
  exact State.keyCmd_keeps _ _ _ hk (fun _ h0 => State.handbackCmd_keeps h0)

theorem execSourceCapsSend_answers (n : Port) : Answers ⟨true, true, true, true, false, true, true, true, true, true, true, false, true, true, false⟩ s (execSourceCapsSend n s) := by
  have hk : Keeps ⟨true, true, true, true, false, true, true, true, true, true, true, false, true, true, false⟩ s s := Keeps.refl _ _
  unfold execSourceCapsSend
  refine Answers.next ?_
  refine State.policy_keeps ?_ ?_
  · exact hk
  · intro s0_0 hs0_1
    extract_lets -merge -underBinder +onlyGivenNames x1
    have hx1 : Keeps ⟨true, true, true, true, false, true, true, true, true, true, true, false, true, true, false⟩ s x1 := State.followLimit_keeps _ hs0_1
    try clear_value x1
    extract_lets -merge -underBinder +onlyGivenNames x2
    have hx2 : Keeps ⟨true, true, true, true, false, true, true, true, true, true, true, false, true, true, false⟩ s x2 := State.fwHrComplete_keeps _ hx1
    try clear_value x2
    extract_lets -merge -underBinder +onlyGivenNames x3
    have hx3 : Keeps ⟨true, true, true, true, false, true, true, true, true, true, true, false, true, true, false⟩ s x3 := Keeps.ite (fun _ => State.cableAsk_keeps _ hx2) (fun _ => hx2)
    try clear_value x3
    exact Keeps.ite (fun _ => hx1) (fun _ => Keeps.ite (fun _ => Keeps.ite (fun _ => hx1) (fun _ => State.advertise_keeps _ hx1)) (fun _ => Keeps.ite (fun _ => State.modFw_keeps _ _ (State.advertise_keeps _ hx3)) (fun _ => hx1)))

theorem execSourceRequestTimeout_answers (n : Port) : Answers ⟨true, true, true, true, false, true, true, true, true, true, true, true, true, true, false⟩ s (execSourceRequestTimeout n s) := by
  have hk : Keeps ⟨true, true, true, true, false, true, true, true, true, true, true, true, true, true, false⟩ s s := Keeps.refl _ _
  unfold execSourceRequestTimeout
  refine Answers.next ?_
  exact State.policy_keeps hk (fun _ h0 => Keeps.ite (fun _ => State.hardResetStart_keeps _ (State.modFw_keeps _ _ h0)) (fun _ => h0))

theorem execRequestEvaluation_answers (n : Port) (i : Fin 64) : Answers ⟨true, true, true, true, false, true, true, true, true, true, true, true, true, true, false⟩ s (execRequestEvaluation n i s) := by
  have hk : Keeps ⟨true, true, true, true, false, true, true, true, true, true, true, true, true, true, false⟩ s s := Keeps.refl _ _
  unfold execRequestEvaluation
  refine Answers.next ?_
  refine State.policy_keeps ?_ ?_
  · exact hk
  · intro s0_0 hs0_1
    extract_lets -merge -underBinder +onlyGivenNames x1
    exact Keeps.ite (fun _ => hs0_1) (fun _ => Keeps.ite (fun _ => State.evalRequest_keeps _ _ hs0_1) (fun _ => Keeps.ite (fun _ => State.eprMode_keeps _ _ hs0_1) (fun _ => hs0_1)))

theorem execPpsRequestTimeout_answers (n : Port) : Answers ⟨true, true, true, true, false, true, true, true, true, true, true, true, true, true, false⟩ s (execPpsRequestTimeout n s) := by
  have hk : Keeps ⟨true, true, true, true, false, true, true, true, true, true, true, true, true, true, false⟩ s s := Keeps.refl _ _
  unfold execPpsRequestTimeout
  refine Answers.next ?_
  exact State.policy_keeps hk (fun _ h0 => Keeps.ite (fun _ => State.hardResetStart_keeps _ h0) (fun _ => h0))

theorem execSinkCapsTimeout_answers (n : Port) : Answers ⟨true, true, true, true, false, true, true, true, true, true, true, true, true, true, false⟩ s (execSinkCapsTimeout n s) := by
  have hk : Keeps ⟨true, true, true, true, false, true, true, true, true, true, true, true, true, true, false⟩ s s := Keeps.refl _ _
  unfold execSinkCapsTimeout
  refine Answers.next ?_
  exact State.policy_keeps hk (fun _ h0 => Keeps.ite (fun _ => State.hardResetStart_keeps _ (State.modFw_keeps _ _ h0)) (fun _ => h0))

theorem execSinkRequest_answers (n : Port) (rec : Option (Fin 64)) : Answers ⟨true, true, true, true, false, true, true, true, true, true, true, true, true, true, false⟩ s (execSinkRequest n rec s) := by
  have hk : Keeps ⟨true, true, true, true, false, true, true, true, true, true, true, true, true, true, false⟩ s s := Keeps.refl _ _
  unfold execSinkRequest
  refine Answers.next ?_
  refine State.policy_keeps ?_ ?_
  · exact hk
  · intro s0_0 hs0_1
    extract_lets -merge -underBinder +onlyGivenNames x1
    have hx1 : Keeps ⟨true, true, true, true, false, true, true, true, true, true, true, true, true, true, false⟩ s x1 := State.fwHrComplete_keeps _ hs0_1
    try clear_value x1
    refine Keeps.ite (fun _ => ?_) (fun _ => ?_)
    · exact hs0_1
    · split
      · exact Keeps.ite (fun _ => State.sinkChoose_keeps _ (State.modFw_keeps _ _ hx1)) (fun _ => Keeps.ite (fun _ => State.sinkChoose_keeps _ (State.modFw_keeps _ _ hx1)) (fun _ => hx1))
      · exact Keeps.ite (fun _ => hx1) (fun _ => State.sinkChoose_keeps _ hx1)

theorem execPsRdyTimeout_answers (n : Port) : Answers ⟨true, true, true, true, false, true, true, true, true, true, true, true, true, true, false⟩ s (execPsRdyTimeout n s) := by
  have hk : Keeps ⟨true, true, true, true, false, true, true, true, true, true, true, true, true, true, false⟩ s s := Keeps.refl _ _
  unfold execPsRdyTimeout
  refine Answers.next ?_
  exact State.policy_keeps hk (fun _ h0 => Keeps.ite (fun _ => State.hardResetStart_keeps _ h0) (fun _ => h0))

theorem execTrimRequest_answers (n : Port) : Answers ⟨true, true, true, true, false, true, true, true, true, true, true, true, true, true, false⟩ s (execTrimRequest n s) := by
  have hk : Keeps ⟨true, true, true, true, false, true, true, true, true, true, true, true, true, true, false⟩ s s := Keeps.refl _ _
  unfold execTrimRequest
  refine Answers.next ?_
  refine State.policy_keeps ?_ ?_
  · exact hk
  · intro s0_0 hs0_1
    extract_lets -merge -underBinder +onlyGivenNames x1 x2
    exact Keeps.ite (fun _ => State.sendRequest_keeps _ _ _ _ hs0_1) (fun _ => hs0_1)

theorem execDrSwapResponse_answers (n : Port) (rec : Option (Fin 64)) : Answers ⟨true, true, true, true, false, true, true, true, true, true, true, true, true, true, false⟩ s (execDrSwapResponse n rec s) := by
  have hk : Keeps ⟨true, true, true, true, false, true, true, true, true, true, true, true, true, true, false⟩ s s := Keeps.refl _ _
  unfold execDrSwapResponse
  refine Answers.next ?_
  refine State.policy_keeps ?_ ?_
  · exact hk
  · intro s0_0 hs0_1
    split
    · exact State.drInitiate_keeps _ hs0_1
    · exact Keeps.ite (fun _ => hs0_1) (fun _ => Keeps.ite (fun _ => State.drAnswer_keeps _ hs0_1) (fun _ => Keeps.ite (fun _ => State.modFw_keeps _ _ hs0_1) (fun _ => hs0_1)))

theorem execDiscovery_answers (n : Port) (rec : Option (Fin 64)) (cable : Bool) : Answers ⟨true, true, true, false, false, true, true, true, true, true, true, true, true, true, false⟩ s (execDiscovery n rec cable s) := by
  have hk : Keeps ⟨true, true, true, false, false, true, true, true, true, true, true, true, true, true, false⟩ s s := Keeps.refl _ _
  unfold execDiscovery
  refine Answers.next ?_
  refine State.policy_keeps ?_ ?_
  · exact hk
  · intro s0_0 hs0_1
    split
    · extract_lets -merge -underBinder +onlyGivenNames x1
      exact Keeps.ite (fun _ => hs0_1) (fun _ => Keeps.ite (fun _ => Keeps.ite (fun _ => State.vdmRequest_keeps _ _ hs0_1) (fun _ => hs0_1)) (fun _ => State.vdmResponse_keeps _ _ hs0_1))
    · exact Keeps.ite (fun _ => Keeps.ite (fun _ => State.cableAsk_keeps _ hs0_1) (fun _ => hs0_1)) (fun _ => Keeps.ite (fun _ => State.discStart_keeps _ hs0_1) (fun _ => hs0_1))

theorem execVdmResponseTimeout_answers (n : Port) (cable : Bool) : Answers ⟨true, true, true, false, false, true, true, true, true, true, true, true, true, true, false⟩ s (execVdmResponseTimeout n cable s) := by
  have hk : Keeps ⟨true, true, true, false, false, true, true, true, true, true, true, true, true, true, false⟩ s s := Keeps.refl _ _
  unfold execVdmResponseTimeout
  refine Answers.next ?_
  refine State.policy_keeps ?_ ?_
  · exact hk
  · intro s0_0 hs0_1
    split
    · exact hs0_1
    · exact Keeps.ite (fun _ => State.cableTimeout_keeps _ _ hs0_1) (fun _ => State.vdmTimeout_keeps _ _ hs0_1)

theorem execModeEntryAuto_answers (n : Port) : Answers ⟨true, true, true, true, false, true, true, true, true, true, true, true, true, true, false⟩ s (execModeEntryAuto n s) := by
  have hk : Keeps ⟨true, true, true, true, false, true, true, true, true, true, true, true, true, true, false⟩ s s := Keeps.refl _ _
  unfold execModeEntryAuto
  refine Answers.next ?_
  refine State.policy_keeps ?_ ?_
  · exact hk
  · intro s0_0 hs0_1
    split
    · exact State.enterMode_keeps _ _ _ _ hs0_1
    · exact hs0_1

theorem execVdmCmdRediscover_answers (n : Port) (key : BitVec 16) : Answers ⟨true, true, true, true, false, true, true, true, true, true, true, true, true, true, false⟩ s (execVdmCmdRediscover n key s) := by
  have hk : Keeps ⟨true, true, true, true, false, true, true, true, true, true, true, true, true, true, false⟩ s s := Keeps.refl _ _
  unfold execVdmCmdRediscover
  refine Answers.next ?_
  exact State.keyCmd_keeps _ _ _ hk (fun _ h0 => State.policy_keeps h0 (fun _ h1 => State.vdmRediscover_keeps _ h1))

theorem execVdmCmdEnter_answers (n : Port) (key : BitVec 16) : Answers ⟨true, true, true, true, false, true, true, true, true, true, true, true, true, true, false⟩ s (execVdmCmdEnter n key s) := by
  have hk : Keeps ⟨true, true, true, true, false, true, true, true, true, true, true, true, true, true, false⟩ s s := Keeps.refl _ _
  unfold execVdmCmdEnter
  refine Answers.next ?_
  exact State.keyCmd_keeps _ _ _ hk (fun _ h0 => State.policy_keeps h0 (fun _ h1 => State.vdmEnter_keeps _ h1))

theorem execVdmCmdExit_answers (n : Port) (key : BitVec 16) : Answers ⟨true, true, true, true, false, true, true, true, true, true, true, true, true, true, false⟩ s (execVdmCmdExit n key s) := by
  have hk : Keeps ⟨true, true, true, true, false, true, true, true, true, true, true, true, true, true, false⟩ s s := Keeps.refl _ _
  unfold execVdmCmdExit
  refine Answers.next ?_
  exact State.keyCmd_keeps _ _ _ hk (fun _ h0 => State.policy_keeps h0 (fun _ h1 => State.vdmExit_keeps _ h1))

theorem execModeEndAtReset_answers (n : Port) : Answers ⟨true, true, true, false, true, true, true, true, true, true, true, true, true, true, false⟩ s (execModeEndAtReset n s) := by
  have hk : Keeps ⟨true, true, true, false, true, true, true, true, true, true, true, true, true, true, false⟩ s s := Keeps.refl _ _
  unfold execModeEndAtReset
  refine Answers.next ?_
  refine State.policy_keeps ?_ ?_
  · exact hk
  · intro s0_0 hs0_1
    extract_lets -merge -underBinder +onlyGivenNames x1 x2
    have hx2 : Keeps ⟨true, true, true, false, true, true, true, true, true, true, true, true, true, true, false⟩ s x2 := State.modeClear_keeps _ _ hs0_1
    try clear_value x2
    exact State.modeRecord_keeps _ (Keeps.ite (fun _ => State.vdmEvt_keeps _ _ hx2) (fun _ => hx2))

theorem execUfpHpdSample_answers (n : Port) : Answers ⟨true, true, true, true, false, true, true, true, true, true, true, true, true, true, false⟩ s (execUfpHpdSample n s) := by
  have hk : Keeps ⟨true, true, true, true, false, true, true, true, true, true, true, true, true, true, false⟩ s s := Keeps.refl _ _
  unfold execUfpHpdSample
  refine Answers.next ?_
  refine State.policy_keeps ?_ ?_
  · exact hk
  · intro s0_0 hs0_1
    extract_lets -merge -underBinder +onlyGivenNames x1 x2 x3 x4 x5 x6
    have hx6 : Keeps ⟨true, true, true, true, false, true, true, true, true, true, true, true, true, true, false⟩ s x6 := State.modFw_keeps _ _ hs0_1
    try clear_value x6
    exact Keeps.ite (fun _ => hs0_1) (fun _ => Keeps.ite (fun _ => hx6) (fun _ => State.fwSend_keeps _ _ _ _ _ hx6))

theorem execHostVdmPass_answers (n : Port) (i : Fin 64) : Answers ⟨true, true, true, true, false, true, true, true, true, true, true, true, true, true, false⟩ s (execHostVdmPass n i s) := by
  have hk : Keeps ⟨true, true, true, true, false, true, true, true, true, true, true, true, true, true, false⟩ s s := Keeps.refl _ _
  unfold execHostVdmPass
  refine Answers.next ?_
  refine State.policy_keeps ?_ ?_
  · exact hk
  · intro s0_0 hs0_1
    extract_lets -merge -underBinder +onlyGivenNames x1 x2 x3 x4
    have hx4 : Keeps ⟨true, true, true, true, false, true, true, true, true, true, true, true, true, true, false⟩ s x4 := State.stWrite_keeps _ _ hs0_1
    try clear_value x4
    extract_lets -merge -underBinder +onlyGivenNames x5
    have hx5 : Keeps ⟨true, true, true, true, false, true, true, true, true, true, true, true, true, true, false⟩ s x5 := Keeps.ite (fun _ => State.vdmEvt_keeps _ _ hs0_1) (fun _ => State.vdmEvt_keeps _ _ (State.put_keeps _ _ _ hx4))
    try clear_value x5
    exact Keeps.ite (fun _ => hs0_1) (fun _ => Keeps.ite (fun _ => Keeps.ite (fun _ => State.fwSend_keeps _ _ _ _ _ hx5) (fun _ => hx5)) (fun _ => Keeps.ite (fun _ => Keeps.ite (fun _ => State.fwSend_keeps _ _ _ _ _ hs0_1) (fun _ => hs0_1)) (fun _ => State.fwSend_keeps _ _ _ _ _ hs0_1)))

theorem execHostTxGo_answers (n : Port) (count : BitVec 3) (sop : BitVec 2) : Answers ⟨true, true, true, true, false, true, true, true, true, true, true, true, true, true, false⟩ s (execHostTxGo n count sop s) := by
  have hk : Keeps ⟨true, true, true, true, false, true, true, true, true, true, true, true, true, true, false⟩ s s := Keeps.refl _ _
  unfold execHostTxGo
  refine Answers.next ?_
  exact State.cmd_keeps _ hk (fun _ h0 => State.hostTxWrite_keeps _ _ _ h0)

theorem execPlaceCmdRun_answers (key : BitVec 16) : Answers ⟨true, true, true, true, true, true, true, true, true, true, true, false, true, true, true⟩ s (execPlaceCmdRun key s) := by
  have hk : Keeps ⟨true, true, true, true, true, true, true, true, true, true, true, false, true, true, true⟩ s s := Keeps.refl _ _
  unfold execPlaceCmdRun
  refine Answers.next ?_
  exact State.keyCmd_keeps _ _ _ hk (fun _ h0 => State.placeRun_keeps h0)

theorem execPlacementRun_answers : Answers ⟨true, true, true, true, false, true, true, true, false, true, true, false, true, true, true⟩ s (execPlacementRun s) := by
  have hk : Keeps ⟨true, true, true, true, false, true, true, true, false, true, true, false, true, true, true⟩ s s := Keeps.refl _ _
  unfold execPlacementRun
  split
  · refine Answers.next ?_
    exact hk
  · extract_lets -merge -underBinder +onlyGivenNames x0
    extract_lets -merge -underBinder +onlyGivenNames x1
    have hx1 : Keeps ⟨true, true, true, true, false, true, true, true, false, true, true, false, true, true, true⟩ s x1 := State.modPlace_keeps _ hk
    try clear_value x1
    extract_lets -merge -underBinder +onlyGivenNames x2 x3 x4
    have hx4 : Keeps ⟨true, true, true, true, false, true, true, true, false, true, true, false, true, true, true⟩ s x4 := foldl_keeps _ hx1 (fun _ _ h5 => State.ledgerStep_keeps _ _ h5)
    try clear_value x4
    extract_lets -merge -underBinder +onlyGivenNames x6 x7 x8
    have hx8 : Keeps ⟨true, true, true, true, false, true, true, true, false, true, true, false, true, true, true⟩ s x8.1 := by
      refine Keeps.ofEq ?_ (State.numberChanged_keeps hx4)
      exact rfl
    try clear_value x8
    extract_lets -merge -underBinder +onlyGivenNames x9 x10
    have hx10 : Keeps ⟨true, true, true, true, false, true, true, true, false, true, true, false, true, true, true⟩ s x10 := hx8
    try clear_value x10
    extract_lets -merge -underBinder +onlyGivenNames x11 x12 x13
    have hx13 : Keeps ⟨true, true, true, true, false, true, true, true, false, true, true, false, true, true, true⟩ s x13 := by
      unfold x13
      refine foldl_keeps _ ?_ ?_
      · exact hx10
      · intro s14_0 s14_1 hs14_1
        extract_lets -merge -underBinder +onlyGivenNames x15
        have hx15 : Keeps ⟨true, true, true, true, false, true, true, true, false, true, true, false, true, true, true⟩ s x15 := State.sendEngine_keeps _ _ _ _ _ _ _ hs14_1
        try clear_value x15
        exact State.modNode_keeps _ _ hx15
    try clear_value x13
    extract_lets -merge -underBinder +onlyGivenNames x16
    have hx16 : Keeps ⟨true, true, true, true, false, true, true, true, false, true, true, false, true, true, true⟩ s x16 := by
      unfold x16
      refine State.forPorts_keeps ?_ ?_
      · exact hx13
      · intro s17_0 s17_1 hs17_1
        extract_lets -merge -underBinder +onlyGivenNames x18
        exact Keeps.ite (fun _ => State.takeGrant_keeps _ _ _ _ _ _ _ hs17_1) (fun _ => State.takeGrant_keeps _ _ _ _ _ _ _ hs17_1)
    try clear_value x16
    extract_lets -merge -underBinder +onlyGivenNames x19
    have hx19 : Keeps ⟨true, true, true, true, false, true, true, true, false, true, true, false, true, true, true⟩ s x19 := foldl_keeps _ hx16 (fun _ _ h20 => State.modLed_keeps _ _ h20)
    try clear_value x19
    extract_lets -merge -underBinder +onlyGivenNames x21
    have hx21 : Keeps ⟨true, true, true, true, false, true, true, true, false, true, true, false, true, true, true⟩ s x21 := Keeps.ite (fun _ => foldl_keeps _ hx19 (fun _ _ h22 => State.recSet_keeps _ _ _ _ _ h22)) (fun _ => hx19)
    try clear_value x21
    extract_lets -merge -underBinder +onlyGivenNames x23
    have hx23 : Keeps ⟨true, true, true, true, false, true, true, true, false, true, true, false, true, true, true⟩ s x23 := State.put_keeps _ _ _ (State.put_keeps _ _ _ (State.put_keeps _ _ _ hx21))
    try clear_value x23
    extract_lets -merge -underBinder +onlyGivenNames x24
    have hx24 : Keeps ⟨true, true, true, true, false, true, true, true, false, true, true, false, true, true, true⟩ s x24 := State.modPlace_keeps _ hx23
    try clear_value x24
    extract_lets -merge -underBinder +onlyGivenNames x25
    have hx25 : Keeps ⟨true, true, true, true, false, true, true, true, false, true, true, false, true, true, true⟩ s x25 := State.raise_keeps _ _ hx24
    try clear_value x25
    extract_lets -merge -underBinder +onlyGivenNames x26
    have hx26 : Keeps ⟨true, true, true, true, false, true, true, true, false, true, true, false, true, true, true⟩ s x26 := State.raiseIf_keeps _ _ _ (State.raiseIf_keeps _ _ _ hx25)
    try clear_value x26
    refine Answers.ite (fun _ => ?_) (fun _ => ?_)
    · refine Answers.next ?_
      exact hk
    · refine Answers.next ?_
      exact State.raiseIf_keeps _ _ _ hx26

theorem execGrantReceive_answers : Answers ⟨true, true, true, true, false, true, true, true, false, true, true, false, true, true, true⟩ s (execGrantReceive s) := by
  have hk : Keeps ⟨true, true, true, true, false, true, true, true, false, true, true, false, true, true, true⟩ s s := Keeps.refl _ _
  unfold execGrantReceive
  refine Answers.next ?_
  refine State.withFrame_keeps _ ?_ ?_
  · exact hk
  · intro s0_0 s0_1 hs0_2
    extract_lets -merge -underBinder +onlyGivenNames x1
    have hx1 : Keeps ⟨true, true, true, true, false, true, true, true, false, true, true, false, true, true, true⟩ s x1 := Keeps.ite (fun _ => State.leaseReload_keeps _ hs0_2) (fun _ => hs0_2)
    try clear_value x1
    exact State.rxqPut_keeps _ _ _ _ hx1

theorem execGrantApply_answers (entry : Option (Fin 64)) : Answers ⟨true, true, true, true, false, true, true, true, true, true, true, false, true, true, false⟩ s (execGrantApply entry s) := by
  have hk : Keeps ⟨true, true, true, true, false, true, true, true, true, true, true, false, true, true, false⟩ s s := Keeps.refl _ _
  unfold execGrantApply
  refine Answers.next ?_
  refine State.policy_keeps ?_ ?_
  · exact hk
  · intro s0_0 hs0_1
    extract_lets -merge -underBinder +onlyGivenNames x1
    have hx1 : Keeps ⟨true, true, true, true, false, true, true, true, true, true, true, false, true, true, false⟩ s x1 := by
      unfold x1
      split
      · extract_lets -merge -underBinder +onlyGivenNames x2
        have hx2 : Keeps ⟨true, true, true, true, false, true, true, true, true, true, true, false, true, true, false⟩ s x2 := State.stNote_keeps _ _ _ hs0_1
        try clear_value x2
        exact Keeps.ite (fun _ => State.rxRelease_keeps _ (State.takeGrants_keeps _ hx2)) (fun _ => hx2)
      · exact hs0_1
    try clear_value x1
    exact State.forPorts_keeps hx1 (fun _ _ h3 => State.startGrant_keeps _ h3)

theorem execDecConfirmTimeout_answers (n : Port) : Answers ⟨true, true, true, true, false, true, true, true, true, true, true, true, true, true, false⟩ s (execDecConfirmTimeout n s) := by
  have hk : Keeps ⟨true, true, true, true, false, true, true, true, true, true, true, true, true, true, false⟩ s s := Keeps.refl _ _
  unfold execDecConfirmTimeout
  refine Answers.next ?_
  refine State.policy_keeps ?_ ?_
  · exact hk
  · intro s0_0 hs0_1
    extract_lets -merge -underBinder +onlyGivenNames x1
    exact Keeps.ite (fun _ => State.hardResetStart_keeps _ hs0_1) (fun _ => hs0_1)

theorem execContractSend_answers (periodic : Bool) : Answers ⟨true, true, true, true, false, true, true, true, false, true, true, false, true, true, true⟩ s (execContractSend periodic s) := by
  have hk : Keeps ⟨true, true, true, true, false, true, true, true, false, true, true, false, true, true, true⟩ s s := Keeps.refl _ _
  unfold execContractSend
  refine Answers.next ?_
  refine State.policy_keeps ?_ ?_
  · exact hk
  · intro s0_0 hs0_1
    extract_lets -merge -underBinder +onlyGivenNames x1
    have hx1 : Keeps ⟨true, true, true, true, false, true, true, true, false, true, true, false, true, true, true⟩ s x1 := State.forPorts_keeps hs0_1 (fun _ _ h2 => State.ackOwn_keeps _ h2)
    try clear_value x1
    extract_lets -merge -underBinder +onlyGivenNames x3
    refine Keeps.ite (fun _ => ?_) (fun _ => ?_)
    · refine State.forPorts_keeps ?_ ?_
      · exact hx1
      · intro s4_0 s4_1 hs4_1
        extract_lets -merge -underBinder +onlyGivenNames x5
        exact Keeps.ite (fun _ => State.ledgerConfirm_keeps _ _ _ _ _ hs4_1) (fun _ => hs4_1)
    · exact Keeps.ite (fun _ => State.modPlace_keeps _ (State.sendEngine_keeps _ _ _ _ _ _ _ hx1)) (fun _ => hx1)

theorem execContractReceive_answers (entry : Fin 64) : Answers ⟨true, true, true, true, false, true, true, true, true, true, true, false, true, true, true⟩ s (execContractReceive entry s) := by
  have hk : Keeps ⟨true, true, true, true, false, true, true, true, true, true, true, false, true, true, true⟩ s s := Keeps.refl _ _
  unfold execContractReceive
  refine Answers.next ?_
  refine State.policy_keeps ?_ ?_
  · exact hk
  · intro s0_0 hs0_1
    extract_lets -merge -underBinder +onlyGivenNames x1
    have hx1 : Keeps ⟨true, true, true, true, false, true, true, true, true, true, true, false, true, true, true⟩ s x1 := State.stNote_keeps _ _ _ hs0_1
    try clear_value x1
    extract_lets -merge -underBinder +onlyGivenNames x2 x3 x4 x5
    have hx5 : Keeps ⟨true, true, true, true, false, true, true, true, true, true, true, false, true, true, true⟩ s x5 := State.setMapBit_keeps _ _ _ _ (State.raise_keeps _ _ hx1)
    try clear_value x5
    extract_lets -merge -underBinder +onlyGivenNames x6
    have hx6 : Keeps ⟨true, true, true, true, false, true, true, true, true, true, true, false, true, true, true⟩ s x6 := Keeps.ite (fun _ => State.modNode_keeps _ _ hx5) (fun _ => hx1)
    try clear_value x6
    extract_lets -merge -underBinder +onlyGivenNames x7 x8
    have hx8 : Keeps ⟨true, true, true, true, false, true, true, true, true, true, true, false, true, true, true⟩ s x8 := State.modNode_keeps _ _ hx6
    try clear_value x8
    extract_lets -merge -underBinder +onlyGivenNames x9
    have hx9 : Keeps ⟨true, true, true, true, false, true, true, true, true, true, true, false, true, true, true⟩ s x9 := foldl_keeps _ hx8 (fun _ _ h10 => State.contractTake_keeps _ _ _ h10)
    try clear_value x9
    exact Keeps.ite (fun _ => hx1) (fun _ => State.rxRelease_keeps _ (State.cutCheck_keeps hx9))

theorem execDemandCompute_answers (soc : List (Fin 8 × ℕ)) : Answers ⟨true, true, true, true, false, true, true, true, true, true, true, false, true, true, true⟩ s (execDemandCompute soc s) := by
  have hk : Keeps ⟨true, true, true, true, false, true, true, true, true, true, true, false, true, true, true⟩ s s := Keeps.refl _ _
  unfold execDemandCompute
  refine Answers.next ?_
  refine State.policy_keeps ?_ ?_
  · exact hk
  · intro s0_0 hs0_1
    extract_lets -merge -underBinder +onlyGivenNames x1
    have hx1 : Keeps ⟨true, true, true, true, false, true, true, true, true, true, true, false, true, true, true⟩ s x1 := foldl_keeps _ hs0_1 (fun _ _ h2 => State.modPlace_keeps _ h2)
    try clear_value x1
    refine State.forPorts_keeps ?_ ?_
    · exact hx1
    · intro s3_0 s3_1 hs3_1
      extract_lets -merge -underBinder +onlyGivenNames x4 x5 x6 x7
      have hx7 : Keeps ⟨true, true, true, true, false, true, true, true, true, true, true, false, true, true, true⟩ s x7 := State.telNote_keeps _ _ hs3_1
      try clear_value x7
      extract_lets -merge -underBinder +onlyGivenNames x8
      have hx8 : Keeps ⟨true, true, true, true, false, true, true, true, true, true, true, false, true, true, true⟩ s x8 := State.modPlace_keeps _ hx7
      try clear_value x8
      exact Keeps.ite (fun _ => State.recSet_keeps _ _ _ _ _ hx8) (fun _ => hx8)

theorem execTelemSend_answers : Answers ⟨true, true, true, true, false, true, true, true, false, true, true, false, true, true, true⟩ s (execTelemSend s) := by
  have hk : Keeps ⟨true, true, true, true, false, true, true, true, false, true, true, false, true, true, true⟩ s s := Keeps.refl _ _
  unfold execTelemSend
  refine Answers.next ?_
  refine State.policy_keeps ?_ ?_
  · exact hk
  · intro s0_0 hs0_1
    extract_lets -merge -underBinder +onlyGivenNames x1
    have hx1 : Keeps ⟨true, true, true, true, false, true, true, true, false, true, true, false, true, true, true⟩ s x1 := State.sendEngine_keeps _ _ _ _ _ _ _ hs0_1
    try clear_value x1
    extract_lets -merge -underBinder +onlyGivenNames x2
    have hx2 : Keeps ⟨true, true, true, true, false, true, true, true, false, true, true, false, true, true, true⟩ s x2 := State.forPorts_keeps hx1 (fun _ _ h3 => State.telNote_keeps _ _ h3)
    try clear_value x2
    refine Keeps.ite (fun _ => ?_) (fun _ => ?_)
    · exact hs0_1
    · refine State.forPorts_keeps ?_ ?_
      · exact hx2
      · intro s4_0 s4_1 hs4_1
        extract_lets -merge -underBinder +onlyGivenNames x5
        exact State.modPlace_keeps _ hs4_1

theorem execTelemReceive_answers (entry : Fin 64) : Answers ⟨true, true, true, true, false, true, true, true, true, true, true, false, true, true, true⟩ s (execTelemReceive entry s) := by
  have hk : Keeps ⟨true, true, true, true, false, true, true, true, true, true, true, false, true, true, true⟩ s s := Keeps.refl _ _
  unfold execTelemReceive
  refine Answers.next ?_
  refine State.policy_keeps ?_ ?_
  · exact hk
  · intro s0_0 hs0_1
    extract_lets -merge -underBinder +onlyGivenNames x1
    have hx1 : Keeps ⟨true, true, true, true, false, true, true, true, true, true, true, false, true, true, true⟩ s x1 := State.stNote_keeps _ _ _ hs0_1
    try clear_value x1
    extract_lets -merge -underBinder +onlyGivenNames x2 x3 x4
    have hx4 : Keeps ⟨true, true, true, true, false, true, true, true, true, true, true, false, true, true, true⟩ s x4 := by
      unfold x4
      refine foldl_keeps _ ?_ ?_
      · exact hx1
      · intro s5_0 s5_1 hs5_1
        extract_lets -merge -underBinder +onlyGivenNames x6 x7 x8 x9
        have hx9 : Keeps ⟨true, true, true, true, false, true, true, true, true, true, true, false, true, true, true⟩ s x9 := State.modLed_keeps _ _ hs5_1
        try clear_value x9
        extract_lets -merge -underBinder +onlyGivenNames x10
        have hx10 : Keeps ⟨true, true, true, true, false, true, true, true, true, true, true, false, true, true, true⟩ s x10 := Keeps.ite (fun _ => State.recSet_keeps _ _ _ _ _ hx9) (fun _ => hx9)
        try clear_value x10
        exact State.energyAdd_keeps _ _ hx10
    try clear_value x4
    exact Keeps.ite (fun _ => hx1) (fun _ => State.rxRelease_keeps _ hx4)

theorem execLeaseRenewing_answers : Answers .all s (execLeaseRenewing s) := by
  have hk : Keeps .all s s := Keeps.refl _ _
  unfold execLeaseRenewing
  refine Answers.next ?_
  exact Keeps.ite (fun _ => State.put_keeps _ _ _ hk) (fun _ => hk)

theorem execLeaseExpire_answers : Answers ⟨true, true, true, true, false, true, true, true, true, true, true, false, true, true, true⟩ s (execLeaseExpire s) := by
  have hk : Keeps ⟨true, true, true, true, false, true, true, true, true, true, true, false, true, true, true⟩ s s := Keeps.refl _ _
  unfold execLeaseExpire
  refine Answers.next ?_
  exact Keeps.ite (fun _ => State.leaseEvt_keeps _ (State.modPlace_keeps _ (State.put_keeps _ _ _ (State.put_keeps _ _ _ hk)))) (fun _ => hk)

theorem execOrphanDecay_answers : Answers ⟨true, true, true, true, true, true, true, true, true, true, true, false, true, true, true⟩ s (execOrphanDecay s) := by
  have hk : Keeps ⟨true, true, true, true, true, true, true, true, true, true, true, false, true, true, true⟩ s s := Keeps.refl _ _
  unfold execOrphanDecay
  refine Answers.next ?_
  refine State.policy_keeps ?_ ?_
  · exact hk
  · intro s0_0 hs0_1
    extract_lets -merge -underBinder +onlyGivenNames x1 x2
    have hx2 : Keeps ⟨true, true, true, true, true, true, true, true, true, true, true, false, true, true, true⟩ s x2 := by
      unfold x2
      refine State.forPorts_keeps ?_ ?_
      · exact hs0_1
      · intro s3_0 s3_1 hs3_1
        extract_lets -merge -underBinder +onlyGivenNames x4
        exact Keeps.ite (fun _ => State.takeGrant_keeps _ _ _ _ _ _ _ hs3_1) (fun _ => hs3_1)
    try clear_value x2
    exact Keeps.ite (fun _ => hs0_1) (fun _ => Keeps.ite (fun _ => State.floorDone_keeps hx2) (fun _ => hx2))

theorem execPlaceCmdFloorDone_answers (key : BitVec 16) : Answers .all s (execPlaceCmdFloorDone key s) := by
  have hk : Keeps .all s s := Keeps.refl _ _
  unfold execPlaceCmdFloorDone
  refine Answers.next ?_
  exact State.keyCmd_keeps _ _ _ hk (fun _ h0 => State.floorDone_keeps h0)

theorem execNodeOrphaned_answers (node : Fin 64) : Answers ⟨true, true, true, true, true, true, true, true, true, true, true, false, true, true, true⟩ s (execNodeOrphaned node s) := by
  have hk : Keeps ⟨true, true, true, true, true, true, true, true, true, true, true, false, true, true, true⟩ s s := Keeps.refl _ _
  unfold execNodeOrphaned
  refine Answers.next ?_
  refine State.policy_keeps ?_ ?_
  · exact hk
  · intro s0_0 hs0_1
    extract_lets -merge -underBinder +onlyGivenNames x1 x2
    have hx2 : Keeps ⟨true, true, true, true, true, true, true, true, true, true, true, false, true, true, true⟩ s x2 := State.modNode_keeps _ _ hs0_1
    try clear_value x2
    exact Keeps.ite (fun _ => State.setMapBit_keeps _ _ _ _ (State.raise_keeps _ _ hx2)) (fun _ => hs0_1)

theorem execNodeCommitRelease_answers (node : Fin 64) : Answers ⟨true, true, true, true, false, true, true, true, true, true, true, false, true, true, true⟩ s (execNodeCommitRelease node s) := by
  have hk : Keeps ⟨true, true, true, true, false, true, true, true, true, true, true, false, true, true, true⟩ s s := Keeps.refl _ _
  unfold execNodeCommitRelease
  refine Answers.next ?_
  refine State.policy_keeps ?_ ?_
  · exact hk
  · intro s0_0 hs0_1
    extract_lets -merge -underBinder +onlyGivenNames x1
    split
    · exact hs0_1
    · extract_lets -merge -underBinder +onlyGivenNames x2
      have hx2 : Keeps ⟨true, true, true, true, false, true, true, true, true, true, true, false, true, true, true⟩ s x2 := State.modNode_keeps _ _ hs0_1
      try clear_value x2
      refine Keeps.ite (fun _ => ?_) (fun _ => ?_)
      · exact hs0_1
      · refine foldl_keeps _ ?_ ?_
        · exact hx2
        · intro s3_0 s3_1 hs3_1
          extract_lets -merge -underBinder +onlyGivenNames x4
          exact Keeps.ite (fun _ => State.modLed_keeps _ _ (State.recLedger_keeps _ _ _ _ hs3_1)) (fun _ => hs3_1)

theorem execLedgerMirrorSend_answers : Answers ⟨true, true, true, true, false, true, true, true, false, true, true, false, true, true, true⟩ s (execLedgerMirrorSend s) := by
  have hk : Keeps ⟨true, true, true, true, false, true, true, true, false, true, true, false, true, true, true⟩ s s := Keeps.refl _ _
  unfold execLedgerMirrorSend
  refine Answers.next ?_
  refine State.policy_keeps ?_ ?_
  · exact hk
  · intro s0_0 hs0_1
    refine Keeps.ite (fun _ => ?_) (fun _ => ?_)
    · exact hs0_1
    · split
      · exact hs0_1
      · extract_lets -merge -underBinder +onlyGivenNames x1
        have hx1 : Keeps ⟨true, true, true, true, false, true, true, true, false, true, true, false, true, true, true⟩ s x1 := foldl_keeps _ hs0_1 (fun _ _ h2 => State.sendEngine_keeps _ _ _ _ _ _ _ h2)
        try clear_value x1
        extract_lets -merge -underBinder +onlyGivenNames x3
        have hx3 : Keeps ⟨true, true, true, true, false, true, true, true, false, true, true, false, true, true, true⟩ s x3 := foldl_keeps _ hx1 (fun _ _ h4 => State.sendEngine_keeps _ _ _ _ _ _ _ h4)
        try clear_value x3
        exact State.modPlace_keeps _ hx3

theorem execLedgerReceive_answers (entry : Fin 64) : Answers ⟨true, true, true, true, false, true, true, true, true, true, true, false, true, true, true⟩ s (execLedgerReceive entry s) := by
  have hk : Keeps ⟨true, true, true, true, false, true, true, true, true, true, true, false, true, true, true⟩ s s := Keeps.refl _ _
  unfold execLedgerReceive
  refine Answers.next ?_
  refine State.policy_keeps ?_ ?_
  · exact hk
  · intro s0_0 hs0_1
    extract_lets -merge -underBinder +onlyGivenNames x1
    have hx1 : Keeps ⟨true, true, true, true, false, true, true, true, true, true, true, false, true, true, true⟩ s x1 := State.stNote_keeps _ _ _ hs0_1
    try clear_value x1
    extract_lets -merge -underBinder +onlyGivenNames x2 x3 x4 x5 x6 x7
    have hx7 : Keeps ⟨true, true, true, true, false, true, true, true, true, true, true, false, true, true, true⟩ s x7 := by
      unfold x7
      refine foldl_keeps _ ?_ ?_
      · exact hx1
      · intro s8_0 s8_1 hs8_1
        extract_lets -merge -underBinder +onlyGivenNames x9 x10
        exact Keeps.ite (fun _ => hs8_1) (fun _ => State.recSet_keeps _ _ _ _ _ hs8_1)
    try clear_value x7
    extract_lets -merge -underBinder +onlyGivenNames x11 x12 x13 x14 x15 x16
    have hx16 : Keeps ⟨true, true, true, true, false, true, true, true, true, true, true, false, true, true, true⟩ s x16 := State.modPlace_keeps _ hx7
    try clear_value x16
    extract_lets -merge -underBinder +onlyGivenNames x17
    have hx17 : Keeps ⟨true, true, true, true, false, true, true, true, true, true, true, false, true, true, true⟩ s x17 := Keeps.ite (fun _ => State.stWrite_keeps _ _ hx1) (fun _ => Keeps.ite (fun _ => hx1) (fun _ => State.putB_keeps _ _ _ hx16))
    try clear_value x17
    exact Keeps.ite (fun _ => State.rxRelease_keeps _ (Keeps.ite (fun _ => State.stWrite_keeps _ _ hx1) (fun _ => hx1))) (fun _ => Keeps.ite (fun _ => hx1) (fun _ => State.rxRelease_keeps _ hx17))

theorem execLedgerRebuild_answers (rec : Fin 512) (cfg : Option (BitVec 32 × BitVec 32)) : Answers ⟨true, true, true, true, false, true, true, true, true, true, true, false, true, true, true⟩ s (execLedgerRebuild rec cfg s) := by
  have hk : Keeps ⟨true, true, true, true, false, true, true, true, true, true, true, false, true, true, true⟩ s s := Keeps.refl _ _
  unfold execLedgerRebuild
  refine Answers.next ?_
  refine State.policy_keeps ?_ ?_
  · exact hk
  · intro s0_0 hs0_1
    extract_lets -merge -underBinder +onlyGivenNames x1 x2 x3
    have hx3 : Keeps ⟨true, true, true, true, false, true, true, true, true, true, true, false, true, true, true⟩ s x3 := State.raise_keeps _ _ (State.stNote_keeps _ _ _ hs0_1)
    try clear_value x3
    refine Keeps.ite (fun _ => ?_) (fun _ => ?_)
    · exact hs0_1
    · split
      · exact hx3
      · extract_lets -merge -underBinder +onlyGivenNames x4
        extract_lets -merge -underBinder +onlyGivenNames x5 x6 x7 x8
        have hx8 : Keeps ⟨true, true, true, true, false, true, true, true, true, true, true, false, true, true, true⟩ s x8 := State.stWrite_keeps _ _ hx3
        try clear_value x8
        extract_lets -merge -underBinder +onlyGivenNames x9
        have hx9 : Keeps ⟨true, true, true, true, false, true, true, true, true, true, true, false, true, true, true⟩ s x9 := State.recPut_keeps _ _ _ hx8
        try clear_value x9
        exact Keeps.ite (fun _ => hx9) (fun _ => State.modLed_keeps _ _ hx9)

theorem execPortSelWrite_answers (node : BitVec 7) (port : BitVec 3) : Answers .all s (execPortSelWrite node port s) := by
  have hk : Keeps .all s s := Keeps.refl _ _
  unfold execPortSelWrite
  refine Answers.next ?_
  exact State.cmd_keeps _ hk (fun _ h0 => State.portLoad_keeps (State.put_keeps _ _ _ (State.put_keeps _ _ _ h0)))

theorem execPoolSelWrite_answers (pool : BitVec 4) : Answers .all s (execPoolSelWrite pool s) := by
  have hk : Keeps .all s s := Keeps.refl _ _
  unfold execPoolSelWrite
  refine Answers.next ?_
  exact State.cmd_keeps _ hk (fun _ h0 => State.poolLoad_keeps (State.put_keeps _ _ _ h0))

theorem execPlaceWindowWrite_answers (reg : Fin 5) (v : BitVec 32) : Answers ⟨true, true, true, true, false, true, true, true, true, true, true, false, true, true, true⟩ s (execPlaceWindowWrite reg v s) := by
  have hk : Keeps ⟨true, true, true, true, false, true, true, true, true, true, true, false, true, true, true⟩ s s := Keeps.refl _ _
  unfold execPlaceWindowWrite
  refine Answers.next ?_
  exact State.cmd_keeps _ hk (fun _ h0 => State.windowWrite_keeps _ _ h0)

theorem execEnergyConversion_answers : Answers .all s (execEnergyConversion s) := by
  have hk : Keeps .all s s := Keeps.refl _ _
  unfold execEnergyConversion
  refine Answers.next ?_
  refine State.policy_keeps ?_ ?_
  · exact hk
  · intro s0_0 hs0_1
    extract_lets -merge -underBinder +onlyGivenNames x1
    have hx1 : Keeps .all s x1 := by
      unfold x1
      refine State.forPorts_keeps ?_ ?_
      · exact hs0_1
      · intro s2_0 s2_1 hs2_1
        extract_lets -merge -underBinder +onlyGivenNames x3 x4 x5
        have hx5 : Keeps .all s x5 := State.raiseIf_keeps _ _ _ hs2_1
        try clear_value x5
        exact State.put_keeps _ _ _ (State.put_keeps _ _ _ hx5)
    try clear_value x1
    exact State.put_keeps _ _ _ hx1

theorem execEngyCmdClear_answers (ports : BitVec 8) (key : BitVec 16) : Answers ⟨true, true, true, true, true, true, true, true, true, true, true, false, true, true, true⟩ s (execEngyCmdClear ports key s) := by
  have hk : Keeps ⟨true, true, true, true, true, true, true, true, true, true, true, false, true, true, true⟩ s s := Keeps.refl _ _
  unfold execEngyCmdClear
  refine Answers.next ?_
  exact State.keyCmd_keeps _ _ _ hk (fun _ h0 => State.engyClearCmd_keeps _ h0)

theorem execTwinFrameSend_answers : Answers ⟨true, true, true, true, false, true, true, true, false, true, true, true, true, true, true⟩ s (execTwinFrameSend s) := by
  have hk : Keeps ⟨true, true, true, true, false, true, true, true, false, true, true, true, true, true, true⟩ s s := Keeps.refl _ _
  unfold execTwinFrameSend
  refine Answers.next ?_
  exact State.policy_keeps hk (fun _ h0 => Keeps.ite (fun _ => h0) (fun _ => State.sendEngine_keeps _ _ _ _ _ _ _ h0))

theorem execMirWrite_answers (w7 : BitVec 32) : Answers ⟨true, true, true, true, true, true, true, true, true, true, true, false, true, true, true⟩ s (execMirWrite w7 s) := by
  have hk : Keeps ⟨true, true, true, true, true, true, true, true, true, true, true, false, true, true, true⟩ s s := Keeps.refl _ _
  unfold execMirWrite
  refine Answers.next ?_
  exact State.cmd_keeps _ hk (fun _ h0 => State.mirWrite_keeps _ h0)

theorem execTwinFrameReceive_answers (entry : Fin 64) : Answers ⟨true, true, true, true, true, true, true, true, true, true, true, false, true, true, true⟩ s (execTwinFrameReceive entry s) := by
  have hk : Keeps ⟨true, true, true, true, true, true, true, true, true, true, true, false, true, true, true⟩ s s := Keeps.refl _ _
  unfold execTwinFrameReceive
  refine Answers.next ?_
  refine State.policy_keeps ?_ ?_
  · exact hk
  · intro s0_0 hs0_1
    extract_lets -merge -underBinder +onlyGivenNames x1
    have hx1 : Keeps ⟨true, true, true, true, true, true, true, true, true, true, true, false, true, true, true⟩ s x1 := State.stNote_keeps _ _ _ hs0_1
    try clear_value x1
    extract_lets -merge -underBinder +onlyGivenNames x2 x3 x4
    have hx4 : Keeps ⟨true, true, true, true, true, true, true, true, true, true, true, false, true, true, true⟩ s x4 := Keeps.mk' hx1
    try clear_value x4
    extract_lets -merge -underBinder +onlyGivenNames x5
    have hx5 : Keeps ⟨true, true, true, true, true, true, true, true, true, true, true, false, true, true, true⟩ s x5 := foldl_keeps _ hx4 (fun _ _ h6 => State.twinEntryTake_keeps _ h6)
    try clear_value x5
    exact Keeps.ite (fun _ => hx1) (fun _ => State.rxRelease_keeps _ hx5)

theorem execRpLost_answers (n : Port) : Answers ⟨true, true, true, false, false, true, true, true, true, true, true, false, true, true, false⟩ s (execRpLost n s) := by
  have hk : Keeps ⟨true, true, true, false, false, true, true, true, true, true, true, false, true, true, false⟩ s s := Keeps.refl _ _
  unfold execRpLost
  refine Answers.next ?_
  exact Keeps.ite (fun _ => State.twinOrder_keeps _ _ (State.rpLost_keeps _ hk)) (fun _ => hk)

theorem execTwinTakeover_answers (n : Port) : Answers ⟨true, true, true, false, false, true, true, true, true, true, true, false, true, true, false⟩ s (execTwinTakeover n s) := by
  have hk : Keeps ⟨true, true, true, false, false, true, true, true, true, true, true, false, true, true, false⟩ s s := Keeps.refl _ _
  unfold execTwinTakeover
  refine Answers.next ?_
  exact Keeps.ite (fun _ => State.twinOrder_keeps _ _ hk) (fun _ => hk)

theorem execTwinCmdTakeover_answers (ports : BitVec 8) (key : BitVec 16) : Answers ⟨true, true, true, false, false, true, true, true, true, true, true, false, true, true, false⟩ s (execTwinCmdTakeover ports key s) := by
  have hk : Keeps ⟨true, true, true, false, false, true, true, true, true, true, true, false, true, true, false⟩ s s := Keeps.refl _ _
  unfold execTwinCmdTakeover
  refine Answers.next ?_
  exact State.keyCmd_keeps _ _ _ hk (fun _ h0 => State.twinCmd_keeps _ h0)

theorem execTakeoverTask_answers : Answers ⟨true, true, true, true, false, true, true, true, true, true, true, false, true, true, false⟩ s (execTakeoverTask s) := by
  have hk : Keeps ⟨true, true, true, true, false, true, true, true, true, true, true, false, true, true, false⟩ s s := Keeps.refl _ _
  unfold execTakeoverTask
  refine Answers.next ?_
  refine State.policy_keeps ?_ ?_
  · exact hk
  · intro s0_0 hs0_1
    extract_lets -merge -underBinder +onlyGivenNames x1 x2
    have hx2 : Keeps ⟨true, true, true, true, false, true, true, true, true, true, true, false, true, true, false⟩ s x2 := Keeps.ite (fun _ => State.bump_keeps _ _ _ (State.fwSend_keeps _ _ _ _ _ hs0_1)) (fun _ => hs0_1)
    try clear_value x2
    exact Keeps.ite (fun _ => hs0_1) (fun _ => Keeps.ite (fun _ => State.hardResetStart_keeps _ hx2) (fun _ => State.writeIlim_keeps _ hx2))

theorem execTwinJoin_answers (n : Port) : Answers ⟨true, true, true, true, true, true, true, true, true, true, true, true, true, true, false⟩ s (execTwinJoin n s) := by
  have hk : Keeps ⟨true, true, true, true, true, true, true, true, true, true, true, true, true, true, false⟩ s s := Keeps.refl _ _
  unfold execTwinJoin
  refine Answers.next ?_
  exact Keeps.ite (fun _ => State.joinGuard_keeps _ hk) (fun _ => hk)

theorem execTwinRoleChoice_answers (n : Port) : Answers ⟨true, true, true, true, true, true, true, true, true, true, true, false, true, true, true⟩ s (execTwinRoleChoice n s) := by
  have hk : Keeps ⟨true, true, true, true, true, true, true, true, true, true, true, false, true, true, true⟩ s s := Keeps.refl _ _
  unfold execTwinRoleChoice
  refine Answers.next ?_
  exact State.policy_keeps hk (fun _ h0 => Keeps.ite (fun _ => h0) (fun _ => Keeps.ite (fun _ => State.lockedWrite_keeps _ h0) (fun _ => Keeps.ite (fun _ => State.put_keeps _ _ _ h0) (fun _ => Keeps.ite (fun _ => State.claimNow_keeps _ (State.put_keeps _ _ _ h0)) (fun _ => State.put_keeps _ _ _ h0)))))

theorem execTwinClaimYield_answers (n : Port) : Answers ⟨true, true, true, true, true, true, true, true, true, true, true, false, true, true, true⟩ s (execTwinClaimYield n s) := by
  have hk : Keeps ⟨true, true, true, true, true, true, true, true, true, true, true, false, true, true, true⟩ s s := Keeps.refl _ _
  unfold execTwinClaimYield
  refine Answers.next ?_
  refine State.policy_keeps ?_ ?_
  · exact hk
  · intro s0_0 hs0_1
    extract_lets -merge -underBinder +onlyGivenNames x1 x2
    have hx2 : Keeps ⟨true, true, true, true, true, true, true, true, true, true, true, false, true, true, true⟩ s x2 := State.put_keeps _ _ _ hs0_1
    try clear_value x2
    extract_lets -merge -underBinder +onlyGivenNames x3
    have hx3 : Keeps ⟨true, true, true, true, true, true, true, true, true, true, true, false, true, true, true⟩ s x3 := Keeps.ite (fun _ => State.lockedWrite_keeps _ hx2) (fun _ => State.put_keeps _ _ _ hx2)
    try clear_value x3
    exact Keeps.ite (fun _ => State.modTw_keeps _ _ hx3) (fun _ => hs0_1)

theorem execPairLedger_answers : Answers ⟨true, true, true, true, false, true, true, true, false, true, true, true, true, true, true⟩ s (execPairLedger s) := by
  have hk : Keeps ⟨true, true, true, true, false, true, true, true, false, true, true, true, true, true, true⟩ s s := Keeps.refl _ _
  unfold execPairLedger
  refine Answers.next ?_
  refine State.policy_keeps ?_ ?_
  · exact hk
  · intro s0_0 hs0_1
    extract_lets -merge -underBinder +onlyGivenNames x1 x2
    exact Keeps.ite (fun _ => hs0_1) (fun _ => State.sendEngine_keeps _ _ _ _ _ _ _ hs0_1)

theorem execCcConversion_answers (shorted : Bool) (code : BitVec 16) : Answers ⟨true, true, true, true, true, true, true, true, true, true, false, true, true, true, true⟩ s (execCcConversion shorted code s) := by
  have hk : Keeps ⟨true, true, true, true, true, true, true, true, true, true, false, true, true, true, true⟩ s s := Keeps.refl _ _
  unfold execCcConversion
  refine Answers.next ?_
  extract_lets -merge -underBinder +onlyGivenNames x0 x1 x2
  have hx2 : Keeps ⟨true, true, true, true, true, true, true, true, true, true, false, true, true, true, true⟩ s x2 := State.modGauge_keeps _ hk
  try clear_value x2
  extract_lets -merge -underBinder +onlyGivenNames x3
  have hx3 : Keeps ⟨true, true, true, true, true, true, true, true, true, true, false, true, true, true, true⟩ s x3 := State.put_keeps _ _ _ (State.setAcc_keeps _ hx2)
  try clear_value x3
  extract_lets -merge -underBinder +onlyGivenNames x4
  have hx4 : Keeps ⟨true, true, true, true, true, true, true, true, true, true, false, true, true, true, true⟩ s x4 := State.raise_keeps _ _ (State.put_keeps _ _ _ hx3)
  try clear_value x4
  extract_lets -merge -underBinder +onlyGivenNames x5
  have hx5 : Keeps ⟨true, true, true, true, true, true, true, true, true, true, false, true, true, true, true⟩ s x5 := State.modGauge_keeps _ hx4
  try clear_value x5
  exact Keeps.ite (fun _ => hk) (fun _ => Keeps.ite (fun _ => Keeps.ite (fun _ => State.disqualify_keeps _ hx5) (fun _ => hx5)) (fun _ => hx3))

theorem execGaugeMeasure_answers (mv : ℕ) (tsBid : Option (ℤ × ℕ)) : Answers ⟨true, true, true, true, true, true, true, true, true, true, false, true, true, true, true⟩ s (execGaugeMeasure mv tsBid s) := by
  have hk : Keeps ⟨true, true, true, true, true, true, true, true, true, true, false, true, true, true, true⟩ s s := Keeps.refl _ _
  unfold execGaugeMeasure
  refine Answers.next ?_
  extract_lets -merge -underBinder +onlyGivenNames x0
  have hx0 : Keeps ⟨true, true, true, true, true, true, true, true, true, true, false, true, true, true, true⟩ s x0 := State.put_keeps _ _ _ hk
  try clear_value x0
  extract_lets -merge -underBinder +onlyGivenNames x1
  have hx1 : Keeps ⟨true, true, true, true, true, true, true, true, true, true, false, true, true, true, true⟩ s x1 := State.put_keeps _ _ _ hx0
  try clear_value x1
  extract_lets -merge -underBinder +onlyGivenNames x2
  have hx2 : Keeps ⟨true, true, true, true, true, true, true, true, true, true, false, true, true, true, true⟩ s x2 := State.put_keeps _ _ _ hx1
  try clear_value x2
  extract_lets -merge -underBinder +onlyGivenNames x3
  have hx3 : Keeps ⟨true, true, true, true, true, true, true, true, true, true, false, true, true, true, true⟩ s x3 := State.modGauge_keeps _ hx2
  try clear_value x3
  refine Keeps.ite (fun _ => ?_) (fun _ => ?_)
  · exact hk
  · split
    · exact State.tsBid_keeps _ _ hx3
    · exact hx3

theorem execCellMismatch_answers : Answers ⟨true, true, true, true, true, true, true, true, true, true, false, true, true, true, true⟩ s (execCellMismatch s) := by
  have hk : Keeps ⟨true, true, true, true, true, true, true, true, true, true, false, true, true, true, true⟩ s s := Keeps.refl _ _
  unfold execCellMismatch
  refine Answers.next ?_
  refine State.policy_keeps ?_ ?_
  · exact hk
  · intro s0_0 hs0_1
    extract_lets -merge -underBinder +onlyGivenNames x1
    have hx1 : Keeps ⟨true, true, true, true, true, true, true, true, true, true, false, true, true, true, true⟩ s x1 := State.raiseIf_keeps _ _ _ hs0_1
    try clear_value x1
    extract_lets -merge -underBinder +onlyGivenNames x2
    have hx2 : Keeps ⟨true, true, true, true, true, true, true, true, true, true, false, true, true, true, true⟩ s x2 := State.put_keeps _ _ _ (State.put_keeps _ _ _ hx1)
    try clear_value x2
    exact Keeps.ite (fun _ => hs0_1) (fun _ => State.modGauge_keeps _ hx2)

theorem execGaugeRun_answers : Answers ⟨true, true, true, false, true, true, true, true, true, true, false, true, true, true, true⟩ s (execGaugeRun s) := by
  have hk : Keeps ⟨true, true, true, false, true, true, true, true, true, true, false, true, true, true, true⟩ s s := Keeps.refl _ _
  unfold execGaugeRun
  refine Answers.next ?_
  exact State.policy_keeps hk (fun _ h0 => Keeps.ite (fun _ => State.gaugeRun_keeps h0) (fun _ => h0))

theorem execGaugeWriteBack_answers (verifyOk : Bool) : Answers ⟨true, false, true, true, false, true, true, true, true, true, false, true, true, true, true⟩ s (execGaugeWriteBack verifyOk s) := by
  have hk : Keeps ⟨true, false, true, true, false, true, true, true, true, true, false, true, true, true, true⟩ s s := Keeps.refl _ _
  unfold execGaugeWriteBack
  refine Answers.next ?_
  refine State.policy_keeps ?_ ?_
  · exact hk
  · intro s0_0 hs0_1
    extract_lets -merge -underBinder +onlyGivenNames x1 x2
    have hx2 : Keeps ⟨true, false, true, true, false, true, true, true, true, true, false, true, true, true, true⟩ s x2 := by
      unfold x2
      refine Keeps.ite (fun _ => ?_) (fun _ => ?_)
      · split
        · rename_i y3 _ e3
          have hy3 : Keeps ⟨true, false, true, true, false, true, true, true, true, true, false, true, true, true, true⟩ s y3 := by
            refine Keeps.fst e3 ?_
            refine State.nvdRun_keeps _ _ ?_
            exact hs0_1
          exact Keeps.ite (fun _ => State.modGauge_keeps _ hy3) (fun _ => hy3)
      · exact hs0_1
    try clear_value x2
    extract_lets -merge -underBinder +onlyGivenNames x4 x5
    have hx5 : Keeps ⟨true, false, true, true, false, true, true, true, true, true, false, true, true, true, true⟩ s x5 := Keeps.ite (fun _ => hx2) (fun _ => State.put_keeps _ _ _ (State.put_keeps _ _ _ (State.stWrite_keeps _ _ hx2)))
    try clear_value x5
    refine Keeps.ite (fun _ => ?_) (fun _ => ?_)
    · exact hs0_1
    · refine Keeps.ite (fun _ => ?_) (fun _ => ?_)
      · split
        · rename_i y6 _ e6
          have hy6 : Keeps ⟨true, false, true, true, false, true, true, true, true, true, false, true, true, true, true⟩ s y6 := by
            refine Keeps.fst e6 ?_
            refine State.nvdRun_keeps _ _ ?_
            exact hx5
          exact Keeps.ite (fun _ => State.raise_keeps _ _ (State.put_keeps _ _ _ hy6)) (fun _ => State.raise_keeps _ _ hy6)
      · exact hx2

theorem execPackInsert_answers : Answers ⟨true, true, true, true, false, true, true, true, true, true, false, true, true, true, true⟩ s (execPackInsert s) := by
  have hk : Keeps ⟨true, true, true, true, false, true, true, true, true, true, false, true, true, true, true⟩ s s := Keeps.refl _ _
  unfold execPackInsert
  refine Answers.next ?_
  extract_lets -merge -underBinder +onlyGivenNames x0 x1
  have hx1 : Keeps ⟨true, true, true, true, false, true, true, true, true, true, false, true, true, true, true⟩ s x1 := State.putB_keeps _ _ _ (State.put_keeps _ _ _ hk)
  try clear_value x1
  extract_lets -merge -underBinder +onlyGivenNames x2
  have hx2 : Keeps ⟨true, true, true, true, false, true, true, true, true, true, false, true, true, true, true⟩ s x2 := State.put_keeps _ _ _ hx1
  try clear_value x2
  extract_lets -merge -underBinder +onlyGivenNames x3
  have hx3 : Keeps ⟨true, true, true, true, false, true, true, true, true, true, false, true, true, true, true⟩ s x3 := State.raiseIf_keeps _ _ _ (State.raise_keeps _ _ hx2)
  try clear_value x3
  extract_lets -merge -underBinder +onlyGivenNames x4
  have hx4 : Keeps ⟨true, true, true, true, false, true, true, true, true, true, false, true, true, true, true⟩ s x4 := State.gaugePost_keeps hx3
  try clear_value x4
  extract_lets -merge -underBinder +onlyGivenNames x5 x6
  have hx6 : Keeps ⟨true, true, true, true, false, true, true, true, true, true, false, true, true, true, true⟩ s x6 := Keeps.ite (fun _ => hx4) (fun _ => Keeps.ite (fun _ => State.profLoad_keeps _ hx4) (fun _ => State.packLoad_keeps hx4))
  try clear_value x6
  exact Keeps.ite (fun _ => hk) (fun _ => State.modGauge_keeps _ hx6)

theorem execPackRemove_answers : Answers ⟨true, true, true, true, false, true, true, true, true, true, false, true, true, true, true⟩ s (execPackRemove s) := by
  have hk : Keeps ⟨true, true, true, true, false, true, true, true, true, true, false, true, true, true, true⟩ s s := Keeps.refl _ _
  unfold execPackRemove
  refine Answers.next ?_
  extract_lets -merge -underBinder +onlyGivenNames x0
  have hx0 : Keeps ⟨true, true, true, true, false, true, true, true, true, true, false, true, true, true, true⟩ s x0 := State.raise_keeps _ _ (State.put_keeps _ _ _ hk)
  try clear_value x0
  extract_lets -merge -underBinder +onlyGivenNames x1
  have hx1 : Keeps ⟨true, true, true, true, false, true, true, true, true, true, false, true, true, true, true⟩ s x1 := State.gaugePost_keeps hx0
  try clear_value x1
  extract_lets -merge -underBinder +onlyGivenNames x2
  have hx2 : Keeps ⟨true, true, true, true, false, true, true, true, true, true, false, true, true, true, true⟩ s x2 := State.modGauge_keeps _ hx1
  try clear_value x2
  exact Keeps.ite (fun _ => hk) (fun _ => Keeps.ite (fun _ => State.disqualify_keeps _ (State.put_keeps _ _ _ hx2)) (fun _ => hx2))

theorem execAonPresenceSample_answers (bid : ℕ) (temp : ℤ) : Answers .all s (execAonPresenceSample bid temp s) := by
  have hk : Keeps .all s s := Keeps.refl _ _
  unfold execAonPresenceSample
  refine Answers.next ?_
  exact Keeps.ite (fun _ => State.put_keeps _ _ _ hk) (fun _ => hk)

theorem execBatidClearSwap_answers (key : BitVec 16) : Answers .all s (execBatidClearSwap key s) := by
  have hk : Keeps .all s s := Keeps.refl _ _
  unfold execBatidClearSwap
  refine Answers.next ?_
  exact State.keyCmd_keeps _ _ _ hk (fun _ h0 => State.clearSwap_keeps h0)

theorem execLearnCmdAbort_answers (key : BitVec 16) : Answers ⟨true, true, true, true, true, true, true, true, true, true, false, true, true, true, true⟩ s (execLearnCmdAbort key s) := by
  have hk : Keeps ⟨true, true, true, true, true, true, true, true, true, true, false, true, true, true, true⟩ s s := Keeps.refl _ _
  unfold execLearnCmdAbort
  refine Answers.next ?_
  exact State.keyCmd_keeps _ _ _ hk (fun _ h0 => State.learnAbort_keeps h0)

theorem execLearnCmdForget_answers (key : BitVec 16) : Answers ⟨true, true, true, true, true, true, true, true, true, true, false, true, true, true, true⟩ s (execLearnCmdForget key s) := by
  have hk : Keeps ⟨true, true, true, true, true, true, true, true, true, true, false, true, true, true, true⟩ s s := Keeps.refl _ _
  unfold execLearnCmdForget
  refine Answers.next ?_
  exact State.keyCmd_keeps _ _ _ hk (fun _ h0 => State.learnForget_keeps h0)

theorem execBatteryAnswer_answers (n : Port) (i : Fin 64) : Answers ⟨true, true, true, true, false, true, true, true, true, true, true, true, true, true, false⟩ s (execBatteryAnswer n i s) := by
  have hk : Keeps ⟨true, true, true, true, false, true, true, true, true, true, true, true, true, true, false⟩ s s := Keeps.refl _ _
  unfold execBatteryAnswer
  refine Answers.next ?_
  exact State.policy_keeps hk (fun _ h0 => Keeps.ite (fun _ => State.answer_keeps _ _ _ _ h0) (fun _ => h0))

theorem execRstReq_answers (key : BitVec 16) : Answers ⟨true, true, true, true, true, false, true, true, true, true, true, true, true, true, true⟩ s (execRstReq key s) := by
  have hk : Keeps ⟨true, true, true, true, true, false, true, true, true, true, true, true, true, true, true⟩ s s := Keeps.refl _ _
  unfold execRstReq
  refine Answers.next ?_
  exact State.keyCmd_keeps _ _ _ hk (fun _ h0 => State.rstReq_keeps h0)

theorem execPortRst_answers (ports : BitVec 8) (key : BitVec 16) : Answers ⟨true, true, true, false, false, true, true, true, true, true, true, false, true, true, false⟩ s (execPortRst ports key s) := by
  have hk : Keeps ⟨true, true, true, false, false, true, true, true, true, true, true, false, true, true, false⟩ s s := Keeps.refl _ _
  unfold execPortRst
  refine Answers.next ?_
  exact State.keyCmd_keeps _ _ _ hk (fun _ h0 => State.portRst_keeps _ h0)

theorem execBlockReset_answers (pg : BitVec 8) : Answers ⟨true, false, true, false, false, true, true, false, false, true, false, false, false, false, false⟩ s (execBlockReset pg s) := by
  have hk : Keeps ⟨true, false, true, false, false, true, true, false, false, true, false, false, false, false, false⟩ s s := Keeps.refl _ _
  unfold execBlockReset
  refine Answers.next ?_
  refine State.cmd_keeps _ ?_ ?_
  · exact hk
  · intro s0_0 hs0_1
    split
    · exact hs0_1
    · exact Keeps.ite (fun _ => hs0_1) (fun _ => State.blockReset_keeps _ hs0_1)

theorem execBlockResetDone_answers (pg : BitVec 8) : Answers .all s (execBlockResetDone pg s) := by
  have hk : Keeps .all s s := Keeps.refl _ _
  unfold execBlockResetDone
  refine Answers.next ?_
  exact Keeps.ite (fun _ => State.blockDone_keeps _ hk) (fun _ => hk)

theorem execFreeze_answers (pg : BitVec 8) (on : Bool) : Answers .all s (execFreeze pg on s) := by
  have hk : Keeps .all s s := Keeps.refl _ _
  unfold execFreeze
  refine Answers.next ?_
  refine State.cmd_keeps _ ?_ ?_
  · exact hk
  · intro s0_0 hs0_1
    split
    · exact hs0_1
    · exact Keeps.ite (fun _ => hs0_1) (fun _ => Keeps.ite (fun _ => State.freezeOn_keeps _ hs0_1) (fun _ => State.freezeOff_keeps _ hs0_1))

theorem execPgEvtSet_answers (pg : BitVec 8) (v : Word) : Answers ⟨true, false, true, false, false, false, false, false, false, true, false, false, false, false, false⟩ s (execPgEvtSet pg v s) := by
  have hk : Keeps ⟨true, false, true, false, false, false, false, false, false, true, false, false, false, false, false⟩ s s := Keeps.refl _ _
  unfold execPgEvtSet
  refine Answers.next ?_
  exact State.regWrite_keeps _ _ _ _ hk

theorem execPgEvtClear_answers (pg : BitVec 8) (v : Word) (hw : Word) : Answers .all s (execPgEvtClear pg v hw s) := by
  have hk : Keeps .all s s := Keeps.refl _ _
  unfold execPgEvtClear
  refine Answers.next ?_
  refine State.cmd_keeps _ ?_ ?_
  · exact hk
  · intro s0_0 hs0_1
    split
    · exact hs0_1
    · exact Keeps.ite (fun _ => hs0_1) (fun _ => State.evtClear_keeps _ _ _ hs0_1)

theorem execPgLockWrite_answers (pg : BitVec 8) (v : Word) : Answers ⟨true, false, true, false, false, false, false, false, false, true, false, false, false, false, false⟩ s (execPgLockWrite pg v s) := by
  have hk : Keeps ⟨true, false, true, false, false, false, false, false, false, true, false, false, false, false, false⟩ s s := Keeps.refl _ _
  unfold execPgLockWrite
  refine Answers.next ?_
  exact State.regWrite_keeps _ _ _ _ hk

theorem execRegisterWrite_answers (rq : Req) (pg : BitVec 8) (off : BitVec 8) (v : Word) : Answers ⟨true, false, true, false, false, false, false, false, false, true, false, false, false, false, false⟩ s (execRegisterWrite rq pg off v s) := by
  have hk : Keeps ⟨true, false, true, false, false, false, false, false, false, true, false, false, false, false, false⟩ s s := Keeps.refl _ _
  unfold execRegisterWrite
  refine Answers.next ?_
  exact State.regWrite_keeps _ _ _ _ hk

theorem execLowWordRead_answers (rq : Req) (pg : BitVec 8) (off : BitVec 8) : Answers ⟨true, true, true, false, true, true, true, true, true, true, true, true, true, true, false⟩ s (execLowWordRead rq pg off s) := by
  have hk : Keeps ⟨true, true, true, false, true, true, true, true, true, true, true, true, true, true, false⟩ s s := Keeps.refl _ _
  unfold execLowWordRead
  refine Answers.next ?_
  exact State.readInto_keeps _ _ _ hk

theorem execReadClearField_answers (rq : Req) (pg : BitVec 8) (off : BitVec 8) : Answers ⟨true, true, true, false, true, true, true, true, true, true, true, true, true, true, false⟩ s (execReadClearField rq pg off s) := by
  have hk : Keeps ⟨true, true, true, false, true, true, true, true, true, true, true, true, true, true, false⟩ s s := Keeps.refl _ _
  unfold execReadClearField
  refine Answers.next ?_
  exact State.readInto_keeps _ _ _ hk

theorem execPlcrPost_answers (slot : BitVec 11) : Answers .all s (execPlcrPost slot s) := by
  have hk : Keeps .all s s := Keeps.refl _ _
  unfold execPlcrPost
  refine Answers.next ?_
  exact State.cmd_keeps _ hk (fun _ h0 => State.plcrPost_keeps _ h0)

theorem execEngRetire_answers (k : Engine) (key : BitVec 16) : Answers ⟨true, true, true, true, false, true, true, false, true, true, true, true, true, true, true⟩ s (execEngRetire k key s) := by
  have hk : Keeps ⟨true, true, true, true, false, true, true, false, true, true, true, true, true, true, true⟩ s s := Keeps.refl _ _
  unfold execEngRetire
  refine Answers.next ?_
  exact State.keyCmd_keeps _ _ _ hk (fun _ h0 => State.retireEngine_keeps _ h0)

theorem execAosDataAccess_answers (v : Option Word) : Answers ⟨true, true, true, false, true, true, true, true, true, true, true, true, true, true, true⟩ s (execAosDataAccess v s) := by
  have hk : Keeps ⟨true, true, true, false, true, true, true, true, true, true, true, true, true, true, true⟩ s s := Keeps.refl _ _
  unfold execAosDataAccess
  refine Answers.next ?_
  refine State.cmd_keeps _ ?_ ?_
  · exact hk
  · intro s0_0 hs0_1
    extract_lets -merge -underBinder +onlyGivenNames x1
    have hx1 : Keeps ⟨true, true, true, false, true, true, true, true, true, true, true, true, true, true, true⟩ s x1.1 := by
      refine Keeps.ofEq ?_ (State.aosAccess_keeps ?_ hs0_1)
      exact rfl
    try clear_value x1
    extract_lets -merge -underBinder +onlyGivenNames x2
    have hx2 : Keeps ⟨true, true, true, false, true, true, true, true, true, true, true, true, true, true, true⟩ s x2 := hx1
    try clear_value x2
    exact Keeps.ite (fun _ => hx1) (fun _ => Keeps.mk' hx2)

theorem execOtpProgram_answers (key : BitVec 16) : Answers .all s (execOtpProgram key s) := by
  have hk : Keeps .all s s := Keeps.refl _ _
  unfold execOtpProgram
  refine Answers.next ?_
  exact State.keyCmd_keeps _ _ _ hk (fun _ h0 => State.otpProgram_keeps h0)

theorem execOtpLock_answers (region : BitVec 3) (key : BitVec 16) : Answers .all s (execOtpLock region key s) := by
  have hk : Keeps .all s s := Keeps.refl _ _
  unfold execOtpLock
  refine Answers.next ?_
  exact State.keyCmd_keeps _ _ _ hk (fun _ h0 => State.otpLock_keeps _ h0)

theorem execLockStickySet_answers (v : Word) : Answers .all s (execLockStickySet v s) := by
  have hk : Keeps .all s s := Keeps.refl _ _
  unfold execLockStickySet
  refine Answers.next ?_
  exact State.cmd_keeps _ hk (fun _ h0 => State.stickySet_keeps _ h0)

theorem execNvdWrite_answers (area : Fin 16) (format : BitVec 4) (key : BitVec 16) : Answers .all s (execNvdWrite area format key s) := by
  have hk : Keeps .all s s := Keeps.refl _ _
  unfold execNvdWrite
  refine Answers.next ?_
  exact State.keyCmd_keeps _ _ _ hk (fun _ h0 => State.nvdStart_keeps _ h0)

theorem execNvdRead_answers (area : Fin 16) (key : BitVec 16) : Answers .all s (execNvdRead area key s) := by
  have hk : Keeps .all s s := Keeps.refl _ _
  unfold execNvdRead
  refine Answers.next ?_
  exact State.keyCmd_keeps _ _ _ hk (fun _ h0 => State.nvdStart_keeps _ h0)

theorem execNvdInvalidate_answers (area : Fin 16) (key : BitVec 16) : Answers .all s (execNvdInvalidate area key s) := by
  have hk : Keeps .all s s := Keeps.refl _ _
  unfold execNvdInvalidate
  refine Answers.next ?_
  exact State.keyCmd_keeps _ _ _ hk (fun _ h0 => State.nvdStart_keeps _ h0)

theorem execDbgNewChallenge_answers (v : BitVec 64) (key : BitVec 16) : Answers .all s (execDbgNewChallenge v key s) := by
  have hk : Keeps .all s s := Keeps.refl _ _
  unfold execDbgNewChallenge
  refine Answers.next ?_
  exact State.keyCmd_keeps _ _ _ hk (fun _ h0 => State.dbgChallenge_keeps _ h0)

theorem execDbgSubmit_answers (key : BitVec 16) : Answers .all s (execDbgSubmit key s) := by
  have hk : Keeps .all s s := Keeps.refl _ _
  unfold execDbgSubmit
  refine Answers.next ?_
  exact State.keyCmd_keeps _ _ _ hk (fun _ h0 => State.dbgSubmit_keeps h0)

theorem execGpioOutSet_answers (v : BitVec 8) : Answers .all s (execGpioOutSet v s) := by
  have hk : Keeps .all s s := Keeps.refl _ _
  unfold execGpioOutSet
  refine Answers.next ?_
  exact State.cmd_keeps _ hk (fun _ h0 => State.gpioOut_keeps _ _ h0)

theorem execGpioOutClr_answers (v : BitVec 8) : Answers .all s (execGpioOutClr v s) := by
  have hk : Keeps .all s s := Keeps.refl _ _
  unfold execGpioOutClr
  refine Answers.next ?_
  exact State.cmd_keeps _ hk (fun _ h0 => State.gpioOut_keeps _ _ h0)

theorem execPinCfgWrite_answers (i : Fin 8) (v : Word) : Answers .all s (execPinCfgWrite i v s) := by
  have hk : Keeps .all s s := Keeps.refl _ _
  unfold execPinCfgWrite
  refine Answers.next ?_
  exact State.cmd_keeps _ hk (fun _ h0 => State.pinCfg_keeps _ _ h0)

theorem execHostCmdClearStats_answers (key : BitVec 16) : Answers .all s (execHostCmdClearStats key s) := by
  have hk : Keeps .all s s := Keeps.refl _ _
  unfold execHostCmdClearStats
  refine Answers.next ?_
  exact State.keyCmd_keeps _ _ _ hk (fun _ h0 => State.hostClear_keeps h0)

theorem execHostCmdNotifyNow_answers (key : BitVec 16) : Answers ⟨true, true, true, true, true, true, true, true, true, true, true, true, true, false, true⟩ s (execHostCmdNotifyNow key s) := by
  have hk : Keeps ⟨true, true, true, true, true, true, true, true, true, true, true, true, true, false, true⟩ s s := Keeps.refl _ _
  unfold execHostCmdNotifyNow
  refine Answers.next ?_
  exact State.keyCmd_keeps _ _ _ hk (fun _ h0 => State.notifyNow_keeps h0)

theorem execFlashProgram_answers (key : BitVec 16) : Answers .all s (execFlashProgram key s) := by
  have hk : Keeps .all s s := Keeps.refl _ _
  unfold execFlashProgram
  refine Answers.next ?_
  exact State.cmd_keeps _ hk (fun _ h0 => State.flashCmd_keeps _ _ h0)

theorem execFlashErase_answers (key : BitVec 16) : Answers .all s (execFlashErase key s) := by
  have hk : Keeps .all s s := Keeps.refl _ _
  unfold execFlashErase
  refine Answers.next ?_
  exact State.cmd_keeps _ hk (fun _ h0 => State.flashCmd_keeps _ _ h0)

theorem execFlashRdData_answers : Answers ⟨true, true, true, false, true, true, true, true, true, true, true, true, true, true, false⟩ s (execFlashRdData s) := by
  have hk : Keeps ⟨true, true, true, false, true, true, true, true, true, true, true, true, true, true, false⟩ s s := Keeps.refl _ _
  unfold execFlashRdData
  refine Answers.next ?_
  exact State.readInto_keeps _ _ _ hk

theorem execExecuteBundle_answers (k : Engine) (x : BundleIn) : Answers ⟨true, false, true, false, false, false, false, false, false, true, false, false, false, false, false⟩ s (execExecuteBundle k x s) := by
  have hk : Keeps ⟨true, false, true, false, false, false, false, false, false, true, false, false, false, false, false⟩ s s := Keeps.refl _ _
  unfold execExecuteBundle
  refine Answers.next ?_
  exact Keeps.ite (fun _ => State.skStep_keeps _ _ hk) (fun _ => hk)

theorem execSetWindowWrite_answers (node : BitVec 8) (page : BitVec 8) (off : BitVec 8) (pec : Option (BitVec 8)) (e : Option BusErr) : Answers ⟨true, true, true, true, true, true, true, true, true, true, true, true, true, false, true⟩ s (execSetWindowWrite node page off pec e s) := by
  have hk : Keeps ⟨true, true, true, true, true, true, true, true, true, true, true, true, true, false, true⟩ s s := Keeps.refl _ _
  unfold execSetWindowWrite
  refine Answers.next ?_
  exact State.hostPlain_keeps _ hk (fun _ h0 => Keeps.ite (fun _ => State.hostErr_keeps _ _ h0) (fun _ => State.writeEnd_keeps _ _ _ _ h0 (fun _ h1 => State.hostLoad_keeps _ _ _ (State.put_keeps _ _ _ (State.put_keeps _ _ _ (State.put_keeps _ _ _ h1))))))

theorem execSetWindowRead_answers (pec : Bool) (e : Option (BusErr × ℕ)) : Answers ⟨true, true, true, true, true, true, true, true, true, true, true, true, true, false, true⟩ s (execSetWindowRead pec e s) := by
  have hk : Keeps ⟨true, true, true, true, true, true, true, true, true, true, true, true, true, false, true⟩ s s := Keeps.refl _ _
  unfold execSetWindowRead
  refine Answers.next ?_
  exact State.hostPlain_keeps _ hk (fun _ h0 => State.readFinish_keeps _ _ _ _ _ _ _ _ _ _ h0)

theorem execReadBlock_answers (n : BitVec 8) (pec : Bool) (e : Option (BusErr × ℕ)) : Answers ⟨true, false, false, false, false, false, false, false, false, true, false, false, false, false, false⟩ s (execReadBlock n pec e s) := by
  have hk : Keeps ⟨true, false, false, false, false, false, false, false, false, true, false, false, false, false, false⟩ s s := Keeps.refl _ _
  unfold execReadBlock
  refine Answers.next ?_
  exact State.hostCmd_keeps _ hk

theorem execWriteBlock_answers (n : BitVec 8) (data : List (BitVec 8)) (pec : Option (BitVec 8)) (e : Option BusErr) : Answers ⟨true, false, false, false, false, false, false, false, false, true, false, false, false, false, false⟩ s (execWriteBlock n data pec e s) := by
  have hk : Keeps ⟨true, false, false, false, false, false, false, false, false, true, false, false, false, false, false⟩ s s := Keeps.refl _ _
  unfold execWriteBlock
  refine Answers.next ?_
  exact State.hostCmd_keeps _ hk

theorem execReadWord_answers (pec : Bool) (e : Option (BusErr × ℕ)) : Answers ⟨true, false, false, false, false, false, false, false, false, true, false, false, false, false, false⟩ s (execReadWord pec e s) := by
  have hk : Keeps ⟨true, false, false, false, false, false, false, false, false, true, false, false, false, false, false⟩ s s := Keeps.refl _ _
  unfold execReadWord
  refine Answers.next ?_
  exact State.hostCmd_keeps _ hk

theorem execWriteWord_answers (v : BitVec 32) (pec : Option (BitVec 8)) (e : Option BusErr) : Answers ⟨true, false, false, false, false, false, false, false, false, true, false, false, false, false, false⟩ s (execWriteWord v pec e s) := by
  have hk : Keeps ⟨true, false, false, false, false, false, false, false, false, true, false, false, false, false, false⟩ s s := Keeps.refl _ _
  unfold execWriteWord
  refine Answers.next ?_
  exact State.hostCmd_keeps _ hk

theorem execEventSummary_answers (pec : Bool) (e : Option (BusErr × ℕ)) : Answers ⟨true, true, true, true, true, true, true, true, true, true, true, true, true, false, true⟩ s (execEventSummary pec e s) := by
  have hk : Keeps ⟨true, true, true, true, true, true, true, true, true, true, true, true, true, false, true⟩ s s := Keeps.refl _ _
  unfold execEventSummary
  refine Answers.next ?_
  exact State.hostPlain_keeps _ hk (fun _ h0 => State.readFinish_keeps _ _ _ _ _ _ _ _ _ _ h0)

theorem execStoreWindowWrite_answers (n : BitVec 8) (badSub : Bool) (off : BitVec 24) (data : List (BitVec 8)) (pec : Option (BitVec 8)) (e : Option BusErr) : Answers ⟨true, false, false, false, false, false, false, false, false, true, false, false, false, false, false⟩ s (execStoreWindowWrite n badSub off data pec e s) := by
  have hk : Keeps ⟨true, false, false, false, false, false, false, false, false, true, false, false, false, false, false⟩ s s := Keeps.refl _ _
  unfold execStoreWindowWrite
  refine Answers.next ?_
  exact State.hostCmd_keeps _ hk

theorem execStoreWindowRead_answers (n : BitVec 8) (off : BitVec 24) (l : BitVec 8) (pec : Bool) (e : Option (BusErr × ℕ)) (spoil : Option ℕ) : Answers ⟨true, false, false, false, false, false, false, false, false, true, false, false, false, false, false⟩ s (execStoreWindowRead n off l pec e spoil s) := by
  have hk : Keeps ⟨true, false, false, false, false, false, false, false, false, true, false, false, false, false, false⟩ s s := Keeps.refl _ _
  unfold execStoreWindowRead
  refine Answers.next ?_
  exact State.hostCmd_keeps _ hk

theorem execUpdBlock_answers (n : BitVec 8) (off : BitVec 32) (data : List (BitVec 8)) (crc : BitVec 16) (pec : Option (BitVec 8)) (e : Option BusErr) : Answers ⟨true, false, false, false, false, false, false, false, false, true, false, false, false, false, false⟩ s (execUpdBlock n off data crc pec e s) := by
  have hk : Keeps ⟨true, false, false, false, false, false, false, false, false, true, false, false, false, false, false⟩ s s := Keeps.refl _ _
  unfold execUpdBlock
  refine Answers.next ?_
  exact State.hostCmd_keeps _ hk

theorem execUpdCommit_answers (pec : Option (BitVec 8)) (e : Option BusErr) : Answers ⟨true, false, false, false, false, false, false, false, false, true, false, false, false, false, false⟩ s (execUpdCommit pec e s) := by
  have hk : Keeps ⟨true, false, false, false, false, false, false, false, false, true, false, false, false, false, false⟩ s s := Keeps.refl _ _
  unfold execUpdCommit
  refine Answers.next ?_
  exact State.hostCmd_keeps _ hk

theorem execStatus_answers (pec : Bool) (e : Option (BusErr × ℕ)) : Answers ⟨true, true, true, true, true, true, true, true, true, true, true, true, true, false, true⟩ s (execStatus pec e s) := by
  have hk : Keeps ⟨true, true, true, true, true, true, true, true, true, true, true, true, true, false, true⟩ s s := Keeps.refl _ _
  unfold execStatus
  refine Answers.next ?_
  exact State.hostPlain_keeps _ hk (fun _ h0 => State.readFinish_keeps _ _ _ _ _ _ _ _ _ _ h0)

theorem execReadWithoutCommand_answers (pec : Bool) (e : Option (BusErr × ℕ)) : Answers ⟨true, true, true, true, true, true, true, true, true, true, true, true, true, false, true⟩ s (execReadWithoutCommand pec e s) := by
  have hk : Keeps ⟨true, true, true, true, true, true, true, true, true, true, true, true, true, false, true⟩ s s := Keeps.refl _ _
  unfold execReadWithoutCommand
  refine Answers.next ?_
  exact State.hostPlain_keeps _ hk (fun _ h0 => State.readFinish_keeps _ _ _ _ _ _ _ _ _ _ h0)

theorem execQuickCommand_answers (a0 : Bool) : Answers .all s (execQuickCommand a0 s) := by
  have hk : Keeps .all s s := Keeps.refl _ _
  unfold execQuickCommand
  refine Answers.next ?_
  exact hk

theorem execStretchEnd_answers (us : BitVec 16) : Answers ⟨true, true, true, true, true, true, true, true, true, true, true, true, true, false, true⟩ s (execStretchEnd us s) := by
  have hk : Keeps ⟨true, true, true, true, true, true, true, true, true, true, true, true, true, false, true⟩ s s := Keeps.refl _ _
  unfold execStretchEnd
  split
  · refine Answers.next ?_
    exact hk
  · extract_lets -merge -underBinder +onlyGivenNames x0
    have hx0 : Keeps ⟨true, true, true, true, true, true, true, true, true, true, true, true, true, false, true⟩ s x0 := State.raise_keeps _ _ (State.stretched_keeps _ hk)
    try clear_value x0
    refine Answers.next ?_
    split
    · exact State.hostBusy_keeps _ (State.heldDrop_keeps hx0)
    · exact State.wordsFinish_keeps _ _ _ _ hx0

theorem execHeldDataExpire_answers : Answers ⟨true, true, true, true, true, true, true, true, true, true, true, true, true, false, true⟩ s (execHeldDataExpire s) := by
  have hk : Keeps ⟨true, true, true, true, true, true, true, true, true, true, true, true, true, false, true⟩ s s := Keeps.refl _ _
  unfold execHeldDataExpire
  split
  · refine Answers.next ?_
    exact Keeps.ite (fun _ => State.heldDrop_keeps hk) (fun _ => hk)
  · refine Answers.next ?_
    exact hk

theorem execSclTimeout_answers (cmd : Option (BitVec 8)) : Answers ⟨true, true, true, true, true, true, true, true, true, true, true, true, true, false, true⟩ s (execSclTimeout cmd s) := by
  have hk : Keeps ⟨true, true, true, true, true, true, true, true, true, true, true, true, true, false, true⟩ s s := Keeps.refl _ _
  unfold execSclTimeout
  extract_lets -merge -underBinder +onlyGivenNames x0
  have hx0 : Keeps ⟨true, true, true, true, true, true, true, true, true, true, true, true, true, false, true⟩ s x0 := by
    unfold x0
    split
    · exact Keeps.ite (fun _ => State.hostLoad_keeps _ _ _ hk) (fun _ => hk)
    · exact hk
  try clear_value x0
  extract_lets -merge -underBinder +onlyGivenNames x1
  have hx1 : Keeps ⟨true, true, true, true, true, true, true, true, true, true, true, true, true, false, true⟩ s x1 := State.bump_keeps _ _ _ (State.raise_keeps _ _ hx0)
  try clear_value x1
  refine Answers.ite (fun _ => ?_) (fun _ => ?_)
  · refine Answers.next ?_
    exact hk
  · refine Answers.next ?_
    exact Keeps.ite (fun _ => State.notifyFail_keeps hx1) (fun _ => hx1)

theorem execSdaStuck_answers : Answers ⟨true, true, true, true, true, true, true, true, true, true, true, true, true, false, true⟩ s (execSdaStuck s) := by
  have hk : Keeps ⟨true, true, true, true, true, true, true, true, true, true, true, true, true, false, true⟩ s s := Keeps.refl _ _
  unfold execSdaStuck
  refine Answers.ite (fun _ => ?_) (fun _ => ?_)
  · refine Answers.next ?_
    exact State.modHost_keeps _ (State.raise_keeps _ _ hk)
  · refine Answers.next ?_
    exact hk

theorem execHostNotify_answers (done : Option Bool) : Answers ⟨true, true, true, true, true, true, true, true, true, true, true, true, true, false, true⟩ s (execHostNotify done s) := by
  have hk : Keeps ⟨true, true, true, true, true, true, true, true, true, true, true, true, true, false, true⟩ s s := Keeps.refl _ _
  unfold execHostNotify
  refine Answers.ite (fun _ => ?_) (fun _ => ?_)
  · refine Answers.next ?_
    exact hk
  · refine Answers.ite (fun _ => ?_) (fun _ => ?_)
    · refine Answers.next ?_
      exact State.notifyResult_keeps _ hk
    · refine Answers.ite (fun _ => ?_) (fun _ => ?_)
      · refine Answers.next ?_
        exact State.notifyResult_keeps _ (State.notifyFresh_keeps hk)
      · refine Answers.next ?_
        exact hk

theorem execNotifyHoldEnd_answers : Answers ⟨true, true, true, true, true, true, true, true, true, true, true, true, true, false, true⟩ s (execNotifyHoldEnd s) := by
  have hk : Keeps ⟨true, true, true, true, true, true, true, true, true, true, true, true, true, false, true⟩ s s := Keeps.refl _ _
  unfold execNotifyHoldEnd
  extract_lets -merge -underBinder +onlyGivenNames x0 x1
  have hx1 : Keeps ⟨true, true, true, true, true, true, true, true, true, true, true, true, true, false, true⟩ s x1 := State.modHost_keeps _ hk
  try clear_value x1
  refine Answers.ite (fun _ => ?_) (fun _ => ?_)
  · refine Answers.next ?_
    exact hk
  · refine Answers.next ?_
    exact Keeps.ite (fun _ => State.notifyFresh_keeps hx1) (fun _ => hx1)

theorem execArbitrationLost_answers (how : ArbHow) : Answers ⟨true, true, true, true, true, true, true, true, true, true, true, true, true, false, true⟩ s (execArbitrationLost how s) := by
  have hk : Keeps ⟨true, true, true, true, true, true, true, true, true, true, true, true, true, false, true⟩ s s := Keeps.refl _ _
  unfold execArbitrationLost
  extract_lets -merge -underBinder +onlyGivenNames x0
  have hx0 : Keeps ⟨true, true, true, true, true, true, true, true, true, true, true, true, true, false, true⟩ s x0 := by
    unfold x0
    split
    · exact hk
    · exact State.raise_keeps _ _ hk
    · exact State.raise_keeps _ _ hk
  try clear_value x0
  refine Answers.ite (fun _ => ?_) (fun _ => ?_)
  · refine Answers.next ?_
    exact hk
  · refine Answers.next ?_
    exact State.notifyFail_keeps hx0

theorem execNotifyRetry_answers (done : Option Bool) : Answers ⟨true, true, true, true, true, true, true, true, true, true, true, true, true, false, true⟩ s (execNotifyRetry done s) := by
  have hk : Keeps ⟨true, true, true, true, true, true, true, true, true, true, true, true, true, false, true⟩ s s := Keeps.refl _ _
  unfold execNotifyRetry
  refine Answers.ite (fun _ => ?_) (fun _ => ?_)
  · refine Answers.next ?_
    exact hk
  · refine Answers.ite (fun _ => ?_) (fun _ => ?_)
    · refine Answers.next ?_
      exact State.put_keeps _ _ _ hk
    · refine Answers.next ?_
      exact State.notifyResult_keeps _ (State.notifyBegin_keeps hk)

theorem execRegAccessFrame_answers (storeOk : Bool) : Answers ⟨true, false, true, false, false, false, false, false, false, true, false, false, false, false, false⟩ s (execRegAccessFrame storeOk s) := by
  have hk : Keeps ⟨true, false, true, false, false, false, false, false, false, true, false, false, false, false, false⟩ s s := Keeps.refl _ _
  unfold execRegAccessFrame
  refine Answers.ite (fun _ => ?_) (fun _ => ?_)
  · refine Answers.next ?_
    exact hk
  · refine Answers.next ?_
    refine State.withFrame_keeps _ ?_ ?_
    · exact hk
    · intro s0_0 s0_1 hs0_2
      extract_lets -merge -underBinder +onlyGivenNames x1 x2 x3 x4 x5
      have hx5 : Keeps ⟨true, false, true, false, false, false, false, false, false, true, false, false, false, false, false⟩ s x5.1 := by
        refine Keeps.ofEq ?_ (State.readWords_keeps ?_ ?_ ?_ ?_ hs0_2)
        exact rfl
      try clear_value x5
      exact Keeps.ite (fun _ => hs0_2) (fun _ => Keeps.ite (fun _ => State.sendTo_keeps _ _ _ _ hs0_2) (fun _ => Keeps.ite (fun _ => State.sendTo_keeps _ _ _ _ hx5) (fun _ => State.sendTo_keeps _ _ _ _ (State.writeWords_keeps _ _ _ _ hs0_2))))

theorem execRegRspReceive_answers : Answers ⟨true, false, false, false, false, false, false, false, false, true, false, false, false, false, false⟩ s (execRegRspReceive s) := by
  have hk : Keeps ⟨true, false, false, false, false, false, false, false, false, true, false, false, false, false, false⟩ s s := Keeps.refl _ _
  unfold execRegRspReceive
  refine Answers.ite (fun _ => ?_) (fun _ => ?_)
  · refine Answers.next ?_
    exact hk
  · refine Answers.next ?_
    refine State.withFrame_keeps _ ?_ ?_
    · exact hk
    · intro s0_0 s0_1 hs0_2
      split
      · exact Keeps.ite (fun _ => State.proxyEnd_keeps _ _ _ hs0_2) (fun _ => hs0_2)
      · exact hs0_2

theorem execRegTimeout_answers : Answers ⟨true, false, false, false, false, false, false, false, false, true, false, false, false, false, false⟩ s (execRegTimeout s) := by
  have hk : Keeps ⟨true, false, false, false, false, false, false, false, false, true, false, false, false, false, false⟩ s s := Keeps.refl _ _
  unfold execRegTimeout
  split
  · refine Answers.ite (fun _ => ?_) (fun _ => ?_)
    · refine Answers.next ?_
      exact State.proxyEnd_keeps _ _ _ (State.bump_keeps _ _ _ (State.raise_keeps _ _ hk))
    · refine Answers.next ?_
      exact hk
  · refine Answers.next ?_
    exact hk

theorem execEvtFrameReceive_answers : Answers ⟨true, true, true, true, true, true, true, true, false, true, true, true, true, false, true⟩ s (execEvtFrameReceive s) := by
  have hk : Keeps ⟨true, true, true, true, true, true, true, true, false, true, true, true, true, false, true⟩ s s := Keeps.refl _ _
  unfold execEvtFrameReceive
  refine Answers.ite (fun _ => ?_) (fun _ => ?_)
  · refine Answers.next ?_
    exact hk
  · refine Answers.next ?_
    exact State.withFrame_keeps _ hk (fun _ _ h0 => Keeps.ite (fun _ => State.hostWatch_keeps (State.setMapBit_keeps _ _ _ _ h0)) (fun _ => h0))

theorem execUpdBlockWrite_answers (bad : Option (Fin 64 × Bool)) : Answers ⟨true, false, false, false, false, false, false, false, false, true, false, false, false, false, false⟩ s (execUpdBlockWrite bad s) := by
  have hk : Keeps ⟨true, false, false, false, false, false, false, false, false, true, false, false, false, false, false⟩ s s := Keeps.refl _ _
  unfold execUpdBlockWrite
  split
  · extract_lets -merge -underBinder +onlyGivenNames x0
    have hx0 : Keeps ⟨true, false, false, false, false, false, false, false, false, true, false, false, false, false, false⟩ s x0.1 := by
      refine Keeps.ofEq ?_ (State.updBlock_keeps ?_ ?_ ?_ ?_ hk)
      exact rfl
    try clear_value x0
    refine Answers.ite (fun _ => ?_) (fun _ => ?_)
    · refine Answers.next ?_
      exact hk
    · refine Answers.next ?_
      exact State.hostResume_keeps (State.hostPostDone_keeps _ _ (State.updResult_keeps _ hx0))
  · refine Answers.next ?_
    exact hk

theorem execSessionTimeout_answers : Answers ⟨true, true, true, true, true, true, true, true, true, true, true, true, false, true, true⟩ s (execSessionTimeout s) := by
  have hk : Keeps ⟨true, true, true, true, true, true, true, true, true, true, true, true, false, true, true⟩ s s := Keeps.refl _ _
  unfold execSessionTimeout
  split
  · refine Answers.next ?_
    exact Keeps.ite (fun _ => State.sessEnd_keeps hk) (fun _ => hk)
  · refine Answers.next ?_
    exact hk

theorem execUpdCmdAbort_answers (key : BitVec 16) : Answers ⟨true, true, true, true, false, true, true, true, true, true, true, true, false, true, true⟩ s (execUpdCmdAbort key s) := by
  have hk : Keeps ⟨true, true, true, true, false, true, true, true, true, true, true, true, false, true, true⟩ s s := Keeps.refl _ _
  unfold execUpdCmdAbort
  refine Answers.next ?_
  exact State.updKey_keeps _ hk (fun _ h0 => State.updAbort_keeps h0)

theorem execUpdCmdActivate_answers (key : BitVec 16) : Answers ⟨true, true, true, true, false, false, true, true, true, true, true, true, false, true, true⟩ s (execUpdCmdActivate key s) := by
  have hk : Keeps ⟨true, true, true, true, false, false, true, true, true, true, true, true, false, true, true⟩ s s := Keeps.refl _ _
  unfold execUpdCmdActivate
  refine Answers.next ?_
  exact State.updKey_keeps _ hk (fun _ h0 => State.updActivate_keeps h0)

theorem execUpdCmdConfirm_answers (switch : Bool) (key : BitVec 16) : Answers ⟨true, false, true, true, false, true, false, true, true, true, true, true, false, true, true⟩ s (execUpdCmdConfirm switch key s) := by
  have hk : Keeps ⟨true, false, true, true, false, true, false, true, true, true, true, true, false, true, true⟩ s s := Keeps.refl _ _
  unfold execUpdCmdConfirm
  refine Answers.next ?_
  exact State.updKey_keeps _ hk (fun _ h0 => State.updConfirm_keeps _ h0)

theorem execUpdCmdDistribute_answers (key : BitVec 16) : Answers ⟨true, true, true, true, false, true, true, true, true, true, true, true, false, true, true⟩ s (execUpdCmdDistribute key s) := by
  have hk : Keeps ⟨true, true, true, true, false, true, true, true, true, true, true, true, false, true, true⟩ s s := Keeps.refl _ _
  unfold execUpdCmdDistribute
  refine Answers.next ?_
  exact State.updKey_keeps _ hk (fun _ h0 => State.updDistribute_keeps h0)

theorem execUpdCmdOwnerLock_answers (key : BitVec 16) : Answers ⟨true, false, true, true, false, true, true, true, true, true, true, true, true, true, true⟩ s (execUpdCmdOwnerLock key s) := by
  have hk : Keeps ⟨true, false, true, true, false, true, true, true, true, true, true, true, true, true, true⟩ s s := Keeps.refl _ _
  unfold execUpdCmdOwnerLock
  refine Answers.next ?_
  exact State.updKey_keeps _ hk (fun _ h0 => State.updOwnerLock_keeps h0)

theorem execUpdCmdNewChallenge_answers (v : BitVec 64) (key : BitVec 16) : Answers ⟨true, true, true, true, false, true, true, true, true, true, true, true, false, true, true⟩ s (execUpdCmdNewChallenge v key s) := by
  have hk : Keeps ⟨true, true, true, true, false, true, true, true, true, true, true, true, false, true, true⟩ s s := Keeps.refl _ _
  unfold execUpdCmdNewChallenge
  refine Answers.next ?_
  exact State.updKey_keeps _ hk (fun _ h0 => State.updChallenge_keeps _ h0)

theorem execUpdCmdUnlock_answers (key : BitVec 16) : Answers ⟨true, false, true, true, false, true, true, true, true, true, true, true, false, true, true⟩ s (execUpdCmdUnlock key s) := by
  have hk : Keeps ⟨true, false, true, true, false, true, true, true, true, true, true, true, false, true, true⟩ s s := Keeps.refl _ _
  unfold execUpdCmdUnlock
  refine Answers.next ?_
  exact State.updKey_keeps _ hk (fun _ h0 => State.updUnlock_keeps h0)

theorem execTrialTimer_answers : Answers ⟨true, true, true, true, true, false, true, true, true, true, true, true, false, true, true⟩ s (execTrialTimer s) := by
  have hk : Keeps ⟨true, true, true, true, true, false, true, true, true, true, true, true, false, true, true⟩ s s := Keeps.refl _ _
  unfold execTrialTimer
  split
  · extract_lets -merge -underBinder +onlyGivenNames x0
    refine Answers.ite (fun _ => ?_) (fun _ => ?_)
    · refine Answers.next ?_
      exact State.activationReset_keeps _ (State.raise_keeps _ _ (Keeps.mk' hk))
    · refine Answers.next ?_
      exact hk
  · refine Answers.next ?_
    exact hk

theorem execFirmwareConfirm_answers : Answers ⟨true, false, true, true, false, true, false, true, true, true, true, true, false, true, true⟩ s (execFirmwareConfirm s) := by
  have hk : Keeps ⟨true, false, true, true, false, true, false, true, true, true, true, true, false, true, true⟩ s s := Keeps.refl _ _
  unfold execFirmwareConfirm
  extract_lets -merge -underBinder +onlyGivenNames x0 x1 x2
  refine Answers.ite (fun _ => ?_) (fun _ => ?_)
  · refine Answers.next ?_
    exact State.cmd_keeps _ hk (fun _ h3 => State.updConfirm_keeps _ (State.updPost_keeps h3))
  · refine Answers.next ?_
    exact hk

theorem execImgStart_answers (entry : Fin 64) : Answers ⟨true, false, true, true, false, true, false, true, true, true, true, true, false, true, true⟩ s (execImgStart entry s) := by
  have hk : Keeps ⟨true, false, true, true, false, true, false, true, true, true, true, true, false, true, true⟩ s s := Keeps.refl _ _
  unfold execImgStart
  refine Answers.next ?_
  exact State.imgFrame_keeps _ _ _ hk (fun _ _ h0 => State.imgStart_keeps _ h0)

theorem execImgSection_answers (entry : Fin 64) : Answers ⟨true, true, true, true, true, true, true, true, true, true, true, true, false, true, true⟩ s (execImgSection entry s) := by
  have hk : Keeps ⟨true, true, true, true, true, true, true, true, true, true, true, true, false, true, true⟩ s s := Keeps.refl _ _
  unfold execImgSection
  refine Answers.next ?_
  exact State.imgFrame_keeps _ _ _ hk (fun _ _ h0 => State.imgOn_keeps h0 (fun _ h1 => Keeps.mk' h1))

theorem execImgData_answers (entry : Fin 64) (bad : Option (Fin 64 × Bool)) : Answers ⟨true, false, true, true, false, true, false, true, true, true, true, true, false, true, true⟩ s (execImgData entry bad s) := by
  have hk : Keeps ⟨true, false, true, true, false, true, false, true, true, true, true, true, false, true, true⟩ s s := Keeps.refl _ _
  unfold execImgData
  refine Answers.next ?_
  refine State.imgFrame_keeps _ _ _ ?_ ?_
  · exact hk
  · intro s0_0 s0_1 hs0_1
    refine State.imgOn_keeps ?_ ?_
    · exact hs0_1
    · intro s1_0 hs1_1
      split
      · exact hs1_1
      · extract_lets -merge -underBinder +onlyGivenNames x2
        have hx2 : Keeps ⟨true, false, true, true, false, true, false, true, true, true, true, true, false, true, true⟩ s x2.1 := by
          refine Keeps.ofEq ?_ (State.updBlock_keeps ?_ ?_ ?_ ?_ hs1_1)
          exact rfl
        try clear_value x2
        exact State.updResult_keeps _ hx2

theorem execImgEnd_answers (entry : Fin 64) : Answers ⟨true, true, true, true, false, true, true, true, true, true, true, true, false, true, true⟩ s (execImgEnd entry s) := by
  have hk : Keeps ⟨true, true, true, true, false, true, true, true, true, true, true, true, false, true, true⟩ s s := Keeps.refl _ _
  unfold execImgEnd
  refine Answers.next ?_
  exact State.imgFrame_keeps _ _ _ hk (fun _ _ h0 => State.imgOn_keeps h0 (fun _ h1 => State.reportOwe_keeps _ (State.maskCheck_keeps h1)))

theorem execImgCommit_answers (entry : Fin 64) : Answers ⟨true, false, false, true, false, false, false, false, true, true, false, false, false, true, false⟩ s (execImgCommit entry s) := by
  have hk : Keeps ⟨true, false, false, true, false, false, false, false, true, true, false, false, false, true, false⟩ s s := Keeps.refl _ _
  unfold execImgCommit
  refine Answers.next ?_
  refine State.imgFrame_keeps _ _ _ ?_ ?_
  · exact hk
  · intro s0_0 s0_1 hs0_1
    refine State.imgOn_keeps ?_ ?_
    · exact hs0_1
    · intro s1_0 hs1_1
      extract_lets -merge -underBinder +onlyGivenNames x2
      have hx2 : Keeps ⟨true, false, false, true, false, false, false, false, true, true, false, false, false, true, false⟩ s x2.1 := by
        refine Keeps.ofEq ?_ (State.updCommit_keeps ?_ hs1_1)
        exact rfl
      try clear_value x2
      extract_lets -merge -underBinder +onlyGivenNames x3
      have hx3 : Keeps ⟨true, false, false, true, false, false, false, false, true, true, false, false, false, true, false⟩ s x3 := State.reportOwe_keeps _ (State.updResult_keeps _ hx2)
      try clear_value x3
      exact Keeps.ite (fun _ => State.recoverStart_keeps hx3) (fun _ => hx3)

theorem execImgActivate_answers (entry : Fin 64) : Answers ⟨true, true, true, true, true, false, true, true, true, true, true, true, false, true, true⟩ s (execImgActivate entry s) := by
  have hk : Keeps ⟨true, true, true, true, true, false, true, true, true, true, true, true, false, true, true⟩ s s := Keeps.refl _ _
  unfold execImgActivate
  refine Answers.next ?_
  exact State.imgFrame_keeps _ _ _ hk (fun _ _ h0 => State.imgOn_keeps h0 (fun _ h1 => State.updActivate_keeps h1))

theorem execImgAbort_answers (entry : Fin 64) : Answers ⟨true, true, true, true, true, true, true, true, true, true, true, true, false, true, true⟩ s (execImgAbort entry s) := by
  have hk : Keeps ⟨true, true, true, true, true, true, true, true, true, true, true, true, false, true, true⟩ s s := Keeps.refl _ _
  unfold execImgAbort
  refine Answers.next ?_
  exact State.imgFrame_keeps _ _ _ hk (fun _ _ h0 => State.imgOn_keeps h0 (fun _ h1 => Keeps.ite (fun _ => State.sessEnd_keeps h1) (fun _ => h1)))

theorem execUpdateReport_answers : Answers ⟨true, true, true, true, false, true, true, true, false, true, true, true, false, true, true⟩ s (execUpdateReport s) := by
  have hk : Keeps ⟨true, true, true, true, false, true, true, true, false, true, true, true, false, true, true⟩ s s := Keeps.refl _ _
  unfold execUpdateReport
  split
  · extract_lets -merge -underBinder +onlyGivenNames x0
    extract_lets -merge -underBinder +onlyGivenNames x1
    refine Answers.ite (fun _ => ?_) (fun _ => ?_)
    · refine Answers.next ?_
      exact State.sendEngine_keeps _ _ _ _ _ _ _ (Keeps.mk' hk)
    · refine Answers.next ?_
      exact hk
  · refine Answers.next ?_
    exact hk

theorem execDistributionTask_answers (entry : Option (Fin 64)) (late : Bool) : Answers ⟨true, true, true, true, false, false, true, true, false, true, true, true, false, true, true⟩ s (execDistributionTask entry late s) := by
  have hk : Keeps ⟨true, true, true, true, false, false, true, true, false, true, true, true, false, true, true⟩ s s := Keeps.refl _ _
  unfold execDistributionTask
  split
  · refine Answers.next ?_
    exact hk
  · refine Answers.ite (fun _ => ?_) (fun _ => ?_)
    · refine Answers.next ?_
      exact hk
    · split
      · refine Answers.next ?_
        exact State.distStep_keeps _ _ hk
      · refine Answers.ite (fun _ => ?_) (fun _ => ?_)
        · refine Answers.next ?_
          exact hk
        · refine Answers.ite (fun _ => ?_) (fun _ => ?_)
          · refine Answers.next ?_
            exact State.rxRelease_keeps _ (State.stNote_keeps _ _ _ hk)
          · refine Answers.next ?_
            exact State.rxRelease_keeps _ (State.distReport_keeps _ _ _ hk)

theorem execFlashCmdDone_answers (verifyOk : Bool) : Answers ⟨true, false, true, true, true, true, true, true, true, true, true, true, true, true, true⟩ s (execFlashCmdDone verifyOk s) := by
  have hk : Keeps ⟨true, false, true, true, true, true, true, true, true, true, true, true, true, true, true⟩ s s := Keeps.refl _ _
  unfold execFlashCmdDone
  refine Answers.next ?_
  exact Keeps.ite (fun _ => State.flashFinish_keeps _ hk) (fun _ => hk)

theorem execVddioChange_answers (mv : ℕ) : Answers ⟨true, true, true, true, true, true, true, true, true, false, true, true, true, true, true⟩ s (execVddioChange mv s) := by
  have hk : Keeps ⟨true, true, true, true, true, true, true, true, true, false, true, true, true, true, true⟩ s s := Keeps.refl _ _
  unfold execVddioChange
  extract_lets -merge -underBinder +onlyGivenNames x0 x1 x2 x3
  have hx3 : Keeps ⟨true, true, true, true, true, true, true, true, true, false, true, true, true, true, true⟩ s x3 := Keeps.mk' hk
  try clear_value x3
  refine Answers.ite (fun _ => ?_) (fun _ => ?_)
  · refine Answers.next ?_
    exact State.raiseIf_keeps _ _ _ (State.putB_keeps _ _ _ (State.putB_keeps _ _ _ hx3))
  · refine Answers.next ?_
    exact hx3

theorem execVconnInLost_answers (mv : ℕ) : Answers ⟨true, true, true, true, true, true, true, true, true, false, true, true, true, true, false⟩ s (execVconnInLost mv s) := by
  have hk : Keeps ⟨true, true, true, true, true, true, true, true, true, false, true, true, true, true, false⟩ s s := Keeps.refl _ _
  unfold execVconnInLost
  extract_lets -merge -underBinder +onlyGivenNames x0 x1
  have hx1 : Keeps ⟨true, true, true, true, true, true, true, true, true, false, true, true, true, true, false⟩ s x1 := Keeps.mk' hk
  try clear_value x1
  extract_lets -merge -underBinder +onlyGivenNames x2
  refine Answers.ite (fun _ => ?_) (fun _ => ?_)
  · refine Answers.next ?_
    exact hx1
  · refine Answers.ite (fun _ => ?_) (fun _ => ?_)
    · refine Answers.next ?_
      exact State.put_keeps _ _ _ hx1
    · refine Answers.next ?_
      exact State.raiseIf_keeps _ _ _ (State.forPorts_keeps (State.put_keeps _ _ _ hx1) (fun _ _ h3 => State.vconnOff_keeps _ h3))

theorem execSrcSwitchVsys_answers (mv : ℕ) : Answers ⟨true, true, true, true, true, true, true, true, true, false, true, true, true, true, true⟩ s (execSrcSwitchVsys mv s) := by
  have hk : Keeps ⟨true, true, true, true, true, true, true, true, true, false, true, true, true, true, true⟩ s s := Keeps.refl _ _
  unfold execSrcSwitchVsys
  refine Answers.next ?_
  exact State.vsys_keeps _ hk (fun _ h0 => Keeps.ite (fun _ => State.setSrc_keeps _ h0) (fun _ => h0))

theorem execNvInhibitAssert_answers (mv : ℕ) : Answers ⟨true, false, true, true, true, true, true, true, true, false, true, true, true, true, true⟩ s (execNvInhibitAssert mv s) := by
  have hk : Keeps ⟨true, false, true, true, true, true, true, true, true, false, true, true, true, true, true⟩ s s := Keeps.refl _ _
  unfold execNvInhibitAssert
  refine Answers.next ?_
  exact State.vsys_keeps _ hk (fun _ h0 => Keeps.ite (fun _ => h0) (fun _ => State.secretInhibit_keeps (State.nvInhibit_keeps (State.raise_keeps _ _ (State.put_keeps _ _ _ (State.put_keeps _ _ _ h0))))))

theorem execNvInhibitClear_answers (mv : ℕ) : Answers ⟨true, true, true, true, true, true, true, true, true, false, true, true, true, true, true⟩ s (execNvInhibitClear mv s) := by
  have hk : Keeps ⟨true, true, true, true, true, true, true, true, true, false, true, true, true, true, true⟩ s s := Keeps.refl _ _
  unfold execNvInhibitClear
  refine Answers.next ?_
  exact State.vsys_keeps _ hk (fun _ h0 => Keeps.ite (fun _ => State.put_keeps _ _ _ h0) (fun _ => h0))

theorem execNvStable_answers (mv : ℕ) : Answers ⟨true, true, true, true, true, true, true, true, true, false, true, true, true, true, true⟩ s (execNvStable mv s) := by
  have hk : Keeps ⟨true, true, true, true, true, true, true, true, true, false, true, true, true, true, true⟩ s s := Keeps.refl _ _
  unfold execNvStable
  refine Answers.next ?_
  exact State.vsys_keeps _ hk (fun _ h0 => Keeps.ite (fun _ => State.put_keeps _ _ _ h0) (fun _ => h0))

theorem execNvStableClear_answers (mv : ℕ) : Answers ⟨true, true, true, true, true, true, true, true, true, false, true, true, true, true, true⟩ s (execNvStableClear mv s) := by
  have hk : Keeps ⟨true, true, true, true, true, true, true, true, true, false, true, true, true, true, true⟩ s s := Keeps.refl _ _
  unfold execNvStableClear
  refine Answers.next ?_
  exact State.vsys_keeps _ hk (fun _ h0 => Keeps.ite (fun _ => State.put_keeps _ _ _ h0) (fun _ => h0))

theorem execVsysWarn_answers (mv : ℕ) : Answers ⟨true, true, true, true, true, true, true, true, true, false, true, true, true, true, true⟩ s (execVsysWarn mv s) := by
  have hk : Keeps ⟨true, true, true, true, true, true, true, true, true, false, true, true, true, true, true⟩ s s := Keeps.refl _ _
  unfold execVsysWarn
  refine Answers.next ?_
  exact State.vsys_keeps _ hk (fun _ h0 => Keeps.ite (fun _ => Keeps.ite (fun _ => State.put_keeps _ _ _ h0) (fun _ => h0)) (fun _ => Keeps.ite (fun _ => State.raise_keeps _ _ (State.put_keeps _ _ _ h0)) (fun _ => h0)))

theorem execModeReqRun_answers (key : BitVec 16) : Answers .all s (execModeReqRun key s) := by
  have hk : Keeps .all s s := Keeps.refl _ _
  unfold execModeReqRun
  refine Answers.next ?_
  exact State.modeKey_keeps _ _ hk

theorem execModeReqDoze_answers (key : BitVec 16) : Answers .all s (execModeReqDoze key s) := by
  have hk : Keeps .all s s := Keeps.refl _ _
  unfold execModeReqDoze
  refine Answers.next ?_
  exact State.modeKey_keeps _ _ hk

theorem execModeReqStandby_answers (key : BitVec 16) : Answers .all s (execModeReqStandby key s) := by
  have hk : Keeps .all s s := Keeps.refl _ _
  unfold execModeReqStandby
  refine Answers.next ?_
  exact State.modeKey_keeps _ _ hk

theorem execModeReqShip_answers (key : BitVec 16) : Answers .all s (execModeReqShip key s) := by
  have hk : Keeps .all s s := Keeps.refl _ _
  unfold execModeReqShip
  refine Answers.next ?_
  exact State.modeKey_keeps _ _ hk

theorem execModeReqZero_answers (key : BitVec 16) : Answers .all s (execModeReqZero key s) := by
  have hk : Keeps .all s s := Keeps.refl _ _
  unfold execModeReqZero
  refine Answers.next ?_
  exact State.modeKey_keeps _ _ hk

theorem execModeEntry_answers : Answers ⟨true, true, true, true, true, false, true, true, true, true, true, true, true, false, false⟩ s (execModeEntry s) := by
  have hk : Keeps ⟨true, true, true, true, true, false, true, true, true, true, true, true, true, false, false⟩ s s := Keeps.refl _ _
  unfold execModeEntry
  split
  · extract_lets -merge -underBinder +onlyGivenNames x0
    extract_lets -merge -underBinder +onlyGivenNames x1
    have hx1 : Keeps ⟨true, true, true, true, true, false, true, true, true, true, true, true, true, false, false⟩ s x1 := State.put_keeps _ _ _ (State.put_keeps _ _ _ (State.put_keeps _ _ _ hk))
    try clear_value x1
    extract_lets -merge -underBinder +onlyGivenNames x2
    have hx2 : Keeps ⟨true, true, true, true, true, false, true, true, true, true, true, true, true, false, false⟩ s x2 := Keeps.ite (fun _ => hx1) (fun _ => State.modeEnd_keeps _ hx1)
    try clear_value x2
    extract_lets -merge -underBinder +onlyGivenNames x3
    have hx3 : Keeps ⟨true, true, true, true, true, false, true, true, true, true, true, true, true, false, false⟩ s x3 := State.forPorts_keeps hx2 (fun _ _ h4 => State.modCc_keeps _ _ h4)
    try clear_value x3
    extract_lets -merge -underBinder +onlyGivenNames x5 x6
    refine Answers.ite (fun _ => ?_) (fun _ => ?_)
    · refine Answers.next ?_
      exact Keeps.mk' hx3
    · refine Answers.next ?_
      exact hk
  · refine Answers.next ?_
    exact hk

theorem execModeEntryBusy_answers : Answers .all s (execModeEntryBusy s) := by
  have hk : Keeps .all s s := Keeps.refl _ _
  unfold execModeEntryBusy
  split
  · extract_lets -merge -underBinder +onlyGivenNames x0
    have hx0 : Keeps .all s x0 := State.modeEnd_keeps _ hk
    try clear_value x0
    extract_lets -merge -underBinder +onlyGivenNames x1
    refine Answers.ite (fun _ => ?_) (fun _ => ?_)
    · refine Answers.next ?_
      exact Keeps.mk' hx0
    · refine Answers.next ?_
      exact hk
  · refine Answers.next ?_
    exact hk

theorem execWake_answers (src : Fin 6) (n : Port) : Answers ⟨true, false, false, true, false, false, true, false, false, false, false, false, false, false, false⟩ s (execWake src n s) := by
  have hk : Keeps ⟨true, false, false, true, false, false, true, false, false, false, false, false, false, false, false⟩ s s := Keeps.refl _ _
  unfold execWake
  refine Answers.next ?_
  exact State.wakeBy_keeps _ _ hk

theorem execZeroWake_answers (src : Fin 6) (n : Port) : Answers ⟨true, true, true, true, true, true, true, true, true, false, true, true, true, true, true⟩ s (execZeroWake src n s) := by
  have hk : Keeps ⟨true, true, true, true, true, true, true, true, true, false, true, true, true, true, true⟩ s s := Keeps.refl _ _
  unfold execZeroWake
  refine Answers.next ?_
  exact Keeps.ite (fun _ => State.zeroChain_keeps _ _ hk) (fun _ => hk)

theorem execWakeTimer_answers : Answers ⟨true, false, false, true, false, false, true, false, false, false, false, false, false, false, false⟩ s (execWakeTimer s) := by
  have hk : Keeps ⟨true, false, false, true, false, false, true, false, false, false, false, false, false, false, false⟩ s s := Keeps.refl _ _
  unfold execWakeTimer
  refine Answers.next ?_
  exact Keeps.ite (fun _ => State.wakeBy_keeps _ _ hk) (fun _ => hk)

theorem execHostAddressWake_answers : Answers ⟨true, false, false, true, false, false, true, false, false, false, false, false, false, false, false⟩ s (execHostAddressWake s) := by
  have hk : Keeps ⟨true, false, false, true, false, false, true, false, false, false, false, false, false, false, false⟩ s s := Keeps.refl _ _
  unfold execHostAddressWake
  refine Answers.next ?_
  exact Keeps.ite (fun _ => State.wakeBy_keeps _ _ hk) (fun _ => hk)

theorem execAttachWatchSample_answers (cc : List (Port × ℕ × ℕ)) : Answers ⟨true, false, false, false, false, false, true, false, false, false, false, false, false, false, false⟩ s (execAttachWatchSample cc s) := by
  have hk : Keeps ⟨true, false, false, false, false, false, true, false, false, false, false, false, false, false, false⟩ s s := Keeps.refl _ _
  unfold execAttachWatchSample
  extract_lets -merge -underBinder +onlyGivenNames x0 x1 x2
  have hx2 : Keeps ⟨true, false, false, false, false, false, true, false, false, false, false, false, false, false, false⟩ s x2.1 := by
    refine Keeps.ofEq ?_ (State.watchAll_keeps ?_ hk)
    exact rfl
  try clear_value x2
  extract_lets -merge -underBinder +onlyGivenNames x3
  have hx3 : Keeps ⟨true, false, false, false, false, false, true, false, false, false, false, false, false, false, false⟩ s x3 := foldl_keeps _ (foldl_keeps _ hx2 (fun _ _ h4 => State.watchWait_keeps _ _ _ h4)) (fun _ _ h5 => State.ccJudge_keeps _ h5)
  try clear_value x3
  refine Answers.ite (fun _ => ?_) (fun _ => ?_)
  · refine Answers.next ?_
    exact hk
  · split
    · refine Answers.next ?_
      exact State.wakeBy_keeps _ _ hx3
    · refine Answers.next ?_
      exact hx3

theorem execBarrierConfirm_answers : Answers ⟨true, true, true, true, true, true, true, true, true, false, true, true, true, true, true⟩ s (execBarrierConfirm s) := by
  have hk : Keeps ⟨true, true, true, true, true, true, true, true, true, false, true, true, true, true, true⟩ s s := Keeps.refl _ _
  unfold execBarrierConfirm
  extract_lets -merge -underBinder +onlyGivenNames x0
  have hx0 : Keeps ⟨true, true, true, true, true, true, true, true, true, false, true, true, true, true, true⟩ s x0 := State.modeEnd_keeps _ (State.setSrc_keeps _ (State.put_keeps _ _ _ hk))
  try clear_value x0
  extract_lets -merge -underBinder +onlyGivenNames x1 x2
  refine Answers.ite (fun _ => ?_) (fun _ => ?_)
  · refine Answers.next ?_
    exact Keeps.mk' hx0
  · refine Answers.next ?_
    exact hk

theorem execBarrierTimeout_answers : Answers .all s (execBarrierTimeout s) := by
  have hk : Keeps .all s s := Keeps.refl _ _
  unfold execBarrierTimeout
  extract_lets -merge -underBinder +onlyGivenNames x0
  have hx0 : Keeps .all s x0 := State.modeEnd_keeps _ hk
  try clear_value x0
  extract_lets -merge -underBinder +onlyGivenNames x1
  refine Answers.ite (fun _ => ?_) (fun _ => ?_)
  · refine Answers.next ?_
    exact Keeps.mk' hx0
  · refine Answers.next ?_
    exact hk

theorem execZeroVsysValid_answers (mv : ℕ) : Answers ⟨true, false, false, true, false, false, true, false, false, false, false, false, false, false, false⟩ s (execZeroVsysValid mv s) := by
  have hk : Keeps ⟨true, false, false, true, false, false, true, false, false, false, false, false, false, false, false⟩ s s := Keeps.refl _ _
  unfold execZeroVsysValid
  refine Answers.next ?_
  refine State.vsys_keeps _ ?_ ?_
  · exact hk
  · intro s0_0 hs0_1
    extract_lets -merge -underBinder +onlyGivenNames x1 x2
    have hx2 : Keeps ⟨true, false, false, true, false, false, true, false, false, false, false, false, false, false, false⟩ s x2 := State.setSrc_keeps _ hs0_1
    try clear_value x2
    extract_lets -merge -underBinder +onlyGivenNames x3 x4
    have hx4 : Keeps ⟨true, false, false, true, false, false, true, false, false, false, false, false, false, false, false⟩ s x4 := Keeps.mk' hx2
    try clear_value x4
    exact Keeps.ite (fun _ => Keeps.ite (fun _ => State.wakeCore_keeps _ _ hx4) (fun _ => State.put_keeps _ _ _ hx4)) (fun _ => hs0_1)

theorem execConvFail_answers : Answers ⟨true, true, true, true, true, true, true, true, true, false, true, true, true, true, true⟩ s (execConvFail s) := by
  have hk : Keeps ⟨true, true, true, true, true, true, true, true, true, false, true, true, true, true, true⟩ s s := Keeps.refl _ _
  unfold execConvFail
  extract_lets -merge -underBinder +onlyGivenNames x0 x1
  have hx1 : Keeps ⟨true, true, true, true, true, true, true, true, true, false, true, true, true, true, true⟩ s x1 := State.raiseIf_keeps _ _ _ hk
  try clear_value x1
  extract_lets -merge -underBinder +onlyGivenNames x2 x3
  refine Answers.ite (fun _ => ?_) (fun _ => ?_)
  · refine Answers.next ?_
    exact Keeps.mk' hx1
  · refine Answers.next ?_
    exact hk

theorem execHvRise_answers : Answers ⟨true, true, true, true, true, true, true, true, true, false, true, true, true, true, true⟩ s (execHvRise s) := by
  have hk : Keeps ⟨true, true, true, true, true, true, true, true, true, false, true, true, true, true, true⟩ s s := Keeps.refl _ _
  unfold execHvRise
  refine Answers.next ?_
  exact Keeps.ite (fun _ => State.modMains_keeps _ hk) (fun _ => hk)

theorem execLineCycleEnd_answers (rms : BitVec 16) (peak : BitVec 16) (freq : BitVec 16) (dc : Bool) : Answers ⟨true, true, true, true, true, true, true, true, true, false, true, true, true, true, true⟩ s (execLineCycleEnd rms peak freq dc s) := by
  have hk : Keeps ⟨true, true, true, true, true, true, true, true, true, false, true, true, true, true, true⟩ s s := Keeps.refl _ _
  unfold execLineCycleEnd
  extract_lets -merge -underBinder +onlyGivenNames x0 x1
  have hx1 : Keeps ⟨true, true, true, true, true, true, true, true, true, false, true, true, true, true, true⟩ s x1 := State.modMains_keeps _ hk
  try clear_value x1
  refine Answers.ite (fun _ => ?_) (fun _ => ?_)
  · refine Answers.next ?_
    exact hk
  · refine Answers.next ?_
    exact State.mainsShow_keeps (State.modMains_keeps _ hx1)

theorem execMainsLoss_answers : Answers ⟨true, true, true, true, true, true, true, true, true, false, true, true, true, true, true⟩ s (execMainsLoss s) := by
  have hk : Keeps ⟨true, true, true, true, true, true, true, true, true, false, true, true, true, true, true⟩ s s := Keeps.refl _ _
  unfold execMainsLoss
  refine Answers.next ?_
  exact Keeps.ite (fun _ => State.mainsShow_keeps (State.modMains_keeps _ hk)) (fun _ => hk)

theorem execMainsWriteSync_answers : Answers ⟨true, true, true, true, true, true, true, true, true, false, true, true, true, true, true⟩ s (execMainsWriteSync s) := by
  have hk : Keeps ⟨true, true, true, true, true, true, true, true, true, false, true, true, true, true, true⟩ s s := Keeps.refl _ _
  unfold execMainsWriteSync
  refine Answers.next ?_
  extract_lets -merge -underBinder +onlyGivenNames x0 x1 x2
  refine Keeps.ite (fun _ => ?_) (fun _ => ?_)
  · split
    · exact State.mainsBudget_keeps (State.modMains_keeps _ (State.put_keeps _ _ _ hk))
  · exact hk

theorem execBarrierLinkLoss_answers : Answers ⟨true, true, true, true, true, true, true, true, true, false, true, true, true, true, true⟩ s (execBarrierLinkLoss s) := by
  have hk : Keeps ⟨true, true, true, true, true, true, true, true, true, false, true, true, true, true, true⟩ s s := Keeps.refl _ _
  unfold execBarrierLinkLoss
  extract_lets -merge -underBinder +onlyGivenNames x0
  have hx0 : Keeps ⟨true, true, true, true, true, true, true, true, true, false, true, true, true, true, true⟩ s x0 := State.modMains_keeps _ hk
  try clear_value x0
  refine Answers.ite (fun _ => ?_) (fun _ => ?_)
  · refine Answers.next ?_
    exact Keeps.ite (fun _ => State.mainsBudget_keeps (State.raise_keeps _ _ hx0)) (fun _ => hx0)
  · refine Answers.next ?_
    exact hk

theorem execBarrierLinkRecovery_answers : Answers ⟨true, true, true, true, true, true, true, true, true, false, true, true, true, true, true⟩ s (execBarrierLinkRecovery s) := by
  have hk : Keeps ⟨true, true, true, true, true, true, true, true, true, false, true, true, true, true, true⟩ s s := Keeps.refl _ _
  unfold execBarrierLinkRecovery
  extract_lets -merge -underBinder +onlyGivenNames x0
  have hx0 : Keeps ⟨true, true, true, true, true, true, true, true, true, false, true, true, true, true, true⟩ s x0 := State.modMains_keeps _ hk
  try clear_value x0
  extract_lets -merge -underBinder +onlyGivenNames x1
  have hx1 : Keeps ⟨true, true, true, true, true, true, true, true, true, false, true, true, true, true, true⟩ s x1 := State.raiseIf_keeps _ _ _ hx0
  try clear_value x1
  refine Answers.ite (fun _ => ?_) (fun _ => ?_)
  · refine Answers.ite (fun _ => ?_) (fun _ => ?_)
    · refine Answers.next ?_
      exact State.mainsShow_keeps (State.modMains_keeps _ hx1)
    · refine Answers.next ?_
      exact hx0
  · refine Answers.next ?_
    exact hk

theorem execScrubCheck_answers (wrong : BitVec 4) : Answers .all s (execScrubCheck wrong s) := by
  have hk : Keeps .all s s := Keeps.refl _ _
  unfold execScrubCheck
  refine Answers.next ?_
  exact Keeps.ite (fun _ => State.scrubCheck_keeps _ hk) (fun _ => hk)

theorem execRewriteTest_answers (same : Bool) : Answers .all s (execRewriteTest same s) := by
  have hk : Keeps .all s s := Keeps.refl _ _
  unfold execRewriteTest
  refine Answers.next ?_
  exact Keeps.ite (fun _ => State.rewriteTest_keeps _ hk) (fun _ => hk)

theorem execMigrateDone_answers : Answers .all s (execMigrateDone s) := by
  have hk : Keeps .all s s := Keeps.refl _ _
  unfold execMigrateDone
  split
  · refine Answers.next ?_
    exact hk
  · extract_lets -merge -underBinder +onlyGivenNames x0
    have hx0 : Keeps .all s x0 := State.migrate_keeps _ hk
    try clear_value x0
    refine Answers.ite (fun _ => ?_) (fun _ => ?_)
    · refine Answers.next ?_
      exact hk
    · refine Answers.next ?_
      split
      · exact hx0
      · exact Keeps.ite (fun _ => State.bankRetire_keeps _ hx0) (fun _ => Keeps.ite (fun _ => hx0) (fun _ => State.raise_keeps _ _ (State.put_keeps _ _ _ hx0)))

theorem execBankCmdRetire_answers (bank : Fin 16) (key : BitVec 16) : Answers .all s (execBankCmdRetire bank key s) := by
  have hk : Keeps .all s s := Keeps.refl _ _
  unfold execBankCmdRetire
  refine Answers.next ?_
  exact State.keyCmd_keeps _ _ _ hk (fun _ h0 => State.bankCmd_keeps _ h0)

theorem execOtpCmdDone_answers (weak : Word) : Answers ⟨true, false, true, true, true, true, true, true, true, true, true, true, true, true, true⟩ s (execOtpCmdDone weak s) := by
  have hk : Keeps ⟨true, false, true, true, true, true, true, true, true, true, true, true, true, true, true⟩ s s := Keeps.refl _ _
  unfold execOtpCmdDone
  refine Answers.next ?_
  exact State.otpFinish_keeps _ hk

theorem execNvdCmdDone_answers (verifyOk : Bool) : Answers ⟨true, false, true, true, false, true, true, true, true, true, true, true, true, true, true⟩ s (execNvdCmdDone verifyOk s) := by
  have hk : Keeps ⟨true, false, true, true, false, true, true, true, true, true, true, true, true, true, true⟩ s s := Keeps.refl _ _
  unfold execNvdCmdDone
  extract_lets -merge -underBinder +onlyGivenNames x0
  have hx0 : Keeps ⟨true, false, true, true, false, true, true, true, true, true, true, true, true, true, true⟩ s x0 := State.nvdFinish_keeps _ hk
  try clear_value x0
  refine Answers.next ?_
  split
  · exact State.putB_keeps _ _ _ hx0
  · exact State.putB_keeps _ _ _ hx0
  · exact hx0

theorem execDebugHalt_answers (k : Engine) : Answers ⟨true, true, true, true, true, true, true, false, true, true, true, true, true, true, true⟩ s (execDebugHalt k s) := by
  have hk : Keeps ⟨true, true, true, true, true, true, true, false, true, true, true, true, true, true, true⟩ s s := Keeps.refl _ _
  unfold execDebugHalt
  refine Answers.next ?_
  exact Keeps.ite (fun _ => State.modEng_keeps _ _ hk) (fun _ => hk)

theorem execDebugResume_answers (k : Engine) : Answers ⟨true, true, true, true, true, true, true, false, true, true, true, true, true, true, true⟩ s (execDebugResume k s) := by
  have hk : Keeps ⟨true, true, true, true, true, true, true, false, true, true, true, true, true, true, true⟩ s s := Keeps.refl _ _
  unfold execDebugResume
  refine Answers.next ?_
  exact Keeps.ite (fun _ => State.modEng_keeps _ _ hk) (fun _ => hk)

theorem execGpioEdge_answers (i : Fin 8) (level : Option Bool) : Answers ⟨true, true, true, true, true, true, true, true, true, false, true, true, true, true, true⟩ s (execGpioEdge i level s) := by
  have hk : Keeps ⟨true, true, true, true, true, true, true, true, true, false, true, true, true, true, true⟩ s s := Keeps.refl _ _
  unfold execGpioEdge
  refine Answers.next ?_
  exact State.withEdges_keeps hk (fun _ h0 => State.boardPad_keeps _ _ h0)

theorem execMotnAsserted_answers : Answers ⟨true, true, true, true, true, true, true, true, true, false, true, true, true, true, true⟩ s (execMotnAsserted s) := by
  have hk : Keeps ⟨true, true, true, true, true, true, true, true, true, false, true, true, true, true, true⟩ s s := Keeps.refl _ _
  unfold execMotnAsserted
  extract_lets -merge -underBinder +onlyGivenNames x0 x1
  refine Answers.ite (fun _ => ?_) (fun _ => ?_)
  · refine Answers.next ?_
    exact State.raise_keeps _ _ (Keeps.mk' hk)
  · refine Answers.next ?_
    exact hk

theorem execColdBoot_answers (x : BootIn) : Answers ⟨true, false, false, false, false, false, false, false, true, false, false, false, false, true, false⟩ s (execColdBoot x s) := by
  have hk : Keeps ⟨true, false, false, false, false, false, false, false, true, false, false, false, false, true, false⟩ s s := Keeps.refl _ _
  unfold execColdBoot
  extract_lets -merge -underBinder +onlyGivenNames x0 x1
  have hx1 : Keeps ⟨true, false, false, false, false, false, false, false, true, false, false, false, false, true, false⟩ s x1 := Keeps.mk' hk
  try clear_value x1
  extract_lets -merge -underBinder +onlyGivenNames x2
  have hx2 : Keeps ⟨true, false, false, false, false, false, false, false, true, false, false, false, false, true, false⟩ s x2 := State.forPorts_keeps hx1 (fun _ _ h3 => State.modPort_keeps _ _ h3)
  try clear_value x2
  refine Answers.ite (fun _ => ?_) (fun _ => ?_)
  · refine Answers.next ?_
    exact hk
  · refine Answers.ite (fun _ => ?_) (fun _ => ?_)
    · refine Answers.next ?_
      exact hx2
    · split
      · refine Answers.next ?_
        exact hx2
      · extract_lets -merge -underBinder +onlyGivenNames x4
        extract_lets -merge -underBinder +onlyGivenNames x5 x6 x7
        have hx7 : Keeps ⟨true, false, false, false, false, false, false, false, true, false, false, false, false, true, false⟩ s x7 := Keeps.mk' hx2
        try clear_value x7
        extract_lets -merge -underBinder +onlyGivenNames x8
        have hx8 : Keeps ⟨true, false, false, false, false, false, false, false, true, false, false, false, false, true, false⟩ s x8 := State.bootIdent_keeps (State.bootOtp_keeps (State.bootStraps_keeps _ _ (State.bootSupply_keeps _ _ hx7)))
        try clear_value x8
        extract_lets -merge -underBinder +onlyGivenNames x9
        have hx9 : Keeps ⟨true, false, false, false, false, false, false, false, true, false, false, false, false, true, false⟩ s x9 := State.bootShow_keeps (State.bootErase_keeps hx8)
        try clear_value x9
        extract_lets -merge -underBinder +onlyGivenNames x10
        have hx10 : Keeps ⟨true, false, false, false, false, false, false, false, true, false, false, false, false, true, false⟩ s x10 := State.putB_keeps _ _ _ hx9
        try clear_value x10
        extract_lets -merge -underBinder +onlyGivenNames x11
        have hx11 : Keeps ⟨true, false, false, false, false, false, false, false, true, false, false, false, false, true, false⟩ s x11 := by
          unfold x11
          split
          · exact State.wr_keeps _ _ _ hx10
          · exact hx10
        try clear_value x11
        extract_lets -merge -underBinder +onlyGivenNames x12
        have hx12 : Keeps ⟨true, false, false, false, false, false, false, false, true, false, false, false, false, true, false⟩ s x12 := State.forPorts_keeps hx11 (fun _ _ h13 => State.ccJudge_keeps _ (State.ccResume_keeps _ h13))
        try clear_value x12
        extract_lets -merge -underBinder +onlyGivenNames x14
        have hx14 : Keeps ⟨true, false, false, false, false, false, false, false, true, false, false, false, false, true, false⟩ s x14 := State.gaugeCold_keeps (State.cmptRestart_keeps hx12)
        try clear_value x14
        refine Answers.next ?_
        exact State.resetEnd_keeps _ (State.chooseStart_keeps _ hx14)

theorem execWarmReset_answers (us : BitVec 24) : Answers ⟨true, false, false, true, false, false, false, false, false, true, false, false, false, false, false⟩ s (execWarmReset us s) := by
  have hk : Keeps ⟨true, false, false, true, false, false, false, false, false, true, false, false, false, false, false⟩ s s := Keeps.refl _ _
  unfold execWarmReset
  refine Answers.next ?_
  exact Keeps.ite (fun _ => State.warmBoot_keeps _ hk) (fun _ => hk)

theorem execPortResetVbusLow_answers (n : Port) (mv : ℕ) : Answers ⟨true, true, true, false, false, true, true, true, true, true, true, false, true, true, false⟩ s (execPortResetVbusLow n mv s) := by
  have hk : Keeps ⟨true, true, true, false, false, true, true, true, true, true, true, false, true, true, false⟩ s s := Keeps.refl _ _
  unfold execPortResetVbusLow
  extract_lets -merge -underBinder +onlyGivenNames x0
  have hx0 : Keeps ⟨true, true, true, false, false, true, true, true, true, true, true, false, true, true, false⟩ s x0 := State.setVbus_keeps _ _ hk
  try clear_value x0
  refine Answers.next ?_
  exact Keeps.ite (fun _ => State.ccResume_keeps _ (State.modCc_keeps _ _ hx0)) (fun _ => hx0)

theorem execTickBoundary_answers (x : TickIn) : Answers ⟨false, true, true, false, false, true, true, false, false, false, true, false, false, false, false⟩ s (execTickBoundary x s) := by
  have hk : Keeps ⟨false, true, true, false, false, true, true, false, false, false, true, false, false, false, false⟩ s s := Keeps.refl _ _
  unfold execTickBoundary
  refine Answers.next ?_
  refine Keeps.ite (fun _ => ?_) (fun _ => ?_)
  · exact hk
  · split
    · exact State.boundary_keeps _ hk
    · exact State.blocksDone_keeps (State.leaseTick_keeps (State.portsTick_keeps _ _ (State.motnTick_keeps _ (State.countTick_keeps hk))))
    · exact hk

theorem execDispatchPoint_answers (testOk : Bool) : Answers ⟨true, true, true, true, false, true, true, false, true, true, true, true, true, true, true⟩ s (execDispatchPoint testOk s) := by
  have hk : Keeps ⟨true, true, true, true, false, true, true, false, true, true, true, true, true, true, true⟩ s s := Keeps.refl _ _
  unfold execDispatchPoint
  refine Answers.next ?_
  extract_lets -merge -underBinder +onlyGivenNames x0
  have hx0 : Keeps ⟨true, true, true, true, false, true, true, false, true, true, true, true, true, true, true⟩ s x0 := Keeps.ite (fun _ => State.put_keeps _ _ _ hk) (fun _ => hk)
  try clear_value x0
  exact Keeps.ite (fun _ => State.dispatch_keeps _ _ hx0) (fun _ => hx0)

theorem execRefLoss_answers : Answers .all s (execRefLoss s) := by
  have hk : Keeps .all s s := Keeps.refl _ _
  unfold execRefLoss
  refine Answers.next ?_
  exact Keeps.ite (fun _ => State.raise_keeps _ _ (State.put_keeps _ _ _ (State.put_keeps _ _ _ hk))) (fun _ => hk)

theorem execRefLossTimeout_answers : Answers ⟨true, true, true, true, true, false, true, true, false, true, true, true, true, true, true⟩ s (execRefLossTimeout s) := by
  have hk : Keeps ⟨true, true, true, true, true, false, true, true, false, true, true, true, true, true, true⟩ s s := Keeps.refl _ _
  unfold execRefLossTimeout
  refine Answers.next ?_
  exact Keeps.ite (fun _ => State.warmCause_keeps _ (State.when_keeps _ (State.put_keeps _ _ _ hk) (fun _ h0 => State.setAligned_keeps _ h0))) (fun _ => hk)

theorem execRefBack_answers : Answers .all s (execRefBack s) := by
  have hk : Keeps .all s s := Keeps.refl _ _
  unfold execRefBack
  refine Answers.next ?_
  exact Keeps.ite (fun _ => State.raise_keeps _ _ (State.put_keeps _ _ _ (State.put_keeps _ _ _ (State.put_keeps _ _ _ hk)))) (fun _ => hk)

theorem execOverrun_answers (k : Engine) : Answers ⟨true, true, true, true, false, true, true, false, true, true, true, true, true, true, true⟩ s (execOverrun k s) := by
  have hk : Keeps ⟨true, true, true, true, false, true, true, false, true, true, true, true, true, true, true⟩ s s := Keeps.refl _ _
  unfold execOverrun
  refine Answers.next ?_
  exact Keeps.ite (fun _ => State.overrun_keeps _ (State.put_keeps _ _ _ hk)) (fun _ => hk)

theorem execOverBudget_answers (k : Engine) : Answers ⟨true, true, true, true, true, true, true, false, true, true, true, true, true, true, true⟩ s (execOverBudget k s) := by
  have hk : Keeps ⟨true, true, true, true, true, true, true, false, true, true, true, true, true, true, true⟩ s s := Keeps.refl _ _
  unfold execOverBudget
  refine Answers.next ?_
  exact Keeps.ite (fun _ => State.raise_keeps _ _ (State.modEng_keeps _ _ hk)) (fun _ => hk)

theorem execTickWdog_answers : Answers ⟨true, true, true, true, true, false, true, true, true, true, true, true, true, true, true⟩ s (execTickWdog s) := by
  have hk : Keeps ⟨true, true, true, true, true, false, true, true, true, true, true, true, true, true, true⟩ s s := Keeps.refl _ _
  unfold execTickWdog
  refine Answers.next ?_
  exact Keeps.ite (fun _ => State.warmCause_keeps _ hk) (fun _ => hk)

theorem execOverrunStorm_answers : Answers ⟨true, true, true, true, true, false, true, true, true, true, true, true, true, true, true⟩ s (execOverrunStorm s) := by
  have hk : Keeps ⟨true, true, true, true, true, false, true, true, true, true, true, true, true, true, true⟩ s s := Keeps.refl _ _
  unfold execOverrunStorm
  refine Answers.next ?_
  exact Keeps.ite (fun _ => State.warmCause_keeps _ hk) (fun _ => hk)

theorem execStandbyTakeover_answers : Answers ⟨true, true, true, true, false, true, true, true, false, true, true, false, true, true, true⟩ s (execStandbyTakeover s) := by
  have hk : Keeps ⟨true, true, true, true, false, true, true, true, false, true, true, false, true, true, true⟩ s s := Keeps.refl _ _
  unfold execStandbyTakeover
  refine Answers.next ?_
  exact Keeps.ite (fun _ => State.placeTakeover_keeps (State.takeOver_keeps hk)) (fun _ => hk)

end Sys2Proof.Machine
end

