-- ==== Sys2Proof/Laws/KeepsCold.lean ====
section
/-!
SUPPORT. The six commands that do more than `Keeps` allows: the resets of the POR class and the cold resets (`Restarts`), and the two moves of the debug latch.
-/

set_option Elab.async false

namespace Sys2Proof.Machine

variable {H : Hold} {s u t : State}

/-! ### Resets -/

/-- A restart after an update that keeps what `Keeps` lists. -/
theorem Restarts.after (hk : Keeps H s u) (h : Restarts u t) : Restarts s t :=
  ⟨h.mem ∘ hk.mem, h.p0, h.sticky, fun i => lost_trans (hk.blown i) (h.otp i), h.dbg, h.part.trans hk.part, h.pending.trans hk.pending, h.tick⟩

theorem State.coldReset_restarts (cause : ℕ) (s : State) : Restarts s (s.coldReset cause) := by
  have hk : Keeps ⟨true, false, true, true, true, true, true, true, true, true, true, true, true, true, true⟩ s s.flashDrop.nvdDrop.otpDrop := State.otpDrop_keeps (State.nvdDrop_keeps (State.flashDrop_keeps (Keeps.refl _ _)))
  refine ⟨fun h => ?_, fun k => ?_, rfl, hk.blown, rfl, hk.part, hk.pending, rfl⟩
  · have hm := (State.memWf_iff _).1 (hk.mem h)
    exact (State.memWf_iff _).2 ⟨rfl, rfl, rfl, rfl, rfl, hm.2.2.2.2.2.1, hm.2.2.2.2.2.2.1, rfl, hm.2.2.2.2.2.2.2.2.1, hm.2.2.2.2.2.2.2.2.2⟩
  · show ((Vector.replicate 16 EngSt.init).get k).p.getLsbD 0 = true
    simp [Vector.get_eq_getElem, EngSt.init]

theorem State.powerOn_restarts (wake : Option (BitVec 32)) (s : State) : Restarts s (s.powerOn wake) :=
  have h := State.coldReset_restarts 0 s
  ⟨h.mem, h.p0, h.sticky, h.otp, h.dbg, h.part, h.pending, h.tick⟩

/-- POR restarts the machine. -/
theorem execPor_restarts (s : State) : ∃ t, execPor s = .next t ∧ Restarts s t := by
  refine ⟨_, rfl, Restarts.after (H := ⟨true, true, true, true, true, true, true, true, true, false, true, true, true, true, true⟩) ?_ (State.powerOn_restarts _ _)⟩
  exact Keeps.ite (fun _ => Keeps.mk' (Keeps.refl _ _)) (fun _ => Keeps.refl _ _)

/-- NRST_LOW restarts the machine, but in SHIP. -/
theorem execNrstLow_restarts (s : State) : ∃ t, execNrstLow s = .next t ∧ (Restarts s t ∨ s.phase = .ship ∧ Keeps ⟨true, true, true, true, true, true, true, true, true, false, true, true, true, true, true⟩ s t) := by
  refine ⟨_, rfl, ?_⟩
  have hk : Keeps ⟨true, true, true, true, true, true, true, true, true, false, true, true, true, true, true⟩ s { s with pins := { s.pins with nrstLow := true } } := Keeps.mk' (Keeps.refl _ _)
  split
  · exact .inr ⟨‹_›, hk⟩
  · exact .inl (Restarts.after hk (State.coldReset_restarts _ _))

theorem State.brownReset_restarts (s : State) : Restarts s s.brownReset :=
  have h := State.coldReset_restarts 2 s
  ⟨h.mem, h.p0, h.sticky, h.otp, h.dbg, h.part, h.pending, h.tick⟩

/-- A level of `VSYS` reported, and what follows from it. -/
theorem State.vsys_cases (mv : ℕ) (f : State → State) (s : State) : ∃ u, Keeps ⟨true, true, true, true, true, true, true, true, true, false, true, true, true, true, true⟩ s u ∧ (s.vsys mv f = f u ∨ s.vsys mv f = u) := by
  unfold State.vsys
  extract_lets _ u
  have hu : Keeps ⟨true, true, true, true, true, true, true, true, true, false, true, true, true, true, true⟩ s u := Keeps.mk' (Keeps.refl _ _)
  split
  · exact ⟨u, hu, .inl rfl⟩
  · exact ⟨u, hu, .inr rfl⟩

/-- BROWN_OUT restarts the machine when `VSYS` is the source and below 2.75 V; a level reported without one changes nothing but the level. -/
theorem execBrownOut_restarts (mv : ℕ) (s : State) : ∃ t, execBrownOut mv s = .next t ∧ (Restarts s t ∨ Keeps ⟨true, true, true, true, true, true, true, true, true, false, true, true, true, true, true⟩ s t) := by
  refine ⟨_, rfl, ?_⟩
  obtain ⟨u, hu, e | e⟩ := State.vsys_cases mv (fun s => if mv < 2750 ∧ s.fld pSUP SUP.PG_STAT_SRC = 0 then s.brownReset else s) s
  · rw [e]
    beta_reduce
    split
    · exact .inl (Restarts.after hu (State.brownReset_restarts u))
    · exact .inr hu
  · rw [e]; exact .inr hu

/-- SHIP_WAKE restarts the machine out of SHIP, by a detector that lives there; during the entry it abandons the entry, and otherwise it has no effect. -/
theorem execShipWake_restarts (src : Fin 7) (n : Port) (s : State) :
    ∃ t, execShipWake src n s = .next t ∧ (Restarts s t ∧ s.phase = .ship ∨ Keeps .all s t) := by
  unfold execShipWake
  split
  · exact ⟨_, rfl, .inr (State.entryWake_keeps (Keeps.refl _ _))⟩
  · split
    · exact ⟨_, rfl, .inl ⟨State.powerOn_restarts _ _, (‹_ ∧ _›).1⟩⟩
    · exact ⟨_, rfl, .inr (Keeps.refl _ _)⟩

/-! ### The debug latch (R116, R117) -/

theorem State.dbgChecked_keeps (code : ℕ) (hk : Keeps H s u) : Keeps H s (u.dbgChecked code) := State.put_keeps _ _ _ (Keeps.mk' hk)

/-- A token refused keeps the latch; one accepted moves it to ERASING. -/
theorem State.dbgVerdict_latch (code : ℕ) (s : State) : Keeps ⟨true, false, true, true, true, true, false, true, true, true, true, true, true, true, true⟩ s (s.dbgVerdict code) ∨ code = 0 ∧ ∃ u, Keeps ⟨true, false, true, true, true, true, false, true, true, true, true, true, true, true, true⟩ s u ∧ s.dbgVerdict code = u.dbgTo .erasing := by
  unfold State.dbgVerdict
  have hv := State.dbgChecked_keeps code (Keeps.refl ⟨true, false, true, true, true, true, false, true, true, true, true, true, true, true, true⟩ s)
  split
  · exact .inl (State.raise_keeps _ _ (State.tokFail_keeps hv))
  · exact .inr ⟨not_not.1 ‹_›, _, State.bootDecide_keeps _ hv, rfl⟩

/-- A token checked moves the latch from CLOSED to ERASING if R115 accepts it, and else not at all. -/
theorem execDbgTokenChecked_latch (s : State) : ∃ t, execDbgTokenChecked s = .next t ∧
    (Keeps ⟨true, false, true, true, true, true, false, true, true, true, true, true, true, true, true⟩ s t ∨ s.dbg.state = .closed ∧ s.tokCheck pDBG 0x40 1 s.dbgMode (s.dbg.against.getD 0) s.dbg.against.isSome = 0 ∧ ∃ u, Keeps ⟨true, false, true, true, true, true, false, true, true, true, true, true, true, true, true⟩ s u ∧ t = u.dbgTo .erasing) := by
  refine ⟨_, rfl, ?_⟩
  split
  · rename_i hc
    simp only [Bool.and_eq_true, beq_iff_eq] at hc
    exact (State.dbgVerdict_latch _ s).imp id fun h => ⟨hc.2, h⟩
  · exact .inl (Keeps.refl _ _)

/-- The end of the erasure moves it from ERASING to OPEN, or not at all. -/
theorem execDbgEraseDone_latch (s : State) : ∃ t, execDbgEraseDone s = .next t ∧
    (Keeps ⟨true, false, true, false, true, true, false, true, true, true, true, true, true, true, true⟩ s t ∨ s.dbg.state = .erasing ∧ ∃ u, Keeps ⟨true, false, true, false, true, true, false, true, true, true, true, true, true, true, true⟩ s u ∧ t = u.dbgTo .opened) := by
  refine ⟨_, rfl, ?_⟩
  split
  · rename_i hc
    simp only [Bool.and_eq_true, beq_iff_eq] at hc
    exact .inr ⟨hc.1.2, _, State.raise_keeps _ _ (State.bootWrite_keeps _ (State.eraseSecrets_keeps (Keeps.refl _ _))), rfl⟩
  · exact .inl (Keeps.refl _ _)

end Sys2Proof.Machine
end

