-- ==== Sys2Proof/Laws/State.lean ====
section
/-!
SUPPORT. Every field of the state under every named update: those an update does not name stay as they were.
-/

set_option Elab.async false

namespace Sys2Proof.Machine

variable (s : State)

/-! ### `wr` -/

@[simp] theorem State.wr_pending (pg off : Nat) (v : Word) : (s.wr pg off v).pending = s.pending := rfl
@[simp] theorem State.wr_tick (pg off : Nat) (v : Word) : (s.wr pg off v).tick = s.tick := rfl
@[simp] theorem State.wr_sticky (pg off : Nat) (v : Word) : (s.wr pg off v).sticky = s.sticky := rfl
@[simp] theorem State.wr_inForce (pg off : Nat) (v : Word) : (s.wr pg off v).inForce = s.inForce := rfl
@[simp] theorem State.wr_snaps (pg off : Nat) (v : Word) : (s.wr pg off v).snaps = s.snaps := rfl
@[simp] theorem State.wr_shadow (pg off : Nat) (v : Word) : (s.wr pg off v).shadow = s.shadow := rfl
@[simp] theorem State.wr_readData (pg off : Nat) (v : Word) : (s.wr pg off v).readData = s.readData := rfl
@[simp] theorem State.wr_store (pg off : Nat) (v : Word) : (s.wr pg off v).store = s.store := rfl
@[simp] theorem State.wr_aos (pg off : Nat) (v : Word) : (s.wr pg off v).aos = s.aos := rfl
@[simp] theorem State.wr_nvd (pg off : Nat) (v : Word) : (s.wr pg off v).nvd = s.nvd := rfl
@[simp] theorem State.wr_code (pg off : Nat) (v : Word) : (s.wr pg off v).code = s.code := rfl
@[simp] theorem State.wr_iram (pg off : Nat) (v : Word) : (s.wr pg off v).iram = s.iram := rfl
@[simp] theorem State.wr_otp (pg off : Nat) (v : Word) : (s.wr pg off v).otp = s.otp := rfl
@[simp] theorem State.wr_otpMargin (pg off : Nat) (v : Word) : (s.wr pg off v).otpMargin = s.otpMargin := rfl
@[simp] theorem State.wr_part (pg off : Nat) (v : Word) : (s.wr pg off v).part = s.part := rfl
@[simp] theorem State.wr_pins (pg off : Nat) (v : Word) : (s.wr pg off v).pins = s.pins := rfl
@[simp] theorem State.wr_phase (pg off : Nat) (v : Word) : (s.wr pg off v).phase = s.phase := rfl
@[simp] theorem State.wr_rst (pg off : Nat) (v : Word) : (s.wr pg off v).rst = s.rst := rfl
@[simp] theorem State.wr_boot (pg off : Nat) (v : Word) : (s.wr pg off v).boot = s.boot := rfl
@[simp] theorem State.wr_aon (pg off : Nat) (v : Word) : (s.wr pg off v).aon = s.aon := rfl
@[simp] theorem State.wr_mains (pg off : Nat) (v : Word) : (s.wr pg off v).mains = s.mains := rfl
@[simp] theorem State.wr_dbg (pg off : Nat) (v : Word) : (s.wr pg off v).dbg = s.dbg := rfl
@[simp] theorem State.wr_gpio (pg off : Nat) (v : Word) : (s.wr pg off v).gpio = s.gpio := rfl
@[simp] theorem State.wr_plcr (pg off : Nat) (v : Word) : (s.wr pg off v).plcr = s.plcr := rfl
@[simp] theorem State.wr_st (pg off : Nat) (v : Word) : (s.wr pg off v).st = s.st := rfl
@[simp] theorem State.wr_engs (pg off : Nat) (v : Word) : (s.wr pg off v).engs = s.engs := rfl
@[simp] theorem State.wr_ports (pg off : Nat) (v : Word) : (s.wr pg off v).ports = s.ports := rfl
@[simp] theorem State.wr_cmpt (pg off : Nat) (v : Word) : (s.wr pg off v).cmpt = s.cmpt := rfl
@[simp] theorem State.wr_share (pg off : Nat) (v : Word) : (s.wr pg off v).share = s.share := rfl
@[simp] theorem State.wr_links (pg off : Nat) (v : Word) : (s.wr pg off v).links = s.links := rfl
@[simp] theorem State.wr_fleet (pg off : Nat) (v : Word) : (s.wr pg off v).fleet = s.fleet := rfl
@[simp] theorem State.wr_place (pg off : Nat) (v : Word) : (s.wr pg off v).place = s.place := rfl
@[simp] theorem State.wr_twin (pg off : Nat) (v : Word) : (s.wr pg off v).twin = s.twin := rfl
@[simp] theorem State.wr_gauge (pg off : Nat) (v : Word) : (s.wr pg off v).gauge = s.gauge := rfl
@[simp] theorem State.wr_host (pg off : Nat) (v : Word) : (s.wr pg off v).host = s.host := rfl
@[simp] theorem State.wr_upd (pg off : Nat) (v : Word) : (s.wr pg off v).upd = s.upd := rfl
@[simp] theorem State.wr_flashOp (pg off : Nat) (v : Word) : (s.wr pg off v).flashOp = s.flashOp := rfl
@[simp] theorem State.wr_nvdOp (pg off : Nat) (v : Word) : (s.wr pg off v).nvdOp = s.nvdOp := rfl
@[simp] theorem State.wr_otpOp (pg off : Nat) (v : Word) : (s.wr pg off v).otpOp = s.otpOp := rfl
@[simp] theorem State.wr_fresh (pg off : Nat) (v : Word) : (s.wr pg off v).fresh = s.fresh := rfl

/-! ### `put` -/

@[simp] theorem State.put_pending (pg : Nat) (f : Fld) (v : Nat) : (s.put pg f v).pending = s.pending := rfl
@[simp] theorem State.put_tick (pg : Nat) (f : Fld) (v : Nat) : (s.put pg f v).tick = s.tick := rfl
@[simp] theorem State.put_sticky (pg : Nat) (f : Fld) (v : Nat) : (s.put pg f v).sticky = s.sticky := rfl
@[simp] theorem State.put_inForce (pg : Nat) (f : Fld) (v : Nat) : (s.put pg f v).inForce = s.inForce := rfl
@[simp] theorem State.put_snaps (pg : Nat) (f : Fld) (v : Nat) : (s.put pg f v).snaps = s.snaps := rfl
@[simp] theorem State.put_shadow (pg : Nat) (f : Fld) (v : Nat) : (s.put pg f v).shadow = s.shadow := rfl
@[simp] theorem State.put_readData (pg : Nat) (f : Fld) (v : Nat) : (s.put pg f v).readData = s.readData := rfl
@[simp] theorem State.put_store (pg : Nat) (f : Fld) (v : Nat) : (s.put pg f v).store = s.store := rfl
@[simp] theorem State.put_aos (pg : Nat) (f : Fld) (v : Nat) : (s.put pg f v).aos = s.aos := rfl
@[simp] theorem State.put_nvd (pg : Nat) (f : Fld) (v : Nat) : (s.put pg f v).nvd = s.nvd := rfl
@[simp] theorem State.put_code (pg : Nat) (f : Fld) (v : Nat) : (s.put pg f v).code = s.code := rfl
@[simp] theorem State.put_iram (pg : Nat) (f : Fld) (v : Nat) : (s.put pg f v).iram = s.iram := rfl
@[simp] theorem State.put_otp (pg : Nat) (f : Fld) (v : Nat) : (s.put pg f v).otp = s.otp := rfl
@[simp] theorem State.put_otpMargin (pg : Nat) (f : Fld) (v : Nat) : (s.put pg f v).otpMargin = s.otpMargin := rfl
@[simp] theorem State.put_part (pg : Nat) (f : Fld) (v : Nat) : (s.put pg f v).part = s.part := rfl
@[simp] theorem State.put_pins (pg : Nat) (f : Fld) (v : Nat) : (s.put pg f v).pins = s.pins := rfl
@[simp] theorem State.put_phase (pg : Nat) (f : Fld) (v : Nat) : (s.put pg f v).phase = s.phase := rfl
@[simp] theorem State.put_rst (pg : Nat) (f : Fld) (v : Nat) : (s.put pg f v).rst = s.rst := rfl
@[simp] theorem State.put_boot (pg : Nat) (f : Fld) (v : Nat) : (s.put pg f v).boot = s.boot := rfl
@[simp] theorem State.put_aon (pg : Nat) (f : Fld) (v : Nat) : (s.put pg f v).aon = s.aon := rfl
@[simp] theorem State.put_mains (pg : Nat) (f : Fld) (v : Nat) : (s.put pg f v).mains = s.mains := rfl
@[simp] theorem State.put_dbg (pg : Nat) (f : Fld) (v : Nat) : (s.put pg f v).dbg = s.dbg := rfl
@[simp] theorem State.put_gpio (pg : Nat) (f : Fld) (v : Nat) : (s.put pg f v).gpio = s.gpio := rfl
@[simp] theorem State.put_plcr (pg : Nat) (f : Fld) (v : Nat) : (s.put pg f v).plcr = s.plcr := rfl
@[simp] theorem State.put_st (pg : Nat) (f : Fld) (v : Nat) : (s.put pg f v).st = s.st := rfl
@[simp] theorem State.put_engs (pg : Nat) (f : Fld) (v : Nat) : (s.put pg f v).engs = s.engs := rfl
@[simp] theorem State.put_ports (pg : Nat) (f : Fld) (v : Nat) : (s.put pg f v).ports = s.ports := rfl
@[simp] theorem State.put_cmpt (pg : Nat) (f : Fld) (v : Nat) : (s.put pg f v).cmpt = s.cmpt := rfl
@[simp] theorem State.put_share (pg : Nat) (f : Fld) (v : Nat) : (s.put pg f v).share = s.share := rfl
@[simp] theorem State.put_links (pg : Nat) (f : Fld) (v : Nat) : (s.put pg f v).links = s.links := rfl
@[simp] theorem State.put_fleet (pg : Nat) (f : Fld) (v : Nat) : (s.put pg f v).fleet = s.fleet := rfl
@[simp] theorem State.put_place (pg : Nat) (f : Fld) (v : Nat) : (s.put pg f v).place = s.place := rfl
@[simp] theorem State.put_twin (pg : Nat) (f : Fld) (v : Nat) : (s.put pg f v).twin = s.twin := rfl
@[simp] theorem State.put_gauge (pg : Nat) (f : Fld) (v : Nat) : (s.put pg f v).gauge = s.gauge := rfl
@[simp] theorem State.put_host (pg : Nat) (f : Fld) (v : Nat) : (s.put pg f v).host = s.host := rfl
@[simp] theorem State.put_upd (pg : Nat) (f : Fld) (v : Nat) : (s.put pg f v).upd = s.upd := rfl
@[simp] theorem State.put_flashOp (pg : Nat) (f : Fld) (v : Nat) : (s.put pg f v).flashOp = s.flashOp := rfl
@[simp] theorem State.put_nvdOp (pg : Nat) (f : Fld) (v : Nat) : (s.put pg f v).nvdOp = s.nvdOp := rfl
@[simp] theorem State.put_otpOp (pg : Nat) (f : Fld) (v : Nat) : (s.put pg f v).otpOp = s.otpOp := rfl
@[simp] theorem State.put_fresh (pg : Nat) (f : Fld) (v : Nat) : (s.put pg f v).fresh = s.fresh := rfl

/-! ### `putB` -/

@[simp] theorem State.putB_pending (pg : Nat) (f : Fld) (b : Bool) : (s.putB pg f b).pending = s.pending := rfl
@[simp] theorem State.putB_tick (pg : Nat) (f : Fld) (b : Bool) : (s.putB pg f b).tick = s.tick := rfl
@[simp] theorem State.putB_sticky (pg : Nat) (f : Fld) (b : Bool) : (s.putB pg f b).sticky = s.sticky := rfl
@[simp] theorem State.putB_inForce (pg : Nat) (f : Fld) (b : Bool) : (s.putB pg f b).inForce = s.inForce := rfl
@[simp] theorem State.putB_snaps (pg : Nat) (f : Fld) (b : Bool) : (s.putB pg f b).snaps = s.snaps := rfl
@[simp] theorem State.putB_shadow (pg : Nat) (f : Fld) (b : Bool) : (s.putB pg f b).shadow = s.shadow := rfl
@[simp] theorem State.putB_readData (pg : Nat) (f : Fld) (b : Bool) : (s.putB pg f b).readData = s.readData := rfl
@[simp] theorem State.putB_store (pg : Nat) (f : Fld) (b : Bool) : (s.putB pg f b).store = s.store := rfl
@[simp] theorem State.putB_aos (pg : Nat) (f : Fld) (b : Bool) : (s.putB pg f b).aos = s.aos := rfl
@[simp] theorem State.putB_nvd (pg : Nat) (f : Fld) (b : Bool) : (s.putB pg f b).nvd = s.nvd := rfl
@[simp] theorem State.putB_code (pg : Nat) (f : Fld) (b : Bool) : (s.putB pg f b).code = s.code := rfl
@[simp] theorem State.putB_iram (pg : Nat) (f : Fld) (b : Bool) : (s.putB pg f b).iram = s.iram := rfl
@[simp] theorem State.putB_otp (pg : Nat) (f : Fld) (b : Bool) : (s.putB pg f b).otp = s.otp := rfl
@[simp] theorem State.putB_otpMargin (pg : Nat) (f : Fld) (b : Bool) : (s.putB pg f b).otpMargin = s.otpMargin := rfl
@[simp] theorem State.putB_part (pg : Nat) (f : Fld) (b : Bool) : (s.putB pg f b).part = s.part := rfl
@[simp] theorem State.putB_pins (pg : Nat) (f : Fld) (b : Bool) : (s.putB pg f b).pins = s.pins := rfl
@[simp] theorem State.putB_phase (pg : Nat) (f : Fld) (b : Bool) : (s.putB pg f b).phase = s.phase := rfl
@[simp] theorem State.putB_rst (pg : Nat) (f : Fld) (b : Bool) : (s.putB pg f b).rst = s.rst := rfl
@[simp] theorem State.putB_boot (pg : Nat) (f : Fld) (b : Bool) : (s.putB pg f b).boot = s.boot := rfl
@[simp] theorem State.putB_aon (pg : Nat) (f : Fld) (b : Bool) : (s.putB pg f b).aon = s.aon := rfl
@[simp] theorem State.putB_mains (pg : Nat) (f : Fld) (b : Bool) : (s.putB pg f b).mains = s.mains := rfl
@[simp] theorem State.putB_dbg (pg : Nat) (f : Fld) (b : Bool) : (s.putB pg f b).dbg = s.dbg := rfl
@[simp] theorem State.putB_gpio (pg : Nat) (f : Fld) (b : Bool) : (s.putB pg f b).gpio = s.gpio := rfl
@[simp] theorem State.putB_plcr (pg : Nat) (f : Fld) (b : Bool) : (s.putB pg f b).plcr = s.plcr := rfl
@[simp] theorem State.putB_st (pg : Nat) (f : Fld) (b : Bool) : (s.putB pg f b).st = s.st := rfl
@[simp] theorem State.putB_engs (pg : Nat) (f : Fld) (b : Bool) : (s.putB pg f b).engs = s.engs := rfl
@[simp] theorem State.putB_ports (pg : Nat) (f : Fld) (b : Bool) : (s.putB pg f b).ports = s.ports := rfl
@[simp] theorem State.putB_cmpt (pg : Nat) (f : Fld) (b : Bool) : (s.putB pg f b).cmpt = s.cmpt := rfl
@[simp] theorem State.putB_share (pg : Nat) (f : Fld) (b : Bool) : (s.putB pg f b).share = s.share := rfl
@[simp] theorem State.putB_links (pg : Nat) (f : Fld) (b : Bool) : (s.putB pg f b).links = s.links := rfl
@[simp] theorem State.putB_fleet (pg : Nat) (f : Fld) (b : Bool) : (s.putB pg f b).fleet = s.fleet := rfl
@[simp] theorem State.putB_place (pg : Nat) (f : Fld) (b : Bool) : (s.putB pg f b).place = s.place := rfl
@[simp] theorem State.putB_twin (pg : Nat) (f : Fld) (b : Bool) : (s.putB pg f b).twin = s.twin := rfl
@[simp] theorem State.putB_gauge (pg : Nat) (f : Fld) (b : Bool) : (s.putB pg f b).gauge = s.gauge := rfl
@[simp] theorem State.putB_host (pg : Nat) (f : Fld) (b : Bool) : (s.putB pg f b).host = s.host := rfl
@[simp] theorem State.putB_upd (pg : Nat) (f : Fld) (b : Bool) : (s.putB pg f b).upd = s.upd := rfl
@[simp] theorem State.putB_flashOp (pg : Nat) (f : Fld) (b : Bool) : (s.putB pg f b).flashOp = s.flashOp := rfl
@[simp] theorem State.putB_nvdOp (pg : Nat) (f : Fld) (b : Bool) : (s.putB pg f b).nvdOp = s.nvdOp := rfl
@[simp] theorem State.putB_otpOp (pg : Nat) (f : Fld) (b : Bool) : (s.putB pg f b).otpOp = s.otpOp := rfl
@[simp] theorem State.putB_fresh (pg : Nat) (f : Fld) (b : Bool) : (s.putB pg f b).fresh = s.fresh := rfl

/-! ### `raise` -/

@[simp] theorem State.raise_pending (pg : Nat) (f : Fld) : (s.raise pg f).pending = s.pending := rfl
@[simp] theorem State.raise_tick (pg : Nat) (f : Fld) : (s.raise pg f).tick = s.tick := rfl
@[simp] theorem State.raise_sticky (pg : Nat) (f : Fld) : (s.raise pg f).sticky = s.sticky := rfl
@[simp] theorem State.raise_inForce (pg : Nat) (f : Fld) : (s.raise pg f).inForce = s.inForce := rfl
@[simp] theorem State.raise_snaps (pg : Nat) (f : Fld) : (s.raise pg f).snaps = s.snaps := rfl
@[simp] theorem State.raise_shadow (pg : Nat) (f : Fld) : (s.raise pg f).shadow = s.shadow := rfl
@[simp] theorem State.raise_readData (pg : Nat) (f : Fld) : (s.raise pg f).readData = s.readData := rfl
@[simp] theorem State.raise_store (pg : Nat) (f : Fld) : (s.raise pg f).store = s.store := rfl
@[simp] theorem State.raise_aos (pg : Nat) (f : Fld) : (s.raise pg f).aos = s.aos := rfl
@[simp] theorem State.raise_nvd (pg : Nat) (f : Fld) : (s.raise pg f).nvd = s.nvd := rfl
@[simp] theorem State.raise_code (pg : Nat) (f : Fld) : (s.raise pg f).code = s.code := rfl
@[simp] theorem State.raise_iram (pg : Nat) (f : Fld) : (s.raise pg f).iram = s.iram := rfl
@[simp] theorem State.raise_otp (pg : Nat) (f : Fld) : (s.raise pg f).otp = s.otp := rfl
@[simp] theorem State.raise_otpMargin (pg : Nat) (f : Fld) : (s.raise pg f).otpMargin = s.otpMargin := rfl
@[simp] theorem State.raise_part (pg : Nat) (f : Fld) : (s.raise pg f).part = s.part := rfl
@[simp] theorem State.raise_pins (pg : Nat) (f : Fld) : (s.raise pg f).pins = s.pins := rfl
@[simp] theorem State.raise_phase (pg : Nat) (f : Fld) : (s.raise pg f).phase = s.phase := rfl
@[simp] theorem State.raise_rst (pg : Nat) (f : Fld) : (s.raise pg f).rst = s.rst := rfl
@[simp] theorem State.raise_boot (pg : Nat) (f : Fld) : (s.raise pg f).boot = s.boot := rfl
@[simp] theorem State.raise_aon (pg : Nat) (f : Fld) : (s.raise pg f).aon = s.aon := rfl
@[simp] theorem State.raise_mains (pg : Nat) (f : Fld) : (s.raise pg f).mains = s.mains := rfl
@[simp] theorem State.raise_dbg (pg : Nat) (f : Fld) : (s.raise pg f).dbg = s.dbg := rfl
@[simp] theorem State.raise_gpio (pg : Nat) (f : Fld) : (s.raise pg f).gpio = s.gpio := rfl
@[simp] theorem State.raise_plcr (pg : Nat) (f : Fld) : (s.raise pg f).plcr = s.plcr := rfl
@[simp] theorem State.raise_st (pg : Nat) (f : Fld) : (s.raise pg f).st = s.st := rfl
@[simp] theorem State.raise_engs (pg : Nat) (f : Fld) : (s.raise pg f).engs = s.engs := rfl
@[simp] theorem State.raise_ports (pg : Nat) (f : Fld) : (s.raise pg f).ports = s.ports := rfl
@[simp] theorem State.raise_cmpt (pg : Nat) (f : Fld) : (s.raise pg f).cmpt = s.cmpt := rfl
@[simp] theorem State.raise_share (pg : Nat) (f : Fld) : (s.raise pg f).share = s.share := rfl
@[simp] theorem State.raise_links (pg : Nat) (f : Fld) : (s.raise pg f).links = s.links := rfl
@[simp] theorem State.raise_fleet (pg : Nat) (f : Fld) : (s.raise pg f).fleet = s.fleet := rfl
@[simp] theorem State.raise_place (pg : Nat) (f : Fld) : (s.raise pg f).place = s.place := rfl
@[simp] theorem State.raise_twin (pg : Nat) (f : Fld) : (s.raise pg f).twin = s.twin := rfl
@[simp] theorem State.raise_gauge (pg : Nat) (f : Fld) : (s.raise pg f).gauge = s.gauge := rfl
@[simp] theorem State.raise_host (pg : Nat) (f : Fld) : (s.raise pg f).host = s.host := rfl
@[simp] theorem State.raise_upd (pg : Nat) (f : Fld) : (s.raise pg f).upd = s.upd := rfl
@[simp] theorem State.raise_flashOp (pg : Nat) (f : Fld) : (s.raise pg f).flashOp = s.flashOp := rfl
@[simp] theorem State.raise_nvdOp (pg : Nat) (f : Fld) : (s.raise pg f).nvdOp = s.nvdOp := rfl
@[simp] theorem State.raise_otpOp (pg : Nat) (f : Fld) : (s.raise pg f).otpOp = s.otpOp := rfl
@[simp] theorem State.raise_fresh (pg : Nat) (f : Fld) : (s.raise pg f).fresh = s.fresh := rfl

/-! ### `putInf` -/

@[simp] theorem State.putInf_pending (pg : Nat) (f : Fld) (v : Nat) : (s.putInf pg f v).pending = s.pending := rfl
@[simp] theorem State.putInf_tick (pg : Nat) (f : Fld) (v : Nat) : (s.putInf pg f v).tick = s.tick := rfl
@[simp] theorem State.putInf_sticky (pg : Nat) (f : Fld) (v : Nat) : (s.putInf pg f v).sticky = s.sticky := rfl
@[simp] theorem State.putInf_regs (pg : Nat) (f : Fld) (v : Nat) : (s.putInf pg f v).regs = s.regs := rfl
@[simp] theorem State.putInf_snaps (pg : Nat) (f : Fld) (v : Nat) : (s.putInf pg f v).snaps = s.snaps := rfl
@[simp] theorem State.putInf_shadow (pg : Nat) (f : Fld) (v : Nat) : (s.putInf pg f v).shadow = s.shadow := rfl
@[simp] theorem State.putInf_readData (pg : Nat) (f : Fld) (v : Nat) : (s.putInf pg f v).readData = s.readData := rfl
@[simp] theorem State.putInf_store (pg : Nat) (f : Fld) (v : Nat) : (s.putInf pg f v).store = s.store := rfl
@[simp] theorem State.putInf_aos (pg : Nat) (f : Fld) (v : Nat) : (s.putInf pg f v).aos = s.aos := rfl
@[simp] theorem State.putInf_nvd (pg : Nat) (f : Fld) (v : Nat) : (s.putInf pg f v).nvd = s.nvd := rfl
@[simp] theorem State.putInf_code (pg : Nat) (f : Fld) (v : Nat) : (s.putInf pg f v).code = s.code := rfl
@[simp] theorem State.putInf_iram (pg : Nat) (f : Fld) (v : Nat) : (s.putInf pg f v).iram = s.iram := rfl
@[simp] theorem State.putInf_otp (pg : Nat) (f : Fld) (v : Nat) : (s.putInf pg f v).otp = s.otp := rfl
@[simp] theorem State.putInf_otpMargin (pg : Nat) (f : Fld) (v : Nat) : (s.putInf pg f v).otpMargin = s.otpMargin := rfl
@[simp] theorem State.putInf_part (pg : Nat) (f : Fld) (v : Nat) : (s.putInf pg f v).part = s.part := rfl
@[simp] theorem State.putInf_pins (pg : Nat) (f : Fld) (v : Nat) : (s.putInf pg f v).pins = s.pins := rfl
@[simp] theorem State.putInf_phase (pg : Nat) (f : Fld) (v : Nat) : (s.putInf pg f v).phase = s.phase := rfl
@[simp] theorem State.putInf_rst (pg : Nat) (f : Fld) (v : Nat) : (s.putInf pg f v).rst = s.rst := rfl
@[simp] theorem State.putInf_boot (pg : Nat) (f : Fld) (v : Nat) : (s.putInf pg f v).boot = s.boot := rfl
@[simp] theorem State.putInf_aon (pg : Nat) (f : Fld) (v : Nat) : (s.putInf pg f v).aon = s.aon := rfl
@[simp] theorem State.putInf_mains (pg : Nat) (f : Fld) (v : Nat) : (s.putInf pg f v).mains = s.mains := rfl
@[simp] theorem State.putInf_dbg (pg : Nat) (f : Fld) (v : Nat) : (s.putInf pg f v).dbg = s.dbg := rfl
@[simp] theorem State.putInf_gpio (pg : Nat) (f : Fld) (v : Nat) : (s.putInf pg f v).gpio = s.gpio := rfl
@[simp] theorem State.putInf_plcr (pg : Nat) (f : Fld) (v : Nat) : (s.putInf pg f v).plcr = s.plcr := rfl
@[simp] theorem State.putInf_st (pg : Nat) (f : Fld) (v : Nat) : (s.putInf pg f v).st = s.st := rfl
@[simp] theorem State.putInf_engs (pg : Nat) (f : Fld) (v : Nat) : (s.putInf pg f v).engs = s.engs := rfl
@[simp] theorem State.putInf_ports (pg : Nat) (f : Fld) (v : Nat) : (s.putInf pg f v).ports = s.ports := rfl
@[simp] theorem State.putInf_cmpt (pg : Nat) (f : Fld) (v : Nat) : (s.putInf pg f v).cmpt = s.cmpt := rfl
@[simp] theorem State.putInf_share (pg : Nat) (f : Fld) (v : Nat) : (s.putInf pg f v).share = s.share := rfl
@[simp] theorem State.putInf_links (pg : Nat) (f : Fld) (v : Nat) : (s.putInf pg f v).links = s.links := rfl
@[simp] theorem State.putInf_fleet (pg : Nat) (f : Fld) (v : Nat) : (s.putInf pg f v).fleet = s.fleet := rfl
@[simp] theorem State.putInf_place (pg : Nat) (f : Fld) (v : Nat) : (s.putInf pg f v).place = s.place := rfl
@[simp] theorem State.putInf_twin (pg : Nat) (f : Fld) (v : Nat) : (s.putInf pg f v).twin = s.twin := rfl
@[simp] theorem State.putInf_gauge (pg : Nat) (f : Fld) (v : Nat) : (s.putInf pg f v).gauge = s.gauge := rfl
@[simp] theorem State.putInf_host (pg : Nat) (f : Fld) (v : Nat) : (s.putInf pg f v).host = s.host := rfl
@[simp] theorem State.putInf_upd (pg : Nat) (f : Fld) (v : Nat) : (s.putInf pg f v).upd = s.upd := rfl
@[simp] theorem State.putInf_flashOp (pg : Nat) (f : Fld) (v : Nat) : (s.putInf pg f v).flashOp = s.flashOp := rfl
@[simp] theorem State.putInf_nvdOp (pg : Nat) (f : Fld) (v : Nat) : (s.putInf pg f v).nvdOp = s.nvdOp := rfl
@[simp] theorem State.putInf_otpOp (pg : Nat) (f : Fld) (v : Nat) : (s.putInf pg f v).otpOp = s.otpOp := rfl
@[simp] theorem State.putInf_fresh (pg : Nat) (f : Fld) (v : Nat) : (s.putInf pg f v).fresh = s.fresh := rfl

/-! ### `setTick` -/

@[simp] theorem State.setTick_pending (v : Nat) : (s.setTick v).pending = s.pending := rfl
@[simp] theorem State.setTick_sticky (v : Nat) : (s.setTick v).sticky = s.sticky := rfl
@[simp] theorem State.setTick_regs (v : Nat) : (s.setTick v).regs = s.regs := rfl
@[simp] theorem State.setTick_inForce (v : Nat) : (s.setTick v).inForce = s.inForce := rfl
@[simp] theorem State.setTick_snaps (v : Nat) : (s.setTick v).snaps = s.snaps := rfl
@[simp] theorem State.setTick_shadow (v : Nat) : (s.setTick v).shadow = s.shadow := rfl
@[simp] theorem State.setTick_readData (v : Nat) : (s.setTick v).readData = s.readData := rfl
@[simp] theorem State.setTick_store (v : Nat) : (s.setTick v).store = s.store := rfl
@[simp] theorem State.setTick_aos (v : Nat) : (s.setTick v).aos = s.aos := rfl
@[simp] theorem State.setTick_nvd (v : Nat) : (s.setTick v).nvd = s.nvd := rfl
@[simp] theorem State.setTick_code (v : Nat) : (s.setTick v).code = s.code := rfl
@[simp] theorem State.setTick_iram (v : Nat) : (s.setTick v).iram = s.iram := rfl
@[simp] theorem State.setTick_otp (v : Nat) : (s.setTick v).otp = s.otp := rfl
@[simp] theorem State.setTick_otpMargin (v : Nat) : (s.setTick v).otpMargin = s.otpMargin := rfl
@[simp] theorem State.setTick_part (v : Nat) : (s.setTick v).part = s.part := rfl
@[simp] theorem State.setTick_pins (v : Nat) : (s.setTick v).pins = s.pins := rfl
@[simp] theorem State.setTick_phase (v : Nat) : (s.setTick v).phase = s.phase := rfl
@[simp] theorem State.setTick_rst (v : Nat) : (s.setTick v).rst = s.rst := rfl
@[simp] theorem State.setTick_boot (v : Nat) : (s.setTick v).boot = s.boot := rfl
@[simp] theorem State.setTick_aon (v : Nat) : (s.setTick v).aon = s.aon := rfl
@[simp] theorem State.setTick_mains (v : Nat) : (s.setTick v).mains = s.mains := rfl
@[simp] theorem State.setTick_dbg (v : Nat) : (s.setTick v).dbg = s.dbg := rfl
@[simp] theorem State.setTick_gpio (v : Nat) : (s.setTick v).gpio = s.gpio := rfl
@[simp] theorem State.setTick_plcr (v : Nat) : (s.setTick v).plcr = s.plcr := rfl
@[simp] theorem State.setTick_st (v : Nat) : (s.setTick v).st = s.st := rfl
@[simp] theorem State.setTick_engs (v : Nat) : (s.setTick v).engs = s.engs := rfl
@[simp] theorem State.setTick_ports (v : Nat) : (s.setTick v).ports = s.ports := rfl
@[simp] theorem State.setTick_cmpt (v : Nat) : (s.setTick v).cmpt = s.cmpt := rfl
@[simp] theorem State.setTick_share (v : Nat) : (s.setTick v).share = s.share := rfl
@[simp] theorem State.setTick_links (v : Nat) : (s.setTick v).links = s.links := rfl
@[simp] theorem State.setTick_fleet (v : Nat) : (s.setTick v).fleet = s.fleet := rfl
@[simp] theorem State.setTick_place (v : Nat) : (s.setTick v).place = s.place := rfl
@[simp] theorem State.setTick_twin (v : Nat) : (s.setTick v).twin = s.twin := rfl
@[simp] theorem State.setTick_gauge (v : Nat) : (s.setTick v).gauge = s.gauge := rfl
@[simp] theorem State.setTick_host (v : Nat) : (s.setTick v).host = s.host := rfl
@[simp] theorem State.setTick_upd (v : Nat) : (s.setTick v).upd = s.upd := rfl
@[simp] theorem State.setTick_flashOp (v : Nat) : (s.setTick v).flashOp = s.flashOp := rfl
@[simp] theorem State.setTick_nvdOp (v : Nat) : (s.setTick v).nvdOp = s.nvdOp := rfl
@[simp] theorem State.setTick_otpOp (v : Nat) : (s.setTick v).otpOp = s.otpOp := rfl
@[simp] theorem State.setTick_fresh (v : Nat) : (s.setTick v).fresh = s.fresh := rfl

/-! ### `stickySet` -/

@[simp] theorem State.stickySet_pending (v : Nat) : (s.stickySet v).pending = s.pending := rfl
@[simp] theorem State.stickySet_tick (v : Nat) : (s.stickySet v).tick = s.tick := rfl
@[simp] theorem State.stickySet_regs (v : Nat) : (s.stickySet v).regs = s.regs := rfl
@[simp] theorem State.stickySet_inForce (v : Nat) : (s.stickySet v).inForce = s.inForce := rfl
@[simp] theorem State.stickySet_snaps (v : Nat) : (s.stickySet v).snaps = s.snaps := rfl
@[simp] theorem State.stickySet_shadow (v : Nat) : (s.stickySet v).shadow = s.shadow := rfl
@[simp] theorem State.stickySet_readData (v : Nat) : (s.stickySet v).readData = s.readData := rfl
@[simp] theorem State.stickySet_store (v : Nat) : (s.stickySet v).store = s.store := rfl
@[simp] theorem State.stickySet_aos (v : Nat) : (s.stickySet v).aos = s.aos := rfl
@[simp] theorem State.stickySet_nvd (v : Nat) : (s.stickySet v).nvd = s.nvd := rfl
@[simp] theorem State.stickySet_code (v : Nat) : (s.stickySet v).code = s.code := rfl
@[simp] theorem State.stickySet_iram (v : Nat) : (s.stickySet v).iram = s.iram := rfl
@[simp] theorem State.stickySet_otp (v : Nat) : (s.stickySet v).otp = s.otp := rfl
@[simp] theorem State.stickySet_otpMargin (v : Nat) : (s.stickySet v).otpMargin = s.otpMargin := rfl
@[simp] theorem State.stickySet_part (v : Nat) : (s.stickySet v).part = s.part := rfl
@[simp] theorem State.stickySet_pins (v : Nat) : (s.stickySet v).pins = s.pins := rfl
@[simp] theorem State.stickySet_phase (v : Nat) : (s.stickySet v).phase = s.phase := rfl
@[simp] theorem State.stickySet_rst (v : Nat) : (s.stickySet v).rst = s.rst := rfl
@[simp] theorem State.stickySet_boot (v : Nat) : (s.stickySet v).boot = s.boot := rfl
@[simp] theorem State.stickySet_aon (v : Nat) : (s.stickySet v).aon = s.aon := rfl
@[simp] theorem State.stickySet_mains (v : Nat) : (s.stickySet v).mains = s.mains := rfl
@[simp] theorem State.stickySet_dbg (v : Nat) : (s.stickySet v).dbg = s.dbg := rfl
@[simp] theorem State.stickySet_gpio (v : Nat) : (s.stickySet v).gpio = s.gpio := rfl
@[simp] theorem State.stickySet_plcr (v : Nat) : (s.stickySet v).plcr = s.plcr := rfl
@[simp] theorem State.stickySet_st (v : Nat) : (s.stickySet v).st = s.st := rfl
@[simp] theorem State.stickySet_engs (v : Nat) : (s.stickySet v).engs = s.engs := rfl
@[simp] theorem State.stickySet_ports (v : Nat) : (s.stickySet v).ports = s.ports := rfl
@[simp] theorem State.stickySet_cmpt (v : Nat) : (s.stickySet v).cmpt = s.cmpt := rfl
@[simp] theorem State.stickySet_share (v : Nat) : (s.stickySet v).share = s.share := rfl
@[simp] theorem State.stickySet_links (v : Nat) : (s.stickySet v).links = s.links := rfl
@[simp] theorem State.stickySet_fleet (v : Nat) : (s.stickySet v).fleet = s.fleet := rfl
@[simp] theorem State.stickySet_place (v : Nat) : (s.stickySet v).place = s.place := rfl
@[simp] theorem State.stickySet_twin (v : Nat) : (s.stickySet v).twin = s.twin := rfl
@[simp] theorem State.stickySet_gauge (v : Nat) : (s.stickySet v).gauge = s.gauge := rfl
@[simp] theorem State.stickySet_host (v : Nat) : (s.stickySet v).host = s.host := rfl
@[simp] theorem State.stickySet_upd (v : Nat) : (s.stickySet v).upd = s.upd := rfl
@[simp] theorem State.stickySet_flashOp (v : Nat) : (s.stickySet v).flashOp = s.flashOp := rfl
@[simp] theorem State.stickySet_nvdOp (v : Nat) : (s.stickySet v).nvdOp = s.nvdOp := rfl
@[simp] theorem State.stickySet_otpOp (v : Nat) : (s.stickySet v).otpOp = s.otpOp := rfl
@[simp] theorem State.stickySet_fresh (v : Nat) : (s.stickySet v).fresh = s.fresh := rfl

/-! ### `freshen` -/

@[simp] theorem State.freshen_pending : (s.freshen).pending = s.pending := rfl
@[simp] theorem State.freshen_tick : (s.freshen).tick = s.tick := rfl
@[simp] theorem State.freshen_sticky : (s.freshen).sticky = s.sticky := rfl
@[simp] theorem State.freshen_regs : (s.freshen).regs = s.regs := rfl
@[simp] theorem State.freshen_inForce : (s.freshen).inForce = s.inForce := rfl
@[simp] theorem State.freshen_snaps : (s.freshen).snaps = s.snaps := rfl
@[simp] theorem State.freshen_shadow : (s.freshen).shadow = s.shadow := rfl
@[simp] theorem State.freshen_readData : (s.freshen).readData = s.readData := rfl
@[simp] theorem State.freshen_store : (s.freshen).store = s.store := rfl
@[simp] theorem State.freshen_aos : (s.freshen).aos = s.aos := rfl
@[simp] theorem State.freshen_nvd : (s.freshen).nvd = s.nvd := rfl
@[simp] theorem State.freshen_code : (s.freshen).code = s.code := rfl
@[simp] theorem State.freshen_iram : (s.freshen).iram = s.iram := rfl
@[simp] theorem State.freshen_otp : (s.freshen).otp = s.otp := rfl
@[simp] theorem State.freshen_otpMargin : (s.freshen).otpMargin = s.otpMargin := rfl
@[simp] theorem State.freshen_part : (s.freshen).part = s.part := rfl
@[simp] theorem State.freshen_pins : (s.freshen).pins = s.pins := rfl
@[simp] theorem State.freshen_phase : (s.freshen).phase = s.phase := rfl
@[simp] theorem State.freshen_rst : (s.freshen).rst = s.rst := rfl
@[simp] theorem State.freshen_boot : (s.freshen).boot = s.boot := rfl
@[simp] theorem State.freshen_aon : (s.freshen).aon = s.aon := rfl
@[simp] theorem State.freshen_mains : (s.freshen).mains = s.mains := rfl
@[simp] theorem State.freshen_dbg : (s.freshen).dbg = s.dbg := rfl
@[simp] theorem State.freshen_gpio : (s.freshen).gpio = s.gpio := rfl
@[simp] theorem State.freshen_plcr : (s.freshen).plcr = s.plcr := rfl
@[simp] theorem State.freshen_st : (s.freshen).st = s.st := rfl
@[simp] theorem State.freshen_engs : (s.freshen).engs = s.engs := rfl
@[simp] theorem State.freshen_ports : (s.freshen).ports = s.ports := rfl
@[simp] theorem State.freshen_cmpt : (s.freshen).cmpt = s.cmpt := rfl
@[simp] theorem State.freshen_share : (s.freshen).share = s.share := rfl
@[simp] theorem State.freshen_links : (s.freshen).links = s.links := rfl
@[simp] theorem State.freshen_fleet : (s.freshen).fleet = s.fleet := rfl
@[simp] theorem State.freshen_place : (s.freshen).place = s.place := rfl
@[simp] theorem State.freshen_twin : (s.freshen).twin = s.twin := rfl
@[simp] theorem State.freshen_gauge : (s.freshen).gauge = s.gauge := rfl
@[simp] theorem State.freshen_host : (s.freshen).host = s.host := rfl
@[simp] theorem State.freshen_upd : (s.freshen).upd = s.upd := rfl
@[simp] theorem State.freshen_flashOp : (s.freshen).flashOp = s.flashOp := rfl
@[simp] theorem State.freshen_nvdOp : (s.freshen).nvdOp = s.nvdOp := rfl
@[simp] theorem State.freshen_otpOp : (s.freshen).otpOp = s.otpOp := rfl

/-! ### `modPort` -/

@[simp] theorem State.modPort_pending (n : Port) (f : PortSt → PortSt) : (s.modPort n f).pending = s.pending := rfl
@[simp] theorem State.modPort_tick (n : Port) (f : PortSt → PortSt) : (s.modPort n f).tick = s.tick := rfl
@[simp] theorem State.modPort_sticky (n : Port) (f : PortSt → PortSt) : (s.modPort n f).sticky = s.sticky := rfl
@[simp] theorem State.modPort_regs (n : Port) (f : PortSt → PortSt) : (s.modPort n f).regs = s.regs := rfl
@[simp] theorem State.modPort_inForce (n : Port) (f : PortSt → PortSt) : (s.modPort n f).inForce = s.inForce := rfl
@[simp] theorem State.modPort_snaps (n : Port) (f : PortSt → PortSt) : (s.modPort n f).snaps = s.snaps := rfl
@[simp] theorem State.modPort_shadow (n : Port) (f : PortSt → PortSt) : (s.modPort n f).shadow = s.shadow := rfl
@[simp] theorem State.modPort_readData (n : Port) (f : PortSt → PortSt) : (s.modPort n f).readData = s.readData := rfl
@[simp] theorem State.modPort_store (n : Port) (f : PortSt → PortSt) : (s.modPort n f).store = s.store := rfl
@[simp] theorem State.modPort_aos (n : Port) (f : PortSt → PortSt) : (s.modPort n f).aos = s.aos := rfl
@[simp] theorem State.modPort_nvd (n : Port) (f : PortSt → PortSt) : (s.modPort n f).nvd = s.nvd := rfl
@[simp] theorem State.modPort_code (n : Port) (f : PortSt → PortSt) : (s.modPort n f).code = s.code := rfl
@[simp] theorem State.modPort_iram (n : Port) (f : PortSt → PortSt) : (s.modPort n f).iram = s.iram := rfl
@[simp] theorem State.modPort_otp (n : Port) (f : PortSt → PortSt) : (s.modPort n f).otp = s.otp := rfl
@[simp] theorem State.modPort_otpMargin (n : Port) (f : PortSt → PortSt) : (s.modPort n f).otpMargin = s.otpMargin := rfl
@[simp] theorem State.modPort_part (n : Port) (f : PortSt → PortSt) : (s.modPort n f).part = s.part := rfl
@[simp] theorem State.modPort_pins (n : Port) (f : PortSt → PortSt) : (s.modPort n f).pins = s.pins := rfl
@[simp] theorem State.modPort_phase (n : Port) (f : PortSt → PortSt) : (s.modPort n f).phase = s.phase := rfl
@[simp] theorem State.modPort_rst (n : Port) (f : PortSt → PortSt) : (s.modPort n f).rst = s.rst := rfl
@[simp] theorem State.modPort_boot (n : Port) (f : PortSt → PortSt) : (s.modPort n f).boot = s.boot := rfl
@[simp] theorem State.modPort_aon (n : Port) (f : PortSt → PortSt) : (s.modPort n f).aon = s.aon := rfl
@[simp] theorem State.modPort_mains (n : Port) (f : PortSt → PortSt) : (s.modPort n f).mains = s.mains := rfl
@[simp] theorem State.modPort_dbg (n : Port) (f : PortSt → PortSt) : (s.modPort n f).dbg = s.dbg := rfl
@[simp] theorem State.modPort_gpio (n : Port) (f : PortSt → PortSt) : (s.modPort n f).gpio = s.gpio := rfl
@[simp] theorem State.modPort_plcr (n : Port) (f : PortSt → PortSt) : (s.modPort n f).plcr = s.plcr := rfl
@[simp] theorem State.modPort_st (n : Port) (f : PortSt → PortSt) : (s.modPort n f).st = s.st := rfl
@[simp] theorem State.modPort_engs (n : Port) (f : PortSt → PortSt) : (s.modPort n f).engs = s.engs := rfl
@[simp] theorem State.modPort_cmpt (n : Port) (f : PortSt → PortSt) : (s.modPort n f).cmpt = s.cmpt := rfl
@[simp] theorem State.modPort_share (n : Port) (f : PortSt → PortSt) : (s.modPort n f).share = s.share := rfl
@[simp] theorem State.modPort_links (n : Port) (f : PortSt → PortSt) : (s.modPort n f).links = s.links := rfl
@[simp] theorem State.modPort_fleet (n : Port) (f : PortSt → PortSt) : (s.modPort n f).fleet = s.fleet := rfl
@[simp] theorem State.modPort_place (n : Port) (f : PortSt → PortSt) : (s.modPort n f).place = s.place := rfl
@[simp] theorem State.modPort_twin (n : Port) (f : PortSt → PortSt) : (s.modPort n f).twin = s.twin := rfl
@[simp] theorem State.modPort_gauge (n : Port) (f : PortSt → PortSt) : (s.modPort n f).gauge = s.gauge := rfl
@[simp] theorem State.modPort_host (n : Port) (f : PortSt → PortSt) : (s.modPort n f).host = s.host := rfl
@[simp] theorem State.modPort_upd (n : Port) (f : PortSt → PortSt) : (s.modPort n f).upd = s.upd := rfl
@[simp] theorem State.modPort_flashOp (n : Port) (f : PortSt → PortSt) : (s.modPort n f).flashOp = s.flashOp := rfl
@[simp] theorem State.modPort_nvdOp (n : Port) (f : PortSt → PortSt) : (s.modPort n f).nvdOp = s.nvdOp := rfl
@[simp] theorem State.modPort_otpOp (n : Port) (f : PortSt → PortSt) : (s.modPort n f).otpOp = s.otpOp := rfl
@[simp] theorem State.modPort_fresh (n : Port) (f : PortSt → PortSt) : (s.modPort n f).fresh = s.fresh := rfl

/-! ### `modEng` -/

@[simp] theorem State.modEng_pending (k : Engine) (f : EngSt → EngSt) : (s.modEng k f).pending = s.pending := rfl
@[simp] theorem State.modEng_tick (k : Engine) (f : EngSt → EngSt) : (s.modEng k f).tick = s.tick := rfl
@[simp] theorem State.modEng_sticky (k : Engine) (f : EngSt → EngSt) : (s.modEng k f).sticky = s.sticky := rfl
@[simp] theorem State.modEng_regs (k : Engine) (f : EngSt → EngSt) : (s.modEng k f).regs = s.regs := rfl
@[simp] theorem State.modEng_inForce (k : Engine) (f : EngSt → EngSt) : (s.modEng k f).inForce = s.inForce := rfl
@[simp] theorem State.modEng_snaps (k : Engine) (f : EngSt → EngSt) : (s.modEng k f).snaps = s.snaps := rfl
@[simp] theorem State.modEng_shadow (k : Engine) (f : EngSt → EngSt) : (s.modEng k f).shadow = s.shadow := rfl
@[simp] theorem State.modEng_readData (k : Engine) (f : EngSt → EngSt) : (s.modEng k f).readData = s.readData := rfl
@[simp] theorem State.modEng_store (k : Engine) (f : EngSt → EngSt) : (s.modEng k f).store = s.store := rfl
@[simp] theorem State.modEng_aos (k : Engine) (f : EngSt → EngSt) : (s.modEng k f).aos = s.aos := rfl
@[simp] theorem State.modEng_nvd (k : Engine) (f : EngSt → EngSt) : (s.modEng k f).nvd = s.nvd := rfl
@[simp] theorem State.modEng_code (k : Engine) (f : EngSt → EngSt) : (s.modEng k f).code = s.code := rfl
@[simp] theorem State.modEng_iram (k : Engine) (f : EngSt → EngSt) : (s.modEng k f).iram = s.iram := rfl
@[simp] theorem State.modEng_otp (k : Engine) (f : EngSt → EngSt) : (s.modEng k f).otp = s.otp := rfl
@[simp] theorem State.modEng_otpMargin (k : Engine) (f : EngSt → EngSt) : (s.modEng k f).otpMargin = s.otpMargin := rfl
@[simp] theorem State.modEng_part (k : Engine) (f : EngSt → EngSt) : (s.modEng k f).part = s.part := rfl
@[simp] theorem State.modEng_pins (k : Engine) (f : EngSt → EngSt) : (s.modEng k f).pins = s.pins := rfl
@[simp] theorem State.modEng_phase (k : Engine) (f : EngSt → EngSt) : (s.modEng k f).phase = s.phase := rfl
@[simp] theorem State.modEng_rst (k : Engine) (f : EngSt → EngSt) : (s.modEng k f).rst = s.rst := rfl
@[simp] theorem State.modEng_boot (k : Engine) (f : EngSt → EngSt) : (s.modEng k f).boot = s.boot := rfl
@[simp] theorem State.modEng_aon (k : Engine) (f : EngSt → EngSt) : (s.modEng k f).aon = s.aon := rfl
@[simp] theorem State.modEng_mains (k : Engine) (f : EngSt → EngSt) : (s.modEng k f).mains = s.mains := rfl
@[simp] theorem State.modEng_dbg (k : Engine) (f : EngSt → EngSt) : (s.modEng k f).dbg = s.dbg := rfl
@[simp] theorem State.modEng_gpio (k : Engine) (f : EngSt → EngSt) : (s.modEng k f).gpio = s.gpio := rfl
@[simp] theorem State.modEng_plcr (k : Engine) (f : EngSt → EngSt) : (s.modEng k f).plcr = s.plcr := rfl
@[simp] theorem State.modEng_st (k : Engine) (f : EngSt → EngSt) : (s.modEng k f).st = s.st := rfl
@[simp] theorem State.modEng_ports (k : Engine) (f : EngSt → EngSt) : (s.modEng k f).ports = s.ports := rfl
@[simp] theorem State.modEng_cmpt (k : Engine) (f : EngSt → EngSt) : (s.modEng k f).cmpt = s.cmpt := rfl
@[simp] theorem State.modEng_share (k : Engine) (f : EngSt → EngSt) : (s.modEng k f).share = s.share := rfl
@[simp] theorem State.modEng_links (k : Engine) (f : EngSt → EngSt) : (s.modEng k f).links = s.links := rfl
@[simp] theorem State.modEng_fleet (k : Engine) (f : EngSt → EngSt) : (s.modEng k f).fleet = s.fleet := rfl
@[simp] theorem State.modEng_place (k : Engine) (f : EngSt → EngSt) : (s.modEng k f).place = s.place := rfl
@[simp] theorem State.modEng_twin (k : Engine) (f : EngSt → EngSt) : (s.modEng k f).twin = s.twin := rfl
@[simp] theorem State.modEng_gauge (k : Engine) (f : EngSt → EngSt) : (s.modEng k f).gauge = s.gauge := rfl
@[simp] theorem State.modEng_host (k : Engine) (f : EngSt → EngSt) : (s.modEng k f).host = s.host := rfl
@[simp] theorem State.modEng_upd (k : Engine) (f : EngSt → EngSt) : (s.modEng k f).upd = s.upd := rfl
@[simp] theorem State.modEng_flashOp (k : Engine) (f : EngSt → EngSt) : (s.modEng k f).flashOp = s.flashOp := rfl
@[simp] theorem State.modEng_nvdOp (k : Engine) (f : EngSt → EngSt) : (s.modEng k f).nvdOp = s.nvdOp := rfl
@[simp] theorem State.modEng_otpOp (k : Engine) (f : EngSt → EngSt) : (s.modEng k f).otpOp = s.otpOp := rfl
@[simp] theorem State.modEng_fresh (k : Engine) (f : EngSt → EngSt) : (s.modEng k f).fresh = s.fresh := rfl

/-! ### `aosWrite` -/

@[simp] theorem State.aosWrite_pending (a : Nat) (l : List Byte) : (s.aosWrite a l).pending = s.pending := rfl
@[simp] theorem State.aosWrite_tick (a : Nat) (l : List Byte) : (s.aosWrite a l).tick = s.tick := rfl
@[simp] theorem State.aosWrite_sticky (a : Nat) (l : List Byte) : (s.aosWrite a l).sticky = s.sticky := rfl
@[simp] theorem State.aosWrite_regs (a : Nat) (l : List Byte) : (s.aosWrite a l).regs = s.regs := rfl
@[simp] theorem State.aosWrite_inForce (a : Nat) (l : List Byte) : (s.aosWrite a l).inForce = s.inForce := rfl
@[simp] theorem State.aosWrite_snaps (a : Nat) (l : List Byte) : (s.aosWrite a l).snaps = s.snaps := rfl
@[simp] theorem State.aosWrite_shadow (a : Nat) (l : List Byte) : (s.aosWrite a l).shadow = s.shadow := rfl
@[simp] theorem State.aosWrite_readData (a : Nat) (l : List Byte) : (s.aosWrite a l).readData = s.readData := rfl
@[simp] theorem State.aosWrite_store (a : Nat) (l : List Byte) : (s.aosWrite a l).store = s.store := rfl
@[simp] theorem State.aosWrite_nvd (a : Nat) (l : List Byte) : (s.aosWrite a l).nvd = s.nvd := rfl
@[simp] theorem State.aosWrite_code (a : Nat) (l : List Byte) : (s.aosWrite a l).code = s.code := rfl
@[simp] theorem State.aosWrite_iram (a : Nat) (l : List Byte) : (s.aosWrite a l).iram = s.iram := rfl
@[simp] theorem State.aosWrite_otp (a : Nat) (l : List Byte) : (s.aosWrite a l).otp = s.otp := rfl
@[simp] theorem State.aosWrite_otpMargin (a : Nat) (l : List Byte) : (s.aosWrite a l).otpMargin = s.otpMargin := rfl
@[simp] theorem State.aosWrite_part (a : Nat) (l : List Byte) : (s.aosWrite a l).part = s.part := rfl
@[simp] theorem State.aosWrite_pins (a : Nat) (l : List Byte) : (s.aosWrite a l).pins = s.pins := rfl
@[simp] theorem State.aosWrite_phase (a : Nat) (l : List Byte) : (s.aosWrite a l).phase = s.phase := rfl
@[simp] theorem State.aosWrite_rst (a : Nat) (l : List Byte) : (s.aosWrite a l).rst = s.rst := rfl
@[simp] theorem State.aosWrite_boot (a : Nat) (l : List Byte) : (s.aosWrite a l).boot = s.boot := rfl
@[simp] theorem State.aosWrite_aon (a : Nat) (l : List Byte) : (s.aosWrite a l).aon = s.aon := rfl
@[simp] theorem State.aosWrite_mains (a : Nat) (l : List Byte) : (s.aosWrite a l).mains = s.mains := rfl
@[simp] theorem State.aosWrite_dbg (a : Nat) (l : List Byte) : (s.aosWrite a l).dbg = s.dbg := rfl
@[simp] theorem State.aosWrite_gpio (a : Nat) (l : List Byte) : (s.aosWrite a l).gpio = s.gpio := rfl
@[simp] theorem State.aosWrite_plcr (a : Nat) (l : List Byte) : (s.aosWrite a l).plcr = s.plcr := rfl
@[simp] theorem State.aosWrite_st (a : Nat) (l : List Byte) : (s.aosWrite a l).st = s.st := rfl
@[simp] theorem State.aosWrite_engs (a : Nat) (l : List Byte) : (s.aosWrite a l).engs = s.engs := rfl
@[simp] theorem State.aosWrite_ports (a : Nat) (l : List Byte) : (s.aosWrite a l).ports = s.ports := rfl
@[simp] theorem State.aosWrite_cmpt (a : Nat) (l : List Byte) : (s.aosWrite a l).cmpt = s.cmpt := rfl
@[simp] theorem State.aosWrite_share (a : Nat) (l : List Byte) : (s.aosWrite a l).share = s.share := rfl
@[simp] theorem State.aosWrite_links (a : Nat) (l : List Byte) : (s.aosWrite a l).links = s.links := rfl
@[simp] theorem State.aosWrite_fleet (a : Nat) (l : List Byte) : (s.aosWrite a l).fleet = s.fleet := rfl
@[simp] theorem State.aosWrite_place (a : Nat) (l : List Byte) : (s.aosWrite a l).place = s.place := rfl
@[simp] theorem State.aosWrite_twin (a : Nat) (l : List Byte) : (s.aosWrite a l).twin = s.twin := rfl
@[simp] theorem State.aosWrite_gauge (a : Nat) (l : List Byte) : (s.aosWrite a l).gauge = s.gauge := rfl
@[simp] theorem State.aosWrite_host (a : Nat) (l : List Byte) : (s.aosWrite a l).host = s.host := rfl
@[simp] theorem State.aosWrite_upd (a : Nat) (l : List Byte) : (s.aosWrite a l).upd = s.upd := rfl
@[simp] theorem State.aosWrite_flashOp (a : Nat) (l : List Byte) : (s.aosWrite a l).flashOp = s.flashOp := rfl
@[simp] theorem State.aosWrite_nvdOp (a : Nat) (l : List Byte) : (s.aosWrite a l).nvdOp = s.nvdOp := rfl
@[simp] theorem State.aosWrite_otpOp (a : Nat) (l : List Byte) : (s.aosWrite a l).otpOp = s.otpOp := rfl
@[simp] theorem State.aosWrite_fresh (a : Nat) (l : List Byte) : (s.aosWrite a l).fresh = s.fresh := rfl

/-! ### `stWrite` -/

@[simp] theorem State.stWrite_pending (a : Nat) (l : List Byte) : (s.stWrite a l).pending = s.pending := rfl
@[simp] theorem State.stWrite_tick (a : Nat) (l : List Byte) : (s.stWrite a l).tick = s.tick := rfl
@[simp] theorem State.stWrite_sticky (a : Nat) (l : List Byte) : (s.stWrite a l).sticky = s.sticky := rfl
@[simp] theorem State.stWrite_regs (a : Nat) (l : List Byte) : (s.stWrite a l).regs = s.regs := rfl
@[simp] theorem State.stWrite_inForce (a : Nat) (l : List Byte) : (s.stWrite a l).inForce = s.inForce := rfl
@[simp] theorem State.stWrite_snaps (a : Nat) (l : List Byte) : (s.stWrite a l).snaps = s.snaps := rfl
@[simp] theorem State.stWrite_shadow (a : Nat) (l : List Byte) : (s.stWrite a l).shadow = s.shadow := rfl
@[simp] theorem State.stWrite_readData (a : Nat) (l : List Byte) : (s.stWrite a l).readData = s.readData := rfl
@[simp] theorem State.stWrite_aos (a : Nat) (l : List Byte) : (s.stWrite a l).aos = s.aos := rfl
@[simp] theorem State.stWrite_nvd (a : Nat) (l : List Byte) : (s.stWrite a l).nvd = s.nvd := rfl
@[simp] theorem State.stWrite_code (a : Nat) (l : List Byte) : (s.stWrite a l).code = s.code := rfl
@[simp] theorem State.stWrite_iram (a : Nat) (l : List Byte) : (s.stWrite a l).iram = s.iram := rfl
@[simp] theorem State.stWrite_otp (a : Nat) (l : List Byte) : (s.stWrite a l).otp = s.otp := rfl
@[simp] theorem State.stWrite_otpMargin (a : Nat) (l : List Byte) : (s.stWrite a l).otpMargin = s.otpMargin := rfl
@[simp] theorem State.stWrite_part (a : Nat) (l : List Byte) : (s.stWrite a l).part = s.part := rfl
@[simp] theorem State.stWrite_pins (a : Nat) (l : List Byte) : (s.stWrite a l).pins = s.pins := rfl
@[simp] theorem State.stWrite_phase (a : Nat) (l : List Byte) : (s.stWrite a l).phase = s.phase := rfl
@[simp] theorem State.stWrite_rst (a : Nat) (l : List Byte) : (s.stWrite a l).rst = s.rst := rfl
@[simp] theorem State.stWrite_boot (a : Nat) (l : List Byte) : (s.stWrite a l).boot = s.boot := rfl
@[simp] theorem State.stWrite_aon (a : Nat) (l : List Byte) : (s.stWrite a l).aon = s.aon := rfl
@[simp] theorem State.stWrite_mains (a : Nat) (l : List Byte) : (s.stWrite a l).mains = s.mains := rfl
@[simp] theorem State.stWrite_dbg (a : Nat) (l : List Byte) : (s.stWrite a l).dbg = s.dbg := rfl
@[simp] theorem State.stWrite_gpio (a : Nat) (l : List Byte) : (s.stWrite a l).gpio = s.gpio := rfl
@[simp] theorem State.stWrite_plcr (a : Nat) (l : List Byte) : (s.stWrite a l).plcr = s.plcr := rfl
@[simp] theorem State.stWrite_engs (a : Nat) (l : List Byte) : (s.stWrite a l).engs = s.engs := rfl
@[simp] theorem State.stWrite_ports (a : Nat) (l : List Byte) : (s.stWrite a l).ports = s.ports := rfl
@[simp] theorem State.stWrite_cmpt (a : Nat) (l : List Byte) : (s.stWrite a l).cmpt = s.cmpt := rfl
@[simp] theorem State.stWrite_share (a : Nat) (l : List Byte) : (s.stWrite a l).share = s.share := rfl
@[simp] theorem State.stWrite_links (a : Nat) (l : List Byte) : (s.stWrite a l).links = s.links := rfl
@[simp] theorem State.stWrite_fleet (a : Nat) (l : List Byte) : (s.stWrite a l).fleet = s.fleet := rfl
@[simp] theorem State.stWrite_place (a : Nat) (l : List Byte) : (s.stWrite a l).place = s.place := rfl
@[simp] theorem State.stWrite_twin (a : Nat) (l : List Byte) : (s.stWrite a l).twin = s.twin := rfl
@[simp] theorem State.stWrite_gauge (a : Nat) (l : List Byte) : (s.stWrite a l).gauge = s.gauge := rfl
@[simp] theorem State.stWrite_host (a : Nat) (l : List Byte) : (s.stWrite a l).host = s.host := rfl
@[simp] theorem State.stWrite_upd (a : Nat) (l : List Byte) : (s.stWrite a l).upd = s.upd := rfl
@[simp] theorem State.stWrite_flashOp (a : Nat) (l : List Byte) : (s.stWrite a l).flashOp = s.flashOp := rfl
@[simp] theorem State.stWrite_nvdOp (a : Nat) (l : List Byte) : (s.stWrite a l).nvdOp = s.nvdOp := rfl
@[simp] theorem State.stWrite_otpOp (a : Nat) (l : List Byte) : (s.stWrite a l).otpOp = s.otpOp := rfl
@[simp] theorem State.stWrite_fresh (a : Nat) (l : List Byte) : (s.stWrite a l).fresh = s.fresh := rfl

/-! ### What an update does name -/

@[simp] theorem State.setTick_tick (v : Nat) : (s.setTick v).tick = v % 2 ^ 48 := rfl
@[simp] theorem State.stickySet_sticky (v : Nat) : (s.stickySet v).sticky = s.sticky ||| BitVec.ofNat 6 v := rfl
@[simp] theorem State.freshen_fresh : s.freshen.fresh = s.fresh + 1 := rfl

end Sys2Proof.Machine
end

