-- ==== Sys2Proof/Laws/Regs.lean ====
section
/-!
SUPPORT. The register file: a register or a field reads back what was written to it, and every other one keeps its value.
-/

set_option Elab.async false

namespace Sys2Proof.Machine

variable {s t u : State}

/-! ### Keys -/

/-- Registers of different pages have different keys. -/
theorem regKey_ne_page {pg pg' off off' : Nat} (h : pg ≠ pg') (ho : off < 256) (ho' : off' < 256) : regKey pg off ≠ regKey pg' off' := by
  unfold regKey; omega

/-- Registers at different words of a page have different keys. -/
theorem regKey_ne_off {pg off off' : Nat} (h : off / 4 ≠ off' / 4) : regKey pg off ≠ regKey pg off' := by
  unfold regKey; omega

/-! ### Words -/

@[simp] theorem State.rd_wr_same (s : State) (pg off : Nat) (v : Word) : (s.wr pg off v).rd pg off = v := Sparse.get_set_same _ _ _ _

/-- A register of another key keeps its value. -/
theorem State.rd_wr_ne (s : State) {pg off pg' off' : Nat} (v : Word) (h : regKey pg' off' ≠ regKey pg off) :
    (s.wr pg off v).rd pg' off' = s.rd pg' off' := Sparse.get_set_ne _ _ _ h

/-- A register of another page keeps its value. -/
theorem State.rd_wr_page (s : State) {pg off pg' off' : Nat} (v : Word) (h : pg' ≠ pg) (ho : off < 256) (ho' : off' < 256) :
    (s.wr pg off v).rd pg' off' = s.rd pg' off' := s.rd_wr_ne v (regKey_ne_page h ho' ho)

/-! ### Fields -/

/-- A field of at most 32 bits reads back what was written to it, cut to its width. -/
theorem State.fld_put_same (s : State) (pg : Nat) (f : Fld) (v : Nat) (hw : f.lo + f.w ≤ 32) : (s.put pg f v).fld pg f = v % 2 ^ f.w := by
  unfold State.fld State.put
  rw [State.rd_wr_same, BitVec.toNat_ofNat, Nat.mod_eq_of_lt (setBits_lt (s.rd pg f.off).isLt hw), bitsOf_setBits]

/-- A field of another word keeps its value. -/
theorem State.fld_put_ne (s : State) {pg pg' : Nat} {f g : Fld} (v : Nat) (h : regKey pg' g.off ≠ regKey pg f.off) :
    (s.put pg f v).fld pg' g = s.fld pg' g := by
  unfold State.fld State.put
  rw [State.rd_wr_ne _ _ h]

/-- A field of the same word that shares no bit keeps its value. -/
theorem State.fld_put_disj (s : State) (pg : Nat) {f g : Fld} (v : Nat) (ho : g.off = f.off) (hw : f.lo + f.w ≤ 32)
    (h : g.lo + g.w ≤ f.lo ∨ f.lo + f.w ≤ g.lo) : (s.put pg f v).fld pg g = s.fld pg g := by
  unfold State.fld State.put
  rw [ho, State.rd_wr_same, BitVec.toNat_ofNat, Nat.mod_eq_of_lt (setBits_lt (s.rd pg f.off).isLt hw)]
  rcases h with h | h
  · exact bitsOf_setBits_below _ _ _ _ h
  · exact bitsOf_setBits_above _ _ _ _ h

/-- A register of another key keeps its value when a field is written. -/
theorem State.rd_put_ne (s : State) {pg pg' off' : Nat} {f : Fld} (v : Nat) (h : regKey pg' off' ≠ regKey pg f.off) :
    (s.put pg f v).rd pg' off' = s.rd pg' off' := State.rd_wr_ne _ _ h

/-! ### Events -/

/-- A register of another key keeps its value when an event is raised. -/
theorem State.rd_raise_ne (s : State) {pg pg' off' : Nat} (f : Fld) (h : regKey pg' off' ≠ regKey pg 0x10) : (s.raise pg f).rd pg' off' = s.rd pg' off' :=
  State.rd_wr_ne _ _ h

theorem State.fld_raise_ne (s : State) {pg pg' : Nat} (f : Fld) {g : Fld} (h : regKey pg' g.off ≠ regKey pg 0x10) :
    (s.raise pg f).fld pg' g = s.fld pg' g := by
  unfold State.fld
  rw [State.rd_raise_ne _ _ h]

/-- An event raised reads 1. -/
theorem State.flag_raise (s : State) (pg : Nat) (f : Fld) (ho : f.off = 0x10) (hw : f.w = 1) (hl : f.lo < 31) : (s.raise pg f).flag pg f = true := by
  have bit : ∀ m : BitVec 32, m.getLsbD f.lo = true → bitsOf m.toNat f.lo 1 = 1 := by
    intro m hm
    unfold bitsOf
    have : m.toNat.testBit f.lo = true := by simpa [BitVec.getLsbD] using hm
    rw [Nat.testBit_eq_decide_div_mod_eq] at this
    simpa using this
  have key : bitsOf ((s.raise pg f).rd pg 0x10).toNat f.lo 1 = 1 := by
    apply bit
    unfold State.raise State.raiseBits
    rw [State.rd_wr_same]
    rw [BitVec.getLsbD_ofNat]
    have hb : (((s.rd pg 0x10).toNat ||| 2 ^ f.lo).testBit f.lo) = true := by simp
    have h32 : decide (f.lo < 32) = true := by simp; omega
    rw [h32, Bool.true_and]
    split
    · exact hb
    · rw [Nat.testBit_or, hb, Bool.true_or]
  unfold State.flag State.fld
  rw [ho, hw, key]; rfl

/-! ### One-bit fields -/

theorem State.flag_put_same (s : State) (pg : Nat) (f : Fld) (v : Nat) (hw : f.lo + f.w ≤ 32) : (s.put pg f v).flag pg f = (v % 2 ^ f.w != 0) := by
  unfold State.flag; rw [State.fld_put_same _ _ _ _ hw]

theorem State.flag_put_ne (s : State) {pg pg' : Nat} {f g : Fld} (v : Nat) (h : regKey pg' g.off ≠ regKey pg f.off) :
    (s.put pg f v).flag pg' g = s.flag pg' g := by
  unfold State.flag; rw [State.fld_put_ne _ _ h]

theorem State.flag_put_disj (s : State) (pg : Nat) {f g : Fld} (v : Nat) (ho : g.off = f.off) (hw : f.lo + f.w ≤ 32)
    (h : g.lo + g.w ≤ f.lo ∨ f.lo + f.w ≤ g.lo) : (s.put pg f v).flag pg g = s.flag pg g := by
  unfold State.flag; rw [State.fld_put_disj _ _ _ ho hw h]

theorem State.flag_raise_ne (s : State) {pg pg' : Nat} (f : Fld) {g : Fld} (h : regKey pg' g.off ≠ regKey pg 0x10) :
    (s.raise pg f).flag pg' g = s.flag pg' g := by
  unfold State.flag; rw [State.fld_raise_ne _ _ h]

/-- A word written reads back in its fields. -/
theorem State.fld_wr_same (s : State) (pg : Nat) (f : Fld) (v : Word) : (s.wr pg f.off v).fld pg f = bitsOf v.toNat f.lo f.w := by
  unfold State.fld; rw [State.rd_wr_same]

theorem State.fld_wr_ne (s : State) {pg pg' off : Nat} {g : Fld} (v : Word) (h : regKey pg' g.off ≠ regKey pg off) :
    (s.wr pg off v).fld pg' g = s.fld pg' g := by
  unfold State.fld; rw [State.rd_wr_ne _ _ h]

theorem State.flag_wr_ne (s : State) {pg pg' off : Nat} {g : Fld} (v : Word) (h : regKey pg' g.off ≠ regKey pg off) :
    (s.wr pg off v).flag pg' g = s.flag pg' g := by
  unfold State.flag; rw [State.fld_wr_ne _ _ h]

/-! ### Fields and updates of other parts of the state -/

theorem State.rd_ofRegs {s t : State} (e : t.regs = s.regs) (pg off : Nat) : t.rd pg off = s.rd pg off := by unfold State.rd; rw [e]

theorem State.fld_ofRegs {s t : State} (e : t.regs = s.regs) (pg : Nat) (f : Fld) : t.fld pg f = s.fld pg f := by
  unfold State.fld; rw [State.rd_ofRegs e]

theorem State.flag_ofRegs {s t : State} (e : t.regs = s.regs) (pg : Nat) (f : Fld) : t.flag pg f = s.flag pg f := by
  unfold State.flag; rw [State.fld_ofRegs e]

end Sys2Proof.Machine
end

