-- ==== Sys2Proof/Laws/Same.lean ====
section
/-!
SUPPORT. `Same`: the register file is as before but for named registers; the rules by which it passes through updates, conditionals and loops.
-/

set_option Elab.async false

namespace Sys2Proof.Machine

/-- Registers of `P`, by page and offset, aside, the register file is as before. -/
def Same (P : Nat → Nat → Prop) (s t : State) : Prop :=
  ∀ k, (∀ pg off, P pg off → regKey pg off ≠ k) → Sparse.get resetWord t.regs k = Sparse.get resetWord s.regs k

/-- The same of an operation that may answer nothing. -/
def SameO (P : Nat → Nat → Prop) (r : State) (o : Option State) : Prop := ∀ t, o = some t → Same P r t

/-- A command answers a next state that differs from `r` in the registers of `P` alone. -/
def Touches (P : Nat → Nat → Prop) (r : State) (o : Host.Outcome State Fault Refusal) : Prop := ∃ t, o = .next t ∧ Same P r t

variable {P : Nat → Nat → Prop} {s0 s t : State}

theorem Same.refl (P : Nat → Nat → Prop) (s : State) : Same P s s := fun _ _ => rfl

theorem Same.trans (h : Same P s0 s) (g : Same P s t) : Same P s0 t := fun k hk => (g k hk).trans (h k hk)

theorem Same.mk' (h : Same P s0 s) {pending tick sticky inForce snaps shadow rd store aos nvd code iram otp om part pins phase rst boot aon mains dbg gpio plcr st engs ports cmpt share
    links fleet place twin gauge host upd fo no oo fresh} : Same P s0 (State.mk pending tick sticky s.regs inForce snaps shadow rd store aos nvd code iram otp om part pins
      phase rst boot aon mains dbg gpio plcr st engs ports cmpt share links fleet place twin gauge host upd fo no oo fresh) := h

theorem State.wr_same (pg off : Nat) (v : Word) (h : Same P s0 s) (g : P pg off) : Same P s0 (s.wr pg off v) := fun k hk =>
  (Sparse.get_set_ne _ _ _ (Ne.symm (hk pg off g))).trans (h k hk)

theorem State.modEng_same (k : Engine) (f : EngSt → EngSt) (h : Same P s0 s) : Same P s0 (s.modEng k f) := h

theorem Touches.next (h : Same P s0 s) : Touches P s0 (.next s) := ⟨s, rfl, h⟩

theorem Same.ite {c : Prop} [Decidable c] {a b : State} (ha : c → Same P s0 a) (hb : ¬c → Same P s0 b) : Same P s0 (if c then a else b) := by
  split
  · exact ha ‹_›
  · exact hb ‹_›

theorem Same.dite {c : Prop} [Decidable c] {a : c → State} {b : ¬c → State} (ha : ∀ x, Same P s0 (a x)) (hb : ∀ x, Same P s0 (b x)) :
    Same P s0 (if x : c then a x else b x) := by
  split
  · exact ha ‹_›
  · exact hb ‹_›

theorem Same.iteFst {α : Type} {c : Prop} [Decidable c] {a b : State × α} (ha : c → Same P s0 a.1) (hb : ¬c → Same P s0 b.1) :
    Same P s0 (if c then a else b).1 := by
  split
  · exact ha ‹_›
  · exact hb ‹_›

theorem Same.iteSnd {α : Type} {c : Prop} [Decidable c] {a b : α × State} (ha : c → Same P s0 a.2) (hb : ¬c → Same P s0 b.2) :
    Same P s0 (if c then a else b).2 := by
  split
  · exact ha ‹_›
  · exact hb ‹_›

theorem Same.mkFst {α : Type} {a : α} (h : Same P s0 s) : Same P s0 (s, a).1 := h

theorem Same.mkSnd {α : Type} {a : α} (h : Same P s0 s) : Same P s0 (a, s).2 := h

theorem Same.ofEq {α : Type} {p q : State × α} (e : p = q) (h : Same P s0 q.1) : Same P s0 p.1 := e ▸ h

theorem Same.fst {α : Type} {p : State × α} {a : α} (e : p = (s, a)) (h : Same P s0 p.1) : Same P s0 s := by
  rw [e] at h; exact h

theorem Same.snd {α : Type} {p : α × State} {a : α} (e : p = (a, s)) (h : Same P s0 p.2) : Same P s0 s := by
  rw [e] at h; exact h

theorem SameO.none : SameO P s0 none := fun _ e => nomatch e

theorem SameO.some (h : Same P s0 s) : SameO P s0 (some s) := fun _ e => Option.some.inj e ▸ h

theorem SameO.get {o : Option State} (h : SameO P s0 o) (e : o = Option.some s) : Same P s0 s := h s e

theorem SameO.ite {c : Prop} [Decidable c] {a b : Option State} (ha : c → SameO P s0 a) (hb : ¬c → SameO P s0 b) :
    SameO P s0 (if c then a else b) := by
  split
  · exact ha ‹_›
  · exact hb ‹_›

theorem Touches.ite {c : Prop} [Decidable c] {a b : Host.Outcome State Fault Refusal} (ha : c → Touches P s0 a) (hb : ¬c → Touches P s0 b) :
    Touches P s0 (if c then a else b) := by
  split
  · exact ha ‹_›
  · exact hb ‹_›

theorem State.when_same (b : Bool) {f : State → State} (h : Same P s0 s) (hf : ∀ s, Same P s0 s → Same P s0 (f s)) : Same P s0 (s.when b f) := by
  unfold State.when; split
  · exact hf s h
  · exact h

theorem foldl_same {α : Type} {f : State → α → State} (l : List α) (h : Same P s0 s) (hf : ∀ s x, x ∈ l → Same P s0 s → Same P s0 (f s x)) :
    Same P s0 (l.foldl f s) := by
  induction l generalizing s with
  | nil => exact h
  | cons a l ih => exact ih (hf s a List.mem_cons_self h) fun s x m => hf s x (List.mem_cons_of_mem _ m)

theorem State.forPorts_same {f : State → Port → State} (h : Same P s0 s) (hf : ∀ s x, Same P s0 s → Same P s0 (f s x)) :
    Same P s0 (s.forPorts f) := foldl_same _ h fun s x _ => hf s x

theorem State.forEngines_same {f : State → Engine → State} (h : Same P s0 s) (hf : ∀ s x, Same P s0 s → Same P s0 (f s x)) :
    Same P s0 (s.forEngines f) := foldl_same _ h fun s x _ => hf s x

theorem SameO.or {a b : Option State} (ha : SameO P s0 a) (hb : SameO P s0 b) : SameO P s0 (a.or b) := by
  cases a with
  | none => exact hb
  | some t => exact ha


end Sys2Proof.Machine
end

