-- ==== Sys2Proof/Laws/SameStores.lean ====
section
/-!
SUPPORT. `Same` over the operations of the central store and its tasks, flash, OTP, events: one lemma per operation.
-/

set_option Elab.async false

namespace Sys2Proof.Machine

variable {P : Nat → Nat → Prop} {s0 s : State}

theorem State.put_same (pg : ℕ) (f : Fld) (v : ℕ) (hk : Same P s0 s) (gp1_f2 : P pg f.off) : Same P s0 (State.put s pg f v) := by
  unfold State.put
  exact State.wr_same _ _ _ hk gp1_f2

theorem State.putB_same (pg : ℕ) (f : Fld) (b : Bool) (hk : Same P s0 s) (gp1_f2 : P pg f.off) : Same P s0 (State.putB s pg f b) := by
  unfold State.putB
  exact State.put_same _ _ _ hk gp1_f2

theorem State.bump_same (pg : ℕ) (f : Fld) (n : ℕ) (hk : Same P s0 s) (gp1_f2 : P pg f.off) : Same P s0 (State.bump s pg f n) := by
  unfold State.bump
  exact State.put_same _ _ _ hk gp1_f2

theorem State.incr_same (pg : ℕ) (f : Fld) (hk : Same P s0 s) (gp1_f2 : P pg f.off) : Same P s0 (State.incr s pg f) := by
  unfold State.incr
  exact State.put_same _ _ _ hk gp1_f2

theorem State.putInf_same (pg : ℕ) (f : Fld) (v : ℕ) (hk : Same P s0 s) : Same P s0 (State.putInf s pg f v) := by
  unfold State.putInf
  extract_lets -merge -underBinder +onlyGivenNames x0 x1
  exact Same.mk' hk

theorem State.freshen_same (hk : Same P s0 s) : Same P s0 (State.freshen s) := by
  unfold State.freshen
  exact Same.mk' hk

theorem State.raiseBits_same (pg : ℕ) (m : ℕ) (hk : Same P s0 s) (gp1_16 : P pg 16) : Same P s0 (State.raiseBits s pg m) := by
  unfold State.raiseBits
  extract_lets -merge -underBinder +onlyGivenNames x0 x1
  exact State.wr_same _ _ _ hk gp1_16

theorem State.raise_same (pg : ℕ) (f : Fld) (hk : Same P s0 s) (gp1_16 : P pg 16) : Same P s0 (State.raise s pg f) := by
  unfold State.raise
  exact State.raiseBits_same _ _ hk gp1_16

theorem State.raiseIf_same (b : Bool) (pg : ℕ) (f : Fld) (hk : Same P s0 s) (gp2_16 : P pg 16) : Same P s0 (State.raiseIf s b pg f) := by
  unfold State.raiseIf
  exact Same.ite (fun _ => State.raise_same _ _ hk gp2_16) (fun _ => hk)

theorem State.lockedWrite_same (pg : ℕ) (hk : Same P s0 s) (gp1_16 : P pg 16) : Same P s0 (State.lockedWrite s pg) := by
  unfold State.lockedWrite
  exact State.raise_same _ _ hk gp1_16

theorem State.stWrite_same (a : ℕ) (bs : List Byte) (hk : Same P s0 s) : Same P s0 (State.stWrite s a bs) := by
  unfold State.stWrite
  extract_lets -merge -underBinder +onlyGivenNames x0 x1 x2
  exact Same.mk' hk

theorem State.stPut_same (a : ℕ) (n : ℕ) (v : ℕ) (hk : Same P s0 s) : Same P s0 (State.stPut s a n v) := by
  unfold State.stPut
  exact State.stWrite_same _ _ hk

theorem State.stRecord_same (a : ℕ) (body : List Byte) (hk : Same P s0 s) : Same P s0 (State.stRecord s a body) := by
  unfold State.stRecord
  exact State.stWrite_same _ _ hk

theorem State.aosWrite_same (a : ℕ) (bs : List Byte) (hk : Same P s0 s) : Same P s0 (State.aosWrite s a bs) := by
  unfold State.aosWrite
  exact Same.mk' hk

theorem State.aosPut_same (a : ℕ) (n : ℕ) (v : ℕ) (hk : Same P s0 s) : Same P s0 (State.aosPut s a n v) := by
  unfold State.aosPut
  exact State.aosWrite_same _ _ hk

theorem State.setTick_same (t : ℕ) (hk : Same P s0 s) : Same P s0 (State.setTick s t) := by
  unfold State.setTick
  exact Same.mk' hk

theorem State.stickySet_same (v : ℕ) (hk : Same P s0 s) : Same P s0 (State.stickySet s v) := by
  unfold State.stickySet
  exact Same.mk' hk

theorem State.modPort_same (n : Port) (f : PortSt → PortSt) (hk : Same P s0 s) : Same P s0 (State.modPort s n f) := by
  unfold State.modPort
  exact Same.mk' hk

theorem State.keyed_same (pg : ℕ) (key : ℕ) (want : ℕ) {f : State → State} (hk : Same P s0 s) (hf : ∀ a0, Same P s0 a0 → Same P s0 (f a0)) (gp1_16 : P pg 16) : Same P s0 (State.keyed s pg key want f) := by
  unfold State.keyed
  refine Same.ite (fun _ => ?_) (fun _ => ?_)
  · refine hf _ ?_
    exact hk
  · exact State.lockedWrite_same _ hk gp1_16

theorem State.cmd_same (pg : ℕ) {f : State → State} (hk : Same P s0 s) (hf : ∀ a0, Same P s0 a0 → Same P s0 (f a0)) : Same P s0 (State.cmd s pg f) := by
  unfold State.cmd
  refine Same.ite (fun _ => ?_) (fun _ => ?_)
  · refine hf _ ?_
    exact hk
  · exact hk

theorem State.keyCmd_same (pg : ℕ) (key : ℕ) (want : ℕ) {f : State → State} (hk : Same P s0 s) (hf : ∀ a0, Same P s0 a0 → Same P s0 (f a0)) (gp1_16 : P pg 16) : Same P s0 (State.keyCmd s pg key want f) := by
  unfold State.keyCmd
  refine State.cmd_same _ ?_ ?_
  · exact hk
  · intro s0_0 hs0_1
    refine State.keyed_same _ _ _ ?_ ?_ gp1_16
    · exact hs0_1
    · intro s1_0 hs1_1
      refine hf _ ?_
      exact hs1_1

theorem State.setSpare_same (j : ℕ) (seg : ℕ) (hk : Same P s0 s) (gBANK_any : ∀ o, o < 256 → P pBANK o) : Same P s0 (State.setSpare s j seg) := by
  unfold State.setSpare
  exact State.put_same _ _ _ hk (gBANK_any _ (by (try simp only [List.mem_range, List.mem_cons, List.not_mem_nil, or_false] at hm); (try simp only [Fld.at]); omega))

theorem State.bankRetire_same (b : ℕ) (hk : Same P s0 s) (gBANK_32 : P pBANK 32) (gSTORE_12 : P pSTORE 12) (gBANK_44 : P pBANK 44) : Same P s0 (State.bankRetire s b) := by
  unfold State.bankRetire
  extract_lets -merge -underBinder +onlyGivenNames x0
  have hx0 : Same P s0 x0 := State.put_same _ _ _ hk gBANK_32
  try clear_value x0
  extract_lets -merge -underBinder +onlyGivenNames x1
  have hx1 : Same P s0 x1 := State.put_same _ _ _ (State.incr_same _ _ hx0 gSTORE_12) gSTORE_12
  try clear_value x1
  extract_lets -merge -underBinder +onlyGivenNames x2
  have hx2 : Same P s0 x2 := State.put_same _ _ _ hx1 gBANK_44
  try clear_value x2
  exact Same.mk' hx2

theorem State.bankFaulty_same (b : ℕ) (hk : Same P s0 s) (gSTORE_16 : P pSTORE 16) (gBANK_36 : P pBANK 36) (gSTORE_12 : P pSTORE 12) (gBANK_32 : P pBANK 32) (gBANK_44 : P pBANK 44) : Same P s0 (State.bankFaulty s b) := by
  unfold State.bankFaulty
  extract_lets -merge -underBinder +onlyGivenNames x0
  have hx0 : Same P s0 x0 := State.raise_same _ _ (State.put_same _ _ _ hk gBANK_36) gSTORE_16
  try clear_value x0
  exact Same.ite (fun _ => hk) (fun _ => Same.ite (fun _ => hx0) (fun _ => Same.ite (fun _ => State.raise_same _ _ (State.put_same _ _ _ hx0 gSTORE_12) gSTORE_16) (fun _ => Same.ite (fun _ => hx0) (fun _ => State.bankRetire_same _ hx0 gBANK_32 gSTORE_12 gBANK_44))))

theorem State.watchAdd_same (w : ℕ) (hk : Same P s0 s) (gBANK_any : ∀ o, o < 256 → P pBANK o) (gSTORE_16 : P pSTORE 16) (gSTORE_48 : P pSTORE 48) : Same P s0 (State.watchAdd s w) := by
  unfold State.watchAdd
  extract_lets -merge -underBinder +onlyGivenNames x0 x1 x2 x3
  have hx3 : Same P s0 x3 := Same.mk' hk
  try clear_value x3
  extract_lets -merge -underBinder +onlyGivenNames x4
  have hx4 : Same P s0 x4 := State.bump_same _ _ _ (State.raiseIf_same _ _ _ hx3 gSTORE_16) (gBANK_any _ (by (try simp only [List.mem_range, List.mem_cons, List.not_mem_nil, or_false] at hm); simp only [Fld.at, BANK.ERRS_WATCH, State.wordBank]; omega))
  try clear_value x4
  exact State.put_same _ _ _ hx4 gSTORE_48

theorem State.storeParity_same (req : ℕ) (w : ℕ) (hk : Same P s0 s) (gSTORE_16 : P pSTORE 16) (gSTORE_40 : P pSTORE 40) (gSTORE_44 : P pSTORE 44) (gBANK_any : ∀ o, o < 256 → P pBANK o) (gSTORE_48 : P pSTORE 48) (gSTORE_12 : P pSTORE 12) : Same P s0 (State.storeParity s req w) := by
  unfold State.storeParity
  extract_lets -merge -underBinder +onlyGivenNames x0
  have hx0 : Same P s0 x0 := State.raise_same _ _ hk gSTORE_16
  try clear_value x0
  extract_lets -merge -underBinder +onlyGivenNames x1
  have hx1 : Same P s0 x1 := State.bump_same _ _ _ hx0 (by split <;> with_reducible first | assumption | apply_assumption)
  try clear_value x1
  extract_lets -merge -underBinder +onlyGivenNames x2
  have hx2 : Same P s0 x2 := State.put_same _ _ _ (State.put_same _ _ _ hx1 gSTORE_44) gSTORE_44
  try clear_value x2
  extract_lets -merge -underBinder +onlyGivenNames x3
  have hx3 : Same P s0 x3 := State.bump_same _ _ _ hx2 (gBANK_any _ (by (try simp only [List.mem_range, List.mem_cons, List.not_mem_nil, or_false] at hm); simp only [Fld.at, BANK.ERRS_PARITY, State.wordBank]; omega))
  try clear_value x3
  split
  · exact State.watchAdd_same _ hx3 (fun o ho => gBANK_any o ho) gSTORE_16 gSTORE_48
  · exact Same.ite (fun _ => State.watchAdd_same _ (Same.mk' hx3) (fun o ho => gBANK_any o ho) gSTORE_16 gSTORE_48) (fun _ => Same.ite (fun _ => State.bankFaulty_same _ hx3 gSTORE_16 (gBANK_any _ (by decide)) gSTORE_12 (gBANK_any _ (by decide)) (gBANK_any _ (by decide))) (fun _ => hx3))

theorem State.stNote_same (req : ℕ) (a : ℕ) (n : ℕ) (hk : Same P s0 s) (gSTORE_16 : P pSTORE 16) (gSTORE_40 : P pSTORE 40) (gSTORE_44 : P pSTORE 44) (gBANK_any : ∀ o, o < 256 → P pBANK o) (gSTORE_48 : P pSTORE 48) (gSTORE_12 : P pSTORE 12) : Same P s0 (State.stNote s req a n) := by
  unfold State.stNote
  extract_lets -merge -underBinder +onlyGivenNames x0
  exact foldl_same _ hk (fun _ _ _ h1 => State.storeParity_same _ _ h1 gSTORE_16 gSTORE_40 gSTORE_44 (fun o ho => gBANK_any o ho) gSTORE_48 gSTORE_12)

theorem State.stSpoil_same (b : ℕ) (hk : Same P s0 s) : Same P s0 (State.stSpoil s b) := by
  unfold State.stSpoil
  exact Same.ite (fun _ => hk) (fun _ => Same.mk' hk)

theorem State.segMove_same (c : ℕ × ℕ) (hk : Same P s0 s) (gBANK_any : ∀ o, o < 256 → P pBANK o) : Same P s0 (State.segMove s c) := by
  unfold State.segMove
  split
  · exact hk
  · extract_lets -merge -underBinder +onlyGivenNames x0
    have hx0 : Same P s0 x0 := Same.ite (fun _ => State.setSpare_same _ _ hk (fun o ho => gBANK_any o ho)) (fun _ => hk)
    try clear_value x0
    exact State.setSpare_same _ _ hx0 (fun o ho => gBANK_any o ho)

theorem State.migrate_same (b : ℕ) (hk : Same P s0 s) (gBANK_any : ∀ o, o < 256 → P pBANK o) (gSTORE_16 : P pSTORE 16) (gSTORE_12 : P pSTORE 12) : Same P s0 (State.migrate s b) := by
  unfold State.migrate
  extract_lets -merge -underBinder +onlyGivenNames x0
  have hx0 : Same P s0 x0 := foldl_same _ hk (fun _ _ _ h1 => State.segMove_same _ h1 (fun o ho => gBANK_any o ho))
  try clear_value x0
  extract_lets -merge -underBinder +onlyGivenNames x2
  have hx2 : Same P s0 x2 := State.raise_same _ _ (State.put_same _ _ _ hx0 gSTORE_12) gSTORE_16
  try clear_value x2
  extract_lets -merge -underBinder +onlyGivenNames x3
  have hx3 : Same P s0 x3 := State.put_same _ _ _ hx2 (gBANK_any _ (by decide))
  try clear_value x3
  exact Same.mk' hx3

theorem State.bankCmd_same (b : ℕ) (hk : Same P s0 s) (gBANK_44 : P pBANK 44) (gBANK_32 : P pBANK 32) (gSTORE_12 : P pSTORE 12) : Same P s0 (State.bankCmd s b) := by
  unfold State.bankCmd
  exact Same.ite (fun _ => State.put_same _ _ _ hk gBANK_44) (fun _ => Same.ite (fun _ => State.put_same _ _ _ hk gBANK_44) (fun _ => Same.ite (fun _ => State.put_same _ _ _ hk gBANK_44) (fun _ => State.put_same _ _ _ (State.bankRetire_same _ hk gBANK_32 gSTORE_12 gBANK_44) gBANK_44)))

theorem State.setDescState_same (slot : ℕ) (code : ℕ) (hk : Same P s0 s) : Same P s0 (State.setDescState s slot code) := by
  unfold State.setDescState
  exact State.stPut_same _ _ _ hk

theorem State.setDescBit_same (slot : ℕ) (bit : ℕ) (b : Bool) (hk : Same P s0 s) : Same P s0 (State.setDescBit s slot bit b) := by
  unfold State.setDescBit
  exact State.stPut_same _ _ _ hk

theorem State.post_same (slot : ℕ) (d : Desc) (hk : Same P s0 s) : Same P s0 (State.post s slot d) := by
  unfold State.post
  extract_lets -merge -underBinder +onlyGivenNames x0 x1
  have hx1 : Same P s0 x1 := State.stPut_same _ _ _ (State.stWrite_same _ _ hk)
  try clear_value x1
  exact Same.mk' hx1

theorem State.postTask_same (slot : ℕ) (cls : ℕ) (port : Port) (valid : Bool) (flash : Bool) (task : ℕ) (arg : ℕ) (affinity : ℕ) (hk : Same P s0 s) : Same P s0 (State.postTask s slot cls port valid flash task arg affinity) := by
  unfold State.postTask
  exact Same.ite (fun _ => hk) (fun _ => State.post_same _ _ hk)

theorem State.postGlobal_same (slot : ℕ) (cls : ℕ) (flash : Bool) (task : ℕ) (arg : ℕ) (hk : Same P s0 s) : Same P s0 (State.postGlobal s slot cls flash task arg) := by
  unfold State.postGlobal
  exact State.postTask_same _ _ _ _ _ _ _ _ hk

theorem State.postPort_same (slot : ℕ) (cls : ℕ) (n : Port) (task : ℕ) (arg : ℕ) (hk : Same P s0 s) : Same P s0 (State.postPort s slot cls n task arg) := by
  unfold State.postPort
  exact State.postTask_same _ _ _ _ _ _ _ _ hk

theorem State.postKept_same (slot : ℕ) (cls : ℕ) (n : Port) (task : ℕ) (arg : ℕ) (hk : Same P s0 s) : Same P s0 (State.postKept s slot cls n task arg) := by
  unfold State.postKept
  exact State.postTask_same _ _ _ _ _ _ _ _ hk

theorem State.enqueue_same (slot : ℕ) (dl : Word) (head : Bool) (hk : Same P s0 s) : Same P s0 (State.enqueue s slot dl head) := by
  unfold State.enqueue
  extract_lets -merge -underBinder +onlyGivenNames x0 x1
  exact State.setDescState_same _ _ (Same.mk' hk)

theorem State.dequeue_same (slot : ℕ) (hk : Same P s0 s) : Same P s0 (State.dequeue s slot) := by
  unfold State.dequeue
  exact Same.mk' hk

theorem State.postVisible_same (slot : ℕ) (hk : Same P s0 s) : Same P s0 (State.postVisible s slot) := by
  unfold State.postVisible
  extract_lets -merge -underBinder +onlyGivenNames x0
  exact Same.ite (fun _ => State.setDescBit_same _ _ _ hk) (fun _ => State.enqueue_same _ _ _ hk)

theorem State.wakeWaiting_same (hk : Same P s0 s) : Same P s0 (State.wakeWaiting s) := by
  unfold State.wakeWaiting
  refine foldl_same _ ?_ ?_
  · exact hk
  · intro s0_0 s0_1 hm hs0_1
    extract_lets -merge -underBinder +onlyGivenNames x1
    exact Same.ite (fun _ => State.setDescState_same _ _ hs0_1) (fun _ => hs0_1)

theorem State.placerTick_same (hk : Same P s0 s) (gPLCR_48 : P pPLCR 48) (gENG_40 : ∀ m, P (pENG m) 40) : Same P s0 (State.placerTick s) := by
  unfold State.placerTick
  extract_lets -merge -underBinder +onlyGivenNames x0
  have hx0 : Same P s0 x0 := by
    unfold x0
    refine foldl_same _ ?_ ?_
    · exact hk
    · intro s1_0 s1_1 hm hs1_1
      split
      · exact hs1_1
      · exact State.postVisible_same _ (State.stPut_same _ _ _ (State.stWrite_same _ _ hs1_1))
  try clear_value x0
  extract_lets -merge -underBinder +onlyGivenNames x2
  have hx2 : Same P s0 x2 := foldl_same _ hx0 (fun _ _ _ h3 => State.postVisible_same _ h3)
  try clear_value x2
  extract_lets -merge -underBinder +onlyGivenNames x4 x5
  have hx5 : Same P s0 x5 := Same.mk' hx2
  try clear_value x5
  extract_lets -merge -underBinder +onlyGivenNames x6
  have hx6 : Same P s0 x6 := State.wakeWaiting_same hx5
  try clear_value x6
  extract_lets -merge -underBinder +onlyGivenNames x7 x8 x9
  have hx9 : Same P s0 x9 := Same.ite (fun _ => State.put_same _ _ _ hx6 gPLCR_48) (fun _ => Same.ite (fun _ => hx6) (fun _ => State.bump_same _ _ _ hx6 gPLCR_48))
  try clear_value x9
  extract_lets -merge -underBinder +onlyGivenNames x10 x11 x12
  have hx12 : Same P s0 x12 := Same.mk' hx9
  try clear_value x12
  extract_lets -merge -underBinder +onlyGivenNames x13
  have hx13 : Same P s0 x13 := State.put_same _ _ _ hx12 gPLCR_48
  try clear_value x13
  exact State.forEngines_same hx13 (fun _ _ h14 => State.modEng_same _ _ (State.put_same _ _ _ h14 (gENG_40 _)))

theorem State.engFree_same (k : Engine) (hk : Same P s0 s) (gENG_32 : P (pENG k) 32) : Same P s0 (State.engFree s k) := by
  unfold State.engFree
  exact State.put_same _ _ _ (State.modEng_same _ _ hk) gENG_32

theorem State.genDiscard_same (slot : ℕ) (hk : Same P s0 s) (gPLCR_16 : P pPLCR 16) (gPLCR_52 : P pPLCR 52) : Same P s0 (State.genDiscard s slot) := by
  unfold State.genDiscard
  exact State.raise_same _ _ (State.bump_same _ _ _ (State.setDescBit_same _ _ _ (State.setDescState_same _ _ (State.dequeue_same _ hk))) gPLCR_52) gPLCR_16

theorem State.descLost_same (slot : ℕ) (again : Bool) (hk : Same P s0 s) (gPLCR_16 : P pPLCR 16) (gPLCR_52 : P pPLCR 52) : Same P s0 (State.descLost s slot again) := by
  unfold State.descLost
  extract_lets -merge -underBinder +onlyGivenNames x0
  have hx0 : Same P s0 x0 := State.raise_same _ _ (State.bump_same _ _ _ (State.setDescBit_same _ _ _ (State.setDescState_same _ _ (State.dequeue_same _ hk))) gPLCR_52) gPLCR_16
  try clear_value x0
  exact Same.ite (fun _ => Same.mk' hx0) (fun _ => hx0)

theorem State.taskStart_same (k : Engine) (e : QEnt) (hk : Same P s0 s) (gPLCR_56 : P pPLCR 56) (gPLCR_16 : P pPLCR 16) (gENG_36 : P (pENG k) 36) (gENG_32 : P (pENG k) 32) : Same P s0 (State.taskStart s k e) := by
  unfold State.taskStart
  extract_lets -merge -underBinder +onlyGivenNames x0 x1 x2 x3 x4
  have hx4 : Same P s0 x4 := Same.ite (fun _ => State.put_same _ _ _ (State.bump_same _ _ _ (State.raise_same _ _ hk gPLCR_16) gPLCR_56) gPLCR_56) (fun _ => hk)
  try clear_value x4
  extract_lets -merge -underBinder +onlyGivenNames x5 x6 x7 x8
  have hx8 : Same P s0 x8 := State.setDescState_same _ _ (State.dequeue_same _ hx4)
  try clear_value x8
  extract_lets -merge -underBinder +onlyGivenNames x9 x10
  have hx10 : Same P s0 x10 := Same.mk' hx8
  try clear_value x10
  extract_lets -merge -underBinder +onlyGivenNames x11
  have hx11 : Same P s0 x11 := State.put_same _ _ _ (State.put_same _ _ _ (State.put_same _ _ _ (State.put_same _ _ _ hx10 gENG_32) gENG_32) gENG_32) gENG_36
  try clear_value x11
  exact State.modEng_same _ _ hx11

theorem State.endRun_same (k : Engine) (kind : ℕ) (readyAt : ℕ) (dl : Option Word) (hk : Same P s0 s) (gENG_44 : P (pENG k) 44) (gENG_32 : P (pENG k) 32) : Same P s0 (State.endRun s k kind readyAt dl) := by
  unfold State.endRun
  extract_lets -merge -underBinder +onlyGivenNames x0 x1 x2
  have hx2 : Same P s0 x2 := State.incr_same _ _ (State.engFree_same _ hk gENG_32) gENG_44
  try clear_value x2
  extract_lets -merge -underBinder +onlyGivenNames x3 x4
  have hx4 : Same P s0 x4 := Same.ite (fun _ => Same.mk' hx2) (fun _ => hx2)
  try clear_value x4
  extract_lets -merge -underBinder +onlyGivenNames x5
  have hx5 : Same P s0 x5 := by
    unfold x5
    split
    · extract_lets -merge -underBinder +onlyGivenNames x6
      have hx6 : Same P s0 x6 := State.stPut_same _ _ _ hx4
      try clear_value x6
      exact Same.ite (fun _ => hx4) (fun _ => State.stPut_same _ _ _ hx6)
    · exact hx4
  try clear_value x5
  extract_lets -merge -underBinder +onlyGivenNames x7
  have hx7 : Same P s0 x7 := State.setDescBit_same _ _ _ hx5
  try clear_value x7
  extract_lets -merge -underBinder +onlyGivenNames x8
  have hx8 : ∀ a0 a1 a2, Same P s0 a0 → Same P s0 (x8 a0 a1 a2) := by
    intro s9_0 s9_1 s9_2 hs9_1
    unfold x8
    beta_reduce
    extract_lets -merge -underBinder +onlyGivenNames x10
    have hx10 : Same P s0 x10 := State.enqueue_same _ _ _ hs9_1
    try clear_value x10
    extract_lets -merge -underBinder +onlyGivenNames x11 x12 x13
    have hx13 : Same P s0 x13 := Same.mk' hx10
    try clear_value x13
    exact State.stPut_same _ _ _ (State.setDescState_same _ _ hx13)
  try clear_value x8
  refine Same.ite (fun _ => ?_) (fun _ => ?_)
  · exact State.enqueue_same _ _ _ (State.setDescBit_same _ _ _ hx7)
  · split
    · exact State.setDescState_same _ _ hx7
    · refine hx8 _ _ _ ?_
      exact hx7
    · extract_lets -merge -underBinder +onlyGivenNames x14
      refine Same.ite (fun _ => ?_) (fun _ => ?_)
      · refine hx8 _ _ _ ?_
        exact hx7
      · refine hx8 _ _ _ ?_
        exact hx7

theorem State.endFaulted_same (k : Engine) (hk : Same P s0 s) (gENG_32 : P (pENG k) 32) (gPLCR_16 : P pPLCR 16) (gPLCR_52 : P pPLCR 52) : Same P s0 (State.endFaulted s k) := by
  unfold State.endFaulted
  extract_lets -merge -underBinder +onlyGivenNames x0 x1
  have hx1 : Same P s0 x1 := State.engFree_same _ hk gENG_32
  try clear_value x1
  exact Same.ite (fun _ => hk) (fun _ => Same.ite (fun _ => State.descLost_same _ _ hx1 gPLCR_16 gPLCR_52) (fun _ => State.enqueue_same _ _ _ (State.setDescBit_same _ _ _ hx1)))

theorem State.retireEngine_same (k : Engine) (hk : Same P s0 s) (gPLCR_16 : P pPLCR 16) (gENG_32 : P (pENG k) 32) (gPLCR_52 : P pPLCR 52) (gENG_16 : P (pENG k) 16) : Same P s0 (State.retireEngine s k) := by
  unfold State.retireEngine
  extract_lets -merge -underBinder +onlyGivenNames x0
  have hx0 : Same P s0 x0 := State.endFaulted_same _ hk gENG_32 gPLCR_16 gPLCR_52
  try clear_value x0
  extract_lets -merge -underBinder +onlyGivenNames x1
  have hx1 : Same P s0 x1 := State.modEng_same _ _ hx0
  try clear_value x1
  exact Same.ite (fun _ => hk) (fun _ => Same.ite (fun _ => State.raise_same _ _ hk gPLCR_16) (fun _ => State.raise_same _ _ (State.raise_same _ _ hx1 gPLCR_16) gENG_16))

theorem State.engineFault_same (k : Engine) (kind : ℕ) (addr : ℕ) (hk : Same P s0 s) (gENG_16 : P (pENG k) 16) (gENG_48 : P (pENG k) 48) (gENG_32 : P (pENG k) 32) (gPLCR_16 : P pPLCR 16) (gPLCR_52 : P pPLCR 52) : Same P s0 (State.engineFault s k kind addr) := by
  unfold State.engineFault
  extract_lets -merge -underBinder +onlyGivenNames x0 x1 x2
  have hx2 : Same P s0 x2 := State.modEng_same _ _ hk
  try clear_value x2
  extract_lets -merge -underBinder +onlyGivenNames x3
  have hx3 : Same P s0 x3 := State.raise_same _ _ (State.put_same _ _ _ (State.put_same _ _ _ hx2 gENG_48) gENG_48) gENG_16
  try clear_value x3
  extract_lets -merge -underBinder +onlyGivenNames x4
  have hx4 : Same P s0 x4 := Same.ite (fun _ => hx3) (fun _ => State.put_same _ _ _ hx3 gENG_48)
  try clear_value x4
  extract_lets -merge -underBinder +onlyGivenNames x5
  have hx5 : Same P s0 x5 := Same.ite (fun _ => State.endFaulted_same _ hx4 gENG_32 gPLCR_16 gPLCR_52) (fun _ => hx4)
  try clear_value x5
  exact Same.ite (fun _ => State.retireEngine_same _ hx5 gPLCR_16 gENG_32 gPLCR_52 gENG_16) (fun _ => hx5)

theorem State.assign_same (e : QEnt) (hk : Same P s0 s) (gPLCR_16 : P pPLCR 16) (gPLCR_52 : P pPLCR 52) (gSTORE_16 : P pSTORE 16) (gSTORE_40 : P pSTORE 40) (gSTORE_44 : P pSTORE 44) (gBANK_any : ∀ o, o < 256 → P pBANK o) (gSTORE_48 : P pSTORE 48) (gSTORE_12 : P pSTORE 12) (gPLCR_56 : P pPLCR 56) (gENG_36 : ∀ m, P (pENG m) 36) (gENG_32 : ∀ m, P (pENG m) 32) : Same P s0 (State.assign s e) := by
  unfold State.assign
  refine Same.ite (fun _ => ?_) (fun _ => ?_)
  · exact State.descLost_same _ _ (State.stNote_same _ _ _ hk gSTORE_16 gSTORE_40 gSTORE_44 (fun o ho => gBANK_any o ho) gSTORE_48 gSTORE_12) gPLCR_16 gPLCR_52
  · refine Same.ite (fun _ => ?_) (fun _ => ?_)
    · exact State.genDiscard_same _ hk gPLCR_16 gPLCR_52
    · split
      · exact hk
      · exact State.taskStart_same _ _ hk gPLCR_56 gPLCR_16 (gENG_36 _) (gENG_32 _)

theorem State.resume_same (k : Engine) (hk : Same P s0 s) (gENG_32 : P (pENG k) 32) (gPLCR_16 : P pPLCR 16) (gPLCR_52 : P pPLCR 52) : Same P s0 (State.resume s k) := by
  unfold State.resume
  extract_lets -merge -underBinder +onlyGivenNames x0 x1 x2 x3
  have hx3 : Same P s0 x3 := Same.mk' hk
  try clear_value x3
  exact Same.ite (fun _ => hk) (fun _ => Same.ite (fun _ => State.engFree_same _ (State.genDiscard_same _ hk gPLCR_16 gPLCR_52) gENG_32) (fun _ => State.modEng_same _ _ (State.setDescState_same _ _ hx3)))

theorem State.dispatch_same (testOk : Bool) (noStart : Bool) (hk : Same P s0 s) (gPLCR_any : ∀ o, o < 256 → P pPLCR o) (gENG_16 : ∀ m, P (pENG m) 16) (gENG_48 : ∀ m, P (pENG m) 48) (gENG_32 : ∀ m, P (pENG m) 32) (gSTORE_16 : P pSTORE 16) (gSTORE_40 : P pSTORE 40) (gSTORE_44 : P pSTORE 44) (gBANK_any : ∀ o, o < 256 → P pBANK o) (gSTORE_48 : P pSTORE 48) (gSTORE_12 : P pSTORE 12) (gENG_36 : ∀ m, P (pENG m) 36) : Same P s0 (State.dispatch s testOk noStart) := by
  unfold State.dispatch
  extract_lets -merge -underBinder +onlyGivenNames x0 x1
  have hx1 : Same P s0 x1 := Same.ite (fun _ => State.raise_same _ _ hk (gPLCR_any _ (by decide))) (fun _ => State.raiseIf_same _ _ _ hk (gPLCR_any _ (by decide)))
  try clear_value x1
  extract_lets -merge -underBinder +onlyGivenNames x2 x3
  have hx3 : Same P s0 x3 := State.put_same _ _ _ hx1 (gPLCR_any _ (by decide))
  try clear_value x3
  extract_lets -merge -underBinder +onlyGivenNames x4 x5 x6 x7 x8 x9 x10 x11
  have hx11 : Same P s0 x11 := State.put_same _ _ _ hx3 (gPLCR_any _ (by decide))
  try clear_value x11
  extract_lets -merge -underBinder +onlyGivenNames x12
  have hx12 : Same P s0 x12 := by
    unfold x12
    refine foldl_same _ ?_ ?_
    · exact hx11
    · intro s13_0 s13_1 hm hs13_1
      extract_lets -merge -underBinder +onlyGivenNames x14 x15
      exact State.put_same _ _ _ (State.put_same _ _ _ hs13_1 (gPLCR_any _ (by (try simp only [List.mem_range, List.mem_cons, List.not_mem_nil, or_false] at hm); (try simp only [Fld.at, PLCR.QSTAT_COUNT]); omega))) (gPLCR_any _ (by (try simp only [List.mem_range, List.mem_cons, List.not_mem_nil, or_false] at hm); (try simp only [Fld.at, PLCR.QSTAT_WORK]); omega))
  try clear_value x12
  extract_lets -merge -underBinder +onlyGivenNames x16 x17 x18 x19 x20 x21
  have hx21 : Same P s0 x21 := Same.mk' hx12
  try clear_value x21
  extract_lets -merge -underBinder +onlyGivenNames x22
  have hx22 : Same P s0 x22 := State.forEngines_same (Same.ite (fun _ => State.engineFault_same _ _ _ hx21 (gENG_16 _) (gENG_48 _) (gENG_32 _) (gPLCR_any _ (by decide)) (gPLCR_any _ (by decide))) (fun _ => hx21)) (fun _ _ h23 => State.resume_same _ h23 (gENG_32 _) (gPLCR_any _ (by decide)) (gPLCR_any _ (by decide)))
  try clear_value x22
  exact Same.ite (fun _ => hx22) (fun _ => foldl_same _ hx22 (fun _ _ _ h24 => Same.ite (fun _ => State.assign_same _ h24 (gPLCR_any _ (by decide)) (gPLCR_any _ (by decide)) gSTORE_16 gSTORE_40 gSTORE_44 (fun o ho => gBANK_any o ho) gSTORE_48 gSTORE_12 (gPLCR_any _ (by decide)) (fun m => gENG_36 m) (fun m => gENG_32 m)) (fun _ => h24)))

theorem State.idleReassign_same (k : Engine) (left : ℕ) (hk : Same P s0 s) (gPLCR_16 : P pPLCR 16) (gPLCR_52 : P pPLCR 52) (gSTORE_16 : P pSTORE 16) (gSTORE_40 : P pSTORE 40) (gSTORE_44 : P pSTORE 44) (gBANK_any : ∀ o, o < 256 → P pBANK o) (gSTORE_48 : P pSTORE 48) (gSTORE_12 : P pSTORE 12) (gPLCR_56 : P pPLCR 56) (gENG_36 : P (pENG k) 36) (gENG_32 : P (pENG k) 32) : Same P s0 (State.idleReassign s k left) := by
  unfold State.idleReassign
  extract_lets -merge -underBinder +onlyGivenNames x0
  exact foldl_same _ hk (fun _ _ _ h1 => Same.ite (fun _ => h1) (fun _ => Same.ite (fun _ => State.descLost_same _ _ (State.stNote_same _ _ _ h1 gSTORE_16 gSTORE_40 gSTORE_44 (fun o ho => gBANK_any o ho) gSTORE_48 gSTORE_12) gPLCR_16 gPLCR_52) (fun _ => Same.ite (fun _ => State.genDiscard_same _ h1 gPLCR_16 gPLCR_52) (fun _ => Same.ite (fun _ => h1) (fun _ => State.taskStart_same _ _ h1 gPLCR_56 gPLCR_16 gENG_36 gENG_32)))))

theorem State.overrun_same (k : Engine) (hk : Same P s0 s) (gPLCR_16 : P pPLCR 16) (gENG_16 : P (pENG k) 16) (gPLCR_60 : P pPLCR 60) (gPLCR_48 : P pPLCR 48) : Same P s0 (State.overrun s k) := by
  unfold State.overrun
  extract_lets -merge -underBinder +onlyGivenNames x0
  have hx0 : Same P s0 x0 := State.modEng_same _ _ (State.setDescState_same _ _ hk)
  try clear_value x0
  extract_lets -merge -underBinder +onlyGivenNames x1
  have hx1 : Same P s0 x1 := State.raise_same _ _ (State.raise_same _ _ hx0 gENG_16) gPLCR_16
  try clear_value x1
  extract_lets -merge -underBinder +onlyGivenNames x2
  have hx2 : Same P s0 x2 := State.bump_same _ _ _ hx1 gPLCR_60
  try clear_value x2
  extract_lets -merge -underBinder +onlyGivenNames x3
  exact State.put_same _ _ _ (Same.mk' hx2) gPLCR_48

theorem State.dropTasks_same (hk : Same P s0 s) : Same P s0 (State.dropTasks s) := by
  unfold State.dropTasks
  extract_lets -merge -underBinder +onlyGivenNames x0 x1
  have hx1 : Same P s0 x1 := Same.mk' hk
  try clear_value x1
  exact Same.mk' hx1

theorem State.codeProgram_same (a : ℕ) (v : Word) (hk : Same P s0 s) : Same P s0 (State.codeProgram s a v) := by
  unfold State.codeProgram
  extract_lets -merge -underBinder +onlyGivenNames x0
  exact Same.mk' hk

theorem State.codeErase_same (a : ℕ) (hk : Same P s0 s) : Same P s0 (State.codeErase s a) := by
  unfold State.codeErase
  exact Same.mk' hk

theorem State.flashDone_same (result : ℕ) (hk : Same P s0 s) (gFLASH_48 : P pFLASH 48) (gFLASH_16 : P pFLASH 16) : Same P s0 (State.flashDone s result) := by
  unfold State.flashDone
  extract_lets -merge -underBinder +onlyGivenNames x0
  have hx0 : Same P s0 x0 := State.put_same _ _ _ (State.put_same _ _ _ hk gFLASH_48) gFLASH_48
  try clear_value x0
  exact State.raise_same _ _ (Same.mk' hx0) gFLASH_16

theorem State.flashStart_same (op : FlashOp) (hk : Same P s0 s) (gFLASH_48 : P pFLASH 48) (gFLASH_16 : P pFLASH 16) (gBOOT_32 : P pBOOT 32) : Same P s0 (State.flashStart s op) := by
  unfold State.flashStart
  extract_lets -merge -underBinder +onlyGivenNames x0 x1
  exact Same.ite (fun _ => State.put_same _ _ _ hk gFLASH_48) (fun _ => Same.ite (fun _ => State.flashDone_same _ hk gFLASH_48 gFLASH_16) (fun _ => Same.ite (fun _ => State.flashDone_same _ hk gFLASH_48 gFLASH_16) (fun _ => Same.ite (fun _ => State.flashDone_same _ hk gFLASH_48 gFLASH_16) (fun _ => State.put_same _ _ _ (State.put_same _ _ _ (Same.mk' hk) gFLASH_48) gBOOT_32))))

theorem State.flashFinish_same (verifyOk : Bool) (hk : Same P s0 s) (gFLASH_48 : P pFLASH 48) (gFLASH_16 : P pFLASH 16) : Same P s0 (State.flashFinish s verifyOk) := by
  unfold State.flashFinish
  split
  · exact hk
  · exact State.flashDone_same _ (State.codeProgram_same _ _ hk) gFLASH_48 gFLASH_16
  · exact State.flashDone_same _ (State.codeErase_same _ hk) gFLASH_48 gFLASH_16

theorem State.nvdErasePage_same (p : ℕ) (hk : Same P s0 s) (gNVD_52 : P pNVD 52) : Same P s0 (State.nvdErasePage s p) := by
  unfold State.nvdErasePage
  exact State.put_same _ _ _ (Same.mk' hk) gNVD_52

theorem State.nvdCommit_same (area : ℕ) (format : ℕ) (payload : List Byte) (hk : Same P s0 s) (gNVD_52 : P pNVD 52) : Same P s0 (State.nvdCommit s area format payload) := by
  unfold State.nvdCommit
  extract_lets -merge -underBinder +onlyGivenNames x0 x1 x2
  have hx2 : Same P s0 x2 := State.nvdErasePage_same _ hk gNVD_52
  try clear_value x2
  exact Same.mk' hx2

theorem State.nvdDone_same (result : ℕ) (hk : Same P s0 s) (gNVD_44 : P pNVD 44) (gNVD_16 : P pNVD 16) : Same P s0 (State.nvdDone s result) := by
  unfold State.nvdDone
  extract_lets -merge -underBinder +onlyGivenNames x0
  have hx0 : Same P s0 x0 := State.put_same _ _ _ (State.put_same _ _ _ hk gNVD_44) gNVD_44
  try clear_value x0
  exact State.raise_same _ _ (Same.mk' hx0) gNVD_16

theorem State.nvdStart_same (op : NvdOp) (hk : Same P s0 s) (gNVD_44 : P pNVD 44) (gNVD_16 : P pNVD 16) : Same P s0 (State.nvdStart s op) := by
  unfold State.nvdStart
  refine Same.ite (fun _ => ?_) (fun _ => ?_)
  · exact hk
  · split
    · exact Same.ite (fun _ => State.nvdDone_same _ hk gNVD_44 gNVD_16) (fun _ => State.put_same _ _ _ (Same.mk' hk) gNVD_44)
    · exact Same.ite (fun _ => State.nvdDone_same _ hk gNVD_44 gNVD_16) (fun _ => Same.ite (fun _ => State.nvdDone_same _ hk gNVD_44 gNVD_16) (fun _ => State.put_same _ _ _ (Same.mk' hk) gNVD_44))
    · extract_lets -merge -underBinder +onlyGivenNames x0
      exact Same.ite (fun _ => State.nvdDone_same _ hk gNVD_44 gNVD_16) (fun _ => Same.ite (fun _ => State.nvdDone_same _ hk gNVD_44 gNVD_16) (fun _ => Same.ite (fun _ => Same.ite (fun _ => State.put_same _ _ _ (Same.mk' hk) gNVD_44) (fun _ => State.nvdDone_same _ hk gNVD_44 gNVD_16)) (fun _ => Same.ite (fun _ => State.put_same _ _ _ (Same.mk' hk) gNVD_44) (fun _ => State.nvdDone_same _ hk gNVD_44 gNVD_16))))

theorem State.nvdFinish_same (verifyOk : Bool) (hk : Same P s0 s) (gNVD_44 : P pNVD 44) (gNVD_16 : P pNVD 16) (gNVD_52 : P pNVD 52) (gSTORE_16 : P pSTORE 16) (gSTORE_40 : P pSTORE 40) (gSTORE_44 : P pSTORE 44) (gBANK_any : ∀ o, o < 256 → P pBANK o) (gSTORE_48 : P pSTORE 48) (gSTORE_12 : P pSTORE 12) (gNVD_40 : P pNVD 40) : Same P s0 (State.nvdFinish s verifyOk) := by
  unfold State.nvdFinish
  extract_lets -merge -underBinder +onlyGivenNames x0
  split
  · exact hk
  · extract_lets -merge -underBinder +onlyGivenNames x1
    exact Same.ite (fun _ => State.nvdDone_same _ (State.nvdErasePage_same _ (State.stNote_same _ _ _ hk gSTORE_16 gSTORE_40 gSTORE_44 (fun o ho => gBANK_any o ho) gSTORE_48 gSTORE_12) gNVD_52) gNVD_44 gNVD_16) (fun _ => Same.ite (fun _ => State.nvdDone_same _ (State.nvdCommit_same _ _ _ hk gNVD_52) gNVD_44 gNVD_16) (fun _ => State.nvdDone_same _ (State.nvdErasePage_same _ hk gNVD_52) gNVD_44 gNVD_16))
  · split
    · exact State.nvdDone_same _ hk gNVD_44 gNVD_16
    · exact State.nvdDone_same _ (State.put_same _ _ _ (State.stWrite_same _ _ hk) gNVD_40) gNVD_44 gNVD_16
  · exact State.nvdDone_same _ (State.nvdErasePage_same _ (State.nvdErasePage_same _ hk gNVD_52) gNVD_52) gNVD_44 gNVD_16

theorem State.eraseAbort_same (sector : ℕ) (hk : Same P s0 s) (gFLASH_60 : P pFLASH 60) (gFLASH_16 : P pFLASH 16) (gSUP_16 : P pSUP 16) : Same P s0 (State.eraseAbort s sector) := by
  unfold State.eraseAbort
  extract_lets -merge -underBinder +onlyGivenNames x0
  have hx0 : Same P s0 x0 := State.put_same _ _ _ (State.put_same _ _ _ hk gFLASH_60) gFLASH_60
  try clear_value x0
  exact State.raise_same _ _ (State.raise_same _ _ hx0 gSUP_16) gFLASH_16

theorem State.nvInhibit_same (hk : Same P s0 s) (gFLASH_48 : P pFLASH 48) (gFLASH_16 : P pFLASH 16) (gFLASH_60 : P pFLASH 60) (gSUP_16 : P pSUP 16) (gNVD_52 : P pNVD 52) (gNVD_44 : P pNVD 44) (gNVD_16 : P pNVD 16) : Same P s0 (State.nvInhibit s) := by
  unfold State.nvInhibit
  extract_lets -merge -underBinder +onlyGivenNames x0
  have hx0 : Same P s0 x0 := by
    unfold x0
    split
    · exact State.flashDone_same _ (State.eraseAbort_same _ hk gFLASH_60 gFLASH_16 gSUP_16) gFLASH_48 gFLASH_16
    · exact hk
  try clear_value x0
  split
  · extract_lets -merge -underBinder +onlyGivenNames x1
    have hx1 : Same P s0 x1 := State.nvdErasePage_same _ hx0 gNVD_52
    try clear_value x1
    exact State.nvdDone_same _ (State.raise_same _ _ (State.put_same _ _ _ hx1 gNVD_52) gSUP_16) gNVD_44 gNVD_16
  · split
    · exact State.nvdDone_same _ hx0 gNVD_44 gNVD_16
    · exact hx0

theorem State.secretInhibit_same (hk : Same P s0 s) (gSUP_16 : P pSUP 16) (gNVD_52 : P pNVD 52) : Same P s0 (State.secretInhibit s) := by
  unfold State.secretInhibit
  exact Same.ite (fun _ => State.raise_same _ _ (State.put_same _ _ _ hk gNVD_52) gSUP_16) (fun _ => hk)

theorem State.otpDone_same (result : ℕ) (hk : Same P s0 s) (gOTP_60 : P pOTP 60) (gOTP_16 : P pOTP 16) : Same P s0 (State.otpDone s result) := by
  unfold State.otpDone
  extract_lets -merge -underBinder +onlyGivenNames x0
  have hx0 : Same P s0 x0 := State.put_same _ _ _ (State.put_same _ _ _ hk gOTP_60) gOTP_60
  try clear_value x0
  exact State.raise_same _ _ (Same.mk' hx0) gOTP_16

theorem State.otpProgram_same (hk : Same P s0 s) (gOTP_60 : P pOTP 60) (gOTP_16 : P pOTP 16) : Same P s0 (State.otpProgram s) := by
  unfold State.otpProgram
  extract_lets -merge -underBinder +onlyGivenNames x0
  exact Same.ite (fun _ => State.put_same _ _ _ hk gOTP_60) (fun _ => Same.ite (fun _ => State.otpDone_same _ hk gOTP_60 gOTP_16) (fun _ => Same.ite (fun _ => State.otpDone_same _ hk gOTP_60 gOTP_16) (fun _ => Same.ite (fun _ => State.otpDone_same _ hk gOTP_60 gOTP_16) (fun _ => State.put_same _ _ _ (Same.mk' hk) gOTP_60))))

theorem State.otpLock_same (r : ℕ) (hk : Same P s0 s) (gOTP_60 : P pOTP 60) (gOTP_16 : P pOTP 16) : Same P s0 (State.otpLock s r) := by
  unfold State.otpLock
  exact Same.ite (fun _ => State.put_same _ _ _ hk gOTP_60) (fun _ => Same.ite (fun _ => State.otpDone_same _ hk gOTP_60 gOTP_16) (fun _ => Same.ite (fun _ => State.otpDone_same _ hk gOTP_60 gOTP_16) (fun _ => Same.ite (fun _ => State.otpDone_same _ hk gOTP_60 gOTP_16) (fun _ => Same.ite (fun _ => State.otpDone_same _ hk gOTP_60 gOTP_16) (fun _ => State.put_same _ _ _ (Same.mk' hk) gOTP_60)))))

theorem State.otpBlow_same (i : ℕ) (bits : Word) (weak : Word) (hk : Same P s0 s) : Same P s0 (State.otpBlow s i bits weak) := by
  unfold State.otpBlow
  exact Same.mk' hk

theorem State.otpFinish_same (weak : Word) (hk : Same P s0 s) (gOTP_60 : P pOTP 60) (gOTP_16 : P pOTP 16) : Same P s0 (State.otpFinish s weak) := by
  unfold State.otpFinish
  split
  · exact hk
  · exact State.otpDone_same _ (State.otpBlow_same _ _ _ hk) gOTP_60 gOTP_16
  · extract_lets -merge -underBinder +onlyGivenNames x0
    exact State.otpDone_same _ (State.otpBlow_same _ _ _ hk) gOTP_60 gOTP_16

theorem State.otpDrop_same (hk : Same P s0 s) : Same P s0 (State.otpDrop s) := by
  unfold State.otpDrop
  extract_lets -merge -underBinder +onlyGivenNames x0
  have hx0 : ∀ a0 a1, Same P s0 (x0 a0 a1) := by
    intro s1_0 s1_1
    unfold x0
    beta_reduce
    extract_lets -merge -underBinder +onlyGivenNames x2 x3 x4 x5
    exact State.freshen_same (State.freshen_same (State.otpBlow_same _ _ _ hk))
  try clear_value x0
  extract_lets -merge -underBinder +onlyGivenNames x6
  have hx6 : Same P s0 x6 := by
    unfold x6
    split
    · refine hx0 _ _
    · refine hx0 _ _
    · exact hk
  try clear_value x6
  exact Same.mk' hx6

theorem State.setMapBit_same (pg : ℕ) (f : Fld) (node : ℕ) (b : Bool) (hk : Same P s0 s) (gp1_any : ∀ o, o < 256 → P pg o) (hf : f.off < 252 := by decide) :
    Same P s0 (State.setMapBit s pg f node b) :=
  State.put_same _ _ _ hk (gp1_any _ (by simp only [Fld.at]; omega))

theorem State.migrateTick_same (hk : Same P s0 s) (gBANK_any : ∀ o, o < 256 → P pBANK o) : Same P s0 (State.migrateTick s) := by
  unfold State.migrateTick
  split
  · exact hk
  · extract_lets -merge -underBinder +onlyGivenNames x0
    exact State.freshen_same (foldl_same _ hk (fun _ _ _ h1 => State.segMove_same _ h1 (fun o ho => gBANK_any o ho)))

end Sys2Proof.Machine
end

