-- ==== Sys2Proof/Laws/SamePorts.lean ====
section
/-!
SUPPORT. `Same` over the operations of CC, PDL, POL and GUARD of the ports, sharing, the mux bridge: one lemma per operation.
-/

set_option Elab.async false

namespace Sys2Proof.Machine

variable {P : Nat → Nat → Prop} {s0 s : State}

theorem State.modCc_same (n : Port) (f : CcSt → CcSt) (hk : Same P s0 s) : Same P s0 (State.modCc s n f) := by
  unfold State.modCc
  exact State.modPort_same _ _ hk

theorem State.modPdl_same (n : Port) (f : PdlSt → PdlSt) (hk : Same P s0 s) : Same P s0 (State.modPdl s n f) := by
  unfold State.modPdl
  exact State.modPort_same _ _ hk

theorem State.modPol_same (n : Port) (f : PolSt → PolSt) (hk : Same P s0 s) : Same P s0 (State.modPol s n f) := by
  unfold State.modPol
  exact State.modPort_same _ _ hk

theorem State.modGuard_same (n : Port) (f : GuardSt → GuardSt) (hk : Same P s0 s) : Same P s0 (State.modGuard s n f) := by
  unfold State.modGuard
  exact State.modPort_same _ _ hk

theorem State.modFw_same (n : Port) (f : FwSt → FwSt) (hk : Same P s0 s) : Same P s0 (State.modFw s n f) := by
  unfold State.modFw
  exact State.modPort_same _ _ hk

theorem State.genUp_same (n : Port) (hk : Same P s0 s) (gCC_12 : P (pCC n) 12) : Same P s0 (State.genUp s n) := by
  unfold State.genUp
  exact State.incr_same _ _ hk gCC_12

theorem State.snapClear_same (n : Port) (hk : Same P s0 s) (gPOL_12 : P (pPOL n) 12) : Same P s0 (State.snapClear s n) := by
  unfold State.snapClear
  extract_lets -merge -underBinder +onlyGivenNames x0
  have hx0 : Same P s0 x0 := State.aosPut_same _ _ _ hk
  try clear_value x0
  extract_lets -merge -underBinder +onlyGivenNames x1
  have hx1 : Same P s0 x1 := State.put_same _ _ _ hx0 gPOL_12
  try clear_value x1
  extract_lets -merge -underBinder +onlyGivenNames x2
  have hx2 : Same P s0 x2 := State.put_same _ _ _ (State.put_same _ _ _ hx1 gPOL_12) gPOL_12
  try clear_value x2
  exact State.modPol_same _ _ hx2

theorem State.polEvt_same (n : Port) (f : Fld) (hk : Same P s0 s) (gPOL_16 : P (pPOL n) 16) : Same P s0 (State.polEvt s n f) := by
  unfold State.polEvt
  extract_lets -merge -underBinder +onlyGivenNames x0
  have hx0 : Same P s0 x0 := State.raise_same _ _ hk gPOL_16
  try clear_value x0
  exact State.postKept_same _ _ _ _ _ hx0

theorem State.hrDone_same (n : Port) (hk : Same P s0 s) (gPOL_16 : P (pPOL n) 16) (gPOL_12 : P (pPOL n) 12) : Same P s0 (State.hrDone s n) := by
  unfold State.hrDone
  exact State.polEvt_same _ _ (State.put_same _ _ _ hk gPOL_12) gPOL_16

theorem State.setTarget_same (n : Port) (t : ℕ) (hk : Same P s0 s) (gPOL_16 : P (pPOL n) 16) (gPOL_44 : P (pPOL n) 44) : Same P s0 (State.setTarget s n t) := by
  unfold State.setTarget
  extract_lets -merge -underBinder +onlyGivenNames x0 x1
  have hx1 : Same P s0 x1 := State.modPol_same _ _ hk
  try clear_value x1
  extract_lets -merge -underBinder +onlyGivenNames x2 x3 x4 x5 x6 x7 x8
  have hx8 : Same P s0 x8 := State.raiseIf_same _ _ _ hx1 gPOL_16
  try clear_value x8
  extract_lets -merge -underBinder +onlyGivenNames x9
  have hx9 : Same P s0 x9 := State.put_same _ _ _ (State.put_same _ _ _ hx8 gPOL_44) gPOL_44
  try clear_value x9
  exact State.putB_same _ _ _ hx9 gPOL_44

theorem State.cenLevel_same (n : Port) (auto : Bool) (hk : Same P s0 s) (gPOL_12 : P (pPOL n) 12) : Same P s0 (State.cenLevel s n auto) := by
  unfold State.cenLevel
  extract_lets -merge -underBinder +onlyGivenNames x0 x1
  exact State.putB_same _ _ _ hk gPOL_12

theorem State.dschOn_same (n : Port) (trip : Bool) (assist : Bool) (hk : Same P s0 s) : Same P s0 (State.dschOn s n trip assist) := by
  unfold State.dschOn
  extract_lets -merge -underBinder +onlyGivenNames x0 x1
  exact Same.ite (fun _ => hk) (fun _ => State.modGuard_same _ _ hk)

theorem State.dschOff_same (n : Port) (hk : Same P s0 s) (gPOL_12 : P (pPOL n) 12) : Same P s0 (State.dschOff s n) := by
  unfold State.dschOff
  extract_lets -merge -underBinder +onlyGivenNames x0
  have hx0 : Same P s0 x0 := State.put_same _ _ _ hk gPOL_12
  try clear_value x0
  exact State.modGuard_same _ _ hx0

theorem State.assistEnd_same (n : Port) (hk : Same P s0 s) (gPOL_12 : P (pPOL n) 12) : Same P s0 (State.assistEnd s n) := by
  unfold State.assistEnd
  extract_lets -merge -underBinder +onlyGivenNames x0
  have hx0 : Same P s0 x0 := State.put_same _ _ _ hk gPOL_12
  try clear_value x0
  exact Same.ite (fun _ => State.dschOff_same _ hx0 gPOL_12) (fun _ => hx0)

theorem State.transAbandon_same (n : Port) (hk : Same P s0 s) (gPOL_12 : P (pPOL n) 12) (gPOL_52 : P (pPOL n) 52) (gPOL_16 : P (pPOL n) 16) : Same P s0 (State.transAbandon s n) := by
  unfold State.transAbandon
  extract_lets -merge -underBinder +onlyGivenNames x0
  have hx0 : Same P s0 x0 := State.assistEnd_same _ (State.put_same _ _ _ hk gPOL_52) gPOL_12
  try clear_value x0
  extract_lets -merge -underBinder +onlyGivenNames x1
  have hx1 : Same P s0 x1 := State.modGuard_same _ _ hx0
  try clear_value x1
  exact Same.ite (fun _ => State.polEvt_same _ _ hx1 gPOL_16) (fun _ => hk)

theorem State.vconnOff_same (n : Port) (hk : Same P s0 s) (gCC_12 : P (pCC n) 12) : Same P s0 (State.vconnOff s n) := by
  unfold State.vconnOff
  exact Same.ite (fun _ => State.modCc_same _ _ (State.put_same _ _ _ hk gCC_12)) (fun _ => hk)

theorem State.hpdClear_same (n : Port) (hk : Same P s0 s) (gVDM_52 : P (pVDM n) 52) : Same P s0 (State.hpdClear s n) := by
  unfold State.hpdClear
  exact State.modPort_same _ _ (State.put_same _ _ _ hk gVDM_52)

theorem State.shareEvt_same (f : Fld) (hk : Same P s0 s) (gSHARE_16 : P pSHARE 16) : Same P s0 (State.shareEvt s f) := by
  unfold State.shareEvt
  extract_lets -merge -underBinder +onlyGivenNames x0
  have hx0 : Same P s0 x0 := State.raise_same _ _ hk gSHARE_16
  try clear_value x0
  exact State.postGlobal_same _ _ _ _ _ hx0

theorem State.modShare_same (n : Port) (f : ShareSt → ShareSt) (hk : Same P s0 s) : Same P s0 (State.modShare s n f) := by
  unfold State.modShare
  exact State.modPort_same _ _ hk

theorem State.shareRelease_same (drop : Bool) (hk : Same P s0 s) (gSHARE_any : ∀ o, o < 256 → P pSHARE o) : Same P s0 (State.shareRelease s drop) := by
  unfold State.shareRelease
  extract_lets -merge -underBinder +onlyGivenNames x0
  have hx0 : Same P s0 x0 := State.put_same _ _ _ hk (gSHARE_any _ (by decide))
  try clear_value x0
  extract_lets -merge -underBinder +onlyGivenNames x1
  have hx1 : Same P s0 x1 := by
    unfold x1
    refine State.forPorts_same ?_ ?_
    · exact hx0
    · intro s2_0 s2_1 hs2_1
      extract_lets -merge -underBinder +onlyGivenNames x3 x4
      have hx4 : Same P s0 x4 := State.put_same _ _ _ (State.put_same _ _ _ hs2_1 (gSHARE_any _ (by (try simp only [List.mem_range, List.mem_cons, List.not_mem_nil, or_false] at hm); (try simp only [Fld.at, SHARE.PORT_STAT_STATE]); omega))) (gSHARE_any _ (by (try simp only [List.mem_range, List.mem_cons, List.not_mem_nil, or_false] at hm); (try simp only [Fld.at, SHARE.PORT_STAT_HELD]); omega))
      try clear_value x4
      exact Same.ite (fun _ => State.put_same _ _ _ (State.put_same _ _ _ hx4 (gSHARE_any _ (by (try simp only [List.mem_range, List.mem_cons, List.not_mem_nil, or_false] at hm); (try simp only [Fld.at, SHARE.PORT_STAT_BUDGET]); omega))) (gSHARE_any _ (by (try simp only [List.mem_range, List.mem_cons, List.not_mem_nil, or_false] at hm); (try simp only [Fld.at, SHARE.PORT_STAT_LIMIT]); omega))) (fun _ => hs2_1)
  try clear_value x1
  extract_lets -merge -underBinder +onlyGivenNames x5 x6
  have hx6 : Same P s0 x6 := Same.mk' hx1
  try clear_value x6
  extract_lets -merge -underBinder +onlyGivenNames x7
  have hx7 : Same P s0 x7 := State.shareEvt_same _ hx6 (gSHARE_any _ (by decide))
  try clear_value x7
  exact Same.ite (fun _ => State.shareEvt_same _ hx7 (gSHARE_any _ (by decide))) (fun _ => hx7)

theorem State.shareLeave_same (n : Port) (hk : Same P s0 s) (gSHARE_any : ∀ o, o < 256 → P pSHARE o) : Same P s0 (State.shareLeave s n) := by
  unfold State.shareLeave
  extract_lets -merge -underBinder +onlyGivenNames x0
  have hx0 : Same P s0 x0 := State.put_same _ _ _ (State.put_same _ _ _ hk (gSHARE_any _ (by (try simp only [List.mem_range, List.mem_cons, List.not_mem_nil, or_false] at hm); (try simp only [Fld.at, SHARE.PORT_STAT_STATE]); omega))) (gSHARE_any _ (by (try simp only [List.mem_range, List.mem_cons, List.not_mem_nil, or_false] at hm); (try simp only [Fld.at, SHARE.PORT_STAT_HELD]); omega))
  try clear_value x0
  exact Same.ite (fun _ => State.shareRelease_same _ (State.modShare_same _ _ hx0) (fun o ho => gSHARE_any o ho)) (fun _ => hk)

theorem State.trimReject_same (n : Port) (hk : Same P s0 s) (gSHARE_any : ∀ o, o < 256 → P pSHARE o) : Same P s0 (State.trimReject s n) := by
  unfold State.trimReject
  extract_lets -merge -underBinder +onlyGivenNames x0
  exact Same.ite (fun _ => State.put_same _ _ _ (State.put_same _ _ _ hk (gSHARE_any _ (by (try simp only [List.mem_range, List.mem_cons, List.not_mem_nil, or_false] at hm); (try simp only [Fld.at, SHARE.TRIM_PENDING]); omega))) (gSHARE_any _ (by (try simp only [List.mem_range, List.mem_cons, List.not_mem_nil, or_false] at hm); (try simp only [Fld.at, SHARE.TRIM_TRIM]); omega))) (fun _ => hk)

theorem State.msgidPut_same (n : Port) (lo : ℕ) (w : ℕ) (v : ℕ) (hk : Same P s0 s) (gPDL_any : ∀ o, o < 256 → P (pPDL n) o) : Same P s0 (State.msgidPut s n lo w v) := by
  unfold State.msgidPut
  exact State.put_same _ _ _ hk (gPDL_any _ (by (try simp only [List.mem_range, List.mem_cons, List.not_mem_nil, or_false] at hm); (try simp only [Fld.at, PDL.MSGID_TX_SOP]); omega))

theorem State.txCtrUp_same (n : Port) (k : ℕ) (hk : Same P s0 s) (gPDL_any : ∀ o, o < 256 → P (pPDL n) o) : Same P s0 (State.txCtrUp s n k) := by
  unfold State.txCtrUp
  exact State.msgidPut_same _ _ _ _ hk (fun o ho => gPDL_any o ho)

theorem State.sopReset_same (n : Port) (k : ℕ) (hk : Same P s0 s) (gPDL_any : ∀ o, o < 256 → P (pPDL n) o) : Same P s0 (State.sopReset s n k) := by
  unfold State.sopReset
  exact State.msgidPut_same _ _ _ _ (State.msgidPut_same _ _ _ _ hk (fun o ho => gPDL_any o ho)) (fun o ho => gPDL_any o ho)

theorem State.txWrite_same (n : Port) (i : ℕ) (status : ℕ) (hk : Same P s0 s) : Same P s0 (State.txWrite s n i status) := by
  unfold State.txWrite
  extract_lets -merge -underBinder +onlyGivenNames x0 x1 x2 x3
  have hx3 : Same P s0 x3 := by
    unfold x3
    split
    · exact Same.ite (fun _ => State.stPut_same _ _ _ hk) (fun _ => hk)
    · exact hk
  try clear_value x3
  extract_lets -merge -underBinder +onlyGivenNames x4
  have hx4 : Same P s0 x4 := State.stPut_same _ _ _ (State.stPut_same _ _ _ (State.stPut_same _ _ _ hx3))
  try clear_value x4
  extract_lets -merge -underBinder +onlyGivenNames x5
  have hx5 : Same P s0 x5 := State.stPut_same _ _ _ hx4
  try clear_value x5
  exact State.stPut_same _ _ _ hx5

theorem State.txPop_same (n : Port) (i : ℕ) (hk : Same P s0 s) : Same P s0 (State.txPop s n i) := by
  unfold State.txPop
  exact State.modPdl_same _ _ hk

theorem State.hostDone_same (n : Port) (status : ℕ) (hk : Same P s0 s) (gVDM_64 : P (pVDM n) 64) (gVDM_16 : P (pVDM n) 16) : Same P s0 (State.hostDone s n status) := by
  unfold State.hostDone
  extract_lets -merge -underBinder +onlyGivenNames x0
  have hx0 : Same P s0 x0 := State.put_same _ _ _ (State.put_same _ _ _ hk gVDM_64) gVDM_64
  try clear_value x0
  exact State.raise_same _ _ hx0 gVDM_16

theorem State.txEnd_same (n : Port) (i : ℕ) (status : ℕ) (hk : Same P s0 s) (gPDL_any : ∀ o, o < 256 → P (pPDL n) o) (gVDM_64 : P (pVDM n) 64) (gVDM_16 : P (pVDM n) 16) : Same P s0 (State.txEnd s n i status) := by
  unfold State.txEnd
  extract_lets -merge -underBinder +onlyGivenNames x0 x1 x2
  have hx2 : Same P s0 x2 := Same.ite (fun _ => State.txCtrUp_same _ _ hk (fun o ho => gPDL_any o ho)) (fun _ => hk)
  try clear_value x2
  extract_lets -merge -underBinder +onlyGivenNames x3
  have hx3 : Same P s0 x3 := State.txPop_same _ _ (State.txWrite_same _ _ _ hx2)
  try clear_value x3
  extract_lets -merge -underBinder +onlyGivenNames x4
  have hx4 : Same P s0 x4 := Same.ite (fun _ => State.modFw_same _ _ (State.hostDone_same _ _ hx3 gVDM_64 gVDM_16)) (fun _ => hx3)
  try clear_value x4
  extract_lets -merge -underBinder +onlyGivenNames x5
  have hx5 : Same P s0 x5 := State.modFw_same _ _ hx4
  try clear_value x5
  extract_lets -merge -underBinder +onlyGivenNames x6
  have hx6 : Same P s0 x6 := State.put_same _ _ _ (State.put_same _ _ _ hx5 (gPDL_any _ (by decide))) (gPDL_any _ (by decide))
  try clear_value x6
  extract_lets -merge -underBinder +onlyGivenNames x7
  have hx7 : Same P s0 x7 := by
    unfold x7
    split
    · exact State.bump_same _ _ _ (State.raise_same _ _ hx6 (gPDL_any _ (by decide))) (gPDL_any _ (by decide))
    · exact State.bump_same _ _ _ (State.raise_same _ _ hx6 (gPDL_any _ (by decide))) (gPDL_any _ (by decide))
    · exact State.bump_same _ _ _ (State.raise_same _ _ hx6 (gPDL_any _ (by decide))) (gPDL_any _ (by decide))
    · exact State.bump_same _ _ _ (State.raise_same _ _ hx6 (gPDL_any _ (by decide))) (gPDL_any _ (by decide))
    · exact State.bump_same _ _ _ (State.raise_same _ _ hx6 (gPDL_any _ (by decide))) (gPDL_any _ (by decide))
    · exact State.raise_same _ _ hx6 (gPDL_any _ (by decide))
  try clear_value x7
  extract_lets -merge -underBinder +onlyGivenNames x8
  have hx8 : Same P s0 x8 := State.postPort_same _ _ _ _ _ hx7
  try clear_value x8
  exact Same.ite (fun _ => State.postPort_same _ _ _ _ _ hx8) (fun _ => hx8)

theorem State.txEndAll_same (n : Port) (pick : State → ℕ → Bool) (status : ℕ) (hk : Same P s0 s) (gPDL_any : ∀ o, o < 256 → P (pPDL n) o) (gVDM_64 : P (pVDM n) 64) (gVDM_16 : P (pVDM n) 16) : Same P s0 (State.txEndAll s n pick status) := by
  unfold State.txEndAll
  exact foldl_same _ hk (fun _ _ _ h0 => Same.ite (fun _ => State.txEnd_same _ _ _ h0 (fun o ho => gPDL_any o ho) gVDM_64 gVDM_16) (fun _ => h0))

theorem State.reasmDrop_same (n : Port) (hk : Same P s0 s) (gPDL_any : ∀ o, o < 256 → P (pPDL n) o) : Same P s0 (State.reasmDrop s n) := by
  unfold State.reasmDrop
  extract_lets -merge -underBinder +onlyGivenNames x0
  have hx0 : Same P s0 x0 := foldl_same _ hk (fun _ _ hm h1 => State.put_same _ _ _ h1 (gPDL_any _ (by (try simp only [List.mem_range, List.mem_cons, List.not_mem_nil, or_false] at hm); (try simp only [Fld.at, PDL.XBUF_STAT_RX_BUSY]); omega)))
  try clear_value x0
  exact State.modPdl_same _ _ hx0

theorem State.pdlCleanup_same (n : Port) (hk : Same P s0 s) (gPDL_any : ∀ o, o < 256 → P (pPDL n) o) (gVDM_64 : P (pVDM n) 64) (gVDM_16 : P (pVDM n) 16) : Same P s0 (State.pdlCleanup s n) := by
  unfold State.pdlCleanup
  extract_lets -merge -underBinder +onlyGivenNames x0
  have hx0 : Same P s0 x0 := State.txEndAll_same _ _ _ hk (fun o ho => gPDL_any o ho) gVDM_64 gVDM_16
  try clear_value x0
  extract_lets -merge -underBinder +onlyGivenNames x1
  have hx1 : Same P s0 x1 := State.reasmDrop_same _ hx0 (fun o ho => gPDL_any o ho)
  try clear_value x1
  extract_lets -merge -underBinder +onlyGivenNames x2
  have hx2 : Same P s0 x2 := State.put_same _ _ _ (State.wr_same _ _ _ hx1 (gPDL_any _ (by decide))) (gPDL_any _ (by decide))
  try clear_value x2
  exact State.modPdl_same _ _ hx2

theorem State.guardTo_same (n : Port) (st : ℕ) (hk : Same P s0 s) (gGUARD_12 : P (pGUARD n) 12) : Same P s0 (State.guardTo s n st) := by
  unfold State.guardTo
  extract_lets -merge -underBinder +onlyGivenNames x0 x1
  have hx1 : Same P s0 x1 := State.put_same _ _ _ (State.put_same _ _ _ hk gGUARD_12) gGUARD_12
  try clear_value x1
  extract_lets -merge -underBinder +onlyGivenNames x2
  have hx2 : Same P s0 x2 := State.put_same _ _ _ hx1 gGUARD_12
  try clear_value x2
  extract_lets -merge -underBinder +onlyGivenNames x3
  have hx3 : Same P s0 x3 := Same.ite (fun _ => hx2) (fun _ => State.put_same _ _ _ hx2 gGUARD_12)
  try clear_value x3
  extract_lets -merge -underBinder +onlyGivenNames x4
  have hx4 : Same P s0 x4 := Same.ite (fun _ => hx3) (fun _ => State.put_same _ _ _ hx3 gGUARD_12)
  try clear_value x4
  exact State.modGuard_same _ _ hx4

theorem State.guardOff_same (n : Port) (hk : Same P s0 s) (gGUARD_12 : P (pGUARD n) 12) : Same P s0 (State.guardOff s n) := by
  unfold State.guardOff
  extract_lets -merge -underBinder +onlyGivenNames x0
  exact Same.ite (fun _ => State.guardTo_same _ _ hk gGUARD_12) (fun _ => hk)

theorem State.guardEvt_same (n : Port) (f : Fld) (hk : Same P s0 s) (gGUARD_16 : P (pGUARD n) 16) : Same P s0 (State.guardEvt s n f) := by
  unfold State.guardEvt
  extract_lets -merge -underBinder +onlyGivenNames x0
  have hx0 : Same P s0 x0 := State.raise_same _ _ hk gGUARD_16
  try clear_value x0
  exact State.postKept_same _ _ _ _ _ hx0

theorem State.setWin_same (n : Port) (w : ℕ × ℕ) (held : Bool) (hk : Same P s0 s) : Same P s0 (State.setWin s n w held) := by
  unfold State.setWin
  exact State.modPol_same _ _ hk

theorem State.fwGeneration_same (n : Port) (status : ℕ) (hk : Same P s0 s) (gVDM_64 : P (pVDM n) 64) (gVDM_16 : P (pVDM n) 16) (gVDM_96 : P (pVDM n) 96) : Same P s0 (State.fwGeneration s n status) := by
  unfold State.fwGeneration
  extract_lets -merge -underBinder +onlyGivenNames x0
  have hx0 : Same P s0 x0 := Same.ite (fun _ => State.hostDone_same _ _ hk gVDM_64 gVDM_16) (fun _ => hk)
  try clear_value x0
  extract_lets -merge -underBinder +onlyGivenNames x1 x2
  have hx2 : Same P s0 x2 := Same.ite (fun _ => State.put_same _ _ _ (State.put_same _ _ _ (State.put_same _ _ _ hx0 gVDM_96) gVDM_96) gVDM_96) (fun _ => hx0)
  try clear_value x2
  exact State.modFw_same _ _ hx2

theorem State.detach_same (n : Port) (asSource : Bool) (hk : Same P s0 s) (gCC_16 : P (pCC n) 16) (gCC_12 : P (pCC n) 12) (gPDL_any : ∀ o, o < 256 → P (pPDL n) o) (gVDM_64 : P (pVDM n) 64) (gVDM_16 : P (pVDM n) 16) (gPOL_12 : P (pPOL n) 12) (gPOL_52 : P (pPOL n) 52) (gPOL_16 : P (pPOL n) 16) (gPOL_44 : P (pPOL n) 44) (gGUARD_12 : P (pGUARD n) 12) (gVDM_52 : P (pVDM n) 52) (gSHARE_any : ∀ o, o < 256 → P pSHARE o) (gVDM_96 : P (pVDM n) 96) : Same P s0 (State.detach s n asSource) := by
  unfold State.detach
  extract_lets -merge -underBinder +onlyGivenNames x0
  have hx0 : Same P s0 x0 := State.raise_same _ _ (State.genUp_same _ hk gCC_12) gCC_16
  try clear_value x0
  extract_lets -merge -underBinder +onlyGivenNames x1
  have hx1 : Same P s0 x1 := State.modCc_same _ _ hx0
  try clear_value x1
  extract_lets -merge -underBinder +onlyGivenNames x2
  have hx2 : Same P s0 x2 := State.pdlCleanup_same _ hx1 (fun o ho => gPDL_any o ho) gVDM_64 gVDM_16
  try clear_value x2
  extract_lets -merge -underBinder +onlyGivenNames x3
  have hx3 : Same P s0 x3 := State.put_same _ _ _ (State.snapClear_same _ hx2 gPOL_12) gPOL_12
  try clear_value x3
  extract_lets -merge -underBinder +onlyGivenNames x4
  have hx4 : Same P s0 x4 := State.transAbandon_same _ hx3 gPOL_12 gPOL_52 gPOL_16
  try clear_value x4
  extract_lets -merge -underBinder +onlyGivenNames x5
  have hx5 : Same P s0 x5 := State.put_same _ _ _ (State.put_same _ _ _ hx4 gPOL_12) gPOL_12
  try clear_value x5
  extract_lets -merge -underBinder +onlyGivenNames x6
  have hx6 : Same P s0 x6 := State.modPol_same _ _ (State.put_same _ _ _ (State.setTarget_same _ _ hx5 gPOL_16 gPOL_44) gPOL_12)
  try clear_value x6
  extract_lets -merge -underBinder +onlyGivenNames x7
  have hx7 : Same P s0 x7 := State.put_same _ _ _ (State.guardOff_same _ hx6 gGUARD_12) gGUARD_12
  try clear_value x7
  extract_lets -merge -underBinder +onlyGivenNames x8
  have hx8 : Same P s0 x8 := State.setWin_same _ _ _ hx7
  try clear_value x8
  extract_lets -merge -underBinder +onlyGivenNames x9
  have hx9 : Same P s0 x9 := State.hpdClear_same _ (State.vconnOff_same _ hx8 gCC_12) gVDM_52
  try clear_value x9
  extract_lets -merge -underBinder +onlyGivenNames x10
  have hx10 : Same P s0 x10 := State.shareLeave_same _ hx9 (fun o ho => gSHARE_any o ho)
  try clear_value x10
  extract_lets -merge -underBinder +onlyGivenNames x11
  have hx11 : Same P s0 x11 := State.put_same _ _ _ (State.put_same _ _ _ hx10 (gSHARE_any _ (by (try simp only [List.mem_range, List.mem_cons, List.not_mem_nil, or_false] at hm); (try simp only [Fld.at, SHARE.TRIM_TRIM]); omega))) (gSHARE_any _ (by (try simp only [List.mem_range, List.mem_cons, List.not_mem_nil, or_false] at hm); (try simp only [Fld.at, SHARE.TRIM_PENDING]); omega))
  try clear_value x11
  extract_lets -merge -underBinder +onlyGivenNames x12
  have hx12 : Same P s0 x12 := State.modFw_same _ _ (State.fwGeneration_same _ _ hx11 gVDM_64 gVDM_16 gVDM_96)
  try clear_value x12
  extract_lets -merge -underBinder +onlyGivenNames x13 x14
  have hx14 : Same P s0 x14 := Same.ite (fun _ => Same.mk' hx12) (fun _ => hx12)
  try clear_value x14
  exact Same.ite (fun _ => State.modGuard_same _ _ hx14) (fun _ => hx14)

theorem State.cenOn_same (n : Port) (hk : Same P s0 s) (gPOL_12 : P (pPOL n) 12) : Same P s0 (State.cenOn s n) := by
  unfold State.cenOn
  exact State.cenLevel_same _ _ (State.modPol_same _ _ hk) gPOL_12

theorem State.attachActions_same (n : Port) (st : CcState) (hk : Same P s0 s) (gPOL_12 : P (pPOL n) 12) (gPDL_32 : P (pPDL n) 32) (gGUARD_12 : P (pGUARD n) 12) : Same P s0 (State.attachActions s n st) := by
  unfold State.attachActions
  split
  · extract_lets -merge -underBinder +onlyGivenNames x0
    have hx0 : Same P s0 x0 := State.put_same _ _ _ (State.put_same _ _ _ hk gPDL_32) gPOL_12
    try clear_value x0
    exact State.cenOn_same _ (State.setWin_same _ _ _ hx0) gPOL_12
  · extract_lets -merge -underBinder +onlyGivenNames x1
    have hx1 : Same P s0 x1 := State.put_same _ _ _ (State.put_same _ _ _ hk gPDL_32) gPOL_12
    try clear_value x1
    extract_lets -merge -underBinder +onlyGivenNames x2
    have hx2 : Same P s0 x2 := State.setWin_same _ _ _ hx1
    try clear_value x2
    exact Same.ite (fun _ => State.put_same _ _ _ hx2 gGUARD_12) (fun _ => hx2)
  · exact hk

theorem State.hardReset_same (n : Port) (sent : Bool) (hk : Same P s0 s) (gCC_12 : P (pCC n) 12) (gPDL_any : ∀ o, o < 256 → P (pPDL n) o) (gVDM_64 : P (pVDM n) 64) (gVDM_16 : P (pVDM n) 16) (gPOL_12 : P (pPOL n) 12) (gPOL_52 : P (pPOL n) 52) (gPOL_16 : P (pPOL n) 16) (gVDM_52 : P (pVDM n) 52) (gSHARE_any : ∀ o, o < 256 → P pSHARE o) (gVDM_96 : P (pVDM n) 96) (gPOL_180 : P (pPOL n) 180) : Same P s0 (State.hardReset s n sent) := by
  unfold State.hardReset
  extract_lets -merge -underBinder +onlyGivenNames x0 x1 x2 x3
  have hx3 : Same P s0 x3 := State.genUp_same _ hk gCC_12
  try clear_value x3
  extract_lets -merge -underBinder +onlyGivenNames x4
  have hx4 : Same P s0 x4 := State.reasmDrop_same _ (State.txEndAll_same _ _ _ hx3 (fun o ho => gPDL_any o ho) gVDM_64 gVDM_16) (fun o ho => gPDL_any o ho)
  try clear_value x4
  extract_lets -merge -underBinder +onlyGivenNames x5
  have hx5 : Same P s0 x5 := State.put_same _ _ _ (State.wr_same _ _ _ hx4 (gPDL_any _ (by decide))) (gPDL_any _ (by decide))
  try clear_value x5
  extract_lets -merge -underBinder +onlyGivenNames x6
  have hx6 : Same P s0 x6 := State.modPdl_same _ _ hx5
  try clear_value x6
  extract_lets -merge -underBinder +onlyGivenNames x7
  have hx7 : Same P s0 x7 := State.putB_same _ _ _ hx6 (gPDL_any _ (by decide))
  try clear_value x7
  extract_lets -merge -underBinder +onlyGivenNames x8
  have hx8 : Same P s0 x8 := State.raise_same _ _ hx7 (gPDL_any _ (by decide))
  try clear_value x8
  extract_lets -merge -underBinder +onlyGivenNames x9
  have hx9 : Same P s0 x9 := Same.ite (fun _ => State.raise_same _ _ hx8 (gPDL_any _ (by decide))) (fun _ => hx8)
  try clear_value x9
  extract_lets -merge -underBinder +onlyGivenNames x10
  have hx10 : Same P s0 x10 := State.postPort_same _ _ _ _ _ hx9
  try clear_value x10
  extract_lets -merge -underBinder +onlyGivenNames x11
  have hx11 : Same P s0 x11 := State.transAbandon_same _ (State.snapClear_same _ hx10 gPOL_12) gPOL_12 gPOL_52 gPOL_16
  try clear_value x11
  extract_lets -merge -underBinder +onlyGivenNames x12
  have hx12 : Same P s0 x12 := State.hpdClear_same _ hx11 gVDM_52
  try clear_value x12
  extract_lets -merge -underBinder +onlyGivenNames x13
  have hx13 : Same P s0 x13 := State.shareLeave_same _ hx12 (fun o ho => gSHARE_any o ho)
  try clear_value x13
  extract_lets -merge -underBinder +onlyGivenNames x14
  have hx14 : Same P s0 x14 := State.modCc_same _ _ hx13
  try clear_value x14
  extract_lets -merge -underBinder +onlyGivenNames x15
  have hx15 : Same P s0 x15 := State.put_same _ _ _ hx14 (gSHARE_any _ (by (try simp only [List.mem_range, List.mem_cons, List.not_mem_nil, or_false] at hm); (try simp only [Fld.at, SHARE.TRIM_PENDING]); omega))
  try clear_value x15
  extract_lets -merge -underBinder +onlyGivenNames x16
  have hx16 : Same P s0 x16 := State.fwGeneration_same _ _ hx15 gVDM_64 gVDM_16 gVDM_96
  try clear_value x16
  extract_lets -merge -underBinder +onlyGivenNames x17 x18
  have hx18 : Same P s0 x18 := Same.ite (fun _ => State.bump_same _ _ _ hx16 gPOL_180) (fun _ => hx16)
  try clear_value x18
  extract_lets -merge -underBinder +onlyGivenNames x19
  have hx19 : Same P s0 x19 := State.put_same _ _ _ hx18 gPOL_12
  try clear_value x19
  exact Same.ite (fun _ => Same.ite (fun _ => State.modPol_same _ _ (State.bump_same _ _ _ (State.put_same _ _ _ hx16 gPOL_12) gPOL_180)) (fun _ => hx16)) (fun _ => State.modCc_same _ _ hx19)

theorem State.hardResetStart_same (n : Port) (hk : Same P s0 s) (gPDL_any : ∀ o, o < 256 → P (pPDL n) o) (gVDM_64 : P (pVDM n) 64) (gVDM_16 : P (pVDM n) 16) : Same P s0 (State.hardResetStart s n) := by
  unfold State.hardResetStart
  extract_lets -merge -underBinder +onlyGivenNames x0
  have hx0 : Same P s0 x0 := State.reasmDrop_same _ (State.txEndAll_same _ _ _ hk (fun o ho => gPDL_any o ho) gVDM_64 gVDM_16) (fun o ho => gPDL_any o ho)
  try clear_value x0
  extract_lets -merge -underBinder +onlyGivenNames x1
  have hx1 : Same P s0 x1 := State.modPdl_same _ _ hx0
  try clear_value x1
  exact Same.ite (fun _ => State.put_same _ _ _ (State.modFw_same _ _ hx1) (gPDL_any _ (by decide))) (fun _ => hk)

theorem State.retire_same (n : Port) (cause : Option ℕ) (hk : Same P s0 s) (gGUARD_84 : P (pGUARD n) 84) (gCC_16 : P (pCC n) 16) (gCC_12 : P (pCC n) 12) (gPDL_any : ∀ o, o < 256 → P (pPDL n) o) (gVDM_64 : P (pVDM n) 64) (gVDM_16 : P (pVDM n) 16) (gPOL_12 : P (pPOL n) 12) (gPOL_52 : P (pPOL n) 52) (gPOL_16 : P (pPOL n) 16) (gPOL_44 : P (pPOL n) 44) (gGUARD_12 : P (pGUARD n) 12) (gVDM_52 : P (pVDM n) 52) (gSHARE_any : ∀ o, o < 256 → P pSHARE o) (gVDM_96 : P (pVDM n) 96) (gGUARD_16 : P (pGUARD n) 16) : Same P s0 (State.retire s n cause) := by
  unfold State.retire
  extract_lets -merge -underBinder +onlyGivenNames x0 x1
  have hx1 : Same P s0 x1 := by
    unfold x1
    split
    · exact State.put_same _ _ _ hk gGUARD_84
    · exact hk
  try clear_value x1
  extract_lets -merge -underBinder +onlyGivenNames x2 x3
  have hx3 : Same P s0 x3 := Same.ite (fun _ => State.detach_same _ _ hx1 gCC_16 gCC_12 (fun o ho => gPDL_any o ho) gVDM_64 gVDM_16 gPOL_12 gPOL_52 gPOL_16 gPOL_44 gGUARD_12 gVDM_52 (fun o ho => gSHARE_any o ho) gVDM_96) (fun _ => State.snapClear_same _ hx1 gPOL_12)
  try clear_value x3
  extract_lets -merge -underBinder +onlyGivenNames x4
  have hx4 : Same P s0 x4 := State.put_same _ _ _ (State.guardTo_same _ _ hx3 gGUARD_12) gGUARD_12
  try clear_value x4
  extract_lets -merge -underBinder +onlyGivenNames x5
  have hx5 : Same P s0 x5 := State.vconnOff_same _ hx4 gCC_12
  try clear_value x5
  extract_lets -merge -underBinder +onlyGivenNames x6 x7
  have hx7 : Same P s0 x7 := State.put_same _ _ _ hx5 gCC_12
  try clear_value x7
  extract_lets -merge -underBinder +onlyGivenNames x8
  have hx8 : Same P s0 x8 := State.put_same _ _ _ (State.put_same _ _ _ hx7 gCC_12) gCC_12
  try clear_value x8
  extract_lets -merge -underBinder +onlyGivenNames x9
  have hx9 : Same P s0 x9 := State.put_same _ _ _ (State.put_same _ _ _ (State.put_same _ _ _ hx8 gCC_12) gCC_12) gCC_12
  try clear_value x9
  extract_lets -merge -underBinder +onlyGivenNames x10
  have hx10 : Same P s0 x10 := State.raise_same _ _ hx9 gCC_16
  try clear_value x10
  extract_lets -merge -underBinder +onlyGivenNames x11
  have hx11 : Same P s0 x11 := State.modCc_same _ _ hx10
  try clear_value x11
  exact Same.ite (fun _ => hk) (fun _ => State.guardEvt_same _ _ hx11 gGUARD_16)

theorem State.powerRestart_same (n : Port) (hk : Same P s0 s) (gPOL_12 : P (pPOL n) 12) (gCC_12 : P (pCC n) 12) (gPDL_any : ∀ o, o < 256 → P (pPDL n) o) (gVDM_64 : P (pVDM n) 64) (gVDM_16 : P (pVDM n) 16) (gVDM_52 : P (pVDM n) 52) (gVDM_96 : P (pVDM n) 96) : Same P s0 (State.powerRestart s n) := by
  unfold State.powerRestart
  extract_lets -merge -underBinder +onlyGivenNames x0
  have hx0 : Same P s0 x0 := State.snapClear_same _ (State.genUp_same _ hk gCC_12) gPOL_12
  try clear_value x0
  extract_lets -merge -underBinder +onlyGivenNames x1
  have hx1 : Same P s0 x1 := State.put_same _ _ _ (State.pdlCleanup_same _ hx0 (fun o ho => gPDL_any o ho) gVDM_64 gVDM_16) (gPDL_any _ (by decide))
  try clear_value x1
  extract_lets -merge -underBinder +onlyGivenNames x2
  have hx2 : Same P s0 x2 := State.vconnOff_same _ (State.hpdClear_same _ hx1 gVDM_52) gCC_12
  try clear_value x2
  exact State.modCc_same _ _ (State.fwGeneration_same _ _ hx2 gVDM_64 gVDM_16 gVDM_96)

theorem State.trip_same (n : Port) (causes : ℕ) (src : Bool) (hk : Same P s0 s) (gGUARD_12 : P (pGUARD n) 12) (gGUARD_84 : P (pGUARD n) 84) (gGUARD_88 : P (pGUARD n) 88) (gGUARD_92 : P (pGUARD n) 92) (gGUARD_16 : P (pGUARD n) 16) (gPOL_16 : P (pPOL n) 16) (gPOL_44 : P (pPOL n) 44) (gPOL_12 : P (pPOL n) 12) (gPOL_52 : P (pPOL n) 52) (gCC_12 : P (pCC n) 12) (gPDL_any : ∀ o, o < 256 → P (pPDL n) o) (gVDM_64 : P (pVDM n) 64) (gVDM_16 : P (pVDM n) 16) (gVDM_52 : P (pVDM n) 52) (gVDM_96 : P (pVDM n) 96) (gSHARE_any : ∀ o, o < 256 → P pSHARE o) (gCC_16 : P (pCC n) 16) : Same P s0 (State.trip s n causes src) := by
  unfold State.trip
  extract_lets -merge -underBinder +onlyGivenNames x0 x1 x2 x3 x4 x5
  have hx5 : Same P s0 x5 := State.guardTo_same _ _ hk gGUARD_12
  try clear_value x5
  extract_lets -merge -underBinder +onlyGivenNames x6
  have hx6 : Same P s0 x6 := State.put_same _ _ _ (State.put_same _ _ _ hx5 gGUARD_84) gGUARD_84
  try clear_value x6
  extract_lets -merge -underBinder +onlyGivenNames x7
  have hx7 : Same P s0 x7 := State.put_same _ _ _ (State.put_same _ _ _ hx6 gGUARD_84) gGUARD_88
  try clear_value x7
  extract_lets -merge -underBinder +onlyGivenNames x8
  have hx8 : Same P s0 x8 := State.bump_same _ _ _ (State.put_same _ _ _ hx7 gGUARD_92) gGUARD_92
  try clear_value x8
  extract_lets -merge -underBinder +onlyGivenNames x9
  have hx9 : Same P s0 x9 := State.modGuard_same _ _ hx8
  try clear_value x9
  extract_lets -merge -underBinder +onlyGivenNames x10
  have hx10 : Same P s0 x10 := State.raiseIf_same _ _ _ (State.raiseIf_same _ _ _ hx9 gGUARD_16) gGUARD_16
  try clear_value x10
  extract_lets -merge -underBinder +onlyGivenNames x11
  have hx11 : Same P s0 x11 := State.guardEvt_same _ _ hx10 gGUARD_16
  try clear_value x11
  extract_lets -merge -underBinder +onlyGivenNames x12
  have hx12 : Same P s0 x12 := Same.ite (fun _ => State.put_same _ _ _ hx11 gGUARD_12) (fun _ => hx11)
  try clear_value x12
  extract_lets -merge -underBinder +onlyGivenNames x13
  have hx13 : Same P s0 x13 := State.modFw_same _ _ hx12
  try clear_value x13
  extract_lets -merge -underBinder +onlyGivenNames x14
  have hx14 : Same P s0 x14 := Same.ite (fun _ => State.setTarget_same _ _ (State.dschOn_same _ _ _ (State.transAbandon_same _ hx13 gPOL_12 gPOL_52 gPOL_16)) gPOL_16 gPOL_44) (fun _ => hx13)
  try clear_value x14
  extract_lets -merge -underBinder +onlyGivenNames x15
  have hx15 : Same P s0 x15 := Same.ite (fun _ => State.powerRestart_same _ hx14 gPOL_12 gCC_12 (fun o ho => gPDL_any o ho) gVDM_64 gVDM_16 gVDM_52 gVDM_96) (fun _ => hx14)
  try clear_value x15
  extract_lets -merge -underBinder +onlyGivenNames x16
  have hx16 : Same P s0 x16 := Same.ite (fun _ => State.shareLeave_same _ hx15 (fun o ho => gSHARE_any o ho)) (fun _ => hx15)
  try clear_value x16
  exact Same.ite (fun _ => State.retire_same _ _ hx16 gGUARD_84 gCC_16 gCC_12 (fun o ho => gPDL_any o ho) gVDM_64 gVDM_16 gPOL_12 gPOL_52 gPOL_16 gPOL_44 gGUARD_12 gVDM_52 (fun o ho => gSHARE_any o ho) gVDM_96 gGUARD_16) (fun _ => Same.ite (fun _ => Same.ite (fun _ => State.put_same _ _ _ hx16 gGUARD_12) (fun _ => hx16)) (fun _ => State.put_same _ _ _ hx16 gGUARD_12))

theorem State.guardHalt_same (n : Port) (hk : Same P s0 s) (gGUARD_12 : P (pGUARD n) 12) : Same P s0 (State.guardHalt s n) := by
  unfold State.guardHalt
  extract_lets -merge -underBinder +onlyGivenNames x0
  have hx0 : Same P s0 x0 := State.guardOff_same _ hk gGUARD_12
  try clear_value x0
  exact Same.ite (fun _ => State.dschOn_same _ _ _ hx0) (fun _ => hx0)

theorem State.joinedOff_same (n : Port) (hk : Same P s0 s) (gGUARD_12 : P (pGUARD n) 12) : Same P s0 (State.joinedOff s n) := by
  unfold State.joinedOff
  exact Same.ite (fun _ => State.guardHalt_same _ hk gGUARD_12) (fun _ => hk)

theorem State.ccEnter_same (n : Port) (st : CcState) (hk : Same P s0 s) (gCC_16 : P (pCC n) 16) (gCC_12 : P (pCC n) 12) (gPDL_any : ∀ o, o < 256 → P (pPDL n) o) (gVDM_64 : P (pVDM n) 64) (gVDM_16 : P (pVDM n) 16) (gPOL_12 : P (pPOL n) 12) (gPOL_52 : P (pPOL n) 52) (gPOL_16 : P (pPOL n) 16) (gPOL_44 : P (pPOL n) 44) (gGUARD_12 : P (pGUARD n) 12) (gVDM_52 : P (pVDM n) 52) (gSHARE_any : ∀ o, o < 256 → P pSHARE o) (gVDM_96 : P (pVDM n) 96) : Same P s0 (State.ccEnter s n st) := by
  unfold State.ccEnter
  extract_lets -merge -underBinder +onlyGivenNames x0 x1
  have hx1 : Same P s0 x1 := Same.ite (fun _ => State.detach_same _ _ hk gCC_16 gCC_12 (fun o ho => gPDL_any o ho) gVDM_64 gVDM_16 gPOL_12 gPOL_52 gPOL_16 gPOL_44 gGUARD_12 gVDM_52 (fun o ho => gSHARE_any o ho) gVDM_96) (fun _ => hk)
  try clear_value x1
  extract_lets -merge -underBinder +onlyGivenNames x2 x3
  have hx3 : Same P s0 x3 := State.put_same _ _ _ hx1 gCC_12
  try clear_value x3
  extract_lets -merge -underBinder +onlyGivenNames x4
  have hx4 : Same P s0 x4 := State.putB_same _ _ _ hx3 gCC_12
  try clear_value x4
  extract_lets -merge -underBinder +onlyGivenNames x5
  have hx5 : Same P s0 x5 := State.putB_same _ _ _ hx4 gCC_12
  try clear_value x5
  extract_lets -merge -underBinder +onlyGivenNames x6 x7
  have hx7 : Same P s0 x7 := State.putB_same _ _ _ hx5 gCC_12
  try clear_value x7
  extract_lets -merge -underBinder +onlyGivenNames x8
  have hx8 : Same P s0 x8 := Same.ite (fun _ => State.vconnOff_same _ (State.joinedOff_same _ hx7 gGUARD_12) gCC_12) (fun _ => hx7)
  try clear_value x8
  extract_lets -merge -underBinder +onlyGivenNames x9
  have hx9 : Same P s0 x9 := State.put_same _ _ _ hx8 gCC_12
  try clear_value x9
  extract_lets -merge -underBinder +onlyGivenNames x10 x11
  have hx11 : Same P s0 x11 := Same.ite (fun _ => State.put_same _ _ _ hx9 gCC_12) (fun _ => hx9)
  try clear_value x11
  extract_lets -merge -underBinder +onlyGivenNames x12
  have hx12 : Same P s0 x12 := State.modPort_same _ _ hx11
  try clear_value x12
  extract_lets -merge -underBinder +onlyGivenNames x13 x14
  have hx14 : Same P s0 x14 := State.put_same _ _ _ hx12 gCC_12
  try clear_value x14
  extract_lets -merge -underBinder +onlyGivenNames x15
  have hx15 : Same P s0 x15 := State.raiseIf_same _ _ _ (State.raise_same _ _ hx14 gCC_16) gCC_16
  try clear_value x15
  exact Same.ite (fun _ => State.attachActions_same _ _ (State.modPort_same _ _ hx15) gPOL_12 (gPDL_any _ (by decide)) gGUARD_12) (fun _ => hx14)

theorem State.ccResume_same (n : Port) (hk : Same P s0 s) (gCC_16 : P (pCC n) 16) (gCC_12 : P (pCC n) 12) (gPDL_any : ∀ o, o < 256 → P (pPDL n) o) (gVDM_64 : P (pVDM n) 64) (gVDM_16 : P (pVDM n) 16) (gPOL_12 : P (pPOL n) 12) (gPOL_52 : P (pPOL n) 52) (gPOL_16 : P (pPOL n) 16) (gPOL_44 : P (pPOL n) 44) (gGUARD_12 : P (pGUARD n) 12) (gVDM_52 : P (pVDM n) 52) (gSHARE_any : ∀ o, o < 256 → P pSHARE o) (gVDM_96 : P (pVDM n) 96) : Same P s0 (State.ccResume s n) := by
  unfold State.ccResume
  extract_lets -merge -underBinder +onlyGivenNames x0
  exact Same.ite (fun _ => Same.ite (fun _ => hk) (fun _ => State.ccEnter_same _ _ hk gCC_16 gCC_12 (fun o ho => gPDL_any o ho) gVDM_64 gVDM_16 gPOL_12 gPOL_52 gPOL_16 gPOL_44 gGUARD_12 gVDM_52 (fun o ho => gSHARE_any o ho) gVDM_96)) (fun _ => State.ccEnter_same _ _ hk gCC_16 gCC_12 (fun o ho => gPDL_any o ho) gVDM_64 gVDM_16 gPOL_12 gPOL_52 gPOL_16 gPOL_44 gGUARD_12 gVDM_52 (fun o ho => gSHARE_any o ho) gVDM_96)

theorem State.attachWait_same (n : Port) (st : CcState) (c : CcClass) (hk : Same P s0 s) (gCC_16 : P (pCC n) 16) (gCC_12 : P (pCC n) 12) (gPDL_any : ∀ o, o < 256 → P (pPDL n) o) (gVDM_64 : P (pVDM n) 64) (gVDM_16 : P (pVDM n) 16) (gPOL_12 : P (pPOL n) 12) (gPOL_52 : P (pPOL n) 52) (gPOL_16 : P (pPOL n) 16) (gPOL_44 : P (pPOL n) 44) (gGUARD_12 : P (pGUARD n) 12) (gVDM_52 : P (pVDM n) 52) (gSHARE_any : ∀ o, o < 256 → P pSHARE o) (gVDM_96 : P (pVDM n) 96) : Same P s0 (State.attachWait s n st c) := by
  unfold State.attachWait
  extract_lets -merge -underBinder +onlyGivenNames x0
  exact State.ccEnter_same _ _ (State.put_same _ _ _ hk gCC_12) gCC_16 gCC_12 (fun o ho => gPDL_any o ho) gVDM_64 gVDM_16 gPOL_12 gPOL_52 gPOL_16 gPOL_44 gGUARD_12 gVDM_52 (fun o ho => gSHARE_any o ho) gVDM_96

theorem State.attachOn_same (n : Port) (pin : ℕ) (st : CcState) (hk : Same P s0 s) (gCC_16 : P (pCC n) 16) (gCC_12 : P (pCC n) 12) (gPDL_any : ∀ o, o < 256 → P (pPDL n) o) (gVDM_64 : P (pVDM n) 64) (gVDM_16 : P (pVDM n) 16) (gPOL_12 : P (pPOL n) 12) (gPOL_52 : P (pPOL n) 52) (gPOL_16 : P (pPOL n) 16) (gPOL_44 : P (pPOL n) 44) (gGUARD_12 : P (pGUARD n) 12) (gVDM_52 : P (pVDM n) 52) (gSHARE_any : ∀ o, o < 256 → P pSHARE o) (gVDM_96 : P (pVDM n) 96) : Same P s0 (State.attachOn s n pin st) := by
  unfold State.attachOn
  extract_lets -merge -underBinder +onlyGivenNames x0 x1
  have hx1 : Same P s0 x1 := State.ccEnter_same _ _ hk gCC_16 gCC_12 (fun o ho => gPDL_any o ho) gVDM_64 gVDM_16 gPOL_12 gPOL_52 gPOL_16 gPOL_44 gGUARD_12 gVDM_52 (fun o ho => gSHARE_any o ho) gVDM_96
  try clear_value x1
  exact Same.ite (fun _ => State.modPort_same _ _ hx1) (fun _ => hx1)

theorem State.debWait_same (n : Port) (hk : Same P s0 s) : Same P s0 (State.debWait s n) := by
  unfold State.debWait
  exact State.modPort_same _ _ hk

theorem State.debounced_same (n : Port) (hk : Same P s0 s) (gCC_16 : P (pCC n) 16) (gCC_12 : P (pCC n) 12) (gPDL_any : ∀ o, o < 256 → P (pPDL n) o) (gVDM_64 : P (pVDM n) 64) (gVDM_16 : P (pVDM n) 16) (gPOL_12 : P (pPOL n) 12) (gPOL_52 : P (pPOL n) 52) (gPOL_16 : P (pPOL n) 16) (gPOL_44 : P (pPOL n) 44) (gGUARD_12 : P (pGUARD n) 12) (gVDM_52 : P (pVDM n) 52) (gSHARE_any : ∀ o, o < 256 → P pSHARE o) (gVDM_96 : P (pVDM n) 96) : Same P s0 (State.debounced s n) := by
  unfold State.debounced
  split
  · split
    · exact Same.ite (fun _ => State.ccEnter_same _ _ hk gCC_16 gCC_12 (fun o ho => gPDL_any o ho) gVDM_64 gVDM_16 gPOL_12 gPOL_52 gPOL_16 gPOL_44 gGUARD_12 gVDM_52 (fun o ho => gSHARE_any o ho) gVDM_96) (fun _ => Same.ite (fun _ => State.attachOn_same _ _ _ hk gCC_16 gCC_12 (fun o ho => gPDL_any o ho) gVDM_64 gVDM_16 gPOL_12 gPOL_52 gPOL_16 gPOL_44 gGUARD_12 gVDM_52 (fun o ho => gSHARE_any o ho) gVDM_96) (fun _ => State.debWait_same _ hk))
    · exact Same.ite (fun _ => Same.ite (fun _ => State.ccEnter_same _ _ hk gCC_16 gCC_12 (fun o ho => gPDL_any o ho) gVDM_64 gVDM_16 gPOL_12 gPOL_52 gPOL_16 gPOL_44 gGUARD_12 gVDM_52 (fun o ho => gSHARE_any o ho) gVDM_96) (fun _ => State.debWait_same _ hk)) (fun _ => hk)
  · split
    · exact Same.ite (fun _ => State.debWait_same _ hk) (fun _ => Same.ite (fun _ => State.ccEnter_same _ _ hk gCC_16 gCC_12 (fun o ho => gPDL_any o ho) gVDM_64 gVDM_16 gPOL_12 gPOL_52 gPOL_16 gPOL_44 gGUARD_12 gVDM_52 (fun o ho => gSHARE_any o ho) gVDM_96) (fun _ => State.attachOn_same _ _ _ hk gCC_16 gCC_12 (fun o ho => gPDL_any o ho) gVDM_64 gVDM_16 gPOL_12 gPOL_52 gPOL_16 gPOL_44 gGUARD_12 gVDM_52 (fun o ho => gSHARE_any o ho) gVDM_96))
    · exact Same.ite (fun _ => Same.ite (fun _ => State.ccEnter_same _ _ hk gCC_16 gCC_12 (fun o ho => gPDL_any o ho) gVDM_64 gVDM_16 gPOL_12 gPOL_52 gPOL_16 gPOL_44 gGUARD_12 gVDM_52 (fun o ho => gSHARE_any o ho) gVDM_96) (fun _ => Same.ite (fun _ => State.ccEnter_same _ _ hk gCC_16 gCC_12 (fun o ho => gPDL_any o ho) gVDM_64 gVDM_16 gPOL_12 gPOL_52 gPOL_16 gPOL_44 gGUARD_12 gVDM_52 (fun o ho => gSHARE_any o ho) gVDM_96) (fun _ => hk))) (fun _ => hk)
  · split
    · exact Same.ite (fun _ => State.attachOn_same _ _ _ hk gCC_16 gCC_12 (fun o ho => gPDL_any o ho) gVDM_64 gVDM_16 gPOL_12 gPOL_52 gPOL_16 gPOL_44 gGUARD_12 gVDM_52 (fun o ho => gSHARE_any o ho) gVDM_96) (fun _ => State.debWait_same _ hk)
    · exact hk
  · split
    · exact Same.ite (fun _ => State.attachOn_same _ _ _ hk gCC_16 gCC_12 (fun o ho => gPDL_any o ho) gVDM_64 gVDM_16 gPOL_12 gPOL_52 gPOL_16 gPOL_44 gGUARD_12 gVDM_52 (fun o ho => gSHARE_any o ho) gVDM_96) (fun _ => State.debWait_same _ hk)
    · exact hk
  · split
    · exact Same.ite (fun _ => State.attachOn_same _ _ _ hk gCC_16 gCC_12 (fun o ho => gPDL_any o ho) gVDM_64 gVDM_16 gPOL_12 gPOL_52 gPOL_16 gPOL_44 gGUARD_12 gVDM_52 (fun o ho => gSHARE_any o ho) gVDM_96) (fun _ => State.debWait_same _ hk)
    · exact hk
  · exact hk

theorem State.rpRead_same (n : Port) (hk : Same P s0 s) (gCC_12 : P (pCC n) 12) (gCC_16 : P (pCC n) 16) : Same P s0 (State.rpRead s n) := by
  unfold State.rpRead
  extract_lets -merge -underBinder +onlyGivenNames x0 x1 x2
  exact Same.ite (fun _ => hk) (fun _ => State.put_same _ _ _ (State.raiseIf_same _ _ _ hk gCC_16) gCC_12)

theorem State.pdDebounced_same (n : Port) (hk : Same P s0 s) (gCC_16 : P (pCC n) 16) (gCC_12 : P (pCC n) 12) (gPDL_any : ∀ o, o < 256 → P (pPDL n) o) (gVDM_64 : P (pVDM n) 64) (gVDM_16 : P (pVDM n) 16) (gPOL_12 : P (pPOL n) 12) (gPOL_52 : P (pPOL n) 52) (gPOL_16 : P (pPOL n) 16) (gPOL_44 : P (pPOL n) 44) (gGUARD_12 : P (pGUARD n) 12) (gVDM_52 : P (pVDM n) 52) (gSHARE_any : ∀ o, o < 256 → P pSHARE o) (gVDM_96 : P (pVDM n) 96) : Same P s0 (State.pdDebounced s n) := by
  unfold State.pdDebounced
  split
  · exact Same.ite (fun _ => State.ccEnter_same _ _ hk gCC_16 gCC_12 (fun o ho => gPDL_any o ho) gVDM_64 gVDM_16 gPOL_12 gPOL_52 gPOL_16 gPOL_44 gGUARD_12 gVDM_52 (fun o ho => gSHARE_any o ho) gVDM_96) (fun _ => State.rpRead_same _ hk gCC_12 gCC_16)
  · exact Same.ite (fun _ => State.ccEnter_same _ _ hk gCC_16 gCC_12 (fun o ho => gPDL_any o ho) gVDM_64 gVDM_16 gPOL_12 gPOL_52 gPOL_16 gPOL_44 gGUARD_12 gVDM_52 (fun o ho => gSHARE_any o ho) gVDM_96) (fun _ => hk)
  · split
    · exact State.attachOn_same _ _ _ hk gCC_16 gCC_12 (fun o ho => gPDL_any o ho) gVDM_64 gVDM_16 gPOL_12 gPOL_52 gPOL_16 gPOL_44 gGUARD_12 gVDM_52 (fun o ho => gSHARE_any o ho) gVDM_96
    · exact hk
  · exact Same.ite (fun _ => State.ccEnter_same _ _ hk gCC_16 gCC_12 (fun o ho => gPDL_any o ho) gVDM_64 gVDM_16 gPOL_12 gPOL_52 gPOL_16 gPOL_44 gGUARD_12 gVDM_52 (fun o ho => gSHARE_any o ho) gVDM_96) (fun _ => State.rpRead_same _ hk gCC_12 gCC_16)
  · exact Same.ite (fun _ => Same.ite (fun _ => State.debounced_same _ hk gCC_16 gCC_12 (fun o ho => gPDL_any o ho) gVDM_64 gVDM_16 gPOL_12 gPOL_52 gPOL_16 gPOL_44 gGUARD_12 gVDM_52 (fun o ho => gSHARE_any o ho) gVDM_96) (fun _ => State.ccEnter_same _ _ hk gCC_16 gCC_12 (fun o ho => gPDL_any o ho) gVDM_64 gVDM_16 gPOL_12 gPOL_52 gPOL_16 gPOL_44 gGUARD_12 gVDM_52 (fun o ho => gSHARE_any o ho) gVDM_96)) (fun _ => State.rpRead_same _ hk gCC_12 gCC_16)
  · exact State.debounced_same _ hk gCC_16 gCC_12 (fun o ho => gPDL_any o ho) gVDM_64 gVDM_16 gPOL_12 gPOL_52 gPOL_16 gPOL_44 gGUARD_12 gVDM_52 (fun o ho => gSHARE_any o ho) gVDM_96
  · exact Same.ite (fun _ => State.ccEnter_same _ _ hk gCC_16 gCC_12 (fun o ho => gPDL_any o ho) gVDM_64 gVDM_16 gPOL_12 gPOL_52 gPOL_16 gPOL_44 gGUARD_12 gVDM_52 (fun o ho => gSHARE_any o ho) gVDM_96) (fun _ => hk)
  · exact Same.ite (fun _ => State.ccEnter_same _ _ hk gCC_16 gCC_12 (fun o ho => gPDL_any o ho) gVDM_64 gVDM_16 gPOL_12 gPOL_52 gPOL_16 gPOL_44 gGUARD_12 gVDM_52 (fun o ho => gSHARE_any o ho) gVDM_96) (fun _ => hk)
  · exact Same.ite (fun _ => State.ccEnter_same _ _ hk gCC_16 gCC_12 (fun o ho => gPDL_any o ho) gVDM_64 gVDM_16 gPOL_12 gPOL_52 gPOL_16 gPOL_44 gGUARD_12 gVDM_52 (fun o ho => gSHARE_any o ho) gVDM_96) (fun _ => State.rpRead_same _ hk gCC_12 gCC_16)
  · exact Same.ite (fun _ => State.ccEnter_same _ _ hk gCC_16 gCC_12 (fun o ho => gPDL_any o ho) gVDM_64 gVDM_16 gPOL_12 gPOL_52 gPOL_16 gPOL_44 gGUARD_12 gVDM_52 (fun o ho => gSHARE_any o ho) gVDM_96) (fun _ => State.rpRead_same _ hk gCC_12 gCC_16)
  · exact hk

theorem State.shadowWatch_same (n : Port) (anew : Bool) (hk : Same P s0 s) (gCC_68 : P (pCC n) 68) : Same P s0 (State.shadowWatch s n anew) := by
  unfold State.shadowWatch
  extract_lets -merge -underBinder +onlyGivenNames x0 x1 x2
  exact Same.ite (fun _ => State.putB_same _ _ _ (State.putB_same _ _ _ hk gCC_68) gCC_68) (fun _ => hk)

theorem State.ccJudge_same (n : Port) (hk : Same P s0 s) (gCC_16 : P (pCC n) 16) (gCC_12 : P (pCC n) 12) (gPDL_any : ∀ o, o < 256 → P (pPDL n) o) (gVDM_64 : P (pVDM n) 64) (gVDM_16 : P (pVDM n) 16) (gPOL_12 : P (pPOL n) 12) (gPOL_52 : P (pPOL n) 52) (gPOL_16 : P (pPOL n) 16) (gPOL_44 : P (pPOL n) 44) (gGUARD_12 : P (pGUARD n) 12) (gVDM_52 : P (pVDM n) 52) (gSHARE_any : ∀ o, o < 256 → P pSHARE o) (gVDM_96 : P (pVDM n) 96) (gCC_68 : P (pCC n) 68) : Same P s0 (State.ccJudge s n) := by
  unfold State.ccJudge
  split
  · exact Same.ite (fun _ => State.attachWait_same _ _ _ hk gCC_16 gCC_12 (fun o ho => gPDL_any o ho) gVDM_64 gVDM_16 gPOL_12 gPOL_52 gPOL_16 gPOL_44 gGUARD_12 gVDM_52 (fun o ho => gSHARE_any o ho) gVDM_96) (fun _ => hk)
  · exact Same.ite (fun _ => State.attachWait_same _ _ _ hk gCC_16 gCC_12 (fun o ho => gPDL_any o ho) gVDM_64 gVDM_16 gPOL_12 gPOL_52 gPOL_16 gPOL_44 gGUARD_12 gVDM_52 (fun o ho => gSHARE_any o ho) gVDM_96) (fun _ => Same.ite (fun _ => State.attachWait_same _ _ _ hk gCC_16 gCC_12 (fun o ho => gPDL_any o ho) gVDM_64 gVDM_16 gPOL_12 gPOL_52 gPOL_16 gPOL_44 gGUARD_12 gVDM_52 (fun o ho => gSHARE_any o ho) gVDM_96) (fun _ => hk))
  · exact Same.ite (fun _ => State.ccEnter_same _ _ hk gCC_16 gCC_12 (fun o ho => gPDL_any o ho) gVDM_64 gVDM_16 gPOL_12 gPOL_52 gPOL_16 gPOL_44 gGUARD_12 gVDM_52 (fun o ho => gSHARE_any o ho) gVDM_96) (fun _ => hk)
  · exact State.shadowWatch_same _ _ hk gCC_68
  · exact hk

theorem State.ccStore_same (n : Port) (mv1 : ℕ) (mv2 : ℕ) (hk : Same P s0 s) : Same P s0 (State.ccStore s n mv1 mv2) := by
  unfold State.ccStore
  extract_lets -merge -underBinder +onlyGivenNames x0
  exact State.modCc_same _ _ hk

theorem State.ccLine_same (n : Port) (mv1 : ℕ) (mv2 : ℕ) (hk : Same P s0 s) (gCC_16 : P (pCC n) 16) (gCC_12 : P (pCC n) 12) (gPDL_any : ∀ o, o < 256 → P (pPDL n) o) (gVDM_64 : P (pVDM n) 64) (gVDM_16 : P (pVDM n) 16) (gPOL_12 : P (pPOL n) 12) (gPOL_52 : P (pPOL n) 52) (gPOL_16 : P (pPOL n) 16) (gPOL_44 : P (pPOL n) 44) (gGUARD_12 : P (pGUARD n) 12) (gVDM_52 : P (pVDM n) 52) (gSHARE_any : ∀ o, o < 256 → P pSHARE o) (gVDM_96 : P (pVDM n) 96) (gCC_68 : P (pCC n) 68) : Same P s0 (State.ccLine s n mv1 mv2) := by
  unfold State.ccLine
  extract_lets -merge -underBinder +onlyGivenNames x0
  have hx0 : Same P s0 x0 := State.ccStore_same _ _ _ hk
  try clear_value x0
  exact Same.ite (fun _ => State.ccJudge_same _ hx0 gCC_16 gCC_12 (fun o ho => gPDL_any o ho) gVDM_64 gVDM_16 gPOL_12 gPOL_52 gPOL_16 gPOL_44 gGUARD_12 gVDM_52 (fun o ho => gSHARE_any o ho) gVDM_96 gCC_68) (fun _ => hx0)

theorem State.vconnOn_same (n : Port) (hk : Same P s0 s) (gCC_12 : P (pCC n) 12) : Same P s0 (State.vconnOn s n) := by
  unfold State.vconnOn
  exact State.modPort_same _ _ (State.putB_same _ _ _ hk gCC_12)

theorem State.ccCfgApply_same (n : Port) (hk : Same P s0 s) : Same P s0 (State.ccCfgApply s n) := by
  unfold State.ccCfgApply
  extract_lets -merge -underBinder +onlyGivenNames x0 x1 x2 x3 x4 x5 x6 x7 x8 x9 x10 x11
  have hx11 : Same P s0 x11 := foldl_same _ hk (fun _ _ _ h12 => Same.mk' h12)
  try clear_value x11
  exact Same.mk' hx11

theorem State.clampRemoval_same (n : Port) (was : Bool) (hk : Same P s0 s) (gCC_16 : P (pCC n) 16) (gCC_12 : P (pCC n) 12) (gPDL_any : ∀ o, o < 256 → P (pPDL n) o) (gVDM_64 : P (pVDM n) 64) (gVDM_16 : P (pVDM n) 16) (gPOL_12 : P (pPOL n) 12) (gPOL_52 : P (pPOL n) 52) (gPOL_16 : P (pPOL n) 16) (gPOL_44 : P (pPOL n) 44) (gGUARD_12 : P (pGUARD n) 12) (gVDM_52 : P (pVDM n) 52) (gSHARE_any : ∀ o, o < 256 → P pSHARE o) (gVDM_96 : P (pVDM n) 96) : Same P s0 (State.clampRemoval s n was) := by
  unfold State.clampRemoval
  extract_lets -merge -underBinder +onlyGivenNames x0
  refine Same.ite (fun _ => ?_) (fun _ => ?_)
  · split
    · exact Same.ite (fun _ => State.ccEnter_same _ _ hk gCC_16 gCC_12 (fun o ho => gPDL_any o ho) gVDM_64 gVDM_16 gPOL_12 gPOL_52 gPOL_16 gPOL_44 gGUARD_12 gVDM_52 (fun o ho => gSHARE_any o ho) gVDM_96) (fun _ => State.modCc_same _ _ (State.putB_same _ _ _ hk gCC_12))
    · exact Same.ite (fun _ => State.ccEnter_same _ _ hk gCC_16 gCC_12 (fun o ho => gPDL_any o ho) gVDM_64 gVDM_16 gPOL_12 gPOL_52 gPOL_16 gPOL_44 gGUARD_12 gVDM_52 (fun o ho => gSHARE_any o ho) gVDM_96) (fun _ => State.modCc_same _ _ (State.putB_same _ _ _ hk gCC_12))
    · exact Same.ite (fun _ => State.ccEnter_same _ _ hk gCC_16 gCC_12 (fun o ho => gPDL_any o ho) gVDM_64 gVDM_16 gPOL_12 gPOL_52 gPOL_16 gPOL_44 gGUARD_12 gVDM_52 (fun o ho => gSHARE_any o ho) gVDM_96) (fun _ => State.modCc_same _ _ (State.putB_same _ _ _ hk gCC_12))
    · exact State.ccEnter_same _ _ hk gCC_16 gCC_12 (fun o ho => gPDL_any o ho) gVDM_64 gVDM_16 gPOL_12 gPOL_52 gPOL_16 gPOL_44 gGUARD_12 gVDM_52 (fun o ho => gSHARE_any o ho) gVDM_96
    · exact hk
  · exact hk

theorem State.clampRead_same (n : Port) (hk : Same P s0 s) (gCC_12 : P (pCC n) 12) (gCC_16 : P (pCC n) 16) : Same P s0 (State.clampRead s n) := by
  unfold State.clampRead
  extract_lets -merge -underBinder +onlyGivenNames x0
  have hx0 : Same P s0 x0 := State.modCc_same _ _ hk
  try clear_value x0
  exact Same.ite (fun _ => Same.ite (fun _ => hx0) (fun _ => State.rpRead_same _ hx0 gCC_12 gCC_16)) (fun _ => hk)

theorem State.ccOrders_same (n : Port) (hk : Same P s0 s) (gCC_16 : P (pCC n) 16) (gCC_12 : P (pCC n) 12) (gPDL_any : ∀ o, o < 256 → P (pPDL n) o) (gVDM_64 : P (pVDM n) 64) (gVDM_16 : P (pVDM n) 16) (gPOL_12 : P (pPOL n) 12) (gPOL_52 : P (pPOL n) 52) (gPOL_16 : P (pPOL n) 16) (gPOL_44 : P (pPOL n) 44) (gGUARD_12 : P (pGUARD n) 12) (gVDM_52 : P (pVDM n) 52) (gSHARE_any : ∀ o, o < 256 → P pSHARE o) (gVDM_96 : P (pVDM n) 96) : Same P s0 (State.ccOrders s n) := by
  unfold State.ccOrders
  extract_lets -merge -underBinder +onlyGivenNames x0 x1 x2
  have hx2 : Same P s0 x2 := State.modCc_same _ _ hk
  try clear_value x2
  exact Same.ite (fun _ => hx2) (fun _ => Same.ite (fun _ => State.ccEnter_same _ _ hx2 gCC_16 gCC_12 (fun o ho => gPDL_any o ho) gVDM_64 gVDM_16 gPOL_12 gPOL_52 gPOL_16 gPOL_44 gGUARD_12 gVDM_52 (fun o ho => gSHARE_any o ho) gVDM_96) (fun _ => Same.ite (fun _ => Same.ite (fun _ => State.joinedOff_same _ hx2 gGUARD_12) (fun _ => State.ccEnter_same _ _ (State.guardHalt_same _ hx2 gGUARD_12) gCC_16 gCC_12 (fun o ho => gPDL_any o ho) gVDM_64 gVDM_16 gPOL_12 gPOL_52 gPOL_16 gPOL_44 gGUARD_12 gVDM_52 (fun o ho => gSHARE_any o ho) gVDM_96)) (fun _ => hx2)))

theorem State.vconnTick_same (n : Port) (hk : Same P s0 s) (gCC_60 : P (pCC n) 60) : Same P s0 (State.vconnTick s n) := by
  unfold State.vconnTick
  extract_lets -merge -underBinder +onlyGivenNames x0 x1 x2
  have hx2 : Same P s0 x2 := Same.ite (fun _ => State.modCc_same _ _ hk) (fun _ => hk)
  try clear_value x2
  extract_lets -merge -underBinder +onlyGivenNames x3 x4 x5 x6 x7
  have hx7 : Same P s0 x7 := State.put_same _ _ _ (State.put_same _ _ _ hx2 gCC_60) gCC_60
  try clear_value x7
  extract_lets -merge -underBinder +onlyGivenNames x8
  have hx8 : Same P s0 x8 := State.putB_same _ _ _ hx7 gCC_60
  try clear_value x8
  exact Same.ite (fun _ => State.freshen_same hx8) (fun _ => hx8)

theorem State.takenRpTick_same (n : Port) (hk : Same P s0 s) : Same P s0 (State.takenRpTick s n) := by
  unfold State.takenRpTick
  split
  · exact Same.ite (fun _ => State.modCc_same _ _ hk) (fun _ => hk)
  · exact hk

theorem State.lineShow_same (n : Port) (hk : Same P s0 s) (gCC_56 : P (pCC n) 56) : Same P s0 (State.lineShow s n) := by
  unfold State.lineShow
  extract_lets -merge -underBinder +onlyGivenNames x0 x1
  have hx1 : Same P s0 x1 := State.put_same _ _ _ (State.put_same _ _ _ hk gCC_56) gCC_56
  try clear_value x1
  exact State.put_same _ _ _ (State.put_same _ _ _ hx1 gCC_56) gCC_56

theorem State.ccTick_same (n : Port) (hk : Same P s0 s) (gCC_12 : P (pCC n) 12) (gCC_16 : P (pCC n) 16) (gPDL_any : ∀ o, o < 256 → P (pPDL n) o) (gVDM_64 : P (pVDM n) 64) (gVDM_16 : P (pVDM n) 16) (gPOL_12 : P (pPOL n) 12) (gPOL_52 : P (pPOL n) 52) (gPOL_16 : P (pPOL n) 16) (gPOL_44 : P (pPOL n) 44) (gGUARD_12 : P (pGUARD n) 12) (gVDM_52 : P (pVDM n) 52) (gSHARE_any : ∀ o, o < 256 → P pSHARE o) (gVDM_96 : P (pVDM n) 96) (gCC_68 : P (pCC n) 68) (gCC_60 : P (pCC n) 60) (gCC_56 : P (pCC n) 56) : Same P s0 (State.ccTick s n) := by
  unfold State.ccTick
  extract_lets -merge -underBinder +onlyGivenNames x0 x1 x2 x3
  have hx3 : Same P s0 x3 := State.clampRead_same _ (State.ccOrders_same _ hk gCC_16 gCC_12 (fun o ho => gPDL_any o ho) gVDM_64 gVDM_16 gPOL_12 gPOL_52 gPOL_16 gPOL_44 gGUARD_12 gVDM_52 (fun o ho => gSHARE_any o ho) gVDM_96) gCC_12 gCC_16
  try clear_value x3
  extract_lets -merge -underBinder +onlyGivenNames x4
  have hx4 : Same P s0 x4 := State.takenRpTick_same _ (State.ccCfgApply_same _ hx3)
  try clear_value x4
  extract_lets -merge -underBinder +onlyGivenNames x5
  have hx5 : Same P s0 x5 := State.clampRemoval_same _ _ hx4 gCC_16 gCC_12 (fun o ho => gPDL_any o ho) gVDM_64 gVDM_16 gPOL_12 gPOL_52 gPOL_16 gPOL_44 gGUARD_12 gVDM_52 (fun o ho => gSHARE_any o ho) gVDM_96
  try clear_value x5
  extract_lets -merge -underBinder +onlyGivenNames x6 x7
  have hx7 : Same P s0 x7 := State.put_same _ _ _ hx5 gCC_12
  try clear_value x7
  extract_lets -merge -underBinder +onlyGivenNames x8 x9
  have hx9 : Same P s0 x9 := Same.ite (fun _ => State.ccEnter_same _ _ hx7 gCC_16 gCC_12 (fun o ho => gPDL_any o ho) gVDM_64 gVDM_16 gPOL_12 gPOL_52 gPOL_16 gPOL_44 gGUARD_12 gVDM_52 (fun o ho => gSHARE_any o ho) gVDM_96) (fun _ => Same.ite (fun _ => State.ccEnter_same _ _ hx7 gCC_16 gCC_12 (fun o ho => gPDL_any o ho) gVDM_64 gVDM_16 gPOL_12 gPOL_52 gPOL_16 gPOL_44 gGUARD_12 gVDM_52 (fun o ho => gSHARE_any o ho) gVDM_96) (fun _ => hx7))
  try clear_value x9
  extract_lets -merge -underBinder +onlyGivenNames x10
  have hx10 : Same P s0 x10 := Same.ite (fun _ => State.ccResume_same _ hx9 gCC_16 gCC_12 (fun o ho => gPDL_any o ho) gVDM_64 gVDM_16 gPOL_12 gPOL_52 gPOL_16 gPOL_44 gGUARD_12 gVDM_52 (fun o ho => gSHARE_any o ho) gVDM_96) (fun _ => hx9)
  try clear_value x10
  extract_lets -merge -underBinder +onlyGivenNames x11
  have hx11 : Same P s0 x11 := State.ccJudge_same _ hx10 gCC_16 gCC_12 (fun o ho => gPDL_any o ho) gVDM_64 gVDM_16 gPOL_12 gPOL_52 gPOL_16 gPOL_44 gGUARD_12 gVDM_52 (fun o ho => gSHARE_any o ho) gVDM_96 gCC_68
  try clear_value x11
  extract_lets -merge -underBinder +onlyGivenNames x12
  have hx12 : Same P s0 x12 := Same.ite (fun _ => State.debounced_same _ hx11 gCC_16 gCC_12 (fun o ho => gPDL_any o ho) gVDM_64 gVDM_16 gPOL_12 gPOL_52 gPOL_16 gPOL_44 gGUARD_12 gVDM_52 (fun o ho => gSHARE_any o ho) gVDM_96) (fun _ => hx11)
  try clear_value x12
  extract_lets -merge -underBinder +onlyGivenNames x13
  have hx13 : Same P s0 x13 := State.vconnTick_same _ (State.lineShow_same _ hx12 gCC_56) gCC_60
  try clear_value x13
  extract_lets -merge -underBinder +onlyGivenNames x14 x15
  have hx15 : Same P s0 x15 := Same.ite (fun _ => Same.ite (fun _ => Same.ite (fun _ => State.hrDone_same _ (State.modPort_same _ _ hx13) gPOL_16 gPOL_12) (fun _ => hx13)) (fun _ => State.modPort_same _ _ hx13)) (fun _ => hx13)
  try clear_value x15
  exact Same.ite (fun _ => State.postKept_same _ _ _ _ _ (State.modPort_same _ _ hx15)) (fun _ => hx15)

theorem State.lineOut_same (n : Port) (k : ℕ) (bs : List Byte) (hk : Same P s0 s) : Same P s0 (State.lineOut s n k bs) := by
  unfold State.lineOut
  extract_lets -merge -underBinder +onlyGivenNames x0
  exact State.modPdl_same _ _ hk

theorem State.ringWrite_same (n : Port) (sop : ℕ) (flags : ℕ) (xbuf : ℕ) (status : ℕ) (chunks : ℕ) (msg : List Byte) (hk : Same P s0 s) (gPDL_68 : P (pPDL n) 68) : Same P s0 (State.ringWrite s n sop flags xbuf status chunks msg) := by
  unfold State.ringWrite
  extract_lets -merge -underBinder +onlyGivenNames x0 x1 x2 x3
  have hx3 : Same P s0 x3 := State.stRecord_same _ _ hk
  try clear_value x3
  exact State.incr_same _ _ (State.put_same _ _ _ hx3 gPDL_68) gPDL_68

theorem State.pdlErrPost_same (n : Port) (hk : Same P s0 s) : Same P s0 (State.pdlErrPost s n) := by
  unfold State.pdlErrPost
  exact State.postPort_same _ _ _ _ _ hk

theorem State.chunkErr_same (n : Port) (sop : ℕ) (code : ℕ) (chunks : ℕ) (hk : Same P s0 s) (gPDL_100 : P (pPDL n) 100) (gPDL_68 : P (pPDL n) 68) (gPDL_16 : P (pPDL n) 16) : Same P s0 (State.chunkErr s n sop code chunks) := by
  unfold State.chunkErr
  extract_lets -merge -underBinder +onlyGivenNames x0
  have hx0 : Same P s0 x0 := Same.ite (fun _ => State.bump_same _ _ _ hk gPDL_100) (fun _ => State.ringWrite_same _ _ _ _ _ _ _ hk gPDL_68)
  try clear_value x0
  exact State.pdlErrPost_same _ (State.raise_same _ _ hx0 gPDL_16)

theorem State.reasmDel_same (n : Port) (k : ℕ) (hk : Same P s0 s) : Same P s0 (State.reasmDel s n k) := by
  unfold State.reasmDel
  exact State.modPdl_same _ _ hk

theorem State.reasmSet_same (n : Port) (r : Reasm) (hk : Same P s0 s) : Same P s0 (State.reasmSet s n r) := by
  unfold State.reasmSet
  exact State.modPdl_same _ _ hk

theorem State.reasmAbort_same (n : Port) (k : ℕ) (code : ℕ) (hk : Same P s0 s) (gPDL_any : ∀ o, o < 256 → P (pPDL n) o) : Same P s0 (State.reasmAbort s n k code) := by
  unfold State.reasmAbort
  split
  · exact hk
  · exact State.chunkErr_same _ _ _ _ (State.put_same _ _ _ (State.reasmDel_same _ _ hk) (gPDL_any _ (by (try simp only [List.mem_range, List.mem_cons, List.not_mem_nil, or_false] at hm); (try simp only [Fld.at, rxBusyBit, PDL.XBUF_STAT_RX_BUSY]); omega))) (gPDL_any _ (by decide)) (gPDL_any _ (by decide)) (gPDL_any _ (by decide))

theorem State.ackStore_same (n : Port) (k : ℕ) (id : ℕ) (hk : Same P s0 s) (gPDL_any : ∀ o, o < 256 → P (pPDL n) o) : Same P s0 (State.ackStore s n k id) := by
  unfold State.ackStore
  extract_lets -merge -underBinder +onlyGivenNames x0
  have hx0 : Same P s0 x0 := State.msgidPut_same _ _ _ _ (State.msgidPut_same _ _ _ _ hk (fun o ho => gPDL_any o ho)) (fun o ho => gPDL_any o ho)
  try clear_value x0
  exact State.modPdl_same _ _ hx0

theorem State.rxFull_same (n : Port) (hk : Same P s0 s) (gPDL_100 : P (pPDL n) 100) (gPDL_16 : P (pPDL n) 16) : Same P s0 (State.rxFull s n) := by
  unfold State.rxFull
  exact State.pdlErrPost_same _ (State.bump_same _ _ _ (State.raise_same _ _ hk gPDL_16) gPDL_100)

theorem State.rxStoreErr_same (n : Port) (hk : Same P s0 s) (gPDL_100 : P (pPDL n) 100) (gPDL_16 : P (pPDL n) 16) : Same P s0 (State.rxStoreErr s n) := by
  unfold State.rxStoreErr
  exact State.pdlErrPost_same _ (State.bump_same _ _ _ (State.raise_same _ _ hk gPDL_16) gPDL_100)

theorem State.fwRecord_same (n : Port) (i : ℕ) (sop : ℕ) (flags : ℕ) (xbuf : ℕ) (msg : List Byte) (hk : Same P s0 s) : Same P s0 (State.fwRecord s n i sop flags xbuf msg) := by
  unfold State.fwRecord
  extract_lets -merge -underBinder +onlyGivenNames x0
  exact State.stRecord_same _ _ hk

theorem State.txReq_same (n : Port) (i : ℕ) (hk : Same P s0 s) (gPDL_16 : P (pPDL n) 16) : Same P s0 (State.txReq s n i) := by
  unfold State.txReq
  extract_lets -merge -underBinder +onlyGivenNames x0
  exact Same.ite (fun _ => State.lockedWrite_same _ hk gPDL_16) (fun _ => State.modPdl_same _ _ (State.stPut_same _ _ _ hk))

theorem State.fwCompose_same (n : Port) (m : FwMsg) (hk : Same P s0 s) (gPDL_16 : P (pPDL n) 16) : Same P s0 (State.fwCompose s n m) := by
  unfold State.fwCompose
  extract_lets -merge -underBinder +onlyGivenNames x0 x1
  have hx1 : Same P s0 x1 := by
    unfold x1
    split
    · exact State.fwRecord_same _ _ _ _ _ _ hk
    · extract_lets -merge -underBinder +onlyGivenNames x2
      extract_lets -merge -underBinder +onlyGivenNames x3
      exact State.fwRecord_same _ _ _ _ _ _ (State.stRecord_same _ _ hk)
  try clear_value x1
  extract_lets -merge -underBinder +onlyGivenNames x4
  have hx4 : Same P s0 x4 := State.modFw_same _ _ hx1
  try clear_value x4
  exact State.txReq_same _ _ hx4 gPDL_16

theorem State.fwFlushGo_same (n : Port) (l : List FwMsg) (hk : Same P s0 s) (gPDL_16 : P (pPDL n) 16) : Same P s0 (State.fwFlushGo s n l) := by
  induction l generalizing s with
  | nil => exact State.modFw_same _ _ hk
  | cons m l ih => exact Same.ite (fun _ => ih (State.fwCompose_same _ _ hk gPDL_16)) (fun _ => State.modFw_same _ _ hk)

theorem State.fwFlush_same (n : Port) (hk : Same P s0 s) (gPDL_16 : P (pPDL n) 16) : Same P s0 (State.fwFlush s n) := by
  unfold State.fwFlush
  exact State.fwFlushGo_same _ _ hk gPDL_16

theorem State.txOverAll_same (n : Port) (pick : State → ℕ → Bool) (status : ℕ) (hk : Same P s0 s) (gPDL_any : ∀ o, o < 256 → P (pPDL n) o) (gVDM_64 : P (pVDM n) 64) (gVDM_16 : P (pVDM n) 16) : Same P s0 (State.txOverAll s n pick status) := by
  unfold State.txOverAll
  extract_lets -merge -underBinder +onlyGivenNames x0 x1
  have hx1 : Same P s0 x1 := State.txEndAll_same _ _ _ hk (fun o ho => gPDL_any o ho) gVDM_64 gVDM_16
  try clear_value x1
  exact Same.ite (fun _ => hx1) (fun _ => Same.ite (fun _ => State.hardResetStart_same _ hx1 (fun o ho => gPDL_any o ho) gVDM_64 gVDM_16) (fun _ => State.fwFlush_same _ hx1 (gPDL_any _ (by decide))))

theorem State.rxDiscard_same (n : Port) (k : ℕ) (hk : Same P s0 s) (gPDL_any : ∀ o, o < 256 → P (pPDL n) o) (gVDM_64 : P (pVDM n) 64) (gVDM_16 : P (pVDM n) 16) : Same P s0 (State.rxDiscard s n k) := by
  unfold State.rxDiscard
  exact State.txOverAll_same _ _ _ hk (fun o ho => gPDL_any o ho) gVDM_64 gVDM_16

theorem State.answerQueue_same (n : Port) (k : ℕ) (hk : Same P s0 s) : Same P s0 (State.answerQueue s n k) := by
  unfold State.answerQueue
  extract_lets -merge -underBinder +onlyGivenNames x0
  exact State.modPdl_same _ _ hk

theorem State.bistHandle_same (n : Port) (k : ℕ) (mode : ℕ) (hk : Same P s0 s) (gPDL_16 : P (pPDL n) 16) : Same P s0 (State.bistHandle s n k mode).2 := by
  unfold State.bistHandle
  extract_lets -merge -underBinder +onlyGivenNames x0 x1
  have hx1 : Same P s0 x1 := State.raise_same _ _ hk gPDL_16
  try clear_value x1
  refine Same.iteSnd (fun _ => ?_) (fun _ => ?_)
  · refine Same.mkSnd ?_
    exact State.modPdl_same _ _ hx1
  · refine Same.iteSnd (fun _ => ?_) (fun _ => ?_)
    · refine Same.mkSnd ?_
      exact State.modPdl_same _ _ hx1
    · refine Same.mkSnd ?_
      exact hx1

theorem State.polQueue_same (n : Port) (c : PolCmd) (hk : Same P s0 s) : Same P s0 (State.polQueue s n c) := by
  unfold State.polQueue
  exact State.modPol_same _ _ hk

theorem State.commitInForce_same (n : Port) (gen : ℕ) (hk : Same P s0 s) (gPOL_any : ∀ o, o < 256 → P (pPOL n) o) : Same P s0 (State.commitInForce s n gen) := by
  unfold State.commitInForce
  exact State.polQueue_same _ _ (State.put_same _ _ _ hk (gPOL_any _ (by (try simp only [List.mem_range, List.mem_cons, List.not_mem_nil, or_false] at hm); (try simp only [Fld.at, POL.CON_FLAGS_FLAGS]); omega)))

theorem State.fwRecorded_same (n : Port) (k : ℕ) (h : ℕ) (bytes : List Byte) (hk : Same P s0 s) (gPDL_any : ∀ o, o < 256 → P (pPDL n) o) (gVDM_64 : P (pVDM n) 64) (gVDM_16 : P (pVDM n) 16) (gPOL_any : ∀ o, o < 256 → P (pPOL n) o) : Same P s0 (State.fwRecorded s n k h bytes) := by
  unfold State.fwRecorded
  refine Same.ite (fun _ => ?_) (fun _ => ?_)
  · exact hk
  · refine Same.ite (fun _ => ?_) (fun _ => ?_)
    · exact State.hardResetStart_same _ hk (fun o ho => gPDL_any o ho) gVDM_64 gVDM_16
    · refine Same.ite (fun _ => ?_) (fun _ => ?_)
      · split
        · exact hk
        · exact State.polQueue_same _ _ (State.modFw_same _ _ hk)
        · exact State.polQueue_same _ _ (State.modFw_same _ _ hk)
      · exact Same.ite (fun _ => State.modFw_same _ _ hk) (fun _ => Same.ite (fun _ => State.commitInForce_same _ _ (State.modFw_same _ _ hk) (fun o ho => gPOL_any o ho)) (fun _ => Same.ite (fun _ => State.modFw_same _ _ hk) (fun _ => hk)))

theorem State.rxRecorded_same (n : Port) (k : ℕ) (h : ℕ) (bytes : List Byte) {write : State → ℕ → State} (chunked : Bool) (unchunked : Bool) (hk : Same P s0 s) (hwrite : ∀ a0 a1, Same P s0 a0 → Same P s0 (write a0 a1)) (gPDL_any : ∀ o, o < 256 → P (pPDL n) o) (gVDM_64 : P (pVDM n) 64) (gVDM_16 : P (pVDM n) 16) (gSHARE_any : ∀ o, o < 256 → P pSHARE o) (gPOL_any : ∀ o, o < 256 → P (pPOL n) o) : Same P s0 (State.rxRecorded s n k h bytes write chunked unchunked) := by
  unfold State.rxRecorded
  extract_lets -merge -underBinder +onlyGivenNames x0 x1
  split
  · rename_i _ y2 e2
    have hy2 : Same P s0 y2 := by
      refine Same.snd e2 ?_
      refine Same.iteSnd (fun _ => ?_) (fun _ => ?_)
      · refine State.bistHandle_same _ _ _ ?_ (gPDL_any _ (by decide))
        exact hk
      · refine Same.mkSnd ?_
        exact hk
    extract_lets -merge -underBinder +onlyGivenNames x3 x4
    have hx4 : Same P s0 x4 := by
      unfold x4
      refine hwrite _ _ ?_
      exact hy2
    try clear_value x4
    extract_lets -merge -underBinder +onlyGivenNames x5
    have hx5 : Same P s0 x5 := State.ackStore_same _ _ _ hx4 (fun o ho => gPDL_any o ho)
    try clear_value x5
    extract_lets -merge -underBinder +onlyGivenNames x6
    have hx6 : Same P s0 x6 := State.rxDiscard_same _ _ hx5 (fun o ho => gPDL_any o ho) gVDM_64 gVDM_16
    try clear_value x6
    extract_lets -merge -underBinder +onlyGivenNames x7
    have hx7 : Same P s0 x7 := State.bump_same _ _ _ (State.raise_same _ _ hx6 (gPDL_any _ (by decide))) (gPDL_any _ (by decide))
    try clear_value x7
    extract_lets -merge -underBinder +onlyGivenNames x8
    have hx8 : Same P s0 x8 := State.postPort_same _ _ _ _ _ hx7
    try clear_value x8
    extract_lets -merge -underBinder +onlyGivenNames x9
    have hx9 : Same P s0 x9 := Same.ite (fun _ => hx8) (fun _ => State.reasmAbort_same _ _ _ hx8 (fun o ho => gPDL_any o ho))
    try clear_value x9
    extract_lets -merge -underBinder +onlyGivenNames x10
    have hx10 : Same P s0 x10 := Same.ite (fun _ => State.trimReject_same _ hx9 (fun o ho => gSHARE_any o ho)) (fun _ => hx9)
    try clear_value x10
    extract_lets -merge -underBinder +onlyGivenNames x11
    have hx11 : Same P s0 x11 := Same.ite (fun _ => State.answerQueue_same _ _ hx10) (fun _ => hx10)
    try clear_value x11
    exact State.fwRecorded_same _ _ _ _ hx11 (fun o ho => gPDL_any o ho) gVDM_64 gVDM_16 (fun o ho => gPOL_any o ho)

theorem State.rxMessage_same (n : Port) (k : ℕ) (h : ℕ) (f : PdFrame) (flags : ℕ) (hk : Same P s0 s) (gPDL_any : ∀ o, o < 256 → P (pPDL n) o) (gVDM_64 : P (pVDM n) 64) (gVDM_16 : P (pVDM n) 16) (gSHARE_any : ∀ o, o < 256 → P pSHARE o) (gPOL_any : ∀ o, o < 256 → P (pPOL n) o) : Same P s0 (State.rxMessage s n k h f flags) := by
  unfold State.rxMessage
  exact Same.ite (fun _ => State.rxFull_same _ hk (gPDL_any _ (by decide)) (gPDL_any _ (by decide))) (fun _ => Same.ite (fun _ => State.rxStoreErr_same _ hk (gPDL_any _ (by decide)) (gPDL_any _ (by decide))) (fun _ => State.rxRecorded_same _ _ _ _ _ _ hk (fun _ _ h0 => State.ringWrite_same _ _ _ _ _ _ _ h0 (gPDL_any _ (by decide))) (fun o ho => gPDL_any o ho) gVDM_64 gVDM_16 (fun o ho => gSHARE_any o ho) (fun o ho => gPOL_any o ho)))

theorem State.rxChunkData_same (n : Port) (k : ℕ) (h : ℕ) (f : PdFrame) (r : Reasm) (hk : Same P s0 s) (gPDL_any : ∀ o, o < 256 → P (pPDL n) o) (gVDM_64 : P (pVDM n) 64) (gVDM_16 : P (pVDM n) 16) (gSHARE_any : ∀ o, o < 256 → P pSHARE o) (gPOL_any : ∀ o, o < 256 → P (pPOL n) o) : Same P s0 (State.rxChunkData s n k h f r) := by
  unfold State.rxChunkData
  extract_lets -merge -underBinder +onlyGivenNames x0 x1 x2 x3 x4
  have hx4 : Same P s0 x4 := State.stWrite_same _ _ hk
  try clear_value x4
  extract_lets -merge -underBinder +onlyGivenNames x5 x6
  have hx6 : Same P s0 x6 := State.stPut_same _ _ _ hx4
  try clear_value x6
  extract_lets -merge -underBinder +onlyGivenNames x7
  have hx7 : Same P s0 x7 := State.put_same _ _ _ (State.reasmDel_same _ _ hx6) (gPDL_any _ (by (try simp only [List.mem_range, List.mem_cons, List.not_mem_nil, or_false] at hm); simp only [rxReadyBit, PDL.XBUF_STAT_RX_BUSY]; omega))
  try clear_value x7
  exact Same.ite (fun _ => State.rxFull_same _ hk (gPDL_any _ (by decide)) (gPDL_any _ (by decide))) (fun _ => Same.ite (fun _ => State.rxStoreErr_same _ hk (gPDL_any _ (by decide)) (gPDL_any _ (by decide))) (fun _ => Same.ite (fun _ => State.rxRecorded_same _ _ _ _ _ _ hx7 (fun _ _ h8 => State.ringWrite_same _ _ _ _ _ _ _ h8 (gPDL_any _ (by decide))) (fun o ho => gPDL_any o ho) gVDM_64 gVDM_16 (fun o ho => gSHARE_any o ho) (fun o ho => gPOL_any o ho)) (fun _ => State.ackStore_same _ _ _ (State.reasmSet_same _ _ hx4) (fun o ho => gPDL_any o ho))))

theorem State.rxChunkFirst_same (n : Port) (k : ℕ) (h : ℕ) (f : PdFrame) (size : ℕ) (hk : Same P s0 s) (gPDL_any : ∀ o, o < 256 → P (pPDL n) o) (gVDM_64 : P (pVDM n) 64) (gVDM_16 : P (pVDM n) 16) (gSHARE_any : ∀ o, o < 256 → P pSHARE o) (gPOL_any : ∀ o, o < 256 → P (pPOL n) o) : Same P s0 (State.rxChunkFirst s n k h f size) := by
  unfold State.rxChunkFirst
  refine Same.ite (fun _ => ?_) (fun _ => ?_)
  · exact State.chunkErr_same _ _ _ _ (State.ackStore_same _ _ _ hk (fun o ho => gPDL_any o ho)) (gPDL_any _ (by decide)) (gPDL_any _ (by decide)) (gPDL_any _ (by decide))
  · split
    · exact State.rxFull_same _ hk (gPDL_any _ (by decide)) (gPDL_any _ (by decide))
    · extract_lets -merge -underBinder +onlyGivenNames x0
      have hx0 : Same P s0 x0 := State.stWrite_same _ _ hk
      try clear_value x0
      extract_lets -merge -underBinder +onlyGivenNames x1
      have hx1 : Same P s0 x1 := State.put_same _ _ _ hx0 (gPDL_any _ (by (try simp only [List.mem_range, List.mem_cons, List.not_mem_nil, or_false] at hm); (try simp only [Fld.at, rxBusyBit, PDL.XBUF_STAT_RX_BUSY]); omega))
      try clear_value x1
      extract_lets -merge -underBinder +onlyGivenNames x2
      exact Same.ite (fun _ => State.rxStoreErr_same _ hk (gPDL_any _ (by decide)) (gPDL_any _ (by decide))) (fun _ => Same.ite (fun _ => State.rxFull_same _ hk (gPDL_any _ (by decide)) (gPDL_any _ (by decide))) (fun _ => State.rxChunkData_same _ _ _ _ _ (State.reasmSet_same _ _ hx1) (fun o ho => gPDL_any o ho) gVDM_64 gVDM_16 (fun o ho => gSHARE_any o ho) (fun o ho => gPOL_any o ho)))

theorem State.rxChunk_same (n : Port) (k : ℕ) (h : ℕ) (f : PdFrame) (size : ℕ) (num : ℕ) (hk : Same P s0 s) (gPDL_any : ∀ o, o < 256 → P (pPDL n) o) (gVDM_64 : P (pVDM n) 64) (gVDM_16 : P (pVDM n) 16) (gSHARE_any : ∀ o, o < 256 → P pSHARE o) (gPOL_any : ∀ o, o < 256 → P (pPOL n) o) : Same P s0 (State.rxChunk s n k h f size num) := by
  unfold State.rxChunk
  split
  · exact Same.ite (fun _ => State.rxChunkFirst_same _ _ _ _ _ hk (fun o ho => gPDL_any o ho) gVDM_64 gVDM_16 (fun o ho => gSHARE_any o ho) (fun o ho => gPOL_any o ho)) (fun _ => State.ackStore_same _ _ _ hk (fun o ho => gPDL_any o ho))
  · extract_lets -merge -underBinder +onlyGivenNames x0
    have hx0 : Same P s0 x0 := State.reasmAbort_same _ _ _ hk (fun o ho => gPDL_any o ho)
    try clear_value x0
    extract_lets -merge -underBinder +onlyGivenNames x1
    have hx1 : Same P s0 x1 := State.reasmAbort_same _ _ _ hk (fun o ho => gPDL_any o ho)
    try clear_value x1
    exact Same.ite (fun _ => Same.ite (fun _ => State.rxChunkFirst_same _ _ _ _ _ hx0 (fun o ho => gPDL_any o ho) gVDM_64 gVDM_16 (fun o ho => gSHARE_any o ho) (fun o ho => gPOL_any o ho)) (fun _ => State.ackStore_same _ _ _ hx0 (fun o ho => gPDL_any o ho))) (fun _ => Same.ite (fun _ => Same.ite (fun _ => State.rxChunkFirst_same _ _ _ _ _ hx1 (fun o ho => gPDL_any o ho) gVDM_64 gVDM_16 (fun o ho => gSHARE_any o ho) (fun o ho => gPOL_any o ho)) (fun _ => State.ackStore_same _ _ _ hx1 (fun o ho => gPDL_any o ho))) (fun _ => Same.ite (fun _ => State.ackStore_same _ _ _ (State.reasmAbort_same _ _ _ hk (fun o ho => gPDL_any o ho)) (fun o ho => gPDL_any o ho)) (fun _ => State.rxChunkData_same _ _ _ _ _ hk (fun o ho => gPDL_any o ho) gVDM_64 gVDM_16 (fun o ho => gSHARE_any o ho) (fun o ho => gPOL_any o ho))))

theorem State.rxChunkReq_same (n : Port) (k : ℕ) (h : ℕ) (f : PdFrame) (num : ℕ) (hk : Same P s0 s) (gPDL_any : ∀ o, o < 256 → P (pPDL n) o) (gVDM_64 : P (pVDM n) 64) (gVDM_16 : P (pVDM n) 16) (gSHARE_any : ∀ o, o < 256 → P pSHARE o) (gPOL_any : ∀ o, o < 256 → P (pPOL n) o) : Same P s0 (State.rxChunkReq s n k h f num) := by
  unfold State.rxChunkReq
  extract_lets -merge -underBinder +onlyGivenNames x0
  split
  · exact Same.ite (fun _ => State.modPdl_same _ _ (State.ackStore_same _ _ _ hk (fun o ho => gPDL_any o ho))) (fun _ => State.rxMessage_same _ _ _ _ _ hk (fun o ho => gPDL_any o ho) gVDM_64 gVDM_16 (fun o ho => gSHARE_any o ho) (fun o ho => gPOL_any o ho))
  · exact State.rxMessage_same _ _ _ _ _ hk (fun o ho => gPDL_any o ho) gVDM_64 gVDM_16 (fun o ho => gSHARE_any o ho) (fun o ho => gPOL_any o ho)

theorem State.fwPut_same (n : Port) (m : FwMsg) (hk : Same P s0 s) (gPDL_16 : P (pPDL n) 16) : Same P s0 (State.fwPut s n m) := by
  unfold State.fwPut
  exact Same.ite (fun _ => State.fwFlush_same _ (State.modFw_same _ _ hk) gPDL_16) (fun _ => hk)

theorem State.fwAfter_same (n : Port) (m : FwMsg) (status : ℕ) (hk : Same P s0 s) (gPDL_any : ∀ o, o < 256 → P (pPDL n) o) (gPOL_any : ∀ o, o < 256 → P (pPOL n) o) (gVDM_64 : P (pVDM n) 64) (gVDM_16 : P (pVDM n) 16) : Same P s0 (State.fwAfter s n m status) := by
  unfold State.fwAfter
  refine Same.ite (fun _ => ?_) (fun _ => ?_)
  · exact State.fwPut_same _ _ hk (gPDL_any _ (by decide))
  · split
    · exact Same.ite (fun _ => State.polQueue_same _ _ (State.polQueue_same _ _ hk)) (fun _ => hk)
    · exact Same.ite (fun _ => State.commitInForce_same _ _ hk (fun o ho => gPOL_any o ho)) (fun _ => State.hardResetStart_same _ hk (fun o ho => gPDL_any o ho) gVDM_64 gVDM_16)
    · exact Same.ite (fun _ => State.polQueue_same _ _ hk) (fun _ => hk)
    · exact hk
    · exact hk
    · exact hk

theorem State.txOver_same (n : Port) (i : ℕ) (status : ℕ) (hk : Same P s0 s) (gPDL_any : ∀ o, o < 256 → P (pPDL n) o) (gVDM_64 : P (pVDM n) 64) (gVDM_16 : P (pVDM n) 16) (gPOL_any : ∀ o, o < 256 → P (pPOL n) o) : Same P s0 (State.txOver s n i status) := by
  unfold State.txOver
  extract_lets -merge -underBinder +onlyGivenNames x0
  clear_value x0
  extract_lets -merge -underBinder +onlyGivenNames x1
  have hx1 : Same P s0 x1 := State.txEnd_same _ _ _ hk (fun o ho => gPDL_any o ho) gVDM_64 gVDM_16
  try clear_value x1
  refine Same.ite (fun _ => ?_) (fun _ => ?_)
  · refine State.fwFlush_same _ ?_ (gPDL_any _ (by decide))
    split
    · exact State.fwAfter_same _ _ _ hx1 (fun o ho => gPDL_any o ho) (fun o ho => gPOL_any o ho) gVDM_64 gVDM_16
    · exact hx1
  · exact hx1

theorem State.chunkWait_same (n : Port) (hk : Same P s0 s) : Same P s0 (State.chunkWait s n) := by
  unfold State.chunkWait
  extract_lets -merge -underBinder +onlyGivenNames x0
  exact State.modPdl_same _ _ hk

theorem State.goodCrc_same (n : Port) (k : ℕ) (id : ℕ) (hk : Same P s0 s) (gPDL_any : ∀ o, o < 256 → P (pPDL n) o) (gVDM_64 : P (pVDM n) 64) (gVDM_16 : P (pVDM n) 16) (gPOL_any : ∀ o, o < 256 → P (pPOL n) o) : Same P s0 (State.goodCrc s n k id) := by
  unfold State.goodCrc
  extract_lets -merge -underBinder +onlyGivenNames x0 x1 x2
  have hx2 : Same P s0 x2 := State.bump_same _ _ _ hk (gPDL_any _ (by decide))
  try clear_value x2
  split
  · extract_lets -merge -underBinder +onlyGivenNames x3
    have hx3 : Same P s0 x3 := State.txCtrUp_same _ _ (State.modPdl_same _ _ hk) (fun o ho => gPDL_any o ho)
    try clear_value x3
    refine Same.ite (fun _ => ?_) (fun _ => ?_)
    · exact State.bump_same _ _ _ (State.raise_same _ _ hx3 (gPDL_any _ (by decide))) (gPDL_any _ (by decide))
    · split
      · exact State.chunkWait_same _ (State.reasmSet_same _ _ hx3)
      · exact hx3
  · split
    · extract_lets -merge -underBinder +onlyGivenNames x4
      have hx4 : Same P s0 x4 := Same.ite (fun _ => State.modPdl_same _ _ hk) (fun _ => hk)
      try clear_value x4
      exact Same.ite (fun _ => Same.ite (fun _ => State.chunkWait_same _ (State.modPdl_same _ _ (State.txCtrUp_same _ _ hk (fun o ho => gPDL_any o ho)))) (fun _ => State.txOver_same _ _ _ hx4 (fun o ho => gPDL_any o ho) gVDM_64 gVDM_16 (fun o ho => gPOL_any o ho))) (fun _ => hx2)
    · exact hx2

theorem State.rxValid_same (n : Port) (k : ℕ) (f : PdFrame) (hk : Same P s0 s) (gPDL_any : ∀ o, o < 256 → P (pPDL n) o) (gVDM_64 : P (pVDM n) 64) (gVDM_16 : P (pVDM n) 16) (gPOL_any : ∀ o, o < 256 → P (pPOL n) o) (gSHARE_any : ∀ o, o < 256 → P pSHARE o) : Same P s0 (State.rxValid s n k f) := by
  unfold State.rxValid
  extract_lets -merge -underBinder +onlyGivenNames x0 x1 x2 x3 x4 x5 x6 x7
  have hx7 : Same P s0 x7 := Same.ite (fun _ => State.raise_same _ _ (State.sopReset_same _ _ hk (fun o ho => gPDL_any o ho)) (gPDL_any _ (by decide))) (fun _ => hk)
  try clear_value x7
  extract_lets -merge -underBinder +onlyGivenNames x8 x9
  exact Same.ite (fun _ => hk) (fun _ => Same.ite (fun _ => Same.ite (fun _ => State.modPdl_same _ _ hk) (fun _ => hk)) (fun _ => Same.ite (fun _ => State.bump_same _ _ _ hk (gPDL_any _ (by decide))) (fun _ => Same.ite (fun _ => State.goodCrc_same _ _ _ hk (fun o ho => gPDL_any o ho) gVDM_64 gVDM_16 (fun o ho => gPOL_any o ho)) (fun _ => Same.ite (fun _ => State.bump_same _ _ _ (State.modPdl_same _ _ hx7) (gPDL_any _ (by decide))) (fun _ => Same.ite (fun _ => Same.ite (fun _ => State.rxMessage_same _ _ _ _ _ hx7 (fun o ho => gPDL_any o ho) gVDM_64 gVDM_16 (fun o ho => gSHARE_any o ho) (fun o ho => gPOL_any o ho)) (fun _ => Same.ite (fun _ => State.rxChunkReq_same _ _ _ _ _ hx7 (fun o ho => gPDL_any o ho) gVDM_64 gVDM_16 (fun o ho => gSHARE_any o ho) (fun o ho => gPOL_any o ho)) (fun _ => State.rxChunk_same _ _ _ _ _ _ hx7 (fun o ho => gPDL_any o ho) gVDM_64 gVDM_16 (fun o ho => gSHARE_any o ho) (fun o ho => gPOL_any o ho)))) (fun _ => State.rxMessage_same _ _ _ _ _ hx7 (fun o ho => gPDL_any o ho) gVDM_64 gVDM_16 (fun o ho => gSHARE_any o ho) (fun o ho => gPOL_any o ho)))))))

theorem State.rxFrame_same (n : Port) (f : PdFrame) (hk : Same P s0 s) (gPDL_any : ∀ o, o < 256 → P (pPDL n) o) (gCC_12 : P (pCC n) 12) (gVDM_64 : P (pVDM n) 64) (gVDM_16 : P (pVDM n) 16) (gPOL_any : ∀ o, o < 256 → P (pPOL n) o) (gVDM_52 : P (pVDM n) 52) (gSHARE_any : ∀ o, o < 256 → P pSHARE o) (gVDM_96 : P (pVDM n) 96) : Same P s0 (State.rxFrame s n f) := by
  unfold State.rxFrame
  extract_lets -merge -underBinder +onlyGivenNames x0 x1
  have hx1 : Same P s0 x1 := State.modPdl_same _ _ hk
  try clear_value x1
  refine Same.ite (fun _ => ?_) (fun _ => ?_)
  · exact hk
  · split
    · exact State.bump_same _ _ _ hx1 (gPDL_any _ (by decide))
    · exact State.bump_same _ _ _ hx1 (gPDL_any _ (by decide))
    · exact hx1
    · exact Same.ite (fun _ => State.hardReset_same _ _ hx1 gCC_12 (fun o ho => gPDL_any o ho) gVDM_64 gVDM_16 (gPOL_any _ (by decide)) (gPOL_any _ (by decide)) (gPOL_any _ (by decide)) gVDM_52 (fun o ho => gSHARE_any o ho) gVDM_96 (gPOL_any _ (by decide))) (fun _ => hx1)
    · extract_lets -merge -underBinder +onlyGivenNames x2
      exact Same.ite (fun _ => State.bump_same _ _ _ hx1 (gPDL_any _ (by decide))) (fun _ => Same.ite (fun _ => State.bump_same _ _ _ hx1 (gPDL_any _ (by decide))) (fun _ => State.rxValid_same _ _ _ hx1 (fun o ho => gPDL_any o ho) gVDM_64 gVDM_16 (fun o ho => gPOL_any o ho) (fun o ho => gSHARE_any o ho)))

theorem State.txCheck_same (n : Port) (hk : Same P s0 s) (gPDL_any : ∀ o, o < 256 → P (pPDL n) o) (gVDM_64 : P (pVDM n) 64) (gVDM_16 : P (pVDM n) 16) (gPOL_any : ∀ o, o < 256 → P (pPOL n) o) (gSTORE_16 : P pSTORE 16) (gSTORE_40 : P pSTORE 40) (gSTORE_44 : P pSTORE 44) (gBANK_any : ∀ o, o < 256 → P pBANK o) (gSTORE_48 : P pSTORE 48) (gSTORE_12 : P pSTORE 12) : Same P s0 (State.txCheck s n) := by
  unfold State.txCheck
  extract_lets -merge -underBinder +onlyGivenNames x0
  split
  · exact hk
  · extract_lets -merge -underBinder +onlyGivenNames x1
    extract_lets -merge -underBinder +onlyGivenNames x2
    have hx2 : Same P s0 x2 := State.stPut_same _ _ _ hk
    try clear_value x2
    extract_lets -merge -underBinder +onlyGivenNames x3 x4
    exact Same.ite (fun _ => hk) (fun _ => Same.ite (fun _ => State.txOver_same _ _ _ hk (fun o ho => gPDL_any o ho) gVDM_64 gVDM_16 (fun o ho => gPOL_any o ho)) (fun _ => Same.ite (fun _ => State.txOver_same _ _ _ (State.stNote_same _ _ _ hk gSTORE_16 gSTORE_40 gSTORE_44 (fun o ho => gBANK_any o ho) gSTORE_48 gSTORE_12) (fun o ho => gPDL_any o ho) gVDM_64 gVDM_16 (fun o ho => gPOL_any o ho)) (fun _ => Same.ite (fun _ => State.txOver_same _ _ _ hk (fun o ho => gPDL_any o ho) gVDM_64 gVDM_16 (fun o ho => gPOL_any o ho)) (fun _ => Same.ite (fun _ => Same.ite (fun _ => State.modPdl_same _ _ hx2) (fun _ => State.modCc_same _ _ (State.modPdl_same _ _ hx2))) (fun _ => Same.ite (fun _ => State.modPdl_same _ _ hx2) (fun _ => State.modPdl_same _ _ hx2))))))

theorem State.txSend_same (n : Port) (hk : Same P s0 s) (gPDL_any : ∀ o, o < 256 → P (pPDL n) o) (gVDM_64 : P (pVDM n) 64) (gVDM_16 : P (pVDM n) 16) (gPOL_any : ∀ o, o < 256 → P (pPOL n) o) : Same P s0 (State.txSend s n) := by
  unfold State.txSend
  extract_lets -merge -underBinder +onlyGivenNames x0
  split
  · exact hk
  · extract_lets -merge -underBinder +onlyGivenNames x1
    extract_lets -merge -underBinder +onlyGivenNames x2 x3
    have hx3 : Same P s0 x3 := Same.ite (fun _ => State.sopReset_same _ _ hk (fun o ho => gPDL_any o ho)) (fun _ => hk)
    try clear_value x3
    extract_lets -merge -underBinder +onlyGivenNames x4 x5
    exact Same.ite (fun _ => hk) (fun _ => Same.ite (fun _ => State.txOver_same _ _ _ hk (fun o ho => gPDL_any o ho) gVDM_64 gVDM_16 (fun o ho => gPOL_any o ho)) (fun _ => Same.ite (fun _ => State.modPdl_same _ _ hk) (fun _ => State.modPdl_same _ _ (State.lineOut_same _ _ _ hx3))))

theorem State.layerFail_same (n : Port) (l : LayerTx) (rest : List LayerTx) (hk : Same P s0 s) (gPDL_any : ∀ o, o < 256 → P (pPDL n) o) : Same P s0 (State.layerFail s n l rest) := by
  unfold State.layerFail
  extract_lets -merge -underBinder +onlyGivenNames x0
  have hx0 : Same P s0 x0 := State.modPdl_same _ _ hk
  try clear_value x0
  extract_lets -merge -underBinder +onlyGivenNames x1
  have hx1 : Same P s0 x1 := Same.ite (fun _ => State.txCtrUp_same _ _ hx0 (fun o ho => gPDL_any o ho)) (fun _ => hx0)
  try clear_value x1
  exact Same.ite (fun _ => State.bump_same _ _ _ (State.raise_same _ _ hx1 (gPDL_any _ (by decide))) (gPDL_any _ (by decide))) (fun _ => State.reasmAbort_same _ _ _ hx1 (fun o ho => gPDL_any o ho))

theorem State.layerSend_same (n : Port) (l : LayerTx) (rest : List LayerTx) (hk : Same P s0 s) (gPDL_any : ∀ o, o < 256 → P (pPDL n) o) : Same P s0 (State.layerSend s n l rest) := by
  unfold State.layerSend
  extract_lets -merge -underBinder +onlyGivenNames x0 x1
  exact Same.ite (fun _ => State.layerFail_same _ _ _ hk (fun o ho => gPDL_any o ho)) (fun _ => State.modPdl_same _ _ (State.lineOut_same _ _ _ hk))

theorem State.txNext_same (n : Port) (hk : Same P s0 s) (gPDL_any : ∀ o, o < 256 → P (pPDL n) o) (gVDM_64 : P (pVDM n) 64) (gVDM_16 : P (pVDM n) 16) (gPOL_any : ∀ o, o < 256 → P (pPOL n) o) : Same P s0 (State.txNext s n) := by
  unfold State.txNext
  refine Same.ite (fun _ => ?_) (fun _ => ?_)
  · exact hk
  · split
    · exact State.layerSend_same _ _ _ hk (fun o ho => gPDL_any o ho)
    · exact Same.ite (fun _ => State.txSend_same _ hk (fun o ho => gPDL_any o ho) gVDM_64 gVDM_16 (fun o ho => gPOL_any o ho)) (fun _ => hk)

theorem State.gcrcTimeout_same (n : Port) (hk : Same P s0 s) (gPDL_any : ∀ o, o < 256 → P (pPDL n) o) (gVDM_64 : P (pVDM n) 64) (gVDM_16 : P (pVDM n) 16) (gPOL_any : ∀ o, o < 256 → P (pPOL n) o) : Same P s0 (State.gcrcTimeout s n) := by
  unfold State.gcrcTimeout
  extract_lets -merge -underBinder +onlyGivenNames x0
  split
  · exact Same.ite (fun _ => State.modPdl_same _ _ hk) (fun _ => State.layerFail_same _ _ _ hk (fun o ho => gPDL_any o ho))
  · refine Same.ite (fun _ => ?_) (fun _ => ?_)
    · exact hk
    · split
      · exact hk
      · exact Same.ite (fun _ => State.modPdl_same _ _ hk) (fun _ => State.txOver_same _ _ _ hk (fun o ho => gPDL_any o ho) gVDM_64 gVDM_16 (fun o ho => gPOL_any o ho))

theorem State.cableReset_same (n : Port) (hk : Same P s0 s) (gPDL_any : ∀ o, o < 256 → P (pPDL n) o) (gVDM_64 : P (pVDM n) 64) (gVDM_16 : P (pVDM n) 16) : Same P s0 (State.cableReset s n) := by
  unfold State.cableReset
  extract_lets -merge -underBinder +onlyGivenNames x0
  have hx0 : Same P s0 x0 := State.txOverAll_same _ _ _ hk (fun o ho => gPDL_any o ho) gVDM_64 gVDM_16
  try clear_value x0
  extract_lets -merge -underBinder +onlyGivenNames x1
  have hx1 : Same P s0 x1 := State.sopReset_same _ _ (State.sopReset_same _ _ hx0 (fun o ho => gPDL_any o ho)) (fun o ho => gPDL_any o ho)
  try clear_value x1
  exact Same.ite (fun _ => State.raise_same _ _ hk (gPDL_any _ (by decide))) (fun _ => State.raise_same _ _ (State.lineOut_same _ _ _ hx1) (gPDL_any _ (by decide)))

theorem State.amsEnd_same (n : Port) (hk : Same P s0 s) : Same P s0 (State.amsEnd s n) := by
  unfold State.amsEnd
  exact Same.ite (fun _ => State.modPdl_same _ _ hk) (fun _ => hk)

theorem State.txCancel_same (n : Port) (hk : Same P s0 s) (gPDL_any : ∀ o, o < 256 → P (pPDL n) o) (gVDM_64 : P (pVDM n) 64) (gVDM_16 : P (pVDM n) 16) : Same P s0 (State.txCancel s n) := by
  unfold State.txCancel
  extract_lets -merge -underBinder +onlyGivenNames x0 x1 x2
  exact State.txOverAll_same _ _ _ hk (fun o ho => gPDL_any o ho) gVDM_64 gVDM_16

theorem State.pdlClearStats_same (n : Port) (hk : Same P s0 s) (gPDL_108 : P (pPDL n) 108) (gPDL_104 : P (pPDL n) 104) (gPDL_100 : P (pPDL n) 100) (gPDL_96 : P (pPDL n) 96) : Same P s0 (State.pdlClearStats s n) := by
  unfold State.pdlClearStats
  exact State.wr_same _ _ _ (State.wr_same _ _ _ (State.wr_same _ _ _ (State.wr_same _ _ _ hk gPDL_96) gPDL_100) gPDL_104) gPDL_108

theorem State.msgidLoad_same (n : Port) (v : ℕ) (hk : Same P s0 s) (gPDL_16 : P (pPDL n) 16) (gPDL_88 : P (pPDL n) 88) : Same P s0 (State.msgidLoad s n v) := by
  unfold State.msgidLoad
  exact Same.ite (fun _ => State.lockedWrite_same _ hk gPDL_16) (fun _ => State.wr_same _ _ _ hk gPDL_88)

theorem State.fwSendFor_same (n : Port) (sop : ℕ) (typ : ℕ) (objs : List Word) (ams : Bool) (goal : FwGoal) (hk : Same P s0 s) (gPDL_16 : P (pPDL n) 16) : Same P s0 (State.fwSendFor s n sop typ objs ams goal) := by
  unfold State.fwSendFor
  exact State.fwPut_same _ _ hk gPDL_16

theorem State.fwSend_same (n : Port) (sop : ℕ) (typ : ℕ) (objs : List Word) (ams : Bool) (hk : Same P s0 s) (gPDL_16 : P (pPDL n) 16) : Same P s0 (State.fwSend s n sop typ objs ams) := by
  unfold State.fwSend
  exact State.fwSendFor_same _ _ _ _ _ _ hk gPDL_16

theorem State.pdlEnable_same (n : Port) (b : Bool) (hk : Same P s0 s) (gPDL_any : ∀ o, o < 256 → P (pPDL n) o) (gVDM_64 : P (pVDM n) 64) (gVDM_16 : P (pVDM n) 16) (gPOL_12 : P (pPOL n) 12) : Same P s0 (State.pdlEnable s n b) := by
  unfold State.pdlEnable
  extract_lets -merge -underBinder +onlyGivenNames x0
  have hx0 : Same P s0 x0 := State.putB_same _ _ _ hk (gPDL_any _ (by decide))
  try clear_value x0
  extract_lets -merge -underBinder +onlyGivenNames x1
  have hx1 : Same P s0 x1 := State.modPort_same _ _ hx0
  try clear_value x1
  extract_lets -merge -underBinder +onlyGivenNames x2 x3
  have hx3 : Same P s0 x3 := State.modPdl_same _ _ hx0
  try clear_value x3
  exact Same.ite (fun _ => Same.ite (fun _ => State.hardResetStart_same _ (State.put_same _ _ _ hx0 gPOL_12) (fun o ho => gPDL_any o ho) gVDM_64 gVDM_16) (fun _ => Same.ite (fun _ => Same.ite (fun _ => State.fwSend_same _ _ _ _ _ hx1 (gPDL_any _ (by decide))) (fun _ => hx1)) (fun _ => hx0))) (fun _ => State.txOverAll_same _ _ _ hx3 (fun o ho => gPDL_any o ho) gVDM_64 gVDM_16)

theorem State.xbufRel_same (n : Port) (m : ℕ) (hk : Same P s0 s) (gPDL_any : ∀ o, o < 256 → P (pPDL n) o) : Same P s0 (State.xbufRel s n m) := by
  unfold State.xbufRel
  exact foldl_same _ hk (fun _ _ hm h0 => Same.ite (fun _ => State.put_same _ _ _ (State.put_same _ _ _ h0 (gPDL_any _ (by (try simp only [List.mem_range, List.mem_cons, List.not_mem_nil, or_false] at hm); (try simp only [Fld.at, rxBusyBit, PDL.XBUF_STAT_RX_BUSY]); omega))) (gPDL_any _ (by (try simp only [List.mem_range, List.mem_cons, List.not_mem_nil, or_false] at hm); (try simp only [Fld.at, rxReadyBit, PDL.XBUF_STAT_RX_BUSY]); omega))) (fun _ => h0))

theorem State.windowTick_same (n : Port) (calm : Bool) (hk : Same P s0 s) : Same P s0 (State.windowTick s n calm) := by
  unfold State.windowTick
  extract_lets -merge -underBinder +onlyGivenNames x0 x1 x2 x3
  exact Same.ite (fun _ => Same.ite (fun _ => Same.ite (fun _ => State.setWin_same _ _ _ hk) (fun _ => Same.ite (fun _ => State.setWin_same _ _ _ hk) (fun _ => Same.ite (fun _ => State.setWin_same _ _ _ hk) (fun _ => State.setWin_same _ _ _ hk)))) (fun _ => State.setWin_same _ _ _ hk)) (fun _ => Same.ite (fun _ => State.modPol_same _ _ hk) (fun _ => State.setWin_same _ _ _ hk))

theorem State.genRefused_same (n : Port) (hk : Same P s0 s) (gPOL_16 : P (pPOL n) 16) : Same P s0 (State.genRefused s n) := by
  unfold State.genRefused
  exact State.raise_same _ _ hk gPOL_16

theorem State.commit_same (n : Port) (hk : Same P s0 s) (gPOL_12 : P (pPOL n) 12) (gSHARE_any : ∀ o, o < 256 → P pSHARE o) (gPOL_16 : P (pPOL n) 16) : Same P s0 (State.commit s n) := by
  unfold State.commit
  extract_lets -merge -underBinder +onlyGivenNames x0 x1 x2 x3 x4 x5 x6 x7 x8 x9 x10
  have hx10 : Same P s0 x10 := State.aosWrite_same _ _ hk
  try clear_value x10
  extract_lets -merge -underBinder +onlyGivenNames x11
  have hx11 : Same P s0 x11 := State.modPol_same _ _ hx10
  try clear_value x11
  extract_lets -merge -underBinder +onlyGivenNames x12
  have hx12 : Same P s0 x12 := Same.ite (fun _ => State.put_same _ _ _ hx11 gPOL_12) (fun _ => hx11)
  try clear_value x12
  extract_lets -merge -underBinder +onlyGivenNames x13
  have hx13 : Same P s0 x13 := Same.ite (fun _ => State.put_same _ _ _ hx12 (gSHARE_any _ (by (try simp only [List.mem_range, List.mem_cons, List.not_mem_nil, or_false] at hm); (try simp only [Fld.at, SHARE.TRIM_PENDING]); omega))) (fun _ => hx12)
  try clear_value x13
  exact State.raise_same _ _ hx13 gPOL_16

theorem State.transBegin_same (n : Port) (vNew : ℕ) (gen : ℕ) (hk : Same P s0 s) (gPOL_16 : P (pPOL n) 16) (gPOL_52 : P (pPOL n) 52) (gPOL_180 : P (pPOL n) 180) : Same P s0 (State.transBegin s n vNew gen) := by
  unfold State.transBegin
  extract_lets -merge -underBinder +onlyGivenNames x0 x1
  have hx1 : Same P s0 x1 := State.put_same _ _ _ (State.put_same _ _ _ (State.put_same _ _ _ hk gPOL_52) gPOL_52) gPOL_52
  try clear_value x1
  extract_lets -merge -underBinder +onlyGivenNames x2
  have hx2 : Same P s0 x2 := State.modPol_same _ _ hx1
  try clear_value x2
  exact Same.ite (fun _ => State.genRefused_same _ hk gPOL_16) (fun _ => State.bump_same _ _ _ hx2 gPOL_180)

theorem State.polCmd_same (n : Port) (c : PolCmd) (hk : Same P s0 s) (gPOL_12 : P (pPOL n) 12) (gSHARE_any : ∀ o, o < 256 → P pSHARE o) (gPOL_16 : P (pPOL n) 16) (gPOL_52 : P (pPOL n) 52) (gPOL_180 : P (pPOL n) 180) (gPDL_32 : P (pPDL n) 32) : Same P s0 (State.polCmd s n c) := by
  unfold State.polCmd
  split
  · exact Same.ite (fun _ => State.commit_same _ hk gPOL_12 (fun o ho => gSHARE_any o ho) gPOL_16) (fun _ => State.genRefused_same _ hk gPOL_16)
  · exact Same.ite (fun _ => State.snapClear_same _ hk gPOL_12) (fun _ => State.genRefused_same _ hk gPOL_16)
  · exact State.transBegin_same _ _ _ hk gPOL_16 gPOL_52 gPOL_180
  · exact Same.ite (fun _ => State.polQueue_same _ _ hk) (fun _ => Same.ite (fun _ => State.raise_same _ _ (State.putB_same _ _ _ hk gPDL_32) gPOL_16) (fun _ => State.genRefused_same _ hk gPOL_16))

theorem State.snapCheck_same (n : Port) (hk : Same P s0 s) (gPOL_12 : P (pPOL n) 12) (gPOL_16 : P (pPOL n) 16) (gPDL_any : ∀ o, o < 256 → P (pPDL n) o) (gVDM_64 : P (pVDM n) 64) (gVDM_16 : P (pVDM n) 16) : Same P s0 (State.snapCheck s n) := by
  unfold State.snapCheck
  extract_lets -merge -underBinder +onlyGivenNames x0 x1
  have hx1 : Same P s0 x1 := State.putB_same _ _ _ (State.put_same _ _ _ hk gPOL_12) gPOL_12
  try clear_value x1
  extract_lets -merge -underBinder +onlyGivenNames x2
  have hx2 : Same P s0 x2 := State.put_same _ _ _ (State.put_same _ _ _ hk gPOL_12) gPOL_12
  try clear_value x2
  extract_lets -merge -underBinder +onlyGivenNames x3
  have hx3 : Same P s0 x3 := State.polEvt_same _ _ (State.modPol_same _ _ hx2) gPOL_16
  try clear_value x3
  exact Same.ite (fun _ => Same.ite (fun _ => State.modPol_same _ _ hx1) (fun _ => Same.ite (fun _ => hx2) (fun _ => Same.ite (fun _ => hx3) (fun _ => Same.ite (fun _ => State.fwSend_same _ _ _ _ _ hx3 (gPDL_any _ (by decide))) (fun _ => Same.ite (fun _ => State.hardResetStart_same _ hx3 (fun o ho => gPDL_any o ho) gVDM_64 gVDM_16) (fun _ => hx3)))))) (fun _ => State.put_same _ _ _ (State.put_same _ _ _ hk gPOL_12) gPOL_12)

theorem State.transStep_same (n : Port) (vbus : List ℕ) (hk : Same P s0 s) (gPOL_12 : P (pPOL n) 12) (gPOL_16 : P (pPOL n) 16) (gPOL_44 : P (pPOL n) 44) (gPOL_52 : P (pPOL n) 52) : Same P s0 (State.transStep s n vbus) := by
  unfold State.transStep
  extract_lets -merge -underBinder +onlyGivenNames x0 x1 x2 x3 x4
  have hx4 : Same P s0 x4 := State.modPol_same _ _ hk
  try clear_value x4
  extract_lets -merge -underBinder +onlyGivenNames x5
  have hx5 : Same P s0 x5 := Same.ite (fun _ => Same.ite (fun _ => State.assistEnd_same _ hx4 gPOL_12) (fun _ => hx4)) (fun _ => hk)
  try clear_value x5
  extract_lets -merge -underBinder +onlyGivenNames x6 x7 x8 x9
  have hx9 : Same P s0 x9 := State.setTarget_same _ _ hx5 gPOL_16 gPOL_44
  try clear_value x9
  exact Same.ite (fun _ => Same.ite (fun _ => State.put_same _ _ _ (State.modPol_same _ _ hx9) gPOL_52) (fun _ => hx9)) (fun _ => hx5)

theorem State.polTick_same (n : Port) (hk : Same P s0 s) (gPOL_12 : P (pPOL n) 12) (gSHARE_any : ∀ o, o < 256 → P pSHARE o) (gPOL_16 : P (pPOL n) 16) (gPOL_52 : P (pPOL n) 52) (gPOL_180 : P (pPOL n) 180) (gPDL_any : ∀ o, o < 256 → P (pPDL n) o) (gVDM_64 : P (pVDM n) 64) (gVDM_16 : P (pVDM n) 16) (gPOL_44 : P (pPOL n) 44) : Same P s0 (State.polTick s n) := by
  unfold State.polTick
  extract_lets -merge -underBinder +onlyGivenNames x0 x1
  have hx1 : Same P s0 x1 := State.modPol_same _ _ hk
  try clear_value x1
  extract_lets -merge -underBinder +onlyGivenNames x2
  have hx2 : Same P s0 x2 := foldl_same _ hx1 (fun _ _ _ h3 => State.polCmd_same _ _ h3 gPOL_12 (fun o ho => gSHARE_any o ho) gPOL_16 gPOL_52 gPOL_180 (gPDL_any _ (by decide)))
  try clear_value x2
  extract_lets -merge -underBinder +onlyGivenNames x4
  have hx4 : Same P s0 x4 := State.snapCheck_same _ hx2 gPOL_12 gPOL_16 (fun o ho => gPDL_any o ho) gVDM_64 gVDM_16
  try clear_value x4
  extract_lets -merge -underBinder +onlyGivenNames x5
  have hx5 : Same P s0 x5 := State.setTarget_same _ _ hx4 gPOL_16 gPOL_44
  try clear_value x5
  exact Same.ite (fun _ => hx5) (fun _ => State.cenLevel_same _ _ hx5 gPOL_12)

theorem State.transFail_same (n : Port) (hk : Same P s0 s) (gPOL_12 : P (pPOL n) 12) (gPOL_180 : P (pPOL n) 180) (gPOL_52 : P (pPOL n) 52) (gPOL_16 : P (pPOL n) 16) (gPDL_any : ∀ o, o < 256 → P (pPDL n) o) (gVDM_64 : P (pVDM n) 64) (gVDM_16 : P (pVDM n) 16) : Same P s0 (State.transFail s n) := by
  unfold State.transFail
  extract_lets -merge -underBinder +onlyGivenNames x0 x1
  have hx1 : Same P s0 x1 := State.assistEnd_same _ (State.bump_same _ _ _ (State.put_same _ _ _ hk gPOL_52) gPOL_180) gPOL_12
  try clear_value x1
  extract_lets -merge -underBinder +onlyGivenNames x2
  have hx2 : Same P s0 x2 := State.polEvt_same _ _ (State.snapClear_same _ hx1 gPOL_12) gPOL_16
  try clear_value x2
  exact Same.ite (fun _ => State.hardResetStart_same _ hx2 (fun o ho => gPDL_any o ho) gVDM_64 gVDM_16) (fun _ => State.put_same _ _ _ hx2 gPOL_12)

theorem State.setVbus_same (n : Port) (mv : ℕ) (hk : Same P s0 s) : Same P s0 (State.setVbus s n mv) := by
  unfold State.setVbus
  exact State.modPort_same _ _ hk

theorem State.preEval_same (n : Port) (hk : Same P s0 s) (gGUARD_12 : P (pGUARD n) 12) : Same P s0 (State.preEval s n) := by
  unfold State.preEval
  extract_lets -merge -underBinder +onlyGivenNames x0
  exact Same.ite (fun _ => State.guardTo_same _ _ hk gGUARD_12) (fun _ => Same.ite (fun _ => State.modGuard_same _ _ (State.guardTo_same _ _ hk gGUARD_12)) (fun _ => State.put_same _ _ _ hk gGUARD_12))

theorem State.backoffLeave_same (n : Port) (hk : Same P s0 s) (gGUARD_12 : P (pGUARD n) 12) (gGUARD_16 : P (pGUARD n) 16) : Same P s0 (State.backoffLeave s n) := by
  unfold State.backoffLeave
  exact Same.ite (fun _ => State.preEval_same _ (State.raise_same _ _ (State.guardTo_same _ _ hk gGUARD_12) gGUARD_16) gGUARD_12) (fun _ => Same.ite (fun _ => State.modGuard_same _ _ hk) (fun _ => State.guardTo_same _ _ hk gGUARD_12))

theorem State.guardTick_same (n : Port) (hk : Same P s0 s) (gGUARD_12 : P (pGUARD n) 12) (gGUARD_16 : P (pGUARD n) 16) : Same P s0 (State.guardTick s n) := by
  unfold State.guardTick
  extract_lets -merge -underBinder +onlyGivenNames x0
  clear_value x0
  extract_lets -merge -underBinder +onlyGivenNames x1 x2
  have hx2 : Same P s0 x2 := State.modGuard_same _ _ hk
  try clear_value x2
  extract_lets -merge -underBinder +onlyGivenNames x3
  have hx3 : Same P s0 x3 := Same.ite (fun _ => State.guardHalt_same _ hx2 gGUARD_12) (fun _ => hx2)
  try clear_value x3
  refine Same.ite (fun _ => ?_) (fun _ => ?_)
  · exact Same.ite (fun _ => State.guardTo_same _ _ hx3 gGUARD_12) (fun _ => hx3)
  · split
    · exact Same.ite (fun _ => State.backoffLeave_same _ hx2 gGUARD_12 gGUARD_16) (fun _ => hx2)
    · exact Same.ite (fun _ => State.preEval_same _ (State.guardTo_same _ _ hx2 gGUARD_12) gGUARD_12) (fun _ => hx2)
    · exact State.preEval_same _ hx2 gGUARD_12
    · extract_lets -merge -underBinder +onlyGivenNames x4
      exact State.modGuard_same _ _ hx2

theorem State.slowTrips_same (n : Port) (mean : ℕ) (hot : Bool) (hk : Same P s0 s) (gGUARD_12 : P (pGUARD n) 12) (gGUARD_84 : P (pGUARD n) 84) (gGUARD_88 : P (pGUARD n) 88) (gGUARD_92 : P (pGUARD n) 92) (gGUARD_16 : P (pGUARD n) 16) (gPOL_16 : P (pPOL n) 16) (gPOL_44 : P (pPOL n) 44) (gPOL_12 : P (pPOL n) 12) (gPOL_52 : P (pPOL n) 52) (gCC_12 : P (pCC n) 12) (gPDL_any : ∀ o, o < 256 → P (pPDL n) o) (gVDM_64 : P (pVDM n) 64) (gVDM_16 : P (pVDM n) 16) (gVDM_52 : P (pVDM n) 52) (gVDM_96 : P (pVDM n) 96) (gSHARE_any : ∀ o, o < 256 → P pSHARE o) (gCC_16 : P (pCC n) 16) : Same P s0 (State.slowTrips s n mean hot) := by
  unfold State.slowTrips
  extract_lets -merge -underBinder +onlyGivenNames x0 x1 x2
  have hx2 : Same P s0 x2 := State.modGuard_same _ _ hk
  try clear_value x2
  extract_lets -merge -underBinder +onlyGivenNames x3 x4
  exact Same.ite (fun _ => hk) (fun _ => Same.ite (fun _ => hx2) (fun _ => State.trip_same _ _ _ hx2 gGUARD_12 gGUARD_84 gGUARD_88 gGUARD_92 gGUARD_16 gPOL_16 gPOL_44 gPOL_12 gPOL_52 gCC_12 (fun o ho => gPDL_any o ho) gVDM_64 gVDM_16 gVDM_52 gVDM_96 (fun o ho => gSHARE_any o ho) gCC_16))

theorem State.thermTick_same (n : Port) (t : ℤ) (hk : Same P s0 s) (gGUARD_16 : P (pGUARD n) 16) (gGUARD_12 : P (pGUARD n) 12) : Same P s0 (State.thermTick s n t) := by
  unfold State.thermTick
  extract_lets -merge -underBinder +onlyGivenNames x0 x1
  split
  · exact Same.ite (fun _ => State.raise_same _ _ (State.put_same _ _ _ hk gGUARD_12) gGUARD_16) (fun _ => hk)
  · exact Same.ite (fun _ => State.put_same _ _ _ hk gGUARD_12) (fun _ => hk)
  · exact Same.ite (fun _ => State.put_same _ _ _ hk gGUARD_12) (fun _ => Same.ite (fun _ => State.put_same _ _ _ hk gGUARD_12) (fun _ => hk))

theorem State.minMax_same (pg : ℕ) (lo : Fld) (hi : Fld) (seen : Bool) (isSigned : Bool) (v : ℤ) (hk : Same P s0 s) (gp1_f3 : P pg hi.off) (gp1_f2 : P pg lo.off) : Same P s0 (State.minMax s pg lo hi seen isSigned v) := by
  unfold State.minMax
  extract_lets -merge -underBinder +onlyGivenNames x0 x1 x2
  exact State.put_same _ _ _ (State.put_same _ _ _ hk gp1_f2) gp1_f3

theorem State.calTick_same (n : Port) (p : PortSamples) (hk : Same P s0 s) (gMEAS_64 : P (pMEAS n) 64) (gMEAS_12 : P (pMEAS n) 12) (gMEAS_16 : P (pMEAS n) 16) : Same P s0 (State.calTick s n p) := by
  unfold State.calTick
  extract_lets -merge -underBinder +onlyGivenNames x0
  exact Same.ite (fun _ => State.put_same _ _ _ (State.put_same _ _ _ (State.put_same _ _ _ hk gMEAS_12) gMEAS_12) gMEAS_64) (fun _ => State.put_same _ _ _ (State.raiseIf_same _ _ _ hk gMEAS_16) gMEAS_12)

theorem State.measTick_same (n : Port) (p : PortSamples) (doze : Bool) (hk : Same P s0 s) (gMEAS_64 : P (pMEAS n) 64) (gMEAS_12 : P (pMEAS n) 12) (gMEAS_16 : P (pMEAS n) 16) (gMEAS_40 : P (pMEAS n) 40) (gMEAS_44 : P (pMEAS n) 44) (gMEAS_48 : P (pMEAS n) 48) (gMEAS_52 : P (pMEAS n) 52) (gMEAS_56 : P (pMEAS n) 56) (gMEAS_60 : P (pMEAS n) 60) (gGUARD_16 : P (pGUARD n) 16) (gGUARD_12 : P (pGUARD n) 12) : Same P s0 (State.measTick s n p doze) := by
  unfold State.measTick
  extract_lets -merge -underBinder +onlyGivenNames x0 x1 x2 x3 x4
  have hx4 : Same P s0 x4 := State.modPort_same _ _ hk
  try clear_value x4
  extract_lets -merge -underBinder +onlyGivenNames x5 x6 x7 x8 x9 x10 x11
  have hx11 : Same P s0 x11 := State.modPort_same _ _ (State.setVbus_same _ _ hx4)
  try clear_value x11
  extract_lets -merge -underBinder +onlyGivenNames x12
  have hx12 : Same P s0 x12 := State.put_same _ _ _ (State.put_same _ _ _ hx11 gMEAS_40) gMEAS_40
  try clear_value x12
  extract_lets -merge -underBinder +onlyGivenNames x13
  have hx13 : Same P s0 x13 := State.put_same _ _ _ (State.put_same _ _ _ hx12 gMEAS_44) gMEAS_44
  try clear_value x13
  extract_lets -merge -underBinder +onlyGivenNames x14
  have hx14 : Same P s0 x14 := State.put_same _ _ _ (State.put_same _ _ _ hx13 gMEAS_48) gMEAS_48
  try clear_value x14
  extract_lets -merge -underBinder +onlyGivenNames x15
  have hx15 : Same P s0 x15 := State.put_same _ _ _ hx14 gMEAS_52
  try clear_value x15
  extract_lets -merge -underBinder +onlyGivenNames x16 x17
  have hx17 : Same P s0 x17 := State.minMax_same _ _ _ _ _ _ hx15 gMEAS_56 gMEAS_56
  try clear_value x17
  extract_lets -merge -underBinder +onlyGivenNames x18
  have hx18 : Same P s0 x18 := State.minMax_same _ _ _ _ _ _ hx17 gMEAS_60 gMEAS_60
  try clear_value x18
  extract_lets -merge -underBinder +onlyGivenNames x19
  have hx19 : Same P s0 x19 := State.modPort_same _ _ hx18
  try clear_value x19
  extract_lets -merge -underBinder +onlyGivenNames x20 x21 x22 x23
  have hx23 : Same P s0 x23 := State.putB_same _ _ _ (State.putB_same _ _ _ hx19 gMEAS_12) gMEAS_12
  try clear_value x23
  extract_lets -merge -underBinder +onlyGivenNames x24
  have hx24 : Same P s0 x24 := State.raiseIf_same _ _ _ hx23 gMEAS_16
  try clear_value x24
  extract_lets -merge -underBinder +onlyGivenNames x25
  have hx25 : Same P s0 x25 := State.calTick_same _ _ hx24 gMEAS_64 gMEAS_12 gMEAS_16
  try clear_value x25
  exact Same.ite (fun _ => hx4) (fun _ => Same.ite (fun _ => State.calTick_same _ _ hx4 gMEAS_64 gMEAS_12 gMEAS_16) (fun _ => Same.ite (fun _ => State.thermTick_same _ _ hx25 gGUARD_16 gGUARD_12) (fun _ => hx25)))

theorem State.setFailed_same (n : Port) (m : ℕ) (hk : Same P s0 s) (gCMPT_any : ∀ o, o < 256 → P pCMPT o) (gGUARD_12 : P (pGUARD n) 12) : Same P s0 (State.setFailed s n m) := by
  unfold State.setFailed
  extract_lets -merge -underBinder +onlyGivenNames x0
  have hx0 : Same P s0 x0 := State.put_same _ _ _ hk (gCMPT_any _ (by (try simp only [List.mem_range, List.mem_cons, List.not_mem_nil, or_false] at hm); (try simp only [Fld.at, CMPT.PORT_STAT_FAILED]); omega))
  try clear_value x0
  extract_lets -merge -underBinder +onlyGivenNames x1
  have hx1 : Same P s0 x1 := State.putB_same _ _ _ hx0 gGUARD_12
  try clear_value x1
  exact State.put_same _ _ _ hx1 (gCMPT_any _ (by decide))

theorem State.noteFail_same (n : Port) (c : ℕ) (check : ℕ) (hk : Same P s0 s) (gCMPT_68 : P pCMPT 68) : Same P s0 (State.noteFail s n c check) := by
  unfold State.noteFail
  extract_lets -merge -underBinder +onlyGivenNames x0
  have hx0 : Same P s0 x0 := State.put_same _ _ _ (State.put_same _ _ _ (State.put_same _ _ _ hk gCMPT_68) gCMPT_68) gCMPT_68
  try clear_value x0
  exact State.put_same _ _ _ (State.put_same _ _ _ hx0 gCMPT_68) gCMPT_68

theorem State.copyTested_same (n : Port) (c : ℕ) (r : TestResult) (hk : Same P s0 s) (gCMPT_any : ∀ o, o < 256 → P pCMPT o) (gGUARD_12 : P (pGUARD n) 12) (gGUARD_84 : P (pGUARD n) 84) (gCC_16 : P (pCC n) 16) (gCC_12 : P (pCC n) 12) (gPDL_any : ∀ o, o < 256 → P (pPDL n) o) (gVDM_64 : P (pVDM n) 64) (gVDM_16 : P (pVDM n) 16) (gPOL_12 : P (pPOL n) 12) (gPOL_52 : P (pPOL n) 52) (gPOL_16 : P (pPOL n) 16) (gPOL_44 : P (pPOL n) 44) (gVDM_52 : P (pVDM n) 52) (gSHARE_any : ∀ o, o < 256 → P pSHARE o) (gVDM_96 : P (pVDM n) 96) (gGUARD_16 : P (pGUARD n) 16) : Same P s0 (State.copyTested s n c r) := by
  unfold State.copyTested
  extract_lets -merge -underBinder +onlyGivenNames x0
  clear_value x0
  split
  · extract_lets -merge -underBinder +onlyGivenNames x1
    have hx1 : Same P s0 x1 := State.put_same _ _ _ hk (gCMPT_any _ (by (try simp only [List.mem_range, List.mem_cons, List.not_mem_nil, or_false] at hm); (try simp only [Fld.at, CMPT.PORT_STAT_PASSED]); omega))
    try clear_value x1
    extract_lets -merge -underBinder +onlyGivenNames x2
    clear_value x2
    extract_lets -merge -underBinder +onlyGivenNames x3
    have hx3 : Same P s0 x3 := Same.mk' hx1
    try clear_value x3
    exact Same.ite (fun _ => State.modGuard_same _ _ hx3) (fun _ => hx3)
  · extract_lets -merge -underBinder +onlyGivenNames x4
    have hx4 : Same P s0 x4 := State.noteFail_same _ _ _ (State.raise_same _ _ (State.put_same _ _ _ hk (gCMPT_any _ (by decide))) (gCMPT_any _ (by decide))) (gCMPT_any _ (by decide))
    try clear_value x4
    exact Same.mk' hx4
  · extract_lets -merge -underBinder +onlyGivenNames x5
    have hx5 : Same P s0 x5 := State.put_same _ _ _ hk (gCMPT_any _ (by (try simp only [List.mem_range, List.mem_cons, List.not_mem_nil, or_false] at hm); (try simp only [Fld.at, CMPT.PORT_STAT_PASSED]); omega))
    try clear_value x5
    extract_lets -merge -underBinder +onlyGivenNames x6
    have hx6 : Same P s0 x6 := State.setFailed_same _ _ hx5 (fun o ho => gCMPT_any o ho) gGUARD_12
    try clear_value x6
    extract_lets -merge -underBinder +onlyGivenNames x7
    have hx7 : Same P s0 x7 := State.noteFail_same _ _ _ (State.raise_same _ _ hx6 (gCMPT_any _ (by decide))) (gCMPT_any _ (by decide))
    try clear_value x7
    extract_lets -merge -underBinder +onlyGivenNames x8
    exact Same.ite (fun _ => State.retire_same _ _ (State.raise_same _ _ hx7 (gCMPT_any _ (by decide))) gGUARD_84 gCC_16 gCC_12 (fun o ho => gPDL_any o ho) gVDM_64 gVDM_16 gPOL_12 gPOL_52 gPOL_16 gPOL_44 gGUARD_12 gVDM_52 (fun o ho => gSHARE_any o ho) gVDM_96 gGUARD_16) (fun _ => hx7)

theorem State.idleTest_same (ports : List Port) (r : TestResult) (hk : Same P s0 s) (gCMPT_any : ∀ o, o < 256 → P pCMPT o) (gGUARD_12 : ∀ m, P (pGUARD m) 12) (gGUARD_84 : ∀ m, P (pGUARD m) 84) (gCC_16 : ∀ m, P (pCC m) 16) (gCC_12 : ∀ m, P (pCC m) 12) (gPDL_any : ∀ m, ∀ o, o < 256 → P (pPDL m) o) (gVDM_64 : ∀ m, P (pVDM m) 64) (gVDM_16 : ∀ m, P (pVDM m) 16) (gPOL_12 : ∀ m, P (pPOL m) 12) (gPOL_52 : ∀ m, P (pPOL m) 52) (gPOL_16 : ∀ m, P (pPOL m) 16) (gPOL_44 : ∀ m, P (pPOL m) 44) (gVDM_52 : ∀ m, P (pVDM m) 52) (gSHARE_any : ∀ o, o < 256 → P pSHARE o) (gVDM_96 : ∀ m, P (pVDM m) 96) (gGUARD_16 : ∀ m, P (pGUARD m) 16) : Same P s0 (State.idleTest s ports r) := by
  unfold State.idleTest
  split
  · exact hk
  · split
    · exact State.copyTested_same _ _ _ hk (fun o ho => gCMPT_any o ho) (gGUARD_12 _) (gGUARD_84 _) (gCC_16 _) (gCC_12 _) (fun o ho => gPDL_any _ o ho) (gVDM_64 _) (gVDM_16 _) (gPOL_12 _) (gPOL_52 _) (gPOL_16 _) (gPOL_44 _) (gVDM_52 _) (fun o ho => gSHARE_any o ho) (gVDM_96 _) (gGUARD_16 _)
    · exact hk

theorem State.firstPass_same (hk : Same P s0 s) (gCMPT_16 : P pCMPT 16) (gCMPT_12 : P pCMPT 12) : Same P s0 (State.firstPass s) := by
  unfold State.firstPass
  exact Same.ite (fun _ => State.raise_same _ _ (State.put_same _ _ _ hk gCMPT_12) gCMPT_16) (fun _ => hk)

theorem State.cmptTick_same (ra : TestResult) (rb : TestResult) (hk : Same P s0 s) (gCMPT_any : ∀ o, o < 256 → P pCMPT o) (gGUARD_12 : ∀ m, P (pGUARD m) 12) (gGUARD_84 : ∀ m, P (pGUARD m) 84) (gCC_16 : ∀ m, P (pCC m) 16) (gCC_12 : ∀ m, P (pCC m) 12) (gPDL_any : ∀ m, ∀ o, o < 256 → P (pPDL m) o) (gVDM_64 : ∀ m, P (pVDM m) 64) (gVDM_16 : ∀ m, P (pVDM m) 16) (gPOL_12 : ∀ m, P (pPOL m) 12) (gPOL_52 : ∀ m, P (pPOL m) 52) (gPOL_16 : ∀ m, P (pPOL m) 16) (gPOL_44 : ∀ m, P (pPOL m) 44) (gVDM_52 : ∀ m, P (pVDM m) 52) (gSHARE_any : ∀ o, o < 256 → P pSHARE o) (gVDM_96 : ∀ m, P (pVDM m) 96) (gGUARD_16 : ∀ m, P (pGUARD m) 16) : Same P s0 (State.cmptTick s ra rb) := by
  unfold State.cmptTick
  extract_lets -merge -underBinder +onlyGivenNames x0 x1
  have hx1 : Same P s0 x1 := by
    unfold x1
    split
    · exact Same.ite (fun _ => Same.mk' hk) (fun _ => hk)
    · exact Same.ite (fun _ => Same.mk' hk) (fun _ => hk)
  try clear_value x1
  split
  · exact State.firstPass_same (State.idleTest_same _ _ (State.idleTest_same _ _ hx1 (fun o ho => gCMPT_any o ho) (fun m => gGUARD_12 m) (fun m => gGUARD_84 m) (fun m => gCC_16 m) (fun m => gCC_12 m) (fun m o ho => gPDL_any m o ho) (fun m => gVDM_64 m) (fun m => gVDM_16 m) (fun m => gPOL_12 m) (fun m => gPOL_52 m) (fun m => gPOL_16 m) (fun m => gPOL_44 m) (fun m => gVDM_52 m) (fun o ho => gSHARE_any o ho) (fun m => gVDM_96 m) (fun m => gGUARD_16 m)) (fun o ho => gCMPT_any o ho) (fun m => gGUARD_12 m) (fun m => gGUARD_84 m) (fun m => gCC_16 m) (fun m => gCC_12 m) (fun m o ho => gPDL_any m o ho) (fun m => gVDM_64 m) (fun m => gVDM_16 m) (fun m => gPOL_12 m) (fun m => gPOL_52 m) (fun m => gPOL_16 m) (fun m => gPOL_44 m) (fun m => gVDM_52 m) (fun o ho => gSHARE_any o ho) (fun m => gVDM_96 m) (fun m => gGUARD_16 m)) (gCMPT_any _ (by decide)) (gCMPT_any _ (by decide))
  · extract_lets -merge -underBinder +onlyGivenNames x2
    have hx2 : ∀ a0 a1 a2, Same P s0 a0 → Same P s0 (x2 a0 a1 a2) := by
      intro s3_0 s3_1 s3_2 hs3_1
      unfold x2
      beta_reduce
      exact Same.ite (fun _ => State.copyTested_same _ _ _ hs3_1 (fun o ho => gCMPT_any o ho) (gGUARD_12 _) (gGUARD_84 _) (gCC_16 _) (gCC_12 _) (fun o ho => gPDL_any _ o ho) (gVDM_64 _) (gVDM_16 _) (gPOL_12 _) (gPOL_52 _) (gPOL_16 _) (gPOL_44 _) (gVDM_52 _) (fun o ho => gSHARE_any o ho) (gVDM_96 _) (gGUARD_16 _)) (fun _ => hs3_1)
    try clear_value x2
    extract_lets -merge -underBinder +onlyGivenNames x4
    have hx4 : Same P s0 x4 := by
      unfold x4
      refine hx2 _ _ _ ?_
      exact hx1
    try clear_value x4
    extract_lets -merge -underBinder +onlyGivenNames x5
    have hx5 : Same P s0 x5 := by
      unfold x5
      refine hx2 _ _ _ ?_
      exact hx4
    try clear_value x5
    extract_lets -merge -underBinder +onlyGivenNames x6 x7 x8
    have hx8 : Same P s0 x8 := Same.mk' hx5
    try clear_value x8
    extract_lets -merge -underBinder +onlyGivenNames x9
    have hx9 : Same P s0 x9 := State.raise_same _ _ (State.incr_same _ _ hx8 (gCMPT_any _ (by decide))) (gCMPT_any _ (by decide))
    try clear_value x9
    exact Same.ite (fun _ => Same.mk' hx5) (fun _ => State.firstPass_same (State.putB_same _ _ _ hx9 (gCMPT_any _ (by decide))) (gCMPT_any _ (by decide)) (gCMPT_any _ (by decide)))

theorem State.cmptRestart_same (hk : Same P s0 s) (gCMPT_12 : P pCMPT 12) : Same P s0 (State.cmptRestart s) := by
  unfold State.cmptRestart
  exact State.put_same _ _ _ (Same.mk' hk) gCMPT_12

theorem State.rampDone_same (n : Port) (hk : Same P s0 s) (gGUARD_16 : P (pGUARD n) 16) (gGUARD_12 : P (pGUARD n) 12) (gPOL_16 : P (pPOL n) 16) (gPOL_12 : P (pPOL n) 12) : Same P s0 (State.rampDone s n) := by
  unfold State.rampDone
  extract_lets -merge -underBinder +onlyGivenNames x0
  have hx0 : Same P s0 x0 := State.raise_same _ _ (State.guardTo_same _ _ hk gGUARD_12) gGUARD_16
  try clear_value x0
  extract_lets -merge -underBinder +onlyGivenNames x1
  have hx1 : Same P s0 x1 := State.modGuard_same _ _ hx0
  try clear_value x1
  exact Same.ite (fun _ => State.hrDone_same _ hx1 gPOL_16 gPOL_12) (fun _ => hx1)

theorem State.joinGuard_same (n : Port) (hk : Same P s0 s) (gGUARD_12 : P (pGUARD n) 12) : Same P s0 (State.joinGuard s n) := by
  unfold State.joinGuard
  extract_lets -merge -underBinder +onlyGivenNames x0
  have hx0 : Same P s0 x0 := State.modGuard_same _ _ hk
  try clear_value x0
  extract_lets -merge -underBinder +onlyGivenNames x1
  have hx1 : Same P s0 x1 := State.put_same _ _ _ (State.put_same _ _ _ hx0 gGUARD_12) gGUARD_12
  try clear_value x1
  exact Same.ite (fun _ => State.put_same _ _ _ hx1 gGUARD_12) (fun _ => hk)

theorem State.guardRefused_same (n : Port) (hk : Same P s0 s) (gGUARD_16 : P (pGUARD n) 16) : Same P s0 (State.guardRefused s n) := by
  unfold State.guardRefused
  exact State.raise_same _ _ hk gGUARD_16

theorem State.snkClose_same (n : Port) (hk : Same P s0 s) (gGUARD_12 : P (pGUARD n) 12) (gGUARD_16 : P (pGUARD n) 16) : Same P s0 (State.snkClose s n) := by
  unfold State.snkClose
  exact Same.ite (fun _ => State.put_same _ _ _ hk gGUARD_12) (fun _ => State.guardRefused_same _ hk gGUARD_16)

theorem State.snkOpen_same (n : Port) (hk : Same P s0 s) (gGUARD_12 : P (pGUARD n) 12) (gSHARE_any : ∀ o, o < 256 → P pSHARE o) : Same P s0 (State.snkOpen s n) := by
  unfold State.snkOpen
  extract_lets -merge -underBinder +onlyGivenNames x0
  have hx0 : Same P s0 x0 := State.put_same _ _ _ hk gGUARD_12
  try clear_value x0
  exact Same.ite (fun _ => State.shareLeave_same _ (State.guardOff_same _ hx0 gGUARD_12) (fun o ho => gSHARE_any o ho)) (fun _ => hx0)

theorem State.unretire_same (n : Port) (hk : Same P s0 s) (gGUARD_12 : P (pGUARD n) 12) (gGUARD_92 : P (pGUARD n) 92) (gCMPT_any : ∀ o, o < 256 → P pCMPT o) (gGUARD_16 : P (pGUARD n) 16) (gCC_16 : P (pCC n) 16) (gCC_12 : P (pCC n) 12) (gPDL_any : ∀ o, o < 256 → P (pPDL n) o) (gVDM_64 : P (pVDM n) 64) (gVDM_16 : P (pVDM n) 16) (gPOL_12 : P (pPOL n) 12) (gPOL_52 : P (pPOL n) 52) (gPOL_16 : P (pPOL n) 16) (gPOL_44 : P (pPOL n) 44) (gVDM_52 : P (pVDM n) 52) (gSHARE_any : ∀ o, o < 256 → P pSHARE o) (gVDM_96 : P (pVDM n) 96) : Same P s0 (State.unretire s n) := by
  unfold State.unretire
  extract_lets -merge -underBinder +onlyGivenNames x0
  have hx0 : Same P s0 x0 := State.guardTo_same _ _ hk gGUARD_12
  try clear_value x0
  extract_lets -merge -underBinder +onlyGivenNames x1
  have hx1 : Same P s0 x1 := State.put_same _ _ _ (State.modGuard_same _ _ hx0) gGUARD_92
  try clear_value x1
  extract_lets -merge -underBinder +onlyGivenNames x2
  have hx2 : Same P s0 x2 := State.setFailed_same _ _ hx1 (fun o ho => gCMPT_any o ho) gGUARD_12
  try clear_value x2
  extract_lets -merge -underBinder +onlyGivenNames x3
  have hx3 : Same P s0 x3 := State.put_same _ _ _ hx2 (gCMPT_any _ (by (try simp only [List.mem_range, List.mem_cons, List.not_mem_nil, or_false] at hm); (try simp only [Fld.at, CMPT.PORT_STAT_PASSED]); omega))
  try clear_value x3
  exact State.guardEvt_same _ _ (State.ccEnter_same _ _ hx3 gCC_16 gCC_12 (fun o ho => gPDL_any o ho) gVDM_64 gVDM_16 gPOL_12 gPOL_52 gPOL_16 gPOL_44 gGUARD_12 gVDM_52 (fun o ho => gSHARE_any o ho) gVDM_96) gGUARD_16

theorem State.unretireCmd_same (n : Port) (hk : Same P s0 s) (gGUARD_12 : P (pGUARD n) 12) (gGUARD_92 : P (pGUARD n) 92) (gCMPT_any : ∀ o, o < 256 → P pCMPT o) (gGUARD_16 : P (pGUARD n) 16) (gCC_16 : P (pCC n) 16) (gCC_12 : P (pCC n) 12) (gPDL_any : ∀ o, o < 256 → P (pPDL n) o) (gVDM_64 : P (pVDM n) 64) (gVDM_16 : P (pVDM n) 16) (gPOL_12 : P (pPOL n) 12) (gPOL_52 : P (pPOL n) 52) (gPOL_16 : P (pPOL n) 16) (gPOL_44 : P (pPOL n) 44) (gVDM_52 : P (pVDM n) 52) (gSHARE_any : ∀ o, o < 256 → P pSHARE o) (gVDM_96 : P (pVDM n) 96) : Same P s0 (State.unretireCmd s n) := by
  unfold State.unretireCmd
  exact Same.ite (fun _ => State.unretire_same _ hk gGUARD_12 gGUARD_92 (fun o ho => gCMPT_any o ho) gGUARD_16 gCC_16 gCC_12 (fun o ho => gPDL_any o ho) gVDM_64 gVDM_16 gPOL_12 gPOL_52 gPOL_16 gPOL_44 gVDM_52 (fun o ho => gSHARE_any o ho) gVDM_96) (fun _ => State.guardRefused_same _ hk gGUARD_16)

theorem State.retestPort_same (n : Port) (hk : Same P s0 s) (gCMPT_any : ∀ o, o < 256 → P pCMPT o) (gGUARD_12 : P (pGUARD n) 12) (gGUARD_16 : P (pGUARD n) 16) : Same P s0 (State.retestPort s n) := by
  unfold State.retestPort
  extract_lets -merge -underBinder +onlyGivenNames x0 x1 x2
  have hx2 : Same P s0 x2 := State.put_same _ _ _ hk (gCMPT_any _ (by (try simp only [List.mem_range, List.mem_cons, List.not_mem_nil, or_false] at hm); (try simp only [Fld.at, CMPT.PORT_STAT_PASSED]); omega))
  try clear_value x2
  extract_lets -merge -underBinder +onlyGivenNames x3
  have hx3 : Same P s0 x3 := State.setFailed_same _ _ hx2 (fun o ho => gCMPT_any o ho) gGUARD_12
  try clear_value x3
  exact Same.ite (fun _ => Same.mk' hx3) (fun _ => State.guardRefused_same _ hk gGUARD_16)

theorem State.retest_same (ports : ℕ) (hk : Same P s0 s) (gCMPT_any : ∀ o, o < 256 → P pCMPT o) (gGUARD_12 : ∀ m, P (pGUARD m) 12) (gGUARD_16 : ∀ m, P (pGUARD m) 16) : Same P s0 (State.retest s ports) := by
  unfold State.retest
  exact State.forPorts_same hk (fun _ _ h0 => Same.ite (fun _ => State.retestPort_same _ h0 (fun o ho => gCMPT_any o ho) (gGUARD_12 _) (gGUARD_16 _)) (fun _ => h0))

theorem State.vconnOnCmd_same (n : Port) (hk : Same P s0 s) (gCC_12 : P (pCC n) 12) (gCC_16 : P (pCC n) 16) : Same P s0 (State.vconnOnCmd s n) := by
  unfold State.vconnOnCmd
  exact Same.ite (fun _ => hk) (fun _ => Same.ite (fun _ => State.modCc_same _ _ hk) (fun _ => Same.ite (fun _ => State.vconnOn_same _ hk gCC_12) (fun _ => State.raise_same _ _ hk gCC_16)))

theorem State.rpLost_same (n : Port) (hk : Same P s0 s) (gCC_68 : P (pCC n) 68) (gCC_16 : P (pCC n) 16) : Same P s0 (State.rpLost s n) := by
  unfold State.rpLost
  exact State.put_same _ _ _ (State.raise_same _ _ hk gCC_16) gCC_68

theorem State.railUpdate_same (hk : Same P s0 s) (gSHARE_12 : P pSHARE 12) (gSHARE_16 : P pSHARE 16) : Same P s0 (State.railUpdate s) := by
  unfold State.railUpdate
  extract_lets -merge -underBinder +onlyGivenNames x0 x1 x2 x3
  have hx3 : Same P s0 x3 := State.putB_same _ _ _ hk gSHARE_12
  try clear_value x3
  extract_lets -merge -underBinder +onlyGivenNames x4
  have hx4 : Same P s0 x4 := State.forPorts_same hx3 (fun _ _ h5 => State.modShare_same _ _ h5)
  try clear_value x4
  exact Same.ite (fun _ => State.shareEvt_same _ hx4 gSHARE_16) (fun _ => hx3)

theorem State.shareTargets_same (hk : Same P s0 s) (gSHARE_any : ∀ o, o < 256 → P pSHARE o) : Same P s0 (State.shareTargets s) := by
  unfold State.shareTargets
  extract_lets -merge -underBinder +onlyGivenNames x0 x1 x2 x3 x4 x5 x6 x7 x8 x9
  have hx9 : Same P s0 x9 := State.put_same _ _ _ (State.put_same _ _ _ hk (gSHARE_any _ (by decide))) (gSHARE_any _ (by decide))
  try clear_value x9
  extract_lets -merge -underBinder +onlyGivenNames x10
  have hx10 : Same P s0 x10 := State.putB_same _ _ _ hx9 (gSHARE_any _ (by decide))
  try clear_value x10
  extract_lets -merge -underBinder +onlyGivenNames x11
  have hx11 : Same P s0 x11 := Same.ite (fun _ => State.shareEvt_same _ hx10 (gSHARE_any _ (by decide))) (fun _ => hx10)
  try clear_value x11
  extract_lets -merge -underBinder +onlyGivenNames x12
  have hx12 : Same P s0 x12 := State.putB_same _ _ _ hx11 (gSHARE_any _ (by decide))
  try clear_value x12
  extract_lets -merge -underBinder +onlyGivenNames x13
  refine State.forPorts_same ?_ ?_
  · exact hx12
  · intro s14_0 s14_1 hs14_1
    extract_lets -merge -underBinder +onlyGivenNames x15 x16 x17 x18 x19 x20 x21 x22 x23 x24
    clear_value x24
    extract_lets -merge -underBinder +onlyGivenNames x25 x26 x27 x28
    have hx28 : Same P s0 x28 := Same.ite (fun _ => State.shareEvt_same _ hs14_1 (gSHARE_any _ (by decide))) (fun _ => hs14_1)
    try clear_value x28
    extract_lets -merge -underBinder +onlyGivenNames x29
    have hx29 : Same P s0 x29 := State.raiseIf_same _ _ _ hx28 (gSHARE_any _ (by decide))
    try clear_value x29
    extract_lets -merge -underBinder +onlyGivenNames x30
    have hx30 : Same P s0 x30 := State.put_same _ _ _ (State.put_same _ _ _ hx29 (gSHARE_any _ (by (try simp only [List.mem_range, List.mem_cons, List.not_mem_nil, or_false] at hm); (try simp only [Fld.at, SHARE.PORT_STAT_TARGET, x27]); omega))) (gSHARE_any _ (by (try simp only [List.mem_range, List.mem_cons, List.not_mem_nil, or_false] at hm); (try simp only [Fld.at, SHARE.PORT_STAT_LIMIT, x27]); omega))
    try clear_value x30
    extract_lets -merge -underBinder +onlyGivenNames x31
    have hx31 : Same P s0 x31 := State.put_same _ _ _ (State.putB_same _ _ _ hx30 (gSHARE_any _ (by (try simp only [List.mem_range, List.mem_cons, List.not_mem_nil, or_false] at hm); (try simp only [Fld.at, SHARE.PORT_STAT_BUDGET, x27]); omega))) (gSHARE_any _ (by (try simp only [List.mem_range, List.mem_cons, List.not_mem_nil, or_false] at hm); (try simp only [Fld.at, SHARE.PORT_STAT_STATE, x27]); omega))
    try clear_value x31
    extract_lets -merge -underBinder +onlyGivenNames x32 x33
    have hx33 : Same P s0 x33 := State.putB_same _ _ _ hx31 (gSHARE_any _ (by (try simp only [List.mem_range, List.mem_cons, List.not_mem_nil, or_false] at hm); (try simp only [Fld.at, SHARE.PORT_STAT_HELD, x27]); omega))
    try clear_value x33
    extract_lets -merge -underBinder +onlyGivenNames x34
    exact State.modShare_same _ _ hx33

theorem State.trimSet_same (n : Port) (t : ℤ) (hk : Same P s0 s) (gSHARE_any : ∀ o, o < 256 → P pSHARE o) : Same P s0 (State.trimSet s n t) := by
  unfold State.trimSet
  extract_lets -merge -underBinder +onlyGivenNames x0 x1
  split
  · extract_lets -merge -underBinder +onlyGivenNames x2
    extract_lets -merge -underBinder +onlyGivenNames x3 x4 x5 x6 x7 x8
    have hx8 : Same P s0 x8 := State.put_same _ _ _ hk (gSHARE_any _ (by (try simp only [List.mem_range, List.mem_cons, List.not_mem_nil, or_false] at hm); (try simp only [Fld.at, SHARE.TRIM_DOWN, x6]); omega))
    try clear_value x8
    extract_lets -merge -underBinder +onlyGivenNames x9
    have hx9 : Same P s0 x9 := State.put_same _ _ _ (State.put_same _ _ _ hx8 (gSHARE_any _ (by (try simp only [List.mem_range, List.mem_cons, List.not_mem_nil, or_false] at hm); (try simp only [Fld.at, SHARE.TRIM_TRIM, x6]); omega))) (gSHARE_any _ (by (try simp only [List.mem_range, List.mem_cons, List.not_mem_nil, or_false] at hm); (try simp only [Fld.at, SHARE.TRIM_V_REQ, x6]); omega))
    try clear_value x9
    exact Same.ite (fun _ => State.shareEvt_same _ (State.put_same _ _ _ hx9 (gSHARE_any _ (by (try simp only [List.mem_range, List.mem_cons, List.not_mem_nil, or_false] at hm); (try simp only [Fld.at, SHARE.TRIM_PENDING, x6]); omega))) (gSHARE_any _ (by decide))) (fun _ => hx9)

theorem State.coarse_same (hk : Same P s0 s) (gSHARE_any : ∀ o, o < 256 → P pSHARE o) : Same P s0 (State.coarse s) := by
  unfold State.coarse
  extract_lets -merge -underBinder +onlyGivenNames x0 x1 x2 x3 x4
  have hx4 : Same P s0 x4 := State.forPorts_same hk (fun _ _ h5 => State.put_same _ _ _ h5 (gSHARE_any _ (by (try simp only [List.mem_range, List.mem_cons, List.not_mem_nil, or_false] at hm); (try simp only [Fld.at, SHARE.TRIM_TRIM]); omega)))
  try clear_value x4
  extract_lets -merge -underBinder +onlyGivenNames x6 x7
  have hx7 : Same P s0 x7 := Same.mk' hx4
  try clear_value x7
  extract_lets -merge -underBinder +onlyGivenNames x8
  have hx8 : Same P s0 x8 := foldl_same _ hk (fun _ _ _ h9 => State.trimSet_same _ _ h9 (fun o ho => gSHARE_any o ho))
  try clear_value x8
  extract_lets -merge -underBinder +onlyGivenNames x10 x11
  have hx11 : Same P s0 x11 := Same.ite (fun _ => foldl_same _ hx7 (fun _ _ _ h12 => State.trimSet_same _ _ h12 (fun o ho => gSHARE_any o ho))) (fun _ => foldl_same _ hx8 (fun _ _ _ h13 => State.trimSet_same _ _ h13 (fun o ho => gSHARE_any o ho)))
  try clear_value x11
  exact State.forPorts_same hx11 (fun _ _ h14 => State.modShare_same _ _ h14)

theorem State.shareTick_same (hk : Same P s0 s) (gSHARE_any : ∀ o, o < 256 → P pSHARE o) (gGUARD_16 : ∀ m, P (pGUARD m) 16) (gGUARD_12 : ∀ m, P (pGUARD m) 12) (gPOL_16 : ∀ m, P (pPOL m) 16) (gPOL_12 : ∀ m, P (pPOL m) 12) : Same P s0 (State.shareTick s) := by
  unfold State.shareTick
  extract_lets -merge -underBinder +onlyGivenNames x0
  have hx0 : Same P s0 x0 := State.railUpdate_same hk (gSHARE_any _ (by decide)) (gSHARE_any _ (by decide))
  try clear_value x0
  extract_lets -merge -underBinder +onlyGivenNames x1
  have hx1 : Same P s0 x1 := State.forPorts_same hx0 (fun _ _ h2 => State.modShare_same _ _ h2)
  try clear_value x1
  extract_lets -merge -underBinder +onlyGivenNames x3 x4
  have hx4 : Same P s0 x4 := Same.mk' hx1
  try clear_value x4
  extract_lets -merge -underBinder +onlyGivenNames x5
  have hx5 : Same P s0 x5 := Same.ite (fun _ => hx1) (fun _ => Same.ite (fun _ => State.put_same _ _ _ hx4 (gSHARE_any _ (by decide))) (fun _ => hx4))
  try clear_value x5
  extract_lets -merge -underBinder +onlyGivenNames x6
  have hx6 : Same P s0 x6 := State.forPorts_same hx5 (fun _ _ h7 => Same.ite (fun _ => State.rampDone_same _ h7 (gGUARD_16 _) (gGUARD_12 _) (gPOL_16 _) (gPOL_12 _)) (fun _ => h7))
  try clear_value x6
  extract_lets -merge -underBinder +onlyGivenNames x8
  have hx8 : Same P s0 x8 := State.shareTargets_same hx6 (fun o ho => gSHARE_any o ho)
  try clear_value x8
  exact Same.ite (fun _ => State.forPorts_same hx0 (fun _ _ h9 => Same.ite (fun _ => State.put_same _ _ _ h9 (gSHARE_any _ (by (try simp only [List.mem_range, List.mem_cons, List.not_mem_nil, or_false] at hm); (try simp only [Fld.at, SHARE.PORT_STAT_LIMIT]); omega))) (fun _ => h9))) (fun _ => Same.ite (fun _ => State.coarse_same hx8 (fun o ho => gSHARE_any o ho)) (fun _ => hx8))

theorem State.shareReset_same (hk : Same P s0 s) : Same P s0 (State.shareReset s) := by
  unfold State.shareReset
  exact Same.mk' hk

theorem State.shareResume_same (hk : Same P s0 s) (gSHARE_any : ∀ o, o < 256 → P pSHARE o) : Same P s0 (State.shareResume s) := by
  unfold State.shareResume
  extract_lets -merge -underBinder +onlyGivenNames x0
  have hx0 : Same P s0 x0 := State.forPorts_same hk (fun _ _ h1 => Same.ite (fun _ => State.put_same _ _ _ h1 (gSHARE_any _ (by (try simp only [List.mem_range, List.mem_cons, List.not_mem_nil, or_false] at hm); (try simp only [Fld.at, SHARE.TRIM_TRIM]); omega))) (fun _ => h1))
  try clear_value x0
  exact Same.ite (fun _ => Same.mk' hx0) (fun _ => hk)

theorem State.trimClearCmd_same (hk : Same P s0 s) : Same P s0 (State.trimClearCmd s) := by
  unfold State.trimClearCmd
  exact Same.mk' hk

theorem State.hpdWrite_same (n : Port) (level : Bool) (hk : Same P s0 s) (gVDM_52 : P (pVDM n) 52) : Same P s0 (State.hpdWrite s n level) := by
  unfold State.hpdWrite
  extract_lets -merge -underBinder +onlyGivenNames x0
  have hx0 : Same P s0 x0 := State.putB_same _ _ _ hk gVDM_52
  try clear_value x0
  exact Same.ite (fun _ => hx0) (fun _ => State.modPort_same _ _ hx0)

theorem State.hpdIrq_same (n : Port) (early : Bool) (hk : Same P s0 s) (gVDM_16 : P (pVDM n) 16) : Same P s0 (State.hpdIrq s n early) := by
  unfold State.hpdIrq
  exact Same.ite (fun _ => hk) (fun _ => Same.ite (fun _ => State.raise_same _ _ hk gVDM_16) (fun _ => Same.ite (fun _ => State.modPort_same _ _ hk) (fun _ => State.modPort_same _ _ hk)))

theorem State.muxEnd_same (result : ℕ) (bytes : ℕ) (hk : Same P s0 s) (gMUXB_76 : P pMUXB 76) (gMUXB_16 : P pMUXB 16) : Same P s0 (State.muxEnd s result bytes) := by
  unfold State.muxEnd
  extract_lets -merge -underBinder +onlyGivenNames x0
  have hx0 : Same P s0 x0 := State.put_same _ _ _ (State.put_same _ _ _ (State.put_same _ _ _ hk gMUXB_76) gMUXB_76) gMUXB_76
  try clear_value x0
  exact State.raise_same _ _ hx0 gMUXB_16

theorem State.muxGo_same (hk : Same P s0 s) (gMUXB_16 : P pMUXB 16) (gMUXB_76 : P pMUXB 76) : Same P s0 (State.muxGo s) := by
  unfold State.muxGo
  extract_lets -merge -underBinder +onlyGivenNames x0 x1
  exact Same.ite (fun _ => State.lockedWrite_same _ hk gMUXB_16) (fun _ => Same.ite (fun _ => State.muxEnd_same _ _ hk gMUXB_76 gMUXB_16) (fun _ => State.put_same _ _ _ hk gMUXB_76))

theorem State.muxAbort_same (bytes : ℕ) (hk : Same P s0 s) (gMUXB_76 : P pMUXB 76) (gMUXB_16 : P pMUXB 16) : Same P s0 (State.muxAbort s bytes) := by
  unfold State.muxAbort
  exact Same.ite (fun _ => State.muxEnd_same _ _ hk gMUXB_76 gMUXB_16) (fun _ => hk)

theorem State.muxRdata_same (bs : List Byte) (hk : Same P s0 s) (gMUXB_any : ∀ o, o < 256 → P pMUXB o) : Same P s0 (State.muxRdata s bs) := by
  unfold State.muxRdata
  refine foldl_same _ ?_ ?_
  · exact hk
  · intro s0_0 s0_1 hm hs0_1
    extract_lets -merge -underBinder +onlyGivenNames x1
    exact Same.ite (fun _ => hs0_1) (fun _ => State.put_same _ _ _ hs0_1 (gMUXB_any _ (by (try simp only [List.mem_range, List.mem_cons, List.not_mem_nil, or_false] at hm); (try simp only [Fld.at, MUXB.RDATA_BYTES]); omega)))

theorem State.fwSendExt_same (n : Port) (typ : ℕ) (data : List Byte) (hk : Same P s0 s) (gPDL_16 : P (pPDL n) 16) : Same P s0 (State.fwSendExt s n typ data) := by
  unfold State.fwSendExt
  exact State.fwPut_same _ _ hk gPDL_16

end Sys2Proof.Machine
end

