-- ==== Sys2Proof/Laws/SameFleet.lean ====
section
/-!
SUPPORT. `Same` over the operations of links, fleet, port policy, VDM, placement, twins: one lemma per operation.
-/

set_option Elab.async false

namespace Sys2Proof.Machine

variable {P : Nat → Nat → Prop} {s0 s : State}

theorem State.modLink_same (l : Link) (f : LinkSt → LinkSt) (hk : Same P s0 s) : Same P s0 (State.modLink s l f) := by
  unfold State.modLink
  exact Same.mk' hk

theorem State.modFleet_same (f : FleetSt → FleetSt) (hk : Same P s0 s) : Same P s0 (State.modFleet s f) := by
  unfold State.modFleet
  exact Same.mk' hk

theorem State.transmit_same (l : Link) (f : TxF) (hk : Same P s0 s) (gHG_52 : P (pHG l) 52) (gHG_48 : P (pHG l) 48) : Same P s0 (State.transmit s l f) := by
  unfold State.transmit
  extract_lets -merge -underBinder +onlyGivenNames x0 x1 x2 x3
  have hx3 : Same P s0 x3 := State.modLink_same _ _ hk
  try clear_value x3
  exact State.incr_same _ _ (State.put_same _ _ _ (State.put_same _ _ _ hx3 gHG_48) gHG_48) gHG_52

theorem State.drain_same (l : Link) (hk : Same P s0 s) (gHG_52 : P (pHG l) 52) (gHG_48 : P (pHG l) 48) : Same P s0 (State.drain s l) := by
  unfold State.drain
  refine foldl_same _ ?_ ?_
  · exact hk
  · intro s0_0 s0_1 hm hs0_1
    split
    · exact hs0_1
    · exact Same.ite (fun _ => State.transmit_same _ _ (State.modLink_same _ _ hs0_1) gHG_52 gHG_48) (fun _ => hs0_1)

theorem State.linkSend_same (l : Link) (f : TxF) (hk : Same P s0 s) (gHG_52 : P (pHG l) 52) (gHG_48 : P (pHG l) 48) : Same P s0 (State.linkSend s l f) := by
  unfold State.linkSend
  exact State.drain_same _ (State.modLink_same _ _ hk) gHG_52 gHG_48

theorem State.ringSend_same (l : Link) (b : List Byte) (hops : ℕ) (wrapped : Bool) (slot : Option ℕ) (hk : Same P s0 s) (gHG_52 : ∀ m, P (pHG m) 52) (gHG_48 : ∀ m, P (pHG m) 48) : Same P s0 (State.ringSend s l b hops wrapped slot) := by
  unfold State.ringSend
  exact Same.ite (fun _ => State.linkSend_same _ _ hk (gHG_52 _) (gHG_48 _)) (fun _ => Same.ite (fun _ => hk) (fun _ => Same.ite (fun _ => State.linkSend_same _ _ hk (gHG_52 _) (gHG_48 _)) (fun _ => hk)))

theorem State.sendTo_same (typ : ℕ) (dest : ℕ) (tag : ℕ) (payload : List Byte) (hk : Same P s0 s) (gHG_52 : ∀ m, P (pHG m) 52) (gHG_48 : ∀ m, P (pHG m) 48) : Same P s0 (State.sendTo s typ dest tag payload) := by
  unfold State.sendTo
  exact State.ringSend_same _ _ _ _ _ hk (fun m => gHG_52 m) (fun m => gHG_48 m)

theorem State.broadcast_same (typ : ℕ) (payload : List Byte) (hk : Same P s0 s) (gHG_52 : ∀ m, P (pHG m) 52) (gHG_48 : ∀ m, P (pHG m) 48) : Same P s0 (State.broadcast s typ payload) := by
  unfold State.broadcast
  extract_lets -merge -underBinder +onlyGivenNames x0 x1
  have hx1 : Same P s0 x1 := State.ringSend_same _ _ _ _ _ (State.ringSend_same _ _ _ _ _ hk (fun m => gHG_52 m) (fun m => gHG_48 m)) (fun m => gHG_52 m) (fun m => gHG_48 m)
  try clear_value x1
  exact State.modFleet_same _ hx1

theorem State.txfStatus_same (slot : ℕ) (status : ℕ) (hk : Same P s0 s) : Same P s0 (State.txfStatus s slot status) := by
  unfold State.txfStatus
  extract_lets -merge -underBinder +onlyGivenNames x0
  have hx0 : Same P s0 x0 := State.stPut_same _ _ _ hk
  try clear_value x0
  exact State.stPut_same _ _ _ hx0

theorem State.txfEnd_same (slot : ℕ) (status : ℕ) (hk : Same P s0 s) (gFLEET_16 : P pFLEET 16) : Same P s0 (State.txfEnd s slot status) := by
  unfold State.txfEnd
  exact State.raise_same _ _ (State.txfStatus_same _ _ hk) gFLEET_16

theorem State.linkWord_same (l : Link) (nak : Bool) (hk : Same P s0 s) (gHG_44 : P (pHG l) 44) : Same P s0 (State.linkWord s l nak) := by
  unfold State.linkWord
  extract_lets -merge -underBinder +onlyGivenNames x0
  have hx0 : Same P s0 x0 := State.when_same _ hk (fun _ h1 => State.bump_same _ _ _ h1 gHG_44)
  try clear_value x0
  exact State.modLink_same _ _ hx0

theorem State.linkErr_same (l : Link) (f : Fld) (n : ℕ) (hk : Same P s0 s) (gHG_f2 : P (pHG l) f.off) (gHG_60 : P (pHG l) 60) : Same P s0 (State.linkErr s l f n) := by
  unfold State.linkErr
  extract_lets -merge -underBinder +onlyGivenNames x0
  have hx0 : Same P s0 x0 := State.modLink_same _ _ (State.bump_same _ _ _ hk gHG_f2)
  try clear_value x0
  exact State.put_same _ _ _ hx0 gHG_60

theorem State.acked_same (f : TxF) (hk : Same P s0 s) (gFLEET_16 : P pFLEET 16) : Same P s0 (State.acked s f) := by
  unfold State.acked
  extract_lets -merge -underBinder +onlyGivenNames x0
  have hx0 : Same P s0 x0 := Same.ite (fun _ => State.modFleet_same _ hk) (fun _ => hk)
  try clear_value x0
  split
  · exact State.txfEnd_same _ _ (State.stWrite_same _ _ hx0) gFLEET_16
  · exact hx0

theorem State.takeAck_same (l : Link) (ack : ℕ) (hk : Same P s0 s) (gFLEET_16 : P pFLEET 16) (gHG_48 : P (pHG l) 48) (gHG_52 : P (pHG l) 52) : Same P s0 (State.takeAck s l ack) := by
  unfold State.takeAck
  extract_lets -merge -underBinder +onlyGivenNames x0
  split
  · exact hk
  · extract_lets -merge -underBinder +onlyGivenNames x1
    have hx1 : Same P s0 x1 := foldl_same _ hk (fun _ _ _ h2 => State.acked_same _ h2 gFLEET_16)
    try clear_value x1
    extract_lets -merge -underBinder +onlyGivenNames x3
    have hx3 : Same P s0 x3 := State.modLink_same _ _ hx1
    try clear_value x3
    extract_lets -merge -underBinder +onlyGivenNames x4
    have hx4 : Same P s0 x4 := State.put_same _ _ _ (State.put_same _ _ _ hx3 gHG_48) gHG_48
    try clear_value x4
    exact State.drain_same _ hx4 gHG_52 gHG_48

theorem State.goBack_same (l : Link) (hk : Same P s0 s) (gHG_16 : P (pHG l) 16) (gHG_44 : P (pHG l) 44) : Same P s0 (State.goBack s l) := by
  unfold State.goBack
  extract_lets -merge -underBinder +onlyGivenNames x0 x1
  have hx1 : Same P s0 x1 := State.modLink_same _ _ hk
  try clear_value x1
  exact Same.ite (fun _ => hx1) (fun _ => State.raise_same _ _ (State.bump_same _ _ _ hx1 gHG_44) gHG_16)

theorem State.setWrap_same (l : Link) (b : Bool) (hk : Same P s0 s) (gHG_16 : ∀ m, P (pHG m) 16) (gHG_12 : ∀ m, P (pHG m) 12) (gFLEET_12 : P pFLEET 12) (gFLEET_16 : P pFLEET 16) (gHG_52 : ∀ m, P (pHG m) 52) (gHG_48 : ∀ m, P (pHG m) 48) : Same P s0 (State.setWrap s l b) := by
  unfold State.setWrap
  extract_lets -merge -underBinder +onlyGivenNames x0
  have hx0 : Same P s0 x0 := State.raise_same _ _ (State.putB_same _ _ _ hk (gHG_12 _)) (gHG_16 _)
  try clear_value x0
  extract_lets -merge -underBinder +onlyGivenNames x1 x2 x3
  have hx3 : Same P s0 x3 := State.modFleet_same _ hx0
  try clear_value x3
  extract_lets -merge -underBinder +onlyGivenNames x4
  have hx4 : Same P s0 x4 := State.putB_same _ _ _ hx3 gFLEET_12
  try clear_value x4
  extract_lets -merge -underBinder +onlyGivenNames x5
  have hx5 : Same P s0 x5 := State.raiseIf_same _ _ _ (State.raiseIf_same _ _ _ hx4 gFLEET_16) gFLEET_16
  try clear_value x5
  exact Same.ite (fun _ => hk) (fun _ => State.broadcast_same _ _ hx5 (fun m => gHG_52 m) (fun m => gHG_48 m))

theorem State.dropWindow_same (l : Link) (hk : Same P s0 s) (gHG_48 : P (pHG l) 48) (gFLEET_16 : P pFLEET 16) : Same P s0 (State.dropWindow s l) := by
  unfold State.dropWindow
  extract_lets -merge -underBinder +onlyGivenNames x0 x1
  have hx1 : Same P s0 x1 := State.modLink_same _ _ hk
  try clear_value x1
  extract_lets -merge -underBinder +onlyGivenNames x2
  have hx2 : Same P s0 x2 := State.put_same _ _ _ (State.put_same _ _ _ hx1 gHG_48) gHG_48
  try clear_value x2
  refine foldl_same _ ?_ ?_
  · exact hx2
  · intro s3_0 s3_1 hm hs3_1
    split
    · exact State.txfEnd_same _ _ hs3_1 gFLEET_16
    · exact hs3_1

theorem State.linkTo_same (l : Link) (st : ℕ) (hk : Same P s0 s) (gHG_12 : ∀ m, P (pHG m) 12) (gHG_16 : ∀ m, P (pHG m) 16) (gFLEET_12 : P pFLEET 12) (gFLEET_16 : P pFLEET 16) (gHG_52 : ∀ m, P (pHG m) 52) (gHG_48 : ∀ m, P (pHG m) 48) : Same P s0 (State.linkTo s l st) := by
  unfold State.linkTo
  extract_lets -merge -underBinder +onlyGivenNames x0 x1
  have hx1 : Same P s0 x1 := State.put_same _ _ _ hk (gHG_12 _)
  try clear_value x1
  extract_lets -merge -underBinder +onlyGivenNames x2
  have hx2 : Same P s0 x2 := Same.ite (fun _ => State.setWrap_same _ _ (State.dropWindow_same _ hx1 (gHG_48 _) gFLEET_16) (fun m => gHG_16 m) (fun m => gHG_12 m) gFLEET_12 gFLEET_16 (fun m => gHG_52 m) (fun m => gHG_48 m)) (fun _ => hx1)
  try clear_value x2
  extract_lets -merge -underBinder +onlyGivenNames x3
  have hx3 : Same P s0 x3 := Same.ite (fun _ => hx2) (fun _ => State.put_same _ _ _ hx2 (gHG_12 _))
  try clear_value x3
  exact Same.ite (fun _ => State.raise_same _ _ hx3 (gHG_16 _)) (fun _ => Same.ite (fun _ => State.raise_same _ _ hx3 (gHG_16 _)) (fun _ => hx3))

theorem State.linkRetire_same (l : Link) (cause : ℕ) (hk : Same P s0 s) (gHG_60 : ∀ m, P (pHG m) 60) (gHG_12 : ∀ m, P (pHG m) 12) (gHG_16 : ∀ m, P (pHG m) 16) (gFLEET_12 : P pFLEET 12) (gFLEET_16 : P pFLEET 16) (gHG_52 : ∀ m, P (pHG m) 52) (gHG_48 : ∀ m, P (pHG m) 48) : Same P s0 (State.linkRetire s l cause) := by
  unfold State.linkRetire
  exact State.put_same _ _ _ (State.put_same _ _ _ (State.linkTo_same _ _ hk (fun m => gHG_12 m) (fun m => gHG_16 m) gFLEET_12 gFLEET_16 (fun m => gHG_52 m) (fun m => gHG_48 m)) (gHG_60 _)) (gHG_60 _)

theorem State.linkLost_same (l : Link) (locked : Bool) (hk : Same P s0 s) (gHG_12 : ∀ m, P (pHG m) 12) (gHG_16 : ∀ m, P (pHG m) 16) (gFLEET_12 : P pFLEET 12) (gFLEET_16 : P pFLEET 16) (gHG_52 : ∀ m, P (pHG m) 52) (gHG_48 : ∀ m, P (pHG m) 48) : Same P s0 (State.linkLost s l locked) := by
  unfold State.linkLost
  extract_lets -merge -underBinder +onlyGivenNames x0
  have hx0 : Same P s0 x0 := Same.ite (fun _ => State.linkTo_same _ _ hk (fun m => gHG_12 m) (fun m => gHG_16 m) gFLEET_12 gFLEET_16 (fun m => gHG_52 m) (fun m => gHG_48 m)) (fun _ => hk)
  try clear_value x0
  exact Same.ite (fun _ => hx0) (fun _ => State.modLink_same _ _ (State.put_same _ _ _ hx0 (gHG_12 _)))

theorem State.linkTick_same (l : Link) (hk : Same P s0 s) (gHG_12 : ∀ m, P (pHG m) 12) (gHG_16 : ∀ m, P (pHG m) 16) (gFLEET_12 : P pFLEET 12) (gFLEET_16 : P pFLEET 16) (gHG_52 : ∀ m, P (pHG m) 52) (gHG_48 : ∀ m, P (pHG m) 48) (gHG_60 : ∀ m, P (pHG m) 60) : Same P s0 (State.linkTick s l) := by
  unfold State.linkTick
  extract_lets -merge -underBinder +onlyGivenNames x0 x1 x2
  have hx2 : Same P s0 x2 := Same.ite (fun _ => hk) (fun _ => Same.ite (fun _ => State.put_same _ _ _ hk (gHG_12 _)) (fun _ => Same.ite (fun _ => State.linkTo_same _ _ hk (fun m => gHG_12 m) (fun m => gHG_16 m) gFLEET_12 gFLEET_16 (fun m => gHG_52 m) (fun m => gHG_48 m)) (fun _ => hk)))
  try clear_value x2
  extract_lets -merge -underBinder +onlyGivenNames x3
  have hx3 : Same P s0 x3 := State.setWrap_same _ _ hx2 (fun m => gHG_16 m) (fun m => gHG_12 m) gFLEET_12 gFLEET_16 (fun m => gHG_52 m) (fun m => gHG_48 m)
  try clear_value x3
  extract_lets -merge -underBinder +onlyGivenNames x4 x5
  have hx5 : Same P s0 x5 := State.put_same _ _ _ hx3 (gHG_12 _)
  try clear_value x5
  extract_lets -merge -underBinder +onlyGivenNames x6
  have hx6 : Same P s0 x6 := State.raiseIf_same _ _ _ hx5 (gHG_16 _)
  try clear_value x6
  exact Same.ite (fun _ => State.put_same _ _ _ (State.modLink_same _ _ hx6) (gHG_60 _)) (fun _ => hx6)

theorem State.deliver_same (via : ℕ) (b : List Byte) (hk : Same P s0 s) : Same P s0 (State.deliver s via b) := by
  unfold State.deliver
  exact State.modFleet_same _ hk

theorem State.bcastSeen_same (b : List Byte) (hk : Same P s0 s) : Same P s0 (State.bcastSeen s b) := by
  unfold State.bcastSeen
  exact State.modFleet_same _ hk

theorem State.hear_same (src : ℕ) (hk : Same P s0 s) : Same P s0 (State.hear s src) := by
  unfold State.hear
  exact State.modFleet_same _ hk

theorem State.probeReturns_same (b : List Byte) (hk : Same P s0 s) (gFLEET_36 : P pFLEET 36) : Same P s0 (State.probeReturns s b) := by
  unfold State.probeReturns
  extract_lets -merge -underBinder +onlyGivenNames x0
  exact State.modFleet_same _ (State.put_same _ _ _ hk gFLEET_36)

theorem State.ringTake_same (l : Link) (b : List Byte) (hk : Same P s0 s) (gHG_52 : ∀ m, P (pHG m) 52) (gHG_48 : ∀ m, P (pHG m) 48) (gFLEET_104 : P pFLEET 104) (gFLEET_36 : P pFLEET 36) : Same P s0 (State.ringTake s l b) := by
  unfold State.ringTake
  extract_lets -merge -underBinder +onlyGivenNames x0 x1 x2
  have hx2 : Same P s0 x2 := State.hear_same _ hk
  try clear_value x2
  extract_lets -merge -underBinder +onlyGivenNames x3 x4
  have hx4 : ∀ a0, Same P s0 a0 → Same P s0 (x4 a0) := by
    intro s5_0 hs5_1
    unfold x4
    beta_reduce
    exact Same.ite (fun _ => hs5_1) (fun _ => State.ringSend_same _ _ _ _ _ hs5_1 (fun m => gHG_52 m) (fun m => gHG_48 m))
  try clear_value x4
  extract_lets -merge -underBinder +onlyGivenNames x6
  have hx6 : Same P s0 x6 := Same.ite (fun _ => State.deliver_same _ _ (State.bcastSeen_same _ hx2)) (fun _ => hx2)
  try clear_value x6
  refine Same.ite (fun _ => ?_) (fun _ => ?_)
  · exact State.bump_same _ _ _ hx2 gFLEET_104
  · refine Same.ite (fun _ => ?_) (fun _ => ?_)
    · refine Same.ite (fun _ => ?_) (fun _ => ?_)
      · exact hx2
      · refine hx4 _ ?_
        exact State.deliver_same _ _ hx2
    · refine Same.ite (fun _ => ?_) (fun _ => ?_)
      · refine Same.ite (fun _ => ?_) (fun _ => ?_)
        · exact hx2
        · refine hx4 _ ?_
          exact hx6
      · refine Same.ite (fun _ => ?_) (fun _ => ?_)
        · refine Same.ite (fun _ => ?_) (fun _ => ?_)
          · exact State.probeReturns_same _ hx2 gFLEET_36
          · refine hx4 _ ?_
            exact hx2
        · refine Same.ite (fun _ => ?_) (fun _ => ?_)
          · exact State.deliver_same _ _ hx2
          · refine Same.ite (fun _ => ?_) (fun _ => ?_)
            · exact State.deliver_same _ _ hx2
            · refine Same.ite (fun _ => ?_) (fun _ => ?_)
              · exact State.bump_same _ _ _ hx2 gFLEET_104
              · refine hx4 _ ?_
                exact hx2

theorem State.errLimit_same (l : Link) (hk : Same P s0 s) (gHG_60 : ∀ m, P (pHG m) 60) (gHG_12 : ∀ m, P (pHG m) 12) (gHG_16 : ∀ m, P (pHG m) 16) (gFLEET_12 : P pFLEET 12) (gFLEET_16 : P pFLEET 16) (gHG_52 : ∀ m, P (pHG m) 52) (gHG_48 : ∀ m, P (pHG m) 48) : Same P s0 (State.errLimit s l) := by
  unfold State.errLimit
  exact Same.ite (fun _ => State.linkRetire_same _ _ hk (fun m => gHG_60 m) (fun m => gHG_12 m) (fun m => gHG_16 m) gFLEET_12 gFLEET_16 (fun m => gHG_52 m) (fun m => gHG_48 m)) (fun _ => hk)

theorem State.probeLink_same (l : Link) (hk : Same P s0 s) (gHG_60 : ∀ m, P (pHG m) 60) (gHG_12 : ∀ m, P (pHG m) 12) (gHG_16 : ∀ m, P (pHG m) 16) (gFLEET_12 : P pFLEET 12) (gFLEET_16 : P pFLEET 16) (gHG_52 : ∀ m, P (pHG m) 52) (gHG_48 : ∀ m, P (pHG m) 48) : Same P s0 (State.probeLink s l) := by
  unfold State.probeLink
  exact Same.ite (fun _ => State.bump_same _ _ _ (State.linkTo_same _ _ hk (fun m => gHG_12 m) (fun m => gHG_16 m) gFLEET_12 gFLEET_16 (fun m => gHG_52 m) (fun m => gHG_48 m)) (gHG_60 _)) (fun _ => hk)

theorem State.hgRetire_same (l : Link) (hk : Same P s0 s) (gHG_60 : ∀ m, P (pHG m) 60) (gHG_12 : ∀ m, P (pHG m) 12) (gHG_16 : ∀ m, P (pHG m) 16) (gFLEET_12 : P pFLEET 12) (gFLEET_16 : P pFLEET 16) (gHG_52 : ∀ m, P (pHG m) 52) (gHG_48 : ∀ m, P (pHG m) 48) : Same P s0 (State.hgRetire s l) := by
  unfold State.hgRetire
  exact Same.ite (fun _ => hk) (fun _ => State.linkRetire_same _ _ hk (fun m => gHG_60 m) (fun m => gHG_12 m) (fun m => gHG_16 m) gFLEET_12 gFLEET_16 (fun m => gHG_52 m) (fun m => gHG_48 m))

theorem State.hgClear_same (l : Link) (hk : Same P s0 s) (gHG_56 : P (pHG l) 56) (gHG_52 : P (pHG l) 52) (gHG_44 : P (pHG l) 44) (gHG_40 : P (pHG l) 40) : Same P s0 (State.hgClear s l) := by
  unfold State.hgClear
  exact State.wr_same _ _ _ (State.wr_same _ _ _ (State.wr_same _ _ _ (State.wr_same _ _ _ hk gHG_40) gHG_44) gHG_52) gHG_56

theorem State.takeFrame_same (p : RxF → Bool) (hk : Same P s0 s) {f : RxF} {t : State} (e : State.takeFrame s p = some (f, t)) : Same P s0 t := by
  unfold State.takeFrame at e
  split at e
  · exact nomatch e
  · cases e; exact State.modFleet_same _ hk

theorem State.withFrame_same (p : RxF → Bool) {f : RxF → State → State} (hk : Same P s0 s) (hf : ∀ a0 a1, Same P s0 a1 → Same P s0 (f a0 a1)) :
    Same P s0 (State.withFrame s p f) := by
  unfold State.withFrame
  split
  · exact hk
  · rename_i t e
    exact hf _ _ (State.takeFrame_same _ hk e)

theorem State.takeIndex_same (i : ℕ) (hk : Same P s0 s) (gFLEET_12 : P pFLEET 12) (gID_64 : P pID 64) : Same P s0 (State.takeIndex s i) := by
  unfold State.takeIndex
  exact State.modFleet_same _ (State.put_same _ _ _ (State.put_same _ _ _ (State.put_same _ _ _ hk gID_64) gID_64) gFLEET_12)

theorem State.claimIndex_same (map : ℕ) (hk : Same P s0 s) (gFLEET_16 : P pFLEET 16) (gFLEET_12 : P pFLEET 12) (gID_64 : P pID 64) : Same P s0 (State.claimIndex s map).1 := by
  unfold State.claimIndex
  refine Same.iteFst (fun _ => ?_) (fun _ => ?_)
  · refine Same.mkFst ?_
    exact hk
  · refine Same.iteFst (fun _ => ?_) (fun _ => ?_)
    · refine Same.iteFst (fun _ => ?_) (fun _ => ?_)
      · refine Same.mkFst ?_
        exact State.raise_same _ _ (State.put_same _ _ _ hk gFLEET_12) gFLEET_16
      · refine Same.mkFst ?_
        exact State.takeIndex_same _ hk gFLEET_12 gID_64
    · split
      · refine Same.mkFst ?_
        exact State.takeIndex_same _ hk gFLEET_12 gID_64
      · refine Same.mkFst ?_
        exact hk

theorem State.enumerate_same (hk : Same P s0 s) (gFLEET_12 : P pFLEET 12) (gID_64 : P pID 64) (gHG_52 : ∀ m, P (pHG m) 52) (gHG_48 : ∀ m, P (pHG m) 48) : Same P s0 (State.enumerate s) := by
  unfold State.enumerate
  extract_lets -merge -underBinder +onlyGivenNames x0
  have hx0 : Same P s0 x0 := Same.ite (fun _ => hk) (fun _ => State.takeIndex_same _ hk gFLEET_12 gID_64)
  try clear_value x0
  exact State.ringSend_same _ _ _ _ _ hx0 (fun m => gHG_52 m) (fun m => gHG_48 m)

theorem State.regenerate_same (f : RxF) (payload : List Byte) (hk : Same P s0 s) (gHG_52 : ∀ m, P (pHG m) 52) (gHG_48 : ∀ m, P (pHG m) 48) : Same P s0 (State.regenerate s f payload) := by
  unfold State.regenerate
  extract_lets -merge -underBinder +onlyGivenNames x0 x1
  exact Same.ite (fun _ => hk) (fun _ => State.ringSend_same _ _ _ _ _ hk (fun m => gHG_52 m) (fun m => gHG_48 m))

theorem State.takeDone_same (src : ℕ) (p : List Byte) (hk : Same P s0 s) (gFLEET_any : ∀ o, o < 256 → P pFLEET o) : Same P s0 (State.takeDone s src p) := by
  unfold State.takeDone
  extract_lets -merge -underBinder +onlyGivenNames x0
  have hx0 : Same P s0 x0 := State.put_same _ _ _ (State.put_same _ _ _ hk (gFLEET_any _ (by decide))) (gFLEET_any _ (by decide))
  try clear_value x0
  extract_lets -merge -underBinder +onlyGivenNames x1
  have hx1 : Same P s0 x1 := State.put_same _ _ _ (State.put_same _ _ _ (State.put_same _ _ _ hx0 (gFLEET_any _ (by decide))) (gFLEET_any _ (by decide))) (gFLEET_any _ (by decide))
  try clear_value x1
  extract_lets -merge -underBinder +onlyGivenNames x2
  have hx2 : Same P s0 x2 := State.put_same _ _ _ (State.put_same _ _ _ hx1 (gFLEET_any _ (by (try simp only [List.mem_range, List.mem_cons, List.not_mem_nil, or_false] at hm); (try simp only [Fld.at, FLEET.ENUM_MAP_NODES]); omega))) (gFLEET_any _ (by (try simp only [List.mem_range, List.mem_cons, List.not_mem_nil, or_false] at hm); (try simp only [Fld.at, FLEET.ENUM_MAP_NODES]); omega))
  try clear_value x2
  exact Same.ite (fun _ => State.raise_same _ _ (State.put_same _ _ _ hx2 (gFLEET_any _ (by decide))) (gFLEET_any _ (by decide))) (fun _ => hx2)

theorem State.setAligned_same (b : Bool) (hk : Same P s0 s) (gFLEET_16 : P pFLEET 16) (gFLEET_12 : P pFLEET 12) (gCLK_44 : P pCLK 44) : Same P s0 (State.setAligned s b) := by
  unfold State.setAligned
  extract_lets -merge -underBinder +onlyGivenNames x0
  have hx0 : Same P s0 x0 := State.raise_same _ _ (State.putB_same _ _ _ hk gFLEET_12) gFLEET_16
  try clear_value x0
  exact Same.ite (fun _ => hk) (fun _ => State.modFleet_same _ (Same.ite (fun _ => State.put_same _ _ _ hx0 gCLK_44) (fun _ => hx0)))

theorem State.onAssign_same (f : RxF) (hk : Same P s0 s) (gFLEET_48 : P pFLEET 48) (gHG_52 : ∀ m, P (pHG m) 52) (gHG_48 : ∀ m, P (pHG m) 48) (gFLEET_16 : P pFLEET 16) (gFLEET_12 : P pFLEET 12) (gID_64 : P pID 64) (gFLEET_40 : P pFLEET 40) : Same P s0 (State.onAssign s f) := by
  unfold State.onAssign
  extract_lets -merge -underBinder +onlyGivenNames x0 x1 x2 x3
  have hx3 : Same P s0 x3 := State.put_same _ _ _ hk gFLEET_48
  try clear_value x3
  refine Same.ite (fun _ => ?_) (fun _ => ?_)
  · exact State.ringSend_same _ _ _ _ _ hx3 (fun m => gHG_52 m) (fun m => gHG_48 m)
  · refine Same.ite (fun _ => ?_) (fun _ => ?_)
    · exact State.regenerate_same _ _ hk (fun m => gHG_52 m) (fun m => gHG_48 m)
    · split
      · rename_i y4 _ e4
        have hy4 : Same P s0 y4 := by
          refine Same.fst e4 ?_
          refine State.claimIndex_same _ ?_ gFLEET_16 gFLEET_12 gID_64
          exact hk
        extract_lets -merge -underBinder +onlyGivenNames x5
        have hx5 : Same P s0 x5 := Same.ite (fun _ => State.put_same _ _ _ (State.put_same _ _ _ hy4 gFLEET_40) gFLEET_40) (fun _ => hy4)
        try clear_value x5
        exact Same.ite (fun _ => State.regenerate_same _ _ hy4 (fun m => gHG_52 m) (fun m => gHG_48 m)) (fun _ => State.regenerate_same _ _ hx5 (fun m => gHG_52 m) (fun m => gHG_48 m))

theorem State.onCal_same (f : RxF) (hk : Same P s0 s) (gFLEET_any : ∀ o, o < 256 → P pFLEET o) (gCLK_44 : P pCLK 44) (gHG_52 : ∀ m, P (pHG m) 52) (gHG_48 : ∀ m, P (pHG m) 48) : Same P s0 (State.onCal s f) := by
  unfold State.onCal
  extract_lets -merge -underBinder +onlyGivenNames x0 x1 x2 x3
  have hx3 : Same P s0 x3 := State.put_same _ _ _ hk (gFLEET_any _ (by decide))
  try clear_value x3
  extract_lets -merge -underBinder +onlyGivenNames x4 x5
  have hx5 : Same P s0 x5 := Same.ite (fun _ => State.put_same _ _ _ (State.put_same _ _ _ hk (gFLEET_any _ (by decide))) (gFLEET_any _ (by decide))) (fun _ => hk)
  try clear_value x5
  exact Same.ite (fun _ => State.setAligned_same _ (State.takeDone_same _ _ (State.broadcast_same _ _ hx3 (fun m => gHG_52 m) (fun m => gHG_48 m)) (fun o ho => gFLEET_any o ho)) (gFLEET_any _ (by decide)) (gFLEET_any _ (by decide)) gCLK_44) (fun _ => Same.ite (fun _ => State.regenerate_same _ _ hk (fun m => gHG_52 m) (fun m => gHG_48 m)) (fun _ => State.regenerate_same _ _ hx5 (fun m => gHG_52 m) (fun m => gHG_48 m)))

theorem State.enumerateCmd_same (hk : Same P s0 s) (gFLEET_12 : P pFLEET 12) (gID_64 : P pID 64) (gHG_52 : ∀ m, P (pHG m) 52) (gHG_48 : ∀ m, P (pHG m) 48) : Same P s0 (State.enumerateCmd s) := by
  unfold State.enumerateCmd
  exact Same.ite (fun _ => State.enumerate_same hk gFLEET_12 gID_64 (fun m => gHG_52 m) (fun m => gHG_48 m)) (fun _ => hk)

theorem State.distFail_same (hk : Same P s0 s) (gUPD_16 : P pUPD 16) (gUPD_76 : P pUPD 76) : Same P s0 (State.distFail s) := by
  unfold State.distFail
  split
  · exact hk
  · exact State.raise_same _ _ (State.put_same _ _ _ (Same.mk' hk) gUPD_76) gUPD_16

theorem State.standDown_same (hk : Same P s0 s) (gUPD_16 : P pUPD 16) (gUPD_76 : P pUPD 76) (gFLEET_12 : P pFLEET 12) (gSYS_12 : P pSYS 12) : Same P s0 (State.standDown s) := by
  unfold State.standDown
  extract_lets -merge -underBinder +onlyGivenNames x0
  have hx0 : Same P s0 x0 := State.distFail_same hk gUPD_16 gUPD_76
  try clear_value x0
  exact State.modFleet_same _ (State.put_same _ _ _ (State.put_same _ _ _ hx0 gSYS_12) gFLEET_12)

theorem State.takeTick_same (f : RxF) (err : ℤ) (hk : Same P s0 s) (gFLEET_60 : P pFLEET 60) (gFLEET_56 : P pFLEET 56) (gCLK_44 : P pCLK 44) (gFLEET_16 : P pFLEET 16) (gFLEET_12 : P pFLEET 12) : Same P s0 (State.takeTick s f err) := by
  unfold State.takeTick
  extract_lets -merge -underBinder +onlyGivenNames x0 x1 x2 x3
  have hx3 : Same P s0 x3 := State.put_same _ _ _ (State.put_same _ _ _ hk gFLEET_56) gFLEET_60
  try clear_value x3
  extract_lets -merge -underBinder +onlyGivenNames x4
  have hx4 : Same P s0 x4 := State.modFleet_same _ hx3
  try clear_value x4
  extract_lets -merge -underBinder +onlyGivenNames x5
  have hx5 : Same P s0 x5 := State.putB_same _ _ _ (State.put_same _ _ _ hx4 gFLEET_56) gFLEET_56
  try clear_value x5
  extract_lets -merge -underBinder +onlyGivenNames x6
  have hx6 : Same P s0 x6 := State.modFleet_same _ hx5
  try clear_value x6
  extract_lets -merge -underBinder +onlyGivenNames x7 x8
  have hx8 : Same P s0 x8 := State.modFleet_same _ hx6
  try clear_value x8
  extract_lets -merge -underBinder +onlyGivenNames x9 x10
  have hx10 : Same P s0 x10 := Same.ite (fun _ => hx8) (fun _ => State.bump_same _ _ _ (State.put_same _ _ _ hx8 gCLK_44) gCLK_44)
  try clear_value x10
  extract_lets -merge -underBinder +onlyGivenNames x11
  have hx11 : Same P s0 x11 := State.modFleet_same _ hx10
  try clear_value x11
  extract_lets -merge -underBinder +onlyGivenNames x12
  have hx12 : Same P s0 x12 := State.setTick_same _ hx8
  try clear_value x12
  exact Same.ite (fun _ => hx4) (fun _ => Same.ite (fun _ => hx6) (fun _ => Same.ite (fun _ => Same.ite (fun _ => State.setAligned_same _ hx11 gFLEET_16 gFLEET_12 gCLK_44) (fun _ => hx11)) (fun _ => Same.ite (fun _ => State.setAligned_same _ hx12 gFLEET_16 gFLEET_12 gCLK_44) (fun _ => hx12))))

theorem State.sendTick_same (off : ℕ) (hk : Same P s0 s) (gHG_52 : ∀ m, P (pHG m) 52) (gHG_48 : ∀ m, P (pHG m) 48) : Same P s0 (State.sendTick s off) := by
  unfold State.sendTick
  extract_lets -merge -underBinder +onlyGivenNames x0
  exact State.ringSend_same _ _ _ _ _ (State.ringSend_same _ _ _ _ _ hk (fun m => gHG_52 m) (fun m => gHG_48 m)) (fun m => gHG_52 m) (fun m => gHG_48 m)

theorem State.reachTick_same (hk : Same P s0 s) (gFLEET_any : ∀ o, o < 256 → P pFLEET o) : Same P s0 (State.reachTick s) := by
  unfold State.reachTick
  extract_lets -merge -underBinder +onlyGivenNames x0 x1 x2 x3
  have hx3 : Same P s0 x3 := foldl_same _ hk (fun _ _ _ h4 => State.setMapBit_same _ _ _ _ h4 (fun o ho => gFLEET_any o ho))
  try clear_value x3
  exact Same.ite (fun _ => hk) (fun _ => State.raiseIf_same _ _ _ (State.raiseIf_same _ _ _ hx3 (gFLEET_any _ (by decide))) (gFLEET_any _ (by decide)))

theorem State.fleetTick_same (off : ℕ) (hk : Same P s0 s) (gHG_12 : ∀ m, P (pHG m) 12) (gHG_16 : ∀ m, P (pHG m) 16) (gFLEET_any : ∀ o, o < 256 → P pFLEET o) (gHG_52 : ∀ m, P (pHG m) 52) (gHG_48 : ∀ m, P (pHG m) 48) (gHG_60 : ∀ m, P (pHG m) 60) (gCLK_40 : P pCLK 40) (gUPD_16 : P pUPD 16) (gUPD_76 : P pUPD 76) (gSYS_12 : P pSYS 12) (gCLK_44 : P pCLK 44) : Same P s0 (State.fleetTick s off) := by
  unfold State.fleetTick
  extract_lets -merge -underBinder +onlyGivenNames x0
  have hx0 : Same P s0 x0 := foldl_same _ hk (fun _ _ _ h1 => State.linkTick_same _ h1 (fun m => gHG_12 m) (fun m => gHG_16 m) (gFLEET_any _ (by decide)) (gFLEET_any _ (by decide)) (fun m => gHG_52 m) (fun m => gHG_48 m) (fun m => gHG_60 m))
  try clear_value x0
  extract_lets -merge -underBinder +onlyGivenNames x2
  have hx2 : Same P s0 x2 := State.modFleet_same _ (State.put_same _ _ _ hx0 gCLK_40)
  try clear_value x2
  extract_lets -merge -underBinder +onlyGivenNames x3
  have hx3 : Same P s0 x3 := Same.ite (fun _ => State.standDown_same hx2 gUPD_16 gUPD_76 (gFLEET_any _ (by decide)) gSYS_12) (fun _ => hx2)
  try clear_value x3
  extract_lets -merge -underBinder +onlyGivenNames x4
  have hx4 : Same P s0 x4 := State.modFleet_same _ hx3
  try clear_value x4
  extract_lets -merge -underBinder +onlyGivenNames x5
  have hx5 : Same P s0 x5 := State.put_same _ _ _ hx4 (gFLEET_any _ (by decide))
  try clear_value x5
  extract_lets -merge -underBinder +onlyGivenNames x6
  have hx6 : Same P s0 x6 := State.bump_same _ _ _ hx4 (gFLEET_any _ (by decide))
  try clear_value x6
  extract_lets -merge -underBinder +onlyGivenNames x7
  have hx7 : Same P s0 x7 := Same.ite (fun _ => State.setAligned_same _ hx6 (gFLEET_any _ (by decide)) (gFLEET_any _ (by decide)) gCLK_44) (fun _ => hx6)
  try clear_value x7
  extract_lets -merge -underBinder +onlyGivenNames x8
  have hx8 : Same P s0 x8 := State.bump_same _ _ _ hx7 (gFLEET_any _ (by decide))
  try clear_value x8
  extract_lets -merge -underBinder +onlyGivenNames x9
  have hx9 : Same P s0 x9 := State.modFleet_same _ hx8
  try clear_value x9
  exact Same.ite (fun _ => State.put_same _ _ _ hx2 (gFLEET_any _ (by decide))) (fun _ => Same.ite (fun _ => State.reachTick_same (Same.ite (fun _ => hx5) (fun _ => State.sendTick_same _ hx5 (fun m => gHG_52 m) (fun m => gHG_48 m))) (fun o ho => gFLEET_any o ho)) (fun _ => Same.ite (fun _ => Same.ite (fun _ => State.ringSend_same _ _ _ _ _ hx9 (fun m => gHG_52 m) (fun m => gHG_48 m)) (fun _ => hx9)) (fun _ => hx7)))

theorem State.rxqPut_same (f : RxF) (slot : ℕ) (cls : ℕ) (task : ℕ) (hk : Same P s0 s) (gFLEET_16 : P pFLEET 16) (gFLEET_104 : P pFLEET 104) (gFLEET_96 : P pFLEET 96) : Same P s0 (State.rxqPut s f slot cls task) := by
  unfold State.rxqPut
  extract_lets -merge -underBinder +onlyGivenNames x0 x1
  have hx1 : Same P s0 x1 := State.put_same _ _ _ (State.stRecord_same _ _ hk) gFLEET_96
  try clear_value x1
  exact Same.ite (fun _ => State.raise_same _ _ (State.bump_same _ _ _ hk gFLEET_104) gFLEET_16) (fun _ => State.postGlobal_same _ _ _ _ _ hx1)

theorem State.rxRelease_same (i : ℕ) (hk : Same P s0 s) (gFLEET_100 : P pFLEET 100) : Same P s0 (State.rxRelease s i) := by
  unfold State.rxRelease
  exact Same.ite (fun _ => State.put_same _ _ _ hk gFLEET_100) (fun _ => hk)

theorem State.txfReq_same (slot : ℕ) (hk : Same P s0 s) (gFLEET_16 : P pFLEET 16) (gSTORE_16 : P pSTORE 16) (gSTORE_40 : P pSTORE 40) (gSTORE_44 : P pSTORE 44) (gBANK_any : ∀ o, o < 256 → P pBANK o) (gSTORE_48 : P pSTORE 48) (gSTORE_12 : P pSTORE 12) (gHG_52 : ∀ m, P (pHG m) 52) (gHG_48 : ∀ m, P (pHG m) 48) : Same P s0 (State.txfReq s slot) := by
  unfold State.txfReq
  extract_lets -merge -underBinder +onlyGivenNames x0 x1 x2 x3 x4 x5 x6
  have hx6 : Same P s0 x6 := State.txfStatus_same _ _ (State.stPut_same _ _ _ (State.stPut_same _ _ _ hk))
  try clear_value x6
  extract_lets -merge -underBinder +onlyGivenNames x7 x8
  have hx8 : Same P s0 x8 := State.modFleet_same _ hx6
  try clear_value x8
  exact Same.ite (fun _ => hk) (fun _ => Same.ite (fun _ => State.txfEnd_same _ _ (State.stNote_same _ _ _ hk gSTORE_16 gSTORE_40 gSTORE_44 (fun o ho => gBANK_any o ho) gSTORE_48 gSTORE_12) gFLEET_16) (fun _ => Same.ite (fun _ => State.txfEnd_same _ _ hk gFLEET_16) (fun _ => Same.ite (fun _ => State.linkSend_same _ _ hx6 (gHG_52 _) (gHG_48 _)) (fun _ => Same.ite (fun _ => Same.ite (fun _ => State.ringSend_same _ _ _ _ _ (State.ringSend_same _ _ _ _ _ hx8 (fun m => gHG_52 m) (fun m => gHG_48 m)) (fun m => gHG_52 m) (fun m => gHG_48 m)) (fun _ => State.ringSend_same _ _ _ _ _ hx8 (fun m => gHG_52 m) (fun m => gHG_48 m))) (fun _ => State.ringSend_same _ _ _ _ _ hx6 (fun m => gHG_52 m) (fun m => gHG_48 m))))))

theorem State.sendEngine_same (slot : ℕ) (typ : ℕ) (bcast : Bool) (dest : ℕ) (via : ℕ) (tag : ℕ) (payload : List Byte) (hk : Same P s0 s) (gFLEET_16 : P pFLEET 16) (gSTORE_16 : P pSTORE 16) (gSTORE_40 : P pSTORE 40) (gSTORE_44 : P pSTORE 44) (gBANK_any : ∀ o, o < 256 → P pBANK o) (gSTORE_48 : P pSTORE 48) (gSTORE_12 : P pSTORE 12) (gHG_52 : ∀ m, P (pHG m) 52) (gHG_48 : ∀ m, P (pHG m) 48) : Same P s0 (State.sendEngine s slot typ bcast dest via tag payload) := by
  unfold State.sendEngine
  extract_lets -merge -underBinder +onlyGivenNames x0
  exact State.txfReq_same _ (State.stRecord_same _ _ hk) gFLEET_16 gSTORE_16 gSTORE_40 gSTORE_44 (fun o ho => gBANK_any o ho) gSTORE_48 gSTORE_12 (fun m => gHG_52 m) (fun m => gHG_48 m)

theorem State.adopt_same (mgr : ℕ) (dp : ℕ) (ds : ℕ) (hk : Same P s0 s) (gFLEET_36 : P pFLEET 36) (gFLEET_40 : P pFLEET 40) (gFLEET_44 : P pFLEET 44) : Same P s0 (State.adopt s mgr dp ds) := by
  unfold State.adopt
  extract_lets -merge -underBinder +onlyGivenNames x0
  have hx0 : Same P s0 x0 := State.put_same _ _ _ hk gFLEET_36
  try clear_value x0
  extract_lets -merge -underBinder +onlyGivenNames x1
  have hx1 : Same P s0 x1 := State.put_same _ _ _ hx0 gFLEET_40
  try clear_value x1
  exact State.put_same _ _ _ hx1 gFLEET_44

theorem State.takeOver_same (hk : Same P s0 s) (gFLEET_16 : P pFLEET 16) (gSYS_12 : P pSYS 12) (gHG_52 : ∀ m, P (pHG m) 52) (gHG_48 : ∀ m, P (pHG m) 48) (gFLEET_12 : P pFLEET 12) (gFLEET_36 : P pFLEET 36) (gFLEET_40 : P pFLEET 40) (gFLEET_44 : P pFLEET 44) : Same P s0 (State.takeOver s) := by
  unfold State.takeOver
  extract_lets -merge -underBinder +onlyGivenNames x0 x1 x2
  have hx2 : Same P s0 x2 := State.raise_same _ _ (State.put_same _ _ _ hk gSYS_12) gFLEET_16
  try clear_value x2
  extract_lets -merge -underBinder +onlyGivenNames x3
  have hx3 : Same P s0 x3 := State.broadcast_same _ _ hx2 (fun m => gHG_52 m) (fun m => gHG_48 m)
  try clear_value x3
  extract_lets -merge -underBinder +onlyGivenNames x4
  have hx4 : Same P s0 x4 := State.modFleet_same _ hx3
  try clear_value x4
  exact State.sendTick_same _ (State.put_same _ _ _ (State.put_same _ _ _ (State.adopt_same _ _ _ hx4 gFLEET_36 gFLEET_40 gFLEET_44) gFLEET_12) gFLEET_12) (fun m => gHG_52 m) (fun m => gHG_48 m)

theorem State.tkoCmd_same (hk : Same P s0 s) : Same P s0 (State.tkoCmd s) := by
  unfold State.tkoCmd
  exact Same.ite (fun _ => State.modFleet_same _ hk) (fun _ => hk)

theorem State.handbackCmd_same (hk : Same P s0 s) : Same P s0 (State.handbackCmd s) := by
  unfold State.handbackCmd
  exact Same.ite (fun _ => State.modFleet_same _ hk) (fun _ => hk)

theorem State.policy_same {f : State → State} (hk : Same P s0 s) (hf : ∀ a0, Same P s0 a0 → Same P s0 (f a0)) : Same P s0 (State.policy s f) := by
  unfold State.policy
  refine Same.ite (fun _ => ?_) (fun _ => ?_)
  · refine hf _ ?_
    exact hk
  · exact hk

theorem State.modOwn_same (n : Port) (f : OwnGrant → OwnGrant) (hk : Same P s0 s) : Same P s0 (State.modOwn s n f) := by
  unfold State.modOwn
  exact Same.mk' hk

theorem State.modTw_same (n : Port) (f : TwinPort → TwinPort) (hk : Same P s0 s) : Same P s0 (State.modTw s n f) := by
  unfold State.modTw
  exact Same.mk' hk

theorem State.advertise_same (n : Port) (hk : Same P s0 s) (gPDL_16 : P (pPDL n) 16) : Same P s0 (State.advertise s n) := by
  unfold State.advertise
  extract_lets -merge -underBinder +onlyGivenNames x0 x1
  have hx1 : Same P s0 x1 := State.modFw_same _ _ hk
  try clear_value x1
  extract_lets -merge -underBinder +onlyGivenNames x2
  exact Same.ite (fun _ => State.fwSendExt_same _ _ _ hx1 gPDL_16) (fun _ => State.fwSend_same _ _ _ _ _ hx1 gPDL_16)

theorem State.writeIlim_same (n : Port) (hk : Same P s0 s) (gGUARD_44 : P (pGUARD n) 44) : Same P s0 (State.writeIlim s n) := by
  unfold State.writeIlim
  extract_lets -merge -underBinder +onlyGivenNames x0 x1
  have hx1 : Same P s0 x1 := State.put_same _ _ _ hk gGUARD_44
  try clear_value x1
  exact State.modOwn_same _ _ hx1

theorem State.followLimit_same (n : Port) (hk : Same P s0 s) (gGUARD_44 : P (pGUARD n) 44) : Same P s0 (State.followLimit s n) := by
  unfold State.followLimit
  exact Same.ite (fun _ => State.writeIlim_same _ hk gGUARD_44) (fun _ => hk)

theorem State.fwHrComplete_same (n : Port) (hk : Same P s0 s) (gPDL_12 : P (pPDL n) 12) : Same P s0 (State.fwHrComplete s n) := by
  unfold State.fwHrComplete
  exact Same.ite (fun _ => State.put_same _ _ _ hk gPDL_12) (fun _ => hk)

theorem State.vdmAsk_same (n : Port) (sop : ℕ) (h : Word) (body : List Word) (ams : Bool) (hk : Same P s0 s) (gPDL_16 : P (pPDL n) 16) : Same P s0 (State.vdmAsk s n sop h body ams) := by
  unfold State.vdmAsk
  extract_lets -merge -underBinder +onlyGivenNames x0
  exact State.modFw_same _ _ (State.fwSend_same _ _ _ _ _ hk gPDL_16)

theorem State.cableAsk_same (n : Port) (hk : Same P s0 s) (gVDM_96 : P (pVDM n) 96) (gPDL_16 : P (pPDL n) 16) : Same P s0 (State.cableAsk s n) := by
  unfold State.cableAsk
  extract_lets -merge -underBinder +onlyGivenNames x0 x1
  have hx1 : Same P s0 x1 := Same.ite (fun _ => State.put_same _ _ _ hk gVDM_96) (fun _ => hk)
  try clear_value x1
  exact Same.ite (fun _ => State.vdmAsk_same _ _ _ _ _ (State.modFw_same _ _ hx1) gPDL_16) (fun _ => hk)

theorem State.stageCon_same (n : Port) (obj : Word) (rdo : Word) (a : ReqAsk) (epr : Bool) (source : Bool) (hk : Same P s0 s) (gPOL_72 : P (pPOL n) 72) (gPOL_68 : P (pPOL n) 68) (gPOL_80 : P (pPOL n) 80) (gPOL_76 : P (pPOL n) 76) (gPOL_84 : P (pPOL n) 84) : Same P s0 (State.stageCon s n obj rdo a epr source) := by
  unfold State.stageCon
  extract_lets -merge -underBinder +onlyGivenNames x0 x1
  have hx1 : Same P s0 x1 := State.wr_same _ _ _ (State.wr_same _ _ _ hk gPOL_68) gPOL_72
  try clear_value x1
  extract_lets -merge -underBinder +onlyGivenNames x2
  have hx2 : Same P s0 x2 := State.put_same _ _ _ (State.put_same _ _ _ (State.put_same _ _ _ hx1 gPOL_76) gPOL_76) gPOL_80
  try clear_value x2
  exact State.put_same _ _ _ hx2 gPOL_84

theorem State.evalRequest_same (n : Port) (i : ℕ) (hk : Same P s0 s) (gPDL_any : ∀ o, o < 256 → P (pPDL n) o) (gVDM_64 : P (pVDM n) 64) (gVDM_16 : P (pVDM n) 16) (gPOL_72 : P (pPOL n) 72) (gPOL_68 : P (pPOL n) 68) (gPOL_80 : P (pPOL n) 80) (gPOL_76 : P (pPOL n) 76) (gPOL_84 : P (pPOL n) 84) : Same P s0 (State.evalRequest s n i) := by
  unfold State.evalRequest
  extract_lets -merge -underBinder +onlyGivenNames x0 x1 x2 x3 x4
  refine Same.ite (fun _ => ?_) (fun _ => ?_)
  · exact State.hardResetStart_same _ hk (fun o ho => gPDL_any o ho) gVDM_64 gVDM_16
  · split
    · exact State.fwSend_same _ _ _ _ _ hk (gPDL_any _ (by decide))
    · extract_lets -merge -underBinder +onlyGivenNames x5
      extract_lets -merge -underBinder +onlyGivenNames x6
      have hx6 : Same P s0 x6 := State.stageCon_same _ _ _ _ _ _ hk gPOL_72 gPOL_68 gPOL_80 gPOL_76 gPOL_84
      try clear_value x6
      extract_lets -merge -underBinder +onlyGivenNames x7
      have hx7 : Same P s0 x7 := State.modFw_same _ _ hx6
      try clear_value x7
      exact Same.ite (fun _ => State.fwSend_same _ _ _ _ _ hk (gPDL_any _ (by decide))) (fun _ => Same.ite (fun _ => State.advertise_same _ (State.fwSend_same _ _ _ _ _ hk (gPDL_any _ (by decide))) (gPDL_any _ (by decide))) (fun _ => Same.ite (fun _ => State.hardResetStart_same _ hk (fun o ho => gPDL_any o ho) gVDM_64 gVDM_16) (fun _ => State.fwSendFor_same _ _ _ _ _ _ hx7 (gPDL_any _ (by decide)))))

theorem State.eprMode_same (n : Port) (action : ℕ) (hk : Same P s0 s) (gPDL_16 : P (pPDL n) 16) : Same P s0 (State.eprMode s n action) := by
  unfold State.eprMode
  extract_lets -merge -underBinder +onlyGivenNames x0
  split
  · exact Same.ite (fun _ => State.advertise_same _ (State.modFw_same _ _ (State.fwSend_same _ _ _ _ _ (State.fwSend_same _ _ _ _ _ hk gPDL_16) gPDL_16)) gPDL_16) (fun _ => State.fwSend_same _ _ _ _ _ hk gPDL_16)
  · exact State.modFw_same _ _ hk
  · exact hk

theorem State.sendRequest_same (n : Port) (o : SnkOpt) (i : ℕ) (mism : Bool) (hk : Same P s0 s) (gPOL_72 : P (pPOL n) 72) (gPOL_68 : P (pPOL n) 68) (gPOL_80 : P (pPOL n) 80) (gPOL_76 : P (pPOL n) 76) (gPOL_84 : P (pPOL n) 84) (gPDL_16 : P (pPDL n) 16) : Same P s0 (State.sendRequest s n o i mism) := by
  unfold State.sendRequest
  extract_lets -merge -underBinder +onlyGivenNames x0 x1 x2 x3 x4
  have hx4 : Same P s0 x4 := State.stageCon_same _ _ _ _ _ _ hk gPOL_72 gPOL_68 gPOL_80 gPOL_76 gPOL_84
  try clear_value x4
  extract_lets -merge -underBinder +onlyGivenNames x5
  have hx5 : Same P s0 x5 := State.modFw_same _ _ hx4
  try clear_value x5
  exact Same.ite (fun _ => State.fwSend_same _ _ _ _ _ hx5 gPDL_16) (fun _ => State.fwSend_same _ _ _ _ _ hx5 gPDL_16)

theorem State.sinkChoose_same (n : Port) (hk : Same P s0 s) (gPOL_72 : P (pPOL n) 72) (gPOL_68 : P (pPOL n) 68) (gPOL_80 : P (pPOL n) 80) (gPOL_76 : P (pPOL n) 76) (gPOL_84 : P (pPOL n) 84) (gPDL_16 : P (pPDL n) 16) : Same P s0 (State.sinkChoose s n) := by
  unfold State.sinkChoose
  extract_lets -merge -underBinder +onlyGivenNames x0 x1
  split
  · exact State.sendRequest_same _ _ _ _ hk gPOL_72 gPOL_68 gPOL_80 gPOL_76 gPOL_84 gPDL_16
  · extract_lets -merge -underBinder +onlyGivenNames x2
    extract_lets -merge -underBinder +onlyGivenNames x3 x4
    have hx4 : Same P s0 x4 := State.sendRequest_same _ _ _ _ hk gPOL_72 gPOL_68 gPOL_80 gPOL_76 gPOL_84 gPDL_16
    try clear_value x4
    split
    · exact hx4
    · exact Same.ite (fun _ => hx4) (fun _ => State.sendRequest_same _ _ _ _ hk gPOL_72 gPOL_68 gPOL_80 gPOL_76 gPOL_84 gPDL_16)

theorem State.drAnswer_same (n : Port) (hk : Same P s0 s) (gPDL_any : ∀ o, o < 256 → P (pPDL n) o) (gVDM_64 : P (pVDM n) 64) (gVDM_16 : P (pVDM n) 16) : Same P s0 (State.drAnswer s n) := by
  unfold State.drAnswer
  extract_lets -merge -underBinder +onlyGivenNames x0 x1
  exact Same.ite (fun _ => State.hardResetStart_same _ hk (fun o ho => gPDL_any o ho) gVDM_64 gVDM_16) (fun _ => Same.ite (fun _ => State.fwSend_same _ _ _ _ _ hk (gPDL_any _ (by decide))) (fun _ => Same.ite (fun _ => State.fwSendFor_same _ _ _ _ _ _ hk (gPDL_any _ (by decide))) (fun _ => State.fwSend_same _ _ _ _ _ hk (gPDL_any _ (by decide)))))

theorem State.drInitiate_same (n : Port) (hk : Same P s0 s) (gPDL_16 : P (pPDL n) 16) : Same P s0 (State.drInitiate s n) := by
  unfold State.drInitiate
  extract_lets -merge -underBinder +onlyGivenNames x0 x1
  exact Same.ite (fun _ => State.fwSend_same _ _ _ _ _ (State.modFw_same _ _ hk) gPDL_16) (fun _ => hk)

theorem State.vdmEvt_same (n : Port) (f : Fld) (hk : Same P s0 s) (gVDM_16 : P (pVDM n) 16) : Same P s0 (State.vdmEvt s n f) := by
  unfold State.vdmEvt
  exact State.raise_same _ _ hk gVDM_16

theorem State.discStart_same (n : Port) (hk : Same P s0 s) (gVDM_96 : P (pVDM n) 96) (gPDL_16 : P (pPDL n) 16) : Same P s0 (State.discStart s n) := by
  unfold State.discStart
  extract_lets -merge -underBinder +onlyGivenNames x0
  have hx0 : Same P s0 x0 := State.modFw_same _ _ (State.put_same _ _ _ hk gVDM_96)
  try clear_value x0
  exact State.vdmAsk_same _ _ _ _ _ hx0 gPDL_16

theorem State.amsDone_same (n : Port) (hk : Same P s0 s) : Same P s0 (State.amsDone s n) := by
  unfold State.amsDone
  exact Same.ite (fun _ => State.amsEnd_same _ hk) (fun _ => hk)

theorem State.discEnd_same (n : Port) (ok : Bool) (hk : Same P s0 s) (gVDM_96 : P (pVDM n) 96) (gVDM_16 : P (pVDM n) 16) : Same P s0 (State.discEnd s n ok) := by
  unfold State.discEnd
  extract_lets -merge -underBinder +onlyGivenNames x0
  have hx0 : Same P s0 x0 := State.modFw_same _ _ (State.put_same _ _ _ hk gVDM_96)
  try clear_value x0
  extract_lets -merge -underBinder +onlyGivenNames x1
  have hx1 : Same P s0 x1 := State.vdmEvt_same _ _ hx0 gVDM_16
  try clear_value x1
  exact Same.ite (fun _ => hx1) (fun _ => State.amsDone_same _ hx1)

theorem State.discNext_same (n : Port) (hk : Same P s0 s) (gVDM_96 : P (pVDM n) 96) (gVDM_16 : P (pVDM n) 16) (gPDL_16 : P (pPDL n) 16) : Same P s0 (State.discNext s n) := by
  unfold State.discNext
  split
  · exact State.discEnd_same _ _ hk gVDM_96 gVDM_16
  · exact State.vdmAsk_same _ _ _ _ _ (State.modFw_same _ _ (State.put_same _ _ _ hk gVDM_96)) gPDL_16

theorem State.svidPut_same (n : Port) (i v : ℕ) (hk : Same P s0 s) (gVDM_any : ∀ o, o < 256 → P (pVDM n) o) : Same P s0 (State.svidPut s n i v) :=
  State.put_same _ _ _ hk (gVDM_any _ (by split <;> simp only [Fld.at, VDM.SVID_LO, VDM.SVID_HI] <;> omega))

theorem State.discSvids_same (n : Port) (objs : List Word) (hk : Same P s0 s) (gVDM_any : ∀ o, o < 256 → P (pVDM n) o) (gPDL_16 : P (pPDL n) 16) : Same P s0 (State.discSvids s n objs) := by
  unfold State.discSvids
  extract_lets -merge -underBinder +onlyGivenNames x0 x1 x2 x3 x4
  have hx4 : Same P s0 x4 := foldl_same _ hk (fun _ _ _ h5 => State.svidPut_same _ _ _ h5 (fun o ho => gVDM_any o ho))
  try clear_value x4
  extract_lets -merge -underBinder +onlyGivenNames x6
  have hx6 : Same P s0 x6 := State.putB_same _ _ _ (State.put_same _ _ _ hx4 (gVDM_any _ (by decide))) (gVDM_any _ (by decide))
  try clear_value x6
  extract_lets -merge -underBinder +onlyGivenNames x7
  have hx7 : Same P s0 x7 := State.modFw_same _ _ hx6
  try clear_value x7
  extract_lets -merge -underBinder +onlyGivenNames x8
  exact Same.ite (fun _ => State.vdmAsk_same _ _ _ _ _ hx7 gPDL_16) (fun _ => State.discNext_same _ (State.modFw_same _ _ hx7) (gVDM_any _ (by decide)) (gVDM_any _ (by decide)) gPDL_16)

theorem State.enterMode_same (n : Port) (svid : ℕ) (pos : ℕ) (ams : Bool) (hk : Same P s0 s) (gPDL_16 : P (pPDL n) 16) : Same P s0 (State.enterMode s n svid pos ams) := by
  unfold State.enterMode
  exact State.vdmAsk_same _ _ _ _ _ (State.modFw_same _ _ hk) gPDL_16

theorem State.modeClear_same (n : Port) (mux : ℕ) (hk : Same P s0 s) (gVDM_152 : P (pVDM n) 152) (gVDM_148 : P (pVDM n) 148) (gVDM_140 : P (pVDM n) 140) (gVDM_96 : P (pVDM n) 96) : Same P s0 (State.modeClear s n mux) := by
  unfold State.modeClear
  extract_lets -merge -underBinder +onlyGivenNames x0 x1
  have hx1 : Same P s0 x1 := State.wr_same _ _ _ (State.wr_same _ _ _ (State.wr_same _ _ _ hk gVDM_140) gVDM_148) gVDM_152
  try clear_value x1
  exact State.modFw_same _ _ (State.put_same _ _ _ hx1 gVDM_96)

theorem State.modeRecord_same (n : Port) (hk : Same P s0 s) : Same P s0 (State.modeRecord s n) := by
  unfold State.modeRecord
  extract_lets -merge -underBinder +onlyGivenNames x0
  exact State.aosWrite_same _ _ hk

theorem State.dpStatus_same (n : Port) (vdo : Word) (hk : Same P s0 s) (gVDM_148 : P (pVDM n) 148) (gVDM_16 : P (pVDM n) 16) (gVDM_52 : P (pVDM n) 52) : Same P s0 (State.dpStatus s n vdo) := by
  unfold State.dpStatus
  extract_lets -merge -underBinder +onlyGivenNames x0
  have hx0 : Same P s0 x0 := State.wr_same _ _ _ hk gVDM_148
  try clear_value x0
  extract_lets -merge -underBinder +onlyGivenNames x1 x2
  have hx2 : Same P s0 x2 := State.raiseIf_same _ _ _ hx0 gVDM_16
  try clear_value x2
  extract_lets -merge -underBinder +onlyGivenNames x3 x4
  have hx4 : Same P s0 x4 := State.hpdWrite_same _ _ hx2 gVDM_52
  try clear_value x4
  extract_lets -merge -underBinder +onlyGivenNames x5
  exact State.modeRecord_same _ (Same.ite (fun _ => State.freshen_same (State.hpdIrq_same _ _ hx4 gVDM_16)) (fun _ => hx4))

theorem State.modeResponse_same (n : Port) (q : VdmReq) (h : Word) (objs : List Word) (hk : Same P s0 s) (gVDM_140 : P (pVDM n) 140) (gVDM_16 : P (pVDM n) 16) (gPDL_16 : P (pPDL n) 16) (gVDM_96 : P (pVDM n) 96) (gVDM_152 : P (pVDM n) 152) (gVDM_148 : P (pVDM n) 148) (gVDM_52 : P (pVDM n) 52) : Same P s0 (State.modeResponse s n q h objs) := by
  unfold State.modeResponse
  extract_lets -merge -underBinder +onlyGivenNames x0 x1 x2
  split
  · extract_lets -merge -underBinder +onlyGivenNames x3
    have hx3 : Same P s0 x3 := State.put_same _ _ _ (State.put_same _ _ _ (State.put_same _ _ _ hk gVDM_140) gVDM_140) gVDM_140
    try clear_value x3
    extract_lets -merge -underBinder +onlyGivenNames x4
    have hx4 : Same P s0 x4 := State.vdmEvt_same _ _ hx3 gVDM_16
    try clear_value x4
    exact Same.ite (fun _ => Same.ite (fun _ => State.vdmAsk_same _ _ _ _ _ (State.put_same _ _ _ hx4 gVDM_96) gPDL_16) (fun _ => State.amsDone_same _ (State.modeRecord_same _ hx4))) (fun _ => State.amsDone_same _ (State.modFw_same _ _ hk))
  · exact State.amsDone_same _ (State.modeRecord_same _ (State.vdmEvt_same _ _ (State.modeClear_same _ _ hk gVDM_152 gVDM_148 gVDM_140 gVDM_96) gVDM_16))
  · extract_lets -merge -underBinder +onlyGivenNames x5
    have hx5 : Same P s0 x5 := State.dpStatus_same _ _ hk gVDM_148 gVDM_16 gVDM_52
    try clear_value x5
    extract_lets -merge -underBinder +onlyGivenNames x6 x7
    have hx7 : Same P s0 x7 := State.modFw_same _ _ hx5
    try clear_value x7
    exact Same.ite (fun _ => State.vdmAsk_same _ _ _ _ _ hx7 gPDL_16) (fun _ => State.amsDone_same _ hk)
  · extract_lets -merge -underBinder +onlyGivenNames x8
    have hx8 : Same P s0 x8 := State.put_same _ _ _ (State.wr_same _ _ _ hk gVDM_152) gVDM_96
    try clear_value x8
    exact Same.ite (fun _ => State.amsDone_same _ (State.modeRecord_same _ hx8)) (fun _ => State.vdmAsk_same _ _ _ _ _ (State.modFw_same _ _ hk) gPDL_16)
  · exact hk

theorem State.cableResponse_same (n : Port) (q : VdmReq) (ack : Bool) (objs : List Word) (hk : Same P s0 s) (gVDM_120 : P (pVDM n) 120) (gVDM_116 : P (pVDM n) 116) (gVDM_96 : P (pVDM n) 96) (gPDL_16 : P (pPDL n) 16) : Same P s0 (State.cableResponse s n q ack objs) := by
  unfold State.cableResponse
  extract_lets -merge -underBinder +onlyGivenNames x0 x1
  have hx1 : Same P s0 x1 := State.modFw_same _ _ hk
  try clear_value x1
  extract_lets -merge -underBinder +onlyGivenNames x2 x3
  have hx3 : Same P s0 x3 := State.wr_same _ _ _ (State.wr_same _ _ _ hx1 gVDM_116) gVDM_120
  try clear_value x3
  extract_lets -merge -underBinder +onlyGivenNames x4
  have hx4 : Same P s0 x4 := State.putB_same _ _ _ (State.put_same _ _ _ hx3 gVDM_96) gVDM_96
  try clear_value x4
  exact Same.ite (fun _ => Same.ite (fun _ => State.vdmAsk_same _ _ _ _ _ (State.modFw_same _ _ hx4) gPDL_16) (fun _ => State.amsDone_same _ hx4)) (fun _ => State.amsDone_same _ hx1)

theorem State.vdmResponse_same (n : Port) (i : ℕ) (hk : Same P s0 s) (gVDM_any : ∀ o, o < 256 → P (pVDM n) o) (gPDL_16 : P (pPDL n) 16) : Same P s0 (State.vdmResponse s n i) := by
  unfold State.vdmResponse
  extract_lets -merge -underBinder +onlyGivenNames x0
  split
  · exact hk
  · extract_lets -merge -underBinder +onlyGivenNames x1
    extract_lets -merge -underBinder +onlyGivenNames x2 x3 x4 x5 x6
    have hx6 : Same P s0 x6 := State.modFw_same _ _ hk
    try clear_value x6
    refine Same.ite (fun _ => ?_) (fun _ => ?_)
    · exact hk
    · refine Same.ite (fun _ => ?_) (fun _ => ?_)
      · exact State.modFw_same _ _ hk
      · refine Same.ite (fun _ => ?_) (fun _ => ?_)
        · exact State.cableResponse_same _ _ _ _ hk (gVDM_any _ (by decide)) (gVDM_any _ (by decide)) (gVDM_any _ (by decide)) gPDL_16
        · split
          · extract_lets -merge -underBinder +onlyGivenNames x7
            have hx7 : Same P s0 x7 := State.wr_same _ _ _ (State.wr_same _ _ _ (State.wr_same _ _ _ (State.wr_same _ _ _ hx6 (gVDM_any _ (by decide))) (gVDM_any _ (by decide))) (gVDM_any _ (by decide))) (gVDM_any _ (by decide))
            try clear_value x7
            extract_lets -merge -underBinder +onlyGivenNames x8
            have hx8 : Same P s0 x8 := State.put_same _ _ _ (State.put_same _ _ _ hx7 (gVDM_any _ (by decide))) (gVDM_any _ (by decide))
            try clear_value x8
            exact Same.ite (fun _ => State.vdmAsk_same _ _ _ _ _ (State.put_same _ _ _ hx8 (gVDM_any _ (by decide))) gPDL_16) (fun _ => State.discEnd_same _ _ hx6 (gVDM_any _ (by decide)) (gVDM_any _ (by decide)))
          · exact Same.ite (fun _ => State.discSvids_same _ _ hx6 (fun o ho => gVDM_any o ho) gPDL_16) (fun _ => State.discEnd_same _ _ hx6 (gVDM_any _ (by decide)) (gVDM_any _ (by decide)))
          · extract_lets -merge -underBinder +onlyGivenNames x9
            extract_lets -merge -underBinder +onlyGivenNames x10 x11
            have hx11 : Same P s0 x11 := State.modFw_same _ _ hx6
            try clear_value x11
            extract_lets -merge -underBinder +onlyGivenNames x12
            have hx12 : Same P s0 x12 := Same.ite (fun _ => State.wr_same _ _ _ hx11 (gVDM_any _ (by decide))) (fun _ => hx11)
            try clear_value x12
            exact Same.ite (fun _ => State.discNext_same _ hx12 (gVDM_any _ (by decide)) (gVDM_any _ (by decide)) gPDL_16) (fun _ => State.discEnd_same _ _ hx6 (gVDM_any _ (by decide)) (gVDM_any _ (by decide)))
          · exact State.modeResponse_same _ _ _ _ hx6 (gVDM_any _ (by decide)) (gVDM_any _ (by decide)) gPDL_16 (gVDM_any _ (by decide)) (gVDM_any _ (by decide)) (gVDM_any _ (by decide)) (gVDM_any _ (by decide))

theorem State.vdmReply_same (n : Port) (q : Word) (ctype : ℕ) (objs : List Word) (hk : Same P s0 s) (gPDL_16 : P (pPDL n) 16) : Same P s0 (State.vdmReply s n q ctype objs) := by
  unfold State.vdmReply
  exact State.fwSendFor_same _ _ _ _ _ _ hk gPDL_16

theorem State.vdmRequest_same (n : Port) (i : ℕ) (hk : Same P s0 s) (gVDM_148 : P (pVDM n) 148) (gVDM_16 : P (pVDM n) 16) (gVDM_52 : P (pVDM n) 52) (gPDL_16 : P (pPDL n) 16) (gVDM_140 : P (pVDM n) 140) (gVDM_96 : P (pVDM n) 96) (gVDM_152 : P (pVDM n) 152) : Same P s0 (State.vdmRequest s n i) := by
  unfold State.vdmRequest
  extract_lets -merge -underBinder +onlyGivenNames x0 x1 x2 x3
  refine Same.ite (fun _ => ?_) (fun _ => ?_)
  · exact Same.ite (fun _ => State.dpStatus_same _ _ hk gVDM_148 gVDM_16 gVDM_52) (fun _ => hk)
  · refine Same.ite (fun _ => ?_) (fun _ => ?_)
    · exact State.vdmReply_same _ _ _ _ hk gPDL_16
    · refine Same.ite (fun _ => ?_) (fun _ => ?_)
      · exact State.vdmReply_same _ _ _ _ hk gPDL_16
      · split
        · exact Same.ite (fun _ => State.vdmReply_same _ _ _ _ (State.modFw_same _ _ hk) gPDL_16) (fun _ => State.vdmReply_same _ _ _ _ hk gPDL_16)
        · extract_lets -merge -underBinder +onlyGivenNames x4
          exact Same.ite (fun _ => State.vdmReply_same _ _ _ _ (State.modFw_same _ _ hk) gPDL_16) (fun _ => State.vdmReply_same _ _ _ _ hk gPDL_16)
        · exact Same.ite (fun _ => State.vdmReply_same _ _ _ _ hk gPDL_16) (fun _ => State.vdmReply_same _ _ _ _ hk gPDL_16)
        · extract_lets -merge -underBinder +onlyGivenNames x5
          have hx5 : Same P s0 x5 := State.put_same _ _ _ (State.put_same _ _ _ (State.put_same _ _ _ hk gVDM_140) gVDM_140) gVDM_140
          try clear_value x5
          extract_lets -merge -underBinder +onlyGivenNames x6
          have hx6 : Same P s0 x6 := Same.ite (fun _ => State.put_same _ _ _ hx5 gVDM_96) (fun _ => hx5)
          try clear_value x6
          exact Same.ite (fun _ => State.vdmReply_same _ _ _ _ (State.modeRecord_same _ (State.vdmEvt_same _ _ hx6 gVDM_16)) gPDL_16) (fun _ => State.vdmReply_same _ _ _ _ hk gPDL_16)
        · exact Same.ite (fun _ => State.vdmReply_same _ _ _ _ (State.modeRecord_same _ (State.vdmEvt_same _ _ (State.modeClear_same _ _ hk gVDM_152 gVDM_148 gVDM_140 gVDM_96) gVDM_16)) gPDL_16) (fun _ => State.vdmReply_same _ _ _ _ hk gPDL_16)
        · exact Same.ite (fun _ => State.vdmReply_same _ _ _ _ (State.wr_same _ _ _ hk gVDM_148) gPDL_16) (fun _ => State.vdmReply_same _ _ _ _ hk gPDL_16)
        · extract_lets -merge -underBinder +onlyGivenNames x7
          have hx7 : Same P s0 x7 := State.modeRecord_same _ (State.put_same _ _ _ (State.wr_same _ _ _ hk gVDM_152) gVDM_96)
          try clear_value x7
          exact Same.ite (fun _ => State.vdmReply_same _ _ _ _ (State.modFw_same _ _ hx7) gPDL_16) (fun _ => State.vdmReply_same _ _ _ _ hk gPDL_16)
        · exact State.vdmReply_same _ _ _ _ hk gPDL_16

theorem State.cableTimeout_same (n : Port) (q : VdmReq) (hk : Same P s0 s) (gPDL_16 : P (pPDL n) 16) : Same P s0 (State.cableTimeout s n q) := by
  unfold State.cableTimeout
  exact Same.ite (fun _ => State.modFw_same _ _ (State.fwSend_same _ _ _ _ _ hk gPDL_16)) (fun _ => State.amsDone_same _ (State.modFw_same _ _ hk))

theorem State.vdmTimeout_same (n : Port) (q : VdmReq) (hk : Same P s0 s) (gPDL_16 : P (pPDL n) 16) (gVDM_16 : P (pVDM n) 16) (gVDM_152 : P (pVDM n) 152) (gVDM_148 : P (pVDM n) 148) (gVDM_140 : P (pVDM n) 140) (gVDM_96 : P (pVDM n) 96) : Same P s0 (State.vdmTimeout s n q) := by
  unfold State.vdmTimeout
  extract_lets -merge -underBinder +onlyGivenNames x0 x1
  have hx1 : ∀ a0, Same P s0 (x1 a0) := by
    intro s2_0
    unfold x1
    beta_reduce
    exact State.modFw_same _ _ (State.fwSend_same _ _ _ _ _ hk gPDL_16)
  try clear_value x1
  refine Same.ite (fun _ => ?_) (fun _ => ?_)
  · refine hx1 _
  · refine Same.ite (fun _ => ?_) (fun _ => ?_)
    · exact State.amsDone_same _ (State.modeRecord_same _ (State.vdmEvt_same _ _ (State.modeClear_same _ _ hk gVDM_152 gVDM_148 gVDM_140 gVDM_96) gVDM_16))
    · refine Same.ite (fun _ => ?_) (fun _ => ?_)
      · refine Same.ite (fun _ => ?_) (fun _ => ?_)
        · exact State.discEnd_same _ _ hk gVDM_96 gVDM_16
        · refine hx1 _
      · exact State.amsDone_same _ (State.modFw_same _ _ hk)

theorem State.vdmRediscover_same (n : Port) (hk : Same P s0 s) (gVDM_96 : P (pVDM n) 96) (gPDL_16 : P (pPDL n) 16) : Same P s0 (State.vdmRediscover s n) := by
  unfold State.vdmRediscover
  exact Same.ite (fun _ => State.discStart_same _ hk gVDM_96 gPDL_16) (fun _ => hk)

theorem State.vdmEnter_same (n : Port) (hk : Same P s0 s) (gVDM_96 : P (pVDM n) 96) (gPDL_16 : P (pPDL n) 16) : Same P s0 (State.vdmEnter s n) := by
  unfold State.vdmEnter
  extract_lets -merge -underBinder +onlyGivenNames x0 x1 x2
  exact Same.ite (fun _ => State.put_same _ _ _ hk gVDM_96) (fun _ => Same.ite (fun _ => State.enterMode_same _ _ _ _ hk gPDL_16) (fun _ => hk))

theorem State.vdmExit_same (n : Port) (hk : Same P s0 s) (gPDL_16 : P (pPDL n) 16) : Same P s0 (State.vdmExit s n) := by
  unfold State.vdmExit
  extract_lets -merge -underBinder +onlyGivenNames x0
  exact Same.ite (fun _ => State.vdmAsk_same _ _ _ _ _ hk gPDL_16) (fun _ => hk)

theorem State.hostTxGo_same (n : Port) (hk : Same P s0 s) (gVDM_64 : P (pVDM n) 64) (gVDM_16 : P (pVDM n) 16) (gPDL_16 : P (pPDL n) 16) : Same P s0 (State.hostTxGo s n) := by
  unfold State.hostTxGo
  extract_lets -merge -underBinder +onlyGivenNames x0 x1 x2 x3 x4 x5 x6
  exact Same.ite (fun _ => State.hostDone_same _ _ hk gVDM_64 gVDM_16) (fun _ => State.fwSendFor_same _ _ _ _ _ _ (State.modFw_same _ _ hk) gPDL_16)

theorem State.hostTxWrite_same (n : Port) (count : ℕ) (sop : ℕ) (hk : Same P s0 s) (gVDM_64 : P (pVDM n) 64) (gVDM_16 : P (pVDM n) 16) (gPDL_16 : P (pPDL n) 16) : Same P s0 (State.hostTxWrite s n count sop) := by
  unfold State.hostTxWrite
  extract_lets -merge -underBinder +onlyGivenNames x0
  exact Same.ite (fun _ => hk) (fun _ => State.policy_same (State.put_same _ _ _ (State.put_same _ _ _ (State.put_same _ _ _ hk gVDM_64) gVDM_64) gVDM_64) (fun _ h1 => State.hostTxGo_same _ h1 gVDM_64 gVDM_16 gPDL_16))

theorem State.recPut_same (a : ℕ) (w : ℕ) (v : ℕ) (hk : Same P s0 s) : Same P s0 (State.recPut s a w v) := by
  unfold State.recPut
  extract_lets -merge -underBinder +onlyGivenNames x0
  have hx0 : Same P s0 x0 := State.stPut_same _ _ _ hk
  try clear_value x0
  extract_lets -merge -underBinder +onlyGivenNames x1
  have hx1 : Same P s0 x1 := State.stPut_same _ _ _ hx0
  try clear_value x1
  exact Same.mk' hx1

theorem State.recSet_same (a : ℕ) (w : ℕ) (lo : ℕ) (n : ℕ) (v : ℕ) (hk : Same P s0 s) : Same P s0 (State.recSet s a w lo n v) := by
  unfold State.recSet
  exact State.recPut_same _ _ _ hk

theorem State.modPlace_same (f : PlaceSt → PlaceSt) (hk : Same P s0 s) : Same P s0 (State.modPlace s f) := by
  unfold State.modPlace
  exact Same.mk' hk

theorem State.modLed_same (i : ℕ) (f : Led → Led) (hk : Same P s0 s) : Same P s0 (State.modLed s i f) := by
  unfold State.modLed
  exact State.modPlace_same _ hk

theorem State.modNode_same (k : ℕ) (f : NodeLed → NodeLed) (hk : Same P s0 s) : Same P s0 (State.modNode s k f) := by
  unfold State.modNode
  exact State.modPlace_same _ hk

theorem State.recLedger_same (i : ℕ) (grant : ℕ) (commit : ℕ) (st : ℕ) (hk : Same P s0 s) : Same P s0 (State.recLedger s i grant commit st) := by
  unfold State.recLedger
  extract_lets -merge -underBinder +onlyGivenNames x0 x1
  have hx1 : Same P s0 x1 := State.stPut_same _ _ _ hk
  try clear_value x1
  exact State.recSet_same _ _ _ _ _ hx1

theorem State.ledgerStep_same (p : ℕ) (noInc : ℕ → Bool) (hk : Same P s0 s) : Same P s0 (State.ledgerStep s p noInc) := by
  unfold State.ledgerStep
  extract_lets -merge -underBinder +onlyGivenNames x0 x1 x2 x3 x4 x5 x6
  have hx6 : Same P s0 x6 := foldl_same _ hk (fun _ _ _ h7 => Same.ite (fun _ => State.modLed_same _ _ h7) (fun _ => Same.ite (fun _ => State.modLed_same _ _ (State.recLedger_same _ _ _ _ h7)) (fun _ => Same.ite (fun _ => State.modLed_same _ _ (State.recLedger_same _ _ _ _ h7)) (fun _ => h7))))
  try clear_value x6
  extract_lets -merge -underBinder +onlyGivenNames x8 x9 x10
  have hx10 : Same P s0 x10 := foldl_same _ hx6 (fun _ _ _ h11 => Same.ite (fun _ => State.modLed_same _ _ (State.recLedger_same _ _ _ _ h11)) (fun _ => State.modLed_same _ _ (State.recLedger_same _ _ _ _ h11)))
  try clear_value x10
  extract_lets -merge -underBinder +onlyGivenNames x12 x13 x14 x15
  have hx15 : Same P s0 x15 := State.recPut_same _ _ _ (State.recPut_same _ _ _ hx10)
  try clear_value x15
  exact State.modPlace_same _ hx15

theorem State.cutCheck_same (hk : Same P s0 s) : Same P s0 (State.cutCheck s) := by
  unfold State.cutCheck
  extract_lets -merge -underBinder +onlyGivenNames x0
  exact Same.ite (fun _ => hk) (fun _ => Same.ite (fun _ => hk) (fun _ => State.modPlace_same _ hk))

theorem State.leaseEvt_same (f : Fld) (hk : Same P s0 s) (gPLACE_16 : P pPLACE 16) : Same P s0 (State.leaseEvt s f) := by
  unfold State.leaseEvt
  extract_lets -merge -underBinder +onlyGivenNames x0
  have hx0 : Same P s0 x0 := State.raise_same _ _ hk gPLACE_16
  try clear_value x0
  exact State.postGlobal_same _ _ _ _ _ hx0

theorem State.holdPort_same (n : Port) (hold : Bool) (hk : Same P s0 s) (gCC_32 : P (pCC n) 32) (gCC_8 : P (pCC n) 8) : Same P s0 (State.holdPort s n hold) := by
  unfold State.holdPort
  extract_lets -merge -underBinder +onlyGivenNames x0 x1
  have hx1 : Same P s0 x1 := Same.ite (fun _ => State.put_same _ _ _ hk gCC_32) (fun _ => State.put_same _ _ _ hk gCC_8)
  try clear_value x1
  exact Same.ite (fun _ => Same.ite (fun _ => Same.ite (fun _ => hk) (fun _ => State.modOwn_same _ _ (State.put_same _ _ _ hk gCC_32))) (fun _ => Same.ite (fun _ => State.modOwn_same _ _ (State.put_same _ _ _ hk gCC_8)) (fun _ => hk))) (fun _ => Same.ite (fun _ => State.modOwn_same _ _ hx1) (fun _ => hk))

theorem State.takeGrant_same (n : Port) (grant : ℕ) (floor : ℕ) (start : ℕ) (kind : ℕ) (seq : ℕ) (changed : Bool) (hk : Same P s0 s) (gGUARD_44 : P (pGUARD n) 44) (gCC_32 : P (pCC n) 32) (gCC_8 : P (pCC n) 8) : Same P s0 (State.takeGrant s n grant floor start kind seq changed) := by
  unfold State.takeGrant
  extract_lets -merge -underBinder +onlyGivenNames x0 x1 x2 x3 x4
  have hx4 : Same P s0 x4 := State.modOwn_same _ _ hk
  try clear_value x4
  extract_lets -merge -underBinder +onlyGivenNames x5
  have hx5 : Same P s0 x5 := Same.ite (fun _ => State.writeIlim_same _ hx4 gGUARD_44) (fun _ => hx4)
  try clear_value x5
  extract_lets -merge -underBinder +onlyGivenNames x6
  have hx6 : Same P s0 x6 := Same.ite (fun _ => State.put_same _ _ _ hx5 gCC_32) (fun _ => hx5)
  try clear_value x6
  exact Same.ite (fun _ => Same.ite (fun _ => State.modOwn_same _ _ (State.put_same _ _ _ hx6 gCC_8)) (fun _ => hx6)) (fun _ => State.holdPort_same _ _ hx6 gCC_32 gCC_8)

theorem State.startGrant_same (n : Port) (hk : Same P s0 s) (gGUARD_44 : P (pGUARD n) 44) (gPDL_any : ∀ o, o < 256 → P (pPDL n) o) (gVDM_64 : P (pVDM n) 64) (gVDM_16 : P (pVDM n) 16) : Same P s0 (State.startGrant s n) := by
  unfold State.startGrant
  extract_lets -merge -underBinder +onlyGivenNames x0 x1
  have hx1 : Same P s0 x1 := State.followLimit_same _ hk gGUARD_44
  try clear_value x1
  extract_lets -merge -underBinder +onlyGivenNames x2
  have hx2 : Same P s0 x2 := State.modOwn_same _ _ hx1
  try clear_value x2
  refine Same.ite (fun _ => ?_) (fun _ => ?_)
  · exact hx1
  · split
    · exact hx2
    · exact Same.ite (fun _ => State.hardResetStart_same _ hx2 (fun o ho => gPDL_any o ho) gVDM_64 gVDM_16) (fun _ => hx2)
    · extract_lets -merge -underBinder +onlyGivenNames x3
      have hx3 : Same P s0 x3 := State.modOwn_same _ _ hx2
      try clear_value x3
      exact Same.ite (fun _ => State.advertise_same _ hx3 (gPDL_any _ (by decide))) (fun _ => State.modOwn_same _ _ hx3)

theorem State.ackOwn_same (n : Port) (hk : Same P s0 s) : Same P s0 (State.ackOwn s n) := by
  unfold State.ackOwn
  exact Same.ite (fun _ => State.modOwn_same _ _ hk) (fun _ => hk)

theorem State.limitTick_same (hk : Same P s0 s) : Same P s0 (State.limitTick s) := by
  unfold State.limitTick
  refine State.forPorts_same ?_ ?_
  · exact hk
  · intro s0_0 s0_1 hs0_1
    extract_lets -merge -underBinder +onlyGivenNames x1
    have hx1 : Same P s0 x1 := Same.ite (fun _ => State.modOwn_same _ _ hs0_1) (fun _ => hs0_1)
    try clear_value x1
    exact Same.ite (fun _ => State.modOwn_same _ _ hx1) (fun _ => hx1)

theorem State.ledgerConfirm_same (i : ℕ) (ack : ℕ) (ackSeq : ℕ) (attached : Bool) (low : Bool) (hk : Same P s0 s) : Same P s0 (State.ledgerConfirm s i ack ackSeq attached low) := by
  unfold State.ledgerConfirm
  extract_lets -merge -underBinder +onlyGivenNames x0 x1 x2
  have hx2 : Same P s0 x2 := Same.ite (fun _ => hk) (fun _ => State.recLedger_same _ _ _ _ hk)
  try clear_value x2
  exact Same.ite (fun _ => State.modLed_same _ _ hx2) (fun _ => Same.ite (fun _ => State.modLed_same _ _ (State.recLedger_same _ _ _ _ hk)) (fun _ => hk))

theorem State.leaseReload_same (seq : ℕ) (hk : Same P s0 s) (gPLACE_40 : P pPLACE 40) (gPLACE_16 : P pPLACE 16) : Same P s0 (State.leaseReload s seq) := by
  unfold State.leaseReload
  extract_lets -merge -underBinder +onlyGivenNames x0 x1
  have hx1 : Same P s0 x1 := State.put_same _ _ _ (State.put_same _ _ _ (State.put_same _ _ _ hk gPLACE_40) gPLACE_40) gPLACE_40
  try clear_value x1
  extract_lets -merge -underBinder +onlyGivenNames x2
  have hx2 : Same P s0 x2 := State.modPlace_same _ hx1
  try clear_value x2
  exact Same.ite (fun _ => State.leaseEvt_same _ hx2 gPLACE_16) (fun _ => hx2)

theorem State.leaseTick_same (hk : Same P s0 s) (gPLACE_40 : P pPLACE 40) : Same P s0 (State.leaseTick s) := by
  unfold State.leaseTick
  extract_lets -merge -underBinder +onlyGivenNames x0
  exact Same.ite (fun _ => hk) (fun _ => State.modPlace_same _ (State.put_same _ _ _ hk gPLACE_40))

theorem State.placeTick_same (hk : Same P s0 s) (gPLACE_12 : P pPLACE 12) (gPLACE_40 : P pPLACE 40) (gFLEET_60 : P pFLEET 60) (gPLACE_16 : P pPLACE 16) : Same P s0 (State.placeTick s) := by
  unfold State.placeTick
  extract_lets -merge -underBinder +onlyGivenNames x0
  have hx0 : Same P s0 x0 := State.limitTick_same hk
  try clear_value x0
  extract_lets -merge -underBinder +onlyGivenNames x1
  have hx1 : Same P s0 x1 := State.putB_same _ _ _ hx0 gPLACE_12
  try clear_value x1
  extract_lets -merge -underBinder +onlyGivenNames x2
  have hx2 : Same P s0 x2 := State.leaseTick_same hx1 gPLACE_40
  try clear_value x2
  extract_lets -merge -underBinder +onlyGivenNames x3
  have hx3 : Same P s0 x3 := Same.ite (fun _ => State.put_same _ _ _ hx2 gFLEET_60) (fun _ => hx2)
  try clear_value x3
  extract_lets -merge -underBinder +onlyGivenNames x4 x5 x6
  have hx6 : Same P s0 x6 := State.modPlace_same _ hx3
  try clear_value x6
  extract_lets -merge -underBinder +onlyGivenNames x7
  have hx7 : Same P s0 x7 := State.raiseIf_same _ _ _ hx6 gPLACE_16
  try clear_value x7
  exact Same.ite (fun _ => State.postGlobal_same _ _ _ _ _ hx7) (fun _ => hx3)

theorem State.placeTakeover_same (hk : Same P s0 s) (gPLACE_40 : P pPLACE 40) : Same P s0 (State.placeTakeover s) := by
  unfold State.placeTakeover
  extract_lets -merge -underBinder +onlyGivenNames x0
  have hx0 : Same P s0 x0 := foldl_same _ hk (fun _ _ _ h1 => State.recLedger_same _ _ _ _ h1)
  try clear_value x0
  exact State.modPlace_same _ (State.put_same _ _ _ hx0 gPLACE_40)

theorem State.placeRun_same (hk : Same P s0 s) : Same P s0 (State.placeRun s) := by
  unfold State.placeRun
  exact Same.ite (fun _ => State.modPlace_same _ hk) (fun _ => hk)

theorem State.numberChanged_same (hk : Same P s0 s) : Same P s0 (State.numberChanged s).1 := by
  unfold State.numberChanged
  extract_lets -merge -underBinder +onlyGivenNames x0 x1 x2
  have hx2 : Same P s0 x2 := foldl_same _ hk (fun _ _ _ h3 => State.modLed_same _ _ h3)
  try clear_value x2
  refine Same.mkFst ?_
  exact hx2

theorem State.takeGrants_same (p : List Byte) (hk : Same P s0 s) (gGUARD_44 : ∀ m, P (pGUARD m) 44) (gCC_32 : ∀ m, P (pCC m) 32) (gCC_8 : ∀ m, P (pCC m) 8) : Same P s0 (State.takeGrants s p) := by
  unfold State.takeGrants
  refine State.forPorts_same ?_ ?_
  · exact hk
  · intro s0_0 s0_1 hs0_1
    extract_lets -merge -underBinder +onlyGivenNames x1
    exact State.takeGrant_same _ _ _ _ _ _ _ hs0_1 (gGUARD_44 _) (gCC_32 _) (gCC_8 _)

theorem State.contractTake_same (i : ℕ) (p : List Byte) (back : Bool) (hk : Same P s0 s) : Same P s0 (State.contractTake s i p back) := by
  unfold State.contractTake
  extract_lets -merge -underBinder +onlyGivenNames x0 x1 x2 x3 x4
  have hx4 : Same P s0 x4 := State.modLed_same _ _ hk
  try clear_value x4
  extract_lets -merge -underBinder +onlyGivenNames x5
  have hx5 : Same P s0 x5 := Same.ite (fun _ => State.recSet_same _ _ _ _ _ hx4) (fun _ => hx4)
  try clear_value x5
  extract_lets -merge -underBinder +onlyGivenNames x6
  have hx6 : Same P s0 x6 := State.recSet_same _ _ _ _ _ hx5
  try clear_value x6
  exact Same.ite (fun _ => hx6) (fun _ => Same.ite (fun _ => State.modLed_same _ _ (State.recLedger_same _ _ _ _ hx6)) (fun _ => Same.ite (fun _ => State.recLedger_same _ _ _ _ hx6) (fun _ => State.ledgerConfirm_same _ _ _ _ _ hx6)))

theorem State.telNote_same (n : Port) (k : ℕ) (hk : Same P s0 s) (gSTORE_16 : P pSTORE 16) (gSTORE_40 : P pSTORE 40) (gSTORE_44 : P pSTORE 44) (gBANK_any : ∀ o, o < 256 → P pBANK o) (gSTORE_48 : P pSTORE 48) (gSTORE_12 : P pSTORE 12) : Same P s0 (State.telNote s n k) := by
  unfold State.telNote
  exact foldl_same _ hk (fun _ _ _ h0 => State.stNote_same _ _ _ h0 gSTORE_16 gSTORE_40 gSTORE_44 (fun o ho => gBANK_any o ho) gSTORE_48 gSTORE_12)

theorem State.energyAdd_same (i : ℕ) (e : ℕ) (hk : Same P s0 s) : Same P s0 (State.energyAdd s i e) := by
  unfold State.energyAdd
  extract_lets -merge -underBinder +onlyGivenNames x0 x1
  exact State.stRecord_same _ _ hk

theorem State.floorDone_same (hk : Same P s0 s) (gPLACE_40 : P pPLACE 40) : Same P s0 (State.floorDone s) := by
  unfold State.floorDone
  exact Same.ite (fun _ => State.put_same _ _ _ hk gPLACE_40) (fun _ => hk)

theorem State.portLoad_same (hk : Same P s0 s) (gSTORE_16 : P pSTORE 16) (gSTORE_40 : P pSTORE 40) (gSTORE_44 : P pSTORE 44) (gBANK_any : ∀ o, o < 256 → P pBANK o) (gSTORE_48 : P pSTORE 48) (gSTORE_12 : P pSTORE 12) (gPLACE_any : ∀ o, o < 256 → P pPLACE o) : Same P s0 (State.portLoad s) := by
  unfold State.portLoad
  extract_lets -merge -underBinder +onlyGivenNames x0 x1 x2 x3 x4 x5
  have hx5 : Same P s0 x5 := Same.ite (fun _ => State.stNote_same _ _ _ hk gSTORE_16 gSTORE_40 gSTORE_44 (fun o ho => gBANK_any o ho) gSTORE_48 gSTORE_12) (fun _ => hk)
  try clear_value x5
  extract_lets -merge -underBinder +onlyGivenNames x6
  have hx6 : Same P s0 x6 := State.raiseIf_same _ _ _ hx5 (gPLACE_any _ (by decide))
  try clear_value x6
  exact foldl_same _ hx6 (fun _ _ hm h7 => State.wr_same _ _ _ h7 (gPLACE_any _ (by (try simp only [List.mem_range, List.mem_cons, List.not_mem_nil, or_false] at hm); (try simp only [Fld.at]); omega)))

theorem State.poolLoad_same (hk : Same P s0 s) (gSTORE_16 : P pSTORE 16) (gSTORE_40 : P pSTORE 40) (gSTORE_44 : P pSTORE 44) (gBANK_any : ∀ o, o < 256 → P pBANK o) (gSTORE_48 : P pSTORE 48) (gSTORE_12 : P pSTORE 12) (gPLACE_any : ∀ o, o < 256 → P pPLACE o) : Same P s0 (State.poolLoad s) := by
  unfold State.poolLoad
  extract_lets -merge -underBinder +onlyGivenNames x0 x1 x2
  have hx2 : Same P s0 x2 := State.stNote_same _ _ _ hk gSTORE_16 gSTORE_40 gSTORE_44 (fun o ho => gBANK_any o ho) gSTORE_48 gSTORE_12
  try clear_value x2
  extract_lets -merge -underBinder +onlyGivenNames x3
  have hx3 : Same P s0 x3 := State.raiseIf_same _ _ _ hx2 (gPLACE_any _ (by decide))
  try clear_value x3
  exact foldl_same _ hx3 (fun _ _ hm h4 => State.wr_same _ _ _ h4 (gPLACE_any _ (by (try simp only [List.mem_range, List.mem_cons, List.not_mem_nil, or_false] at hm); (try simp only [Fld.at]); omega)))

theorem State.windowWrite_same (off : ℕ) (v : Word) (hk : Same P s0 s) (gPLACE_f1 : P pPLACE off) : Same P s0 (State.windowWrite s off v) := by
  unfold State.windowWrite
  extract_lets -merge -underBinder +onlyGivenNames x0 x1
  have hx1 : Same P s0 x1 := State.wr_same _ _ _ hk gPLACE_f1
  try clear_value x1
  extract_lets -merge -underBinder +onlyGivenNames x2 x3 x4
  exact Same.ite (fun _ => State.cutCheck_same (State.recPut_same _ _ _ hx1)) (fun _ => Same.ite (fun _ => Same.ite (fun _ => hk) (fun _ => State.recPut_same _ _ _ (State.wr_same _ _ _ hk gPLACE_f1))) (fun _ => hk))

theorem State.energyPut_same (n : Port) (lo : Fld) (v : ℕ) (hk : Same P s0 s) (gENGY_any : ∀ o, o < 256 → P pENGY o) (hf : lo.off < 128 := by decide) :
    Same P s0 (State.energyPut s n lo v) :=
  State.put_same _ _ _ (State.put_same _ _ _ hk (gENGY_any _ (by simp only [Fld.at]; omega))) (gENGY_any _ (by simp only [Fld.at]; omega))

theorem State.energyZero_same (hk : Same P s0 s) (gENGY_any : ∀ o, o < 256 → P pENGY o) : Same P s0 (State.energyZero s) := by
  unfold State.energyZero
  extract_lets -merge -underBinder +onlyGivenNames x0 x1
  have hx1 : Same P s0 x1 := State.forPorts_same hk (fun _ _ h2 => Same.ite (fun _ => State.energyPut_same _ _ _ (State.energyPut_same _ _ _ h2 (fun o ho => gENGY_any o ho)) (fun o ho => gENGY_any o ho)) (fun _ => h2))
  try clear_value x1
  exact Same.ite (fun _ => hk) (fun _ => State.raise_same _ _ (State.modPlace_same _ hx1) (gENGY_any _ (by decide)))

theorem State.energyTick_same (hk : Same P s0 s) (gENGY_any : ∀ o, o < 256 → P pENGY o) : Same P s0 (State.energyTick s) := by
  unfold State.energyTick
  refine State.forPorts_same ?_ ?_
  · exact hk
  · intro s0_0 s0_1 hs0_1
    extract_lets -merge -underBinder +onlyGivenNames x1
    exact Same.ite (fun _ => Same.ite (fun _ => State.energyPut_same _ _ _ hs0_1 (fun o ho => gENGY_any o ho)) (fun _ => Same.ite (fun _ => State.energyPut_same _ _ _ hs0_1 (fun o ho => gENGY_any o ho)) (fun _ => hs0_1))) (fun _ => hs0_1)

theorem State.energyPost_same (hk : Same P s0 s) (gENGY_16 : P pENGY 16) : Same P s0 (State.energyPost s) := by
  unfold State.energyPost
  extract_lets -merge -underBinder +onlyGivenNames x0 x1
  have hx1 : Same P s0 x1 := State.raiseIf_same _ _ _ hk gENGY_16
  try clear_value x1
  exact Same.ite (fun _ => State.postGlobal_same _ _ _ _ _ hx1) (fun _ => hk)

theorem State.engyClearCmd_same (ports : ℕ) (hk : Same P s0 s) : Same P s0 (State.engyClearCmd s ports) := by
  unfold State.engyClearCmd
  exact State.modPlace_same _ hk

theorem State.takeMir_same (n : Port) (e : List Byte) (hk : Same P s0 s) (gTWIN_16 : P pTWIN 16) (gCC_68 : P (pCC n) 68) : Same P s0 (State.takeMir s n e) := by
  unfold State.takeMir
  extract_lets -merge -underBinder +onlyGivenNames x0
  have hx0 : Same P s0 x0 := State.modTw_same _ _ hk
  try clear_value x0
  extract_lets -merge -underBinder +onlyGivenNames x1
  have hx1 : Same P s0 x1 := State.raiseIf_same _ _ _ hx0 gTWIN_16
  try clear_value x1
  extract_lets -merge -underBinder +onlyGivenNames x2 x3 x4
  have hx4 : Same P s0 x4 := State.put_same _ _ _ (State.put_same _ _ _ hx1 gCC_68) gCC_68
  try clear_value x4
  exact State.shadowWatch_same _ _ (State.put_same _ _ _ hx4 gCC_68) gCC_68

theorem State.mirShow_same (n : Port) (hk : Same P s0 s) (gTWIN_any : ∀ o, o < 256 → P pTWIN o) : Same P s0 (State.mirShow s n) := by
  unfold State.mirShow
  extract_lets -merge -underBinder +onlyGivenNames x0
  exact foldl_same _ (State.put_same _ _ _ hk (gTWIN_any _ (by decide))) (fun _ _ hm h1 => State.put_same _ _ _ h1 (gTWIN_any _ (by (try simp only [List.mem_range, List.mem_cons, List.not_mem_nil, or_false] at hm); (try simp only [Fld.at, TWIN.MIR_WORD]); omega)))

theorem State.mirWrite_same (w7 : Word) (hk : Same P s0 s) (gTWIN_any : ∀ o, o < 256 → P pTWIN o) (gCC_68 : ∀ m, P (pCC m) 68) : Same P s0 (State.mirWrite s w7) := by
  unfold State.mirWrite
  extract_lets -merge -underBinder +onlyGivenNames x0
  have hx0 : Same P s0 x0 := State.put_same _ _ _ hk (gTWIN_any _ (by (try simp only [List.mem_range, List.mem_cons, List.not_mem_nil, or_false] at hm); (try simp only [Fld.at, TWIN.MIR_WORD]); omega))
  try clear_value x0
  exact State.takeMir_same _ _ hx0 (gTWIN_any _ (by decide)) (gCC_68 _)

theorem State.twinEntryTake_same (e : List Byte) (hk : Same P s0 s) (gTWIN_any : ∀ o, o < 256 → P pTWIN o) (gCC_68 : ∀ m, P (pCC m) 68) : Same P s0 (State.twinEntryTake s e) := by
  unfold State.twinEntryTake
  split
  · exact hk
  · extract_lets -merge -underBinder +onlyGivenNames x0
    have hx0 : Same P s0 x0 := foldl_same _ (State.put_same _ _ _ hk (gTWIN_any _ (by decide))) (fun _ _ hm h1 => State.put_same _ _ _ h1 (gTWIN_any _ (by (try simp only [List.mem_range, List.mem_cons, List.not_mem_nil, or_false] at hm); (try simp only [Fld.at, TWIN.MIR_WORD]); omega)))
    try clear_value x0
    exact State.takeMir_same _ _ hx0 (gTWIN_any _ (by decide)) (gCC_68 _)

theorem State.tkoRecord_same (n : Port) (cause : ℕ) (stale : Bool) (hk : Same P s0 s) (gTWIN_56 : P pTWIN 56) : Same P s0 (State.tkoRecord s n cause stale) := by
  unfold State.tkoRecord
  extract_lets -merge -underBinder +onlyGivenNames x0
  have hx0 : Same P s0 x0 := State.put_same _ _ _ (State.put_same _ _ _ hk gTWIN_56) gTWIN_56
  try clear_value x0
  exact State.put_same _ _ _ (State.putB_same _ _ _ hx0 gTWIN_56) gTWIN_56

theorem State.claimNow_same (n : Port) (hk : Same P s0 s) : Same P s0 (State.claimNow s n) := by
  unfold State.claimNow
  exact State.modTw_same _ _ hk

theorem State.snapFromMir_same (n : Port) (hk : Same P s0 s) (gPOL_12 : P (pPOL n) 12) : Same P s0 (State.snapFromMir s n) := by
  unfold State.snapFromMir
  extract_lets -merge -underBinder +onlyGivenNames x0 x1 x2 x3 x4 x5
  have hx5 : Same P s0 x5 := State.aosWrite_same _ _ hk
  try clear_value x5
  extract_lets -merge -underBinder +onlyGivenNames x6
  have hx6 : Same P s0 x6 := State.put_same _ _ _ (State.put_same _ _ _ hx5 gPOL_12) gPOL_12
  try clear_value x6
  extract_lets -merge -underBinder +onlyGivenNames x7
  have hx7 : Same P s0 x7 := State.putB_same _ _ _ hx6 gPOL_12
  try clear_value x7
  extract_lets -merge -underBinder +onlyGivenNames x8
  exact State.setWin_same _ _ _ (State.modPol_same _ _ hx7)

theorem State.twinTake_same (n : Port) (cause : ℕ) (hk : Same P s0 s) (gCC_12 : P (pCC n) 12) (gCC_16 : P (pCC n) 16) (gPDL_any : ∀ o, o < 256 → P (pPDL n) o) (gVDM_64 : P (pVDM n) 64) (gVDM_16 : P (pVDM n) 16) (gPOL_12 : P (pPOL n) 12) (gPOL_52 : P (pPOL n) 52) (gPOL_16 : P (pPOL n) 16) (gPOL_44 : P (pPOL n) 44) (gGUARD_12 : P (pGUARD n) 12) (gVDM_52 : P (pVDM n) 52) (gSHARE_any : ∀ o, o < 256 → P pSHARE o) (gVDM_96 : P (pVDM n) 96) (gTWIN_108 : P pTWIN 108) (gTWIN_56 : P pTWIN 56) (gTWIN_16 : P pTWIN 16) : Same P s0 (State.twinTake s n cause) := by
  unfold State.twinTake
  extract_lets -merge -underBinder +onlyGivenNames x0 x1 x2 x3
  have hx3 : Same P s0 x3 := State.put_same _ _ _ (State.modCc_same _ _ hk) gCC_12
  try clear_value x3
  extract_lets -merge -underBinder +onlyGivenNames x4
  have hx4 : Same P s0 x4 := State.ccEnter_same _ _ (State.put_same _ _ _ hx3 gCC_12) gCC_16 gCC_12 (fun o ho => gPDL_any o ho) gVDM_64 gVDM_16 gPOL_12 gPOL_52 gPOL_16 gPOL_44 gGUARD_12 gVDM_52 (fun o ho => gSHARE_any o ho) gVDM_96
  try clear_value x4
  extract_lets -merge -underBinder +onlyGivenNames x5 x6
  have hx6 : Same P s0 x6 := State.put_same _ _ _ (State.wr_same _ _ _ hx4 (gPDL_any _ (by decide))) (gPDL_any _ (by decide))
  try clear_value x6
  extract_lets -merge -underBinder +onlyGivenNames x7
  have hx7 : Same P s0 x7 := Same.ite (fun _ => State.setTarget_same _ _ (State.snapFromMir_same _ hx6 gPOL_12) gPOL_16 gPOL_44) (fun _ => hx6)
  try clear_value x7
  extract_lets -merge -underBinder +onlyGivenNames x8
  have hx8 : Same P s0 x8 := State.put_same _ _ _ hx7 (gPDL_any _ (by decide))
  try clear_value x8
  extract_lets -merge -underBinder +onlyGivenNames x9
  have hx9 : Same P s0 x9 := Same.ite (fun _ => hx8) (fun _ => State.joinGuard_same _ hx8 gGUARD_12)
  try clear_value x9
  extract_lets -merge -underBinder +onlyGivenNames x10
  have hx10 : Same P s0 x10 := State.bump_same _ _ _ (State.tkoRecord_same _ _ _ hx9 gTWIN_56) gTWIN_108
  try clear_value x10
  extract_lets -merge -underBinder +onlyGivenNames x11
  have hx11 : Same P s0 x11 := State.claimNow_same _ (State.raise_same _ _ hx10 gTWIN_16)
  try clear_value x11
  exact State.postGlobal_same _ _ _ _ _ hx11

theorem State.twinAssume_same (n : Port) (hk : Same P s0 s) (gCC_12 : P (pCC n) 12) (gTWIN_56 : P pTWIN 56) (gCC_16 : P (pCC n) 16) (gPDL_any : ∀ o, o < 256 → P (pPDL n) o) (gVDM_64 : P (pVDM n) 64) (gVDM_16 : P (pVDM n) 16) (gPOL_12 : P (pPOL n) 12) (gPOL_52 : P (pPOL n) 52) (gPOL_16 : P (pPOL n) 16) (gPOL_44 : P (pPOL n) 44) (gGUARD_12 : P (pGUARD n) 12) (gVDM_52 : P (pVDM n) 52) (gSHARE_any : ∀ o, o < 256 → P pSHARE o) (gVDM_96 : P (pVDM n) 96) (gTWIN_16 : P pTWIN 16) : Same P s0 (State.twinAssume s n) := by
  unfold State.twinAssume
  extract_lets -merge -underBinder +onlyGivenNames x0
  have hx0 : Same P s0 x0 := State.put_same _ _ _ (State.modCc_same _ _ hk) gCC_12
  try clear_value x0
  extract_lets -merge -underBinder +onlyGivenNames x1
  have hx1 : Same P s0 x1 := State.tkoRecord_same _ _ _ (State.ccEnter_same _ _ hx0 gCC_16 gCC_12 (fun o ho => gPDL_any o ho) gVDM_64 gVDM_16 gPOL_12 gPOL_52 gPOL_16 gPOL_44 gGUARD_12 gVDM_52 (fun o ho => gSHARE_any o ho) gVDM_96) gTWIN_56
  try clear_value x1
  exact State.claimNow_same _ (State.raise_same _ _ hx1 gTWIN_16)

theorem State.twinOrder_same (n : Port) (cause : ℕ) (hk : Same P s0 s) (gCC_12 : P (pCC n) 12) (gCC_16 : P (pCC n) 16) (gPDL_any : ∀ o, o < 256 → P (pPDL n) o) (gVDM_64 : P (pVDM n) 64) (gVDM_16 : P (pVDM n) 16) (gPOL_12 : P (pPOL n) 12) (gPOL_52 : P (pPOL n) 52) (gPOL_16 : P (pPOL n) 16) (gPOL_44 : P (pPOL n) 44) (gGUARD_12 : P (pGUARD n) 12) (gVDM_52 : P (pVDM n) 52) (gSHARE_any : ∀ o, o < 256 → P pSHARE o) (gVDM_96 : P (pVDM n) 96) (gTWIN_108 : P pTWIN 108) (gTWIN_56 : P pTWIN 56) (gTWIN_16 : P pTWIN 16) : Same P s0 (State.twinOrder s n cause) := by
  unfold State.twinOrder
  exact Same.ite (fun _ => hk) (fun _ => Same.ite (fun _ => State.twinTake_same _ _ hk gCC_12 gCC_16 (fun o ho => gPDL_any o ho) gVDM_64 gVDM_16 gPOL_12 gPOL_52 gPOL_16 gPOL_44 gGUARD_12 gVDM_52 (fun o ho => gSHARE_any o ho) gVDM_96 gTWIN_108 gTWIN_56 gTWIN_16) (fun _ => State.twinAssume_same _ hk gCC_12 gTWIN_56 gCC_16 (fun o ho => gPDL_any o ho) gVDM_64 gVDM_16 gPOL_12 gPOL_52 gPOL_16 gPOL_44 gGUARD_12 gVDM_52 (fun o ho => gSHARE_any o ho) gVDM_96 gTWIN_16))

theorem State.twinCmd_same (ports : BitVec 8) (hk : Same P s0 s) (gCC_12 : ∀ m, P (pCC m) 12) (gCC_16 : ∀ m, P (pCC m) 16) (gPDL_any : ∀ m, ∀ o, o < 256 → P (pPDL m) o) (gVDM_64 : ∀ m, P (pVDM m) 64) (gVDM_16 : ∀ m, P (pVDM m) 16) (gPOL_12 : ∀ m, P (pPOL m) 12) (gPOL_52 : ∀ m, P (pPOL m) 52) (gPOL_16 : ∀ m, P (pPOL m) 16) (gPOL_44 : ∀ m, P (pPOL m) 44) (gGUARD_12 : ∀ m, P (pGUARD m) 12) (gVDM_52 : ∀ m, P (pVDM m) 52) (gSHARE_any : ∀ o, o < 256 → P pSHARE o) (gVDM_96 : ∀ m, P (pVDM m) 96) (gTWIN_108 : P pTWIN 108) (gTWIN_56 : P pTWIN 56) (gTWIN_16 : P pTWIN 16) : Same P s0 (State.twinCmd s ports) := by
  unfold State.twinCmd
  exact State.forPorts_same hk (fun _ _ h0 => Same.ite (fun _ => State.twinOrder_same _ _ h0 (gCC_12 _) (gCC_16 _) (fun o ho => gPDL_any _ o ho) (gVDM_64 _) (gVDM_16 _) (gPOL_12 _) (gPOL_52 _) (gPOL_16 _) (gPOL_44 _) (gGUARD_12 _) (gVDM_52 _) (fun o ho => gSHARE_any o ho) (gVDM_96 _) gTWIN_108 gTWIN_56 gTWIN_16) (fun _ => h0))

theorem State.twinTrimStep_same (n : Port) (hk : Same P s0 s) (gSHARE_16 : P pSHARE 16) (gPOL_16 : P (pPOL n) 16) (gPOL_44 : P (pPOL n) 44) : Same P s0 (State.twinTrimStep s n) := by
  unfold State.twinTrimStep
  extract_lets -merge -underBinder +onlyGivenNames x0 x1 x2 x3 x4 x5 x6 x7 x8 x9 x10 x11 x12 x13 x14 x15
  have hx15 : Same P s0 x15 := State.raiseIf_same _ _ _ hk gSHARE_16
  try clear_value x15
  extract_lets -merge -underBinder +onlyGivenNames x16
  have hx16 : Same P s0 x16 := State.modPol_same _ _ hx15
  try clear_value x16
  exact Same.ite (fun _ => hk) (fun _ => State.setTarget_same _ _ hx16 gPOL_16 gPOL_44)

theorem State.yieldTick_same (n : Port) (hk : Same P s0 s) (gCC_8 : P (pCC n) 8) : Same P s0 (State.yieldTick s n) := by
  unfold State.yieldTick
  exact Same.ite (fun _ => State.modTw_same _ _ (State.put_same _ _ _ hk gCC_8)) (fun _ => hk)

theorem State.twinTick_same (hk : Same P s0 s) (gTWIN_40 : P pTWIN 40) (gTWIN_16 : P pTWIN 16) (gCC_8 : ∀ m, P (pCC m) 8) (gCC_16 : ∀ m, P (pCC m) 16) (gCC_12 : ∀ m, P (pCC m) 12) (gPDL_any : ∀ m, ∀ o, o < 256 → P (pPDL m) o) (gVDM_64 : ∀ m, P (pVDM m) 64) (gVDM_16 : ∀ m, P (pVDM m) 16) (gPOL_12 : ∀ m, P (pPOL m) 12) (gPOL_52 : ∀ m, P (pPOL m) 52) (gPOL_16 : ∀ m, P (pPOL m) 16) (gPOL_44 : ∀ m, P (pPOL m) 44) (gGUARD_12 : ∀ m, P (pGUARD m) 12) (gVDM_52 : ∀ m, P (pVDM m) 52) (gSHARE_any : ∀ o, o < 256 → P pSHARE o) (gVDM_96 : ∀ m, P (pVDM m) 96) (gTWIN_44 : P pTWIN 44) (gTWIN_108 : P pTWIN 108) (gTWIN_56 : P pTWIN 56) : Same P s0 (State.twinTick s) := by
  unfold State.twinTick
  extract_lets -merge -underBinder +onlyGivenNames x0 x1 x2
  have hx2 : Same P s0 x2 := State.putB_same _ _ _ hk gTWIN_40
  try clear_value x2
  extract_lets -merge -underBinder +onlyGivenNames x3
  have hx3 : Same P s0 x3 := State.raiseIf_same _ _ _ (State.raiseIf_same _ _ _ hx2 gTWIN_16) gTWIN_16
  try clear_value x3
  extract_lets -merge -underBinder +onlyGivenNames x4
  have hx4 : Same P s0 x4 := by
    unfold x4
    refine State.forPorts_same ?_ ?_
    · exact hx3
    · intro s5_0 s5_1 hs5_1
      extract_lets -merge -underBinder +onlyGivenNames x6
      have hx6 : Same P s0 x6 := State.yieldTick_same _ hs5_1 (gCC_8 _)
      try clear_value x6
      extract_lets -merge -underBinder +onlyGivenNames x7
      have hx7 : Same P s0 x7 := Same.ite (fun _ => State.debounced_same _ hx6 (gCC_16 _) (gCC_12 _) (fun o ho => gPDL_any _ o ho) (gVDM_64 _) (gVDM_16 _) (gPOL_12 _) (gPOL_52 _) (gPOL_16 _) (gPOL_44 _) (gGUARD_12 _) (gVDM_52 _) (fun o ho => gSHARE_any o ho) (gVDM_96 _)) (fun _ => hx6)
      try clear_value x7
      extract_lets -merge -underBinder +onlyGivenNames x8 x9
      have hx9 : Same P s0 x9 := State.put_same _ _ _ hx7 gTWIN_44
      try clear_value x9
      extract_lets -merge -underBinder +onlyGivenNames x10
      have hx10 : Same P s0 x10 := State.put_same _ _ _ hx9 gTWIN_40
      try clear_value x10
      extract_lets -merge -underBinder +onlyGivenNames x11
      have hx11 : Same P s0 x11 := State.put_same _ _ _ hx10 gTWIN_40
      try clear_value x11
      extract_lets -merge -underBinder +onlyGivenNames x12
      have hx12 : Same P s0 x12 := Same.ite (fun _ => State.modPol_same _ _ hx11) (fun _ => hx11)
      try clear_value x12
      extract_lets -merge -underBinder +onlyGivenNames x13
      have hx13 : Same P s0 x13 := State.setTarget_same _ _ (State.cenLevel_same _ _ hx12 (gPOL_12 _)) (gPOL_16 _) (gPOL_44 _)
      try clear_value x13
      exact Same.ite (fun _ => State.twinOrder_same _ _ hx11 (gCC_12 _) (gCC_16 _) (fun o ho => gPDL_any _ o ho) (gVDM_64 _) (gVDM_16 _) (gPOL_12 _) (gPOL_52 _) (gPOL_16 _) (gPOL_44 _) (gGUARD_12 _) (gVDM_52 _) (fun o ho => gSHARE_any o ho) (gVDM_96 _) gTWIN_108 gTWIN_56 gTWIN_16) (fun _ => Same.ite (fun _ => State.twinTrimStep_same _ hx13 (gSHARE_any _ (by decide)) (gPOL_16 _) (gPOL_44 _)) (fun _ => State.twinTrimStep_same _ (Same.ite (fun _ => State.cenLevel_same _ _ hx11 (gPOL_12 _)) (fun _ => hx11)) (gSHARE_any _ (by decide)) (gPOL_16 _) (gPOL_44 _)))
  try clear_value x4
  extract_lets -merge -underBinder +onlyGivenNames x14 x15
  have hx15 : Same P s0 x15 := State.raiseIf_same _ _ _ hx4 gTWIN_16
  try clear_value x15
  extract_lets -merge -underBinder +onlyGivenNames x16
  have hx16 : Same P s0 x16 := State.putB_same _ _ _ hx15 gTWIN_40
  try clear_value x16
  exact Same.ite (fun _ => State.postGlobal_same _ _ _ _ _ hx16) (fun _ => hx16)

theorem State.policyTick_same (n : Port) (hk : Same P s0 s) (gGUARD_44 : P (pGUARD n) 44) (gPDL_16 : P (pPDL n) 16) : Same P s0 (State.policyTick s n) := by
  unfold State.policyTick
  extract_lets -merge -underBinder +onlyGivenNames x0
  have hx0 : Same P s0 x0 := Same.ite (fun _ => State.followLimit_same _ hk gGUARD_44) (fun _ => hk)
  try clear_value x0
  extract_lets -merge -underBinder +onlyGivenNames x1 x2 x3
  have hx3 : Same P s0 x3 := Same.ite (fun _ => hx0) (fun _ => State.modFw_same _ _ hx0)
  try clear_value x3
  exact Same.ite (fun _ => hx0) (fun _ => Same.ite (fun _ => Same.ite (fun _ => Same.ite (fun _ => State.fwSendExt_same _ _ _ (State.modFw_same _ _ hx0) gPDL_16) (fun _ => hx0)) (fun _ => Same.ite (fun _ => State.fwSend_same _ _ _ _ _ (State.modFw_same _ _ hx0) gPDL_16) (fun _ => hx0))) (fun _ => Same.ite (fun _ => Same.ite (fun _ => hx3) (fun _ => State.fwSend_same _ _ _ _ _ hx3 gPDL_16)) (fun _ => hx0)))

end Sys2Proof.Machine
end

