-- ==== Sys2Proof/Laws/SameSystem.lean ====
section
/-!
SUPPORT. `Same` over the operations of gauge, update, resets, register access, Skink, host bus, supply, modes, boot, tick: one lemma per operation.
-/

set_option Elab.async false

namespace Sys2Proof.Machine

variable {P : Nat → Nat → Prop} {s0 s : State}

theorem State.modGauge_same (f : GaugeSt → GaugeSt) (hk : Same P s0 s) : Same P s0 (State.modGauge s f) := by
  unfold State.modGauge
  exact Same.mk' hk

theorem State.setAcc_same (v : ℤ) (hk : Same P s0 s) (gGAUGE_68 : P pGAUGE 68) (gGAUGE_64 : P pGAUGE 64) : Same P s0 (State.setAcc s v) := by
  unfold State.setAcc
  extract_lets -merge -underBinder +onlyGivenNames x0
  exact State.put_same _ _ _ (State.put_same _ _ _ hk gGAUGE_64) gGAUGE_68

theorem State.setRm_same (rm : ℕ) (hk : Same P s0 s) (gGAUGE_92 : P pGAUGE 92) (gGAUGE_100 : P pGAUGE 100) : Same P s0 (State.setRm s rm) := by
  unfold State.setRm
  extract_lets -merge -underBinder +onlyGivenNames x0 x1
  have hx1 : Same P s0 x1 := State.put_same _ _ _ hk gGAUGE_92
  try clear_value x1
  exact State.put_same _ _ _ hx1 gGAUGE_100

theorem State.setValid_same (hk : Same P s0 s) (gGAUGE_100 : P pGAUGE 100) (gGAUGE_16 : P pGAUGE 16) : Same P s0 (State.setValid s) := by
  unfold State.setValid
  exact State.put_same _ _ _ (State.raiseIf_same _ _ _ hk gGAUGE_16) gGAUGE_100

theorem State.disqualify_same (reason : ℕ) (hk : Same P s0 s) (gLEARN_68 : P pLEARN 68) (gLEARN_44 : P pLEARN 44) (gLEARN_16 : P pLEARN 16) : Same P s0 (State.disqualify s reason) := by
  unfold State.disqualify
  extract_lets -merge -underBinder +onlyGivenNames x0
  have hx0 : Same P s0 x0 := State.modGauge_same _ hk
  try clear_value x0
  extract_lets -merge -underBinder +onlyGivenNames x1
  have hx1 : Same P s0 x1 := State.bump_same _ _ _ (State.put_same _ _ _ (State.put_same _ _ _ hx0 gLEARN_44) gLEARN_44) gLEARN_68
  try clear_value x1
  exact Same.ite (fun _ => State.raise_same _ _ hx1 gLEARN_16) (fun _ => hx0)

theorem State.learnStart_same (soc : ℕ) (hk : Same P s0 s) (gLEARN_48 : P pLEARN 48) (gLEARN_56 : P pLEARN 56) (gLEARN_52 : P pLEARN 52) (gLEARN_44 : P pLEARN 44) (gLEARN_60 : P pLEARN 60) (gLEARN_16 : P pLEARN 16) (gLEARN_68 : P pLEARN 68) : Same P s0 (State.learnStart s soc) := by
  unfold State.learnStart
  extract_lets -merge -underBinder +onlyGivenNames x0
  have hx0 : Same P s0 x0 := State.put_same _ _ _ (State.put_same _ _ _ (State.put_same _ _ _ hk gLEARN_52) gLEARN_56) gLEARN_48
  try clear_value x0
  extract_lets -merge -underBinder +onlyGivenNames x1
  have hx1 : Same P s0 x1 := State.put_same _ _ _ (State.put_same _ _ _ hx0 gLEARN_60) gLEARN_44
  try clear_value x1
  extract_lets -merge -underBinder +onlyGivenNames x2
  have hx2 : Same P s0 x2 := State.modGauge_same _ hx1
  try clear_value x2
  extract_lets -merge -underBinder +onlyGivenNames x3
  have hx3 : Same P s0 x3 := State.raise_same _ _ hx2 gLEARN_16
  try clear_value x3
  exact Same.ite (fun _ => Same.ite (fun _ => hx3) (fun _ => State.disqualify_same _ hx3 gLEARN_68 gLEARN_44 gLEARN_16)) (fun _ => hk)

theorem State.learnTake_same (new : ℕ × Bool) (rm : ℕ) (hk : Same P s0 s) (gGAUGE_88 : P pGAUGE 88) (gLEARN_44 : P pLEARN 44) (gGAUGE_100 : P pGAUGE 100) (gGAUGE_96 : P pGAUGE 96) (gGAUGE_92 : P pGAUGE 92) (gLEARN_64 : P pLEARN 64) (gLEARN_68 : P pLEARN 68) (gLEARN_16 : P pLEARN 16) (gLEARN_72 : P pLEARN 72) : Same P s0 (State.learnTake s new rm) := by
  unfold State.learnTake
  extract_lets -merge -underBinder +onlyGivenNames x0
  have hx0 : Same P s0 x0 := State.put_same _ _ _ (State.putB_same _ _ _ hk gLEARN_44) gGAUGE_88
  try clear_value x0
  extract_lets -merge -underBinder +onlyGivenNames x1
  have hx1 : Same P s0 x1 := State.put_same _ _ _ (State.put_same _ _ _ hx0 gGAUGE_96) gGAUGE_100
  try clear_value x1
  extract_lets -merge -underBinder +onlyGivenNames x2
  have hx2 : Same P s0 x2 := State.put_same _ _ _ (State.setRm_same _ hx1 gGAUGE_92 gGAUGE_100) gGAUGE_100
  try clear_value x2
  extract_lets -merge -underBinder +onlyGivenNames x3
  have hx3 : Same P s0 x3 := State.put_same _ _ _ (State.bump_same _ _ _ hx2 gLEARN_68) gLEARN_64
  try clear_value x3
  extract_lets -merge -underBinder +onlyGivenNames x4
  have hx4 : Same P s0 x4 := State.raise_same _ _ (State.put_same _ _ _ hx3 gLEARN_44) gLEARN_16
  try clear_value x4
  extract_lets -merge -underBinder +onlyGivenNames x5
  have hx5 : Same P s0 x5 := State.modGauge_same _ hx4
  try clear_value x5
  exact State.put_same _ _ _ (State.put_same _ _ _ hx5 gLEARN_72) gLEARN_72

theorem State.gaugeSave_same (hk : Same P s0 s) : Same P s0 (State.gaugeSave s) := by
  unfold State.gaugeSave
  extract_lets -merge -underBinder +onlyGivenNames x0
  exact State.aosWrite_same _ _ hk

theorem State.clearSwap_same (hk : Same P s0 s) (gBATID_40 : P pBATID 40) : Same P s0 (State.clearSwap s) := by
  unfold State.clearSwap
  exact State.put_same _ _ _ hk gBATID_40

theorem State.profLoad_same (p : Option Profile) (hk : Same P s0 s) (gGAUGE_40 : P pGAUGE 40) (gGAUGE_32 : P pGAUGE 32) (gGAUGE_44 : P pGAUGE 44) (gGAUGE_48 : P pGAUGE 48) (gGAUGE_52 : P pGAUGE 52) (gGAUGE_60 : P pGAUGE 60) (gGAUGE_56 : P pGAUGE 56) : Same P s0 (State.profLoad s p) := by
  unfold State.profLoad
  extract_lets -merge -underBinder +onlyGivenNames x0
  have hx0 : Same P s0 x0 := State.modGauge_same _ hk
  try clear_value x0
  split
  · exact hx0
  · extract_lets -merge -underBinder +onlyGivenNames x1
    have hx1 : Same P s0 x1 := State.put_same _ _ _ (State.put_same _ _ _ hx0 gGAUGE_32) gGAUGE_40
    try clear_value x1
    extract_lets -merge -underBinder +onlyGivenNames x2
    have hx2 : Same P s0 x2 := State.put_same _ _ _ (State.put_same _ _ _ hx1 gGAUGE_44) gGAUGE_44
    try clear_value x2
    extract_lets -merge -underBinder +onlyGivenNames x3
    have hx3 : Same P s0 x3 := State.put_same _ _ _ (State.put_same _ _ _ hx2 gGAUGE_48) gGAUGE_48
    try clear_value x3
    extract_lets -merge -underBinder +onlyGivenNames x4
    have hx4 : Same P s0 x4 := State.put_same _ _ _ (State.put_same _ _ _ hx3 gGAUGE_52) gGAUGE_52
    try clear_value x4
    exact State.put_same _ _ _ (State.put_same _ _ _ hx4 gGAUGE_56) gGAUGE_60

theorem State.packLoad_same (hk : Same P s0 s) (gGAUGE_40 : P pGAUGE 40) (gGAUGE_32 : P pGAUGE 32) (gGAUGE_44 : P pGAUGE 44) (gGAUGE_48 : P pGAUGE 48) (gGAUGE_52 : P pGAUGE 52) (gGAUGE_60 : P pGAUGE 60) (gGAUGE_56 : P pGAUGE 56) (gGAUGE_100 : P pGAUGE 100) (gGAUGE_88 : P pGAUGE 88) (gGAUGE_96 : P pGAUGE 96) (gLEARN_44 : P pLEARN 44) (gGAUGE_92 : P pGAUGE 92) (gBATID_40 : P pBATID 40) : Same P s0 (State.packLoad s) := by
  unfold State.packLoad
  extract_lets -merge -underBinder +onlyGivenNames x0 x1
  have hx1 : Same P s0 x1 := State.profLoad_same _ hk gGAUGE_40 gGAUGE_32 gGAUGE_44 gGAUGE_48 gGAUGE_52 gGAUGE_60 gGAUGE_56
  try clear_value x1
  extract_lets -merge -underBinder +onlyGivenNames x2
  have hx2 : Same P s0 x2 := by
    unfold x2
    split
    · exact State.put_same _ _ _ (State.put_same _ _ _ hx1 gGAUGE_88) gGAUGE_100
    · exact State.put_same _ _ _ hx1 gGAUGE_88
  try clear_value x2
  extract_lets -merge -underBinder +onlyGivenNames x3
  have hx3 : Same P s0 x3 := State.put_same _ _ _ (State.put_same _ _ _ hx2 gGAUGE_96) gGAUGE_100
  try clear_value x3
  extract_lets -merge -underBinder +onlyGivenNames x4
  have hx4 : Same P s0 x4 := State.put_same _ _ _ (State.put_same _ _ _ hx3 gGAUGE_100) gGAUGE_100
  try clear_value x4
  extract_lets -merge -underBinder +onlyGivenNames x5
  have hx5 : Same P s0 x5 := State.put_same _ _ _ (State.setRm_same _ hx4 gGAUGE_92 gGAUGE_100) gLEARN_44
  try clear_value x5
  extract_lets -merge -underBinder +onlyGivenNames x6
  have hx6 : Same P s0 x6 := State.modGauge_same _ hx5
  try clear_value x6
  exact State.clearSwap_same (State.put_same _ _ _ hx6 gGAUGE_100) gBATID_40

theorem State.winLoad_same (hk : Same P s0 s) (gBATID_any : ∀ o, o < 256 → P pBATID o) : Same P s0 (State.winLoad s) := by
  unfold State.winLoad
  refine foldl_same _ ?_ ?_
  · exact hk
  · intro s0_0 s0_1 hm hs0_1
    split
    · exact State.put_same _ _ _ (State.put_same _ _ _ hs0_1 (gBATID_any _ (by (try simp only [List.mem_range, List.mem_cons, List.not_mem_nil, or_false] at hm); (try simp only [Fld.at, BATID.SLOT_WIN_MIN]); omega))) (gBATID_any _ (by (try simp only [List.mem_range, List.mem_cons, List.not_mem_nil, or_false] at hm); (try simp only [Fld.at, BATID.SLOT_WIN_MAX]); omega))
    · exact State.wr_same _ _ _ hs0_1 (gBATID_any _ (by (try simp only [List.mem_range, List.mem_cons, List.not_mem_nil, or_false] at hm); (try simp only [Fld.at]); omega))

theorem State.gaugeCold_same (hk : Same P s0 s) (gLEARN_68 : P pLEARN 68) (gLEARN_44 : P pLEARN 44) (gLEARN_16 : P pLEARN 16) (gBATID_any : ∀ o, o < 256 → P pBATID o) (gGAUGE_40 : P pGAUGE 40) (gGAUGE_32 : P pGAUGE 32) (gGAUGE_44 : P pGAUGE 44) (gGAUGE_48 : P pGAUGE 48) (gGAUGE_52 : P pGAUGE 52) (gGAUGE_60 : P pGAUGE 60) (gGAUGE_56 : P pGAUGE 56) (gGAUGE_100 : P pGAUGE 100) (gGAUGE_88 : P pGAUGE 88) (gGAUGE_96 : P pGAUGE 96) (gGAUGE_92 : P pGAUGE 92) : Same P s0 (State.gaugeCold s) := by
  unfold State.gaugeCold
  extract_lets -merge -underBinder +onlyGivenNames x0 x1 x2 x3
  have hx3 : Same P s0 x3 := Same.mk' hk
  try clear_value x3
  extract_lets -merge -underBinder +onlyGivenNames x4
  have hx4 : Same P s0 x4 := State.bump_same _ _ _ (State.put_same _ _ _ (State.put_same _ _ _ hx3 gLEARN_44) gLEARN_44) gLEARN_68
  try clear_value x4
  extract_lets -merge -underBinder +onlyGivenNames x5
  have hx5 : Same P s0 x5 := Same.ite (fun _ => State.raise_same _ _ hx4 gLEARN_16) (fun _ => hx3)
  try clear_value x5
  extract_lets -merge -underBinder +onlyGivenNames x6
  have hx6 : Same P s0 x6 := State.winLoad_same hx5 (fun o ho => gBATID_any o ho)
  try clear_value x6
  exact Same.ite (fun _ => State.packLoad_same hx6 gGAUGE_40 gGAUGE_32 gGAUGE_44 gGAUGE_48 gGAUGE_52 gGAUGE_60 gGAUGE_56 gGAUGE_100 gGAUGE_88 gGAUGE_96 gLEARN_44 gGAUGE_92 (gBATID_any _ (by decide))) (fun _ => hx6)

theorem State.tsBid_same (temp : ℤ) (bid : ℕ) (hk : Same P s0 s) (gGAUGE_12 : P pGAUGE 12) (gGAUGE_84 : P pGAUGE 84) (gGAUGE_16 : P pGAUGE 16) (gLEARN_68 : P pLEARN 68) (gLEARN_44 : P pLEARN 44) (gLEARN_16 : P pLEARN 16) (gBATID_36 : P pBATID 36) : Same P s0 (State.tsBid s temp bid) := by
  unfold State.tsBid
  extract_lets -merge -underBinder +onlyGivenNames x0 x1 x2 x3 x4
  have hx4 : Same P s0 x4 := State.putB_same _ _ _ (State.putB_same _ _ _ hk gGAUGE_12) gGAUGE_12
  try clear_value x4
  extract_lets -merge -underBinder +onlyGivenNames x5
  have hx5 : Same P s0 x5 := State.put_same _ _ _ hx4 gGAUGE_84
  try clear_value x5
  extract_lets -merge -underBinder +onlyGivenNames x6
  have hx6 : Same P s0 x6 := State.raise_same _ _ hx5 gGAUGE_16
  try clear_value x6
  extract_lets -merge -underBinder +onlyGivenNames x7
  have hx7 : Same P s0 x7 := State.modGauge_same _ hx6
  try clear_value x7
  extract_lets -merge -underBinder +onlyGivenNames x8
  have hx8 : Same P s0 x8 := Same.ite (fun _ => Same.ite (fun _ => State.disqualify_same _ hx7 gLEARN_68 gLEARN_44 gLEARN_16) (fun _ => hx7)) (fun _ => hx5)
  try clear_value x8
  extract_lets -merge -underBinder +onlyGivenNames x9
  have hx9 : Same P s0 x9 := State.put_same _ _ _ hx8 gBATID_36
  try clear_value x9
  extract_lets -merge -underBinder +onlyGivenNames x10
  exact State.modGauge_same _ hx9

theorem State.chargeStep_same (hk : Same P s0 s) : Same P s0 (State.chargeStep s).1 := by
  unfold State.chargeStep
  extract_lets -merge -underBinder +onlyGivenNames x0 x1 x2
  refine Same.mkFst ?_
  exact State.modGauge_same _ hk

theorem State.netCount_same (q : ℤ) (hk : Same P s0 s) (gLEARN_52 : P pLEARN 52) : Same P s0 (State.netCount s q) := by
  unfold State.netCount
  extract_lets -merge -underBinder +onlyGivenNames x0
  exact State.modGauge_same _ (State.put_same _ _ _ hk gLEARN_52)

theorem State.chargeTake_same (q : ℤ) (hk : Same P s0 s) (gLEARN_52 : P pLEARN 52) (gLEARN_56 : P pLEARN 56) (gGAUGE_96 : P pGAUGE 96) (gGAUGE_100 : P pGAUGE 100) (gGAUGE_92 : P pGAUGE 92) : Same P s0 (State.chargeTake s q) := by
  unfold State.chargeTake
  extract_lets -merge -underBinder +onlyGivenNames x0
  have hx0 : Same P s0 x0 := Same.ite (fun _ => State.netCount_same _ hk gLEARN_52) (fun _ => hk)
  try clear_value x0
  extract_lets -merge -underBinder +onlyGivenNames x1
  have hx1 : Same P s0 x1 := Same.ite (fun _ => State.put_same _ _ _ hx0 gLEARN_56) (fun _ => hk)
  try clear_value x1
  extract_lets -merge -underBinder +onlyGivenNames x2 x3
  have hx3 : Same P s0 x3 := Same.ite (fun _ => hx1) (fun _ => State.put_same _ _ _ hx1 gGAUGE_96)
  try clear_value x3
  extract_lets -merge -underBinder +onlyGivenNames x4 x5 x6
  have hx6 : Same P s0 x6 := State.put_same _ _ _ (State.put_same _ _ _ hx3 gGAUGE_96) gGAUGE_100
  try clear_value x6
  extract_lets -merge -underBinder +onlyGivenNames x7
  have hx7 : Same P s0 x7 := Same.ite (fun _ => State.put_same _ _ _ hx3 gGAUGE_100) (fun _ => hx3)
  try clear_value x7
  exact Same.ite (fun _ => State.setRm_same _ hx6 gGAUGE_92 gGAUGE_100) (fun _ => State.setRm_same _ hx7 gGAUGE_92 gGAUGE_100)

theorem State.edvCorrect_same (l : ℕ) (hk : Same P s0 s) (gGAUGE_92 : P pGAUGE 92) (gGAUGE_100 : P pGAUGE 100) : Same P s0 (State.edvCorrect s l) := by
  unfold State.edvCorrect
  exact Same.ite (fun _ => State.setRm_same _ hk gGAUGE_92 gGAUGE_100) (fun _ => hk)

theorem State.edv2Confirm_same (hk : Same P s0 s) (gGAUGE_92 : P pGAUGE 92) (gGAUGE_100 : P pGAUGE 100) (gLEARN_68 : P pLEARN 68) (gLEARN_44 : P pLEARN 44) (gLEARN_16 : P pLEARN 16) (gGAUGE_88 : P pGAUGE 88) (gGAUGE_96 : P pGAUGE 96) (gLEARN_64 : P pLEARN 64) (gLEARN_72 : P pLEARN 72) : Same P s0 (State.edv2Confirm s) := by
  unfold State.edv2Confirm
  refine Same.ite (fun _ => ?_) (fun _ => ?_)
  · exact State.edvCorrect_same _ hk gGAUGE_92 gGAUGE_100
  · split
    · exact State.edvCorrect_same _ (State.disqualify_same _ hk gLEARN_68 gLEARN_44 gLEARN_16) gGAUGE_92 gGAUGE_100
    · extract_lets -merge -underBinder +onlyGivenNames x0
      extract_lets -merge -underBinder +onlyGivenNames x1 x2
      exact Same.ite (fun _ => State.learnTake_same _ _ hk gGAUGE_88 gLEARN_44 gGAUGE_100 gGAUGE_96 gGAUGE_92 gLEARN_64 gLEARN_68 gLEARN_16 gLEARN_72) (fun _ => State.edvCorrect_same _ (State.disqualify_same _ hk gLEARN_68 gLEARN_44 gLEARN_16) gGAUGE_92 gGAUGE_100)

theorem State.edv0Confirm_same (hk : Same P s0 s) (gGAUGE_100 : P pGAUGE 100) (gGAUGE_92 : P pGAUGE 92) (gGAUGE_88 : P pGAUGE 88) (gLEARN_44 : P pLEARN 44) (gGAUGE_96 : P pGAUGE 96) (gLEARN_64 : P pLEARN 64) (gLEARN_68 : P pLEARN 68) (gLEARN_16 : P pLEARN 16) (gLEARN_72 : P pLEARN 72) (gGAUGE_16 : P pGAUGE 16) : Same P s0 (State.edv0Confirm s) := by
  unfold State.edv0Confirm
  extract_lets -merge -underBinder +onlyGivenNames x0 x1 x2 x3 x4
  have hx4 : Same P s0 x4 := State.put_same _ _ _ (State.setRm_same _ hk gGAUGE_92 gGAUGE_100) gGAUGE_100
  try clear_value x4
  extract_lets -merge -underBinder +onlyGivenNames x5
  have hx5 : Same P s0 x5 := Same.ite (fun _ => State.learnTake_same _ _ hx4 gGAUGE_88 gLEARN_44 gGAUGE_100 gGAUGE_96 gGAUGE_92 gLEARN_64 gLEARN_68 gLEARN_16 gLEARN_72) (fun _ => State.put_same _ _ _ (State.put_same _ _ _ (State.put_same _ _ _ hx4 gGAUGE_88) gGAUGE_96) gGAUGE_100)
  try clear_value x5
  exact Same.ite (fun _ => State.raise_same _ _ hx5 gGAUGE_16) (fun _ => State.edvCorrect_same _ hk gGAUGE_92 gGAUGE_100)

theorem State.edvRun_same (vcomp : ℤ) (k : Fin 3) (hk : Same P s0 s) (gGAUGE_16 : P pGAUGE 16) (gGAUGE_92 : P pGAUGE 92) (gGAUGE_100 : P pGAUGE 100) (gLEARN_68 : P pLEARN 68) (gLEARN_44 : P pLEARN 44) (gLEARN_16 : P pLEARN 16) (gGAUGE_88 : P pGAUGE 88) (gGAUGE_96 : P pGAUGE 96) (gLEARN_64 : P pLEARN 64) (gLEARN_72 : P pLEARN 72) : Same P s0 (State.edvRun s vcomp k) := by
  unfold State.edvRun
  split
  · extract_lets -merge -underBinder +onlyGivenNames x0
    extract_lets -merge -underBinder +onlyGivenNames x1
    have hx1 : Same P s0 x1 := Same.ite (fun _ => State.modGauge_same _ hk) (fun _ => hk)
    try clear_value x1
    extract_lets -merge -underBinder +onlyGivenNames x2 x3 x4
    have hx4 : Same P s0 x4 := State.modGauge_same _ hx1
    try clear_value x4
    extract_lets -merge -underBinder +onlyGivenNames x5
    have hx5 : Same P s0 x5 := State.modGauge_same _ hx4
    try clear_value x5
    extract_lets -merge -underBinder +onlyGivenNames x6
    have hx6 : Same P s0 x6 := State.raiseBits_same _ _ hx5 gGAUGE_16
    try clear_value x6
    refine Same.ite (fun _ => ?_) (fun _ => ?_)
    · exact hx4
    · split
      · exact State.edv2Confirm_same hx6 gGAUGE_92 gGAUGE_100 gLEARN_68 gLEARN_44 gLEARN_16 gGAUGE_88 gGAUGE_96 gLEARN_64 gLEARN_72
      · exact State.edvCorrect_same _ hx6 gGAUGE_92 gGAUGE_100
      · exact State.edv0Confirm_same hx6 gGAUGE_100 gGAUGE_92 gGAUGE_88 gLEARN_44 gGAUGE_96 gLEARN_64 gLEARN_68 gLEARN_16 gLEARN_72 gGAUGE_16

theorem State.endOfCharge_same (hk : Same P s0 s) (gGAUGE_16 : P pGAUGE 16) (gGAUGE_100 : P pGAUGE 100) (gLEARN_48 : P pLEARN 48) (gLEARN_56 : P pLEARN 56) (gLEARN_52 : P pLEARN 52) (gLEARN_44 : P pLEARN 44) (gLEARN_60 : P pLEARN 60) (gLEARN_16 : P pLEARN 16) (gLEARN_68 : P pLEARN 68) (gGAUGE_92 : P pGAUGE 92) : Same P s0 (State.endOfCharge s) := by
  unfold State.endOfCharge
  extract_lets -merge -underBinder +onlyGivenNames x0
  have hx0 : Same P s0 x0 := State.raise_same _ _ (State.put_same _ _ _ hk gGAUGE_100) gGAUGE_16
  try clear_value x0
  extract_lets -merge -underBinder +onlyGivenNames x1
  have hx1 : Same P s0 x1 := Same.ite (fun _ => hx0) (fun _ => State.setValid_same hx0 gGAUGE_100 gGAUGE_16)
  try clear_value x1
  extract_lets -merge -underBinder +onlyGivenNames x2
  have hx2 : Same P s0 x2 := State.modGauge_same _ hx1
  try clear_value x2
  exact State.learnStart_same _ (State.setRm_same _ hx2 gGAUGE_92 gGAUGE_100) gLEARN_48 gLEARN_56 gLEARN_52 gLEARN_44 gLEARN_60 gLEARN_16 gLEARN_68

theorem State.eocRun_same (vcomp : ℤ) (hk : Same P s0 s) (gGAUGE_16 : P pGAUGE 16) (gGAUGE_100 : P pGAUGE 100) (gLEARN_48 : P pLEARN 48) (gLEARN_56 : P pLEARN 56) (gLEARN_52 : P pLEARN 52) (gLEARN_44 : P pLEARN 44) (gLEARN_60 : P pLEARN 60) (gLEARN_16 : P pLEARN 16) (gLEARN_68 : P pLEARN 68) (gGAUGE_92 : P pGAUGE 92) : Same P s0 (State.eocRun s vcomp).1 := by
  unfold State.eocRun
  extract_lets -merge -underBinder +onlyGivenNames x0 x1 x2 x3 x4 x5 x6 x7 x8
  have hx8 : Same P s0 x8 := Same.ite (fun _ => State.modGauge_same _ hk) (fun _ => hk)
  try clear_value x8
  refine Same.iteFst (fun _ => ?_) (fun _ => ?_)
  · refine Same.mkFst ?_
    exact hk
  · refine Same.iteFst (fun _ => ?_) (fun _ => ?_)
    · refine Same.iteFst (fun _ => ?_) (fun _ => ?_)
      · refine Same.mkFst ?_
        exact State.endOfCharge_same hx8 gGAUGE_16 gGAUGE_100 gLEARN_48 gLEARN_56 gLEARN_52 gLEARN_44 gLEARN_60 gLEARN_16 gLEARN_68 gGAUGE_92
      · refine Same.mkFst ?_
        exact hx8
    · refine Same.iteFst (fun _ => ?_) (fun _ => ?_)
      · refine Same.mkFst ?_
        exact State.modGauge_same _ (State.endOfCharge_same hk gGAUGE_16 gGAUGE_100 gLEARN_48 gLEARN_56 gLEARN_52 gLEARN_44 gLEARN_60 gLEARN_16 gLEARN_68 gGAUGE_92)
      · refine Same.mkFst ?_
        exact State.modGauge_same _ hk

theorem State.ocvRun_same (eoc : Bool) (hk : Same P s0 s) (gGAUGE_92 : P pGAUGE 92) (gGAUGE_100 : P pGAUGE 100) (gGAUGE_16 : P pGAUGE 16) (gLEARN_48 : P pLEARN 48) (gLEARN_56 : P pLEARN 56) (gLEARN_52 : P pLEARN 52) (gLEARN_44 : P pLEARN 44) (gLEARN_60 : P pLEARN 60) (gLEARN_16 : P pLEARN 16) (gLEARN_68 : P pLEARN 68) : Same P s0 (State.ocvRun s eoc) := by
  unfold State.ocvRun
  extract_lets -merge -underBinder +onlyGivenNames x0
  have hx0 : Same P s0 x0 := Same.ite (fun _ => State.modGauge_same _ hk) (fun _ => hk)
  try clear_value x0
  extract_lets -merge -underBinder +onlyGivenNames x1 x2
  refine Same.ite (fun _ => ?_) (fun _ => ?_)
  · exact State.modGauge_same _ hk
  · split
    · exact hx0
    · extract_lets -merge -underBinder +onlyGivenNames x3
      extract_lets -merge -underBinder +onlyGivenNames x4 x5 x6 x7 x8
      have hx8 : Same P s0 x8 := Same.ite (fun _ => State.setRm_same _ hx0 gGAUGE_92 gGAUGE_100) (fun _ => hx0)
      try clear_value x8
      extract_lets -merge -underBinder +onlyGivenNames x9
      have hx9 : Same P s0 x9 := Same.ite (fun _ => State.setValid_same (State.put_same _ _ _ hx8 gGAUGE_100) gGAUGE_100 gGAUGE_16) (fun _ => hx8)
      try clear_value x9
      extract_lets -merge -underBinder +onlyGivenNames x10
      have hx10 : Same P s0 x10 := State.modGauge_same _ hx9
      try clear_value x10
      exact Same.ite (fun _ => hx0) (fun _ => Same.ite (fun _ => State.learnStart_same _ hx10 gLEARN_48 gLEARN_56 gLEARN_52 gLEARN_44 gLEARN_60 gLEARN_16 gLEARN_68) (fun _ => hx10))

theorem State.socRun_same (hk : Same P s0 s) (gGAUGE_100 : P pGAUGE 100) : Same P s0 (State.socRun s) := by
  unfold State.socRun
  extract_lets -merge -underBinder +onlyGivenNames x0 x1 x2 x3 x4 x5 x6 x7 x8 x9 x10
  have hx10 : Same P s0 x10 := Same.ite (fun _ => State.modGauge_same _ hk) (fun _ => hk)
  try clear_value x10
  exact Same.ite (fun _ => hk) (fun _ => State.put_same _ _ _ hx10 gGAUGE_100)

theorem State.fullCheck_same (hk : Same P s0 s) (gGAUGE_100 : P pGAUGE 100) : Same P s0 (State.fullCheck s) := by
  unfold State.fullCheck
  exact Same.ite (fun _ => State.put_same _ _ _ hk gGAUGE_100) (fun _ => hk)

theorem State.gaugeRun_same (hk : Same P s0 s) (gGAUGE_100 : P pGAUGE 100) (gLEARN_52 : P pLEARN 52) (gLEARN_56 : P pLEARN 56) (gGAUGE_96 : P pGAUGE 96) (gGAUGE_92 : P pGAUGE 92) (gLEARN_68 : P pLEARN 68) (gLEARN_44 : P pLEARN 44) (gLEARN_16 : P pLEARN 16) (gGAUGE_104 : P pGAUGE 104) (gGAUGE_16 : P pGAUGE 16) (gGAUGE_88 : P pGAUGE 88) (gLEARN_64 : P pLEARN 64) (gLEARN_72 : P pLEARN 72) (gLEARN_48 : P pLEARN 48) (gLEARN_60 : P pLEARN 60) (gGAUGE_108 : P pGAUGE 108) : Same P s0 (State.gaugeRun s) := by
  unfold State.gaugeRun
  extract_lets -merge -underBinder +onlyGivenNames x0
  have hx0 : Same P s0 x0.1 := by
    refine Same.ofEq ?_ (State.chargeStep_same hk)
    exact rfl
  try clear_value x0
  extract_lets -merge -underBinder +onlyGivenNames x1
  have hx1 : Same P s0 x1 := hx0
  try clear_value x1
  extract_lets -merge -underBinder +onlyGivenNames x2 x3
  have hx3 : Same P s0 x3 := State.modGauge_same _ hx1
  try clear_value x3
  extract_lets -merge -underBinder +onlyGivenNames x4
  have hx4 : Same P s0 x4 := Same.ite (fun _ => Same.ite (fun _ => State.put_same _ _ _ hx3 gGAUGE_100) (fun _ => hx3)) (fun _ => State.modGauge_same _ hx1)
  try clear_value x4
  extract_lets -merge -underBinder +onlyGivenNames x5
  have hx5 : Same P s0 x5 := State.chargeTake_same _ hx4 gLEARN_52 gLEARN_56 gGAUGE_96 gGAUGE_100 gGAUGE_92
  try clear_value x5
  extract_lets -merge -underBinder +onlyGivenNames x6
  have hx6 : Same P s0 x6 := State.fullCheck_same hx5 gGAUGE_100
  try clear_value x6
  extract_lets -merge -underBinder +onlyGivenNames x7
  have hx7 : Same P s0 x7 := State.put_same _ _ _ (State.setRm_same _ hx6 gGAUGE_92 gGAUGE_100) gGAUGE_100
  try clear_value x7
  extract_lets -merge -underBinder +onlyGivenNames x8
  have hx8 : Same P s0 x8 := by
    unfold x8
    refine Same.ite (fun _ => ?_) (fun _ => ?_)
    · split
      · exact State.disqualify_same _ hx7 gLEARN_68 gLEARN_44 gLEARN_16
      · exact hx7
    · exact hx7
  try clear_value x8
  extract_lets -merge -underBinder +onlyGivenNames x9 x10
  have hx10 : Same P s0 x10 := State.put_same _ _ _ hx8 gGAUGE_104
  try clear_value x10
  extract_lets -merge -underBinder +onlyGivenNames x11
  have hx11 : Same P s0 x11 := foldl_same _ hx10 (fun _ _ _ h12 => State.edvRun_same _ _ h12 gGAUGE_16 gGAUGE_92 gGAUGE_100 gLEARN_68 gLEARN_44 gLEARN_16 gGAUGE_88 gGAUGE_96 gLEARN_64 gLEARN_72)
  try clear_value x11
  extract_lets -merge -underBinder +onlyGivenNames x13
  have hx13 : Same P s0 x13.1 := by
    refine Same.ofEq ?_ (State.eocRun_same ?_ hx11 gGAUGE_16 gGAUGE_100 gLEARN_48 gLEARN_56 gLEARN_52 gLEARN_44 gLEARN_60 gLEARN_16 gLEARN_68 gGAUGE_92)
    exact rfl
  try clear_value x13
  extract_lets -merge -underBinder +onlyGivenNames x14
  have hx14 : Same P s0 x14 := State.ocvRun_same _ hx13 gGAUGE_92 gGAUGE_100 gGAUGE_16 gLEARN_48 gLEARN_56 gLEARN_52 gLEARN_44 gLEARN_60 gLEARN_16 gLEARN_68
  try clear_value x14
  extract_lets -merge -underBinder +onlyGivenNames x15
  have hx15 : Same P s0 x15 := State.put_same _ _ _ hx14 gGAUGE_100
  try clear_value x15
  extract_lets -merge -underBinder +onlyGivenNames x16
  have hx16 : Same P s0 x16 := State.socRun_same (State.fullCheck_same hx15 gGAUGE_100) gGAUGE_100
  try clear_value x16
  extract_lets -merge -underBinder +onlyGivenNames x17
  have hx17 : Same P s0 x17 := State.put_same _ _ _ hx16 gGAUGE_108
  try clear_value x17
  extract_lets -merge -underBinder +onlyGivenNames x18
  have hx18 : Same P s0 x18 := State.put_same _ _ _ hx17 gGAUGE_108
  try clear_value x18
  exact State.gaugeSave_same hx18

theorem State.nvdRun_same (op : NvdOp) (verifyOk : Bool) (hk : Same P s0 s) (gNVD_44 : P pNVD 44) (gNVD_16 : P pNVD 16) (gNVD_52 : P pNVD 52) (gSTORE_16 : P pSTORE 16) (gSTORE_40 : P pSTORE 40) (gSTORE_44 : P pSTORE 44) (gBANK_any : ∀ o, o < 256 → P pBANK o) (gSTORE_48 : P pSTORE 48) (gSTORE_12 : P pSTORE 12) (gNVD_40 : P pNVD 40) : Same P s0 (State.nvdRun s op verifyOk).1 := by
  unfold State.nvdRun
  extract_lets -merge -underBinder +onlyGivenNames x0
  have hx0 : Same P s0 x0 := State.nvdStart_same _ hk gNVD_44 gNVD_16
  try clear_value x0
  extract_lets -merge -underBinder +onlyGivenNames x1
  have hx1 : Same P s0 x1 := Same.ite (fun _ => State.nvdFinish_same _ hx0 gNVD_44 gNVD_16 gNVD_52 gSTORE_16 gSTORE_40 gSTORE_44 (fun o ho => gBANK_any o ho) gSTORE_48 gSTORE_12 gNVD_40) (fun _ => hx0)
  try clear_value x1
  refine Same.iteFst (fun _ => ?_) (fun _ => ?_)
  · refine Same.mkFst ?_
    exact hk
  · refine Same.mkFst ?_
    exact hx1

theorem State.gaugePost_same (hk : Same P s0 s) : Same P s0 (State.gaugePost s) := by
  unfold State.gaugePost
  exact Same.ite (fun _ => State.postGlobal_same _ _ _ _ _ hk) (fun _ => hk)

theorem State.learnAbort_same (hk : Same P s0 s) (gLEARN_68 : P pLEARN 68) (gLEARN_44 : P pLEARN 44) (gLEARN_16 : P pLEARN 16) : Same P s0 (State.learnAbort s) := by
  unfold State.learnAbort
  exact Same.ite (fun _ => State.disqualify_same _ hk gLEARN_68 gLEARN_44 gLEARN_16) (fun _ => hk)

theorem State.learnForget_same (hk : Same P s0 s) (gLEARN_68 : P pLEARN 68) (gLEARN_44 : P pLEARN 44) (gLEARN_16 : P pLEARN 16) (gGAUGE_100 : P pGAUGE 100) (gGAUGE_88 : P pGAUGE 88) (gLEARN_72 : P pLEARN 72) (gGAUGE_92 : P pGAUGE 92) : Same P s0 (State.learnForget s) := by
  unfold State.learnForget
  extract_lets -merge -underBinder +onlyGivenNames x0
  have hx0 : Same P s0 x0 := Same.ite (fun _ => State.disqualify_same _ hk gLEARN_68 gLEARN_44 gLEARN_16) (fun _ => hk)
  try clear_value x0
  extract_lets -merge -underBinder +onlyGivenNames x1
  have hx1 : Same P s0 x1 := State.put_same _ _ _ (State.put_same _ _ _ hx0 gGAUGE_88) gGAUGE_100
  try clear_value x1
  exact State.modGauge_same _ (State.put_same _ _ _ (State.setRm_same _ hx1 gGAUGE_92 gGAUGE_100) gLEARN_72)

theorem State.gaugeTick_same (hk : Same P s0 s) (gLEARN_16 : P pLEARN 16) : Same P s0 (State.gaugeTick s) := by
  unfold State.gaugeTick
  extract_lets -merge -underBinder +onlyGivenNames x0
  have hx0 : Same P s0 x0 := Same.ite (fun _ => State.gaugePost_same hk) (fun _ => hk)
  try clear_value x0
  extract_lets -merge -underBinder +onlyGivenNames x1
  have hx1 : Same P s0 x1 := State.raiseIf_same _ _ _ hx0 gLEARN_16
  try clear_value x1
  exact Same.ite (fun _ => State.postGlobal_same _ _ _ _ _ hx1) (fun _ => hx0)

theorem State.notSupported_same (n : Port) (hk : Same P s0 s) (gPDL_16 : P (pPDL n) 16) : Same P s0 (State.notSupported s n) := by
  unfold State.notSupported
  exact State.fwSend_same _ _ _ _ _ hk gPDL_16

theorem State.batteryCaps_same (n : Port) (ref : ℕ) (hk : Same P s0 s) (gPDL_16 : P (pPDL n) 16) : Same P s0 (State.batteryCaps s n ref) := by
  unfold State.batteryCaps
  extract_lets -merge -underBinder +onlyGivenNames x0 x1 x2 x3
  exact State.fwSendExt_same _ _ _ hk gPDL_16

theorem State.batteryStatus_same (n : Port) (ref : ℕ) (hk : Same P s0 s) (gPDL_16 : P (pPDL n) 16) : Same P s0 (State.batteryStatus s n ref) := by
  unfold State.batteryStatus
  extract_lets -merge -underBinder +onlyGivenNames x0 x1 x2
  exact State.fwSend_same _ _ _ _ _ hk gPDL_16

theorem State.status_same (n : Port) (hk : Same P s0 s) (gPDL_16 : P (pPDL n) 16) : Same P s0 (State.status s n) := by
  unfold State.status
  extract_lets -merge -underBinder +onlyGivenNames x0 x1 x2 x3 x4 x5
  exact State.modFw_same _ _ (State.fwSendExt_same _ _ _ hk gPDL_16)

theorem State.ppsStatus_same (n : Port) (hk : Same P s0 s) (gPDL_16 : P (pPDL n) 16) : Same P s0 (State.ppsStatus s n) := by
  unfold State.ppsStatus
  extract_lets -merge -underBinder +onlyGivenNames x0 x1 x2
  exact State.fwSendExt_same _ _ _ hk gPDL_16

theorem State.srcCapExt_same (n : Port) (hk : Same P s0 s) (gPDL_16 : P (pPDL n) 16) : Same P s0 (State.srcCapExt s n) := by
  unfold State.srcCapExt
  exact State.fwSendExt_same _ _ _ hk gPDL_16

theorem State.answer_same (n : Port) (h : ℕ) (ref : ℕ) (unchunked : Bool) (hk : Same P s0 s) (gPDL_16 : P (pPDL n) 16) : Same P s0 (State.answer s n h ref unchunked) := by
  unfold State.answer
  extract_lets -merge -underBinder +onlyGivenNames x0 x1 x2 x3
  exact Same.ite (fun _ => State.notSupported_same _ hk gPDL_16) (fun _ => Same.ite (fun _ => Same.ite (fun _ => State.batteryCaps_same _ _ hk gPDL_16) (fun _ => State.notSupported_same _ hk gPDL_16)) (fun _ => Same.ite (fun _ => Same.ite (fun _ => State.batteryStatus_same _ _ hk gPDL_16) (fun _ => State.notSupported_same _ hk gPDL_16)) (fun _ => Same.ite (fun _ => Same.ite (fun _ => State.notSupported_same _ hk gPDL_16) (fun _ => State.status_same _ hk gPDL_16)) (fun _ => Same.ite (fun _ => Same.ite (fun _ => State.notSupported_same _ hk gPDL_16) (fun _ => State.srcCapExt_same _ hk gPDL_16)) (fun _ => Same.ite (fun _ => Same.ite (fun _ => State.notSupported_same _ hk gPDL_16) (fun _ => State.ppsStatus_same _ hk gPDL_16)) (fun _ => Same.ite (fun _ => Same.ite (fun _ => State.notSupported_same _ hk gPDL_16) (fun _ => State.advertise_same _ hk gPDL_16)) (fun _ => Same.ite (fun _ => Same.ite (fun _ => State.notSupported_same _ hk gPDL_16) (fun _ => State.fwSend_same _ _ _ _ _ hk gPDL_16)) (fun _ => Same.ite (fun _ => Same.ite (fun _ => State.notSupported_same _ hk gPDL_16) (fun _ => State.fwSendExt_same _ _ _ hk gPDL_16)) (fun _ => Same.ite (fun _ => State.fwSend_same _ _ _ _ _ hk gPDL_16) (fun _ => Same.ite (fun _ => State.fwSendExt_same _ _ _ hk gPDL_16) (fun _ => Same.ite (fun _ => hk) (fun _ => Same.ite (fun _ => State.advertise_same _ hk gPDL_16) (fun _ => Same.ite (fun _ => State.notSupported_same _ hk gPDL_16) (fun _ => Same.ite (fun _ => State.notSupported_same _ hk gPDL_16) (fun _ => Same.ite (fun _ => State.notSupported_same _ hk gPDL_16) (fun _ => hk))))))))))))))))

theorem State.bootShow_same (hk : Same P s0 s) (gBOOT_32 : P pBOOT 32) (gUPD_36 : P pUPD 36) : Same P s0 (State.bootShow s) := by
  unfold State.bootShow
  extract_lets -merge -underBinder +onlyGivenNames x0 x1 x2
  have hx2 : Same P s0 x2 := State.put_same _ _ _ (State.put_same _ _ _ hk gBOOT_32) gBOOT_32
  try clear_value x2
  exact State.putB_same _ _ _ (State.put_same _ _ _ hx2 gBOOT_32) gUPD_36

theorem State.bootWrite_same (f : BootRec → BootRec) (hk : Same P s0 s) (gBOOT_32 : P pBOOT 32) (gUPD_36 : P pUPD 36) (gNVD_52 : P pNVD 52) : Same P s0 (State.bootWrite s f) := by
  unfold State.bootWrite
  extract_lets -merge -underBinder +onlyGivenNames x0
  exact State.bootShow_same (State.nvdCommit_same _ _ _ (Same.mk' hk) gNVD_52) gBOOT_32 gUPD_36

theorem State.bootDecide_same (f : BootRec → BootRec) (hk : Same P s0 s) (gBOOT_32 : P pBOOT 32) (gUPD_36 : P pUPD 36) (gNVD_52 : P pNVD 52) : Same P s0 (State.bootDecide s f) := by
  unfold State.bootDecide
  exact Same.ite (fun _ => State.bootWrite_same _ hk gBOOT_32 gUPD_36 gNVD_52) (fun _ => State.bootShow_same (Same.mk' hk) gBOOT_32 gUPD_36)

theorem State.stZero_same (a : ℕ) (n : ℕ) (hk : Same P s0 s) : Same P s0 (State.stZero s a n) := by
  unfold State.stZero
  extract_lets -merge -underBinder +onlyGivenNames x0
  exact Same.mk' hk

theorem State.mapPut_same (a : ℕ) (i : ℕ) (b : Bool) (hk : Same P s0 s) : Same P s0 (State.mapPut s a i b) := by
  unfold State.mapPut
  exact State.stPut_same _ _ _ hk

theorem State.sectorClear_same (k : ℕ) (hk : Same P s0 s) : Same P s0 (State.sectorClear s k) := by
  unfold State.sectorClear
  exact State.mapPut_same _ _ _ (State.stZero_same _ _ hk)

theorem State.updResult_same (code : ℕ) (hk : Same P s0 s) (gUPD_16 : P pUPD 16) (gUPD_36 : P pUPD 36) : Same P s0 (State.updResult s code) := by
  unfold State.updResult
  exact State.raise_same _ _ (State.put_same _ _ _ hk gUPD_36) gUPD_16

theorem State.updPost_same (hk : Same P s0 s) : Same P s0 (State.updPost s) := by
  unfold State.updPost
  exact Same.ite (fun _ => State.postGlobal_same _ _ _ _ _ hk) (fun _ => hk)

theorem State.sessEnd_same (hk : Same P s0 s) (gUPD_36 : P pUPD 36) : Same P s0 (State.sessEnd s) := by
  unfold State.sessEnd
  extract_lets -merge -underBinder +onlyGivenNames x0
  have hx0 : Same P s0 x0 := State.put_same _ _ _ hk gUPD_36
  try clear_value x0
  exact Same.mk' hx0

theorem State.sessOpen_same (src : ℕ) (hk : Same P s0 s) (gBOOT_32 : P pBOOT 32) (gUPD_36 : P pUPD 36) (gNVD_52 : P pNVD 52) : SameO P s0 (State.sessOpen s src) := by
  unfold State.sessOpen
  extract_lets -merge -underBinder +onlyGivenNames x0 x1
  have hx1 : Same P s0 x1 := Same.ite (fun _ => hk) (fun _ => State.bootDecide_same _ hk gBOOT_32 gUPD_36 gNVD_52)
  try clear_value x1
  extract_lets -merge -underBinder +onlyGivenNames x2 x3
  have hx3 : Same P s0 x3 := State.nvdErasePage_same _ (State.nvdErasePage_same _ hx1 gNVD_52) gNVD_52
  try clear_value x3
  refine SameO.ite (fun _ => ?_) (fun _ => ?_)
  · refine SameO.some ?_
    exact State.put_same _ _ _ (State.stZero_same _ _ (State.stZero_same _ _ hx3)) gUPD_36
  · exact SameO.none

theorem State.updWord_same (b : Bool) (w : ℕ) (v : Word) (bad : Option Bool) (hk : Same P s0 s) (gSTORE_16 : P pSTORE 16) (gSTORE_40 : P pSTORE 40) (gSTORE_44 : P pSTORE 44) (gBANK_any : ∀ o, o < 256 → P pBANK o) (gSTORE_48 : P pSTORE 48) (gSTORE_12 : P pSTORE 12) (gBOOT_32 : P pBOOT 32) (gFLASH_60 : P pFLASH 60) (gFLASH_16 : P pFLASH 16) (gSUP_16 : P pSUP 16) : Same P s0 (State.updWord s b w v bad).1 := by
  unfold State.updWord
  extract_lets -merge -underBinder +onlyGivenNames x0 x1 x2
  have hx2 : Same P s0 x2 := Same.ite (fun _ => State.sectorClear_same _ (State.stNote_same _ _ _ hk gSTORE_16 gSTORE_40 gSTORE_44 (fun o ho => gBANK_any o ho) gSTORE_48 gSTORE_12)) (fun _ => hk)
  try clear_value x2
  extract_lets -merge -underBinder +onlyGivenNames x3
  have hx3 : Same P s0 x3 := State.put_same _ _ _ hx2 gBOOT_32
  try clear_value x3
  extract_lets -merge -underBinder +onlyGivenNames x4
  have hx4 : Same P s0 x4.1 := by
    unfold x4
    refine Same.iteFst (fun _ => ?_) (fun _ => ?_)
    · refine Same.mkFst ?_
      exact hx3
    · refine Same.iteFst (fun _ => ?_) (fun _ => ?_)
      · refine Same.mkFst ?_
        exact hx3
      · refine Same.iteFst (fun _ => ?_) (fun _ => ?_)
        · refine Same.mkFst ?_
          exact State.eraseAbort_same _ (State.sectorClear_same _ hx3) gFLASH_60 gFLASH_16 gSUP_16
        · refine Same.mkFst ?_
          exact State.mapPut_same _ _ _ (State.codeErase_same _ hx3)
  try clear_value x4
  extract_lets -merge -underBinder +onlyGivenNames x5
  have hx5 : Same P s0 x5 := hx4
  try clear_value x5
  refine Same.iteFst (fun _ => ?_) (fun _ => ?_)
  · refine Same.iteFst (fun _ => ?_) (fun _ => ?_)
    · refine Same.mkFst ?_
      exact hx2
    · refine Same.mkFst ?_
      exact hx2
  · refine Same.iteFst (fun _ => ?_) (fun _ => ?_)
    · refine Same.mkFst ?_
      exact hx5
    · refine Same.iteFst (fun _ => ?_) (fun _ => ?_)
      · refine Same.mkFst ?_
        exact State.freshen_same (State.codeProgram_same _ _ hx5)
      · refine Same.mkFst ?_
        exact State.mapPut_same _ _ _ (State.codeProgram_same _ _ hx5)

theorem State.updWords_same (b : Bool) (bad : Option (ℕ × Bool)) (i w : ℕ) (l : List Word) (hk : Same P s0 s) (gSTORE_16 : P pSTORE 16) (gSTORE_40 : P pSTORE 40)
    (gSTORE_44 : P pSTORE 44) (gBANK_any : ∀ o, o < 256 → P pBANK o) (gSTORE_48 : P pSTORE 48) (gSTORE_12 : P pSTORE 12) (gBOOT_32 : P pBOOT 32)
    (gFLASH_60 : P pFLASH 60) (gFLASH_16 : P pFLASH 16) (gSUP_16 : P pSUP 16) :
    Same P s0 (State.updWords s b bad i w l).1 := by
  induction l generalizing s i w with
  | nil => exact hk
  | cons v l ih =>
    have h (bad) := State.updWord_same b w v bad hk gSTORE_16 gSTORE_40 gSTORE_44 gBANK_any gSTORE_48 gSTORE_12 gBOOT_32 gFLASH_60 gFLASH_16 gSUP_16
    unfold State.updWords
    extract_lets -merge -underBinder +onlyGivenNames x0
    split
    · exact ih _ _ (h _)
    · exact h _

theorem State.updBlock_same (src : ℕ) (off : ℕ) (data : List Byte) (bad : Option (ℕ × Bool)) (hk : Same P s0 s) (gBOOT_32 : P pBOOT 32) (gUPD_36 : P pUPD 36) (gNVD_52 : P pNVD 52) (gSTORE_16 : P pSTORE 16) (gSTORE_40 : P pSTORE 40) (gSTORE_44 : P pSTORE 44) (gBANK_any : ∀ o, o < 256 → P pBANK o) (gSTORE_48 : P pSTORE 48) (gSTORE_12 : P pSTORE 12) (gFLASH_60 : P pFLASH 60) (gFLASH_16 : P pFLASH 16) (gSUP_16 : P pSUP 16) : Same P s0 (State.updBlock s src off data bad).1 := by
  unfold State.updBlock
  extract_lets -merge -underBinder +onlyGivenNames x0
  refine Same.iteFst (fun _ => ?_) (fun _ => ?_)
  · refine Same.mkFst ?_
    exact hk
  · refine Same.iteFst (fun _ => ?_) (fun _ => ?_)
    · refine Same.mkFst ?_
      exact hk
    · refine Same.iteFst (fun _ => ?_) (fun _ => ?_)
      · refine Same.mkFst ?_
        exact hk
      · split
        · refine Same.mkFst ?_
          exact hk
        · rename_i y1 e1
          have hy1 : Same P s0 y1 := by
            refine SameO.get ?_ e1
            refine SameO.ite (fun _ => ?_) (fun _ => ?_)
            · refine State.sessOpen_same _ ?_ gBOOT_32 gUPD_36 gNVD_52
              exact hk
            · refine SameO.some ?_
              exact hk
          refine State.updWords_same _ _ _ _ _ ?_ gSTORE_16 gSTORE_40 gSTORE_44 (fun o ho => gBANK_any o ho) gSTORE_48 gSTORE_12 gBOOT_32 gFLASH_60 gFLASH_16 gSUP_16
          exact hy1

theorem State.maskCheck_same (hk : Same P s0 s) (gSTORE_16 : P pSTORE 16) (gSTORE_40 : P pSTORE 40) (gSTORE_44 : P pSTORE 44) (gBANK_any : ∀ o, o < 256 → P pBANK o) (gSTORE_48 : P pSTORE 48) (gSTORE_12 : P pSTORE 12) : Same P s0 (State.maskCheck s) := by
  unfold State.maskCheck
  exact foldl_same _ hk (fun _ _ _ h0 => Same.ite (fun _ => State.sectorClear_same _ (State.stNote_same _ _ _ h0 gSTORE_16 gSTORE_40 gSTORE_44 (fun o ho => gBANK_any o ho) gSTORE_48 gSTORE_12)) (fun _ => h0))

theorem State.updCommit_same (src : ℕ) (hk : Same P s0 s) (gSTORE_16 : P pSTORE 16) (gSTORE_40 : P pSTORE 40) (gSTORE_44 : P pSTORE 44) (gBANK_any : ∀ o, o < 256 → P pBANK o) (gSTORE_48 : P pSTORE 48) (gSTORE_12 : P pSTORE 12) (gUPD_16 : P pUPD 16) (gUPD_36 : P pUPD 36) (gBOOT_32 : P pBOOT 32) (gNVD_52 : P pNVD 52) : Same P s0 (State.updCommit s src).1 := by
  unfold State.updCommit
  extract_lets -merge -underBinder +onlyGivenNames x0
  have hx0 : Same P s0 x0 := State.maskCheck_same hk gSTORE_16 gSTORE_40 gSTORE_44 (fun o ho => gBANK_any o ho) gSTORE_48 gSTORE_12
  try clear_value x0
  extract_lets -merge -underBinder +onlyGivenNames x1
  refine Same.iteFst (fun _ => ?_) (fun _ => ?_)
  · refine Same.mkFst ?_
    exact hk
  · refine Same.iteFst (fun _ => ?_) (fun _ => ?_)
    · refine Same.mkFst ?_
      exact hk
    · refine Same.iteFst (fun _ => ?_) (fun _ => ?_)
      · refine Same.mkFst ?_
        exact hx0
      · refine Same.iteFst (fun _ => ?_) (fun _ => ?_)
        · refine Same.mkFst ?_
          exact hx0
        · refine Same.iteFst (fun _ => ?_) (fun _ => ?_)
          · refine Same.mkFst ?_
            exact hx0
          · refine Same.mkFst ?_
            exact State.raise_same _ _ (State.sessEnd_same (State.bootWrite_same _ hx0 gBOOT_32 gUPD_36 gNVD_52) gUPD_36) gUPD_16

theorem State.warmCause_same (bit : ℕ) (hk : Same P s0 s) : Same P s0 (State.warmCause s bit) := by
  unfold State.warmCause
  exact Same.mk' hk

theorem State.activationReset_same (b : Bool) (hk : Same P s0 s) : Same P s0 (State.activationReset s b) := by
  unfold State.activationReset
  extract_lets -merge -underBinder +onlyGivenNames x0
  have hx0 : Same P s0 x0 := State.warmCause_same _ hk
  try clear_value x0
  exact Same.mk' hx0

theorem State.updActivate_same (hk : Same P s0 s) (gUPD_16 : P pUPD 16) (gUPD_36 : P pUPD 36) : Same P s0 (State.updActivate s) := by
  unfold State.updActivate
  exact Same.ite (fun _ => State.updResult_same _ hk gUPD_16 gUPD_36) (fun _ => Same.ite (fun _ => State.updResult_same _ hk gUPD_16 gUPD_36) (fun _ => State.activationReset_same _ (State.updResult_same _ hk gUPD_16 gUPD_36)))

theorem State.updConfirm_same (switch : Bool) (hk : Same P s0 s) (gUPD_16 : P pUPD 16) (gUPD_36 : P pUPD 36) (gBOOT_32 : P pBOOT 32) (gNVD_52 : P pNVD 52) : Same P s0 (State.updConfirm s switch) := by
  unfold State.updConfirm
  extract_lets -merge -underBinder +onlyGivenNames x0 x1
  have hx1 : Same P s0 x1 := State.bootWrite_same _ hk gBOOT_32 gUPD_36 gNVD_52
  try clear_value x1
  exact Same.ite (fun _ => State.updResult_same _ hk gUPD_16 gUPD_36) (fun _ => Same.ite (fun _ => State.updResult_same _ hk gUPD_16 gUPD_36) (fun _ => State.updResult_same _ (Same.mk' hx1) gUPD_16 gUPD_36))

theorem State.ownerFlag_same (b : Bool) (hk : Same P s0 s) (gUPD_36 : P pUPD 36) (gNVD_52 : P pNVD 52) : Same P s0 (State.ownerFlag s b) := by
  unfold State.ownerFlag
  extract_lets -merge -underBinder +onlyGivenNames x0 x1 x2
  exact State.putB_same _ _ _ (State.nvdCommit_same _ _ _ hk gNVD_52) gUPD_36

theorem State.updOwnerLock_same (hk : Same P s0 s) (gUPD_16 : P pUPD 16) (gUPD_36 : P pUPD 36) (gNVD_52 : P pNVD 52) : Same P s0 (State.updOwnerLock s) := by
  unfold State.updOwnerLock
  exact Same.ite (fun _ => State.updResult_same _ hk gUPD_16 gUPD_36) (fun _ => Same.ite (fun _ => State.updResult_same _ hk gUPD_16 gUPD_36) (fun _ => State.updResult_same _ (State.ownerFlag_same _ hk gUPD_36 gNVD_52) gUPD_16 gUPD_36))

theorem State.tokFail_same (hk : Same P s0 s) : Same P s0 (State.tokFail s) := by
  unfold State.tokFail
  exact Same.mk' hk

theorem State.updChallenge_same (v : BitVec 64) (hk : Same P s0 s) (gUPD_92 : P pUPD 92) (gUPD_88 : P pUPD 88) : Same P s0 (State.updChallenge s v) := by
  unfold State.updChallenge
  extract_lets -merge -underBinder +onlyGivenNames x0 x1
  have hx1 : Same P s0 x1 := Same.mk' hk
  try clear_value x1
  exact State.put_same _ _ _ (State.put_same _ _ _ hx1 gUPD_88) gUPD_92

theorem State.updUnlock_same (hk : Same P s0 s) (gUPD_36 : P pUPD 36) (gUPD_92 : P pUPD 92) (gUPD_88 : P pUPD 88) (gUPD_16 : P pUPD 16) (gNVD_52 : P pNVD 52) : Same P s0 (State.updUnlock s) := by
  unfold State.updUnlock
  extract_lets -merge -underBinder +onlyGivenNames x0 x1 x2
  have hx2 : Same P s0 x2 := Same.mk' hk
  try clear_value x2
  extract_lets -merge -underBinder +onlyGivenNames x3
  have hx3 : Same P s0 x3 := State.put_same _ _ _ (State.put_same _ _ _ (State.put_same _ _ _ hx2 gUPD_88) gUPD_92) gUPD_36
  try clear_value x3
  exact Same.ite (fun _ => State.updResult_same _ (State.tokFail_same hx3) gUPD_16 gUPD_36) (fun _ => Same.ite (fun _ => State.updResult_same _ hx3 gUPD_16 gUPD_36) (fun _ => State.updResult_same _ (State.put_same _ _ _ (State.ownerFlag_same _ hx3 gUPD_36 gNVD_52) gUPD_36) gUPD_16 gUPD_36))

theorem State.distPost_same (hk : Same P s0 s) : Same P s0 (State.distPost s) := by
  unfold State.distPost
  exact State.postGlobal_same _ _ _ _ _ hk

theorem State.updDistribute_same (hk : Same P s0 s) (gUPD_84 : P pUPD 84) (gUPD_80 : P pUPD 80) (gUPD_76 : P pUPD 76) : Same P s0 (State.updDistribute s) := by
  unfold State.updDistribute
  extract_lets -merge -underBinder +onlyGivenNames x0 x1 x2 x3
  have hx3 : Same P s0 x3 := Same.mk' hk
  try clear_value x3
  exact Same.ite (fun _ => hk) (fun _ => State.distPost_same (State.wr_same _ _ _ (State.wr_same _ _ _ (State.put_same _ _ _ (State.put_same _ _ _ (State.put_same _ _ _ (State.put_same _ _ _ hx3 gUPD_76) gUPD_76) gUPD_76) gUPD_76) gUPD_80) gUPD_84))

theorem State.updAbort_same (hk : Same P s0 s) (gUPD_16 : P pUPD 16) (gUPD_36 : P pUPD 36) : Same P s0 (State.updAbort s) := by
  unfold State.updAbort
  exact State.updResult_same _ (State.sessEnd_same hk gUPD_36) gUPD_16 gUPD_36

theorem State.pdlRefuse_same (n : Port) (hk : Same P s0 s) (gPDL_any : ∀ o, o < 256 → P (pPDL n) o) (gVDM_64 : P (pVDM n) 64) (gVDM_16 : P (pVDM n) 16) : Same P s0 (State.pdlRefuse s n) := by
  unfold State.pdlRefuse
  extract_lets -merge -underBinder +onlyGivenNames x0
  have hx0 : Same P s0 x0 := State.txEndAll_same _ _ _ (State.wr_same _ _ _ (State.wr_same _ _ _ hk (gPDL_any _ (by decide))) (gPDL_any _ (by decide))) (fun o ho => gPDL_any o ho) gVDM_64 gVDM_16
  try clear_value x0
  exact State.modPdl_same _ _ (State.reasmDrop_same _ hx0 (fun o ho => gPDL_any o ho))

theorem State.retiredOut_same (n : Port) (was : Bool) (hk : Same P s0 s) (gGUARD_16 : P (pGUARD n) 16) (gCC_16 : P (pCC n) 16) (gCC_12 : P (pCC n) 12) (gPDL_any : ∀ o, o < 256 → P (pPDL n) o) (gVDM_64 : P (pVDM n) 64) (gVDM_16 : P (pVDM n) 16) (gPOL_12 : P (pPOL n) 12) (gPOL_52 : P (pPOL n) 52) (gPOL_16 : P (pPOL n) 16) (gPOL_44 : P (pPOL n) 44) (gGUARD_12 : P (pGUARD n) 12) (gVDM_52 : P (pVDM n) 52) (gSHARE_any : ∀ o, o < 256 → P pSHARE o) (gVDM_96 : P (pVDM n) 96) : Same P s0 (State.retiredOut s n was) := by
  unfold State.retiredOut
  exact Same.ite (fun _ => State.guardEvt_same _ _ (State.ccEnter_same _ _ hk gCC_16 gCC_12 (fun o ho => gPDL_any o ho) gVDM_64 gVDM_16 gPOL_12 gPOL_52 gPOL_16 gPOL_44 gGUARD_12 gVDM_52 (fun o ho => gSHARE_any o ho) gVDM_96) gGUARD_16) (fun _ => hk)

theorem State.copiesKept_same (n : Port) (retired : Bool) (hk : Same P s0 s) (gCMPT_any : ∀ o, o < 256 → P pCMPT o) (gGUARD_12 : P (pGUARD n) 12) (gGUARD_16 : P (pGUARD n) 16) : Same P s0 (State.copiesKept s n retired) := by
  unfold State.copiesKept
  exact Same.ite (fun _ => State.retestPort_same _ (State.put_same _ _ _ (State.setFailed_same _ _ hk (fun o ho => gCMPT_any o ho) gGUARD_12) (gCMPT_any _ (by (try simp only [List.mem_range, List.mem_cons, List.not_mem_nil, or_false] at hm); (try simp only [Fld.at, CMPT.PORT_STAT_PASSED]); omega))) (fun o ho => gCMPT_any o ho) gGUARD_12 gGUARD_16) (fun _ => State.putB_same _ _ _ hk gGUARD_12)

theorem State.nvdDrop_same (hk : Same P s0 s) (gNVD_52 : P pNVD 52) : Same P s0 (State.nvdDrop s) := by
  unfold State.nvdDrop
  extract_lets -merge -underBinder +onlyGivenNames x0
  have hx0 : Same P s0 x0 := by
    unfold x0
    split
    · exact State.nvdErasePage_same _ hk gNVD_52
    · exact State.nvdErasePage_same _ hk gNVD_52
    · exact hk
  try clear_value x0
  exact Same.mk' hx0

theorem State.blockHidden_same (kind : PageKind) (i : ℕ) (hk : Same P s0 s) (gPDL_any : ∀ m, ∀ o, o < 256 → P (pPDL m) o) (gVDM_64 : ∀ m, P (pVDM m) 64) (gVDM_16 : ∀ m, P (pVDM m) 16) (gVDM_52 : ∀ m, P (pVDM m) 52) (gHG_12 : ∀ m, P (pHG m) 12) (gHG_16 : ∀ m, P (pHG m) 16) (gFLEET_12 : P pFLEET 12) (gFLEET_16 : P pFLEET 16) (gHG_52 : ∀ m, P (pHG m) 52) (gHG_48 : ∀ m, P (pHG m) 48) (gNVD_52 : P pNVD 52) (gUPD_36 : P pUPD 36) : Same P s0 (State.blockHidden s kind i) := by
  unfold State.blockHidden
  extract_lets -merge -underBinder +onlyGivenNames x0 x1
  split
  · exact State.modPort_same _ _ (State.pdlRefuse_same _ hk (fun o ho => gPDL_any _ o ho) (gVDM_64 _) (gVDM_16 _))
  · exact State.modPort_same _ _ hk
  · exact State.modPol_same _ _ hk
  · exact State.modPort_same _ _ (State.hpdClear_same _ hk (gVDM_52 _))
  · exact State.shareReset_same hk
  · exact Same.mk' hk
  · exact Same.mk' hk
  · exact State.modLink_same _ _ (Same.ite (fun _ => State.linkTo_same _ _ hk (fun m => gHG_12 m) (fun m => gHG_16 m) gFLEET_12 gFLEET_16 (fun m => gHG_52 m) (fun m => gHG_48 m)) (fun _ => hk))
  · exact Same.mk' hk
  · exact Same.mk' hk
  · exact Same.mk' hk
  · exact State.nvdDrop_same hk gNVD_52
  · exact State.sessEnd_same hk gUPD_36
  · exact State.modEng_same _ _ hk
  · exact hk

theorem State.hgSolo_same (hk : Same P s0 s) (gHG_8 : ∀ m, P (pHG m) 8) : Same P s0 (State.hgSolo s) := by
  unfold State.hgSolo
  exact Same.ite (fun _ => State.put_same _ _ _ (State.put_same _ _ _ (State.put_same _ _ _ hk (gHG_8 _)) (gHG_8 _)) (gHG_8 _)) (fun _ => hk)

theorem State.blockDone_same (pg : ℕ) (hk : Same P s0 s) (gp1_8 : P pg 8) : Same P s0 (State.blockDone s pg) := by
  unfold State.blockDone
  extract_lets -merge -underBinder +onlyGivenNames x0
  have hx0 : Same P s0 x0 := State.put_same _ _ _ hk gp1_8
  try clear_value x0
  exact Same.ite (fun _ => Same.mk' hx0) (fun _ => hk)

theorem State.flashDrop_same (hk : Same P s0 s) : Same P s0 (State.flashDrop s) := by
  unfold State.flashDrop
  extract_lets -merge -underBinder +onlyGivenNames x0
  have hx0 : Same P s0 x0 := by
    unfold x0
    split
    · exact State.codeProgram_same _ _ hk
    · exact State.codeErase_same _ hk
    · exact hk
  try clear_value x0
  exact Same.mk' hx0

theorem State.verified_same (code : ℕ) (hk : Same P s0 s) (gBOOT_32 : P pBOOT 32) (gBOOT_36 : P pBOOT 36) : Same P s0 (State.verified s code) := by
  unfold State.verified
  extract_lets -merge -underBinder +onlyGivenNames x0
  have hx0 : Same P s0 x0 := State.put_same _ _ _ hk gBOOT_32
  try clear_value x0
  exact Same.ite (fun _ => hx0) (fun _ => State.put_same _ _ _ hx0 gBOOT_36)

theorem State.pickConfirmed_go_same (l : List Bool) (hk : Same P s0 s) (gBOOT_32 : P pBOOT 32) (gBOOT_36 : P pBOOT 36) :
    Same P s0 (State.pickConfirmed.go s l).1 := by
  induction l generalizing s with
  | nil => exact hk
  | cons k l ih =>
    unfold State.pickConfirmed.go
    split
    · exact ih hk
    · extract_lets -merge -underBinder +onlyGivenNames x0
      split
      · exact Same.mkFst (State.verified_same _ hk gBOOT_32 gBOOT_36)
      · exact ih (State.verified_same _ hk gBOOT_32 gBOOT_36)

theorem State.pickConfirmed_same (hk : Same P s0 s) (gBOOT_32 : P pBOOT 32) (gBOOT_36 : P pBOOT 36) : Same P s0 (State.pickConfirmed s).1 :=
  State.pickConfirmed_go_same _ hk gBOOT_32 gBOOT_36

theorem State.chooseBank_same (hk : Same P s0 s) (gBOOT_32 : P pBOOT 32) (gBOOT_36 : P pBOOT 36) (gUPD_36 : P pUPD 36) (gNVD_52 : P pNVD 52) (gBOOT_16 : P pBOOT 16) : Same P s0 (State.chooseBank s).1 := by
  unfold State.chooseBank
  extract_lets -merge -underBinder +onlyGivenNames x0 x1
  have hx1 : Same P s0 x1 := by
    unfold x1
    refine foldl_same _ ?_ ?_
    · exact hk
    · intro s2_0 s2_1 hm hs2_1
      extract_lets -merge -underBinder +onlyGivenNames x3 x4
      have hx4 : Same P s0 x4 := State.verified_same _ hs2_1 gBOOT_32 gBOOT_36
      try clear_value x4
      exact Same.ite (fun _ => Same.ite (fun _ => State.bootDecide_same _ hx4 gBOOT_32 gUPD_36 gNVD_52) (fun _ => State.raise_same _ _ (State.bootDecide_same _ hx4 gBOOT_32 gUPD_36 gNVD_52) gBOOT_16)) (fun _ => hs2_1)
  try clear_value x1
  extract_lets -merge -underBinder +onlyGivenNames x5
  have hx5 : Same P s0 x5 := foldl_same _ hx1 (fun _ _ _ h6 => Same.ite (fun _ => State.raise_same _ _ (State.bootDecide_same _ h6 gBOOT_32 gUPD_36 gNVD_52) gBOOT_16) (fun _ => h6))
  try clear_value x5
  split
  · refine State.pickConfirmed_same ?_ gBOOT_32 gBOOT_36
    exact hx5
  · extract_lets -merge -underBinder +onlyGivenNames x7
    extract_lets -merge -underBinder +onlyGivenNames x8
    have hx8 : Same P s0 x8 := State.bootDecide_same _ hx5 gBOOT_32 gUPD_36 gNVD_52
    try clear_value x8
    extract_lets -merge -underBinder +onlyGivenNames x9 x10
    have hx10 : Same P s0 x10 := State.verified_same _ hx8 gBOOT_32 gBOOT_36
    try clear_value x10
    refine Same.iteFst (fun _ => ?_) (fun _ => ?_)
    · refine Same.mkFst ?_
      exact hx10
    · refine State.pickConfirmed_same ?_ gBOOT_32 gBOOT_36
      exact State.raise_same _ _ (State.bootDecide_same _ hx10 gBOOT_32 gUPD_36 gNVD_52) gBOOT_16

theorem State.trialStart_same (hk : Same P s0 s) : Same P s0 (State.trialStart s) := by
  unfold State.trialStart
  extract_lets -merge -underBinder +onlyGivenNames x0
  exact Same.mk' hk

theorem State.clampTask_same (n : Port) (hk : Same P s0 s) (gCC_16 : P (pCC n) 16) (gCC_32 : P (pCC n) 32) : Same P s0 (State.clampTask s n) := by
  unfold State.clampTask
  extract_lets -merge -underBinder +onlyGivenNames x0
  exact Same.ite (fun _ => hk) (fun _ => Same.ite (fun _ => State.lockedWrite_same _ hk gCC_16) (fun _ => State.put_same _ _ _ hk gCC_32))

theorem State.fwEntry_same (arg : ℕ) (hk : Same P s0 s) (gBOOT_44 : P pBOOT 44) (gGAUGE_40 : P pGAUGE 40) (gGAUGE_32 : P pGAUGE 32) (gGAUGE_44 : P pGAUGE 44) (gGAUGE_48 : P pGAUGE 48) (gGAUGE_52 : P pGAUGE 52) (gGAUGE_60 : P pGAUGE 60) (gGAUGE_56 : P pGAUGE 56) (gGAUGE_100 : P pGAUGE 100) (gGAUGE_88 : P pGAUGE 88) (gGAUGE_96 : P pGAUGE 96) (gLEARN_44 : P pLEARN 44) (gGAUGE_92 : P pGAUGE 92) (gBATID_40 : P pBATID 40) (gUPD_36 : P pUPD 36) (gCC_16 : ∀ m, P (pCC m) 16) (gCC_32 : ∀ m, P (pCC m) 32) (gCC_8 : ∀ m, P (pCC m) 8) : Same P s0 (State.fwEntry s arg) := by
  unfold State.fwEntry
  extract_lets -merge -underBinder +onlyGivenNames x0 x1 x2 x3
  have hx3 : Same P s0 x3 := Same.mk' hk
  try clear_value x3
  extract_lets -merge -underBinder +onlyGivenNames x4
  have hx4 : Same P s0 x4 := State.forEngines_same hx3 (fun _ _ h5 => Same.ite (fun _ => h5) (fun _ => State.modEng_same _ _ h5))
  try clear_value x4
  extract_lets -merge -underBinder +onlyGivenNames x6
  have hx6 : Same P s0 x6 := State.trialStart_same (State.put_same _ _ _ (State.stickySet_same _ hx4) gBOOT_44)
  try clear_value x6
  extract_lets -merge -underBinder +onlyGivenNames x7
  have hx7 : Same P s0 x7 := Same.ite (fun _ => State.packLoad_same hx6 gGAUGE_40 gGAUGE_32 gGAUGE_44 gGAUGE_48 gGAUGE_52 gGAUGE_60 gGAUGE_56 gGAUGE_100 gGAUGE_88 gGAUGE_96 gLEARN_44 gGAUGE_92 gBATID_40) (fun _ => hx6)
  try clear_value x7
  extract_lets -merge -underBinder +onlyGivenNames x8
  have hx8 : Same P s0 x8 := State.forPorts_same (State.forPorts_same (State.putB_same _ _ _ hx7 gUPD_36) (fun _ _ h9 => State.clampTask_same _ h9 (gCC_16 _) (gCC_32 _))) (fun _ _ h10 => State.holdPort_same _ _ h10 (gCC_32 _) (gCC_8 _))
  try clear_value x8
  exact State.post_same _ _ hx8

theorem State.recoverEnter_same (hk : Same P s0 s) (gBOOT_36 : P pBOOT 36) (gBOOT_12 : P pBOOT 12) (gGUARD_12 : ∀ m, P (pGUARD m) 12) : Same P s0 (State.recoverEnter s) := by
  unfold State.recoverEnter
  exact State.forPorts_same (State.put_same _ _ _ (State.put_same _ _ _ (Same.mk' hk) gBOOT_12) gBOOT_36) (fun _ _ h0 => State.guardHalt_same _ h0 (gGUARD_12 _))

theorem State.startBank_same (k : Option Bool) (arg : ℕ) (hk : Same P s0 s) (gBOOT_36 : P pBOOT 36) (gBOOT_12 : P pBOOT 12) (gGUARD_12 : ∀ m, P (pGUARD m) 12) (gBOOT_32 : P pBOOT 32) (gBOOT_44 : P pBOOT 44) (gGAUGE_40 : P pGAUGE 40) (gGAUGE_32 : P pGAUGE 32) (gGAUGE_44 : P pGAUGE 44) (gGAUGE_48 : P pGAUGE 48) (gGAUGE_52 : P pGAUGE 52) (gGAUGE_60 : P pGAUGE 60) (gGAUGE_56 : P pGAUGE 56) (gGAUGE_100 : P pGAUGE 100) (gGAUGE_88 : P pGAUGE 88) (gGAUGE_96 : P pGAUGE 96) (gLEARN_44 : P pLEARN 44) (gGAUGE_92 : P pGAUGE 92) (gBATID_40 : P pBATID 40) (gUPD_36 : P pUPD 36) (gCC_16 : ∀ m, P (pCC m) 16) (gCC_32 : ∀ m, P (pCC m) 32) (gCC_8 : ∀ m, P (pCC m) 8) : Same P s0 (State.startBank s k arg) := by
  unfold State.startBank
  split
  · exact State.recoverEnter_same hk gBOOT_36 gBOOT_12 (fun m => gGUARD_12 m)
  · extract_lets -merge -underBinder +onlyGivenNames x0
    have hx0 : Same P s0 x0 := State.put_same _ _ _ (State.putB_same _ _ _ (State.put_same _ _ _ hk gBOOT_12) gBOOT_32) gBOOT_36
    try clear_value x0
    exact State.fwEntry_same _ (State.put_same _ _ _ hx0 gBOOT_36) gBOOT_44 gGAUGE_40 gGAUGE_32 gGAUGE_44 gGAUGE_48 gGAUGE_52 gGAUGE_60 gGAUGE_56 gGAUGE_100 gGAUGE_88 gGAUGE_96 gLEARN_44 gGAUGE_92 gBATID_40 gUPD_36 (fun m => gCC_16 m) (fun m => gCC_32 m) (fun m => gCC_8 m)

theorem State.chooseStart_same (arg : ℕ) (hk : Same P s0 s) (gBOOT_32 : P pBOOT 32) (gBOOT_36 : P pBOOT 36) (gUPD_36 : P pUPD 36) (gNVD_52 : P pNVD 52) (gBOOT_16 : P pBOOT 16) (gBOOT_12 : P pBOOT 12) (gGUARD_12 : ∀ m, P (pGUARD m) 12) (gBOOT_44 : P pBOOT 44) (gGAUGE_40 : P pGAUGE 40) (gGAUGE_32 : P pGAUGE 32) (gGAUGE_44 : P pGAUGE 44) (gGAUGE_48 : P pGAUGE 48) (gGAUGE_52 : P pGAUGE 52) (gGAUGE_60 : P pGAUGE 60) (gGAUGE_56 : P pGAUGE 56) (gGAUGE_100 : P pGAUGE 100) (gGAUGE_88 : P pGAUGE 88) (gGAUGE_96 : P pGAUGE 96) (gLEARN_44 : P pLEARN 44) (gGAUGE_92 : P pGAUGE 92) (gBATID_40 : P pBATID 40) (gCC_16 : ∀ m, P (pCC m) 16) (gCC_32 : ∀ m, P (pCC m) 32) (gCC_8 : ∀ m, P (pCC m) 8) : Same P s0 (State.chooseStart s arg) := by
  unfold State.chooseStart
  extract_lets -merge -underBinder +onlyGivenNames x0
  have hx0 : Same P s0 x0.1 := by
    refine Same.ofEq ?_ (State.chooseBank_same hk gBOOT_32 gBOOT_36 gUPD_36 gNVD_52 gBOOT_16)
    exact rfl
  try clear_value x0
  exact State.startBank_same _ _ hx0 gBOOT_36 gBOOT_12 (fun m => gGUARD_12 m) gBOOT_32 gBOOT_44 gGAUGE_40 gGAUGE_32 gGAUGE_44 gGAUGE_48 gGAUGE_52 gGAUGE_60 gGAUGE_56 gGAUGE_100 gGAUGE_88 gGAUGE_96 gLEARN_44 gGAUGE_92 gBATID_40 gUPD_36 (fun m => gCC_16 m) (fun m => gCC_32 m) (fun m => gCC_8 m)

theorem State.recoverStart_same (hk : Same P s0 s) (gBOOT_32 : P pBOOT 32) (gBOOT_36 : P pBOOT 36) (gUPD_36 : P pUPD 36) (gNVD_52 : P pNVD 52) (gBOOT_16 : P pBOOT 16) (gBOOT_12 : P pBOOT 12) (gGUARD_12 : ∀ m, P (pGUARD m) 12) (gBOOT_44 : P pBOOT 44) (gGAUGE_40 : P pGAUGE 40) (gGAUGE_32 : P pGAUGE 32) (gGAUGE_44 : P pGAUGE 44) (gGAUGE_48 : P pGAUGE 48) (gGAUGE_52 : P pGAUGE 52) (gGAUGE_60 : P pGAUGE 60) (gGAUGE_56 : P pGAUGE 56) (gGAUGE_100 : P pGAUGE 100) (gGAUGE_88 : P pGAUGE 88) (gGAUGE_96 : P pGAUGE 96) (gLEARN_44 : P pLEARN 44) (gGAUGE_92 : P pGAUGE 92) (gBATID_40 : P pBATID 40) (gCC_16 : ∀ m, P (pCC m) 16) (gCC_32 : ∀ m, P (pCC m) 32) (gCC_8 : ∀ m, P (pCC m) 8) : Same P s0 (State.recoverStart s) := by
  unfold State.recoverStart
  extract_lets -merge -underBinder +onlyGivenNames x0
  have hx0 : Same P s0 x0.1 := by
    refine Same.ofEq ?_ (State.chooseBank_same hk gBOOT_32 gBOOT_36 gUPD_36 gNVD_52 gBOOT_16)
    exact rfl
  try clear_value x0
  exact Same.ite (fun _ => State.startBank_same _ _ hx0 gBOOT_36 gBOOT_12 (fun m => gGUARD_12 m) gBOOT_32 gBOOT_44 gGAUGE_40 gGAUGE_32 gGAUGE_44 gGAUGE_48 gGAUGE_52 gGAUGE_60 gGAUGE_56 gGAUGE_100 gGAUGE_88 gGAUGE_96 gLEARN_44 gGAUGE_92 gBATID_40 gUPD_36 (fun m => gCC_16 m) (fun m => gCC_32 m) (fun m => gCC_8 m)) (fun _ => hx0)

theorem State.resetEnd_same (us : BitVec 24) (hk : Same P s0 s) (gBOOT_40 : P pBOOT 40) (gSYS_16 : P pSYS 16) (gSYS_40 : P pSYS 40) : Same P s0 (State.resetEnd s us) := by
  unfold State.resetEnd
  extract_lets -merge -underBinder +onlyGivenNames x0
  have hx0 : Same P s0 x0 := State.put_same _ _ _ (State.raise_same _ _ (State.wr_same _ _ _ hk gSYS_40) gSYS_16) gBOOT_40
  try clear_value x0
  exact Same.mk' hx0

theorem State.gpioSync_same (hk : Same P s0 s) : Same P s0 (State.gpioSync s) := by
  unfold State.gpioSync
  exact Same.mk' hk

theorem State.repostPending_same (hk : Same P s0 s) : Same P s0 (State.repostPending s) := by
  unfold State.repostPending
  extract_lets -merge -underBinder +onlyGivenNames x0
  have hx0 : Same P s0 x0 := Same.ite (fun _ => State.postGlobal_same _ _ _ _ _ hk) (fun _ => hk)
  try clear_value x0
  refine State.forPorts_same ?_ ?_
  · exact hx0
  · intro s1_0 s1_1 hs1_1
    extract_lets -merge -underBinder +onlyGivenNames x2
    have hx2 : Same P s0 x2 := Same.ite (fun _ => State.modCc_same _ _ hs1_1) (fun _ => hs1_1)
    try clear_value x2
    exact Same.ite (fun _ => State.postKept_same _ _ _ _ _ hx2) (fun _ => hx2)

theorem State.modeRestore_same (n : Port) (hk : Same P s0 s) (gVDM_52 : P (pVDM n) 52) (gVDM_152 : P (pVDM n) 152) (gVDM_140 : P (pVDM n) 140) (gPDL_any : ∀ o, o < 256 → P (pPDL n) o) (gVDM_64 : P (pVDM n) 64) (gVDM_16 : P (pVDM n) 16) : Same P s0 (State.modeRestore s n) := by
  unfold State.modeRestore
  extract_lets -merge -underBinder +onlyGivenNames x0 x1 x2 x3
  exact Same.ite (fun _ => hk) (fun _ => Same.ite (fun _ => State.hpdWrite_same _ _ (State.wr_same _ _ _ (State.wr_same _ _ _ hk gVDM_140) gVDM_152) gVDM_52) (fun _ => State.hardResetStart_same _ hk (fun o ho => gPDL_any o ho) gVDM_64 gVDM_16))

theorem State.warmFw_same (hk : Same P s0 s) (gVDM_52 : ∀ m, P (pVDM m) 52) (gVDM_152 : ∀ m, P (pVDM m) 152) (gVDM_140 : ∀ m, P (pVDM m) 140) (gPDL_any : ∀ m, ∀ o, o < 256 → P (pPDL m) o) (gVDM_64 : ∀ m, P (pVDM m) 64) (gVDM_16 : ∀ m, P (pVDM m) 16) (gPLACE_16 : P pPLACE 16) : Same P s0 (State.warmFw s) := by
  unfold State.warmFw
  extract_lets -merge -underBinder +onlyGivenNames x0
  have hx0 : Same P s0 x0 := State.forPorts_same hk (fun _ _ h1 => State.modeRestore_same _ (State.modPort_same _ _ h1) (gVDM_52 _) (gVDM_152 _) (gVDM_140 _) (fun o ho => gPDL_any _ o ho) (gVDM_64 _) (gVDM_16 _))
  try clear_value x0
  exact Same.ite (fun _ => State.raiseIf_same _ _ _ hx0 gPLACE_16) (fun _ => hk)

theorem State.modHost_same (f : HostSt → HostSt) (hk : Same P s0 s) : Same P s0 (State.modHost s f) := by
  unfold State.modHost
  exact Same.mk' hk

theorem State.hostLoad_same (code : ℕ) (cmd : ℕ) (detail : ℕ) (hk : Same P s0 s) (gHOST_48 : P pHOST 48) : Same P s0 (State.hostLoad s code cmd detail) := by
  unfold State.hostLoad
  extract_lets -merge -underBinder +onlyGivenNames x0
  have hx0 : Same P s0 x0 := State.put_same _ _ _ (State.put_same _ _ _ (State.put_same _ _ _ hk gHOST_48) gHOST_48) gHOST_48
  try clear_value x0
  exact State.modHost_same _ hx0

theorem State.hostErr_same (code : ℕ) (cmd : ℕ) (hk : Same P s0 s) (gHOST_52 : P pHOST 52) (gHOST_16 : P pHOST 16) (gHOST_48 : P pHOST 48) : Same P s0 (State.hostErr s code cmd) := by
  unfold State.hostErr
  extract_lets -merge -underBinder +onlyGivenNames x0
  have hx0 : Same P s0 x0 := by
    unfold x0
    split
    · exact State.bump_same _ _ _ (State.raise_same _ _ hk gHOST_16) gHOST_52
    · exact State.bump_same _ _ _ (State.raise_same _ _ hk gHOST_16) gHOST_52
    · exact State.raise_same _ _ hk gHOST_16
    · exact hk
  try clear_value x0
  exact State.hostLoad_same _ _ _ hx0 gHOST_48

theorem State.hostPost_same (op : PostOp) (cmd : ℕ) (hk : Same P s0 s) (gHOST_48 : P pHOST 48) : Same P s0 (State.hostPost s op cmd) := by
  unfold State.hostPost
  exact State.modHost_same _ (State.hostLoad_same _ _ _ hk gHOST_48)

theorem State.hostPostDone_same (code : ℕ) (detail : ℕ) (hk : Same P s0 s) (gHOST_48 : P pHOST 48) : Same P s0 (State.hostPostDone s code detail) := by
  unfold State.hostPostDone
  extract_lets -merge -underBinder +onlyGivenNames x0
  have hx0 : Same P s0 x0 := Same.ite (fun _ => State.put_same _ _ _ (State.put_same _ _ _ hk gHOST_48) gHOST_48) (fun _ => hk)
  try clear_value x0
  exact State.modHost_same _ hx0

theorem State.hostWatch_same (hk : Same P s0 s) (gHOST_12 : P pHOST 12) : Same P s0 (State.hostWatch s) := by
  unfold State.hostWatch
  extract_lets -merge -underBinder +onlyGivenNames x0 x1 x2
  have hx2 : Same P s0 x2 := State.modHost_same _ hk
  try clear_value x2
  exact Same.ite (fun _ => State.put_same _ _ _ hx2 gHOST_12) (fun _ => hx2)

theorem State.notifyOver_same (hk : Same P s0 s) (gHOST_12 : P pHOST 12) : Same P s0 (State.notifyOver s) := by
  unfold State.notifyOver
  exact State.modHost_same _ (State.put_same _ _ _ hk gHOST_12)

theorem State.notifyBegin_same (hk : Same P s0 s) (gHOST_12 : P pHOST 12) (gHOST_56 : P pHOST 56) : Same P s0 (State.notifyBegin s) := by
  unfold State.notifyBegin
  extract_lets -merge -underBinder +onlyGivenNames x0 x1 x2
  exact State.modHost_same _ (State.put_same _ _ _ (State.put_same _ _ _ hk gHOST_56) gHOST_12)

theorem State.notifyFail_same (hk : Same P s0 s) (gHOST_56 : P pHOST 56) (gHOST_52 : P pHOST 52) (gHOST_12 : P pHOST 12) (gHOST_16 : P pHOST 16) : Same P s0 (State.notifyFail s) := by
  unfold State.notifyFail
  extract_lets -merge -underBinder +onlyGivenNames x0
  have hx0 : Same P s0 x0 := State.put_same _ _ _ (State.bump_same _ _ _ hk gHOST_52) gHOST_56
  try clear_value x0
  extract_lets -merge -underBinder +onlyGivenNames x1
  have hx1 : Same P s0 x1 := State.modHost_same _ hx0
  try clear_value x1
  exact Same.ite (fun _ => hx1) (fun _ => State.notifyOver_same (State.put_same _ _ _ (State.raise_same _ _ hx1 gHOST_16) gHOST_12) gHOST_12)

theorem State.notifyResult_same (done : Option Bool) (hk : Same P s0 s) (gHOST_12 : P pHOST 12) (gHOST_16 : P pHOST 16) (gHOST_56 : P pHOST 56) (gHOST_52 : P pHOST 52) : Same P s0 (State.notifyResult s done) := by
  unfold State.notifyResult
  split
  · exact hk
  · exact State.notifyOver_same (State.raise_same _ _ hk gHOST_16) gHOST_12
  · exact State.notifyFail_same hk gHOST_56 gHOST_52 gHOST_12 gHOST_16

theorem State.notifyFresh_same (hk : Same P s0 s) (gHOST_12 : P pHOST 12) (gHOST_56 : P pHOST 56) : Same P s0 (State.notifyFresh s) := by
  unfold State.notifyFresh
  exact State.notifyBegin_same (State.put_same _ _ _ hk gHOST_56) gHOST_12 gHOST_56

theorem State.notifyNow_same (hk : Same P s0 s) (gHOST_12 : P pHOST 12) (gHOST_56 : P pHOST 56) : Same P s0 (State.notifyNow s) := by
  unfold State.notifyNow
  exact Same.ite (fun _ => State.notifyFresh_same hk gHOST_12 gHOST_56) (fun _ => hk)

theorem State.hostClear_same (hk : Same P s0 s) (gHOST_60 : P pHOST 60) (gHOST_52 : P pHOST 52) : Same P s0 (State.hostClear s) := by
  unfold State.hostClear
  exact State.wr_same _ _ _ (State.wr_same _ _ _ hk gHOST_52) gHOST_60

theorem State.modeEnd_same (r : ℕ) (hk : Same P s0 s) (gAON_16 : P pAON 16) (gAON_36 : P pAON 36) : Same P s0 (State.modeEnd s r) := by
  unfold State.modeEnd
  exact State.raise_same _ _ (State.put_same _ _ _ hk gAON_36) gAON_16

theorem State.modeReq_same (m : ℕ) (hk : Same P s0 s) (gAON_16 : P pAON 16) (gAON_36 : P pAON 36) : Same P s0 (State.modeReq s m) := by
  unfold State.modeReq
  extract_lets -merge -underBinder +onlyGivenNames x0 x1 x2
  have hx2 : Same P s0 x2 := State.put_same _ _ _ hk gAON_36
  try clear_value x2
  exact Same.ite (fun _ => State.modeEnd_same _ hk gAON_16 gAON_36) (fun _ => Same.ite (fun _ => State.modeEnd_same _ hk gAON_16 gAON_36) (fun _ => Same.ite (fun _ => State.modeEnd_same _ (State.put_same _ _ _ (Same.mk' hk) gAON_36) gAON_16 gAON_36) (fun _ => Same.ite (fun _ => State.modeEnd_same _ hk gAON_16 gAON_36) (fun _ => Same.ite (fun _ => State.modeEnd_same _ hk gAON_16 gAON_36) (fun _ => Same.ite (fun _ => State.modeEnd_same _ hk gAON_16 gAON_36) (fun _ => Same.ite (fun _ => State.modeEnd_same _ hk gAON_16 gAON_36) (fun _ => Same.ite (fun _ => State.modeEnd_same _ hk gAON_16 gAON_36) (fun _ => Same.mk' hx2))))))))

theorem State.entryWake_same (hk : Same P s0 s) (gAON_16 : P pAON 16) (gAON_36 : P pAON 36) : Same P s0 (State.entryWake s) := by
  unfold State.entryWake
  split
  · exact hk
  · extract_lets -merge -underBinder +onlyGivenNames x0
    have hx0 : Same P s0 x0 := State.modeEnd_same _ hk gAON_16 gAON_36
    try clear_value x0
    exact Same.mk' hx0

theorem State.aosAccess_same (v : Option Word) (hk : Same P s0 s) (gAON_16 : P pAON 16) (gAON_60 : P pAON 60) : Same P s0 (State.aosAccess s v).1 := by
  unfold State.aosAccess
  extract_lets -merge -underBinder +onlyGivenNames x0 x1 x2
  have hx2 : Same P s0 x2 := by
    unfold x2
    split
    · exact hk
    · exact Same.ite (fun _ => State.lockedWrite_same _ hk gAON_16) (fun _ => State.aosPut_same _ _ _ hk)
  try clear_value x2
  refine Same.mkFst ?_
  exact State.incr_same _ _ hx2 gAON_60

theorem State.dbgChallenge_same (v : BitVec 64) (hk : Same P s0 s) (gDBG_40 : P pDBG 40) (gDBG_36 : P pDBG 36) : Same P s0 (State.dbgChallenge s v) := by
  unfold State.dbgChallenge
  extract_lets -merge -underBinder +onlyGivenNames x0 x1
  have hx1 : Same P s0 x1 := Same.mk' hk
  try clear_value x1
  exact State.put_same _ _ _ (State.put_same _ _ _ hx1 gDBG_36) gDBG_40

theorem State.dbgSubmit_same (hk : Same P s0 s) (gDBG_40 : P pDBG 40) (gDBG_36 : P pDBG 36) (gDBG_48 : P pDBG 48) : Same P s0 (State.dbgSubmit s) := by
  unfold State.dbgSubmit
  extract_lets -merge -underBinder +onlyGivenNames x0 x1
  have hx1 : Same P s0 x1 := Same.mk' hk
  try clear_value x1
  exact Same.ite (fun _ => hk) (fun _ => State.put_same _ _ _ (State.put_same _ _ _ (State.put_same _ _ _ hx1 gDBG_48) gDBG_36) gDBG_40)

theorem State.gpioWatch_same (hk : Same P s0 s) (gGPIO_16 : P pGPIO 16) : Same P s0 (State.gpioWatch s) := by
  unfold State.gpioWatch
  extract_lets -merge -underBinder +onlyGivenNames x0
  exact Same.ite (fun _ => State.gpioSync_same (Same.ite (fun _ => hk) (fun _ => State.raiseBits_same _ _ hk gGPIO_16))) (fun _ => hk)

theorem State.withEdges_same {f : State → State} (hk : Same P s0 s) (hf : ∀ a0, Same P s0 a0 → Same P s0 (f a0)) (gGPIO_16 : P pGPIO 16) : Same P s0 (State.withEdges s f) := by
  unfold State.withEdges
  refine State.gpioWatch_same ?_ gGPIO_16
  refine hf _ ?_
  exact State.gpioWatch_same hk gGPIO_16

theorem State.gpioOut_same (set : ℕ) (clr : ℕ) (hk : Same P s0 s) (gGPIO_16 : P pGPIO 16) (gGPIO_64 : P pGPIO 64) : Same P s0 (State.gpioOut s set clr) := by
  unfold State.gpioOut
  refine State.withEdges_same ?_ ?_ gGPIO_16
  · exact hk
  · intro s0_0 hs0_1
    extract_lets -merge -underBinder +onlyGivenNames x1
    exact State.put_same _ _ _ hs0_1 gGPIO_64

theorem State.pinCfg_same (i : Fin 8) (v : Word) (hk : Same P s0 s) (gGPIO_any : ∀ o, o < 256 → P pGPIO o) : Same P s0 (State.pinCfg s i v) := by
  unfold State.pinCfg
  exact Same.ite (fun _ => State.lockedWrite_same _ hk (gGPIO_any _ (by decide))) (fun _ => State.withEdges_same hk (fun _ h0 => State.put_same _ _ _ (State.wr_same _ _ _ h0 (gGPIO_any _ (by (try simp only [List.mem_range, List.mem_cons, List.not_mem_nil, or_false] at hm); (try simp only [Fld.at]); omega))) (gGPIO_any _ (by (try simp only [List.mem_range, List.mem_cons, List.not_mem_nil, or_false] at hm); (try simp only [Fld.at]); omega))) (gGPIO_any _ (by decide)))

theorem State.freezeOn_same (pg : ℕ) (hk : Same P s0 s) (gp1_8 : P pg 8) : Same P s0 (State.freezeOn s pg) := by
  unfold State.freezeOn
  split
  · exact hk
  · extract_lets -merge -underBinder +onlyGivenNames x0
    exact State.put_same _ _ _ (Same.mk' hk) gp1_8

theorem State.freezeOff_same (pg : ℕ) (hk : Same P s0 s) (gp1_8 : P pg 8) : Same P s0 (State.freezeOff s pg) := by
  unfold State.freezeOff
  exact State.put_same _ _ _ (Same.mk' hk) gp1_8

theorem State.regRead_same (rq : Req) (pg : ℕ) (off : ℕ) (hk : Same P s0 s) (gp2_any : ∀ o, o < 256 → P pg o) (gAON_16 : P pAON 16) (gAON_60 : P pAON 60) (gFLASH_52 : P pFLASH 52) : Same P s0 (State.regRead s rq pg off).1 := by
  unfold State.regRead
  extract_lets -merge -underBinder +onlyGivenNames x0
  split
  · refine Same.mkFst ?_
    exact hk
  · extract_lets -merge -underBinder +onlyGivenNames x1
    extract_lets -merge -underBinder +onlyGivenNames x2 x3 x4
    have hx4 : Same P s0 x4 := Same.ite (fun _ => Same.mk' hk) (fun _ => hk)
    try clear_value x4
    extract_lets -merge -underBinder +onlyGivenNames x5 x6
    have hx6 : Same P s0 x6 := State.wr_same _ _ _ hx4 (gp2_any _ (by (try simp only [List.mem_range, List.mem_cons, List.not_mem_nil, or_false] at hm); (try simp only [Fld.at, x0]); omega))
    try clear_value x6
    extract_lets -merge -underBinder +onlyGivenNames x7
    have hx7 : Same P s0 x7 := Same.ite (fun _ => hx4) (fun _ => Same.ite (fun _ => State.modPort_same _ _ hx6) (fun _ => hx6))
    try clear_value x7
    refine Same.iteFst (fun _ => ?_) (fun _ => ?_)
    · refine Same.mkFst ?_
      exact hk
    · refine Same.iteFst (fun _ => ?_) (fun _ => ?_)
      · refine Same.mkFst ?_
        exact hk
      · refine Same.iteFst (fun _ => ?_) (fun _ => ?_)
        · refine Same.mkFst ?_
          exact hk
        · refine Same.iteFst (fun _ => ?_) (fun _ => ?_)
          · refine Same.mkFst ?_
            exact hk
          · refine Same.iteFst (fun _ => ?_) (fun _ => ?_)
            · refine Same.mkFst ?_
              refine State.aosAccess_same _ ?_ gAON_16 gAON_60
              exact hx7
            · refine Same.iteFst (fun _ => ?_) (fun _ => ?_)
              · refine Same.mkFst ?_
                exact State.incr_same _ _ hx7 gFLASH_52
              · refine Same.mkFst ?_
                exact hx7

theorem State.plainWrite_same (pg : ℕ) (x : RegRow) (v : Word) (hk : Same P s0 s) (gp1_any : ∀ o, o < 256 → P pg o) (hx : x.off < 256) (gp1_16 : P pg 16) : Same P s0 (State.plainWrite s pg x v) := by
  unfold State.plainWrite
  extract_lets -merge -underBinder +onlyGivenNames x0 x1 x2 x3 x4 x5
  have hx5 : Same P s0 x5 := State.wr_same _ _ _ hk (gp1_any _ hx)
  try clear_value x5
  exact Same.ite (fun _ => State.lockedWrite_same _ hx5 (gp1_any _ (by decide))) (fun _ => hx5)

theorem State.evtClear_same (pg : ℕ) (v : Word) (hw : Word) (hk : Same P s0 s) (gp1_16 : P pg 16) : Same P s0 (State.evtClear s pg v hw) := by
  unfold State.evtClear
  split
  · exact hk
  · extract_lets -merge -underBinder +onlyGivenNames x0
    extract_lets -merge -underBinder +onlyGivenNames x1
    have hx1 : Same P s0 x1 := Same.ite (fun _ => hk) (fun _ => State.raiseBits_same _ _ hk gp1_16)
    try clear_value x1
    exact State.wr_same _ _ _ hx1 gp1_16

theorem State.evtSet_same (pg : ℕ) (v : Word) (hk : Same P s0 s) (gp1_16 : P pg 16) : Same P s0 (State.evtSet s pg v) := by
  unfold State.evtSet
  split
  · exact hk
  · exact State.wr_same _ _ _ hk gp1_16

theorem State.lockWrite_same (pg : ℕ) (v : Word) (hk : Same P s0 s) (gp1_16 : P pg 16) (gp1_28 : P pg 28) : Same P s0 (State.lockWrite s pg v) := by
  unfold State.lockWrite
  exact Same.ite (fun _ => Same.ite (fun _ => State.lockedWrite_same _ hk gp1_16) (fun _ => State.put_same _ _ _ hk gp1_28)) (fun _ => hk)

theorem State.onBit_same (v : Word) (i : ℕ) {f : State → State} (hk : Same P s0 s) (hf : ∀ a0, Same P s0 a0 → Same P s0 (f a0)) : Same P s0 (State.onBit s v i f) := by
  unfold State.onBit
  refine Same.ite (fun _ => ?_) (fun _ => ?_)
  · refine hf _ ?_
    exact hk
  · exact hk

theorem State.flashCmd_same (rq : Req) (v : Word) (hk : Same P s0 s) (gFLASH_16 : P pFLASH 16) (gFLASH_48 : P pFLASH 48) (gBOOT_32 : P pBOOT 32) : Same P s0 (State.flashCmd s rq v) := by
  unfold State.flashCmd
  extract_lets -merge -underBinder +onlyGivenNames x0 x1
  refine Same.ite (fun _ => ?_) (fun _ => ?_)
  · exact State.lockedWrite_same _ hk gFLASH_16
  · refine State.keyed_same _ _ _ ?_ ?_ gFLASH_16
    · exact hk
    · intro s2_0 hs2_1
      split
      · exact State.flashStart_same _ hs2_1 gFLASH_48 gFLASH_16 gBOOT_32
      · exact State.flashStart_same _ hs2_1 gFLASH_48 gFLASH_16 gBOOT_32
      · exact hs2_1

theorem State.updCmd_same (v : Word) (hk : Same P s0 s) (gUPD_16 : P pUPD 16) (gUPD_36 : P pUPD 36) (gBOOT_32 : P pBOOT 32) (gNVD_52 : P pNVD 52) (gUPD_84 : P pUPD 84) (gUPD_80 : P pUPD 80) (gUPD_76 : P pUPD 76) (gUPD_92 : P pUPD 92) (gUPD_88 : P pUPD 88) : Same P s0 (State.updCmd s v) := by
  unfold State.updCmd
  refine State.keyed_same _ _ _ ?_ ?_ gUPD_16
  · exact hk
  · intro s0_0 hs0_1
    extract_lets -merge -underBinder +onlyGivenNames x1
    have hx1 : Same P s0 x1 := State.updPost_same hs0_1
    try clear_value x1
    extract_lets -merge -underBinder +onlyGivenNames x2
    have hx2 : Same P s0 x2 := State.onBit_same _ _ hx1 (fun _ h3 => State.updResult_same _ (State.sessEnd_same h3 gUPD_36) gUPD_16 gUPD_36)
    try clear_value x2
    extract_lets -merge -underBinder +onlyGivenNames x4
    have hx4 : Same P s0 x4 := State.onBit_same _ _ hx2 (fun _ h5 => State.updActivate_same h5 gUPD_16 gUPD_36)
    try clear_value x4
    extract_lets -merge -underBinder +onlyGivenNames x6
    have hx6 : Same P s0 x6 := State.onBit_same _ _ hx4 (fun _ h7 => State.updConfirm_same _ h7 gUPD_16 gUPD_36 gBOOT_32 gNVD_52)
    try clear_value x6
    extract_lets -merge -underBinder +onlyGivenNames x8
    have hx8 : Same P s0 x8 := State.onBit_same _ _ hx6 (fun _ h9 => State.updDistribute_same h9 gUPD_84 gUPD_80 gUPD_76)
    try clear_value x8
    extract_lets -merge -underBinder +onlyGivenNames x10
    have hx10 : Same P s0 x10 := State.onBit_same _ _ hx8 (fun _ h11 => State.updOwnerLock_same h11 gUPD_16 gUPD_36 gNVD_52)
    try clear_value x10
    extract_lets -merge -underBinder +onlyGivenNames x12
    have hx12 : Same P s0 x12 := State.onBit_same _ _ hx10 (fun _ h13 => State.freshen_same (State.freshen_same (State.updChallenge_same _ h13 gUPD_92 gUPD_88)))
    try clear_value x12
    exact State.onBit_same _ _ hx12 (fun _ h14 => State.updUnlock_same h14 gUPD_36 gUPD_92 gUPD_88 gUPD_16 gNVD_52)

theorem State.dbgReq_same (v : Word) (hk : Same P s0 s) (gDBG_16 : P pDBG 16) (gDBG_40 : P pDBG 40) (gDBG_36 : P pDBG 36) (gDBG_48 : P pDBG 48) : Same P s0 (State.dbgReq s v) := by
  unfold State.dbgReq
  refine State.keyed_same _ _ _ ?_ ?_ gDBG_16
  · exact hk
  · intro s0_0 hs0_1
    extract_lets -merge -underBinder +onlyGivenNames x1
    have hx1 : Same P s0 x1 := State.onBit_same _ _ hs0_1 (fun _ h2 => State.freshen_same (State.freshen_same (State.dbgChallenge_same _ h2 gDBG_40 gDBG_36)))
    try clear_value x1
    exact State.onBit_same _ _ hx1 (fun _ h3 => State.dbgSubmit_same h3 gDBG_40 gDBG_36 gDBG_48)

theorem State.nvdCmd_same (op : ℕ) (area : ℕ) (format : ℕ) (hk : Same P s0 s) (gNVD_44 : P pNVD 44) (gNVD_16 : P pNVD 16) : Same P s0 (State.nvdCmd s op area format) := by
  unfold State.nvdCmd
  split
  · exact State.nvdStart_same _ hk gNVD_44 gNVD_16
  · exact State.nvdStart_same _ hk gNVD_44 gNVD_16
  · exact State.nvdStart_same _ hk gNVD_44 gNVD_16
  · exact hk

theorem State.rstReq_same (hk : Same P s0 s) : Same P s0 (State.rstReq s) := by
  unfold State.rstReq
  exact State.warmCause_same _ hk

theorem State.plcrPost_same (slot : ℕ) (hk : Same P s0 s) (gPLCR_16 : P pPLCR 16) : Same P s0 (State.plcrPost s slot) := by
  unfold State.plcrPost
  exact Same.ite (fun _ => State.lockedWrite_same _ hk gPLCR_16) (fun _ => Same.mk' hk)

theorem State.mainsSync_same (hk : Same P s0 s) (gMAINS_12 : P pMAINS 12) (gMAINS_72 : P pMAINS 72) : Same P s0 (State.mainsSync s) := by
  unfold State.mainsSync
  extract_lets -merge -underBinder +onlyGivenNames x0
  have hx0 : Same P s0 x0 := State.put_same _ _ _ hk gMAINS_12
  try clear_value x0
  exact Same.ite (fun _ => hx0) (fun _ => State.put_same _ _ _ hx0 gMAINS_72)

theorem State.portKey_same (pg : ℕ) (v : Word) (want : ℕ) {f : State → State} (hk : Same P s0 s) (hf : ∀ a0, Same P s0 a0 → Same P s0 (f a0)) (gp1_16 : P pg 16) : SameO P s0 (State.portKey s pg v want f) := by
  unfold State.portKey
  refine SameO.some ?_
  refine State.keyed_same _ _ _ ?_ ?_ gp1_16
  · exact hk
  · intro s0_0 hs0_1
    refine hf _ ?_
    exact hs0_1

theorem State.portCmd_same (kind : PageKind) (n : Port) (off : ℕ) (v : Word) (hk : Same P s0 s) (gCC_16 : P (pCC n) 16) (gCC_12 : P (pCC n) 12) (gPDL_any : ∀ o, o < 256 → P (pPDL n) o) (gVDM_64 : P (pVDM n) 64) (gVDM_16 : P (pVDM n) 16) (gGUARD_16 : P (pGUARD n) 16) (gGUARD_12 : P (pGUARD n) 12) (gSHARE_any : ∀ o, o < 256 → P pSHARE o) (gGUARD_92 : P (pGUARD n) 92) (gCMPT_any : ∀ o, o < 256 → P pCMPT o) (gPOL_12 : P (pPOL n) 12) (gPOL_52 : P (pPOL n) 52) (gPOL_16 : P (pPOL n) 16) (gPOL_44 : P (pPOL n) 44) (gVDM_52 : P (pVDM n) 52) (gVDM_96 : P (pVDM n) 96) (gGUARD_84 : P (pGUARD n) 84) : SameO P s0 (State.portCmd s kind n off v) := by
  unfold State.portCmd
  split
  · refine SameO.ite (fun _ => ?_) (fun _ => ?_)
    · refine State.portKey_same _ _ _ ?_ ?_ gCC_16
      · exact hk
      · intro s0_0 hs0_1
        extract_lets -merge -underBinder +onlyGivenNames x1
        have hx1 : Same P s0 x1 := State.onBit_same _ _ hs0_1 (fun _ h2 => State.modCc_same _ _ h2)
        try clear_value x1
        exact Same.ite (fun _ => State.vconnOff_same _ hx1 gCC_12) (fun _ => State.onBit_same _ _ hx1 (fun _ h3 => State.vconnOnCmd_same _ h3 gCC_12 gCC_16))
    · exact SameO.none
  · split
    · refine SameO.some ?_
      exact State.txReq_same _ _ hk (gPDL_any _ (by decide))
    · refine SameO.some ?_
      exact State.xbufRel_same _ _ hk (fun o ho => gPDL_any o ho)
    · refine State.portKey_same _ _ _ ?_ ?_ (gPDL_any _ (by decide))
      · exact hk
      · intro s4_0 hs4_1
        extract_lets -merge -underBinder +onlyGivenNames x5
        have hx5 : Same P s0 x5 := State.onBit_same _ _ (State.onBit_same _ _ hs4_1 (fun _ h6 => State.cableReset_same _ h6 (fun o ho => gPDL_any o ho) gVDM_64 gVDM_16)) (fun _ h7 => State.amsEnd_same _ h7)
        try clear_value x5
        extract_lets -merge -underBinder +onlyGivenNames x8
        have hx8 : Same P s0 x8 := State.onBit_same _ _ (State.onBit_same _ _ hx5 (fun _ h9 => State.put_same _ _ _ h9 (gPDL_any _ (by decide)))) (fun _ h10 => State.txCancel_same _ h10 (fun o ho => gPDL_any o ho) gVDM_64 gVDM_16)
        try clear_value x8
        exact Same.ite (fun _ => State.hardResetStart_same _ hs4_1 (fun o ho => gPDL_any o ho) gVDM_64 gVDM_16) (fun _ => State.onBit_same _ _ hx8 (fun _ h11 => State.pdlClearStats_same _ h11 (gPDL_any _ (by decide)) (gPDL_any _ (by decide)) (gPDL_any _ (by decide)) (gPDL_any _ (by decide))))
    · refine SameO.some ?_
      exact State.msgidLoad_same _ _ hk (gPDL_any _ (by decide)) (gPDL_any _ (by decide))
    · exact SameO.none
  · refine SameO.ite (fun _ => ?_) (fun _ => ?_)
    · refine State.portKey_same _ _ _ ?_ ?_ gGUARD_16
      · exact hk
      · intro s12_0 hs12_1
        extract_lets -merge -underBinder +onlyGivenNames x13
        have hx13 : Same P s0 x13 := Same.ite (fun _ => State.snkOpen_same _ hs12_1 gGUARD_12 (fun o ho => gSHARE_any o ho)) (fun _ => State.onBit_same _ _ hs12_1 (fun _ h14 => State.snkClose_same _ h14 gGUARD_12 gGUARD_16))
        try clear_value x13
        exact State.onBit_same _ _ (State.onBit_same _ _ hx13 (fun _ h15 => State.unretireCmd_same _ h15 gGUARD_12 gGUARD_92 (fun o ho => gCMPT_any o ho) gGUARD_16 gCC_16 gCC_12 (fun o ho => gPDL_any o ho) gVDM_64 gVDM_16 gPOL_12 gPOL_52 gPOL_16 gPOL_44 gVDM_52 (fun o ho => gSHARE_any o ho) gVDM_96)) (fun _ h16 => State.retire_same _ _ h16 gGUARD_84 gCC_16 gCC_12 (fun o ho => gPDL_any o ho) gVDM_64 gVDM_16 gPOL_12 gPOL_52 gPOL_16 gPOL_44 gGUARD_12 gVDM_52 (fun o ho => gSHARE_any o ho) gVDM_96 gGUARD_16)
    · exact SameO.none
  · split
    · refine SameO.some ?_
      exact State.onBit_same _ _ hk (fun _ h17 => State.polQueue_same _ _ h17)
    · refine SameO.some ?_
      exact Same.ite (fun _ => State.polQueue_same _ _ hk) (fun _ => State.onBit_same _ _ hk (fun _ h18 => State.polQueue_same _ _ h18))
    · refine SameO.some ?_
      exact State.onBit_same _ _ hk (fun _ h19 => State.polQueue_same _ _ h19)
    · exact SameO.none
  · split
    · refine State.portKey_same _ _ _ ?_ ?_ gVDM_16
      · exact hk
      · intro s20_0 hs20_1
        extract_lets -merge -underBinder +onlyGivenNames x21
        have hx21 : Same P s0 x21 := State.onBit_same _ _ (State.onBit_same _ _ hs20_1 (fun _ h22 => State.policy_same h22 (fun _ h23 => State.vdmRediscover_same _ h23 gVDM_96 (gPDL_any _ (by decide))))) (fun _ h24 => State.policy_same h24 (fun _ h25 => State.vdmEnter_same _ h25 gVDM_96 (gPDL_any _ (by decide))))
        try clear_value x21
        exact State.onBit_same _ _ hx21 (fun _ h26 => State.policy_same h26 (fun _ h27 => State.vdmExit_same _ h27 (gPDL_any _ (by decide))))
    · refine SameO.some ?_
      exact State.hpdWrite_same _ _ hk gVDM_52
    · refine SameO.some ?_
      exact State.onBit_same _ _ hk (fun _ h28 => State.freshen_same (State.hpdIrq_same _ _ h28 gVDM_16))
    · refine SameO.ite (fun _ => ?_) (fun _ => ?_)
      · refine SameO.some ?_
        exact State.hostTxWrite_same _ _ _ hk gVDM_64 gVDM_16 (gPDL_any _ (by decide))
      · exact SameO.none
    · exact SameO.none
  · exact SameO.none

theorem State.fleetCmd_same (kind : PageKind) (i : ℕ) (off : ℕ) (v : Word) (hk : Same P s0 s) (gHG_16 : ∀ m, P (pHG m) 16) (gHG_60 : ∀ m, P (pHG m) 60) (gHG_12 : ∀ m, P (pHG m) 12) (gFLEET_12 : P pFLEET 12) (gFLEET_16 : P pFLEET 16) (gHG_52 : ∀ m, P (pHG m) 52) (gHG_48 : ∀ m, P (pHG m) 48) (gHG_56 : ∀ m, P (pHG m) 56) (gHG_44 : ∀ m, P (pHG m) 44) (gHG_40 : ∀ m, P (pHG m) 40) (gID_64 : P pID 64) (gSTORE_16 : P pSTORE 16) (gSTORE_40 : P pSTORE 40) (gSTORE_44 : P pSTORE 44) (gBANK_any : ∀ o, o < 256 → P pBANK o) (gSTORE_48 : P pSTORE 48) (gSTORE_12 : P pSTORE 12) (gPLACE_any : ∀ o, o < 256 → P pPLACE o) (gTWIN_any : ∀ o, o < 256 → P pTWIN o) (gCC_12 : ∀ m, P (pCC m) 12) (gCC_16 : ∀ m, P (pCC m) 16) (gPDL_any : ∀ m, ∀ o, o < 256 → P (pPDL m) o) (gVDM_64 : ∀ m, P (pVDM m) 64) (gVDM_16 : ∀ m, P (pVDM m) 16) (gPOL_12 : ∀ m, P (pPOL m) 12) (gPOL_52 : ∀ m, P (pPOL m) 52) (gPOL_16 : ∀ m, P (pPOL m) 16) (gPOL_44 : ∀ m, P (pPOL m) 44) (gGUARD_12 : ∀ m, P (pGUARD m) 12) (gVDM_52 : ∀ m, P (pVDM m) 52) (gSHARE_any : ∀ o, o < 256 → P pSHARE o) (gVDM_96 : ∀ m, P (pVDM m) 96) (gCC_68 : ∀ m, P (pCC m) 68) (gENGY_16 : P pENGY 16) : SameO P s0 (State.fleetCmd s kind i off v) := by
  unfold State.fleetCmd
  extract_lets -merge -underBinder +onlyGivenNames x0
  split
  · refine SameO.ite (fun _ => ?_) (fun _ => ?_)
    · refine SameO.some ?_
      exact State.keyed_same _ _ _ hk (fun _ h1 => State.onBit_same _ _ (State.onBit_same _ _ (State.onBit_same _ _ h1 (fun _ h2 => State.hgRetire_same _ h2 (fun m => gHG_60 m) (fun m => gHG_12 m) (fun m => gHG_16 m) gFLEET_12 gFLEET_16 (fun m => gHG_52 m) (fun m => gHG_48 m))) (fun _ h3 => State.probeLink_same _ h3 (fun m => gHG_60 m) (fun m => gHG_12 m) (fun m => gHG_16 m) gFLEET_12 gFLEET_16 (fun m => gHG_52 m) (fun m => gHG_48 m))) (fun _ h4 => State.hgClear_same _ h4 (gHG_56 _) (gHG_52 _) (gHG_44 _) (gHG_40 _))) (gHG_16 _)
    · exact SameO.none
  · split
    · refine SameO.some ?_
      exact State.keyed_same _ _ _ hk (fun _ h5 => State.onBit_same _ _ (State.onBit_same _ _ (State.onBit_same _ _ h5 (fun _ h6 => State.enumerateCmd_same h6 gFLEET_12 gID_64 (fun m => gHG_52 m) (fun m => gHG_48 m))) (fun _ h7 => State.tkoCmd_same h7)) (fun _ h8 => State.handbackCmd_same h8)) gFLEET_16
    · refine SameO.some ?_
      exact State.txfReq_same _ hk gFLEET_16 gSTORE_16 gSTORE_40 gSTORE_44 (fun o ho => gBANK_any o ho) gSTORE_48 gSTORE_12 (fun m => gHG_52 m) (fun m => gHG_48 m)
    · exact SameO.none
  · split
    · refine SameO.some ?_
      exact State.poolLoad_same (State.put_same _ _ _ hk (gPLACE_any _ (by decide))) gSTORE_16 gSTORE_40 gSTORE_44 (fun o ho => gBANK_any o ho) gSTORE_48 gSTORE_12 (fun o ho => gPLACE_any o ho)
    · refine SameO.some ?_
      exact State.portLoad_same (State.put_same _ _ _ (State.put_same _ _ _ hk (gPLACE_any _ (by decide))) (gPLACE_any _ (by decide))) gSTORE_16 gSTORE_40 gSTORE_44 (fun o ho => gBANK_any o ho) gSTORE_48 gSTORE_12 (fun o ho => gPLACE_any o ho)
    · refine SameO.some ?_
      exact State.keyed_same _ _ _ hk (fun _ h9 => State.onBit_same _ _ (State.onBit_same _ _ h9 (fun _ h10 => State.placeRun_same h10)) (fun _ h11 => State.floorDone_same h11 (gPLACE_any _ (by decide)))) (gPLACE_any _ (by decide))
    · refine SameO.ite (fun _ => ?_) (fun _ => ?_)
      · refine SameO.some ?_
        exact State.windowWrite_same _ _ hk (gPLACE_any _ (by (try simp only [List.mem_range, List.mem_cons, List.not_mem_nil, or_false] at hm); (try simp only [Fld.at]); omega))
      · exact SameO.none
  · split
    · refine SameO.some ?_
      exact State.keyed_same _ _ _ hk (fun _ h12 => State.twinCmd_same _ h12 (fun m => gCC_12 m) (fun m => gCC_16 m) (fun m o ho => gPDL_any m o ho) (fun m => gVDM_64 m) (fun m => gVDM_16 m) (fun m => gPOL_12 m) (fun m => gPOL_52 m) (fun m => gPOL_16 m) (fun m => gPOL_44 m) (fun m => gGUARD_12 m) (fun m => gVDM_52 m) (fun o ho => gSHARE_any o ho) (fun m => gVDM_96 m) (gTWIN_any _ (by decide)) (gTWIN_any _ (by decide)) (gTWIN_any _ (by decide))) (gTWIN_any _ (by decide))
    · refine SameO.some ?_
      exact State.mirShow_same _ hk (fun o ho => gTWIN_any o ho)
    · refine SameO.some ?_
      exact State.mirWrite_same _ hk (fun o ho => gTWIN_any o ho) (fun m => gCC_68 m)
    · exact SameO.none
  · refine SameO.ite (fun _ => ?_) (fun _ => ?_)
    · refine SameO.some ?_
      exact State.keyed_same _ _ _ hk (fun _ h13 => State.engyClearCmd_same _ h13) gENGY_16
    · exact SameO.none
  · exact SameO.none

theorem State.afterWrite_same (kind : PageKind) (i : ℕ) (off : ℕ) (old : Word) (hk : Same P s0 s) (gSUP_12 : P pSUP 12) (gSHARE_any : ∀ o, o < 256 → P pSHARE o) (gGPIO_16 : P pGPIO 16) (gHG_12 : ∀ m, P (pHG m) 12) (gHG_16 : ∀ m, P (pHG m) 16) (gFLEET_12 : P pFLEET 12) (gFLEET_16 : P pFLEET 16) (gHG_52 : ∀ m, P (pHG m) 52) (gHG_48 : ∀ m, P (pHG m) 48) (gID_64 : P pID 64) (gGAUGE_12 : P pGAUGE 12) (gMAINS_12 : P pMAINS 12) (gMAINS_72 : P pMAINS 72) : Same P s0 (State.afterWrite s kind i off old) := by
  unfold State.afterWrite
  extract_lets -merge -underBinder +onlyGivenNames x0 x1
  split
  · exact Same.ite (fun _ => State.put_same _ _ _ hk gSUP_12) (fun _ => hk)
  · exact Same.ite (fun _ => State.modHost_same _ hk) (fun _ => hk)
  · exact Same.ite (fun _ => State.claimNow_same _ hk) (fun _ => hk)
  · exact Same.ite (fun _ => State.shareResume_same hk (fun o ho => gSHARE_any o ho)) (fun _ => hk)
  · exact Same.ite (fun _ => State.gpioWatch_same hk gGPIO_16) (fun _ => hk)
  · extract_lets -merge -underBinder +onlyGivenNames x2
    exact Same.ite (fun _ => State.modLink_same _ _ (Same.ite (fun _ => State.linkTo_same _ _ hk (fun m => gHG_12 m) (fun m => gHG_16 m) gFLEET_12 gFLEET_16 (fun m => gHG_52 m) (fun m => gHG_48 m)) (fun _ => hk))) (fun _ => hk)
  · exact Same.ite (fun _ => State.enumerate_same hk gFLEET_12 gID_64 (fun m => gHG_52 m) (fun m => gHG_48 m)) (fun _ => hk)
  · exact Same.ite (fun _ => State.putB_same _ _ _ hk gGAUGE_12) (fun _ => hk)
  · exact Same.ite (fun _ => State.trialStart_same hk) (fun _ => hk)
  · exact State.mainsSync_same hk gMAINS_12 gMAINS_72
  · exact hk

theorem State.readInto_same (rq : Req) (pg : ℕ) (off : ℕ) (hk : Same P s0 s) (gp2_any : ∀ o, o < 256 → P pg o) (gAON_16 : P pAON 16) (gAON_60 : P pAON 60) (gFLASH_52 : P pFLASH 52) : Same P s0 (State.readInto s rq pg off) := by
  unfold State.readInto
  extract_lets -merge -underBinder +onlyGivenNames x0
  have hx0 : Same P s0 x0.1 := by
    refine Same.ofEq ?_ (State.regRead_same rq pg off hk gp2_any gAON_16 gAON_60 gFLASH_52)
    exact rfl
  try clear_value x0
  extract_lets -merge -underBinder +onlyGivenNames x1
  have hx1 : Same P s0 x1 := hx0
  try clear_value x1
  exact Same.mk' hx1

theorem State.regLoad_same (rq : Req) (pg : ℕ) (off : ℕ) (hk : Same P s0 s) (gp2_any : ∀ o, o < 256 → P pg o) (gAON_16 : P pAON 16) (gAON_60 : P pAON 60) (gFLASH_52 : P pFLASH 52) : Same P s0 (State.regLoad s rq pg off).1 := by
  unfold State.regLoad
  extract_lets -merge -underBinder +onlyGivenNames x0
  have hx0 : Same P s0 x0.1 := by
    refine Same.ofEq ?_ (State.regRead_same rq pg off hk gp2_any gAON_16 gAON_60 gFLASH_52)
    exact rfl
  try clear_value x0
  refine Same.mkFst ?_
  exact hx0

theorem State.skSpend_same (k : Engine) (n : ℕ) (hk : Same P s0 s) : Same P s0 (State.skSpend s k n) := by
  unfold State.skSpend
  exact State.modEng_same _ _ hk

theorem State.skApply_same (k : Engine) (n : EngSt) (hk : Same P s0 s) : Same P s0 (State.skApply s k n) := by
  unfold State.skApply
  exact State.modEng_same _ _ hk

theorem State.skYield_same (k : Engine) (kind : ℕ) (readyAt : ℕ) (dl : Option Word) (phase : ℕ) (hk : Same P s0 s) (gPLCR_16 : P pPLCR 16) (gPLCR_52 : P pPLCR 52) (gSTORE_16 : P pSTORE 16) (gSTORE_40 : P pSTORE 40) (gSTORE_44 : P pSTORE 44) (gBANK_any : ∀ o, o < 256 → P pBANK o) (gSTORE_48 : P pSTORE 48) (gSTORE_12 : P pSTORE 12) (gPLCR_56 : P pPLCR 56) (gENG_36 : P (pENG k) 36) (gENG_32 : P (pENG k) 32) (gENG_44 : P (pENG k) 44) : Same P s0 (State.skYield s k kind readyAt dl phase) := by
  unfold State.skYield
  exact Same.ite (fun _ => State.idleReassign_same _ _ (State.endRun_same _ _ _ _ hk gENG_44 gENG_32) gPLCR_16 gPLCR_52 gSTORE_16 gSTORE_40 gSTORE_44 (fun o ho => gBANK_any o ho) gSTORE_48 gSTORE_12 gPLCR_56 gENG_36 gENG_32) (fun _ => hk)

theorem State.skFault_same (k : Engine) (f : ℕ × ℕ) (phase : ℕ) (hk : Same P s0 s) (gPLCR_16 : P pPLCR 16) (gPLCR_52 : P pPLCR 52) (gSTORE_16 : P pSTORE 16) (gSTORE_40 : P pSTORE 40) (gSTORE_44 : P pSTORE 44) (gBANK_any : ∀ o, o < 256 → P pBANK o) (gSTORE_48 : P pSTORE 48) (gSTORE_12 : P pSTORE 12) (gPLCR_56 : P pPLCR 56) (gENG_36 : P (pENG k) 36) (gENG_32 : P (pENG k) 32) (gENG_44 : P (pENG k) 44) : Same P s0 (State.skFault s k f phase) := by
  unfold State.skFault
  extract_lets -merge -underBinder +onlyGivenNames x0
  exact Same.ite (fun _ => State.skYield_same _ _ _ _ _ hk gPLCR_16 gPLCR_52 gSTORE_16 gSTORE_40 gSTORE_44 (fun o ho => gBANK_any o ho) gSTORE_48 gSTORE_12 gPLCR_56 gENG_36 gENG_32 gENG_44) (fun _ => State.modEng_same _ _ hk)

theorem State.winStep_same (words : ℕ) (hk : Same P s0 s) (gHOST_44 : P pHOST 44) : Same P s0 (State.winStep s words) := by
  unfold State.winStep
  exact State.put_same _ _ _ hk gHOST_44

theorem State.readFinish_same (cmd : ℕ) (pre : Option (List Byte)) (head : List Byte) (data : List Byte) (pec : Bool) (e : Option (BusErr × ℕ)) (load : Bool) (code : ℕ) (detail : ℕ) (adv : ℕ) (hk : Same P s0 s) (gHOST_44 : P pHOST 44) (gHOST_52 : P pHOST 52) (gHOST_16 : P pHOST 16) (gHOST_48 : P pHOST 48) : Same P s0 (State.readFinish s cmd pre head data pec e load code detail adv) := by
  unfold State.readFinish
  extract_lets -merge -underBinder +onlyGivenNames x0 x1 x2 x3
  have hx3 : Same P s0 x3 := State.modHost_same _ hk
  try clear_value x3
  extract_lets -merge -underBinder +onlyGivenNames x4
  have hx4 : Same P s0 x4 := Same.ite (fun _ => State.winStep_same _ hx3 gHOST_44) (fun _ => hx3)
  try clear_value x4
  exact Same.ite (fun _ => State.hostErr_same _ _ hx4 gHOST_52 gHOST_16 gHOST_48) (fun _ => Same.ite (fun _ => State.hostLoad_same _ _ _ hx4 gHOST_48) (fun _ => hx4))

theorem State.writeEnd_same (cmd : ℕ) (bytes : List Byte) (pec : Option (BitVec 8)) (e : Option BusErr) {f : State → State} (hk : Same P s0 s) (hf : ∀ a0, Same P s0 a0 → Same P s0 (f a0)) (gHOST_52 : P pHOST 52) (gHOST_16 : P pHOST 16) (gHOST_48 : P pHOST 48) : Same P s0 (State.writeEnd s cmd bytes pec e f) := by
  unfold State.writeEnd
  refine Same.ite (fun _ => ?_) (fun _ => ?_)
  · exact State.hostErr_same _ _ hk gHOST_52 gHOST_16 gHOST_48
  · split
    · refine Same.ite (fun _ => ?_) (fun _ => ?_)
      · exact State.hostErr_same _ _ hk gHOST_52 gHOST_16 gHOST_48
      · refine hf _ ?_
        exact hk
    · refine Same.ite (fun _ => ?_) (fun _ => ?_)
      · refine hf _ ?_
        exact hk
      · exact State.hostErr_same _ _ hk gHOST_52 gHOST_16 gHOST_48

theorem State.writeDone_same (cmd : ℕ) (words : ℕ) (hk : Same P s0 s) (gHOST_44 : P pHOST 44) (gHOST_48 : P pHOST 48) : Same P s0 (State.writeDone s cmd words) := by
  unfold State.writeDone
  exact Same.ite (fun _ => State.winStep_same _ (State.hostLoad_same _ _ _ hk gHOST_48) gHOST_44) (fun _ => hk)

theorem State.regSend_same (words : List Word) (count : ℕ) (hk : Same P s0 s) (gHG_52 : ∀ m, P (pHG m) 52) (gHG_48 : ∀ m, P (pHG m) 48) : Same P s0 (State.regSend s words count) := by
  unfold State.regSend
  extract_lets -merge -underBinder +onlyGivenNames x0 x1 x2
  have hx2 : Same P s0 x2 := State.sendTo_same _ _ _ _ hk (fun m => gHG_52 m) (fun m => gHG_48 m)
  try clear_value x2
  exact State.modFleet_same _ hx2

theorem State.heldDrop_same (hk : Same P s0 s) : Same P s0 (State.heldDrop s) := by
  unfold State.heldDrop
  exact State.modHost_same _ hk

theorem State.wordsFinish_same (c : HostCmd) (words : List Word) (code : ℕ) (detail : ℕ) (hk : Same P s0 s) (gHOST_44 : P pHOST 44) (gHOST_52 : P pHOST 52) (gHOST_16 : P pHOST 16) (gHOST_48 : P pHOST 48) : Same P s0 (State.wordsFinish s c words code detail) := by
  unfold State.wordsFinish
  split
  · exact hk
  · extract_lets -merge -underBinder +onlyGivenNames x0
    exact State.readFinish_same _ _ _ _ _ _ _ _ _ _ hk gHOST_44 gHOST_52 gHOST_16 gHOST_48

theorem State.hostBusy_same (c : HostCmd) (hk : Same P s0 s) (gHOST_48 : P pHOST 48) (gHOST_44 : P pHOST 44) (gHOST_52 : P pHOST 52) (gHOST_16 : P pHOST 16) : Same P s0 (State.hostBusy s c) := by
  unfold State.hostBusy
  split
  · exact State.hostLoad_same _ _ _ hk gHOST_48
  · exact State.wordsFinish_same _ _ _ _ hk gHOST_44 gHOST_52 gHOST_16 gHOST_48
  · exact State.wordsFinish_same _ _ _ _ hk gHOST_44 gHOST_52 gHOST_16 gHOST_48
  · exact State.readFinish_same _ _ _ _ _ _ _ _ _ _ hk gHOST_44 gHOST_52 gHOST_16 gHOST_48
  · exact State.hostLoad_same _ _ _ hk gHOST_48

theorem State.hostPlain_same (keep : Bool) {f : State → State} (hk : Same P s0 s) (hf : ∀ a0, Same P s0 a0 → Same P s0 (f a0)) (gHOST_60 : P pHOST 60) : Same P s0 (State.hostPlain s keep f) := by
  unfold State.hostPlain
  extract_lets -merge -underBinder +onlyGivenNames x0
  have hx0 : Same P s0 x0 := State.put_same _ _ _ (State.modHost_same _ hk) gHOST_60
  try clear_value x0
  refine Same.ite (fun _ => ?_) (fun _ => ?_)
  · exact hk
  · refine hf _ ?_
    exact Same.ite (fun _ => hx0) (fun _ => State.heldDrop_same hx0)

theorem State.stretched_same (us : ℕ) (hk : Same P s0 s) (gHOST_60 : P pHOST 60) : Same P s0 (State.stretched s us) := by
  unfold State.stretched
  extract_lets -merge -underBinder +onlyGivenNames x0 x1
  have hx1 : Same P s0 x1 := State.put_same _ _ _ hk gHOST_60
  try clear_value x1
  exact State.modHost_same _ (State.put_same _ _ _ hx1 gHOST_60)

theorem State.stretchMet_same (hk : Same P s0 s) (gHOST_60 : P pHOST 60) : Same P s0 (State.stretchMet s) := by
  unfold State.stretchMet
  exact State.freshen_same (State.stretched_same _ hk gHOST_60)

theorem State.updKey_same (key : BitVec 16) {f : State → State} (hk : Same P s0 s) (hf : ∀ a0, Same P s0 a0 → Same P s0 (f a0)) (gUPD_16 : P pUPD 16) : Same P s0 (State.updKey s key f) := by
  unfold State.updKey
  refine State.keyCmd_same _ _ _ ?_ ?_ gUPD_16
  · exact hk
  · intro s0_0 hs0_1
    refine hf _ ?_
    exact State.updPost_same hs0_1

theorem State.imgFrame_same (i : ℕ) (kind : Option ℕ) (len : ℕ) {f : State → List Byte → State} (hk : Same P s0 s) (hf : ∀ a0 a1, Same P s0 a0 → Same P s0 (f a0 a1)) (gFLEET_100 : P pFLEET 100) (gSTORE_16 : P pSTORE 16) (gSTORE_40 : P pSTORE 40) (gSTORE_44 : P pSTORE 44) (gBANK_any : ∀ o, o < 256 → P pBANK o) (gSTORE_48 : P pSTORE 48) (gSTORE_12 : P pSTORE 12) : Same P s0 (State.imgFrame s i kind len f) := by
  unfold State.imgFrame
  extract_lets -merge -underBinder +onlyGivenNames x0 x1
  refine Same.ite (fun _ => ?_) (fun _ => ?_)
  · exact hk
  · refine Same.ite (fun _ => ?_) (fun _ => ?_)
    · exact hk
    · refine Same.ite (fun _ => ?_) (fun _ => ?_)
      · exact State.rxRelease_same _ (State.stNote_same _ _ _ hk gSTORE_16 gSTORE_40 gSTORE_44 (fun o ho => gBANK_any o ho) gSTORE_48 gSTORE_12) gFLEET_100
      · refine State.rxRelease_same _ ?_ gFLEET_100
        refine hf _ _ ?_
        exact hk

theorem State.imgOn_same {f : State → State} (hk : Same P s0 s) (hf : ∀ a0, Same P s0 a0 → Same P s0 (f a0)) : Same P s0 (State.imgOn s f) := by
  unfold State.imgOn
  extract_lets -merge -underBinder +onlyGivenNames x0
  refine Same.ite (fun _ => ?_) (fun _ => ?_)
  · refine hf _ ?_
    exact Same.mk' hk
  · exact hk

theorem State.reportOwe_same (event : ℕ) (hk : Same P s0 s) : Same P s0 (State.reportOwe s event) := by
  unfold State.reportOwe
  exact Same.mk' hk

theorem State.imgStart_same (p : List Byte) (hk : Same P s0 s) (gUPD_16 : P pUPD 16) (gUPD_36 : P pUPD 36) (gBOOT_32 : P pBOOT 32) (gNVD_52 : P pNVD 52) : Same P s0 (State.imgStart s p) := by
  unfold State.imgStart
  extract_lets -merge -underBinder +onlyGivenNames x0 x1 x2 x3
  have hx3 : Same P s0 x3 := Same.mk' hk
  try clear_value x3
  extract_lets -merge -underBinder +onlyGivenNames x4 x5
  have hx5 : Same P s0 x5 := Same.mk' hx3
  try clear_value x5
  extract_lets -merge -underBinder +onlyGivenNames x6
  have hx6 : ∀ a0, Same P s0 a0 → Same P s0 (x6 a0) := by
    intro s7_0 hs7_1
    unfold x6
    beta_reduce
    exact Same.mk' hs7_1
  try clear_value x6
  refine Same.ite (fun _ => ?_) (fun _ => ?_)
  · exact hx3
  · split
    · refine Same.ite (fun _ => ?_) (fun _ => ?_)
      · exact State.updResult_same _ hx5 gUPD_16 gUPD_36
      · split
        · rename_i y8 e8
          have hy8 : Same P s0 y8 := by
            refine SameO.get ?_ e8
            refine State.sessOpen_same _ ?_ gBOOT_32 gUPD_36 gNVD_52
            exact hx5
          refine State.updResult_same _ ?_ gUPD_16 gUPD_36
          refine hx6 _ ?_
          exact hy8
        · exact State.updResult_same _ hx5 gUPD_16 gUPD_36
    · refine Same.ite (fun _ => ?_) (fun _ => ?_)
      · exact State.updResult_same _ hx5 gUPD_16 gUPD_36
      · refine State.updResult_same _ ?_ gUPD_16 gUPD_36
        refine hx6 _ ?_
        exact hx5
    · exact State.updResult_same _ hx5 gUPD_16 gUPD_36

theorem State.modDist_same (f : Dist → Dist) (hk : Same P s0 s) : Same P s0 (State.modDist s f) := by
  unfold State.modDist
  exact Same.mk' hk

theorem State.imgSend_same (bcast : Bool) (dest : ℕ) (payload : List Byte) (hk : Same P s0 s) (gFLEET_16 : P pFLEET 16) (gSTORE_16 : P pSTORE 16) (gSTORE_40 : P pSTORE 40) (gSTORE_44 : P pSTORE 44) (gBANK_any : ∀ o, o < 256 → P pBANK o) (gSTORE_48 : P pSTORE 48) (gSTORE_12 : P pSTORE 12) (gHG_52 : ∀ m, P (pHG m) 52) (gHG_48 : ∀ m, P (pHG m) 48) : Same P s0 (State.imgSend s bcast dest payload) := by
  unfold State.imgSend
  exact State.sendEngine_same _ _ _ _ _ _ _ hk gFLEET_16 gSTORE_16 gSTORE_40 gSTORE_44 (fun o ho => gBANK_any o ho) gSTORE_48 gSTORE_12 (fun m => gHG_52 m) (fun m => gHG_48 m)

theorem State.distNodeFail_same (k : ℕ) (hk : Same P s0 s) (gUPD_any : ∀ o, o < 256 → P pUPD o) : Same P s0 (State.distNodeFail s k) := by
  unfold State.distNodeFail
  extract_lets -merge -underBinder +onlyGivenNames x0
  have hx0 : Same P s0 x0 := State.incr_same _ _ (State.setMapBit_same _ _ _ _ hk (fun o ho => gUPD_any o ho)) (gUPD_any _ (by decide))
  try clear_value x0
  exact Same.ite (fun _ => hk) (fun _ => State.modDist_same _ hx0)

theorem State.distReport_same (d : Dist) (k : ℕ) (p : List Byte) (hk : Same P s0 s) (gUPD_any : ∀ o, o < 256 → P pUPD o) : Same P s0 (State.distReport s d k p) := by
  unfold State.distReport
  extract_lets -merge -underBinder +onlyGivenNames x0 x1
  clear_value x1
  extract_lets -merge -underBinder +onlyGivenNames x2
  have hx2 : ∀ a0, Same P s0 a0 → Same P s0 (x2 a0) := by
    intro s3_0 hs3_1
    unfold x2
    beta_reduce
    exact State.modDist_same _ hs3_1
  try clear_value x2
  refine Same.ite (fun _ => ?_) (fun _ => ?_)
  · exact hk
  · split
    · refine Same.ite (fun _ => ?_) (fun _ => ?_)
      · exact State.distNodeFail_same _ hk (fun o ho => gUPD_any o ho)
      · refine State.modDist_same _ ?_
        refine hx2 _ ?_
        exact hk
    · refine Same.ite (fun _ => ?_) (fun _ => ?_)
      · exact State.distNodeFail_same _ hk (fun o ho => gUPD_any o ho)
      · refine State.modDist_same _ ?_
        refine hx2 _ ?_
        exact hk
    · refine Same.ite (fun _ => ?_) (fun _ => ?_)
      · exact State.distNodeFail_same _ hk (fun o ho => gUPD_any o ho)
      · refine hx2 _ ?_
        exact hk
    · refine State.incr_same _ _ ?_ (gUPD_any _ (by decide))
      refine hx2 _ ?_
      exact hk
    · exact State.distNodeFail_same _ hk (fun o ho => gUPD_any o ho)
    · exact hk

theorem State.setDist_same (x : Dist) (hk : Same P s0 s) : Same P s0 (State.setDist s x) := by
  unfold State.setDist
  exact Same.mk' hk

theorem State.distPages_same (d : Dist) (hk : Same P s0 s) (gFLEET_16 : P pFLEET 16) (gSTORE_16 : P pSTORE 16) (gSTORE_40 : P pSTORE 40) (gSTORE_44 : P pSTORE 44) (gBANK_any : ∀ o, o < 256 → P pBANK o) (gSTORE_48 : P pSTORE 48) (gSTORE_12 : P pSTORE 12) (gHG_52 : ∀ m, P (pHG m) 52) (gHG_48 : ∀ m, P (pHG m) 48) : Same P s0 (State.distPages s d) := by
  unfold State.distPages
  split
  · exact State.setDist_same _ hk
  · exact State.setDist_same _ (State.imgSend_same _ _ _ hk gFLEET_16 gSTORE_16 gSTORE_40 gSTORE_44 (fun o ho => gBANK_any o ho) gSTORE_48 gSTORE_12 (fun m => gHG_52 m) (fun m => gHG_48 m))
  · extract_lets -merge -underBinder +onlyGivenNames x0
    extract_lets -merge -underBinder +onlyGivenNames x1
    exact State.setDist_same _ (State.imgSend_same _ _ _ hk gFLEET_16 gSTORE_16 gSTORE_40 gSTORE_44 (fun o ho => gBANK_any o ho) gSTORE_48 gSTORE_12 (fun m => gHG_52 m) (fun m => gHG_48 m))

theorem State.distRound_same (d : Dist) (hk : Same P s0 s) (gFLEET_16 : P pFLEET 16) (gSTORE_16 : P pSTORE 16) (gSTORE_40 : P pSTORE 40) (gSTORE_44 : P pSTORE 44) (gBANK_any : ∀ o, o < 256 → P pBANK o) (gSTORE_48 : P pSTORE 48) (gSTORE_12 : P pSTORE 12) (gHG_52 : ∀ m, P (pHG m) 52) (gHG_48 : ∀ m, P (pHG m) 48) (gUPD_any : ∀ o, o < 256 → P pUPD o) : Same P s0 (State.distRound s d) := by
  unfold State.distRound
  extract_lets -merge -underBinder +onlyGivenNames x0 x1
  have hx1 : Same P s0 x1 := State.imgSend_same _ _ _ (State.put_same _ _ _ (State.put_same _ _ _ hk (gUPD_any _ (by decide))) (gUPD_any _ (by decide))) gFLEET_16 gSTORE_16 gSTORE_40 gSTORE_44 (fun o ho => gBANK_any o ho) gSTORE_48 gSTORE_12 (fun m => gHG_52 m) (fun m => gHG_48 m)
  try clear_value x1
  extract_lets -merge -underBinder +onlyGivenNames x2
  exact Same.ite (fun _ => hk) (fun _ => Same.ite (fun _ => State.setDist_same _ hx1) (fun _ => State.modDist_same _ (foldl_same _ hk (fun _ _ _ h3 => State.distNodeFail_same _ h3 (fun o ho => gUPD_any o ho)))))

theorem State.distGroup_same (d : Dist) (hk : Same P s0 s) (gFLEET_16 : P pFLEET 16) (gSTORE_16 : P pSTORE 16) (gSTORE_40 : P pSTORE 40) (gSTORE_44 : P pSTORE 44) (gBANK_any : ∀ o, o < 256 → P pBANK o) (gSTORE_48 : P pSTORE 48) (gSTORE_12 : P pSTORE 12) (gHG_52 : ∀ m, P (pHG m) 52) (gHG_48 : ∀ m, P (pHG m) 48) : Same P s0 (State.distGroup s d) := by
  unfold State.distGroup
  extract_lets -merge -underBinder +onlyGivenNames x0 x1
  exact Same.ite (fun _ => State.setDist_same _ hk) (fun _ => State.setDist_same _ (foldl_same _ hk (fun _ _ _ h2 => State.imgSend_same _ _ _ h2 gFLEET_16 gSTORE_16 gSTORE_40 gSTORE_44 (fun o ho => gBANK_any o ho) gSTORE_48 gSTORE_12 (fun m => gHG_52 m) (fun m => gHG_48 m))))

theorem State.distLate_same (d : Dist) (late : Bool) (hk : Same P s0 s) (gUPD_any : ∀ o, o < 256 → P pUPD o) : Same P s0 (State.distLate s d late) := by
  unfold State.distLate
  extract_lets -merge -underBinder +onlyGivenNames x0
  have hx0 : Same P s0 x0 := Same.ite (fun _ => foldl_same _ hk (fun _ _ _ h1 => State.distNodeFail_same _ h1 (fun o ho => gUPD_any o ho))) (fun _ => hk)
  try clear_value x0
  exact State.modDist_same _ hx0

theorem State.distEnd_same (hk : Same P s0 s) (gUPD_16 : P pUPD 16) (gUPD_76 : P pUPD 76) : Same P s0 (State.distEnd s) := by
  unfold State.distEnd
  extract_lets -merge -underBinder +onlyGivenNames x0 x1
  have hx1 : Same P s0 x1 := State.raise_same _ _ (State.put_same _ _ _ (Same.mk' hk) gUPD_76) gUPD_16

  exact Same.ite (fun _ => State.activationReset_same _ hx1) (fun _ => hx1)

theorem State.distStep_same (d : Dist) (late : Bool) (hk : Same P s0 s) (gFLEET_16 : P pFLEET 16) (gSTORE_16 : P pSTORE 16) (gSTORE_40 : P pSTORE 40) (gSTORE_44 : P pSTORE 44) (gBANK_any : ∀ o, o < 256 → P pBANK o) (gSTORE_48 : P pSTORE 48) (gSTORE_12 : P pSTORE 12) (gHG_52 : ∀ m, P (pHG m) 52) (gHG_48 : ∀ m, P (pHG m) 48) (gUPD_any : ∀ o, o < 256 → P pUPD o) : Same P s0 (State.distStep s d late) := by
  unfold State.distStep
  split
  · extract_lets -merge -underBinder +onlyGivenNames x0
    exact State.setDist_same _ (State.imgSend_same _ _ _ hk gFLEET_16 gSTORE_16 gSTORE_40 gSTORE_44 (fun o ho => gBANK_any o ho) gSTORE_48 gSTORE_12 (fun m => gHG_52 m) (fun m => gHG_48 m))
  · exact State.distPages_same _ hk gFLEET_16 gSTORE_16 gSTORE_40 gSTORE_44 (fun o ho => gBANK_any o ho) gSTORE_48 gSTORE_12 (fun m => gHG_52 m) (fun m => gHG_48 m)
  · exact State.setDist_same _ (State.imgSend_same _ _ _ hk gFLEET_16 gSTORE_16 gSTORE_40 gSTORE_44 (fun o ho => gBANK_any o ho) gSTORE_48 gSTORE_12 (fun m => gHG_52 m) (fun m => gHG_48 m))
  · exact State.distRound_same _ hk gFLEET_16 gSTORE_16 gSTORE_40 gSTORE_44 (fun o ho => gBANK_any o ho) gSTORE_48 gSTORE_12 (fun m => gHG_52 m) (fun m => gHG_48 m) (fun o ho => gUPD_any o ho)
  · exact State.setDist_same _ (State.imgSend_same _ _ _ (State.put_same _ _ _ hk (gUPD_any _ (by decide))) gFLEET_16 gSTORE_16 gSTORE_40 gSTORE_44 (fun o ho => gBANK_any o ho) gSTORE_48 gSTORE_12 (fun m => gHG_52 m) (fun m => gHG_48 m))
  · exact Same.ite (fun _ => State.setDist_same _ (State.put_same _ _ _ hk (gUPD_any _ (by decide)))) (fun _ => hk)
  · exact State.distGroup_same _ hk gFLEET_16 gSTORE_16 gSTORE_40 gSTORE_44 (fun o ho => gBANK_any o ho) gSTORE_48 gSTORE_12 (fun m => gHG_52 m) (fun m => gHG_48 m)
  · exact State.distLate_same _ _ hk (fun o ho => gUPD_any o ho)
  · exact State.distEnd_same hk (gUPD_any _ (by decide)) (gUPD_any _ (by decide))

theorem State.vsys_same (mv : ℕ) {f : State → State} (hk : Same P s0 s) (hf : ∀ a0, Same P s0 a0 → Same P s0 (f a0)) : Same P s0 (State.vsys s mv f) := by
  unfold State.vsys
  extract_lets -merge -underBinder +onlyGivenNames x0 x1
  have hx1 : Same P s0 x1 := Same.mk' hk
  try clear_value x1
  refine Same.ite (fun _ => ?_) (fun _ => ?_)
  · refine hf _ ?_
    exact hx1
  · exact hx1

theorem State.setSrc_same (src : ℕ) (hk : Same P s0 s) (gSUP_16 : P pSUP 16) (gSUP_12 : P pSUP 12) : Same P s0 (State.setSrc s src) := by
  unfold State.setSrc
  exact State.raise_same _ _ (State.put_same _ _ _ hk gSUP_12) gSUP_16

theorem State.modeKey_same (key : BitVec 16) (m : ℕ) (hk : Same P s0 s) (gAON_16 : P pAON 16) (gAON_36 : P pAON 36) : Same P s0 (State.modeKey s key m) := by
  unfold State.modeKey
  exact State.keyCmd_same _ _ _ hk (fun _ h0 => State.modeReq_same _ h0 gAON_16 gAON_36) gAON_16

theorem State.zeroChain_same (src : ℕ) (n : Port) (hk : Same P s0 s) (gAON_44 : P pAON 44) : Same P s0 (State.zeroChain s src n) := by
  unfold State.zeroChain
  extract_lets -merge -underBinder +onlyGivenNames x0 x1
  have hx1 : Same P s0 x1 := Same.ite (fun _ => State.put_same _ _ _ hk gAON_44) (fun _ => hk)
  try clear_value x1
  exact Same.mk' hx1

theorem State.watchSample_same (n : Port) (mv1 : ℕ) (mv2 : ℕ) (hk : Same P s0 s) (gCC_56 : P (pCC n) 56) : Same P s0 (State.watchSample s n mv1 mv2).1 := by
  unfold State.watchSample
  extract_lets -merge -underBinder +onlyGivenNames x0 x1
  have hx1 : Same P s0 x1 := State.lineShow_same _ (State.ccStore_same _ _ _ hk) gCC_56
  try clear_value x1
  extract_lets -merge -underBinder +onlyGivenNames x2
  refine Same.mkFst ?_
  exact State.modCc_same _ _ hx1

theorem State.watchAll_same (l : List (Port × ℕ × ℕ)) (hk : Same P s0 s) (gCC_56 : ∀ m, P (pCC m) 56) : Same P s0 (State.watchAll s l).1 := by
  induction l generalizing s with
  | nil => exact hk
  | cons c l ih =>
    simp only [State.watchAll]
    exact ih (State.watchSample_same _ _ _ hk (gCC_56 _))

theorem State.watchWait_same (n : Port) (mv1 : ℕ) (mv2 : ℕ) (hk : Same P s0 s) (gCC_56 : P (pCC n) 56) (gCC_16 : P (pCC n) 16) (gCC_12 : P (pCC n) 12) (gPDL_any : ∀ o, o < 256 → P (pPDL n) o) (gVDM_64 : P (pVDM n) 64) (gVDM_16 : P (pVDM n) 16) (gPOL_12 : P (pPOL n) 12) (gPOL_52 : P (pPOL n) 52) (gPOL_16 : P (pPOL n) 16) (gPOL_44 : P (pPOL n) 44) (gGUARD_12 : P (pGUARD n) 12) (gVDM_52 : P (pVDM n) 52) (gSHARE_any : ∀ o, o < 256 → P pSHARE o) (gVDM_96 : P (pVDM n) 96) : Same P s0 (State.watchWait s n mv1 mv2) := by
  unfold State.watchWait
  extract_lets -merge -underBinder +onlyGivenNames x0 x1
  have hx1 : Same P s0 x1 := State.lineShow_same _ (Same.ite (fun _ => hk) (fun _ => State.ccStore_same _ _ _ hk)) gCC_56
  try clear_value x1
  refine Same.ite (fun _ => ?_) (fun _ => ?_)
  · split
    · exact State.modCc_same _ _ (State.ccEnter_same _ _ hx1 gCC_16 gCC_12 (fun o ho => gPDL_any o ho) gVDM_64 gVDM_16 gPOL_12 gPOL_52 gPOL_16 gPOL_44 gGUARD_12 gVDM_52 (fun o ho => gSHARE_any o ho) gVDM_96)
    · exact State.modCc_same _ _ (State.ccEnter_same _ _ hx1 gCC_16 gCC_12 (fun o ho => gPDL_any o ho) gVDM_64 gVDM_16 gPOL_12 gPOL_52 gPOL_16 gPOL_44 gGUARD_12 gVDM_52 (fun o ho => gSHARE_any o ho) gVDM_96)
    · exact hx1
  · exact hx1

theorem State.dozeTick_same (hk : Same P s0 s) (gAON_36 : P pAON 36) : Same P s0 (State.dozeTick s) := by
  unfold State.dozeTick
  extract_lets -merge -underBinder +onlyGivenNames x0
  exact Same.ite (fun _ => Same.ite (fun _ => hk) (fun _ => State.put_same _ _ _ hk gAON_36)) (fun _ => Same.ite (fun _ => State.put_same _ _ _ hk gAON_36) (fun _ => hk))

theorem State.modMains_same (f : MainsSt → MainsSt) (hk : Same P s0 s) : Same P s0 (State.modMains s f) := by
  unfold State.modMains
  exact Same.mk' hk

theorem State.mainsBudget_same (hk : Same P s0 s) (gMAINS_72 : P pMAINS 72) : Same P s0 (State.mainsBudget s) := by
  unfold State.mainsBudget
  extract_lets -merge -underBinder +onlyGivenNames x0
  exact State.put_same _ _ _ hk gMAINS_72

theorem State.mainsLine_same (st : ℕ) (hk : Same P s0 s) (gMAINS_72 : P pMAINS 72) (gMAINS_16 : P pMAINS 16) (gMAINS_40 : P pMAINS 40) : Same P s0 (State.mainsLine s st) := by
  unfold State.mainsLine
  extract_lets -merge -underBinder +onlyGivenNames x0
  have hx0 : Same P s0 x0 := State.raise_same _ _ (State.put_same _ _ _ hk gMAINS_40) gMAINS_16
  try clear_value x0
  extract_lets -merge -underBinder +onlyGivenNames x1
  have hx1 : Same P s0 x1 := by
    unfold x1
    split
    · exact State.raise_same _ _ hx0 gMAINS_16
    · exact State.raise_same _ _ hx0 gMAINS_16
    · exact State.raise_same _ _ hx0 gMAINS_16
    · exact hx0
  try clear_value x1
  exact Same.ite (fun _ => State.mainsBudget_same hk gMAINS_72) (fun _ => State.mainsBudget_same hx1 gMAINS_72)

theorem State.mainsShow_same (hk : Same P s0 s) (gMAINS_36 : P pMAINS 36) (gMAINS_32 : P pMAINS 32) (gMAINS_40 : P pMAINS 40) (gMAINS_72 : P pMAINS 72) (gMAINS_16 : P pMAINS 16) : Same P s0 (State.mainsShow s) := by
  unfold State.mainsShow
  extract_lets -merge -underBinder +onlyGivenNames x0 x1
  have hx1 : Same P s0 x1 := State.put_same _ _ _ (State.put_same _ _ _ (State.put_same _ _ _ hk gMAINS_32) gMAINS_32) gMAINS_36
  try clear_value x1
  extract_lets -merge -underBinder +onlyGivenNames x2
  have hx2 : Same P s0 x2 := State.bump_same _ _ _ (State.putB_same _ _ _ hx1 gMAINS_36) gMAINS_40
  try clear_value x2
  exact Same.ite (fun _ => hk) (fun _ => State.mainsLine_same _ (State.modMains_same _ hx2) gMAINS_72 gMAINS_16 gMAINS_40)

theorem State.scrubCheck_same (wrong : BitVec 4) (hk : Same P s0 s) (gSTORE_16 : P pSTORE 16) (gSTORE_40 : P pSTORE 40) (gSTORE_44 : P pSTORE 44) (gBANK_any : ∀ o, o < 256 → P pBANK o) (gSTORE_48 : P pSTORE 48) (gSTORE_12 : P pSTORE 12) (gSTORE_36 : P pSTORE 36) : Same P s0 (State.scrubCheck s wrong) := by
  unfold State.scrubCheck
  extract_lets -merge -underBinder +onlyGivenNames x0
  split
  · exact hk
  · extract_lets -merge -underBinder +onlyGivenNames x1
    extract_lets -merge -underBinder +onlyGivenNames x2 x3
    have hx3 : Same P s0 x3 := foldl_same _ hk (fun _ _ _ h4 => Same.ite (fun _ => State.stSpoil_same _ h4) (fun _ => h4))
    try clear_value x3
    extract_lets -merge -underBinder +onlyGivenNames x5
    have hx5 : Same P s0 x5 := Same.ite (fun _ => State.storeParity_same _ _ hx3 gSTORE_16 gSTORE_40 gSTORE_44 (fun o ho => gBANK_any o ho) gSTORE_48 gSTORE_12) (fun _ => hx3)
    try clear_value x5
    extract_lets -merge -underBinder +onlyGivenNames x6 x7 x8
    have hx8 : Same P s0 x8 := Same.mk' hx5
    try clear_value x8
    extract_lets -merge -underBinder +onlyGivenNames x9 x10
    have hx10 : Same P s0 x10 := Same.mk' hx8
    try clear_value x10
    exact Same.ite (fun _ => State.put_same _ _ _ hx8 gSTORE_36) (fun _ => State.raise_same _ _ (State.incr_same _ _ (State.put_same _ _ _ hx10 gSTORE_36) gSTORE_36) gSTORE_16)

theorem State.rewriteTest_same (same : Bool) (hk : Same P s0 s) (gSTORE_16 : P pSTORE 16) (gBANK_36 : P pBANK 36) (gSTORE_12 : P pSTORE 12) (gBANK_32 : P pBANK 32) (gBANK_44 : P pBANK 44) : Same P s0 (State.rewriteTest s same) := by
  unfold State.rewriteTest
  split
  · exact hk
  · extract_lets -merge -underBinder +onlyGivenNames x0
    extract_lets -merge -underBinder +onlyGivenNames x1
    have hx1 : Same P s0 x1 := Same.mk' hk
    try clear_value x1
    exact Same.ite (fun _ => hx1) (fun _ => State.bankFaulty_same _ hx1 gSTORE_16 gBANK_36 gSTORE_12 gBANK_32 gBANK_44)

theorem State.eraseSecrets_same (hk : Same P s0 s) (gNVD_52 : P pNVD 52) (gUPD_any : ∀ o, o < 256 → P pUPD o) (gDBG_any : ∀ o, o < 256 → P pDBG o) : Same P s0 (State.eraseSecrets s) := by
  unfold State.eraseSecrets
  extract_lets -merge -underBinder +onlyGivenNames x0
  have hx0 : Same P s0 x0 := State.nvdErasePage_same _ (State.nvdErasePage_same _ hk gNVD_52) gNVD_52
  try clear_value x0
  extract_lets -merge -underBinder +onlyGivenNames x1
  have hx1 : Same P s0 x1 := Same.mk' hx0
  try clear_value x1
  exact foldl_same _ hx1 (fun _ _ hm h2 => State.wr_same _ _ _ (State.wr_same _ _ _ h2 (gDBG_any _ (by (try simp only [List.mem_range, List.mem_cons, List.not_mem_nil, or_false] at hm); (try simp only [Fld.at]); omega))) (gUPD_any _ (by (try simp only [List.mem_range, List.mem_cons, List.not_mem_nil, or_false] at hm); (try simp only [Fld.at]); omega)))

theorem State.dbgTo_same (d : DbgState) (hk : Same P s0 s) : Same P s0 (State.dbgTo s d) := by
  unfold State.dbgTo
  exact Same.mk' hk

theorem State.dbgChecked_same (code : ℕ) (hk : Same P s0 s) (gDBG_48 : P pDBG 48) : Same P s0 (State.dbgChecked s code) := by
  unfold State.dbgChecked
  exact State.put_same _ _ _ (Same.mk' hk) gDBG_48

theorem State.dbgVerdict_same (code : ℕ) (hk : Same P s0 s) (gDBG_16 : P pDBG 16) (gDBG_48 : P pDBG 48) (gBOOT_32 : P pBOOT 32) (gUPD_36 : P pUPD 36) (gNVD_52 : P pNVD 52) : Same P s0 (State.dbgVerdict s code) := by
  unfold State.dbgVerdict
  exact Same.ite (fun _ => State.raise_same _ _ (State.tokFail_same (State.dbgChecked_same _ hk gDBG_48)) gDBG_16) (fun _ => State.dbgTo_same _ (State.bootDecide_same _ (State.dbgChecked_same _ hk gDBG_48) gBOOT_32 gUPD_36 gNVD_52))

theorem State.dbgErased_same (hk : Same P s0 s) (gDBG_any : ∀ o, o < 256 → P pDBG o) (gBOOT_32 : P pBOOT 32) (gUPD_any : ∀ o, o < 256 → P pUPD o) (gNVD_52 : P pNVD 52) : Same P s0 (State.dbgErased s) := by
  unfold State.dbgErased
  exact State.dbgTo_same _ (State.raise_same _ _ (State.bootWrite_same _ (State.eraseSecrets_same hk gNVD_52 (fun o ho => gUPD_any o ho) (fun o ho => gDBG_any o ho)) gBOOT_32 (gUPD_any _ (by decide)) gNVD_52) (gDBG_any _ (by decide)))

theorem State.boardPad_same (i : Fin 8) (level : Option Bool) (hk : Same P s0 s) : Same P s0 (State.boardPad s i level) := by
  unfold State.boardPad
  exact Same.mk' hk

theorem State.bootSupply_same (src : ℕ) (ext : Bool) (hk : Same P s0 s) (gSUP_12 : P pSUP 12) (gCLK_12 : P pCLK 12) : Same P s0 (State.bootSupply s src ext) := by
  unfold State.bootSupply
  extract_lets -merge -underBinder +onlyGivenNames x0
  have hx0 : Same P s0 x0 := State.put_same _ _ _ hk gSUP_12
  try clear_value x0
  extract_lets -merge -underBinder +onlyGivenNames x1
  have hx1 : Same P s0 x1 := State.putB_same _ _ _ hx0 gSUP_12
  try clear_value x1
  extract_lets -merge -underBinder +onlyGivenNames x2
  have hx2 : Same P s0 x2 := State.putB_same _ _ _ hx1 gSUP_12
  try clear_value x2
  extract_lets -merge -underBinder +onlyGivenNames x3
  have hx3 : Same P s0 x3 := State.putB_same _ _ _ (State.putB_same _ _ _ hx2 gSUP_12) gSUP_12
  try clear_value x3
  extract_lets -merge -underBinder +onlyGivenNames x4
  have hx4 : Same P s0 x4 := State.putB_same _ _ _ hx3 gSUP_12
  try clear_value x4
  extract_lets -merge -underBinder +onlyGivenNames x5
  have hx5 : Same P s0 x5 := State.put_same _ _ _ (State.put_same _ _ _ hx4 gCLK_12) gCLK_12
  try clear_value x5
  exact State.put_same _ _ _ (State.putB_same _ _ _ hx5 gCLK_12) gCLK_12

theorem State.bootStraps_same (role : ℕ) (ad : ℕ) (hk : Same P s0 s) (gHOST_40 : P pHOST 40) (gSYS_12 : P pSYS 12) (gHG_8 : ∀ m, P (pHG m) 8) (gID_64 : P pID 64) : Same P s0 (State.bootStraps s role ad) := by
  unfold State.bootStraps
  extract_lets -merge -underBinder +onlyGivenNames x0
  have hx0 : Same P s0 x0 := State.put_same _ _ _ (State.put_same _ _ _ (State.put_same _ _ _ hk gSYS_12) gSYS_12) gHOST_40
  try clear_value x0
  exact State.hgSolo_same (State.putB_same _ _ _ hx0 gID_64) (fun m => gHG_8 m)

theorem State.bootOtp_same (hk : Same P s0 s) (gOTP_36 : P pOTP 36) (gOTP_32 : P pOTP 32) (gOTP_12 : P pOTP 12) : Same P s0 (State.bootOtp s) := by
  unfold State.bootOtp
  extract_lets -merge -underBinder +onlyGivenNames x0 x1 x2 x3 x4 x5 x6 x7 x8
  have hx8 : Same P s0 x8 := Same.mk' hk
  try clear_value x8
  extract_lets -merge -underBinder +onlyGivenNames x9
  have hx9 : Same P s0 x9 := State.put_same _ _ _ (State.put_same _ _ _ hx8 gOTP_32) gOTP_36
  try clear_value x9
  exact State.putB_same _ _ _ hx9 gOTP_12

theorem State.bootIdent_same (hk : Same P s0 s) (gID_32 : P pID 32) (gID_40 : P pID 40) (gID_44 : P pID 44) (gID_52 : P pID 52) (gID_48 : P pID 48) (gID_60 : P pID 60) (gID_56 : P pID 56) (gID_68 : P pID 68) : Same P s0 (State.bootIdent s) := by
  unfold State.bootIdent
  extract_lets -merge -underBinder +onlyGivenNames x0 x1 x2
  split
  · extract_lets -merge -underBinder +onlyGivenNames x3
    extract_lets -merge -underBinder +onlyGivenNames x4 x5
    have hx5 : Same P s0 x5 := State.put_same _ _ _ (State.put_same _ _ _ hk gID_32) gID_32
    try clear_value x5
    extract_lets -merge -underBinder +onlyGivenNames x6
    have hx6 : Same P s0 x6 := State.put_same _ _ _ (State.put_same _ _ _ hx5 gID_32) gID_40
    try clear_value x6
    extract_lets -merge -underBinder +onlyGivenNames x7
    have hx7 : Same P s0 x7 := State.put_same _ _ _ (State.put_same _ _ _ (State.put_same _ _ _ hx6 gID_44) gID_44) gID_44
    try clear_value x7
    extract_lets -merge -underBinder +onlyGivenNames x8
    have hx8 : Same P s0 x8 := State.put_same _ _ _ (State.put_same _ _ _ hx7 gID_48) gID_52
    try clear_value x8
    extract_lets -merge -underBinder +onlyGivenNames x9
    have hx9 : Same P s0 x9 := State.putB_same _ _ _ (State.put_same _ _ _ hx8 gID_56) gID_60
    try clear_value x9
    exact State.putB_same _ _ _ (State.putB_same _ _ _ hx9 gID_60) gID_68

theorem State.bootErase_same (hk : Same P s0 s) (gBOOT_32 : P pBOOT 32) (gUPD_any : ∀ o, o < 256 → P pUPD o) (gNVD_52 : P pNVD 52) (gDBG_any : ∀ o, o < 256 → P pDBG o) : Same P s0 (State.bootErase s) := by
  unfold State.bootErase
  exact Same.ite (fun _ => State.bootWrite_same _ (State.eraseSecrets_same hk gNVD_52 (fun o ho => gUPD_any o ho) (fun o ho => gDBG_any o ho)) gBOOT_32 (gUPD_any _ (by decide)) gNVD_52) (fun _ => hk)

theorem State.aonApply_same (hk : Same P s0 s) : Same P s0 (State.aonApply s) := by
  unfold State.aonApply
  extract_lets -merge -underBinder +onlyGivenNames x0
  have hx0 : ∀ a0 a1 a2, Same P s0 a0 → Same P s0 (x0 a0 a1 a2) := by
    intro s1_0 s1_1 s1_2 hs1_1
    unfold x0
    beta_reduce
    exact Same.mk' hs1_1
  try clear_value x0
  extract_lets -merge -underBinder +onlyGivenNames x2
  have hx2 : Same P s0 x2 := by
    unfold x2
    refine hx0 _ _ _ ?_
    exact hk
  try clear_value x2
  refine State.forPorts_same ?_ ?_
  · exact hx2
  · intro s3_0 s3_1 hs3_1
    extract_lets -merge -underBinder +onlyGivenNames x4
    have hx4 : Same P s0 x4 := by
      unfold x4
      refine foldl_same _ ?_ ?_
      · exact hs3_1
      · intro s5_0 s5_1 hm hs5_1
        refine hx0 _ _ _ ?_
        exact hs5_1
    try clear_value x4
    refine foldl_same _ ?_ ?_
    · exact hx4
    · intro s6_0 s6_1 hm hs6_1
      refine hx0 _ _ _ ?_
      exact hs6_1

theorem State.telemetry_same (tick : ℕ) (hk : Same P s0 s) : Same P s0 (State.telemetry s tick) := by
  unfold State.telemetry
  exact State.forPorts_same hk (fun _ _ h0 => Same.ite (fun _ => State.stRecord_same _ _ h0) (fun _ => h0))

theorem State.rampOkTick_same (hk : Same P s0 s) (gBOOT_12 : P pBOOT 12) : Same P s0 (State.rampOkTick s) := by
  unfold State.rampOkTick
  extract_lets -merge -underBinder +onlyGivenNames x0
  exact Same.ite (fun _ => State.put_same _ _ _ hk gBOOT_12) (fun _ => hk)

theorem State.tickOut_same (hk : Same P s0 s) (gGPIO_16 : P pGPIO 16) : Same P s0 (State.tickOut s) := by
  unfold State.tickOut
  extract_lets -merge -underBinder +onlyGivenNames x0 x1 x2 x3 x4
  have hx4 : Same P s0 x4 := Same.mk' hk
  try clear_value x4
  exact State.gpioWatch_same (Same.ite (fun _ => hx4) (fun _ => State.raiseBits_same _ _ hx4 gGPIO_16)) gGPIO_16

theorem State.portsTick_same (v : Port → List ℕ) (trips : Bool) (hk : Same P s0 s) (gGUARD_12 : ∀ m, P (pGUARD m) 12) (gGUARD_84 : ∀ m, P (pGUARD m) 84) (gGUARD_88 : ∀ m, P (pGUARD m) 88) (gGUARD_92 : ∀ m, P (pGUARD m) 92) (gGUARD_16 : ∀ m, P (pGUARD m) 16) (gPOL_16 : ∀ m, P (pPOL m) 16) (gPOL_44 : ∀ m, P (pPOL m) 44) (gPOL_12 : ∀ m, P (pPOL m) 12) (gPOL_52 : ∀ m, P (pPOL m) 52) (gCC_12 : ∀ m, P (pCC m) 12) (gPDL_any : ∀ m, ∀ o, o < 256 → P (pPDL m) o) (gVDM_64 : ∀ m, P (pVDM m) 64) (gVDM_16 : ∀ m, P (pVDM m) 16) (gVDM_52 : ∀ m, P (pVDM m) 52) (gVDM_96 : ∀ m, P (pVDM m) 96) (gSHARE_any : ∀ o, o < 256 → P pSHARE o) (gCC_16 : ∀ m, P (pCC m) 16) (gPOL_180 : ∀ m, P (pPOL m) 180) (gCC_68 : ∀ m, P (pCC m) 68) (gCC_60 : ∀ m, P (pCC m) 60) (gCC_56 : ∀ m, P (pCC m) 56) : Same P s0 (State.portsTick s v trips) := by
  unfold State.portsTick
  extract_lets -merge -underBinder +onlyGivenNames x0
  have hx0 : Same P s0 x0 := Same.ite (fun _ => State.forPorts_same hk (fun _ _ h1 => Same.ite (fun _ => State.slowTrips_same _ _ _ h1 (gGUARD_12 _) (gGUARD_84 _) (gGUARD_88 _) (gGUARD_92 _) (gGUARD_16 _) (gPOL_16 _) (gPOL_44 _) (gPOL_12 _) (gPOL_52 _) (gCC_12 _) (fun o ho => gPDL_any _ o ho) (gVDM_64 _) (gVDM_16 _) (gVDM_52 _) (gVDM_96 _) (fun o ho => gSHARE_any o ho) (gCC_16 _)) (fun _ => h1))) (fun _ => hk)
  try clear_value x0
  extract_lets -merge -underBinder +onlyGivenNames x2
  have hx2 : Same P s0 x2 := State.aonApply_same hx0
  try clear_value x2
  refine State.forPorts_same ?_ ?_
  · exact hx2
  · intro s3_0 s3_1 hs3_1
    extract_lets -merge -underBinder +onlyGivenNames x4 x5
    have hx5 : Same P s0 x5 := State.transStep_same _ _ (State.polTick_same _ (State.ccTick_same _ hs3_1 (gCC_12 _) (gCC_16 _) (fun o ho => gPDL_any _ o ho) (gVDM_64 _) (gVDM_16 _) (gPOL_12 _) (gPOL_52 _) (gPOL_16 _) (gPOL_44 _) (gGUARD_12 _) (gVDM_52 _) (fun o ho => gSHARE_any o ho) (gVDM_96 _) (gCC_68 _) (gCC_60 _) (gCC_56 _)) (gPOL_12 _) (fun o ho => gSHARE_any o ho) (gPOL_16 _) (gPOL_52 _) (gPOL_180 _) (fun o ho => gPDL_any _ o ho) (gVDM_64 _) (gVDM_16 _) (gPOL_44 _)) (gPOL_12 _) (gPOL_16 _) (gPOL_44 _) (gPOL_52 _)
    try clear_value x5
    extract_lets -merge -underBinder +onlyGivenNames x6
    exact State.guardTick_same _ (State.windowTick_same _ _ hx5) (gGUARD_12 _) (gGUARD_16 _)

theorem State.motnTick_same (high : Bool) (hk : Same P s0 s) : Same P s0 (State.motnTick s high) := by
  unfold State.motnTick
  exact Same.mk' hk

theorem State.countTick_same (hk : Same P s0 s) (gCLK_40 : P pCLK 40) (gCLK_16 : P pCLK 16) : Same P s0 (State.countTick s) := by
  unfold State.countTick
  extract_lets -merge -underBinder +onlyGivenNames x0
  have hx0 : Same P s0 x0 := State.put_same _ _ _ (State.setTick_same _ hk) gCLK_40
  try clear_value x0
  exact State.raiseIf_same _ _ _ hx0 gCLK_16

end Sys2Proof.Machine
end

