-- ==== Sys2Proof/Laws/SameCmds.lean ====
section
/-!
SUPPORT. The registers each command can change: every command but those that reach any page (register access by address, resets, bundles, the tick) answers a next state that differs in the registers its hypotheses name alone.
-/

set_option Elab.async false

namespace Sys2Proof.Machine

variable {P : Nat → Nat → Prop} {s : State}

theorem execReceiveFrame_touches (n : Port) (f : PdFrame) (gPDL_any : ∀ o, o < 256 → P (pPDL n) o) (gCC_12 : P (pCC n) 12) (gVDM_64 : P (pVDM n) 64) (gVDM_16 : P (pVDM n) 16) (gPOL_any : ∀ o, o < 256 → P (pPOL n) o) (gVDM_52 : P (pVDM n) 52) (gSHARE_any : ∀ o, o < 256 → P pSHARE o) (gVDM_96 : P (pVDM n) 96) : Touches P s (execReceiveFrame n f s) := by
  have hk : Same P s s := Same.refl _ _
  unfold execReceiveFrame
  refine Touches.next ?_
  exact State.cmd_same _ hk (fun _ h0 => State.rxFrame_same _ _ h0 (fun o ho => gPDL_any o ho) gCC_12 gVDM_64 gVDM_16 (fun o ho => gPOL_any o ho) gVDM_52 (fun o ho => gSHARE_any o ho) gVDM_96)

theorem execSendGoodcrc_touches (n : Port) : Touches P s (execSendGoodcrc n s) := by
  have hk : Same P s s := Same.refl _ _
  unfold execSendGoodcrc
  refine Touches.next ?_
  refine State.cmd_same _ ?_ ?_
  · exact hk
  · intro s0_0 hs0_1
    split
    · exact hs0_1
    · extract_lets -merge -underBinder +onlyGivenNames x1
      exact State.modPdl_same _ _ (Same.ite (fun _ => State.lineOut_same _ _ _ hs0_1) (fun _ => hs0_1))

theorem execAutoAnswer_touches (n : Port) (gPDL_any : ∀ o, o < 256 → P (pPDL n) o) : Touches P s (execAutoAnswer n s) := by
  have hk : Same P s s := Same.refl _ _
  unfold execAutoAnswer
  refine Touches.next ?_
  refine State.cmd_same _ ?_ ?_
  · exact hk
  · intro s0_0 hs0_1
    refine Same.ite (fun _ => ?_) (fun _ => ?_)
    · exact hs0_1
    · split
      · exact State.layerSend_same _ _ _ hs0_1 (fun o ho => gPDL_any o ho)
      · exact hs0_1

theorem execTxReq_touches (n : Port) (i : Fin 16) (gPDL_16 : P (pPDL n) 16) : Touches P s (execTxReq n i s) := by
  have hk : Same P s s := Same.refl _ _
  unfold execTxReq
  refine Touches.next ?_
  exact State.cmd_same _ hk (fun _ h0 => State.txReq_same _ _ h0 gPDL_16)

theorem execTxHeadCheck_touches (n : Port) (gPDL_any : ∀ o, o < 256 → P (pPDL n) o) (gVDM_64 : P (pVDM n) 64) (gVDM_16 : P (pVDM n) 16) (gPOL_any : ∀ o, o < 256 → P (pPOL n) o) (gSTORE_16 : P pSTORE 16) (gSTORE_40 : P pSTORE 40) (gSTORE_44 : P pSTORE 44) (gBANK_any : ∀ o, o < 256 → P pBANK o) (gSTORE_48 : P pSTORE 48) (gSTORE_12 : P pSTORE 12) : Touches P s (execTxHeadCheck n s) := by
  have hk : Same P s s := Same.refl _ _
  unfold execTxHeadCheck
  refine Touches.next ?_
  exact State.cmd_same _ hk (fun _ h0 => State.txCheck_same _ h0 (fun o ho => gPDL_any o ho) gVDM_64 gVDM_16 (fun o ho => gPOL_any o ho) gSTORE_16 gSTORE_40 gSTORE_44 (fun o ho => gBANK_any o ho) gSTORE_48 gSTORE_12)

theorem execCollisionHoldEnd_touches (n : Port) (gPDL_any : ∀ o, o < 256 → P (pPDL n) o) (gVDM_64 : P (pVDM n) 64) (gVDM_16 : P (pVDM n) 16) (gPOL_any : ∀ o, o < 256 → P (pPOL n) o) : Touches P s (execCollisionHoldEnd n s) := by
  have hk : Same P s s := Same.refl _ _
  unfold execCollisionHoldEnd
  refine Touches.next ?_
  refine State.cmd_same _ ?_ ?_
  · exact hk
  · intro s0_0 hs0_1
    extract_lets -merge -underBinder +onlyGivenNames x1
    have hx1 : Same P s x1 := State.modPdl_same _ _ hs0_1
    try clear_value x1
    exact Same.ite (fun _ => Same.ite (fun _ => State.txSend_same _ hx1 (fun o ho => gPDL_any o ho) gVDM_64 gVDM_16 (fun o ho => gPOL_any o ho)) (fun _ => hx1)) (fun _ => hs0_1)

theorem execTransmitFrame_touches (n : Port) (gPDL_any : ∀ o, o < 256 → P (pPDL n) o) (gVDM_64 : P (pVDM n) 64) (gVDM_16 : P (pVDM n) 16) (gPOL_any : ∀ o, o < 256 → P (pPOL n) o) : Touches P s (execTransmitFrame n s) := by
  have hk : Same P s s := Same.refl _ _
  unfold execTransmitFrame
  refine Touches.next ?_
  exact State.cmd_same _ hk (fun _ h0 => State.txNext_same _ h0 (fun o ho => gPDL_any o ho) gVDM_64 gVDM_16 (fun o ho => gPOL_any o ho))

theorem execGoodcrcTimeout_touches (n : Port) (gPDL_any : ∀ o, o < 256 → P (pPDL n) o) (gVDM_64 : P (pVDM n) 64) (gVDM_16 : P (pVDM n) 16) (gPOL_any : ∀ o, o < 256 → P (pPOL n) o) : Touches P s (execGoodcrcTimeout n s) := by
  have hk : Same P s s := Same.refl _ _
  unfold execGoodcrcTimeout
  refine Touches.next ?_
  exact State.cmd_same _ hk (fun _ h0 => State.gcrcTimeout_same _ h0 (fun o ho => gPDL_any o ho) gVDM_64 gVDM_16 (fun o ho => gPOL_any o ho))

theorem execChunkRequestSend_touches (n : Port) (gPDL_any : ∀ o, o < 256 → P (pPDL n) o) : Touches P s (execChunkRequestSend n s) := by
  have hk : Same P s s := Same.refl _ _
  unfold execChunkRequestSend
  refine Touches.next ?_
  refine State.cmd_same _ ?_ ?_
  · exact hk
  · intro s0_0 hs0_1
    refine Same.ite (fun _ => ?_) (fun _ => ?_)
    · exact hs0_1
    · split
      · exact hs0_1
      · extract_lets -merge -underBinder +onlyGivenNames x1
        extract_lets -merge -underBinder +onlyGivenNames x2 x3
        exact State.layerSend_same _ _ _ (State.reasmSet_same _ _ hs0_1) (fun o ho => gPDL_any o ho)

theorem execChunkWaitTimeout_touches (n : Port) (gPDL_any : ∀ o, o < 256 → P (pPDL n) o) (gVDM_64 : P (pVDM n) 64) (gVDM_16 : P (pVDM n) 16) (gPOL_any : ∀ o, o < 256 → P (pPOL n) o) : Touches P s (execChunkWaitTimeout n s) := by
  have hk : Same P s s := Same.refl _ _
  unfold execChunkWaitTimeout
  refine Touches.next ?_
  refine State.cmd_same _ ?_ ?_
  · exact hk
  · intro s0_0 hs0_1
    split
    · exact State.reasmAbort_same _ _ _ hs0_1 (fun o ho => gPDL_any o ho)
    · split
      · exact Same.ite (fun _ => State.txOver_same _ _ _ hs0_1 (fun o ho => gPDL_any o ho) gVDM_64 gVDM_16 (fun o ho => gPOL_any o ho)) (fun _ => hs0_1)
      · exact hs0_1

theorem execPdlCmdHardReset_touches (n : Port) (key : BitVec 16) (gPDL_any : ∀ o, o < 256 → P (pPDL n) o) (gVDM_64 : P (pVDM n) 64) (gVDM_16 : P (pVDM n) 16) : Touches P s (execPdlCmdHardReset n key s) := by
  have hk : Same P s s := Same.refl _ _
  unfold execPdlCmdHardReset
  refine Touches.next ?_
  exact State.keyCmd_same _ _ _ hk (fun _ h0 => State.hardResetStart_same _ h0 (fun o ho => gPDL_any o ho) gVDM_64 gVDM_16) (gPDL_any _ (by decide))

theorem execHardResetSent_touches (n : Port) (gCC_12 : P (pCC n) 12) (gPDL_any : ∀ o, o < 256 → P (pPDL n) o) (gVDM_64 : P (pVDM n) 64) (gVDM_16 : P (pVDM n) 16) (gPOL_12 : P (pPOL n) 12) (gPOL_52 : P (pPOL n) 52) (gPOL_16 : P (pPOL n) 16) (gVDM_52 : P (pVDM n) 52) (gSHARE_any : ∀ o, o < 256 → P pSHARE o) (gVDM_96 : P (pVDM n) 96) (gPOL_180 : P (pPOL n) 180) : Touches P s (execHardResetSent n s) := by
  have hk : Same P s s := Same.refl _ _
  unfold execHardResetSent
  refine Touches.next ?_
  exact State.cmd_same _ hk (fun _ h0 => Same.ite (fun _ => State.hardReset_same _ _ (State.lineOut_same _ _ _ h0) gCC_12 (fun o ho => gPDL_any o ho) gVDM_64 gVDM_16 gPOL_12 gPOL_52 gPOL_16 gVDM_52 (fun o ho => gSHARE_any o ho) gVDM_96 gPOL_180) (fun _ => h0))

theorem execHardResetReceived_touches (n : Port) (gCC_12 : P (pCC n) 12) (gPDL_any : ∀ o, o < 256 → P (pPDL n) o) (gVDM_64 : P (pVDM n) 64) (gVDM_16 : P (pVDM n) 16) (gPOL_12 : P (pPOL n) 12) (gPOL_52 : P (pPOL n) 52) (gPOL_16 : P (pPOL n) 16) (gVDM_52 : P (pVDM n) 52) (gSHARE_any : ∀ o, o < 256 → P pSHARE o) (gVDM_96 : P (pVDM n) 96) (gPOL_180 : P (pPOL n) 180) : Touches P s (execHardResetReceived n s) := by
  have hk : Same P s s := Same.refl _ _
  unfold execHardResetReceived
  refine Touches.next ?_
  exact State.cmd_same _ hk (fun _ h0 => Same.ite (fun _ => State.hardReset_same _ _ h0 gCC_12 (fun o ho => gPDL_any o ho) gVDM_64 gVDM_16 gPOL_12 gPOL_52 gPOL_16 gVDM_52 (fun o ho => gSHARE_any o ho) gVDM_96 gPOL_180) (fun _ => h0))

theorem execPdlCmdCableReset_touches (n : Port) (key : BitVec 16) (gPDL_any : ∀ o, o < 256 → P (pPDL n) o) (gVDM_64 : P (pVDM n) 64) (gVDM_16 : P (pVDM n) 16) : Touches P s (execPdlCmdCableReset n key s) := by
  have hk : Same P s s := Same.refl _ _
  unfold execPdlCmdCableReset
  refine Touches.next ?_
  exact State.keyCmd_same _ _ _ hk (fun _ h0 => State.cableReset_same _ h0 (fun o ho => gPDL_any o ho) gVDM_64 gVDM_16) (gPDL_any _ (by decide))

theorem execPdlCmdAmsEnd_touches (n : Port) (key : BitVec 16) (gPDL_16 : P (pPDL n) 16) : Touches P s (execPdlCmdAmsEnd n key s) := by
  have hk : Same P s s := Same.refl _ _
  unfold execPdlCmdAmsEnd
  refine Touches.next ?_
  exact State.keyCmd_same _ _ _ hk (fun _ h0 => State.amsEnd_same _ h0) gPDL_16

theorem execPdlCmdHrComplete_touches (n : Port) (key : BitVec 16) (gPDL_16 : P (pPDL n) 16) (gPDL_12 : P (pPDL n) 12) : Touches P s (execPdlCmdHrComplete n key s) := by
  have hk : Same P s s := Same.refl _ _
  unfold execPdlCmdHrComplete
  refine Touches.next ?_
  exact State.keyCmd_same _ _ _ hk (fun _ h0 => State.put_same _ _ _ h0 gPDL_12) gPDL_16

theorem execPdlCmdCancel_touches (n : Port) (key : BitVec 16) (gPDL_any : ∀ o, o < 256 → P (pPDL n) o) (gVDM_64 : P (pVDM n) 64) (gVDM_16 : P (pVDM n) 16) : Touches P s (execPdlCmdCancel n key s) := by
  have hk : Same P s s := Same.refl _ _
  unfold execPdlCmdCancel
  refine Touches.next ?_
  exact State.keyCmd_same _ _ _ hk (fun _ h0 => State.txCancel_same _ h0 (fun o ho => gPDL_any o ho) gVDM_64 gVDM_16) (gPDL_any _ (by decide))

theorem execPdlCmdClearStats_touches (n : Port) (key : BitVec 16) (gPDL_16 : P (pPDL n) 16) (gPDL_108 : P (pPDL n) 108) (gPDL_104 : P (pPDL n) 104) (gPDL_100 : P (pPDL n) 100) (gPDL_96 : P (pPDL n) 96) : Touches P s (execPdlCmdClearStats n key s) := by
  have hk : Same P s s := Same.refl _ _
  unfold execPdlCmdClearStats
  refine Touches.next ?_
  exact State.keyCmd_same _ _ _ hk (fun _ h0 => State.pdlClearStats_same _ h0 gPDL_108 gPDL_104 gPDL_100 gPDL_96) gPDL_16

theorem execMsgidLoad_touches (n : Port) (v : Word) (gPDL_16 : P (pPDL n) 16) (gPDL_88 : P (pPDL n) 88) : Touches P s (execMsgidLoad n v s) := by
  have hk : Same P s s := Same.refl _ _
  unfold execMsgidLoad
  refine Touches.next ?_
  exact State.cmd_same _ hk (fun _ h0 => State.msgidLoad_same _ _ h0 gPDL_16 gPDL_88)

theorem execPdlEnableWrite_touches (n : Port) (on : Bool) (gPDL_any : ∀ o, o < 256 → P (pPDL n) o) (gVDM_64 : P (pVDM n) 64) (gVDM_16 : P (pVDM n) 16) (gPOL_12 : P (pPOL n) 12) : Touches P s (execPdlEnableWrite n on s) := by
  have hk : Same P s s := Same.refl _ _
  unfold execPdlEnableWrite
  refine Touches.next ?_
  exact State.cmd_same _ hk (fun _ h0 => State.pdlEnable_same _ _ h0 (fun o ho => gPDL_any o ho) gVDM_64 gVDM_16 gPOL_12)

theorem execXbufRel_touches (n : Port) (m : BitVec 4) (gPDL_any : ∀ o, o < 256 → P (pPDL n) o) : Touches P s (execXbufRel n m s) := by
  have hk : Same P s s := Same.refl _ _
  unfold execXbufRel
  refine Touches.next ?_
  exact State.cmd_same _ hk (fun _ h0 => State.xbufRel_same _ _ h0 (fun o ho => gPDL_any o ho))

theorem execRxRdWrite_touches (n : Port) (i : BitVec 6) (gPDL_72 : P (pPDL n) 72) : Touches P s (execRxRdWrite n i s) := by
  have hk : Same P s s := Same.refl _ _
  unfold execRxRdWrite
  refine Touches.next ?_
  exact State.cmd_same _ hk (fun _ h0 => State.put_same _ _ _ h0 gPDL_72)

theorem execBistCarrierEnd_touches (n : Port) : Touches P s (execBistCarrierEnd n s) := by
  have hk : Same P s s := Same.refl _ _
  unfold execBistCarrierEnd
  refine Touches.next ?_
  exact State.cmd_same _ hk (fun _ h0 => State.modPdl_same _ _ h0)

theorem execConCommit_touches (n : Port) (gen : BitVec 8) : Touches P s (execConCommit n gen s) := by
  have hk : Same P s s := Same.refl _ _
  unfold execConCommit
  refine Touches.next ?_
  exact State.cmd_same _ hk (fun _ h0 => State.polQueue_same _ _ h0)

theorem execConClear_touches (n : Port) (gen : BitVec 8) : Touches P s (execConClear n gen s) := by
  have hk : Same P s s := Same.refl _ _
  unfold execConClear
  refine Touches.next ?_
  exact State.cmd_same _ hk (fun _ h0 => State.polQueue_same _ _ h0)

theorem execTransGo_touches (n : Port) (vNew : BitVec 12) (gen : BitVec 8) : Touches P s (execTransGo n vNew gen s) := by
  have hk : Same P s s := Same.refl _ _
  unfold execTransGo
  refine Touches.next ?_
  exact State.cmd_same _ hk (fun _ h0 => State.polQueue_same _ _ h0)

theorem execTransitionStart_touches (n : Port) (gPOL_52 : P (pPOL n) 52) (gPOL_16 : P (pPOL n) 16) (gPOL_44 : P (pPOL n) 44) (gPOL_12 : P (pPOL n) 12) : Touches P s (execTransitionStart n s) := by
  have hk : Same P s s := Same.refl _ _
  unfold execTransitionStart
  refine Touches.next ?_
  extract_lets -merge -underBinder +onlyGivenNames x0 x1 x2 x3
  have hx3 : Same P s x3 := State.modPol_same _ _ (State.put_same _ _ _ hk gPOL_52)
  try clear_value x3
  extract_lets -merge -underBinder +onlyGivenNames x4
  have hx4 : Same P s x4 := State.windowTick_same _ _ (State.setTarget_same _ _ hx3 gPOL_16 gPOL_44)
  try clear_value x4
  exact Same.ite (fun _ => Same.ite (fun _ => State.dschOn_same _ _ _ (State.put_same _ _ _ hx4 gPOL_12)) (fun _ => hx4)) (fun _ => hk)

theorem execTransDone_touches (n : Port) (gPOL_12 : P (pPOL n) 12) (gPOL_52 : P (pPOL n) 52) (gPOL_16 : P (pPOL n) 16) (gPDL_16 : P (pPDL n) 16) : Touches P s (execTransDone n s) := by
  have hk : Same P s s := Same.refl _ _
  unfold execTransDone
  refine Touches.next ?_
  extract_lets -merge -underBinder +onlyGivenNames x0 x1 x2
  have hx2 : Same P s x2 := State.assistEnd_same _ (State.put_same _ _ _ hk gPOL_52) gPOL_12
  try clear_value x2
  extract_lets -merge -underBinder +onlyGivenNames x3
  have hx3 : Same P s x3 := State.windowTick_same _ _ hx2
  try clear_value x3
  extract_lets -merge -underBinder +onlyGivenNames x4
  have hx4 : Same P s x4 := State.modGuard_same _ _ hx3
  try clear_value x4
  extract_lets -merge -underBinder +onlyGivenNames x5
  have hx5 : Same P s x5 := State.polEvt_same _ _ hx4 gPOL_16
  try clear_value x5
  exact Same.ite (fun _ => Same.ite (fun _ => State.fwSendFor_same _ _ _ _ _ _ hx5 gPDL_16) (fun _ => hx5)) (fun _ => hk)

theorem execTransFail_touches (n : Port) (gPOL_12 : P (pPOL n) 12) (gPOL_180 : P (pPOL n) 180) (gPOL_52 : P (pPOL n) 52) (gPOL_16 : P (pPOL n) 16) (gPDL_any : ∀ o, o < 256 → P (pPDL n) o) (gVDM_64 : P (pVDM n) 64) (gVDM_16 : P (pVDM n) 16) : Touches P s (execTransFail n s) := by
  have hk : Same P s s := Same.refl _ _
  unfold execTransFail
  refine Touches.next ?_
  extract_lets -merge -underBinder +onlyGivenNames x0
  exact Same.ite (fun _ => State.transFail_same _ hk gPOL_12 gPOL_180 gPOL_52 gPOL_16 (fun o ho => gPDL_any o ho) gVDM_64 gVDM_16) (fun _ => hk)

theorem execRoleCmd_touches (n : Port) (dfp : Bool) (gen : BitVec 8) : Touches P s (execRoleCmd n dfp gen s) := by
  have hk : Same P s s := Same.refl _ _
  unfold execRoleCmd
  refine Touches.next ?_
  exact State.cmd_same _ hk (fun _ h0 => State.polQueue_same _ _ h0)

theorem execHrWaitExpiry_touches (n : Port) (gPOL_16 : P (pPOL n) 16) (gPOL_44 : P (pPOL n) 44) (gGUARD_12 : P (pGUARD n) 12) (gCC_12 : P (pCC n) 12) (gPOL_12 : P (pPOL n) 12) : Touches P s (execHrWaitExpiry n s) := by
  have hk : Same P s s := Same.refl _ _
  unfold execHrWaitExpiry
  refine Touches.next ?_
  extract_lets -merge -underBinder +onlyGivenNames x0
  have hx0 : Same P s x0 := State.setTarget_same _ _ (State.dschOn_same _ _ _ (State.guardOff_same _ hk gGUARD_12)) gPOL_16 gPOL_44
  try clear_value x0
  extract_lets -merge -underBinder +onlyGivenNames x1
  have hx1 : Same P s x1 := State.vconnOff_same _ (State.setWin_same _ _ _ hx0) gCC_12
  try clear_value x1
  exact Same.ite (fun _ => State.put_same _ _ _ hx1 gPOL_12) (fun _ => hk)

theorem execHrVsafe0_touches (n : Port) (mv : ℕ) (gPOL_16 : P (pPOL n) 16) (gPOL_12 : P (pPOL n) 12) : Touches P s (execHrVsafe0 n mv s) := by
  have hk : Same P s s := Same.refl _ _
  unfold execHrVsafe0
  refine Touches.next ?_
  extract_lets -merge -underBinder +onlyGivenNames x0
  have hx0 : Same P s x0 := State.setVbus_same _ _ hk
  try clear_value x0
  extract_lets -merge -underBinder +onlyGivenNames x1
  exact Same.ite (fun _ => State.polEvt_same _ _ (State.modPol_same _ _ (State.put_same _ _ _ (State.dschOff_same _ hx0 gPOL_12) gPOL_12)) gPOL_16) (fun _ => hx0)

theorem execHrRecoverExpiry_touches (n : Port) (gPOL_12 : P (pPOL n) 12) : Touches P s (execHrRecoverExpiry n s) := by
  have hk : Same P s s := Same.refl _ _
  unfold execHrRecoverExpiry
  refine Touches.next ?_
  exact Same.ite (fun _ => State.modCc_same _ _ (State.put_same _ _ _ hk gPOL_12)) (fun _ => hk)

theorem execFoldback_touches (n : Port) (active : Bool) (gGUARD_12 : P (pGUARD n) 12) : Touches P s (execFoldback n active s) := by
  have hk : Same P s s := Same.refl _ _
  unfold execFoldback
  refine Touches.next ?_
  exact Same.ite (fun _ => State.putB_same _ _ _ hk gGUARD_12) (fun _ => hk)

theorem execSoaTimeout_touches (n : Port) (gGUARD_12 : P (pGUARD n) 12) (gGUARD_84 : P (pGUARD n) 84) (gGUARD_88 : P (pGUARD n) 88) (gGUARD_92 : P (pGUARD n) 92) (gGUARD_16 : P (pGUARD n) 16) (gPOL_16 : P (pPOL n) 16) (gPOL_44 : P (pPOL n) 44) (gPOL_12 : P (pPOL n) 12) (gPOL_52 : P (pPOL n) 52) (gCC_12 : P (pCC n) 12) (gPDL_any : ∀ o, o < 256 → P (pPDL n) o) (gVDM_64 : P (pVDM n) 64) (gVDM_16 : P (pVDM n) 16) (gVDM_52 : P (pVDM n) 52) (gVDM_96 : P (pVDM n) 96) (gSHARE_any : ∀ o, o < 256 → P pSHARE o) (gCC_16 : P (pCC n) 16) : Touches P s (execSoaTimeout n s) := by
  have hk : Same P s s := Same.refl _ _
  unfold execSoaTimeout
  refine Touches.next ?_
  exact Same.ite (fun _ => State.trip_same _ _ _ hk gGUARD_12 gGUARD_84 gGUARD_88 gGUARD_92 gGUARD_16 gPOL_16 gPOL_44 gPOL_12 gPOL_52 gCC_12 (fun o ho => gPDL_any o ho) gVDM_64 gVDM_16 gVDM_52 gVDM_96 (fun o ho => gSHARE_any o ho) gCC_16) (fun _ => hk)

theorem execRampComplete_touches (n : Port) (vbusMv : ℕ) (vinMv : ℕ) (gateMv : ℕ) (gGUARD_16 : P (pGUARD n) 16) (gGUARD_12 : P (pGUARD n) 12) (gPOL_16 : P (pPOL n) 16) (gPOL_12 : P (pPOL n) 12) : Touches P s (execRampComplete n vbusMv vinMv gateMv s) := by
  have hk : Same P s s := Same.refl _ _
  unfold execRampComplete
  refine Touches.next ?_
  extract_lets -merge -underBinder +onlyGivenNames x0
  have hx0 : Same P s x0 := State.modPort_same _ _ (State.setVbus_same _ _ hk)
  try clear_value x0
  extract_lets -merge -underBinder +onlyGivenNames x1
  exact Same.ite (fun _ => State.rampDone_same _ hx0 gGUARD_16 gGUARD_12 gPOL_16 gPOL_12) (fun _ => hx0)

theorem execRampFail_touches (n : Port) (gGUARD_12 : P (pGUARD n) 12) (gGUARD_84 : P (pGUARD n) 84) (gGUARD_88 : P (pGUARD n) 88) (gGUARD_92 : P (pGUARD n) 92) (gGUARD_16 : P (pGUARD n) 16) (gPOL_16 : P (pPOL n) 16) (gPOL_44 : P (pPOL n) 44) (gPOL_12 : P (pPOL n) 12) (gPOL_52 : P (pPOL n) 52) (gCC_12 : P (pCC n) 12) (gPDL_any : ∀ o, o < 256 → P (pPDL n) o) (gVDM_64 : P (pVDM n) 64) (gVDM_16 : P (pVDM n) 16) (gVDM_52 : P (pVDM n) 52) (gVDM_96 : P (pVDM n) 96) (gSHARE_any : ∀ o, o < 256 → P pSHARE o) (gCC_16 : P (pCC n) 16) : Touches P s (execRampFail n s) := by
  have hk : Same P s s := Same.refl _ _
  unfold execRampFail
  refine Touches.next ?_
  exact Same.ite (fun _ => State.trip_same _ _ _ hk gGUARD_12 gGUARD_84 gGUARD_88 gGUARD_92 gGUARD_16 gPOL_16 gPOL_44 gPOL_12 gPOL_52 gCC_12 (fun o ho => gPDL_any o ho) gVDM_64 gVDM_16 gVDM_52 gVDM_96 (fun o ho => gSHARE_any o ho) gCC_16) (fun _ => hk)

theorem execFastTrip_touches (n : Port) (sc : Bool) (ovp : Bool) (rcp : Bool) (gGUARD_12 : P (pGUARD n) 12) (gGUARD_84 : P (pGUARD n) 84) (gGUARD_88 : P (pGUARD n) 88) (gGUARD_92 : P (pGUARD n) 92) (gGUARD_16 : P (pGUARD n) 16) (gPOL_16 : P (pPOL n) 16) (gPOL_44 : P (pPOL n) 44) (gPOL_12 : P (pPOL n) 12) (gPOL_52 : P (pPOL n) 52) (gCC_12 : P (pCC n) 12) (gPDL_any : ∀ o, o < 256 → P (pPDL n) o) (gVDM_64 : P (pVDM n) 64) (gVDM_16 : P (pVDM n) 16) (gVDM_52 : P (pVDM n) 52) (gVDM_96 : P (pVDM n) 96) (gSHARE_any : ∀ o, o < 256 → P pSHARE o) (gCC_16 : P (pCC n) 16) : Touches P s (execFastTrip n sc ovp rcp s) := by
  have hk : Same P s s := Same.refl _ _
  unfold execFastTrip
  refine Touches.next ?_
  extract_lets -merge -underBinder +onlyGivenNames x0 x1
  exact Same.ite (fun _ => State.trip_same _ _ _ hk gGUARD_12 gGUARD_84 gGUARD_88 gGUARD_92 gGUARD_16 gPOL_16 gPOL_44 gPOL_12 gPOL_52 gCC_12 (fun o ho => gPDL_any o ho) gVDM_64 gVDM_16 gVDM_52 gVDM_96 (fun o ho => gSHARE_any o ho) gCC_16) (fun _ => hk)

theorem execUvpTrip_touches (n : Port) (gGUARD_12 : P (pGUARD n) 12) (gGUARD_84 : P (pGUARD n) 84) (gGUARD_88 : P (pGUARD n) 88) (gGUARD_92 : P (pGUARD n) 92) (gGUARD_16 : P (pGUARD n) 16) (gPOL_16 : P (pPOL n) 16) (gPOL_44 : P (pPOL n) 44) (gPOL_12 : P (pPOL n) 12) (gPOL_52 : P (pPOL n) 52) (gCC_12 : P (pCC n) 12) (gPDL_any : ∀ o, o < 256 → P (pPDL n) o) (gVDM_64 : P (pVDM n) 64) (gVDM_16 : P (pVDM n) 16) (gVDM_52 : P (pVDM n) 52) (gVDM_96 : P (pVDM n) 96) (gSHARE_any : ∀ o, o < 256 → P pSHARE o) (gCC_16 : P (pCC n) 16) : Touches P s (execUvpTrip n s) := by
  have hk : Same P s s := Same.refl _ _
  unfold execUvpTrip
  refine Touches.next ?_
  exact Same.ite (fun _ => State.trip_same _ _ _ hk gGUARD_12 gGUARD_84 gGUARD_88 gGUARD_92 gGUARD_16 gPOL_16 gPOL_44 gPOL_12 gPOL_52 gCC_12 (fun o ho => gPDL_any o ho) gVDM_64 gVDM_16 gVDM_52 gVDM_96 (fun o ho => gSHARE_any o ho) gCC_16) (fun _ => hk)

theorem execLimitEntry_touches (n : Port) (gGUARD_16 : P (pGUARD n) 16) (gGUARD_12 : P (pGUARD n) 12) : Touches P s (execLimitEntry n s) := by
  have hk : Same P s s := Same.refl _ _
  unfold execLimitEntry
  refine Touches.next ?_
  exact Same.ite (fun _ => State.raise_same _ _ (State.put_same _ _ _ (State.guardTo_same _ _ hk gGUARD_12) gGUARD_12) gGUARD_16) (fun _ => hk)

theorem execLimitExit_touches (n : Port) (gGUARD_12 : P (pGUARD n) 12) : Touches P s (execLimitExit n s) := by
  have hk : Same P s s := Same.refl _ _
  unfold execLimitExit
  refine Touches.next ?_
  exact Same.ite (fun _ => State.modGuard_same _ _ (State.guardTo_same _ _ hk gGUARD_12)) (fun _ => hk)

theorem execTrippedVbusLow_touches (n : Port) (mv : ℕ) (gGUARD_12 : P (pGUARD n) 12) : Touches P s (execTrippedVbusLow n mv s) := by
  have hk : Same P s s := Same.refl _ _
  unfold execTrippedVbusLow
  refine Touches.next ?_
  extract_lets -merge -underBinder +onlyGivenNames x0
  have hx0 : Same P s x0 := State.setVbus_same _ _ hk
  try clear_value x0
  exact Same.ite (fun _ => State.guardTo_same _ _ hx0 gGUARD_12) (fun _ => hx0)

theorem execBackoffExpiry_touches (n : Port) (gGUARD_12 : P (pGUARD n) 12) (gGUARD_16 : P (pGUARD n) 16) : Touches P s (execBackoffExpiry n s) := by
  have hk : Same P s s := Same.refl _ _
  unfold execBackoffExpiry
  refine Touches.next ?_
  exact Same.ite (fun _ => State.backoffLeave_same _ hk gGUARD_12 gGUARD_16) (fun _ => hk)

theorem execBackoffStepReset_touches (n : Port) : Touches P s (execBackoffStepReset n s) := by
  have hk : Same P s s := Same.refl _ _
  unfold execBackoffStepReset
  refine Touches.next ?_
  exact Same.ite (fun _ => State.modGuard_same _ _ hk) (fun _ => hk)

theorem execShortFet_touches (n : Port) (how : Fin 3) (gGUARD_84 : P (pGUARD n) 84) (gCC_16 : P (pCC n) 16) (gCC_12 : P (pCC n) 12) (gPDL_any : ∀ o, o < 256 → P (pPDL n) o) (gVDM_64 : P (pVDM n) 64) (gVDM_16 : P (pVDM n) 16) (gPOL_12 : P (pPOL n) 12) (gPOL_52 : P (pPOL n) 52) (gPOL_16 : P (pPOL n) 16) (gPOL_44 : P (pPOL n) 44) (gGUARD_12 : P (pGUARD n) 12) (gVDM_52 : P (pVDM n) 52) (gSHARE_any : ∀ o, o < 256 → P pSHARE o) (gVDM_96 : P (pVDM n) 96) (gGUARD_16 : P (pGUARD n) 16) : Touches P s (execShortFet n how s) := by
  have hk : Same P s s := Same.refl _ _
  unfold execShortFet
  refine Touches.next ?_
  exact Same.ite (fun _ => State.retire_same _ _ (State.guardEvt_same _ _ hk gGUARD_16) gGUARD_84 gCC_16 gCC_12 (fun o ho => gPDL_any o ho) gVDM_64 gVDM_16 gPOL_12 gPOL_52 gPOL_16 gPOL_44 gGUARD_12 gVDM_52 (fun o ho => gSHARE_any o ho) gVDM_96 gGUARD_16) (fun _ => hk)

theorem execDschEnd_touches (n : Port) (mv : ℕ) (timeout : Bool) (gPOL_12 : P (pPOL n) 12) (gGUARD_16 : P (pGUARD n) 16) (gGUARD_84 : P (pGUARD n) 84) (gCC_16 : P (pCC n) 16) (gCC_12 : P (pCC n) 12) (gPDL_any : ∀ o, o < 256 → P (pPDL n) o) (gVDM_64 : P (pVDM n) 64) (gVDM_16 : P (pVDM n) 16) (gPOL_52 : P (pPOL n) 52) (gPOL_16 : P (pPOL n) 16) (gPOL_44 : P (pPOL n) 44) (gGUARD_12 : P (pGUARD n) 12) (gVDM_52 : P (pVDM n) 52) (gSHARE_any : ∀ o, o < 256 → P pSHARE o) (gVDM_96 : P (pVDM n) 96) : Touches P s (execDschEnd n mv timeout s) := by
  have hk : Same P s s := Same.refl _ _
  unfold execDschEnd
  refine Touches.next ?_
  extract_lets -merge -underBinder +onlyGivenNames x0
  have hx0 : Same P s x0 := State.setVbus_same _ _ hk
  try clear_value x0
  extract_lets -merge -underBinder +onlyGivenNames x1 x2
  have hx2 : Same P s x2 := State.raise_same _ _ (State.dschOff_same _ hx0 gPOL_12) gGUARD_16
  try clear_value x2
  exact Same.ite (fun _ => hx0) (fun _ => Same.ite (fun _ => State.dschOff_same _ hx0 gPOL_12) (fun _ => Same.ite (fun _ => Same.ite (fun _ => State.retire_same _ _ (State.guardEvt_same _ _ hx2 gGUARD_16) gGUARD_84 gCC_16 gCC_12 (fun o ho => gPDL_any o ho) gVDM_64 gVDM_16 gPOL_12 gPOL_52 gPOL_16 gPOL_44 gGUARD_12 gVDM_52 (fun o ho => gSHARE_any o ho) gVDM_96 gGUARD_16) (fun _ => hx2)) (fun _ => State.assistEnd_same _ hx0 gPOL_12)))

theorem execDschRest_touches (n : Port) (gGUARD_16 : P (pGUARD n) 16) (gGUARD_12 : P (pGUARD n) 12) : Touches P s (execDschRest n s) := by
  have hk : Same P s s := Same.refl _ _
  unfold execDschRest
  refine Touches.next ?_
  extract_lets -merge -underBinder +onlyGivenNames x0
  have hx0 : Same P s x0 := State.modGuard_same _ _ hk
  try clear_value x0
  exact Same.ite (fun _ => State.raise_same _ _ (State.put_same _ _ _ hx0 gGUARD_12) gGUARD_16) (fun _ => hk)

theorem execDschRestEnd_touches (n : Port) (gGUARD_12 : P (pGUARD n) 12) : Touches P s (execDschRestEnd n s) := by
  have hk : Same P s s := Same.refl _ _
  unfold execDschRestEnd
  refine Touches.next ?_
  exact Same.ite (fun _ => State.modGuard_same _ _ (State.put_same _ _ _ hk gGUARD_12)) (fun _ => hk)

theorem execSinkBlock_touches (n : Port) (gGUARD_16 : P (pGUARD n) 16) (gGUARD_12 : P (pGUARD n) 12) (gSHARE_any : ∀ o, o < 256 → P pSHARE o) : Touches P s (execSinkBlock n s) := by
  have hk : Same P s s := Same.refl _ _
  unfold execSinkBlock
  refine Touches.next ?_
  extract_lets -merge -underBinder +onlyGivenNames x0 x1
  have hx1 : Same P s x1 := State.raise_same _ _ (State.put_same _ _ _ hk gGUARD_12) gGUARD_16
  try clear_value x1
  extract_lets -merge -underBinder +onlyGivenNames x2 x3
  have hx3 : Same P s x3 := State.modGuard_same _ _ hx1
  try clear_value x3
  extract_lets -merge -underBinder +onlyGivenNames x4
  have hx4 : Same P s x4 := Same.ite (fun _ => State.shareRelease_same _ hx3 (fun o ho => gSHARE_any o ho)) (fun _ => hx3)
  try clear_value x4
  extract_lets -merge -underBinder +onlyGivenNames x5
  have hx5 : Same P s x5 := State.modGuard_same _ _ (State.guardOff_same _ (State.put_same _ _ _ hx4 gGUARD_12) gGUARD_12)
  try clear_value x5
  exact Same.ite (fun _ => Same.ite (fun _ => Same.ite (fun _ => State.shareEvt_same _ hx5 (gSHARE_any _ (by decide))) (fun _ => hx5)) (fun _ => hx4)) (fun _ => hk)

theorem execSinkReclose_touches (n : Port) (mv : ℕ) (gGUARD_12 : P (pGUARD n) 12) : Touches P s (execSinkReclose n mv s) := by
  have hk : Same P s s := Same.refl _ _
  unfold execSinkReclose
  refine Touches.next ?_
  extract_lets -merge -underBinder +onlyGivenNames x0
  have hx0 : Same P s x0 := State.setVbus_same _ _ hk
  try clear_value x0
  extract_lets -merge -underBinder +onlyGivenNames x1
  exact Same.ite (fun _ => State.put_same _ _ _ hx0 gGUARD_12) (fun _ => hx0)

theorem execGuardCmdSnkClose_touches (n : Port) (key : BitVec 16) (gGUARD_16 : P (pGUARD n) 16) (gGUARD_12 : P (pGUARD n) 12) : Touches P s (execGuardCmdSnkClose n key s) := by
  have hk : Same P s s := Same.refl _ _
  unfold execGuardCmdSnkClose
  refine Touches.next ?_
  exact State.keyCmd_same _ _ _ hk (fun _ h0 => State.snkClose_same _ h0 gGUARD_12 gGUARD_16) gGUARD_16

theorem execGuardCmdSnkOpen_touches (n : Port) (key : BitVec 16) (gGUARD_16 : P (pGUARD n) 16) (gGUARD_12 : P (pGUARD n) 12) (gSHARE_any : ∀ o, o < 256 → P pSHARE o) : Touches P s (execGuardCmdSnkOpen n key s) := by
  have hk : Same P s s := Same.refl _ _
  unfold execGuardCmdSnkOpen
  refine Touches.next ?_
  exact State.keyCmd_same _ _ _ hk (fun _ h0 => State.snkOpen_same _ h0 gGUARD_12 (fun o ho => gSHARE_any o ho)) gGUARD_16

theorem execGuardCmdUnretire_touches (n : Port) (key : BitVec 16) (gGUARD_16 : P (pGUARD n) 16) (gGUARD_12 : P (pGUARD n) 12) (gGUARD_92 : P (pGUARD n) 92) (gCMPT_any : ∀ o, o < 256 → P pCMPT o) (gCC_16 : P (pCC n) 16) (gCC_12 : P (pCC n) 12) (gPDL_any : ∀ o, o < 256 → P (pPDL n) o) (gVDM_64 : P (pVDM n) 64) (gVDM_16 : P (pVDM n) 16) (gPOL_12 : P (pPOL n) 12) (gPOL_52 : P (pPOL n) 52) (gPOL_16 : P (pPOL n) 16) (gPOL_44 : P (pPOL n) 44) (gVDM_52 : P (pVDM n) 52) (gSHARE_any : ∀ o, o < 256 → P pSHARE o) (gVDM_96 : P (pVDM n) 96) : Touches P s (execGuardCmdUnretire n key s) := by
  have hk : Same P s s := Same.refl _ _
  unfold execGuardCmdUnretire
  refine Touches.next ?_
  exact State.keyCmd_same _ _ _ hk (fun _ h0 => State.unretireCmd_same _ h0 gGUARD_12 gGUARD_92 (fun o ho => gCMPT_any o ho) gGUARD_16 gCC_16 gCC_12 (fun o ho => gPDL_any o ho) gVDM_64 gVDM_16 gPOL_12 gPOL_52 gPOL_16 gPOL_44 gVDM_52 (fun o ho => gSHARE_any o ho) gVDM_96) gGUARD_16

theorem execGuardCmdRetire_touches (n : Port) (key : BitVec 16) (gGUARD_16 : P (pGUARD n) 16) (gGUARD_84 : P (pGUARD n) 84) (gCC_16 : P (pCC n) 16) (gCC_12 : P (pCC n) 12) (gPDL_any : ∀ o, o < 256 → P (pPDL n) o) (gVDM_64 : P (pVDM n) 64) (gVDM_16 : P (pVDM n) 16) (gPOL_12 : P (pPOL n) 12) (gPOL_52 : P (pPOL n) 52) (gPOL_16 : P (pPOL n) 16) (gPOL_44 : P (pPOL n) 44) (gGUARD_12 : P (pGUARD n) 12) (gVDM_52 : P (pVDM n) 52) (gSHARE_any : ∀ o, o < 256 → P pSHARE o) (gVDM_96 : P (pVDM n) 96) : Touches P s (execGuardCmdRetire n key s) := by
  have hk : Same P s s := Same.refl _ _
  unfold execGuardCmdRetire
  refine Touches.next ?_
  exact State.keyCmd_same _ _ _ hk (fun _ h0 => State.retire_same _ _ h0 gGUARD_84 gCC_16 gCC_12 (fun o ho => gPDL_any o ho) gVDM_64 gVDM_16 gPOL_12 gPOL_52 gPOL_16 gPOL_44 gGUARD_12 gVDM_52 (fun o ho => gSHARE_any o ho) gVDM_96 gGUARD_16) gGUARD_16

theorem execCmptRetest_touches (ports : BitVec 8) (key : BitVec 16) (gCMPT_any : ∀ o, o < 256 → P pCMPT o) (gGUARD_12 : ∀ m, P (pGUARD m) 12) (gGUARD_16 : ∀ m, P (pGUARD m) 16) : Touches P s (execCmptRetest ports key s) := by
  have hk : Same P s s := Same.refl _ _
  unfold execCmptRetest
  refine Touches.next ?_
  exact State.keyCmd_same _ _ _ hk (fun _ h0 => State.retest_same _ h0 (fun o ho => gCMPT_any o ho) (fun m => gGUARD_12 m) (fun m => gGUARD_16 m)) (gCMPT_any _ (by decide))

theorem execCcLineChange_touches (n : Port) (mv1 : ℕ) (mv2 : ℕ) (gCC_16 : P (pCC n) 16) (gCC_12 : P (pCC n) 12) (gPDL_any : ∀ o, o < 256 → P (pPDL n) o) (gVDM_64 : P (pVDM n) 64) (gVDM_16 : P (pVDM n) 16) (gPOL_12 : P (pPOL n) 12) (gPOL_52 : P (pPOL n) 52) (gPOL_16 : P (pPOL n) 16) (gPOL_44 : P (pPOL n) 44) (gGUARD_12 : P (pGUARD n) 12) (gVDM_52 : P (pVDM n) 52) (gSHARE_any : ∀ o, o < 256 → P pSHARE o) (gVDM_96 : P (pVDM n) 96) (gCC_68 : P (pCC n) 68) : Touches P s (execCcLineChange n mv1 mv2 s) := by
  have hk : Same P s s := Same.refl _ _
  unfold execCcLineChange
  refine Touches.next ?_
  exact State.ccLine_same _ _ _ hk gCC_16 gCC_12 (fun o ho => gPDL_any o ho) gVDM_64 gVDM_16 gPOL_12 gPOL_52 gPOL_16 gPOL_44 gGUARD_12 gVDM_52 (fun o ho => gSHARE_any o ho) gVDM_96 gCC_68

theorem execCcDebounce_touches (n : Port) (gCC_16 : P (pCC n) 16) (gCC_12 : P (pCC n) 12) (gPDL_any : ∀ o, o < 256 → P (pPDL n) o) (gVDM_64 : P (pVDM n) 64) (gVDM_16 : P (pVDM n) 16) (gPOL_12 : P (pPOL n) 12) (gPOL_52 : P (pPOL n) 52) (gPOL_16 : P (pPOL n) 16) (gPOL_44 : P (pPOL n) 44) (gGUARD_12 : P (pGUARD n) 12) (gVDM_52 : P (pVDM n) 52) (gSHARE_any : ∀ o, o < 256 → P pSHARE o) (gVDM_96 : P (pVDM n) 96) : Touches P s (execCcDebounce n s) := by
  have hk : Same P s s := Same.refl _ _
  unfold execCcDebounce
  refine Touches.next ?_
  exact Same.ite (fun _ => State.debounced_same _ hk gCC_16 gCC_12 (fun o ho => gPDL_any o ho) gVDM_64 gVDM_16 gPOL_12 gPOL_52 gPOL_16 gPOL_44 gGUARD_12 gVDM_52 (fun o ho => gSHARE_any o ho) gVDM_96) (fun _ => hk)

theorem execPdDebounce_touches (n : Port) (gCC_16 : P (pCC n) 16) (gCC_12 : P (pCC n) 12) (gPDL_any : ∀ o, o < 256 → P (pPDL n) o) (gVDM_64 : P (pVDM n) 64) (gVDM_16 : P (pVDM n) 16) (gPOL_12 : P (pPOL n) 12) (gPOL_52 : P (pPOL n) 52) (gPOL_16 : P (pPOL n) 16) (gPOL_44 : P (pPOL n) 44) (gGUARD_12 : P (pGUARD n) 12) (gVDM_52 : P (pVDM n) 52) (gSHARE_any : ∀ o, o < 256 → P pSHARE o) (gVDM_96 : P (pVDM n) 96) : Touches P s (execPdDebounce n s) := by
  have hk : Same P s s := Same.refl _ _
  unfold execPdDebounce
  refine Touches.next ?_
  exact State.pdDebounced_same _ hk gCC_16 gCC_12 (fun o ho => gPDL_any o ho) gVDM_64 gVDM_16 gPOL_12 gPOL_52 gPOL_16 gPOL_44 gGUARD_12 gVDM_52 (fun o ho => gSHARE_any o ho) gVDM_96

theorem execDrpToggle_touches (n : Port) (gCC_16 : P (pCC n) 16) (gCC_12 : P (pCC n) 12) (gPDL_any : ∀ o, o < 256 → P (pPDL n) o) (gVDM_64 : P (pVDM n) 64) (gVDM_16 : P (pVDM n) 16) (gPOL_12 : P (pPOL n) 12) (gPOL_52 : P (pPOL n) 52) (gPOL_16 : P (pPOL n) 16) (gPOL_44 : P (pPOL n) 44) (gGUARD_12 : P (pGUARD n) 12) (gVDM_52 : P (pVDM n) 52) (gSHARE_any : ∀ o, o < 256 → P pSHARE o) (gVDM_96 : P (pVDM n) 96) : Touches P s (execDrpToggle n s) := by
  have hk : Same P s s := Same.refl _ _
  unfold execDrpToggle
  refine Touches.next ?_
  split
  · exact Same.ite (fun _ => State.ccEnter_same _ _ hk gCC_16 gCC_12 (fun o ho => gPDL_any o ho) gVDM_64 gVDM_16 gPOL_12 gPOL_52 gPOL_16 gPOL_44 gGUARD_12 gVDM_52 (fun o ho => gSHARE_any o ho) gVDM_96) (fun _ => hk)
  · exact Same.ite (fun _ => State.ccEnter_same _ _ hk gCC_16 gCC_12 (fun o ho => gPDL_any o ho) gVDM_64 gVDM_16 gPOL_12 gPOL_52 gPOL_16 gPOL_44 gGUARD_12 gVDM_52 (fun o ho => gSHARE_any o ho) gVDM_96) (fun _ => hk)
  · exact hk

theorem execErrorRecoveryTimeout_touches (n : Port) (gCC_16 : P (pCC n) 16) (gCC_12 : P (pCC n) 12) (gPDL_any : ∀ o, o < 256 → P (pPDL n) o) (gVDM_64 : P (pVDM n) 64) (gVDM_16 : P (pVDM n) 16) (gPOL_12 : P (pPOL n) 12) (gPOL_52 : P (pPOL n) 52) (gPOL_16 : P (pPOL n) 16) (gPOL_44 : P (pPOL n) 44) (gGUARD_12 : P (pGUARD n) 12) (gVDM_52 : P (pVDM n) 52) (gSHARE_any : ∀ o, o < 256 → P pSHARE o) (gVDM_96 : P (pVDM n) 96) : Touches P s (execErrorRecoveryTimeout n s) := by
  have hk : Same P s s := Same.refl _ _
  unfold execErrorRecoveryTimeout
  refine Touches.next ?_
  exact Same.ite (fun _ => State.ccResume_same _ hk gCC_16 gCC_12 (fun o ho => gPDL_any o ho) gVDM_64 gVDM_16 gPOL_12 gPOL_52 gPOL_16 gPOL_44 gGUARD_12 gVDM_52 (fun o ho => gSHARE_any o ho) gVDM_96) (fun _ => hk)

theorem execTryTimer_touches (n : Port) (gCC_16 : P (pCC n) 16) (gCC_12 : P (pCC n) 12) (gPDL_any : ∀ o, o < 256 → P (pPDL n) o) (gVDM_64 : P (pVDM n) 64) (gVDM_16 : P (pVDM n) 16) (gPOL_12 : P (pPOL n) 12) (gPOL_52 : P (pPOL n) 52) (gPOL_16 : P (pPOL n) 16) (gPOL_44 : P (pPOL n) 44) (gGUARD_12 : P (pGUARD n) 12) (gVDM_52 : P (pVDM n) 52) (gSHARE_any : ∀ o, o < 256 → P pSHARE o) (gVDM_96 : P (pVDM n) 96) : Touches P s (execTryTimer n s) := by
  have hk : Same P s s := Same.refl _ _
  unfold execTryTimer
  refine Touches.next ?_
  split
  · exact Same.ite (fun _ => State.ccEnter_same _ _ hk gCC_16 gCC_12 (fun o ho => gPDL_any o ho) gVDM_64 gVDM_16 gPOL_12 gPOL_52 gPOL_16 gPOL_44 gGUARD_12 gVDM_52 (fun o ho => gSHARE_any o ho) gVDM_96) (fun _ => State.modCc_same _ _ hk)
  · exact State.modCc_same _ _ hk
  · exact hk

theorem execTrywaitTimeout_touches (n : Port) (gCC_16 : P (pCC n) 16) (gCC_12 : P (pCC n) 12) (gPDL_any : ∀ o, o < 256 → P (pPDL n) o) (gVDM_64 : P (pVDM n) 64) (gVDM_16 : P (pVDM n) 16) (gPOL_12 : P (pPOL n) 12) (gPOL_52 : P (pPOL n) 52) (gPOL_16 : P (pPOL n) 16) (gPOL_44 : P (pPOL n) 44) (gGUARD_12 : P (pGUARD n) 12) (gVDM_52 : P (pVDM n) 52) (gSHARE_any : ∀ o, o < 256 → P pSHARE o) (gVDM_96 : P (pVDM n) 96) : Touches P s (execTrywaitTimeout n s) := by
  have hk : Same P s s := Same.refl _ _
  unfold execTrywaitTimeout
  refine Touches.next ?_
  split
  · exact State.ccEnter_same _ _ hk gCC_16 gCC_12 (fun o ho => gPDL_any o ho) gVDM_64 gVDM_16 gPOL_12 gPOL_52 gPOL_16 gPOL_44 gGUARD_12 gVDM_52 (fun o ho => gSHARE_any o ho) gVDM_96
  · exact State.ccEnter_same _ _ hk gCC_16 gCC_12 (fun o ho => gPDL_any o ho) gVDM_64 gVDM_16 gPOL_12 gPOL_52 gPOL_16 gPOL_44 gGUARD_12 gVDM_52 (fun o ho => gSHARE_any o ho) gVDM_96
  · exact hk

theorem execTrySrcTimeout_touches (n : Port) (gCC_16 : P (pCC n) 16) (gCC_12 : P (pCC n) 12) (gPDL_any : ∀ o, o < 256 → P (pPDL n) o) (gVDM_64 : P (pVDM n) 64) (gVDM_16 : P (pVDM n) 16) (gPOL_12 : P (pPOL n) 12) (gPOL_52 : P (pPOL n) 52) (gPOL_16 : P (pPOL n) 16) (gPOL_44 : P (pPOL n) 44) (gGUARD_12 : P (pGUARD n) 12) (gVDM_52 : P (pVDM n) 52) (gSHARE_any : ∀ o, o < 256 → P pSHARE o) (gVDM_96 : P (pVDM n) 96) : Touches P s (execTrySrcTimeout n s) := by
  have hk : Same P s s := Same.refl _ _
  unfold execTrySrcTimeout
  refine Touches.next ?_
  exact Same.ite (fun _ => State.ccEnter_same _ _ hk gCC_16 gCC_12 (fun o ho => gPDL_any o ho) gVDM_64 gVDM_16 gPOL_12 gPOL_52 gPOL_16 gPOL_44 gGUARD_12 gVDM_52 (fun o ho => gSHARE_any o ho) gVDM_96) (fun _ => hk)

theorem execSourceDetach_touches (n : Port) (load : Option ℕ) (gCC_16 : P (pCC n) 16) (gCC_12 : P (pCC n) 12) (gPDL_any : ∀ o, o < 256 → P (pPDL n) o) (gVDM_64 : P (pVDM n) 64) (gVDM_16 : P (pVDM n) 16) (gPOL_12 : P (pPOL n) 12) (gPOL_52 : P (pPOL n) 52) (gPOL_16 : P (pPOL n) 16) (gPOL_44 : P (pPOL n) 44) (gGUARD_12 : P (pGUARD n) 12) (gVDM_52 : P (pVDM n) 52) (gSHARE_any : ∀ o, o < 256 → P pSHARE o) (gVDM_96 : P (pVDM n) 96) : Touches P s (execSourceDetach n load s) := by
  have hk : Same P s s := Same.refl _ _
  unfold execSourceDetach
  refine Touches.next ?_
  exact Same.ite (fun _ => State.ccEnter_same _ _ hk gCC_16 gCC_12 (fun o ho => gPDL_any o ho) gVDM_64 gVDM_16 gPOL_12 gPOL_52 gPOL_16 gPOL_44 gGUARD_12 gVDM_52 (fun o ho => gSHARE_any o ho) gVDM_96) (fun _ => hk)

theorem execSinkDetach_touches (n : Port) (mv : ℕ) (gCC_16 : P (pCC n) 16) (gCC_12 : P (pCC n) 12) (gPDL_any : ∀ o, o < 256 → P (pPDL n) o) (gVDM_64 : P (pVDM n) 64) (gVDM_16 : P (pVDM n) 16) (gPOL_12 : P (pPOL n) 12) (gPOL_52 : P (pPOL n) 52) (gPOL_16 : P (pPOL n) 16) (gPOL_44 : P (pPOL n) 44) (gGUARD_12 : P (pGUARD n) 12) (gVDM_52 : P (pVDM n) 52) (gSHARE_any : ∀ o, o < 256 → P pSHARE o) (gVDM_96 : P (pVDM n) 96) : Touches P s (execSinkDetach n mv s) := by
  have hk : Same P s s := Same.refl _ _
  unfold execSinkDetach
  refine Touches.next ?_
  extract_lets -merge -underBinder +onlyGivenNames x0
  have hx0 : Same P s x0 := State.setVbus_same _ _ hk
  try clear_value x0
  exact Same.ite (fun _ => State.ccEnter_same _ _ hx0 gCC_16 gCC_12 (fun o ho => gPDL_any o ho) gVDM_64 gVDM_16 gPOL_12 gPOL_52 gPOL_16 gPOL_44 gGUARD_12 gVDM_52 (fun o ho => gSHARE_any o ho) gVDM_96) (fun _ => hx0)

theorem execDebugAccessoryExit_touches (n : Port) (mv : ℕ) (gCC_16 : P (pCC n) 16) (gCC_12 : P (pCC n) 12) (gPDL_any : ∀ o, o < 256 → P (pPDL n) o) (gVDM_64 : P (pVDM n) 64) (gVDM_16 : P (pVDM n) 16) (gPOL_12 : P (pPOL n) 12) (gPOL_52 : P (pPOL n) 52) (gPOL_16 : P (pPOL n) 16) (gPOL_44 : P (pPOL n) 44) (gGUARD_12 : P (pGUARD n) 12) (gVDM_52 : P (pVDM n) 52) (gSHARE_any : ∀ o, o < 256 → P pSHARE o) (gVDM_96 : P (pVDM n) 96) : Touches P s (execDebugAccessoryExit n mv s) := by
  have hk : Same P s s := Same.refl _ _
  unfold execDebugAccessoryExit
  refine Touches.next ?_
  extract_lets -merge -underBinder +onlyGivenNames x0
  have hx0 : Same P s x0 := State.setVbus_same _ _ hk
  try clear_value x0
  exact Same.ite (fun _ => State.ccEnter_same _ _ hx0 gCC_16 gCC_12 (fun o ho => gPDL_any o ho) gVDM_64 gVDM_16 gPOL_12 gPOL_52 gPOL_16 gPOL_44 gGUARD_12 gVDM_52 (fun o ho => gSHARE_any o ho) gVDM_96) (fun _ => hx0)

theorem execHrSinkHoldEnd_touches (n : Port) (gPOL_16 : P (pPOL n) 16) (gPOL_12 : P (pPOL n) 12) (gCC_16 : P (pCC n) 16) (gCC_12 : P (pCC n) 12) (gPDL_any : ∀ o, o < 256 → P (pPDL n) o) (gVDM_64 : P (pVDM n) 64) (gVDM_16 : P (pVDM n) 16) (gPOL_52 : P (pPOL n) 52) (gPOL_44 : P (pPOL n) 44) (gGUARD_12 : P (pGUARD n) 12) (gVDM_52 : P (pVDM n) 52) (gSHARE_any : ∀ o, o < 256 → P pSHARE o) (gVDM_96 : P (pVDM n) 96) : Touches P s (execHrSinkHoldEnd n s) := by
  have hk : Same P s s := Same.refl _ _
  unfold execHrSinkHoldEnd
  refine Touches.next ?_
  extract_lets -merge -underBinder +onlyGivenNames x0
  exact Same.ite (fun _ => hk) (fun _ => Same.ite (fun _ => Same.ite (fun _ => hk) (fun _ => State.hrDone_same _ (State.modCc_same _ _ hk) gPOL_16 gPOL_12)) (fun _ => State.raise_same _ _ (State.ccEnter_same _ _ hk gCC_16 gCC_12 (fun o ho => gPDL_any o ho) gVDM_64 gVDM_16 gPOL_12 gPOL_52 gPOL_16 gPOL_44 gGUARD_12 gVDM_52 (fun o ho => gSHARE_any o ho) gVDM_96) gCC_16))

theorem execVconnAutoOn_touches (n : Port) (gCC_12 : P (pCC n) 12) : Touches P s (execVconnAutoOn n s) := by
  have hk : Same P s s := Same.refl _ _
  unfold execVconnAutoOn
  refine Touches.next ?_
  exact Same.ite (fun _ => hk) (fun _ => Same.ite (fun _ => State.modCc_same _ _ hk) (fun _ => Same.ite (fun _ => State.modCc_same _ _ (State.vconnOn_same _ hk gCC_12)) (fun _ => hk)))

theorem execVconnRaProbe_touches (n : Port) (mv : ℕ) (gCC_12 : P (pCC n) 12) (gCC_16 : P (pCC n) 16) : Touches P s (execVconnRaProbe n mv s) := by
  have hk : Same P s s := Same.refl _ _
  unfold execVconnRaProbe
  refine Touches.next ?_
  extract_lets -merge -underBinder +onlyGivenNames x0
  clear_value x0
  extract_lets -merge -underBinder +onlyGivenNames x1
  have hx1 : Same P s x1 := State.modCc_same _ _ hk
  try clear_value x1
  refine Same.ite (fun _ => ?_) (fun _ => ?_)
  · split
    · exact Same.ite (fun _ => State.modCc_same _ _ (State.vconnOn_same _ hx1 gCC_12)) (fun _ => State.raiseIf_same _ _ _ hx1 gCC_16)
    · exact hx1
  · exact hk

theorem execCcCmdErrRec_touches (n : Port) (key : BitVec 16) (gCC_16 : P (pCC n) 16) : Touches P s (execCcCmdErrRec n key s) := by
  have hk : Same P s s := Same.refl _ _
  unfold execCcCmdErrRec
  refine Touches.next ?_
  exact State.keyCmd_same _ _ _ hk (fun _ h0 => State.modCc_same _ _ h0) gCC_16

theorem execCcCmdVconnOn_touches (n : Port) (key : BitVec 16) (gCC_16 : P (pCC n) 16) (gCC_12 : P (pCC n) 12) : Touches P s (execCcCmdVconnOn n key s) := by
  have hk : Same P s s := Same.refl _ _
  unfold execCcCmdVconnOn
  refine Touches.next ?_
  exact State.keyCmd_same _ _ _ hk (fun _ h0 => State.vconnOnCmd_same _ h0 gCC_12 gCC_16) gCC_16

theorem execCcCmdVconnOff_touches (n : Port) (key : BitVec 16) (gCC_16 : P (pCC n) 16) (gCC_12 : P (pCC n) 12) : Touches P s (execCcCmdVconnOff n key s) := by
  have hk : Same P s s := Same.refl _ _
  unfold execCcCmdVconnOff
  refine Touches.next ?_
  exact State.keyCmd_same _ _ _ hk (fun _ h0 => State.vconnOff_same _ h0 gCC_12) gCC_16

theorem execVconnOvercurrent_touches (n : Port) (gCC_16 : P (pCC n) 16) (gCC_12 : P (pCC n) 12) : Touches P s (execVconnOvercurrent n s) := by
  have hk : Same P s s := Same.refl _ _
  unfold execVconnOvercurrent
  refine Touches.next ?_
  exact Same.ite (fun _ => State.raise_same _ _ (State.vconnOff_same _ hk gCC_12) gCC_16) (fun _ => hk)

theorem execVconnDischargeEnd_touches (n : Port) : Touches P s (execVconnDischargeEnd n s) := by
  have hk : Same P s s := Same.refl _ _
  unfold execVconnDischargeEnd
  refine Touches.next ?_
  exact State.modCc_same _ _ hk

theorem execCcOvervoltage_touches (n : Port) (gCC_16 : P (pCC n) 16) (gCC_12 : P (pCC n) 12) (gGUARD_12 : P (pGUARD n) 12) (gGUARD_84 : P (pGUARD n) 84) (gGUARD_88 : P (pGUARD n) 88) (gGUARD_92 : P (pGUARD n) 92) (gGUARD_16 : P (pGUARD n) 16) (gPOL_16 : P (pPOL n) 16) (gPOL_44 : P (pPOL n) 44) (gPOL_12 : P (pPOL n) 12) (gPOL_52 : P (pPOL n) 52) (gPDL_any : ∀ o, o < 256 → P (pPDL n) o) (gVDM_64 : P (pVDM n) 64) (gVDM_16 : P (pVDM n) 16) (gVDM_52 : P (pVDM n) 52) (gVDM_96 : P (pVDM n) 96) (gSHARE_any : ∀ o, o < 256 → P pSHARE o) : Touches P s (execCcOvervoltage n s) := by
  have hk : Same P s s := Same.refl _ _
  unfold execCcOvervoltage
  refine Touches.next ?_
  extract_lets -merge -underBinder +onlyGivenNames x0 x1
  have hx1 : Same P s x1 := State.raise_same _ _ (State.vconnOff_same _ hk gCC_12) gCC_16
  try clear_value x1
  extract_lets -merge -underBinder +onlyGivenNames x2
  have hx2 : Same P s x2 := State.modCc_same _ _ hx1
  try clear_value x2
  exact Same.ite (fun _ => hx2) (fun _ => State.trip_same _ _ _ (State.ccEnter_same _ _ hx2 gCC_16 gCC_12 (fun o ho => gPDL_any o ho) gVDM_64 gVDM_16 gPOL_12 gPOL_52 gPOL_16 gPOL_44 gGUARD_12 gVDM_52 (fun o ho => gSHARE_any o ho) gVDM_96) gGUARD_12 gGUARD_84 gGUARD_88 gGUARD_92 gGUARD_16 gPOL_16 gPOL_44 gPOL_12 gPOL_52 gCC_12 (fun o ho => gPDL_any o ho) gVDM_64 gVDM_16 gVDM_52 gVDM_96 (fun o ho => gSHARE_any o ho) gCC_16)

theorem execPartnerGone_touches (n : Port) (gCC_68 : P (pCC n) 68) (gCC_16 : P (pCC n) 16) : Touches P s (execPartnerGone n s) := by
  have hk : Same P s s := Same.refl _ _
  unfold execPartnerGone
  refine Touches.next ?_
  exact Same.ite (fun _ => State.put_same _ _ _ (State.raise_same _ _ hk gCC_16) gCC_68) (fun _ => hk)

theorem execOwnerCheck_touches (n : Port) (mv : ℕ) (gCC_16 : P (pCC n) 16) (gCC_12 : P (pCC n) 12) (gPDL_any : ∀ o, o < 256 → P (pPDL n) o) (gVDM_64 : P (pVDM n) 64) (gVDM_16 : P (pVDM n) 16) (gPOL_12 : P (pPOL n) 12) (gPOL_52 : P (pPOL n) 52) (gPOL_16 : P (pPOL n) 16) (gPOL_44 : P (pPOL n) 44) (gGUARD_12 : P (pGUARD n) 12) (gVDM_52 : P (pVDM n) 52) (gSHARE_any : ∀ o, o < 256 → P pSHARE o) (gVDM_96 : P (pVDM n) 96) : Touches P s (execOwnerCheck n mv s) := by
  have hk : Same P s s := Same.refl _ _
  unfold execOwnerCheck
  refine Touches.next ?_
  extract_lets -merge -underBinder +onlyGivenNames x0
  have hx0 : Same P s x0 := State.modCc_same _ _ hk
  try clear_value x0
  exact Same.ite (fun _ => Same.ite (fun _ => Same.ite (fun _ => State.debounced_same _ hx0 gCC_16 gCC_12 (fun o ho => gPDL_any o ho) gVDM_64 gVDM_16 gPOL_12 gPOL_52 gPOL_16 gPOL_44 gGUARD_12 gVDM_52 (fun o ho => gSHARE_any o ho) gVDM_96) (fun _ => hx0)) (fun _ => State.raise_same _ _ hk gCC_16)) (fun _ => hk)

theorem execVbusLevelChange_touches (n : Port) (mv : ℕ) (gCC_16 : P (pCC n) 16) (gCC_12 : P (pCC n) 12) (gPDL_any : ∀ o, o < 256 → P (pPDL n) o) (gVDM_64 : P (pVDM n) 64) (gVDM_16 : P (pVDM n) 16) (gPOL_12 : P (pPOL n) 12) (gPOL_52 : P (pPOL n) 52) (gPOL_16 : P (pPOL n) 16) (gPOL_44 : P (pPOL n) 44) (gGUARD_12 : P (pGUARD n) 12) (gVDM_52 : P (pVDM n) 52) (gSHARE_any : ∀ o, o < 256 → P pSHARE o) (gVDM_96 : P (pVDM n) 96) : Touches P s (execVbusLevelChange n mv s) := by
  have hk : Same P s s := Same.refl _ _
  unfold execVbusLevelChange
  refine Touches.next ?_
  extract_lets -merge -underBinder +onlyGivenNames x0
  have hx0 : Same P s x0 := State.setVbus_same _ _ hk
  try clear_value x0
  exact Same.ite (fun _ => State.debounced_same _ hx0 gCC_16 gCC_12 (fun o ho => gPDL_any o ho) gVDM_64 gVDM_16 gPOL_12 gPOL_52 gPOL_16 gPOL_44 gGUARD_12 gVDM_52 (fun o ho => gSHARE_any o ho) gVDM_96) (fun _ => hx0)

theorem execShareRegulation_touches (n : Port) (held : Bool) (gSHARE_any : ∀ o, o < 256 → P pSHARE o) : Touches P s (execShareRegulation n held s) := by
  have hk : Same P s s := Same.refl _ _
  unfold execShareRegulation
  refine Touches.next ?_
  exact Same.ite (fun _ => State.putB_same _ _ _ hk (gSHARE_any _ (by (try simp only [List.mem_range, List.mem_cons, List.not_mem_nil, or_false] at hm); (try simp only [Fld.at, SHARE.PORT_STAT_HELD]); omega))) (fun _ => hk)

theorem execDiodeRegulation_touches (n : Port) (held : Bool) : Touches P s (execDiodeRegulation n held s) := by
  have hk : Same P s s := Same.refl _ _
  unfold execDiodeRegulation
  refine Touches.next ?_
  exact Same.ite (fun _ => State.modShare_same _ _ hk) (fun _ => hk)

theorem execShareRelease_touches (n : Port) (gSHARE_any : ∀ o, o < 256 → P pSHARE o) : Touches P s (execShareRelease n s) := by
  have hk : Same P s s := Same.refl _ _
  unfold execShareRelease
  refine Touches.next ?_
  exact State.shareLeave_same _ hk (fun o ho => gSHARE_any o ho)

theorem execNoFreeMember_touches (gSHARE_any : ∀ o, o < 256 → P pSHARE o) : Touches P s (execNoFreeMember s) := by
  have hk : Same P s s := Same.refl _ _
  unfold execNoFreeMember
  refine Touches.next ?_
  extract_lets -merge -underBinder +onlyGivenNames x0
  exact Same.ite (fun _ => State.shareRelease_same _ hk (fun o ho => gSHARE_any o ho)) (fun _ => hk)

theorem execShareCmdRelease_touches (key : BitVec 16) (gSHARE_any : ∀ o, o < 256 → P pSHARE o) : Touches P s (execShareCmdRelease key s) := by
  have hk : Same P s s := Same.refl _ _
  unfold execShareCmdRelease
  refine Touches.next ?_
  exact State.keyCmd_same _ _ _ hk (fun _ h0 => State.shareRelease_same _ h0 (fun o ho => gSHARE_any o ho)) (gSHARE_any _ (by decide))

theorem execShareCmdTrimClear_touches (key : BitVec 16) (gSHARE_16 : P pSHARE 16) : Touches P s (execShareCmdTrimClear key s) := by
  have hk : Same P s s := Same.refl _ _
  unfold execShareCmdTrimClear
  refine Touches.next ?_
  exact State.keyCmd_same _ _ _ hk (fun _ h0 => State.trimClearCmd_same h0) gSHARE_16

theorem execMemberBlockEnd_touches (n : Port) (gGUARD_12 : P (pGUARD n) 12) : Touches P s (execMemberBlockEnd n s) := by
  have hk : Same P s s := Same.refl _ _
  unfold execMemberBlockEnd
  refine Touches.next ?_
  exact Same.ite (fun _ => State.modShare_same _ _ (State.put_same _ _ _ hk gGUARD_12)) (fun _ => hk)

theorem execHpdLevelWrite_touches (n : Port) (level : Bool) (gVDM_52 : P (pVDM n) 52) : Touches P s (execHpdLevelWrite n level s) := by
  have hk : Same P s s := Same.refl _ _
  unfold execHpdLevelWrite
  refine Touches.next ?_
  exact State.cmd_same _ hk (fun _ h0 => State.hpdWrite_same _ _ h0 gVDM_52)

theorem execHpdIrq_touches (n : Port) (early : Bool) (gVDM_16 : P (pVDM n) 16) : Touches P s (execHpdIrq n early s) := by
  have hk : Same P s s := Same.refl _ _
  unfold execHpdIrq
  refine Touches.next ?_
  exact State.cmd_same _ hk (fun _ h0 => State.hpdIrq_same _ _ h0 gVDM_16)

theorem execHpdIrqEnd_touches (n : Port) : Touches P s (execHpdIrqEnd n s) := by
  have hk : Same P s s := Same.refl _ _
  unfold execHpdIrqEnd
  refine Touches.next ?_
  exact State.cmd_same _ hk (fun _ h0 => State.modPort_same _ _ h0)

theorem execMuxbGo_touches (key : BitVec 16) (gMUXB_16 : P pMUXB 16) (gMUXB_76 : P pMUXB 76) : Touches P s (execMuxbGo key s) := by
  have hk : Same P s s := Same.refl _ _
  unfold execMuxbGo
  refine Touches.next ?_
  exact State.keyCmd_same _ _ _ hk (fun _ h0 => State.muxGo_same h0 gMUXB_16 gMUXB_76) gMUXB_16

theorem execMuxbAbort_touches (key : BitVec 16) (bytes : BitVec 5) (gMUXB_16 : P pMUXB 16) (gMUXB_76 : P pMUXB 76) : Touches P s (execMuxbAbort key bytes s) := by
  have hk : Same P s s := Same.refl _ _
  unfold execMuxbAbort
  refine Touches.next ?_
  exact State.keyCmd_same _ _ _ hk (fun _ h0 => State.muxAbort_same _ h0 gMUXB_76 gMUXB_16) gMUXB_16

theorem execMuxbDone_touches (result : Fin 8) (acked : BitVec 5) (bytes : List Byte) (pec : Byte) (gMUXB_any : ∀ o, o < 256 → P pMUXB o) : Touches P s (execMuxbDone result acked bytes pec s) := by
  have hk : Same P s s := Same.refl _ _
  unfold execMuxbDone
  refine Touches.next ?_
  refine State.cmd_same _ ?_ ?_
  · exact hk
  · intro s0_0 hs0_1
    extract_lets -merge -underBinder +onlyGivenNames x1 x2 x3 x4 x5 x6
    have hx6 : Same P s x6 := Same.mk' hs0_1
    try clear_value x6
    exact Same.ite (fun _ => State.muxEnd_same _ _ (State.muxRdata_same _ hx6 (fun o ho => gMUXB_any o ho)) (gMUXB_any _ (by decide)) (gMUXB_any _ (by decide))) (fun _ => hs0_1)

theorem execMuxbTimeout_touches (acked : BitVec 5) (gMUXB_76 : P pMUXB 76) (gMUXB_16 : P pMUXB 16) : Touches P s (execMuxbTimeout acked s) := by
  have hk : Same P s s := Same.refl _ _
  unfold execMuxbTimeout
  refine Touches.next ?_
  exact State.cmd_same _ hk (fun _ h0 => Same.ite (fun _ => State.muxEnd_same _ _ h0 gMUXB_76 gMUXB_16) (fun _ => h0))

theorem execMintEdge_touches (level : Bool) (gMUXB_16 : P pMUXB 16) : Touches P s (execMintEdge level s) := by
  have hk : Same P s s := Same.refl _ _
  unfold execMintEdge
  refine Touches.next ?_
  extract_lets -merge -underBinder +onlyGivenNames x0 x1 x2
  have hx2 : Same P s x2 := Same.mk' hk
  try clear_value x2
  extract_lets -merge -underBinder +onlyGivenNames x3 x4 x5
  exact Same.ite (fun _ => hx2) (fun _ => State.raiseIf_same _ _ _ hx2 gMUXB_16)

theorem execHedgerowFrameArrive_touches (l : Fin 3) (bytes : List Byte) (aborted : Bool) (codeErrs : ℕ) (storeOk : Bool) (gHG_60 : ∀ m, P (pHG m) 60) (gHG_12 : ∀ m, P (pHG m) 12) (gHG_16 : ∀ m, P (pHG m) 16) (gFLEET_12 : P pFLEET 12) (gFLEET_16 : P pFLEET 16) (gHG_52 : ∀ m, P (pHG m) 52) (gHG_48 : ∀ m, P (pHG m) 48) (gHG_44 : ∀ m, P (pHG m) 44) (gHG_40 : ∀ m, P (pHG m) 40) (gHG_56 : ∀ m, P (pHG m) 56) (gFLEET_104 : P pFLEET 104) (gFLEET_36 : P pFLEET 36) : Touches P s (execHedgerowFrameArrive l bytes aborted codeErrs storeOk s) := by
  have hk : Same P s s := Same.refl _ _
  unfold execHedgerowFrameArrive
  extract_lets -merge -underBinder +onlyGivenNames x0 x1 x2 x3
  have hx3 : Same P s x3 := State.put_same _ _ _ (State.incr_same _ _ (State.put_same _ _ _ hk (gHG_48 _)) (gHG_56 _)) (gHG_12 _)
  try clear_value x3
  extract_lets -merge -underBinder +onlyGivenNames x4
  have hx4 : Same P s x4 := State.linkWord_same _ _ hx3 (gHG_44 _)
  try clear_value x4
  refine Touches.ite (fun _ => ?_) (fun _ => ?_)
  · refine Touches.next ?_
    exact hk
  · refine Touches.ite (fun _ => ?_) (fun _ => ?_)
    · refine Touches.next ?_
      exact hk
    · refine Touches.ite (fun _ => ?_) (fun _ => ?_)
      · refine Touches.next ?_
        exact State.errLimit_same _ (State.linkWord_same _ _ (State.linkErr_same _ _ _ hk (gHG_40 _) (gHG_60 _)) (gHG_44 _)) (fun m => gHG_60 m) (fun m => gHG_12 m) (fun m => gHG_16 m) gFLEET_12 gFLEET_16 (fun m => gHG_52 m) (fun m => gHG_48 m)
      · refine Touches.ite (fun _ => ?_) (fun _ => ?_)
        · refine Touches.next ?_
          exact State.errLimit_same _ (State.linkWord_same _ _ (State.linkErr_same _ _ _ hk (gHG_40 _) (gHG_60 _)) (gHG_44 _)) (fun m => gHG_60 m) (fun m => gHG_12 m) (fun m => gHG_16 m) gFLEET_12 gFLEET_16 (fun m => gHG_52 m) (fun m => gHG_48 m)
        · refine Touches.ite (fun _ => ?_) (fun _ => ?_)
          · refine Touches.next ?_
            exact State.linkWord_same _ _ hk (gHG_44 _)
          · refine Touches.ite (fun _ => ?_) (fun _ => ?_)
            · refine Touches.next ?_
              exact hk
            · refine Touches.ite (fun _ => ?_) (fun _ => ?_)
              · refine Touches.next ?_
                exact Same.ite (fun _ => State.deliver_same _ _ hx4) (fun _ => State.bump_same _ _ _ hx4 gFLEET_104)
              · refine Touches.next ?_
                exact State.ringTake_same _ _ hx4 (fun m => gHG_52 m) (fun m => gHG_48 m) gFLEET_104 gFLEET_36

theorem execLinkWordReceive_touches (l : Fin 3) (b1 : BitVec 8) (b2 : BitVec 8) (b3 : BitVec 8) (gHG_60 : ∀ m, P (pHG m) 60) (gHG_12 : ∀ m, P (pHG m) 12) (gHG_16 : ∀ m, P (pHG m) 16) (gFLEET_12 : P pFLEET 12) (gFLEET_16 : P pFLEET 16) (gHG_52 : ∀ m, P (pHG m) 52) (gHG_48 : ∀ m, P (pHG m) 48) (gHG_40 : ∀ m, P (pHG m) 40) (gHG_44 : ∀ m, P (pHG m) 44) : Touches P s (execLinkWordReceive l b1 b2 b3 s) := by
  have hk : Same P s s := Same.refl _ _
  unfold execLinkWordReceive
  extract_lets -merge -underBinder +onlyGivenNames x0 x1
  have hx1 : Same P s x1 := State.putB_same _ _ _ hk (gHG_12 _)
  try clear_value x1
  extract_lets -merge -underBinder +onlyGivenNames x2
  have hx2 : Same P s x2 := State.takeAck_same _ _ hx1 gFLEET_16 (gHG_48 _) (gHG_52 _)
  try clear_value x2
  refine Touches.ite (fun _ => ?_) (fun _ => ?_)
  · refine Touches.next ?_
    exact hk
  · refine Touches.ite (fun _ => ?_) (fun _ => ?_)
    · refine Touches.next ?_
      exact Same.ite (fun _ => State.errLimit_same _ (State.linkErr_same _ _ _ hk (gHG_40 _) (gHG_60 _)) (fun m => gHG_60 m) (fun m => gHG_12 m) (fun m => gHG_16 m) gFLEET_12 gFLEET_16 (fun m => gHG_52 m) (fun m => gHG_48 m)) (fun _ => hk)
    · refine Touches.ite (fun _ => ?_) (fun _ => ?_)
      · refine Touches.next ?_
        exact State.linkLost_same _ _ hx1 (fun m => gHG_12 m) (fun m => gHG_16 m) gFLEET_12 gFLEET_16 (fun m => gHG_52 m) (fun m => gHG_48 m)
      · refine Touches.ite (fun _ => ?_) (fun _ => ?_)
        · refine Touches.next ?_
          exact Same.ite (fun _ => State.goBack_same _ hx2 (gHG_16 _) (gHG_44 _)) (fun _ => hx2)
        · refine Touches.next ?_
          exact hx1

theorem execArqTimeout_touches (l : Fin 3) (gHG_16 : P (pHG l) 16) (gHG_44 : P (pHG l) 44) : Touches P s (execArqTimeout l s) := by
  have hk : Same P s s := Same.refl _ _
  unfold execArqTimeout
  refine Touches.next ?_
  exact Same.ite (fun _ => State.goBack_same _ hk gHG_16 gHG_44) (fun _ => hk)

theorem execLossOfLock_touches (l : Fin 3) (fault : Bool) (gHG_12 : ∀ m, P (pHG m) 12) (gHG_16 : ∀ m, P (pHG m) 16) (gFLEET_12 : P pFLEET 12) (gFLEET_16 : P pFLEET 16) (gHG_52 : ∀ m, P (pHG m) 52) (gHG_48 : ∀ m, P (pHG m) 48) : Touches P s (execLossOfLock l fault s) := by
  have hk : Same P s s := Same.refl _ _
  unfold execLossOfLock
  refine Touches.ite (fun _ => ?_) (fun _ => ?_)
  · refine Touches.next ?_
    exact hk
  · refine Touches.next ?_
    exact State.linkLost_same _ _ (Same.ite (fun _ => State.put_same _ _ _ hk (gHG_12 _)) (fun _ => hk)) (fun m => gHG_12 m) (fun m => gHG_16 m) gFLEET_12 gFLEET_16 (fun m => gHG_52 m) (fun m => gHG_48 m)

theorem execLockRegained_touches (l : Fin 3) (gHG_12 : ∀ m, P (pHG m) 12) (gHG_16 : ∀ m, P (pHG m) 16) (gFLEET_12 : P pFLEET 12) (gFLEET_16 : P pFLEET 16) (gHG_52 : ∀ m, P (pHG m) 52) (gHG_48 : ∀ m, P (pHG m) 48) : Touches P s (execLockRegained l s) := by
  have hk : Same P s s := Same.refl _ _
  unfold execLockRegained
  refine Touches.next ?_
  exact Same.ite (fun _ => State.put_same _ _ _ (State.linkTo_same _ _ hk (fun m => gHG_12 m) (fun m => gHG_16 m) gFLEET_12 gFLEET_16 (fun m => gHG_52 m) (fun m => gHG_48 m)) (gHG_12 _)) (fun _ => hk)

theorem execTrainingComplete_touches (l : Fin 3) (delay : BitVec 16) (gHG_any : ∀ o, o < 256 → P (pHG l) o) : Touches P s (execTrainingComplete l delay s) := by
  have hk : Same P s s := Same.refl _ _
  unfold execTrainingComplete
  extract_lets -merge -underBinder +onlyGivenNames x0 x1
  have hx1 : Same P s x1 := State.put_same _ _ _ (State.put_same _ _ _ (State.put_same _ _ _ hk (gHG_any _ (by decide))) (gHG_any _ (by decide))) (gHG_any _ (by decide))
  try clear_value x1
  extract_lets -merge -underBinder +onlyGivenNames x2
  have hx2 : Same P s x2 := State.put_same _ _ _ (State.put_same _ _ _ hx1 (gHG_any _ (by decide))) (gHG_any _ (by (try simp only [List.mem_range, List.mem_cons, List.not_mem_nil, or_false] at hm); (try simp only [Fld.at]); omega))
  try clear_value x2
  refine Touches.ite (fun _ => ?_) (fun _ => ?_)
  · refine Touches.next ?_
    exact hk
  · refine Touches.next ?_
    exact State.raise_same _ _ (State.modLink_same _ _ hx2) (gHG_any _ (by decide))

theorem execLinkRetireTimeout_touches (l : Fin 3) (gHG_60 : ∀ m, P (pHG m) 60) (gHG_12 : ∀ m, P (pHG m) 12) (gHG_16 : ∀ m, P (pHG m) 16) (gFLEET_12 : P pFLEET 12) (gFLEET_16 : P pFLEET 16) (gHG_52 : ∀ m, P (pHG m) 52) (gHG_48 : ∀ m, P (pHG m) 48) : Touches P s (execLinkRetireTimeout l s) := by
  have hk : Same P s s := Same.refl _ _
  unfold execLinkRetireTimeout
  refine Touches.next ?_
  exact Same.ite (fun _ => State.linkRetire_same _ _ hk (fun m => gHG_60 m) (fun m => gHG_12 m) (fun m => gHG_16 m) gFLEET_12 gFLEET_16 (fun m => gHG_52 m) (fun m => gHG_48 m)) (fun _ => hk)

theorem execLinkErrorLimit_touches (l : Fin 3) (more : ℕ) (gHG_60 : ∀ m, P (pHG m) 60) (gHG_12 : ∀ m, P (pHG m) 12) (gHG_16 : ∀ m, P (pHG m) 16) (gFLEET_12 : P pFLEET 12) (gFLEET_16 : P pFLEET 16) (gHG_52 : ∀ m, P (pHG m) 52) (gHG_48 : ∀ m, P (pHG m) 48) (gHG_40 : ∀ m, P (pHG m) 40) : Touches P s (execLinkErrorLimit l more s) := by
  have hk : Same P s s := Same.refl _ _
  unfold execLinkErrorLimit
  refine Touches.ite (fun _ => ?_) (fun _ => ?_)
  · refine Touches.next ?_
    exact State.errLimit_same _ (State.linkErr_same _ _ _ hk (gHG_40 _) (gHG_60 _)) (fun m => gHG_60 m) (fun m => gHG_12 m) (fun m => gHG_16 m) gFLEET_12 gFLEET_16 (fun m => gHG_52 m) (fun m => gHG_48 m)
  · refine Touches.next ?_
    exact hk

theorem execReprobeTimer_touches (l : Fin 3) (gHG_60 : ∀ m, P (pHG m) 60) (gHG_12 : ∀ m, P (pHG m) 12) (gHG_16 : ∀ m, P (pHG m) 16) (gFLEET_12 : P pFLEET 12) (gFLEET_16 : P pFLEET 16) (gHG_52 : ∀ m, P (pHG m) 52) (gHG_48 : ∀ m, P (pHG m) 48) : Touches P s (execReprobeTimer l s) := by
  have hk : Same P s s := Same.refl _ _
  unfold execReprobeTimer
  refine Touches.next ?_
  exact State.probeLink_same _ hk (fun m => gHG_60 m) (fun m => gHG_12 m) (fun m => gHG_16 m) gFLEET_12 gFLEET_16 (fun m => gHG_52 m) (fun m => gHG_48 m)

theorem execProbingResult_touches (l : Fin 3) (clean : Bool) (gHG_12 : ∀ m, P (pHG m) 12) (gHG_16 : ∀ m, P (pHG m) 16) (gFLEET_12 : P pFLEET 12) (gFLEET_16 : P pFLEET 16) (gHG_52 : ∀ m, P (pHG m) 52) (gHG_48 : ∀ m, P (pHG m) 48) : Touches P s (execProbingResult l clean s) := by
  have hk : Same P s s := Same.refl _ _
  unfold execProbingResult
  refine Touches.next ?_
  exact Same.ite (fun _ => Same.ite (fun _ => State.put_same _ _ _ (State.linkTo_same _ _ hk (fun m => gHG_12 m) (fun m => gHG_16 m) gFLEET_12 gFLEET_16 (fun m => gHG_52 m) (fun m => gHG_48 m)) (gHG_12 _)) (fun _ => State.linkTo_same _ _ hk (fun m => gHG_12 m) (fun m => gHG_16 m) gFLEET_12 gFLEET_16 (fun m => gHG_52 m) (fun m => gHG_48 m))) (fun _ => hk)

theorem execHgCmdRetire_touches (l : Fin 3) (key : BitVec 16) (gHG_16 : ∀ m, P (pHG m) 16) (gHG_60 : ∀ m, P (pHG m) 60) (gHG_12 : ∀ m, P (pHG m) 12) (gFLEET_12 : P pFLEET 12) (gFLEET_16 : P pFLEET 16) (gHG_52 : ∀ m, P (pHG m) 52) (gHG_48 : ∀ m, P (pHG m) 48) : Touches P s (execHgCmdRetire l key s) := by
  have hk : Same P s s := Same.refl _ _
  unfold execHgCmdRetire
  refine Touches.next ?_
  exact State.keyCmd_same _ _ _ hk (fun _ h0 => State.hgRetire_same _ h0 (fun m => gHG_60 m) (fun m => gHG_12 m) (fun m => gHG_16 m) gFLEET_12 gFLEET_16 (fun m => gHG_52 m) (fun m => gHG_48 m)) (gHG_16 _)

theorem execHgCmdReprobe_touches (l : Fin 3) (key : BitVec 16) (gHG_16 : ∀ m, P (pHG m) 16) (gHG_60 : ∀ m, P (pHG m) 60) (gHG_12 : ∀ m, P (pHG m) 12) (gFLEET_12 : P pFLEET 12) (gFLEET_16 : P pFLEET 16) (gHG_52 : ∀ m, P (pHG m) 52) (gHG_48 : ∀ m, P (pHG m) 48) : Touches P s (execHgCmdReprobe l key s) := by
  have hk : Same P s s := Same.refl _ _
  unfold execHgCmdReprobe
  refine Touches.next ?_
  exact State.keyCmd_same _ _ _ hk (fun _ h0 => State.probeLink_same _ h0 (fun m => gHG_60 m) (fun m => gHG_12 m) (fun m => gHG_16 m) gFLEET_12 gFLEET_16 (fun m => gHG_52 m) (fun m => gHG_48 m)) (gHG_16 _)

theorem execHgCmdClearStats_touches (l : Fin 3) (key : BitVec 16) (gHG_16 : P (pHG l) 16) (gHG_56 : P (pHG l) 56) (gHG_52 : P (pHG l) 52) (gHG_44 : P (pHG l) 44) (gHG_40 : P (pHG l) 40) : Touches P s (execHgCmdClearStats l key s) := by
  have hk : Same P s s := Same.refl _ _
  unfold execHgCmdClearStats
  refine Touches.next ?_
  exact State.keyCmd_same _ _ _ hk (fun _ h0 => State.hgClear_same _ h0 gHG_56 gHG_52 gHG_44 gHG_40) gHG_16

theorem execFleetCmdEnumerate_touches (key : BitVec 16) (gFLEET_16 : P pFLEET 16) (gFLEET_12 : P pFLEET 12) (gID_64 : P pID 64) (gHG_52 : ∀ m, P (pHG m) 52) (gHG_48 : ∀ m, P (pHG m) 48) : Touches P s (execFleetCmdEnumerate key s) := by
  have hk : Same P s s := Same.refl _ _
  unfold execFleetCmdEnumerate
  refine Touches.next ?_
  exact State.keyCmd_same _ _ _ hk (fun _ h0 => State.enumerateCmd_same h0 gFLEET_12 gID_64 (fun m => gHG_52 m) (fun m => gHG_48 m)) gFLEET_16

theorem execEnumAssign_touches (gFLEET_48 : P pFLEET 48) (gHG_52 : ∀ m, P (pHG m) 52) (gHG_48 : ∀ m, P (pHG m) 48) (gFLEET_16 : P pFLEET 16) (gFLEET_12 : P pFLEET 12) (gID_64 : P pID 64) (gFLEET_40 : P pFLEET 40) : Touches P s (execEnumAssign s) := by
  have hk : Same P s s := Same.refl _ _
  unfold execEnumAssign
  refine Touches.next ?_
  exact State.withFrame_same _ hk (fun _ _ h0 => State.onAssign_same _ h0 gFLEET_48 (fun m => gHG_52 m) (fun m => gHG_48 m) gFLEET_16 gFLEET_12 gID_64 gFLEET_40)

theorem execEnumCal_touches (gFLEET_any : ∀ o, o < 256 → P pFLEET o) (gCLK_44 : P pCLK 44) (gHG_52 : ∀ m, P (pHG m) 52) (gHG_48 : ∀ m, P (pHG m) 48) : Touches P s (execEnumCal s) := by
  have hk : Same P s s := Same.refl _ _
  unfold execEnumCal
  refine Touches.next ?_
  exact State.withFrame_same _ hk (fun _ _ h0 => State.onCal_same _ h0 (fun o ho => gFLEET_any o ho) gCLK_44 (fun m => gHG_52 m) (fun m => gHG_48 m))

theorem execEnumDone_touches (gFLEET_any : ∀ o, o < 256 → P pFLEET o) : Touches P s (execEnumDone s) := by
  have hk : Same P s s := Same.refl _ _
  unfold execEnumDone
  refine Touches.next ?_
  exact State.withFrame_same _ hk (fun _ _ h0 => State.takeDone_same _ _ h0 (fun o ho => gFLEET_any o ho))

theorem execEnumJoinReq_touches (gFLEET_12 : P pFLEET 12) (gID_64 : P pID 64) (gHG_52 : ∀ m, P (pHG m) 52) (gHG_48 : ∀ m, P (pHG m) 48) : Touches P s (execEnumJoinReq s) := by
  have hk : Same P s s := Same.refl _ _
  unfold execEnumJoinReq
  refine Touches.ite (fun _ => ?_) (fun _ => ?_)
  · refine Touches.next ?_
    exact State.withFrame_same _ hk (fun _ _ h0 => State.enumerate_same h0 gFLEET_12 gID_64 (fun m => gHG_52 m) (fun m => gHG_48 m))
  · split
    · refine Touches.next ?_
      exact Same.ite (fun _ => State.sendTo_same _ _ _ _ hk (fun m => gHG_52 m) (fun m => gHG_48 m)) (fun _ => hk)
    · refine Touches.next ?_
      exact hk

theorem execTickFrameReceive_touches (err : ℤ) (gFLEET_36 : P pFLEET 36) (gFLEET_12 : P pFLEET 12) (gUPD_16 : P pUPD 16) (gUPD_76 : P pUPD 76) (gSYS_12 : P pSYS 12) (gFLEET_60 : P pFLEET 60) (gFLEET_56 : P pFLEET 56) (gCLK_44 : P pCLK 44) (gFLEET_16 : P pFLEET 16) : Touches P s (execTickFrameReceive err s) := by
  have hk : Same P s s := Same.refl _ _
  unfold execTickFrameReceive
  refine Touches.next ?_
  refine State.withFrame_same _ ?_ ?_
  · exact hk
  · intro s0_0 s0_1 hs0_2
    extract_lets -merge -underBinder +onlyGivenNames x1 x2
    have hx2 : Same P s x2 := State.put_same _ _ _ (State.put_same _ _ _ (State.standDown_same hs0_2 gUPD_16 gUPD_76 gFLEET_12 gSYS_12) gFLEET_12) gFLEET_36
    try clear_value x2
    exact Same.ite (fun _ => Same.ite (fun _ => Same.ite (fun _ => State.takeTick_same _ _ hx2 gFLEET_60 gFLEET_56 gCLK_44 gFLEET_16 gFLEET_12) (fun _ => hs0_2)) (fun _ => State.modFleet_same _ hs0_2)) (fun _ => Same.ite (fun _ => hs0_2) (fun _ => State.takeTick_same _ _ hs0_2 gFLEET_60 gFLEET_56 gCLK_44 gFLEET_16 gFLEET_12))

theorem execWrapFrameReceive_touches (gFLEET_12 : P pFLEET 12) (gFLEET_16 : P pFLEET 16) (gID_64 : P pID 64) (gHG_52 : ∀ m, P (pHG m) 52) (gHG_48 : ∀ m, P (pHG m) 48) : Touches P s (execWrapFrameReceive s) := by
  have hk : Same P s s := Same.refl _ _
  unfold execWrapFrameReceive
  refine Touches.next ?_
  refine State.withFrame_same _ ?_ ?_
  · exact hk
  · intro s0_0 s0_1 hs0_2
    extract_lets -merge -underBinder +onlyGivenNames x1 x2 x3 x4 x5 x6
    have hx6 : Same P s x6 := State.modFleet_same _ hs0_2
    try clear_value x6
    extract_lets -merge -underBinder +onlyGivenNames x7
    have hx7 : Same P s x7 := State.putB_same _ _ _ hx6 gFLEET_12
    try clear_value x7
    extract_lets -merge -underBinder +onlyGivenNames x8
    have hx8 : Same P s x8 := State.raiseIf_same _ _ _ (State.raiseIf_same _ _ _ hx7 gFLEET_16) gFLEET_16
    try clear_value x8
    exact Same.ite (fun _ => State.enumerate_same hx8 gFLEET_12 gID_64 (fun m => gHG_52 m) (fun m => gHG_48 m)) (fun _ => hx8)

theorem execEvtFrameSend_touches (gHG_52 : ∀ m, P (pHG m) 52) (gHG_48 : ∀ m, P (pHG m) 48) : Touches P s (execEvtFrameSend s) := by
  have hk : Same P s s := Same.refl _ _
  unfold execEvtFrameSend
  refine Touches.ite (fun _ => ?_) (fun _ => ?_)
  · refine Touches.next ?_
    exact State.sendTo_same _ _ _ _ hk (fun m => gHG_52 m) (fun m => gHG_48 m)
  · refine Touches.next ?_
    exact hk

theorem execEngineFrameDeliver_touches (gFLEET_16 : P pFLEET 16) (gFLEET_104 : P pFLEET 104) (gFLEET_96 : P pFLEET 96) : Touches P s (execEngineFrameDeliver s) := by
  have hk : Same P s s := Same.refl _ _
  unfold execEngineFrameDeliver
  refine Touches.next ?_
  refine State.withFrame_same _ ?_ ?_
  · exact hk
  · intro s0_0 s0_1 hs0_2
    split
    · exact hs0_2
    · exact State.rxqPut_same _ _ _ _ hs0_2 gFLEET_16 gFLEET_104 gFLEET_96

theorem execFleetTxReq_touches (slot : Fin 64) (gFLEET_16 : P pFLEET 16) (gSTORE_16 : P pSTORE 16) (gSTORE_40 : P pSTORE 40) (gSTORE_44 : P pSTORE 44) (gBANK_any : ∀ o, o < 256 → P pBANK o) (gSTORE_48 : P pSTORE 48) (gSTORE_12 : P pSTORE 12) (gHG_52 : ∀ m, P (pHG m) 52) (gHG_48 : ∀ m, P (pHG m) 48) : Touches P s (execFleetTxReq slot s) := by
  have hk : Same P s s := Same.refl _ _
  unfold execFleetTxReq
  refine Touches.next ?_
  exact State.cmd_same _ hk (fun _ h0 => State.txfReq_same _ h0 gFLEET_16 gSTORE_16 gSTORE_40 gSTORE_44 (fun o ho => gBANK_any o ho) gSTORE_48 gSTORE_12 (fun m => gHG_52 m) (fun m => gHG_48 m))

theorem execTakeoverReceive_touches (gFLEET_36 : P pFLEET 36) (gFLEET_40 : P pFLEET 40) (gFLEET_44 : P pFLEET 44) (gHG_52 : ∀ m, P (pHG m) 52) (gHG_48 : ∀ m, P (pHG m) 48) (gFLEET_12 : P pFLEET 12) (gSYS_12 : P pSYS 12) : Touches P s (execTakeoverReceive s) := by
  have hk : Same P s s := Same.refl _ _
  unfold execTakeoverReceive
  refine Touches.next ?_
  refine State.withFrame_same _ ?_ ?_
  · exact hk
  · intro s0_0 s0_1 hs0_2
    extract_lets -merge -underBinder +onlyGivenNames x1 x2 x3
    have hx3 : Same P s x3 := State.adopt_same _ _ _ hs0_2 gFLEET_36 gFLEET_40 gFLEET_44
    try clear_value x3
    exact Same.ite (fun _ => State.sendTick_same _ (State.put_same _ _ _ (State.put_same _ _ _ (State.put_same _ _ _ hx3 gSYS_12) gFLEET_12) gFLEET_12) (fun m => gHG_52 m) (fun m => gHG_48 m)) (fun _ => Same.ite (fun _ => State.modFleet_same _ hx3) (fun _ => hx3))

theorem execEnumReturn_touches (gHG_52 : ∀ m, P (pHG m) 52) (gHG_48 : ∀ m, P (pHG m) 48) : Touches P s (execEnumReturn s) := by
  have hk : Same P s s := Same.refl _ _
  unfold execEnumReturn
  refine Touches.ite (fun _ => ?_) (fun _ => ?_)
  · split
    · refine Touches.next ?_
      exact State.sendTo_same _ _ _ _ hk (fun m => gHG_52 m) (fun m => gHG_48 m)
    · refine Touches.next ?_
      exact hk
  · refine Touches.next ?_
    refine State.withFrame_same _ ?_ ?_
    · exact hk
    · intro s0_0 s0_1 hs0_2
      extract_lets -merge -underBinder +onlyGivenNames x1
      exact State.modFleet_same _ hs0_2

theorem execHandback_touches (gHG_52 : ∀ m, P (pHG m) 52) (gHG_48 : ∀ m, P (pHG m) 48) (gFLEET_16 : P pFLEET 16) (gUPD_16 : P pUPD 16) (gUPD_76 : P pUPD 76) (gFLEET_12 : P pFLEET 12) (gSYS_12 : P pSYS 12) (gFLEET_36 : P pFLEET 36) (gFLEET_40 : P pFLEET 40) (gFLEET_44 : P pFLEET 44) : Touches P s (execHandback s) := by
  have hk : Same P s s := Same.refl _ _
  unfold execHandback
  split
  · extract_lets -merge -underBinder +onlyGivenNames x0
    extract_lets -merge -underBinder +onlyGivenNames x1
    have hx1 : Same P s x1 := State.broadcast_same _ _ hk (fun m => gHG_52 m) (fun m => gHG_48 m)
    try clear_value x1
    refine Touches.ite (fun _ => ?_) (fun _ => ?_)
    · refine Touches.next ?_
      exact State.raise_same _ _ (State.standDown_same (State.adopt_same _ _ _ hx1 gFLEET_36 gFLEET_40 gFLEET_44) gUPD_16 gUPD_76 gFLEET_12 gSYS_12) gFLEET_16
    · refine Touches.next ?_
      exact hk
  · refine Touches.next ?_
    exact hk

theorem execFleetCmdTakeover_touches (key : BitVec 16) (gFLEET_16 : P pFLEET 16) : Touches P s (execFleetCmdTakeover key s) := by
  have hk : Same P s s := Same.refl _ _
  unfold execFleetCmdTakeover
  refine Touches.next ?_
  exact State.keyCmd_same _ _ _ hk (fun _ h0 => State.tkoCmd_same h0) gFLEET_16

theorem execFleetCmdHandback_touches (key : BitVec 16) (gFLEET_16 : P pFLEET 16) : Touches P s (execFleetCmdHandback key s) := by
  have hk : Same P s s := Same.refl _ _
  unfold execFleetCmdHandback
  refine Touches.next ?_
  exact State.keyCmd_same _ _ _ hk (fun _ h0 => State.handbackCmd_same h0) gFLEET_16

theorem execSourceCapsSend_touches (n : Port) (gGUARD_44 : P (pGUARD n) 44) (gPDL_16 : P (pPDL n) 16) (gPDL_12 : P (pPDL n) 12) (gVDM_96 : P (pVDM n) 96) : Touches P s (execSourceCapsSend n s) := by
  have hk : Same P s s := Same.refl _ _
  unfold execSourceCapsSend
  refine Touches.next ?_
  refine State.policy_same ?_ ?_
  · exact hk
  · intro s0_0 hs0_1
    extract_lets -merge -underBinder +onlyGivenNames x1
    have hx1 : Same P s x1 := State.followLimit_same _ hs0_1 gGUARD_44
    try clear_value x1
    extract_lets -merge -underBinder +onlyGivenNames x2
    have hx2 : Same P s x2 := State.fwHrComplete_same _ hx1 gPDL_12
    try clear_value x2
    extract_lets -merge -underBinder +onlyGivenNames x3
    have hx3 : Same P s x3 := Same.ite (fun _ => State.cableAsk_same _ hx2 gVDM_96 gPDL_16) (fun _ => hx2)
    try clear_value x3
    exact Same.ite (fun _ => hx1) (fun _ => Same.ite (fun _ => Same.ite (fun _ => hx1) (fun _ => State.advertise_same _ hx1 gPDL_16)) (fun _ => Same.ite (fun _ => State.modFw_same _ _ (State.advertise_same _ hx3 gPDL_16)) (fun _ => hx1)))

theorem execSourceRequestTimeout_touches (n : Port) (gPDL_any : ∀ o, o < 256 → P (pPDL n) o) (gVDM_64 : P (pVDM n) 64) (gVDM_16 : P (pVDM n) 16) : Touches P s (execSourceRequestTimeout n s) := by
  have hk : Same P s s := Same.refl _ _
  unfold execSourceRequestTimeout
  refine Touches.next ?_
  exact State.policy_same hk (fun _ h0 => Same.ite (fun _ => State.hardResetStart_same _ (State.modFw_same _ _ h0) (fun o ho => gPDL_any o ho) gVDM_64 gVDM_16) (fun _ => h0))

theorem execRequestEvaluation_touches (n : Port) (i : Fin 64) (gPDL_any : ∀ o, o < 256 → P (pPDL n) o) (gVDM_64 : P (pVDM n) 64) (gVDM_16 : P (pVDM n) 16) (gPOL_72 : P (pPOL n) 72) (gPOL_68 : P (pPOL n) 68) (gPOL_80 : P (pPOL n) 80) (gPOL_76 : P (pPOL n) 76) (gPOL_84 : P (pPOL n) 84) : Touches P s (execRequestEvaluation n i s) := by
  have hk : Same P s s := Same.refl _ _
  unfold execRequestEvaluation
  refine Touches.next ?_
  refine State.policy_same ?_ ?_
  · exact hk
  · intro s0_0 hs0_1
    extract_lets -merge -underBinder +onlyGivenNames x1
    exact Same.ite (fun _ => hs0_1) (fun _ => Same.ite (fun _ => State.evalRequest_same _ _ hs0_1 (fun o ho => gPDL_any o ho) gVDM_64 gVDM_16 gPOL_72 gPOL_68 gPOL_80 gPOL_76 gPOL_84) (fun _ => Same.ite (fun _ => State.eprMode_same _ _ hs0_1 (gPDL_any _ (by decide))) (fun _ => hs0_1)))

theorem execPpsRequestTimeout_touches (n : Port) (gPDL_any : ∀ o, o < 256 → P (pPDL n) o) (gVDM_64 : P (pVDM n) 64) (gVDM_16 : P (pVDM n) 16) : Touches P s (execPpsRequestTimeout n s) := by
  have hk : Same P s s := Same.refl _ _
  unfold execPpsRequestTimeout
  refine Touches.next ?_
  exact State.policy_same hk (fun _ h0 => Same.ite (fun _ => State.hardResetStart_same _ h0 (fun o ho => gPDL_any o ho) gVDM_64 gVDM_16) (fun _ => h0))

theorem execSinkCapsTimeout_touches (n : Port) (gPDL_any : ∀ o, o < 256 → P (pPDL n) o) (gVDM_64 : P (pVDM n) 64) (gVDM_16 : P (pVDM n) 16) : Touches P s (execSinkCapsTimeout n s) := by
  have hk : Same P s s := Same.refl _ _
  unfold execSinkCapsTimeout
  refine Touches.next ?_
  exact State.policy_same hk (fun _ h0 => Same.ite (fun _ => State.hardResetStart_same _ (State.modFw_same _ _ h0) (fun o ho => gPDL_any o ho) gVDM_64 gVDM_16) (fun _ => h0))

theorem execSinkRequest_touches (n : Port) (rec : Option (Fin 64)) (gPDL_12 : P (pPDL n) 12) (gPOL_72 : P (pPOL n) 72) (gPOL_68 : P (pPOL n) 68) (gPOL_80 : P (pPOL n) 80) (gPOL_76 : P (pPOL n) 76) (gPOL_84 : P (pPOL n) 84) (gPDL_16 : P (pPDL n) 16) : Touches P s (execSinkRequest n rec s) := by
  have hk : Same P s s := Same.refl _ _
  unfold execSinkRequest
  refine Touches.next ?_
  refine State.policy_same ?_ ?_
  · exact hk
  · intro s0_0 hs0_1
    extract_lets -merge -underBinder +onlyGivenNames x1
    have hx1 : Same P s x1 := State.fwHrComplete_same _ hs0_1 gPDL_12
    try clear_value x1
    refine Same.ite (fun _ => ?_) (fun _ => ?_)
    · exact hs0_1
    · split
      · exact Same.ite (fun _ => State.sinkChoose_same _ (State.modFw_same _ _ hx1) gPOL_72 gPOL_68 gPOL_80 gPOL_76 gPOL_84 gPDL_16) (fun _ => Same.ite (fun _ => State.sinkChoose_same _ (State.modFw_same _ _ hx1) gPOL_72 gPOL_68 gPOL_80 gPOL_76 gPOL_84 gPDL_16) (fun _ => hx1))
      · exact Same.ite (fun _ => hx1) (fun _ => State.sinkChoose_same _ hx1 gPOL_72 gPOL_68 gPOL_80 gPOL_76 gPOL_84 gPDL_16)

theorem execPsRdyTimeout_touches (n : Port) (gPDL_any : ∀ o, o < 256 → P (pPDL n) o) (gVDM_64 : P (pVDM n) 64) (gVDM_16 : P (pVDM n) 16) : Touches P s (execPsRdyTimeout n s) := by
  have hk : Same P s s := Same.refl _ _
  unfold execPsRdyTimeout
  refine Touches.next ?_
  exact State.policy_same hk (fun _ h0 => Same.ite (fun _ => State.hardResetStart_same _ h0 (fun o ho => gPDL_any o ho) gVDM_64 gVDM_16) (fun _ => h0))

theorem execTrimRequest_touches (n : Port) (gPOL_72 : P (pPOL n) 72) (gPOL_68 : P (pPOL n) 68) (gPOL_80 : P (pPOL n) 80) (gPOL_76 : P (pPOL n) 76) (gPOL_84 : P (pPOL n) 84) (gPDL_16 : P (pPDL n) 16) : Touches P s (execTrimRequest n s) := by
  have hk : Same P s s := Same.refl _ _
  unfold execTrimRequest
  refine Touches.next ?_
  refine State.policy_same ?_ ?_
  · exact hk
  · intro s0_0 hs0_1
    extract_lets -merge -underBinder +onlyGivenNames x1 x2
    exact Same.ite (fun _ => State.sendRequest_same _ _ _ _ hs0_1 gPOL_72 gPOL_68 gPOL_80 gPOL_76 gPOL_84 gPDL_16) (fun _ => hs0_1)

theorem execDrSwapResponse_touches (n : Port) (rec : Option (Fin 64)) (gPDL_any : ∀ o, o < 256 → P (pPDL n) o) (gVDM_64 : P (pVDM n) 64) (gVDM_16 : P (pVDM n) 16) : Touches P s (execDrSwapResponse n rec s) := by
  have hk : Same P s s := Same.refl _ _
  unfold execDrSwapResponse
  refine Touches.next ?_
  refine State.policy_same ?_ ?_
  · exact hk
  · intro s0_0 hs0_1
    split
    · exact State.drInitiate_same _ hs0_1 (gPDL_any _ (by decide))
    · exact Same.ite (fun _ => hs0_1) (fun _ => Same.ite (fun _ => State.drAnswer_same _ hs0_1 (fun o ho => gPDL_any o ho) gVDM_64 gVDM_16) (fun _ => Same.ite (fun _ => State.modFw_same _ _ hs0_1) (fun _ => hs0_1)))

theorem execDiscovery_touches (n : Port) (rec : Option (Fin 64)) (cable : Bool) (gVDM_any : ∀ o, o < 256 → P (pVDM n) o) (gPDL_16 : P (pPDL n) 16) : Touches P s (execDiscovery n rec cable s) := by
  have hk : Same P s s := Same.refl _ _
  unfold execDiscovery
  refine Touches.next ?_
  refine State.policy_same ?_ ?_
  · exact hk
  · intro s0_0 hs0_1
    split
    · extract_lets -merge -underBinder +onlyGivenNames x1
      exact Same.ite (fun _ => hs0_1) (fun _ => Same.ite (fun _ => Same.ite (fun _ => State.vdmRequest_same _ _ hs0_1 (gVDM_any _ (by decide)) (gVDM_any _ (by decide)) (gVDM_any _ (by decide)) gPDL_16 (gVDM_any _ (by decide)) (gVDM_any _ (by decide)) (gVDM_any _ (by decide))) (fun _ => hs0_1)) (fun _ => State.vdmResponse_same _ _ hs0_1 (fun o ho => gVDM_any o ho) gPDL_16))
    · exact Same.ite (fun _ => Same.ite (fun _ => State.cableAsk_same _ hs0_1 (gVDM_any _ (by decide)) gPDL_16) (fun _ => hs0_1)) (fun _ => Same.ite (fun _ => State.discStart_same _ hs0_1 (gVDM_any _ (by decide)) gPDL_16) (fun _ => hs0_1))

theorem execVdmResponseTimeout_touches (n : Port) (cable : Bool) (gPDL_16 : P (pPDL n) 16) (gVDM_16 : P (pVDM n) 16) (gVDM_152 : P (pVDM n) 152) (gVDM_148 : P (pVDM n) 148) (gVDM_140 : P (pVDM n) 140) (gVDM_96 : P (pVDM n) 96) : Touches P s (execVdmResponseTimeout n cable s) := by
  have hk : Same P s s := Same.refl _ _
  unfold execVdmResponseTimeout
  refine Touches.next ?_
  refine State.policy_same ?_ ?_
  · exact hk
  · intro s0_0 hs0_1
    split
    · exact hs0_1
    · exact Same.ite (fun _ => State.cableTimeout_same _ _ hs0_1 gPDL_16) (fun _ => State.vdmTimeout_same _ _ hs0_1 gPDL_16 gVDM_16 gVDM_152 gVDM_148 gVDM_140 gVDM_96)

theorem execModeEntryAuto_touches (n : Port) (gPDL_16 : P (pPDL n) 16) : Touches P s (execModeEntryAuto n s) := by
  have hk : Same P s s := Same.refl _ _
  unfold execModeEntryAuto
  refine Touches.next ?_
  refine State.policy_same ?_ ?_
  · exact hk
  · intro s0_0 hs0_1
    split
    · exact State.enterMode_same _ _ _ _ hs0_1 gPDL_16
    · exact hs0_1

theorem execVdmCmdRediscover_touches (n : Port) (key : BitVec 16) (gVDM_16 : P (pVDM n) 16) (gVDM_96 : P (pVDM n) 96) (gPDL_16 : P (pPDL n) 16) : Touches P s (execVdmCmdRediscover n key s) := by
  have hk : Same P s s := Same.refl _ _
  unfold execVdmCmdRediscover
  refine Touches.next ?_
  exact State.keyCmd_same _ _ _ hk (fun _ h0 => State.policy_same h0 (fun _ h1 => State.vdmRediscover_same _ h1 gVDM_96 gPDL_16)) gVDM_16

theorem execVdmCmdEnter_touches (n : Port) (key : BitVec 16) (gVDM_16 : P (pVDM n) 16) (gVDM_96 : P (pVDM n) 96) (gPDL_16 : P (pPDL n) 16) : Touches P s (execVdmCmdEnter n key s) := by
  have hk : Same P s s := Same.refl _ _
  unfold execVdmCmdEnter
  refine Touches.next ?_
  exact State.keyCmd_same _ _ _ hk (fun _ h0 => State.policy_same h0 (fun _ h1 => State.vdmEnter_same _ h1 gVDM_96 gPDL_16)) gVDM_16

theorem execVdmCmdExit_touches (n : Port) (key : BitVec 16) (gVDM_16 : P (pVDM n) 16) (gPDL_16 : P (pPDL n) 16) : Touches P s (execVdmCmdExit n key s) := by
  have hk : Same P s s := Same.refl _ _
  unfold execVdmCmdExit
  refine Touches.next ?_
  exact State.keyCmd_same _ _ _ hk (fun _ h0 => State.policy_same h0 (fun _ h1 => State.vdmExit_same _ h1 gPDL_16)) gVDM_16

theorem execModeEndAtReset_touches (n : Port) (gVDM_152 : P (pVDM n) 152) (gVDM_148 : P (pVDM n) 148) (gVDM_140 : P (pVDM n) 140) (gVDM_96 : P (pVDM n) 96) (gVDM_16 : P (pVDM n) 16) : Touches P s (execModeEndAtReset n s) := by
  have hk : Same P s s := Same.refl _ _
  unfold execModeEndAtReset
  refine Touches.next ?_
  refine State.policy_same ?_ ?_
  · exact hk
  · intro s0_0 hs0_1
    extract_lets -merge -underBinder +onlyGivenNames x1 x2
    have hx2 : Same P s x2 := State.modeClear_same _ _ hs0_1 gVDM_152 gVDM_148 gVDM_140 gVDM_96
    try clear_value x2
    exact State.modeRecord_same _ (Same.ite (fun _ => State.vdmEvt_same _ _ hx2 gVDM_16) (fun _ => hx2))

theorem execUfpHpdSample_touches (n : Port) (gPDL_16 : P (pPDL n) 16) : Touches P s (execUfpHpdSample n s) := by
  have hk : Same P s s := Same.refl _ _
  unfold execUfpHpdSample
  refine Touches.next ?_
  refine State.policy_same ?_ ?_
  · exact hk
  · intro s0_0 hs0_1
    extract_lets -merge -underBinder +onlyGivenNames x1 x2 x3 x4 x5 x6
    have hx6 : Same P s x6 := State.modFw_same _ _ hs0_1
    try clear_value x6
    exact Same.ite (fun _ => hs0_1) (fun _ => Same.ite (fun _ => hx6) (fun _ => State.fwSend_same _ _ _ _ _ hx6 gPDL_16))

theorem execHostVdmPass_touches (n : Port) (i : Fin 64) (gVDM_16 : P (pVDM n) 16) (gVDM_60 : P (pVDM n) 60) (gPDL_16 : P (pPDL n) 16) : Touches P s (execHostVdmPass n i s) := by
  have hk : Same P s s := Same.refl _ _
  unfold execHostVdmPass
  refine Touches.next ?_
  refine State.policy_same ?_ ?_
  · exact hk
  · intro s0_0 hs0_1
    extract_lets -merge -underBinder +onlyGivenNames x1 x2 x3 x4
    have hx4 : Same P s x4 := State.stWrite_same _ _ hs0_1
    try clear_value x4
    extract_lets -merge -underBinder +onlyGivenNames x5
    have hx5 : Same P s x5 := Same.ite (fun _ => State.vdmEvt_same _ _ hs0_1 gVDM_16) (fun _ => State.vdmEvt_same _ _ (State.put_same _ _ _ hx4 gVDM_60) gVDM_16)
    try clear_value x5
    exact Same.ite (fun _ => hs0_1) (fun _ => Same.ite (fun _ => Same.ite (fun _ => State.fwSend_same _ _ _ _ _ hx5 gPDL_16) (fun _ => hx5)) (fun _ => Same.ite (fun _ => Same.ite (fun _ => State.fwSend_same _ _ _ _ _ hs0_1 gPDL_16) (fun _ => hs0_1)) (fun _ => State.fwSend_same _ _ _ _ _ hs0_1 gPDL_16)))

theorem execHostTxGo_touches (n : Port) (count : BitVec 3) (sop : BitVec 2) (gVDM_64 : P (pVDM n) 64) (gVDM_16 : P (pVDM n) 16) (gPDL_16 : P (pPDL n) 16) : Touches P s (execHostTxGo n count sop s) := by
  have hk : Same P s s := Same.refl _ _
  unfold execHostTxGo
  refine Touches.next ?_
  exact State.cmd_same _ hk (fun _ h0 => State.hostTxWrite_same _ _ _ h0 gVDM_64 gVDM_16 gPDL_16)

theorem execPlaceCmdRun_touches (key : BitVec 16) (gPLACE_16 : P pPLACE 16) : Touches P s (execPlaceCmdRun key s) := by
  have hk : Same P s s := Same.refl _ _
  unfold execPlaceCmdRun
  refine Touches.next ?_
  exact State.keyCmd_same _ _ _ hk (fun _ h0 => State.placeRun_same h0) gPLACE_16

theorem execPlacementRun_touches (gFLEET_16 : P pFLEET 16) (gSTORE_16 : P pSTORE 16) (gSTORE_40 : P pSTORE 40) (gSTORE_44 : P pSTORE 44) (gBANK_any : ∀ o, o < 256 → P pBANK o) (gSTORE_48 : P pSTORE 48) (gSTORE_12 : P pSTORE 12) (gHG_52 : ∀ m, P (pHG m) 52) (gHG_48 : ∀ m, P (pHG m) 48) (gGUARD_44 : ∀ m, P (pGUARD m) 44) (gCC_32 : ∀ m, P (pCC m) 32) (gCC_8 : ∀ m, P (pCC m) 8) (gPLACE_44 : P pPLACE 44) (gPLACE_16 : P pPLACE 16) : Touches P s (execPlacementRun s) := by
  have hk : Same P s s := Same.refl _ _
  unfold execPlacementRun
  split
  · refine Touches.next ?_
    exact hk
  · extract_lets -merge -underBinder +onlyGivenNames x0
    extract_lets -merge -underBinder +onlyGivenNames x1
    have hx1 : Same P s x1 := State.modPlace_same _ hk
    try clear_value x1
    extract_lets -merge -underBinder +onlyGivenNames x2 x3 x4
    have hx4 : Same P s x4 := foldl_same _ hx1 (fun _ _ _ h5 => State.ledgerStep_same _ _ h5)
    try clear_value x4
    extract_lets -merge -underBinder +onlyGivenNames x6 x7 x8
    have hx8 : Same P s x8.1 := by
      refine Same.ofEq ?_ (State.numberChanged_same hx4)
      exact rfl
    try clear_value x8
    extract_lets -merge -underBinder +onlyGivenNames x9 x10
    have hx10 : Same P s x10 := hx8
    try clear_value x10
    extract_lets -merge -underBinder +onlyGivenNames x11 x12 x13
    have hx13 : Same P s x13 := by
      unfold x13
      refine foldl_same _ ?_ ?_
      · exact hx10
      · intro s14_0 s14_1 hm hs14_1
        extract_lets -merge -underBinder +onlyGivenNames x15
        have hx15 : Same P s x15 := State.sendEngine_same _ _ _ _ _ _ _ hs14_1 gFLEET_16 gSTORE_16 gSTORE_40 gSTORE_44 (fun o ho => gBANK_any o ho) gSTORE_48 gSTORE_12 (fun m => gHG_52 m) (fun m => gHG_48 m)
        try clear_value x15
        exact State.modNode_same _ _ hx15
    try clear_value x13
    extract_lets -merge -underBinder +onlyGivenNames x16
    have hx16 : Same P s x16 := by
      unfold x16
      refine State.forPorts_same ?_ ?_
      · exact hx13
      · intro s17_0 s17_1 hs17_1
        extract_lets -merge -underBinder +onlyGivenNames x18
        exact Same.ite (fun _ => State.takeGrant_same _ _ _ _ _ _ _ hs17_1 (gGUARD_44 _) (gCC_32 _) (gCC_8 _)) (fun _ => State.takeGrant_same _ _ _ _ _ _ _ hs17_1 (gGUARD_44 _) (gCC_32 _) (gCC_8 _))
    try clear_value x16
    extract_lets -merge -underBinder +onlyGivenNames x19
    have hx19 : Same P s x19 := foldl_same _ hx16 (fun _ _ _ h20 => State.modLed_same _ _ h20)
    try clear_value x19
    extract_lets -merge -underBinder +onlyGivenNames x21
    have hx21 : Same P s x21 := Same.ite (fun _ => foldl_same _ hx19 (fun _ _ _ h22 => State.recSet_same _ _ _ _ _ h22)) (fun _ => hx19)
    try clear_value x21
    extract_lets -merge -underBinder +onlyGivenNames x23
    have hx23 : Same P s x23 := State.put_same _ _ _ (State.put_same _ _ _ (State.put_same _ _ _ hx21 gPLACE_44) gPLACE_44) gPLACE_44
    try clear_value x23
    extract_lets -merge -underBinder +onlyGivenNames x24
    have hx24 : Same P s x24 := State.modPlace_same _ hx23
    try clear_value x24
    extract_lets -merge -underBinder +onlyGivenNames x25
    have hx25 : Same P s x25 := State.raise_same _ _ hx24 gPLACE_16
    try clear_value x25
    extract_lets -merge -underBinder +onlyGivenNames x26
    have hx26 : Same P s x26 := State.raiseIf_same _ _ _ (State.raiseIf_same _ _ _ hx25 gPLACE_16) gPLACE_16
    try clear_value x26
    refine Touches.ite (fun _ => ?_) (fun _ => ?_)
    · refine Touches.next ?_
      exact hk
    · refine Touches.next ?_
      exact State.raiseIf_same _ _ _ hx26 gPLACE_16

theorem execGrantReceive_touches (gPLACE_40 : P pPLACE 40) (gPLACE_16 : P pPLACE 16) (gFLEET_16 : P pFLEET 16) (gFLEET_104 : P pFLEET 104) (gFLEET_96 : P pFLEET 96) : Touches P s (execGrantReceive s) := by
  have hk : Same P s s := Same.refl _ _
  unfold execGrantReceive
  refine Touches.next ?_
  refine State.withFrame_same _ ?_ ?_
  · exact hk
  · intro s0_0 s0_1 hs0_2
    extract_lets -merge -underBinder +onlyGivenNames x1
    have hx1 : Same P s x1 := Same.ite (fun _ => State.leaseReload_same _ hs0_2 gPLACE_40 gPLACE_16) (fun _ => hs0_2)
    try clear_value x1
    exact State.rxqPut_same _ _ _ _ hx1 gFLEET_16 gFLEET_104 gFLEET_96

theorem execGrantApply_touches (entry : Option (Fin 64)) (gSTORE_16 : P pSTORE 16) (gSTORE_40 : P pSTORE 40) (gSTORE_44 : P pSTORE 44) (gBANK_any : ∀ o, o < 256 → P pBANK o) (gSTORE_48 : P pSTORE 48) (gSTORE_12 : P pSTORE 12) (gFLEET_100 : P pFLEET 100) (gGUARD_44 : ∀ m, P (pGUARD m) 44) (gCC_32 : ∀ m, P (pCC m) 32) (gCC_8 : ∀ m, P (pCC m) 8) (gPDL_any : ∀ m, ∀ o, o < 256 → P (pPDL m) o) (gVDM_64 : ∀ m, P (pVDM m) 64) (gVDM_16 : ∀ m, P (pVDM m) 16) : Touches P s (execGrantApply entry s) := by
  have hk : Same P s s := Same.refl _ _
  unfold execGrantApply
  refine Touches.next ?_
  refine State.policy_same ?_ ?_
  · exact hk
  · intro s0_0 hs0_1
    extract_lets -merge -underBinder +onlyGivenNames x1
    have hx1 : Same P s x1 := by
      unfold x1
      split
      · extract_lets -merge -underBinder +onlyGivenNames x2
        have hx2 : Same P s x2 := State.stNote_same _ _ _ hs0_1 gSTORE_16 gSTORE_40 gSTORE_44 (fun o ho => gBANK_any o ho) gSTORE_48 gSTORE_12
        try clear_value x2
        exact Same.ite (fun _ => State.rxRelease_same _ (State.takeGrants_same _ hx2 (fun m => gGUARD_44 m) (fun m => gCC_32 m) (fun m => gCC_8 m)) gFLEET_100) (fun _ => hx2)
      · exact hs0_1
    try clear_value x1
    exact State.forPorts_same hx1 (fun _ _ h3 => State.startGrant_same _ h3 (gGUARD_44 _) (fun o ho => gPDL_any _ o ho) (gVDM_64 _) (gVDM_16 _))

theorem execDecConfirmTimeout_touches (n : Port) (gPDL_any : ∀ o, o < 256 → P (pPDL n) o) (gVDM_64 : P (pVDM n) 64) (gVDM_16 : P (pVDM n) 16) : Touches P s (execDecConfirmTimeout n s) := by
  have hk : Same P s s := Same.refl _ _
  unfold execDecConfirmTimeout
  refine Touches.next ?_
  refine State.policy_same ?_ ?_
  · exact hk
  · intro s0_0 hs0_1
    extract_lets -merge -underBinder +onlyGivenNames x1
    exact Same.ite (fun _ => State.hardResetStart_same _ hs0_1 (fun o ho => gPDL_any o ho) gVDM_64 gVDM_16) (fun _ => hs0_1)

theorem execContractSend_touches (periodic : Bool) (gFLEET_16 : P pFLEET 16) (gSTORE_16 : P pSTORE 16) (gSTORE_40 : P pSTORE 40) (gSTORE_44 : P pSTORE 44) (gBANK_any : ∀ o, o < 256 → P pBANK o) (gSTORE_48 : P pSTORE 48) (gSTORE_12 : P pSTORE 12) (gHG_52 : ∀ m, P (pHG m) 52) (gHG_48 : ∀ m, P (pHG m) 48) : Touches P s (execContractSend periodic s) := by
  have hk : Same P s s := Same.refl _ _
  unfold execContractSend
  refine Touches.next ?_
  refine State.policy_same ?_ ?_
  · exact hk
  · intro s0_0 hs0_1
    extract_lets -merge -underBinder +onlyGivenNames x1
    have hx1 : Same P s x1 := State.forPorts_same hs0_1 (fun _ _ h2 => State.ackOwn_same _ h2)
    try clear_value x1
    extract_lets -merge -underBinder +onlyGivenNames x3
    refine Same.ite (fun _ => ?_) (fun _ => ?_)
    · refine State.forPorts_same ?_ ?_
      · exact hx1
      · intro s4_0 s4_1 hs4_1
        extract_lets -merge -underBinder +onlyGivenNames x5
        exact Same.ite (fun _ => State.ledgerConfirm_same _ _ _ _ _ hs4_1) (fun _ => hs4_1)
    · exact Same.ite (fun _ => State.modPlace_same _ (State.sendEngine_same _ _ _ _ _ _ _ hx1 gFLEET_16 gSTORE_16 gSTORE_40 gSTORE_44 (fun o ho => gBANK_any o ho) gSTORE_48 gSTORE_12 (fun m => gHG_52 m) (fun m => gHG_48 m))) (fun _ => hx1)

theorem execContractReceive_touches (entry : Fin 64) (gSTORE_16 : P pSTORE 16) (gSTORE_40 : P pSTORE 40) (gSTORE_44 : P pSTORE 44) (gBANK_any : ∀ o, o < 256 → P pBANK o) (gSTORE_48 : P pSTORE 48) (gSTORE_12 : P pSTORE 12) (gPLACE_any : ∀ o, o < 256 → P pPLACE o) (gFLEET_100 : P pFLEET 100) : Touches P s (execContractReceive entry s) := by
  have hk : Same P s s := Same.refl _ _
  unfold execContractReceive
  refine Touches.next ?_
  refine State.policy_same ?_ ?_
  · exact hk
  · intro s0_0 hs0_1
    extract_lets -merge -underBinder +onlyGivenNames x1
    have hx1 : Same P s x1 := State.stNote_same _ _ _ hs0_1 gSTORE_16 gSTORE_40 gSTORE_44 (fun o ho => gBANK_any o ho) gSTORE_48 gSTORE_12
    try clear_value x1
    extract_lets -merge -underBinder +onlyGivenNames x2 x3 x4 x5
    have hx5 : Same P s x5 := State.setMapBit_same _ _ _ _ (State.raise_same _ _ hx1 (gPLACE_any _ (by decide))) (fun o ho => gPLACE_any o ho)
    try clear_value x5
    extract_lets -merge -underBinder +onlyGivenNames x6
    have hx6 : Same P s x6 := Same.ite (fun _ => State.modNode_same _ _ hx5) (fun _ => hx1)
    try clear_value x6
    extract_lets -merge -underBinder +onlyGivenNames x7 x8
    have hx8 : Same P s x8 := State.modNode_same _ _ hx6
    try clear_value x8
    extract_lets -merge -underBinder +onlyGivenNames x9
    have hx9 : Same P s x9 := foldl_same _ hx8 (fun _ _ _ h10 => State.contractTake_same _ _ _ h10)
    try clear_value x9
    exact Same.ite (fun _ => hx1) (fun _ => State.rxRelease_same _ (State.cutCheck_same hx9) gFLEET_100)

theorem execDemandCompute_touches (soc : List (Fin 8 × ℕ)) (gSTORE_16 : P pSTORE 16) (gSTORE_40 : P pSTORE 40) (gSTORE_44 : P pSTORE 44) (gBANK_any : ∀ o, o < 256 → P pBANK o) (gSTORE_48 : P pSTORE 48) (gSTORE_12 : P pSTORE 12) : Touches P s (execDemandCompute soc s) := by
  have hk : Same P s s := Same.refl _ _
  unfold execDemandCompute
  refine Touches.next ?_
  refine State.policy_same ?_ ?_
  · exact hk
  · intro s0_0 hs0_1
    extract_lets -merge -underBinder +onlyGivenNames x1
    have hx1 : Same P s x1 := foldl_same _ hs0_1 (fun _ _ _ h2 => State.modPlace_same _ h2)
    try clear_value x1
    refine State.forPorts_same ?_ ?_
    · exact hx1
    · intro s3_0 s3_1 hs3_1
      extract_lets -merge -underBinder +onlyGivenNames x4 x5 x6 x7
      have hx7 : Same P s x7 := State.telNote_same _ _ hs3_1 gSTORE_16 gSTORE_40 gSTORE_44 (fun o ho => gBANK_any o ho) gSTORE_48 gSTORE_12
      try clear_value x7
      extract_lets -merge -underBinder +onlyGivenNames x8
      have hx8 : Same P s x8 := State.modPlace_same _ hx7
      try clear_value x8
      exact Same.ite (fun _ => State.recSet_same _ _ _ _ _ hx8) (fun _ => hx8)

theorem execTelemSend_touches (gFLEET_16 : P pFLEET 16) (gSTORE_16 : P pSTORE 16) (gSTORE_40 : P pSTORE 40) (gSTORE_44 : P pSTORE 44) (gBANK_any : ∀ o, o < 256 → P pBANK o) (gSTORE_48 : P pSTORE 48) (gSTORE_12 : P pSTORE 12) (gHG_52 : ∀ m, P (pHG m) 52) (gHG_48 : ∀ m, P (pHG m) 48) : Touches P s (execTelemSend s) := by
  have hk : Same P s s := Same.refl _ _
  unfold execTelemSend
  refine Touches.next ?_
  refine State.policy_same ?_ ?_
  · exact hk
  · intro s0_0 hs0_1
    extract_lets -merge -underBinder +onlyGivenNames x1
    have hx1 : Same P s x1 := State.sendEngine_same _ _ _ _ _ _ _ hs0_1 gFLEET_16 gSTORE_16 gSTORE_40 gSTORE_44 (fun o ho => gBANK_any o ho) gSTORE_48 gSTORE_12 (fun m => gHG_52 m) (fun m => gHG_48 m)
    try clear_value x1
    extract_lets -merge -underBinder +onlyGivenNames x2
    have hx2 : Same P s x2 := State.forPorts_same hx1 (fun _ _ h3 => State.telNote_same _ _ h3 gSTORE_16 gSTORE_40 gSTORE_44 (fun o ho => gBANK_any o ho) gSTORE_48 gSTORE_12)
    try clear_value x2
    refine Same.ite (fun _ => ?_) (fun _ => ?_)
    · exact hs0_1
    · refine State.forPorts_same ?_ ?_
      · exact hx2
      · intro s4_0 s4_1 hs4_1
        extract_lets -merge -underBinder +onlyGivenNames x5
        exact State.modPlace_same _ hs4_1

theorem execTelemReceive_touches (entry : Fin 64) (gSTORE_16 : P pSTORE 16) (gSTORE_40 : P pSTORE 40) (gSTORE_44 : P pSTORE 44) (gBANK_any : ∀ o, o < 256 → P pBANK o) (gSTORE_48 : P pSTORE 48) (gSTORE_12 : P pSTORE 12) (gFLEET_100 : P pFLEET 100) : Touches P s (execTelemReceive entry s) := by
  have hk : Same P s s := Same.refl _ _
  unfold execTelemReceive
  refine Touches.next ?_
  refine State.policy_same ?_ ?_
  · exact hk
  · intro s0_0 hs0_1
    extract_lets -merge -underBinder +onlyGivenNames x1
    have hx1 : Same P s x1 := State.stNote_same _ _ _ hs0_1 gSTORE_16 gSTORE_40 gSTORE_44 (fun o ho => gBANK_any o ho) gSTORE_48 gSTORE_12
    try clear_value x1
    extract_lets -merge -underBinder +onlyGivenNames x2 x3 x4
    have hx4 : Same P s x4 := by
      unfold x4
      refine foldl_same _ ?_ ?_
      · exact hx1
      · intro s5_0 s5_1 hm hs5_1
        extract_lets -merge -underBinder +onlyGivenNames x6 x7 x8 x9
        have hx9 : Same P s x9 := State.modLed_same _ _ hs5_1
        try clear_value x9
        extract_lets -merge -underBinder +onlyGivenNames x10
        have hx10 : Same P s x10 := Same.ite (fun _ => State.recSet_same _ _ _ _ _ hx9) (fun _ => hx9)
        try clear_value x10
        exact State.energyAdd_same _ _ hx10
    try clear_value x4
    exact Same.ite (fun _ => hx1) (fun _ => State.rxRelease_same _ hx4 gFLEET_100)

theorem execLeaseRenewing_touches (gPLACE_40 : P pPLACE 40) : Touches P s (execLeaseRenewing s) := by
  have hk : Same P s s := Same.refl _ _
  unfold execLeaseRenewing
  refine Touches.next ?_
  exact Same.ite (fun _ => State.put_same _ _ _ hk gPLACE_40) (fun _ => hk)

theorem execLeaseExpire_touches (gPLACE_16 : P pPLACE 16) (gPLACE_40 : P pPLACE 40) : Touches P s (execLeaseExpire s) := by
  have hk : Same P s s := Same.refl _ _
  unfold execLeaseExpire
  refine Touches.next ?_
  exact Same.ite (fun _ => State.leaseEvt_same _ (State.modPlace_same _ (State.put_same _ _ _ (State.put_same _ _ _ hk gPLACE_40) gPLACE_40)) gPLACE_16) (fun _ => hk)

theorem execOrphanDecay_touches (gGUARD_44 : ∀ m, P (pGUARD m) 44) (gCC_32 : ∀ m, P (pCC m) 32) (gCC_8 : ∀ m, P (pCC m) 8) (gPLACE_40 : P pPLACE 40) : Touches P s (execOrphanDecay s) := by
  have hk : Same P s s := Same.refl _ _
  unfold execOrphanDecay
  refine Touches.next ?_
  refine State.policy_same ?_ ?_
  · exact hk
  · intro s0_0 hs0_1
    extract_lets -merge -underBinder +onlyGivenNames x1 x2
    have hx2 : Same P s x2 := by
      unfold x2
      refine State.forPorts_same ?_ ?_
      · exact hs0_1
      · intro s3_0 s3_1 hs3_1
        extract_lets -merge -underBinder +onlyGivenNames x4
        exact Same.ite (fun _ => State.takeGrant_same _ _ _ _ _ _ _ hs3_1 (gGUARD_44 _) (gCC_32 _) (gCC_8 _)) (fun _ => hs3_1)
    try clear_value x2
    exact Same.ite (fun _ => hs0_1) (fun _ => Same.ite (fun _ => State.floorDone_same hx2 gPLACE_40) (fun _ => hx2))

theorem execPlaceCmdFloorDone_touches (key : BitVec 16) (gPLACE_16 : P pPLACE 16) (gPLACE_40 : P pPLACE 40) : Touches P s (execPlaceCmdFloorDone key s) := by
  have hk : Same P s s := Same.refl _ _
  unfold execPlaceCmdFloorDone
  refine Touches.next ?_
  exact State.keyCmd_same _ _ _ hk (fun _ h0 => State.floorDone_same h0 gPLACE_40) gPLACE_16

theorem execNodeOrphaned_touches (node : Fin 64) (gPLACE_any : ∀ o, o < 256 → P pPLACE o) : Touches P s (execNodeOrphaned node s) := by
  have hk : Same P s s := Same.refl _ _
  unfold execNodeOrphaned
  refine Touches.next ?_
  refine State.policy_same ?_ ?_
  · exact hk
  · intro s0_0 hs0_1
    extract_lets -merge -underBinder +onlyGivenNames x1 x2
    have hx2 : Same P s x2 := State.modNode_same _ _ hs0_1
    try clear_value x2
    exact Same.ite (fun _ => State.setMapBit_same _ _ _ _ (State.raise_same _ _ hx2 (gPLACE_any _ (by decide))) (fun o ho => gPLACE_any o ho)) (fun _ => hs0_1)

theorem execNodeCommitRelease_touches (node : Fin 64) : Touches P s (execNodeCommitRelease node s) := by
  have hk : Same P s s := Same.refl _ _
  unfold execNodeCommitRelease
  refine Touches.next ?_
  refine State.policy_same ?_ ?_
  · exact hk
  · intro s0_0 hs0_1
    extract_lets -merge -underBinder +onlyGivenNames x1
    split
    · exact hs0_1
    · extract_lets -merge -underBinder +onlyGivenNames x2
      have hx2 : Same P s x2 := State.modNode_same _ _ hs0_1
      try clear_value x2
      refine Same.ite (fun _ => ?_) (fun _ => ?_)
      · exact hs0_1
      · refine foldl_same _ ?_ ?_
        · exact hx2
        · intro s3_0 s3_1 hm hs3_1
          extract_lets -merge -underBinder +onlyGivenNames x4
          exact Same.ite (fun _ => State.modLed_same _ _ (State.recLedger_same _ _ _ _ hs3_1)) (fun _ => hs3_1)

theorem execLedgerMirrorSend_touches (gFLEET_16 : P pFLEET 16) (gSTORE_16 : P pSTORE 16) (gSTORE_40 : P pSTORE 40) (gSTORE_44 : P pSTORE 44) (gBANK_any : ∀ o, o < 256 → P pBANK o) (gSTORE_48 : P pSTORE 48) (gSTORE_12 : P pSTORE 12) (gHG_52 : ∀ m, P (pHG m) 52) (gHG_48 : ∀ m, P (pHG m) 48) : Touches P s (execLedgerMirrorSend s) := by
  have hk : Same P s s := Same.refl _ _
  unfold execLedgerMirrorSend
  refine Touches.next ?_
  refine State.policy_same ?_ ?_
  · exact hk
  · intro s0_0 hs0_1
    refine Same.ite (fun _ => ?_) (fun _ => ?_)
    · exact hs0_1
    · split
      · exact hs0_1
      · extract_lets -merge -underBinder +onlyGivenNames x1
        have hx1 : Same P s x1 := foldl_same _ hs0_1 (fun _ _ _ h2 => State.sendEngine_same _ _ _ _ _ _ _ h2 gFLEET_16 gSTORE_16 gSTORE_40 gSTORE_44 (fun o ho => gBANK_any o ho) gSTORE_48 gSTORE_12 (fun m => gHG_52 m) (fun m => gHG_48 m))
        try clear_value x1
        extract_lets -merge -underBinder +onlyGivenNames x3
        have hx3 : Same P s x3 := foldl_same _ hx1 (fun _ _ _ h4 => State.sendEngine_same _ _ _ _ _ _ _ h4 gFLEET_16 gSTORE_16 gSTORE_40 gSTORE_44 (fun o ho => gBANK_any o ho) gSTORE_48 gSTORE_12 (fun m => gHG_52 m) (fun m => gHG_48 m))
        try clear_value x3
        exact State.modPlace_same _ hx3

theorem execLedgerReceive_touches (entry : Fin 64) (gSTORE_16 : P pSTORE 16) (gSTORE_40 : P pSTORE 40) (gSTORE_44 : P pSTORE 44) (gBANK_any : ∀ o, o < 256 → P pBANK o) (gSTORE_48 : P pSTORE 48) (gSTORE_12 : P pSTORE 12) (gFLEET_100 : P pFLEET 100) (gFLEET_60 : P pFLEET 60) : Touches P s (execLedgerReceive entry s) := by
  have hk : Same P s s := Same.refl _ _
  unfold execLedgerReceive
  refine Touches.next ?_
  refine State.policy_same ?_ ?_
  · exact hk
  · intro s0_0 hs0_1
    extract_lets -merge -underBinder +onlyGivenNames x1
    have hx1 : Same P s x1 := State.stNote_same _ _ _ hs0_1 gSTORE_16 gSTORE_40 gSTORE_44 (fun o ho => gBANK_any o ho) gSTORE_48 gSTORE_12
    try clear_value x1
    extract_lets -merge -underBinder +onlyGivenNames x2 x3 x4 x5 x6 x7
    have hx7 : Same P s x7 := by
      unfold x7
      refine foldl_same _ ?_ ?_
      · exact hx1
      · intro s8_0 s8_1 hm hs8_1
        extract_lets -merge -underBinder +onlyGivenNames x9 x10
        exact Same.ite (fun _ => hs8_1) (fun _ => State.recSet_same _ _ _ _ _ hs8_1)
    try clear_value x7
    extract_lets -merge -underBinder +onlyGivenNames x11 x12 x13 x14 x15 x16
    have hx16 : Same P s x16 := State.modPlace_same _ hx7
    try clear_value x16
    extract_lets -merge -underBinder +onlyGivenNames x17
    have hx17 : Same P s x17 := Same.ite (fun _ => State.stWrite_same _ _ hx1) (fun _ => Same.ite (fun _ => hx1) (fun _ => State.putB_same _ _ _ hx16 gFLEET_60))
    try clear_value x17
    exact Same.ite (fun _ => State.rxRelease_same _ (Same.ite (fun _ => State.stWrite_same _ _ hx1) (fun _ => hx1)) gFLEET_100) (fun _ => Same.ite (fun _ => hx1) (fun _ => State.rxRelease_same _ hx17 gFLEET_100))

theorem execLedgerRebuild_touches (rec : Fin 512) (cfg : Option (BitVec 32 × BitVec 32)) (gPLACE_16 : P pPLACE 16) (gSTORE_16 : P pSTORE 16) (gSTORE_40 : P pSTORE 40) (gSTORE_44 : P pSTORE 44) (gBANK_any : ∀ o, o < 256 → P pBANK o) (gSTORE_48 : P pSTORE 48) (gSTORE_12 : P pSTORE 12) : Touches P s (execLedgerRebuild rec cfg s) := by
  have hk : Same P s s := Same.refl _ _
  unfold execLedgerRebuild
  refine Touches.next ?_
  refine State.policy_same ?_ ?_
  · exact hk
  · intro s0_0 hs0_1
    extract_lets -merge -underBinder +onlyGivenNames x1 x2 x3
    have hx3 : Same P s x3 := State.raise_same _ _ (State.stNote_same _ _ _ hs0_1 gSTORE_16 gSTORE_40 gSTORE_44 (fun o ho => gBANK_any o ho) gSTORE_48 gSTORE_12) gPLACE_16
    try clear_value x3
    refine Same.ite (fun _ => ?_) (fun _ => ?_)
    · exact hs0_1
    · split
      · exact hx3
      · extract_lets -merge -underBinder +onlyGivenNames x4
        extract_lets -merge -underBinder +onlyGivenNames x5 x6 x7 x8
        have hx8 : Same P s x8 := State.stWrite_same _ _ hx3
        try clear_value x8
        extract_lets -merge -underBinder +onlyGivenNames x9
        have hx9 : Same P s x9 := State.recPut_same _ _ _ hx8
        try clear_value x9
        exact Same.ite (fun _ => hx9) (fun _ => State.modLed_same _ _ hx9)

theorem execPortSelWrite_touches (node : BitVec 7) (port : BitVec 3) (gSTORE_16 : P pSTORE 16) (gSTORE_40 : P pSTORE 40) (gSTORE_44 : P pSTORE 44) (gBANK_any : ∀ o, o < 256 → P pBANK o) (gSTORE_48 : P pSTORE 48) (gSTORE_12 : P pSTORE 12) (gPLACE_any : ∀ o, o < 256 → P pPLACE o) : Touches P s (execPortSelWrite node port s) := by
  have hk : Same P s s := Same.refl _ _
  unfold execPortSelWrite
  refine Touches.next ?_
  exact State.cmd_same _ hk (fun _ h0 => State.portLoad_same (State.put_same _ _ _ (State.put_same _ _ _ h0 (gPLACE_any _ (by decide))) (gPLACE_any _ (by decide))) gSTORE_16 gSTORE_40 gSTORE_44 (fun o ho => gBANK_any o ho) gSTORE_48 gSTORE_12 (fun o ho => gPLACE_any o ho))

theorem execPoolSelWrite_touches (pool : BitVec 4) (gSTORE_16 : P pSTORE 16) (gSTORE_40 : P pSTORE 40) (gSTORE_44 : P pSTORE 44) (gBANK_any : ∀ o, o < 256 → P pBANK o) (gSTORE_48 : P pSTORE 48) (gSTORE_12 : P pSTORE 12) (gPLACE_any : ∀ o, o < 256 → P pPLACE o) : Touches P s (execPoolSelWrite pool s) := by
  have hk : Same P s s := Same.refl _ _
  unfold execPoolSelWrite
  refine Touches.next ?_
  exact State.cmd_same _ hk (fun _ h0 => State.poolLoad_same (State.put_same _ _ _ h0 (gPLACE_any _ (by decide))) gSTORE_16 gSTORE_40 gSTORE_44 (fun o ho => gBANK_any o ho) gSTORE_48 gSTORE_12 (fun o ho => gPLACE_any o ho))

theorem execPlaceWindowWrite_touches (reg : Fin 5) (v : BitVec 32) (gPLACE_any : ∀ o, o < 256 → P pPLACE o) : Touches P s (execPlaceWindowWrite reg v s) := by
  have hk : Same P s s := Same.refl _ _
  unfold execPlaceWindowWrite
  refine Touches.next ?_
  exact State.cmd_same _ hk (fun _ h0 => State.windowWrite_same _ _ h0 (gPLACE_any _ (by split <;> omega)))

theorem execEnergyConversion_touches (gENGY_any : ∀ o, o < 256 → P pENGY o) : Touches P s (execEnergyConversion s) := by
  have hk : Same P s s := Same.refl _ _
  unfold execEnergyConversion
  refine Touches.next ?_
  refine State.policy_same ?_ ?_
  · exact hk
  · intro s0_0 hs0_1
    extract_lets -merge -underBinder +onlyGivenNames x1
    have hx1 : Same P s x1 := by
      unfold x1
      refine State.forPorts_same ?_ ?_
      · exact hs0_1
      · intro s2_0 s2_1 hs2_1
        extract_lets -merge -underBinder +onlyGivenNames x3 x4 x5
        have hx5 : Same P s x5 := State.raiseIf_same _ _ _ hs2_1 (gENGY_any _ (by decide))
        try clear_value x5
        exact State.put_same _ _ _ (State.put_same _ _ _ hx5 (gENGY_any _ (by (try simp only [List.mem_range, List.mem_cons, List.not_mem_nil, or_false] at hm); (try simp only [Fld.at, ENGY.DEC_LO_DIGITS]); omega))) (gENGY_any _ (by (try simp only [List.mem_range, List.mem_cons, List.not_mem_nil, or_false] at hm); (try simp only [Fld.at, ENGY.DEC_HI_DIGITS]); omega))
    try clear_value x1
    exact State.put_same _ _ _ hx1 (gENGY_any _ (by decide))

theorem execEngyCmdClear_touches (ports : BitVec 8) (key : BitVec 16) (gENGY_16 : P pENGY 16) : Touches P s (execEngyCmdClear ports key s) := by
  have hk : Same P s s := Same.refl _ _
  unfold execEngyCmdClear
  refine Touches.next ?_
  exact State.keyCmd_same _ _ _ hk (fun _ h0 => State.engyClearCmd_same _ h0) gENGY_16

theorem execTwinFrameSend_touches (gFLEET_16 : P pFLEET 16) (gSTORE_16 : P pSTORE 16) (gSTORE_40 : P pSTORE 40) (gSTORE_44 : P pSTORE 44) (gBANK_any : ∀ o, o < 256 → P pBANK o) (gSTORE_48 : P pSTORE 48) (gSTORE_12 : P pSTORE 12) (gHG_52 : ∀ m, P (pHG m) 52) (gHG_48 : ∀ m, P (pHG m) 48) : Touches P s (execTwinFrameSend s) := by
  have hk : Same P s s := Same.refl _ _
  unfold execTwinFrameSend
  refine Touches.next ?_
  exact State.policy_same hk (fun _ h0 => Same.ite (fun _ => h0) (fun _ => State.sendEngine_same _ _ _ _ _ _ _ h0 gFLEET_16 gSTORE_16 gSTORE_40 gSTORE_44 (fun o ho => gBANK_any o ho) gSTORE_48 gSTORE_12 (fun m => gHG_52 m) (fun m => gHG_48 m)))

theorem execMirWrite_touches (w7 : BitVec 32) (gTWIN_any : ∀ o, o < 256 → P pTWIN o) (gCC_68 : ∀ m, P (pCC m) 68) : Touches P s (execMirWrite w7 s) := by
  have hk : Same P s s := Same.refl _ _
  unfold execMirWrite
  refine Touches.next ?_
  exact State.cmd_same _ hk (fun _ h0 => State.mirWrite_same _ h0 (fun o ho => gTWIN_any o ho) (fun m => gCC_68 m))

theorem execTwinFrameReceive_touches (entry : Fin 64) (gSTORE_16 : P pSTORE 16) (gSTORE_40 : P pSTORE 40) (gSTORE_44 : P pSTORE 44) (gBANK_any : ∀ o, o < 256 → P pBANK o) (gSTORE_48 : P pSTORE 48) (gSTORE_12 : P pSTORE 12) (gTWIN_any : ∀ o, o < 256 → P pTWIN o) (gCC_68 : ∀ m, P (pCC m) 68) (gFLEET_100 : P pFLEET 100) : Touches P s (execTwinFrameReceive entry s) := by
  have hk : Same P s s := Same.refl _ _
  unfold execTwinFrameReceive
  refine Touches.next ?_
  refine State.policy_same ?_ ?_
  · exact hk
  · intro s0_0 hs0_1
    extract_lets -merge -underBinder +onlyGivenNames x1
    have hx1 : Same P s x1 := State.stNote_same _ _ _ hs0_1 gSTORE_16 gSTORE_40 gSTORE_44 (fun o ho => gBANK_any o ho) gSTORE_48 gSTORE_12
    try clear_value x1
    extract_lets -merge -underBinder +onlyGivenNames x2 x3 x4
    have hx4 : Same P s x4 := Same.mk' hx1
    try clear_value x4
    extract_lets -merge -underBinder +onlyGivenNames x5
    have hx5 : Same P s x5 := foldl_same _ hx4 (fun _ _ _ h6 => State.twinEntryTake_same _ h6 (fun o ho => gTWIN_any o ho) (fun m => gCC_68 m))
    try clear_value x5
    exact Same.ite (fun _ => hx1) (fun _ => State.rxRelease_same _ hx5 gFLEET_100)

theorem execRpLost_touches (n : Port) (gCC_12 : P (pCC n) 12) (gCC_16 : P (pCC n) 16) (gPDL_any : ∀ o, o < 256 → P (pPDL n) o) (gVDM_64 : P (pVDM n) 64) (gVDM_16 : P (pVDM n) 16) (gPOL_12 : P (pPOL n) 12) (gPOL_52 : P (pPOL n) 52) (gPOL_16 : P (pPOL n) 16) (gPOL_44 : P (pPOL n) 44) (gGUARD_12 : P (pGUARD n) 12) (gVDM_52 : P (pVDM n) 52) (gSHARE_any : ∀ o, o < 256 → P pSHARE o) (gVDM_96 : P (pVDM n) 96) (gTWIN_108 : P pTWIN 108) (gTWIN_56 : P pTWIN 56) (gTWIN_16 : P pTWIN 16) (gCC_68 : P (pCC n) 68) : Touches P s (execRpLost n s) := by
  have hk : Same P s s := Same.refl _ _
  unfold execRpLost
  refine Touches.next ?_
  exact Same.ite (fun _ => State.twinOrder_same _ _ (State.rpLost_same _ hk gCC_68 gCC_16) gCC_12 gCC_16 (fun o ho => gPDL_any o ho) gVDM_64 gVDM_16 gPOL_12 gPOL_52 gPOL_16 gPOL_44 gGUARD_12 gVDM_52 (fun o ho => gSHARE_any o ho) gVDM_96 gTWIN_108 gTWIN_56 gTWIN_16) (fun _ => hk)

theorem execTwinTakeover_touches (n : Port) (gCC_12 : P (pCC n) 12) (gCC_16 : P (pCC n) 16) (gPDL_any : ∀ o, o < 256 → P (pPDL n) o) (gVDM_64 : P (pVDM n) 64) (gVDM_16 : P (pVDM n) 16) (gPOL_12 : P (pPOL n) 12) (gPOL_52 : P (pPOL n) 52) (gPOL_16 : P (pPOL n) 16) (gPOL_44 : P (pPOL n) 44) (gGUARD_12 : P (pGUARD n) 12) (gVDM_52 : P (pVDM n) 52) (gSHARE_any : ∀ o, o < 256 → P pSHARE o) (gVDM_96 : P (pVDM n) 96) (gTWIN_108 : P pTWIN 108) (gTWIN_56 : P pTWIN 56) (gTWIN_16 : P pTWIN 16) : Touches P s (execTwinTakeover n s) := by
  have hk : Same P s s := Same.refl _ _
  unfold execTwinTakeover
  refine Touches.next ?_
  exact Same.ite (fun _ => State.twinOrder_same _ _ hk gCC_12 gCC_16 (fun o ho => gPDL_any o ho) gVDM_64 gVDM_16 gPOL_12 gPOL_52 gPOL_16 gPOL_44 gGUARD_12 gVDM_52 (fun o ho => gSHARE_any o ho) gVDM_96 gTWIN_108 gTWIN_56 gTWIN_16) (fun _ => hk)

theorem execTwinCmdTakeover_touches (ports : BitVec 8) (key : BitVec 16) (gTWIN_16 : P pTWIN 16) (gCC_12 : ∀ m, P (pCC m) 12) (gCC_16 : ∀ m, P (pCC m) 16) (gPDL_any : ∀ m, ∀ o, o < 256 → P (pPDL m) o) (gVDM_64 : ∀ m, P (pVDM m) 64) (gVDM_16 : ∀ m, P (pVDM m) 16) (gPOL_12 : ∀ m, P (pPOL m) 12) (gPOL_52 : ∀ m, P (pPOL m) 52) (gPOL_16 : ∀ m, P (pPOL m) 16) (gPOL_44 : ∀ m, P (pPOL m) 44) (gGUARD_12 : ∀ m, P (pGUARD m) 12) (gVDM_52 : ∀ m, P (pVDM m) 52) (gSHARE_any : ∀ o, o < 256 → P pSHARE o) (gVDM_96 : ∀ m, P (pVDM m) 96) (gTWIN_108 : P pTWIN 108) (gTWIN_56 : P pTWIN 56) : Touches P s (execTwinCmdTakeover ports key s) := by
  have hk : Same P s s := Same.refl _ _
  unfold execTwinCmdTakeover
  refine Touches.next ?_
  exact State.keyCmd_same _ _ _ hk (fun _ h0 => State.twinCmd_same _ h0 (fun m => gCC_12 m) (fun m => gCC_16 m) (fun m o ho => gPDL_any m o ho) (fun m => gVDM_64 m) (fun m => gVDM_16 m) (fun m => gPOL_12 m) (fun m => gPOL_52 m) (fun m => gPOL_16 m) (fun m => gPOL_44 m) (fun m => gGUARD_12 m) (fun m => gVDM_52 m) (fun o ho => gSHARE_any o ho) (fun m => gVDM_96 m) gTWIN_108 gTWIN_56 gTWIN_16) gTWIN_16

theorem execTakeoverTask_touches (gTWIN_108 : P pTWIN 108) (gPDL_any : ∀ m, ∀ o, o < 256 → P (pPDL m) o) (gVDM_64 : ∀ m, P (pVDM m) 64) (gVDM_16 : ∀ m, P (pVDM m) 16) (gGUARD_44 : ∀ m, P (pGUARD m) 44) : Touches P s (execTakeoverTask s) := by
  have hk : Same P s s := Same.refl _ _
  unfold execTakeoverTask
  refine Touches.next ?_
  refine State.policy_same ?_ ?_
  · exact hk
  · intro s0_0 hs0_1
    extract_lets -merge -underBinder +onlyGivenNames x1 x2
    have hx2 : Same P s x2 := Same.ite (fun _ => State.bump_same _ _ _ (State.fwSend_same _ _ _ _ _ hs0_1 (gPDL_any _ _ (by decide))) gTWIN_108) (fun _ => hs0_1)
    try clear_value x2
    exact Same.ite (fun _ => hs0_1) (fun _ => Same.ite (fun _ => State.hardResetStart_same _ hx2 (fun o ho => gPDL_any _ o ho) (gVDM_64 _) (gVDM_16 _)) (fun _ => State.writeIlim_same _ hx2 (gGUARD_44 _)))

theorem execTwinJoin_touches (n : Port) (gGUARD_12 : P (pGUARD n) 12) : Touches P s (execTwinJoin n s) := by
  have hk : Same P s s := Same.refl _ _
  unfold execTwinJoin
  refine Touches.next ?_
  exact Same.ite (fun _ => State.joinGuard_same _ hk gGUARD_12) (fun _ => hk)

theorem execTwinRoleChoice_touches (n : Port) (gCC_16 : P (pCC n) 16) (gCC_32 : P (pCC n) 32) : Touches P s (execTwinRoleChoice n s) := by
  have hk : Same P s s := Same.refl _ _
  unfold execTwinRoleChoice
  refine Touches.next ?_
  exact State.policy_same hk (fun _ h0 => Same.ite (fun _ => h0) (fun _ => Same.ite (fun _ => State.lockedWrite_same _ h0 gCC_16) (fun _ => Same.ite (fun _ => State.put_same _ _ _ h0 gCC_32) (fun _ => Same.ite (fun _ => State.claimNow_same _ (State.put_same _ _ _ h0 gCC_32)) (fun _ => State.put_same _ _ _ h0 gCC_32)))))

theorem execTwinClaimYield_touches (n : Port) (gCC_8 : P (pCC n) 8) (gCC_16 : P (pCC n) 16) (gCC_32 : P (pCC n) 32) : Touches P s (execTwinClaimYield n s) := by
  have hk : Same P s s := Same.refl _ _
  unfold execTwinClaimYield
  refine Touches.next ?_
  refine State.policy_same ?_ ?_
  · exact hk
  · intro s0_0 hs0_1
    extract_lets -merge -underBinder +onlyGivenNames x1 x2
    have hx2 : Same P s x2 := State.put_same _ _ _ hs0_1 gCC_8
    try clear_value x2
    extract_lets -merge -underBinder +onlyGivenNames x3
    have hx3 : Same P s x3 := Same.ite (fun _ => State.lockedWrite_same _ hx2 gCC_16) (fun _ => State.put_same _ _ _ hx2 gCC_32)
    try clear_value x3
    exact Same.ite (fun _ => State.modTw_same _ _ hx3) (fun _ => hs0_1)

theorem execPairLedger_touches (gFLEET_16 : P pFLEET 16) (gSTORE_16 : P pSTORE 16) (gSTORE_40 : P pSTORE 40) (gSTORE_44 : P pSTORE 44) (gBANK_any : ∀ o, o < 256 → P pBANK o) (gSTORE_48 : P pSTORE 48) (gSTORE_12 : P pSTORE 12) (gHG_52 : ∀ m, P (pHG m) 52) (gHG_48 : ∀ m, P (pHG m) 48) : Touches P s (execPairLedger s) := by
  have hk : Same P s s := Same.refl _ _
  unfold execPairLedger
  refine Touches.next ?_
  refine State.policy_same ?_ ?_
  · exact hk
  · intro s0_0 hs0_1
    extract_lets -merge -underBinder +onlyGivenNames x1 x2
    exact Same.ite (fun _ => hs0_1) (fun _ => State.sendEngine_same _ _ _ _ _ _ _ hs0_1 gFLEET_16 gSTORE_16 gSTORE_40 gSTORE_44 (fun o ho => gBANK_any o ho) gSTORE_48 gSTORE_12 (fun m => gHG_52 m) (fun m => gHG_48 m))

theorem execCcConversion_touches (shorted : Bool) (code : BitVec 16) (gGAUGE_12 : P pGAUGE 12) (gGAUGE_68 : P pGAUGE 68) (gGAUGE_64 : P pGAUGE 64) (gGAUGE_16 : P pGAUGE 16) (gLEARN_68 : P pLEARN 68) (gLEARN_44 : P pLEARN 44) (gLEARN_16 : P pLEARN 16) : Touches P s (execCcConversion shorted code s) := by
  have hk : Same P s s := Same.refl _ _
  unfold execCcConversion
  refine Touches.next ?_
  extract_lets -merge -underBinder +onlyGivenNames x0 x1 x2
  have hx2 : Same P s x2 := State.modGauge_same _ hk
  try clear_value x2
  extract_lets -merge -underBinder +onlyGivenNames x3
  have hx3 : Same P s x3 := State.put_same _ _ _ (State.setAcc_same _ hx2 gGAUGE_68 gGAUGE_64) gGAUGE_12
  try clear_value x3
  extract_lets -merge -underBinder +onlyGivenNames x4
  have hx4 : Same P s x4 := State.raise_same _ _ (State.put_same _ _ _ hx3 gGAUGE_12) gGAUGE_16
  try clear_value x4
  extract_lets -merge -underBinder +onlyGivenNames x5
  have hx5 : Same P s x5 := State.modGauge_same _ hx4
  try clear_value x5
  exact Same.ite (fun _ => hk) (fun _ => Same.ite (fun _ => Same.ite (fun _ => State.disqualify_same _ hx5 gLEARN_68 gLEARN_44 gLEARN_16) (fun _ => hx5)) (fun _ => hx3))

theorem execGaugeMeasure_touches (mv : ℕ) (tsBid : Option (ℤ × ℕ)) (gGAUGE_80 : P pGAUGE 80) (gGAUGE_72 : P pGAUGE 72) (gGAUGE_76 : P pGAUGE 76) (gGAUGE_12 : P pGAUGE 12) (gGAUGE_84 : P pGAUGE 84) (gGAUGE_16 : P pGAUGE 16) (gLEARN_68 : P pLEARN 68) (gLEARN_44 : P pLEARN 44) (gLEARN_16 : P pLEARN 16) (gBATID_36 : P pBATID 36) : Touches P s (execGaugeMeasure mv tsBid s) := by
  have hk : Same P s s := Same.refl _ _
  unfold execGaugeMeasure
  refine Touches.next ?_
  extract_lets -merge -underBinder +onlyGivenNames x0
  have hx0 : Same P s x0 := State.put_same _ _ _ hk gGAUGE_80
  try clear_value x0
  extract_lets -merge -underBinder +onlyGivenNames x1
  have hx1 : Same P s x1 := State.put_same _ _ _ hx0 gGAUGE_72
  try clear_value x1
  extract_lets -merge -underBinder +onlyGivenNames x2
  have hx2 : Same P s x2 := State.put_same _ _ _ hx1 gGAUGE_76
  try clear_value x2
  extract_lets -merge -underBinder +onlyGivenNames x3
  have hx3 : Same P s x3 := State.modGauge_same _ hx2
  try clear_value x3
  refine Same.ite (fun _ => ?_) (fun _ => ?_)
  · exact hk
  · split
    · exact State.tsBid_same _ _ hx3 gGAUGE_12 gGAUGE_84 gGAUGE_16 gLEARN_68 gLEARN_44 gLEARN_16 gBATID_36
    · exact hx3

theorem execCellMismatch_touches (gGAUGE_16 : P pGAUGE 16) (gGAUGE_100 : P pGAUGE 100) : Touches P s (execCellMismatch s) := by
  have hk : Same P s s := Same.refl _ _
  unfold execCellMismatch
  refine Touches.next ?_
  refine State.policy_same ?_ ?_
  · exact hk
  · intro s0_0 hs0_1
    extract_lets -merge -underBinder +onlyGivenNames x1
    have hx1 : Same P s x1 := State.raiseIf_same _ _ _ hs0_1 gGAUGE_16
    try clear_value x1
    extract_lets -merge -underBinder +onlyGivenNames x2
    have hx2 : Same P s x2 := State.put_same _ _ _ (State.put_same _ _ _ hx1 gGAUGE_100) gGAUGE_100
    try clear_value x2
    exact Same.ite (fun _ => hs0_1) (fun _ => State.modGauge_same _ hx2)

theorem execGaugeRun_touches (gGAUGE_100 : P pGAUGE 100) (gLEARN_52 : P pLEARN 52) (gLEARN_56 : P pLEARN 56) (gGAUGE_96 : P pGAUGE 96) (gGAUGE_92 : P pGAUGE 92) (gLEARN_68 : P pLEARN 68) (gLEARN_44 : P pLEARN 44) (gLEARN_16 : P pLEARN 16) (gGAUGE_104 : P pGAUGE 104) (gGAUGE_16 : P pGAUGE 16) (gGAUGE_88 : P pGAUGE 88) (gLEARN_64 : P pLEARN 64) (gLEARN_72 : P pLEARN 72) (gLEARN_48 : P pLEARN 48) (gLEARN_60 : P pLEARN 60) (gGAUGE_108 : P pGAUGE 108) : Touches P s (execGaugeRun s) := by
  have hk : Same P s s := Same.refl _ _
  unfold execGaugeRun
  refine Touches.next ?_
  exact State.policy_same hk (fun _ h0 => Same.ite (fun _ => State.gaugeRun_same h0 gGAUGE_100 gLEARN_52 gLEARN_56 gGAUGE_96 gGAUGE_92 gLEARN_68 gLEARN_44 gLEARN_16 gGAUGE_104 gGAUGE_16 gGAUGE_88 gLEARN_64 gLEARN_72 gLEARN_48 gLEARN_60 gGAUGE_108) (fun _ => h0))

theorem execGaugeWriteBack_touches (verifyOk : Bool) (gNVD_44 : P pNVD 44) (gNVD_16 : P pNVD 16) (gNVD_52 : P pNVD 52) (gSTORE_16 : P pSTORE 16) (gSTORE_40 : P pSTORE 40) (gSTORE_44 : P pSTORE 44) (gBANK_any : ∀ o, o < 256 → P pBANK o) (gSTORE_48 : P pSTORE 48) (gSTORE_12 : P pSTORE 12) (gNVD_40 : P pNVD 40) (gNVD_36 : P pNVD 36) (gLEARN_16 : P pLEARN 16) (gLEARN_72 : P pLEARN 72) : Touches P s (execGaugeWriteBack verifyOk s) := by
  have hk : Same P s s := Same.refl _ _
  unfold execGaugeWriteBack
  refine Touches.next ?_
  refine State.policy_same ?_ ?_
  · exact hk
  · intro s0_0 hs0_1
    extract_lets -merge -underBinder +onlyGivenNames x1 x2
    have hx2 : Same P s x2 := by
      unfold x2
      refine Same.ite (fun _ => ?_) (fun _ => ?_)
      · split
        · rename_i y3 _ e3
          have hy3 : Same P s y3 := by
            refine Same.fst e3 ?_
            refine State.nvdRun_same _ _ ?_ gNVD_44 gNVD_16 gNVD_52 gSTORE_16 gSTORE_40 gSTORE_44 (fun o ho => gBANK_any o ho) gSTORE_48 gSTORE_12 gNVD_40
            exact hs0_1
          exact Same.ite (fun _ => State.modGauge_same _ hy3) (fun _ => hy3)
      · exact hs0_1
    try clear_value x2
    extract_lets -merge -underBinder +onlyGivenNames x4 x5
    have hx5 : Same P s x5 := Same.ite (fun _ => hx2) (fun _ => State.put_same _ _ _ (State.put_same _ _ _ (State.stWrite_same _ _ hx2) gNVD_36) gNVD_40)
    try clear_value x5
    refine Same.ite (fun _ => ?_) (fun _ => ?_)
    · exact hs0_1
    · refine Same.ite (fun _ => ?_) (fun _ => ?_)
      · split
        · rename_i y6 _ e6
          have hy6 : Same P s y6 := by
            refine Same.fst e6 ?_
            refine State.nvdRun_same _ _ ?_ gNVD_44 gNVD_16 gNVD_52 gSTORE_16 gSTORE_40 gSTORE_44 (fun o ho => gBANK_any o ho) gSTORE_48 gSTORE_12 gNVD_40
            exact hx5
          exact Same.ite (fun _ => State.raise_same _ _ (State.put_same _ _ _ hy6 gLEARN_72) gLEARN_16) (fun _ => State.raise_same _ _ hy6 gLEARN_16)
      · exact hx2

theorem execPackInsert_touches (gBATID_40 : P pBATID 40) (gBATID_16 : P pBATID 16) (gGAUGE_40 : P pGAUGE 40) (gGAUGE_32 : P pGAUGE 32) (gGAUGE_44 : P pGAUGE 44) (gGAUGE_48 : P pGAUGE 48) (gGAUGE_52 : P pGAUGE 52) (gGAUGE_60 : P pGAUGE 60) (gGAUGE_56 : P pGAUGE 56) (gGAUGE_100 : P pGAUGE 100) (gGAUGE_88 : P pGAUGE 88) (gGAUGE_96 : P pGAUGE 96) (gLEARN_44 : P pLEARN 44) (gGAUGE_92 : P pGAUGE 92) : Touches P s (execPackInsert s) := by
  have hk : Same P s s := Same.refl _ _
  unfold execPackInsert
  refine Touches.next ?_
  extract_lets -merge -underBinder +onlyGivenNames x0 x1
  have hx1 : Same P s x1 := State.putB_same _ _ _ (State.put_same _ _ _ hk gBATID_40) gBATID_40
  try clear_value x1
  extract_lets -merge -underBinder +onlyGivenNames x2
  have hx2 : Same P s x2 := State.put_same _ _ _ hx1 gBATID_40
  try clear_value x2
  extract_lets -merge -underBinder +onlyGivenNames x3
  have hx3 : Same P s x3 := State.raiseIf_same _ _ _ (State.raise_same _ _ hx2 gBATID_16) gBATID_16
  try clear_value x3
  extract_lets -merge -underBinder +onlyGivenNames x4
  have hx4 : Same P s x4 := State.gaugePost_same hx3
  try clear_value x4
  extract_lets -merge -underBinder +onlyGivenNames x5 x6
  have hx6 : Same P s x6 := Same.ite (fun _ => hx4) (fun _ => Same.ite (fun _ => State.profLoad_same _ hx4 gGAUGE_40 gGAUGE_32 gGAUGE_44 gGAUGE_48 gGAUGE_52 gGAUGE_60 gGAUGE_56) (fun _ => State.packLoad_same hx4 gGAUGE_40 gGAUGE_32 gGAUGE_44 gGAUGE_48 gGAUGE_52 gGAUGE_60 gGAUGE_56 gGAUGE_100 gGAUGE_88 gGAUGE_96 gLEARN_44 gGAUGE_92 gBATID_40))
  try clear_value x6
  exact Same.ite (fun _ => hk) (fun _ => State.modGauge_same _ hx6)

theorem execPackRemove_touches (gBATID_16 : P pBATID 16) (gBATID_40 : P pBATID 40) (gLEARN_68 : P pLEARN 68) (gLEARN_44 : P pLEARN 44) (gLEARN_16 : P pLEARN 16) (gGAUGE_100 : P pGAUGE 100) : Touches P s (execPackRemove s) := by
  have hk : Same P s s := Same.refl _ _
  unfold execPackRemove
  refine Touches.next ?_
  extract_lets -merge -underBinder +onlyGivenNames x0
  have hx0 : Same P s x0 := State.raise_same _ _ (State.put_same _ _ _ hk gBATID_40) gBATID_16
  try clear_value x0
  extract_lets -merge -underBinder +onlyGivenNames x1
  have hx1 : Same P s x1 := State.gaugePost_same hx0
  try clear_value x1
  extract_lets -merge -underBinder +onlyGivenNames x2
  have hx2 : Same P s x2 := State.modGauge_same _ hx1
  try clear_value x2
  exact Same.ite (fun _ => hk) (fun _ => Same.ite (fun _ => State.disqualify_same _ (State.put_same _ _ _ hx2 gGAUGE_100) gLEARN_68 gLEARN_44 gLEARN_16) (fun _ => hx2))

theorem execAonPresenceSample_touches (bid : ℕ) (temp : ℤ) (gBATID_40 : P pBATID 40) : Touches P s (execAonPresenceSample bid temp s) := by
  have hk : Same P s s := Same.refl _ _
  unfold execAonPresenceSample
  refine Touches.next ?_
  exact Same.ite (fun _ => State.put_same _ _ _ hk gBATID_40) (fun _ => hk)

theorem execBatidClearSwap_touches (key : BitVec 16) (gBATID_16 : P pBATID 16) (gBATID_40 : P pBATID 40) : Touches P s (execBatidClearSwap key s) := by
  have hk : Same P s s := Same.refl _ _
  unfold execBatidClearSwap
  refine Touches.next ?_
  exact State.keyCmd_same _ _ _ hk (fun _ h0 => State.clearSwap_same h0 gBATID_40) gBATID_16

theorem execLearnCmdAbort_touches (key : BitVec 16) (gLEARN_16 : P pLEARN 16) (gLEARN_68 : P pLEARN 68) (gLEARN_44 : P pLEARN 44) : Touches P s (execLearnCmdAbort key s) := by
  have hk : Same P s s := Same.refl _ _
  unfold execLearnCmdAbort
  refine Touches.next ?_
  exact State.keyCmd_same _ _ _ hk (fun _ h0 => State.learnAbort_same h0 gLEARN_68 gLEARN_44 gLEARN_16) gLEARN_16

theorem execLearnCmdForget_touches (key : BitVec 16) (gLEARN_16 : P pLEARN 16) (gLEARN_68 : P pLEARN 68) (gLEARN_44 : P pLEARN 44) (gGAUGE_100 : P pGAUGE 100) (gGAUGE_88 : P pGAUGE 88) (gLEARN_72 : P pLEARN 72) (gGAUGE_92 : P pGAUGE 92) : Touches P s (execLearnCmdForget key s) := by
  have hk : Same P s s := Same.refl _ _
  unfold execLearnCmdForget
  refine Touches.next ?_
  exact State.keyCmd_same _ _ _ hk (fun _ h0 => State.learnForget_same h0 gLEARN_68 gLEARN_44 gLEARN_16 gGAUGE_100 gGAUGE_88 gLEARN_72 gGAUGE_92) gLEARN_16

theorem execBatteryAnswer_touches (n : Port) (i : Fin 64) (gPDL_16 : P (pPDL n) 16) : Touches P s (execBatteryAnswer n i s) := by
  have hk : Same P s s := Same.refl _ _
  unfold execBatteryAnswer
  refine Touches.next ?_
  exact State.policy_same hk (fun _ h0 => Same.ite (fun _ => State.answer_same _ _ _ _ h0 gPDL_16) (fun _ => h0))

theorem execRstReq_touches (key : BitVec 16) (gSYS_16 : P pSYS 16) : Touches P s (execRstReq key s) := by
  have hk : Same P s s := Same.refl _ _
  unfold execRstReq
  refine Touches.next ?_
  exact State.keyCmd_same _ _ _ hk (fun _ h0 => State.rstReq_same h0) gSYS_16

theorem execPlcrPost_touches (slot : BitVec 11) (gPLCR_16 : P pPLCR 16) : Touches P s (execPlcrPost slot s) := by
  have hk : Same P s s := Same.refl _ _
  unfold execPlcrPost
  refine Touches.next ?_
  exact State.cmd_same _ hk (fun _ h0 => State.plcrPost_same _ h0 gPLCR_16)

theorem execEngRetire_touches (k : Engine) (key : BitVec 16) (gENG_16 : P (pENG k) 16) (gPLCR_16 : P pPLCR 16) (gENG_32 : P (pENG k) 32) (gPLCR_52 : P pPLCR 52) : Touches P s (execEngRetire k key s) := by
  have hk : Same P s s := Same.refl _ _
  unfold execEngRetire
  refine Touches.next ?_
  exact State.keyCmd_same _ _ _ hk (fun _ h0 => State.retireEngine_same _ h0 gPLCR_16 gENG_32 gPLCR_52 gENG_16) gENG_16

theorem execAosDataAccess_touches (v : Option Word) (gAON_16 : P pAON 16) (gAON_60 : P pAON 60) : Touches P s (execAosDataAccess v s) := by
  have hk : Same P s s := Same.refl _ _
  unfold execAosDataAccess
  refine Touches.next ?_
  refine State.cmd_same _ ?_ ?_
  · exact hk
  · intro s0_0 hs0_1
    extract_lets -merge -underBinder +onlyGivenNames x1
    have hx1 : Same P s x1.1 := by
      refine Same.ofEq ?_ (State.aosAccess_same ?_ hs0_1 gAON_16 gAON_60)
      exact rfl
    try clear_value x1
    extract_lets -merge -underBinder +onlyGivenNames x2
    have hx2 : Same P s x2 := hx1
    try clear_value x2
    exact Same.ite (fun _ => hx1) (fun _ => Same.mk' hx2)

theorem execOtpProgram_touches (key : BitVec 16) (gOTP_16 : P pOTP 16) (gOTP_60 : P pOTP 60) : Touches P s (execOtpProgram key s) := by
  have hk : Same P s s := Same.refl _ _
  unfold execOtpProgram
  refine Touches.next ?_
  exact State.keyCmd_same _ _ _ hk (fun _ h0 => State.otpProgram_same h0 gOTP_60 gOTP_16) gOTP_16

theorem execOtpLock_touches (region : BitVec 3) (key : BitVec 16) (gOTP_16 : P pOTP 16) (gOTP_60 : P pOTP 60) : Touches P s (execOtpLock region key s) := by
  have hk : Same P s s := Same.refl _ _
  unfold execOtpLock
  refine Touches.next ?_
  exact State.keyCmd_same _ _ _ hk (fun _ h0 => State.otpLock_same _ h0 gOTP_60 gOTP_16) gOTP_16

theorem execLockStickySet_touches (v : Word) : Touches P s (execLockStickySet v s) := by
  have hk : Same P s s := Same.refl _ _
  unfold execLockStickySet
  refine Touches.next ?_
  exact State.cmd_same _ hk (fun _ h0 => State.stickySet_same _ h0)

theorem execNvdWrite_touches (area : Fin 16) (format : BitVec 4) (key : BitVec 16) (gNVD_16 : P pNVD 16) (gNVD_44 : P pNVD 44) : Touches P s (execNvdWrite area format key s) := by
  have hk : Same P s s := Same.refl _ _
  unfold execNvdWrite
  refine Touches.next ?_
  exact State.keyCmd_same _ _ _ hk (fun _ h0 => State.nvdStart_same _ h0 gNVD_44 gNVD_16) gNVD_16

theorem execNvdRead_touches (area : Fin 16) (key : BitVec 16) (gNVD_16 : P pNVD 16) (gNVD_44 : P pNVD 44) : Touches P s (execNvdRead area key s) := by
  have hk : Same P s s := Same.refl _ _
  unfold execNvdRead
  refine Touches.next ?_
  exact State.keyCmd_same _ _ _ hk (fun _ h0 => State.nvdStart_same _ h0 gNVD_44 gNVD_16) gNVD_16

theorem execNvdInvalidate_touches (area : Fin 16) (key : BitVec 16) (gNVD_16 : P pNVD 16) (gNVD_44 : P pNVD 44) : Touches P s (execNvdInvalidate area key s) := by
  have hk : Same P s s := Same.refl _ _
  unfold execNvdInvalidate
  refine Touches.next ?_
  exact State.keyCmd_same _ _ _ hk (fun _ h0 => State.nvdStart_same _ h0 gNVD_44 gNVD_16) gNVD_16

theorem execDbgNewChallenge_touches (v : BitVec 64) (key : BitVec 16) (gDBG_16 : P pDBG 16) (gDBG_40 : P pDBG 40) (gDBG_36 : P pDBG 36) : Touches P s (execDbgNewChallenge v key s) := by
  have hk : Same P s s := Same.refl _ _
  unfold execDbgNewChallenge
  refine Touches.next ?_
  exact State.keyCmd_same _ _ _ hk (fun _ h0 => State.dbgChallenge_same _ h0 gDBG_40 gDBG_36) gDBG_16

theorem execDbgSubmit_touches (key : BitVec 16) (gDBG_16 : P pDBG 16) (gDBG_40 : P pDBG 40) (gDBG_36 : P pDBG 36) (gDBG_48 : P pDBG 48) : Touches P s (execDbgSubmit key s) := by
  have hk : Same P s s := Same.refl _ _
  unfold execDbgSubmit
  refine Touches.next ?_
  exact State.keyCmd_same _ _ _ hk (fun _ h0 => State.dbgSubmit_same h0 gDBG_40 gDBG_36 gDBG_48) gDBG_16

theorem execGpioOutSet_touches (v : BitVec 8) (gGPIO_16 : P pGPIO 16) (gGPIO_64 : P pGPIO 64) : Touches P s (execGpioOutSet v s) := by
  have hk : Same P s s := Same.refl _ _
  unfold execGpioOutSet
  refine Touches.next ?_
  exact State.cmd_same _ hk (fun _ h0 => State.gpioOut_same _ _ h0 gGPIO_16 gGPIO_64)

theorem execGpioOutClr_touches (v : BitVec 8) (gGPIO_16 : P pGPIO 16) (gGPIO_64 : P pGPIO 64) : Touches P s (execGpioOutClr v s) := by
  have hk : Same P s s := Same.refl _ _
  unfold execGpioOutClr
  refine Touches.next ?_
  exact State.cmd_same _ hk (fun _ h0 => State.gpioOut_same _ _ h0 gGPIO_16 gGPIO_64)

theorem execPinCfgWrite_touches (i : Fin 8) (v : Word) (gGPIO_any : ∀ o, o < 256 → P pGPIO o) : Touches P s (execPinCfgWrite i v s) := by
  have hk : Same P s s := Same.refl _ _
  unfold execPinCfgWrite
  refine Touches.next ?_
  exact State.cmd_same _ hk (fun _ h0 => State.pinCfg_same _ _ h0 (fun o ho => gGPIO_any o ho))

theorem execHostCmdClearStats_touches (key : BitVec 16) (gHOST_16 : P pHOST 16) (gHOST_60 : P pHOST 60) (gHOST_52 : P pHOST 52) : Touches P s (execHostCmdClearStats key s) := by
  have hk : Same P s s := Same.refl _ _
  unfold execHostCmdClearStats
  refine Touches.next ?_
  exact State.keyCmd_same _ _ _ hk (fun _ h0 => State.hostClear_same h0 gHOST_60 gHOST_52) gHOST_16

theorem execHostCmdNotifyNow_touches (key : BitVec 16) (gHOST_16 : P pHOST 16) (gHOST_12 : P pHOST 12) (gHOST_56 : P pHOST 56) : Touches P s (execHostCmdNotifyNow key s) := by
  have hk : Same P s s := Same.refl _ _
  unfold execHostCmdNotifyNow
  refine Touches.next ?_
  exact State.keyCmd_same _ _ _ hk (fun _ h0 => State.notifyNow_same h0 gHOST_12 gHOST_56) gHOST_16

theorem execFlashProgram_touches (key : BitVec 16) (gFLASH_16 : P pFLASH 16) (gFLASH_48 : P pFLASH 48) (gBOOT_32 : P pBOOT 32) : Touches P s (execFlashProgram key s) := by
  have hk : Same P s s := Same.refl _ _
  unfold execFlashProgram
  refine Touches.next ?_
  exact State.cmd_same _ hk (fun _ h0 => State.flashCmd_same _ _ h0 gFLASH_16 gFLASH_48 gBOOT_32)

theorem execFlashErase_touches (key : BitVec 16) (gFLASH_16 : P pFLASH 16) (gFLASH_48 : P pFLASH 48) (gBOOT_32 : P pBOOT 32) : Touches P s (execFlashErase key s) := by
  have hk : Same P s s := Same.refl _ _
  unfold execFlashErase
  refine Touches.next ?_
  exact State.cmd_same _ hk (fun _ h0 => State.flashCmd_same _ _ h0 gFLASH_16 gFLASH_48 gBOOT_32)

theorem execFlashRdData_touches (gFLASH_any : ∀ o, o < 256 → P pFLASH o) (gAON_16 : P pAON 16) (gAON_60 : P pAON 60) : Touches P s (execFlashRdData s) := by
  have hk : Same P s s := Same.refl _ _
  unfold execFlashRdData
  refine Touches.next ?_
  exact State.readInto_same _ _ _ hk (fun o ho => gFLASH_any o ho) gAON_16 gAON_60 (gFLASH_any _ (by decide))

theorem execSetWindowWrite_touches (node : BitVec 8) (page : BitVec 8) (off : BitVec 8) (pec : Option (BitVec 8)) (e : Option BusErr) (gHOST_60 : P pHOST 60) (gHOST_52 : P pHOST 52) (gHOST_16 : P pHOST 16) (gHOST_48 : P pHOST 48) (gHOST_44 : P pHOST 44) : Touches P s (execSetWindowWrite node page off pec e s) := by
  have hk : Same P s s := Same.refl _ _
  unfold execSetWindowWrite
  refine Touches.next ?_
  exact State.hostPlain_same _ hk (fun _ h0 => Same.ite (fun _ => State.hostErr_same _ _ h0 gHOST_52 gHOST_16 gHOST_48) (fun _ => State.writeEnd_same _ _ _ _ h0 (fun _ h1 => State.hostLoad_same _ _ _ (State.put_same _ _ _ (State.put_same _ _ _ (State.put_same _ _ _ h1 gHOST_44) gHOST_44) gHOST_44) gHOST_48) gHOST_52 gHOST_16 gHOST_48)) gHOST_60

theorem execSetWindowRead_touches (pec : Bool) (e : Option (BusErr × ℕ)) (gHOST_60 : P pHOST 60) (gHOST_44 : P pHOST 44) (gHOST_52 : P pHOST 52) (gHOST_16 : P pHOST 16) (gHOST_48 : P pHOST 48) : Touches P s (execSetWindowRead pec e s) := by
  have hk : Same P s s := Same.refl _ _
  unfold execSetWindowRead
  refine Touches.next ?_
  exact State.hostPlain_same _ hk (fun _ h0 => State.readFinish_same _ _ _ _ _ _ _ _ _ _ h0 gHOST_44 gHOST_52 gHOST_16 gHOST_48) gHOST_60

theorem execEventSummary_touches (pec : Bool) (e : Option (BusErr × ℕ)) (gHOST_60 : P pHOST 60) (gHOST_44 : P pHOST 44) (gHOST_52 : P pHOST 52) (gHOST_16 : P pHOST 16) (gHOST_48 : P pHOST 48) : Touches P s (execEventSummary pec e s) := by
  have hk : Same P s s := Same.refl _ _
  unfold execEventSummary
  refine Touches.next ?_
  exact State.hostPlain_same _ hk (fun _ h0 => State.readFinish_same _ _ _ _ _ _ _ _ _ _ h0 gHOST_44 gHOST_52 gHOST_16 gHOST_48) gHOST_60

theorem execStatus_touches (pec : Bool) (e : Option (BusErr × ℕ)) (gHOST_60 : P pHOST 60) (gHOST_44 : P pHOST 44) (gHOST_52 : P pHOST 52) (gHOST_16 : P pHOST 16) (gHOST_48 : P pHOST 48) : Touches P s (execStatus pec e s) := by
  have hk : Same P s s := Same.refl _ _
  unfold execStatus
  refine Touches.next ?_
  exact State.hostPlain_same _ hk (fun _ h0 => State.readFinish_same _ _ _ _ _ _ _ _ _ _ h0 gHOST_44 gHOST_52 gHOST_16 gHOST_48) gHOST_60

theorem execReadWithoutCommand_touches (pec : Bool) (e : Option (BusErr × ℕ)) (gHOST_60 : P pHOST 60) (gHOST_44 : P pHOST 44) (gHOST_52 : P pHOST 52) (gHOST_16 : P pHOST 16) (gHOST_48 : P pHOST 48) : Touches P s (execReadWithoutCommand pec e s) := by
  have hk : Same P s s := Same.refl _ _
  unfold execReadWithoutCommand
  refine Touches.next ?_
  exact State.hostPlain_same _ hk (fun _ h0 => State.readFinish_same _ _ _ _ _ _ _ _ _ _ h0 gHOST_44 gHOST_52 gHOST_16 gHOST_48) gHOST_60

theorem execQuickCommand_touches (a0 : Bool) : Touches P s (execQuickCommand a0 s) := by
  have hk : Same P s s := Same.refl _ _
  unfold execQuickCommand
  refine Touches.next ?_
  exact hk

theorem execStretchEnd_touches (us : BitVec 16) (gHOST_16 : P pHOST 16) (gHOST_60 : P pHOST 60) (gHOST_48 : P pHOST 48) (gHOST_44 : P pHOST 44) (gHOST_52 : P pHOST 52) : Touches P s (execStretchEnd us s) := by
  have hk : Same P s s := Same.refl _ _
  unfold execStretchEnd
  split
  · refine Touches.next ?_
    exact hk
  · extract_lets -merge -underBinder +onlyGivenNames x0
    have hx0 : Same P s x0 := State.raise_same _ _ (State.stretched_same _ hk gHOST_60) gHOST_16
    try clear_value x0
    refine Touches.next ?_
    split
    · exact State.hostBusy_same _ (State.heldDrop_same hx0) gHOST_48 gHOST_44 gHOST_52 gHOST_16
    · exact State.wordsFinish_same _ _ _ _ hx0 gHOST_44 gHOST_52 gHOST_16 gHOST_48

theorem execHeldDataExpire_touches : Touches P s (execHeldDataExpire s) := by
  have hk : Same P s s := Same.refl _ _
  unfold execHeldDataExpire
  split
  · refine Touches.next ?_
    exact Same.ite (fun _ => State.heldDrop_same hk) (fun _ => hk)
  · refine Touches.next ?_
    exact hk

theorem execSclTimeout_touches (cmd : Option (BitVec 8)) (gHOST_48 : P pHOST 48) (gHOST_52 : P pHOST 52) (gHOST_16 : P pHOST 16) (gHOST_56 : P pHOST 56) (gHOST_12 : P pHOST 12) : Touches P s (execSclTimeout cmd s) := by
  have hk : Same P s s := Same.refl _ _
  unfold execSclTimeout
  extract_lets -merge -underBinder +onlyGivenNames x0
  have hx0 : Same P s x0 := by
    unfold x0
    split
    · exact Same.ite (fun _ => State.hostLoad_same _ _ _ hk gHOST_48) (fun _ => hk)
    · exact hk
  try clear_value x0
  extract_lets -merge -underBinder +onlyGivenNames x1
  have hx1 : Same P s x1 := State.bump_same _ _ _ (State.raise_same _ _ hx0 gHOST_16) gHOST_52
  try clear_value x1
  refine Touches.ite (fun _ => ?_) (fun _ => ?_)
  · refine Touches.next ?_
    exact hk
  · refine Touches.next ?_
    exact Same.ite (fun _ => State.notifyFail_same hx1 gHOST_56 gHOST_52 gHOST_12 gHOST_16) (fun _ => hx1)

theorem execSdaStuck_touches (gHOST_16 : P pHOST 16) : Touches P s (execSdaStuck s) := by
  have hk : Same P s s := Same.refl _ _
  unfold execSdaStuck
  refine Touches.ite (fun _ => ?_) (fun _ => ?_)
  · refine Touches.next ?_
    exact State.modHost_same _ (State.raise_same _ _ hk gHOST_16)
  · refine Touches.next ?_
    exact hk

theorem execHostNotify_touches (done : Option Bool) (gHOST_12 : P pHOST 12) (gHOST_16 : P pHOST 16) (gHOST_56 : P pHOST 56) (gHOST_52 : P pHOST 52) : Touches P s (execHostNotify done s) := by
  have hk : Same P s s := Same.refl _ _
  unfold execHostNotify
  refine Touches.ite (fun _ => ?_) (fun _ => ?_)
  · refine Touches.next ?_
    exact hk
  · refine Touches.ite (fun _ => ?_) (fun _ => ?_)
    · refine Touches.next ?_
      exact State.notifyResult_same _ hk gHOST_12 gHOST_16 gHOST_56 gHOST_52
    · refine Touches.ite (fun _ => ?_) (fun _ => ?_)
      · refine Touches.next ?_
        exact State.notifyResult_same _ (State.notifyFresh_same hk gHOST_12 gHOST_56) gHOST_12 gHOST_16 gHOST_56 gHOST_52
      · refine Touches.next ?_
        exact hk

theorem execNotifyHoldEnd_touches (gHOST_12 : P pHOST 12) (gHOST_56 : P pHOST 56) : Touches P s (execNotifyHoldEnd s) := by
  have hk : Same P s s := Same.refl _ _
  unfold execNotifyHoldEnd
  extract_lets -merge -underBinder +onlyGivenNames x0 x1
  have hx1 : Same P s x1 := State.modHost_same _ hk
  try clear_value x1
  refine Touches.ite (fun _ => ?_) (fun _ => ?_)
  · refine Touches.next ?_
    exact hk
  · refine Touches.next ?_
    exact Same.ite (fun _ => State.notifyFresh_same hx1 gHOST_12 gHOST_56) (fun _ => hx1)

theorem execArbitrationLost_touches (how : ArbHow) (gHOST_16 : P pHOST 16) (gHOST_56 : P pHOST 56) (gHOST_52 : P pHOST 52) (gHOST_12 : P pHOST 12) : Touches P s (execArbitrationLost how s) := by
  have hk : Same P s s := Same.refl _ _
  unfold execArbitrationLost
  extract_lets -merge -underBinder +onlyGivenNames x0
  have hx0 : Same P s x0 := by
    unfold x0
    split
    · exact hk
    · exact State.raise_same _ _ hk gHOST_16
    · exact State.raise_same _ _ hk gHOST_16
  try clear_value x0
  refine Touches.ite (fun _ => ?_) (fun _ => ?_)
  · refine Touches.next ?_
    exact hk
  · refine Touches.next ?_
    exact State.notifyFail_same hx0 gHOST_56 gHOST_52 gHOST_12 gHOST_16

theorem execNotifyRetry_touches (done : Option Bool) (gHOST_12 : P pHOST 12) (gHOST_16 : P pHOST 16) (gHOST_56 : P pHOST 56) (gHOST_52 : P pHOST 52) : Touches P s (execNotifyRetry done s) := by
  have hk : Same P s s := Same.refl _ _
  unfold execNotifyRetry
  refine Touches.ite (fun _ => ?_) (fun _ => ?_)
  · refine Touches.next ?_
    exact hk
  · refine Touches.ite (fun _ => ?_) (fun _ => ?_)
    · refine Touches.next ?_
      exact State.put_same _ _ _ hk gHOST_12
    · refine Touches.next ?_
      exact State.notifyResult_same _ (State.notifyBegin_same hk gHOST_12 gHOST_56) gHOST_12 gHOST_16 gHOST_56 gHOST_52

theorem execEvtFrameReceive_touches (gHOST_12 : P pHOST 12) (gFLEET_any : ∀ o, o < 256 → P pFLEET o) : Touches P s (execEvtFrameReceive s) := by
  have hk : Same P s s := Same.refl _ _
  unfold execEvtFrameReceive
  refine Touches.ite (fun _ => ?_) (fun _ => ?_)
  · refine Touches.next ?_
    exact hk
  · refine Touches.next ?_
    exact State.withFrame_same _ hk (fun _ _ h0 => Same.ite (fun _ => State.hostWatch_same (State.setMapBit_same _ _ _ _ h0 (fun o ho => gFLEET_any o ho)) gHOST_12) (fun _ => h0))

theorem execSessionTimeout_touches (gUPD_36 : P pUPD 36) : Touches P s (execSessionTimeout s) := by
  have hk : Same P s s := Same.refl _ _
  unfold execSessionTimeout
  split
  · refine Touches.next ?_
    exact Same.ite (fun _ => State.sessEnd_same hk gUPD_36) (fun _ => hk)
  · refine Touches.next ?_
    exact hk

theorem execUpdCmdAbort_touches (key : BitVec 16) (gUPD_16 : P pUPD 16) (gUPD_36 : P pUPD 36) : Touches P s (execUpdCmdAbort key s) := by
  have hk : Same P s s := Same.refl _ _
  unfold execUpdCmdAbort
  refine Touches.next ?_
  exact State.updKey_same _ hk (fun _ h0 => State.updAbort_same h0 gUPD_16 gUPD_36) gUPD_16

theorem execUpdCmdActivate_touches (key : BitVec 16) (gUPD_16 : P pUPD 16) (gUPD_36 : P pUPD 36) : Touches P s (execUpdCmdActivate key s) := by
  have hk : Same P s s := Same.refl _ _
  unfold execUpdCmdActivate
  refine Touches.next ?_
  exact State.updKey_same _ hk (fun _ h0 => State.updActivate_same h0 gUPD_16 gUPD_36) gUPD_16

theorem execUpdCmdConfirm_touches (switch : Bool) (key : BitVec 16) (gUPD_16 : P pUPD 16) (gUPD_36 : P pUPD 36) (gBOOT_32 : P pBOOT 32) (gNVD_52 : P pNVD 52) : Touches P s (execUpdCmdConfirm switch key s) := by
  have hk : Same P s s := Same.refl _ _
  unfold execUpdCmdConfirm
  refine Touches.next ?_
  exact State.updKey_same _ hk (fun _ h0 => State.updConfirm_same _ h0 gUPD_16 gUPD_36 gBOOT_32 gNVD_52) gUPD_16

theorem execUpdCmdDistribute_touches (key : BitVec 16) (gUPD_16 : P pUPD 16) (gUPD_84 : P pUPD 84) (gUPD_80 : P pUPD 80) (gUPD_76 : P pUPD 76) : Touches P s (execUpdCmdDistribute key s) := by
  have hk : Same P s s := Same.refl _ _
  unfold execUpdCmdDistribute
  refine Touches.next ?_
  exact State.updKey_same _ hk (fun _ h0 => State.updDistribute_same h0 gUPD_84 gUPD_80 gUPD_76) gUPD_16

theorem execUpdCmdOwnerLock_touches (key : BitVec 16) (gUPD_16 : P pUPD 16) (gUPD_36 : P pUPD 36) (gNVD_52 : P pNVD 52) : Touches P s (execUpdCmdOwnerLock key s) := by
  have hk : Same P s s := Same.refl _ _
  unfold execUpdCmdOwnerLock
  refine Touches.next ?_
  exact State.updKey_same _ hk (fun _ h0 => State.updOwnerLock_same h0 gUPD_16 gUPD_36 gNVD_52) gUPD_16

theorem execUpdCmdNewChallenge_touches (v : BitVec 64) (key : BitVec 16) (gUPD_16 : P pUPD 16) (gUPD_92 : P pUPD 92) (gUPD_88 : P pUPD 88) : Touches P s (execUpdCmdNewChallenge v key s) := by
  have hk : Same P s s := Same.refl _ _
  unfold execUpdCmdNewChallenge
  refine Touches.next ?_
  exact State.updKey_same _ hk (fun _ h0 => State.updChallenge_same _ h0 gUPD_92 gUPD_88) gUPD_16

theorem execUpdCmdUnlock_touches (key : BitVec 16) (gUPD_16 : P pUPD 16) (gUPD_36 : P pUPD 36) (gUPD_92 : P pUPD 92) (gUPD_88 : P pUPD 88) (gNVD_52 : P pNVD 52) : Touches P s (execUpdCmdUnlock key s) := by
  have hk : Same P s s := Same.refl _ _
  unfold execUpdCmdUnlock
  refine Touches.next ?_
  exact State.updKey_same _ hk (fun _ h0 => State.updUnlock_same h0 gUPD_36 gUPD_92 gUPD_88 gUPD_16 gNVD_52) gUPD_16

theorem execTrialTimer_touches (gUPD_16 : P pUPD 16) : Touches P s (execTrialTimer s) := by
  have hk : Same P s s := Same.refl _ _
  unfold execTrialTimer
  split
  · extract_lets -merge -underBinder +onlyGivenNames x0
    refine Touches.ite (fun _ => ?_) (fun _ => ?_)
    · refine Touches.next ?_
      exact State.activationReset_same _ (State.raise_same _ _ (Same.mk' hk) gUPD_16)
    · refine Touches.next ?_
      exact hk
  · refine Touches.next ?_
    exact hk

theorem execFirmwareConfirm_touches (gUPD_16 : P pUPD 16) (gUPD_36 : P pUPD 36) (gBOOT_32 : P pBOOT 32) (gNVD_52 : P pNVD 52) : Touches P s (execFirmwareConfirm s) := by
  have hk : Same P s s := Same.refl _ _
  unfold execFirmwareConfirm
  extract_lets -merge -underBinder +onlyGivenNames x0 x1 x2
  refine Touches.ite (fun _ => ?_) (fun _ => ?_)
  · refine Touches.next ?_
    exact State.cmd_same _ hk (fun _ h3 => State.updConfirm_same _ (State.updPost_same h3) gUPD_16 gUPD_36 gBOOT_32 gNVD_52)
  · refine Touches.next ?_
    exact hk

theorem execImgStart_touches (entry : Fin 64) (gFLEET_100 : P pFLEET 100) (gSTORE_16 : P pSTORE 16) (gSTORE_40 : P pSTORE 40) (gSTORE_44 : P pSTORE 44) (gBANK_any : ∀ o, o < 256 → P pBANK o) (gSTORE_48 : P pSTORE 48) (gSTORE_12 : P pSTORE 12) (gUPD_16 : P pUPD 16) (gUPD_36 : P pUPD 36) (gBOOT_32 : P pBOOT 32) (gNVD_52 : P pNVD 52) : Touches P s (execImgStart entry s) := by
  have hk : Same P s s := Same.refl _ _
  unfold execImgStart
  refine Touches.next ?_
  exact State.imgFrame_same _ _ _ hk (fun _ _ h0 => State.imgStart_same _ h0 gUPD_16 gUPD_36 gBOOT_32 gNVD_52) gFLEET_100 gSTORE_16 gSTORE_40 gSTORE_44 (fun o ho => gBANK_any o ho) gSTORE_48 gSTORE_12

theorem execImgSection_touches (entry : Fin 64) (gFLEET_100 : P pFLEET 100) (gSTORE_16 : P pSTORE 16) (gSTORE_40 : P pSTORE 40) (gSTORE_44 : P pSTORE 44) (gBANK_any : ∀ o, o < 256 → P pBANK o) (gSTORE_48 : P pSTORE 48) (gSTORE_12 : P pSTORE 12) : Touches P s (execImgSection entry s) := by
  have hk : Same P s s := Same.refl _ _
  unfold execImgSection
  refine Touches.next ?_
  exact State.imgFrame_same _ _ _ hk (fun _ _ h0 => State.imgOn_same h0 (fun _ h1 => Same.mk' h1)) gFLEET_100 gSTORE_16 gSTORE_40 gSTORE_44 (fun o ho => gBANK_any o ho) gSTORE_48 gSTORE_12

theorem execImgData_touches (entry : Fin 64) (bad : Option (Fin 64 × Bool)) (gFLEET_100 : P pFLEET 100) (gSTORE_16 : P pSTORE 16) (gSTORE_40 : P pSTORE 40) (gSTORE_44 : P pSTORE 44) (gBANK_any : ∀ o, o < 256 → P pBANK o) (gSTORE_48 : P pSTORE 48) (gSTORE_12 : P pSTORE 12) (gBOOT_32 : P pBOOT 32) (gUPD_36 : P pUPD 36) (gNVD_52 : P pNVD 52) (gFLASH_60 : P pFLASH 60) (gFLASH_16 : P pFLASH 16) (gSUP_16 : P pSUP 16) (gUPD_16 : P pUPD 16) : Touches P s (execImgData entry bad s) := by
  have hk : Same P s s := Same.refl _ _
  unfold execImgData
  refine Touches.next ?_
  refine State.imgFrame_same _ _ _ ?_ ?_ gFLEET_100 gSTORE_16 gSTORE_40 gSTORE_44 (fun o ho => gBANK_any o ho) gSTORE_48 gSTORE_12
  · exact hk
  · intro s0_0 s0_1 hs0_1
    refine State.imgOn_same ?_ ?_
    · exact hs0_1
    · intro s1_0 hs1_1
      split
      · exact hs1_1
      · extract_lets -merge -underBinder +onlyGivenNames x2
        have hx2 : Same P s x2.1 := by
          refine Same.ofEq ?_ (State.updBlock_same ?_ ?_ ?_ ?_ hs1_1 gBOOT_32 gUPD_36 gNVD_52 gSTORE_16 gSTORE_40 gSTORE_44 (fun o ho => gBANK_any o ho) gSTORE_48 gSTORE_12 gFLASH_60 gFLASH_16 gSUP_16)
          exact rfl
        try clear_value x2
        exact State.updResult_same _ hx2 gUPD_16 gUPD_36

theorem execImgEnd_touches (entry : Fin 64) (gFLEET_100 : P pFLEET 100) (gSTORE_16 : P pSTORE 16) (gSTORE_40 : P pSTORE 40) (gSTORE_44 : P pSTORE 44) (gBANK_any : ∀ o, o < 256 → P pBANK o) (gSTORE_48 : P pSTORE 48) (gSTORE_12 : P pSTORE 12) : Touches P s (execImgEnd entry s) := by
  have hk : Same P s s := Same.refl _ _
  unfold execImgEnd
  refine Touches.next ?_
  exact State.imgFrame_same _ _ _ hk (fun _ _ h0 => State.imgOn_same h0 (fun _ h1 => State.reportOwe_same _ (State.maskCheck_same h1 gSTORE_16 gSTORE_40 gSTORE_44 (fun o ho => gBANK_any o ho) gSTORE_48 gSTORE_12))) gFLEET_100 gSTORE_16 gSTORE_40 gSTORE_44 (fun o ho => gBANK_any o ho) gSTORE_48 gSTORE_12

theorem execImgCommit_touches (entry : Fin 64) (gFLEET_100 : P pFLEET 100) (gSTORE_16 : P pSTORE 16) (gSTORE_40 : P pSTORE 40) (gSTORE_44 : P pSTORE 44) (gBANK_any : ∀ o, o < 256 → P pBANK o) (gSTORE_48 : P pSTORE 48) (gSTORE_12 : P pSTORE 12) (gUPD_16 : P pUPD 16) (gUPD_36 : P pUPD 36) (gBOOT_32 : P pBOOT 32) (gNVD_52 : P pNVD 52) (gBOOT_36 : P pBOOT 36) (gBOOT_16 : P pBOOT 16) (gBOOT_12 : P pBOOT 12) (gGUARD_12 : ∀ m, P (pGUARD m) 12) (gBOOT_44 : P pBOOT 44) (gGAUGE_40 : P pGAUGE 40) (gGAUGE_32 : P pGAUGE 32) (gGAUGE_44 : P pGAUGE 44) (gGAUGE_48 : P pGAUGE 48) (gGAUGE_52 : P pGAUGE 52) (gGAUGE_60 : P pGAUGE 60) (gGAUGE_56 : P pGAUGE 56) (gGAUGE_100 : P pGAUGE 100) (gGAUGE_88 : P pGAUGE 88) (gGAUGE_96 : P pGAUGE 96) (gLEARN_44 : P pLEARN 44) (gGAUGE_92 : P pGAUGE 92) (gBATID_40 : P pBATID 40) (gCC_16 : ∀ m, P (pCC m) 16) (gCC_32 : ∀ m, P (pCC m) 32) (gCC_8 : ∀ m, P (pCC m) 8) : Touches P s (execImgCommit entry s) := by
  have hk : Same P s s := Same.refl _ _
  unfold execImgCommit
  refine Touches.next ?_
  refine State.imgFrame_same _ _ _ ?_ ?_ gFLEET_100 gSTORE_16 gSTORE_40 gSTORE_44 (fun o ho => gBANK_any o ho) gSTORE_48 gSTORE_12
  · exact hk
  · intro s0_0 s0_1 hs0_1
    refine State.imgOn_same ?_ ?_
    · exact hs0_1
    · intro s1_0 hs1_1
      extract_lets -merge -underBinder +onlyGivenNames x2
      have hx2 : Same P s x2.1 := by
        refine Same.ofEq ?_ (State.updCommit_same ?_ hs1_1 gSTORE_16 gSTORE_40 gSTORE_44 (fun o ho => gBANK_any o ho) gSTORE_48 gSTORE_12 gUPD_16 gUPD_36 gBOOT_32 gNVD_52)
        exact rfl
      try clear_value x2
      extract_lets -merge -underBinder +onlyGivenNames x3
      have hx3 : Same P s x3 := State.reportOwe_same _ (State.updResult_same _ hx2 gUPD_16 gUPD_36)
      try clear_value x3
      exact Same.ite (fun _ => State.recoverStart_same hx3 gBOOT_32 gBOOT_36 gUPD_36 gNVD_52 gBOOT_16 gBOOT_12 (fun m => gGUARD_12 m) gBOOT_44 gGAUGE_40 gGAUGE_32 gGAUGE_44 gGAUGE_48 gGAUGE_52 gGAUGE_60 gGAUGE_56 gGAUGE_100 gGAUGE_88 gGAUGE_96 gLEARN_44 gGAUGE_92 gBATID_40 (fun m => gCC_16 m) (fun m => gCC_32 m) (fun m => gCC_8 m)) (fun _ => hx3)

theorem execImgActivate_touches (entry : Fin 64) (gFLEET_100 : P pFLEET 100) (gSTORE_16 : P pSTORE 16) (gSTORE_40 : P pSTORE 40) (gSTORE_44 : P pSTORE 44) (gBANK_any : ∀ o, o < 256 → P pBANK o) (gSTORE_48 : P pSTORE 48) (gSTORE_12 : P pSTORE 12) (gUPD_16 : P pUPD 16) (gUPD_36 : P pUPD 36) : Touches P s (execImgActivate entry s) := by
  have hk : Same P s s := Same.refl _ _
  unfold execImgActivate
  refine Touches.next ?_
  exact State.imgFrame_same _ _ _ hk (fun _ _ h0 => State.imgOn_same h0 (fun _ h1 => State.updActivate_same h1 gUPD_16 gUPD_36)) gFLEET_100 gSTORE_16 gSTORE_40 gSTORE_44 (fun o ho => gBANK_any o ho) gSTORE_48 gSTORE_12

theorem execImgAbort_touches (entry : Fin 64) (gFLEET_100 : P pFLEET 100) (gSTORE_16 : P pSTORE 16) (gSTORE_40 : P pSTORE 40) (gSTORE_44 : P pSTORE 44) (gBANK_any : ∀ o, o < 256 → P pBANK o) (gSTORE_48 : P pSTORE 48) (gSTORE_12 : P pSTORE 12) (gUPD_36 : P pUPD 36) : Touches P s (execImgAbort entry s) := by
  have hk : Same P s s := Same.refl _ _
  unfold execImgAbort
  refine Touches.next ?_
  exact State.imgFrame_same _ _ _ hk (fun _ _ h0 => State.imgOn_same h0 (fun _ h1 => Same.ite (fun _ => State.sessEnd_same h1 gUPD_36) (fun _ => h1))) gFLEET_100 gSTORE_16 gSTORE_40 gSTORE_44 (fun o ho => gBANK_any o ho) gSTORE_48 gSTORE_12

theorem execUpdateReport_touches (gFLEET_16 : P pFLEET 16) (gSTORE_16 : P pSTORE 16) (gSTORE_40 : P pSTORE 40) (gSTORE_44 : P pSTORE 44) (gBANK_any : ∀ o, o < 256 → P pBANK o) (gSTORE_48 : P pSTORE 48) (gSTORE_12 : P pSTORE 12) (gHG_52 : ∀ m, P (pHG m) 52) (gHG_48 : ∀ m, P (pHG m) 48) : Touches P s (execUpdateReport s) := by
  have hk : Same P s s := Same.refl _ _
  unfold execUpdateReport
  split
  · extract_lets -merge -underBinder +onlyGivenNames x0
    extract_lets -merge -underBinder +onlyGivenNames x1
    refine Touches.ite (fun _ => ?_) (fun _ => ?_)
    · refine Touches.next ?_
      exact State.sendEngine_same _ _ _ _ _ _ _ (Same.mk' hk) gFLEET_16 gSTORE_16 gSTORE_40 gSTORE_44 (fun o ho => gBANK_any o ho) gSTORE_48 gSTORE_12 (fun m => gHG_52 m) (fun m => gHG_48 m)
    · refine Touches.next ?_
      exact hk
  · refine Touches.next ?_
    exact hk

theorem execDistributionTask_touches (entry : Option (Fin 64)) (late : Bool) (gFLEET_16 : P pFLEET 16) (gSTORE_16 : P pSTORE 16) (gSTORE_40 : P pSTORE 40) (gSTORE_44 : P pSTORE 44) (gBANK_any : ∀ o, o < 256 → P pBANK o) (gSTORE_48 : P pSTORE 48) (gSTORE_12 : P pSTORE 12) (gHG_52 : ∀ m, P (pHG m) 52) (gHG_48 : ∀ m, P (pHG m) 48) (gUPD_any : ∀ o, o < 256 → P pUPD o) (gFLEET_100 : P pFLEET 100) : Touches P s (execDistributionTask entry late s) := by
  have hk : Same P s s := Same.refl _ _
  unfold execDistributionTask
  split
  · refine Touches.next ?_
    exact hk
  · refine Touches.ite (fun _ => ?_) (fun _ => ?_)
    · refine Touches.next ?_
      exact hk
    · split
      · refine Touches.next ?_
        exact State.distStep_same _ _ hk gFLEET_16 gSTORE_16 gSTORE_40 gSTORE_44 (fun o ho => gBANK_any o ho) gSTORE_48 gSTORE_12 (fun m => gHG_52 m) (fun m => gHG_48 m) (fun o ho => gUPD_any o ho)
      · refine Touches.ite (fun _ => ?_) (fun _ => ?_)
        · refine Touches.next ?_
          exact hk
        · refine Touches.ite (fun _ => ?_) (fun _ => ?_)
          · refine Touches.next ?_
            exact State.rxRelease_same _ (State.stNote_same _ _ _ hk gSTORE_16 gSTORE_40 gSTORE_44 (fun o ho => gBANK_any o ho) gSTORE_48 gSTORE_12) gFLEET_100
          · refine Touches.next ?_
            exact State.rxRelease_same _ (State.distReport_same _ _ _ hk (fun o ho => gUPD_any o ho)) gFLEET_100

theorem execFlashCmdDone_touches (verifyOk : Bool) (gFLASH_48 : P pFLASH 48) (gFLASH_16 : P pFLASH 16) : Touches P s (execFlashCmdDone verifyOk s) := by
  have hk : Same P s s := Same.refl _ _
  unfold execFlashCmdDone
  refine Touches.next ?_
  exact Same.ite (fun _ => State.flashFinish_same _ hk gFLASH_48 gFLASH_16) (fun _ => hk)

theorem execVddioChange_touches (mv : ℕ) (gSUP_16 : P pSUP 16) (gSUP_12 : P pSUP 12) : Touches P s (execVddioChange mv s) := by
  have hk : Same P s s := Same.refl _ _
  unfold execVddioChange
  extract_lets -merge -underBinder +onlyGivenNames x0 x1 x2 x3
  have hx3 : Same P s x3 := Same.mk' hk
  try clear_value x3
  refine Touches.ite (fun _ => ?_) (fun _ => ?_)
  · refine Touches.next ?_
    exact State.raiseIf_same _ _ _ (State.putB_same _ _ _ (State.putB_same _ _ _ hx3 gSUP_12) gSUP_12) gSUP_16
  · refine Touches.next ?_
    exact hx3

theorem execVconnInLost_touches (mv : ℕ) (gSUP_12 : P pSUP 12) (gSUP_16 : P pSUP 16) (gCC_12 : ∀ m, P (pCC m) 12) : Touches P s (execVconnInLost mv s) := by
  have hk : Same P s s := Same.refl _ _
  unfold execVconnInLost
  extract_lets -merge -underBinder +onlyGivenNames x0 x1
  have hx1 : Same P s x1 := Same.mk' hk
  try clear_value x1
  extract_lets -merge -underBinder +onlyGivenNames x2
  refine Touches.ite (fun _ => ?_) (fun _ => ?_)
  · refine Touches.next ?_
    exact hx1
  · refine Touches.ite (fun _ => ?_) (fun _ => ?_)
    · refine Touches.next ?_
      exact State.put_same _ _ _ hx1 gSUP_12
    · refine Touches.next ?_
      exact State.raiseIf_same _ _ _ (State.forPorts_same (State.put_same _ _ _ hx1 gSUP_12) (fun _ _ h3 => State.vconnOff_same _ h3 (gCC_12 _))) gSUP_16

theorem execSrcSwitchVsys_touches (mv : ℕ) (gSUP_16 : P pSUP 16) (gSUP_12 : P pSUP 12) : Touches P s (execSrcSwitchVsys mv s) := by
  have hk : Same P s s := Same.refl _ _
  unfold execSrcSwitchVsys
  refine Touches.next ?_
  exact State.vsys_same _ hk (fun _ h0 => Same.ite (fun _ => State.setSrc_same _ h0 gSUP_16 gSUP_12) (fun _ => h0))

theorem execNvInhibitAssert_touches (mv : ℕ) (gSUP_16 : P pSUP 16) (gNVD_52 : P pNVD 52) (gFLASH_48 : P pFLASH 48) (gFLASH_16 : P pFLASH 16) (gFLASH_60 : P pFLASH 60) (gNVD_44 : P pNVD 44) (gNVD_16 : P pNVD 16) (gSUP_12 : P pSUP 12) : Touches P s (execNvInhibitAssert mv s) := by
  have hk : Same P s s := Same.refl _ _
  unfold execNvInhibitAssert
  refine Touches.next ?_
  exact State.vsys_same _ hk (fun _ h0 => Same.ite (fun _ => h0) (fun _ => State.secretInhibit_same (State.nvInhibit_same (State.raise_same _ _ (State.put_same _ _ _ (State.put_same _ _ _ h0 gSUP_12) gSUP_12) gSUP_16) gFLASH_48 gFLASH_16 gFLASH_60 gSUP_16 gNVD_52 gNVD_44 gNVD_16) gSUP_16 gNVD_52))

theorem execNvInhibitClear_touches (mv : ℕ) (gSUP_12 : P pSUP 12) : Touches P s (execNvInhibitClear mv s) := by
  have hk : Same P s s := Same.refl _ _
  unfold execNvInhibitClear
  refine Touches.next ?_
  exact State.vsys_same _ hk (fun _ h0 => Same.ite (fun _ => State.put_same _ _ _ h0 gSUP_12) (fun _ => h0))

theorem execNvStable_touches (mv : ℕ) (gSUP_12 : P pSUP 12) : Touches P s (execNvStable mv s) := by
  have hk : Same P s s := Same.refl _ _
  unfold execNvStable
  refine Touches.next ?_
  exact State.vsys_same _ hk (fun _ h0 => Same.ite (fun _ => State.put_same _ _ _ h0 gSUP_12) (fun _ => h0))

theorem execNvStableClear_touches (mv : ℕ) (gSUP_12 : P pSUP 12) : Touches P s (execNvStableClear mv s) := by
  have hk : Same P s s := Same.refl _ _
  unfold execNvStableClear
  refine Touches.next ?_
  exact State.vsys_same _ hk (fun _ h0 => Same.ite (fun _ => State.put_same _ _ _ h0 gSUP_12) (fun _ => h0))

theorem execVsysWarn_touches (mv : ℕ) (gSUP_12 : P pSUP 12) (gSUP_16 : P pSUP 16) : Touches P s (execVsysWarn mv s) := by
  have hk : Same P s s := Same.refl _ _
  unfold execVsysWarn
  refine Touches.next ?_
  exact State.vsys_same _ hk (fun _ h0 => Same.ite (fun _ => Same.ite (fun _ => State.put_same _ _ _ h0 gSUP_12) (fun _ => h0)) (fun _ => Same.ite (fun _ => State.raise_same _ _ (State.put_same _ _ _ h0 gSUP_12) gSUP_16) (fun _ => h0)))

theorem execModeReqRun_touches (key : BitVec 16) (gAON_16 : P pAON 16) (gAON_36 : P pAON 36) : Touches P s (execModeReqRun key s) := by
  have hk : Same P s s := Same.refl _ _
  unfold execModeReqRun
  refine Touches.next ?_
  exact State.modeKey_same _ _ hk gAON_16 gAON_36

theorem execModeReqDoze_touches (key : BitVec 16) (gAON_16 : P pAON 16) (gAON_36 : P pAON 36) : Touches P s (execModeReqDoze key s) := by
  have hk : Same P s s := Same.refl _ _
  unfold execModeReqDoze
  refine Touches.next ?_
  exact State.modeKey_same _ _ hk gAON_16 gAON_36

theorem execModeReqStandby_touches (key : BitVec 16) (gAON_16 : P pAON 16) (gAON_36 : P pAON 36) : Touches P s (execModeReqStandby key s) := by
  have hk : Same P s s := Same.refl _ _
  unfold execModeReqStandby
  refine Touches.next ?_
  exact State.modeKey_same _ _ hk gAON_16 gAON_36

theorem execModeReqShip_touches (key : BitVec 16) (gAON_16 : P pAON 16) (gAON_36 : P pAON 36) : Touches P s (execModeReqShip key s) := by
  have hk : Same P s s := Same.refl _ _
  unfold execModeReqShip
  refine Touches.next ?_
  exact State.modeKey_same _ _ hk gAON_16 gAON_36

theorem execModeReqZero_touches (key : BitVec 16) (gAON_16 : P pAON 16) (gAON_36 : P pAON 36) : Touches P s (execModeReqZero key s) := by
  have hk : Same P s s := Same.refl _ _
  unfold execModeReqZero
  refine Touches.next ?_
  exact State.modeKey_same _ _ hk gAON_16 gAON_36

theorem execModeEntry_touches (gCLK_12 : P pCLK 12) (gAON_36 : P pAON 36) (gAON_16 : P pAON 16) : Touches P s (execModeEntry s) := by
  have hk : Same P s s := Same.refl _ _
  unfold execModeEntry
  split
  · extract_lets -merge -underBinder +onlyGivenNames x0
    extract_lets -merge -underBinder +onlyGivenNames x1
    have hx1 : Same P s x1 := State.put_same _ _ _ (State.put_same _ _ _ (State.put_same _ _ _ hk gAON_36) gCLK_12) gCLK_12
    try clear_value x1
    extract_lets -merge -underBinder +onlyGivenNames x2
    have hx2 : Same P s x2 := Same.ite (fun _ => hx1) (fun _ => State.modeEnd_same _ hx1 gAON_16 gAON_36)
    try clear_value x2
    extract_lets -merge -underBinder +onlyGivenNames x3
    have hx3 : Same P s x3 := State.forPorts_same hx2 (fun _ _ h4 => State.modCc_same _ _ h4)
    try clear_value x3
    extract_lets -merge -underBinder +onlyGivenNames x5 x6
    refine Touches.ite (fun _ => ?_) (fun _ => ?_)
    · refine Touches.next ?_
      exact Same.mk' hx3
    · refine Touches.next ?_
      exact hk
  · refine Touches.next ?_
    exact hk

theorem execModeEntryBusy_touches (gAON_16 : P pAON 16) (gAON_36 : P pAON 36) : Touches P s (execModeEntryBusy s) := by
  have hk : Same P s s := Same.refl _ _
  unfold execModeEntryBusy
  split
  · extract_lets -merge -underBinder +onlyGivenNames x0
    have hx0 : Same P s x0 := State.modeEnd_same _ hk gAON_16 gAON_36
    try clear_value x0
    extract_lets -merge -underBinder +onlyGivenNames x1
    refine Touches.ite (fun _ => ?_) (fun _ => ?_)
    · refine Touches.next ?_
      exact Same.mk' hx0
    · refine Touches.next ?_
      exact hk
  · refine Touches.next ?_
    exact hk

theorem execZeroWake_touches (src : Fin 6) (n : Port) (gAON_44 : P pAON 44) : Touches P s (execZeroWake src n s) := by
  have hk : Same P s s := Same.refl _ _
  unfold execZeroWake
  refine Touches.next ?_
  exact Same.ite (fun _ => State.zeroChain_same _ _ hk gAON_44) (fun _ => hk)

theorem execBarrierConfirm_touches (gAON_16 : P pAON 16) (gAON_36 : P pAON 36) (gSUP_16 : P pSUP 16) (gSUP_12 : P pSUP 12) : Touches P s (execBarrierConfirm s) := by
  have hk : Same P s s := Same.refl _ _
  unfold execBarrierConfirm
  extract_lets -merge -underBinder +onlyGivenNames x0
  have hx0 : Same P s x0 := State.modeEnd_same _ (State.setSrc_same _ (State.put_same _ _ _ hk gAON_36) gSUP_16 gSUP_12) gAON_16 gAON_36
  try clear_value x0
  extract_lets -merge -underBinder +onlyGivenNames x1 x2
  refine Touches.ite (fun _ => ?_) (fun _ => ?_)
  · refine Touches.next ?_
    exact Same.mk' hx0
  · refine Touches.next ?_
    exact hk

theorem execBarrierTimeout_touches (gAON_16 : P pAON 16) (gAON_36 : P pAON 36) : Touches P s (execBarrierTimeout s) := by
  have hk : Same P s s := Same.refl _ _
  unfold execBarrierTimeout
  extract_lets -merge -underBinder +onlyGivenNames x0
  have hx0 : Same P s x0 := State.modeEnd_same _ hk gAON_16 gAON_36
  try clear_value x0
  extract_lets -merge -underBinder +onlyGivenNames x1
  refine Touches.ite (fun _ => ?_) (fun _ => ?_)
  · refine Touches.next ?_
    exact Same.mk' hx0
  · refine Touches.next ?_
    exact hk

theorem execConvFail_touches (gMAINS_16 : P pMAINS 16) : Touches P s (execConvFail s) := by
  have hk : Same P s s := Same.refl _ _
  unfold execConvFail
  extract_lets -merge -underBinder +onlyGivenNames x0 x1
  have hx1 : Same P s x1 := State.raiseIf_same _ _ _ hk gMAINS_16
  try clear_value x1
  extract_lets -merge -underBinder +onlyGivenNames x2 x3
  refine Touches.ite (fun _ => ?_) (fun _ => ?_)
  · refine Touches.next ?_
    exact Same.mk' hx1
  · refine Touches.next ?_
    exact hk

theorem execHvRise_touches : Touches P s (execHvRise s) := by
  have hk : Same P s s := Same.refl _ _
  unfold execHvRise
  refine Touches.next ?_
  exact Same.ite (fun _ => State.modMains_same _ hk) (fun _ => hk)

theorem execLineCycleEnd_touches (rms : BitVec 16) (peak : BitVec 16) (freq : BitVec 16) (dc : Bool) (gMAINS_36 : P pMAINS 36) (gMAINS_32 : P pMAINS 32) (gMAINS_40 : P pMAINS 40) (gMAINS_72 : P pMAINS 72) (gMAINS_16 : P pMAINS 16) : Touches P s (execLineCycleEnd rms peak freq dc s) := by
  have hk : Same P s s := Same.refl _ _
  unfold execLineCycleEnd
  extract_lets -merge -underBinder +onlyGivenNames x0 x1
  have hx1 : Same P s x1 := State.modMains_same _ hk
  try clear_value x1
  refine Touches.ite (fun _ => ?_) (fun _ => ?_)
  · refine Touches.next ?_
    exact hk
  · refine Touches.next ?_
    exact State.mainsShow_same (State.modMains_same _ hx1) gMAINS_36 gMAINS_32 gMAINS_40 gMAINS_72 gMAINS_16

theorem execMainsLoss_touches (gMAINS_36 : P pMAINS 36) (gMAINS_32 : P pMAINS 32) (gMAINS_40 : P pMAINS 40) (gMAINS_72 : P pMAINS 72) (gMAINS_16 : P pMAINS 16) : Touches P s (execMainsLoss s) := by
  have hk : Same P s s := Same.refl _ _
  unfold execMainsLoss
  refine Touches.next ?_
  exact Same.ite (fun _ => State.mainsShow_same (State.modMains_same _ hk) gMAINS_36 gMAINS_32 gMAINS_40 gMAINS_72 gMAINS_16) (fun _ => hk)

theorem execMainsWriteSync_touches (gMAINS_72 : P pMAINS 72) (gMAINS_12 : P pMAINS 12) : Touches P s (execMainsWriteSync s) := by
  have hk : Same P s s := Same.refl _ _
  unfold execMainsWriteSync
  refine Touches.next ?_
  extract_lets -merge -underBinder +onlyGivenNames x0 x1 x2
  refine Same.ite (fun _ => ?_) (fun _ => ?_)
  · split
    · exact State.mainsBudget_same (State.modMains_same _ (State.put_same _ _ _ hk gMAINS_12)) gMAINS_72
  · exact hk

theorem execBarrierLinkLoss_touches (gMAINS_72 : P pMAINS 72) (gMAINS_16 : P pMAINS 16) : Touches P s (execBarrierLinkLoss s) := by
  have hk : Same P s s := Same.refl _ _
  unfold execBarrierLinkLoss
  extract_lets -merge -underBinder +onlyGivenNames x0
  have hx0 : Same P s x0 := State.modMains_same _ hk
  try clear_value x0
  refine Touches.ite (fun _ => ?_) (fun _ => ?_)
  · refine Touches.next ?_
    exact Same.ite (fun _ => State.mainsBudget_same (State.raise_same _ _ hx0 gMAINS_16) gMAINS_72) (fun _ => hx0)
  · refine Touches.next ?_
    exact hk

theorem execBarrierLinkRecovery_touches (gMAINS_16 : P pMAINS 16) (gMAINS_36 : P pMAINS 36) (gMAINS_32 : P pMAINS 32) (gMAINS_40 : P pMAINS 40) (gMAINS_72 : P pMAINS 72) : Touches P s (execBarrierLinkRecovery s) := by
  have hk : Same P s s := Same.refl _ _
  unfold execBarrierLinkRecovery
  extract_lets -merge -underBinder +onlyGivenNames x0
  have hx0 : Same P s x0 := State.modMains_same _ hk
  try clear_value x0
  extract_lets -merge -underBinder +onlyGivenNames x1
  have hx1 : Same P s x1 := State.raiseIf_same _ _ _ hx0 gMAINS_16
  try clear_value x1
  refine Touches.ite (fun _ => ?_) (fun _ => ?_)
  · refine Touches.ite (fun _ => ?_) (fun _ => ?_)
    · refine Touches.next ?_
      exact State.mainsShow_same (State.modMains_same _ hx1) gMAINS_36 gMAINS_32 gMAINS_40 gMAINS_72 gMAINS_16
    · refine Touches.next ?_
      exact hx0
  · refine Touches.next ?_
    exact hk

theorem execScrubCheck_touches (wrong : BitVec 4) (gSTORE_16 : P pSTORE 16) (gSTORE_40 : P pSTORE 40) (gSTORE_44 : P pSTORE 44) (gBANK_any : ∀ o, o < 256 → P pBANK o) (gSTORE_48 : P pSTORE 48) (gSTORE_12 : P pSTORE 12) (gSTORE_36 : P pSTORE 36) : Touches P s (execScrubCheck wrong s) := by
  have hk : Same P s s := Same.refl _ _
  unfold execScrubCheck
  refine Touches.next ?_
  exact Same.ite (fun _ => State.scrubCheck_same _ hk gSTORE_16 gSTORE_40 gSTORE_44 (fun o ho => gBANK_any o ho) gSTORE_48 gSTORE_12 gSTORE_36) (fun _ => hk)

theorem execRewriteTest_touches (same : Bool) (gSTORE_16 : P pSTORE 16) (gBANK_36 : P pBANK 36) (gSTORE_12 : P pSTORE 12) (gBANK_32 : P pBANK 32) (gBANK_44 : P pBANK 44) : Touches P s (execRewriteTest same s) := by
  have hk : Same P s s := Same.refl _ _
  unfold execRewriteTest
  refine Touches.next ?_
  exact Same.ite (fun _ => State.rewriteTest_same _ hk gSTORE_16 gBANK_36 gSTORE_12 gBANK_32 gBANK_44) (fun _ => hk)

theorem execMigrateDone_touches (gBANK_any : ∀ o, o < 256 → P pBANK o) (gSTORE_16 : P pSTORE 16) (gSTORE_12 : P pSTORE 12) : Touches P s (execMigrateDone s) := by
  have hk : Same P s s := Same.refl _ _
  unfold execMigrateDone
  split
  · refine Touches.next ?_
    exact hk
  · extract_lets -merge -underBinder +onlyGivenNames x0
    have hx0 : Same P s x0 := State.migrate_same _ hk (fun o ho => gBANK_any o ho) gSTORE_16 gSTORE_12
    try clear_value x0
    refine Touches.ite (fun _ => ?_) (fun _ => ?_)
    · refine Touches.next ?_
      exact hk
    · refine Touches.next ?_
      split
      · exact hx0
      · exact Same.ite (fun _ => State.bankRetire_same _ hx0 (gBANK_any _ (by decide)) gSTORE_12 (gBANK_any _ (by decide))) (fun _ => Same.ite (fun _ => hx0) (fun _ => State.raise_same _ _ (State.put_same _ _ _ hx0 gSTORE_12) gSTORE_16))

theorem execBankCmdRetire_touches (bank : Fin 16) (key : BitVec 16) (gBANK_16 : P pBANK 16) (gBANK_44 : P pBANK 44) (gBANK_32 : P pBANK 32) (gSTORE_12 : P pSTORE 12) : Touches P s (execBankCmdRetire bank key s) := by
  have hk : Same P s s := Same.refl _ _
  unfold execBankCmdRetire
  refine Touches.next ?_
  exact State.keyCmd_same _ _ _ hk (fun _ h0 => State.bankCmd_same _ h0 gBANK_44 gBANK_32 gSTORE_12) gBANK_16

theorem execOtpCmdDone_touches (weak : Word) (gOTP_60 : P pOTP 60) (gOTP_16 : P pOTP 16) : Touches P s (execOtpCmdDone weak s) := by
  have hk : Same P s s := Same.refl _ _
  unfold execOtpCmdDone
  refine Touches.next ?_
  exact State.otpFinish_same _ hk gOTP_60 gOTP_16

theorem execNvdCmdDone_touches (verifyOk : Bool) (gNVD_44 : P pNVD 44) (gNVD_16 : P pNVD 16) (gNVD_52 : P pNVD 52) (gSTORE_16 : P pSTORE 16) (gSTORE_40 : P pSTORE 40) (gSTORE_44 : P pSTORE 44) (gBANK_any : ∀ o, o < 256 → P pBANK o) (gSTORE_48 : P pSTORE 48) (gSTORE_12 : P pSTORE 12) (gNVD_40 : P pNVD 40) (gUPD_36 : P pUPD 36) : Touches P s (execNvdCmdDone verifyOk s) := by
  have hk : Same P s s := Same.refl _ _
  unfold execNvdCmdDone
  extract_lets -merge -underBinder +onlyGivenNames x0
  have hx0 : Same P s x0 := State.nvdFinish_same _ hk gNVD_44 gNVD_16 gNVD_52 gSTORE_16 gSTORE_40 gSTORE_44 (fun o ho => gBANK_any o ho) gSTORE_48 gSTORE_12 gNVD_40
  try clear_value x0
  refine Touches.next ?_
  split
  · exact State.putB_same _ _ _ hx0 gUPD_36
  · exact State.putB_same _ _ _ hx0 gUPD_36
  · exact hx0

theorem execDbgTokenChecked_touches (gDBG_16 : P pDBG 16) (gDBG_48 : P pDBG 48) (gBOOT_32 : P pBOOT 32) (gUPD_36 : P pUPD 36) (gNVD_52 : P pNVD 52) : Touches P s (execDbgTokenChecked s) := by
  have hk : Same P s s := Same.refl _ _
  unfold execDbgTokenChecked
  refine Touches.next ?_
  exact Same.ite (fun _ => State.dbgVerdict_same _ hk gDBG_16 gDBG_48 gBOOT_32 gUPD_36 gNVD_52) (fun _ => hk)

theorem execDbgEraseDone_touches (gDBG_any : ∀ o, o < 256 → P pDBG o) (gBOOT_32 : P pBOOT 32) (gUPD_any : ∀ o, o < 256 → P pUPD o) (gNVD_52 : P pNVD 52) : Touches P s (execDbgEraseDone s) := by
  have hk : Same P s s := Same.refl _ _
  unfold execDbgEraseDone
  refine Touches.next ?_
  exact Same.ite (fun _ => State.dbgErased_same hk (fun o ho => gDBG_any o ho) gBOOT_32 (fun o ho => gUPD_any o ho) gNVD_52) (fun _ => hk)

theorem execDebugHalt_touches (k : Engine) : Touches P s (execDebugHalt k s) := by
  have hk : Same P s s := Same.refl _ _
  unfold execDebugHalt
  refine Touches.next ?_
  exact Same.ite (fun _ => State.modEng_same _ _ hk) (fun _ => hk)

theorem execDebugResume_touches (k : Engine) : Touches P s (execDebugResume k s) := by
  have hk : Same P s s := Same.refl _ _
  unfold execDebugResume
  refine Touches.next ?_
  exact Same.ite (fun _ => State.modEng_same _ _ hk) (fun _ => hk)

theorem execGpioEdge_touches (i : Fin 8) (level : Option Bool) (gGPIO_16 : P pGPIO 16) : Touches P s (execGpioEdge i level s) := by
  have hk : Same P s s := Same.refl _ _
  unfold execGpioEdge
  refine Touches.next ?_
  exact State.withEdges_same hk (fun _ h0 => State.boardPad_same _ _ h0) gGPIO_16

theorem execMotnAsserted_touches (gSYS_16 : P pSYS 16) : Touches P s (execMotnAsserted s) := by
  have hk : Same P s s := Same.refl _ _
  unfold execMotnAsserted
  extract_lets -merge -underBinder +onlyGivenNames x0 x1
  refine Touches.ite (fun _ => ?_) (fun _ => ?_)
  · refine Touches.next ?_
    exact State.raise_same _ _ (Same.mk' hk) gSYS_16
  · refine Touches.next ?_
    exact hk

theorem execColdBoot_touches (x : BootIn) (gID_32 : P pID 32) (gID_40 : P pID 40) (gID_44 : P pID 44) (gID_52 : P pID 52) (gID_48 : P pID 48) (gID_60 : P pID 60) (gID_56 : P pID 56) (gID_68 : P pID 68) (gOTP_36 : P pOTP 36) (gOTP_32 : P pOTP 32) (gOTP_12 : P pOTP 12) (gHOST_40 : P pHOST 40) (gSYS_12 : P pSYS 12) (gHG_8 : ∀ m, P (pHG m) 8) (gID_64 : P pID 64) (gSUP_12 : P pSUP 12) (gCLK_12 : P pCLK 12) (gBOOT_32 : P pBOOT 32) (gUPD_any : ∀ o, o < 256 → P pUPD o) (gNVD_52 : P pNVD 52) (gDBG_any : ∀ o, o < 256 → P pDBG o) (gAON_44 : P pAON 44) (gCC_16 : ∀ m, P (pCC m) 16) (gCC_12 : ∀ m, P (pCC m) 12) (gPDL_any : ∀ m, ∀ o, o < 256 → P (pPDL m) o) (gVDM_64 : ∀ m, P (pVDM m) 64) (gVDM_16 : ∀ m, P (pVDM m) 16) (gPOL_12 : ∀ m, P (pPOL m) 12) (gPOL_52 : ∀ m, P (pPOL m) 52) (gPOL_16 : ∀ m, P (pPOL m) 16) (gPOL_44 : ∀ m, P (pPOL m) 44) (gGUARD_12 : ∀ m, P (pGUARD m) 12) (gVDM_52 : ∀ m, P (pVDM m) 52) (gSHARE_any : ∀ o, o < 256 → P pSHARE o) (gVDM_96 : ∀ m, P (pVDM m) 96) (gCC_68 : ∀ m, P (pCC m) 68) (gLEARN_68 : P pLEARN 68) (gLEARN_44 : P pLEARN 44) (gLEARN_16 : P pLEARN 16) (gBATID_any : ∀ o, o < 256 → P pBATID o) (gGAUGE_40 : P pGAUGE 40) (gGAUGE_32 : P pGAUGE 32) (gGAUGE_44 : P pGAUGE 44) (gGAUGE_48 : P pGAUGE 48) (gGAUGE_52 : P pGAUGE 52) (gGAUGE_60 : P pGAUGE 60) (gGAUGE_56 : P pGAUGE 56) (gGAUGE_100 : P pGAUGE 100) (gGAUGE_88 : P pGAUGE 88) (gGAUGE_96 : P pGAUGE 96) (gGAUGE_92 : P pGAUGE 92) (gCMPT_12 : P pCMPT 12) (gBOOT_40 : P pBOOT 40) (gSYS_16 : P pSYS 16) (gSYS_40 : P pSYS 40) (gBOOT_36 : P pBOOT 36) (gBOOT_16 : P pBOOT 16) (gBOOT_12 : P pBOOT 12) (gBOOT_44 : P pBOOT 44) (gCC_32 : ∀ m, P (pCC m) 32) (gCC_8 : ∀ m, P (pCC m) 8) : Touches P s (execColdBoot x s) := by
  have hk : Same P s s := Same.refl _ _
  unfold execColdBoot
  extract_lets -merge -underBinder +onlyGivenNames x0 x1
  have hx1 : Same P s x1 := Same.mk' hk
  try clear_value x1
  extract_lets -merge -underBinder +onlyGivenNames x2
  have hx2 : Same P s x2 := State.forPorts_same hx1 (fun _ _ h3 => State.modPort_same _ _ h3)
  try clear_value x2
  refine Touches.ite (fun _ => ?_) (fun _ => ?_)
  · refine Touches.next ?_
    exact hk
  · refine Touches.ite (fun _ => ?_) (fun _ => ?_)
    · refine Touches.next ?_
      exact hx2
    · split
      · refine Touches.next ?_
        exact hx2
      · extract_lets -merge -underBinder +onlyGivenNames x4
        extract_lets -merge -underBinder +onlyGivenNames x5 x6 x7
        have hx7 : Same P s x7 := Same.mk' hx2
        try clear_value x7
        extract_lets -merge -underBinder +onlyGivenNames x8
        have hx8 : Same P s x8 := State.bootIdent_same (State.bootOtp_same (State.bootStraps_same _ _ (State.bootSupply_same _ _ hx7 gSUP_12 gCLK_12) gHOST_40 gSYS_12 (fun m => gHG_8 m) gID_64) gOTP_36 gOTP_32 gOTP_12) gID_32 gID_40 gID_44 gID_52 gID_48 gID_60 gID_56 gID_68
        try clear_value x8
        extract_lets -merge -underBinder +onlyGivenNames x9
        have hx9 : Same P s x9 := State.bootShow_same (State.bootErase_same hx8 gBOOT_32 (fun o ho => gUPD_any o ho) gNVD_52 (fun o ho => gDBG_any o ho)) gBOOT_32 (gUPD_any _ (by decide))
        try clear_value x9
        extract_lets -merge -underBinder +onlyGivenNames x10
        have hx10 : Same P s x10 := State.putB_same _ _ _ hx9 (gUPD_any _ (by decide))
        try clear_value x10
        extract_lets -merge -underBinder +onlyGivenNames x11
        have hx11 : Same P s x11 := by
          unfold x11
          split
          · exact State.wr_same _ _ _ hx10 gAON_44
          · exact hx10
        try clear_value x11
        extract_lets -merge -underBinder +onlyGivenNames x12
        have hx12 : Same P s x12 := State.forPorts_same hx11 (fun _ _ h13 => State.ccJudge_same _ (State.ccResume_same _ h13 (gCC_16 _) (gCC_12 _) (fun o ho => gPDL_any _ o ho) (gVDM_64 _) (gVDM_16 _) (gPOL_12 _) (gPOL_52 _) (gPOL_16 _) (gPOL_44 _) (gGUARD_12 _) (gVDM_52 _) (fun o ho => gSHARE_any o ho) (gVDM_96 _)) (gCC_16 _) (gCC_12 _) (fun o ho => gPDL_any _ o ho) (gVDM_64 _) (gVDM_16 _) (gPOL_12 _) (gPOL_52 _) (gPOL_16 _) (gPOL_44 _) (gGUARD_12 _) (gVDM_52 _) (fun o ho => gSHARE_any o ho) (gVDM_96 _) (gCC_68 _))
        try clear_value x12
        extract_lets -merge -underBinder +onlyGivenNames x14
        have hx14 : Same P s x14 := State.gaugeCold_same (State.cmptRestart_same hx12 gCMPT_12) gLEARN_68 gLEARN_44 gLEARN_16 (fun o ho => gBATID_any o ho) gGAUGE_40 gGAUGE_32 gGAUGE_44 gGAUGE_48 gGAUGE_52 gGAUGE_60 gGAUGE_56 gGAUGE_100 gGAUGE_88 gGAUGE_96 gGAUGE_92
        try clear_value x14
        refine Touches.next ?_
        exact State.resetEnd_same _ (State.chooseStart_same _ hx14 gBOOT_32 gBOOT_36 (gUPD_any _ (by decide)) gNVD_52 gBOOT_16 gBOOT_12 (fun m => gGUARD_12 m) gBOOT_44 gGAUGE_40 gGAUGE_32 gGAUGE_44 gGAUGE_48 gGAUGE_52 gGAUGE_60 gGAUGE_56 gGAUGE_100 gGAUGE_88 gGAUGE_96 gLEARN_44 gGAUGE_92 (gBATID_any _ (by decide)) (fun m => gCC_16 m) (fun m => gCC_32 m) (fun m => gCC_8 m)) gBOOT_40 gSYS_16 gSYS_40

theorem execPortResetVbusLow_touches (n : Port) (mv : ℕ) (gCC_16 : P (pCC n) 16) (gCC_12 : P (pCC n) 12) (gPDL_any : ∀ o, o < 256 → P (pPDL n) o) (gVDM_64 : P (pVDM n) 64) (gVDM_16 : P (pVDM n) 16) (gPOL_12 : P (pPOL n) 12) (gPOL_52 : P (pPOL n) 52) (gPOL_16 : P (pPOL n) 16) (gPOL_44 : P (pPOL n) 44) (gGUARD_12 : P (pGUARD n) 12) (gVDM_52 : P (pVDM n) 52) (gSHARE_any : ∀ o, o < 256 → P pSHARE o) (gVDM_96 : P (pVDM n) 96) : Touches P s (execPortResetVbusLow n mv s) := by
  have hk : Same P s s := Same.refl _ _
  unfold execPortResetVbusLow
  extract_lets -merge -underBinder +onlyGivenNames x0
  have hx0 : Same P s x0 := State.setVbus_same _ _ hk
  try clear_value x0
  refine Touches.next ?_
  exact Same.ite (fun _ => State.ccResume_same _ (State.modCc_same _ _ hx0) gCC_16 gCC_12 (fun o ho => gPDL_any o ho) gVDM_64 gVDM_16 gPOL_12 gPOL_52 gPOL_16 gPOL_44 gGUARD_12 gVDM_52 (fun o ho => gSHARE_any o ho) gVDM_96) (fun _ => hx0)

theorem execDispatchPoint_touches (testOk : Bool) (gCLK_40 : P pCLK 40) (gPLCR_any : ∀ o, o < 256 → P pPLCR o) (gENG_16 : ∀ m, P (pENG m) 16) (gENG_48 : ∀ m, P (pENG m) 48) (gENG_32 : ∀ m, P (pENG m) 32) (gSTORE_16 : P pSTORE 16) (gSTORE_40 : P pSTORE 40) (gSTORE_44 : P pSTORE 44) (gBANK_any : ∀ o, o < 256 → P pBANK o) (gSTORE_48 : P pSTORE 48) (gSTORE_12 : P pSTORE 12) (gENG_36 : ∀ m, P (pENG m) 36) : Touches P s (execDispatchPoint testOk s) := by
  have hk : Same P s s := Same.refl _ _
  unfold execDispatchPoint
  refine Touches.next ?_
  extract_lets -merge -underBinder +onlyGivenNames x0
  have hx0 : Same P s x0 := Same.ite (fun _ => State.put_same _ _ _ hk gCLK_40) (fun _ => hk)
  try clear_value x0
  exact Same.ite (fun _ => State.dispatch_same _ _ hx0 (fun o ho => gPLCR_any o ho) (fun m => gENG_16 m) (fun m => gENG_48 m) (fun m => gENG_32 m) gSTORE_16 gSTORE_40 gSTORE_44 (fun o ho => gBANK_any o ho) gSTORE_48 gSTORE_12 (fun m => gENG_36 m)) (fun _ => hx0)

theorem execRefLoss_touches (gCLK_16 : P pCLK 16) (gCLK_12 : P pCLK 12) : Touches P s (execRefLoss s) := by
  have hk : Same P s s := Same.refl _ _
  unfold execRefLoss
  refine Touches.next ?_
  exact Same.ite (fun _ => State.raise_same _ _ (State.put_same _ _ _ (State.put_same _ _ _ hk gCLK_12) gCLK_12) gCLK_16) (fun _ => hk)

theorem execRefLossTimeout_touches (gCLK_12 : P pCLK 12) (gFLEET_16 : P pFLEET 16) (gFLEET_12 : P pFLEET 12) (gCLK_44 : P pCLK 44) : Touches P s (execRefLossTimeout s) := by
  have hk : Same P s s := Same.refl _ _
  unfold execRefLossTimeout
  refine Touches.next ?_
  exact Same.ite (fun _ => State.warmCause_same _ (State.when_same _ (State.put_same _ _ _ hk gCLK_12) (fun _ h0 => State.setAligned_same _ h0 gFLEET_16 gFLEET_12 gCLK_44))) (fun _ => hk)

theorem execRefBack_touches (gCLK_16 : P pCLK 16) (gCLK_12 : P pCLK 12) : Touches P s (execRefBack s) := by
  have hk : Same P s s := Same.refl _ _
  unfold execRefBack
  refine Touches.next ?_
  exact Same.ite (fun _ => State.raise_same _ _ (State.put_same _ _ _ (State.put_same _ _ _ (State.put_same _ _ _ hk gCLK_12) gCLK_12) gCLK_12) gCLK_16) (fun _ => hk)

theorem execOverrun_touches (k : Engine) (gPLCR_16 : P pPLCR 16) (gENG_16 : P (pENG k) 16) (gPLCR_60 : P pPLCR 60) (gPLCR_48 : P pPLCR 48) (gCLK_40 : P pCLK 40) : Touches P s (execOverrun k s) := by
  have hk : Same P s s := Same.refl _ _
  unfold execOverrun
  refine Touches.next ?_
  exact Same.ite (fun _ => State.overrun_same _ (State.put_same _ _ _ hk gCLK_40) gPLCR_16 gENG_16 gPLCR_60 gPLCR_48) (fun _ => hk)

theorem execOverBudget_touches (k : Engine) (gENG_16 : P (pENG k) 16) : Touches P s (execOverBudget k s) := by
  have hk : Same P s s := Same.refl _ _
  unfold execOverBudget
  refine Touches.next ?_
  exact Same.ite (fun _ => State.raise_same _ _ (State.modEng_same _ _ hk) gENG_16) (fun _ => hk)

theorem execTickWdog_touches : Touches P s (execTickWdog s) := by
  have hk : Same P s s := Same.refl _ _
  unfold execTickWdog
  refine Touches.next ?_
  exact Same.ite (fun _ => State.warmCause_same _ hk) (fun _ => hk)

theorem execOverrunStorm_touches : Touches P s (execOverrunStorm s) := by
  have hk : Same P s s := Same.refl _ _
  unfold execOverrunStorm
  refine Touches.next ?_
  exact Same.ite (fun _ => State.warmCause_same _ hk) (fun _ => hk)

theorem execStandbyTakeover_touches (gPLACE_40 : P pPLACE 40) (gFLEET_16 : P pFLEET 16) (gSYS_12 : P pSYS 12) (gHG_52 : ∀ m, P (pHG m) 52) (gHG_48 : ∀ m, P (pHG m) 48) (gFLEET_12 : P pFLEET 12) (gFLEET_36 : P pFLEET 36) (gFLEET_40 : P pFLEET 40) (gFLEET_44 : P pFLEET 44) : Touches P s (execStandbyTakeover s) := by
  have hk : Same P s s := Same.refl _ _
  unfold execStandbyTakeover
  refine Touches.next ?_
  exact Same.ite (fun _ => State.placeTakeover_same (State.takeOver_same hk gFLEET_16 gSYS_12 (fun m => gHG_52 m) (fun m => gHG_48 m) gFLEET_12 gFLEET_36 gFLEET_40 gFLEET_44) gPLACE_40) (fun _ => hk)

end Sys2Proof.Machine
end

