-- ==== Sys2Proof/Laws/Stored.lean ====
section
/-!
SUPPORT. `StSame`: the central store and always-on SRAM are as before but for named bytes; the rules by which it passes through updates, conditionals and loops.
-/

set_option Elab.async false

namespace Sys2Proof.Machine

/-- Bytes that `R` names aside, the central store (byte `a` at `a`) and always-on SRAM (byte `a` at `0x100000 + a`) are as before. -/
def StSame (R : Nat → Prop) (s t : State) : Prop :=
  (∀ a, ¬R a → Sparse.get storeDflt t.store a = Sparse.get storeDflt s.store a) ∧
    ∀ a, ¬R (0x100000 + a) → Sparse.get ramDflt t.aos a = Sparse.get ramDflt s.aos a

/-- The same of an operation that may answer nothing. -/
def StSameO (R : Nat → Prop) (r : State) (o : Option State) : Prop := ∀ t, o = some t → StSame R r t

/-- A command answers a next state that differs from `r` in the bytes of `R` alone. -/
def Stores (R : Nat → Prop) (r : State) (o : Host.Outcome State Fault Refusal) : Prop := ∃ t, o = .next t ∧ StSame R r t

variable {R : Nat → Prop} {s0 s t : State}

theorem StSame.refl (R : Nat → Prop) (s : State) : StSame R s s := ⟨fun _ _ => rfl, fun _ _ => rfl⟩

theorem StSame.trans (h : StSame R s0 s) (g : StSame R s t) : StSame R s0 t := ⟨fun k hk => (g.1 k hk).trans (h.1 k hk), fun k hk => (g.2 k hk).trans (h.2 k hk)⟩

theorem StSame.mk' (h : StSame R s0 s) {pending tick sticky regs inForce snaps shadow rd nvd code iram otp om part pins phase rst boot aon mains dbg gpio plcr st engs ports cmpt share
    links fleet place twin gauge host upd fo no oo fresh} : StSame R s0 (State.mk pending tick sticky regs inForce snaps shadow rd s.store s.aos nvd code iram otp om part pins
      phase rst boot aon mains dbg gpio plcr st engs ports cmpt share links fleet place twin gauge host upd fo no oo fresh) := h

theorem outside {R : Nat → Prop} {a n k : Nat} (g : ∀ x, a ≤ x → x < a + n → R x) (hk : ¬R k) : k < a ∨ a + n ≤ k := by
  by_cases h1 : k < a
  · exact .inl h1
  · by_cases h2 : k < a + n
    · exact absurd (g k (by omega) h2) hk
    · exact .inr (by omega)

theorem State.stWrite_stores (a : Nat) (bs : List Byte) (h : StSame R s0 s) (g : ∀ x, a ≤ x → x < a + bs.length → R x) : StSame R s0 (s.stWrite a bs) := by
  refine ⟨fun k hk => (Sparse.get_setList_out _ _ _ _ _ ?_).trans (h.1 k hk), h.2⟩
  have := outside g hk
  rw [List.length_take]
  omega

theorem State.aosWrite_stores (a : Nat) (bs : List Byte) (h : StSame R s0 s) (g : ∀ x, 0x100000 + a ≤ x → x < 0x100000 + a + bs.length → R x) :
    StSame R s0 (s.aosWrite a bs) :=
  ⟨h.1, fun k hk => (Sparse.get_setList_out _ _ _ _ _ (by have := outside g hk; omega)).trans (h.2 k hk)⟩

@[simp] theorem length_leBytes (n v : Nat) : (leBytes n v).length = n := by
  induction n generalizing v with
  | zero => rfl
  | succ n ih => simp [leBytes, ih]

@[simp] theorem length_padTo (n : Nat) (bs : List Byte) : (padTo n bs).length = n := by simp [padTo]; omega

@[simp] theorem length_rxEntry (f : RxF) : (rxEntry f).length = 510 := by
  simp only [rxEntry, List.length_append, length_padTo, length_leBytes, List.length_replicate]

@[simp] theorem Desc.length_bytes (d : Desc) : d.bytes.length = 20 := by simp only [Desc.bytes, List.length_append, length_leBytes]

theorem length_stRead (s : State) (a n : Nat) : (s.stRead a n).length = n := by
  unfold State.stRead
  induction n generalizing a with
  | zero => rfl
  | succ n ih => simp [Sparse.getList, ih]

theorem length_rxPayload (s : State) (i : Nat) : (s.rxPayload i).length ≤ 256 := by
  unfold State.rxPayload; rw [length_stRead]; exact Nat.min_le_left _ _

/-- A field is below two to its width. -/
theorem State.fld_lt (s : State) (pg : Nat) (f : Fld) : s.fld pg f < 2 ^ f.w := by
  unfold State.fld bitsOf; exact Nat.mod_lt _ (by positivity)

theorem length_gaugeBytes (s : State) : s.gaugeBytes.length = 62 := by simp only [State.gaugeBytes, List.length_append, length_leBytes]

theorem State.maskRegs_stores (keep : Nat → Nat) (drop : Nat → Bool) (h : StSame R s0 s) : StSame R s0 (s.maskRegs keep drop) := h

theorem State.stPut_stores (a n v : Nat) (h : StSame R s0 s) (g : ∀ x, a ≤ x → x < a + n → R x) : StSame R s0 (s.stPut a n v) :=
  State.stWrite_stores _ _ h (by simpa using g)

theorem State.stRecord_stores (a : Nat) (body : List Byte) (h : StSame R s0 s) (g : ∀ x, a ≤ x → x < a + (body.length + 2) → R x) :
    StSame R s0 (s.stRecord a body) := State.stWrite_stores _ _ h (by simpa using g)

theorem State.aosPut_stores (a n v : Nat) (h : StSame R s0 s) (g : ∀ x, 0x100000 + a ≤ x → x < 0x100000 + a + n → R x) : StSame R s0 (s.aosPut a n v) :=
  State.aosWrite_stores _ _ h (by simpa using g)

theorem State.stZero_stores (a n : Nat) (h : StSame R s0 s) (g : ∀ x, a ≤ x → x < a + n → R x) : StSame R s0 (s.stZero a n) := by
  refine ⟨fun k hk => Eq.trans ?_ (h.1 k hk), h.2⟩
  exact Sparse.get_filter storeDflt s.store (fun c => !(decide (a ≤ c) && decide (c < a + n))) k (by
    have := outside g hk
    simp only [Bool.not_eq_true', Bool.and_eq_false_iff, decide_eq_false_iff_not]; omega)

theorem StSame.aosFilter (h : StSame R s0 s) {b : Nat} (g : ∀ x, 0x100000 + b ≤ x → R x) :
    StSame R s0 { s with aos := s.aos.filter fun c => decide (c.1 < b) } := by
  refine ⟨h.1, fun k hk => Eq.trans ?_ (h.2 k hk)⟩
  exact Sparse.get_filter ramDflt s.aos (fun c => decide (c < b)) k (by
    by_contra hc
    exact hk (g _ (by simp only [decide_eq_true_eq] at hc; omega)))

theorem State.recPut_stores (a w v : Nat) (h : StSame R s0 s) (gsREC : ∀ x, 0x60000 ≤ x → x < 0x64200 → R x)
    (ha : 0x60000 ≤ a ∧ a + 32 ≤ 0x64200 := by first | assumption | (simp +zetaDelta only [recAt, poolAt]; omega)) (hw : w ≤ 7 := by omega) :
    StSame R s0 (s.recPut a w v) :=
  (State.stPut_stores _ _ _ (State.stPut_stores _ _ _ h fun x h1 h2 => gsREC x (by omega) (by omega)) fun x h1 h2 => gsREC x (by omega) (by omega)).mk'

theorem State.recSet_stores (a w lo n v : Nat) (h : StSame R s0 s) (gsREC : ∀ x, 0x60000 ≤ x → x < 0x64200 → R x)
    (ha : 0x60000 ≤ a ∧ a + 32 ≤ 0x64200 := by first | assumption | (simp +zetaDelta only [recAt, poolAt]; omega)) (hw : w ≤ 7 := by omega) :
    StSame R s0 (s.recSet a w lo n v) := State.recPut_stores _ _ _ h gsREC ha hw

theorem State.mapPut_stores (a i : Nat) (b : Bool) (h : StSame R s0 s) (gsUPD : ∀ x, 0xDB000 ≤ x → x < 0xE0000 → R x)
    (ha : 0xDB000 ≤ a ∧ a + 0x4000 ≤ 0xE0000 := by decide) : StSame R s0 (s.mapPut a i b) :=
  State.stPut_stores _ _ _ h fun x h1 h2 => gsUPD x (by omega) (by omega)

theorem State.modEng_stores (k : Engine) (f : EngSt → EngSt) (h : StSame R s0 s) : StSame R s0 (s.modEng k f) := h

theorem Stores.next (h : StSame R s0 s) : Stores R s0 (.next s) := ⟨s, rfl, h⟩

theorem StSame.ite {c : Prop} [Decidable c] {a b : State} (ha : c → StSame R s0 a) (hb : ¬c → StSame R s0 b) : StSame R s0 (if c then a else b) := by
  split
  · exact ha ‹_›
  · exact hb ‹_›

theorem StSame.dite {c : Prop} [Decidable c] {a : c → State} {b : ¬c → State} (ha : ∀ x, StSame R s0 (a x)) (hb : ∀ x, StSame R s0 (b x)) :
    StSame R s0 (if x : c then a x else b x) := by
  split
  · exact ha ‹_›
  · exact hb ‹_›

theorem StSame.iteFst {α : Type} {c : Prop} [Decidable c] {a b : State × α} (ha : c → StSame R s0 a.1) (hb : ¬c → StSame R s0 b.1) :
    StSame R s0 (if c then a else b).1 := by
  split
  · exact ha ‹_›
  · exact hb ‹_›

theorem StSame.iteSnd {α : Type} {c : Prop} [Decidable c] {a b : α × State} (ha : c → StSame R s0 a.2) (hb : ¬c → StSame R s0 b.2) :
    StSame R s0 (if c then a else b).2 := by
  split
  · exact ha ‹_›
  · exact hb ‹_›

theorem StSame.mkFst {α : Type} {a : α} (h : StSame R s0 s) : StSame R s0 (s, a).1 := h

theorem StSame.mkSnd {α : Type} {a : α} (h : StSame R s0 s) : StSame R s0 (a, s).2 := h

theorem StSame.ofEq {α : Type} {p q : State × α} (e : p = q) (h : StSame R s0 q.1) : StSame R s0 p.1 := e ▸ h

theorem StSame.fst {α : Type} {p : State × α} {a : α} (e : p = (s, a)) (h : StSame R s0 p.1) : StSame R s0 s := by
  rw [e] at h; exact h

theorem StSame.snd {α : Type} {p : α × State} {a : α} (e : p = (a, s)) (h : StSame R s0 p.2) : StSame R s0 s := by
  rw [e] at h; exact h

theorem StSameO.none : StSameO R s0 none := fun _ e => nomatch e

theorem StSameO.some (h : StSame R s0 s) : StSameO R s0 (some s) := fun _ e => Option.some.inj e ▸ h

theorem StSameO.get {o : Option State} (h : StSameO R s0 o) (e : o = Option.some s) : StSame R s0 s := h s e

theorem StSameO.ite {c : Prop} [Decidable c] {a b : Option State} (ha : c → StSameO R s0 a) (hb : ¬c → StSameO R s0 b) :
    StSameO R s0 (if c then a else b) := by
  split
  · exact ha ‹_›
  · exact hb ‹_›

theorem Stores.ite {c : Prop} [Decidable c] {a b : Host.Outcome State Fault Refusal} (ha : c → Stores R s0 a) (hb : ¬c → Stores R s0 b) :
    Stores R s0 (if c then a else b) := by
  split
  · exact ha ‹_›
  · exact hb ‹_›

theorem State.when_stores (b : Bool) {f : State → State} (h : StSame R s0 s) (hf : ∀ s, StSame R s0 s → StSame R s0 (f s)) : StSame R s0 (s.when b f) := by
  unfold State.when; split
  · exact hf s h
  · exact h

theorem foldl_stores {α : Type} {f : State → α → State} (l : List α) (h : StSame R s0 s) (hf : ∀ s x, x ∈ l → StSame R s0 s → StSame R s0 (f s x)) :
    StSame R s0 (l.foldl f s) := by
  induction l generalizing s with
  | nil => exact h
  | cons a l ih => exact ih (hf s a List.mem_cons_self h) fun s x m => hf s x (List.mem_cons_of_mem _ m)

theorem State.forPorts_stores {f : State → Port → State} (h : StSame R s0 s) (hf : ∀ s x, StSame R s0 s → StSame R s0 (f s x)) :
    StSame R s0 (s.forPorts f) := foldl_stores _ h fun s x _ => hf s x

theorem State.forEngines_stores {f : State → Engine → State} (h : StSame R s0 s) (hf : ∀ s x, StSame R s0 s → StSame R s0 (f s x)) :
    StSame R s0 (s.forEngines f) := foldl_stores _ h fun s x _ => hf s x

theorem StSameO.or {a b : Option State} (ha : StSameO R s0 a) (hb : StSameO R s0 b) : StSameO R s0 (a.or b) := by
  cases a with
  | none => exact hb
  | some t => exact ha


end Sys2Proof.Machine
end

