-- ==== Sys2Proof/Laws/StoredStores.lean ====
section
/-!
SUPPORT. `StSame` over the operations of the central store and its tasks, flash, OTP, events: one lemma per operation.
-/

set_option Elab.async false

namespace Sys2Proof.Machine

variable {R : Nat → Prop} {s0 s : State}

theorem State.wr_stores (pg : ℕ) (off : ℕ) (v : Word) (hk : StSame R s0 s) : StSame R s0 (State.wr s pg off v) := by
  unfold State.wr
  exact StSame.mk' hk

theorem State.put_stores (pg : ℕ) (f : Fld) (v : ℕ) (hk : StSame R s0 s) : StSame R s0 (State.put s pg f v) := by
  unfold State.put
  exact State.wr_stores _ _ _ hk

theorem State.putB_stores (pg : ℕ) (f : Fld) (b : Bool) (hk : StSame R s0 s) : StSame R s0 (State.putB s pg f b) := by
  unfold State.putB
  exact State.put_stores _ _ _ hk

theorem State.bump_stores (pg : ℕ) (f : Fld) (n : ℕ) (hk : StSame R s0 s) : StSame R s0 (State.bump s pg f n) := by
  unfold State.bump
  exact State.put_stores _ _ _ hk

theorem State.incr_stores (pg : ℕ) (f : Fld) (hk : StSame R s0 s) : StSame R s0 (State.incr s pg f) := by
  unfold State.incr
  exact State.put_stores _ _ _ hk

theorem State.putInf_stores (pg : ℕ) (f : Fld) (v : ℕ) (hk : StSame R s0 s) : StSame R s0 (State.putInf s pg f v) := by
  unfold State.putInf
  extract_lets -merge -underBinder +onlyGivenNames x0 x1
  exact StSame.mk' hk

theorem State.freshen_stores (hk : StSame R s0 s) : StSame R s0 (State.freshen s) := by
  unfold State.freshen
  exact StSame.mk' hk

theorem State.raiseBits_stores (pg : ℕ) (m : ℕ) (hk : StSame R s0 s) : StSame R s0 (State.raiseBits s pg m) := by
  unfold State.raiseBits
  extract_lets -merge -underBinder +onlyGivenNames x0 x1
  exact State.wr_stores _ _ _ hk

theorem State.raise_stores (pg : ℕ) (f : Fld) (hk : StSame R s0 s) : StSame R s0 (State.raise s pg f) := by
  unfold State.raise
  exact State.raiseBits_stores _ _ hk

theorem State.raiseIf_stores (b : Bool) (pg : ℕ) (f : Fld) (hk : StSame R s0 s) : StSame R s0 (State.raiseIf s b pg f) := by
  unfold State.raiseIf
  exact StSame.ite (fun _ => State.raise_stores _ _ hk) (fun _ => hk)

theorem State.lockedWrite_stores (pg : ℕ) (hk : StSame R s0 s) : StSame R s0 (State.lockedWrite s pg) := by
  unfold State.lockedWrite
  exact State.raise_stores _ _ hk

theorem State.setTick_stores (t : ℕ) (hk : StSame R s0 s) : StSame R s0 (State.setTick s t) := by
  unfold State.setTick
  exact StSame.mk' hk

theorem State.stickySet_stores (v : ℕ) (hk : StSame R s0 s) : StSame R s0 (State.stickySet s v) := by
  unfold State.stickySet
  exact StSame.mk' hk

theorem State.modPort_stores (n : Port) (f : PortSt → PortSt) (hk : StSame R s0 s) : StSame R s0 (State.modPort s n f) := by
  unfold State.modPort
  exact StSame.mk' hk

theorem State.keyed_stores (pg : ℕ) (key : ℕ) (want : ℕ) {f : State → State} (hk : StSame R s0 s) (hf : ∀ a0, StSame R s0 a0 → StSame R s0 (f a0)) : StSame R s0 (State.keyed s pg key want f) := by
  unfold State.keyed
  refine StSame.ite (fun _ => ?_) (fun _ => ?_)
  · refine hf _ ?_
    exact hk
  · exact State.lockedWrite_stores _ hk

theorem State.cmd_stores (pg : ℕ) {f : State → State} (hk : StSame R s0 s) (hf : ∀ a0, StSame R s0 a0 → StSame R s0 (f a0)) : StSame R s0 (State.cmd s pg f) := by
  unfold State.cmd
  refine StSame.ite (fun _ => ?_) (fun _ => ?_)
  · refine hf _ ?_
    exact hk
  · exact hk

theorem State.keyCmd_stores (pg : ℕ) (key : ℕ) (want : ℕ) {f : State → State} (hk : StSame R s0 s) (hf : ∀ a0, StSame R s0 a0 → StSame R s0 (f a0)) : StSame R s0 (State.keyCmd s pg key want f) := by
  unfold State.keyCmd
  refine State.cmd_stores _ ?_ ?_
  · exact hk
  · intro s0_0 hs0_1
    refine State.keyed_stores _ _ _ ?_ ?_
    · exact hs0_1
    · intro s1_0 hs1_1
      refine hf _ ?_
      exact hs1_1

theorem State.setSpare_stores (j : ℕ) (seg : ℕ) (hk : StSame R s0 s) : StSame R s0 (State.setSpare s j seg) := by
  unfold State.setSpare
  exact State.put_stores _ _ _ hk

theorem State.bankRetire_stores (b : ℕ) (hk : StSame R s0 s) : StSame R s0 (State.bankRetire s b) := by
  unfold State.bankRetire
  extract_lets -merge -underBinder +onlyGivenNames x0
  have hx0 : StSame R s0 x0 := State.put_stores _ _ _ hk
  try clear_value x0
  extract_lets -merge -underBinder +onlyGivenNames x1
  have hx1 : StSame R s0 x1 := State.put_stores _ _ _ (State.incr_stores _ _ hx0)
  try clear_value x1
  extract_lets -merge -underBinder +onlyGivenNames x2
  have hx2 : StSame R s0 x2 := State.put_stores _ _ _ hx1
  try clear_value x2
  exact StSame.mk' hx2

theorem State.bankFaulty_stores (b : ℕ) (hk : StSame R s0 s) : StSame R s0 (State.bankFaulty s b) := by
  unfold State.bankFaulty
  extract_lets -merge -underBinder +onlyGivenNames x0
  have hx0 : StSame R s0 x0 := State.raise_stores _ _ (State.put_stores _ _ _ hk)
  try clear_value x0
  exact StSame.ite (fun _ => hk) (fun _ => StSame.ite (fun _ => hx0) (fun _ => StSame.ite (fun _ => State.raise_stores _ _ (State.put_stores _ _ _ hx0)) (fun _ => StSame.ite (fun _ => hx0) (fun _ => State.bankRetire_stores _ hx0))))

theorem State.watchAdd_stores (w : ℕ) (hk : StSame R s0 s) : StSame R s0 (State.watchAdd s w) := by
  unfold State.watchAdd
  extract_lets -merge -underBinder +onlyGivenNames x0 x1 x2 x3
  have hx3 : StSame R s0 x3 := StSame.mk' hk
  try clear_value x3
  extract_lets -merge -underBinder +onlyGivenNames x4
  have hx4 : StSame R s0 x4 := State.bump_stores _ _ _ (State.raiseIf_stores _ _ _ hx3)
  try clear_value x4
  exact State.put_stores _ _ _ hx4

theorem State.storeParity_stores (req : ℕ) (w : ℕ) (hk : StSame R s0 s) : StSame R s0 (State.storeParity s req w) := by
  unfold State.storeParity
  extract_lets -merge -underBinder +onlyGivenNames x0
  have hx0 : StSame R s0 x0 := State.raise_stores _ _ hk
  try clear_value x0
  extract_lets -merge -underBinder +onlyGivenNames x1
  have hx1 : StSame R s0 x1 := State.bump_stores _ _ _ hx0
  try clear_value x1
  extract_lets -merge -underBinder +onlyGivenNames x2
  have hx2 : StSame R s0 x2 := State.put_stores _ _ _ (State.put_stores _ _ _ hx1)
  try clear_value x2
  extract_lets -merge -underBinder +onlyGivenNames x3
  have hx3 : StSame R s0 x3 := State.bump_stores _ _ _ hx2
  try clear_value x3
  split
  · exact State.watchAdd_stores _ hx3
  · exact StSame.ite (fun _ => State.watchAdd_stores _ (StSame.mk' hx3)) (fun _ => StSame.ite (fun _ => State.bankFaulty_stores _ hx3) (fun _ => hx3))

theorem State.stNote_stores (req : ℕ) (a : ℕ) (n : ℕ) (hk : StSame R s0 s) : StSame R s0 (State.stNote s req a n) := by
  unfold State.stNote
  extract_lets -merge -underBinder +onlyGivenNames x0
  exact foldl_stores _ hk (fun _ _ _ h1 => State.storeParity_stores _ _ h1)

theorem State.stSpoil_stores (b : ℕ) (hk : StSame R s0 s) : StSame R s0 (State.stSpoil s b) := by
  unfold State.stSpoil
  exact StSame.ite (fun _ => hk) (fun _ => StSame.mk' hk)

theorem State.segMove_stores (c : ℕ × ℕ) (hk : StSame R s0 s) : StSame R s0 (State.segMove s c) := by
  unfold State.segMove
  split
  · exact hk
  · extract_lets -merge -underBinder +onlyGivenNames x0
    have hx0 : StSame R s0 x0 := StSame.ite (fun _ => State.setSpare_stores _ _ hk) (fun _ => hk)
    try clear_value x0
    exact State.setSpare_stores _ _ hx0

theorem State.migrate_stores (b : ℕ) (hk : StSame R s0 s) : StSame R s0 (State.migrate s b) := by
  unfold State.migrate
  extract_lets -merge -underBinder +onlyGivenNames x0
  have hx0 : StSame R s0 x0 := foldl_stores _ hk (fun _ _ _ h1 => State.segMove_stores _ h1)
  try clear_value x0
  extract_lets -merge -underBinder +onlyGivenNames x2
  have hx2 : StSame R s0 x2 := State.raise_stores _ _ (State.put_stores _ _ _ hx0)
  try clear_value x2
  extract_lets -merge -underBinder +onlyGivenNames x3
  have hx3 : StSame R s0 x3 := State.put_stores _ _ _ hx2
  try clear_value x3
  exact StSame.mk' hx3

theorem State.bankCmd_stores (b : ℕ) (hk : StSame R s0 s) : StSame R s0 (State.bankCmd s b) := by
  unfold State.bankCmd
  exact StSame.ite (fun _ => State.put_stores _ _ _ hk) (fun _ => StSame.ite (fun _ => State.put_stores _ _ _ hk) (fun _ => StSame.ite (fun _ => State.put_stores _ _ _ hk) (fun _ => State.put_stores _ _ _ (State.bankRetire_stores _ hk))))

theorem State.setDescState_stores (slot : ℕ) (code : ℕ) (hk : StSame R s0 s) (gDESC : ∀ x, 0xC0000 ≤ x → x < 0xD0000 → R x) : StSame R s0 (State.setDescState s slot code) := by
  unfold State.setDescState
  exact State.stPut_stores _ _ _ hk (fun x h1 h2 => gDESC x (by (try simp +zetaDelta only [length_leBytes, List.length_append, List.length_replicate, List.length_take, List.length_drop, List.length_cons, List.length_nil, length_padTo, length_rxEntry, Desc.length_bytes, length_stRead, length_gaugeBytes, txAt, rxBufAt, txBufAt, rxRecAt, descAt, snapAt, recAt, rxfAt, txfAt, maskAt, marksAt, -List.reduceReplicate] at h1 h2); omega) (by (try simp +zetaDelta only [length_leBytes, List.length_append, List.length_replicate, List.length_take, List.length_drop, List.length_cons, List.length_nil, length_padTo, length_rxEntry, Desc.length_bytes, length_stRead, length_gaugeBytes, txAt, rxBufAt, txBufAt, rxRecAt, descAt, snapAt, recAt, rxfAt, txfAt, maskAt, marksAt, -List.reduceReplicate] at h1 h2); omega))

theorem State.setDescBit_stores (slot : ℕ) (bit : ℕ) (b : Bool) (hk : StSame R s0 s) (gDESC : ∀ x, 0xC0000 ≤ x → x < 0xD0000 → R x) : StSame R s0 (State.setDescBit s slot bit b) := by
  unfold State.setDescBit
  exact State.stPut_stores _ _ _ hk (fun x h1 h2 => gDESC x (by (try simp +zetaDelta only [length_leBytes, List.length_append, List.length_replicate, List.length_take, List.length_drop, List.length_cons, List.length_nil, length_padTo, length_rxEntry, Desc.length_bytes, length_stRead, length_gaugeBytes, txAt, rxBufAt, txBufAt, rxRecAt, descAt, snapAt, recAt, rxfAt, txfAt, maskAt, marksAt, -List.reduceReplicate] at h1 h2); omega) (by (try simp +zetaDelta only [length_leBytes, List.length_append, List.length_replicate, List.length_take, List.length_drop, List.length_cons, List.length_nil, length_padTo, length_rxEntry, Desc.length_bytes, length_stRead, length_gaugeBytes, txAt, rxBufAt, txBufAt, rxRecAt, descAt, snapAt, recAt, rxfAt, txfAt, maskAt, marksAt, -List.reduceReplicate] at h1 h2); omega))

theorem State.post_stores (slot : ℕ) (d : Desc) (hk : StSame R s0 s) (gDESC : ∀ x, 0xC0000 ≤ x → x < 0xD0000 → R x) : StSame R s0 (State.post s slot d) := by
  unfold State.post
  extract_lets -merge -underBinder +onlyGivenNames x0 x1
  have hx1 : StSame R s0 x1 := State.stPut_stores _ _ _ (State.stWrite_stores _ _ hk (fun x h1 h2 => gDESC x (by (try simp +zetaDelta only [length_leBytes, List.length_append, List.length_replicate, List.length_take, List.length_drop, List.length_cons, List.length_nil, length_padTo, length_rxEntry, Desc.length_bytes, length_stRead, length_gaugeBytes, txAt, rxBufAt, txBufAt, rxRecAt, descAt, snapAt, recAt, rxfAt, txfAt, maskAt, marksAt, -List.reduceReplicate] at h1 h2); omega) (by (try simp +zetaDelta only [length_leBytes, List.length_append, List.length_replicate, List.length_take, List.length_drop, List.length_cons, List.length_nil, length_padTo, length_rxEntry, Desc.length_bytes, length_stRead, length_gaugeBytes, txAt, rxBufAt, txBufAt, rxRecAt, descAt, snapAt, recAt, rxfAt, txfAt, maskAt, marksAt, -List.reduceReplicate] at h1 h2); omega))) (fun x h1 h2 => gDESC x (by (try simp +zetaDelta only [length_leBytes, List.length_append, List.length_replicate, List.length_take, List.length_drop, List.length_cons, List.length_nil, length_padTo, length_rxEntry, Desc.length_bytes, length_stRead, length_gaugeBytes, txAt, rxBufAt, txBufAt, rxRecAt, descAt, snapAt, recAt, rxfAt, txfAt, maskAt, marksAt, -List.reduceReplicate] at h1 h2); omega) (by (try simp +zetaDelta only [length_leBytes, List.length_append, List.length_replicate, List.length_take, List.length_drop, List.length_cons, List.length_nil, length_padTo, length_rxEntry, Desc.length_bytes, length_stRead, length_gaugeBytes, txAt, rxBufAt, txBufAt, rxRecAt, descAt, snapAt, recAt, rxfAt, txfAt, maskAt, marksAt, -List.reduceReplicate] at h1 h2); omega))
  try clear_value x1
  exact StSame.mk' hx1

theorem State.postTask_stores (slot : ℕ) (cls : ℕ) (port : Port) (valid : Bool) (flash : Bool) (task : ℕ) (arg : ℕ) (affinity : ℕ) (hk : StSame R s0 s) (gDESC : ∀ x, 0xC0000 ≤ x → x < 0xD0000 → R x) : StSame R s0 (State.postTask s slot cls port valid flash task arg affinity) := by
  unfold State.postTask
  exact StSame.ite (fun _ => hk) (fun _ => State.post_stores _ _ hk gDESC)

theorem State.postGlobal_stores (slot : ℕ) (cls : ℕ) (flash : Bool) (task : ℕ) (arg : ℕ) (hk : StSame R s0 s) (gDESC : ∀ x, 0xC0000 ≤ x → x < 0xD0000 → R x) : StSame R s0 (State.postGlobal s slot cls flash task arg) := by
  unfold State.postGlobal
  exact State.postTask_stores _ _ _ _ _ _ _ _ hk gDESC

theorem State.postPort_stores (slot : ℕ) (cls : ℕ) (n : Port) (task : ℕ) (arg : ℕ) (hk : StSame R s0 s) (gDESC : ∀ x, 0xC0000 ≤ x → x < 0xD0000 → R x) : StSame R s0 (State.postPort s slot cls n task arg) := by
  unfold State.postPort
  exact State.postTask_stores _ _ _ _ _ _ _ _ hk gDESC

theorem State.postKept_stores (slot : ℕ) (cls : ℕ) (n : Port) (task : ℕ) (arg : ℕ) (hk : StSame R s0 s) (gDESC : ∀ x, 0xC0000 ≤ x → x < 0xD0000 → R x) : StSame R s0 (State.postKept s slot cls n task arg) := by
  unfold State.postKept
  exact State.postTask_stores _ _ _ _ _ _ _ _ hk gDESC

theorem State.enqueue_stores (slot : ℕ) (dl : Word) (head : Bool) (hk : StSame R s0 s) (gDESC : ∀ x, 0xC0000 ≤ x → x < 0xD0000 → R x) : StSame R s0 (State.enqueue s slot dl head) := by
  unfold State.enqueue
  extract_lets -merge -underBinder +onlyGivenNames x0 x1
  exact State.setDescState_stores _ _ (StSame.mk' hk) gDESC

theorem State.dequeue_stores (slot : ℕ) (hk : StSame R s0 s) : StSame R s0 (State.dequeue s slot) := by
  unfold State.dequeue
  exact StSame.mk' hk

theorem State.postVisible_stores (slot : ℕ) (hk : StSame R s0 s) (gDESC : ∀ x, 0xC0000 ≤ x → x < 0xD0000 → R x) : StSame R s0 (State.postVisible s slot) := by
  unfold State.postVisible
  extract_lets -merge -underBinder +onlyGivenNames x0
  exact StSame.ite (fun _ => State.setDescBit_stores _ _ _ hk gDESC) (fun _ => State.enqueue_stores _ _ _ hk gDESC)

theorem State.wakeWaiting_stores (hk : StSame R s0 s) (gDESC : ∀ x, 0xC0000 ≤ x → x < 0xD0000 → R x) : StSame R s0 (State.wakeWaiting s) := by
  unfold State.wakeWaiting
  refine foldl_stores _ ?_ ?_
  · exact hk
  · intro s0_0 s0_1 hm hs0_1
    extract_lets -merge -underBinder +onlyGivenNames x1
    exact StSame.ite (fun _ => State.setDescState_stores _ _ hs0_1 gDESC) (fun _ => hs0_1)

theorem State.engFree_stores (k : Engine) (hk : StSame R s0 s) : StSame R s0 (State.engFree s k) := by
  unfold State.engFree
  exact State.put_stores _ _ _ (State.modEng_stores _ _ hk)

theorem State.genDiscard_stores (slot : ℕ) (hk : StSame R s0 s) (gDESC : ∀ x, 0xC0000 ≤ x → x < 0xD0000 → R x) : StSame R s0 (State.genDiscard s slot) := by
  unfold State.genDiscard
  exact State.raise_stores _ _ (State.bump_stores _ _ _ (State.setDescBit_stores _ _ _ (State.setDescState_stores _ _ (State.dequeue_stores _ hk) gDESC) gDESC))

theorem State.descLost_stores (slot : ℕ) (again : Bool) (hk : StSame R s0 s) (gDESC : ∀ x, 0xC0000 ≤ x → x < 0xD0000 → R x) : StSame R s0 (State.descLost s slot again) := by
  unfold State.descLost
  extract_lets -merge -underBinder +onlyGivenNames x0
  have hx0 : StSame R s0 x0 := State.raise_stores _ _ (State.bump_stores _ _ _ (State.setDescBit_stores _ _ _ (State.setDescState_stores _ _ (State.dequeue_stores _ hk) gDESC) gDESC))
  try clear_value x0
  exact StSame.ite (fun _ => StSame.mk' hx0) (fun _ => hx0)

theorem State.taskStart_stores (k : Engine) (e : QEnt) (hk : StSame R s0 s) (gDESC : ∀ x, 0xC0000 ≤ x → x < 0xD0000 → R x) : StSame R s0 (State.taskStart s k e) := by
  unfold State.taskStart
  extract_lets -merge -underBinder +onlyGivenNames x0 x1 x2 x3 x4
  have hx4 : StSame R s0 x4 := StSame.ite (fun _ => State.put_stores _ _ _ (State.bump_stores _ _ _ (State.raise_stores _ _ hk))) (fun _ => hk)
  try clear_value x4
  extract_lets -merge -underBinder +onlyGivenNames x5 x6 x7 x8
  have hx8 : StSame R s0 x8 := State.setDescState_stores _ _ (State.dequeue_stores _ hx4) gDESC
  try clear_value x8
  extract_lets -merge -underBinder +onlyGivenNames x9 x10
  have hx10 : StSame R s0 x10 := StSame.mk' hx8
  try clear_value x10
  extract_lets -merge -underBinder +onlyGivenNames x11
  have hx11 : StSame R s0 x11 := State.put_stores _ _ _ (State.put_stores _ _ _ (State.put_stores _ _ _ (State.put_stores _ _ _ hx10)))
  try clear_value x11
  exact State.modEng_stores _ _ hx11

theorem State.endRun_stores (k : Engine) (kind : ℕ) (readyAt : ℕ) (dl : Option Word) (hk : StSame R s0 s) (gDESC : ∀ x, 0xC0000 ≤ x → x < 0xD0000 → R x) : StSame R s0 (State.endRun s k kind readyAt dl) := by
  unfold State.endRun
  extract_lets -merge -underBinder +onlyGivenNames x0 x1 x2
  have hx2 : StSame R s0 x2 := State.incr_stores _ _ (State.engFree_stores _ hk)
  try clear_value x2
  extract_lets -merge -underBinder +onlyGivenNames x3 x4
  have hx4 : StSame R s0 x4 := StSame.ite (fun _ => StSame.mk' hx2) (fun _ => hx2)
  try clear_value x4
  extract_lets -merge -underBinder +onlyGivenNames x5
  have hx5 : StSame R s0 x5 := by
    unfold x5
    split
    · extract_lets -merge -underBinder +onlyGivenNames x6
      have hx6 : StSame R s0 x6 := State.stPut_stores _ _ _ hx4 (fun x h1 h2 => gDESC x (by (try simp +zetaDelta only [length_leBytes, List.length_append, List.length_replicate, List.length_take, List.length_drop, List.length_cons, List.length_nil, length_padTo, length_rxEntry, Desc.length_bytes, length_stRead, length_gaugeBytes, txAt, rxBufAt, txBufAt, rxRecAt, descAt, snapAt, recAt, rxfAt, txfAt, maskAt, marksAt, -List.reduceReplicate] at h1 h2); omega) (by (try simp +zetaDelta only [length_leBytes, List.length_append, List.length_replicate, List.length_take, List.length_drop, List.length_cons, List.length_nil, length_padTo, length_rxEntry, Desc.length_bytes, length_stRead, length_gaugeBytes, txAt, rxBufAt, txBufAt, rxRecAt, descAt, snapAt, recAt, rxfAt, txfAt, maskAt, marksAt, -List.reduceReplicate] at h1 h2); omega))
      try clear_value x6
      exact StSame.ite (fun _ => hx4) (fun _ => State.stPut_stores _ _ _ hx6 (fun x h1 h2 => gDESC x (by (try simp +zetaDelta only [length_leBytes, List.length_append, List.length_replicate, List.length_take, List.length_drop, List.length_cons, List.length_nil, length_padTo, length_rxEntry, Desc.length_bytes, length_stRead, length_gaugeBytes, txAt, rxBufAt, txBufAt, rxRecAt, descAt, snapAt, recAt, rxfAt, txfAt, maskAt, marksAt, -List.reduceReplicate] at h1 h2); omega) (by (try simp +zetaDelta only [length_leBytes, List.length_append, List.length_replicate, List.length_take, List.length_drop, List.length_cons, List.length_nil, length_padTo, length_rxEntry, Desc.length_bytes, length_stRead, length_gaugeBytes, txAt, rxBufAt, txBufAt, rxRecAt, descAt, snapAt, recAt, rxfAt, txfAt, maskAt, marksAt, -List.reduceReplicate] at h1 h2); omega)))
    · exact hx4
  try clear_value x5
  extract_lets -merge -underBinder +onlyGivenNames x7
  have hx7 : StSame R s0 x7 := State.setDescBit_stores _ _ _ hx5 gDESC
  try clear_value x7
  extract_lets -merge -underBinder +onlyGivenNames x8
  have hx8 : ∀ a0 a1 a2, StSame R s0 a0 → StSame R s0 (x8 a0 a1 a2) := by
    intro s9_0 s9_1 s9_2 hs9_1
    unfold x8
    beta_reduce
    extract_lets -merge -underBinder +onlyGivenNames x10
    have hx10 : StSame R s0 x10 := State.enqueue_stores _ _ _ hs9_1 gDESC
    try clear_value x10
    extract_lets -merge -underBinder +onlyGivenNames x11 x12 x13
    have hx13 : StSame R s0 x13 := StSame.mk' hx10
    try clear_value x13
    exact State.stPut_stores _ _ _ (State.setDescState_stores _ _ hx13 gDESC) (fun x h1 h2 => gDESC x (by (try simp +zetaDelta only [length_leBytes, List.length_append, List.length_replicate, List.length_take, List.length_drop, List.length_cons, List.length_nil, length_padTo, length_rxEntry, Desc.length_bytes, length_stRead, length_gaugeBytes, txAt, rxBufAt, txBufAt, rxRecAt, descAt, snapAt, recAt, rxfAt, txfAt, maskAt, marksAt, -List.reduceReplicate] at h1 h2); omega) (by (try simp +zetaDelta only [length_leBytes, List.length_append, List.length_replicate, List.length_take, List.length_drop, List.length_cons, List.length_nil, length_padTo, length_rxEntry, Desc.length_bytes, length_stRead, length_gaugeBytes, txAt, rxBufAt, txBufAt, rxRecAt, descAt, snapAt, recAt, rxfAt, txfAt, maskAt, marksAt, -List.reduceReplicate] at h1 h2); omega))
  try clear_value x8
  refine StSame.ite (fun _ => ?_) (fun _ => ?_)
  · exact State.enqueue_stores _ _ _ (State.setDescBit_stores _ _ _ hx7 gDESC) gDESC
  · split
    · exact State.setDescState_stores _ _ hx7 gDESC
    · refine hx8 _ _ _ ?_
      exact hx7
    · extract_lets -merge -underBinder +onlyGivenNames x14
      refine StSame.ite (fun _ => ?_) (fun _ => ?_)
      · refine hx8 _ _ _ ?_
        exact hx7
      · refine hx8 _ _ _ ?_
        exact hx7

theorem State.endFaulted_stores (k : Engine) (hk : StSame R s0 s) (gDESC : ∀ x, 0xC0000 ≤ x → x < 0xD0000 → R x) : StSame R s0 (State.endFaulted s k) := by
  unfold State.endFaulted
  extract_lets -merge -underBinder +onlyGivenNames x0 x1
  have hx1 : StSame R s0 x1 := State.engFree_stores _ hk
  try clear_value x1
  exact StSame.ite (fun _ => hk) (fun _ => StSame.ite (fun _ => State.descLost_stores _ _ hx1 gDESC) (fun _ => State.enqueue_stores _ _ _ (State.setDescBit_stores _ _ _ hx1 gDESC) gDESC))

theorem State.retireEngine_stores (k : Engine) (hk : StSame R s0 s) (gDESC : ∀ x, 0xC0000 ≤ x → x < 0xD0000 → R x) : StSame R s0 (State.retireEngine s k) := by
  unfold State.retireEngine
  extract_lets -merge -underBinder +onlyGivenNames x0
  have hx0 : StSame R s0 x0 := State.endFaulted_stores _ hk gDESC
  try clear_value x0
  extract_lets -merge -underBinder +onlyGivenNames x1
  have hx1 : StSame R s0 x1 := State.modEng_stores _ _ hx0
  try clear_value x1
  exact StSame.ite (fun _ => hk) (fun _ => StSame.ite (fun _ => State.raise_stores _ _ hk) (fun _ => State.raise_stores _ _ (State.raise_stores _ _ hx1)))

theorem State.engineFault_stores (k : Engine) (kind : ℕ) (addr : ℕ) (hk : StSame R s0 s) (gDESC : ∀ x, 0xC0000 ≤ x → x < 0xD0000 → R x) : StSame R s0 (State.engineFault s k kind addr) := by
  unfold State.engineFault
  extract_lets -merge -underBinder +onlyGivenNames x0 x1 x2
  have hx2 : StSame R s0 x2 := State.modEng_stores _ _ hk
  try clear_value x2
  extract_lets -merge -underBinder +onlyGivenNames x3
  have hx3 : StSame R s0 x3 := State.raise_stores _ _ (State.put_stores _ _ _ (State.put_stores _ _ _ hx2))
  try clear_value x3
  extract_lets -merge -underBinder +onlyGivenNames x4
  have hx4 : StSame R s0 x4 := StSame.ite (fun _ => hx3) (fun _ => State.put_stores _ _ _ hx3)
  try clear_value x4
  extract_lets -merge -underBinder +onlyGivenNames x5
  have hx5 : StSame R s0 x5 := StSame.ite (fun _ => State.endFaulted_stores _ hx4 gDESC) (fun _ => hx4)
  try clear_value x5
  exact StSame.ite (fun _ => State.retireEngine_stores _ hx5 gDESC) (fun _ => hx5)

theorem State.assign_stores (e : QEnt) (hk : StSame R s0 s) (gDESC : ∀ x, 0xC0000 ≤ x → x < 0xD0000 → R x) : StSame R s0 (State.assign s e) := by
  unfold State.assign
  refine StSame.ite (fun _ => ?_) (fun _ => ?_)
  · exact State.descLost_stores _ _ (State.stNote_stores _ _ _ hk) gDESC
  · refine StSame.ite (fun _ => ?_) (fun _ => ?_)
    · exact State.genDiscard_stores _ hk gDESC
    · split
      · exact hk
      · exact State.taskStart_stores _ _ hk gDESC

theorem State.resume_stores (k : Engine) (hk : StSame R s0 s) (gDESC : ∀ x, 0xC0000 ≤ x → x < 0xD0000 → R x) : StSame R s0 (State.resume s k) := by
  unfold State.resume
  extract_lets -merge -underBinder +onlyGivenNames x0 x1 x2 x3
  have hx3 : StSame R s0 x3 := StSame.mk' hk
  try clear_value x3
  exact StSame.ite (fun _ => hk) (fun _ => StSame.ite (fun _ => State.engFree_stores _ (State.genDiscard_stores _ hk gDESC)) (fun _ => State.modEng_stores _ _ (State.setDescState_stores _ _ hx3 gDESC)))

theorem State.dispatch_stores (testOk : Bool) (noStart : Bool) (hk : StSame R s0 s) (gDESC : ∀ x, 0xC0000 ≤ x → x < 0xD0000 → R x) : StSame R s0 (State.dispatch s testOk noStart) := by
  unfold State.dispatch
  extract_lets -merge -underBinder +onlyGivenNames x0 x1
  have hx1 : StSame R s0 x1 := StSame.ite (fun _ => State.raise_stores _ _ hk) (fun _ => State.raiseIf_stores _ _ _ hk)
  try clear_value x1
  extract_lets -merge -underBinder +onlyGivenNames x2 x3
  have hx3 : StSame R s0 x3 := State.put_stores _ _ _ hx1
  try clear_value x3
  extract_lets -merge -underBinder +onlyGivenNames x4 x5 x6 x7 x8 x9 x10 x11
  have hx11 : StSame R s0 x11 := State.put_stores _ _ _ hx3
  try clear_value x11
  extract_lets -merge -underBinder +onlyGivenNames x12
  have hx12 : StSame R s0 x12 := by
    unfold x12
    refine foldl_stores _ ?_ ?_
    · exact hx11
    · intro s13_0 s13_1 hm hs13_1
      extract_lets -merge -underBinder +onlyGivenNames x14 x15
      exact State.put_stores _ _ _ (State.put_stores _ _ _ hs13_1)
  try clear_value x12
  extract_lets -merge -underBinder +onlyGivenNames x16 x17 x18 x19 x20 x21
  have hx21 : StSame R s0 x21 := StSame.mk' hx12
  try clear_value x21
  extract_lets -merge -underBinder +onlyGivenNames x22
  have hx22 : StSame R s0 x22 := State.forEngines_stores (StSame.ite (fun _ => State.engineFault_stores _ _ _ hx21 gDESC) (fun _ => hx21)) (fun _ _ h23 => State.resume_stores _ h23 gDESC)
  try clear_value x22
  exact StSame.ite (fun _ => hx22) (fun _ => foldl_stores _ hx22 (fun _ _ _ h24 => StSame.ite (fun _ => State.assign_stores _ h24 gDESC) (fun _ => h24)))

theorem State.idleReassign_stores (k : Engine) (left : ℕ) (hk : StSame R s0 s) (gDESC : ∀ x, 0xC0000 ≤ x → x < 0xD0000 → R x) : StSame R s0 (State.idleReassign s k left) := by
  unfold State.idleReassign
  extract_lets -merge -underBinder +onlyGivenNames x0
  exact foldl_stores _ hk (fun _ _ _ h1 => StSame.ite (fun _ => h1) (fun _ => StSame.ite (fun _ => State.descLost_stores _ _ (State.stNote_stores _ _ _ h1) gDESC) (fun _ => StSame.ite (fun _ => State.genDiscard_stores _ h1 gDESC) (fun _ => StSame.ite (fun _ => h1) (fun _ => State.taskStart_stores _ _ h1 gDESC)))))

theorem State.overrun_stores (k : Engine) (hk : StSame R s0 s) (gDESC : ∀ x, 0xC0000 ≤ x → x < 0xD0000 → R x) : StSame R s0 (State.overrun s k) := by
  unfold State.overrun
  extract_lets -merge -underBinder +onlyGivenNames x0
  have hx0 : StSame R s0 x0 := State.modEng_stores _ _ (State.setDescState_stores _ _ hk gDESC)
  try clear_value x0
  extract_lets -merge -underBinder +onlyGivenNames x1
  have hx1 : StSame R s0 x1 := State.raise_stores _ _ (State.raise_stores _ _ hx0)
  try clear_value x1
  extract_lets -merge -underBinder +onlyGivenNames x2
  have hx2 : StSame R s0 x2 := State.bump_stores _ _ _ hx1
  try clear_value x2
  extract_lets -merge -underBinder +onlyGivenNames x3
  exact State.put_stores _ _ _ (StSame.mk' hx2)

theorem State.dropTasks_stores (hk : StSame R s0 s) (gDESC : ∀ x, 0xC0000 ≤ x → x < 0xD0000 → R x) : StSame R s0 (State.dropTasks s) := by
  unfold State.dropTasks
  extract_lets -merge -underBinder +onlyGivenNames x0 x1
  have hx1 : StSame R s0 x1 := StSame.mk' hk
  try clear_value x1
  exact ⟨fun k hk => (Sparse.get_filter storeDflt x1.store (fun c => !(decide (0xC0000 ≤ c) && decide (c < 0xD0000) && decide (20 ≤ c % 32) && decide (c % 32 < 24))) k (by
    by_cases h1 : 0xC0000 ≤ k
    · by_cases h2 : k < 0xD0000
      · exact absurd (gDESC k h1 h2) hk
      · simp [h2]
    · simp [h1])).trans (hx1.1 k hk), hx1.2⟩

theorem State.codeProgram_stores (a : ℕ) (v : Word) (hk : StSame R s0 s) : StSame R s0 (State.codeProgram s a v) := by
  unfold State.codeProgram
  extract_lets -merge -underBinder +onlyGivenNames x0
  exact StSame.mk' hk

theorem State.codeErase_stores (a : ℕ) (hk : StSame R s0 s) : StSame R s0 (State.codeErase s a) := by
  unfold State.codeErase
  exact StSame.mk' hk

theorem State.flashDone_stores (result : ℕ) (hk : StSame R s0 s) : StSame R s0 (State.flashDone s result) := by
  unfold State.flashDone
  extract_lets -merge -underBinder +onlyGivenNames x0
  have hx0 : StSame R s0 x0 := State.put_stores _ _ _ (State.put_stores _ _ _ hk)
  try clear_value x0
  exact State.raise_stores _ _ (StSame.mk' hx0)

theorem State.flashStart_stores (op : FlashOp) (hk : StSame R s0 s) : StSame R s0 (State.flashStart s op) := by
  unfold State.flashStart
  extract_lets -merge -underBinder +onlyGivenNames x0 x1
  exact StSame.ite (fun _ => State.put_stores _ _ _ hk) (fun _ => StSame.ite (fun _ => State.flashDone_stores _ hk) (fun _ => StSame.ite (fun _ => State.flashDone_stores _ hk) (fun _ => StSame.ite (fun _ => State.flashDone_stores _ hk) (fun _ => State.put_stores _ _ _ (State.put_stores _ _ _ (StSame.mk' hk))))))

theorem State.flashFinish_stores (verifyOk : Bool) (hk : StSame R s0 s) : StSame R s0 (State.flashFinish s verifyOk) := by
  unfold State.flashFinish
  split
  · exact hk
  · exact State.flashDone_stores _ (State.codeProgram_stores _ _ hk)
  · exact State.flashDone_stores _ (State.codeErase_stores _ hk)

theorem State.nvdErasePage_stores (p : ℕ) (hk : StSame R s0 s) : StSame R s0 (State.nvdErasePage s p) := by
  unfold State.nvdErasePage
  exact State.put_stores _ _ _ (StSame.mk' hk)

theorem State.nvdCommit_stores (area : ℕ) (format : ℕ) (payload : List Byte) (hk : StSame R s0 s) : StSame R s0 (State.nvdCommit s area format payload) := by
  unfold State.nvdCommit
  extract_lets -merge -underBinder +onlyGivenNames x0 x1 x2
  have hx2 : StSame R s0 x2 := State.nvdErasePage_stores _ hk
  try clear_value x2
  exact StSame.mk' hx2

theorem State.nvdDone_stores (result : ℕ) (hk : StSame R s0 s) : StSame R s0 (State.nvdDone s result) := by
  unfold State.nvdDone
  extract_lets -merge -underBinder +onlyGivenNames x0
  have hx0 : StSame R s0 x0 := State.put_stores _ _ _ (State.put_stores _ _ _ hk)
  try clear_value x0
  exact State.raise_stores _ _ (StSame.mk' hx0)

theorem State.nvdStart_stores (op : NvdOp) (hk : StSame R s0 s) : StSame R s0 (State.nvdStart s op) := by
  unfold State.nvdStart
  refine StSame.ite (fun _ => ?_) (fun _ => ?_)
  · exact hk
  · split
    · exact StSame.ite (fun _ => State.nvdDone_stores _ hk) (fun _ => State.put_stores _ _ _ (StSame.mk' hk))
    · exact StSame.ite (fun _ => State.nvdDone_stores _ hk) (fun _ => StSame.ite (fun _ => State.nvdDone_stores _ hk) (fun _ => State.put_stores _ _ _ (StSame.mk' hk)))
    · extract_lets -merge -underBinder +onlyGivenNames x0
      exact StSame.ite (fun _ => State.nvdDone_stores _ hk) (fun _ => StSame.ite (fun _ => State.nvdDone_stores _ hk) (fun _ => StSame.ite (fun _ => StSame.ite (fun _ => State.put_stores _ _ _ (StSame.mk' hk)) (fun _ => State.nvdDone_stores _ hk)) (fun _ => StSame.ite (fun _ => State.put_stores _ _ _ (StSame.mk' hk)) (fun _ => State.nvdDone_stores _ hk))))

theorem State.eraseAbort_stores (sector : ℕ) (hk : StSame R s0 s) : StSame R s0 (State.eraseAbort s sector) := by
  unfold State.eraseAbort
  extract_lets -merge -underBinder +onlyGivenNames x0
  have hx0 : StSame R s0 x0 := State.put_stores _ _ _ (State.put_stores _ _ _ hk)
  try clear_value x0
  exact State.raise_stores _ _ (State.raise_stores _ _ hx0)

theorem State.nvInhibit_stores (hk : StSame R s0 s) : StSame R s0 (State.nvInhibit s) := by
  unfold State.nvInhibit
  extract_lets -merge -underBinder +onlyGivenNames x0
  have hx0 : StSame R s0 x0 := by
    unfold x0
    split
    · exact State.flashDone_stores _ (State.eraseAbort_stores _ hk)
    · exact hk
  try clear_value x0
  split
  · extract_lets -merge -underBinder +onlyGivenNames x1
    have hx1 : StSame R s0 x1 := State.nvdErasePage_stores _ hx0
    try clear_value x1
    exact State.nvdDone_stores _ (State.raise_stores _ _ (State.put_stores _ _ _ hx1))
  · split
    · exact State.nvdDone_stores _ hx0
    · exact hx0

theorem State.secretInhibit_stores (hk : StSame R s0 s) : StSame R s0 (State.secretInhibit s) := by
  unfold State.secretInhibit
  exact StSame.ite (fun _ => State.raise_stores _ _ (State.put_stores _ _ _ hk)) (fun _ => hk)

theorem State.otpDone_stores (result : ℕ) (hk : StSame R s0 s) : StSame R s0 (State.otpDone s result) := by
  unfold State.otpDone
  extract_lets -merge -underBinder +onlyGivenNames x0
  have hx0 : StSame R s0 x0 := State.put_stores _ _ _ (State.put_stores _ _ _ hk)
  try clear_value x0
  exact State.raise_stores _ _ (StSame.mk' hx0)

theorem State.otpProgram_stores (hk : StSame R s0 s) : StSame R s0 (State.otpProgram s) := by
  unfold State.otpProgram
  extract_lets -merge -underBinder +onlyGivenNames x0
  exact StSame.ite (fun _ => State.put_stores _ _ _ hk) (fun _ => StSame.ite (fun _ => State.otpDone_stores _ hk) (fun _ => StSame.ite (fun _ => State.otpDone_stores _ hk) (fun _ => StSame.ite (fun _ => State.otpDone_stores _ hk) (fun _ => State.put_stores _ _ _ (StSame.mk' hk)))))

theorem State.otpLock_stores (r : ℕ) (hk : StSame R s0 s) : StSame R s0 (State.otpLock s r) := by
  unfold State.otpLock
  exact StSame.ite (fun _ => State.put_stores _ _ _ hk) (fun _ => StSame.ite (fun _ => State.otpDone_stores _ hk) (fun _ => StSame.ite (fun _ => State.otpDone_stores _ hk) (fun _ => StSame.ite (fun _ => State.otpDone_stores _ hk) (fun _ => StSame.ite (fun _ => State.otpDone_stores _ hk) (fun _ => State.put_stores _ _ _ (StSame.mk' hk))))))

theorem State.otpBlow_stores (i : ℕ) (bits : Word) (weak : Word) (hk : StSame R s0 s) : StSame R s0 (State.otpBlow s i bits weak) := by
  unfold State.otpBlow
  exact StSame.mk' hk

theorem State.otpFinish_stores (weak : Word) (hk : StSame R s0 s) : StSame R s0 (State.otpFinish s weak) := by
  unfold State.otpFinish
  split
  · exact hk
  · exact State.otpDone_stores _ (State.otpBlow_stores _ _ _ hk)
  · extract_lets -merge -underBinder +onlyGivenNames x0
    exact State.otpDone_stores _ (State.otpBlow_stores _ _ _ hk)

theorem State.otpDrop_stores (hk : StSame R s0 s) : StSame R s0 (State.otpDrop s) := by
  unfold State.otpDrop
  extract_lets -merge -underBinder +onlyGivenNames x0
  have hx0 : ∀ a0 a1, StSame R s0 (x0 a0 a1) := by
    intro s1_0 s1_1
    unfold x0
    beta_reduce
    extract_lets -merge -underBinder +onlyGivenNames x2 x3 x4 x5
    exact State.freshen_stores (State.freshen_stores (State.otpBlow_stores _ _ _ hk))
  try clear_value x0
  extract_lets -merge -underBinder +onlyGivenNames x6
  have hx6 : StSame R s0 x6 := by
    unfold x6
    split
    · refine hx0 _ _
    · refine hx0 _ _
    · exact hk
  try clear_value x6
  exact StSame.mk' hx6

theorem State.setMapBit_stores (pg : ℕ) (f : Fld) (node : ℕ) (b : Bool) (hk : StSame R s0 s) : StSame R s0 (State.setMapBit s pg f node b) := by
  unfold State.setMapBit
  extract_lets -merge -underBinder +onlyGivenNames x0
  exact State.put_stores _ _ _ hk

theorem State.migrateTick_stores (hk : StSame R s0 s) : StSame R s0 (State.migrateTick s) := by
  unfold State.migrateTick
  split
  · exact hk
  · extract_lets -merge -underBinder +onlyGivenNames x0
    exact State.freshen_stores (foldl_stores _ hk (fun _ _ _ h1 => State.segMove_stores _ h1))

end Sys2Proof.Machine
end

