-- ==== Sys2Proof/Laws/StoredPorts.lean ====
section
/-!
SUPPORT. `StSame` over the operations of CC, PDL, POL and GUARD of the ports, sharing, the mux bridge: one lemma per operation.
-/

set_option Elab.async false

namespace Sys2Proof.Machine

variable {R : Nat → Prop} {s0 s : State}

theorem State.modCc_stores (n : Port) (f : CcSt → CcSt) (hk : StSame R s0 s) : StSame R s0 (State.modCc s n f) := by
  unfold State.modCc
  exact State.modPort_stores _ _ hk

theorem State.modPdl_stores (n : Port) (f : PdlSt → PdlSt) (hk : StSame R s0 s) : StSame R s0 (State.modPdl s n f) := by
  unfold State.modPdl
  exact State.modPort_stores _ _ hk

theorem State.modPol_stores (n : Port) (f : PolSt → PolSt) (hk : StSame R s0 s) : StSame R s0 (State.modPol s n f) := by
  unfold State.modPol
  exact State.modPort_stores _ _ hk

theorem State.modGuard_stores (n : Port) (f : GuardSt → GuardSt) (hk : StSame R s0 s) : StSame R s0 (State.modGuard s n f) := by
  unfold State.modGuard
  exact State.modPort_stores _ _ hk

theorem State.modFw_stores (n : Port) (f : FwSt → FwSt) (hk : StSame R s0 s) : StSame R s0 (State.modFw s n f) := by
  unfold State.modFw
  exact State.modPort_stores _ _ hk

theorem State.genUp_stores (n : Port) (hk : StSame R s0 s) : StSame R s0 (State.genUp s n) := by
  unfold State.genUp
  exact State.incr_stores _ _ hk

theorem State.snapClear_stores (n : Port) (hk : StSame R s0 s) (gSNAP : ∀ x, 0x100000 + 32 * n.val ≤ x → x < 0x100020 + 32 * n.val → R x) : StSame R s0 (State.snapClear s n) := by
  unfold State.snapClear
  extract_lets -merge -underBinder +onlyGivenNames x0
  have hx0 : StSame R s0 x0 := State.aosPut_stores _ _ _ hk (fun x h1 h2 => gSNAP x (by (try simp +zetaDelta only [length_leBytes, List.length_append, List.length_replicate, List.length_take, List.length_drop, List.length_cons, List.length_nil, length_padTo, length_rxEntry, Desc.length_bytes, length_stRead, length_gaugeBytes, txAt, rxBufAt, txBufAt, rxRecAt, descAt, snapAt, recAt, rxfAt, txfAt, maskAt, marksAt, -List.reduceReplicate] at h1 h2); omega) (by (try simp +zetaDelta only [length_leBytes, List.length_append, List.length_replicate, List.length_take, List.length_drop, List.length_cons, List.length_nil, length_padTo, length_rxEntry, Desc.length_bytes, length_stRead, length_gaugeBytes, txAt, rxBufAt, txBufAt, rxRecAt, descAt, snapAt, recAt, rxfAt, txfAt, maskAt, marksAt, -List.reduceReplicate] at h1 h2); omega))
  try clear_value x0
  extract_lets -merge -underBinder +onlyGivenNames x1
  have hx1 : StSame R s0 x1 := State.put_stores _ _ _ hx0
  try clear_value x1
  extract_lets -merge -underBinder +onlyGivenNames x2
  have hx2 : StSame R s0 x2 := State.put_stores _ _ _ (State.put_stores _ _ _ hx1)
  try clear_value x2
  exact State.modPol_stores _ _ hx2

theorem State.polEvt_stores (n : Port) (f : Fld) (hk : StSame R s0 s) (gDESC : ∀ x, 0xC0000 ≤ x → x < 0xD0000 → R x) : StSame R s0 (State.polEvt s n f) := by
  unfold State.polEvt
  extract_lets -merge -underBinder +onlyGivenNames x0
  have hx0 : StSame R s0 x0 := State.raise_stores _ _ hk
  try clear_value x0
  exact State.postKept_stores _ _ _ _ _ hx0 gDESC

theorem State.hrDone_stores (n : Port) (hk : StSame R s0 s) (gDESC : ∀ x, 0xC0000 ≤ x → x < 0xD0000 → R x) : StSame R s0 (State.hrDone s n) := by
  unfold State.hrDone
  exact State.polEvt_stores _ _ (State.put_stores _ _ _ hk) gDESC

theorem State.setTarget_stores (n : Port) (t : ℕ) (hk : StSame R s0 s) : StSame R s0 (State.setTarget s n t) := by
  unfold State.setTarget
  extract_lets -merge -underBinder +onlyGivenNames x0 x1
  have hx1 : StSame R s0 x1 := State.modPol_stores _ _ hk
  try clear_value x1
  extract_lets -merge -underBinder +onlyGivenNames x2 x3 x4 x5 x6 x7 x8
  have hx8 : StSame R s0 x8 := State.raiseIf_stores _ _ _ hx1
  try clear_value x8
  extract_lets -merge -underBinder +onlyGivenNames x9
  have hx9 : StSame R s0 x9 := State.put_stores _ _ _ (State.put_stores _ _ _ hx8)
  try clear_value x9
  exact State.putB_stores _ _ _ hx9

theorem State.cenLevel_stores (n : Port) (auto : Bool) (hk : StSame R s0 s) : StSame R s0 (State.cenLevel s n auto) := by
  unfold State.cenLevel
  extract_lets -merge -underBinder +onlyGivenNames x0 x1
  exact State.putB_stores _ _ _ hk

theorem State.dschOn_stores (n : Port) (trip : Bool) (assist : Bool) (hk : StSame R s0 s) : StSame R s0 (State.dschOn s n trip assist) := by
  unfold State.dschOn
  extract_lets -merge -underBinder +onlyGivenNames x0 x1
  exact StSame.ite (fun _ => hk) (fun _ => State.modGuard_stores _ _ hk)

theorem State.dschOff_stores (n : Port) (hk : StSame R s0 s) : StSame R s0 (State.dschOff s n) := by
  unfold State.dschOff
  extract_lets -merge -underBinder +onlyGivenNames x0
  have hx0 : StSame R s0 x0 := State.put_stores _ _ _ hk
  try clear_value x0
  exact State.modGuard_stores _ _ hx0

theorem State.assistEnd_stores (n : Port) (hk : StSame R s0 s) : StSame R s0 (State.assistEnd s n) := by
  unfold State.assistEnd
  extract_lets -merge -underBinder +onlyGivenNames x0
  have hx0 : StSame R s0 x0 := State.put_stores _ _ _ hk
  try clear_value x0
  exact StSame.ite (fun _ => State.dschOff_stores _ hx0) (fun _ => hx0)

theorem State.transAbandon_stores (n : Port) (hk : StSame R s0 s) (gDESC : ∀ x, 0xC0000 ≤ x → x < 0xD0000 → R x) : StSame R s0 (State.transAbandon s n) := by
  unfold State.transAbandon
  extract_lets -merge -underBinder +onlyGivenNames x0
  have hx0 : StSame R s0 x0 := State.assistEnd_stores _ (State.put_stores _ _ _ hk)
  try clear_value x0
  extract_lets -merge -underBinder +onlyGivenNames x1
  have hx1 : StSame R s0 x1 := State.modGuard_stores _ _ hx0
  try clear_value x1
  exact StSame.ite (fun _ => State.polEvt_stores _ _ hx1 gDESC) (fun _ => hk)

theorem State.vconnOff_stores (n : Port) (hk : StSame R s0 s) : StSame R s0 (State.vconnOff s n) := by
  unfold State.vconnOff
  exact StSame.ite (fun _ => State.modCc_stores _ _ (State.put_stores _ _ _ hk)) (fun _ => hk)

theorem State.hpdClear_stores (n : Port) (hk : StSame R s0 s) : StSame R s0 (State.hpdClear s n) := by
  unfold State.hpdClear
  exact State.modPort_stores _ _ (State.put_stores _ _ _ hk)

theorem State.shareEvt_stores (f : Fld) (hk : StSame R s0 s) (gDESC : ∀ x, 0xC0000 ≤ x → x < 0xD0000 → R x) : StSame R s0 (State.shareEvt s f) := by
  unfold State.shareEvt
  extract_lets -merge -underBinder +onlyGivenNames x0
  have hx0 : StSame R s0 x0 := State.raise_stores _ _ hk
  try clear_value x0
  exact State.postGlobal_stores _ _ _ _ _ hx0 gDESC

theorem State.modShare_stores (n : Port) (f : ShareSt → ShareSt) (hk : StSame R s0 s) : StSame R s0 (State.modShare s n f) := by
  unfold State.modShare
  exact State.modPort_stores _ _ hk

theorem State.shareRelease_stores (drop : Bool) (hk : StSame R s0 s) (gDESC : ∀ x, 0xC0000 ≤ x → x < 0xD0000 → R x) : StSame R s0 (State.shareRelease s drop) := by
  unfold State.shareRelease
  extract_lets -merge -underBinder +onlyGivenNames x0
  have hx0 : StSame R s0 x0 := State.put_stores _ _ _ hk
  try clear_value x0
  extract_lets -merge -underBinder +onlyGivenNames x1
  have hx1 : StSame R s0 x1 := by
    unfold x1
    refine State.forPorts_stores ?_ ?_
    · exact hx0
    · intro s2_0 s2_1 hs2_1
      extract_lets -merge -underBinder +onlyGivenNames x3 x4
      have hx4 : StSame R s0 x4 := State.put_stores _ _ _ (State.put_stores _ _ _ hs2_1)
      try clear_value x4
      exact StSame.ite (fun _ => State.put_stores _ _ _ (State.put_stores _ _ _ hx4)) (fun _ => hs2_1)
  try clear_value x1
  extract_lets -merge -underBinder +onlyGivenNames x5 x6
  have hx6 : StSame R s0 x6 := StSame.mk' hx1
  try clear_value x6
  extract_lets -merge -underBinder +onlyGivenNames x7
  have hx7 : StSame R s0 x7 := State.shareEvt_stores _ hx6 gDESC
  try clear_value x7
  exact StSame.ite (fun _ => State.shareEvt_stores _ hx7 gDESC) (fun _ => hx7)

theorem State.shareLeave_stores (n : Port) (hk : StSame R s0 s) (gDESC : ∀ x, 0xC0000 ≤ x → x < 0xD0000 → R x) : StSame R s0 (State.shareLeave s n) := by
  unfold State.shareLeave
  extract_lets -merge -underBinder +onlyGivenNames x0
  have hx0 : StSame R s0 x0 := State.put_stores _ _ _ (State.put_stores _ _ _ hk)
  try clear_value x0
  exact StSame.ite (fun _ => State.shareRelease_stores _ (State.modShare_stores _ _ hx0) gDESC) (fun _ => hk)

theorem State.trimReject_stores (n : Port) (hk : StSame R s0 s) : StSame R s0 (State.trimReject s n) := by
  unfold State.trimReject
  extract_lets -merge -underBinder +onlyGivenNames x0
  exact StSame.ite (fun _ => State.put_stores _ _ _ (State.put_stores _ _ _ hk)) (fun _ => hk)

theorem State.msgidPut_stores (n : Port) (lo : ℕ) (w : ℕ) (v : ℕ) (hk : StSame R s0 s) : StSame R s0 (State.msgidPut s n lo w v) := by
  unfold State.msgidPut
  exact State.put_stores _ _ _ hk

theorem State.txCtrUp_stores (n : Port) (k : ℕ) (hk : StSame R s0 s) : StSame R s0 (State.txCtrUp s n k) := by
  unfold State.txCtrUp
  exact State.msgidPut_stores _ _ _ _ hk

theorem State.sopReset_stores (n : Port) (k : ℕ) (hk : StSame R s0 s) : StSame R s0 (State.sopReset s n k) := by
  unfold State.sopReset
  exact State.msgidPut_stores _ _ _ _ (State.msgidPut_stores _ _ _ _ hk)

theorem State.txWrite_stores (n : Port) (i : ℕ) (status : ℕ) (hk : StSame R s0 s) (gPD : ∀ x, 0x4000 * n.val ≤ x → x < 0x4000 * n.val + 0x4000 → R x) : StSame R s0 (State.txWrite s n i status) := by
  unfold State.txWrite
  extract_lets -merge -underBinder +onlyGivenNames x0 x1 x2 x3
  have hx3 : StSame R s0 x3 := by
    unfold x3
    split
    · exact StSame.ite (fun _ => State.stPut_stores _ _ _ hk (fun x h1 h2 => gPD x (by (try simp +zetaDelta only [length_leBytes, List.length_append, List.length_replicate, List.length_take, List.length_drop, List.length_cons, List.length_nil, length_padTo, length_rxEntry, Desc.length_bytes, length_stRead, length_gaugeBytes, txAt, rxBufAt, txBufAt, rxRecAt, descAt, snapAt, recAt, rxfAt, txfAt, maskAt, marksAt, -List.reduceReplicate] at h1 h2); omega) (by (try simp +zetaDelta only [length_leBytes, List.length_append, List.length_replicate, List.length_take, List.length_drop, List.length_cons, List.length_nil, length_padTo, length_rxEntry, Desc.length_bytes, length_stRead, length_gaugeBytes, txAt, rxBufAt, txBufAt, rxRecAt, descAt, snapAt, recAt, rxfAt, txfAt, maskAt, marksAt, -List.reduceReplicate] at h1 h2); omega))) (fun _ => hk)
    · exact hk
  try clear_value x3
  extract_lets -merge -underBinder +onlyGivenNames x4
  have hx4 : StSame R s0 x4 := State.stPut_stores _ _ _ (State.stPut_stores _ _ _ (State.stPut_stores _ _ _ hx3 (fun x h1 h2 => gPD x (by (try simp +zetaDelta only [length_leBytes, List.length_append, List.length_replicate, List.length_take, List.length_drop, List.length_cons, List.length_nil, length_padTo, length_rxEntry, Desc.length_bytes, length_stRead, length_gaugeBytes, txAt, rxBufAt, txBufAt, rxRecAt, descAt, snapAt, recAt, rxfAt, txfAt, maskAt, marksAt, -List.reduceReplicate] at h1 h2); omega) (by (try simp +zetaDelta only [length_leBytes, List.length_append, List.length_replicate, List.length_take, List.length_drop, List.length_cons, List.length_nil, length_padTo, length_rxEntry, Desc.length_bytes, length_stRead, length_gaugeBytes, txAt, rxBufAt, txBufAt, rxRecAt, descAt, snapAt, recAt, rxfAt, txfAt, maskAt, marksAt, -List.reduceReplicate] at h1 h2); omega))) (fun x h1 h2 => gPD x (by (try simp +zetaDelta only [length_leBytes, List.length_append, List.length_replicate, List.length_take, List.length_drop, List.length_cons, List.length_nil, length_padTo, length_rxEntry, Desc.length_bytes, length_stRead, length_gaugeBytes, txAt, rxBufAt, txBufAt, rxRecAt, descAt, snapAt, recAt, rxfAt, txfAt, maskAt, marksAt, -List.reduceReplicate] at h1 h2); omega) (by (try simp +zetaDelta only [length_leBytes, List.length_append, List.length_replicate, List.length_take, List.length_drop, List.length_cons, List.length_nil, length_padTo, length_rxEntry, Desc.length_bytes, length_stRead, length_gaugeBytes, txAt, rxBufAt, txBufAt, rxRecAt, descAt, snapAt, recAt, rxfAt, txfAt, maskAt, marksAt, -List.reduceReplicate] at h1 h2); omega))) (fun x h1 h2 => gPD x (by (try simp +zetaDelta only [length_leBytes, List.length_append, List.length_replicate, List.length_take, List.length_drop, List.length_cons, List.length_nil, length_padTo, length_rxEntry, Desc.length_bytes, length_stRead, length_gaugeBytes, txAt, rxBufAt, txBufAt, rxRecAt, descAt, snapAt, recAt, rxfAt, txfAt, maskAt, marksAt, -List.reduceReplicate] at h1 h2); omega) (by (try simp +zetaDelta only [length_leBytes, List.length_append, List.length_replicate, List.length_take, List.length_drop, List.length_cons, List.length_nil, length_padTo, length_rxEntry, Desc.length_bytes, length_stRead, length_gaugeBytes, txAt, rxBufAt, txBufAt, rxRecAt, descAt, snapAt, recAt, rxfAt, txfAt, maskAt, marksAt, -List.reduceReplicate] at h1 h2); omega))
  try clear_value x4
  extract_lets -merge -underBinder +onlyGivenNames x5
  have hx5 : StSame R s0 x5 := State.stPut_stores _ _ _ hx4 (fun x h1 h2 => gPD x (by (try simp +zetaDelta only [length_leBytes, List.length_append, List.length_replicate, List.length_take, List.length_drop, List.length_cons, List.length_nil, length_padTo, length_rxEntry, Desc.length_bytes, length_stRead, length_gaugeBytes, txAt, rxBufAt, txBufAt, rxRecAt, descAt, snapAt, recAt, rxfAt, txfAt, maskAt, marksAt, -List.reduceReplicate] at h1 h2); omega) (by (try simp +zetaDelta only [length_leBytes, List.length_append, List.length_replicate, List.length_take, List.length_drop, List.length_cons, List.length_nil, length_padTo, length_rxEntry, Desc.length_bytes, length_stRead, length_gaugeBytes, txAt, rxBufAt, txBufAt, rxRecAt, descAt, snapAt, recAt, rxfAt, txfAt, maskAt, marksAt, -List.reduceReplicate] at h1 h2); omega))
  try clear_value x5
  exact State.stPut_stores _ _ _ hx5 (fun x h1 h2 => gPD x (by (try simp +zetaDelta only [length_leBytes, List.length_append, List.length_replicate, List.length_take, List.length_drop, List.length_cons, List.length_nil, length_padTo, length_rxEntry, Desc.length_bytes, length_stRead, length_gaugeBytes, txAt, rxBufAt, txBufAt, rxRecAt, descAt, snapAt, recAt, rxfAt, txfAt, maskAt, marksAt, -List.reduceReplicate] at h1 h2); omega) (by (try simp +zetaDelta only [length_leBytes, List.length_append, List.length_replicate, List.length_take, List.length_drop, List.length_cons, List.length_nil, length_padTo, length_rxEntry, Desc.length_bytes, length_stRead, length_gaugeBytes, txAt, rxBufAt, txBufAt, rxRecAt, descAt, snapAt, recAt, rxfAt, txfAt, maskAt, marksAt, -List.reduceReplicate] at h1 h2); omega))

theorem State.txPop_stores (n : Port) (i : ℕ) (hk : StSame R s0 s) : StSame R s0 (State.txPop s n i) := by
  unfold State.txPop
  exact State.modPdl_stores _ _ hk

theorem State.hostDone_stores (n : Port) (status : ℕ) (hk : StSame R s0 s) : StSame R s0 (State.hostDone s n status) := by
  unfold State.hostDone
  extract_lets -merge -underBinder +onlyGivenNames x0
  have hx0 : StSame R s0 x0 := State.put_stores _ _ _ (State.put_stores _ _ _ hk)
  try clear_value x0
  exact State.raise_stores _ _ hx0

theorem State.txEnd_stores (n : Port) (i : ℕ) (status : ℕ) (hk : StSame R s0 s) (gPD : ∀ x, 0x4000 * n.val ≤ x → x < 0x4000 * n.val + 0x4000 → R x) (gDESC : ∀ x, 0xC0000 ≤ x → x < 0xD0000 → R x) : StSame R s0 (State.txEnd s n i status) := by
  unfold State.txEnd
  extract_lets -merge -underBinder +onlyGivenNames x0 x1 x2
  have hx2 : StSame R s0 x2 := StSame.ite (fun _ => State.txCtrUp_stores _ _ hk) (fun _ => hk)
  try clear_value x2
  extract_lets -merge -underBinder +onlyGivenNames x3
  have hx3 : StSame R s0 x3 := State.txPop_stores _ _ (State.txWrite_stores _ _ _ hx2 gPD)
  try clear_value x3
  extract_lets -merge -underBinder +onlyGivenNames x4
  have hx4 : StSame R s0 x4 := StSame.ite (fun _ => State.modFw_stores _ _ (State.hostDone_stores _ _ hx3)) (fun _ => hx3)
  try clear_value x4
  extract_lets -merge -underBinder +onlyGivenNames x5
  have hx5 : StSame R s0 x5 := State.modFw_stores _ _ hx4
  try clear_value x5
  extract_lets -merge -underBinder +onlyGivenNames x6
  have hx6 : StSame R s0 x6 := State.put_stores _ _ _ (State.put_stores _ _ _ hx5)
  try clear_value x6
  extract_lets -merge -underBinder +onlyGivenNames x7
  have hx7 : StSame R s0 x7 := by
    unfold x7
    split
    · exact State.bump_stores _ _ _ (State.raise_stores _ _ hx6)
    · exact State.bump_stores _ _ _ (State.raise_stores _ _ hx6)
    · exact State.bump_stores _ _ _ (State.raise_stores _ _ hx6)
    · exact State.bump_stores _ _ _ (State.raise_stores _ _ hx6)
    · exact State.bump_stores _ _ _ (State.raise_stores _ _ hx6)
    · exact State.raise_stores _ _ hx6
  try clear_value x7
  extract_lets -merge -underBinder +onlyGivenNames x8
  have hx8 : StSame R s0 x8 := State.postPort_stores _ _ _ _ _ hx7 gDESC
  try clear_value x8
  exact StSame.ite (fun _ => State.postPort_stores _ _ _ _ _ hx8 gDESC) (fun _ => hx8)

theorem State.txEndAll_stores (n : Port) (pick : State → ℕ → Bool) (status : ℕ) (hk : StSame R s0 s) (gPD : ∀ x, 0x4000 * n.val ≤ x → x < 0x4000 * n.val + 0x4000 → R x) (gDESC : ∀ x, 0xC0000 ≤ x → x < 0xD0000 → R x) : StSame R s0 (State.txEndAll s n pick status) := by
  unfold State.txEndAll
  exact foldl_stores _ hk (fun _ _ _ h0 => StSame.ite (fun _ => State.txEnd_stores _ _ _ h0 gPD gDESC) (fun _ => h0))

theorem State.reasmDrop_stores (n : Port) (hk : StSame R s0 s) : StSame R s0 (State.reasmDrop s n) := by
  unfold State.reasmDrop
  extract_lets -merge -underBinder +onlyGivenNames x0
  have hx0 : StSame R s0 x0 := foldl_stores _ hk (fun _ _ _ h1 => State.put_stores _ _ _ h1)
  try clear_value x0
  exact State.modPdl_stores _ _ hx0

theorem State.pdlCleanup_stores (n : Port) (hk : StSame R s0 s) (gPD : ∀ x, 0x4000 * n.val ≤ x → x < 0x4000 * n.val + 0x4000 → R x) (gDESC : ∀ x, 0xC0000 ≤ x → x < 0xD0000 → R x) : StSame R s0 (State.pdlCleanup s n) := by
  unfold State.pdlCleanup
  extract_lets -merge -underBinder +onlyGivenNames x0
  have hx0 : StSame R s0 x0 := State.txEndAll_stores _ _ _ hk gPD gDESC
  try clear_value x0
  extract_lets -merge -underBinder +onlyGivenNames x1
  have hx1 : StSame R s0 x1 := State.reasmDrop_stores _ hx0
  try clear_value x1
  extract_lets -merge -underBinder +onlyGivenNames x2
  have hx2 : StSame R s0 x2 := State.put_stores _ _ _ (State.wr_stores _ _ _ hx1)
  try clear_value x2
  exact State.modPdl_stores _ _ hx2

theorem State.guardTo_stores (n : Port) (st : ℕ) (hk : StSame R s0 s) : StSame R s0 (State.guardTo s n st) := by
  unfold State.guardTo
  extract_lets -merge -underBinder +onlyGivenNames x0 x1
  have hx1 : StSame R s0 x1 := State.put_stores _ _ _ (State.put_stores _ _ _ hk)
  try clear_value x1
  extract_lets -merge -underBinder +onlyGivenNames x2
  have hx2 : StSame R s0 x2 := State.put_stores _ _ _ hx1
  try clear_value x2
  extract_lets -merge -underBinder +onlyGivenNames x3
  have hx3 : StSame R s0 x3 := StSame.ite (fun _ => hx2) (fun _ => State.put_stores _ _ _ hx2)
  try clear_value x3
  extract_lets -merge -underBinder +onlyGivenNames x4
  have hx4 : StSame R s0 x4 := StSame.ite (fun _ => hx3) (fun _ => State.put_stores _ _ _ hx3)
  try clear_value x4
  exact State.modGuard_stores _ _ hx4

theorem State.guardOff_stores (n : Port) (hk : StSame R s0 s) : StSame R s0 (State.guardOff s n) := by
  unfold State.guardOff
  extract_lets -merge -underBinder +onlyGivenNames x0
  exact StSame.ite (fun _ => State.guardTo_stores _ _ hk) (fun _ => hk)

theorem State.guardEvt_stores (n : Port) (f : Fld) (hk : StSame R s0 s) (gDESC : ∀ x, 0xC0000 ≤ x → x < 0xD0000 → R x) : StSame R s0 (State.guardEvt s n f) := by
  unfold State.guardEvt
  extract_lets -merge -underBinder +onlyGivenNames x0
  have hx0 : StSame R s0 x0 := State.raise_stores _ _ hk
  try clear_value x0
  exact State.postKept_stores _ _ _ _ _ hx0 gDESC

theorem State.setWin_stores (n : Port) (w : ℕ × ℕ) (held : Bool) (hk : StSame R s0 s) : StSame R s0 (State.setWin s n w held) := by
  unfold State.setWin
  exact State.modPol_stores _ _ hk

theorem State.fwGeneration_stores (n : Port) (status : ℕ) (hk : StSame R s0 s) : StSame R s0 (State.fwGeneration s n status) := by
  unfold State.fwGeneration
  extract_lets -merge -underBinder +onlyGivenNames x0
  have hx0 : StSame R s0 x0 := StSame.ite (fun _ => State.hostDone_stores _ _ hk) (fun _ => hk)
  try clear_value x0
  extract_lets -merge -underBinder +onlyGivenNames x1 x2
  have hx2 : StSame R s0 x2 := StSame.ite (fun _ => State.put_stores _ _ _ (State.put_stores _ _ _ (State.put_stores _ _ _ hx0))) (fun _ => hx0)
  try clear_value x2
  exact State.modFw_stores _ _ hx2

theorem State.detach_stores (n : Port) (asSource : Bool) (hk : StSame R s0 s) (gPD : ∀ x, 0x4000 * n.val ≤ x → x < 0x4000 * n.val + 0x4000 → R x) (gDESC : ∀ x, 0xC0000 ≤ x → x < 0xD0000 → R x) (gSNAP : ∀ x, 0x100000 + 32 * n.val ≤ x → x < 0x100020 + 32 * n.val → R x) : StSame R s0 (State.detach s n asSource) := by
  unfold State.detach
  extract_lets -merge -underBinder +onlyGivenNames x0
  have hx0 : StSame R s0 x0 := State.raise_stores _ _ (State.genUp_stores _ hk)
  try clear_value x0
  extract_lets -merge -underBinder +onlyGivenNames x1
  have hx1 : StSame R s0 x1 := State.modCc_stores _ _ hx0
  try clear_value x1
  extract_lets -merge -underBinder +onlyGivenNames x2
  have hx2 : StSame R s0 x2 := State.pdlCleanup_stores _ hx1 gPD gDESC
  try clear_value x2
  extract_lets -merge -underBinder +onlyGivenNames x3
  have hx3 : StSame R s0 x3 := State.put_stores _ _ _ (State.snapClear_stores _ hx2 gSNAP)
  try clear_value x3
  extract_lets -merge -underBinder +onlyGivenNames x4
  have hx4 : StSame R s0 x4 := State.transAbandon_stores _ hx3 gDESC
  try clear_value x4
  extract_lets -merge -underBinder +onlyGivenNames x5
  have hx5 : StSame R s0 x5 := State.put_stores _ _ _ (State.put_stores _ _ _ hx4)
  try clear_value x5
  extract_lets -merge -underBinder +onlyGivenNames x6
  have hx6 : StSame R s0 x6 := State.modPol_stores _ _ (State.put_stores _ _ _ (State.setTarget_stores _ _ hx5))
  try clear_value x6
  extract_lets -merge -underBinder +onlyGivenNames x7
  have hx7 : StSame R s0 x7 := State.put_stores _ _ _ (State.guardOff_stores _ hx6)
  try clear_value x7
  extract_lets -merge -underBinder +onlyGivenNames x8
  have hx8 : StSame R s0 x8 := State.setWin_stores _ _ _ hx7
  try clear_value x8
  extract_lets -merge -underBinder +onlyGivenNames x9
  have hx9 : StSame R s0 x9 := State.hpdClear_stores _ (State.vconnOff_stores _ hx8)
  try clear_value x9
  extract_lets -merge -underBinder +onlyGivenNames x10
  have hx10 : StSame R s0 x10 := State.shareLeave_stores _ hx9 gDESC
  try clear_value x10
  extract_lets -merge -underBinder +onlyGivenNames x11
  have hx11 : StSame R s0 x11 := State.put_stores _ _ _ (State.put_stores _ _ _ hx10)
  try clear_value x11
  extract_lets -merge -underBinder +onlyGivenNames x12
  have hx12 : StSame R s0 x12 := State.modFw_stores _ _ (State.fwGeneration_stores _ _ hx11)
  try clear_value x12
  extract_lets -merge -underBinder +onlyGivenNames x13 x14
  have hx14 : StSame R s0 x14 := StSame.ite (fun _ => StSame.mk' hx12) (fun _ => hx12)
  try clear_value x14
  exact StSame.ite (fun _ => State.modGuard_stores _ _ hx14) (fun _ => hx14)

theorem State.cenOn_stores (n : Port) (hk : StSame R s0 s) : StSame R s0 (State.cenOn s n) := by
  unfold State.cenOn
  exact State.cenLevel_stores _ _ (State.modPol_stores _ _ hk)

theorem State.attachActions_stores (n : Port) (st : CcState) (hk : StSame R s0 s) : StSame R s0 (State.attachActions s n st) := by
  unfold State.attachActions
  split
  · extract_lets -merge -underBinder +onlyGivenNames x0
    have hx0 : StSame R s0 x0 := State.put_stores _ _ _ (State.put_stores _ _ _ hk)
    try clear_value x0
    exact State.cenOn_stores _ (State.setWin_stores _ _ _ hx0)
  · extract_lets -merge -underBinder +onlyGivenNames x1
    have hx1 : StSame R s0 x1 := State.put_stores _ _ _ (State.put_stores _ _ _ hk)
    try clear_value x1
    extract_lets -merge -underBinder +onlyGivenNames x2
    have hx2 : StSame R s0 x2 := State.setWin_stores _ _ _ hx1
    try clear_value x2
    exact StSame.ite (fun _ => State.put_stores _ _ _ hx2) (fun _ => hx2)
  · exact hk

theorem State.hardReset_stores (n : Port) (sent : Bool) (hk : StSame R s0 s) (gPD : ∀ x, 0x4000 * n.val ≤ x → x < 0x4000 * n.val + 0x4000 → R x) (gDESC : ∀ x, 0xC0000 ≤ x → x < 0xD0000 → R x) (gSNAP : ∀ x, 0x100000 + 32 * n.val ≤ x → x < 0x100020 + 32 * n.val → R x) : StSame R s0 (State.hardReset s n sent) := by
  unfold State.hardReset
  extract_lets -merge -underBinder +onlyGivenNames x0 x1 x2 x3
  have hx3 : StSame R s0 x3 := State.genUp_stores _ hk
  try clear_value x3
  extract_lets -merge -underBinder +onlyGivenNames x4
  have hx4 : StSame R s0 x4 := State.reasmDrop_stores _ (State.txEndAll_stores _ _ _ hx3 gPD gDESC)
  try clear_value x4
  extract_lets -merge -underBinder +onlyGivenNames x5
  have hx5 : StSame R s0 x5 := State.put_stores _ _ _ (State.wr_stores _ _ _ hx4)
  try clear_value x5
  extract_lets -merge -underBinder +onlyGivenNames x6
  have hx6 : StSame R s0 x6 := State.modPdl_stores _ _ hx5
  try clear_value x6
  extract_lets -merge -underBinder +onlyGivenNames x7
  have hx7 : StSame R s0 x7 := State.putB_stores _ _ _ hx6
  try clear_value x7
  extract_lets -merge -underBinder +onlyGivenNames x8
  have hx8 : StSame R s0 x8 := State.raise_stores _ _ hx7
  try clear_value x8
  extract_lets -merge -underBinder +onlyGivenNames x9
  have hx9 : StSame R s0 x9 := StSame.ite (fun _ => State.raise_stores _ _ hx8) (fun _ => hx8)
  try clear_value x9
  extract_lets -merge -underBinder +onlyGivenNames x10
  have hx10 : StSame R s0 x10 := State.postPort_stores _ _ _ _ _ hx9 gDESC
  try clear_value x10
  extract_lets -merge -underBinder +onlyGivenNames x11
  have hx11 : StSame R s0 x11 := State.transAbandon_stores _ (State.snapClear_stores _ hx10 gSNAP) gDESC
  try clear_value x11
  extract_lets -merge -underBinder +onlyGivenNames x12
  have hx12 : StSame R s0 x12 := State.hpdClear_stores _ hx11
  try clear_value x12
  extract_lets -merge -underBinder +onlyGivenNames x13
  have hx13 : StSame R s0 x13 := State.shareLeave_stores _ hx12 gDESC
  try clear_value x13
  extract_lets -merge -underBinder +onlyGivenNames x14
  have hx14 : StSame R s0 x14 := State.modCc_stores _ _ hx13
  try clear_value x14
  extract_lets -merge -underBinder +onlyGivenNames x15
  have hx15 : StSame R s0 x15 := State.put_stores _ _ _ hx14
  try clear_value x15
  extract_lets -merge -underBinder +onlyGivenNames x16
  have hx16 : StSame R s0 x16 := State.fwGeneration_stores _ _ hx15
  try clear_value x16
  extract_lets -merge -underBinder +onlyGivenNames x17 x18
  have hx18 : StSame R s0 x18 := StSame.ite (fun _ => State.bump_stores _ _ _ hx16) (fun _ => hx16)
  try clear_value x18
  extract_lets -merge -underBinder +onlyGivenNames x19
  have hx19 : StSame R s0 x19 := State.put_stores _ _ _ hx18
  try clear_value x19
  exact StSame.ite (fun _ => StSame.ite (fun _ => State.modPol_stores _ _ (State.bump_stores _ _ _ (State.put_stores _ _ _ hx16))) (fun _ => hx16)) (fun _ => State.modCc_stores _ _ hx19)

theorem State.hardResetStart_stores (n : Port) (hk : StSame R s0 s) (gPD : ∀ x, 0x4000 * n.val ≤ x → x < 0x4000 * n.val + 0x4000 → R x) (gDESC : ∀ x, 0xC0000 ≤ x → x < 0xD0000 → R x) : StSame R s0 (State.hardResetStart s n) := by
  unfold State.hardResetStart
  extract_lets -merge -underBinder +onlyGivenNames x0
  have hx0 : StSame R s0 x0 := State.reasmDrop_stores _ (State.txEndAll_stores _ _ _ hk gPD gDESC)
  try clear_value x0
  extract_lets -merge -underBinder +onlyGivenNames x1
  have hx1 : StSame R s0 x1 := State.modPdl_stores _ _ hx0
  try clear_value x1
  exact StSame.ite (fun _ => State.put_stores _ _ _ (State.modFw_stores _ _ hx1)) (fun _ => hk)

theorem State.retire_stores (n : Port) (cause : Option ℕ) (hk : StSame R s0 s) (gPD : ∀ x, 0x4000 * n.val ≤ x → x < 0x4000 * n.val + 0x4000 → R x) (gDESC : ∀ x, 0xC0000 ≤ x → x < 0xD0000 → R x) (gSNAP : ∀ x, 0x100000 + 32 * n.val ≤ x → x < 0x100020 + 32 * n.val → R x) : StSame R s0 (State.retire s n cause) := by
  unfold State.retire
  extract_lets -merge -underBinder +onlyGivenNames x0 x1
  have hx1 : StSame R s0 x1 := by
    unfold x1
    split
    · exact State.put_stores _ _ _ hk
    · exact hk
  try clear_value x1
  extract_lets -merge -underBinder +onlyGivenNames x2 x3
  have hx3 : StSame R s0 x3 := StSame.ite (fun _ => State.detach_stores _ _ hx1 gPD gDESC gSNAP) (fun _ => State.snapClear_stores _ hx1 gSNAP)
  try clear_value x3
  extract_lets -merge -underBinder +onlyGivenNames x4
  have hx4 : StSame R s0 x4 := State.put_stores _ _ _ (State.guardTo_stores _ _ hx3)
  try clear_value x4
  extract_lets -merge -underBinder +onlyGivenNames x5
  have hx5 : StSame R s0 x5 := State.vconnOff_stores _ hx4
  try clear_value x5
  extract_lets -merge -underBinder +onlyGivenNames x6 x7
  have hx7 : StSame R s0 x7 := State.put_stores _ _ _ hx5
  try clear_value x7
  extract_lets -merge -underBinder +onlyGivenNames x8
  have hx8 : StSame R s0 x8 := State.put_stores _ _ _ (State.put_stores _ _ _ hx7)
  try clear_value x8
  extract_lets -merge -underBinder +onlyGivenNames x9
  have hx9 : StSame R s0 x9 := State.put_stores _ _ _ (State.put_stores _ _ _ (State.put_stores _ _ _ hx8))
  try clear_value x9
  extract_lets -merge -underBinder +onlyGivenNames x10
  have hx10 : StSame R s0 x10 := State.raise_stores _ _ hx9
  try clear_value x10
  extract_lets -merge -underBinder +onlyGivenNames x11
  have hx11 : StSame R s0 x11 := State.modCc_stores _ _ hx10
  try clear_value x11
  exact StSame.ite (fun _ => hk) (fun _ => State.guardEvt_stores _ _ hx11 gDESC)

theorem State.powerRestart_stores (n : Port) (hk : StSame R s0 s) (gSNAP : ∀ x, 0x100000 + 32 * n.val ≤ x → x < 0x100020 + 32 * n.val → R x) (gPD : ∀ x, 0x4000 * n.val ≤ x → x < 0x4000 * n.val + 0x4000 → R x) (gDESC : ∀ x, 0xC0000 ≤ x → x < 0xD0000 → R x) : StSame R s0 (State.powerRestart s n) := by
  unfold State.powerRestart
  extract_lets -merge -underBinder +onlyGivenNames x0
  have hx0 : StSame R s0 x0 := State.snapClear_stores _ (State.genUp_stores _ hk) gSNAP
  try clear_value x0
  extract_lets -merge -underBinder +onlyGivenNames x1
  have hx1 : StSame R s0 x1 := State.put_stores _ _ _ (State.pdlCleanup_stores _ hx0 gPD gDESC)
  try clear_value x1
  extract_lets -merge -underBinder +onlyGivenNames x2
  have hx2 : StSame R s0 x2 := State.vconnOff_stores _ (State.hpdClear_stores _ hx1)
  try clear_value x2
  exact State.modCc_stores _ _ (State.fwGeneration_stores _ _ hx2)

theorem State.trip_stores (n : Port) (causes : ℕ) (src : Bool) (hk : StSame R s0 s) (gDESC : ∀ x, 0xC0000 ≤ x → x < 0xD0000 → R x) (gSNAP : ∀ x, 0x100000 + 32 * n.val ≤ x → x < 0x100020 + 32 * n.val → R x) (gPD : ∀ x, 0x4000 * n.val ≤ x → x < 0x4000 * n.val + 0x4000 → R x) : StSame R s0 (State.trip s n causes src) := by
  unfold State.trip
  extract_lets -merge -underBinder +onlyGivenNames x0 x1 x2 x3 x4 x5
  have hx5 : StSame R s0 x5 := State.guardTo_stores _ _ hk
  try clear_value x5
  extract_lets -merge -underBinder +onlyGivenNames x6
  have hx6 : StSame R s0 x6 := State.put_stores _ _ _ (State.put_stores _ _ _ hx5)
  try clear_value x6
  extract_lets -merge -underBinder +onlyGivenNames x7
  have hx7 : StSame R s0 x7 := State.put_stores _ _ _ (State.put_stores _ _ _ hx6)
  try clear_value x7
  extract_lets -merge -underBinder +onlyGivenNames x8
  have hx8 : StSame R s0 x8 := State.bump_stores _ _ _ (State.put_stores _ _ _ hx7)
  try clear_value x8
  extract_lets -merge -underBinder +onlyGivenNames x9
  have hx9 : StSame R s0 x9 := State.modGuard_stores _ _ hx8
  try clear_value x9
  extract_lets -merge -underBinder +onlyGivenNames x10
  have hx10 : StSame R s0 x10 := State.raiseIf_stores _ _ _ (State.raiseIf_stores _ _ _ hx9)
  try clear_value x10
  extract_lets -merge -underBinder +onlyGivenNames x11
  have hx11 : StSame R s0 x11 := State.guardEvt_stores _ _ hx10 gDESC
  try clear_value x11
  extract_lets -merge -underBinder +onlyGivenNames x12
  have hx12 : StSame R s0 x12 := StSame.ite (fun _ => State.put_stores _ _ _ hx11) (fun _ => hx11)
  try clear_value x12
  extract_lets -merge -underBinder +onlyGivenNames x13
  have hx13 : StSame R s0 x13 := State.modFw_stores _ _ hx12
  try clear_value x13
  extract_lets -merge -underBinder +onlyGivenNames x14
  have hx14 : StSame R s0 x14 := StSame.ite (fun _ => State.setTarget_stores _ _ (State.dschOn_stores _ _ _ (State.transAbandon_stores _ hx13 gDESC))) (fun _ => hx13)
  try clear_value x14
  extract_lets -merge -underBinder +onlyGivenNames x15
  have hx15 : StSame R s0 x15 := StSame.ite (fun _ => State.powerRestart_stores _ hx14 gSNAP gPD gDESC) (fun _ => hx14)
  try clear_value x15
  extract_lets -merge -underBinder +onlyGivenNames x16
  have hx16 : StSame R s0 x16 := StSame.ite (fun _ => State.shareLeave_stores _ hx15 gDESC) (fun _ => hx15)
  try clear_value x16
  exact StSame.ite (fun _ => State.retire_stores _ _ hx16 gPD gDESC gSNAP) (fun _ => StSame.ite (fun _ => StSame.ite (fun _ => State.put_stores _ _ _ hx16) (fun _ => hx16)) (fun _ => State.put_stores _ _ _ hx16))

theorem State.guardHalt_stores (n : Port) (hk : StSame R s0 s) : StSame R s0 (State.guardHalt s n) := by
  unfold State.guardHalt
  extract_lets -merge -underBinder +onlyGivenNames x0
  have hx0 : StSame R s0 x0 := State.guardOff_stores _ hk
  try clear_value x0
  exact StSame.ite (fun _ => State.dschOn_stores _ _ _ hx0) (fun _ => hx0)

theorem State.joinedOff_stores (n : Port) (hk : StSame R s0 s) : StSame R s0 (State.joinedOff s n) := by
  unfold State.joinedOff
  exact StSame.ite (fun _ => State.guardHalt_stores _ hk) (fun _ => hk)

theorem State.ccEnter_stores (n : Port) (st : CcState) (hk : StSame R s0 s) (gPD : ∀ x, 0x4000 * n.val ≤ x → x < 0x4000 * n.val + 0x4000 → R x) (gDESC : ∀ x, 0xC0000 ≤ x → x < 0xD0000 → R x) (gSNAP : ∀ x, 0x100000 + 32 * n.val ≤ x → x < 0x100020 + 32 * n.val → R x) : StSame R s0 (State.ccEnter s n st) := by
  unfold State.ccEnter
  extract_lets -merge -underBinder +onlyGivenNames x0 x1
  have hx1 : StSame R s0 x1 := StSame.ite (fun _ => State.detach_stores _ _ hk gPD gDESC gSNAP) (fun _ => hk)
  try clear_value x1
  extract_lets -merge -underBinder +onlyGivenNames x2 x3
  have hx3 : StSame R s0 x3 := State.put_stores _ _ _ hx1
  try clear_value x3
  extract_lets -merge -underBinder +onlyGivenNames x4
  have hx4 : StSame R s0 x4 := State.putB_stores _ _ _ hx3
  try clear_value x4
  extract_lets -merge -underBinder +onlyGivenNames x5
  have hx5 : StSame R s0 x5 := State.putB_stores _ _ _ hx4
  try clear_value x5
  extract_lets -merge -underBinder +onlyGivenNames x6 x7
  have hx7 : StSame R s0 x7 := State.putB_stores _ _ _ hx5
  try clear_value x7
  extract_lets -merge -underBinder +onlyGivenNames x8
  have hx8 : StSame R s0 x8 := StSame.ite (fun _ => State.vconnOff_stores _ (State.joinedOff_stores _ hx7)) (fun _ => hx7)
  try clear_value x8
  extract_lets -merge -underBinder +onlyGivenNames x9
  have hx9 : StSame R s0 x9 := State.put_stores _ _ _ hx8
  try clear_value x9
  extract_lets -merge -underBinder +onlyGivenNames x10 x11
  have hx11 : StSame R s0 x11 := StSame.ite (fun _ => State.put_stores _ _ _ hx9) (fun _ => hx9)
  try clear_value x11
  extract_lets -merge -underBinder +onlyGivenNames x12
  have hx12 : StSame R s0 x12 := State.modPort_stores _ _ hx11
  try clear_value x12
  extract_lets -merge -underBinder +onlyGivenNames x13 x14
  have hx14 : StSame R s0 x14 := State.put_stores _ _ _ hx12
  try clear_value x14
  extract_lets -merge -underBinder +onlyGivenNames x15
  have hx15 : StSame R s0 x15 := State.raiseIf_stores _ _ _ (State.raise_stores _ _ hx14)
  try clear_value x15
  exact StSame.ite (fun _ => State.attachActions_stores _ _ (State.modPort_stores _ _ hx15)) (fun _ => hx14)

theorem State.ccResume_stores (n : Port) (hk : StSame R s0 s) (gPD : ∀ x, 0x4000 * n.val ≤ x → x < 0x4000 * n.val + 0x4000 → R x) (gDESC : ∀ x, 0xC0000 ≤ x → x < 0xD0000 → R x) (gSNAP : ∀ x, 0x100000 + 32 * n.val ≤ x → x < 0x100020 + 32 * n.val → R x) : StSame R s0 (State.ccResume s n) := by
  unfold State.ccResume
  extract_lets -merge -underBinder +onlyGivenNames x0
  exact StSame.ite (fun _ => StSame.ite (fun _ => hk) (fun _ => State.ccEnter_stores _ _ hk gPD gDESC gSNAP)) (fun _ => State.ccEnter_stores _ _ hk gPD gDESC gSNAP)

theorem State.attachWait_stores (n : Port) (st : CcState) (c : CcClass) (hk : StSame R s0 s) (gPD : ∀ x, 0x4000 * n.val ≤ x → x < 0x4000 * n.val + 0x4000 → R x) (gDESC : ∀ x, 0xC0000 ≤ x → x < 0xD0000 → R x) (gSNAP : ∀ x, 0x100000 + 32 * n.val ≤ x → x < 0x100020 + 32 * n.val → R x) : StSame R s0 (State.attachWait s n st c) := by
  unfold State.attachWait
  extract_lets -merge -underBinder +onlyGivenNames x0
  exact State.ccEnter_stores _ _ (State.put_stores _ _ _ hk) gPD gDESC gSNAP

theorem State.attachOn_stores (n : Port) (pin : ℕ) (st : CcState) (hk : StSame R s0 s) (gPD : ∀ x, 0x4000 * n.val ≤ x → x < 0x4000 * n.val + 0x4000 → R x) (gDESC : ∀ x, 0xC0000 ≤ x → x < 0xD0000 → R x) (gSNAP : ∀ x, 0x100000 + 32 * n.val ≤ x → x < 0x100020 + 32 * n.val → R x) : StSame R s0 (State.attachOn s n pin st) := by
  unfold State.attachOn
  extract_lets -merge -underBinder +onlyGivenNames x0 x1
  have hx1 : StSame R s0 x1 := State.ccEnter_stores _ _ hk gPD gDESC gSNAP
  try clear_value x1
  exact StSame.ite (fun _ => State.modPort_stores _ _ hx1) (fun _ => hx1)

theorem State.debWait_stores (n : Port) (hk : StSame R s0 s) : StSame R s0 (State.debWait s n) := by
  unfold State.debWait
  exact State.modPort_stores _ _ hk

theorem State.debounced_stores (n : Port) (hk : StSame R s0 s) (gPD : ∀ x, 0x4000 * n.val ≤ x → x < 0x4000 * n.val + 0x4000 → R x) (gDESC : ∀ x, 0xC0000 ≤ x → x < 0xD0000 → R x) (gSNAP : ∀ x, 0x100000 + 32 * n.val ≤ x → x < 0x100020 + 32 * n.val → R x) : StSame R s0 (State.debounced s n) := by
  unfold State.debounced
  split
  · split
    · exact StSame.ite (fun _ => State.ccEnter_stores _ _ hk gPD gDESC gSNAP) (fun _ => StSame.ite (fun _ => State.attachOn_stores _ _ _ hk gPD gDESC gSNAP) (fun _ => State.debWait_stores _ hk))
    · exact StSame.ite (fun _ => StSame.ite (fun _ => State.ccEnter_stores _ _ hk gPD gDESC gSNAP) (fun _ => State.debWait_stores _ hk)) (fun _ => hk)
  · split
    · exact StSame.ite (fun _ => State.debWait_stores _ hk) (fun _ => StSame.ite (fun _ => State.ccEnter_stores _ _ hk gPD gDESC gSNAP) (fun _ => State.attachOn_stores _ _ _ hk gPD gDESC gSNAP))
    · exact StSame.ite (fun _ => StSame.ite (fun _ => State.ccEnter_stores _ _ hk gPD gDESC gSNAP) (fun _ => StSame.ite (fun _ => State.ccEnter_stores _ _ hk gPD gDESC gSNAP) (fun _ => hk))) (fun _ => hk)
  · split
    · exact StSame.ite (fun _ => State.attachOn_stores _ _ _ hk gPD gDESC gSNAP) (fun _ => State.debWait_stores _ hk)
    · exact hk
  · split
    · exact StSame.ite (fun _ => State.attachOn_stores _ _ _ hk gPD gDESC gSNAP) (fun _ => State.debWait_stores _ hk)
    · exact hk
  · split
    · exact StSame.ite (fun _ => State.attachOn_stores _ _ _ hk gPD gDESC gSNAP) (fun _ => State.debWait_stores _ hk)
    · exact hk
  · exact hk

theorem State.rpRead_stores (n : Port) (hk : StSame R s0 s) : StSame R s0 (State.rpRead s n) := by
  unfold State.rpRead
  extract_lets -merge -underBinder +onlyGivenNames x0 x1 x2
  exact StSame.ite (fun _ => hk) (fun _ => State.put_stores _ _ _ (State.raiseIf_stores _ _ _ hk))

theorem State.pdDebounced_stores (n : Port) (hk : StSame R s0 s) (gPD : ∀ x, 0x4000 * n.val ≤ x → x < 0x4000 * n.val + 0x4000 → R x) (gDESC : ∀ x, 0xC0000 ≤ x → x < 0xD0000 → R x) (gSNAP : ∀ x, 0x100000 + 32 * n.val ≤ x → x < 0x100020 + 32 * n.val → R x) : StSame R s0 (State.pdDebounced s n) := by
  unfold State.pdDebounced
  split
  · exact StSame.ite (fun _ => State.ccEnter_stores _ _ hk gPD gDESC gSNAP) (fun _ => State.rpRead_stores _ hk)
  · exact StSame.ite (fun _ => State.ccEnter_stores _ _ hk gPD gDESC gSNAP) (fun _ => hk)
  · split
    · exact State.attachOn_stores _ _ _ hk gPD gDESC gSNAP
    · exact hk
  · exact StSame.ite (fun _ => State.ccEnter_stores _ _ hk gPD gDESC gSNAP) (fun _ => State.rpRead_stores _ hk)
  · exact StSame.ite (fun _ => StSame.ite (fun _ => State.debounced_stores _ hk gPD gDESC gSNAP) (fun _ => State.ccEnter_stores _ _ hk gPD gDESC gSNAP)) (fun _ => State.rpRead_stores _ hk)
  · exact State.debounced_stores _ hk gPD gDESC gSNAP
  · exact StSame.ite (fun _ => State.ccEnter_stores _ _ hk gPD gDESC gSNAP) (fun _ => hk)
  · exact StSame.ite (fun _ => State.ccEnter_stores _ _ hk gPD gDESC gSNAP) (fun _ => hk)
  · exact StSame.ite (fun _ => State.ccEnter_stores _ _ hk gPD gDESC gSNAP) (fun _ => State.rpRead_stores _ hk)
  · exact StSame.ite (fun _ => State.ccEnter_stores _ _ hk gPD gDESC gSNAP) (fun _ => State.rpRead_stores _ hk)
  · exact hk

theorem State.shadowWatch_stores (n : Port) (anew : Bool) (hk : StSame R s0 s) : StSame R s0 (State.shadowWatch s n anew) := by
  unfold State.shadowWatch
  extract_lets -merge -underBinder +onlyGivenNames x0 x1 x2
  exact StSame.ite (fun _ => State.putB_stores _ _ _ (State.putB_stores _ _ _ hk)) (fun _ => hk)

theorem State.ccJudge_stores (n : Port) (hk : StSame R s0 s) (gPD : ∀ x, 0x4000 * n.val ≤ x → x < 0x4000 * n.val + 0x4000 → R x) (gDESC : ∀ x, 0xC0000 ≤ x → x < 0xD0000 → R x) (gSNAP : ∀ x, 0x100000 + 32 * n.val ≤ x → x < 0x100020 + 32 * n.val → R x) : StSame R s0 (State.ccJudge s n) := by
  unfold State.ccJudge
  split
  · exact StSame.ite (fun _ => State.attachWait_stores _ _ _ hk gPD gDESC gSNAP) (fun _ => hk)
  · exact StSame.ite (fun _ => State.attachWait_stores _ _ _ hk gPD gDESC gSNAP) (fun _ => StSame.ite (fun _ => State.attachWait_stores _ _ _ hk gPD gDESC gSNAP) (fun _ => hk))
  · exact StSame.ite (fun _ => State.ccEnter_stores _ _ hk gPD gDESC gSNAP) (fun _ => hk)
  · exact State.shadowWatch_stores _ _ hk
  · exact hk

theorem State.ccStore_stores (n : Port) (mv1 : ℕ) (mv2 : ℕ) (hk : StSame R s0 s) : StSame R s0 (State.ccStore s n mv1 mv2) := by
  unfold State.ccStore
  extract_lets -merge -underBinder +onlyGivenNames x0
  exact State.modCc_stores _ _ hk

theorem State.ccLine_stores (n : Port) (mv1 : ℕ) (mv2 : ℕ) (hk : StSame R s0 s) (gPD : ∀ x, 0x4000 * n.val ≤ x → x < 0x4000 * n.val + 0x4000 → R x) (gDESC : ∀ x, 0xC0000 ≤ x → x < 0xD0000 → R x) (gSNAP : ∀ x, 0x100000 + 32 * n.val ≤ x → x < 0x100020 + 32 * n.val → R x) : StSame R s0 (State.ccLine s n mv1 mv2) := by
  unfold State.ccLine
  extract_lets -merge -underBinder +onlyGivenNames x0
  have hx0 : StSame R s0 x0 := State.ccStore_stores _ _ _ hk
  try clear_value x0
  exact StSame.ite (fun _ => State.ccJudge_stores _ hx0 gPD gDESC gSNAP) (fun _ => hx0)

theorem State.vconnOn_stores (n : Port) (hk : StSame R s0 s) : StSame R s0 (State.vconnOn s n) := by
  unfold State.vconnOn
  exact State.modPort_stores _ _ (State.putB_stores _ _ _ hk)

theorem State.ccCfgApply_stores (n : Port) (hk : StSame R s0 s) : StSame R s0 (State.ccCfgApply s n) := by
  unfold State.ccCfgApply
  extract_lets -merge -underBinder +onlyGivenNames x0 x1 x2 x3 x4 x5 x6 x7 x8 x9 x10 x11
  have hx11 : StSame R s0 x11 := foldl_stores _ hk (fun _ _ _ h12 => StSame.mk' h12)
  try clear_value x11
  exact StSame.mk' hx11

theorem State.clampRemoval_stores (n : Port) (was : Bool) (hk : StSame R s0 s) (gPD : ∀ x, 0x4000 * n.val ≤ x → x < 0x4000 * n.val + 0x4000 → R x) (gDESC : ∀ x, 0xC0000 ≤ x → x < 0xD0000 → R x) (gSNAP : ∀ x, 0x100000 + 32 * n.val ≤ x → x < 0x100020 + 32 * n.val → R x) : StSame R s0 (State.clampRemoval s n was) := by
  unfold State.clampRemoval
  extract_lets -merge -underBinder +onlyGivenNames x0
  refine StSame.ite (fun _ => ?_) (fun _ => ?_)
  · split
    · exact StSame.ite (fun _ => State.ccEnter_stores _ _ hk gPD gDESC gSNAP) (fun _ => State.modCc_stores _ _ (State.putB_stores _ _ _ hk))
    · exact StSame.ite (fun _ => State.ccEnter_stores _ _ hk gPD gDESC gSNAP) (fun _ => State.modCc_stores _ _ (State.putB_stores _ _ _ hk))
    · exact StSame.ite (fun _ => State.ccEnter_stores _ _ hk gPD gDESC gSNAP) (fun _ => State.modCc_stores _ _ (State.putB_stores _ _ _ hk))
    · exact State.ccEnter_stores _ _ hk gPD gDESC gSNAP
    · exact hk
  · exact hk

theorem State.clampRead_stores (n : Port) (hk : StSame R s0 s) : StSame R s0 (State.clampRead s n) := by
  unfold State.clampRead
  extract_lets -merge -underBinder +onlyGivenNames x0
  have hx0 : StSame R s0 x0 := State.modCc_stores _ _ hk
  try clear_value x0
  exact StSame.ite (fun _ => StSame.ite (fun _ => hx0) (fun _ => State.rpRead_stores _ hx0)) (fun _ => hk)

theorem State.ccOrders_stores (n : Port) (hk : StSame R s0 s) (gPD : ∀ x, 0x4000 * n.val ≤ x → x < 0x4000 * n.val + 0x4000 → R x) (gDESC : ∀ x, 0xC0000 ≤ x → x < 0xD0000 → R x) (gSNAP : ∀ x, 0x100000 + 32 * n.val ≤ x → x < 0x100020 + 32 * n.val → R x) : StSame R s0 (State.ccOrders s n) := by
  unfold State.ccOrders
  extract_lets -merge -underBinder +onlyGivenNames x0 x1 x2
  have hx2 : StSame R s0 x2 := State.modCc_stores _ _ hk
  try clear_value x2
  exact StSame.ite (fun _ => hx2) (fun _ => StSame.ite (fun _ => State.ccEnter_stores _ _ hx2 gPD gDESC gSNAP) (fun _ => StSame.ite (fun _ => StSame.ite (fun _ => State.joinedOff_stores _ hx2) (fun _ => State.ccEnter_stores _ _ (State.guardHalt_stores _ hx2) gPD gDESC gSNAP)) (fun _ => hx2)))

theorem State.vconnTick_stores (n : Port) (hk : StSame R s0 s) : StSame R s0 (State.vconnTick s n) := by
  unfold State.vconnTick
  extract_lets -merge -underBinder +onlyGivenNames x0 x1 x2
  have hx2 : StSame R s0 x2 := StSame.ite (fun _ => State.modCc_stores _ _ hk) (fun _ => hk)
  try clear_value x2
  extract_lets -merge -underBinder +onlyGivenNames x3 x4 x5 x6 x7
  have hx7 : StSame R s0 x7 := State.put_stores _ _ _ (State.put_stores _ _ _ hx2)
  try clear_value x7
  extract_lets -merge -underBinder +onlyGivenNames x8
  have hx8 : StSame R s0 x8 := State.putB_stores _ _ _ hx7
  try clear_value x8
  exact StSame.ite (fun _ => State.freshen_stores hx8) (fun _ => hx8)

theorem State.takenRpTick_stores (n : Port) (hk : StSame R s0 s) : StSame R s0 (State.takenRpTick s n) := by
  unfold State.takenRpTick
  split
  · exact StSame.ite (fun _ => State.modCc_stores _ _ hk) (fun _ => hk)
  · exact hk

theorem State.lineShow_stores (n : Port) (hk : StSame R s0 s) : StSame R s0 (State.lineShow s n) := by
  unfold State.lineShow
  extract_lets -merge -underBinder +onlyGivenNames x0 x1
  have hx1 : StSame R s0 x1 := State.put_stores _ _ _ (State.put_stores _ _ _ hk)
  try clear_value x1
  exact State.put_stores _ _ _ (State.put_stores _ _ _ hx1)

theorem State.ccTick_stores (n : Port) (hk : StSame R s0 s) (gPD : ∀ x, 0x4000 * n.val ≤ x → x < 0x4000 * n.val + 0x4000 → R x) (gDESC : ∀ x, 0xC0000 ≤ x → x < 0xD0000 → R x) (gSNAP : ∀ x, 0x100000 + 32 * n.val ≤ x → x < 0x100020 + 32 * n.val → R x) : StSame R s0 (State.ccTick s n) := by
  unfold State.ccTick
  extract_lets -merge -underBinder +onlyGivenNames x0 x1 x2 x3
  have hx3 : StSame R s0 x3 := State.clampRead_stores _ (State.ccOrders_stores _ hk gPD gDESC gSNAP)
  try clear_value x3
  extract_lets -merge -underBinder +onlyGivenNames x4
  have hx4 : StSame R s0 x4 := State.takenRpTick_stores _ (State.ccCfgApply_stores _ hx3)
  try clear_value x4
  extract_lets -merge -underBinder +onlyGivenNames x5
  have hx5 : StSame R s0 x5 := State.clampRemoval_stores _ _ hx4 gPD gDESC gSNAP
  try clear_value x5
  extract_lets -merge -underBinder +onlyGivenNames x6 x7
  have hx7 : StSame R s0 x7 := State.put_stores _ _ _ hx5
  try clear_value x7
  extract_lets -merge -underBinder +onlyGivenNames x8 x9
  have hx9 : StSame R s0 x9 := StSame.ite (fun _ => State.ccEnter_stores _ _ hx7 gPD gDESC gSNAP) (fun _ => StSame.ite (fun _ => State.ccEnter_stores _ _ hx7 gPD gDESC gSNAP) (fun _ => hx7))
  try clear_value x9
  extract_lets -merge -underBinder +onlyGivenNames x10
  have hx10 : StSame R s0 x10 := StSame.ite (fun _ => State.ccResume_stores _ hx9 gPD gDESC gSNAP) (fun _ => hx9)
  try clear_value x10
  extract_lets -merge -underBinder +onlyGivenNames x11
  have hx11 : StSame R s0 x11 := State.ccJudge_stores _ hx10 gPD gDESC gSNAP
  try clear_value x11
  extract_lets -merge -underBinder +onlyGivenNames x12
  have hx12 : StSame R s0 x12 := StSame.ite (fun _ => State.debounced_stores _ hx11 gPD gDESC gSNAP) (fun _ => hx11)
  try clear_value x12
  extract_lets -merge -underBinder +onlyGivenNames x13
  have hx13 : StSame R s0 x13 := State.vconnTick_stores _ (State.lineShow_stores _ hx12)
  try clear_value x13
  extract_lets -merge -underBinder +onlyGivenNames x14 x15
  have hx15 : StSame R s0 x15 := StSame.ite (fun _ => StSame.ite (fun _ => StSame.ite (fun _ => State.hrDone_stores _ (State.modPort_stores _ _ hx13) gDESC) (fun _ => hx13)) (fun _ => State.modPort_stores _ _ hx13)) (fun _ => hx13)
  try clear_value x15
  exact StSame.ite (fun _ => State.postKept_stores _ _ _ _ _ (State.modPort_stores _ _ hx15) gDESC) (fun _ => hx15)

theorem State.lineOut_stores (n : Port) (k : ℕ) (bs : List Byte) (hk : StSame R s0 s) : StSame R s0 (State.lineOut s n k bs) := by
  unfold State.lineOut
  extract_lets -merge -underBinder +onlyGivenNames x0
  exact State.modPdl_stores _ _ hk

theorem State.ringWrite_stores (n : Port) (sop : ℕ) (flags : ℕ) (xbuf : ℕ) (status : ℕ) (chunks : ℕ) (msg : List Byte) (hk : StSame R s0 s) (gPD : ∀ x, 0x4000 * n.val ≤ x → x < 0x4000 * n.val + 0x4000 → R x) : StSame R s0 (State.ringWrite s n sop flags xbuf status chunks msg) := by
  unfold State.ringWrite
  extract_lets -merge -underBinder +onlyGivenNames x0 x1 x2 x3
  have hx3 : StSame R s0 x3 := State.stRecord_stores _ _ hk (fun x h1 h2 => gPD x (by (try simp +zetaDelta only [length_leBytes, List.length_append, List.length_replicate, List.length_take, List.length_drop, List.length_cons, List.length_nil, length_padTo, length_rxEntry, Desc.length_bytes, length_stRead, length_gaugeBytes, txAt, rxBufAt, txBufAt, rxRecAt, descAt, snapAt, recAt, rxfAt, txfAt, maskAt, marksAt, -List.reduceReplicate] at h1 h2); omega) (by (try simp +zetaDelta only [length_leBytes, List.length_append, List.length_replicate, List.length_take, List.length_drop, List.length_cons, List.length_nil, length_padTo, length_rxEntry, Desc.length_bytes, length_stRead, length_gaugeBytes, txAt, rxBufAt, txBufAt, rxRecAt, descAt, snapAt, recAt, rxfAt, txfAt, maskAt, marksAt, -List.reduceReplicate] at h1 h2); omega))
  try clear_value x3
  exact State.incr_stores _ _ (State.put_stores _ _ _ hx3)

theorem State.pdlErrPost_stores (n : Port) (hk : StSame R s0 s) (gDESC : ∀ x, 0xC0000 ≤ x → x < 0xD0000 → R x) : StSame R s0 (State.pdlErrPost s n) := by
  unfold State.pdlErrPost
  exact State.postPort_stores _ _ _ _ _ hk gDESC

theorem State.chunkErr_stores (n : Port) (sop : ℕ) (code : ℕ) (chunks : ℕ) (hk : StSame R s0 s) (gPD : ∀ x, 0x4000 * n.val ≤ x → x < 0x4000 * n.val + 0x4000 → R x) (gDESC : ∀ x, 0xC0000 ≤ x → x < 0xD0000 → R x) : StSame R s0 (State.chunkErr s n sop code chunks) := by
  unfold State.chunkErr
  extract_lets -merge -underBinder +onlyGivenNames x0
  have hx0 : StSame R s0 x0 := StSame.ite (fun _ => State.bump_stores _ _ _ hk) (fun _ => State.ringWrite_stores _ _ _ _ _ _ _ hk gPD)
  try clear_value x0
  exact State.pdlErrPost_stores _ (State.raise_stores _ _ hx0) gDESC

theorem State.reasmDel_stores (n : Port) (k : ℕ) (hk : StSame R s0 s) : StSame R s0 (State.reasmDel s n k) := by
  unfold State.reasmDel
  exact State.modPdl_stores _ _ hk

theorem State.reasmSet_stores (n : Port) (r : Reasm) (hk : StSame R s0 s) : StSame R s0 (State.reasmSet s n r) := by
  unfold State.reasmSet
  exact State.modPdl_stores _ _ hk

theorem State.reasmAbort_stores (n : Port) (k : ℕ) (code : ℕ) (hk : StSame R s0 s) (gPD : ∀ x, 0x4000 * n.val ≤ x → x < 0x4000 * n.val + 0x4000 → R x) (gDESC : ∀ x, 0xC0000 ≤ x → x < 0xD0000 → R x) : StSame R s0 (State.reasmAbort s n k code) := by
  unfold State.reasmAbort
  split
  · exact hk
  · exact State.chunkErr_stores _ _ _ _ (State.put_stores _ _ _ (State.reasmDel_stores _ _ hk)) gPD gDESC

theorem State.ackStore_stores (n : Port) (k : ℕ) (id : ℕ) (hk : StSame R s0 s) : StSame R s0 (State.ackStore s n k id) := by
  unfold State.ackStore
  extract_lets -merge -underBinder +onlyGivenNames x0
  have hx0 : StSame R s0 x0 := State.msgidPut_stores _ _ _ _ (State.msgidPut_stores _ _ _ _ hk)
  try clear_value x0
  exact State.modPdl_stores _ _ hx0

theorem State.rxFull_stores (n : Port) (hk : StSame R s0 s) (gDESC : ∀ x, 0xC0000 ≤ x → x < 0xD0000 → R x) : StSame R s0 (State.rxFull s n) := by
  unfold State.rxFull
  exact State.pdlErrPost_stores _ (State.bump_stores _ _ _ (State.raise_stores _ _ hk)) gDESC

theorem State.rxStoreErr_stores (n : Port) (hk : StSame R s0 s) (gDESC : ∀ x, 0xC0000 ≤ x → x < 0xD0000 → R x) : StSame R s0 (State.rxStoreErr s n) := by
  unfold State.rxStoreErr
  exact State.pdlErrPost_stores _ (State.bump_stores _ _ _ (State.raise_stores _ _ hk)) gDESC

theorem State.fwRecord_stores (n : Port) (i : ℕ) (sop : ℕ) (flags : ℕ) (xbuf : ℕ) (msg : List Byte) (hk : StSame R s0 s) (gPD : ∀ x, 0x4000 * n.val ≤ x → x < 0x4000 * n.val + 0x4000 → R x) : StSame R s0 (State.fwRecord s n i sop flags xbuf msg) := by
  unfold State.fwRecord
  extract_lets -merge -underBinder +onlyGivenNames x0
  exact State.stRecord_stores _ _ hk (fun x h1 h2 => gPD x (by (try simp +zetaDelta only [length_leBytes, List.length_append, List.length_replicate, List.length_take, List.length_drop, List.length_cons, List.length_nil, length_padTo, length_rxEntry, Desc.length_bytes, length_stRead, length_gaugeBytes, txAt, rxBufAt, txBufAt, rxRecAt, descAt, snapAt, recAt, rxfAt, txfAt, maskAt, marksAt, -List.reduceReplicate] at h1 h2); omega) (by (try simp +zetaDelta only [length_leBytes, List.length_append, List.length_replicate, List.length_take, List.length_drop, List.length_cons, List.length_nil, length_padTo, length_rxEntry, Desc.length_bytes, length_stRead, length_gaugeBytes, txAt, rxBufAt, txBufAt, rxRecAt, descAt, snapAt, recAt, rxfAt, txfAt, maskAt, marksAt, -List.reduceReplicate] at h1 h2); omega))

theorem State.txReq_stores (n : Port) (i : ℕ) (hk : StSame R s0 s) (gPD : ∀ x, 0x4000 * n.val ≤ x → x < 0x4000 * n.val + 0x4000 → R x) : StSame R s0 (State.txReq s n i) := by
  unfold State.txReq
  extract_lets -merge -underBinder +onlyGivenNames x0
  exact StSame.ite (fun _ => State.lockedWrite_stores _ hk) (fun _ => State.modPdl_stores _ _ (State.stPut_stores _ _ _ hk (fun x h1 h2 => gPD x (by (try simp +zetaDelta only [length_leBytes, List.length_append, List.length_replicate, List.length_take, List.length_drop, List.length_cons, List.length_nil, length_padTo, length_rxEntry, Desc.length_bytes, length_stRead, length_gaugeBytes, txAt, rxBufAt, txBufAt, rxRecAt, descAt, snapAt, recAt, rxfAt, txfAt, maskAt, marksAt, -List.reduceReplicate] at h1 h2); omega) (by (try simp +zetaDelta only [length_leBytes, List.length_append, List.length_replicate, List.length_take, List.length_drop, List.length_cons, List.length_nil, length_padTo, length_rxEntry, Desc.length_bytes, length_stRead, length_gaugeBytes, txAt, rxBufAt, txBufAt, rxRecAt, descAt, snapAt, recAt, rxfAt, txfAt, maskAt, marksAt, -List.reduceReplicate] at h1 h2); omega))))

theorem State.fwCompose_stores (n : Port) (m : FwMsg) (hk : StSame R s0 s) (gPD : ∀ x, 0x4000 * n.val ≤ x → x < 0x4000 * n.val + 0x4000 → R x) : StSame R s0 (State.fwCompose s n m) := by
  unfold State.fwCompose
  extract_lets -merge -underBinder +onlyGivenNames x0 x1
  have hx1 : StSame R s0 x1 := by
    unfold x1
    split
    · exact State.fwRecord_stores _ _ _ _ _ _ hk gPD
    · extract_lets -merge -underBinder +onlyGivenNames x2
      extract_lets -merge -underBinder +onlyGivenNames x3
      exact State.fwRecord_stores _ _ _ _ _ _ (State.stRecord_stores _ _ hk (fun x h1 h2 => gPD x (by (try simp +zetaDelta only [length_leBytes, List.length_append, List.length_replicate, List.length_take, List.length_drop, List.length_cons, List.length_nil, length_padTo, length_rxEntry, Desc.length_bytes, length_stRead, length_gaugeBytes, txAt, rxBufAt, txBufAt, rxRecAt, descAt, snapAt, recAt, rxfAt, txfAt, maskAt, marksAt, -List.reduceReplicate] at h1 h2); omega) (by (try simp +zetaDelta only [length_leBytes, List.length_append, List.length_replicate, List.length_take, List.length_drop, List.length_cons, List.length_nil, length_padTo, length_rxEntry, Desc.length_bytes, length_stRead, length_gaugeBytes, txAt, rxBufAt, txBufAt, rxRecAt, descAt, snapAt, recAt, rxfAt, txfAt, maskAt, marksAt, -List.reduceReplicate] at h1 h2); omega))) gPD
  try clear_value x1
  extract_lets -merge -underBinder +onlyGivenNames x4
  have hx4 : StSame R s0 x4 := State.modFw_stores _ _ hx1
  try clear_value x4
  exact State.txReq_stores _ _ hx4 gPD

theorem State.fwFlushGo_stores (n : Port) (l : List FwMsg) (hk : StSame R s0 s) (gPD : ∀ x, 0x4000 * n.val ≤ x → x < 0x4000 * n.val + 0x4000 → R x) : StSame R s0 (State.fwFlushGo s n l) := by
  induction l generalizing s with
  | nil => exact State.modFw_stores _ _ hk
  | cons m l ih => exact StSame.ite (fun _ => ih (State.fwCompose_stores _ _ hk gPD)) (fun _ => State.modFw_stores _ _ hk)

theorem State.fwFlush_stores (n : Port) (hk : StSame R s0 s) (gPD : ∀ x, 0x4000 * n.val ≤ x → x < 0x4000 * n.val + 0x4000 → R x) : StSame R s0 (State.fwFlush s n) := by
  unfold State.fwFlush
  exact State.fwFlushGo_stores _ _ hk gPD

theorem State.txOverAll_stores (n : Port) (pick : State → ℕ → Bool) (status : ℕ) (hk : StSame R s0 s) (gPD : ∀ x, 0x4000 * n.val ≤ x → x < 0x4000 * n.val + 0x4000 → R x) (gDESC : ∀ x, 0xC0000 ≤ x → x < 0xD0000 → R x) : StSame R s0 (State.txOverAll s n pick status) := by
  unfold State.txOverAll
  extract_lets -merge -underBinder +onlyGivenNames x0 x1
  have hx1 : StSame R s0 x1 := State.txEndAll_stores _ _ _ hk gPD gDESC
  try clear_value x1
  exact StSame.ite (fun _ => hx1) (fun _ => StSame.ite (fun _ => State.hardResetStart_stores _ hx1 gPD gDESC) (fun _ => State.fwFlush_stores _ hx1 gPD))

theorem State.rxDiscard_stores (n : Port) (k : ℕ) (hk : StSame R s0 s) (gPD : ∀ x, 0x4000 * n.val ≤ x → x < 0x4000 * n.val + 0x4000 → R x) (gDESC : ∀ x, 0xC0000 ≤ x → x < 0xD0000 → R x) : StSame R s0 (State.rxDiscard s n k) := by
  unfold State.rxDiscard
  exact State.txOverAll_stores _ _ _ hk gPD gDESC

theorem State.answerQueue_stores (n : Port) (k : ℕ) (hk : StSame R s0 s) : StSame R s0 (State.answerQueue s n k) := by
  unfold State.answerQueue
  extract_lets -merge -underBinder +onlyGivenNames x0
  exact State.modPdl_stores _ _ hk

theorem State.bistHandle_stores (n : Port) (k : ℕ) (mode : ℕ) (hk : StSame R s0 s) : StSame R s0 (State.bistHandle s n k mode).2 := by
  unfold State.bistHandle
  extract_lets -merge -underBinder +onlyGivenNames x0 x1
  have hx1 : StSame R s0 x1 := State.raise_stores _ _ hk
  try clear_value x1
  refine StSame.iteSnd (fun _ => ?_) (fun _ => ?_)
  · refine StSame.mkSnd ?_
    exact State.modPdl_stores _ _ hx1
  · refine StSame.iteSnd (fun _ => ?_) (fun _ => ?_)
    · refine StSame.mkSnd ?_
      exact State.modPdl_stores _ _ hx1
    · refine StSame.mkSnd ?_
      exact hx1

theorem State.polQueue_stores (n : Port) (c : PolCmd) (hk : StSame R s0 s) : StSame R s0 (State.polQueue s n c) := by
  unfold State.polQueue
  exact State.modPol_stores _ _ hk

theorem State.commitInForce_stores (n : Port) (gen : ℕ) (hk : StSame R s0 s) : StSame R s0 (State.commitInForce s n gen) := by
  unfold State.commitInForce
  exact State.polQueue_stores _ _ (State.put_stores _ _ _ hk)

theorem State.fwRecorded_stores (n : Port) (k : ℕ) (h : ℕ) (bytes : List Byte) (hk : StSame R s0 s) (gPD : ∀ x, 0x4000 * n.val ≤ x → x < 0x4000 * n.val + 0x4000 → R x) (gDESC : ∀ x, 0xC0000 ≤ x → x < 0xD0000 → R x) : StSame R s0 (State.fwRecorded s n k h bytes) := by
  unfold State.fwRecorded
  refine StSame.ite (fun _ => ?_) (fun _ => ?_)
  · exact hk
  · refine StSame.ite (fun _ => ?_) (fun _ => ?_)
    · exact State.hardResetStart_stores _ hk gPD gDESC
    · refine StSame.ite (fun _ => ?_) (fun _ => ?_)
      · split
        · exact hk
        · exact State.polQueue_stores _ _ (State.modFw_stores _ _ hk)
        · exact State.polQueue_stores _ _ (State.modFw_stores _ _ hk)
      · exact StSame.ite (fun _ => State.modFw_stores _ _ hk) (fun _ => StSame.ite (fun _ => State.commitInForce_stores _ _ (State.modFw_stores _ _ hk)) (fun _ => StSame.ite (fun _ => State.modFw_stores _ _ hk) (fun _ => hk)))

theorem State.rxRecorded_stores (n : Port) (k : ℕ) (h : ℕ) (bytes : List Byte) {write : State → ℕ → State} (chunked : Bool) (unchunked : Bool) (hk : StSame R s0 s) (hwrite : ∀ a0 a1, StSame R s0 a0 → StSame R s0 (write a0 a1)) (gPD : ∀ x, 0x4000 * n.val ≤ x → x < 0x4000 * n.val + 0x4000 → R x) (gDESC : ∀ x, 0xC0000 ≤ x → x < 0xD0000 → R x) : StSame R s0 (State.rxRecorded s n k h bytes write chunked unchunked) := by
  unfold State.rxRecorded
  extract_lets -merge -underBinder +onlyGivenNames x0 x1
  split
  · rename_i _ y2 e2
    have hy2 : StSame R s0 y2 := by
      refine StSame.snd e2 ?_
      refine StSame.iteSnd (fun _ => ?_) (fun _ => ?_)
      · refine State.bistHandle_stores _ _ _ ?_
        exact hk
      · refine StSame.mkSnd ?_
        exact hk
    extract_lets -merge -underBinder +onlyGivenNames x3 x4
    have hx4 : StSame R s0 x4 := by
      unfold x4
      refine hwrite _ _ ?_
      exact hy2
    try clear_value x4
    extract_lets -merge -underBinder +onlyGivenNames x5
    have hx5 : StSame R s0 x5 := State.ackStore_stores _ _ _ hx4
    try clear_value x5
    extract_lets -merge -underBinder +onlyGivenNames x6
    have hx6 : StSame R s0 x6 := State.rxDiscard_stores _ _ hx5 gPD gDESC
    try clear_value x6
    extract_lets -merge -underBinder +onlyGivenNames x7
    have hx7 : StSame R s0 x7 := State.bump_stores _ _ _ (State.raise_stores _ _ hx6)
    try clear_value x7
    extract_lets -merge -underBinder +onlyGivenNames x8
    have hx8 : StSame R s0 x8 := State.postPort_stores _ _ _ _ _ hx7 gDESC
    try clear_value x8
    extract_lets -merge -underBinder +onlyGivenNames x9
    have hx9 : StSame R s0 x9 := StSame.ite (fun _ => hx8) (fun _ => State.reasmAbort_stores _ _ _ hx8 gPD gDESC)
    try clear_value x9
    extract_lets -merge -underBinder +onlyGivenNames x10
    have hx10 : StSame R s0 x10 := StSame.ite (fun _ => State.trimReject_stores _ hx9) (fun _ => hx9)
    try clear_value x10
    extract_lets -merge -underBinder +onlyGivenNames x11
    have hx11 : StSame R s0 x11 := StSame.ite (fun _ => State.answerQueue_stores _ _ hx10) (fun _ => hx10)
    try clear_value x11
    exact State.fwRecorded_stores _ _ _ _ hx11 gPD gDESC

theorem State.rxMessage_stores (n : Port) (k : ℕ) (h : ℕ) (f : PdFrame) (flags : ℕ) (hk : StSame R s0 s) (gDESC : ∀ x, 0xC0000 ≤ x → x < 0xD0000 → R x) (gPD : ∀ x, 0x4000 * n.val ≤ x → x < 0x4000 * n.val + 0x4000 → R x) : StSame R s0 (State.rxMessage s n k h f flags) := by
  unfold State.rxMessage
  exact StSame.ite (fun _ => State.rxFull_stores _ hk gDESC) (fun _ => StSame.ite (fun _ => State.rxStoreErr_stores _ hk gDESC) (fun _ => State.rxRecorded_stores _ _ _ _ _ _ hk (fun _ _ h0 => State.ringWrite_stores _ _ _ _ _ _ _ h0 gPD) gPD gDESC))

theorem State.rxChunkData_stores (n : Port) (k : ℕ) (h : ℕ) (f : PdFrame) (r : Reasm) (hk : StSame R s0 s) (gPD : ∀ x, 0x4000 * n.val ≤ x → x < 0x4000 * n.val + 0x4000 → R x) (gDESC : ∀ x, 0xC0000 ≤ x → x < 0xD0000 → R x) : StSame R s0 (State.rxChunkData s n k h f r) := by
  unfold State.rxChunkData
  extract_lets -merge -underBinder +onlyGivenNames x0 x1 x2 x3 x4
  have hx4 : StSame R s0 x4 := State.stWrite_stores _ _ hk (fun x h1 h2 => gPD x (by (try simp +zetaDelta only [length_leBytes, List.length_append, List.length_replicate, List.length_take, List.length_drop, List.length_cons, List.length_nil, length_padTo, length_rxEntry, Desc.length_bytes, length_stRead, length_gaugeBytes, txAt, rxBufAt, txBufAt, rxRecAt, descAt, snapAt, recAt, rxfAt, txfAt, maskAt, marksAt, -List.reduceReplicate] at h1 h2); omega) (by (try simp +zetaDelta only [length_leBytes, List.length_append, List.length_replicate, List.length_take, List.length_drop, List.length_cons, List.length_nil, length_padTo, length_rxEntry, Desc.length_bytes, length_stRead, length_gaugeBytes, txAt, rxBufAt, txBufAt, rxRecAt, descAt, snapAt, recAt, rxfAt, txfAt, maskAt, marksAt, -List.reduceReplicate] at h1 h2); omega))
  try clear_value x4
  extract_lets -merge -underBinder +onlyGivenNames x5 x6
  have hx6 : StSame R s0 x6 := State.stPut_stores _ _ _ hx4 (fun x h1 h2 => gPD x (by (try simp +zetaDelta only [length_leBytes, List.length_append, List.length_replicate, List.length_take, List.length_drop, List.length_cons, List.length_nil, length_padTo, length_rxEntry, Desc.length_bytes, length_stRead, length_gaugeBytes, txAt, rxBufAt, txBufAt, rxRecAt, descAt, snapAt, recAt, rxfAt, txfAt, maskAt, marksAt, -List.reduceReplicate] at h1 h2); omega) (by (try simp +zetaDelta only [length_leBytes, List.length_append, List.length_replicate, List.length_take, List.length_drop, List.length_cons, List.length_nil, length_padTo, length_rxEntry, Desc.length_bytes, length_stRead, length_gaugeBytes, txAt, rxBufAt, txBufAt, rxRecAt, descAt, snapAt, recAt, rxfAt, txfAt, maskAt, marksAt, -List.reduceReplicate] at h1 h2); omega))
  try clear_value x6
  extract_lets -merge -underBinder +onlyGivenNames x7
  have hx7 : StSame R s0 x7 := State.put_stores _ _ _ (State.reasmDel_stores _ _ hx6)
  try clear_value x7
  exact StSame.ite (fun _ => State.rxFull_stores _ hk gDESC) (fun _ => StSame.ite (fun _ => State.rxStoreErr_stores _ hk gDESC) (fun _ => StSame.ite (fun _ => State.rxRecorded_stores _ _ _ _ _ _ hx7 (fun _ _ h8 => State.ringWrite_stores _ _ _ _ _ _ _ h8 gPD) gPD gDESC) (fun _ => State.ackStore_stores _ _ _ (State.reasmSet_stores _ _ hx4))))

theorem State.rxChunkFirst_stores (n : Port) (k : ℕ) (h : ℕ) (f : PdFrame) (size : ℕ) (hk : StSame R s0 s) (gPD : ∀ x, 0x4000 * n.val ≤ x → x < 0x4000 * n.val + 0x4000 → R x) (gDESC : ∀ x, 0xC0000 ≤ x → x < 0xD0000 → R x) : StSame R s0 (State.rxChunkFirst s n k h f size) := by
  unfold State.rxChunkFirst
  refine StSame.ite (fun _ => ?_) (fun _ => ?_)
  · exact State.chunkErr_stores _ _ _ _ (State.ackStore_stores _ _ _ hk) gPD gDESC
  · split
    · exact State.rxFull_stores _ hk gDESC
    · extract_lets -merge -underBinder +onlyGivenNames x0
      have hx0 : StSame R s0 x0 := State.stWrite_stores _ _ hk (fun x h1 h2 => by
        have hl : (f.bytes.take 4 ++ List.replicate 506 (0 : Byte)).length ≤ 510 := by
          rw [List.length_append, List.length_take, List.length_replicate]; omega
        rw [rxBufAt] at h1 h2
        exact gPD x (by omega) (by omega))
      try clear_value x0
      extract_lets -merge -underBinder +onlyGivenNames x1
      have hx1 : StSame R s0 x1 := State.put_stores _ _ _ hx0
      try clear_value x1
      extract_lets -merge -underBinder +onlyGivenNames x2
      exact StSame.ite (fun _ => State.rxStoreErr_stores _ hk gDESC) (fun _ => StSame.ite (fun _ => State.rxFull_stores _ hk gDESC) (fun _ => State.rxChunkData_stores _ _ _ _ _ (State.reasmSet_stores _ _ hx1) gPD gDESC))

theorem State.rxChunk_stores (n : Port) (k : ℕ) (h : ℕ) (f : PdFrame) (size : ℕ) (num : ℕ) (hk : StSame R s0 s) (gPD : ∀ x, 0x4000 * n.val ≤ x → x < 0x4000 * n.val + 0x4000 → R x) (gDESC : ∀ x, 0xC0000 ≤ x → x < 0xD0000 → R x) : StSame R s0 (State.rxChunk s n k h f size num) := by
  unfold State.rxChunk
  split
  · exact StSame.ite (fun _ => State.rxChunkFirst_stores _ _ _ _ _ hk gPD gDESC) (fun _ => State.ackStore_stores _ _ _ hk)
  · extract_lets -merge -underBinder +onlyGivenNames x0
    have hx0 : StSame R s0 x0 := State.reasmAbort_stores _ _ _ hk gPD gDESC
    try clear_value x0
    extract_lets -merge -underBinder +onlyGivenNames x1
    have hx1 : StSame R s0 x1 := State.reasmAbort_stores _ _ _ hk gPD gDESC
    try clear_value x1
    exact StSame.ite (fun _ => StSame.ite (fun _ => State.rxChunkFirst_stores _ _ _ _ _ hx0 gPD gDESC) (fun _ => State.ackStore_stores _ _ _ hx0)) (fun _ => StSame.ite (fun _ => StSame.ite (fun _ => State.rxChunkFirst_stores _ _ _ _ _ hx1 gPD gDESC) (fun _ => State.ackStore_stores _ _ _ hx1)) (fun _ => StSame.ite (fun _ => State.ackStore_stores _ _ _ (State.reasmAbort_stores _ _ _ hk gPD gDESC)) (fun _ => State.rxChunkData_stores _ _ _ _ _ hk gPD gDESC)))

theorem State.rxChunkReq_stores (n : Port) (k : ℕ) (h : ℕ) (f : PdFrame) (num : ℕ) (hk : StSame R s0 s) (gDESC : ∀ x, 0xC0000 ≤ x → x < 0xD0000 → R x) (gPD : ∀ x, 0x4000 * n.val ≤ x → x < 0x4000 * n.val + 0x4000 → R x) : StSame R s0 (State.rxChunkReq s n k h f num) := by
  unfold State.rxChunkReq
  extract_lets -merge -underBinder +onlyGivenNames x0
  split
  · exact StSame.ite (fun _ => State.modPdl_stores _ _ (State.ackStore_stores _ _ _ hk)) (fun _ => State.rxMessage_stores _ _ _ _ _ hk gDESC gPD)
  · exact State.rxMessage_stores _ _ _ _ _ hk gDESC gPD

theorem State.fwPut_stores (n : Port) (m : FwMsg) (hk : StSame R s0 s) (gPD : ∀ x, 0x4000 * n.val ≤ x → x < 0x4000 * n.val + 0x4000 → R x) : StSame R s0 (State.fwPut s n m) := by
  unfold State.fwPut
  exact StSame.ite (fun _ => State.fwFlush_stores _ (State.modFw_stores _ _ hk) gPD) (fun _ => hk)

theorem State.fwAfter_stores (n : Port) (m : FwMsg) (status : ℕ) (hk : StSame R s0 s) (gPD : ∀ x, 0x4000 * n.val ≤ x → x < 0x4000 * n.val + 0x4000 → R x) (gDESC : ∀ x, 0xC0000 ≤ x → x < 0xD0000 → R x) : StSame R s0 (State.fwAfter s n m status) := by
  unfold State.fwAfter
  refine StSame.ite (fun _ => ?_) (fun _ => ?_)
  · exact State.fwPut_stores _ _ hk gPD
  · split
    · exact StSame.ite (fun _ => State.polQueue_stores _ _ (State.polQueue_stores _ _ hk)) (fun _ => hk)
    · exact StSame.ite (fun _ => State.commitInForce_stores _ _ hk) (fun _ => State.hardResetStart_stores _ hk gPD gDESC)
    · exact StSame.ite (fun _ => State.polQueue_stores _ _ hk) (fun _ => hk)
    · exact hk
    · exact hk
    · exact hk

theorem State.txOver_stores (n : Port) (i : ℕ) (status : ℕ) (hk : StSame R s0 s) (gPD : ∀ x, 0x4000 * n.val ≤ x → x < 0x4000 * n.val + 0x4000 → R x) (gDESC : ∀ x, 0xC0000 ≤ x → x < 0xD0000 → R x) : StSame R s0 (State.txOver s n i status) := by
  unfold State.txOver
  extract_lets -merge -underBinder +onlyGivenNames x0
  clear_value x0
  extract_lets -merge -underBinder +onlyGivenNames x1
  have hx1 : StSame R s0 x1 := State.txEnd_stores _ _ _ hk gPD gDESC
  try clear_value x1
  refine StSame.ite (fun _ => ?_) (fun _ => ?_)
  · refine State.fwFlush_stores _ ?_ gPD
    split
    · exact State.fwAfter_stores _ _ _ hx1 gPD gDESC
    · exact hx1
  · exact hx1

theorem State.chunkWait_stores (n : Port) (hk : StSame R s0 s) : StSame R s0 (State.chunkWait s n) := by
  unfold State.chunkWait
  extract_lets -merge -underBinder +onlyGivenNames x0
  exact State.modPdl_stores _ _ hk

theorem State.goodCrc_stores (n : Port) (k : ℕ) (id : ℕ) (hk : StSame R s0 s) (gPD : ∀ x, 0x4000 * n.val ≤ x → x < 0x4000 * n.val + 0x4000 → R x) (gDESC : ∀ x, 0xC0000 ≤ x → x < 0xD0000 → R x) : StSame R s0 (State.goodCrc s n k id) := by
  unfold State.goodCrc
  extract_lets -merge -underBinder +onlyGivenNames x0 x1 x2
  have hx2 : StSame R s0 x2 := State.bump_stores _ _ _ hk
  try clear_value x2
  split
  · extract_lets -merge -underBinder +onlyGivenNames x3
    have hx3 : StSame R s0 x3 := State.txCtrUp_stores _ _ (State.modPdl_stores _ _ hk)
    try clear_value x3
    refine StSame.ite (fun _ => ?_) (fun _ => ?_)
    · exact State.bump_stores _ _ _ (State.raise_stores _ _ hx3)
    · split
      · exact State.chunkWait_stores _ (State.reasmSet_stores _ _ hx3)
      · exact hx3
  · split
    · extract_lets -merge -underBinder +onlyGivenNames x4
      have hx4 : StSame R s0 x4 := StSame.ite (fun _ => State.modPdl_stores _ _ hk) (fun _ => hk)
      try clear_value x4
      exact StSame.ite (fun _ => StSame.ite (fun _ => State.chunkWait_stores _ (State.modPdl_stores _ _ (State.txCtrUp_stores _ _ hk))) (fun _ => State.txOver_stores _ _ _ hx4 gPD gDESC)) (fun _ => hx2)
    · exact hx2

theorem State.rxValid_stores (n : Port) (k : ℕ) (f : PdFrame) (hk : StSame R s0 s) (gPD : ∀ x, 0x4000 * n.val ≤ x → x < 0x4000 * n.val + 0x4000 → R x) (gDESC : ∀ x, 0xC0000 ≤ x → x < 0xD0000 → R x) : StSame R s0 (State.rxValid s n k f) := by
  unfold State.rxValid
  extract_lets -merge -underBinder +onlyGivenNames x0 x1 x2 x3 x4 x5 x6 x7
  have hx7 : StSame R s0 x7 := StSame.ite (fun _ => State.raise_stores _ _ (State.sopReset_stores _ _ hk)) (fun _ => hk)
  try clear_value x7
  extract_lets -merge -underBinder +onlyGivenNames x8 x9
  exact StSame.ite (fun _ => hk) (fun _ => StSame.ite (fun _ => StSame.ite (fun _ => State.modPdl_stores _ _ hk) (fun _ => hk)) (fun _ => StSame.ite (fun _ => State.bump_stores _ _ _ hk) (fun _ => StSame.ite (fun _ => State.goodCrc_stores _ _ _ hk gPD gDESC) (fun _ => StSame.ite (fun _ => State.bump_stores _ _ _ (State.modPdl_stores _ _ hx7)) (fun _ => StSame.ite (fun _ => StSame.ite (fun _ => State.rxMessage_stores _ _ _ _ _ hx7 gDESC gPD) (fun _ => StSame.ite (fun _ => State.rxChunkReq_stores _ _ _ _ _ hx7 gDESC gPD) (fun _ => State.rxChunk_stores _ _ _ _ _ _ hx7 gPD gDESC))) (fun _ => State.rxMessage_stores _ _ _ _ _ hx7 gDESC gPD))))))

theorem State.rxFrame_stores (n : Port) (f : PdFrame) (hk : StSame R s0 s) (gPD : ∀ x, 0x4000 * n.val ≤ x → x < 0x4000 * n.val + 0x4000 → R x) (gDESC : ∀ x, 0xC0000 ≤ x → x < 0xD0000 → R x) (gSNAP : ∀ x, 0x100000 + 32 * n.val ≤ x → x < 0x100020 + 32 * n.val → R x) : StSame R s0 (State.rxFrame s n f) := by
  unfold State.rxFrame
  extract_lets -merge -underBinder +onlyGivenNames x0 x1
  have hx1 : StSame R s0 x1 := State.modPdl_stores _ _ hk
  try clear_value x1
  refine StSame.ite (fun _ => ?_) (fun _ => ?_)
  · exact hk
  · split
    · exact State.bump_stores _ _ _ hx1
    · exact State.bump_stores _ _ _ hx1
    · exact hx1
    · exact StSame.ite (fun _ => State.hardReset_stores _ _ hx1 gPD gDESC gSNAP) (fun _ => hx1)
    · extract_lets -merge -underBinder +onlyGivenNames x2
      exact StSame.ite (fun _ => State.bump_stores _ _ _ hx1) (fun _ => StSame.ite (fun _ => State.bump_stores _ _ _ hx1) (fun _ => State.rxValid_stores _ _ _ hx1 gPD gDESC))

theorem State.txCheck_stores (n : Port) (hk : StSame R s0 s) (gPD : ∀ x, 0x4000 * n.val ≤ x → x < 0x4000 * n.val + 0x4000 → R x) (gDESC : ∀ x, 0xC0000 ≤ x → x < 0xD0000 → R x) : StSame R s0 (State.txCheck s n) := by
  unfold State.txCheck
  extract_lets -merge -underBinder +onlyGivenNames x0
  split
  · exact hk
  · extract_lets -merge -underBinder +onlyGivenNames x1
    extract_lets -merge -underBinder +onlyGivenNames x2
    have hx2 : StSame R s0 x2 := State.stPut_stores _ _ _ hk (fun x h1 h2 => gPD x (by (try simp +zetaDelta only [length_leBytes, List.length_append, List.length_replicate, List.length_take, List.length_drop, List.length_cons, List.length_nil, length_padTo, length_rxEntry, Desc.length_bytes, length_stRead, length_gaugeBytes, txAt, rxBufAt, txBufAt, rxRecAt, descAt, snapAt, recAt, rxfAt, txfAt, maskAt, marksAt, -List.reduceReplicate] at h1 h2); omega) (by (try simp +zetaDelta only [length_leBytes, List.length_append, List.length_replicate, List.length_take, List.length_drop, List.length_cons, List.length_nil, length_padTo, length_rxEntry, Desc.length_bytes, length_stRead, length_gaugeBytes, txAt, rxBufAt, txBufAt, rxRecAt, descAt, snapAt, recAt, rxfAt, txfAt, maskAt, marksAt, -List.reduceReplicate] at h1 h2); omega))
    try clear_value x2
    extract_lets -merge -underBinder +onlyGivenNames x3 x4
    exact StSame.ite (fun _ => hk) (fun _ => StSame.ite (fun _ => State.txOver_stores _ _ _ hk gPD gDESC) (fun _ => StSame.ite (fun _ => State.txOver_stores _ _ _ (State.stNote_stores _ _ _ hk) gPD gDESC) (fun _ => StSame.ite (fun _ => State.txOver_stores _ _ _ hk gPD gDESC) (fun _ => StSame.ite (fun _ => StSame.ite (fun _ => State.modPdl_stores _ _ hx2) (fun _ => State.modCc_stores _ _ (State.modPdl_stores _ _ hx2))) (fun _ => StSame.ite (fun _ => State.modPdl_stores _ _ hx2) (fun _ => State.modPdl_stores _ _ hx2))))))

theorem State.txSend_stores (n : Port) (hk : StSame R s0 s) (gPD : ∀ x, 0x4000 * n.val ≤ x → x < 0x4000 * n.val + 0x4000 → R x) (gDESC : ∀ x, 0xC0000 ≤ x → x < 0xD0000 → R x) : StSame R s0 (State.txSend s n) := by
  unfold State.txSend
  extract_lets -merge -underBinder +onlyGivenNames x0
  split
  · exact hk
  · extract_lets -merge -underBinder +onlyGivenNames x1
    extract_lets -merge -underBinder +onlyGivenNames x2 x3
    have hx3 : StSame R s0 x3 := StSame.ite (fun _ => State.sopReset_stores _ _ hk) (fun _ => hk)
    try clear_value x3
    extract_lets -merge -underBinder +onlyGivenNames x4 x5
    exact StSame.ite (fun _ => hk) (fun _ => StSame.ite (fun _ => State.txOver_stores _ _ _ hk gPD gDESC) (fun _ => StSame.ite (fun _ => State.modPdl_stores _ _ hk) (fun _ => State.modPdl_stores _ _ (State.lineOut_stores _ _ _ hx3))))

theorem State.layerFail_stores (n : Port) (l : LayerTx) (rest : List LayerTx) (hk : StSame R s0 s) (gPD : ∀ x, 0x4000 * n.val ≤ x → x < 0x4000 * n.val + 0x4000 → R x) (gDESC : ∀ x, 0xC0000 ≤ x → x < 0xD0000 → R x) : StSame R s0 (State.layerFail s n l rest) := by
  unfold State.layerFail
  extract_lets -merge -underBinder +onlyGivenNames x0
  have hx0 : StSame R s0 x0 := State.modPdl_stores _ _ hk
  try clear_value x0
  extract_lets -merge -underBinder +onlyGivenNames x1
  have hx1 : StSame R s0 x1 := StSame.ite (fun _ => State.txCtrUp_stores _ _ hx0) (fun _ => hx0)
  try clear_value x1
  exact StSame.ite (fun _ => State.bump_stores _ _ _ (State.raise_stores _ _ hx1)) (fun _ => State.reasmAbort_stores _ _ _ hx1 gPD gDESC)

theorem State.layerSend_stores (n : Port) (l : LayerTx) (rest : List LayerTx) (hk : StSame R s0 s) (gPD : ∀ x, 0x4000 * n.val ≤ x → x < 0x4000 * n.val + 0x4000 → R x) (gDESC : ∀ x, 0xC0000 ≤ x → x < 0xD0000 → R x) : StSame R s0 (State.layerSend s n l rest) := by
  unfold State.layerSend
  extract_lets -merge -underBinder +onlyGivenNames x0 x1
  exact StSame.ite (fun _ => State.layerFail_stores _ _ _ hk gPD gDESC) (fun _ => State.modPdl_stores _ _ (State.lineOut_stores _ _ _ hk))

theorem State.txNext_stores (n : Port) (hk : StSame R s0 s) (gPD : ∀ x, 0x4000 * n.val ≤ x → x < 0x4000 * n.val + 0x4000 → R x) (gDESC : ∀ x, 0xC0000 ≤ x → x < 0xD0000 → R x) : StSame R s0 (State.txNext s n) := by
  unfold State.txNext
  refine StSame.ite (fun _ => ?_) (fun _ => ?_)
  · exact hk
  · split
    · exact State.layerSend_stores _ _ _ hk gPD gDESC
    · exact StSame.ite (fun _ => State.txSend_stores _ hk gPD gDESC) (fun _ => hk)

theorem State.gcrcTimeout_stores (n : Port) (hk : StSame R s0 s) (gPD : ∀ x, 0x4000 * n.val ≤ x → x < 0x4000 * n.val + 0x4000 → R x) (gDESC : ∀ x, 0xC0000 ≤ x → x < 0xD0000 → R x) : StSame R s0 (State.gcrcTimeout s n) := by
  unfold State.gcrcTimeout
  extract_lets -merge -underBinder +onlyGivenNames x0
  split
  · exact StSame.ite (fun _ => State.modPdl_stores _ _ hk) (fun _ => State.layerFail_stores _ _ _ hk gPD gDESC)
  · refine StSame.ite (fun _ => ?_) (fun _ => ?_)
    · exact hk
    · split
      · exact hk
      · exact StSame.ite (fun _ => State.modPdl_stores _ _ hk) (fun _ => State.txOver_stores _ _ _ hk gPD gDESC)

theorem State.cableReset_stores (n : Port) (hk : StSame R s0 s) (gPD : ∀ x, 0x4000 * n.val ≤ x → x < 0x4000 * n.val + 0x4000 → R x) (gDESC : ∀ x, 0xC0000 ≤ x → x < 0xD0000 → R x) : StSame R s0 (State.cableReset s n) := by
  unfold State.cableReset
  extract_lets -merge -underBinder +onlyGivenNames x0
  have hx0 : StSame R s0 x0 := State.txOverAll_stores _ _ _ hk gPD gDESC
  try clear_value x0
  extract_lets -merge -underBinder +onlyGivenNames x1
  have hx1 : StSame R s0 x1 := State.sopReset_stores _ _ (State.sopReset_stores _ _ hx0)
  try clear_value x1
  exact StSame.ite (fun _ => State.raise_stores _ _ hk) (fun _ => State.raise_stores _ _ (State.lineOut_stores _ _ _ hx1))

theorem State.amsEnd_stores (n : Port) (hk : StSame R s0 s) : StSame R s0 (State.amsEnd s n) := by
  unfold State.amsEnd
  exact StSame.ite (fun _ => State.modPdl_stores _ _ hk) (fun _ => hk)

theorem State.txCancel_stores (n : Port) (hk : StSame R s0 s) (gPD : ∀ x, 0x4000 * n.val ≤ x → x < 0x4000 * n.val + 0x4000 → R x) (gDESC : ∀ x, 0xC0000 ≤ x → x < 0xD0000 → R x) : StSame R s0 (State.txCancel s n) := by
  unfold State.txCancel
  extract_lets -merge -underBinder +onlyGivenNames x0 x1 x2
  exact State.txOverAll_stores _ _ _ hk gPD gDESC

theorem State.pdlClearStats_stores (n : Port) (hk : StSame R s0 s) : StSame R s0 (State.pdlClearStats s n) := by
  unfold State.pdlClearStats
  exact State.wr_stores _ _ _ (State.wr_stores _ _ _ (State.wr_stores _ _ _ (State.wr_stores _ _ _ hk)))

theorem State.msgidLoad_stores (n : Port) (v : ℕ) (hk : StSame R s0 s) : StSame R s0 (State.msgidLoad s n v) := by
  unfold State.msgidLoad
  exact StSame.ite (fun _ => State.lockedWrite_stores _ hk) (fun _ => State.wr_stores _ _ _ hk)

theorem State.fwSendFor_stores (n : Port) (sop : ℕ) (typ : ℕ) (objs : List Word) (ams : Bool) (goal : FwGoal) (hk : StSame R s0 s) (gPD : ∀ x, 0x4000 * n.val ≤ x → x < 0x4000 * n.val + 0x4000 → R x) : StSame R s0 (State.fwSendFor s n sop typ objs ams goal) := by
  unfold State.fwSendFor
  exact State.fwPut_stores _ _ hk gPD

theorem State.fwSend_stores (n : Port) (sop : ℕ) (typ : ℕ) (objs : List Word) (ams : Bool) (hk : StSame R s0 s) (gPD : ∀ x, 0x4000 * n.val ≤ x → x < 0x4000 * n.val + 0x4000 → R x) : StSame R s0 (State.fwSend s n sop typ objs ams) := by
  unfold State.fwSend
  exact State.fwSendFor_stores _ _ _ _ _ _ hk gPD

theorem State.pdlEnable_stores (n : Port) (b : Bool) (hk : StSame R s0 s) (gPD : ∀ x, 0x4000 * n.val ≤ x → x < 0x4000 * n.val + 0x4000 → R x) (gDESC : ∀ x, 0xC0000 ≤ x → x < 0xD0000 → R x) : StSame R s0 (State.pdlEnable s n b) := by
  unfold State.pdlEnable
  extract_lets -merge -underBinder +onlyGivenNames x0
  have hx0 : StSame R s0 x0 := State.putB_stores _ _ _ hk
  try clear_value x0
  extract_lets -merge -underBinder +onlyGivenNames x1
  have hx1 : StSame R s0 x1 := State.modPort_stores _ _ hx0
  try clear_value x1
  extract_lets -merge -underBinder +onlyGivenNames x2 x3
  have hx3 : StSame R s0 x3 := State.modPdl_stores _ _ hx0
  try clear_value x3
  exact StSame.ite (fun _ => StSame.ite (fun _ => State.hardResetStart_stores _ (State.put_stores _ _ _ hx0) gPD gDESC) (fun _ => StSame.ite (fun _ => StSame.ite (fun _ => State.fwSend_stores _ _ _ _ _ hx1 gPD) (fun _ => hx1)) (fun _ => hx0))) (fun _ => State.txOverAll_stores _ _ _ hx3 gPD gDESC)

theorem State.xbufRel_stores (n : Port) (m : ℕ) (hk : StSame R s0 s) : StSame R s0 (State.xbufRel s n m) := by
  unfold State.xbufRel
  exact foldl_stores _ hk (fun _ _ _ h0 => StSame.ite (fun _ => State.put_stores _ _ _ (State.put_stores _ _ _ h0)) (fun _ => h0))

theorem State.windowTick_stores (n : Port) (calm : Bool) (hk : StSame R s0 s) : StSame R s0 (State.windowTick s n calm) := by
  unfold State.windowTick
  extract_lets -merge -underBinder +onlyGivenNames x0 x1 x2 x3
  exact StSame.ite (fun _ => StSame.ite (fun _ => StSame.ite (fun _ => State.setWin_stores _ _ _ hk) (fun _ => StSame.ite (fun _ => State.setWin_stores _ _ _ hk) (fun _ => StSame.ite (fun _ => State.setWin_stores _ _ _ hk) (fun _ => State.setWin_stores _ _ _ hk)))) (fun _ => State.setWin_stores _ _ _ hk)) (fun _ => StSame.ite (fun _ => State.modPol_stores _ _ hk) (fun _ => State.setWin_stores _ _ _ hk))

theorem State.genRefused_stores (n : Port) (hk : StSame R s0 s) : StSame R s0 (State.genRefused s n) := by
  unfold State.genRefused
  exact State.raise_stores _ _ hk

theorem State.commit_stores (n : Port) (hk : StSame R s0 s) (gSNAP : ∀ x, 0x100000 + 32 * n.val ≤ x → x < 0x100020 + 32 * n.val → R x) : StSame R s0 (State.commit s n) := by
  unfold State.commit
  extract_lets -merge -underBinder +onlyGivenNames x0 x1 x2 x3 x4 x5 x6 x7 x8 x9 x10
  have hx10 : StSame R s0 x10 := State.aosWrite_stores _ _ hk (fun x h1 h2 => gSNAP x (by (try simp +zetaDelta only [length_leBytes, List.length_append, List.length_replicate, List.length_take, List.length_drop, List.length_cons, List.length_nil, length_padTo, length_rxEntry, Desc.length_bytes, length_stRead, length_gaugeBytes, txAt, rxBufAt, txBufAt, rxRecAt, descAt, snapAt, recAt, rxfAt, txfAt, maskAt, marksAt, -List.reduceReplicate] at h1 h2); omega) (by (try simp +zetaDelta only [length_leBytes, List.length_append, List.length_replicate, List.length_take, List.length_drop, List.length_cons, List.length_nil, length_padTo, length_rxEntry, Desc.length_bytes, length_stRead, length_gaugeBytes, txAt, rxBufAt, txBufAt, rxRecAt, descAt, snapAt, recAt, rxfAt, txfAt, maskAt, marksAt, -List.reduceReplicate] at h1 h2); omega))
  try clear_value x10
  extract_lets -merge -underBinder +onlyGivenNames x11
  have hx11 : StSame R s0 x11 := State.modPol_stores _ _ hx10
  try clear_value x11
  extract_lets -merge -underBinder +onlyGivenNames x12
  have hx12 : StSame R s0 x12 := StSame.ite (fun _ => State.put_stores _ _ _ hx11) (fun _ => hx11)
  try clear_value x12
  extract_lets -merge -underBinder +onlyGivenNames x13
  have hx13 : StSame R s0 x13 := StSame.ite (fun _ => State.put_stores _ _ _ hx12) (fun _ => hx12)
  try clear_value x13
  exact State.raise_stores _ _ hx13

theorem State.transBegin_stores (n : Port) (vNew : ℕ) (gen : ℕ) (hk : StSame R s0 s) : StSame R s0 (State.transBegin s n vNew gen) := by
  unfold State.transBegin
  extract_lets -merge -underBinder +onlyGivenNames x0 x1
  have hx1 : StSame R s0 x1 := State.put_stores _ _ _ (State.put_stores _ _ _ (State.put_stores _ _ _ hk))
  try clear_value x1
  extract_lets -merge -underBinder +onlyGivenNames x2
  have hx2 : StSame R s0 x2 := State.modPol_stores _ _ hx1
  try clear_value x2
  exact StSame.ite (fun _ => State.genRefused_stores _ hk) (fun _ => State.bump_stores _ _ _ hx2)

theorem State.polCmd_stores (n : Port) (c : PolCmd) (hk : StSame R s0 s) (gSNAP : ∀ x, 0x100000 + 32 * n.val ≤ x → x < 0x100020 + 32 * n.val → R x) : StSame R s0 (State.polCmd s n c) := by
  unfold State.polCmd
  split
  · exact StSame.ite (fun _ => State.commit_stores _ hk gSNAP) (fun _ => State.genRefused_stores _ hk)
  · exact StSame.ite (fun _ => State.snapClear_stores _ hk gSNAP) (fun _ => State.genRefused_stores _ hk)
  · exact State.transBegin_stores _ _ _ hk
  · exact StSame.ite (fun _ => State.polQueue_stores _ _ hk) (fun _ => StSame.ite (fun _ => State.raise_stores _ _ (State.putB_stores _ _ _ hk)) (fun _ => State.genRefused_stores _ hk))

theorem State.snapCheck_stores (n : Port) (hk : StSame R s0 s) (gDESC : ∀ x, 0xC0000 ≤ x → x < 0xD0000 → R x) (gPD : ∀ x, 0x4000 * n.val ≤ x → x < 0x4000 * n.val + 0x4000 → R x) : StSame R s0 (State.snapCheck s n) := by
  unfold State.snapCheck
  extract_lets -merge -underBinder +onlyGivenNames x0 x1
  have hx1 : StSame R s0 x1 := State.putB_stores _ _ _ (State.put_stores _ _ _ hk)
  try clear_value x1
  extract_lets -merge -underBinder +onlyGivenNames x2
  have hx2 : StSame R s0 x2 := State.put_stores _ _ _ (State.put_stores _ _ _ hk)
  try clear_value x2
  extract_lets -merge -underBinder +onlyGivenNames x3
  have hx3 : StSame R s0 x3 := State.polEvt_stores _ _ (State.modPol_stores _ _ hx2) gDESC
  try clear_value x3
  exact StSame.ite (fun _ => StSame.ite (fun _ => State.modPol_stores _ _ hx1) (fun _ => StSame.ite (fun _ => hx2) (fun _ => StSame.ite (fun _ => hx3) (fun _ => StSame.ite (fun _ => State.fwSend_stores _ _ _ _ _ hx3 gPD) (fun _ => StSame.ite (fun _ => State.hardResetStart_stores _ hx3 gPD gDESC) (fun _ => hx3)))))) (fun _ => State.put_stores _ _ _ (State.put_stores _ _ _ hk))

theorem State.transStep_stores (n : Port) (vbus : List ℕ) (hk : StSame R s0 s) : StSame R s0 (State.transStep s n vbus) := by
  unfold State.transStep
  extract_lets -merge -underBinder +onlyGivenNames x0 x1 x2 x3 x4
  have hx4 : StSame R s0 x4 := State.modPol_stores _ _ hk
  try clear_value x4
  extract_lets -merge -underBinder +onlyGivenNames x5
  have hx5 : StSame R s0 x5 := StSame.ite (fun _ => StSame.ite (fun _ => State.assistEnd_stores _ hx4) (fun _ => hx4)) (fun _ => hk)
  try clear_value x5
  extract_lets -merge -underBinder +onlyGivenNames x6 x7 x8 x9
  have hx9 : StSame R s0 x9 := State.setTarget_stores _ _ hx5
  try clear_value x9
  exact StSame.ite (fun _ => StSame.ite (fun _ => State.put_stores _ _ _ (State.modPol_stores _ _ hx9)) (fun _ => hx9)) (fun _ => hx5)

theorem State.polTick_stores (n : Port) (hk : StSame R s0 s) (gSNAP : ∀ x, 0x100000 + 32 * n.val ≤ x → x < 0x100020 + 32 * n.val → R x) (gDESC : ∀ x, 0xC0000 ≤ x → x < 0xD0000 → R x) (gPD : ∀ x, 0x4000 * n.val ≤ x → x < 0x4000 * n.val + 0x4000 → R x) : StSame R s0 (State.polTick s n) := by
  unfold State.polTick
  extract_lets -merge -underBinder +onlyGivenNames x0 x1
  have hx1 : StSame R s0 x1 := State.modPol_stores _ _ hk
  try clear_value x1
  extract_lets -merge -underBinder +onlyGivenNames x2
  have hx2 : StSame R s0 x2 := foldl_stores _ hx1 (fun _ _ _ h3 => State.polCmd_stores _ _ h3 gSNAP)
  try clear_value x2
  extract_lets -merge -underBinder +onlyGivenNames x4
  have hx4 : StSame R s0 x4 := State.snapCheck_stores _ hx2 gDESC gPD
  try clear_value x4
  extract_lets -merge -underBinder +onlyGivenNames x5
  have hx5 : StSame R s0 x5 := State.setTarget_stores _ _ hx4
  try clear_value x5
  exact StSame.ite (fun _ => hx5) (fun _ => State.cenLevel_stores _ _ hx5)

theorem State.transFail_stores (n : Port) (hk : StSame R s0 s) (gDESC : ∀ x, 0xC0000 ≤ x → x < 0xD0000 → R x) (gSNAP : ∀ x, 0x100000 + 32 * n.val ≤ x → x < 0x100020 + 32 * n.val → R x) (gPD : ∀ x, 0x4000 * n.val ≤ x → x < 0x4000 * n.val + 0x4000 → R x) : StSame R s0 (State.transFail s n) := by
  unfold State.transFail
  extract_lets -merge -underBinder +onlyGivenNames x0 x1
  have hx1 : StSame R s0 x1 := State.assistEnd_stores _ (State.bump_stores _ _ _ (State.put_stores _ _ _ hk))
  try clear_value x1
  extract_lets -merge -underBinder +onlyGivenNames x2
  have hx2 : StSame R s0 x2 := State.polEvt_stores _ _ (State.snapClear_stores _ hx1 gSNAP) gDESC
  try clear_value x2
  exact StSame.ite (fun _ => State.hardResetStart_stores _ hx2 gPD gDESC) (fun _ => State.put_stores _ _ _ hx2)

theorem State.setVbus_stores (n : Port) (mv : ℕ) (hk : StSame R s0 s) : StSame R s0 (State.setVbus s n mv) := by
  unfold State.setVbus
  exact State.modPort_stores _ _ hk

theorem State.preEval_stores (n : Port) (hk : StSame R s0 s) : StSame R s0 (State.preEval s n) := by
  unfold State.preEval
  extract_lets -merge -underBinder +onlyGivenNames x0
  exact StSame.ite (fun _ => State.guardTo_stores _ _ hk) (fun _ => StSame.ite (fun _ => State.modGuard_stores _ _ (State.guardTo_stores _ _ hk)) (fun _ => State.put_stores _ _ _ hk))

theorem State.backoffLeave_stores (n : Port) (hk : StSame R s0 s) : StSame R s0 (State.backoffLeave s n) := by
  unfold State.backoffLeave
  exact StSame.ite (fun _ => State.preEval_stores _ (State.raise_stores _ _ (State.guardTo_stores _ _ hk))) (fun _ => StSame.ite (fun _ => State.modGuard_stores _ _ hk) (fun _ => State.guardTo_stores _ _ hk))

theorem State.guardTick_stores (n : Port) (hk : StSame R s0 s) : StSame R s0 (State.guardTick s n) := by
  unfold State.guardTick
  extract_lets -merge -underBinder +onlyGivenNames x0
  clear_value x0
  extract_lets -merge -underBinder +onlyGivenNames x1 x2
  have hx2 : StSame R s0 x2 := State.modGuard_stores _ _ hk
  try clear_value x2
  extract_lets -merge -underBinder +onlyGivenNames x3
  have hx3 : StSame R s0 x3 := StSame.ite (fun _ => State.guardHalt_stores _ hx2) (fun _ => hx2)
  try clear_value x3
  refine StSame.ite (fun _ => ?_) (fun _ => ?_)
  · exact StSame.ite (fun _ => State.guardTo_stores _ _ hx3) (fun _ => hx3)
  · split
    · exact StSame.ite (fun _ => State.backoffLeave_stores _ hx2) (fun _ => hx2)
    · exact StSame.ite (fun _ => State.preEval_stores _ (State.guardTo_stores _ _ hx2)) (fun _ => hx2)
    · exact State.preEval_stores _ hx2
    · extract_lets -merge -underBinder +onlyGivenNames x4
      exact State.modGuard_stores _ _ hx2

theorem State.slowTrips_stores (n : Port) (mean : ℕ) (hot : Bool) (hk : StSame R s0 s) (gDESC : ∀ x, 0xC0000 ≤ x → x < 0xD0000 → R x) (gSNAP : ∀ x, 0x100000 + 32 * n.val ≤ x → x < 0x100020 + 32 * n.val → R x) (gPD : ∀ x, 0x4000 * n.val ≤ x → x < 0x4000 * n.val + 0x4000 → R x) : StSame R s0 (State.slowTrips s n mean hot) := by
  unfold State.slowTrips
  extract_lets -merge -underBinder +onlyGivenNames x0 x1 x2
  have hx2 : StSame R s0 x2 := State.modGuard_stores _ _ hk
  try clear_value x2
  extract_lets -merge -underBinder +onlyGivenNames x3 x4
  exact StSame.ite (fun _ => hk) (fun _ => StSame.ite (fun _ => hx2) (fun _ => State.trip_stores _ _ _ hx2 gDESC gSNAP gPD))

theorem State.thermTick_stores (n : Port) (t : ℤ) (hk : StSame R s0 s) : StSame R s0 (State.thermTick s n t) := by
  unfold State.thermTick
  extract_lets -merge -underBinder +onlyGivenNames x0 x1
  split
  · exact StSame.ite (fun _ => State.raise_stores _ _ (State.put_stores _ _ _ hk)) (fun _ => hk)
  · exact StSame.ite (fun _ => State.put_stores _ _ _ hk) (fun _ => hk)
  · exact StSame.ite (fun _ => State.put_stores _ _ _ hk) (fun _ => StSame.ite (fun _ => State.put_stores _ _ _ hk) (fun _ => hk))

theorem State.minMax_stores (pg : ℕ) (lo : Fld) (hi : Fld) (seen : Bool) (isSigned : Bool) (v : ℤ) (hk : StSame R s0 s) : StSame R s0 (State.minMax s pg lo hi seen isSigned v) := by
  unfold State.minMax
  extract_lets -merge -underBinder +onlyGivenNames x0 x1 x2
  exact State.put_stores _ _ _ (State.put_stores _ _ _ hk)

theorem State.calTick_stores (n : Port) (p : PortSamples) (hk : StSame R s0 s) : StSame R s0 (State.calTick s n p) := by
  unfold State.calTick
  extract_lets -merge -underBinder +onlyGivenNames x0
  exact StSame.ite (fun _ => State.put_stores _ _ _ (State.put_stores _ _ _ (State.put_stores _ _ _ hk))) (fun _ => State.put_stores _ _ _ (State.raiseIf_stores _ _ _ hk))

theorem State.measTick_stores (n : Port) (p : PortSamples) (doze : Bool) (hk : StSame R s0 s) : StSame R s0 (State.measTick s n p doze) := by
  unfold State.measTick
  extract_lets -merge -underBinder +onlyGivenNames x0 x1 x2 x3 x4
  have hx4 : StSame R s0 x4 := State.modPort_stores _ _ hk
  try clear_value x4
  extract_lets -merge -underBinder +onlyGivenNames x5 x6 x7 x8 x9 x10 x11
  have hx11 : StSame R s0 x11 := State.modPort_stores _ _ (State.setVbus_stores _ _ hx4)
  try clear_value x11
  extract_lets -merge -underBinder +onlyGivenNames x12
  have hx12 : StSame R s0 x12 := State.put_stores _ _ _ (State.put_stores _ _ _ hx11)
  try clear_value x12
  extract_lets -merge -underBinder +onlyGivenNames x13
  have hx13 : StSame R s0 x13 := State.put_stores _ _ _ (State.put_stores _ _ _ hx12)
  try clear_value x13
  extract_lets -merge -underBinder +onlyGivenNames x14
  have hx14 : StSame R s0 x14 := State.put_stores _ _ _ (State.put_stores _ _ _ hx13)
  try clear_value x14
  extract_lets -merge -underBinder +onlyGivenNames x15
  have hx15 : StSame R s0 x15 := State.put_stores _ _ _ hx14
  try clear_value x15
  extract_lets -merge -underBinder +onlyGivenNames x16 x17
  have hx17 : StSame R s0 x17 := State.minMax_stores _ _ _ _ _ _ hx15
  try clear_value x17
  extract_lets -merge -underBinder +onlyGivenNames x18
  have hx18 : StSame R s0 x18 := State.minMax_stores _ _ _ _ _ _ hx17
  try clear_value x18
  extract_lets -merge -underBinder +onlyGivenNames x19
  have hx19 : StSame R s0 x19 := State.modPort_stores _ _ hx18
  try clear_value x19
  extract_lets -merge -underBinder +onlyGivenNames x20 x21 x22 x23
  have hx23 : StSame R s0 x23 := State.putB_stores _ _ _ (State.putB_stores _ _ _ hx19)
  try clear_value x23
  extract_lets -merge -underBinder +onlyGivenNames x24
  have hx24 : StSame R s0 x24 := State.raiseIf_stores _ _ _ hx23
  try clear_value x24
  extract_lets -merge -underBinder +onlyGivenNames x25
  have hx25 : StSame R s0 x25 := State.calTick_stores _ _ hx24
  try clear_value x25
  exact StSame.ite (fun _ => hx4) (fun _ => StSame.ite (fun _ => State.calTick_stores _ _ hx4) (fun _ => StSame.ite (fun _ => State.thermTick_stores _ _ hx25) (fun _ => hx25)))

theorem State.setFailed_stores (n : Port) (m : ℕ) (hk : StSame R s0 s) : StSame R s0 (State.setFailed s n m) := by
  unfold State.setFailed
  extract_lets -merge -underBinder +onlyGivenNames x0
  have hx0 : StSame R s0 x0 := State.put_stores _ _ _ hk
  try clear_value x0
  extract_lets -merge -underBinder +onlyGivenNames x1
  have hx1 : StSame R s0 x1 := State.putB_stores _ _ _ hx0
  try clear_value x1
  exact State.put_stores _ _ _ hx1

theorem State.noteFail_stores (n : Port) (c : ℕ) (check : ℕ) (hk : StSame R s0 s) : StSame R s0 (State.noteFail s n c check) := by
  unfold State.noteFail
  extract_lets -merge -underBinder +onlyGivenNames x0
  have hx0 : StSame R s0 x0 := State.put_stores _ _ _ (State.put_stores _ _ _ (State.put_stores _ _ _ hk))
  try clear_value x0
  exact State.put_stores _ _ _ (State.put_stores _ _ _ hx0)

theorem State.copyTested_stores (n : Port) (c : ℕ) (r : TestResult) (hk : StSame R s0 s) (gPD : ∀ x, 0x4000 * n.val ≤ x → x < 0x4000 * n.val + 0x4000 → R x) (gDESC : ∀ x, 0xC0000 ≤ x → x < 0xD0000 → R x) (gSNAP : ∀ x, 0x100000 + 32 * n.val ≤ x → x < 0x100020 + 32 * n.val → R x) : StSame R s0 (State.copyTested s n c r) := by
  unfold State.copyTested
  extract_lets -merge -underBinder +onlyGivenNames x0
  clear_value x0
  split
  · extract_lets -merge -underBinder +onlyGivenNames x1
    have hx1 : StSame R s0 x1 := State.put_stores _ _ _ hk
    try clear_value x1
    extract_lets -merge -underBinder +onlyGivenNames x2
    clear_value x2
    extract_lets -merge -underBinder +onlyGivenNames x3
    have hx3 : StSame R s0 x3 := StSame.mk' hx1
    try clear_value x3
    exact StSame.ite (fun _ => State.modGuard_stores _ _ hx3) (fun _ => hx3)
  · extract_lets -merge -underBinder +onlyGivenNames x4
    have hx4 : StSame R s0 x4 := State.noteFail_stores _ _ _ (State.raise_stores _ _ (State.put_stores _ _ _ hk))
    try clear_value x4
    exact StSame.mk' hx4
  · extract_lets -merge -underBinder +onlyGivenNames x5
    have hx5 : StSame R s0 x5 := State.put_stores _ _ _ hk
    try clear_value x5
    extract_lets -merge -underBinder +onlyGivenNames x6
    have hx6 : StSame R s0 x6 := State.setFailed_stores _ _ hx5
    try clear_value x6
    extract_lets -merge -underBinder +onlyGivenNames x7
    have hx7 : StSame R s0 x7 := State.noteFail_stores _ _ _ (State.raise_stores _ _ hx6)
    try clear_value x7
    extract_lets -merge -underBinder +onlyGivenNames x8
    exact StSame.ite (fun _ => State.retire_stores _ _ (State.raise_stores _ _ hx7) gPD gDESC gSNAP) (fun _ => hx7)

theorem State.idleTest_stores (ports : List Port) (r : TestResult) (hk : StSame R s0 s) (gPD : ∀ (m : Port) x, 0x4000 * m.val ≤ x → x < 0x4000 * m.val + 0x4000 → R x) (gDESC : ∀ x, 0xC0000 ≤ x → x < 0xD0000 → R x) (gSNAP : ∀ (m : Port) x, 0x100000 + 32 * m.val ≤ x → x < 0x100020 + 32 * m.val → R x) : StSame R s0 (State.idleTest s ports r) := by
  unfold State.idleTest
  split
  · exact hk
  · split
    · exact State.copyTested_stores _ _ _ hk (gPD _) gDESC (gSNAP _)
    · exact hk

theorem State.firstPass_stores (hk : StSame R s0 s) : StSame R s0 (State.firstPass s) := by
  unfold State.firstPass
  exact StSame.ite (fun _ => State.raise_stores _ _ (State.put_stores _ _ _ hk)) (fun _ => hk)

theorem State.cmptTick_stores (ra : TestResult) (rb : TestResult) (hk : StSame R s0 s) (gPD : ∀ (m : Port) x, 0x4000 * m.val ≤ x → x < 0x4000 * m.val + 0x4000 → R x) (gDESC : ∀ x, 0xC0000 ≤ x → x < 0xD0000 → R x) (gSNAP : ∀ (m : Port) x, 0x100000 + 32 * m.val ≤ x → x < 0x100020 + 32 * m.val → R x) : StSame R s0 (State.cmptTick s ra rb) := by
  unfold State.cmptTick
  extract_lets -merge -underBinder +onlyGivenNames x0 x1
  have hx1 : StSame R s0 x1 := by
    unfold x1
    split
    · exact StSame.ite (fun _ => StSame.mk' hk) (fun _ => hk)
    · exact StSame.ite (fun _ => StSame.mk' hk) (fun _ => hk)
  try clear_value x1
  split
  · exact State.firstPass_stores (State.idleTest_stores _ _ (State.idleTest_stores _ _ hx1 gPD gDESC gSNAP) gPD gDESC gSNAP)
  · extract_lets -merge -underBinder +onlyGivenNames x2
    have hx2 : ∀ a0 a1 a2, StSame R s0 a0 → StSame R s0 (x2 a0 a1 a2) := by
      intro s3_0 s3_1 s3_2 hs3_1
      unfold x2
      beta_reduce
      exact StSame.ite (fun _ => State.copyTested_stores _ _ _ hs3_1 (gPD _) gDESC (gSNAP _)) (fun _ => hs3_1)
    try clear_value x2
    extract_lets -merge -underBinder +onlyGivenNames x4
    have hx4 : StSame R s0 x4 := by
      unfold x4
      refine hx2 _ _ _ ?_
      exact hx1
    try clear_value x4
    extract_lets -merge -underBinder +onlyGivenNames x5
    have hx5 : StSame R s0 x5 := by
      unfold x5
      refine hx2 _ _ _ ?_
      exact hx4
    try clear_value x5
    extract_lets -merge -underBinder +onlyGivenNames x6 x7 x8
    have hx8 : StSame R s0 x8 := StSame.mk' hx5
    try clear_value x8
    extract_lets -merge -underBinder +onlyGivenNames x9
    have hx9 : StSame R s0 x9 := State.raise_stores _ _ (State.incr_stores _ _ hx8)
    try clear_value x9
    exact StSame.ite (fun _ => StSame.mk' hx5) (fun _ => State.firstPass_stores (State.putB_stores _ _ _ hx9))

theorem State.cmptRestart_stores (hk : StSame R s0 s) : StSame R s0 (State.cmptRestart s) := by
  unfold State.cmptRestart
  exact State.put_stores _ _ _ (StSame.mk' hk)

theorem State.rampDone_stores (n : Port) (hk : StSame R s0 s) (gDESC : ∀ x, 0xC0000 ≤ x → x < 0xD0000 → R x) : StSame R s0 (State.rampDone s n) := by
  unfold State.rampDone
  extract_lets -merge -underBinder +onlyGivenNames x0
  have hx0 : StSame R s0 x0 := State.raise_stores _ _ (State.guardTo_stores _ _ hk)
  try clear_value x0
  extract_lets -merge -underBinder +onlyGivenNames x1
  have hx1 : StSame R s0 x1 := State.modGuard_stores _ _ hx0
  try clear_value x1
  exact StSame.ite (fun _ => State.hrDone_stores _ hx1 gDESC) (fun _ => hx1)

theorem State.joinGuard_stores (n : Port) (hk : StSame R s0 s) : StSame R s0 (State.joinGuard s n) := by
  unfold State.joinGuard
  extract_lets -merge -underBinder +onlyGivenNames x0
  have hx0 : StSame R s0 x0 := State.modGuard_stores _ _ hk
  try clear_value x0
  extract_lets -merge -underBinder +onlyGivenNames x1
  have hx1 : StSame R s0 x1 := State.put_stores _ _ _ (State.put_stores _ _ _ hx0)
  try clear_value x1
  exact StSame.ite (fun _ => State.put_stores _ _ _ hx1) (fun _ => hk)

theorem State.guardRefused_stores (n : Port) (hk : StSame R s0 s) : StSame R s0 (State.guardRefused s n) := by
  unfold State.guardRefused
  exact State.raise_stores _ _ hk

theorem State.snkClose_stores (n : Port) (hk : StSame R s0 s) : StSame R s0 (State.snkClose s n) := by
  unfold State.snkClose
  exact StSame.ite (fun _ => State.put_stores _ _ _ hk) (fun _ => State.guardRefused_stores _ hk)

theorem State.snkOpen_stores (n : Port) (hk : StSame R s0 s) (gDESC : ∀ x, 0xC0000 ≤ x → x < 0xD0000 → R x) : StSame R s0 (State.snkOpen s n) := by
  unfold State.snkOpen
  extract_lets -merge -underBinder +onlyGivenNames x0
  have hx0 : StSame R s0 x0 := State.put_stores _ _ _ hk
  try clear_value x0
  exact StSame.ite (fun _ => State.shareLeave_stores _ (State.guardOff_stores _ hx0) gDESC) (fun _ => hx0)

theorem State.unretire_stores (n : Port) (hk : StSame R s0 s) (gDESC : ∀ x, 0xC0000 ≤ x → x < 0xD0000 → R x) (gPD : ∀ x, 0x4000 * n.val ≤ x → x < 0x4000 * n.val + 0x4000 → R x) (gSNAP : ∀ x, 0x100000 + 32 * n.val ≤ x → x < 0x100020 + 32 * n.val → R x) : StSame R s0 (State.unretire s n) := by
  unfold State.unretire
  extract_lets -merge -underBinder +onlyGivenNames x0
  have hx0 : StSame R s0 x0 := State.guardTo_stores _ _ hk
  try clear_value x0
  extract_lets -merge -underBinder +onlyGivenNames x1
  have hx1 : StSame R s0 x1 := State.put_stores _ _ _ (State.modGuard_stores _ _ hx0)
  try clear_value x1
  extract_lets -merge -underBinder +onlyGivenNames x2
  have hx2 : StSame R s0 x2 := State.setFailed_stores _ _ hx1
  try clear_value x2
  extract_lets -merge -underBinder +onlyGivenNames x3
  have hx3 : StSame R s0 x3 := State.put_stores _ _ _ hx2
  try clear_value x3
  exact State.guardEvt_stores _ _ (State.ccEnter_stores _ _ hx3 gPD gDESC gSNAP) gDESC

theorem State.unretireCmd_stores (n : Port) (hk : StSame R s0 s) (gDESC : ∀ x, 0xC0000 ≤ x → x < 0xD0000 → R x) (gPD : ∀ x, 0x4000 * n.val ≤ x → x < 0x4000 * n.val + 0x4000 → R x) (gSNAP : ∀ x, 0x100000 + 32 * n.val ≤ x → x < 0x100020 + 32 * n.val → R x) : StSame R s0 (State.unretireCmd s n) := by
  unfold State.unretireCmd
  exact StSame.ite (fun _ => State.unretire_stores _ hk gDESC gPD gSNAP) (fun _ => State.guardRefused_stores _ hk)

theorem State.retestPort_stores (n : Port) (hk : StSame R s0 s) : StSame R s0 (State.retestPort s n) := by
  unfold State.retestPort
  extract_lets -merge -underBinder +onlyGivenNames x0 x1 x2
  have hx2 : StSame R s0 x2 := State.put_stores _ _ _ hk
  try clear_value x2
  extract_lets -merge -underBinder +onlyGivenNames x3
  have hx3 : StSame R s0 x3 := State.setFailed_stores _ _ hx2
  try clear_value x3
  exact StSame.ite (fun _ => StSame.mk' hx3) (fun _ => State.guardRefused_stores _ hk)

theorem State.retest_stores (ports : ℕ) (hk : StSame R s0 s) : StSame R s0 (State.retest s ports) := by
  unfold State.retest
  exact State.forPorts_stores hk (fun _ _ h0 => StSame.ite (fun _ => State.retestPort_stores _ h0) (fun _ => h0))

theorem State.vconnOnCmd_stores (n : Port) (hk : StSame R s0 s) : StSame R s0 (State.vconnOnCmd s n) := by
  unfold State.vconnOnCmd
  exact StSame.ite (fun _ => hk) (fun _ => StSame.ite (fun _ => State.modCc_stores _ _ hk) (fun _ => StSame.ite (fun _ => State.vconnOn_stores _ hk) (fun _ => State.raise_stores _ _ hk)))

theorem State.rpLost_stores (n : Port) (hk : StSame R s0 s) : StSame R s0 (State.rpLost s n) := by
  unfold State.rpLost
  exact State.put_stores _ _ _ (State.raise_stores _ _ hk)

theorem State.railUpdate_stores (hk : StSame R s0 s) (gDESC : ∀ x, 0xC0000 ≤ x → x < 0xD0000 → R x) : StSame R s0 (State.railUpdate s) := by
  unfold State.railUpdate
  extract_lets -merge -underBinder +onlyGivenNames x0 x1 x2 x3
  have hx3 : StSame R s0 x3 := State.putB_stores _ _ _ hk
  try clear_value x3
  extract_lets -merge -underBinder +onlyGivenNames x4
  have hx4 : StSame R s0 x4 := State.forPorts_stores hx3 (fun _ _ h5 => State.modShare_stores _ _ h5)
  try clear_value x4
  exact StSame.ite (fun _ => State.shareEvt_stores _ hx4 gDESC) (fun _ => hx3)

theorem State.shareTargets_stores (hk : StSame R s0 s) (gDESC : ∀ x, 0xC0000 ≤ x → x < 0xD0000 → R x) : StSame R s0 (State.shareTargets s) := by
  unfold State.shareTargets
  extract_lets -merge -underBinder +onlyGivenNames x0 x1 x2 x3 x4 x5 x6 x7 x8 x9
  have hx9 : StSame R s0 x9 := State.put_stores _ _ _ (State.put_stores _ _ _ hk)
  try clear_value x9
  extract_lets -merge -underBinder +onlyGivenNames x10
  have hx10 : StSame R s0 x10 := State.putB_stores _ _ _ hx9
  try clear_value x10
  extract_lets -merge -underBinder +onlyGivenNames x11
  have hx11 : StSame R s0 x11 := StSame.ite (fun _ => State.shareEvt_stores _ hx10 gDESC) (fun _ => hx10)
  try clear_value x11
  extract_lets -merge -underBinder +onlyGivenNames x12
  have hx12 : StSame R s0 x12 := State.putB_stores _ _ _ hx11
  try clear_value x12
  extract_lets -merge -underBinder +onlyGivenNames x13
  refine State.forPorts_stores ?_ ?_
  · exact hx12
  · intro s14_0 s14_1 hs14_1
    extract_lets -merge -underBinder +onlyGivenNames x15 x16 x17 x18 x19 x20 x21 x22 x23 x24
    clear_value x24
    extract_lets -merge -underBinder +onlyGivenNames x25 x26 x27 x28
    have hx28 : StSame R s0 x28 := StSame.ite (fun _ => State.shareEvt_stores _ hs14_1 gDESC) (fun _ => hs14_1)
    try clear_value x28
    extract_lets -merge -underBinder +onlyGivenNames x29
    have hx29 : StSame R s0 x29 := State.raiseIf_stores _ _ _ hx28
    try clear_value x29
    extract_lets -merge -underBinder +onlyGivenNames x30
    have hx30 : StSame R s0 x30 := State.put_stores _ _ _ (State.put_stores _ _ _ hx29)
    try clear_value x30
    extract_lets -merge -underBinder +onlyGivenNames x31
    have hx31 : StSame R s0 x31 := State.put_stores _ _ _ (State.putB_stores _ _ _ hx30)
    try clear_value x31
    extract_lets -merge -underBinder +onlyGivenNames x32 x33
    have hx33 : StSame R s0 x33 := State.putB_stores _ _ _ hx31
    try clear_value x33
    extract_lets -merge -underBinder +onlyGivenNames x34
    exact State.modShare_stores _ _ hx33

theorem State.trimSet_stores (n : Port) (t : ℤ) (hk : StSame R s0 s) (gDESC : ∀ x, 0xC0000 ≤ x → x < 0xD0000 → R x) : StSame R s0 (State.trimSet s n t) := by
  unfold State.trimSet
  extract_lets -merge -underBinder +onlyGivenNames x0 x1
  split
  · extract_lets -merge -underBinder +onlyGivenNames x2
    extract_lets -merge -underBinder +onlyGivenNames x3 x4 x5 x6 x7 x8
    have hx8 : StSame R s0 x8 := State.put_stores _ _ _ hk
    try clear_value x8
    extract_lets -merge -underBinder +onlyGivenNames x9
    have hx9 : StSame R s0 x9 := State.put_stores _ _ _ (State.put_stores _ _ _ hx8)
    try clear_value x9
    exact StSame.ite (fun _ => State.shareEvt_stores _ (State.put_stores _ _ _ hx9) gDESC) (fun _ => hx9)

theorem State.coarse_stores (hk : StSame R s0 s) (gDESC : ∀ x, 0xC0000 ≤ x → x < 0xD0000 → R x) : StSame R s0 (State.coarse s) := by
  unfold State.coarse
  extract_lets -merge -underBinder +onlyGivenNames x0 x1 x2 x3 x4
  have hx4 : StSame R s0 x4 := State.forPorts_stores hk (fun _ _ h5 => State.put_stores _ _ _ h5)
  try clear_value x4
  extract_lets -merge -underBinder +onlyGivenNames x6 x7
  have hx7 : StSame R s0 x7 := StSame.mk' hx4
  try clear_value x7
  extract_lets -merge -underBinder +onlyGivenNames x8
  have hx8 : StSame R s0 x8 := foldl_stores _ hk (fun _ _ _ h9 => State.trimSet_stores _ _ h9 gDESC)
  try clear_value x8
  extract_lets -merge -underBinder +onlyGivenNames x10 x11
  have hx11 : StSame R s0 x11 := StSame.ite (fun _ => foldl_stores _ hx7 (fun _ _ _ h12 => State.trimSet_stores _ _ h12 gDESC)) (fun _ => foldl_stores _ hx8 (fun _ _ _ h13 => State.trimSet_stores _ _ h13 gDESC))
  try clear_value x11
  exact State.forPorts_stores hx11 (fun _ _ h14 => State.modShare_stores _ _ h14)

theorem State.shareTick_stores (hk : StSame R s0 s) (gDESC : ∀ x, 0xC0000 ≤ x → x < 0xD0000 → R x) : StSame R s0 (State.shareTick s) := by
  unfold State.shareTick
  extract_lets -merge -underBinder +onlyGivenNames x0
  have hx0 : StSame R s0 x0 := State.railUpdate_stores hk gDESC
  try clear_value x0
  extract_lets -merge -underBinder +onlyGivenNames x1
  have hx1 : StSame R s0 x1 := State.forPorts_stores hx0 (fun _ _ h2 => State.modShare_stores _ _ h2)
  try clear_value x1
  extract_lets -merge -underBinder +onlyGivenNames x3 x4
  have hx4 : StSame R s0 x4 := StSame.mk' hx1
  try clear_value x4
  extract_lets -merge -underBinder +onlyGivenNames x5
  have hx5 : StSame R s0 x5 := StSame.ite (fun _ => hx1) (fun _ => StSame.ite (fun _ => State.put_stores _ _ _ hx4) (fun _ => hx4))
  try clear_value x5
  extract_lets -merge -underBinder +onlyGivenNames x6
  have hx6 : StSame R s0 x6 := State.forPorts_stores hx5 (fun _ _ h7 => StSame.ite (fun _ => State.rampDone_stores _ h7 gDESC) (fun _ => h7))
  try clear_value x6
  extract_lets -merge -underBinder +onlyGivenNames x8
  have hx8 : StSame R s0 x8 := State.shareTargets_stores hx6 gDESC
  try clear_value x8
  exact StSame.ite (fun _ => State.forPorts_stores hx0 (fun _ _ h9 => StSame.ite (fun _ => State.put_stores _ _ _ h9) (fun _ => h9))) (fun _ => StSame.ite (fun _ => State.coarse_stores hx8 gDESC) (fun _ => hx8))

theorem State.shareReset_stores (hk : StSame R s0 s) : StSame R s0 (State.shareReset s) := by
  unfold State.shareReset
  exact StSame.mk' hk

theorem State.shareResume_stores (hk : StSame R s0 s) : StSame R s0 (State.shareResume s) := by
  unfold State.shareResume
  extract_lets -merge -underBinder +onlyGivenNames x0
  have hx0 : StSame R s0 x0 := State.forPorts_stores hk (fun _ _ h1 => StSame.ite (fun _ => State.put_stores _ _ _ h1) (fun _ => h1))
  try clear_value x0
  exact StSame.ite (fun _ => StSame.mk' hx0) (fun _ => hk)

theorem State.trimClearCmd_stores (hk : StSame R s0 s) : StSame R s0 (State.trimClearCmd s) := by
  unfold State.trimClearCmd
  exact StSame.mk' hk

theorem State.hpdWrite_stores (n : Port) (level : Bool) (hk : StSame R s0 s) : StSame R s0 (State.hpdWrite s n level) := by
  unfold State.hpdWrite
  extract_lets -merge -underBinder +onlyGivenNames x0
  have hx0 : StSame R s0 x0 := State.putB_stores _ _ _ hk
  try clear_value x0
  exact StSame.ite (fun _ => hx0) (fun _ => State.modPort_stores _ _ hx0)

theorem State.hpdIrq_stores (n : Port) (early : Bool) (hk : StSame R s0 s) : StSame R s0 (State.hpdIrq s n early) := by
  unfold State.hpdIrq
  exact StSame.ite (fun _ => hk) (fun _ => StSame.ite (fun _ => State.raise_stores _ _ hk) (fun _ => StSame.ite (fun _ => State.modPort_stores _ _ hk) (fun _ => State.modPort_stores _ _ hk)))

theorem State.muxEnd_stores (result : ℕ) (bytes : ℕ) (hk : StSame R s0 s) : StSame R s0 (State.muxEnd s result bytes) := by
  unfold State.muxEnd
  extract_lets -merge -underBinder +onlyGivenNames x0
  have hx0 : StSame R s0 x0 := State.put_stores _ _ _ (State.put_stores _ _ _ (State.put_stores _ _ _ hk))
  try clear_value x0
  exact State.raise_stores _ _ hx0

theorem State.muxGo_stores (hk : StSame R s0 s) : StSame R s0 (State.muxGo s) := by
  unfold State.muxGo
  extract_lets -merge -underBinder +onlyGivenNames x0 x1
  exact StSame.ite (fun _ => State.lockedWrite_stores _ hk) (fun _ => StSame.ite (fun _ => State.muxEnd_stores _ _ hk) (fun _ => State.put_stores _ _ _ hk))

theorem State.muxAbort_stores (bytes : ℕ) (hk : StSame R s0 s) : StSame R s0 (State.muxAbort s bytes) := by
  unfold State.muxAbort
  exact StSame.ite (fun _ => State.muxEnd_stores _ _ hk) (fun _ => hk)

theorem State.muxRdata_stores (bs : List Byte) (hk : StSame R s0 s) : StSame R s0 (State.muxRdata s bs) := by
  unfold State.muxRdata
  refine foldl_stores _ ?_ ?_
  · exact hk
  · intro s0_0 s0_1 hm hs0_1
    extract_lets -merge -underBinder +onlyGivenNames x1
    exact StSame.ite (fun _ => hs0_1) (fun _ => State.put_stores _ _ _ hs0_1)

theorem State.fwSendExt_stores (n : Port) (typ : ℕ) (data : List Byte) (hk : StSame R s0 s) (gPD : ∀ x, 0x4000 * n.val ≤ x → x < 0x4000 * n.val + 0x4000 → R x) : StSame R s0 (State.fwSendExt s n typ data) := by
  unfold State.fwSendExt
  exact State.fwPut_stores _ _ hk gPD

end Sys2Proof.Machine
end

