-- ==== Sys2Proof/Laws/StoredFleet.lean ====
section
/-!
SUPPORT. `StSame` over the operations of links, fleet, port policy, VDM, placement, twins: one lemma per operation.
-/

set_option Elab.async false

namespace Sys2Proof.Machine

variable {R : Nat → Prop} {s0 s : State}

theorem State.modLink_stores (l : Link) (f : LinkSt → LinkSt) (hk : StSame R s0 s) : StSame R s0 (State.modLink s l f) := by
  unfold State.modLink
  exact StSame.mk' hk

theorem State.modFleet_stores (f : FleetSt → FleetSt) (hk : StSame R s0 s) : StSame R s0 (State.modFleet s f) := by
  unfold State.modFleet
  exact StSame.mk' hk

theorem State.transmit_stores (l : Link) (f : TxF) (hk : StSame R s0 s) : StSame R s0 (State.transmit s l f) := by
  unfold State.transmit
  extract_lets -merge -underBinder +onlyGivenNames x0 x1 x2 x3
  have hx3 : StSame R s0 x3 := State.modLink_stores _ _ hk
  try clear_value x3
  exact State.incr_stores _ _ (State.put_stores _ _ _ (State.put_stores _ _ _ hx3))

theorem State.drain_stores (l : Link) (hk : StSame R s0 s) : StSame R s0 (State.drain s l) := by
  unfold State.drain
  refine foldl_stores _ ?_ ?_
  · exact hk
  · intro s0_0 s0_1 hm hs0_1
    split
    · exact hs0_1
    · exact StSame.ite (fun _ => State.transmit_stores _ _ (State.modLink_stores _ _ hs0_1)) (fun _ => hs0_1)

theorem State.linkSend_stores (l : Link) (f : TxF) (hk : StSame R s0 s) : StSame R s0 (State.linkSend s l f) := by
  unfold State.linkSend
  exact State.drain_stores _ (State.modLink_stores _ _ hk)

theorem State.ringSend_stores (l : Link) (b : List Byte) (hops : ℕ) (wrapped : Bool) (slot : Option ℕ) (hk : StSame R s0 s) : StSame R s0 (State.ringSend s l b hops wrapped slot) := by
  unfold State.ringSend
  exact StSame.ite (fun _ => State.linkSend_stores _ _ hk) (fun _ => StSame.ite (fun _ => hk) (fun _ => StSame.ite (fun _ => State.linkSend_stores _ _ hk) (fun _ => hk)))

theorem State.sendTo_stores (typ : ℕ) (dest : ℕ) (tag : ℕ) (payload : List Byte) (hk : StSame R s0 s) : StSame R s0 (State.sendTo s typ dest tag payload) := by
  unfold State.sendTo
  exact State.ringSend_stores _ _ _ _ _ hk

theorem State.broadcast_stores (typ : ℕ) (payload : List Byte) (hk : StSame R s0 s) : StSame R s0 (State.broadcast s typ payload) := by
  unfold State.broadcast
  extract_lets -merge -underBinder +onlyGivenNames x0 x1
  have hx1 : StSame R s0 x1 := State.ringSend_stores _ _ _ _ _ (State.ringSend_stores _ _ _ _ _ hk)
  try clear_value x1
  exact State.modFleet_stores _ hx1

theorem State.txfStatus_stores (slot : ℕ) (status : ℕ) (hk : StSame R s0 s) (gTXQ : ∀ x, 0xB8000 ≤ x → x < 0xC0000 → R x) : StSame R s0 (State.txfStatus s slot status) := by
  unfold State.txfStatus
  extract_lets -merge -underBinder +onlyGivenNames x0
  have hx0 : StSame R s0 x0 := State.stPut_stores _ _ _ hk (fun x h1 h2 => gTXQ x (by (try simp +zetaDelta only [length_leBytes, List.length_append, List.length_replicate, List.length_take, List.length_drop, List.length_cons, List.length_nil, length_padTo, length_rxEntry, Desc.length_bytes, length_stRead, length_gaugeBytes, txAt, rxBufAt, txBufAt, rxRecAt, descAt, snapAt, recAt, rxfAt, txfAt, maskAt, marksAt, -List.reduceReplicate] at h1 h2); omega) (by (try simp +zetaDelta only [length_leBytes, List.length_append, List.length_replicate, List.length_take, List.length_drop, List.length_cons, List.length_nil, length_padTo, length_rxEntry, Desc.length_bytes, length_stRead, length_gaugeBytes, txAt, rxBufAt, txBufAt, rxRecAt, descAt, snapAt, recAt, rxfAt, txfAt, maskAt, marksAt, -List.reduceReplicate] at h1 h2); omega))
  try clear_value x0
  exact State.stPut_stores _ _ _ hx0 (fun x h1 h2 => gTXQ x (by (try simp +zetaDelta only [length_leBytes, List.length_append, List.length_replicate, List.length_take, List.length_drop, List.length_cons, List.length_nil, length_padTo, length_rxEntry, Desc.length_bytes, length_stRead, length_gaugeBytes, txAt, rxBufAt, txBufAt, rxRecAt, descAt, snapAt, recAt, rxfAt, txfAt, maskAt, marksAt, -List.reduceReplicate] at h1 h2); omega) (by (try simp +zetaDelta only [length_leBytes, List.length_append, List.length_replicate, List.length_take, List.length_drop, List.length_cons, List.length_nil, length_padTo, length_rxEntry, Desc.length_bytes, length_stRead, length_gaugeBytes, txAt, rxBufAt, txBufAt, rxRecAt, descAt, snapAt, recAt, rxfAt, txfAt, maskAt, marksAt, -List.reduceReplicate] at h1 h2); omega))

theorem State.txfEnd_stores (slot : ℕ) (status : ℕ) (hk : StSame R s0 s) (gTXQ : ∀ x, 0xB8000 ≤ x → x < 0xC0000 → R x) : StSame R s0 (State.txfEnd s slot status) := by
  unfold State.txfEnd
  exact State.raise_stores _ _ (State.txfStatus_stores _ _ hk gTXQ)

theorem State.linkWord_stores (l : Link) (nak : Bool) (hk : StSame R s0 s) : StSame R s0 (State.linkWord s l nak) := by
  unfold State.linkWord
  extract_lets -merge -underBinder +onlyGivenNames x0
  have hx0 : StSame R s0 x0 := State.when_stores _ hk (fun _ h1 => State.bump_stores _ _ _ h1)
  try clear_value x0
  exact State.modLink_stores _ _ hx0

theorem State.linkErr_stores (l : Link) (f : Fld) (n : ℕ) (hk : StSame R s0 s) : StSame R s0 (State.linkErr s l f n) := by
  unfold State.linkErr
  extract_lets -merge -underBinder +onlyGivenNames x0
  have hx0 : StSame R s0 x0 := State.modLink_stores _ _ (State.bump_stores _ _ _ hk)
  try clear_value x0
  exact State.put_stores _ _ _ hx0

theorem State.acked_stores (f : TxF) (hk : StSame R s0 s) (gTXQ : ∀ x, 0xB8000 ≤ x → x < 0xC0000 → R x) : StSame R s0 (State.acked s f) := by
  unfold State.acked
  extract_lets -merge -underBinder +onlyGivenNames x0
  have hx0 : StSame R s0 x0 := StSame.ite (fun _ => State.modFleet_stores _ hk) (fun _ => hk)
  try clear_value x0
  split
  · exact State.txfEnd_stores _ _ (State.stWrite_stores _ _ hx0 (fun x h1 h2 => gTXQ x (by (try simp +zetaDelta only [length_leBytes, List.length_append, List.length_replicate, List.length_take, List.length_drop, List.length_cons, List.length_nil, length_padTo, length_rxEntry, Desc.length_bytes, length_stRead, length_gaugeBytes, txAt, rxBufAt, txBufAt, rxRecAt, descAt, snapAt, recAt, rxfAt, txfAt, maskAt, marksAt, -List.reduceReplicate] at h1 h2); omega) (by (try simp +zetaDelta only [length_leBytes, List.length_append, List.length_replicate, List.length_take, List.length_drop, List.length_cons, List.length_nil, length_padTo, length_rxEntry, Desc.length_bytes, length_stRead, length_gaugeBytes, txAt, rxBufAt, txBufAt, rxRecAt, descAt, snapAt, recAt, rxfAt, txfAt, maskAt, marksAt, -List.reduceReplicate] at h1 h2); omega))) gTXQ
  · exact hx0

theorem State.takeAck_stores (l : Link) (ack : ℕ) (hk : StSame R s0 s) (gTXQ : ∀ x, 0xB8000 ≤ x → x < 0xC0000 → R x) : StSame R s0 (State.takeAck s l ack) := by
  unfold State.takeAck
  extract_lets -merge -underBinder +onlyGivenNames x0
  split
  · exact hk
  · extract_lets -merge -underBinder +onlyGivenNames x1
    have hx1 : StSame R s0 x1 := foldl_stores _ hk (fun _ _ _ h2 => State.acked_stores _ h2 gTXQ)
    try clear_value x1
    extract_lets -merge -underBinder +onlyGivenNames x3
    have hx3 : StSame R s0 x3 := State.modLink_stores _ _ hx1
    try clear_value x3
    extract_lets -merge -underBinder +onlyGivenNames x4
    have hx4 : StSame R s0 x4 := State.put_stores _ _ _ (State.put_stores _ _ _ hx3)
    try clear_value x4
    exact State.drain_stores _ hx4

theorem State.goBack_stores (l : Link) (hk : StSame R s0 s) : StSame R s0 (State.goBack s l) := by
  unfold State.goBack
  extract_lets -merge -underBinder +onlyGivenNames x0 x1
  have hx1 : StSame R s0 x1 := State.modLink_stores _ _ hk
  try clear_value x1
  exact StSame.ite (fun _ => hx1) (fun _ => State.raise_stores _ _ (State.bump_stores _ _ _ hx1))

theorem State.setWrap_stores (l : Link) (b : Bool) (hk : StSame R s0 s) : StSame R s0 (State.setWrap s l b) := by
  unfold State.setWrap
  extract_lets -merge -underBinder +onlyGivenNames x0
  have hx0 : StSame R s0 x0 := State.raise_stores _ _ (State.putB_stores _ _ _ hk)
  try clear_value x0
  extract_lets -merge -underBinder +onlyGivenNames x1 x2 x3
  have hx3 : StSame R s0 x3 := State.modFleet_stores _ hx0
  try clear_value x3
  extract_lets -merge -underBinder +onlyGivenNames x4
  have hx4 : StSame R s0 x4 := State.putB_stores _ _ _ hx3
  try clear_value x4
  extract_lets -merge -underBinder +onlyGivenNames x5
  have hx5 : StSame R s0 x5 := State.raiseIf_stores _ _ _ (State.raiseIf_stores _ _ _ hx4)
  try clear_value x5
  exact StSame.ite (fun _ => hk) (fun _ => State.broadcast_stores _ _ hx5)

theorem State.dropWindow_stores (l : Link) (hk : StSame R s0 s) (gTXQ : ∀ x, 0xB8000 ≤ x → x < 0xC0000 → R x) : StSame R s0 (State.dropWindow s l) := by
  unfold State.dropWindow
  extract_lets -merge -underBinder +onlyGivenNames x0 x1
  have hx1 : StSame R s0 x1 := State.modLink_stores _ _ hk
  try clear_value x1
  extract_lets -merge -underBinder +onlyGivenNames x2
  have hx2 : StSame R s0 x2 := State.put_stores _ _ _ (State.put_stores _ _ _ hx1)
  try clear_value x2
  refine foldl_stores _ ?_ ?_
  · exact hx2
  · intro s3_0 s3_1 hm hs3_1
    split
    · exact State.txfEnd_stores _ _ hs3_1 gTXQ
    · exact hs3_1

theorem State.linkTo_stores (l : Link) (st : ℕ) (hk : StSame R s0 s) (gTXQ : ∀ x, 0xB8000 ≤ x → x < 0xC0000 → R x) : StSame R s0 (State.linkTo s l st) := by
  unfold State.linkTo
  extract_lets -merge -underBinder +onlyGivenNames x0 x1
  have hx1 : StSame R s0 x1 := State.put_stores _ _ _ hk
  try clear_value x1
  extract_lets -merge -underBinder +onlyGivenNames x2
  have hx2 : StSame R s0 x2 := StSame.ite (fun _ => State.setWrap_stores _ _ (State.dropWindow_stores _ hx1 gTXQ)) (fun _ => hx1)
  try clear_value x2
  extract_lets -merge -underBinder +onlyGivenNames x3
  have hx3 : StSame R s0 x3 := StSame.ite (fun _ => hx2) (fun _ => State.put_stores _ _ _ hx2)
  try clear_value x3
  exact StSame.ite (fun _ => State.raise_stores _ _ hx3) (fun _ => StSame.ite (fun _ => State.raise_stores _ _ hx3) (fun _ => hx3))

theorem State.linkRetire_stores (l : Link) (cause : ℕ) (hk : StSame R s0 s) (gTXQ : ∀ x, 0xB8000 ≤ x → x < 0xC0000 → R x) : StSame R s0 (State.linkRetire s l cause) := by
  unfold State.linkRetire
  exact State.put_stores _ _ _ (State.put_stores _ _ _ (State.linkTo_stores _ _ hk gTXQ))

theorem State.linkLost_stores (l : Link) (locked : Bool) (hk : StSame R s0 s) (gTXQ : ∀ x, 0xB8000 ≤ x → x < 0xC0000 → R x) : StSame R s0 (State.linkLost s l locked) := by
  unfold State.linkLost
  extract_lets -merge -underBinder +onlyGivenNames x0
  have hx0 : StSame R s0 x0 := StSame.ite (fun _ => State.linkTo_stores _ _ hk gTXQ) (fun _ => hk)
  try clear_value x0
  exact StSame.ite (fun _ => hx0) (fun _ => State.modLink_stores _ _ (State.put_stores _ _ _ hx0))

theorem State.linkTick_stores (l : Link) (hk : StSame R s0 s) (gTXQ : ∀ x, 0xB8000 ≤ x → x < 0xC0000 → R x) : StSame R s0 (State.linkTick s l) := by
  unfold State.linkTick
  extract_lets -merge -underBinder +onlyGivenNames x0 x1 x2
  have hx2 : StSame R s0 x2 := StSame.ite (fun _ => hk) (fun _ => StSame.ite (fun _ => State.put_stores _ _ _ hk) (fun _ => StSame.ite (fun _ => State.linkTo_stores _ _ hk gTXQ) (fun _ => hk)))
  try clear_value x2
  extract_lets -merge -underBinder +onlyGivenNames x3
  have hx3 : StSame R s0 x3 := State.setWrap_stores _ _ hx2
  try clear_value x3
  extract_lets -merge -underBinder +onlyGivenNames x4 x5
  have hx5 : StSame R s0 x5 := State.put_stores _ _ _ hx3
  try clear_value x5
  extract_lets -merge -underBinder +onlyGivenNames x6
  have hx6 : StSame R s0 x6 := State.raiseIf_stores _ _ _ hx5
  try clear_value x6
  exact StSame.ite (fun _ => State.put_stores _ _ _ (State.modLink_stores _ _ hx6)) (fun _ => hx6)

theorem State.deliver_stores (via : ℕ) (b : List Byte) (hk : StSame R s0 s) : StSame R s0 (State.deliver s via b) := by
  unfold State.deliver
  exact State.modFleet_stores _ hk

theorem State.bcastSeen_stores (b : List Byte) (hk : StSame R s0 s) : StSame R s0 (State.bcastSeen s b) := by
  unfold State.bcastSeen
  exact State.modFleet_stores _ hk

theorem State.hear_stores (src : ℕ) (hk : StSame R s0 s) : StSame R s0 (State.hear s src) := by
  unfold State.hear
  exact State.modFleet_stores _ hk

theorem State.probeReturns_stores (b : List Byte) (hk : StSame R s0 s) : StSame R s0 (State.probeReturns s b) := by
  unfold State.probeReturns
  extract_lets -merge -underBinder +onlyGivenNames x0
  exact State.modFleet_stores _ (State.put_stores _ _ _ hk)

theorem State.ringTake_stores (l : Link) (b : List Byte) (hk : StSame R s0 s) : StSame R s0 (State.ringTake s l b) := by
  unfold State.ringTake
  extract_lets -merge -underBinder +onlyGivenNames x0 x1 x2
  have hx2 : StSame R s0 x2 := State.hear_stores _ hk
  try clear_value x2
  extract_lets -merge -underBinder +onlyGivenNames x3 x4
  have hx4 : ∀ a0, StSame R s0 a0 → StSame R s0 (x4 a0) := by
    intro s5_0 hs5_1
    unfold x4
    beta_reduce
    exact StSame.ite (fun _ => hs5_1) (fun _ => State.ringSend_stores _ _ _ _ _ hs5_1)
  try clear_value x4
  extract_lets -merge -underBinder +onlyGivenNames x6
  have hx6 : StSame R s0 x6 := StSame.ite (fun _ => State.deliver_stores _ _ (State.bcastSeen_stores _ hx2)) (fun _ => hx2)
  try clear_value x6
  refine StSame.ite (fun _ => ?_) (fun _ => ?_)
  · exact State.bump_stores _ _ _ hx2
  · refine StSame.ite (fun _ => ?_) (fun _ => ?_)
    · refine StSame.ite (fun _ => ?_) (fun _ => ?_)
      · exact hx2
      · refine hx4 _ ?_
        exact State.deliver_stores _ _ hx2
    · refine StSame.ite (fun _ => ?_) (fun _ => ?_)
      · refine StSame.ite (fun _ => ?_) (fun _ => ?_)
        · exact hx2
        · refine hx4 _ ?_
          exact hx6
      · refine StSame.ite (fun _ => ?_) (fun _ => ?_)
        · refine StSame.ite (fun _ => ?_) (fun _ => ?_)
          · exact State.probeReturns_stores _ hx2
          · refine hx4 _ ?_
            exact hx2
        · refine StSame.ite (fun _ => ?_) (fun _ => ?_)
          · exact State.deliver_stores _ _ hx2
          · refine StSame.ite (fun _ => ?_) (fun _ => ?_)
            · exact State.deliver_stores _ _ hx2
            · refine StSame.ite (fun _ => ?_) (fun _ => ?_)
              · exact State.bump_stores _ _ _ hx2
              · refine hx4 _ ?_
                exact hx2

theorem State.errLimit_stores (l : Link) (hk : StSame R s0 s) (gTXQ : ∀ x, 0xB8000 ≤ x → x < 0xC0000 → R x) : StSame R s0 (State.errLimit s l) := by
  unfold State.errLimit
  exact StSame.ite (fun _ => State.linkRetire_stores _ _ hk gTXQ) (fun _ => hk)

theorem State.probeLink_stores (l : Link) (hk : StSame R s0 s) (gTXQ : ∀ x, 0xB8000 ≤ x → x < 0xC0000 → R x) : StSame R s0 (State.probeLink s l) := by
  unfold State.probeLink
  exact StSame.ite (fun _ => State.bump_stores _ _ _ (State.linkTo_stores _ _ hk gTXQ)) (fun _ => hk)

theorem State.hgRetire_stores (l : Link) (hk : StSame R s0 s) (gTXQ : ∀ x, 0xB8000 ≤ x → x < 0xC0000 → R x) : StSame R s0 (State.hgRetire s l) := by
  unfold State.hgRetire
  exact StSame.ite (fun _ => hk) (fun _ => State.linkRetire_stores _ _ hk gTXQ)

theorem State.hgClear_stores (l : Link) (hk : StSame R s0 s) : StSame R s0 (State.hgClear s l) := by
  unfold State.hgClear
  exact State.wr_stores _ _ _ (State.wr_stores _ _ _ (State.wr_stores _ _ _ (State.wr_stores _ _ _ hk)))

theorem State.takeFrame_stores (p : RxF → Bool) (hk : StSame R s0 s) {f : RxF} {t : State} (e : State.takeFrame s p = some (f, t)) : StSame R s0 t := by
  unfold State.takeFrame at e
  split at e
  · exact nomatch e
  · cases e; exact State.modFleet_stores _ hk

theorem State.withFrame_stores (p : RxF → Bool) {f : RxF → State → State} (hk : StSame R s0 s) (hf : ∀ a0 a1, StSame R s0 a1 → StSame R s0 (f a0 a1)) :
    StSame R s0 (State.withFrame s p f) := by
  unfold State.withFrame
  split
  · exact hk
  · rename_i t e
    exact hf _ _ (State.takeFrame_stores _ hk e)

theorem State.takeIndex_stores (i : ℕ) (hk : StSame R s0 s) : StSame R s0 (State.takeIndex s i) := by
  unfold State.takeIndex
  exact State.modFleet_stores _ (State.put_stores _ _ _ (State.put_stores _ _ _ (State.put_stores _ _ _ hk)))

theorem State.claimIndex_stores (map : ℕ) (hk : StSame R s0 s) : StSame R s0 (State.claimIndex s map).1 := by
  unfold State.claimIndex
  refine StSame.iteFst (fun _ => ?_) (fun _ => ?_)
  · refine StSame.mkFst ?_
    exact hk
  · refine StSame.iteFst (fun _ => ?_) (fun _ => ?_)
    · refine StSame.iteFst (fun _ => ?_) (fun _ => ?_)
      · refine StSame.mkFst ?_
        exact State.raise_stores _ _ (State.put_stores _ _ _ hk)
      · refine StSame.mkFst ?_
        exact State.takeIndex_stores _ hk
    · split
      · refine StSame.mkFst ?_
        exact State.takeIndex_stores _ hk
      · refine StSame.mkFst ?_
        exact hk

theorem State.enumerate_stores (hk : StSame R s0 s) : StSame R s0 (State.enumerate s) := by
  unfold State.enumerate
  extract_lets -merge -underBinder +onlyGivenNames x0
  have hx0 : StSame R s0 x0 := StSame.ite (fun _ => hk) (fun _ => State.takeIndex_stores _ hk)
  try clear_value x0
  exact State.ringSend_stores _ _ _ _ _ hx0

theorem State.regenerate_stores (f : RxF) (payload : List Byte) (hk : StSame R s0 s) : StSame R s0 (State.regenerate s f payload) := by
  unfold State.regenerate
  extract_lets -merge -underBinder +onlyGivenNames x0 x1
  exact StSame.ite (fun _ => hk) (fun _ => State.ringSend_stores _ _ _ _ _ hk)

theorem State.takeDone_stores (src : ℕ) (p : List Byte) (hk : StSame R s0 s) : StSame R s0 (State.takeDone s src p) := by
  unfold State.takeDone
  extract_lets -merge -underBinder +onlyGivenNames x0
  have hx0 : StSame R s0 x0 := State.put_stores _ _ _ (State.put_stores _ _ _ hk)
  try clear_value x0
  extract_lets -merge -underBinder +onlyGivenNames x1
  have hx1 : StSame R s0 x1 := State.put_stores _ _ _ (State.put_stores _ _ _ (State.put_stores _ _ _ hx0))
  try clear_value x1
  extract_lets -merge -underBinder +onlyGivenNames x2
  have hx2 : StSame R s0 x2 := State.put_stores _ _ _ (State.put_stores _ _ _ hx1)
  try clear_value x2
  exact StSame.ite (fun _ => State.raise_stores _ _ (State.put_stores _ _ _ hx2)) (fun _ => hx2)

theorem State.setAligned_stores (b : Bool) (hk : StSame R s0 s) : StSame R s0 (State.setAligned s b) := by
  unfold State.setAligned
  extract_lets -merge -underBinder +onlyGivenNames x0
  have hx0 : StSame R s0 x0 := State.raise_stores _ _ (State.putB_stores _ _ _ hk)
  try clear_value x0
  exact StSame.ite (fun _ => hk) (fun _ => State.modFleet_stores _ (StSame.ite (fun _ => State.put_stores _ _ _ hx0) (fun _ => hx0)))

theorem State.onAssign_stores (f : RxF) (hk : StSame R s0 s) : StSame R s0 (State.onAssign s f) := by
  unfold State.onAssign
  extract_lets -merge -underBinder +onlyGivenNames x0 x1 x2 x3
  have hx3 : StSame R s0 x3 := State.put_stores _ _ _ hk
  try clear_value x3
  refine StSame.ite (fun _ => ?_) (fun _ => ?_)
  · exact State.ringSend_stores _ _ _ _ _ hx3
  · refine StSame.ite (fun _ => ?_) (fun _ => ?_)
    · exact State.regenerate_stores _ _ hk
    · split
      · rename_i y4 _ e4
        have hy4 : StSame R s0 y4 := by
          refine StSame.fst e4 ?_
          refine State.claimIndex_stores _ ?_
          exact hk
        extract_lets -merge -underBinder +onlyGivenNames x5
        have hx5 : StSame R s0 x5 := StSame.ite (fun _ => State.put_stores _ _ _ (State.put_stores _ _ _ hy4)) (fun _ => hy4)
        try clear_value x5
        exact StSame.ite (fun _ => State.regenerate_stores _ _ hy4) (fun _ => State.regenerate_stores _ _ hx5)

theorem State.onCal_stores (f : RxF) (hk : StSame R s0 s) : StSame R s0 (State.onCal s f) := by
  unfold State.onCal
  extract_lets -merge -underBinder +onlyGivenNames x0 x1 x2 x3
  have hx3 : StSame R s0 x3 := State.put_stores _ _ _ hk
  try clear_value x3
  extract_lets -merge -underBinder +onlyGivenNames x4 x5
  have hx5 : StSame R s0 x5 := StSame.ite (fun _ => State.put_stores _ _ _ (State.put_stores _ _ _ hk)) (fun _ => hk)
  try clear_value x5
  exact StSame.ite (fun _ => State.setAligned_stores _ (State.takeDone_stores _ _ (State.broadcast_stores _ _ hx3))) (fun _ => StSame.ite (fun _ => State.regenerate_stores _ _ hk) (fun _ => State.regenerate_stores _ _ hx5))

theorem State.enumerateCmd_stores (hk : StSame R s0 s) : StSame R s0 (State.enumerateCmd s) := by
  unfold State.enumerateCmd
  exact StSame.ite (fun _ => State.enumerate_stores hk) (fun _ => hk)

theorem State.distFail_stores (hk : StSame R s0 s) : StSame R s0 (State.distFail s) := by
  unfold State.distFail
  split
  · exact hk
  · exact State.raise_stores _ _ (State.put_stores _ _ _ (StSame.mk' hk))

theorem State.standDown_stores (hk : StSame R s0 s) : StSame R s0 (State.standDown s) := by
  unfold State.standDown
  extract_lets -merge -underBinder +onlyGivenNames x0
  have hx0 : StSame R s0 x0 := State.distFail_stores hk
  try clear_value x0
  exact State.modFleet_stores _ (State.put_stores _ _ _ (State.put_stores _ _ _ hx0))

theorem State.takeTick_stores (f : RxF) (err : ℤ) (hk : StSame R s0 s) : StSame R s0 (State.takeTick s f err) := by
  unfold State.takeTick
  extract_lets -merge -underBinder +onlyGivenNames x0 x1 x2 x3
  have hx3 : StSame R s0 x3 := State.put_stores _ _ _ (State.put_stores _ _ _ hk)
  try clear_value x3
  extract_lets -merge -underBinder +onlyGivenNames x4
  have hx4 : StSame R s0 x4 := State.modFleet_stores _ hx3
  try clear_value x4
  extract_lets -merge -underBinder +onlyGivenNames x5
  have hx5 : StSame R s0 x5 := State.putB_stores _ _ _ (State.put_stores _ _ _ hx4)
  try clear_value x5
  extract_lets -merge -underBinder +onlyGivenNames x6
  have hx6 : StSame R s0 x6 := State.modFleet_stores _ hx5
  try clear_value x6
  extract_lets -merge -underBinder +onlyGivenNames x7 x8
  have hx8 : StSame R s0 x8 := State.modFleet_stores _ hx6
  try clear_value x8
  extract_lets -merge -underBinder +onlyGivenNames x9 x10
  have hx10 : StSame R s0 x10 := StSame.ite (fun _ => hx8) (fun _ => State.bump_stores _ _ _ (State.put_stores _ _ _ hx8))
  try clear_value x10
  extract_lets -merge -underBinder +onlyGivenNames x11
  have hx11 : StSame R s0 x11 := State.modFleet_stores _ hx10
  try clear_value x11
  extract_lets -merge -underBinder +onlyGivenNames x12
  have hx12 : StSame R s0 x12 := State.setTick_stores _ hx8
  try clear_value x12
  exact StSame.ite (fun _ => hx4) (fun _ => StSame.ite (fun _ => hx6) (fun _ => StSame.ite (fun _ => StSame.ite (fun _ => State.setAligned_stores _ hx11) (fun _ => hx11)) (fun _ => StSame.ite (fun _ => State.setAligned_stores _ hx12) (fun _ => hx12))))

theorem State.sendTick_stores (off : ℕ) (hk : StSame R s0 s) : StSame R s0 (State.sendTick s off) := by
  unfold State.sendTick
  extract_lets -merge -underBinder +onlyGivenNames x0
  exact State.ringSend_stores _ _ _ _ _ (State.ringSend_stores _ _ _ _ _ hk)

theorem State.reachTick_stores (hk : StSame R s0 s) : StSame R s0 (State.reachTick s) := by
  unfold State.reachTick
  extract_lets -merge -underBinder +onlyGivenNames x0 x1 x2 x3
  have hx3 : StSame R s0 x3 := foldl_stores _ hk (fun _ _ _ h4 => State.setMapBit_stores _ _ _ _ h4)
  try clear_value x3
  exact StSame.ite (fun _ => hk) (fun _ => State.raiseIf_stores _ _ _ (State.raiseIf_stores _ _ _ hx3))

theorem State.fleetTick_stores (off : ℕ) (hk : StSame R s0 s) (gTXQ : ∀ x, 0xB8000 ≤ x → x < 0xC0000 → R x) : StSame R s0 (State.fleetTick s off) := by
  unfold State.fleetTick
  extract_lets -merge -underBinder +onlyGivenNames x0
  have hx0 : StSame R s0 x0 := foldl_stores _ hk (fun _ _ _ h1 => State.linkTick_stores _ h1 gTXQ)
  try clear_value x0
  extract_lets -merge -underBinder +onlyGivenNames x2
  have hx2 : StSame R s0 x2 := State.modFleet_stores _ (State.put_stores _ _ _ hx0)
  try clear_value x2
  extract_lets -merge -underBinder +onlyGivenNames x3
  have hx3 : StSame R s0 x3 := StSame.ite (fun _ => State.standDown_stores hx2) (fun _ => hx2)
  try clear_value x3
  extract_lets -merge -underBinder +onlyGivenNames x4
  have hx4 : StSame R s0 x4 := State.modFleet_stores _ hx3
  try clear_value x4
  extract_lets -merge -underBinder +onlyGivenNames x5
  have hx5 : StSame R s0 x5 := State.put_stores _ _ _ hx4
  try clear_value x5
  extract_lets -merge -underBinder +onlyGivenNames x6
  have hx6 : StSame R s0 x6 := State.bump_stores _ _ _ hx4
  try clear_value x6
  extract_lets -merge -underBinder +onlyGivenNames x7
  have hx7 : StSame R s0 x7 := StSame.ite (fun _ => State.setAligned_stores _ hx6) (fun _ => hx6)
  try clear_value x7
  extract_lets -merge -underBinder +onlyGivenNames x8
  have hx8 : StSame R s0 x8 := State.bump_stores _ _ _ hx7
  try clear_value x8
  extract_lets -merge -underBinder +onlyGivenNames x9
  have hx9 : StSame R s0 x9 := State.modFleet_stores _ hx8
  try clear_value x9
  exact StSame.ite (fun _ => State.put_stores _ _ _ hx2) (fun _ => StSame.ite (fun _ => State.reachTick_stores (StSame.ite (fun _ => hx5) (fun _ => State.sendTick_stores _ hx5))) (fun _ => StSame.ite (fun _ => StSame.ite (fun _ => State.ringSend_stores _ _ _ _ _ hx9) (fun _ => hx9)) (fun _ => hx7)))

theorem State.rxqPut_stores (f : RxF) (slot : ℕ) (cls : ℕ) (task : ℕ) (hk : StSame R s0 s) (gRXQ : ∀ x, 0xB0000 ≤ x → x < 0xB8000 → R x) (gDESC : ∀ x, 0xC0000 ≤ x → x < 0xD0000 → R x) : StSame R s0 (State.rxqPut s f slot cls task) := by
  unfold State.rxqPut
  extract_lets -merge -underBinder +onlyGivenNames x0 x1
  have hx1 : StSame R s0 x1 := State.put_stores _ _ _ (State.stRecord_stores _ _ hk (fun x h1 h2 => gRXQ x (by (try simp +zetaDelta only [length_leBytes, List.length_append, List.length_replicate, List.length_take, List.length_drop, List.length_cons, List.length_nil, length_padTo, length_rxEntry, Desc.length_bytes, length_stRead, length_gaugeBytes, txAt, rxBufAt, txBufAt, rxRecAt, descAt, snapAt, recAt, rxfAt, txfAt, maskAt, marksAt, -List.reduceReplicate] at h1 h2); omega) (by (try simp +zetaDelta only [length_leBytes, List.length_append, List.length_replicate, List.length_take, List.length_drop, List.length_cons, List.length_nil, length_padTo, length_rxEntry, Desc.length_bytes, length_stRead, length_gaugeBytes, txAt, rxBufAt, txBufAt, rxRecAt, descAt, snapAt, recAt, rxfAt, txfAt, maskAt, marksAt, -List.reduceReplicate] at h1 h2); omega)))
  try clear_value x1
  exact StSame.ite (fun _ => State.raise_stores _ _ (State.bump_stores _ _ _ hk)) (fun _ => State.postGlobal_stores _ _ _ _ _ hx1 gDESC)

theorem State.rxRelease_stores (i : ℕ) (hk : StSame R s0 s) : StSame R s0 (State.rxRelease s i) := by
  unfold State.rxRelease
  exact StSame.ite (fun _ => State.put_stores _ _ _ hk) (fun _ => hk)

theorem State.txfReq_stores (slot : ℕ) (hk : StSame R s0 s) (gTXQ : ∀ x, 0xB8000 ≤ x → x < 0xC0000 → R x) : StSame R s0 (State.txfReq s slot) := by
  unfold State.txfReq
  extract_lets -merge -underBinder +onlyGivenNames x0 x1 x2 x3 x4 x5 x6
  have hx6 : StSame R s0 x6 := State.txfStatus_stores _ _ (State.stPut_stores _ _ _ (State.stPut_stores _ _ _ hk (fun x h1 h2 => gTXQ x (by (try simp +zetaDelta only [length_leBytes, List.length_append, List.length_replicate, List.length_take, List.length_drop, List.length_cons, List.length_nil, length_padTo, length_rxEntry, Desc.length_bytes, length_stRead, length_gaugeBytes, txAt, rxBufAt, txBufAt, rxRecAt, descAt, snapAt, recAt, rxfAt, txfAt, maskAt, marksAt, -List.reduceReplicate] at h1 h2); omega) (by (try simp +zetaDelta only [length_leBytes, List.length_append, List.length_replicate, List.length_take, List.length_drop, List.length_cons, List.length_nil, length_padTo, length_rxEntry, Desc.length_bytes, length_stRead, length_gaugeBytes, txAt, rxBufAt, txBufAt, rxRecAt, descAt, snapAt, recAt, rxfAt, txfAt, maskAt, marksAt, -List.reduceReplicate] at h1 h2); omega))) (fun x h1 h2 => gTXQ x (by (try simp +zetaDelta only [length_leBytes, List.length_append, List.length_replicate, List.length_take, List.length_drop, List.length_cons, List.length_nil, length_padTo, length_rxEntry, Desc.length_bytes, length_stRead, length_gaugeBytes, txAt, rxBufAt, txBufAt, rxRecAt, descAt, snapAt, recAt, rxfAt, txfAt, maskAt, marksAt, -List.reduceReplicate] at h1 h2); omega) (by (try simp +zetaDelta only [length_leBytes, List.length_append, List.length_replicate, List.length_take, List.length_drop, List.length_cons, List.length_nil, length_padTo, length_rxEntry, Desc.length_bytes, length_stRead, length_gaugeBytes, txAt, rxBufAt, txBufAt, rxRecAt, descAt, snapAt, recAt, rxfAt, txfAt, maskAt, marksAt, -List.reduceReplicate] at h1 h2); omega))) gTXQ
  try clear_value x6
  extract_lets -merge -underBinder +onlyGivenNames x7 x8
  have hx8 : StSame R s0 x8 := State.modFleet_stores _ hx6
  try clear_value x8
  exact StSame.ite (fun _ => hk) (fun _ => StSame.ite (fun _ => State.txfEnd_stores _ _ (State.stNote_stores _ _ _ hk) gTXQ) (fun _ => StSame.ite (fun _ => State.txfEnd_stores _ _ hk gTXQ) (fun _ => StSame.ite (fun _ => State.linkSend_stores _ _ hx6) (fun _ => StSame.ite (fun _ => StSame.ite (fun _ => State.ringSend_stores _ _ _ _ _ (State.ringSend_stores _ _ _ _ _ hx8)) (fun _ => State.ringSend_stores _ _ _ _ _ hx8)) (fun _ => State.ringSend_stores _ _ _ _ _ hx6)))))

theorem State.sendEngine_stores (slot : ℕ) (typ : ℕ) (bcast : Bool) (dest : ℕ) (via : ℕ) (tag : ℕ) (payload : List Byte) (hk : StSame R s0 s) (gTXQ : ∀ x, 0xB8000 ≤ x → x < 0xC0000 → R x) : StSame R s0 (State.sendEngine s slot typ bcast dest via tag payload) := by
  unfold State.sendEngine
  extract_lets -merge -underBinder +onlyGivenNames x0
  exact State.txfReq_stores _ (State.stRecord_stores _ _ hk (fun x h1 h2 => gTXQ x (by (try simp +zetaDelta only [length_leBytes, List.length_append, List.length_replicate, List.length_take, List.length_drop, List.length_cons, List.length_nil, length_padTo, length_rxEntry, Desc.length_bytes, length_stRead, length_gaugeBytes, txAt, rxBufAt, txBufAt, rxRecAt, descAt, snapAt, recAt, rxfAt, txfAt, maskAt, marksAt, -List.reduceReplicate] at h1 h2); omega) (by (try simp +zetaDelta only [length_leBytes, List.length_append, List.length_replicate, List.length_take, List.length_drop, List.length_cons, List.length_nil, length_padTo, length_rxEntry, Desc.length_bytes, length_stRead, length_gaugeBytes, txAt, rxBufAt, txBufAt, rxRecAt, descAt, snapAt, recAt, rxfAt, txfAt, maskAt, marksAt, -List.reduceReplicate] at h1 h2); omega))) gTXQ

theorem State.adopt_stores (mgr : ℕ) (dp : ℕ) (ds : ℕ) (hk : StSame R s0 s) : StSame R s0 (State.adopt s mgr dp ds) := by
  unfold State.adopt
  extract_lets -merge -underBinder +onlyGivenNames x0
  have hx0 : StSame R s0 x0 := State.put_stores _ _ _ hk
  try clear_value x0
  extract_lets -merge -underBinder +onlyGivenNames x1
  have hx1 : StSame R s0 x1 := State.put_stores _ _ _ hx0
  try clear_value x1
  exact State.put_stores _ _ _ hx1

theorem State.takeOver_stores (hk : StSame R s0 s) : StSame R s0 (State.takeOver s) := by
  unfold State.takeOver
  extract_lets -merge -underBinder +onlyGivenNames x0 x1 x2
  have hx2 : StSame R s0 x2 := State.raise_stores _ _ (State.put_stores _ _ _ hk)
  try clear_value x2
  extract_lets -merge -underBinder +onlyGivenNames x3
  have hx3 : StSame R s0 x3 := State.broadcast_stores _ _ hx2
  try clear_value x3
  extract_lets -merge -underBinder +onlyGivenNames x4
  have hx4 : StSame R s0 x4 := State.modFleet_stores _ hx3
  try clear_value x4
  exact State.sendTick_stores _ (State.put_stores _ _ _ (State.put_stores _ _ _ (State.adopt_stores _ _ _ hx4)))

theorem State.tkoCmd_stores (hk : StSame R s0 s) : StSame R s0 (State.tkoCmd s) := by
  unfold State.tkoCmd
  exact StSame.ite (fun _ => State.modFleet_stores _ hk) (fun _ => hk)

theorem State.handbackCmd_stores (hk : StSame R s0 s) : StSame R s0 (State.handbackCmd s) := by
  unfold State.handbackCmd
  exact StSame.ite (fun _ => State.modFleet_stores _ hk) (fun _ => hk)

theorem State.policy_stores {f : State → State} (hk : StSame R s0 s) (hf : ∀ a0, StSame R s0 a0 → StSame R s0 (f a0)) : StSame R s0 (State.policy s f) := by
  unfold State.policy
  refine StSame.ite (fun _ => ?_) (fun _ => ?_)
  · refine hf _ ?_
    exact hk
  · exact hk

theorem State.modOwn_stores (n : Port) (f : OwnGrant → OwnGrant) (hk : StSame R s0 s) : StSame R s0 (State.modOwn s n f) := by
  unfold State.modOwn
  exact StSame.mk' hk

theorem State.modTw_stores (n : Port) (f : TwinPort → TwinPort) (hk : StSame R s0 s) : StSame R s0 (State.modTw s n f) := by
  unfold State.modTw
  exact StSame.mk' hk

theorem State.advertise_stores (n : Port) (hk : StSame R s0 s) (gPD : ∀ x, 0x4000 * n.val ≤ x → x < 0x4000 * n.val + 0x4000 → R x) : StSame R s0 (State.advertise s n) := by
  unfold State.advertise
  extract_lets -merge -underBinder +onlyGivenNames x0 x1
  have hx1 : StSame R s0 x1 := State.modFw_stores _ _ hk
  try clear_value x1
  extract_lets -merge -underBinder +onlyGivenNames x2
  exact StSame.ite (fun _ => State.fwSendExt_stores _ _ _ hx1 gPD) (fun _ => State.fwSend_stores _ _ _ _ _ hx1 gPD)

theorem State.writeIlim_stores (n : Port) (hk : StSame R s0 s) : StSame R s0 (State.writeIlim s n) := by
  unfold State.writeIlim
  extract_lets -merge -underBinder +onlyGivenNames x0 x1
  have hx1 : StSame R s0 x1 := State.put_stores _ _ _ hk
  try clear_value x1
  exact State.modOwn_stores _ _ hx1

theorem State.followLimit_stores (n : Port) (hk : StSame R s0 s) : StSame R s0 (State.followLimit s n) := by
  unfold State.followLimit
  exact StSame.ite (fun _ => State.writeIlim_stores _ hk) (fun _ => hk)

theorem State.fwHrComplete_stores (n : Port) (hk : StSame R s0 s) : StSame R s0 (State.fwHrComplete s n) := by
  unfold State.fwHrComplete
  exact StSame.ite (fun _ => State.put_stores _ _ _ hk) (fun _ => hk)

theorem State.vdmAsk_stores (n : Port) (sop : ℕ) (h : Word) (body : List Word) (ams : Bool) (hk : StSame R s0 s) (gPD : ∀ x, 0x4000 * n.val ≤ x → x < 0x4000 * n.val + 0x4000 → R x) : StSame R s0 (State.vdmAsk s n sop h body ams) := by
  unfold State.vdmAsk
  extract_lets -merge -underBinder +onlyGivenNames x0
  exact State.modFw_stores _ _ (State.fwSend_stores _ _ _ _ _ hk gPD)

theorem State.cableAsk_stores (n : Port) (hk : StSame R s0 s) (gPD : ∀ x, 0x4000 * n.val ≤ x → x < 0x4000 * n.val + 0x4000 → R x) : StSame R s0 (State.cableAsk s n) := by
  unfold State.cableAsk
  extract_lets -merge -underBinder +onlyGivenNames x0 x1
  have hx1 : StSame R s0 x1 := StSame.ite (fun _ => State.put_stores _ _ _ hk) (fun _ => hk)
  try clear_value x1
  exact StSame.ite (fun _ => State.vdmAsk_stores _ _ _ _ _ (State.modFw_stores _ _ hx1) gPD) (fun _ => hk)

theorem State.stageCon_stores (n : Port) (obj : Word) (rdo : Word) (a : ReqAsk) (epr : Bool) (source : Bool) (hk : StSame R s0 s) : StSame R s0 (State.stageCon s n obj rdo a epr source) := by
  unfold State.stageCon
  extract_lets -merge -underBinder +onlyGivenNames x0 x1
  have hx1 : StSame R s0 x1 := State.wr_stores _ _ _ (State.wr_stores _ _ _ hk)
  try clear_value x1
  extract_lets -merge -underBinder +onlyGivenNames x2
  have hx2 : StSame R s0 x2 := State.put_stores _ _ _ (State.put_stores _ _ _ (State.put_stores _ _ _ hx1))
  try clear_value x2
  exact State.put_stores _ _ _ hx2

theorem State.evalRequest_stores (n : Port) (i : ℕ) (hk : StSame R s0 s) (gPD : ∀ x, 0x4000 * n.val ≤ x → x < 0x4000 * n.val + 0x4000 → R x) (gDESC : ∀ x, 0xC0000 ≤ x → x < 0xD0000 → R x) : StSame R s0 (State.evalRequest s n i) := by
  unfold State.evalRequest
  extract_lets -merge -underBinder +onlyGivenNames x0 x1 x2 x3 x4
  refine StSame.ite (fun _ => ?_) (fun _ => ?_)
  · exact State.hardResetStart_stores _ hk gPD gDESC
  · split
    · exact State.fwSend_stores _ _ _ _ _ hk gPD
    · extract_lets -merge -underBinder +onlyGivenNames x5
      extract_lets -merge -underBinder +onlyGivenNames x6
      have hx6 : StSame R s0 x6 := State.stageCon_stores _ _ _ _ _ _ hk
      try clear_value x6
      extract_lets -merge -underBinder +onlyGivenNames x7
      have hx7 : StSame R s0 x7 := State.modFw_stores _ _ hx6
      try clear_value x7
      exact StSame.ite (fun _ => State.fwSend_stores _ _ _ _ _ hk gPD) (fun _ => StSame.ite (fun _ => State.advertise_stores _ (State.fwSend_stores _ _ _ _ _ hk gPD) gPD) (fun _ => StSame.ite (fun _ => State.hardResetStart_stores _ hk gPD gDESC) (fun _ => State.fwSendFor_stores _ _ _ _ _ _ hx7 gPD)))

theorem State.eprMode_stores (n : Port) (action : ℕ) (hk : StSame R s0 s) (gPD : ∀ x, 0x4000 * n.val ≤ x → x < 0x4000 * n.val + 0x4000 → R x) : StSame R s0 (State.eprMode s n action) := by
  unfold State.eprMode
  extract_lets -merge -underBinder +onlyGivenNames x0
  split
  · exact StSame.ite (fun _ => State.advertise_stores _ (State.modFw_stores _ _ (State.fwSend_stores _ _ _ _ _ (State.fwSend_stores _ _ _ _ _ hk gPD) gPD)) gPD) (fun _ => State.fwSend_stores _ _ _ _ _ hk gPD)
  · exact State.modFw_stores _ _ hk
  · exact hk

theorem State.sendRequest_stores (n : Port) (o : SnkOpt) (i : ℕ) (mism : Bool) (hk : StSame R s0 s) (gPD : ∀ x, 0x4000 * n.val ≤ x → x < 0x4000 * n.val + 0x4000 → R x) : StSame R s0 (State.sendRequest s n o i mism) := by
  unfold State.sendRequest
  extract_lets -merge -underBinder +onlyGivenNames x0 x1 x2 x3 x4
  have hx4 : StSame R s0 x4 := State.stageCon_stores _ _ _ _ _ _ hk
  try clear_value x4
  extract_lets -merge -underBinder +onlyGivenNames x5
  have hx5 : StSame R s0 x5 := State.modFw_stores _ _ hx4
  try clear_value x5
  exact StSame.ite (fun _ => State.fwSend_stores _ _ _ _ _ hx5 gPD) (fun _ => State.fwSend_stores _ _ _ _ _ hx5 gPD)

theorem State.sinkChoose_stores (n : Port) (hk : StSame R s0 s) (gPD : ∀ x, 0x4000 * n.val ≤ x → x < 0x4000 * n.val + 0x4000 → R x) : StSame R s0 (State.sinkChoose s n) := by
  unfold State.sinkChoose
  extract_lets -merge -underBinder +onlyGivenNames x0 x1
  split
  · exact State.sendRequest_stores _ _ _ _ hk gPD
  · extract_lets -merge -underBinder +onlyGivenNames x2
    extract_lets -merge -underBinder +onlyGivenNames x3 x4
    have hx4 : StSame R s0 x4 := State.sendRequest_stores _ _ _ _ hk gPD
    try clear_value x4
    split
    · exact hx4
    · exact StSame.ite (fun _ => hx4) (fun _ => State.sendRequest_stores _ _ _ _ hk gPD)

theorem State.drAnswer_stores (n : Port) (hk : StSame R s0 s) (gPD : ∀ x, 0x4000 * n.val ≤ x → x < 0x4000 * n.val + 0x4000 → R x) (gDESC : ∀ x, 0xC0000 ≤ x → x < 0xD0000 → R x) : StSame R s0 (State.drAnswer s n) := by
  unfold State.drAnswer
  extract_lets -merge -underBinder +onlyGivenNames x0 x1
  exact StSame.ite (fun _ => State.hardResetStart_stores _ hk gPD gDESC) (fun _ => StSame.ite (fun _ => State.fwSend_stores _ _ _ _ _ hk gPD) (fun _ => StSame.ite (fun _ => State.fwSendFor_stores _ _ _ _ _ _ hk gPD) (fun _ => State.fwSend_stores _ _ _ _ _ hk gPD)))

theorem State.drInitiate_stores (n : Port) (hk : StSame R s0 s) (gPD : ∀ x, 0x4000 * n.val ≤ x → x < 0x4000 * n.val + 0x4000 → R x) : StSame R s0 (State.drInitiate s n) := by
  unfold State.drInitiate
  extract_lets -merge -underBinder +onlyGivenNames x0 x1
  exact StSame.ite (fun _ => State.fwSend_stores _ _ _ _ _ (State.modFw_stores _ _ hk) gPD) (fun _ => hk)

theorem State.vdmEvt_stores (n : Port) (f : Fld) (hk : StSame R s0 s) : StSame R s0 (State.vdmEvt s n f) := by
  unfold State.vdmEvt
  exact State.raise_stores _ _ hk

theorem State.discStart_stores (n : Port) (hk : StSame R s0 s) (gPD : ∀ x, 0x4000 * n.val ≤ x → x < 0x4000 * n.val + 0x4000 → R x) : StSame R s0 (State.discStart s n) := by
  unfold State.discStart
  extract_lets -merge -underBinder +onlyGivenNames x0
  have hx0 : StSame R s0 x0 := State.modFw_stores _ _ (State.put_stores _ _ _ hk)
  try clear_value x0
  exact State.vdmAsk_stores _ _ _ _ _ hx0 gPD

theorem State.amsDone_stores (n : Port) (hk : StSame R s0 s) : StSame R s0 (State.amsDone s n) := by
  unfold State.amsDone
  exact StSame.ite (fun _ => State.amsEnd_stores _ hk) (fun _ => hk)

theorem State.discEnd_stores (n : Port) (ok : Bool) (hk : StSame R s0 s) : StSame R s0 (State.discEnd s n ok) := by
  unfold State.discEnd
  extract_lets -merge -underBinder +onlyGivenNames x0
  have hx0 : StSame R s0 x0 := State.modFw_stores _ _ (State.put_stores _ _ _ hk)
  try clear_value x0
  extract_lets -merge -underBinder +onlyGivenNames x1
  have hx1 : StSame R s0 x1 := State.vdmEvt_stores _ _ hx0
  try clear_value x1
  exact StSame.ite (fun _ => hx1) (fun _ => State.amsDone_stores _ hx1)

theorem State.discNext_stores (n : Port) (hk : StSame R s0 s) (gPD : ∀ x, 0x4000 * n.val ≤ x → x < 0x4000 * n.val + 0x4000 → R x) : StSame R s0 (State.discNext s n) := by
  unfold State.discNext
  split
  · exact State.discEnd_stores _ _ hk
  · exact State.vdmAsk_stores _ _ _ _ _ (State.modFw_stores _ _ (State.put_stores _ _ _ hk)) gPD

theorem State.svidPut_stores (n : Port) (i : ℕ) (v : ℕ) (hk : StSame R s0 s) : StSame R s0 (State.svidPut s n i v) := by
  unfold State.svidPut
  exact State.put_stores _ _ _ hk

theorem State.discSvids_stores (n : Port) (objs : List Word) (hk : StSame R s0 s) (gPD : ∀ x, 0x4000 * n.val ≤ x → x < 0x4000 * n.val + 0x4000 → R x) : StSame R s0 (State.discSvids s n objs) := by
  unfold State.discSvids
  extract_lets -merge -underBinder +onlyGivenNames x0 x1 x2 x3 x4
  have hx4 : StSame R s0 x4 := foldl_stores _ hk (fun _ _ _ h5 => State.svidPut_stores _ _ _ h5)
  try clear_value x4
  extract_lets -merge -underBinder +onlyGivenNames x6
  have hx6 : StSame R s0 x6 := State.putB_stores _ _ _ (State.put_stores _ _ _ hx4)
  try clear_value x6
  extract_lets -merge -underBinder +onlyGivenNames x7
  have hx7 : StSame R s0 x7 := State.modFw_stores _ _ hx6
  try clear_value x7
  extract_lets -merge -underBinder +onlyGivenNames x8
  exact StSame.ite (fun _ => State.vdmAsk_stores _ _ _ _ _ hx7 gPD) (fun _ => State.discNext_stores _ (State.modFw_stores _ _ hx7) gPD)

theorem State.enterMode_stores (n : Port) (svid : ℕ) (pos : ℕ) (ams : Bool) (hk : StSame R s0 s) (gPD : ∀ x, 0x4000 * n.val ≤ x → x < 0x4000 * n.val + 0x4000 → R x) : StSame R s0 (State.enterMode s n svid pos ams) := by
  unfold State.enterMode
  exact State.vdmAsk_stores _ _ _ _ _ (State.modFw_stores _ _ hk) gPD

theorem State.modeClear_stores (n : Port) (mux : ℕ) (hk : StSame R s0 s) : StSame R s0 (State.modeClear s n mux) := by
  unfold State.modeClear
  extract_lets -merge -underBinder +onlyGivenNames x0 x1
  have hx1 : StSame R s0 x1 := State.wr_stores _ _ _ (State.wr_stores _ _ _ (State.wr_stores _ _ _ hk))
  try clear_value x1
  exact State.modFw_stores _ _ (State.put_stores _ _ _ hx1)

theorem State.modeRecord_stores (n : Port) (hk : StSame R s0 s) (gMODE : ∀ x, 0x100100 + 16 * n.val ≤ x → x < 0x100110 + 16 * n.val → R x) : StSame R s0 (State.modeRecord s n) := by
  unfold State.modeRecord
  extract_lets -merge -underBinder +onlyGivenNames x0
  exact State.aosWrite_stores _ _ hk (fun x h1 h2 => gMODE x (by (try simp +zetaDelta only [length_leBytes, List.length_append, List.length_replicate, List.length_take, List.length_drop, List.length_cons, List.length_nil, length_padTo, length_rxEntry, Desc.length_bytes, length_stRead, length_gaugeBytes, txAt, rxBufAt, txBufAt, rxRecAt, descAt, snapAt, recAt, rxfAt, txfAt, maskAt, marksAt, -List.reduceReplicate] at h1 h2); omega) (by (try simp +zetaDelta only [length_leBytes, List.length_append, List.length_replicate, List.length_take, List.length_drop, List.length_cons, List.length_nil, length_padTo, length_rxEntry, Desc.length_bytes, length_stRead, length_gaugeBytes, txAt, rxBufAt, txBufAt, rxRecAt, descAt, snapAt, recAt, rxfAt, txfAt, maskAt, marksAt, -List.reduceReplicate] at h1 h2); omega))

theorem State.dpStatus_stores (n : Port) (vdo : Word) (hk : StSame R s0 s) (gMODE : ∀ x, 0x100100 + 16 * n.val ≤ x → x < 0x100110 + 16 * n.val → R x) : StSame R s0 (State.dpStatus s n vdo) := by
  unfold State.dpStatus
  extract_lets -merge -underBinder +onlyGivenNames x0
  have hx0 : StSame R s0 x0 := State.wr_stores _ _ _ hk
  try clear_value x0
  extract_lets -merge -underBinder +onlyGivenNames x1 x2
  have hx2 : StSame R s0 x2 := State.raiseIf_stores _ _ _ hx0
  try clear_value x2
  extract_lets -merge -underBinder +onlyGivenNames x3 x4
  have hx4 : StSame R s0 x4 := State.hpdWrite_stores _ _ hx2
  try clear_value x4
  extract_lets -merge -underBinder +onlyGivenNames x5
  exact State.modeRecord_stores _ (StSame.ite (fun _ => State.freshen_stores (State.hpdIrq_stores _ _ hx4)) (fun _ => hx4)) gMODE

theorem State.modeResponse_stores (n : Port) (q : VdmReq) (h : Word) (objs : List Word) (hk : StSame R s0 s) (gPD : ∀ x, 0x4000 * n.val ≤ x → x < 0x4000 * n.val + 0x4000 → R x) (gMODE : ∀ x, 0x100100 + 16 * n.val ≤ x → x < 0x100110 + 16 * n.val → R x) : StSame R s0 (State.modeResponse s n q h objs) := by
  unfold State.modeResponse
  extract_lets -merge -underBinder +onlyGivenNames x0 x1 x2
  split
  · extract_lets -merge -underBinder +onlyGivenNames x3
    have hx3 : StSame R s0 x3 := State.put_stores _ _ _ (State.put_stores _ _ _ (State.put_stores _ _ _ hk))
    try clear_value x3
    extract_lets -merge -underBinder +onlyGivenNames x4
    have hx4 : StSame R s0 x4 := State.vdmEvt_stores _ _ hx3
    try clear_value x4
    exact StSame.ite (fun _ => StSame.ite (fun _ => State.vdmAsk_stores _ _ _ _ _ (State.put_stores _ _ _ hx4) gPD) (fun _ => State.amsDone_stores _ (State.modeRecord_stores _ hx4 gMODE))) (fun _ => State.amsDone_stores _ (State.modFw_stores _ _ hk))
  · exact State.amsDone_stores _ (State.modeRecord_stores _ (State.vdmEvt_stores _ _ (State.modeClear_stores _ _ hk)) gMODE)
  · extract_lets -merge -underBinder +onlyGivenNames x5
    have hx5 : StSame R s0 x5 := State.dpStatus_stores _ _ hk gMODE
    try clear_value x5
    extract_lets -merge -underBinder +onlyGivenNames x6 x7
    have hx7 : StSame R s0 x7 := State.modFw_stores _ _ hx5
    try clear_value x7
    exact StSame.ite (fun _ => State.vdmAsk_stores _ _ _ _ _ hx7 gPD) (fun _ => State.amsDone_stores _ hk)
  · extract_lets -merge -underBinder +onlyGivenNames x8
    have hx8 : StSame R s0 x8 := State.put_stores _ _ _ (State.wr_stores _ _ _ hk)
    try clear_value x8
    exact StSame.ite (fun _ => State.amsDone_stores _ (State.modeRecord_stores _ hx8 gMODE)) (fun _ => State.vdmAsk_stores _ _ _ _ _ (State.modFw_stores _ _ hk) gPD)
  · exact hk

theorem State.cableResponse_stores (n : Port) (q : VdmReq) (ack : Bool) (objs : List Word) (hk : StSame R s0 s) (gPD : ∀ x, 0x4000 * n.val ≤ x → x < 0x4000 * n.val + 0x4000 → R x) : StSame R s0 (State.cableResponse s n q ack objs) := by
  unfold State.cableResponse
  extract_lets -merge -underBinder +onlyGivenNames x0 x1
  have hx1 : StSame R s0 x1 := State.modFw_stores _ _ hk
  try clear_value x1
  extract_lets -merge -underBinder +onlyGivenNames x2 x3
  have hx3 : StSame R s0 x3 := State.wr_stores _ _ _ (State.wr_stores _ _ _ hx1)
  try clear_value x3
  extract_lets -merge -underBinder +onlyGivenNames x4
  have hx4 : StSame R s0 x4 := State.putB_stores _ _ _ (State.put_stores _ _ _ hx3)
  try clear_value x4
  exact StSame.ite (fun _ => StSame.ite (fun _ => State.vdmAsk_stores _ _ _ _ _ (State.modFw_stores _ _ hx4) gPD) (fun _ => State.amsDone_stores _ hx4)) (fun _ => State.amsDone_stores _ hx1)

theorem State.vdmResponse_stores (n : Port) (i : ℕ) (hk : StSame R s0 s) (gPD : ∀ x, 0x4000 * n.val ≤ x → x < 0x4000 * n.val + 0x4000 → R x) (gMODE : ∀ x, 0x100100 + 16 * n.val ≤ x → x < 0x100110 + 16 * n.val → R x) : StSame R s0 (State.vdmResponse s n i) := by
  unfold State.vdmResponse
  extract_lets -merge -underBinder +onlyGivenNames x0
  split
  · exact hk
  · extract_lets -merge -underBinder +onlyGivenNames x1
    extract_lets -merge -underBinder +onlyGivenNames x2 x3 x4 x5 x6
    have hx6 : StSame R s0 x6 := State.modFw_stores _ _ hk
    try clear_value x6
    refine StSame.ite (fun _ => ?_) (fun _ => ?_)
    · exact hk
    · refine StSame.ite (fun _ => ?_) (fun _ => ?_)
      · exact State.modFw_stores _ _ hk
      · refine StSame.ite (fun _ => ?_) (fun _ => ?_)
        · exact State.cableResponse_stores _ _ _ _ hk gPD
        · split
          · extract_lets -merge -underBinder +onlyGivenNames x7
            have hx7 : StSame R s0 x7 := State.wr_stores _ _ _ (State.wr_stores _ _ _ (State.wr_stores _ _ _ (State.wr_stores _ _ _ hx6)))
            try clear_value x7
            extract_lets -merge -underBinder +onlyGivenNames x8
            have hx8 : StSame R s0 x8 := State.put_stores _ _ _ (State.put_stores _ _ _ hx7)
            try clear_value x8
            exact StSame.ite (fun _ => State.vdmAsk_stores _ _ _ _ _ (State.put_stores _ _ _ hx8) gPD) (fun _ => State.discEnd_stores _ _ hx6)
          · exact StSame.ite (fun _ => State.discSvids_stores _ _ hx6 gPD) (fun _ => State.discEnd_stores _ _ hx6)
          · extract_lets -merge -underBinder +onlyGivenNames x9
            extract_lets -merge -underBinder +onlyGivenNames x10 x11
            have hx11 : StSame R s0 x11 := State.modFw_stores _ _ hx6
            try clear_value x11
            extract_lets -merge -underBinder +onlyGivenNames x12
            have hx12 : StSame R s0 x12 := StSame.ite (fun _ => State.wr_stores _ _ _ hx11) (fun _ => hx11)
            try clear_value x12
            exact StSame.ite (fun _ => State.discNext_stores _ hx12 gPD) (fun _ => State.discEnd_stores _ _ hx6)
          · exact State.modeResponse_stores _ _ _ _ hx6 gPD gMODE

theorem State.vdmReply_stores (n : Port) (q : Word) (ctype : ℕ) (objs : List Word) (hk : StSame R s0 s) (gPD : ∀ x, 0x4000 * n.val ≤ x → x < 0x4000 * n.val + 0x4000 → R x) : StSame R s0 (State.vdmReply s n q ctype objs) := by
  unfold State.vdmReply
  exact State.fwSendFor_stores _ _ _ _ _ _ hk gPD

theorem State.vdmRequest_stores (n : Port) (i : ℕ) (hk : StSame R s0 s) (gMODE : ∀ x, 0x100100 + 16 * n.val ≤ x → x < 0x100110 + 16 * n.val → R x) (gPD : ∀ x, 0x4000 * n.val ≤ x → x < 0x4000 * n.val + 0x4000 → R x) : StSame R s0 (State.vdmRequest s n i) := by
  unfold State.vdmRequest
  extract_lets -merge -underBinder +onlyGivenNames x0 x1 x2 x3
  refine StSame.ite (fun _ => ?_) (fun _ => ?_)
  · exact StSame.ite (fun _ => State.dpStatus_stores _ _ hk gMODE) (fun _ => hk)
  · refine StSame.ite (fun _ => ?_) (fun _ => ?_)
    · exact State.vdmReply_stores _ _ _ _ hk gPD
    · refine StSame.ite (fun _ => ?_) (fun _ => ?_)
      · exact State.vdmReply_stores _ _ _ _ hk gPD
      · split
        · exact StSame.ite (fun _ => State.vdmReply_stores _ _ _ _ (State.modFw_stores _ _ hk) gPD) (fun _ => State.vdmReply_stores _ _ _ _ hk gPD)
        · extract_lets -merge -underBinder +onlyGivenNames x4
          exact StSame.ite (fun _ => State.vdmReply_stores _ _ _ _ (State.modFw_stores _ _ hk) gPD) (fun _ => State.vdmReply_stores _ _ _ _ hk gPD)
        · exact StSame.ite (fun _ => State.vdmReply_stores _ _ _ _ hk gPD) (fun _ => State.vdmReply_stores _ _ _ _ hk gPD)
        · extract_lets -merge -underBinder +onlyGivenNames x5
          have hx5 : StSame R s0 x5 := State.put_stores _ _ _ (State.put_stores _ _ _ (State.put_stores _ _ _ hk))
          try clear_value x5
          extract_lets -merge -underBinder +onlyGivenNames x6
          have hx6 : StSame R s0 x6 := StSame.ite (fun _ => State.put_stores _ _ _ hx5) (fun _ => hx5)
          try clear_value x6
          exact StSame.ite (fun _ => State.vdmReply_stores _ _ _ _ (State.modeRecord_stores _ (State.vdmEvt_stores _ _ hx6) gMODE) gPD) (fun _ => State.vdmReply_stores _ _ _ _ hk gPD)
        · exact StSame.ite (fun _ => State.vdmReply_stores _ _ _ _ (State.modeRecord_stores _ (State.vdmEvt_stores _ _ (State.modeClear_stores _ _ hk)) gMODE) gPD) (fun _ => State.vdmReply_stores _ _ _ _ hk gPD)
        · exact StSame.ite (fun _ => State.vdmReply_stores _ _ _ _ (State.wr_stores _ _ _ hk) gPD) (fun _ => State.vdmReply_stores _ _ _ _ hk gPD)
        · extract_lets -merge -underBinder +onlyGivenNames x7
          have hx7 : StSame R s0 x7 := State.modeRecord_stores _ (State.put_stores _ _ _ (State.wr_stores _ _ _ hk)) gMODE
          try clear_value x7
          exact StSame.ite (fun _ => State.vdmReply_stores _ _ _ _ (State.modFw_stores _ _ hx7) gPD) (fun _ => State.vdmReply_stores _ _ _ _ hk gPD)
        · exact State.vdmReply_stores _ _ _ _ hk gPD

theorem State.cableTimeout_stores (n : Port) (q : VdmReq) (hk : StSame R s0 s) (gPD : ∀ x, 0x4000 * n.val ≤ x → x < 0x4000 * n.val + 0x4000 → R x) : StSame R s0 (State.cableTimeout s n q) := by
  unfold State.cableTimeout
  exact StSame.ite (fun _ => State.modFw_stores _ _ (State.fwSend_stores _ _ _ _ _ hk gPD)) (fun _ => State.amsDone_stores _ (State.modFw_stores _ _ hk))

theorem State.vdmTimeout_stores (n : Port) (q : VdmReq) (hk : StSame R s0 s) (gPD : ∀ x, 0x4000 * n.val ≤ x → x < 0x4000 * n.val + 0x4000 → R x) (gMODE : ∀ x, 0x100100 + 16 * n.val ≤ x → x < 0x100110 + 16 * n.val → R x) : StSame R s0 (State.vdmTimeout s n q) := by
  unfold State.vdmTimeout
  extract_lets -merge -underBinder +onlyGivenNames x0 x1
  have hx1 : ∀ a0, StSame R s0 (x1 a0) := by
    intro s2_0
    unfold x1
    beta_reduce
    exact State.modFw_stores _ _ (State.fwSend_stores _ _ _ _ _ hk gPD)
  try clear_value x1
  refine StSame.ite (fun _ => ?_) (fun _ => ?_)
  · refine hx1 _
  · refine StSame.ite (fun _ => ?_) (fun _ => ?_)
    · exact State.amsDone_stores _ (State.modeRecord_stores _ (State.vdmEvt_stores _ _ (State.modeClear_stores _ _ hk)) gMODE)
    · refine StSame.ite (fun _ => ?_) (fun _ => ?_)
      · refine StSame.ite (fun _ => ?_) (fun _ => ?_)
        · exact State.discEnd_stores _ _ hk
        · refine hx1 _
      · exact State.amsDone_stores _ (State.modFw_stores _ _ hk)

theorem State.vdmRediscover_stores (n : Port) (hk : StSame R s0 s) (gPD : ∀ x, 0x4000 * n.val ≤ x → x < 0x4000 * n.val + 0x4000 → R x) : StSame R s0 (State.vdmRediscover s n) := by
  unfold State.vdmRediscover
  exact StSame.ite (fun _ => State.discStart_stores _ hk gPD) (fun _ => hk)

theorem State.vdmEnter_stores (n : Port) (hk : StSame R s0 s) (gPD : ∀ x, 0x4000 * n.val ≤ x → x < 0x4000 * n.val + 0x4000 → R x) : StSame R s0 (State.vdmEnter s n) := by
  unfold State.vdmEnter
  extract_lets -merge -underBinder +onlyGivenNames x0 x1 x2
  exact StSame.ite (fun _ => State.put_stores _ _ _ hk) (fun _ => StSame.ite (fun _ => State.enterMode_stores _ _ _ _ hk gPD) (fun _ => hk))

theorem State.vdmExit_stores (n : Port) (hk : StSame R s0 s) (gPD : ∀ x, 0x4000 * n.val ≤ x → x < 0x4000 * n.val + 0x4000 → R x) : StSame R s0 (State.vdmExit s n) := by
  unfold State.vdmExit
  extract_lets -merge -underBinder +onlyGivenNames x0
  exact StSame.ite (fun _ => State.vdmAsk_stores _ _ _ _ _ hk gPD) (fun _ => hk)

theorem State.hostTxGo_stores (n : Port) (hk : StSame R s0 s) (gPD : ∀ x, 0x4000 * n.val ≤ x → x < 0x4000 * n.val + 0x4000 → R x) : StSame R s0 (State.hostTxGo s n) := by
  unfold State.hostTxGo
  extract_lets -merge -underBinder +onlyGivenNames x0 x1 x2 x3 x4 x5 x6
  exact StSame.ite (fun _ => State.hostDone_stores _ _ hk) (fun _ => State.fwSendFor_stores _ _ _ _ _ _ (State.modFw_stores _ _ hk) gPD)

theorem State.hostTxWrite_stores (n : Port) (count : ℕ) (sop : ℕ) (hk : StSame R s0 s) (gPD : ∀ x, 0x4000 * n.val ≤ x → x < 0x4000 * n.val + 0x4000 → R x) : StSame R s0 (State.hostTxWrite s n count sop) := by
  unfold State.hostTxWrite
  extract_lets -merge -underBinder +onlyGivenNames x0
  exact StSame.ite (fun _ => hk) (fun _ => State.policy_stores (State.put_stores _ _ _ (State.put_stores _ _ _ (State.put_stores _ _ _ hk))) (fun _ h1 => State.hostTxGo_stores _ h1 gPD))

theorem State.modPlace_stores (f : PlaceSt → PlaceSt) (hk : StSame R s0 s) : StSame R s0 (State.modPlace s f) := by
  unfold State.modPlace
  exact StSame.mk' hk

theorem State.modLed_stores (i : ℕ) (f : Led → Led) (hk : StSame R s0 s) : StSame R s0 (State.modLed s i f) := by
  unfold State.modLed
  exact State.modPlace_stores _ hk

theorem State.modNode_stores (k : ℕ) (f : NodeLed → NodeLed) (hk : StSame R s0 s) : StSame R s0 (State.modNode s k f) := by
  unfold State.modNode
  exact State.modPlace_stores _ hk

theorem State.recLedger_stores (i : ℕ) (grant : ℕ) (commit : ℕ) (st : ℕ) (hk : StSame R s0 s) (gREC : ∀ x, 0x60000 ≤ x → x < 0x64200 → R x) : StSame R s0 (State.recLedger s i grant commit st) := by
  unfold State.recLedger
  extract_lets -merge -underBinder +onlyGivenNames x0 x1
  have hx1 : StSame R s0 x1 := State.stPut_stores _ _ _ hk (fun x h1 h2 => gREC x (by (try simp +zetaDelta only [length_leBytes, List.length_append, List.length_replicate, List.length_take, List.length_drop, List.length_cons, List.length_nil, length_padTo, length_rxEntry, Desc.length_bytes, length_stRead, length_gaugeBytes, txAt, rxBufAt, txBufAt, rxRecAt, descAt, snapAt, recAt, rxfAt, txfAt, maskAt, marksAt, -List.reduceReplicate] at h1 h2); omega) (by (try simp +zetaDelta only [length_leBytes, List.length_append, List.length_replicate, List.length_take, List.length_drop, List.length_cons, List.length_nil, length_padTo, length_rxEntry, Desc.length_bytes, length_stRead, length_gaugeBytes, txAt, rxBufAt, txBufAt, rxRecAt, descAt, snapAt, recAt, rxfAt, txfAt, maskAt, marksAt, -List.reduceReplicate] at h1 h2); omega))
  try clear_value x1
  exact State.recSet_stores _ _ _ _ _ hx1 gREC

theorem State.ledgerStep_stores (p : ℕ) (noInc : ℕ → Bool) (hk : StSame R s0 s) (gREC : ∀ x, 0x60000 ≤ x → x < 0x64200 → R x) : StSame R s0 (State.ledgerStep s p noInc) := by
  unfold State.ledgerStep
  extract_lets -merge -underBinder +onlyGivenNames x0 x1 x2 x3 x4 x5 x6
  have hx6 : StSame R s0 x6 := foldl_stores _ hk (fun _ _ _ h7 => StSame.ite (fun _ => State.modLed_stores _ _ h7) (fun _ => StSame.ite (fun _ => State.modLed_stores _ _ (State.recLedger_stores _ _ _ _ h7 gREC)) (fun _ => StSame.ite (fun _ => State.modLed_stores _ _ (State.recLedger_stores _ _ _ _ h7 gREC)) (fun _ => h7))))
  try clear_value x6
  extract_lets -merge -underBinder +onlyGivenNames x8 x9 x10
  have hx10 : StSame R s0 x10 := foldl_stores _ hx6 (fun _ _ _ h11 => StSame.ite (fun _ => State.modLed_stores _ _ (State.recLedger_stores _ _ _ _ h11 gREC)) (fun _ => State.modLed_stores _ _ (State.recLedger_stores _ _ _ _ h11 gREC)))
  try clear_value x10
  extract_lets -merge -underBinder +onlyGivenNames x12 x13 x14 x15
  have hx15 : StSame R s0 x15 := State.recPut_stores _ _ _ (State.recPut_stores _ _ _ hx10 gREC) gREC
  try clear_value x15
  exact State.modPlace_stores _ hx15

theorem State.cutCheck_stores (hk : StSame R s0 s) : StSame R s0 (State.cutCheck s) := by
  unfold State.cutCheck
  extract_lets -merge -underBinder +onlyGivenNames x0
  exact StSame.ite (fun _ => hk) (fun _ => StSame.ite (fun _ => hk) (fun _ => State.modPlace_stores _ hk))

theorem State.leaseEvt_stores (f : Fld) (hk : StSame R s0 s) (gDESC : ∀ x, 0xC0000 ≤ x → x < 0xD0000 → R x) : StSame R s0 (State.leaseEvt s f) := by
  unfold State.leaseEvt
  extract_lets -merge -underBinder +onlyGivenNames x0
  have hx0 : StSame R s0 x0 := State.raise_stores _ _ hk
  try clear_value x0
  exact State.postGlobal_stores _ _ _ _ _ hx0 gDESC

theorem State.holdPort_stores (n : Port) (hold : Bool) (hk : StSame R s0 s) : StSame R s0 (State.holdPort s n hold) := by
  unfold State.holdPort
  extract_lets -merge -underBinder +onlyGivenNames x0 x1
  have hx1 : StSame R s0 x1 := StSame.ite (fun _ => State.put_stores _ _ _ hk) (fun _ => State.put_stores _ _ _ hk)
  try clear_value x1
  exact StSame.ite (fun _ => StSame.ite (fun _ => StSame.ite (fun _ => hk) (fun _ => State.modOwn_stores _ _ (State.put_stores _ _ _ hk))) (fun _ => StSame.ite (fun _ => State.modOwn_stores _ _ (State.put_stores _ _ _ hk)) (fun _ => hk))) (fun _ => StSame.ite (fun _ => State.modOwn_stores _ _ hx1) (fun _ => hk))

theorem State.takeGrant_stores (n : Port) (grant : ℕ) (floor : ℕ) (start : ℕ) (kind : ℕ) (seq : ℕ) (changed : Bool) (hk : StSame R s0 s) : StSame R s0 (State.takeGrant s n grant floor start kind seq changed) := by
  unfold State.takeGrant
  extract_lets -merge -underBinder +onlyGivenNames x0 x1 x2 x3 x4
  have hx4 : StSame R s0 x4 := State.modOwn_stores _ _ hk
  try clear_value x4
  extract_lets -merge -underBinder +onlyGivenNames x5
  have hx5 : StSame R s0 x5 := StSame.ite (fun _ => State.writeIlim_stores _ hx4) (fun _ => hx4)
  try clear_value x5
  extract_lets -merge -underBinder +onlyGivenNames x6
  have hx6 : StSame R s0 x6 := StSame.ite (fun _ => State.put_stores _ _ _ hx5) (fun _ => hx5)
  try clear_value x6
  exact StSame.ite (fun _ => StSame.ite (fun _ => State.modOwn_stores _ _ (State.put_stores _ _ _ hx6)) (fun _ => hx6)) (fun _ => State.holdPort_stores _ _ hx6)

theorem State.startGrant_stores (n : Port) (hk : StSame R s0 s) (gPD : ∀ x, 0x4000 * n.val ≤ x → x < 0x4000 * n.val + 0x4000 → R x) (gDESC : ∀ x, 0xC0000 ≤ x → x < 0xD0000 → R x) : StSame R s0 (State.startGrant s n) := by
  unfold State.startGrant
  extract_lets -merge -underBinder +onlyGivenNames x0 x1
  have hx1 : StSame R s0 x1 := State.followLimit_stores _ hk
  try clear_value x1
  extract_lets -merge -underBinder +onlyGivenNames x2
  have hx2 : StSame R s0 x2 := State.modOwn_stores _ _ hx1
  try clear_value x2
  refine StSame.ite (fun _ => ?_) (fun _ => ?_)
  · exact hx1
  · split
    · exact hx2
    · exact StSame.ite (fun _ => State.hardResetStart_stores _ hx2 gPD gDESC) (fun _ => hx2)
    · extract_lets -merge -underBinder +onlyGivenNames x3
      have hx3 : StSame R s0 x3 := State.modOwn_stores _ _ hx2
      try clear_value x3
      exact StSame.ite (fun _ => State.advertise_stores _ hx3 gPD) (fun _ => State.modOwn_stores _ _ hx3)

theorem State.ackOwn_stores (n : Port) (hk : StSame R s0 s) : StSame R s0 (State.ackOwn s n) := by
  unfold State.ackOwn
  exact StSame.ite (fun _ => State.modOwn_stores _ _ hk) (fun _ => hk)

theorem State.limitTick_stores (hk : StSame R s0 s) : StSame R s0 (State.limitTick s) := by
  unfold State.limitTick
  refine State.forPorts_stores ?_ ?_
  · exact hk
  · intro s0_0 s0_1 hs0_1
    extract_lets -merge -underBinder +onlyGivenNames x1
    have hx1 : StSame R s0 x1 := StSame.ite (fun _ => State.modOwn_stores _ _ hs0_1) (fun _ => hs0_1)
    try clear_value x1
    exact StSame.ite (fun _ => State.modOwn_stores _ _ hx1) (fun _ => hx1)

theorem State.ledgerConfirm_stores (i : ℕ) (ack : ℕ) (ackSeq : ℕ) (attached : Bool) (low : Bool) (hk : StSame R s0 s) (gREC : ∀ x, 0x60000 ≤ x → x < 0x64200 → R x) : StSame R s0 (State.ledgerConfirm s i ack ackSeq attached low) := by
  unfold State.ledgerConfirm
  extract_lets -merge -underBinder +onlyGivenNames x0 x1 x2
  have hx2 : StSame R s0 x2 := StSame.ite (fun _ => hk) (fun _ => State.recLedger_stores _ _ _ _ hk gREC)
  try clear_value x2
  exact StSame.ite (fun _ => State.modLed_stores _ _ hx2) (fun _ => StSame.ite (fun _ => State.modLed_stores _ _ (State.recLedger_stores _ _ _ _ hk gREC)) (fun _ => hk))

theorem State.leaseReload_stores (seq : ℕ) (hk : StSame R s0 s) (gDESC : ∀ x, 0xC0000 ≤ x → x < 0xD0000 → R x) : StSame R s0 (State.leaseReload s seq) := by
  unfold State.leaseReload
  extract_lets -merge -underBinder +onlyGivenNames x0 x1
  have hx1 : StSame R s0 x1 := State.put_stores _ _ _ (State.put_stores _ _ _ (State.put_stores _ _ _ hk))
  try clear_value x1
  extract_lets -merge -underBinder +onlyGivenNames x2
  have hx2 : StSame R s0 x2 := State.modPlace_stores _ hx1
  try clear_value x2
  exact StSame.ite (fun _ => State.leaseEvt_stores _ hx2 gDESC) (fun _ => hx2)

theorem State.leaseTick_stores (hk : StSame R s0 s) : StSame R s0 (State.leaseTick s) := by
  unfold State.leaseTick
  extract_lets -merge -underBinder +onlyGivenNames x0
  exact StSame.ite (fun _ => hk) (fun _ => State.modPlace_stores _ (State.put_stores _ _ _ hk))

theorem State.placeTick_stores (hk : StSame R s0 s) (gDESC : ∀ x, 0xC0000 ≤ x → x < 0xD0000 → R x) : StSame R s0 (State.placeTick s) := by
  unfold State.placeTick
  extract_lets -merge -underBinder +onlyGivenNames x0
  have hx0 : StSame R s0 x0 := State.limitTick_stores hk
  try clear_value x0
  extract_lets -merge -underBinder +onlyGivenNames x1
  have hx1 : StSame R s0 x1 := State.putB_stores _ _ _ hx0
  try clear_value x1
  extract_lets -merge -underBinder +onlyGivenNames x2
  have hx2 : StSame R s0 x2 := State.leaseTick_stores hx1
  try clear_value x2
  extract_lets -merge -underBinder +onlyGivenNames x3
  have hx3 : StSame R s0 x3 := StSame.ite (fun _ => State.put_stores _ _ _ hx2) (fun _ => hx2)
  try clear_value x3
  extract_lets -merge -underBinder +onlyGivenNames x4 x5 x6
  have hx6 : StSame R s0 x6 := State.modPlace_stores _ hx3
  try clear_value x6
  extract_lets -merge -underBinder +onlyGivenNames x7
  have hx7 : StSame R s0 x7 := State.raiseIf_stores _ _ _ hx6
  try clear_value x7
  exact StSame.ite (fun _ => State.postGlobal_stores _ _ _ _ _ hx7 gDESC) (fun _ => hx3)

theorem State.placeTakeover_stores (hk : StSame R s0 s) (gREC : ∀ x, 0x60000 ≤ x → x < 0x64200 → R x) : StSame R s0 (State.placeTakeover s) := by
  unfold State.placeTakeover
  extract_lets -merge -underBinder +onlyGivenNames x0
  have hx0 : StSame R s0 x0 := foldl_stores _ hk (fun _ _ _ h1 => State.recLedger_stores _ _ _ _ h1 gREC)
  try clear_value x0
  exact State.modPlace_stores _ (State.put_stores _ _ _ hx0)

theorem State.placeRun_stores (hk : StSame R s0 s) : StSame R s0 (State.placeRun s) := by
  unfold State.placeRun
  exact StSame.ite (fun _ => State.modPlace_stores _ hk) (fun _ => hk)

theorem State.numberChanged_stores (hk : StSame R s0 s) : StSame R s0 (State.numberChanged s).1 := by
  unfold State.numberChanged
  extract_lets -merge -underBinder +onlyGivenNames x0 x1 x2
  have hx2 : StSame R s0 x2 := foldl_stores _ hk (fun _ _ _ h3 => State.modLed_stores _ _ h3)
  try clear_value x2
  refine StSame.mkFst ?_
  exact hx2

theorem State.takeGrants_stores (p : List Byte) (hk : StSame R s0 s) : StSame R s0 (State.takeGrants s p) := by
  unfold State.takeGrants
  refine State.forPorts_stores ?_ ?_
  · exact hk
  · intro s0_0 s0_1 hs0_1
    extract_lets -merge -underBinder +onlyGivenNames x1
    exact State.takeGrant_stores _ _ _ _ _ _ _ hs0_1

theorem State.contractTake_stores (i : ℕ) (p : List Byte) (back : Bool) (hk : StSame R s0 s) (gREC : ∀ x, 0x60000 ≤ x → x < 0x64200 → R x) : StSame R s0 (State.contractTake s i p back) := by
  unfold State.contractTake
  extract_lets -merge -underBinder +onlyGivenNames x0 x1 x2 x3 x4
  have hx4 : StSame R s0 x4 := State.modLed_stores _ _ hk
  try clear_value x4
  extract_lets -merge -underBinder +onlyGivenNames x5
  have hx5 : StSame R s0 x5 := StSame.ite (fun _ => State.recSet_stores _ _ _ _ _ hx4 gREC) (fun _ => hx4)
  try clear_value x5
  extract_lets -merge -underBinder +onlyGivenNames x6
  have hx6 : StSame R s0 x6 := State.recSet_stores _ _ _ _ _ hx5 gREC
  try clear_value x6
  exact StSame.ite (fun _ => hx6) (fun _ => StSame.ite (fun _ => State.modLed_stores _ _ (State.recLedger_stores _ _ _ _ hx6 gREC)) (fun _ => StSame.ite (fun _ => State.recLedger_stores _ _ _ _ hx6 gREC) (fun _ => State.ledgerConfirm_stores _ _ _ _ _ hx6 gREC)))

theorem State.telNote_stores (n : Port) (k : ℕ) (hk : StSame R s0 s) : StSame R s0 (State.telNote s n k) := by
  unfold State.telNote
  exact foldl_stores _ hk (fun _ _ _ h0 => State.stNote_stores _ _ _ h0)

theorem State.energyAdd_stores (i : ℕ) (e : ℕ) (hk : StSame R s0 s) (gENG : ∀ x, 0x90000 ≤ x → x < 0x92000 → R x) : StSame R s0 (State.energyAdd s i e) := by
  unfold State.energyAdd
  extract_lets -merge -underBinder +onlyGivenNames x0 x1
  exact State.stRecord_stores _ _ hk (fun x h1 h2 => gENG x (by (try simp +zetaDelta only [length_leBytes, List.length_append, List.length_replicate, List.length_take, List.length_drop, List.length_cons, List.length_nil, length_padTo, length_rxEntry, Desc.length_bytes, length_stRead, length_gaugeBytes, txAt, rxBufAt, txBufAt, rxRecAt, descAt, snapAt, recAt, rxfAt, txfAt, maskAt, marksAt, -List.reduceReplicate] at h1 h2); omega) (by (try simp +zetaDelta only [length_leBytes, List.length_append, List.length_replicate, List.length_take, List.length_drop, List.length_cons, List.length_nil, length_padTo, length_rxEntry, Desc.length_bytes, length_stRead, length_gaugeBytes, txAt, rxBufAt, txBufAt, rxRecAt, descAt, snapAt, recAt, rxfAt, txfAt, maskAt, marksAt, -List.reduceReplicate] at h1 h2); omega))

theorem State.floorDone_stores (hk : StSame R s0 s) : StSame R s0 (State.floorDone s) := by
  unfold State.floorDone
  exact StSame.ite (fun _ => State.put_stores _ _ _ hk) (fun _ => hk)

theorem State.portLoad_stores (hk : StSame R s0 s) : StSame R s0 (State.portLoad s) := by
  unfold State.portLoad
  extract_lets -merge -underBinder +onlyGivenNames x0 x1 x2 x3 x4 x5
  have hx5 : StSame R s0 x5 := StSame.ite (fun _ => State.stNote_stores _ _ _ hk) (fun _ => hk)
  try clear_value x5
  extract_lets -merge -underBinder +onlyGivenNames x6
  have hx6 : StSame R s0 x6 := State.raiseIf_stores _ _ _ hx5
  try clear_value x6
  exact foldl_stores _ hx6 (fun _ _ _ h7 => State.wr_stores _ _ _ h7)

theorem State.poolLoad_stores (hk : StSame R s0 s) : StSame R s0 (State.poolLoad s) := by
  unfold State.poolLoad
  extract_lets -merge -underBinder +onlyGivenNames x0 x1 x2
  have hx2 : StSame R s0 x2 := State.stNote_stores _ _ _ hk
  try clear_value x2
  extract_lets -merge -underBinder +onlyGivenNames x3
  have hx3 : StSame R s0 x3 := State.raiseIf_stores _ _ _ hx2
  try clear_value x3
  exact foldl_stores _ hx3 (fun _ _ _ h4 => State.wr_stores _ _ _ h4)

theorem State.windowWrite_stores (off : ℕ) (v : Word) (hk : StSame R s0 s) (gREC : ∀ x, 0x60000 ≤ x → x < 0x64200 → R x) : StSame R s0 (State.windowWrite s off v) := by
  unfold State.windowWrite
  extract_lets -merge -underBinder +onlyGivenNames x0 x1
  have hx1 : StSame R s0 x1 := State.wr_stores _ _ _ hk
  try clear_value x1
  extract_lets -merge -underBinder +onlyGivenNames x2 x3 x4
  exact StSame.ite (fun _ => State.cutCheck_stores (State.recPut_stores _ _ _ hx1 gREC)) (fun _ => StSame.ite (fun _ => StSame.ite (fun _ => hk) (fun _ => State.recPut_stores _ _ _ (State.wr_stores _ _ _ hk) gREC)) (fun _ => hk))

theorem State.energyPut_stores (n : Port) (lo : Fld) (v : ℕ) (hk : StSame R s0 s) : StSame R s0 (State.energyPut s n lo v) := by
  unfold State.energyPut
  exact State.put_stores _ _ _ (State.put_stores _ _ _ hk)

theorem State.energyZero_stores (hk : StSame R s0 s) : StSame R s0 (State.energyZero s) := by
  unfold State.energyZero
  extract_lets -merge -underBinder +onlyGivenNames x0 x1
  have hx1 : StSame R s0 x1 := State.forPorts_stores hk (fun _ _ h2 => StSame.ite (fun _ => State.energyPut_stores _ _ _ (State.energyPut_stores _ _ _ h2)) (fun _ => h2))
  try clear_value x1
  exact StSame.ite (fun _ => hk) (fun _ => State.raise_stores _ _ (State.modPlace_stores _ hx1))

theorem State.energyTick_stores (hk : StSame R s0 s) : StSame R s0 (State.energyTick s) := by
  unfold State.energyTick
  refine State.forPorts_stores ?_ ?_
  · exact hk
  · intro s0_0 s0_1 hs0_1
    extract_lets -merge -underBinder +onlyGivenNames x1
    exact StSame.ite (fun _ => StSame.ite (fun _ => State.energyPut_stores _ _ _ hs0_1) (fun _ => StSame.ite (fun _ => State.energyPut_stores _ _ _ hs0_1) (fun _ => hs0_1))) (fun _ => hs0_1)

theorem State.energyPost_stores (hk : StSame R s0 s) (gDESC : ∀ x, 0xC0000 ≤ x → x < 0xD0000 → R x) : StSame R s0 (State.energyPost s) := by
  unfold State.energyPost
  extract_lets -merge -underBinder +onlyGivenNames x0 x1
  have hx1 : StSame R s0 x1 := State.raiseIf_stores _ _ _ hk
  try clear_value x1
  exact StSame.ite (fun _ => State.postGlobal_stores _ _ _ _ _ hx1 gDESC) (fun _ => hk)

theorem State.engyClearCmd_stores (ports : ℕ) (hk : StSame R s0 s) : StSame R s0 (State.engyClearCmd s ports) := by
  unfold State.engyClearCmd
  exact State.modPlace_stores _ hk

theorem State.takeMir_stores (n : Port) (e : List Byte) (hk : StSame R s0 s) : StSame R s0 (State.takeMir s n e) := by
  unfold State.takeMir
  extract_lets -merge -underBinder +onlyGivenNames x0
  have hx0 : StSame R s0 x0 := State.modTw_stores _ _ hk
  try clear_value x0
  extract_lets -merge -underBinder +onlyGivenNames x1
  have hx1 : StSame R s0 x1 := State.raiseIf_stores _ _ _ hx0
  try clear_value x1
  extract_lets -merge -underBinder +onlyGivenNames x2 x3 x4
  have hx4 : StSame R s0 x4 := State.put_stores _ _ _ (State.put_stores _ _ _ hx1)
  try clear_value x4
  exact State.shadowWatch_stores _ _ (State.put_stores _ _ _ hx4)

theorem State.mirShow_stores (n : Port) (hk : StSame R s0 s) : StSame R s0 (State.mirShow s n) := by
  unfold State.mirShow
  extract_lets -merge -underBinder +onlyGivenNames x0
  exact foldl_stores _ (State.put_stores _ _ _ hk) (fun _ _ _ h1 => State.put_stores _ _ _ h1)

theorem State.mirWrite_stores (w7 : Word) (hk : StSame R s0 s) : StSame R s0 (State.mirWrite s w7) := by
  unfold State.mirWrite
  extract_lets -merge -underBinder +onlyGivenNames x0
  have hx0 : StSame R s0 x0 := State.put_stores _ _ _ hk
  try clear_value x0
  exact State.takeMir_stores _ _ hx0

theorem State.twinEntryTake_stores (e : List Byte) (hk : StSame R s0 s) : StSame R s0 (State.twinEntryTake s e) := by
  unfold State.twinEntryTake
  split
  · exact hk
  · extract_lets -merge -underBinder +onlyGivenNames x0
    have hx0 : StSame R s0 x0 := foldl_stores _ (State.put_stores _ _ _ hk) (fun _ _ _ h1 => State.put_stores _ _ _ h1)
    try clear_value x0
    exact State.takeMir_stores _ _ hx0

theorem State.tkoRecord_stores (n : Port) (cause : ℕ) (stale : Bool) (hk : StSame R s0 s) : StSame R s0 (State.tkoRecord s n cause stale) := by
  unfold State.tkoRecord
  extract_lets -merge -underBinder +onlyGivenNames x0
  have hx0 : StSame R s0 x0 := State.put_stores _ _ _ (State.put_stores _ _ _ hk)
  try clear_value x0
  exact State.put_stores _ _ _ (State.putB_stores _ _ _ hx0)

theorem State.claimNow_stores (n : Port) (hk : StSame R s0 s) : StSame R s0 (State.claimNow s n) := by
  unfold State.claimNow
  exact State.modTw_stores _ _ hk

theorem State.snapFromMir_stores (n : Port) (hk : StSame R s0 s) (gSNAP : ∀ x, 0x100000 + 32 * n.val ≤ x → x < 0x100020 + 32 * n.val → R x) : StSame R s0 (State.snapFromMir s n) := by
  unfold State.snapFromMir
  extract_lets -merge -underBinder +onlyGivenNames x0 x1 x2 x3 x4 x5
  have hx5 : StSame R s0 x5 := State.aosWrite_stores _ _ hk (fun x h1 h2 => gSNAP x (by (try simp +zetaDelta only [length_leBytes, List.length_append, List.length_replicate, List.length_take, List.length_drop, List.length_cons, List.length_nil, length_padTo, length_rxEntry, Desc.length_bytes, length_stRead, length_gaugeBytes, txAt, rxBufAt, txBufAt, rxRecAt, descAt, snapAt, recAt, rxfAt, txfAt, maskAt, marksAt, -List.reduceReplicate] at h1 h2); omega) (by (try simp +zetaDelta only [length_leBytes, List.length_append, List.length_replicate, List.length_take, List.length_drop, List.length_cons, List.length_nil, length_padTo, length_rxEntry, Desc.length_bytes, length_stRead, length_gaugeBytes, txAt, rxBufAt, txBufAt, rxRecAt, descAt, snapAt, recAt, rxfAt, txfAt, maskAt, marksAt, -List.reduceReplicate] at h1 h2); omega))
  try clear_value x5
  extract_lets -merge -underBinder +onlyGivenNames x6
  have hx6 : StSame R s0 x6 := State.put_stores _ _ _ (State.put_stores _ _ _ hx5)
  try clear_value x6
  extract_lets -merge -underBinder +onlyGivenNames x7
  have hx7 : StSame R s0 x7 := State.putB_stores _ _ _ hx6
  try clear_value x7
  extract_lets -merge -underBinder +onlyGivenNames x8
  exact State.setWin_stores _ _ _ (State.modPol_stores _ _ hx7)

theorem State.twinTake_stores (n : Port) (cause : ℕ) (hk : StSame R s0 s) (gPD : ∀ x, 0x4000 * n.val ≤ x → x < 0x4000 * n.val + 0x4000 → R x) (gDESC : ∀ x, 0xC0000 ≤ x → x < 0xD0000 → R x) (gSNAP : ∀ x, 0x100000 + 32 * n.val ≤ x → x < 0x100020 + 32 * n.val → R x) : StSame R s0 (State.twinTake s n cause) := by
  unfold State.twinTake
  extract_lets -merge -underBinder +onlyGivenNames x0 x1 x2 x3
  have hx3 : StSame R s0 x3 := State.put_stores _ _ _ (State.modCc_stores _ _ hk)
  try clear_value x3
  extract_lets -merge -underBinder +onlyGivenNames x4
  have hx4 : StSame R s0 x4 := State.ccEnter_stores _ _ (State.put_stores _ _ _ hx3) gPD gDESC gSNAP
  try clear_value x4
  extract_lets -merge -underBinder +onlyGivenNames x5 x6
  have hx6 : StSame R s0 x6 := State.put_stores _ _ _ (State.wr_stores _ _ _ hx4)
  try clear_value x6
  extract_lets -merge -underBinder +onlyGivenNames x7
  have hx7 : StSame R s0 x7 := StSame.ite (fun _ => State.setTarget_stores _ _ (State.snapFromMir_stores _ hx6 gSNAP)) (fun _ => hx6)
  try clear_value x7
  extract_lets -merge -underBinder +onlyGivenNames x8
  have hx8 : StSame R s0 x8 := State.put_stores _ _ _ hx7
  try clear_value x8
  extract_lets -merge -underBinder +onlyGivenNames x9
  have hx9 : StSame R s0 x9 := StSame.ite (fun _ => hx8) (fun _ => State.joinGuard_stores _ hx8)
  try clear_value x9
  extract_lets -merge -underBinder +onlyGivenNames x10
  have hx10 : StSame R s0 x10 := State.bump_stores _ _ _ (State.tkoRecord_stores _ _ _ hx9)
  try clear_value x10
  extract_lets -merge -underBinder +onlyGivenNames x11
  have hx11 : StSame R s0 x11 := State.claimNow_stores _ (State.raise_stores _ _ hx10)
  try clear_value x11
  exact State.postGlobal_stores _ _ _ _ _ hx11 gDESC

theorem State.twinAssume_stores (n : Port) (hk : StSame R s0 s) (gPD : ∀ x, 0x4000 * n.val ≤ x → x < 0x4000 * n.val + 0x4000 → R x) (gDESC : ∀ x, 0xC0000 ≤ x → x < 0xD0000 → R x) (gSNAP : ∀ x, 0x100000 + 32 * n.val ≤ x → x < 0x100020 + 32 * n.val → R x) : StSame R s0 (State.twinAssume s n) := by
  unfold State.twinAssume
  extract_lets -merge -underBinder +onlyGivenNames x0
  have hx0 : StSame R s0 x0 := State.put_stores _ _ _ (State.modCc_stores _ _ hk)
  try clear_value x0
  extract_lets -merge -underBinder +onlyGivenNames x1
  have hx1 : StSame R s0 x1 := State.tkoRecord_stores _ _ _ (State.ccEnter_stores _ _ hx0 gPD gDESC gSNAP)
  try clear_value x1
  exact State.claimNow_stores _ (State.raise_stores _ _ hx1)

theorem State.twinOrder_stores (n : Port) (cause : ℕ) (hk : StSame R s0 s) (gPD : ∀ x, 0x4000 * n.val ≤ x → x < 0x4000 * n.val + 0x4000 → R x) (gDESC : ∀ x, 0xC0000 ≤ x → x < 0xD0000 → R x) (gSNAP : ∀ x, 0x100000 + 32 * n.val ≤ x → x < 0x100020 + 32 * n.val → R x) : StSame R s0 (State.twinOrder s n cause) := by
  unfold State.twinOrder
  exact StSame.ite (fun _ => hk) (fun _ => StSame.ite (fun _ => State.twinTake_stores _ _ hk gPD gDESC gSNAP) (fun _ => State.twinAssume_stores _ hk gPD gDESC gSNAP))

theorem State.twinCmd_stores (ports : BitVec 8) (hk : StSame R s0 s) (gPD : ∀ (m : Port) x, 0x4000 * m.val ≤ x → x < 0x4000 * m.val + 0x4000 → R x) (gDESC : ∀ x, 0xC0000 ≤ x → x < 0xD0000 → R x) (gSNAP : ∀ (m : Port) x, 0x100000 + 32 * m.val ≤ x → x < 0x100020 + 32 * m.val → R x) : StSame R s0 (State.twinCmd s ports) := by
  unfold State.twinCmd
  exact State.forPorts_stores hk (fun _ _ h0 => StSame.ite (fun _ => State.twinOrder_stores _ _ h0 (gPD _) gDESC (gSNAP _)) (fun _ => h0))

theorem State.twinTrimStep_stores (n : Port) (hk : StSame R s0 s) : StSame R s0 (State.twinTrimStep s n) := by
  unfold State.twinTrimStep
  extract_lets -merge -underBinder +onlyGivenNames x0 x1 x2 x3 x4 x5 x6 x7 x8 x9 x10 x11 x12 x13 x14 x15
  have hx15 : StSame R s0 x15 := State.raiseIf_stores _ _ _ hk
  try clear_value x15
  extract_lets -merge -underBinder +onlyGivenNames x16
  have hx16 : StSame R s0 x16 := State.modPol_stores _ _ hx15
  try clear_value x16
  exact StSame.ite (fun _ => hk) (fun _ => State.setTarget_stores _ _ hx16)

theorem State.yieldTick_stores (n : Port) (hk : StSame R s0 s) : StSame R s0 (State.yieldTick s n) := by
  unfold State.yieldTick
  exact StSame.ite (fun _ => State.modTw_stores _ _ (State.put_stores _ _ _ hk)) (fun _ => hk)

theorem State.twinTick_stores (hk : StSame R s0 s) (gPD : ∀ (m : Port) x, 0x4000 * m.val ≤ x → x < 0x4000 * m.val + 0x4000 → R x) (gDESC : ∀ x, 0xC0000 ≤ x → x < 0xD0000 → R x) (gSNAP : ∀ (m : Port) x, 0x100000 + 32 * m.val ≤ x → x < 0x100020 + 32 * m.val → R x) : StSame R s0 (State.twinTick s) := by
  unfold State.twinTick
  extract_lets -merge -underBinder +onlyGivenNames x0 x1 x2
  have hx2 : StSame R s0 x2 := State.putB_stores _ _ _ hk
  try clear_value x2
  extract_lets -merge -underBinder +onlyGivenNames x3
  have hx3 : StSame R s0 x3 := State.raiseIf_stores _ _ _ (State.raiseIf_stores _ _ _ hx2)
  try clear_value x3
  extract_lets -merge -underBinder +onlyGivenNames x4
  have hx4 : StSame R s0 x4 := by
    unfold x4
    refine State.forPorts_stores ?_ ?_
    · exact hx3
    · intro s5_0 s5_1 hs5_1
      extract_lets -merge -underBinder +onlyGivenNames x6
      have hx6 : StSame R s0 x6 := State.yieldTick_stores _ hs5_1
      try clear_value x6
      extract_lets -merge -underBinder +onlyGivenNames x7
      have hx7 : StSame R s0 x7 := StSame.ite (fun _ => State.debounced_stores _ hx6 (gPD _) gDESC (gSNAP _)) (fun _ => hx6)
      try clear_value x7
      extract_lets -merge -underBinder +onlyGivenNames x8 x9
      have hx9 : StSame R s0 x9 := State.put_stores _ _ _ hx7
      try clear_value x9
      extract_lets -merge -underBinder +onlyGivenNames x10
      have hx10 : StSame R s0 x10 := State.put_stores _ _ _ hx9
      try clear_value x10
      extract_lets -merge -underBinder +onlyGivenNames x11
      have hx11 : StSame R s0 x11 := State.put_stores _ _ _ hx10
      try clear_value x11
      extract_lets -merge -underBinder +onlyGivenNames x12
      have hx12 : StSame R s0 x12 := StSame.ite (fun _ => State.modPol_stores _ _ hx11) (fun _ => hx11)
      try clear_value x12
      extract_lets -merge -underBinder +onlyGivenNames x13
      have hx13 : StSame R s0 x13 := State.setTarget_stores _ _ (State.cenLevel_stores _ _ hx12)
      try clear_value x13
      exact StSame.ite (fun _ => State.twinOrder_stores _ _ hx11 (gPD _) gDESC (gSNAP _)) (fun _ => StSame.ite (fun _ => State.twinTrimStep_stores _ hx13) (fun _ => State.twinTrimStep_stores _ (StSame.ite (fun _ => State.cenLevel_stores _ _ hx11) (fun _ => hx11))))
  try clear_value x4
  extract_lets -merge -underBinder +onlyGivenNames x14 x15
  have hx15 : StSame R s0 x15 := State.raiseIf_stores _ _ _ hx4
  try clear_value x15
  extract_lets -merge -underBinder +onlyGivenNames x16
  have hx16 : StSame R s0 x16 := State.putB_stores _ _ _ hx15
  try clear_value x16
  exact StSame.ite (fun _ => State.postGlobal_stores _ _ _ _ _ hx16 gDESC) (fun _ => hx16)

theorem State.policyTick_stores (n : Port) (hk : StSame R s0 s) (gPD : ∀ x, 0x4000 * n.val ≤ x → x < 0x4000 * n.val + 0x4000 → R x) : StSame R s0 (State.policyTick s n) := by
  unfold State.policyTick
  extract_lets -merge -underBinder +onlyGivenNames x0
  have hx0 : StSame R s0 x0 := StSame.ite (fun _ => State.followLimit_stores _ hk) (fun _ => hk)
  try clear_value x0
  extract_lets -merge -underBinder +onlyGivenNames x1 x2 x3
  have hx3 : StSame R s0 x3 := StSame.ite (fun _ => hx0) (fun _ => State.modFw_stores _ _ hx0)
  try clear_value x3
  exact StSame.ite (fun _ => hx0) (fun _ => StSame.ite (fun _ => StSame.ite (fun _ => StSame.ite (fun _ => State.fwSendExt_stores _ _ _ (State.modFw_stores _ _ hx0) gPD) (fun _ => hx0)) (fun _ => StSame.ite (fun _ => State.fwSend_stores _ _ _ _ _ (State.modFw_stores _ _ hx0) gPD) (fun _ => hx0))) (fun _ => StSame.ite (fun _ => StSame.ite (fun _ => hx3) (fun _ => State.fwSend_stores _ _ _ _ _ hx3 gPD)) (fun _ => hx0)))

end Sys2Proof.Machine
end

