-- ==== Sys2Proof/Laws/StoredSystem.lean ====
section
/-!
SUPPORT. `StSame` over the operations of gauge, update, resets, register access, Skink, host bus, supply, modes, boot, tick: one lemma per operation.
-/

set_option Elab.async false

namespace Sys2Proof.Machine

variable {R : Nat → Prop} {s0 s : State}

theorem State.modGauge_stores (f : GaugeSt → GaugeSt) (hk : StSame R s0 s) : StSame R s0 (State.modGauge s f) := by
  unfold State.modGauge
  exact StSame.mk' hk

theorem State.setAcc_stores (v : ℤ) (hk : StSame R s0 s) : StSame R s0 (State.setAcc s v) := by
  unfold State.setAcc
  extract_lets -merge -underBinder +onlyGivenNames x0
  exact State.put_stores _ _ _ (State.put_stores _ _ _ hk)

theorem State.setRm_stores (rm : ℕ) (hk : StSame R s0 s) : StSame R s0 (State.setRm s rm) := by
  unfold State.setRm
  extract_lets -merge -underBinder +onlyGivenNames x0 x1
  have hx1 : StSame R s0 x1 := State.put_stores _ _ _ hk
  try clear_value x1
  exact State.put_stores _ _ _ hx1

theorem State.setValid_stores (hk : StSame R s0 s) : StSame R s0 (State.setValid s) := by
  unfold State.setValid
  exact State.put_stores _ _ _ (State.raiseIf_stores _ _ _ hk)

theorem State.disqualify_stores (reason : ℕ) (hk : StSame R s0 s) : StSame R s0 (State.disqualify s reason) := by
  unfold State.disqualify
  extract_lets -merge -underBinder +onlyGivenNames x0
  have hx0 : StSame R s0 x0 := State.modGauge_stores _ hk
  try clear_value x0
  extract_lets -merge -underBinder +onlyGivenNames x1
  have hx1 : StSame R s0 x1 := State.bump_stores _ _ _ (State.put_stores _ _ _ (State.put_stores _ _ _ hx0))
  try clear_value x1
  exact StSame.ite (fun _ => State.raise_stores _ _ hx1) (fun _ => hx0)

theorem State.learnStart_stores (soc : ℕ) (hk : StSame R s0 s) : StSame R s0 (State.learnStart s soc) := by
  unfold State.learnStart
  extract_lets -merge -underBinder +onlyGivenNames x0
  have hx0 : StSame R s0 x0 := State.put_stores _ _ _ (State.put_stores _ _ _ (State.put_stores _ _ _ hk))
  try clear_value x0
  extract_lets -merge -underBinder +onlyGivenNames x1
  have hx1 : StSame R s0 x1 := State.put_stores _ _ _ (State.put_stores _ _ _ hx0)
  try clear_value x1
  extract_lets -merge -underBinder +onlyGivenNames x2
  have hx2 : StSame R s0 x2 := State.modGauge_stores _ hx1
  try clear_value x2
  extract_lets -merge -underBinder +onlyGivenNames x3
  have hx3 : StSame R s0 x3 := State.raise_stores _ _ hx2
  try clear_value x3
  exact StSame.ite (fun _ => StSame.ite (fun _ => hx3) (fun _ => State.disqualify_stores _ hx3)) (fun _ => hk)

theorem State.learnTake_stores (new : ℕ × Bool) (rm : ℕ) (hk : StSame R s0 s) : StSame R s0 (State.learnTake s new rm) := by
  unfold State.learnTake
  extract_lets -merge -underBinder +onlyGivenNames x0
  have hx0 : StSame R s0 x0 := State.put_stores _ _ _ (State.putB_stores _ _ _ hk)
  try clear_value x0
  extract_lets -merge -underBinder +onlyGivenNames x1
  have hx1 : StSame R s0 x1 := State.put_stores _ _ _ (State.put_stores _ _ _ hx0)
  try clear_value x1
  extract_lets -merge -underBinder +onlyGivenNames x2
  have hx2 : StSame R s0 x2 := State.put_stores _ _ _ (State.setRm_stores _ hx1)
  try clear_value x2
  extract_lets -merge -underBinder +onlyGivenNames x3
  have hx3 : StSame R s0 x3 := State.put_stores _ _ _ (State.bump_stores _ _ _ hx2)
  try clear_value x3
  extract_lets -merge -underBinder +onlyGivenNames x4
  have hx4 : StSame R s0 x4 := State.raise_stores _ _ (State.put_stores _ _ _ hx3)
  try clear_value x4
  extract_lets -merge -underBinder +onlyGivenNames x5
  have hx5 : StSame R s0 x5 := State.modGauge_stores _ hx4
  try clear_value x5
  exact State.put_stores _ _ _ (State.put_stores _ _ _ hx5)

theorem State.gaugeSave_stores (hk : StSame R s0 s) (gGREC : ∀ x, 0x100180 ≤ x → x < 0x1001C0 → R x) : StSame R s0 (State.gaugeSave s) := by
  unfold State.gaugeSave
  extract_lets -merge -underBinder +onlyGivenNames x0
  exact State.aosWrite_stores _ _ hk (fun x h1 h2 => gGREC x (by (try simp +zetaDelta only [length_leBytes, List.length_append, List.length_replicate, List.length_take, List.length_drop, List.length_cons, List.length_nil, length_padTo, length_rxEntry, Desc.length_bytes, length_stRead, length_gaugeBytes, txAt, rxBufAt, txBufAt, rxRecAt, descAt, snapAt, recAt, rxfAt, txfAt, maskAt, marksAt, -List.reduceReplicate] at h1 h2); omega) (by (try simp +zetaDelta only [length_leBytes, List.length_append, List.length_replicate, List.length_take, List.length_drop, List.length_cons, List.length_nil, length_padTo, length_rxEntry, Desc.length_bytes, length_stRead, length_gaugeBytes, txAt, rxBufAt, txBufAt, rxRecAt, descAt, snapAt, recAt, rxfAt, txfAt, maskAt, marksAt, -List.reduceReplicate] at h1 h2); omega))

theorem State.clearSwap_stores (hk : StSame R s0 s) : StSame R s0 (State.clearSwap s) := by
  unfold State.clearSwap
  exact State.put_stores _ _ _ hk

theorem State.profLoad_stores (p : Option Profile) (hk : StSame R s0 s) : StSame R s0 (State.profLoad s p) := by
  unfold State.profLoad
  extract_lets -merge -underBinder +onlyGivenNames x0
  have hx0 : StSame R s0 x0 := State.modGauge_stores _ hk
  try clear_value x0
  split
  · exact hx0
  · extract_lets -merge -underBinder +onlyGivenNames x1
    have hx1 : StSame R s0 x1 := State.put_stores _ _ _ (State.put_stores _ _ _ hx0)
    try clear_value x1
    extract_lets -merge -underBinder +onlyGivenNames x2
    have hx2 : StSame R s0 x2 := State.put_stores _ _ _ (State.put_stores _ _ _ hx1)
    try clear_value x2
    extract_lets -merge -underBinder +onlyGivenNames x3
    have hx3 : StSame R s0 x3 := State.put_stores _ _ _ (State.put_stores _ _ _ hx2)
    try clear_value x3
    extract_lets -merge -underBinder +onlyGivenNames x4
    have hx4 : StSame R s0 x4 := State.put_stores _ _ _ (State.put_stores _ _ _ hx3)
    try clear_value x4
    exact State.put_stores _ _ _ (State.put_stores _ _ _ hx4)

theorem State.packLoad_stores (hk : StSame R s0 s) : StSame R s0 (State.packLoad s) := by
  unfold State.packLoad
  extract_lets -merge -underBinder +onlyGivenNames x0 x1
  have hx1 : StSame R s0 x1 := State.profLoad_stores _ hk
  try clear_value x1
  extract_lets -merge -underBinder +onlyGivenNames x2
  have hx2 : StSame R s0 x2 := by
    unfold x2
    split
    · exact State.put_stores _ _ _ (State.put_stores _ _ _ hx1)
    · exact State.put_stores _ _ _ hx1
  try clear_value x2
  extract_lets -merge -underBinder +onlyGivenNames x3
  have hx3 : StSame R s0 x3 := State.put_stores _ _ _ (State.put_stores _ _ _ hx2)
  try clear_value x3
  extract_lets -merge -underBinder +onlyGivenNames x4
  have hx4 : StSame R s0 x4 := State.put_stores _ _ _ (State.put_stores _ _ _ hx3)
  try clear_value x4
  extract_lets -merge -underBinder +onlyGivenNames x5
  have hx5 : StSame R s0 x5 := State.put_stores _ _ _ (State.setRm_stores _ hx4)
  try clear_value x5
  extract_lets -merge -underBinder +onlyGivenNames x6
  have hx6 : StSame R s0 x6 := State.modGauge_stores _ hx5
  try clear_value x6
  exact State.clearSwap_stores (State.put_stores _ _ _ hx6)

theorem State.winLoad_stores (hk : StSame R s0 s) : StSame R s0 (State.winLoad s) := by
  unfold State.winLoad
  refine foldl_stores _ ?_ ?_
  · exact hk
  · intro s0_0 s0_1 hm hs0_1
    split
    · exact State.put_stores _ _ _ (State.put_stores _ _ _ hs0_1)
    · exact State.wr_stores _ _ _ hs0_1

theorem State.gaugeCold_stores (hk : StSame R s0 s) : StSame R s0 (State.gaugeCold s) := by
  unfold State.gaugeCold
  extract_lets -merge -underBinder +onlyGivenNames x0 x1 x2 x3
  have hx3 : StSame R s0 x3 := StSame.mk' hk
  try clear_value x3
  extract_lets -merge -underBinder +onlyGivenNames x4
  have hx4 : StSame R s0 x4 := State.bump_stores _ _ _ (State.put_stores _ _ _ (State.put_stores _ _ _ hx3))
  try clear_value x4
  extract_lets -merge -underBinder +onlyGivenNames x5
  have hx5 : StSame R s0 x5 := StSame.ite (fun _ => State.raise_stores _ _ hx4) (fun _ => hx3)
  try clear_value x5
  extract_lets -merge -underBinder +onlyGivenNames x6
  have hx6 : StSame R s0 x6 := State.winLoad_stores hx5
  try clear_value x6
  exact StSame.ite (fun _ => State.packLoad_stores hx6) (fun _ => hx6)

theorem State.gaugeRestore_stores (hk : StSame R s0 s) : StSame R s0 (State.gaugeRestore s) := by
  unfold State.gaugeRestore
  extract_lets -merge -underBinder +onlyGivenNames x0 x1
  have hx1 : ∀ a0 a1 a2 a3, StSame R s0 a0 → StSame R s0 (x1 a0 a1 a2 a3) := by
    intro s2_0 s2_1 s2_2 s2_3 hs2_1
    unfold x1
    beta_reduce
    exact State.wr_stores _ _ _ hs2_1
  try clear_value x1
  extract_lets -merge -underBinder +onlyGivenNames x3
  have hx3 : StSame R s0 x3 := by
    unfold x3
    refine hx1 _ _ _ _ ?_
    refine hx1 _ _ _ _ ?_
    refine hx1 _ _ _ _ ?_
    refine hx1 _ _ _ _ ?_
    exact hk
  try clear_value x3
  extract_lets -merge -underBinder +onlyGivenNames x4
  have hx4 : StSame R s0 x4 := by
    unfold x4
    refine State.put_stores _ _ _ ?_
    refine hx1 _ _ _ _ ?_
    refine hx1 _ _ _ _ ?_
    refine hx1 _ _ _ _ ?_
    exact hx3
  try clear_value x4
  extract_lets -merge -underBinder +onlyGivenNames x5
  have hx5 : StSame R s0 x5 := by
    unfold x5
    refine hx1 _ _ _ _ ?_
    refine hx1 _ _ _ _ ?_
    refine hx1 _ _ _ _ ?_
    exact hx4
  try clear_value x5
  extract_lets -merge -underBinder +onlyGivenNames x6 x7
  have hx7 : StSame R s0 x7 := State.put_stores _ _ _ hx5
  try clear_value x7
  extract_lets -merge -underBinder +onlyGivenNames x8 x9 x10 x11
  have hx11 : StSame R s0 x11 := StSame.mk' hx7
  try clear_value x11
  exact StSame.ite (fun _ => State.raise_stores _ _ (State.winLoad_stores (State.profLoad_stores _ hx11))) (fun _ => State.gaugeCold_stores hk)

theorem State.tsBid_stores (temp : ℤ) (bid : ℕ) (hk : StSame R s0 s) : StSame R s0 (State.tsBid s temp bid) := by
  unfold State.tsBid
  extract_lets -merge -underBinder +onlyGivenNames x0 x1 x2 x3 x4
  have hx4 : StSame R s0 x4 := State.putB_stores _ _ _ (State.putB_stores _ _ _ hk)
  try clear_value x4
  extract_lets -merge -underBinder +onlyGivenNames x5
  have hx5 : StSame R s0 x5 := State.put_stores _ _ _ hx4
  try clear_value x5
  extract_lets -merge -underBinder +onlyGivenNames x6
  have hx6 : StSame R s0 x6 := State.raise_stores _ _ hx5
  try clear_value x6
  extract_lets -merge -underBinder +onlyGivenNames x7
  have hx7 : StSame R s0 x7 := State.modGauge_stores _ hx6
  try clear_value x7
  extract_lets -merge -underBinder +onlyGivenNames x8
  have hx8 : StSame R s0 x8 := StSame.ite (fun _ => StSame.ite (fun _ => State.disqualify_stores _ hx7) (fun _ => hx7)) (fun _ => hx5)
  try clear_value x8
  extract_lets -merge -underBinder +onlyGivenNames x9
  have hx9 : StSame R s0 x9 := State.put_stores _ _ _ hx8
  try clear_value x9
  extract_lets -merge -underBinder +onlyGivenNames x10
  exact State.modGauge_stores _ hx9

theorem State.chargeStep_stores (hk : StSame R s0 s) : StSame R s0 (State.chargeStep s).1 := by
  unfold State.chargeStep
  extract_lets -merge -underBinder +onlyGivenNames x0 x1 x2
  refine StSame.mkFst ?_
  exact State.modGauge_stores _ hk

theorem State.netCount_stores (q : ℤ) (hk : StSame R s0 s) : StSame R s0 (State.netCount s q) := by
  unfold State.netCount
  extract_lets -merge -underBinder +onlyGivenNames x0
  exact State.modGauge_stores _ (State.put_stores _ _ _ hk)

theorem State.chargeTake_stores (q : ℤ) (hk : StSame R s0 s) : StSame R s0 (State.chargeTake s q) := by
  unfold State.chargeTake
  extract_lets -merge -underBinder +onlyGivenNames x0
  have hx0 : StSame R s0 x0 := StSame.ite (fun _ => State.netCount_stores _ hk) (fun _ => hk)
  try clear_value x0
  extract_lets -merge -underBinder +onlyGivenNames x1
  have hx1 : StSame R s0 x1 := StSame.ite (fun _ => State.put_stores _ _ _ hx0) (fun _ => hk)
  try clear_value x1
  extract_lets -merge -underBinder +onlyGivenNames x2 x3
  have hx3 : StSame R s0 x3 := StSame.ite (fun _ => hx1) (fun _ => State.put_stores _ _ _ hx1)
  try clear_value x3
  extract_lets -merge -underBinder +onlyGivenNames x4 x5 x6
  have hx6 : StSame R s0 x6 := State.put_stores _ _ _ (State.put_stores _ _ _ hx3)
  try clear_value x6
  extract_lets -merge -underBinder +onlyGivenNames x7
  have hx7 : StSame R s0 x7 := StSame.ite (fun _ => State.put_stores _ _ _ hx3) (fun _ => hx3)
  try clear_value x7
  exact StSame.ite (fun _ => State.setRm_stores _ hx6) (fun _ => State.setRm_stores _ hx7)

theorem State.edvCorrect_stores (l : ℕ) (hk : StSame R s0 s) : StSame R s0 (State.edvCorrect s l) := by
  unfold State.edvCorrect
  exact StSame.ite (fun _ => State.setRm_stores _ hk) (fun _ => hk)

theorem State.edv2Confirm_stores (hk : StSame R s0 s) : StSame R s0 (State.edv2Confirm s) := by
  unfold State.edv2Confirm
  refine StSame.ite (fun _ => ?_) (fun _ => ?_)
  · exact State.edvCorrect_stores _ hk
  · split
    · exact State.edvCorrect_stores _ (State.disqualify_stores _ hk)
    · extract_lets -merge -underBinder +onlyGivenNames x0
      extract_lets -merge -underBinder +onlyGivenNames x1 x2
      exact StSame.ite (fun _ => State.learnTake_stores _ _ hk) (fun _ => State.edvCorrect_stores _ (State.disqualify_stores _ hk))

theorem State.edv0Confirm_stores (hk : StSame R s0 s) : StSame R s0 (State.edv0Confirm s) := by
  unfold State.edv0Confirm
  extract_lets -merge -underBinder +onlyGivenNames x0 x1 x2 x3 x4
  have hx4 : StSame R s0 x4 := State.put_stores _ _ _ (State.setRm_stores _ hk)
  try clear_value x4
  extract_lets -merge -underBinder +onlyGivenNames x5
  have hx5 : StSame R s0 x5 := StSame.ite (fun _ => State.learnTake_stores _ _ hx4) (fun _ => State.put_stores _ _ _ (State.put_stores _ _ _ (State.put_stores _ _ _ hx4)))
  try clear_value x5
  exact StSame.ite (fun _ => State.raise_stores _ _ hx5) (fun _ => State.edvCorrect_stores _ hk)

theorem State.edvRun_stores (vcomp : ℤ) (k : Fin 3) (hk : StSame R s0 s) : StSame R s0 (State.edvRun s vcomp k) := by
  unfold State.edvRun
  split
  · extract_lets -merge -underBinder +onlyGivenNames x0
    extract_lets -merge -underBinder +onlyGivenNames x1
    have hx1 : StSame R s0 x1 := StSame.ite (fun _ => State.modGauge_stores _ hk) (fun _ => hk)
    try clear_value x1
    extract_lets -merge -underBinder +onlyGivenNames x2 x3 x4
    have hx4 : StSame R s0 x4 := State.modGauge_stores _ hx1
    try clear_value x4
    extract_lets -merge -underBinder +onlyGivenNames x5
    have hx5 : StSame R s0 x5 := State.modGauge_stores _ hx4
    try clear_value x5
    extract_lets -merge -underBinder +onlyGivenNames x6
    have hx6 : StSame R s0 x6 := State.raiseBits_stores _ _ hx5
    try clear_value x6
    refine StSame.ite (fun _ => ?_) (fun _ => ?_)
    · exact hx4
    · split
      · exact State.edv2Confirm_stores hx6
      · exact State.edvCorrect_stores _ hx6
      · exact State.edv0Confirm_stores hx6

theorem State.endOfCharge_stores (hk : StSame R s0 s) : StSame R s0 (State.endOfCharge s) := by
  unfold State.endOfCharge
  extract_lets -merge -underBinder +onlyGivenNames x0
  have hx0 : StSame R s0 x0 := State.raise_stores _ _ (State.put_stores _ _ _ hk)
  try clear_value x0
  extract_lets -merge -underBinder +onlyGivenNames x1
  have hx1 : StSame R s0 x1 := StSame.ite (fun _ => hx0) (fun _ => State.setValid_stores hx0)
  try clear_value x1
  extract_lets -merge -underBinder +onlyGivenNames x2
  have hx2 : StSame R s0 x2 := State.modGauge_stores _ hx1
  try clear_value x2
  exact State.learnStart_stores _ (State.setRm_stores _ hx2)

theorem State.eocRun_stores (vcomp : ℤ) (hk : StSame R s0 s) : StSame R s0 (State.eocRun s vcomp).1 := by
  unfold State.eocRun
  extract_lets -merge -underBinder +onlyGivenNames x0 x1 x2 x3 x4 x5 x6 x7 x8
  have hx8 : StSame R s0 x8 := StSame.ite (fun _ => State.modGauge_stores _ hk) (fun _ => hk)
  try clear_value x8
  refine StSame.iteFst (fun _ => ?_) (fun _ => ?_)
  · refine StSame.mkFst ?_
    exact hk
  · refine StSame.iteFst (fun _ => ?_) (fun _ => ?_)
    · refine StSame.iteFst (fun _ => ?_) (fun _ => ?_)
      · refine StSame.mkFst ?_
        exact State.endOfCharge_stores hx8
      · refine StSame.mkFst ?_
        exact hx8
    · refine StSame.iteFst (fun _ => ?_) (fun _ => ?_)
      · refine StSame.mkFst ?_
        exact State.modGauge_stores _ (State.endOfCharge_stores hk)
      · refine StSame.mkFst ?_
        exact State.modGauge_stores _ hk

theorem State.ocvRun_stores (eoc : Bool) (hk : StSame R s0 s) : StSame R s0 (State.ocvRun s eoc) := by
  unfold State.ocvRun
  extract_lets -merge -underBinder +onlyGivenNames x0
  have hx0 : StSame R s0 x0 := StSame.ite (fun _ => State.modGauge_stores _ hk) (fun _ => hk)
  try clear_value x0
  extract_lets -merge -underBinder +onlyGivenNames x1 x2
  refine StSame.ite (fun _ => ?_) (fun _ => ?_)
  · exact State.modGauge_stores _ hk
  · split
    · exact hx0
    · extract_lets -merge -underBinder +onlyGivenNames x3
      extract_lets -merge -underBinder +onlyGivenNames x4 x5 x6 x7 x8
      have hx8 : StSame R s0 x8 := StSame.ite (fun _ => State.setRm_stores _ hx0) (fun _ => hx0)
      try clear_value x8
      extract_lets -merge -underBinder +onlyGivenNames x9
      have hx9 : StSame R s0 x9 := StSame.ite (fun _ => State.setValid_stores (State.put_stores _ _ _ hx8)) (fun _ => hx8)
      try clear_value x9
      extract_lets -merge -underBinder +onlyGivenNames x10
      have hx10 : StSame R s0 x10 := State.modGauge_stores _ hx9
      try clear_value x10
      exact StSame.ite (fun _ => hx0) (fun _ => StSame.ite (fun _ => State.learnStart_stores _ hx10) (fun _ => hx10))

theorem State.socRun_stores (hk : StSame R s0 s) : StSame R s0 (State.socRun s) := by
  unfold State.socRun
  extract_lets -merge -underBinder +onlyGivenNames x0 x1 x2 x3 x4 x5 x6 x7 x8 x9 x10
  have hx10 : StSame R s0 x10 := StSame.ite (fun _ => State.modGauge_stores _ hk) (fun _ => hk)
  try clear_value x10
  exact StSame.ite (fun _ => hk) (fun _ => State.put_stores _ _ _ hx10)

theorem State.fullCheck_stores (hk : StSame R s0 s) : StSame R s0 (State.fullCheck s) := by
  unfold State.fullCheck
  exact StSame.ite (fun _ => State.put_stores _ _ _ hk) (fun _ => hk)

theorem State.gaugeRun_stores (hk : StSame R s0 s) (gGREC : ∀ x, 0x100180 ≤ x → x < 0x1001C0 → R x) : StSame R s0 (State.gaugeRun s) := by
  unfold State.gaugeRun
  extract_lets -merge -underBinder +onlyGivenNames x0
  have hx0 : StSame R s0 x0.1 := by
    refine StSame.ofEq ?_ (State.chargeStep_stores hk)
    exact rfl
  try clear_value x0
  extract_lets -merge -underBinder +onlyGivenNames x1
  have hx1 : StSame R s0 x1 := hx0
  try clear_value x1
  extract_lets -merge -underBinder +onlyGivenNames x2 x3
  have hx3 : StSame R s0 x3 := State.modGauge_stores _ hx1
  try clear_value x3
  extract_lets -merge -underBinder +onlyGivenNames x4
  have hx4 : StSame R s0 x4 := StSame.ite (fun _ => StSame.ite (fun _ => State.put_stores _ _ _ hx3) (fun _ => hx3)) (fun _ => State.modGauge_stores _ hx1)
  try clear_value x4
  extract_lets -merge -underBinder +onlyGivenNames x5
  have hx5 : StSame R s0 x5 := State.chargeTake_stores _ hx4
  try clear_value x5
  extract_lets -merge -underBinder +onlyGivenNames x6
  have hx6 : StSame R s0 x6 := State.fullCheck_stores hx5
  try clear_value x6
  extract_lets -merge -underBinder +onlyGivenNames x7
  have hx7 : StSame R s0 x7 := State.put_stores _ _ _ (State.setRm_stores _ hx6)
  try clear_value x7
  extract_lets -merge -underBinder +onlyGivenNames x8
  have hx8 : StSame R s0 x8 := by
    unfold x8
    refine StSame.ite (fun _ => ?_) (fun _ => ?_)
    · split
      · exact State.disqualify_stores _ hx7
      · exact hx7
    · exact hx7
  try clear_value x8
  extract_lets -merge -underBinder +onlyGivenNames x9 x10
  have hx10 : StSame R s0 x10 := State.put_stores _ _ _ hx8
  try clear_value x10
  extract_lets -merge -underBinder +onlyGivenNames x11
  have hx11 : StSame R s0 x11 := foldl_stores _ hx10 (fun _ _ _ h12 => State.edvRun_stores _ _ h12)
  try clear_value x11
  extract_lets -merge -underBinder +onlyGivenNames x13
  have hx13 : StSame R s0 x13.1 := by
    refine StSame.ofEq ?_ (State.eocRun_stores ?_ hx11)
    exact rfl
  try clear_value x13
  extract_lets -merge -underBinder +onlyGivenNames x14
  have hx14 : StSame R s0 x14 := State.ocvRun_stores _ hx13
  try clear_value x14
  extract_lets -merge -underBinder +onlyGivenNames x15
  have hx15 : StSame R s0 x15 := State.put_stores _ _ _ hx14
  try clear_value x15
  extract_lets -merge -underBinder +onlyGivenNames x16
  have hx16 : StSame R s0 x16 := State.socRun_stores (State.fullCheck_stores hx15)
  try clear_value x16
  extract_lets -merge -underBinder +onlyGivenNames x17
  have hx17 : StSame R s0 x17 := State.put_stores _ _ _ hx16
  try clear_value x17
  extract_lets -merge -underBinder +onlyGivenNames x18
  have hx18 : StSame R s0 x18 := State.put_stores _ _ _ hx17
  try clear_value x18
  exact State.gaugeSave_stores hx18 gGREC

theorem State.gaugePost_stores (hk : StSame R s0 s) (gDESC : ∀ x, 0xC0000 ≤ x → x < 0xD0000 → R x) : StSame R s0 (State.gaugePost s) := by
  unfold State.gaugePost
  exact StSame.ite (fun _ => State.postGlobal_stores _ _ _ _ _ hk gDESC) (fun _ => hk)

theorem State.learnAbort_stores (hk : StSame R s0 s) : StSame R s0 (State.learnAbort s) := by
  unfold State.learnAbort
  exact StSame.ite (fun _ => State.disqualify_stores _ hk) (fun _ => hk)

theorem State.learnForget_stores (hk : StSame R s0 s) : StSame R s0 (State.learnForget s) := by
  unfold State.learnForget
  extract_lets -merge -underBinder +onlyGivenNames x0
  have hx0 : StSame R s0 x0 := StSame.ite (fun _ => State.disqualify_stores _ hk) (fun _ => hk)
  try clear_value x0
  extract_lets -merge -underBinder +onlyGivenNames x1
  have hx1 : StSame R s0 x1 := State.put_stores _ _ _ (State.put_stores _ _ _ hx0)
  try clear_value x1
  exact State.modGauge_stores _ (State.put_stores _ _ _ (State.setRm_stores _ hx1))

theorem State.gaugeTick_stores (hk : StSame R s0 s) (gDESC : ∀ x, 0xC0000 ≤ x → x < 0xD0000 → R x) : StSame R s0 (State.gaugeTick s) := by
  unfold State.gaugeTick
  extract_lets -merge -underBinder +onlyGivenNames x0
  have hx0 : StSame R s0 x0 := StSame.ite (fun _ => State.gaugePost_stores hk gDESC) (fun _ => hk)
  try clear_value x0
  extract_lets -merge -underBinder +onlyGivenNames x1
  have hx1 : StSame R s0 x1 := State.raiseIf_stores _ _ _ hx0
  try clear_value x1
  exact StSame.ite (fun _ => State.postGlobal_stores _ _ _ _ _ hx1 gDESC) (fun _ => hx0)

theorem State.notSupported_stores (n : Port) (hk : StSame R s0 s) (gPD : ∀ x, 0x4000 * n.val ≤ x → x < 0x4000 * n.val + 0x4000 → R x) : StSame R s0 (State.notSupported s n) := by
  unfold State.notSupported
  exact State.fwSend_stores _ _ _ _ _ hk gPD

theorem State.batteryCaps_stores (n : Port) (ref : ℕ) (hk : StSame R s0 s) (gPD : ∀ x, 0x4000 * n.val ≤ x → x < 0x4000 * n.val + 0x4000 → R x) : StSame R s0 (State.batteryCaps s n ref) := by
  unfold State.batteryCaps
  extract_lets -merge -underBinder +onlyGivenNames x0 x1 x2 x3
  exact State.fwSendExt_stores _ _ _ hk gPD

theorem State.batteryStatus_stores (n : Port) (ref : ℕ) (hk : StSame R s0 s) (gPD : ∀ x, 0x4000 * n.val ≤ x → x < 0x4000 * n.val + 0x4000 → R x) : StSame R s0 (State.batteryStatus s n ref) := by
  unfold State.batteryStatus
  extract_lets -merge -underBinder +onlyGivenNames x0 x1 x2
  exact State.fwSend_stores _ _ _ _ _ hk gPD

theorem State.status_stores (n : Port) (hk : StSame R s0 s) (gPD : ∀ x, 0x4000 * n.val ≤ x → x < 0x4000 * n.val + 0x4000 → R x) : StSame R s0 (State.status s n) := by
  unfold State.status
  extract_lets -merge -underBinder +onlyGivenNames x0 x1 x2 x3 x4 x5
  exact State.modFw_stores _ _ (State.fwSendExt_stores _ _ _ hk gPD)

theorem State.ppsStatus_stores (n : Port) (hk : StSame R s0 s) (gPD : ∀ x, 0x4000 * n.val ≤ x → x < 0x4000 * n.val + 0x4000 → R x) : StSame R s0 (State.ppsStatus s n) := by
  unfold State.ppsStatus
  extract_lets -merge -underBinder +onlyGivenNames x0 x1 x2
  exact State.fwSendExt_stores _ _ _ hk gPD

theorem State.srcCapExt_stores (n : Port) (hk : StSame R s0 s) (gPD : ∀ x, 0x4000 * n.val ≤ x → x < 0x4000 * n.val + 0x4000 → R x) : StSame R s0 (State.srcCapExt s n) := by
  unfold State.srcCapExt
  exact State.fwSendExt_stores _ _ _ hk gPD

theorem State.answer_stores (n : Port) (h : ℕ) (ref : ℕ) (unchunked : Bool) (hk : StSame R s0 s) (gPD : ∀ x, 0x4000 * n.val ≤ x → x < 0x4000 * n.val + 0x4000 → R x) : StSame R s0 (State.answer s n h ref unchunked) := by
  unfold State.answer
  extract_lets -merge -underBinder +onlyGivenNames x0 x1 x2 x3
  exact StSame.ite (fun _ => State.notSupported_stores _ hk gPD) (fun _ => StSame.ite (fun _ => StSame.ite (fun _ => State.batteryCaps_stores _ _ hk gPD) (fun _ => State.notSupported_stores _ hk gPD)) (fun _ => StSame.ite (fun _ => StSame.ite (fun _ => State.batteryStatus_stores _ _ hk gPD) (fun _ => State.notSupported_stores _ hk gPD)) (fun _ => StSame.ite (fun _ => StSame.ite (fun _ => State.notSupported_stores _ hk gPD) (fun _ => State.status_stores _ hk gPD)) (fun _ => StSame.ite (fun _ => StSame.ite (fun _ => State.notSupported_stores _ hk gPD) (fun _ => State.srcCapExt_stores _ hk gPD)) (fun _ => StSame.ite (fun _ => StSame.ite (fun _ => State.notSupported_stores _ hk gPD) (fun _ => State.ppsStatus_stores _ hk gPD)) (fun _ => StSame.ite (fun _ => StSame.ite (fun _ => State.notSupported_stores _ hk gPD) (fun _ => State.advertise_stores _ hk gPD)) (fun _ => StSame.ite (fun _ => StSame.ite (fun _ => State.notSupported_stores _ hk gPD) (fun _ => State.fwSend_stores _ _ _ _ _ hk gPD)) (fun _ => StSame.ite (fun _ => StSame.ite (fun _ => State.notSupported_stores _ hk gPD) (fun _ => State.fwSendExt_stores _ _ _ hk gPD)) (fun _ => StSame.ite (fun _ => State.fwSend_stores _ _ _ _ _ hk gPD) (fun _ => StSame.ite (fun _ => State.fwSendExt_stores _ _ _ hk gPD) (fun _ => StSame.ite (fun _ => hk) (fun _ => StSame.ite (fun _ => State.advertise_stores _ hk gPD) (fun _ => StSame.ite (fun _ => State.notSupported_stores _ hk gPD) (fun _ => StSame.ite (fun _ => State.notSupported_stores _ hk gPD) (fun _ => StSame.ite (fun _ => State.notSupported_stores _ hk gPD) (fun _ => hk))))))))))))))))

theorem State.bootShow_stores (hk : StSame R s0 s) : StSame R s0 (State.bootShow s) := by
  unfold State.bootShow
  extract_lets -merge -underBinder +onlyGivenNames x0 x1 x2
  have hx2 : StSame R s0 x2 := State.put_stores _ _ _ (State.put_stores _ _ _ hk)
  try clear_value x2
  exact State.putB_stores _ _ _ (State.put_stores _ _ _ hx2)

theorem State.bootWrite_stores (f : BootRec → BootRec) (hk : StSame R s0 s) : StSame R s0 (State.bootWrite s f) := by
  unfold State.bootWrite
  extract_lets -merge -underBinder +onlyGivenNames x0
  exact State.bootShow_stores (State.nvdCommit_stores _ _ _ (StSame.mk' hk))

theorem State.bootDecide_stores (f : BootRec → BootRec) (hk : StSame R s0 s) : StSame R s0 (State.bootDecide s f) := by
  unfold State.bootDecide
  exact StSame.ite (fun _ => State.bootWrite_stores _ hk) (fun _ => State.bootShow_stores (StSame.mk' hk))

theorem State.sectorClear_stores (k : ℕ) (hk : StSame R s0 s) (gUPD : ∀ x, 0xDB000 ≤ x → x < 0xE0000 → R x) : StSame R s0 (State.sectorClear s k) := by
  unfold State.sectorClear
  exact State.mapPut_stores _ _ _ (State.stZero_stores _ _ hk (fun x h1 h2 => gUPD x (by (try simp +zetaDelta only [length_leBytes, List.length_append, List.length_replicate, List.length_take, List.length_drop, List.length_cons, List.length_nil, length_padTo, length_rxEntry, Desc.length_bytes, length_stRead, length_gaugeBytes, txAt, rxBufAt, txBufAt, rxRecAt, descAt, snapAt, recAt, rxfAt, txfAt, maskAt, marksAt, -List.reduceReplicate] at h1 h2); omega) (by (try simp +zetaDelta only [length_leBytes, List.length_append, List.length_replicate, List.length_take, List.length_drop, List.length_cons, List.length_nil, length_padTo, length_rxEntry, Desc.length_bytes, length_stRead, length_gaugeBytes, txAt, rxBufAt, txBufAt, rxRecAt, descAt, snapAt, recAt, rxfAt, txfAt, maskAt, marksAt, -List.reduceReplicate] at h1 h2); omega))) gUPD

theorem State.updResult_stores (code : ℕ) (hk : StSame R s0 s) : StSame R s0 (State.updResult s code) := by
  unfold State.updResult
  exact State.raise_stores _ _ (State.put_stores _ _ _ hk)

theorem State.updPost_stores (hk : StSame R s0 s) (gDESC : ∀ x, 0xC0000 ≤ x → x < 0xD0000 → R x) : StSame R s0 (State.updPost s) := by
  unfold State.updPost
  exact StSame.ite (fun _ => State.postGlobal_stores _ _ _ _ _ hk gDESC) (fun _ => hk)

theorem State.sessEnd_stores (hk : StSame R s0 s) : StSame R s0 (State.sessEnd s) := by
  unfold State.sessEnd
  extract_lets -merge -underBinder +onlyGivenNames x0
  have hx0 : StSame R s0 x0 := State.put_stores _ _ _ hk
  try clear_value x0
  exact StSame.mk' hx0

theorem State.sessOpen_stores (src : ℕ) (hk : StSame R s0 s) (gUPD : ∀ x, 0xDB000 ≤ x → x < 0xE0000 → R x) : StSameO R s0 (State.sessOpen s src) := by
  unfold State.sessOpen
  extract_lets -merge -underBinder +onlyGivenNames x0 x1
  have hx1 : StSame R s0 x1 := StSame.ite (fun _ => hk) (fun _ => State.bootDecide_stores _ hk)
  try clear_value x1
  extract_lets -merge -underBinder +onlyGivenNames x2 x3
  have hx3 : StSame R s0 x3 := State.nvdErasePage_stores _ (State.nvdErasePage_stores _ hx1)
  try clear_value x3
  refine StSameO.ite (fun _ => ?_) (fun _ => ?_)
  · refine StSameO.some ?_
    exact State.put_stores _ _ _ (State.stZero_stores _ _ (State.stZero_stores _ _ hx3 (fun x h1 h2 => gUPD x (by (try simp +zetaDelta only [length_leBytes, List.length_append, List.length_replicate, List.length_take, List.length_drop, List.length_cons, List.length_nil, length_padTo, length_rxEntry, Desc.length_bytes, length_stRead, length_gaugeBytes, txAt, rxBufAt, txBufAt, rxRecAt, descAt, snapAt, recAt, rxfAt, txfAt, maskAt, marksAt, -List.reduceReplicate] at h1 h2); omega) (by (try simp +zetaDelta only [length_leBytes, List.length_append, List.length_replicate, List.length_take, List.length_drop, List.length_cons, List.length_nil, length_padTo, length_rxEntry, Desc.length_bytes, length_stRead, length_gaugeBytes, txAt, rxBufAt, txBufAt, rxRecAt, descAt, snapAt, recAt, rxfAt, txfAt, maskAt, marksAt, -List.reduceReplicate] at h1 h2); omega))) (fun x h1 h2 => gUPD x (by (try simp +zetaDelta only [length_leBytes, List.length_append, List.length_replicate, List.length_take, List.length_drop, List.length_cons, List.length_nil, length_padTo, length_rxEntry, Desc.length_bytes, length_stRead, length_gaugeBytes, txAt, rxBufAt, txBufAt, rxRecAt, descAt, snapAt, recAt, rxfAt, txfAt, maskAt, marksAt, -List.reduceReplicate] at h1 h2); omega) (by (try simp +zetaDelta only [length_leBytes, List.length_append, List.length_replicate, List.length_take, List.length_drop, List.length_cons, List.length_nil, length_padTo, length_rxEntry, Desc.length_bytes, length_stRead, length_gaugeBytes, txAt, rxBufAt, txBufAt, rxRecAt, descAt, snapAt, recAt, rxfAt, txfAt, maskAt, marksAt, -List.reduceReplicate] at h1 h2); omega)))
  · exact StSameO.none

theorem State.updWord_stores (b : Bool) (w : ℕ) (v : Word) (bad : Option Bool) (hk : StSame R s0 s) (gUPD : ∀ x, 0xDB000 ≤ x → x < 0xE0000 → R x) : StSame R s0 (State.updWord s b w v bad).1 := by
  unfold State.updWord
  extract_lets -merge -underBinder +onlyGivenNames x0 x1 x2
  have hx2 : StSame R s0 x2 := StSame.ite (fun _ => State.sectorClear_stores _ (State.stNote_stores _ _ _ hk) gUPD) (fun _ => hk)
  try clear_value x2
  extract_lets -merge -underBinder +onlyGivenNames x3
  have hx3 : StSame R s0 x3 := State.put_stores _ _ _ hx2
  try clear_value x3
  extract_lets -merge -underBinder +onlyGivenNames x4
  have hx4 : StSame R s0 x4.1 := by
    unfold x4
    refine StSame.iteFst (fun _ => ?_) (fun _ => ?_)
    · refine StSame.mkFst ?_
      exact hx3
    · refine StSame.iteFst (fun _ => ?_) (fun _ => ?_)
      · refine StSame.mkFst ?_
        exact hx3
      · refine StSame.iteFst (fun _ => ?_) (fun _ => ?_)
        · refine StSame.mkFst ?_
          exact State.eraseAbort_stores _ (State.sectorClear_stores _ hx3 gUPD)
        · refine StSame.mkFst ?_
          exact State.mapPut_stores _ _ _ (State.codeErase_stores _ hx3) gUPD
  try clear_value x4
  extract_lets -merge -underBinder +onlyGivenNames x5
  have hx5 : StSame R s0 x5 := hx4
  try clear_value x5
  refine StSame.iteFst (fun _ => ?_) (fun _ => ?_)
  · refine StSame.iteFst (fun _ => ?_) (fun _ => ?_)
    · refine StSame.mkFst ?_
      exact hx2
    · refine StSame.mkFst ?_
      exact hx2
  · refine StSame.iteFst (fun _ => ?_) (fun _ => ?_)
    · refine StSame.mkFst ?_
      exact hx5
    · refine StSame.iteFst (fun _ => ?_) (fun _ => ?_)
      · refine StSame.mkFst ?_
        exact State.freshen_stores (State.codeProgram_stores _ _ hx5)
      · refine StSame.mkFst ?_
        exact State.mapPut_stores _ _ _ (State.codeProgram_stores _ _ hx5) gUPD

theorem State.updWords_stores (b : Bool) (bad : Option (ℕ × Bool)) (i w : ℕ) (l : List Word) (hk : StSame R s0 s) (gUPD : ∀ x, 0xDB000 ≤ x → x < 0xE0000 → R x) :
    StSame R s0 (State.updWords s b bad i w l).1 := by
  induction l generalizing s i w with
  | nil => exact hk
  | cons v l ih =>
    unfold State.updWords
    extract_lets -merge -underBinder +onlyGivenNames x0
    split
    · exact ih _ _ (State.updWord_stores _ _ _ _ hk gUPD)
    · exact State.updWord_stores _ _ _ _ hk gUPD

theorem State.updBlock_stores (src : ℕ) (off : ℕ) (data : List Byte) (bad : Option (ℕ × Bool)) (hk : StSame R s0 s) (gUPD : ∀ x, 0xDB000 ≤ x → x < 0xE0000 → R x) : StSame R s0 (State.updBlock s src off data bad).1 := by
  unfold State.updBlock
  extract_lets -merge -underBinder +onlyGivenNames x0
  refine StSame.iteFst (fun _ => ?_) (fun _ => ?_)
  · refine StSame.mkFst ?_
    exact hk
  · refine StSame.iteFst (fun _ => ?_) (fun _ => ?_)
    · refine StSame.mkFst ?_
      exact hk
    · refine StSame.iteFst (fun _ => ?_) (fun _ => ?_)
      · refine StSame.mkFst ?_
        exact hk
      · split
        · refine StSame.mkFst ?_
          exact hk
        · rename_i y1 e1
          have hy1 : StSame R s0 y1 := by
            refine StSameO.get ?_ e1
            refine StSameO.ite (fun _ => ?_) (fun _ => ?_)
            · refine State.sessOpen_stores _ ?_ gUPD
              exact hk
            · refine StSameO.some ?_
              exact hk
          refine State.updWords_stores _ _ _ _ _ ?_ gUPD
          exact hy1

theorem State.maskCheck_stores (hk : StSame R s0 s) (gUPD : ∀ x, 0xDB000 ≤ x → x < 0xE0000 → R x) : StSame R s0 (State.maskCheck s) := by
  unfold State.maskCheck
  exact foldl_stores _ hk (fun _ _ _ h0 => StSame.ite (fun _ => State.sectorClear_stores _ (State.stNote_stores _ _ _ h0) gUPD) (fun _ => h0))

theorem State.updCommit_stores (src : ℕ) (hk : StSame R s0 s) (gUPD : ∀ x, 0xDB000 ≤ x → x < 0xE0000 → R x) : StSame R s0 (State.updCommit s src).1 := by
  unfold State.updCommit
  extract_lets -merge -underBinder +onlyGivenNames x0
  have hx0 : StSame R s0 x0 := State.maskCheck_stores hk gUPD
  try clear_value x0
  extract_lets -merge -underBinder +onlyGivenNames x1
  refine StSame.iteFst (fun _ => ?_) (fun _ => ?_)
  · refine StSame.mkFst ?_
    exact hk
  · refine StSame.iteFst (fun _ => ?_) (fun _ => ?_)
    · refine StSame.mkFst ?_
      exact hk
    · refine StSame.iteFst (fun _ => ?_) (fun _ => ?_)
      · refine StSame.mkFst ?_
        exact hx0
      · refine StSame.iteFst (fun _ => ?_) (fun _ => ?_)
        · refine StSame.mkFst ?_
          exact hx0
        · refine StSame.iteFst (fun _ => ?_) (fun _ => ?_)
          · refine StSame.mkFst ?_
            exact hx0
          · refine StSame.mkFst ?_
            exact State.raise_stores _ _ (State.sessEnd_stores (State.bootWrite_stores _ hx0))

theorem State.warmCause_stores (bit : ℕ) (hk : StSame R s0 s) : StSame R s0 (State.warmCause s bit) := by
  unfold State.warmCause
  exact StSame.mk' hk

theorem State.activationReset_stores (b : Bool) (hk : StSame R s0 s) : StSame R s0 (State.activationReset s b) := by
  unfold State.activationReset
  extract_lets -merge -underBinder +onlyGivenNames x0
  have hx0 : StSame R s0 x0 := State.warmCause_stores _ hk
  try clear_value x0
  exact StSame.mk' hx0

theorem State.updActivate_stores (hk : StSame R s0 s) : StSame R s0 (State.updActivate s) := by
  unfold State.updActivate
  exact StSame.ite (fun _ => State.updResult_stores _ hk) (fun _ => StSame.ite (fun _ => State.updResult_stores _ hk) (fun _ => State.activationReset_stores _ (State.updResult_stores _ hk)))

theorem State.updConfirm_stores (switch : Bool) (hk : StSame R s0 s) : StSame R s0 (State.updConfirm s switch) := by
  unfold State.updConfirm
  extract_lets -merge -underBinder +onlyGivenNames x0 x1
  have hx1 : StSame R s0 x1 := State.bootWrite_stores _ hk
  try clear_value x1
  exact StSame.ite (fun _ => State.updResult_stores _ hk) (fun _ => StSame.ite (fun _ => State.updResult_stores _ hk) (fun _ => State.updResult_stores _ (StSame.mk' hx1)))

theorem State.ownerFlag_stores (b : Bool) (hk : StSame R s0 s) : StSame R s0 (State.ownerFlag s b) := by
  unfold State.ownerFlag
  extract_lets -merge -underBinder +onlyGivenNames x0 x1 x2
  exact State.putB_stores _ _ _ (State.nvdCommit_stores _ _ _ hk)

theorem State.updOwnerLock_stores (hk : StSame R s0 s) : StSame R s0 (State.updOwnerLock s) := by
  unfold State.updOwnerLock
  exact StSame.ite (fun _ => State.updResult_stores _ hk) (fun _ => StSame.ite (fun _ => State.updResult_stores _ hk) (fun _ => State.updResult_stores _ (State.ownerFlag_stores _ hk)))

theorem State.tokFail_stores (hk : StSame R s0 s) : StSame R s0 (State.tokFail s) := by
  unfold State.tokFail
  exact StSame.mk' hk

theorem State.updChallenge_stores (v : BitVec 64) (hk : StSame R s0 s) : StSame R s0 (State.updChallenge s v) := by
  unfold State.updChallenge
  extract_lets -merge -underBinder +onlyGivenNames x0 x1
  have hx1 : StSame R s0 x1 := StSame.mk' hk
  try clear_value x1
  exact State.put_stores _ _ _ (State.put_stores _ _ _ hx1)

theorem State.updUnlock_stores (hk : StSame R s0 s) : StSame R s0 (State.updUnlock s) := by
  unfold State.updUnlock
  extract_lets -merge -underBinder +onlyGivenNames x0 x1 x2
  have hx2 : StSame R s0 x2 := StSame.mk' hk
  try clear_value x2
  extract_lets -merge -underBinder +onlyGivenNames x3
  have hx3 : StSame R s0 x3 := State.put_stores _ _ _ (State.put_stores _ _ _ (State.put_stores _ _ _ hx2))
  try clear_value x3
  exact StSame.ite (fun _ => State.updResult_stores _ (State.tokFail_stores hx3)) (fun _ => StSame.ite (fun _ => State.updResult_stores _ hx3) (fun _ => State.updResult_stores _ (State.put_stores _ _ _ (State.ownerFlag_stores _ hx3))))

theorem State.distPost_stores (hk : StSame R s0 s) (gDESC : ∀ x, 0xC0000 ≤ x → x < 0xD0000 → R x) : StSame R s0 (State.distPost s) := by
  unfold State.distPost
  exact State.postGlobal_stores _ _ _ _ _ hk gDESC

theorem State.updDistribute_stores (hk : StSame R s0 s) (gDESC : ∀ x, 0xC0000 ≤ x → x < 0xD0000 → R x) : StSame R s0 (State.updDistribute s) := by
  unfold State.updDistribute
  extract_lets -merge -underBinder +onlyGivenNames x0 x1 x2 x3
  have hx3 : StSame R s0 x3 := StSame.mk' hk
  try clear_value x3
  exact StSame.ite (fun _ => hk) (fun _ => State.distPost_stores (State.wr_stores _ _ _ (State.wr_stores _ _ _ (State.put_stores _ _ _ (State.put_stores _ _ _ (State.put_stores _ _ _ (State.put_stores _ _ _ hx3)))))) gDESC)

theorem State.updAbort_stores (hk : StSame R s0 s) : StSame R s0 (State.updAbort s) := by
  unfold State.updAbort
  exact State.updResult_stores _ (State.sessEnd_stores hk)

theorem State.pagesReset_stores (pages : List ℕ) (keep : ℕ → ℕ) (hk : StSame R s0 s) : StSame R s0 (State.pagesReset s pages keep) := by
  unfold State.pagesReset
  extract_lets -merge -underBinder +onlyGivenNames x0
  have hx0 : StSame R s0 x0 := State.maskRegs_stores _ _ hk
  try clear_value x0
  extract_lets -merge -underBinder +onlyGivenNames x1
  have hx1 : StSame R s0 x1 := StSame.mk' hx0
  try clear_value x1
  refine foldl_stores _ ?_ ?_
  · exact hx1
  · intro s2_0 s2_1 hm hs2_1
    extract_lets -merge -underBinder +onlyGivenNames x3
    have hx3 : StSame R s0 x3 := State.put_stores _ _ _ hs2_1
    try clear_value x3
    exact StSame.mk' hx3

theorem State.pdlRefuse_stores (n : Port) (hk : StSame R s0 s) (gPD : ∀ x, 0x4000 * n.val ≤ x → x < 0x4000 * n.val + 0x4000 → R x) (gDESC : ∀ x, 0xC0000 ≤ x → x < 0xD0000 → R x) : StSame R s0 (State.pdlRefuse s n) := by
  unfold State.pdlRefuse
  extract_lets -merge -underBinder +onlyGivenNames x0
  have hx0 : StSame R s0 x0 := State.txEndAll_stores _ _ _ (State.wr_stores _ _ _ (State.wr_stores _ _ _ hk)) gPD gDESC
  try clear_value x0
  exact State.modPdl_stores _ _ (State.reasmDrop_stores _ hx0)

theorem State.retiredOut_stores (n : Port) (was : Bool) (hk : StSame R s0 s) (gDESC : ∀ x, 0xC0000 ≤ x → x < 0xD0000 → R x) (gPD : ∀ x, 0x4000 * n.val ≤ x → x < 0x4000 * n.val + 0x4000 → R x) (gSNAP : ∀ x, 0x100000 + 32 * n.val ≤ x → x < 0x100020 + 32 * n.val → R x) : StSame R s0 (State.retiredOut s n was) := by
  unfold State.retiredOut
  exact StSame.ite (fun _ => State.guardEvt_stores _ _ (State.ccEnter_stores _ _ hk gPD gDESC gSNAP) gDESC) (fun _ => hk)

theorem State.copiesKept_stores (n : Port) (retired : Bool) (hk : StSame R s0 s) : StSame R s0 (State.copiesKept s n retired) := by
  unfold State.copiesKept
  exact StSame.ite (fun _ => State.retestPort_stores _ (State.put_stores _ _ _ (State.setFailed_stores _ _ hk))) (fun _ => State.putB_stores _ _ _ hk)

theorem State.portReset_stores (n : Port) (hk : StSame R s0 s) (gPD : ∀ x, 0x4000 * n.val ≤ x → x < 0x4000 * n.val + 0x4000 → R x) (gDESC : ∀ x, 0xC0000 ≤ x → x < 0xD0000 → R x) (gSNAP : ∀ x, 0x100000 + 32 * n.val ≤ x → x < 0x100020 + 32 * n.val → R x) : StSame R s0 (State.portReset s n) := by
  unfold State.portReset
  extract_lets -merge -underBinder +onlyGivenNames x0 x1
  have hx1 : StSame R s0 x1 := State.pdlRefuse_stores _ (State.guardHalt_stores _ hk) gPD gDESC
  try clear_value x1
  extract_lets -merge -underBinder +onlyGivenNames x2
  have hx2 : StSame R s0 x2 := StSame.ite (fun _ => State.detach_stores _ _ hx1 gPD gDESC gSNAP) (fun _ => State.transAbandon_stores _ (State.snapClear_stores _ (State.genUp_stores _ hx1) gSNAP) gDESC)
  try clear_value x2
  extract_lets -merge -underBinder +onlyGivenNames x3
  have hx3 : StSame R s0 x3 := State.hpdClear_stores _ (State.vconnOff_stores _ hx2)
  try clear_value x3
  extract_lets -merge -underBinder +onlyGivenNames x4 x5
  have hx5 : StSame R s0 x5 := State.pagesReset_stores _ _ hx3
  try clear_value x5
  extract_lets -merge -underBinder +onlyGivenNames x6
  have hx6 : StSame R s0 x6 := State.retiredOut_stores _ _ (State.put_stores _ _ _ (State.put_stores _ _ _ hx5)) gDESC gPD gSNAP
  try clear_value x6
  extract_lets -merge -underBinder +onlyGivenNames x7
  have hx7 : StSame R s0 x7 := State.copiesKept_stores _ _ hx6
  try clear_value x7
  exact State.modPort_stores _ _ hx7

theorem State.portResetAsk_stores (pg : ℕ) (n : Port) (hk : StSame R s0 s) (gPD : ∀ x, 0x4000 * n.val ≤ x → x < 0x4000 * n.val + 0x4000 → R x) (gDESC : ∀ x, 0xC0000 ≤ x → x < 0xD0000 → R x) (gSNAP : ∀ x, 0x100000 + 32 * n.val ≤ x → x < 0x100020 + 32 * n.val → R x) : StSame R s0 (State.portResetAsk s pg n) := by
  unfold State.portResetAsk
  exact StSame.ite (fun _ => State.lockedWrite_stores _ hk) (fun _ => State.portReset_stores _ hk gPD gDESC gSNAP)

theorem State.nvdDrop_stores (hk : StSame R s0 s) : StSame R s0 (State.nvdDrop s) := by
  unfold State.nvdDrop
  extract_lets -merge -underBinder +onlyGivenNames x0
  have hx0 : StSame R s0 x0 := by
    unfold x0
    split
    · exact State.nvdErasePage_stores _ hk
    · exact State.nvdErasePage_stores _ hk
    · exact hk
  try clear_value x0
  exact StSame.mk' hx0

theorem State.blockHidden_stores (kind : PageKind) (i : ℕ) (hk : StSame R s0 s) (gPD : ∀ (m : Port) x, 0x4000 * m.val ≤ x → x < 0x4000 * m.val + 0x4000 → R x) (gDESC : ∀ x, 0xC0000 ≤ x → x < 0xD0000 → R x) (gTXQ : ∀ x, 0xB8000 ≤ x → x < 0xC0000 → R x) : StSame R s0 (State.blockHidden s kind i) := by
  unfold State.blockHidden
  extract_lets -merge -underBinder +onlyGivenNames x0 x1
  split
  · exact State.modPort_stores _ _ (State.pdlRefuse_stores _ hk (gPD _) gDESC)
  · exact State.modPort_stores _ _ hk
  · exact State.modPol_stores _ _ hk
  · exact State.modPort_stores _ _ (State.hpdClear_stores _ hk)
  · exact State.shareReset_stores hk
  · exact StSame.mk' hk
  · exact StSame.mk' hk
  · exact State.modLink_stores _ _ (StSame.ite (fun _ => State.linkTo_stores _ _ hk gTXQ) (fun _ => hk))
  · exact StSame.mk' hk
  · exact StSame.mk' hk
  · exact StSame.mk' hk
  · exact State.nvdDrop_stores hk
  · exact State.sessEnd_stores hk
  · exact State.modEng_stores _ _ hk
  · exact hk

theorem State.hgSolo_stores (hk : StSame R s0 s) : StSame R s0 (State.hgSolo s) := by
  unfold State.hgSolo
  exact StSame.ite (fun _ => State.put_stores _ _ _ (State.put_stores _ _ _ (State.put_stores _ _ _ hk))) (fun _ => hk)

theorem State.blockAfter_stores (kind : PageKind) (hk : StSame R s0 s) : StSame R s0 (State.blockAfter s kind) := by
  unfold State.blockAfter
  split
  · exact State.gaugeRestore_stores hk
  · exact State.gaugeRestore_stores hk
  · exact State.winLoad_stores hk
  · exact State.hgSolo_stores hk
  · exact hk

theorem State.blockReset_stores (pg : ℕ) (hk : StSame R s0 s) (gPD : ∀ (m : Port) x, 0x4000 * m.val ≤ x → x < 0x4000 * m.val + 0x4000 → R x) (gDESC : ∀ x, 0xC0000 ≤ x → x < 0xD0000 → R x) (gSNAP : ∀ (m : Port) x, 0x100000 + 32 * m.val ≤ x → x < 0x100020 + 32 * m.val → R x) (gTXQ : ∀ x, 0xB8000 ≤ x → x < 0xC0000 → R x) : StSame R s0 (State.blockReset s pg) := by
  unfold State.blockReset
  split
  · exact hk
  · extract_lets -merge -underBinder +onlyGivenNames x0
    exact StSame.ite (fun _ => hk) (fun _ => StSame.ite (fun _ => State.portResetAsk_stores _ _ hk (gPD _) gDESC (gSNAP _)) (fun _ => StSame.ite (fun _ => State.lockedWrite_stores _ hk) (fun _ => State.blockAfter_stores _ (State.pagesReset_stores _ _ (State.blockHidden_stores _ _ hk gPD gDESC gTXQ)))))

theorem State.blockDone_stores (pg : ℕ) (hk : StSame R s0 s) : StSame R s0 (State.blockDone s pg) := by
  unfold State.blockDone
  extract_lets -merge -underBinder +onlyGivenNames x0
  have hx0 : StSame R s0 x0 := State.put_stores _ _ _ hk
  try clear_value x0
  exact StSame.ite (fun _ => StSame.mk' hx0) (fun _ => hk)

theorem State.flashDrop_stores (hk : StSame R s0 s) : StSame R s0 (State.flashDrop s) := by
  unfold State.flashDrop
  extract_lets -merge -underBinder +onlyGivenNames x0
  have hx0 : StSame R s0 x0 := by
    unfold x0
    split
    · exact State.codeProgram_stores _ _ hk
    · exact State.codeErase_stores _ hk
    · exact hk
  try clear_value x0
  exact StSame.mk' hx0

theorem State.verified_stores (code : ℕ) (hk : StSame R s0 s) : StSame R s0 (State.verified s code) := by
  unfold State.verified
  extract_lets -merge -underBinder +onlyGivenNames x0
  have hx0 : StSame R s0 x0 := State.put_stores _ _ _ hk
  try clear_value x0
  exact StSame.ite (fun _ => hx0) (fun _ => State.put_stores _ _ _ hx0)

theorem State.pickConfirmed_go_stores (l : List Bool) (hk : StSame R s0 s) :
    StSame R s0 (State.pickConfirmed.go s l).1 := by
  induction l generalizing s with
  | nil => exact hk
  | cons k l ih =>
    unfold State.pickConfirmed.go
    split
    · exact ih hk
    · extract_lets -merge -underBinder +onlyGivenNames x0
      split
      · exact StSame.mkFst (State.verified_stores _ hk)
      · exact ih (State.verified_stores _ hk)

theorem State.pickConfirmed_stores (hk : StSame R s0 s) : StSame R s0 (State.pickConfirmed s).1 :=
  State.pickConfirmed_go_stores _ hk

theorem State.chooseBank_stores (hk : StSame R s0 s) : StSame R s0 (State.chooseBank s).1 := by
  unfold State.chooseBank
  extract_lets -merge -underBinder +onlyGivenNames x0 x1
  have hx1 : StSame R s0 x1 := by
    unfold x1
    refine foldl_stores _ ?_ ?_
    · exact hk
    · intro s2_0 s2_1 hm hs2_1
      extract_lets -merge -underBinder +onlyGivenNames x3 x4
      have hx4 : StSame R s0 x4 := State.verified_stores _ hs2_1
      try clear_value x4
      exact StSame.ite (fun _ => StSame.ite (fun _ => State.bootDecide_stores _ hx4) (fun _ => State.raise_stores _ _ (State.bootDecide_stores _ hx4))) (fun _ => hs2_1)
  try clear_value x1
  extract_lets -merge -underBinder +onlyGivenNames x5
  have hx5 : StSame R s0 x5 := foldl_stores _ hx1 (fun _ _ _ h6 => StSame.ite (fun _ => State.raise_stores _ _ (State.bootDecide_stores _ h6)) (fun _ => h6))
  try clear_value x5
  split
  · refine State.pickConfirmed_stores ?_
    exact hx5
  · extract_lets -merge -underBinder +onlyGivenNames x7
    extract_lets -merge -underBinder +onlyGivenNames x8
    have hx8 : StSame R s0 x8 := State.bootDecide_stores _ hx5
    try clear_value x8
    extract_lets -merge -underBinder +onlyGivenNames x9 x10
    have hx10 : StSame R s0 x10 := State.verified_stores _ hx8
    try clear_value x10
    refine StSame.iteFst (fun _ => ?_) (fun _ => ?_)
    · refine StSame.mkFst ?_
      exact hx10
    · refine State.pickConfirmed_stores ?_
      exact State.raise_stores _ _ (State.bootDecide_stores _ hx10)

theorem State.trialStart_stores (hk : StSame R s0 s) : StSame R s0 (State.trialStart s) := by
  unfold State.trialStart
  extract_lets -merge -underBinder +onlyGivenNames x0
  exact StSame.mk' hk

theorem State.clampTask_stores (n : Port) (hk : StSame R s0 s) : StSame R s0 (State.clampTask s n) := by
  unfold State.clampTask
  extract_lets -merge -underBinder +onlyGivenNames x0
  exact StSame.ite (fun _ => hk) (fun _ => StSame.ite (fun _ => State.lockedWrite_stores _ hk) (fun _ => State.put_stores _ _ _ hk))

theorem State.fwEntry_stores (arg : ℕ) (hk : StSame R s0 s) (gDESC : ∀ x, 0xC0000 ≤ x → x < 0xD0000 → R x) : StSame R s0 (State.fwEntry s arg) := by
  unfold State.fwEntry
  extract_lets -merge -underBinder +onlyGivenNames x0 x1 x2 x3
  have hx3 : StSame R s0 x3 := StSame.mk' hk
  try clear_value x3
  extract_lets -merge -underBinder +onlyGivenNames x4
  have hx4 : StSame R s0 x4 := State.forEngines_stores hx3 (fun _ _ h5 => StSame.ite (fun _ => h5) (fun _ => State.modEng_stores _ _ h5))
  try clear_value x4
  extract_lets -merge -underBinder +onlyGivenNames x6
  have hx6 : StSame R s0 x6 := State.trialStart_stores (State.put_stores _ _ _ (State.stickySet_stores _ hx4))
  try clear_value x6
  extract_lets -merge -underBinder +onlyGivenNames x7
  have hx7 : StSame R s0 x7 := StSame.ite (fun _ => State.packLoad_stores hx6) (fun _ => hx6)
  try clear_value x7
  extract_lets -merge -underBinder +onlyGivenNames x8
  have hx8 : StSame R s0 x8 := State.forPorts_stores (State.forPorts_stores (State.putB_stores _ _ _ hx7) (fun _ _ h9 => State.clampTask_stores _ h9)) (fun _ _ h10 => State.holdPort_stores _ _ h10)
  try clear_value x8
  exact State.post_stores _ _ hx8 gDESC

theorem State.recoverEnter_stores (hk : StSame R s0 s) : StSame R s0 (State.recoverEnter s) := by
  unfold State.recoverEnter
  exact State.forPorts_stores (State.put_stores _ _ _ (State.put_stores _ _ _ (StSame.mk' hk))) (fun _ _ h0 => State.guardHalt_stores _ h0)

theorem State.startBank_stores (k : Option Bool) (arg : ℕ) (hk : StSame R s0 s) (gDESC : ∀ x, 0xC0000 ≤ x → x < 0xD0000 → R x) : StSame R s0 (State.startBank s k arg) := by
  unfold State.startBank
  split
  · exact State.recoverEnter_stores hk
  · extract_lets -merge -underBinder +onlyGivenNames x0
    have hx0 : StSame R s0 x0 := State.put_stores _ _ _ (State.putB_stores _ _ _ (State.put_stores _ _ _ hk))
    try clear_value x0
    exact State.fwEntry_stores _ (State.put_stores _ _ _ hx0) gDESC

theorem State.chooseStart_stores (arg : ℕ) (hk : StSame R s0 s) (gDESC : ∀ x, 0xC0000 ≤ x → x < 0xD0000 → R x) : StSame R s0 (State.chooseStart s arg) := by
  unfold State.chooseStart
  extract_lets -merge -underBinder +onlyGivenNames x0
  have hx0 : StSame R s0 x0.1 := by
    refine StSame.ofEq ?_ (State.chooseBank_stores hk)
    exact rfl
  try clear_value x0
  exact State.startBank_stores _ _ hx0 gDESC

theorem State.recoverStart_stores (hk : StSame R s0 s) (gDESC : ∀ x, 0xC0000 ≤ x → x < 0xD0000 → R x) : StSame R s0 (State.recoverStart s) := by
  unfold State.recoverStart
  extract_lets -merge -underBinder +onlyGivenNames x0
  have hx0 : StSame R s0 x0.1 := by
    refine StSame.ofEq ?_ (State.chooseBank_stores hk)
    exact rfl
  try clear_value x0
  exact StSame.ite (fun _ => State.startBank_stores _ _ hx0 gDESC) (fun _ => hx0)

theorem State.resetEnd_stores (us : BitVec 24) (hk : StSame R s0 s) : StSame R s0 (State.resetEnd s us) := by
  unfold State.resetEnd
  extract_lets -merge -underBinder +onlyGivenNames x0
  have hx0 : StSame R s0 x0 := State.put_stores _ _ _ (State.raise_stores _ _ (State.wr_stores _ _ _ hk))
  try clear_value x0
  exact StSame.mk' hx0

theorem State.gpioSync_stores (hk : StSame R s0 s) : StSame R s0 (State.gpioSync s) := by
  unfold State.gpioSync
  exact StSame.mk' hk

theorem State.coreClear_stores (hk : StSame R s0 s) (gDESC : ∀ x, 0xC0000 ≤ x → x < 0xD0000 → R x) : StSame R s0 (State.coreClear s) := by
  unfold State.coreClear
  extract_lets -merge -underBinder +onlyGivenNames x0 x1
  have hx1 : StSame R s0 x1 := State.otpDrop_stores (State.nvdDrop_stores (State.flashDrop_stores hk))
  try clear_value x1
  extract_lets -merge -underBinder +onlyGivenNames x2
  have hx2 : StSame R s0 x2 := State.hgSolo_stores (State.maskRegs_stores _ _ hx1)
  try clear_value x2
  extract_lets -merge -underBinder +onlyGivenNames x3 x4
  have hx4 : StSame R s0 x4 := StSame.mk' hx2
  try clear_value x4
  extract_lets -merge -underBinder +onlyGivenNames x5
  have hx5 : StSame R s0 x5 := State.dropTasks_stores (State.gpioSync_stores (State.put_stores _ _ _ hx4)) gDESC
  try clear_value x5
  extract_lets -merge -underBinder +onlyGivenNames x6 x7 x8
  have hx8 : StSame R s0 x8 := StSame.mk' hx5
  try clear_value x8
  extract_lets -merge -underBinder +onlyGivenNames x9
  have hx9 : StSame R s0 x9 := State.forEngines_stores hx8 (fun _ _ h10 => State.modEng_stores _ _ h10)
  try clear_value x9
  extract_lets -merge -underBinder +onlyGivenNames x11
  have hx11 : StSame R s0 x11 := State.forPorts_stores hx9 (fun _ _ h12 => State.modPort_stores _ _ h12)
  try clear_value x11
  extract_lets -merge -underBinder +onlyGivenNames x13
  have hx13 : StSame R s0 x13 := State.cmptRestart_stores (State.sessEnd_stores (State.shareReset_stores hx11))
  try clear_value x13
  extract_lets -merge -underBinder +onlyGivenNames x14 x15 x16 x17 x18 x19 x20
  have hx20 : StSame R s0 x20 := StSame.mk' hx13
  try clear_value x20
  exact State.gaugeRestore_stores hx20

theorem State.repostPending_stores (hk : StSame R s0 s) (gDESC : ∀ x, 0xC0000 ≤ x → x < 0xD0000 → R x) : StSame R s0 (State.repostPending s) := by
  unfold State.repostPending
  extract_lets -merge -underBinder +onlyGivenNames x0
  have hx0 : StSame R s0 x0 := StSame.ite (fun _ => State.postGlobal_stores _ _ _ _ _ hk gDESC) (fun _ => hk)
  try clear_value x0
  refine State.forPorts_stores ?_ ?_
  · exact hx0
  · intro s1_0 s1_1 hs1_1
    extract_lets -merge -underBinder +onlyGivenNames x2
    have hx2 : StSame R s0 x2 := StSame.ite (fun _ => State.modCc_stores _ _ hs1_1) (fun _ => hs1_1)
    try clear_value x2
    exact StSame.ite (fun _ => State.postKept_stores _ _ _ _ _ hx2 gDESC) (fun _ => hx2)

theorem State.modeRestore_stores (n : Port) (hk : StSame R s0 s) (gPD : ∀ x, 0x4000 * n.val ≤ x → x < 0x4000 * n.val + 0x4000 → R x) (gDESC : ∀ x, 0xC0000 ≤ x → x < 0xD0000 → R x) : StSame R s0 (State.modeRestore s n) := by
  unfold State.modeRestore
  extract_lets -merge -underBinder +onlyGivenNames x0 x1 x2 x3
  exact StSame.ite (fun _ => hk) (fun _ => StSame.ite (fun _ => State.hpdWrite_stores _ _ (State.wr_stores _ _ _ (State.wr_stores _ _ _ hk))) (fun _ => State.hardResetStart_stores _ hk gPD gDESC))

theorem State.warmFw_stores (hk : StSame R s0 s) (gPD : ∀ (m : Port) x, 0x4000 * m.val ≤ x → x < 0x4000 * m.val + 0x4000 → R x) (gDESC : ∀ x, 0xC0000 ≤ x → x < 0xD0000 → R x) : StSame R s0 (State.warmFw s) := by
  unfold State.warmFw
  extract_lets -merge -underBinder +onlyGivenNames x0
  have hx0 : StSame R s0 x0 := State.forPorts_stores hk (fun _ _ h1 => State.modeRestore_stores _ (State.modPort_stores _ _ h1) (gPD _) gDESC)
  try clear_value x0
  exact StSame.ite (fun _ => State.raiseIf_stores _ _ _ hx0) (fun _ => hk)

theorem State.warmBoot_stores (us : BitVec 24) (hk : StSame R s0 s) (gDESC : ∀ x, 0xC0000 ≤ x → x < 0xD0000 → R x) (gPD : ∀ (m : Port) x, 0x4000 * m.val ≤ x → x < 0x4000 * m.val + 0x4000 → R x) : StSame R s0 (State.warmBoot s us) := by
  unfold State.warmBoot
  extract_lets -merge -underBinder +onlyGivenNames x0 x1 x2
  clear_value x2
  extract_lets -merge -underBinder +onlyGivenNames x3 x4 x5 x6
  have hx6 : StSame R s0 x6 := State.put_stores _ _ _ (State.coreClear_stores hk gDESC)
  try clear_value x6
  extract_lets -merge -underBinder +onlyGivenNames x7
  have hx7 : StSame R s0 x7 := StSame.ite (fun _ => State.raise_stores _ _ (State.bootDecide_stores _ hx6)) (fun _ => hx6)
  try clear_value x7
  extract_lets -merge -underBinder +onlyGivenNames x8 x9 x10
  have hx10 : StSame R s0 x10 := State.verified_stores _ hx7
  try clear_value x10
  extract_lets -merge -underBinder +onlyGivenNames x11
  have hx11 : StSame R s0 x11 := StSame.ite (fun _ => State.chooseStart_stores _ hx7 gDESC) (fun _ => StSame.ite (fun _ => StSame.ite (fun _ => State.startBank_stores _ _ hx10 gDESC) (fun _ => State.chooseStart_stores _ hx10 gDESC)) (fun _ => State.fwEntry_stores _ (State.put_stores _ _ _ hx7) gDESC))
  try clear_value x11
  extract_lets -merge -underBinder +onlyGivenNames x12
  have hx12 : StSame R s0 x12 := by
    unfold x12
    split
    · exact hx11
    · extract_lets -merge -underBinder +onlyGivenNames x13
      extract_lets -merge -underBinder +onlyGivenNames x14
      have hx14 : StSame R s0 x14 := State.put_stores _ _ _ hx11
      try clear_value x14
      exact StSame.mk' hx14
  try clear_value x12
  exact State.warmFw_stores (State.repostPending_stores (State.resetEnd_stores _ hx12) gDESC) gPD gDESC

theorem State.modHost_stores (f : HostSt → HostSt) (hk : StSame R s0 s) : StSame R s0 (State.modHost s f) := by
  unfold State.modHost
  exact StSame.mk' hk

theorem State.hostLoad_stores (code : ℕ) (cmd : ℕ) (detail : ℕ) (hk : StSame R s0 s) : StSame R s0 (State.hostLoad s code cmd detail) := by
  unfold State.hostLoad
  extract_lets -merge -underBinder +onlyGivenNames x0
  have hx0 : StSame R s0 x0 := State.put_stores _ _ _ (State.put_stores _ _ _ (State.put_stores _ _ _ hk))
  try clear_value x0
  exact State.modHost_stores _ hx0

theorem State.hostErr_stores (code : ℕ) (cmd : ℕ) (hk : StSame R s0 s) : StSame R s0 (State.hostErr s code cmd) := by
  unfold State.hostErr
  extract_lets -merge -underBinder +onlyGivenNames x0
  have hx0 : StSame R s0 x0 := by
    unfold x0
    split
    · exact State.bump_stores _ _ _ (State.raise_stores _ _ hk)
    · exact State.bump_stores _ _ _ (State.raise_stores _ _ hk)
    · exact State.raise_stores _ _ hk
    · exact hk
  try clear_value x0
  exact State.hostLoad_stores _ _ _ hx0

theorem State.hostPost_stores (op : PostOp) (cmd : ℕ) (hk : StSame R s0 s) : StSame R s0 (State.hostPost s op cmd) := by
  unfold State.hostPost
  exact State.modHost_stores _ (State.hostLoad_stores _ _ _ hk)

theorem State.hostPostDone_stores (code : ℕ) (detail : ℕ) (hk : StSame R s0 s) : StSame R s0 (State.hostPostDone s code detail) := by
  unfold State.hostPostDone
  extract_lets -merge -underBinder +onlyGivenNames x0
  have hx0 : StSame R s0 x0 := StSame.ite (fun _ => State.put_stores _ _ _ (State.put_stores _ _ _ hk)) (fun _ => hk)
  try clear_value x0
  exact State.modHost_stores _ hx0

theorem State.hostWatch_stores (hk : StSame R s0 s) : StSame R s0 (State.hostWatch s) := by
  unfold State.hostWatch
  extract_lets -merge -underBinder +onlyGivenNames x0 x1 x2
  have hx2 : StSame R s0 x2 := State.modHost_stores _ hk
  try clear_value x2
  exact StSame.ite (fun _ => State.put_stores _ _ _ hx2) (fun _ => hx2)

theorem State.notifyOver_stores (hk : StSame R s0 s) : StSame R s0 (State.notifyOver s) := by
  unfold State.notifyOver
  exact State.modHost_stores _ (State.put_stores _ _ _ hk)

theorem State.notifyBegin_stores (hk : StSame R s0 s) : StSame R s0 (State.notifyBegin s) := by
  unfold State.notifyBegin
  extract_lets -merge -underBinder +onlyGivenNames x0 x1 x2
  exact State.modHost_stores _ (State.put_stores _ _ _ (State.put_stores _ _ _ hk))

theorem State.notifyFail_stores (hk : StSame R s0 s) : StSame R s0 (State.notifyFail s) := by
  unfold State.notifyFail
  extract_lets -merge -underBinder +onlyGivenNames x0
  have hx0 : StSame R s0 x0 := State.put_stores _ _ _ (State.bump_stores _ _ _ hk)
  try clear_value x0
  extract_lets -merge -underBinder +onlyGivenNames x1
  have hx1 : StSame R s0 x1 := State.modHost_stores _ hx0
  try clear_value x1
  exact StSame.ite (fun _ => hx1) (fun _ => State.notifyOver_stores (State.put_stores _ _ _ (State.raise_stores _ _ hx1)))

theorem State.notifyResult_stores (done : Option Bool) (hk : StSame R s0 s) : StSame R s0 (State.notifyResult s done) := by
  unfold State.notifyResult
  split
  · exact hk
  · exact State.notifyOver_stores (State.raise_stores _ _ hk)
  · exact State.notifyFail_stores hk

theorem State.notifyFresh_stores (hk : StSame R s0 s) : StSame R s0 (State.notifyFresh s) := by
  unfold State.notifyFresh
  exact State.notifyBegin_stores (State.put_stores _ _ _ hk)

theorem State.notifyNow_stores (hk : StSame R s0 s) : StSame R s0 (State.notifyNow s) := by
  unfold State.notifyNow
  exact StSame.ite (fun _ => State.notifyFresh_stores hk) (fun _ => hk)

theorem State.hostClear_stores (hk : StSame R s0 s) : StSame R s0 (State.hostClear s) := by
  unfold State.hostClear
  exact State.wr_stores _ _ _ (State.wr_stores _ _ _ hk)

theorem State.modeEnd_stores (r : ℕ) (hk : StSame R s0 s) : StSame R s0 (State.modeEnd s r) := by
  unfold State.modeEnd
  exact State.raise_stores _ _ (State.put_stores _ _ _ hk)

theorem State.modeReq_stores (m : ℕ) (hk : StSame R s0 s) : StSame R s0 (State.modeReq s m) := by
  unfold State.modeReq
  extract_lets -merge -underBinder +onlyGivenNames x0 x1 x2
  have hx2 : StSame R s0 x2 := State.put_stores _ _ _ hk
  try clear_value x2
  exact StSame.ite (fun _ => State.modeEnd_stores _ hk) (fun _ => StSame.ite (fun _ => State.modeEnd_stores _ hk) (fun _ => StSame.ite (fun _ => State.modeEnd_stores _ (State.put_stores _ _ _ (StSame.mk' hk))) (fun _ => StSame.ite (fun _ => State.modeEnd_stores _ hk) (fun _ => StSame.ite (fun _ => State.modeEnd_stores _ hk) (fun _ => StSame.ite (fun _ => State.modeEnd_stores _ hk) (fun _ => StSame.ite (fun _ => State.modeEnd_stores _ hk) (fun _ => StSame.ite (fun _ => State.modeEnd_stores _ hk) (fun _ => StSame.mk' hx2))))))))

theorem State.entryWake_stores (hk : StSame R s0 s) : StSame R s0 (State.entryWake s) := by
  unfold State.entryWake
  split
  · exact hk
  · extract_lets -merge -underBinder +onlyGivenNames x0
    have hx0 : StSame R s0 x0 := State.modeEnd_stores _ hk
    try clear_value x0
    exact StSame.mk' hx0

theorem State.aosAccess_stores (v : Option Word) (hk : StSame R s0 s) (gAOS : ∀ x, 0x100100 ≤ x → R x) : StSame R s0 (State.aosAccess s v).1 := by
  unfold State.aosAccess
  extract_lets -merge -underBinder +onlyGivenNames x0 x1 x2
  have hx2 : StSame R s0 x2 := by
    unfold x2
    split
    · exact hk
    · exact StSame.ite (fun _ => State.lockedWrite_stores _ hk) (fun _ => State.aosPut_stores _ _ _ hk (fun x h1 h2 => gAOS x (by omega)))
  try clear_value x2
  refine StSame.mkFst ?_
  exact State.incr_stores _ _ hx2

theorem State.dbgChallenge_stores (v : BitVec 64) (hk : StSame R s0 s) : StSame R s0 (State.dbgChallenge s v) := by
  unfold State.dbgChallenge
  extract_lets -merge -underBinder +onlyGivenNames x0 x1
  have hx1 : StSame R s0 x1 := StSame.mk' hk
  try clear_value x1
  exact State.put_stores _ _ _ (State.put_stores _ _ _ hx1)

theorem State.dbgSubmit_stores (hk : StSame R s0 s) : StSame R s0 (State.dbgSubmit s) := by
  unfold State.dbgSubmit
  extract_lets -merge -underBinder +onlyGivenNames x0 x1
  have hx1 : StSame R s0 x1 := StSame.mk' hk
  try clear_value x1
  exact StSame.ite (fun _ => hk) (fun _ => State.put_stores _ _ _ (State.put_stores _ _ _ (State.put_stores _ _ _ hx1)))

theorem State.gpioWatch_stores (hk : StSame R s0 s) : StSame R s0 (State.gpioWatch s) := by
  unfold State.gpioWatch
  extract_lets -merge -underBinder +onlyGivenNames x0
  exact StSame.ite (fun _ => State.gpioSync_stores (StSame.ite (fun _ => hk) (fun _ => State.raiseBits_stores _ _ hk))) (fun _ => hk)

theorem State.withEdges_stores {f : State → State} (hk : StSame R s0 s) (hf : ∀ a0, StSame R s0 a0 → StSame R s0 (f a0)) : StSame R s0 (State.withEdges s f) := by
  unfold State.withEdges
  refine State.gpioWatch_stores ?_
  refine hf _ ?_
  exact State.gpioWatch_stores hk

theorem State.gpioOut_stores (set : ℕ) (clr : ℕ) (hk : StSame R s0 s) : StSame R s0 (State.gpioOut s set clr) := by
  unfold State.gpioOut
  refine State.withEdges_stores ?_ ?_
  · exact hk
  · intro s0_0 hs0_1
    extract_lets -merge -underBinder +onlyGivenNames x1
    exact State.put_stores _ _ _ hs0_1

theorem State.pinCfg_stores (i : Fin 8) (v : Word) (hk : StSame R s0 s) : StSame R s0 (State.pinCfg s i v) := by
  unfold State.pinCfg
  exact StSame.ite (fun _ => State.lockedWrite_stores _ hk) (fun _ => State.withEdges_stores hk (fun _ h0 => State.put_stores _ _ _ (State.wr_stores _ _ _ h0)))

theorem State.freezeOn_stores (pg : ℕ) (hk : StSame R s0 s) : StSame R s0 (State.freezeOn s pg) := by
  unfold State.freezeOn
  split
  · exact hk
  · extract_lets -merge -underBinder +onlyGivenNames x0
    exact State.put_stores _ _ _ (StSame.mk' hk)

theorem State.freezeOff_stores (pg : ℕ) (hk : StSame R s0 s) : StSame R s0 (State.freezeOff s pg) := by
  unfold State.freezeOff
  exact State.put_stores _ _ _ (StSame.mk' hk)

theorem State.regRead_stores (rq : Req) (pg : ℕ) (off : ℕ) (hk : StSame R s0 s) (gAOS : ∀ x, 0x100100 ≤ x → R x) : StSame R s0 (State.regRead s rq pg off).1 := by
  unfold State.regRead
  extract_lets -merge -underBinder +onlyGivenNames x0
  split
  · refine StSame.mkFst ?_
    exact hk
  · extract_lets -merge -underBinder +onlyGivenNames x1
    extract_lets -merge -underBinder +onlyGivenNames x2 x3 x4
    have hx4 : StSame R s0 x4 := StSame.ite (fun _ => StSame.mk' hk) (fun _ => hk)
    try clear_value x4
    extract_lets -merge -underBinder +onlyGivenNames x5 x6
    have hx6 : StSame R s0 x6 := State.wr_stores _ _ _ hx4
    try clear_value x6
    extract_lets -merge -underBinder +onlyGivenNames x7
    have hx7 : StSame R s0 x7 := StSame.ite (fun _ => hx4) (fun _ => StSame.ite (fun _ => State.modPort_stores _ _ hx6) (fun _ => hx6))
    try clear_value x7
    refine StSame.iteFst (fun _ => ?_) (fun _ => ?_)
    · refine StSame.mkFst ?_
      exact hk
    · refine StSame.iteFst (fun _ => ?_) (fun _ => ?_)
      · refine StSame.mkFst ?_
        exact hk
      · refine StSame.iteFst (fun _ => ?_) (fun _ => ?_)
        · refine StSame.mkFst ?_
          exact hk
        · refine StSame.iteFst (fun _ => ?_) (fun _ => ?_)
          · refine StSame.mkFst ?_
            exact hk
          · refine StSame.iteFst (fun _ => ?_) (fun _ => ?_)
            · refine StSame.mkFst ?_
              refine State.aosAccess_stores _ ?_ gAOS
              exact hx7
            · refine StSame.iteFst (fun _ => ?_) (fun _ => ?_)
              · refine StSame.mkFst ?_
                exact State.incr_stores _ _ hx7
              · refine StSame.mkFst ?_
                exact hx7

theorem State.evtClear_stores (pg : ℕ) (v : Word) (hw : Word) (hk : StSame R s0 s) : StSame R s0 (State.evtClear s pg v hw) := by
  unfold State.evtClear
  split
  · exact hk
  · extract_lets -merge -underBinder +onlyGivenNames x0
    extract_lets -merge -underBinder +onlyGivenNames x1
    have hx1 : StSame R s0 x1 := StSame.ite (fun _ => hk) (fun _ => State.raiseBits_stores _ _ hk)
    try clear_value x1
    exact State.wr_stores _ _ _ hx1

theorem State.onBit_stores (v : Word) (i : ℕ) {f : State → State} (hk : StSame R s0 s) (hf : ∀ a0, StSame R s0 a0 → StSame R s0 (f a0)) : StSame R s0 (State.onBit s v i f) := by
  unfold State.onBit
  refine StSame.ite (fun _ => ?_) (fun _ => ?_)
  · refine hf _ ?_
    exact hk
  · exact hk

theorem State.flashCmd_stores (rq : Req) (v : Word) (hk : StSame R s0 s) : StSame R s0 (State.flashCmd s rq v) := by
  unfold State.flashCmd
  extract_lets -merge -underBinder +onlyGivenNames x0 x1
  refine StSame.ite (fun _ => ?_) (fun _ => ?_)
  · exact State.lockedWrite_stores _ hk
  · refine State.keyed_stores _ _ _ ?_ ?_
    · exact hk
    · intro s2_0 hs2_1
      split
      · exact State.flashStart_stores _ hs2_1
      · exact State.flashStart_stores _ hs2_1
      · exact hs2_1

theorem State.updCmd_stores (v : Word) (hk : StSame R s0 s) (gDESC : ∀ x, 0xC0000 ≤ x → x < 0xD0000 → R x) : StSame R s0 (State.updCmd s v) := by
  unfold State.updCmd
  refine State.keyed_stores _ _ _ ?_ ?_
  · exact hk
  · intro s0_0 hs0_1
    extract_lets -merge -underBinder +onlyGivenNames x1
    have hx1 : StSame R s0 x1 := State.updPost_stores hs0_1 gDESC
    try clear_value x1
    extract_lets -merge -underBinder +onlyGivenNames x2
    have hx2 : StSame R s0 x2 := State.onBit_stores _ _ hx1 (fun _ h3 => State.updResult_stores _ (State.sessEnd_stores h3))
    try clear_value x2
    extract_lets -merge -underBinder +onlyGivenNames x4
    have hx4 : StSame R s0 x4 := State.onBit_stores _ _ hx2 (fun _ h5 => State.updActivate_stores h5)
    try clear_value x4
    extract_lets -merge -underBinder +onlyGivenNames x6
    have hx6 : StSame R s0 x6 := State.onBit_stores _ _ hx4 (fun _ h7 => State.updConfirm_stores _ h7)
    try clear_value x6
    extract_lets -merge -underBinder +onlyGivenNames x8
    have hx8 : StSame R s0 x8 := State.onBit_stores _ _ hx6 (fun _ h9 => State.updDistribute_stores h9 gDESC)
    try clear_value x8
    extract_lets -merge -underBinder +onlyGivenNames x10
    have hx10 : StSame R s0 x10 := State.onBit_stores _ _ hx8 (fun _ h11 => State.updOwnerLock_stores h11)
    try clear_value x10
    extract_lets -merge -underBinder +onlyGivenNames x12
    have hx12 : StSame R s0 x12 := State.onBit_stores _ _ hx10 (fun _ h13 => State.freshen_stores (State.freshen_stores (State.updChallenge_stores _ h13)))
    try clear_value x12
    exact State.onBit_stores _ _ hx12 (fun _ h14 => State.updUnlock_stores h14)

theorem State.dbgReq_stores (v : Word) (hk : StSame R s0 s) : StSame R s0 (State.dbgReq s v) := by
  unfold State.dbgReq
  refine State.keyed_stores _ _ _ ?_ ?_
  · exact hk
  · intro s0_0 hs0_1
    extract_lets -merge -underBinder +onlyGivenNames x1
    have hx1 : StSame R s0 x1 := State.onBit_stores _ _ hs0_1 (fun _ h2 => State.freshen_stores (State.freshen_stores (State.dbgChallenge_stores _ h2)))
    try clear_value x1
    exact State.onBit_stores _ _ hx1 (fun _ h3 => State.dbgSubmit_stores h3)

theorem State.nvdCmd_stores (op : ℕ) (area : ℕ) (format : ℕ) (hk : StSame R s0 s) : StSame R s0 (State.nvdCmd s op area format) := by
  unfold State.nvdCmd
  split
  · exact State.nvdStart_stores _ hk
  · exact State.nvdStart_stores _ hk
  · exact State.nvdStart_stores _ hk
  · exact hk

theorem State.rstReq_stores (hk : StSame R s0 s) : StSame R s0 (State.rstReq s) := by
  unfold State.rstReq
  exact State.warmCause_stores _ hk

theorem State.portRst_stores (ports : ℕ) (hk : StSame R s0 s) (gPD : ∀ (m : Port) x, 0x4000 * m.val ≤ x → x < 0x4000 * m.val + 0x4000 → R x) (gDESC : ∀ x, 0xC0000 ≤ x → x < 0xD0000 → R x) (gSNAP : ∀ (m : Port) x, 0x100000 + 32 * m.val ≤ x → x < 0x100020 + 32 * m.val → R x) : StSame R s0 (State.portRst s ports) := by
  unfold State.portRst
  exact State.forPorts_stores hk (fun _ _ h0 => StSame.ite (fun _ => State.portResetAsk_stores _ _ h0 (gPD _) gDESC (gSNAP _)) (fun _ => h0))

theorem State.plcrPost_stores (slot : ℕ) (hk : StSame R s0 s) : StSame R s0 (State.plcrPost s slot) := by
  unfold State.plcrPost
  exact StSame.ite (fun _ => State.lockedWrite_stores _ hk) (fun _ => StSame.mk' hk)

theorem State.mainsSync_stores (hk : StSame R s0 s) : StSame R s0 (State.mainsSync s) := by
  unfold State.mainsSync
  extract_lets -merge -underBinder +onlyGivenNames x0
  have hx0 : StSame R s0 x0 := State.put_stores _ _ _ hk
  try clear_value x0
  exact StSame.ite (fun _ => hx0) (fun _ => State.put_stores _ _ _ hx0)

theorem State.readInto_stores (rq : Req) (pg : ℕ) (off : ℕ) (hk : StSame R s0 s) (gAOS : ∀ x, 0x100100 ≤ x → R x) : StSame R s0 (State.readInto s rq pg off) := by
  unfold State.readInto
  extract_lets -merge -underBinder +onlyGivenNames x0
  have hx0 : StSame R s0 x0.1 := by
    refine StSame.ofEq ?_ (State.regRead_stores ?_ ?_ ?_ hk gAOS)
    exact rfl
  try clear_value x0
  extract_lets -merge -underBinder +onlyGivenNames x1
  have hx1 : StSame R s0 x1 := hx0
  try clear_value x1
  exact StSame.mk' hx1

theorem State.regLoad_stores (rq : Req) (pg : ℕ) (off : ℕ) (hk : StSame R s0 s) (gAOS : ∀ x, 0x100100 ≤ x → R x) : StSame R s0 (State.regLoad s rq pg off).1 := by
  unfold State.regLoad
  extract_lets -merge -underBinder +onlyGivenNames x0
  have hx0 : StSame R s0 x0.1 := by
    refine StSame.ofEq ?_ (State.regRead_stores ?_ ?_ ?_ hk gAOS)
    exact rfl
  try clear_value x0
  refine StSame.mkFst ?_
  exact hx0

theorem State.skLoad_stores (k : Engine) (a : ℕ) (n : ℕ) (hk : StSame R s0 s) (gAOS : ∀ x, 0x100100 ≤ x → R x) : StSame R s0 (State.skLoad s k a n).1 := by
  unfold State.skLoad
  extract_lets -merge -underBinder +onlyGivenNames x0
  refine StSame.iteFst (fun _ => ?_) (fun _ => ?_)
  · refine StSame.mkFst ?_
    exact hk
  · refine StSame.iteFst (fun _ => ?_) (fun _ => ?_)
    · refine StSame.mkFst ?_
      exact State.stNote_stores _ _ _ hk
    · refine StSame.iteFst (fun _ => ?_) (fun _ => ?_)
      · refine State.regLoad_stores _ _ _ ?_ gAOS
        exact hk
      · refine StSame.mkFst ?_
        exact hk

theorem State.amLoad_stores (k : Engine) (e : EngSt) (x : SkW) (f : ℕ → ℕ) (hk : StSame R s0 s) (gAOS : ∀ x, 0x100100 ≤ x → R x) : StSame R s0 (State.amLoad s k e x f).1 := by
  unfold State.amLoad
  extract_lets -merge -underBinder +onlyGivenNames x0 x1
  have hx1 : StSame R s0 x1.1 := by
    refine StSame.ofEq ?_ (State.skLoad_stores ?_ ?_ ?_ hk gAOS)
    exact rfl
  try clear_value x1
  refine StSame.mkFst ?_
  exact hx1

theorem State.skSpend_stores (k : Engine) (n : ℕ) (hk : StSame R s0 s) : StSame R s0 (State.skSpend s k n) := by
  unfold State.skSpend
  exact State.modEng_stores _ _ hk

theorem State.skApply_stores (k : Engine) (n : EngSt) (hk : StSame R s0 s) : StSame R s0 (State.skApply s k n) := by
  unfold State.skApply
  exact State.modEng_stores _ _ hk

theorem State.skYield_stores (k : Engine) (kind : ℕ) (readyAt : ℕ) (dl : Option Word) (phase : ℕ) (hk : StSame R s0 s) (gDESC : ∀ x, 0xC0000 ≤ x → x < 0xD0000 → R x) : StSame R s0 (State.skYield s k kind readyAt dl phase) := by
  unfold State.skYield
  exact StSame.ite (fun _ => State.idleReassign_stores _ _ (State.endRun_stores _ _ _ _ hk gDESC) gDESC) (fun _ => hk)

theorem State.skFault_stores (k : Engine) (f : ℕ × ℕ) (phase : ℕ) (hk : StSame R s0 s) (gDESC : ∀ x, 0xC0000 ≤ x → x < 0xD0000 → R x) : StSame R s0 (State.skFault s k f phase) := by
  unfold State.skFault
  extract_lets -merge -underBinder +onlyGivenNames x0
  exact StSame.ite (fun _ => State.skYield_stores _ _ _ _ _ hk gDESC) (fun _ => State.modEng_stores _ _ hk)

theorem State.winStep_stores (words : ℕ) (hk : StSame R s0 s) : StSame R s0 (State.winStep s words) := by
  unfold State.winStep
  exact State.put_stores _ _ _ hk

theorem State.readFinish_stores (cmd : ℕ) (pre : Option (List Byte)) (head : List Byte) (data : List Byte) (pec : Bool) (e : Option (BusErr × ℕ)) (load : Bool) (code : ℕ) (detail : ℕ) (adv : ℕ) (hk : StSame R s0 s) : StSame R s0 (State.readFinish s cmd pre head data pec e load code detail adv) := by
  unfold State.readFinish
  extract_lets -merge -underBinder +onlyGivenNames x0 x1 x2 x3
  have hx3 : StSame R s0 x3 := State.modHost_stores _ hk
  try clear_value x3
  extract_lets -merge -underBinder +onlyGivenNames x4
  have hx4 : StSame R s0 x4 := StSame.ite (fun _ => State.winStep_stores _ hx3) (fun _ => hx3)
  try clear_value x4
  exact StSame.ite (fun _ => State.hostErr_stores _ _ hx4) (fun _ => StSame.ite (fun _ => State.hostLoad_stores _ _ _ hx4) (fun _ => hx4))

theorem State.writeEnd_stores (cmd : ℕ) (bytes : List Byte) (pec : Option (BitVec 8)) (e : Option BusErr) {f : State → State} (hk : StSame R s0 s) (hf : ∀ a0, StSame R s0 a0 → StSame R s0 (f a0)) : StSame R s0 (State.writeEnd s cmd bytes pec e f) := by
  unfold State.writeEnd
  refine StSame.ite (fun _ => ?_) (fun _ => ?_)
  · exact State.hostErr_stores _ _ hk
  · split
    · refine StSame.ite (fun _ => ?_) (fun _ => ?_)
      · exact State.hostErr_stores _ _ hk
      · refine hf _ ?_
        exact hk
    · refine StSame.ite (fun _ => ?_) (fun _ => ?_)
      · refine hf _ ?_
        exact hk
      · exact State.hostErr_stores _ _ hk

theorem State.writeDone_stores (cmd : ℕ) (words : ℕ) (hk : StSame R s0 s) : StSame R s0 (State.writeDone s cmd words) := by
  unfold State.writeDone
  exact StSame.ite (fun _ => State.winStep_stores _ (State.hostLoad_stores _ _ _ hk)) (fun _ => hk)

theorem State.regSend_stores (words : List Word) (count : ℕ) (hk : StSame R s0 s) : StSame R s0 (State.regSend s words count) := by
  unfold State.regSend
  extract_lets -merge -underBinder +onlyGivenNames x0 x1 x2
  have hx2 : StSame R s0 x2 := State.sendTo_stores _ _ _ _ hk
  try clear_value x2
  exact State.modFleet_stores _ hx2

theorem State.heldDrop_stores (hk : StSame R s0 s) : StSame R s0 (State.heldDrop s) := by
  unfold State.heldDrop
  exact State.modHost_stores _ hk

theorem State.wordsFinish_stores (c : HostCmd) (words : List Word) (code : ℕ) (detail : ℕ) (hk : StSame R s0 s) : StSame R s0 (State.wordsFinish s c words code detail) := by
  unfold State.wordsFinish
  split
  · exact hk
  · extract_lets -merge -underBinder +onlyGivenNames x0
    exact State.readFinish_stores _ _ _ _ _ _ _ _ _ _ hk

theorem State.hostBusy_stores (c : HostCmd) (hk : StSame R s0 s) : StSame R s0 (State.hostBusy s c) := by
  unfold State.hostBusy
  split
  · exact State.hostLoad_stores _ _ _ hk
  · exact State.wordsFinish_stores _ _ _ _ hk
  · exact State.wordsFinish_stores _ _ _ _ hk
  · exact State.readFinish_stores _ _ _ _ _ _ _ _ _ _ hk
  · exact State.hostLoad_stores _ _ _ hk

theorem State.hostPlain_stores (keep : Bool) {f : State → State} (hk : StSame R s0 s) (hf : ∀ a0, StSame R s0 a0 → StSame R s0 (f a0)) : StSame R s0 (State.hostPlain s keep f) := by
  unfold State.hostPlain
  extract_lets -merge -underBinder +onlyGivenNames x0
  have hx0 : StSame R s0 x0 := State.put_stores _ _ _ (State.modHost_stores _ hk)
  try clear_value x0
  refine StSame.ite (fun _ => ?_) (fun _ => ?_)
  · exact hk
  · refine hf _ ?_
    exact StSame.ite (fun _ => hx0) (fun _ => State.heldDrop_stores hx0)

theorem State.stretched_stores (us : ℕ) (hk : StSame R s0 s) : StSame R s0 (State.stretched s us) := by
  unfold State.stretched
  extract_lets -merge -underBinder +onlyGivenNames x0 x1
  have hx1 : StSame R s0 x1 := State.put_stores _ _ _ hk
  try clear_value x1
  exact State.modHost_stores _ (State.put_stores _ _ _ hx1)

theorem State.stretchMet_stores (hk : StSame R s0 s) : StSame R s0 (State.stretchMet s) := by
  unfold State.stretchMet
  exact State.freshen_stores (State.stretched_stores _ hk)

theorem State.updKey_stores (key : BitVec 16) {f : State → State} (hk : StSame R s0 s) (hf : ∀ a0, StSame R s0 a0 → StSame R s0 (f a0)) (gDESC : ∀ x, 0xC0000 ≤ x → x < 0xD0000 → R x) : StSame R s0 (State.updKey s key f) := by
  unfold State.updKey
  refine State.keyCmd_stores _ _ _ ?_ ?_
  · exact hk
  · intro s0_0 hs0_1
    refine hf _ ?_
    exact State.updPost_stores hs0_1 gDESC

theorem State.imgFrame_stores (i : ℕ) (kind : Option ℕ) (len : ℕ) {f : State → List Byte → State} (hk : StSame R s0 s) (hf : ∀ a0 a1, StSame R s0 a0 → StSame R s0 (f a0 a1)) : StSame R s0 (State.imgFrame s i kind len f) := by
  unfold State.imgFrame
  extract_lets -merge -underBinder +onlyGivenNames x0 x1
  refine StSame.ite (fun _ => ?_) (fun _ => ?_)
  · exact hk
  · refine StSame.ite (fun _ => ?_) (fun _ => ?_)
    · exact hk
    · refine StSame.ite (fun _ => ?_) (fun _ => ?_)
      · exact State.rxRelease_stores _ (State.stNote_stores _ _ _ hk)
      · refine State.rxRelease_stores _ ?_
        refine hf _ _ ?_
        exact hk

theorem State.imgOn_stores {f : State → State} (hk : StSame R s0 s) (hf : ∀ a0, StSame R s0 a0 → StSame R s0 (f a0)) : StSame R s0 (State.imgOn s f) := by
  unfold State.imgOn
  extract_lets -merge -underBinder +onlyGivenNames x0
  refine StSame.ite (fun _ => ?_) (fun _ => ?_)
  · refine hf _ ?_
    exact StSame.mk' hk
  · exact hk

theorem State.reportOwe_stores (event : ℕ) (hk : StSame R s0 s) : StSame R s0 (State.reportOwe s event) := by
  unfold State.reportOwe
  exact StSame.mk' hk

theorem State.imgStart_stores (p : List Byte) (hk : StSame R s0 s) (gUPD : ∀ x, 0xDB000 ≤ x → x < 0xE0000 → R x) : StSame R s0 (State.imgStart s p) := by
  unfold State.imgStart
  extract_lets -merge -underBinder +onlyGivenNames x0 x1 x2 x3
  have hx3 : StSame R s0 x3 := StSame.mk' hk
  try clear_value x3
  extract_lets -merge -underBinder +onlyGivenNames x4 x5
  have hx5 : StSame R s0 x5 := StSame.mk' hx3
  try clear_value x5
  extract_lets -merge -underBinder +onlyGivenNames x6
  have hx6 : ∀ a0, StSame R s0 a0 → StSame R s0 (x6 a0) := by
    intro s7_0 hs7_1
    unfold x6
    beta_reduce
    exact StSame.mk' hs7_1
  try clear_value x6
  refine StSame.ite (fun _ => ?_) (fun _ => ?_)
  · exact hx3
  · split
    · refine StSame.ite (fun _ => ?_) (fun _ => ?_)
      · exact State.updResult_stores _ hx5
      · split
        · rename_i y8 e8
          have hy8 : StSame R s0 y8 := by
            refine StSameO.get ?_ e8
            refine State.sessOpen_stores _ ?_ gUPD
            exact hx5
          refine State.updResult_stores _ ?_
          refine hx6 _ ?_
          exact hy8
        · exact State.updResult_stores _ hx5
    · refine StSame.ite (fun _ => ?_) (fun _ => ?_)
      · exact State.updResult_stores _ hx5
      · refine State.updResult_stores _ ?_
        refine hx6 _ ?_
        exact hx5
    · exact State.updResult_stores _ hx5

theorem State.modDist_stores (f : Dist → Dist) (hk : StSame R s0 s) : StSame R s0 (State.modDist s f) := by
  unfold State.modDist
  exact StSame.mk' hk

theorem State.imgSend_stores (bcast : Bool) (dest : ℕ) (payload : List Byte) (hk : StSame R s0 s) (gTXQ : ∀ x, 0xB8000 ≤ x → x < 0xC0000 → R x) : StSame R s0 (State.imgSend s bcast dest payload) := by
  unfold State.imgSend
  exact State.sendEngine_stores _ _ _ _ _ _ _ hk gTXQ

theorem State.distNodeFail_stores (k : ℕ) (hk : StSame R s0 s) : StSame R s0 (State.distNodeFail s k) := by
  unfold State.distNodeFail
  extract_lets -merge -underBinder +onlyGivenNames x0
  have hx0 : StSame R s0 x0 := State.incr_stores _ _ (State.setMapBit_stores _ _ _ _ hk)
  try clear_value x0
  exact StSame.ite (fun _ => hk) (fun _ => State.modDist_stores _ hx0)

theorem State.distReport_stores (d : Dist) (k : ℕ) (p : List Byte) (hk : StSame R s0 s) : StSame R s0 (State.distReport s d k p) := by
  unfold State.distReport
  extract_lets -merge -underBinder +onlyGivenNames x0 x1
  clear_value x1
  extract_lets -merge -underBinder +onlyGivenNames x2
  have hx2 : ∀ a0, StSame R s0 a0 → StSame R s0 (x2 a0) := by
    intro s3_0 hs3_1
    unfold x2
    beta_reduce
    exact State.modDist_stores _ hs3_1
  try clear_value x2
  refine StSame.ite (fun _ => ?_) (fun _ => ?_)
  · exact hk
  · split
    · refine StSame.ite (fun _ => ?_) (fun _ => ?_)
      · exact State.distNodeFail_stores _ hk
      · refine State.modDist_stores _ ?_
        refine hx2 _ ?_
        exact hk
    · refine StSame.ite (fun _ => ?_) (fun _ => ?_)
      · exact State.distNodeFail_stores _ hk
      · refine State.modDist_stores _ ?_
        refine hx2 _ ?_
        exact hk
    · refine StSame.ite (fun _ => ?_) (fun _ => ?_)
      · exact State.distNodeFail_stores _ hk
      · refine hx2 _ ?_
        exact hk
    · refine State.incr_stores _ _ ?_
      refine hx2 _ ?_
      exact hk
    · exact State.distNodeFail_stores _ hk
    · exact hk

theorem State.setDist_stores (x : Dist) (hk : StSame R s0 s) : StSame R s0 (State.setDist s x) := by
  unfold State.setDist
  exact StSame.mk' hk

theorem State.distPages_stores (d : Dist) (hk : StSame R s0 s) (gTXQ : ∀ x, 0xB8000 ≤ x → x < 0xC0000 → R x) : StSame R s0 (State.distPages s d) := by
  unfold State.distPages
  split
  · exact State.setDist_stores _ hk
  · exact State.setDist_stores _ (State.imgSend_stores _ _ _ hk gTXQ)
  · extract_lets -merge -underBinder +onlyGivenNames x0
    extract_lets -merge -underBinder +onlyGivenNames x1
    exact State.setDist_stores _ (State.imgSend_stores _ _ _ hk gTXQ)

theorem State.distRound_stores (d : Dist) (hk : StSame R s0 s) (gTXQ : ∀ x, 0xB8000 ≤ x → x < 0xC0000 → R x) : StSame R s0 (State.distRound s d) := by
  unfold State.distRound
  extract_lets -merge -underBinder +onlyGivenNames x0 x1
  have hx1 : StSame R s0 x1 := State.imgSend_stores _ _ _ (State.put_stores _ _ _ (State.put_stores _ _ _ hk)) gTXQ
  try clear_value x1
  extract_lets -merge -underBinder +onlyGivenNames x2
  exact StSame.ite (fun _ => hk) (fun _ => StSame.ite (fun _ => State.setDist_stores _ hx1) (fun _ => State.modDist_stores _ (foldl_stores _ hk (fun _ _ _ h3 => State.distNodeFail_stores _ h3))))

theorem State.distGroup_stores (d : Dist) (hk : StSame R s0 s) (gTXQ : ∀ x, 0xB8000 ≤ x → x < 0xC0000 → R x) : StSame R s0 (State.distGroup s d) := by
  unfold State.distGroup
  extract_lets -merge -underBinder +onlyGivenNames x0 x1
  exact StSame.ite (fun _ => State.setDist_stores _ hk) (fun _ => State.setDist_stores _ (foldl_stores _ hk (fun _ _ _ h2 => State.imgSend_stores _ _ _ h2 gTXQ)))

theorem State.distLate_stores (d : Dist) (late : Bool) (hk : StSame R s0 s) : StSame R s0 (State.distLate s d late) := by
  unfold State.distLate
  extract_lets -merge -underBinder +onlyGivenNames x0
  have hx0 : StSame R s0 x0 := StSame.ite (fun _ => foldl_stores _ hk (fun _ _ _ h1 => State.distNodeFail_stores _ h1)) (fun _ => hk)
  try clear_value x0
  exact State.modDist_stores _ hx0

theorem State.distEnd_stores (hk : StSame R s0 s) : StSame R s0 (State.distEnd s) := by
  unfold State.distEnd
  extract_lets -merge -underBinder +onlyGivenNames x0 x1
  have hx1 : StSame R s0 x1 := State.raise_stores _ _ (State.put_stores _ _ _ (StSame.mk' hk))

  exact StSame.ite (fun _ => State.activationReset_stores _ hx1) (fun _ => hx1)

theorem State.distStep_stores (d : Dist) (late : Bool) (hk : StSame R s0 s) (gTXQ : ∀ x, 0xB8000 ≤ x → x < 0xC0000 → R x) : StSame R s0 (State.distStep s d late) := by
  unfold State.distStep
  split
  · extract_lets -merge -underBinder +onlyGivenNames x0
    exact State.setDist_stores _ (State.imgSend_stores _ _ _ hk gTXQ)
  · exact State.distPages_stores _ hk gTXQ
  · exact State.setDist_stores _ (State.imgSend_stores _ _ _ hk gTXQ)
  · exact State.distRound_stores _ hk gTXQ
  · exact State.setDist_stores _ (State.imgSend_stores _ _ _ (State.put_stores _ _ _ hk) gTXQ)
  · exact StSame.ite (fun _ => State.setDist_stores _ (State.put_stores _ _ _ hk)) (fun _ => hk)
  · exact State.distGroup_stores _ hk gTXQ
  · exact State.distLate_stores _ _ hk
  · exact State.distEnd_stores hk

theorem State.vsys_stores (mv : ℕ) {f : State → State} (hk : StSame R s0 s) (hf : ∀ a0, StSame R s0 a0 → StSame R s0 (f a0)) : StSame R s0 (State.vsys s mv f) := by
  unfold State.vsys
  extract_lets -merge -underBinder +onlyGivenNames x0 x1
  have hx1 : StSame R s0 x1 := StSame.mk' hk
  try clear_value x1
  refine StSame.ite (fun _ => ?_) (fun _ => ?_)
  · refine hf _ ?_
    exact hx1
  · exact hx1

theorem State.setSrc_stores (src : ℕ) (hk : StSame R s0 s) : StSame R s0 (State.setSrc s src) := by
  unfold State.setSrc
  exact State.raise_stores _ _ (State.put_stores _ _ _ hk)

theorem State.modeKey_stores (key : BitVec 16) (m : ℕ) (hk : StSame R s0 s) : StSame R s0 (State.modeKey s key m) := by
  unfold State.modeKey
  exact State.keyCmd_stores _ _ _ hk (fun _ h0 => State.modeReq_stores _ h0)

theorem State.zeroChain_stores (src : ℕ) (n : Port) (hk : StSame R s0 s) : StSame R s0 (State.zeroChain s src n) := by
  unfold State.zeroChain
  extract_lets -merge -underBinder +onlyGivenNames x0 x1
  have hx1 : StSame R s0 x1 := StSame.ite (fun _ => State.put_stores _ _ _ hk) (fun _ => hk)
  try clear_value x1
  exact StSame.mk' hx1

theorem State.watchSample_stores (n : Port) (mv1 : ℕ) (mv2 : ℕ) (hk : StSame R s0 s) : StSame R s0 (State.watchSample s n mv1 mv2).1 := by
  unfold State.watchSample
  extract_lets -merge -underBinder +onlyGivenNames x0 x1
  have hx1 : StSame R s0 x1 := State.lineShow_stores _ (State.ccStore_stores _ _ _ hk)
  try clear_value x1
  extract_lets -merge -underBinder +onlyGivenNames x2
  refine StSame.mkFst ?_
  exact State.modCc_stores _ _ hx1

theorem State.watchAll_stores (l : List (Port × ℕ × ℕ)) (hk : StSame R s0 s) : StSame R s0 (State.watchAll s l).1 := by
  induction l generalizing s with
  | nil => exact hk
  | cons c l ih =>
    simp only [State.watchAll]
    exact ih (State.watchSample_stores _ _ _ hk)

theorem State.watchWait_stores (n : Port) (mv1 : ℕ) (mv2 : ℕ) (hk : StSame R s0 s) (gPD : ∀ x, 0x4000 * n.val ≤ x → x < 0x4000 * n.val + 0x4000 → R x) (gDESC : ∀ x, 0xC0000 ≤ x → x < 0xD0000 → R x) (gSNAP : ∀ x, 0x100000 + 32 * n.val ≤ x → x < 0x100020 + 32 * n.val → R x) : StSame R s0 (State.watchWait s n mv1 mv2) := by
  unfold State.watchWait
  extract_lets -merge -underBinder +onlyGivenNames x0 x1
  have hx1 : StSame R s0 x1 := State.lineShow_stores _ (StSame.ite (fun _ => hk) (fun _ => State.ccStore_stores _ _ _ hk))
  try clear_value x1
  refine StSame.ite (fun _ => ?_) (fun _ => ?_)
  · split
    · exact State.modCc_stores _ _ (State.ccEnter_stores _ _ hx1 gPD gDESC gSNAP)
    · exact State.modCc_stores _ _ (State.ccEnter_stores _ _ hx1 gPD gDESC gSNAP)
    · exact hx1
  · exact hx1

theorem State.dozeTick_stores (hk : StSame R s0 s) : StSame R s0 (State.dozeTick s) := by
  unfold State.dozeTick
  extract_lets -merge -underBinder +onlyGivenNames x0
  exact StSame.ite (fun _ => StSame.ite (fun _ => hk) (fun _ => State.put_stores _ _ _ hk)) (fun _ => StSame.ite (fun _ => State.put_stores _ _ _ hk) (fun _ => hk))

theorem State.modMains_stores (f : MainsSt → MainsSt) (hk : StSame R s0 s) : StSame R s0 (State.modMains s f) := by
  unfold State.modMains
  exact StSame.mk' hk

theorem State.mainsBudget_stores (hk : StSame R s0 s) : StSame R s0 (State.mainsBudget s) := by
  unfold State.mainsBudget
  extract_lets -merge -underBinder +onlyGivenNames x0
  exact State.put_stores _ _ _ hk

theorem State.mainsLine_stores (st : ℕ) (hk : StSame R s0 s) : StSame R s0 (State.mainsLine s st) := by
  unfold State.mainsLine
  extract_lets -merge -underBinder +onlyGivenNames x0
  have hx0 : StSame R s0 x0 := State.raise_stores _ _ (State.put_stores _ _ _ hk)
  try clear_value x0
  extract_lets -merge -underBinder +onlyGivenNames x1
  have hx1 : StSame R s0 x1 := by
    unfold x1
    split
    · exact State.raise_stores _ _ hx0
    · exact State.raise_stores _ _ hx0
    · exact State.raise_stores _ _ hx0
    · exact hx0
  try clear_value x1
  exact StSame.ite (fun _ => State.mainsBudget_stores hk) (fun _ => State.mainsBudget_stores hx1)

theorem State.mainsShow_stores (hk : StSame R s0 s) : StSame R s0 (State.mainsShow s) := by
  unfold State.mainsShow
  extract_lets -merge -underBinder +onlyGivenNames x0 x1
  have hx1 : StSame R s0 x1 := State.put_stores _ _ _ (State.put_stores _ _ _ (State.put_stores _ _ _ hk))
  try clear_value x1
  extract_lets -merge -underBinder +onlyGivenNames x2
  have hx2 : StSame R s0 x2 := State.bump_stores _ _ _ (State.putB_stores _ _ _ hx1)
  try clear_value x2
  exact StSame.ite (fun _ => hk) (fun _ => State.mainsLine_stores _ (State.modMains_stores _ hx2))

theorem State.scrubCheck_stores (wrong : BitVec 4) (hk : StSame R s0 s) : StSame R s0 (State.scrubCheck s wrong) := by
  unfold State.scrubCheck
  extract_lets -merge -underBinder +onlyGivenNames x0
  split
  · exact hk
  · extract_lets -merge -underBinder +onlyGivenNames x1
    extract_lets -merge -underBinder +onlyGivenNames x2 x3
    have hx3 : StSame R s0 x3 := foldl_stores _ hk (fun _ _ _ h4 => StSame.ite (fun _ => State.stSpoil_stores _ h4) (fun _ => h4))
    try clear_value x3
    extract_lets -merge -underBinder +onlyGivenNames x5
    have hx5 : StSame R s0 x5 := StSame.ite (fun _ => State.storeParity_stores _ _ hx3) (fun _ => hx3)
    try clear_value x5
    extract_lets -merge -underBinder +onlyGivenNames x6 x7 x8
    have hx8 : StSame R s0 x8 := StSame.mk' hx5
    try clear_value x8
    extract_lets -merge -underBinder +onlyGivenNames x9 x10
    have hx10 : StSame R s0 x10 := StSame.mk' hx8
    try clear_value x10
    exact StSame.ite (fun _ => State.put_stores _ _ _ hx8) (fun _ => State.raise_stores _ _ (State.incr_stores _ _ (State.put_stores _ _ _ hx10)))

theorem State.rewriteTest_stores (same : Bool) (hk : StSame R s0 s) : StSame R s0 (State.rewriteTest s same) := by
  unfold State.rewriteTest
  split
  · exact hk
  · extract_lets -merge -underBinder +onlyGivenNames x0
    extract_lets -merge -underBinder +onlyGivenNames x1
    have hx1 : StSame R s0 x1 := StSame.mk' hk
    try clear_value x1
    exact StSame.ite (fun _ => hx1) (fun _ => State.bankFaulty_stores _ hx1)

theorem State.eraseSecrets_stores (hk : StSame R s0 s) (gAOS : ∀ x, 0x100100 ≤ x → R x) : StSame R s0 (State.eraseSecrets s) := by
  unfold State.eraseSecrets
  extract_lets -merge -underBinder +onlyGivenNames x0
  have hx0 : StSame R s0 x0 := State.nvdErasePage_stores _ (State.nvdErasePage_stores _ hk)
  try clear_value x0
  extract_lets -merge -underBinder +onlyGivenNames x1
  have hx1 : StSame R s0 x1 := hx0.aosFilter fun x h => gAOS x (by unfold aosFree at h; omega)
  try clear_value x1
  exact foldl_stores _ hx1 (fun _ _ _ h2 => State.wr_stores _ _ _ (State.wr_stores _ _ _ h2))

theorem State.dbgTo_stores (d : DbgState) (hk : StSame R s0 s) : StSame R s0 (State.dbgTo s d) := by
  unfold State.dbgTo
  exact StSame.mk' hk

theorem State.dbgChecked_stores (code : ℕ) (hk : StSame R s0 s) : StSame R s0 (State.dbgChecked s code) := by
  unfold State.dbgChecked
  exact State.put_stores _ _ _ (StSame.mk' hk)

theorem State.dbgVerdict_stores (code : ℕ) (hk : StSame R s0 s) : StSame R s0 (State.dbgVerdict s code) := by
  unfold State.dbgVerdict
  exact StSame.ite (fun _ => State.raise_stores _ _ (State.tokFail_stores (State.dbgChecked_stores _ hk))) (fun _ => State.dbgTo_stores _ (State.bootDecide_stores _ (State.dbgChecked_stores _ hk)))

theorem State.dbgErased_stores (hk : StSame R s0 s) (gAOS : ∀ x, 0x100100 ≤ x → R x) : StSame R s0 (State.dbgErased s) := by
  unfold State.dbgErased
  exact State.dbgTo_stores _ (State.raise_stores _ _ (State.bootWrite_stores _ (State.eraseSecrets_stores hk gAOS)))

theorem State.boardPad_stores (i : Fin 8) (level : Option Bool) (hk : StSame R s0 s) : StSame R s0 (State.boardPad s i level) := by
  unfold State.boardPad
  exact StSame.mk' hk

theorem State.bootSupply_stores (src : ℕ) (ext : Bool) (hk : StSame R s0 s) : StSame R s0 (State.bootSupply s src ext) := by
  unfold State.bootSupply
  extract_lets -merge -underBinder +onlyGivenNames x0
  have hx0 : StSame R s0 x0 := State.put_stores _ _ _ hk
  try clear_value x0
  extract_lets -merge -underBinder +onlyGivenNames x1
  have hx1 : StSame R s0 x1 := State.putB_stores _ _ _ hx0
  try clear_value x1
  extract_lets -merge -underBinder +onlyGivenNames x2
  have hx2 : StSame R s0 x2 := State.putB_stores _ _ _ hx1
  try clear_value x2
  extract_lets -merge -underBinder +onlyGivenNames x3
  have hx3 : StSame R s0 x3 := State.putB_stores _ _ _ (State.putB_stores _ _ _ hx2)
  try clear_value x3
  extract_lets -merge -underBinder +onlyGivenNames x4
  have hx4 : StSame R s0 x4 := State.putB_stores _ _ _ hx3
  try clear_value x4
  extract_lets -merge -underBinder +onlyGivenNames x5
  have hx5 : StSame R s0 x5 := State.put_stores _ _ _ (State.put_stores _ _ _ hx4)
  try clear_value x5
  exact State.put_stores _ _ _ (State.putB_stores _ _ _ hx5)

theorem State.bootStraps_stores (role : ℕ) (ad : ℕ) (hk : StSame R s0 s) : StSame R s0 (State.bootStraps s role ad) := by
  unfold State.bootStraps
  extract_lets -merge -underBinder +onlyGivenNames x0
  have hx0 : StSame R s0 x0 := State.put_stores _ _ _ (State.put_stores _ _ _ (State.put_stores _ _ _ hk))
  try clear_value x0
  exact State.hgSolo_stores (State.putB_stores _ _ _ hx0)

theorem State.bootOtp_stores (hk : StSame R s0 s) : StSame R s0 (State.bootOtp s) := by
  unfold State.bootOtp
  extract_lets -merge -underBinder +onlyGivenNames x0 x1 x2 x3 x4 x5 x6 x7 x8
  have hx8 : StSame R s0 x8 := StSame.mk' hk
  try clear_value x8
  extract_lets -merge -underBinder +onlyGivenNames x9
  have hx9 : StSame R s0 x9 := State.put_stores _ _ _ (State.put_stores _ _ _ hx8)
  try clear_value x9
  exact State.putB_stores _ _ _ hx9

theorem State.bootIdent_stores (hk : StSame R s0 s) : StSame R s0 (State.bootIdent s) := by
  unfold State.bootIdent
  extract_lets -merge -underBinder +onlyGivenNames x0 x1 x2
  split
  · extract_lets -merge -underBinder +onlyGivenNames x3
    extract_lets -merge -underBinder +onlyGivenNames x4 x5
    have hx5 : StSame R s0 x5 := State.put_stores _ _ _ (State.put_stores _ _ _ hk)
    try clear_value x5
    extract_lets -merge -underBinder +onlyGivenNames x6
    have hx6 : StSame R s0 x6 := State.put_stores _ _ _ (State.put_stores _ _ _ hx5)
    try clear_value x6
    extract_lets -merge -underBinder +onlyGivenNames x7
    have hx7 : StSame R s0 x7 := State.put_stores _ _ _ (State.put_stores _ _ _ (State.put_stores _ _ _ hx6))
    try clear_value x7
    extract_lets -merge -underBinder +onlyGivenNames x8
    have hx8 : StSame R s0 x8 := State.put_stores _ _ _ (State.put_stores _ _ _ hx7)
    try clear_value x8
    extract_lets -merge -underBinder +onlyGivenNames x9
    have hx9 : StSame R s0 x9 := State.putB_stores _ _ _ (State.put_stores _ _ _ hx8)
    try clear_value x9
    exact State.putB_stores _ _ _ (State.putB_stores _ _ _ hx9)

theorem State.bootErase_stores (hk : StSame R s0 s) (gAOS : ∀ x, 0x100100 ≤ x → R x) : StSame R s0 (State.bootErase s) := by
  unfold State.bootErase
  exact StSame.ite (fun _ => State.bootWrite_stores _ (State.eraseSecrets_stores hk gAOS)) (fun _ => hk)

theorem State.aonApply_stores (hk : StSame R s0 s) : StSame R s0 (State.aonApply s) := by
  unfold State.aonApply
  extract_lets -merge -underBinder +onlyGivenNames x0
  have hx0 : ∀ a0 a1 a2, StSame R s0 a0 → StSame R s0 (x0 a0 a1 a2) := by
    intro s1_0 s1_1 s1_2 hs1_1
    unfold x0
    beta_reduce
    exact StSame.mk' hs1_1
  try clear_value x0
  extract_lets -merge -underBinder +onlyGivenNames x2
  have hx2 : StSame R s0 x2 := by
    unfold x2
    refine hx0 _ _ _ ?_
    exact hk
  try clear_value x2
  refine State.forPorts_stores ?_ ?_
  · exact hx2
  · intro s3_0 s3_1 hs3_1
    extract_lets -merge -underBinder +onlyGivenNames x4
    have hx4 : StSame R s0 x4 := by
      unfold x4
      refine foldl_stores _ ?_ ?_
      · exact hs3_1
      · intro s5_0 s5_1 hm hs5_1
        refine hx0 _ _ _ ?_
        exact hs5_1
    try clear_value x4
    refine foldl_stores _ ?_ ?_
    · exact hx4
    · intro s6_0 s6_1 hm hs6_1
      refine hx0 _ _ _ ?_
      exact hs6_1

theorem State.rampOkTick_stores (hk : StSame R s0 s) : StSame R s0 (State.rampOkTick s) := by
  unfold State.rampOkTick
  extract_lets -merge -underBinder +onlyGivenNames x0
  exact StSame.ite (fun _ => State.put_stores _ _ _ hk) (fun _ => hk)

theorem State.tickOut_stores (hk : StSame R s0 s) : StSame R s0 (State.tickOut s) := by
  unfold State.tickOut
  extract_lets -merge -underBinder +onlyGivenNames x0 x1 x2 x3 x4
  have hx4 : StSame R s0 x4 := StSame.mk' hk
  try clear_value x4
  exact State.gpioWatch_stores (StSame.ite (fun _ => hx4) (fun _ => State.raiseBits_stores _ _ hx4))

theorem State.portsTick_stores (v : Port → List ℕ) (trips : Bool) (hk : StSame R s0 s) (gDESC : ∀ x, 0xC0000 ≤ x → x < 0xD0000 → R x) (gSNAP : ∀ (m : Port) x, 0x100000 + 32 * m.val ≤ x → x < 0x100020 + 32 * m.val → R x) (gPD : ∀ (m : Port) x, 0x4000 * m.val ≤ x → x < 0x4000 * m.val + 0x4000 → R x) : StSame R s0 (State.portsTick s v trips) := by
  unfold State.portsTick
  extract_lets -merge -underBinder +onlyGivenNames x0
  have hx0 : StSame R s0 x0 := StSame.ite (fun _ => State.forPorts_stores hk (fun _ _ h1 => StSame.ite (fun _ => State.slowTrips_stores _ _ _ h1 gDESC (gSNAP _) (gPD _)) (fun _ => h1))) (fun _ => hk)
  try clear_value x0
  extract_lets -merge -underBinder +onlyGivenNames x2
  have hx2 : StSame R s0 x2 := State.aonApply_stores hx0
  try clear_value x2
  refine State.forPorts_stores ?_ ?_
  · exact hx2
  · intro s3_0 s3_1 hs3_1
    extract_lets -merge -underBinder +onlyGivenNames x4 x5
    have hx5 : StSame R s0 x5 := State.transStep_stores _ _ (State.polTick_stores _ (State.ccTick_stores _ hs3_1 (gPD _) gDESC (gSNAP _)) (gSNAP _) gDESC (gPD _))
    try clear_value x5
    extract_lets -merge -underBinder +onlyGivenNames x6
    exact State.guardTick_stores _ (State.windowTick_stores _ _ hx5)

theorem State.motnTick_stores (high : Bool) (hk : StSame R s0 s) : StSame R s0 (State.motnTick s high) := by
  unfold State.motnTick
  exact StSame.mk' hk

theorem State.countTick_stores (hk : StSame R s0 s) : StSame R s0 (State.countTick s) := by
  unfold State.countTick
  extract_lets -merge -underBinder +onlyGivenNames x0
  have hx0 : StSame R s0 x0 := State.put_stores _ _ _ (State.setTick_stores _ hk)
  try clear_value x0
  exact State.raiseIf_stores _ _ _ hx0

theorem State.blocksDone_stores (hk : StSame R s0 s) : StSame R s0 (State.blocksDone s) := by
  unfold State.blocksDone
  exact foldl_stores _ hk (fun _ _ _ h0 => State.blockDone_stores _ h0)

end Sys2Proof.Machine
end

