-- ==== Sys2Proof/Laws/StoredCmds.lean ====
section
/-!
SUPPORT. The bytes of the central store each command can change: outside the ranges that its hypotheses name, the store is as before. Commands that can write any byte (bundles, host store windows, wake-ups) have no lemma.
-/

set_option Elab.async false

namespace Sys2Proof.Machine

variable {R : Nat → Prop} {s : State}

theorem execReceiveFrame_stores (n : Port) (f : PdFrame) (gPD : ∀ x, 0x4000 * n.val ≤ x → x < 0x4000 * n.val + 0x4000 → R x) (gDESC : ∀ x, 0xC0000 ≤ x → x < 0xD0000 → R x) (gSNAP : ∀ x, 0x100000 + 32 * n.val ≤ x → x < 0x100020 + 32 * n.val → R x) : Stores R s (execReceiveFrame n f s) := by
  have hk : StSame R s s := StSame.refl _ _
  unfold execReceiveFrame
  refine Stores.next ?_
  exact State.cmd_stores _ hk (fun _ h0 => State.rxFrame_stores _ _ h0 gPD gDESC gSNAP)

theorem execSendGoodcrc_stores (n : Port) : Stores R s (execSendGoodcrc n s) := by
  have hk : StSame R s s := StSame.refl _ _
  unfold execSendGoodcrc
  refine Stores.next ?_
  refine State.cmd_stores _ ?_ ?_
  · exact hk
  · intro s0_0 hs0_1
    split
    · exact hs0_1
    · extract_lets -merge -underBinder +onlyGivenNames x1
      exact State.modPdl_stores _ _ (StSame.ite (fun _ => State.lineOut_stores _ _ _ hs0_1) (fun _ => hs0_1))

theorem execAutoAnswer_stores (n : Port) (gPD : ∀ x, 0x4000 * n.val ≤ x → x < 0x4000 * n.val + 0x4000 → R x) (gDESC : ∀ x, 0xC0000 ≤ x → x < 0xD0000 → R x) : Stores R s (execAutoAnswer n s) := by
  have hk : StSame R s s := StSame.refl _ _
  unfold execAutoAnswer
  refine Stores.next ?_
  refine State.cmd_stores _ ?_ ?_
  · exact hk
  · intro s0_0 hs0_1
    refine StSame.ite (fun _ => ?_) (fun _ => ?_)
    · exact hs0_1
    · split
      · exact State.layerSend_stores _ _ _ hs0_1 gPD gDESC
      · exact hs0_1

theorem execTxReq_stores (n : Port) (i : Fin 16) (gPD : ∀ x, 0x4000 * n.val ≤ x → x < 0x4000 * n.val + 0x4000 → R x) : Stores R s (execTxReq n i s) := by
  have hk : StSame R s s := StSame.refl _ _
  unfold execTxReq
  refine Stores.next ?_
  exact State.cmd_stores _ hk (fun _ h0 => State.txReq_stores _ _ h0 gPD)

theorem execTxHeadCheck_stores (n : Port) (gPD : ∀ x, 0x4000 * n.val ≤ x → x < 0x4000 * n.val + 0x4000 → R x) (gDESC : ∀ x, 0xC0000 ≤ x → x < 0xD0000 → R x) : Stores R s (execTxHeadCheck n s) := by
  have hk : StSame R s s := StSame.refl _ _
  unfold execTxHeadCheck
  refine Stores.next ?_
  exact State.cmd_stores _ hk (fun _ h0 => State.txCheck_stores _ h0 gPD gDESC)

theorem execCollisionHoldEnd_stores (n : Port) (gPD : ∀ x, 0x4000 * n.val ≤ x → x < 0x4000 * n.val + 0x4000 → R x) (gDESC : ∀ x, 0xC0000 ≤ x → x < 0xD0000 → R x) : Stores R s (execCollisionHoldEnd n s) := by
  have hk : StSame R s s := StSame.refl _ _
  unfold execCollisionHoldEnd
  refine Stores.next ?_
  refine State.cmd_stores _ ?_ ?_
  · exact hk
  · intro s0_0 hs0_1
    extract_lets -merge -underBinder +onlyGivenNames x1
    have hx1 : StSame R s x1 := State.modPdl_stores _ _ hs0_1
    try clear_value x1
    exact StSame.ite (fun _ => StSame.ite (fun _ => State.txSend_stores _ hx1 gPD gDESC) (fun _ => hx1)) (fun _ => hs0_1)

theorem execTransmitFrame_stores (n : Port) (gPD : ∀ x, 0x4000 * n.val ≤ x → x < 0x4000 * n.val + 0x4000 → R x) (gDESC : ∀ x, 0xC0000 ≤ x → x < 0xD0000 → R x) : Stores R s (execTransmitFrame n s) := by
  have hk : StSame R s s := StSame.refl _ _
  unfold execTransmitFrame
  refine Stores.next ?_
  exact State.cmd_stores _ hk (fun _ h0 => State.txNext_stores _ h0 gPD gDESC)

theorem execGoodcrcTimeout_stores (n : Port) (gPD : ∀ x, 0x4000 * n.val ≤ x → x < 0x4000 * n.val + 0x4000 → R x) (gDESC : ∀ x, 0xC0000 ≤ x → x < 0xD0000 → R x) : Stores R s (execGoodcrcTimeout n s) := by
  have hk : StSame R s s := StSame.refl _ _
  unfold execGoodcrcTimeout
  refine Stores.next ?_
  exact State.cmd_stores _ hk (fun _ h0 => State.gcrcTimeout_stores _ h0 gPD gDESC)

theorem execChunkRequestSend_stores (n : Port) (gPD : ∀ x, 0x4000 * n.val ≤ x → x < 0x4000 * n.val + 0x4000 → R x) (gDESC : ∀ x, 0xC0000 ≤ x → x < 0xD0000 → R x) : Stores R s (execChunkRequestSend n s) := by
  have hk : StSame R s s := StSame.refl _ _
  unfold execChunkRequestSend
  refine Stores.next ?_
  refine State.cmd_stores _ ?_ ?_
  · exact hk
  · intro s0_0 hs0_1
    refine StSame.ite (fun _ => ?_) (fun _ => ?_)
    · exact hs0_1
    · split
      · exact hs0_1
      · extract_lets -merge -underBinder +onlyGivenNames x1
        extract_lets -merge -underBinder +onlyGivenNames x2 x3
        exact State.layerSend_stores _ _ _ (State.reasmSet_stores _ _ hs0_1) gPD gDESC

theorem execChunkWaitTimeout_stores (n : Port) (gPD : ∀ x, 0x4000 * n.val ≤ x → x < 0x4000 * n.val + 0x4000 → R x) (gDESC : ∀ x, 0xC0000 ≤ x → x < 0xD0000 → R x) : Stores R s (execChunkWaitTimeout n s) := by
  have hk : StSame R s s := StSame.refl _ _
  unfold execChunkWaitTimeout
  refine Stores.next ?_
  refine State.cmd_stores _ ?_ ?_
  · exact hk
  · intro s0_0 hs0_1
    split
    · exact State.reasmAbort_stores _ _ _ hs0_1 gPD gDESC
    · split
      · exact StSame.ite (fun _ => State.txOver_stores _ _ _ hs0_1 gPD gDESC) (fun _ => hs0_1)
      · exact hs0_1

theorem execPdlCmdHardReset_stores (n : Port) (key : BitVec 16) (gPD : ∀ x, 0x4000 * n.val ≤ x → x < 0x4000 * n.val + 0x4000 → R x) (gDESC : ∀ x, 0xC0000 ≤ x → x < 0xD0000 → R x) : Stores R s (execPdlCmdHardReset n key s) := by
  have hk : StSame R s s := StSame.refl _ _
  unfold execPdlCmdHardReset
  refine Stores.next ?_
  exact State.keyCmd_stores _ _ _ hk (fun _ h0 => State.hardResetStart_stores _ h0 gPD gDESC)

theorem execHardResetSent_stores (n : Port) (gPD : ∀ x, 0x4000 * n.val ≤ x → x < 0x4000 * n.val + 0x4000 → R x) (gDESC : ∀ x, 0xC0000 ≤ x → x < 0xD0000 → R x) (gSNAP : ∀ x, 0x100000 + 32 * n.val ≤ x → x < 0x100020 + 32 * n.val → R x) : Stores R s (execHardResetSent n s) := by
  have hk : StSame R s s := StSame.refl _ _
  unfold execHardResetSent
  refine Stores.next ?_
  exact State.cmd_stores _ hk (fun _ h0 => StSame.ite (fun _ => State.hardReset_stores _ _ (State.lineOut_stores _ _ _ h0) gPD gDESC gSNAP) (fun _ => h0))

theorem execHardResetReceived_stores (n : Port) (gPD : ∀ x, 0x4000 * n.val ≤ x → x < 0x4000 * n.val + 0x4000 → R x) (gDESC : ∀ x, 0xC0000 ≤ x → x < 0xD0000 → R x) (gSNAP : ∀ x, 0x100000 + 32 * n.val ≤ x → x < 0x100020 + 32 * n.val → R x) : Stores R s (execHardResetReceived n s) := by
  have hk : StSame R s s := StSame.refl _ _
  unfold execHardResetReceived
  refine Stores.next ?_
  exact State.cmd_stores _ hk (fun _ h0 => StSame.ite (fun _ => State.hardReset_stores _ _ h0 gPD gDESC gSNAP) (fun _ => h0))

theorem execPdlCmdCableReset_stores (n : Port) (key : BitVec 16) (gPD : ∀ x, 0x4000 * n.val ≤ x → x < 0x4000 * n.val + 0x4000 → R x) (gDESC : ∀ x, 0xC0000 ≤ x → x < 0xD0000 → R x) : Stores R s (execPdlCmdCableReset n key s) := by
  have hk : StSame R s s := StSame.refl _ _
  unfold execPdlCmdCableReset
  refine Stores.next ?_
  exact State.keyCmd_stores _ _ _ hk (fun _ h0 => State.cableReset_stores _ h0 gPD gDESC)

theorem execPdlCmdAmsEnd_stores (n : Port) (key : BitVec 16) : Stores R s (execPdlCmdAmsEnd n key s) := by
  have hk : StSame R s s := StSame.refl _ _
  unfold execPdlCmdAmsEnd
  refine Stores.next ?_
  exact State.keyCmd_stores _ _ _ hk (fun _ h0 => State.amsEnd_stores _ h0)

theorem execPdlCmdHrComplete_stores (n : Port) (key : BitVec 16) : Stores R s (execPdlCmdHrComplete n key s) := by
  have hk : StSame R s s := StSame.refl _ _
  unfold execPdlCmdHrComplete
  refine Stores.next ?_
  exact State.keyCmd_stores _ _ _ hk (fun _ h0 => State.put_stores _ _ _ h0)

theorem execPdlCmdCancel_stores (n : Port) (key : BitVec 16) (gPD : ∀ x, 0x4000 * n.val ≤ x → x < 0x4000 * n.val + 0x4000 → R x) (gDESC : ∀ x, 0xC0000 ≤ x → x < 0xD0000 → R x) : Stores R s (execPdlCmdCancel n key s) := by
  have hk : StSame R s s := StSame.refl _ _
  unfold execPdlCmdCancel
  refine Stores.next ?_
  exact State.keyCmd_stores _ _ _ hk (fun _ h0 => State.txCancel_stores _ h0 gPD gDESC)

theorem execPdlCmdClearStats_stores (n : Port) (key : BitVec 16) : Stores R s (execPdlCmdClearStats n key s) := by
  have hk : StSame R s s := StSame.refl _ _
  unfold execPdlCmdClearStats
  refine Stores.next ?_
  exact State.keyCmd_stores _ _ _ hk (fun _ h0 => State.pdlClearStats_stores _ h0)

theorem execMsgidLoad_stores (n : Port) (v : Word) : Stores R s (execMsgidLoad n v s) := by
  have hk : StSame R s s := StSame.refl _ _
  unfold execMsgidLoad
  refine Stores.next ?_
  exact State.cmd_stores _ hk (fun _ h0 => State.msgidLoad_stores _ _ h0)

theorem execPdlEnableWrite_stores (n : Port) (on : Bool) (gPD : ∀ x, 0x4000 * n.val ≤ x → x < 0x4000 * n.val + 0x4000 → R x) (gDESC : ∀ x, 0xC0000 ≤ x → x < 0xD0000 → R x) : Stores R s (execPdlEnableWrite n on s) := by
  have hk : StSame R s s := StSame.refl _ _
  unfold execPdlEnableWrite
  refine Stores.next ?_
  exact State.cmd_stores _ hk (fun _ h0 => State.pdlEnable_stores _ _ h0 gPD gDESC)

theorem execXbufRel_stores (n : Port) (m : BitVec 4) : Stores R s (execXbufRel n m s) := by
  have hk : StSame R s s := StSame.refl _ _
  unfold execXbufRel
  refine Stores.next ?_
  exact State.cmd_stores _ hk (fun _ h0 => State.xbufRel_stores _ _ h0)

theorem execRxRdWrite_stores (n : Port) (i : BitVec 6) : Stores R s (execRxRdWrite n i s) := by
  have hk : StSame R s s := StSame.refl _ _
  unfold execRxRdWrite
  refine Stores.next ?_
  exact State.cmd_stores _ hk (fun _ h0 => State.put_stores _ _ _ h0)

theorem execBistCarrierEnd_stores (n : Port) : Stores R s (execBistCarrierEnd n s) := by
  have hk : StSame R s s := StSame.refl _ _
  unfold execBistCarrierEnd
  refine Stores.next ?_
  exact State.cmd_stores _ hk (fun _ h0 => State.modPdl_stores _ _ h0)

theorem execConCommit_stores (n : Port) (gen : BitVec 8) : Stores R s (execConCommit n gen s) := by
  have hk : StSame R s s := StSame.refl _ _
  unfold execConCommit
  refine Stores.next ?_
  exact State.cmd_stores _ hk (fun _ h0 => State.polQueue_stores _ _ h0)

theorem execConClear_stores (n : Port) (gen : BitVec 8) : Stores R s (execConClear n gen s) := by
  have hk : StSame R s s := StSame.refl _ _
  unfold execConClear
  refine Stores.next ?_
  exact State.cmd_stores _ hk (fun _ h0 => State.polQueue_stores _ _ h0)

theorem execTransGo_stores (n : Port) (vNew : BitVec 12) (gen : BitVec 8) : Stores R s (execTransGo n vNew gen s) := by
  have hk : StSame R s s := StSame.refl _ _
  unfold execTransGo
  refine Stores.next ?_
  exact State.cmd_stores _ hk (fun _ h0 => State.polQueue_stores _ _ h0)

theorem execTransitionStart_stores (n : Port) : Stores R s (execTransitionStart n s) := by
  have hk : StSame R s s := StSame.refl _ _
  unfold execTransitionStart
  refine Stores.next ?_
  extract_lets -merge -underBinder +onlyGivenNames x0 x1 x2 x3
  have hx3 : StSame R s x3 := State.modPol_stores _ _ (State.put_stores _ _ _ hk)
  try clear_value x3
  extract_lets -merge -underBinder +onlyGivenNames x4
  have hx4 : StSame R s x4 := State.windowTick_stores _ _ (State.setTarget_stores _ _ hx3)
  try clear_value x4
  exact StSame.ite (fun _ => StSame.ite (fun _ => State.dschOn_stores _ _ _ (State.put_stores _ _ _ hx4)) (fun _ => hx4)) (fun _ => hk)

theorem execTransDone_stores (n : Port) (gDESC : ∀ x, 0xC0000 ≤ x → x < 0xD0000 → R x) (gPD : ∀ x, 0x4000 * n.val ≤ x → x < 0x4000 * n.val + 0x4000 → R x) : Stores R s (execTransDone n s) := by
  have hk : StSame R s s := StSame.refl _ _
  unfold execTransDone
  refine Stores.next ?_
  extract_lets -merge -underBinder +onlyGivenNames x0 x1 x2
  have hx2 : StSame R s x2 := State.assistEnd_stores _ (State.put_stores _ _ _ hk)
  try clear_value x2
  extract_lets -merge -underBinder +onlyGivenNames x3
  have hx3 : StSame R s x3 := State.windowTick_stores _ _ hx2
  try clear_value x3
  extract_lets -merge -underBinder +onlyGivenNames x4
  have hx4 : StSame R s x4 := State.modGuard_stores _ _ hx3
  try clear_value x4
  extract_lets -merge -underBinder +onlyGivenNames x5
  have hx5 : StSame R s x5 := State.polEvt_stores _ _ hx4 gDESC
  try clear_value x5
  exact StSame.ite (fun _ => StSame.ite (fun _ => State.fwSendFor_stores _ _ _ _ _ _ hx5 gPD) (fun _ => hx5)) (fun _ => hk)

theorem execTransFail_stores (n : Port) (gDESC : ∀ x, 0xC0000 ≤ x → x < 0xD0000 → R x) (gSNAP : ∀ x, 0x100000 + 32 * n.val ≤ x → x < 0x100020 + 32 * n.val → R x) (gPD : ∀ x, 0x4000 * n.val ≤ x → x < 0x4000 * n.val + 0x4000 → R x) : Stores R s (execTransFail n s) := by
  have hk : StSame R s s := StSame.refl _ _
  unfold execTransFail
  refine Stores.next ?_
  extract_lets -merge -underBinder +onlyGivenNames x0
  exact StSame.ite (fun _ => State.transFail_stores _ hk gDESC gSNAP gPD) (fun _ => hk)

theorem execRoleCmd_stores (n : Port) (dfp : Bool) (gen : BitVec 8) : Stores R s (execRoleCmd n dfp gen s) := by
  have hk : StSame R s s := StSame.refl _ _
  unfold execRoleCmd
  refine Stores.next ?_
  exact State.cmd_stores _ hk (fun _ h0 => State.polQueue_stores _ _ h0)

theorem execHrWaitExpiry_stores (n : Port) : Stores R s (execHrWaitExpiry n s) := by
  have hk : StSame R s s := StSame.refl _ _
  unfold execHrWaitExpiry
  refine Stores.next ?_
  extract_lets -merge -underBinder +onlyGivenNames x0
  have hx0 : StSame R s x0 := State.setTarget_stores _ _ (State.dschOn_stores _ _ _ (State.guardOff_stores _ hk))
  try clear_value x0
  extract_lets -merge -underBinder +onlyGivenNames x1
  have hx1 : StSame R s x1 := State.vconnOff_stores _ (State.setWin_stores _ _ _ hx0)
  try clear_value x1
  exact StSame.ite (fun _ => State.put_stores _ _ _ hx1) (fun _ => hk)

theorem execHrVsafe0_stores (n : Port) (mv : ℕ) (gDESC : ∀ x, 0xC0000 ≤ x → x < 0xD0000 → R x) : Stores R s (execHrVsafe0 n mv s) := by
  have hk : StSame R s s := StSame.refl _ _
  unfold execHrVsafe0
  refine Stores.next ?_
  extract_lets -merge -underBinder +onlyGivenNames x0
  have hx0 : StSame R s x0 := State.setVbus_stores _ _ hk
  try clear_value x0
  extract_lets -merge -underBinder +onlyGivenNames x1
  exact StSame.ite (fun _ => State.polEvt_stores _ _ (State.modPol_stores _ _ (State.put_stores _ _ _ (State.dschOff_stores _ hx0))) gDESC) (fun _ => hx0)

theorem execHrRecoverExpiry_stores (n : Port) : Stores R s (execHrRecoverExpiry n s) := by
  have hk : StSame R s s := StSame.refl _ _
  unfold execHrRecoverExpiry
  refine Stores.next ?_
  exact StSame.ite (fun _ => State.modCc_stores _ _ (State.put_stores _ _ _ hk)) (fun _ => hk)

theorem execFoldback_stores (n : Port) (active : Bool) : Stores R s (execFoldback n active s) := by
  have hk : StSame R s s := StSame.refl _ _
  unfold execFoldback
  refine Stores.next ?_
  exact StSame.ite (fun _ => State.putB_stores _ _ _ hk) (fun _ => hk)

theorem execSoaTimeout_stores (n : Port) (gDESC : ∀ x, 0xC0000 ≤ x → x < 0xD0000 → R x) (gSNAP : ∀ x, 0x100000 + 32 * n.val ≤ x → x < 0x100020 + 32 * n.val → R x) (gPD : ∀ x, 0x4000 * n.val ≤ x → x < 0x4000 * n.val + 0x4000 → R x) : Stores R s (execSoaTimeout n s) := by
  have hk : StSame R s s := StSame.refl _ _
  unfold execSoaTimeout
  refine Stores.next ?_
  exact StSame.ite (fun _ => State.trip_stores _ _ _ hk gDESC gSNAP gPD) (fun _ => hk)

theorem execRampComplete_stores (n : Port) (vbusMv : ℕ) (vinMv : ℕ) (gateMv : ℕ) (gDESC : ∀ x, 0xC0000 ≤ x → x < 0xD0000 → R x) : Stores R s (execRampComplete n vbusMv vinMv gateMv s) := by
  have hk : StSame R s s := StSame.refl _ _
  unfold execRampComplete
  refine Stores.next ?_
  extract_lets -merge -underBinder +onlyGivenNames x0
  have hx0 : StSame R s x0 := State.modPort_stores _ _ (State.setVbus_stores _ _ hk)
  try clear_value x0
  extract_lets -merge -underBinder +onlyGivenNames x1
  exact StSame.ite (fun _ => State.rampDone_stores _ hx0 gDESC) (fun _ => hx0)

theorem execRampFail_stores (n : Port) (gDESC : ∀ x, 0xC0000 ≤ x → x < 0xD0000 → R x) (gSNAP : ∀ x, 0x100000 + 32 * n.val ≤ x → x < 0x100020 + 32 * n.val → R x) (gPD : ∀ x, 0x4000 * n.val ≤ x → x < 0x4000 * n.val + 0x4000 → R x) : Stores R s (execRampFail n s) := by
  have hk : StSame R s s := StSame.refl _ _
  unfold execRampFail
  refine Stores.next ?_
  exact StSame.ite (fun _ => State.trip_stores _ _ _ hk gDESC gSNAP gPD) (fun _ => hk)

theorem execFastTrip_stores (n : Port) (sc : Bool) (ovp : Bool) (rcp : Bool) (gDESC : ∀ x, 0xC0000 ≤ x → x < 0xD0000 → R x) (gSNAP : ∀ x, 0x100000 + 32 * n.val ≤ x → x < 0x100020 + 32 * n.val → R x) (gPD : ∀ x, 0x4000 * n.val ≤ x → x < 0x4000 * n.val + 0x4000 → R x) : Stores R s (execFastTrip n sc ovp rcp s) := by
  have hk : StSame R s s := StSame.refl _ _
  unfold execFastTrip
  refine Stores.next ?_
  extract_lets -merge -underBinder +onlyGivenNames x0 x1
  exact StSame.ite (fun _ => State.trip_stores _ _ _ hk gDESC gSNAP gPD) (fun _ => hk)

theorem execUvpTrip_stores (n : Port) (gDESC : ∀ x, 0xC0000 ≤ x → x < 0xD0000 → R x) (gSNAP : ∀ x, 0x100000 + 32 * n.val ≤ x → x < 0x100020 + 32 * n.val → R x) (gPD : ∀ x, 0x4000 * n.val ≤ x → x < 0x4000 * n.val + 0x4000 → R x) : Stores R s (execUvpTrip n s) := by
  have hk : StSame R s s := StSame.refl _ _
  unfold execUvpTrip
  refine Stores.next ?_
  exact StSame.ite (fun _ => State.trip_stores _ _ _ hk gDESC gSNAP gPD) (fun _ => hk)

theorem execLimitEntry_stores (n : Port) : Stores R s (execLimitEntry n s) := by
  have hk : StSame R s s := StSame.refl _ _
  unfold execLimitEntry
  refine Stores.next ?_
  exact StSame.ite (fun _ => State.raise_stores _ _ (State.put_stores _ _ _ (State.guardTo_stores _ _ hk))) (fun _ => hk)

theorem execLimitExit_stores (n : Port) : Stores R s (execLimitExit n s) := by
  have hk : StSame R s s := StSame.refl _ _
  unfold execLimitExit
  refine Stores.next ?_
  exact StSame.ite (fun _ => State.modGuard_stores _ _ (State.guardTo_stores _ _ hk)) (fun _ => hk)

theorem execTrippedVbusLow_stores (n : Port) (mv : ℕ) : Stores R s (execTrippedVbusLow n mv s) := by
  have hk : StSame R s s := StSame.refl _ _
  unfold execTrippedVbusLow
  refine Stores.next ?_
  extract_lets -merge -underBinder +onlyGivenNames x0
  have hx0 : StSame R s x0 := State.setVbus_stores _ _ hk
  try clear_value x0
  exact StSame.ite (fun _ => State.guardTo_stores _ _ hx0) (fun _ => hx0)

theorem execBackoffExpiry_stores (n : Port) : Stores R s (execBackoffExpiry n s) := by
  have hk : StSame R s s := StSame.refl _ _
  unfold execBackoffExpiry
  refine Stores.next ?_
  exact StSame.ite (fun _ => State.backoffLeave_stores _ hk) (fun _ => hk)

theorem execBackoffStepReset_stores (n : Port) : Stores R s (execBackoffStepReset n s) := by
  have hk : StSame R s s := StSame.refl _ _
  unfold execBackoffStepReset
  refine Stores.next ?_
  exact StSame.ite (fun _ => State.modGuard_stores _ _ hk) (fun _ => hk)

theorem execShortFet_stores (n : Port) (how : Fin 3) (gPD : ∀ x, 0x4000 * n.val ≤ x → x < 0x4000 * n.val + 0x4000 → R x) (gDESC : ∀ x, 0xC0000 ≤ x → x < 0xD0000 → R x) (gSNAP : ∀ x, 0x100000 + 32 * n.val ≤ x → x < 0x100020 + 32 * n.val → R x) : Stores R s (execShortFet n how s) := by
  have hk : StSame R s s := StSame.refl _ _
  unfold execShortFet
  refine Stores.next ?_
  exact StSame.ite (fun _ => State.retire_stores _ _ (State.guardEvt_stores _ _ hk gDESC) gPD gDESC gSNAP) (fun _ => hk)

theorem execDschEnd_stores (n : Port) (mv : ℕ) (timeout : Bool) (gPD : ∀ x, 0x4000 * n.val ≤ x → x < 0x4000 * n.val + 0x4000 → R x) (gDESC : ∀ x, 0xC0000 ≤ x → x < 0xD0000 → R x) (gSNAP : ∀ x, 0x100000 + 32 * n.val ≤ x → x < 0x100020 + 32 * n.val → R x) : Stores R s (execDschEnd n mv timeout s) := by
  have hk : StSame R s s := StSame.refl _ _
  unfold execDschEnd
  refine Stores.next ?_
  extract_lets -merge -underBinder +onlyGivenNames x0
  have hx0 : StSame R s x0 := State.setVbus_stores _ _ hk
  try clear_value x0
  extract_lets -merge -underBinder +onlyGivenNames x1 x2
  have hx2 : StSame R s x2 := State.raise_stores _ _ (State.dschOff_stores _ hx0)
  try clear_value x2
  exact StSame.ite (fun _ => hx0) (fun _ => StSame.ite (fun _ => State.dschOff_stores _ hx0) (fun _ => StSame.ite (fun _ => StSame.ite (fun _ => State.retire_stores _ _ (State.guardEvt_stores _ _ hx2 gDESC) gPD gDESC gSNAP) (fun _ => hx2)) (fun _ => State.assistEnd_stores _ hx0)))

theorem execDschRest_stores (n : Port) : Stores R s (execDschRest n s) := by
  have hk : StSame R s s := StSame.refl _ _
  unfold execDschRest
  refine Stores.next ?_
  extract_lets -merge -underBinder +onlyGivenNames x0
  have hx0 : StSame R s x0 := State.modGuard_stores _ _ hk
  try clear_value x0
  exact StSame.ite (fun _ => State.raise_stores _ _ (State.put_stores _ _ _ hx0)) (fun _ => hk)

theorem execDschRestEnd_stores (n : Port) : Stores R s (execDschRestEnd n s) := by
  have hk : StSame R s s := StSame.refl _ _
  unfold execDschRestEnd
  refine Stores.next ?_
  exact StSame.ite (fun _ => State.modGuard_stores _ _ (State.put_stores _ _ _ hk)) (fun _ => hk)

theorem execSinkBlock_stores (n : Port) (gDESC : ∀ x, 0xC0000 ≤ x → x < 0xD0000 → R x) : Stores R s (execSinkBlock n s) := by
  have hk : StSame R s s := StSame.refl _ _
  unfold execSinkBlock
  refine Stores.next ?_
  extract_lets -merge -underBinder +onlyGivenNames x0 x1
  have hx1 : StSame R s x1 := State.raise_stores _ _ (State.put_stores _ _ _ hk)
  try clear_value x1
  extract_lets -merge -underBinder +onlyGivenNames x2 x3
  have hx3 : StSame R s x3 := State.modGuard_stores _ _ hx1
  try clear_value x3
  extract_lets -merge -underBinder +onlyGivenNames x4
  have hx4 : StSame R s x4 := StSame.ite (fun _ => State.shareRelease_stores _ hx3 gDESC) (fun _ => hx3)
  try clear_value x4
  extract_lets -merge -underBinder +onlyGivenNames x5
  have hx5 : StSame R s x5 := State.modGuard_stores _ _ (State.guardOff_stores _ (State.put_stores _ _ _ hx4))
  try clear_value x5
  exact StSame.ite (fun _ => StSame.ite (fun _ => StSame.ite (fun _ => State.shareEvt_stores _ hx5 gDESC) (fun _ => hx5)) (fun _ => hx4)) (fun _ => hk)

theorem execSinkReclose_stores (n : Port) (mv : ℕ) : Stores R s (execSinkReclose n mv s) := by
  have hk : StSame R s s := StSame.refl _ _
  unfold execSinkReclose
  refine Stores.next ?_
  extract_lets -merge -underBinder +onlyGivenNames x0
  have hx0 : StSame R s x0 := State.setVbus_stores _ _ hk
  try clear_value x0
  extract_lets -merge -underBinder +onlyGivenNames x1
  exact StSame.ite (fun _ => State.put_stores _ _ _ hx0) (fun _ => hx0)

theorem execGuardCmdSnkClose_stores (n : Port) (key : BitVec 16) : Stores R s (execGuardCmdSnkClose n key s) := by
  have hk : StSame R s s := StSame.refl _ _
  unfold execGuardCmdSnkClose
  refine Stores.next ?_
  exact State.keyCmd_stores _ _ _ hk (fun _ h0 => State.snkClose_stores _ h0)

theorem execGuardCmdSnkOpen_stores (n : Port) (key : BitVec 16) (gDESC : ∀ x, 0xC0000 ≤ x → x < 0xD0000 → R x) : Stores R s (execGuardCmdSnkOpen n key s) := by
  have hk : StSame R s s := StSame.refl _ _
  unfold execGuardCmdSnkOpen
  refine Stores.next ?_
  exact State.keyCmd_stores _ _ _ hk (fun _ h0 => State.snkOpen_stores _ h0 gDESC)

theorem execGuardCmdUnretire_stores (n : Port) (key : BitVec 16) (gDESC : ∀ x, 0xC0000 ≤ x → x < 0xD0000 → R x) (gPD : ∀ x, 0x4000 * n.val ≤ x → x < 0x4000 * n.val + 0x4000 → R x) (gSNAP : ∀ x, 0x100000 + 32 * n.val ≤ x → x < 0x100020 + 32 * n.val → R x) : Stores R s (execGuardCmdUnretire n key s) := by
  have hk : StSame R s s := StSame.refl _ _
  unfold execGuardCmdUnretire
  refine Stores.next ?_
  exact State.keyCmd_stores _ _ _ hk (fun _ h0 => State.unretireCmd_stores _ h0 gDESC gPD gSNAP)

theorem execGuardCmdRetire_stores (n : Port) (key : BitVec 16) (gPD : ∀ x, 0x4000 * n.val ≤ x → x < 0x4000 * n.val + 0x4000 → R x) (gDESC : ∀ x, 0xC0000 ≤ x → x < 0xD0000 → R x) (gSNAP : ∀ x, 0x100000 + 32 * n.val ≤ x → x < 0x100020 + 32 * n.val → R x) : Stores R s (execGuardCmdRetire n key s) := by
  have hk : StSame R s s := StSame.refl _ _
  unfold execGuardCmdRetire
  refine Stores.next ?_
  exact State.keyCmd_stores _ _ _ hk (fun _ h0 => State.retire_stores _ _ h0 gPD gDESC gSNAP)

theorem execCmptRetest_stores (ports : BitVec 8) (key : BitVec 16) : Stores R s (execCmptRetest ports key s) := by
  have hk : StSame R s s := StSame.refl _ _
  unfold execCmptRetest
  refine Stores.next ?_
  exact State.keyCmd_stores _ _ _ hk (fun _ h0 => State.retest_stores _ h0)

theorem execCcLineChange_stores (n : Port) (mv1 : ℕ) (mv2 : ℕ) (gPD : ∀ x, 0x4000 * n.val ≤ x → x < 0x4000 * n.val + 0x4000 → R x) (gDESC : ∀ x, 0xC0000 ≤ x → x < 0xD0000 → R x) (gSNAP : ∀ x, 0x100000 + 32 * n.val ≤ x → x < 0x100020 + 32 * n.val → R x) : Stores R s (execCcLineChange n mv1 mv2 s) := by
  have hk : StSame R s s := StSame.refl _ _
  unfold execCcLineChange
  refine Stores.next ?_
  exact State.ccLine_stores _ _ _ hk gPD gDESC gSNAP

theorem execCcDebounce_stores (n : Port) (gPD : ∀ x, 0x4000 * n.val ≤ x → x < 0x4000 * n.val + 0x4000 → R x) (gDESC : ∀ x, 0xC0000 ≤ x → x < 0xD0000 → R x) (gSNAP : ∀ x, 0x100000 + 32 * n.val ≤ x → x < 0x100020 + 32 * n.val → R x) : Stores R s (execCcDebounce n s) := by
  have hk : StSame R s s := StSame.refl _ _
  unfold execCcDebounce
  refine Stores.next ?_
  exact StSame.ite (fun _ => State.debounced_stores _ hk gPD gDESC gSNAP) (fun _ => hk)

theorem execPdDebounce_stores (n : Port) (gPD : ∀ x, 0x4000 * n.val ≤ x → x < 0x4000 * n.val + 0x4000 → R x) (gDESC : ∀ x, 0xC0000 ≤ x → x < 0xD0000 → R x) (gSNAP : ∀ x, 0x100000 + 32 * n.val ≤ x → x < 0x100020 + 32 * n.val → R x) : Stores R s (execPdDebounce n s) := by
  have hk : StSame R s s := StSame.refl _ _
  unfold execPdDebounce
  refine Stores.next ?_
  exact State.pdDebounced_stores _ hk gPD gDESC gSNAP

theorem execDrpToggle_stores (n : Port) (gPD : ∀ x, 0x4000 * n.val ≤ x → x < 0x4000 * n.val + 0x4000 → R x) (gDESC : ∀ x, 0xC0000 ≤ x → x < 0xD0000 → R x) (gSNAP : ∀ x, 0x100000 + 32 * n.val ≤ x → x < 0x100020 + 32 * n.val → R x) : Stores R s (execDrpToggle n s) := by
  have hk : StSame R s s := StSame.refl _ _
  unfold execDrpToggle
  refine Stores.next ?_
  split
  · exact StSame.ite (fun _ => State.ccEnter_stores _ _ hk gPD gDESC gSNAP) (fun _ => hk)
  · exact StSame.ite (fun _ => State.ccEnter_stores _ _ hk gPD gDESC gSNAP) (fun _ => hk)
  · exact hk

theorem execErrorRecoveryTimeout_stores (n : Port) (gPD : ∀ x, 0x4000 * n.val ≤ x → x < 0x4000 * n.val + 0x4000 → R x) (gDESC : ∀ x, 0xC0000 ≤ x → x < 0xD0000 → R x) (gSNAP : ∀ x, 0x100000 + 32 * n.val ≤ x → x < 0x100020 + 32 * n.val → R x) : Stores R s (execErrorRecoveryTimeout n s) := by
  have hk : StSame R s s := StSame.refl _ _
  unfold execErrorRecoveryTimeout
  refine Stores.next ?_
  exact StSame.ite (fun _ => State.ccResume_stores _ hk gPD gDESC gSNAP) (fun _ => hk)

theorem execTryTimer_stores (n : Port) (gPD : ∀ x, 0x4000 * n.val ≤ x → x < 0x4000 * n.val + 0x4000 → R x) (gDESC : ∀ x, 0xC0000 ≤ x → x < 0xD0000 → R x) (gSNAP : ∀ x, 0x100000 + 32 * n.val ≤ x → x < 0x100020 + 32 * n.val → R x) : Stores R s (execTryTimer n s) := by
  have hk : StSame R s s := StSame.refl _ _
  unfold execTryTimer
  refine Stores.next ?_
  split
  · exact StSame.ite (fun _ => State.ccEnter_stores _ _ hk gPD gDESC gSNAP) (fun _ => State.modCc_stores _ _ hk)
  · exact State.modCc_stores _ _ hk
  · exact hk

theorem execTrywaitTimeout_stores (n : Port) (gPD : ∀ x, 0x4000 * n.val ≤ x → x < 0x4000 * n.val + 0x4000 → R x) (gDESC : ∀ x, 0xC0000 ≤ x → x < 0xD0000 → R x) (gSNAP : ∀ x, 0x100000 + 32 * n.val ≤ x → x < 0x100020 + 32 * n.val → R x) : Stores R s (execTrywaitTimeout n s) := by
  have hk : StSame R s s := StSame.refl _ _
  unfold execTrywaitTimeout
  refine Stores.next ?_
  split
  · exact State.ccEnter_stores _ _ hk gPD gDESC gSNAP
  · exact State.ccEnter_stores _ _ hk gPD gDESC gSNAP
  · exact hk

theorem execTrySrcTimeout_stores (n : Port) (gPD : ∀ x, 0x4000 * n.val ≤ x → x < 0x4000 * n.val + 0x4000 → R x) (gDESC : ∀ x, 0xC0000 ≤ x → x < 0xD0000 → R x) (gSNAP : ∀ x, 0x100000 + 32 * n.val ≤ x → x < 0x100020 + 32 * n.val → R x) : Stores R s (execTrySrcTimeout n s) := by
  have hk : StSame R s s := StSame.refl _ _
  unfold execTrySrcTimeout
  refine Stores.next ?_
  exact StSame.ite (fun _ => State.ccEnter_stores _ _ hk gPD gDESC gSNAP) (fun _ => hk)

theorem execSourceDetach_stores (n : Port) (load : Option ℕ) (gPD : ∀ x, 0x4000 * n.val ≤ x → x < 0x4000 * n.val + 0x4000 → R x) (gDESC : ∀ x, 0xC0000 ≤ x → x < 0xD0000 → R x) (gSNAP : ∀ x, 0x100000 + 32 * n.val ≤ x → x < 0x100020 + 32 * n.val → R x) : Stores R s (execSourceDetach n load s) := by
  have hk : StSame R s s := StSame.refl _ _
  unfold execSourceDetach
  refine Stores.next ?_
  exact StSame.ite (fun _ => State.ccEnter_stores _ _ hk gPD gDESC gSNAP) (fun _ => hk)

theorem execSinkDetach_stores (n : Port) (mv : ℕ) (gPD : ∀ x, 0x4000 * n.val ≤ x → x < 0x4000 * n.val + 0x4000 → R x) (gDESC : ∀ x, 0xC0000 ≤ x → x < 0xD0000 → R x) (gSNAP : ∀ x, 0x100000 + 32 * n.val ≤ x → x < 0x100020 + 32 * n.val → R x) : Stores R s (execSinkDetach n mv s) := by
  have hk : StSame R s s := StSame.refl _ _
  unfold execSinkDetach
  refine Stores.next ?_
  extract_lets -merge -underBinder +onlyGivenNames x0
  have hx0 : StSame R s x0 := State.setVbus_stores _ _ hk
  try clear_value x0
  exact StSame.ite (fun _ => State.ccEnter_stores _ _ hx0 gPD gDESC gSNAP) (fun _ => hx0)

theorem execDebugAccessoryExit_stores (n : Port) (mv : ℕ) (gPD : ∀ x, 0x4000 * n.val ≤ x → x < 0x4000 * n.val + 0x4000 → R x) (gDESC : ∀ x, 0xC0000 ≤ x → x < 0xD0000 → R x) (gSNAP : ∀ x, 0x100000 + 32 * n.val ≤ x → x < 0x100020 + 32 * n.val → R x) : Stores R s (execDebugAccessoryExit n mv s) := by
  have hk : StSame R s s := StSame.refl _ _
  unfold execDebugAccessoryExit
  refine Stores.next ?_
  extract_lets -merge -underBinder +onlyGivenNames x0
  have hx0 : StSame R s x0 := State.setVbus_stores _ _ hk
  try clear_value x0
  exact StSame.ite (fun _ => State.ccEnter_stores _ _ hx0 gPD gDESC gSNAP) (fun _ => hx0)

theorem execHrSinkHoldEnd_stores (n : Port) (gDESC : ∀ x, 0xC0000 ≤ x → x < 0xD0000 → R x) (gPD : ∀ x, 0x4000 * n.val ≤ x → x < 0x4000 * n.val + 0x4000 → R x) (gSNAP : ∀ x, 0x100000 + 32 * n.val ≤ x → x < 0x100020 + 32 * n.val → R x) : Stores R s (execHrSinkHoldEnd n s) := by
  have hk : StSame R s s := StSame.refl _ _
  unfold execHrSinkHoldEnd
  refine Stores.next ?_
  extract_lets -merge -underBinder +onlyGivenNames x0
  exact StSame.ite (fun _ => hk) (fun _ => StSame.ite (fun _ => StSame.ite (fun _ => hk) (fun _ => State.hrDone_stores _ (State.modCc_stores _ _ hk) gDESC)) (fun _ => State.raise_stores _ _ (State.ccEnter_stores _ _ hk gPD gDESC gSNAP)))

theorem execVconnAutoOn_stores (n : Port) : Stores R s (execVconnAutoOn n s) := by
  have hk : StSame R s s := StSame.refl _ _
  unfold execVconnAutoOn
  refine Stores.next ?_
  exact StSame.ite (fun _ => hk) (fun _ => StSame.ite (fun _ => State.modCc_stores _ _ hk) (fun _ => StSame.ite (fun _ => State.modCc_stores _ _ (State.vconnOn_stores _ hk)) (fun _ => hk)))

theorem execVconnRaProbe_stores (n : Port) (mv : ℕ) : Stores R s (execVconnRaProbe n mv s) := by
  have hk : StSame R s s := StSame.refl _ _
  unfold execVconnRaProbe
  refine Stores.next ?_
  extract_lets -merge -underBinder +onlyGivenNames x0
  clear_value x0
  extract_lets -merge -underBinder +onlyGivenNames x1
  have hx1 : StSame R s x1 := State.modCc_stores _ _ hk
  try clear_value x1
  refine StSame.ite (fun _ => ?_) (fun _ => ?_)
  · split
    · exact StSame.ite (fun _ => State.modCc_stores _ _ (State.vconnOn_stores _ hx1)) (fun _ => State.raiseIf_stores _ _ _ hx1)
    · exact hx1
  · exact hk

theorem execCcCmdErrRec_stores (n : Port) (key : BitVec 16) : Stores R s (execCcCmdErrRec n key s) := by
  have hk : StSame R s s := StSame.refl _ _
  unfold execCcCmdErrRec
  refine Stores.next ?_
  exact State.keyCmd_stores _ _ _ hk (fun _ h0 => State.modCc_stores _ _ h0)

theorem execCcCmdVconnOn_stores (n : Port) (key : BitVec 16) : Stores R s (execCcCmdVconnOn n key s) := by
  have hk : StSame R s s := StSame.refl _ _
  unfold execCcCmdVconnOn
  refine Stores.next ?_
  exact State.keyCmd_stores _ _ _ hk (fun _ h0 => State.vconnOnCmd_stores _ h0)

theorem execCcCmdVconnOff_stores (n : Port) (key : BitVec 16) : Stores R s (execCcCmdVconnOff n key s) := by
  have hk : StSame R s s := StSame.refl _ _
  unfold execCcCmdVconnOff
  refine Stores.next ?_
  exact State.keyCmd_stores _ _ _ hk (fun _ h0 => State.vconnOff_stores _ h0)

theorem execVconnOvercurrent_stores (n : Port) : Stores R s (execVconnOvercurrent n s) := by
  have hk : StSame R s s := StSame.refl _ _
  unfold execVconnOvercurrent
  refine Stores.next ?_
  exact StSame.ite (fun _ => State.raise_stores _ _ (State.vconnOff_stores _ hk)) (fun _ => hk)

theorem execVconnDischargeEnd_stores (n : Port) : Stores R s (execVconnDischargeEnd n s) := by
  have hk : StSame R s s := StSame.refl _ _
  unfold execVconnDischargeEnd
  refine Stores.next ?_
  exact State.modCc_stores _ _ hk

theorem execCcOvervoltage_stores (n : Port) (gDESC : ∀ x, 0xC0000 ≤ x → x < 0xD0000 → R x) (gSNAP : ∀ x, 0x100000 + 32 * n.val ≤ x → x < 0x100020 + 32 * n.val → R x) (gPD : ∀ x, 0x4000 * n.val ≤ x → x < 0x4000 * n.val + 0x4000 → R x) : Stores R s (execCcOvervoltage n s) := by
  have hk : StSame R s s := StSame.refl _ _
  unfold execCcOvervoltage
  refine Stores.next ?_
  extract_lets -merge -underBinder +onlyGivenNames x0 x1
  have hx1 : StSame R s x1 := State.raise_stores _ _ (State.vconnOff_stores _ hk)
  try clear_value x1
  extract_lets -merge -underBinder +onlyGivenNames x2
  have hx2 : StSame R s x2 := State.modCc_stores _ _ hx1
  try clear_value x2
  exact StSame.ite (fun _ => hx2) (fun _ => State.trip_stores _ _ _ (State.ccEnter_stores _ _ hx2 gPD gDESC gSNAP) gDESC gSNAP gPD)

theorem execPartnerGone_stores (n : Port) : Stores R s (execPartnerGone n s) := by
  have hk : StSame R s s := StSame.refl _ _
  unfold execPartnerGone
  refine Stores.next ?_
  exact StSame.ite (fun _ => State.put_stores _ _ _ (State.raise_stores _ _ hk)) (fun _ => hk)

theorem execOwnerCheck_stores (n : Port) (mv : ℕ) (gPD : ∀ x, 0x4000 * n.val ≤ x → x < 0x4000 * n.val + 0x4000 → R x) (gDESC : ∀ x, 0xC0000 ≤ x → x < 0xD0000 → R x) (gSNAP : ∀ x, 0x100000 + 32 * n.val ≤ x → x < 0x100020 + 32 * n.val → R x) : Stores R s (execOwnerCheck n mv s) := by
  have hk : StSame R s s := StSame.refl _ _
  unfold execOwnerCheck
  refine Stores.next ?_
  extract_lets -merge -underBinder +onlyGivenNames x0
  have hx0 : StSame R s x0 := State.modCc_stores _ _ hk
  try clear_value x0
  exact StSame.ite (fun _ => StSame.ite (fun _ => StSame.ite (fun _ => State.debounced_stores _ hx0 gPD gDESC gSNAP) (fun _ => hx0)) (fun _ => State.raise_stores _ _ hk)) (fun _ => hk)

theorem execVbusLevelChange_stores (n : Port) (mv : ℕ) (gPD : ∀ x, 0x4000 * n.val ≤ x → x < 0x4000 * n.val + 0x4000 → R x) (gDESC : ∀ x, 0xC0000 ≤ x → x < 0xD0000 → R x) (gSNAP : ∀ x, 0x100000 + 32 * n.val ≤ x → x < 0x100020 + 32 * n.val → R x) : Stores R s (execVbusLevelChange n mv s) := by
  have hk : StSame R s s := StSame.refl _ _
  unfold execVbusLevelChange
  refine Stores.next ?_
  extract_lets -merge -underBinder +onlyGivenNames x0
  have hx0 : StSame R s x0 := State.setVbus_stores _ _ hk
  try clear_value x0
  exact StSame.ite (fun _ => State.debounced_stores _ hx0 gPD gDESC gSNAP) (fun _ => hx0)

theorem execShareRegulation_stores (n : Port) (held : Bool) : Stores R s (execShareRegulation n held s) := by
  have hk : StSame R s s := StSame.refl _ _
  unfold execShareRegulation
  refine Stores.next ?_
  exact StSame.ite (fun _ => State.putB_stores _ _ _ hk) (fun _ => hk)

theorem execDiodeRegulation_stores (n : Port) (held : Bool) : Stores R s (execDiodeRegulation n held s) := by
  have hk : StSame R s s := StSame.refl _ _
  unfold execDiodeRegulation
  refine Stores.next ?_
  exact StSame.ite (fun _ => State.modShare_stores _ _ hk) (fun _ => hk)

theorem execShareRelease_stores (n : Port) (gDESC : ∀ x, 0xC0000 ≤ x → x < 0xD0000 → R x) : Stores R s (execShareRelease n s) := by
  have hk : StSame R s s := StSame.refl _ _
  unfold execShareRelease
  refine Stores.next ?_
  exact State.shareLeave_stores _ hk gDESC

theorem execNoFreeMember_stores (gDESC : ∀ x, 0xC0000 ≤ x → x < 0xD0000 → R x) : Stores R s (execNoFreeMember s) := by
  have hk : StSame R s s := StSame.refl _ _
  unfold execNoFreeMember
  refine Stores.next ?_
  extract_lets -merge -underBinder +onlyGivenNames x0
  exact StSame.ite (fun _ => State.shareRelease_stores _ hk gDESC) (fun _ => hk)

theorem execShareCmdRelease_stores (key : BitVec 16) (gDESC : ∀ x, 0xC0000 ≤ x → x < 0xD0000 → R x) : Stores R s (execShareCmdRelease key s) := by
  have hk : StSame R s s := StSame.refl _ _
  unfold execShareCmdRelease
  refine Stores.next ?_
  exact State.keyCmd_stores _ _ _ hk (fun _ h0 => State.shareRelease_stores _ h0 gDESC)

theorem execShareCmdTrimClear_stores (key : BitVec 16) : Stores R s (execShareCmdTrimClear key s) := by
  have hk : StSame R s s := StSame.refl _ _
  unfold execShareCmdTrimClear
  refine Stores.next ?_
  exact State.keyCmd_stores _ _ _ hk (fun _ h0 => State.trimClearCmd_stores h0)

theorem execMemberBlockEnd_stores (n : Port) : Stores R s (execMemberBlockEnd n s) := by
  have hk : StSame R s s := StSame.refl _ _
  unfold execMemberBlockEnd
  refine Stores.next ?_
  exact StSame.ite (fun _ => State.modShare_stores _ _ (State.put_stores _ _ _ hk)) (fun _ => hk)

theorem execHpdLevelWrite_stores (n : Port) (level : Bool) : Stores R s (execHpdLevelWrite n level s) := by
  have hk : StSame R s s := StSame.refl _ _
  unfold execHpdLevelWrite
  refine Stores.next ?_
  exact State.cmd_stores _ hk (fun _ h0 => State.hpdWrite_stores _ _ h0)

theorem execHpdIrq_stores (n : Port) (early : Bool) : Stores R s (execHpdIrq n early s) := by
  have hk : StSame R s s := StSame.refl _ _
  unfold execHpdIrq
  refine Stores.next ?_
  exact State.cmd_stores _ hk (fun _ h0 => State.hpdIrq_stores _ _ h0)

theorem execHpdIrqEnd_stores (n : Port) : Stores R s (execHpdIrqEnd n s) := by
  have hk : StSame R s s := StSame.refl _ _
  unfold execHpdIrqEnd
  refine Stores.next ?_
  exact State.cmd_stores _ hk (fun _ h0 => State.modPort_stores _ _ h0)

theorem execMuxbGo_stores (key : BitVec 16) : Stores R s (execMuxbGo key s) := by
  have hk : StSame R s s := StSame.refl _ _
  unfold execMuxbGo
  refine Stores.next ?_
  exact State.keyCmd_stores _ _ _ hk (fun _ h0 => State.muxGo_stores h0)

theorem execMuxbAbort_stores (key : BitVec 16) (bytes : BitVec 5) : Stores R s (execMuxbAbort key bytes s) := by
  have hk : StSame R s s := StSame.refl _ _
  unfold execMuxbAbort
  refine Stores.next ?_
  exact State.keyCmd_stores _ _ _ hk (fun _ h0 => State.muxAbort_stores _ h0)

theorem execMuxbDone_stores (result : Fin 8) (acked : BitVec 5) (bytes : List Byte) (pec : Byte) : Stores R s (execMuxbDone result acked bytes pec s) := by
  have hk : StSame R s s := StSame.refl _ _
  unfold execMuxbDone
  refine Stores.next ?_
  refine State.cmd_stores _ ?_ ?_
  · exact hk
  · intro s0_0 hs0_1
    extract_lets -merge -underBinder +onlyGivenNames x1 x2 x3 x4 x5 x6
    have hx6 : StSame R s x6 := StSame.mk' hs0_1
    try clear_value x6
    exact StSame.ite (fun _ => State.muxEnd_stores _ _ (State.muxRdata_stores _ hx6)) (fun _ => hs0_1)

theorem execMuxbTimeout_stores (acked : BitVec 5) : Stores R s (execMuxbTimeout acked s) := by
  have hk : StSame R s s := StSame.refl _ _
  unfold execMuxbTimeout
  refine Stores.next ?_
  exact State.cmd_stores _ hk (fun _ h0 => StSame.ite (fun _ => State.muxEnd_stores _ _ h0) (fun _ => h0))

theorem execMintEdge_stores (level : Bool) : Stores R s (execMintEdge level s) := by
  have hk : StSame R s s := StSame.refl _ _
  unfold execMintEdge
  refine Stores.next ?_
  extract_lets -merge -underBinder +onlyGivenNames x0 x1 x2
  have hx2 : StSame R s x2 := StSame.mk' hk
  try clear_value x2
  extract_lets -merge -underBinder +onlyGivenNames x3 x4 x5
  exact StSame.ite (fun _ => hx2) (fun _ => State.raiseIf_stores _ _ _ hx2)

theorem execHedgerowFrameArrive_stores (l : Fin 3) (bytes : List Byte) (aborted : Bool) (codeErrs : ℕ) (storeOk : Bool) (gTXQ : ∀ x, 0xB8000 ≤ x → x < 0xC0000 → R x) : Stores R s (execHedgerowFrameArrive l bytes aborted codeErrs storeOk s) := by
  have hk : StSame R s s := StSame.refl _ _
  unfold execHedgerowFrameArrive
  extract_lets -merge -underBinder +onlyGivenNames x0 x1 x2 x3
  have hx3 : StSame R s x3 := State.put_stores _ _ _ (State.incr_stores _ _ (State.put_stores _ _ _ hk))
  try clear_value x3
  extract_lets -merge -underBinder +onlyGivenNames x4
  have hx4 : StSame R s x4 := State.linkWord_stores _ _ hx3
  try clear_value x4
  refine Stores.ite (fun _ => ?_) (fun _ => ?_)
  · refine Stores.next ?_
    exact hk
  · refine Stores.ite (fun _ => ?_) (fun _ => ?_)
    · refine Stores.next ?_
      exact hk
    · refine Stores.ite (fun _ => ?_) (fun _ => ?_)
      · refine Stores.next ?_
        exact State.errLimit_stores _ (State.linkWord_stores _ _ (State.linkErr_stores _ _ _ hk)) gTXQ
      · refine Stores.ite (fun _ => ?_) (fun _ => ?_)
        · refine Stores.next ?_
          exact State.errLimit_stores _ (State.linkWord_stores _ _ (State.linkErr_stores _ _ _ hk)) gTXQ
        · refine Stores.ite (fun _ => ?_) (fun _ => ?_)
          · refine Stores.next ?_
            exact State.linkWord_stores _ _ hk
          · refine Stores.ite (fun _ => ?_) (fun _ => ?_)
            · refine Stores.next ?_
              exact hk
            · refine Stores.ite (fun _ => ?_) (fun _ => ?_)
              · refine Stores.next ?_
                exact StSame.ite (fun _ => State.deliver_stores _ _ hx4) (fun _ => State.bump_stores _ _ _ hx4)
              · refine Stores.next ?_
                exact State.ringTake_stores _ _ hx4

theorem execLinkWordReceive_stores (l : Fin 3) (b1 : BitVec 8) (b2 : BitVec 8) (b3 : BitVec 8) (gTXQ : ∀ x, 0xB8000 ≤ x → x < 0xC0000 → R x) : Stores R s (execLinkWordReceive l b1 b2 b3 s) := by
  have hk : StSame R s s := StSame.refl _ _
  unfold execLinkWordReceive
  extract_lets -merge -underBinder +onlyGivenNames x0 x1
  have hx1 : StSame R s x1 := State.putB_stores _ _ _ hk
  try clear_value x1
  extract_lets -merge -underBinder +onlyGivenNames x2
  have hx2 : StSame R s x2 := State.takeAck_stores _ _ hx1 gTXQ
  try clear_value x2
  refine Stores.ite (fun _ => ?_) (fun _ => ?_)
  · refine Stores.next ?_
    exact hk
  · refine Stores.ite (fun _ => ?_) (fun _ => ?_)
    · refine Stores.next ?_
      exact StSame.ite (fun _ => State.errLimit_stores _ (State.linkErr_stores _ _ _ hk) gTXQ) (fun _ => hk)
    · refine Stores.ite (fun _ => ?_) (fun _ => ?_)
      · refine Stores.next ?_
        exact State.linkLost_stores _ _ hx1 gTXQ
      · refine Stores.ite (fun _ => ?_) (fun _ => ?_)
        · refine Stores.next ?_
          exact StSame.ite (fun _ => State.goBack_stores _ hx2) (fun _ => hx2)
        · refine Stores.next ?_
          exact hx1

theorem execArqTimeout_stores (l : Fin 3) : Stores R s (execArqTimeout l s) := by
  have hk : StSame R s s := StSame.refl _ _
  unfold execArqTimeout
  refine Stores.next ?_
  exact StSame.ite (fun _ => State.goBack_stores _ hk) (fun _ => hk)

theorem execLossOfLock_stores (l : Fin 3) (fault : Bool) (gTXQ : ∀ x, 0xB8000 ≤ x → x < 0xC0000 → R x) : Stores R s (execLossOfLock l fault s) := by
  have hk : StSame R s s := StSame.refl _ _
  unfold execLossOfLock
  refine Stores.ite (fun _ => ?_) (fun _ => ?_)
  · refine Stores.next ?_
    exact hk
  · refine Stores.next ?_
    exact State.linkLost_stores _ _ (StSame.ite (fun _ => State.put_stores _ _ _ hk) (fun _ => hk)) gTXQ

theorem execLockRegained_stores (l : Fin 3) (gTXQ : ∀ x, 0xB8000 ≤ x → x < 0xC0000 → R x) : Stores R s (execLockRegained l s) := by
  have hk : StSame R s s := StSame.refl _ _
  unfold execLockRegained
  refine Stores.next ?_
  exact StSame.ite (fun _ => State.put_stores _ _ _ (State.linkTo_stores _ _ hk gTXQ)) (fun _ => hk)

theorem execTrainingComplete_stores (l : Fin 3) (delay : BitVec 16) : Stores R s (execTrainingComplete l delay s) := by
  have hk : StSame R s s := StSame.refl _ _
  unfold execTrainingComplete
  extract_lets -merge -underBinder +onlyGivenNames x0 x1
  have hx1 : StSame R s x1 := State.put_stores _ _ _ (State.put_stores _ _ _ (State.put_stores _ _ _ hk))
  try clear_value x1
  extract_lets -merge -underBinder +onlyGivenNames x2
  have hx2 : StSame R s x2 := State.put_stores _ _ _ (State.put_stores _ _ _ hx1)
  try clear_value x2
  refine Stores.ite (fun _ => ?_) (fun _ => ?_)
  · refine Stores.next ?_
    exact hk
  · refine Stores.next ?_
    exact State.raise_stores _ _ (State.modLink_stores _ _ hx2)

theorem execLinkRetireTimeout_stores (l : Fin 3) (gTXQ : ∀ x, 0xB8000 ≤ x → x < 0xC0000 → R x) : Stores R s (execLinkRetireTimeout l s) := by
  have hk : StSame R s s := StSame.refl _ _
  unfold execLinkRetireTimeout
  refine Stores.next ?_
  exact StSame.ite (fun _ => State.linkRetire_stores _ _ hk gTXQ) (fun _ => hk)

theorem execLinkErrorLimit_stores (l : Fin 3) (more : ℕ) (gTXQ : ∀ x, 0xB8000 ≤ x → x < 0xC0000 → R x) : Stores R s (execLinkErrorLimit l more s) := by
  have hk : StSame R s s := StSame.refl _ _
  unfold execLinkErrorLimit
  refine Stores.ite (fun _ => ?_) (fun _ => ?_)
  · refine Stores.next ?_
    exact State.errLimit_stores _ (State.linkErr_stores _ _ _ hk) gTXQ
  · refine Stores.next ?_
    exact hk

theorem execReprobeTimer_stores (l : Fin 3) (gTXQ : ∀ x, 0xB8000 ≤ x → x < 0xC0000 → R x) : Stores R s (execReprobeTimer l s) := by
  have hk : StSame R s s := StSame.refl _ _
  unfold execReprobeTimer
  refine Stores.next ?_
  exact State.probeLink_stores _ hk gTXQ

theorem execProbingResult_stores (l : Fin 3) (clean : Bool) (gTXQ : ∀ x, 0xB8000 ≤ x → x < 0xC0000 → R x) : Stores R s (execProbingResult l clean s) := by
  have hk : StSame R s s := StSame.refl _ _
  unfold execProbingResult
  refine Stores.next ?_
  exact StSame.ite (fun _ => StSame.ite (fun _ => State.put_stores _ _ _ (State.linkTo_stores _ _ hk gTXQ)) (fun _ => State.linkTo_stores _ _ hk gTXQ)) (fun _ => hk)

theorem execHgCmdRetire_stores (l : Fin 3) (key : BitVec 16) (gTXQ : ∀ x, 0xB8000 ≤ x → x < 0xC0000 → R x) : Stores R s (execHgCmdRetire l key s) := by
  have hk : StSame R s s := StSame.refl _ _
  unfold execHgCmdRetire
  refine Stores.next ?_
  exact State.keyCmd_stores _ _ _ hk (fun _ h0 => State.hgRetire_stores _ h0 gTXQ)

theorem execHgCmdReprobe_stores (l : Fin 3) (key : BitVec 16) (gTXQ : ∀ x, 0xB8000 ≤ x → x < 0xC0000 → R x) : Stores R s (execHgCmdReprobe l key s) := by
  have hk : StSame R s s := StSame.refl _ _
  unfold execHgCmdReprobe
  refine Stores.next ?_
  exact State.keyCmd_stores _ _ _ hk (fun _ h0 => State.probeLink_stores _ h0 gTXQ)

theorem execHgCmdClearStats_stores (l : Fin 3) (key : BitVec 16) : Stores R s (execHgCmdClearStats l key s) := by
  have hk : StSame R s s := StSame.refl _ _
  unfold execHgCmdClearStats
  refine Stores.next ?_
  exact State.keyCmd_stores _ _ _ hk (fun _ h0 => State.hgClear_stores _ h0)

theorem execFleetCmdEnumerate_stores (key : BitVec 16) : Stores R s (execFleetCmdEnumerate key s) := by
  have hk : StSame R s s := StSame.refl _ _
  unfold execFleetCmdEnumerate
  refine Stores.next ?_
  exact State.keyCmd_stores _ _ _ hk (fun _ h0 => State.enumerateCmd_stores h0)

theorem execEnumAssign_stores : Stores R s (execEnumAssign s) := by
  have hk : StSame R s s := StSame.refl _ _
  unfold execEnumAssign
  refine Stores.next ?_
  exact State.withFrame_stores _ hk (fun _ _ h0 => State.onAssign_stores _ h0)

theorem execEnumCal_stores : Stores R s (execEnumCal s) := by
  have hk : StSame R s s := StSame.refl _ _
  unfold execEnumCal
  refine Stores.next ?_
  exact State.withFrame_stores _ hk (fun _ _ h0 => State.onCal_stores _ h0)

theorem execEnumDone_stores : Stores R s (execEnumDone s) := by
  have hk : StSame R s s := StSame.refl _ _
  unfold execEnumDone
  refine Stores.next ?_
  exact State.withFrame_stores _ hk (fun _ _ h0 => State.takeDone_stores _ _ h0)

theorem execEnumJoinReq_stores : Stores R s (execEnumJoinReq s) := by
  have hk : StSame R s s := StSame.refl _ _
  unfold execEnumJoinReq
  refine Stores.ite (fun _ => ?_) (fun _ => ?_)
  · refine Stores.next ?_
    exact State.withFrame_stores _ hk (fun _ _ h0 => State.enumerate_stores h0)
  · split
    · refine Stores.next ?_
      exact StSame.ite (fun _ => State.sendTo_stores _ _ _ _ hk) (fun _ => hk)
    · refine Stores.next ?_
      exact hk

theorem execTickFrameReceive_stores (err : ℤ) : Stores R s (execTickFrameReceive err s) := by
  have hk : StSame R s s := StSame.refl _ _
  unfold execTickFrameReceive
  refine Stores.next ?_
  refine State.withFrame_stores _ ?_ ?_
  · exact hk
  · intro s0_0 s0_1 hs0_2
    extract_lets -merge -underBinder +onlyGivenNames x1 x2
    have hx2 : StSame R s x2 := State.put_stores _ _ _ (State.put_stores _ _ _ (State.standDown_stores hs0_2))
    try clear_value x2
    exact StSame.ite (fun _ => StSame.ite (fun _ => StSame.ite (fun _ => State.takeTick_stores _ _ hx2) (fun _ => hs0_2)) (fun _ => State.modFleet_stores _ hs0_2)) (fun _ => StSame.ite (fun _ => hs0_2) (fun _ => State.takeTick_stores _ _ hs0_2))

theorem execWrapFrameReceive_stores : Stores R s (execWrapFrameReceive s) := by
  have hk : StSame R s s := StSame.refl _ _
  unfold execWrapFrameReceive
  refine Stores.next ?_
  refine State.withFrame_stores _ ?_ ?_
  · exact hk
  · intro s0_0 s0_1 hs0_2
    extract_lets -merge -underBinder +onlyGivenNames x1 x2 x3 x4 x5 x6
    have hx6 : StSame R s x6 := State.modFleet_stores _ hs0_2
    try clear_value x6
    extract_lets -merge -underBinder +onlyGivenNames x7
    have hx7 : StSame R s x7 := State.putB_stores _ _ _ hx6
    try clear_value x7
    extract_lets -merge -underBinder +onlyGivenNames x8
    have hx8 : StSame R s x8 := State.raiseIf_stores _ _ _ (State.raiseIf_stores _ _ _ hx7)
    try clear_value x8
    exact StSame.ite (fun _ => State.enumerate_stores hx8) (fun _ => hx8)

theorem execEvtFrameSend_stores : Stores R s (execEvtFrameSend s) := by
  have hk : StSame R s s := StSame.refl _ _
  unfold execEvtFrameSend
  refine Stores.ite (fun _ => ?_) (fun _ => ?_)
  · refine Stores.next ?_
    exact State.sendTo_stores _ _ _ _ hk
  · refine Stores.next ?_
    exact hk

theorem execEngineFrameDeliver_stores (gRXQ : ∀ x, 0xB0000 ≤ x → x < 0xB8000 → R x) (gDESC : ∀ x, 0xC0000 ≤ x → x < 0xD0000 → R x) : Stores R s (execEngineFrameDeliver s) := by
  have hk : StSame R s s := StSame.refl _ _
  unfold execEngineFrameDeliver
  refine Stores.next ?_
  refine State.withFrame_stores _ ?_ ?_
  · exact hk
  · intro s0_0 s0_1 hs0_2
    split
    · exact hs0_2
    · exact State.rxqPut_stores _ _ _ _ hs0_2 gRXQ gDESC

theorem execFleetTxReq_stores (slot : Fin 64) (gTXQ : ∀ x, 0xB8000 ≤ x → x < 0xC0000 → R x) : Stores R s (execFleetTxReq slot s) := by
  have hk : StSame R s s := StSame.refl _ _
  unfold execFleetTxReq
  refine Stores.next ?_
  exact State.cmd_stores _ hk (fun _ h0 => State.txfReq_stores _ h0 gTXQ)

theorem execTakeoverReceive_stores : Stores R s (execTakeoverReceive s) := by
  have hk : StSame R s s := StSame.refl _ _
  unfold execTakeoverReceive
  refine Stores.next ?_
  refine State.withFrame_stores _ ?_ ?_
  · exact hk
  · intro s0_0 s0_1 hs0_2
    extract_lets -merge -underBinder +onlyGivenNames x1 x2 x3
    have hx3 : StSame R s x3 := State.adopt_stores _ _ _ hs0_2
    try clear_value x3
    exact StSame.ite (fun _ => State.sendTick_stores _ (State.put_stores _ _ _ (State.put_stores _ _ _ (State.put_stores _ _ _ hx3)))) (fun _ => StSame.ite (fun _ => State.modFleet_stores _ hx3) (fun _ => hx3))

theorem execEnumReturn_stores : Stores R s (execEnumReturn s) := by
  have hk : StSame R s s := StSame.refl _ _
  unfold execEnumReturn
  refine Stores.ite (fun _ => ?_) (fun _ => ?_)
  · split
    · refine Stores.next ?_
      exact State.sendTo_stores _ _ _ _ hk
    · refine Stores.next ?_
      exact hk
  · refine Stores.next ?_
    refine State.withFrame_stores _ ?_ ?_
    · exact hk
    · intro s0_0 s0_1 hs0_2
      extract_lets -merge -underBinder +onlyGivenNames x1
      exact State.modFleet_stores _ hs0_2

theorem execHandback_stores : Stores R s (execHandback s) := by
  have hk : StSame R s s := StSame.refl _ _
  unfold execHandback
  split
  · extract_lets -merge -underBinder +onlyGivenNames x0
    extract_lets -merge -underBinder +onlyGivenNames x1
    have hx1 : StSame R s x1 := State.broadcast_stores _ _ hk
    try clear_value x1
    refine Stores.ite (fun _ => ?_) (fun _ => ?_)
    · refine Stores.next ?_
      exact State.raise_stores _ _ (State.standDown_stores (State.adopt_stores _ _ _ hx1))
    · refine Stores.next ?_
      exact hk
  · refine Stores.next ?_
    exact hk

theorem execFleetCmdTakeover_stores (key : BitVec 16) : Stores R s (execFleetCmdTakeover key s) := by
  have hk : StSame R s s := StSame.refl _ _
  unfold execFleetCmdTakeover
  refine Stores.next ?_
  exact State.keyCmd_stores _ _ _ hk (fun _ h0 => State.tkoCmd_stores h0)

theorem execFleetCmdHandback_stores (key : BitVec 16) : Stores R s (execFleetCmdHandback key s) := by
  have hk : StSame R s s := StSame.refl _ _
  unfold execFleetCmdHandback
  refine Stores.next ?_
  exact State.keyCmd_stores _ _ _ hk (fun _ h0 => State.handbackCmd_stores h0)

theorem execSourceCapsSend_stores (n : Port) (gPD : ∀ x, 0x4000 * n.val ≤ x → x < 0x4000 * n.val + 0x4000 → R x) : Stores R s (execSourceCapsSend n s) := by
  have hk : StSame R s s := StSame.refl _ _
  unfold execSourceCapsSend
  refine Stores.next ?_
  refine State.policy_stores ?_ ?_
  · exact hk
  · intro s0_0 hs0_1
    extract_lets -merge -underBinder +onlyGivenNames x1
    have hx1 : StSame R s x1 := State.followLimit_stores _ hs0_1
    try clear_value x1
    extract_lets -merge -underBinder +onlyGivenNames x2
    have hx2 : StSame R s x2 := State.fwHrComplete_stores _ hx1
    try clear_value x2
    extract_lets -merge -underBinder +onlyGivenNames x3
    have hx3 : StSame R s x3 := StSame.ite (fun _ => State.cableAsk_stores _ hx2 gPD) (fun _ => hx2)
    try clear_value x3
    exact StSame.ite (fun _ => hx1) (fun _ => StSame.ite (fun _ => StSame.ite (fun _ => hx1) (fun _ => State.advertise_stores _ hx1 gPD)) (fun _ => StSame.ite (fun _ => State.modFw_stores _ _ (State.advertise_stores _ hx3 gPD)) (fun _ => hx1)))

theorem execSourceRequestTimeout_stores (n : Port) (gPD : ∀ x, 0x4000 * n.val ≤ x → x < 0x4000 * n.val + 0x4000 → R x) (gDESC : ∀ x, 0xC0000 ≤ x → x < 0xD0000 → R x) : Stores R s (execSourceRequestTimeout n s) := by
  have hk : StSame R s s := StSame.refl _ _
  unfold execSourceRequestTimeout
  refine Stores.next ?_
  exact State.policy_stores hk (fun _ h0 => StSame.ite (fun _ => State.hardResetStart_stores _ (State.modFw_stores _ _ h0) gPD gDESC) (fun _ => h0))

theorem execRequestEvaluation_stores (n : Port) (i : Fin 64) (gPD : ∀ x, 0x4000 * n.val ≤ x → x < 0x4000 * n.val + 0x4000 → R x) (gDESC : ∀ x, 0xC0000 ≤ x → x < 0xD0000 → R x) : Stores R s (execRequestEvaluation n i s) := by
  have hk : StSame R s s := StSame.refl _ _
  unfold execRequestEvaluation
  refine Stores.next ?_
  refine State.policy_stores ?_ ?_
  · exact hk
  · intro s0_0 hs0_1
    extract_lets -merge -underBinder +onlyGivenNames x1
    exact StSame.ite (fun _ => hs0_1) (fun _ => StSame.ite (fun _ => State.evalRequest_stores _ _ hs0_1 gPD gDESC) (fun _ => StSame.ite (fun _ => State.eprMode_stores _ _ hs0_1 gPD) (fun _ => hs0_1)))

theorem execPpsRequestTimeout_stores (n : Port) (gPD : ∀ x, 0x4000 * n.val ≤ x → x < 0x4000 * n.val + 0x4000 → R x) (gDESC : ∀ x, 0xC0000 ≤ x → x < 0xD0000 → R x) : Stores R s (execPpsRequestTimeout n s) := by
  have hk : StSame R s s := StSame.refl _ _
  unfold execPpsRequestTimeout
  refine Stores.next ?_
  exact State.policy_stores hk (fun _ h0 => StSame.ite (fun _ => State.hardResetStart_stores _ h0 gPD gDESC) (fun _ => h0))

theorem execSinkCapsTimeout_stores (n : Port) (gPD : ∀ x, 0x4000 * n.val ≤ x → x < 0x4000 * n.val + 0x4000 → R x) (gDESC : ∀ x, 0xC0000 ≤ x → x < 0xD0000 → R x) : Stores R s (execSinkCapsTimeout n s) := by
  have hk : StSame R s s := StSame.refl _ _
  unfold execSinkCapsTimeout
  refine Stores.next ?_
  exact State.policy_stores hk (fun _ h0 => StSame.ite (fun _ => State.hardResetStart_stores _ (State.modFw_stores _ _ h0) gPD gDESC) (fun _ => h0))

theorem execSinkRequest_stores (n : Port) (rec : Option (Fin 64)) (gPD : ∀ x, 0x4000 * n.val ≤ x → x < 0x4000 * n.val + 0x4000 → R x) : Stores R s (execSinkRequest n rec s) := by
  have hk : StSame R s s := StSame.refl _ _
  unfold execSinkRequest
  refine Stores.next ?_
  refine State.policy_stores ?_ ?_
  · exact hk
  · intro s0_0 hs0_1
    extract_lets -merge -underBinder +onlyGivenNames x1
    have hx1 : StSame R s x1 := State.fwHrComplete_stores _ hs0_1
    try clear_value x1
    refine StSame.ite (fun _ => ?_) (fun _ => ?_)
    · exact hs0_1
    · split
      · exact StSame.ite (fun _ => State.sinkChoose_stores _ (State.modFw_stores _ _ hx1) gPD) (fun _ => StSame.ite (fun _ => State.sinkChoose_stores _ (State.modFw_stores _ _ hx1) gPD) (fun _ => hx1))
      · exact StSame.ite (fun _ => hx1) (fun _ => State.sinkChoose_stores _ hx1 gPD)

theorem execPsRdyTimeout_stores (n : Port) (gPD : ∀ x, 0x4000 * n.val ≤ x → x < 0x4000 * n.val + 0x4000 → R x) (gDESC : ∀ x, 0xC0000 ≤ x → x < 0xD0000 → R x) : Stores R s (execPsRdyTimeout n s) := by
  have hk : StSame R s s := StSame.refl _ _
  unfold execPsRdyTimeout
  refine Stores.next ?_
  exact State.policy_stores hk (fun _ h0 => StSame.ite (fun _ => State.hardResetStart_stores _ h0 gPD gDESC) (fun _ => h0))

theorem execTrimRequest_stores (n : Port) (gPD : ∀ x, 0x4000 * n.val ≤ x → x < 0x4000 * n.val + 0x4000 → R x) : Stores R s (execTrimRequest n s) := by
  have hk : StSame R s s := StSame.refl _ _
  unfold execTrimRequest
  refine Stores.next ?_
  refine State.policy_stores ?_ ?_
  · exact hk
  · intro s0_0 hs0_1
    extract_lets -merge -underBinder +onlyGivenNames x1 x2
    exact StSame.ite (fun _ => State.sendRequest_stores _ _ _ _ hs0_1 gPD) (fun _ => hs0_1)

theorem execDrSwapResponse_stores (n : Port) (rec : Option (Fin 64)) (gPD : ∀ x, 0x4000 * n.val ≤ x → x < 0x4000 * n.val + 0x4000 → R x) (gDESC : ∀ x, 0xC0000 ≤ x → x < 0xD0000 → R x) : Stores R s (execDrSwapResponse n rec s) := by
  have hk : StSame R s s := StSame.refl _ _
  unfold execDrSwapResponse
  refine Stores.next ?_
  refine State.policy_stores ?_ ?_
  · exact hk
  · intro s0_0 hs0_1
    split
    · exact State.drInitiate_stores _ hs0_1 gPD
    · exact StSame.ite (fun _ => hs0_1) (fun _ => StSame.ite (fun _ => State.drAnswer_stores _ hs0_1 gPD gDESC) (fun _ => StSame.ite (fun _ => State.modFw_stores _ _ hs0_1) (fun _ => hs0_1)))

theorem execDiscovery_stores (n : Port) (rec : Option (Fin 64)) (cable : Bool) (gMODE : ∀ x, 0x100100 + 16 * n.val ≤ x → x < 0x100110 + 16 * n.val → R x) (gPD : ∀ x, 0x4000 * n.val ≤ x → x < 0x4000 * n.val + 0x4000 → R x) : Stores R s (execDiscovery n rec cable s) := by
  have hk : StSame R s s := StSame.refl _ _
  unfold execDiscovery
  refine Stores.next ?_
  refine State.policy_stores ?_ ?_
  · exact hk
  · intro s0_0 hs0_1
    split
    · extract_lets -merge -underBinder +onlyGivenNames x1
      exact StSame.ite (fun _ => hs0_1) (fun _ => StSame.ite (fun _ => StSame.ite (fun _ => State.vdmRequest_stores _ _ hs0_1 gMODE gPD) (fun _ => hs0_1)) (fun _ => State.vdmResponse_stores _ _ hs0_1 gPD gMODE))
    · exact StSame.ite (fun _ => StSame.ite (fun _ => State.cableAsk_stores _ hs0_1 gPD) (fun _ => hs0_1)) (fun _ => StSame.ite (fun _ => State.discStart_stores _ hs0_1 gPD) (fun _ => hs0_1))

theorem execVdmResponseTimeout_stores (n : Port) (cable : Bool) (gPD : ∀ x, 0x4000 * n.val ≤ x → x < 0x4000 * n.val + 0x4000 → R x) (gMODE : ∀ x, 0x100100 + 16 * n.val ≤ x → x < 0x100110 + 16 * n.val → R x) : Stores R s (execVdmResponseTimeout n cable s) := by
  have hk : StSame R s s := StSame.refl _ _
  unfold execVdmResponseTimeout
  refine Stores.next ?_
  refine State.policy_stores ?_ ?_
  · exact hk
  · intro s0_0 hs0_1
    split
    · exact hs0_1
    · exact StSame.ite (fun _ => State.cableTimeout_stores _ _ hs0_1 gPD) (fun _ => State.vdmTimeout_stores _ _ hs0_1 gPD gMODE)

theorem execModeEntryAuto_stores (n : Port) (gPD : ∀ x, 0x4000 * n.val ≤ x → x < 0x4000 * n.val + 0x4000 → R x) : Stores R s (execModeEntryAuto n s) := by
  have hk : StSame R s s := StSame.refl _ _
  unfold execModeEntryAuto
  refine Stores.next ?_
  refine State.policy_stores ?_ ?_
  · exact hk
  · intro s0_0 hs0_1
    split
    · exact State.enterMode_stores _ _ _ _ hs0_1 gPD
    · exact hs0_1

theorem execVdmCmdRediscover_stores (n : Port) (key : BitVec 16) (gPD : ∀ x, 0x4000 * n.val ≤ x → x < 0x4000 * n.val + 0x4000 → R x) : Stores R s (execVdmCmdRediscover n key s) := by
  have hk : StSame R s s := StSame.refl _ _
  unfold execVdmCmdRediscover
  refine Stores.next ?_
  exact State.keyCmd_stores _ _ _ hk (fun _ h0 => State.policy_stores h0 (fun _ h1 => State.vdmRediscover_stores _ h1 gPD))

theorem execVdmCmdEnter_stores (n : Port) (key : BitVec 16) (gPD : ∀ x, 0x4000 * n.val ≤ x → x < 0x4000 * n.val + 0x4000 → R x) : Stores R s (execVdmCmdEnter n key s) := by
  have hk : StSame R s s := StSame.refl _ _
  unfold execVdmCmdEnter
  refine Stores.next ?_
  exact State.keyCmd_stores _ _ _ hk (fun _ h0 => State.policy_stores h0 (fun _ h1 => State.vdmEnter_stores _ h1 gPD))

theorem execVdmCmdExit_stores (n : Port) (key : BitVec 16) (gPD : ∀ x, 0x4000 * n.val ≤ x → x < 0x4000 * n.val + 0x4000 → R x) : Stores R s (execVdmCmdExit n key s) := by
  have hk : StSame R s s := StSame.refl _ _
  unfold execVdmCmdExit
  refine Stores.next ?_
  exact State.keyCmd_stores _ _ _ hk (fun _ h0 => State.policy_stores h0 (fun _ h1 => State.vdmExit_stores _ h1 gPD))

theorem execModeEndAtReset_stores (n : Port) (gMODE : ∀ x, 0x100100 + 16 * n.val ≤ x → x < 0x100110 + 16 * n.val → R x) : Stores R s (execModeEndAtReset n s) := by
  have hk : StSame R s s := StSame.refl _ _
  unfold execModeEndAtReset
  refine Stores.next ?_
  refine State.policy_stores ?_ ?_
  · exact hk
  · intro s0_0 hs0_1
    extract_lets -merge -underBinder +onlyGivenNames x1 x2
    have hx2 : StSame R s x2 := State.modeClear_stores _ _ hs0_1
    try clear_value x2
    exact State.modeRecord_stores _ (StSame.ite (fun _ => State.vdmEvt_stores _ _ hx2) (fun _ => hx2)) gMODE

theorem execUfpHpdSample_stores (n : Port) (gPD : ∀ x, 0x4000 * n.val ≤ x → x < 0x4000 * n.val + 0x4000 → R x) : Stores R s (execUfpHpdSample n s) := by
  have hk : StSame R s s := StSame.refl _ _
  unfold execUfpHpdSample
  refine Stores.next ?_
  refine State.policy_stores ?_ ?_
  · exact hk
  · intro s0_0 hs0_1
    extract_lets -merge -underBinder +onlyGivenNames x1 x2 x3 x4 x5 x6
    have hx6 : StSame R s x6 := State.modFw_stores _ _ hs0_1
    try clear_value x6
    exact StSame.ite (fun _ => hs0_1) (fun _ => StSame.ite (fun _ => hx6) (fun _ => State.fwSend_stores _ _ _ _ _ hx6 gPD))

theorem execHostVdmPass_stores (n : Port) (i : Fin 64) (gPD : ∀ x, 0x4000 * n.val ≤ x → x < 0x4000 * n.val + 0x4000 → R x) : Stores R s (execHostVdmPass n i s) := by
  have hk : StSame R s s := StSame.refl _ _
  unfold execHostVdmPass
  refine Stores.next ?_
  refine State.policy_stores ?_ ?_
  · exact hk
  · intro s0_0 hs0_1
    extract_lets -merge -underBinder +onlyGivenNames x1 x2 x3 x4
    have hx4 : StSame R s x4 := State.stWrite_stores _ _ hs0_1 (fun x h1 h2 => by
      have hw : x3 < 8 := State.fld_lt _ _ VDM.HOST_Q_WR
      rw [length_stRead] at h2
      exact gPD x (by omega) (by omega))
    try clear_value x4
    extract_lets -merge -underBinder +onlyGivenNames x5
    have hx5 : StSame R s x5 := StSame.ite (fun _ => State.vdmEvt_stores _ _ hs0_1) (fun _ => State.vdmEvt_stores _ _ (State.put_stores _ _ _ hx4))
    try clear_value x5
    exact StSame.ite (fun _ => hs0_1) (fun _ => StSame.ite (fun _ => StSame.ite (fun _ => State.fwSend_stores _ _ _ _ _ hx5 gPD) (fun _ => hx5)) (fun _ => StSame.ite (fun _ => StSame.ite (fun _ => State.fwSend_stores _ _ _ _ _ hs0_1 gPD) (fun _ => hs0_1)) (fun _ => State.fwSend_stores _ _ _ _ _ hs0_1 gPD)))

theorem execHostTxGo_stores (n : Port) (count : BitVec 3) (sop : BitVec 2) (gPD : ∀ x, 0x4000 * n.val ≤ x → x < 0x4000 * n.val + 0x4000 → R x) : Stores R s (execHostTxGo n count sop s) := by
  have hk : StSame R s s := StSame.refl _ _
  unfold execHostTxGo
  refine Stores.next ?_
  exact State.cmd_stores _ hk (fun _ h0 => State.hostTxWrite_stores _ _ _ h0 gPD)

theorem execPlaceCmdRun_stores (key : BitVec 16) : Stores R s (execPlaceCmdRun key s) := by
  have hk : StSame R s s := StSame.refl _ _
  unfold execPlaceCmdRun
  refine Stores.next ?_
  exact State.keyCmd_stores _ _ _ hk (fun _ h0 => State.placeRun_stores h0)

theorem execPlacementRun_stores (gREC : ∀ x, 0x60000 ≤ x → x < 0x64200 → R x) (gTXQ : ∀ x, 0xB8000 ≤ x → x < 0xC0000 → R x) : Stores R s (execPlacementRun s) := by
  have hk : StSame R s s := StSame.refl _ _
  unfold execPlacementRun
  split
  · refine Stores.next ?_
    exact hk
  · extract_lets -merge -underBinder +onlyGivenNames x0
    extract_lets -merge -underBinder +onlyGivenNames x1
    have hx1 : StSame R s x1 := State.modPlace_stores _ hk
    try clear_value x1
    extract_lets -merge -underBinder +onlyGivenNames x2 x3 x4
    have hx4 : StSame R s x4 := foldl_stores _ hx1 (fun _ _ _ h5 => State.ledgerStep_stores _ _ h5 gREC)
    try clear_value x4
    extract_lets -merge -underBinder +onlyGivenNames x6 x7 x8
    have hx8 : StSame R s x8.1 := by
      refine StSame.ofEq ?_ (State.numberChanged_stores hx4)
      exact rfl
    try clear_value x8
    extract_lets -merge -underBinder +onlyGivenNames x9 x10
    have hx10 : StSame R s x10 := hx8
    try clear_value x10
    extract_lets -merge -underBinder +onlyGivenNames x11 x12 x13
    have hx13 : StSame R s x13 := by
      unfold x13
      refine foldl_stores _ ?_ ?_
      · exact hx10
      · intro s14_0 s14_1 hm hs14_1
        extract_lets -merge -underBinder +onlyGivenNames x15
        have hx15 : StSame R s x15 := State.sendEngine_stores _ _ _ _ _ _ _ hs14_1 gTXQ
        try clear_value x15
        exact State.modNode_stores _ _ hx15
    try clear_value x13
    extract_lets -merge -underBinder +onlyGivenNames x16
    have hx16 : StSame R s x16 := by
      unfold x16
      refine State.forPorts_stores ?_ ?_
      · exact hx13
      · intro s17_0 s17_1 hs17_1
        extract_lets -merge -underBinder +onlyGivenNames x18
        exact StSame.ite (fun _ => State.takeGrant_stores _ _ _ _ _ _ _ hs17_1) (fun _ => State.takeGrant_stores _ _ _ _ _ _ _ hs17_1)
    try clear_value x16
    extract_lets -merge -underBinder +onlyGivenNames x19
    have hx19 : StSame R s x19 := foldl_stores _ hx16 (fun _ _ _ h20 => State.modLed_stores _ _ h20)
    try clear_value x19
    extract_lets -merge -underBinder +onlyGivenNames x21
    have hx21 : StSame R s x21 := StSame.ite (fun _ => foldl_stores _ hx19 (fun _ _ _ h22 => State.recSet_stores _ _ _ _ _ h22 gREC)) (fun _ => hx19)
    try clear_value x21
    extract_lets -merge -underBinder +onlyGivenNames x23
    have hx23 : StSame R s x23 := State.put_stores _ _ _ (State.put_stores _ _ _ (State.put_stores _ _ _ hx21))
    try clear_value x23
    extract_lets -merge -underBinder +onlyGivenNames x24
    have hx24 : StSame R s x24 := State.modPlace_stores _ hx23
    try clear_value x24
    extract_lets -merge -underBinder +onlyGivenNames x25
    have hx25 : StSame R s x25 := State.raise_stores _ _ hx24
    try clear_value x25
    extract_lets -merge -underBinder +onlyGivenNames x26
    have hx26 : StSame R s x26 := State.raiseIf_stores _ _ _ (State.raiseIf_stores _ _ _ hx25)
    try clear_value x26
    refine Stores.ite (fun _ => ?_) (fun _ => ?_)
    · refine Stores.next ?_
      exact hk
    · refine Stores.next ?_
      exact State.raiseIf_stores _ _ _ hx26

theorem execGrantReceive_stores (gRXQ : ∀ x, 0xB0000 ≤ x → x < 0xB8000 → R x) (gDESC : ∀ x, 0xC0000 ≤ x → x < 0xD0000 → R x) : Stores R s (execGrantReceive s) := by
  have hk : StSame R s s := StSame.refl _ _
  unfold execGrantReceive
  refine Stores.next ?_
  refine State.withFrame_stores _ ?_ ?_
  · exact hk
  · intro s0_0 s0_1 hs0_2
    extract_lets -merge -underBinder +onlyGivenNames x1
    have hx1 : StSame R s x1 := StSame.ite (fun _ => State.leaseReload_stores _ hs0_2 gDESC) (fun _ => hs0_2)
    try clear_value x1
    exact State.rxqPut_stores _ _ _ _ hx1 gRXQ gDESC

theorem execGrantApply_stores (entry : Option (Fin 64)) (gPD : ∀ (m : Port) x, 0x4000 * m.val ≤ x → x < 0x4000 * m.val + 0x4000 → R x) (gDESC : ∀ x, 0xC0000 ≤ x → x < 0xD0000 → R x) : Stores R s (execGrantApply entry s) := by
  have hk : StSame R s s := StSame.refl _ _
  unfold execGrantApply
  refine Stores.next ?_
  refine State.policy_stores ?_ ?_
  · exact hk
  · intro s0_0 hs0_1
    extract_lets -merge -underBinder +onlyGivenNames x1
    have hx1 : StSame R s x1 := by
      unfold x1
      split
      · extract_lets -merge -underBinder +onlyGivenNames x2
        have hx2 : StSame R s x2 := State.stNote_stores _ _ _ hs0_1
        try clear_value x2
        exact StSame.ite (fun _ => State.rxRelease_stores _ (State.takeGrants_stores _ hx2)) (fun _ => hx2)
      · exact hs0_1
    try clear_value x1
    exact State.forPorts_stores hx1 (fun _ _ h3 => State.startGrant_stores _ h3 (gPD _) gDESC)

theorem execDecConfirmTimeout_stores (n : Port) (gPD : ∀ x, 0x4000 * n.val ≤ x → x < 0x4000 * n.val + 0x4000 → R x) (gDESC : ∀ x, 0xC0000 ≤ x → x < 0xD0000 → R x) : Stores R s (execDecConfirmTimeout n s) := by
  have hk : StSame R s s := StSame.refl _ _
  unfold execDecConfirmTimeout
  refine Stores.next ?_
  refine State.policy_stores ?_ ?_
  · exact hk
  · intro s0_0 hs0_1
    extract_lets -merge -underBinder +onlyGivenNames x1
    exact StSame.ite (fun _ => State.hardResetStart_stores _ hs0_1 gPD gDESC) (fun _ => hs0_1)

theorem execContractSend_stores (periodic : Bool) (gREC : ∀ x, 0x60000 ≤ x → x < 0x64200 → R x) (gTXQ : ∀ x, 0xB8000 ≤ x → x < 0xC0000 → R x) : Stores R s (execContractSend periodic s) := by
  have hk : StSame R s s := StSame.refl _ _
  unfold execContractSend
  refine Stores.next ?_
  refine State.policy_stores ?_ ?_
  · exact hk
  · intro s0_0 hs0_1
    extract_lets -merge -underBinder +onlyGivenNames x1
    have hx1 : StSame R s x1 := State.forPorts_stores hs0_1 (fun _ _ h2 => State.ackOwn_stores _ h2)
    try clear_value x1
    extract_lets -merge -underBinder +onlyGivenNames x3
    refine StSame.ite (fun _ => ?_) (fun _ => ?_)
    · refine State.forPorts_stores ?_ ?_
      · exact hx1
      · intro s4_0 s4_1 hs4_1
        extract_lets -merge -underBinder +onlyGivenNames x5
        exact StSame.ite (fun _ => State.ledgerConfirm_stores _ _ _ _ _ hs4_1 gREC) (fun _ => hs4_1)
    · exact StSame.ite (fun _ => State.modPlace_stores _ (State.sendEngine_stores _ _ _ _ _ _ _ hx1 gTXQ)) (fun _ => hx1)

theorem execContractReceive_stores (entry : Fin 64) (gREC : ∀ x, 0x60000 ≤ x → x < 0x64200 → R x) : Stores R s (execContractReceive entry s) := by
  have hk : StSame R s s := StSame.refl _ _
  unfold execContractReceive
  refine Stores.next ?_
  refine State.policy_stores ?_ ?_
  · exact hk
  · intro s0_0 hs0_1
    extract_lets -merge -underBinder +onlyGivenNames x1
    have hx1 : StSame R s x1 := State.stNote_stores _ _ _ hs0_1
    try clear_value x1
    extract_lets -merge -underBinder +onlyGivenNames x2 x3 x4 x5
    have hx5 : StSame R s x5 := State.setMapBit_stores _ _ _ _ (State.raise_stores _ _ hx1)
    try clear_value x5
    extract_lets -merge -underBinder +onlyGivenNames x6
    have hx6 : StSame R s x6 := StSame.ite (fun _ => State.modNode_stores _ _ hx5) (fun _ => hx1)
    try clear_value x6
    extract_lets -merge -underBinder +onlyGivenNames x7 x8
    have hx8 : StSame R s x8 := State.modNode_stores _ _ hx6
    try clear_value x8
    extract_lets -merge -underBinder +onlyGivenNames x9
    have hx9 : StSame R s x9 := foldl_stores _ hx8 (fun _ _ _ h10 => State.contractTake_stores _ _ _ h10 gREC)
    try clear_value x9
    exact StSame.ite (fun _ => hx1) (fun _ => State.rxRelease_stores _ (State.cutCheck_stores hx9))

theorem execDemandCompute_stores (soc : List (Fin 8 × ℕ)) (gREC : ∀ x, 0x60000 ≤ x → x < 0x64200 → R x) : Stores R s (execDemandCompute soc s) := by
  have hk : StSame R s s := StSame.refl _ _
  unfold execDemandCompute
  refine Stores.next ?_
  refine State.policy_stores ?_ ?_
  · exact hk
  · intro s0_0 hs0_1
    extract_lets -merge -underBinder +onlyGivenNames x1
    have hx1 : StSame R s x1 := foldl_stores _ hs0_1 (fun _ _ _ h2 => State.modPlace_stores _ h2)
    try clear_value x1
    refine State.forPorts_stores ?_ ?_
    · exact hx1
    · intro s3_0 s3_1 hs3_1
      extract_lets -merge -underBinder +onlyGivenNames x4 x5 x6 x7
      have hx7 : StSame R s x7 := State.telNote_stores _ _ hs3_1
      try clear_value x7
      extract_lets -merge -underBinder +onlyGivenNames x8
      have hx8 : StSame R s x8 := State.modPlace_stores _ hx7
      try clear_value x8
      exact StSame.ite (fun _ => State.recSet_stores _ _ _ _ _ hx8 gREC) (fun _ => hx8)

theorem execTelemSend_stores (gTXQ : ∀ x, 0xB8000 ≤ x → x < 0xC0000 → R x) : Stores R s (execTelemSend s) := by
  have hk : StSame R s s := StSame.refl _ _
  unfold execTelemSend
  refine Stores.next ?_
  refine State.policy_stores ?_ ?_
  · exact hk
  · intro s0_0 hs0_1
    extract_lets -merge -underBinder +onlyGivenNames x1
    have hx1 : StSame R s x1 := State.sendEngine_stores _ _ _ _ _ _ _ hs0_1 gTXQ
    try clear_value x1
    extract_lets -merge -underBinder +onlyGivenNames x2
    have hx2 : StSame R s x2 := State.forPorts_stores hx1 (fun _ _ h3 => State.telNote_stores _ _ h3)
    try clear_value x2
    refine StSame.ite (fun _ => ?_) (fun _ => ?_)
    · exact hs0_1
    · refine State.forPorts_stores ?_ ?_
      · exact hx2
      · intro s4_0 s4_1 hs4_1
        extract_lets -merge -underBinder +onlyGivenNames x5
        exact State.modPlace_stores _ hs4_1

theorem execTelemReceive_stores (entry : Fin 64) (gREC : ∀ x, 0x60000 ≤ x → x < 0x64200 → R x) (gENG : ∀ x, 0x90000 ≤ x → x < 0x92000 → R x) : Stores R s (execTelemReceive entry s) := by
  have hk : StSame R s s := StSame.refl _ _
  unfold execTelemReceive
  refine Stores.next ?_
  refine State.policy_stores ?_ ?_
  · exact hk
  · intro s0_0 hs0_1
    extract_lets -merge -underBinder +onlyGivenNames x1
    have hx1 : StSame R s x1 := State.stNote_stores _ _ _ hs0_1
    try clear_value x1
    extract_lets -merge -underBinder +onlyGivenNames x2 x3 x4
    have hx4 : StSame R s x4 := by
      unfold x4
      refine foldl_stores _ ?_ ?_
      · exact hx1
      · intro s5_0 s5_1 hm hs5_1
        extract_lets -merge -underBinder +onlyGivenNames x6 x7 x8 x9
        have hx9 : StSame R s x9 := State.modLed_stores _ _ hs5_1
        try clear_value x9
        extract_lets -merge -underBinder +onlyGivenNames x10
        have hx10 : StSame R s x10 := StSame.ite (fun _ => State.recSet_stores _ _ _ _ _ hx9 gREC) (fun _ => hx9)
        try clear_value x10
        exact State.energyAdd_stores _ _ hx10 gENG
    try clear_value x4
    exact StSame.ite (fun _ => hx1) (fun _ => State.rxRelease_stores _ hx4)

theorem execLeaseRenewing_stores : Stores R s (execLeaseRenewing s) := by
  have hk : StSame R s s := StSame.refl _ _
  unfold execLeaseRenewing
  refine Stores.next ?_
  exact StSame.ite (fun _ => State.put_stores _ _ _ hk) (fun _ => hk)

theorem execLeaseExpire_stores (gDESC : ∀ x, 0xC0000 ≤ x → x < 0xD0000 → R x) : Stores R s (execLeaseExpire s) := by
  have hk : StSame R s s := StSame.refl _ _
  unfold execLeaseExpire
  refine Stores.next ?_
  exact StSame.ite (fun _ => State.leaseEvt_stores _ (State.modPlace_stores _ (State.put_stores _ _ _ (State.put_stores _ _ _ hk))) gDESC) (fun _ => hk)

theorem execOrphanDecay_stores : Stores R s (execOrphanDecay s) := by
  have hk : StSame R s s := StSame.refl _ _
  unfold execOrphanDecay
  refine Stores.next ?_
  refine State.policy_stores ?_ ?_
  · exact hk
  · intro s0_0 hs0_1
    extract_lets -merge -underBinder +onlyGivenNames x1 x2
    have hx2 : StSame R s x2 := by
      unfold x2
      refine State.forPorts_stores ?_ ?_
      · exact hs0_1
      · intro s3_0 s3_1 hs3_1
        extract_lets -merge -underBinder +onlyGivenNames x4
        exact StSame.ite (fun _ => State.takeGrant_stores _ _ _ _ _ _ _ hs3_1) (fun _ => hs3_1)
    try clear_value x2
    exact StSame.ite (fun _ => hs0_1) (fun _ => StSame.ite (fun _ => State.floorDone_stores hx2) (fun _ => hx2))

theorem execPlaceCmdFloorDone_stores (key : BitVec 16) : Stores R s (execPlaceCmdFloorDone key s) := by
  have hk : StSame R s s := StSame.refl _ _
  unfold execPlaceCmdFloorDone
  refine Stores.next ?_
  exact State.keyCmd_stores _ _ _ hk (fun _ h0 => State.floorDone_stores h0)

theorem execNodeOrphaned_stores (node : Fin 64) : Stores R s (execNodeOrphaned node s) := by
  have hk : StSame R s s := StSame.refl _ _
  unfold execNodeOrphaned
  refine Stores.next ?_
  refine State.policy_stores ?_ ?_
  · exact hk
  · intro s0_0 hs0_1
    extract_lets -merge -underBinder +onlyGivenNames x1 x2
    have hx2 : StSame R s x2 := State.modNode_stores _ _ hs0_1
    try clear_value x2
    exact StSame.ite (fun _ => State.setMapBit_stores _ _ _ _ (State.raise_stores _ _ hx2)) (fun _ => hs0_1)

theorem execNodeCommitRelease_stores (node : Fin 64) (gREC : ∀ x, 0x60000 ≤ x → x < 0x64200 → R x) : Stores R s (execNodeCommitRelease node s) := by
  have hk : StSame R s s := StSame.refl _ _
  unfold execNodeCommitRelease
  refine Stores.next ?_
  refine State.policy_stores ?_ ?_
  · exact hk
  · intro s0_0 hs0_1
    extract_lets -merge -underBinder +onlyGivenNames x1
    split
    · exact hs0_1
    · extract_lets -merge -underBinder +onlyGivenNames x2
      have hx2 : StSame R s x2 := State.modNode_stores _ _ hs0_1
      try clear_value x2
      refine StSame.ite (fun _ => ?_) (fun _ => ?_)
      · exact hs0_1
      · refine foldl_stores _ ?_ ?_
        · exact hx2
        · intro s3_0 s3_1 hm hs3_1
          extract_lets -merge -underBinder +onlyGivenNames x4
          exact StSame.ite (fun _ => State.modLed_stores _ _ (State.recLedger_stores _ _ _ _ hs3_1 gREC)) (fun _ => hs3_1)

theorem execLedgerMirrorSend_stores (gTXQ : ∀ x, 0xB8000 ≤ x → x < 0xC0000 → R x) : Stores R s (execLedgerMirrorSend s) := by
  have hk : StSame R s s := StSame.refl _ _
  unfold execLedgerMirrorSend
  refine Stores.next ?_
  refine State.policy_stores ?_ ?_
  · exact hk
  · intro s0_0 hs0_1
    refine StSame.ite (fun _ => ?_) (fun _ => ?_)
    · exact hs0_1
    · split
      · exact hs0_1
      · extract_lets -merge -underBinder +onlyGivenNames x1
        have hx1 : StSame R s x1 := foldl_stores _ hs0_1 (fun _ _ _ h2 => State.sendEngine_stores _ _ _ _ _ _ _ h2 gTXQ)
        try clear_value x1
        extract_lets -merge -underBinder +onlyGivenNames x3
        have hx3 : StSame R s x3 := foldl_stores _ hx1 (fun _ _ _ h4 => State.sendEngine_stores _ _ _ _ _ _ _ h4 gTXQ)
        try clear_value x3
        exact State.modPlace_stores _ hx3

theorem execLedgerReceive_stores (entry : Fin 64) (gREC : ∀ x, 0x60000 ≤ x → x < 0x64200 → R x) (gPAIR : ∀ x, 0x68000 ≤ x → x < 0x68200 → R x) : Stores R s (execLedgerReceive entry s) := by
  have hk : StSame R s s := StSame.refl _ _
  unfold execLedgerReceive
  refine Stores.next ?_
  refine State.policy_stores ?_ ?_
  · exact hk
  · intro s0_0 hs0_1
    extract_lets -merge -underBinder +onlyGivenNames x1
    have hx1 : StSame R s x1 := State.stNote_stores _ _ _ hs0_1
    try clear_value x1
    extract_lets -merge -underBinder +onlyGivenNames x2 x3 x4 x5 x6 x7
    have hx7 : StSame R s x7 := by
      unfold x7
      refine foldl_stores _ ?_ ?_
      · exact hx1
      · intro s8_0 s8_1 hm hs8_1
        extract_lets -merge -underBinder +onlyGivenNames x9 x10
        exact StSame.ite (fun _ => hs8_1) (fun _ => State.recSet_stores _ _ _ _ _ hs8_1 gREC)
    try clear_value x7
    extract_lets -merge -underBinder +onlyGivenNames x11 x12 x13 x14 x15 x16
    have hx16 : StSame R s x16 := State.modPlace_stores _ hx7
    try clear_value x16
    extract_lets -merge -underBinder +onlyGivenNames x17
    have hx17 : StSame R s x17 := StSame.ite (fun _ => State.stWrite_stores _ _ hx1 (fun x h1 h2 => by
      have hp := length_rxPayload x1 entry.val
      simp +zetaDelta only [List.length_append, length_leBytes] at h2 hp
      exact gPAIR x (by omega) (by omega))) (fun _ => StSame.ite (fun _ => hx1) (fun _ => State.putB_stores _ _ _ hx16))
    try clear_value x17
    exact StSame.ite (fun _ => State.rxRelease_stores _ (StSame.ite (fun _ => State.stWrite_stores _ _ hx1 (fun x h1 h2 => by
      have hl := List.length_take_le 32 (List.drop 4 x2)
      exact gREC x (by omega) (by omega))) (fun _ => hx1))) (fun _ => StSame.ite (fun _ => hx1) (fun _ => State.rxRelease_stores _ hx17))

theorem execLedgerRebuild_stores (rec : Fin 512) (cfg : Option (BitVec 32 × BitVec 32)) (gREC : ∀ x, 0x60000 ≤ x → x < 0x64200 → R x) : Stores R s (execLedgerRebuild rec cfg s) := by
  have hk : StSame R s s := StSame.refl _ _
  unfold execLedgerRebuild
  refine Stores.next ?_
  refine State.policy_stores ?_ ?_
  · exact hk
  · intro s0_0 hs0_1
    extract_lets -merge -underBinder +onlyGivenNames x1 x2 x3
    have hx3 : StSame R s x3 := State.raise_stores _ _ (State.stNote_stores _ _ _ hs0_1)
    try clear_value x3
    refine StSame.ite (fun _ => ?_) (fun _ => ?_)
    · exact hs0_1
    · split
      · exact hx3
      · extract_lets -merge -underBinder +onlyGivenNames x4
        extract_lets -merge -underBinder +onlyGivenNames x5 x6 x7 x8
        have hx8 : StSame R s x8 := State.stWrite_stores _ _ hx3 (fun x h1 h2 => gREC x (by (try simp +zetaDelta only [length_leBytes, List.length_append, List.length_replicate, List.length_take, List.length_drop, List.length_cons, List.length_nil, length_padTo, length_rxEntry, Desc.length_bytes, length_stRead, length_gaugeBytes, txAt, rxBufAt, txBufAt, rxRecAt, descAt, snapAt, recAt, rxfAt, txfAt, maskAt, marksAt, -List.reduceReplicate] at h1 h2); omega) (by (try simp +zetaDelta only [length_leBytes, List.length_append, List.length_replicate, List.length_take, List.length_drop, List.length_cons, List.length_nil, length_padTo, length_rxEntry, Desc.length_bytes, length_stRead, length_gaugeBytes, txAt, rxBufAt, txBufAt, rxRecAt, descAt, snapAt, recAt, rxfAt, txfAt, maskAt, marksAt, -List.reduceReplicate] at h1 h2); omega))
        try clear_value x8
        extract_lets -merge -underBinder +onlyGivenNames x9
        have hx9 : StSame R s x9 := State.recPut_stores _ _ _ hx8 gREC
        try clear_value x9
        exact StSame.ite (fun _ => hx9) (fun _ => State.modLed_stores _ _ hx9)

theorem execPortSelWrite_stores (node : BitVec 7) (port : BitVec 3) : Stores R s (execPortSelWrite node port s) := by
  have hk : StSame R s s := StSame.refl _ _
  unfold execPortSelWrite
  refine Stores.next ?_
  exact State.cmd_stores _ hk (fun _ h0 => State.portLoad_stores (State.put_stores _ _ _ (State.put_stores _ _ _ h0)))

theorem execPoolSelWrite_stores (pool : BitVec 4) : Stores R s (execPoolSelWrite pool s) := by
  have hk : StSame R s s := StSame.refl _ _
  unfold execPoolSelWrite
  refine Stores.next ?_
  exact State.cmd_stores _ hk (fun _ h0 => State.poolLoad_stores (State.put_stores _ _ _ h0))

theorem execPlaceWindowWrite_stores (reg : Fin 5) (v : BitVec 32) (gREC : ∀ x, 0x60000 ≤ x → x < 0x64200 → R x) : Stores R s (execPlaceWindowWrite reg v s) := by
  have hk : StSame R s s := StSame.refl _ _
  unfold execPlaceWindowWrite
  refine Stores.next ?_
  exact State.cmd_stores _ hk (fun _ h0 => State.windowWrite_stores _ _ h0 gREC)

theorem execEnergyConversion_stores : Stores R s (execEnergyConversion s) := by
  have hk : StSame R s s := StSame.refl _ _
  unfold execEnergyConversion
  refine Stores.next ?_
  refine State.policy_stores ?_ ?_
  · exact hk
  · intro s0_0 hs0_1
    extract_lets -merge -underBinder +onlyGivenNames x1
    have hx1 : StSame R s x1 := by
      unfold x1
      refine State.forPorts_stores ?_ ?_
      · exact hs0_1
      · intro s2_0 s2_1 hs2_1
        extract_lets -merge -underBinder +onlyGivenNames x3 x4 x5
        have hx5 : StSame R s x5 := State.raiseIf_stores _ _ _ hs2_1
        try clear_value x5
        exact State.put_stores _ _ _ (State.put_stores _ _ _ hx5)
    try clear_value x1
    exact State.put_stores _ _ _ hx1

theorem execEngyCmdClear_stores (ports : BitVec 8) (key : BitVec 16) : Stores R s (execEngyCmdClear ports key s) := by
  have hk : StSame R s s := StSame.refl _ _
  unfold execEngyCmdClear
  refine Stores.next ?_
  exact State.keyCmd_stores _ _ _ hk (fun _ h0 => State.engyClearCmd_stores _ h0)

theorem execTwinFrameSend_stores (gTXQ : ∀ x, 0xB8000 ≤ x → x < 0xC0000 → R x) : Stores R s (execTwinFrameSend s) := by
  have hk : StSame R s s := StSame.refl _ _
  unfold execTwinFrameSend
  refine Stores.next ?_
  exact State.policy_stores hk (fun _ h0 => StSame.ite (fun _ => h0) (fun _ => State.sendEngine_stores _ _ _ _ _ _ _ h0 gTXQ))

theorem execMirWrite_stores (w7 : BitVec 32) : Stores R s (execMirWrite w7 s) := by
  have hk : StSame R s s := StSame.refl _ _
  unfold execMirWrite
  refine Stores.next ?_
  exact State.cmd_stores _ hk (fun _ h0 => State.mirWrite_stores _ h0)

theorem execTwinFrameReceive_stores (entry : Fin 64) : Stores R s (execTwinFrameReceive entry s) := by
  have hk : StSame R s s := StSame.refl _ _
  unfold execTwinFrameReceive
  refine Stores.next ?_
  refine State.policy_stores ?_ ?_
  · exact hk
  · intro s0_0 hs0_1
    extract_lets -merge -underBinder +onlyGivenNames x1
    have hx1 : StSame R s x1 := State.stNote_stores _ _ _ hs0_1
    try clear_value x1
    extract_lets -merge -underBinder +onlyGivenNames x2 x3 x4
    have hx4 : StSame R s x4 := StSame.mk' hx1
    try clear_value x4
    extract_lets -merge -underBinder +onlyGivenNames x5
    have hx5 : StSame R s x5 := foldl_stores _ hx4 (fun _ _ _ h6 => State.twinEntryTake_stores _ h6)
    try clear_value x5
    exact StSame.ite (fun _ => hx1) (fun _ => State.rxRelease_stores _ hx5)

theorem execRpLost_stores (n : Port) (gPD : ∀ x, 0x4000 * n.val ≤ x → x < 0x4000 * n.val + 0x4000 → R x) (gDESC : ∀ x, 0xC0000 ≤ x → x < 0xD0000 → R x) (gSNAP : ∀ x, 0x100000 + 32 * n.val ≤ x → x < 0x100020 + 32 * n.val → R x) : Stores R s (execRpLost n s) := by
  have hk : StSame R s s := StSame.refl _ _
  unfold execRpLost
  refine Stores.next ?_
  exact StSame.ite (fun _ => State.twinOrder_stores _ _ (State.rpLost_stores _ hk) gPD gDESC gSNAP) (fun _ => hk)

theorem execTwinTakeover_stores (n : Port) (gPD : ∀ x, 0x4000 * n.val ≤ x → x < 0x4000 * n.val + 0x4000 → R x) (gDESC : ∀ x, 0xC0000 ≤ x → x < 0xD0000 → R x) (gSNAP : ∀ x, 0x100000 + 32 * n.val ≤ x → x < 0x100020 + 32 * n.val → R x) : Stores R s (execTwinTakeover n s) := by
  have hk : StSame R s s := StSame.refl _ _
  unfold execTwinTakeover
  refine Stores.next ?_
  exact StSame.ite (fun _ => State.twinOrder_stores _ _ hk gPD gDESC gSNAP) (fun _ => hk)

theorem execTwinCmdTakeover_stores (ports : BitVec 8) (key : BitVec 16) (gPD : ∀ (m : Port) x, 0x4000 * m.val ≤ x → x < 0x4000 * m.val + 0x4000 → R x) (gDESC : ∀ x, 0xC0000 ≤ x → x < 0xD0000 → R x) (gSNAP : ∀ (m : Port) x, 0x100000 + 32 * m.val ≤ x → x < 0x100020 + 32 * m.val → R x) : Stores R s (execTwinCmdTakeover ports key s) := by
  have hk : StSame R s s := StSame.refl _ _
  unfold execTwinCmdTakeover
  refine Stores.next ?_
  exact State.keyCmd_stores _ _ _ hk (fun _ h0 => State.twinCmd_stores _ h0 gPD gDESC gSNAP)

theorem execTakeoverTask_stores (gPD : ∀ (m : Port) x, 0x4000 * m.val ≤ x → x < 0x4000 * m.val + 0x4000 → R x) (gDESC : ∀ x, 0xC0000 ≤ x → x < 0xD0000 → R x) : Stores R s (execTakeoverTask s) := by
  have hk : StSame R s s := StSame.refl _ _
  unfold execTakeoverTask
  refine Stores.next ?_
  refine State.policy_stores ?_ ?_
  · exact hk
  · intro s0_0 hs0_1
    extract_lets -merge -underBinder +onlyGivenNames x1 x2
    have hx2 : StSame R s x2 := StSame.ite (fun _ => State.bump_stores _ _ _ (State.fwSend_stores _ _ _ _ _ hs0_1 (gPD _))) (fun _ => hs0_1)
    try clear_value x2
    exact StSame.ite (fun _ => hs0_1) (fun _ => StSame.ite (fun _ => State.hardResetStart_stores _ hx2 (gPD _) gDESC) (fun _ => State.writeIlim_stores _ hx2))

theorem execTwinJoin_stores (n : Port) : Stores R s (execTwinJoin n s) := by
  have hk : StSame R s s := StSame.refl _ _
  unfold execTwinJoin
  refine Stores.next ?_
  exact StSame.ite (fun _ => State.joinGuard_stores _ hk) (fun _ => hk)

theorem execTwinRoleChoice_stores (n : Port) : Stores R s (execTwinRoleChoice n s) := by
  have hk : StSame R s s := StSame.refl _ _
  unfold execTwinRoleChoice
  refine Stores.next ?_
  exact State.policy_stores hk (fun _ h0 => StSame.ite (fun _ => h0) (fun _ => StSame.ite (fun _ => State.lockedWrite_stores _ h0) (fun _ => StSame.ite (fun _ => State.put_stores _ _ _ h0) (fun _ => StSame.ite (fun _ => State.claimNow_stores _ (State.put_stores _ _ _ h0)) (fun _ => State.put_stores _ _ _ h0)))))

theorem execTwinClaimYield_stores (n : Port) : Stores R s (execTwinClaimYield n s) := by
  have hk : StSame R s s := StSame.refl _ _
  unfold execTwinClaimYield
  refine Stores.next ?_
  refine State.policy_stores ?_ ?_
  · exact hk
  · intro s0_0 hs0_1
    extract_lets -merge -underBinder +onlyGivenNames x1 x2
    have hx2 : StSame R s x2 := State.put_stores _ _ _ hs0_1
    try clear_value x2
    extract_lets -merge -underBinder +onlyGivenNames x3
    have hx3 : StSame R s x3 := StSame.ite (fun _ => State.lockedWrite_stores _ hx2) (fun _ => State.put_stores _ _ _ hx2)
    try clear_value x3
    exact StSame.ite (fun _ => State.modTw_stores _ _ hx3) (fun _ => hs0_1)

theorem execPairLedger_stores (gTXQ : ∀ x, 0xB8000 ≤ x → x < 0xC0000 → R x) : Stores R s (execPairLedger s) := by
  have hk : StSame R s s := StSame.refl _ _
  unfold execPairLedger
  refine Stores.next ?_
  refine State.policy_stores ?_ ?_
  · exact hk
  · intro s0_0 hs0_1
    extract_lets -merge -underBinder +onlyGivenNames x1 x2
    exact StSame.ite (fun _ => hs0_1) (fun _ => State.sendEngine_stores _ _ _ _ _ _ _ hs0_1 gTXQ)

theorem execCcConversion_stores (shorted : Bool) (code : BitVec 16) : Stores R s (execCcConversion shorted code s) := by
  have hk : StSame R s s := StSame.refl _ _
  unfold execCcConversion
  refine Stores.next ?_
  extract_lets -merge -underBinder +onlyGivenNames x0 x1 x2
  have hx2 : StSame R s x2 := State.modGauge_stores _ hk
  try clear_value x2
  extract_lets -merge -underBinder +onlyGivenNames x3
  have hx3 : StSame R s x3 := State.put_stores _ _ _ (State.setAcc_stores _ hx2)
  try clear_value x3
  extract_lets -merge -underBinder +onlyGivenNames x4
  have hx4 : StSame R s x4 := State.raise_stores _ _ (State.put_stores _ _ _ hx3)
  try clear_value x4
  extract_lets -merge -underBinder +onlyGivenNames x5
  have hx5 : StSame R s x5 := State.modGauge_stores _ hx4
  try clear_value x5
  exact StSame.ite (fun _ => hk) (fun _ => StSame.ite (fun _ => StSame.ite (fun _ => State.disqualify_stores _ hx5) (fun _ => hx5)) (fun _ => hx3))

theorem execGaugeMeasure_stores (mv : ℕ) (tsBid : Option (ℤ × ℕ)) : Stores R s (execGaugeMeasure mv tsBid s) := by
  have hk : StSame R s s := StSame.refl _ _
  unfold execGaugeMeasure
  refine Stores.next ?_
  extract_lets -merge -underBinder +onlyGivenNames x0
  have hx0 : StSame R s x0 := State.put_stores _ _ _ hk
  try clear_value x0
  extract_lets -merge -underBinder +onlyGivenNames x1
  have hx1 : StSame R s x1 := State.put_stores _ _ _ hx0
  try clear_value x1
  extract_lets -merge -underBinder +onlyGivenNames x2
  have hx2 : StSame R s x2 := State.put_stores _ _ _ hx1
  try clear_value x2
  extract_lets -merge -underBinder +onlyGivenNames x3
  have hx3 : StSame R s x3 := State.modGauge_stores _ hx2
  try clear_value x3
  refine StSame.ite (fun _ => ?_) (fun _ => ?_)
  · exact hk
  · split
    · exact State.tsBid_stores _ _ hx3
    · exact hx3

theorem execCellMismatch_stores : Stores R s (execCellMismatch s) := by
  have hk : StSame R s s := StSame.refl _ _
  unfold execCellMismatch
  refine Stores.next ?_
  refine State.policy_stores ?_ ?_
  · exact hk
  · intro s0_0 hs0_1
    extract_lets -merge -underBinder +onlyGivenNames x1
    have hx1 : StSame R s x1 := State.raiseIf_stores _ _ _ hs0_1
    try clear_value x1
    extract_lets -merge -underBinder +onlyGivenNames x2
    have hx2 : StSame R s x2 := State.put_stores _ _ _ (State.put_stores _ _ _ hx1)
    try clear_value x2
    exact StSame.ite (fun _ => hs0_1) (fun _ => State.modGauge_stores _ hx2)

theorem execGaugeRun_stores (gGREC : ∀ x, 0x100180 ≤ x → x < 0x1001C0 → R x) : Stores R s (execGaugeRun s) := by
  have hk : StSame R s s := StSame.refl _ _
  unfold execGaugeRun
  refine Stores.next ?_
  exact State.policy_stores hk (fun _ h0 => StSame.ite (fun _ => State.gaugeRun_stores h0 gGREC) (fun _ => h0))

theorem execPackInsert_stores (gDESC : ∀ x, 0xC0000 ≤ x → x < 0xD0000 → R x) : Stores R s (execPackInsert s) := by
  have hk : StSame R s s := StSame.refl _ _
  unfold execPackInsert
  refine Stores.next ?_
  extract_lets -merge -underBinder +onlyGivenNames x0 x1
  have hx1 : StSame R s x1 := State.putB_stores _ _ _ (State.put_stores _ _ _ hk)
  try clear_value x1
  extract_lets -merge -underBinder +onlyGivenNames x2
  have hx2 : StSame R s x2 := State.put_stores _ _ _ hx1
  try clear_value x2
  extract_lets -merge -underBinder +onlyGivenNames x3
  have hx3 : StSame R s x3 := State.raiseIf_stores _ _ _ (State.raise_stores _ _ hx2)
  try clear_value x3
  extract_lets -merge -underBinder +onlyGivenNames x4
  have hx4 : StSame R s x4 := State.gaugePost_stores hx3 gDESC
  try clear_value x4
  extract_lets -merge -underBinder +onlyGivenNames x5 x6
  have hx6 : StSame R s x6 := StSame.ite (fun _ => hx4) (fun _ => StSame.ite (fun _ => State.profLoad_stores _ hx4) (fun _ => State.packLoad_stores hx4))
  try clear_value x6
  exact StSame.ite (fun _ => hk) (fun _ => State.modGauge_stores _ hx6)

theorem execPackRemove_stores (gDESC : ∀ x, 0xC0000 ≤ x → x < 0xD0000 → R x) : Stores R s (execPackRemove s) := by
  have hk : StSame R s s := StSame.refl _ _
  unfold execPackRemove
  refine Stores.next ?_
  extract_lets -merge -underBinder +onlyGivenNames x0
  have hx0 : StSame R s x0 := State.raise_stores _ _ (State.put_stores _ _ _ hk)
  try clear_value x0
  extract_lets -merge -underBinder +onlyGivenNames x1
  have hx1 : StSame R s x1 := State.gaugePost_stores hx0 gDESC
  try clear_value x1
  extract_lets -merge -underBinder +onlyGivenNames x2
  have hx2 : StSame R s x2 := State.modGauge_stores _ hx1
  try clear_value x2
  exact StSame.ite (fun _ => hk) (fun _ => StSame.ite (fun _ => State.disqualify_stores _ (State.put_stores _ _ _ hx2)) (fun _ => hx2))

theorem execAonPresenceSample_stores (bid : ℕ) (temp : ℤ) : Stores R s (execAonPresenceSample bid temp s) := by
  have hk : StSame R s s := StSame.refl _ _
  unfold execAonPresenceSample
  refine Stores.next ?_
  exact StSame.ite (fun _ => State.put_stores _ _ _ hk) (fun _ => hk)

theorem execBatidClearSwap_stores (key : BitVec 16) : Stores R s (execBatidClearSwap key s) := by
  have hk : StSame R s s := StSame.refl _ _
  unfold execBatidClearSwap
  refine Stores.next ?_
  exact State.keyCmd_stores _ _ _ hk (fun _ h0 => State.clearSwap_stores h0)

theorem execLearnCmdAbort_stores (key : BitVec 16) : Stores R s (execLearnCmdAbort key s) := by
  have hk : StSame R s s := StSame.refl _ _
  unfold execLearnCmdAbort
  refine Stores.next ?_
  exact State.keyCmd_stores _ _ _ hk (fun _ h0 => State.learnAbort_stores h0)

theorem execLearnCmdForget_stores (key : BitVec 16) : Stores R s (execLearnCmdForget key s) := by
  have hk : StSame R s s := StSame.refl _ _
  unfold execLearnCmdForget
  refine Stores.next ?_
  exact State.keyCmd_stores _ _ _ hk (fun _ h0 => State.learnForget_stores h0)

theorem execBatteryAnswer_stores (n : Port) (i : Fin 64) (gPD : ∀ x, 0x4000 * n.val ≤ x → x < 0x4000 * n.val + 0x4000 → R x) : Stores R s (execBatteryAnswer n i s) := by
  have hk : StSame R s s := StSame.refl _ _
  unfold execBatteryAnswer
  refine Stores.next ?_
  exact State.policy_stores hk (fun _ h0 => StSame.ite (fun _ => State.answer_stores _ _ _ _ h0 gPD) (fun _ => h0))

theorem execRstReq_stores (key : BitVec 16) : Stores R s (execRstReq key s) := by
  have hk : StSame R s s := StSame.refl _ _
  unfold execRstReq
  refine Stores.next ?_
  exact State.keyCmd_stores _ _ _ hk (fun _ h0 => State.rstReq_stores h0)

theorem execPortRst_stores (ports : BitVec 8) (key : BitVec 16) (gPD : ∀ (m : Port) x, 0x4000 * m.val ≤ x → x < 0x4000 * m.val + 0x4000 → R x) (gDESC : ∀ x, 0xC0000 ≤ x → x < 0xD0000 → R x) (gSNAP : ∀ (m : Port) x, 0x100000 + 32 * m.val ≤ x → x < 0x100020 + 32 * m.val → R x) : Stores R s (execPortRst ports key s) := by
  have hk : StSame R s s := StSame.refl _ _
  unfold execPortRst
  refine Stores.next ?_
  exact State.keyCmd_stores _ _ _ hk (fun _ h0 => State.portRst_stores _ h0 gPD gDESC gSNAP)

theorem execBlockReset_stores (pg : BitVec 8) (gPD : ∀ (m : Port) x, 0x4000 * m.val ≤ x → x < 0x4000 * m.val + 0x4000 → R x) (gDESC : ∀ x, 0xC0000 ≤ x → x < 0xD0000 → R x) (gSNAP : ∀ (m : Port) x, 0x100000 + 32 * m.val ≤ x → x < 0x100020 + 32 * m.val → R x) (gTXQ : ∀ x, 0xB8000 ≤ x → x < 0xC0000 → R x) : Stores R s (execBlockReset pg s) := by
  have hk : StSame R s s := StSame.refl _ _
  unfold execBlockReset
  refine Stores.next ?_
  refine State.cmd_stores _ ?_ ?_
  · exact hk
  · intro s0_0 hs0_1
    split
    · exact hs0_1
    · exact StSame.ite (fun _ => hs0_1) (fun _ => State.blockReset_stores _ hs0_1 gPD gDESC gSNAP gTXQ)

theorem execBlockResetDone_stores (pg : BitVec 8) : Stores R s (execBlockResetDone pg s) := by
  have hk : StSame R s s := StSame.refl _ _
  unfold execBlockResetDone
  refine Stores.next ?_
  exact StSame.ite (fun _ => State.blockDone_stores _ hk) (fun _ => hk)

theorem execFreeze_stores (pg : BitVec 8) (on : Bool) : Stores R s (execFreeze pg on s) := by
  have hk : StSame R s s := StSame.refl _ _
  unfold execFreeze
  refine Stores.next ?_
  refine State.cmd_stores _ ?_ ?_
  · exact hk
  · intro s0_0 hs0_1
    split
    · exact hs0_1
    · exact StSame.ite (fun _ => hs0_1) (fun _ => StSame.ite (fun _ => State.freezeOn_stores _ hs0_1) (fun _ => State.freezeOff_stores _ hs0_1))

theorem execPgEvtClear_stores (pg : BitVec 8) (v : Word) (hw : Word) : Stores R s (execPgEvtClear pg v hw s) := by
  have hk : StSame R s s := StSame.refl _ _
  unfold execPgEvtClear
  refine Stores.next ?_
  refine State.cmd_stores _ ?_ ?_
  · exact hk
  · intro s0_0 hs0_1
    split
    · exact hs0_1
    · exact StSame.ite (fun _ => hs0_1) (fun _ => State.evtClear_stores _ _ _ hs0_1)

theorem execLowWordRead_stores (rq : Req) (pg : BitVec 8) (off : BitVec 8) (gAOS : ∀ x, 0x100100 ≤ x → R x) : Stores R s (execLowWordRead rq pg off s) := by
  have hk : StSame R s s := StSame.refl _ _
  unfold execLowWordRead
  refine Stores.next ?_
  exact State.readInto_stores _ _ _ hk gAOS

theorem execReadClearField_stores (rq : Req) (pg : BitVec 8) (off : BitVec 8) (gAOS : ∀ x, 0x100100 ≤ x → R x) : Stores R s (execReadClearField rq pg off s) := by
  have hk : StSame R s s := StSame.refl _ _
  unfold execReadClearField
  refine Stores.next ?_
  exact State.readInto_stores _ _ _ hk gAOS

theorem execPlcrPost_stores (slot : BitVec 11) : Stores R s (execPlcrPost slot s) := by
  have hk : StSame R s s := StSame.refl _ _
  unfold execPlcrPost
  refine Stores.next ?_
  exact State.cmd_stores _ hk (fun _ h0 => State.plcrPost_stores _ h0)

theorem execEngRetire_stores (k : Engine) (key : BitVec 16) (gDESC : ∀ x, 0xC0000 ≤ x → x < 0xD0000 → R x) : Stores R s (execEngRetire k key s) := by
  have hk : StSame R s s := StSame.refl _ _
  unfold execEngRetire
  refine Stores.next ?_
  exact State.keyCmd_stores _ _ _ hk (fun _ h0 => State.retireEngine_stores _ h0 gDESC)

theorem execAosDataAccess_stores (v : Option Word) (gAOS : ∀ x, 0x100100 ≤ x → R x) : Stores R s (execAosDataAccess v s) := by
  have hk : StSame R s s := StSame.refl _ _
  unfold execAosDataAccess
  refine Stores.next ?_
  refine State.cmd_stores _ ?_ ?_
  · exact hk
  · intro s0_0 hs0_1
    extract_lets -merge -underBinder +onlyGivenNames x1
    have hx1 : StSame R s x1.1 := by
      refine StSame.ofEq ?_ (State.aosAccess_stores ?_ hs0_1 gAOS)
      exact rfl
    try clear_value x1
    extract_lets -merge -underBinder +onlyGivenNames x2
    have hx2 : StSame R s x2 := hx1
    try clear_value x2
    exact StSame.ite (fun _ => hx1) (fun _ => StSame.mk' hx2)

theorem execOtpProgram_stores (key : BitVec 16) : Stores R s (execOtpProgram key s) := by
  have hk : StSame R s s := StSame.refl _ _
  unfold execOtpProgram
  refine Stores.next ?_
  exact State.keyCmd_stores _ _ _ hk (fun _ h0 => State.otpProgram_stores h0)

theorem execOtpLock_stores (region : BitVec 3) (key : BitVec 16) : Stores R s (execOtpLock region key s) := by
  have hk : StSame R s s := StSame.refl _ _
  unfold execOtpLock
  refine Stores.next ?_
  exact State.keyCmd_stores _ _ _ hk (fun _ h0 => State.otpLock_stores _ h0)

theorem execLockStickySet_stores (v : Word) : Stores R s (execLockStickySet v s) := by
  have hk : StSame R s s := StSame.refl _ _
  unfold execLockStickySet
  refine Stores.next ?_
  exact State.cmd_stores _ hk (fun _ h0 => State.stickySet_stores _ h0)

theorem execNvdWrite_stores (area : Fin 16) (format : BitVec 4) (key : BitVec 16) : Stores R s (execNvdWrite area format key s) := by
  have hk : StSame R s s := StSame.refl _ _
  unfold execNvdWrite
  refine Stores.next ?_
  exact State.keyCmd_stores _ _ _ hk (fun _ h0 => State.nvdStart_stores _ h0)

theorem execNvdRead_stores (area : Fin 16) (key : BitVec 16) : Stores R s (execNvdRead area key s) := by
  have hk : StSame R s s := StSame.refl _ _
  unfold execNvdRead
  refine Stores.next ?_
  exact State.keyCmd_stores _ _ _ hk (fun _ h0 => State.nvdStart_stores _ h0)

theorem execNvdInvalidate_stores (area : Fin 16) (key : BitVec 16) : Stores R s (execNvdInvalidate area key s) := by
  have hk : StSame R s s := StSame.refl _ _
  unfold execNvdInvalidate
  refine Stores.next ?_
  exact State.keyCmd_stores _ _ _ hk (fun _ h0 => State.nvdStart_stores _ h0)

theorem execDbgNewChallenge_stores (v : BitVec 64) (key : BitVec 16) : Stores R s (execDbgNewChallenge v key s) := by
  have hk : StSame R s s := StSame.refl _ _
  unfold execDbgNewChallenge
  refine Stores.next ?_
  exact State.keyCmd_stores _ _ _ hk (fun _ h0 => State.dbgChallenge_stores _ h0)

theorem execDbgSubmit_stores (key : BitVec 16) : Stores R s (execDbgSubmit key s) := by
  have hk : StSame R s s := StSame.refl _ _
  unfold execDbgSubmit
  refine Stores.next ?_
  exact State.keyCmd_stores _ _ _ hk (fun _ h0 => State.dbgSubmit_stores h0)

theorem execGpioOutSet_stores (v : BitVec 8) : Stores R s (execGpioOutSet v s) := by
  have hk : StSame R s s := StSame.refl _ _
  unfold execGpioOutSet
  refine Stores.next ?_
  exact State.cmd_stores _ hk (fun _ h0 => State.gpioOut_stores _ _ h0)

theorem execGpioOutClr_stores (v : BitVec 8) : Stores R s (execGpioOutClr v s) := by
  have hk : StSame R s s := StSame.refl _ _
  unfold execGpioOutClr
  refine Stores.next ?_
  exact State.cmd_stores _ hk (fun _ h0 => State.gpioOut_stores _ _ h0)

theorem execPinCfgWrite_stores (i : Fin 8) (v : Word) : Stores R s (execPinCfgWrite i v s) := by
  have hk : StSame R s s := StSame.refl _ _
  unfold execPinCfgWrite
  refine Stores.next ?_
  exact State.cmd_stores _ hk (fun _ h0 => State.pinCfg_stores _ _ h0)

theorem execHostCmdClearStats_stores (key : BitVec 16) : Stores R s (execHostCmdClearStats key s) := by
  have hk : StSame R s s := StSame.refl _ _
  unfold execHostCmdClearStats
  refine Stores.next ?_
  exact State.keyCmd_stores _ _ _ hk (fun _ h0 => State.hostClear_stores h0)

theorem execHostCmdNotifyNow_stores (key : BitVec 16) : Stores R s (execHostCmdNotifyNow key s) := by
  have hk : StSame R s s := StSame.refl _ _
  unfold execHostCmdNotifyNow
  refine Stores.next ?_
  exact State.keyCmd_stores _ _ _ hk (fun _ h0 => State.notifyNow_stores h0)

theorem execFlashProgram_stores (key : BitVec 16) : Stores R s (execFlashProgram key s) := by
  have hk : StSame R s s := StSame.refl _ _
  unfold execFlashProgram
  refine Stores.next ?_
  exact State.cmd_stores _ hk (fun _ h0 => State.flashCmd_stores _ _ h0)

theorem execFlashErase_stores (key : BitVec 16) : Stores R s (execFlashErase key s) := by
  have hk : StSame R s s := StSame.refl _ _
  unfold execFlashErase
  refine Stores.next ?_
  exact State.cmd_stores _ hk (fun _ h0 => State.flashCmd_stores _ _ h0)

theorem execFlashRdData_stores (gAOS : ∀ x, 0x100100 ≤ x → R x) : Stores R s (execFlashRdData s) := by
  have hk : StSame R s s := StSame.refl _ _
  unfold execFlashRdData
  refine Stores.next ?_
  exact State.readInto_stores _ _ _ hk gAOS

theorem execSetWindowWrite_stores (node : BitVec 8) (page : BitVec 8) (off : BitVec 8) (pec : Option (BitVec 8)) (e : Option BusErr) : Stores R s (execSetWindowWrite node page off pec e s) := by
  have hk : StSame R s s := StSame.refl _ _
  unfold execSetWindowWrite
  refine Stores.next ?_
  exact State.hostPlain_stores _ hk (fun _ h0 => StSame.ite (fun _ => State.hostErr_stores _ _ h0) (fun _ => State.writeEnd_stores _ _ _ _ h0 (fun _ h1 => State.hostLoad_stores _ _ _ (State.put_stores _ _ _ (State.put_stores _ _ _ (State.put_stores _ _ _ h1))))))

theorem execSetWindowRead_stores (pec : Bool) (e : Option (BusErr × ℕ)) : Stores R s (execSetWindowRead pec e s) := by
  have hk : StSame R s s := StSame.refl _ _
  unfold execSetWindowRead
  refine Stores.next ?_
  exact State.hostPlain_stores _ hk (fun _ h0 => State.readFinish_stores _ _ _ _ _ _ _ _ _ _ h0)

theorem execEventSummary_stores (pec : Bool) (e : Option (BusErr × ℕ)) : Stores R s (execEventSummary pec e s) := by
  have hk : StSame R s s := StSame.refl _ _
  unfold execEventSummary
  refine Stores.next ?_
  exact State.hostPlain_stores _ hk (fun _ h0 => State.readFinish_stores _ _ _ _ _ _ _ _ _ _ h0)

theorem execStatus_stores (pec : Bool) (e : Option (BusErr × ℕ)) : Stores R s (execStatus pec e s) := by
  have hk : StSame R s s := StSame.refl _ _
  unfold execStatus
  refine Stores.next ?_
  exact State.hostPlain_stores _ hk (fun _ h0 => State.readFinish_stores _ _ _ _ _ _ _ _ _ _ h0)

theorem execReadWithoutCommand_stores (pec : Bool) (e : Option (BusErr × ℕ)) : Stores R s (execReadWithoutCommand pec e s) := by
  have hk : StSame R s s := StSame.refl _ _
  unfold execReadWithoutCommand
  refine Stores.next ?_
  exact State.hostPlain_stores _ hk (fun _ h0 => State.readFinish_stores _ _ _ _ _ _ _ _ _ _ h0)

theorem execQuickCommand_stores (a0 : Bool) : Stores R s (execQuickCommand a0 s) := by
  have hk : StSame R s s := StSame.refl _ _
  unfold execQuickCommand
  refine Stores.next ?_
  exact hk

theorem execStretchEnd_stores (us : BitVec 16) : Stores R s (execStretchEnd us s) := by
  have hk : StSame R s s := StSame.refl _ _
  unfold execStretchEnd
  split
  · refine Stores.next ?_
    exact hk
  · extract_lets -merge -underBinder +onlyGivenNames x0
    have hx0 : StSame R s x0 := State.raise_stores _ _ (State.stretched_stores _ hk)
    try clear_value x0
    refine Stores.next ?_
    split
    · exact State.hostBusy_stores _ (State.heldDrop_stores hx0)
    · exact State.wordsFinish_stores _ _ _ _ hx0

theorem execHeldDataExpire_stores : Stores R s (execHeldDataExpire s) := by
  have hk : StSame R s s := StSame.refl _ _
  unfold execHeldDataExpire
  split
  · refine Stores.next ?_
    exact StSame.ite (fun _ => State.heldDrop_stores hk) (fun _ => hk)
  · refine Stores.next ?_
    exact hk

theorem execSclTimeout_stores (cmd : Option (BitVec 8)) : Stores R s (execSclTimeout cmd s) := by
  have hk : StSame R s s := StSame.refl _ _
  unfold execSclTimeout
  extract_lets -merge -underBinder +onlyGivenNames x0
  have hx0 : StSame R s x0 := by
    unfold x0
    split
    · exact StSame.ite (fun _ => State.hostLoad_stores _ _ _ hk) (fun _ => hk)
    · exact hk
  try clear_value x0
  extract_lets -merge -underBinder +onlyGivenNames x1
  have hx1 : StSame R s x1 := State.bump_stores _ _ _ (State.raise_stores _ _ hx0)
  try clear_value x1
  refine Stores.ite (fun _ => ?_) (fun _ => ?_)
  · refine Stores.next ?_
    exact hk
  · refine Stores.next ?_
    exact StSame.ite (fun _ => State.notifyFail_stores hx1) (fun _ => hx1)

theorem execSdaStuck_stores : Stores R s (execSdaStuck s) := by
  have hk : StSame R s s := StSame.refl _ _
  unfold execSdaStuck
  refine Stores.ite (fun _ => ?_) (fun _ => ?_)
  · refine Stores.next ?_
    exact State.modHost_stores _ (State.raise_stores _ _ hk)
  · refine Stores.next ?_
    exact hk

theorem execHostNotify_stores (done : Option Bool) : Stores R s (execHostNotify done s) := by
  have hk : StSame R s s := StSame.refl _ _
  unfold execHostNotify
  refine Stores.ite (fun _ => ?_) (fun _ => ?_)
  · refine Stores.next ?_
    exact hk
  · refine Stores.ite (fun _ => ?_) (fun _ => ?_)
    · refine Stores.next ?_
      exact State.notifyResult_stores _ hk
    · refine Stores.ite (fun _ => ?_) (fun _ => ?_)
      · refine Stores.next ?_
        exact State.notifyResult_stores _ (State.notifyFresh_stores hk)
      · refine Stores.next ?_
        exact hk

theorem execNotifyHoldEnd_stores : Stores R s (execNotifyHoldEnd s) := by
  have hk : StSame R s s := StSame.refl _ _
  unfold execNotifyHoldEnd
  extract_lets -merge -underBinder +onlyGivenNames x0 x1
  have hx1 : StSame R s x1 := State.modHost_stores _ hk
  try clear_value x1
  refine Stores.ite (fun _ => ?_) (fun _ => ?_)
  · refine Stores.next ?_
    exact hk
  · refine Stores.next ?_
    exact StSame.ite (fun _ => State.notifyFresh_stores hx1) (fun _ => hx1)

theorem execArbitrationLost_stores (how : ArbHow) : Stores R s (execArbitrationLost how s) := by
  have hk : StSame R s s := StSame.refl _ _
  unfold execArbitrationLost
  extract_lets -merge -underBinder +onlyGivenNames x0
  have hx0 : StSame R s x0 := by
    unfold x0
    split
    · exact hk
    · exact State.raise_stores _ _ hk
    · exact State.raise_stores _ _ hk
  try clear_value x0
  refine Stores.ite (fun _ => ?_) (fun _ => ?_)
  · refine Stores.next ?_
    exact hk
  · refine Stores.next ?_
    exact State.notifyFail_stores hx0

theorem execNotifyRetry_stores (done : Option Bool) : Stores R s (execNotifyRetry done s) := by
  have hk : StSame R s s := StSame.refl _ _
  unfold execNotifyRetry
  refine Stores.ite (fun _ => ?_) (fun _ => ?_)
  · refine Stores.next ?_
    exact hk
  · refine Stores.ite (fun _ => ?_) (fun _ => ?_)
    · refine Stores.next ?_
      exact State.put_stores _ _ _ hk
    · refine Stores.next ?_
      exact State.notifyResult_stores _ (State.notifyBegin_stores hk)

theorem execEvtFrameReceive_stores : Stores R s (execEvtFrameReceive s) := by
  have hk : StSame R s s := StSame.refl _ _
  unfold execEvtFrameReceive
  refine Stores.ite (fun _ => ?_) (fun _ => ?_)
  · refine Stores.next ?_
    exact hk
  · refine Stores.next ?_
    exact State.withFrame_stores _ hk (fun _ _ h0 => StSame.ite (fun _ => State.hostWatch_stores (State.setMapBit_stores _ _ _ _ h0)) (fun _ => h0))

theorem execSessionTimeout_stores : Stores R s (execSessionTimeout s) := by
  have hk : StSame R s s := StSame.refl _ _
  unfold execSessionTimeout
  split
  · refine Stores.next ?_
    exact StSame.ite (fun _ => State.sessEnd_stores hk) (fun _ => hk)
  · refine Stores.next ?_
    exact hk

theorem execUpdCmdAbort_stores (key : BitVec 16) (gDESC : ∀ x, 0xC0000 ≤ x → x < 0xD0000 → R x) : Stores R s (execUpdCmdAbort key s) := by
  have hk : StSame R s s := StSame.refl _ _
  unfold execUpdCmdAbort
  refine Stores.next ?_
  exact State.updKey_stores _ hk (fun _ h0 => State.updAbort_stores h0) gDESC

theorem execUpdCmdActivate_stores (key : BitVec 16) (gDESC : ∀ x, 0xC0000 ≤ x → x < 0xD0000 → R x) : Stores R s (execUpdCmdActivate key s) := by
  have hk : StSame R s s := StSame.refl _ _
  unfold execUpdCmdActivate
  refine Stores.next ?_
  exact State.updKey_stores _ hk (fun _ h0 => State.updActivate_stores h0) gDESC

theorem execUpdCmdConfirm_stores (switch : Bool) (key : BitVec 16) (gDESC : ∀ x, 0xC0000 ≤ x → x < 0xD0000 → R x) : Stores R s (execUpdCmdConfirm switch key s) := by
  have hk : StSame R s s := StSame.refl _ _
  unfold execUpdCmdConfirm
  refine Stores.next ?_
  exact State.updKey_stores _ hk (fun _ h0 => State.updConfirm_stores _ h0) gDESC

theorem execUpdCmdDistribute_stores (key : BitVec 16) (gDESC : ∀ x, 0xC0000 ≤ x → x < 0xD0000 → R x) : Stores R s (execUpdCmdDistribute key s) := by
  have hk : StSame R s s := StSame.refl _ _
  unfold execUpdCmdDistribute
  refine Stores.next ?_
  exact State.updKey_stores _ hk (fun _ h0 => State.updDistribute_stores h0 gDESC) gDESC

theorem execUpdCmdOwnerLock_stores (key : BitVec 16) (gDESC : ∀ x, 0xC0000 ≤ x → x < 0xD0000 → R x) : Stores R s (execUpdCmdOwnerLock key s) := by
  have hk : StSame R s s := StSame.refl _ _
  unfold execUpdCmdOwnerLock
  refine Stores.next ?_
  exact State.updKey_stores _ hk (fun _ h0 => State.updOwnerLock_stores h0) gDESC

theorem execUpdCmdNewChallenge_stores (v : BitVec 64) (key : BitVec 16) (gDESC : ∀ x, 0xC0000 ≤ x → x < 0xD0000 → R x) : Stores R s (execUpdCmdNewChallenge v key s) := by
  have hk : StSame R s s := StSame.refl _ _
  unfold execUpdCmdNewChallenge
  refine Stores.next ?_
  exact State.updKey_stores _ hk (fun _ h0 => State.updChallenge_stores _ h0) gDESC

theorem execUpdCmdUnlock_stores (key : BitVec 16) (gDESC : ∀ x, 0xC0000 ≤ x → x < 0xD0000 → R x) : Stores R s (execUpdCmdUnlock key s) := by
  have hk : StSame R s s := StSame.refl _ _
  unfold execUpdCmdUnlock
  refine Stores.next ?_
  exact State.updKey_stores _ hk (fun _ h0 => State.updUnlock_stores h0) gDESC

theorem execTrialTimer_stores : Stores R s (execTrialTimer s) := by
  have hk : StSame R s s := StSame.refl _ _
  unfold execTrialTimer
  split
  · extract_lets -merge -underBinder +onlyGivenNames x0
    refine Stores.ite (fun _ => ?_) (fun _ => ?_)
    · refine Stores.next ?_
      exact State.activationReset_stores _ (State.raise_stores _ _ (StSame.mk' hk))
    · refine Stores.next ?_
      exact hk
  · refine Stores.next ?_
    exact hk

theorem execFirmwareConfirm_stores (gDESC : ∀ x, 0xC0000 ≤ x → x < 0xD0000 → R x) : Stores R s (execFirmwareConfirm s) := by
  have hk : StSame R s s := StSame.refl _ _
  unfold execFirmwareConfirm
  extract_lets -merge -underBinder +onlyGivenNames x0 x1 x2
  refine Stores.ite (fun _ => ?_) (fun _ => ?_)
  · refine Stores.next ?_
    exact State.cmd_stores _ hk (fun _ h3 => State.updConfirm_stores _ (State.updPost_stores h3 gDESC))
  · refine Stores.next ?_
    exact hk

theorem execImgStart_stores (entry : Fin 64) (gUPD : ∀ x, 0xDB000 ≤ x → x < 0xE0000 → R x) : Stores R s (execImgStart entry s) := by
  have hk : StSame R s s := StSame.refl _ _
  unfold execImgStart
  refine Stores.next ?_
  exact State.imgFrame_stores _ _ _ hk (fun _ _ h0 => State.imgStart_stores _ h0 gUPD)

theorem execImgSection_stores (entry : Fin 64) : Stores R s (execImgSection entry s) := by
  have hk : StSame R s s := StSame.refl _ _
  unfold execImgSection
  refine Stores.next ?_
  exact State.imgFrame_stores _ _ _ hk (fun _ _ h0 => State.imgOn_stores h0 (fun _ h1 => StSame.mk' h1))

theorem execImgData_stores (entry : Fin 64) (bad : Option (Fin 64 × Bool)) (gUPD : ∀ x, 0xDB000 ≤ x → x < 0xE0000 → R x) : Stores R s (execImgData entry bad s) := by
  have hk : StSame R s s := StSame.refl _ _
  unfold execImgData
  refine Stores.next ?_
  refine State.imgFrame_stores _ _ _ ?_ ?_
  · exact hk
  · intro s0_0 s0_1 hs0_1
    refine State.imgOn_stores ?_ ?_
    · exact hs0_1
    · intro s1_0 hs1_1
      split
      · exact hs1_1
      · extract_lets -merge -underBinder +onlyGivenNames x2
        have hx2 : StSame R s x2.1 := by
          refine StSame.ofEq ?_ (State.updBlock_stores ?_ ?_ ?_ ?_ hs1_1 gUPD)
          exact rfl
        try clear_value x2
        exact State.updResult_stores _ hx2

theorem execImgEnd_stores (entry : Fin 64) (gUPD : ∀ x, 0xDB000 ≤ x → x < 0xE0000 → R x) : Stores R s (execImgEnd entry s) := by
  have hk : StSame R s s := StSame.refl _ _
  unfold execImgEnd
  refine Stores.next ?_
  exact State.imgFrame_stores _ _ _ hk (fun _ _ h0 => State.imgOn_stores h0 (fun _ h1 => State.reportOwe_stores _ (State.maskCheck_stores h1 gUPD)))

theorem execImgCommit_stores (entry : Fin 64) (gUPD : ∀ x, 0xDB000 ≤ x → x < 0xE0000 → R x) (gDESC : ∀ x, 0xC0000 ≤ x → x < 0xD0000 → R x) : Stores R s (execImgCommit entry s) := by
  have hk : StSame R s s := StSame.refl _ _
  unfold execImgCommit
  refine Stores.next ?_
  refine State.imgFrame_stores _ _ _ ?_ ?_
  · exact hk
  · intro s0_0 s0_1 hs0_1
    refine State.imgOn_stores ?_ ?_
    · exact hs0_1
    · intro s1_0 hs1_1
      extract_lets -merge -underBinder +onlyGivenNames x2
      have hx2 : StSame R s x2.1 := by
        refine StSame.ofEq ?_ (State.updCommit_stores ?_ hs1_1 gUPD)
        exact rfl
      try clear_value x2
      extract_lets -merge -underBinder +onlyGivenNames x3
      have hx3 : StSame R s x3 := State.reportOwe_stores _ (State.updResult_stores _ hx2)
      try clear_value x3
      exact StSame.ite (fun _ => State.recoverStart_stores hx3 gDESC) (fun _ => hx3)

theorem execImgActivate_stores (entry : Fin 64) : Stores R s (execImgActivate entry s) := by
  have hk : StSame R s s := StSame.refl _ _
  unfold execImgActivate
  refine Stores.next ?_
  exact State.imgFrame_stores _ _ _ hk (fun _ _ h0 => State.imgOn_stores h0 (fun _ h1 => State.updActivate_stores h1))

theorem execImgAbort_stores (entry : Fin 64) : Stores R s (execImgAbort entry s) := by
  have hk : StSame R s s := StSame.refl _ _
  unfold execImgAbort
  refine Stores.next ?_
  exact State.imgFrame_stores _ _ _ hk (fun _ _ h0 => State.imgOn_stores h0 (fun _ h1 => StSame.ite (fun _ => State.sessEnd_stores h1) (fun _ => h1)))

theorem execUpdateReport_stores (gTXQ : ∀ x, 0xB8000 ≤ x → x < 0xC0000 → R x) : Stores R s (execUpdateReport s) := by
  have hk : StSame R s s := StSame.refl _ _
  unfold execUpdateReport
  split
  · extract_lets -merge -underBinder +onlyGivenNames x0
    extract_lets -merge -underBinder +onlyGivenNames x1
    refine Stores.ite (fun _ => ?_) (fun _ => ?_)
    · refine Stores.next ?_
      exact State.sendEngine_stores _ _ _ _ _ _ _ (StSame.mk' hk) gTXQ
    · refine Stores.next ?_
      exact hk
  · refine Stores.next ?_
    exact hk

theorem execDistributionTask_stores (entry : Option (Fin 64)) (late : Bool) (gTXQ : ∀ x, 0xB8000 ≤ x → x < 0xC0000 → R x) : Stores R s (execDistributionTask entry late s) := by
  have hk : StSame R s s := StSame.refl _ _
  unfold execDistributionTask
  split
  · refine Stores.next ?_
    exact hk
  · refine Stores.ite (fun _ => ?_) (fun _ => ?_)
    · refine Stores.next ?_
      exact hk
    · split
      · refine Stores.next ?_
        exact State.distStep_stores _ _ hk gTXQ
      · refine Stores.ite (fun _ => ?_) (fun _ => ?_)
        · refine Stores.next ?_
          exact hk
        · refine Stores.ite (fun _ => ?_) (fun _ => ?_)
          · refine Stores.next ?_
            exact State.rxRelease_stores _ (State.stNote_stores _ _ _ hk)
          · refine Stores.next ?_
            exact State.rxRelease_stores _ (State.distReport_stores _ _ _ hk)

theorem execFlashCmdDone_stores (verifyOk : Bool) : Stores R s (execFlashCmdDone verifyOk s) := by
  have hk : StSame R s s := StSame.refl _ _
  unfold execFlashCmdDone
  refine Stores.next ?_
  exact StSame.ite (fun _ => State.flashFinish_stores _ hk) (fun _ => hk)

theorem execVddioChange_stores (mv : ℕ) : Stores R s (execVddioChange mv s) := by
  have hk : StSame R s s := StSame.refl _ _
  unfold execVddioChange
  extract_lets -merge -underBinder +onlyGivenNames x0 x1 x2 x3
  have hx3 : StSame R s x3 := StSame.mk' hk
  try clear_value x3
  refine Stores.ite (fun _ => ?_) (fun _ => ?_)
  · refine Stores.next ?_
    exact State.raiseIf_stores _ _ _ (State.putB_stores _ _ _ (State.putB_stores _ _ _ hx3))
  · refine Stores.next ?_
    exact hx3

theorem execVconnInLost_stores (mv : ℕ) : Stores R s (execVconnInLost mv s) := by
  have hk : StSame R s s := StSame.refl _ _
  unfold execVconnInLost
  extract_lets -merge -underBinder +onlyGivenNames x0 x1
  have hx1 : StSame R s x1 := StSame.mk' hk
  try clear_value x1
  extract_lets -merge -underBinder +onlyGivenNames x2
  refine Stores.ite (fun _ => ?_) (fun _ => ?_)
  · refine Stores.next ?_
    exact hx1
  · refine Stores.ite (fun _ => ?_) (fun _ => ?_)
    · refine Stores.next ?_
      exact State.put_stores _ _ _ hx1
    · refine Stores.next ?_
      exact State.raiseIf_stores _ _ _ (State.forPorts_stores (State.put_stores _ _ _ hx1) (fun _ _ h3 => State.vconnOff_stores _ h3))

theorem execSrcSwitchVsys_stores (mv : ℕ) : Stores R s (execSrcSwitchVsys mv s) := by
  have hk : StSame R s s := StSame.refl _ _
  unfold execSrcSwitchVsys
  refine Stores.next ?_
  exact State.vsys_stores _ hk (fun _ h0 => StSame.ite (fun _ => State.setSrc_stores _ h0) (fun _ => h0))

theorem execNvInhibitAssert_stores (mv : ℕ) : Stores R s (execNvInhibitAssert mv s) := by
  have hk : StSame R s s := StSame.refl _ _
  unfold execNvInhibitAssert
  refine Stores.next ?_
  exact State.vsys_stores _ hk (fun _ h0 => StSame.ite (fun _ => h0) (fun _ => State.secretInhibit_stores (State.nvInhibit_stores (State.raise_stores _ _ (State.put_stores _ _ _ (State.put_stores _ _ _ h0))))))

theorem execNvInhibitClear_stores (mv : ℕ) : Stores R s (execNvInhibitClear mv s) := by
  have hk : StSame R s s := StSame.refl _ _
  unfold execNvInhibitClear
  refine Stores.next ?_
  exact State.vsys_stores _ hk (fun _ h0 => StSame.ite (fun _ => State.put_stores _ _ _ h0) (fun _ => h0))

theorem execNvStable_stores (mv : ℕ) : Stores R s (execNvStable mv s) := by
  have hk : StSame R s s := StSame.refl _ _
  unfold execNvStable
  refine Stores.next ?_
  exact State.vsys_stores _ hk (fun _ h0 => StSame.ite (fun _ => State.put_stores _ _ _ h0) (fun _ => h0))

theorem execNvStableClear_stores (mv : ℕ) : Stores R s (execNvStableClear mv s) := by
  have hk : StSame R s s := StSame.refl _ _
  unfold execNvStableClear
  refine Stores.next ?_
  exact State.vsys_stores _ hk (fun _ h0 => StSame.ite (fun _ => State.put_stores _ _ _ h0) (fun _ => h0))

theorem execVsysWarn_stores (mv : ℕ) : Stores R s (execVsysWarn mv s) := by
  have hk : StSame R s s := StSame.refl _ _
  unfold execVsysWarn
  refine Stores.next ?_
  exact State.vsys_stores _ hk (fun _ h0 => StSame.ite (fun _ => StSame.ite (fun _ => State.put_stores _ _ _ h0) (fun _ => h0)) (fun _ => StSame.ite (fun _ => State.raise_stores _ _ (State.put_stores _ _ _ h0)) (fun _ => h0)))

theorem execModeReqRun_stores (key : BitVec 16) : Stores R s (execModeReqRun key s) := by
  have hk : StSame R s s := StSame.refl _ _
  unfold execModeReqRun
  refine Stores.next ?_
  exact State.modeKey_stores _ _ hk

theorem execModeReqDoze_stores (key : BitVec 16) : Stores R s (execModeReqDoze key s) := by
  have hk : StSame R s s := StSame.refl _ _
  unfold execModeReqDoze
  refine Stores.next ?_
  exact State.modeKey_stores _ _ hk

theorem execModeReqStandby_stores (key : BitVec 16) : Stores R s (execModeReqStandby key s) := by
  have hk : StSame R s s := StSame.refl _ _
  unfold execModeReqStandby
  refine Stores.next ?_
  exact State.modeKey_stores _ _ hk

theorem execModeReqShip_stores (key : BitVec 16) : Stores R s (execModeReqShip key s) := by
  have hk : StSame R s s := StSame.refl _ _
  unfold execModeReqShip
  refine Stores.next ?_
  exact State.modeKey_stores _ _ hk

theorem execModeReqZero_stores (key : BitVec 16) : Stores R s (execModeReqZero key s) := by
  have hk : StSame R s s := StSame.refl _ _
  unfold execModeReqZero
  refine Stores.next ?_
  exact State.modeKey_stores _ _ hk

theorem execModeEntry_stores : Stores R s (execModeEntry s) := by
  have hk : StSame R s s := StSame.refl _ _
  unfold execModeEntry
  split
  · extract_lets -merge -underBinder +onlyGivenNames x0
    extract_lets -merge -underBinder +onlyGivenNames x1
    have hx1 : StSame R s x1 := State.put_stores _ _ _ (State.put_stores _ _ _ (State.put_stores _ _ _ hk))
    try clear_value x1
    extract_lets -merge -underBinder +onlyGivenNames x2
    have hx2 : StSame R s x2 := StSame.ite (fun _ => hx1) (fun _ => State.modeEnd_stores _ hx1)
    try clear_value x2
    extract_lets -merge -underBinder +onlyGivenNames x3
    have hx3 : StSame R s x3 := State.forPorts_stores hx2 (fun _ _ h4 => State.modCc_stores _ _ h4)
    try clear_value x3
    extract_lets -merge -underBinder +onlyGivenNames x5 x6
    refine Stores.ite (fun _ => ?_) (fun _ => ?_)
    · refine Stores.next ?_
      exact StSame.mk' hx3
    · refine Stores.next ?_
      exact hk
  · refine Stores.next ?_
    exact hk

theorem execModeEntryBusy_stores : Stores R s (execModeEntryBusy s) := by
  have hk : StSame R s s := StSame.refl _ _
  unfold execModeEntryBusy
  split
  · extract_lets -merge -underBinder +onlyGivenNames x0
    have hx0 : StSame R s x0 := State.modeEnd_stores _ hk
    try clear_value x0
    extract_lets -merge -underBinder +onlyGivenNames x1
    refine Stores.ite (fun _ => ?_) (fun _ => ?_)
    · refine Stores.next ?_
      exact StSame.mk' hx0
    · refine Stores.next ?_
      exact hk
  · refine Stores.next ?_
    exact hk

theorem execZeroWake_stores (src : Fin 6) (n : Port) : Stores R s (execZeroWake src n s) := by
  have hk : StSame R s s := StSame.refl _ _
  unfold execZeroWake
  refine Stores.next ?_
  exact StSame.ite (fun _ => State.zeroChain_stores _ _ hk) (fun _ => hk)

theorem execBarrierConfirm_stores : Stores R s (execBarrierConfirm s) := by
  have hk : StSame R s s := StSame.refl _ _
  unfold execBarrierConfirm
  extract_lets -merge -underBinder +onlyGivenNames x0
  have hx0 : StSame R s x0 := State.modeEnd_stores _ (State.setSrc_stores _ (State.put_stores _ _ _ hk))
  try clear_value x0
  extract_lets -merge -underBinder +onlyGivenNames x1 x2
  refine Stores.ite (fun _ => ?_) (fun _ => ?_)
  · refine Stores.next ?_
    exact StSame.mk' hx0
  · refine Stores.next ?_
    exact hk

theorem execBarrierTimeout_stores : Stores R s (execBarrierTimeout s) := by
  have hk : StSame R s s := StSame.refl _ _
  unfold execBarrierTimeout
  extract_lets -merge -underBinder +onlyGivenNames x0
  have hx0 : StSame R s x0 := State.modeEnd_stores _ hk
  try clear_value x0
  extract_lets -merge -underBinder +onlyGivenNames x1
  refine Stores.ite (fun _ => ?_) (fun _ => ?_)
  · refine Stores.next ?_
    exact StSame.mk' hx0
  · refine Stores.next ?_
    exact hk

theorem execConvFail_stores : Stores R s (execConvFail s) := by
  have hk : StSame R s s := StSame.refl _ _
  unfold execConvFail
  extract_lets -merge -underBinder +onlyGivenNames x0 x1
  have hx1 : StSame R s x1 := State.raiseIf_stores _ _ _ hk
  try clear_value x1
  extract_lets -merge -underBinder +onlyGivenNames x2 x3
  refine Stores.ite (fun _ => ?_) (fun _ => ?_)
  · refine Stores.next ?_
    exact StSame.mk' hx1
  · refine Stores.next ?_
    exact hk

theorem execHvRise_stores : Stores R s (execHvRise s) := by
  have hk : StSame R s s := StSame.refl _ _
  unfold execHvRise
  refine Stores.next ?_
  exact StSame.ite (fun _ => State.modMains_stores _ hk) (fun _ => hk)

theorem execLineCycleEnd_stores (rms : BitVec 16) (peak : BitVec 16) (freq : BitVec 16) (dc : Bool) : Stores R s (execLineCycleEnd rms peak freq dc s) := by
  have hk : StSame R s s := StSame.refl _ _
  unfold execLineCycleEnd
  extract_lets -merge -underBinder +onlyGivenNames x0 x1
  have hx1 : StSame R s x1 := State.modMains_stores _ hk
  try clear_value x1
  refine Stores.ite (fun _ => ?_) (fun _ => ?_)
  · refine Stores.next ?_
    exact hk
  · refine Stores.next ?_
    exact State.mainsShow_stores (State.modMains_stores _ hx1)

theorem execMainsLoss_stores : Stores R s (execMainsLoss s) := by
  have hk : StSame R s s := StSame.refl _ _
  unfold execMainsLoss
  refine Stores.next ?_
  exact StSame.ite (fun _ => State.mainsShow_stores (State.modMains_stores _ hk)) (fun _ => hk)

theorem execMainsWriteSync_stores : Stores R s (execMainsWriteSync s) := by
  have hk : StSame R s s := StSame.refl _ _
  unfold execMainsWriteSync
  refine Stores.next ?_
  extract_lets -merge -underBinder +onlyGivenNames x0 x1 x2
  refine StSame.ite (fun _ => ?_) (fun _ => ?_)
  · split
    · exact State.mainsBudget_stores (State.modMains_stores _ (State.put_stores _ _ _ hk))
  · exact hk

theorem execBarrierLinkLoss_stores : Stores R s (execBarrierLinkLoss s) := by
  have hk : StSame R s s := StSame.refl _ _
  unfold execBarrierLinkLoss
  extract_lets -merge -underBinder +onlyGivenNames x0
  have hx0 : StSame R s x0 := State.modMains_stores _ hk
  try clear_value x0
  refine Stores.ite (fun _ => ?_) (fun _ => ?_)
  · refine Stores.next ?_
    exact StSame.ite (fun _ => State.mainsBudget_stores (State.raise_stores _ _ hx0)) (fun _ => hx0)
  · refine Stores.next ?_
    exact hk

theorem execBarrierLinkRecovery_stores : Stores R s (execBarrierLinkRecovery s) := by
  have hk : StSame R s s := StSame.refl _ _
  unfold execBarrierLinkRecovery
  extract_lets -merge -underBinder +onlyGivenNames x0
  have hx0 : StSame R s x0 := State.modMains_stores _ hk
  try clear_value x0
  extract_lets -merge -underBinder +onlyGivenNames x1
  have hx1 : StSame R s x1 := State.raiseIf_stores _ _ _ hx0
  try clear_value x1
  refine Stores.ite (fun _ => ?_) (fun _ => ?_)
  · refine Stores.ite (fun _ => ?_) (fun _ => ?_)
    · refine Stores.next ?_
      exact State.mainsShow_stores (State.modMains_stores _ hx1)
    · refine Stores.next ?_
      exact hx0
  · refine Stores.next ?_
    exact hk

theorem execScrubCheck_stores (wrong : BitVec 4) : Stores R s (execScrubCheck wrong s) := by
  have hk : StSame R s s := StSame.refl _ _
  unfold execScrubCheck
  refine Stores.next ?_
  exact StSame.ite (fun _ => State.scrubCheck_stores _ hk) (fun _ => hk)

theorem execRewriteTest_stores (same : Bool) : Stores R s (execRewriteTest same s) := by
  have hk : StSame R s s := StSame.refl _ _
  unfold execRewriteTest
  refine Stores.next ?_
  exact StSame.ite (fun _ => State.rewriteTest_stores _ hk) (fun _ => hk)

theorem execMigrateDone_stores : Stores R s (execMigrateDone s) := by
  have hk : StSame R s s := StSame.refl _ _
  unfold execMigrateDone
  split
  · refine Stores.next ?_
    exact hk
  · extract_lets -merge -underBinder +onlyGivenNames x0
    have hx0 : StSame R s x0 := State.migrate_stores _ hk
    try clear_value x0
    refine Stores.ite (fun _ => ?_) (fun _ => ?_)
    · refine Stores.next ?_
      exact hk
    · refine Stores.next ?_
      split
      · exact hx0
      · exact StSame.ite (fun _ => State.bankRetire_stores _ hx0) (fun _ => StSame.ite (fun _ => hx0) (fun _ => State.raise_stores _ _ (State.put_stores _ _ _ hx0)))

theorem execBankCmdRetire_stores (bank : Fin 16) (key : BitVec 16) : Stores R s (execBankCmdRetire bank key s) := by
  have hk : StSame R s s := StSame.refl _ _
  unfold execBankCmdRetire
  refine Stores.next ?_
  exact State.keyCmd_stores _ _ _ hk (fun _ h0 => State.bankCmd_stores _ h0)

theorem execOtpCmdDone_stores (weak : Word) : Stores R s (execOtpCmdDone weak s) := by
  have hk : StSame R s s := StSame.refl _ _
  unfold execOtpCmdDone
  refine Stores.next ?_
  exact State.otpFinish_stores _ hk

theorem execDbgTokenChecked_stores : Stores R s (execDbgTokenChecked s) := by
  have hk : StSame R s s := StSame.refl _ _
  unfold execDbgTokenChecked
  refine Stores.next ?_
  exact StSame.ite (fun _ => State.dbgVerdict_stores _ hk) (fun _ => hk)

theorem execDbgEraseDone_stores (gAOS : ∀ x, 0x100100 ≤ x → R x) : Stores R s (execDbgEraseDone s) := by
  have hk : StSame R s s := StSame.refl _ _
  unfold execDbgEraseDone
  refine Stores.next ?_
  exact StSame.ite (fun _ => State.dbgErased_stores hk gAOS) (fun _ => hk)

theorem execDebugHalt_stores (k : Engine) : Stores R s (execDebugHalt k s) := by
  have hk : StSame R s s := StSame.refl _ _
  unfold execDebugHalt
  refine Stores.next ?_
  exact StSame.ite (fun _ => State.modEng_stores _ _ hk) (fun _ => hk)

theorem execDebugResume_stores (k : Engine) : Stores R s (execDebugResume k s) := by
  have hk : StSame R s s := StSame.refl _ _
  unfold execDebugResume
  refine Stores.next ?_
  exact StSame.ite (fun _ => State.modEng_stores _ _ hk) (fun _ => hk)

theorem execGpioEdge_stores (i : Fin 8) (level : Option Bool) : Stores R s (execGpioEdge i level s) := by
  have hk : StSame R s s := StSame.refl _ _
  unfold execGpioEdge
  refine Stores.next ?_
  exact State.withEdges_stores hk (fun _ h0 => State.boardPad_stores _ _ h0)

theorem execMotnAsserted_stores : Stores R s (execMotnAsserted s) := by
  have hk : StSame R s s := StSame.refl _ _
  unfold execMotnAsserted
  extract_lets -merge -underBinder +onlyGivenNames x0 x1
  refine Stores.ite (fun _ => ?_) (fun _ => ?_)
  · refine Stores.next ?_
    exact State.raise_stores _ _ (StSame.mk' hk)
  · refine Stores.next ?_
    exact hk

theorem execColdBoot_stores (x : BootIn) (gAOS : ∀ x, 0x100100 ≤ x → R x) (gPD : ∀ (m : Port) x, 0x4000 * m.val ≤ x → x < 0x4000 * m.val + 0x4000 → R x) (gDESC : ∀ x, 0xC0000 ≤ x → x < 0xD0000 → R x) (gSNAP : ∀ (m : Port) x, 0x100000 + 32 * m.val ≤ x → x < 0x100020 + 32 * m.val → R x) : Stores R s (execColdBoot x s) := by
  have hk : StSame R s s := StSame.refl _ _
  unfold execColdBoot
  extract_lets -merge -underBinder +onlyGivenNames x0 x1
  have hx1 : StSame R s x1 := StSame.mk' hk
  try clear_value x1
  extract_lets -merge -underBinder +onlyGivenNames x2
  have hx2 : StSame R s x2 := State.forPorts_stores hx1 (fun _ _ h3 => State.modPort_stores _ _ h3)
  try clear_value x2
  refine Stores.ite (fun _ => ?_) (fun _ => ?_)
  · refine Stores.next ?_
    exact hk
  · refine Stores.ite (fun _ => ?_) (fun _ => ?_)
    · refine Stores.next ?_
      exact hx2
    · split
      · refine Stores.next ?_
        exact hx2
      · extract_lets -merge -underBinder +onlyGivenNames x4
        extract_lets -merge -underBinder +onlyGivenNames x5 x6 x7
        have hx7 : StSame R s x7 := StSame.mk' hx2
        try clear_value x7
        extract_lets -merge -underBinder +onlyGivenNames x8
        have hx8 : StSame R s x8 := State.bootIdent_stores (State.bootOtp_stores (State.bootStraps_stores _ _ (State.bootSupply_stores _ _ hx7)))
        try clear_value x8
        extract_lets -merge -underBinder +onlyGivenNames x9
        have hx9 : StSame R s x9 := State.bootShow_stores (State.bootErase_stores hx8 gAOS)
        try clear_value x9
        extract_lets -merge -underBinder +onlyGivenNames x10
        have hx10 : StSame R s x10 := State.putB_stores _ _ _ hx9
        try clear_value x10
        extract_lets -merge -underBinder +onlyGivenNames x11
        have hx11 : StSame R s x11 := by
          unfold x11
          split
          · exact State.wr_stores _ _ _ hx10
          · exact hx10
        try clear_value x11
        extract_lets -merge -underBinder +onlyGivenNames x12
        have hx12 : StSame R s x12 := State.forPorts_stores hx11 (fun _ _ h13 => State.ccJudge_stores _ (State.ccResume_stores _ h13 (gPD _) gDESC (gSNAP _)) (gPD _) gDESC (gSNAP _))
        try clear_value x12
        extract_lets -merge -underBinder +onlyGivenNames x14
        have hx14 : StSame R s x14 := State.gaugeCold_stores (State.cmptRestart_stores hx12)
        try clear_value x14
        refine Stores.next ?_
        exact State.resetEnd_stores _ (State.chooseStart_stores _ hx14 gDESC)

theorem execWarmReset_stores (us : BitVec 24) (gDESC : ∀ x, 0xC0000 ≤ x → x < 0xD0000 → R x) (gPD : ∀ (m : Port) x, 0x4000 * m.val ≤ x → x < 0x4000 * m.val + 0x4000 → R x) : Stores R s (execWarmReset us s) := by
  have hk : StSame R s s := StSame.refl _ _
  unfold execWarmReset
  refine Stores.next ?_
  exact StSame.ite (fun _ => State.warmBoot_stores _ hk gDESC gPD) (fun _ => hk)

theorem execPortResetVbusLow_stores (n : Port) (mv : ℕ) (gPD : ∀ x, 0x4000 * n.val ≤ x → x < 0x4000 * n.val + 0x4000 → R x) (gDESC : ∀ x, 0xC0000 ≤ x → x < 0xD0000 → R x) (gSNAP : ∀ x, 0x100000 + 32 * n.val ≤ x → x < 0x100020 + 32 * n.val → R x) : Stores R s (execPortResetVbusLow n mv s) := by
  have hk : StSame R s s := StSame.refl _ _
  unfold execPortResetVbusLow
  extract_lets -merge -underBinder +onlyGivenNames x0
  have hx0 : StSame R s x0 := State.setVbus_stores _ _ hk
  try clear_value x0
  refine Stores.next ?_
  exact StSame.ite (fun _ => State.ccResume_stores _ (State.modCc_stores _ _ hx0) gPD gDESC gSNAP) (fun _ => hx0)

theorem execDispatchPoint_stores (testOk : Bool) (gDESC : ∀ x, 0xC0000 ≤ x → x < 0xD0000 → R x) : Stores R s (execDispatchPoint testOk s) := by
  have hk : StSame R s s := StSame.refl _ _
  unfold execDispatchPoint
  refine Stores.next ?_
  extract_lets -merge -underBinder +onlyGivenNames x0
  have hx0 : StSame R s x0 := StSame.ite (fun _ => State.put_stores _ _ _ hk) (fun _ => hk)
  try clear_value x0
  exact StSame.ite (fun _ => State.dispatch_stores _ _ hx0 gDESC) (fun _ => hx0)

theorem execRefLoss_stores : Stores R s (execRefLoss s) := by
  have hk : StSame R s s := StSame.refl _ _
  unfold execRefLoss
  refine Stores.next ?_
  exact StSame.ite (fun _ => State.raise_stores _ _ (State.put_stores _ _ _ (State.put_stores _ _ _ hk))) (fun _ => hk)

theorem execRefLossTimeout_stores : Stores R s (execRefLossTimeout s) := by
  have hk : StSame R s s := StSame.refl _ _
  unfold execRefLossTimeout
  refine Stores.next ?_
  exact StSame.ite (fun _ => State.warmCause_stores _ (State.when_stores _ (State.put_stores _ _ _ hk) (fun _ h0 => State.setAligned_stores _ h0))) (fun _ => hk)

theorem execRefBack_stores : Stores R s (execRefBack s) := by
  have hk : StSame R s s := StSame.refl _ _
  unfold execRefBack
  refine Stores.next ?_
  exact StSame.ite (fun _ => State.raise_stores _ _ (State.put_stores _ _ _ (State.put_stores _ _ _ (State.put_stores _ _ _ hk)))) (fun _ => hk)

theorem execOverrun_stores (k : Engine) (gDESC : ∀ x, 0xC0000 ≤ x → x < 0xD0000 → R x) : Stores R s (execOverrun k s) := by
  have hk : StSame R s s := StSame.refl _ _
  unfold execOverrun
  refine Stores.next ?_
  exact StSame.ite (fun _ => State.overrun_stores _ (State.put_stores _ _ _ hk) gDESC) (fun _ => hk)

theorem execOverBudget_stores (k : Engine) : Stores R s (execOverBudget k s) := by
  have hk : StSame R s s := StSame.refl _ _
  unfold execOverBudget
  refine Stores.next ?_
  exact StSame.ite (fun _ => State.raise_stores _ _ (State.modEng_stores _ _ hk)) (fun _ => hk)

theorem execTickWdog_stores : Stores R s (execTickWdog s) := by
  have hk : StSame R s s := StSame.refl _ _
  unfold execTickWdog
  refine Stores.next ?_
  exact StSame.ite (fun _ => State.warmCause_stores _ hk) (fun _ => hk)

theorem execOverrunStorm_stores : Stores R s (execOverrunStorm s) := by
  have hk : StSame R s s := StSame.refl _ _
  unfold execOverrunStorm
  refine Stores.next ?_
  exact StSame.ite (fun _ => State.warmCause_stores _ hk) (fun _ => hk)

theorem execStandbyTakeover_stores (gREC : ∀ x, 0x60000 ≤ x → x < 0x64200 → R x) : Stores R s (execStandbyTakeover s) := by
  have hk : StSame R s s := StSame.refl _ _
  unfold execStandbyTakeover
  refine Stores.next ?_
  exact StSame.ite (fun _ => State.placeTakeover_stores (State.takeOver_stores hk) gREC) (fun _ => hk)

end Sys2Proof.Machine
end

