-- ==== Sys2Proof/Laws/Frame.lean ====
section
/-!
SUPPORT. From what a command touches to its frame.
-/

set_option Elab.async false

namespace Sys2Proof.Machine

variable {s t : State} {o : Host.Outcome State Fault Refusal} {pages : List Nat} {regs store aos : List (Nat × Nat)} {H : Hold}

theorem mem_allPorts (m : Port) : m ∈ allPorts := by revert m; decide

theorem mem_allEngines (k : Engine) : k ∈ allEngines := by revert k; decide

@[simp] theorem mem_everyPort (pg : Port → Nat) (m : Port) : pg m ∈ everyPort pg := List.mem_map_of_mem (mem_allPorts m)

@[simp] theorem mem_everyPortReg (pg : Port → Nat) (m : Port) (off : Nat) : (pg m, off) ∈ everyPortReg pg off :=
  List.mem_map_of_mem (f := fun m => (pg m, off)) (mem_allPorts m)

@[simp] theorem mem_everyEngineReg (k : Engine) (off : Nat) : (pENG k, off) ∈ everyEngineReg off :=
  List.mem_map_of_mem (f := fun k => (pENG k, off)) (mem_allEngines k)

@[simp] theorem mem_everyLinkReg (l : Fin 3) (off : Nat) : (pHG l, off) ∈ everyLinkReg off := by
  revert l; simp [everyLinkReg, Fin.forall_fin_succ]

/-- The registers of `pages` and `regs`. -/
def inRegs (pages : List Nat) (regs : List (Nat × Nat)) (pg off : Nat) : Prop := (pg ∈ pages ∧ off < 256) ∨ (pg, off) ∈ regs

/-- The bytes of ranges of the central store and of always-on SRAM, numbered as `StSame` numbers them. -/
def inBytes (store aos : List (Nat × Nat)) (a : Nat) : Prop :=
  (∃ r ∈ store, r.1 ≤ a ∧ a < r.2) ∨ ∃ r ∈ aos, 0x100000 + r.1 ≤ a ∧ a < 0x100000 + r.2

theorem RegsBut.of (h : Same (inRegs pages regs) s t) : s.RegsBut t pages regs := by
  intro pg off ho hp hr
  refine h (regKey pg off) fun pg' off' hx => ?_
  unfold inRegs at hx
  rcases hx with ⟨hm, ho'⟩ | hm
  · refine regKey_ne_page ?_ ho' ho
    intro e; subst e; exact hp hm
  · have hn := hr (pg', off') hm
    exact hn

theorem StoreBut.of (h : StSame (inBytes store aos) s t) : s.StoreBut t store := by
  intro a ha hr
  refine h.1 a fun hx => ?_
  unfold inBytes at hx
  rcases hx with ⟨r, hm, h1, h2⟩ | ⟨r, _, h1, _⟩
  · have := hr r hm; omega
  · simp only [storeTop] at ha; omega

theorem AosBut.of (hs : ∀ r ∈ store, r.2 ≤ 0x100000) (h : StSame (inBytes store aos) s t) : s.AosBut t aos := by
  intro a hr
  refine h.2 a fun hx => ?_
  unfold inBytes at hx
  rcases hx with ⟨r, hm, h1, h2⟩ | ⟨r, hm, h1, h2⟩
  · have := hs r hm; omega
  · have := hr r hm; omega

theorem Touches.next_same {P : Nat → Nat → Prop} (h : Touches P s o) (e : o = .next t) : Same P s t := by
  obtain ⟨u, e', h⟩ := h; rw [e] at e'; cases e'; exact h

theorem Stores.next_same {R : Nat → Prop} (h : Stores R s o) (e : o = .next t) : StSame R s t := by
  obtain ⟨u, e', h⟩ := h; rw [e] at e'; cases e'; exact h

theorem Answers.keeps (h : Answers H s o) (e : o = .next t) : Keeps H s t := by
  obtain ⟨u, e', h⟩ := h; rw [e] at e'; cases e'; exact h

/-- Flash, OTP and instruction RAM of a command that holds them. -/
theorem Keeps.flashSame (h : Keeps H s t) (hn : H.nv = true := by rfl) (hi : H.iram = true := by rfl) : s.FlashSame t :=
  ⟨h.iram hi, h.code hn, h.nvd hn, h.otp hn, h.otpMargin hn⟩

/-- The frame of a command from the lemmas about it. -/
theorem Frame.of (e : o = .next t) (h1 : Touches (inRegs pages regs) s o) (h2 : Stores (inBytes store aos) s o) (h3 : Answers H s o)
    (hs : ∀ r ∈ store, r.2 ≤ 0x100000 := by decide) (hn : H.nv = true := by rfl) (hi : H.iram = true := by rfl) : s.Frame t pages regs store aos :=
  ⟨RegsBut.of (h1.next_same e), StoreBut.of (h2.next_same e), AosBut.of hs (h2.next_same e), (h3.keeps e).flashSame hn hi⟩

end Sys2Proof.Machine
end

