-- ==== Sys2Proof/WellFormed.lean ====
section
/-!
DEFINITION. Which operands a command can have: a register's offset is word-aligned (R10), a tick has six samples of each channel (R287), an ordered set
has four K-codes (R182), the bytes of a block are as many as its count says (R406, R414, R408), and a write and a read fail in their own ways (Table 16.3).
-/

namespace Sys2Proof

/-- Samples of one port in one tick: six of each channel (R287). -/
def PortSamples.wf (p : PortSamples) : Bool := p.vbus.length == 6 && p.vin.length == 6 && p.ibus.length == 6

/-- What a tick boundary brings. -/
def TickIn.wf (x : TickIn) : Bool := x.ports.toList.all PortSamples.wf

/-- A frame starts with an ordered set of four K-codes (R182). -/
def PdFrame.wf (f : PdFrame) : Bool := f.set.length == 4

/-- Errors a write transaction can show. -/
def BusErr.inWrite : BusErr → Bool
  | .nack => false
  | .ackPec => false
  | .srWrite => false
  | _ => true

/-- Errors a read transaction can show. -/
def BusErr.inRead : BusErr → Bool
  | .early => false
  | .extra => false
  | _ => true

/-- A write transaction's error, if it has one. -/
def okWrite (e : Option BusErr) : Bool := e.all BusErr.inWrite

/-- A read transaction's error, if it has one. -/
def okRead (e : Option (BusErr × Nat)) : Bool := e.all fun x => x.1.inRead

/-- Bytes of a block write: `n` counts them and `lead` bytes before them; a transaction with an error may bring fewer or more. -/
def okBlock (n lead : Nat) (data : List Byte) (e : Option BusErr) : Bool := e.isSome || data.length + lead == n

/-- A command's operands fit its row. -/
def Instr.wf : Instr → Bool
  | .tickBoundary x => x.wf
  | .registerWrite _ _ off _ => off.toNat % 4 == 0
  | .lowWordRead _ _ off => off.toNat % 4 == 0
  | .readClearField _ _ off => off.toNat % 4 == 0
  | .receiveFrame _ f => f.wf
  | .setWindowWrite _ _ _ _ e => okWrite e
  | .setWindowRead _ e => okRead e
  | .readBlock _ _ e => okRead e
  | .writeBlock n data _ e => okBlock n.toNat 0 data e && okWrite e
  | .readWord _ e => okRead e
  | .writeWord _ _ e => okWrite e
  | .eventSummary _ e => okRead e
  | .storeWindowWrite n bad _ data _ e => (bad || okBlock n.toNat 4 data e) && okWrite e
  | .storeWindowRead _ _ _ _ e _ => okRead e
  | .updBlock n _ data _ _ e => okBlock n.toNat 6 data e && okWrite e
  | .updCommit _ e => okWrite e
  | .status _ e => okRead e
  | .readWithoutCommand _ e => okRead e
  | _ => true

end Sys2Proof
end

