-- ==== Sys2Proof/Tests/Slice0.lean ====
section
/-!
SUPPORT. Tests: operands that a row refuses, worked examples of the manual, and for every statement with hypotheses a state and operands that meet them.
-/

set_option Elab.async false

open Sys2Proof Sys2Proof.Machine

namespace Sys2Proof.Tests

/-! ### No row of the table gives bits -/

theorem test_decode_none : decodeTableWord 32 0x0009A401 = none ∧ decodeTableWord 0 0 = none := by decide

/-! ### Ill-formed operands -/

/-- Samples of a port, six of each channel. -/
def six : PortSamples := { vbus := [0, 0, 0, 0, 0, 0], vin := [0, 0, 0, 0, 0, 0], ibus := [0, 0, 0, 0, 0, 0], temp := 200, calOk := true, offset := 0 }

def tickOf (p : PortSamples) : TickIn := { ports := Vector.replicate 8 p, ra := .pass, rb := .pass, motn := false, off := 0 }

theorem test_wf_accepts : (Instr.tickBoundary (tickOf six)).wf = true ∧ (Instr.registerWrite .host 1 0x20 0).wf = true ∧
    (Instr.writeBlock 4 [1, 2, 3, 4] none none).wf = true ∧ (Instr.readBlock 4 true (some (.nack, 2))).wf = true := by decide

theorem test_wf_samples : (Instr.tickBoundary (tickOf { six with vbus := [0] })).wf = false ∧
    (Instr.tickBoundary (tickOf { six with vin := [] })).wf = false ∧ (Instr.tickBoundary (tickOf { six with ibus := [1] })).wf = false := by decide

theorem test_wf_offsets : (Instr.registerWrite .host 1 0x21 0).wf = false ∧ (Instr.lowWordRead .host 2 0x22).wf = false ∧
    (Instr.readClearField .host 0x20 0x3B).wf = false := by decide

theorem test_wf_ordered_set : (Instr.receiveFrame 0 { set := [.sync1], symbolsOk := true, crcOk := true, storeOk := true, bytes := [] }).wf = false := by decide

theorem test_wf_counts : (Instr.writeBlock 5 [1, 2, 3, 4] none none).wf = false ∧ (Instr.storeWindowWrite 4 false 0 [1, 2, 3, 4] none none).wf = false ∧
    (Instr.updBlock 8 0 [1] 0 none none).wf = false := by decide

theorem test_wf_write_errors : (Instr.setWindowWrite 0 0 0 none (some .nack)).wf = false ∧ (Instr.writeBlock 1 [1] none (some .ackPec)).wf = false ∧
    (Instr.writeWord 0 none (some .srWrite)).wf = false ∧ (Instr.storeWindowWrite 8 false 0 [1, 2, 3, 4] none (some .nack)).wf = false ∧
    (Instr.updBlock 7 0 [1] 0 none (some .nack)).wf = false ∧ (Instr.updCommit none (some .nack)).wf = false := by decide

theorem test_wf_read_errors : (Instr.setWindowRead true (some (.early, 0))).wf = false ∧ (Instr.readBlock 4 true (some (.extra, 0))).wf = false ∧
    (Instr.readWord true (some (.early, 0))).wf = false ∧ (Instr.eventSummary true (some (.early, 0))).wf = false ∧
    (Instr.storeWindowRead 5 0 4 true (some (.extra, 0)) none).wf = false ∧ (Instr.status true (some (.early, 0))).wf = false ∧
    (Instr.readWithoutCommand true (some (.early, 0))).wf = false := by decide

/-! ### Shared helpers -/

/-- A device that runs: reset left, CORE clocked, nothing else set up. -/
def run : State := { State.reset with phase := .run, rst := { State.reset.rst with causes := 0 } }

/-- The same with the companion's channel up. -/
def linkedX : State := { run with mains := { run.mains with link := true } }

/-- The same with every port in Unattached.SNK. -/
def rested : State := allPorts.foldl (fun s n => s.put (pCC n) CC.PG_STAT_STATE 2) run

/-- The row of a page. -/
def rowOf (pg : Nat) : PageRow := (pageRow pg).getD { kind := .test, base := 0, count := 0, type := 0, caps := 0, ctrl := 0, enableRw := false, evt := 0, rows := [] }

/-- A register of a page. -/
def regOf (pg off : Nat) : RegRow := ((rowOf pg).reg off).getD { off := 0, rw := 0, rwl := 0, w1c := 0, w1s := 0, rc := 0, rst := 0 }

/-- A device whose OWNER region carries the CRC-32 of its words: the first word all ones, the others zero. -/
def otpReady : State := { run with otp := [(0x60, 0xFFFFFFFF), (0x7F, 0xFFFFFFFF)], otpMargin := [(0x60, 0xFFFFFFFF), (0x7F, 0xFFFFFFFF)] }

theorem crc32From_zeros (n : Nat) : crc32From 0 (List.replicate n 0) = 0 := by
  induction n with
  | zero => rfl
  | succ n ih => exact ih

set_option maxRecDepth 8000 in
theorem otpReady_words : ((List.range 31).map fun i => otpReady.otpRead (0x60 + i)).flatMap (fun w => leBytes 4 w.toNat) = [255, 255, 255, 255] ++ List.replicate 120 (0 : Byte) := by
  decide

theorem crc32Byte (c d : Nat) (b : Byte) (bs : List Byte) (h : [0, 1, 2, 3, 4, 5, 6, 7].foldl (fun c i => crc32Step c (b.getLsbD i)) c = d) :
    crc32From c (b :: bs) = crc32From d bs := by subst h; rfl

theorem crc32From_first : crc32From 0xFFFFFFFF [255, 255, 255, 255] = 0 := by
  rw [crc32Byte 0xFFFFFFFF 0xFFFFFF 255 _ (by decide), crc32Byte 0xFFFFFF 0xFFFF 255 _ (by decide), crc32Byte 0xFFFF 0xFF 255 _ (by decide),
    crc32Byte 0xFF 0 255 _ (by decide)]
  rfl

theorem otpReady_crc : otpReady.otpCrcOk 5 = true := by
  have e : crc32 (((List.range 31).map fun i => otpReady.otpRead (0x60 + i)).flatMap fun w => leBytes 4 w.toNat) = 0xFFFFFFFF := by
    rw [otpReady_words, crc32]
    have a : crc32From 0xFFFFFFFF ([255, 255, 255, 255] ++ List.replicate 120 (0 : Byte)) = crc32From (crc32From 0xFFFFFFFF [255, 255, 255, 255]) (List.replicate 120 0) :=
      List.foldl_append
    rw [a, crc32From_first, crc32From_zeros]; rfl
  have r : (otpReady.otpRead 0x7F).toNat = 0xFFFFFFFF := by decide
  simp only [State.otpCrcOk, otpRegion, e, Nat.reduceAdd, Nat.reduceSub, r, reduceIte, beq_self_eq_true]
  decide

/-- A board at 3.7 V with nothing attached, every strap low. -/
def bootIn : BootIn :=
  { vsys := 3700, vddio := 1800, vconn := 0, vbus := Vector.replicate 8 0, testen := false, role0 := none, role1 := none, ad0 := none, ad1 := none
    refExt := false, us := 1000 }

/-- A quiet boundary. -/
def tickIn : TickIn :=
  { ports := Vector.replicate 8 { vbus := [], vin := [], ibus := [], temp := 200, calOk := true, offset := 0 }, ra := .pass, rb := .pass, motn := false, off := 0 }

/-- A bundle without stalls or parity errors. -/
def bundleIn : BundleIn := { phase := 0, stall := 0, stop := none, cacheBad := false, scratchBad := false, storeBad := false }

/-- Engine 2 runs at PC 0, where a word stands. -/
def skRun1 (w : Nat) : State :=
  ({ run with iram := Sparse.setList flashDflt [] 0 (leBytes 4 w) }).modEng 2 fun e =>
    { e with run := .running, d := (e.d.set 1 0x80000001).set 2 0x90000002, p := 1, fhnd := 0x400, budleft := 1000 }

/-- A setting in force. -/
def force (s : State) (pg : Nat) (f : Fld) (v : Nat) : State :=
  { s with inForce := Sparse.set resetWord s.inForce (regKey pg f.off) (BitVec.ofNat 32 (setBits (Sparse.get resetWord s.inForce (regKey pg f.off)).toNat f.lo f.w v)) }

/-- Port 0 in a Type-C state, with the voltages of its CC pins. -/
def inCc (st : CcState) (mv1 mv2 : Nat) : State :=
  (run.put (pCC 0) CC.PG_STAT_STATE st.code).modCc 0 fun c => { c with cc1Mv := mv1, cc2Mv := mv2 }

/-- Port 0 attached as a source, its guard ON. -/
def srcOn : State := (inCc .attachedSrc 1000 0).put (pGUARD 0) GUARD.PG_STAT_STATE 3

/-- Port 0 attached as a sink, its guard ON. -/
def snkOn : State := (inCc .attachedSnk 1000 0).put (pGUARD 0) GUARD.PG_STAT_STATE 3

/-- Port 0 as a source that may switch VCONN on. -/
def vconnReady : State :=
  (((force srcOn (pCC 0) CC.CFG_VCONN_EN 1).put pSUP SUP.PG_STAT_VCONN_OK 1).modCc 0 fun c => { c with raLatch := true, raKnown := true })

theorem crc16From_zeros (n : Nat) : crc16From 0 (List.replicate n 0) = 0 := by
  induction n with
  | zero => rfl
  | succ n ih => exact ih

theorem crc16Byte (c d : Nat) (b : Byte) (bs : List Byte)
    (h : [7, 6, 5, 4, 3, 2, 1, 0].foldl (fun c i => crcStep 16 0x1021 c (b.getLsbD i)) c = d) : crc16From c (b :: bs) = crc16From d bs := by subst h; rfl

/-- A record of 62 bytes whose CRC-16 is 0. -/
theorem crc16_marked : crc16 ([255, 255] ++ List.replicate 60 (0 : Byte)) = 0 := by
  have a : crc16From 0xFFFF ([255, 255] ++ List.replicate 60 (0 : Byte)) = crc16From (crc16From 0xFFFF [255, 255]) (List.replicate 60 0) := List.foldl_append
  have b : crc16From 0xFFFF [255, 255] = 0 := by
    rw [crc16Byte 0xFFFF 0xFF00 255 _ (by decide), crc16Byte 0xFF00 0 255 _ (by decide)]
    rfl
  rw [crc16, a, b, crc16From_zeros]

/-- Port 0 speaks PD as a source; its first transmit record is marked by ones in bytes 0 and 1. -/
def pd : State := { srcOn.put (pPDL 0) PDL.PG_CTRL_ENABLE 1 with store := [(0x1000, 255), (0x1001, 255)] }

/-- The same with that record queued. -/
def pdq (ph : TxPhase) : State := pd.modPdl 0 fun p => { p with queue := [0], phase := ph }

theorem pdq_intact (ph : TxPhase) : (pdq ph).txIntact 0 0 = true := by
  have h : (pdq ph).stRead (txAt 0 0) 12 ++ [0] ++ (pdq ph).stRead (txAt 0 0 + 13) 49 = [255, 255] ++ List.replicate 60 (0 : Byte) := by cases ph <;> decide
  have c : (pdq ph).stNat (txAt 0 0 + 62) 2 = 0 := by cases ph <;> decide
  have x : (pdq ph).txExt 0 0 = false := by cases ph <;> decide
  have b : (pdq ph).stBadIn (txAt 0 0) 64 = false := by cases ph <;> decide
  have e : crc16 ((pdq ph).stRead (txAt 0 0) 12 ++ [0] ++ (pdq ph).stRead (txAt 0 0 + 13) 49) = 0 := by rw [h]; exact crc16_marked
  simp only [State.txIntact, e, c, x, b]
  rfl

/-- A chunked message is being received on SOP into buffer 1. -/
def chunkIn (due wait : Bool) : State :=
  (pd.modPdl 0 fun p => { p with reasm := [{ sop := 0, buf := 1, size := 60, got := 26, chunks := 1, reqDue := due, waiting := wait }] }).put (pPDL 0) (rxBusyBit 1) 1

/-- Get_Source_Cap with MessageID 3. -/
def getCaps : PdFrame := { set := [.sync1, .sync1, .sync1, .sync2], symbolsOk := true, crcOk := true, storeOk := true, bytes := leBytes 2 (7 + 3 * 512) }

/-- Port 0 as a source with its guard in a state, `VBUS` at 5 V. -/
def guardSrc (st : Nat) : State := ((srcOn.put (pPDL 0) PDL.PG_CTRL_ENABLE 1).put (pGUARD 0) GUARD.PG_STAT_STATE st).modPort 0 fun p => { p with vbusMv := 5000, vinMv := 5000 }

/-- Port 0 as a sink with its guard in a state. -/
def guardSnk (st : Nat) : State := ((snkOn.put (pPDL 0) PDL.PG_CTRL_ENABLE 1).put (pGUARD 0) GUARD.PG_STAT_STATE st).modPort 0 fun p => { p with vbusMv := 5000, vinMv := 5000 }

/-- Port 0 is a closed member of the share page. -/
def member : State := (guardSnk 3).modShare 0 fun h => { h with member := true }

/-- A record whose first two bytes are ones, with data from byte 16 whose checksum comes out 0. -/
theorem crc16_rec (d : List Byte) (k : Nat) (h : crc16From 0 d = 0) :
    crc16 ([255, 255] ++ (List.replicate 14 (0 : Byte) ++ (d ++ List.replicate k 0))) = 0 := by
  have b : crc16From 0xFFFF [255, 255] = 0 := by
    rw [crc16Byte 0xFFFF 0xFF00 255 _ (by decide), crc16Byte 0xFF00 0 255 _ (by decide)]
    rfl
  have a : ∀ (c : Nat) (x y : List Byte), crc16From c (x ++ y) = crc16From (crc16From c x) y := fun c x y => List.foldl_append
  rw [crc16, a, a, a, b, crc16From_zeros, h, crc16From_zeros]

/-- A device with a receive record of port 0 that holds a message. -/
def gotRec (s : State) (d : List Byte) : State :=
  { s with store := [(0, 255), (1, 255)] ++ ((List.range d.length).zip d).filterMap fun c => if c.2 = 0 then none else some (16 + c.1, c.2) }

theorem usable (s : State) (d : List Byte) (c : crc16From 0 d = 0)
    (h : s.stRead 0 62 = [255, 255] ++ (List.replicate 14 (0 : Byte) ++ (d ++ List.replicate (46 - d.length) 0)) ∧ s.stBadIn 0 64 = false ∧
      s.stNat 62 2 = 0 ∧ bitAt (s.stNat 10 1) 4 = false ∧ s.stNat 3 1 = s.gen 0) : s.rxUsable 0 0 = true := by
  obtain ⟨h1, h2, h3, h4, h5⟩ := h
  have e : crc16 (s.stRead 0 62) = 0 := by rw [h1]; exact crc16_rec d _ c
  have z : rxRecAt 0 0 = 0 := rfl
  simp only [State.rxUsable, State.stChecks, z, Nat.zero_add, Nat.reduceAdd, Nat.reduceSub, e, h2, h3, h4, h5]
  simp

theorem snapOk (s : State) (d : List Byte) (c : crc16From 0xFFFF d = 0)
    (h : s.aosRead 0 28 = d ++ List.replicate (28 - d.length) 0 ∧ s.aosNat 28 2 = 0) : s.snapCrcOk 0 = true := by
  have a : ∀ (c : Nat) (x y : List Byte), crc16From c (x ++ y) = crc16From (crc16From c x) y := fun c x y => List.foldl_append
  have e : crc16 (s.aosRead 0 28) = 0 := by rw [h.1, crc16, a, c, crc16From_zeros]
  have z : snapAt 0 = 0 := rfl
  simp only [State.snapCrcOk, z, Nat.zero_add, e, h.2]
  simp

theorem snapValidOk (s : State) (d : List Byte) (c : crc16From 0xFFFF d = 0)
    (h : s.aosRead 0 28 = d ++ List.replicate (28 - d.length) 0 ∧ s.aosNat 28 2 = 0 ∧ s.snapMarked 0 = true) : s.snapValid 0 = true := by
  simp only [State.snapValid, snapOk s d c ⟨h.1, h.2.1⟩, h.2.2, Bool.and_true]

/-- Port 0 has a snapshot, CRC correct. -/
def snapIn (s : State) (d : List Byte) : State :=
  { s with aos := ((List.range d.length).zip d).filterMap fun c => if c.2 = 0 then none else some (c.1, c.2) }

/-- A Request for object 1. -/
def reqD : List Byte := [2, 16, 0, 0, 0, 16, 157, 43]

theorem crc_reqD : crc16From 0 reqD = 0 := by
  rw [reqD, crc16Byte 0 8258 2 _ (by decide), crc16Byte 8258 29779 16 _ (by decide), crc16Byte 29779 27923 0 _ (by decide), crc16Byte 27923 44555 0 _ (by decide), crc16Byte 44555 24356 0 _ (by decide), crc16Byte 24356 40235 16 _ (by decide), crc16Byte 40235 11008 157 _ (by decide), crc16Byte 11008 0 43 _ (by decide)]; rfl

/-- A Request for object 7. -/
def reqBadD : List Byte := [2, 16, 0, 0, 0, 112, 241, 141]

theorem crc_reqBadD : crc16From 0 reqBadD = 0 := by
  rw [reqBadD, crc16Byte 0 8258 2 _ (by decide), crc16Byte 8258 29779 16 _ (by decide), crc16Byte 29779 27923 0 _ (by decide), crc16Byte 27923 44555 0 _ (by decide), crc16Byte 44555 24356 0 _ (by decide), crc16Byte 24356 61837 112 _ (by decide), crc16Byte 61837 36096 241 _ (by decide), crc16Byte 36096 0 141 _ (by decide)]; rfl

/-- DR_Swap. -/
def drSwapD : List Byte := [9, 0, 186, 152]

theorem crc_drSwapD : crc16From 0 drSwapD = 0 := by
  rw [drSwapD, crc16Byte 0 37161 9 _ (by decide), crc16Byte 37161 47768 0 _ (by decide), crc16Byte 47768 38912 186 _ (by decide), crc16Byte 38912 0 152 _ (by decide)]; rfl

/-- Source_Capabilities of one object, 5 V at 3 A. -/
def capsD : List Byte := [1, 16, 44, 145, 1, 0, 69, 190]

theorem crc_capsD : crc16From 0 capsD = 0 := by
  rw [capsD, crc16Byte 0 4129 1 _ (by decide), crc16Byte 4129 8448 16 _ (by decide), crc16Byte 8448 53677 44 _ (by decide), crc16Byte 53677 58820 145 _ (by decide), crc16Byte 58820 31146 1 _ (by decide), crc16Byte 31146 17854 0 _ (by decide), crc16Byte 17854 48640 69 _ (by decide), crc16Byte 48640 0 190 _ (by decide)]; rfl

/-- An unstructured VDM. -/
def vdmUnD : List Byte := [15, 16, 1, 0, 52, 18, 76, 207]

theorem crc_vdmUnD : crc16From 0 vdmUnD = 0 := by
  rw [vdmUnD, crc16Byte 0 61935 15 _ (by decide), crc16Byte 61935 527 16 _ (by decide), crc16Byte 527 16227 1 _ (by decide), crc16Byte 16227 42172 0 _ (by decide), crc16Byte 42172 16313 52 _ (by decide), crc16Byte 16313 19663 18 _ (by decide), crc16Byte 19663 52992 76 _ (by decide), crc16Byte 52992 0 207 _ (by decide)]; rfl

/-- Get_Battery_Status for reference 7. -/
def batStD : List Byte := [4, 144, 0, 128, 7, 36, 230]

theorem crc_batStD : crc16From 0 batStD = 0 := by
  rw [batStD, crc16Byte 0 16516 4 _ (by decide), crc16Byte 16516 20349 144 _ (by decide), crc16Byte 20349 50219 0 _ (by decide), crc16Byte 50219 9024 128 _ (by decide), crc16Byte 9024 9446 7 _ (by decide), crc16Byte 9446 58880 36 _ (by decide), crc16Byte 58880 0 230 _ (by decide)]; rfl

/-- Get_Sink_Cap. -/
def snkCapD : List Byte := [8, 0, 137, 169]

theorem crc_snkCapD : crc16From 0 snkCapD = 0 := by
  rw [snkCapD, crc16Byte 0 33032 8 _ (by decide), crc16Byte 33032 35241 0 _ (by decide), crc16Byte 35241 43264 137 _ (by decide), crc16Byte 43264 0 169 _ (by decide)]; rfl

/-- An ACK of Discover Identity with one object. -/
def identD : List Byte := [15, 32, 65, 160, 0, 255, 1, 0, 0, 0, 169, 90]

theorem crc_identD : crc16From 0 identD = 0 := by
  rw [identD, crc16Byte 0 61935 15 _ (by decide), crc16Byte 61935 13404 32 _ (by decide), crc16Byte 13404 29234 65 _ (by decide), crc16Byte 29234 55615 160 _ (by decide), crc16Byte 55615 25940 0 _ (by decide), crc16Byte 25940 30451 255 _ (by decide), crc16Byte 30451 64880 1 _ (by decide), crc16Byte 64880 20146 0 _ (by decide), crc16Byte 20146 6922 0 _ (by decide), crc16Byte 6922 43354 0 _ (by decide), crc16Byte 43354 23040 169 _ (by decide), crc16Byte 23040 0 90 _ (by decide)]; rfl

/-- A snapshot: PPS, in transition. -/
def snapD : List Byte := [3, 1, 0, 128, 185, 164]

theorem crc_snapD : crc16From 65535 snapD = 0 := by
  rw [snapD, crc16Byte 65535 53651 3 _ (by decide), crc16Byte 53651 22653 1 _ (by decide), crc16Byte 22653 42749 0 _ (by decide), crc16Byte 42749 47524 128 _ (by decide), crc16Byte 47524 41984 185 _ (by decide), crc16Byte 41984 0 164 _ (by decide)]; rfl

/-- A snapshot: fixed, in force. -/
def snapFixD : List Byte := [1, 0, 0, 128, 99, 252]

theorem crc_snapFixD : crc16From 65535 snapFixD = 0 := by
  rw [snapFixD, crc16Byte 65535 61905 1 _ (by decide), crc16Byte 61905 11838 0 _ (by decide), crc16Byte 11838 64428 0 _ (by decide), crc16Byte 64428 25596 128 _ (by decide), crc16Byte 25596 64512 99 _ (by decide), crc16Byte 64512 0 252 _ (by decide)]; rfl

/-- A snapshot of a PPS contract in force: object C0 00 00 xx. -/
def snapPpsD : List Byte := [3, 0, 0, 128, 60, 0, 0, 192, 97, 12]

theorem crc_snapPpsD : crc16From 65535 snapPpsD = 0 := by
  rw [snapPpsD, crc16Byte 65535 53651 3 _ (by decide), crc16Byte 53651 18524 0 _ (by decide), crc16Byte 18524 38348 0 _ (by decide), crc16Byte 38348 36500 128 _ (by decide), crc16Byte 36500 5017 60 _ (by decide), crc16Byte 5017 47954 0 _ (by decide), crc16Byte 47954 17584 0 _ (by decide), crc16Byte 17584 24844 192 _ (by decide), crc16Byte 24844 3072 97 _ (by decide), crc16Byte 3072 0 12 _ (by decide)]; rfl


/-- Port 0 as a source and DFP. -/
def dfp : State := (guardSrc 3).put (pPDL 0) PDL.CFG_DATA_ROLE 1

/-- The same with a DisplayPort mode discovered and automatic entry. -/
def dpFound : State :=
  ((((dfp.put (pVDM 0) VDM.CFG_ENTER_AUTO 1).put (pVDM 0) VDM.DISC_STAT_DISC 5).put (pVDM 0) VDM.CFG_DP_EN 1).wr (pVDM 0) VDM.DP_CFG_HPD_SRC.off 0xFFFFFFFF).modFw 0
    fun f => { f with modes := [(0xFF01, 1, 0xFFFFFFFF)] }

/-- Both ring links are UP; the node is a worker without an index. -/
def ringUp : State := ((run.put (pHG 0) HG.PG_STAT_STATE 2).put (pHG 1) HG.PG_STAT_STATE 2).put pSYS SYS.PG_STAT_ROLE 1

def crc8From (c : Nat) (bs : List Byte) : Nat :=
  bs.foldl (fun c b => [7, 6, 5, 4, 3, 2, 1, 0].foldl (fun c i => crcStep 8 0x07 c (b.getLsbD i)) c) c

theorem crc8Byte (c d : Nat) (b : Byte) (bs : List Byte)
    (h : [7, 6, 5, 4, 3, 2, 1, 0].foldl (fun c i => crcStep 8 0x07 c (b.getLsbD i)) c = d) : crc8From c (b :: bs) = crc8From d bs := by subst h; rfl

theorem crc8_hdr : crc8 (List.take 7 [0, 0, 1, 0, 0, 0, 0, 0x62]) = byteAt [0, 0, 1, 0, 0, 0, 0, 0x62] 7 := by
  have e : crc8From 0 [0, 0, 1, 0, 0, 0, 0] = 98 := by
    rw [crc8Byte 0 0 0 _ (by decide), crc8Byte 0 0 0 _ (by decide), crc8Byte 0 7 1 _ (by decide), crc8Byte 7 21 0 _ (by decide), crc8Byte 21 107 0 _ (by decide), crc8Byte 107 22 0 _ (by decide), crc8Byte 22 98 0 _ (by decide)]; rfl
  exact e

theorem crc8_zero : crc8 [0, 0] = (0 : Byte).toNat := by
  have e : crc8From 0 [0, 0] = 0 := by
    rw [crc8Byte 0 0 0 _ (by decide), crc8Byte 0 0 0 _ (by decide)]; rfl
  exact e

/-- The manager of a fleet, node 5. -/
def man : State :=
  (((ringUp.put pSYS SYS.PG_STAT_ROLE 3).put pSYS SYS.PG_STAT_ACTING 3).put pID ID.NODE_INDEX 5).put pID ID.NODE_ASSIGNED 1

/-- A device to which a ring frame has been delivered. -/
def got (s : State) (b : List Byte) : State := { s with fleet := { s.fleet with inbox := [⟨0, b, 0⟩] } }

theorem get_unlisted (d : Nat → Byte) (l : List (Nat × Byte)) (k : Nat) (h : l.all (fun c => c.1 != k) = true) : Sparse.get d l k = d k := by
  induction l with
  | nil => rfl
  | cons c l ih =>
    rw [List.all_cons, Bool.and_eq_true] at h
    obtain ⟨j, v⟩ := c
    have hj : j ≠ k := by simpa using h.1
    rw [Sparse.get, if_neg hj, ih h.2]

theorem getList_zero (l : List (Nat × Byte)) (a n : Nat) (b : 0x64200 ≤ a) (h : l.all (fun c => decide (c.1 < a) || decide (a + n ≤ c.1)) = true) :
    Sparse.getList storeDflt l a n = List.replicate n 0 := by
  induction n generalizing a with
  | zero => rfl
  | succ n ih =>
    rw [Sparse.getList, get_unlisted, ih]
    · rw [show storeDflt a = 0 by rw [storeDflt, if_neg (by omega), if_neg (by omega)]]
      rfl
    · omega
    · rw [List.all_eq_true] at h ⊢
      intro c hc
      have := h c hc
      simp at this ⊢
      omega
    · rw [List.all_eq_true] at h ⊢
      intro c hc
      have := h c hc
      simp at this ⊢
      omega

theorem getList_append (l : List (Nat × Byte)) (a m n : Nat) :
    Sparse.getList storeDflt l a (m + n) = Sparse.getList storeDflt l a m ++ Sparse.getList storeDflt l (a + m) n := by
  induction m generalizing a with
  | zero => simp [Sparse.getList]
  | succ m ih =>
    have e : m + 1 + n = (m + n) + 1 := by omega
    have f : a + 1 + m = a + (m + 1) := by omega
    rw [e, Sparse.getList, ih, Sparse.getList, List.cons_append, f]

/-- A device with a record of 512 bytes: its first bytes, all others 0. -/
def entryIn (s : State) (a : Nat) (d : List Byte) : State :=
  { s with store := ((List.range d.length).zip d).filterMap fun c => if c.2 = 0 then none else some (a + c.1, c.2) }

theorem entryOk (s : State) (a : Nat) (d : List Byte) (c : crc16From 0xFFFF d = 0)
    (h : s.stRead a d.length = d ∧ d.length ≤ 510 ∧ 0x64200 ≤ a ∧ s.stBadIn a 512 = false ∧ s.stNat (a + 512 - 2) 2 = 0 ∧
      s.store.all (fun c => decide (c.1 < a + d.length) || decide (a + d.length + (510 - d.length) ≤ c.1)) = true) : s.stChecks a 512 = true := by
  obtain ⟨h1, h2, hb, h3, h4, h5⟩ := h
  have f : ∀ (c : Nat) (x y : List Byte), crc16From c (x ++ y) = crc16From (crc16From c x) y := fun c x y => List.foldl_append
  have e : crc16 (s.stRead a 510) = 0 := by
    have p : 510 = d.length + (510 - d.length) := by omega
    rw [State.stRead] at h1 ⊢
    rw [p, getList_append, h1, getList_zero _ _ _ (by omega) h5, crc16, f, c, crc16From_zeros]
  simp only [State.stChecks, Nat.reduceSub, e, h3, h4]
  simp

/-- A GRANT frame. -/
def entGrant : List Byte := [7, 145, 23]

theorem crc_entGrant : crc16From 65535 entGrant = 0 := by
  rw [entGrant, crc16Byte 65535 37143 7 _ (by decide), crc16Byte 37143 5888 145 _ (by decide), crc16Byte 5888 0 23 _ (by decide)]; rfl


/-- A device with a port or pool record whose bytes are given, the others 0. -/
def recIn (s : State) (a : Nat) (d : List Byte) : State := { s with store := (List.range 32).map fun i => (a + i, d.getD i 0) }

theorem recOkOk (s : State) (a : Nat) (d : List Byte) (c : crc16From 0xFFFF d = 0)
    (h : s.stRead a 28 = d ++ List.replicate (28 - d.length) 0 ∧ s.stBadIn a 32 = false ∧ s.stNat (a + 28) 2 = 0) : s.recOk a = true := by
  obtain ⟨h1, h3, h4⟩ := h
  have f : ∀ (c : Nat) (x y : List Byte), crc16From c (x ++ y) = crc16From (crc16From c x) y := fun c x y => List.foldl_append
  have e : crc16 (s.stRead a 28) = 0 := by rw [h1, crc16, f, c, crc16From_zeros]
  simp only [State.recOk, e, h3, h4]
  simp

/-- Port 0 in shadow presentation with a valid mirror of zeros but for the contract. -/
def shadow : State :=
  ((force (force run (pCC 0) CC.CFG_DB_CLAMP 0) (pCC 0) PG.CTRL_ENABLE 1).put (pCC 0) CC.PG_STAT_STATE 0 |>.put (pCC 0) CC.PG_STAT_TWIN_MODE 2).modTw 0 fun t => { t with mir := some [8, 64] }

/-- A CONTRACT frame. -/
def entContract : List Byte := [40, 68, 154]

theorem crc_entContract : crc16From 65535 entContract = 0 := by
  rw [entContract, crc16Byte 65535 17562 40 _ (by decide), crc16Byte 17562 39424 68 _ (by decide), crc16Byte 39424 0 154 _ (by decide)]; rfl

/-- A TELEM frame. -/
def entTelem : List Byte := [6, 129, 54]

theorem crc_entTelem : crc16From 65535 entTelem = 0 := by
  rw [entTelem, crc16Byte 65535 33078 6 _ (by decide), crc16Byte 33078 13824 129 _ (by decide), crc16Byte 13824 0 54 _ (by decide)]; rfl

/-- A LEDGER frame. -/
def entLedger : List Byte := [13, 48, 93]

theorem crc_entLedger : crc16From 65535 entLedger = 0 := by
  rw [entLedger, crc16Byte 65535 12381 13 _ (by decide), crc16Byte 12381 23808 48 _ (by decide), crc16Byte 23808 0 93 _ (by decide)]; rfl

/-- A TWIN frame. -/
def entTwin : List Byte := [12, 32, 124]

theorem crc_entTwin : crc16From 65535 entTwin = 0 := by
  rw [entTwin, crc16Byte 65535 8316 12 _ (by decide), crc16Byte 8316 31744 32 _ (by decide), crc16Byte 31744 0 124 _ (by decide)]; rfl

/-- It came by TIE. -/
def viaD : List Byte := [2, 32, 66]

theorem crc_viaD : crc16From 0 viaD = 0 := by
  rw [viaD, crc16Byte 0 8258 2 _ (by decide), crc16Byte 8258 16896 32 _ (by decide), crc16Byte 16896 0 66 _ (by decide)]; rfl

/-- A record with a limit. -/
def recD : List Byte := [5, 177, 85]

theorem crc_recD : crc16From 65535 recD = 0 := by
  rw [recD, crc16Byte 65535 45397 5 _ (by decide), crc16Byte 45397 21760 177 _ (by decide), crc16Byte 21760 0 85 _ (by decide)]; rfl


/-- A TWIN frame that came by TIE stands in receive entry 0. -/
def viaIn (s : State) : State :=
  { s with store := [(0xB0000, 12), (0xB0001, 32), (0xB0002, 124), (0xB010C, 2), (0xB010D, 32), (0xB010E, 66)] }

theorem viaIn_checks : (viaIn ringUp).stChecks (rxfAt (0 : Fin 64).val) 512 = true := by
  have f : ∀ (c : Nat) (x y : List Byte), crc16From c (x ++ y) = crc16From (crc16From c x) y := fun c x y => List.foldl_append
  have a : (viaIn ringUp).stRead 0xB0000 510 = entTwin ++ (List.replicate 265 0 ++ (viaD ++ List.replicate 239 0)) := by
    rw [State.stRead, show 510 = 3 + (265 + (3 + 239)) from rfl, getList_append, getList_append _ _ 265, getList_append _ _ 3 239,
      getList_zero _ _ 265 (by decide) (by decide), getList_zero _ _ 239 (by decide) (by decide)]
    rfl
  have e : crc16 ((viaIn ringUp).stRead 0xB0000 510) = 0 := by
    rw [a, crc16, f, f, f, crc_entTwin, crc16From_zeros, crc_viaD, crc16From_zeros]
  have z : rxfAt (0 : Fin 64).val = 0xB0000 := rfl
  have p : (viaIn ringUp).stBadIn 0xB0000 512 = false := rfl
  have q : (viaIn ringUp).stNat (0xB0000 + 512 - 2) 2 = 0 := by decide
  simp only [State.stChecks, z, Nat.reduceSub, e, p, q]
  simp


/-- The host bus answers: VDDIO present, PEC optional. -/
def hostUp : State := (run.put pSUP SUP.PG_STAT_VDDIO_OK 1).put pHOST HOST.CFG_PEC_REQ 0

/-- The same with an enabled event of GPIO that asks for attention. -/
def hostAttn : State :=
  (((hostUp.wr pGPIO 0x10 1).wr pGPIO 0x14 1).put pEVT (EVT.ATTN_EN_PAGE.at (pGPIO / 32)) (2 ^ (pGPIO % 32))).put pHOST HOST.CFG_NOTIFY_EN 1

/-- A pack of two cells whose gauge runs. -/
def pack : State := (run.put pGAUGE GAUGE.PG_CTRL_ENABLE 1).put pGAUGE GAUGE.CFG_CELLS 2

/-- A device that may be updated: enough supply, unlocked. -/
def upd : State := { run.put pUPD UPD.STAT_UNLOCKED 1 with pins := { run.pins with vsysMv := 4000 } }

/-- The same in a fleet session. -/
def inSess : State := { upd.put pUPD UPD.STAT_SESSION 2 with upd := { run.upd with named := true, img := some ⟨1, 512, 0, 0⟩ } }

/-- START. -/
def imgStartD : List Byte := [11, 0, 0, 24, 0, 0, 0, 0, 1, 0, 0, 0, 0, 2, 0, 0, 1, 0, 0, 0, 1, 0, 0, 0, 1, 0, 0, 0, 0, 0, 0, 0, 143, 50]

theorem crc_imgStartD : crc16From 65535 imgStartD = 0 := by
  rw [imgStartD, crc16Byte 65535 20635 11 _ (by decide), crc16Byte 20635 49653 0 _ (by decide), crc16Byte 49653 15469 0 _ (by decide), crc16Byte 15469 2534 24 _ (by decide), crc16Byte 2534 30505 0 _ (by decide), crc16Byte 30505 10096 0 _ (by decide), crc16Byte 10096 9349 0 _ (by decide), crc16Byte 9349 57830 0 _ (by decide), crc16Byte 57830 6958 1 _ (by decide), crc16Byte 6958 36186 0 _ (by decide), crc16Byte 36186 6693 0 _ (by decide), crc16Byte 6693 38523 0 _ (by decide), crc16Byte 38523 39039 0 _ (by decide), crc16Byte 39039 24051 2 _ (by decide), crc16Byte 24051 30808 0 _ (by decide), crc16Byte 30808 42911 0 _ (by decide), crc16Byte 42911 18988 1 _ (by decide), crc16Byte 18988 50574 0 _ (by decide), crc16Byte 50574 2025 0 _ (by decide), crc16Byte 2025 39399 0 _ (by decide), crc16Byte 39399 58801 1 _ (by decide), crc16Byte 58801 7307 0 _ (by decide), crc16Byte 7307 22717 0 _ (by decide), crc16Byte 22717 26365 0 _ (by decide), crc16Byte 26365 57665 1 _ (by decide), crc16Byte 57665 44047 0 _ (by decide), crc16Byte 44047 31590 0 _ (by decide), crc16Byte 31590 43516 0 _ (by decide), crc16Byte 43516 55491 0 _ (by decide), crc16Byte 55491 35189 0 _ (by decide), crc16Byte 35189 30113 0 _ (by decide), crc16Byte 30113 36658 0 _ (by decide), crc16Byte 36658 12800 143 _ (by decide), crc16Byte 12800 0 50 _ (by decide)]; rfl

/-- SECTION. -/
def imgSectD : List Byte := [11, 0, 0, 8, 0, 0, 0, 0, 2, 0, 0, 0, 3, 0, 0, 0, 140, 226]

theorem crc_imgSectD : crc16From 65535 imgSectD = 0 := by
  rw [imgSectD, crc16Byte 65535 20635 11 _ (by decide), crc16Byte 20635 49653 0 _ (by decide), crc16Byte 49653 15469 0 _ (by decide), crc16Byte 15469 7127 8 _ (by decide), crc16Byte 7127 29786 0 _ (by decide), crc16Byte 29786 25619 0 _ (by decide), crc16Byte 25619 16162 0 _ (by decide), crc16Byte 16162 58812 0 _ (by decide), crc16Byte 58812 12745 2 _ (by decide), crc16Byte 12745 61298 0 _ (by decide), crc16Byte 61298 32449 0 _ (by decide), crc16Byte 32449 24153 0 _ (by decide), crc16Byte 24153 53848 3 _ (by decide), crc16Byte 53848 45887 0 _ (by decide), crc16Byte 45887 43192 0 _ (by decide), crc16Byte 43192 36066 0 _ (by decide), crc16Byte 36066 57856 140 _ (by decide), crc16Byte 57856 0 226 _ (by decide)]; rfl

/-- END. -/
def imgEndD : List Byte := [11, 0, 0, 4, 0, 0, 0, 0, 3, 0, 0, 0, 157, 253]

theorem crc_imgEndD : crc16From 65535 imgEndD = 0 := by
  rw [imgEndD, crc16Byte 65535 20635 11 _ (by decide), crc16Byte 20635 49653 0 _ (by decide), crc16Byte 49653 15469 0 _ (by decide), crc16Byte 15469 55899 4 _ (by decide), crc16Byte 55899 12599 0 _ (by decide), crc16Byte 12599 4466 0 _ (by decide), crc16Byte 4466 28688 0 _ (by decide), crc16Byte 28688 28311 0 _ (by decide), crc16Byte 28311 10763 3 _ (by decide), crc16Byte 10763 36392 0 _ (by decide), crc16Byte 36392 22598 0 _ (by decide), crc16Byte 22598 40445 0 _ (by decide), crc16Byte 40445 64768 157 _ (by decide), crc16Byte 64768 0 253 _ (by decide)]; rfl

/-- COMMIT. -/
def imgCommitD : List Byte := [11, 0, 0, 4, 0, 0, 0, 0, 4, 0, 0, 0, 204, 208]

theorem crc_imgCommitD : crc16From 65535 imgCommitD = 0 := by
  rw [imgCommitD, crc16Byte 65535 20635 11 _ (by decide), crc16Byte 20635 49653 0 _ (by decide), crc16Byte 49653 15469 0 _ (by decide), crc16Byte 15469 55899 4 _ (by decide), crc16Byte 55899 12599 0 _ (by decide), crc16Byte 12599 4466 0 _ (by decide), crc16Byte 4466 28688 0 _ (by decide), crc16Byte 28688 28311 0 _ (by decide), crc16Byte 28311 23276 4 _ (by decide), crc16Byte 23276 6079 0 _ (by decide), crc16Byte 6079 56790 0 _ (by decide), crc16Byte 56790 52432 0 _ (by decide), crc16Byte 52432 53248 204 _ (by decide), crc16Byte 53248 0 208 _ (by decide)]; rfl

/-- ACTIVATE. -/
def imgActD : List Byte := [11, 0, 0, 4, 0, 0, 0, 0, 5, 0, 0, 0, 186, 100]

theorem crc_imgActD : crc16From 65535 imgActD = 0 := by
  rw [imgActD, crc16Byte 65535 20635 11 _ (by decide), crc16Byte 20635 49653 0 _ (by decide), crc16Byte 49653 15469 0 _ (by decide), crc16Byte 15469 55899 4 _ (by decide), crc16Byte 55899 12599 0 _ (by decide), crc16Byte 12599 4466 0 _ (by decide), crc16Byte 4466 28688 0 _ (by decide), crc16Byte 28688 28311 0 _ (by decide), crc16Byte 28311 19149 5 _ (by decide), crc16Byte 19149 9358 0 _ (by decide), crc16Byte 9358 60134 0 _ (by decide), crc16Byte 60134 47716 0 _ (by decide), crc16Byte 47716 25600 186 _ (by decide), crc16Byte 25600 0 100 _ (by decide)]; rfl

/-- ABORT. -/
def imgAbortD : List Byte := [11, 0, 0, 4, 0, 0, 0, 0, 6, 0, 0, 0, 33, 184]

theorem crc_imgAbortD : crc16From 65535 imgAbortD = 0 := by
  rw [imgAbortD, crc16Byte 65535 20635 11 _ (by decide), crc16Byte 20635 49653 0 _ (by decide), crc16Byte 49653 15469 0 _ (by decide), crc16Byte 15469 55899 4 _ (by decide), crc16Byte 55899 12599 0 _ (by decide), crc16Byte 12599 4466 0 _ (by decide), crc16Byte 4466 28688 0 _ (by decide), crc16Byte 28688 28311 0 _ (by decide), crc16Byte 28311 31406 6 _ (by decide), crc16Byte 31406 29149 0 _ (by decide), crc16Byte 29149 46006 0 _ (by decide), crc16Byte 46006 8632 0 _ (by decide), crc16Byte 8632 47104 33 _ (by decide), crc16Byte 47104 0 184 _ (by decide)]; rfl

/-- DATA, a page of zeros. -/
def imgDataD : List Byte := [27, 0, 0, 0, 1, 233, 136]

theorem crc_imgDataD : crc16From 65535 imgDataD = 0 := by
  rw [imgDataD, crc16Byte 65535 17066 27 _ (by decide), crc16Byte 17066 49798 0 _ (by decide), crc16Byte 49798 32526 0 _ (by decide), crc16Byte 32526 33144 0 _ (by decide), crc16Byte 33144 59784 1 _ (by decide), crc16Byte 59784 34816 233 _ (by decide), crc16Byte 34816 0 136 _ (by decide)]; rfl


/-- Data flash with the completion marker of a blank image in area 2; the running bank is in trial. -/
def confirmable : State :=
  { upd with
    tick := 200000
    nvd := [(8192, 8), (8193, 0), (8194, 0), (8195, 2), (8196, 0), (8197, 0), (10232, 123), (10233, 186), (10234, 154), (10235, 19), (10236, 0xA5), (10237, 0xA5), (10238, 0x5A), (10239, 0x5A)]
    boot := { run.boot with now := { run.boot.now with a := ⟨.trial, 1⟩, cfgB := false } } }

theorem confirmable_crc : crc32 [8, 0, 0, 2, 0, 0, 255, 255, 255, 255, 255, 255, 255, 255, 255, 255] = 328907387 := by
  have e : crc32From 0xFFFFFFFF [8, 0, 0, 2, 0, 0, 255, 255, 255, 255, 255, 255, 255, 255, 255, 255] = 3966059908 := by
    rw [crc32Byte 4294967295 589731904 8 _ (by decide), crc32Byte 589731904 1996449544 0 _ (by decide), crc32Byte 1996449544 246249301 0 _ (by decide), crc32Byte 246249301 4110510368 2 _ (by decide), crc32Byte 4110510368 1000022433 0 _ (by decide), crc32Byte 1000022433 2716469343 0 _ (by decide), crc32Byte 2716469343 3598141920 255 _ (by decide), crc32Byte 3598141920 2380167868 255 _ (by decide), crc32Byte 2380167868 4015574608 255 _ (by decide), crc32Byte 4015574608 1183246007 255 _ (by decide), crc32Byte 1183246007 2017546052 255 _ (by decide), crc32Byte 2017546052 1556818763 255 _ (by decide), crc32Byte 1556818763 3427843262 255 _ (by decide), crc32Byte 3427843262 18293178 255 _ (by decide), crc32Byte 18293178 112697918 255 _ (by decide), crc32Byte 112697918 3966059908 255 _ (by decide)]
    rfl
  rw [crc32, e]
  rfl

theorem confirmable_marked : confirmable.cfgMarked 2 = true := by
  have v : confirmable.slotValid 2 0 = true := by
    have b : confirmable.nvdBytes (slotAt 2 0) (8 + confirmable.slotLen 2 0) = [8, 0, 0, 2, 0, 0, 255, 255, 255, 255, 255, 255, 255, 255, 255, 255] := by decide
    have x : (confirmable.nvdNat (slotAt 2 0 + 0x7FC) 4 == 0x5A5AA5A5 && confirmable.slotSeq 2 0 + confirmable.nvdNat (slotAt 2 0 + 6) 2 == 0xFFFF &&
      confirmable.nvdNat (slotAt 2 0 + 3) 1 == 2 && decide (confirmable.slotLen 2 0 ≤ 2032)) = true := by decide
    simp only [State.slotValid, b, confirmable_crc, x, Bool.true_and]
    decide
  have w : confirmable.slotValid 2 1 = false := by decide
  have n : confirmable.newest 2 = some 0 := by rw [State.newest, v, w]
  rw [State.cfgMarked, State.nvdRecord, n]
  decide


/-- A complete image of 512 bytes stands in bank B, and a COMMIT frame in receive entry 0. -/
def wholeImg : State :=
  { inSess with
    store := (entryIn inSess (rxfAt 0) imgCommitD).store ++ (List.range 16).map fun i => (maskAt + i, 255)
    code := ([0x49, 0x4D, 0x59, 0x4C, 1, 0, 0, 1, 0, 2, 0, 0, 7, 0, 0, 0, 0, 0, 0, 0, 0, 0, 0, 0, 4, 0, 0, 0, 0, 0, 0, 0].zipIdx.map fun c => (0x80000 + c.2, c.1)) ++
      (List.range 64).map fun i => (0x80000 + 192 + i, 0) }

theorem wholeImg_checks : wholeImg.stChecks (rxfAt (0 : Fin 64).val) 512 = true := entryOk _ _ imgCommitD crc_imgCommitD (by decide)

theorem getList_length {α : Type} (d : Nat → α) (m : List (Nat × α)) (a n : Nat) : (Sparse.getList d m a n).length = n := by
  induction n generalizing a with
  | zero => rfl
  | succ n ih => rw [Sparse.getList, List.length_cons, ih]

theorem rxPayload_length (s : State) (i : Nat) : (s.rxPayload i).length = min 256 (bitsOf (s.stNat (rxfAt i + 3) 2) 0 9) := getList_length _ _ _ _

/-! ### Worked examples of the manual -/

/-- The words of Table 17.14. -/
def pass : List Nat := [0x0009A401, 0x240A2180, 0x40281AC0, 0xEA0FFFF4]

theorem test_bundle_fields : (⟨0x12340, 0x0009A401⟩ : SkW).op = 1 ∧ (⟨0x12340, 0x0009A401⟩ : SkW).d = 3 ∧ (⟨0x12340, 0x0009A401⟩ : SkW).a = 2 ∧
    (⟨0x12344, 0x240A2180⟩ : SkW).slot = 1 ∧ (⟨0x12344, 0x240A2180⟩ : SkW).pred = 1 ∧ (⟨0x12344, 0x240A2180⟩ : SkW).s = 4 ∧
    (⟨0x12344, 0x240A2180⟩ : SkW).t = 3 ∧ (⟨0x12348, 0x40281AC0⟩ : SkW).slot = 2 ∧ (⟨0x12348, 0x40281AC0⟩ : SkW).op = 5 ∧
    (⟨0x1234C, 0xEA0FFFF4⟩ : SkW).stop = true ∧ (⟨0x1234C, 0xEA0FFFF4⟩ : SkW).pneg = true ∧ (⟨0x1234C, 0xEA0FFFF4⟩ : SkW).imm 19 = -12 := by decide

/-- Engine 2 at the bundle of Table 17.14, P1 set and P2 clear, D3 = 3, D4 = 4, D5 = 5, A2 in the scratch. -/
def atPass : State :=
  ({ run with iram := Sparse.setList flashDflt [] 0x12340 (pass.flatMap (leBytes 4)) }).modEng 2 fun e =>
    { e with run := .running, pc := 0x12340, d := ((e.d.set 3 3).set 4 4).set 5 5, a := e.a.set 2 0x100, p := 3, fhnd := 0x400, budleft := 1000,
             scratch := [(0x100, 9)] }

/-- R432 on Table 17.14: ADD and MACQ use the old D3, the load lands at the end, A2 advances by 4, the branch is taken to 0x01_2310, in 2 cycles. -/
theorem test_bundle_pass : (match exec (.executeBundle 2 bundleIn) atPass with
    | .next t => (t.eng 2).d.get 4 == 7 && (t.eng 2).acc.get 0 == 30 && (t.eng 2).d.get 3 == 9 && (t.eng 2).a.get 2 == 0x104 && (t.eng 2).pc == 0x12310 &&
        (t.eng 2).budleft == 998
    | _ => false) = true := by decide

/-- A board with V0 = 5.00 V and a 200 kΩ top resistor (the examples below R226). -/
def board : State := force (force run (pPOL 0) POL.CONV_CFG_V0 250) (pPOL 0) POL.CONV_CFG_RT_KOHM 200

theorem test_converter_code : (board.setTarget 0 4000).fld (pPOL 0) POL.CONV_STAT_I_CODE = 0x2580 ∧
    (board.setTarget 0 9600).fld (pPOL 0) POL.CONV_STAT_I_CODE = 0x6B80 ∧ (board.setTarget 0 660).fld (pPOL 0) POL.CONV_STAT_I_CODE = 0xFBC0 := by decide

/-- R120 across the wrap of 32 bits. -/
theorem test_deadline_wrap : passed 0 0xFFFFFFFF = true ∧ passed 5 5 = false ∧ earlier 0xFFFFFFF0 3 = true ∧ earlier 3 0xFFFFFFF0 = false := by decide

/-! ### Witnesses -/

theorem witness_StepTakesTheFrontCommand :
    (∃ (c : Instr) (rest : List Instr) (s : State), s.pending = c :: rest) ∧ (∃ s : State, s.pending = []) :=
  ⟨⟨.por, [.nrstLow], { run with pending := [.por, .nrstLow] }, rfl⟩, run, rfl⟩

theorem witness_EveryStepKeepsTheInvariant : ∃ s t : State, s.Inv ∧ step s = .next t :=
  ⟨State.reset, State.reset, ⟨by decide, fun k => by revert k; decide, by decide⟩, rfl⟩

theorem witness_WholeRunsKeepWhatOnlyGrows : ∃ s : State, s.Inv := ⟨State.reset, by decide, fun k => by revert k; decide, by decide⟩

theorem witness_TestPageReadsZeroUnlessOpen :
    ∃ s : State, s.dbg.state ≠ .opened ∧ s.live = true ∧ 4 ≤ 0xFF % 256 ∧ 4 ≤ 4 % 256 ∧ 3 % 256 < 4 := ⟨run, by decide⟩

theorem witness_PageMapIsTable29 :
    (∃ s : State, s.live = true ∧ s.part.x = true) ∧ (0x61 ≤ 0x61 + 15 ∧ 15 < 16) ∧ (0xF1 ≤ 0xFF ∧ 0xFF ≤ 0xFF) := ⟨⟨run, by decide⟩, by decide, by decide⟩

theorem witness_BurstsStayInThePage :
    (0xFC < 256) ∧ (∃ (s : State) (n : BitVec 8), s.hostOn = true ∧ s.host.wait = none ∧ s.host.posted = none ∧ s.winLocal = true ∧ s.winOff = 0xFC ∧
      4 ≤ n.toNat ∧ n.toNat ≤ 252 ∧ n.toNat % 4 = 0) ∧
    (∃ (s : State) (n : BitVec 8) (data : List Byte), s.hostOn = true ∧ s.host.wait = none ∧ s.host.posted = none ∧ s.winLocal = true ∧ s.pecReq = false ∧
      data.length = n.toNat ∧ 4 ≤ n.toNat ∧ n.toNat ≤ 252 ∧ n.toNat % 4 = 0) :=
  ⟨by decide, ⟨hostUp.put pHOST HOST.WINDOW_OFFSET 0xFC, 252, by decide⟩, hostUp, 4, [1, 2, 3, 4], by decide⟩

theorem witness_EventSummaryReturnsTheFleet :
    (∃ s : State, s.hostOn = true ∧ s.host.wait = none ∧ s.node < 64 ∧ s.role = .solo) ∧
    (∃ s : State, s.hostOn = true ∧ s.host.wait = none ∧ s.node = 63 ∧ s.acting = .manager ∧ s.role ≠ .solo ∧ 8 * 7 + 6 ≠ s.node) :=
  ⟨⟨hostUp, by decide⟩, ((hostUp.put pSYS SYS.PG_STAT_ROLE 3).put pSYS SYS.PG_STAT_ACTING 3).put pID ID.NODE_INDEX 63, by decide⟩

theorem witness_StoreRecordsCheck :
    (storeTop - 3 + ([7] : List Byte).length + 2 ≤ storeTop) ∧ ∃ (s : State) (a n crc : Nat), a + n + 2 ≤ storeTop ∧ crc < 2 ^ 16 ∧ crc ≠ crc16 (s.stRead a n) :=
  ⟨by decide, run, 0, 0, 0, by decide⟩

theorem witness_ConverterCodeRounds : ∃ s : State, (s.port 0).pol.twinTrim = 0 ∧ 2 ^ 14 - 1 < 2 ^ 14 ∧ s.flag (pPOL 0) POL.CONV_STAT_SAT = false := ⟨run, by decide⟩

theorem witness_SkinkWordsComputeTheirTables :
    (∃ x : SkW, x.op = 0x01 ∧ bitAt x.w 6 = false) ∧ (∃ x : SkW, x.op = 0x18) ∧ (∃ x : SkW, x.op = 0x03 ∧ bitAt x.w 6 = true) :=
  ⟨⟨⟨0, 0x01 * 2 ^ 19⟩, by decide⟩, ⟨⟨0, 0x18 * 2 ^ 19⟩, by decide⟩, ⟨0, 0x03 * 2 ^ 19 + 64⟩, by decide⟩

theorem witness_StickyFlagsOnlySet :
    (∃ n : EngSt, n.flg.getLsbD 8 = true ∧ n.flg.getLsbD 10 = true) ∧ (∃ x : SkW, x.op ∉ [0x01, 0x02, 0x03, 0x04, 0x07, 0x14, 0x28, 0x29, 0x2A, 0x2B, 0x2C, 0x2D]) :=
  ⟨⟨{ State.reset.eng 0 with flg := 0x700 }, by decide⟩, ⟨0, 0x08 * 2 ^ 19⟩, by decide⟩

theorem witness_RegisterPageCommandsComplete :
    (∃ (s : State) (rq : Req) (pg : BitVec 8) (v : Word) (r : PageRow), s.Takes pg.toNat ∧ pageRow pg.toNat = some r ∧ s.pageShut r = false) ∧
    (∃ (s : State) (rq : Req) (i : Fin 16) (v : Word), s.Takes pEVT) ∧
    (∃ (s : State) (rq : Req) (n : Port) (v : Word), s.Takes (pCC n) ∧ s.locked (pCC n) = true) ∧
    (∃ (s : State) (pg : BitVec 8) (v hw : Word) (r : PageRow), s.Takes pg.toNat ∧ pageRow pg.toNat = some r ∧ s.pageShut r = false ∧ hw &&& evtMask r = 0) ∧
    (∃ (s : State) (pg : BitVec 8) (v hw : Word) (r : PageRow) (i : Nat), s.Takes pg.toNat ∧ pageRow pg.toNat = some r ∧ s.pageShut r = false ∧ i < 32 ∧ (hw &&& evtMask r).getLsbD i = true) ∧
    (∃ (s : State) (pg : BitVec 8) (v : Word) (r : PageRow), s.Takes pg.toNat ∧ pageRow pg.toNat = some r ∧ s.pageShut r = false) ∧
    (∃ (s : State) (pg : BitVec 8) (v : Word) (r : PageRow), s.live = true ∧ pageRow pg.toNat = some r ∧ s.pageShut r = false ∧ s.locked pg.toNat = false ∧ v.getLsbD 0 = true) ∧
    (∃ (s : State) (pg : BitVec 8) (v : Word) (r : PageRow), s.live = true ∧ pageRow pg.toNat = some r ∧ s.pageShut r = false ∧ s.locked pg.toNat = true ∧ v.getLsbD 0 = true) ∧
    (∃ (s : State) (pg : BitVec 8) (v : Word), v.getLsbD 0 = false) ∧
    (∃ (s : State) (pg : BitVec 8) (r : PageRow), s.Takes pg.toNat ∧ pageRow pg.toNat = some r ∧ s.pageShut r = false) ∧
    (∃ (s : State) (pg : BitVec 8) (r : PageRow), s.Takes pg.toNat ∧ pageRow pg.toNat = some r ∧ s.pageShut r = false) ∧
    (∃ (s : State) (pg : BitVec 8), s.live = true ∧ s.rst.blocks.any (fun c => c.1 == pg.toNat && decide (c.2 < s.tick)) = true) ∧
    (∃ (s : State) (rq : Req) (pg off : BitVec 8) (r : PageRow), s.Takes pg.toNat ∧ pageRow pg.toNat = some r ∧ s.pageShut r = false ∧ lowWord r.kind off.toNat = true ∧ (r.reg off.toNat).all (fun x => x.rc == 0) = true ∧ off.toNat % 4 = 0 ∧ (0x20 ≤ off.toNat && lowWord r.kind (off.toNat - 4)) = false) ∧
    (∃ (s : State) (rq : Req) (n : Port) (off : BitVec 8) (r : PageRow) (x : RegRow), s.Takes (pMEAS n) ∧ pageRow (pMEAS n) = some r ∧ r.reg off.toNat = some x ∧ 0x20 ≤ off.toNat ∧ off.toNat % 4 = 0 ∧ x.rc ≠ 0 ∧ s.flag (pMEAS n) PG.CTRL_FREEZE = false) ∧
    (∃ (s : State) (rq : Req) (r : PageRow), s.Takes pHOST ∧ pageRow pHOST = some r ∧ s.flag pHOST PG.CTRL_FREEZE = false) ∧
    (∃ (s : State) (rq : Req) (pg off : BitVec 8) (r : PageRow) (x : RegRow), s.Takes pg.toNat ∧ pageRow pg.toNat = some r ∧ s.pageShut r = false ∧ r.reg off.toNat = some x ∧ x.rc ≠ 0 ∧ off.toNat % 4 = 0 ∧ (0x20 ≤ off.toNat && lowWord r.kind (off.toNat - 4)) = false ∧ lowWord r.kind off.toNat = false ∧ s.flag pg.toNat PG.CTRL_FREEZE = true ∧ 0x20 ≤ off.toNat) :=
  ⟨⟨run, .host, 0x0A, 0x12345678, (rowOf 0x0A), by decide⟩,
   ⟨run, .host, 15, 0x12345678, by decide⟩,
   ⟨run.put (pCC 3) PG.LOCK_LOCK 1, .host, 3, 0x12345678, by decide⟩,
   ⟨run.wr 0x0A 0x10 7, 0x0A, 5, 0, (rowOf 0x0A), by decide⟩,
   ⟨run.wr 0x0A 0x10 7, 0x0A, 5, 4, (rowOf 0x0A), 2, by decide⟩,
   ⟨run, 0x0A, 0x12345678, (rowOf 0x0A), by decide⟩,
   ⟨run, 0x0A, 1, (rowOf 0x0A), by decide⟩,
   ⟨run.put 0x0A PG.LOCK_LOCK 1, 0x0A, 1, (rowOf 0x0A), by decide⟩,
   ⟨run, 0x0A, 2, by decide⟩,
   ⟨run, 0x20, (rowOf 0x20), by decide⟩,
   ⟨run, 0x20, (rowOf 0x20), by decide⟩,
   ⟨{ run with tick := 5, rst := { run.rst with blocks := [(0x0A, 4)] } }, 0x0A, by decide⟩,
   ⟨run, .host, 64, 64, (rowOf 64), by decide⟩,
   ⟨run.wr 0x20 0x38 0xFFFFFFFF, .host, 0, 0x38, (rowOf 0x20), (regOf 0x20 0x38), by decide⟩,
   ⟨run.wr pHOST 0x28 0xFFFFFFFF, .host, (rowOf pHOST), by decide⟩,
   ⟨(run.wr 0x20 0x38 0xFFFFFFFF).put 0x20 PG.CTRL_FREEZE 1, .host, 0x20, 0x38, (rowOf 0x20), (regOf 0x20 0x38), by decide⟩⟩

theorem witness_ResetRequestsComplete :
    (∃ (s : State) (key : BitVec 16), s.Takes pSYS ∧ key.toNat = 0xA5C3) ∧
    (∃ (s : State) (key : BitVec 16), s.Takes pSYS ∧ key.toNat ≠ 0xA5C3) ∧
    (∃ (s : State) (pg : BitVec 8) (r : PageRow), s.Takes pg.toNat ∧ pageRow pg.toNat = some r ∧ s.pageShut r = false ∧ noBlockReset r.kind = false ∧ r.kind ≠ .cc ∧ r.kind ≠ .guard ∧ s.locked pg.toNat = false) ∧
    (∃ (s : State), s.Takes pCLK ∧ s.locked pCLK = false) ∧
    (∃ (s : State) (n : Port), s.Takes (pMEAS n) ∧ s.locked (pMEAS n) = false) ∧
    (∃ (s : State) (pg : BitVec 8) (n : Port), s.Takes pg.toNat ∧ (pg.toNat = pCC n ∨ pg.toNat = pGUARD n) ∧ (∀ q ∈ portPages n, s.locked q = false)) ∧
    (∃ (s : State) (pg : BitVec 8) (r : PageRow), s.Takes pg.toNat ∧ pageRow pg.toNat = some r ∧ s.pageShut r = false ∧ noBlockReset r.kind = false ∧ r.kind ≠ .cc ∧ r.kind ≠ .guard ∧ s.locked pg.toNat = true) ∧
    (∃ (s : State) (pg : BitVec 8) (r : PageRow), pageRow pg.toNat = some r ∧ noBlockReset r.kind = true) ∧
    (∃ (s : State) (ports : BitVec 8) (key : BitVec 16), s.Takes pSYS ∧ key.toNat = 0xA5C3) ∧
    (∃ (s : State), s.Takes pAON) ∧
    (∃ (s : State) (v : Word), s.Takes pAON ∧ 0x100 ≤ 4 * s.fld pAON AON.AOS_ADDR_WORD) ∧
    (∃ (s : State) (v : Word), s.Takes pAON ∧ 4 * s.fld pAON AON.AOS_ADDR_WORD < 0x100) ∧
    (∃ (s : State) (v : Word), s.Takes pLOCK) :=
  ⟨⟨run, 0xA5C3, by decide⟩,
   ⟨run, 0xA5C2, by decide⟩,
   ⟨run, 0x02, (rowOf 0x02), by decide⟩,
   ⟨run, by decide⟩,
   ⟨run, 3, by decide⟩,
   ⟨run, (BitVec.ofNat 8 (pCC 3)), 3, by decide⟩,
   ⟨run.put 0x02 PG.LOCK_LOCK 1, 0x02, (rowOf 0x02), by decide⟩,
   ⟨run, 0x01, (rowOf 0x01), by decide⟩,
   ⟨run, 0x88, 0xA5C3, by decide⟩,
   ⟨run, by decide⟩,
   ⟨run.put pAON AON.AOS_ADDR_WORD 0x50, 0x12345678, by decide⟩,
   ⟨run.put pAON AON.AOS_ADDR_WORD 0x10, 0x12345678, by decide⟩,
   ⟨run, 0x3F, by decide⟩⟩

theorem witness_NonvolatileCommandsComplete :
    (∃ (s : State) (key : BitVec 16), s.Takes pOTP ∧ key.toNat = 0x0A7C ∧ s.otpOp = none ∧ s.otpGate = 0 ∧ (otpReserved (s.fld pOTP OTP.PROG_ADDR_WORD) || otpRegionOf (s.fld pOTP OTP.PROG_ADDR_WORD) == 7) = false ∧ s.otpLocked (otpRegionOf (s.fld pOTP OTP.PROG_ADDR_WORD)) = false) ∧
    (∃ (s : State) (region : BitVec 3) (key : BitVec 16), s.Takes pOTP ∧ key.toNat = 0x0A7C ∧ s.otpOp = none ∧ s.otpGate = 0 ∧ (region.toNat = 5 ∨ region.toNat = 6) ∧ s.otpLocked region.toNat = false ∧ s.otpRegionMarginal region.toNat = false ∧ s.otpCrcOk region.toNat = true) ∧
    (∃ (s : State) (w : Nat) (v weak : Word), s.otpOp = some (.program w v)) ∧
    (∃ (s : State) (area : Fin 16) (format : BitVec 4) (key : BitVec 16), s.Takes pNVD ∧ key.toNat = 0x6E1D ∧ s.nvdOp = none ∧ s.nvdProtected area.val false = false ∧ s.fld pNVD NVD.LEN_BYTES ≤ 2032 ∧ s.eraseOk = true ∧ s.nvOk = true) ∧
    (∃ (s : State) (area : Fin 16) (key : BitVec 16), s.Takes pNVD ∧ key.toNat = 0x6E1D ∧ s.nvdOp = none ∧ s.nvdProtected area.val true = false) ∧
    (∃ (s : State) (area : Fin 16) (key : BitVec 16), s.Takes pNVD ∧ key.toNat = 0x6E1D ∧ s.nvdOp = none ∧ s.nvdProtected area.val false = false ∧ s.eraseOk = true) ∧
    (∃ (s : State) (area : Nat) (ok : Bool), s.nvdOp = some (.invalidate area) ∧ area ≠ 1) ∧
    (∃ (s : State) (key : BitVec 16), s.Takes pFLASH ∧ key.toNat = 0x3E91 ∧ (s.recovery = true ∨ s.flashEng ≠ none) ∧ s.flashOp = none ∧ (s.lockBit LOCK.STICKY_FLASH_ACTIVE && decide (0x80000 ≤ 4 * s.fld pFLASH FLASH.ADDR_WORD) == s.activeBank) = false ∧ s.nvOk = true ∧ s.codeWord (4 * s.fld pFLASH FLASH.ADDR_WORD) = 0xFFFFFFFF) ∧
    (∃ (s : State) (key : BitVec 16), s.Takes pFLASH ∧ key.toNat = 0x3E91 ∧ (s.recovery = true ∨ s.flashEng ≠ none) ∧ s.flashOp = none ∧ (s.lockBit LOCK.STICKY_FLASH_ACTIVE && decide (0x80000 ≤ 4 * s.fld pFLASH FLASH.ADDR_WORD) == s.activeBank) = false ∧ s.eraseOk = true) ∧
    (∃ (s : State) (v : BitVec 64) (key : BitVec 16), s.Takes pDBG ∧ key.toNat = 0xD3B6) ∧
    (∃ (s : State) (key : BitVec 16), s.Takes pDBG ∧ key.toNat = 0xD3B6 ∧ s.dbg.state = .closed ∧ s.dbg.checking = false) ∧
    (∃ (s : State) (code : Nat), s.live = true ∧ s.dbg.checking = true ∧ s.dbg.state = .closed ∧ code = s.tokCheck pDBG 0x40 1 s.dbgMode (s.dbg.against.getD 0) s.dbg.against.isSome) ∧
    (∃ (s : State), s.aonOn = true ∧ s.dbg.state = .erasing ∧ s.eraseOk = true) ∧
    (∃ (s : State) (k : Engine), s.live = true ∧ s.dbgOpen = true ∧ (s.eng k).retired = false) ∧
    (∃ (s : State) (k : Engine), s.live = true ∧ s.dbgOpen = true) ∧
    (∃ (s : State) (a : Nat) (v : Word) (ok : Bool), s.live = true ∧ s.flashOp = some (.program a v)) ∧
    (∃ (s : State) (a : Nat) (ok : Bool), s.live = true ∧ s.flashOp = some (.erase a)) :=
  ⟨⟨run.put pOTP OTP.PROG_ADDR_WORD 0x61, 0x0A7C, by decide⟩,
   ⟨otpReady, 5, 0x0A7C, by exact ⟨by decide, by decide, by decide, by decide, by decide, by decide, by decide, otpReady_crc⟩⟩,
   ⟨{ run with otpOp := some (.program 0x61 7) }, 0x61, 7, 1, by decide⟩,
   ⟨{ run with pins := { run.pins with vsysMv := 4000 } }, 3, 1, 0x6E1D, by decide⟩,
   ⟨run, 3, 0x6E1D, by decide⟩,
   ⟨{ run with pins := { run.pins with vsysMv := 4000 } }, 3, 0x6E1D, by decide⟩,
   ⟨{ run with nvdOp := some (.invalidate 3), nvd := [(12289, 5), (14336, 6), (16384, 7)] }, 3, true, by decide⟩,
   ⟨run, 0x3E91, by decide⟩,
   ⟨{ run with pins := { run.pins with vsysMv := 4000 } }, 0x3E91, by decide⟩,
   ⟨run, 0x123456789ABCDEF, 0xD3B6, by decide⟩,
   ⟨run, 0xD3B6, by decide⟩,
   ⟨{ run with dbg := { run.dbg with checking := true, against := some 0 } }, 3, by decide⟩,
   ⟨({ run with dbg := { run.dbg with state := .erasing }, pins := { run.pins with vsysMv := 4000 }, nvd := [(12289, 5), (61440, 6), (63488, 7)] }).wr pDBG 0x40 7, by decide⟩,
   ⟨{ run with dbg := { run.dbg with state := .opened } }, 3, by decide⟩,
   ⟨{ run with dbg := { run.dbg with state := .opened } }.modEng 3 (fun e => { e with halted := true }), 3, by decide⟩,
   ⟨{ run with flashOp := some (.program 0x100 5) }, 0x100, 5, true, by decide⟩,
   ⟨{ run with flashOp := some (.erase 0x100), code := [(4, 4), (4096, 5)] }, 0x100, true, by decide⟩⟩

theorem witness_SupplyCommandsComplete :
    (∃ (s : State) (mv : Nat), s.aonOn = true) ∧
    (∃ (s : State) (mv : Nat), s.aonOn = false) ∧
    (∃ (s : State) (mv : Nat), s.aonOn = true ∧ mv < 4600) ∧
    (∃ (s : State) (mv : Nat), s.aonOn = true ∧ 4600 ≤ mv) ∧
    (∃ (s : State) (mv : Nat), s.aonOn = true ∧ s.fld pSUP SUP.PG_STAT_SRC = 1 ∧ 3000 ≤ mv) ∧
    (∃ (s : State) (mv : Nat), s.aonOn = true ∧ mv < s.nvInhMv ∧ s.flag pSUP SUP.PG_STAT_NV_INHIBIT = false) ∧
    (∃ (s : State) (mv : Nat), s.aonOn = true ∧ s.nvInhMv + s.nvHystMv ≤ mv) ∧
    (∃ (s : State) (mv : Nat), s.aonOn = true ∧ s.nvInhMv + s.nvHystMv ≤ mv) ∧
    (∃ (s : State) (mv : Nat), s.aonOn = true ∧ mv < s.nvInhMv + s.nvHystMv) ∧
    (∃ (s : State) (mv : Nat), s.aonOn = true ∧ s.flag pSUP SUP.PG_STAT_WARN = false ∧ mv < s.warnMv) ∧
    (∃ (s : State) (mv : Nat), s.aonOn = true ∧ s.flag pSUP SUP.PG_STAT_WARN = true ∧ s.warnMv + 50 ≤ mv) :=
  ⟨⟨run, 1200, by decide⟩,
   ⟨State.reset, 1200, by decide⟩,
   ⟨run, 4599, by decide⟩,
   ⟨run, 4600, by decide⟩,
   ⟨(run.put pSUP SUP.PG_STAT_SRC 1), 3000, by decide⟩,
   ⟨run, 0, by decide⟩,
   ⟨run, 5000, by decide⟩,
   ⟨run, 5000, by decide⟩,
   ⟨run, 0, by decide⟩,
   ⟨run, 2799, by decide⟩,
   ⟨(run.put pSUP SUP.PG_STAT_WARN 1), 5000, by decide⟩⟩

theorem witness_PowerResetsComplete :
    (∃ (s : State), s.phase ≠ .ship) ∧
    (∃ (s : State) (mv : Nat), s.aonOn = true ∧ mv < 2750 ∧ s.fld pSUP SUP.PG_STAT_SRC = 0) ∧
    (∃ (s : State) (n : Port), s.phase = .ship) ∧
    (∃ (s : State) (n : Port), s.phase = .ship) ∧
    (∃ (s : State) (n : Port), s.phase = .run ∧ s.shipEntry = true) :=
  ⟨⟨run, by decide⟩,
   ⟨run, 2749, by decide⟩,
   ⟨{ run with phase := .ship }, 3, by decide⟩,
   ⟨{ run with phase := .ship }, 3, by decide⟩,
   ⟨{ run with aon := { run.aon with entry := some (3, 1) } }, 3, by decide⟩⟩

theorem witness_MainsCommandsComplete :
    (∃ (s : State), s.part.x = true ∧ s.mains.hvSeen = false) ∧
    (∃ (s : State) (rms peak freq : BitVec 16) (dc : Bool), s.part.x = true ∧ s.aonOn = true ∧ s.mains.link = true ∧ s.mains.lowV ≤ rms.toNat ∧ s.mains.sagV ≤ rms.toNat ∧ s.mains.line = 0 ∧ s.fld pMAINS MAINS.STATE_LINE = 0) ∧
    (∃ (s : State) (rms peak freq : BitVec 16) (dc : Bool), s.part.x = true ∧ s.aonOn = true ∧ s.mains.link = true ∧ rms.toNat < s.mains.lowV ∧ s.mains.sagV ≤ rms.toNat ∧ s.mains.line = 0 ∧ s.fld pMAINS MAINS.STATE_LINE = 0 ∧ max 1 s.mains.cyc ≤ s.mains.below + 1) ∧
    (∃ (s : State), s.part.x = true ∧ s.aonOn = true ∧ s.mains.link = true ∧ s.fld pMAINS MAINS.STATE_LINE ≠ 3) ∧
    (∃ (s : State), s.part.x = true ∧ s.aonOn = true ∧ s.mains.link = true) ∧
    (∃ (s : State), s.part.x = true ∧ s.aonOn = true ∧ s.mains.link = true) ∧
    (∃ (s : State), s.part.x = true ∧ s.aonOn = true ∧ s.mains.line = 1) :=
  ⟨⟨{ run with mains := { run.mains with hvSeen := false } }, by decide⟩,
   ⟨linkedX, 0xFFFF, 0xFFFF, 100, false, by decide⟩,
   ⟨linkedX.modMains (fun m => { m with below := 600, lowV := 90, sagV := 0 }), 80, 90, 50, false, by decide⟩,
   ⟨linkedX, by decide⟩,
   ⟨linkedX, by decide⟩,
   ⟨linkedX, by decide⟩,
   ⟨linkedX.modMains (fun m => { m with line := 1 }), by decide⟩⟩

theorem witness_ModeRequestsComplete :
    (∃ (s : State) (key : BitVec 16), s.Takes pAON ∧ key.toNat = 0x5A3C ∧ s.aon.entry = none) ∧
    (∃ (s : State) (key : BitVec 16), s.Takes pAON ∧ key.toNat = 0x5A3C ∧ s.aon.entry = none) ∧
    (∃ (s : State) (key : BitVec 16), s.Takes pAON ∧ key.toNat = 0x5A3C ∧ s.aon.entry = none ∧ s.role = .solo ∧ allPorts.any s.portActive = false ∧ s.wakeActive 2 = false ∧ s.dbg.state ≠ .erasing ∧ s.flashOp = none ∧ s.nvdOp = none) ∧
    (∃ (s : State) (key : BitVec 16), s.Takes pAON ∧ key.toNat = 0x5A3C ∧ s.aon.entry = none ∧ s.role = .solo ∧ allPorts.any s.portActive = false ∧ s.wakeActive 3 = false ∧ s.dbg.state ≠ .erasing ∧ s.flashOp = none ∧ s.nvdOp = none) ∧
    (∃ (s : State) (key : BitVec 16), s.Takes pAON ∧ key.toNat = 0x5A3C ∧ s.aon.entry = none ∧ s.part.x = true ∧ s.role = .solo ∧ allPorts.any s.portActive = false ∧ s.wakeActive 4 = false ∧ s.dbg.state ≠ .erasing ∧ s.flashOp = none ∧ s.nvdOp = none) ∧
    (∃ (s : State) (c : Nat), s.aon.entry = some (2, c) ∧ s.live = true ∧ 1 ≤ c ∧ s.engsIdle = true) ∧
    (∃ (s : State) (m c : Nat), s.aon.entry = some (m, c) ∧ s.live = true ∧ 3 ≤ c ∧ s.engsIdle = false) ∧
    (∃ (s : State), s.phase = .sleep ∧ s.aon.zeroAsked = true) ∧
    (∃ (s : State), s.phase = .sleep ∧ s.aon.zeroAsked = true) ∧
    (∃ (s : State) (mv : Nat), s.phase = .sleep ∧ s.mode = 4 ∧ s.mains.conv = true ∧ s.mains.chain = false ∧ 3000 ≤ mv) ∧
    (∃ (s : State) (mv : Nat), s.phase = .sleep ∧ s.mode = 4 ∧ s.mains.conv = true ∧ s.mains.chain = true ∧ 3000 ≤ mv) ∧
    (∃ (s : State), s.phase = .sleep ∧ s.mode = 4 ∧ s.mains.chain = true ∧ s.mains.link = true) :=
  ⟨⟨run, 0x5A3C, by decide⟩,
   ⟨run, 0x5A3C, by decide⟩,
   ⟨rested, 0x5A3C, by decide⟩,
   ⟨rested, 0x5A3C, by decide⟩,
   ⟨rested, 0x5A3C, by decide⟩,
   ⟨{ run with aon := { run.aon with entry := some (2, 1) } }, 1, by decide⟩,
   ⟨(({ run with aon := { run.aon with entry := some (2, 3) } }).modEng 0 fun e => { e with run := .running }), 2, 3, by decide⟩,
   ⟨{ run with phase := .sleep, aon := { run.aon with zeroAsked := true } }, by decide⟩,
   ⟨{ run with phase := .sleep, aon := { run.aon with zeroAsked := true } }, by decide⟩,
   ⟨({ run with phase := .sleep, mains := { run.mains with conv := true, chain := false } }.put pAON AON.MODE_STAT_MODE 4), 3000, by decide⟩,
   ⟨({ run with phase := .sleep, mains := { run.mains with conv := true, chain := true } }.put pAON AON.MODE_STAT_MODE 4), 3000, by decide⟩,
   ⟨({ run with phase := .sleep, mains := { run.mains with link := true, chain := true } }.put pAON AON.MODE_STAT_MODE 4), by decide⟩⟩

theorem witness_WakesComplete :
    (∃ (s : State) (src : Fin 6) (n : Port), s.phase = .sleep ∧ s.mode = 2 ∧ s.wakeOn src.val = true) ∧
    (∃ (s : State) (src : Fin 6) (n : Port), s.phase = .sleep ∧ s.mode = 4 ∧ s.wakeOn src.val = true ∧ s.aon.wakes = 0) ∧
    (∃ (s : State), s.phase = .sleep ∧ s.mode = 2 ∧ s.fld pAON AON.WAKE_TIMER_MS_PERIOD ≠ 0 ∧ s.wakeOn 4 = true) ∧
    (∃ (s : State), s.phase = .sleep ∧ s.mode = 2 ∧ s.flag pSUP SUP.PG_STAT_VDDIO_OK = true ∧ s.wakeOn 2 = true) ∧
    (∃ (s : State) (n : Port) (mv1 mv2 : Nat), s.phase = .sleep ∧ bitAt (s.fld pAON AON.WATCH_CFG_PORTS) n.val = true ∧ s.ccRests n = true ∧ (s.port n).cc.watch = 0) :=
  ⟨⟨({ run with phase := .sleep }.put pAON AON.MODE_STAT_MODE 2).put pAON AON.WAKE_EN_SRC 63, 0, 0, by decide⟩,
   ⟨({ run with phase := .sleep }.put pAON AON.MODE_STAT_MODE 4).put pAON AON.WAKE_EN_SRC 63, 0, 0, by decide⟩,
   ⟨(({ run with phase := .sleep }.put pAON AON.MODE_STAT_MODE 2).put pAON AON.WAKE_EN_SRC 63).put pAON AON.WAKE_TIMER_MS_PERIOD 1, by decide⟩,
   ⟨(({ run with phase := .sleep }.put pAON AON.MODE_STAT_MODE 2).put pAON AON.WAKE_EN_SRC 63).put pSUP SUP.PG_STAT_VDDIO_OK 1, by decide⟩,
   ⟨(({ run with phase := .sleep }.put pAON AON.WATCH_CFG_PORTS 255).put (pCC 0) CC.PG_STAT_STATE 2), 0, 100, 100, by decide⟩⟩

theorem witness_BootCommandsComplete :
    (∃ (s : State) (x : BootIn), s.phase = .reset ∧ x.testen = false ∧ (s.rst.browned = true → 2850 ≤ x.vsys) ∧ s.rst.onVbus = false ∧ 2600 ≤ x.vsys) ∧
    (∃ (s : State) (x : BootIn), s.phase = .reset ∧ x.testen = false ∧ s.rst.browned = false ∧ s.rst.onVbus = false ∧ x.vsys < 2600 ∧ (∃ n, 4000 ≤ x.vbus.get n)) ∧
    (∃ (s : State) (x : BootIn), s.phase = .reset ∧ x.testen = false ∧ s.rst.onVbus = false ∧ x.vsys < 2600 ∧ (∀ n, x.vbus.get n < 4000)) ∧
    (∃ (s : State) (x : BootIn), s.phase = .reset ∧ s.rst.browned = true ∧ x.vsys < 2850) ∧
    (∃ (s : State) (x : BootIn), s.phase = .reset ∧ x.testen = true) ∧
    (∃ (s : State) (us : BitVec 24), s.phase = .warm ∧ s.flag pCLK CLK.PG_STAT_RUNNING = true) ∧
    (∃ (s : State) (us : BitVec 24), s.phase = .warm ∧ s.flag pCLK CLK.PG_STAT_RUNNING = false) ∧
    (∃ (s : State) (n : Port) (mv : Nat), s.aonOn = true ∧ (s.port n).cc.rstHold = true ∧ mv < 800) :=
  ⟨⟨State.reset, bootIn, by decide⟩,
   ⟨State.reset, { bootIn with vsys := 0, vbus := Vector.replicate 8 5000 }, by decide⟩,
   ⟨State.reset, { bootIn with vsys := 2599 }, by decide⟩,
   ⟨{ State.reset with rst := { State.reset.rst with browned := true } }, { bootIn with vsys := 2849 }, by decide⟩,
   ⟨State.reset, { bootIn with testen := true }, by decide⟩,
   ⟨({ run with phase := .warm, rst := { run.rst with causes := 8 } }.put pCLK CLK.PG_STAT_RUNNING 1), 5, by decide⟩,
   ⟨{ run with phase := .warm, rst := { run.rst with causes := 16 } }, 5, by decide⟩,
   ⟨run.modCc 3 (fun c => { c with rstHold := true }), 3, 100, by decide⟩⟩

theorem witness_PinCommandsComplete :
    (∃ (s : State) (i : Fin 8) (level : Option Bool), s.Takes pGPIO ∧ s.enabled pGPIO = true ∧ bitAt s.gpioIn i.val = false ∧ bitAt (s.boardPad i level).gpioIn i.val = true ∧ bitAt (s.pinWord i) 10 = true) ∧
    (∃ (s : State) (i : Fin 8) (level : Option Bool), s.Takes pGPIO ∧ s.enabled pGPIO = true ∧ bitAt s.gpioIn i.val = true ∧ bitAt (s.boardPad i level).gpioIn i.val = false ∧ bitAt (s.pinWord i) 11 = true) ∧
    (∃ (s : State) (v : BitVec 8), s.Takes pGPIO) ∧
    (∃ (s : State) (v : BitVec 8), s.Takes pGPIO) ∧
    (∃ (s : State) (i : Fin 8) (v : Word), s.Takes pGPIO ∧ s.locked pGPIO = false) ∧
    (∃ (s : State), s.live = true) :=
  ⟨⟨{ (run.wr pGPIO 0x20 0x400) with pins := { run.pins with gpioOpen := 0 } }, 0, (some true), by decide⟩,
   ⟨{ (run.wr pGPIO 0x20 0x800) with pins := { run.pins with gpio := 1, gpioOpen := 0 } }, 0, (some false), by decide⟩,
   ⟨run, 0x81, by decide⟩,
   ⟨run, 0x81, by decide⟩,
   ⟨run, 3, 0xFFFFFFFF, by decide⟩,
   ⟨run, by decide⟩⟩

theorem witness_StoreCommandsComplete :
    (∃ (s : State) (p : Nat), s.live = true ∧ s.st.scrubPos = p ∧ s.scrubSeg (p / 1024) = some (p / 1024) ∧ (s.scrubSeg ((p + 1) / 1024)).isSome = true ∧ s.st.bad = []) ∧
    (∃ (s : State) (p : Nat) (wrong : BitVec 4), s.live = true ∧ s.st.scrubPos = p ∧ s.scrubSeg (p / 1024) = some (p / 1024) ∧ wrong ≠ 0) ∧
    (∃ (s : State) (p : Nat), s.live = true ∧ s.st.scrubPos = p ∧ s.scrubSeg (p / 1024) = some (p / 1024) ∧ s.scrubSeg ((p + 1) / 1024) = none ∧ s.st.bad = []) ∧
    (∃ (s : State) (e : WatchEnt) (l : List WatchEnt), s.live = true ∧ s.st.watch = e :: l ∧ e.tested = false ∧ bitAt (s.fld pBANK BANK.FAULTY_BANKS) (s.wordBank e.word) = false ∧ s.wordBank e.word < 16) ∧
    (∃ (s : State), s.live = true) ∧
    (∃ (s : State) (b : Nat), s.live = true ∧ s.st.migrating = some b ∧ s.fld pBANK BANK.FAULTY_BANKS = 0) ∧
    (∃ (s : State) (bank : Fin 16) (key : BitVec 16), s.Takes pBANK ∧ key.toNat = 0xB4A7 ∧ s.st.migrating = none ∧ s.bankRetired bank.val = false ∧ s.fld pSTORE STORE.PG_STAT_RETIRED < 2) :=
  ⟨⟨run, 0, by decide⟩,
   ⟨run, 0, 5, by decide⟩,
   ⟨{ run with st := { run.st with scrubPos := 262143 } }, 262143, by decide⟩,
   ⟨{ run with st := { run.st with watch := [⟨5, 0, false, true⟩] } }, ⟨5, 0, false, true⟩, [], by decide⟩,
   ⟨run, by decide⟩,
   ⟨{ run with st := { run.st with migrating := some 3 } }, 3, by decide⟩,
   ⟨run, 3, 0xB4A7, by decide⟩⟩

theorem witness_TickAndClockComplete :
    (∃ (s : State) (x : TickIn), s.phase = .run ∧ s.flag pCLK CLK.PG_STAT_RUNNING = true) ∧
    (∃ (s : State) (x : TickIn), s.phase = .warm ∧ s.flag pCLK CLK.PG_STAT_RUNNING = true) ∧
    (∃ (s : State) (testOk : Bool), s.fw = true ∧ s.plcr.nextLevel ≤ 4) ∧
    (∃ (s : State), s.live = true ∧ s.flag pCLK CLK.PG_STAT_REF_OK = true) ∧
    (∃ (s : State), s.live = true ∧ s.flag pCLK CLK.PG_STAT_REF_OK = false) ∧
    (∃ (s : State), s.live = true ∧ s.flag pCLK CLK.PG_STAT_REF_OK = false) ∧
    (∃ (s : State) (k : Engine), s.live = true ∧ (s.eng k).run = .running ∧ (s.eng k).halted = false ∧ s.plcr.started.contains (s.engSlot k) = false ∧ s.engSlot k < 2048) ∧
    (∃ (s : State) (k : Engine), s.live = true ∧ (s.eng k).run = .running ∧ (s.eng k).budleft ≤ 0 ∧ (s.eng k).overMark = false) ∧
    (∃ (s : State), s.live = true ∧ 8 ≤ s.fld pPLCR PLCR.WDOG_C0_MISS) ∧
    (∃ (s : State), s.live = true ∧ max 4 (min 32 (s.fld pPLCR PLCR.CFG_STORM_CNT)) ≤ s.fld pPLCR PLCR.WDOG_STORM) ∧
    (∃ (s : State), s.live = true ∧ s.mayTakeOver = true) ∧
    (∃ (s : State) (slot : BitVec 11), s.Takes pPLCR ∧ 256 ≤ slot.toNat) ∧
    (∃ (s : State) (k : Engine) (key : BitVec 16), s.Takes (pENG k) ∧ key.toNat = 0x7E71 ∧ (s.eng k).retired = false ∧ 6 ≤ s.healthy.length) :=
  ⟨⟨run.put pCLK CLK.PG_STAT_RUNNING 1, tickIn, by decide⟩,
   ⟨{ run with phase := .warm }.put pCLK CLK.PG_STAT_RUNNING 1, tickIn, by decide⟩,
   ⟨run, true, by decide⟩,
   ⟨run.put pCLK CLK.PG_STAT_REF_OK 1, by decide⟩,
   ⟨run.put pCLK CLK.PG_STAT_REF_OK 0, by decide⟩,
   ⟨run.put pCLK CLK.PG_STAT_REF_OK 0, by decide⟩,
   ⟨(run.modEng 3 fun e => { e with run := .running }), 3, by decide⟩,
   ⟨(run.modEng 3 fun e => { e with run := .running, budleft := 0, overMark := false }), 3, by decide⟩,
   ⟨run.put pPLCR PLCR.WDOG_C0_MISS 8, by decide⟩,
   ⟨(run.put pPLCR PLCR.CFG_STORM_CNT 8).put pPLCR PLCR.WDOG_STORM 8, by decide⟩,
   ⟨{ (run.put pSYS SYS.PG_STAT_ROLE 2).put pSYS SYS.PG_STAT_ACTING 2 with fleet := { run.fleet with forceTko := true } }, by decide⟩,
   ⟨run, 300, by decide⟩,
   ⟨run, 3, 0x7E71, by decide⟩⟩

theorem witness_SkinkBundlesComplete :
    (∃ (s : State) (k : Engine) (x : BundleIn) (d a b : Fin 16), s.live = true ∧ (s.eng k).run = .running ∧ (s.eng k).halted = false ∧ x.cacheBad = false ∧ x.scratchBad = false ∧ x.storeBad = false ∧ (s.eng k).pc.toNat % 4 = 0 ∧ (s.skWord (s.eng k).pc.toNat).w = 0xA0080000 + 32768 * d.val + 2048 * a.val + 128 * b.val) ∧
    (∃ (s : State) (k : Engine) (x : BundleIn) (a b : Fin 16) (acc : Fin 4), s.live = true ∧ (s.eng k).run = .running ∧ (s.eng k).halted = false ∧ x.cacheBad = false ∧ x.scratchBad = false ∧ x.storeBad = false ∧ (s.eng k).pc.toNat % 4 = 0 ∧ (s.skWord (s.eng k).pc.toNat).w = 0xC0080000 + 131072 * acc.val + 2048 * a.val + 128 * b.val) ∧
    (∃ (s : State) (k : Engine) (x : BundleIn) (d : Fin 16) (a : Fin 8) (i : Fin 512), s.live = true ∧ (s.eng k).run = .running ∧ (s.eng k).halted = false ∧ x.cacheBad = false ∧ x.scratchBad = false ∧ x.storeBad = false ∧ (s.eng k).pc.toNat % 4 = 0 ∧ (s.skWord (s.eng k).pc.toNat).w = 0x80300000 + 32768 * d.val + 4096 * a.val + i.val ∧ ((s.eng k).a.get a).toNat % 4 = 0 ∧ ((s.eng k).a.get a).toNat + 4 * i.val < 0x2000) ∧
    (∃ (s : State) (k : Engine) (x : BundleIn) (d : Fin 16) (a : Fin 8) (i : Fin 512), s.live = true ∧ (s.eng k).run = .running ∧ (s.eng k).halted = false ∧ x.cacheBad = false ∧ x.scratchBad = false ∧ x.storeBad = false ∧ (s.eng k).pc.toNat % 4 = 0 ∧ (s.skWord (s.eng k).pc.toNat).w = 0x80080000 + 32768 * d.val + 4096 * a.val + i.val ∧ ((s.eng k).a.get a).toNat % 4 = 0 ∧ ((s.eng k).a.get a).toNat + 4 * i.val < 0x2000) ∧
    (∃ (s : State) (k : Engine) (x : BundleIn) (i : Fin 262144), s.live = true ∧ (s.eng k).run = .running ∧ (s.eng k).halted = false ∧ x.cacheBad = false ∧ x.scratchBad = false ∧ x.storeBad = false ∧ (s.eng k).pc.toNat % 4 = 0 ∧ (s.skWord (s.eng k).pc.toNat).w = 0xE0080000 + i.val) ∧
    (∃ (s : State) (k : Engine) (x : BundleIn) (pr : Fin 8) (i : Fin 0x2000000), s.live = true ∧ (s.eng k).run = .running ∧ (s.eng k).halted = false ∧ x.cacheBad = false ∧ x.scratchBad = false ∧ x.storeBad = false ∧ (s.eng k).pc.toNat % 4 = 0 ∧ (s.eng k).p.getLsbD 0 = true ∧ pr.val ≠ 0 ∧ (s.eng k).p.getLsbD pr.val = false ∧ (s.skWord (s.eng k).pc.toNat).w = 0xA0000000 + 67108864 * pr.val + i.val) ∧
    (∃ (s : State) (k : Engine) (x : BundleIn), s.live = true ∧ (s.eng k).run = .running ∧ (s.eng k).halted = false ∧ x.cacheBad = false ∧ x.scratchBad = false ∧ x.storeBad = false ∧ (s.eng k).pc.toNat % 4 = 0 ∧ (s.eng k).fhnd ≠ 0 ∧ (s.eng k).flg.getLsbD 12 = false ∧ (s.skWord (s.eng k).pc.toNat).w = 0xA0780000) :=
  ⟨⟨(skRun1 (0xA0080000 + 32768 * 2 + 2048 * 2 + 128 * 1)), 2, bundleIn, 2, 2, 1, by decide⟩,
   ⟨(skRun1 (0xC0080000 + 131072 * 2 + 2048 * 2 + 128 * 1)), 2, bundleIn, 2, 1, 2, by decide⟩,
   ⟨(skRun1 (0x80300000 + 32768 * 2 + 4096 * 2 + 1)), 2, bundleIn, 2, 2, 1, by decide⟩,
   ⟨(skRun1 (0x80080000 + 32768 * 2 + 4096 * 2 + 1)), 2, bundleIn, 2, 2, 1, by decide⟩,
   ⟨(skRun1 (0xE0080000 + 3)), 2, bundleIn, 3, by decide⟩,
   ⟨(skRun1 (0xA0000000 + 67108864 * 2 + 1)), 2, bundleIn, 2, 1, by decide⟩,
   ⟨(skRun1 0xA0780000), 2, bundleIn, by decide⟩⟩

theorem witness_TypeCStatesComplete :
    (∃ (s : State) (n : Port) (mv1 mv2 : Nat), s.ccState n = .unattachedSnk ∧ 200 ≤ mv1) ∧
    (∃ (s : State) (n : Port) (mv1 mv2 : Nat), s.ccState n = .unattachedSnk ∧ mv1 < 200 ∧ mv2 < 200) ∧
    (∃ (s : State) (n : Port) (pin : Nat), s.ccState n = .attachWaitSnk ∧ s.exactlyOne n .rp = some pin ∧ s.ccTry n ≠ 1 ∧ s.vbus4 n = true) ∧
    (∃ (s : State) (n : Port), s.ccState n = .attachWaitSnk ∧ s.bothPins n .open = true ∧ s.ccDrp n = false) ∧
    (∃ (s : State) (n : Port), s.ccState n = .unattachedSnk ∧ s.ccDrp n = true ∧ s.inf (pCC n) CC.CFG_DB_CLAMP = 0) ∧
    (∃ (s : State) (n : Port), s.ccState n = .unattachedSrc ∧ s.ccDrp n = true) ∧
    (∃ (s : State) (n : Port), s.ccState n = .errorRecovery ∧ s.enabled (pCC n) = true ∧ s.ccTwin n ≠ 2 ∧ (s.port n).cc.rstHold = false) ∧
    (∃ (s : State) (n : Port), s.ccState n = .trySrc ∧ s.exactlyOne n .rd = none) ∧
    (∃ (s : State) (n : Port), s.ccState n = .trySnk) ∧
    (∃ (s : State) (n : Port), (s.ccState n = .tryWaitSnk ∨ s.ccState n = .tryWaitSrc)) ∧
    (∃ (s : State) (n : Port), s.ccState n = .trySrc) ∧
    (∃ (s : State) (n : Port) (load : Option Nat), s.ccState n = .attachedSrc ∧ s.openSeen n load = true ∧ s.ccDrp n = false) ∧
    (∃ (s : State) (n : Port) (mv : Nat), s.ccState n = .attachedSnk ∧ (s.port n).cc.hrHold = false ∧ mv < s.sinkDiscMv n) ∧
    (∃ (s : State) (n : Port) (mv : Nat), s.ccState n = .debugSnk ∧ mv < 3660) ∧
    (∃ (s : State) (n : Port), s.ccState n = .attachedSnk ∧ (s.port n).cc.hrHold = true ∧ s.vbus4 n = false) ∧
    (∃ (s : State) (n : Port), (s.port n).cc.hrHold = true ∧ s.vbus4 n = true ∧ (s.port n).cc.hrDipped = false) ∧
    (∃ (s : State) (n : Port) (mv : Nat), (s.port n).cc.debDone = false) ∧
    (∃ (s : State) (n : Port) (mv pin : Nat), (s.port n).cc.debDone = true ∧ s.ccState n = .attachWaitSnk ∧ s.exactlyOne n .rp = some pin ∧ s.ccTry n ≠ 1 ∧ 4000 ≤ mv) :=
  ⟨⟨inCc .unattachedSnk 0 0, 0, 500, 0, by decide⟩,
   ⟨inCc .unattachedSnk 0 0, 0, 100, 0, by decide⟩,
   ⟨(inCc .attachWaitSnk 500 0).modPort 0 (fun p => { p with vbusMv := 5000 }), 0, 0, by decide⟩,
   ⟨inCc .attachWaitSnk 0 0, 0, by decide⟩,
   ⟨force (force (inCc .unattachedSnk 0 0) (pCC 0) CC.CFG_ROLE 2) (pCC 0) CC.CFG_DB_CLAMP 0, 0, by decide⟩,
   ⟨force (force (inCc .unattachedSrc 0 0) (pCC 0) CC.CFG_ROLE 2) (pCC 0) CC.CFG_DB_CLAMP 0, 0, by decide⟩,
   ⟨inCc .errorRecovery 0 0, 0, by decide⟩,
   ⟨inCc .trySrc 3000 3000, 0, by decide⟩,
   ⟨inCc .trySnk 0 0, 0, by decide⟩,
   ⟨inCc .tryWaitSrc 0 0, 0, by decide⟩,
   ⟨inCc .trySrc 0 0, 0, by decide⟩,
   ⟨srcOn.modCc 0 (fun c => { c with cc1Mv := 3000 }), 0, none, by decide⟩,
   ⟨snkOn, 0, 100, by decide⟩,
   ⟨inCc .debugSnk 1000 1000, 0, 3659, by decide⟩,
   ⟨snkOn.modCc 0 (fun c => { c with hrHold := true }), 0, by decide⟩,
   ⟨(snkOn.modCc 0 (fun c => { c with hrHold := true })).modPort 0 (fun p => { p with vbusMv := 5000 }), 0, by decide⟩,
   ⟨run, 0, 5000, by decide⟩,
   ⟨(inCc .attachWaitSnk 500 0).modCc 0 (fun c => { c with debDone := true }), 0, 5000, 0, by decide⟩⟩

theorem witness_VconnAndCcGuardsComplete :
    (∃ (s : State) (n : Port), s.vconnMay n = true ∧ (s.port n).cc.autoDone = false) ∧
    (∃ (s : State) (n : Port) (mv : Nat), s.ccState n = .attachedSrc ∧ (s.port n).cc.raKnown = false) ∧
    (∃ (s : State) (n : Port) (key : BitVec 16), s.Takes (pCC n) ∧ key.toNat = 0x3C71) ∧
    (∃ (s : State) (n : Port) (key : BitVec 16), s.Takes (pCC n) ∧ key.toNat = 0x3C71 ∧ s.flag (pCC n) CC.PG_STAT_VCONN_ON = false ∧ s.vconnMay n = true) ∧
    (∃ (s : State) (n : Port) (key : BitVec 16), s.Takes (pCC n) ∧ key.toNat = 0x3C71 ∧ s.flag (pCC n) CC.PG_STAT_VCONN_ON = false ∧ s.vconnMay n = false) ∧
    (∃ (s : State) (n : Port) (key : BitVec 16), s.Takes (pCC n) ∧ key.toNat = 0x3C71 ∧ s.flag (pCC n) CC.PG_STAT_VCONN_ON = true) ∧
    (∃ (s : State) (n : Port), s.flag (pCC n) CC.PG_STAT_VCONN_ON = true) ∧
    (∃ (s : State) (n : Port), s.ccState n ≠ .retired ∧ s.guardState n ≠ 7) ∧
    (∃ (s : State) (n : Port), s.shadowing n = true) ∧
    (∃ (s : State) (n : Port) (mv : Nat), s.ccState n = .attachWaitSrc ∧ s.ownerBlocks n = true ∧ 650 < mv) ∧
    (∃ (s : State) (n : Port) (mv : Nat), s.ccState n = .attachWaitSrc ∧ s.ownerBlocks n = true ∧ (s.port n).cc.debDone = false ∧ mv ≤ 650) :=
  ⟨⟨vconnReady, 0, by decide⟩,
   ⟨srcOn, 0, 100, by decide⟩,
   ⟨run, 0, 0x3C71, by decide⟩,
   ⟨vconnReady, 0, 0x3C71, by decide⟩,
   ⟨run, 0, 0x3C71, by decide⟩,
   ⟨run.put (pCC 0) CC.PG_STAT_VCONN_ON 1, 0, 0x3C71, by decide⟩,
   ⟨run.put (pCC 0) CC.PG_STAT_VCONN_ON 1, 0, by decide⟩,
   ⟨srcOn, 0, by decide⟩,
   ⟨run.put (pCC 0) CC.PG_STAT_TWIN_MODE 2, 0, by decide⟩,
   ⟨force (inCc .attachWaitSrc 1000 0) (pCC 0) CC.CFG_TWIN 1, 0, 651, by decide⟩,
   ⟨force (inCc .attachWaitSrc 1000 0) (pCC 0) CC.CFG_TWIN 1, 0, 650, by decide⟩⟩

theorem witness_ReceivingCompletes :
    (∃ (s : State) (n : Port) (f : PdFrame) (h : Nat), s.Takes (pPDL n) ∧ s.pdAttached n = true ∧ s.enabled (pPDL n) = true ∧ s.flag (pPDL n) PDL.PG_STAT_HR_PENDING = false ∧ (s.port n).pdl.bistCarrier = false ∧ (s.port n).pdl.bistData = false ∧ (s.port n).pdl.queue = [] ∧ (s.port n).pdl.reasm = [] ∧ f.set = [.sync1, .sync1, .sync1, .sync2] ∧ f.symbolsOk = true ∧ f.crcOk = true ∧ f.storeOk = true ∧ f.bytes = leBytes 2 h ∧ h < 65536 ∧ isControl h 7 = true ∧ bitAt (s.rd (pPDL n) PDL.MSGID_TX_SOP.off).toNat 19 = false ∧ s.ringFull n = false) ∧
    (∃ (s : State) (n : Port) (f : PdFrame) (h : Nat), s.Takes (pPDL n) ∧ (s.port n).pdl.bistCarrier = false ∧ f.set = [.sync1, .sync1, .sync1, .sync2] ∧ f.symbolsOk = true ∧ f.crcOk = false ∧ f.bytes = leBytes 2 h ∧ h < 65536 ∧ hdrNdo h = 0) ∧
    (∃ (s : State) (n : Port) (k id : Nat), s.Takes (pPDL n) ∧ s.enabled (pPDL n) = true ∧ (k = 0 ∨ s.cableOk n k = true) ∧ (s.port n).pdl.gcrc = some (k, id)) ∧
    (∃ (s : State) (n : Port) (l : LayerTx), s.Takes (pPDL n) ∧ s.enabled (pPDL n) = true ∧ s.lineFree n = true ∧ (s.port n).pdl.layer = [l] ∧ l.answer = true ∧ l.sent = false ∧ l.hdr = none ∧ (l.sop = 0 ∨ s.cableOk n l.sop = true)) ∧
    (∃ (s : State) (n : Port) (r : Reasm), s.Takes (pPDL n) ∧ s.lineFree n = true ∧ (s.port n).pdl.reasm = [r] ∧ r.reqDue = true) ∧
    (∃ (s : State) (n : Port) (r : Reasm), s.Takes (pPDL n) ∧ (s.port n).pdl.reasm = [r] ∧ r.waiting = true ∧ r.buf < 4) ∧
    (∃ (s : State) (n : Port) (m : BitVec 4), s.Takes (pPDL n) ∧ (s.port n).pdl.reasm = []) ∧
    (∃ (s : State) (n : Port) (i : BitVec 6), s.Takes (pPDL n)) ∧
    (∃ (s : State) (n : Port), s.Takes (pPDL n)) :=
  ⟨⟨pd, 0, getCaps, (7 + 3 * 512), by decide⟩,
   ⟨pd, 0, { getCaps with crcOk := false }, (7 + 3 * 512), by decide⟩,
   ⟨pd.modPdl 0 (fun p => { p with gcrc := some (0, 3) }), 0, 0, 3, by decide⟩,
   ⟨pd.modPdl 0 (fun p => { p with layer := [{ answer := true, sop := 0, typ := 16, body := [], sent := false, waiting := false, tries := 0, hdr := none }] }), 0, { answer := true, sop := 0, typ := 16, body := [], sent := false, waiting := false, tries := 0, hdr := none }, by decide⟩,
   ⟨chunkIn true false, 0, { sop := 0, buf := 1, size := 60, got := 26, chunks := 1, reqDue := true, waiting := false }, by decide⟩,
   ⟨chunkIn false true, 0, { sop := 0, buf := 1, size := 60, got := 26, chunks := 1, reqDue := false, waiting := true }, by decide⟩,
   ⟨pd.put (pPDL 0) (rxBusyBit 1) 1, 0, 3, by decide⟩,
   ⟨pd, 0, 5, by decide⟩,
   ⟨pd, 0, by decide⟩⟩

theorem witness_TransmittingCompletes :
    (∃ (s : State) (n : Port) (i : Fin 16), s.Takes (pPDL n) ∧ (s.port n).pdl.queue.length < 4 ∧ s.txStatus n i.val ≠ 1 ∧ s.txStatus n i.val ≠ 2) ∧
    (∃ (s : State) (n : Port) (i : Fin 16), s.Takes (pPDL n) ∧ 4 ≤ (s.port n).pdl.queue.length) ∧
    (∃ (s : State) (n : Port) (i : Nat) (l : List Nat), s.Takes (pPDL n) ∧ (s.port n).pdl.queue = i :: l ∧ (s.port n).pdl.phase = .idle ∧ s.stNat (txAt n i + 3) 1 = s.gen n ∧ s.txIntact n i = true ∧ s.txRefused n i = false ∧ s.txAms n i = false) ∧
    (∃ (s : State) (n : Port) (i : Nat) (l : List Nat), s.Takes (pPDL n) ∧ (s.port n).pdl.queue = i :: l ∧ i < 16 ∧ (s.port n).pdl.phase = .idle ∧ s.stNat (txAt n i + 3) 1 ≠ s.gen n) ∧
    (∃ (s : State) (n : Port) (i : Nat) (l : List Nat), s.Takes (pPDL n) ∧ (s.port n).pdl.phase = .hold ∧ s.lineFree n = true ∧ (s.port n).pdl.layer = [] ∧ (s.port n).pdl.queue = i :: l ∧ s.ccState n = .attachedSrc) ∧
    (∃ (s : State) (n : Port) (i : Nat) (l : List Nat), s.Takes (pPDL n) ∧ (s.port n).pdl.phase = .ready ∧ s.lineFree n = true ∧ (s.port n).pdl.layer = [] ∧ (s.port n).pdl.queue = i :: l ∧ s.ccState n = .attachedSrc ∧ (s.port n).pdl.wired = false ∧ (s.txSop n i = 0 ∨ s.cableOk n (s.txSop n i) = true) ∧ isControl (s.stNat (txAt n i + 16) 2) 13 = false) ∧
    (∃ (s : State) (n : Port) (i : Nat) (l : List Nat), s.Takes (pPDL n) ∧ (s.port n).pdl.phase = .waitGcrc ∧ (s.port n).pdl.layer = [] ∧ (s.port n).pdl.queue = i :: l ∧ (s.port n).pdl.tries < s.maxRetries n (s.txSop n i)) ∧
    (∃ (s : State) (n : Port) (i : Nat) (l : List Nat), s.Takes (pPDL n) ∧ (s.port n).pdl.phase = .waitGcrc ∧ (s.port n).pdl.layer = [] ∧ (s.port n).pdl.queue = i :: l ∧ i < 16 ∧ s.maxRetries n (s.txSop n i) ≤ (s.port n).pdl.tries) ∧
    (∃ (s : State) (n : Port) (key : BitVec 16) (i : Nat), s.Takes (pPDL n) ∧ key.toNat = 0x4B9D ∧ (s.port n).pdl.queue = [i] ∧ i < 16 ∧ (s.port n).pdl.phase = .idle) :=
  ⟨⟨pd, 0, 2, by decide⟩,
   ⟨pd.modPdl 0 (fun p => { p with queue := [0, 1, 2, 3] }), 0, 5, by decide⟩,
   ⟨pdq .idle, 0, 0, [], by exact ⟨by decide, by decide, by decide, by decide, pdq_intact .idle, by decide, by decide⟩⟩,
   ⟨(pdq .idle).put (pCC 0) CC.PG_STAT_GEN 5, 0, 0, [], by decide⟩,
   ⟨pdq .hold, 0, 0, [], by decide⟩,
   ⟨pdq .ready, 0, 0, [], by decide⟩,
   ⟨pdq .waitGcrc, 0, 0, [], by decide⟩,
   ⟨(pdq .waitGcrc).modPdl 0 (fun p => { p with tries := 3, wired := true }), 0, 0, [], by decide⟩,
   ⟨pdq .idle, 0, 0x4B9D, 0, by decide⟩⟩

theorem witness_HardResetAndLayerCommandsComplete :
    (∃ (s : State) (n : Port) (key : BitVec 16), s.Takes (pPDL n) ∧ key.toNat = 0x4B9D ∧ s.pdAttached n = true ∧ (s.port n).pdl.queue = []) ∧
    (∃ (s : State) (n : Port), s.Takes (pPDL n) ∧ (s.port n).pdl.hrSend = true) ∧
    (∃ (s : State) (n : Port), s.Takes (pPDL n) ∧ s.pdAttached n = true) ∧
    (∃ (s : State) (n : Port) (key : BitVec 16), s.Takes (pPDL n) ∧ key.toNat = 0x4B9D ∧ s.cableOk n 1 = true ∧ (s.port n).pdl.queue = []) ∧
    (∃ (s : State) (n : Port) (key : BitVec 16), s.Takes (pPDL n) ∧ key.toNat = 0x4B9D ∧ s.cableOk n 1 = false) ∧
    (∃ (s : State) (n : Port) (key : BitVec 16), s.Takes (pPDL n) ∧ key.toNat = 0x4B9D ∧ s.ccState n = .attachedSrc) ∧
    (∃ (s : State) (n : Port) (key : BitVec 16), s.Takes (pPDL n) ∧ key.toNat = 0x4B9D) ∧
    (∃ (s : State) (n : Port) (key : BitVec 16), s.Takes (pPDL n) ∧ key.toNat = 0x4B9D) ∧
    (∃ (s : State) (n : Port) (v : Word), s.Takes (pPDL n) ∧ s.enabled (pPDL n) = false) ∧
    (∃ (s : State) (n : Port) (v : Word), s.Takes (pPDL n) ∧ s.enabled (pPDL n) = true) ∧
    (∃ (s : State) (n : Port), s.Takes (pPDL n) ∧ s.flag (pPOL n) POL.PG_STAT_HR_OWED = false ∧ (s.port n).fw.softDue = false) ∧
    (∃ (s : State) (n : Port), s.Takes (pPDL n) ∧ (s.port n).pdl.queue = []) :=
  ⟨⟨pd, 0, 0x4B9D, by decide⟩,
   ⟨pd.modPdl 0 (fun p => { p with hrSend := true }), 0, by decide⟩,
   ⟨pd, 0, by decide⟩,
   ⟨(pd.put (pCC 0) CC.PG_STAT_VCONN_ON 1).put (pPDL 0) PDL.CFG_SOP1_EN 1, 0, 0x4B9D, by decide⟩,
   ⟨pd, 0, 0x4B9D, by decide⟩,
   ⟨pd, 0, 0x4B9D, by decide⟩,
   ⟨pd, 0, 0x4B9D, by decide⟩,
   ⟨pd.wr (pPDL 0) 0x60 5, 0, 0x4B9D, by decide⟩,
   ⟨run.put (pPDL 0) PDL.PG_CTRL_ENABLE 0, 0, 0xFFFFFFFF, by decide⟩,
   ⟨pd, 0, 0xFFFFFFFF, by decide⟩,
   ⟨run, 0, by decide⟩,
   ⟨pd, 0, by decide⟩⟩

theorem witness_ContractCommandsComplete :
    (∃ (s : State) (n : Port) (gen : BitVec 8), s.Takes (pPOL n)) ∧
    (∃ (s : State) (n : Port) (gen : BitVec 8), s.Takes (pPOL n)) ∧
    (∃ (s : State) (n : Port) (v : BitVec 12) (gen : BitVec 8), s.Takes (pPOL n)) ∧
    (∃ (s : State) (n : Port) (dfp : Bool) (gen : BitVec 8), s.Takes (pPOL n)) ∧
    (∃ (s : State) (n : Port), s.fld (pPOL n) POL.TRANS_STAT_STATE = 1) ∧
    (∃ (s : State) (n : Port), s.fld (pPOL n) POL.TRANS_STAT_STATE = 3 ∧ 2 ≤ (s.port n).pol.inWin) ∧
    (∃ (s : State) (n : Port), s.fld (pPOL n) POL.TRANS_STAT_STATE = 3 ∧ (s.port n).pol.inWin < 2 ∧ s.enabled (pPDL n) = false) ∧
    (∃ (s : State) (n : Port), s.fld (pPOL n) POL.PG_STAT_HR_SEQ = 1) ∧
    (∃ (s : State) (n : Port) (mv : Nat), s.fld (pPOL n) POL.PG_STAT_HR_SEQ = 2 ∧ mv < 800) ∧
    (∃ (s : State) (n : Port), s.fld (pPOL n) POL.PG_STAT_HR_SEQ = 3) :=
  ⟨⟨run, 0, 5, by decide⟩,
   ⟨run, 0, 5, by decide⟩,
   ⟨run, 0, 450, 5, by decide⟩,
   ⟨run, 0, true, 5, by decide⟩,
   ⟨run.put (pPOL 0) POL.TRANS_STAT_STATE 1, 0, by decide⟩,
   ⟨(run.put (pPOL 0) POL.TRANS_STAT_STATE 3).modPol 0 (fun p => { p with inWin := 2 }), 0, by decide⟩,
   ⟨(run.put (pPOL 0) POL.TRANS_STAT_STATE 3).put (pPDL 0) PDL.PG_CTRL_ENABLE 0, 0, by decide⟩,
   ⟨srcOn.put (pPOL 0) POL.PG_STAT_HR_SEQ 1, 0, by decide⟩,
   ⟨srcOn.put (pPOL 0) POL.PG_STAT_HR_SEQ 2, 0, 799, by decide⟩,
   ⟨srcOn.put (pPOL 0) POL.PG_STAT_HR_SEQ 3, 0, by decide⟩⟩

theorem witness_GuardRampAndLimitComplete :
    (∃ (s : State) (n : Port) (active : Bool), s.guardState n = 2) ∧
    (∃ (s : State) (n : Port), s.guardState n = 2 ∧ s.flag (pGUARD n) GUARD.PG_STAT_FB_ACTIVE = true ∧ s.ccState n = .attachedSrc ∧ s.shadowing n = false ∧ (s.port n).guard.trips = [] ∧ 800 ≤ (s.port n).vbusMv) ∧
    (∃ (s : State) (n : Port) (vbus vin gate : Nat), s.guardState n = 2 ∧ s.flag (pGUARD n) GUARD.PG_STAT_FB_ACTIVE = false ∧ s.guardPath n = 1 ∧ vbus ≤ vin + 500 ∧ vin ≤ vbus + 500) ∧
    (∃ (s : State) (n : Port), s.guardState n = 2 ∧ s.ccState n = .attachedSrc ∧ s.shadowing n = false ∧ (s.port n).guard.trips = [] ∧ 800 ≤ (s.port n).vbusMv) ∧
    (∃ (s : State) (n : Port) (sc ovp rcp : Bool), s.guardDrives n = true ∧ s.ccState n = .attachedSrc ∧ s.shadowing n = false ∧ (s.port n).guard.trips = [] ∧ 800 ≤ (s.port n).vbusMv ∧ (sc || ovp || rcp) = true) ∧
    (∃ (s : State) (n : Port), s.guardDrives n = true ∧ s.ccState n = .attachedSrc ∧ s.blanked n = false ∧ s.shadowing n = false ∧ (s.port n).guard.trips = [] ∧ 800 ≤ (s.port n).vbusMv) ∧
    (∃ (s : State) (n : Port), s.guardState n = 3) ∧
    (∃ (s : State) (n : Port), s.guardState n = 4) ∧
    (∃ (s : State) (n : Port) (mv : Nat), s.guardState n = 5 ∧ mv < 800) ∧
    (∃ (s : State) (n : Port), s.guardState n = 6 ∧ s.mayServe n = false) ∧
    (∃ (s : State) (n : Port), s.guardState n = 6 ∧ s.mayServe n = true) ∧
    (∃ (s : State) (n : Port), s.guardState n = 3) :=
  ⟨⟨guardSrc 2, 0, true, by decide⟩,
   ⟨(guardSrc 2).put (pGUARD 0) GUARD.PG_STAT_FB_ACTIVE 1, 0, by decide⟩,
   ⟨guardSrc 2, 0, 5000, 5400, 0, by decide⟩,
   ⟨guardSrc 2, 0, by decide⟩,
   ⟨guardSrc 3, 0, false, true, true, by decide⟩,
   ⟨guardSrc 3, 0, by decide⟩,
   ⟨guardSrc 3, 0, by decide⟩,
   ⟨guardSrc 4, 0, by decide⟩,
   ⟨guardSrc 5, 0, 799, by decide⟩,
   ⟨((guardSrc 6).put (pGUARD 0) GUARD.PG_CTRL_ENABLE 0), 0, by decide⟩,
   ⟨(force (guardSrc 6) (pGUARD 0) GUARD.CFG_SRC_EN 1).put (pGUARD 0) GUARD.PG_CTRL_ENABLE 1, 0, by decide⟩,
   ⟨guardSrc 3, 0, by decide⟩⟩

theorem witness_GuardRetireSinkAndDischargeComplete :
    (∃ (s : State) (n : Port), s.guardDrives n = false ∧ s.guardState n ≠ 7) ∧
    (∃ (s : State) (n : Port) (mv : Nat) (timeout : Bool), (s.port n).guard.dschWant = true ∧ mv < 800) ∧
    (∃ (s : State) (n : Port) (mv : Nat), (s.port n).guard.dschWant = true ∧ 800 ≤ mv) ∧
    (∃ (s : State) (n : Port), (s.port n).guard.dsch = true) ∧
    (∃ (s : State) (n : Port), s.flag (pGUARD n) GUARD.PG_STAT_DSCH_REST = true) ∧
    (∃ (s : State) (n : Port), s.guardDrives n = true ∧ s.guardPath n = 2 ∧ (s.port n).guard.blocks = [] ∧ s.inShareSet n = false) ∧
    (∃ (s : State) (n : Port) (mv : Nat), s.flag (pGUARD n) GUARD.PG_STAT_SNK_BLOCKED = true ∧ s.isMember n = false ∧ (s.port n).pol.winLo ≤ 5 * mv ∧ 5 * mv ≤ (s.port n).pol.winHi) ∧
    (∃ (s : State) (n : Port) (key : BitVec 16), s.Takes (pGUARD n) ∧ key.toNat = 0x6A91 ∧ s.ccState n = .attachedSnk ∧ s.inf (pGUARD n) GUARD.CFG_SNK_EN = 1) ∧
    (∃ (s : State) (n : Port) (key : BitVec 16), s.Takes (pGUARD n) ∧ key.toNat = 0x6A91 ∧ s.ccState n ≠ .attachedSnk) ∧
    (∃ (s : State) (n : Port) (key : BitVec 16), s.Takes (pGUARD n) ∧ key.toNat = 0x6A91 ∧ s.guardPath n = 2 ∧ s.guardState n = 3 ∧ s.inShareSet n = false) ∧
    (∃ (s : State) (n : Port) (key : BitVec 16), s.Takes (pGUARD n) ∧ key.toNat = 0x6A91 ∧ s.guardState n = 7 ∧ (s.port n).vbusMv ≤ 800) ∧
    (∃ (s : State) (n : Port) (key : BitVec 16), s.Takes (pGUARD n) ∧ key.toNat = 0x6A91 ∧ s.guardState n ≠ 7) ∧
    (∃ (s : State) (n : Port) (key : BitVec 16), s.Takes pCMPT ∧ key.toNat = 0x1C5E ∧ s.guardState n = 0) :=
  ⟨⟨guardSrc 0, 0, by decide⟩,
   ⟨(guardSrc 0).modGuard 0 (fun g => { g with dsch := true, dschWant := true }), 0, 799, false, by decide⟩,
   ⟨(guardSrc 0).modGuard 0 (fun g => { g with dsch := true, dschWant := true }), 0, 800, by decide⟩,
   ⟨(guardSrc 0).modGuard 0 (fun g => { g with dsch := true, dschWant := true }), 0, by decide⟩,
   ⟨((guardSrc 0).modGuard 0 fun g => { g with dschWant := true }).put (pGUARD 0) GUARD.PG_STAT_DSCH_REST 1, 0, by decide⟩,
   ⟨guardSnk 3, 0, by decide⟩,
   ⟨((guardSnk 3).put (pGUARD 0) GUARD.PG_STAT_SNK_BLOCKED 1).modPol 0 (fun p => { p with winLo := 23750, winHi := 27500 }), 0, 5000, by decide⟩,
   ⟨force (guardSnk 0) (pGUARD 0) GUARD.CFG_SNK_EN 1, 0, 0x6A91, by decide⟩,
   ⟨guardSrc 0, 0, 0x6A91, by decide⟩,
   ⟨(guardSnk 3).put (pGUARD 0) GUARD.PG_STAT_SNK_REQ 1, 0, 0x6A91, by decide⟩,
   ⟨(run.put (pGUARD 0) GUARD.PG_STAT_STATE 7).put (pCC 0) CC.PG_STAT_STATE 15, 0, 0x6A91, by decide⟩,
   ⟨guardSrc 3, 0, 0x6A91, by decide⟩,
   ⟨(guardSrc 0).put pCMPT (CMPT.PORT_STAT_FAILED.at 0) 5, 0, 0x1C5E, by decide⟩⟩

theorem witness_ShareCommandsComplete :
    (∃ (s : State) (n : Port) (held : Bool), s.isMember n = true ∧ s.sinkClosed n = true) ∧
    (∃ (s : State) (n : Port) (held : Bool), s.isMember n = true ∧ s.sinkClosed n = true) ∧
    (∃ (s : State) (n : Port), s.inShareSet n = true) ∧
    (∃ (s : State) (n : Port), s.isMember n = true ∧ s.sinkClosed n = true ∧ s.flag pSHARE (SHARE.PORT_STAT_HELD.at n.val) = true) ∧
    (∃ (s : State) (key : BitVec 16) (n : Port), s.Takes pSHARE ∧ key.toNat = 0x5C83 ∧ 2 ≤ s.fld pSHARE (SHARE.PORT_STAT_STATE.at n.val)) ∧
    (∃ (s : State) (key : BitVec 16), s.Takes pSHARE ∧ key.toNat = 0x5C83) ∧
    (∃ (s : State) (n : Port), s.isMember n = true ∧ s.flag (pGUARD n) GUARD.PG_STAT_SNK_BLOCKED = true) :=
  ⟨⟨member, 0, true, by decide⟩,
   ⟨member, 0, true, by decide⟩,
   ⟨member.modShare 0 (fun h => { h with inSet := true }), 0, by decide⟩,
   ⟨member.put pSHARE (SHARE.PORT_STAT_HELD.at 0) 1, 0, by decide⟩,
   ⟨member.put pSHARE (SHARE.PORT_STAT_STATE.at 0) 3, 0x5C83, 0, by decide⟩,
   ⟨member, 0x5C83, by decide⟩,
   ⟨member.put (pGUARD 0) GUARD.PG_STAT_SNK_BLOCKED 1, 0, by decide⟩⟩

theorem witness_HpdAndMuxBusComplete :
    (∃ (s : State) (n : Port) (level : Bool), s.Takes (pVDM n)) ∧
    (∃ (s : State) (n : Port), s.Takes (pVDM n) ∧ s.flag (pVDM n) VDM.HPD_LEVEL = true ∧ (s.port n).irqWait = false ∧ (s.port n).irqOn = false) ∧
    (∃ (s : State) (n : Port) (early : Bool), s.Takes (pVDM n) ∧ s.flag (pVDM n) VDM.HPD_LEVEL = true ∧ (s.port n).irqWait = true) ∧
    (∃ (s : State) (n : Port), s.Takes (pVDM n) ∧ (s.port n).irqOn = true) ∧
    (∃ (s : State) (key : BitVec 16), s.Takes pMUXB ∧ key.toNat = 0x2E5B ∧ s.flag pMUXB MUXB.STAT_BUSY = false ∧ 1 ≤ s.fld pMUXB MUXB.TXN_WCNT ∧ s.fld pMUXB MUXB.TXN_WCNT ≤ 16 ∧ s.fld pMUXB MUXB.TXN_RCNT ≤ 16) ∧
    (∃ (s : State) (key : BitVec 16), s.Takes pMUXB ∧ key.toNat = 0x2E5B ∧ s.flag pMUXB MUXB.STAT_BUSY = false ∧ 16 < s.fld pMUXB MUXB.TXN_WCNT) ∧
    (∃ (s : State) (key : BitVec 16) (bytes : BitVec 5), s.Takes pMUXB ∧ key.toNat = 0x2E5B ∧ s.flag pMUXB MUXB.STAT_BUSY = true) ∧
    (∃ (s : State) (acked : BitVec 5) (pec : Byte), s.Takes pMUXB ∧ s.flag pSUP SUP.PG_STAT_VDDIO_OK = true ∧ s.flag pMUXB MUXB.STAT_BUSY = true ∧ s.flag pMUXB MUXB.TXN_BLOCK = false ∧ s.flag pMUXB MUXB.TXN_PEC = false ∧ s.fld pMUXB MUXB.TXN_RCNT = 2) ∧
    (∃ (s : State) (acked : BitVec 5), s.Takes pMUXB ∧ s.flag pMUXB MUXB.STAT_BUSY = true) ∧
    (∃ (s : State), s.live = true ∧ s.pins.mint = true ∧ bitAt (s.fld pMUXB MUXB.CFG_MINT_EDGE) 0 = true) :=
  ⟨⟨run, 0, true, by decide⟩,
   ⟨run.put (pVDM 0) VDM.HPD_LEVEL 1, 0, by decide⟩,
   ⟨(run.put (pVDM 0) VDM.HPD_LEVEL 1).modPort 0 (fun p => { p with irqWait := true }), 0, false, by decide⟩,
   ⟨run.modPort 0 (fun p => { p with irqOn := true }), 0, by decide⟩,
   ⟨run.put pMUXB MUXB.TXN_WCNT 2, 0x2E5B, by decide⟩,
   ⟨run.put pMUXB MUXB.TXN_WCNT 17, 0x2E5B, by decide⟩,
   ⟨run.put pMUXB MUXB.STAT_BUSY 1, 0x2E5B, 3, by decide⟩,
   ⟨((run.put pMUXB MUXB.STAT_BUSY 1).put pSUP SUP.PG_STAT_VDDIO_OK 1).put pMUXB MUXB.TXN_RCNT 2, 3, 0, by decide⟩,
   ⟨run.put pMUXB MUXB.STAT_BUSY 1, 3, by decide⟩,
   ⟨({ run with pins := { run.pins with mint := true } }).put pMUXB MUXB.CFG_MINT_EDGE 1, by decide⟩⟩

theorem witness_PolicyCommandsComplete :
    (∃ (s : State) (n : Port), s.fw = true ∧ s.ccState n = .attachedSrc ∧ s.guardState n = 3 ∧ s.explicit n = false ∧ (s.port n).fw.capsSends < 50 ∧ (s.port n).fw.capsResets < 2 ∧ s.flag (pPOL n) POL.PG_STAT_EPR_MODE = false ∧ s.MaySend n) ∧
    (∃ (s : State) (n : Port), s.fw = true ∧ s.ccState n = .attachedSrc ∧ s.explicit n = false ∧ 0 < (s.port n).fw.capsSends ∧ (s.port n).fw.capsResets < 2) ∧
    (∃ (s : State) (n : Port) (i : Fin 64), s.fw = true ∧ s.ccState n = .attachedSrc ∧ s.rxUsable n i.val = true ∧ isData (s.rxHdr n i.val) 2 = true ∧ s.transRuns n = false ∧ s.snapTrans n = false ∧ ((s.port n).fw.caps.any fun c => c.1 == bitsOf (s.rxObj n i.val 0).toNat 28 4) = false ∧ s.MaySend n) ∧
    (∃ (s : State) (n : Port) (i : Fin 64) (p : Nat) (obj : Word), s.fw = true ∧ s.ccState n = .attachedSrc ∧ s.rxUsable n i.val = true ∧ isData (s.rxHdr n i.val) 2 = true ∧ s.transRuns n = false ∧ s.snapTrans n = false ∧ (s.port n).fw.caps.find? (fun c => c.1 == bitsOf (s.rxObj n i.val 0).toNat 28 4) = some (p, obj) ∧ p ≤ 7 ∧ (readRequest obj.toNat (s.rxObj n i.val 0).toNat).ok = true ∧ (readRequest obj.toNat (s.rxObj n i.val 0).toNat).exact ≤ 1000 * s.grantOf n ∧ s.MaySend n) ∧
    (∃ (s : State) (n : Port), s.fw = true ∧ s.ccState n = .attachedSrc ∧ s.snapValid n = true ∧ s.snapType n = 3) ∧
    (∃ (s : State) (n : Port), s.fw = true ∧ s.ccState n = .attachedSnk ∧ (s.port n).fw.srcCaps = [] ∧ (s.port n).fw.sinkResets < 2) ∧
    (∃ (s : State) (n : Port) (i : Fin 64), s.fw = true ∧ s.ccState n = .attachedSnk ∧ s.rxUsable n i.val = true ∧ isData (s.rxHdr n i.val) 1 = true) ∧
    (∃ (s : State) (n : Port) (p : Nat) (obj : Word), s.fw = true ∧ s.ccState n = .attachedSnk ∧ (s.port n).fw.srcCaps ≠ [] ∧ (s.port n).share.member = false ∧ s.flag (pPOL n) POL.PG_STAT_EPR_MODE = false ∧ s.snkObjs n = [(p, obj)] ∧ bitsOf obj.toNat 30 2 = 0 ∧ s.fld (pPOL n) POL.SNK_P_P_MIN ≤ (mkOpt p obj (objRange obj.toNat).1).p ∧ s.fld (pPOL n) POL.SNK_P_P_OP ≤ (mkOpt p obj (objRange obj.toNat).1).p ∧ s.MaySend n) ∧
    (∃ (s : State) (n : Port), s.fw = true ∧ s.ccState n = .attachedSnk ∧ (s.port n).fw.srcCaps ≠ [] ∧ (s.port n).share.member = false ∧ s.flag (pPOL n) POL.PG_STAT_EPR_MODE = false ∧ s.snkObjs n = [] ∧ s.MaySend n) ∧
    (∃ (s : State) (n : Port), s.fw = true ∧ s.ccState n = .attachedSnk ∧ s.snapValid n = true ∧ s.snapTrans n = true) ∧
    (∃ (s : State) (n : Port), s.fw = true ∧ s.ccState n = .attachedSnk ∧ s.snapValid n = true ∧ s.flag pSHARE (SHARE.TRIM_PENDING.at n.val) = true ∧ s.flag (pPOL n) POL.PG_STAT_EPR_MODE = false ∧ bitsOf (s.snapWord n 1) 28 4 = 12) ∧
    (∃ (s : State) (n : Port) (i : Fin 64), s.fw = true ∧ s.rxUsable n i.val = true ∧ isControl (s.rxHdr n i.val) 9 = true ∧ s.flag (pVDM n) VDM.MODE_VALID = false ∧ s.transRuns n = false ∧ s.snapValid n = false ∧ s.explicit n = true ∧ s.inf (pPOL n) POL.CFG_DR_POLICY = 1 ∧ s.MaySend n) ∧
    (∃ (s : State) (n : Port) (i : Fin 64), s.fw = true ∧ s.rxUsable n i.val = true ∧ isControl (s.rxHdr n i.val) 9 = true ∧ s.flag (pVDM n) VDM.MODE_VALID = false ∧ s.transRuns n = false ∧ s.snapValid n = false ∧ s.explicit n = true ∧ s.inf (pPOL n) POL.CFG_DR_POLICY = 0 ∧ s.MaySend n) ∧
    (∃ (s : State) (n : Port) (i : Fin 64), s.fw = true ∧ s.pdAttached n = true ∧ s.rxUsable n i.val = true ∧ bitAt (s.stNat (rxRecAt n i.val + 10) 1) 3 = false ∧ hdrExt (s.rxHdr n i.val) = true ∧ hdrType (s.rxHdr n i.val) = 4 ∧ s.inf (pPOL n) POL.CFG_BAT_MSG = 1 ∧ s.stNat (rxRecAt n i.val + 20) 1 ≠ 0 ∧ s.MaySend n) :=
  ⟨⟨guardSrc 3, 0, by decide⟩,
   ⟨(guardSrc 3).modFw 0 (fun f => { f with capsSends := 1 }), 0, by decide⟩,
   ⟨gotRec (guardSrc 3) reqBadD, 0, 0, ⟨by decide, by decide, usable _ _ crc_reqBadD (by decide), by decide⟩⟩,
   ⟨(gotRec (guardSrc 3) reqD).modFw 0 (fun f => { f with caps := [(1, 0x0001912C)] }), 0, 0, 1, 0x0001912C, ⟨by decide, by decide, usable _ _ crc_reqD (by decide), by decide⟩⟩,
   ⟨snapIn (guardSrc 3) snapD, 0, ⟨by decide, by decide, snapValidOk _ _ crc_snapD (by decide), by decide⟩⟩,
   ⟨guardSnk 3, 0, by decide⟩,
   ⟨gotRec (guardSnk 3) capsD, 0, 0, ⟨by decide, by decide, usable _ _ crc_capsD (by decide), by decide⟩⟩,
   ⟨((guardSnk 3).modFw 0 (fun f => { f with srcCaps := [0x0001912C] })).put (pPOL 0) POL.SNK_V_V_MAX 250 |>.put (pPOL 0) POL.SNK_P_P_OP 1000, 0, 1, 0x0001912C, by decide⟩,
   ⟨((guardSnk 3).modFw 0 (fun f => { f with srcCaps := [0x0001912C] })).put (pPOL 0) POL.SNK_V_V_MAX 200, 0, by decide⟩,
   ⟨snapIn (guardSnk 3) snapD, 0, ⟨by decide, by decide, snapValidOk _ _ crc_snapD (by decide), by decide⟩⟩,
   ⟨(snapIn (guardSnk 3) snapPpsD).put pSHARE (SHARE.TRIM_PENDING.at 0) 1, 0, ⟨by decide, by decide, snapValidOk _ _ crc_snapPpsD (by decide), by decide⟩⟩,
   ⟨(force (gotRec (guardSrc 3) drSwapD) (pPOL 0) POL.CFG_DR_POLICY 1).put (pPOL 0) POL.PG_STAT_CONTRACT 2, 0, 0, ⟨by decide, usable _ _ crc_drSwapD (by decide), by decide⟩⟩,
   ⟨(force (gotRec (guardSrc 3) drSwapD) (pPOL 0) POL.CFG_DR_POLICY 0).put (pPOL 0) POL.PG_STAT_CONTRACT 2, 0, 0, ⟨by decide, usable _ _ crc_drSwapD (by decide), by decide⟩⟩,
   ⟨force (gotRec (guardSrc 3) batStD) (pPOL 0) POL.CFG_BAT_MSG 1, 0, 0, ⟨by decide, by decide, usable _ _ crc_batStD (by decide), by decide⟩⟩⟩

theorem witness_VdmCommandsComplete :
    (∃ (s : State) (n : Port), s.fw = true ∧ s.isDfp n = true ∧ s.explicit n = true ∧ s.snapTrans n = false ∧ s.flag (pVDM n) VDM.CFG_DISC_EN = true ∧ (s.port n).fw.discGen ≠ some (s.gen n) ∧ s.MaySend n) ∧
    (∃ (s : State) (n : Port), s.fw = true ∧ s.flag (pVDM n) VDM.CFG_CBL_DISC = true ∧ s.cableOk n 1 = true ∧ s.flag (pVDM n) VDM.DISC_STAT_CBL_KNOWN = false ∧ (s.port n).fw.cblTries < 20 ∧ (s.port n).fw.cbl = none ∧ s.MaySend n) ∧
    (∃ (s : State) (n : Port) (i : Fin 64) (q : VdmReq), s.fw = true ∧ s.rxUsable n i.val = true ∧ isData (s.rxHdr n i.val) 15 = true ∧ (s.port n).fw.vdm = some q ∧ q.sop = 0 ∧ s.stNat (rxRecAt n i.val + 2) 1 % 4 = 0 ∧ vdmCmd q.hdr = 1 ∧ vdmSvid q.hdr = 0xFF00 ∧ s.rxObj n i.val 0 = vdmHdr 0xFF00 0 1 1 ∧ s.MaySend n) ∧
    (∃ (s : State) (n : Port) (q : VdmReq), s.fw = true ∧ (s.port n).fw.vdm = some q ∧ q.sop = 0 ∧ vdmCmd q.hdr ≤ 3 ∧ q.again = false ∧ q.busy = false ∧ q.body = [] ∧ s.MaySend n) ∧
    (∃ (s : State) (n : Port) (q : VdmReq), s.fw = true ∧ (s.port n).fw.vdm = some q ∧ q.sop = 0 ∧ vdmCmd q.hdr ≤ 3 ∧ q.again = true ∧ q.busy = false) ∧
    (∃ (s : State) (n : Port) (q : VdmReq), s.fw = true ∧ (s.port n).fw.vdm = some q ∧ q.sop = 0 ∧ q.busy = true ∧ q.body = [] ∧ s.MaySend n) ∧
    (∃ (s : State) (n : Port) (q : VdmReq), s.fw = true ∧ (s.port n).fw.vdm = some q ∧ q.busy = false ∧ vdmCmd q.hdr = 4) ∧
    (∃ (s : State) (n : Port) (q : VdmReq), s.fw = true ∧ (s.port n).fw.cbl = some q ∧ q.busy = false) ∧
    (∃ (s : State) (n : Port) (v p : Nat), s.fw = true ∧ s.flag (pVDM n) VDM.CFG_ENTER_AUTO = true ∧ s.isDfp n = true ∧ s.fld (pVDM n) VDM.DISC_STAT_DISC = 5 ∧ s.flag (pVDM n) VDM.MODE_VALID = false ∧ (s.port n).fw.vdm = none ∧ s.autoMode n = some (v, p) ∧ s.MaySend n) ∧
    (∃ (s : State) (n : Port) (key : BitVec 16), s.Takes (pVDM n) ∧ s.fw = true ∧ key.toNat = 0x7D1E ∧ s.isDfp n = true ∧ s.explicit n = true ∧ s.MaySend n) ∧
    (∃ (s : State) (n : Port) (key : BitVec 16) (vdo : Word), s.Takes (pVDM n) ∧ s.fw = true ∧ key.toNat = 0x7D1E ∧ s.isDfp n = true ∧ s.flag (pVDM n) VDM.MODE_VALID = false ∧ (s.fld (pVDM n) VDM.ENTER_SEL_SVID, s.fld (pVDM n) VDM.ENTER_SEL_POS, vdo) ∈ (s.port n).fw.modes ∧ s.MaySend n) ∧
    (∃ (s : State) (n : Port) (key : BitVec 16), s.Takes (pVDM n) ∧ s.fw = true ∧ key.toNat = 0x7D1E ∧ s.flag (pVDM n) VDM.MODE_VALID = true) ∧
    (∃ (s : State) (n : Port) (key : BitVec 16), s.Takes (pVDM n) ∧ s.fw = true ∧ key.toNat = 0x7D1E ∧ s.flag (pVDM n) VDM.MODE_VALID = true ∧ s.MaySend n) ∧
    (∃ (s : State) (n : Port), s.fw = true ∧ s.flag (pVDM n) VDM.MODE_VALID = true) ∧
    (∃ (s : State) (n : Port), s.fw = true ∧ s.isDfp n = false ∧ s.flag (pVDM n) VDM.MODE_VALID = true ∧ s.fld (pVDM n) VDM.MODE_SVID = 0xFF01 ∧ s.enabled pGPIO = true ∧ (s.pins.gpio.getLsbD (s.fld (pVDM n) VDM.DP_CFG_HPD_SRC) != bitAt (s.rd pGPIO (0x20 + 4 * s.fld (pVDM n) VDM.DP_CFG_HPD_SRC)).toNat 12) = true ∧ (s.port n).fw.hpdIn = false ∧ (s.port n).fw.hpdLow < 10 ∧ s.MaySend n) ∧
    (∃ (s : State) (n : Port) (i : Fin 64), s.fw = true ∧ s.rxUsable n i.val = true ∧ isData (s.rxHdr n i.val) 15 = true ∧ vdmStruct (s.rxObj n i.val 0) = false ∧ s.flag (pVDM n) VDM.CFG_HOST_PASS = true ∧ (s.fld (pVDM n) VDM.HOST_Q_WR + 1) % 8 ≠ s.fld (pVDM n) VDM.HOST_Q_RD) ∧
    (∃ (s : State) (n : Port) (count : BitVec 3) (sop : BitVec 2), s.Takes (pVDM n) ∧ s.fw = true ∧ s.flag (pVDM n) VDM.HOST_TX_CTL_GO = false ∧ s.pdAttached n = true ∧ vdmStruct (s.rd (pVDM n) 0x44) = false ∧ count = 2 ∧ sop = 1 ∧ s.MaySend n) ∧
    (∃ (s : State) (n : Port) (count : BitVec 3) (sop : BitVec 2), s.Takes (pVDM n) ∧ s.fw = true ∧ s.flag (pVDM n) VDM.HOST_TX_CTL_GO = false ∧ s.pdAttached n = false) :=
  ⟨⟨(dfp.put (pPOL 0) POL.PG_STAT_CONTRACT 2).put (pVDM 0) VDM.CFG_DISC_EN 1, 0, by decide⟩,
   ⟨((dfp.put (pVDM 0) VDM.CFG_CBL_DISC 1).put (pCC 0) CC.PG_STAT_VCONN_ON 1).put (pPDL 0) PDL.CFG_SOP1_EN 1, 0, by decide⟩,
   ⟨(gotRec dfp identD).modFw 0 (fun f => { f with vdm := some ⟨0, vdmHdr 0xFF00 0 0 1, [], false, false, 24000⟩ }), 0, 0, ⟨0, vdmHdr 0xFF00 0 0 1, [], false, false, 24000⟩, ⟨by decide, usable _ _ crc_identD (by decide), by decide⟩⟩,
   ⟨dfp.modFw 0 (fun f => { f with vdm := some ⟨0, vdmHdr 0xFF00 0 0 1, [], false, false, 24000⟩ }), 0, ⟨0, vdmHdr 0xFF00 0 0 1, [], false, false, 24000⟩, by decide⟩,
   ⟨dfp.modFw 0 (fun f => { f with vdm := some ⟨0, vdmHdr 0xFF00 0 0 1, [], true, false, 24000⟩ }), 0, ⟨0, vdmHdr 0xFF00 0 0 1, [], true, false, 24000⟩, by decide⟩,
   ⟨dfp.modFw 0 (fun f => { f with vdm := some ⟨0, vdmHdr 0xFF00 0 0 1, [], false, true, 50000⟩ }), 0, ⟨0, vdmHdr 0xFF00 0 0 1, [], false, true, 50000⟩, by decide⟩,
   ⟨dfp.modFw 0 (fun f => { f with vdm := some ⟨0, vdmHdr 0xFF01 1 0 4, [], false, false, 40000⟩ }), 0, ⟨0, vdmHdr 0xFF01 1 0 4, [], false, false, 40000⟩, by decide⟩,
   ⟨dfp.modFw 0 (fun f => { f with cbl := some ⟨1, vdmHdr 0xFF00 0 0 1, [], false, false, 24000⟩ }), 0, ⟨1, vdmHdr 0xFF00 0 0 1, [], false, false, 24000⟩, by decide⟩,
   ⟨dpFound, 0, 0xFF01, 1, by decide⟩,
   ⟨dfp.put (pPOL 0) POL.PG_STAT_CONTRACT 2, 0, 0x7D1E, by decide⟩,
   ⟨(dfp.modFw 0 (fun f => { f with modes := [(0xFF01, 1, 0)] })).wr (pVDM 0) VDM.ENTER_SEL_SVID.off (BitVec.ofNat 32 (setBits (setBits 0 VDM.ENTER_SEL_SVID.lo 16 0xFF01) VDM.ENTER_SEL_POS.lo 3 1)), 0, 0x7D1E, 0, by decide⟩,
   ⟨dfp.put (pVDM 0) VDM.MODE_VALID 1, 0, 0x7D1E, by decide⟩,
   ⟨dfp.put (pVDM 0) VDM.MODE_VALID 1, 0, 0x7D1E, by decide⟩,
   ⟨dfp.put (pVDM 0) VDM.MODE_VALID 1, 0, by decide⟩,
   ⟨({ (guardSnk 3).put (pVDM 0) VDM.MODE_VALID 1 with pins := { run.pins with gpio := 255 } }).put (pVDM 0) VDM.MODE_SVID 0xFF01, 0, by decide⟩,
   ⟨(gotRec (guardSrc 3) vdmUnD).put (pVDM 0) VDM.CFG_HOST_PASS 1, 0, 0, ⟨by decide, usable _ _ crc_vdmUnD (by decide), by decide⟩⟩,
   ⟨dfp, 0, 2, 1, by decide⟩,
   ⟨run, 0, 2, 1, by decide⟩⟩

theorem witness_LinkCommandsComplete :
    (∃ (s : State) (l : Fin 3) (b : List Byte), s.phase = .run ∧ s.linkUp l = true ∧ 8 ≤ b.length ∧ crc8 (b.take 7) = byteAt b 7 ∧ frLen b = b.length - 8 ∧ b.length ≤ 264 ∧ frSeq b = s.fld (pHG l) HG.WINDOW_RX_EXPECT ∧ l.val = 1 ∧ frType b = 0 ∧ (s.assigned && frSrc b == s.node) = false) ∧
    (∃ (s : State) (l : Fin 3) (bytes : List Byte) (codeErrs : Nat), s.phase = .run ∧ s.linkUp l = true ∧ 0 < codeErrs ∧ (s.link l).errs + codeErrs ≤ max 1 (s.fld (pHG l) HG.CFG_ERR_LIMIT)) ∧
    (∃ (s : State) (l : Fin 3) (f : TxF) (b1 b2 b3 : BitVec 8), s.phase = .run ∧ s.linkUp l = true ∧ (s.link l).win = [f] ∧ (s.link l).queue = [] ∧ f.slot = none ∧ frType f.bytes ≠ 9 ∧ frSeq f.bytes = b1.toNat % 16 ∧ b1.getLsbD 4 = false ∧ b2.getLsbD 0 = false ∧ crc8 [b1, b2] = b3.toNat) ∧
    (∃ (s : State) (l : Fin 3), s.linkUp l = true ∧ (s.link l).win ≠ []) ∧
    (∃ (s : State) (l : Fin 3), s.linkUp l = true) ∧
    (∃ (s : State) (l : Fin 3), s.linkState l = 3) ∧
    (∃ (s : State) (l : Fin 3) (delay : BitVec 16), s.linkState l = 1) ∧
    (∃ (s : State) (l : Fin 3), s.linkState l = 3) ∧
    (∃ (s : State) (l : Fin 3) (more : Nat), s.linkUp l = true ∧ max 1 (s.fld (pHG l) HG.CFG_ERR_LIMIT) < (s.link l).errs + more) ∧
    (∃ (s : State) (l : Fin 3) (more : Nat), s.linkUp l = true ∧ (s.link l).errs + more ≤ max 1 (s.fld (pHG l) HG.CFG_ERR_LIMIT)) ∧
    (∃ (s : State) (l : Fin 3), s.linkState l = 4) ∧
    (∃ (s : State) (l : Fin 3), s.linkState l = 5) ∧
    (∃ (s : State) (l : Fin 3), s.linkState l = 5) ∧
    (∃ (s : State) (l : Fin 3) (key : BitVec 16), s.Takes (pHG l) ∧ key.toNat = 0x48E7 ∧ s.linkState l ≠ 0) ∧
    (∃ (s : State) (l : Fin 3) (key : BitVec 16), s.Takes (pHG l) ∧ key.toNat = 0x48E7 ∧ s.linkState l = 4) ∧
    (∃ (s : State) (l : Fin 3) (key : BitVec 16), s.Takes (pHG l) ∧ key.toNat = 0x48E7) :=
  ⟨⟨ringUp, 1, [0, 0, 1, 0, 0, 0, 0, 0x62], ⟨by decide, by decide, by decide, crc8_hdr, by decide⟩⟩,
   ⟨ringUp.put (pHG 1) HG.CFG_ERR_LIMIT 8, 1, [], 2, by decide⟩,
   ⟨ringUp.modLink 1 (fun k => { k with win := [⟨List.replicate 16 0, none, false⟩] }), 1, ⟨List.replicate 16 0, none, false⟩, 0, 0, 0, ⟨by decide, by decide, by decide, by decide, by decide, by decide, by decide, by decide, by decide, crc8_zero⟩⟩,
   ⟨ringUp.modLink 1 (fun k => { k with win := [⟨List.replicate 16 0, none, false⟩] }), 1, by decide⟩,
   ⟨ringUp, 1, by decide⟩,
   ⟨run.put (pHG 1) HG.PG_STAT_STATE 3, 1, by decide⟩,
   ⟨run.put (pHG 1) HG.PG_STAT_STATE 1, 1, 500, by decide⟩,
   ⟨run.put (pHG 1) HG.PG_STAT_STATE 3, 1, by decide⟩,
   ⟨ringUp, 1, 40, by decide⟩,
   ⟨ringUp, 1, 1, by decide⟩,
   ⟨run.put (pHG 1) HG.PG_STAT_STATE 4, 1, by decide⟩,
   ⟨run.put (pHG 1) HG.PG_STAT_STATE 5, 1, by decide⟩,
   ⟨run.put (pHG 1) HG.PG_STAT_STATE 5, 1, by decide⟩,
   ⟨ringUp, 1, 0x48E7, by decide⟩,
   ⟨run.put (pHG 1) HG.PG_STAT_STATE 4, 1, 0x48E7, by decide⟩,
   ⟨ringUp, 1, 0x48E7, by decide⟩⟩

theorem witness_FleetNumberingCompletes :
    (∃ (s : State) (key : BitVec 16), s.Takes pFLEET ∧ key.toNat = 0x8B2F ∧ s.mayEnumerate = true ∧ s.assigned = true ∧ s.ringOpen 0 = true) ∧
    (∃ (s : State) (f : RxF), s.fleet.inbox.find? (isEnum 0) = some f ∧ s.assigned = true ∧ frSrc f.bytes = s.node ∧ s.ringOpen 1 = true) ∧
    (∃ (s : State) (f : RxF) (i : Nat), s.fleet.inbox.find? (isEnum 0) = some f ∧ s.assigned = false ∧ s.flag pFLEET FLEET.CFG_JOIN = true ∧ s.flag pFLEET FLEET.CFG_INDEX_MODE = false ∧ lowestClear (numAt (frPayload f.bytes) 8 8) = some i ∧ f.via = 0 ∧ frWrapped f.bytes = false) ∧
    (∃ (s : State) (f : RxF), s.fleet.inbox.find? (isEnum 1) = some f ∧ s.assigned = true ∧ frSrc f.bytes = s.node ∧ s.backOn (viaLink f.via) 1 = true) ∧
    (∃ (s : State) (f : RxF), s.fleet.inbox.find? (isEnum 2) = some f ∧ s.assigned = true) ∧
    (∃ (s : State) (m : Nat), s.mayEnumerate = false ∧ s.fleet.mgrSeen = some m ∧ m < 128 ∧ s.flag pFLEET FLEET.CFG_JOIN = true ∧ s.role = .worker ∧ s.ringOpen 0 = true) ∧
    (∃ (s : State) (f : RxF) (err : Int), s.fleet.inbox.find? (fun f => frType f.bytes == 0) = some f ∧ s.acting ≠ .manager ∧ s.flag pFLEET FLEET.PG_STAT_ENUM_DONE = false ∧ s.fleet.taken = none) ∧
    (∃ (s : State) (f : RxF) (err : Int), s.fleet.inbox.find? (fun f => frType f.bytes == 0) = some f ∧ s.acting ≠ .manager ∧ s.flag pFLEET FLEET.PG_STAT_ENUM_DONE = true ∧ s.flag pFLEET FLEET.PG_STAT_TICK_ALIGNED = false ∧ s.fld pFLEET FLEET.NODES_MGR = frSrc f.bytes ∧ s.fleet.taken = none) ∧
    (∃ (s : State) (f : RxF), s.fleet.inbox.find? (isEnum 4) = some f ∧ s.assigned = true ∧ byteAt (frPayload f.bytes) 1 = s.node ∧ s.node < 128) ∧
    (∃ (s : State) (m : Nat), s.flag pFLEET FLEET.PG_STAT_DEFERRED = true ∧ s.fleet.mgrSeen = some m ∧ m < 128 ∧ s.ringOpen 0 = true) ∧
    (∃ (s : State) (f : RxF), s.flag pFLEET FLEET.PG_STAT_DEFERRED = false ∧ s.fleet.inbox.find? (isEnum 5) = some f ∧ s.flag pFLEET FLEET.CFG_HANDBACK = true ∧ s.role = .standby ∧ s.fleet.handback = none) ∧
    (∃ (s : State) (t0 m : Nat), s.fleet.handback = some t0 ∧ s.fleet.returned = some m ∧ m < 128 ∧ s.acting = .manager ∧ s.role = .standby ∧ s.tick % 200 = 0 ∧ t0 + 200 ≤ s.tick ∧ s.ringOpen 0 = true) ∧
    (∃ (s : State) (key : BitVec 16), s.Takes pFLEET ∧ key.toNat = 0x8B2F ∧ s.acting = .standby) ∧
    (∃ (s : State) (key : BitVec 16), s.Takes pFLEET ∧ key.toNat = 0x8B2F ∧ s.acting = .manager ∧ s.role = .standby ∧ s.fleet.returned.isSome = true ∧ s.fleet.handback = none) :=
  ⟨⟨man, 0x8B2F, by decide⟩,
   ⟨got man [1, 5, 5, 16, 0, 9, 0, 0, 0, 0x7F, 0, 0, 100], ⟨0, [1, 5, 5, 16, 0, 9, 0, 0, 0, 0x7F, 0, 0, 100], 0⟩, by decide⟩,
   ⟨(got ringUp [1, 5, 5, 16, 0, 9, 0, 0, 0, 0x7F, 0, 0, 100, 0, 0, 0, 7]).put pFLEET FLEET.CFG_JOIN 1, ⟨0, [1, 5, 5, 16, 0, 9, 0, 0, 0, 0x7F, 0, 0, 100, 0, 0, 0, 7], 0⟩, 3, by decide⟩,
   ⟨{ man with fleet := { man.fleet with inbox := [⟨1, [1, 5, 5, 16, 0, 9, 0, 0, 1, 0x7F, 0, 0, 100, 0, 0, 0, 33], 0⟩] } }, ⟨1, [1, 5, 5, 16, 0, 9, 0, 0, 1, 0x7F, 0, 0, 100, 0, 0, 0, 33], 0⟩, by decide⟩,
   ⟨got man [0x11, 0, 9, 24, 0, 9, 0, 0, 2], ⟨0, [0x11, 0, 9, 24, 0, 9, 0, 0, 2], 0⟩, by decide⟩,
   ⟨{ ringUp.put pFLEET FLEET.CFG_JOIN 1 with fleet := { run.fleet with mgrSeen := some 9 } }, 9, by decide⟩,
   ⟨got ringUp [0x10, 0, 9, 8, 0, 9, 0, 0, 2], ⟨0, [0x10, 0, 9, 8, 0, 9, 0, 0, 2], 0⟩, (-3), by decide⟩,
   ⟨(((got ringUp [0x10, 0, 9, 8, 0, 9, 0, 0, 2]).put pFLEET FLEET.PG_STAT_ENUM_DONE 1).put pFLEET FLEET.NODES_MGR 9).modFleet (fun f => { f with good := 3 }), ⟨0, [0x10, 0, 9, 8, 0, 9, 0, 0, 2], 0⟩, (-312), by decide⟩,
   ⟨(got man [0x11, 0, 9, 18, 0, 9, 0, 0, 4, 5]).put pSYS SYS.PG_STAT_ACTING 2, ⟨0, [0x11, 0, 9, 18, 0, 9, 0, 0, 4, 5], 0⟩, by decide⟩,
   ⟨{ man.put pFLEET FLEET.PG_STAT_DEFERRED 1 with fleet := { run.fleet with mgrSeen := some 9 } }, 9, by decide⟩,
   ⟨((got ringUp [0x11, 0, 9, 4, 0, 9, 0, 0, 5]).put pFLEET FLEET.CFG_HANDBACK 1).put pSYS SYS.PG_STAT_ROLE 2, ⟨0, [0x11, 0, 9, 4, 0, 9, 0, 0, 5], 0⟩, by decide⟩,
   ⟨{ (man.put pSYS SYS.PG_STAT_ROLE 2).modFleet (fun f => { f with handback := some 10, returned := some 9 }) with tick := 400 }, 10, 9, by decide⟩,
   ⟨man.put pSYS SYS.PG_STAT_ACTING 2, 0x8B2F, by decide⟩,
   ⟨(man.put pSYS SYS.PG_STAT_ROLE 2).modFleet (fun f => { f with returned := some 9 }), 0x8B2F, by decide⟩⟩

theorem witness_FleetFramesComplete :
    (∃ (s : State) (f : RxF), s.fleet.inbox.find? (fun f => frType f.bytes == 2) = some f ∧ bitAt (numAt (frPayload f.bytes) 0 4) 9 = true ∧ s.fleet.wraps = []) ∧
    (∃ (s : State) (f : RxF), s.fleet.inbox.find? (fun f => frType f.bytes == 2) = some f ∧ bitAt (numAt (frPayload f.bytes) 0 4) 9 = false ∧ s.mayEnumerate = false ∧ s.fleet.wraps = [(bitsOf (numAt (frPayload f.bytes) 0 4) 0 7, bitsOf (numAt (frPayload f.bytes) 0 4) 8 1)]) ∧
    (∃ (s : State), s.live = true ∧ s.assigned = true ∧ s.acting = .worker ∧ s.attn ≠ s.fleet.attnAcked ∧ s.evtInFlight = false ∧ s.ringOpen 0 = true) ∧
    (∃ (s : State) (f : RxF) (slot cls task : Nat), s.fleet.inbox.find? (fun f => (engineFrame (frType f.bytes)).isSome) = some f ∧ engineFrame (frType f.bytes) = some (slot, cls, task) ∧ (s.fld pFLEET FLEET.RXQ_WR_INDEX + 1) % 64 ≠ s.fld pFLEET FLEET.RXQ_RD_INDEX) ∧
    (∃ (s : State) (f : RxF), s.fleet.inbox.find? (fun f => (engineFrame (frType f.bytes)).isSome) = some f ∧ (s.fld pFLEET FLEET.RXQ_WR_INDEX + 1) % 64 = s.fld pFLEET FLEET.RXQ_RD_INDEX) ∧
    (∃ (s : State) (slot : Fin 64), s.Takes pFLEET ∧ s.stNat (txfAt slot.val + 269) 1 = 0 ∧ s.stChecks (txfAt slot.val) 512 = false) ∧
    (∃ (s : State) (slot : Fin 64), s.Takes pFLEET ∧ s.stNat (txfAt slot.val + 269) 1 = 0 ∧ s.stNat (txfAt slot.val + 268) 1 = 0 ∧ s.stChecks (txfAt slot.val) 512 = true ∧ frType (s.stRead (txfAt slot.val) 8) = 7 ∧ frBcast (s.stRead (txfAt slot.val) 8) = false ∧ frLen (s.stRead (txfAt slot.val) 8) ≤ 256 ∧ s.ringOpen 0 = true) :=
  ⟨⟨got ringUp [0x12, 0, 9, 4, 0, 9, 0, 0, 9, 3], ⟨0, [0x12, 0, 9, 4, 0, 9, 0, 0, 9, 3], 0⟩, by decide⟩,
   ⟨(got ringUp [0x12, 0, 9, 4, 0, 9, 0, 0, 9, 1]).modFleet (fun f => { f with wraps := [(9, 1)] }), ⟨0, [0x12, 0, 9, 4, 0, 9, 0, 0, 9, 1], 0⟩, by decide⟩,
   ⟨(man.put pSYS SYS.PG_STAT_ACTING 1).modFleet (fun f => { f with attnAcked := true }), by decide⟩,
   ⟨got ringUp [8, 0, 9, 4, 0, 9, 0, 0, 9, 1], ⟨0, [8, 0, 9, 4, 0, 9, 0, 0, 9, 1], 0⟩, 98, 2, 0x74, by decide⟩,
   ⟨(got ringUp [8, 0, 9, 4, 0, 9, 0, 0, 9, 1]).put pFLEET FLEET.RXQ_RD_INDEX 1, ⟨0, [8, 0, 9, 4, 0, 9, 0, 0, 9, 1], 0⟩, by decide⟩,
   ⟨{ ringUp with st := { run.st with bad := [txfAt 3] } }, 3, ⟨by decide, by decide, by rw [State.stChecks]; exact Bool.and_eq_false_imp.2 fun h => absurd h (by decide)⟩⟩,
   ⟨entryIn ringUp (txfAt 0) entGrant, 0, ⟨by decide, by decide, by decide, entryOk _ _ entGrant crc_entGrant (by decide), by decide⟩⟩⟩

theorem witness_PlacementOnTheManagerCompletes :
    (∃ (s : State) (key : BitVec 16), s.Takes pPLACE ∧ key.toNat = 0x91D4 ∧ s.places = true) ∧
    (∃ (s : State) (kind : Nat) (n : Port), s.place.due = some kind ∧ kind < 4 ∧ s.fw = true ∧ s.places = true) ∧
    (∃ (s : State) (entry : Fin 64), s.fw = true ∧ s.rxType entry.val = 8 ∧ s.stChecks (rxfAt entry.val) 512 = true ∧ s.places = true ∧ s.rxSrc entry.val < 64) ∧
    (∃ (s : State) (entry : Fin 64), s.fw = true ∧ s.rxType entry.val = 6 ∧ s.stChecks (rxfAt entry.val) 512 = true ∧ s.places = true ∧ s.rxSrc entry.val < 64 ∧ s.fld pFLEET FLEET.RXQ_RD_INDEX = entry.val) ∧
    (∃ (s : State) (soc : Nat) (n : Port), s.fw = true ∧ s.ccState n ≠ .attachedSrc) ∧
    (∃ (s : State) (n : Port), s.fw = true ∧ s.ccState n = .attachedSrc ∧ (s.port n).fw.mism = false ∧ s.snapValid n = false) ∧
    (∃ (s : State) (node : Fin 64), s.fw = true ∧ s.places = true ∧ (s.nodeLed node.val).orphanAt = none ∧ 0 < (s.nodeLed node.val).last ∧ (s.nodeLed node.val).last + s.leaseTk + 2 ≤ s.tick) ∧
    (∃ (s : State) (node : Fin 64) (t0 : Nat), s.fw = true ∧ (s.nodeLed node.val).orphanAt = some t0 ∧ (s.nodeLed node.val).hold = false ∧ (s.nodeLed node.val).released = false ∧ t0 + s.confirmTk + 3000 ≤ s.tick ∧ s.recPlaced (8 * node.val) = true) ∧
    (∃ (s : State) (m : Nat), s.fw = true ∧ s.acting = .manager ∧ s.role ≠ .solo ∧ s.mirrorTo = some m ∧ m < 128 ∧ s.stNat (txfAt 40 + 269) 1 ≠ 1) ∧
    (∃ (s : State) (entry : Fin 64) (k : Fin 64), s.fw = true ∧ s.rxType entry.val = 0xD ∧ s.stChecks (rxfAt entry.val) 512 = true ∧ s.places = false ∧ byteAt (s.rxPayload entry.val) 0 = 0) ∧
    (∃ (s : State) (rec : Fin 512) (w0 w1 : Word), s.fw = true ∧ s.places = true ∧ s.stBadIn (recAt rec.val) 32 = true ∧ rec.val / 8 = s.node ∧ s.snapValid (Fin.ofNat 8 rec.val) = false ∧ (s.own (Fin.ofNat 8 rec.val)).grant < 65536) :=
  ⟨⟨man, 0x91D4, by decide⟩,
   ⟨{ man with place := { run.place with due := some 1 } }, 1, 0, by decide⟩,
   ⟨entryIn man (rxfAt 0) entContract, 0, ⟨by decide, by decide, entryOk _ _ entContract crc_entContract (by decide), by decide⟩⟩,
   ⟨entryIn man (rxfAt 0) entTelem, 0, ⟨by decide, by decide, entryOk _ _ entTelem crc_entTelem (by decide), by decide⟩⟩,
   ⟨man, 300, 0, by decide⟩,
   ⟨guardSrc 3, 0, by decide⟩,
   ⟨{ man with tick := 30000, place := { run.place with nodes := [⟨7, 1, false, none, false, false, none⟩] } }, 7, by decide⟩,
   ⟨{ man with tick := 30000, store := [(recAt 56 + 6, 1)], place := { run.place with nodes := [⟨7, 1, false, some 9, false, false, none⟩] } }, 7, 9, by decide⟩,
   ⟨man.put pFLEET FLEET.NODES_STBY 9, 9, by decide⟩,
   ⟨entryIn ringUp (rxfAt 0) entLedger, 0, 2, ⟨by decide, by decide, entryOk _ _ entLedger crc_entLedger (by decide), by decide⟩⟩,
   ⟨{ man with st := { run.st with bad := [recAt 41] } }, 41, 5, 6, by decide⟩⟩

theorem witness_PlacementOnTheNodeCompletes :
    (∃ (s : State) (f : RxF), s.fleet.inbox.find? (fun f => frType f.bytes == 7) = some f ∧ frSrc f.bytes = s.fld pFLEET FLEET.NODES_MGR ∧ s.places = false ∧ s.fld pPLACE PLACE.LEASE_STAT_STATE ≤ 1 ∧ (s.fld pFLEET FLEET.RXQ_WR_INDEX + 1) % 64 ≠ s.fld pFLEET FLEET.RXQ_RD_INDEX) ∧
    (∃ (s : State) (entry : Fin 64) (n : Port), s.fw = true ∧ s.rxType entry.val = 7 ∧ s.stChecks (rxfAt entry.val) 512 = true ∧ s.places = false) ∧
    (∃ (s : State) (n : Port), s.fw = true ∧ (s.own n).todo = true ∧ s.tkCome (s.own n).start = true ∧ (s.own n).kind = 1 ∧ s.ccState n = .attachedSrc ∧ s.guardState n = 3 ∧ s.transRuns n = false ∧ s.snapTrans n = false ∧ s.flag (pPOL n) POL.PG_STAT_EPR_MODE = false ∧ s.MaySend n) ∧
    (∃ (s : State) (n : Port), s.fw = true ∧ (s.own n).pend = true ∧ (s.own n).kind = 2 ∧ s.confirmed n = false ∧ s.tkCome ((s.own n).start + s.confirmTk) = true ∧ s.pdAttached n = true) ∧
    (∃ (s : State) (n : Port), s.fw = true ∧ s.confirmed n = true ∧ s.places = false ∧ s.stNat (txfAt 62 + 269) 1 ≠ 1) ∧
    (∃ (s : State) (n : Port), s.fw = true ∧ s.places = false ∧ s.assigned = true ∧ s.flag pFLEET FLEET.PG_STAT_IDX_CONFLICT = false ∧ s.stNat (txfAt 63 + 269) 1 ≠ 1) ∧
    (∃ (s : State), s.fld pPLACE PLACE.LEASE_STAT_STATE = 0 ∧ s.place.leaseOn = true ∧ 220 ≤ s.place.since ∧ s.places = false) ∧
    (∃ (s : State), s.fld pPLACE PLACE.LEASE_STAT_STATE ≤ 1 ∧ s.place.leaseOn = true ∧ s.fld pPLACE PLACE.LEASE_STAT_LEFT_TK = 0 ∧ s.places = false) ∧
    (∃ (s : State) (n : Port), s.fw = true ∧ s.fld pPLACE PLACE.LEASE_STAT_STATE = 2 ∧ s.flag pPLACE PLACE.CFG_HOLD = false ∧ (s.own n).floor < (s.own n).grant) ∧
    (∃ (s : State), s.fw = true ∧ s.fld pPLACE PLACE.LEASE_STAT_STATE = 2 ∧ s.flag pPLACE PLACE.CFG_HOLD = false ∧ (∀ n, (s.own n).grant ≤ (s.own n).floor ∧ (s.own n).pend = false)) ∧
    (∃ (s : State) (key : BitVec 16), s.Takes pPLACE ∧ key.toNat = 0x91D4 ∧ s.fld pPLACE PLACE.LEASE_STAT_STATE = 2) ∧
    (∃ (s : State) (node : BitVec 7) (port : BitVec 3) (w : Fin 4), s.Takes pPLACE ∧ node.toNat < 64 ∧ s.recOk (recAt (8 * node.toNat + port.toNat)) = true) ∧
    (∃ (s : State) (node : BitVec 7) (port : BitVec 3) (w : Fin 4), s.Takes pPLACE ∧ node.toNat < 64 ∧ s.stBadIn (recAt (8 * node.toNat + port.toNat)) 32 = true) ∧
    (∃ (s : State) (pool : BitVec 4) (w : Fin 4), s.Takes pPLACE ∧ s.recOk (poolAt pool.toNat) = true) ∧
    (∃ (s : State) (v : Word), s.Takes pPLACE ∧ s.fld pPLACE PLACE.PORT_SEL_NODE < 64) ∧
    (∃ (s : State) (n : Port), s.fw = true) ∧
    (∃ (s : State) (ports : BitVec 8) (key : BitVec 16), s.Takes pENGY ∧ key.toNat = 0xE6A3) :=
  ⟨⟨(got ringUp [7, 5, 9, 64, 0, 9, 0, 0, 9, 1]).put pFLEET FLEET.NODES_MGR 9, ⟨0, [7, 5, 9, 64, 0, 9, 0, 0, 9, 1], 0⟩, by decide⟩,
   ⟨entryIn ringUp (rxfAt 0) entGrant, 0, 3, ⟨by decide, by decide, entryOk _ _ entGrant crc_entGrant (by decide), by decide⟩⟩,
   ⟨(guardSrc 3).modOwn 0 (fun o => { o with todo := true, kind := 1, grant := 3000 }), 0, by decide⟩,
   ⟨({ guardSrc 3 with tick := 12000 }).modOwn 0 (fun o => { o with pend := true, kind := 2 }), 0, by decide⟩,
   ⟨ringUp.modOwn 0 (fun o => { o with grant := 300, seq := 7 }), 0, by decide⟩,
   ⟨(man.put pSYS SYS.PG_STAT_ACTING 1).put pSYS SYS.PG_STAT_ROLE 1, 0, by decide⟩,
   ⟨{ ringUp with place := { run.place with leaseOn := true, since := 220 } }, by decide⟩,
   ⟨{ ringUp with place := { run.place with leaseOn := true, since := 220 } }, by decide⟩,
   ⟨(ringUp.put pPLACE PLACE.LEASE_STAT_STATE 2).modOwn 0 (fun o => { o with grant := 300, floor := 7 }), 0, by decide⟩,
   ⟨{ ringUp.put pPLACE PLACE.LEASE_STAT_STATE 2 with place := { run.place with own := Vector.replicate 8 ⟨5, 5, 0, 0, 0, false, false, false, 0, false, 0, 0, false, false, false⟩ } }, by decide⟩,
   ⟨ringUp.put pPLACE PLACE.LEASE_STAT_STATE 2, 0x91D4, by decide⟩,
   ⟨recIn run (recAt 13) recD, 1, 5, 0, ⟨by decide, by decide, recOkOk _ _ recD crc_recD (by decide)⟩⟩,
   ⟨{ run with st := { run.st with bad := [recAt 13] } }, 1, 5, 0, by decide⟩,
   ⟨recIn run (poolAt 3) recD, 3, 0, ⟨by decide, recOkOk _ _ recD crc_recD (by decide)⟩⟩,
   ⟨run, 0x12345678, by decide⟩,
   ⟨run, 0, by decide⟩,
   ⟨run, 5, 0xE6A3, by decide⟩⟩

theorem witness_TwinCommandsComplete :
    (∃ (s : State), s.fw = true ∧ s.fld pTWIN TWIN.CFG_PORTS ≠ 0 ∧ s.linkUp 2 = true ∧ s.stNat (txfAt 61 + 269) 1 ≠ 1) ∧
    (∃ (s : State) (w7 : Word), s.Takes pTWIN) ∧
    (∃ (s : State) (entry : Fin 64), s.fw = true ∧ s.rxType entry.val = 0xC ∧ s.stChecks (rxfAt entry.val) 512 = true ∧ s.rxVia entry.val = 2 ∧ s.fld pFLEET FLEET.RXQ_RD_INDEX = entry.val) ∧
    (∃ (s : State) (n : Port), s.shadowing n = true ∧ s.mayOwn = true ∧ s.inf (pCC n) CC.CFG_DB_CLAMP = 0 ∧ (s.tw n).mir.isSome = true) ∧
    (∃ (s : State) (n : Port), s.shadowing n = true ∧ s.mayOwn = true ∧ s.inf (pCC n) CC.CFG_DB_CLAMP = 0 ∧ (s.tw n).mir = none) ∧
    (∃ (s : State) (n : Port), s.silenceOrders n = true ∧ s.mayOwn = true ∧ s.inf (pCC n) CC.CFG_DB_CLAMP = 0 ∧ (s.tw n).mir.isSome = true) ∧
    (∃ (s : State) (n : Port) (key : BitVec 16), s.Takes pTWIN ∧ key.toNat = 0x7A4C ∧ s.shadowing n = true ∧ s.mayOwn = true ∧ s.inf (pCC n) CC.CFG_DB_CLAMP = 0 ∧ (s.tw n).mir.isSome = true) ∧
    (∃ (s : State) (n : Port), s.fw = true ∧ s.fld pTWIN TWIN.LAST_TKO_PORT = n.val ∧ s.ccState n = .attachedSrc ∧ s.fld pTWIN TWIN.LAST_TKO_CAUSE = 3 ∧ s.flag pTWIN TWIN.LAST_TKO_STALE = true ∧ s.snapValid n = false ∧ s.MaySend n) ∧
    (∃ (s : State) (n : Port), s.shadowing n = true ∧ s.ccState n = .disabled ∧ s.inf (pCC n) PG.CTRL_ENABLE = 1 ∧ s.flag pTWIN TWIN.CFG_HOT = true ∧ s.mirValid n = true ∧ s.guardState n = 0 ∧ s.enabled (pGUARD n) = true) ∧
    (∃ (s : State) (n : Port), s.fw = true ∧ s.twinned n = true ∧ s.locked (pCC n) = false ∧ (s.tw n).mir = none ∧ s.mayOwn = true ∧ s.flag pTWIN TWIN.CFG_PREF_OWNER = true) ∧
    (∃ (s : State) (n : Port), s.fw = true ∧ s.twinned n = true ∧ s.locked (pCC n) = false ∧ s.flag pTWIN TWIN.CFG_PREF_OWNER = false) ∧
    (∃ (s : State) (n : Port), s.fw = true ∧ s.mustYield n = true ∧ s.locked (pCC n) = false) ∧
    (∃ (s : State), s.fw = true ∧ s.places = true ∧ s.linkUp 2 = true ∧ s.stNat (txfAt 60 + 269) 1 ≠ 1) :=
  ⟨⟨(ringUp.put (pHG 2) HG.PG_STAT_STATE 2).put pTWIN TWIN.CFG_PORTS 1, by decide⟩,
   ⟨run, 0x500, by decide⟩,
   ⟨viaIn ringUp, 0, ⟨by decide, by decide, viaIn_checks, by decide⟩⟩,
   ⟨shadow, 0, by decide⟩,
   ⟨shadow.modTw 0 (fun t => { t with mir := none }), 0, by decide⟩,
   ⟨(shadow.put (pHG 2) HG.PG_STAT_SILENT_TK 3).put (pMEAS 0) MEAS.VBUS_AVG 5000, 0, by decide⟩,
   ⟨shadow, 0, 0x7A4C, by decide⟩,
   ⟨((guardSrc 3).put pTWIN TWIN.LAST_TKO_CAUSE 3).put pTWIN TWIN.LAST_TKO_STALE 1, 0, by decide⟩,
   ⟨(shadow.put pTWIN TWIN.CFG_HOT 1).put (pGUARD 0) GUARD.PG_CTRL_ENABLE 1, 0, by decide⟩,
   ⟨(run.put pTWIN TWIN.CFG_PORTS 1).put pTWIN TWIN.CFG_PREF_OWNER 1, 0, by decide⟩,
   ⟨run.put pTWIN TWIN.CFG_PORTS 1, 0, by decide⟩,
   ⟨((shadow.put (pCC 0) CC.PG_STAT_TWIN_MODE 1).put pTWIN TWIN.CFG_PORTS 1).modTw 0 (fun _ => { mir := some [8, 64, 0, 5], claim := some 0, yields := false }), 0, by decide⟩,
   ⟨run.put (pHG 2) HG.PG_STAT_STATE 2, by decide⟩⟩

theorem witness_GaugeCommandsComplete :
    (∃ (s : State) (code : BitVec 16), s.ccRuns = true ∧ code ≠ 0x7FFF ∧ code ≠ 0x8000) ∧
    (∃ (s : State) (code : BitVec 16), s.ccRuns = true ∧ code ≠ 0x7FFF ∧ code ≠ 0x8000) ∧
    (∃ (s : State) (code : BitVec 16), s.ccRuns = true ∧ code = 0x7FFF) ∧
    (∃ (s : State) (mv : Nat), s.live = true ∧ s.enabled pGAUGE = true ∧ s.cells ≠ 0 ∧ s.gauge.overTick = none) ∧
    (∃ (s : State) (mv bid : Nat) (temp : Int), s.live = true ∧ s.enabled pGAUGE = true ∧ s.cells ≠ 0 ∧ -440 ≤ temp ∧ temp ≤ 1400 ∧ bid < 15000 ∧ s.fld pBATID BATID.CFG_DETECT = 0 ∧ s.gauge.present = 2) ∧
    (∃ (s : State), s.fw = true ∧ s.cells ≠ 0 ∧ s.cellOk = false) ∧
    (∃ (s : State), s.fw = true ∧ s.enabled pGAUGE = true ∧ s.cellOk = false) ∧
    (∃ (s : State), s.fw = true ∧ s.flag pSUP SUP.PG_STAT_NV_STABLE = true ∧ s.gauge.forget = false ∧ s.flag pLEARN LEARN.PENDING_PEND = true ∧ s.nvdOp.isSome = true) ∧
    (∃ (s : State), s.fw = true ∧ s.flag pSUP SUP.PG_STAT_NV_STABLE = true ∧ s.gauge.forget = false ∧ s.flag pLEARN LEARN.PENDING_PEND = true ∧ s.nvdOp = none ∧ s.nvdProtected (8 + s.slotInUse) false = false ∧ s.eraseOk = true) ∧
    (∃ (s : State) (k : Nat), s.live = true ∧ s.flag pBATID BATID.STAT_PRESENT = false ∧ 3 ≤ s.gauge.present ∧ s.slotOf (s.fld pBATID BATID.BID_OHM) = some k ∧ s.fw = true ∧ s.gauge.wake = false) ∧
    (∃ (s : State), s.live = true ∧ s.flag pBATID BATID.STAT_PRESENT = false ∧ 3 ≤ s.gauge.present ∧ s.slotOf (s.fld pBATID BATID.BID_OHM) = none ∧ s.fw = true ∧ s.gauge.wake = false) ∧
    (∃ (s : State), s.fw = true ∧ s.flag pBATID BATID.STAT_PRESENT = true ∧ 2 ≤ s.gauge.absent) ∧
    (∃ (s : State) (bid : Nat) (temp : Int), s.phase = .sleep ∧ 15000 ≤ bid ∧ temp < -440) ∧
    (∃ (s : State) (key : BitVec 16), s.Takes pBATID ∧ key.toNat = 0x1F93) ∧
    (∃ (s : State) (key : BitVec 16), s.Takes pLEARN ∧ key.toNat = 0xC47A ∧ s.fld pLEARN LEARN.STAT_STATE = 1) ∧
    (∃ (s : State) (key : BitVec 16), s.Takes pLEARN ∧ key.toNat = 0xC47A ∧ s.fld pLEARN LEARN.STAT_STATE ≠ 1) :=
  ⟨⟨run.put pGAUGE GAUGE.CFG_CC_EN 1, 0xFFFE, by decide⟩,
   ⟨run.put pGAUGE GAUGE.CFG_CC_EN 1, 0xFFFE, by decide⟩,
   ⟨run.put pGAUGE GAUGE.CFG_CC_EN 1, 0x7FFF, by decide⟩,
   ⟨pack, 7400, by decide⟩,
   ⟨(pack.modGauge (fun g => { g with present := 2 })).put pBATID BATID.CFG_DETECT 0, 7400, 100, 200, by decide⟩,
   ⟨pack, by decide⟩,
   ⟨pack, by decide⟩,
   ⟨{ (run.put pLEARN LEARN.PENDING_PEND 1).put pSUP SUP.PG_STAT_NV_STABLE 1 with nvdOp := some (.read 0) }, by decide⟩,
   ⟨{ (run.put pLEARN LEARN.PENDING_PEND 1).put pSUP SUP.PG_STAT_NV_STABLE 1 with pins := { run.pins with vsysMv := 4000 } }, by decide⟩,
   ⟨(run.modGauge (fun g => { g with present := 3, wake := false })).put pBATID (BATID.SLOT_WIN_MAX.at 1) 65535, 1, by decide⟩,
   ⟨run.modGauge (fun g => { g with present := 3, wake := false }), by decide⟩,
   ⟨(run.modGauge (fun g => { g with absent := 2 })).put pBATID BATID.STAT_PRESENT 1, by decide⟩,
   ⟨{ run with phase := .sleep }, 15000, (-441), by decide⟩,
   ⟨run.put pBATID BATID.STAT_SWAP_SEEN 1, 0x1F93, by decide⟩,
   ⟨run.put pLEARN LEARN.STAT_STATE 1, 0xC47A, by decide⟩,
   ⟨run.put pGAUGE GAUGE.DESIGN_CAP 5000, 0xC47A, by decide⟩⟩

theorem witness_HostReadsAndWritesComplete :
    (∃ (s : State) (node page off : BitVec 8), s.hostOn = true ∧ s.host.wait = none ∧ s.pecReq = false ∧ node.toNat < 128) ∧
    (∃ (s : State) (node page off : BitVec 8), s.hostOn = true ∧ s.host.wait = none ∧ s.pecReq = true ∧ node.toNat < 128) ∧
    (∃ (s : State) (node page off : BitVec 8), s.hostOn = true ∧ s.host.wait = none ∧ 128 ≤ node.toNat) ∧
    (∃ (s : State), s.hostOn = true ∧ s.host.wait = none) ∧
    (∃ (s : State) (n : BitVec 8), s.hostOn = true ∧ s.host.wait = none ∧ s.host.posted = none ∧ s.winLocal = true ∧ 4 ≤ n.toNat ∧ n.toNat ≤ 252 ∧ n.toNat % 4 = 0) ∧
    (∃ (s : State) (n : BitVec 8), s.hostOn = true ∧ s.host.wait = none ∧ s.host.posted = none ∧ s.winLocal = false ∧ s.winRemote = false ∧ 4 ≤ n.toNat ∧ n.toNat ≤ 252 ∧ n.toNat % 4 = 0) ∧
    (∃ (s : State), s.hostOn = true ∧ s.host.wait = none ∧ s.host.posted = none ∧ s.winLocal = true ∧ s.winPage = 0 ∧ s.winOff = 0) ∧
    (∃ (s : State) (v : Word), s.hostOn = true ∧ s.host.wait = none ∧ s.host.posted = none ∧ s.winLocal = true ∧ s.winPage = pGPIO ∧ s.winOff = GPIO.OUT_LEVEL.off ∧ s.pecReq = false ∧ s.locked pGPIO = false ∧ s.resetting pGPIO = false) ∧
    (∃ (s : State) (b0 b1 b2 b3 : BitVec 8), s.hostOn = true ∧ s.host.wait = none ∧ s.host.posted = none ∧ s.winLocal = true ∧ s.winPage = pGPIO ∧ s.winOff = GPIO.OUT_LEVEL.off ∧ s.pecReq = false ∧ s.locked pGPIO = false ∧ s.resetting pGPIO = false) ∧
    (∃ (s : State) (n : BitVec 8) (data : List (BitVec 8)), s.hostOn = true ∧ s.host.wait = none ∧ s.host.posted = none ∧ n.toNat % 4 ≠ 0) ∧
    (∃ (s : State), s.hostOn = true ∧ s.host.wait = none) ∧
    (∃ (s : State) (off : BitVec 24) (b0 b1 b2 b3 : BitVec 8), s.hostOn = true ∧ s.host.wait = none ∧ s.host.posted = none ∧ s.pecReq = false ∧ s.flag pHOST HOST.CFG_STORE_WR = true ∧ storeOff off.toNat + 4 ≤ storeTop) ∧
    (∃ (s : State) (off : BitVec 24) (b0 b1 b2 b3 : BitVec 8), s.hostOn = true ∧ s.host.wait = none ∧ s.host.posted = none ∧ s.pecReq = false ∧ s.flag pHOST HOST.CFG_STORE_WR = false ∧ storeOff off.toNat + 4 ≤ storeTop) ∧
    (∃ (s : State) (off : BitVec 24) (l : BitVec 8), s.hostOn = true ∧ s.host.wait = none ∧ s.host.posted = none ∧ 4 ≤ l.toNat ∧ l.toNat ≤ 252 ∧ l.toNat % 4 = 0 ∧ storeOff off.toNat + l.toNat ≤ storeTop ∧ s.stBadIn (storeOff off.toNat) l.toNat = false) ∧
    (∃ (s : State) (off : BitVec 32) (data : List (BitVec 8)), s.hostOn = true ∧ s.host.wait = none ∧ s.host.posted = none ∧ s.pecReq = false ∧ 1 ≤ data.length ∧ data.length ≤ 240) ∧
    (∃ (s : State), s.hostOn = true ∧ s.host.wait = none ∧ s.host.posted = none ∧ s.pecReq = false ∧ s.updRefuse ≠ 0) ∧
    (∃ (s : State), s.hostOn = true ∧ s.host.wait = none ∧ s.pecReq = false) ∧
    (∃ (s : State), s.hostOn = true ∧ s.host.wait = none ∧ s.pecReq = false) :=
  ⟨⟨hostUp, 0x7F, 9, 0x43, by decide⟩,
   ⟨hostUp.put pHOST HOST.CFG_PEC_REQ 1, 0x7F, 9, 0x43, by decide⟩,
   ⟨hostUp, 0x80, 9, 0x43, by decide⟩,
   ⟨hostUp, by decide⟩,
   ⟨hostUp, 252, by decide⟩,
   ⟨hostUp.put pHOST HOST.WINDOW_NODE 9, 8, by decide⟩,
   ⟨hostUp, by decide⟩,
   ⟨(hostUp.put pHOST HOST.WINDOW_PAGE pGPIO).put pHOST HOST.WINDOW_OFFSET GPIO.OUT_LEVEL.off, 0x123, by decide⟩,
   ⟨(hostUp.put pHOST HOST.WINDOW_PAGE pGPIO).put pHOST HOST.WINDOW_OFFSET GPIO.OUT_LEVEL.off, 1, 2, 3, 4, by decide⟩,
   ⟨hostUp, 5, [1, 2, 3, 4, 5], by decide⟩,
   ⟨hostUp, by decide⟩,
   ⟨hostUp.put pHOST HOST.CFG_STORE_WR 1, 0x1235, 1, 2, 3, 4, by decide⟩,
   ⟨hostUp.put pHOST HOST.CFG_STORE_WR 0, 0x1235, 1, 2, 3, 4, by decide⟩,
   ⟨hostUp, 0x1235, 8, by decide⟩,
   ⟨hostUp, 0x100, [1, 2], by decide⟩,
   ⟨hostUp.put pSYS SYS.MOTION_SET 1, by decide⟩,
   ⟨hostUp, by decide⟩,
   ⟨hostUp, by decide⟩⟩

theorem witness_HostWaitsNotifiesAndProxiesComplete :
    (∃ (s : State) (us : BitVec 16), s.host.wait = some (.posted (.readWord false none)) ∧ s.pecReq = false) ∧
    (∃ (s : State) (r : RRead), s.host.held = some r ∧ r.tick + 2000 ≤ s.tick) ∧
    (∃ (s : State), s.live = true ∧ s.host.wait = none ∧ s.host.onBus = false) ∧
    (∃ (s : State), s.live = true) ∧
    (∃ (s : State), s.live = true ∧ s.host.onBus = false ∧ s.notifyMay = true ∧ s.host.holding = false ∧ s.flag pHOST HOST.PG_STAT_NOTIFYING = false ∧ s.flag pHOST HOST.PG_STAT_FALLBACK = false ∧ s.hostRisen = true) ∧
    (∃ (s : State), s.live = true ∧ s.host.onBus = true) ∧
    (∃ (s : State), s.live = true ∧ s.host.holding = true ∧ s.host.rose = false) ∧
    (∃ (s : State), s.live = true ∧ s.host.onBus = true ∧ s.fld pHOST HOST.NOTIFY_STAT_TRIES < 8) ∧
    (∃ (s : State), s.live = true ∧ s.host.onBus = true ∧ s.fld pHOST HOST.NOTIFY_STAT_TRIES = 8) ∧
    (∃ (s : State), s.live = true ∧ s.notifier = true ∧ s.host.onBus = false ∧ s.flag pHOST HOST.PG_STAT_NOTIFYING = true ∧ s.fld pHOST HOST.NOTIFY_STAT_TRIES ≠ 0 ∧ s.hostSum ≠ 0) ∧
    (∃ (s : State), s.live = true ∧ s.notifier = true ∧ s.host.onBus = false ∧ s.flag pHOST HOST.PG_STAT_NOTIFYING = true ∧ s.fld pHOST HOST.NOTIFY_STAT_TRIES ≠ 0 ∧ s.hostSum = 0) ∧
    (∃ (s : State) (f : RxF), s.live = true ∧ s.fleet.inbox.find? (fun f => frType f.bytes == 3 || frType f.bytes == 4) = some f ∧ frType f.bytes = 3 ∧ frSrc f.bytes = s.fld pFLEET FLEET.NODES_MGR ∧ (frPayload f.bytes).take 3 = [0, 0, 1] ∧ s.ringOpen 0 = true) ∧
    (∃ (s : State) (f : RxF) (p : Proxy) (r : RRead), s.live = true ∧ s.fleet.inbox.find? (fun f => frType f.bytes == 5) = some f ∧ s.fleet.proxy = some p ∧ p.tag = frTag f.bytes ∧ p.node = frSrc f.bytes ∧ p.write = false ∧ s.host.read = some r ∧ s.host.wait = none) ∧
    (∃ (s : State) (p : Proxy), s.live = true ∧ s.fleet.proxy = some p ∧ p.write = true ∧ p.since + 20 * max 1 (s.fld pFLEET FLEET.CFG_REG_TO_MS) ≤ s.tick ∧ s.host.own = true ∧ s.host.wait = none) ∧
    (∃ (s : State) (f : RxF), s.live = true ∧ s.fleet.inbox.find? (fun f => frType f.bytes == 9) = some f ∧ s.acting = .manager ∧ frSrc f.bytes < 64) ∧
    (∃ (s : State) (key : BitVec 16), s.Takes pHOST ∧ key.toNat = 0x5B17) ∧
    (∃ (s : State) (key : BitVec 16), s.Takes pHOST ∧ key.toNat = 0x5B17 ∧ s.notifier = true ∧ s.hostSum ≠ 0 ∧ s.host.onBus = false) ∧
    (∃ (s : State), s.Takes pFLASH) :=
  ⟨⟨hostUp.modHost (fun h => { h with wait := some (.posted (.readWord false none)) }), 500, by decide⟩,
   ⟨{ hostUp.modHost (fun h => { h with held := some ⟨1, 2, 4, 1, 0, [], 0⟩ }) with tick := 2000 }, ⟨1, 2, 4, 1, 0, [], 0⟩, by decide⟩,
   ⟨hostUp, by decide⟩,
   ⟨hostUp, by decide⟩,
   ⟨hostAttn, by decide⟩,
   ⟨hostAttn.modHost (fun h => { h with onBus := true }), by decide⟩,
   ⟨hostAttn.modHost (fun h => { h with holding := true }), by decide⟩,
   ⟨hostAttn.modHost (fun h => { h with onBus := true }), by decide⟩,
   ⟨(hostAttn.modHost (fun h => { h with onBus := true })).put pHOST HOST.NOTIFY_STAT_TRIES 8, by decide⟩,
   ⟨(hostAttn.put pHOST HOST.PG_STAT_NOTIFYING 1).put pHOST HOST.NOTIFY_STAT_TRIES 2, by decide⟩,
   ⟨(hostUp.put pHOST HOST.PG_STAT_NOTIFYING 1).put pHOST HOST.NOTIFY_STAT_TRIES 2, by decide⟩,
   ⟨(got ringUp [3, 5, 9, 4, 4, 9, 0, 0, 0, 0, 1, 0]).put pFLEET FLEET.NODES_MGR 9, ⟨0, [3, 5, 9, 4, 4, 9, 0, 0, 0, 0, 1, 0], 0⟩, by decide⟩,
   ⟨((got ringUp [5, 5, 9, 4, 4, 9, 0, 0, 0, 0, 1, 0, 7, 0, 0, 0]).modFleet (fun f => { f with proxy := some ⟨2, 9, 3, 4, false, [], 1, 0⟩ })).modHost (fun h => { h with read := some ⟨9, 3, 4, 1, 0, [], 0⟩ }), ⟨0, [5, 5, 9, 4, 4, 9, 0, 0, 0, 0, 1, 0, 7, 0, 0, 0], 0⟩, ⟨2, 9, 3, 4, false, [], 1, 0⟩, ⟨9, 3, 4, 1, 0, [], 0⟩, by decide⟩,
   ⟨{ (hostUp.modFleet (fun f => { f with proxy := some ⟨2, 9, 3, 4, true, [1], 1, 0⟩ })).modHost (fun h => { h with own := true }) with tick := 30000 }, ⟨2, 9, 3, 4, true, [1], 1, 0⟩, by decide⟩,
   ⟨got man [9, 5, 9, 4, 4, 9, 0, 0, 2, 0, 0, 0], ⟨0, [9, 5, 9, 4, 4, 9, 0, 0, 2, 0, 0, 0], 0⟩, by decide⟩,
   ⟨hostUp.put pHOST HOST.ERR_CNT_PEC 3, 0x5B17, by decide⟩,
   ⟨hostAttn, 0x5B17, by decide⟩,
   ⟨run, by decide⟩⟩

theorem witness_HostUpdateCommandsComplete :
    (∃ (s : State) (v : Word) (w : Nat), s.live = true ∧ s.host.posted = some (.block 4) ∧ s.host.own = true ∧ s.host.wait = none ∧ s.updRefuse = 0 ∧ s.eraseOk = true ∧ s.fld pUPD UPD.STAT_SESSION = 1 ∧ w < 131072 ∧ s.stNat 0xDB000 4 = 4 * w ∧ s.stRead 0xDB004 4 = leBytes 4 v.toNat ∧ s.mapGet maskAt w = false ∧ s.mapGet marksAt (w / 1024) = false ∧ s.st.bad = []) ∧
    (∃ (s : State) (n : Nat), s.live = true ∧ s.host.posted = some (.block n) ∧ s.host.own = true ∧ s.host.wait = none ∧ s.updRefuse ≠ 0) ∧
    (∃ (s : State) (m : ImgSess), s.upd.img = some m ∧ s.live = true ∧ m.last + 200000 ≤ s.tick) ∧
    (∃ (s : State) (key : BitVec 16), s.Takes pUPD ∧ key.toNat = 0xA17E) ∧
    (∃ (s : State) (key : BitVec 16), s.Takes pUPD ∧ key.toNat = 0xA17E ∧ s.updRefuse = 0 ∧ s.bankState s.idleBank = .staged) ∧
    (∃ (s : State) (key : BitVec 16), s.Takes pUPD ∧ key.toNat = 0xA17E ∧ s.updRefuse = 0 ∧ s.bankState s.idleBank ≠ .staged) ∧
    (∃ (s : State) (switch : Bool) (key : BitVec 16), s.Takes pUPD ∧ key.toNat = 0xA17E ∧ s.nvOk = true ∧ s.bankState s.activeBank = .trial) ∧
    (∃ (s : State) (key : BitVec 16), s.Takes pUPD ∧ key.toNat = 0xA17E ∧ s.acting = .manager ∧ s.role ≠ .solo) ∧
    (∃ (s : State) (key : BitVec 16), s.Takes pUPD ∧ key.toNat = 0xA17E ∧ s.lockBit LOCK.STICKY_OWNER_FLAG = false ∧ s.eraseOk = true) ∧
    (∃ (s : State) (v : BitVec 64) (key : BitVec 16), s.Takes pUPD ∧ key.toNat = 0xA17E) ∧
    (∃ (s : State) (key : BitVec 16) (code : Nat), s.Takes pUPD ∧ key.toNat = 0xA17E ∧ s.eraseOk = true ∧ code = s.tokCheck pUPD 0x60 2 (fun owner => owner) s.upd.challenge s.upd.issued) ∧
    (∃ (s : State) (key : BitVec 16), s.Takes pUPD ∧ key.toNat = 0xA17E ∧ s.lockBit LOCK.STICKY_DBG_REQ = false ∧ s.dbg.fails < 4 ∧ s.flag pID ID.IDENT_STAT_VALID = false) ∧
    (∃ (s : State) (t0 : Nat), s.upd.trialEnd = some t0 ∧ s.live = true ∧ t0 ≤ s.tick) ∧
    (∃ (s : State), s.fw = true ∧ s.Takes pUPD ∧ s.bankState s.activeBank = .trial ∧ s.upd.entryTick + 200000 ≤ s.tick ∧ s.nvOk = true ∧ s.role = .solo ∧ s.boot.now.cfgB = false ∧ s.cfgMarked 3 = false ∧ s.cfgMarked 2 = true) ∧
    (∃ (s : State) (d : Dist), s.upd.dist = some d ∧ d.stage = 0 ∧ s.fw = true ∧ s.acting = .manager ∧ s.stNat (txfAt 49 + 269) 1 ≠ 1) :=
  ⟨⟨({ upd with store := [(0xDB000, 12), (0xDB004, 9)] }).modHost (fun h => { h with posted := some (.block 4), own := true }) |>.put pUPD UPD.STAT_SESSION 1, 9, 3, by decide⟩,
   ⟨(upd.put pSYS SYS.MOTION_SET 1).modHost (fun h => { h with posted := some (.block 4), own := true }), 4, by decide⟩,
   ⟨{ upd with upd := { run.upd with img := some ⟨1, 512, 0, 0⟩ }, tick := 200000 }, ⟨1, 512, 0, 0⟩, by decide⟩,
   ⟨upd.put pUPD UPD.STAT_SESSION 1, 0xA17E, by decide⟩,
   ⟨{ upd with boot := { run.boot with now := { run.boot.now with b := ⟨.staged, 0⟩ } } }, 0xA17E, by decide⟩,
   ⟨upd, 0xA17E, by decide⟩,
   ⟨{ upd with boot := { run.boot with now := { run.boot.now with a := ⟨.trial, 1⟩ } } }, true, 0xA17E, by decide⟩,
   ⟨man, 0xA17E, by decide⟩,
   ⟨upd, 0xA17E, by decide⟩,
   ⟨upd, 0x123456789ABCDEF0, 0xA17E, by decide⟩,
   ⟨{ upd with pins := { run.pins with vsysMv := 4000 } }, 0xA17E, 3, by decide⟩,
   ⟨upd, 0xA17E, by decide⟩,
   ⟨{ upd with upd := { run.upd with trialEnd := some 0 } }, 0, by decide⟩,
   ⟨confirmable, ⟨by decide, by decide, by decide, by decide, by decide, by decide, by decide, by decide, confirmable_marked⟩⟩,
   ⟨{ man with upd := { run.upd with dist := some ⟨0, 7, 512, 1, [3], [], none, [], [], [], 0⟩ } }, ⟨0, 7, 512, 1, [3], [], none, [], [], [], 0⟩, by decide⟩⟩

set_option maxRecDepth 20000 in
theorem witness_FleetUpdateCommandsComplete :
    (∃ (s : State) (entry : Fin 64), s.live = true ∧ s.rxType entry.val = 0xB ∧ (s.rxPayload entry.val).length = 24 ∧ byteAt (s.rxPayload entry.val) 0 = 1 ∧ s.stChecks (rxfAt entry.val) 512 = true ∧ s.assigned = true ∧ bitAt (numAt (s.rxPayload entry.val) 16 8) s.node = true ∧ s.fld pUPD UPD.STAT_SESSION = 0 ∧ s.updRefuse = 0 ∧ s.eraseOk = true) ∧
    (∃ (s : State) (entry : Fin 64), s.live = true ∧ s.rxType entry.val = 0xB ∧ (s.rxPayload entry.val).length = 24 ∧ byteAt (s.rxPayload entry.val) 0 = 1 ∧ s.stChecks (rxfAt entry.val) 512 = true ∧ s.assigned = true ∧ bitAt (numAt (s.rxPayload entry.val) 16 8) s.node = true ∧ s.updRefuse ≠ 0 ∧ s.fld pUPD UPD.STAT_SESSION ≤ 2) ∧
    (∃ (s : State) (entry : Fin 64) (m : ImgSess), s.live = true ∧ s.rxType entry.val = 0xB ∧ (s.rxPayload entry.val).length = 8 ∧ byteAt (s.rxPayload entry.val) 0 = 2 ∧ s.stChecks (rxfAt entry.val) 512 = true ∧ s.upd.named = true ∧ s.upd.img = some m) ∧
    (∃ (s : State) (entry : Fin 64) (m : ImgSess) (k : Fin 64), s.live = true ∧ s.rxType entry.val = 0xB ∧ (s.rxPayload entry.val).length = 256 ∧ bitAt (s.stNat (rxfAt entry.val) 1) 4 = true ∧ s.stChecks (rxfAt entry.val) 512 = true ∧ s.upd.named = true ∧ s.upd.img = some m ∧ s.updRefuse = 0 ∧ s.fld pUPD UPD.STAT_SESSION = 2 ∧ s.eraseOk = true ∧ s.st.bad = [] ∧ m.sect < 32 ∧ s.stNat (maskAt + 8 * (64 * m.sect + bitsOf (s.stNat (rxfAt entry.val + 1) 1) 0 6)) 8 = 0 ∧ s.mapGet marksAt ((64 * m.sect + bitsOf (s.stNat (rxfAt entry.val + 1) 1) 0 6) / 16) = false) ∧
    (∃ (s : State) (entry : Fin 64), s.live = true ∧ s.rxType entry.val = 0xB ∧ (s.rxPayload entry.val).length = 4 ∧ byteAt (s.rxPayload entry.val) 0 = 3 ∧ s.stChecks (rxfAt entry.val) 512 = true ∧ s.upd.named = true ∧ s.upd.img = none) ∧
    (∃ (s : State) (entry : Fin 64), s.live = true ∧ s.rxType entry.val = 0xB ∧ (s.rxPayload entry.val).length = 4 ∧ byteAt (s.rxPayload entry.val) 0 = 4 ∧ s.stChecks (rxfAt entry.val) 512 = true ∧ s.upd.named = true ∧ s.upd.img = none ∧ s.updRefuse ≠ 0) ∧
    (∃ (s : State) (entry : Fin 64), s.fw = true ∧ s.rxType entry.val = 0xB ∧ (s.rxPayload entry.val).length = 4 ∧ byteAt (s.rxPayload entry.val) 0 = 4 ∧ s.stChecks (rxfAt entry.val) 512 = true ∧ s.upd.named = true ∧ s.updRefuse = 0 ∧ s.fld pUPD UPD.STAT_SESSION = 2 ∧ s.pageHere 0 = true ∧ s.pageHere 1 = true ∧ s.hdrOk s.idleBank = true ∧ s.hdrNat s.idleBank 8 4 = 512) ∧
    (∃ (s : State) (entry : Fin 64), s.live = true ∧ s.rxType entry.val = 0xB ∧ (s.rxPayload entry.val).length = 4 ∧ byteAt (s.rxPayload entry.val) 0 = 5 ∧ s.stChecks (rxfAt entry.val) 512 = true ∧ s.upd.named = true ∧ s.updRefuse = 0 ∧ s.bankState s.idleBank = .staged) ∧
    (∃ (s : State) (entry : Fin 64), s.live = true ∧ s.rxType entry.val = 0xB ∧ (s.rxPayload entry.val).length = 4 ∧ byteAt (s.rxPayload entry.val) 0 = 6 ∧ s.stChecks (rxfAt entry.val) 512 = true ∧ s.upd.named = true ∧ s.fld pUPD UPD.STAT_SESSION = 2) ∧
    (∃ (s : State) (e : Nat) (l : List Nat), s.upd.reports = e :: l ∧ s.live = true ∧ s.role = .worker ∧ s.acting = .worker ∧ s.stNat (txfAt 48 + 269) 1 ≠ 1) :=
  ⟨⟨entryIn upd (rxfAt 0) imgStartD, 0, ⟨by decide, by decide, by decide, by decide, entryOk _ _ imgStartD crc_imgStartD (by decide), by decide⟩⟩,
   ⟨entryIn (upd.put pSYS SYS.MOTION_SET 1) (rxfAt 0) imgStartD, 0, ⟨by decide, by decide, by decide, by decide, entryOk _ _ imgStartD crc_imgStartD (by decide), by decide⟩⟩,
   ⟨entryIn inSess (rxfAt 0) imgSectD, 0, ⟨1, 512, 0, 0⟩, ⟨by decide, by decide, by decide, by decide, entryOk _ _ imgSectD crc_imgSectD (by decide), by decide⟩⟩,
   ⟨entryIn inSess (rxfAt 0) imgDataD, 0, ⟨1, 512, 0, 0⟩, 5, ⟨by decide, by decide, by rw [rxPayload_length]; decide, by decide, entryOk _ _ imgDataD crc_imgDataD (by decide), by decide⟩⟩,
   ⟨{ entryIn upd (rxfAt 0) imgEndD with upd := { run.upd with named := true } }, 0, ⟨by decide, by decide, by decide, by decide, entryOk _ _ imgEndD crc_imgEndD (by decide), by decide⟩⟩,
   ⟨{ entryIn (upd.put pSYS SYS.MOTION_SET 1) (rxfAt 0) imgCommitD with upd := { run.upd with named := true } }, 0, ⟨by decide, by decide, by decide, by decide, entryOk _ _ imgCommitD crc_imgCommitD (by decide), by decide⟩⟩,
   ⟨wholeImg, 0, ⟨by decide, by decide, by decide, by decide, wholeImg_checks, by decide⟩⟩,
   ⟨{ entryIn upd (rxfAt 0) imgActD with upd := { run.upd with named := true }, boot := { run.boot with now := { run.boot.now with b := ⟨.staged, 0⟩ } } }, 0, ⟨by decide, by decide, by decide, by decide, entryOk _ _ imgActD crc_imgActD (by decide), by decide⟩⟩,
   ⟨entryIn inSess (rxfAt 0) imgAbortD, 0, ⟨by decide, by decide, by decide, by decide, entryOk _ _ imgAbortD crc_imgAbortD (by decide), by decide⟩⟩,
   ⟨{ (man.put pSYS SYS.PG_STAT_ROLE 1).put pSYS SYS.PG_STAT_ACTING 1 with upd := { run.upd with reports := [1] } }, 1, [], by decide⟩⟩

end Sys2Proof.Tests
end

section
/-!
PROOFS. The register map (chapter 2): the pages of Table 2.9 (R39), the TEST page (R40) and accesses of more than one word (R48).
-/

namespace Sys2Proof.Machine

/-! ### The page map -/

/-- The rows of Table 2.9 stand in ascending order and share no page number. -/
theorem pageMap_ascending : pageMap.Pairwise fun a b => a.base + a.count ≤ b.base := by decide

/-- A page number within a row of Table 2.9 belongs to that row. -/
theorem pageRow_of_mem {r : PageRow} {i : Nat} (hr : r ∈ pageMap) (hi : i < r.count) : pageRow (r.base + i) = some r := by
  have key : ∀ l : List PageRow, l.Pairwise (fun a b => a.base + a.count ≤ b.base) → r ∈ l →
      l.find? (fun x => decide (x.base ≤ r.base + i) && decide (r.base + i < x.base + x.count)) = some r := by
    intro l hl hm
    induction l with
    | nil => cases hm
    | cons a l ih =>
      obtain ⟨ha, hl⟩ := List.pairwise_cons.1 hl
      rcases List.mem_cons.1 hm with rfl | hm
      · exact List.find?_cons_of_pos (by simpa using hi)
      · have hlow : a.base + a.count ≤ r.base := ha r hm
        rw [List.find?_cons_of_neg (by simp; omega)]
        exact ih hl hm
  exact key pageMap pageMap_ascending hr

/-- A page number outside every row of Table 2.9 has none. -/
theorem pageRow_eq_none {pg : Nat} (h : ∀ r ∈ pageMap, pg < r.base ∨ r.base + r.count ≤ pg) : pageRow pg = none := by
  refine List.find?_eq_none.2 fun r hr => ?_
  have hout := h r hr
  simp only [Bool.and_eq_true, decide_eq_true_eq]
  omega

/-- A type code fits its eight bits of `PG_ID`, and a row has at most sixteen pages. -/
theorem pageMap_bounds : ∀ r ∈ pageMap, r.type < 256 ∧ r.count ≤ 16 := by decide

/-! ### Reads and writes of pages that are not there -/

variable (s : State) (rq : Req)

/-- A page number that Table 2.9 does not have reads 0 (R39). -/
theorem State.regRead_of_no_row {pg : Nat} (off : Nat) (h : pageRow pg = none) : s.regRead rq pg off = (s, 0) := by
  unfold State.regRead
  simp only [h]

/-- A page number that Table 2.9 does not have takes no write (R39). -/
theorem State.regWrite_of_no_row {pg : Nat} (off : Nat) (v : Word) (h : pageRow pg = none) : s.regWrite rq pg off v = s := by
  unfold State.regWrite
  simp only [h]

/-- A page that is shut takes no write. -/
theorem State.regWrite_of_shut {pg : Nat} {r : PageRow} (off : Nat) (v : Word) (h : pageRow pg = some r) (hs : s.pageShut r = true) :
    s.regWrite rq pg off v = s := by
  unfold State.regWrite
  simp only [h, hs, Bool.or_true, if_true]

/-- Beside `PG_ID`, the TEST page reads 0 while debug is not OPEN (R40). -/
theorem State.regRead_test_closed {pg : Nat} {r : PageRow} {off : Nat} (h : pageRow pg = some r) (hk : r.kind = .test) (hd : s.dbgOpen = false)
    (ho : 4 ≤ off % 256) : s.regRead rq pg off = (s, 0) := by
  have hoff : off % 256 / 4 * 4 ≠ 0 := by omega
  unfold State.regRead
  simp only [h, hk, hd, ne_eq, hoff, not_false_eq_true, and_self, if_true, ite_self]

/-! ### `PG_ID` -/

/-- A frozen page shows its present `PG_ID`: a snapshot holds no bit of it. -/
theorem State.view_pgId (r : PageRow) (pg : Nat) : s.view r pg 0 = BitVec.ofNat 32 (2 ^ 24 * r.type + 65536 * (pg - r.base) + 0x100) := by
  have hmask : capMask r 0 = 0#32 := rfl
  unfold State.view
  simp only [hmask, BitVec.and_zero, BitVec.zero_or, BitVec.not_zero, BitVec.and_allOnes, ite_self, State.shown, if_true]

/-- `PG_ID` of a page that is there reads its row's type code and its number within the row, whoever asks, in a reset of the page too. -/
theorem State.regRead_pgId {pg : Nat} {r : PageRow} {off : Nat} (h : pageRow pg = some r) (hl : s.live = true) (ha : s.pageAbsent r = false)
    (ho : off % 256 < 4) : (s.regRead rq pg off).2 = BitVec.ofNat 32 (2 ^ 24 * r.type + 65536 * (pg - r.base) + 0x100) := by
  have hoff : off % 256 / 4 * 4 = 0 := by omega
  unfold State.regRead
  simp only [hoff, h, hl, ha, s.view_pgId]
  simp

/-! ### The statements of R39 and R40 -/

/-- Settles O14: a read and a write of the TEST page stop at the debug latch before they reach a register, but for the read of `PG_ID`. -/
theorem testPageReadsZeroUnlessOpen : Obligations.TestPageReadsZeroUnlessOpen := by
  unfold Obligations.TestPageReadsZeroUnlessOpen
  intro s hclosed rq off v
  obtain ⟨r, hrow, hkind, hid⟩ : ∃ r, pageRow 0xF0 = some r ∧ r.kind = .test ∧
      BitVec.ofNat 32 (2 ^ 24 * r.type + 65536 * (0xF0 - r.base) + 0x100) = 0xF0000100 := ⟨_, rfl, rfl, rfl⟩
  have hd : s.dbgOpen = false := by simpa [State.dbgOpen] using hclosed
  have hpresent : s.pageAbsent r = false := by simp [State.pageAbsent, hkind]
  have hshut : s.pageShut r = true := by simp [State.pageShut, hkind, hd]
  refine ⟨s.regRead_test_closed rq hrow hkind hd, fun hl ho => ?_, s.regWrite_of_shut rq off v hrow hshut⟩
  rw [s.regRead_pgId rq hrow hl hpresent ho, hid]

/-- Settles O15: the table of the statement is the page map, whose rows are disjoint, and its ranges of absent pages are the gaps between them. -/
theorem pageMapIsTable29 : Obligations.PageMapIsTable29 := by
  unfold Obligations.PageMapIsTable29
  intro table absent
  have htable : table = pageMap.map fun r => (r.base, r.count, r.type) := rfl
  have hgaps : ∀ a ∈ absent, ∀ r ∈ pageMap, a.2 < r.base ∨ r.base + r.count ≤ a.1 := by decide
  have hcover : ∀ pg < 256, (∃ r ∈ table, r.1 ≤ pg ∧ pg < r.1 + r.2.1) ∨ ∃ a ∈ absent, a.1 ≤ pg ∧ pg ≤ a.2 := by
    simp only [table, absent, List.exists_mem_cons_iff, List.not_mem_nil, false_and, exists_false, or_false]
    omega
  refine ⟨fun s rq hl hx => ?_, fun s rq off v a ha pg hlo hhi => ?_, hcover⟩
  · rw [htable, List.forall_mem_map]
    intro r hr i hi
    obtain ⟨htype, hcount⟩ := pageMap_bounds r hr
    have hpresent : s.pageAbsent r = false := by simp [State.pageAbsent, hx]
    rw [s.regRead_pgId rq (pageRow_of_mem hr hi) hl hpresent (by decide), BitVec.toNat_ofNat]
    dsimp only at hi ⊢
    omega
  · have hnone : pageRow pg = none := pageRow_eq_none fun r hr => by
      have hgap := hgaps a ha r hr
      omega
    exact ⟨s.regRead_of_no_row rq off hnone, s.regWrite_of_no_row rq off v hnone⟩

end Sys2Proof.Machine
end

section
/-!
PROOFS. Accesses of more than one word (R48) and the block commands of the host bus through a window on this device (R405, R406).
-/

namespace Sys2Proof.Machine

variable (s : State) (rq : Req)

/-! ### What a read leaves alone -/

/-- A read of `AOS_DATA` advances its window and leaves every other register. -/
theorem State.aosAccess_none_same {P : Nat → Nat → Prop} {s0 s : State} (h : Same P s0 s) (haos : P pAON AON.AOS_ADDR_WORD.off) :
    Same P s0 (s.aosAccess none).1 :=
  State.incr_same _ _ h haos

/-- A read changes the register it reads only where that has an RC field (R11), and beside it only the windows `AOS_ADDR` and `RD_ADDR`. -/
theorem State.regRead_same_of_rc {P : Nat → Nat → Prop} (pg off : Nat)
    (hrc : ∀ r x, pageRow pg = some r → r.reg (off % 256 / 4 * 4) = some x → x.rc ≠ 0 → P pg (off % 256 / 4 * 4))
    (haos : P pAON AON.AOS_ADDR_WORD.off) (hflash : P pFLASH FLASH.RD_ADDR_WORD.off) : Same P s (s.regRead rq pg off).1 := by
  have hs := Same.refl P s
  unfold State.regRead
  extract_lets word key frozen
  split
  · exact hs
  · rename_i r hrow
    extract_lets -merge -underBinder w latched rc cleared left
    have hlatched : Same P s latched := Same.ite (fun _ => hs.mk') fun _ => hs
    have hleft : Same P s left := by
      refine Same.ite (fun _ => hlatched) fun hclear => ?_
      have hP : P pg word := by
        have hne : rc ≠ 0 := fun h => hclear (by simp [h])
        cases hreg : r.reg word with
        | none => simp [rc, hreg] at hne
        | some x => exact hrc r x hrow hreg (by simpa [rc, hreg] using hne)
      have hcleared : Same P s cleared := State.wr_same _ _ _ hlatched hP
      exact Same.ite (fun _ => State.modPort_same _ _ hcleared) fun _ => hcleared
    refine Same.iteFst (fun _ => hs) fun _ => Same.iteFst (fun _ => hs) fun _ => Same.iteFst (fun _ => hs) fun _ => Same.iteFst (fun _ => hs) fun _ => ?_
    exact Same.iteFst (fun _ => State.aosAccess_none_same hleft haos) fun _ => Same.iteFst (fun _ => State.incr_same _ _ hleft hflash) fun _ => hleft

/-- `HOST.WINDOW` has no RC field and is no window that a read advances: a read by register access leaves it. -/
theorem State.rd_window_regRead (pg off : Nat) : (s.regRead rq pg off).1.rd pHOST HOST.WINDOW_OFFSET.off = s.rd pHOST HOST.WINDOW_OFFSET.off := by
  refine s.regRead_same_of_rc (P := fun pg off => regKey pg off ≠ regKey pHOST HOST.WINDOW_OFFSET.off) rq pg off (fun r x hrow hreg hne hkey => ?_)
    (by decide) (by decide) _ fun pg' off' h => h
  have hpg : pg = 0x50 ∧ off % 256 / 4 * 4 = 0x2C := by
    simp only [regKey, pHOST, HOST.WINDOW_OFFSET] at hkey
    omega
  obtain ⟨rfl, hword⟩ := hpg
  rw [hword] at hreg
  cases Option.some.inj (hrow.symm.trans (show pageRow 0x50 = some _ from rfl))
  cases Option.some.inj (hreg.symm.trans (show _ = some ⟨0x2C, 0, 0, 0, 0, 0, 0⟩ from rfl))
  exact hne rfl

/-- Nor does a read of several words. -/
theorem State.winOff_readWords (pg n off : Nat) : (s.readWords rq pg n off).1.winOff = s.winOff := by
  induction n generalizing s off with
  | zero => rfl
  | succ n ih =>
    rw [State.readWords, ih]
    unfold State.winOff State.fld
    rw [State.rd_window_regRead]

/-! ### Words of a burst, in order (R48) -/

/-- The offsets of a burst of `n` words from `off` on. -/
def burstOffsets (off n : Nat) : List Nat := (List.range n).map fun i => (off + 4 * i) % 256

/-- The first word is at the offset itself, the others follow from 4 beyond it. -/
theorem burstOffsets_succ {off : Nat} (h : off < 256) (n : Nat) : burstOffsets off (n + 1) = off :: burstOffsets ((off + 4) % 256) n := by
  rw [burstOffsets, List.range_succ_eq_map, List.map_cons, List.map_map, burstOffsets, Nat.mul_zero, Nat.add_zero, Nat.mod_eq_of_lt h]
  refine congrArg _ (List.map_congr_left fun i _ => ?_)
  dsimp only [Function.comp_apply]
  omega

/-- One read more of a burst: the state it leaves and the words read so far. -/
def readNext (rq : Req) (pg : Nat) (x : State × List Word) (off : Nat) : State × List Word :=
  ((x.1.regRead rq pg off).1, x.2 ++ [(x.1.regRead rq pg off).2])

/-- Words already read stand before those a burst reads. -/
theorem foldl_readNext (pg n : Nat) {off : Nat} (h : off < 256) (l : List Word) :
    (burstOffsets off n).foldl (readNext rq pg) (s, l) = ((s.readWords rq pg n off).1, l ++ (s.readWords rq pg n off).2) := by
  induction n generalizing s off l with
  | zero => simp [burstOffsets, State.readWords]
  | succ n ih =>
    rw [burstOffsets_succ h, List.foldl_cons, readNext, ih _ (Nat.mod_lt _ (by decide))]
    simp only [State.readWords, List.append_assoc, List.singleton_append]

/-- A burst of writes is a write of each word at its offset, in order. -/
theorem State.writeWords_eq_foldl (pg : Nat) (l : List Word) {off : Nat} (h : off < 256) :
    s.writeWords rq pg l off = ((burstOffsets off l.length).zip l).foldl (fun u x => u.regWrite rq pg x.1 x.2) s := by
  induction l generalizing s off with
  | nil => rfl
  | cons v l ih => rw [List.length_cons, burstOffsets_succ h, List.zip_cons_cons, List.foldl_cons, State.writeWords, ih _ (Nat.mod_lt _ (by decide))]

/-! ### Numbers of words and bytes -/

@[simp] theorem State.length_readWords (pg n off : Nat) : (s.readWords rq pg n off).2.length = n := by
  induction n generalizing s off with
  | zero => rfl
  | succ n ih => rw [State.readWords, List.length_cons, ih]

@[simp] theorem length_wordBytes (l : List Word) : (wordBytes l).length = 4 * l.length := by
  simp [wordBytes, List.length_flatMap, Nat.mul_comm]

theorem length_toWords : ∀ l : List Byte, (toWords l).length = l.length / 4
  | [] | [_] | [_, _] | [_, _, _] => by simp [toWords]
  | _ :: _ :: _ :: _ :: l => by
    rw [toWords, List.length_cons, length_toWords l]
    simp only [List.length_cons]
    omega

/-! ### What the host bus keeps beside the registers -/

@[simp] theorem State.modHost_host (f : HostSt → HostSt) : (s.modHost f).host = f s.host := rfl
@[simp] theorem State.fld_modHost (f : HostSt → HostSt) (pg : Nat) (g : Fld) : (s.modHost f).fld pg g = s.fld pg g := rfl

@[simp] theorem State.winOff_modHost (f : HostSt → HostSt) : (s.modHost f).winOff = s.winOff := rfl

@[simp] theorem State.winPage_heldDrop : s.heldDrop.winPage = s.winPage := rfl
@[simp] theorem State.winOff_heldDrop : s.heldDrop.winOff = s.winOff := rfl
@[simp] theorem State.winLocal_heldDrop : s.heldDrop.winLocal = s.winLocal := rfl
@[simp] theorem State.pecReq_heldDrop : s.heldDrop.pecReq = s.pecReq := rfl

@[simp] theorem State.sent_hostLoad (code cmd detail : Nat) : (s.hostLoad code cmd detail).host.sent = s.host.sent := by
  rw [State.hostLoad, State.modHost_host, State.put_host, State.put_host, State.put_host]

@[simp] theorem State.host_winStep (words : Nat) : (s.winStep words).host = s.host := by
  rw [State.winStep, State.put_host]

/-! ### A host command begins -/

/-- The state in which a command of the host bus runs when nothing holds it up: the account of stretches starts anew. -/
def State.hostStart : State := (s.modHost fun h => { h with total := 0, sent := [], stuck := false }).put pHOST HOST.STRETCH_LAST_TOTAL_US 0

/-- A command runs at once with no transaction waiting and no operation posted. -/
theorem State.hostCmd_of_free (c : HostCmd) (hon : s.hostOn = true) (hw : s.host.wait = none) (hp : s.host.posted = none) :
    s.hostCmd c = s.hostStart.hostRun c := by
  simp [State.hostCmd, State.hostStart, hon, hw, hp]

/-- The start of a command changes one register, `HOST.STRETCH`. -/
theorem State.fld_hostStart {pg : Nat} {f : Fld} (h : regKey pg f.off ≠ regKey pHOST HOST.STRETCH_LAST_TOTAL_US.off) :
    s.hostStart.fld pg f = s.fld pg f := by
  rw [State.hostStart, State.fld_put_ne _ _ h, State.fld_modHost]

@[simp] theorem State.winNode_hostStart : s.hostStart.winNode = s.winNode := s.fld_hostStart (by decide)
@[simp] theorem State.winPage_hostStart : s.hostStart.winPage = s.winPage := s.fld_hostStart (by decide)
@[simp] theorem State.winOff_hostStart : s.hostStart.winOff = s.winOff := s.fld_hostStart (by decide)

@[simp] theorem State.pecReq_hostStart : s.hostStart.pecReq = s.pecReq := by
  unfold State.pecReq State.flag
  rw [s.fld_hostStart (by decide)]

/-- The window names this device when a command runs as it did before. -/
@[simp] theorem State.winLocal_hostStart : s.hostStart.winLocal = s.winLocal := by
  have hrole : s.hostStart.role = s.role := by
    unfold State.role
    rw [s.fld_hostStart (by decide)]
  unfold State.winLocal State.assigned State.node State.flag
  rw [s.winNode_hostStart, hrole, s.fld_hostStart (by decide), s.fld_hostStart (by decide)]

/-! ### Complete transfers -/

/-- The counts of Table 16.1: 4 to 252, in words. -/
theorem badCount_eq_false {n : Nat} (h4 : 4 ≤ n) (h252 : n ≤ 252) (hn : n % 4 = 0) : badCount n = false := by
  simp only [badCount, Bool.or_eq_false_iff, decide_eq_false_iff_not, bne_eq_false_iff_eq]
  omega

/-- A read that ends without an error, its PEC read too, sends count, data and PEC and advances the window (R405). -/
theorem State.readFinish_complete (cmd : Nat) (pre head data : List Byte) (adv : Nat) :
    ∃ pec, s.readFinish cmd (some pre) head data true none true 0 0 adv =
      ((s.modHost fun h => { h with sent := head ++ data ++ [pec] }).winStep adv).hostLoad 0 cmd 0 := by
  refine ⟨byteOf (crc8 (s.addrW :: pre ++ [s.addrR] ++ head ++ data)), ?_⟩
  simp [State.readFinish, rdEnd]

/-- The window's offset advances modulo 256, and the status loaded after it leaves it. -/
theorem State.winOff_hostLoad_winStep (words code cmd detail : Nat) :
    ((s.winStep words).hostLoad code cmd detail).winOff = (s.winOff + 4 * words) % 256 := by
  unfold State.hostLoad
  rw [State.winOff, State.fld_modHost, State.fld_put_ne _ _ (by decide), State.fld_put_ne _ _ (by decide), State.fld_put_ne _ _ (by decide)]
  have hw : 2 ^ HOST.WINDOW_OFFSET.w = 256 := by decide
  rw [State.winStep, State.fld_put_same _ _ _ _ (by decide), hw]

/-- A READ_BLOCK that has its words ends with them. -/
theorem State.wordsFinish_readBlock {n : Nat} {words : List Word} (hw : (wordBytes words).length = n) :
    s.wordsFinish (.readBlock n true none) words 0 0 = s.readFinish 2 (some [0x02, byteOf n]) [byteOf n] (wordBytes words) true none true 0 0 (n / 4) := by
  have hdata : (wordBytes words ++ List.replicate n 0).take n = wordBytes words := List.take_left' hw
  rw [State.wordsFinish, HostCmd.read?]
  dsimp only
  rw [hdata, HostCmd.code]

/-- READ_BLOCK through a window on this device reads all its words (R406). -/
theorem State.hostRead_readBlock_local {n : Nat} (hc : badCount n = false) (hn : n % 4 = 0) (hl : s.winLocal = true) :
    s.hostRead (.readBlock n true none) =
      (s.heldDrop.readWords .host s.winPage (n / 4) s.winOff).1.wordsFinish (.readBlock n true none)
        (s.heldDrop.readWords .host s.winPage (n / 4) s.winOff).2 0 0 := by
  have hbegun : wordsBegun n = n / 4 := by
    unfold wordsBegun
    omega
  rw [State.hostRead, HostCmd.read?]
  dsimp only
  rw [if_neg (by simp [hc]), if_pos hl, rdEnd, hbegun]

/-- READ_BLOCK through a window on this device, to its end: a burst of reads, count, bytes and PEC sent, the window advanced (R405, R406). -/
theorem State.hostRun_readBlock_local {n : Nat} (hc : badCount n = false) (hn : n % 4 = 0) (hl : s.winLocal = true) :
    ∃ pec, s.hostRun (.readBlock n true none) =
      (((s.heldDrop.readWords .host s.winPage (n / 4) s.winOff).1.modHost fun h =>
        { h with sent := [byteOf n] ++ wordBytes (s.heldDrop.readWords .host s.winPage (n / 4) s.winOff).2 ++ [pec] }).winStep (n / 4)).hostLoad 0 2 0 := by
  have hlen : (wordBytes (s.heldDrop.readWords .host s.winPage (n / 4) s.winOff).2).length = n := by
    rw [length_wordBytes, State.length_readWords]
    omega
  rw [State.hostRun, s.hostRead_readBlock_local hc hn hl, State.wordsFinish_readBlock _ hlen]
  exact State.readFinish_complete _ _ _ _ _ _

/-- WRITE_BLOCK through a window on this device, without PEC where none is required: a burst of writes, then the status and the window (R405, R406). -/
theorem State.hostRun_writeBlock_local {n : Nat} {data : List Byte} (hc : badCount n = false) (hl : s.winLocal = true) (hp : s.pecReq = false)
    (hd : data.length = n) :
    s.hostRun (.writeBlock n data none none) = (s.heldDrop.writeWords .host s.winPage (toWords data) s.winOff).writeDone 3 (n / 4) := by
  have hwords : (toWords data).length = n / 4 := by rw [length_toWords, hd]
  rw [State.hostRun, if_neg (by simp [hc]), State.hostWrite, State.writeEnd, if_neg (by simp)]
  dsimp only
  rw [State.pecReq_heldDrop, if_neg (by simp [hp]), State.winLocal_heldDrop, if_pos hl, hwords, State.winPage_heldDrop, State.winOff_heldDrop]

/-! ### The statement of R48 -/

/-- Settles O16: a burst is its reads or writes at `burstOffsets`, by induction on the number of words, and the block commands run one such burst. -/
theorem burstsStayInThePage : Obligations.BurstsStayInThePage := by
  unfold Obligations.BurstsStayInThePage
  refine ⟨fun s rq pg n off h => ?_, fun s rq pg l off h => s.writeWords_eq_foldl rq pg l h, ?_, ?_⟩
  · exact (foldl_readNext s rq pg n h []).symm
  · intro s n hon hwait hposted hlocal h4 h252 hn u
    obtain ⟨pec, hrun⟩ := s.hostStart.hostRun_readBlock_local (badCount_eq_false h4 h252 hn) hn (s.winLocal_hostStart.trans hlocal)
    rw [State.winPage_hostStart, State.winOff_hostStart] at hrun
    refine ⟨_, congrArg Host.Outcome.next ((s.hostCmd_of_free _ hon hwait hposted).trans hrun), ?_, ?_⟩
    · have hlen : (n :: wordBytes (u.readWords .host s.winPage (n.toNat / 4) s.winOff).2).length = n.toNat + 1 := by
        rw [List.length_cons, length_wordBytes, State.length_readWords]
        omega
      rw [State.sent_hostLoad, State.host_winStep, State.modHost_host, byteOf, BitVec.ofNat_toNat, BitVec.setWidth_eq]
      exact List.take_left' hlen
    · rw [State.winOff_hostLoad_winStep, State.winOff_modHost, State.winOff_readWords, State.winOff_heldDrop, State.winOff_hostStart]
      omega
  · intro s n data hon hwait hposted hlocal hpec hlen h4 h252 hn u
    have hrun := s.hostStart.hostRun_writeBlock_local (badCount_eq_false h4 h252 hn) (s.winLocal_hostStart.trans hlocal)
      (s.pecReq_hostStart.trans hpec) hlen
    rw [State.winPage_hostStart, State.winOff_hostStart] at hrun
    exact congrArg Host.Outcome.next ((s.hostCmd_of_free _ hon hwait hposted).trans hrun)

end Sys2Proof.Machine
end

section
/-!
PROOFS. Deadlines as 32-bit tick numbers (R120).
-/

namespace Sys2Proof.Machine

/-- One deadline is before another by their difference modulo 2^32, which is the difference of the words (R120). -/
theorem earlier_iff (a b : Word) : earlier a b = true ↔ 1 ≤ (b - a).toNat ∧ (b - a).toNat ≤ 2 ^ 31 - 1 := by
  simp only [earlier, Bool.and_eq_true, decide_eq_true_eq]

/-- A deadline has passed when it is before the present tick, itself taken as a deadline (R120). -/
theorem passed_eq_earlier (t d : Word) : passed t d = earlier d t := rfl

/-- Settles O13: both comparisons are the one window on a difference of words, with the tick in the place of the later deadline. -/
theorem deadlinesCompareModulo : Obligations.DeadlinesCompareModulo := by
  unfold Obligations.DeadlinesCompareModulo
  refine ⟨fun t d => ?_, earlier_iff⟩
  rw [passed_eq_earlier]
  exact earlier_iff d t

end Sys2Proof.Machine
end

section
/-!
PROOFS. EVENT_SUMMARY (R413): the eight bytes it sends and the fleet summary they hold (R50).
-/

namespace Sys2Proof

/-! ### Single bits -/

/-- The model's bit of a number is the library's. -/
theorem bitAt_eq_testBit (v i : Nat) : bitAt v i = v.testBit i := by
  rw [Nat.testBit_eq_decide_div_mod_eq, bitAt, beq_eq_decide]

/-- A bit of a number is its field of width one. -/
theorem bitAt_eq_bitsOf (v i : Nat) : bitAt v i = (bitsOf v i 1 == 1) := rfl

/-- One bit written: that bit reads as written, every other as before. -/
theorem bitAt_setBits_one (v lo i : Nat) (x : Bool) : bitAt (setBits v lo 1 x.toNat) i = if i = lo then x else bitAt v i := by
  rw [bitAt_eq_bitsOf, bitAt_eq_bitsOf]
  rcases lt_trichotomy i lo with hlt | rfl | hgt
  · rw [if_neg hlt.ne, bitsOf_setBits_below _ _ _ _ hlt]
  · rw [if_pos rfl, bitsOf_setBits]
    cases x <;> rfl
  · rw [if_neg hgt.ne', bitsOf_setBits_above _ _ _ _ hgt]

end Sys2Proof

namespace Sys2Proof.Machine

variable (s : State)

/-! ### Bytes -/

/-- Bit `b` of byte `k` of a number, its least significant byte first, is bit `8 * k + b` of the number. -/
theorem getLsbD_getD_leBytes {n k b : Nat} (v : Nat) (hk : k < n) (hb : b < 8) : ((leBytes n v).getD k 0).getLsbD b = v.testBit (8 * k + b) := by
  induction n generalizing v k with
  | zero => exact absurd hk k.not_lt_zero
  | succ n ih =>
    cases k with
    | zero => rw [leBytes, List.getD_cons_zero, BitVec.getLsbD_ofNat, decide_eq_true hb, Bool.true_and, Nat.mul_zero, Nat.zero_add]
    | succ k =>
      rw [leBytes, List.getD_cons_succ, ih (v / 256) (Nat.lt_of_succ_lt_succ hk), show 256 = 2 ^ 8 from rfl, Nat.testBit_div_two_pow]
      congr 1
      omega

/-! ### The fleet summary (R50) -/

theorem State.evtSum_lt (w : Nat) : s.evtSum w < 2 ^ 32 := by
  have hword := s.fld_lt pFLEET (FLEET.EVT_SUM_NODES.at w)
  rw [State.evtSum]
  split
  · exact setBits_lt hword (Nat.mod_lt s.node (by decide))
  · exact hword

/-- A bit of the summary of the device that places power: its own ATTN at its own index, the bit of the map at every other. -/
theorem State.bitAt_evtSum (hp : s.places = true) (n : Nat) :
    bitAt (s.evtSum (n / 32)) (n % 32) = if n = s.node then s.attn else s.mapBit pFLEET FLEET.EVT_SUM_NODES n := by
  rw [State.evtSum, hp, Bool.true_and]
  by_cases hw : s.node / 32 = n / 32
  · rw [if_pos (beq_iff_eq.2 hw), bitAt_setBits_one]
    have hindex : n % 32 = s.node % 32 ↔ n = s.node := by omega
    rw [if_congr hindex rfl rfl, State.mapBit]
  · rw [if_neg (mt beq_iff_eq.1 hw), if_neg fun h : n = s.node => hw (by rw [h]), State.mapBit]

/-- The summary of the acting manager of a fleet: the 64 bits of its map, its own ATTN in the place of its own bit. -/
theorem State.testBit_hostSum_fleet (hp : s.places = true) (hr : s.role ≠ .solo) {n : Nat} (hn : n < 64) :
    s.hostSum.testBit n = if n = s.node then s.attn else s.mapBit pFLEET FLEET.EVT_SUM_NODES n := by
  rw [← s.bitAt_evtSum hp, bitAt_eq_testBit, State.hostSum, if_pos (by simp [hp, hr]), Nat.add_comm, Nat.testBit_two_pow_mul_add _ (s.evtSum_lt 0)]
  split
  · rw [Nat.div_eq_of_lt ‹_›, Nat.mod_eq_of_lt ‹_›]
  · rw [show n / 32 = 1 by omega, show n % 32 = n - 32 by omega]

/-- The summary of a SOLO device and of one that does not act as manager: its own ATTN at its own index, 0 elsewhere. -/
theorem State.testBit_hostSum_alone (h : ¬(s.acting = .manager ∧ s.role ≠ .solo)) (hnode : s.node < 64) (n : Nat) :
    s.hostSum.testBit n = (decide (n = s.node) && s.attn) := by
  have halone : ¬(s.places && s.role != .solo) = true := by
    simp only [State.places, Bool.and_eq_true, Bool.or_eq_true, beq_iff_eq, bne_iff_ne]
    tauto
  rw [State.hostSum, if_neg halone, Nat.mod_eq_of_lt hnode]
  cases s.attn
  · simp
  · simp [Nat.testBit_two_pow, eq_comm]

/-- The summary as R413 has it. -/
theorem State.testBit_hostSum (hnode : s.node < 64) {n : Nat} (hn : n < 64) :
    s.hostSum.testBit n = if s.acting = .manager ∧ s.role ≠ .solo ∧ n ≠ s.node then s.mapBit pFLEET FLEET.EVT_SUM_NODES n
      else decide (n = s.node) && s.attn := by
  by_cases h : s.acting = .manager ∧ s.role ≠ .solo
  · obtain ⟨hact, hrole⟩ := h
    rw [s.testBit_hostSum_fleet (by simp [State.places, hact]) hrole hn]
    by_cases hown : n = s.node <;> simp [hact, hrole, hown]
  · rw [s.testBit_hostSum_alone h hnode, if_neg fun ⟨hact, hrole, _⟩ => h ⟨hact, hrole⟩]

/-! ### What the start of a command leaves of the summary -/

/-- The start of a command changes no register but `HOST.STRETCH`. -/
theorem State.rd_hostStart {pg off : Nat} (h : regKey pg off ≠ regKey pHOST HOST.STRETCH_LAST_TOTAL_US.off) : s.hostStart.rd pg off = s.rd pg off :=
  State.rd_put_ne _ _ h

@[simp] theorem State.role_hostStart : s.hostStart.role = s.role := congrArg Role.ofCode (s.fld_hostStart (by decide))
@[simp] theorem State.acting_hostStart : s.hostStart.acting = s.acting := congrArg Role.ofCode (s.fld_hostStart (by decide))

@[simp] theorem State.places_hostStart : s.hostStart.places = s.places := by
  rw [State.places, State.acting_hostStart, State.role_hostStart, State.places]

@[simp] theorem State.node_hostStart : s.hostStart.node = s.node := by
  rw [State.node, State.role_hostStart, s.fld_hostStart (by decide), State.node]

/-- No page keeps its events where the host page keeps `STRETCH`. -/
theorem State.pendBit_hostStart (pg : Nat) : s.hostStart.pendBit pg = s.pendBit pg := by
  have hevents : regKey pg 0x10 ≠ regKey pHOST HOST.STRETCH_LAST_TOTAL_US.off ∧ regKey pg 0x14 ≠ regKey pHOST HOST.STRETCH_LAST_TOTAL_US.off := by
    simp only [regKey, pHOST, HOST.STRETCH_LAST_TOTAL_US]
    omega
  rw [State.pendBit, s.rd_hostStart hevents.1, s.rd_hostStart hevents.2, State.pendBit]

@[simp] theorem State.attn_hostStart : s.hostStart.attn = s.attn := by
  have hmask : ∀ pg ∈ allPages, regKey pEVT (EVT.ATTN_EN_PAGE.at (pg / 32)).off ≠ regKey pHOST HOST.STRETCH_LAST_TOTAL_US.off := by decide
  rw [Bool.eq_iff_iff, State.attn, State.attn, List.any_eq_true, List.any_eq_true]
  refine exists_congr fun pg => and_congr_right fun hpg => ?_
  rw [s.pendBit_hostStart, s.fld_hostStart (hmask pg hpg)]

theorem State.evtSum_hostStart {w : Nat} (hw : w < 2) : s.hostStart.evtSum w = s.evtSum w := by
  have hmap : ∀ w < 2, regKey pFLEET (FLEET.EVT_SUM_NODES.at w).off ≠ regKey pHOST HOST.STRETCH_LAST_TOTAL_US.off := by decide
  rw [State.evtSum, s.fld_hostStart (hmap w hw), State.places_hostStart, State.node_hostStart, State.attn_hostStart, State.evtSum]

@[simp] theorem State.hostSum_hostStart : s.hostStart.hostSum = s.hostSum := by
  rw [State.hostSum, s.evtSum_hostStart (by decide), s.evtSum_hostStart (by decide), State.places_hostStart, State.role_hostStart,
    State.node_hostStart, State.attn_hostStart, State.hostSum]

/-- Held data are no part of the summary. -/
@[simp] theorem State.hostSum_heldDrop : s.heldDrop.hostSum = s.hostSum := rfl

/-! ### The bytes of a read -/

/-- A command that waits for nothing runs at once, with no transaction waiting; the data held for the host are dropped. -/
theorem State.hostPlain_of_free (f : State → State) (hon : s.hostOn = true) (hw : s.host.wait = none) :
    s.hostPlain false f = f s.hostStart.heldDrop := by
  simp [State.hostPlain, State.hostStart, hon, hw]

/-- An error of Table 16.3 takes back no byte sent. -/
@[simp] theorem State.sent_hostErr (code cmd : Nat) : (s.hostErr code cmd).host.sent = s.host.sent := by
  unfold State.hostErr
  rw [State.sent_hostLoad]
  split <;> rfl

/-- A read with no fault on the bus sends its count and all its data, whether or not its PEC is read or required. -/
theorem State.sent_readFinish (cmd : Nat) (pre : Option (List Byte)) (head data : List Byte) (pec load : Bool) (code detail adv : Nat) :
    ∃ tail, (s.readFinish cmd pre head data pec none load code detail adv).host.sent = head ++ data ++ tail := by
  unfold State.readFinish
  extract_lets r opened tail u v
  have hu : u.host.sent = head ++ data ++ tail := by rw [State.modHost_host, show r.1 = data.length from rfl, List.take_length]
  have hv : v.host.sent = head ++ data ++ tail := by
    rw [← hu]
    unfold v
    split
    · rw [State.host_winStep]
    · rfl
  refine ⟨tail, ?_⟩
  split_ifs
  · rw [State.sent_hostErr, hv]
  · rw [State.sent_hostLoad, hv]
  · exact hv

/-! ### The statement of R413 -/

/-- Settles O17: the command sends the eight bytes of the summary, which its start has left as it was, and they hold R413's bits. -/
theorem eventSummaryReturnsTheFleet : Obligations.EventSummaryReturnsTheFleet := by
  unfold Obligations.EventSummaryReturnsTheFleet
  intro s pec hon hwait hnode
  refine ⟨_, congrArg Host.Outcome.next (s.hostPlain_of_free _ hon hwait), fun k b hk hb => ?_⟩
  obtain ⟨tail, hsent⟩ := s.hostStart.heldDrop.sent_readFinish 0x10 (some [0x10]) [] (leBytes 8 s.hostStart.heldDrop.hostSum) pec true 0 0 0
  rw [hsent, List.nil_append, List.getD_append _ _ _ _ (by rwa [length_leBytes]), getLsbD_getD_leBytes _ hk hb, State.hostSum_heldDrop,
    State.hostSum_hostStart]
  exact s.testBit_hostSum hnode (by omega)

end Sys2Proof.Machine
end

section
/-!
PROOFS. What every command does: it answers, and what it leaves follows from the state before as the lemmas on each command say (`Keeps`, `Restarts`). The
invariants of the machine follow.
-/

set_option Elab.async false

namespace Sys2Proof.Machine

/-! ### Classes of commands -/

/-- Commands of a reset of class POR or COLD. -/
def restartsAt : Instr → Bool
  | .por | .nrstLow | .brownOut _ | .shipWake _ _ => true
  | _ => false

/-- Commands that move the debug latch beside a reset (R116). -/
def movesLatch : Instr → Bool
  | .dbgTokenChecked | .dbgEraseDone => true
  | _ => false

/-- Commands that move the tick counter beside a reset (R17). -/
def movesTick : Instr → Bool
  | .tickBoundary _ | .tickFrameReceive _ => true
  | _ => false

/-- Commands that may change flash or OTP. -/
def movesNv : Instr → Bool
  | .por | .nrstLow | .brownOut _ | .coldBoot _ | .warmReset _ | .blockReset _ | .pgEvtSet _ _ | .pgLockWrite _ _ | .registerWrite _ _ _ _
  | .executeBundle _ _ | .nvInhibitAssert _ | .wake _ _ | .wakeTimer | .attachWatchSample _ | .hostAddressWake | .shipWake _ _ | .zeroVsysValid _
  | .otpCmdDone _ | .nvdCmdDone _ | .dbgTokenChecked | .dbgEraseDone | .regAccessFrame _ | .regRspReceive | .regTimeout | .gaugeWriteBack _
  | .readBlock _ _ _ | .writeBlock _ _ _ _ | .readWord _ _ | .writeWord _ _ _ | .storeWindowWrite _ _ _ _ _ _ | .storeWindowRead _ _ _ _ _ _
  | .updBlock _ _ _ _ _ _ | .updCommit _ _ | .updBlockWrite _ | .updCmdConfirm _ _ | .updCmdOwnerLock _ | .updCmdUnlock _ | .firmwareConfirm
  | .imgStart _ | .imgData _ _ | .imgCommit _ | .flashCmdDone _ => true
  | _ => false

/-- What a command holds of the tick counter, and of flash and OTP; of the rest nothing is said. -/
def holdOf (c : Instr) : Hold :=
  ⟨!movesTick c, !movesNv c, false, false, false, false, false, false, false, false, false, false, false, false, false⟩

/-! ### What a command leaves -/

variable {H : Hold} {s u t : State} {o : Host.Outcome State Fault Refusal}

/-- Only the tick counter, and flash and OTP, are claimed to stay. -/
theorem Keeps.lower {a b : Bool} (h : Keeps H s t) (ha : a = true → H.tick = true) (hb : b = true → H.nv = true) :
    Keeps ⟨a, b, false, false, false, false, false, false, false, false, false, false, false, false, false⟩ s t where
  mem := h.mem
  p0 := h.p0
  bound := h.bound
  sticky := h.sticky
  blown := h.blown
  retired := h.retired
  dbg := h.dbg
  part := h.part
  pending := h.pending
  tick e := h.tick (ha e)
  otp e := h.otp (hb e)
  otpMargin e := h.otpMargin (hb e)
  code e := h.code (hb e)
  nvd e := h.nvd (hb e)
  iram e := nomatch e
  aos e := nomatch e
  store e := nomatch e
  phase e := nomatch e
  boot e := nomatch e
  engs e := nomatch e
  links e := nomatch e
  fleet e := nomatch e
  pins e := nomatch e
  mains e := nomatch e
  gauge e := nomatch e
  place e := nomatch e
  twin e := nomatch e
  upd e := nomatch e
  host e := nomatch e
  ports e := nomatch e

/-- The same of a command's answer. -/
theorem Answers.lower {c : Instr} (h : Answers H s o) (ha : (!movesTick c) = true → H.tick = true := by exact fun e => e)
    (hb : (!movesNv c) = true → H.nv = true := by exact fun e => e) :
    Answers (holdOf c) s o :=
  let ⟨t, e, k⟩ := h
  ⟨t, e, k.lower ha hb⟩

/-- Every command but those of a reset of class POR or COLD and the two of the debug latch keeps what `holdOf` says. -/
theorem exec_answers (s : State) : (c : Instr) → (restartsAt c || movesLatch c) = false → Answers (holdOf c) s (exec c s)
  | .por, h => nomatch h
  | .nrstLow, h => nomatch h
  | .brownOut _, h => nomatch h
  | .coldBoot _, _ => (execColdBoot_answers _).lower
  | .warmReset _, _ => (execWarmReset_answers _).lower
  | .rstReq _, _ => (execRstReq_answers _).lower
  | .portRst _ _, _ => (execPortRst_answers _ _).lower
  | .portResetVbusLow _ _, _ => (execPortResetVbusLow_answers _ _).lower
  | .blockReset _, _ => (execBlockReset_answers _).lower
  | .blockResetDone _, _ => (execBlockResetDone_answers _).lower
  | .freeze _ _, _ => (execFreeze_answers _ _).lower
  | .pgEvtSet _ _, _ => (execPgEvtSet_answers _ _).lower
  | .pgEvtClear _ _ _, _ => (execPgEvtClear_answers _ _ _).lower
  | .pgLockWrite _ _, _ => (execPgLockWrite_answers _ _).lower
  | .registerWrite _ _ _ _, _ => (execRegisterWrite_answers _ _ _ _).lower
  | .lowWordRead _ _ _, _ => (execLowWordRead_answers _ _ _).lower
  | .readClearField _ _ _, _ => (execReadClearField_answers _ _ _).lower
  | .evtFrameSend, _ => (execEvtFrameSend_answers).lower
  | .evtFrameReceive, _ => (execEvtFrameReceive_answers).lower
  | .tickBoundary _, _ => (execTickBoundary_answers _).lower
  | .dispatchPoint _, _ => (execDispatchPoint_answers _).lower
  | .refLoss, _ => (execRefLoss_answers).lower
  | .refLossTimeout, _ => (execRefLossTimeout_answers).lower
  | .refBack, _ => (execRefBack_answers).lower
  | .plcrPost _, _ => (execPlcrPost_answers _).lower
  | .overrun _, _ => (execOverrun_answers _).lower
  | .overBudget _, _ => (execOverBudget_answers _).lower
  | .tickWdog, _ => (execTickWdog_answers).lower
  | .overrunStorm, _ => (execOverrunStorm_answers).lower
  | .engRetire _ _, _ => (execEngRetire_answers _ _).lower
  | .scrubCheck _, _ => (execScrubCheck_answers _).lower
  | .rewriteTest _, _ => (execRewriteTest_answers _).lower
  | .migrateDone, _ => (execMigrateDone_answers).lower
  | .bankCmdRetire _ _, _ => (execBankCmdRetire_answers _ _).lower
  | .executeBundle _ _, _ => (execExecuteBundle_answers _ _).lower
  | .vddioChange _, _ => (execVddioChange_answers _).lower
  | .vconnInLost _, _ => (execVconnInLost_answers _).lower
  | .srcSwitchVsys _, _ => (execSrcSwitchVsys_answers _).lower
  | .nvInhibitAssert _, _ => (execNvInhibitAssert_answers _).lower
  | .nvInhibitClear _, _ => (execNvInhibitClear_answers _).lower
  | .nvStable _, _ => (execNvStable_answers _).lower
  | .vsysWarn _, _ => (execVsysWarn_answers _).lower
  | .modeReqRun _, _ => (execModeReqRun_answers _).lower
  | .modeReqDoze _, _ => (execModeReqDoze_answers _).lower
  | .modeReqStandby _, _ => (execModeReqStandby_answers _).lower
  | .modeReqShip _, _ => (execModeReqShip_answers _).lower
  | .modeReqZero _, _ => (execModeReqZero_answers _).lower
  | .modeEntry, _ => (execModeEntry_answers).lower
  | .modeEntryBusy, _ => (execModeEntryBusy_answers).lower
  | .wake _ _, _ => (execWake_answers _ _).lower
  | .wakeTimer, _ => (execWakeTimer_answers).lower
  | .attachWatchSample _, _ => (execAttachWatchSample_answers _).lower
  | .hostAddressWake, _ => (execHostAddressWake_answers).lower
  | .shipWake _ _, h => nomatch h
  | .hvRise, _ => (execHvRise_answers).lower
  | .lineCycleEnd _ _ _ _, _ => (execLineCycleEnd_answers _ _ _ _).lower
  | .mainsLoss, _ => (execMainsLoss_answers).lower
  | .mainsWriteSync, _ => (execMainsWriteSync_answers).lower
  | .barrierLinkLoss, _ => (execBarrierLinkLoss_answers).lower
  | .barrierConfirm, _ => (execBarrierConfirm_answers).lower
  | .barrierTimeout, _ => (execBarrierTimeout_answers).lower
  | .zeroWake _ _, _ => (execZeroWake_answers _ _).lower
  | .zeroVsysValid _, _ => (execZeroVsysValid_answers _).lower
  | .convFail, _ => (execConvFail_answers).lower
  | .aosDataAccess _, _ => (execAosDataAccess_answers _).lower
  | .otpProgram _, _ => (execOtpProgram_answers _).lower
  | .otpLock _ _, _ => (execOtpLock_answers _ _).lower
  | .otpCmdDone _, _ => (execOtpCmdDone_answers _).lower
  | .lockStickySet _, _ => (execLockStickySet_answers _).lower
  | .nvdWrite _ _ _, _ => (execNvdWrite_answers _ _ _).lower
  | .nvdRead _ _, _ => (execNvdRead_answers _ _).lower
  | .nvdInvalidate _ _, _ => (execNvdInvalidate_answers _ _).lower
  | .nvdCmdDone _, _ => (execNvdCmdDone_answers _).lower
  | .dbgNewChallenge _ _, _ => (execDbgNewChallenge_answers _ _).lower
  | .dbgSubmit _, _ => (execDbgSubmit_answers _).lower
  | .dbgTokenChecked, h => nomatch h
  | .dbgEraseDone, h => nomatch h
  | .gpioOutSet _, _ => (execGpioOutSet_answers _).lower
  | .gpioOutClr _, _ => (execGpioOutClr_answers _).lower
  | .pinCfgWrite _ _, _ => (execPinCfgWrite_answers _ _).lower
  | .gpioEdge _ _, _ => (execGpioEdge_answers _ _).lower
  | .ccLineChange _ _ _, _ => (execCcLineChange_answers _ _ _).lower
  | .ccDebounce _, _ => (execCcDebounce_answers _).lower
  | .pdDebounce _, _ => (execPdDebounce_answers _).lower
  | .drpToggle _, _ => (execDrpToggle_answers _).lower
  | .errorRecoveryTimeout _, _ => (execErrorRecoveryTimeout_answers _).lower
  | .tryTimer _, _ => (execTryTimer_answers _).lower
  | .trywaitTimeout _, _ => (execTrywaitTimeout_answers _).lower
  | .trySrcTimeout _, _ => (execTrySrcTimeout_answers _).lower
  | .sourceDetach _ _, _ => (execSourceDetach_answers _ _).lower
  | .sinkDetach _ _, _ => (execSinkDetach_answers _ _).lower
  | .debugAccessoryExit _ _, _ => (execDebugAccessoryExit_answers _ _).lower
  | .hrSinkHoldEnd _, _ => (execHrSinkHoldEnd_answers _).lower
  | .vconnAutoOn _, _ => (execVconnAutoOn_answers _).lower
  | .vconnRaProbe _ _, _ => (execVconnRaProbe_answers _ _).lower
  | .ccCmdErrRec _ _, _ => (execCcCmdErrRec_answers _ _).lower
  | .ccCmdVconnOn _ _, _ => (execCcCmdVconnOn_answers _ _).lower
  | .ccCmdVconnOff _ _, _ => (execCcCmdVconnOff_answers _ _).lower
  | .vconnOvercurrent _, _ => (execVconnOvercurrent_answers _).lower
  | .vconnDischargeEnd _, _ => (execVconnDischargeEnd_answers _).lower
  | .ccOvervoltage _, _ => (execCcOvervoltage_answers _).lower
  | .rpLost _, _ => (execRpLost_answers _).lower
  | .partnerGone _, _ => (execPartnerGone_answers _).lower
  | .ownerCheck _ _, _ => (execOwnerCheck_answers _ _).lower
  | .receiveFrame _ _, _ => (execReceiveFrame_answers _ _).lower
  | .sendGoodcrc _, _ => (execSendGoodcrc_answers _).lower
  | .autoAnswer _, _ => (execAutoAnswer_answers _).lower
  | .txReq _ _, _ => (execTxReq_answers _ _).lower
  | .txHeadCheck _, _ => (execTxHeadCheck_answers _).lower
  | .collisionHoldEnd _, _ => (execCollisionHoldEnd_answers _).lower
  | .transmitFrame _, _ => (execTransmitFrame_answers _).lower
  | .goodcrcTimeout _, _ => (execGoodcrcTimeout_answers _).lower
  | .chunkRequestSend _, _ => (execChunkRequestSend_answers _).lower
  | .chunkWaitTimeout _, _ => (execChunkWaitTimeout_answers _).lower
  | .pdlCmdHardReset _ _, _ => (execPdlCmdHardReset_answers _ _).lower
  | .hardResetSent _, _ => (execHardResetSent_answers _).lower
  | .hardResetReceived _, _ => (execHardResetReceived_answers _).lower
  | .pdlCmdCableReset _ _, _ => (execPdlCmdCableReset_answers _ _).lower
  | .pdlCmdAmsEnd _ _, _ => (execPdlCmdAmsEnd_answers _ _).lower
  | .pdlCmdHrComplete _ _, _ => (execPdlCmdHrComplete_answers _ _).lower
  | .pdlCmdCancel _ _, _ => (execPdlCmdCancel_answers _ _).lower
  | .pdlCmdClearStats _ _, _ => (execPdlCmdClearStats_answers _ _).lower
  | .msgidLoad _ _, _ => (execMsgidLoad_answers _ _).lower
  | .pdlEnableWrite _ _, _ => (execPdlEnableWrite_answers _ _).lower
  | .xbufRel _ _, _ => (execXbufRel_answers _ _).lower
  | .rxRdWrite _ _, _ => (execRxRdWrite_answers _ _).lower
  | .bistCarrierEnd _, _ => (execBistCarrierEnd_answers _).lower
  | .conCommit _ _, _ => (execConCommit_answers _ _).lower
  | .conClear _ _, _ => (execConClear_answers _ _).lower
  | .transGo _ _ _, _ => (execTransGo_answers _ _ _).lower
  | .transitionStart _, _ => (execTransitionStart_answers _).lower
  | .transDone _, _ => (execTransDone_answers _).lower
  | .transFail _, _ => (execTransFail_answers _).lower
  | .roleCmd _ _ _, _ => (execRoleCmd_answers _ _ _).lower
  | .hrWaitExpiry _, _ => (execHrWaitExpiry_answers _).lower
  | .hrVsafe0 _ _, _ => (execHrVsafe0_answers _ _).lower
  | .hrRecoverExpiry _, _ => (execHrRecoverExpiry_answers _).lower
  | .sourceCapsSend _, _ => (execSourceCapsSend_answers _).lower
  | .sourceRequestTimeout _, _ => (execSourceRequestTimeout_answers _).lower
  | .sinkCapsTimeout _, _ => (execSinkCapsTimeout_answers _).lower
  | .requestEvaluation _ _, _ => (execRequestEvaluation_answers _ _).lower
  | .sinkRequest _ _, _ => (execSinkRequest_answers _ _).lower
  | .psRdyTimeout _, _ => (execPsRdyTimeout_answers _).lower
  | .ppsRequestTimeout _, _ => (execPpsRequestTimeout_answers _).lower
  | .drSwapResponse _ _, _ => (execDrSwapResponse_answers _ _).lower
  | .batteryAnswer _ _, _ => (execBatteryAnswer_answers _ _).lower
  | .discovery _ _ _, _ => (execDiscovery_answers _ _ _).lower
  | .vdmResponseTimeout _ _, _ => (execVdmResponseTimeout_answers _ _).lower
  | .modeEntryAuto _, _ => (execModeEntryAuto_answers _).lower
  | .vdmCmdRediscover _ _, _ => (execVdmCmdRediscover_answers _ _).lower
  | .vdmCmdEnter _ _, _ => (execVdmCmdEnter_answers _ _).lower
  | .vdmCmdExit _ _, _ => (execVdmCmdExit_answers _ _).lower
  | .modeEndAtReset _, _ => (execModeEndAtReset_answers _).lower
  | .hpdLevelWrite _ _, _ => (execHpdLevelWrite_answers _ _).lower
  | .hpdIrq _ _, _ => (execHpdIrq_answers _ _).lower
  | .hpdIrqEnd _, _ => (execHpdIrqEnd_answers _).lower
  | .ufpHpdSample _, _ => (execUfpHpdSample_answers _).lower
  | .hostVdmPass _ _, _ => (execHostVdmPass_answers _ _).lower
  | .hostTxGo _ _ _, _ => (execHostTxGo_answers _ _ _).lower
  | .muxbGo _, _ => (execMuxbGo_answers _).lower
  | .muxbAbort _ _, _ => (execMuxbAbort_answers _ _).lower
  | .muxbDone _ _ _ _, _ => (execMuxbDone_answers _ _ _ _).lower
  | .muxbTimeout _, _ => (execMuxbTimeout_answers _).lower
  | .mintEdge _, _ => (execMintEdge_answers _).lower
  | .foldback _ _, _ => (execFoldback_answers _ _).lower
  | .soaTimeout _, _ => (execSoaTimeout_answers _).lower
  | .rampComplete _ _ _ _, _ => (execRampComplete_answers _ _ _ _).lower
  | .rampFail _, _ => (execRampFail_answers _).lower
  | .twinJoin _, _ => (execTwinJoin_answers _).lower
  | .fastTrip _ _ _ _, _ => (execFastTrip_answers _ _ _ _).lower
  | .uvpTrip _, _ => (execUvpTrip_answers _).lower
  | .limitEntry _, _ => (execLimitEntry_answers _).lower
  | .limitExit _, _ => (execLimitExit_answers _).lower
  | .trippedVbusLow _ _, _ => (execTrippedVbusLow_answers _ _).lower
  | .backoffExpiry _, _ => (execBackoffExpiry_answers _).lower
  | .backoffStepReset _, _ => (execBackoffStepReset_answers _).lower
  | .shortFet _ _, _ => (execShortFet_answers _ _).lower
  | .dschEnd _ _ _, _ => (execDschEnd_answers _ _ _).lower
  | .dschRest _, _ => (execDschRest_answers _).lower
  | .dschRestEnd _, _ => (execDschRestEnd_answers _).lower
  | .sinkBlock _, _ => (execSinkBlock_answers _).lower
  | .sinkReclose _ _, _ => (execSinkReclose_answers _ _).lower
  | .guardCmdSnkClose _ _, _ => (execGuardCmdSnkClose_answers _ _).lower
  | .guardCmdSnkOpen _ _, _ => (execGuardCmdSnkOpen_answers _ _).lower
  | .guardCmdUnretire _ _, _ => (execGuardCmdUnretire_answers _ _).lower
  | .guardCmdRetire _ _, _ => (execGuardCmdRetire_answers _ _).lower
  | .cmptRetest _ _, _ => (execCmptRetest_answers _ _).lower
  | .shareRegulation _ _, _ => (execShareRegulation_answers _ _).lower
  | .diodeRegulation _ _, _ => (execDiodeRegulation_answers _ _).lower
  | .shareRelease _, _ => (execShareRelease_answers _).lower
  | .noFreeMember, _ => (execNoFreeMember_answers).lower
  | .shareCmdRelease _, _ => (execShareCmdRelease_answers _).lower
  | .shareCmdTrimClear _, _ => (execShareCmdTrimClear_answers _).lower
  | .trimRequest _, _ => (execTrimRequest_answers _).lower
  | .memberBlockEnd _, _ => (execMemberBlockEnd_answers _).lower
  | .hedgerowFrameArrive _ _ _ _ _, _ => (execHedgerowFrameArrive_answers _ _ _ _ _).lower
  | .linkWordReceive _ _ _ _, _ => (execLinkWordReceive_answers _ _ _ _).lower
  | .arqTimeout _, _ => (execArqTimeout_answers _).lower
  | .lossOfLock _ _, _ => (execLossOfLock_answers _ _).lower
  | .lockRegained _, _ => (execLockRegained_answers _).lower
  | .trainingComplete _ _, _ => (execTrainingComplete_answers _ _).lower
  | .linkRetireTimeout _, _ => (execLinkRetireTimeout_answers _).lower
  | .linkErrorLimit _ _, _ => (execLinkErrorLimit_answers _ _).lower
  | .reprobeTimer _, _ => (execReprobeTimer_answers _).lower
  | .probingResult _ _, _ => (execProbingResult_answers _ _).lower
  | .hgCmdRetire _ _, _ => (execHgCmdRetire_answers _ _).lower
  | .hgCmdReprobe _ _, _ => (execHgCmdReprobe_answers _ _).lower
  | .hgCmdClearStats _ _, _ => (execHgCmdClearStats_answers _ _).lower
  | .fleetCmdEnumerate _, _ => (execFleetCmdEnumerate_answers _).lower
  | .enumAssign, _ => (execEnumAssign_answers).lower
  | .enumCal, _ => (execEnumCal_answers).lower
  | .enumDone, _ => (execEnumDone_answers).lower
  | .enumJoinReq, _ => (execEnumJoinReq_answers).lower
  | .tickFrameReceive _, _ => (execTickFrameReceive_answers _).lower
  | .regAccessFrame _, _ => (execRegAccessFrame_answers _).lower
  | .regRspReceive, _ => (execRegRspReceive_answers).lower
  | .regTimeout, _ => (execRegTimeout_answers).lower
  | .wrapFrameReceive, _ => (execWrapFrameReceive_answers).lower
  | .engineFrameDeliver, _ => (execEngineFrameDeliver_answers).lower
  | .fleetTxReq _, _ => (execFleetTxReq_answers _).lower
  | .standbyTakeover, _ => (execStandbyTakeover_answers).lower
  | .takeoverReceive, _ => (execTakeoverReceive_answers).lower
  | .enumReturn, _ => (execEnumReturn_answers).lower
  | .handback, _ => (execHandback_answers).lower
  | .fleetCmdTakeover _, _ => (execFleetCmdTakeover_answers _).lower
  | .fleetCmdHandback _, _ => (execFleetCmdHandback_answers _).lower
  | .placeCmdRun _, _ => (execPlaceCmdRun_answers _).lower
  | .placementRun, _ => (execPlacementRun_answers).lower
  | .grantReceive, _ => (execGrantReceive_answers).lower
  | .grantApply _, _ => (execGrantApply_answers _).lower
  | .decConfirmTimeout _, _ => (execDecConfirmTimeout_answers _).lower
  | .contractSend _, _ => (execContractSend_answers _).lower
  | .contractReceive _, _ => (execContractReceive_answers _).lower
  | .demandCompute _, _ => (execDemandCompute_answers _).lower
  | .telemSend, _ => (execTelemSend_answers).lower
  | .telemReceive _, _ => (execTelemReceive_answers _).lower
  | .leaseRenewing, _ => (execLeaseRenewing_answers).lower
  | .leaseExpire, _ => (execLeaseExpire_answers).lower
  | .orphanDecay, _ => (execOrphanDecay_answers).lower
  | .placeCmdFloorDone _, _ => (execPlaceCmdFloorDone_answers _).lower
  | .nodeOrphaned _, _ => (execNodeOrphaned_answers _).lower
  | .nodeCommitRelease _, _ => (execNodeCommitRelease_answers _).lower
  | .ledgerMirrorSend, _ => (execLedgerMirrorSend_answers).lower
  | .ledgerReceive _, _ => (execLedgerReceive_answers _).lower
  | .ledgerRebuild _ _, _ => (execLedgerRebuild_answers _ _).lower
  | .portSelWrite _ _, _ => (execPortSelWrite_answers _ _).lower
  | .poolSelWrite _, _ => (execPoolSelWrite_answers _).lower
  | .placeWindowWrite _ _, _ => (execPlaceWindowWrite_answers _ _).lower
  | .twinFrameSend, _ => (execTwinFrameSend_answers).lower
  | .twinFrameReceive _, _ => (execTwinFrameReceive_answers _).lower
  | .mirWrite _, _ => (execMirWrite_answers _).lower
  | .twinTakeover _, _ => (execTwinTakeover_answers _).lower
  | .twinCmdTakeover _ _, _ => (execTwinCmdTakeover_answers _ _).lower
  | .takeoverTask, _ => (execTakeoverTask_answers).lower
  | .twinRoleChoice _, _ => (execTwinRoleChoice_answers _).lower
  | .twinClaimYield _, _ => (execTwinClaimYield_answers _).lower
  | .pairLedger, _ => (execPairLedger_answers).lower
  | .energyConversion, _ => (execEnergyConversion_answers).lower
  | .engyCmdClear _ _, _ => (execEngyCmdClear_answers _ _).lower
  | .ccConversion _ _, _ => (execCcConversion_answers _ _).lower
  | .gaugeMeasure _ _, _ => (execGaugeMeasure_answers _ _).lower
  | .cellMismatch, _ => (execCellMismatch_answers).lower
  | .gaugeRun, _ => (execGaugeRun_answers).lower
  | .gaugeWriteBack _, _ => (execGaugeWriteBack_answers _).lower
  | .packInsert, _ => (execPackInsert_answers).lower
  | .packRemove, _ => (execPackRemove_answers).lower
  | .aonPresenceSample _ _, _ => (execAonPresenceSample_answers _ _).lower
  | .batidClearSwap _, _ => (execBatidClearSwap_answers _).lower
  | .learnCmdAbort _, _ => (execLearnCmdAbort_answers _).lower
  | .learnCmdForget _, _ => (execLearnCmdForget_answers _).lower
  | .setWindowWrite _ _ _ _ _, _ => (execSetWindowWrite_answers _ _ _ _ _).lower
  | .setWindowRead _ _, _ => (execSetWindowRead_answers _ _).lower
  | .readBlock _ _ _, _ => (execReadBlock_answers _ _ _).lower
  | .writeBlock _ _ _ _, _ => (execWriteBlock_answers _ _ _ _).lower
  | .readWord _ _, _ => (execReadWord_answers _ _).lower
  | .writeWord _ _ _, _ => (execWriteWord_answers _ _ _).lower
  | .eventSummary _ _, _ => (execEventSummary_answers _ _).lower
  | .storeWindowWrite _ _ _ _ _ _, _ => (execStoreWindowWrite_answers _ _ _ _ _ _).lower
  | .storeWindowRead _ _ _ _ _ _, _ => (execStoreWindowRead_answers _ _ _ _ _ _).lower
  | .updBlock _ _ _ _ _ _, _ => (execUpdBlock_answers _ _ _ _ _ _).lower
  | .updCommit _ _, _ => (execUpdCommit_answers _ _).lower
  | .status _ _, _ => (execStatus_answers _ _).lower
  | .readWithoutCommand _ _, _ => (execReadWithoutCommand_answers _ _).lower
  | .quickCommand rd, _ => (execQuickCommand_answers rd).lower
  | .stretchEnd _, _ => (execStretchEnd_answers _).lower
  | .heldDataExpire, _ => (execHeldDataExpire_answers).lower
  | .sclTimeout _, _ => (execSclTimeout_answers _).lower
  | .sdaStuck, _ => (execSdaStuck_answers).lower
  | .hostNotify _, _ => (execHostNotify_answers _).lower
  | .notifyHoldEnd, _ => (execNotifyHoldEnd_answers).lower
  | .arbitrationLost _, _ => (execArbitrationLost_answers _).lower
  | .notifyRetry _, _ => (execNotifyRetry_answers _).lower
  | .hostCmdClearStats _, _ => (execHostCmdClearStats_answers _).lower
  | .hostCmdNotifyNow _, _ => (execHostCmdNotifyNow_answers _).lower
  | .updBlockWrite _, _ => (execUpdBlockWrite_answers _).lower
  | .sessionTimeout, _ => (execSessionTimeout_answers).lower
  | .updCmdAbort _, _ => (execUpdCmdAbort_answers _).lower
  | .updCmdActivate _, _ => (execUpdCmdActivate_answers _).lower
  | .updCmdConfirm _ _, _ => (execUpdCmdConfirm_answers _ _).lower
  | .updCmdDistribute _, _ => (execUpdCmdDistribute_answers _).lower
  | .updCmdOwnerLock _, _ => (execUpdCmdOwnerLock_answers _).lower
  | .updCmdNewChallenge _ _, _ => (execUpdCmdNewChallenge_answers _ _).lower
  | .updCmdUnlock _, _ => (execUpdCmdUnlock_answers _).lower
  | .trialTimer, _ => (execTrialTimer_answers).lower
  | .firmwareConfirm, _ => (execFirmwareConfirm_answers).lower
  | .imgStart _, _ => (execImgStart_answers _).lower
  | .imgSection _, _ => (execImgSection_answers _).lower
  | .imgData _ _, _ => (execImgData_answers _ _).lower
  | .imgEnd _, _ => (execImgEnd_answers _).lower
  | .imgCommit _, _ => (execImgCommit_answers _).lower
  | .imgActivate _, _ => (execImgActivate_answers _).lower
  | .imgAbort _, _ => (execImgAbort_answers _).lower
  | .updateReport, _ => (execUpdateReport_answers).lower
  | .distributionTask _ _, _ => (execDistributionTask_answers _ _).lower
  | .flashProgram _, _ => (execFlashProgram_answers _).lower
  | .flashErase _, _ => (execFlashErase_answers _).lower
  | .flashCmdDone _, _ => (execFlashCmdDone_answers _).lower
  | .flashRdData, _ => (execFlashRdData_answers).lower
  | .vbusLevelChange _ _, _ => (execVbusLevelChange_answers _ _).lower
  | .nvStableClear _, _ => (execNvStableClear_answers _).lower
  | .barrierLinkRecovery, _ => (execBarrierLinkRecovery_answers).lower
  | .motnAsserted, _ => (execMotnAsserted_answers).lower
  | .debugHalt _, _ => (execDebugHalt_answers _).lower
  | .debugResume _, _ => (execDebugResume_answers _).lower

/-- What a command leads to: a state that keeps what `holdOf` says, a restart of the machine by a command of a reset, or a move of the debug latch. -/
inductive Follows (s : State) (c : Instr) : State → Prop
  | keeps {t : State} (h : Keeps (holdOf c) s t) : Follows s c t
  | restarts {t : State} (hc : restartsAt c = true) (h : Restarts s t) : Follows s c t
  | erasing {u : State} (hc : c = .dbgTokenChecked) (h : Keeps (holdOf c) s u) (hs : s.dbg.state = .closed)
      (ht : s.tokCheck pDBG 0x40 1 s.dbgMode (s.dbg.against.getD 0) s.dbg.against.isSome = 0) : Follows s c (u.dbgTo .erasing)
  | opened {u : State} (hc : c = .dbgEraseDone) (h : Keeps (holdOf c) s u) (hs : s.dbg.state = .erasing) : Follows s c (u.dbgTo .opened)

/-- The six commands that do more than `Keeps` allows. -/
theorem exec_follows_special {c : Instr} (s : State) (hc : (restartsAt c || movesLatch c) = true) : ∃ t, exec c s = .next t ∧ Follows s c t := by
  cases c
  case por =>
    obtain ⟨t, e, h⟩ := execPor_restarts s
    exact ⟨t, e, .restarts rfl h⟩
  case nrstLow =>
    obtain ⟨t, e, h | ⟨_, h⟩⟩ := execNrstLow_restarts s
    · exact ⟨t, e, .restarts rfl h⟩
    · exact ⟨t, e, .keeps (h.lower (fun e => e) (fun e => nomatch e))⟩
  case brownOut mv =>
    obtain ⟨t, e, h | h⟩ := execBrownOut_restarts mv s
    · exact ⟨t, e, .restarts rfl h⟩
    · exact ⟨t, e, .keeps (h.lower (fun e => e) (fun e => nomatch e))⟩
  case shipWake src n =>
    obtain ⟨t, e, ⟨h, _⟩ | h⟩ := execShipWake_restarts src n s
    · exact ⟨t, e, .restarts rfl h⟩
    · exact ⟨t, e, .keeps (h.lower (fun e => e) (fun e => nomatch e))⟩
  case dbgTokenChecked =>
    obtain ⟨t, e, h | ⟨hs, ht, u, h, rfl⟩⟩ := execDbgTokenChecked_latch s
    · exact ⟨t, e, .keeps (h.lower (fun e => e) (fun e => nomatch e))⟩
    · exact ⟨_, e, .erasing rfl (h.lower (fun e => e) (fun e => nomatch e)) hs ht⟩
  case dbgEraseDone =>
    obtain ⟨t, e, h | ⟨hs, u, h, rfl⟩⟩ := execDbgEraseDone_latch s
    · exact ⟨t, e, .keeps (h.lower (fun e => e) (fun e => nomatch e))⟩
    · exact ⟨_, e, .opened rfl (h.lower (fun e => e) (fun e => nomatch e)) hs⟩
  all_goals exact nomatch hc

/-- Every command leads to a state that follows. -/
theorem exec_follows (c : Instr) (s : State) : ∃ t, exec c s = .next t ∧ Follows s c t := by
  cases hc : restartsAt c || movesLatch c with
  | false => exact (exec_answers s c hc).imp fun t ⟨e, h⟩ => ⟨e, .keeps h⟩
  | true => exact exec_follows_special s hc

/-- A statement about what a command leads to is one about all that follows. -/
theorem leads_of_follows {c : Instr} {q : State → Prop} (h : ∀ t, Follows s c t → q t) : Leads (exec c s) q :=
  (exec_follows c s).imp fun t ⟨e, f⟩ => ⟨e, h t f⟩

namespace Follows

variable {c : Instr}

theorem pending (h : Follows s c t) : t.pending = s.pending := by
  cases h with
  | keeps h => exact h.pending
  | restarts _ h => exact h.pending
  | erasing _ h => exact h.pending
  | opened _ h => exact h.pending

theorem part (h : Follows s c t) : t.part = s.part := by
  cases h with
  | keeps h => exact h.part
  | restarts _ h => exact h.part
  | erasing _ h => exact h.part
  | opened _ h => exact h.part

theorem blown (h : Follows s c t) (i : Nat) : s.otpWord i &&& ~~~t.otpWord i = 0 := by
  cases h with
  | keeps h => exact h.blown i
  | restarts _ h => exact h.otp i
  | erasing _ h => exact h.blown i
  | opened _ h => exact h.blown i

/-- The invariant through a command: a reset makes it anew, every other command keeps it. -/
theorem inv (h : Follows s c t) (hs : s.Inv) : t.Inv := by
  obtain ⟨hm, hp, ht⟩ := hs
  cases h with
  | keeps h => exact ⟨h.mem hm, h.p0 hp, h.bound ht⟩
  | restarts _ h => exact ⟨h.mem hm, h.p0, by rw [h.tick]; decide⟩
  | erasing _ h => exact ⟨h.mem hm, h.p0 hp, h.bound ht⟩
  | opened _ h => exact ⟨h.mem hm, h.p0 hp, h.bound ht⟩

/-- What a command holds stays, but over a reset. -/
theorem held (h : Follows s c t) (hc : restartsAt c = false) :
    (movesTick c = false → t.tick = s.tick) ∧
      (movesNv c = false → t.otp = s.otp ∧ t.otpMargin = s.otpMargin ∧ t.code = s.code ∧ t.nvd = s.nvd) := by
  have all : ∀ u, Keeps (holdOf c) s u → (movesTick c = false → u.tick = s.tick) ∧
      (movesNv c = false → u.otp = s.otp ∧ u.otpMargin = s.otpMargin ∧ u.code = s.code ∧ u.nvd = s.nvd) := by
    intro u h
    refine ⟨fun e => h.tick (by simp [holdOf, e]), fun e => ?_⟩
    have hn : (holdOf c).nv = true := by simp [holdOf, e]
    exact ⟨h.otp hn, h.otpMargin hn, h.code hn, h.nvd hn⟩
  cases h with
  | keeps h => exact all _ h
  | restarts hr _ => exact absurd hr (by simp [hc])
  | @erasing u _ h => exact all u h
  | @opened u _ h => exact all u h

end Follows

/-! ### The tick counter -/

/-- The count itself. -/
theorem State.countTick_tick (s : State) : s.countTick.tick = (s.tick + 1) % 2 ^ 48 :=
  ((State.raiseIf_keeps (H := .all) _ _ _ (Keeps.refl _ _)).tick rfl).trans (by simp)

/-- Nothing in a boundary but the count itself moves the tick counter. -/
theorem State.boundary_tick (s : State) (x : TickIn) : (s.boundary x).tick = (s.tick + 1) % 2 ^ 48 := by
  let K : Hold := ⟨true, false, false, false, false, false, false, false, false, false, false, false, false, false, false⟩
  unfold State.boundary
  extract_lets old doze v s1 s2 s3 s4 s5 s6 s7 s8 s9 s10 s11 s12 s13 s14 aon s15
  have h1 : s1.tick = s.tick := (State.forPorts_keeps (H := K) (Keeps.refl _ s) fun _ _ h => State.measTick_keeps _ _ _ h).tick rfl
  have h2 : s2.tick = s.tick :=
    (Keeps.ite (H := K) (s0 := s1) (fun _ => Keeps.refl _ _) fun _ => State.telemetry_keeps _ (Keeps.refl _ _)).tick rfl |>.trans h1
  have hcount : s2.countTick.tick = (s.tick + 1) % 2 ^ 48 := by
    rw [← h2, State.countTick_tick]
  have h3 : Keeps K s2.countTick s3 := State.tickOut_keeps (State.motnTick_keeps _ (Keeps.refl _ _))
  have h5 : Keeps K s2.countTick s5 := State.portsTick_keeps _ _ (State.placerTick_keeps h3)
  have h8 : Keeps K s2.countTick s8 :=
    State.fleetTick_keeps _ (State.twinTick_keeps (State.shareTick_keeps (State.rampOkTick_keeps (State.cmptTick_keeps _ _ h5))))
  have h9 : Keeps K s2.countTick s9 := State.energyZero_keeps h8
  have h10 : Keeps K s2.countTick s10 := Keeps.ite (fun _ => h9) fun _ => State.energyTick_keeps h9
  have h11 : Keeps K s2.countTick s11 := State.gaugeTick_keeps (State.energyPost_keeps (State.placeTick_keeps h10))
  have h12 : Keeps K s2.countTick s12 := State.forPorts_keeps h11 fun _ _ h => State.policyTick_keeps _ h
  have h13 : Keeps K s2.countTick s13 := Keeps.ite (fun _ => State.cutCheck_keeps h12) fun _ => h12
  have h14 : Keeps K s2.countTick s14 := State.dozeTick_keeps (State.blocksDone_keeps (State.migrateTick_keeps h13))
  exact ((State.hostWatch_keeps (h14.mk' : Keeps K _ s15)).tick rfl).trans hcount

/-- A TICK_BOUNDARY counts one tick or none. -/
theorem execTickBoundary_tick (s : State) (x : TickIn) (e : execTickBoundary x s = .next t) : t.tick = s.tick ∨ t.tick = (s.tick + 1) % 2 ^ 48 := by
  let K : Hold := ⟨true, false, false, false, false, false, false, false, false, false, false, false, false, false, false⟩
  cases e
  split
  · exact .inl rfl
  · split
    · exact .inr (s.boundary_tick x)
    · right
      rw [← State.countTick_tick]
      exact (State.blocksDone_keeps (H := K) (State.leaseTick_keeps (State.portsTick_keeps _ _ (State.motnTick_keeps _ (Keeps.refl _ _))))).tick rfl
    · exact .inl rfl

/-- The tick counter is as before, or a 48-bit number has been loaded. -/
def TickLoads (s t : State) : Prop := t.tick = s.tick ∨ t.tick < 2 ^ 48

theorem TickLoads.ite {p : Prop} [Decidable p] {a b : State} (ha : TickLoads s a) (hb : TickLoads s b) : TickLoads s (if p then a else b) := by
  split
  · exact ha
  · exact hb

/-- A hold of the tick counter alone. -/
def tickHold : Hold := ⟨true, false, false, false, false, false, false, false, false, false, false, false, false, false, false⟩

/-- A TICK frame loads the counter with its 48-bit number, or leaves it. -/
theorem State.takeTick_tick (s : State) (f : RxF) (err : Int) : TickLoads s (s.takeTick f err) := by
  unfold State.takeTick
  extract_lets num prim again s1 s2 s3 s4 close s5 adj s6 s7 s8
  have h2 : Keeps tickHold s s2 := State.modFleet_keeps _ (State.put_keeps _ _ _ (State.put_keeps _ _ _ (Keeps.refl _ s)))
  have h4 : Keeps tickHold s s4 := State.modFleet_keeps _ (State.putB_keeps _ _ _ (State.put_keeps _ _ _ h2))
  have h5 : Keeps tickHold s s5 := State.modFleet_keeps _ h4
  have h7 : Keeps tickHold s s7 := State.modFleet_keeps _ (Keeps.ite (fun _ => h5) fun _ => State.bump_keeps _ _ _ (State.put_keeps _ _ _ h5))
  have h8 : s8.tick < 2 ^ 48 := Nat.mod_lt _ (by decide)
  clear_value s2 s4 s5 s7 s8
  have kept : ∀ {u}, Keeps tickHold s u → TickLoads s u := fun h => .inl (h.tick rfl)
  have aligned : ∀ u b, Keeps tickHold u (u.setAligned b) := fun u b => State.setAligned_keeps b (Keeps.refl _ u)
  have loaded : TickLoads s (s8.setAligned true) := .inr (by rw [(aligned s8 true).tick rfl]; exact h8)
  exact .ite (kept h2) (.ite (kept h4) (.ite (.ite (kept (h7.trans (aligned s7 false))) (kept h7)) (.ite loaded (.inr h8))))

/-- TICK_FRAME_RECEIVE loads the tick counter or leaves it. -/
theorem execTickFrameReceive_tick (s : State) (err : Int) (e : execTickFrameReceive err s = .next t) : TickLoads s t := by
  cases e
  unfold State.withFrame
  split
  · exact .inl rfl
  · rename_i f u hu
    have hu : u.tick = s.tick :=
      (State.takeFrame_keeps (H1 := true) (H2 := false) (H3 := false) (H4 := false) (H5 := false) (H6 := false) (H7 := false) (H8 := false)
        (H10 := false) (H11 := false) (H12 := false) (H13 := false) (H14 := false) (H15 := false) _ (Keeps.refl _ _) hu).tick rfl
    have same : ∀ {v : State}, v.tick = u.tick → TickLoads s v := fun h => .inl (h.trans hu)
    have take : ∀ {v : State}, v.tick = u.tick → TickLoads s (v.takeTick f err) := fun {v} h =>
      (v.takeTick_tick f err).imp (fun k => k.trans (h.trans hu)) id
    have hdown : u.standDown.tick = u.tick :=
      (State.standDown_keeps (H1 := true) (H2 := false) (H3 := false) (H4 := false) (H5 := false) (H6 := false) (H7 := false) (H8 := false)
        (H10 := false) (H11 := false) (H12 := false) (H14 := false) (H15 := false) (Keeps.refl _ _)).tick rfl
    exact .ite (.ite (.ite (take hdown) (same rfl)) (same rfl)) (.ite (same rfl) (take rfl))

/-! ### The statements -/

/-- Settles O1: a step is `exec` on the front of the queue. -/
theorem stepTakesTheFrontCommand : Obligations.StepTakesTheFrontCommand := by
  unfold Obligations.StepTakesTheFrontCommand
  refine ⟨fun c rest s h => ?_, fun s h => ?_⟩
  · unfold step
    rw [h]
  · unfold step
    rw [h]

/-- Settles O2: what follows keeps the queue and the part. -/
theorem everyCommandAnswers : Obligations.EveryCommandAnswers := by
  unfold Obligations.EveryCommandAnswers
  exact fun c s => leads_of_follows fun t h => ⟨h.pending, h.part⟩

/-- Settles O3: every memory but data flash is empty, and data flash holds the factory's boot record in order. -/
theorem resetMeetsTheInvariant : Obligations.ResetMeetsTheInvariant := by
  unfold Obligations.ResetMeetsTheInvariant
  refine ⟨by decide, fun k => ?_, by decide⟩
  show ((Vector.replicate 16 EngSt.init).get k).p.getLsbD 0 = true
  simp [Vector.get_eq_getElem, EngSt.init]

/-- A step from a state is a command on the state with the rest of the queue, or none. -/
theorem step_follows (s : State) : (s.pending = [] ∧ step s = .next s) ∨
    ∃ c rest t, s.pending = c :: rest ∧ step s = .next t ∧ Follows { s with pending := rest } c t := by
  obtain ⟨hfront, hidle⟩ := stepTakesTheFrontCommand
  cases h : s.pending with
  | nil => exact .inl ⟨rfl, hidle s h⟩
  | cons c rest =>
    obtain ⟨t, e, f⟩ := exec_follows c { s with pending := rest }
    exact .inr ⟨c, rest, t, rfl, (hfront c rest s h).trans e, f⟩

/-- Settles O4: each command keeps the invariant, and the queue is no part of it. -/
theorem everyStepKeepsTheInvariant : Obligations.EveryStepKeepsTheInvariant := by
  unfold Obligations.EveryStepKeepsTheInvariant
  intro s t hs e
  obtain ⟨_, e'⟩ | ⟨c, rest, u, _, e', f⟩ := step_follows s
  · cases e.symm.trans e'
    exact hs
  · cases e.symm.trans e'
    exact f.inv hs

/-- Settles O5, by induction on the number of steps. -/
theorem wholeRunsKeepWhatOnlyGrows : Obligations.WholeRunsKeepWhatOnlyGrows := by
  unfold Obligations.WholeRunsKeepWhatOnlyGrows
  intro n
  induction n with
  | zero => exact fun s => ⟨s, rfl, id, fun _ => lost_refl _, rfl, rfl⟩
  | succ n ih =>
    intro s
    obtain ⟨hp, e⟩ | ⟨c, rest, u, hp, e, f⟩ := step_follows s
    · obtain ⟨t, er, hinv, hotp, hpart, hpend⟩ := ih s
      refine ⟨t, ?_, hinv, hotp, hpart, hpend.trans (by simp [hp])⟩
      rw [State.runs, e]
      exact er
    · obtain ⟨t, er, hinv, hotp, hpart, hpend⟩ := ih u
      refine ⟨t, ?_, hinv ∘ f.inv, fun i => lost_trans (f.blown i) (hotp i), hpart.trans f.part, ?_⟩
      · rw [State.runs, e]
        exact er
      · rw [hpend, f.pending, hp, List.drop_succ_cons]

/-- Settles O6. -/
theorem otpBitsStayBlown : Obligations.OtpBitsStayBlown := by
  unfold Obligations.OtpBitsStayBlown
  exact fun c s => leads_of_follows fun t h => h.blown

/-- A command of a reset, as the statements write it out. -/
theorem restartsAt_iff (c : Instr) : (match c with | .por | .nrstLow | .brownOut _ | .shipWake _ _ => True | _ => False) ↔ restartsAt c = true := by
  cases c <;> simp [restartsAt]

/-- Settles O7: only a restart clears the sticky locks. -/
theorem stickyLocksOnlyGain : Obligations.StickyLocksOnlyGain := by
  unfold Obligations.StickyLocksOnlyGain
  refine fun c s => leads_of_follows fun t h => ?_
  cases h with
  | keeps h => exact .inl h.sticky
  | restarts hc h => exact .inr ⟨(restartsAt_iff c).2 hc, h.sticky, h.tick⟩
  | erasing _ h => exact .inl h.sticky
  | opened _ h => exact .inl h.sticky

/-- Settles O8: the two moves of the latch and the restarts are the cases of `Follows`. -/
theorem debugLatchMoves : Obligations.DebugLatchMoves := by
  unfold Obligations.DebugLatchMoves
  refine fun c s => leads_of_follows fun t h => ?_
  cases h with
  | keeps h => exact .inl h.dbg
  | restarts hc h => exact .inr (.inr (.inr ⟨(restartsAt_iff c).2 hc, h.dbg, h.tick⟩))
  | erasing hc _ hs ht => exact .inr (.inl ⟨hc, ht, hs, rfl⟩)
  | opened hc _ hs => exact .inr (.inr (.inl ⟨hc, hs, rfl⟩))

/-- Settles O9: only a restart makes the engines anew. -/
theorem retiredEnginesStayRetired : Obligations.RetiredEnginesStayRetired := by
  unfold Obligations.RetiredEnginesStayRetired
  refine fun c s => leads_of_follows fun t h => ?_
  cases h with
  | keeps h => exact .inl h.retired
  | restarts hc h => exact .inr ⟨(restartsAt_iff c).2 hc, h.tick⟩
  | erasing _ h => exact .inl h.retired
  | opened _ h => exact .inl h.retired

/-- A restart clears the tick counter; a command of a reset that restarts nothing leaves it. -/
theorem Follows.tick_restart {c : Instr} (h : Follows s c t) (hc : restartsAt c = true) (hm : movesTick c = false) : t.tick = s.tick ∨ t.tick = 0 := by
  cases h with
  | keeps h => exact .inl (h.tick (by simp [holdOf, hm]))
  | restarts _ h => exact .inr h.tick
  | erasing hl _ => subst hl; exact nomatch hc
  | opened hl _ => subst hl; exact nomatch hc

/-- No command of a reset is one that leaves flash and OTP. -/
theorem restartsAt_of_movesNv {c : Instr} (h : movesNv c = false) : restartsAt c = false := by
  cases c <;> first | rfl | exact nomatch h

/-- Settles O10: the two commands that move the tick, the resets, and all others by `held`. -/
theorem tickCountMoves : Obligations.TickCountMoves := by
  unfold Obligations.TickCountMoves
  intro c s
  obtain ⟨t, e, h⟩ := exec_follows c s
  refine ⟨t, e, ?_⟩
  have key : restartsAt c = false → movesTick c = false → t.tick = s.tick := fun hr hm => (h.held hr).1 hm
  cases c
  case tickBoundary x => exact execTickBoundary_tick s x e
  case tickFrameReceive err => exact execTickFrameReceive_tick s err e
  case por => exact h.tick_restart rfl rfl
  case nrstLow => exact h.tick_restart rfl rfl
  case brownOut mv => exact h.tick_restart rfl rfl
  case shipWake src n => exact h.tick_restart rfl rfl
  all_goals exact key rfl rfl

/-- Settles O11: the listed commands are those of `movesNv`. -/
theorem nonvolatileMemoryChangesOnlyBy : Obligations.NonvolatileMemoryChangesOnlyBy := by
  unfold Obligations.NonvolatileMemoryChangesOnlyBy
  refine fun c s => leads_of_follows fun t h => ?_
  have key : movesNv c = false → t.otp = s.otp ∧ t.otpMargin = s.otpMargin ∧ t.code = s.code ∧ t.nvd = s.nvd :=
    fun hm => (h.held (restartsAt_of_movesNv hm)).2 hm
  cases c <;> first | exact trivial | exact key rfl

/-- A device whose instruction RAM holds a byte. -/
def iramLoaded : State := { State.reset with iram := [(0, 0)] }

/-- Refutes O12: POR, which the statement does not list, leaves instruction RAM as on a device as delivered, whatever it held. -/
theorem not_instructionRamChangesOnlyBy : ¬ Obligations.InstructionRamChangesOnlyBy := by
  unfold Obligations.InstructionRamChangesOnlyBy
  intro h
  obtain ⟨t, e, hiram⟩ := h .por iramLoaded
  cases e
  exact absurd (show [] = iramLoaded.iram from hiram) (by decide)

end Sys2Proof.Machine
end

section
/-!
PROOFS. Reading the register file and the state after the named updates: the rules by which `simp` finds what a command leaves in a field, and the frame of a command.
-/

set_option Elab.async false

namespace Sys2Proof.Machine

variable (s : State)

/-! ### Fields that share no bit -/

/-- A field that shares no bit with the one written, in another word or in the same, keeps its value. -/
@[simp] theorem State.fld_put_apart {pg pg' : Nat} {f g : Fld} (v : Nat)
    (h : regKey pg' g.off ≠ regKey pg f.off ∨ f.lo + f.w ≤ 32 ∧ (g.lo + g.w ≤ f.lo ∨ f.lo + f.w ≤ g.lo)) : (s.put pg f v).fld pg' g = s.fld pg' g := by
  by_cases hk : regKey pg' g.off = regKey pg f.off
  · obtain ⟨hw, h⟩ := h.resolve_left (not_not.2 hk)
    have hrd : ∀ u : State, u.rd pg' g.off = u.rd pg f.off := fun u => by unfold State.rd; rw [hk]
    unfold State.fld State.put
    rw [hrd, State.rd_wr_same, hrd, BitVec.toNat_ofNat, Nat.mod_eq_of_lt (setBits_lt (s.rd pg f.off).isLt hw)]
    rcases h with h | h
    · exact bitsOf_setBits_below _ _ _ _ h
    · exact bitsOf_setBits_above _ _ _ _ h
  · exact s.fld_put_ne v hk

@[simp] theorem State.flag_put_apart {pg pg' : Nat} {f g : Fld} (v : Nat)
    (h : regKey pg' g.off ≠ regKey pg f.off ∨ f.lo + f.w ≤ 32 ∧ (g.lo + g.w ≤ f.lo ∨ f.lo + f.w ≤ g.lo)) : (s.put pg f v).flag pg' g = s.flag pg' g := by
  unfold State.flag
  rw [s.fld_put_apart v h]

/-! ### One-bit fields -/

/-- A one-bit field reads back the bit written to it. -/
@[simp] theorem State.flag_putB_same (pg : Nat) (f : Fld) (b : Bool) (hw : f.lo + f.w ≤ 32) (h1 : 1 ≤ f.w) : (s.putB pg f b).flag pg f = b := by
  have h2 : 2 ^ 1 ≤ 2 ^ f.w := Nat.pow_le_pow_right (by decide) h1
  unfold State.putB
  rw [s.flag_put_same _ _ _ hw]
  cases b
  · simp
  · simp
    omega

@[simp] theorem State.fld_putB_apart {pg pg' : Nat} {f g : Fld} (b : Bool)
    (h : regKey pg' g.off ≠ regKey pg f.off ∨ f.lo + f.w ≤ 32 ∧ (g.lo + g.w ≤ f.lo ∨ f.lo + f.w ≤ g.lo)) : (s.putB pg f b).fld pg' g = s.fld pg' g :=
  s.fld_put_apart _ h

@[simp] theorem State.flag_putB_apart {pg pg' : Nat} {f g : Fld} (b : Bool)
    (h : regKey pg' g.off ≠ regKey pg f.off ∨ f.lo + f.w ≤ 32 ∧ (g.lo + g.w ≤ f.lo ∨ f.lo + f.w ≤ g.lo)) : (s.putB pg f b).flag pg' g = s.flag pg' g :=
  s.flag_put_apart _ h

@[simp] theorem State.rd_putB_ne {pg pg' off' : Nat} {f : Fld} (b : Bool) (h : regKey pg' off' ≠ regKey pg f.off) : (s.putB pg f b).rd pg' off' = s.rd pg' off' :=
  s.rd_put_ne _ h

/-! ### Events -/

/-- An event raised leaves the fields of the event word that do not hold its bit nor REPEAT. -/
@[simp] theorem State.fld_raise_apart {pg pg' : Nat} {f g : Fld} (h : regKey pg' g.off ≠ regKey pg 0x10 ∨ (g.lo + g.w ≤ f.lo ∨ f.lo < g.lo) ∧ g.lo + g.w ≤ 31) :
    (s.raise pg f).fld pg' g = s.fld pg' g := by
  by_cases hk : regKey pg' g.off = regKey pg 0x10
  · obtain ⟨h, h31⟩ := h.resolve_left (not_not.2 hk)
    have hrd : ∀ u : State, u.rd pg' g.off = u.rd pg 0x10 := fun u => by unfold State.rd; rw [hk]
    unfold State.fld State.raise State.raiseBits
    rw [hrd, State.rd_wr_same, hrd]
    unfold bitsOf
    refine Nat.eq_of_testBit_eq fun i => ?_
    simp only [Nat.testBit_mod_two_pow, Nat.testBit_div_two_pow, BitVec.toNat_ofNat]
    by_cases hi : i < g.w
    · have hne : f.lo ≠ i + g.lo := by omega
      have h32 : i + g.lo < 32 := by omega
      have hr : 31 ≠ i + g.lo := by omega
      simp only [hi, decide_true, Bool.true_and, h32]
      split <;> simp only [Nat.testBit_or, Nat.testBit_two_pow_of_ne hne, Nat.testBit_two_pow_of_ne hr, Bool.or_false]
    · simp [hi]
  · exact s.fld_raise_ne f hk

@[simp] theorem State.flag_raise_apart {pg pg' : Nat} {f g : Fld} (h : regKey pg' g.off ≠ regKey pg 0x10 ∨ (g.lo + g.w ≤ f.lo ∨ f.lo < g.lo) ∧ g.lo + g.w ≤ 31) :
    (s.raise pg f).flag pg' g = s.flag pg' g := by
  unfold State.flag
  rw [s.fld_raise_apart h]

/-- An event raised on a condition. -/
@[simp] theorem State.raiseIf_true (pg : Nat) (f : Fld) : s.raiseIf true pg f = s.raise pg f := rfl

@[simp] theorem State.raiseIf_false (pg : Nat) (f : Fld) : s.raiseIf false pg f = s := rfl

@[simp] theorem State.flag_raiseIf (b : Bool) (pg : Nat) (f : Fld) (ho : f.off = 0x10) (hw : f.w = 1) (hl : f.lo < 31) :
    (s.raiseIf b pg f).flag pg f = (b || s.flag pg f) := by
  cases b
  · rfl
  · exact s.flag_raise pg f ho hw hl

@[simp] theorem State.fld_raiseIf_apart {pg pg' : Nat} {f g : Fld} (b : Bool)
    (h : regKey pg' g.off ≠ regKey pg 0x10 ∨ (g.lo + g.w ≤ f.lo ∨ f.lo < g.lo) ∧ g.lo + g.w ≤ 31) : (s.raiseIf b pg f).fld pg' g = s.fld pg' g := by
  cases b
  · rfl
  · exact s.fld_raise_apart h

@[simp] theorem State.flag_raiseIf_apart {pg pg' : Nat} {f g : Fld} (b : Bool)
    (h : regKey pg' g.off ≠ regKey pg 0x10 ∨ (g.lo + g.w ≤ f.lo ∨ f.lo < g.lo) ∧ g.lo + g.w ≤ 31) : (s.raiseIf b pg f).flag pg' g = s.flag pg' g := by
  unfold State.flag
  rw [s.fld_raiseIf_apart b h]

@[simp] theorem State.rd_raiseIf_ne {pg pg' off' : Nat} (b : Bool) (f : Fld) (h : regKey pg' off' ≠ regKey pg 0x10) :
    (s.raiseIf b pg f).rd pg' off' = s.rd pg' off' := by
  cases b
  · rfl
  · exact s.rd_raise_ne f h

/-- LOCKED_WRITE is set. -/
@[simp] theorem State.flag_lockedWrite (pg : Nat) : (s.lockedWrite pg).flag pg PG.EVT_LOCKED_WRITE = true := s.flag_raise pg _ rfl rfl (by decide)

/-! ### Updates of the hidden state leave the register file -/

section
variable {pending : List Instr} {tick : Nat} {sticky : BitVec 6} {inForce snaps shadow : List (Nat × Word)} {readData : Word}
  {store aos nvd code iram : List Host.Cell} {otp om : List (Nat × Word)} {part : Part} {pins : Pins} {phase : Phase} {rst : RstSt} {boot : BootSt} {aon : AonSt}
  {mains : MainsSt} {dbg : DbgSt} {gpio : GpioSt} {plcr : PlcrSt} {st : StoreSt} {engs : Vector EngSt 16} {ports : Vector PortSt 8} {cmpt : CmptSt}
  {share : ShareGl} {links : Vector LinkSt 3} {fleet : FleetSt} {place : PlaceSt} {twin : TwinSt} {gauge : GaugeSt} {host : HostSt} {upd : UpdSt}
  {fo : Option FlashOp} {no : Option NvdOp} {oo : Option OtpOp} {fresh : Nat} (pg off : Nat) (f : Fld)

/-- A state built on the register file of another reads its registers. -/
@[simp] theorem State.rd_mk : (State.mk pending tick sticky s.regs inForce snaps shadow readData store aos nvd code iram otp om part pins phase rst boot aon mains dbg gpio
    plcr st engs ports cmpt share links fleet place twin gauge host upd fo no oo fresh).rd pg off = s.rd pg off := rfl

@[simp] theorem State.fld_mk : (State.mk pending tick sticky s.regs inForce snaps shadow readData store aos nvd code iram otp om part pins phase rst boot aon mains dbg gpio
    plcr st engs ports cmpt share links fleet place twin gauge host upd fo no oo fresh).fld pg f = s.fld pg f := rfl

@[simp] theorem State.flag_mk : (State.mk pending tick sticky s.regs inForce snaps shadow readData store aos nvd code iram otp om part pins phase rst boot aon mains dbg gpio
    plcr st engs ports cmpt share links fleet place twin gauge host upd fo no oo fresh).flag pg f = s.flag pg f := rfl

end

/-! ### What an event raised on a condition leaves -/

section
variable (b : Bool) (pg : Nat) (f : Fld)

/-- What every event leaves, an event raised on a condition leaves. -/
theorem State.raiseIf_leaves {α : Type} (q : State → α) (h : q (s.raise pg f) = q s) : q (s.raiseIf b pg f) = q s := by
  cases b
  · rfl
  · exact h

@[simp] theorem State.raiseIf_pending : (s.raiseIf b pg f).pending = s.pending := s.raiseIf_leaves b pg f State.pending rfl
@[simp] theorem State.raiseIf_tick : (s.raiseIf b pg f).tick = s.tick := s.raiseIf_leaves b pg f State.tick rfl
@[simp] theorem State.raiseIf_sticky : (s.raiseIf b pg f).sticky = s.sticky := s.raiseIf_leaves b pg f State.sticky rfl
@[simp] theorem State.raiseIf_inForce : (s.raiseIf b pg f).inForce = s.inForce := s.raiseIf_leaves b pg f State.inForce rfl
@[simp] theorem State.raiseIf_snaps : (s.raiseIf b pg f).snaps = s.snaps := s.raiseIf_leaves b pg f State.snaps rfl
@[simp] theorem State.raiseIf_shadow : (s.raiseIf b pg f).shadow = s.shadow := s.raiseIf_leaves b pg f State.shadow rfl
@[simp] theorem State.raiseIf_readData : (s.raiseIf b pg f).readData = s.readData := s.raiseIf_leaves b pg f State.readData rfl
@[simp] theorem State.raiseIf_store : (s.raiseIf b pg f).store = s.store := s.raiseIf_leaves b pg f State.store rfl
@[simp] theorem State.raiseIf_aos : (s.raiseIf b pg f).aos = s.aos := s.raiseIf_leaves b pg f State.aos rfl
@[simp] theorem State.raiseIf_nvd : (s.raiseIf b pg f).nvd = s.nvd := s.raiseIf_leaves b pg f State.nvd rfl
@[simp] theorem State.raiseIf_code : (s.raiseIf b pg f).code = s.code := s.raiseIf_leaves b pg f State.code rfl
@[simp] theorem State.raiseIf_iram : (s.raiseIf b pg f).iram = s.iram := s.raiseIf_leaves b pg f State.iram rfl
@[simp] theorem State.raiseIf_otp : (s.raiseIf b pg f).otp = s.otp := s.raiseIf_leaves b pg f State.otp rfl
@[simp] theorem State.raiseIf_otpMargin : (s.raiseIf b pg f).otpMargin = s.otpMargin := s.raiseIf_leaves b pg f State.otpMargin rfl
@[simp] theorem State.raiseIf_part : (s.raiseIf b pg f).part = s.part := s.raiseIf_leaves b pg f State.part rfl
@[simp] theorem State.raiseIf_pins : (s.raiseIf b pg f).pins = s.pins := s.raiseIf_leaves b pg f State.pins rfl
@[simp] theorem State.raiseIf_phase : (s.raiseIf b pg f).phase = s.phase := s.raiseIf_leaves b pg f State.phase rfl
@[simp] theorem State.raiseIf_rst : (s.raiseIf b pg f).rst = s.rst := s.raiseIf_leaves b pg f State.rst rfl
@[simp] theorem State.raiseIf_boot : (s.raiseIf b pg f).boot = s.boot := s.raiseIf_leaves b pg f State.boot rfl
@[simp] theorem State.raiseIf_aon : (s.raiseIf b pg f).aon = s.aon := s.raiseIf_leaves b pg f State.aon rfl
@[simp] theorem State.raiseIf_mains : (s.raiseIf b pg f).mains = s.mains := s.raiseIf_leaves b pg f State.mains rfl
@[simp] theorem State.raiseIf_dbg : (s.raiseIf b pg f).dbg = s.dbg := s.raiseIf_leaves b pg f State.dbg rfl
@[simp] theorem State.raiseIf_gpio : (s.raiseIf b pg f).gpio = s.gpio := s.raiseIf_leaves b pg f State.gpio rfl
@[simp] theorem State.raiseIf_plcr : (s.raiseIf b pg f).plcr = s.plcr := s.raiseIf_leaves b pg f State.plcr rfl
@[simp] theorem State.raiseIf_st : (s.raiseIf b pg f).st = s.st := s.raiseIf_leaves b pg f State.st rfl
@[simp] theorem State.raiseIf_engs : (s.raiseIf b pg f).engs = s.engs := s.raiseIf_leaves b pg f State.engs rfl
@[simp] theorem State.raiseIf_ports : (s.raiseIf b pg f).ports = s.ports := s.raiseIf_leaves b pg f State.ports rfl
@[simp] theorem State.raiseIf_cmpt : (s.raiseIf b pg f).cmpt = s.cmpt := s.raiseIf_leaves b pg f State.cmpt rfl
@[simp] theorem State.raiseIf_share : (s.raiseIf b pg f).share = s.share := s.raiseIf_leaves b pg f State.share rfl
@[simp] theorem State.raiseIf_links : (s.raiseIf b pg f).links = s.links := s.raiseIf_leaves b pg f State.links rfl
@[simp] theorem State.raiseIf_fleet : (s.raiseIf b pg f).fleet = s.fleet := s.raiseIf_leaves b pg f State.fleet rfl
@[simp] theorem State.raiseIf_place : (s.raiseIf b pg f).place = s.place := s.raiseIf_leaves b pg f State.place rfl
@[simp] theorem State.raiseIf_twin : (s.raiseIf b pg f).twin = s.twin := s.raiseIf_leaves b pg f State.twin rfl
@[simp] theorem State.raiseIf_gauge : (s.raiseIf b pg f).gauge = s.gauge := s.raiseIf_leaves b pg f State.gauge rfl
@[simp] theorem State.raiseIf_host : (s.raiseIf b pg f).host = s.host := s.raiseIf_leaves b pg f State.host rfl
@[simp] theorem State.raiseIf_upd : (s.raiseIf b pg f).upd = s.upd := s.raiseIf_leaves b pg f State.upd rfl
@[simp] theorem State.raiseIf_flashOp : (s.raiseIf b pg f).flashOp = s.flashOp := s.raiseIf_leaves b pg f State.flashOp rfl
@[simp] theorem State.raiseIf_nvdOp : (s.raiseIf b pg f).nvdOp = s.nvdOp := s.raiseIf_leaves b pg f State.nvdOp rfl
@[simp] theorem State.raiseIf_otpOp : (s.raiseIf b pg f).otpOp = s.otpOp := s.raiseIf_leaves b pg f State.otpOp rfl
@[simp] theorem State.raiseIf_fresh : (s.raiseIf b pg f).fresh = s.fresh := s.raiseIf_leaves b pg f State.fresh rfl

end

/-! ### Commands of a page -/

variable {s}

/-- A page that takes commands runs them. -/
theorem State.cmd_takes {pg : Nat} (h : s.Takes pg) (f : State → State) : s.cmd pg f = f s := by
  obtain ⟨hl, hr⟩ := h
  simp [State.cmd, hl, hr]

/-- A keyed command with the right key acts. -/
theorem State.keyCmd_takes {pg key want : Nat} (h : s.Takes pg) (hk : key = want) (f : State → State) : s.keyCmd pg key want f = f s := by
  rw [State.keyCmd, State.cmd_takes h, State.keyed, if_pos hk]

/-- One with another key sets LOCKED_WRITE alone. -/
theorem State.keyCmd_wrong {pg key want : Nat} (h : s.Takes pg) (hk : key ≠ want) (f : State → State) : s.keyCmd pg key want f = s.lockedWrite pg := by
  rw [State.keyCmd, State.cmd_takes h, State.keyed, if_neg hk]

/-! ### Ports and engines -/

@[simp] theorem State.port_modPort_same (n : Port) (f : PortSt → PortSt) : (s.modPort n f).port n = f (s.port n) := by
  simp [State.port, State.modPort, Vector.get_eq_getElem]

@[simp] theorem State.port_modPort_ne {m n : Port} (f : PortSt → PortSt) (h : m ≠ n) : (s.modPort n f).port m = s.port m := by
  have hv : n.val ≠ m.val := fun e => h (Fin.ext e.symm)
  simp [State.port, State.modPort, Vector.get_eq_getElem, Vector.getElem_set, hv]

@[simp] theorem State.eng_modEng_same (k : Engine) (f : EngSt → EngSt) : (s.modEng k f).eng k = f (s.eng k) := by
  rw [State.modEng_eng, if_pos rfl]

@[simp] theorem State.eng_modEng_ne {j k : Engine} (f : EngSt → EngSt) (h : j ≠ k) : (s.modEng k f).eng j = s.eng j := by
  rw [State.modEng_eng, if_neg h]

@[simp] theorem State.rd_modPort (n : Port) (f : PortSt → PortSt) (pg off : Nat) : (s.modPort n f).rd pg off = s.rd pg off := rfl
@[simp] theorem State.fld_modPort (n : Port) (f : PortSt → PortSt) (pg : Nat) (g : Fld) : (s.modPort n f).fld pg g = s.fld pg g := rfl
@[simp] theorem State.flag_modPort (n : Port) (f : PortSt → PortSt) (pg : Nat) (g : Fld) : (s.modPort n f).flag pg g = s.flag pg g := rfl
@[simp] theorem State.rd_modEng (k : Engine) (f : EngSt → EngSt) (pg off : Nat) : (s.modEng k f).rd pg off = s.rd pg off := rfl
@[simp] theorem State.fld_modEng (k : Engine) (f : EngSt → EngSt) (pg : Nat) (g : Fld) : (s.modEng k f).fld pg g = s.fld pg g := rfl
@[simp] theorem State.flag_modEng (k : Engine) (f : EngSt → EngSt) (pg : Nat) (g : Fld) : (s.modEng k f).flag pg g = s.flag pg g := rfl

/-- What one step of a fold makes true, and the others keep, holds at its end. -/
theorem foldl_reaches {α β : Type} {f : β → α → β} {q : β → Prop} {a : α} (h1 : ∀ b, q (f b a)) (h2 : ∀ b x, x ≠ a → q b → q (f b x)) :
    ∀ (l : List α) (b : β), a ∈ l → q (l.foldl f b) := by
  classical
  have keeps : ∀ (l : List α) (b : β), q b → q (l.foldl f b) := by
    intro l
    induction l with
    | nil => exact fun _ h => h
    | cons x l ih =>
      refine fun b h => ih _ ?_
      by_cases hx : x = a
      · exact hx ▸ h1 b
      · exact h2 b x hx h
  intro l
  induction l with
  | nil => exact fun _ h => nomatch h
  | cons x l ih =>
    intro b h
    by_cases hx : x = a
    · exact keeps l _ (hx ▸ h1 b)
    · exact ih _ ((List.mem_cons.1 h).resolve_left (Ne.symm hx))

/-- What the update of one port makes true, and those of the others keep, holds when all ports are done. -/
theorem State.forPorts_reaches {f : State → Port → State} {q : State → Prop} (n : Port) (h1 : ∀ u, q (f u n)) (h2 : ∀ u m, m ≠ n → q u → q (f u m)) :
    q (s.forPorts f) := foldl_reaches h1 h2 _ _ (mem_allPorts n)

/-- What the updates of all ports keep, stays. -/
theorem State.forPorts_leaves {f : State → Port → State} {α : Type} (q : State → α) (h : ∀ u m, q (f u m) = q u) : q (s.forPorts f) = q s := by
  have key : ∀ (l : List Port) (u : State), q (l.foldl f u) = q u := by
    intro l
    induction l with
    | nil => exact fun _ => rfl
    | cons m l ih => exact fun u => (ih _).trans (h u m)
  exact key _ _

/-! ### Registers of a frame -/

/-- A register named by its page, at any of its offsets. -/
theorem inRegs_page {pages : List Nat} {regs : List (Nat × Nat)} {pg : Nat} (h : pg ∈ pages) : ∀ off, off < 256 → inRegs pages regs pg off :=
  fun _ ho => .inl ⟨h, ho⟩

theorem inRegs_reg {pages : List Nat} {regs : List (Nat × Nat)} {pg off : Nat} (h : (pg, off) ∈ regs) : inRegs pages regs pg off := .inr h

/-- Bytes of a range of the central store. -/
theorem inBytes_store {store aos : List (Nat × Nat)} (r : Nat × Nat) (h : r ∈ store) : ∀ a, r.1 ≤ a → a < r.2 → inBytes store aos a :=
  fun _ h1 h2 => .inl ⟨r, h, h1, h2⟩

/-- Bytes of a range of always-on SRAM. -/
theorem inBytes_aos {store aos : List (Nat × Nat)} (r : Nat × Nat) (h : r ∈ aos) : ∀ a, 0x100000 + r.1 ≤ a → a < 0x100000 + r.2 → inBytes store aos a :=
  fun _ h1 h2 => .inr ⟨r, h, h1, h2⟩

end Sys2Proof.Machine
end

section
/-!
PROOFS. Supply levels (chapter 4).
-/

set_option Elab.async false

namespace Sys2Proof.Machine

variable {s : State}

/-- AON runs: the supply monitor judges a level. -/
theorem State.vsys_running (h : s.aonOn = true) (mv : Nat) (f : State → State) : s.vsys mv f = f { s with pins := { s.pins with vsysMv := mv } } := if_pos h

/-- An opened VCONN switch reads off. -/
theorem State.flag_vconnOff_same (n : Port) : (s.vconnOff n).flag (pCC n) CC.PG_STAT_VCONN_ON = false := by
  unfold State.vconnOff
  split
  · exact s.flag_put_same (pCC n) CC.PG_STAT_VCONN_ON 0 (by decide)
  · simp_all

/-- It is the only field that changes. -/
theorem State.flag_vconnOff_apart {pg : Nat} {g : Fld} (n : Port) (h : regKey pg g.off ≠ regKey (pCC n) 0x0C) : (s.vconnOff n).flag pg g = s.flag pg g := by
  unfold State.vconnOff
  split
  · exact s.flag_put_ne (f := CC.PG_STAT_VCONN_ON) 0 h
  · rfl

/-- An abandoned operation leaves OTP, code flash, the central store and always-on SRAM. -/
theorem State.nvInhibit_memories : s.nvInhibit.otp = s.otp ∧ s.nvInhibit.code = s.code ∧ s.nvInhibit.store = s.store ∧ s.nvInhibit.aos = s.aos := by
  unfold State.nvInhibit
  extract_lets u
  have hu : Keeps .all s u := by
    unfold u
    split
    · exact State.flashDone_keeps _ (State.eraseAbort_keeps _ (Keeps.refl _ _))
    · exact Keeps.refl _ _
  have memories : ∀ {v}, Keeps .all s v → v.otp = s.otp ∧ v.code = s.code ∧ v.store = s.store ∧ v.aos = s.aos :=
    fun h => ⟨h.otp rfl, h.code rfl, h.store rfl, h.aos rfl⟩
  clear_value u
  split
  · rename_i p _
    have he : ∀ v, Keeps .all (u.nvdErasePage p) v → v.otp = s.otp ∧ v.code = s.code ∧ v.store = s.store ∧ v.aos = s.aos := by
      intro v h
      rw [h.otp rfl, h.code rfl, h.store rfl, h.aos rfl, State.nvdErasePage, State.put_otp, State.put_code, State.put_store, State.put_aos]
      obtain ⟨hotp, hcode, hstore, haos⟩ := memories hu
      exact ⟨hotp, hcode, hstore, haos⟩
    exact he _ (State.nvdDone_keeps _ (State.raise_keeps _ _ (State.put_keeps _ _ _ (Keeps.refl _ _))))
  · split
    · exact memories (State.nvdDone_keeps _ hu)
    · exact memories hu

section
variable {g : Fld} (h : g ∈ [SUP.PG_STAT_NV_INHIBIT, SUP.PG_STAT_NV_STABLE, SUP.PG_EVT_NV_INH])
include h

theorem State.flag_flashDone_inhibit (r : Nat) : (s.flashDone r).flag pSUP g = s.flag pSUP g := by
  unfold State.flashDone
  fin_cases h <;> simp (disch := (clear * -; decide)) [State.flag_raise_apart, State.flag_put_apart]

theorem State.flag_nvdDone_inhibit (r : Nat) : (s.nvdDone r).flag pSUP g = s.flag pSUP g := by
  unfold State.nvdDone
  fin_cases h <;> simp (disch := (clear * -; decide)) [State.flag_raise_apart, State.flag_put_apart]

theorem State.flag_eraseAbort_inhibit (a : Nat) : (s.eraseAbort a).flag pSUP g = s.flag pSUP g := by
  unfold State.eraseAbort
  fin_cases h <;> simp (disch := (clear * -; decide)) [State.flag_raise_apart, State.flag_put_apart]

theorem State.flag_dirty_inhibit (v : Nat) :
    ((s.put pNVD NVD.DIRTY_PAGES v).raise pSUP SUP.PG_EVT_ERASE_ABORT).flag pSUP g = s.flag pSUP g := by
  fin_cases h <;> simp (disch := (clear * -; decide)) [State.flag_raise_apart, State.flag_put_apart]

theorem State.flag_nvdErasePage_inhibit (p : Nat) : (s.nvdErasePage p).flag pSUP g = s.flag pSUP g := by
  unfold State.nvdErasePage
  fin_cases h <;> simp (disch := (clear * -; decide)) [State.flag_put_apart]

/-- An abandoned operation leaves the inhibit's own fields of the SUP page. -/
theorem State.flag_nvInhibit : s.nvInhibit.flag pSUP g = s.flag pSUP g := by
  unfold State.nvInhibit
  extract_lets u
  have hu : u.flag pSUP g = s.flag pSUP g := by
    unfold u
    split
    · rw [State.flag_flashDone_inhibit h, State.flag_eraseAbort_inhibit h]
    · rfl
  clear_value u
  split
  · rw [State.flag_nvdDone_inhibit h, State.flag_dirty_inhibit h, State.flag_nvdErasePage_inhibit h, hu]
  · split
    · rw [State.flag_nvdDone_inhibit h, hu]
    · exact hu

/-- So does an erasure of secrets that is abandoned. -/
theorem State.flag_secretInhibit : s.secretInhibit.flag pSUP g = s.flag pSUP g := by
  unfold State.secretInhibit
  split
  · exact State.flag_dirty_inhibit h _
  · rfl

end

theorem State.secretInhibit_keeps_all : Keeps .all s s.secretInhibit := State.secretInhibit_keeps (Keeps.refl _ _)

/-- VDDIO_CHANGE judges the level against its two thresholds (R68). -/
theorem vddioChange_running (s : State) (mv : Nat) (haon : s.aonOn = true) :
    Leads (exec (.vddioChange mv) s) fun t => s.Frame t [] [(pSUP, 0x10), (pSUP, 0x0C)] [] [] ∧ t.flag pSUP SUP.PG_STAT_VDDIO_OK = decide (1500 < mv) ∧ t.flag pSUP SUP.PG_STAT_VDDIO_HI = decide (2500 < mv) ∧ (s.flag pSUP SUP.PG_STAT_VDDIO_OK = true → mv ≤ 1500 → t.flag pSUP SUP.PG_EVT_VDDIO_LOST = true) ∧ t.pins = { s.pins with vddioMv := mv } := by
  refine ⟨_, if_pos haon, Frame.of (if_pos haon) (execVddioChange_touches mv (by simp [inRegs]) (by simp [inRegs])) (execVddioChange_stores mv) (execVddioChange_answers mv), ?_⟩
  simp (disch := (clear * -; decide +revert)) [State.flag_raiseIf_apart, State.flag_putB_same, State.flag_putB_apart, State.flag_raiseIf]
  exact fun hok hmv => .inl ⟨hok, hmv⟩

/-- Where AON does not run the level is noted alone. -/
theorem vddioChange_stopped (s : State) (mv : Nat) (haon : s.aonOn = false) :
    Leads (exec (.vddioChange mv) s) fun t => s.Frame t [] [(pSUP, 0x10), (pSUP, 0x0C)] [] [] ∧ t.regs = s.regs ∧ t.pins = { s.pins with vddioMv := mv } := by
  have e : exec (.vddioChange mv) s = .next { s with pins := { s.pins with vddioMv := mv } } := if_neg (by simpa [State.aonOn] using haon)
  exact ⟨_, e, Frame.of e (execVddioChange_touches mv (by simp [inRegs]) (by simp [inRegs])) (execVddioChange_stores mv) (execVddioChange_answers mv), rfl, rfl⟩

/-- VCONN_IN below 4.6 V opens every switch (R69). -/
theorem vconnInLost_below (s : State) (mv : Nat) (haon : s.aonOn = true) (hmv : mv < 4600) :
    Leads (exec (.vconnInLost mv) s) fun t => s.Frame t [] ([(pSUP, 0x0C), (pSUP, 0x10)] ++ everyPortReg pCC 0x0C) [] [] ∧ t.flag pSUP SUP.PG_STAT_VCONN_OK = false ∧ ((∃ n, s.flag (pCC n) CC.PG_STAT_VCONN_ON = true) → t.flag pSUP SUP.PG_EVT_VCONN_LOST = true) ∧ ∀ n, t.flag (pCC n) CC.PG_STAT_VCONN_ON = false := by
  have hon : ({ s with pins := { s.pins with vconnMv := mv } } : State).aonOn = true := haon
  have e : exec (.vconnInLost mv) s = _ := (if_neg (by simp [hon])).trans (if_neg (by omega))
  refine ⟨_, e, Frame.of e (execVconnInLost_touches mv (by simp [inRegs]) (by simp [inRegs]) (by simp [inRegs])) (execVconnInLost_stores mv) (execVconnInLost_answers mv), ?_, ?_, ?_⟩
  · rw [State.flag_raiseIf_apart _ _ (by decide)]
    exact (State.forPorts_leaves (fun u => u.flag pSUP SUP.PG_STAT_VCONN_OK) fun u m => u.flag_vconnOff_apart m (by clear * -; decide +revert)).trans
      (State.flag_put_same _ _ _ _ (by decide))
  · rintro ⟨n, hn⟩
    rw [State.flag_raiseIf _ _ _ _ rfl rfl (by decide), Bool.or_eq_true, List.any_eq_true]
    exact .inl ⟨n, mem_allPorts n, hn⟩
  · intro n
    rw [State.flag_raiseIf_apart _ _ (by clear * -; decide +revert)]
    refine State.forPorts_reaches (q := fun u => u.flag (pCC n) CC.PG_STAT_VCONN_ON = false) n (fun u => u.flag_vconnOff_same n) fun u m hm hu => ?_
    rw [u.flag_vconnOff_apart m (regKey_ne_page (fun h => hm (Fin.ext (by simp only [pCC] at h; omega))) (by decide) (by decide)), hu]

/-- At 4.6 V and above the supply is valid. -/
theorem vconnInLost_above (s : State) (mv : Nat) (haon : s.aonOn = true) (hmv : 4600 ≤ mv) :
    Leads (exec (.vconnInLost mv) s) fun t => s.Frame t [] ([(pSUP, 0x0C), (pSUP, 0x10)] ++ everyPortReg pCC 0x0C) [] [] ∧ t.flag pSUP SUP.PG_STAT_VCONN_OK = true ∧ s.RegsBut t [] [(pSUP, 0x0C)] := by
  have hon : ({ s with pins := { s.pins with vconnMv := mv } } : State).aonOn = true := haon
  have e : exec (.vconnInLost mv) s = _ := (if_neg (by simp [hon])).trans (if_pos hmv)
  refine ⟨_, e, Frame.of e (execVconnInLost_touches mv (by simp [inRegs]) (by simp [inRegs]) (by simp [inRegs])) (execVconnInLost_stores mv) (execVconnInLost_answers mv), ?_, ?_⟩
  · exact State.flag_put_same _ _ _ _ (by decide)
  · exact RegsBut.of (State.put_same _ _ _ (Same.mk' (Same.refl _ s)) (by simp [inRegs, SUP.PG_STAT_VCONN_OK]))

/-- VSYS takes over from VBUS at 3.0 V (R70). -/
theorem srcSwitchVsys_from_vbus (s : State) (mv : Nat) (haon : s.aonOn = true) (hsrc : s.fld pSUP SUP.PG_STAT_SRC = 1) (hmv : 3000 ≤ mv) :
    Leads (exec (.srcSwitchVsys mv) s) fun t => s.Frame t [] [(pSUP, 0x10), (pSUP, 0x0C)] [] [] ∧ t.fld pSUP SUP.PG_STAT_SRC = 0 ∧ t.flag pSUP SUP.PG_EVT_SRC_CHANGE = true ∧ t.pins = { s.pins with vsysMv := mv } := by
  refine ⟨_, rfl, Frame.of rfl (execSrcSwitchVsys_touches mv (by simp [inRegs]) (by simp [inRegs])) (execSrcSwitchVsys_stores mv) (execSrcSwitchVsys_answers mv), ?_⟩
  simp (disch := (clear * -; decide +revert)) [State.vsys_running haon, hsrc, hmv, State.setSrc, State.fld_raise_apart, State.fld_put_same, State.flag_raise]

/-- The inhibit asserts below its threshold (R73). -/
theorem nvInhibitAssert_below (s : State) (mv : Nat) (haon : s.aonOn = true) (hmv : mv < s.nvInhMv) (hinh : s.flag pSUP SUP.PG_STAT_NV_INHIBIT = false) :
    Leads (exec (.nvInhibitAssert mv) s) fun t => t.flag pSUP SUP.PG_STAT_NV_INHIBIT = true ∧ t.flag pSUP SUP.PG_STAT_NV_STABLE = false ∧ t.flag pSUP SUP.PG_EVT_NV_INH = true ∧ t.otp = s.otp ∧ t.code = s.code ∧ t.store = s.store ∧ t.aos = s.aos := by
  have hmv' : ¬ (({ s with pins := { s.pins with vsysMv := mv } } : State).nvInhMv ≤ mv) := Nat.not_le.2 hmv
  refine ⟨_, rfl, ?_⟩
  rw [State.vsys_running haon, if_neg (by simp [hmv', hinh])]
  refine ⟨?_, ?_, ?_, ?_⟩
  · rw [State.flag_secretInhibit (by simp), State.flag_nvInhibit (by simp)]
    simp (disch := (clear * -; decide)) [State.flag_raise_apart, State.flag_put_apart, State.flag_put_same]
  · rw [State.flag_secretInhibit (by simp), State.flag_nvInhibit (by simp)]
    simp (disch := (clear * -; decide)) [State.flag_raise_apart, State.flag_put_same]
  · rw [State.flag_secretInhibit (by simp), State.flag_nvInhibit (by simp)]
    exact State.flag_raise _ _ _ rfl rfl (by decide)
  · generalize hu : State.raise _ _ _ = u
    obtain ⟨hotp, hcode, hstore, haos⟩ := u.nvInhibit_memories
    have hk := u.nvInhibit.secretInhibit_keeps_all
    rw [hk.otp rfl, hk.code rfl, hk.store rfl, hk.aos rfl, hotp, hcode, hstore, haos, ← hu]
    simp

/-- It clears a hysteresis above it (R72). -/
theorem nvInhibitClear_above (s : State) (mv : Nat) (haon : s.aonOn = true) (hmv : s.nvInhMv + s.nvHystMv ≤ mv) :
    Leads (exec (.nvInhibitClear mv) s) fun t => s.Frame t [] [(pSUP, 0x0C)] [] [] ∧ t.flag pSUP SUP.PG_STAT_NV_INHIBIT = false := by
  refine ⟨_, rfl, Frame.of rfl (execNvInhibitClear_touches mv (by simp [inRegs])) (execNvInhibitClear_stores mv) (execNvInhibitClear_answers mv), ?_⟩
  have hmv' : ({ s with pins := { s.pins with vsysMv := mv } } : State).nvInhMv + ({ s with pins := { s.pins with vsysMv := mv } } : State).nvHystMv ≤ mv := hmv
  simp (disch := (clear * -; decide +revert)) [State.vsys_running haon, hmv', State.flag_put_same]

/-- The level has stood above it (R74). -/
theorem nvStable_above (s : State) (mv : Nat) (haon : s.aonOn = true) (hmv : s.nvInhMv + s.nvHystMv ≤ mv) :
    Leads (exec (.nvStable mv) s) fun t => s.Frame t [] [(pSUP, 0x0C)] [] [] ∧ t.flag pSUP SUP.PG_STAT_NV_STABLE = true := by
  refine ⟨_, rfl, Frame.of rfl (execNvStable_touches mv (by simp [inRegs])) (execNvStable_stores mv) (execNvStable_answers mv), ?_⟩
  have hmv' : ({ s with pins := { s.pins with vsysMv := mv } } : State).nvInhMv + ({ s with pins := { s.pins with vsysMv := mv } } : State).nvHystMv ≤ mv := hmv
  simp (disch := (clear * -; decide +revert)) [State.vsys_running haon, hmv', State.flag_put_same]

/-- It has not (R74). -/
theorem nvStableClear_below (s : State) (mv : Nat) (haon : s.aonOn = true) (hmv : mv < s.nvInhMv + s.nvHystMv) :
    Leads (exec (.nvStableClear mv) s) fun t => s.Frame t [] [(pSUP, 0x0C)] [] [] ∧ t.flag pSUP SUP.PG_STAT_NV_STABLE = false := by
  refine ⟨_, rfl, Frame.of rfl (execNvStableClear_touches mv (by simp [inRegs])) (execNvStableClear_stores mv) (execNvStableClear_answers mv), ?_⟩
  have hmv' : mv < ({ s with pins := { s.pins with vsysMv := mv } } : State).nvInhMv + ({ s with pins := { s.pins with vsysMv := mv } } : State).nvHystMv := hmv
  simp (disch := (clear * -; decide +revert)) [State.vsys_running haon, hmv', State.flag_put_same]

/-- VSYS falls below WARN (Table 4.3). -/
theorem vsysWarn_below (s : State) (mv : Nat) (haon : s.aonOn = true) (hwarn : s.flag pSUP SUP.PG_STAT_WARN = false) (hmv : mv < s.warnMv) :
    Leads (exec (.vsysWarn mv) s) fun t => s.Frame t [] [(pSUP, 0x0C), (pSUP, 0x10)] [] [] ∧ t.flag pSUP SUP.PG_STAT_WARN = true ∧ t.flag pSUP SUP.PG_EVT_WARN = true := by
  refine ⟨_, rfl, Frame.of rfl (execVsysWarn_touches mv (by simp [inRegs]) (by simp [inRegs])) (execVsysWarn_stores mv) (execVsysWarn_answers mv), ?_⟩
  have hmv' : mv < ({ s with pins := { s.pins with vsysMv := mv } } : State).warnMv := hmv
  simp (disch := (clear * -; decide +revert)) [State.vsys_running haon, hwarn, hmv', State.flag_raise, State.flag_raise_apart, State.flag_put_same]

/-- VSYS is back 50 mV above it. -/
theorem vsysWarn_above (s : State) (mv : Nat) (haon : s.aonOn = true) (hwarn : s.flag pSUP SUP.PG_STAT_WARN = true) (hmv : s.warnMv + 50 ≤ mv) :
    Leads (exec (.vsysWarn mv) s) fun t => s.Frame t [] [(pSUP, 0x0C), (pSUP, 0x10)] [] [] ∧ t.flag pSUP SUP.PG_STAT_WARN = false ∧ t.flag pSUP SUP.PG_EVT_WARN = s.flag pSUP SUP.PG_EVT_WARN := by
  refine ⟨_, rfl, Frame.of rfl (execVsysWarn_touches mv (by simp [inRegs]) (by simp [inRegs])) (execVsysWarn_stores mv) (execVsysWarn_answers mv), ?_⟩
  have hmv' : ({ s with pins := { s.pins with vsysMv := mv } } : State).warnMv + 50 ≤ mv := hmv
  simp (disch := (clear * -; decide +revert)) [State.vsys_running haon, hwarn, hmv', State.flag_put_same, State.flag_put_apart]

/-- Settles O26: one lemma for each clause. -/
theorem supplyCommandsComplete : Obligations.SupplyCommandsComplete := by
  unfold Obligations.SupplyCommandsComplete
  exact ⟨vddioChange_running, vddioChange_stopped, vconnInLost_below, vconnInLost_above, srcSwitchVsys_from_vbus, nvInhibitAssert_below, nvInhibitClear_above, nvStable_above, nvStableClear_below, vsysWarn_below, vsysWarn_above⟩

end Sys2Proof.Machine
end

section
/-!
PROOFS. Resets of the whole device (R16, R26, R70, R72, R81, R92).
-/

set_option Elab.async false

namespace Sys2Proof.Machine

variable {s : State}

/-! ### What a reset abandons -/

theorem State.flashDrop_leaves : s.flashDrop.otpOp = s.otpOp ∧ s.flashDrop.nvdOp = s.nvdOp ∧ s.flashDrop.otp = s.otp ∧ s.flashDrop.nvd = s.nvd := by
  unfold State.flashDrop
  split <;> exact ⟨rfl, rfl, rfl, rfl⟩

theorem State.flashDrop_idle (h : s.flashOp = none) : s.flashDrop.code = s.code := by
  unfold State.flashDrop
  rw [h]

theorem State.nvdErasePage_leaves (p : Nat) : (s.nvdErasePage p).otpOp = s.otpOp ∧ (s.nvdErasePage p).otp = s.otp ∧ (s.nvdErasePage p).code = s.code := by
  rw [State.nvdErasePage, State.put_otpOp, State.put_otp, State.put_code]
  exact ⟨rfl, rfl, rfl⟩

theorem State.nvdDrop_leaves : s.nvdDrop.otpOp = s.otpOp ∧ s.nvdDrop.otp = s.otp ∧ s.nvdDrop.code = s.code := by
  unfold State.nvdDrop
  dsimp only
  split
  · exact State.nvdErasePage_leaves _
  · exact State.nvdErasePage_leaves _
  · exact ⟨rfl, rfl, rfl⟩

theorem State.nvdDrop_idle (h : s.nvdOp = none) : s.nvdDrop.nvd = s.nvd := by
  unfold State.nvdDrop
  rw [h]

theorem State.otpDrop_leaves : s.otpDrop.code = s.code ∧ s.otpDrop.nvd = s.nvd := by
  unfold State.otpDrop
  dsimp only
  split <;> exact ⟨rfl, rfl⟩

theorem State.otpDrop_idle (h : s.otpOp = none) : s.otpDrop.otp = s.otp := by
  unfold State.otpDrop
  rw [h]

/-- A reset with no operation running keeps OTP and both flash arrays. -/
theorem State.coldReset_nv (cause : Nat) : (s.otpOp = none → (s.coldReset cause).otp = s.otp) ∧ (s.flashOp = none → (s.coldReset cause).code = s.code) ∧
    (s.nvdOp = none → (s.coldReset cause).nvd = s.nvd) := by
  obtain ⟨hfo, hfn, hfotp, hfnvd⟩ := s.flashDrop_leaves
  obtain ⟨hno, hnotp, hncode⟩ := s.flashDrop.nvdDrop_leaves
  obtain ⟨hocode, honvd⟩ := s.flashDrop.nvdDrop.otpDrop_leaves
  refine ⟨fun h => ?_, fun h => ?_, fun h => ?_⟩
  · exact (State.otpDrop_idle (by rw [hno, hfo, h])).trans (hnotp.trans hfotp)
  · exact hocode.trans (hncode.trans (State.flashDrop_idle h))
  · exact honvd.trans ((State.nvdDrop_idle (by rw [hfn, h])).trans hfnvd)

/-- The cause of a cold reset is held for the boot that follows. -/
theorem State.coldReset_cause {cause : Nat} (h : cause < 6) : (s.coldReset cause).rst.causes.getLsbD cause = true := by
  have hc : (s.coldReset cause).rst.causes = s.flashDrop.nvdDrop.otpDrop.rst.causes ||| BitVec.ofNat 6 (2 ^ cause) := rfl
  rw [hc, BitVec.getLsbD_or, BitVec.getLsbD_ofNat]
  simp [h]

/-- A reset keeps the levels at pins. -/
theorem State.coldReset_pins {cause : Nat} : (s.coldReset cause).pins = s.pins := by
  have hk : Keeps ⟨true, false, true, true, true, true, true, true, true, true, true, true, true, true, true⟩ s s.flashDrop.nvdDrop.otpDrop :=
    State.otpDrop_keeps (State.nvdDrop_keeps (State.flashDrop_keeps (Keeps.refl _ _)))
  exact hk.pins rfl

/-- POR (R26). -/
theorem por_resets (s : State)  :
    Leads (exec (.por) s) fun t => t.phase = .reset ∧ t.tick = 0 ∧ t.sticky = 0 ∧ t.rst.causes = 1 ∧ (s.otpOp = none → t.otp = s.otp) ∧ (s.flashOp = none → t.code = s.code) ∧ (s.nvdOp = none → t.nvd = s.nvd) ∧ t.dbg.state = .closed := by
  refine ⟨_, rfl, rfl, rfl, rfl, rfl, ?_⟩
  split
  · obtain ⟨hotp, hcode, hnvd⟩ := ({ s with pins := { s.pins with vsysMv := 0 } } : State).coldReset_nv 0
    exact ⟨hotp, hcode, hnvd, rfl⟩
  · obtain ⟨hotp, hcode, hnvd⟩ := s.coldReset_nv 0
    exact ⟨hotp, hcode, hnvd, rfl⟩

/-- NRST low outside SHIP (R92). -/
theorem nrstLow_resets (s : State) (hphase : s.phase ≠ .ship) :
    Leads (exec (.nrstLow) s) fun t => t.phase = .reset ∧ t.tick = 0 ∧ t.sticky = 0 ∧ t.rst.causes.getLsbD 1 = true ∧ t.pins.nrstLow = true ∧ (s.otpOp = none → t.otp = s.otp) ∧ (s.flashOp = none → t.code = s.code) ∧ (s.nvdOp = none → t.nvd = s.nvd) ∧ t.dbg.state = .closed := by
  have e : exec .nrstLow s = .next (({ s with pins := { s.pins with nrstLow := true } } : State).coldReset 1) := congrArg Host.Outcome.next (if_neg hphase)
  obtain ⟨hotp, hcode, hnvd⟩ := ({ s with pins := { s.pins with nrstLow := true } } : State).coldReset_nv 1
  have hpin : (({ s with pins := { s.pins with nrstLow := true } } : State).coldReset 1).pins.nrstLow = true :=
    congrArg Pins.nrstLow State.coldReset_pins
  exact ⟨_, e, rfl, rfl, rfl, State.coldReset_cause (by decide), hpin, hotp, hcode, hnvd, rfl⟩

/-- VSYS below 2.75 V while it is the source (R72). -/
theorem brownOut_resets (s : State) (mv : Nat) (haon : s.aonOn = true) (hmv : mv < 2750) (hsrc : s.fld pSUP SUP.PG_STAT_SRC = 0) :
    Leads (exec (.brownOut mv) s) fun t => t.phase = .reset ∧ t.tick = 0 ∧ t.sticky = 0 ∧ t.rst.causes.getLsbD 2 = true ∧ t.rst.browned = true ∧ (s.otpOp = none → t.otp = s.otp) ∧ (s.flashOp = none → t.code = s.code) ∧ (s.nvdOp = none → t.nvd = s.nvd) := by
  have e : exec (.brownOut mv) s = .next ({ s with pins := { s.pins with vsysMv := mv } } : State).brownReset :=
    congrArg Host.Outcome.next ((State.vsys_running haon _ _).trans (if_pos ⟨hmv, hsrc⟩))
  obtain ⟨hotp, hcode, hnvd⟩ := ({ s with pins := { s.pins with vsysMv := mv } } : State).coldReset_nv 2
  exact ⟨_, e, rfl, rfl, rfl, State.coldReset_cause (by decide), rfl, hotp, hcode, hnvd⟩

/-- The VBUS detector wakes SHIP (R81). -/
theorem shipWake_vbus (s : State) (n : Port) (hphase : s.phase = .ship) :
    Leads (exec (.shipWake 1 n) s) fun t => t.phase = .reset ∧ t.tick = 0 ∧ t.rst.causes = 1 ∧ t.rst.shipWake = some (BitVec.ofNat 32 (2 + 128 + 65536 * n.val)) ∧ (s.otpOp = none → t.otp = s.otp) ∧ (s.flashOp = none → t.code = s.code) ∧ (s.nvdOp = none → t.nvd = s.nvd) := by
  have e : exec (.shipWake 1 n) s = .next (s.powerOn (some (BitVec.ofNat 32 (2 + 128 + 65536 * n.val)))) :=
    (if_neg (by simp [hphase])).trans (if_pos ⟨hphase, .inl rfl⟩)
  obtain ⟨hotp, hcode, hnvd⟩ := s.coldReset_nv 0
  exact ⟨_, e, rfl, rfl, rfl, rfl, hotp, hcode, hnvd⟩

/-- The SHIP pin wakes it. -/
theorem shipWake_pin (s : State) (n : Port) (hphase : s.phase = .ship) :
    Leads (exec (.shipWake 6 n) s) fun t => t.phase = .reset ∧ t.tick = 0 ∧ t.rst.causes = 1 ∧ t.rst.shipWake = some 192 ∧ (s.otpOp = none → t.otp = s.otp) ∧ (s.flashOp = none → t.code = s.code) ∧ (s.nvdOp = none → t.nvd = s.nvd) := by
  have e : exec (.shipWake 6 n) s = .next (s.powerOn (some 192)) := (if_neg (by simp [hphase])).trans (if_pos ⟨hphase, .inr rfl⟩)
  obtain ⟨hotp, hcode, hnvd⟩ := s.coldReset_nv 0
  exact ⟨_, e, rfl, rfl, rfl, rfl, hotp, hcode, hnvd⟩

/-- During the entry to SHIP the detector abandons it (R77). -/
theorem shipWake_entry (s : State) (n : Port) (hphase : s.phase = .run) (hentry : s.shipEntry = true) :
    Leads (exec (.shipWake 1 n) s) fun t => t.phase = .run ∧ t.aon.entry = none ∧ t.fld pAON AON.MODE_STAT_RESULT = 4 ∧ t.flag pAON AON.PG_EVT_MODE_DONE = true := by
  have e : exec (.shipWake 1 n) s = .next s.entryWake := if_pos ⟨hphase, hentry, .inl rfl⟩
  refine ⟨_, e, ?_⟩
  cases ha : s.aon.entry with
  | none => simp [State.shipEntry, ha] at hentry
  | some x =>
    rw [State.entryWake, ha]
    simp (disch := decide) only [State.fld_mk, State.flag_mk, State.modeEnd, State.raise_phase, State.put_phase, State.flag_raise, State.fld_raise_apart,
      State.fld_put_same, hphase, true_and, and_true]
    decide

/-- Settles O27: one lemma for each clause. -/
theorem powerResetsComplete : Obligations.PowerResetsComplete := by
  unfold Obligations.PowerResetsComplete
  exact ⟨por_resets, nrstLow_resets, brownOut_resets, shipWake_vbus, shipWake_pin, shipWake_entry⟩

end Sys2Proof.Machine
end

section
/-!
PROOFS. What the updates of the companion, the fleet, the links, placement, the twins, the gauge and the host leave: the registers, and every other part of the state.
-/

set_option Elab.async false

namespace Sys2Proof.Machine

variable (s : State)

section
variable (f : MainsSt → MainsSt) (pg off : Nat) (g : Fld)

@[simp] theorem State.rd_modMains : (s.modMains f).rd pg off = s.rd pg off := rfl
@[simp] theorem State.fld_modMains : (s.modMains f).fld pg g = s.fld pg g := rfl
@[simp] theorem State.flag_modMains : (s.modMains f).flag pg g = s.flag pg g := rfl
@[simp] theorem State.modMains_tick : (s.modMains f).tick = s.tick := rfl
@[simp] theorem State.modMains_regs : (s.modMains f).regs = s.regs := rfl
@[simp] theorem State.modMains_inForce : (s.modMains f).inForce = s.inForce := rfl
@[simp] theorem State.modMains_store : (s.modMains f).store = s.store := rfl
@[simp] theorem State.modMains_aos : (s.modMains f).aos = s.aos := rfl
@[simp] theorem State.modMains_part : (s.modMains f).part = s.part := rfl
@[simp] theorem State.modMains_pins : (s.modMains f).pins = s.pins := rfl
@[simp] theorem State.modMains_phase : (s.modMains f).phase = s.phase := rfl
@[simp] theorem State.modMains_rst : (s.modMains f).rst = s.rst := rfl
@[simp] theorem State.modMains_aon : (s.modMains f).aon = s.aon := rfl
@[simp] theorem State.modMains_mains : (s.modMains f).mains = f s.mains := rfl
@[simp] theorem State.modMains_st : (s.modMains f).st = s.st := rfl
@[simp] theorem State.modMains_engs : (s.modMains f).engs = s.engs := rfl
@[simp] theorem State.modMains_ports : (s.modMains f).ports = s.ports := rfl
@[simp] theorem State.modMains_links : (s.modMains f).links = s.links := rfl
@[simp] theorem State.modMains_fleet : (s.modMains f).fleet = s.fleet := rfl
@[simp] theorem State.modMains_place : (s.modMains f).place = s.place := rfl
@[simp] theorem State.modMains_twin : (s.modMains f).twin = s.twin := rfl
@[simp] theorem State.modMains_gauge : (s.modMains f).gauge = s.gauge := rfl
@[simp] theorem State.modMains_host : (s.modMains f).host = s.host := rfl
@[simp] theorem State.modMains_upd : (s.modMains f).upd = s.upd := rfl

end

section
variable (f : FleetSt → FleetSt) (pg off : Nat) (g : Fld)

@[simp] theorem State.rd_modFleet : (s.modFleet f).rd pg off = s.rd pg off := rfl
@[simp] theorem State.fld_modFleet : (s.modFleet f).fld pg g = s.fld pg g := rfl
@[simp] theorem State.flag_modFleet : (s.modFleet f).flag pg g = s.flag pg g := rfl
@[simp] theorem State.modFleet_tick : (s.modFleet f).tick = s.tick := rfl
@[simp] theorem State.modFleet_regs : (s.modFleet f).regs = s.regs := rfl
@[simp] theorem State.modFleet_inForce : (s.modFleet f).inForce = s.inForce := rfl
@[simp] theorem State.modFleet_store : (s.modFleet f).store = s.store := rfl
@[simp] theorem State.modFleet_aos : (s.modFleet f).aos = s.aos := rfl
@[simp] theorem State.modFleet_part : (s.modFleet f).part = s.part := rfl
@[simp] theorem State.modFleet_pins : (s.modFleet f).pins = s.pins := rfl
@[simp] theorem State.modFleet_phase : (s.modFleet f).phase = s.phase := rfl
@[simp] theorem State.modFleet_rst : (s.modFleet f).rst = s.rst := rfl
@[simp] theorem State.modFleet_aon : (s.modFleet f).aon = s.aon := rfl
@[simp] theorem State.modFleet_mains : (s.modFleet f).mains = s.mains := rfl
@[simp] theorem State.modFleet_st : (s.modFleet f).st = s.st := rfl
@[simp] theorem State.modFleet_engs : (s.modFleet f).engs = s.engs := rfl
@[simp] theorem State.modFleet_ports : (s.modFleet f).ports = s.ports := rfl
@[simp] theorem State.modFleet_links : (s.modFleet f).links = s.links := rfl
@[simp] theorem State.modFleet_fleet : (s.modFleet f).fleet = f s.fleet := rfl
@[simp] theorem State.modFleet_place : (s.modFleet f).place = s.place := rfl
@[simp] theorem State.modFleet_twin : (s.modFleet f).twin = s.twin := rfl
@[simp] theorem State.modFleet_gauge : (s.modFleet f).gauge = s.gauge := rfl
@[simp] theorem State.modFleet_host : (s.modFleet f).host = s.host := rfl
@[simp] theorem State.modFleet_upd : (s.modFleet f).upd = s.upd := rfl

end

section
variable (f : PlaceSt → PlaceSt) (pg off : Nat) (g : Fld)

@[simp] theorem State.rd_modPlace : (s.modPlace f).rd pg off = s.rd pg off := rfl
@[simp] theorem State.fld_modPlace : (s.modPlace f).fld pg g = s.fld pg g := rfl
@[simp] theorem State.flag_modPlace : (s.modPlace f).flag pg g = s.flag pg g := rfl
@[simp] theorem State.modPlace_tick : (s.modPlace f).tick = s.tick := rfl
@[simp] theorem State.modPlace_regs : (s.modPlace f).regs = s.regs := rfl
@[simp] theorem State.modPlace_inForce : (s.modPlace f).inForce = s.inForce := rfl
@[simp] theorem State.modPlace_store : (s.modPlace f).store = s.store := rfl
@[simp] theorem State.modPlace_aos : (s.modPlace f).aos = s.aos := rfl
@[simp] theorem State.modPlace_part : (s.modPlace f).part = s.part := rfl
@[simp] theorem State.modPlace_pins : (s.modPlace f).pins = s.pins := rfl
@[simp] theorem State.modPlace_phase : (s.modPlace f).phase = s.phase := rfl
@[simp] theorem State.modPlace_rst : (s.modPlace f).rst = s.rst := rfl
@[simp] theorem State.modPlace_aon : (s.modPlace f).aon = s.aon := rfl
@[simp] theorem State.modPlace_mains : (s.modPlace f).mains = s.mains := rfl
@[simp] theorem State.modPlace_st : (s.modPlace f).st = s.st := rfl
@[simp] theorem State.modPlace_engs : (s.modPlace f).engs = s.engs := rfl
@[simp] theorem State.modPlace_ports : (s.modPlace f).ports = s.ports := rfl
@[simp] theorem State.modPlace_links : (s.modPlace f).links = s.links := rfl
@[simp] theorem State.modPlace_fleet : (s.modPlace f).fleet = s.fleet := rfl
@[simp] theorem State.modPlace_place : (s.modPlace f).place = f s.place := rfl
@[simp] theorem State.modPlace_twin : (s.modPlace f).twin = s.twin := rfl
@[simp] theorem State.modPlace_gauge : (s.modPlace f).gauge = s.gauge := rfl
@[simp] theorem State.modPlace_host : (s.modPlace f).host = s.host := rfl
@[simp] theorem State.modPlace_upd : (s.modPlace f).upd = s.upd := rfl

end

section
variable (f : GaugeSt → GaugeSt) (pg off : Nat) (g : Fld)

@[simp] theorem State.rd_modGauge : (s.modGauge f).rd pg off = s.rd pg off := rfl
@[simp] theorem State.fld_modGauge : (s.modGauge f).fld pg g = s.fld pg g := rfl
@[simp] theorem State.flag_modGauge : (s.modGauge f).flag pg g = s.flag pg g := rfl
@[simp] theorem State.modGauge_tick : (s.modGauge f).tick = s.tick := rfl
@[simp] theorem State.modGauge_regs : (s.modGauge f).regs = s.regs := rfl
@[simp] theorem State.modGauge_inForce : (s.modGauge f).inForce = s.inForce := rfl
@[simp] theorem State.modGauge_store : (s.modGauge f).store = s.store := rfl
@[simp] theorem State.modGauge_aos : (s.modGauge f).aos = s.aos := rfl
@[simp] theorem State.modGauge_part : (s.modGauge f).part = s.part := rfl
@[simp] theorem State.modGauge_pins : (s.modGauge f).pins = s.pins := rfl
@[simp] theorem State.modGauge_phase : (s.modGauge f).phase = s.phase := rfl
@[simp] theorem State.modGauge_rst : (s.modGauge f).rst = s.rst := rfl
@[simp] theorem State.modGauge_aon : (s.modGauge f).aon = s.aon := rfl
@[simp] theorem State.modGauge_mains : (s.modGauge f).mains = s.mains := rfl
@[simp] theorem State.modGauge_st : (s.modGauge f).st = s.st := rfl
@[simp] theorem State.modGauge_engs : (s.modGauge f).engs = s.engs := rfl
@[simp] theorem State.modGauge_ports : (s.modGauge f).ports = s.ports := rfl
@[simp] theorem State.modGauge_links : (s.modGauge f).links = s.links := rfl
@[simp] theorem State.modGauge_fleet : (s.modGauge f).fleet = s.fleet := rfl
@[simp] theorem State.modGauge_place : (s.modGauge f).place = s.place := rfl
@[simp] theorem State.modGauge_twin : (s.modGauge f).twin = s.twin := rfl
@[simp] theorem State.modGauge_gauge : (s.modGauge f).gauge = f s.gauge := rfl
@[simp] theorem State.modGauge_host : (s.modGauge f).host = s.host := rfl
@[simp] theorem State.modGauge_upd : (s.modGauge f).upd = s.upd := rfl

end

section
variable (f : HostSt → HostSt) (pg off : Nat) (g : Fld)

@[simp] theorem State.rd_modHost : (s.modHost f).rd pg off = s.rd pg off := rfl
@[simp] theorem State.flag_modHost : (s.modHost f).flag pg g = s.flag pg g := rfl
@[simp] theorem State.modHost_tick : (s.modHost f).tick = s.tick := rfl
@[simp] theorem State.modHost_regs : (s.modHost f).regs = s.regs := rfl
@[simp] theorem State.modHost_inForce : (s.modHost f).inForce = s.inForce := rfl
@[simp] theorem State.modHost_store : (s.modHost f).store = s.store := rfl
@[simp] theorem State.modHost_aos : (s.modHost f).aos = s.aos := rfl
@[simp] theorem State.modHost_part : (s.modHost f).part = s.part := rfl
@[simp] theorem State.modHost_pins : (s.modHost f).pins = s.pins := rfl
@[simp] theorem State.modHost_phase : (s.modHost f).phase = s.phase := rfl
@[simp] theorem State.modHost_rst : (s.modHost f).rst = s.rst := rfl
@[simp] theorem State.modHost_aon : (s.modHost f).aon = s.aon := rfl
@[simp] theorem State.modHost_mains : (s.modHost f).mains = s.mains := rfl
@[simp] theorem State.modHost_st : (s.modHost f).st = s.st := rfl
@[simp] theorem State.modHost_engs : (s.modHost f).engs = s.engs := rfl
@[simp] theorem State.modHost_ports : (s.modHost f).ports = s.ports := rfl
@[simp] theorem State.modHost_links : (s.modHost f).links = s.links := rfl
@[simp] theorem State.modHost_fleet : (s.modHost f).fleet = s.fleet := rfl
@[simp] theorem State.modHost_place : (s.modHost f).place = s.place := rfl
@[simp] theorem State.modHost_twin : (s.modHost f).twin = s.twin := rfl
@[simp] theorem State.modHost_gauge : (s.modHost f).gauge = s.gauge := rfl
@[simp] theorem State.modHost_upd : (s.modHost f).upd = s.upd := rfl

end

section
variable (l : Link) (f : LinkSt → LinkSt) (pg off : Nat) (g : Fld)

@[simp] theorem State.rd_modLink : (s.modLink l f).rd pg off = s.rd pg off := rfl
@[simp] theorem State.fld_modLink : (s.modLink l f).fld pg g = s.fld pg g := rfl
@[simp] theorem State.flag_modLink : (s.modLink l f).flag pg g = s.flag pg g := rfl
@[simp] theorem State.modLink_tick : (s.modLink l f).tick = s.tick := rfl
@[simp] theorem State.modLink_regs : (s.modLink l f).regs = s.regs := rfl
@[simp] theorem State.modLink_inForce : (s.modLink l f).inForce = s.inForce := rfl
@[simp] theorem State.modLink_store : (s.modLink l f).store = s.store := rfl
@[simp] theorem State.modLink_aos : (s.modLink l f).aos = s.aos := rfl
@[simp] theorem State.modLink_part : (s.modLink l f).part = s.part := rfl
@[simp] theorem State.modLink_pins : (s.modLink l f).pins = s.pins := rfl
@[simp] theorem State.modLink_phase : (s.modLink l f).phase = s.phase := rfl
@[simp] theorem State.modLink_rst : (s.modLink l f).rst = s.rst := rfl
@[simp] theorem State.modLink_aon : (s.modLink l f).aon = s.aon := rfl
@[simp] theorem State.modLink_mains : (s.modLink l f).mains = s.mains := rfl
@[simp] theorem State.modLink_st : (s.modLink l f).st = s.st := rfl
@[simp] theorem State.modLink_engs : (s.modLink l f).engs = s.engs := rfl
@[simp] theorem State.modLink_ports : (s.modLink l f).ports = s.ports := rfl
@[simp] theorem State.modLink_fleet : (s.modLink l f).fleet = s.fleet := rfl
@[simp] theorem State.modLink_place : (s.modLink l f).place = s.place := rfl
@[simp] theorem State.modLink_twin : (s.modLink l f).twin = s.twin := rfl
@[simp] theorem State.modLink_gauge : (s.modLink l f).gauge = s.gauge := rfl
@[simp] theorem State.modLink_host : (s.modLink l f).host = s.host := rfl
@[simp] theorem State.modLink_upd : (s.modLink l f).upd = s.upd := rfl

end

section
variable (n : Port) (f : OwnGrant → OwnGrant) (pg off : Nat) (g : Fld)

@[simp] theorem State.rd_modOwn : (s.modOwn n f).rd pg off = s.rd pg off := rfl
@[simp] theorem State.fld_modOwn : (s.modOwn n f).fld pg g = s.fld pg g := rfl
@[simp] theorem State.flag_modOwn : (s.modOwn n f).flag pg g = s.flag pg g := rfl
@[simp] theorem State.modOwn_tick : (s.modOwn n f).tick = s.tick := rfl
@[simp] theorem State.modOwn_regs : (s.modOwn n f).regs = s.regs := rfl
@[simp] theorem State.modOwn_inForce : (s.modOwn n f).inForce = s.inForce := rfl
@[simp] theorem State.modOwn_store : (s.modOwn n f).store = s.store := rfl
@[simp] theorem State.modOwn_aos : (s.modOwn n f).aos = s.aos := rfl
@[simp] theorem State.modOwn_part : (s.modOwn n f).part = s.part := rfl
@[simp] theorem State.modOwn_pins : (s.modOwn n f).pins = s.pins := rfl
@[simp] theorem State.modOwn_phase : (s.modOwn n f).phase = s.phase := rfl
@[simp] theorem State.modOwn_rst : (s.modOwn n f).rst = s.rst := rfl
@[simp] theorem State.modOwn_aon : (s.modOwn n f).aon = s.aon := rfl
@[simp] theorem State.modOwn_mains : (s.modOwn n f).mains = s.mains := rfl
@[simp] theorem State.modOwn_st : (s.modOwn n f).st = s.st := rfl
@[simp] theorem State.modOwn_engs : (s.modOwn n f).engs = s.engs := rfl
@[simp] theorem State.modOwn_ports : (s.modOwn n f).ports = s.ports := rfl
@[simp] theorem State.modOwn_links : (s.modOwn n f).links = s.links := rfl
@[simp] theorem State.modOwn_fleet : (s.modOwn n f).fleet = s.fleet := rfl
@[simp] theorem State.modOwn_twin : (s.modOwn n f).twin = s.twin := rfl
@[simp] theorem State.modOwn_gauge : (s.modOwn n f).gauge = s.gauge := rfl
@[simp] theorem State.modOwn_host : (s.modOwn n f).host = s.host := rfl
@[simp] theorem State.modOwn_upd : (s.modOwn n f).upd = s.upd := rfl

end

section
variable (n : Port) (f : TwinPort → TwinPort) (pg off : Nat) (g : Fld)

@[simp] theorem State.rd_modTw : (s.modTw n f).rd pg off = s.rd pg off := rfl
@[simp] theorem State.fld_modTw : (s.modTw n f).fld pg g = s.fld pg g := rfl
@[simp] theorem State.flag_modTw : (s.modTw n f).flag pg g = s.flag pg g := rfl
@[simp] theorem State.modTw_tick : (s.modTw n f).tick = s.tick := rfl
@[simp] theorem State.modTw_regs : (s.modTw n f).regs = s.regs := rfl
@[simp] theorem State.modTw_inForce : (s.modTw n f).inForce = s.inForce := rfl
@[simp] theorem State.modTw_store : (s.modTw n f).store = s.store := rfl
@[simp] theorem State.modTw_aos : (s.modTw n f).aos = s.aos := rfl
@[simp] theorem State.modTw_part : (s.modTw n f).part = s.part := rfl
@[simp] theorem State.modTw_pins : (s.modTw n f).pins = s.pins := rfl
@[simp] theorem State.modTw_phase : (s.modTw n f).phase = s.phase := rfl
@[simp] theorem State.modTw_rst : (s.modTw n f).rst = s.rst := rfl
@[simp] theorem State.modTw_aon : (s.modTw n f).aon = s.aon := rfl
@[simp] theorem State.modTw_mains : (s.modTw n f).mains = s.mains := rfl
@[simp] theorem State.modTw_st : (s.modTw n f).st = s.st := rfl
@[simp] theorem State.modTw_engs : (s.modTw n f).engs = s.engs := rfl
@[simp] theorem State.modTw_ports : (s.modTw n f).ports = s.ports := rfl
@[simp] theorem State.modTw_links : (s.modTw n f).links = s.links := rfl
@[simp] theorem State.modTw_fleet : (s.modTw n f).fleet = s.fleet := rfl
@[simp] theorem State.modTw_place : (s.modTw n f).place = s.place := rfl
@[simp] theorem State.modTw_gauge : (s.modTw n f).gauge = s.gauge := rfl
@[simp] theorem State.modTw_host : (s.modTw n f).host = s.host := rfl
@[simp] theorem State.modTw_upd : (s.modTw n f).upd = s.upd := rfl

end

/-! ### One member of a vector -/

@[simp] theorem State.link_modLink_same (l : Link) (f : LinkSt → LinkSt) : (s.modLink l f).link l = f (s.link l) := by
  simp [State.link, State.modLink, Vector.get_eq_getElem]

theorem State.link_modLink_ne {k l : Link} (f : LinkSt → LinkSt) (h : k ≠ l) : (s.modLink l f).link k = s.link k := by
  have hv : l.val ≠ k.val := fun e => h (Fin.ext e.symm)
  simp [State.link, State.modLink, Vector.get_eq_getElem, Vector.getElem_set, hv]

@[simp] theorem State.own_modOwn_same (n : Port) (f : OwnGrant → OwnGrant) : (s.modOwn n f).own n = f (s.own n) := by
  simp [State.own, State.modOwn, Vector.get_eq_getElem]

theorem State.own_modOwn_ne {m n : Port} (f : OwnGrant → OwnGrant) (h : m ≠ n) : (s.modOwn n f).own m = s.own m := by
  have hv : n.val ≠ m.val := fun e => h (Fin.ext e.symm)
  simp [State.own, State.modOwn, Vector.get_eq_getElem, Vector.getElem_set, hv]

@[simp] theorem State.tw_modTw_same (n : Port) (f : TwinPort → TwinPort) : (s.modTw n f).tw n = f (s.tw n) := by
  simp [State.tw, State.modTw, Vector.get_eq_getElem]

theorem State.tw_modTw_ne {m n : Port} (f : TwinPort → TwinPort) (h : m ≠ n) : (s.modTw n f).tw m = s.tw m := by
  have hv : n.val ≠ m.val := fun e => h (Fin.ext e.symm)
  simp [State.tw, State.modTw, Vector.get_eq_getElem, Vector.getElem_set, hv]

end Sys2Proof.Machine
end

section
/-!
PROOFS. The mains companion (R82-R87).
-/

set_option Elab.async false

namespace Sys2Proof.Machine

variable {s : State}

/-- The companion works for a main die whose AON domain runs. -/
theorem State.mainsOn_of (hx : s.part.x = true) (haon : s.aonOn = true) : s.mainsOn = true := by simp [State.mainsOn, hx, haon]

/-- The power that `BUDGET` shows in each line state (Table 4.6). -/
def MainsSt.budget (m : MainsSt) : Nat :=
  match m.line with
  | 0 => 0xFFFF
  | 1 => m.budLow
  | 2 => m.budSag
  | _ => m.budLoss

theorem State.mainsBudget_up (hl : s.mains.link = true) : s.mainsBudget = s.put pMAINS MAINS.BUDGET_POWER s.mains.budget := by
  unfold State.mainsBudget
  rw [hl]
  rfl

theorem State.mainsBudget_down (hl : s.mains.link = false) : s.mainsBudget = s.put pMAINS MAINS.BUDGET_POWER (s.fld pMAINS MAINS.BUD_SAG_POWER) := by
  unfold State.mainsBudget
  rw [hl]
  rfl

/-- The budget shown, and the fields beside it. -/
theorem State.mainsBudget_shows (hl : s.mains.link = true) : s.mainsBudget.fld pMAINS MAINS.BUDGET_POWER = s.mains.budget % 2 ^ MAINS.BUDGET_POWER.w := by
  rw [State.mainsBudget_up hl, State.fld_put_same _ _ _ _ (by decide)]

@[simp] theorem State.fld_mainsBudget_apart {g : Fld} (h : regKey pMAINS g.off ≠ regKey pMAINS MAINS.BUDGET_POWER.off) : s.mainsBudget.fld pMAINS g = s.fld pMAINS g :=
  State.fld_put_ne _ _ h

@[simp] theorem State.flag_mainsBudget_apart {g : Fld} (h : regKey pMAINS g.off ≠ regKey pMAINS MAINS.BUDGET_POWER.off) : s.mainsBudget.flag pMAINS g = s.flag pMAINS g :=
  State.flag_put_ne _ _ h

@[simp] theorem State.mainsBudget_mains : s.mainsBudget.mains = s.mains := rfl

/-- The copy of what the companion measured, before its line state is shown. -/
def State.mainsCopy (s : State) : State :=
  (((((s.put pMAINS MAINS.LINE_V_RMS s.mains.rms).put pMAINS MAINS.LINE_V_PEAK s.mains.peak).put pMAINS MAINS.LINE_F_FREQ s.mains.freq).putB pMAINS MAINS.LINE_F_DC
    s.mains.dc).bump pMAINS MAINS.STATE_SAG_COUNT s.mains.sagNew).modMains fun m => { m with sagNew := 0 }

theorem State.mainsShow_eq (hon : s.mainsOn = true) (hl : s.mains.link = true) : s.mainsShow = s.mainsCopy.mainsLine s.mains.line := by
  unfold State.mainsShow
  rw [if_neg (by simp [State.mainsUp, hon, hl])]
  unfold State.mainsCopy
  rfl

theorem State.mainsCopy_mains : s.mainsCopy.mains = { s.mains with sagNew := 0 } := by
  simp -implicitDefEqProofs (disch := (clear * -; decide +revert)) [State.mainsCopy, State.bump]

/-- The fields copied, and the line state that the copy leaves. -/
theorem State.fld_mainsCopy : s.mainsCopy.fld pMAINS MAINS.LINE_V_RMS = s.mains.rms % 2 ^ MAINS.LINE_V_RMS.w ∧
    s.mainsCopy.fld pMAINS MAINS.LINE_V_PEAK = s.mains.peak % 2 ^ MAINS.LINE_V_PEAK.w ∧ s.mainsCopy.fld pMAINS MAINS.LINE_F_FREQ = s.mains.freq % 2 ^ MAINS.LINE_F_FREQ.w ∧
    s.mainsCopy.flag pMAINS MAINS.LINE_F_DC = s.mains.dc ∧ s.mainsCopy.fld pMAINS MAINS.STATE_LINE = s.fld pMAINS MAINS.STATE_LINE := by
  simp -implicitDefEqProofs (disch := (clear * -; decide +revert)) [State.mainsCopy, State.bump, State.fld_put_same, State.flag_put_same, State.flag_raise]

/-- A line state other than the one shown raises STATE_CHG, and state 3 LOSS. -/
theorem State.mainsLine_changed {n : Nat} (hl : s.mains.link = true) (h : s.fld pMAINS MAINS.STATE_LINE ≠ n) :
    (s.mainsLine n).mains = s.mains ∧ (s.mainsLine n).fld pMAINS MAINS.STATE_LINE = n % 2 ^ MAINS.STATE_LINE.w ∧ (s.mainsLine n).flag pMAINS MAINS.PG_EVT_STATE_CHG = true ∧
    (n = 3 → (s.mainsLine n).flag pMAINS MAINS.PG_EVT_LOSS = true) ∧ (s.mainsLine n).fld pMAINS MAINS.BUDGET_POWER = s.mains.budget % 2 ^ MAINS.BUDGET_POWER.w := by
  unfold State.mainsLine
  rw [if_neg h]
  extract_lets u w
  have hu : u.mains = s.mains ∧ u.fld pMAINS MAINS.STATE_LINE = n % 2 ^ MAINS.STATE_LINE.w ∧ u.flag pMAINS MAINS.PG_EVT_STATE_CHG = true := by
    simp -implicitDefEqProofs (disch := (clear * -; decide +revert)) [u, State.fld_put_same, State.flag_put_same, State.flag_raise]
  clear_value u
  obtain ⟨hm, hst, hchg⟩ := hu
  have hw : w.mains = s.mains ∧ w.fld pMAINS MAINS.STATE_LINE = n % 2 ^ MAINS.STATE_LINE.w ∧ w.flag pMAINS MAINS.PG_EVT_STATE_CHG = true ∧
      (n = 3 → w.flag pMAINS MAINS.PG_EVT_LOSS = true) := by
    unfold w
    split
    · simp -implicitDefEqProofs (disch := (clear * -; decide +revert)) [hm, hst, hchg]
    · simp -implicitDefEqProofs (disch := (clear * -; decide +revert)) [hm, hst, hchg]
    · simp -implicitDefEqProofs (disch := (clear * -; decide +revert)) [hm, hst, hchg, State.fld_put_same, State.flag_put_same, State.flag_raise]
    · rename_i h3
      simp -implicitDefEqProofs (disch := (clear * -; decide +revert)) [hm, hst, hchg]
      exact fun h => absurd h h3
  clear_value w
  obtain ⟨hm, hst, hchg, hloss⟩ := hw
  rw [State.mainsBudget_shows (by rw [hm, hl])]
  simp -implicitDefEqProofs (disch := (clear * -; decide +revert)) [hm, hst, hchg]
  exact hloss

/-- The budget shown follows the line state, changed or not. -/
theorem State.mainsLine_budget {n : Nat} (hl : s.mains.link = true) :
    (s.mainsLine n).mains = s.mains ∧ (s.mainsLine n).fld pMAINS MAINS.BUDGET_POWER = s.mains.budget % 2 ^ MAINS.BUDGET_POWER.w := by
  by_cases h : s.fld pMAINS MAINS.STATE_LINE = n
  · rw [State.mainsLine, if_pos h]
    exact ⟨rfl, State.mainsBudget_shows hl⟩
  · obtain ⟨hm, -, -, -, hb⟩ := State.mainsLine_changed hl h
    exact ⟨hm, hb⟩

/-- Showing the companion's state leaves CONV_FAIL. -/
theorem State.flag_mainsLine_convFail (n : Nat) : (s.mainsLine n).flag pMAINS MAINS.PG_EVT_CONV_FAIL = s.flag pMAINS MAINS.PG_EVT_CONV_FAIL := by
  unfold State.mainsLine
  split
  · simp -implicitDefEqProofs (disch := (clear * -; decide +revert)) []
  · dsimp only
    split <;> simp -implicitDefEqProofs (disch := (clear * -; decide +revert)) []

theorem State.flag_mainsCopy_convFail : s.mainsCopy.flag pMAINS MAINS.PG_EVT_CONV_FAIL = s.flag pMAINS MAINS.PG_EVT_CONV_FAIL := by
  simp -implicitDefEqProofs (disch := (clear * -; decide +revert)) [State.mainsCopy, State.bump]

/-- The state after a measured cycle, before it is shown. -/
def State.lineCycle (s : State) (rms peak freq : BitVec 16) (dc : Bool) : State :=
  let u := s.modMains fun m =>
    let low := decide (rms.toNat < m.lowV)
    let sag := decide (rms.toNat < m.sagV)
    { m with
      below := if low then m.below + 1 else 0, belowSag := if sag then m.belowSag + 1 else 0, atLow := if low then 0 else m.atLow + 1
      atSag := if sag then 0 else m.atSag + 1, rms := rms.toNat, peak := peak.toNat, freq := if dc then 0 else freq.toNat, dc := dc
      sagNew := m.sagNew + sag.toNat }
  u.modMains fun m => { m with line := m.next rms.toNat }

theorem exec_lineCycleEnd (hon : s.mainsOn = true) (rms peak freq : BitVec 16) (dc : Bool) :
    exec (.lineCycleEnd rms peak freq dc) s = .next (s.lineCycle rms peak freq dc).mainsShow := if_neg (by simp [hon])

/-- HV_RISE raises CONV_EN once (R82). -/
theorem hvRise_first (s : State) (hx : s.part.x = true) (hseen : s.mains.hvSeen = false) :
    Leads (exec (.hvRise) s) fun t => s.Frame t [] [] [] [] ∧ t.mains = { s.mains with hvSeen := true, conv := true } ∧ t.regs = s.regs := by
  have e : exec .hvRise s = .next (s.modMains fun m => { m with hvSeen := true, conv := true }) := congrArg Host.Outcome.next (if_pos ⟨hx, hseen⟩)
  exact ⟨_, e, Frame.of e (execHvRise_touches) (execHvRise_stores) (execHvRise_answers), rfl, rfl⟩

/-- A good cycle is measured and leaves state OK (R83). -/
theorem lineCycleEnd_good (s : State) (rms peak freq : BitVec 16) (dc : Bool) (hx : s.part.x = true) (haon : s.aonOn = true) (hlink : s.mains.link = true) (hlow : s.mains.lowV ≤ rms.toNat) (hsag : s.mains.sagV ≤ rms.toNat) (hline : s.mains.line = 0) (hshown : s.fld pMAINS MAINS.STATE_LINE = 0) :
    Leads (exec (.lineCycleEnd rms peak freq dc) s) fun t => s.Frame t [] [(pMAINS, 0x24), (pMAINS, 0x20), (pMAINS, 0x28), (pMAINS, 0x48), (pMAINS, 0x10)] [] [] ∧ t.fld pMAINS MAINS.LINE_V_RMS = rms.toNat ∧ t.fld pMAINS MAINS.LINE_V_PEAK = peak.toNat ∧ t.fld pMAINS MAINS.LINE_F_FREQ = (if dc then 0 else freq.toNat) % 2 ^ MAINS.LINE_F_FREQ.w ∧ t.flag pMAINS MAINS.LINE_F_DC = dc ∧ t.fld pMAINS MAINS.STATE_LINE = 0 ∧ t.mains.below = 0 := by
  have hon : s.mainsOn = true := State.mainsOn_of hx haon
  have e := exec_lineCycleEnd hon rms peak freq dc
  refine ⟨_, e, Frame.of e (execLineCycleEnd_touches rms peak freq dc (by simp [inRegs]) (by simp [inRegs]) (by simp [inRegs]) (by simp [inRegs]) (by simp [inRegs])) (execLineCycleEnd_stores rms peak freq dc) (execLineCycleEnd_answers rms peak freq dc), ?_⟩
  have hm : (s.lineCycle rms peak freq dc).mains = { s.mains with below := 0, belowSag := 0, atLow := s.mains.atLow + 1, atSag := s.mains.atSag + 1, rms := rms.toNat,
                                                                  peak := peak.toNat, freq := if dc then 0 else freq.toNat, dc := dc, line := 0 } := by
    simp [State.lineCycle, Nat.not_lt.2 hlow, Nat.not_lt.2 hsag, MainsSt.next, hline]
  have hst : (s.lineCycle rms peak freq dc).fld pMAINS MAINS.STATE_LINE = 0 := by simpa [State.lineCycle] using hshown
  have hon' : (s.lineCycle rms peak freq dc).mainsOn = true := hon
  generalize s.lineCycle rms peak freq dc = u at *
  rw [State.mainsShow_eq hon' (by rw [hm, hlink])]
  obtain ⟨hv, hp, hf, hdc, hl⟩ := u.fld_mainsCopy
  rw [hm, State.mainsLine, if_pos (hl.trans hst)]
  simp -implicitDefEqProofs (disch := (clear * -; decide +revert)) [hv, hp, hf, hdc, hl, hst, State.mainsCopy_mains, hm]
  exact ⟨Nat.mod_eq_of_lt rms.isLt, Nat.mod_eq_of_lt peak.isLt⟩

/-- Enough low cycles lead to LOW (R83). -/
theorem lineCycleEnd_low (s : State) (rms peak freq : BitVec 16) (dc : Bool) (hx : s.part.x = true) (haon : s.aonOn = true) (hlink : s.mains.link = true) (hlow : rms.toNat < s.mains.lowV) (hsag : s.mains.sagV ≤ rms.toNat) (hline : s.mains.line = 0) (hshown : s.fld pMAINS MAINS.STATE_LINE = 0) (hcyc : max 1 s.mains.cyc ≤ s.mains.below + 1) :
    Leads (exec (.lineCycleEnd rms peak freq dc) s) fun t => s.Frame t [] [(pMAINS, 0x24), (pMAINS, 0x20), (pMAINS, 0x28), (pMAINS, 0x48), (pMAINS, 0x10)] [] [] ∧ t.fld pMAINS MAINS.STATE_LINE = 1 ∧ t.flag pMAINS MAINS.PG_EVT_STATE_CHG = true ∧ t.fld pMAINS MAINS.BUDGET_POWER = s.mains.budLow % 2 ^ MAINS.BUDGET_POWER.w := by
  have hon : s.mainsOn = true := State.mainsOn_of hx haon
  have e := exec_lineCycleEnd hon rms peak freq dc
  refine ⟨_, e, Frame.of e (execLineCycleEnd_touches rms peak freq dc (by simp [inRegs]) (by simp [inRegs]) (by simp [inRegs]) (by simp [inRegs]) (by simp [inRegs])) (execLineCycleEnd_stores rms peak freq dc) (execLineCycleEnd_answers rms peak freq dc), ?_⟩
  have hline : (s.lineCycle rms peak freq dc).mains.line = 1 := by
    simp [State.lineCycle, hlow, Nat.not_lt.2 hsag, MainsSt.next, hline, (max_le_iff.1 hcyc).2]
  have hbud : (s.lineCycle rms peak freq dc).mains.budLow = s.mains.budLow := rfl
  have hlink' : (s.lineCycle rms peak freq dc).mains.link = true := hlink
  have hst : (s.lineCycle rms peak freq dc).fld pMAINS MAINS.STATE_LINE = 0 := by simpa [State.lineCycle] using hshown
  have hon' : (s.lineCycle rms peak freq dc).mainsOn = true := hon
  generalize s.lineCycle rms peak freq dc = u at *
  rw [State.mainsShow_eq hon' hlink', hline]
  obtain ⟨-, -, -, -, hl⟩ := u.fld_mainsCopy
  obtain ⟨-, hs, hchg, -, hb⟩ := u.mainsCopy.mainsLine_changed (n := 1) (by rw [u.mainsCopy_mains]; exact hlink') (by rw [hl, hst]; decide)
  refine ⟨hs, hchg, ?_⟩
  rw [hb, u.mainsCopy_mains, ← hbud]
  simp [MainsSt.budget, hline]

/-- MAINS_LOSS is entered at once (R84). -/
theorem mainsLoss_enters (s : State) (hx : s.part.x = true) (haon : s.aonOn = true) (hlink : s.mains.link = true) (hst : s.fld pMAINS MAINS.STATE_LINE ≠ 3) :
    Leads (exec (.mainsLoss) s) fun t => s.Frame t [] [(pMAINS, 0x24), (pMAINS, 0x20), (pMAINS, 0x28), (pMAINS, 0x48), (pMAINS, 0x10)] [] [] ∧ t.mains.line = 3 ∧ t.fld pMAINS MAINS.STATE_LINE = 3 ∧ t.flag pMAINS MAINS.PG_EVT_STATE_CHG = true ∧ t.flag pMAINS MAINS.PG_EVT_LOSS = true ∧ t.fld pMAINS MAINS.BUDGET_POWER = s.mains.budLoss % 2 ^ MAINS.BUDGET_POWER.w := by
  have hon : s.mainsOn = true := State.mainsOn_of hx haon
  have e : exec .mainsLoss s = .next (s.modMains fun m => { m with line := 3 }).mainsShow := congrArg Host.Outcome.next (if_pos hon)
  refine ⟨_, e, Frame.of e (execMainsLoss_touches (by simp [inRegs]) (by simp [inRegs]) (by simp [inRegs]) (by simp [inRegs]) (by simp [inRegs])) (execMainsLoss_stores) (execMainsLoss_answers), ?_⟩
  have hm : (s.modMains fun m => { m with line := 3 }).mains = { s.mains with line := 3 } := rfl
  have hst' : (s.modMains fun m => { m with line := 3 }).fld pMAINS MAINS.STATE_LINE ≠ 3 := hst
  have hon' : (s.modMains fun m => { m with line := 3 }).mainsOn = true := hon
  generalize (s.modMains fun m => { m with line := 3 }) = u at *
  rw [State.mainsShow_eq hon' (by rw [hm, hlink]), hm]
  obtain ⟨-, -, -, -, hl⟩ := u.fld_mainsCopy
  obtain ⟨hmc, hs, hchg, hloss, hb⟩ := u.mainsCopy.mainsLine_changed (n := 3) (by rw [u.mainsCopy_mains, hm]; exact hlink) (by rw [hl]; exact hst')
  rw [u.mainsCopy_mains, hm] at hmc hb
  exact ⟨by rw [hmc], hs, hchg, hloss rfl, hb⟩

/-- What was written is in force in the companion (R86). -/
theorem mainsWriteSync_done (s : State) (hx : s.part.x = true) (haon : s.aonOn = true) (hlink : s.mains.link = true) :
    Leads (exec (.mainsWriteSync) s) fun t => s.Frame t [] [(pMAINS, 0x48), (pMAINS, 0x0C)] [] [] ∧ t.flag pMAINS MAINS.PG_STAT_SYNC_PEND = false ∧ t.mains.lowV = s.fld pMAINS MAINS.LOW_V_LEVEL ∧ t.mains.sagV = s.fld pMAINS MAINS.SAG_V_LEVEL ∧ t.mains.cyc = s.fld pMAINS MAINS.SAG_TIME_SAG_CYC ∧ t.mains.budLow = s.fld pMAINS MAINS.BUD_LOW_POWER ∧ t.mains.budSag = s.fld pMAINS MAINS.BUD_SAG_POWER ∧ t.mains.budLoss = s.fld pMAINS MAINS.BUD_LOSS_POWER ∧ t.fld pMAINS MAINS.STATE_LINE = s.fld pMAINS MAINS.STATE_LINE := by
  have e : exec .mainsWriteSync s = _ := congrArg Host.Outcome.next (if_pos (by simp [State.mainsUp, State.mainsOn_of hx haon, hlink]))
  refine ⟨_, e, Frame.of e (execMainsWriteSync_touches (by simp [inRegs]) (by simp [inRegs])) (execMainsWriteSync_stores) (execMainsWriteSync_answers), ?_⟩
  simp -implicitDefEqProofs (disch := (clear * -; decide +revert)) [State.fld_put_same, State.flag_put_same, State.flag_raise]

/-- The barrier link is lost (R87). -/
theorem barrierLinkLoss_raises (s : State) (hx : s.part.x = true) (haon : s.aonOn = true) (hlink : s.mains.link = true) :
    Leads (exec (.barrierLinkLoss) s) fun t => s.Frame t [] [(pMAINS, 0x48), (pMAINS, 0x10)] [] [] ∧ t.mains.link = false ∧ t.mains.conv = true ∧ t.flag pMAINS MAINS.PG_EVT_LINK_ERR = true ∧ t.fld pMAINS MAINS.BUDGET_POWER = s.fld pMAINS MAINS.BUD_SAG_POWER := by
  have e : exec .barrierLinkLoss s = _ := (if_pos ⟨hx, hlink⟩).trans (congrArg Host.Outcome.next (if_pos haon))
  refine ⟨_, e, Frame.of e (execBarrierLinkLoss_touches (by simp [inRegs]) (by simp [inRegs])) (execBarrierLinkLoss_stores) (execBarrierLinkLoss_answers), ?_⟩
  rw [State.mainsBudget_down rfl]
  simp -implicitDefEqProofs (disch := (clear * -; decide +revert)) [State.fld_put_same, State.flag_put_same, State.flag_raise]
  exact Nat.mod_eq_of_lt (s.fld_lt pMAINS MAINS.BUD_SAG_POWER)

/-- It has returned (R87). -/
theorem barrierLinkRecovery_shows (s : State) (hx : s.part.x = true) (haon : s.aonOn = true) (hline : s.mains.line = 1) :
    Leads (exec (.barrierLinkRecovery) s) fun t => s.Frame t [] [(pMAINS, 0x10), (pMAINS, 0x24), (pMAINS, 0x20), (pMAINS, 0x28), (pMAINS, 0x48)] [] [] ∧ t.mains.link = true ∧ t.mains.convFail = false ∧ t.fld pMAINS MAINS.BUDGET_POWER = s.mains.budLow % 2 ^ MAINS.BUDGET_POWER.w ∧ (s.mains.convFail = true → t.flag pMAINS MAINS.PG_EVT_CONV_FAIL = true) := by
  have e : exec .barrierLinkRecovery s = _ := (if_pos hx).trans (if_pos haon)
  refine ⟨_, e, Frame.of e (execBarrierLinkRecovery_touches (by simp [inRegs]) (by simp [inRegs]) (by simp [inRegs]) (by simp [inRegs]) (by simp [inRegs])) (execBarrierLinkRecovery_stores) (execBarrierLinkRecovery_answers), ?_⟩
  generalize hw : ((s.modMains fun m => { m with link := true }).raiseIf _ _ _).modMains _ = w
  have hm : w.mains = { s.mains with link := true, convFail := false } := by simp [← hw]
  have hcf : s.mains.convFail = true → w.flag pMAINS MAINS.PG_EVT_CONV_FAIL = true := by
    intro hf
    simp -implicitDefEqProofs (disch := (clear * -; decide +revert)) [← hw, hf, State.fld_put_same, State.flag_put_same, State.flag_raise]
  have hon : w.mainsOn = true := by
    rw [← hw]
    exact State.mainsOn_of (by simpa using hx) (by simpa [State.aonOn] using haon)
  rw [State.mainsShow_eq hon (by rw [hm])]
  have hmc := w.mainsCopy_mains
  rw [hm] at hmc
  obtain ⟨hml, hb⟩ := w.mainsCopy.mainsLine_budget (n := w.mains.line) (by rw [hmc])
  rw [hml, hb, hmc, State.flag_mainsLine_convFail, State.flag_mainsCopy_convFail]
  exact ⟨rfl, rfl, by simp [MainsSt.budget, hline], hcf⟩

/-- Settles O28: one lemma for each clause. -/
theorem mainsCommandsComplete : Obligations.MainsCommandsComplete := by
  unfold Obligations.MainsCommandsComplete
  exact ⟨hvRise_first, lineCycleEnd_good, lineCycleEnd_low, mainsLoss_enters, mainsWriteSync_done, barrierLinkLoss_raises, barrierLinkRecovery_shows⟩

end Sys2Proof.Machine
end

section
/-!
PROOFS. Records of the central store (R143), the contract snapshot (R219) and the converter's code (R226).
-/

set_option Elab.async false

namespace Sys2Proof.Machine

/-! ### Bytes written and read back -/

/-- What a list of bytes written reads back, at its own length. -/
theorem Sparse.getList_setList {α : Type} [DecidableEq α] (d : Nat → α) (l : List α) (m : List (Nat × α)) (a : Nat) :
    Sparse.getList d (Sparse.setList d m a l) a l.length = l := by
  induction l generalizing m a with
  | nil => rfl
  | cons b bs ih =>
    rw [List.length_cons, Sparse.getList, Sparse.setList, ih, Sparse.get_setList_out _ _ _ _ _ (.inl (Nat.lt_succ_self a)), Sparse.get_set_same]

/-- A range splits where one likes. -/
theorem Sparse.getList_add {α : Type} (d : Nat → α) (m : List (Nat × α)) (a k n : Nat) :
    Sparse.getList d m a (k + n) = Sparse.getList d m a k ++ Sparse.getList d m (a + k) n := by
  induction k generalizing a with
  | zero => simp [Sparse.getList]
  | succ k ih => rw [Nat.add_right_comm, Sparse.getList, ih, Sparse.getList, List.cons_append, Nat.add_right_comm a 1 k, Nat.add_assoc a k 1]

theorem Sparse.length_getList {α : Type} (d : Nat → α) (m : List (Nat × α)) (a n : Nat) : (Sparse.getList d m a n).length = n := by
  induction n generalizing a with
  | zero => rfl
  | succ n ih => rw [Sparse.getList, List.length_cons, ih]

/-- A part of a list written reads back. -/
theorem Sparse.getList_setList_mid {α : Type} [DecidableEq α] (d : Nat → α) (x y z : List α) (m : List (Nat × α)) (a : Nat) :
    Sparse.getList d (Sparse.setList d m a (x ++ y ++ z)) (a + x.length) y.length = y := by
  have h := Sparse.getList_setList d (x ++ y ++ z) m a
  rw [List.length_append, List.length_append, Sparse.getList_add, Sparse.getList_add] at h
  refine (List.append_inj (List.append_inj h ?_).1 (Sparse.length_getList ..)).2
  rw [List.length_append, List.length_append, Sparse.length_getList, Sparse.length_getList]

theorem leNat_leBytes (n v : Nat) : leNat (leBytes n v) = v % 256 ^ n := by
  induction n generalizing v with
  | zero => simp [leBytes, leNat, Nat.mod_one]
  | succ n ih =>
    rw [leBytes, leNat, ih, BitVec.toNat_ofNat, pow_succ' 256 n, Nat.mod_mul]

theorem leBytes_four (v : Nat) : leBytes 4 v = leBytes 2 v ++ leBytes 2 (v / 256 / 256) := rfl

theorem crcStep_lt (w poly c : Nat) (b : Bool) (hp : poly < 2 ^ w) : crcStep w poly c b < 2 ^ w := by
  have hc : c * 2 % 2 ^ w < 2 ^ w := Nat.mod_lt _ (Nat.two_pow_pos w)
  unfold crcStep
  dsimp only
  split
  · exact Nat.xor_lt_two_pow hc hp
  · exact hc

/-- A CRC-16 fits 16 bits. -/
theorem crc16From_lt {c : Nat} (hc : c < 2 ^ 16) (bs : List Byte) : crc16From c bs < 2 ^ 16 := by
  have step : ∀ (l : List Nat) (b : Byte) (c : Nat), c < 2 ^ 16 → l.foldl (fun c i => crcStep 16 0x1021 c (b.getLsbD i)) c < 2 ^ 16 := by
    intro l b
    induction l with
    | nil => exact fun _ h => h
    | cons i l ih => exact fun c _ => ih _ (crcStep_lt _ _ _ _ (by decide))
  unfold crc16From
  induction bs generalizing c with
  | nil => exact hc
  | cons b bs ih => exact ih (step _ b c hc)

theorem crc16_lt (bs : List Byte) : crc16 bs < 2 ^ 16 := crc16From_lt (by decide) bs

/-! ### Records of the central store -/

variable (s : State)

/-- A write inside the store puts all of its bytes. -/
theorem State.stWrite_store_of_le {a : Nat} {bs : List Byte} (h : a + bs.length ≤ storeTop) : (s.stWrite a bs).store = Sparse.setList storeDflt s.store a bs := by
  show Sparse.setList storeDflt s.store a (bs.take (storeTop - a)) = _
  rw [List.take_of_length_le (by omega)]

/-- A part of what a write puts inside the store reads back. -/
theorem State.stRead_stWrite_mid {a : Nat} (x y z : List Byte) (h : a + (x ++ y ++ z).length ≤ storeTop) : (s.stWrite a (x ++ y ++ z)).stRead (a + x.length) y.length = y := by
  unfold State.stRead
  rw [s.stWrite_store_of_le h, Sparse.getList_setList_mid]

/-- The bytes outside it read as before. -/
theorem State.stRead_stWrite_out {a b n : Nat} (bs : List Byte) (h : b + n ≤ a) : (s.stWrite a bs).stRead b n = s.stRead b n := by
  unfold State.stRead State.stWrite
  dsimp only
  induction n generalizing b with
  | zero => rfl
  | succ n ih => rw [Sparse.getList, Sparse.getList, ih (by omega), Sparse.get_setList_out _ _ _ _ _ (.inl (by omega))]

/-- What was written holds correct parity (R143). -/
theorem State.stBadIn_stWrite {a : Nat} {bs : List Byte} (h : a + bs.length ≤ storeTop) : (s.stWrite a bs).stBadIn a bs.length = false := by
  unfold State.stBadIn State.stWrite
  dsimp only
  rw [List.take_of_length_le (by omega), List.any_eq_false]
  intro b hb
  have hout : b < a ∨ a + bs.length ≤ b := by simpa using (List.mem_filter.1 hb).2
  simp
  omega

/-- A record written reads back and checks (R144). -/
theorem State.stRecord_checks {a : Nat} {body : List Byte} (h : a + (body.length + 2) ≤ storeTop) :
    (s.stRecord a body).stRead a body.length = body ∧ (s.stRecord a body).stChecks a (body.length + 2) = true := by
  have hlen : (body ++ leBytes 2 (crc16 body)).length = body.length + 2 := by simp
  have hbody : (s.stRecord a body).stRead a body.length = body := s.stRead_stWrite_mid [] body (leBytes 2 (crc16 body)) (by simpa using h)
  have hcrc : (s.stRecord a body).stRead (a + body.length) 2 = leBytes 2 (crc16 body) := by
    have := s.stRead_stWrite_mid body (leBytes 2 (crc16 body)) [] (a := a) (by simpa using h)
    rwa [List.append_nil, length_leBytes] at this
  have hbad : (s.stRecord a body).stBadIn a (body.length + 2) = false := by
    rw [← hlen]
    exact s.stBadIn_stWrite (by rw [hlen]; exact h)
  refine ⟨hbody, ?_⟩
  rw [State.stChecks, hbad, Nat.add_sub_cancel, hbody, show a + (body.length + 2) - 2 = a + body.length by omega, State.stNat, hcrc, leNat_leBytes,
    show 256 ^ 2 = 2 ^ 16 from rfl, Nat.mod_eq_of_lt (crc16_lt body)]
  simp

/-- A record with another stored CRC does not check. -/
theorem State.stChecks_stPut_wrong {a n crc : Nat} (h : a + n + 2 ≤ storeTop) (hlt : crc < 2 ^ 16) (hne : crc ≠ crc16 (s.stRead a n)) :
    (s.stPut (a + n) 2 crc).stChecks a (n + 2) = false := by
  have hbody : (s.stPut (a + n) 2 crc).stRead a n = s.stRead a n := s.stRead_stWrite_out _ (Nat.le_refl _)
  have hcrc : (s.stPut (a + n) 2 crc).stRead (a + n) 2 = leBytes 2 crc := by
    have := s.stRead_stWrite_mid [] (leBytes 2 crc) [] (a := a + n) (by simpa using h)
    simpa [State.stPut] using this
  rw [State.stChecks, Nat.add_sub_cancel, hbody, show a + (n + 2) - 2 = a + n by omega, State.stNat, hcrc, leNat_leBytes, show 256 ^ 2 = 2 ^ 16 from rfl, Nat.mod_eq_of_lt hlt]
  simp [hne.symm]

/-- Settles O18: a record reads back and checks, and one with another CRC does not. -/
theorem storeRecordsCheck : Obligations.StoreRecordsCheck := by
  unfold Obligations.StoreRecordsCheck
  refine ⟨fun s a body h => ?_, fun s a n crc h hlt hne => s.stChecks_stPut_wrong h hlt hne⟩
  obtain ⟨hread, hchecks⟩ := s.stRecord_checks h
  refine ⟨hread, hchecks, fun i _ hi => ?_⟩
  have hout : i < a ∨ a + (body.length + 2) ≤ i := hi _ (List.mem_singleton_self _)
  rw [State.stByte, State.stRecord, State.stWrite_store_of_le _ (by simpa using h)]
  exact Sparse.get_setList_out _ _ _ _ _ (by simpa using hout)

/-! ### The contract snapshot -/

/-- The flags word of the snapshot that a commit writes: VALID, the attach generation and the flags (Table 9.1). -/
def State.snapHead (s : State) (n : Port) : Nat := s.fld (pPOL n) POL.CON_FLAGS_FLAGS % 1024 + 65536 * s.gen n + 2 ^ 31

/-- The 28 bytes of a snapshot that its CRC covers. -/
def snapBody (head pdo rdo vi old tick : Nat) : List Byte :=
  leBytes 4 head ++ leBytes 4 pdo ++ leBytes 4 rdo ++ leBytes 4 vi ++ leBytes 4 old ++ leBytes 4 tick ++ leBytes 4 0

theorem length_snapBody {head pdo rdo vi old tick : Nat} : (snapBody head pdo rdo vi old tick).length = 28 := by
  simp only [snapBody, List.length_append, length_leBytes]

theorem State.commit_aos (n : Port) : ∃ pdo rdo old : Nat,
    let body := snapBody (s.snapHead n) pdo rdo (s.fld (pPOL n) POL.CON_VI_V + 65536 * s.fld (pPOL n) POL.CON_VI_I) old s.tick
    (s.commit n).aos = Sparse.setList ramDflt s.aos (snapAt n) (body ++ leBytes 4 (crc16 body)) := by
  unfold State.commit
  extract_lets pg flags trans was v pmax vOld pm oldWin body u1 u2 u3 u4
  refine ⟨(s.rd pg POL.CON_PDO_OBJ.off).toNat, (s.rd pg POL.CON_RDO_OBJ.off).toNat, vOld + 65536 * pm, ?_⟩
  have h1 : u1.aos = Sparse.setList ramDflt s.aos (snapAt n) (body ++ leBytes 4 (crc16 body)) := rfl
  clear_value u1
  have h2 : u2.aos = u1.aos := State.modPort_aos ..
  clear_value u2
  have h3 : u3.aos = u2.aos := by
    unfold u3
    split
    · exact State.put_aos ..
    · rfl
  clear_value u3
  have h4 : u4.aos = u3.aos := by
    unfold u4
    split
    · exact State.put_aos ..
    · rfl
  clear_value u4
  exact (State.raise_aos ..).trans (h4.trans (h3.trans (h2.trans h1)))

/-- What a commit leaves in the snapshot: its first word, its voltages, its tick, and a CRC that matches. -/
theorem State.snap_commit (n : Port) : (s.commit n).snapWord n 0 = s.snapHead n % 2 ^ 32 ∧
    (s.commit n).snapWord n 3 = (s.fld (pPOL n) POL.CON_VI_V + 65536 * s.fld (pPOL n) POL.CON_VI_I) % 2 ^ 32 ∧
    (s.commit n).snapWord n 5 = s.tick % 2 ^ 32 ∧ (s.commit n).snapCrcOk n = true := by
  obtain ⟨pdo, rdo, old, h⟩ := s.commit_aos n
  dsimp only at h
  generalize s.fld (pPOL n) POL.CON_VI_V + 65536 * s.fld (pPOL n) POL.CON_VI_I = vi at h ⊢
  generalize hc : crc16 (snapBody (s.snapHead n) pdo rdo vi old s.tick) = crc at h
  have read : ∀ x y z : List Byte, ∀ a k : Nat, snapBody (s.snapHead n) pdo rdo vi old s.tick ++ leBytes 4 crc = x ++ y ++ z → a = snapAt n + x.length → k = y.length →
      (s.commit n).aosRead a k = y := by
    rintro x y z _ _ e rfl rfl
    rw [State.aosRead, h, e]
    exact Sparse.getList_setList_mid ..
  have hcrc : crc < 2 ^ 16 := hc ▸ crc16_lt _
  have word : ∀ x z : List Byte, ∀ v k : Nat, snapBody (s.snapHead n) pdo rdo vi old s.tick ++ leBytes 4 crc = x ++ leBytes 4 v ++ z → 4 * k = x.length →
      (s.commit n).snapWord n k = v % 2 ^ 32 := by
    intro x z v k e hk
    rw [State.snapWord, State.aosNat, read x (leBytes 4 v) z _ _ e (by rw [hk]) (by simp), leNat_leBytes, show 256 ^ 4 = 2 ^ 32 by norm_num]
  refine ⟨word [] (leBytes 4 pdo ++ leBytes 4 rdo ++ leBytes 4 vi ++ leBytes 4 old ++ leBytes 4 s.tick ++ leBytes 4 0 ++ leBytes 4 crc) _ 0 ?_ rfl,
    word (leBytes 4 (s.snapHead n) ++ leBytes 4 pdo ++ leBytes 4 rdo) (leBytes 4 old ++ leBytes 4 s.tick ++ leBytes 4 0 ++ leBytes 4 crc) _ 3 ?_ (by simp),
    word (leBytes 4 (s.snapHead n) ++ leBytes 4 pdo ++ leBytes 4 rdo ++ leBytes 4 vi ++ leBytes 4 old) (leBytes 4 0 ++ leBytes 4 crc) _ 5 ?_ (by simp), ?_⟩
  · simp only [snapBody, List.append_assoc, List.nil_append]
  · simp only [snapBody, List.append_assoc]
  · simp only [snapBody, List.append_assoc]
  · have hb := read [] (snapBody (s.snapHead n) pdo rdo vi old s.tick) (leBytes 4 crc) (snapAt n) 28 (by rw [List.nil_append]) (Nat.add_zero _).symm length_snapBody.symm
    have hw := read (snapBody (s.snapHead n) pdo rdo vi old s.tick) (leBytes 2 crc) (leBytes 2 (crc / 256 / 256)) (snapAt n + 28) 2
      (by rw [leBytes_four, List.append_assoc]) (by rw [length_snapBody]) (by rw [length_leBytes])
    rw [State.snapCrcOk, State.aosNat, hb, hw, hc, leNat_leBytes, show 256 ^ 2 = 2 ^ 16 from rfl, Nat.mod_eq_of_lt hcrc]
    exact beq_self_eq_true _

/-- Settles O19: the snapshot's words as written, and what a commit leaves alone. -/
theorem commitWritesAValidSnapshot : Obligations.CommitWritesAValidSnapshot := by
  unfold Obligations.CommitWritesAValidSnapshot
  intro s n
  obtain ⟨hhead, hvi, htick, hcrc⟩ := s.snap_commit n
  have hg : s.gen n < 2 ^ 8 := s.fld_lt _ _
  have hv : s.fld (pPOL n) POL.CON_VI_V < 2 ^ 12 := s.fld_lt _ _
  have hkeep : Keeps ⟨true, true, true, false, true, true, true, true, true, true, true, true, true, true, false⟩ s (s.commit n) := State.commit_keeps n (Keeps.refl _ _)
  refine ⟨?_, ?_, ?_, htick, AosBut.of (store := []) (by simp) (s.commit_stores n (StSame.refl _ _) fun x h1 h2 => ?_), hkeep.store rfl⟩
  · rw [State.snapValid, hcrc, State.snapMarked, hhead, Bool.and_true]
    simp only [State.snapHead, bitAt, beq_iff_eq]
    omega
  · rw [State.snapV, hvi]
    simp only [bitsOf]
    omega
  · rw [hhead]
    simp only [State.snapHead, bitsOf]
    omega
  · exact inBytes_aos (snapBytes n) (List.mem_singleton_self _) x (by simp only [snapBytes]; omega) (by simp only [snapBytes]; omega)

/-! ### The converter's code -/

/-- The rounded quotient: no further from the quotient than half, and away from zero at a tie. -/
theorem roundDiv_nearest (a : Int) {b : Int} (hb : 0 < b) :
    2 * (a - roundDiv a b * b).natAbs ≤ b.natAbs ∧ (2 * (a - roundDiv a b * b).natAbs = b.natAbs → a.natAbs < (roundDiv a b * b).natAbs) := by
  unfold roundDiv
  rw [if_neg (by omega)]
  split
  · have h1 := Int.ediv_mul_le (2 * a + b) (show 2 * b ≠ 0 by omega)
    have h2 := Int.lt_ediv_add_one_mul_self (2 * a + b) (show 0 < 2 * b by omega)
    generalize (2 * a + b) / (2 * b) = q at *
    rw [show q * (2 * b) = 2 * (q * b) by ring] at h1
    rw [show (q + 1) * (2 * b) = 2 * (q * b) + 2 * b by ring] at h2
    generalize q * b = p at *
    omega
  · have h1 := Int.ediv_mul_le (2 * (-a) + b) (show 2 * b ≠ 0 by omega)
    have h2 := Int.lt_ediv_add_one_mul_self (2 * (-a) + b) (show 0 < 2 * b by omega)
    generalize (2 * (-a) + b) / (2 * b) = q at *
    rw [show q * (2 * b) = 2 * (q * b) by ring] at h1
    rw [show (q + 1) * (2 * b) = 2 * (q * b) + 2 * b by ring] at h2
    rw [show -q * b = -(q * b) by ring]
    generalize q * b = p at *
    omega

/-- A code of 16 bits, written without its sign and read with it. -/
theorem signed_unsigned_clamp (c : Int) : signed 16 (unsigned 16 (max (-32767) (min 32767 c)) % 2 ^ 16) = max (-32767) (min 32767 c) := by
  have h : max (-32767) (min 32767 c) ≤ 32767 ∧ -32767 ≤ max (-32767) (min 32767 c) := by omega
  generalize max (-32767) (min 32767 c) = d at *
  unfold signed unsigned
  split <;> omega

/-- The code that drives a target: none for a target of 0 (R226). -/
def State.convCode (s : State) (n : Port) (t : Nat) : Int :=
  if t = 0 then 0 else roundDiv (640 * ((t : Int) - 4 * (s.inf (pPOL n) POL.CONV_CFG_V0 : Int))) (max 10 (s.inf (pPOL n) POL.CONV_CFG_RT_KOHM) : Nat)

/-- A converter target without a twin trim drives its code, held at the limits. -/
theorem State.setTarget_shows {n : Port} {t : Nat} (h : (s.port n).pol.twinTrim = 0) :
    let u := s.setTarget n t
    let c := s.convCode n t
    u.fld (pPOL n) POL.CONV_STAT_I_CODE = unsigned 16 (max (-32767) (min 32767 c)) % 2 ^ 16 ∧ u.fld (pPOL n) POL.CONV_STAT_V_SET = t / 4 % 2 ^ 12 ∧
      u.flag (pPOL n) POL.CONV_STAT_SAT = decide (32767 < c.natAbs) ∧
      (32767 < c.natAbs → s.flag (pPOL n) POL.CONV_STAT_SAT = false → u.flag (pPOL n) POL.PG_EVT_CONV_SAT = true) := by
  unfold State.setTarget
  extract_lets pg u trimmed v0 rt code sat code' w w2 u' c
  have htrim : trimmed = t := by
    have hp : (u.port n).pol.twinTrim = 0 := by simp [u, State.modPol, h]
    simp only [trimmed, hp]
    split <;> omega
  have hc : code = c := by
    simp only [c, State.convCode, code, v0, rt, htrim, Nat.cast_max, Nat.cast_ofNat]
    rfl
  have hsat : sat = decide (32767 < c.natAbs) := by
    simp only [sat, hc]
    rw [Bool.eq_iff_iff]
    simp
    omega
  have hflag : u.flag pg POL.CONV_STAT_SAT = s.flag pg POL.CONV_STAT_SAT := rfl
  have hcode : code' = max (-32767) (min 32767 c) := by rw [← hc]
  simp only [u', w2, w, htrim, hsat, hcode]
  clear_value u c
  simp -implicitDefEqProofs (disch := (clear * -; decide +revert)) [pg, State.fld_put_same, hflag]
  refine ⟨rfl, rfl, fun hover hnone => .inl ⟨hover, hnone⟩⟩

/-- Settles O20: the code is the rounded quotient, and is shown as it is driven. -/
theorem converterCodeRounds : Obligations.ConverterCodeRounds := by
  unfold Obligations.ConverterCodeRounds
  intro s n t htrim ht
  obtain ⟨hcode, hv, hsat, hevt⟩ := s.setTarget_shows (t := t) htrim
  refine ⟨s.convCode n t, fun h => ?_, fun h => if_pos h, ?_, hsat, ?_, hevt⟩
  · rw [State.convCode, if_neg (by omega)]
    have hb : (0 : Int) < (max 10 (s.inf (pPOL n) POL.CONV_CFG_RT_KOHM) : Nat) := by omega
    exact roundDiv_nearest (640 * ((t : Int) - 4 * (s.inf (pPOL n) POL.CONV_CFG_V0 : Int))) hb
  · rw [hcode, signed_unsigned_clamp]
  · rw [hv, Nat.mod_eq_of_lt (by omega)]

end Sys2Proof.Machine
end

section
/-!
PROOFS. Words of the X slot and the M slot (Tables 17.7, 17.8).
-/

set_option Elab.async false

namespace Sys2Proof.Machine

variable (e n : EngSt) (x : SkW)

/-! ### What the writes of a word leave -/

@[simp] theorem EngSt.flg_setD (d : Fin 16) (v : Nat) : (n.setD d v).flg = n.flg := rfl
@[simp] theorem EngSt.flg_setAcc (d : Fin 4) (v : Int) : (n.setAcc d v).flg = n.flg := rfl

@[simp] theorem EngSt.flg_setP (i : Nat) (b : Bool) : (n.setP i b).flg = n.flg := by
  unfold EngSt.setP
  split <;> rfl

/-- A flag set or cleared is the only one that changes. -/
theorem EngSt.flg_setFlg {j : Nat} (hj : j < 32) (b : Bool) (i : Nat) : (n.setFlg j b).flg.getLsbD i = if i = j then b else n.flg.getLsbD i := by
  have hb := bitAt_setBits_one n.flg.toNat j i b
  rw [bitAt_eq_testBit, bitAt_eq_testBit, BitVec.testBit_toNat] at hb
  rw [EngSt.setFlg, BitVec.getLsbD_ofNat, hb]
  split
  · simp only [*, decide_true, Bool.true_and]
  · by_cases hi : i < 32
    · simp [hi]
    · simp [hi, BitVec.getLsbD_of_ge _ _ (Nat.le_of_not_lt hi)]

/-- A sticky flag gains the condition. -/
theorem EngSt.flg_stick {j : Nat} (hj : j < 32) (b : Bool) (i : Nat) : (n.stick j b).flg.getLsbD i = (n.flg.getLsbD i || (decide (i = j) && b)) := by
  unfold EngSt.stick
  split
  · rw [n.flg_setFlg hj]
    split <;> simp [*]
  · simp [*]

@[simp] theorem EngSt.d_setFlg (i : Nat) (b : Bool) : (n.setFlg i b).d = n.d := rfl
@[simp] theorem EngSt.acc_setFlg (i : Nat) (b : Bool) : (n.setFlg i b).acc = n.acc := rfl

@[simp] theorem EngSt.d_stick (i : Nat) (b : Bool) : (n.stick i b).d = n.d := by
  unfold EngSt.stick
  split <;> rfl

@[simp] theorem EngSt.acc_stick (i : Nat) (b : Bool) : (n.stick i b).acc = n.acc := by
  unfold EngSt.stick
  split <;> rfl

@[simp] theorem EngSt.d_setD (d : Fin 16) (v : Nat) : (n.setD d v).d.get d = BitVec.ofNat 32 v := by
  simp [EngSt.setD, Vector.get_eq_getElem]

@[simp] theorem EngSt.acc_setAcc (i : Fin 4) (v : Int) : (n.setAcc i v).acc.get i = BitVec.ofInt 72 v := by
  simp [EngSt.setAcc, Vector.get_eq_getElem]

/-! ### The forms of a word's result -/

/-- A word of the X slot writes a register, a predicate or nothing; the flags with it only where its opcode has them. -/
theorem execX_forms {q : EngSt → Prop} (hn : q n) (hd : ∀ v, q (n.setD x.d v)) (hp : ∀ b, q (n.setP x.pd b)) (hcv : x.op ∈ [0x01, 0x02, 0x03, 0x04, 0x07] → ∀ r, q (n.setCV x.d r))
    (hsat : ∀ v, q (n.setSat x.d v)) (hshl : x.op = 0x14 → ∀ v b, q ((n.setD x.d v).setFlg 0 b))
    (hdec : x.op ∈ [0x28, 0x29, 0x2A, 0x2B, 0x2C, 0x2D] → ∀ r err, q (n.setDec x.d r err)) : q (execX e n x) := by
  unfold execX
  dsimp only
  split <;> simp [*]

/-- A word of the M slot writes an accumulator or a register, with SAT at most. -/
theorem execM_forms {q : EngSt → Prop} (hn : q n) (hd : ∀ v, q (n.setD x.d v)) (hsatd : ∀ v b, q ((n.setD x.d v).stick 8 b)) (ha : ∀ i v, q (n.setAcc i v))
    (hsata : ∀ i v b, q ((n.setAcc i v).stick 8 b)) : q (execM e n x) := by
  have put : ∀ i sat v, q (n.putAcc i sat v) := by
    intro i sat v
    unfold EngSt.putAcc
    split
    · exact hsata ..
    · exact ha ..
  unfold execM
  dsimp only
  split
  case h_9 =>
    split
    · exact hsatd ..
    · exact hd ..
  all_goals simp only [put, ha, hn]

/-! ### Flags (R438) -/

theorem flg_setCV (d : Fin 16) (r : Nat × Bool × Bool) (i : Nat) :
    (n.setCV d r).flg.getLsbD i = if i = 1 then r.2.2 else if i = 0 then r.2.1 else n.flg.getLsbD i := by
  rw [EngSt.setCV, EngSt.flg_setFlg _ (by decide), EngSt.flg_setFlg _ (by decide), EngSt.flg_setD]

theorem flg_setSat (d : Fin 16) (v : Int) (i : Nat) : (n.setSat d v).flg.getLsbD i = (n.flg.getLsbD i || (decide (i = 8) && (clampS 32 v).2)) := by
  rw [EngSt.setSat, EngSt.flg_stick _ (by decide), EngSt.flg_setD]

theorem flg_setDec (d : Fin 16) (r : Nat × Int) (err : Bool) (i : Nat) :
    (n.setDec d r err).flg.getLsbD i = ((if i = 0 then r.2 != 0 else n.flg.getLsbD i) || (decide (i = 10) && err)) := by
  rw [EngSt.setDec, EngSt.flg_stick _ (by decide), EngSt.flg_setFlg _ (by decide), EngSt.flg_setD]

/-- Words of the M slot write SAT at most. -/
theorem execM_flg {i : Nat} (hi : i ≠ 8) : (execM e n x).flg.getLsbD i = n.flg.getLsbD i := by
  refine execM_forms e n x (q := fun u => u.flg.getLsbD i = n.flg.getLsbD i) rfl (fun _ => rfl) (fun _ _ => ?_) (fun _ _ => rfl) fun _ _ _ => ?_
  · rw [EngSt.flg_stick _ (by decide)]
    simp [hi]
  · rw [EngSt.flg_stick _ (by decide)]
    simp [hi]

/-- A sticky flag that is set stays set through a word of the M slot. -/
theorem execM_sticky {i : Nat} (h : n.flg.getLsbD i = true) : (execM e n x).flg.getLsbD i = true := by
  refine execM_forms e n x (q := fun u => u.flg.getLsbD i = true) h (fun _ => h) (fun _ _ => ?_) (fun _ _ => h) fun _ _ _ => ?_
  · rw [EngSt.flg_stick _ (by decide)]
    simp [h]
  · rw [EngSt.flg_stick _ (by decide)]
    simp [h]

/-- So it does through one of the X slot. -/
theorem execX_sticky {i : Nat} (hi : 8 ≤ i) (h : n.flg.getLsbD i = true) : (execX e n x).flg.getLsbD i = true := by
  have h0 : i ≠ 0 := by omega
  have h1 : i ≠ 1 := by omega
  refine execX_forms e n x (q := fun u => u.flg.getLsbD i = true) h (fun _ => h) (fun _ => by simpa using h) (fun _ _ => ?_) (fun _ => ?_) (fun _ _ _ => ?_) fun _ _ _ => ?_
  · simp [flg_setCV, h0, h1, h]
  · simp [flg_setSat, h]
  · simp [EngSt.flg_setFlg, h0, h]
  · simp [flg_setDec, h0, h]

/-- A word of the X slot that does not write a flag leaves it. -/
theorem execX_flg {i : Nat} (h1 : i = 1 → x.op ∉ [0x01, 0x02, 0x03, 0x04, 0x07]) (h8 : i ≠ 8) (h10 : i ≠ 10)
    (h0 : i = 0 → x.op ∉ [0x01, 0x02, 0x03, 0x04, 0x07, 0x14, 0x28, 0x29, 0x2A, 0x2B, 0x2C, 0x2D]) : (execX e n x).flg.getLsbD i = n.flg.getLsbD i := by
  refine execX_forms e n x (q := fun u => u.flg.getLsbD i = n.flg.getLsbD i) rfl (fun _ => rfl) (fun _ => by simp) (fun ho _ => ?_) (fun _ => ?_) (fun ho _ _ => ?_) fun ho _ _ => ?_
  · have n1 : i ≠ 1 := fun h => h1 h ho
    have n0 : i ≠ 0 := fun h => h0 h (by simp at ho ⊢; omega)
    simp [flg_setCV, n0, n1]
  · simp [flg_setSat, h8]
  · have n0 : i ≠ 0 := fun h => h0 h (by simp [ho])
    simp [EngSt.flg_setFlg, n0]
  · have n0 : i ≠ 0 := fun h => h0 h (by simp at ho ⊢; omega)
    simp [flg_setDec, n0, h10]

/-- Settles O22: what the forms of a word write to the flags. -/
theorem stickyFlagsOnlySet : Obligations.StickyFlagsOnlySet := by
  unfold Obligations.StickyFlagsOnlySet
  refine ⟨fun e n x i hi _ h => ⟨execX_sticky e n x hi h, execM_sticky e n x h⟩, fun e n x h => ?_, fun e n x h => ?_, fun e n x i hi => execM_flg e n x hi, fun e n x i hi => ?_⟩
  · exact execX_flg e n x (by simp) (by simp) (by simp) fun _ => h
  · exact execX_flg e n x (fun _ => h) (by simp) (by simp) (by simp)
  · simp only [List.mem_cons, List.not_mem_nil, or_false, not_or] at hi
    obtain ⟨h0, h1, h8, h10⟩ := hi
    exact execX_flg e n x (absurd · h1) h8 h10 (absurd · h0)

/-! ### Two's complement values -/

theorem signed_toNat (a : BitVec 32) : signed 32 a.toNat = a.toInt := by
  have := a.isLt
  rw [signed, BitVec.toInt_eq_toNat_cond]
  split <;> split <;> omega

/-- Writing an integer modulo 2^32. -/
theorem ofNat_unsigned (v : Int) : BitVec.ofNat 32 (unsigned 32 v) = BitVec.ofInt 32 v := by
  apply BitVec.eq_of_toNat_eq
  rw [unsigned, BitVec.toNat_ofNat, BitVec.toNat_ofInt]
  omega

/-- The clamp of an integer to a signed range. -/
theorem clampS_eq (k : Nat) (v : Int) : (clampS k v).1 = max (-((2 ^ (k - 1) : Nat) : Int)) (min (((2 ^ (k - 1) : Nat) : Int) - 1) v) := by
  have : 0 < 2 ^ (k - 1) := Nat.two_pow_pos _
  unfold clampS
  dsimp only
  split
  · omega
  · split <;> omega

/-- It acts where the value is outside the range. -/
theorem clampS_acts (k : Nat) (v : Int) : (clampS k v).2 = true ↔ v < -((2 ^ (k - 1) : Nat) : Int) ∨ ((2 ^ (k - 1) : Nat) : Int) - 1 < v := by
  have : 0 < 2 ^ (k - 1) := Nat.two_pow_pos _
  unfold clampS
  dsimp only
  split
  · exact iff_of_true rfl (.inr ‹_›)
  · split
    · exact iff_of_true rfl (.inl ‹_›)
    · exact iff_of_false (by simp) (by omega)

/-- An integer within 32 bits is read back with its sign. -/
theorem toInt_ofInt_clamp (k w : Nat) (hk : 1 ≤ k) (hw : k ≤ w) (v : Int) : (BitVec.ofInt w (clampS k v).1).toInt = (clampS k v).1 := by
  have h1 : (2 ^ (k - 1) : Nat) ≤ 2 ^ (w - 1) := Nat.pow_le_pow_right (by decide) (by omega)
  have h2 : (2 ^ w : Nat) = 2 * 2 ^ (w - 1) := by rw [← Nat.pow_succ', Nat.succ_eq_add_one, Nat.sub_add_cancel (by omega)]
  have h3 : 0 < 2 ^ (k - 1) := Nat.two_pow_pos _
  rw [clampS_eq, BitVec.toInt_ofInt]
  exact Int.bmod_eq_of_le (by omega) (by omega)

/-! ### Words of the X slot -/

theorem d_setCV (d : Fin 16) (r : Nat × Bool × Bool) : (n.setCV d r).d.get d = BitVec.ofNat 32 r.1 := by
  rw [EngSt.setCV, EngSt.d_setFlg, EngSt.d_setFlg, EngSt.d_setD]

/-- A sum with its carry and its signed overflow. -/
theorem setCV_addC (d : Fin 16) (a b : BitVec 32) :
    let u := n.setCV d (addC a.toNat b.toNat 0)
    u.d.get d = a + b ∧ u.flg.getLsbD 0 = decide (2 ^ 32 ≤ a.toNat + b.toNat) ∧ u.flg.getLsbD 1 = decide ((a + b).toInt ≠ a.toInt + b.toInt) := by
  dsimp only
  rw [d_setCV, flg_setCV, flg_setCV, addC]
  refine ⟨?_, by simp, ?_⟩
  · apply BitVec.eq_of_toNat_eq
    simp
  · rw [if_pos rfl, Bool.eq_iff_iff, clampS_acts, decide_eq_true_iff, signed_toNat, signed_toNat, BitVec.toInt_add, Int.bmod_def]
    have ha := a.toInt_lt
    have hb := b.toInt_lt
    have ha' := a.le_toInt
    have hb' := b.le_toInt
    simp at *
    omega

/-- A difference with its borrow and its signed overflow. -/
theorem setCV_subC (d : Fin 16) (a b : BitVec 32) :
    let u := n.setCV d (subC a.toNat b.toNat 0)
    u.d.get d = a - b ∧ u.flg.getLsbD 0 = decide (a.toNat < b.toNat) ∧ u.flg.getLsbD 1 = decide ((a - b).toInt ≠ a.toInt - b.toInt) := by
  dsimp only
  rw [d_setCV, flg_setCV, flg_setCV, subC]
  refine ⟨?_, by simp, ?_⟩
  · rw [ofNat_unsigned]
    apply BitVec.eq_of_toNat_eq
    rw [BitVec.toNat_ofInt, BitVec.toNat_sub]
    omega
  · rw [if_pos rfl, Bool.eq_iff_iff, clampS_acts, decide_eq_true_iff, signed_toNat, signed_toNat, BitVec.toInt_sub, Int.bmod_def]
    have ha := a.toInt_lt
    have hb := b.toInt_lt
    have ha' := a.le_toInt
    have hb' := b.le_toInt
    simp at *
    omega

/-- A saturated result. -/
theorem toInt_setSat (d : Fin 16) (v : Int) : ((n.setSat d v).d.get d).toInt = max (-2 ^ 31) (min (2 ^ 31 - 1) v) := by
  rw [EngSt.setSat, EngSt.d_stick, EngSt.d_setD, ofNat_unsigned, toInt_ofInt_clamp 32 32 (by decide) (by decide), clampS_eq]
  rfl

/-- A shift right with the sign. -/
theorem ofNat_sshiftRight (a : BitVec 32) (k : Nat) : BitVec.ofNat 32 (unsigned 32 (signed 32 a.toNat / (2 ^ k : Nat))) = a.sshiftRight k := by
  rw [ofNat_unsigned, signed_toNat, BitVec.sshiftRight, Int.shiftRight_eq_div_pow]

/-- A rotation. -/
theorem ofNat_rotateRight (a : BitVec 32) {k : Nat} (hk : k < 32) : BitVec.ofNat 32 (a.toNat / 2 ^ k + a.toNat * 2 ^ (32 - k)) = a.rotateRight k := by
  have hlo : BitVec.ofNat 32 (a.toNat / 2 ^ k) = a >>> k := by
    apply BitVec.eq_of_toNat_eq
    rw [BitVec.toNat_ofNat, BitVec.toNat_ushiftRight, Nat.shiftRight_eq_div_pow, Nat.mod_eq_of_lt ((Nat.div_le_self _ _).trans_lt a.isLt)]
  have hhi : BitVec.ofNat 32 (a.toNat * 2 ^ (32 - k)) = a <<< (32 - k) := by
    apply BitVec.eq_of_toNat_eq
    rw [BitVec.toNat_ofNat, BitVec.toNat_shiftLeft, Nat.shiftLeft_eq]
  have hdisj : a >>> k &&& a <<< (32 - k) = 0#32 := by
    ext i hi
    simp only [BitVec.getElem_and, BitVec.getElem_ushiftRight, BitVec.getElem_shiftLeft, BitVec.getElem_zero, Bool.and_eq_false_iff, Bool.not_eq_false', decide_eq_true_iff]
    by_cases h : i < 32 - k
    · exact .inr (.inl h)
    · exact .inl (BitVec.getLsbD_of_ge _ _ (by omega))
  rw [BitVec.ofNat_add, hlo, hhi, BitVec.add_eq_or_of_and_eq_zero _ _ hdisj, BitVec.rotateRight_def, Nat.mod_eq_of_lt hk]

theorem clz_le (v : Nat) : clz v ≤ 32 := by
  unfold clz
  cases hf : (List.range 32).find? fun i => bitAt v (31 - i) with
  | none => exact Nat.le_refl 32
  | some j => exact (List.mem_range.1 (List.find?_range_eq_some.1 hf).2.1).le

/-- The leading zeros of a value. -/
theorem clz_spec (a : BitVec 32) : (a = 0 → clz a.toNat = 32) ∧ ∀ i < 32, clz a.toNat = i ↔ a.getMsbD i = true ∧ ∀ j < i, a.getMsbD j = false := by
  have bit : ∀ i < 32, bitAt a.toNat (31 - i) = a.getMsbD i := by
    intro i hi
    rw [bitAt_eq_testBit, BitVec.testBit_toNat, BitVec.getMsbD_eq_getLsbD]
    simp [hi]
  unfold clz
  refine ⟨fun h => ?_, fun i hi => ?_⟩
  · subst h
    decide
  · cases hf : (List.range 32).find? fun i => bitAt a.toNat (31 - i) with
    | none =>
      rw [List.find?_range_eq_none] at hf
      have := hf i hi
      rw [bit i hi] at this
      simp at this ⊢
      simp [this]
      omega
    | some j =>
      obtain ⟨hj, hjm, hfirst⟩ := List.find?_range_eq_some.1 hf
      have hj32 : j < 32 := List.mem_range.1 hjm
      rw [bit j hj32] at hj
      rw [Option.getD_some]
      constructor
      · rintro rfl
        refine ⟨hj, fun k hk => ?_⟩
        have := hfirst k hk
        rw [bit k (by omega)] at this
        simpa using this
      · rintro ⟨hset, hclear⟩
        rcases Nat.lt_trichotomy j i with h | h | h
        · rw [hclear j h] at hj
          exact absurd hj (by decide)
        · exact h
        · have := hfirst i h
          rw [bit i hi, hset] at this
          exact absurd this (by decide)

/-! ### Words of the M slot -/

/-- The sum of what an accumulator holds and a product, modulo 2^72. -/
theorem ofInt_toInt_add (a : BitVec 72) (v : Int) : BitVec.ofInt 72 (a.toInt + v) = a + BitVec.ofInt 72 v := by
  rw [BitVec.ofInt_add, BitVec.ofInt_toInt]

/-- A product of two 32-bit values fits an accumulator. -/
theorem toInt_ofInt_product (a b : BitVec 32) {v : Int} (h : v = a.toInt * b.toInt ∨ v = -(a.toInt * b.toInt)) : (BitVec.ofInt 72 v).toInt = v := by
  have hp : (a.toInt * b.toInt).natAbs ≤ 2 ^ 31 * 2 ^ 31 := by
    rw [Int.natAbs_mul]
    have ha := a.toInt_lt
    have hb := b.toInt_lt
    have ha' := a.le_toInt
    have hb' := b.le_toInt
    exact Nat.mul_le_mul (by omega) (by omega)
  rw [BitVec.toInt_ofInt]
  exact Int.bmod_eq_of_le (by omega) (by omega)

/-- A clamped result in an accumulator. -/
theorem toInt_putAcc_sat (i : Fin 4) (v : Int) : ((n.putAcc i true v).acc.get i).toInt = max (-2 ^ 63) (min (2 ^ 63 - 1) v) := by
  rw [EngSt.putAcc, if_pos rfl, EngSt.acc_stick, EngSt.acc_setAcc, toInt_ofInt_clamp 64 72 (by decide) (by decide), clampS_eq]
  rfl

theorem acc_putAcc (i : Fin 4) (v : Int) : (n.putAcc i false v).acc.get i = BitVec.ofInt 72 v := n.acc_setAcc i v

/-- Settles O21: each word's result, as its lemma above gives it. -/
theorem skinkWordsComputeTheirTables : Obligations.SkinkWordsComputeTheirTables := by
  unfold Obligations.SkinkWordsComputeTheirTables
  intro e n x a b r cf vf sh p
  have hsh : (if bitAt x.w 6 then bitsOf x.w 0 5 else b.toNat % 32) = sh := by simp [sh, bitsOf]
  have hsh32 : sh < 32 := by
    simp only [sh]
    split <;> omega
  have hp : (if bitAt x.w 5 then -(signed 32 a.toNat * signed 32 b.toNat) else signed 32 a.toNat * signed 32 b.toNat) = p := by simp only [p, signed_toNat]
  refine ⟨fun h => ?_, fun h => ?_, fun h => ?_, fun h => ?_, fun h => ?_, fun h => ?_, fun h => ?_, fun h => ?_, fun h => ?_, fun h => ?_, fun h => ?_, fun h => ?_,
    fun h => ?_, fun h => ?_, fun h => ?_, fun h => ?_, fun h hs => ?_, fun h hs => ?_, fun h hs => ?_⟩
  · simp only [r, cf, vf, execX, h]
    exact setCV_addC n x.d a b
  · simp only [r, cf, vf, execX, h]
    exact setCV_subC n x.d a b
  · simp only [r, execX, h]
    rw [toInt_setSat, signed_toNat, signed_toNat]
  · simp only [r, execX, h]
    rw [toInt_setSat, signed_toNat, signed_toNat]
  · simp only [r, execX, h, EngSt.d_setD]
    exact BitVec.eq_of_toNat_eq (by simp [a, b])
  · simp only [r, execX, h, EngSt.d_setD]
    exact BitVec.eq_of_toNat_eq (by simp [a, b])
  · simp only [r, execX, h, EngSt.d_setD]
    exact BitVec.eq_of_toNat_eq (by simp [a, b])
  · simp only [r, execX, h, EngSt.d_setD]
    have hb := (e.d.get x.t).isLt
    exact BitVec.eq_of_toNat_eq (by simp [a, b, Nat.mod_eq_of_lt (show 4294967295 - (e.d.get x.t).toNat < 4294967296 by omega)])
  · simp only [r, execX, h, EngSt.d_setD]
    exact BitVec.eq_of_toNat_eq (by rw [hsh, BitVec.toNat_ofNat, BitVec.toNat_shiftLeft, Nat.shiftLeft_eq])
  · simp only [r, execX, h, EngSt.d_setD]
    exact BitVec.eq_of_toNat_eq (by rw [hsh, BitVec.toNat_ofNat, BitVec.toNat_ushiftRight, Nat.shiftRight_eq_div_pow, Nat.mod_eq_of_lt ((Nat.div_le_self _ _).trans_lt a.isLt)])
  · simp only [r, execX, h, EngSt.d_setD]
    rw [hsh]
    exact ofNat_sshiftRight a sh
  · simp only [r, execX, h, EngSt.d_setD]
    rw [hsh]
    exact ofNat_rotateRight a hsh32
  · simp only [r, execX, h, EngSt.d_setD, signed_toNat]
    split <;> simp [a, b] <;> omega
  · simp only [r, execX, h, EngSt.d_setD, signed_toNat]
    split <;> simp [a, b] <;> omega
  · simp only [r, execX, h]
    rw [toInt_setSat, signed_toNat]
    simp only [a]
    omega
  · simp only [r, execX, h, EngSt.d_setD]
    obtain ⟨hzero, hfirst⟩ := clz_spec a
    refine ⟨fun ha => congrArg (BitVec.ofNat 32) (hzero ha), fun i hi => ?_⟩
    rw [BitVec.toNat_ofNat, Nat.mod_eq_of_lt (Nat.lt_of_le_of_lt (clz_le _) (by decide))]
    exact hfirst i hi
  · simp only [execM, h, hs]
    rw [acc_putAcc, hp]
    exact toInt_ofInt_product a b (by simp only [p]; split <;> simp)
  · simp only [execM, h, hs]
    rw [acc_putAcc, hp, ofInt_toInt_add]
  · simp only [execM, h, hs]
    rw [toInt_putAcc_sat, hp]

end Sys2Proof.Machine
end

section
/-!
PROOFS. Registers that every page has (chapter 2).
-/

set_option Elab.async false

namespace Sys2Proof.Machine

variable {s : State}

/-- The frame of a command made of operations with a law each. -/
theorem Frame.ofOps {t : State} {pages : List Nat} {regs store aos : List (Nat × Nat)} {H : Hold} (h1 : Same (inRegs pages regs) s t) (h2 : StSame (inBytes store aos) s t)
    (h3 : Keeps H s t) (hs : ∀ r ∈ store, r.2 ≤ 0x100000 := by decide) (hn : H.nv = true := by rfl) (hi : H.iram = true := by rfl) : s.Frame t pages regs store aos :=
  ⟨RegsBut.of h1, StoreBut.of h2, AosBut.of hs h2, h3.flashSame hn hi⟩

/-- A register written, and nothing else. -/
theorem State.wr_frame {pg off : Nat} (v : Word) : s.Frame (s.wr pg off v) [] [(pg, off)] [] [] :=
  Frame.ofOps (State.wr_same _ _ _ (Same.refl _ _) (inRegs_reg (List.mem_singleton_self _))) (State.wr_stores _ _ _ (StSame.refl _ _)) (State.wr_keeps (H := .all) _ _ _ (Keeps.refl _ _))

/-- A field written, and nothing else. -/
theorem State.put_frame {pg : Nat} {f : Fld} (v : Nat) : s.Frame (s.put pg f v) [] [(pg, f.off)] [] [] := State.wr_frame _

/-! ### Writes of the common registers -/

section
variable {rq : Req} {pg : Nat} {r : PageRow}

theorem State.regWrite_evtEn (hrow : pageRow pg = some r) (hl : s.live = true) (hshut : s.pageShut r = false) (hres : s.resetting pg = false) (v : Word) :
    s.regWrite rq pg 0x14 v = s.wr pg 0x14 (v &&& evtMask r) := by
  unfold State.regWrite
  simp [hrow, hl, hshut, hres]

theorem State.regWrite_evtSet (hrow : pageRow pg = some r) (hl : s.live = true) (hshut : s.pageShut r = false) (hres : s.resetting pg = false) (v : Word) :
    s.regWrite rq pg 0x18 v = s.wr pg 0x10 (s.rd pg 0x10 ||| (v &&& evtMask r)) := by
  unfold State.regWrite State.evtSet
  simp [hrow, hl, hshut, hres]

/-- `PG_LOCK` takes a write during a reset of its page too. -/
theorem State.regWrite_lock (hrow : pageRow pg = some r) (hl : s.live = true) (hshut : s.pageShut r = false) (v : Word) : s.regWrite rq pg 0x1C v = s.lockWrite pg v := by
  unfold State.regWrite
  simp [hrow, hl, hshut]

/-- A register above the common ones that is no command: its fields are written by their access codes, and then what hangs on them is done. -/
theorem State.regWrite_fields {off : Nat} {x : RegRow} {v : Word} (hrow : pageRow pg = some r) (hl : s.live = true) (hshut : s.pageShut r = false)
    (hres : s.resetting pg = false) (hlo : 0x20 ≤ off) (hhi : off < 256) (h4 : off % 4 = 0)
    (hcmd : ((s.portCmd r.kind (Fin.ofNat 8 (pg - r.base)) off v).or (s.fleetCmd r.kind (pg - r.base) off v)).or (s.pageCmd rq r.kind (pg - r.base) off v) = none)
    (hreg : r.reg off = some x) : s.regWrite rq pg off v =
      (let v' := if r.kind = .cc ∧ off = 0x20 then v &&& (s.rd pg off ||| ~~~clampBit) else v
      let t := s.plainWrite pg x v'
      if takes (s.locked pg) x then t.afterWrite r.kind (pg - r.base) off (s.rd pg off) else t) := by
  have hoff : off % 256 / 4 * 4 = off := by omega
  unfold State.regWrite
  rw [hoff]
  simp only [hrow, hl, hshut, hres]
  rw [if_neg (by simp), if_neg (by simp)]
  split
  case h_6 =>
    rw [if_neg (by omega), hcmd]
    simp only [hreg]
  all_goals omega

theorem State.evtClear_row (hrow : pageRow pg = some r) (v hw : Word) :
    s.evtClear pg v hw = (let h := hw &&& evtMask r
      let u := if h = 0 then s else s.raiseBits pg h.toNat
      u.wr pg 0x10 (u.rd pg 0x10 &&& ~~~(v &&& ~~~h))) := by
  unfold State.evtClear
  rw [hrow]

/-- A command on an open page. -/
theorem exec_pgEvtClear {pg : BitVec 8} (ht : s.Takes pg.toNat) (hrow : pageRow pg.toNat = some r) (hshut : s.pageShut r = false) (v hw : Word) :
    exec (.pgEvtClear pg v hw) s = .next (s.evtClear pg.toNat v hw) := by
  show Host.Outcome.next (s.cmd pg.toNat _) = _
  rw [State.cmd_takes ht, hrow]
  exact congrArg Host.Outcome.next (if_neg (by simp [hshut]))

/-- Setting event bits sets each of them. -/
theorem State.getLsbD_raiseBits (m : Word) {i : Nat} (h : m.getLsbD i = true) : ((s.raiseBits pg m.toNat).rd pg 0x10).getLsbD i = true := by
  have hi : i < 32 := BitVec.lt_of_getLsbD h
  have hbit : m.toNat.testBit i = true := h
  unfold State.raiseBits
  rw [State.rd_wr_same, BitVec.getLsbD_ofNat, decide_eq_true hi, Bool.true_and]
  split <;> simp [Nat.testBit_or, hbit]

end

theorem word_and_ones (w : Word) : w &&& 4294967295#32 = w := BitVec.and_allOnes

/-- A word with every field RW is replaced. -/
theorem State.plainWrite_rw {x : RegRow} (hrw : x.rw = 0xFFFFFFFF) (hrwl : x.rwl = 0) (hc : x.w1c = 0) (hs : x.w1s = 0) (pg : Nat) (v : Word) :
    s.plainWrite pg x v = s.wr pg x.off v := by
  unfold State.plainWrite
  cases hlk : s.locked pg <;> simp [hrw, hrwl, hc, hs, word_and_ones]

/-- A word with RWL fields alone stays while its page is locked. -/
theorem State.plainWrite_locked {x : RegRow} (hrw : x.rw = 0) (hrwl : x.rwl ≠ 0) (hc : x.w1c = 0) (hs : x.w1s = 0) {pg : Nat} (hlk : s.locked pg = true) (v : Word) :
    s.plainWrite pg x v = (s.wr pg x.off (s.rd pg x.off)).lockedWrite pg := by
  unfold State.plainWrite
  simp [hlk, hrw, hrwl, hc, hs, word_and_ones]

/-- Offsets of registers are multiples of 4. -/
theorem pageMap_offsets : ∀ r ∈ pageMap, ∀ x ∈ r.rows, x.off % 4 = 0 := by decide

/-- What a list of keys was set to reads back, where each key stands for one value. -/
theorem Sparse.get_foldl_set {α β : Type} [DecidableEq α] (d : Nat → α) (key : β → Nat) (f : β → α) {b : β} : ∀ (l : List β) (m : List (Nat × α)), b ∈ l →
    (∀ c ∈ l, key c = key b → f c = f b) → Sparse.get d (l.foldl (fun m c => Sparse.set d m (key c) (f c)) m) (key b) = f b := by
  have stays : ∀ (l : List β) (m : List (Nat × α)), Sparse.get d m (key b) = f b → (∀ c ∈ l, key c = key b → f c = f b) →
      Sparse.get d (l.foldl (fun m c => Sparse.set d m (key c) (f c)) m) (key b) = f b := by
    intro l
    induction l with
    | nil => exact fun _ h _ => h
    | cons c l ih =>
      refine fun m h hl => ih _ ?_ fun c' hc' => hl c' (List.mem_cons_of_mem _ hc')
      by_cases hk : key c = key b
      · rw [← hk, Sparse.get_set_same, hl c List.mem_cons_self hk]
      · rw [Sparse.get_set_ne _ _ _ (Ne.symm hk), h]
  intro l
  induction l with
  | nil => exact fun _ h => nomatch h
  | cons c l ih =>
    intro m hb hl
    rcases List.mem_cons.1 hb with rfl | hb
    · exact stays l _ (Sparse.get_set_same ..) fun c' hc' => hl c' (List.mem_cons_of_mem _ hc')
    · exact ih _ hb fun c' hc' => hl c' (List.mem_cons_of_mem _ hc')

theorem State.blockDone_due {pg : Nat} (h : s.rst.blocks.any (fun c => c.1 == pg && decide (c.2 < s.tick)) = true) :
    s.blockDone pg =
      (let u := s.put pg PG.CTRL_BLOCK_RESET 0
      { u with rst := { u.rst with blocks := u.rst.blocks.filter fun c => c.1 != pg } }) := if_pos h

theorem Sparse.mem_insert_self {α : Type} (m : List (Nat × α)) (k : Nat) (v : α) : (k, v) ∈ Sparse.insert m k v := by
  induction m with
  | nil => exact List.mem_singleton_self _
  | cons c m ih =>
    unfold Sparse.insert
    split
    · exact List.mem_cons_self
    · split
      · exact List.mem_cons_self
      · exact List.mem_cons_of_mem _ ih

/-! ### Reads -/

section
variable {rq : Req} {pg off : Nat} {r : PageRow}

/-- A page that takes writes is there, and open to reads. -/
theorem State.open_of_not_shut (h : s.pageShut r = false) : s.pageAbsent r = false ∧ ¬ (r.kind = .test ∧ off ≠ 0 ∧ s.dbgOpen = false) := by
  unfold State.pageShut at h
  rw [Bool.or_eq_false_iff] at h
  obtain ⟨habs, htest⟩ := h
  refine ⟨habs, fun ⟨hk, _, hd⟩ => ?_⟩
  simp [hk, hd] at htest

/-- A read of a low word whose register has no RC field (R44). -/
theorem State.regRead_low (hrow : pageRow pg = some r) (ht : s.Takes pg) (hshut : s.pageShut r = false) (hlow : lowWord r.kind off = true)
    (hrc : (r.reg off).all (fun x => x.rc == 0) = true) (hoff : off % 256 / 4 * 4 = off) (hhigh : (0x20 ≤ off && lowWord r.kind (off - 4)) = false) :
    s.regRead rq pg off =
      (let key := 65536 * reqNo rq + regKey pg (off + 4)
      ({ s with shadow := Sparse.insert (s.shadow.filter fun c => c.1 != key) key (s.view r pg (off + 4)) }, s.view r pg off)) := by
  obtain ⟨hl, hres⟩ := ht
  obtain ⟨habs, htest⟩ := State.open_of_not_shut (off := off) hshut
  have haon : ¬ (r.kind = .aon ∧ off = 0x40) := fun ⟨h, _⟩ => by simp [h, lowWord] at hlow
  have hflash : ¬ (r.kind = .flash ∧ off = 0x38) := fun ⟨h, _⟩ => by simp [h, lowWord] at hlow
  unfold State.regRead
  rw [hoff]
  simp only [hrow, hl, habs, hres, hlow]
  rw [if_neg (by simp), if_neg htest, if_neg (by simp), if_neg (by rw [hhigh]; simp), if_neg haon, if_neg hflash]
  cases hx : r.reg off with
  | none => simp
  | some x => simp [show x.rc = 0 by simpa [hx] using hrc]

/-- A read that latches and clears nothing. -/
theorem State.regRead_plain (hrow : pageRow pg = some r) (ht : s.Takes pg) (hshut : s.pageShut r = false) (hlow : lowWord r.kind off = false)
    (hrc : s.flag pg PG.CTRL_FREEZE = true ∨ (r.reg off).all (fun x => x.rc == 0) = true) (hoff : off % 256 / 4 * 4 = off)
    (hhigh : (0x20 ≤ off && lowWord r.kind (off - 4)) = false) (hwin : ¬ (r.kind = .aon ∧ off = 0x40) ∧ ¬ (r.kind = .flash ∧ off = 0x38)) :
    s.regRead rq pg off = (s, s.view r pg off) := by
  obtain ⟨hl, hres⟩ := ht
  obtain ⟨habs, htest⟩ := State.open_of_not_shut (off := off) hshut
  obtain ⟨haon, hflash⟩ := hwin
  unfold State.regRead
  rw [hoff]
  simp only [hrow, hl, habs, hres, hlow]
  rw [if_neg (by simp), if_neg htest, if_neg (by simp), if_neg (by rw [hhigh]; simp), if_neg haon, if_neg hflash]
  rcases hrc with hfr | hrc
  · simp [hfr]
  · cases hx : r.reg off with
    | none => simp
    | some x => simp [show x.rc = 0 by simpa [hx] using hrc]

/-- A read of a register of the MEAS page whose RC field it clears, while the page is not frozen (R11). -/
theorem State.regRead_meas {x : RegRow} (hrow : pageRow pg = some r) (ht : s.Takes pg) (hk : r.kind = .meas)
    (hreg : r.reg off = some x) (hoff : off % 256 / 4 * 4 = off) (hrc : x.rc ≠ 0) (hfr : s.flag pg PG.CTRL_FREEZE = false) :
    ∃ n f, s.regRead rq pg off = ((s.wr pg off (s.rd pg off &&& ~~~(BitVec.ofNat 32 x.rc))).modPort n f, s.view r pg off) := by
  obtain ⟨hl, hres⟩ := ht
  refine ⟨Fin.ofNat 8 (pg - r.base), fun p => { p with meas := if off = 0x38 then { p.meas with vSeen := false } else { p.meas with iSeen := false } }, ?_⟩
  unfold State.regRead
  rw [hoff]
  simp only [hrow, hl, hk, hres, hreg, hfr, lowWord, State.pageAbsent]
  simp [hrc]

end

/-- PG_EVT_EN takes the bits of the page's events (Table 2.7). -/
theorem registerWrite_evtEn (s : State) (rq : Req) (pg : BitVec 8) (v : Word) (r : PageRow) (ht : s.Takes pg.toNat) (hrow : pageRow pg.toNat = some r) (hshut : s.pageShut r = false) :
    Leads (exec (.registerWrite rq pg 0x14 v) s) fun t => t.rd pg.toNat 0x14 = (v &&& evtMask r) ∧ s.Frame t [] [(pg.toNat, 0x14)] [] [] := by
  obtain ⟨hl, hres⟩ := ht
  have e : exec (.registerWrite rq pg 0x14 v) s = .next (s.wr pg.toNat 0x14 (v &&& evtMask r)) := congrArg Host.Outcome.next (State.regWrite_evtEn hrow hl hshut hres v)
  exact ⟨_, e, State.rd_wr_same .., State.wr_frame _⟩

/-- A register whose fields are all RW, without side effect. -/
theorem registerWrite_plain (s : State) (rq : Req) (i : Fin 16) (v : Word) (ht : s.Takes pEVT) :
    Leads (exec (.registerWrite rq (BitVec.ofNat 8 pEVT) (BitVec.ofNat 8 (0x40 + 4 * i.val)) v) s) fun t => t.rd pEVT (0x40 + 4 * i.val) = v ∧ s.Frame t [] [(pEVT, 0x40 + 4 * i.val)] [] [] := by
  obtain ⟨hl, hres⟩ := ht
  obtain ⟨r, hrow, hkind, hrows⟩ : ∃ r, pageRow pEVT = some r ∧ r.kind = .evt ∧ ∀ i : Fin 16, (r.reg (0x40 + 4 * i.val)).any fun x =>
    x.off == 0x40 + 4 * i.val && x.rw == 0xFFFFFFFF && x.rwl == 0 && x.w1c == 0 && x.w1s == 0 := ⟨_, rfl, rfl, by decide⟩
  obtain ⟨x, hreg, hx⟩ := (Option.any_eq_true _ _).1 (hrows i)
  simp only [Bool.and_eq_true, beq_iff_eq] at hx
  obtain ⟨⟨⟨⟨hoff, hrw⟩, hrwl⟩, hc⟩, hs⟩ := hx
  have hpage : (BitVec.ofNat 8 pEVT).toNat = pEVT := rfl
  have hbyte : (BitVec.ofNat 8 (0x40 + 4 * i.val)).toNat = 0x40 + 4 * i.val := by
    rw [BitVec.toNat_ofNat]
    omega
  have e : exec (.registerWrite rq (BitVec.ofNat 8 pEVT) (BitVec.ofNat 8 (0x40 + 4 * i.val)) v) s = .next (s.wr pEVT (0x40 + 4 * i.val) v) := by
    refine congrArg Host.Outcome.next ?_
    rw [hpage, hbyte, State.regWrite_fields hrow hl (by simp [State.pageShut, State.pageAbsent, hkind]) hres (by omega) (by omega) (by omega)
      (by simp [hkind, State.portCmd, State.fleetCmd, State.pageCmd]) hreg]
    simp [hkind, State.plainWrite_rw hrw hrwl hc hs, hoff, State.afterWrite]
  exact ⟨_, e, State.rd_wr_same .., State.wr_frame _⟩

/-- A field that a locked page keeps (R45). -/
theorem registerWrite_locked (s : State) (rq : Req) (n : Port) (v : Word) (ht : s.Takes (pCC n)) (hlk : s.locked (pCC n) = true) :
    Leads (exec (.registerWrite rq (BitVec.ofNat 8 (pCC n)) 0x20 v) s) fun t => t.rd (pCC n) 0x20 = s.rd (pCC n) 0x20 ∧ t.flag (pCC n) PG.EVT_LOCKED_WRITE = true ∧ s.Frame t [] [(pCC n, 0x10), (pCC n, 0x20)] [] [] := by
  obtain ⟨hl, hres⟩ := ht
  have hpages : ∀ n : Port, (pageRow (pCC n)).any fun r => r.kind == .cc && (r.reg 0x20).any fun x => x.off == 0x20 && x.rw == 0 && x.rwl != 0 && x.w1c == 0 && x.w1s == 0 := by
    decide
  obtain ⟨r, hrow, hr⟩ := (Option.any_eq_true _ _).1 (hpages n)
  rw [Bool.and_eq_true, beq_iff_eq] at hr
  obtain ⟨hkind, hr⟩ := hr
  obtain ⟨x, hreg, hx⟩ := (Option.any_eq_true _ _).1 hr
  simp only [Bool.and_eq_true, beq_iff_eq, bne_iff_ne] at hx
  obtain ⟨⟨⟨⟨hoff, hrw⟩, hrwl⟩, hc⟩, hs⟩ := hx
  have hpage : (BitVec.ofNat 8 (pCC n)).toNat = pCC n := by
    clear * -
    decide +revert
  have e : exec (.registerWrite rq (BitVec.ofNat 8 (pCC n)) 0x20 v) s = .next ((s.wr (pCC n) 0x20 (s.rd (pCC n) 0x20)).lockedWrite (pCC n)) := by
    refine congrArg Host.Outcome.next ?_
    rw [hpage, show (0x20 : BitVec 8).toNat = 0x20 from rfl, State.regWrite_fields hrow hl (by simp [State.pageShut, State.pageAbsent, hkind]) hres (by omega) (by omega) (by omega)
      (by simp [hkind, State.portCmd, State.fleetCmd, State.pageCmd]) hreg]
    simp [State.plainWrite_locked hrw hrwl hc hs hlk, hoff, takes, hrw, hc, hs, hlk]
  have hin : inRegs [] [(pCC n, 0x10), (pCC n, 0x20)] (pCC n) 0x10 := inRegs_reg (by simp)
  refine ⟨_, e, ?_, State.flag_lockedWrite .., Frame.ofOps (State.raise_same _ _ (State.wr_same _ _ _ (Same.refl _ _) (inRegs_reg (by simp))) hin)
    (State.raise_stores _ _ (State.wr_stores _ _ _ (StSame.refl _ _))) (State.raise_keeps (H := .all) _ _ (State.wr_keeps _ _ _ (Keeps.refl _ _)))⟩
  rw [State.lockedWrite, State.rd_raise_ne _ _ (regKey_ne_off (by decide)), State.rd_wr_same]

/-- A 1 clears its event (R37). -/
theorem pgEvtClear_clears (s : State) (pg : BitVec 8) (v hw : Word) (r : PageRow) (ht : s.Takes pg.toNat) (hrow : pageRow pg.toNat = some r) (hshut : s.pageShut r = false) (hhw : hw &&& evtMask r = 0) :
    Leads (exec (.pgEvtClear pg v hw) s) fun t => t.rd pg.toNat 0x10 = (s.rd pg.toNat 0x10 &&& ~~~v) ∧ s.Frame t [] [(pg.toNat, 0x10)] [] [] := by
  refine ⟨_, exec_pgEvtClear ht hrow hshut v hw, ?_⟩
  rw [State.evtClear_row hrow, hhw]
  refine ⟨?_, ?_⟩
  · dsimp only
    rw [State.rd_wr_same, if_pos rfl, show ~~~(0 : Word) = BitVec.allOnes 32 from rfl, BitVec.and_allOnes]
  · exact State.wr_frame _

/-- A bit that hardware sets in the same cycle stays (R37). -/
theorem pgEvtClear_meets_hardware (s : State) (pg : BitVec 8) (v hw : Word) (r : PageRow) (i : Nat) (ht : s.Takes pg.toNat) (hrow : pageRow pg.toNat = some r) (hshut : s.pageShut r = false) (hi : i < 32) (hset : (hw &&& evtMask r).getLsbD i = true) :
    Leads (exec (.pgEvtClear pg v hw) s) fun t => (t.rd pg.toNat 0x10).getLsbD i = true ∧ s.Frame t [] [(pg.toNat, 0x10)] [] [] := by
  refine ⟨_, exec_pgEvtClear ht hrow hshut v hw, ?_⟩
  have hne : hw &&& evtMask r ≠ 0 := by
    intro h
    simp [h] at hset
  rw [State.evtClear_row hrow]
  dsimp only
  rw [if_neg hne]
  generalize hw &&& evtMask r = h at hset
  refine ⟨?_, ?_⟩
  · rw [State.rd_wr_same, BitVec.getLsbD_and, State.getLsbD_raiseBits h hset]
    simp [hset, hi]
  · have hin : inRegs [] [(pg.toNat, 0x10)] pg.toNat 0x10 := inRegs_reg (List.mem_singleton_self _)
    exact Frame.ofOps (State.wr_same _ _ _ (State.raiseBits_same _ _ (Same.refl _ _) hin) hin) (State.wr_stores _ _ _ (State.raiseBits_stores _ _ (StSame.refl _ _)))
      (State.wr_keeps (H := .all) _ _ _ (State.raiseBits_keeps _ _ (Keeps.refl _ _)))

/-- A 1 sets its event (R37). -/
theorem pgEvtSet_sets (s : State) (pg : BitVec 8) (v : Word) (r : PageRow) (ht : s.Takes pg.toNat) (hrow : pageRow pg.toNat = some r) (hshut : s.pageShut r = false) :
    Leads (exec (.pgEvtSet pg v) s) fun t => t.rd pg.toNat 0x10 = (s.rd pg.toNat 0x10 ||| (v &&& evtMask r)) ∧ s.Frame t [] [(pg.toNat, 0x10)] [] [] := by
  obtain ⟨hl, hres⟩ := ht
  have e : exec (.pgEvtSet pg v) s = .next (s.wr pg.toNat 0x10 (s.rd pg.toNat 0x10 ||| (v &&& evtMask r))) :=
    congrArg Host.Outcome.next (State.regWrite_evtSet hrow hl hshut hres v)
  exact ⟨_, e, State.rd_wr_same .., State.wr_frame _⟩

/-- The single write of PG_LOCK (Table 2.8). -/
theorem pgLockWrite_locks (s : State) (pg : BitVec 8) (v : Word) (r : PageRow) (hl : s.live = true) (hrow : pageRow pg.toNat = some r) (hshut : s.pageShut r = false) (hlk : s.locked pg.toNat = false) (hv : v.getLsbD 0 = true) :
    Leads (exec (.pgLockWrite pg v) s) fun t => t.locked pg.toNat = true ∧ s.Frame t [] [(pg.toNat, 0x1C)] [] [] := by
  have e : exec (.pgLockWrite pg v) s = .next (s.put pg.toNat PG.LOCK_LOCK 1) :=
    congrArg Host.Outcome.next ((State.regWrite_lock hrow hl hshut v).trans (by simp [State.lockWrite, hv, hlk]))
  exact ⟨_, e, State.flag_put_same _ _ _ _ (by decide), State.put_frame _⟩

/-- A second one is refused (R45). -/
theorem pgLockWrite_again (s : State) (pg : BitVec 8) (v : Word) (r : PageRow) (hl : s.live = true) (hrow : pageRow pg.toNat = some r) (hshut : s.pageShut r = false) (hlk : s.locked pg.toNat = true) (hv : v.getLsbD 0 = true) :
    Leads (exec (.pgLockWrite pg v) s) fun t => t.locked pg.toNat = true ∧ t.flag pg.toNat PG.EVT_LOCKED_WRITE = true ∧ s.Frame t [] [(pg.toNat, 0x10)] [] [] := by
  have e : exec (.pgLockWrite pg v) s = .next (s.lockedWrite pg.toNat) :=
    congrArg Host.Outcome.next ((State.regWrite_lock hrow hl hshut v).trans (by simp [State.lockWrite, hv, hlk]))
  have hin : inRegs [] [(pg.toNat, 0x10)] pg.toNat 0x10 := inRegs_reg (List.mem_singleton_self _)
  refine ⟨_, e, ?_, State.flag_lockedWrite .., Frame.ofOps (State.raise_same _ _ (Same.refl _ _) hin) (State.raise_stores _ _ (StSame.refl _ _)) (State.raise_keeps (H := .all) _ _ (Keeps.refl _ _))⟩
  exact (State.flag_raise_apart _ (.inl (regKey_ne_off (by decide)))).trans hlk

/-- A write of 0 does nothing (log entry 91). -/
theorem pgLockWrite_zero (s : State) (pg : BitVec 8) (v : Word) (hv : v.getLsbD 0 = false) :
    Leads (exec (.pgLockWrite pg v) s) fun t => t = s := by
  refine ⟨s, congrArg Host.Outcome.next ?_, rfl⟩
  unfold State.regWrite State.lockWrite
  split
  · rfl
  · simp only [hv]
    split <;> simp

/-- FREEZE captures what the page shows (R38). -/
theorem freeze_captures (s : State) (pg : BitVec 8) (r : PageRow) (ht : s.Takes pg.toNat) (hrow : pageRow pg.toNat = some r) (hshut : s.pageShut r = false) :
    Leads (exec (.freeze pg true) s) fun t => t.flag pg.toNat PG.CTRL_FREEZE = true ∧ (∀ off ∈ 0x0C :: r.rows.map (fun x => x.off), Sparse.get resetWord t.snaps (regKey pg.toNat off) = s.shown r pg.toNat off) ∧ s.Frame t [] [(pg.toNat, 0x08)] [] [] := by
  have e : exec (.freeze pg true) s = .next (s.freezeOn pg.toNat) := by
    show Host.Outcome.next (s.cmd pg.toNat _) = _
    rw [State.cmd_takes ht, hrow]
    exact congrArg Host.Outcome.next (if_neg (by simp [hshut]))
  have h4 : ∀ off ∈ 0x0C :: r.rows.map (fun x => x.off), off % 4 = 0 := by
    intro off hoff
    rcases List.mem_cons.1 hoff with rfl | hoff
    · rfl
    · obtain ⟨x, hx, rfl⟩ := List.mem_map.1 hoff
      exact pageMap_offsets r (List.mem_of_find?_eq_some hrow) x hx
  refine ⟨_, e, ?_, fun off hoff => ?_, Frame.ofOps (State.freezeOn_same _ (Same.refl _ _) (inRegs_reg (List.mem_singleton_self _))) (State.freezeOn_stores _ (StSame.refl _ _))
      (State.freezeOn_keeps (H := .all) _ (Keeps.refl _ _))⟩
  · unfold State.freezeOn
    rw [hrow]
    exact State.flag_put_same _ _ _ _ (by decide)
  · unfold State.freezeOn
    rw [hrow]
    refine Sparse.get_foldl_set resetWord (regKey pg.toNat) (s.shown r pg.toNat) _ _ hoff fun off' hoff' hkey => ?_
    have h1 := h4 off hoff
    have h2 := h4 off' hoff'
    rw [show off' = off by simp only [regKey] at hkey; omega]

/-- Its end drops the page's snapshot. -/
theorem freeze_releases (s : State) (pg : BitVec 8) (r : PageRow) (ht : s.Takes pg.toNat) (hrow : pageRow pg.toNat = some r) (hshut : s.pageShut r = false) :
    Leads (exec (.freeze pg false) s) fun t => t.flag pg.toNat PG.CTRL_FREEZE = false ∧ (∀ c ∈ t.snaps, c.1 / 64 ≠ pg.toNat) ∧ s.Frame t [] [(pg.toNat, 0x08)] [] [] := by
  have e : exec (.freeze pg false) s = .next (s.freezeOff pg.toNat) := by
    show Host.Outcome.next (s.cmd pg.toNat _) = _
    rw [State.cmd_takes ht, hrow]
    exact congrArg Host.Outcome.next (if_neg (by simp [hshut]))
  refine ⟨_, e, State.flag_put_same _ _ _ _ (by decide), fun c hc => ?_, ?_⟩
  · simpa using (List.mem_filter.1 hc).2
  · exact Frame.ofOps (State.freezeOff_same _ (Same.refl _ _) (inRegs_reg (List.mem_singleton_self _))) (State.freezeOff_stores _ (StSame.refl _ _))
      (State.freezeOff_keeps (H := .all) _ (Keeps.refl _ _))

/-- The first tick boundary after a block reset (R46). -/
theorem blockResetDone_ends (s : State) (pg : BitVec 8) (hl : s.live = true) (hdue : s.rst.blocks.any (fun c => c.1 == pg.toNat && decide (c.2 < s.tick)) = true) :
    Leads (exec (.blockResetDone pg) s) fun t => t.resetting pg.toNat = false ∧ t.rst.blocks = s.rst.blocks.filter (fun c => c.1 != pg.toNat) ∧ s.Frame t [] [(pg.toNat, 0x08)] [] [] := by
  have e : exec (.blockResetDone pg) s = .next (s.blockDone pg.toNat) := congrArg Host.Outcome.next (if_pos hl)
  refine ⟨_, e, ?_, ?_, Frame.ofOps (State.blockDone_same _ (Same.refl _ _) (inRegs_reg (List.mem_singleton_self _))) (State.blockDone_stores _ (StSame.refl _ _))
      (State.blockDone_keeps (H := .all) _ (Keeps.refl _ _))⟩
  · rw [State.blockDone_due hdue]
    exact State.flag_put_same s pg.toNat PG.CTRL_BLOCK_RESET 0 (by decide)
  · rw [State.blockDone_due hdue]
    dsimp only
    rw [State.put_rst]

/-- A low word latches its high word (R44). -/
theorem lowWordRead_latches (s : State) (rq : Req) (pg off : BitVec 8) (r : PageRow) (ht : s.Takes pg.toNat) (hrow : pageRow pg.toNat = some r) (hshut : s.pageShut r = false) (hlow : lowWord r.kind off.toNat = true) (hrc : (r.reg off.toNat).all (fun x => x.rc == 0) = true) (hoff : off.toNat % 4 = 0) (hhigh : (0x20 ≤ off.toNat && lowWord r.kind (off.toNat - 4)) = false) :
    Leads (exec (.lowWordRead rq pg off) s) fun t => t.readData = s.view r pg.toNat off.toNat ∧ (65536 * reqNo rq + regKey pg.toNat (off.toNat + 4), s.view r pg.toNat (off.toNat + 4)) ∈ t.shadow ∧ s.Frame t [] [] [] [] := by
  have h4 : off.toNat % 256 / 4 * 4 = off.toNat := by
    have := off.isLt
    omega
  refine ⟨_, congrArg Host.Outcome.next (congrArg (fun r : State × Word => ({ r.1 with readData := r.2 } : State)) (State.regRead_low hrow ht hshut hlow hrc h4 hhigh)), rfl, ?_, ?_⟩
  · exact Sparse.mem_insert_self ..
  · exact Frame.ofOps (Same.mk' (Same.refl _ _)) (StSame.mk' (StSame.refl _ _)) (H := .all) (Keeps.mk' (Keeps.refl _ _))

/-- A read clears its RC field (R11). -/
theorem readClearField_meas (s : State) (rq : Req) (n : Port) (off : BitVec 8) (r : PageRow) (x : RegRow) (ht : s.Takes (pMEAS n)) (hrow : pageRow (pMEAS n) = some r) (hreg : r.reg off.toNat = some x) (hge : 0x20 ≤ off.toNat) (hoff : off.toNat % 4 = 0) (hrc : x.rc ≠ 0) (hfr : s.flag (pMEAS n) PG.CTRL_FREEZE = false) :
    Leads (exec (.readClearField rq (BitVec.ofNat 8 (pMEAS n)) off) s) fun t => t.readData = s.view r (pMEAS n) off.toNat ∧ t.rd (pMEAS n) off.toNat = (s.rd (pMEAS n) off.toNat &&& ~~~(BitVec.ofNat 32 x.rc)) ∧ s.Frame t [] [(pMEAS n, off.toNat)] [] [] := by
  have h4 : off.toNat % 256 / 4 * 4 = off.toNat := by
    have := off.isLt
    omega
  have hpage : (BitVec.ofNat 8 (pMEAS n)).toNat = pMEAS n := by
    clear * -
    decide +revert
  have hpages : ∀ n : Port, (pageRow (pMEAS n)).any fun r => r.kind == .meas := by decide
  have hk : r.kind = .meas := by simpa [hrow] using hpages n
  obtain ⟨m, f, hread⟩ := State.regRead_meas (rq := rq) hrow ht hk hreg h4 hrc hfr
  have e : exec (.readClearField rq (BitVec.ofNat 8 (pMEAS n)) off) s = .next (s.readInto rq (pMEAS n) off.toNat) := by
    rw [show (exec (.readClearField rq (BitVec.ofNat 8 (pMEAS n)) off) s) = .next (s.readInto rq (BitVec.ofNat 8 (pMEAS n)).toNat off.toNat) from rfl, hpage]
  rw [State.readInto, hread] at e
  refine ⟨_, e, rfl, State.rd_wr_same .., ?_⟩
  exact Frame.ofOps (Same.mk' (State.modPort_same _ _ (State.wr_same _ _ _ (Same.refl _ _) (inRegs_reg (List.mem_singleton_self _)))))
    (StSame.mk' (State.modPort_stores _ _ (State.wr_stores _ _ _ (StSame.refl _ _))))
    (H := ⟨true, true, true, true, true, true, true, true, true, true, true, true, true, true, false⟩)
    (Keeps.mk' (State.modPort_keeps _ _ (State.wr_keeps _ _ _ (Keeps.refl _ _))))

/-- A register of the HOST page. -/
theorem readClearField_host (s : State) (rq : Req) (r : PageRow) (ht : s.Takes pHOST) (hrow : pageRow pHOST = some r) (hfr : s.flag pHOST PG.CTRL_FREEZE = false) :
    Leads (exec (.readClearField rq (BitVec.ofNat 8 pHOST) 0x28) s) fun t => t.readData = s.view r pHOST 0x28 ∧ t.rd pHOST 0x28 = (s.rd pHOST 0x28 &&& ~~~(BitVec.ofNat 32 (((r.reg 0x28).map fun x => x.rc).getD 0))) ∧ s.Frame t [] [(pHOST, 0x28)] [] [] := by
  have hhost : ∀ r ∈ pageMap, r.kind = .host → ∀ x ∈ r.rows, x.rc = 0 := by decide
  have hpage : (pageRow pHOST).any (fun r => r.kind == .host) = true := by decide
  have hk : r.kind = .host := by simpa [hrow] using hpage
  have hrc : ∀ x, r.reg 0x28 = some x → x.rc = 0 := fun x hx => hhost r (List.mem_of_find?_eq_some hrow) hk x (List.mem_of_find?_eq_some hx)
  have hread : s.regRead rq pHOST 0x28 = (s, s.view r pHOST 0x28) :=
    State.regRead_plain hrow ht (by simp [State.pageShut, State.pageAbsent, hk]) (by rw [hk]; rfl) (.inr (by simpa [Option.all_eq_true] using hrc)) rfl
      (by rw [hk]; rfl) (by simp [hk])
  have hnone : ((r.reg 0x28).map fun x => x.rc).getD 0 = 0 := by
    cases hx : r.reg 0x28 with
    | none => rfl
    | some x => exact hrc x hx
  refine ⟨_, congrArg Host.Outcome.next (congrArg (fun r : State × Word => ({ r.1 with readData := r.2 } : State)) hread), rfl, ?_,
    Frame.ofOps (Same.mk' (Same.refl _ _)) (StSame.mk' (StSame.refl _ _)) (H := .all) (Keeps.mk' (Keeps.refl _ _))⟩
  rw [hnone]
  exact (word_and_ones _).symm

/-- A frozen page keeps them (R38). -/
theorem readClearField_frozen (s : State) (rq : Req) (pg off : BitVec 8) (r : PageRow) (x : RegRow) (ht : s.Takes pg.toNat) (hrow : pageRow pg.toNat = some r) (hshut : s.pageShut r = false) (hreg : r.reg off.toNat = some x) (hrc : x.rc ≠ 0) (hoff : off.toNat % 4 = 0) (hhigh : (0x20 ≤ off.toNat && lowWord r.kind (off.toNat - 4)) = false) (hlow : lowWord r.kind off.toNat = false) (hfr : s.flag pg.toNat PG.CTRL_FREEZE = true) (hge : 0x20 ≤ off.toNat) :
    Leads (exec (.readClearField rq pg off) s) fun t => t.readData = s.view r pg.toNat off.toNat ∧ t.rd pg.toNat off.toNat = s.rd pg.toNat off.toNat := by
  have h4 : off.toNat % 256 / 4 * 4 = off.toNat := by
    have := off.isLt
    omega
  have hwin : ¬ (r.kind = .aon ∧ off.toNat = 0x40) ∧ ¬ (r.kind = .flash ∧ off.toNat = 0x38) := by
    have hrows : ∀ r ∈ pageMap, r.kind = .aon ∨ r.kind = .flash → ∀ x ∈ r.rows, x.rc = 0 := by decide
    have hmem := List.mem_of_find?_eq_some hrow
    have hx := List.mem_of_find?_eq_some hreg
    exact ⟨fun h => hrc (hrows r hmem (.inl h.1) x hx), fun h => hrc (hrows r hmem (.inr h.1) x hx)⟩
  refine ⟨_, congrArg Host.Outcome.next (congrArg (fun r : State × Word => ({ r.1 with readData := r.2 } : State)) (State.regRead_plain hrow ht hshut hlow (.inl hfr) h4 hhigh hwin)),
    rfl, rfl⟩

/-- Settles O23: one lemma for each clause. -/
theorem registerPageCommandsComplete : Obligations.RegisterPageCommandsComplete := by
  unfold Obligations.RegisterPageCommandsComplete
  exact ⟨registerWrite_evtEn, registerWrite_plain, registerWrite_locked, pgEvtClear_clears, pgEvtClear_meets_hardware, pgEvtSet_sets, pgLockWrite_locks, pgLockWrite_again, pgLockWrite_zero, freeze_captures, freeze_releases, blockResetDone_ends, lowWordRead_latches, readClearField_meas, readClearField_host, readClearField_frozen⟩

end Sys2Proof.Machine
end

section
/-!
PROOFS. Resets of a block rebuild the register file from its entries: a list that names a register twice is read at its first entry and rebuilt with its last.
-/

set_option Elab.async false

namespace Sys2Proof.Machine

/-- A device in RUN whose register file names `SUP` register 0x20 twice. -/
def regsTwice : State := { State.reset with phase := .run, regs := [(regKey pSUP 0x20, 1), (regKey pSUP 0x20, 2)] }

theorem regsTwice_read : regsTwice.rd pSUP 0x20 = 1 := by decide

theorem regsTwice_reset : (regsTwice.blockReset pCLK).rd pSUP 0x20 = 2 := by decide

/-- Refutes O24: a BLOCK reset of the CLK page keeps the other registers only where the register file names no register twice, which the statement does not ask. -/
theorem not_resetRequestsComplete : ¬ Obligations.ResetRequestsComplete := by
  unfold Obligations.ResetRequestsComplete
  rintro ⟨-, -, -, hclk, -⟩
  obtain ⟨t, e, -, hkeep⟩ := hclk regsTwice (by decide) (by decide)
  have hnext : exec (.blockReset 0x02) regsTwice = .next (regsTwice.blockReset pCLK) := by
    show Host.Outcome.next (regsTwice.cmd pCLK _) = _
    rw [State.cmd_takes (by decide)]
    rfl
  rw [hnext] at e
  cases e
  have h := hkeep pSUP 0x20 (by decide) (by decide)
  rw [regsTwice_reset, regsTwice_read] at h
  exact absurd h (by decide)

end Sys2Proof.Machine
end

section
/-!
PROOFS. A register that an operation does not touch, read through the law of the registers that it touches.
-/

set_option Elab.async false

namespace Sys2Proof.Machine

variable {s t : State} {pg : Nat}

/-- An operation that touches other registers alone leaves a register, and so its fields. -/
theorem State.rd_of_same {off : Nat} (h : Same (fun p o => regKey p o ≠ regKey pg off) s t) : t.rd pg off = s.rd pg off := h _ fun _ _ hn => hn

theorem State.fld_of_same {g : Fld} (h : Same (fun p o => regKey p o ≠ regKey pg g.off) s t) : t.fld pg g = s.fld pg g := by
  unfold State.fld
  rw [State.rd_of_same h]

theorem State.flag_of_same {g : Fld} (h : Same (fun p o => regKey p o ≠ regKey pg g.off) s t) : t.flag pg g = s.flag pg g := by
  unfold State.flag
  rw [State.fld_of_same h]

end Sys2Proof.Machine
end

section
/-!
PROOFS. OTP, data flash, code flash and the debug latch (chapters 5 and 18).
-/

set_option Elab.async false

namespace Sys2Proof.Machine

variable {s : State}

/-! ### OTP -/

theorem State.otpProgram_starts (hop : s.otpOp = none) (hgate : s.otpGate = 0)
    (haddr : (otpReserved (s.fld pOTP OTP.PROG_ADDR_WORD) || otpRegionOf (s.fld pOTP OTP.PROG_ADDR_WORD) == 7) = false)
    (hlk : s.otpLocked (otpRegionOf (s.fld pOTP OTP.PROG_ADDR_WORD)) = false) :
    s.otpProgram = ({ s with otpOp := some (.program (s.fld pOTP OTP.PROG_ADDR_WORD) (s.rd pOTP 0x34)) } : State).put pOTP OTP.CMD_STAT_BUSY 1 := by
  unfold State.otpProgram
  rw [if_neg (by simp [hop]), if_neg (by simp [hgate]), if_neg (by simp [haddr]), if_neg (by simp [hlk])]

theorem State.otpLock_starts {r : Nat} (hop : s.otpOp = none) (hgate : s.otpGate = 0) (hr : r = 5 ∨ r = 6) (hlk : s.otpLocked r = false)
    (hmar : s.otpRegionMarginal r = false) (hcrc : s.otpCrcOk r = true) :
    s.otpLock r = ({ s with otpOp := some (.lock r) } : State).put pOTP OTP.CMD_STAT_BUSY 1 := by
  unfold State.otpLock
  rw [if_neg (by simp [hop]), if_neg (by simp [hgate]), if_neg (by omega), if_neg (by simp [hlk]), if_neg (by simp [hmar, hcrc])]

/-- Bits blown in a word (R107). -/
theorem State.otpWord_otpBlow (w : Nat) (bits weak : Word) (i : Nat) : (s.otpBlow w bits weak).otpWord i = if i = w then s.otpWord i ||| bits else s.otpWord i := by
  unfold State.otpBlow State.otpWord
  split
  · next h => rw [h, Sparse.get_set_same]
  · next h => rw [Sparse.get_set_ne _ _ _ h]

/-! ### The ends of operations -/

/-- An OTP operation that ends reports its outcome, and leaves the arrays. -/
theorem State.otpDone_reports (r : Nat) : (s.otpDone r).otp = s.otp ∧ (s.otpDone r).otpOp = none ∧ (s.otpDone r).flag pOTP OTP.PG_EVT_CMD_DONE = true ∧
    (s.otpDone r).fld pOTP OTP.CMD_STAT_RESULT = r % 2 ^ OTP.CMD_STAT_RESULT.w := by
  unfold State.otpDone
  simp -implicitDefEqProofs (disch := (clear * -; decide +revert)) [State.fld_put_same, State.flag_put_same, State.flag_raise]

/-- So does one of data flash. -/
theorem State.nvdDone_reports (r : Nat) : (s.nvdDone r).nvd = s.nvd ∧ (s.nvdDone r).nvdOp = none ∧ (s.nvdDone r).flag pNVD NVD.PG_EVT_CMD_DONE = true ∧
    (s.nvdDone r).fld pNVD NVD.CMD_STAT_RESULT = r % 2 ^ NVD.CMD_STAT_RESULT.w := by
  unfold State.nvdDone
  simp -implicitDefEqProofs (disch := (clear * -; decide +revert)) [State.fld_put_same, State.flag_put_same, State.flag_raise]

/-- And one of code flash. -/
theorem State.flashDone_reports (r : Nat) : (s.flashDone r).code = s.code ∧ (s.flashDone r).flashOp = none ∧ (s.flashDone r).flag pFLASH FLASH.PG_EVT_CMD_DONE = true ∧
    (s.flashDone r).fld pFLASH FLASH.CMD_STAT_RESULT = r % 2 ^ FLASH.CMD_STAT_RESULT.w := by
  unfold State.flashDone
  simp -implicitDefEqProofs (disch := (clear * -; decide +revert)) [State.fld_put_same, State.flag_put_same, State.flag_raise]

/-! ### Data flash -/

/-- A key that a filter drops reads its unlisted value. -/
theorem Sparse.get_filter_out {α : Type} (d : Nat → α) (m : List (Nat × α)) (p : Nat → Bool) (i : Nat) (h : p i = false) :
    Sparse.get d (m.filter fun c => p c.1) i = d i := by
  induction m with
  | nil => rfl
  | cons c m ih =>
    by_cases hp : p c.1 = true
    · have hne : c.1 ≠ i := fun e => by simp [e, h] at hp
      rw [List.filter_cons_of_pos (by simpa using hp), Sparse.get, if_neg hne, ih]
    · rw [List.filter_cons_of_neg (by simpa using hp), ih]

/-- A register that reads 0 reads 0 after a write of 0 to any. -/
theorem State.rd_wr_zero {pg off pg' off' : Nat} (h : s.rd pg off = 0) : (s.wr pg' off' 0).rd pg off = 0 := by
  by_cases hk : regKey pg off = regKey pg' off'
  · unfold State.rd
    rw [hk]
    exact State.rd_wr_same ..
  · exact (State.rd_wr_ne _ _ hk).trans h


/-- A page erased reads 0xFF, and the others as before. -/
theorem State.nvdByte_nvdErasePage (p a : Nat) : (s.nvdErasePage p).nvdByte a = if a / 2048 = p then 0xFF else s.nvdByte a := by
  have hnvd : (s.nvdErasePage p).nvd = s.nvd.filter fun c => c.1 / 2048 != p := by
    unfold State.nvdErasePage
    rw [State.put_nvd]
  unfold State.nvdByte
  rw [hnvd]
  split
  · next h => exact Sparse.get_filter_out flashDflt _ (fun a => a / 2048 != p) _ (by simpa using h)
  · next h => exact Sparse.get_filter flashDflt _ (fun a => a / 2048 != p) _ (by simpa using h)

/-- A command starts where the supply allows it and the area is not protected (R111, R112). -/
theorem State.nvdStart_write {area format : Nat} (hop : s.nvdOp = none) (hprot : s.nvdProtected area false = false) (hlen : s.fld pNVD NVD.LEN_BYTES ≤ 2032)
    (hera : s.eraseOk = true) (hnv : s.nvOk = true) : s.nvdStart (.write area format) = ({ s with nvdOp := some (.write area format) } : State).put pNVD NVD.CMD_STAT_BUSY 1 := by
  unfold State.nvdStart
  simp [hop, hprot, Nat.not_lt.2 hlen, hera, hnv]

theorem State.nvdStart_read {area : Nat} (hop : s.nvdOp = none) (hprot : s.nvdProtected area true = false) :
    s.nvdStart (.read area) = ({ s with nvdOp := some (.read area) } : State).put pNVD NVD.CMD_STAT_BUSY 1 := by
  unfold State.nvdStart
  simp [hop, hprot]

theorem State.nvdStart_invalidate {area : Nat} (hop : s.nvdOp = none) (hprot : s.nvdProtected area false = false) (hera : s.eraseOk = true) :
    s.nvdStart (.invalidate area) = ({ s with nvdOp := some (.invalidate area) } : State).put pNVD NVD.CMD_STAT_BUSY 1 := by
  unfold State.nvdStart
  simp [hop, hprot, hera]

/-- A record written to an area of data flash changes the two pages of the area alone. -/
theorem State.nvdByte_nvdCommit {area : Nat} (format : Nat) {p : List Byte} (hp : p.length ≤ 2032) {a : Nat} (ha : 4096 * area + 4096 ≤ a) :
    (s.nvdCommit area format p).nvdByte a = s.nvdByte a := by
  have hslot : s.writeSlot area ≤ 1 := by
    unfold State.writeSlot
    split <;> decide
  unfold State.nvdCommit
  extract_lets slot seq u
  have hu : u.nvdByte a = s.nvdByte a := by
    unfold u
    rw [State.nvdByte_nvdErasePage, if_neg (by omega)]
  have hlen : (slotBytes area format seq p).length = 2048 := by
    unfold slotBytes
    simp only [List.length_append, length_leBytes, List.length_replicate]
    omega
  generalize slotBytes area format seq p = l at hlen
  rw [← hu]
  show Sparse.get flashDflt (Sparse.setList flashDflt u.nvd (slotAt area slot) l) a = Sparse.get flashDflt u.nvd a
  have hat : slotAt area slot + 2048 ≤ a := by
    unfold slotAt
    omega
  exact Sparse.get_setList_out _ _ _ _ _ (.inr (by rw [hlen]; exact hat))

/-- It leaves the other arrays and the debug latch. -/
theorem State.nvdCommit_leaves (area format : Nat) (p : List Byte) : (s.nvdCommit area format p).otp = s.otp ∧ (s.nvdCommit area format p).code = s.code ∧
    (s.nvdCommit area format p).boot = s.boot ∧ (s.nvdCommit area format p).dbg = s.dbg := by
  unfold State.nvdCommit State.nvdErasePage
  dsimp only
  rw [State.put_otp, State.put_code, State.put_boot, State.put_dbg]
  exact ⟨rfl, rfl, rfl, rfl⟩

/-! ### The boot record -/

theorem BootRec.length_bytes (r : BootRec) : r.bytes.length = 8 := rfl

theorem State.bootShow_dbg : s.bootShow.dbg = s.dbg := by
  unfold State.bootShow
  simp -implicitDefEqProofs (disch := (clear * -; decide +revert)) []

/-- A record written: the copy in use, the bytes beyond area 0 of data flash, and the other arrays. -/
theorem State.bootWrite_leaves (f : BootRec → BootRec) : (s.bootWrite f).boot.now = f s.boot.now ∧ (∀ a, 4096 ≤ a → (s.bootWrite f).nvdByte a = s.nvdByte a) ∧
    (s.bootWrite f).otp = s.otp ∧ (s.bootWrite f).code = s.code ∧ (s.bootWrite f).dbg = s.dbg := by
  unfold State.bootWrite
  extract_lets j
  have hs : ∀ u : State, Keeps .all u u.bootShow := fun u => State.bootShow_keeps (Keeps.refl _ _)
  generalize hv : ({ s with boot := { s.boot with now := f s.boot.now, journal := j } } : State) = v
  obtain ⟨hotp, hcode, hboot, hdbg⟩ := v.nvdCommit_leaves 0 0 j.bytes
  have hk := hs (v.nvdCommit 0 0 j.bytes)
  refine ⟨?_, fun a ha => ?_, ?_, ?_, ?_⟩
  · rw [hk.boot rfl, hboot, ← hv]
  · rw [State.nvdByte, hk.nvd rfl]
    show State.nvdByte _ a = _
    rw [State.nvdByte_nvdCommit 0 (by rw [BootRec.length_bytes]; decide) ha, ← hv]
    rfl
  · rw [hk.otp rfl, hotp, ← hv]
  · rw [hk.code rfl, hcode, ← hv]
  · rw [State.bootShow_dbg, hdbg, ← hv]

/-- A decision of the boot record is in force at once, whether or not it can be written. -/
theorem State.bootDecide_leaves (f : BootRec → BootRec) : (s.bootDecide f).boot.now = f s.boot.now ∧ (s.bootDecide f).otp = s.otp ∧ (s.bootDecide f).code = s.code ∧
    (s.bootDecide f).dbg = s.dbg := by
  unfold State.bootDecide
  split
  · obtain ⟨hnow, -, hotp, hcode, hdbg⟩ := s.bootWrite_leaves f
    exact ⟨hnow, hotp, hcode, hdbg⟩
  · have hk : Keeps .all ({ s with boot := { s.boot with now := f s.boot.now } } : State) ({ s with boot := { s.boot with now := f s.boot.now } } : State).bootShow :=
      State.bootShow_keeps (Keeps.refl _ _)
    exact ⟨by rw [hk.boot rfl], hk.otp rfl, hk.code rfl, State.bootShow_dbg⟩

/-! ### Secrets (R116) -/

/-- The debug latch is no register. -/
@[simp] theorem State.rd_dbgTo (d : DbgState) (pg off : Nat) : (s.dbgTo d).rd pg off = s.rd pg off := rfl
@[simp] theorem State.fld_dbgTo (d : DbgState) (pg : Nat) (g : Fld) : (s.dbgTo d).fld pg g = s.fld pg g := rfl
@[simp] theorem State.dbgTo_store (d : DbgState) : (s.dbgTo d).store = s.store := rfl
@[simp] theorem State.dbgTo_code (d : DbgState) : (s.dbgTo d).code = s.code := rfl
@[simp] theorem State.nvdByte_dbgTo (d : DbgState) (a : Nat) : (s.dbgTo d).nvdByte a = s.nvdByte a := rfl
@[simp] theorem State.aosByte_dbgTo (d : DbgState) (a : Nat) : (s.dbgTo d).aosByte a = s.aosByte a := rfl
@[simp] theorem State.flag_dbgTo (d : DbgState) (pg : Nat) (g : Fld) : (s.dbgTo d).flag pg g = s.flag pg g := rfl


/-- Secrets erased: the pages of area 15, the free part of always-on SRAM and the token words. -/
theorem State.eraseSecrets_clears :
    (∀ i < 22, s.eraseSecrets.rd pDBG (0x40 + 4 * i) = 0 ∧ s.eraseSecrets.rd pUPD (0x60 + 4 * i) = 0) ∧
      (∀ a, s.eraseSecrets.nvdByte a = if a / 2048 = 30 ∨ a / 2048 = 31 then 0xFF else s.nvdByte a) ∧
      (∀ a, s.eraseSecrets.aosByte a = if a < 0x1C0 then s.aosByte a else 0) ∧ s.eraseSecrets.store = s.store ∧ s.eraseSecrets.code = s.code := by
  unfold State.eraseSecrets
  extract_lets u w
  have hu : (∀ a, u.nvdByte a = if a / 2048 = 30 ∨ a / 2048 = 31 then 0xFF else s.nvdByte a) ∧ u.store = s.store ∧ u.aos = s.aos ∧ u.code = s.code := by
    have hk : Keeps ⟨true, false, true, true, true, true, true, true, true, true, true, true, true, true, true⟩ s u :=
      State.nvdErasePage_keeps _ (State.nvdErasePage_keeps _ (Keeps.refl _ _))
    refine ⟨fun a => ?_, hk.store rfl, hk.aos rfl, ?_⟩
    · unfold u
      rw [State.nvdByte_nvdErasePage, State.nvdByte_nvdErasePage]
      by_cases h1 : a / 2048 = 31
      · simp [h1]
      · by_cases h0 : a / 2048 = 30 <;> simp [h0, h1]
    · unfold u
      rw [(State.nvdErasePage_leaves _).2.2, (State.nvdErasePage_leaves _).2.2]
  clear_value u
  obtain ⟨hnvd, hstore, haos, hcode⟩ := hu
  have hk : Keeps .all w ((List.range 22).foldl (fun s i => (s.wr pDBG (0x40 + 4 * i) 0).wr pUPD (0x60 + 4 * i) 0) w) :=
    foldl_keeps _ (Keeps.refl _ _) fun _ _ h => State.wr_keeps _ _ _ (State.wr_keeps _ _ _ h)
  refine ⟨fun i hi => ?_, fun a => ?_, fun a => ?_, ?_, ?_⟩
  · refine foldl_reaches (q := fun u : State => u.rd pDBG (0x40 + 4 * i) = 0 ∧ u.rd pUPD (0x60 + 4 * i) = 0) (a := i) (fun u => ?_) (fun u j hj hq => ?_) _ _ (List.mem_range.2 hi)
    · exact ⟨(State.rd_wr_ne _ _ (regKey_ne_page (by decide) (by omega) (by omega))).trans (State.rd_wr_same ..), State.rd_wr_same ..⟩
    · exact ⟨State.rd_wr_zero (State.rd_wr_zero hq.1), State.rd_wr_zero (State.rd_wr_zero hq.2)⟩
  · rw [State.nvdByte, hk.nvd rfl, ← hnvd]
    rfl
  · rw [State.aosByte, hk.aos rfl]
    show Sparse.get ramDflt (u.aos.filter fun c => decide (c.1 < aosFree)) a = _
    rw [haos]
    split
    · next h => exact Sparse.get_filter ramDflt _ (fun a => decide (a < aosFree)) _ (decide_eq_true h)
    · next h => exact Sparse.get_filter_out ramDflt _ (fun a => decide (a < aosFree)) _ (decide_eq_false h)
  · rw [hk.store rfl, ← hstore]
  · rw [hk.code rfl, ← hcode]

/-! ### Code flash -/

/-- The engine that owns the flash page may order an operation. -/
theorem State.flashCmd_may (hmay : s.recovery = true ∨ s.flashEng ≠ none) (key : BitVec 16) (hkey : key.toNat = 0x3E91) (op : Nat) (hop : op < 4) :
    s.flashCmd s.flashReq (BitVec.ofNat 32 (65536 * key.toNat + op)) =
      if op = 1 then s.flashStart (.program (4 * s.fld pFLASH FLASH.ADDR_WORD) (s.rd pFLASH 0x28))
      else if op = 2 then s.flashStart (.erase (4 * s.fld pFLASH FLASH.ADDR_WORD)) else s := by
  have hv : (BitVec.ofNat 32 (65536 * key.toNat + op)).toNat = 65536 * key.toNat + op := by
    rw [BitVec.toNat_ofNat, Nat.mod_eq_of_lt (by omega)]
  have hk : keyOf (BitVec.ofNat 32 (65536 * key.toNat + op)) = 0x3E91 := by
    unfold keyOf
    rw [hv]
    omega
  have hb : bitsOf (BitVec.ofNat 32 (65536 * key.toNat + op)).toNat 0 2 = op := by
    rw [hv]
    unfold bitsOf
    omega
  have howner : ((s.recovery && (if s.recovery then (0 : Engine) else s.flashEng.getD 0) == 0) || s.flashEng == some (if s.recovery then 0 else s.flashEng.getD 0)) = true := by
    cases hr : s.recovery
    · cases hf : s.flashEng with
      | none => simp [hr, hf] at hmay
      | some k => simp
    · simp
  unfold State.flashCmd State.flashReq
  simp only [howner, State.keyed, hk]
  rw [if_neg (by simp), if_pos trivial, hb]
  split
  · rfl
  · rfl
  · next h1 h2 => rw [if_neg h1, if_neg h2]

theorem State.flashStart_starts {op : FlashOp} (hop : s.flashOp = none)
    (hbank : (s.lockBit LOCK.STICKY_FLASH_ACTIVE && decide (0x80000 ≤ (match op with | .program a _ => a | .erase a => a)) == s.activeBank) = false)
    (hok : match op with | .program a _ => s.nvOk = true ∧ s.codeWord a = 0xFFFFFFFF | .erase _ => s.eraseOk = true) :
    s.flashStart op = (({ s with flashOp := some op } : State).put pFLASH FLASH.CMD_STAT_BUSY 1).put pBOOT BOOT.BANK_STAT_CODE_DIRTY 1 := by
  cases op with
  | program a v =>
    obtain ⟨hnv, hblank⟩ := hok
    simp only at hbank
    unfold State.flashStart
    simp only [hop, hbank, hnv, hblank]
    simp
  | erase a =>
    simp only at hbank
    unfold State.flashStart
    simp only [hop, hbank, hok]
    simp

/-- An accepted PROGRAM holds its operation (R107). -/
theorem otpProgram_starts (s : State) (key : BitVec 16) (ht : s.Takes pOTP) (hkey : key.toNat = 0x0A7C) (hop : s.otpOp = none) (hgate : s.otpGate = 0) (haddr : (otpReserved (s.fld pOTP OTP.PROG_ADDR_WORD) || otpRegionOf (s.fld pOTP OTP.PROG_ADDR_WORD) == 7) = false) (hlk : s.otpLocked (otpRegionOf (s.fld pOTP OTP.PROG_ADDR_WORD)) = false) :
    Leads (exec (.otpProgram key) s) fun t => s.Frame t [] [(pOTP, 0x10), (pOTP, 0x3C)] [] [] ∧ t.otpOp = some (.program (s.fld pOTP OTP.PROG_ADDR_WORD) (s.rd pOTP 0x34)) ∧ t.flag pOTP OTP.CMD_STAT_BUSY = true := by
  have e : exec (.otpProgram key) s = .next _ := congrArg Host.Outcome.next ((State.keyCmd_takes ht hkey _).trans (State.otpProgram_starts hop hgate haddr hlk))
  refine ⟨_, e, Frame.of e (execOtpProgram_touches key (by simp [inRegs]) (by simp [inRegs])) (execOtpProgram_stores key) (execOtpProgram_answers key), ?_, ?_⟩
  · rw [State.put_otpOp]
  · exact State.flag_put_same _ pOTP OTP.CMD_STAT_BUSY 1 (by decide)

/-- An accepted LOCK holds its operation (R108). -/
theorem otpLock_starts (s : State) (region : BitVec 3) (key : BitVec 16) (ht : s.Takes pOTP) (hkey : key.toNat = 0x0A7C) (hop : s.otpOp = none) (hgate : s.otpGate = 0) (hregion : (region.toNat = 5 ∨ region.toNat = 6)) (hlk : s.otpLocked region.toNat = false) (hmar : s.otpRegionMarginal region.toNat = false) (hcrc : s.otpCrcOk region.toNat = true) :
    Leads (exec (.otpLock region key) s) fun t => s.Frame t [] [(pOTP, 0x10), (pOTP, 0x3C)] [] [] ∧ t.otpOp = some (.lock region.toNat) ∧ t.flag pOTP OTP.CMD_STAT_BUSY = true := by
  have e : exec (.otpLock region key) s = .next _ := congrArg Host.Outcome.next ((State.keyCmd_takes ht hkey _).trans (State.otpLock_starts hop hgate hregion hlk hmar hcrc))
  refine ⟨_, e, Frame.of e (execOtpLock_touches region key (by simp [inRegs]) (by simp [inRegs])) (execOtpLock_stores region key) (execOtpLock_answers region key), ?_, ?_⟩
  · rw [State.put_otpOp]
  · exact State.flag_put_same _ pOTP OTP.CMD_STAT_BUSY 1 (by decide)

/-- Its end blows the bits and reports (R107). -/
theorem otpCmdDone_program (s : State) (w : Nat) (v weak : Word) (hop : s.otpOp = some (.program w v)) :
    Leads (exec (.otpCmdDone weak) s) fun t => (∀ i, t.otpWord i = if i = w then s.otpWord i ||| v else s.otpWord i) ∧ t.otpOp = none ∧ t.flag pOTP OTP.PG_EVT_CMD_DONE = true ∧ t.fld pOTP OTP.CMD_STAT_RESULT = (if v &&& weak = 0 then 0 else 5) ∧ s.RegsBut t [] [(pOTP, 0x10), (pOTP, 0x3C)] ∧ t.store = s.store ∧ t.aos = s.aos ∧ t.nvd = s.nvd ∧ t.code = s.code := by
  have e : exec (.otpCmdDone weak) s = .next ((s.otpBlow w v weak).otpDone (if v &&& weak = 0 then 0 else 5)) := by
    show Host.Outcome.next (s.otpFinish weak) = _
    rw [State.otpFinish, hop]
  obtain ⟨hotp, hnone, hevt, hres⟩ := (s.otpBlow w v weak).otpDone_reports (if v &&& weak = 0 then 0 else 5)
  have hk : Keeps .all (s.otpBlow w v weak) ((s.otpBlow w v weak).otpDone (if v &&& weak = 0 then 0 else 5)) := State.otpDone_keeps _ (Keeps.refl _ _)
  refine ⟨_, e, fun i => ?_, hnone, hevt, ?_, RegsBut.of (Touches.next_same (execOtpCmdDone_touches weak (by simp [inRegs]) (by simp [inRegs])) e), hk.store rfl, hk.aos rfl, hk.nvd rfl, hk.code rfl⟩
  · rw [← State.otpWord_otpBlow w v weak i, State.otpWord, hotp]
    rfl
  · rw [hres]
    split <;> rfl

/-- An accepted WRITE (R111). -/
theorem nvdWrite_starts (s : State) (area : Fin 16) (format : BitVec 4) (key : BitVec 16) (ht : s.Takes pNVD) (hkey : key.toNat = 0x6E1D) (hop : s.nvdOp = none) (hprot : s.nvdProtected area.val false = false) (hlen : s.fld pNVD NVD.LEN_BYTES ≤ 2032) (hera : s.eraseOk = true) (hnv : s.nvOk = true) :
    Leads (exec (.nvdWrite area format key) s) fun t => s.Frame t [] [(pNVD, 0x10), (pNVD, 0x2C)] [] [] ∧ t.nvdOp = some (.write area.val format.toNat) ∧ t.flag pNVD NVD.CMD_STAT_BUSY = true := by
  have e : exec (.nvdWrite area format key) s = .next _ := congrArg Host.Outcome.next ((State.keyCmd_takes ht hkey _).trans (State.nvdStart_write hop hprot hlen hera hnv))
  refine ⟨_, e, Frame.of e (execNvdWrite_touches area format key (by simp [inRegs]) (by simp [inRegs])) (execNvdWrite_stores area format key) (execNvdWrite_answers area format key), ?_, ?_⟩
  · rw [State.put_nvdOp]
  · exact State.flag_put_same _ pNVD NVD.CMD_STAT_BUSY 1 (by decide)

/-- An accepted READ (R111). -/
theorem nvdRead_starts (s : State) (area : Fin 16) (key : BitVec 16) (ht : s.Takes pNVD) (hkey : key.toNat = 0x6E1D) (hop : s.nvdOp = none) (hprot : s.nvdProtected area.val true = false) :
    Leads (exec (.nvdRead area key) s) fun t => s.Frame t [] [(pNVD, 0x10), (pNVD, 0x2C)] [] [] ∧ t.nvdOp = some (.read area.val) ∧ t.flag pNVD NVD.CMD_STAT_BUSY = true := by
  have e : exec (.nvdRead area key) s = .next _ := congrArg Host.Outcome.next ((State.keyCmd_takes ht hkey _).trans (State.nvdStart_read hop hprot))
  refine ⟨_, e, Frame.of e (execNvdRead_touches area key (by simp [inRegs]) (by simp [inRegs])) (execNvdRead_stores area key) (execNvdRead_answers area key), ?_, ?_⟩
  · rw [State.put_nvdOp]
  · exact State.flag_put_same _ pNVD NVD.CMD_STAT_BUSY 1 (by decide)

/-- An accepted INVALIDATE (R112). -/
theorem nvdInvalidate_starts (s : State) (area : Fin 16) (key : BitVec 16) (ht : s.Takes pNVD) (hkey : key.toNat = 0x6E1D) (hop : s.nvdOp = none) (hprot : s.nvdProtected area.val false = false) (hera : s.eraseOk = true) :
    Leads (exec (.nvdInvalidate area key) s) fun t => s.Frame t [] [(pNVD, 0x10), (pNVD, 0x2C)] [] [] ∧ t.nvdOp = some (.invalidate area.val) ∧ t.flag pNVD NVD.CMD_STAT_BUSY = true := by
  have e : exec (.nvdInvalidate area key) s = .next _ := congrArg Host.Outcome.next ((State.keyCmd_takes ht hkey _).trans (State.nvdStart_invalidate hop hprot hera))
  refine ⟨_, e, Frame.of e (execNvdInvalidate_touches area key (by simp [inRegs]) (by simp [inRegs])) (execNvdInvalidate_stores area key) (execNvdInvalidate_answers area key), ?_, ?_⟩
  · rw [State.put_nvdOp]
  · exact State.flag_put_same _ pNVD NVD.CMD_STAT_BUSY 1 (by decide)

/-- Its end leaves both slots blank (R112). -/
theorem nvdCmdDone_invalidate (s : State) (area : Nat) (ok : Bool) (hop : s.nvdOp = some (.invalidate area)) (harea : area ≠ 1) :
    Leads (exec (.nvdCmdDone ok) s) fun t => (∀ a, t.nvdByte a = if a / 2048 = 2 * area ∨ a / 2048 = 2 * area + 1 then 0xFF else s.nvdByte a) ∧ t.nvdOp = none ∧ t.flag pNVD NVD.PG_EVT_CMD_DONE = true ∧ t.fld pNVD NVD.CMD_STAT_RESULT = 0 ∧ s.RegsBut t [] [(pNVD, 0x10), (pNVD, NVD.CMD_STAT_BUSY.off), (pNVD, NVD.DIRTY_PAGES.off)] ∧ t.store = s.store ∧ t.code = s.code := by
  have e : exec (.nvdCmdDone ok) s = .next (((s.nvdErasePage (2 * area)).nvdErasePage (2 * area + 1)).nvdDone 0) := by
    have hf : s.nvdFinish ok = ((s.nvdErasePage (2 * area)).nvdErasePage (2 * area + 1)).nvdDone 0 := by rw [State.nvdFinish, hop]
    show Host.Outcome.next _ = _
    rw [hop, hf]
    split
    · next h => cases h
    · next h => exact absurd (by cases h; rfl) harea
    · rfl
  obtain ⟨hnvd, hnone, hevt, hres⟩ := ((s.nvdErasePage (2 * area)).nvdErasePage (2 * area + 1)).nvdDone_reports 0
  have hk : Keeps ⟨true, false, true, true, true, true, true, true, true, true, true, true, true, true, true⟩ s
      (((s.nvdErasePage (2 * area)).nvdErasePage (2 * area + 1)).nvdDone 0) :=
    State.nvdDone_keeps _ (State.nvdErasePage_keeps _ (State.nvdErasePage_keeps _ (Keeps.refl _ _)))
  have hcode : (((s.nvdErasePage (2 * area)).nvdErasePage (2 * area + 1)).nvdDone 0).code = s.code := by
    have hd : Keeps .all ((s.nvdErasePage (2 * area)).nvdErasePage (2 * area + 1)) (((s.nvdErasePage (2 * area)).nvdErasePage (2 * area + 1)).nvdDone 0) :=
      State.nvdDone_keeps _ (Keeps.refl _ _)
    rw [hd.code rfl, (State.nvdErasePage_leaves _).2.2, (State.nvdErasePage_leaves _).2.2]
  have hin : ∀ off ∈ [0x10, NVD.CMD_STAT_BUSY.off, NVD.DIRTY_PAGES.off], inRegs [] [(pNVD, 0x10), (pNVD, NVD.CMD_STAT_BUSY.off), (pNVD, NVD.DIRTY_PAGES.off)] pNVD off := by
    intro off h
    exact inRegs_reg (by fin_cases h <;> decide)
  refine ⟨_, e, fun a => ?_, hnone, hevt, hres, RegsBut.of ?_, hk.store rfl, hcode⟩
  · rw [State.nvdByte, hnvd]
    show State.nvdByte _ a = _
    rw [State.nvdByte_nvdErasePage, State.nvdByte_nvdErasePage]
    by_cases h1 : a / 2048 = 2 * area + 1
    · simp [h1]
    · by_cases h0 : a / 2048 = 2 * area <;> simp [h0, h1]
  · exact State.nvdDone_same _ (State.nvdErasePage_same _ (State.nvdErasePage_same _ (Same.refl _ _) (hin _ (by decide))) (hin _ (by decide))) (hin _ (by decide)) (hin _ (by decide))

/-- An accepted PROGRAM of code flash (R474). -/
theorem flashProgram_starts (s : State) (key : BitVec 16) (ht : s.Takes pFLASH) (hkey : key.toNat = 0x3E91) (hmay : (s.recovery = true ∨ s.flashEng ≠ none)) (hop : s.flashOp = none) (hbank : (s.lockBit LOCK.STICKY_FLASH_ACTIVE && decide (0x80000 ≤ 4 * s.fld pFLASH FLASH.ADDR_WORD) == s.activeBank) = false) (hnv : s.nvOk = true) (hblank : s.codeWord (4 * s.fld pFLASH FLASH.ADDR_WORD) = 0xFFFFFFFF) :
    Leads (exec (.flashProgram key) s) fun t => s.Frame t [] [(pFLASH, 0x10), (pFLASH, 0x30), (pBOOT, 0x20)] [] [] ∧ t.flashOp = some (.program (4 * s.fld pFLASH FLASH.ADDR_WORD) (s.rd pFLASH 0x28)) ∧ t.flag pFLASH FLASH.CMD_STAT_BUSY = true ∧ t.flag pBOOT BOOT.BANK_STAT_CODE_DIRTY = true := by
  have e : exec (.flashProgram key) s = .next _ := congrArg Host.Outcome.next ((State.cmd_takes ht _).trans
    ((State.flashCmd_may hmay key hkey 1 (by decide)).trans (State.flashStart_starts (op := .program (4 * s.fld pFLASH FLASH.ADDR_WORD) (s.rd pFLASH 0x28)) hop hbank ⟨hnv, hblank⟩)))
  refine ⟨_, e, Frame.of e (execFlashProgram_touches key (by simp [inRegs]) (by simp [inRegs]) (by simp [inRegs])) (execFlashProgram_stores key) (execFlashProgram_answers key), ?_, ?_, ?_⟩
  · rw [State.put_flashOp, State.put_flashOp]
  · simp -implicitDefEqProofs (disch := (clear * -; decide +revert)) [State.fld_put_same, State.flag_put_same, State.flag_raise]
  · simp -implicitDefEqProofs (disch := (clear * -; decide +revert)) [State.fld_put_same, State.flag_put_same, State.flag_raise]

/-- An accepted ERASE (R474). -/
theorem flashErase_starts (s : State) (key : BitVec 16) (ht : s.Takes pFLASH) (hkey : key.toNat = 0x3E91) (hmay : (s.recovery = true ∨ s.flashEng ≠ none)) (hop : s.flashOp = none) (hbank : (s.lockBit LOCK.STICKY_FLASH_ACTIVE && decide (0x80000 ≤ 4 * s.fld pFLASH FLASH.ADDR_WORD) == s.activeBank) = false) (hera : s.eraseOk = true) :
    Leads (exec (.flashErase key) s) fun t => s.Frame t [] [(pFLASH, 0x10), (pFLASH, 0x30), (pBOOT, 0x20)] [] [] ∧ t.flashOp = some (.erase (4 * s.fld pFLASH FLASH.ADDR_WORD)) ∧ t.flag pFLASH FLASH.CMD_STAT_BUSY = true ∧ t.flag pBOOT BOOT.BANK_STAT_CODE_DIRTY = true := by
  have e : exec (.flashErase key) s = .next _ := congrArg Host.Outcome.next ((State.cmd_takes ht _).trans
    ((State.flashCmd_may hmay key hkey 2 (by decide)).trans (State.flashStart_starts (op := .erase (4 * s.fld pFLASH FLASH.ADDR_WORD)) hop hbank hera)))
  refine ⟨_, e, Frame.of e (execFlashErase_touches key (by simp [inRegs]) (by simp [inRegs]) (by simp [inRegs])) (execFlashErase_stores key) (execFlashErase_answers key), ?_, ?_, ?_⟩
  · rw [State.put_flashOp, State.put_flashOp]
  · simp -implicitDefEqProofs (disch := (clear * -; decide +revert)) [State.fld_put_same, State.flag_put_same, State.flag_raise]
  · simp -implicitDefEqProofs (disch := (clear * -; decide +revert)) [State.fld_put_same, State.flag_put_same, State.flag_raise]

/-- A new challenge (R115). -/
theorem dbgNewChallenge_issues (s : State) (v : BitVec 64) (key : BitVec 16) (ht : s.Takes pDBG) (hkey : key.toNat = 0xD3B6) :
    Leads (exec (.dbgNewChallenge v key) s) fun t => s.Frame t [] [(pDBG, 0x10), (pDBG, 0x28), (pDBG, 0x24)] [] [] ∧ t.dbg.challenge = v ∧ t.dbg.issued = true ∧ t.fld pDBG DBG.CHAL_LO_CHALLENGE = v.toNat % 2 ^ 32 ∧ t.fld pDBG DBG.CHAL_HI_CHALLENGE = v.toNat / 2 ^ 32 := by
  have e : exec (.dbgNewChallenge v key) s = .next (s.dbgChallenge v) := congrArg Host.Outcome.next (State.keyCmd_takes ht hkey _)
  refine ⟨_, e, Frame.of e (execDbgNewChallenge_touches v key (by simp [inRegs]) (by simp [inRegs]) (by simp [inRegs])) (execDbgNewChallenge_stores v key) (execDbgNewChallenge_answers v key), ?_⟩
  unfold State.dbgChallenge
  simp -implicitDefEqProofs (disch := (clear * -; decide +revert)) [State.fld_put_same, State.flag_put_same, State.flag_raise]
  exact ⟨rfl, Nat.mod_eq_of_lt (Nat.div_lt_of_lt_mul v.isLt)⟩

/-- A submitted token is checked against the challenge in force (R115). -/
theorem dbgSubmit_checks (s : State) (key : BitVec 16) (ht : s.Takes pDBG) (hkey : key.toNat = 0xD3B6) (hclosed : s.dbg.state = .closed) (hchk : s.dbg.checking = false) :
    Leads (exec (.dbgSubmit key) s) fun t => s.Frame t [] [(pDBG, 0x10), (pDBG, 0x28), (pDBG, 0x24), (pDBG, 0x30)] [] [] ∧ t.dbg.checking = true ∧ t.dbg.issued = false ∧ t.dbg.against = (if s.dbg.issued then some s.dbg.challenge else none) ∧ t.fld pDBG DBG.RESULT_CODE = 15 := by
  have e : exec (.dbgSubmit key) s = .next s.dbgSubmit := congrArg Host.Outcome.next (State.keyCmd_takes ht hkey _)
  refine ⟨_, e, Frame.of e (execDbgSubmit_touches key (by simp [inRegs]) (by simp [inRegs]) (by simp [inRegs]) (by simp [inRegs])) (execDbgSubmit_stores key) (execDbgSubmit_answers key), ?_⟩
  unfold State.dbgSubmit
  rw [if_neg (by simp [hclosed, hchk])]
  simp -implicitDefEqProofs (disch := (clear * -; decide +revert)) [State.fld_put_same, State.flag_put_same, State.flag_raise]
  rfl

/-- The verdict on a token (R115, R116). -/
theorem dbgTokenChecked_judges (s : State) (code : Nat) (hl : s.live = true) (hchk : s.dbg.checking = true) (hclosed : s.dbg.state = .closed) (hcode : code = s.tokCheck pDBG 0x40 1 s.dbgMode (s.dbg.against.getD 0) s.dbg.against.isSome) :
    Leads (exec (.dbgTokenChecked) s) fun t => t.dbg.checking = false ∧ t.fld pDBG DBG.RESULT_CODE = code ∧ (code = 0 → t.dbg.state = .erasing ∧ t.boot.now.erasePending = true) ∧ (code ≠ 0 → t.dbg.state = .closed ∧ t.flag pDBG DBG.PG_EVT_REFUSED = true ∧ t.nvd = s.nvd) ∧ t.store = s.store ∧ t.aos = s.aos ∧ t.code = s.code ∧ t.otp = s.otp ∧ t.iram = s.iram := by
  have e : exec .dbgTokenChecked s = .next (s.dbgVerdict code) := by
    rw [hcode]
    exact congrArg Host.Outcome.next (if_pos (by simp [hl, hchk, hclosed]))
  have hcode9 : code < 2 ^ 4 := by
    rw [hcode]
    unfold State.tokCheck
    extract_lets
    split_ifs <;> decide
  refine ⟨_, e, ?_⟩
  unfold State.dbgVerdict
  have hc : (s.dbgChecked code).dbg = { s.dbg with checking := false, against := none } ∧ (s.dbgChecked code).fld pDBG DBG.RESULT_CODE = code ∧ Keeps .all s (s.dbgChecked code) := by
    refine ⟨State.put_dbg .., ?_, State.put_keeps _ _ _ (Keeps.mk' (Keeps.refl _ _))⟩
    exact (State.fld_put_same _ _ _ _ (by decide)).trans (Nat.mod_eq_of_lt hcode9)
  generalize s.dbgChecked code = u at hc
  obtain ⟨hdbg, hres, hk⟩ := hc
  by_cases h0 : code = 0
  · subst h0
    rw [if_neg (by simp)]
    obtain ⟨hnow, hotp, hcode', hdw⟩ := u.bootDecide_leaves fun r => { r with erasePending := true }
    have hb : Keeps ⟨true, false, true, true, true, true, false, true, true, true, true, true, true, true, true⟩ u (u.bootDecide fun r => { r with erasePending := true }) :=
      State.bootDecide_keeps _ (Keeps.refl _ _)
    have hregs : Same (fun pg off => regKey pg off ≠ regKey pDBG DBG.RESULT_CODE.off) u (u.bootDecide fun r => { r with erasePending := true }) :=
      State.bootDecide_same _ (Same.refl _ _) (by decide) (by decide) (by decide)
    generalize (u.bootDecide fun r => { r with erasePending := true }) = w at *
    have hchecked : w.dbg.checking = false := by rw [hdw, hdbg]
    refine ⟨hchecked, (State.fld_dbgTo ..).trans ((State.fld_of_same hregs).trans hres), fun _ => ⟨rfl, ?_⟩, fun h => absurd rfl h, (hb.store rfl).trans (hk.store rfl), (hb.aos rfl).trans (hk.aos rfl),
      hcode'.trans (hk.code rfl), hotp.trans (hk.otp rfl), (hb.iram rfl).trans (hk.iram rfl)⟩
    exact congrArg BootRec.erasePending hnow
  · rw [if_pos h0]
    have hr : Keeps .all u (u.tokFail.raise pDBG DBG.PG_EVT_REFUSED) := State.raise_keeps _ _ (State.tokFail_keeps (Keeps.refl _ _))
    have hd : (u.tokFail.raise pDBG DBG.PG_EVT_REFUSED).dbg = { u.dbg with fails := min 4 (u.dbg.fails + 1) } := State.raise_dbg ..
    refine ⟨?_, ?_, fun h => absurd h h0, fun _ => ⟨?_, State.flag_raise _ _ _ rfl rfl (by decide), (hr.nvd rfl).trans (hk.nvd rfl)⟩, (hr.store rfl).trans (hk.store rfl),
      (hr.aos rfl).trans (hk.aos rfl), (hr.code rfl).trans (hk.code rfl), (hr.otp rfl).trans (hk.otp rfl), (hr.iram rfl).trans (hk.iram rfl)⟩
    · rw [hd, hdbg]
    · exact (State.fld_raise_apart _ (.inl (by decide))).trans hres
    · rw [hd, hdbg]
      exact hclosed

/-- The erasure ends with OPEN (R116). -/
theorem dbgEraseDone_opens (s : State) (haon : s.aonOn = true) (herasing : s.dbg.state = .erasing) (hera : s.eraseOk = true) :
    Leads (exec (.dbgEraseDone) s) fun t => t.dbg.state = .opened ∧ t.flag pDBG DBG.PG_EVT_OPENED = true ∧ (∀ i, i < 22 → t.rd pDBG (0x40 + 4 * i) = 0 ∧ t.rd pUPD (0x60 + 4 * i) = 0) ∧ (∀ a, a / 2048 = 30 ∨ a / 2048 = 31 → t.nvdByte a = 0xFF) ∧ (∀ a, 4096 ≤ a → a / 2048 ≠ 30 → a / 2048 ≠ 31 → t.nvdByte a = s.nvdByte a) ∧ (∀ a, t.aosByte a = if a < 0x1C0 then s.aosByte a else 0) ∧ t.store = s.store ∧ t.code = s.code := by
  have e : exec .dbgEraseDone s = .next s.dbgErased := congrArg Host.Outcome.next (if_pos (by simp [haon, herasing, hera]))
  refine ⟨_, e, ?_⟩
  unfold State.dbgErased
  obtain ⟨hwords, hnvd, haos, hstore, hcode⟩ := s.eraseSecrets_clears
  generalize s.eraseSecrets = u at *
  obtain ⟨-, hbnvd, -, hbcode, -⟩ := u.bootWrite_leaves fun r => { r with erasePending := false }
  have hb : Keeps ⟨true, false, true, true, true, true, false, true, true, true, true, true, true, true, true⟩ u (u.bootWrite fun r => { r with erasePending := false }) :=
    State.bootWrite_keeps _ (Keeps.refl _ _)
  have hregs : ∀ i < 22, (u.bootWrite fun r => { r with erasePending := false }).rd pDBG (0x40 + 4 * i) = 0 ∧
      (u.bootWrite fun r => { r with erasePending := false }).rd pUPD (0x60 + 4 * i) = 0 := by
    intro i hi
    obtain ⟨hd, hp⟩ := hwords i hi
    refine ⟨(State.rd_of_same (State.bootWrite_same _ (Same.refl _ _) ?_ ?_ ?_)).trans hd, (State.rd_of_same (State.bootWrite_same _ (Same.refl _ _) ?_ ?_ ?_)).trans hp⟩
    all_goals simp only [regKey, pBOOT, pUPD, pNVD, pDBG]; omega
  generalize (u.bootWrite fun r => { r with erasePending := false }) = w at *
  have hr : Keeps .all w (w.raise pDBG DBG.PG_EVT_OPENED) := State.raise_keeps _ _ (Keeps.refl _ _)
  have hevt : (w.raise pDBG DBG.PG_EVT_OPENED).flag pDBG DBG.PG_EVT_OPENED = true := State.flag_raise _ _ _ rfl rfl (by decide)
  have hrd : ∀ i < 22, (w.raise pDBG DBG.PG_EVT_OPENED).rd pDBG (0x40 + 4 * i) = 0 ∧ (w.raise pDBG DBG.PG_EVT_OPENED).rd pUPD (0x60 + 4 * i) = 0 := by
    intro i hi
    obtain ⟨hd, hp⟩ := hregs i hi
    exact ⟨(State.rd_raise_ne _ _ (regKey_ne_off (by omega))).trans hd, (State.rd_raise_ne _ _ (regKey_ne_page (by decide) (by omega) (by decide))).trans hp⟩
  generalize w.raise pDBG DBG.PG_EVT_OPENED = v at *
  have hv : ∀ a, 4096 ≤ a → v.nvdByte a = if a / 2048 = 30 ∨ a / 2048 = 31 then 0xFF else s.nvdByte a := by
    intro a ha
    rw [← hnvd, ← hbnvd a ha, State.nvdByte, State.nvdByte, hr.nvd rfl]
  refine ⟨rfl, (State.flag_dbgTo ..).trans hevt, fun i hi => ?_, fun a ha => ?_, fun a ha h0 h1 => ?_, fun a => ?_, ?_, ?_⟩
  · rw [State.rd_dbgTo, State.rd_dbgTo]
    exact hrd i hi
  · rw [State.nvdByte_dbgTo, hv a (by omega), if_pos ha]
  · rw [State.nvdByte_dbgTo, hv a ha, if_neg (by omega)]
  · rw [State.aosByte_dbgTo, ← haos a, State.aosByte, State.aosByte, hr.aos rfl, hb.aos rfl]
  · rw [State.dbgTo_store, hr.store rfl, hb.store rfl, hstore]
  · rw [State.dbgTo_code, hr.code rfl, hbcode, hcode]

/-- The probe halts an engine (R126). -/
theorem debugHalt_halts (s : State) (k : Engine) (hl : s.live = true) (hopen : s.dbgOpen = true) (hret : (s.eng k).retired = false) :
    Leads (exec (.debugHalt k) s) fun t => s.Frame t [] [] [] [] ∧ (t.eng k).halted = true ∧ ∀ j, j ≠ k → t.eng j = s.eng j := by
  have e : exec (.debugHalt k) s = .next _ := congrArg Host.Outcome.next (if_pos (by simp [hl, hopen, hret]))
  exact ⟨_, e, Frame.of e (execDebugHalt_touches k) (execDebugHalt_stores k) (execDebugHalt_answers k), by rw [State.eng_modEng_same], fun j hj => State.eng_modEng_ne _ hj⟩

/-- The probe releases it. -/
theorem debugResume_releases (s : State) (k : Engine) (hl : s.live = true) (hopen : s.dbgOpen = true) :
    Leads (exec (.debugResume k) s) fun t => s.Frame t [] [] [] [] ∧ (t.eng k).halted = false ∧ ∀ j, j ≠ k → t.eng j = s.eng j := by
  have e : exec (.debugResume k) s = .next _ := congrArg Host.Outcome.next (if_pos (by simp [hl, hopen]))
  exact ⟨_, e, Frame.of e (execDebugResume_touches k) (execDebugResume_stores k) (execDebugResume_answers k), by rw [State.eng_modEng_same], fun j hj => State.eng_modEng_ne _ hj⟩

/-- The end of a PROGRAM of code flash (R474). -/
theorem flashCmdDone_program (s : State) (a : Nat) (v : Word) (ok : Bool) (hl : s.live = true) (hop : s.flashOp = some (.program a v)) :
    Leads (exec (.flashCmdDone ok) s) fun t => t.code = (s.codeProgram a v).code ∧ t.flashOp = none ∧ t.fld pFLASH FLASH.CMD_STAT_RESULT = (if ok then 0 else 4) ∧ t.flag pFLASH FLASH.PG_EVT_CMD_DONE = true ∧ s.RegsBut t [] [(pFLASH, 0x10), (pFLASH, FLASH.CMD_STAT_BUSY.off)] ∧ t.store = s.store ∧ t.aos = s.aos ∧ t.nvd = s.nvd ∧ t.otp = s.otp := by
  have e : exec (.flashCmdDone ok) s = .next ((s.codeProgram a v).flashDone (if ok then 0 else 4)) := by
    refine congrArg Host.Outcome.next ((if_pos hl).trans ?_)
    rw [State.flashFinish, hop]
  obtain ⟨hcode, hnone, hevt, hres⟩ := (s.codeProgram a v).flashDone_reports (if ok then 0 else 4)
  have hk : Keeps .all (s.codeProgram a v) ((s.codeProgram a v).flashDone (if ok then 0 else 4)) := State.flashDone_keeps _ (Keeps.refl _ _)
  refine ⟨_, e, hcode, hnone, ?_, hevt, RegsBut.of (Touches.next_same (execFlashCmdDone_touches ok (by simp [inRegs, FLASH.CMD_STAT_BUSY]) (by simp [inRegs, FLASH.CMD_STAT_BUSY])) e), hk.store rfl, hk.aos rfl, hk.nvd rfl, hk.otp rfl⟩
  rw [hres]
  cases ok <;> rfl

/-- The end of an ERASE (R474). -/
theorem flashCmdDone_erase (s : State) (a : Nat) (ok : Bool) (hl : s.live = true) (hop : s.flashOp = some (.erase a)) :
    Leads (exec (.flashCmdDone ok) s) fun t => t.code = (s.codeErase a).code ∧ t.flashOp = none ∧ t.fld pFLASH FLASH.CMD_STAT_RESULT = (if ok then 0 else 4) ∧ t.flag pFLASH FLASH.PG_EVT_CMD_DONE = true ∧ s.RegsBut t [] [(pFLASH, 0x10), (pFLASH, FLASH.CMD_STAT_BUSY.off)] ∧ t.store = s.store ∧ t.aos = s.aos ∧ t.nvd = s.nvd ∧ t.otp = s.otp := by
  have e : exec (.flashCmdDone ok) s = .next ((s.codeErase a).flashDone (if ok then 0 else 4)) := by
    refine congrArg Host.Outcome.next ((if_pos hl).trans ?_)
    rw [State.flashFinish, hop]
  obtain ⟨hcode, hnone, hevt, hres⟩ := (s.codeErase a).flashDone_reports (if ok then 0 else 4)
  have hk : Keeps .all (s.codeErase a) ((s.codeErase a).flashDone (if ok then 0 else 4)) := State.flashDone_keeps _ (Keeps.refl _ _)
  refine ⟨_, e, hcode, hnone, ?_, hevt, RegsBut.of (Touches.next_same (execFlashCmdDone_touches ok (by simp [inRegs, FLASH.CMD_STAT_BUSY]) (by simp [inRegs, FLASH.CMD_STAT_BUSY])) e), hk.store rfl, hk.aos rfl, hk.nvd rfl, hk.otp rfl⟩
  rw [hres]
  cases ok <;> rfl

/-- Settles O25: one lemma for each clause. -/
theorem nonvolatileCommandsComplete : Obligations.NonvolatileCommandsComplete := by
  unfold Obligations.NonvolatileCommandsComplete
  exact ⟨otpProgram_starts, otpLock_starts, otpCmdDone_program, nvdWrite_starts, nvdRead_starts, nvdInvalidate_starts, nvdCmdDone_invalidate, flashProgram_starts, flashErase_starts, dbgNewChallenge_issues, dbgSubmit_checks, dbgTokenChecked_judges, dbgEraseDone_opens, debugHalt_halts, debugResume_releases, flashCmdDone_program, flashCmdDone_erase⟩

end Sys2Proof.Machine
end

section
/-!
PROOFS. Leaving ZERO rebuilds the register file as a WARM reset does: a list that names a register twice is rebuilt with its last entry.
-/

set_option Elab.async false

namespace Sys2Proof.Machine

/-- A device in ZERO whose wake chain runs, and whose register file names `SUP.PG_STAT` twice. -/
def zeroTwice : State :=
  { State.reset with
    phase := .sleep, mains := { State.reset.mains with conv := true, chain := true }
    regs := [(regKey pAON 0x24, 4), (regKey pSUP 0x0C, 0x21), (regKey pSUP 0x0C, 2)] }

/-- The state that it wakes to. -/
def zeroTwiceWoken : State :=
  match execZeroVsysValid 3300 zeroTwice with
  | .next t => t
  | _ => zeroTwice

theorem zeroTwice_wakes : exec (.zeroVsysValid 3300) zeroTwice = .next zeroTwiceWoken := rfl

theorem zeroTwiceWoken_source : zeroTwiceWoken.fld pSUP SUP.PG_STAT_SRC = 2 := by decide +kernel

/-- Refutes O29: in the eleventh clause the source reads BARRIER still, where the register file names its word twice, which no hypothesis shuts out. -/
theorem not_modeRequestsComplete : ¬ Obligations.ModeRequestsComplete := by
  unfold Obligations.ModeRequestsComplete
  rintro ⟨-, -, -, -, -, -, -, -, -, -, hchain, -⟩
  obtain ⟨t, e, hsrc, -⟩ := hchain zeroTwice 3300 (by decide) (by decide) (by decide) (by decide) (by decide)
  rw [zeroTwice_wakes] at e
  have ht : zeroTwiceWoken = t := Host.Outcome.next.inj e
  rw [← ht, zeroTwiceWoken_source] at hsrc
  exact absurd hsrc (by decide)

end Sys2Proof.Machine
end

section
/-!
PROOFS. Ports, engines, links, grants and twins after an update of the registers or of another part of the state.
-/

set_option Elab.async false

namespace Sys2Proof.Machine

variable (s : State)

section
variable (pg off : Nat) (g : Fld) (v : Nat) (w : Word) (b : Bool)

@[simp] theorem State.port_wr (n : Port) : (s.wr pg off w).port n = s.port n := rfl
@[simp] theorem State.eng_wr (n : Engine) : (s.wr pg off w).eng n = s.eng n := rfl
@[simp] theorem State.link_wr (n : Link) : (s.wr pg off w).link n = s.link n := rfl
@[simp] theorem State.own_wr (n : Port) : (s.wr pg off w).own n = s.own n := rfl
@[simp] theorem State.tw_wr (n : Port) : (s.wr pg off w).tw n = s.tw n := rfl

@[simp] theorem State.port_put (n : Port) : (s.put pg g v).port n = s.port n := rfl
@[simp] theorem State.eng_put (n : Engine) : (s.put pg g v).eng n = s.eng n := rfl
@[simp] theorem State.link_put (n : Link) : (s.put pg g v).link n = s.link n := rfl
@[simp] theorem State.own_put (n : Port) : (s.put pg g v).own n = s.own n := rfl
@[simp] theorem State.tw_put (n : Port) : (s.put pg g v).tw n = s.tw n := rfl

@[simp] theorem State.port_putB (n : Port) : (s.putB pg g b).port n = s.port n := rfl
@[simp] theorem State.eng_putB (n : Engine) : (s.putB pg g b).eng n = s.eng n := rfl
@[simp] theorem State.link_putB (n : Link) : (s.putB pg g b).link n = s.link n := rfl
@[simp] theorem State.own_putB (n : Port) : (s.putB pg g b).own n = s.own n := rfl
@[simp] theorem State.tw_putB (n : Port) : (s.putB pg g b).tw n = s.tw n := rfl

@[simp] theorem State.port_raise (n : Port) : (s.raise pg g).port n = s.port n := rfl
@[simp] theorem State.eng_raise (n : Engine) : (s.raise pg g).eng n = s.eng n := rfl
@[simp] theorem State.link_raise (n : Link) : (s.raise pg g).link n = s.link n := rfl
@[simp] theorem State.own_raise (n : Port) : (s.raise pg g).own n = s.own n := rfl
@[simp] theorem State.tw_raise (n : Port) : (s.raise pg g).tw n = s.tw n := rfl


@[simp] theorem State.port_bump (n : Port) : (s.bump pg g v).port n = s.port n := rfl
@[simp] theorem State.eng_bump (n : Engine) : (s.bump pg g v).eng n = s.eng n := rfl
@[simp] theorem State.link_bump (n : Link) : (s.bump pg g v).link n = s.link n := rfl
@[simp] theorem State.own_bump (n : Port) : (s.bump pg g v).own n = s.own n := rfl
@[simp] theorem State.tw_bump (n : Port) : (s.bump pg g v).tw n = s.tw n := rfl

@[simp] theorem State.port_raiseIf (n : Port) : (s.raiseIf b pg g).port n = s.port n := by
  cases b <;> rfl
@[simp] theorem State.eng_raiseIf (n : Engine) : (s.raiseIf b pg g).eng n = s.eng n := by
  cases b <;> rfl
@[simp] theorem State.link_raiseIf (n : Link) : (s.raiseIf b pg g).link n = s.link n := by
  cases b <;> rfl
@[simp] theorem State.own_raiseIf (n : Port) : (s.raiseIf b pg g).own n = s.own n := by
  cases b <;> rfl
@[simp] theorem State.tw_raiseIf (n : Port) : (s.raiseIf b pg g).tw n = s.tw n := by
  cases b <;> rfl

end

section
variable {tick readData fresh} {pending sticky regs inForce snaps shadow store aos nvd code iram otp om part pins phase rst boot aon mains dbg gpio plcr st engs ports cmpt share links fleet place twin gauge host upd fo no oo}

@[simp] theorem State.port_mk (n : Port) : (State.mk pending tick sticky regs inForce snaps shadow readData store aos nvd code iram otp om part pins phase rst boot aon mains dbg gpio
    plcr st engs s.ports cmpt share links fleet place twin gauge host upd fo no oo fresh).port n = s.port n := rfl
@[simp] theorem State.eng_mk (n : Engine) : (State.mk pending tick sticky regs inForce snaps shadow readData store aos nvd code iram otp om part pins phase rst boot aon mains dbg gpio
    plcr st s.engs ports cmpt share links fleet place twin gauge host upd fo no oo fresh).eng n = s.eng n := rfl
@[simp] theorem State.link_mk (n : Link) : (State.mk pending tick sticky regs inForce snaps shadow readData store aos nvd code iram otp om part pins phase rst boot aon mains dbg gpio
    plcr st engs ports cmpt share s.links fleet place twin gauge host upd fo no oo fresh).link n = s.link n := rfl
@[simp] theorem State.own_mk (n : Port) : (State.mk pending tick sticky regs inForce snaps shadow readData store aos nvd code iram otp om part pins phase rst boot aon mains dbg gpio
    plcr st engs ports cmpt share links fleet s.place twin gauge host upd fo no oo fresh).own n = s.own n := rfl
@[simp] theorem State.tw_mk (n : Port) : (State.mk pending tick sticky regs inForce snaps shadow readData store aos nvd code iram otp om part pins phase rst boot aon mains dbg gpio
    plcr st engs ports cmpt share links fleet place s.twin gauge host upd fo no oo fresh).tw n = s.tw n := rfl

end

/-! Updates of a port's blocks leave the registers. -/

section
variable (pg off : Nat) (g : Fld) (n : Port)

@[simp] theorem State.rd_modCc (f : CcSt → CcSt) : (s.modCc n f).rd pg off = s.rd pg off := rfl
@[simp] theorem State.fld_modCc (f : CcSt → CcSt) : (s.modCc n f).fld pg g = s.fld pg g := rfl
@[simp] theorem State.flag_modCc (f : CcSt → CcSt) : (s.modCc n f).flag pg g = s.flag pg g := rfl
@[simp] theorem State.rd_modPdl (f : PdlSt → PdlSt) : (s.modPdl n f).rd pg off = s.rd pg off := rfl
@[simp] theorem State.fld_modPdl (f : PdlSt → PdlSt) : (s.modPdl n f).fld pg g = s.fld pg g := rfl
@[simp] theorem State.flag_modPdl (f : PdlSt → PdlSt) : (s.modPdl n f).flag pg g = s.flag pg g := rfl
@[simp] theorem State.rd_modPol (f : PolSt → PolSt) : (s.modPol n f).rd pg off = s.rd pg off := rfl
@[simp] theorem State.fld_modPol (f : PolSt → PolSt) : (s.modPol n f).fld pg g = s.fld pg g := rfl
@[simp] theorem State.flag_modPol (f : PolSt → PolSt) : (s.modPol n f).flag pg g = s.flag pg g := rfl
@[simp] theorem State.rd_modGuard (f : GuardSt → GuardSt) : (s.modGuard n f).rd pg off = s.rd pg off := rfl
@[simp] theorem State.fld_modGuard (f : GuardSt → GuardSt) : (s.modGuard n f).fld pg g = s.fld pg g := rfl
@[simp] theorem State.flag_modGuard (f : GuardSt → GuardSt) : (s.modGuard n f).flag pg g = s.flag pg g := rfl
@[simp] theorem State.rd_modFw (f : FwSt → FwSt) : (s.modFw n f).rd pg off = s.rd pg off := rfl
@[simp] theorem State.fld_modFw (f : FwSt → FwSt) : (s.modFw n f).fld pg g = s.fld pg g := rfl
@[simp] theorem State.flag_modFw (f : FwSt → FwSt) : (s.modFw n f).flag pg g = s.flag pg g := rfl
@[simp] theorem State.rd_modShare (f : ShareSt → ShareSt) : (s.modShare n f).rd pg off = s.rd pg off := rfl
@[simp] theorem State.fld_modShare (f : ShareSt → ShareSt) : (s.modShare n f).fld pg g = s.fld pg g := rfl
@[simp] theorem State.flag_modShare (f : ShareSt → ShareSt) : (s.modShare n f).flag pg g = s.flag pg g := rfl

end

end Sys2Proof.Machine
end

section
/-!
PROOFS. Wakes (R78-R80, R89).
-/

set_option Elab.async false

namespace Sys2Proof.Machine

variable {s : State}

/-- CORE runs once firmware is entered: nothing that the entry does moves the device out of RUN. -/
theorem State.fwEntry_phase (arg : Nat) : (s.fwEntry arg).phase = .run := by
  unfold State.fwEntry
  extract_lets -merge -underBinder +onlyGivenNames b body u x3
  have k3 : Keeps ⟨false, false, false, false, false, true, false, false, false, false, false, false, false, false, false⟩ x3 x3 := Keeps.refl _ _
  have hrun : x3.phase = .run := rfl
  clear_value x3
  extract_lets -merge -underBinder +onlyGivenNames x4
  have k4 : Keeps _ x3 x4 := State.forEngines_keeps k3 (fun _ _ h => Keeps.ite (fun _ => h) (fun _ => State.modEng_keeps _ _ h))
  clear_value x4
  extract_lets -merge -underBinder +onlyGivenNames x6
  have k6 : Keeps _ x3 x6 := State.trialStart_keeps (State.put_keeps _ _ _ (State.stickySet_keeps _ k4))
  clear_value x6
  extract_lets -merge -underBinder +onlyGivenNames x7
  have k7 : Keeps _ x3 x7 := Keeps.ite (fun _ => State.packLoad_keeps k6) (fun _ => k6)
  clear_value x7
  exact ((State.post_keeps _ _ (State.forPorts_keeps (State.forPorts_keeps (State.putB_keeps _ _ _ k7)
    (fun _ _ h => State.clampTask_keeps _ h)) (fun _ _ h => State.holdPort_keeps _ _ h))).phase rfl).trans hrun

/-- Entering firmware leaves the registers of the AON page. -/
theorem State.fwEntry_rd_aon (arg : Nat) {off : Nat} (h : off < 256) : (s.fwEntry arg).rd pAON off = s.rd pAON off := by
  have hpage : ∀ p o, p ≠ pAON → o < 256 → regKey p o ≠ regKey pAON off := fun p o hp ho => regKey_ne_page hp ho h
  have hcc : ∀ m : Port, pCC m ≠ pAON := fun m => by simp only [pCC, pAON]; omega
  exact State.rd_of_same (State.fwEntry_same (P := fun p o => regKey p o ≠ regKey pAON off) arg (Same.refl _ _) (hpage _ _ (by decide) (by decide))
    (hpage _ _ (by decide) (by decide)) (hpage _ _ (by decide) (by decide)) (hpage _ _ (by decide) (by decide)) (hpage _ _ (by decide) (by decide))
    (hpage _ _ (by decide) (by decide)) (hpage _ _ (by decide) (by decide)) (hpage _ _ (by decide) (by decide)) (hpage _ _ (by decide) (by decide))
    (hpage _ _ (by decide) (by decide)) (hpage _ _ (by decide) (by decide)) (hpage _ _ (by decide) (by decide)) (hpage _ _ (by decide) (by decide))
    (hpage _ _ (by decide) (by decide)) (hpage _ _ (by decide) (by decide)) (fun m => hpage _ _ (hcc m) (by decide)) (fun m => hpage _ _ (hcc m) (by decide))
    (fun m => hpage _ _ (hcc m) (by decide)))

theorem State.fwEntry_fld_aon (arg : Nat) {g : Fld} (h : g.off < 256) : (s.fwEntry arg).fld pAON g = s.fld pAON g := by
  unfold State.fld
  rw [State.fwEntry_rd_aon arg h]

/-- The word that a wake writes to `LAST_WAKE` (Table 4.11). -/
def lastWake (srcs : Nat) (n : Port) : Word := BitVec.ofNat 32 (srcs + (if bitsOf srcs 0 2 ≠ 0 then 65536 * n.val else 0))

/-- What a wake shows (R78, R80): CORE runs, the mode in force is RUN, and the word of `LAST_WAKE` is the one written. -/
theorem State.wakeCore_shows (srcs : Nat) (n : Port) :
    (s.wakeCore srcs n).phase = .run ∧ (s.wakeCore srcs n).fld pAON AON.MODE_STAT_MODE = 0 ∧ (s.wakeCore srcs n).rd pAON 0x2C = lastWake srcs n := by
  unfold State.wakeCore
  extract_lets -merge -underBinder +onlyGivenNames x0 x1 x2 x3
  clear_value x3
  refine ⟨State.fwEntry_phase _, ?_, ?_⟩
  · rw [State.fwEntry_fld_aon _ (by decide)]
    simp -implicitDefEqProofs (disch := (clear * -; decide +revert)) [State.fld_put_same, State.flag_put_same, State.flag_raise]
  · rw [State.fwEntry_rd_aon _ (by decide)]
    simp -implicitDefEqProofs (disch := (clear * -; decide +revert)) [lastWake, State.rd_put_ne, State.rd_wr_same]

theorem State.wakeCore_tick (srcs : Nat) (n : Port) : (s.wakeCore srcs n).tick = s.tick :=
  (State.wakeCore_keeps (H1 := true) (H4 := false) (H7 := false) (H10 := false) srcs n (Keeps.refl _ s)).tick rfl

/-- A source that is enabled wakes CORE from STANDBY (R78). -/
theorem State.wakeBy_standby {src : Nat} {n : Port} (hp : s.phase = .sleep) (hm : s.mode = 2) (hon : s.wakeOn src = true) :
    (s.wakeBy src n).phase = .run ∧ (s.wakeBy src n).tick = s.tick ∧ (s.wakeBy src n).fld pAON AON.MODE_STAT_MODE = 0 ∧
      (s.wakeBy src n).rd pAON 0x2C = lastWake (2 ^ src) n := by
  have e : s.wakeBy src n = (if s.aon.zeroAsked then s.modeEnd 4 else s).wakeCore (2 ^ src) n := by
    unfold State.wakeBy
    rw [hp, hon, hm]
    rfl
  have hk : Keeps ⟨true, false, false, false, false, false, false, false, false, false, false, false, false, false, false⟩ s (if s.aon.zeroAsked then s.modeEnd 4 else s) :=
    Keeps.ite (fun _ => State.modeEnd_keeps _ (Keeps.refl _ _)) (fun _ => Keeps.refl _ _)
  obtain ⟨hrun, hmode, hlast⟩ := State.wakeCore_shows (s := if s.aon.zeroAsked then s.modeEnd 4 else s) (2 ^ src) n
  rw [e]
  exact ⟨hrun, (State.wakeCore_tick _ _).trans (hk.tick rfl), hmode, hlast⟩

/-- What `LAST_WAKE` shows of a wake by one source. -/
theorem lastWake_fields (src : Fin 6) (n : Port) :
    bitsOf (lastWake (2 ^ src.val) n).toNat 0 7 = 2 ^ src.val ∧ bitsOf (lastWake (2 ^ src.val) n).toNat 16 3 = if src.val ≤ 1 then n.val else 0 := by
  revert src n
  decide

/-- A port that no sample has seen before reports no partner at its first. -/
theorem State.watchSample_first {n : Port} {mv1 mv2 : Nat} (h : (s.port n).cc.watch = 0) : (s.watchSample n mv1 mv2).2 = false := by
  simp [State.watchSample, h]

@[simp] theorem State.port_lineShow (n m : Port) : (s.lineShow n).port m = s.port m := by
  simp -implicitDefEqProofs (disch := (clear * -; decide +revert)) [State.lineShow]

/-- The levels of a sample are kept (R156). -/
theorem State.watchSample_port (n : Port) (mv1 mv2 : Nat) :
    ((s.watchSample n mv1 mv2).1.port n).cc.cc1Mv = mv1 ∧ ((s.watchSample n mv1 mv2).1.port n).cc.cc2Mv = mv2 ∧
      ∀ m, m ≠ n → (s.watchSample n mv1 mv2).1.port m = s.port m := by
  unfold State.watchSample State.ccStore State.modCc
  refine ⟨?_, ?_, fun m hm => ?_⟩
  · simp -implicitDefEqProofs (disch := (clear * -; decide +revert)) []
  · simp -implicitDefEqProofs (disch := (clear * -; decide +revert)) []
  · rw [State.port_modPort_ne _ hm, State.port_lineShow, State.port_modPort_ne _ hm]

/-- They are shown in steps of 20 mV (R156). -/
theorem State.watchSample_shows (n : Port) (mv1 mv2 : Nat) : (s.watchSample n mv1 mv2).1.fld (pCC n) CC.LINE_CC1_V = mv1 / 20 % 2048 := by
  simp -implicitDefEqProofs (disch := (clear * -; decide +revert)) [State.watchSample, State.lineShow, State.ccStore, State.modCc, State.ccMv, State.fld_put_same, State.flag_put_same, State.flag_raise]
  rfl

/-- An enabled wake source in STANDBY (R78, R80). -/
theorem wake_completes (s : State) (src : Fin 6) (n : Port) (hp : s.phase = .sleep) (hm : s.mode = 2) (hon : s.wakeOn src.val = true) :
    Leads (exec (.wake src n) s) fun t => t.phase = .run ∧ t.fld pAON AON.MODE_STAT_MODE = 0 ∧ t.fld pAON AON.LAST_WAKE_SRC = 2 ^ src.val ∧ t.fld pAON AON.LAST_WAKE_PORT = (if src.val ≤ 1 then n.val else 0) ∧ t.tick = s.tick := by
  obtain ⟨hrun, htick, hmode, hlast⟩ := State.wakeBy_standby (n := n) hp hm hon
  obtain ⟨hsrc, hport⟩ := lastWake_fields src n
  refine ⟨_, rfl, hrun, hmode, ?_, ?_, htick⟩
  · exact (congrArg (fun w : Word => bitsOf w.toNat 0 7) hlast).trans hsrc
  · exact (congrArg (fun w : Word => bitsOf w.toNat 16 3) hlast).trans hport

/-- An enabled source in ZERO (R89). -/
theorem zeroWake_completes (s : State) (src : Fin 6) (n : Port) (hp : s.phase = .sleep) (hm : s.mode = 4) (hon : s.wakeOn src.val = true) (hw : s.aon.wakes = 0) :
    Leads (exec (.zeroWake src n) s) fun t => s.Frame t [] [(pAON, 0x2C)] [] [] ∧ t.phase = .sleep ∧ t.mode = 4 ∧ t.mains.conv = true ∧ t.mains.chain = true ∧ t.aon.wakes = BitVec.ofNat 6 (2 ^ src.val) ∧ t.fld pAON AON.LAST_WAKE_PORT = (if src.val ≤ 1 then n.val else s.fld pAON AON.LAST_WAKE_PORT) := by
  have e : exec (.zeroWake src n) s = .next (s.zeroChain src.val n) := congrArg Host.Outcome.next (if_pos ⟨hp, hm, hon⟩)
  refine ⟨_, e, Frame.of e (execZeroWake_touches src n (by simp [inRegs])) (execZeroWake_stores src n) (execZeroWake_answers src n), ?_⟩
  have hn : n.val % 2 ^ AON.LAST_WAKE_PORT.w = n.val := Nat.mod_eq_of_lt n.isLt
  have hmode : s.fld pAON AON.MODE_STAT_MODE = 4 := hm
  by_cases hs : src.val ≤ 1
  · simp -implicitDefEqProofs (disch := (clear * -; decide +revert)) [State.zeroChain, State.mode, hs, hw, hn, hp, hmode, State.fld_put_same, State.flag_put_same, State.flag_raise]
  · simp -implicitDefEqProofs (disch := (clear * -; decide +revert)) [State.zeroChain, State.mode, hs, hw, hp, hmode]

/-- The wake timer. -/
theorem wakeTimer_completes (s : State) (hp : s.phase = .sleep) (hm : s.mode = 2) (hper : s.fld pAON AON.WAKE_TIMER_MS_PERIOD ≠ 0) (hon : s.wakeOn 4 = true) :
    Leads (exec (.wakeTimer) s) fun t => t.phase = .run ∧ t.fld pAON AON.MODE_STAT_MODE = 0 ∧ t.fld pAON AON.LAST_WAKE_SRC = 16 ∧ t.tick = s.tick := by
  have e : exec .wakeTimer s = .next (s.wakeBy 4 0) := congrArg Host.Outcome.next (if_pos ⟨hp, hper⟩)
  obtain ⟨hrun, htick, hmode, hlast⟩ := State.wakeBy_standby (n := 0) hp hm hon
  exact ⟨_, e, hrun, hmode, (congrArg (fun w : Word => bitsOf w.toNat 0 7) hlast).trans (lastWake_fields 4 0).1, htick⟩

/-- The host's address wakes CORE where VDDIO is good. -/
theorem hostAddressWake_completes (s : State) (hp : s.phase = .sleep) (hm : s.mode = 2) (hio : s.flag pSUP SUP.PG_STAT_VDDIO_OK = true) (hon : s.wakeOn 2 = true) :
    Leads (exec (.hostAddressWake) s) fun t => t.phase = .run ∧ t.fld pAON AON.MODE_STAT_MODE = 0 ∧ t.fld pAON AON.LAST_WAKE_SRC = 4 ∧ t.tick = s.tick := by
  have e : exec .hostAddressWake s = .next (s.wakeBy 2 0) := congrArg Host.Outcome.next (if_pos ⟨hp, hm, hio⟩)
  obtain ⟨hrun, htick, hmode, hlast⟩ := State.wakeBy_standby (n := 0) hp hm hon
  exact ⟨_, e, hrun, hmode, (congrArg (fun w : Word => bitsOf w.toNat 0 7) hlast).trans (lastWake_fields 2 0).1, htick⟩

/-- A sample of a port that sees no partner twice. -/
theorem attachWatchSample_completes (s : State) (n : Port) (mv1 mv2 : Nat) (hp : s.phase = .sleep) (hwatch : bitAt (s.fld pAON AON.WATCH_CFG_PORTS) n.val = true) (hrest : s.ccRests n = true) (hold : (s.port n).cc.watch = 0) :
    Leads (exec (.attachWatchSample [(n, mv1, mv2)]) s) fun t => s.RegsBut t [] [(pCC n, CC.LINE_CC1_V.off)] ∧ t.fld (pCC n) CC.LINE_CC1_V = mv1 / 20 % 2048 ∧ t.store = s.store ∧ t.aos = s.aos ∧ s.FlashSame t ∧ (t.port n).cc.cc1Mv = mv1 ∧ (t.port n).cc.cc2Mv = mv2 ∧ t.phase = .sleep ∧ ∀ m, m ≠ n → t.port m = s.port m := by
  have e : exec (.attachWatchSample [(n, mv1, mv2)]) s = .next (s.watchSample n mv1 mv2).1 := by
    have hnone : (s.watchSample n mv1 mv2).2 = false := State.watchSample_first hold
    change execAttachWatchSample _ s = _
    simp [execAttachWatchSample, hp, hwatch, hrest, State.watchAll, hnone, allPorts]
  obtain ⟨hcc1, hcc2, hothers⟩ := s.watchSample_port n mv1 mv2
  have hk : Keeps ⟨true, true, true, true, true, true, true, true, true, true, true, true, true, true, false⟩ s (s.watchSample n mv1 mv2).1 :=
    State.watchSample_keeps n mv1 mv2 (Keeps.refl _ s)
  exact ⟨_, e, RegsBut.of (State.watchSample_same n mv1 mv2 (Same.refl _ _) (inRegs_reg (List.mem_singleton_self _))), s.watchSample_shows n mv1 mv2, hk.store rfl, hk.aos rfl,
    hk.flashSame, hcc1, hcc2, (hk.phase rfl).trans hp, hothers⟩

/-- Settles O30. -/
theorem wakesComplete : Obligations.WakesComplete := by
  unfold Obligations.WakesComplete
  exact ⟨wake_completes, zeroWake_completes, wakeTimer_completes, hostAddressWake_completes, attachWatchSample_completes⟩

end Sys2Proof.Machine
end

section
/-!
PROOFS. A WARM reset abandons an operation on code flash, and the word that it was programming changes.
-/

set_option Elab.async false

namespace Sys2Proof.Machine

/-- A device in a WARM reset that came while the word of code flash at address 0 was being programmed with 0. -/
def warmProgram : State :=
  { State.reset with phase := .warm, regs := [(regKey pCLK CLK.PG_STAT_RUNNING.off, 0xF)], flashOp := some (.program 0 0) }

/-- The state in which firmware is entered. -/
def warmProgrammed : State := warmProgram.warmBoot 0

theorem warmProgram_boots : exec (.warmReset 0) warmProgram = .next warmProgrammed := congrArg Host.Outcome.next (if_pos (by decide))

/-- A WARM reset that neither activates an image nor checks one goes from the reset of CORE to firmware. -/
theorem State.warmBoot_reused {s : State} (us : BitVec 24) (ha : s.upd.activate = none) (hr : s.recovery = false) (hw : s.rst.causes &&& 48#6 = 0#6)
    (hd : s.flag pBOOT BOOT.BANK_STAT_CODE_DIRTY = false) :
    s.warmBoot us = ((((((s.coreClear.put pBOOT BOOT.PG_STAT_WARM_ENTRY 1).put pSYS SYS.PG_STAT_VERDICT_REUSED 1).fwEntry 1).resetEnd us).repostPending).warmFw) := by
  simp -implicitDefEqProofs [State.warmBoot, ha, hr, hw, hd]

/-- Such a reset leaves code flash as the reset of CORE left it. -/
theorem State.warmBoot_code {s : State} (us : BitVec 24) (ha : s.upd.activate = none) (hr : s.recovery = false) (hw : s.rst.causes &&& 48#6 = 0#6)
    (hd : s.flag pBOOT BOOT.BANK_STAT_CODE_DIRTY = false) : (s.warmBoot us).code = s.coreClear.code := by
  rw [State.warmBoot_reused us ha hr hw hd]
  have hk : Keeps ⟨true, true, false, true, false, false, true, false, true, true, false, false, false, true, false⟩ s.coreClear s.coreClear := Keeps.refl _ _
  exact (State.warmFw_keeps (State.repostPending_keeps (State.resetEnd_keeps us (State.fwEntry_keeps 1 (State.put_keeps _ _ _ (State.put_keeps _ _ _ hk)))))).code rfl

theorem warmProgram_cut : Sparse.get flashDflt warmProgram.coreClear.code 0 ≠ Sparse.get flashDflt warmProgram.code 0 := by decide +kernel

theorem warmProgrammed_code : Sparse.get flashDflt warmProgrammed.code 0 ≠ Sparse.get flashDflt warmProgram.code 0 := by
  unfold warmProgrammed
  rw [State.warmBoot_code 0 rfl (by decide) (by decide) (by decide)]
  exact warmProgram_cut

/-- Refutes O31: in the sixth clause code flash is said to be as before, but the WARM reset cuts off the operation that programs it, which no hypothesis shuts
out. -/
theorem not_bootCommandsComplete : ¬ Obligations.BootCommandsComplete := by
  unfold Obligations.BootCommandsComplete
  rintro ⟨-, -, -, -, -, hwarm, -⟩
  obtain ⟨t, e, -, -, -, -, -, -, hcode, -⟩ := hwarm warmProgram 0 (by decide) (by decide)
  rw [warmProgram_boots] at e
  have ht : warmProgrammed = t := Host.Outcome.next.inj e
  rw [← ht] at hcode
  exact warmProgrammed_code (congrArg (fun m => Sparse.get flashDflt m 0) hcode)

end Sys2Proof.Machine
end

section
/-!
PROOFS. GPIO and the motion pin (R58, R60).
-/

set_option Elab.async false

namespace Sys2Proof.Machine

variable {s : State}

/-- A mask has the bits whose number the filter lets pass. -/
theorem bitAt_foldl_filter (p : Fin 8 → Bool) (i : Fin 8) :
    bitAt (((List.finRange 8).filter p).foldl (fun m j => m + 2 ^ j.val) 0) i.val = p i := by
  have hlist : List.finRange 8 = [0, 1, 2, 3, 4, 5, 6, 7] := by decide
  rw [hlist]
  simp only [List.filter_cons, List.filter_nil]
  generalize h0 : p 0 = b0
  generalize h1 : p 1 = b1
  generalize h2 : p 2 = b2
  generalize h3 : p 3 = b3
  generalize h4 : p 4 = b4
  generalize h5 : p 5 = b5
  generalize h6 : p 6 = b6
  generalize h7 : p 7 = b7
  have hi : p i = [b0, b1, b2, b3, b4, b5, b6, b7].get i := by
    subst h0 h1 h2 h3 h4 h5 h6 h7
    revert i
    exact fun i => by fin_cases i <;> rfl
  rw [hi]
  clear * -
  revert i b0 b1 b2 b3 b4 b5 b6 b7
  decide

theorem foldl_filter_lt (p : Fin 8 → Bool) : ((List.finRange 8).filter p).foldl (fun m j => m + 2 ^ j.val) 0 < 2 ^ 32 := by
  have hsum : ∀ (l : List (Fin 8)) (m : Nat), l.foldl (fun m j => m + 2 ^ j.val) m ≤ m + 128 * l.length := fun l => by
    induction l with
    | nil => intro m; simp
    | cons j l ih =>
      intro m
      have hj : 2 ^ j.val ≤ 2 ^ 7 := Nat.pow_le_pow_right (by decide) (by omega)
      have h := ih (m + 2 ^ j.val)
      simp only [List.foldl_cons, List.length_cons]
      omega
  have hlen := List.length_filter_le p (List.finRange 8)
  have h := hsum ((List.finRange 8).filter p) 0
  rw [List.length_finRange] at hlen
  omega

/-! The levels read do not depend on the page's event word. -/

section
variable (w : Word) (i : Fin 8)

theorem State.rd_wr_evt {pg off : Nat} (h : regKey pg off ≠ regKey pGPIO 0x10) : (s.wr pGPIO 0x10 w).rd pg off = s.rd pg off := State.rd_wr_ne _ _ h

theorem State.fld_wr_evt {pg : Nat} {g : Fld} (h : regKey pg g.off ≠ regKey pGPIO 0x10) : (s.wr pGPIO 0x10 w).fld pg g = s.fld pg g := by
  unfold State.fld
  rw [State.rd_wr_evt w h]

theorem State.flag_wr_evt {pg : Nat} {g : Fld} (h : regKey pg g.off ≠ regKey pGPIO 0x10) : (s.wr pGPIO 0x10 w).flag pg g = s.flag pg g := by
  unfold State.flag
  rw [State.fld_wr_evt w h]

theorem State.enabled_evt : (s.wr pGPIO 0x10 w).enabled pGPIO = s.enabled pGPIO := State.flag_wr_evt w (by decide)

theorem State.hpdPin_evt (n : Port) : (s.wr pGPIO 0x10 w).hpdPin n = s.hpdPin n := by
  unfold State.hpdPin
  rw [State.flag_wr_evt w (regKey_ne_page (by simp only [pVDM, pGPIO]; omega) (by decide) (by decide)), State.port_wr]

theorem State.pinWord_evt : (s.wr pGPIO 0x10 w).pinWord i = s.pinWord i := by
  unfold State.pinWord
  rw [State.rd_wr_evt w (regKey_ne_off (by omega))]

theorem State.padCfg_evt : (s.wr pGPIO 0x10 w).padCfg i = s.padCfg i := by
  unfold State.padCfg
  rw [State.fld_wr_evt w (by decide), State.pinWord_evt, State.wr_gpio]

theorem State.padDrive_evt : (s.wr pGPIO 0x10 w).padDrive i = s.padDrive i := by
  unfold State.padDrive
  simp only [State.padCfg_evt, State.fld_wr_evt w (pg := pGPIO) (g := GPIO.PG_STAT_HELD) (by decide), State.fld_wr_evt w (pg := pGPIO) (g := GPIO.OUT_LEVEL) (by decide),
    State.enabled_evt, State.hpdPin_evt, State.wr_gpio, State.wr_phase]

theorem State.padLevel_evt : (s.wr pGPIO 0x10 w).padLevel i = s.padLevel i := by
  unfold State.padLevel State.padPull
  rw [State.padDrive_evt, State.padCfg_evt, State.wr_pins]
  rfl

theorem State.gpioIn_evt : (s.wr pGPIO 0x10 w).gpioIn = s.gpioIn := by
  unfold State.gpioIn
  simp only [State.enabled_evt, State.padCfg_evt, State.padLevel_evt, State.pinWord_evt]

end

/-! The look at the pads (R58). -/

theorem State.gpioIn_seen (x : BitVec 8) : ({ s with gpio := { s.gpio with seen := x } }).gpioIn = s.gpioIn := rfl

/-- The look at the pads in a page that operates. -/
theorem State.gpioWatch_takes (ht : s.Takes pGPIO) (hon : s.enabled pGPIO = true) :
    s.gpioWatch = (if s.edgeBits s.gpio.seen.toNat = 0 then s else s.raiseBits pGPIO (s.edgeBits s.gpio.seen.toNat)).gpioSync :=
  if_pos (by simp [ht.1, ht.2, hon])

/-- A register that is not the page's event word reads as before. -/
theorem State.rd_gpioWatch {pg off : Nat} (h : regKey pg off ≠ regKey pGPIO 0x10) : s.gpioWatch.rd pg off = s.rd pg off :=
  State.rd_of_same (State.gpioWatch_same (P := fun p o => regKey p o ≠ regKey pg off) (Same.refl _ _) h.symm)

theorem State.fld_gpioWatch {pg : Nat} {g : Fld} (h : regKey pg g.off ≠ regKey pGPIO 0x10) : s.gpioWatch.fld pg g = s.fld pg g := by
  unfold State.fld
  rw [State.rd_gpioWatch h]

theorem State.flag_gpioWatch {pg : Nat} {g : Fld} (h : regKey pg g.off ≠ regKey pGPIO 0x10) : s.gpioWatch.flag pg g = s.flag pg g := by
  unfold State.flag
  rw [State.fld_gpioWatch h]

theorem State.gpioWatch_live : s.gpioWatch.live = s.live := by
  unfold State.live
  rw [(State.gpioWatch_keeps (H := .all) (Keeps.refl _ s)).phase rfl]

/-- What the look before a change leaves for the look after it: the levels, the configuration, and the page at work. -/
theorem State.gpioWatch_boardPad (ht : s.Takes pGPIO) (hon : s.enabled pGPIO = true) (i : Fin 8) (level : Option Bool) :
    (s.gpioWatch.boardPad i level).gpioIn = (s.boardPad i level).gpioIn := by
  rw [State.gpioWatch_takes ht hon]
  by_cases hm : s.edgeBits s.gpio.seen.toNat = 0
  · rw [if_pos hm]
    exact State.gpioIn_seen (s := s.boardPad i level) _
  · rw [if_neg hm]
    exact (State.gpioIn_seen (s := (s.raiseBits pGPIO (s.edgeBits s.gpio.seen.toNat)).boardPad i level) _).trans (State.gpioIn_evt (s := s.boardPad i level) _)

theorem State.edgeBits_lt (was : Nat) : s.edgeBits was < 2 ^ 32 := foldl_filter_lt _

/-- The level that a look took, as the next one compares it. -/
theorem State.gpioWatch_seen (ht : s.Takes pGPIO) (hon : s.enabled pGPIO = true) (i : Fin 8) : bitAt s.gpioWatch.gpio.seen.toNat i.val = bitAt s.gpioIn i.val := by
  have hseen : s.gpioWatch.gpio.seen = BitVec.ofNat 8 s.gpioIn := by
    rw [State.gpioWatch_takes ht hon]
    by_cases hm : s.edgeBits s.gpio.seen.toNat = 0
    · rw [if_pos hm]
      rfl
    · rw [if_neg hm]
      exact congrArg (BitVec.ofNat 8) (State.gpioIn_evt _)
  rw [hseen, bitAt_eq_testBit, bitAt_eq_testBit, BitVec.toNat_ofNat, Nat.testBit_mod_two_pow]
  simp [i.isLt]

/-- An edge selected sets its event. -/
theorem State.gpioWatch_raises (ht : s.Takes pGPIO) (hon : s.enabled pGPIO = true) {i : Fin 8} (h : bitAt (s.edgeBits s.gpio.seen.toNat) i.val = true) :
    (s.gpioWatch.rd pGPIO 0x10).getLsbD i.val = true := by
  have hm : s.edgeBits s.gpio.seen.toNat ≠ 0 := by
    intro h0
    rw [h0] at h
    simp [bitAt_eq_testBit] at h
  have hbit : (BitVec.ofNat 32 (s.edgeBits s.gpio.seen.toNat)).getLsbD i.val = true := by
    have hi : i.val < 32 := by omega
    rw [bitAt_eq_testBit] at h
    rw [BitVec.getLsbD_ofNat]
    simp [hi, h]
  rw [State.gpioWatch_takes ht hon, if_neg hm]
  have hr := State.getLsbD_raiseBits (s := s) (pg := pGPIO) _ hbit
  rw [BitVec.toNat_ofNat, Nat.mod_eq_of_lt (s.edgeBits_lt _)] at hr
  exact hr

/-- The edges seen. -/
theorem State.bitAt_edgeBits (was : Nat) (i : Fin 8) : bitAt (s.edgeBits was) i.val =
    ((bitAt s.gpioIn i.val && !bitAt was i.val && bitAt (s.pinWord i) 10) || (!bitAt s.gpioIn i.val && bitAt was i.val && bitAt (s.pinWord i) 11)) := by
  unfold State.edgeBits
  rw [bitAt_foldl_filter]
  have hsel : ∀ j, j < 2 → bitAt (bitsOf (s.pinWord i) 10 2) j = bitAt (s.pinWord i) (10 + j) := by
    intro j hj
    rw [bitAt_eq_testBit, bitAt_eq_testBit, bitsOf, Nat.testBit_mod_two_pow, Nat.testBit_div_two_pow, decide_eq_true hj, Bool.true_and, Nat.add_comm]
  have h0 := hsel 0 (by decide)
  have h1 := hsel 1 (by decide)
  dsimp only at h0 h1 ⊢
  rw [h0, h1]

/-- GPIO_EDGE at a page that operates: an edge selected sets its event. -/
theorem State.gpioEdge_raises {i : Fin 8} {level : Option Bool} (ht : s.Takes pGPIO) (hon : s.enabled pGPIO = true)
    (h : (!bitAt s.gpioIn i.val && bitAt (s.boardPad i level).gpioIn i.val && bitAt (s.pinWord i) 10) ||
      (bitAt s.gpioIn i.val && !bitAt (s.boardPad i level).gpioIn i.val && bitAt (s.pinWord i) 11)) :
    ((s.withEdges fun s => s.boardPad i level).rd pGPIO 0x10).getLsbD i.val = true ∧ (s.withEdges fun s => s.boardPad i level).pins = (s.boardPad i level).pins := by
  have hu : (s.gpioWatch.boardPad i level).Takes pGPIO := by
    refine ⟨State.gpioWatch_live.trans ht.1, ?_⟩
    exact (State.flag_gpioWatch (by decide)).trans ht.2
  have hv : (s.gpioWatch.boardPad i level).enabled pGPIO = true := (State.flag_gpioWatch (by decide)).trans hon
  have hpin : (s.gpioWatch.boardPad i level).pinWord i = s.pinWord i := congrArg BitVec.toNat (State.rd_gpioWatch (regKey_ne_off (by omega)))
  have hseen : bitAt (s.gpioWatch.boardPad i level).gpio.seen.toNat i.val = bitAt s.gpioIn i.val := State.gpioWatch_seen ht hon i
  refine ⟨State.gpioWatch_raises hu hv ?_, (State.gpioWatch_keeps (H := .all) (Keeps.refl _ _)).pins rfl |>.trans ?_⟩
  · rw [State.bitAt_edgeBits, State.gpioWatch_boardPad ht hon, hpin, hseen]
    revert h
    cases bitAt s.gpioIn i.val <;> cases bitAt (s.boardPad i level).gpioIn i.val <;> simp
  · have hp := (State.gpioWatch_keeps (H := .all) (Keeps.refl _ s)).pins rfl
    simp only [State.boardPad, hp]

/-- What OUT_SET and OUT_CLR leave in `OUT`. -/
theorem State.gpioOut_level (set clr : Nat) :
    (s.gpioOut set clr).fld pGPIO GPIO.OUT_LEVEL = ((s.fld pGPIO GPIO.OUT_LEVEL ||| set) &&& (255 - clr % 256)) % 2 ^ GPIO.OUT_LEVEL.w := by
  unfold State.gpioOut State.withEdges
  rw [State.fld_gpioWatch (by decide), State.fld_put_same _ _ _ _ (by decide), State.fld_gpioWatch (by decide)]

/-- The hold of a pad, cleared by a write of its bit. -/
theorem State.bitAt_held_cleared (u : State) (i : Fin 8) : bitAt ((u.put pGPIO ⟨0x0C, i.val, 1⟩ 0).fld pGPIO GPIO.PG_STAT_HELD) i.val = false := by
  have hw : (u.put pGPIO ⟨0x0C, i.val, 1⟩ 0).rd pGPIO 0x0C = BitVec.ofNat 32 (setBits (u.rd pGPIO 0x0C).toNat i.val 1 0) := State.rd_wr_same _ _ _ _
  have hbit := bitAt_setBits_one (u.rd pGPIO 0x0C).toNat i.val i.val false
  have hlt : setBits (u.rd pGPIO 0x0C).toNat i.val 1 0 < 2 ^ 32 := setBits_lt (u.rd pGPIO 0x0C).isLt (by omega)
  unfold State.fld
  rw [show GPIO.PG_STAT_HELD.off = 0x0C from rfl, hw, BitVec.toNat_ofNat, Nat.mod_eq_of_lt hlt]
  rw [if_pos rfl, bitAt_eq_testBit] at hbit
  rw [bitAt_eq_testBit, bitsOf, Nat.testBit_mod_two_pow, Nat.testBit_div_two_pow]
  simpa [GPIO.PG_STAT_HELD] using hbit

/-- A rising edge that `PIN_CFG` selects (R58). -/
theorem gpioEdge_rise (s : State) (i : Fin 8) (level : Option Bool) (htake : s.Takes pGPIO) (hon : s.enabled pGPIO = true) (hlow : bitAt s.gpioIn i.val = false) (hhigh : bitAt (s.boardPad i level).gpioIn i.val = true) (hsel : bitAt (s.pinWord i) 10 = true) :
    Leads (exec (.gpioEdge i level) s) fun t => s.Frame t [] [(pGPIO, 0x10)] [] [] ∧ (t.rd pGPIO 0x10).getLsbD i.val = true ∧ t.pins = (s.boardPad i level).pins := by
  obtain ⟨hevt, hpins⟩ := State.gpioEdge_raises (i := i) (level := level) htake hon (by simp [hlow, hhigh, hsel])
  have e : exec (.gpioEdge i level) s = .next _ := rfl
  exact ⟨_, e, Frame.of e (execGpioEdge_touches i level (by simp [inRegs])) (execGpioEdge_stores i level) (execGpioEdge_answers i level), hevt, hpins⟩

/-- A falling edge that `PIN_CFG` selects (R58). -/
theorem gpioEdge_fall (s : State) (i : Fin 8) (level : Option Bool) (htake : s.Takes pGPIO) (hon : s.enabled pGPIO = true) (hhigh : bitAt s.gpioIn i.val = true) (hlow : bitAt (s.boardPad i level).gpioIn i.val = false) (hsel : bitAt (s.pinWord i) 11 = true) :
    Leads (exec (.gpioEdge i level) s) fun t => s.Frame t [] [(pGPIO, 0x10)] [] [] ∧ (t.rd pGPIO 0x10).getLsbD i.val = true ∧ t.pins = (s.boardPad i level).pins := by
  obtain ⟨hevt, hpins⟩ := State.gpioEdge_raises (i := i) (level := level) htake hon (by simp [hlow, hhigh, hsel])
  have e : exec (.gpioEdge i level) s = .next _ := rfl
  exact ⟨_, e, Frame.of e (execGpioEdge_touches i level (by simp [inRegs])) (execGpioEdge_stores i level) (execGpioEdge_answers i level), hevt, hpins⟩

/-- `OUT_SET`. -/
theorem gpioOutSet_completes (s : State) (v : BitVec 8) (htake : s.Takes pGPIO) :
    Leads (exec (.gpioOutSet v) s) fun t => s.Frame t [] [(pGPIO, 0x10), (pGPIO, 0x40)] [] [] ∧ t.fld pGPIO GPIO.OUT_LEVEL = (s.fld pGPIO GPIO.OUT_LEVEL ||| v.toNat) := by
  have e : exec (.gpioOutSet v) s = .next _ := congrArg Host.Outcome.next (State.cmd_takes htake _)
  refine ⟨_, e, Frame.of e (execGpioOutSet_touches v (by simp [inRegs]) (by simp [inRegs])) (execGpioOutSet_stores v) (execGpioOutSet_answers v), ?_⟩
  rw [State.gpioOut_level]
  have hor : s.fld pGPIO GPIO.OUT_LEVEL ||| v.toNat < 2 ^ 8 := Nat.or_lt_two_pow (s.fld_lt _ _) v.isLt
  exact (Nat.mod_eq_of_lt (Nat.and_lt_two_pow _ (by decide))).trans ((Nat.and_two_pow_sub_one_eq_mod _ 8).trans (Nat.mod_eq_of_lt hor))

/-- `OUT_CLR`. -/
theorem gpioOutClr_completes (s : State) (v : BitVec 8) (htake : s.Takes pGPIO) :
    Leads (exec (.gpioOutClr v) s) fun t => s.Frame t [] [(pGPIO, 0x10), (pGPIO, 0x40)] [] [] ∧ t.fld pGPIO GPIO.OUT_LEVEL = (s.fld pGPIO GPIO.OUT_LEVEL &&& (255 - v.toNat)) := by
  have e : exec (.gpioOutClr v) s = .next _ := congrArg Host.Outcome.next (State.cmd_takes htake _)
  refine ⟨_, e, Frame.of e (execGpioOutClr_touches v (by simp [inRegs]) (by simp [inRegs])) (execGpioOutClr_stores v) (execGpioOutClr_answers v), ?_⟩
  rw [State.gpioOut_level, Nat.or_zero, Nat.mod_eq_of_lt (v.isLt : v.toNat < 256)]
  exact Nat.mod_eq_of_lt (Nat.lt_of_le_of_lt Nat.and_le_left (s.fld_lt _ _))

/-- A write of `PIN_CFG` ends the hold of its pad (R60). -/
theorem pinCfgWrite_completes (s : State) (i : Fin 8) (v : Word) (htake : s.Takes pGPIO) (hopen : s.locked pGPIO = false) :
    Leads (exec (.pinCfgWrite i v) s) fun t => s.Frame t [pGPIO] [] [] [] ∧ t.rd pGPIO (0x20 + 4 * i.val) = (v &&& 0x1F7F) ∧ bitAt (t.fld pGPIO GPIO.PG_STAT_HELD) i.val = false := by
  have e : exec (.pinCfgWrite i v) s = .next ((s.gpioWatch.wr pGPIO (0x20 + 4 * i.val) (v &&& 0x1F7F)).put pGPIO ⟨0x0C, i.val, 1⟩ 0).gpioWatch := by
    refine congrArg Host.Outcome.next ((State.cmd_takes htake _).trans ?_)
    simp [State.pinCfg, hopen, State.withEdges]
  refine ⟨_, e, Frame.of e (execPinCfgWrite_touches i v (inRegs_page (by simp))) (execPinCfgWrite_stores i v) (execPinCfgWrite_answers i v), ?_, ?_⟩
  · rw [State.rd_gpioWatch (regKey_ne_off (by omega)), State.rd_put_ne _ _ (regKey_ne_off (by simp; omega)), State.rd_wr_same]
  · rw [State.fld_gpioWatch (by decide)]
    exact State.bitAt_held_cleared _ i

/-- The motion pin. -/
theorem motnAsserted_completes (s : State) (hlive : s.live = true) :
    Leads (exec (.motnAsserted) s) fun t => s.Frame t [] [(pSYS, 0x10)] [] [] ∧ t.flag pSYS SYS.PG_EVT_MOTN = true ∧ t.pins = { s.pins with motn := true } ∧ t.aon.motnAt = some s.tick := by
  have e : exec .motnAsserted s = .next _ := if_pos hlive
  refine ⟨_, e, Frame.of e (execMotnAsserted_touches (by simp [inRegs])) (execMotnAsserted_stores) (execMotnAsserted_answers), ?_⟩
  simp -implicitDefEqProofs (disch := (clear * -; decide +revert)) [State.fld_put_same, State.flag_put_same, State.flag_raise]

/-- Settles O32. -/
theorem pinCommandsComplete : Obligations.PinCommandsComplete := by
  unfold Obligations.PinCommandsComplete
  exact ⟨gpioEdge_rise, gpioEdge_fall, gpioOutSet_completes, gpioOutClr_completes, pinCfgWrite_completes, motnAsserted_completes⟩

end Sys2Proof.Machine
end

section
/-!
PROOFS. The scrub, the rewrite test, migrations and bank retirement (R145-R149).
-/

set_option Elab.async false

namespace Sys2Proof.Machine

variable {s : State}

/-- A bit set in a field of 16 bits reads back. -/
theorem bitAt_setBits_mod {v b : Nat} (hb : b < 16) : bitAt (setBits v b 1 1 % 2 ^ 16) b = true := by
  have h := bitAt_setBits_one v b b true
  rw [if_pos rfl, bitAt_eq_testBit] at h
  rw [bitAt_eq_testBit, Nat.testBit_mod_two_pow, decide_eq_true hb, Bool.true_and]
  exact h

/-! What the retirement of a bank, a bank that becomes faulty and the watch list leave. -/

theorem State.flag_eq_of_fld {t : State} {pg : Nat} {g : Fld} (h : t.fld pg g = s.fld pg g) : t.flag pg g = s.flag pg g := by
  unfold State.flag
  rw [h]

/-- A bank that becomes faulty leaves the recorded error, the parity event and the bytes known to be bad. -/
theorem State.bankFaulty_leaves (b : Nat) : (s.bankFaulty b).flag pSTORE STORE.PG_EVT_PARITY = s.flag pSTORE STORE.PG_EVT_PARITY ∧
    (s.bankFaulty b).fld pSTORE STORE.LAST_ERR_REQ = s.fld pSTORE STORE.LAST_ERR_REQ ∧ (s.bankFaulty b).st.bad = s.st.bad := by
  unfold State.bankFaulty
  split
  · exact ⟨rfl, rfl, rfl⟩
  · extract_lets u
    have hu : u.flag pSTORE STORE.PG_EVT_PARITY = s.flag pSTORE STORE.PG_EVT_PARITY ∧ u.fld pSTORE STORE.LAST_ERR_REQ = s.fld pSTORE STORE.LAST_ERR_REQ ∧
        u.st.bad = s.st.bad := by
      simp -implicitDefEqProofs (disch := (clear * -; decide +revert)) [u]
    clear_value u
    obtain ⟨hpar, hreq, hbad⟩ := hu
    split
    · exact ⟨hpar, hreq, hbad⟩
    · split
      · simp -implicitDefEqProofs (disch := (clear * -; decide +revert)) [hpar, hreq, hbad]
      · split
        · exact ⟨hpar, hreq, hbad⟩
        · simp -implicitDefEqProofs (disch := (clear * -; decide +revert)) [State.bankRetire, State.incr, hpar, hreq, hbad]

/-- A bank that becomes faulty is marked, and the event set (R146). -/
theorem State.bankFaulty_marks {b : Nat} (hb : b < 16) (h : bitAt (s.fld pBANK BANK.FAULTY_BANKS) b = false) :
    bitAt ((s.bankFaulty b).fld pBANK BANK.FAULTY_BANKS) b = true ∧ (s.bankFaulty b).flag pSTORE STORE.PG_EVT_FAULTY = true := by
  unfold State.bankFaulty
  rw [if_neg (by simp [h])]
  extract_lets u
  have hu : bitAt (u.fld pBANK BANK.FAULTY_BANKS) b = true ∧ u.flag pSTORE STORE.PG_EVT_FAULTY = true := by
    simp -implicitDefEqProofs (disch := (clear * -; decide +revert)) [u, State.fld_put_same, State.flag_put_same, State.flag_raise]
    exact bitAt_setBits_mod hb
  clear_value u
  obtain ⟨hbit, hevt⟩ := hu
  split
  · exact ⟨hbit, hevt⟩
  · split
    · simp -implicitDefEqProofs (disch := (clear * -; decide +revert)) [hbit, hevt]
    · split
      · exact ⟨hbit, hevt⟩
      · simp -implicitDefEqProofs (disch := (clear * -; decide +revert)) [State.bankRetire, State.incr, hbit, hevt]

theorem State.wordBank_lt (w : Nat) : s.wordBank w < 16 := Nat.mod_lt _ (by decide)

/-- The counters of a bank stand apart from the store's page. -/
theorem State.fld_errs_apart {g c : Fld} (hg : g.off < 256) (hc : c.off < 192) {k : Nat} (hk : k < 16) (n : Nat) :
    (s.bump pBANK (c.at k) n).fld pSTORE g = s.fld pSTORE g :=
  State.fld_put_ne _ _ (regKey_ne_page (by decide) hg (by simp only [Fld.at]; omega))

/-- What the watch list, and a bank's counters, leave: the parity event, the recorded error, and the bytes known to be bad. -/
def State.SameError (s t : State) : Prop :=
  t.flag pSTORE STORE.PG_EVT_PARITY = s.flag pSTORE STORE.PG_EVT_PARITY ∧ t.fld pSTORE STORE.LAST_ERR_REQ = s.fld pSTORE STORE.LAST_ERR_REQ ∧ t.st.bad = s.st.bad

theorem State.SameError.trans {s t u : State} (h : s.SameError t) (h' : t.SameError u) : s.SameError u :=
  ⟨h'.1.trans h.1, h'.2.1.trans h.2.1, h'.2.2.trans h.2.2⟩

theorem State.bump_sameError {c : Fld} (hc : c.off < 192) {k : Nat} (hk : k < 16) (n : Nat) : s.SameError (s.bump pBANK (c.at k) n) :=
  ⟨State.flag_eq_of_fld (State.fld_errs_apart (by decide) hc hk n), State.fld_errs_apart (by decide) hc hk n, rfl⟩

theorem State.watchAdd_sameError (w : Nat) : s.SameError (s.watchAdd w) := by
  unfold State.watchAdd
  extract_lets full l u v x
  have hv : s.SameError v := by
    simp -implicitDefEqProofs (disch := (clear * -; decide +revert)) [State.SameError, v, u]
  have hx : v.SameError x :=
    (show v.SameError (v.raiseIf full pSTORE STORE.PG_EVT_WATCH_OVF) by simp -implicitDefEqProofs (disch := (clear * -; decide +revert)) [State.SameError]).trans (State.bump_sameError (by decide) (State.wordBank_lt _) 1)
  clear_value x v
  exact (hv.trans hx).trans (by simp -implicitDefEqProofs (disch := (clear * -; decide +revert)) [State.SameError])

/-- A word of wrong parity is recorded with its requester (R145). -/
theorem State.storeParity_records (w : Nat) : (s.storeParity 8 w).flag pSTORE STORE.PG_EVT_PARITY = true ∧
    (s.storeParity 8 w).fld pSTORE STORE.LAST_ERR_REQ = 8 ∧ (s.storeParity 8 w).st.bad = s.st.bad := by
  unfold State.storeParity
  extract_lets -underBinder x0 x1 x2 x3
  have h2 : x2.flag pSTORE STORE.PG_EVT_PARITY = true ∧ x2.fld pSTORE STORE.LAST_ERR_REQ = 8 ∧ x2.st.bad = s.st.bad := by
    simp -implicitDefEqProofs (disch := (clear * -; decide +revert)) [x2, x1, x0, State.bump, State.fld_put_same, State.flag_put_same, State.flag_raise]
    rfl
  have h3 : x2.SameError x3 := State.bump_sameError (by decide) (State.wordBank_lt _) 1
  clear_value x3 x2
  have hall : ∀ t, x3.SameError t → t.flag pSTORE STORE.PG_EVT_PARITY = true ∧ t.fld pSTORE STORE.LAST_ERR_REQ = 8 ∧ t.st.bad = s.st.bad := fun t ht =>
    have h := h3.trans ht
    ⟨h.1.trans h2.1, h.2.1.trans h2.2.1, h.2.2.trans h2.2.2⟩
  split
  · exact hall _ (State.watchAdd_sameError w)
  · split
    · exact hall _ (State.SameError.trans (by simp -implicitDefEqProofs (disch := (clear * -; decide +revert)) [State.SameError]) (State.watchAdd_sameError w))
    · split
      · exact hall _ (State.bankFaulty_leaves _)
      · exact hall _ ⟨rfl, rfl, rfl⟩

theorem State.mem_stSpoil_of_mem (u : State) {x b : Nat} (h : x ∈ u.st.bad) : x ∈ (u.stSpoil b).st.bad := by
  unfold State.stSpoil
  split
  · exact h
  · exact List.mem_cons_of_mem _ h

theorem State.mem_stSpoil_self (u : State) (b : Nat) : b ∈ (u.stSpoil b).st.bad := by
  unfold State.stSpoil
  split
  case isTrue h => exact List.contains_iff_mem.1 h
  case isFalse => exact List.mem_cons_self

/-- The bytes found wrong are known to be bad. -/
theorem State.mem_stSpoil_foldl (p : Nat → Bool) (b : Nat → Nat) (l : List Nat) (u : State) :
    (∀ x ∈ u.st.bad, x ∈ (l.foldl (fun s i => if p i then s.stSpoil (b i) else s) u).st.bad) ∧
      ∀ i ∈ l, p i = true → b i ∈ (l.foldl (fun s i => if p i then s.stSpoil (b i) else s) u).st.bad := by
  induction l generalizing u with
  | nil => exact ⟨fun x hx => hx, fun i hi => absurd hi (List.not_mem_nil)⟩
  | cons j l ih =>
    have hstep : (∀ x ∈ u.st.bad, x ∈ (if p j then u.stSpoil (b j) else u).st.bad) ∧ (p j = true → b j ∈ (if p j then u.stSpoil (b j) else u).st.bad) := by
      cases p j with
      | false => exact ⟨fun x hx => hx, fun h => absurd h (by decide)⟩
      | true => exact ⟨fun x hx => u.mem_stSpoil_of_mem hx, fun _ => u.mem_stSpoil_self _⟩
    obtain ⟨hkeep, hnew⟩ := ih (if p j then u.stSpoil (b j) else u)
    refine ⟨fun x hx => hkeep x (hstep.1 x hx), fun i hi hp => ?_⟩
    rcases List.mem_cons.1 hi with rfl | hi
    · exact hkeep _ (hstep.2 hp)
    · exact hnew i hi hp

/-- The rest of a check, after its word was judged: on to the next word, or to the next cycle. -/
def State.scrubOn (s : State) (nxt : Nat) : State :=
  let s := { s with st := { s.st with scrubPos := nxt } }
  if (s.scrubSeg (nxt / 1024)).isSome then s.put pSTORE STORE.SCRUB_STAT_PROGRESS (100 * nxt / 262144)
  else
    let s := { s with st := { s.st with scrubPos := 0, scrubMs := s.scrubMs } }
    ((s.put pSTORE STORE.SCRUB_STAT_PROGRESS 0).incr pSTORE STORE.SCRUB_STAT_CYCLES).raise pSTORE STORE.PG_EVT_SCRUB_DONE

theorem State.scrubOn_next {nxt q : Nat} (h : s.scrubSeg (nxt / 1024) = some q) :
    s.scrubOn nxt = ({ s with st := { s.st with scrubPos := nxt } } : State).put pSTORE STORE.SCRUB_STAT_PROGRESS (100 * nxt / 262144) :=
  if_pos (congrArg Option.isSome h)

theorem State.scrubOn_wrap {nxt : Nat} (h : s.scrubSeg (nxt / 1024) = none) :
    s.scrubOn nxt = ((({ s with st := { s.st with scrubPos := 0, scrubMs := s.scrubMs } } : State).put pSTORE STORE.SCRUB_STAT_PROGRESS 0).incr pSTORE
      STORE.SCRUB_STAT_CYCLES).raise pSTORE STORE.PG_EVT_SCRUB_DONE :=
  if_neg (ne_true_of_eq_false (congrArg Option.isSome h))

theorem State.scrubOn_leaves (nxt : Nat) : (s.scrubOn nxt).flag pSTORE STORE.PG_EVT_PARITY = s.flag pSTORE STORE.PG_EVT_PARITY ∧
    (s.scrubOn nxt).fld pSTORE STORE.LAST_ERR_REQ = s.fld pSTORE STORE.LAST_ERR_REQ ∧ (s.scrubOn nxt).st.bad = s.st.bad := by
  cases h : s.scrubSeg (nxt / 1024) with
  | some q =>
    rw [State.scrubOn_next h]
    simp -implicitDefEqProofs (disch := (clear * -; decide +revert)) []
  | none =>
    rw [State.scrubOn_wrap h]
    simp -implicitDefEqProofs (disch := (clear * -; decide +revert)) [State.incr]

/-- The judgement of the word at a position in service. -/
def State.scrubWord (s : State) (wrong : BitVec 4) (w : Nat) : State :=
  let s := [0, 1, 2, 3].foldl (fun s i => if wrong.getLsbD i then s.stSpoil (4 * w + i) else s) s
  if s.st.bad.any fun b => b / 4 == w then s.storeParity 8 w else s

theorem State.scrubCheck_eq {wrong : BitVec 4} {p : Nat} (hpos : s.st.scrubPos = p) (hseg : s.scrubSeg (p / 1024) = some (p / 1024)) :
    s.scrubCheck wrong = (s.scrubWord wrong (s.wordName p)).scrubOn (p + 1) := by
  unfold State.scrubCheck
  rw [hpos]
  simp only [hseg]
  rfl

/-- A word without a wrong byte is left alone. -/
theorem State.scrubWord_sound {w : Nat} (hbad : s.st.bad = []) : s.scrubWord 0 w = s := by
  simp [State.scrubWord, hbad]

/-- A word with a wrong byte is recorded, and its wrong bytes are known. -/
theorem State.scrubWord_wrong {wrong : BitVec 4} {w : Nat} (h : wrong ≠ 0) : (s.scrubWord wrong w).flag pSTORE STORE.PG_EVT_PARITY = true ∧
    (s.scrubWord wrong w).fld pSTORE STORE.LAST_ERR_REQ = 8 ∧ ∀ i : Fin 4, wrong.getLsbD i.val = true → 4 * w + i.val ∈ (s.scrubWord wrong w).st.bad := by
  obtain ⟨-, hnew⟩ := State.mem_stSpoil_foldl wrong.getLsbD (fun i => 4 * w + i) [0, 1, 2, 3] s
  have hlist : ∀ i : Fin 4, i.val ∈ [0, 1, 2, 3] := by decide
  unfold State.scrubWord
  extract_lets u
  have hall : ∀ i : Fin 4, wrong.getLsbD i.val = true → 4 * w + i.val ∈ u.st.bad := fun i hi => hnew i.val (hlist i) hi
  clear_value u
  obtain ⟨i, hi⟩ : ∃ i : Fin 4, wrong.getLsbD i.val = true := by
    by_contra hno
    refine h (BitVec.eq_of_getLsbD_eq fun j hj => ?_)
    have hj' : ¬ wrong.getLsbD j = true := fun hb => hno ⟨⟨j, hj⟩, hb⟩
    simpa using hj'
  have hany : (u.st.bad.any fun b => b / 4 == w) = true := List.any_eq_true.2 ⟨_, hall i hi, by simp; omega⟩
  rw [if_pos hany]
  obtain ⟨hpar, hreq, hbad⟩ := u.storeParity_records w
  exact ⟨hpar, hreq, fun i hi => hbad ▸ hall i hi⟩

theorem State.setSpare_faulty (u : State) (j seg : Nat) : (u.setSpare j seg).fld pBANK BANK.FAULTY_BANKS = u.fld pBANK BANK.FAULTY_BANKS :=
  State.fld_put_ne _ _ (regKey_ne_off (by simp only [BANK.FAULTY_BANKS]; omega))

theorem State.segMove_faulty (u : State) {c : Nat × Nat} : (u.segMove c).fld pBANK BANK.FAULTY_BANKS = u.fld pBANK BANK.FAULTY_BANKS := by
  unfold State.segMove
  split
  · rfl
  · rw [State.setSpare_faulty]
    split
    · rw [State.setSpare_faulty]
    · rfl

/-- A migration leaves the faulty banks. -/
theorem State.migrate_faulty {b : Nat} : (s.migrate b).fld pBANK BANK.FAULTY_BANKS = s.fld pBANK BANK.FAULTY_BANKS := by
  have hmove : ∀ (l : List (Nat × Nat)) (u : State), (l.foldl State.segMove u).fld pBANK BANK.FAULTY_BANKS = u.fld pBANK BANK.FAULTY_BANKS := fun l => by
    induction l with
    | nil => exact fun _ => rfl
    | cons c l ih => exact fun u => (ih _).trans u.segMove_faulty
  unfold State.migrate
  simp -implicitDefEqProofs (disch := (clear * -; decide +revert)) [hmove]

/-- The check of a sound word. -/
theorem scrubCheck_sound (s : State) (p : Nat) (hlive : s.live = true) (hpos : s.st.scrubPos = p) (hseg : s.scrubSeg (p / 1024) = some (p / 1024)) (hnext : (s.scrubSeg ((p + 1) / 1024)).isSome = true) (hbad : s.st.bad = []) :
    Leads (exec (.scrubCheck 0) s) fun t => s.Frame t [pBANK] [(pSTORE, 0x10), (pSTORE, 0x28), (pSTORE, 0x2C), (pSTORE, 0x30), (pSTORE, 0x0C), (pSTORE, 0x24)] [] [] ∧ t.st.scrubPos = p + 1 ∧ t.st.bad = [] ∧ t.flag pSTORE STORE.PG_EVT_PARITY = s.flag pSTORE STORE.PG_EVT_PARITY := by
  have e : exec (.scrubCheck 0) s = .next (s.scrubOn (p + 1)) := by
    refine congrArg Host.Outcome.next ((if_pos hlive).trans ?_)
    rw [State.scrubCheck_eq hpos hseg, State.scrubWord_sound hbad]
  refine ⟨_, e, Frame.of e (execScrubCheck_touches 0 (by simp [inRegs]) (by simp [inRegs]) (by simp [inRegs]) (inRegs_page (by simp)) (by simp [inRegs]) (by simp [inRegs]) (by simp [inRegs])) (execScrubCheck_stores 0) (execScrubCheck_answers 0), ?_, (State.scrubOn_leaves _).2.2.trans hbad, (State.scrubOn_leaves _).1⟩
  obtain ⟨q, hq⟩ := Option.isSome_iff_exists.1 hnext
  rw [State.scrubOn_next hq]
  simp -implicitDefEqProofs (disch := (clear * -; decide +revert)) []

/-- Bytes of wrong parity (R145). -/
theorem scrubCheck_wrong (s : State) (p : Nat) (wrong : BitVec 4) (hlive : s.live = true) (hpos : s.st.scrubPos = p) (hseg : s.scrubSeg (p / 1024) = some (p / 1024)) (hwrong : wrong ≠ 0) :
    Leads (exec (.scrubCheck wrong) s) fun t => s.Frame t [pBANK] [(pSTORE, 0x10), (pSTORE, 0x28), (pSTORE, 0x2C), (pSTORE, 0x30), (pSTORE, 0x0C), (pSTORE, 0x24)] [] [] ∧ t.flag pSTORE STORE.PG_EVT_PARITY = true ∧ t.fld pSTORE STORE.LAST_ERR_REQ = 8 ∧ (∀ i : Fin 4, wrong.getLsbD i.val = true → 4 * s.wordName p + i.val ∈ t.st.bad) := by
  have e : exec (.scrubCheck wrong) s = .next ((s.scrubWord wrong (s.wordName p)).scrubOn (p + 1)) := by
    refine congrArg Host.Outcome.next ((if_pos hlive).trans ?_)
    rw [State.scrubCheck_eq hpos hseg]
  obtain ⟨hpar, hreq, hbad⟩ := (s.scrubWord wrong (s.wordName p)).scrubOn_leaves (p + 1)
  obtain ⟨hwpar, hwreq, hwbad⟩ := State.scrubWord_wrong (s := s) (w := s.wordName p) hwrong
  refine ⟨_, e, Frame.of e (execScrubCheck_touches wrong (by simp [inRegs]) (by simp [inRegs]) (by simp [inRegs]) (inRegs_page (by simp)) (by simp [inRegs]) (by simp [inRegs]) (by simp [inRegs])) (execScrubCheck_stores wrong) (execScrubCheck_answers wrong), hpar.trans hwpar, hreq.trans hwreq, fun i hi => ?_⟩
  rw [hbad]
  exact hwbad i hi

/-- The end of a scrub cycle. -/
theorem scrubCheck_last (s : State) (p : Nat) (hlive : s.live = true) (hpos : s.st.scrubPos = p) (hseg : s.scrubSeg (p / 1024) = some (p / 1024)) (hlast : s.scrubSeg ((p + 1) / 1024) = none) (hbad : s.st.bad = []) :
    Leads (exec (.scrubCheck 0) s) fun t => s.Frame t [pBANK] [(pSTORE, 0x10), (pSTORE, 0x28), (pSTORE, 0x2C), (pSTORE, 0x30), (pSTORE, 0x0C), (pSTORE, 0x24)] [] [] ∧ t.st.scrubPos = 0 ∧ t.st.scrubMs = s.scrubMs ∧ t.flag pSTORE STORE.PG_EVT_SCRUB_DONE = true := by
  have e : exec (.scrubCheck 0) s = .next (s.scrubOn (p + 1)) := by
    refine congrArg Host.Outcome.next ((if_pos hlive).trans ?_)
    rw [State.scrubCheck_eq hpos hseg, State.scrubWord_sound hbad]
  refine ⟨_, e, Frame.of e (execScrubCheck_touches 0 (by simp [inRegs]) (by simp [inRegs]) (by simp [inRegs]) (inRegs_page (by simp)) (by simp [inRegs]) (by simp [inRegs]) (by simp [inRegs])) (execScrubCheck_stores 0) (execScrubCheck_answers 0), ?_⟩
  rw [State.scrubOn_wrap hlast]
  simp -implicitDefEqProofs (disch := (clear * -; decide +revert)) [State.incr, State.scrubMs, State.fld_put_same, State.flag_put_same, State.flag_raise]

/-- A rewrite test that fails (R146). -/
theorem rewriteTest_fails (s : State) (e : WatchEnt) (l : List WatchEnt) (hlive : s.live = true) (hwatch : s.st.watch = e :: l) (htest : e.tested = false) (hfaulty : bitAt (s.fld pBANK BANK.FAULTY_BANKS) (s.wordBank e.word) = false) (hbank : s.wordBank e.word < 16) :
    Leads (exec (.rewriteTest false) s) fun t => s.Frame t [] [(pSTORE, 0x10), (pSTORE, 0x0C), (pBANK, 0x24), (pBANK, 0x20), (pBANK, 0x2C)] [] [] ∧ bitAt (t.fld pBANK BANK.FAULTY_BANKS) (s.wordBank e.word) = true ∧ t.flag pSTORE STORE.PG_EVT_FAULTY = true := by
  have e : exec (.rewriteTest false) s = .next (({ s with st := { s.st with
      watch := s.st.watch.map fun x => if x.word = e.word then { x with tested := true } else x } } : State).bankFaulty (s.wordBank e.word)) := by
    refine congrArg Host.Outcome.next ((if_pos hlive).trans ?_)
    simp [State.rewriteTest, hwatch, htest]
    rfl
  exact ⟨_, e, Frame.of e (execRewriteTest_touches false (by simp [inRegs]) (by simp [inRegs]) (by simp [inRegs]) (by simp [inRegs]) (by simp [inRegs])) (execRewriteTest_stores false) (execRewriteTest_answers false), State.bankFaulty_marks hbank hfaulty⟩

/-- A rewrite test that passes writes no register. -/
theorem rewriteTest_same (s : State) (hlive : s.live = true) :
    Leads (exec (.rewriteTest true) s) fun t => s.Frame t [] [(pSTORE, 0x10), (pSTORE, 0x0C), (pBANK, 0x24), (pBANK, 0x20), (pBANK, 0x2C)] [] [] ∧ t.regs = s.regs := by
  have e : exec (.rewriteTest true) s = .next (s.rewriteTest true) := congrArg Host.Outcome.next (if_pos hlive)
  refine ⟨_, e, Frame.of e (execRewriteTest_touches true (by simp [inRegs]) (by simp [inRegs]) (by simp [inRegs]) (by simp [inRegs]) (by simp [inRegs])) (execRewriteTest_stores true) (execRewriteTest_answers true), ?_⟩
  unfold State.rewriteTest
  cases s.st.watch.find? fun e => !e.tested with
  | none => rfl
  | some e => rfl

/-- A migration that completes. -/
theorem migrateDone_completes (s : State) (b : Nat) (hlive : s.live = true) (hmig : s.st.migrating = some b) (hnone : s.fld pBANK BANK.FAULTY_BANKS = 0) :
    Leads (exec (.migrateDone) s) fun t => s.Frame t [pBANK] [(pSTORE, 0x10), (pSTORE, 0x0C)] [] [] ∧ t.flag pSTORE STORE.PG_STAT_MIGRATING = false ∧ t.flag pSTORE STORE.PG_EVT_MIGRATE_DONE = true ∧ t.flag pBANK BANK.CMD_STAT_BUSY = false ∧ t.st.migrating = none := by
  have hfault : (s.migrate b).fld pBANK BANK.FAULTY_BANKS = 0 := State.migrate_faulty.trans hnone
  have e : exec .migrateDone s = .next (s.migrate b) := by
    change execMigrateDone s = _
    simp [execMigrateDone, hmig, hlive, hfault, bitAt_eq_testBit, List.find?_eq_none.2]
  refine ⟨_, e, Frame.of e (execMigrateDone_touches (inRegs_page (by simp)) (by simp [inRegs]) (by simp [inRegs])) (execMigrateDone_stores) (execMigrateDone_answers), ?_⟩
  simp -implicitDefEqProofs (disch := (clear * -; decide +revert)) [State.migrate, State.fld_put_same, State.flag_put_same, State.flag_raise]

/-- The RETIRE command (R149). -/
theorem bankCmdRetire_completes (s : State) (bank : Fin 16) (key : BitVec 16) (htake : s.Takes pBANK) (hkey : key.toNat = 0xB4A7) (hmig : s.st.migrating = none) (hret : s.bankRetired bank.val = false) (hcount : s.fld pSTORE STORE.PG_STAT_RETIRED < 2) :
    Leads (exec (.bankCmdRetire bank key) s) fun t => s.Frame t [] [(pBANK, 0x10), (pBANK, 0x2C), (pBANK, 0x20), (pSTORE, 0x0C)] [] [] ∧ t.bankRetired bank.val = true ∧ t.st.migrating = some bank.val ∧ t.flag pBANK BANK.CMD_STAT_BUSY = true ∧ t.fld pBANK BANK.CMD_STAT_RESULT = 0 ∧ t.fld pSTORE STORE.PG_STAT_RETIRED = s.fld pSTORE STORE.PG_STAT_RETIRED + 1 := by
  have hret' : s.bankCmd bank.val = (s.bankRetire bank.val).put pBANK BANK.CMD_STAT_RESULT 0 := by
    simp [State.bankCmd, hmig, hret, Nat.not_le.2 hcount]
  have e : exec (.bankCmdRetire bank key) s = .next ((s.bankRetire bank.val).put pBANK BANK.CMD_STAT_RESULT 0) :=
    congrArg Host.Outcome.next ((State.keyCmd_takes htake hkey _).trans hret')
  refine ⟨_, e, Frame.of e (execBankCmdRetire_touches bank key (by simp [inRegs]) (by simp [inRegs]) (by simp [inRegs]) (by simp [inRegs])) (execBankCmdRetire_stores bank key) (execBankCmdRetire_answers bank key), ?_⟩
  have hbit := bitAt_setBits_mod (v := s.fld pBANK BANK.RETIRED_BANKS) bank.isLt
  have hn : (s.fld pSTORE STORE.PG_STAT_RETIRED + 1) % 2 ^ STORE.PG_STAT_RETIRED.w = s.fld pSTORE STORE.PG_STAT_RETIRED + 1 :=
    Nat.mod_eq_of_lt (Nat.lt_trans (Nat.succ_lt_succ hcount) (by decide))
  simp -implicitDefEqProofs (disch := (clear * -; decide +revert)) [State.bankRetired, State.bankRetire, State.incr, hn, State.fld_put_same, State.flag_put_same, State.flag_raise]
  exact hbit

/-- Settles O33. -/
theorem storeCommandsComplete : Obligations.StoreCommandsComplete := by
  unfold Obligations.StoreCommandsComplete
  exact ⟨scrubCheck_sound, scrubCheck_wrong, scrubCheck_last, rewriteTest_fails, rewriteTest_same, migrateDone_completes, bankCmdRetire_completes⟩

end Sys2Proof.Machine
end

section
/-!
PROOFS. The tick boundary of a WARM reset: a port that leaves its attached state then ends its waiting transmit record in the store.
-/

set_option Elab.async false

namespace Sys2Proof.Machine

/-- No sample of any port. -/
def quietTick : TickIn := { ports := Vector.replicate 8 ⟨[], [], [], 0, false, 0⟩, ra := .pass, rb := .pass, motn := false, off := 0 }

/-- A device in a WARM reset not yet carried out: port 0 is a source attached, a transmit record of it waits, and it is ordered into ErrorRecovery. -/
def warmWaiting : State :=
  { State.reset with
    phase := .warm
    regs := [(regKey pCLK CLK.PG_STAT_RUNNING.off, 0xF), (regKey (pCC 0) CC.PG_STAT_STATE.off, 7)]
    inForce := [(regKey (pCC 0) CC.CFG_DB_CLAMP.off, 0)]
    ports := State.reset.ports.set 0 { PortSt.init with cc := { CcSt.init with errRec := true }, pdl := { PdlSt.init with queue := [0] } } }

/-- The byte of the record that its status is written to. -/
def statusByte : Nat := txAt 0 0 + 12

/-- The addresses past the records of port 0. -/
def pastPort0 (a : Nat) : Prop := 0x4000 ≤ a

/-- The state when the boundary has counted its tick and taken over the settings. -/
def warmCounted : State := (warmWaiting.countTick.motnTick quietTick.motn).aonApply

/-- The state when port 0 has carried out its order: it has detached, and its record has ended GEN_DISCARD. -/
def warmOrdered : State := warmCounted.ccOrders 0

theorem warmOrdered_status : Sparse.get storeDflt warmOrdered.store statusByte ≠ Sparse.get storeDflt warmWaiting.store statusByte := by decide +kernel

theorem warmOrdered_port :
    warmOrdered.ccState 0 = .errorRecovery ∧ (warmOrdered.port 0).cc.clampGone = false ∧ (warmOrdered.port 0).cc.takenRp = none ∧ warmOrdered.phase = .warm := by
  decide +kernel

theorem warmWaiting_ticks : exec (.tickBoundary quietTick) warmWaiting =
    .next ((((warmWaiting.countTick.motnTick quietTick.motn).portsTick (fun n => (quietTick.ports.get n).vbus) false).leaseTick).blocksDone) := rfl

/-! What else the boundary writes into the store. -/

section
variable {s : State} {R : Nat → Prop} {s0 : State} (n : Port) (hD : ∀ x, 0xC0000 ≤ x → x < 0xD0000 → R x)

/-- A port in ErrorRecovery whose clamp reading rests: the rest of its tick writes descriptors only. -/
theorem State.ccTick_recovering_stores {u : State} (hu : s.ccOrders n = u) (hst : u.ccState n = .errorRecovery) (hgone : (u.port n).cc.clampGone = false)
    (htaken : (u.port n).cc.takenRp = none) (hclamp : (s.inf (pCC n) CC.CFG_DB_CLAMP == 1) = false) (hD : ∀ x, 0xC0000 ≤ x → x < 0xD0000 → R x) :
    StSame R u (s.ccTick n) := by
  have hread : u.clampRead n = u := by
    unfold State.clampRead
    rw [hgone]
    rfl
  have hcfg : (u.ccCfgApply n).takenRpTick n = u.ccCfgApply n := by
    unfold State.takenRpTick
    rw [show ((u.ccCfgApply n).port n).cc.takenRp = none from htaken]
  have hst' : (u.ccCfgApply n).ccState n = .errorRecovery := hst
  have hk : StSame R u (u.ccCfgApply n) := State.ccCfgApply_stores _ (StSame.refl _ _)
  unfold State.ccTick
  extract_lets -merge pg was role s1 s2 s3 shadow s4 rests s5 s6 s7 s8 s9 c s10
  have e2 : s2 = u.ccCfgApply n := by
    simp only [s2, s1, hu, hread, hcfg]
  have e3 : s3 = u.ccCfgApply n := by
    have hwas : was = false := hclamp
    simp only [s3, State.clampRemoval, hwas, Bool.false_and, Bool.false_eq_true, if_false, e2]
  clear_value s3
  subst e3
  have hst4 : s4.ccState n = .errorRecovery := by
    unfold State.ccState at hst' ⊢
    rw [← hst']
    exact congrArg CcState.ofCode (State.fld_put_apart _ _ (.inr (by decide)))
  have h4 : StSame R u s4 := State.put_stores _ _ _ hk
  have e5 : s5 = s4 := by
    simp [s5, rests, hst4]
  clear_value s4 s5
  subst e5
  have e6 : s6 = s5 := by
    simp [s6, hst4]
  have e7 : s7 = s5 := by
    simp [s7, e6, State.ccJudge, hst4]
  have e8 : s8 = s5 := by
    simp [s8, e7, State.debounced, hst4]
  have h9 : StSame R u s9 := State.vconnTick_stores _ (State.lineShow_stores _ (e8 ▸ h4))
  clear_value s9
  have h10 : StSame R u s10 := StSame.ite (fun _ => StSame.ite (fun _ => StSame.ite (fun _ => State.hrDone_stores _ (State.modPort_stores _ _ h9) hD) (fun _ => h9))
    (fun _ => State.modPort_stores _ _ h9)) (fun _ => h9)
  clear_value s10
  exact StSame.ite (fun _ => State.postKept_stores _ _ _ _ _ (State.modPort_stores _ _ h10) hD) (fun _ => h10)

theorem State.fw_of_warm (h : s.phase = .warm) : s.fw = false := by
  simp [State.fw, State.live, h]

/-- Of everything that a step may keep, the phase alone. -/
abbrev phaseHold : Hold := ⟨false, false, false, false, false, true, false, false, false, false, false, false, false, false, false⟩

/-- Without firmware the check of a snapshot writes descriptors only. -/
theorem State.snapCheck_warm_stores (hw : s.phase = .warm) (hk : StSame R s0 s) (hD : ∀ x, 0xC0000 ≤ x → x < 0xD0000 → R x) : StSame R s0 (s.snapCheck n) := by
  unfold State.snapCheck
  extract_lets -merge -underBinder +onlyGivenNames pg x1
  have h1 : StSame R s0 x1 := State.putB_stores _ _ _ (State.put_stores _ _ _ hk)
  clear_value x1
  extract_lets -merge -underBinder +onlyGivenNames x2
  have h2 : StSame R s0 x2 := State.put_stores _ _ _ (State.put_stores _ _ _ hk)
  have w2 : x2.phase = .warm := hw
  clear_value x2
  extract_lets -merge -underBinder +onlyGivenNames x3
  have h3 : StSame R s0 x3 := State.polEvt_stores _ _ (State.modPol_stores _ _ h2) hD
  have w3 : x3.fw = false := State.fw_of_warm ((Keeps.phase (k := phaseHold) (State.polEvt_keeps n _ (State.modPol_keeps _ _ (Keeps.refl _ x2))) rfl).trans w2)
  clear_value x3
  rw [w3]
  exact StSame.ite (fun _ => StSame.ite (fun _ => State.modPol_stores _ _ h1) (fun _ => StSame.ite (fun _ => h2) (fun _ => StSame.ite (fun _ => h3) (fun h => absurd rfl h))))
    (fun _ => State.put_stores _ _ _ (State.put_stores _ _ _ hk))

theorem State.polTick_warm_stores (hw : s.phase = .warm) (hk : StSame R s0 s) (hD : ∀ x, 0xC0000 ≤ x → x < 0xD0000 → R x)
    (hS : ∀ x, 0x100000 + 32 * n.val ≤ x → x < 0x100020 + 32 * n.val → R x) : StSame R s0 (s.polTick n) := by
  unfold State.polTick
  extract_lets -merge -underBinder +onlyGivenNames cmds x1
  have h1 : StSame R s0 x1 := State.modPol_stores _ _ hk
  have w1 : Keeps phaseHold s x1 := State.modPol_keeps _ _ (Keeps.refl _ s)
  clear_value x1
  extract_lets -merge -underBinder +onlyGivenNames x2
  have h2 : StSame R s0 x2 := foldl_stores _ h1 (fun _ _ _ h => State.polCmd_stores _ _ h hS)
  have w2 : Keeps phaseHold s x2 := foldl_keeps _ w1 (fun _ _ h => State.polCmd_keeps _ _ h)
  clear_value x2
  extract_lets -merge -underBinder +onlyGivenNames x4
  have h4 : StSame R s0 x4 := State.snapCheck_warm_stores n ((w2.phase rfl).trans hw) h2 hD
  clear_value x4
  extract_lets -merge -underBinder +onlyGivenNames x5
  have h5 : StSame R s0 x5 := State.setTarget_stores _ _ h4
  clear_value x5
  exact StSame.ite (fun _ => h5) (fun _ => State.cenLevel_stores _ _ h5)

/-- The tick of one port in a WARM reset. -/
def State.warmPort (s : State) (n : Port) : State := ((((s.ccTick n).polTick n).transStep n []).windowTick n false).guardTick n

theorem State.portsTick_quiet : s.portsTick (fun n => (quietTick.ports.get n).vbus) false = s.aonApply.forPorts State.warmPort := by
  have hquiet : ∀ n : Port, (quietTick.ports.get n).vbus = [] := by decide
  unfold State.portsTick State.warmPort
  simp only [hquiet]
  rfl

end

/-- The boundary leaves port 0's record as the detach left it. -/
theorem warmOrdered_kept : StSame pastPort0 warmOrdered ((((warmCounted.forPorts State.warmPort)).leaseTick).blocksDone) := by
  obtain ⟨hst, hgone, htaken, hw⟩ := warmOrdered_port
  have hD : ∀ x, 0xC0000 ≤ x → x < 0xD0000 → pastPort0 x := fun x h _ => Nat.le_trans (by decide) h
  have hS : ∀ n : Port, ∀ x, 0x100000 + 32 * n.val ≤ x → x < 0x100020 + 32 * n.val → pastPort0 x := fun n x h _ => by unfold pastPort0; omega
  have hP : ∀ n : Port, n ≠ 0 → ∀ x, 0x4000 * n.val ≤ x → x < 0x4000 * n.val + 0x4000 → pastPort0 x := fun n hn x h _ => by
    have hpos : 0 < n.val := Nat.pos_of_ne_zero fun h0 => hn (Fin.ext h0)
    unfold pastPort0
    omega
  have hcc : StSame pastPort0 warmOrdered (warmCounted.ccTick 0) := State.ccTick_recovering_stores 0 rfl hst hgone htaken (by decide +kernel) hD
  have hwarm : (warmCounted.ccTick 0).phase = .warm :=
    Keeps.phase (k := phaseHold) (State.ccTick_keeps 0 (Keeps.refl _ warmCounted)) rfl
  have hpol : StSame pastPort0 warmOrdered ((warmCounted.ccTick 0).polTick 0) := State.polTick_warm_stores 0 hwarm hcc hD (hS 0)
  have h0 : StSame pastPort0 warmOrdered (warmCounted.warmPort 0) :=
    State.guardTick_stores _ (State.windowTick_stores _ _ (State.transStep_stores _ _ hpol))
  have hrest : StSame pastPort0 warmOrdered (warmCounted.forPorts State.warmPort) := by
    have hlist : allPorts = 0 :: [1, 2, 3, 4, 5, 6, 7] := rfl
    unfold State.forPorts
    rw [hlist, List.foldl_cons]
    refine foldl_stores _ h0 fun s n hn h => ?_
    have hn0 : n ≠ 0 := by rintro rfl; exact absurd hn (by decide)
    exact State.guardTick_stores _ (State.windowTick_stores _ _ (State.transStep_stores _ _
      (State.polTick_stores _ (State.ccTick_stores _ h (hP n hn0) hD (hS n)) (hS n) hD (hP n hn0))))
  exact State.blocksDone_stores (State.leaseTick_stores hrest)

theorem warmWaiting_status :
    Sparse.get storeDflt ((((warmWaiting.countTick.motnTick quietTick.motn).portsTick (fun n => (quietTick.ports.get n).vbus) false).leaseTick).blocksDone).store statusByte ≠
      Sparse.get storeDflt warmWaiting.store statusByte := by
  rw [State.portsTick_quiet]
  have hbyte : ¬ pastPort0 statusByte := by
    unfold pastPort0
    decide
  exact fun h => warmOrdered_status ((warmOrdered_kept.1 statusByte hbyte).symm.trans h)

/-- Refutes O34: in the second clause the store is said to be as before, but a port that leaves its attached state at the boundary ends its waiting transmit
record there (R194), and a record waits until the WARM reset is carried out. -/
theorem not_tickAndClockComplete : ¬ Obligations.TickAndClockComplete := by
  unfold Obligations.TickAndClockComplete
  rintro ⟨-, hwarm, -⟩
  obtain ⟨t, e, -, -, -, hstore⟩ := hwarm warmWaiting quietTick (by decide) (by decide)
  rw [warmWaiting_ticks] at e
  have ht := Host.Outcome.next.inj e
  rw [← ht] at hstore
  exact warmWaiting_status (congrArg (fun m => Sparse.get storeDflt m statusByte) hstore)

end Sys2Proof.Machine
end

section
/-!
PROOFS. Bundles of one word in each slot (chapter 17).
-/

set_option Elab.async false

namespace Sys2Proof.Machine

variable {s : State}

/-! ### One word -/

theorem slotWord_single (w : SkW) (j : Nat) : slotWord [w] j = if w.slot = j then some w else none := by
  unfold slotWord
  by_cases h : w.slot = j <;> simp [h]

theorem badBundle_single (w : SkW) : badBundle [w] = none := by
  unfold badBundle
  rw [slotWord_single, slotWord_single]
  simp only [badOrder]
  split
  · rename_i a c ha hc
    split at ha
    · rename_i h0
      simp [h0] at hc
    · exact absurd ha (by simp)
  · rfl

theorem skRun_single {w : SkW} {p : BitVec 8} (hr : w.runs p = true) (j : Nat) : skRun [w] p j = if w.slot = j then some w else none := by
  unfold skRun
  rw [slotWord_single]
  split
  · simp [hr]
  · rfl

theorem skRun_single_idle {w : SkW} {p : BitVec 8} (hr : w.runs p = false) (j : Nat) : skRun [w] p j = none := by
  unfold skRun
  rw [slotWord_single]
  split
  · simp [hr]
  · rfl

/-- The fetch of a bundle whose first word has STOP. -/
theorem State.skFetch_single {e : EngSt} {w : SkW} (hw : s.skWord e.pc.toNat = w) (hstop : w.stop = true) (hrpt : isRpt w = false) : s.skFetch e = ([w], none) := by
  have htake : takeBundle 4 [s.skWord e.pc.toNat, s.skWord (e.pc.toNat + 4), s.skWord (e.pc.toNat + 8), s.skWord (e.pc.toNat + 12)] = some [w] := by
    simp [takeBundle, hw, hstop]
  unfold State.skFetch
  simp only [htake, badBundle_single, slotWord_single]
  by_cases h3 : w.slot = 3 <;> simp [h3, hrpt]

/-- The state in which the words of a bundle execute: the phase is shown. -/
def State.skBegin (s : State) (x : BundleIn) : State := s.put pCLK CLK.PHASE_CYCLE x.phase.val

section
variable {k : Engine} {x : BundleIn} {w : SkW}

/-- A bundle of one legal word without errors in memory is executed. -/
theorem State.skStep_single (hrun : (s.eng k).run = .running) (hc : x.cacheBad = false) (hs : x.scratchBad = false) (ht : x.storeBad = false)
    (hw : s.skWord (s.eng k).pc.toNat = w) (hstop : w.stop = true) (hrpt : isRpt w = false)
    (hf : w.runs (s.eng k).p = true → (s.skBegin x).wordFault (s.eng k) w = none) : s.skStep k x = (s.skBegin x).skBody k [w] x := by
  have heng : (s.put pCLK CLK.PHASE_CYCLE x.phase.val).eng k = s.eng k := State.eng_put _ _ _ _ _
  have hfetch : (s.put pCLK CLK.PHASE_CYCLE x.phase.val).skFetch (s.eng k) = ([w], none) := State.skFetch_single hw hstop hrpt
  have hnone : ([w].filter fun v => v.runs (s.eng k).p).findSome?
      (fun v => if isString v && (slotWord ([w].filter fun v => v.runs (s.eng k).p) 3).any isRpt then none
        else (s.put pCLK CLK.PHASE_CYCLE x.phase.val).wordFault (s.eng k) v) = none := by
    cases hr : w.runs (s.eng k).p with
    | false => simp [hr]
    | true =>
      have hf' := hf hr
      unfold State.skBegin at hf'
      simp [hr, hf']
  unfold State.skStep State.skBegin
  simp only [hc, Bool.false_eq_true, if_false, heng, hrun, ne_eq, not_true_eq_false, hfetch, hnone, hs, ht]

/-- A bundle of one word that faults. -/
theorem State.skStep_faults {f : Nat × Nat} (hrun : (s.eng k).run = .running) (hc : x.cacheBad = false)
    (hw : s.skWord (s.eng k).pc.toNat = w) (hstop : w.stop = true) (hrpt : isRpt w = false) (hruns : w.runs (s.eng k).p = true)
    (hf : (s.skBegin x).wordFault (s.eng k) w = some f) (hstr : isString w = false) :
    s.skStep k x = ((s.skBegin x).skSpend k (1 + x.stall)).skFault k f x.phase.val := by
  have heng : (s.put pCLK CLK.PHASE_CYCLE x.phase.val).eng k = s.eng k := State.eng_put _ _ _ _ _
  have hfetch : (s.put pCLK CLK.PHASE_CYCLE x.phase.val).skFetch (s.eng k) = ([w], none) := State.skFetch_single hw hstop hrpt
  have hsome : ([w].filter fun v => v.runs (s.eng k).p).findSome?
      (fun v => if isString v && (slotWord ([w].filter fun v => v.runs (s.eng k).p) 3).any isRpt then none
        else (s.put pCLK CLK.PHASE_CYCLE x.phase.val).wordFault (s.eng k) v) = some f := by
    unfold State.skBegin at hf
    simp [hruns, hstr, hf]
  unfold State.skStep State.skBegin
  simp only [hc, Bool.false_eq_true, if_false, heng, hrun, ne_eq, not_true_eq_false, hfetch, hsome]

/-- A step changes nothing but engine `k` and the phase shown. -/
def State.OnlyEngine (s : State) (k : Engine) (t : State) : Prop :=
  (∀ j, j ≠ k → t.eng j = s.eng j) ∧ t.store = s.store ∧ t.aos = s.aos ∧ s.FlashSame t ∧ s.RegsBut t [] [(pCLK, CLK.PHASE_CYCLE.off)]

theorem State.skBegin_onlyEngine : s.OnlyEngine k (s.skBegin x) :=
  ⟨fun j _ => State.eng_put _ _ _ _ j, State.put_store .., State.put_aos .., ⟨State.put_iram .., State.put_code .., State.put_nvd .., State.put_otp .., State.put_otpMargin ..⟩,
    RegsBut.of (State.put_same _ _ _ (Same.refl _ _) (inRegs_reg (List.mem_singleton_self _)))⟩

theorem State.OnlyEngine.modEng {t : State} (h : s.OnlyEngine k t) (f : EngSt → EngSt) : s.OnlyEngine k (t.modEng k f) := by
  obtain ⟨heng, hst, haos, hflash, hregs⟩ := h
  exact ⟨fun j hj => (State.eng_modEng_ne _ hj).trans (heng j hj), hst, haos, hflash, hregs⟩

/-- What the end of a bundle leaves in its engine. -/
def EngSt.ended (e n : EngSt) (pc cycles : Nat) : EngSt :=
  { e with d := n.d, a := n.a, acc := n.acc, p := n.p ||| 1, pc := BitVec.ofNat 18 (pc / 4 * 4), flg := n.flg, mode := n.mode, fhnd := n.fhnd, stklim := n.stklim,
           seaddr := n.seaddr, budleft := e.budleft - cycles, used := e.used + cycles }

/-- The end of a bundle: its registers are taken over and its cycles spent. -/
def State.skEnd (u : State) (k : Engine) (n : EngSt) (pc cycles : Nat) : State :=
  (u.skApply k { n with pc := BitVec.ofNat 18 (pc / 4 * 4) }).skSpend k cycles

theorem State.skEnd_eng (u : State) (n : EngSt) (pc cycles : Nat) : (u.skEnd k n pc cycles).eng k = (u.eng k).ended n pc cycles := by
  unfold State.skEnd State.skApply State.skSpend
  rw [State.eng_modEng_same, State.eng_modEng_same]
  rfl

theorem State.OnlyEngine.skEnd {u : State} (h : s.OnlyEngine k u) (n : EngSt) (pc cycles : Nat) : s.OnlyEngine k (u.skEnd k n pc cycles) := (h.modEng _).modEng _

/-- The address after a bundle of one word. -/
def EngSt.next (e : EngSt) : Nat := (e.pc.toNat + 4) % 2 ^ 18

theorem EngSt.next_pc {e : EngSt} (h : e.pc.toNat % 4 = 0) : BitVec.ofNat 18 (e.next / 4 * 4) = e.pc + 4 := by
  apply BitVec.eq_of_toNat_eq
  have hlt := e.pc.isLt
  rw [BitVec.toNat_ofNat, BitVec.toNat_add, EngSt.next, show (4 : BitVec 18).toNat = 4 from rfl]
  omega

/-- The words of a bundle of one word that is neither RPT nor BRK. -/
theorem State.skBody_plain (u : State) (hrpt : isRpt w = false) (hbrk : w.slot = 3 → w.op ≠ 0x0F) :
    u.skBody k [w] x = u.skPlain k [w] (skRun [w] (u.eng k).p 0) (skRun [w] (u.eng k).p 3) (u.eng k).next x := by
  unfold State.skBody EngSt.next
  cases hr : w.runs (u.eng k).p with
  | false => simp [skRun_single_idle hr]
  | true =>
    by_cases h3 : w.slot = 3
    · simp [skRun_single hr, h3, hrpt, hbrk h3]
    · simp [skRun_single hr, h3]

/-- A word that its predicate holds back: the bundle ends. -/
theorem State.skPlain_idle (u : State) (hr : w.runs (u.eng k).p = false) (next : Nat) : u.skPlain k [w] none none next x = u.skEnd k (u.eng k) next (1 + x.stall) := by
  simp [State.skPlain, skRun_single_idle hr, State.skEnd, skCycles]

theorem State.skPlain_x (u : State) (hr : w.runs (u.eng k).p = true) (hslot : w.slot = 1) (next : Nat) :
    u.skPlain k [w] none none next x = u.skEnd k (execX (u.eng k) (u.eng k) w) next (1 + x.stall) := by
  simp [State.skPlain, skRun_single hr, hslot, State.skEnd, skCycles]

theorem State.skPlain_m (u : State) (hr : w.runs (u.eng k).p = true) (hslot : w.slot = 2) (next : Nat) :
    u.skPlain k [w] none none next x = u.skEnd k (execM (u.eng k) (u.eng k) w) next (1 + x.stall) := by
  simp [State.skPlain, skRun_single hr, hslot, State.skEnd, skCycles]

theorem State.skPlain_a (u : State) (hr : w.runs (u.eng k).p = true) (hslot : w.slot = 0) (hop : w.op ≠ 0x18) (next : Nat) :
    u.skPlain k [w] (some w) none next x = (u.skA k (u.eng k) w).1.skEnd k (u.skA k (u.eng k) w).2 next (1 + x.stall) := by
  simp [State.skPlain, skRun_single hr, hslot, hop, State.skEnd, skCycles]

/-- A branch that is taken. -/
theorem State.skPlain_branch (u : State) (hr : w.runs (u.eng k).p = true) (hslot : w.slot = 3) (hop : w.op = 1) (next : Nat) :
    u.skPlain k [w] none (some w) next x = u.skEnd k (u.eng k) (((u.eng k).pc.toNat + 4 * w.imm 19 : Int) % 2 ^ 18).toNat (2 + x.stall) := by
  simp [State.skPlain, skRun_single hr, hslot, hop, State.skC, State.skEnd, skCycles]

/-- EXECUTE_BUNDLE on an engine that runs. -/
theorem exec_bundle (hlive : s.live = true) (hrun : (s.eng k).run = .running) (hhalt : (s.eng k).halted = false) :
    exec (.executeBundle k x) s = .next (s.skStep k x) := by
  refine congrArg Host.Outcome.next (if_pos ?_)
  rw [hlive, hrun, hhalt]
  rfl

/-- A register field of a word. -/
theorem SkW.fin_ofNat {m v : Nat} [NeZero m] {d : Fin m} (h : v = d.val) : Fin.ofNat m v = d := by
  subst h
  exact Fin.ext (Nat.mod_eq_of_lt d.isLt)

end

/-! ### Legal words -/

/-- A listed word of the X or M slot does not fault. -/
theorem State.wordFault_xm {e : EngSt} {w : SkW} (hslot : w.slot = 1 ∨ w.slot = 2) (hop : opListed w.slot w.op = true) : s.wordFault e w = none := by
  rcases hslot with h | h <;> rw [h] at hop <;> simp [State.wordFault, wordIllegal, h, hop]

/-- A word without a condition runs. -/
theorem SkW.runs_always {w : SkW} (hpred : w.pred = 0) (hpneg : w.pneg = false) (p : BitVec 8) : w.runs p = true := by
  simp [SkW.runs, hpred, hpneg]

/-- A bundle that ends in state `u`, as EXECUTE_BUNDLE shows it. -/
theorem exec_ended {k : Engine} {x : BundleIn} {u : State} {n : EngSt} {pc cycles : Nat} (hlive : s.live = true) (hrun : (s.eng k).run = .running)
    (hhalt : (s.eng k).halted = false) (hstep : s.skStep k x = u.skEnd k n pc cycles) (hu : s.OnlyEngine k u) {e : EngSt} (he : u.eng k = e) :
    ∃ t, exec (.executeBundle k x) s = .next t ∧ t.eng k = e.ended n pc cycles ∧ s.OnlyEngine k t :=
  ⟨_, (exec_bundle hlive hrun hhalt).trans (congrArg Host.Outcome.next hstep), he ▸ u.skEnd_eng n pc cycles, hu.skEnd n pc cycles⟩

theorem BitVec.or_one_of {p : BitVec 8} (h : p.getLsbD 0 = true) : p ||| 1 = p := by
  revert p
  decide

/-- A listed word of the X slot, alone in its bundle. -/
theorem State.skStep_x {k : Engine} {x : BundleIn} {w : SkW} (hrun : (s.eng k).run = .running) (hc : x.cacheBad = false) (hs : x.scratchBad = false)
    (ht : x.storeBad = false) (hw : s.skWord (s.eng k).pc.toNat = w) (hstop : w.stop = true) (hslot : w.slot = 1) (hop : opListed 1 w.op = true)
    (hruns : w.runs (s.eng k).p = true) :
    s.skStep k x = (s.skBegin x).skEnd k (execX (s.eng k) (s.eng k) w) (s.eng k).next (1 + x.stall) := by
  have heng : (s.skBegin x).eng k = s.eng k := State.eng_put _ _ _ _ _
  have hrpt : isRpt w = false := by simp [isRpt, hslot]
  rw [State.skStep_single hrun hc hs ht hw hstop hrpt (fun _ => State.wordFault_xm (.inl hslot) (by rw [hslot]; exact hop)),
    State.skBody_plain _ hrpt (by simp [hslot]), skRun_single (by rw [heng]; exact hruns), skRun_single (by rw [heng]; exact hruns), hslot]
  exact (State.skPlain_x _ (by rw [heng]; exact hruns) hslot _).trans (by rw [heng])

section
variable {k : Engine} {x : BundleIn} {w : SkW}

/-- A listed word of the M slot, alone in its bundle. -/
theorem State.skStep_m (hrun : (s.eng k).run = .running) (hc : x.cacheBad = false) (hs : x.scratchBad = false)
    (ht : x.storeBad = false) (hw : s.skWord (s.eng k).pc.toNat = w) (hstop : w.stop = true) (hslot : w.slot = 2) (hop : opListed 2 w.op = true)
    (hruns : w.runs (s.eng k).p = true) :
    s.skStep k x = (s.skBegin x).skEnd k (execM (s.eng k) (s.eng k) w) (s.eng k).next (1 + x.stall) := by
  have heng : (s.skBegin x).eng k = s.eng k := State.eng_put _ _ _ _ _
  have hrpt : isRpt w = false := by simp [isRpt, hslot]
  rw [State.skStep_single hrun hc hs ht hw hstop hrpt (fun _ => State.wordFault_xm (.inr hslot) (by rw [hslot]; exact hop)),
    State.skBody_plain _ hrpt (by simp [hslot]), skRun_single (by rw [heng]; exact hruns), skRun_single (by rw [heng]; exact hruns), hslot]
  exact (State.skPlain_m _ (by rw [heng]; exact hruns) hslot _).trans (by rw [heng])

theorem State.skBegin_eng : (s.skBegin x).eng k = s.eng k := State.eng_put _ _ _ _ _

/-- The address of a word of the A slot with an offset (R436). -/
theorem EngSt.amEa_word (e : EngSt) {i : Nat} (hop : w.op = 1 ∨ w.op = 6) (hmode : bitsOf w.w 10 2 = 0) (himm : w.imm 10 = (i : Int))
    (hin : (e.a.get w.a).toNat + 4 * i < 2 ^ 24) : (amEa e w).1 = (e.a.get w.a).toNat + 4 * i := by
  have hsize : amSize w.op = 4 := by rcases hop with h | h <;> rw [h] <;> rfl
  simp only [amEa, hsize, hmode, himm, addr24]
  omega

theorem State.skA_store {u : State} (hop : w.op = 6) (hmode : bitsOf w.w 10 2 = 0) (hin : (amEa (s.eng k) w).1 < 0x2000) :
    u.skA k (s.eng k) w =
      (u.modEng k fun e => { e with scratch := Sparse.setList ramDflt e.scratch (amEa (s.eng k) w).1 (leBytes 4 (((s.eng k).d.get w.d).toNat % 2 ^ 32)) }, s.eng k) := by
  simp [State.skA, State.skStore, EngSt.amBack, amSize, hop, hmode, hin]

theorem State.skA_load {u : State} {e : EngSt} (hop : w.op = 1) (hmode : bitsOf w.w 10 2 = 0) (hin : (amEa e w).1 < 0x2000) :
    u.skA k e w = (u, e.setD w.d ((u.eng k).scNat (amEa e w).1 4)) := by
  simp [State.skA, State.amLoad, State.skLoad, EngSt.amBack, EngSt.serr, amSize, hop, hmode, hin]

/-- A load or a store of a scratch word, alone in its bundle. -/
theorem State.skStep_a (hrun : (s.eng k).run = .running) (hc : x.cacheBad = false) (hs : x.scratchBad = false)
    (ht : x.storeBad = false) (hw : s.skWord (s.eng k).pc.toNat = w) (hstop : w.stop = true) (hslot : w.slot = 0) (hop : w.op = 1 ∨ w.op = 6)
    (hruns : w.runs (s.eng k).p = true) (hal : (amEa (s.eng k) w).1 % 4 = 0) (hin : (amEa (s.eng k) w).1 < 0x2000) :
    s.skStep k x = ((s.skBegin x).skA k (s.eng k) w).1.skEnd k ((s.skBegin x).skA k (s.eng k) w).2 (s.eng k).next (1 + x.stall) := by
  have hrpt : isRpt w = false := by simp [isRpt, hslot]
  have hop18 : w.op ≠ 0x18 := by omega
  have hfault : (s.skBegin x).wordFault (s.eng k) w = none := by
    rcases hop with h | h <;> simp [State.wordFault, wordIllegal, opListed, aAccesses, amSize, skAccOk, hslot, h, hal, hin]
  rw [State.skStep_single hrun hc hs ht hw hstop hrpt (fun _ => hfault),
    State.skBody_plain _ hrpt (by simp [hslot]), skRun_single (by rw [State.skBegin_eng]; exact hruns), skRun_single (by rw [State.skBegin_eng]; exact hruns), hslot]
  exact (State.skPlain_a _ (by rw [State.skBegin_eng]; exact hruns) hslot hop18 _).trans (by rw [State.skBegin_eng])

theorem EngSt.scNat_setList (e : EngSt) (a : Nat) (v : BitVec 32) :
    ({ e with scratch := Sparse.setList ramDflt e.scratch a (leBytes 4 (v.toNat % 2 ^ 32)) } : EngSt).scNat a 4 = v.toNat := by
  have hlen : (leBytes 4 (v.toNat % 2 ^ 32)).length = 4 := length_leBytes _ _
  have h := Sparse.getList_setList ramDflt (leBytes 4 (v.toNat % 2 ^ 32)) e.scratch a
  rw [hlen] at h
  unfold EngSt.scNat
  rw [h, leNat_leBytes]
  have hlt := v.isLt
  omega

/-- A fault while a handler is set and none runs (R450). -/
theorem State.skFault_handled {u : State} {f : Nat × Nat} {phase : Nat} (hh : (u.eng k).fhnd ≠ 0) (hf : (u.eng k).flg.getLsbD 12 = false) :
    u.skFault k f phase = u.modEng k fun e => { e.setFlg 12 true with
      fpc := e.pc.setWidth 32, fcause := BitVec.ofNat 32 f.1, faddr := BitVec.ofNat 32 f.2
      pc := BitVec.ofNat 18 (e.fhnd.toNat % 2 ^ 18 / 4 * 4) } :=
  if_neg (by simp only [hh, hf, Bool.false_eq_true, or_self, not_false_eq_true])

/-- A branch, alone in its bundle. -/
theorem State.skStep_branch (hrun : (s.eng k).run = .running) (hc : x.cacheBad = false) (hs : x.scratchBad = false)
    (ht : x.storeBad = false) (hw : s.skWord (s.eng k).pc.toNat = w) (hstop : w.stop = true) (hslot : w.slot = 3) (hop : w.op = 1)
    (hruns : w.runs (s.eng k).p = true) :
    s.skStep k x = (s.skBegin x).skEnd k (s.eng k) (((s.eng k).pc.toNat + 4 * w.imm 19 : Int) % 2 ^ 18).toNat (2 + x.stall) := by
  have heng : (s.skBegin x).eng k = s.eng k := State.eng_put _ _ _ _ _
  have hrpt : isRpt w = false := by simp [isRpt, hop]
  have hfault : (s.skBegin x).wordFault (s.eng k) w = none := by simp [State.wordFault, wordIllegal, opListed, hslot, hop]
  rw [State.skStep_single hrun hc hs ht hw hstop hrpt (fun _ => hfault),
    State.skBody_plain _ hrpt (by simp [hop]), skRun_single (by rw [heng]; exact hruns), skRun_single (by rw [heng]; exact hruns), hslot]
  exact (State.skPlain_branch _ (by rw [heng]; exact hruns) hslot hop _).trans (by rw [heng])

/-- A word of the X slot that its predicate holds back. -/
theorem State.skStep_idle (hrun : (s.eng k).run = .running) (hc : x.cacheBad = false) (hs : x.scratchBad = false)
    (ht : x.storeBad = false) (hw : s.skWord (s.eng k).pc.toNat = w) (hstop : w.stop = true) (hslot : w.slot = 1)
    (hidle : w.runs (s.eng k).p = false) : s.skStep k x = (s.skBegin x).skEnd k (s.eng k) (s.eng k).next (1 + x.stall) := by
  have heng : (s.skBegin x).eng k = s.eng k := State.eng_put _ _ _ _ _
  have hrpt : isRpt w = false := by simp [isRpt, hslot]
  rw [State.skStep_single hrun hc hs ht hw hstop hrpt (fun h => absurd h (by simp [hidle])),
    State.skBody_plain _ hrpt (by simp [hslot]), skRun_single_idle (by rw [heng]; exact hidle), skRun_single_idle (by rw [heng]; exact hidle)]
  exact (State.skPlain_idle _ (by rw [heng]; exact hidle) _).trans (by rw [heng])

end

/-- ADD (Table 17.7). -/
theorem addBundle_completes (s : State) (k : Engine) (x : BundleIn) (d a b : Fin 16) (hlive : s.live = true) (hrun : (s.eng k).run = .running) (hhalt : (s.eng k).halted = false) (hc : x.cacheBad = false) (hs : x.scratchBad = false) (ht : x.storeBad = false) (hpc : (s.eng k).pc.toNat % 4 = 0) (hw : (s.skWord (s.eng k).pc.toNat).w = 0xA0080000 + 32768 * d.val + 2048 * a.val + 128 * b.val) :
    Leads (exec (.executeBundle k x) s) fun t => (t.eng k).d = (s.eng k).d.set d.val ((s.eng k).d.get a + (s.eng k).d.get b) ∧ (t.eng k).flg.getLsbD 0 = decide (2 ^ 32 ≤ ((s.eng k).d.get a).toNat + ((s.eng k).d.get b).toNat) ∧ (t.eng k).pc = (s.eng k).pc + 4 ∧ (t.eng k).a = (s.eng k).a ∧ (t.eng k).acc = (s.eng k).acc ∧ (t.eng k).scratch = (s.eng k).scratch ∧ (∀ j, j ≠ k → t.eng j = s.eng j) ∧ t.store = s.store ∧ t.aos = s.aos ∧ s.FlashSame t ∧ s.RegsBut t [] [(pCLK, CLK.PHASE_CYCLE.off)] := by
  generalize hword : s.skWord (s.eng k).pc.toNat = w at hw
  have hop : w.op = 1 := by simp [SkW.op, bitsOf, hw]; omega
  have hd : w.d = d := SkW.fin_ofNat (by simp [bitsOf, hw]; omega)
  have hsr : w.s = a := SkW.fin_ofNat (by simp [bitsOf, hw]; omega)
  have htr : w.t = b := SkW.fin_ofNat (by simp [bitsOf, hw]; omega)
  have hstep := State.skStep_x hrun hc hs ht hword (by simp [SkW.stop, bitAt, hw]; omega) (by simp [SkW.slot, bitsOf, hw]; omega) (by rw [hop]; rfl)
    (SkW.runs_always (by simp [SkW.pred, bitsOf, hw]; omega) (by simp [SkW.pneg, bitAt, hw]; omega) _)
  have hn : execX (s.eng k) (s.eng k) w = (s.eng k).setCV d (addC ((s.eng k).d.get a).toNat ((s.eng k).d.get b).toNat 0) := by
    simp [execX, hop, hd, hsr, htr]
  obtain ⟨hsum, hcarry, -⟩ := setCV_addC (n := s.eng k) d ((s.eng k).d.get a) ((s.eng k).d.get b)
  have hset : ((s.eng k).setCV d (addC ((s.eng k).d.get a).toNat ((s.eng k).d.get b).toNat 0)).d =
      (s.eng k).d.set d.val ((s.eng k).d.get a + (s.eng k).d.get b) d.isLt := by
    rw [← (d_setCV (n := s.eng k) d _).symm.trans hsum]
    rfl
  obtain ⟨t, e, heng, hk⟩ := exec_ended hlive hrun hhalt hstep s.skBegin_onlyEngine (State.eng_put _ _ _ _ _)
  rw [hn] at heng
  refine ⟨t, e, ?_, ?_, ?_, ?_, ?_, ?_, hk⟩ <;> rw [heng]
  · exact hset
  · exact hcarry
  · exact EngSt.next_pc hpc
  · rfl
  · rfl
  · rfl

/-- SMUL (Table 17.8). -/
theorem mulBundle_completes (s : State) (k : Engine) (x : BundleIn) (a b : Fin 16) (acc : Fin 4) (hlive : s.live = true) (hrun : (s.eng k).run = .running) (hhalt : (s.eng k).halted = false) (hc : x.cacheBad = false) (hs : x.scratchBad = false) (ht : x.storeBad = false) (hpc : (s.eng k).pc.toNat % 4 = 0) (hw : (s.skWord (s.eng k).pc.toNat).w = 0xC0080000 + 131072 * acc.val + 2048 * a.val + 128 * b.val) :
    Leads (exec (.executeBundle k x) s) fun t => (t.eng k).acc = (s.eng k).acc.set acc.val (BitVec.ofInt 72 (((s.eng k).d.get a).toInt * ((s.eng k).d.get b).toInt)) ∧ (t.eng k).d = (s.eng k).d ∧ (t.eng k).flg = (s.eng k).flg ∧ (t.eng k).pc = (s.eng k).pc + 4 ∧ (∀ j, j ≠ k → t.eng j = s.eng j) ∧ t.store = s.store ∧ t.aos = s.aos ∧ s.FlashSame t ∧ s.RegsBut t [] [(pCLK, CLK.PHASE_CYCLE.off)] := by
  generalize hword : s.skWord (s.eng k).pc.toNat = w at hw
  have hop : w.op = 1 := by simp [SkW.op, bitsOf, hw]; omega
  have hacc : w.acc = acc := SkW.fin_ofNat (by simp [bitsOf, hw]; omega)
  have hsr : w.s = a := SkW.fin_ofNat (by simp [bitsOf, hw]; omega)
  have htr : w.t = b := SkW.fin_ofNat (by simp [bitsOf, hw]; omega)
  have hsat : bitAt w.w 6 = false := by simp [bitAt, hw]; omega
  have hneg : bitAt w.w 5 = false := by simp [bitAt, hw]; omega
  have hstep := State.skStep_m hrun hc hs ht hword (by simp [SkW.stop, bitAt, hw]; omega) (by simp [SkW.slot, bitsOf, hw]; omega) (by rw [hop]; rfl)
    (SkW.runs_always (by simp [SkW.pred, bitsOf, hw]; omega) (by simp [SkW.pneg, bitAt, hw]; omega) _)
  have hn : execM (s.eng k) (s.eng k) w = (s.eng k).setAcc acc (((s.eng k).d.get a).toInt * ((s.eng k).d.get b).toInt) := by
    simp [execM, hop, hacc, hsr, htr, hsat, hneg, EngSt.putAcc, signed_toNat]
  obtain ⟨t, e, heng, hk⟩ := exec_ended hlive hrun hhalt hstep s.skBegin_onlyEngine (State.eng_put _ _ _ _ _)
  rw [hn] at heng
  refine ⟨t, e, ?_, ?_, ?_, ?_, hk⟩ <;> rw [heng]
  · rfl
  · rfl
  · rfl
  · exact EngSt.next_pc hpc

/-- A store of a scratch word. -/
theorem storeBundle_completes (s : State) (k : Engine) (x : BundleIn) (d : Fin 16) (a : Fin 8) (i : Fin 512) (hlive : s.live = true) (hrun : (s.eng k).run = .running) (hhalt : (s.eng k).halted = false) (hc : x.cacheBad = false) (hs : x.scratchBad = false) (ht : x.storeBad = false) (hpc : (s.eng k).pc.toNat % 4 = 0) (hw : (s.skWord (s.eng k).pc.toNat).w = 0x80300000 + 32768 * d.val + 4096 * a.val + i.val) (hal : ((s.eng k).a.get a).toNat % 4 = 0) (hin : ((s.eng k).a.get a).toNat + 4 * i.val < 0x2000) :
    Leads (exec (.executeBundle k x) s) fun t => (t.eng k).scNat (((s.eng k).a.get a).toNat + 4 * i.val) 4 = ((s.eng k).d.get d).toNat ∧ (∀ b, b < ((s.eng k).a.get a).toNat + 4 * i.val ∨ ((s.eng k).a.get a).toNat + 4 * i.val + 4 ≤ b → Sparse.get ramDflt (t.eng k).scratch b = Sparse.get ramDflt (s.eng k).scratch b) ∧ (t.eng k).d = (s.eng k).d ∧ (t.eng k).a = (s.eng k).a ∧ (t.eng k).pc = (s.eng k).pc + 4 ∧ (∀ j, j ≠ k → t.eng j = s.eng j) ∧ t.store = s.store ∧ t.aos = s.aos ∧ s.FlashSame t ∧ s.RegsBut t [] [(pCLK, CLK.PHASE_CYCLE.off)] := by
  generalize hword : s.skWord (s.eng k).pc.toNat = w at hw
  have hop : w.op = 6 := by simp [SkW.op, bitsOf, hw]; omega
  have hd : w.d = d := SkW.fin_ofNat (by simp [bitsOf, hw]; omega)
  have ha : w.a = a := SkW.fin_ofNat (by simp [bitsOf, hw]; omega)
  have himm : w.imm 10 = (i.val : Int) := by simp [SkW.imm, signed, hw]; omega
  have hmode : bitsOf w.w 10 2 = 0 := by simp [bitsOf, hw]; omega
  have hea := (s.eng k).amEa_word (.inr hop) hmode himm (by rw [ha]; exact Nat.lt_trans hin (by decide))
  rw [ha] at hea
  have hstep := State.skStep_a hrun hc hs ht hword (by simp [SkW.stop, bitAt, hw]; omega) (by simp [SkW.slot, bitsOf, hw]; omega) (.inr hop)
    (SkW.runs_always (by simp [SkW.pred, bitsOf, hw]; omega) (by simp [SkW.pneg, bitAt, hw]; omega) _) (by rw [hea]; omega) (by rw [hea]; exact hin)
  rw [State.skA_store hop hmode (by rw [hea]; exact hin), hea, hd] at hstep
  obtain ⟨t, e, heng, hk⟩ := exec_ended hlive hrun hhalt hstep (s.skBegin_onlyEngine.modEng _) (State.eng_modEng_same _ _)
  refine ⟨t, e, ?_, fun b hb => ?_, ?_, ?_, ?_, hk⟩ <;> rw [heng]
  · exact EngSt.scNat_setList _ _ _
  · exact Sparse.get_setList_out _ _ _ _ _ (by rw [length_leBytes]; exact hb)
  · rfl
  · rfl
  · exact EngSt.next_pc hpc

/-- A load of a scratch word. -/
theorem loadBundle_completes (s : State) (k : Engine) (x : BundleIn) (d : Fin 16) (a : Fin 8) (i : Fin 512) (hlive : s.live = true) (hrun : (s.eng k).run = .running) (hhalt : (s.eng k).halted = false) (hc : x.cacheBad = false) (hs : x.scratchBad = false) (ht : x.storeBad = false) (hpc : (s.eng k).pc.toNat % 4 = 0) (hw : (s.skWord (s.eng k).pc.toNat).w = 0x80080000 + 32768 * d.val + 4096 * a.val + i.val) (hal : ((s.eng k).a.get a).toNat % 4 = 0) (hin : ((s.eng k).a.get a).toNat + 4 * i.val < 0x2000) :
    Leads (exec (.executeBundle k x) s) fun t => (t.eng k).d = (s.eng k).d.set d.val (BitVec.ofNat 32 ((s.eng k).scNat (((s.eng k).a.get a).toNat + 4 * i.val) 4)) ∧ (t.eng k).scratch = (s.eng k).scratch ∧ (t.eng k).a = (s.eng k).a ∧ (t.eng k).pc = (s.eng k).pc + 4 ∧ (∀ j, j ≠ k → t.eng j = s.eng j) ∧ t.store = s.store ∧ t.aos = s.aos ∧ s.FlashSame t ∧ s.RegsBut t [] [(pCLK, CLK.PHASE_CYCLE.off)] := by
  generalize hword : s.skWord (s.eng k).pc.toNat = w at hw
  have hop : w.op = 1 := by simp [SkW.op, bitsOf, hw]; omega
  have hd : w.d = d := SkW.fin_ofNat (by simp [bitsOf, hw]; omega)
  have ha : w.a = a := SkW.fin_ofNat (by simp [bitsOf, hw]; omega)
  have himm : w.imm 10 = (i.val : Int) := by simp [SkW.imm, signed, hw]; omega
  have hmode : bitsOf w.w 10 2 = 0 := by simp [bitsOf, hw]; omega
  have hea := (s.eng k).amEa_word (.inl hop) hmode himm (by rw [ha]; exact Nat.lt_trans hin (by decide))
  rw [ha] at hea
  have hstep := State.skStep_a hrun hc hs ht hword (by simp [SkW.stop, bitAt, hw]; omega) (by simp [SkW.slot, bitsOf, hw]; omega) (.inl hop)
    (SkW.runs_always (by simp [SkW.pred, bitsOf, hw]; omega) (by simp [SkW.pneg, bitAt, hw]; omega) _) (by rw [hea]; omega) (by rw [hea]; exact hin)
  rw [State.skA_load hop hmode (by rw [hea]; exact hin), hea, hd, State.skBegin_eng] at hstep
  obtain ⟨t, e, heng, hk⟩ := exec_ended hlive hrun hhalt hstep s.skBegin_onlyEngine (State.eng_put _ _ _ _ _)
  refine ⟨t, e, ?_, ?_, ?_, ?_, hk⟩ <;> rw [heng]
  · rfl
  · rfl
  · rfl
  · exact EngSt.next_pc hpc

/-- B, relative to its own address. -/
theorem branchBundle_completes (s : State) (k : Engine) (x : BundleIn) (i : Fin 262144) (hlive : s.live = true) (hrun : (s.eng k).run = .running) (hhalt : (s.eng k).halted = false) (hc : x.cacheBad = false) (hs : x.scratchBad = false) (ht : x.storeBad = false) (hpc : (s.eng k).pc.toNat % 4 = 0) (hw : (s.skWord (s.eng k).pc.toNat).w = 0xE0080000 + i.val) :
    Leads (exec (.executeBundle k x) s) fun t => (t.eng k).pc = (s.eng k).pc + BitVec.ofNat 18 (4 * i.val) ∧ (t.eng k).d = (s.eng k).d ∧ (t.eng k).a = (s.eng k).a ∧ (t.eng k).budleft = (s.eng k).budleft - (2 + x.stall : Nat) ∧ (∀ j, j ≠ k → t.eng j = s.eng j) ∧ t.store = s.store ∧ t.aos = s.aos ∧ s.FlashSame t ∧ s.RegsBut t [] [(pCLK, CLK.PHASE_CYCLE.off)] := by
  generalize hword : s.skWord (s.eng k).pc.toNat = w at hw
  have hop : w.op = 1 := by simp [SkW.op, bitsOf, hw]; omega
  have hslot : w.slot = 3 := by simp [SkW.slot, bitsOf, hw]; omega
  have himm : w.imm 19 = (i.val : Int) := by simp [SkW.imm, signed, hw]; omega
  have hstep := State.skStep_branch hrun hc hs ht hword (by simp [SkW.stop, bitAt, hw]; omega) hslot hop
    (SkW.runs_always (by simp [SkW.pred, bitsOf, hw]; omega) (by simp [SkW.pneg, bitAt, hw]; omega) _)
  obtain ⟨t, e, heng, hk⟩ := exec_ended hlive hrun hhalt hstep s.skBegin_onlyEngine (State.eng_put _ _ _ _ _)
  refine ⟨t, e, ?_, ?_, ?_, ?_, hk⟩ <;> rw [heng]
  · apply BitVec.eq_of_toNat_eq
    have hlt := (s.eng k).pc.isLt
    have hmod : (((s.eng k).pc.toNat + 4 * w.imm 19 : Int) % 2 ^ 18).toNat = ((s.eng k).pc.toNat + 4 * i.val) % 2 ^ 18 := by
      rw [himm]
      omega
    simp only [EngSt.ended, BitVec.toNat_ofNat, BitVec.toNat_add, hmod]
    omega
  · rfl
  · rfl
  · rfl

/-- A predicate that reads 0. -/
theorem idleBundle_completes (s : State) (k : Engine) (x : BundleIn) (pr : Fin 8) (i : Fin 0x2000000) (hlive : s.live = true) (hrun : (s.eng k).run = .running) (hhalt : (s.eng k).halted = false) (hc : x.cacheBad = false) (hs : x.scratchBad = false) (ht : x.storeBad = false) (hpc : (s.eng k).pc.toNat % 4 = 0) (hp0 : (s.eng k).p.getLsbD 0 = true) (hpr : pr.val ≠ 0) (hoff : (s.eng k).p.getLsbD pr.val = false) (hw : (s.skWord (s.eng k).pc.toNat).w = 0xA0000000 + 67108864 * pr.val + i.val) :
    Leads (exec (.executeBundle k x) s) fun t => (t.eng k).d = (s.eng k).d ∧ (t.eng k).a = (s.eng k).a ∧ (t.eng k).acc = (s.eng k).acc ∧ (t.eng k).p = (s.eng k).p ∧ (t.eng k).flg = (s.eng k).flg ∧ (t.eng k).pc = (s.eng k).pc + 4 ∧ (∀ j, j ≠ k → t.eng j = s.eng j) ∧ t.store = s.store ∧ t.aos = s.aos ∧ s.FlashSame t ∧ s.RegsBut t [] [(pCLK, CLK.PHASE_CYCLE.off)] := by
  generalize hword : s.skWord (s.eng k).pc.toNat = w at hw
  have hslot : w.slot = 1 := by simp [SkW.slot, bitsOf, hw]; omega
  have hpred : w.pred = pr.val := by simp [SkW.pred, bitsOf, hw]; omega
  have hpneg : w.pneg = false := by simp [SkW.pneg, bitAt, hw]; omega
  have hidle : w.runs (s.eng k).p = false := by
    unfold SkW.runs
    rw [hpred, hpneg, hoff]
    simp [hpr]
  have hstep := State.skStep_idle hrun hc hs ht hword (by simp [SkW.stop, bitAt, hw]; omega) hslot hidle
  obtain ⟨t, e, heng, hk⟩ := exec_ended hlive hrun hhalt hstep s.skBegin_onlyEngine (State.eng_put _ _ _ _ _)
  refine ⟨t, e, ?_, ?_, ?_, ?_, ?_, ?_, hk⟩ <;> rw [heng]
  · rfl
  · rfl
  · rfl
  · exact BitVec.or_one_of hp0
  · rfl
  · exact EngSt.next_pc hpc

/-- An opcode that is not listed enters the fault handler (R450). -/
theorem faultBundle_completes (s : State) (k : Engine) (x : BundleIn) (hlive : s.live = true) (hrun : (s.eng k).run = .running) (hhalt : (s.eng k).halted = false) (hc : x.cacheBad = false) (hs : x.scratchBad = false) (ht : x.storeBad = false) (hpc : (s.eng k).pc.toNat % 4 = 0) (hfh : (s.eng k).fhnd ≠ 0) (hflt : (s.eng k).flg.getLsbD 12 = false) (hw : (s.skWord (s.eng k).pc.toNat).w = 0xA0780000) :
    Leads (exec (.executeBundle k x) s) fun t => (t.eng k).fcause = 2 ∧ (t.eng k).fpc = (s.eng k).pc.setWidth 32 ∧ (t.eng k).faddr = (s.eng k).pc.setWidth 32 ∧ (t.eng k).flg.getLsbD 12 = true ∧ (t.eng k).pc.toNat = (s.eng k).fhnd.toNat % 2 ^ 18 / 4 * 4 ∧ (t.eng k).d = (s.eng k).d ∧ (∀ j, j ≠ k → t.eng j = s.eng j) ∧ t.store = s.store ∧ t.aos = s.aos ∧ s.FlashSame t ∧ s.RegsBut t [] [(pCLK, CLK.PHASE_CYCLE.off)] := by
  generalize hword : s.skWord (s.eng k).pc.toNat = w at hw
  have hop : w.op = 0x0F := by simp [SkW.op, bitsOf, hw]
  have hslot : w.slot = 1 := by simp [SkW.slot, bitsOf, hw]
  have haddr : w.addr = (s.eng k).pc.toNat := by
    rw [← hword]
    exact Nat.mod_eq_of_lt (s.eng k).pc.isLt
  have hfault : (s.skBegin x).wordFault (s.eng k) w = some (2, (s.eng k).pc.toNat) := by
    simp [State.wordFault, wordIllegal, opListed, hslot, hop, haddr]
  have hstep := State.skStep_faults hrun hc hword (by simp [SkW.stop, bitAt, hw]) (by simp [isRpt, hslot])
    (SkW.runs_always (by simp [SkW.pred, bitsOf, hw]) (by simp [SkW.pneg, bitAt, hw]) _) hfault (by simp [isString, hslot])
  have heng : ((s.skBegin x).skSpend k (1 + x.stall)).eng k = { s.eng k with budleft := (s.eng k).budleft - (1 + x.stall : Nat), used := (s.eng k).used + (1 + x.stall) } := by
    rw [State.skSpend, State.eng_modEng_same, State.skBegin_eng]
  rw [State.skFault_handled (by rw [heng]; exact hfh) (by rw [heng]; exact hflt)] at hstep
  have hk := (s.skBegin_onlyEngine (k := k) (x := x)).modEng fun e => { e with budleft := e.budleft - (1 + x.stall : Nat), used := e.used + (1 + x.stall) }
  generalize ht : ((s.skBegin x).skSpend k (1 + x.stall)).modEng k _ = t at hstep
  have hend : s.OnlyEngine k t := ht ▸ hk.modEng _
  have hres := State.eng_modEng_same (s := (s.skBegin x).skSpend k (1 + x.stall)) k fun e => { e.setFlg 12 true with
    fpc := e.pc.setWidth 32, fcause := BitVec.ofNat 32 2, faddr := BitVec.ofNat 32 (s.eng k).pc.toNat
    pc := BitVec.ofNat 18 (e.fhnd.toNat % 2 ^ 18 / 4 * 4) }
  rw [ht, heng] at hres
  refine ⟨t, (exec_bundle hlive hrun hhalt).trans (congrArg Host.Outcome.next hstep), ?_, ?_, ?_, ?_, ?_, ?_, hend⟩
  · rw [hres]
    rfl
  · rw [hres]
  · rw [hres]
    exact BitVec.eq_of_toNat_eq (by rw [BitVec.toNat_ofNat, BitVec.toNat_setWidth])
  · rw [hres]
    exact (EngSt.flg_setFlg (n := s.eng k) (j := 12) (by decide) true 12).trans (if_pos rfl)
  · rw [hres]
    exact Nat.mod_eq_of_lt (by omega)
  · rw [hres]
    rfl

/-- Settles O35. -/
theorem skinkBundlesComplete : Obligations.SkinkBundlesComplete := by
  unfold Obligations.SkinkBundlesComplete
  exact ⟨addBundle_completes, mulBundle_completes, storeBundle_completes, loadBundle_completes, branchBundle_completes, idleBundle_completes, faultBundle_completes⟩

end Sys2Proof.Machine
end

section
/-!
PROOFS. The Type-C state machine rests in reset: pins that change there move no port.
-/

set_option Elab.async false

namespace Sys2Proof.Machine

/-- A device held in reset whose port 0 shows Unattached.SNK. -/
def resetUnattached : State := { State.reset with regs := [(regKey (pCC 0) CC.PG_STAT_STATE.off, 2)] }

theorem resetUnattached_stays : exec (.ccLineChange 0 200 0) resetUnattached = .next (resetUnattached.ccStore 0 200 0) := rfl

/-- Refutes O36: in the first clause the port enters AttachWait.SNK, but no hypothesis says that CORE runs, and in reset nothing looks at the pins (R79). -/
theorem not_typeCStatesComplete : ¬ Obligations.TypeCStatesComplete := by
  unfold Obligations.TypeCStatesComplete
  rintro ⟨hline, -⟩
  obtain ⟨t, e, -, hstate, -⟩ := hline resetUnattached 0 200 0 (by decide) (by decide)
  rw [resetUnattached_stays] at e
  have ht : resetUnattached.ccStore 0 200 0 = t := Host.Outcome.next.inj e
  have hrest : (resetUnattached.ccStore 0 200 0).ccState 0 = .unattachedSnk := by decide
  rw [ht, hstate] at hrest
  exact absurd hrest (by decide)

end Sys2Proof.Machine
end

section
/-!
PROOFS. The probe of a CC pin after a takeover: what waited for its reading is judged from it.
-/

set_option Elab.async false

namespace Sys2Proof.Machine

/-- A source after a takeover: nothing is latched, and VCONN_AUTO_ON has asked for the probe. -/
def probeAsked : State :=
  { State.reset with
    phase := .run
    regs := [(regKey (pCC 0) CC.PG_STAT_STATE.off, 7)]
    ports := State.reset.ports.set 0 { PortSt.init with cc := { CcSt.init with raProbe := some false } } }

/-- The state that the reading leaves. -/
def probeRead : State :=
  match execVconnRaProbe 0 300 probeAsked with
  | .next t => t
  | _ => probeAsked

theorem probeAsked_reads : exec (.vconnRaProbe 0 300) probeAsked = .next probeRead := rfl

theorem probeRead_probe : (probeRead.port 0).cc.raProbe = none := by decide +kernel

/-- Refutes O37: in the second clause the latch of R162 alone changes, but the reading also ends the probe that was asked for, which no hypothesis shuts out. -/
theorem not_vconnAndCcGuardsComplete : ¬ Obligations.VconnAndCcGuardsComplete := by
  unfold Obligations.VconnAndCcGuardsComplete
  rintro ⟨-, hprobe, -⟩
  obtain ⟨t, e, -, hcc, -⟩ := hprobe probeAsked 0 300 (by decide) (by decide)
  rw [probeAsked_reads] at e
  have ht : probeRead = t := Host.Outcome.next.inj e
  have hasked : (probeAsked.port 0).cc.raProbe = some false := by decide
  rw [← ht] at hcc
  have hnone := congrArg CcSt.raProbe hcc
  rw [probeRead_probe] at hnone
  exact absurd (hnone.trans hasked) (by decide)

end Sys2Proof.Machine
end

section
/-!
PROOFS. A protocol layer that is disabled sends no Chunk Request.
-/

set_option Elab.async false

namespace Sys2Proof.Machine

/-- A reassembly that owes its next Chunk Request. -/
def reasmDue : Reasm := { sop := 0, buf := 0, size := 100, got := 26, chunks := 1, reqDue := true, waiting := false }

/-- A source attached whose protocol layer is disabled while a reassembly is open. -/
def reasmDisabled : State :=
  { State.reset with
    phase := .run
    regs := [(regKey (pCC 0) CC.PG_STAT_STATE.off, 0x27), (regKey (pPDL 0) PG.CTRL_ENABLE.off, 0)]
    ports := State.reset.ports.set 0 { PortSt.init with pdl := { PdlSt.init with reasm := [reasmDue] } } }

theorem reasmDisabled_stays : exec (.chunkRequestSend 0) reasmDisabled = .next reasmDisabled := by
  refine congrArg Host.Outcome.next ((State.cmd_takes (by decide) _).trans (if_pos ?_))
  decide

/-- Refutes O38: in the fifth clause a free line and a request that is due are enough for the Chunk Request, but a layer that is disabled sends nothing, and no
hypothesis says that it is enabled. -/
theorem not_receivingCompletes : ¬ Obligations.ReceivingCompletes := by
  unfold Obligations.ReceivingCompletes
  rintro ⟨-, -, -, -, hchunk, -⟩
  obtain ⟨t, e, -, hreasm, -⟩ := hchunk reasmDisabled 0 reasmDue (by decide) (by decide) (by decide) (by decide)
  rw [reasmDisabled_stays] at e
  have ht : reasmDisabled = t := Host.Outcome.next.inj e
  rw [← ht] at hreasm
  exact absurd hreasm (by decide)

end Sys2Proof.Machine
end

section
/-!
PROOFS. The end of the collision hold: a record for a cable that may not be spoken to goes on no line.
-/

set_option Elab.async false

namespace Sys2Proof.Machine

/-- A source attached that holds a record to SOP′, with no VCONN for the cable. -/
def cableHeld : State :=
  { State.reset with
    phase := .run
    regs := [(regKey (pCC 0) CC.PG_STAT_STATE.off, 0x27)]
    store := Sparse.setList storeDflt [] (txAt 0 0) (leBytes 12 0x10000)
    ports := State.reset.ports.set 0 { PortSt.init with pdl := { PdlSt.init with queue := [0], phase := .hold } } }

/-- The state that the end of the hold leaves. -/
def cableReleased : State :=
  match execCollisionHoldEnd 0 cableHeld with
  | .next t => t
  | _ => cableHeld

theorem cableHeld_releases : exec (.collisionHoldEnd 0) cableHeld = .next cableReleased := rfl

theorem cableReleased_phase : (cableReleased.port 0).pdl.phase ≠ .waitGcrc := by decide +kernel

/-- Refutes O39: in the fifth clause the held record goes on the line, but one for a cable that may no longer be spoken to becomes REFUSED (R195), and no hypothesis
says that it may. -/
theorem not_transmittingCompletes : ¬ Obligations.TransmittingCompletes := by
  unfold Obligations.TransmittingCompletes
  rintro ⟨-, -, -, -, hhold, -⟩
  obtain ⟨t, e, -, hphase, -⟩ := hhold cableHeld 0 0 [] (by decide) (by decide) (by decide) (by decide) (by decide) (by decide)
  rw [cableHeld_releases] at e
  have ht : cableReleased = t := Host.Outcome.next.inj e
  rw [← ht] at hphase
  exact cableReleased_phase hphase

end Sys2Proof.Machine
end

section
/-!
PROOFS. The PDL page disabled: the protocol layer drops the GoodCRC it owes.
-/

set_option Elab.async false

namespace Sys2Proof.Machine

/-- A protocol layer that owes a GoodCRC, with no transmit record waiting. -/
def crcOwed : State :=
  { State.reset with
    phase := .run
    ports := State.reset.ports.set 0 { PortSt.init with pdl := { PdlSt.init with gcrc := some (0, 0) } } }

/-- The state that a write of 0 to the layer's EN leaves. -/
def crcDropped : State :=
  match execPdlEnableWrite 0 false crcOwed with
  | .next t => t
  | _ => crcOwed

theorem crcOwed_disables : exec (.pdlEnableWrite 0 false) crcOwed = .next crcDropped := rfl

theorem crcDropped_port : (crcDropped.port 0).pdl.gcrc = none := by decide +kernel

/-- Refutes O40: the last clause keeps the ports whole, but a layer that is disabled drops the GoodCRC it owes, and no hypothesis says that it owes none. -/
theorem not_hardResetAndLayerCommandsComplete : ¬ Obligations.HardResetAndLayerCommandsComplete := by
  unfold Obligations.HardResetAndLayerCommandsComplete
  rintro ⟨-, -, -, -, -, -, -, -, -, -, -, hoff⟩
  obtain ⟨t, e, -, -, hports, -⟩ := hoff crcOwed 0 (by decide) (by decide)
  rw [crcOwed_disables] at e
  have ht : crcDropped = t := Host.Outcome.next.inj e
  rw [← ht] at hports
  have hgone : (crcOwed.port 0).pdl.gcrc = none := by
    rw [State.port, ← hports]
    exact crcDropped_port
  exact absurd hgone (by decide)

end Sys2Proof.Machine
end

section
/-!
PROOFS. The end of a transition: TRANS_DONE leaves the converter's target where the slew has brought it.
-/

set_option Elab.async false

namespace Sys2Proof.Machine

/-- A transition that holds (STATE 3) with the converter's target at 0 and V_NEW at 20 mV. -/
def heldBelow : State :=
  { State.reset with
    regs := [(regKey (pPOL 0) POL.TRANS_STAT_STATE.off, 0x30010000)]
    ports := State.reset.ports.set 0 { PortSt.init with pol := { PolSt.init with inWin := 2 } } }

/-- The state that TRANS_DONE leaves. -/
def heldDone : State :=
  match execTransDone 0 heldBelow with
  | .next t => t
  | _ => heldBelow

theorem heldBelow_ends : exec (.transDone 0) heldBelow = .next heldDone := rfl

theorem heldDone_target : (heldDone.port 0).pol.target = 0 := by decide +kernel

/-- Refutes O41: in the sixth clause the target is that of V_NEW, but TRANS_DONE does not move the target (the slew has done so before, R232), and no hypothesis says
that the target has come to V_NEW. -/
theorem not_contractCommandsComplete : ¬ Obligations.ContractCommandsComplete := by
  unfold Obligations.ContractCommandsComplete
  rintro ⟨-, -, -, -, -, hdone, -⟩
  obtain ⟨t, e, -, -, htarget, -⟩ := hdone heldBelow 0 (by decide) (by decide)
  rw [heldBelow_ends] at e
  have ht : heldDone = t := Host.Outcome.next.inj e
  rw [← ht, heldDone_target] at htarget
  exact absurd htarget (by decide)

end Sys2Proof.Machine
end

section
/-!
PROOFS. The end of the backoff time: a Hard Reset sequence that has not reached RAMP holds the guard in BACKOFF.
-/

set_option Elab.async false

namespace Sys2Proof.Machine

/-- A source path in BACKOFF (guard state 6) under a Hard Reset sequence in its first step. -/
def backoffHeld : State :=
  { State.reset with
    regs := [(regKey (pPOL 0) POL.PG_STAT_HR_SEQ.off, 0x10), (regKey (pCC 0) CC.PG_STAT_STATE.off, 7), (regKey (pGUARD 0) 0x08, 1),
      (regKey (pGUARD 0) GUARD.PG_STAT_STATE.off, 6)]
    inForce := [(regKey (pGUARD 0) GUARD.CFG_SRC_EN.off, 1)] }

/-- The state that the end of the backoff time leaves. -/
def backoffOver : State :=
  match execBackoffExpiry 0 backoffHeld with
  | .next t => t
  | _ => backoffHeld

theorem backoffHeld_expires : exec (.backoffExpiry 0) backoffHeld = .next backoffOver := rfl

theorem backoffOver_guardState : backoffOver.guardState 0 = 6 := by decide +kernel

/-- Refutes O42: in the tenth clause the guard goes to OFF, but one that only a Hard Reset sequence keeps from being served stays in BACKOFF until the sequence has
reached RAMP (Table 11.3), and no hypothesis shuts that out. -/
theorem not_guardRampAndLimitComplete : ¬ Obligations.GuardRampAndLimitComplete := by
  unfold Obligations.GuardRampAndLimitComplete
  rintro ⟨-, -, -, -, -, -, -, -, -, hback, -⟩
  obtain ⟨t, e, -, hoff, -⟩ := hback backoffHeld 0 (by decide) (by decide)
  rw [backoffHeld_expires] at e
  have ht : backoffOver = t := Host.Outcome.next.inj e
  rw [← ht, backoffOver_guardState] at hoff
  exact absurd hoff (by decide)

end Sys2Proof.Machine
end

section
/-!
PROOFS. The end of a discharge by its limit: where a shorted FET is found, the detach of the retired port starts a discharge of its own.
-/

set_option Elab.async false

namespace Sys2Proof.Machine

/-- An attached source after a trip (guard state 5), whose discharge runs. -/
def tripDischarging : State :=
  { State.reset with
    regs := [(regKey (pCC 0) CC.PG_STAT_STATE.off, 7), (regKey (pGUARD 0) GUARD.PG_STAT_STATE.off, 5)]
    ports := State.reset.ports.set 0 { PortSt.init with guard := { GuardSt.init with dsch := true, dschWant := true, dschTrip := true } } }

/-- The state that the end of 500 ms leaves, with VBUS at 4 V. -/
def tripDischarged : State :=
  match execDschEnd 0 4000 true tripDischarging with
  | .next t => t
  | _ => tripDischarging

theorem tripDischarging_ends : exec (.dschEnd 0 4000 true) tripDischarging = .next tripDischarged := rfl

theorem tripDischarged_wants : (tripDischarged.port 0).guard.dschWant = true := by decide +kernel

/-- Refutes O43: in the third clause no discharge is left, but VBUS above 3.0 V after a trip finds a shorted FET (R277), which retires the port; its detach, with VBUS
above 0.8 V, discharges again. -/
theorem not_guardRetireSinkAndDischargeComplete : ¬ Obligations.GuardRetireSinkAndDischargeComplete := by
  unfold Obligations.GuardRetireSinkAndDischargeComplete
  rintro ⟨-, -, htime, -⟩
  obtain ⟨t, e, -, -, hwant, -⟩ := htime tripDischarging 0 4000 (by decide) (by decide)
  rw [tripDischarging_ends] at e
  have ht : tripDischarged = t := Host.Outcome.next.inj e
  rw [← ht, tripDischarged_wants] at hwant
  exact absurd hwant (by decide)

end Sys2Proof.Machine
end

section
/-!
PROOFS. What a post of a task leaves: everything but the store and the posts that wait.
-/

set_option Elab.async false

namespace Sys2Proof.Machine

variable {s : State}

@[simp] theorem State.post_regs (slot : Nat) (d : Desc) : (s.post slot d).regs = s.regs := by
  simp -implicitDefEqProofs [State.post, State.stPut]
@[simp] theorem State.post_tick (slot : Nat) (d : Desc) : (s.post slot d).tick = s.tick := by
  simp -implicitDefEqProofs [State.post, State.stPut]
@[simp] theorem State.post_phase (slot : Nat) (d : Desc) : (s.post slot d).phase = s.phase := by
  simp -implicitDefEqProofs [State.post, State.stPut]
@[simp] theorem State.post_ports (slot : Nat) (d : Desc) : (s.post slot d).ports = s.ports := by
  simp -implicitDefEqProofs [State.post, State.stPut]
@[simp] theorem State.post_share (slot : Nat) (d : Desc) : (s.post slot d).share = s.share := by
  simp -implicitDefEqProofs [State.post, State.stPut]
@[simp] theorem State.post_links (slot : Nat) (d : Desc) : (s.post slot d).links = s.links := by
  simp -implicitDefEqProofs [State.post, State.stPut]
@[simp] theorem State.post_fleet (slot : Nat) (d : Desc) : (s.post slot d).fleet = s.fleet := by
  simp -implicitDefEqProofs [State.post, State.stPut]
@[simp] theorem State.post_place (slot : Nat) (d : Desc) : (s.post slot d).place = s.place := by
  simp -implicitDefEqProofs [State.post, State.stPut]
@[simp] theorem State.post_twin (slot : Nat) (d : Desc) : (s.post slot d).twin = s.twin := by
  simp -implicitDefEqProofs [State.post, State.stPut]
@[simp] theorem State.post_gauge (slot : Nat) (d : Desc) : (s.post slot d).gauge = s.gauge := by
  simp -implicitDefEqProofs [State.post, State.stPut]
@[simp] theorem State.post_host (slot : Nat) (d : Desc) : (s.post slot d).host = s.host := by
  simp -implicitDefEqProofs [State.post, State.stPut]
@[simp] theorem State.post_upd (slot : Nat) (d : Desc) : (s.post slot d).upd = s.upd := by
  simp -implicitDefEqProofs [State.post, State.stPut]
@[simp] theorem State.post_aos (slot : Nat) (d : Desc) : (s.post slot d).aos = s.aos := by
  simp -implicitDefEqProofs [State.post, State.stPut]
@[simp] theorem State.post_pins (slot : Nat) (d : Desc) : (s.post slot d).pins = s.pins := by
  simp -implicitDefEqProofs [State.post, State.stPut]
@[simp] theorem State.post_boot (slot : Nat) (d : Desc) : (s.post slot d).boot = s.boot := by
  simp -implicitDefEqProofs [State.post, State.stPut]
@[simp] theorem State.postTask_regs (slot cls : Nat) (port : Port) (valid flash : Bool) (task arg affinity : Nat) : (s.postTask slot cls port valid flash task arg affinity).regs = s.regs := by
  rw [State.postTask, apply_ite State.regs, State.post_regs, ite_self]
@[simp] theorem State.postTask_tick (slot cls : Nat) (port : Port) (valid flash : Bool) (task arg affinity : Nat) : (s.postTask slot cls port valid flash task arg affinity).tick = s.tick := by
  rw [State.postTask, apply_ite State.tick, State.post_tick, ite_self]
@[simp] theorem State.postTask_phase (slot cls : Nat) (port : Port) (valid flash : Bool) (task arg affinity : Nat) : (s.postTask slot cls port valid flash task arg affinity).phase = s.phase := by
  rw [State.postTask, apply_ite State.phase, State.post_phase, ite_self]
@[simp] theorem State.postTask_ports (slot cls : Nat) (port : Port) (valid flash : Bool) (task arg affinity : Nat) : (s.postTask slot cls port valid flash task arg affinity).ports = s.ports := by
  rw [State.postTask, apply_ite State.ports, State.post_ports, ite_self]
@[simp] theorem State.postTask_share (slot cls : Nat) (port : Port) (valid flash : Bool) (task arg affinity : Nat) : (s.postTask slot cls port valid flash task arg affinity).share = s.share := by
  rw [State.postTask, apply_ite State.share, State.post_share, ite_self]
@[simp] theorem State.postTask_links (slot cls : Nat) (port : Port) (valid flash : Bool) (task arg affinity : Nat) : (s.postTask slot cls port valid flash task arg affinity).links = s.links := by
  rw [State.postTask, apply_ite State.links, State.post_links, ite_self]
@[simp] theorem State.postTask_fleet (slot cls : Nat) (port : Port) (valid flash : Bool) (task arg affinity : Nat) : (s.postTask slot cls port valid flash task arg affinity).fleet = s.fleet := by
  rw [State.postTask, apply_ite State.fleet, State.post_fleet, ite_self]
@[simp] theorem State.postTask_place (slot cls : Nat) (port : Port) (valid flash : Bool) (task arg affinity : Nat) : (s.postTask slot cls port valid flash task arg affinity).place = s.place := by
  rw [State.postTask, apply_ite State.place, State.post_place, ite_self]
@[simp] theorem State.postTask_twin (slot cls : Nat) (port : Port) (valid flash : Bool) (task arg affinity : Nat) : (s.postTask slot cls port valid flash task arg affinity).twin = s.twin := by
  rw [State.postTask, apply_ite State.twin, State.post_twin, ite_self]
@[simp] theorem State.postTask_gauge (slot cls : Nat) (port : Port) (valid flash : Bool) (task arg affinity : Nat) : (s.postTask slot cls port valid flash task arg affinity).gauge = s.gauge := by
  rw [State.postTask, apply_ite State.gauge, State.post_gauge, ite_self]
@[simp] theorem State.postTask_host (slot cls : Nat) (port : Port) (valid flash : Bool) (task arg affinity : Nat) : (s.postTask slot cls port valid flash task arg affinity).host = s.host := by
  rw [State.postTask, apply_ite State.host, State.post_host, ite_self]
@[simp] theorem State.postTask_upd (slot cls : Nat) (port : Port) (valid flash : Bool) (task arg affinity : Nat) : (s.postTask slot cls port valid flash task arg affinity).upd = s.upd := by
  rw [State.postTask, apply_ite State.upd, State.post_upd, ite_self]
@[simp] theorem State.postTask_aos (slot cls : Nat) (port : Port) (valid flash : Bool) (task arg affinity : Nat) : (s.postTask slot cls port valid flash task arg affinity).aos = s.aos := by
  rw [State.postTask, apply_ite State.aos, State.post_aos, ite_self]
@[simp] theorem State.postTask_pins (slot cls : Nat) (port : Port) (valid flash : Bool) (task arg affinity : Nat) : (s.postTask slot cls port valid flash task arg affinity).pins = s.pins := by
  rw [State.postTask, apply_ite State.pins, State.post_pins, ite_self]
@[simp] theorem State.postTask_boot (slot cls : Nat) (port : Port) (valid flash : Bool) (task arg affinity : Nat) : (s.postTask slot cls port valid flash task arg affinity).boot = s.boot := by
  rw [State.postTask, apply_ite State.boot, State.post_boot, ite_self]
@[simp] theorem State.rd_postTask (slot cls : Nat) (port : Port) (valid flash : Bool) (task arg affinity : Nat) (pg off : Nat) : (s.postTask slot cls port valid flash task arg affinity).rd pg off = s.rd pg off := by
  rw [State.rd, State.postTask_regs, State.rd]
@[simp] theorem State.fld_postTask (slot cls : Nat) (port : Port) (valid flash : Bool) (task arg affinity : Nat) (pg : Nat) (f : Fld) : (s.postTask slot cls port valid flash task arg affinity).fld pg f = s.fld pg f := by
  rw [State.fld, State.rd_postTask, State.fld]
@[simp] theorem State.flag_postTask (slot cls : Nat) (port : Port) (valid flash : Bool) (task arg affinity : Nat) (pg : Nat) (f : Fld) : (s.postTask slot cls port valid flash task arg affinity).flag pg f = s.flag pg f := by
  rw [State.flag, State.fld_postTask, State.flag]
@[simp] theorem State.port_postTask (slot cls : Nat) (port : Port) (valid flash : Bool) (task arg affinity : Nat) (n : Port) : (s.postTask slot cls port valid flash task arg affinity).port n = s.port n := by
  rw [State.port, State.postTask_ports, State.port]

end Sys2Proof.Machine
end

section
/-!
PROOFS. The share loop: regulation, releases, and the commands of `SHARE` (R297, R298, R302, R303, R312).
-/

set_option Elab.async false

namespace Sys2Proof.Machine

variable {s : State}

/-- What a walk over the ports reaches at port `n`, with what the walk keeps at hand. -/
theorem State.forPorts_reaches_of {f : State → Port → State} {p q : State → Prop} (n : Port) (hp : ∀ u m, p u → p (f u m)) (h1 : ∀ u, p u → q (f u n))
    (h2 : ∀ u m, m ≠ n → p u → q u → q (f u m)) (h0 : p s) : q (s.forPorts f) := by
  have key : ∀ (l : List Port) (u : State), p u → n ∈ l ∨ q u → q (l.foldl f u) := by
    intro l
    induction l with
    | nil => exact fun u _ h => h.resolve_left List.not_mem_nil
    | cons m l ih =>
      intro u hu h
      refine ih _ (hp u m hu) ?_
      by_cases hm : m = n
      · exact .inr (hm ▸ h1 u hu)
      · exact h.imp (fun h => (List.mem_cons.1 h).resolve_left (Ne.symm hm)) (h2 u m hm hu)
  exact key allPorts s h0 (.inl (mem_allPorts n))

/-! ### A release (R303) -/

/-- A release at one port: a closed member's limit goes to its ceiling. -/
def State.releasePort (s : State) (drop : Bool) (k : Port) : State :=
  let st := s.fld pSHARE (SHARE.PORT_STAT_STATE.at k.val)
  if 2 ≤ st ∧ !(drop && st == 2) then
    let s := (s.put pSHARE (SHARE.PORT_STAT_STATE.at k.val) 6).put pSHARE (SHARE.PORT_STAT_HELD.at k.val) 0
    (s.put pSHARE (SHARE.PORT_STAT_BUDGET.at k.val) 0).put pSHARE (SHARE.PORT_STAT_LIMIT.at k.val) (min 1023 (s.port k).share.ceil)
  else s

theorem State.releasePort_eq (s : State) (drop : Bool) (k : Port) : s.releasePort drop k =
    if 2 ≤ s.fld pSHARE (SHARE.PORT_STAT_STATE.at k.val) ∧ !(drop && s.fld pSHARE (SHARE.PORT_STAT_STATE.at k.val) == 2) then
      (((s.put pSHARE (SHARE.PORT_STAT_STATE.at k.val) 6).put pSHARE (SHARE.PORT_STAT_HELD.at k.val) 0).put pSHARE
        (SHARE.PORT_STAT_BUDGET.at k.val) 0).put pSHARE (SHARE.PORT_STAT_LIMIT.at k.val) (min 1023 (s.port k).share.ceil)
    else s := by
  simp -implicitDefEqProofs (disch := (clear * -; decide +revert)) [State.releasePort]

theorem State.shareRelease_eq (s : State) (drop : Bool) : s.shareRelease drop =
    let t := (s.put pSHARE SHARE.PG_STAT_RELEASE 1).forPorts fun s k => s.releasePort drop k
    let t := ({ t with share := { t.share with left := 2, keepJoin := drop } } : State).shareEvt SHARE.PG_EVT_RELEASE
    if drop then t.shareEvt SHARE.PG_EVT_MEMBER_DROP else t := by
  delta State.shareRelease State.releasePort
  rfl

@[simp] theorem State.releasePort_ports (drop : Bool) (k : Port) : (s.releasePort drop k).ports = s.ports := by
  rw [State.releasePort_eq]
  split <;> simp -implicitDefEqProofs (disch := (clear * -; decide +revert)) []

@[simp] theorem State.releasePort_share (drop : Bool) (k : Port) : (s.releasePort drop k).share = s.share := by
  rw [State.releasePort_eq]
  split <;> simp -implicitDefEqProofs (disch := (clear * -; decide +revert)) []

/-- The other registers of the page stay. -/
theorem State.flag_releasePort (drop : Bool) (k : Port) : (s.releasePort drop k).flag pSHARE SHARE.PG_STAT_RELEASE = s.flag pSHARE SHARE.PG_STAT_RELEASE := by
  rw [State.releasePort_eq]
  split <;> simp -implicitDefEqProofs (disch := (clear * -; decide +revert)) []

theorem State.flag_releasePort_evt (drop : Bool) (k : Port) :
    (s.releasePort drop k).flag pSHARE SHARE.PG_EVT_MEMBER_DROP = s.flag pSHARE SHARE.PG_EVT_MEMBER_DROP := by
  rw [State.releasePort_eq]
  split <;> simp -implicitDefEqProofs (disch := (clear * -; decide +revert)) []

/-- The registers of another port stay. -/
theorem State.fld_releasePort_ne (drop : Bool) {k n : Port} (h : k ≠ n) (f : Fld) (hf : f.off = 0x80) :
    (s.releasePort drop k).fld pSHARE (f.at n.val) = s.fld pSHARE (f.at n.val) := by
  have hne : ∀ g : Fld, g.off = 0x80 → regKey pSHARE (f.at n.val).off ≠ regKey pSHARE (g.at k.val).off := fun g hg => by
    have hk : k.val ≠ n.val := fun e => h (Fin.ext e)
    exact regKey_ne_off (by simp only [Fld.at, hf, hg]; omega)
  rw [State.releasePort_eq]
  split
  · rw [State.fld_put_ne _ _ (hne _ rfl), State.fld_put_ne _ _ (hne _ rfl), State.fld_put_ne _ _ (hne _ rfl), State.fld_put_ne _ _ (hne _ rfl)]
  · rfl

/-- A closed member's port at the release: state 6, and the ceiling as limit. -/
theorem State.releasePort_closed (n : Port) (h : 2 ≤ s.fld pSHARE (SHARE.PORT_STAT_STATE.at n.val)) :
    (s.releasePort false n).fld pSHARE (SHARE.PORT_STAT_STATE.at n.val) = 6 ∧
    (s.releasePort false n).fld pSHARE (SHARE.PORT_STAT_LIMIT.at n.val) = min 1023 (s.port n).share.ceil := by
  rw [State.releasePort_eq]
  rw [if_pos ⟨h, rfl⟩]
  clear h
  constructor
  · rw [State.fld_put_apart _ _ (.inr (by decide +revert)), State.fld_put_apart _ _ (.inr (by decide +revert)), State.fld_put_apart _ _ (.inr (by decide +revert)),
      State.fld_put_same _ _ _ _ (by decide +revert)]
    rfl
  · rw [State.fld_put_same _ _ _ _ (by decide +revert)]
    exact Nat.mod_eq_of_lt (Nat.lt_of_le_of_lt (Nat.min_le_left _ _) (by decide : 1023 < 2 ^ 10))

/-- A release shows itself in the status and the events, and the counters start. -/
theorem State.shareRelease_shows (drop : Bool) : (s.shareRelease drop).flag pSHARE SHARE.PG_STAT_RELEASE = true ∧
    (s.shareRelease drop).flag pSHARE SHARE.PG_EVT_RELEASE = true ∧ (s.shareRelease drop).flag pSHARE SHARE.PG_EVT_MEMBER_DROP =
      (drop || s.flag pSHARE SHARE.PG_EVT_MEMBER_DROP) ∧ (s.shareRelease drop).share.left = 2 ∧ (s.shareRelease drop).ports = s.ports := by
  rw [State.shareRelease_eq]
  extract_lets t w u
  have ht : t.flag pSHARE SHARE.PG_STAT_RELEASE = true ∧ t.flag pSHARE SHARE.PG_EVT_MEMBER_DROP = s.flag pSHARE SHARE.PG_EVT_MEMBER_DROP ∧ t.ports = s.ports := by
    refine ⟨?_, ?_, ?_⟩
    · exact (State.forPorts_leaves (fun u => u.flag pSHARE SHARE.PG_STAT_RELEASE) fun u m => u.flag_releasePort drop m).trans (by simp -implicitDefEqProofs (disch := (clear * -; decide +revert)) [State.fld_put_same, State.flag_put_same, State.flag_raise])
    · exact (State.forPorts_leaves (fun u => u.flag pSHARE SHARE.PG_EVT_MEMBER_DROP) fun u m => u.flag_releasePort_evt drop m).trans (by simp -implicitDefEqProofs (disch := (clear * -; decide +revert)) [State.fld_put_same, State.flag_put_same, State.flag_raise])
    · exact (State.forPorts_leaves State.ports fun u m => u.releasePort_ports drop m).trans (by simp -implicitDefEqProofs (disch := (clear * -; decide +revert)) [])
  clear_value t
  obtain ⟨hrel, hdrop, hports⟩ := ht
  cases drop <;> simp -implicitDefEqProofs (disch := (clear * -; decide +revert)) [u, w, State.shareEvt, State.postGlobal, State.fld_put_same, State.flag_put_same, State.flag_raise, hrel, hdrop, hports]

/-- At a closed member's port the release shows state 6 and the ceiling (R303). -/
theorem State.shareRelease_closed (n : Port) (h : 2 ≤ s.fld pSHARE (SHARE.PORT_STAT_STATE.at n.val)) :
    (s.shareRelease false).fld pSHARE (SHARE.PORT_STAT_STATE.at n.val) = 6 ∧
    (s.shareRelease false).fld pSHARE (SHARE.PORT_STAT_LIMIT.at n.val) = min 1023 (s.port n).share.ceil := by
  rw [State.shareRelease_eq]
  extract_lets t w u
  have ht : t.fld pSHARE (SHARE.PORT_STAT_STATE.at n.val) = 6 ∧ t.fld pSHARE (SHARE.PORT_STAT_LIMIT.at n.val) = min 1023 (s.port n).share.ceil := by
    refine State.forPorts_reaches_of
      (p := fun u => 2 ≤ u.fld pSHARE (SHARE.PORT_STAT_STATE.at n.val) ∧ (u.port n).share.ceil = (s.port n).share.ceil)
      (q := fun u => u.fld pSHARE (SHARE.PORT_STAT_STATE.at n.val) = 6 ∧ u.fld pSHARE (SHARE.PORT_STAT_LIMIT.at n.val) = min 1023 (s.port n).share.ceil)
      n ?_ ?_ ?_ ?_
    · rintro u m ⟨hst, hceil⟩
      refine ⟨?_, by rw [State.port, State.releasePort_ports, ← State.port, hceil]⟩
      by_cases hm : m = n
      · rw [hm, (u.releasePort_closed n hst).1]
        decide
      · rwa [u.fld_releasePort_ne false hm _ rfl]
    · rintro u ⟨hst, hceil⟩
      exact hceil ▸ u.releasePort_closed n hst
    · rintro u m hm - ⟨hst, hlim⟩
      exact ⟨(u.fld_releasePort_ne false hm _ rfl).trans hst, (u.fld_releasePort_ne false hm _ rfl).trans hlim⟩
    · have hst : (s.put pSHARE SHARE.PG_STAT_RELEASE 1).fld pSHARE (SHARE.PORT_STAT_STATE.at n.val) = s.fld pSHARE (SHARE.PORT_STAT_STATE.at n.val) :=
        State.fld_put_apart _ _ (.inl (by clear * -; decide +revert))
      exact ⟨hst ▸ h, by simp -implicitDefEqProofs (disch := (clear * -; decide +revert)) []⟩
  clear_value t
  obtain ⟨hst, hlim⟩ := ht
  simp -implicitDefEqProofs (disch := (clear * -; decide +revert)) [u, w, State.shareEvt, State.postGlobal, hst, hlim]

/-- The gate of a closed member held at its limit. -/
theorem shareRegulation_notes (s : State) (n : Port) (held : Bool) (hm : s.isMember n = true) (hc : s.sinkClosed n = true) :
    Leads (exec (.shareRegulation n held) s) fun t => s.Frame t [pSHARE] [] [] [] ∧ t.flag pSHARE (SHARE.PORT_STAT_HELD.at n.val) = held ∧ t.ports = s.ports := by
  have e : exec (.shareRegulation n held) s = .next (s.putB pSHARE (SHARE.PORT_STAT_HELD.at n.val) held) := congrArg Host.Outcome.next (if_pos ⟨hm, hc⟩)
  exact ⟨_, e, Frame.of e (execShareRegulation_touches n held (inRegs_page (by simp))) (execShareRegulation_stores n held) (execShareRegulation_answers n held), State.flag_putB_same _ _ _ _ (by clear * -; decide +revert) (by clear * -; decide +revert), by simp -implicitDefEqProofs (disch := (clear * -; decide +revert)) []⟩

/-- The gate of a closed member held by its diode. -/
theorem diodeRegulation_notes (s : State) (n : Port) (held : Bool) (hm : s.isMember n = true) (hc : s.sinkClosed n = true) :
    Leads (exec (.diodeRegulation n held) s) fun t => s.Frame t [] [] [] [] ∧ (t.port n).share = { (s.port n).share with diode := held } ∧ t.regs = s.regs := by
  have e : exec (.diodeRegulation n held) s = .next (s.modShare n fun h => { h with diode := held }) := congrArg Host.Outcome.next (if_pos ⟨hm, hc⟩)
  exact ⟨_, e, Frame.of e (execDiodeRegulation_touches n held) (execDiodeRegulation_stores n held) (execDiodeRegulation_answers n held), by simp -implicitDefEqProofs (disch := (clear * -; decide +revert)) [State.modShare], by simp -implicitDefEqProofs (disch := (clear * -; decide +revert)) [State.modShare]⟩

/-- A member that leaves the sharing set. -/
theorem shareRelease_leaves (s : State) (n : Port) (hset : s.inShareSet n = true) :
    Leads (exec (.shareRelease n) s) fun t => s.Frame t [pSHARE] [] [descBytes] [] ∧ t.inShareSet n = false ∧ t.flag pSHARE SHARE.PG_STAT_RELEASE = true ∧ t.flag pSHARE SHARE.PG_EVT_RELEASE = true ∧ t.flag pSHARE SHARE.PG_EVT_MEMBER_DROP = true ∧ t.share.left = 2 := by
  let u : State := ((s.put pSHARE (SHARE.PORT_STAT_STATE.at n.val) 1).put pSHARE (SHARE.PORT_STAT_HELD.at n.val) 0).modShare n fun h => { h with inSet := false }
  have e : exec (.shareRelease n) s = .next (u.shareRelease true) := congrArg Host.Outcome.next (if_pos hset)
  obtain ⟨hrel, hevt, hdrop, hleft, hports⟩ := u.shareRelease_shows true
  refine ⟨_, e, Frame.of e (execShareRelease_touches n (inRegs_page (by simp))) (execShareRelease_stores n (inBytes_store descBytes (by simp))) (execShareRelease_answers n), ?_, hrel, hevt, hdrop, hleft⟩
  rw [State.inShareSet, State.port, hports, ← State.port]
  simp -implicitDefEqProofs (disch := (clear * -; decide +revert)) [u, State.modShare]

/-- No member is free. -/
theorem noFreeMember_releases (s : State) (n : Port) (hm : s.isMember n = true) (hc : s.sinkClosed n = true) (hheld : s.flag pSHARE (SHARE.PORT_STAT_HELD.at n.val) = true) :
    Leads (exec (.noFreeMember) s) fun t => s.Frame t [pSHARE] [] [descBytes] [] ∧ t.flag pSHARE SHARE.PG_STAT_RELEASE = true ∧ t.flag pSHARE SHARE.PG_EVT_RELEASE = true ∧ t.share.left = 2 := by
  have hany : (allPorts.any fun n => s.isMember n && s.sinkClosed n && s.flag pSHARE (SHARE.PORT_STAT_HELD.at n.val)) = true :=
    List.any_eq_true.2 ⟨n, mem_allPorts n, by rw [hm, hc, hheld]; rfl⟩
  have e : exec .noFreeMember s = .next (s.shareRelease false) := congrArg Host.Outcome.next (if_pos hany)
  obtain ⟨hrel, hevt, -, hleft, -⟩ := s.shareRelease_shows false
  exact ⟨_, e, Frame.of e (execNoFreeMember_touches (inRegs_page (by simp))) (execNoFreeMember_stores (inBytes_store descBytes (by simp))) (execNoFreeMember_answers), hrel, hevt, hleft⟩

/-- The RELEASE command. -/
theorem shareCmdRelease_releases (s : State) (key : BitVec 16) (n : Port) (ht : s.Takes pSHARE) (hkey : key.toNat = 0x5C83) (hst : 2 ≤ s.fld pSHARE (SHARE.PORT_STAT_STATE.at n.val)) :
    Leads (exec (.shareCmdRelease key) s) fun t => s.Frame t [pSHARE] [] [descBytes] [] ∧ t.flag pSHARE SHARE.PG_STAT_RELEASE = true ∧ t.flag pSHARE SHARE.PG_EVT_RELEASE = true ∧ t.fld pSHARE (SHARE.PORT_STAT_STATE.at n.val) = 6 ∧ t.fld pSHARE (SHARE.PORT_STAT_LIMIT.at n.val) = min 1023 (s.port n).share.ceil := by
  have e : exec (.shareCmdRelease key) s = .next (s.shareRelease false) := congrArg Host.Outcome.next (State.keyCmd_takes ht hkey _)
  obtain ⟨hrel, hevt, -, -, -⟩ := s.shareRelease_shows false
  exact ⟨_, e, Frame.of e (execShareCmdRelease_touches key (inRegs_page (by simp))) (execShareCmdRelease_stores key (inBytes_store descBytes (by simp))) (execShareCmdRelease_answers key), hrel, hevt, State.shareRelease_closed n hst⟩

/-- The TRIM_CLEAR command. -/
theorem shareCmdTrimClear_marks (s : State) (key : BitVec 16) (ht : s.Takes pSHARE) (hkey : key.toNat = 0x5C83) :
    Leads (exec (.shareCmdTrimClear key) s) fun t => s.Frame t [] [(pSHARE, 0x10)] [] [] ∧ t.share = { s.share with trimClear := true } ∧ t.regs = s.regs := by
  have e : exec (.shareCmdTrimClear key) s = .next s.trimClearCmd := congrArg Host.Outcome.next (State.keyCmd_takes ht hkey _)
  exact ⟨_, e, Frame.of e (execShareCmdTrimClear_touches key (by simp [inRegs])) (execShareCmdTrimClear_stores key) (execShareCmdTrimClear_answers key), rfl, rfl⟩

/-- The end of a block on a member. -/
theorem memberBlockEnd_drives (s : State) (n : Port) (hm : s.isMember n = true) (hblk : s.flag (pGUARD n) GUARD.PG_STAT_SNK_BLOCKED = true) :
    Leads (exec (.memberBlockEnd n) s) fun t => s.Frame t [] [(pGUARD n, 0x0C)] [] [] ∧ t.flag (pGUARD n) GUARD.PG_STAT_SNK_BLOCKED = false ∧ (t.port n).share = { (s.port n).share with diode := true } := by
  have e : exec (.memberBlockEnd n) s = .next ((s.put (pGUARD n) GUARD.PG_STAT_SNK_BLOCKED 0).modShare n fun h => { h with diode := true }) :=
    congrArg Host.Outcome.next (if_pos ⟨hm, hblk⟩)
  exact ⟨_, e, Frame.of e (execMemberBlockEnd_touches n (by simp [inRegs])) (execMemberBlockEnd_stores n) (execMemberBlockEnd_answers n), by simp -implicitDefEqProofs (disch := (clear * -; decide +revert)) [State.fld_put_same, State.flag_put_same, State.flag_raise], by simp -implicitDefEqProofs (disch := (clear * -; decide +revert)) [State.modShare]⟩

/-- Settles O44: each clause runs its command and reads what the release or the register shows. -/
theorem shareCommandsComplete : Obligations.ShareCommandsComplete := by
  unfold Obligations.ShareCommandsComplete
  exact ⟨shareRegulation_notes, diodeRegulation_notes, shareRelease_leaves, noFreeMember_releases, shareCmdRelease_releases, shareCmdTrimClear_marks, memberBlockEnd_drives⟩

end Sys2Proof.Machine
end

section
/-!
PROOFS. HPD levels and pulses (R249), and the transactions of the mux bus (R256, R257).
-/

set_option Elab.async false

namespace Sys2Proof.Machine

variable {s : State}

/-- The end of a transaction shows in `STAT` and in its event. -/
theorem State.muxEnd_shows (result bytes : Nat) (hr : result < 16) (hb : bytes < 32) : (s.muxEnd result bytes).flag pMUXB MUXB.STAT_BUSY = false ∧
    (s.muxEnd result bytes).fld pMUXB MUXB.STAT_RESULT = result ∧ (s.muxEnd result bytes).fld pMUXB MUXB.STAT_DONE_BYTES = bytes ∧
    (s.muxEnd result bytes).flag pMUXB (if result = 0 then MUXB.PG_EVT_DONE else MUXB.PG_EVT_ERR) = true := by
  unfold State.muxEnd
  extract_lets t
  have ht : t.flag pMUXB MUXB.STAT_BUSY = false ∧ t.fld pMUXB MUXB.STAT_RESULT = result ∧ t.fld pMUXB MUXB.STAT_DONE_BYTES = bytes := by
    simp -implicitDefEqProofs (disch := (clear * -; decide +revert)) [t, State.fld_put_same, State.flag_put_same, State.flag_raise]
    exact ⟨Nat.mod_eq_of_lt hr, Nat.mod_eq_of_lt hb⟩
  clear_value t
  obtain ⟨hbusy, hres, hbytes⟩ := ht
  split <;> simp -implicitDefEqProofs (disch := (clear * -; decide +revert)) [State.fld_put_same, State.flag_put_same, State.flag_raise, hbusy, hres, hbytes]

/-- Bytes loaded into `RDATA` touch no other register of the page. -/
theorem State.muxRdata_two (a b : Byte) : s.muxRdata [a, b] = s.put pMUXB (MUXB.RDATA_BYTES.at 0) (leNat [a, b]) := rfl

/-- A level written to HPD. -/
theorem hpdLevelWrite_sets (s : State) (n : Port) (level : Bool) (ht : s.Takes (pVDM n)) :
    Leads (exec (.hpdLevelWrite n level) s) fun t => s.Frame t [] [(pVDM n, 0x34)] [] [] ∧ t.flag (pVDM n) VDM.HPD_LEVEL = level ∧ (level = false → (t.port n).irqWait = false) := by
  have e : exec (.hpdLevelWrite n level) s = .next (s.hpdWrite n level) := congrArg Host.Outcome.next (State.cmd_takes ht _)
  refine ⟨_, e, Frame.of e (execHpdLevelWrite_touches n level (by simp [inRegs])) (execHpdLevelWrite_stores n level) (execHpdLevelWrite_answers n level), ?_, ?_⟩
  · unfold State.hpdWrite
    cases level <;> simp -implicitDefEqProofs (disch := (clear * -; decide +revert)) []
  · rintro rfl
    simp -implicitDefEqProofs (disch := (clear * -; decide +revert)) [State.hpdWrite]

/-- A pulse that starts. -/
theorem hpdIrq_starts (s : State) (n : Port) (ht : s.Takes (pVDM n)) (hlevel : s.flag (pVDM n) VDM.HPD_LEVEL = true) (hwait : (s.port n).irqWait = false) (hon : (s.port n).irqOn = false) :
    Leads (exec (.hpdIrq n false) s) fun t => s.Frame t [] [(pVDM n, 0x10)] [] [] ∧ (t.port n).irqOn = true ∧ t.hpdPin n = false ∧ t.regs = s.regs := by
  have e : exec (.hpdIrq n false) s = .next (s.modPort n fun p => { p with irqOn := true }) := by
    refine congrArg Host.Outcome.next ((State.cmd_takes ht _).trans ?_)
    simp [State.hpdIrq, hlevel, hwait, hon]
  exact ⟨_, e, Frame.of e (execHpdIrq_touches n false (by simp [inRegs])) (execHpdIrq_stores n false) (execHpdIrq_answers n false), by simp -implicitDefEqProofs (disch := (clear * -; decide +revert)) [], by simp -implicitDefEqProofs (disch := (clear * -; decide +revert)) [State.hpdPin], by simp -implicitDefEqProofs (disch := (clear * -; decide +revert)) []⟩

/-- A pulse asked for while one waits. -/
theorem hpdIrq_drops (s : State) (n : Port) (early : Bool) (ht : s.Takes (pVDM n)) (hlevel : s.flag (pVDM n) VDM.HPD_LEVEL = true) (hwait : (s.port n).irqWait = true) :
    Leads (exec (.hpdIrq n early) s) fun t => s.Frame t [] [(pVDM n, 0x10)] [] [] ∧ t.flag (pVDM n) VDM.PG_EVT_IRQ_DROPPED = true ∧ t.ports = s.ports := by
  have e : exec (.hpdIrq n early) s = .next (s.raise (pVDM n) VDM.PG_EVT_IRQ_DROPPED) := by
    refine congrArg Host.Outcome.next ((State.cmd_takes ht _).trans ?_)
    simp [State.hpdIrq, hlevel, hwait]
  exact ⟨_, e, Frame.of e (execHpdIrq_touches n early (by simp [inRegs])) (execHpdIrq_stores n early) (execHpdIrq_answers n early), by simp -implicitDefEqProofs (disch := (clear * -; decide +revert)) [State.fld_put_same, State.flag_put_same, State.flag_raise], by simp -implicitDefEqProofs (disch := (clear * -; decide +revert)) []⟩

/-- The end of a pulse. -/
theorem hpdIrqEnd_ends (s : State) (n : Port) (ht : s.Takes (pVDM n)) (hon : (s.port n).irqOn = true) :
    Leads (exec (.hpdIrqEnd n) s) fun t => s.Frame t [] [] [] [] ∧ (t.port n).irqOn = false ∧ (t.port n).irqWait = (s.port n).irqWait ∧ t.regs = s.regs := by
  have e : exec (.hpdIrqEnd n) s = .next (s.modPort n fun p => if p.irqOn then { p with irqOn := false } else { p with irqOn := p.irqWait, irqWait := false }) :=
    congrArg Host.Outcome.next (State.cmd_takes ht _)
  exact ⟨_, e, Frame.of e (execHpdIrqEnd_touches n) (execHpdIrqEnd_stores n) (execHpdIrqEnd_answers n), by simp -implicitDefEqProofs (disch := (clear * -; decide +revert)) [hon], by simp -implicitDefEqProofs (disch := (clear * -; decide +revert)) [hon], by simp -implicitDefEqProofs (disch := (clear * -; decide +revert)) []⟩

/-- A transaction that starts. -/
theorem muxbGo_starts (s : State) (key : BitVec 16) (ht : s.Takes pMUXB) (hkey : key.toNat = 0x2E5B) (hbusy : s.flag pMUXB MUXB.STAT_BUSY = false) (hone : 1 ≤ s.fld pMUXB MUXB.TXN_WCNT) (hw : s.fld pMUXB MUXB.TXN_WCNT ≤ 16) (hr : s.fld pMUXB MUXB.TXN_RCNT ≤ 16) :
    Leads (exec (.muxbGo key) s) fun t => s.Frame t [] [(pMUXB, 0x10), (pMUXB, 0x4C)] [] [] ∧ t.flag pMUXB MUXB.STAT_BUSY = true ∧ t.flag pMUXB MUXB.PG_EVT_ERR = s.flag pMUXB MUXB.PG_EVT_ERR := by
  have e : exec (.muxbGo key) s = .next (s.put pMUXB MUXB.STAT_BUSY 1) := by
    refine congrArg Host.Outcome.next ((State.keyCmd_takes ht hkey _).trans ?_)
    rw [State.muxGo, if_neg (by simp [hbusy])]
    exact if_neg (by omega)
  exact ⟨_, e, Frame.of e (execMuxbGo_touches key (by simp [inRegs]) (by simp [inRegs])) (execMuxbGo_stores key) (execMuxbGo_answers key), by simp -implicitDefEqProofs (disch := (clear * -; decide +revert)) [State.fld_put_same, State.flag_put_same, State.flag_raise], by simp -implicitDefEqProofs (disch := (clear * -; decide +revert)) []⟩

/-- A bad count. -/
theorem muxbGo_refuses (s : State) (key : BitVec 16) (ht : s.Takes pMUXB) (hkey : key.toNat = 0x2E5B) (hbusy : s.flag pMUXB MUXB.STAT_BUSY = false) (hw : 16 < s.fld pMUXB MUXB.TXN_WCNT) :
    Leads (exec (.muxbGo key) s) fun t => s.Frame t [] [(pMUXB, 0x10), (pMUXB, 0x4C)] [] [] ∧ t.flag pMUXB MUXB.STAT_BUSY = false ∧ t.fld pMUXB MUXB.STAT_RESULT = 6 ∧ t.fld pMUXB MUXB.STAT_DONE_BYTES = 0 ∧ t.flag pMUXB MUXB.PG_EVT_ERR = true := by
  have e : exec (.muxbGo key) s = .next (s.muxEnd 6 0) := by
    refine congrArg Host.Outcome.next ((State.keyCmd_takes ht hkey _).trans ?_)
    rw [State.muxGo, if_neg (by simp [hbusy])]
    exact if_pos (.inr (.inl hw))
  exact ⟨_, e, Frame.of e (execMuxbGo_touches key (by simp [inRegs]) (by simp [inRegs])) (execMuxbGo_stores key) (execMuxbGo_answers key), State.muxEnd_shows 6 0 (by decide) (by decide)⟩

/-- The ABORT command. -/
theorem muxbAbort_ends (s : State) (key : BitVec 16) (bytes : BitVec 5) (ht : s.Takes pMUXB) (hkey : key.toNat = 0x2E5B) (hbusy : s.flag pMUXB MUXB.STAT_BUSY = true) :
    Leads (exec (.muxbAbort key bytes) s) fun t => s.Frame t [] [(pMUXB, 0x10), (pMUXB, 0x4C)] [] [] ∧ t.flag pMUXB MUXB.STAT_BUSY = false ∧ t.fld pMUXB MUXB.STAT_RESULT = 7 ∧ t.fld pMUXB MUXB.STAT_DONE_BYTES = bytes.toNat ∧ t.flag pMUXB MUXB.PG_EVT_ERR = true := by
  have e : exec (.muxbAbort key bytes) s = .next (s.muxEnd 7 bytes.toNat) :=
    congrArg Host.Outcome.next ((State.keyCmd_takes ht hkey _).trans (if_pos hbusy))
  exact ⟨_, e, Frame.of e (execMuxbAbort_touches key bytes (by simp [inRegs]) (by simp [inRegs])) (execMuxbAbort_stores key bytes) (execMuxbAbort_answers key bytes), State.muxEnd_shows 7 bytes.toNat (by decide) bytes.isLt⟩

/-- A read of two bytes. -/
theorem muxbDone_reads (s : State) (acked : BitVec 5) (pec : Byte) (ht : s.Takes pMUXB) (hvddio : s.flag pSUP SUP.PG_STAT_VDDIO_OK = true) (hbusy : s.flag pMUXB MUXB.STAT_BUSY = true) (hblock : s.flag pMUXB MUXB.TXN_BLOCK = false) (hpec : s.flag pMUXB MUXB.TXN_PEC = false) (hrcnt : s.fld pMUXB MUXB.TXN_RCNT = 2) :
    Leads (exec (.muxbDone 0 acked [0x34, 0x12] pec) s) fun t => s.Frame t [pMUXB] [] [] [] ∧ t.flag pMUXB MUXB.STAT_BUSY = false ∧ t.fld pMUXB MUXB.STAT_RESULT = 0 ∧ t.fld pMUXB MUXB.STAT_DONE_BYTES = acked.toNat ∧ t.flag pMUXB MUXB.PG_EVT_DONE = true ∧ t.fld pMUXB (MUXB.RDATA_BYTES.at 0) = 0x1234 := by
  let u : State := { s with pins := { s.pins with muxOut := s.muxBytes } }
  have e : exec (.muxbDone 0 acked [0x34, 0x12] pec) s = .next ((u.muxRdata [0x34, 0x12]).muxEnd 0 acked.toNat) := by
    refine congrArg Host.Outcome.next ((State.cmd_takes ht _).trans ?_)
    rw [if_pos (by rw [hbusy, hvddio]; rfl)]
    simp [State.muxTaken, hblock, hpec, hrcnt, u]
  rw [State.muxRdata_two] at e
  obtain ⟨hoff, hres, hbytes, hevt⟩ := (u.put pMUXB (MUXB.RDATA_BYTES.at 0) (leNat [0x34, 0x12])).muxEnd_shows 0 acked.toNat (by decide) acked.isLt
  refine ⟨_, e, Frame.of e (execMuxbDone_touches 0 acked [0x34, 0x12] pec (inRegs_page (by simp))) (execMuxbDone_stores 0 acked [0x34, 0x12] pec) (execMuxbDone_answers 0 acked [0x34, 0x12] pec), hoff, hres, hbytes, hevt, ?_⟩
  simp -implicitDefEqProofs (disch := (clear * -; decide +revert)) [State.muxEnd, State.fld_put_same, State.flag_put_same, State.flag_raise]
  rfl

/-- A transaction that times out. -/
theorem muxbTimeout_ends (s : State) (acked : BitVec 5) (ht : s.Takes pMUXB) (hbusy : s.flag pMUXB MUXB.STAT_BUSY = true) :
    Leads (exec (.muxbTimeout acked) s) fun t => s.Frame t [] [(pMUXB, 0x4C), (pMUXB, 0x10)] [] [] ∧ t.flag pMUXB MUXB.STAT_BUSY = false ∧ t.fld pMUXB MUXB.STAT_RESULT = 3 ∧ t.flag pMUXB MUXB.PG_EVT_ERR = true := by
  have e : exec (.muxbTimeout acked) s = .next (s.muxEnd 3 acked.toNat) := congrArg Host.Outcome.next ((State.cmd_takes ht _).trans (if_pos hbusy))
  obtain ⟨hoff, hres, -, hevt⟩ := s.muxEnd_shows 3 acked.toNat (by decide) acked.isLt
  exact ⟨_, e, Frame.of e (execMuxbTimeout_touches acked (by simp [inRegs]) (by simp [inRegs])) (execMuxbTimeout_stores acked) (execMuxbTimeout_answers acked), hoff, hres, hevt⟩

/-- A falling edge of MINT. -/
theorem mintEdge_sets (s : State) (hlive : s.live = true) (hmint : s.pins.mint = true) (hedge : bitAt (s.fld pMUXB MUXB.CFG_MINT_EDGE) 0 = true) :
    Leads (exec (.mintEdge false) s) fun t => s.Frame t [] [(pMUXB, 0x10)] [] [] ∧ t.flag pMUXB MUXB.PG_EVT_MINT = true ∧ t.pins = { s.pins with mint := false } := by
  have e : exec (.mintEdge false) s = .next (({ s with pins := { s.pins with mint := false } } : State).raise pMUXB MUXB.PG_EVT_MINT) := by
    refine congrArg Host.Outcome.next ((if_neg (by simpa [State.live] using hlive)).trans ?_)
    simp -implicitDefEqProofs (disch := (clear * -; decide +revert)) [hmint, hedge]
  exact ⟨_, e, Frame.of e (execMintEdge_touches false (by simp [inRegs])) (execMintEdge_stores false) (execMintEdge_answers false), by simp -implicitDefEqProofs (disch := (clear * -; decide +revert)) [State.fld_put_same, State.flag_put_same, State.flag_raise], by simp -implicitDefEqProofs (disch := (clear * -; decide +revert)) []⟩

/-- Settles O45: each clause runs its command and reads the registers it writes. -/
theorem hpdAndMuxBusComplete : Obligations.HpdAndMuxBusComplete := by
  unfold Obligations.HpdAndMuxBusComplete
  exact ⟨hpdLevelWrite_sets, hpdIrq_starts, hpdIrq_drops, hpdIrqEnd_ends, muxbGo_starts, muxbGo_refuses, muxbAbort_ends, muxbDone_reads, muxbTimeout_ends, mintEdge_sets⟩

end Sys2Proof.Machine
end

section
/-!
PROOFS. A message that firmware sends (R187, R212): the record it composes, and what the sending leaves.
-/

set_option Elab.async false

namespace Sys2Proof.Machine

variable {s : State}

/-- The bytes above a write read as before. -/
theorem State.stRead_stWrite_above {a b n : Nat} (bs : List Byte) (h : a + bs.length ≤ b) : (s.stWrite a bs).stRead b n = s.stRead b n := by
  unfold State.stRead State.stWrite
  dsimp only
  have hlen : (bs.take (storeTop - a)).length ≤ bs.length := List.length_take_le' _ _
  induction n generalizing b with
  | zero => rfl
  | succ n ih => rw [Sparse.getList, Sparse.getList, ih (by omega), Sparse.get_setList_out _ _ _ _ _ (.inr (by omega))]

section
variable (a : Nat) (bs : List Byte)

@[simp] theorem State.port_stWrite (n : Port) : (s.stWrite a bs).port n = s.port n := rfl
@[simp] theorem State.link_stWrite (n : Link) : (s.stWrite a bs).link n = s.link n := rfl
@[simp] theorem State.own_stWrite (n : Port) : (s.stWrite a bs).own n = s.own n := rfl
@[simp] theorem State.tw_stWrite (n : Port) : (s.stWrite a bs).tw n = s.tw n := rfl
@[simp] theorem State.rd_stWrite (pg off : Nat) : (s.stWrite a bs).rd pg off = s.rd pg off := rfl
@[simp] theorem State.fld_stWrite (pg : Nat) (f : Fld) : (s.stWrite a bs).fld pg f = s.fld pg f := rfl
@[simp] theorem State.flag_stWrite (pg : Nat) (f : Fld) : (s.stWrite a bs).flag pg f = s.flag pg f := rfl

end

/-- The snapshot's bytes, the mode record's and the gauge record's, as the laws of the stores name them. -/
theorem inBytes_snap {store aos : List (Nat × Nat)} (n : Port) (h : snapBytes n ∈ aos) :
    ∀ a, 0x100000 + 32 * n.val ≤ a → a < 0x100020 + 32 * n.val → inBytes store aos a :=
  fun _ h1 h2 => .inr ⟨_, h, by unfold snapBytes; omega, by unfold snapBytes; omega⟩

theorem inBytes_mode {store aos : List (Nat × Nat)} (n : Port) (h : modeBytes n ∈ aos) :
    ∀ a, 0x100100 + 16 * n.val ≤ a → a < 0x100110 + 16 * n.val → inBytes store aos a :=
  fun _ h1 h2 => .inr ⟨_, h, by unfold modeBytes; omega, by unfold modeBytes; omega⟩

theorem inBytes_gaugeRec {store aos : List (Nat × Nat)} (h : gaugeRecBytes ∈ aos) : ∀ a, 0x100180 ≤ a → a < 0x1001C0 → inBytes store aos a :=
  fun _ h1 h2 => .inr ⟨_, h, by unfold gaugeRecBytes; omega, by unfold gaugeRecBytes; omega⟩

/-- States of the same registers read alike. -/
theorem State.rd_of_regs {t u : State} (h : t.regs = u.regs) (pg off : Nat) : t.rd pg off = u.rd pg off := by rw [State.rd, h, State.rd]
theorem State.fld_of_regs {t u : State} (h : t.regs = u.regs) (pg : Nat) (f : Fld) : t.fld pg f = u.fld pg f := by rw [State.fld, State.rd_of_regs h, State.fld]
theorem State.flag_of_regs {t u : State} (h : t.regs = u.regs) (pg : Nat) (f : Fld) : t.flag pg f = u.flag pg f := by rw [State.flag, State.fld_of_regs h, State.flag]

theorem txAt_le (n : Port) (i : Nat) : txAt n i + 64 ≤ storeTop := by
  have := n.isLt
  unfold txAt storeTop
  omega

/-- What a record that firmware composes reads: token and generation, the status 0, and the message. -/
theorem State.fwRecord_reads (n : Port) (i sop flags xbuf : Nat) (msg : List Byte) (h : msg.length ≤ 46) :
    (s.fwRecord n i sop flags xbuf msg).stRead (txAt n i + 2) 2 = leBytes 1 sop ++ leBytes 1 (s.gen n) ∧
    (s.fwRecord n i sop flags xbuf msg).stRead (txAt n i + 12) 1 = [0] ∧
    (s.fwRecord n i sop flags xbuf msg).stRead (txAt n i + 16) msg.length = msg := by
  have hle := txAt_le n i
  let head := leBytes 2 0
  let mid := leBytes 4 0 ++ leBytes 2 msg.length ++ leBytes 1 flags ++ leBytes 1 xbuf
  let pad := List.replicate (46 - msg.length) (0 : Byte)
  let tok := leBytes 1 sop ++ leBytes 1 (s.gen n)
  let body := head ++ tok ++ (mid ++ [0] ++ [0, 0, 0] ++ msg ++ pad)
  have htok : tok.length = 2 := rfl
  have hmid : mid.length = 8 := rfl
  have hlen : body.length = 62 := by
    simp [body, head, htok, hmid, pad]
    omega
  have hrec : ∀ crc, crc = leBytes 2 (crc16 body) → s.fwRecord n i sop flags xbuf msg = s.stWrite (txAt n i) (body ++ crc) := by
    rintro crc rfl
    have hbody : leBytes 2 0 ++ leBytes 1 sop ++ leBytes 1 (s.gen n) ++ leBytes 4 0 ++ leBytes 2 msg.length ++ leBytes 1 flags ++
        leBytes 1 xbuf ++ leBytes 4 0 ++ msg ++ List.replicate (46 - msg.length) 0 = body := by
      simp only [body, head, mid, tok, pad, List.append_assoc]
      rfl
    rw [State.fwRecord, hbody, List.take_of_length_le (by omega), State.stRecord]
  have hcrc := hrec _ rfl
  have hcl : (leBytes 2 (crc16 body)).length = 2 := length_leBytes _ _
  generalize leBytes 2 (crc16 body) = crc at hcrc hcl
  have part : ∀ x y z : List Byte, body ++ crc = x ++ y ++ z → (s.fwRecord n i sop flags xbuf msg).stRead (txAt n i + x.length) y.length = y := by
    intro x y z e
    rw [hcrc, e]
    refine s.stRead_stWrite_mid x y z ?_
    rw [← e, List.length_append, hlen, hcl]
    exact hle
  refine ⟨?_, ?_, ?_⟩
  · exact part head tok (mid ++ [0] ++ [0, 0, 0] ++ msg ++ pad ++ crc) (by simp [body])
  · exact part (head ++ tok ++ mid) [0] ([0, 0, 0] ++ msg ++ pad ++ crc) (by simp [body])
  · exact part (head ++ tok ++ mid ++ [0] ++ [0, 0, 0]) msg (pad ++ crc) (by simp [body])

/-- A record that firmware composes touches the store alone. -/
@[simp] theorem State.fwRecord_ports (n : Port) (i sop flags xbuf : Nat) (msg : List Byte) : (s.fwRecord n i sop flags xbuf msg).ports = s.ports := rfl

@[simp] theorem State.fwRecord_regs (n : Port) (i sop flags xbuf : Nat) (msg : List Byte) : (s.fwRecord n i sop flags xbuf msg).regs = s.regs := rfl

/-- A control or data message as firmware composes it. -/
def plainMsg (sop typ : Nat) (objs : List Word) (ams : Bool) (goal : FwGoal) : FwMsg :=
  { sop := sop, ams := ams, msg := leBytes 2 (fwHdr typ objs.length false) ++ (objs.flatMap fun o => leBytes 4 o.toNat), ext := none, goal := goal }

/-- Firmware notes a message it has composed in record `i`. -/
def FwSt.build (f : FwSt) (i : Nat) (m : FwMsg) : FwSt :=
  { f with built := (i, m) :: f.built.filter fun b => b.1 != i, hostTx := if m.goal = .host then some i else f.hostTx }

/-- A message that firmware sends while its layer has room: the record it composes is queued, and nothing waits. -/
theorem State.fwSendFor_eq {n : Port} (h : s.MaySend n) (sop typ : Nat) (objs : List Word) (ams : Bool) (goal : FwGoal) :
    s.fwSendFor n sop typ objs ams goal =
      ((((s.modFw n fun f => { f with outbox := f.outbox ++ [plainMsg sop typ objs ams goal] }).fwRecord n (s.freeTx n) sop (2 * ams.toNat) 0
        (plainMsg sop typ objs ams goal).msg).modFw n fun f => f.build (s.freeTx n) (plainMsg sop typ objs ams goal)).txReq n (s.freeTx n)).modFw n
          fun f => { f with outbox := [] } := by
  obtain ⟨hen, hlen, hout⟩ := h
  have hroom : ((s.modFw n fun f => { f with outbox := f.outbox ++ [plainMsg sop typ objs ams goal] }).port n).pdl.queue.length < 4 := by
    simpa [State.modFw] using hlen
  have hbox : ((s.modFw n fun f => { f with outbox := f.outbox ++ [plainMsg sop typ objs ams goal] }).port n).fw.outbox = [plainMsg sop typ objs ams goal] := by
    simp [State.modFw, hout]
  have hfree : (s.modFw n fun f => { f with outbox := f.outbox ++ [plainMsg sop typ objs ams goal] }).freeTx n = s.freeTx n := by
    simp [State.freeTx, State.modFw]
  have hput : s.fwSendFor n sop typ objs ams goal = s.fwPut n (plainMsg sop typ objs ams goal) := rfl
  rw [hput, State.fwPut, if_pos hen, State.fwFlush, hbox, State.fwFlushGo, if_pos hroom, State.fwFlushGo, State.fwCompose, hfree]
  rfl

/-- A record with status 0 goes into a queue with room, and only its status changes. -/
theorem State.txReq_queues {n : Port} {i : Nat} (hlen : (s.port n).pdl.queue.length < 4) (hst : s.txStatus n i = 0) :
    s.txReq n i = (s.stPut (txAt n i + 12) 1 1).modPdl n fun p => { p with queue := p.queue ++ [i] } :=
  if_neg (by omega)

/-- Bytes of objects, four each. -/
theorem length_objBytes (objs : List Word) : (objs.flatMap fun o => leBytes 4 o.toNat).length = 4 * objs.length := by
  induction objs with
  | nil => rfl
  | cons o l ih => rw [List.flatMap_cons, List.length_append, ih, length_leBytes, List.length_cons]; omega

/-- A composed record that is queued: the store holds it, the queue is longer by it, and no register changes. -/
theorem State.queued_reads {n : Port} {f : FwSt → FwSt} {i sop flags : Nat} {msg : List Byte} (hlen : (s.port n).pdl.queue.length < 4) (hmsg : msg.length ≤ 46) :
    let t := ((s.fwRecord n i sop flags 0 msg).modFw n f).txReq n i
    t.stRead (txAt n i + 2) 2 = leBytes 1 sop ++ leBytes 1 (s.gen n) ∧ t.stRead (txAt n i + 16) msg.length = msg ∧ t.regs = s.regs ∧
    t.port n = { s.port n with fw := f (s.port n).fw, pdl := { (s.port n).pdl with queue := (s.port n).pdl.queue ++ [i] } } := by
  obtain ⟨htok, hst, hread⟩ := s.fwRecord_reads n i sop flags 0 msg hmsg
  have hports := s.fwRecord_ports n i sop flags 0 msg
  have hregs := s.fwRecord_regs n i sop flags 0 msg
  generalize s.fwRecord n i sop flags 0 msg = r at htok hst hread hports hregs
  have hport : r.port n = s.port n := by rw [State.port, hports, ← State.port]
  have hqueue : (r.modFw n f).txReq n i = ((r.modFw n f).stPut (txAt n i + 12) 1 1).modPdl n fun p => { p with queue := p.queue ++ [i] } := by
    refine State.txReq_queues (by simpa [State.modFw, hport] using hlen) ?_
    show leNat (r.stRead (txAt n i + 12) 1) = 0
    rw [hst]
    rfl
  intro t
  have ht : t = ((r.modFw n f).stPut (txAt n i + 12) 1 1).modPdl n fun p => { p with queue := p.queue ++ [i] } := hqueue
  clear_value t
  subst ht
  refine ⟨?_, ?_, ?_, ?_⟩
  · exact (State.stRead_stWrite_out (s := r.modFw n f) _ (by omega)).trans htok
  · exact (State.stRead_stWrite_above (s := r.modFw n f) _ (by rw [length_leBytes]; omega)).trans hread
  · exact hregs
  · simp [State.modPdl, State.modFw, State.stPut, hport]

/-- What firmware's sending leaves: the record in the store, the queue longer by it, and no register changed. -/
theorem State.fwSendFor_sends {n : Port} (h : s.MaySend n) (sop typ : Nat) (objs : List Word) (ams : Bool) (goal : FwGoal) (hobjs : objs.length ≤ 11) :
    s.Sent (s.fwSendFor n sop typ objs ams goal) n sop typ objs ∧ (s.fwSendFor n sop typ objs ams goal).regs = s.regs ∧
    ((s.fwSendFor n sop typ objs ams goal).port n).fw = { (s.port n).fw.build (s.freeTx n) (plainMsg sop typ objs ams goal) with outbox := [] } := by
  have hmsg : (plainMsg sop typ objs ams goal).msg.length = 2 + 4 * objs.length := by
    rw [plainMsg, List.length_append, length_leBytes, length_objBytes]
  rw [State.fwSendFor_eq h]
  obtain ⟨htok, hread, hregs, hport⟩ := State.queued_reads (s := s.modFw n fun f => { f with outbox := f.outbox ++ [plainMsg sop typ objs ams goal] }) (n := n)
    (f := fun f => f.build (s.freeTx n) (plainMsg sop typ objs ams goal)) (i := s.freeTx n) (sop := sop) (flags := 2 * ams.toNat)
    (msg := (plainMsg sop typ objs ams goal).msg) (by simpa [State.modFw] using h.2.1) (by omega)
  generalize (((s.modFw n fun f => { f with outbox := f.outbox ++ [plainMsg sop typ objs ams goal] }).fwRecord n (s.freeTx n) sop (2 * ams.toNat) 0
    (plainMsg sop typ objs ams goal).msg).modFw n fun f => f.build (s.freeTx n) (plainMsg sop typ objs ams goal)).txReq n (s.freeTx n) = t at *
  have hgen : (s.modFw n fun f => { f with outbox := f.outbox ++ [plainMsg sop typ objs ams goal] }).gen n = s.gen n := by
    simp [State.gen]
  rw [hgen] at htok
  rw [hmsg] at hread
  refine ⟨⟨htok, hread, ?_⟩, hregs, ?_⟩
  · simp [State.modFw, hport]
  · simp [State.modFw, hport, FwSt.build]

/-- A state that reads the port's queue and generation alike sends alike. -/
theorem State.Sent.of_same {u t : State} {n : Port} {sop typ : Nat} {objs : List Word} (h : u.Sent t n sop typ objs) (hq : (u.port n).pdl.queue = (s.port n).pdl.queue)
    (hg : u.gen n = s.gen n) : s.Sent t n sop typ objs := by
  have hfree : u.freeTx n = s.freeTx n := by rw [State.freeTx, State.freeTx, hq]
  obtain ⟨htok, hread, hqueue⟩ := h
  rw [hfree, hg] at htok
  rw [hfree] at hread
  rw [hfree, hq] at hqueue
  exact ⟨htok, hread, hqueue⟩

end Sys2Proof.Machine
end

section
/-!
PROOFS. Discovery, mode entry and exit, and the host's VDMs (R244-R253).
-/

set_option Elab.async false

namespace Sys2Proof.Machine

variable {s : State}

/-- The request that firmware waits for an answer to. -/
def State.askOf (s : State) (n : Port) (sop : Nat) (h : Word) (body : List Word) : VdmReq :=
  { sop := sop, hdr := h, body := body, again := false, busy := false, waitUs := s.vdmWaitUs n h }

/-- A VDM request that firmware sends: it is noted as the partner's or the cable's. -/
theorem State.vdmAsk_sends {n : Port} (hs : s.MaySend n) (sop : Nat) (h : Word) (body : List Word) (ams : Bool) (hb : body.length ≤ 10) :
    s.Sent (s.vdmAsk n sop h body ams) n sop 15 (h :: body) ∧ (s.vdmAsk n sop h body ams).regs = s.regs ∧
    ((s.vdmAsk n sop h body ams).port n).fw =
      (let f := { (s.port n).fw.build (s.freeTx n) (plainMsg sop 15 (h :: body) ams .plain) with outbox := [] }
       if sop = 0 then { f with vdm := some (s.askOf n sop h body) } else { f with cbl := some (s.askOf n sop h body) }) := by
  obtain ⟨⟨htok, hread, hqueue⟩, hregs, hfw⟩ := State.fwSendFor_sends hs sop 15 (h :: body) ams .plain (by rw [List.length_cons]; omega)
  have hdef : s.vdmAsk n sop h body ams = (s.fwSendFor n sop 15 (h :: body) ams .plain).modFw n
      fun f => if sop = 0 then { f with vdm := some (s.askOf n sop h body) } else { f with cbl := some (s.askOf n sop h body) } := rfl
  rw [hdef]
  generalize s.fwSendFor n sop 15 (h :: body) ams .plain = t at *
  refine ⟨⟨htok, hread, ?_⟩, hregs, ?_⟩
  · simpa [State.modFw] using hqueue
  · simp only [State.modFw, State.port_modPort_same, hfw]

/-- Discovery that starts (R244). -/
theorem State.discStart_sends {n : Port} (hs : s.MaySend n) : s.Sent (s.discStart n) n 0 15 [vdmHdr 0xFF00 0 0 1] ∧
    (s.discStart n).fld (pVDM n) VDM.DISC_STAT_DISC = 2 ∧
    (((s.discStart n).port n).fw.vdm.map fun q => (q.sop, q.hdr, q.body, q.again, q.busy)) = some (0, vdmHdr 0xFF00 0 0 1, [], false, false) ∧
    ((s.discStart n).port n).fw.discGen = some (s.gen n) ∧ ((s.discStart n).port n).fw.modes = [] ∧ ((s.discStart n).port n).fw.todo = [] := by
  have hdef : s.discStart n = ((s.put (pVDM n) VDM.DISC_STAT_DISC 2).modFw n fun f =>
      { f with discGen := some (s.gen n), modes := [], todo := [], svids := [] }).vdmAsk n 0 (vdmHdr 0xFF00 0 0 1) [] true := rfl
  rw [hdef]
  have hu : ((s.put (pVDM n) VDM.DISC_STAT_DISC 2).modFw n fun f => { f with discGen := some (s.gen n), modes := [], todo := [], svids := [] }).MaySend n := by
    simp -implicitDefEqProofs (disch := (clear * -; decide +revert)) [State.MaySend, State.enabled, State.modFw]
    exact hs
  obtain ⟨hsent, hregs, hfw⟩ := State.vdmAsk_sends hu 0 (vdmHdr 0xFF00 0 0 1) [] true (by decide)
  generalize hv : (s.put (pVDM n) VDM.DISC_STAT_DISC 2).modFw n (fun f => { f with discGen := some (s.gen n), modes := [], todo := [], svids := [] }) = u at *
  refine ⟨hsent.of_same ?_ ?_, ?_, ?_, ?_, ?_, ?_⟩
  · simp -implicitDefEqProofs (disch := (clear * -; decide +revert)) [← hv, State.modFw]
  · simp -implicitDefEqProofs (disch := (clear * -; decide +revert)) [← hv, State.gen]
  · rw [State.fld_of_regs hregs, ← hv]
    simp -implicitDefEqProofs (disch := (clear * -; decide +revert)) [State.fld_put_same, State.flag_put_same, State.flag_raise]
    rfl
  all_goals
    rw [hfw]
    simp -implicitDefEqProofs (disch := (clear * -; decide +revert)) [← hv, State.modFw, FwSt.build, State.askOf]

/-- The repetition of a request. -/
theorem State.repeat_sends {n : Port} (hs : s.MaySend n) {q : VdmReq} (hsop : q.sop = 0) (hb : q.body = []) (q2 : VdmReq) :
    let t := (s.fwSend n 0 15 (q.hdr :: q.body) false).modFw n fun f => { f with vdm := some q2 }
    s.Sent t n 0 15 [q.hdr] ∧ (t.port n).fw.vdm = some q2 ∧ t.regs = s.regs := by
  obtain ⟨⟨htok, hread, hqueue⟩, hregs, -⟩ := State.fwSendFor_sends hs 0 15 [q.hdr] false .plain (by simp)
  have hdef : s.fwSend n 0 15 (q.hdr :: q.body) false = s.fwSendFor n 0 15 [q.hdr] false .plain := by rw [hb, State.fwSend]
  rw [hdef]
  generalize s.fwSendFor n 0 15 [q.hdr] false .plain = t at *
  exact ⟨⟨htok, hread, by simpa [State.modFw] using hqueue⟩, by simp [State.modFw], hregs⟩

/-- The end of a sequence touches the protocol layer alone. -/
theorem State.amsDone_regs (u : State) {n : Port} : (u.amsDone n).regs = u.regs := by
  unfold State.amsDone State.amsEnd
  split
  · split <;> rfl
  · rfl

theorem State.amsDone_store (u : State) {n : Port} : (u.amsDone n).store = u.store := by
  unfold State.amsDone State.amsEnd
  split
  · split <;> rfl
  · rfl

theorem State.amsDone_fw (u : State) {n : Port} : ((u.amsDone n).port n).fw = (u.port n).fw := by
  unfold State.amsDone State.amsEnd
  split
  · split
    · simp [State.modPdl]
    · rfl
  · rfl

/-- Enter Mode sent: the multiplexer goes to the safe state (R248). -/
theorem State.enterMode_sends {n : Port} (hs : s.MaySend n) (v p : Nat) (ams : Bool) : s.Sent (s.enterMode n v p ams) n 0 15 [vdmHdr v p 0 4] ∧
    ((s.enterMode n v p ams).port n).fw.mux = 0 ∧
    (((s.enterMode n v p ams).port n).fw.vdm.map fun q => (q.sop, q.hdr, q.body)) = some (0, vdmHdr v p 0 4, []) ∧ (s.enterMode n v p ams).regs = s.regs := by
  have hu : (s.modFw n fun f => { f with mux := 0 }).MaySend n := ⟨hs.1, by simpa [State.modFw] using hs.2.1, by simpa [State.modFw] using hs.2.2⟩
  obtain ⟨hsent, hregs, hfw⟩ := State.vdmAsk_sends hu 0 (vdmHdr v p 0 4) [] ams (by simp)
  have hdef : s.enterMode n v p ams = (s.modFw n fun f => { f with mux := 0 }).vdmAsk n 0 (vdmHdr v p 0 4) [] ams := rfl
  rw [hdef]
  refine ⟨hsent.of_same (by simp [State.modFw]) rfl, ?_, ?_, hregs⟩
  · rw [hfw]
    simp [State.modFw, FwSt.build]
  · rw [hfw]
    simp [State.askOf]

/-- The record of a mode that is over: its first eight bytes are 0 (R254). -/
theorem State.modeRecord_clear {n : Port} (hmode : s.rd (pVDM n) 0x8C = 0) (hcfg : s.rd (pVDM n) 0x98 = 0) :
    (s.modeRecord n).aosRead (0x100 + 16 * n.val) 8 = List.replicate 8 0 := by
  unfold State.modeRecord
  extract_lets body
  have hbody : body = [] ++ List.replicate 8 0 ++ (leBytes 4 (s.rd (pVDM n) 0x34).toNat ++ leBytes 2 0) := by
    unfold body
    rw [hmode, hcfg]
    rfl
  rw [State.aosRead, State.aosWrite, hbody]
  exact Sparse.getList_setList_mid ramDflt [] (List.replicate 8 0) _ s.aos (0x100 + 16 * n.val)

/-- Discovery starts. -/
theorem discovery_starts (s : State) (n : Port) (hfw : s.fw = true) (hdfp : s.isDfp n = true) (hexp : s.explicit n = true) (htrans : s.snapTrans n = false) (hen : s.flag (pVDM n) VDM.CFG_DISC_EN = true) (hgen : (s.port n).fw.discGen ≠ some (s.gen n)) (hs : s.MaySend n) :
    Leads (exec (.discovery n none false) s) fun t => s.Frame t [pVDM n] [(pPDL n, 0x10)] [portBytes n] [modeBytes n] ∧ s.Sent t n 0 15 [vdmHdr 0xFF00 0 0 1] ∧ t.fld (pVDM n) VDM.DISC_STAT_DISC = 2 ∧ (t.port n).fw.vdm.map (fun q => (q.sop, q.hdr, q.body, q.again, q.busy)) = some (0, vdmHdr 0xFF00 0 0 1, [], false, false) ∧ (t.port n).fw.discGen = some (s.gen n) ∧ (t.port n).fw.modes = [] ∧ (t.port n).fw.todo = [] := by
  have e : exec (.discovery n none false) s = .next (s.discStart n) := by
    refine congrArg Host.Outcome.next ((if_pos hfw).trans ?_)
    simp [hdfp, hexp, htrans, hen, hs.1, hgen]
  exact ⟨_, e, Frame.of e (execDiscovery_touches n none false (inRegs_page (by simp)) (by simp [inRegs])) (execDiscovery_stores n none false (inBytes_mode n (by simp)) (inBytes_store (portBytes n) (by simp))) (execDiscovery_answers n none false) (by clear * -; decide +revert), State.discStart_sends hs⟩

/-- Discovery of a cable. -/
theorem discovery_asks_cable (s : State) (n : Port) (hfw : s.fw = true) (hcfg : s.flag (pVDM n) VDM.CFG_CBL_DISC = true) (hok : s.cableOk n 1 = true) (hknown : s.flag (pVDM n) VDM.DISC_STAT_CBL_KNOWN = false) (htries : (s.port n).fw.cblTries < 20) (hcbl : (s.port n).fw.cbl = none) (hs : s.MaySend n) :
    Leads (exec (.discovery n none true) s) fun t => s.Frame t [pVDM n] [(pPDL n, 0x10)] [portBytes n] [modeBytes n] ∧ s.Sent t n 1 15 [vdmHdr 0xFF00 0 0 1] ∧ (t.port n).fw.cblTries = (s.port n).fw.cblTries + 1 ∧ (t.port n).fw.cbl.map (fun q => (q.sop, q.hdr, q.body)) = some (1, vdmHdr 0xFF00 0 0 1, []) ∧ (t.port n).fw.vdm = (s.port n).fw.vdm ∧ 1 ≤ t.fld (pVDM n) VDM.DISC_STAT_DISC := by
  let w : State := if s.fld (pVDM n) VDM.DISC_STAT_DISC = 0 then s.put (pVDM n) VDM.DISC_STAT_DISC 1 else s
  let u : State := w.modFw n fun f => { f with cblTries := f.cblTries + 1 }
  have e : exec (.discovery n none true) s = .next (u.vdmAsk n 1 (vdmHdr 0xFF00 0 0 1) [] (w.explicit n)) := by
    refine congrArg Host.Outcome.next ((if_pos hfw).trans ?_)
    simp [hcbl, State.cableAsk, hcfg, hs.1, hok, hknown, htries, u, w]
  have hw : w.ports = s.ports ∧ w.enabled (pPDL n) = s.enabled (pPDL n) ∧ w.gen n = s.gen n ∧ 1 ≤ w.fld (pVDM n) VDM.DISC_STAT_DISC := by
    unfold w
    split
    · refine ⟨by simp -implicitDefEqProofs (disch := (clear * -; decide +revert)) [], by simp -implicitDefEqProofs (disch := (clear * -; decide +revert)) [State.enabled], by simp -implicitDefEqProofs (disch := (clear * -; decide +revert)) [State.gen], ?_⟩
      simp -implicitDefEqProofs (disch := (clear * -; decide +revert)) [State.fld_put_same, State.flag_put_same, State.flag_raise]
    · exact ⟨rfl, rfl, rfl, by omega⟩
  clear_value w
  obtain ⟨hports, hen, hgen, hdisc⟩ := hw
  have hport : w.port n = s.port n := by rw [State.port, hports, ← State.port]
  have hu : u.MaySend n := by
    refine ⟨(?_ : w.enabled (pPDL n) = true), ?_, ?_⟩
    · rw [hen]
      exact hs.1
    · simpa [u, State.modFw, hport] using hs.2.1
    · simpa [u, State.modFw, hport] using hs.2.2
  obtain ⟨hsent, hregs, hfw'⟩ := State.vdmAsk_sends hu 1 (vdmHdr 0xFF00 0 0 1) [] (w.explicit n) (by decide)
  refine ⟨_, e, Frame.of e (execDiscovery_touches n none true (inRegs_page (by simp)) (by simp [inRegs])) (execDiscovery_stores n none true (inBytes_mode n (by simp)) (inBytes_store (portBytes n) (by simp))) (execDiscovery_answers n none true) (by clear * -; decide +revert), hsent.of_same ?_ hgen, ?_, ?_, ?_, ?_⟩
  · simp [u, State.modFw, hport]
  · rw [hfw']
    simp [u, State.modFw, FwSt.build, hport]
  · rw [hfw']
    simp [State.askOf]
  · rw [hfw']
    simp [u, State.modFw, FwSt.build, hport]
  · rw [State.fld_of_regs hregs]
    exact hdisc

/-- An identity acknowledged. -/
theorem discovery_identity (s : State) (n : Port) (i : Fin 64) (q : VdmReq) (hfw : s.fw = true) (huse : s.rxUsable n i.val = true) (hdata : isData (s.rxHdr n i.val) 15 = true) (hq : (s.port n).fw.vdm = some q) (hsop : q.sop = 0) (hrx : s.stNat (rxRecAt n i.val + 2) 1 % 4 = 0) (hcmd : vdmCmd q.hdr = 1) (hsvid : vdmSvid q.hdr = 0xFF00) (hobj : s.rxObj n i.val 0 = vdmHdr 0xFF00 0 1 1) (hs : s.MaySend n) :
    Leads (exec (.discovery n (some i) false) s) fun t => s.Frame t [pVDM n] [(pPDL n, 0x10)] [portBytes n] [modeBytes n] ∧ t.rd (pVDM n) 0x64 = (s.rxObjs n i.val).getD 1 0 ∧ t.fld (pVDM n) VDM.DISC_STAT_DISC = 3 ∧ s.Sent t n 0 15 [vdmHdr 0xFF00 0 0 2] := by
  let v : State := s.modFw n fun f => { f with vdm := none }
  let w : State := (((v.wr (pVDM n) 0x64 ((s.rxObjs n i.val).getD 1 0)).wr (pVDM n) 0x68 ((s.rxObjs n i.val).getD 2 0)).wr (pVDM n) 0x6C
    ((s.rxObjs n i.val).getD 3 0)).wr (pVDM n) 0x70 ((s.rxObjs n i.val).getD 4 0)
  let u : State := ((w.put (pVDM n) VDM.DISC_STAT_DISC 3).put (pVDM n) VDM.DISC_STAT_SVID_CNT 0).put (pVDM n) VDM.DISC_STAT_SVID_MORE 0
  have e : exec (.discovery n (some i) false) s = .next (u.vdmAsk n 0 (vdmHdr 0xFF00 0 0 2) [] false) := by
    refine congrArg Host.Outcome.next ((if_pos hfw).trans ?_)
    have hack : vdmStruct (vdmHdr 0xFF00 0 1 1) = true ∧ vdmType (vdmHdr 0xFF00 0 1 1) = 1 ∧ vdmCmd (vdmHdr 0xFF00 0 1 1) = 1 ∧ vdmSvid (vdmHdr 0xFF00 0 1 1) = 0xFF00 := by
      decide
    obtain ⟨hstruct, htype, hcmd', hsvid'⟩ := hack
    simp [huse, hdata, hobj, State.vdmResponse, hq, hsop, hrx, hcmd, hsvid, hstruct, htype, hcmd', hsvid', u, w, v]
  have hport : u.port n = v.port n := by simp -implicitDefEqProofs (disch := (clear * -; decide +revert)) [u, w]
  have hu : u.MaySend n := by
    refine ⟨?_, ?_, ?_⟩
    · simp -implicitDefEqProofs (disch := (clear * -; decide +revert)) [State.enabled, u, w, v, State.rd_wr_ne, State.fld_wr_ne, State.flag_wr_ne, State.rd_put_ne, State.rd_raise_ne]
      exact hs.1
    · rw [hport]
      simpa [v, State.modFw] using hs.2.1
    · rw [hport]
      simpa [v, State.modFw] using hs.2.2
  obtain ⟨hsent, hregs, -⟩ := State.vdmAsk_sends hu 0 (vdmHdr 0xFF00 0 0 2) [] false (by decide)
  refine ⟨_, e, Frame.of e (execDiscovery_touches n (some i) false (inRegs_page (by simp)) (by simp [inRegs])) (execDiscovery_stores n (some i) false (inBytes_mode n (by simp)) (inBytes_store (portBytes n) (by simp))) (execDiscovery_answers n (some i) false) (by clear * -; decide +revert), ?_, ?_, hsent.of_same ?_ ?_⟩
  · rw [State.rd_of_regs hregs]
    simp -implicitDefEqProofs (disch := (clear * -; decide +revert)) [u, w, State.rd_wr_ne, State.fld_wr_ne, State.flag_wr_ne, State.rd_put_ne, State.rd_raise_ne]
  · rw [State.fld_of_regs hregs]
    simp -implicitDefEqProofs (disch := (clear * -; decide +revert)) [u, State.fld_put_same, State.flag_put_same, State.flag_raise]
    rfl
  · rw [hport]
    simp [v, State.modFw]
  · simp -implicitDefEqProofs (disch := (clear * -; decide +revert)) [u, w, v, State.gen, State.rd_wr_ne, State.fld_wr_ne, State.flag_wr_ne, State.rd_put_ne, State.rd_raise_ne]

/-- A request that is repeated. -/
theorem vdmResponseTimeout_repeats (s : State) (n : Port) (q : VdmReq) (hfw : s.fw = true) (hq : (s.port n).fw.vdm = some q) (hsop : q.sop = 0) (hcmd : vdmCmd q.hdr ≤ 3) (hagain : q.again = false) (hbusy : q.busy = false) (hb : q.body = []) (hs : s.MaySend n) :
    Leads (exec (.vdmResponseTimeout n false) s) fun t => s.Frame t [] [(pPDL n, 0x10), (pVDM n, 0x10), (pVDM n, 0x98), (pVDM n, 0x94), (pVDM n, 0x8C), (pVDM n, 0x60)] [portBytes n] [modeBytes n] ∧ s.Sent t n 0 15 [q.hdr] ∧ (t.port n).fw.vdm = some { q with again := true, waitUs := s.vdmWaitUs n q.hdr } ∧ t.regs = s.regs := by
  have e : exec (.vdmResponseTimeout n false) s = .next (s.vdmTimeout n q) := by
    refine congrArg Host.Outcome.next ((if_pos hfw).trans ?_)
    simp [hq]
  have hrep : s.vdmTimeout n q = (s.fwSend n 0 15 (q.hdr :: q.body) false).modFw n fun f =>
      { f with vdm := some { q with again := true, busy := false, waitUs := s.vdmWaitUs n q.hdr } } := by
    simp [State.vdmTimeout, hbusy, hagain, hcmd, show vdmCmd q.hdr ≠ 5 by omega]
  obtain ⟨hsent, hvdm, hregs⟩ := State.repeat_sends hs hsop hb { q with again := true, busy := false, waitUs := s.vdmWaitUs n q.hdr }
  rw [hrep] at e
  exact ⟨_, e, Frame.of e (execVdmResponseTimeout_touches n false (by simp [inRegs]) (by simp [inRegs]) (by simp [inRegs]) (by simp [inRegs]) (by simp [inRegs]) (by simp [inRegs])) (execVdmResponseTimeout_stores n false (inBytes_store (portBytes n) (by simp)) (inBytes_mode n (by simp))) (execVdmResponseTimeout_answers n false) (by clear * -; decide +revert), hsent, by rw [hvdm, hbusy], hregs⟩

/-- A discovery that fails. -/
theorem vdmResponseTimeout_fails (s : State) (n : Port) (q : VdmReq) (hfw : s.fw = true) (hq : (s.port n).fw.vdm = some q) (hsop : q.sop = 0) (hcmd : vdmCmd q.hdr ≤ 3) (hagain : q.again = true) (hbusy : q.busy = false) :
    Leads (exec (.vdmResponseTimeout n false) s) fun t => s.Frame t [] [(pPDL n, 0x10), (pVDM n, 0x10), (pVDM n, 0x98), (pVDM n, 0x94), (pVDM n, 0x8C), (pVDM n, 0x60)] [portBytes n] [modeBytes n] ∧ t.fld (pVDM n) VDM.DISC_STAT_DISC = 6 ∧ t.flag (pVDM n) VDM.PG_EVT_DISC_FAIL = true ∧ (t.port n).fw.vdm = none := by
  let u : State := ((s.put (pVDM n) VDM.DISC_STAT_DISC 6).modFw n fun f => { f with vdm := none, todo := [] }).vdmEvt n VDM.PG_EVT_DISC_FAIL
  have e : exec (.vdmResponseTimeout n false) s = .next (s.discEnd n false) := by
    refine congrArg Host.Outcome.next ((if_pos hfw).trans ?_)
    simp [hq, State.vdmTimeout, hbusy, hagain, hcmd, show vdmCmd q.hdr ≠ 5 by omega]
  have hdisc : u.fld (pVDM n) VDM.DISC_STAT_DISC = 6 := by
    simp -implicitDefEqProofs (disch := (clear * -; decide +revert)) [u, State.vdmEvt, State.fld_put_same, State.flag_put_same, State.flag_raise]
    rfl
  have hauto : u.autoNow n = none := by
    simp [State.autoNow, hdisc]
  have hend : s.discEnd n false = u.amsDone n := by
    show (if (u.autoNow n).any _ then u else u.amsDone n) = u.amsDone n
    rw [hauto]
    rfl
  rw [hend] at e
  refine ⟨_, e, Frame.of e (execVdmResponseTimeout_touches n false (by simp [inRegs]) (by simp [inRegs]) (by simp [inRegs]) (by simp [inRegs]) (by simp [inRegs]) (by simp [inRegs])) (execVdmResponseTimeout_stores n false (inBytes_store (portBytes n) (by simp)) (inBytes_mode n (by simp))) (execVdmResponseTimeout_answers n false) (by clear * -; decide +revert), ?_, ?_, ?_⟩
  · exact (State.fld_of_regs u.amsDone_regs _ _).trans hdisc
  · refine (State.flag_of_regs u.amsDone_regs _ _).trans ?_
    simp -implicitDefEqProofs (disch := (clear * -; decide +revert)) [u, State.vdmEvt, State.fld_put_same, State.flag_put_same, State.flag_raise]
  · rw [State.amsDone_fw]
    simp [u, State.vdmEvt, State.modFw]

/-- A request sent again after BUSY. -/
theorem vdmResponseTimeout_busy (s : State) (n : Port) (q : VdmReq) (hfw : s.fw = true) (hq : (s.port n).fw.vdm = some q) (hsop : q.sop = 0) (hbusy : q.busy = true) (hb : q.body = []) (hs : s.MaySend n) :
    Leads (exec (.vdmResponseTimeout n false) s) fun t => s.Frame t [] [(pPDL n, 0x10), (pVDM n, 0x10), (pVDM n, 0x98), (pVDM n, 0x94), (pVDM n, 0x8C), (pVDM n, 0x60)] [portBytes n] [modeBytes n] ∧ s.Sent t n 0 15 [q.hdr] ∧ (t.port n).fw.vdm = some { q with again := false, busy := false, waitUs := s.vdmWaitUs n q.hdr } ∧ t.regs = s.regs := by
  have e : exec (.vdmResponseTimeout n false) s = .next (s.vdmTimeout n q) := by
    refine congrArg Host.Outcome.next ((if_pos hfw).trans ?_)
    simp [hq]
  have hrep : s.vdmTimeout n q = (s.fwSend n 0 15 (q.hdr :: q.body) false).modFw n fun f =>
      { f with vdm := some { q with again := false, busy := false, waitUs := s.vdmWaitUs n q.hdr } } := by
    simp [State.vdmTimeout, hbusy]
  rw [hrep] at e
  exact ⟨_, e, Frame.of e (execVdmResponseTimeout_touches n false (by simp [inRegs]) (by simp [inRegs]) (by simp [inRegs]) (by simp [inRegs]) (by simp [inRegs]) (by simp [inRegs])) (execVdmResponseTimeout_stores n false (inBytes_store (portBytes n) (by simp)) (inBytes_mode n (by simp))) (execVdmResponseTimeout_answers n false) (by clear * -; decide +revert), State.repeat_sends hs hsop hb _⟩

/-- Enter Mode without an answer. -/
theorem vdmResponseTimeout_enter (s : State) (n : Port) (q : VdmReq) (hfw : s.fw = true) (hq : (s.port n).fw.vdm = some q) (hbusy : q.busy = false) (hcmd : vdmCmd q.hdr = 4) :
    Leads (exec (.vdmResponseTimeout n false) s) fun t => s.Frame t [] [(pPDL n, 0x10), (pVDM n, 0x10), (pVDM n, 0x98), (pVDM n, 0x94), (pVDM n, 0x8C), (pVDM n, 0x60)] [portBytes n] [modeBytes n] ∧ (t.port n).fw.vdm = none ∧ (t.port n).fw.mux = 1 ∧ t.store = s.store := by
  have e : exec (.vdmResponseTimeout n false) s = .next ((s.modFw n fun f => { f with vdm := none, mux := 1 }).amsDone n) := by
    refine congrArg Host.Outcome.next ((if_pos hfw).trans ?_)
    simp [hq, State.vdmTimeout, hbusy, hcmd]
  exact ⟨_, e, Frame.of e (execVdmResponseTimeout_touches n false (by simp [inRegs]) (by simp [inRegs]) (by simp [inRegs]) (by simp [inRegs]) (by simp [inRegs]) (by simp [inRegs])) (execVdmResponseTimeout_stores n false (inBytes_store (portBytes n) (by simp)) (inBytes_mode n (by simp))) (execVdmResponseTimeout_answers n false) (by clear * -; decide +revert), by rw [State.amsDone_fw]; simp [State.modFw], by rw [State.amsDone_fw]; simp [State.modFw], State.amsDone_store _⟩

/-- A cable without an answer. -/
theorem vdmResponseTimeout_cable (s : State) (n : Port) (q : VdmReq) (hfw : s.fw = true) (hq : (s.port n).fw.cbl = some q) (hbusy : q.busy = false) :
    Leads (exec (.vdmResponseTimeout n true) s) fun t => s.Frame t [] [(pPDL n, 0x10), (pVDM n, 0x10), (pVDM n, 0x98), (pVDM n, 0x94), (pVDM n, 0x8C), (pVDM n, 0x60)] [portBytes n] [modeBytes n] ∧ (t.port n).fw.cbl = none ∧ (t.port n).fw.vdm = (s.port n).fw.vdm ∧ t.regs = s.regs ∧ t.store = s.store := by
  have e : exec (.vdmResponseTimeout n true) s = .next ((s.modFw n fun f => { f with cbl := none }).amsDone n) := by
    refine congrArg Host.Outcome.next ((if_pos hfw).trans ?_)
    simp [hq, State.cableTimeout, hbusy]
  exact ⟨_, e, Frame.of e (execVdmResponseTimeout_touches n true (by simp [inRegs]) (by simp [inRegs]) (by simp [inRegs]) (by simp [inRegs]) (by simp [inRegs]) (by simp [inRegs])) (execVdmResponseTimeout_stores n true (inBytes_store (portBytes n) (by simp)) (inBytes_mode n (by simp))) (execVdmResponseTimeout_answers n true) (by clear * -; decide +revert), by rw [State.amsDone_fw]; simp [State.modFw], by rw [State.amsDone_fw]; simp [State.modFw], State.amsDone_regs _,
    State.amsDone_store _⟩

/-- Automatic entry. -/
theorem modeEntryAuto_enters (s : State) (n : Port) (v p : Nat) (hfw : s.fw = true) (hauto : s.flag (pVDM n) VDM.CFG_ENTER_AUTO = true) (hdfp : s.isDfp n = true) (hdisc : s.fld (pVDM n) VDM.DISC_STAT_DISC = 5) (hvalid : s.flag (pVDM n) VDM.MODE_VALID = false) (hnone : (s.port n).fw.vdm = none) (hmode : s.autoMode n = some (v, p)) (hs : s.MaySend n) :
    Leads (exec (.modeEntryAuto n) s) fun t => s.Frame t [] [(pPDL n, 0x10)] [portBytes n] [] ∧ s.Sent t n 0 15 [vdmHdr v p 0 4] ∧ (t.port n).fw.mux = 0 ∧ (t.port n).fw.vdm.map (fun q => (q.sop, q.hdr, q.body)) = some (0, vdmHdr v p 0 4, []) ∧ t.regs = s.regs := by
  have hnow : s.autoNow n = some (v, p) := by
    simp [State.autoNow, hauto, hdfp, hdisc, hvalid, hnone, hmode]
  have e : exec (.modeEntryAuto n) s = .next (s.enterMode n v p (v != 0xFF01)) := by
    refine congrArg Host.Outcome.next ((if_pos hfw).trans ?_)
    simp only [hnow]
  exact ⟨_, e, Frame.of e (execModeEntryAuto_touches n (by simp [inRegs])) (execModeEntryAuto_stores n (inBytes_store (portBytes n) (by simp))) (execModeEntryAuto_answers n) (by clear * -; decide +revert), State.enterMode_sends hs v p _⟩

/-- The REDISCOVER command. -/
theorem vdmCmdRediscover_starts (s : State) (n : Port) (key : BitVec 16) (ht : s.Takes (pVDM n)) (hfw : s.fw = true) (hkey : key.toNat = 0x7D1E) (hdfp : s.isDfp n = true) (hexp : s.explicit n = true) (hs : s.MaySend n) :
    Leads (exec (.vdmCmdRediscover n key) s) fun t => s.Frame t [] [(pVDM n, 0x10), (pVDM n, 0x60), (pPDL n, 0x10)] [portBytes n] [] ∧ s.Sent t n 0 15 [vdmHdr 0xFF00 0 0 1] ∧ t.fld (pVDM n) VDM.DISC_STAT_DISC = 2 ∧ (t.port n).fw.modes = [] := by
  have e : exec (.vdmCmdRediscover n key) s = .next (s.discStart n) := by
    refine congrArg Host.Outcome.next ((State.keyCmd_takes ht hkey _).trans ((if_pos hfw).trans ?_))
    exact if_pos (by rw [hdfp, hexp]; rfl)
  obtain ⟨hsent, hdisc, -, -, hmodes, -⟩ := State.discStart_sends hs
  exact ⟨_, e, Frame.of e (execVdmCmdRediscover_touches n key (by simp [inRegs]) (by simp [inRegs]) (by simp [inRegs])) (execVdmCmdRediscover_stores n key (inBytes_store (portBytes n) (by simp))) (execVdmCmdRediscover_answers n key) (by clear * -; decide +revert), hsent, hdisc, hmodes⟩

/-- The ENTER command. -/
theorem vdmCmdEnter_sends (s : State) (n : Port) (key : BitVec 16) (vdo : Word) (ht : s.Takes (pVDM n)) (hfw : s.fw = true) (hkey : key.toNat = 0x7D1E) (hdfp : s.isDfp n = true) (hvalid : s.flag (pVDM n) VDM.MODE_VALID = false) (hmem : (s.fld (pVDM n) VDM.ENTER_SEL_SVID, s.fld (pVDM n) VDM.ENTER_SEL_POS, vdo) ∈ (s.port n).fw.modes) (hs : s.MaySend n) :
    Leads (exec (.vdmCmdEnter n key) s) fun t => s.Frame t [] [(pVDM n, 0x10), (pVDM n, 0x60), (pPDL n, 0x10)] [portBytes n] [] ∧ s.Sent t n 0 15 [vdmHdr (s.fld (pVDM n) VDM.ENTER_SEL_SVID) (s.fld (pVDM n) VDM.ENTER_SEL_POS) 0 4] ∧ (t.port n).fw.mux = 0 ∧ t.regs = s.regs := by
  have hany : ((s.port n).fw.modes.any fun m => m.1 == s.fld (pVDM n) VDM.ENTER_SEL_SVID && m.2.1 == s.fld (pVDM n) VDM.ENTER_SEL_POS) = true :=
    List.any_eq_true.2 ⟨_, hmem, by simp⟩
  have e : exec (.vdmCmdEnter n key) s = .next (s.enterMode n (s.fld (pVDM n) VDM.ENTER_SEL_SVID) (s.fld (pVDM n) VDM.ENTER_SEL_POS) true) := by
    refine congrArg Host.Outcome.next ((State.keyCmd_takes ht hkey _).trans ((if_pos hfw).trans ?_))
    exact (if_neg (by rw [hvalid, hany]; decide)).trans (if_pos hdfp)
  obtain ⟨hsent, hmux, -, hregs⟩ := State.enterMode_sends hs (s.fld (pVDM n) VDM.ENTER_SEL_SVID) (s.fld (pVDM n) VDM.ENTER_SEL_POS) true
  exact ⟨_, e, Frame.of e (execVdmCmdEnter_touches n key (by simp [inRegs]) (by simp [inRegs]) (by simp [inRegs])) (execVdmCmdEnter_stores n key (inBytes_store (portBytes n) (by simp))) (execVdmCmdEnter_answers n key) (by clear * -; decide +revert), hsent, hmux, hregs⟩

/-- ENTER with a mode entered. -/
theorem vdmCmdEnter_refuses (s : State) (n : Port) (key : BitVec 16) (ht : s.Takes (pVDM n)) (hfw : s.fw = true) (hkey : key.toNat = 0x7D1E) (hvalid : s.flag (pVDM n) VDM.MODE_VALID = true) :
    Leads (exec (.vdmCmdEnter n key) s) fun t => s.Frame t [] [(pVDM n, 0x10), (pVDM n, 0x60), (pPDL n, 0x10)] [portBytes n] [] ∧ t.flag (pVDM n) VDM.DISC_STAT_CMD_ERR = true ∧ t.ports = s.ports ∧ t.store = s.store := by
  have e : exec (.vdmCmdEnter n key) s = .next (s.put (pVDM n) VDM.DISC_STAT_CMD_ERR 1) := by
    refine congrArg Host.Outcome.next ((State.keyCmd_takes ht hkey _).trans ((if_pos hfw).trans ?_))
    exact if_pos (by rw [hvalid]; rfl)
  exact ⟨_, e, Frame.of e (execVdmCmdEnter_touches n key (by simp [inRegs]) (by simp [inRegs]) (by simp [inRegs])) (execVdmCmdEnter_stores n key (inBytes_store (portBytes n) (by simp))) (execVdmCmdEnter_answers n key) (by clear * -; decide +revert), by simp -implicitDefEqProofs (disch := (clear * -; decide +revert)) [State.fld_put_same, State.flag_put_same, State.flag_raise], by simp -implicitDefEqProofs (disch := (clear * -; decide +revert)) [], by simp -implicitDefEqProofs (disch := (clear * -; decide +revert)) []⟩

/-- The EXIT command. -/
theorem vdmCmdExit_sends (s : State) (n : Port) (key : BitVec 16) (ht : s.Takes (pVDM n)) (hfw : s.fw = true) (hkey : key.toNat = 0x7D1E) (hvalid : s.flag (pVDM n) VDM.MODE_VALID = true) (hs : s.MaySend n) :
    Leads (exec (.vdmCmdExit n key) s) fun t => s.Frame t [] [(pVDM n, 0x10), (pPDL n, 0x10)] [portBytes n] [] ∧ s.Sent t n 0 15 [vdmHdr (s.fld (pVDM n) VDM.MODE_SVID) (s.fld (pVDM n) VDM.MODE_POS) 0 5] ∧ t.regs = s.regs ∧ t.flag (pVDM n) VDM.MODE_VALID = true := by
  have e : exec (.vdmCmdExit n key) s = .next (s.vdmAsk n 0 (vdmHdr (s.fld (pVDM n) VDM.MODE_SVID) (s.fld (pVDM n) VDM.MODE_POS) 0 5) [] true) :=
    congrArg Host.Outcome.next ((State.keyCmd_takes ht hkey _).trans ((if_pos hfw).trans (if_pos hvalid)))
  obtain ⟨hsent, hregs, -⟩ := State.vdmAsk_sends hs 0 (vdmHdr (s.fld (pVDM n) VDM.MODE_SVID) (s.fld (pVDM n) VDM.MODE_POS) 0 5) [] true (by simp)
  exact ⟨_, e, Frame.of e (execVdmCmdExit_touches n key (by simp [inRegs]) (by simp [inRegs])) (execVdmCmdExit_stores n key (inBytes_store (portBytes n) (by simp))) (execVdmCmdExit_answers n key) (by clear * -; decide +revert), hsent, hregs, (State.flag_of_regs hregs _ _).trans hvalid⟩

/-- A mode that ends at a reset. -/
theorem modeEndAtReset_clears (s : State) (n : Port) (hfw : s.fw = true) (hvalid : s.flag (pVDM n) VDM.MODE_VALID = true) :
    Leads (exec (.modeEndAtReset n) s) fun t => s.Frame t [] [(pVDM n, 0x98), (pVDM n, 0x94), (pVDM n, 0x8C), (pVDM n, 0x60), (pVDM n, 0x10)] [] [modeBytes n] ∧ t.flag (pVDM n) VDM.MODE_VALID = false ∧ t.flag (pVDM n) VDM.PG_EVT_MODE_EXITED = true ∧ (t.port n).fw.mux = (s.pdAttached n).toNat ∧ t.fld (pVDM n) VDM.DISC_STAT_DP_STATE = 0 ∧ t.aosRead (0x100 + 16 * n.val) 8 = List.replicate 8 0 := by
  let u : State := (s.modeClear n (if s.pdAttached n then 1 else 0)).vdmEvt n VDM.PG_EVT_MODE_EXITED
  have e : exec (.modeEndAtReset n) s = .next (u.modeRecord n) := by
    refine congrArg Host.Outcome.next ((if_pos hfw).trans ?_)
    simp only [hvalid, if_true, u]
  have hu : u.flag (pVDM n) VDM.MODE_VALID = false ∧ u.flag (pVDM n) VDM.PG_EVT_MODE_EXITED = true ∧ (u.port n).fw.mux = (s.pdAttached n).toNat ∧
      u.fld (pVDM n) VDM.DISC_STAT_DP_STATE = 0 ∧ u.rd (pVDM n) 0x8C = 0 ∧ u.rd (pVDM n) 0x98 = 0 := by
    have hmode : u.rd (pVDM n) 0x8C = 0 := by
      simp -implicitDefEqProofs (disch := (clear * -; decide +revert)) [u, State.modeClear, State.vdmEvt, State.fld_put_same, State.flag_put_same, State.flag_raise, State.rd_wr_ne, State.fld_wr_ne, State.flag_wr_ne, State.rd_put_ne, State.rd_raise_ne]
    refine ⟨?_, ?_, ?_, ?_, hmode, ?_⟩
    · rw [State.flag, State.fld, show VDM.MODE_VALID.off = 0x8C from rfl, hmode]
      rfl
    · simp -implicitDefEqProofs (disch := (clear * -; decide +revert)) [u, State.modeClear, State.vdmEvt, State.fld_put_same, State.flag_put_same, State.flag_raise, State.rd_wr_ne, State.fld_wr_ne, State.flag_wr_ne, State.rd_put_ne, State.rd_raise_ne]
    · simp -implicitDefEqProofs (disch := (clear * -; decide +revert)) [u, State.modeClear, State.vdmEvt, State.modFw]
      cases s.pdAttached n <;> rfl
    · simp -implicitDefEqProofs (disch := (clear * -; decide +revert)) [u, State.modeClear, State.vdmEvt, State.fld_put_same, State.flag_put_same, State.flag_raise, State.rd_wr_ne, State.fld_wr_ne, State.flag_wr_ne, State.rd_put_ne, State.rd_raise_ne]
    · simp -implicitDefEqProofs (disch := (clear * -; decide +revert)) [u, State.modeClear, State.vdmEvt, State.fld_put_same, State.flag_put_same, State.flag_raise, State.rd_wr_ne, State.fld_wr_ne, State.flag_wr_ne, State.rd_put_ne, State.rd_raise_ne]
  clear_value u
  obtain ⟨hoff, hevt, hmux, hdp, hmode, hcfg⟩ := hu
  exact ⟨_, e, Frame.of e (execModeEndAtReset_touches n (by simp [inRegs]) (by simp [inRegs]) (by simp [inRegs]) (by simp [inRegs]) (by simp [inRegs])) (execModeEndAtReset_stores n (inBytes_mode n (by simp))) (execModeEndAtReset_answers n), hoff, hevt, hmux, hdp, State.modeRecord_clear hmode hcfg⟩

/-- A rising HPD input. -/
theorem ufpHpdSample_reports (s : State) (n : Port) (hfw : s.fw = true) (hdfp : s.isDfp n = false) (hvalid : s.flag (pVDM n) VDM.MODE_VALID = true) (hsvid : s.fld (pVDM n) VDM.MODE_SVID = 0xFF01) (hen : s.enabled pGPIO = true) (hlevel : (s.pins.gpio.getLsbD (s.fld (pVDM n) VDM.DP_CFG_HPD_SRC) != bitAt (s.rd pGPIO (0x20 + 4 * s.fld (pVDM n) VDM.DP_CFG_HPD_SRC)).toNat 12) = true) (hin : (s.port n).fw.hpdIn = false) (hlow : (s.port n).fw.hpdLow < 10) (hs : s.MaySend n) :
    Leads (exec (.ufpHpdSample n) s) fun t => s.Frame t [] [(pPDL n, 0x10)] [portBytes n] [] ∧ s.Sent t n 0 15 [vdmHdr 0xFF01 (s.fld (pVDM n) VDM.MODE_POS) 0 6, 129] ∧ (t.port n).fw.hpdIn = true ∧ (t.port n).fw.hpdLow = 0 ∧ t.regs = s.regs := by
  let u : State := s.modFw n fun f => { f with hpdIn := true, hpdLow := 0 }
  have e : exec (.ufpHpdSample n) s = .next (u.fwSend n 0 15 [vdmHdr 0xFF01 (s.fld (pVDM n) VDM.MODE_POS) 0 6, 129] false) := by
    refine congrArg Host.Outcome.next ((if_pos hfw).trans ?_)
    simp [hdfp, hvalid, hsvid, hen, hlevel, hin, Nat.not_le.2 hlow, u]
  have hu : u.MaySend n := ⟨hs.1, by simpa [u, State.modFw] using hs.2.1, by simpa [u, State.modFw] using hs.2.2⟩
  obtain ⟨hsent, hregs, hfw'⟩ := State.fwSendFor_sends hu 0 15 [vdmHdr 0xFF01 (s.fld (pVDM n) VDM.MODE_POS) 0 6, 129] false .plain (by simp)
  refine ⟨_, e, Frame.of e (execUfpHpdSample_touches n (by simp [inRegs])) (execUfpHpdSample_stores n (inBytes_store (portBytes n) (by simp))) (execUfpHpdSample_answers n) (by clear * -; decide +revert), hsent.of_same (by simp [u, State.modFw]) rfl, ?_, ?_, hregs⟩
  · rw [State.fwSend, hfw']
    simp [u, State.modFw, FwSt.build]
  · rw [State.fwSend, hfw']
    simp [u, State.modFw, FwSt.build]

/-- A VDM for the host. -/
theorem hostVdmPass_queues (s : State) (n : Port) (i : Fin 64) (hfw : s.fw = true) (huse : s.rxUsable n i.val = true) (hdata : isData (s.rxHdr n i.val) 15 = true) (hstruct : vdmStruct (s.rxObj n i.val 0) = false) (hpass : s.flag (pVDM n) VDM.CFG_HOST_PASS = true) (hroom : (s.fld (pVDM n) VDM.HOST_Q_WR + 1) % 8 ≠ s.fld (pVDM n) VDM.HOST_Q_RD) :
    Leads (exec (.hostVdmPass n i) s) fun t => s.Frame t [] [(pVDM n, 0x10), (pVDM n, 0x3C), (pPDL n, 0x10)] [portBytes n] [] ∧ t.fld (pVDM n) VDM.HOST_Q_WR = (s.fld (pVDM n) VDM.HOST_Q_WR + 1) % 8 ∧ t.flag (pVDM n) VDM.PG_EVT_HOST_Q = true ∧ t.stRead (0x4000 * n.val + 0x2400 + 64 * s.fld (pVDM n) VDM.HOST_Q_WR) 64 = s.stRead (rxRecAt n i.val) 64 := by
  let a : Nat := 0x4000 * n.val + 0x2400 + 64 * s.fld (pVDM n) VDM.HOST_Q_WR
  let bs : List Byte := s.stRead (rxRecAt n i.val) 64
  have e : exec (.hostVdmPass n i) s = .next (((s.stWrite a bs).put (pVDM n) VDM.HOST_Q_WR (s.fld (pVDM n) VDM.HOST_Q_WR + 1)).vdmEvt n VDM.PG_EVT_HOST_Q) := by
    refine congrArg Host.Outcome.next ((if_pos hfw).trans ?_)
    simp [huse, hdata, State.hostVdm, hstruct, hpass, hroom, a, bs]
  have hlen : bs.length = 64 := Sparse.length_getList _ _ _ _
  have hwr : s.fld (pVDM n) VDM.HOST_Q_WR < 8 := State.fld_lt _ _ _
  have ha : a + 64 ≤ storeTop := by
    have := n.isLt
    unfold a storeTop
    omega
  refine ⟨_, e, Frame.of e (execHostVdmPass_touches n i (by simp [inRegs]) (by simp [inRegs]) (by simp [inRegs])) (execHostVdmPass_stores n i (inBytes_store (portBytes n) (by simp))) (execHostVdmPass_answers n i) (by clear * -; decide +revert), ?_, ?_, ?_⟩
  · simp -implicitDefEqProofs (disch := (clear * -; decide +revert)) [State.vdmEvt, State.fld_put_same, State.flag_put_same, State.flag_raise]
    rfl
  · simp -implicitDefEqProofs (disch := (clear * -; decide +revert)) [State.vdmEvt, State.fld_put_same, State.flag_put_same, State.flag_raise]
  · have h := s.stRead_stWrite_mid [] bs [] (a := a) (by simpa [hlen] using ha)
    rw [List.append_nil, List.nil_append, hlen] at h
    exact h

/-- The host's VDM. -/
theorem hostTxGo_sends (s : State) (n : Port) (count : BitVec 3) (sop : BitVec 2) (ht : s.Takes (pVDM n)) (hfw : s.fw = true) (hgo : s.flag (pVDM n) VDM.HOST_TX_CTL_GO = false) (hatt : s.pdAttached n = true) (hstruct : vdmStruct (s.rd (pVDM n) 0x44) = false) (hcount : count = 2) (hsop : sop = 1) (hs : s.MaySend n) :
    Leads (exec (.hostTxGo n count sop) s) fun t => s.Frame t [] [(pVDM n, 0x40), (pVDM n, 0x10), (pPDL n, 0x10)] [portBytes n] [] ∧ s.Sent t n 1 15 [s.rd (pVDM n) 0x44, s.rd (pVDM n) 0x48] ∧ t.flag (pVDM n) VDM.HOST_TX_CTL_GO = true ∧ (t.port n).fw.hostTx = some (s.freeTx n) := by
  let w : State := ((s.put (pVDM n) VDM.HOST_TX_CTL_COUNT count.toNat).put (pVDM n) VDM.HOST_TX_CTL_SOP sop.toNat).put (pVDM n) VDM.HOST_TX_CTL_GO 1
  let u : State := w.modFw n fun f => { f with hostReq := some (1, s.rd (pVDM n) 0x44) }
  have hwregs : w.flag (pVDM n) VDM.HOST_TX_CTL_GO = true ∧ w.fld (pVDM n) VDM.HOST_TX_CTL_COUNT = 2 ∧ w.fld (pVDM n) VDM.HOST_TX_CTL_SOP = 1 ∧
      w.rd (pVDM n) 0x44 = s.rd (pVDM n) 0x44 ∧ w.rd (pVDM n) 0x48 = s.rd (pVDM n) 0x48 ∧ w.pdAttached n = s.pdAttached n ∧ w.enabled (pPDL n) = s.enabled (pPDL n) := by
    rw [show w = ((s.put (pVDM n) VDM.HOST_TX_CTL_COUNT 2).put (pVDM n) VDM.HOST_TX_CTL_SOP 1).put (pVDM n) VDM.HOST_TX_CTL_GO 1 by
      unfold w; rw [hcount, hsop]; rfl]
    refine ⟨?_, ?_, ?_, ?_, ?_, ?_, ?_⟩
    · simp -implicitDefEqProofs (disch := (clear * -; decide +revert)) [State.fld_put_same, State.flag_put_same, State.flag_raise]
    · simp -implicitDefEqProofs (disch := (clear * -; decide +revert)) [State.fld_put_same, State.flag_put_same, State.flag_raise]
      rfl
    · simp -implicitDefEqProofs (disch := (clear * -; decide +revert)) [State.fld_put_same, State.flag_put_same, State.flag_raise]
    · simp -implicitDefEqProofs (disch := (clear * -; decide +revert)) [State.rd_wr_ne, State.fld_wr_ne, State.flag_wr_ne, State.rd_put_ne, State.rd_raise_ne]
    · simp -implicitDefEqProofs (disch := (clear * -; decide +revert)) [State.rd_wr_ne, State.fld_wr_ne, State.flag_wr_ne, State.rd_put_ne, State.rd_raise_ne]
    · simp -implicitDefEqProofs (disch := (clear * -; decide +revert)) [State.pdAttached, State.ccState]
    · simp -implicitDefEqProofs (disch := (clear * -; decide +revert)) [State.enabled]
  obtain ⟨hwgo, hwcount, hwsop, h44, h48, hwatt, hwen⟩ := hwregs
  have hport : w.port n = s.port n := by simp -implicitDefEqProofs (disch := (clear * -; decide +revert)) [w]
  have hwfw : w.fw = true := by
    rw [← hfw]
    simp -implicitDefEqProofs (disch := (clear * -; decide +revert)) [w, State.fw, State.live, State.recovery]
  have hgen : w.gen n = s.gen n := by simp -implicitDefEqProofs (disch := (clear * -; decide +revert)) [w, State.gen]
  have e : exec (.hostTxGo n count sop) s = .next (u.fwSendFor n 1 15 [s.rd (pVDM n) 0x44, s.rd (pVDM n) 0x48] true .host) := by
    refine congrArg Host.Outcome.next ((State.cmd_takes ht _).trans ((if_neg (by simp [hgo])).trans ((if_pos hwfw).trans ?_)))
    have hobjs : (List.range 2).map (fun k => w.rd (pVDM n) (0x44 + 4 * k)) = [s.rd (pVDM n) 0x44, s.rd (pVDM n) 0x48] := by
      rw [← h44, ← h48]
      rfl
    change w.hostTxGo n = _
    simp [State.hostTxGo, hwcount, hwsop, h44, hwatt, hwen, hatt, hs.1, hstruct, hobjs, u]
  have hu : u.MaySend n := ⟨hwen.trans hs.1, by simpa [u, State.modFw, hport] using hs.2.1, by simpa [u, State.modFw, hport] using hs.2.2⟩
  clear_value w
  obtain ⟨hsent, hregs, hfw'⟩ := State.fwSendFor_sends hu 1 15 [s.rd (pVDM n) 0x44, s.rd (pVDM n) 0x48] true .host (by simp)
  have hqueue : (u.port n).pdl.queue = (s.port n).pdl.queue := by simp [u, State.modFw, hport]
  refine ⟨_, e, Frame.of e (execHostTxGo_touches n count sop (by simp [inRegs]) (by simp [inRegs]) (by simp [inRegs])) (execHostTxGo_stores n count sop (inBytes_store (portBytes n) (by simp))) (execHostTxGo_answers n count sop) (by clear * -; decide +revert), hsent.of_same hqueue hgen, (State.flag_of_regs hregs _ _).trans hwgo, ?_⟩
  rw [hfw']
  simp [FwSt.build, plainMsg, State.freeTx, hqueue]

/-- The host's VDM without a partner. -/
theorem hostTxGo_refuses (s : State) (n : Port) (count : BitVec 3) (sop : BitVec 2) (ht : s.Takes (pVDM n)) (hfw : s.fw = true) (hgo : s.flag (pVDM n) VDM.HOST_TX_CTL_GO = false) (hatt : s.pdAttached n = false) :
    Leads (exec (.hostTxGo n count sop) s) fun t => s.Frame t [] [(pVDM n, 0x40), (pVDM n, 0x10), (pPDL n, 0x10)] [portBytes n] [] ∧ t.fld (pVDM n) VDM.HOST_TX_CTL_STATUS = 8 ∧ t.flag (pVDM n) VDM.HOST_TX_CTL_GO = false ∧ t.flag (pVDM n) VDM.PG_EVT_HOST_TX_DONE = true ∧ t.store = s.store := by
  let w : State := ((s.put (pVDM n) VDM.HOST_TX_CTL_COUNT count.toNat).put (pVDM n) VDM.HOST_TX_CTL_SOP sop.toNat).put (pVDM n) VDM.HOST_TX_CTL_GO 1
  have hwfw : w.fw = true := by
    rw [← hfw]
    simp -implicitDefEqProofs (disch := (clear * -; decide +revert)) [w, State.fw, State.live, State.recovery]
  have hwatt : w.pdAttached n = false := by
    rw [← hatt]
    simp -implicitDefEqProofs (disch := (clear * -; decide +revert)) [w, State.pdAttached, State.ccState]
  have e : exec (.hostTxGo n count sop) s = .next (w.hostDone n 8) := by
    refine congrArg Host.Outcome.next ((State.cmd_takes ht _).trans ((if_neg (by simp [hgo])).trans ((if_pos hwfw).trans ?_)))
    change w.hostTxGo n = _
    simp [State.hostTxGo, hwatt]
  refine ⟨_, e, Frame.of e (execHostTxGo_touches n count sop (by simp [inRegs]) (by simp [inRegs]) (by simp [inRegs])) (execHostTxGo_stores n count sop (inBytes_store (portBytes n) (by simp))) (execHostTxGo_answers n count sop) (by clear * -; decide +revert), ?_, ?_, ?_, ?_⟩
  · simp -implicitDefEqProofs (disch := (clear * -; decide +revert)) [State.hostDone, State.fld_put_same, State.flag_put_same, State.flag_raise]
    rfl
  · simp -implicitDefEqProofs (disch := (clear * -; decide +revert)) [State.hostDone, State.fld_put_same, State.flag_put_same, State.flag_raise]
  · simp -implicitDefEqProofs (disch := (clear * -; decide +revert)) [State.hostDone, State.fld_put_same, State.flag_put_same, State.flag_raise]
  · simp -implicitDefEqProofs (disch := (clear * -; decide +revert)) [State.hostDone, w]

/-- Settles O47: each clause runs its task or command and reads what firmware sends and notes. -/
theorem vdmCommandsComplete : Obligations.VdmCommandsComplete := by
  unfold Obligations.VdmCommandsComplete
  exact ⟨discovery_starts, discovery_asks_cable, discovery_identity, vdmResponseTimeout_repeats, vdmResponseTimeout_fails, vdmResponseTimeout_busy, vdmResponseTimeout_enter, vdmResponseTimeout_cable, modeEntryAuto_enters, vdmCmdRediscover_starts, vdmCmdEnter_sends, vdmCmdEnter_refuses, vdmCmdExit_sends, modeEndAtReset_clears, ufpHpdSample_reports, hostVdmPass_queues, hostTxGo_sends, hostTxGo_refuses⟩

end Sys2Proof.Machine
end

section
/-!
PROOFS. What sending on a Hedgerow link leaves (R319, R322), and what wrapping and leaving UP leave (R323, R324).
-/

set_option Elab.async false

namespace Sys2Proof.Machine

variable {s : State}

@[simp] theorem State.link_modFleet (f : FleetSt → FleetSt) (m : Link) : (s.modFleet f).link m = s.link m := rfl

/-- A counter that stops at its top. -/
theorem State.fld_bump_same (pg : Nat) (f : Fld) (n : Nat) (hw : f.lo + f.w ≤ 32) : (s.bump pg f n).fld pg f = min (s.fld pg f + n) (2 ^ f.w - 1) := by
  have hpos : 0 < 2 ^ f.w := Nat.two_pow_pos _
  rw [State.bump, State.fld_put_same _ _ _ _ hw]
  exact Nat.mod_eq_of_lt (by omega)

/-- A counter that wraps. -/
theorem State.fld_incr_same (pg : Nat) (f : Fld) (hw : f.lo + f.w ≤ 32) : (s.incr pg f).fld pg f = (s.fld pg f + 1) % 2 ^ f.w := by
  rw [State.incr, State.fld_put_same _ _ _ _ hw]

/-- A field that a write of another leaves: another register, or other bits of it. -/
abbrev Apart (pg : Nat) (g : Fld) (pg' : Nat) (f : Fld) : Prop :=
  regKey pg g.off ≠ regKey pg' f.off ∨ f.lo + f.w ≤ 32 ∧ (g.lo + g.w ≤ f.lo ∨ f.lo + f.w ≤ g.lo)

/-- A field that no transmission writes. -/
abbrev SendApart (pg : Nat) (g : Fld) : Prop :=
  ∀ l : Link, Apart pg g (pHG l) HG.WINDOW_TX_NEXT ∧ Apart pg g (pHG l) HG.WINDOW_OUTSTANDING ∧ Apart pg g (pHG l) HG.TX_FRAMES_COUNT

/-- What frames sent on links of a set leave. -/
structure SentOn (on : Link → Prop) (s t : State) : Prop where
  fld : ∀ {pg : Nat} {g : Fld}, SendApart pg g → t.fld pg g = s.fld pg g
  other : ∀ m, ¬ on m → t.link m = s.link m
  word : ∀ m, (t.link m).word = (s.link m).word
  errs : ∀ m, (t.link m).errs = (s.link m).errs
  fleet : t.fleet = s.fleet

namespace SentOn

variable {on : Link → Prop} {t u : State}

theorem refl (on : Link → Prop) (s : State) : SentOn on s s := ⟨fun _ => rfl, fun _ _ => rfl, fun _ => rfl, fun _ => rfl, rfl⟩

theorem trans (h : SentOn on s t) (h2 : SentOn on t u) : SentOn on s u :=
  ⟨fun hg => (h2.fld hg).trans (h.fld hg), fun m hm => (h2.other m hm).trans (h.other m hm), fun m => (h2.word m).trans (h.word m),
    fun m => (h2.errs m).trans (h.errs m), h2.fleet.trans h.fleet⟩

theorem flag (h : SentOn on s t) {pg : Nat} {g : Fld} (hg : SendApart pg g) : t.flag pg g = s.flag pg g := by
  rw [State.flag, h.fld hg, State.flag]

theorem mono {on' : Link → Prop} (h : SentOn on s t) (hon : ∀ m, on m → on' m) : SentOn on' s t :=
  ⟨h.fld, fun m hm => h.other m fun hx => hm (hon m hx), h.word, h.errs, h.fleet⟩

/-- A change of a link's hidden state that leaves its word and its errors. -/
theorem modLink (l : Link) (f : LinkSt → LinkSt) (hon : on l) (hw : (f (s.link l)).word = (s.link l).word) (he : (f (s.link l)).errs = (s.link l).errs) :
    SentOn on s (s.modLink l f) := by
  have hlink : ∀ m, m ≠ l → (s.modLink l f).link m = s.link m := fun m hm => State.link_modLink_ne _ _ hm
  refine ⟨fun _ => rfl, fun m hm => hlink m fun e => hm (e ▸ hon), fun m => ?_, fun m => ?_, rfl⟩
  all_goals
    by_cases hm : m = l
    · subst hm
      rw [State.link_modLink_same]
      assumption
    · rw [hlink m hm]

theorem foldl {α : Type} {f : State → α → State} (h : ∀ u a, SentOn on u (f u a)) : ∀ l : List α, SentOn on s (l.foldl f s) := by
  intro l
  induction l generalizing s with
  | nil => exact refl on s
  | cons a l ih => exact (h s a).trans ih

end SentOn

/-- A frame put on the line of a link. -/
theorem State.transmit_sent (l : Link) (f : TxF) : SentOn (· = l) s (s.transmit l f) := by
  unfold State.transmit
  extract_lets pg seq b u
  have hu : SentOn (· = l) s u := SentOn.modLink l _ rfl rfl rfl
  clear_value u
  have hlink : ∀ m, (((u.put pg HG.WINDOW_TX_NEXT (seq + 1)).put pg HG.WINDOW_OUTSTANDING (u.link l).win.length).incr pg HG.TX_FRAMES_COUNT).link m = u.link m := fun m => by
    simp -implicitDefEqProofs [State.incr]
  refine hu.trans ⟨fun hg => ?_, fun m _ => hlink m, fun m => by rw [hlink], fun m => by rw [hlink], by simp -implicitDefEqProofs [State.incr]⟩
  obtain ⟨hnext, hout, hcount⟩ := hg l
  rw [State.incr, State.fld_put_apart _ _ hcount, State.fld_put_apart _ _ hout, State.fld_put_apart _ _ hnext]

/-- Waiting frames sent. -/
theorem State.drain_sent (l : Link) : SentOn (· = l) s (s.drain l) := by
  refine SentOn.foldl (fun u _ => ?_) _
  split
  · exact SentOn.refl _ _
  next f fs _ =>
    split
    · exact SentOn.trans (t := u.modLink l fun k => { k with queue := fs }) (SentOn.modLink l _ rfl rfl rfl) (State.transmit_sent l _)
    · exact SentOn.refl _ _

/-- A frame handed to a link. -/
theorem State.linkSend_sent (l : Link) (f : TxF) : SentOn (· = l) s (s.linkSend l f) :=
  SentOn.trans (t := s.modLink l fun k => { k with queue := insertFrame f k.queue }) (SentOn.modLink l _ rfl rfl rfl) (State.drain_sent l)

/-- A frame sent on a ring goes out of a link that is open (R324). -/
theorem State.ringSend_sent (l : Link) (b : List Byte) (hops : Nat) (wrapped : Bool) (slot : Option Nat) :
    SentOn (fun m => s.ringOpen m = true) s (s.ringSend l b hops wrapped slot) := by
  unfold State.ringSend
  split
  next h => exact (State.linkSend_sent l _).mono fun m hm => hm ▸ h
  · split
    · exact SentOn.refl _ s
    · split
      next h => exact (State.linkSend_sent _ _).mono fun m hm => hm ▸ h
      · exact SentOn.refl _ s

/-- What sending leaves open stays open. -/
theorem SentOn.ringOpen {on : Link → Prop} {t : State} (h : SentOn on s t) (m : Link) : t.ringOpen m = s.ringOpen m := by
  have hst : SendApart (pHG m) HG.PG_STAT_STATE := by decide +revert
  have hwrap : SendApart (pHG m) HG.PG_STAT_WRAP := by decide +revert
  rw [State.ringOpen, State.linkUp, State.linkState, h.fld hst, h.flag hwrap]
  rfl

/-- A field that no broadcast writes stays. -/
theorem State.broadcast_sent (typ : Nat) (payload : List Byte) : (∀ {pg : Nat} {g : Fld}, SendApart pg g → (s.broadcast typ payload).fld pg g = s.fld pg g) ∧
    (∀ m, s.ringOpen m = false → (s.broadcast typ payload).link m = s.link m) ∧ ∀ m, ((s.broadcast typ payload).link m).word = (s.link m).word := by
  unfold State.broadcast
  extract_lets b u
  have h0 : SentOn (fun m => s.ringOpen m = true) s (s.ringSend 0 b 1 false none) := State.ringSend_sent 0 b 1 false none
  have h1 : SentOn (fun m => s.ringOpen m = true) (s.ringSend 0 b 1 false none) u :=
    (State.ringSend_sent 1 b 1 false none).mono fun m hm => (h0.ringOpen m).symm.trans hm
  have hu := h0.trans h1
  clear_value u
  refine ⟨fun hg => ?_, fun m hm => ?_, fun m => hu.word m⟩
  · rw [State.fld_modFleet, hu.fld hg]
  · exact hu.other m (by rw [hm]; exact Bool.false_ne_true)

/-- A field that no wrap writes. -/
abbrev WrapApart (pg : Nat) (g : Fld) : Prop :=
  SendApart pg g ∧ (∀ l : Link, Apart pg g (pHG l) HG.PG_STAT_WRAP ∧ regKey pg g.off ≠ regKey (pHG l) 0x10) ∧
    regKey pg g.off ≠ regKey pFLEET 0x0C ∧ regKey pg g.off ≠ regKey pFLEET 0x10

/-- A wrap that starts or ends at a link that is not UP leaves the link, and every field but `WRAP` and the events. -/
theorem State.setWrap_leaves (l : Link) (b : Bool) : (∀ {pg : Nat} {g : Fld}, WrapApart pg g → (s.setWrap l b).fld pg g = s.fld pg g) ∧
    (s.linkUp l = false → (s.setWrap l b).link l = s.link l) ∧ ∀ m, ((s.setWrap l b).link m).word = (s.link m).word := by
  unfold State.setWrap
  split
  · exact ⟨fun _ => rfl, fun _ => rfl, fun _ => rfl⟩
  · extract_lets w was now v x y
    have hfld : ∀ {pg : Nat} {g : Fld}, WrapApart pg g → y.fld pg g = s.fld pg g := by
      rintro pg g ⟨-, hl, hstat, hevt⟩
      obtain ⟨hwrap, hlevt⟩ := hl l
      rw [show y = _ from rfl, State.fld_raiseIf_apart _ _ (.inl hevt), State.fld_raiseIf_apart _ _ (.inl hevt), State.fld_putB_apart _ _ (.inl hstat), State.fld_modFleet,
        State.fld_raise_apart _ (.inl hlevt), State.fld_putB_apart _ _ hwrap]
    have hlink : ∀ m, y.link m = s.link m := fun m => by
      simp -implicitDefEqProofs [y, x, v, w]
    clear_value y
    obtain ⟨hb, hclosed, hword⟩ := y.broadcast_sent 2 (leBytes 4 (y.srcNode % 128 + 256 * l.val + 512 * b.toNat))
    refine ⟨fun hg => (hb hg.1).trans (hfld hg), fun hup => ?_, fun m => (hword m).trans (by rw [hlink])⟩
    refine (hclosed l ?_).trans (hlink l)
    have hst : WrapApart (pHG l) HG.PG_STAT_STATE := by
      clear * -
      decide +revert
    rw [State.ringOpen, State.linkUp, State.linkState, hfld hst]
    rw [State.linkUp, State.linkState] at hup
    rw [hup]
    rfl

/-- The outcome of a transmit record touches the store and one event. -/
theorem State.txfEnd_leaves (slot status : Nat) : (s.txfEnd slot status).links = s.links ∧
    ∀ {pg : Nat} {g : Fld}, regKey pg g.off ≠ regKey pFLEET 0x10 → (s.txfEnd slot status).fld pg g = s.fld pg g := by
  refine ⟨by simp -implicitDefEqProofs [State.txfEnd, State.txfStatus, State.stPut], fun hg => ?_⟩
  rw [State.txfEnd, State.fld_raise_apart _ (.inl hg)]
  simp -implicitDefEqProofs [State.txfStatus, State.stPut]

/-- A window that is dropped: nothing waits on the link any more, and of the registers the window's alone change. -/
theorem State.dropWindow_leaves (l : Link) : ((s.dropWindow l).link l).win = [] ∧ ((s.dropWindow l).link l).word = (s.link l).word ∧
    ∀ {pg : Nat} {g : Fld}, regKey pg g.off ≠ regKey pFLEET 0x10 → Apart pg g (pHG l) HG.WINDOW_OUTSTANDING → Apart pg g (pHG l) HG.WINDOW_TX_OLDEST →
      (s.dropWindow l).fld pg g = s.fld pg g := by
  unfold State.dropWindow
  extract_lets k u v
  have hv : (v.link l).win = [] ∧ (v.link l).word = (s.link l).word := by
    simp -implicitDefEqProofs [v, u]
  have hfld : ∀ {pg : Nat} {g : Fld}, Apart pg g (pHG l) HG.WINDOW_OUTSTANDING → Apart pg g (pHG l) HG.WINDOW_TX_OLDEST → v.fld pg g = s.fld pg g := by
    intro pg g h1 h2
    rw [show v = _ from rfl, State.fld_put_apart _ _ h2, State.fld_put_apart _ _ h1, State.fld_modLink]
  clear_value v
  have key : ∀ fs : List TxF, ∀ w : State, (w.link l = v.link l ∧ ∀ {pg : Nat} {g : Fld}, regKey pg g.off ≠ regKey pFLEET 0x10 → w.fld pg g = v.fld pg g) →
      let t := fs.foldl (init := w) fun s f => match f.slot with
        | some r => s.txfEnd r 4
        | none => s
      t.link l = v.link l ∧ ∀ {pg : Nat} {g : Fld}, regKey pg g.off ≠ regKey pFLEET 0x10 → t.fld pg g = v.fld pg g := by
    intro fs
    induction fs with
    | nil => exact fun _ hw => hw
    | cons f fs ih =>
      rintro w ⟨hlink, hw⟩
      refine ih _ ?_
      dsimp only
      split
      next r _ =>
        obtain ⟨hlinks, hend⟩ := w.txfEnd_leaves r 4
        exact ⟨by rw [State.link, hlinks, ← State.link, hlink], fun hg => (hend hg).trans (hw hg)⟩
      · exact ⟨hlink, hw⟩
  obtain ⟨hlink, hend⟩ := key (k.win ++ k.queue) v ⟨rfl, fun _ => rfl⟩
  exact ⟨(congrArg LinkSt.win hlink).trans hv.1, (congrArg LinkSt.word hlink).trans hv.2, fun hg h1 h2 => (hend hg).trans (hfld h1 h2)⟩

/-- A field that no change of a link's state writes, but perhaps in the status register of the link. -/
abbrev DropApart (pg : Nat) (g : Fld) : Prop :=
  WrapApart pg g ∧ ∀ l : Link, Apart pg g (pHG l) HG.WINDOW_TX_OLDEST

/-- A link that leaves UP, as far as its status register is set. -/
theorem State.leaveUp_leaves (l : Link) (h : s.linkUp l = false) : (((s.dropWindow l).setWrap l true).link l).win = [] ∧
    (((s.dropWindow l).setWrap l true).link l).word = (s.link l).word ∧
    ∀ {pg : Nat} {g : Fld}, DropApart pg g → ((s.dropWindow l).setWrap l true).fld pg g = s.fld pg g := by
  obtain ⟨hwin, hword, hdrop⟩ := s.dropWindow_leaves l
  have hfld : ∀ {pg : Nat} {g : Fld}, DropApart pg g → (s.dropWindow l).fld pg g = s.fld pg g := fun hg => hdrop hg.1.2.2.2 (hg.1.1 l).2.1 (hg.2 l)
  obtain ⟨hwrap, hlink, -⟩ := (s.dropWindow l).setWrap_leaves l true
  have hst : DropApart (pHG l) HG.PG_STAT_STATE := by
    clear * -
    decide +revert
  have hup : (s.dropWindow l).linkUp l = false := by
    rw [State.linkUp, State.linkState, hfld hst]
    exact h
  exact ⟨(congrArg LinkSt.win (hlink hup)).trans hwin, (congrArg LinkSt.word (hlink hup)).trans hword, fun hg => (hwrap hg.1).trans (hfld hg)⟩

/-- A link that enters a state other than UP (Table 13.4). -/
theorem State.linkTo_enters (l : Link) {st : Nat} (h8 : st < 8) (h2 : st ≠ 2) : (s.linkTo l st).linkState l = st ∧
    (s.linkTo l st).flag (pHG l) HG.PG_STAT_LOCK = (decide (st = 1) && s.flag (pHG l) HG.PG_STAT_LOCK) ∧
    (st = 3 → (s.linkTo l st).flag (pHG l) HG.PG_EVT_DOWN = true) ∧ (st = 4 → (s.linkTo l st).flag (pHG l) HG.PG_EVT_RETIRED = true) ∧
    (s.linkTo l st).lastSeq l = s.lastSeq l ∧ ((s.linkTo l st).link l).word = (s.link l).word ∧ (s.linkUp l = true → ((s.linkTo l st).link l).win = []) ∧
    (s.linkUp l = false → (s.linkTo l st).links = s.links) := by
  unfold State.linkTo
  extract_lets up u v w
  have hu : u.linkState l = st ∧ u.flag (pHG l) HG.PG_STAT_LOCK = s.flag (pHG l) HG.PG_STAT_LOCK ∧ u.lastSeq l = s.lastSeq l ∧ u.links = s.links := by
    refine ⟨?_, ?_, ?_, ?_⟩
    · unfold u
      rw [State.linkState, State.fld_put_same _ _ _ _ (by decide)]
      exact Nat.mod_eq_of_lt h8
    · simp -implicitDefEqProofs (disch := (clear * -; decide +revert)) [u]
    · simp -implicitDefEqProofs (disch := (clear * -; decide +revert)) [u, State.lastSeq]
    · simp -implicitDefEqProofs [u]
  clear_value u
  obtain ⟨hst, hlock, hseq, hlinks⟩ := hu
  have hv : v.linkState l = st ∧ v.flag (pHG l) HG.PG_STAT_LOCK = s.flag (pHG l) HG.PG_STAT_LOCK ∧ v.lastSeq l = s.lastSeq l ∧ (v.link l).word = (s.link l).word ∧
      (s.linkUp l = true → (v.link l).win = []) ∧ (s.linkUp l = false → v.links = s.links) := by
    have hul : u.link l = s.link l := by rw [State.link, hlinks, State.link]
    cases hup : s.linkUp l with
    | false =>
      rw [show v = u by unfold v up; rw [hup]; rfl]
      exact ⟨hst, hlock, hseq, by rw [hul], fun h => (nomatch h), fun _ => hlinks⟩
    | true =>
      rw [show v = (u.dropWindow l).setWrap l true by unfold v up; rw [hup]; rfl]
      have hdown : u.linkUp l = false := by rw [State.linkUp, hst]; simpa using h2
      obtain ⟨hwin, hword, hfld⟩ := u.leaveUp_leaves l hdown
      have h1 : DropApart (pHG l) HG.PG_STAT_STATE := by
        clear * -
        decide +revert
      have h3 : DropApart (pHG l) HG.PG_STAT_LOCK := by
        clear * -
        decide +revert
      have h4 : DropApart (pHG l) HG.WINDOW_RX_EXPECT := by
        clear * -
        decide +revert
      refine ⟨?_, ?_, ?_, by rw [hword, hul], fun _ => hwin, fun h => (nomatch h)⟩
      · rw [State.linkState, hfld h1]
        exact hst
      · rw [State.flag, hfld h3]
        exact hlock
      · rw [State.lastSeq, hfld h4]
        exact hseq
  clear_value v
  obtain ⟨hst, hlock, hseq, hword, hwin, hlinks⟩ := hv
  have hw : w.linkState l = st ∧ w.flag (pHG l) HG.PG_STAT_LOCK = (decide (st = 1) && s.flag (pHG l) HG.PG_STAT_LOCK) ∧ w.lastSeq l = s.lastSeq l ∧
      w.links = v.links := by
    unfold w
    split
    next h => exact ⟨hst, by rw [hlock, h]; rfl, hseq, rfl⟩
    next h =>
      refine ⟨?_, ?_, ?_, ?_⟩
      · simp -implicitDefEqProofs (disch := (clear * -; decide +revert)) [State.linkState]
        exact hst
      · simp -implicitDefEqProofs (disch := (clear * -; decide +revert)) [h, State.flag_put_same]
      · simp -implicitDefEqProofs (disch := (clear * -; decide +revert)) [State.lastSeq]
        exact hseq
      · simp -implicitDefEqProofs []
  clear_value w
  obtain ⟨hst', hlock', hseq', hlinks'⟩ := hw
  have hwl : w.link l = v.link l := by rw [State.link, hlinks', State.link]
  have hrest : ∀ f : Fld, (f = HG.PG_EVT_DOWN ∨ f = HG.PG_EVT_RETIRED) → (w.raise (pHG l) f).linkState l = st ∧
      (w.raise (pHG l) f).flag (pHG l) HG.PG_STAT_LOCK = (decide (st = 1) && s.flag (pHG l) HG.PG_STAT_LOCK) ∧ (w.raise (pHG l) f).lastSeq l = s.lastSeq l ∧
      (w.raise (pHG l) f).links = v.links := by
    rintro f (rfl | rfl)
    all_goals
      refine ⟨?_, ?_, ?_, hlinks'⟩
      · rw [State.linkState, State.fld_raise_apart _ (.inl (by clear * -; decide +revert))]
        exact hst'
      · rw [State.flag, State.fld_raise_apart _ (.inl (by clear * -; decide +revert))]
        exact hlock'
      · rw [State.lastSeq, State.fld_raise_apart _ (.inl (by clear * -; decide +revert))]
        exact hseq'
  have hvl : ∀ {t : State}, t.links = v.links → (t.link l).word = (s.link l).word ∧ (s.linkUp l = true → (t.link l).win = []) ∧ (s.linkUp l = false → t.links = s.links) := by
    intro t ht
    have htl : t.link l = v.link l := by rw [State.link, ht, State.link]
    exact ⟨by rw [htl, hword], fun h => by rw [htl, hwin h], fun h => ht.trans (hlinks h)⟩
  split
  next h =>
    obtain ⟨h1, h3, h4, h5⟩ := hrest _ (.inl rfl)
    exact ⟨h1, h3, fun _ => by simp -implicitDefEqProofs (disch := (clear * -; decide +revert)) [State.flag_raise], fun h' => absurd (h.symm.trans h') (by decide), h4, hvl h5⟩
  next h =>
    split
    next h' =>
      obtain ⟨h1, h3, h4, h5⟩ := hrest _ (.inr rfl)
      exact ⟨h1, h3, fun h'' => absurd h'' h, fun _ => by simp -implicitDefEqProofs (disch := (clear * -; decide +revert)) [State.flag_raise], h4, hvl h5⟩
    next h' => exact ⟨hst', hlock', fun h'' => absurd h'' h, fun h'' => absurd h'' h', hseq', hvl hlinks'⟩

end Sys2Proof.Machine
end

section
/-!
PROOFS. Frames, link words and the states of a Hedgerow link (R319-R325, Table 13.4).
-/

set_option Elab.async false

namespace Sys2Proof.Machine

variable {s : State}

/-! ### The states of a link -/

/-- A link that is retired: its cause stands in the registers, and no probe has been made. -/
theorem State.linkRetire_shows (l : Link) {cause : Nat} (hc : cause < 4) : (s.linkRetire l cause).linkState l = 4 ∧
    (s.linkRetire l cause).fld (pHG l) HG.RETIRE_INFO_CAUSE = cause ∧ (s.linkRetire l cause).fld (pHG l) HG.RETIRE_INFO_PROBES = 0 ∧
    (s.linkRetire l cause).flag (pHG l) HG.PG_EVT_RETIRED = true := by
  obtain ⟨hst, -, -, hevt, -⟩ := s.linkTo_enters l (st := 4) (by decide) (by decide)
  have hevt := hevt rfl
  unfold State.linkRetire
  generalize s.linkTo l 4 = t at hst hevt
  refine ⟨?_, ?_, ?_, ?_⟩
  · simp -implicitDefEqProofs (disch := (clear * -; decide +revert)) [State.linkState]
    exact hst
  · simp -implicitDefEqProofs (disch := (clear * -; decide +revert)) [State.fld_put_same, State.flag_put_same, State.flag_raise]
    exact Nat.mod_eq_of_lt hc
  · simp -implicitDefEqProofs (disch := (clear * -; decide +revert)) [State.fld_put_same, State.flag_put_same, State.flag_raise]
  · simp -implicitDefEqProofs (disch := (clear * -; decide +revert)) [hevt]

/-- A link that enters a state keeps the registers of its errors and of its retirement. -/
theorem State.fld_linkTo (l : Link) (st : Nat) {g : Fld} (hg : g.off = 0x3C ∨ g.off = 0x28) : (s.linkTo l st).fld (pHG l) g = s.fld (pHG l) g := by
  have key : ∀ (m : Link) (off : Nat), off = 12 ∨ off = 16 ∨ off = 52 ∨ off = 48 → regKey (pHG m) off ≠ regKey (pHG l) g.off := by
    intro m off hoff
    rcases hg with hg | hg <;> rw [hg] <;> rcases hoff with rfl | rfl | rfl | rfl <;> clear * - <;> decide +revert
  have hfleet : ∀ off, off = 12 ∨ off = 16 → regKey pFLEET off ≠ regKey (pHG l) g.off := by
    intro off hoff
    rcases hg with hg | hg <;> rw [hg] <;> rcases hoff with rfl | rfl <;> clear * - <;> decide +revert
  refine State.fld_of_same (State.linkTo_same l st (Same.refl _ _) ?_ ?_ ?_ ?_ ?_ ?_)
  · exact fun m => key m _ (.inl rfl)
  · exact fun m => key m _ (.inr (.inl rfl))
  · exact hfleet _ (.inl rfl)
  · exact hfleet _ (.inr rfl)
  · exact fun m => key m _ (.inr (.inr (.inl rfl)))
  · exact fun m => key m _ (.inr (.inr (.inr rfl)))

/-- Errors counted on a link. -/
theorem State.linkErr_shows (l : Link) (f : Fld) (n : Nat) (hf : f = HG.ERR_CNT_CODE ∨ f = HG.ERR_CNT_FRAME) : ((s.linkErr l f n).link l).errs = (s.link l).errs + n ∧
    (s.linkErr l f n).fld (pHG l) f = min (s.fld (pHG l) f + n) 0xFFFF ∧ (s.linkErr l f n).linkState l = s.linkState l ∧
    (s.linkErr l f n).fld (pHG l) HG.CFG_ERR_LIMIT = s.fld (pHG l) HG.CFG_ERR_LIMIT := by
  unfold State.linkErr
  rcases hf with rfl | rfl
  all_goals
    refine ⟨?_, ?_, ?_, ?_⟩
    · simp -implicitDefEqProofs (disch := (clear * -; decide +revert)) [State.bump]
    · rw [State.fld_put_apart _ _ (.inl (by clear * -; decide +revert)), State.fld_modLink, State.fld_bump_same _ _ _ (by decide)]
      rfl
    · simp -implicitDefEqProofs (disch := (clear * -; decide +revert)) [State.bump, State.linkState]
    · simp -implicitDefEqProofs (disch := (clear * -; decide +revert)) [State.bump]

/-- A RETIRED link that is probed: one probe more (R325). -/
theorem State.probe_shows (s : State) (l : Link) : ((s.linkTo l 5).bump (pHG l) HG.RETIRE_INFO_PROBES 1).linkState l = 5 ∧
    ((s.linkTo l 5).bump (pHG l) HG.RETIRE_INFO_PROBES 1).fld (pHG l) HG.RETIRE_INFO_PROBES = min (s.fld (pHG l) HG.RETIRE_INFO_PROBES + 1) 0xFF := by
  obtain ⟨h5, -⟩ := s.linkTo_enters l (st := 5) (by decide) (by decide)
  refine ⟨?_, ?_⟩
  · simp -implicitDefEqProofs (disch := (clear * -; decide +revert)) [State.bump, State.linkState]
    exact h5
  · rw [State.fld_bump_same _ _ _ (by decide), State.fld_linkTo l 5 (.inl rfl)]
    rfl

/-- The low half of a register written 0: the window of a link starts anew. -/
theorem State.fld_put_low16 (pg : Nat) : (s.put pg ⟨0x30, 0, 16⟩ 0).fld pg HG.WINDOW_RX_EXPECT = 0 := by
  rw [State.fld, State.put, show HG.WINDOW_RX_EXPECT.off = 0x30 from rfl, State.rd_wr_same, BitVec.toNat_ofNat, Nat.mod_eq_of_lt (setBits_lt (BitVec.isLt _) (by decide))]
  show setBits (s.rd pg 0x30).toNat 0 16 0 / 2 ^ 12 % 2 ^ 4 = 0
  unfold setBits
  omega

/-- With nothing waiting, nothing is sent. -/
theorem State.drain_nil {l : Link} (h : (s.link l).queue = []) : s.drain l = s := by
  have key : ∀ ks : List Nat, ks.foldl (init := s) (fun s _ => match (s.link l).queue with
      | [] => s
      | f :: fs => if (s.link l).win.length < 8 then (s.modLink l fun k => { k with queue := fs }).transmit l f else s) = s := by
    intro ks
    induction ks with
    | nil => rfl
    | cons k ks ih =>
      rw [List.foldl_cons]
      simp only [h]
      exact ih
  exact key _

/-- The acknowledgement of the one frame of the window. -/
theorem State.takeAck_one {l : Link} {f : TxF} {ack : Nat} (hwin : (s.link l).win = [f]) (hqueue : (s.link l).queue = []) (hslot : f.slot = none) (htyp : frType f.bytes ≠ 9)
    (hseq : frSeq f.bytes = ack % 16) : s.takeAck l ack =
      ((s.modLink l fun k => { k with win := [] }).put (pHG l) HG.WINDOW_TX_OLDEST (ack + 1)).put (pHG l) HG.WINDOW_OUTSTANDING 0 := by
  have hack : s.acked f = s := by
    unfold State.acked
    rw [if_neg fun h => htyp h.1, hslot]
  have hdrain : ∀ t : State, (t.link l).queue = [] → t.drain l = t := fun t h => State.drain_nil h
  unfold State.takeAck
  simp only [hwin, List.findIdx?_cons, hseq, beq_self_eq_true, if_true, List.take, List.foldl, hack, List.drop, List.length_singleton, Nat.sub_self]
  refine hdrain _ ?_
  simp -implicitDefEqProofs (disch := (clear * -; decide +revert)) [hqueue]

/-- A frame that the receiver of a link accepts (R322). -/
def State.acceptFrame (s : State) (l : Link) (b : List Byte) : State :=
  (((s.put (pHG l) HG.WINDOW_RX_EXPECT (frSeq b + 1)).incr (pHG l) HG.RX_FRAMES_COUNT).put (pHG l) HG.PG_STAT_SILENT_TK 0).linkWord l false

/-- A CRC-32 fits 32 bits. -/
theorem crc32_lt (bs : List Byte) : crc32 bs < 2 ^ 32 := by
  have one : ∀ (c : Nat) (b : Bool), c < 2 ^ 32 → crc32Step c b < 2 ^ 32 := by
    intro c b hc
    have h2 : c / 2 < 2 ^ 32 := Nat.lt_of_le_of_lt (Nat.div_le_self _ _) hc
    unfold crc32Step
    split
    · exact Nat.xor_lt_two_pow h2 (by decide)
    · exact h2
  have byte : ∀ (l : List Nat) (b : Byte) (c : Nat), c < 2 ^ 32 → l.foldl (fun c i => crc32Step c (b.getLsbD i)) c < 2 ^ 32 := by
    intro l b
    induction l with
    | nil => exact fun _ h => h
    | cons i l ih => exact fun c h => ih _ (one _ _ h)
  have all : ∀ (bs : List Byte) (c : Nat), c < 2 ^ 32 → crc32From c bs < 2 ^ 32 := by
    intro bs
    induction bs with
    | nil => exact fun _ h => h
    | cons b bs ih => exact fun c h => ih _ (byte _ b c h)
  exact Nat.xor_lt_two_pow (all bs _ (by decide)) (by decide)

/-- The CRC at the end of a frame reads back. -/
theorem numAt_crc (b : List Byte) : numAt (b ++ leBytes 4 (frCrc b)) b.length 4 = frCrc b := by
  have h4 : (leBytes 4 (frCrc b)).take 4 = leBytes 4 (frCrc b) := List.take_of_length_le (by rw [length_leBytes])
  rw [numAt, List.drop_left, h4, leNat_leBytes]
  exact Nat.mod_eq_of_lt (crc32_lt _)

/-- A TICK that WEST accepts and that is not this node's own is delivered, and goes on (R319). -/
theorem State.ringTake_tick {b : List Byte} (htyp : frType b = 0) (hown : (s.assigned && frSrc b == s.node) = false) :
    SentOn (fun m => ((s.hear (frSrc b)).deliver 0 b).ringOpen m = true) ((s.hear (frSrc b)).deliver 0 b) (s.ringTake 1 b) := by
  have hown' : ((s.hear (frSrc b)).assigned && frSrc b == (s.hear (frSrc b)).node) = false := hown
  have htake : s.ringTake 1 b = if frHops b + 1 ≥ 127 then (s.hear (frSrc b)).deliver 0 b
      else ((s.hear (frSrc b)).deliver 0 b).ringSend 0 b (frHops b + 1) (frWrapped b) none := by
    unfold State.ringTake
    extract_lets ring out u own onward
    rw [if_neg (by rw [htyp]; decide), if_pos htyp, if_neg (by rw [show own = false from hown']; decide)]
    rfl
  rw [htake]
  split
  · exact SentOn.refl _ _
  · exact State.ringSend_sent 0 b _ _ none

/-- A frame accepted. -/
theorem hedgerowFrameArrive_takes (s : State) (l : Fin 3) (b : List Byte) (hphase : s.phase = .run) (hup : s.linkUp l = true) (hlen : 8 ≤ b.length) (hcrc : crc8 (b.take 7) = byteAt b 7) (hfrlen : frLen b = b.length - 8) (hmax : b.length ≤ 264) (hseq : frSeq b = s.fld (pHG l) HG.WINDOW_RX_EXPECT) (hl : l.val = 1) (htyp : frType b = 0) (hown : (s.assigned && frSrc b == s.node) = false) :
    Leads (exec (.hedgerowFrameArrive l (b ++ leBytes 4 (frCrc b)) false 0 true) s) fun t => s.Frame t [pHG 0, pHG 1, pHG 2] [(pFLEET, 0x0C), (pFLEET, 0x10), (pFLEET, 0x68), (pFLEET, 0x24)] [txBytes] [] ∧ t.fld (pHG l) HG.WINDOW_RX_EXPECT = (s.fld (pHG l) HG.WINDOW_RX_EXPECT + 1) % 16 ∧ t.fld (pHG l) HG.RX_FRAMES_COUNT = (s.fld (pHG l) HG.RX_FRAMES_COUNT + 1) % 2 ^ 32 ∧ t.fleet.inbox = s.fleet.inbox ++ [⟨0, b, s.tick⟩] ∧ (t.link l).word = some (s.fld (pHG l) HG.WINDOW_RX_EXPECT, false, false) := by
  have hl1 : l = 1 := Fin.ext hl
  have e : exec (.hedgerowFrameArrive l (b ++ leBytes 4 (frCrc b)) false 0 true) s = .next ((s.acceptFrame l b).ringTake l b) := by
    have hn : (b ++ leBytes 4 (frCrc b)).length - 4 = b.length := by simp
    have htake : (b ++ leBytes 4 (frCrc b)).take b.length = b := List.take_left
    have hnum : numAt (b ++ leBytes 4 (frCrc b)) b.length 4 = frCrc b := numAt_crc b
    show execHedgerowFrameArrive l (b ++ leBytes 4 (frCrc b)) false 0 true s = _
    unfold execHedgerowFrameArrive
    extract_lets pg n b'
    have hb : b' = b := by
      unfold b' n
      rw [hn, htake]
    have hn' : n = b.length := hn
    clear_value b' n
    subst hb hn'
    rw [if_neg (by simp [hphase]), if_neg (by simp [hup]), if_neg (by decide), if_neg, if_neg (not_not.2 hseq), if_neg (by decide), if_neg (by rw [hl1]; decide)]
    · rfl
    · rw [hnum, hfrlen]
      simp [hcrc]
      omega
  subst hl1
  have hu : (s.acceptFrame 1 b).assigned = s.assigned ∧ (s.acceptFrame 1 b).node = s.node ∧
      (s.acceptFrame 1 b).fld (pHG 1) HG.WINDOW_RX_EXPECT = (s.fld (pHG 1) HG.WINDOW_RX_EXPECT + 1) % 16 ∧
      (s.acceptFrame 1 b).fld (pHG 1) HG.RX_FRAMES_COUNT = (s.fld (pHG 1) HG.RX_FRAMES_COUNT + 1) % 2 ^ 32 ∧ (s.acceptFrame 1 b).fleet = s.fleet ∧
      ((s.acceptFrame 1 b).link 1).word = some (s.fld (pHG 1) HG.WINDOW_RX_EXPECT, false, false) ∧ (s.acceptFrame 1 b).tick = s.tick := by
    have hdef : s.acceptFrame 1 b = (((s.put (pHG 1) HG.WINDOW_RX_EXPECT (frSeq b + 1)).incr (pHG 1) HG.RX_FRAMES_COUNT).put (pHG 1) HG.PG_STAT_SILENT_TK 0).modLink 1
        fun k => { k with word := some ((((s.put (pHG 1) HG.WINDOW_RX_EXPECT (frSeq b + 1)).incr (pHG 1) HG.RX_FRAMES_COUNT).put (pHG 1) HG.PG_STAT_SILENT_TK 0).lastSeq 1, false, false) } := by
      rw [State.acceptFrame, State.linkWord, State.when, if_neg (by decide)]
    have hlt : s.fld (pHG 1) HG.WINDOW_RX_EXPECT < 16 := State.fld_lt _ _ _
    have hw : 2 ^ HG.WINDOW_RX_EXPECT.w = 16 := rfl
    rw [hdef]
    refine ⟨?_, ?_, ?_, ?_, ?_, ?_, ?_⟩
    · simp -implicitDefEqProofs (disch := (clear * -; decide +revert)) [State.assigned, State.role, State.incr]
    · simp -implicitDefEqProofs (disch := (clear * -; decide +revert)) [State.node, State.role, State.incr]
    · simp -implicitDefEqProofs (disch := (clear * -; decide +revert)) [State.incr, State.fld_put_same, State.flag_put_same, State.flag_raise, hseq, hw]
    · simp -implicitDefEqProofs (disch := (clear * -; decide +revert)) [State.incr, State.fld_put_same, State.flag_put_same, State.flag_raise]
      rfl
    · simp -implicitDefEqProofs (disch := (clear * -; decide +revert)) [State.incr]
    · simp -implicitDefEqProofs (disch := (clear * -; decide +revert)) [State.lastSeq, State.incr, State.fld_put_same, State.flag_put_same, State.flag_raise, hseq, hw]
      omega
    · simp -implicitDefEqProofs (disch := (clear * -; decide +revert)) [State.incr]
  generalize s.acceptFrame 1 b = u at *
  obtain ⟨hass, hnode, hrx, hcount, hfleet, hword, htick⟩ := hu
  have hsent := u.ringTake_tick htyp (by rw [hass, hnode]; exact hown)
  refine ⟨_, e, Frame.of e (execHedgerowFrameArrive_touches 1 (b ++ leBytes 4 (frCrc b)) false 0 true (by clear * -; unfold inRegs; decide +revert) (by clear * -; unfold inRegs; decide +revert) (by clear * -; unfold inRegs; decide +revert) (by simp [inRegs]) (by simp [inRegs]) (by clear * -; unfold inRegs; decide +revert) (by clear * -; unfold inRegs; decide +revert) (by clear * -; unfold inRegs; decide +revert) (by clear * -; unfold inRegs; decide +revert) (by clear * -; unfold inRegs; decide +revert) (by simp [inRegs]) (by simp [inRegs])) (execHedgerowFrameArrive_stores 1 (b ++ leBytes 4 (frCrc b)) false 0 true (inBytes_store txBytes (by simp))) (execHedgerowFrameArrive_answers 1 (b ++ leBytes 4 (frCrc b)) false 0 true), ?_, ?_, ?_, ?_⟩
  · rw [hsent.fld (by decide), State.deliver, State.hear, State.fld_modFleet, State.fld_modFleet, hrx]
  · rw [hsent.fld (by decide), State.deliver, State.hear, State.fld_modFleet, State.fld_modFleet, hcount]
  · rw [hsent.fleet]
    simp [State.deliver, State.hear, State.modFleet, hfleet, htick]
  · rw [hsent.word, State.deliver, State.hear, State.link_modFleet, State.link_modFleet, hword]

/-- A frame with code errors. -/
theorem hedgerowFrameArrive_codeErrors (s : State) (l : Fin 3) (bytes : List Byte) (codeErrs : Nat) (hphase : s.phase = .run) (hup : s.linkUp l = true) (herrs : 0 < codeErrs) (hlimit : (s.link l).errs + codeErrs ≤ max 1 (s.fld (pHG l) HG.CFG_ERR_LIMIT)) :
    Leads (exec (.hedgerowFrameArrive l bytes false codeErrs true) s) fun t => s.Frame t [pHG 0, pHG 1, pHG 2] [(pFLEET, 0x0C), (pFLEET, 0x10), (pFLEET, 0x68), (pFLEET, 0x24)] [txBytes] [] ∧ t.fld (pHG l) HG.ERR_CNT_CODE = min (s.fld (pHG l) HG.ERR_CNT_CODE + codeErrs) 0xFFFF ∧ (t.link l).errs = (s.link l).errs + codeErrs ∧ (t.link l).word = some (s.lastSeq l, true, false) ∧ t.fld (pHG l) HG.WINDOW_RX_EXPECT = s.fld (pHG l) HG.WINDOW_RX_EXPECT ∧ t.fleet = s.fleet ∧ t.fld (pHG l) HG.ARQ_NAK = min (s.fld (pHG l) HG.ARQ_NAK + 1) 0xFFFF := by
  obtain ⟨herr, hcode, hst, hlim⟩ := s.linkErr_shows l HG.ERR_CNT_CODE codeErrs (.inl rfl)
  have hu : (s.linkErr l HG.ERR_CNT_CODE codeErrs).lastSeq l = s.lastSeq l ∧ (s.linkErr l HG.ERR_CNT_CODE codeErrs).fleet = s.fleet ∧
      (s.linkErr l HG.ERR_CNT_CODE codeErrs).fld (pHG l) HG.WINDOW_RX_EXPECT = s.fld (pHG l) HG.WINDOW_RX_EXPECT ∧
      (s.linkErr l HG.ERR_CNT_CODE codeErrs).fld (pHG l) HG.ARQ_NAK = s.fld (pHG l) HG.ARQ_NAK := by
    refine ⟨?_, ?_, ?_, ?_⟩ <;> simp -implicitDefEqProofs (disch := (clear * -; decide +revert)) [State.linkErr, State.bump, State.lastSeq]
  obtain ⟨hseq, hfleet, hrx, hnak⟩ := hu
  have e : exec (.hedgerowFrameArrive l bytes false codeErrs true) s = .next (((s.linkErr l HG.ERR_CNT_CODE codeErrs).linkWord l true).errLimit l) := by
    show execHedgerowFrameArrive l bytes false codeErrs true s = _
    unfold execHedgerowFrameArrive
    extract_lets pg n b'
    rw [if_neg (by simp [hphase]), if_neg (by simp [hup]), if_pos herrs]
  generalize s.linkErr l HG.ERR_CNT_CODE codeErrs = u at *
  have hword : u.linkWord l true = (u.bump (pHG l) HG.ARQ_NAK 1).modLink l fun k => { k with word := some ((u.bump (pHG l) HG.ARQ_NAK 1).lastSeq l, true, false) } := by
    rw [State.linkWord, State.when, if_pos rfl]
  have hlast : (u.bump (pHG l) HG.ARQ_NAK 1).lastSeq l = s.lastSeq l := by
    rw [← hseq]
    simp -implicitDefEqProofs (disch := (clear * -; decide +revert)) [State.bump, State.lastSeq]
  have hstay : (u.linkWord l true).errLimit l = u.linkWord l true := by
    refine if_neg fun h => ?_
    have h2 := h.2
    rw [hword] at h2
    rw [State.fld_modLink, State.bump, State.fld_put_apart _ _ (.inl (by clear * -; decide +revert)), hlim, State.link_modLink_same] at h2
    rw [State.link_put] at h2
    dsimp only at h2
    omega
  rw [hstay, hword, hlast] at e
  refine ⟨_, e, Frame.of e (execHedgerowFrameArrive_touches l bytes false codeErrs true (by clear * -; unfold inRegs; decide +revert) (by clear * -; unfold inRegs; decide +revert) (by clear * -; unfold inRegs; decide +revert) (by simp [inRegs]) (by simp [inRegs]) (by clear * -; unfold inRegs; decide +revert) (by clear * -; unfold inRegs; decide +revert) (by clear * -; unfold inRegs; decide +revert) (by clear * -; unfold inRegs; decide +revert) (by clear * -; unfold inRegs; decide +revert) (by simp [inRegs]) (by simp [inRegs])) (execHedgerowFrameArrive_stores l bytes false codeErrs true (inBytes_store txBytes (by simp))) (execHedgerowFrameArrive_answers l bytes false codeErrs true), ?_, ?_, ?_, ?_, ?_, ?_⟩
  · simp -implicitDefEqProofs (disch := (clear * -; decide +revert)) [State.bump, hcode]
  · simp -implicitDefEqProofs (disch := (clear * -; decide +revert)) [State.bump, herr]
  · simp -implicitDefEqProofs (disch := (clear * -; decide +revert)) []
  · simp -implicitDefEqProofs (disch := (clear * -; decide +revert)) [State.bump, hrx]
  · simp -implicitDefEqProofs (disch := (clear * -; decide +revert)) [State.bump, hfleet]
  · rw [State.fld_modLink, State.fld_bump_same _ _ _ (by decide), hnak]
    rfl

/-- A link word. -/
theorem linkWordReceive_acks (s : State) (l : Fin 3) (f : TxF) (b1 b2 b3 : BitVec 8) (hphase : s.phase = .run) (hup : s.linkUp l = true) (hwin : (s.link l).win = [f]) (hqueue : (s.link l).queue = []) (hslot : f.slot = none) (htyp : frType f.bytes ≠ 9) (hseq : frSeq f.bytes = b1.toNat % 16) (hnak : b1.getLsbD 4 = false) (hfault : b2.getLsbD 0 = false) (hcrc : crc8 [b1, b2] = b3.toNat) :
    Leads (exec (.linkWordReceive l b1 b2 b3) s) fun t => s.Frame t [pHG 0, pHG 1, pHG 2] [(pFLEET, 0x0C), (pFLEET, 0x10)] [txBytes] [] ∧ (t.link l).win = [] ∧ t.fld (pHG l) HG.WINDOW_OUTSTANDING = 0 ∧ t.fld (pHG l) HG.WINDOW_TX_OLDEST = (b1.toNat % 16 + 1) % 16 ∧ t.flag (pHG l) HG.PG_STAT_FAULT_RX = false ∧ t.linkUp l = true := by
  have hst : s.linkState l = 2 := by simpa [State.linkUp] using hup
  have hup' : (s.putB (pHG l) HG.PG_STAT_FAULT_RX false).linkUp l = true := by
    rw [← hup]
    simp -implicitDefEqProofs (disch := (clear * -; decide +revert)) [State.linkUp, State.linkState]
  have e : exec (.linkWordReceive l b1 b2 b3) s = .next ((s.putB (pHG l) HG.PG_STAT_FAULT_RX false).takeAck l (b1.toNat % 16)) := by
    refine (if_neg (by simp [hphase, hst])).trans ((if_neg (by simp [hcrc])).trans ?_)
    simp only [hfault, Bool.false_eq_true, if_false, hup', if_true, hnak]
  have hlink : (s.putB (pHG l) HG.PG_STAT_FAULT_RX false).link l = s.link l := by simp -implicitDefEqProofs (disch := (clear * -; decide +revert)) []
  rw [State.takeAck_one (by rw [hlink]; exact hwin) (by rw [hlink]; exact hqueue) hslot htyp (by omega)] at e
  refine ⟨_, e, Frame.of e (execLinkWordReceive_touches l b1 b2 b3 (by clear * -; unfold inRegs; decide +revert) (by clear * -; unfold inRegs; decide +revert) (by clear * -; unfold inRegs; decide +revert) (by simp [inRegs]) (by simp [inRegs]) (by clear * -; unfold inRegs; decide +revert) (by clear * -; unfold inRegs; decide +revert) (by clear * -; unfold inRegs; decide +revert) (by clear * -; unfold inRegs; decide +revert)) (execLinkWordReceive_stores l b1 b2 b3 (inBytes_store txBytes (by simp))) (execLinkWordReceive_answers l b1 b2 b3), ?_, ?_, ?_, ?_, ?_⟩
  · simp -implicitDefEqProofs (disch := (clear * -; decide +revert)) []
  · simp -implicitDefEqProofs (disch := (clear * -; decide +revert)) [State.fld_put_same, State.flag_put_same, State.flag_raise]
  · simp -implicitDefEqProofs (disch := (clear * -; decide +revert)) [State.fld_put_same, State.flag_put_same, State.flag_raise]
    show (b1.toNat % 16 + 1) % 16 = (b1.toNat + 1) % 16
    omega
  · simp -implicitDefEqProofs (disch := (clear * -; decide +revert)) []
  · rw [← hup']
    simp -implicitDefEqProofs (disch := (clear * -; decide +revert)) [State.linkUp, State.linkState]

/-- No acknowledgement in time. -/
theorem arqTimeout_goesBack (s : State) (l : Fin 3) (hup : s.linkUp l = true) (hwin : (s.link l).win ≠ []) :
    Leads (exec (.arqTimeout l) s) fun t => s.Frame t [] [(pHG l, 0x10), (pHG l, 0x2C)] [] [] ∧ t.fld (pHG l) HG.ARQ_RETX = min (s.fld (pHG l) HG.ARQ_RETX + (s.link l).win.length) 0xFFFF ∧ t.flag (pHG l) HG.PG_EVT_RETX = true ∧ (t.link l).win = (s.link l).win ∧ (t.link l).queue = (s.link l).queue ∧ (t.link l).word = (s.link l).word ∧ (t.link l).line = ((s.link l).win.getLast?.map fun (f : TxF) => onLine f.bytes).or (s.link l).line ∧ ∀ m, m ≠ l → t.link m = s.link m := by
  let u : State := s.modLink l fun k => { k with line := (k.win.getLast?.map fun (f : TxF) => onLine f.bytes).or k.line }
  have hne : (s.link l).win.length ≠ 0 := fun h => hwin (List.length_eq_zero_iff.1 h)
  have e : exec (.arqTimeout l) s = .next ((u.bump (pHG l) HG.ARQ_RETX (s.link l).win.length).raise (pHG l) HG.PG_EVT_RETX) :=
    congrArg Host.Outcome.next ((if_pos hup).trans (if_neg hne))
  refine ⟨_, e, Frame.of e (execArqTimeout_touches l (by simp [inRegs]) (by simp [inRegs])) (execArqTimeout_stores l) (execArqTimeout_answers l), ?_, ?_, ?_, ?_, ?_, ?_, fun m hm => ?_⟩
  · rw [State.fld_raise_apart _ (.inl (by clear * -; decide +revert)), State.fld_bump_same _ _ _ (by decide)]
    simp -implicitDefEqProofs (disch := (clear * -; decide +revert)) [u]
    rfl
  · simp -implicitDefEqProofs (disch := (clear * -; decide +revert)) [State.fld_put_same, State.flag_put_same, State.flag_raise]
  · simp -implicitDefEqProofs (disch := (clear * -; decide +revert)) [u]
  · simp -implicitDefEqProofs (disch := (clear * -; decide +revert)) [u]
  · simp -implicitDefEqProofs (disch := (clear * -; decide +revert)) [u]
  · simp -implicitDefEqProofs (disch := (clear * -; decide +revert)) [u]
  · simp -implicitDefEqProofs (disch := (clear * -; decide +revert)) [u]
    exact State.link_modLink_ne _ _ hm

/-- Lost lock. -/
theorem lossOfLock_down (s : State) (l : Fin 3) (hup : s.linkUp l = true) :
    Leads (exec (.lossOfLock l false) s) fun t => s.Frame t [] ([(pFLEET, 0x0C), (pFLEET, 0x10)] ++ everyLinkReg 0x0C ++ everyLinkReg 0x10 ++ everyLinkReg 0x34 ++ everyLinkReg 0x30) [txBytes] [] ∧ t.linkState l = 3 ∧ t.flag (pHG l) HG.PG_STAT_LOCK = false ∧ t.flag (pHG l) HG.PG_EVT_DOWN = true ∧ (t.link l).win = [] ∧ (t.link l).word = some (s.lastSeq l, false, true) := by
  have hst : s.linkState l = 2 := by simpa [State.linkUp] using hup
  have e : exec (.lossOfLock l false) s = .next (((s.linkTo l 3).put (pHG l) HG.PG_STAT_LOCK 0).modLink l fun k => { k with word := some ((s.linkTo l 3).lastSeq l, false, true) }) := by
    refine (if_neg (by rw [hst]; decide)).trans (congrArg Host.Outcome.next ?_)
    simp only [Bool.false_eq_true, if_false, State.linkLost, hup, if_true]
  obtain ⟨h3, -, hevt, -, hseq, -, hwin, -⟩ := s.linkTo_enters l (st := 3) (by decide) (by decide)
  have hevt := hevt rfl
  have hwin := hwin hup
  refine ⟨_, e, Frame.of e (execLossOfLock_touches l false (by clear * -; unfold inRegs; decide +revert) (by clear * -; unfold inRegs; decide +revert) (by simp [inRegs]) (by simp [inRegs]) (by clear * -; unfold inRegs; decide +revert) (by clear * -; unfold inRegs; decide +revert)) (execLossOfLock_stores l false (inBytes_store txBytes (by simp))) (execLossOfLock_answers l false), ?_, ?_, ?_, ?_, ?_⟩
  · simp -implicitDefEqProofs (disch := (clear * -; decide +revert)) [State.linkState]
    exact h3
  · simp -implicitDefEqProofs (disch := (clear * -; decide +revert)) [State.fld_put_same, State.flag_put_same, State.flag_raise]
  · simp -implicitDefEqProofs (disch := (clear * -; decide +revert)) [hevt]
  · simp -implicitDefEqProofs (disch := (clear * -; decide +revert)) [hwin]
  · simp -implicitDefEqProofs (disch := (clear * -; decide +revert)) [hseq]

/-- Lock regained. -/
theorem lockRegained_trains (s : State) (l : Fin 3) (hst : s.linkState l = 3) :
    Leads (exec (.lockRegained l) s) fun t => s.Frame t [] ([(pFLEET, 0x0C), (pFLEET, 0x10)] ++ everyLinkReg 0x0C ++ everyLinkReg 0x10 ++ everyLinkReg 0x34 ++ everyLinkReg 0x30) [txBytes] [] ∧ t.linkState l = 1 ∧ t.flag (pHG l) HG.PG_STAT_LOCK = true ∧ t.links = s.links := by
  have hup : s.linkUp l = false := by simp [State.linkUp, hst]
  have e : exec (.lockRegained l) s = .next ((s.linkTo l 1).put (pHG l) HG.PG_STAT_LOCK 1) := congrArg Host.Outcome.next (if_pos hst)
  obtain ⟨h1, -, -, -, -, -, -, hlinks⟩ := s.linkTo_enters l (st := 1) (by decide) (by decide)
  refine ⟨_, e, Frame.of e (execLockRegained_touches l (by clear * -; unfold inRegs; decide +revert) (by clear * -; unfold inRegs; decide +revert) (by simp [inRegs]) (by simp [inRegs]) (by clear * -; unfold inRegs; decide +revert) (by clear * -; unfold inRegs; decide +revert)) (execLockRegained_stores l (inBytes_store txBytes (by simp))) (execLockRegained_answers l), ?_, ?_, ?_⟩
  · simp -implicitDefEqProofs (disch := (clear * -; decide +revert)) [State.linkState]
    exact h1
  · simp -implicitDefEqProofs (disch := (clear * -; decide +revert)) [State.fld_put_same, State.flag_put_same, State.flag_raise]
  · simp -implicitDefEqProofs (disch := (clear * -; decide +revert)) [hlinks hup]

/-- Training completed. -/
theorem trainingComplete_up (s : State) (l : Fin 3) (delay : BitVec 16) (hst : s.linkState l = 1) :
    Leads (exec (.trainingComplete l delay) s) fun t => s.Frame t [pHG l] [] [] [] ∧ t.linkState l = 2 ∧ t.flag (pHG l) HG.PG_EVT_UP = true ∧ t.fld (pHG l) HG.DELAY_LINK_DELAY = delay.toNat ∧ t.fld (pHG l) HG.WINDOW_RX_EXPECT = 0 ∧ (t.link l).win = [] ∧ (t.link l).queue = [] ∧ (t.link l).errs = 0 := by
  have e : exec (.trainingComplete l delay) s = .next (((((((s.put (pHG l) HG.PG_STAT_STATE 2).put (pHG l) HG.PG_STAT_LOCK 1).put (pHG l) HG.PG_STAT_FAULT_RX 0).put (pHG l)
      HG.DELAY_LINK_DELAY delay.toNat).put (pHG l) ⟨0x30, 0, 16⟩ 0).modLink l fun k => { k with win := [], queue := [], errs := 0, word := none, line := none }).raise (pHG l)
        HG.PG_EVT_UP) := if_neg (by simp [hst])
  refine ⟨_, e, Frame.of e (execTrainingComplete_touches l delay (inRegs_page (by simp))) (execTrainingComplete_stores l delay) (execTrainingComplete_answers l delay), ?_, ?_, ?_, ?_, ?_, ?_, ?_⟩
  · simp -implicitDefEqProofs (disch := (clear * -; decide +revert)) [State.linkState, State.fld_put_same, State.flag_put_same, State.flag_raise]
    rfl
  · simp -implicitDefEqProofs (disch := (clear * -; decide +revert)) [State.fld_put_same, State.flag_put_same, State.flag_raise]
  · simp -implicitDefEqProofs (disch := (clear * -; decide +revert)) [State.fld_put_same, State.flag_put_same, State.flag_raise]
    exact Nat.mod_eq_of_lt delay.isLt
  · simp -implicitDefEqProofs (disch := (clear * -; decide +revert)) [State.fld_put_low16]
  · simp -implicitDefEqProofs (disch := (clear * -; decide +revert)) []
  · simp -implicitDefEqProofs (disch := (clear * -; decide +revert)) []
  · simp -implicitDefEqProofs (disch := (clear * -; decide +revert)) []

/-- DOWN for too long. -/
theorem linkRetireTimeout_retires (s : State) (l : Fin 3) (hst : s.linkState l = 3) :
    Leads (exec (.linkRetireTimeout l) s) fun t => s.Frame t [] ([(pFLEET, 0x0C), (pFLEET, 0x10)] ++ everyLinkReg 0x3C ++ everyLinkReg 0x0C ++ everyLinkReg 0x10 ++ everyLinkReg 0x34 ++ everyLinkReg 0x30) [txBytes] [] ∧ t.linkState l = 4 ∧ t.fld (pHG l) HG.RETIRE_INFO_CAUSE = 2 ∧ t.fld (pHG l) HG.RETIRE_INFO_PROBES = 0 ∧ t.flag (pHG l) HG.PG_EVT_RETIRED = true := by
  have e : exec (.linkRetireTimeout l) s = .next (s.linkRetire l 2) := congrArg Host.Outcome.next (if_pos (.inr hst))
  exact ⟨_, e, Frame.of e (execLinkRetireTimeout_touches l (by clear * -; unfold inRegs; decide +revert) (by clear * -; unfold inRegs; decide +revert) (by clear * -; unfold inRegs; decide +revert) (by simp [inRegs]) (by simp [inRegs]) (by clear * -; unfold inRegs; decide +revert) (by clear * -; unfold inRegs; decide +revert)) (execLinkRetireTimeout_stores l (inBytes_store txBytes (by simp))) (execLinkRetireTimeout_answers l), State.linkRetire_shows l (by decide)⟩

/-- Too many errors. -/
theorem linkErrorLimit_retires (s : State) (l : Fin 3) (more : Nat) (hup : s.linkUp l = true) (hlimit : max 1 (s.fld (pHG l) HG.CFG_ERR_LIMIT) < (s.link l).errs + more) :
    Leads (exec (.linkErrorLimit l more) s) fun t => s.Frame t [] ([(pFLEET, 0x0C), (pFLEET, 0x10)] ++ everyLinkReg 0x3C ++ everyLinkReg 0x0C ++ everyLinkReg 0x10 ++ everyLinkReg 0x34 ++ everyLinkReg 0x30 ++ everyLinkReg 0x28) [txBytes] [] ∧ t.linkState l = 4 ∧ t.fld (pHG l) HG.RETIRE_INFO_CAUSE = 1 ∧ t.flag (pHG l) HG.PG_EVT_RETIRED = true ∧ t.fld (pHG l) HG.ERR_CNT_CODE = min (s.fld (pHG l) HG.ERR_CNT_CODE + more) 0xFFFF := by
  obtain ⟨herrs, hcode, hst, hlim⟩ := s.linkErr_shows l HG.ERR_CNT_CODE more (.inl rfl)
  have hup' : (s.linkErr l HG.ERR_CNT_CODE more).linkUp l = true := by rw [State.linkUp, hst]; exact hup
  have e : exec (.linkErrorLimit l more) s = .next ((s.linkErr l HG.ERR_CNT_CODE more).linkRetire l 1) :=
    (if_pos hup).trans (congrArg Host.Outcome.next (if_pos ⟨hup', by rw [hlim, herrs]; exact hlimit⟩))
  obtain ⟨h4, hcause, -, hevt⟩ := (s.linkErr l HG.ERR_CNT_CODE more).linkRetire_shows l (cause := 1) (by decide)
  refine ⟨_, e, Frame.of e (execLinkErrorLimit_touches l more (by clear * -; unfold inRegs; decide +revert) (by clear * -; unfold inRegs; decide +revert) (by clear * -; unfold inRegs; decide +revert) (by simp [inRegs]) (by simp [inRegs]) (by clear * -; unfold inRegs; decide +revert) (by clear * -; unfold inRegs; decide +revert) (by clear * -; unfold inRegs; decide +revert)) (execLinkErrorLimit_stores l more (inBytes_store txBytes (by simp))) (execLinkErrorLimit_answers l more), h4, hcause, hevt, ?_⟩
  rw [State.linkRetire, State.fld_put_apart _ _ (.inl (by clear * -; decide +revert)), State.fld_put_apart _ _ (.inl (by clear * -; decide +revert)), State.fld_linkTo l 4 (.inr rfl), hcode]

/-- Errors within the limit. -/
theorem linkErrorLimit_counts (s : State) (l : Fin 3) (more : Nat) (hup : s.linkUp l = true) (hlimit : (s.link l).errs + more ≤ max 1 (s.fld (pHG l) HG.CFG_ERR_LIMIT)) :
    Leads (exec (.linkErrorLimit l more) s) fun t => s.Frame t [] ([(pFLEET, 0x0C), (pFLEET, 0x10)] ++ everyLinkReg 0x3C ++ everyLinkReg 0x0C ++ everyLinkReg 0x10 ++ everyLinkReg 0x34 ++ everyLinkReg 0x30 ++ everyLinkReg 0x28) [txBytes] [] ∧ t.linkState l = 2 ∧ (t.link l).errs = (s.link l).errs + more := by
  obtain ⟨herrs, -, hst, hlim⟩ := s.linkErr_shows l HG.ERR_CNT_CODE more (.inl rfl)
  have e : exec (.linkErrorLimit l more) s = .next (s.linkErr l HG.ERR_CNT_CODE more) :=
    (if_pos hup).trans (congrArg Host.Outcome.next (if_neg fun h => by rw [hlim, herrs] at h; omega))
  exact ⟨_, e, Frame.of e (execLinkErrorLimit_touches l more (by clear * -; unfold inRegs; decide +revert) (by clear * -; unfold inRegs; decide +revert) (by clear * -; unfold inRegs; decide +revert) (by simp [inRegs]) (by simp [inRegs]) (by clear * -; unfold inRegs; decide +revert) (by clear * -; unfold inRegs; decide +revert) (by clear * -; unfold inRegs; decide +revert)) (execLinkErrorLimit_stores l more (inBytes_store txBytes (by simp))) (execLinkErrorLimit_answers l more), hst.trans (by simpa [State.linkUp] using hup), herrs⟩

/-- The timer of probes. -/
theorem reprobeTimer_probes (s : State) (l : Fin 3) (hst : s.linkState l = 4) :
    Leads (exec (.reprobeTimer l) s) fun t => s.Frame t [] ([(pFLEET, 0x0C), (pFLEET, 0x10)] ++ everyLinkReg 0x3C ++ everyLinkReg 0x0C ++ everyLinkReg 0x10 ++ everyLinkReg 0x34 ++ everyLinkReg 0x30) [txBytes] [] ∧ t.linkState l = 5 ∧ t.fld (pHG l) HG.RETIRE_INFO_PROBES = min (s.fld (pHG l) HG.RETIRE_INFO_PROBES + 1) 0xFF := by
  have e : exec (.reprobeTimer l) s = .next ((s.linkTo l 5).bump (pHG l) HG.RETIRE_INFO_PROBES 1) := congrArg Host.Outcome.next (if_pos hst)
  exact ⟨_, e, Frame.of e (execReprobeTimer_touches l (by clear * -; unfold inRegs; decide +revert) (by clear * -; unfold inRegs; decide +revert) (by clear * -; unfold inRegs; decide +revert) (by simp [inRegs]) (by simp [inRegs]) (by clear * -; unfold inRegs; decide +revert) (by clear * -; unfold inRegs; decide +revert)) (execReprobeTimer_stores l (inBytes_store txBytes (by simp))) (execReprobeTimer_answers l), s.probe_shows l⟩

/-- A clean probe. -/
theorem probingResult_clean (s : State) (l : Fin 3) (hst : s.linkState l = 5) :
    Leads (exec (.probingResult l true) s) fun t => s.Frame t [] ([(pFLEET, 0x0C), (pFLEET, 0x10)] ++ everyLinkReg 0x0C ++ everyLinkReg 0x10 ++ everyLinkReg 0x34 ++ everyLinkReg 0x30) [txBytes] [] ∧ t.linkState l = 1 ∧ t.flag (pHG l) HG.PG_STAT_LOCK = true := by
  have e : exec (.probingResult l true) s = .next ((s.linkTo l 1).put (pHG l) HG.PG_STAT_LOCK 1) := congrArg Host.Outcome.next (if_pos hst)
  obtain ⟨h1, -⟩ := s.linkTo_enters l (st := 1) (by decide) (by decide)
  refine ⟨_, e, Frame.of e (execProbingResult_touches l true (by clear * -; unfold inRegs; decide +revert) (by clear * -; unfold inRegs; decide +revert) (by simp [inRegs]) (by simp [inRegs]) (by clear * -; unfold inRegs; decide +revert) (by clear * -; unfold inRegs; decide +revert)) (execProbingResult_stores l true (inBytes_store txBytes (by simp))) (execProbingResult_answers l true), ?_, ?_⟩
  · simp -implicitDefEqProofs (disch := (clear * -; decide +revert)) [State.linkState]
    exact h1
  · simp -implicitDefEqProofs (disch := (clear * -; decide +revert)) [State.fld_put_same, State.flag_put_same, State.flag_raise]

/-- A probe without lock. -/
theorem probingResult_bad (s : State) (l : Fin 3) (hst : s.linkState l = 5) :
    Leads (exec (.probingResult l false) s) fun t => s.Frame t [] ([(pFLEET, 0x0C), (pFLEET, 0x10)] ++ everyLinkReg 0x0C ++ everyLinkReg 0x10 ++ everyLinkReg 0x34 ++ everyLinkReg 0x30) [txBytes] [] ∧ t.linkState l = 4 ∧ t.flag (pHG l) HG.PG_EVT_RETIRED = true := by
  have e : exec (.probingResult l false) s = .next (s.linkTo l 4) := congrArg Host.Outcome.next (if_pos hst)
  obtain ⟨h4, -, -, hevt, -⟩ := s.linkTo_enters l (st := 4) (by decide) (by decide)
  exact ⟨_, e, Frame.of e (execProbingResult_touches l false (by clear * -; unfold inRegs; decide +revert) (by clear * -; unfold inRegs; decide +revert) (by simp [inRegs]) (by simp [inRegs]) (by clear * -; unfold inRegs; decide +revert) (by clear * -; unfold inRegs; decide +revert)) (execProbingResult_stores l false (inBytes_store txBytes (by simp))) (execProbingResult_answers l false), h4, hevt rfl⟩

/-- The RETIRE command. -/
theorem hgCmdRetire_retires (s : State) (l : Fin 3) (key : BitVec 16) (ht : s.Takes (pHG l)) (hkey : key.toNat = 0x48E7) (hst : s.linkState l ≠ 0) :
    Leads (exec (.hgCmdRetire l key) s) fun t => s.Frame t [] ([(pFLEET, 0x0C), (pFLEET, 0x10)] ++ everyLinkReg 0x10 ++ everyLinkReg 0x3C ++ everyLinkReg 0x0C ++ everyLinkReg 0x34 ++ everyLinkReg 0x30) [txBytes] [] ∧ t.linkState l = 4 ∧ t.fld (pHG l) HG.RETIRE_INFO_CAUSE = 3 ∧ t.flag (pHG l) HG.PG_EVT_RETIRED = true := by
  have e : exec (.hgCmdRetire l key) s = .next (s.linkRetire l 3) := congrArg Host.Outcome.next ((State.keyCmd_takes ht hkey _).trans (if_neg hst))
  obtain ⟨h4, hcause, -, hevt⟩ := s.linkRetire_shows l (cause := 3) (by decide)
  exact ⟨_, e, Frame.of e (execHgCmdRetire_touches l key (by clear * -; unfold inRegs; decide +revert) (by clear * -; unfold inRegs; decide +revert) (by clear * -; unfold inRegs; decide +revert) (by simp [inRegs]) (by simp [inRegs]) (by clear * -; unfold inRegs; decide +revert) (by clear * -; unfold inRegs; decide +revert)) (execHgCmdRetire_stores l key (inBytes_store txBytes (by simp))) (execHgCmdRetire_answers l key), h4, hcause, hevt⟩

/-- The REPROBE command. -/
theorem hgCmdReprobe_probes (s : State) (l : Fin 3) (key : BitVec 16) (ht : s.Takes (pHG l)) (hkey : key.toNat = 0x48E7) (hst : s.linkState l = 4) :
    Leads (exec (.hgCmdReprobe l key) s) fun t => s.Frame t [] ([(pFLEET, 0x0C), (pFLEET, 0x10)] ++ everyLinkReg 0x10 ++ everyLinkReg 0x3C ++ everyLinkReg 0x0C ++ everyLinkReg 0x34 ++ everyLinkReg 0x30) [txBytes] [] ∧ t.linkState l = 5 ∧ t.fld (pHG l) HG.RETIRE_INFO_PROBES = min (s.fld (pHG l) HG.RETIRE_INFO_PROBES + 1) 0xFF := by
  have e : exec (.hgCmdReprobe l key) s = .next ((s.linkTo l 5).bump (pHG l) HG.RETIRE_INFO_PROBES 1) :=
    congrArg Host.Outcome.next ((State.keyCmd_takes ht hkey _).trans (if_pos hst))
  exact ⟨_, e, Frame.of e (execHgCmdReprobe_touches l key (by clear * -; unfold inRegs; decide +revert) (by clear * -; unfold inRegs; decide +revert) (by clear * -; unfold inRegs; decide +revert) (by simp [inRegs]) (by simp [inRegs]) (by clear * -; unfold inRegs; decide +revert) (by clear * -; unfold inRegs; decide +revert)) (execHgCmdReprobe_stores l key (inBytes_store txBytes (by simp))) (execHgCmdReprobe_answers l key), s.probe_shows l⟩

/-- The CLEAR_STATS command. -/
theorem hgCmdClearStats_clears (s : State) (l : Fin 3) (key : BitVec 16) (ht : s.Takes (pHG l)) (hkey : key.toNat = 0x48E7) :
    Leads (exec (.hgCmdClearStats l key) s) fun t => s.Frame t [] [(pHG l, 0x10), (pHG l, 0x38), (pHG l, 0x34), (pHG l, 0x2C), (pHG l, 0x28)] [] [] ∧ t.rd (pHG l) 0x28 = 0 ∧ t.rd (pHG l) 0x2C = 0 ∧ t.rd (pHG l) 0x34 = 0 ∧ t.rd (pHG l) 0x38 = 0 ∧ t.links = s.links := by
  have e : exec (.hgCmdClearStats l key) s = .next ((((s.wr (pHG l) 0x28 0).wr (pHG l) 0x2C 0).wr (pHG l) 0x34 0).wr (pHG l) 0x38 0) :=
    congrArg Host.Outcome.next (State.keyCmd_takes ht hkey _)
  refine ⟨_, e, Frame.of e (execHgCmdClearStats_touches l key (by simp [inRegs]) (by simp [inRegs]) (by simp [inRegs]) (by simp [inRegs]) (by simp [inRegs])) (execHgCmdClearStats_stores l key) (execHgCmdClearStats_answers l key), ?_, ?_, ?_, ?_, ?_⟩ <;> simp -implicitDefEqProofs (disch := (clear * -; decide +revert)) [State.rd_wr_ne, State.fld_wr_ne, State.flag_wr_ne, State.rd_put_ne, State.rd_raise_ne]

/-- Settles O48: each clause runs its command and reads the link's registers and hidden state. -/
theorem linkCommandsComplete : Obligations.LinkCommandsComplete := by
  unfold Obligations.LinkCommandsComplete
  exact ⟨hedgerowFrameArrive_takes, hedgerowFrameArrive_codeErrors, linkWordReceive_acks, arqTimeout_goesBack, lossOfLock_down, lockRegained_trains, trainingComplete_up, linkRetireTimeout_retires, linkErrorLimit_retires, linkErrorLimit_counts, reprobeTimer_probes, probingResult_clean, probingResult_bad, hgCmdRetire_retires, hgCmdReprobe_probes, hgCmdClearStats_clears⟩

end Sys2Proof.Machine
end

section
/-!
PROOFS. An ASSIGN frame of this node that came by the secondary ring: it is not back as long as the ring is open ahead of it.
-/

set_option Elab.async false

namespace Sys2Proof.Machine

/-- An ASSIGN frame that this node, 0, has sent, come in on EAST with a delay of 1 gathered on the way; WEST is UP. -/
def assignPasses : State :=
  { State.reset with
    regs := [(regKey (pHG 1) HG.PG_STAT_STATE.off, 2)]
    fleet := { State.reset.fleet with inbox := [⟨1, [1, 0, 0, 0, 0, 0, 0, 0, 0, 0, 0, 0, 1, 0, 0, 0], 0⟩] } }

/-- The state that ENUM_ASSIGN leaves. -/
def assignPassed : State :=
  match execEnumAssign assignPasses with
  | .next t => t
  | _ => assignPasses

theorem assignPasses_goes_on : exec .enumAssign assignPasses = .next assignPassed := rfl

theorem assignPassed_loop : assignPassed.fld pFLEET FLEET.LOOP_P_LOOP = 0 := by decide +kernel

/-- Refutes O49: the second clause takes an ASSIGN of this node as back at it, but one that came by the secondary ring passes on while WEST is open (R320, R326), and no
hypothesis names the ring. -/
theorem not_fleetNumberingCompletes : ¬ Obligations.FleetNumberingCompletes := by
  unfold Obligations.FleetNumberingCompletes
  rintro ⟨-, hback, -⟩
  obtain ⟨t, e, -, hloop, -⟩ := hback assignPasses ⟨1, [1, 0, 0, 0, 0, 0, 0, 0, 0, 0, 0, 0, 1, 0, 0, 0], 0⟩ (by decide) (by decide) (by decide) (by decide)
  rw [assignPasses_goes_on] at e
  have ht : assignPassed = t := Host.Outcome.next.inj e
  rw [← ht, assignPassed_loop] at hloop
  exact absurd hloop (by decide)

end Sys2Proof.Machine
end

section
/-!
PROOFS. A GRANT frame that waits: ENGINE_FRAME_DELIVER leaves it to its own command.
-/

set_option Elab.async false

namespace Sys2Proof.Machine

/-- A GRANT frame (type 7) is the one frame that waits. -/
def grantWaits : State := { State.reset with fleet := { State.reset.fleet with inbox := [⟨0, [7, 0, 0, 0, 0, 0, 0, 0], 0⟩] } }

theorem grantWaits_stays : exec .engineFrameDeliver grantWaits = .next grantWaits := rfl

/-- Refutes O50: the fourth clause delivers the first engine frame that waits, but a GRANT, which is an engine frame, has a command of its own (GRANT_RECEIVE, R352), and no hypothesis
shuts it out. -/
theorem not_fleetFramesComplete : ¬ Obligations.FleetFramesComplete := by
  unfold Obligations.FleetFramesComplete
  rintro ⟨-, -, -, hdeliver, -⟩
  obtain ⟨t, e, -, hwr, -⟩ := hdeliver grantWaits ⟨0, [7, 0, 0, 0, 0, 0, 0, 0], 0⟩ 97 2 0x70 (by decide) (by decide) (by decide)
  rw [grantWaits_stays] at e
  have ht : grantWaits = t := Host.Outcome.next.inj e
  rw [← ht] at hwr
  exact absurd hwr (by decide)

end Sys2Proof.Machine
end

section
/-!
PROOFS. A grant's renegotiation on a port outside EPR mode that could offer an EPR object: firmware notes the SPR objects alone as its capabilities.
-/

set_option Elab.async false

namespace Sys2Proof.Machine

/-- Port 0 supplies its partner through an EPR cable, its templates hold one object of 28 V at position 8, and the start tick of an increase has come. -/
def eprGrantDue : State :=
  { State.reset with
    phase := .run
    regs := [(regKey (pCC 0) CC.PG_STAT_STATE.off, 7), (regKey (pGUARD 0) GUARD.PG_STAT_STATE.off, 3), (regKey (pPDL 0) PG.CTRL_ENABLE.off, 1),
      (regKey (pPOL 0) POL.CFG_EPR_EN.off, 8), (regKey (pPOL 0) 0x9C, 0x8C12C), (regKey (pVDM 0) VDM.DISC_STAT_CBL_KNOWN.off, 0xFFFFFFFF),
      (regKey (pVDM 0) VDM.CBL_VDO_VDO.off, 0xFFFFFFFF)]
    place := { State.reset.place with own := State.reset.place.own.set 0 { OwnGrant.init with todo := true, kind := 1, grant := 8400 } } }

/-- The state that GRANT_APPLY leaves. -/
def eprGrantSent : State :=
  match execGrantApply none eprGrantDue with
  | .next t => t
  | _ => eprGrantDue

theorem eprGrantDue_steps : exec (.grantApply none) eprGrantDue = .next eprGrantSent := rfl

theorem eprGrantSent_caps : ((eprGrantSent.port 0).fw.caps).length = 1 := by decide +kernel

theorem eprGrantDue_caps : (eprGrantDue.buildCaps 0).length = 2 := by decide +kernel

/-- Refutes O52: the third clause keeps the whole list of buildable objects as the port's capabilities, but outside EPR mode firmware drops the EPR objects (positions above 7) before it
notes and sends the list. -/
theorem not_placementOnTheNodeCompletes : ¬ Obligations.PlacementOnTheNodeCompletes := by
  unfold Obligations.PlacementOnTheNodeCompletes
  rintro ⟨-, -, hgrant, -⟩
  obtain ⟨t, e, -, -, -, hcaps, -⟩ := hgrant eprGrantDue 0 (by decide) (by decide) (by decide) (by decide) (by decide) (by decide) (by decide) (by decide) (by decide) (by decide)
  rw [eprGrantDue_steps] at e
  have ht : eprGrantSent = t := Host.Outcome.next.inj e
  rw [← ht] at hcaps
  have hlen := congrArg List.length hcaps
  rw [eprGrantSent_caps, eprGrantDue_caps] at hlen
  exact absurd hlen (by decide)

end Sys2Proof.Machine
end

section
/-!
PROOFS. A run of the gauge that confirms EDV0 below the floor: the direction it wrote before is not that of the new full charge capacity.
-/

set_option Elab.async false

namespace Sys2Proof.Machine

/-- The gauge with RM at its floor and a deficit of 1,000, discharging, one run before it confirms EDV0. -/
def edv0Due : State :=
  { State.reset with
    phase := .run
    regs := [(regKey pGAUGE PG.CTRL_ENABLE.off, 1), (regKey pGAUGE GAUGE.I_AVG1_I.off, 0xFFFFFD), (regKey pGAUGE GAUGE.FCC_Q.off, 100),
      (regKey pGAUGE GAUGE.DEFICIT_Q.off, 0xFFFC18), (regKey pGAUGE GAUGE.DESIGN_CAP.off, 1000), (regKey pGAUGE GAUGE.EDV0_EOC_EDV0.off, 0xFFFFFFFF),
      (regKey pGAUGE GAUGE.STATE_FLOOR.off, BitVec.ofNat 32 (2 ^ GAUGE.STATE_FLOOR.lo))]
    gauge := { State.reset.gauge with edvRuns := #v[0, 0, 3] } }

/-- The state that GAUGE_RUN leaves. -/
def edv0Ran : State :=
  match execGaugeRun edv0Due with
  | .next t => t
  | _ => edv0Due

theorem edv0Due_steps : exec .gaugeRun edv0Due = .next edv0Ran := rfl

theorem edv0Ran_dir : edv0Ran.fld pGAUGE GAUGE.STATE_DIR = 2 := by decide +kernel

theorem edv0Ran_gDir : edv0Ran.gDir = 0 := by decide +kernel

/-- Refutes O54: the seventh clause reads the direction by the state after the run, but the run writes STATE.DIR before EDV0 may set a new FCC (R385), against which the same current
counts as idle. -/
theorem not_gaugeCommandsComplete : ¬ Obligations.GaugeCommandsComplete := by
  unfold Obligations.GaugeCommandsComplete
  rintro ⟨-, -, -, -, -, -, hrun, -⟩
  obtain ⟨t, e, -, -, hdir⟩ := hrun edv0Due (by decide) (by decide) (by decide)
  rw [edv0Due_steps] at e
  have ht : edv0Ran = t := Host.Outcome.next.inj e
  rw [← ht, edv0Ran_dir, edv0Ran_gDir] at hdir
  exact absurd hdir (by decide)

end Sys2Proof.Machine
end

section
/-!
PROOFS. A block read that ends without a PEC while the host bus requires one.
-/

set_option Elab.async false

namespace Sys2Proof.Machine

/-- The host bus requires a PEC, and the window names node 1, which this device does not reach. -/
def pecRequired : State :=
  { State.reset with
    phase := .run
    regs := [(regKey pHOST HOST.WINDOW_NODE.off, 1), (regKey pHOST HOST.CFG_PEC_REQ.off, BitVec.ofNat 32 (2 ^ HOST.CFG_PEC_REQ.lo)),
      (regKey pSUP SUP.PG_STAT_VDDIO_OK.off, BitVec.ofNat 32 (2 ^ SUP.PG_STAT_VDDIO_OK.lo))] }

/-- The state that a READ_BLOCK of four bytes without PEC leaves. -/
def pecRefused : State :=
  match execReadBlock 4 false none pecRequired with
  | .next t => t
  | _ => pecRequired

theorem pecRequired_steps : exec (.readBlock 4 false none) pecRequired = .next pecRefused := rfl

theorem pecRefused_code : pecRefused.fld pHOST HOST.LAST_CODE = 8 := by decide +kernel

/-- Refutes O55: the sixth clause reads without a PEC and expects NO_NODE, but no hypothesis says that the device takes a read without one; with PEC_REQ = 1 it ends as an error (R404). -/
theorem not_hostReadsAndWritesComplete : ¬ Obligations.HostReadsAndWritesComplete := by
  unfold Obligations.HostReadsAndWritesComplete
  rintro ⟨-, -, -, -, -, hread, -⟩
  obtain ⟨t, e, -, hcode, -⟩ := hread pecRequired 4 (by decide) (by decide) (by decide) (by decide) (by decide) (by decide) (by decide) (by decide)
  rw [pecRequired_steps] at e
  have ht : pecRefused = t := Host.Outcome.next.inj e
  rw [← ht, pecRefused_code] at hcode
  exact absurd hcode (by decide)

end Sys2Proof.Machine
end

section
/-!
PROOFS. A confirmation of the running image while data flash takes writes but no erase, and the slot for the boot record is not blank.
-/

set_option Elab.async false

namespace Sys2Proof.Machine

/-- Bank A runs on trial, slot 0 of area 0 has been programmed before, and VSYS is too low for an erase (R73). -/
def trialUnerasable : State :=
  { State.reset with
    phase := .run
    nvd := [(0, 0)]
    boot := { State.reset.boot with now := { State.reset.boot.now with a := ⟨.trial, 0⟩ } } }

/-- The state that a CONFIRM leaves. -/
def trialUnconfirmed : State :=
  match execUpdCmdConfirm false 0xA17E trialUnerasable with
  | .next t => t
  | _ => trialUnerasable

theorem trialUnerasable_steps : exec (.updCmdConfirm false 0xA17E) trialUnerasable = .next trialUnconfirmed := rfl

theorem trialUnconfirmed_trial : trialUnconfirmed.bankState trialUnerasable.activeBank = .trial := by decide +kernel

/-- Refutes O57: the seventh clause asks only that data flash takes writes (nvOk); where the journal's slot is not blank the boot record needs an erase too, and without it CONFIRM ends
with an error and the bank stays on trial (Table 18.3). -/
theorem not_hostUpdateCommandsComplete : ¬ Obligations.HostUpdateCommandsComplete := by
  unfold Obligations.HostUpdateCommandsComplete
  rintro ⟨-, -, -, -, -, -, hconfirm, -⟩
  obtain ⟨t, e, hstate, -⟩ := hconfirm trialUnerasable false 0xA17E (by decide) (by decide) (by decide) (by decide)
  rw [trialUnerasable_steps] at e
  have ht : trialUnconfirmed = t := Host.Outcome.next.inj e
  rw [← ht, trialUnconfirmed_trial] at hstate
  exact absurd hstate (by decide)

end Sys2Proof.Machine
end

section
/-!
PROOFS. A COMMIT of a complete fleet image while data flash takes writes but no erase, and the slot for the boot record is not blank.
-/

set_option Elab.async false

namespace Sys2Proof.Machine

/-! ### What COMMIT does then -/

/-- With every byte of the store sound, the check of the word mask changes nothing (R459). -/
theorem State.maskCheck_sound {s : State} (hbad : s.st.bad = []) : s.maskCheck = s := by
  have hstep : ∀ k, s.stBadIn (maskAt + 128 * k) 128 = false := fun k => by rw [State.stBadIn, hbad]; rfl
  unfold State.maskCheck
  induction List.range 128 with
  | nil => rfl
  | cons k l ih => rw [List.foldl_cons, hstep, if_neg Bool.false_ne_true, ih]

/-- A frame of the session on a node without one changes nothing beside what it orders. -/
theorem State.imgOn_of_none {s : State} (hnamed : s.upd.named = true) (himg : s.upd.img = none) (f : State → State) : s.imgOn f = f s := by
  have hsame : { s with upd := { s.upd with img := s.upd.img.map fun m => { m with last := s.tick } } } = s := by
    rw [himg, Option.map_none, ← himg]
  rw [State.imgOn, if_pos hnamed, hsame]

/-- The journal takes no record now: the commit of a complete image fails with result 10 (Table 18.3). -/
theorem State.updCommit_unjournaled {s : State} {src : Nat} (hrefuse : s.updRefuse = 0) (hses : s.fld pUPD UPD.STAT_SESSION = src) (hbad : s.st.bad = [])
    (hhdr : s.hdrOk s.idleBank = true) (hlen : s.hdrNat s.idleBank 8 4 = 512) (h0 : s.pageHere 0 = true) (h1 : s.pageHere 1 = true) (hmay : s.bootMay = false) :
    s.updCommit src = (s, 10) := by
  have hall : (List.range (s.hdrNat s.idleBank 8 4 / 256)).all s.pageHere = true := by
    rw [hlen]
    simp [List.range, List.range.loop, h0, h1]
  unfold State.updCommit
  rw [if_neg (by simp [hrefuse]), if_neg (by simp [hses])]
  simp only [State.maskCheck_sound hbad, h0, hhdr, hall, hmay, Bool.not_true, Bool.not_false, Bool.or_self, if_true, Bool.false_eq_true, if_false]

/-- COMMIT of a complete image, on a node whose journal takes no record: all that a receive entry and the node's state must show for it. -/
structure State.CommitsUnjournaled (s : State) : Prop where
  runs : s.fw = true ∧ s.upd.named = true ∧ s.upd.img = none
  type : s.rxType 0 = 0xB
  payload : s.rxPayload 0 = [4, 0, 0, 0]
  checks : s.stChecks (rxfAt 0) 512 = true
  may : s.updRefuse = 0 ∧ s.fld pUPD UPD.STAT_SESSION = 2 ∧ s.bootMay = false ∧ s.st.bad = []
  header : s.hdrOk s.idleBank = true ∧ s.hdrNat s.idleBank 8 4 = 512
  pages : s.pageHere 0 = true ∧ s.pageHere 1 = true

/-- COMMIT leaves its result and the report that is owed. -/
theorem State.CommitsUnjournaled.steps {s : State} (h : s.CommitsUnjournaled) : exec (.imgCommit 0) s = .next (((s.updResult 10).reportOwe 2).rxRelease 0) := by
  obtain ⟨⟨hfw, hnamed, himg⟩, htype, hpayload, hchecks, ⟨hrefuse, hses, hmay, hbad⟩, ⟨hhdr, hlen⟩, h0, h1⟩ := h
  have hlive : s.live = true := (Bool.and_eq_true_iff.1 hfw).1
  show execImgCommit 0 s = _
  unfold execImgCommit State.imgFrame
  dsimp only
  rw [State.imgOn_of_none hnamed himg, State.updCommit_unjournaled hrefuse hses hbad hhdr hlen h0 h1 hmay]
  simp [hlive, htype, hpayload, hchecks, byteAt]

/-- The release of a receive entry writes its queue's read index alone. -/
theorem State.fld_rxRelease {s : State} {i pg : Nat} {f : Fld} (h : regKey pg f.off ≠ regKey pFLEET FLEET.RXQ_RD_INDEX.off) :
    (s.rxRelease i).fld pg f = s.fld pg f := by
  unfold State.rxRelease
  split
  · exact State.fld_put_ne _ _ h
  · rfl

/-- The result that a COMMIT without journal shows. -/
theorem State.commit_result (s : State) : (((s.updResult 10).reportOwe 2).rxRelease 0).fld pUPD UPD.STAT_RESULT = 10 := by
  rw [State.fld_rxRelease (by decide)]
  have hregs : ((s.updResult 10).reportOwe 2).regs = (s.updResult 10).regs := rfl
  rw [State.fld_of_regs hregs, State.updResult, State.fld_raise_ne _ _ (by decide), State.fld_put_same _ _ _ _ (by decide)]
  decide

/-! ### The state -/

/-- An IMG frame (type 11) of four bytes, COMMIT, as a receive entry. -/
def commitEntry : List Byte := [0x0B, 0, 0, 4, 0, 0, 0, 0] ++ [4, 0, 0, 0] ++ List.replicate 498 0

/-- The header of an image of 512 bytes. -/
def smallHeader : List Byte := leBytes 4 0x4C594D49 ++ leBytes 2 1 ++ leBytes 2 256 ++ leBytes 4 512 ++ leBytes 12 0 ++ leBytes 4 8 ++ leBytes 4 0

/-- A node in a fleet session with a sound header in bank B, whose slot 0 of area 0 has been programmed before, and with VSYS too low for an erase. -/
def commitBase : State :=
  { State.reset with
    phase := .run
    regs := [(regKey pUPD UPD.STAT_SESSION.off, BitVec.ofNat 32 (2 * 2 ^ UPD.STAT_SESSION.lo))]
    nvd := [(0, 0)]
    code := Sparse.setList flashDflt (Sparse.setList flashDflt [] 0x80000 smallHeader) (0x80000 + 192) (List.replicate 64 0)
    upd := { State.reset.upd with named := true } }

/-- The same node with both pages arrived and the COMMIT in receive entry 0. -/
def commitDue : State := (commitBase.stWrite maskAt (List.replicate 16 0xFF)).stRecord (rxfAt 0) commitEntry

theorem length_commitEntry : commitEntry.length = 510 := by
  rw [commitEntry, List.length_append, List.length_append, List.length_replicate]
  rfl

theorem commitDue_checks : commitDue.stChecks (rxfAt 0) 512 = true := by
  have h := ((commitBase.stWrite maskAt (List.replicate 16 0xFF)).stRecord_checks (a := rxfAt 0) (body := commitEntry) (by rw [length_commitEntry]; decide)).2
  rwa [length_commitEntry] at h

/-- A part of the entry as it stands in the store. -/
theorem commitDue_entry {x y z : List Byte} (h : commitEntry = x ++ y ++ z) : commitDue.stRead (rxfAt 0 + x.length) y.length = y := by
  have hlen := length_commitEntry
  have hmid := (commitBase.stWrite maskAt (List.replicate 16 0xFF)).stRead_stWrite_mid (a := rxfAt 0) x y (z ++ leBytes 2 (crc16 commitEntry))
    (by simp only [h, List.length_append] at hlen; simp only [List.length_append, length_leBytes, rxfAt, storeTop]; omega)
  rw [← List.append_assoc, ← h] at hmid
  exact hmid

theorem commitDue_type : commitDue.rxType 0 = 0xB := by
  have h := commitDue_entry (x := []) (y := [0x0B]) (z := [0, 0, 4, 0, 0, 0, 0] ++ [4, 0, 0, 0] ++ List.replicate 498 0) rfl
  have h' : commitDue.stRead (rxfAt 0) 1 = [0x0B] := h
  rw [State.rxType, State.stNat, h']
  decide

theorem commitDue_payload : commitDue.rxPayload 0 = [4, 0, 0, 0] := by
  have hlen := commitDue_entry (x := [0x0B, 0, 0]) (y := [4, 0]) (z := [0, 0, 0] ++ [4, 0, 0, 0] ++ List.replicate 498 0) rfl
  have hlen' : commitDue.stRead (rxfAt 0 + 3) 2 = [4, 0] := hlen
  have hnum : min 256 (bitsOf (leNat [4, 0]) 0 9) = 4 := by decide
  rw [State.rxPayload, State.stNat, hlen', hnum]
  exact commitDue_entry (x := [0x0B, 0, 0, 4, 0, 0, 0, 0]) (y := [4, 0, 0, 0]) (z := List.replicate 498 0) rfl

/-- The word mask of the two pages is set. -/
theorem commitDue_page (x z : List Byte) (h : List.replicate 16 (0xFF : Byte) = x ++ List.replicate 8 0xFF ++ z) :
    commitDue.stRead (maskAt + x.length) 8 = List.replicate 8 0xFF := by
  have hout : commitDue.stRead (maskAt + x.length) 8 = (commitBase.stWrite maskAt (List.replicate 16 0xFF)).stRead (maskAt + x.length) 8 :=
    State.stRead_stWrite_above _ (by rw [List.length_append, length_commitEntry, length_leBytes]; simp [rxfAt, maskAt]; omega)
  rw [hout, h]
  exact commitBase.stRead_stWrite_mid (a := maskAt) x (List.replicate 8 0xFF) z (by rw [← h]; decide)

theorem commitDue_page0 : commitDue.pageHere 0 = true := by
  have h : commitDue.stRead (maskAt + 8 * 0) 8 = List.replicate 8 0xFF := commitDue_page [] (List.replicate 8 0xFF) rfl
  rw [State.pageHere, State.stNat, h]
  decide

theorem commitDue_page1 : commitDue.pageHere 1 = true := by
  have h : commitDue.stRead (maskAt + 8 * 1) 8 = List.replicate 8 0xFF := commitDue_page (List.replicate 8 0xFF) [] rfl
  rw [State.pageHere, State.stNat, h]
  decide

theorem commitDue_header : commitDue.hdrOk commitDue.idleBank = true ∧ commitDue.hdrNat commitDue.idleBank 8 4 = 512 := by decide +kernel

theorem commitDue_unjournaled : commitDue.updRefuse = 0 ∧ commitDue.fld pUPD UPD.STAT_SESSION = 2 ∧ commitDue.bootMay = false ∧ commitDue.st.bad = [] := by decide +kernel

theorem commitDue_runs : commitDue.fw = true ∧ commitDue.upd.named = true ∧ commitDue.upd.img = none := ⟨by decide +kernel, rfl, rfl⟩

theorem commitDue_commits : commitDue.CommitsUnjournaled :=
  ⟨commitDue_runs, commitDue_type, commitDue_payload, commitDue_checks, commitDue_unjournaled, commitDue_header, commitDue_page0, commitDue_page1⟩

/-- Refutes O58: the seventh clause expects a complete image to be staged, but no hypothesis says that the journal can take the boot record; where it cannot, COMMIT ends with result 10
(R464, Table 18.3). -/
theorem not_fleetUpdateCommandsComplete : ¬ Obligations.FleetUpdateCommandsComplete := by
  unfold Obligations.FleetUpdateCommandsComplete
  rintro ⟨-, -, -, -, -, -, hcommit, -⟩
  obtain ⟨s, h⟩ : ∃ s : State, s.CommitsUnjournaled := ⟨commitDue, commitDue_commits⟩
  obtain ⟨t, e, hresult, -⟩ := hcommit s 0 h.runs.1 h.type (by rw [Fin.val_zero, h.payload]; rfl) (by rw [Fin.val_zero, h.payload]; rfl) h.checks h.runs.2.1
    h.may.1 h.may.2.1 h.pages.1 h.pages.2 h.header.1 h.header.2
  rw [h.steps] at e
  rw [← Host.Outcome.next.inj e, State.commit_result] at hresult
  exact absurd hresult (by decide)

end Sys2Proof.Machine
end

section
/-!
PROOFS. Stretches, time-outs, Host Notify and register access across the fleet (R408-R420, R330-R332).
-/

set_option Elab.async false

namespace Sys2Proof.Machine

variable {s : State}

/-! ### The summary and the host page -/

/-- The summary reads nothing of the host page beside its events (R413). -/
theorem State.hostSum_put {f : Fld} (v : Nat) (hf : 0x20 ≤ f.off ∧ f.off < 256) : (s.put pHOST f v).hostSum = s.hostSum := by
  have key : ∀ pg off, off < 256 → pg ≠ pHOST ∨ off < 0x20 → regKey pg off ≠ regKey pHOST f.off := by
    intro pg off hoff h
    unfold regKey
    omega
  have hrd : ∀ pg off, off < 256 → pg ≠ pHOST ∨ off < 0x20 → (s.put pHOST f v).rd pg off = s.rd pg off := fun pg off hoff h => State.rd_put_ne s v (key pg off hoff h)
  have hfld : ∀ pg (g : Fld), g.off < 256 → pg ≠ pHOST → (s.put pHOST f v).fld pg g = s.fld pg g := fun pg g hoff h => State.fld_put_ne s v (key pg g.off hoff (.inl h))
  have hbit : ∀ pg, (s.put pHOST f v).pendBit pg = s.pendBit pg := by
    intro pg
    unfold State.pendBit
    rw [hrd pg 0x10 (by decide) (.inr (by decide)), hrd pg 0x14 (by decide) (.inr (by decide))]
  have hrole : (s.put pHOST f v).role = s.role := congrArg Role.ofCode (hfld pSYS _ (by decide) (by decide))
  have hacting : (s.put pHOST f v).acting = s.acting := congrArg Role.ofCode (hfld pSYS _ (by decide) (by decide))
  have hplaces : (s.put pHOST f v).places = s.places := by
    unfold State.places
    rw [hrole, hacting]
  have hnode : (s.put pHOST f v).node = s.node := by
    unfold State.node
    rw [hrole, hfld pID _ (by decide) (by decide)]
  have hattn : (s.put pHOST f v).attn = s.attn := by
    unfold State.attn
    refine Bool.eq_iff_iff.2 ?_
    rw [List.any_eq_true, List.any_eq_true]
    refine exists_congr fun pg => and_congr_right fun hpg => ?_
    have hlt : pg / 32 < 8 := (by decide : ∀ pg ∈ allPages, pg / 32 < 8) pg hpg
    rw [hbit, hfld pEVT _ (by show 0x40 + 4 * (pg / 32) < 256; omega) (by decide)]
  have hsum : ∀ w, w < 2 → (s.put pHOST f v).evtSum w = s.evtSum w := by
    intro w hw
    unfold State.evtSum
    rw [hfld pFLEET _ (by show 0x50 + 4 * w < 256; omega) (by decide), hplaces, hnode, hattn]
  unfold State.hostSum
  rw [hplaces, hrole, hsum 0 (by decide), hsum 1 (by decide), hattn, hnode]

/-- A bit of a map of nodes that is written reads back. -/
theorem State.mapBit_setMapBit {pg : Nat} {f : Fld} {node : Nat} (b : Bool) (hlo : f.lo = 0) (hw : f.w = 32) (hn : node < 64) :
    (s.setMapBit pg f node b).mapBit pg f node = b := by
  have hat : node % 64 / 32 = node / 32 := by omega
  unfold State.setMapBit State.mapBit
  rw [hat, State.fld_put_same _ _ _ _ (by simp [Fld.at, hlo, hw]), bitAt_eq_testBit, Nat.testBit_mod_two_pow, decide_eq_true (by simp only [Fld.at, hw]; omega), Bool.true_and,
    ← bitAt_eq_testBit, bitAt_setBits_one, if_pos rfl]

/-! ### Frames that wait at a link -/

/-- A whole frame, of a type, to a node, with a payload. -/
def FrameIs (typ dest : Nat) (payload : List Byte) (f : TxF) : Prop :=
  8 ≤ f.bytes.length ∧ frType f.bytes = typ ∧ frDest f.bytes = dest ∧ frPayload f.bytes = payload

/-- Such a frame stands at a link's transmitter. -/
def State.Stands (s : State) (l : Link) (typ dest : Nat) (payload : List Byte) : Prop := ∃ f ∈ (s.link l).win ++ (s.link l).queue, FrameIs typ dest payload f

theorem State.Stands.carries {l : Link} {typ dest : Nat} {payload : List Byte} (h : s.Stands l typ dest payload) : s.Carries l typ dest payload := by
  obtain ⟨f, hmem, -, htyp, hdest, hpay⟩ := h
  refine List.any_eq_true.2 ⟨f, hmem, ?_⟩
  simp [htyp, hdest, hpay]

/-- A header that keeps its first two bytes, before the same payload. -/
theorem FrameIs.of_bytes {typ dest : Nat} {payload : List Byte} {f g : TxF} (h : FrameIs typ dest payload f) (hlen : 8 ≤ g.bytes.length)
    (h01 : g.bytes.take 2 = f.bytes.take 2) (hdrop : g.bytes.drop 8 = f.bytes.drop 8) : FrameIs typ dest payload g := by
  obtain ⟨hf, htyp, hdest, hpay⟩ := h
  have hget : ∀ i, i < 2 → byteAt g.bytes i = byteAt f.bytes i := by
    intro i hi
    have hg2 : ∀ l : List Byte, (l.take 2)[i]? = l[i]? := fun l => List.getElem?_take_of_lt hi
    have := congrArg (fun l : List Byte => l[i]?) h01
    simp only [hg2] at this
    simp [byteAt, List.getD_eq_getElem?_getD, this]
  refine ⟨hlen, ?_, ?_, ?_⟩
  · rw [frType, hget 0 (by decide), ← frType, htyp]
  · rw [frDest, hget 1 (by decide), ← frDest, hdest]
  · rw [frPayload, hdrop, ← frPayload, hpay]

/-- A frame that takes its sequence number (R322). -/
theorem FrameIs.seqFrame {typ dest : Nat} {payload : List Byte} {f : TxF} (h : FrameIs typ dest payload f) (seq : Nat) :
    FrameIs typ dest payload { f with bytes := seqFrame f.bytes seq } := by
  have hlen := h.1
  refine h.of_bytes ?_ ?_ ?_
  · simp [Sys2Proof.Machine.seqFrame]
    omega
  · simp only [Sys2Proof.Machine.seqFrame, List.append_assoc]
    rw [List.take_append_of_le_length (by simp; omega), List.take_take]
    rfl
  · have h8 : (f.bytes.take 6 ++ leBytes 1 (byteAt f.bytes 6 / 16 * 16 + seq % 16) ++ leBytes 1 (crc8 (f.bytes.take 6 ++ leBytes 1 (byteAt f.bytes 6 / 16 * 16 + seq % 16)))).length = 8 := by
      simp
      omega
    show (_ ++ List.drop 8 f.bytes).drop 8 = _
    rw [List.drop_append, h8, List.drop_eq_nil_of_le (by omega), Nat.sub_self, List.drop_zero, List.nil_append]

/-- A frame that starts its way on a ring (Table 13.3). -/
theorem FrameIs.hopFrame {typ dest : Nat} {payload : List Byte} {b : List Byte} {x y : Option Nat} {z w : Bool} (h : FrameIs typ dest payload ⟨b, x, z⟩) (hops : Nat) (wrapped : Bool)
    (ring : Nat) : FrameIs typ dest payload ⟨hopFrame b hops wrapped ring, y, w⟩ := by
  have hlen : 8 ≤ b.length := h.1
  refine h.of_bytes ?_ ?_ ?_
  · simp [Sys2Proof.Machine.hopFrame]
    omega
  · simp only [Sys2Proof.Machine.hopFrame, List.append_assoc]
    rw [List.take_append_of_le_length (by simp; omega), List.take_take]
    rfl
  · have h7 : (b.take 5 ++ leBytes 1 (hops % 128 + 128 * wrapped.toNat) ++ leBytes 1 (16 * (ring % 2))).length = 7 := by
      simp
      omega
    show (_ ++ List.drop 7 b).drop 8 = _
    rw [List.drop_append, h7, List.drop_eq_nil_of_le (by omega), List.nil_append, List.drop_drop]

/-- A frame of the wire format is what it was made of. -/
theorem frameIs_mkFrame {typ dest src tag : Nat} {payload : List Byte} {x : Option Nat} {z : Bool} (ht : typ < 16) (hd : dest < 128) :
    FrameIs typ dest payload ⟨mkFrame typ false dest src tag payload, x, z⟩ := by
  refine ⟨?_, ?_, ?_, ?_⟩
  · simp [mkFrame]
    omega
  · simp [mkFrame, frType, byteAt, leBytes, bitsOf]
    omega
  · simp [mkFrame, frDest, byteAt, leBytes, bitsOf]
    omega
  · simp [mkFrame, frPayload, leBytes]

/-- A frame put on the line stands in the window. -/
theorem State.transmit_stands (l : Link) {f : TxF} {typ dest : Nat} {payload : List Byte} (h : FrameIs typ dest payload f ∨ s.Stands l typ dest payload) :
    (s.transmit l f).Stands l typ dest payload := by
  have hwin : ((s.transmit l f).link l).win = (s.link l).win ++ [{ f with bytes := seqFrame f.bytes (s.fld (pHG l) HG.WINDOW_TX_NEXT) }] := by
    unfold State.transmit State.incr
    simp -implicitDefEqProofs (disch := (clear * -; decide +revert)) []
  have hqueue : ((s.transmit l f).link l).queue = (s.link l).queue := by
    unfold State.transmit State.incr
    simp -implicitDefEqProofs (disch := (clear * -; decide +revert)) []
  unfold State.Stands
  rw [hwin, hqueue]
  rcases h with h | ⟨g, hmem, hg⟩
  · exact ⟨_, List.mem_append_left _ (List.mem_append_right _ (List.mem_singleton_self _)), h.seqFrame _⟩
  · rcases List.mem_append.1 hmem with hm | hm
    · exact ⟨g, by simp [hm], hg⟩
    · exact ⟨g, by simp [hm], hg⟩

/-- A frame that stands at a link goes on standing while its queue is sent. -/
theorem State.drain_stands (l : Link) {typ dest : Nat} {payload : List Byte} (h : s.Stands l typ dest payload) : (s.drain l).Stands l typ dest payload := by
  unfold State.drain
  induction List.range 8 generalizing s with
  | nil => exact h
  | cons k ks ih =>
    rw [List.foldl_cons]
    refine ih ?_
    split
    · exact h
    next f fs hqueue =>
      split
      · refine State.transmit_stands l ?_
        obtain ⟨g, hmem, hg⟩ := h
        rw [hqueue] at hmem
        rcases List.mem_append.1 hmem with hm | hm
        · exact .inr ⟨g, by simp [hm], hg⟩
        · rcases List.mem_cons.1 hm with rfl | hm
          · exact .inl hg
          · exact .inr ⟨g, by simp [hm], hg⟩
      · exact h

theorem mem_insertFrame (f : TxF) (l : List TxF) : f ∈ insertFrame f l := by
  induction l with
  | nil => simp [insertFrame]
  | cons x xs ih =>
    unfold insertFrame
    split
    · simp
    · exact List.mem_cons_of_mem _ ih

/-- A frame sent at a link stands there. -/
theorem State.linkSend_stands (l : Link) {f : TxF} {typ dest : Nat} {payload : List Byte} (h : FrameIs typ dest payload f) : (s.linkSend l f).Stands l typ dest payload :=
  State.drain_stands l ⟨f, by simp [mem_insertFrame], h⟩

/-- A frame to a node goes out of WEST while that ring is open (R324). -/
theorem State.sendTo_carries {typ dest tag : Nat} {payload : List Byte} (hopen : s.ringOpen 0 = true) (ht : typ < 16) (hd : dest < 128) :
    (s.sendTo typ dest tag payload).Carries 0 typ dest payload := by
  unfold State.sendTo State.ringSend
  rw [if_pos hopen]
  exact (State.linkSend_stands 0 ((frameIs_mkFrame ht hd (x := none) (z := false)).hopFrame _ _ _)).carries

/-! ### Reads of registers -/

/-- The row of page 0 (Table 2.9). -/
theorem pageRow_zero : ∃ r, pageRow 0 = some r ∧ r.kind = .id ∧ r.type = 1 ∧ r.base = 0 ∧ (r.reg 0).isNone = true := ⟨_, rfl, by decide⟩

/-- The first word of page 0 reads its identity (Table 2.3). -/
theorem State.readWords_id (hlive : s.live = true) (rq : Req) : s.readWords rq 0 1 0 = (s, [0x01000100]) := by
  obtain ⟨r, hr, hkind, htype, hbase, hreg⟩ := pageRow_zero
  have hreg' : r.reg 0 = none := Option.isNone_iff_eq_none.1 hreg
  have hread : s.regRead rq 0 0 = (s, 0x01000100) := by
    simp [State.regRead, hr, hlive, State.pageAbsent, hkind, lowWord, hreg', State.view, State.shown, capMask, htype, hbase]
  unfold State.readWords
  rw [hread]
  rfl

/-- The row of the flash page (Table 2.9): a read of RD_DATA clears nothing. -/
theorem pageRow_flash : ∃ r, pageRow pFLASH = some r ∧ r.kind = .flash ∧ ((r.reg 0x38).all fun x => x.rc == 0) = true := ⟨_, rfl, by decide⟩

/-- A read of FLASH.RD_DATA advances its address (Table 18.8). -/
theorem State.regRead_flashData (rq : Req) (ht : s.Takes pFLASH) : ∃ w, s.regRead rq pFLASH 0x38 = (s.incr pFLASH FLASH.RD_ADDR_WORD, w) := by
  obtain ⟨hlive, hreset⟩ := ht
  obtain ⟨r, hr, hkind, hrc⟩ := pageRow_flash
  refine ⟨s.view r pFLASH 0x38, ?_⟩
  unfold State.regRead
  simp only [show (0x38 : Nat) % 256 / 4 * 4 = 0x38 from rfl, hr, hlive, State.pageAbsent, hkind, hreset]
  cases hreg : r.reg 0x38 with
  | none => simp [lowWord]
  | some x =>
    have hx : x.rc = 0 := by simpa [hreg] using hrc
    simp [lowWord, hx]

/-- Following the summary changes no map of nodes. -/
theorem State.mapBit_hostWatch {node : Nat} (hn : node < 64) : s.hostWatch.mapBit pFLEET FLEET.EVT_SUM_NODES node = s.mapBit pFLEET FLEET.EVT_SUM_NODES node := by
  unfold State.mapBit State.hostWatch
  dsimp only
  split
  · rw [State.fld_put_ne _ _ (regKey_ne_page (by decide) (by show 0x50 + 4 * (node / 32) < 256; omega) (by decide)), State.fld_modHost]
  · rfl

/-- The answer to a read that nothing stretches for is held (R411). -/
theorem State.proxyEnd_read {p : Proxy} {r : RRead} {status : Nat} {words : List Word} (hwrite : p.write = false) (hread : s.host.read = some r) (hwait : s.host.wait = none) :
    s.proxyEnd p (some status) words = (s.modFleet fun f => { f with proxy := none }).modHost fun h =>
      { h with read := none, held := some { r with status := status, words := words, tick := s.tick } } := by
  have hread' : (s.modFleet fun f => { f with proxy := none }).host.read = some r := hread
  have hwait' : ((s.modFleet fun f => { f with proxy := none }).modHost fun h => { h with read := none }).host.wait = none := hwait
  unfold State.proxyEnd
  simp only [hwrite, Bool.false_eq_true, if_false, hread', hwait']
  rfl

/-! ### Attempts of a notify -/

/-- An attempt that fails counts among the tries (R420). -/
def State.attemptFailed (s : State) : State :=
  ((s.bump pHOST HOST.ERR_CNT_ARB 1).put pHOST HOST.NOTIFY_STAT_TRIES (min 9 (s.fld pHOST HOST.NOTIFY_STAT_TRIES + 1))).modHost fun h => { h with onBus := false }

theorem State.attemptFailed_tries : s.attemptFailed.fld pHOST HOST.NOTIFY_STAT_TRIES = min 9 (s.fld pHOST HOST.NOTIFY_STAT_TRIES + 1) := by
  simp -implicitDefEqProofs (disch := (clear * -; decide +revert)) [State.attemptFailed, State.fld_put_same, State.flag_put_same, State.flag_raise]
  exact Nat.mod_eq_of_lt (Nat.lt_of_le_of_lt (Nat.min_le_left _ _) (by decide))

/-- A posted operation that lasts longer than the stretch. -/
theorem stretchEnd_busy (s : State) (us : BitVec 16) (hwait : s.host.wait = some (.posted (.readWord false none))) (hpec : s.pecReq = false) :
    Leads (exec (.stretchEnd us) s) fun t => s.Frame t [] [(pHOST, 0x10), (pHOST, 0x3C), (pHOST, 0x30), (pHOST, 0x2C), (pHOST, 0x34)] [] [] ∧ t.host.wait = none ∧ t.fld pHOST HOST.LAST_CODE = 9 ∧ t.flag pHOST HOST.PG_EVT_STRETCH_LIMIT = true ∧ t.fld pHOST HOST.STRETCH_MAX_US = max us.toNat (s.fld pHOST HOST.STRETCH_MAX_US) ∧ t.fld pHOST HOST.STRETCH_LAST_TOTAL_US = min 65535 (s.host.total + us.toNat) ∧ t.host.held = none := by
  let u : State := ((s.stretched us.toNat).raise pHOST HOST.PG_EVT_STRETCH_LIMIT).heldDrop
  have hu : u.pecReq = false := by
    rw [← hpec]
    simp -implicitDefEqProofs (disch := (clear * -; decide +revert)) [u, State.pecReq, State.heldDrop, State.stretched]
  obtain ⟨sent, hbusy⟩ : ∃ sent, u.hostBusy (.readWord false none) = (u.modHost fun h => { h with sent := sent }).hostLoad 9 4 0 := by
    refine ⟨[0, 0, 0, 0], ?_⟩
    simp [State.hostBusy, HostCmd.refused?, State.wordsFinish, HostCmd.read?, State.readFinish, rdEnd, hu, HostCmd.code, wordBytes, List.replicate]
  have e : exec (.stretchEnd us) s = .next ((u.modHost fun h => { h with sent := sent }).hostLoad 9 4 0) := by
    rw [← hbusy]
    show execStretchEnd us s = _
    unfold execStretchEnd
    rw [hwait]
  refine ⟨_, e, Frame.of e (execStretchEnd_touches us (by simp [inRegs]) (by simp [inRegs]) (by simp [inRegs]) (by simp [inRegs]) (by simp [inRegs])) (execStretchEnd_stores us) (execStretchEnd_answers us), ?_, ?_, ?_, ?_, ?_, ?_⟩
  · simp -implicitDefEqProofs (disch := (clear * -; decide +revert)) [State.hostLoad, State.modHost, u, State.heldDrop, State.stretched]
  · simp -implicitDefEqProofs (disch := (clear * -; decide +revert)) [State.hostLoad, State.fld_put_same, State.flag_put_same, State.flag_raise]
    rfl
  · simp -implicitDefEqProofs (disch := (clear * -; decide +revert)) [State.hostLoad, u, State.heldDrop, State.stretched, State.fld_put_same, State.flag_put_same, State.flag_raise]
  · simp -implicitDefEqProofs (disch := (clear * -; decide +revert)) [State.hostLoad, u, State.heldDrop, State.stretched, State.fld_put_same, State.flag_put_same, State.flag_raise]
    exact Nat.mod_eq_of_lt (Nat.max_lt.2 ⟨us.isLt, State.fld_lt _ _ _⟩)
  · simp -implicitDefEqProofs (disch := (clear * -; decide +revert)) [State.hostLoad, u, State.heldDrop, State.stretched, State.fld_put_same, State.flag_put_same, State.flag_raise]
    exact Nat.mod_eq_of_lt (Nat.lt_of_le_of_lt (Nat.min_le_left _ _) (by decide))
  · simp -implicitDefEqProofs (disch := (clear * -; decide +revert)) [State.hostLoad, State.modHost, u, State.heldDrop, State.stretched]

/-- Held data expire. -/
theorem heldDataExpire_drops (s : State) (r : RRead) (hheld : s.host.held = some r) (hold : r.tick + 2000 ≤ s.tick) :
    Leads (exec (.heldDataExpire) s) fun t => s.Frame t [] [] [] [] ∧ t.host = { s.host with held := none } ∧ t.regs = s.regs := by
  have e : exec (.heldDataExpire) s = .next s.heldDrop := by
    show execHeldDataExpire s = _
    unfold execHeldDataExpire
    rw [hheld]
    exact congrArg Host.Outcome.next (if_pos hold)
  exact ⟨_, e, Frame.of e (execHeldDataExpire_touches) (execHeldDataExpire_stores) (execHeldDataExpire_answers), rfl, rfl⟩

/-- A time-out of SCL. -/
theorem sclTimeout_counts (s : State) (hlive : s.live = true) (hwait : s.host.wait = none) (hbus : s.host.onBus = false) :
    Leads (exec (.sclTimeout none) s) fun t => s.Frame t [] [(pHOST, 0x30), (pHOST, 0x34), (pHOST, 0x10), (pHOST, 0x38), (pHOST, 0x0C)] [] [] ∧ t.flag pHOST HOST.PG_EVT_SCL_TIMEOUT = true ∧ t.fld pHOST HOST.ERR_CNT_TIMEOUT = min (s.fld pHOST HOST.ERR_CNT_TIMEOUT + 1) 0xFF ∧ t.host = s.host := by
  have e : exec (.sclTimeout none) s = .next ((s.raise pHOST HOST.PG_EVT_SCL_TIMEOUT).bump pHOST HOST.ERR_CNT_TIMEOUT 1) := by
    show execSclTimeout none s = _
    simp -implicitDefEqProofs (disch := (clear * -; decide +revert)) [execSclTimeout, hlive, hwait, hbus, State.bump]
  refine ⟨_, e, Frame.of e (execSclTimeout_touches none (by simp [inRegs]) (by simp [inRegs]) (by simp [inRegs]) (by simp [inRegs]) (by simp [inRegs])) (execSclTimeout_stores none) (execSclTimeout_answers none), ?_, ?_, ?_⟩
  · simp -implicitDefEqProofs (disch := (clear * -; decide +revert)) [State.bump, State.fld_put_same, State.flag_put_same, State.flag_raise]
  · rw [State.fld_bump_same _ _ _ (by decide), State.fld_raise_ne _ _ (by decide)]
    rfl
  · simp -implicitDefEqProofs (disch := (clear * -; decide +revert)) [State.bump]

/-- SDA stuck. -/
theorem sdaStuck_ends (s : State) (hlive : s.live = true) :
    Leads (exec (.sdaStuck) s) fun t => s.Frame t [] [(pHOST, 0x10)] [] [] ∧ t.flag pHOST HOST.PG_EVT_SDA_STUCK = true ∧ t.host = { s.host with stuck := true, wait := none } := by
  have e : exec (.sdaStuck) s = .next ((s.raise pHOST HOST.PG_EVT_SDA_STUCK).modHost fun h => { h with stuck := true, wait := none }) := by
    show execSdaStuck s = _
    exact if_pos hlive
  exact ⟨_, e, Frame.of e (execSdaStuck_touches (by simp [inRegs])) (execSdaStuck_stores) (execSdaStuck_answers), by simp -implicitDefEqProofs (disch := (clear * -; decide +revert)) [State.fld_put_same, State.flag_put_same, State.flag_raise], rfl⟩

/-- A notify starts. -/
theorem hostNotify_starts (s : State) (hlive : s.live = true) (hbus : s.host.onBus = false) (hmay : s.notifyMay = true) (hhold : s.host.holding = false) (hnot : s.flag pHOST HOST.PG_STAT_NOTIFYING = false) (hfb : s.flag pHOST HOST.PG_STAT_FALLBACK = false) (hrisen : s.hostRisen = true) :
    Leads (exec (.hostNotify none) s) fun t => s.Frame t [] [(pHOST, 0x0C), (pHOST, 0x10), (pHOST, 0x38), (pHOST, 0x34)] [] [] ∧ t.flag pHOST HOST.PG_STAT_NOTIFYING = true ∧ t.host.onBus = true ∧ t.fld pHOST HOST.NOTIFY_STAT_TRIES = 0 ∧ t.host.seen = s.hostSum := by
  have e : exec (.hostNotify none) s = .next s.notifyFresh := by
    show execHostNotify none s = _
    simp [execHostNotify, hlive, hbus, hmay, hhold, hnot, hrisen, State.notifyResult]
  refine ⟨_, e, Frame.of e (execHostNotify_touches none (by simp [inRegs]) (by simp [inRegs]) (by simp [inRegs]) (by simp [inRegs])) (execHostNotify_stores none) (execHostNotify_answers none), ?_, rfl, ?_, State.hostSum_put 0 (by decide)⟩
  · simp -implicitDefEqProofs (disch := (clear * -; decide +revert)) [State.notifyFresh, State.notifyBegin, State.fld_put_same, State.flag_put_same, State.flag_raise]
  · simp -implicitDefEqProofs (disch := (clear * -; decide +revert)) [State.notifyFresh, State.notifyBegin, State.fld_put_same, State.flag_put_same, State.flag_raise]

/-- An attempt that is acknowledged. -/
theorem hostNotify_acknowledged (s : State) (hlive : s.live = true) (hbus : s.host.onBus = true) :
    Leads (exec (.hostNotify (some true)) s) fun t => s.Frame t [] [(pHOST, 0x0C), (pHOST, 0x10), (pHOST, 0x38), (pHOST, 0x34)] [] [] ∧ t.flag pHOST HOST.PG_STAT_NOTIFYING = false ∧ t.flag pHOST HOST.PG_EVT_NOTIFY_SENT = true ∧ t.host.onBus = false ∧ t.host.holding = true := by
  have e : exec (.hostNotify (some true)) s = .next (s.raise pHOST HOST.PG_EVT_NOTIFY_SENT).notifyOver := by
    show execHostNotify (some true) s = _
    simp [execHostNotify, hlive, hbus, State.notifyResult]
  refine ⟨_, e, Frame.of e (execHostNotify_touches (some true) (by simp [inRegs]) (by simp [inRegs]) (by simp [inRegs]) (by simp [inRegs])) (execHostNotify_stores (some true)) (execHostNotify_answers (some true)), ?_, ?_, rfl, rfl⟩
  · simp -implicitDefEqProofs (disch := (clear * -; decide +revert)) [State.notifyOver, State.fld_put_same, State.flag_put_same, State.flag_raise]
  · simp -implicitDefEqProofs (disch := (clear * -; decide +revert)) [State.notifyOver, State.fld_put_same, State.flag_put_same, State.flag_raise]

/-- The hold ends. -/
theorem notifyHoldEnd_ends (s : State) (hlive : s.live = true) (hhold : s.host.holding = true) (hrose : s.host.rose = false) :
    Leads (exec (.notifyHoldEnd) s) fun t => s.Frame t [] [(pHOST, 0x0C), (pHOST, 0x38)] [] [] ∧ t.host = { s.host with holding := false } ∧ t.regs = s.regs := by
  have e : exec (.notifyHoldEnd) s = .next (s.modHost fun h => { h with holding := false, rose := false }) := by
    show execNotifyHoldEnd s = _
    simp [execNotifyHoldEnd, hlive, hhold, hrose]
  refine ⟨_, e, Frame.of e (execNotifyHoldEnd_touches (by simp [inRegs]) (by simp [inRegs])) (execNotifyHoldEnd_stores) (execNotifyHoldEnd_answers), ?_, rfl⟩
  show { s.host with holding := false, rose := false } = _
  rw [← hrose]

/-- A failed attempt. -/
theorem arbitrationLost_counts (s : State) (hlive : s.live = true) (hbus : s.host.onBus = true) (htries : s.fld pHOST HOST.NOTIFY_STAT_TRIES < 8) :
    Leads (exec (.arbitrationLost .data) s) fun t => s.Frame t [] [(pHOST, 0x10), (pHOST, 0x38), (pHOST, 0x34), (pHOST, 0x0C)] [] [] ∧ t.flag pHOST HOST.PG_EVT_ARB_LOST = true ∧ t.host = { s.host with onBus := false } ∧ t.fld pHOST HOST.NOTIFY_STAT_TRIES = s.fld pHOST HOST.NOTIFY_STAT_TRIES + 1 := by
  let u : State := (s.raise pHOST HOST.PG_EVT_ARB_LOST).attemptFailed
  have hu : u.fld pHOST HOST.NOTIFY_STAT_TRIES = s.fld pHOST HOST.NOTIFY_STAT_TRIES + 1 := by
    rw [show u = _ from rfl, State.attemptFailed_tries, State.fld_raise_ne _ _ (by decide)]
    omega
  have e : exec (.arbitrationLost .data) s = .next u := by
    show execArbitrationLost .data s = _
    unfold execArbitrationLost
    rw [if_neg (by simp [hlive, hbus])]
    exact congrArg Host.Outcome.next (if_pos (show u.fld pHOST HOST.NOTIFY_STAT_TRIES < 9 by omega))
  refine ⟨_, e, Frame.of e (execArbitrationLost_touches .data (by simp [inRegs]) (by simp [inRegs]) (by simp [inRegs]) (by simp [inRegs])) (execArbitrationLost_stores .data) (execArbitrationLost_answers .data), ?_, ?_, hu⟩
  · simp -implicitDefEqProofs (disch := (clear * -; decide +revert)) [u, State.attemptFailed, State.bump, State.fld_put_same, State.flag_put_same, State.flag_raise]
  · simp -implicitDefEqProofs (disch := (clear * -; decide +revert)) [u, State.attemptFailed, State.bump, State.modHost]

/-- The ninth failure. -/
theorem arbitrationLost_falls (s : State) (hlive : s.live = true) (hbus : s.host.onBus = true) (htries : s.fld pHOST HOST.NOTIFY_STAT_TRIES = 8) :
    Leads (exec (.arbitrationLost .data) s) fun t => s.Frame t [] [(pHOST, 0x10), (pHOST, 0x38), (pHOST, 0x34), (pHOST, 0x0C)] [] [] ∧ t.flag pHOST HOST.PG_EVT_NOTIFY_FAIL = true ∧ t.flag pHOST HOST.PG_STAT_FALLBACK = true ∧ t.flag pHOST HOST.PG_STAT_NOTIFYING = false ∧ t.fld pHOST HOST.NOTIFY_STAT_TRIES = 9 := by
  let u : State := (s.raise pHOST HOST.PG_EVT_ARB_LOST).attemptFailed
  have hu : u.fld pHOST HOST.NOTIFY_STAT_TRIES = 9 := by
    rw [show u = _ from rfl, State.attemptFailed_tries, State.fld_raise_ne _ _ (by decide), htries]
    rfl
  have e : exec (.arbitrationLost .data) s = .next (((u.raise pHOST HOST.PG_EVT_NOTIFY_FAIL).put pHOST HOST.PG_STAT_FALLBACK 1).notifyOver) := by
    show execArbitrationLost .data s = _
    unfold execArbitrationLost
    rw [if_neg (by simp [hlive, hbus])]
    exact congrArg Host.Outcome.next (if_neg (show ¬ u.fld pHOST HOST.NOTIFY_STAT_TRIES < 9 by omega))
  clear_value u
  refine ⟨_, e, Frame.of e (execArbitrationLost_touches .data (by simp [inRegs]) (by simp [inRegs]) (by simp [inRegs]) (by simp [inRegs])) (execArbitrationLost_stores .data) (execArbitrationLost_answers .data), ?_, ?_, ?_, ?_⟩
  · simp -implicitDefEqProofs (disch := (clear * -; decide +revert)) [State.notifyOver, State.fld_put_same, State.flag_put_same, State.flag_raise]
  · simp -implicitDefEqProofs (disch := (clear * -; decide +revert)) [State.notifyOver, State.fld_put_same, State.flag_put_same, State.flag_raise]
  · simp -implicitDefEqProofs (disch := (clear * -; decide +revert)) [State.notifyOver, State.fld_put_same, State.flag_put_same, State.flag_raise]
  · simp -implicitDefEqProofs (disch := (clear * -; decide +revert)) [State.notifyOver, hu]

/-- A retry. -/
theorem notifyRetry_begins (s : State) (hlive : s.live = true) (hnotif : s.notifier = true) (hbus : s.host.onBus = false) (hnot : s.flag pHOST HOST.PG_STAT_NOTIFYING = true) (htries : s.fld pHOST HOST.NOTIFY_STAT_TRIES ≠ 0) (hsum : s.hostSum ≠ 0) :
    Leads (exec (.notifyRetry none) s) fun t => s.Frame t [] [(pHOST, 0x0C), (pHOST, 0x10), (pHOST, 0x38), (pHOST, 0x34)] [] [] ∧ t.host.onBus = true ∧ t.flag pHOST HOST.PG_STAT_NOTIFYING = true ∧ t.fld pHOST HOST.NOTIFY_STAT_TRIES = s.fld pHOST HOST.NOTIFY_STAT_TRIES := by
  have e : exec (.notifyRetry none) s = .next s.notifyBegin := by
    show execNotifyRetry none s = _
    simp [execNotifyRetry, hnotif, hbus, hnot, htries, hsum, State.notifyResult]
  refine ⟨_, e, Frame.of e (execNotifyRetry_touches none (by simp [inRegs]) (by simp [inRegs]) (by simp [inRegs]) (by simp [inRegs])) (execNotifyRetry_stores none) (execNotifyRetry_answers none), rfl, ?_, ?_⟩
  · simp -implicitDefEqProofs (disch := (clear * -; decide +revert)) [State.notifyBegin, State.fld_put_same, State.flag_put_same, State.flag_raise]
  · simp -implicitDefEqProofs (disch := (clear * -; decide +revert)) [State.notifyBegin, State.fld_put_same, State.flag_put_same, State.flag_raise]

/-- No retry with a summary of zero. -/
theorem notifyRetry_ends (s : State) (hlive : s.live = true) (hnotif : s.notifier = true) (hbus : s.host.onBus = false) (hnot : s.flag pHOST HOST.PG_STAT_NOTIFYING = true) (htries : s.fld pHOST HOST.NOTIFY_STAT_TRIES ≠ 0) (hsum : s.hostSum = 0) :
    Leads (exec (.notifyRetry none) s) fun t => s.Frame t [] [(pHOST, 0x0C), (pHOST, 0x10), (pHOST, 0x38), (pHOST, 0x34)] [] [] ∧ t.flag pHOST HOST.PG_STAT_NOTIFYING = false ∧ t.host = s.host := by
  have e : exec (.notifyRetry none) s = .next (s.put pHOST HOST.PG_STAT_NOTIFYING 0) := by
    show execNotifyRetry none s = _
    simp [execNotifyRetry, hnotif, hbus, hnot, htries, hsum]
  exact ⟨_, e, Frame.of e (execNotifyRetry_touches none (by simp [inRegs]) (by simp [inRegs]) (by simp [inRegs]) (by simp [inRegs])) (execNotifyRetry_stores none) (execNotifyRetry_answers none), by simp -implicitDefEqProofs (disch := (clear * -; decide +revert)) [State.fld_put_same, State.flag_put_same, State.flag_raise], rfl⟩

/-- The identity register read for the manager. -/
theorem regAccessFrame_answers (s : State) (f : RxF) (hlive : s.live = true) (hfind : s.fleet.inbox.find? (fun f => frType f.bytes == 3 || frType f.bytes == 4) = some f) (htyp : frType f.bytes = 3) (hsrc : frSrc f.bytes = s.fld pFLEET FLEET.NODES_MGR) (hpay : (frPayload f.bytes).take 3 = [0, 0, 1]) (hopen : s.ringOpen 0 = true) :
    Leads (exec (.regAccessFrame true) s) fun t => t.Carries 0 5 (frSrc f.bytes) ([0, 0, 1, 0] ++ leBytes 4 0x01000100) := by
  let u : State := s.modFleet fun t => { t with inbox := t.inbox.eraseP fun f => frType f.bytes == 3 || frType f.bytes == 4 }
  have hbytes : byteAt (frPayload f.bytes) 0 = 0 ∧ byteAt (frPayload f.bytes) 1 = 0 ∧ byteAt (frPayload f.bytes) 2 = 1 := by
    have hget : ∀ i, i < 3 → (frPayload f.bytes)[i]? = ([0, 0, 1] : List Byte)[i]? := by
      intro i hi
      rw [← hpay, List.getElem?_take_of_lt hi]
    refine ⟨?_, ?_, ?_⟩
    · rw [byteAt, List.getD_eq_getElem?_getD, hget 0 (by decide)]
      rfl
    · rw [byteAt, List.getD_eq_getElem?_getD, hget 1 (by decide)]
      rfl
    · rw [byteAt, List.getD_eq_getElem?_getD, hget 2 (by decide)]
      rfl
  obtain ⟨h0, h1, h2⟩ := hbytes
  have hid : u.readWords .hedgerow 0 1 0 = (u, [0x01000100]) := State.readWords_id (s := u) hlive .hedgerow
  have e : exec (.regAccessFrame true) s = .next (u.sendTo 5 (frSrc f.bytes) (frTag f.bytes) ([0, 0, 1, 0] ++ leBytes 4 0x01000100)) := by
    show execRegAccessFrame true s = _
    unfold execRegAccessFrame State.withFrame State.takeFrame
    simp only [hlive, hfind, Bool.not_true, Bool.false_eq_true, if_false]
    have hmgr : frSrc f.bytes = u.fld pFLEET FLEET.NODES_MGR := hsrc
    rw [if_neg (by rw [h2]; simpa [u] using hmgr), if_pos htyp, h0, h1, h2, hid]
    rfl
  exact ⟨_, e, State.sendTo_carries hopen (by decide) (Nat.mod_lt _ (by decide))⟩

/-- The answer to a read. -/
theorem regRspReceive_holds (s : State) (f : RxF) (p : Proxy) (r : RRead) (hlive : s.live = true) (hfind : s.fleet.inbox.find? (fun f => frType f.bytes == 5) = some f) (hproxy : s.fleet.proxy = some p) (htag : p.tag = frTag f.bytes) (hnode : p.node = frSrc f.bytes) (hwrite : p.write = false) (hread : s.host.read = some r) (hwait : s.host.wait = none) :
    Leads (exec (.regRspReceive) s) fun t => t.fleet.proxy = none ∧ t.host.held = some { r with status := byteAt (frPayload f.bytes) 0, words := toWords ((frPayload f.bytes).drop 4), tick := s.tick } ∧ t.host.read = none := by
  have e : exec (.regRspReceive) s = .next (((s.modFleet fun t => { t with inbox := t.inbox.eraseP fun f => frType f.bytes == 5 }).modFleet fun f => { f with proxy := none }).modHost fun h =>
      { h with read := none, held := some { r with status := byteAt (frPayload f.bytes) 0, words := toWords ((frPayload f.bytes).drop 4), tick := s.tick } }) := by
    show execRegRspReceive s = _
    unfold execRegRspReceive State.withFrame State.takeFrame
    have hproxy' : (s.modFleet fun t => { t with inbox := t.inbox.eraseP fun f => frType f.bytes == 5 }).fleet.proxy = some p := hproxy
    have hread' : (s.modFleet fun t => { t with inbox := t.inbox.eraseP fun f => frType f.bytes == 5 }).host.read = some r := hread
    have hwait' : (s.modFleet fun t => { t with inbox := t.inbox.eraseP fun f => frType f.bytes == 5 }).host.wait = none := hwait
    have htick : (s.modFleet fun t => { t with inbox := t.inbox.eraseP fun f => frType f.bytes == 5 }).tick = s.tick := rfl
    simp only [hlive, hfind, Bool.not_true, Bool.false_eq_true, if_false]
    generalize (s.modFleet fun t => { t with inbox := t.inbox.eraseP fun f => frType f.bytes == 5 }) = u at *
    simp only [hproxy', htag, hnode, and_self, if_true]
    rw [State.proxyEnd_read hwrite hread' hwait', htick]
  exact ⟨_, e, rfl, rfl, rfl⟩

/-- A write without an answer. -/
theorem regTimeout_ends (s : State) (p : Proxy) (hlive : s.live = true) (hproxy : s.fleet.proxy = some p) (hwrite : p.write = true) (hdue : p.since + 20 * max 1 (s.fld pFLEET FLEET.CFG_REG_TO_MS) ≤ s.tick) (hown : s.host.own = true) (hwait : s.host.wait = none) :
    Leads (exec (.regTimeout) s) fun t => t.fleet.proxy = none ∧ t.flag pFLEET FLEET.PG_EVT_REG_TIMEOUT = true ∧ t.fld pFLEET FLEET.STATS_REG_TO = min (s.fld pFLEET FLEET.STATS_REG_TO + 1) 0xFF ∧ t.fld pHOST HOST.LAST_CODE = 4 ∧ t.host.posted = none := by
  let u : State := ((s.raise pFLEET FLEET.PG_EVT_REG_TIMEOUT).bump pFLEET FLEET.STATS_REG_TO 1).modFleet fun f => { f with proxy := none }
  have hhost : u.host = s.host := by simp -implicitDefEqProofs (disch := (clear * -; decide +revert)) [u, State.bump]
  have e : exec (.regTimeout) s = .next (((u.put pHOST HOST.LAST_CODE 4).put pHOST HOST.LAST_DETAIL 0).modHost fun h => { h with posted := none, own := false }) := by
    show execRegTimeout s = _
    unfold execRegTimeout
    simp only [hproxy]
    rw [if_pos ⟨hlive, hdue⟩]
    refine congrArg Host.Outcome.next ((if_pos hwrite).trans ?_)
    have hdone : u.hostPostDone 4 0 = ((u.put pHOST HOST.LAST_CODE 4).put pHOST HOST.LAST_DETAIL 0).modHost fun h => { h with posted := none, own := false } := by
      rw [State.hostPostDone, if_pos (by rw [hhost, hown])]
    show (u.hostPostDone 4 0).hostResume = _
    rw [hdone, State.hostResume]
    have hw : ((((u.put pHOST HOST.LAST_CODE 4).put pHOST HOST.LAST_DETAIL 0).modHost fun h => { h with posted := none, own := false })).host.wait = none := by
      clear_value u
      simp -implicitDefEqProofs (disch := (clear * -; decide +revert)) [State.modHost, hhost, hwait]
    rw [hw]
  refine ⟨_, e, rfl, ?_, ?_, ?_, rfl⟩
  · simp -implicitDefEqProofs (disch := (clear * -; decide +revert)) [u, State.bump, State.fld_put_same, State.flag_put_same, State.flag_raise]
  · simp -implicitDefEqProofs (disch := (clear * -; decide +revert)) [u]
    rw [State.fld_bump_same _ _ _ (by decide), State.fld_raise_ne _ _ (by decide)]
    rfl
  · simp -implicitDefEqProofs (disch := (clear * -; decide +revert)) [State.fld_put_same, State.flag_put_same, State.flag_raise]
    rfl

/-- A node's EVT frame. -/
theorem evtFrameReceive_follows (s : State) (f : RxF) (hlive : s.live = true) (hfind : s.fleet.inbox.find? (fun f => frType f.bytes == 9) = some f) (hacting : s.acting = .manager) (hsrc : frSrc f.bytes < 64) :
    Leads (exec (.evtFrameReceive) s) fun t => s.Frame t [pFLEET] [(pHOST, 0x0C)] [] [] ∧ t.mapBit pFLEET FLEET.EVT_SUM_NODES (frSrc f.bytes) = bitAt (byteAt f.bytes 8) 1 := by
  let u : State := (s.modFleet fun t => { t with inbox := t.inbox.eraseP fun f => frType f.bytes == 9 }).setMapBit pFLEET FLEET.EVT_SUM_NODES (frSrc f.bytes) (bitAt (byteAt f.bytes 8) 1)
  have e : exec (.evtFrameReceive) s = .next u.hostWatch := by
    show execEvtFrameReceive s = _
    unfold execEvtFrameReceive State.withFrame State.takeFrame
    simp only [hlive, hfind, Bool.not_true, Bool.false_eq_true, if_false]
    exact congrArg Host.Outcome.next (if_pos hacting)
  have hu : u.mapBit pFLEET FLEET.EVT_SUM_NODES (frSrc f.bytes) = bitAt (byteAt f.bytes 8) 1 := State.mapBit_setMapBit _ rfl rfl hsrc
  clear_value u
  refine ⟨_, e, Frame.of e (execEvtFrameReceive_touches (by simp [inRegs]) (inRegs_page (by simp))) (execEvtFrameReceive_stores) (execEvtFrameReceive_answers), ?_⟩
  rw [← hu]
  exact State.mapBit_hostWatch hsrc

/-- CLEAR_STATS. -/
theorem hostCmdClearStats_clears (s : State) (key : BitVec 16) (ht : s.Takes pHOST) (hkey : key.toNat = 0x5B17) :
    Leads (exec (.hostCmdClearStats key) s) fun t => s.Frame t [] [(pHOST, 0x10), (pHOST, 0x3C), (pHOST, 0x34)] [] [] ∧ t.rd pHOST 0x34 = 0 ∧ t.rd pHOST 0x3C = 0 ∧ t.host = s.host := by
  have e : exec (.hostCmdClearStats key) s = .next s.hostClear := congrArg Host.Outcome.next (State.keyCmd_takes ht hkey _)
  exact ⟨_, e, Frame.of e (execHostCmdClearStats_touches key (by simp [inRegs]) (by simp [inRegs]) (by simp [inRegs])) (execHostCmdClearStats_stores key) (execHostCmdClearStats_answers key), by simp -implicitDefEqProofs (disch := (clear * -; decide +revert)) [State.hostClear, State.rd_wr_ne, State.fld_wr_ne, State.flag_wr_ne, State.rd_put_ne, State.rd_raise_ne], by simp -implicitDefEqProofs (disch := (clear * -; decide +revert)) [State.hostClear, State.rd_wr_ne, State.fld_wr_ne, State.flag_wr_ne, State.rd_put_ne, State.rd_raise_ne], by simp -implicitDefEqProofs (disch := (clear * -; decide +revert)) [State.hostClear]⟩

/-- NOTIFY_NOW. -/
theorem hostCmdNotifyNow_starts (s : State) (key : BitVec 16) (ht : s.Takes pHOST) (hkey : key.toNat = 0x5B17) (hnotif : s.notifier = true) (hsum : s.hostSum ≠ 0) (hbus : s.host.onBus = false) :
    Leads (exec (.hostCmdNotifyNow key) s) fun t => s.Frame t [] [(pHOST, 0x10), (pHOST, 0x0C), (pHOST, 0x38)] [] [] ∧ t.flag pHOST HOST.PG_STAT_NOTIFYING = true ∧ t.host = { s.host with onBus := true, seen := s.hostSum } ∧ t.fld pHOST HOST.NOTIFY_STAT_TRIES = 0 := by
  have e : exec (.hostCmdNotifyNow key) s = .next s.notifyFresh := by
    refine congrArg Host.Outcome.next ((State.keyCmd_takes ht hkey _).trans ?_)
    simp [State.notifyNow, hnotif, hsum, hbus]
  refine ⟨_, e, Frame.of e (execHostCmdNotifyNow_touches key (by simp [inRegs]) (by simp [inRegs]) (by simp [inRegs])) (execHostCmdNotifyNow_stores key) (execHostCmdNotifyNow_answers key), ?_, ?_, ?_⟩
  · simp -implicitDefEqProofs (disch := (clear * -; decide +revert)) [State.notifyFresh, State.notifyBegin, State.fld_put_same, State.flag_put_same, State.flag_raise]
  · simp -implicitDefEqProofs (disch := (clear * -; decide +revert)) [State.notifyFresh, State.notifyBegin, State.modHost]
    exact State.hostSum_put 0 (by decide)
  · simp -implicitDefEqProofs (disch := (clear * -; decide +revert)) [State.notifyFresh, State.notifyBegin, State.fld_put_same, State.flag_put_same, State.flag_raise]

/-- A read of RD_DATA. -/
theorem flashRdData_advances (s : State) (ht : s.Takes pFLASH) :
    Leads (exec (.flashRdData) s) fun t => t.fld pFLASH FLASH.RD_ADDR_WORD = (s.fld pFLASH FLASH.RD_ADDR_WORD + 1) % 2 ^ FLASH.RD_ADDR_WORD.w ∧ t.code = s.code := by
  obtain ⟨w, hread⟩ := State.regRead_flashData .host ht
  obtain ⟨u, hu⟩ : ∃ u, u = s.incr pFLASH FLASH.RD_ADDR_WORD := ⟨_, rfl⟩
  have e : exec (.flashRdData) s = .next { u with readData := w } := by
    show execFlashRdData s = _
    unfold execFlashRdData State.readInto
    rw [hread, ← hu]
  refine ⟨_, e, (State.fld_of_regs (u := u) rfl _ _).trans ?_, ?_⟩
  · rw [hu, State.incr, State.fld_put_same _ _ _ _ (by decide)]
  · show u.code = s.code
    rw [hu]
    simp -implicitDefEqProofs (disch := (clear * -; decide +revert)) [State.incr]

/-- Settles O56: each clause by a lemma of its own. -/
theorem hostWaitsNotifiesAndProxiesComplete : Obligations.HostWaitsNotifiesAndProxiesComplete := by
  unfold Obligations.HostWaitsNotifiesAndProxiesComplete
  exact ⟨stretchEnd_busy, heldDataExpire_drops, sclTimeout_counts, sdaStuck_ends, hostNotify_starts, hostNotify_acknowledged, notifyHoldEnd_ends, arbitrationLost_counts, arbitrationLost_falls, notifyRetry_begins, notifyRetry_ends, regAccessFrame_answers, regRspReceive_holds, regTimeout_ends, evtFrameReceive_follows, hostCmdClearStats_clears, hostCmdNotifyNow_starts, flashRdData_advances⟩

end Sys2Proof.Machine
end

section
/-!
PROOFS. What a transmit record of an engine reads after it was sent (Table 13.11), and what else the store keeps.
-/

set_option Elab.async false

namespace Sys2Proof.Machine

variable {s : State}

/-! ### Bytes that stay -/

/-- More bytes may differ. -/
theorem StSame.mono {R R' : Nat → Prop} {t : State} (h : StSame R s t) (hR : ∀ x, R x → R' x) : StSame R' s t :=
  ⟨fun a ha => h.1 a (mt (hR a) ha), fun a ha => h.2 a (mt (hR _) ha)⟩

/-- Bytes outside those that may differ read as before. -/
theorem StSame.stRead {R : Nat → Prop} {t : State} (h : StSame R s t) {a n : Nat} (ha : ∀ x, a ≤ x → x < a + n → ¬R x) : t.stRead a n = s.stRead a n := by
  unfold State.stRead
  induction n generalizing a with
  | zero => rfl
  | succ n ih => rw [Sparse.getList, Sparse.getList, h.1 a (ha a (Nat.le_refl _) (by omega)), ih fun x h1 h2 => ha x (by omega) (by omega)]

theorem StSame.stNat {R : Nat → Prop} {t : State} (h : StSame R s t) {a n : Nat} (ha : ∀ x, a ≤ x → x < a + n → ¬R x) : t.stNat a n = s.stNat a n := by
  rw [State.stNat, h.stRead ha, State.stNat]

/-- The bytes that sending writes into a transmit record: source, hops, status and CRC. -/
def Stamped (a x : Nat) : Prop := x = a + 2 ∨ x = a + 5 ∨ x = a + 269 ∨ x = a + 510 ∨ x = a + 511

/-- A status that is written. -/
theorem State.txfStatus_stamps {t : State} (slot status : Nat) (h : StSame (Stamped (txfAt slot)) s t) : StSame (Stamped (txfAt slot)) s (t.txfStatus slot status) := by
  unfold State.txfStatus
  refine State.stPut_stores _ _ _ (State.stPut_stores _ _ _ h ?_) ?_
  · intro x h1 h2
    unfold Stamped
    omega
  · intro x h1 h2
    unfold Stamped
    omega

/-- A record that is sent keeps all its bytes but those. -/
theorem State.txfReq_stamps (slot : Nat) : StSame (Stamped (txfAt slot)) s (s.txfReq slot) := by
  have hend : ∀ (t : State) (k : Nat), StSame (Stamped (txfAt slot)) s t → StSame (Stamped (txfAt slot)) s (t.txfEnd slot k) :=
    fun t k h => State.raise_stores _ _ (State.txfStatus_stamps slot k h)
  have hrefl : StSame (Stamped (txfAt slot)) s s := StSame.refl _ _
  unfold State.txfReq
  extract_lets -merge -underBinder +onlyGivenNames a b via typ okType up sent
  have hsent : StSame (Stamped (txfAt slot)) s sent := by
    refine State.txfStatus_stamps slot 1 (State.stPut_stores _ _ _ (State.stPut_stores _ _ _ hrefl ?_) ?_)
    · intro x h1 h2
      unfold Stamped
      omega
    · intro x h1 h2
      unfold Stamped
      omega
  clear_value sent
  extract_lets -merge -underBinder +onlyGivenNames f next
  have hnext : StSame (Stamped (txfAt slot)) s next := State.modFleet_stores _ hsent
  clear_value next
  refine StSame.ite (fun _ => hrefl) fun _ => StSame.ite (fun _ => hend _ _ (State.stNote_stores _ _ _ hrefl)) fun _ => StSame.ite (fun _ => hend _ _ hrefl) fun _ =>
    StSame.ite (fun _ => State.linkSend_stores _ _ hsent) fun _ => StSame.ite (fun _ => ?_) fun _ => State.ringSend_stores _ _ _ _ _ hsent
  exact StSame.ite (fun _ => State.ringSend_stores _ _ _ _ _ (State.ringSend_stores _ _ _ _ _ hnext)) fun _ => State.ringSend_stores _ _ _ _ _ hnext

/-- Reading a record without a parity error notes nothing. -/
theorem State.stNote_of_stChecks {a n : Nat} (h : s.stChecks a n = true) (req : Nat) : s.stNote req a n = s := by
  have hbad : s.st.bad.filter (fun b => decide (a ≤ b) && decide (b < a + n)) = [] := by
    refine List.filter_eq_nil_iff.2 fun b hb hin => ?_
    have hno : s.stBadIn a n = false := by
      unfold State.stChecks at h
      simpa using (Bool.and_eq_true_iff.1 h).1
    exact absurd (List.any_eq_true.2 ⟨b, hb, hin⟩) (by rw [State.stBadIn] at hno; rw [hno]; decide)
  rw [State.stNote, hbad]
  rfl

/-! ### A record that is sent -/

/-- The header of a frame without its payload. -/
theorem padTo_mkFrame (typ : Nat) (bcast : Bool) (dest src tag : Nat) (payload : List Byte) : padTo 8 (mkFrame typ bcast dest src tag payload) =
    (leBytes 1 (typ % 16 + 16 * bcast.toNat) ++ leBytes 1 (dest % 128)) ++ leBytes 1 (src % 128) ++ leBytes 2 (payload.length % 512 + 512 * (tag % 128)) ++ leBytes 3 1 := by
  simp [padTo, mkFrame, leBytes]

/-- A header of eight bytes of which the source and the hops are left open. -/
theorem frame_header {b : List Byte} {typ dest n tag : Nat} {bcast : Bool} {x : Byte} {y : List Byte}
    (hb : b = (leBytes 1 (typ % 16 + 16 * bcast.toNat) ++ leBytes 1 (dest % 128)) ++ [x] ++ leBytes 2 (n % 512 + 512 * (tag % 128)) ++ y) (hn : n ≤ 256) :
    frType b = typ % 16 ∧ frBcast b = bcast ∧ frDest b = dest % 128 ∧ frLen b = n := by
  have h16 : typ % 16 < 16 := Nat.mod_lt _ (by decide)
  have h128 : dest % 128 < 128 := Nat.mod_lt _ (by decide)
  have htag : tag % 128 < 128 := Nat.mod_lt _ (by decide)
  subst hb
  refine ⟨?_, ?_, ?_, ?_⟩
  · cases bcast <;> simp [frType, byteAt, leBytes, bitsOf] <;> omega
  · cases bcast <;> simp [frBcast, byteAt, leBytes, bitAt] <;> omega
  · simp [frDest, byteAt, leBytes, bitsOf]
  · simp [frLen, numAt, leBytes, leNat, bitsOf]
    omega

/-- The body of a record, cut at the bytes that sending writes. -/
theorem sendEngine_body (typ : Nat) (bcast : Bool) (dest via tag : Nat) (payload : List Byte) :
    padTo 8 (mkFrame typ bcast dest 0 tag payload) ++ padTo 256 payload ++ leBytes 4 0 ++ leBytes 1 via ++ leBytes 1 0 ++ List.replicate 240 0 =
      (leBytes 1 (typ % 16 + 16 * bcast.toNat) ++ leBytes 1 (dest % 128)) ++ (leBytes 1 (0 % 128) ++ (leBytes 2 (payload.length % 512 + 512 * (tag % 128)) ++ (leBytes 3 1 ++
        (padTo 256 payload ++ (leBytes 4 0 ++ (leBytes 1 via ++ (leBytes 1 0 ++ List.replicate 240 0))))))) := by
  rw [padTo_mkFrame]
  simp only [List.append_assoc]

/-- The parts of a record of 510 bytes read back. -/
theorem State.stRecord_parts {a : Nat} {A B C D E F G H : List Byte} (hA : A.length = 2) (hB : B.length = 1) (hC : C.length = 2) (hD : D.length = 3) (hE : E.length = 256)
    (hF : F.length = 4) (hG : G.length = 1) (hH : H.length = 241) (htop : a + 512 ≤ storeTop) :
    (s.stRecord a (A ++ (B ++ (C ++ (D ++ (E ++ (F ++ (G ++ H)))))))).stRead a 2 = A ∧ (s.stRecord a (A ++ (B ++ (C ++ (D ++ (E ++ (F ++ (G ++ H)))))))).stRead (a + 3) 2 = C ∧
      (s.stRecord a (A ++ (B ++ (C ++ (D ++ (E ++ (F ++ (G ++ H)))))))).stRead (a + 8) 256 = E ∧
      (s.stRecord a (A ++ (B ++ (C ++ (D ++ (E ++ (F ++ (G ++ H)))))))).stRead (a + 268) 1 = G := by
  unfold State.stRecord
  generalize hcrc : leBytes 2 (crc16 (A ++ (B ++ (C ++ (D ++ (E ++ (F ++ (G ++ H)))))))) = crc
  have hlen : crc.length = 2 := by rw [← hcrc, length_leBytes]
  have hpart : ∀ (x y z : List Byte) (i n : Nat), x.length = i → y.length = n → x ++ y ++ z = A ++ (B ++ (C ++ (D ++ (E ++ (F ++ (G ++ H)))))) ++ crc →
      (s.stWrite a (A ++ (B ++ (C ++ (D ++ (E ++ (F ++ (G ++ H)))))) ++ crc)).stRead (a + i) n = y := by
    intro x y z i n hx hy h
    rw [← hx, ← hy, ← h]
    refine s.stRead_stWrite_mid x y z ?_
    rw [h]
    simp only [List.length_append]
    omega
  refine ⟨hpart [] A (B ++ (C ++ (D ++ (E ++ (F ++ (G ++ H))))) ++ crc) 0 2 rfl hA ?_, hpart (A ++ B) C (D ++ (E ++ (F ++ (G ++ H))) ++ crc) 3 2 ?_ hC ?_,
    hpart (A ++ (B ++ (C ++ D))) E (F ++ (G ++ H) ++ crc) 8 256 ?_ hE ?_, hpart (A ++ (B ++ (C ++ (D ++ (E ++ F))))) G (H ++ crc) 268 1 ?_ hG ?_⟩
  all_goals simp only [List.append_assoc, List.nil_append, List.length_append]
  all_goals omega

/-- The bytes of a record up to its status. -/
theorem State.sendEngine_reads (slot typ : Nat) (bcast : Bool) (dest via tag : Nat) {payload : List Byte} (hp : payload.length ≤ 256) :
    frType ((s.sendEngine slot typ bcast dest via tag payload).stRead (txfAt slot) 8) = typ % 16 ∧
      frBcast ((s.sendEngine slot typ bcast dest via tag payload).stRead (txfAt slot) 8) = bcast ∧
      frDest ((s.sendEngine slot typ bcast dest via tag payload).stRead (txfAt slot) 8) = dest % 128 ∧
      frLen ((s.sendEngine slot typ bcast dest via tag payload).stRead (txfAt slot) 8) = payload.length ∧
      (s.sendEngine slot typ bcast dest via tag payload).stRead (txfAt slot + 8) 256 = padTo 256 payload ∧
      (s.sendEngine slot typ bcast dest via tag payload).stNat (txfAt slot + 268) 1 = via % 256 := by
  have htop : txfAt slot + 512 ≤ storeTop := by
    unfold txfAt storeTop
    omega
  unfold State.sendEngine
  dsimp only
  rw [sendEngine_body]
  obtain ⟨h0, h3, h8, h268⟩ := State.stRecord_parts (s := s) (A := leBytes 1 (typ % 16 + 16 * bcast.toNat) ++ leBytes 1 (dest % 128)) (B := leBytes 1 (0 % 128))
    (C := leBytes 2 (payload.length % 512 + 512 * (tag % 128))) (D := leBytes 3 1) (E := padTo 256 payload) (F := leBytes 4 0) (G := leBytes 1 via)
    (H := leBytes 1 0 ++ List.replicate 240 0) (by simp) (by simp) (by simp) (by simp) (by simp) (by simp) (by simp)
    (by rw [List.length_append, length_leBytes, List.length_replicate]) htop
  generalize s.stRecord (txfAt slot) _ = u at *
  have hsame : StSame (Stamped (txfAt slot)) u (u.txfReq slot) := State.txfReq_stamps slot
  have hkeep : ∀ i n, (∀ x, txfAt slot + i ≤ x → x < txfAt slot + i + n → ¬Stamped (txfAt slot) x) → (u.txfReq slot).stRead (txfAt slot + i) n = u.stRead (txfAt slot + i) n :=
    fun i n h => StSame.stRead hsame h
  have hcut : (u.txfReq slot).stRead (txfAt slot) 8 = (u.txfReq slot).stRead (txfAt slot + 0) 2 ++ (u.txfReq slot).stRead (txfAt slot + 2) 1 ++
      (u.txfReq slot).stRead (txfAt slot + 3) 2 ++ (u.txfReq slot).stRead (txfAt slot + 5) 3 := by
    unfold State.stRead
    rw [show (8 : Nat) = 2 + 1 + 2 + 3 from rfl, Sparse.getList_add, Sparse.getList_add, Sparse.getList_add]
    rfl
  obtain ⟨x, hx⟩ : ∃ x, (u.txfReq slot).stRead (txfAt slot + 2) 1 = [x] := List.length_eq_one_iff.1 (length_stRead _ _ _)
  rw [hx, hkeep 0 2 (by unfold Stamped; omega), hkeep 3 2 (by unfold Stamped; omega), Nat.add_zero, h0, h3] at hcut
  obtain ⟨htyp, hbc, hdest, hfrlen⟩ := frame_header hcut hp
  refine ⟨htyp, hbc, hdest, hfrlen, (hkeep 8 256 (by unfold Stamped; omega)).trans h8, ?_⟩
  rw [State.stNat, hkeep 268 1 (by unfold Stamped; omega), h268, leNat_leBytes, Nat.pow_one]

/-- What a record that is sent leaves: every byte of the store outside its own 512. -/
theorem State.sendEngine_leaves (slot typ : Nat) (bcast : Bool) (dest via tag : Nat) (payload : List Byte) {a n : Nat} (ha : a + n ≤ txfAt slot ∨ txfAt slot + 512 ≤ a) :
    (s.sendEngine slot typ bcast dest via tag payload).stRead a n = s.stRead a n := by
  have hrec : StSame (fun x => txfAt slot ≤ x ∧ x < txfAt slot + 512) s (s.sendEngine slot typ bcast dest via tag payload) := by
    unfold State.sendEngine
    extract_lets body
    have hlen : body.length = 510 := by
      simp only [body, List.length_append, length_padTo, length_leBytes, List.length_replicate]
    refine StSame.trans (State.stRecord_stores _ _ (StSame.refl _ _) ?_) (StSame.mono (State.txfReq_stamps slot) ?_)
    · intro x h1 h2
      omega
    · intro x hx
      unfold Stamped at hx
      omega
  exact hrec.stRead (by omega)

end Sys2Proof.Machine
end

section
/-!
PROOFS. Twinned ports: mirrors, takeovers, roles (R359-R366).
-/

set_option Elab.async false

namespace Sys2Proof.Machine

variable {s : State}

/-! ### Entries and payloads -/

theorem length_twinEntry (n : Port) : (s.twinEntry n).length = 32 := by
  simp only [State.twinEntry, List.length_append, length_leBytes]

/-- Entries of one length, one after the other. -/
theorem length_flatMap_of {α : Type} {f : α → List Byte} {k : Nat} (h : ∀ a, (f a).length = k) (l : List α) : (l.flatMap f).length = k * l.length := by
  induction l with
  | nil => simp
  | cons a l ih =>
    rw [List.flatMap_cons, List.length_append, h, ih, List.length_cons]
    ring

/-- The payload of a record that is sent reads back. -/
theorem State.sendEngine_payload (slot typ : Nat) (bcast : Bool) (dest via tag : Nat) {payload : List Byte} (hp : payload.length ≤ 256) {i n : Nat} (hi : i + n ≤ payload.length) :
    (s.sendEngine slot typ bcast dest via tag payload).stRead (txfAt slot + 8 + i) n = (payload.drop i).take n := by
  obtain ⟨-, -, -, -, h8, -⟩ := State.sendEngine_reads (s := s) slot typ bcast dest via tag hp
  have hcut : (s.sendEngine slot typ bcast dest via tag payload).stRead (txfAt slot + 8) 256 = (s.sendEngine slot typ bcast dest via tag payload).stRead (txfAt slot + 8) i ++
      ((s.sendEngine slot typ bcast dest via tag payload).stRead (txfAt slot + 8 + i) n ++ (s.sendEngine slot typ bcast dest via tag payload).stRead (txfAt slot + 8 + i + n) (256 - i - n)) := by
    unfold State.stRead
    rw [← Sparse.getList_add, ← Sparse.getList_add]
    congr 1
    omega
  have hpad : padTo 256 payload = payload ++ List.replicate (256 - payload.length) 0 := by
    rw [padTo, List.take_of_length_le hp]
  have hdrop := congrArg (List.take n) (congrArg (List.drop i) hcut)
  rw [List.drop_left' (length_stRead _ _ _), List.take_left' (length_stRead _ _ _), h8, hpad, List.drop_append_of_le_length (by omega),
    List.take_append_of_le_length (by rw [List.length_drop]; omega)] at hdrop
  exact hdrop.symm

/-! ### Mirrors -/

/-- A mirror that is taken: it is held, and the port watches for its pins (R361). -/
theorem State.takeMir_shows (n : Port) (e : List Byte) : ((s.takeMir n e).tw n).mir = some e ∧ (s.takeMir n e).flag (pCC n) CC.SHADOW_WATCH_MIRRORED = true ∧
    (s.takeMir n e).twin.last = s.twin.last := by
  unfold State.takeMir
  extract_lets t u cc anew v
  have ht : (t.tw n).mir = some e ∧ t.twin.last = s.twin.last := ⟨by rw [State.tw_modTw_same], rfl⟩
  clear_value t
  have hw : (v.put cc CC.SHADOW_WATCH_MIRRORED 1).twin = t.twin := by simp -implicitDefEqProofs (disch := (clear * -; decide +revert)) [v, u]
  have hmir : (v.put cc CC.SHADOW_WATCH_MIRRORED 1).flag (pCC n) CC.SHADOW_WATCH_MIRRORED = true := by simp -implicitDefEqProofs (disch := (clear * -; decide +revert)) [cc, State.fld_put_same, State.flag_put_same, State.flag_raise]
  generalize v.put cc CC.SHADOW_WATCH_MIRRORED 1 = x at hw hmir
  have hx : (x.shadowWatch n anew).twin = x.twin ∧ (x.shadowWatch n anew).flag (pCC n) CC.SHADOW_WATCH_MIRRORED = true := by
    unfold State.shadowWatch
    extract_lets pg pins rp
    split
    · exact ⟨by simp -implicitDefEqProofs (disch := (clear * -; decide +revert)) [], by simp -implicitDefEqProofs (disch := (clear * -; decide +revert)) [pg, hmir]⟩
    · exact ⟨rfl, hmir⟩
  refine ⟨?_, hx.2, ?_⟩
  · rw [State.tw, hx.1, hw]
    exact ht.1
  · rw [hx.1, hw]
    exact ht.2

/-- A frame's entry that is taken leaves the time of the last frame. -/
theorem State.twinEntryTake_last (e : List Byte) : (s.twinEntryTake e).twin.last = s.twin.last := by
  unfold State.twinEntryTake
  split
  · rfl
  next n _ =>
    extract_lets t
    have ht : ∀ (l : List Nat) (u : State), (l.foldl (init := u) fun s w => s.put pTWIN (TWIN.MIR_WORD.at w) (numAt e (4 * w) 4)).twin = u.twin := by
      intro l
      induction l with
      | nil => exact fun _ => rfl
      | cons w l ih => exact fun u => (ih _).trans (by simp -implicitDefEqProofs (disch := (clear * -; decide +revert)) [])
    rw [(t.takeMir_shows n t.mirWords).2.2]
    exact congrArg TwinSt.last ((ht _ _).trans (by simp -implicitDefEqProofs (disch := (clear * -; decide +revert)) []))

/-! ### Type-C states of a takeover -/

/-- Every register but the one of a field of a port's CC page. -/
def OffReg (n : Port) (g : Fld) (p o : Nat) : Prop := regKey p o ≠ regKey (pCC n) g.off

theorem offReg_of_page {n : Port} {g : Fld} (hg : g.off < 256) {p o : Nat} (hp : p ≠ pCC n) (ho : o < 256) : OffReg n g p o := regKey_ne_page hp ho hg

/-- The twin's mode of a port and the event of a lost Rp stay when VCONN goes off. -/
theorem State.vconnOff_keepsCc (n : Port) {g : Fld} (hg : g = CC.PG_STAT_TWIN_MODE ∨ g = CC.PG_EVT_RP_LOST) : (s.vconnOff n).fld (pCC n) g = s.fld (pCC n) g := by
  unfold State.vconnOff
  rcases hg with rfl | rfl <;> split <;> simp -implicitDefEqProofs (disch := (clear * -; decide +revert)) []

theorem State.detachStart_keepsCc (n : Port) {g : Fld} (hg : g = CC.PG_STAT_TWIN_MODE ∨ g = CC.PG_EVT_RP_LOST) :
    ((s.genUp n).raise (pCC n) CC.PG_EVT_DETACH).fld (pCC n) g = s.fld (pCC n) g := by
  rcases hg with rfl | rfl <;> simp -implicitDefEqProofs (disch := (clear * -; decide +revert)) [State.genUp, State.incr]

/-- What placement remembers is no register. -/
theorem State.fld_ite_place (c : Prop) [Decidable c] (p : PlaceSt) (pg : Nat) (g : Fld) : (if c then { s with place := p } else s).fld pg g = s.fld pg g := by
  split
  · rfl
  · rfl

/-- State, twin's mode and the event of a lost Rp stay while an attach is shown and its actions are taken. -/
theorem State.attach_keepsCc (n : Port) (st : CcState) (b : Bool) (f : PortSt → PortSt) {g : Fld} (hg : g = CC.PG_STAT_STATE ∨ g = CC.PG_STAT_TWIN_MODE ∨ g = CC.PG_EVT_RP_LOST) :
    ((((s.raise (pCC n) CC.PG_EVT_ATTACH).raiseIf b (pCC n) CC.PG_EVT_ACCESSORY).modPort n f).attachActions n st).fld (pCC n) g = s.fld (pCC n) g := by
  have hoff : g.off < 256 := by rcases hg with rfl | rfl | rfl <;> decide
  have hevt : (((s.raise (pCC n) CC.PG_EVT_ATTACH).raiseIf b (pCC n) CC.PG_EVT_ACCESSORY)).fld (pCC n) g = s.fld (pCC n) g := by
    rcases hg with rfl | rfl | rfl <;> simp -implicitDefEqProofs (disch := (clear * -; decide +revert)) []
  generalize ((s.raise (pCC n) CC.PG_EVT_ATTACH).raiseIf b (pCC n) CC.PG_EVT_ACCESSORY) = t at hevt
  have hact := State.attachActions_same n st (State.modPort_same n f (Same.refl (OffReg n g) t)) (offReg_of_page hoff (by clear * -; decide +revert) (by decide))
    (offReg_of_page hoff (by clear * -; decide +revert) (by decide)) (offReg_of_page hoff (by clear * -; decide +revert) (by decide))
  rw [State.fld_of_same hact, hevt]

/-- The twin's mode of a port and the event of a lost Rp stay at a detach. -/
theorem State.detach_keepsCc (n : Port) (b : Bool) {g : Fld} (hg : g = CC.PG_STAT_TWIN_MODE ∨ g = CC.PG_EVT_RP_LOST) : (s.detach n b).fld (pCC n) g = s.fld (pCC n) g := by
  have key : ∀ pg off, pg ≠ pCC n → off < 256 → OffReg n g pg off := fun _ _ => offReg_of_page (by rcases hg with rfl | rfl <;> decide)
  have hPDL : pPDL n ≠ pCC n := by clear * -; decide +revert
  have hVDM : pVDM n ≠ pCC n := by clear * -; decide +revert
  have hPOL : pPOL n ≠ pCC n := by clear * -; decide +revert
  have hGUARD : pGUARD n ≠ pCC n := by clear * -; decide +revert
  have hSHARE : pSHARE ≠ pCC n := by clear * -; decide +revert
  unfold State.detach
  extract_lets -merge -underBinder +onlyGivenNames x0 x1
  have hx1 : x1.fld (pCC n) g = s.fld (pCC n) g := by
    unfold x1
    rw [State.fld_modCc]
    exact s.detachStart_keepsCc n hg
  clear_value x1
  clear x0
  extract_lets -merge -underBinder +onlyGivenNames x2
  have h2 : Same (OffReg n g) x1 x2 := State.pdlCleanup_same n (Same.refl _ x1) (fun o ho => key _ o hPDL ho) (key _ _ hVDM (by decide)) (key _ _ hVDM (by decide))
  clear_value x2
  extract_lets -merge -underBinder +onlyGivenNames x3
  have h3 : Same (OffReg n g) x1 x3 := State.put_same _ _ _ (State.snapClear_same n h2 (key _ _ hPOL (by decide))) (key _ _ hPOL (by decide))
  clear_value x3
  extract_lets -merge -underBinder +onlyGivenNames x4
  have h4 : Same (OffReg n g) x1 x4 := State.transAbandon_same n h3 (key _ _ hPOL (by decide)) (key _ _ hPOL (by decide)) (key _ _ hPOL (by decide))
  clear_value x4
  extract_lets -merge -underBinder +onlyGivenNames x5
  have h5 : Same (OffReg n g) x1 x5 := State.put_same _ _ _ (State.put_same _ _ _ h4 (key _ _ hPOL (by decide))) (key _ _ hPOL (by decide))
  clear_value x5
  extract_lets -merge -underBinder +onlyGivenNames x6
  have h6 : Same (OffReg n g) x1 x6 := State.modPol_same n _
    (State.put_same _ _ _ (State.setTarget_same n 0 h5 (key _ _ hPOL (by decide)) (key _ _ hPOL (by decide))) (key _ _ hPOL (by decide)))
  clear_value x6
  extract_lets -merge -underBinder +onlyGivenNames x7
  have h7 : Same (OffReg n g) x1 x7 := State.put_same _ _ _ (State.guardOff_same n h6 (key _ _ hGUARD (by decide))) (key _ _ hGUARD (by decide))
  clear_value x7
  extract_lets -merge -underBinder +onlyGivenNames x8
  have h8 : Same (OffReg n g) x1 x8 := State.setWin_same n win5 false h7
  clear_value x8
  have hx8 : x8.fld (pCC n) g = s.fld (pCC n) g := (State.fld_of_same h8).trans hx1
  extract_lets -merge -underBinder +onlyGivenNames x9
  have hx9 : x9.fld (pCC n) g = s.fld (pCC n) g := by
    rw [← hx8, ← x8.vconnOff_keepsCc n hg]
    exact State.fld_of_same (State.hpdClear_same n (Same.refl (OffReg n g) _) (key _ _ hVDM (by decide)))
  clear_value x9
  extract_lets -merge -underBinder +onlyGivenNames x10
  have h10 : Same (OffReg n g) x9 x10 := State.shareLeave_same n (Same.refl _ x9) (fun o ho => key _ o hSHARE ho)
  clear_value x10
  have htrim : (SHARE.TRIM_TRIM.at n.val).off < 256 ∧ (SHARE.TRIM_PENDING.at n.val).off < 256 := by clear * -; decide +revert
  extract_lets -merge -underBinder +onlyGivenNames x11
  have h11 : Same (OffReg n g) x9 x11 := State.put_same _ _ _ (State.put_same _ _ _ h10 (key _ _ hSHARE htrim.1)) (key _ _ hSHARE htrim.2)
  clear_value x11
  extract_lets -merge -underBinder +onlyGivenNames x12
  have h12 : Same (OffReg n g) x9 x12 := State.modFw_same n _ (State.fwGeneration_same n 6 h11 (key _ _ hVDM (by decide)) (key _ _ hVDM (by decide)) (key _ _ hVDM (by decide)))
  have hx12 : x12.fld (pCC n) g = s.fld (pCC n) g := (State.fld_of_same h12).trans hx9
  clear_value x12
  extract_lets -merge -underBinder +onlyGivenNames x13 x14
  have hx14 : x14.fld (pCC n) g = s.fld (pCC n) g := by
    rw [← hx12]
    exact State.fld_ite_place _ _ _ _
  clear_value x14
  split
  · rw [State.fld_modGuard]
    exact hx14
  · exact hx14

theorem State.ccEnter_takes (n : Port) {st : CcState} (hst : st = .attachedSrc ∨ st = .unattachedSrc) : (s.ccEnter n st).ccState n = st ∧
    (s.ccEnter n st).fld (pCC n) CC.PG_STAT_TWIN_MODE = s.fld (pCC n) CC.PG_STAT_TWIN_MODE ∧ (s.ccEnter n st).fld (pCC n) CC.PG_EVT_RP_LOST = s.fld (pCC n) CC.PG_EVT_RP_LOST := by
  unfold State.ccEnter
  extract_lets -merge -underBinder +onlyGivenNames old u pg
  have hu : u.fld (pCC n) CC.PG_STAT_TWIN_MODE = s.fld (pCC n) CC.PG_STAT_TWIN_MODE ∧ u.fld (pCC n) CC.PG_EVT_RP_LOST = s.fld (pCC n) CC.PG_EVT_RP_LOST := by
    unfold u
    split
    · exact ⟨s.detach_keepsCc n _ (.inl rfl), s.detach_keepsCc n _ (.inr rfl)⟩
    · exact ⟨rfl, rfl⟩
  clear_value u
  extract_lets -merge -underBinder +onlyGivenNames v w x clamp y z z' acc aa bb seen cc
  have hcode : CcState.ofCode st.code = st ∧ st.code % 2 ^ CC.PG_STAT_STATE.w = st.code ∧ st ≠ .disabled ∧ st ≠ .errorRecovery ∧ acc = false := by rcases hst with rfl | rfl <;> decide
  have hy : y.ccState n = st ∧ y.fld (pCC n) CC.PG_STAT_TWIN_MODE = s.fld (pCC n) CC.PG_STAT_TWIN_MODE ∧
      y.fld (pCC n) CC.PG_EVT_RP_LOST = s.fld (pCC n) CC.PG_EVT_RP_LOST := by
    rw [← hu.1, ← hu.2]
    refine ⟨?_, ?_, ?_⟩
    · rw [State.ccState, ← hcode.1]
      simp -implicitDefEqProofs (disch := (clear * -; decide +revert)) [y, x, w, v, pg, State.fld_put_same, State.flag_put_same, State.flag_raise]
      exact congrArg CcState.ofCode hcode.2.1
    · simp -implicitDefEqProofs (disch := (clear * -; decide +revert)) [y, x, w, v, pg]
    · simp -implicitDefEqProofs (disch := (clear * -; decide +revert)) [y, x, w, v, pg]
  have hz : z = y := if_neg (by simp only [hcode.2.2.1, hcode.2.2.2.1, decide_false, Bool.or_self, Bool.false_eq_true, not_false_eq_true])
  rw [← hz] at hy
  clear_value z
  have hz' : z'.ccState n = st ∧ z'.fld (pCC n) CC.PG_STAT_TWIN_MODE = s.fld (pCC n) CC.PG_STAT_TWIN_MODE ∧ z'.fld (pCC n) CC.PG_EVT_RP_LOST = s.fld (pCC n) CC.PG_EVT_RP_LOST := by
    rw [← hy.1, ← hy.2.1, ← hy.2.2]
    refine ⟨?_, ?_, ?_⟩
    · simp -implicitDefEqProofs (disch := (clear * -; decide +revert)) [State.ccState, z', pg]
    · simp -implicitDefEqProofs (disch := (clear * -; decide +revert)) [z', pg]
    · simp -implicitDefEqProofs (disch := (clear * -; decide +revert)) [z', pg]
  have ha : aa = z' := if_neg (by simp only [hcode.2.2.2.2, Bool.false_eq_true, not_false_eq_true])
  rw [← ha] at hz'
  clear_value aa
  have hc : cc.ccState n = st ∧ cc.fld (pCC n) CC.PG_STAT_TWIN_MODE = s.fld (pCC n) CC.PG_STAT_TWIN_MODE ∧ cc.fld (pCC n) CC.PG_EVT_RP_LOST = s.fld (pCC n) CC.PG_EVT_RP_LOST := by
    obtain ⟨hst', htwin, hlost⟩ := hz'
    have hb : bb.regs = aa.regs := rfl
    refine ⟨?_, ?_, ?_⟩
    · rw [← hst', State.ccState, State.ccState, ← State.fld_of_regs hb]
      simp -implicitDefEqProofs (disch := (clear * -; decide +revert)) [cc, pg]
    · rw [← htwin, ← State.fld_of_regs hb]
      simp -implicitDefEqProofs (disch := (clear * -; decide +revert)) [cc, pg]
    · rw [← hlost, ← State.fld_of_regs hb]
      simp -implicitDefEqProofs (disch := (clear * -; decide +revert)) [cc, pg]
  clear_value cc
  split
  · refine ⟨?_, (State.attach_keepsCc n st acc _ (.inr (.inl rfl))).trans hc.2.1, (State.attach_keepsCc n st acc _ (.inr (.inr rfl))).trans hc.2.2⟩
    rw [State.ccState, State.attach_keepsCc n st acc _ (.inl rfl)]
    exact hc.1
  · exact hc

/-- The port's Type-C part of a takeover (R363). -/
def State.tookOver (s : State) (n : Port) : State :=
  ((s.modCc n fun c => { c with
    takenOver := true, raKnown := false, raLatch := false, autoDone := false, raProbe := none
    takenRp := some (bitsOf (s.mirNat n 0 1) 4 2, s.fld (pCC n) CC.CFG_RP) }).put (pCC n) CC.PG_STAT_POLARITY (bitsOf (s.mirNat n 0 1) 6 1)
    |>.put (pCC n) CC.PG_STAT_TWIN_MODE 1).ccEnter n .attachedSrc

/-- Protocol layer, contract and guard of a takeover (R363). -/
def State.tookContract (s : State) (n : Port) : State :=
  let s := (s.wr (pPDL n) PDL.MSGID_TX_SOP.off (BitVec.ofNat 32 (msgidAfter (s.mirNat n 4 4)))).put (pPDL n) PG.CTRL_ENABLE 1
  let s := if s.mirValid n then (s.snapFromMir n).setTarget n (4 * s.mirNat n 24 2) else s
  let s := s.put (pPDL n) PDL.CFG_DATA_ROLE (bitsOf (s.mirNat n 1 1) 5 1)
  if s.flag pTWIN TWIN.CFG_HOT then s else s.joinGuard n

/-- What a takeover records (R360, R363). -/
def State.tookRecord (s : State) (n : Port) (cause age : Nat) : State :=
  (((s.tkoRecord n cause (decide (2 < age))).bump pTWIN TWIN.COUNT_TAKEOVERS 1).raise pTWIN TWIN.PG_EVT_TAKEOVER).claimNow n

/-- A takeover in its three parts; then its task is posted. -/
theorem State.twinTake_posts (n : Port) (cause : Nat) : ∃ task, s.twinTake n cause =
    (((s.tookOver n).tookContract n).tookRecord n cause (s.mirAge n)).postTask 107 0 0 false false task (s.mirAge n) 0xFFFF := ⟨_, rfl⟩

/-- The port's Type-C part of a takeover: an owner attached as source; the event of a lost Rp stays. -/
theorem State.tookOver_shows (n : Port) : (s.tookOver n).ccState n = .attachedSrc ∧ (s.tookOver n).fld (pCC n) CC.PG_STAT_TWIN_MODE = 1 ∧
    (s.tookOver n).fld (pCC n) CC.PG_EVT_RP_LOST = s.fld (pCC n) CC.PG_EVT_RP_LOST := by
  unfold State.tookOver
  generalize hu : ((s.modCc n _).put (pCC n) CC.PG_STAT_POLARITY _).put (pCC n) CC.PG_STAT_TWIN_MODE 1 = u
  obtain ⟨hst, htwin, hlost⟩ := u.ccEnter_takes n (st := .attachedSrc) (.inl rfl)
  refine ⟨hst, htwin.trans ?_, hlost.trans ?_⟩
  · rw [← hu]
    simp -implicitDefEqProofs (disch := (clear * -; decide +revert)) [State.fld_put_same, State.flag_put_same, State.flag_raise]
  · rw [← hu]
    simp -implicitDefEqProofs (disch := (clear * -; decide +revert)) []

/-- The pages whose registers protocol layer, contract and guard of a takeover write. -/
def ContractReg (n : Port) (p o : Nat) : Prop := o < 256 ∧ (p = pPDL n ∨ p = pPOL n ∨ p = pGUARD n)

/-- Protocol layer, contract and guard of a takeover leave every other page. -/
theorem State.tookContract_same (n : Port) : Same (ContractReg n) s (s.tookContract n) := by
  have hPDL : ∀ o, o < 256 → ContractReg n (pPDL n) o := fun _ h => ⟨h, .inl rfl⟩
  have hPOL : ∀ o, o < 256 → ContractReg n (pPOL n) o := fun _ h => ⟨h, .inr (.inl rfl)⟩
  have hGUARD : ∀ o, o < 256 → ContractReg n (pGUARD n) o := fun _ h => ⟨h, .inr (.inr rfl)⟩
  unfold State.tookContract
  extract_lets -merge -underBinder +onlyGivenNames a
  have ha : Same (ContractReg n) s a := State.put_same _ _ _ (State.wr_same _ _ _ (Same.refl _ s) (hPDL _ (by decide))) (hPDL _ (by decide))
  clear_value a
  extract_lets -merge -underBinder +onlyGivenNames b
  have hb : Same (ContractReg n) s b := Same.ite (fun _ => State.setTarget_same _ _ (State.snapFromMir_same _ ha (hPOL _ (by decide))) (hPOL _ (by decide)) (hPOL _ (by decide))) (fun _ => ha)
  clear_value b
  extract_lets -merge -underBinder +onlyGivenNames c
  have hc : Same (ContractReg n) s c := State.put_same _ _ _ hb (hPDL _ (by decide))
  clear_value c
  exact Same.ite (fun _ => hc) (fun _ => State.joinGuard_same _ hc (hGUARD _ (by decide)))

/-- Type-C page and TWIN page stay at them. -/
theorem State.tookContract_keeps (n : Port) {pg : Nat} (hpg : pg = pCC n ∨ pg = pTWIN) {g : Fld} (hg : g.off < 256) : (s.tookContract n).fld pg g = s.fld pg g := by
  have hne : pPDL n ≠ pg ∧ pPOL n ≠ pg ∧ pGUARD n ≠ pg := by
    rcases hpg with rfl | rfl
    all_goals
      clear * -
      decide +revert
  have hrd : (s.tookContract n).rd pg g.off = s.rd pg g.off := by
    refine s.tookContract_same n _ ?_
    rintro p o ⟨ho, rfl | rfl | rfl⟩
    · exact regKey_ne_page hne.1 ho hg
    · exact regKey_ne_page hne.2.1 ho hg
    · exact regKey_ne_page hne.2.2 ho hg
  rw [State.fld, hrd, State.fld]

/-- What a takeover records. -/
theorem State.tookRecord_shows (n : Port) {cause : Nat} (age : Nat) (hc : cause < 8) : (s.tookRecord n cause age).fld pTWIN TWIN.LAST_TKO_CAUSE = cause ∧
    (s.tookRecord n cause age).fld pTWIN TWIN.LAST_TKO_PORT = n.val ∧
    (s.tookRecord n cause age).fld pTWIN TWIN.COUNT_TAKEOVERS = min (s.fld pTWIN TWIN.COUNT_TAKEOVERS + 1) 0xFFFF ∧
    (s.tookRecord n cause age).flag pTWIN TWIN.PG_EVT_TAKEOVER = true ∧ ((s.tookRecord n cause age).tw n).claim = some s.tick ∧
    (∀ {g : Fld}, g.off < 256 → (s.tookRecord n cause age).fld (pCC n) g = s.fld (pCC n) g) := by
  have hcause : cause % 2 ^ TWIN.LAST_TKO_CAUSE.w = cause := Nat.mod_eq_of_lt hc
  have hport : n.val % 2 ^ TWIN.LAST_TKO_PORT.w = n.val := Nat.mod_eq_of_lt n.isLt
  unfold State.tookRecord State.claimNow State.tkoRecord State.bump
  refine ⟨?_, ?_, ?_, ?_, ?_, ?_⟩
  · simp -implicitDefEqProofs (disch := (clear * -; decide +revert)) [State.fld_put_same, State.flag_put_same, State.flag_raise]
    exact hcause
  · simp -implicitDefEqProofs (disch := (clear * -; decide +revert)) [State.fld_put_same, State.flag_put_same, State.flag_raise]
    exact hport
  · simp -implicitDefEqProofs (disch := (clear * -; decide +revert)) [State.fld_put_same, State.flag_put_same, State.flag_raise]
    rw [show (2 : Nat) ^ TWIN.COUNT_TAKEOVERS.w = 65536 from rfl]
    omega
  · simp -implicitDefEqProofs (disch := (clear * -; decide +revert)) [State.fld_put_same, State.flag_put_same, State.flag_raise]
  · rw [State.tw_modTw_same]
    simp -implicitDefEqProofs (disch := (clear * -; decide +revert)) []
  · intro g hg
    have hne : pTWIN ≠ pCC n := by clear * -; decide +revert
    refine State.fld_of_same ?_
    have key : ∀ o, o < 256 → regKey pTWIN o ≠ regKey (pCC n) g.off := fun o ho => regKey_ne_page hne ho hg
    exact State.modTw_same _ _ (State.raise_same _ _ (State.put_same _ _ _ (State.put_same _ _ _ (State.putB_same _ _ _ (State.put_same _ _ _
      (State.put_same _ _ _ (Same.refl _ s) (key _ (by decide))) (key _ (by decide))) (key _ (by decide))) (key _ (by decide))) (key _ (by decide))) (key _ (by decide)))

/-- The TWIN page stays when a port enters a Type-C state. -/
theorem State.ccEnter_keepsTwin (n : Port) (st : CcState) {g : Fld} (hg : g.off < 256) : (s.ccEnter n st).fld pTWIN g = s.fld pTWIN g := by
  have key : ∀ p o, p ≠ pTWIN → o < 256 → regKey p o ≠ regKey pTWIN g.off := fun _ _ hp ho => regKey_ne_page hp ho hg
  have hCC : pCC n ≠ pTWIN := by clear * -; decide +revert
  have hPDL : pPDL n ≠ pTWIN := by clear * -; decide +revert
  have hVDM : pVDM n ≠ pTWIN := by clear * -; decide +revert
  have hPOL : pPOL n ≠ pTWIN := by clear * -; decide +revert
  have hGUARD : pGUARD n ≠ pTWIN := by clear * -; decide +revert
  exact State.fld_of_same (State.ccEnter_same n st (Same.refl _ s) (key _ _ hCC (by decide)) (key _ _ hCC (by decide)) (fun o ho => key _ o hPDL ho) (key _ _ hVDM (by decide))
    (key _ _ hVDM (by decide)) (key _ _ hPOL (by decide)) (key _ _ hPOL (by decide)) (key _ _ hPOL (by decide)) (key _ _ hPOL (by decide)) (key _ _ hGUARD (by decide))
    (key _ _ hVDM (by decide)) (fun o ho => key _ o (by decide) ho) (key _ _ hVDM (by decide)))

theorem State.tookOver_count (n : Port) : (s.tookOver n).fld pTWIN TWIN.COUNT_TAKEOVERS = s.fld pTWIN TWIN.COUNT_TAKEOVERS := by
  unfold State.tookOver
  rw [State.ccEnter_keepsTwin n _ (by decide)]
  simp -implicitDefEqProofs (disch := (clear * -; decide +revert)) []

theorem State.tookRecord_tick (n : Port) (cause age : Nat) : (s.tookRecord n cause age).tick = s.tick := by
  simp -implicitDefEqProofs (disch := (clear * -; decide +revert)) [State.tookRecord, State.claimNow, State.tkoRecord, State.bump]

/-- A takeover: the port is an owner attached as source, the takeover is recorded and told, and the claim is of this tick. -/
theorem State.twinTake_shows (n : Port) {cause : Nat} (hc : cause < 8) : (s.twinTake n cause).ccState n = .attachedSrc ∧ (s.twinTake n cause).owning n = true ∧
    (s.twinTake n cause).fld pTWIN TWIN.LAST_TKO_CAUSE = cause ∧ (s.twinTake n cause).fld pTWIN TWIN.LAST_TKO_PORT = n.val ∧
    (s.twinTake n cause).fld pTWIN TWIN.COUNT_TAKEOVERS = min (s.fld pTWIN TWIN.COUNT_TAKEOVERS + 1) 0xFFFF ∧ (s.twinTake n cause).flag pTWIN TWIN.PG_EVT_TAKEOVER = true ∧
    ((s.twinTake n cause).tw n).claim = some s.tick ∧ (s.twinTake n cause).fld (pCC n) CC.PG_EVT_RP_LOST = s.fld (pCC n) CC.PG_EVT_RP_LOST := by
  have htick : (s.twinTake n cause).tick = s.tick :=
    (State.twinTake_keeps n cause (Keeps.refl ⟨true, true, true, false, false, true, true, true, true, true, true, false, true, true, false⟩ s)).tick rfl
  obtain ⟨task, htake⟩ := s.twinTake_posts n cause
  rw [htake] at htick ⊢
  clear htake
  obtain ⟨hst, hmode, hlost⟩ := s.tookOver_shows n
  have hcount := s.tookOver_count n
  have hcc : ∀ {g : Fld}, g.off < 256 → ((s.tookOver n).tookContract n).fld (pCC n) g = (s.tookOver n).fld (pCC n) g := fun hg => State.tookContract_keeps n (.inl rfl) hg
  have htw : ∀ {g : Fld}, g.off < 256 → ((s.tookOver n).tookContract n).fld pTWIN g = (s.tookOver n).fld pTWIN g := fun hg => State.tookContract_keeps n (.inr rfl) hg
  obtain ⟨hcause, hport, htakes, hevt, hclaim, hkeep⟩ := State.tookRecord_shows (s := (s.tookOver n).tookContract n) n (s.mirAge n) hc
  generalize (s.tookOver n).tookContract n = u at *
  generalize s.tookOver n = v at *
  have hu := u.tookRecord_tick n cause (s.mirAge n)
  generalize u.tookRecord n cause (s.mirAge n) = w at *
  rw [State.postTask_tick, hu] at htick
  simp only [State.ccState, State.owning, State.tw, State.fld_postTask, State.flag_postTask, State.postTask_twin]
  refine ⟨?_, ?_, hcause, hport, ?_, hevt, ?_, ?_⟩
  · rw [hkeep (by decide), hcc (by decide)]
    exact hst
  · rw [hkeep (by decide), hcc (by decide), hmode]
    rfl
  · rw [htakes, htw (by decide), hcount]
  · rw [← htick]
    exact hclaim
  · rw [hkeep (by decide), hcc (by decide), hlost]

theorem State.twinAssume_eq (n : Port) : s.twinAssume n =
    ((((((s.modCc n fun c => { c with takenOver := true }).put (pCC n) CC.PG_STAT_TWIN_MODE 1).ccEnter n .unattachedSrc).tkoRecord n 4 true).raise pTWIN TWIN.PG_EVT_ASSUMED).claimNow n) := rfl

/-- An owner without a mirror is assumed dead (R363). -/
theorem State.twinAssume_shows (n : Port) : (s.twinAssume n).ccState n = .unattachedSrc ∧ (s.twinAssume n).owning n = true ∧
    (s.twinAssume n).fld pTWIN TWIN.LAST_TKO_CAUSE = 4 ∧ (s.twinAssume n).flag pTWIN TWIN.PG_EVT_ASSUMED = true ∧
    (s.twinAssume n).fld (pCC n) CC.PG_EVT_RP_LOST = s.fld (pCC n) CC.PG_EVT_RP_LOST := by
  rw [State.twinAssume_eq]
  generalize hu : (s.modCc n _).put (pCC n) CC.PG_STAT_TWIN_MODE 1 = u
  obtain ⟨hst, htwin, hlost⟩ := u.ccEnter_takes n (st := .unattachedSrc) (.inr rfl)
  have hmode : u.fld (pCC n) CC.PG_STAT_TWIN_MODE = 1 ∧ u.fld (pCC n) CC.PG_EVT_RP_LOST = s.fld (pCC n) CC.PG_EVT_RP_LOST := by
    rw [← hu]
    constructor
    · simp -implicitDefEqProofs (disch := (clear * -; decide +revert)) [State.fld_put_same, State.flag_put_same, State.flag_raise]
    · simp -implicitDefEqProofs (disch := (clear * -; decide +revert)) []
  rw [hmode.1] at htwin
  rw [hmode.2] at hlost
  generalize u.ccEnter n .unattachedSrc = v at *
  unfold State.tkoRecord State.claimNow
  refine ⟨?_, ?_, ?_, ?_, ?_⟩
  · rw [← hst]
    simp -implicitDefEqProofs (disch := (clear * -; decide +revert)) [State.ccState]
  · simp -implicitDefEqProofs (disch := (clear * -; decide +revert)) [State.owning, htwin]
  · simp -implicitDefEqProofs (disch := (clear * -; decide +revert)) [State.fld_put_same, State.flag_put_same, State.flag_raise]
    rfl
  · simp -implicitDefEqProofs (disch := (clear * -; decide +revert)) [State.fld_put_same, State.flag_put_same, State.flag_raise]
  · simp -implicitDefEqProofs (disch := (clear * -; decide +revert)) [hlost]

/-- A takeover is ordered of a shadow that may own and holds a mirror. -/
theorem State.twinOrder_takes {n : Port} {cause : Nat} (hsh : s.shadowing n = true) (hown : s.mayOwn = true) (hclamp : s.inf (pCC n) CC.CFG_DB_CLAMP = 0)
    (hmir : (s.tw n).mir.isSome = true) : s.twinOrder n cause = s.twinTake n cause := by
  simp only [State.twinOrder, hsh, hown, hclamp, hmir, Bool.not_true, Bool.or_false, Nat.reduceBEq, Bool.false_eq_true, if_false, if_true]

/-- Without a mirror its owner is assumed dead. -/
theorem State.twinOrder_assumes {n : Port} {cause : Nat} (hsh : s.shadowing n = true) (hown : s.mayOwn = true) (hclamp : s.inf (pCC n) CC.CFG_DB_CLAMP = 0)
    (hmir : (s.tw n).mir = none) : s.twinOrder n cause = s.twinAssume n := by
  simp only [State.twinOrder, hsh, hown, hclamp, hmir, Option.isSome_none, Bool.not_true, Bool.or_false, Nat.reduceBEq, Bool.false_eq_true, if_false]

/-! ### What a lost Rp shows -/

/-- A lost Rp is shown on the Type-C page. -/
theorem State.rpLost_shows (n : Port) : (s.rpLost n).flag (pCC n) CC.PG_EVT_RP_LOST = true ∧ (s.rpLost n).shadowing n = s.shadowing n ∧ (s.rpLost n).mayOwn = s.mayOwn ∧
    (s.rpLost n).inf (pCC n) CC.CFG_DB_CLAMP = s.inf (pCC n) CC.CFG_DB_CLAMP ∧ (s.rpLost n).tw n = s.tw n ∧ (s.rpLost n).tick = s.tick := by
  unfold State.rpLost
  refine ⟨?_, ?_, ?_, rfl, rfl, rfl⟩
  · simp -implicitDefEqProofs (disch := (clear * -; decide +revert)) [State.fld_put_same, State.flag_put_same, State.flag_raise]
  · simp -implicitDefEqProofs (disch := (clear * -; decide +revert)) [State.shadowing]
  · simp -implicitDefEqProofs (disch := (clear * -; decide +revert)) [State.mayOwn, State.acting]

/-! ### All ports together -/

theorem inRegs_ports {pages : List Nat} {regs : List (Nat × Nat)} {pg : Port → Nat} (h : ∀ m, pg m ∈ pages) : ∀ m, ∀ o, o < 256 → inRegs pages regs (pg m) o :=
  fun m o ho => .inl ⟨h m, ho⟩

theorem inBytes_ports {store aos : List (Nat × Nat)} (h : (0, 0x20000) ∈ store) :
    ∀ (m : Port) x, 0x4000 * m.val ≤ x → x < 0x4000 * m.val + 0x4000 → inBytes store aos x :=
  fun m x _ _ => inBytes_store _ h x (Nat.zero_le x) (by dsimp only; omega)

theorem inBytes_snaps {store aos : List (Nat × Nat)} (h : (0, 0x100) ∈ aos) :
    ∀ (m : Port) x, 0x100000 + 32 * m.val ≤ x → x < 0x100020 + 32 * m.val → inBytes store aos x :=
  fun m x _ _ => inBytes_aos _ h x (by dsimp only; omega) (by dsimp only; omega)

/-! ### Entries of a frame -/

/-- The entries of a frame leave the time of the last frame and the FLEET page. -/
theorem State.twinEntries_keep (f : Nat → List Byte) (l : List Nat) {g : Fld} (hg : g.off < 256) :
    (l.foldl (init := s) fun s k => s.twinEntryTake (f k)).twin.last = s.twin.last ∧ (l.foldl (init := s) fun s k => s.twinEntryTake (f k)).fld pFLEET g = s.fld pFLEET g := by
  induction l generalizing s with
  | nil => exact ⟨rfl, rfl⟩
  | cons k l ih =>
    rw [List.foldl_cons]
    obtain ⟨hlast, hfld⟩ := ih (s := s.twinEntryTake (f k))
    refine ⟨hlast.trans (s.twinEntryTake_last (f k)), hfld.trans (State.fld_of_same (State.twinEntryTake_same (f k) (Same.refl _ s) ?_ ?_))⟩
    · exact fun o ho => regKey_ne_page (by decide) ho hg
    · exact fun m => regKey_ne_page (by clear * -; decide +revert) (by decide) hg

/-! ### One port alone -/

/-- What does nothing on the other ports is done on its own. -/
theorem foldl_only {α β : Type} [DecidableEq α] {f : β → α → β} {a : α} (h : ∀ u b, b ≠ a → f u b = u) {l : List α} (hl : l.Nodup) (u : β) : l.foldl f u = if a ∈ l then f u a else u := by
  induction l generalizing u with
  | nil => simp
  | cons b l ih =>
    rw [List.nodup_cons] at hl
    rw [List.foldl_cons, ih hl.2]
    by_cases hb : b = a
    · subst hb
      simp [hl.1]
    · simp [h u b hb, Ne.symm hb]

theorem State.forPorts_only {f : State → Port → State} {n : Port} (h : ∀ u m, m ≠ n → f u m = u) : s.forPorts f = f s n := by
  rw [State.forPorts, foldl_only h (by decide), if_pos (mem_allPorts n)]

/-! ### The pairs' ledger -/

/-- The entries of the pairs' ledger (R366). -/
def State.pairEntries (s : State) : List Byte :=
  (((List.range 512).filter fun i => s.pairRole i != 0).take 31).flatMap fun i => leBytes 1 (i / 8) ++ leBytes 1 (i % 8) ++ leBytes 1 (s.pairRole i - 1) ++ leBytes 1 0 ++
    leBytes 2 (s.recGrant i) ++ leBytes 2 (s.recCommit i)

theorem State.length_pairEntries (s : State) : s.pairEntries.length ≤ 248 := by
  rw [State.pairEntries, length_flatMap_of (k := 8) fun i => by simp only [List.length_append, length_leBytes]]
  have htake := List.length_take_le 31 ((List.range 512).filter fun i => s.pairRole i != 0)
  omega

/-! ### The task of a takeover -/

theorem State.snapValid_of_aos {t : State} (h : t.aos = s.aos) (n : Port) : t.snapValid n = s.snapValid n := by
  have hread : ∀ a k, t.aosRead a k = s.aosRead a k := fun a k => by rw [State.aosRead, State.aosRead, h]
  rw [State.snapValid, State.snapValid, State.snapMarked, State.snapMarked, State.snapCrcOk, State.snapCrcOk, State.snapWord, State.snapWord, State.aosNat, State.aosNat, State.aosNat,
    State.aosNat, hread, hread, hread]

/-- What the write of a limit leaves of store, protocol layer and TWIN page. -/
theorem State.writeIlim_leaves (n : Port) : (s.writeIlim n).store = s.store ∧ ((s.writeIlim n).port n).pdl = (s.port n).pdl ∧
    (s.writeIlim n).fld pTWIN TWIN.COUNT_STALE = s.fld pTWIN TWIN.COUNT_STALE ∧ ((s.writeIlim n).own n).limited = true := by
  unfold State.writeIlim
  extract_lets v w
  have hw : w.store = s.store ∧ w.port n = s.port n ∧ w.fld pTWIN TWIN.COUNT_STALE = s.fld pTWIN TWIN.COUNT_STALE := by
    refine ⟨by simp [w], by simp [w], ?_⟩
    simp -implicitDefEqProofs (disch := (clear * -; decide +revert)) [w]
  clear_value w
  refine ⟨hw.1, congrArg PortSt.pdl hw.2.1, hw.2.2, ?_⟩
  rw [State.own_modOwn_same]

/-- A counter that moves is of the registers alone. -/
theorem State.bump_leaves (pg : Nat) (f : Fld) (k : Nat) : (s.bump pg f k).store = s.store ∧ (s.bump pg f k).ports = s.ports ∧ (s.bump pg f k).aos = s.aos := ⟨rfl, rfl, rfl⟩

theorem State.fld_bumpStale : (s.bump pTWIN TWIN.COUNT_STALE 1).fld pTWIN TWIN.COUNT_STALE = min (s.fld pTWIN TWIN.COUNT_STALE + 1) 0xFFFF := by
  rw [State.fld_bump_same _ _ _ (by decide), show 2 ^ TWIN.COUNT_STALE.w - 1 = 0xFFFF from rfl]

/-- The frame to the twins. -/
theorem twinFrameSend_carries (s : State) (hfw : s.fw = true) (hports : s.fld pTWIN TWIN.CFG_PORTS ≠ 0) (hup : s.linkUp 2 = true) (hst : s.stNat (txfAt 61 + 269) 1 ≠ 1) :
    Leads (exec (.twinFrameSend) s) fun t => s.Frame t [pBANK] ([(pFLEET, 0x10), (pSTORE, 0x10), (pSTORE, 0x28), (pSTORE, 0x2C), (pSTORE, 0x30), (pSTORE, 0x0C)] ++ everyLinkReg 0x34 ++ everyLinkReg 0x30) [txBytes] [] ∧ frType (t.stRead (txfAt 61) 8) = 0xC ∧ t.stNat (txfAt 61 + 268) 1 = 2 ∧ frLen (t.stRead (txfAt 61) 8) = 32 * (allPorts.filter s.twinned).length ∧ t.stRead (txfAt 61 + 8) (32 * (allPorts.filter s.twinned).length) = (allPorts.filter s.twinned).flatMap s.twinEntry := by
  have e : exec (.twinFrameSend) s = .next (s.sendEngine 61 0xC false 0x7F 2 0 ((allPorts.filter s.twinned).flatMap s.twinEntry)) := by
    show execTwinFrameSend s = _
    unfold execTwinFrameSend State.policy
    rw [if_pos hfw]
    exact congrArg Host.Outcome.next (if_neg (by simp [hports, hup]))
  have hlen : ((allPorts.filter s.twinned).flatMap s.twinEntry).length = 32 * (allPorts.filter s.twinned).length := length_flatMap_of length_twinEntry _
  have hle : (allPorts.filter s.twinned).length ≤ 8 := List.length_filter_le _ _
  refine ⟨_, e, Frame.of e (execTwinFrameSend_touches (by simp [inRegs]) (by simp [inRegs]) (by simp [inRegs]) (by simp [inRegs]) (inRegs_page (by simp)) (by simp [inRegs]) (by simp [inRegs]) (by clear * -; unfold inRegs; decide +revert) (by clear * -; unfold inRegs; decide +revert)) (execTwinFrameSend_stores (inBytes_store txBytes (by simp))) (execTwinFrameSend_answers), ?_⟩
  obtain ⟨htyp, -, -, hfrlen, -, hvia⟩ := State.sendEngine_reads (s := s) 61 0xC false 0x7F 2 0 (payload := (allPorts.filter s.twinned).flatMap s.twinEntry) (by omega)
  refine ⟨htyp, hvia, hfrlen.trans hlen, ?_⟩
  have hpay := s.sendEngine_payload 61 0xC false 0x7F 2 0 (payload := (allPorts.filter s.twinned).flatMap s.twinEntry) (i := 0) (n := 32 * (allPorts.filter s.twinned).length) (by omega) (by omega)
  rw [List.drop_zero, List.take_of_length_le (by omega)] at hpay
  exact hpay

/-- MIR. -/
theorem mirWrite_takes (s : State) (w7 : Word) (ht : s.Takes pTWIN) :
    Leads (exec (.mirWrite w7) s) fun t => s.Frame t [pTWIN] (everyPortReg pCC 0x44) [] [] ∧ (t.tw s.mirSel).mir = some (((List.range 7).flatMap fun w => leBytes 4 (s.fld pTWIN (TWIN.MIR_WORD.at w))) ++ leBytes 4 w7.toNat) ∧ t.flag (pCC s.mirSel) CC.SHADOW_WATCH_MIRRORED = true := by
  have e : exec (.mirWrite w7) s = .next (s.mirWrite w7) := congrArg Host.Outcome.next (State.cmd_takes ht _)
  have hsel : (s.put pTWIN (TWIN.MIR_WORD.at 7) w7.toNat).mirSel = s.mirSel := by simp -implicitDefEqProofs (disch := (clear * -; decide +revert)) [State.mirSel]
  have hwords : (s.put pTWIN (TWIN.MIR_WORD.at 7) w7.toNat).mirWords = ((List.range 7).flatMap fun w => leBytes 4 (s.fld pTWIN (TWIN.MIR_WORD.at w))) ++ leBytes 4 w7.toNat := by
    have hne : ∀ w < 7, (s.put pTWIN (TWIN.MIR_WORD.at 7) w7.toNat).fld pTWIN (TWIN.MIR_WORD.at w) = s.fld pTWIN (TWIN.MIR_WORD.at w) := by
      intro w hw
      refine State.fld_put_ne _ _ ?_
      clear * - hw
      decide +revert
    rw [State.mirWords, List.range_succ, List.flatMap_append, List.flatMap_singleton, State.fld_put_same _ _ _ _ (by decide)]
    congr 1
    · exact List.flatMap_congr fun w hw => by rw [hne w (List.mem_range.1 hw)]
    · exact congrArg _ (Nat.mod_eq_of_lt w7.isLt)
  obtain ⟨hmir, hwatch, -⟩ := (s.put pTWIN (TWIN.MIR_WORD.at 7) w7.toNat).takeMir_shows s.mirSel (s.put pTWIN (TWIN.MIR_WORD.at 7) w7.toNat).mirWords
  have hstep : s.mirWrite w7 = (s.put pTWIN (TWIN.MIR_WORD.at 7) w7.toNat).takeMir s.mirSel (s.put pTWIN (TWIN.MIR_WORD.at 7) w7.toNat).mirWords := by
    rw [← hsel]
    rfl
  rw [← hstep] at hmir hwatch
  exact ⟨_, e, Frame.of e (execMirWrite_touches w7 (inRegs_page (by simp)) (by clear * -; unfold inRegs; decide +revert)) (execMirWrite_stores w7) (execMirWrite_answers w7), hmir.trans (congrArg some hwords), hwatch⟩

/-- A frame of the twins. -/
theorem twinFrameReceive_takes (s : State) (entry : Fin 64) (hfw : s.fw = true) (htyp : s.rxType entry.val = 0xC) (hchk : s.stChecks (rxfAt entry.val) 512 = true) (hvia : s.rxVia entry.val = 2) (hrd : s.fld pFLEET FLEET.RXQ_RD_INDEX = entry.val) :
    Leads (exec (.twinFrameReceive entry) s) fun t => s.Frame t [pBANK, pTWIN] ([(pSTORE, 0x10), (pSTORE, 0x28), (pSTORE, 0x2C), (pSTORE, 0x30), (pSTORE, 0x0C), (pFLEET, 0x64)] ++ everyPortReg pCC 0x44) [] [] ∧ t.twin.last = some s.tick ∧ t.fld pFLEET FLEET.RXQ_RD_INDEX = (entry.val + 1) % 64 := by
  obtain ⟨u, hu⟩ : ∃ u, u = (List.range ((s.rxPayload entry.val).length / 32)).foldl (init := { s with twin := { s.twin with last := some s.tick } })
      fun s' k => s'.twinEntryTake (((s.rxPayload entry.val).drop (32 * k)).take 32) := ⟨_, rfl⟩
  have e : exec (.twinFrameReceive entry) s = .next (u.rxRelease entry.val) := by
    show execTwinFrameReceive entry s = _
    unfold execTwinFrameReceive State.policy
    rw [if_pos hfw, hu]
    dsimp only
    rw [State.stNote_of_stChecks hchk]
    exact congrArg Host.Outcome.next (if_neg (by simp [htyp, hchk, hvia]))
  obtain ⟨hlast, hkeep⟩ := State.twinEntries_keep (s := { s with twin := { s.twin with last := some s.tick } }) (fun k => ((s.rxPayload entry.val).drop (32 * k)).take 32)
    (List.range ((s.rxPayload entry.val).length / 32)) (g := FLEET.RXQ_RD_INDEX) (by decide)
  rw [← hu] at hlast hkeep
  refine ⟨_, e, Frame.of e (execTwinFrameReceive_touches entry (by simp [inRegs]) (by simp [inRegs]) (by simp [inRegs]) (inRegs_page (by simp)) (by simp [inRegs]) (by simp [inRegs]) (inRegs_page (by simp)) (by clear * -; unfold inRegs; decide +revert) (by simp [inRegs])) (execTwinFrameReceive_stores entry) (execTwinFrameReceive_answers entry), ?_⟩
  have hread : u.fld pFLEET FLEET.RXQ_RD_INDEX = entry.val % 64 := (hkeep.trans hrd).trans (Nat.mod_eq_of_lt entry.isLt).symm
  rw [State.rxRelease, if_pos hread]
  refine ⟨hlast, ?_⟩
  simp -implicitDefEqProofs (disch := (clear * -; decide +revert)) [State.fld_put_same, State.flag_put_same, State.flag_raise]
  rfl

/-- A lost Rp with a mirror. -/
theorem rpLost_takes (s : State) (n : Port) (hsh : s.shadowing n = true) (hown : s.mayOwn = true) (hclamp : s.inf (pCC n) CC.CFG_DB_CLAMP = 0) (hmir : (s.tw n).mir.isSome = true) :
    Leads (exec (.rpLost n) s) fun t => s.Frame t [pPDL n, pSHARE] [(pCC n, 0x0C), (pCC n, 0x10), (pCC n, 0x44), (pVDM n, 0x40), (pVDM n, 0x10), (pVDM n, 0x34), (pVDM n, 0x60), (pPOL n, 0x0C), (pPOL n, 0x34), (pPOL n, 0x10), (pPOL n, 0x2C), (pGUARD n, 0x0C), (pTWIN, 0x6C), (pTWIN, 0x38), (pTWIN, 0x10)] [portBytes n, descBytes] [snapBytes n] ∧ t.flag (pCC n) CC.PG_EVT_RP_LOST = true ∧ t.ccState n = .attachedSrc ∧ t.owning n = true ∧ t.fld pTWIN TWIN.LAST_TKO_CAUSE = 1 ∧ t.fld pTWIN TWIN.LAST_TKO_PORT = n.val ∧ (t.tw n).claim = some s.tick ∧ t.flag pTWIN TWIN.PG_EVT_TAKEOVER = true := by
  have e : exec (.rpLost n) s = .next ((s.rpLost n).twinTake n 1) := by
    obtain ⟨-, hsh', hown', hclamp', htw', -⟩ := s.rpLost_shows n
    exact congrArg Host.Outcome.next ((if_pos hsh).trans (State.twinOrder_takes (hsh'.trans hsh) (hown'.trans hown) (hclamp'.trans hclamp) (by rw [htw']; exact hmir)))
  obtain ⟨hlost, -, -, -, -, htick⟩ := s.rpLost_shows n
  obtain ⟨hst, howns, hcause, hport, -, hevt, hclaim, hkeep⟩ := (s.rpLost n).twinTake_shows n (cause := 1) (by decide)
  refine ⟨_, e, Frame.of e (execRpLost_touches n (by simp [inRegs]) (by simp [inRegs]) (inRegs_page (by simp)) (by simp [inRegs]) (by simp [inRegs]) (by simp [inRegs]) (by simp [inRegs]) (by simp [inRegs]) (by simp [inRegs]) (by simp [inRegs]) (by simp [inRegs]) (inRegs_page (by simp)) (by simp [inRegs]) (by simp [inRegs]) (by simp [inRegs]) (by simp [inRegs]) (by simp [inRegs])) (execRpLost_stores n (inBytes_store (portBytes n) (by simp)) (inBytes_store descBytes (by simp)) (inBytes_snap n (by simp))) (execRpLost_answers n) (by clear * -; decide +revert), ?_, hst, howns, hcause, hport, ?_, hevt⟩
  · rw [State.flag, hkeep]
    exact hlost
  · rw [← htick]
    exact hclaim

/-- A lost Rp without one. -/
theorem rpLost_assumes (s : State) (n : Port) (hsh : s.shadowing n = true) (hown : s.mayOwn = true) (hclamp : s.inf (pCC n) CC.CFG_DB_CLAMP = 0) (hmir : (s.tw n).mir = none) :
    Leads (exec (.rpLost n) s) fun t => s.Frame t [pPDL n, pSHARE] [(pCC n, 0x0C), (pCC n, 0x10), (pCC n, 0x44), (pVDM n, 0x40), (pVDM n, 0x10), (pVDM n, 0x34), (pVDM n, 0x60), (pPOL n, 0x0C), (pPOL n, 0x34), (pPOL n, 0x10), (pPOL n, 0x2C), (pGUARD n, 0x0C), (pTWIN, 0x6C), (pTWIN, 0x38), (pTWIN, 0x10)] [portBytes n, descBytes] [snapBytes n] ∧ t.flag (pCC n) CC.PG_EVT_RP_LOST = true ∧ t.ccState n = .unattachedSrc ∧ t.owning n = true ∧ t.fld pTWIN TWIN.LAST_TKO_CAUSE = 4 ∧ t.flag pTWIN TWIN.PG_EVT_ASSUMED = true := by
  have e : exec (.rpLost n) s = .next ((s.rpLost n).twinAssume n) := by
    obtain ⟨-, hsh', hown', hclamp', htw', -⟩ := s.rpLost_shows n
    exact congrArg Host.Outcome.next ((if_pos hsh).trans (State.twinOrder_assumes (hsh'.trans hsh) (hown'.trans hown) (hclamp'.trans hclamp) (by rw [htw']; exact hmir)))
  obtain ⟨hlost, -, -, -, -, -⟩ := s.rpLost_shows n
  obtain ⟨hst, howns, hcause, hevt, hkeep⟩ := (s.rpLost n).twinAssume_shows n
  refine ⟨_, e, Frame.of e (execRpLost_touches n (by simp [inRegs]) (by simp [inRegs]) (inRegs_page (by simp)) (by simp [inRegs]) (by simp [inRegs]) (by simp [inRegs]) (by simp [inRegs]) (by simp [inRegs]) (by simp [inRegs]) (by simp [inRegs]) (by simp [inRegs]) (inRegs_page (by simp)) (by simp [inRegs]) (by simp [inRegs]) (by simp [inRegs]) (by simp [inRegs]) (by simp [inRegs])) (execRpLost_stores n (inBytes_store (portBytes n) (by simp)) (inBytes_store descBytes (by simp)) (inBytes_snap n (by simp))) (execRpLost_answers n) (by clear * -; decide +revert), ?_, hst, howns, hcause, hevt⟩
  rw [State.flag, hkeep]
  exact hlost

/-- Silence on TIE. -/
theorem twinTakeover_takes (s : State) (n : Port) (hsil : s.silenceOrders n = true) (hown : s.mayOwn = true) (hclamp : s.inf (pCC n) CC.CFG_DB_CLAMP = 0) (hmir : (s.tw n).mir.isSome = true) :
    Leads (exec (.twinTakeover n) s) fun t => s.Frame t [pPDL n, pSHARE] [(pCC n, 0x0C), (pCC n, 0x10), (pVDM n, 0x40), (pVDM n, 0x10), (pVDM n, 0x34), (pVDM n, 0x60), (pPOL n, 0x0C), (pPOL n, 0x34), (pPOL n, 0x10), (pPOL n, 0x2C), (pGUARD n, 0x0C), (pTWIN, 0x6C), (pTWIN, 0x38), (pTWIN, 0x10)] [portBytes n, descBytes] [snapBytes n] ∧ t.ccState n = .attachedSrc ∧ t.owning n = true ∧ t.fld pTWIN TWIN.LAST_TKO_CAUSE = 2 ∧ t.fld pTWIN TWIN.COUNT_TAKEOVERS = min (s.fld pTWIN TWIN.COUNT_TAKEOVERS + 1) 0xFFFF ∧ t.flag pTWIN TWIN.PG_EVT_TAKEOVER = true := by
  have e : exec (.twinTakeover n) s = .next (s.twinTake n 2) := by
    have hsh : s.shadowing n = true := by
      simp only [State.silenceOrders, Bool.and_eq_true] at hsil
      exact hsil.1.1.1
    exact congrArg Host.Outcome.next ((if_pos hsil).trans (State.twinOrder_takes hsh hown hclamp hmir))
  obtain ⟨hst, howns, hcause, -, hcount, hevt, -, -⟩ := s.twinTake_shows n (cause := 2) (by decide)
  exact ⟨_, e, Frame.of e (execTwinTakeover_touches n (by simp [inRegs]) (by simp [inRegs]) (inRegs_page (by simp)) (by simp [inRegs]) (by simp [inRegs]) (by simp [inRegs]) (by simp [inRegs]) (by simp [inRegs]) (by simp [inRegs]) (by simp [inRegs]) (by simp [inRegs]) (inRegs_page (by simp)) (by simp [inRegs]) (by simp [inRegs]) (by simp [inRegs]) (by simp [inRegs])) (execTwinTakeover_stores n (inBytes_store (portBytes n) (by simp)) (inBytes_store descBytes (by simp)) (inBytes_snap n (by simp))) (execTwinTakeover_answers n) (by clear * -; decide +revert), hst, howns, hcause, hcount, hevt⟩

/-- The command. -/
theorem twinCmdTakeover_takes (s : State) (n : Port) (key : BitVec 16) (ht : s.Takes pTWIN) (hkey : key.toNat = 0x7A4C) (hsh : s.shadowing n = true) (hown : s.mayOwn = true) (hclamp : s.inf (pCC n) CC.CFG_DB_CLAMP = 0) (hmir : (s.tw n).mir.isSome = true) :
    Leads (exec (.twinCmdTakeover (BitVec.ofNat 8 (2 ^ n.val)) key) s) fun t => s.Frame t ([pSHARE] ++ everyPort pPDL) ([(pTWIN, 0x10), (pTWIN, 0x6C), (pTWIN, 0x38)] ++ everyPortReg pCC 0x0C ++ everyPortReg pCC 0x10 ++ everyPortReg pVDM 0x40 ++ everyPortReg pVDM 0x10 ++ everyPortReg pVDM 0x34 ++ everyPortReg pVDM 0x60 ++ everyPortReg pPOL 0x0C ++ everyPortReg pPOL 0x34 ++ everyPortReg pPOL 0x10 ++ everyPortReg pPOL 0x2C ++ everyPortReg pGUARD 0x0C) [(0, 0x20000), descBytes] [(0, 0x100)] ∧ t.ccState n = .attachedSrc ∧ t.owning n = true ∧ t.fld pTWIN TWIN.LAST_TKO_CAUSE = 3 ∧ t.fld pTWIN TWIN.LAST_TKO_PORT = n.val := by
  have hbit : ∀ m : Port, (BitVec.ofNat 8 (2 ^ n.val)).getLsbD m.val = decide (m = n) := by clear * -; decide +revert
  have e : exec (.twinCmdTakeover (BitVec.ofNat 8 (2 ^ n.val)) key) s = .next (s.twinTake n 3) := by
    refine congrArg Host.Outcome.next ((State.keyCmd_takes ht hkey _).trans ?_)
    rw [State.twinCmd, State.forPorts_only (n := n) fun u m hm => by rw [hbit, decide_eq_false hm]; rfl]
    rw [hbit, decide_eq_true rfl]
    exact State.twinOrder_takes hsh hown hclamp hmir
  obtain ⟨hst, howns, hcause, hport, -, -, -, -⟩ := s.twinTake_shows n (cause := 3) (by decide)
  exact ⟨_, e, Frame.of e (execTwinCmdTakeover_touches (BitVec.ofNat 8 (2 ^ n.val)) key (by simp [inRegs]) (by clear * -; unfold inRegs; decide +revert) (by clear * -; unfold inRegs; decide +revert) (inRegs_ports (by simp)) (by clear * -; unfold inRegs; decide +revert) (by clear * -; unfold inRegs; decide +revert) (by clear * -; unfold inRegs; decide +revert) (by clear * -; unfold inRegs; decide +revert) (by clear * -; unfold inRegs; decide +revert) (by clear * -; unfold inRegs; decide +revert) (by clear * -; unfold inRegs; decide +revert) (by clear * -; unfold inRegs; decide +revert) (inRegs_page (by simp)) (by clear * -; unfold inRegs; decide +revert) (by simp [inRegs]) (by simp [inRegs])) (execTwinCmdTakeover_stores (BitVec.ofNat 8 (2 ^ n.val)) key (inBytes_ports (by simp)) (inBytes_store descBytes (by simp)) (inBytes_snaps (by simp))) (execTwinCmdTakeover_answers (BitVec.ofNat 8 (2 ^ n.val)) key), hst, howns, hcause, hport⟩

/-- The task of a takeover. -/
theorem takeoverTask_sends (s : State) (n : Port) (hfw : s.fw = true) (hport : s.fld pTWIN TWIN.LAST_TKO_PORT = n.val) (hst : s.ccState n = .attachedSrc) (hcause : s.fld pTWIN TWIN.LAST_TKO_CAUSE = 3) (hstale : s.flag pTWIN TWIN.LAST_TKO_STALE = true) (hsnap : s.snapValid n = false) (hs : s.MaySend n) :
    Leads (exec (.takeoverTask) s) fun t => s.Frame t (everyPort pPDL) ([(pTWIN, 0x6C)] ++ everyPortReg pVDM 0x40 ++ everyPortReg pVDM 0x10 ++ everyPortReg pGUARD 0x2C) [(0, 0x20000), descBytes] [] ∧ s.Sent t n 0 13 [] ∧ t.fld pTWIN TWIN.COUNT_STALE = min (s.fld pTWIN TWIN.COUNT_STALE + 1) 0xFFFF ∧ (t.own n).limited = true := by
  have e : exec (.takeoverTask) s = .next (((s.fwSend n 0 13 [] false).bump pTWIN TWIN.COUNT_STALE 1).writeIlim n) := by
    show execTakeoverTask s = _
    unfold execTakeoverTask State.policy
    rw [if_pos hfw]
    have hn : (Fin.ofNat 8 (s.fld pTWIN TWIN.LAST_TKO_PORT) : Port) = n := by
      rw [hport]
      exact Fin.ext (Nat.mod_eq_of_lt n.isLt)
    dsimp only
    rw [hn, if_neg (by simp [hst, hcause]), if_pos hstale]
    have hno : (((s.fwSend n 0 13 [] false).bump pTWIN TWIN.COUNT_STALE 1).snapValid n) = false := by
      refine Eq.trans ?_ hsnap
      have haos : (s.fwSend n 0 13 [] false).aos = s.aos :=
        (State.fwSend_keeps n 0 13 [] false (Keeps.refl ⟨true, true, true, true, false, true, true, true, true, true, true, true, true, true, false⟩ s)).aos rfl
      exact (State.snapValid_of_aos (State.bump_leaves pTWIN TWIN.COUNT_STALE 1).2.2 n).trans (State.snapValid_of_aos haos n)
    rw [hno, Bool.false_and, if_neg (by decide)]
  obtain ⟨⟨htok, hread, hqueue⟩, hregs, -⟩ := State.fwSendFor_sends hs 0 13 [] false .plain (by simp)
  obtain ⟨hstore, hports, -⟩ := State.bump_leaves (s := s.fwSend n 0 13 [] false) pTWIN TWIN.COUNT_STALE 1
  have hcount := State.fld_bumpStale (s := s.fwSend n 0 13 [] false)
  rw [State.fwSend] at e hstore hports hcount
  rw [State.fld_of_regs hregs] at hcount
  generalize s.fwSendFor n 0 13 [] false .plain = u at *
  generalize u.bump pTWIN TWIN.COUNT_STALE 1 = v at *
  obtain ⟨hstore', hpdl, hcount', hlim⟩ := v.writeIlim_leaves n
  have hread' : ∀ a k, (v.writeIlim n).stRead a k = u.stRead a k := fun a k => by rw [State.stRead, hstore', hstore, State.stRead]
  have hpdl' : ((v.writeIlim n).port n).pdl = (u.port n).pdl := hpdl.trans (by rw [State.port, hports, State.port])
  refine ⟨_, e, Frame.of e (execTakeoverTask_touches (by simp [inRegs]) (inRegs_ports (by simp)) (by clear * -; unfold inRegs; decide +revert) (by clear * -; unfold inRegs; decide +revert) (by clear * -; unfold inRegs; decide +revert)) (execTakeoverTask_stores (inBytes_ports (by simp)) (inBytes_store descBytes (by simp))) (execTakeoverTask_answers), ⟨?_, ?_, ?_⟩, hcount'.trans hcount, hlim⟩
  · rw [hread']
    exact htok
  · rw [hread']
    exact hread
  · rw [hpdl']
    exact hqueue

/-- A hot shadow joins. -/
theorem twinJoin_joins (s : State) (n : Port) (hsh : s.shadowing n = true) (hst : s.ccState n = .disabled) (hen : s.inf (pCC n) PG.CTRL_ENABLE = 1) (hhot : s.flag pTWIN TWIN.CFG_HOT = true) (hmir : s.mirValid n = true) (hgst : s.guardState n = 0) (hgen : s.enabled (pGUARD n) = true) :
    Leads (exec (.twinJoin n) s) fun t => s.Frame t [] [(pGUARD n, 0x0C)] [] [] ∧ t.guardState n = 2 ∧ t.flag (pGUARD n) GUARD.PG_STAT_JOIN = true ∧ (t.port n).guard.joined = true := by
  have e : exec (.twinJoin n) s = .next (s.joinGuard n) := congrArg Host.Outcome.next (if_pos ⟨hsh, hst, hen, hhot, hmir⟩)
  refine ⟨_, e, Frame.of e (execTwinJoin_touches n (by simp [inRegs])) (execTwinJoin_stores n) (execTwinJoin_answers n), ?_⟩
  rw [State.joinGuard, if_pos ⟨hgst, hgen⟩]
  refine ⟨?_, ?_, ?_⟩
  · simp -implicitDefEqProofs (disch := (clear * -; decide +revert)) [State.guardState, State.fld_put_same, State.flag_put_same, State.flag_raise]
    rfl
  · simp -implicitDefEqProofs (disch := (clear * -; decide +revert)) [State.fld_put_same, State.flag_put_same, State.flag_raise]
  · simp -implicitDefEqProofs (disch := (clear * -; decide +revert)) [State.modGuard]

/-- A port that prefers to own. -/
theorem twinRoleChoice_owns (s : State) (n : Port) (hfw : s.fw = true) (htw : s.twinned n = true) (hlk : s.locked (pCC n) = false) (hmir : (s.tw n).mir = none) (hown : s.mayOwn = true) (hpref : s.flag pTWIN TWIN.CFG_PREF_OWNER = true) :
    Leads (exec (.twinRoleChoice n) s) fun t => s.Frame t [] [(pCC n, 0x10), (pCC n, 0x20)] [] [] ∧ t.fld (pCC n) CC.CFG_TWIN = 1 ∧ (t.tw n).claim = some s.tick := by
  have e : exec (.twinRoleChoice n) s = .next ((s.put (pCC n) CC.CFG_TWIN 1).claimNow n) := by
    show execTwinRoleChoice n s = _
    unfold execTwinRoleChoice State.policy
    rw [if_pos hfw]
    simp [htw, hlk, hmir, hown, hpref]
  refine ⟨_, e, Frame.of e (execTwinRoleChoice_touches n (by simp [inRegs]) (by simp [inRegs])) (execTwinRoleChoice_stores n) (execTwinRoleChoice_answers n), ?_, ?_⟩
  · simp -implicitDefEqProofs (disch := (clear * -; decide +revert)) [State.claimNow, State.fld_put_same, State.flag_put_same, State.flag_raise]
  · rw [State.claimNow, State.tw_modTw_same]
    simp -implicitDefEqProofs (disch := (clear * -; decide +revert)) []

/-- Another one. -/
theorem twinRoleChoice_shadows (s : State) (n : Port) (hfw : s.fw = true) (htw : s.twinned n = true) (hlk : s.locked (pCC n) = false) (hpref : s.flag pTWIN TWIN.CFG_PREF_OWNER = false) :
    Leads (exec (.twinRoleChoice n) s) fun t => s.Frame t [] [(pCC n, 0x10), (pCC n, 0x20)] [] [] ∧ t.fld (pCC n) CC.CFG_TWIN = 2 ∧ t.twin = s.twin := by
  have e : exec (.twinRoleChoice n) s = .next (s.put (pCC n) CC.CFG_TWIN 2) := by
    show execTwinRoleChoice n s = _
    unfold execTwinRoleChoice State.policy
    rw [if_pos hfw]
    simp [htw, hlk, hpref]
  refine ⟨_, e, Frame.of e (execTwinRoleChoice_touches n (by simp [inRegs]) (by simp [inRegs])) (execTwinRoleChoice_stores n) (execTwinRoleChoice_answers n), ?_, rfl⟩
  simp -implicitDefEqProofs (disch := (clear * -; decide +revert)) [State.fld_put_same, State.flag_put_same, State.flag_raise]
  rfl

/-- A younger claim yields. -/
theorem twinClaimYield_yields (s : State) (n : Port) (hfw : s.fw = true) (hyield : s.mustYield n = true) (hlk : s.locked (pCC n) = false) :
    Leads (exec (.twinClaimYield n) s) fun t => s.Frame t [] [(pCC n, 0x08), (pCC n, 0x10), (pCC n, 0x20)] [] [] ∧ t.fld (pCC n) PG.CTRL_ENABLE = 0 ∧ t.fld (pCC n) CC.CFG_TWIN = 2 ∧ t.fld (pCC n) CC.PG_STAT_TWIN_MODE = s.fld (pCC n) CC.PG_STAT_TWIN_MODE ∧ (t.tw n).claim = none ∧ (t.tw n).yields = true := by
  have hlk' : (s.put (pCC n) PG.CTRL_ENABLE 0).locked (pCC n) = false := by
    rw [← hlk]
    simp -implicitDefEqProofs (disch := (clear * -; decide +revert)) [State.locked]
  have e : exec (.twinClaimYield n) s = .next (((s.put (pCC n) PG.CTRL_ENABLE 0).put (pCC n) CC.CFG_TWIN 2).modTw n fun t => { t with claim := none, yields := true }) := by
    show execTwinClaimYield n s = _
    unfold execTwinClaimYield State.policy
    rw [if_pos hfw]
    refine congrArg Host.Outcome.next ((if_pos hyield).trans ?_)
    simp only [hlk', Bool.false_eq_true, if_false]
  refine ⟨_, e, Frame.of e (execTwinClaimYield_touches n (by simp [inRegs]) (by simp [inRegs]) (by simp [inRegs])) (execTwinClaimYield_stores n) (execTwinClaimYield_answers n), ?_, ?_, ?_, ?_, ?_⟩
  · simp -implicitDefEqProofs (disch := (clear * -; decide +revert)) [State.fld_put_same, State.flag_put_same, State.flag_raise]
  · simp -implicitDefEqProofs (disch := (clear * -; decide +revert)) [State.fld_put_same, State.flag_put_same, State.flag_raise]
    rfl
  · simp -implicitDefEqProofs (disch := (clear * -; decide +revert)) []
  · rw [State.tw_modTw_same]
  · rw [State.tw_modTw_same]

/-- The ledger of the pairs. -/
theorem pairLedger_sends (s : State) (hfw : s.fw = true) (hpl : s.places = true) (hup : s.linkUp 2 = true) (hst : s.stNat (txfAt 60 + 269) 1 ≠ 1) :
    Leads (exec (.pairLedger) s) fun t => s.Frame t [pBANK] ([(pFLEET, 0x10), (pSTORE, 0x10), (pSTORE, 0x28), (pSTORE, 0x2C), (pSTORE, 0x30), (pSTORE, 0x0C)] ++ everyLinkReg 0x34 ++ everyLinkReg 0x30) [txBytes] [] ∧ frType (t.stRead (txfAt 60) 8) = 0xD ∧ t.stNat (txfAt 60 + 8) 1 = 1 ∧ t.stNat (txfAt 60 + 12) 4 = s.place.runs % 2 ^ 32 ∧ t.stNat (txfAt 60 + 268) 1 = 2 := by
  obtain ⟨rest, hlen, e⟩ : ∃ rest : List Byte, rest.length ≤ 248 ∧
      exec (.pairLedger) s = .next (s.sendEngine 60 0xD false 0x7F 2 0 (leBytes 1 1 ++ leBytes 3 0 ++ leBytes 4 s.place.runs ++ rest)) := by
    have he : execPairLedger s = .next (if !s.places || !s.linkUp 2 then s else s.sendEngine 60 0xD false 0x7F 2 0 (leBytes 1 1 ++ leBytes 3 0 ++ leBytes 4 s.place.runs ++ s.pairEntries)) := by
      unfold execPairLedger State.policy
      rw [if_pos hfw]
      rfl
    exact ⟨_, s.length_pairEntries, he.trans (congrArg Host.Outcome.next (if_neg (by simp [hpl, hup])))⟩
  have hpay : (leBytes 1 1 ++ leBytes 3 0 ++ leBytes 4 s.place.runs ++ rest).length = 8 + rest.length := by
    simp only [List.length_append, length_leBytes]
  refine ⟨_, e, Frame.of e (execPairLedger_touches (by simp [inRegs]) (by simp [inRegs]) (by simp [inRegs]) (by simp [inRegs]) (inRegs_page (by simp)) (by simp [inRegs]) (by simp [inRegs]) (by clear * -; unfold inRegs; decide +revert) (by clear * -; unfold inRegs; decide +revert)) (execPairLedger_stores (inBytes_store txBytes (by simp))) (execPairLedger_answers), ?_⟩
  obtain ⟨htyp, -, -, -, -, hvia⟩ := State.sendEngine_reads (s := s) 60 0xD false 0x7F 2 0 (payload := leBytes 1 1 ++ leBytes 3 0 ++ leBytes 4 s.place.runs ++ rest) (by omega)
  have hread : ∀ i n, i + n ≤ 8 → _ := fun i n h => State.sendEngine_payload (s := s) 60 0xD false 0x7F 2 0
    (payload := leBytes 1 1 ++ leBytes 3 0 ++ leBytes 4 s.place.runs ++ rest) (i := i) (n := n) (by omega) (by omega)
  refine ⟨htyp, ?_, ?_, hvia⟩
  · rw [State.stNat, show txfAt 60 + 8 = txfAt 60 + 8 + 0 from rfl, hread 0 1 (by decide)]
    simp [leBytes, leNat]
  · rw [State.stNat, show txfAt 60 + 12 = txfAt 60 + 8 + 4 from rfl, hread 4 4 (by decide)]
    have hcut : ((leBytes 1 1 ++ leBytes 3 0 ++ leBytes 4 s.place.runs ++ rest).drop 4).take 4 = leBytes 4 s.place.runs := by
      rw [List.append_assoc, List.drop_left' (by simp), List.take_left' (by simp)]
    rw [hcut, leNat_leBytes]
    rfl

/-- Settles O53: each clause by a lemma of its own. -/
theorem twinCommandsComplete : Obligations.TwinCommandsComplete := by
  unfold Obligations.TwinCommandsComplete
  exact ⟨twinFrameSend_carries, mirWrite_takes, twinFrameReceive_takes, rpLost_takes, rpLost_assumes, twinTakeover_takes, twinCmdTakeover_takes, takeoverTask_sends, twinJoin_joins, twinRoleChoice_owns, twinRoleChoice_shadows, twinClaimYield_yields, pairLedger_sends⟩

end Sys2Proof.Machine
end

section
/-!
PROOFS. Records of the ledger: words read back after they are written, and what every other record keeps (R333, R355).
-/

set_option Elab.async false

namespace Sys2Proof.Machine

variable {s : State}

/-! ### Numbers in the store -/

theorem State.stNat_stPut_same {a n : Nat} (h : a + n ≤ storeTop) (v : Nat) : (s.stPut a n v).stNat a n = v % 256 ^ n := by
  have hread := s.stRead_stWrite_mid [] (leBytes n v) [] (a := a) (by simpa using h)
  simp only [List.nil_append, List.append_nil, List.length_nil, Nat.add_zero, length_leBytes] at hread
  rw [State.stNat, State.stPut, hread, leNat_leBytes]

theorem State.stNat_stPut_below {a n b k : Nat} (h : b + k ≤ a) (v : Nat) : (s.stPut a n v).stNat b k = s.stNat b k := by
  rw [State.stNat, State.stPut, s.stRead_stWrite_out _ h, State.stNat]

theorem State.stNat_stPut_above {a n b k : Nat} (h : a + n ≤ b) (v : Nat) : (s.stPut a n v).stNat b k = s.stNat b k := by
  rw [State.stNat, State.stPut, State.stRead_stWrite_above _ (by simpa using h), State.stNat]

/-! ### One record -/

/-- The 32 bytes of the record at `a`. -/
def InRec (a x : Nat) : Prop := a ≤ x ∧ x < a + 32

/-- A word of a record is written within it. -/
theorem State.recPut_within {t : State} {a w : Nat} (hw : w < 8) (v : Nat) (h : StSame (InRec a) s t) : StSame (InRec a) s (t.recPut a w v) := by
  have hput : ∀ {u : State} (b k : Nat), a ≤ b → b + k ≤ a + 32 → ∀ x, StSame (InRec a) s u → StSame (InRec a) s (u.stPut b k x) :=
    fun b k h1 h2 x hu => State.stPut_stores b k x hu fun y hy1 hy2 => ⟨h1.trans hy1, hy2.trans_le h2⟩
  exact hput (a + 28) 4 (by omega) (by omega) _ (hput (a + 4 * w) 4 (by omega) (by omega) v h)

theorem State.recSet_within {t : State} {a w : Nat} (hw : w < 8) (lo n v : Nat) (h : StSame (InRec a) s t) : StSame (InRec a) s (t.recSet a w lo n v) :=
  State.recPut_within hw _ h

theorem State.recLedger_within {t : State} {i : Nat} (grant commit st : Nat) (h : StSame (InRec (recAt i)) s t) : StSame (InRec (recAt i)) s (t.recLedger i grant commit st) :=
  State.recSet_within (by decide) _ _ _ (State.stPut_stores _ _ _ h fun x h1 h2 => ⟨by omega, by omega⟩)

/-- The word written reads back; the checksum stands behind it. -/
theorem State.recWord_recPut_same {a w : Nat} (hw : w < 7) (ha : a + 32 ≤ storeTop) (v : Nat) : (s.recPut a w v).recWord a w = v % 2 ^ 32 := by
  have hcrc : (s.recPut a w v).stNat (a + 4 * w) 4 = (s.stPut (a + 4 * w) 4 v).stNat (a + 4 * w) 4 := State.stNat_stPut_below (by omega) _
  rw [State.recWord, hcrc, State.stNat_stPut_same (by omega), show 256 ^ 4 = 2 ^ 32 from rfl]

/-- The other words stay. -/
theorem State.recWord_recPut_ne {a w w' : Nat} (hne : w' ≠ w) (hw' : w' < 7) (v : Nat) : (s.recPut a w v).recWord a w' = s.recWord a w' := by
  have hcrc : (s.recPut a w v).stNat (a + 4 * w') 4 = (s.stPut (a + 4 * w) 4 v).stNat (a + 4 * w') 4 := State.stNat_stPut_below (by omega) _
  rw [State.recWord, State.recWord, hcrc]
  rcases Nat.lt_or_gt_of_ne hne with h | h
  · exact State.stNat_stPut_below (by omega) _
  · exact State.stNat_stPut_above (by omega) _

/-- Words of another record stay. -/
theorem StSame.recWord {t : State} {a b : Nat} (h : StSame (InRec a) s t) (hab : a + 32 ≤ b ∨ b + 32 ≤ a) {w : Nat} (hw : w < 8) : t.recWord b w = s.recWord b w := by
  refine h.stNat fun x h1 h2 hin => ?_
  obtain ⟨h3, h4⟩ := hin
  omega

theorem recAt_apart {i j : Nat} (hi : i < 512) (hj : j < 512) (hij : i ≠ j) : recAt i + 32 ≤ recAt j ∨ recAt j + 32 ≤ recAt i := by
  rw [recAt, recAt, Nat.mod_eq_of_lt hi, Nat.mod_eq_of_lt hj]
  omega

theorem recAt_top (i : Nat) : recAt i + 32 ≤ storeTop := by
  have := Nat.mod_lt i (show 0 < 512 by decide)
  rw [recAt, storeTop]
  omega

theorem leNat_lt (l : List Byte) : leNat l < 256 ^ l.length := by
  induction l with
  | nil => decide
  | cons b l ih =>
    have hb : b.toNat < 256 := b.isLt
    rw [leNat, List.length_cons, pow_succ]
    omega

theorem recWord_lt (s : State) (a w : Nat) : s.recWord a w < 2 ^ 32 := by
  have h := leNat_lt (s.stRead (a + 4 * w) 4)
  rw [length_stRead] at h
  exact h

/-- A field of a word that is written reads back. -/
theorem State.bitsOf_recSet_same {a w lo n : Nat} (hw : w < 7) (ha : a + 32 ≤ storeTop) (hn : lo + n ≤ 32) (v : Nat) : bitsOf ((s.recSet a w lo n v).recWord a w) lo n = v % 2 ^ n := by
  rw [State.recSet, State.recWord_recPut_same hw ha, Nat.mod_eq_of_lt (setBits_lt (recWord_lt s a w) hn), bitsOf_setBits]

theorem State.recWord_recSet_ne {a w w' : Nat} (hne : w' ≠ w) (hw' : w' < 7) (lo n v : Nat) : (s.recSet a w lo n v).recWord a w' = s.recWord a w' :=
  State.recWord_recPut_ne hne hw' _

/-- Grant and commitment of a record that is entered into the ledger; floor, ceiling and placement stay. -/
theorem State.recLedger_reads (i grant commit st : Nat) : (s.recLedger i grant commit st).recGrant i = grant % 65536 ∧ (s.recLedger i grant commit st).recCommit i = commit % 65536 ∧
    (s.recLedger i grant commit st).recWord (recAt i) 0 = s.recWord (recAt i) 0 ∧ (s.recLedger i grant commit st).recWord (recAt i) 1 = s.recWord (recAt i) 1 := by
  have htop := recAt_top i
  have hword : (s.recLedger i grant commit st).recWord (recAt i) 2 = grant % 65536 + 65536 * (commit % 65536) := by
    rw [State.recLedger, State.recWord_recSet_ne (by decide) (by decide), State.recWord, State.stNat_stPut_same (by omega)]
    exact Nat.mod_eq_of_lt (by omega)
  have hlow : ∀ w, w < 2 → (s.recLedger i grant commit st).recWord (recAt i) w = s.recWord (recAt i) w := by
    intro w hw
    rw [State.recLedger, State.recWord_recSet_ne (by omega) (by omega), State.recWord, State.stNat_stPut_below (by omega), State.recWord]
  refine ⟨?_, ?_, hlow 0 (by decide), hlow 1 (by decide)⟩
  · rw [State.recGrant, hword, bitsOf]
    omega
  · rw [State.recCommit, hword, bitsOf]
    omega

/-! ### What the placing device knows of ports and nodes -/

theorem State.idx_led (i : Nat) : (s.led i).idx = i := by
  unfold State.led
  cases h : s.place.leds.find? fun l => l.idx == i with
  | none => rfl
  | some l => simpa using List.find?_some h

theorem State.node_nodeLed (k : Nat) : (s.nodeLed k).node = k := by
  unfold State.nodeLed
  cases h : s.place.nodes.find? fun l => l.node == k with
  | none => rfl
  | some l => simpa using List.find?_some h

theorem State.led_modLed_same {i : Nat} {f : Led → Led} (h : (f (s.led i)).idx = i) : (s.modLed i f).led i = f (s.led i) := by
  rw [State.led, State.modLed, State.modPlace, List.find?_cons_of_pos (by simpa using h), Option.getD_some]

theorem State.led_modLed_ne {i j : Nat} {f : Led → Led} (h : (f (s.led j)).idx = j) (hij : i ≠ j) : (s.modLed j f).led i = s.led i := by
  rw [State.led, State.modLed, State.modPlace, List.find?_cons_of_neg (by simpa [h] using hij.symm), List.find?_filter, State.led]
  congr 2
  funext l
  by_cases hl : l.idx = i
  · simp [hl, hij]
  · simp [hl]

theorem State.nodeLed_modNode_same {k : Nat} {f : NodeLed → NodeLed} (h : (f (s.nodeLed k)).node = k) : (s.modNode k f).nodeLed k = f (s.nodeLed k) := by
  rw [State.nodeLed, State.modNode, State.modPlace, List.find?_cons_of_pos (by simpa using h), Option.getD_some]

/-- A state with the same notes of ports and nodes. -/
theorem State.led_of_leds {t : State} (h : t.place.leds = s.place.leds) (i : Nat) : t.led i = s.led i := by rw [State.led, h, State.led]

theorem State.nodeLed_of_nodes {t : State} (h : t.place.nodes = s.place.nodes) (k : Nat) : t.nodeLed k = s.nodeLed k := by rw [State.nodeLed, h, State.nodeLed]

theorem State.recPut_place (a w v : Nat) : (s.recPut a w v).place.leds = s.place.leds ∧ (s.recPut a w v).place.nodes = s.place.nodes ∧ (s.recPut a w v).place.seq = s.place.seq ∧
    (s.recPut a w v).place.runs = s.place.runs ∧ (s.recPut a w v).regs = s.regs ∧ (s.recPut a w v).tick = s.tick := ⟨rfl, rfl, rfl, rfl, rfl, rfl⟩

end Sys2Proof.Machine
end

section
/-!
PROOFS. The placing device (R333-R341, R352-R355).
-/

set_option Elab.async false

namespace Sys2Proof.Machine

variable {s : State}

/-! ### A run's number -/

/-- The tick and the number of the last placement run. -/
def State.runNo (s : State) : Nat × Nat × Nat := (s.tick, s.place.seq, s.place.runs)

/-- What every step of a list keeps, stays. -/
theorem foldl_leaves {α β : Type} (q : State → β) {f : State → α → State} (h : ∀ t a, q (f t a) = q t) (l : List α) (t : State) : q (l.foldl f t) = q t := by
  induction l generalizing t with
  | nil => rfl
  | cons a l ih => exact (ih _).trans (h t a)

theorem foldl_runNo {α : Type} {f : State → α → State} (h : ∀ t a, (f t a).runNo = t.runNo) (l : List α) (t : State) : (l.foldl f t).runNo = t.runNo :=
  foldl_leaves State.runNo h l t

theorem State.runNo_of {t : State} (htick : t.tick = s.tick) (hseq : t.place.seq = s.place.seq) (hruns : t.place.runs = s.place.runs) : t.runNo = s.runNo := by
  rw [State.runNo, htick, hseq, hruns, State.runNo]

theorem State.runNo_recPut (a w v : Nat) : (s.recPut a w v).runNo = s.runNo := State.runNo_of rfl rfl rfl

theorem State.runNo_recSet (a w lo n v : Nat) : (s.recSet a w lo n v).runNo = s.runNo := s.runNo_recPut _ _ _

theorem State.runNo_recLedger (i grant commit st : Nat) : (s.recLedger i grant commit st).runNo = s.runNo :=
  ((s.stPut (recAt i + 8) 4 (grant % 65536 + 65536 * (commit % 65536))).runNo_recSet (recAt i) 3 16 3 st).trans (State.runNo_of rfl rfl rfl)

theorem State.runNo_modPlace {f : PlaceSt → PlaceSt} (hseq : (f s.place).seq = s.place.seq) (hruns : (f s.place).runs = s.place.runs) : (s.modPlace f).runNo = s.runNo :=
  State.runNo_of rfl hseq hruns

theorem State.runNo_modLed (i : Nat) (f : Led → Led) : (s.modLed i f).runNo = s.runNo := State.runNo_of rfl rfl rfl

theorem State.runNo_modNode (k : Nat) (f : NodeLed → NodeLed) : (s.modNode k f).runNo = s.runNo := State.runNo_of rfl rfl rfl

/-- Settling a pool's records leaves the run's number. -/
theorem State.runNo_ledgerStep (p : Nat) (noInc : Nat → Bool) : (s.ledgerStep p noInc).runNo = s.runNo := by
  unfold State.ledgerStep
  extract_lets -merge -underBinder +onlyGivenNames avail cut ports ts mark stCode a
  have ha : a.runNo = s.runNo := by
    refine foldl_runNo (fun t x => ?_) _ _
    split
    · rfl
    · split
      · exact (State.runNo_modLed _ _).trans (State.runNo_recLedger _ _ _ _)
      · split
        · exact (State.runNo_modLed _ _).trans (State.runNo_recLedger _ _ _ _)
        · rfl
  clear_value a
  extract_lets -merge -underBinder +onlyGivenNames pending ups b
  have hb : b.runNo = a.runNo := by
    refine foldl_runNo (fun t x => ?_) _ _
    split
    · exact (State.runNo_modLed _ _).trans (State.runNo_recLedger _ _ _ _)
    · exact (State.runNo_modLed _ _).trans (State.runNo_recLedger _ _ _ _)
  clear_value b
  extract_lets -merge -underBinder +onlyGivenNames at' short st c
  have hc : c.runNo = b.runNo := (State.runNo_recPut _ _ _).trans (State.runNo_recPut _ _ _)
  clear_value c
  exact (State.runNo_modPlace rfl rfl).trans (hc.trans (hb.trans ha))

theorem State.runNo_numberChanged : s.numberChanged.1.runNo = s.runNo := by
  unfold State.numberChanged
  extract_lets changed order s'
  have hs' : s'.runNo = s.runNo := foldl_runNo (fun t c => t.runNo_modLed _ _) _ _
  clear_value s'
  exact hs'

theorem State.runNo_sendEngine (slot typ : Nat) (bcast : Bool) (dest via tag : Nat) (payload : List Byte) : (s.sendEngine slot typ bcast dest via tag payload).runNo = s.runNo := by
  have hk := State.sendEngine_keeps slot typ bcast dest via tag payload (Keeps.refl ⟨true, true, true, true, false, true, true, true, false, true, true, true, true, true, true⟩ s)
  have htick : (s.sendEngine slot typ bcast dest via tag payload).tick = s.tick := hk.tick rfl
  have hplace : (s.sendEngine slot typ bcast dest via tag payload).place = s.place := hk.place rfl
  exact State.runNo_of htick (by rw [hplace]) (by rw [hplace])

/-! ### A grant that a port takes -/

/-- A change of a port's grant that keeps its number. -/
theorem State.seq_modOwn (n m : Port) {f : OwnGrant → OwnGrant} (hf : ∀ o, (f o).seq = o.seq) : ((s.modOwn n f).own m).seq = (s.own m).seq := by
  by_cases h : m = n
  · subst h
    rw [State.own_modOwn_same, hf]
  · rw [s.own_modOwn_ne f h]

theorem State.runNo_modOwn (n : Port) (f : OwnGrant → OwnGrant) : (s.modOwn n f).runNo = s.runNo := State.runNo_of rfl rfl rfl

theorem State.own_modLed (i : Nat) (f : Led → Led) (m : Port) : (s.modLed i f).own m = s.own m := rfl

theorem State.own_modPlace {f : PlaceSt → PlaceSt} (h : (f s.place).own = s.place.own) (m : Port) : (s.modPlace f).own m = s.own m := congrArg (fun v => v.get m) h

theorem State.own_recSet (a w lo n v : Nat) (m : Port) : (s.recSet a w lo n v).own m = s.own m := by
  have h : (s.recSet a w lo n v).place.own = s.place.own := rfl
  rw [State.own, h, State.own]

theorem State.runNo_put (pg : Nat) (f : Fld) (v : Nat) : (s.put pg f v).runNo = s.runNo := State.runNo_of rfl rfl rfl

/-- A state with the run's number of another and the number of its grant of port `m`. -/
def SameNo (m : Port) (s t : State) : Prop := t.runNo = s.runNo ∧ (t.own m).seq = (s.own m).seq

theorem SameNo.refl (m : Port) (s : State) : SameNo m s s := ⟨rfl, rfl⟩

theorem SameNo.modOwn {t : State} {m : Port} (n : Port) {f : OwnGrant → OwnGrant} (hf : ∀ o, (f o).seq = o.seq) (h : SameNo m s t) : SameNo m s (t.modOwn n f) :=
  ⟨(State.runNo_modOwn n f).trans h.1, (State.seq_modOwn n m hf).trans h.2⟩

theorem SameNo.put {t : State} {m : Port} (pg : Nat) (f : Fld) (v : Nat) (h : SameNo m s t) : SameNo m s (t.put pg f v) :=
  ⟨(State.runNo_put pg f v).trans h.1, h.2⟩

theorem State.sameNo_writeIlim {t : State} {m : Port} (n : Port) (h : SameNo m s t) : SameNo m s (t.writeIlim n) := by
  unfold State.writeIlim
  exact (h.put _ _ _).modOwn n fun _ => rfl

theorem State.sameNo_holdPort {t : State} {m : Port} (n : Port) (hold : Bool) (h : SameNo m s t) : SameNo m s (t.holdPort n hold) := by
  unfold State.holdPort
  extract_lets pg u
  have hu : SameNo m s u := by
    unfold u
    split
    · exact h.put _ _ _
    · exact h.put _ _ _
  clear_value u pg
  split
  · split
    · split
      · exact h
      · exact (h.put _ _ _).modOwn n fun _ => rfl
    · split
      · exact (h.put _ _ _).modOwn n fun _ => rfl
      · exact h
  · split
    · exact hu.modOwn n fun _ => rfl
    · exact h

/-- A port that takes a grant holds its number; the others hold theirs. -/
theorem State.takeGrant_numbers (n m : Port) (grant floor start kind seq : Nat) (changed : Bool) : (s.takeGrant n grant floor start kind seq changed).runNo = s.runNo ∧
    ((s.takeGrant n grant floor start kind seq changed).own m).seq = if m = n then seq else (s.own m).seq := by
  unfold State.takeGrant
  extract_lets -merge -underBinder +onlyGivenNames o cut fresh dec u
  have hu : u.runNo = s.runNo ∧ (u.own m).seq = if m = n then seq else (s.own m).seq := by
    refine ⟨State.runNo_modOwn _ _, ?_⟩
    unfold u
    split
    next hm =>
      subst hm
      rw [State.own_modOwn_same]
    next hm => rw [s.own_modOwn_ne _ hm]
  clear_value u
  suffices hrest : SameNo m u _ from ⟨hrest.1.trans hu.1, hrest.2.trans hu.2⟩
  extract_lets -merge -underBinder +onlyGivenNames v
  have hv : SameNo m u v := by
    unfold v
    split
    · exact State.sameNo_writeIlim n (SameNo.refl m u)
    · exact SameNo.refl m u
  clear_value v
  extract_lets -merge -underBinder +onlyGivenNames w
  have hw : SameNo m u w := by
    unfold w
    split
    · exact hv.put _ _ _
    · exact hv
  clear_value w
  split
  · split
    · exact (hw.put _ _ _).modOwn n fun _ => rfl
    · exact hw
  · exact State.sameNo_holdPort n _ hw

/-! ### A placement run -/

/-- What a run shows of itself (R333, R336). -/
theorem State.placementRun_shows {kind : Nat} (n : Port) (hdue : s.place.due = some kind) (hkind : kind < 4) (hfw : s.fw = true) (hpl : s.places = true) :
    Leads (execPlacementRun s) fun t => t.place.due = none ∧ t.runNo = (s.tick, (s.place.seq + 1) % 256, s.place.runs + 1) ∧ t.fld pPLACE PLACE.RUN_STAT_KIND = kind ∧
      t.fld pPLACE PLACE.RUN_STAT_RUN_TICK = s.tick % 2 ^ 16 ∧ t.flag pPLACE PLACE.PG_EVT_RUN_DONE = true ∧ (t.own n).seq = (s.place.seq + 1) % 256 ∧ t.place.cutPools = [] := by
  unfold execPlacementRun
  split
  case h_1 hnone =>
    rw [hdue] at hnone
    cases hnone
  case h_2 k hk =>
  obtain rfl : kind = k := Option.some.inj (hdue.symm.trans hk)
  rw [if_neg (by simp [hfw, hpl])]
  extract_lets -merge -underBinder +onlyGivenNames pools u back rebuilt v
  have hu : u.runNo = (s.tick, (s.place.seq + 1) % 256, s.place.runs + 1) := rfl
  have hv : v.runNo = u.runNo := foldl_runNo (fun t p => t.runNo_ledgerStep _ _) _ _
  clear_value v u
  extract_lets -merge -underBinder +onlyGivenNames cut shed r changed w
  have hw : w.runNo = v.runNo := v.runNo_numberChanged
  clear_value w changed
  extract_lets -merge -underBinder +onlyGivenNames ent nodes x
  have hx : x.runNo = w.runNo := foldl_runNo (fun t c => (State.runNo_modNode _ _).trans (State.runNo_sendEngine _ _ _ _ _ _ _)) _ _
  clear_value x
  extract_lets -merge -underBinder +onlyGivenNames y
  have hy : y.runNo = x.runNo ∧ (y.own n).seq = x.place.seq := by
    have hstep : ∀ (t : State) (m : Port) (c : Prop) [Decidable c] (g1 g2 g3 g4 : Nat) (g5 : Bool),
        (if c then t.takeGrant m g1 g2 g3 g4 t.place.seq g5 else t.takeGrant m 0 0 0 0 t.place.seq false).runNo = t.runNo ∧
          ((if c then t.takeGrant m g1 g2 g3 g4 t.place.seq g5 else t.takeGrant m 0 0 0 0 t.place.seq false).own n).seq = if n = m then t.place.seq else (t.own n).seq := by
      intro t m c _ g1 g2 g3 g4 g5
      split
      · exact State.takeGrant_numbers m n _ _ _ _ _ _
      · exact State.takeGrant_numbers m n _ _ _ _ _ _
    have hseq : ∀ {t : State}, t.runNo = x.runNo → t.place.seq = x.place.seq := fun h => congrArg (fun q : Nat × Nat × Nat => q.2.1) h
    refine State.forPorts_reaches_of (p := fun t => t.runNo = x.runNo) (q := fun t => t.runNo = x.runNo ∧ (t.own n).seq = x.place.seq) n ?_ ?_ ?_ rfl
    · exact fun t m ht => (hstep t m _ _ _ _ _ _).1.trans ht
    · exact fun t ht => ⟨(hstep t n _ _ _ _ _ _).1.trans ht, (hstep t n _ _ _ _ _ _).2.trans ((if_pos rfl).trans (hseq ht))⟩
    · exact fun t m hm _ ht => ⟨(hstep t m _ _ _ _ _ _).1.trans ht.1, (hstep t m _ _ _ _ _ _).2.trans ((if_neg hm.symm).trans ht.2)⟩
  clear_value y
  extract_lets -merge -underBinder +onlyGivenNames z
  have hz : z.runNo = y.runNo ∧ z.own n = y.own n :=
    ⟨foldl_runNo (fun t i => t.runNo_modLed _ _) _ _, foldl_leaves (fun t => t.own n) (fun t i => State.own_modLed _ _ _) _ _⟩
  clear_value z
  extract_lets -merge -underBinder +onlyGivenNames a
  have ha : a.runNo = z.runNo ∧ a.own n = z.own n := by
    unfold a
    split
    · exact ⟨foldl_runNo (fun t i => t.runNo_recSet _ _ _ _ _) _ _, foldl_leaves (fun t => t.own n) (fun t i => State.own_recSet _ _ _ _ _ _) _ _⟩
    · exact ⟨rfl, rfl⟩
  clear_value a
  have hno : a.runNo = (s.tick, (s.place.seq + 1) % 256, s.place.runs + 1) := by
    rw [ha.1, hz.1, hy.1, hx, hw, hv, hu]
  have hown : (a.own n).seq = (s.place.seq + 1) % 256 := by
    rw [ha.2, hz.2, hy.2]
    exact congrArg (fun q : Nat × Nat × Nat => q.2.1) (show x.runNo = (s.tick, (s.place.seq + 1) % 256, s.place.runs + 1) by rw [hx, hw, hv, hu])
  have htick : a.tick = s.tick := congrArg Prod.fst hno
  extract_lets -merge -underBinder +onlyGivenNames b c d e
  have hkindw : kind % 2 ^ PLACE.RUN_STAT_KIND.w = kind := Nat.mod_eq_of_lt hkind
  have hb : b.runNo = a.runNo ∧ b.own n = a.own n ∧ b.fld pPLACE PLACE.RUN_STAT_KIND = kind ∧ b.fld pPLACE PLACE.RUN_STAT_RUN_TICK = s.tick % 2 ^ 16 := by
    refine ⟨(State.runNo_put _ _ _).trans ((State.runNo_put _ _ _).trans (State.runNo_put _ _ _)), by simp -implicitDefEqProofs (disch := (clear * -; decide +revert)) [b], ?_, ?_⟩
    · simp -implicitDefEqProofs (disch := (clear * -; decide +revert)) [b, State.fld_put_same, State.flag_put_same, State.flag_raise, hkindw]
    · rw [← htick, show 16 = PLACE.RUN_STAT_RUN_TICK.w from rfl]
      simp -implicitDefEqProofs (disch := (clear * -; decide +revert)) [b, State.fld_put_same, State.flag_put_same, State.flag_raise]
  clear_value b
  have hc : c.runNo = a.runNo ∧ c.own n = a.own n ∧ c.fld pPLACE PLACE.RUN_STAT_KIND = kind ∧ c.fld pPLACE PLACE.RUN_STAT_RUN_TICK = s.tick % 2 ^ 16 ∧ c.place.due = none ∧ c.place.cutPools = [] := by
    refine ⟨(State.runNo_modPlace rfl rfl).trans hb.1, ?_, ?_, ?_, rfl, rfl⟩
    · exact (State.own_modPlace rfl n).trans hb.2.1
    · exact (State.fld_modPlace b _ _ _).trans hb.2.2.1
    · exact (State.fld_modPlace b _ _ _).trans hb.2.2.2
  clear_value c
  obtain ⟨hcno, hcown, hckind, hctick, hdue', hcuts⟩ := hc
  have hraise : ∀ (t : State) (c : Bool) (g : Fld), (t.raiseIf c pPLACE g).place = t.place ∧ (t.raiseIf c pPLACE g).tick = t.tick := fun t c g => ⟨by simp, by simp⟩
  have hplace : (e.raiseIf rebuilt pPLACE PLACE.PG_EVT_LEDGER_REBUILT).place = c.place := by
    rw [(hraise _ _ _).1, (hraise _ _ _).1, (hraise _ _ _).1]
    exact State.raise_place _ _ _
  have htick' : (e.raiseIf rebuilt pPLACE PLACE.PG_EVT_LEDGER_REBUILT).tick = c.tick := by
    rw [(hraise _ _ _).2, (hraise _ _ _).2, (hraise _ _ _).2]
    exact State.raise_tick _ _ _
  refine ⟨_, rfl, ?_, ?_, ?_, ?_, ?_, ?_, ?_⟩
  · rw [hplace]
    exact hdue'
  · exact (State.runNo_of htick' (by rw [hplace]) (by rw [hplace])).trans (hcno.trans hno)
  · rw [← hckind]
    simp -implicitDefEqProofs (disch := (clear * -; decide +revert)) [e, d]
  · rw [← hctick]
    simp -implicitDefEqProofs (disch := (clear * -; decide +revert)) [e, d]
  · simp -implicitDefEqProofs (disch := (clear * -; decide +revert)) [e, d, State.fld_put_same, State.flag_put_same, State.flag_raise]
  · rw [State.own, hplace]
    exact (congrArg OwnGrant.seq hcown).trans hown
  · rw [hplace]
    exact hcuts


/-! ### Nodes -/

theorem State.nodeLed_raise (pg : Nat) (f : Fld) (k : Nat) : (s.raise pg f).nodeLed k = s.nodeLed k := State.nodeLed_of_nodes rfl k

theorem State.nodeLed_setMapBit (pg : Nat) (f : Fld) (j : Nat) (b : Bool) (k : Nat) : (s.setMapBit pg f j b).nodeLed k = s.nodeLed k := State.nodeLed_of_nodes rfl k

/-! ### Demands -/

/-- The ceiling of a port's demand: of its record, or the most of the capabilities offered. -/
def State.demandCeil (s : State) (n : Port) : Nat :=
  if s.places then s.recCeil (8 * s.node + n.val) else ((s.port n).fw.caps.map fun c => (mkOpt c.1 c.2 (objRange c.2.toNat).2).p).foldl max (s.ownD n)

/-- The demand of a port is estimated (R341). -/
def State.demandStep (s : State) (n : Port) : State :=
  let i := 8 * s.node + n.val
  let d := min 65535 (s.demandOf n (s.demandCeil n))
  let s := s.telNote n 50
  let s := s.modPlace fun p => { p with demand := p.demand.set n.val d n.isLt }
  if s.places && s.recPlaced i then s.recSet (recAt i) 3 0 16 d else s

theorem execDemandCompute_eq (soc : List (Fin 8 × Nat)) (s : State) : execDemandCompute soc s = .next (s.policy fun s =>
    (soc.foldl (init := s) fun s c => s.modPlace fun p => { p with soc := p.soc.set c.1.val (min c.2 255) c.1.isLt }).forPorts State.demandStep) := rfl

/-- What a port's demand is estimated from, and the states of charge. -/
def State.demandView (s : State) (n : Port) : CcState × PortSt × List Host.Cell × Nat × Vector Nat 8 := (s.ccState n, s.port n, s.aos, s.ownD n, s.place.soc)

theorem State.demandView_of {t : State} (n : Port) (hregs : t.regs = s.regs) (hports : t.ports = s.ports) (haos : t.aos = s.aos) (hsoc : t.place.soc = s.place.soc) :
    t.demandView n = s.demandView n := by
  rw [State.demandView, State.ccState, State.port, State.ownD, State.fld_of_regs hregs, State.fld_of_regs hregs, hports, haos, hsoc]
  rfl

theorem State.demandView_telNote (m n : Port) (k : Nat) : (s.telNote m k).demandView n = s.demandView n ∧ (s.telNote m k).place = s.place := by
  have hk := State.telNote_keeps m k (Keeps.refl Hold.all s)
  have hports : (s.telNote m k).ports = s.ports := hk.ports rfl
  have haos : (s.telNote m k).aos = s.aos := hk.aos rfl
  have hplace : (s.telNote m k).place = s.place := hk.place rfl
  have hfld : ∀ {g : Fld}, g.off < 256 → (s.telNote m k).fld (pCC n) g = s.fld (pCC n) g := by
    intro g hg
    have hST : pSTORE ≠ pCC n := by clear * -; decide +revert
    have hBK : pBANK ≠ pCC n := by clear * -; decide +revert
    have key : ∀ p o, p ≠ pCC n → o < 256 → regKey p o ≠ regKey (pCC n) g.off := fun _ _ hp ho => regKey_ne_page hp ho hg
    exact State.fld_of_same (State.telNote_same m k (Same.refl _ s) (key _ _ hST (by decide)) (key _ _ hST (by decide)) (key _ _ hST (by decide)) (fun o ho => key _ o hBK ho)
      (key _ _ hST (by decide)) (key _ _ hST (by decide)))
  refine ⟨?_, hplace⟩
  rw [State.demandView, State.ccState, State.port, State.ownD, hfld (by decide), hfld (by decide), hports, haos, hplace]
  rfl

/-- The estimate of one port. -/
theorem State.demandStep_shows (m n : Port) : (s.demandStep m).demandView n = s.demandView n ∧
    (s.demandStep m).place.demand = s.place.demand.set m.val (min 65535 (s.demandOf m (s.demandCeil m))) m.isLt := by
  unfold State.demandStep
  extract_lets -merge -underBinder +onlyGivenNames i d u v
  obtain ⟨hview, hplace⟩ := s.demandView_telNote m n 50
  have hv : v.demandView n = s.demandView n ∧ v.place.demand = s.place.demand.set m.val d m.isLt := by
    have hu : u.demandView n = s.demandView n ∧ u.place = s.place := ⟨hview, hplace⟩
    clear_value u
    exact ⟨(State.demandView_of n rfl rfl rfl rfl).trans hu.1, by rw [← hu.2]; rfl⟩
  clear_value v
  split
  · exact ⟨(State.demandView_of n rfl rfl rfl rfl).trans hv.1, hv.2⟩
  · exact ⟨hv.1, hv.2⟩

theorem State.demandOf_idle {n : Port} (h : s.ccState n ≠ .attachedSrc) (ceil : Nat) : s.demandOf n ceil = 0 := if_pos h

theorem State.ownD_le_demandOf {n : Port} (hst : s.ccState n = .attachedSrc) (hmism : (s.port n).fw.mism = false) (hsnap : s.snapValid n = false) (ceil : Nat) :
    s.ownD n ≤ s.demandOf n ceil := by
  unfold State.demandOf
  rw [if_neg (by rw [hst]; decide)]
  simp only [hmism, hsnap, Bool.false_eq_true, if_false]
  split
  · exact Nat.le_max_left _ _
  · exact Nat.le_refl _

theorem State.ownD_le (n : Port) : s.ownD n ≤ 1500 := by
  unfold State.ownD rpPower
  split
  · decide
  · split
    · decide
    · decide

/-- After all estimates: the states of charge stay, and a port's demand was estimated from a state of the same view. -/
theorem State.demands_show (n : Port) : (s.forPorts State.demandStep).place.soc = s.place.soc ∧
    ∃ u : State, u.demandView n = s.demandView n ∧ ∃ ceil, (s.forPorts State.demandStep).place.demand.get n = min 65535 (u.demandOf n ceil) := by
  have hsoc : ∀ {t : State}, t.demandView n = s.demandView n → t.place.soc = s.place.soc := fun h => congrArg (fun q : CcState × PortSt × List Host.Cell × Nat × Vector Nat 8 => q.2.2.2.2) h
  refine State.forPorts_reaches_of (p := fun t => t.demandView n = s.demandView n)
    (q := fun t => t.place.soc = s.place.soc ∧ ∃ u : State, u.demandView n = s.demandView n ∧ ∃ ceil, t.place.demand.get n = min 65535 (u.demandOf n ceil)) n ?_ ?_ ?_ rfl
  · exact fun t m ht => (t.demandStep_shows m n).1.trans ht
  · intro t ht
    obtain ⟨hview, hd⟩ := t.demandStep_shows n n
    refine ⟨hsoc (hview.trans ht), t, ht, t.demandCeil n, ?_⟩
    rw [hd]
    exact Vector.getElem_set_self _
  · intro t m hm ht hq
    obtain ⟨hview, hd⟩ := t.demandStep_shows m n
    obtain ⟨-, u, hu, c, hget⟩ := hq
    refine ⟨hsoc (hview.trans ht), u, hu, c, ?_⟩
    rw [hd, ← hget]
    exact Vector.getElem_set_ne _ _ fun h => hm (Fin.ext h)

/-! ### The first of eight -/

/-- What the later steps keep is as the first left it. -/
theorem foldl_range_first {β : Type} (q : State → β) {f : State → Nat → State} {m : Nat} (h : ∀ t a, 0 < a → a ≤ m → q (f t a) = q t) (t : State) :
    q ((List.range (m + 1)).foldl f t) = q (f t 0) := by
  rw [List.range_succ_eq_map, List.foldl_cons]
  have key : ∀ (l : List Nat) (u : State), (∀ a ∈ l, 0 < a ∧ a ≤ m) → q (l.foldl f u) = q u := by
    intro l
    induction l with
    | nil => exact fun _ _ => rfl
    | cons a l ih =>
      intro u hl
      have ha := hl a List.mem_cons_self
      exact (ih _ fun b hb => hl b (List.mem_cons_of_mem _ hb)).trans (h u a ha.1 ha.2)
  refine key _ _ fun a ha => ?_
  obtain ⟨b, hb, rfl⟩ := List.mem_map.1 ha
  have := List.mem_range.1 hb
  omega

/-! ### Words and notes under the updates -/

theorem State.recWord_of_store {t : State} (h : t.store = s.store) (a w : Nat) : t.recWord a w = s.recWord a w := by
  rw [State.recWord, State.stNat, State.stRead, h, State.recWord, State.stNat, State.stRead]

theorem State.recWord_modLed (i : Nat) (f : Led → Led) (a w : Nat) : (s.modLed i f).recWord a w = s.recWord a w := State.recWord_of_store rfl a w

theorem State.recWord_modNode (k : Nat) (f : NodeLed → NodeLed) (a w : Nat) : (s.modNode k f).recWord a w = s.recWord a w := State.recWord_of_store rfl a w

theorem State.led_recPut (a w v i : Nat) : (s.recPut a w v).led i = s.led i := State.led_of_leds (s.recPut_place a w v).1 i

theorem State.led_recSet (a w lo n v i : Nat) : (s.recSet a w lo n v).led i = s.led i := State.led_recPut _ _ _ i

theorem State.led_stPut (a n v i : Nat) : (s.stPut a n v).led i = s.led i := State.led_of_leds rfl i

theorem State.led_recLedger (i grant commit st j : Nat) : (s.recLedger i grant commit st).led j = s.led j := (State.led_recSet _ _ _ _ _ j).trans (State.led_stPut _ _ _ j)

theorem State.nodeLed_recPut (a w v k : Nat) : (s.recPut a w v).nodeLed k = s.nodeLed k := State.nodeLed_of_nodes (s.recPut_place a w v).2.1 k

theorem State.nodeLed_recSet (a w lo n v k : Nat) : (s.recSet a w lo n v).nodeLed k = s.nodeLed k := State.nodeLed_recPut _ _ _ k

theorem State.nodeLed_stPut (a n v k : Nat) : (s.stPut a n v).nodeLed k = s.nodeLed k := State.nodeLed_of_nodes rfl k

theorem State.nodeLed_recLedger (i grant commit st k : Nat) : (s.recLedger i grant commit st).nodeLed k = s.nodeLed k :=
  (State.nodeLed_recSet _ _ _ _ _ k).trans (State.nodeLed_stPut _ _ _ k)

theorem State.nodeLed_modLed (i : Nat) (f : Led → Led) (k : Nat) : (s.modLed i f).nodeLed k = s.nodeLed k := State.nodeLed_of_nodes rfl k

theorem State.led_modNode (k : Nat) (f : NodeLed → NodeLed) (i : Nat) : (s.modNode k f).led i = s.led i := State.led_of_leds rfl i

/-! ### Release of an orphan's commitments -/

/-- One port's commitment falls to its floor, or to its default without a partner (R341). -/
def State.releaseStep (s : State) (i : Nat) : State :=
  if s.recPlaced i then
    (s.recLedger i (s.recGrant i) (if s.portAttached i then s.recFloor i else s.portD i) 7).modLed i fun l => { l with pend := false }
  else s

/-- Words of other records, notes of other ports and those of nodes stay. -/
theorem State.releaseStep_leaves {i j : Nat} (hi : i < 512) (hj : j < 512) (hij : j ≠ i) (k : Nat) : (s.releaseStep i).recWord (recAt j) 2 = s.recWord (recAt j) 2 ∧
    (s.releaseStep i).led j = s.led j ∧ (s.releaseStep i).nodeLed k = s.nodeLed k := by
  unfold State.releaseStep
  split
  · refine ⟨?_, ?_, ?_⟩
    · rw [State.recWord_modLed]
      exact (State.recLedger_within _ _ _ (StSame.refl _ s)).recWord (recAt_apart hi hj hij.symm) (by decide)
    · rw [State.led_modLed_ne (State.idx_led _) hij, State.led_recLedger]
    · rw [State.nodeLed_modLed, State.nodeLed_recLedger]
  · exact ⟨rfl, rfl, rfl⟩

theorem State.nodeLed_releaseStep (i k : Nat) : (s.releaseStep i).nodeLed k = s.nodeLed k := by
  unfold State.releaseStep
  split
  · rw [State.nodeLed_modLed, State.nodeLed_recLedger]
  · rfl

theorem State.portD_lt (i : Nat) : s.portD i < 65536 := by
  unfold State.portD
  split
  · exact (s.ownD_le _).trans_lt (by decide)
  · extract_lets w
    have hw : w < 65536 := Nat.mod_lt _ (by decide)
    split
    · decide
    · exact hw

theorem State.recFloor_lt (i : Nat) : s.recFloor i < 65536 := Nat.mod_lt _ (by decide)

theorem State.recGrant_lt (i : Nat) : s.recGrant i < 65536 := Nat.mod_lt _ (by decide)

/-- A placed port's commitment falls, its grant stays, and it is pending no more. -/
theorem State.releaseStep_shows {i : Nat} (h : s.recPlaced i = true) : (s.releaseStep i).recCommit i = (if s.portAttached i then s.recFloor i else s.portD i) ∧
    (s.releaseStep i).recGrant i = s.recGrant i ∧ ((s.releaseStep i).led i).pend = false := by
  unfold State.releaseStep
  rw [if_pos h]
  obtain ⟨hgrant, hcommit, -, -⟩ := s.recLedger_reads i (s.recGrant i) (if s.portAttached i then s.recFloor i else s.portD i) 7
  refine ⟨?_, ?_, ?_⟩
  · refine Eq.trans ?_ (hcommit.trans (Nat.mod_eq_of_lt ?_))
    · exact congrArg (fun w => bitsOf w 16 16) (State.recWord_modLed _ _ _ _)
    · split
      · exact s.recFloor_lt i
      · exact s.portD_lt i
  · refine Eq.trans ?_ (hgrant.trans (Nat.mod_eq_of_lt (s.recGrant_lt i)))
    exact congrArg (fun w => bitsOf w 0 16) (State.recWord_modLed _ _ _ _)
  · rw [State.led_modLed_same (State.idx_led _)]

/-! ### The mirror of the ledger -/

/-- An eighth of the ledger's commitments. -/
def State.mirrorPart (s : State) (q : Nat) : List Byte :=
  leBytes 1 0 ++ leBytes 1 q ++ leBytes 2 0 ++ leBytes 4 s.place.runs ++ ((List.range 64).flatMap fun k => leBytes 2 (s.recCommit (64 * q + k)))

theorem State.length_mirrorPart (q : Nat) : (s.mirrorPart q).length = 136 := by
  rw [State.mirrorPart, List.length_append, length_flatMap_of (k := 2) fun k => by rw [length_leBytes], List.length_range]
  simp only [List.length_append, length_leBytes]

/-- The run's number in an eighth of the mirror. -/
theorem State.mirrorPart_runs (q : Nat) : ((s.mirrorPart q).drop 4).take 4 = leBytes 4 s.place.runs := by
  rw [State.mirrorPart, List.append_assoc _ (leBytes 4 _), List.drop_left' (by simp only [List.length_append, length_leBytes]), List.take_left' (length_leBytes _ _)]

/-- The eighths of the mirror are sent. -/
def State.mirrorParts (s : State) (m : Nat) : State := (List.range 8).foldl (init := s) fun t q => t.sendEngine (40 + q) 0xD false m 0 0 (t.mirrorPart q)

/-- The records that changed are sent. -/
def State.mirrorDirty (s : State) (m : Nat) : State := s.place.dirty.foldl (init := s) fun t a => t.sendEngine 48 0xA false m 0 0 (leBytes 4 a ++ t.stRead a 32)

theorem State.sendLater_leaves (slot typ : Nat) (bcast : Bool) (dest via tag : Nat) (payload : List Byte) (h : 40 < slot) (hs : slot ≤ 48) :
    (s.sendEngine slot typ bcast dest via tag payload).stRead (txfAt 40) 8 = s.stRead (txfAt 40) 8 ∧
      (s.sendEngine slot typ bcast dest via tag payload).stRead (txfAt 40 + 8 + 4) 4 = s.stRead (txfAt 40 + 8 + 4) 4 := by
  have ht : txfAt 40 + 512 ≤ txfAt slot := by
    unfold txfAt
    omega
  have h8 : txfAt 40 + 8 ≤ txfAt slot := (Nat.add_le_add_left (by decide) _).trans ht
  have h16 : txfAt 40 + 8 + 4 + 4 ≤ txfAt slot := (Nat.add_le_add_left (show 16 ≤ 512 by decide) _).trans ht
  exact ⟨State.sendEngine_leaves _ _ _ _ _ _ _ (.inl h8), State.sendEngine_leaves _ _ _ _ _ _ _ (.inl h16)⟩

/-! ### A mirror that is received -/

/-- What one step of a list sets and the others keep. -/
theorem foldl_reaches_mem {α : Type} {f : State → α → State} {q : State → Prop} {a : α} (h1 : ∀ u, q (f u a)) {l : List α} (h2 : ∀ u, ∀ b ∈ l, b ≠ a → q u → q (f u b)) (ha : a ∈ l)
    (t : State) : q (l.foldl f t) := by
  have key : ∀ (k : List α) (u : State), (∀ b ∈ k, b ∈ l) → a ∈ k ∨ q u → q (k.foldl f u) := by
    intro k
    induction k with
    | nil => exact fun u _ h => h.resolve_left List.not_mem_nil
    | cons b k ih =>
      intro u hk h
      refine ih _ (fun c hc => hk c (List.mem_cons_of_mem _ hc)) ?_
      by_cases hb : b = a
      · exact .inr (hb ▸ h1 u)
      · rcases h with h | h
        · exact .inl ((List.mem_cons.1 h).resolve_left (Ne.symm hb))
        · exact .inr (h2 u b (hk b List.mem_cons_self) hb h)
  exact key l t (fun _ h => h) (.inl ha)

/-- A commitment of the mirror is entered where it differs. -/
def State.mirrorStep (p : List Byte) (q : Nat) (s : State) (k : Nat) : State :=
  if s.recCommit (64 * q + k) = numAt p (8 + 2 * k) 2 then s else s.recSet (recAt (64 * q + k)) 2 16 16 (numAt p (8 + 2 * k) 2)

theorem numAt_lt (p : List Byte) (i : Nat) : numAt p i 2 < 2 ^ 16 := by
  have h := leNat_lt ((p.drop i).take 2)
  have hlen : ((p.drop i).take 2).length ≤ 2 := List.length_take_le 2 _
  exact h.trans_le ((Nat.pow_le_pow_right (by decide) hlen).trans (by decide))

theorem State.mirrorStep_same (p : List Byte) (q k : Nat) : (s.mirrorStep p q k).recCommit (64 * q + k) = numAt p (8 + 2 * k) 2 := by
  unfold State.mirrorStep
  split
  next h => exact h
  next =>
    rw [State.recCommit, State.bitsOf_recSet_same (by decide) (recAt_top _) (by decide)]
    exact Nat.mod_eq_of_lt (numAt_lt p _)

theorem State.mirrorStep_other (p : List Byte) {q k j : Nat} (hq : q < 8) (hk : k < 64) (hj : j < 64) (hjk : j ≠ k) :
    (s.mirrorStep p q j).recCommit (64 * q + k) = s.recCommit (64 * q + k) := by
  unfold State.mirrorStep
  split
  · rfl
  · have hword := (State.recSet_within (s := s) (w := 2) (by decide) 16 16 (numAt p (8 + 2 * j) 2) (StSame.refl _ s)).recWord (b := recAt (64 * q + k))
      (recAt_apart (i := 64 * q + j) (by omega) (by omega) (by omega)) (w := 2) (by decide)
    rw [State.recCommit, hword, State.recCommit]

theorem State.tick_recSet (s : State) (a w lo n v : Nat) : (s.recSet a w lo n v).tick = s.tick := by
  obtain ⟨-, -, -, -, -, h⟩ := s.recPut_place a w (setBits (s.recWord a w) lo n v)
  exact h

theorem State.tick_mirrorStep (p : List Byte) (q k : Nat) : (s.mirrorStep p q k).tick = s.tick := by
  unfold State.mirrorStep
  split
  · rfl
  · exact s.tick_recSet _ _ _ _ _

theorem bitAt_or_two_pow (x q : Nat) : bitAt (x ||| 2 ^ q) q = true := by
  rw [bitAt_eq_testBit, Nat.testBit_or, Nat.testBit_two_pow_self, Bool.or_true]

theorem State.rxRelease_leaves (i : Nat) : (s.rxRelease i).store = s.store ∧ (s.rxRelease i).place = s.place := by
  unfold State.rxRelease
  split
  · exact ⟨rfl, rfl⟩
  · exact ⟨rfl, rfl⟩

/-! ### A record that is rebuilt -/

/-- No byte written is of wrong parity after it. -/
theorem State.mem_bad_stWrite {a b : Nat} {bs : List Byte} (h : a + bs.length ≤ storeTop) (hb : b ∈ (s.stWrite a bs).st.bad) : b ∈ s.st.bad ∧ (b < a ∨ a + bs.length ≤ b) := by
  unfold State.stWrite at hb
  dsimp only at hb
  rw [List.take_of_length_le (by omega)] at hb
  obtain ⟨hin, hout⟩ := List.mem_filter.1 hb
  exact ⟨hin, by simpa using hout⟩

/-- A record whose first 28 bytes are sound checks after a word of it is written. -/
theorem State.recOk_recPut {a w : Nat} (hw : w < 7) (ha : a + 32 ≤ storeTop) (hbad : s.stBadIn a 28 = false) (v : Nat) : (s.recPut a w v).recOk a = true := by
  obtain ⟨u, hu⟩ : ∃ u, u = s.stPut (a + 4 * w) 4 v := ⟨_, rfl⟩
  obtain ⟨crc, hcrc⟩ : ∃ crc, crc = crc16 (u.stRead a 28) := ⟨_, rfl⟩
  have hst : (s.recPut a w v).st = (u.stPut (a + 28) 4 crc).st ∧ (s.recPut a w v).store = (u.stPut (a + 28) 4 crc).store := by
    rw [hcrc, hu]
    exact ⟨rfl, rfl⟩
  have hread : (s.recPut a w v).stRead a 28 = u.stRead a 28 := by
    rw [State.stRead, hst.2]
    exact u.stRead_stWrite_out _ (Nat.le_refl _)
  have hsum : (s.recPut a w v).stNat (a + 28) 2 = crc := by
    have hmid := u.stRead_stWrite_mid [] (leBytes 2 crc) (leBytes 2 (crc / 256 / 256)) (a := a + 28) (by simp only [List.nil_append, List.length_append, length_leBytes]; omega)
    rw [List.nil_append, List.length_nil, Nat.add_zero, length_leBytes, ← leBytes_four] at hmid
    rw [State.stNat, State.stRead, hst.2]
    refine (congrArg leNat hmid).trans ?_
    rw [leNat_leBytes, hcrc]
    exact Nat.mod_eq_of_lt (crc16_lt _)
  have hno : (s.recPut a w v).stBadIn a 32 = false := by
    rw [State.stBadIn, hst.1, List.any_eq_false]
    intro b hb
    obtain ⟨hb1, hout1⟩ := State.mem_bad_stWrite (by rw [length_leBytes]; omega) hb
    rw [hu] at hb1
    obtain ⟨hb2, -⟩ := State.mem_bad_stWrite (by rw [length_leBytes]; omega) hb1
    have hout2 := List.any_eq_false.1 hbad b hb2
    rw [length_leBytes] at hout1
    simp only [Bool.and_eq_true, decide_eq_true_eq] at hout2 ⊢
    omega
  rw [State.recOk, hno, hread, hsum, hcrc]
  simp

/-- What a part of the mirror leaves (R355). -/
theorem State.ledgerReceive_shows {entry : Fin 64} (k : Fin 64) (hfw : s.fw = true) (htyp : s.rxType entry.val = 0xD) (hchk : s.stChecks (rxfAt entry.val) 512 = true)
    (hpl : s.places = false) (hfirst : byteAt (s.rxPayload entry.val) 0 = 0) : Leads (execLedgerReceive entry s) fun t =>
      t.recCommit (64 * (byteAt (s.rxPayload entry.val) 1 % 8) + k.val) = numAt (s.rxPayload entry.val) (8 + 2 * k.val) 2 ∧
        t.place.mirRun = numAt (s.rxPayload entry.val) 4 4 ∧ t.place.mirTick = s.tick ∧ bitAt t.place.mirMask (byteAt (s.rxPayload entry.val) 1 % 8) = true := by
  unfold execLedgerReceive State.policy
  rw [if_pos hfw]
  beta_reduce
  extract_lets -merge -underBinder +onlyGivenNames x
  have hx : x = s := State.stNote_of_stChecks hchk 5
  clear_value x
  subst hx
  rw [if_neg (by simp [htyp]), if_neg (by simp [htyp, hchk])]
  extract_lets -merge -underBinder +onlyGivenNames p q run
  have hp0 : byteAt p 0 = 0 := hfirst
  have hq : q < 8 := Nat.mod_lt _ (by decide)
  rw [if_neg (by rw [hp0]; decide), if_neg (by rw [hpl]; decide)]
  extract_lets -merge -underBinder +onlyGivenNames u pl fresh mask done done' v w
  have hu : u.recCommit (64 * q + k.val) = numAt p (8 + 2 * k.val) 2 ∧ u.tick = x.tick :=
    ⟨foldl_reaches_mem (f := State.mirrorStep p q) (q := fun t => t.recCommit (64 * q + k.val) = numAt p (8 + 2 * k.val) 2) (fun t => t.mirrorStep_same p q k.val)
      (fun t j hj hjk h => (State.mirrorStep_other p hq k.isLt (List.mem_range.1 hj) hjk).trans h) (List.mem_range.2 k.isLt) x,
      foldl_leaves State.tick (f := State.mirrorStep p q) (fun t j => t.tick_mirrorStep p q j) _ x⟩
  have hmask : bitAt mask q = true := bitAt_or_two_pow _ q
  clear_value u
  have hv : v.store = u.store ∧ v.place.mirRun = run ∧ v.place.mirMask = mask ∧ v.place.mirTick = u.tick := ⟨rfl, rfl, rfl, rfl⟩
  obtain ⟨hstore, hrun, hmaskv, htick⟩ := hv
  clear_value v
  have hw : w.store = v.store ∧ w.place = v.place := ⟨State.putB_store _ _ _ _, State.putB_place _ _ _ _⟩
  clear_value w
  obtain ⟨hrst, hrpl⟩ := w.rxRelease_leaves entry.val
  have hword : (w.rxRelease entry.val).recCommit (64 * q + k.val) = u.recCommit (64 * q + k.val) := by
    rw [State.recCommit, State.recWord_of_store (hrst.trans (hw.1.trans hstore)), State.recCommit]
  refine ⟨_, rfl, hword.trans hu.1, ?_, ?_, ?_⟩
  · rw [hrpl, hw.2]
    exact hrun
  · rw [hrpl, hw.2]
    exact htick.trans hu.2
  · rw [hrpl, hw.2, hmaskv]
    exact hmask

/-- The device's own index is of other pages than the store's. -/
theorem State.node_stNote (req a n : Nat) : (s.stNote req a n).node = s.node := by
  have hfld : ∀ {pg : Nat} {g : Fld}, pSTORE ≠ pg → pBANK ≠ pg → g.off < 256 → (s.stNote req a n).fld pg g = s.fld pg g := by
    intro pg g hST hBK hg
    have key : ∀ p o, p ≠ pg → o < 256 → regKey p o ≠ regKey pg g.off := fun _ _ hp ho => regKey_ne_page hp ho hg
    exact State.fld_of_same (State.stNote_same req a n (Same.refl _ s) (key _ _ hST (by decide)) (key _ _ hST (by decide)) (key _ _ hST (by decide)) (fun o ho => key _ o hBK ho)
      (key _ _ hST (by decide)) (key _ _ hST (by decide)))
  rw [State.node, State.role, hfld (by decide) (by decide) (by decide), hfld (by decide) (by decide) (by decide), State.node, State.role]

/-- The record of an own port is written anew, with its checksum. -/
def State.rebuilt (s : State) (a : Nat) (w0 w1 : Word) (grant commit : Nat) : State :=
  (s.stWrite a (leBytes 4 w0.toNat ++ leBytes 4 w1.toNat ++ leBytes 4 (grant + 65536 * commit) ++ leBytes 16 0)).recPut a 6 0

theorem State.rebuilt_shows {a : Nat} (ha : a + 32 ≤ storeTop) (w0 w1 : Word) {grant : Nat} (hg : grant < 65536) (commit : Nat) : (s.rebuilt a w0 w1 grant commit).recWord a 0 = w0.toNat ∧
    (s.rebuilt a w0 w1 grant commit).recWord a 1 = w1.toNat ∧ bitsOf ((s.rebuilt a w0 w1 grant commit).recWord a 2) 0 16 = grant ∧
    (s.rebuilt a w0 w1 grant commit).recOk a = true := by
  obtain ⟨x0, hx0⟩ : ∃ x, x = leBytes 4 w0.toNat := ⟨_, rfl⟩
  obtain ⟨x1, hx1⟩ : ∃ x, x = leBytes 4 w1.toNat := ⟨_, rfl⟩
  obtain ⟨x2, hx2⟩ : ∃ x, x = leBytes 4 (grant + 65536 * commit) := ⟨_, rfl⟩
  obtain ⟨x3, hx3⟩ : ∃ x : List Byte, x = leBytes 16 0 := ⟨_, rfl⟩
  have l0 : x0.length = 4 := by rw [hx0, length_leBytes]
  have l1 : x1.length = 4 := by rw [hx1, length_leBytes]
  have l2 : x2.length = 4 := by rw [hx2, length_leBytes]
  have l3 : x3.length = 16 := by rw [hx3, length_leBytes]
  unfold State.rebuilt
  rw [← hx0, ← hx1, ← hx2, ← hx3]
  have hlen : (x0 ++ x1 ++ x2 ++ x3).length = 28 := by simp only [List.length_append, l0, l1, l2, l3]
  have h0 := s.stRead_stWrite_mid [] x0 (x1 ++ x2 ++ x3) (a := a) (by simp only [List.nil_append, List.length_append, l0, l1, l2, l3]; omega)
  have h1 := s.stRead_stWrite_mid x0 x1 (x2 ++ x3) (a := a) (by simp only [List.length_append, l0, l1, l2, l3]; omega)
  have h2 := s.stRead_stWrite_mid (x0 ++ x1) x2 x3 (a := a) (by rw [hlen]; omega)
  have hbad := s.stBadIn_stWrite (a := a) (bs := x0 ++ x1 ++ x2 ++ x3) (by rw [hlen]; omega)
  rw [hlen] at hbad
  simp only [List.nil_append, List.append_assoc, List.length_nil, List.length_append, l0, l1, l2] at h0 h1 h2
  simp only [List.append_assoc] at hbad ⊢
  generalize s.stWrite a (x0 ++ (x1 ++ (x2 ++ x3))) = u at *
  have hword : ∀ w, w < 3 → (u.recPut a 6 0).recWord a w = u.recWord a w := fun w hw => State.recWord_recPut_ne (by omega) (by omega) 0
  refine ⟨?_, ?_, ?_, State.recOk_recPut (by decide) ha hbad 0⟩
  · rw [hword 0 (by decide), State.recWord, State.stNat, h0, hx0, leNat_leBytes]
    exact Nat.mod_eq_of_lt w0.isLt
  · rw [hword 1 (by decide), State.recWord, State.stNat, h1, hx1, leNat_leBytes]
    exact Nat.mod_eq_of_lt w1.isLt
  · rw [hword 2 (by decide), State.recWord, State.stNat, h2, hx2, leNat_leBytes, bitsOf]
    omega

/-- A record of an own port that does not check is written anew, and told (R355). -/
theorem State.ledgerRebuild_shows {rec : Fin 512} (w0 w1 : Word) (hfw : s.fw = true) (hpl : s.places = true) (hbad : s.stBadIn (recAt rec.val) 32 = true) (hown : rec.val / 8 = s.node)
    (hsnap : s.snapValid (Fin.ofNat 8 rec.val) = false) (hgrant : (s.own (Fin.ofNat 8 rec.val)).grant < 65536) : Leads (execLedgerRebuild rec (some (w0, w1)) s) fun t =>
      t.recWord (recAt rec.val) 0 = w0.toNat ∧ t.recWord (recAt rec.val) 1 = w1.toNat ∧ t.recGrant rec.val = (s.own (Fin.ofNat 8 rec.val)).grant ∧
        t.flag pPLACE PLACE.PG_EVT_LEDGER_REBUILT = true ∧ t.recOk (recAt rec.val) = true := by
  have hok : s.recOk (recAt rec.val) = false := by
    rw [State.recOk, hbad]
    rfl
  unfold execLedgerRebuild State.policy
  rw [if_pos hfw]
  beta_reduce
  extract_lets -merge -underBinder +onlyGivenNames i a
  rw [if_neg (by simp [hpl, a, i, hok])]
  extract_lets -merge -underBinder +onlyGivenNames u
  have hkeep := State.raise_keeps pPLACE PLACE.PG_EVT_LEDGER_REBUILT (State.stNote_keeps 5 (recAt rec.val) 32 (Keeps.refl Hold.all s))
  have hplace : u.place = s.place := hkeep.place rfl
  have hnode : u.node = s.node := by
    rw [← s.node_stNote 5 (recAt rec.val) 32]
    simp -implicitDefEqProofs (disch := (clear * -; decide +revert)) [u, a, i, State.node, State.role]
  have hevt : u.flag pPLACE PLACE.PG_EVT_LEDGER_REBUILT = true := by simp -implicitDefEqProofs (disch := (clear * -; decide +revert)) [u, State.fld_put_same, State.flag_put_same, State.flag_raise]
  clear_value u
  dsimp -zeta only
  extract_lets -merge -underBinder +onlyGivenNames n own commit grant v w
  have ho : own = true := by
    rw [show own = (rec.val / 8 == u.node) from rfl, hnode, hown]
    exact beq_self_eq_true _
  have hg : grant = (s.own (Fin.ofNat 8 rec.val)).grant := by
    refine (if_pos ho).trans ?_
    rw [State.own, hplace, State.own]
  rw [if_pos ho]
  have hw : w = u.rebuilt (recAt rec.val) w0 w1 grant commit := rfl
  have hregs : w.regs = u.regs := by
    obtain ⟨-, -, -, -, h, -⟩ := v.recPut_place a 6 0
    exact h
  clear_value w commit
  obtain ⟨h0, h1, h2, h3⟩ := State.rebuilt_shows (s := u) (recAt_top rec.val) w0 w1 (hg ▸ hgrant) commit
  refine ⟨w, rfl, ?_, ?_, ?_, ?_, ?_⟩
  · rw [hw]
    exact h0
  · rw [hw]
    exact h1
  · rw [State.recGrant, hw, ← hg]
    exact h2
  · exact (State.flag_of_regs hregs _ _).trans hevt
  · rw [hw]
    exact h3

/-! ### Telemetry of a node -/

/-- The energy of a port is added; that of another port stays (R340). -/
theorem State.stNat_energyAdd_same {i : Nat} (hi : i < 512) (e : Nat) : (s.energyAdd i e).stNat (0x90000 + 16 * i) 8 = (s.stNat (0x90000 + 16 * i) 8 + e) % 2 ^ 64 := by
  unfold State.energyAdd
  rw [Nat.mod_eq_of_lt hi]
  dsimp only
  generalize (s.stNat (0x90000 + 16 * i) 8 + e) = sum
  obtain ⟨x, hx⟩ : ∃ x, x = leBytes 8 (sum % 2 ^ 64) := ⟨_, rfl⟩
  obtain ⟨y, hy⟩ : ∃ y, y = leBytes 5 (packedDec 10 (energyDigits (sum % 2 ^ 64))) ++ leBytes 1 0 := ⟨_, rfl⟩
  have hxl : x.length = 8 := by rw [hx, length_leBytes]
  have hyl : y.length = 6 := by rw [hy, List.length_append, length_leBytes, length_leBytes]
  rw [List.append_assoc, ← hx, ← hy, State.stRecord]
  have htop : 0x90000 + 16 * i + 16 ≤ storeTop := by
    unfold storeTop
    omega
  have hread := s.stRead_stWrite_mid [] x (y ++ leBytes 2 (crc16 (x ++ y))) (a := 0x90000 + 16 * i)
    (by simp only [List.nil_append, List.length_append, length_leBytes, hxl, hyl]; omega)
  rw [List.nil_append, List.length_nil, Nat.add_zero, hxl] at hread
  rw [List.append_assoc, State.stNat, hread, hx, leNat_leBytes]
  exact Nat.mod_eq_of_lt (Nat.mod_lt _ (by decide))

theorem State.stNat_energyAdd_other {i j : Nat} (hi : i < 512) (hij : j ≠ i) (e : Nat) : (s.energyAdd i e).stNat (0x90000 + 16 * j) 8 = s.stNat (0x90000 + 16 * j) 8 := by
  have hrec : StSame (fun x => 0x90000 + 16 * i ≤ x ∧ x < 0x90000 + 16 * i + 16) s (s.energyAdd i e) := by
    unfold State.energyAdd
    rw [Nat.mod_eq_of_lt hi]
    refine State.stRecord_stores _ _ (StSame.refl _ s) fun x h1 h2 => ⟨h1, ?_⟩
    simpa only [List.length_append, length_leBytes] using h2
  refine hrec.stNat fun x h1 h2 h => ?_
  obtain ⟨h3, h4⟩ := h
  omega

theorem State.led_energyAdd (i e j : Nat) : (s.energyAdd i e).led j = s.led j := State.led_of_leds rfl j

/-- The entry of a TELEM frame that is about one port. -/
def State.telemStep (k : Nat) (p : List Byte) (s : State) (n : Nat) : State :=
  let i := 8 * k + n
  let b := 16 * n
  let soc := byteAt p (b + 11)
  let s := s.modLed i fun l => { l with
    therm := bitsOf (byteAt p (b + 10)) 3 2
    lowBat := decide (soc < s.fld pPLACE PLACE.CFG_LOWBAT_PCT) }
  let s := if s.recPlaced i then s.recSet (recAt i) 3 0 16 (numAt p (b + 8) 2) else s
  s.energyAdd i (numAt p (b + 12) 4)

theorem State.regs_telemStep (k : Nat) (p : List Byte) (n : Nat) : (s.telemStep k p n).regs = s.regs := by
  unfold State.telemStep
  extract_lets i b soc u v
  have hv : v.regs = s.regs := by
    unfold v
    split
    · obtain ⟨-, -, -, -, h, -⟩ := u.recPut_place (recAt i) 3 (setBits (u.recWord (recAt i) 3) 0 16 (numAt p (b + 8) 2))
      exact h
    · rfl
  clear_value v
  exact hv

/-- A record of the ledger stands below the energies. -/
theorem State.stNat_recSet_energy (i w lo n v j : Nat) (hw : w < 8) : (s.recSet (recAt i) w lo n v).stNat (0x90000 + 16 * j) 8 = s.stNat (0x90000 + 16 * j) 8 := by
  refine (State.recSet_within hw lo n v (StSame.refl _ s)).stNat fun x h1 h2 h => ?_
  obtain ⟨h3, h4⟩ := h
  have := Nat.mod_lt i (show 0 < 512 by decide)
  rw [recAt] at h4
  omega

/-- The port's own notes and energy. -/
theorem State.telemStep_shows {k n : Nat} (p : List Byte) (hi : 8 * k + n < 512) : ((s.telemStep k p n).led (8 * k + n)).therm = bitsOf (byteAt p (16 * n + 10)) 3 2 ∧
    (s.telemStep k p n).stNat (0x90000 + 16 * (8 * k + n)) 8 = (s.stNat (0x90000 + 16 * (8 * k + n)) 8 + numAt p (16 * n + 12) 4) % 2 ^ 64 := by
  unfold State.telemStep
  extract_lets i b soc u v
  have hu : (u.led (8 * k + n)).therm = bitsOf (byteAt p (16 * n + 10)) 3 2 ∧ u.stNat (0x90000 + 16 * (8 * k + n)) 8 = s.stNat (0x90000 + 16 * (8 * k + n)) 8 := by
    refine ⟨?_, rfl⟩
    unfold u
    rw [State.led_modLed_same (State.idx_led _)]
  clear_value u
  have hv : v.led (8 * k + n) = u.led (8 * k + n) ∧ v.stNat (0x90000 + 16 * (8 * k + n)) 8 = u.stNat (0x90000 + 16 * (8 * k + n)) 8 := by
    unfold v
    split
    · exact ⟨State.led_recSet _ _ _ _ _ _, State.stNat_recSet_energy _ _ _ _ _ _ (by decide)⟩
    · exact ⟨rfl, rfl⟩
  clear_value v
  rw [State.led_energyAdd, hv.1, State.stNat_energyAdd_same hi, hv.2, hu.2]
  exact ⟨hu.1, rfl⟩

/-- Notes and energy of another port stay. -/
theorem State.telemStep_leaves {k n j : Nat} (p : List Byte) (hi : 8 * k + n < 512) (hj : j ≠ 8 * k + n) : (s.telemStep k p n).led j = s.led j ∧
    (s.telemStep k p n).stNat (0x90000 + 16 * j) 8 = s.stNat (0x90000 + 16 * j) 8 := by
  unfold State.telemStep
  extract_lets i b soc u v
  have hu : u.led j = s.led j ∧ u.stNat (0x90000 + 16 * j) 8 = s.stNat (0x90000 + 16 * j) 8 := by
    refine ⟨?_, rfl⟩
    unfold u
    rw [State.led_modLed_ne (State.idx_led _) hj]
  clear_value u
  have hv : v.led j = u.led j ∧ v.stNat (0x90000 + 16 * j) 8 = u.stNat (0x90000 + 16 * j) 8 := by
    unfold v
    split
    · exact ⟨State.led_recSet _ _ _ _ _ _, State.stNat_recSet_energy _ _ _ _ _ _ (by decide)⟩
    · exact ⟨rfl, rfl⟩
  clear_value v
  rw [State.led_energyAdd, hv.1, State.stNat_energyAdd_other hi hj, hv.2]
  exact hu

/-- What a TELEM frame leaves (R340). -/
theorem State.telemReceive_shows {entry : Fin 64} (hfw : s.fw = true) (htyp : s.rxType entry.val = 6) (hchk : s.stChecks (rxfAt entry.val) 512 = true) (hpl : s.places = true)
    (hsrc : s.rxSrc entry.val < 64) (hrd : s.fld pFLEET FLEET.RXQ_RD_INDEX = entry.val) : Leads (execTelemReceive entry s) fun t =>
      t.fld pFLEET FLEET.RXQ_RD_INDEX = (entry.val + 1) % 64 ∧ (t.led (8 * s.rxSrc entry.val)).therm = bitsOf (byteAt (s.rxPayload entry.val) 10) 3 2 ∧
        t.stNat (0x90000 + 128 * s.rxSrc entry.val) 8 = (s.stNat (0x90000 + 128 * s.rxSrc entry.val) 8 + numAt (s.rxPayload entry.val) 12 4) % 2 ^ 64 := by
  unfold execTelemReceive State.policy
  rw [if_pos hfw]
  beta_reduce
  extract_lets -merge -underBinder +onlyGivenNames x
  have hx : x = s := State.stNote_of_stChecks hchk 5
  clear_value x
  subst hx
  rw [if_neg (by simp [htyp, hchk, hpl])]
  extract_lets -merge -underBinder +onlyGivenNames k p u
  have hk : k < 64 := hsrc
  obtain ⟨htherm, hsum⟩ := State.telemStep_shows (s := x) (k := k) (n := 0) p (by omega)
  have hled : u.led (8 * k) = (x.telemStep k p 0).led (8 * k) :=
    foldl_range_first (m := 7) (fun t => t.led (8 * k)) (f := State.telemStep k p) (fun t n h0 h7 => (State.telemStep_leaves p (by omega) (by omega)).1) x
  have hnat : u.stNat (0x90000 + 16 * (8 * k)) 8 = (x.telemStep k p 0).stNat (0x90000 + 16 * (8 * k)) 8 :=
    foldl_range_first (m := 7) (fun t => t.stNat (0x90000 + 16 * (8 * k)) 8) (f := State.telemStep k p) (fun t n h0 h7 => (State.telemStep_leaves p (by omega) (by omega)).2) x
  have hregs : u.regs = x.regs := foldl_leaves State.regs (f := State.telemStep k p) (fun t n => t.regs_telemStep k p n) _ x
  clear_value u
  have hread : u.fld pFLEET FLEET.RXQ_RD_INDEX = entry.val % 64 := by
    rw [State.fld_of_regs hregs, hrd]
    exact (Nat.mod_eq_of_lt entry.isLt).symm
  obtain ⟨hst, hpl'⟩ := u.rxRelease_leaves entry.val
  refine ⟨_, rfl, ?_, ?_, ?_⟩
  · rw [State.rxRelease, if_pos hread, State.fld_put_same _ _ _ _ (by decide)]
    rfl
  · rw [State.led_of_leds (congrArg PlaceSt.leds hpl'), hled]
    exact htherm
  · rw [show 128 * x.rxSrc entry.val = 16 * (8 * k) by show 128 * k = _; omega, State.stNat, State.stRead, hst]
    exact hnat.trans hsum

/-! ### Contracts of a node -/

/-- The notes of a contract that an update of the ledger keeps: those of the nodes, of other ports, and who is attached. -/
def KeepsContract (i j k : Nat) (s t : State) : Prop := t.nodeLed k = s.nodeLed k ∧ (j ≠ i → t.led j = s.led j) ∧ (t.led i).attached = (s.led i).attached

theorem KeepsContract.refl (i j k : Nat) (s : State) : KeepsContract i j k s s := ⟨rfl, fun _ => rfl, rfl⟩

theorem KeepsContract.recSet {t : State} {i j k : Nat} (a w lo n v : Nat) (h : KeepsContract i j k s t) : KeepsContract i j k s (t.recSet a w lo n v) := by
  obtain ⟨hnode, hled, hatt⟩ := h
  exact ⟨(State.nodeLed_recSet _ _ _ _ _ _).trans hnode, fun hj => (State.led_recSet _ _ _ _ _ _).trans (hled hj), (congrArg Led.attached (State.led_recSet _ _ _ _ _ _)).trans hatt⟩

theorem KeepsContract.recLedger {t : State} {i j k : Nat} (b grant commit st : Nat) (h : KeepsContract i j k s t) : KeepsContract i j k s (t.recLedger b grant commit st) := by
  obtain ⟨hnode, hled, hatt⟩ := h
  exact ⟨(State.nodeLed_recLedger _ _ _ _ _).trans hnode, fun hj => (State.led_recLedger _ _ _ _ _).trans (hled hj), (congrArg Led.attached (State.led_recLedger _ _ _ _ _)).trans hatt⟩

theorem KeepsContract.modLed {t : State} {i j k : Nat} {f : Led → Led} (hidx : ∀ l, (f l).idx = l.idx) (hf : ∀ l, (f l).attached = l.attached) (h : KeepsContract i j k s t) :
    KeepsContract i j k s (t.modLed i f) := by
  obtain ⟨hnode, hled, hatt⟩ := h
  have hi : (f (t.led i)).idx = i := (hidx _).trans (State.idx_led i)
  refine ⟨(State.nodeLed_modLed _ _ _).trans hnode, fun hj => (State.led_modLed_ne hi hj).trans (hled hj), ?_⟩
  rw [State.led_modLed_same hi, hf]
  exact hatt

theorem KeepsContract.ite {c : Prop} [Decidable c] {i j k : Nat} {t u : State} (ht : c → KeepsContract i j k s t) (hu : ¬c → KeepsContract i j k s u) :
    KeepsContract i j k s (if c then t else u) := by
  split
  next h => exact ht h
  next h => exact hu h

theorem KeepsContract.after {t u : State} {i j k : Nat} {att : Bool} (hu : u.nodeLed k = s.nodeLed k ∧ (j ≠ i → u.led j = s.led j) ∧ (u.led i).attached = att)
    (h : KeepsContract i j k u t) : t.nodeLed k = s.nodeLed k ∧ (j ≠ i → t.led j = s.led j) ∧ (t.led i).attached = att := by
  obtain ⟨hnode, hled, hatt⟩ := h
  exact ⟨hnode.trans hu.1, fun hj => (hled hj).trans (hu.2.1 hj), hatt.trans hu.2.2⟩

theorem State.ledgerConfirm_keepsContract {t : State} {i j k : Nat} (ack ackSeq : Nat) (attached low : Bool) (h : KeepsContract i j k s t) :
    KeepsContract i j k s (t.ledgerConfirm i ack ackSeq attached low) := by
  unfold State.ledgerConfirm
  extract_lets d c u
  have hu : KeepsContract i j k s u := KeepsContract.ite (fun _ => h) fun _ => h.recLedger _ _ _ _
  clear_value u
  exact KeepsContract.ite (fun _ => hu.modLed (fun _ => rfl) fun _ => rfl) fun _ => KeepsContract.ite (fun _ => (h.recLedger _ _ _ _).modLed (fun _ => rfl) fun _ => rfl) fun _ => h

/-- A port's entry notes first who is attached and whether a twin (R339). -/
def State.contractNoted (s : State) (i : Nat) (p : List Byte) : State :=
  s.modLed i fun l => { l with attached := bitAt (byteAt p 5) 0, twin := if !bitAt (byteAt p 5) 7 then 0 else if bitAt (byteAt p 5) 0 then 1 else 2 }

/-- The rest of it keeps those notes. -/
theorem State.contractTake_keepsContract (i j k : Nat) (p : List Byte) (back : Bool) : KeepsContract i j k (s.contractNoted i p) (s.contractTake i p back) := by
  unfold State.contractTake
  extract_lets -merge -underBinder +onlyGivenNames pmax ack fl att u
  rw [show s.contractNoted i p = u from rfl]
  clear_value u
  extract_lets -merge -underBinder +onlyGivenNames v
  have hv : KeepsContract i j k u v := KeepsContract.ite (fun _ => (KeepsContract.refl i j k u).recSet _ _ _ _ _) fun _ => KeepsContract.refl i j k u
  clear_value v
  extract_lets -merge -underBinder +onlyGivenNames w
  have hw : KeepsContract i j k u w := hv.recSet _ _ _ _ _
  clear_value w
  exact KeepsContract.ite (fun _ => hw) fun _ => KeepsContract.ite (fun _ => (hw.recLedger _ _ _ _).modLed (fun _ => rfl) fun _ => rfl) fun _ =>
    KeepsContract.ite (fun _ => hw.recLedger _ _ _ _) fun _ => State.ledgerConfirm_keepsContract _ _ _ _ hw

/-- A port's entry: who is attached is noted; nodes and other ports keep their notes. -/
theorem State.contractTake_shows (i j k : Nat) (p : List Byte) (back : Bool) : (s.contractTake i p back).nodeLed k = s.nodeLed k ∧ (j ≠ i → (s.contractTake i p back).led j = s.led j) ∧
    ((s.contractTake i p back).led i).attached = bitAt (byteAt p 5) 0 := by
  have hnoted : (s.contractNoted i p).nodeLed k = s.nodeLed k ∧ (j ≠ i → (s.contractNoted i p).led j = s.led j) ∧ ((s.contractNoted i p).led i).attached = bitAt (byteAt p 5) 0 := by
    unfold State.contractNoted
    refine ⟨State.nodeLed_modLed _ _ _, fun hj => State.led_modLed_ne (State.idx_led _) hj, ?_⟩
    rw [State.led_modLed_same (State.idx_led _)]
  exact KeepsContract.after hnoted (s.contractTake_keepsContract i j k p back)

/-- The check of the cut leaves what is known of nodes and ports. -/
theorem State.cutCheck_leaves : s.cutCheck.place.leds = s.place.leds ∧ s.cutCheck.place.nodes = s.place.nodes := by
  unfold State.cutCheck
  extract_lets cut
  clear_value cut
  split
  · exact ⟨rfl, rfl⟩
  · split
    · exact ⟨rfl, rfl⟩
    · exact ⟨rfl, rfl⟩

/-- What a CONTRACT frame leaves (R339). -/
theorem State.contractReceive_shows {entry : Fin 64} (hfw : s.fw = true) (htyp : s.rxType entry.val = 8) (hchk : s.stChecks (rxfAt entry.val) 512 = true) (hpl : s.places = true) :
    Leads (execContractReceive entry s) fun t => (t.nodeLed (s.rxSrc entry.val)).hold = bitAt (byteAt (s.rxPayload entry.val) 5) 6 ∧
      (t.nodeLed (s.rxSrc entry.val)).orphanAt = none ∧ (t.led (8 * s.rxSrc entry.val)).attached = bitAt (byteAt (s.rxPayload entry.val) 5) 0 := by
  unfold execContractReceive State.policy
  rw [if_pos hfw]
  beta_reduce
  extract_lets -merge -underBinder +onlyGivenNames x
  have hx : x = s := State.stNote_of_stChecks hchk 5
  clear_value x
  subst hx
  rw [if_neg (by simp [htyp, hchk, hpl])]
  extract_lets -merge -underBinder +onlyGivenNames k p back back' u
  have hu : (u.nodeLed k).orphanAt = none := by
    unfold u
    split
    · rw [State.nodeLed_modNode_same (State.node_nodeLed _)]
    next h => exact Option.not_isSome_iff_eq_none.1 h
  clear_value u back'
  extract_lets -merge -underBinder +onlyGivenNames m v
  have hv : (v.nodeLed k).hold = bitAt (byteAt p 5) 6 ∧ (v.nodeLed k).orphanAt = none := by
    unfold v
    rw [State.nodeLed_modNode_same (State.node_nodeLed _)]
    exact ⟨rfl, hu⟩
  clear_value v
  extract_lets -merge -underBinder +onlyGivenNames w
  have hnode : w.nodeLed k = v.nodeLed k := foldl_leaves (fun t => t.nodeLed k) (fun t n => (t.contractTake_shows _ 0 k _ _).1) _ v
  have hatt : (w.led (8 * k)).attached = bitAt (byteAt p 5) 0 := by
    have hled := foldl_range_first (m := 7) (fun t => t.led (8 * k)) (f := fun t n => t.contractTake (8 * k + n) ((p.drop (6 * n)).take 6) back)
      (fun t n h0 h7 => (t.contractTake_shows (8 * k + n) (8 * k) k _ _).2.1 (by omega)) v
    have hfirst := (v.contractTake_shows (8 * k + 0) 0 k ((p.drop (6 * 0)).take 6) back).2.2
    have hbyte : byteAt ((p.drop (6 * 0)).take 6) 5 = byteAt p 5 := by simp [byteAt]
    rw [hbyte] at hfirst
    exact (congrArg Led.attached hled).trans hfirst
  clear_value w
  obtain ⟨hleds, hnodes⟩ := w.cutCheck_leaves
  obtain ⟨-, hplace⟩ := w.cutCheck.rxRelease_leaves entry.val
  have hn : (w.cutCheck.rxRelease entry.val).nodeLed k = v.nodeLed k := (State.nodeLed_of_nodes ((congrArg PlaceSt.nodes hplace).trans hnodes) k).trans hnode
  refine ⟨_, rfl, ?_, ?_, ?_⟩
  · rw [hn]
    exact hv.1
  · rw [hn]
    exact hv.2
  · rw [State.led_of_leds ((congrArg PlaceSt.leds hplace).trans hleds)]
    exact hatt


/-- RUN. -/
theorem placeCmdRun_asks (s : State) (key : BitVec 16) (ht : s.Takes pPLACE) (hkey : key.toNat = 0x91D4) (hpl : s.places = true) :
    Leads (exec (.placeCmdRun key) s) fun t => s.Frame t [] [(pPLACE, 0x10)] [] [] ∧ t.place = { s.place with cmdRun := true } ∧ t.regs = s.regs := by
  have e : exec (.placeCmdRun key) s = .next (s.modPlace fun p => { p with cmdRun := true }) :=
    congrArg Host.Outcome.next ((State.keyCmd_takes ht hkey _).trans (if_pos hpl))
  exact ⟨_, e, Frame.of e (execPlaceCmdRun_touches key (by simp [inRegs])) (execPlaceCmdRun_stores key) (execPlaceCmdRun_answers key), rfl, rfl⟩

/-- A placement run. -/
theorem placementRun_runs (s : State) (kind : Nat) (n : Port) (hdue : s.place.due = some kind) (hkind : kind < 4) (hfw : s.fw = true) (hpl : s.places = true) :
    Leads (exec (.placementRun) s) fun t => s.Frame t [pBANK] ([(pFLEET, 0x10), (pSTORE, 0x10), (pSTORE, 0x28), (pSTORE, 0x2C), (pSTORE, 0x30), (pSTORE, 0x0C), (pPLACE, 0x2C), (pPLACE, 0x10)] ++ everyLinkReg 0x34 ++ everyLinkReg 0x30 ++ everyPortReg pGUARD 0x2C ++ everyPortReg pCC 0x20 ++ everyPortReg pCC 0x08) [recordBytes, txBytes] [] ∧ t.place.due = none ∧ t.place.seq = (s.place.seq + 1) % 256 ∧ t.place.runs = s.place.runs + 1 ∧ t.fld pPLACE PLACE.RUN_STAT_KIND = kind ∧ t.fld pPLACE PLACE.RUN_STAT_RUN_TICK = s.tick % 2 ^ 16 ∧ t.flag pPLACE PLACE.PG_EVT_RUN_DONE = true ∧ (t.own n).seq = (s.place.seq + 1) % 256 ∧ t.place.cutPools = [] := by
  obtain ⟨t, e, hdone, hno, hkind', htick, hevt, hseq, hcuts⟩ := s.placementRun_shows n hdue hkind hfw hpl
  have hplace := congrArg Prod.snd hno
  exact ⟨t, e, Frame.of e (execPlacementRun_touches (by simp [inRegs]) (by simp [inRegs]) (by simp [inRegs]) (by simp [inRegs]) (inRegs_page (by simp)) (by simp [inRegs]) (by simp [inRegs]) (by clear * -; unfold inRegs; decide +revert) (by clear * -; unfold inRegs; decide +revert) (by clear * -; unfold inRegs; decide +revert) (by clear * -; unfold inRegs; decide +revert) (by clear * -; unfold inRegs; decide +revert) (by simp [inRegs]) (by simp [inRegs])) (execPlacementRun_stores (inBytes_store recordBytes (by simp)) (inBytes_store txBytes (by simp))) (execPlacementRun_answers), hdone, congrArg Prod.fst hplace, congrArg Prod.snd hplace, hkind', htick, hevt, hseq, hcuts⟩

/-- A CONTRACT frame. -/
theorem contractReceive_takes (s : State) (entry : Fin 64) (hfw : s.fw = true) (htyp : s.rxType entry.val = 8) (hchk : s.stChecks (rxfAt entry.val) 512 = true) (hpl : s.places = true) (hsrc : s.rxSrc entry.val < 64) :
    Leads (exec (.contractReceive entry) s) fun t => s.Frame t [pBANK, pPLACE] [(pSTORE, 0x10), (pSTORE, 0x28), (pSTORE, 0x2C), (pSTORE, 0x30), (pSTORE, 0x0C), (pFLEET, 0x64)] [recordBytes] [] ∧ (t.nodeLed (s.rxSrc entry.val)).hold = bitAt (byteAt (s.rxPayload entry.val) 5) 6 ∧ (t.nodeLed (s.rxSrc entry.val)).orphanAt = none ∧ (t.led (8 * s.rxSrc entry.val)).attached = bitAt (byteAt (s.rxPayload entry.val) 5) 0 := by
  obtain ⟨t, e, hshows⟩ := State.contractReceive_shows hfw htyp hchk hpl
  exact ⟨t, e, Frame.of e (execContractReceive_touches entry (by simp [inRegs]) (by simp [inRegs]) (by simp [inRegs]) (inRegs_page (by simp)) (by simp [inRegs]) (by simp [inRegs]) (inRegs_page (by simp)) (by simp [inRegs])) (execContractReceive_stores entry (inBytes_store recordBytes (by simp))) (execContractReceive_answers entry), hshows⟩

/-- A TELEM frame. -/
theorem telemReceive_takes (s : State) (entry : Fin 64) (hfw : s.fw = true) (htyp : s.rxType entry.val = 6) (hchk : s.stChecks (rxfAt entry.val) 512 = true) (hpl : s.places = true) (hsrc : s.rxSrc entry.val < 64) (hrd : s.fld pFLEET FLEET.RXQ_RD_INDEX = entry.val) :
    Leads (exec (.telemReceive entry) s) fun t => s.Frame t [pBANK] [(pSTORE, 0x10), (pSTORE, 0x28), (pSTORE, 0x2C), (pSTORE, 0x30), (pSTORE, 0x0C), (pFLEET, 0x64)] [recordBytes, energyBytes] [] ∧ t.fld pFLEET FLEET.RXQ_RD_INDEX = (entry.val + 1) % 64 ∧ (t.led (8 * s.rxSrc entry.val)).therm = bitsOf (byteAt (s.rxPayload entry.val) 10) 3 2 ∧ t.stNat (0x90000 + 128 * s.rxSrc entry.val) 8 = (s.stNat (0x90000 + 128 * s.rxSrc entry.val) 8 + numAt (s.rxPayload entry.val) 12 4) % 2 ^ 64 := by
  obtain ⟨t, e, hshows⟩ := State.telemReceive_shows hfw htyp hchk hpl hsrc hrd
  exact ⟨t, e, Frame.of e (execTelemReceive_touches entry (by simp [inRegs]) (by simp [inRegs]) (by simp [inRegs]) (inRegs_page (by simp)) (by simp [inRegs]) (by simp [inRegs]) (by simp [inRegs])) (execTelemReceive_stores entry (inBytes_store recordBytes (by simp)) (inBytes_store energyBytes (by simp))) (execTelemReceive_answers entry), hshows⟩

/-- Demand of a port without a sink. -/
theorem demandCompute_idle (s : State) (soc : Nat) (n : Port) (hfw : s.fw = true) (hst : s.ccState n ≠ .attachedSrc) :
    Leads (exec (.demandCompute [(n, soc)]) s) fun t => s.Frame t [pBANK] [(pSTORE, 0x10), (pSTORE, 0x28), (pSTORE, 0x2C), (pSTORE, 0x30), (pSTORE, 0x0C)] [recordBytes] [] ∧ t.place.soc.get n = min soc 255 ∧ t.place.demand.get n = 0 := by
  let v : State := s.modPlace fun p => { p with soc := p.soc.set n.val (min soc 255) n.isLt }
  have e : exec (.demandCompute [(n, soc)]) s = .next (v.forPorts State.demandStep) := (execDemandCompute_eq _ s).trans (congrArg Host.Outcome.next (if_pos hfw))
  obtain ⟨hsoc, u, hu, ceil, hd⟩ := v.demands_show n
  refine ⟨_, e, Frame.of e (execDemandCompute_touches [(n, soc)] (by simp [inRegs]) (by simp [inRegs]) (by simp [inRegs]) (inRegs_page (by simp)) (by simp [inRegs]) (by simp [inRegs])) (execDemandCompute_stores [(n, soc)] (inBytes_store recordBytes (by simp))) (execDemandCompute_answers [(n, soc)]), ?_, ?_⟩
  · rw [hsoc]
    exact Vector.getElem_set_self _
  · rw [hd, State.demandOf_idle]
    · rfl
    · rw [show u.ccState n = s.ccState n from congrArg Prod.fst hu]
      exact hst

/-- Demand of a source without a contract. -/
theorem demandCompute_attached (s : State) (n : Port) (hfw : s.fw = true) (hst : s.ccState n = .attachedSrc) (hmism : (s.port n).fw.mism = false) (hsnap : s.snapValid n = false) :
    Leads (exec (.demandCompute []) s) fun t => s.Frame t [pBANK] [(pSTORE, 0x10), (pSTORE, 0x28), (pSTORE, 0x2C), (pSTORE, 0x30), (pSTORE, 0x0C)] [recordBytes] [] ∧ s.ownD n ≤ t.place.demand.get n ∧ t.place.demand.get n ≤ 65535 := by
  have e : exec (.demandCompute []) s = .next (s.forPorts State.demandStep) := (execDemandCompute_eq _ s).trans (congrArg Host.Outcome.next (if_pos hfw))
  obtain ⟨-, u, hu, ceil, hd⟩ := s.demands_show n
  obtain ⟨hcc, hport, haos, hown, -⟩ : u.ccState n = s.ccState n ∧ u.port n = s.port n ∧ u.aos = s.aos ∧ u.ownD n = s.ownD n ∧ True := by
    simp only [State.demandView, Prod.mk.injEq] at hu
    exact ⟨hu.1, hu.2.1, hu.2.2.1, hu.2.2.2.1, trivial⟩
  have hle := State.ownD_le_demandOf (hcc.trans hst) (by rw [hport]; exact hmism) ((State.snapValid_of_aos haos n).trans hsnap) ceil
  have htop := s.ownD_le n
  refine ⟨_, e, Frame.of e (execDemandCompute_touches [] (by simp [inRegs]) (by simp [inRegs]) (by simp [inRegs]) (inRegs_page (by simp)) (by simp [inRegs]) (by simp [inRegs])) (execDemandCompute_stores [] (inBytes_store recordBytes (by simp))) (execDemandCompute_answers []), ?_, ?_⟩
  · rw [hd]
    omega
  · rw [hd]
    exact Nat.min_le_left _ _

/-- A node whose lease has run out. -/
theorem nodeOrphaned_marks (s : State) (node : Fin 64) (hfw : s.fw = true) (hpl : s.places = true) (hnone : (s.nodeLed node.val).orphanAt = none) (hlast : 0 < (s.nodeLed node.val).last) (hlate : (s.nodeLed node.val).last + s.leaseTk + 2 ≤ s.tick) :
    Leads (exec (.nodeOrphaned node) s) fun t => s.Frame t [pPLACE] [] [] [] ∧ (t.nodeLed node.val).orphanAt = some s.tick ∧ t.mapBit pPLACE PLACE.ORPHANS_NODES node.val = true ∧ t.flag pPLACE PLACE.PG_EVT_NODE_ORPHANED = true := by
  let u : State := (s.modNode node.val fun l => { l with orphanAt := some s.tick }).raise pPLACE PLACE.PG_EVT_NODE_ORPHANED
  have e : exec (.nodeOrphaned node) s = .next (u.setMapBit pPLACE PLACE.ORPHANS_NODES node.val true) := by
    refine congrArg Host.Outcome.next ((if_pos hfw).trans ?_)
    exact if_pos ⟨hpl, by rw [hnone]; rfl, hlast, hlate⟩
  have hnode : (u.nodeLed node.val).orphanAt = some s.tick := by
    rw [State.nodeLed_raise, State.nodeLed_modNode_same (s.node_nodeLed _)]
  have hevt : u.flag pPLACE PLACE.PG_EVT_NODE_ORPHANED = true := by simp -implicitDefEqProofs (disch := (clear * -; decide +revert)) [u, State.fld_put_same, State.flag_put_same, State.flag_raise]
  clear_value u
  refine ⟨_, e, Frame.of e (execNodeOrphaned_touches node (inRegs_page (by simp))) (execNodeOrphaned_stores node) (execNodeOrphaned_answers node), ?_, State.mapBit_setMapBit _ rfl rfl node.isLt, ?_⟩
  · rw [State.nodeLed_setMapBit]
    exact hnode
  · rw [← hevt]
    simp -implicitDefEqProofs (disch := (clear * -; decide +revert)) [State.setMapBit]

/-- An orphan's commitments. -/
theorem nodeCommitRelease_falls (s : State) (node : Fin 64) (t0 : Nat) (hfw : s.fw = true) (horph : (s.nodeLed node.val).orphanAt = some t0) (hhold : (s.nodeLed node.val).hold = false) (hrel : (s.nodeLed node.val).released = false) (hlate : t0 + s.confirmTk + 3000 ≤ s.tick) (hplaced : s.recPlaced (8 * node.val) = true) :
    Leads (exec (.nodeCommitRelease node) s) fun t => s.Frame t [] [] [recordBytes] [] ∧ (t.nodeLed node.val).released = true ∧ t.recCommit (8 * node.val) = (if s.portAttached (8 * node.val) then s.recFloor (8 * node.val) else s.portD (8 * node.val)) ∧ t.recGrant (8 * node.val) = s.recGrant (8 * node.val) ∧ (t.led (8 * node.val)).pend = false := by
  let u : State := s.modNode node.val fun l => { l with released := true }
  have e : exec (.nodeCommitRelease node) s = .next ((List.range 8).foldl (fun t n => t.releaseStep (8 * node.val + n)) u) := by
    refine congrArg Host.Outcome.next ((if_pos hfw).trans ?_)
    dsimp only
    rw [horph]
    exact if_neg (by simp [hhold, hrel, hlate])
  have hnode : (u.nodeLed node.val).released = true := by rw [State.nodeLed_modNode_same (s.node_nodeLed _)]
  have hbase : u.recPlaced (8 * node.val) = s.recPlaced (8 * node.val) ∧ u.portAttached (8 * node.val) = s.portAttached (8 * node.val) ∧ u.recFloor (8 * node.val) = s.recFloor (8 * node.val) ∧
      u.portD (8 * node.val) = s.portD (8 * node.val) ∧ u.recGrant (8 * node.val) = s.recGrant (8 * node.val) := ⟨rfl, rfl, rfl, rfl, rfl⟩
  clear_value u
  obtain ⟨hp, hatt, hfl, hD, hgr⟩ := hbase
  obtain ⟨hcommit, hgrant, hpend⟩ := State.releaseStep_shows (hp.trans hplaced)
  have hleave : ∀ (t : State) (n : Nat), 0 < n → n ≤ 7 → (t.releaseStep (8 * node.val + n)).recWord (recAt (8 * node.val)) 2 = t.recWord (recAt (8 * node.val)) 2 ∧
      (t.releaseStep (8 * node.val + n)).led (8 * node.val) = t.led (8 * node.val) := by
    intro t n h0 h7
    obtain ⟨h1, h2, -⟩ := State.releaseStep_leaves (s := t) (i := 8 * node.val + n) (j := 8 * node.val) (by omega) (by omega) (by omega) 0
    exact ⟨h1, h2⟩
  have hword := foldl_range_first (m := 7) (fun t => t.recWord (recAt (8 * node.val)) 2) (f := fun t n => t.releaseStep (8 * node.val + n)) (fun t n h0 h7 => (hleave t n h0 h7).1) u
  have hled := foldl_range_first (m := 7) (fun t => t.led (8 * node.val)) (f := fun t n => t.releaseStep (8 * node.val + n)) (fun t n h0 h7 => (hleave t n h0 h7).2) u
  have hnodes := foldl_leaves (fun t => t.nodeLed node.val) (f := fun t n => t.releaseStep (8 * node.val + n)) (fun t n => t.nodeLed_releaseStep _ _) (List.range 8) u
  refine ⟨_, e, Frame.of e (execNodeCommitRelease_touches node) (execNodeCommitRelease_stores node (inBytes_store recordBytes (by simp))) (execNodeCommitRelease_answers node), ?_, ?_, ?_, ?_⟩
  · exact (congrArg NodeLed.released hnodes).trans hnode
  · rw [← hatt, ← hfl, ← hD, ← hcommit, State.recCommit, State.recCommit]
    exact congrArg (fun w => bitsOf w 16 16) hword
  · rw [← hgr, ← hgrant, State.recGrant, State.recGrant]
    exact congrArg (fun w => bitsOf w 0 16) hword
  · exact (congrArg Led.pend hled).trans hpend

/-- The mirror of the ledger. -/
theorem ledgerMirrorSend_sends (s : State) (m : Nat) (hfw : s.fw = true) (hact : s.acting = .manager) (hrole : s.role ≠ .solo) (hto : s.mirrorTo = some m) (hm : m < 128) (hst : s.stNat (txfAt 40 + 269) 1 ≠ 1) :
    Leads (exec (.ledgerMirrorSend) s) fun t => s.Frame t [pBANK] ([(pFLEET, 0x10), (pSTORE, 0x10), (pSTORE, 0x28), (pSTORE, 0x2C), (pSTORE, 0x30), (pSTORE, 0x0C)] ++ everyLinkReg 0x34 ++ everyLinkReg 0x30) [txBytes] [] ∧ t.place.dirty = [] ∧ frType (t.stRead (txfAt 40) 8) = 0xD ∧ frDest (t.stRead (txfAt 40) 8) = m ∧ t.stNat (txfAt 40 + 12) 4 = s.place.runs % 2 ^ 32 := by
  have e : exec (.ledgerMirrorSend) s = .next (((s.mirrorParts m).mirrorDirty m).modPlace fun p => { p with dirty := [] }) := by
    show execLedgerMirrorSend s = _
    unfold execLedgerMirrorSend State.policy
    rw [if_pos hfw]
    dsimp only
    rw [if_neg (by simp [hact, hrole]), hto]
    simp only [State.mirrorDirty, State.mirrorParts, State.mirrorPart]
  obtain ⟨htyp, -, hdest, -, -, -⟩ := State.sendEngine_reads (s := s) (40 + 0) 0xD false m 0 0 (payload := s.mirrorPart 0) (by rw [State.length_mirrorPart]; decide)
  have hruns := State.sendEngine_payload (s := s) (40 + 0) 0xD false m 0 0 (payload := s.mirrorPart 0) (i := 4) (n := 4) (by rw [State.length_mirrorPart]; decide)
    (by rw [State.length_mirrorPart]; decide)
  obtain ⟨u, hu⟩ : ∃ u, u = s.mirrorParts m := ⟨_, rfl⟩
  have hparts : u.stRead (txfAt 40) 8 = (s.sendEngine (40 + 0) 0xD false m 0 0 (s.mirrorPart 0)).stRead (txfAt 40) 8 ∧
      u.stRead (txfAt 40 + 8 + 4) 4 = (s.sendEngine (40 + 0) 0xD false m 0 0 (s.mirrorPart 0)).stRead (txfAt 40 + 8 + 4) 4 := by
    rw [hu]
    exact ⟨foldl_range_first (m := 7) (fun t => t.stRead (txfAt 40) 8) (fun t q h0 h7 => (State.sendLater_leaves (40 + q) _ _ _ _ _ _ (by omega) (by omega)).1) s,
      foldl_range_first (m := 7) (fun t => t.stRead (txfAt 40 + 8 + 4) 4) (fun t q h0 h7 => (State.sendLater_leaves (40 + q) _ _ _ _ _ _ (by omega) (by omega)).2) s⟩
  obtain ⟨v, hv⟩ : ∃ v, v = u.mirrorDirty m := ⟨_, rfl⟩
  have hdirty : v.stRead (txfAt 40) 8 = u.stRead (txfAt 40) 8 ∧ v.stRead (txfAt 40 + 8 + 4) 4 = u.stRead (txfAt 40 + 8 + 4) 4 := by
    rw [hv]
    exact ⟨foldl_leaves (fun t => t.stRead (txfAt 40) 8) (fun t a => (State.sendLater_leaves 48 _ _ _ _ _ _ (by decide) (by decide)).1) _ _,
      foldl_leaves (fun t => t.stRead (txfAt 40 + 8 + 4) 4) (fun t a => (State.sendLater_leaves 48 _ _ _ _ _ _ (by decide) (by decide)).2) _ _⟩
  rw [← hu, ← hv] at e
  clear hu hv
  have hread : ∀ a n, (v.modPlace fun p => { p with dirty := [] }).stRead a n = v.stRead a n := fun _ _ => rfl
  refine ⟨_, e, Frame.of e (execLedgerMirrorSend_touches (by simp [inRegs]) (by simp [inRegs]) (by simp [inRegs]) (by simp [inRegs]) (inRegs_page (by simp)) (by simp [inRegs]) (by simp [inRegs]) (by clear * -; unfold inRegs; decide +revert) (by clear * -; unfold inRegs; decide +revert)) (execLedgerMirrorSend_stores (inBytes_store txBytes (by simp))) (execLedgerMirrorSend_answers), rfl, ?_, ?_, ?_⟩
  · rw [hread, hdirty.1, hparts.1]
    exact htyp
  · rw [hread, hdirty.1, hparts.1]
    exact hdest.trans (Nat.mod_eq_of_lt hm)
  · rw [State.stNat, show txfAt 40 + 12 = txfAt 40 + 8 + 4 from rfl, hread, hdirty.2, hparts.2]
    rw [show 40 + 0 = 40 from rfl] at hruns
    rw [hruns, State.mirrorPart_runs, leNat_leBytes]
    rfl

/-- A part of the mirror. -/
theorem ledgerReceive_takes (s : State) (entry : Fin 64) (k : Fin 64) (hfw : s.fw = true) (htyp : s.rxType entry.val = 0xD) (hchk : s.stChecks (rxfAt entry.val) 512 = true) (hpl : s.places = false) (hfirst : byteAt (s.rxPayload entry.val) 0 = 0) :
    Leads (exec (.ledgerReceive entry) s) fun t => s.Frame t [pBANK] [(pSTORE, 0x10), (pSTORE, 0x28), (pSTORE, 0x2C), (pSTORE, 0x30), (pSTORE, 0x0C), (pFLEET, 0x64), (pFLEET, 0x3C)] [recordBytes, (0x68000, 0x68200)] [] ∧ t.recCommit (64 * (byteAt (s.rxPayload entry.val) 1 % 8) + k.val) = numAt (s.rxPayload entry.val) (8 + 2 * k.val) 2 ∧ t.place.mirRun = numAt (s.rxPayload entry.val) 4 4 ∧ t.place.mirTick = s.tick ∧ bitAt t.place.mirMask (byteAt (s.rxPayload entry.val) 1 % 8) = true := by
  obtain ⟨t, e, hshows⟩ := s.ledgerReceive_shows k hfw htyp hchk hpl hfirst
  exact ⟨t, e, Frame.of e (execLedgerReceive_touches entry (by simp [inRegs]) (by simp [inRegs]) (by simp [inRegs]) (inRegs_page (by simp)) (by simp [inRegs]) (by simp [inRegs]) (by simp [inRegs]) (by simp [inRegs])) (execLedgerReceive_stores entry (inBytes_store recordBytes (by simp)) (inBytes_store (0x68000, 0x68200) (by simp))) (execLedgerReceive_answers entry), hshows⟩

/-- A record of an own port that does not check. -/
theorem ledgerRebuild_writes (s : State) (rec : Fin 512) (w0 w1 : Word) (hfw : s.fw = true) (hpl : s.places = true) (hbad : s.stBadIn (recAt rec.val) 32 = true) (hown : rec.val / 8 = s.node) (hsnap : s.snapValid (Fin.ofNat 8 rec.val) = false) (hgrant : (s.own (Fin.ofNat 8 rec.val)).grant < 65536) :
    Leads (exec (.ledgerRebuild rec (some (w0, w1))) s) fun t => s.Frame t [pBANK] [(pPLACE, 0x10), (pSTORE, 0x10), (pSTORE, 0x28), (pSTORE, 0x2C), (pSTORE, 0x30), (pSTORE, 0x0C)] [recordBytes] [] ∧ t.recWord (recAt rec.val) 0 = w0.toNat ∧ t.recWord (recAt rec.val) 1 = w1.toNat ∧ t.recGrant rec.val = (s.own (Fin.ofNat 8 rec.val)).grant ∧ t.flag pPLACE PLACE.PG_EVT_LEDGER_REBUILT = true ∧ t.recOk (recAt rec.val) = true := by
  obtain ⟨t, e, hshows⟩ := State.ledgerRebuild_shows w0 w1 hfw hpl hbad hown hsnap hgrant
  exact ⟨t, e, Frame.of e (execLedgerRebuild_touches rec (some (w0, w1)) (by simp [inRegs]) (by simp [inRegs]) (by simp [inRegs]) (by simp [inRegs]) (inRegs_page (by simp)) (by simp [inRegs]) (by simp [inRegs])) (execLedgerRebuild_stores rec (some (w0, w1)) (inBytes_store recordBytes (by simp))) (execLedgerRebuild_answers rec (some (w0, w1))), hshows⟩

/-- Settles O51: each clause by a lemma of its own. -/
theorem placementOnTheManagerCompletes : Obligations.PlacementOnTheManagerCompletes := by
  unfold Obligations.PlacementOnTheManagerCompletes
  exact ⟨placeCmdRun_asks, placementRun_runs, contractReceive_takes, telemReceive_takes, demandCompute_idle, demandCompute_attached, nodeOrphaned_marks, nodeCommitRelease_falls, ledgerMirrorSend_sends, ledgerReceive_takes, ledgerRebuild_writes⟩

end Sys2Proof.Machine
end
